-- ==== Sys2Proof/Word.lean ====
section
/-! DEFINITION. The word types of the SK960: bytes, register words and the 64 B sector, the unit of the pool that is never a mixture of old and new (R24). -/
namespace Sys2Proof

/-- A byte. -/
abbrev Byte := BitVec 8
/-- A 64 B aligned sector of the pool (R24). -/
abbrev Sector := BitVec 512

end Sys2Proof
end

