-- ==== Sys2Proof/Syntax.lean ====
section
/-! DEFINITION. The commands of the SK960 (spec/opcode_table.json) and the types of their operands. The table gives no operands: they are what the rule of each row says the step acts on, written here from that rule (log entry 5). -/
namespace Sys2Proof

/-- The blocks of Table 2-1. -/
inductive Blk where
  | top | clk | pwr | seq | evf | recd | nvs | wdn | svc | hp | qe | mov | xlt | tier | pan | dmc | flm | hrv | twn
  | cmn | cip | hsh | mgt | dbg
deriving DecidableEq, Repr

/-- The block code of Table 2-1. -/
def Blk.code : Blk → Nat
  | .top => 1 | .clk => 2 | .pwr => 3 | .seq => 4 | .evf => 5 | .recd => 6 | .nvs => 7 | .wdn => 8 | .svc => 9
  | .hp => 10 | .qe => 11 | .mov => 12 | .xlt => 13 | .tier => 14 | .pan => 15 | .dmc => 16 | .flm => 17 | .hrv => 18
  | .twn => 19 | .cmn => 20 | .cip => 21 | .hsh => 22 | .mgt => 23 | .dbg => 24

/-- A page of the control space: a block and an instance of it (R35). -/
structure Page where
  blk : Blk
  inst : Nat
deriving DecidableEq, Repr

/-- Who makes a control access (R43, R46). -/
inductive Requester where
  | warden
  | svc (k : Fin 6)
  | host
  | debug
deriving DecidableEq, Repr

/-- The REQUESTER code of Table 2-3. -/
def Requester.code : Requester → Nat
  | .warden => 0 | .svc k => k.val + 1 | .host => 8 | .debug => 9

/-- A host port, HP0-HP7. -/
abbrev Port := Fin 8
/-- A link of a port (Table 4-1). -/
abbrev Link := Fin 4
/-- A logical device slot of a port. -/
abbrev Ld := Fin 16
/-- A data mover. -/
abbrev MoverId := Fin 64
/-- A PAN slice. -/
abbrev Slice := Fin 16
/-- A DRAM channel. -/
abbrev Chan := Fin 12
/-- A flash channel. -/
abbrev FChan := Fin 48
/-- A twin-link bundle. -/
abbrev Bundle := Fin 4
/-- A claim group. -/
abbrev Grp := Fin 16
/-- An Ethernet port. -/
abbrev EPort := Fin 4
/-- A service cluster. -/
abbrev Cluster := Fin 6
/-- A power domain. -/
abbrev Dom := Fin 64
/-- A submission queue entry as QE reads it (Table 5-3), 64 bytes. -/
abbrev SqEntry := BitVec 512

/-- What a translation cache entry is the copy of (Table 3-6). -/
inductive XKey where
  | window (w : Fin 4096)
  | extent (e : Fin 262144)
  | region (r : BitVec 24)
  | dir (r : BitVec 24) (e : Nat)
  | block (r : BitVec 24) (b : Nat)
  | registration (i : BitVec 22)
deriving DecidableEq, Repr

/-- A window descriptor (Table 3-3). -/
structure WindowDesc where
  valid : Bool
  foreign : Bool
  w : Bool
  r : Bool
  state : BitVec 2
  tenant : BitVec 12
  region : BitVec 24
  regionGen : BitVec 16
  dpaBase : BitVec 64
  length : BitVec 64
  regionOff : BitVec 64
  rkey : BitVec 32
  node : BitVec 18
  conn : BitVec 24
  check : BitVec 32
deriving DecidableEq, Repr

/-- The configuration items of a function that Tables 4-3 and 4-4 and R99-R119 name. -/
inductive ConfigItem where
  | vendorId | deviceId | revisionId | classCode | subVendorId | subId | bar0 | bar2 | msixControl
  | cxlCaps | memoryStatus | gpf | ldCount | hdmCaps | devCaps | aerCap
  | msixTable | msixPba | functionMap | flexBus | registerLocator (device : Bool) | doe | cdat (k : BitVec 8) | other (reg : BitVec 12)
deriving DecidableEq, Repr

/-- The four event logs of a logical device (R121). -/
inductive EvLog where
  | informational | warning | failure | fatal
deriving DecidableEq, Repr

/-- What a Dynamic Capacity Add asks the warden for (R78). -/
structure ExtentReq where
  r : Bool
  w : Bool
  dpaBase : BitVec 64
  length : BitVec 64
  region : BitVec 24
  regionOff : BitVec 64
deriving DecidableEq, Repr

/-- Whose held writes are released: a host port, a queue, a Cemanor connection, the twin link (R20). -/
inductive WriteSrc where
  | port (p : Port)
  | queue (q : BitVec 20)
  | conn (c : BitVec 20)
  | mirror
deriving DecidableEq, Repr

/-- The pan errors of Table 8-6. The sector is bit 0 of the line's two sectors. -/
inductive PanErr where
  | correctable (sector : Fin 2)
  | uncorrectable (sector : Fin 2)
  | tagCopies
  | dirtyCopies
  | lockCopies
  | tagFail (sector : Fin 2)
deriving DecidableEq, Repr

/-- A requester of pan reads, as the stride trackers know it (R241): an LD function on a link, or a connection. -/
inductive ReadReq where
  | ld (port : Port) (ld : Ld)
  | conn (c : BitVec 20)
deriving DecidableEq, Repr


/-- Header of a twin record as it arrives (Table 12-1), with its bundle and whether its GCM tag passed. -/
structure TwinHdr where
  bundle : Bundle
  tagOk : Bool
  classM : Bool
  retx : Bool
  grp : Grp
  seq : BitVec 64
  addr : BitVec 64
  stamp : BitVec 64
deriving DecidableEq, Repr

/-- The answer to a READ_REQ or FETCH (Table 12-2); tagsOk: the integrity tags of the sectors pass; ownOk: those of this twin's own copy, with which a compare holds it (R408), pass. -/
inductive TwinResp where
  | data (sectors : List Sector) (poison : BitVec 64) (tagsOk : BitVec 64) (ownOk : Bool)
  | notResident
  | notInSync
deriving DecidableEq, Repr

/-- One unit of a resync stream (R404): its sectors, or the ZERO marker; last unit of its block. -/
inductive ResyncUnit where
  | zero
  | data (sectors : List Sector) (poison : BitVec 64)
deriving DecidableEq, Repr

/-- What a HELLO reports (Table 12-2): the partner's unit, identity digest, stored epochs, fresh format, PREF_MASK, whether it was serving every group, in sync, its FLM state. -/
structure HelloBody where
  unit : Fin 2
  digest : BitVec 512
  epochs : List (BitVec 56)
  fresh : Bool
  pref : BitVec 16
  inSync : Bool
  readOnly : Bool
  incomplete : Bool
deriving DecidableEq, Repr

/-- A path of a connection (chapter 13): sending port and sublink, remote address, next hop, VLAN tag, UDP source port. -/
structure CmnPath where
  eport : EPort
  sublink : Fin 8
  ipv6 : Bool
  ip : BitVec 128
  mac : BitVec 48
  vlan : Option (BitVec 16)
  srcPort : BitVec 16
deriving DecidableEq, Repr

/-- The fields of a connection descriptor that the warden writes (Table 13-3), with its paths. -/
structure ConnDesc where
  init : Bool
  tenant : BitVec 12
  peerNode : BitVec 18
  peerConn : BitVec 24
  paths : List (Fin 8 × CmnPath)
  holdMax : BitVec 8
  dataLog2 : BitVec 4
  txWindow : BitVec 16
  msgWindow : BitVec 16
deriving DecidableEq, Repr

/-- The keys of one phase of a connection (chapter 13, Keys): 256-bit key and 64-bit salt of each direction. -/
structure ConnKeys where
  keyTx : BitVec 256
  keyRx : BitVec 256
  saltTx : BitVec 64
  saltRx : BitVec 64
deriving DecidableEq, Repr

/-- A Cemanor packet (Tables 13-1, 13-2): where it arrived or leaves, the header fields, and the decrypted payload in its parts. tagOk: the GCM tag verifies; fcsOk, csumOk: the Ethernet frame check and the UDP checksum pass; ce: marked by the network. -/
structure Packet where
  eport : EPort
  sublink : Fin 8
  fcsOk : Bool
  csumOk : Bool
  udpLen : Nat
  ce : Bool
  ver : BitVec 4
  first : Bool
  final : Bool
  flagged : Bool
  phase : Bool
  conn : BitVec 24
  plen : BitVec 16
  psn : BitVec 32
  msn : BitVec 32
  rkey : BitVec 32
  offset : BitVec 40
  total : BitVec 24
  claim : BitVec 64
  moff : BitVec 24
  status : BitVec 8
  grp : Grp
  tagOk : Bool
  poison : BitVec 128
  enable : BitVec 64
  data : List (BitVec 8)
deriving DecidableEq, Repr

/-- What the domain manager asks in CONN_CTL (R426, R479): open a connection with descriptor and keys, close one, install the keys of the other phase, give the node ID. -/
inductive ConnReq where
  | openConn (conn : BitVec 20) (d : ConnDesc) (k : ConnKeys)
  | close (conn : BitVec 20)
  | rekey (conn : BitVec 20) (k : ConnKeys)
  | node (id : BitVec 18)
deriving DecidableEq, Repr

/-- How a training of a channel ends (R275). -/
inductive TrainRes where
  | pass
  | fail (step : Fin 9)
deriving DecidableEq, Repr

/-- What a retraining step leads to (R276). -/
inductive RetrainRes where
  | more | done | verifyFails
deriving DecidableEq, Repr

/-- What the addressed DRAM holds (R284): a pool sector in a frame or in a mirror frame, a bittern unit, a table of the warden, or nothing; command: not a read but a write, an activate or a refresh, which brings no data (R278). -/
inductive DramUse where
  | frame (sector : Nat)
  | mirror (sector : Nat)
  | bittern (unit : Nat)
  | table
  | unused
  | command
deriving DecidableEq, Repr

/-- An address of a DRAM read: channel-local address, row, what it holds. -/
structure DramAddr where
  loc : BitVec 41
  row : BitVec 18
  use : DramUse
deriving DecidableEq, Repr

/-- The bits in which a burst differs from the codeword stored (R280): of the 40 stored symbols, those of device d at [64d + 63:64d], and of the four virtual symbols of the integrity tag it is held against. -/
structure Burst where
  err : BitVec 640
  tag : BitVec 64
deriving DecidableEq, Repr

/-- What a DRAM read brings: the burst and that of the retry, should there be one (R284); or its command fails the re-drive parity check, the reissued one too (R278). -/
inductive DramRes where
  | burst (first again : Burst)
  | parityFail (again : Bool)
deriving DecidableEq, Repr

/-- How a mover ends one MOVE: all good, a parity error of the mover's own datapath (R183), or a source sector whose integrity tag fails (R178). -/
inductive MoveEnd where
  | good | parity | sourceTag
deriving DecidableEq, Repr

/-- A LUN as bring-up finds it (Table 10-1, R304, R307): chip enable, number, whether it has every item of Table 10-1, its geometry, its factory bad blocks. -/
structure LunInfo where
  ce : Fin 16
  lun : Fin 4
  ok : Bool
  spare : Nat
  pages : Nat
  blocks : Nat
  qlc : Bool
  bad : List Nat
deriving DecidableEq, Repr

/-- How a bring-up of a flash channel ends (R306). -/
inductive BringupRes where
  | fail
  | pass (luns : List LunInfo)
deriving DecidableEq, Repr

/-- The step of Table 10-9 that delivers a unit; the partner's answer at step 5. -/
inductive ReadStep where
  | hard | retry | soft | parity
  | fetched (sectors : List Sector) (poison : BitVec 64)
  | unrecoverable
deriving DecidableEq, Repr

/-- A pin that SEQ reads back (R565). -/
inductive SeqPin where
  | railEn (n : Fin 32) | devEn (k : Fin 8) | faultN
deriving DecidableEq, Repr

/-- The MCTP bindings (Table 19-4). -/
inductive Binding where
  | smbus | i3c | pcieVdm
deriving DecidableEq, Repr

/-- The fuse fields (Table 15-4). -/
inductive FuseField where
  | rootHash | ownerHash | ownerRevoked | ownerOnly | svnWdn | svnSvc | idSeed | devSecret | debugMax
deriving DecidableEq, Repr

/-- What PAIR_CTL performs (Table 19-7). -/
inductive PairOp where
  | aloneOk | pairAccept | acceptLoss
  | handoff (give : Bool) (group : Grp)
deriving DecidableEq, Repr

/-- What POWER_CTL performs (Table 19-7). -/
inductive PowerOp where
  | shutdown | powerUp | powerDown | faultClr
  | railFaultClear (mask : BitVec 32)
deriving DecidableEq, Repr

/-- The PLLs that lock to REF_INT (R533). -/
inductive Pll where
  | dram (pair : Fin 6)
  | host (port : Port)
  | eth (eport : EPort)
  | bundle (b : Bundle)
deriving DecidableEq, Repr

/-- The levels of the straps (Table 20-2). -/
structure Straps where
  bifurc : BitVec 16
  mgmt : BitVec 3
  boot : BitVec 2
  unit : Fin 2
deriving DecidableEq, Repr

/-- What R591 looks at in a Taraivi request: role, tag, COUNTER in its halves. -/
structure TaraiviHdr where
  role : BitVec 4
  tagOk : Bool
  boot : BitVec 32
  count : BitVec 32
deriving DecidableEq, Repr

/-- What TENANT_CTL sets (Table 19-7): a tenant's quotas in tier blocks, or the binding of a logical device slot. -/
inductive TenantReq where
  | quota (tenant : BitVec 12) (t1 t2 : BitVec 32)
  | ldBind (port : Port) (ld : Ld) (bound : Bool) (tenant : BitVec 12)
deriving DecidableEq, Repr

/-- Whose cores wait for an event (R543). -/
inductive Waiter where
  | warden
  | cluster (k : Cluster)
deriving DecidableEq, Repr

/-- What a wrapped key is delivered for (Table 15-5, R591): the manager key, the pair key, the key of a Taraivi role and direction with its salt. -/
inductive KeyUse where
  | manager | pair
  | role (r : BitVec 4) (tx : Bool)
deriving DecidableEq, Repr

/-- A wrapped key (R483): use, SHA3-512 of the identity public key and delivery counter of its AAD, the encrypted bytes with tag. -/
structure WrappedKey where
  use : KeyUse
  ident : BitVec 512
  counter : BitVec 64
  wrapped : List (BitVec 8)
deriving DecidableEq, Repr

/-- An access of a host to BAR0 or BAR2 that is no write of a doorbell of a mapped page (R139, R145, R147): a write to a doorbell page; a read of a page, and of the status page of BAR2, at an offset, of 8 bytes or of 4. -/
inductive DbAccess where
  | write
  | read (off : BitVec 12) (wide : Bool)
  | status (off : BitVec 12) (wide : Bool)
  | memStatus
deriving DecidableEq, Repr

/-- The fields of a queue context that the warden writes (Table 5-1). -/
structure QueueReq where
  valid : Bool
  sclass : BitVec 2
  weight : BitVec 8
  tenant : BitVec 12
  sqLog2 : BitVec 5
  cqLog2 : BitVec 5
  maxInflight : BitVec 8
  ldSlot : Ld
  port : Port
  ringHandle : BitVec 40
  sqOff : BitVec 64
  cqOff : BitVec 64
  vector : BitVec 11
  coalCount : BitVec 8
  coalTime : BitVec 8
  cmdTimeout : BitVec 20
  dbPage : BitVec 20
deriving DecidableEq, Repr

/-- A page-map entry that the warden writes (R138). -/
structure PageReq where
  typ : BitVec 2
  vecEn : Bool
  vector : BitVec 11
  id : BitVec 20
deriving DecidableEq, Repr

/-- What the warden does on a mailbox request it accepts: the spec gives no request codes, so the request's meaning is an operand (log entry 5). -/
inductive WardenAct where
  | none
  | write (off : BitVec 32) (size : Nat) (data : BitVec 64)
  | configure (nodeId : BitVec 18) (nodeValid : Bool) (userBlks sysBlks hrvReserve roMin : Nat) (format : Bool)
  | slotWrite (slot : BitVec 8) (bytes : List (BitVec 8))
  | slotErase (slot : BitVec 8)
  | spillRead (seq : BitVec 32) (count : Nat)
  /-- the warden sets up a queue pair, and a page of BAR0 (R65, R136, R138) -/
  | queueContext (qid : BitVec 20) (ctx : QueueReq)
  | pageMap (port : Port) (ld : Ld) (page : BitVec 20) (entry : PageReq)
  /-- the warden allows or forbids error injection (R112), sets BAR0 size (1 MiB to 4 GiB) and Subsystem ID (Table 4-3) -/
  | inject (on : Bool)
  | pci (bar0 : Fin 13) (subId : BitVec 16)
deriving DecidableEq, Repr

/-- One command per row of the table of operations and events. -/
inductive Instr where
  | controlWrite (req : Requester) (addr : BitVec 32) (size : Nat) (data : BitVec 64)
  | unmappedAccess (req : Requester) (off : BitVec 32) (write : Bool) (data : BitVec 64)
  | sizeViolAccess (req : Requester) (off : BitVec 32) (size : Nat) (write : Bool) (data : BitVec 64)
  | evtStatClear (req : Requester) (page : Page) (mask : BitVec 32) (occ : BitVec 32)
  | evtMaskWrite (req : Requester) (page : Page) (value : BitVec 32)
  | evtForce (req : Requester) (page : Page) (mask : BitVec 32)
  | errStatClear (req : Requester) (page : Page) (mask : BitVec 32)
  | stageArm (req : Requester) (page : Page) (epoch : BitVec 16) (view : Bool)
  | stageDisarm (req : Requester) (page : Page) (epoch : BitVec 16) (view : Bool)
  | lock (req : Requester) (page : Page)
  | quiesce (req : Requester) (page : Page)
  | quiesceRelease (req : Requester) (page : Page)
  | stageSingleChange (req : Requester) (off : BitVec 32) (size : Nat) (data : BitVec 64)
  | stageCommit (req : Requester) (epoch : BitVec 16)
  | stageApply (page : Page)
  | stageTimeoutExpiry
  | stageRestore (page : Page)
  | stageStuck (page : Page)
  | coldResetRequest (req : Requester)
  | warmReset
  | descriptorRefetch (key : XKey)
  | xltMissFill (key : XKey)
  | xltInval (req : Requester) (scope : BitVec 4) (index : BitVec 24)
  | xltInvalComplete
  | xltRevoke (req : Requester) (key : BitVec 32)
  | registrationSweep
  | windowBind (wid : Fin 4096) (desc : WindowDesc)
  | hdmDecoderCommit (port : Port) (ld : Ld) (n : Fin 32) (base : BitVec 64) (len : BitVec 64)
  | hdmDecoderUncommit (port : Port) (ld : Ld) (n : Fin 32)
  | linkTrainingDone (port : Port) (link : Link) (cxl : Bool) (flit256 : Bool) (mld : Bool) (rate : BitVec 4) (width : BitVec 5)
  | linkDown (port : Port) (link : Link)
  | hotReset (port : Port) (link : Link)
  | perstAssert (port : Port) (link : Link)
  | flr (port : Port) (ld : Ld)
  | configRequest (port : Port) (ld : Ld) (mgmt : Bool) (item : ConfigItem) (write : Bool) (data : BitVec 32)
  | memEnable (port : Port) (ld : Ld) (value : Bool)
  | memrd (port : Port) (ld : Ld) (dpa : BitVec 64) (tag : BitVec 16)
  | memrddata (port : Port) (ld : Ld) (dpa : BitVec 64) (tag : BitVec 16)
  | memspecrd (port : Port) (ld : Ld) (dpa : BitVec 64)
  | meminv (port : Port) (ld : Ld) (dpa : BitVec 64) (tag : BitVec 16)
  | meminvnt (port : Port) (ld : Ld) (dpa : BitVec 64) (tag : BitVec 16)
  | memwr (port : Port) (ld : Ld) (dpa : BitVec 64) (data : Sector) (poison : Bool) (tag : BitVec 16)
  | memwrptl (port : Port) (ld : Ld) (dpa : BitVec 64) (data : Sector) (enable : BitVec 64) (poison : Bool) (tag : BitVec 16)
  | memwrCmp (port : Port) (ld : Ld) (tag : BitVec 16)
  | hpFwdTimeout (port : Port) (ld : Ld) (tag : BitVec 16)
  | viralReceived (port : Port) (link : Link) (own : Bool)
  | gpfPhase1 (port : Port) (ld : Ld)
  | gpfPhase2 (port : Port) (ld : Ld)
  | gpfPhase2Complete (port : Port) (ld : Ld)
  | getEventRecords (port : Port) (ld : Ld) (log : EvLog)
  | clearEventRecords (port : Port) (ld : Ld) (log : EvLog) (handles : List (BitVec 16))
  | getEventInterruptPolicy (port : Port) (ld : Ld)
  | setEventInterruptPolicy (port : Port) (ld : Ld) (log : EvLog) (enable : Bool) (vector : BitVec 11)
  | getFwInfo (port : Port) (ld : Ld)
  | transferFw (port : Port) (ld : Ld)
  | activateFw (port : Port) (ld : Ld)
  | getTimestamp (port : Port) (ld : Ld)
  | setTimestamp (port : Port) (ld : Ld) (value : BitVec 64)
  | getSupportedLogs (port : Port) (ld : Ld)
  | getLog (port : Port) (ld : Ld) (cel : Bool)
  | identifyMemoryDevice (port : Port) (ld : Ld)
  | getPartitionInfo (port : Port) (ld : Ld)
  | getHealthInfo (port : Port) (ld : Ld)
  | getAlertConfig (port : Port) (ld : Ld)
  | setAlertConfig (port : Port) (ld : Ld) (value : BitVec 96)
  | getPoisonList (port : Port) (ld : Ld)
  | injectPoison (port : Port) (ld : Ld) (dpa : BitVec 64)
  | clearPoison (port : Port) (ld : Ld) (dpa : BitVec 64) (data : Sector)
  | getDcConfig (port : Port) (ld : Ld)
  | getDcExtentList (port : Port) (ld : Ld)
  | addDcResponse (port : Port) (ld : Ld) (accepted : List Nat)
  | releaseDc (port : Port) (ld : Ld) (extents : List Nat)
  | mailboxUnsupported (port : Port) (ld : Ld) (opcode : BitVec 16)
  | fmIdentify
  | backgroundOperationStatus
  | getResponseMessageLimit
  | getLdInfo (port : Port)
  | getLdAllocations (port : Port)
  | setLdAllocations (port : Port) (ld : Ld) (units : Nat)
  | getQosControl (port : Port)
  | setQosControl (port : Port) (value : BitVec 64)
  | getQosStatus (port : Port)
  | getQosAllocatedBw (port : Port)
  | setQosAllocatedBw (port : Port) (ld : Ld) (value : BitVec 8)
  | getQosBwLimit (port : Port)
  | setQosBwLimit (port : Port) (ld : Ld) (value : BitVec 8)
  | getDcdInfo
  | getHostDcRegionConfig (port : Port) (ld : Ld)
  | setDcRegionConfig (port : Port) (ld : Ld) (region : Fin 8) (base : BitVec 64) (len : BitVec 64)
  | getDcRegionExtentLists (port : Port) (ld : Ld)
  | initiateDynamicCapacityAdd (port : Port) (ld : Ld) (ext : Nat) (desc : ExtentReq)
  | initiateDynamicCapacityRelease (port : Port) (ld : Ld) (ext : Nat)
  | sqDoorbell (port : Port) (ld : Ld) (dbPage : BitVec 20) (tail : BitVec 16)
  | cqDoorbell (port : Port) (ld : Ld) (dbPage : BitVec 20) (head : BitVec 16) (arm : Bool)
  | doorbellDrop (port : Port) (ld : Ld) (dbPage : BitVec 20) (acc : DbAccess)
  | flushDoorbell (port : Port) (ld : Ld) (dbPage : BitVec 20) (slot : BitVec 9) (size : Nat)
  | copy (qid : BitVec 20) (entry : SqEntry)
  | zero (qid : BitVec 20) (entry : SqEntry)
  | persist (qid : BitVec 20) (entry : SqEntry)
  | raise (qid : BitVec 20) (entry : SqEntry)
  | evict (qid : BitVec 20) (entry : SqEntry)
  | sluice (qid : BitVec 20) (entry : SqEntry)
  | sluiceCancel (qid : BitVec 20) (entry : SqEntry)
  | regionCreate (qid : BitVec 20) (entry : SqEntry)
  | regionGrow (qid : BitVec 20) (entry : SqEntry)
  | regionDelete (qid : BitVec 20) (entry : SqEntry)
  | regionSet (qid : BitVec 20) (entry : SqEntry)
  | regOpen (qid : BitVec 20) (entry : SqEntry)
  | revoke (qid : BitVec 20) (entry : SqEntry)
  | rwrite (qid : BitVec 20) (entry : SqEntry)
  | rread (qid : BitVec 20) (entry : SqEntry)
  | abort (qid : BitVec 20) (entry : SqEntry)
  | nop (qid : BitVec 20) (entry : SqEntry)
  | unknownOpcode (qid : BitVec 20) (entry : SqEntry)
  | commandCompletion (qid : BitVec 20) (cmdId : BitVec 16)
  | cmdTimeout (qid : BitVec 20) (cmdId : BitVec 16)
  | coalTimeExpiry (qid : BitVec 20)
  | persistBarrierComplete (id : Nat)
  | queueEnable (req : Requester) (qid : BitVec 20)
  | queuePause (req : Requester) (qid : BitVec 20)
  | queueReset (req : Requester) (qid : BitVec 20)
  | queueResetDone (qid : BitVec 20)
  | queueDisable (req : Requester) (qid : BitVec 20)
  | queueDisableDone (qid : BitVec 20)
  | moverStepClaim (mover : MoverId) (qid : BitVec 20) (cmdId : BitVec 16) (parity : Bool)
  | moverMoveDone (mover : MoverId) (how : MoveEnd)
  | parkedStepResume (qid : BitVec 20) (cmdId : BitVec 16) (step : Nat)
  | moverOffline (req : Requester) (mover : MoverId) (value : Bool)
  | fillUnitDone (pbn : Nat) (unit : Fin 16) (priority : Bool)
  | fillUnitFail (pbn : Nat) (unit : Fin 16)
  | tierReplacement (pbn : Nat)
  | tierReleaseDone (pbn : Nat)
  | writeBackStart (pbn : Nat) (unit : Fin 16)
  | writeBackDone (pbn : Nat) (unit : Fin 16)
  | heldWriteRelease (src : WriteSrc)
  | readPathPoint (id : Nat)
  | twinPathTimeout (id : Nat)
  | readDeadline (id : Nat)
  | sluiceEligible (tenant : BitVec 12) (tag : BitVec 32) (idx : Nat)
  | sluiceDue (tenant : BitVec 12) (tag : BitVec 32) (idx : Nat)
  | sluiceLifeExpiry (tenant : BitVec 12) (tag : BitVec 32) (idx : Nat)
  | sluiceHoldExpiry (tenant : BitVec 12) (tag : BitVec 32) (idx : Nat)
  | clean (req : Requester)
  | cleanInv (req : Requester)
  | inv (req : Requester)
  | panLock (req : Requester)
  | unlock (req : Requester)
  | panMaintDone
  | panDisable (req : Requester) (slice : Slice)
  | panEnable (req : Requester) (slice : Slice)
  | panDrainDone (slice : Slice)
  | panClearingDone (slice : Slice)
  | panInvalidateDone (slice : Slice)
  | discard (req : Requester) (slice : Slice)
  | panScrub (slice : Slice) (setIx : Fin 8192) (way : Fin 24) (err : PanErr)
  | trackerExpiry (req : ReadReq)
  | dmcTrainingDone (ch : Chan) (res : TrainRes)
  | oscillatorCheck (ch : Chan) (rank : Fin 4) (drift : BitVec 16)
  | retrainStep (ch : Chan) (res : RetrainRes)
  | zqCalibration (ch : Chan) (rank : Fin 4)
  | wcrcAlert (ch : Chan) (rank : Fin 4) (sub : Bool) (wr : Nat)
  | dramReadDone (ch : Chan) (rank : Fin 4) (sub : Bool) (addr : DramAddr) (issued : Nat) (res : DramRes)
  | ecsPass (ch : Chan) (rank : Fin 4) (sub : Bool) (dev : Fin 10) (count : BitVec 16)
  | trefi2Tick (ch : Chan) (busy : BitVec 16)
  | refreshRatePoll (ch : Chan) (rank : Fin 4) (x2 : Bool) (hot : Bool)
  | rankPowerDown (ch : Chan) (rank : Fin 4)
  | srIdleEntry (ch : Chan)
  | selfRefreshExitDone (ch : Chan) (verify : Bool)
  | patrolScrubRead (ch : Chan) (rank : Fin 4) (sub : Bool) (addr : DramAddr) (issued : Nat) (res : DramRes)
  | flmBringupDone (ch : FChan) (res : BringupRes)
  | mapPageReadDone (mpi : Nat) (first : Bool) (second : Bool)
  | journalPageTimer
  | journalPageDurable (pass : Bool)
  | checkpointStart
  | checkpointValid (pass : Bool)
  | flashProgramDone (glun : BitVec 12) (block : BitVec 16) (pass : Bool)
  | stripeRowTimeout (stripe : Nat)
  | rakeStart (glun : BitVec 12)
  | rakeStep (glun : BitVec 12)
  | sourceErase (glun : BitVec 12) (block : BitVec 16)
  | flashEraseDone (glun : BitVec 12) (block : BitVec 16) (pass : Bool)
  | victim (req : Requester) (glun : BitVec 12) (block : BitVec 16)
  | verifyPage (stripe : Nat) (glun : BitVec 12) (block : BitVec 16) (corrected : Option (BitVec 16)) (last : Bool)
  | flashReadDone (tun : Nat) (step : ReadStep) (word : Nat) (corr : Nat)
  | suspendTimeout (glun : BitVec 12)
  | flashScrub (glun : BitVec 12) (block : BitVec 16) (corrected : Option (BitVec 16))
  | staticWearLevel
  | lunLost (glun : BitVec 12)
  | reserveBlockReplace (glun : BitVec 12) (block : BitVec 16) (bad : Bool)
  | flmReadOnly
  | roClear (req : Requester)
  | replayDone
  | healthUpdate
  | pwrfailNFall
  | pwrfail
  | shutdown (req : Requester)
  | harvestWriteoutDone
  | bankExhausted
  | harvestEnd
  | steptest (req : Requester)
  | steptestPeriod
  | steptestDone (cMf : BitVec 32) (esr : BitVec 32) (fallMv : Nat) (residMv : Nat)
  | rehearse (req : Requester)
  | rehearsePeriod
  | rehearsalDone (powerMw : Nat) (rate : BitVec 32)
  | restoreDone (bad : List Nat)
  | reserveBlockRelease (glun : BitVec 12) (block : BitVec 16)
  | acceptLoss (req : Requester)
  | aliveLoss
  | aliveRestore
  | hello (hdr : TwinHdr) (body : HelloBody)
  | twinIdle (bundle : Bundle)
  | mirror (hdr : TwinHdr) (poison : BitVec 64) (sectors : List Sector) (tags : List (BitVec 64))
  | twinAck (hdr : TwinHdr)
  | twinNack (hdr : TwinHdr)
  | digest (hdr : TwinHdr) (first : Nat) (last : Nat) (digest : BitVec 64)
  | tide (hdr : TwinHdr) (value : Nat)
  | twinState (hdr : TwinHdr) (pairState : BitVec 4) (inSync : Bool) (flmState : BitVec 3)
  | claim (hdr : TwinHdr)
  | release (hdr : TwinHdr) (groups : BitVec 16)
  | handoff (hdr : TwinHdr)
  | readReq (hdr : TwinHdr)
  | twinReadResp (hdr : TwinHdr) (resp : TwinResp)
  | fetch (hdr : TwinHdr)
  | fetchResp (hdr : TwinHdr) (resp : TwinResp)
  | harvestBegin (hdr : TwinHdr)
  | twinTime (hdr : TwinHdr) (serveCount : Nat)
  | brineList (hdr : TwinHdr) (pbns : List Nat)
  | resyncData (hdr : TwinHdr) (unit : ResyncUnit)
  | resyncAck (hdr : TwinHdr)
  | recordGapTimeout
  | bundleDown (bundle : Bundle)
  | linkLost (loopback : BitVec 4)
  | digestInterval
  | takeoverClaimSample (high1 : Bool) (high2 : Bool)
  | epochStoreDone (pass : Bool)
  | claimStuck
  | arbitrationSample (high : Bool)
  | loserGroupTake
  | pairFormationStart
  | formationTimeout
  | formWaitExpiry (high1 : Bool) (high2 : Bool)
  | rsmScanDone
  | handoffGive (req : Requester) (group : Grp)
  | handoffRequest (req : Requester) (group : Grp)
  | handoffDrained (group : Grp)
  | handoffTimeout (group : Grp)
  | reclaimHoldExpiry
  | aloneOk (req : Requester)
  | pairAccept (req : Requester)
  | cmnWrite (pkt : Packet)
  | cmnWriteMasked (pkt : Packet)
  | cmnRead (pkt : Packet)
  | cmnWriteCmp (pkt : Packet)
  | cmnReadResp (pkt : Packet)
  | cmnAck (pkt : Packet) (ackPsn : BitVec 32) (ceCount : BitVec 32)
  | cmnNack (pkt : Packet) (ranges : List (Nat × Nat))
  | cmnNotice (pkt : Packet) (status : BitVec 8)
  | cmnProbe (pkt : Packet) (path : Fin 8)
  | cmnRekeyReady (pkt : Packet) (phase : Bool)
  | cmnClose (pkt : Packet) (status : BitVec 8)
  | nonCemanorFrame (eport : EPort) (sublink : Fin 8) (len : Nat)
  | pfcPauseReceived (eport : EPort) (prio : BitVec 3) (on : Bool)
  | ackTimer (conn : BitVec 20)
  | nackDelayExpiry (conn : BitVec 20)
  | msgTimeout (conn : BitVec 20) (msn : BitVec 32)
  | initTimeout (conn : BitVec 20) (msn : BitVec 32)
  | rtoExpiry (conn : BitVec 20) (psn : BitVec 32)
  | probeTimer (conn : BitVec 20) (path : Fin 8)
  | connCloseTimeout (conn : BitVec 20)
  | connOpen (req : Requester) (conn : BitVec 20)
  | connClose (req : Requester) (conn : BitVec 20)
  | rekeyInstall (req : Requester) (conn : BitVec 20)
  | cipherLaneFail (lane : Fin 24)
  | gcmEncrypt (req : Requester)
  | gcmDecrypt (req : Requester)
  | xtsEncrypt (req : Requester)
  | xtsDecrypt (req : Requester)
  | cipJobDone
  | keyLoad (req : Requester) (sel : BitVec 4)
  | sha3256 (req : Requester) (eng : Fin 5)
  | sha3384 (req : Requester) (eng : Fin 5)
  | sha3512 (req : Requester) (eng : Fin 5)
  | shake256 (req : Requester) (eng : Fin 5)
  | mlDsa87Verify (req : Requester) (eng : Fin 5)
  | mlDsa87Sign (req : Requester) (eng : Fin 5)
  | identityPublicKeyExport (req : Requester) (eng : Fin 5)
  | hshJobDone (eng : Fin 5) (iterations : Nat)
  | mailboxRequest (req : Requester) (slot : Fin 8) (opcode : BitVec 8) (seq : BitVec 8) (len : BitVec 16)
  | mailboxAnswer (slot : Fin 8) (status : BitVec 8) (act : WardenAct) (rsp : List (BitVec 8))
  | wdtFeed (req : Requester)
  | wardenWatchdogExpiry
  | lockstepMismatch
  | svcWatchdogExpiry (cluster : Cluster)
  | coldBoot (fastBad : BitVec 7)
  | trialTimeout
  | uartImage (img : List (BitVec 8))
  | commissioningKey (key : List (BitVec 8)) (wrapped : WrappedKey)
  | fuseProgram (field : FuseField) (bits : Nat)
  | commitSvn
  | actReady (version : BitVec 16)
  | actRunning
  | actTimeout
  | debugChallenge
  | debugResponse (level : BitVec 2) (owner : Bool) (key : List (BitVec 8)) (signature : List (BitVec 8))
  | creditReturn (src : Nat) (rsv : Bool)
  | spill
  | rateWindowEnd
  | alarmWindowEnd (key : Option (BitVec 16 × BitVec 8))
  | alarmRetry
  | chanDataWrite (req : Requester) (value : BitVec 32)
  | chanAck (req : Requester) (chan : BitVec 9) (occ : Bool)
  | alertReadbackFault (k : Fin 2)
  | alertFaultClear (req : Requester) (mask : BitVec 2)
  | clearUpto (req : Requester) (upto : BitVec 32)
  | refclkLost (b : Bool)
  | refclkGood (b : Bool)
  | rootPllLock
  | rootPllUnlock
  | relockTimeout
  | rootVcoFail
  | pllUnlock (pll : Pll)
  | clkDivCommit (req : Requester)
  | ckoutCfgWrite (req : Requester) (k : Fin 4) (value : BitVec 32)
  | ckoutReadbackFault (k : Fin 4)
  | ckoutFaultClear (req : Requester) (mask : BitVec 4)
  | timeSet (req : Requester) (value : BitVec 64)
  | domainModeWrite (req : Requester) (dom : Dom) (value : BitVec 32)
  | domainIdleEntry (dom : Dom)
  | domainEntryEnd (dom : Dom)
  | domainOn (dom : Dom)
  | domainWakeFail (dom : Dom)
  | pwrDomReset (req : Requester) (mask : BitVec 64)
  | adcScan (core0 : List Nat) (core1 : List Nat) (ref0 : Bool) (ref1 : Bool) (dev : List (Nat × Nat)) (pf : Bool)
  | rampTimeout (row : Fin 40)
  | railOffTimeout (row : Fin 40)
  | stuckOnTimeout (row : Fin 40)
  | peerFault
  | enableReadbackFault (pin : SeqPin)
  | tempMeasure (values : List Int)
  | powerUp (req : Requester)
  | powerDown (req : Requester)
  | faultClr (req : Requester)
  | railFaultClear (req : Requester) (mask : BitVec 32)
  | railDataWrite (req : Requester) (word : Fin 8) (value : BitVec 32)
  | tableCommit (req : Requester)
  | store (req : Requester)
  | storeDone (readback : Bool)
  | tokenRefill
  | reload (req : Requester)
  | slotWrite (req : Requester)
  | slotErase (req : Requester)
  | setEndpointId (bind : Binding) (eid : BitVec 8)
  | getEndpointId (bind : Binding)
  | getEndpointUuid (bind : Binding)
  | getMctpVersionSupport (bind : Binding) (msgType : BitVec 8)
  | getMessageTypeSupport (bind : Binding)
  | getVendorDefinedMessageSupport (bind : Binding)
  | mctpMessageDrop (bind : Binding) (msgType : BitVec 8)
  | getTid (bind : Binding)
  | setTid (bind : Binding) (tid : BitVec 8)
  | getPldmVersion (bind : Binding) (pldmType : BitVec 8)
  | getPldmTypes (bind : Binding)
  | getPldmCommands (bind : Binding) (pldmType : BitVec 8)
  | setEventReceiver (bind : Binding) (enable : Bool) (eid : BitVec 8)
  | getPdrRepositoryInfo (bind : Binding)
  | getPdr (bind : Binding) (handle : BitVec 32)
  | getSensorReading (bind : Binding) (sensor : BitVec 16)
  | getStateSensorReadings (bind : Binding) (sensor : BitVec 16)
  | pollForPlatformEventMessage (bind : Binding)
  | queryDeviceIdentifiers (bind : Binding)
  | getFirmwareParameters (bind : Binding)
  | requestUpdate (bind : Binding)
  | passComponentTable (bind : Binding) (comp : BitVec 16)
  | updateComponent (bind : Binding) (comp : BitVec 16) (size : Nat)
  | firmwareDataReceived (offset : Nat) (chunk : List (BitVec 8))
  | activateFirmware (bind : Binding)
  | pldmGetStatus (bind : Binding)
  | cancelUpdateComponent (bind : Binding)
  | cancelUpdate (bind : Binding)
  | pldmUnsupported (bind : Binding) (pldmType : BitVec 8) (cmd : BitVec 8)
  | identify (t : TaraiviHdr)
  | attest (t : TaraiviHdr) (nonce : BitVec 256)
  | getStatus (t : TaraiviHdr)
  | getTelemetry (t : TaraiviHdr) (sensors : List (BitVec 16))
  | readRecords (t : TaraiviHdr) (seq : BitVec 32) (count : Nat)
  | getConfig (t : TaraiviHdr) (offs : List (BitVec 32))
  | setConfig (t : TaraiviHdr) (writes : List (BitVec 32 × BitVec 64)) (store : Bool)
  | clearRecords (t : TaraiviHdr) (upto : BitVec 32)
  | fwTransfer (t : TaraiviHdr) (imgType : BitVec 8) (offset : Nat) (chunk : List (BitVec 8)) (last : Bool)
  | fwActivate (t : TaraiviHdr) (imgType : BitVec 8)
  | pairCtl (t : TaraiviHdr) (op : PairOp)
  | powerCtl (t : TaraiviHdr) (op : PowerOp)
  | storeCtl (t : TaraiviHdr) (reload : Bool)
  | keyDeliver (t : TaraiviHdr) (wrapped : WrappedKey)
  | connCtl (t : TaraiviHdr) (op : ConnReq)
  | tenantCtl (t : TaraiviHdr) (op : TenantReq)
  | alarmAck (corr : BitVec 64)
  | porNRise (straps : Straps)
  | porNFall
  | deviceRailsStart
  | deviceRailRetry
  | resetInN
  | junctionThrottle (celsius : BitVec 8)
  | junctionShutdown
  | thermtrip
  | controlRead (req : Requester) (addr : BitVec 32) (size : Nat)
  | msixUnmask (port : Port) (ld : Ld) (mgmt : Bool) (vector : BitVec 11)
  | pllReacquire (pll : Pll)
  | waitForEvent (who : Waiter)
  | faultNHigh
  | faultNHoldExpiry
  | resetInNRelease
  | perstDeassert (port : Port) (link : Link)
  | opTimeout (glun : BitVec 12)
  | svcDramViol (cluster : Cluster) (addr : BitVec 64) (write : Bool)
  | twinLinkSignal (bundles : BitVec 4)
  | sublinkUp (eport : EPort) (sublink : Fin 8)
  | sublinkDown (eport : EPort) (sublink : Fin 8)
deriving DecidableEq, Repr

end Sys2Proof
end

