-- ==== Sys2Proof/Config.lean ====
section
/-! DEFINITION. What the spec leaves open or takes from a named standard that it does not give. None of these has a body: a statement about a machine that uses one holds whatever its value (log entries 4 and 6). -/
namespace Sys2Proof.Config

/-- The n-th value the spec does not fix, as a number (log entry 4). -/
opaque freeNat : Nat → Nat
/-- The n-th value the spec does not fix, as a bit string. -/
opaque freeBits (w : Nat) : Nat → BitVec w
/-- The n-th choice the spec does not fix. -/
opaque freeBool : Nat → Bool

/-- The frame from which on TIER looks for a free one for a block, and the mirror frame of a block of twin brine (log entry 17). -/
opaque frameOf : Nat → Nat
/-- The page of DRAM that holds leaf k of a region's block map (log entry 29). -/
opaque leafPage : Nat → Nat → Nat
/-- A byte of a queue context that is reserved for QE: its reads are unspecified (Table 5-1). -/
opaque ctxByte : Nat → Nat → Byte
/-- The rank of a channel that a channel-local address lies in: R271 does not say (log entry 112). -/
opaque dramRank : Nat → Nat
/-- The temperature reading of a DRAM channel at a time, in 0.125 °C: no command gives it (R274; log entry 74). -/
opaque chanTemp : Nat → Nat → Int
/-- The training image of a channel in a slot 0x02 written by SLOT_WRITE: DMC_TOPO, rate, temperature; none where its digest fails. The slot's layout is not given (log entry 74). -/
opaque trainSlot : List Byte → Nat → Option (Nat × Nat × Int)
/-- The rows that a slot 0x03 lists for post-package repair; its layout is not given (log entry 74). -/
opaque pprSlot : List Byte → List Nat

/-- The blocks that the parity log and the metadata pool take of so many raw blocks: Table 10-4 gives them for one configuration only (log entry 21). -/
opaque ftlPools : Nat → Nat

/-- A device, and the symbols of it, whose change makes a codeword of an error pattern that the distance of the DRAM code does not cover; none where there is none (R280, R282; log entry 102). -/
opaque rsNear : Option Nat → BitVec 640 → BitVec 64 → Bool → Option (Fin 10 × BitVec 64)
/-- Whether a subchannel has a read queued at a time (R290; log entry 103). -/
opaque dramReads : Nat → Nat → Bool
/-- The place of a copy of a map page within its channel (R312; log entry 104). -/
opaque mapPlace : Nat → Nat
/-- Pages of the parity log for so many raw blocks (R328; log entry 21). -/
opaque parityPages : Nat → Nat
/-- Bytes of an Ethernet port's receive buffer (R417, R456; log entry 105). -/
opaque rxBuffer : Nat

/-- SHA3-256, SHA3-384, SHA3-512 by digest length in bytes (FIPS 202, named by R465). -/
opaque sha3 (len : Nat) : List Byte → List Byte
/-- SHAKE256 with an output length in bytes. -/
opaque shake256 (len : Nat) : List Byte → List Byte
/-- AES-256-GCM: key, IV, AAD, plaintext to ciphertext and tag. -/
opaque gcmSeal : List Byte → List Byte → List Byte → List Byte → List Byte × List Byte
/-- AES-256-GCM opening: key, IV, AAD, ciphertext, tag to plaintext, none when the tag fails. -/
opaque gcmOpen : List Byte → List Byte → List Byte → List Byte → List Byte → Option (List Byte)
/-- AES-256-XTS encryption and decryption: key, tweak, data. -/
opaque xtsEnc : List Byte → List Byte → List Byte → List Byte
opaque xtsDec : List Byte → List Byte → List Byte → List Byte
/-- ML-DSA-87 verification: public key, message, signature. -/
opaque mldsaVerify : List Byte → List Byte → List Byte → Bool
/-- ML-DSA-87 signing with the identity key that grows from a seed: seed, message, randomness. -/
opaque mldsaSign : Nat → List Byte → Nat → List Byte
/-- The identity public key that grows from a seed (R466, R482). -/
opaque identityKey : Nat → List Byte
/-- The unwrapping of a wrapped key (R483): the key it is wrapped under, AAD, wrapped bytes; none when the tag fails. -/
opaque unwrapKey : List Byte → List Byte → List Byte → Option (List Byte)
/-- In what order, and with what gaps, the warden puts the tables and areas whose place R618 leaves free (log entry 29). -/
opaque tableBase : Nat → Nat
/-- Records that the twin link carries at once without an acknowledgement (R205; log entry 99). -/
opaque twinCredits : Nat
/-- Whether the warden's protection map, as written at a boot, opens a 2 MiB page of DRAM to service cores (log entry 30). -/
opaque protOpen : Nat → Nat → Bool
/-- Where the PBA of an LD function stands in its BAR2, in steps of 8 bytes (Table 4-5; log entry 99). -/
opaque ldPba : Nat
/-- The version of the boot ROM (Table 15-12). -/
opaque romVersion : Nat

end Sys2Proof.Config
end

