-- ==== Sys2Proof/Machine/Bits.lean ====
section
/-! DEFINITION. Bit fields, byte order and the checks computed over bytes: CRC-32C (R67, R512), CRC-8 (R69) and the 64-bit CRC of the integrity tag (R461). -/
namespace Sys2Proof.Machine

/-- The field of width w at bit lo. -/
def bits (v lo w : Nat) : Nat := v >>> lo % 2 ^ w

/-- v with the field of width w at bit lo replaced by x. -/
def setBits (v lo w x : Nat) : Nat := v - (bits v lo w) * 2 ^ lo + (x % 2 ^ w) * 2 ^ lo

/-- One bit as a Bool. -/
def bit (v k : Nat) : Bool := v.testBit k

/-- A Bool as 0 or 1. -/
def b2n (b : Bool) : Nat := if b then 1 else 0

/-- The low n bytes of v, least significant first. -/
def le : Nat → Nat → List Byte
  | 0, _ => []
  | n + 1, v => BitVec.ofNat 8 v :: le n (v / 256)

/-- The low n bytes of v, most significant first (network byte order). -/
def be (n v : Nat) : List Byte := (le n v).reverse

/-- The number whose bytes are given least significant first. -/
def ofLe : List Byte → Nat
  | [] => 0
  | b :: r => b.toNat + 256 * ofLe r

/-- Bytes lo to lo + n - 1 of a byte string, little-endian. -/
def field (l : List Byte) (lo n : Nat) : Nat := ofLe ((l.drop lo).take n)

/-- Pad with zero bytes, or cut, to n bytes. -/
def padTo (n : Nat) (l : List Byte) : List Byte := (l ++ List.replicate n 0).take n

/-- Eight shifts of a reflected CRC. -/
def crcShift (poly : Nat) : Nat → Nat → Nat
  | 0, c => c
  | k + 1, c => crcShift poly k (if c % 2 = 1 then c / 2 ^^^ poly else c / 2)

/-- A reflected CRC over bytes. -/
def crcRefl (poly : Nat) (init : Nat) (l : List Byte) : Nat :=
  l.foldl (fun c b => crcShift poly 8 (c ^^^ b.toNat)) init

/-- CRC-32C: reflected polynomial 0x82F63B78, all-ones start and final complement. -/
def crc32c (l : List Byte) : Nat := crcRefl 0x82F63B78 0xFFFFFFFF l ^^^ 0xFFFFFFFF

/-- Eight shifts of a CRC taken most significant bit first, of width w. -/
def crcShiftL (w poly : Nat) : Nat → Nat → Nat
  | 0, c => c
  | k + 1, c => crcShiftL w poly k (if c.testBit (w - 1) then (c * 2) % 2 ^ w ^^^ poly else (c * 2) % 2 ^ w)

/-- A CRC of width w taken most significant bit first, over bytes. -/
def crcMsb (w poly init : Nat) (l : List Byte) : Nat :=
  l.foldl (fun c b => crcShiftL w poly 8 (c ^^^ b.toNat <<< (w - 8))) init

/-- Saturating increment of a w-bit counter by n. -/
def satAdd (w v n : Nat) : Nat := min (2 ^ w - 1) (v + n)

/-- The bits set in v among the first n, lowest first. -/
def setBitsOf (n v : Nat) : List Nat := (List.range n).filter fun k => v.testBit k

/-- The signed value of a w-bit field. -/
def signedOf (w v : Nat) : Int := if v < 2 ^ (w - 1) then v else (v : Int) - (2 : Int) ^ w

/-- A signed value as a w-bit field. -/
def ofSigned (w : Nat) (x : Int) : Nat := (x % (2 : Int) ^ w).toNat

end Sys2Proof.Machine
end

