-- ==== Sys2Proof/Machine/Fld.lean ====
section
/-! DEFINITION. What a register field of the control space is: its place in the pages of a block, its type and marking, its reset value; and where it stands in the register file. -/
namespace Sys2Proof

/-- The pages the device has (Table 2-1). -/
def Blk.pages : Blk → Nat
  | .svc => 6 | .hp => 8 | .mov => 64 | .pan => 16 | .dmc => 12 | .flm => 49 | .cmn => 5
  | .top | .clk | .pwr | .seq | .evf | .recd | .nvs | .wdn | .qe | .xlt | .tier | .hrv | .twn | .cip | .hsh | .mgt | .dbg => 1

/-- Whether a page exists (R37). -/
def Page.present (p : Page) : Bool := p.inst < p.blk.pages

/-- Every page of the device, 177 of them. -/
def allBlks : List Blk :=
  [.top, .clk, .pwr, .seq, .evf, .recd, .nvs, .wdn, .svc, .hp, .qe, .mov, .xlt, .tier, .pan, .dmc, .flm, .hrv, .twn,
   .cmn, .cip, .hsh, .mgt, .dbg]
def allPages : List Page := allBlks.flatMap fun b => (List.range b.pages).map fun i => ⟨b, i⟩

/-- The block of a code. -/
def Blk.ofCode (n : Nat) : Option Blk := allBlks.find? fun b => b.code == n

/-- The page an offset of the control space falls on, or none (R35, R37). -/
def Page.ofOff (off : Nat) : Option Page :=
  if off < 0x0100_0000 then none else
  let n := (off - 0x0100_0000) / 0x0010_0000
  let i := (off - 0x0100_0000) % 0x0010_0000 / 0x1000
  match Blk.ofCode n with
  | some b => if i < b.pages then some ⟨b, i⟩ else none
  | none => none

/-- The first offset of a page (R35). -/
def Page.base (p : Page) : Nat := 0x0100_0000 + p.blk.code * 0x0010_0000 + p.inst * 0x1000

end Sys2Proof

namespace Sys2Proof.Machine

/-- The field types of the register tables and of Table 2-5. -/
inductive Acc where
  | ro | rw | rw1c | w1s | wo | rws | rwp | rwl
deriving DecidableEq, Repr

/-- The reset value of a field: one value, one per entry of an indexed register, or one per twin unit. -/
inductive Rst where
  | val (n : Nat)
  | tbl (l : List Nat)
  | byUnit (unit0 unit1 : Nat)
deriving DecidableEq, Repr

/-- How the stored value of a write is limited ("writes of 0 store 1", "writes above CLEAN_HI store CLEAN_HI", ...). -/
inductive Clamp where
  | none
  | lower (n : Nat)
  | upper (n : Nat)
  | both (lo hi : Nat)
  /-- not above the field at the given place of the same page -/
  | atMost (off lo width : Nat)
  /-- not below the field at the given place of the same page -/
  | atLeast (off lo width : Nat)
deriving DecidableEq, Repr

/-- A register field: block and instances that have it, offset, array shape, bits, type, marking. -/
structure Fld where
  blk : Blk
  p0 : Nat := 0
  p1 : Nat := 0
  off : Nat
  stride : Nat := 0
  cnt : Nat := 1
  lo : Nat
  width : Nat
  acc : Acc
  /-- "warden only" -/
  warden : Bool := false
  /-- stageable -/
  stage : Bool := false
  /-- a command register to which R53 does not apply -/
  free : Bool := false
  clamp : Clamp := .none
  reset : Rst := .val 0
deriving DecidableEq, Repr

/-- The first bit of a page in the control space, counted in bits (R35). -/
def pageBit (p : Page) : Nat := (0x1000 + p.blk.code * 256 + p.inst) * 4096 * 8

/-- The bit address of field f, entry idx, in page p: its key in the register file. -/
def Fld.key (f : Fld) (p : Page) (idx : Nat) : Nat := pageBit p + (f.off + f.stride * idx) * 8 + f.lo

/-- The value a field holds when nothing has written it. -/
def Fld.resetAt (f : Fld) (unit idx : Nat) : Nat :=
  match f.reset with
  | .val n => n
  | .tbl l => l.getD idx 0
  | .byUnit a b => if unit = 0 then a else b

/-! The common header (Tables 2-2, 2-3, 2-4, 2-6, 2-7). Its fields stand in every page; blk is not looked at. -/
/-- BLK_CTRL [31:16] is block-defined and no chapter defines a bit of it: the model stores what is written and reads it back on every page (R5, R42; DESIGN CHOICE, log entry 93). -/
def HDR.BLOCK_DEF : Fld := { blk := .top, off := 0x010, lo := 16, width := 16, acc := .rw }
def HDR.QUIESCE : Fld := { blk := .top, off := 0x010, lo := 1, width := 1, acc := .rw }
def HDR.ENABLE : Fld := { blk := .top, off := 0x010, lo := 0, width := 1, acc := .rw }
def HDR.STAT_LOCKED : Fld := { blk := .top, off := 0x014, lo := 3, width := 1, acc := .ro }
def HDR.PD_ON : Fld := { blk := .top, off := 0x014, lo := 2, width := 1, acc := .ro }
def HDR.QUIESCED : Fld := { blk := .top, off := 0x014, lo := 1, width := 1, acc := .ro }
def HDR.ENABLED : Fld := { blk := .top, off := 0x014, lo := 0, width := 1, acc := .ro }
def HDR.EVT_STAT : Fld := { blk := .top, off := 0x018, lo := 0, width := 32, acc := .rw1c }
def HDR.EVT_MASK : Fld := { blk := .top, off := 0x01C, lo := 0, width := 32, acc := .rw, reset := .val 0xFFFF_FFFF }
def HDR.EVT_FORCE : Fld := { blk := .top, off := 0x020, lo := 0, width := 32, acc := .w1s, warden := true }
def HDR.EVT_ROUTE : Fld := { blk := .top, off := 0x024, lo := 0, width := 9, acc := .rw }
def HDR.ERR_STAT : Fld := { blk := .top, off := 0x028, lo := 0, width := 32, acc := .rw1c }
def HDR.ERR_INFO0 : Fld := { blk := .top, off := 0x02C, lo := 0, width := 32, acc := .ro }
def HDR.ERR_INFO1 : Fld := { blk := .top, off := 0x030, lo := 0, width := 32, acc := .ro }
def HDR.ERR_INJECT : Fld := { blk := .top, off := 0x034, lo := 0, width := 32, acc := .wo, warden := true }
def HDR.EPOCH : Fld := { blk := .top, off := 0x038, lo := 16, width := 16, acc := .rw }
def HDR.STAGE_STAT : Fld := { blk := .top, off := 0x038, lo := 4, width := 3, acc := .ro }
def HDR.VIEW : Fld := { blk := .top, off := 0x038, lo := 1, width := 1, acc := .rw }
def HDR.ARM : Fld := { blk := .top, off := 0x038, lo := 0, width := 1, acc := .rw }
def HDR.APPLIED_EPOCH : Fld := { blk := .top, off := 0x03C, lo := 16, width := 16, acc := .ro }
def HDR.APPLIED : Fld := { blk := .top, off := 0x03C, lo := 0, width := 1, acc := .ro }
def HDR.SVC_CLUSTERS : Fld := { blk := .top, off := 0x040, lo := 8, width := 6, acc := .rwl, warden := true }
def HDR.HOST_W : Fld := { blk := .top, off := 0x040, lo := 4, width := 1, acc := .rwl, warden := true }
def HDR.HOST_R : Fld := { blk := .top, off := 0x040, lo := 3, width := 1, acc := .rwl, warden := true }
def HDR.SVC_W : Fld := { blk := .top, off := 0x040, lo := 2, width := 1, acc := .rwl, warden := true }
def HDR.SVC_R : Fld := { blk := .top, off := 0x040, lo := 1, width := 1, acc := .rwl, warden := true }
def HDR.LOCK : Fld := { blk := .top, off := 0x044, lo := 0, width := 1, acc := .w1s, warden := true }

/-- The fields of the common header that the register file holds. -/
def hdrFields : List Fld :=
  [HDR.BLOCK_DEF, HDR.QUIESCE, HDR.ENABLE, HDR.STAT_LOCKED, HDR.QUIESCED, HDR.ENABLED, HDR.EVT_STAT, HDR.EVT_MASK,
   HDR.EVT_FORCE, HDR.EVT_ROUTE, HDR.ERR_STAT, HDR.ERR_INFO0, HDR.ERR_INFO1, HDR.ERR_INJECT, HDR.EPOCH, HDR.STAGE_STAT,
   HDR.VIEW, HDR.ARM, HDR.APPLIED_EPOCH, HDR.APPLIED, HDR.SVC_CLUSTERS, HDR.HOST_W, HDR.HOST_R, HDR.SVC_W, HDR.SVC_R,
   HDR.LOCK]

end Sys2Proof.Machine
end

