-- ==== Sys2Proof/Machine/RegTable.lean ====
section
/-! DEFINITION. The registers of the block pages (offset 0x100 up): one Fld per field of the register tables of the spec, with its place, type, marking and reset value. FLC and FTL are the FLM channel pages 0-47 and the FTL page 48, CMP and CME the CMN port pages 0-3 and the engine page 4. -/
namespace Sys2Proof.Machine
/-- R56: Writing a nonzero epoch commits it; reads return the last epoch committed -/
def TOP.STAGE_COMMIT : Fld := { blk := .top, off := 0x100, lo := 0, width := 16, acc := .rw, free := true, reset := .val 0 }
/-- R56: Apply limit in µs; writes of 0 store 1 and writes above 1,000,000 store 1,000,000. No table marks it stageable, non-stageable or a command register; the model lets it be written without quiescing TOP (DESIGN CHOICE, log entry 95) -/
def TOP.STAGE_TIMEOUT : Fld := { blk := .top, off := 0x104, lo := 0, width := 20, acc := .rwp, free := true, clamp := .both 1 1000000, reset := .val 10000 }
/-- R56: Pages armed with the epoch at commit -/
def TOP.PARTICIPANTS : Fld := { blk := .top, off := 0x108, lo := 24, width := 8, acc := .ro, reset := .val 0 }
/-- R56: Participants that have applied -/
def TOP.APPLIED_COUNT : Fld := { blk := .top, off := 0x108, lo := 16, width := 8, acc := .ro, reset := .val 0 }
/-- R56: 0 IDLE, 1 APPLYING, 2 DONE, 3 ROLLING_BACK, 4 ROLLED_BACK, 5 STUCK, 6–7 reserved -/
def TOP.STAGE_GSTAT : Fld := { blk := .top, off := 0x108, lo := 0, width := 3, acc := .ro, reset := .val 0 }
/-- R97: 1: FLM is READ_ONLY; writes fail check 7 -/
def XLT.MEDIA_RO : Fld := { blk := .xlt, off := 0x100, lo := 0, width := 1, acc := .ro, reset := .val 0 }
/-- R97: DRAM address of the region descriptor table -/
def XLT.RDT_BASE : Fld := { blk := .xlt, off := 0x108, lo := 12, width := 52, acc := .rwl, warden := true, reset := .val 0 }
/-- R97: DRAM address of the registration table -/
def XLT.RKT_BASE : Fld := { blk := .xlt, off := 0x110, lo := 12, width := 52, acc := .rwl, warden := true, reset := .val 0 }
/-- R97: DRAM address of the extent table -/
def XLT.EXT_BASE : Fld := { blk := .xlt, off := 0x118, lo := 12, width := 52, acc := .rwl, warden := true, reset := .val 0 }
/-- R97: XLT_INVAL: 0 region, 1 registration, 2 extent, 3 window, 4 tenant, 5 all, others ignored -/
def XLT.SCOPE : Fld := { blk := .xlt, off := 0x120, lo := 28, width := 4, acc := .wo, warden := true, reset := .val 0 }
/-- R97: ID within the scope; ignored for scope 5 -/
def XLT.INDEX : Fld := { blk := .xlt, off := 0x120, lo := 0, width := 24, acc := .wo, warden := true, reset := .val 0 }
/-- R97: 1: an invalidation is in progress -/
def XLT.BUSY : Fld := { blk := .xlt, off := 0x124, lo := 31, width := 1, acc := .ro, reset := .val 0 }
/-- R97: Invalidations completed, modulo 2^16 -/
def XLT.DONE_COUNT : Fld := { blk := .xlt, off := 0x124, lo := 0, width := 16, acc := .ro, reset := .val 0 }
/-- R97: Key to revoke -/
def XLT.XLT_REVOKE : Fld := { blk := .xlt, off := 0x128, lo := 0, width := 32, acc := .wo, warden := true, reset := .val 0 }
/-- R97: Registrations now CLOSING -/
def XLT.REVOKE_OPEN : Fld := { blk := .xlt, off := 0x12c, lo := 0, width := 32, acc := .ro, reset := .val 0 }
/-- R133: Highest rate: 0x1 2.5, 0x2 5, 0x3 8, 0x4 16, 0x5 32, 0x6 64 GT/s; others reserved -/
def HP.MAX_RATE : Fld := { blk := .hp, p0 := 0, p1 := 7, off := 0x100, lo := 8, width := 4, acc := .rwp, reset := .val 6 }
/-- R133: 1: L0p permitted -/
def HP.L0P_EN : Fld := { blk := .hp, p0 := 0, p1 := 7, off := 0x100, lo := 3, width := 1, acc := .rwp, reset := .val 1 }
/-- R133: 1: this port carries the management function -/
def HP.MGMT_PF : Fld := { blk := .hp, p0 := 0, p1 := 7, off := 0x100, lo := 2, width := 1, acc := .ro, reset := .val 0 }
/-- R133: Table 4-1 -/
def HP.BIFURC : Fld := { blk := .hp, p0 := 0, p1 := 7, off := 0x100, lo := 0, width := 2, acc := .ro, reset := .val 0 }
/-- R133: Link k is in L0 -/
def HP.UP : Fld := { blk := .hp, p0 := 0, p1 := 7, off := 0x104, lo := 31, width := 1, acc := .ro, stride := 0x4, cnt := 4, reset := .val 0 }
/-- R133: CXL negotiated -/
def HP.CXL : Fld := { blk := .hp, p0 := 0, p1 := 7, off := 0x104, lo := 30, width := 1, acc := .ro, stride := 0x4, cnt := 4, reset := .val 0 }
/-- R133: 256 B flit mode -/
def HP.FLIT256 : Fld := { blk := .hp, p0 := 0, p1 := 7, off := 0x104, lo := 29, width := 1, acc := .ro, stride := 0x4, cnt := 4, reset := .val 0 }
/-- R133: MLD operation negotiated -/
def HP.MLD : Fld := { blk := .hp, p0 := 0, p1 := 7, off := 0x104, lo := 28, width := 1, acc := .ro, stride := 0x4, cnt := 4, reset := .val 0 }
/-- R133: Current rate, encoded as MAX_RATE -/
def HP.RATE : Fld := { blk := .hp, p0 := 0, p1 := 7, off := 0x104, lo := 24, width := 4, acc := .ro, stride := 0x4, cnt := 4, reset := .val 0 }
/-- R133: Lanes in use, 1 to 16 -/
def HP.WIDTH : Fld := { blk := .hp, p0 := 0, p1 := 7, off := 0x104, lo := 16, width := 5, acc := .ro, stride := 0x4, cnt := 4, reset := .val 0 }
/-- R133: 1: writes are being held (R106) -/
def HP.HOLD : Fld := { blk := .hp, p0 := 0, p1 := 7, off := 0x118, lo := 1, width := 1, acc := .ro, reset := .val 0 }
/-- R133: 1: writes refused as read-only (R124) -/
def HP.WRO : Fld := { blk := .hp, p0 := 0, p1 := 7, off := 0x118, lo := 0, width := 1, acc := .ro, reset := .val 0 }
/-- R133: Foreign-window timeout in µs; writes below 10 store 10 -/
def HP.HP_FWD_TIMEOUT : Fld := { blk := .hp, p0 := 0, p1 := 7, off := 0x11c, lo := 0, width := 20, acc := .rwp, stage := true, clamp := .lower 10, reset := .val 1000 }
/-- R133: Refused CXL.mem accesses, saturating -/
def HP.REFUSE_CNT : Fld := { blk := .hp, p0 := 0, p1 := 7, off := 0x120, lo := 0, width := 32, acc := .ro, reset := .val 0 }
/-- R133: Reads returned as poison, saturating -/
def HP.POISON_CNT : Fld := { blk := .hp, p0 := 0, p1 := 7, off := 0x124, lo := 0, width := 32, acc := .ro, reset := .val 0 }
/-- R133: LD slot s bound to a tenant -/
def HP.BOUND : Fld := { blk := .hp, p0 := 0, p1 := 7, off := 0x140, lo := 31, width := 1, acc := .rwl, warden := true, stride := 0x4, cnt := 16, reset := .val 0 }
/-- R133: Tenant of LD slot s -/
def HP.TENANT : Fld := { blk := .hp, p0 := 0, p1 := 7, off := 0x140, lo := 0, width := 12, acc := .rwl, warden := true, stride := 0x4, cnt := 16, reset := .val 0 }
/-- R166: DRAM address of the 128 MiB context table -/
def QE.QE_CTX_BASE : Fld := { blk := .qe, off := 0x100, lo := 12, width := 52, acc := .rwl, warden := true, reset := .val 0 }
/-- R166: DRAM address of the 1 GiB page-map area -/
def QE.QE_PMAP_BASE : Fld := { blk := .qe, off := 0x108, lo := 12, width := 52, acc := .rwl, warden := true, reset := .val 0 }
/-- R166: QE_QCTL: 1 ENABLE, 2 PAUSE, 3 RESET, 4 DISABLE; others ignored -/
def QE.OP : Fld := { blk := .qe, off := 0x110, lo := 29, width := 3, acc := .wo, warden := true, reset := .val 0 }
/-- R166: Target queue -/
def QE.QID : Fld := { blk := .qe, off := 0x110, lo := 0, width := 20, acc := .wo, warden := true, reset := .val 0 }
/-- R166: 1: a QE_QCTL operation is in progress -/
def QE.BUSY : Fld := { blk := .qe, off := 0x114, lo := 31, width := 1, acc := .ro, reset := .val 0 }
/-- R166: Writes to unmapped doorbell pages, saturating -/
def QE.QE_DB_DROP : Fld := { blk := .qe, off := 0x118, lo := 0, width := 32, acc := .ro, reset := .val 0 }
/-- R186: 0 IDLE, 1 WALK, 2 MOVE, 3 WAIT, 4 OFFLINE; others reserved -/
def MOV.STATE : Fld := { blk := .mov, p0 := 0, p1 := 63, off := 0x100, lo := 28, width := 4, acc := .ro, reset := .val 0 }
/-- R186: Scheduling class of the current command -/
def MOV.SCLASS : Fld := { blk := .mov, p0 := 0, p1 := 63, off := 0x100, lo := 26, width := 2, acc := .ro, reset := .val 0 }
/-- R186: Queue of the current command -/
def MOV.QID : Fld := { blk := .mov, p0 := 0, p1 := 63, off := 0x100, lo := 0, width := 20, acc := .ro, reset := .val 0 }
/-- R186: CMD_ID of the current command -/
def MOV.CMD_ID : Fld := { blk := .mov, p0 := 0, p1 := 63, off := 0x104, lo := 16, width := 16, acc := .ro, reset := .val 0 }
/-- R186: Opcode of the current command -/
def MOV.OPCODE : Fld := { blk := .mov, p0 := 0, p1 := 63, off := 0x104, lo := 8, width := 8, acc := .ro, reset := .val 0 }
/-- R186: Index of the current step -/
def MOV.STEP : Fld := { blk := .mov, p0 := 0, p1 := 63, off := 0x108, lo := 0, width := 32, acc := .ro, reset := .val 0 }
/-- R186: Class of the last fault, Table 6-2 -/
def MOV.LAST_FCLASS : Fld := { blk := .mov, p0 := 0, p1 := 63, off := 0x10c, lo := 28, width := 4, acc := .ro, reset := .val 0 }
/-- R186: Status code the last fault produced, Table 5-6 -/
def MOV.LAST_STATUS : Fld := { blk := .mov, p0 := 0, p1 := 63, off := 0x10c, lo := 16, width := 8, acc := .ro, reset := .val 0 }
/-- R186: Destination offset of the start of the last faulted step -/
def MOV.LAST_FOFF : Fld := { blk := .mov, p0 := 0, p1 := 63, off := 0x110, lo := 0, width := 64, acc := .ro, reset := .val 0 }
/-- R186: Steps taken to the end of MOVE, modulo 2^64 -/
def MOV.STEPS_DONE : Fld := { blk := .mov, p0 := 0, p1 := 63, off := 0x118, lo := 0, width := 64, acc := .ro, reset := .val 0 }
/-- R186: Faults other than NONE and STOP, saturating -/
def MOV.FAULT_CNT : Fld := { blk := .mov, p0 := 0, p1 := 63, off := 0x120, lo := 0, width := 32, acc := .ro, reset := .val 0 }
/-- R186: Pre-emptions, saturating -/
def MOV.PREEMPT_CNT : Fld := { blk := .mov, p0 := 0, p1 := 63, off := 0x124, lo := 0, width := 32, acc := .ro, reset := .val 0 }
/-- R186: 1: mover takes no further step; set by hardware under R183 -/
def MOV.OFFLINE : Fld := { blk := .mov, p0 := 0, p1 := 63, off := 0x128, lo := 0, width := 1, acc := .rw, warden := true, stage := true, reset := .val 0 }
/-- R186: Movers per command; writes of 0 store 1, writes above 8 store 8 -/
def MOV.MAX_PER_CMD : Fld := { blk := .mov, off := 0x180, lo := 0, width := 4, acc := .rwp, stage := true, clamp := .both 1 8, reset := .val 4 }
/-- R186: Parked steps now, 0 to 4,096 -/
def MOV.PARKED : Fld := { blk := .mov, off := 0x184, lo := 16, width := 16, acc := .ro, reset := .val 0 }
/-- R186: Highest PARKED since cold reset -/
def MOV.PARK_PEAK : Fld := { blk := .mov, off := 0x184, lo := 0, width := 16, acc := .ro, reset := .val 0 }
/-- R186: Waits in place under R180, saturating -/
def MOV.PARK_FULL_CNT : Fld := { blk := .mov, off := 0x188, lo := 0, width := 32, acc := .ro, reset := .val 0 }
/-- R231: 1: grading active (R226) -/
def TIER.GRADE_EN : Fld := { blk := .tier, off := 0x100, lo := 1, width := 1, acc := .rwp, reset := .val 1 }
/-- R231: 1: SLUICE accepted (R217) -/
def TIER.SLUICE_EN : Fld := { blk := .tier, off := 0x100, lo := 0, width := 1, acc := .rwp, reset := .val 1 }
/-- R231: DRAM address of the 256 KiB quota table -/
def TIER.QT_BASE : Fld := { blk := .tier, off := 0x108, lo := 12, width := 52, acc := .rwl, warden := true, reset := .val 0 }
/-- R231: DRAM address of the 256 MiB pin table -/
def TIER.PIN_BASE : Fld := { blk := .tier, off := 0x110, lo := 12, width := 52, acc := .rwl, warden := true, reset := .val 0 }
/-- R231: DRAM address of the 128 MiB substitution counters -/
def TIER.SCTR_BASE : Fld := { blk := .tier, off := 0x118, lo := 12, width := 52, acc := .rwl, warden := true, reset := .val 0 }
/-- R231: Frames for tier blocks -/
def TIER.T1_FRAMES : Fld := { blk := .tier, off := 0x120, lo := 0, width := 32, acc := .rwl, warden := true, reset := .val 0 }
/-- R231: Frames for twin brine -/
def TIER.MIRROR_FRAMES : Fld := { blk := .tier, off := 0x124, lo := 0, width := 32, acc := .rwl, warden := true, reset := .val 0 }
/-- R231: Frames kept outside all quotas (R197) -/
def TIER.LOOSE_MIN : Fld := { blk := .tier, off := 0x128, lo := 0, width := 32, acc := .rwp, reset := .val 65536 }
/-- R231: Free frames kept by replacement (R202) -/
def TIER.FREE_MIN : Fld := { blk := .tier, off := 0x12c, lo := 0, width := 32, acc := .rwp, stage := true, reset := .val 4096 }
/-- R231: µs before the deadline at which the cheaper-path order starts -/
def TIER.PATH_LEAD : Fld := { blk := .tier, off := 0x130, lo := 0, width := 16, acc := .rwp, stage := true, reset := .val 60 }
/-- R231: Percent; writes above 100 store 100 -/
def TIER.CLEAN_HI : Fld := { blk := .tier, off := 0x134, lo := 8, width := 8, acc := .rwp, stage := true, clamp := .upper 100, reset := .val 90 }
/-- R231: Percent; writes above CLEAN_HI store CLEAN_HI -/
def TIER.CLEAN_LO : Fld := { blk := .tier, off := 0x134, lo := 0, width := 8, acc := .rwp, stage := true, clamp := .atMost 0x134 8 8, reset := .val 50 }
/-- R231: Bittern area size, MiB -/
def TIER.BITTERN_MIB : Fld := { blk := .tier, off := 0x138, lo := 0, width := 32, acc := .rwp, reset := .val 16384 }
/-- R231: Eligibility lead (R218) -/
def TIER.SLUICE_LEAD_MS : Fld := { blk := .tier, off := 0x13c, lo := 0, width := 16, acc := .rwp, stage := true, reset := .val 20 }
/-- R231: Entry life (R222); writes of 0 store 1 -/
def TIER.SLUICE_LIFE_MS : Fld := { blk := .tier, off := 0x140, lo := 0, width := 32, acc := .rwp, stage := true, clamp := .lower 1, reset := .val 60000 }
/-- R231: Device brine, 4 KiB units -/
def TIER.DEV_BRINE : Fld := { blk := .tier, off := 0x148, lo := 0, width := 64, acc := .ro, reset := .val 0 }
/-- R231: Class M tide in use, 4 KiB units -/
def TIER.TIDE_M : Fld := { blk := .tier, off := 0x150, lo := 0, width := 64, acc := .ro, reset := .val 0 }
/-- R231: Blocks with at least one pin -/
def TIER.PINNED : Fld := { blk := .tier, off := 0x158, lo := 0, width := 32, acc := .ro, reset := .val 0 }
/-- R231: Loose blocks -/
def TIER.LOOSE : Fld := { blk := .tier, off := 0x15c, lo := 0, width := 32, acc := .ro, reset := .val 0 }
/-- R231: Blocks rising -/
def TIER.RISING : Fld := { blk := .tier, off := 0x160, lo := 0, width := 32, acc := .ro, reset := .val 0 }
/-- R231: Free frames -/
def TIER.FREE : Fld := { blk := .tier, off := 0x164, lo := 0, width := 32, acc := .ro, reset := .val 0 }
/-- R231: Running schedules -/
def TIER.SCHED_RUN : Fld := { blk := .tier, off := 0x168, lo := 0, width := 13, acc := .ro, reset := .val 0 }
/-- R231: Entries of running schedules -/
def TIER.ENTRIES_RUN : Fld := { blk := .tier, off := 0x16c, lo := 0, width := 21, acc := .ro, reset := .val 0 }
/-- R231: Entries ON_TIME since cold reset -/
def TIER.ON_TIME : Fld := { blk := .tier, off := 0x170, lo := 0, width := 64, acc := .ro, reset := .val 0 }
/-- R231: Entries MISSED since cold reset -/
def TIER.MISSED : Fld := { blk := .tier, off := 0x178, lo := 0, width := 64, acc := .ro, reset := .val 0 }
/-- R231: Sectors served by path 1 or 3, or from T2 without raising (R230) -/
def TIER.SLOW_PATH : Fld := { blk := .tier, off := 0x180, lo := 0, width := 64, acc := .ro, reset := .val 0 }
/-- R231: Sectors served from the bittern -/
def TIER.SUBST : Fld := { blk := .tier, off := 0x188, lo := 0, width := 64, acc := .ro, reset := .val 0 }
/-- R231: Charges refused device-wide, saturating -/
def TIER.QUOTA_REFUSE : Fld := { blk := .tier, off := 0x190, lo := 0, width := 32, acc := .ro, reset := .val 0 }
/-- R264: Lines prefetched ahead (R241); writes of 0 store 1 -/
def PAN.PF_DEPTH : Fld := { blk := .pan, p0 := 0, p1 := 15, off := 0x100, lo := 8, width := 4, acc := .rwp, stage := true, clamp := .lower 1, reset := .val 4 }
/-- R264: Discard dirty lines in DRAINING (R257) -/
def PAN.DISCARD : Fld := { blk := .pan, p0 := 0, p1 := 15, off := 0x100, lo := 3, width := 1, acc := .w1s, warden := true, free := true, reset := .val 0 }
/-- R264: 1: streaming classification on -/
def PAN.STREAM_EN : Fld := { blk := .pan, p0 := 0, p1 := 15, off := 0x100, lo := 2, width := 1, acc := .rwp, stage := true, reset := .val 1 }
/-- R264: 1: prefetch on -/
def PAN.PF_EN : Fld := { blk := .pan, p0 := 0, p1 := 15, off := 0x100, lo := 1, width := 1, acc := .rwp, stage := true, reset := .val 1 }
/-- R264: 1: drain and disable the slice (R252) -/
def PAN.DISABLE : Fld := { blk := .pan, p0 := 0, p1 := 15, off := 0x100, lo := 0, width := 1, acc := .rw, stage := true, reset := .val 0 }
/-- R264: 0 ENABLED, 1 DRAINING, 2 CLEARING, 3 DISABLED, 4 INVALIDATING; others reserved -/
def PAN.STATE : Fld := { blk := .pan, p0 := 0, p1 := 15, off := 0x104, lo := 0, width := 3, acc := .ro, reset := .val 4 }
/-- R264: Lines with a DIRTY sector -/
def PAN.DIRTY_LINES : Fld := { blk := .pan, p0 := 0, p1 := 15, off := 0x108, lo := 0, width := 18, acc := .ro, reset := .val 0 }
/-- R264: Locked lines -/
def PAN.LOCKED_LINES : Fld := { blk := .pan, p0 := 0, p1 := 15, off := 0x10c, lo := 0, width := 17, acc := .ro, reset := .val 0 }
/-- R264: Demand hits, modulo 2^64 -/
def PAN.HIT_CNT : Fld := { blk := .pan, p0 := 0, p1 := 15, off := 0x110, lo := 0, width := 64, acc := .ro, reset := .val 0 }
/-- R264: Demand misses, modulo 2^64 -/
def PAN.MISS_CNT : Fld := { blk := .pan, p0 := 0, p1 := 15, off := 0x118, lo := 0, width := 64, acc := .ro, reset := .val 0 }
/-- R264: Lines written back, modulo 2^64 -/
def PAN.WB_CNT : Fld := { blk := .pan, p0 := 0, p1 := 15, off := 0x120, lo := 0, width := 64, acc := .ro, reset := .val 0 }
/-- R264: Corrected errors, saturating -/
def PAN.CE_CNT : Fld := { blk := .pan, p0 := 0, p1 := 15, off := 0x128, lo := 0, width := 32, acc := .ro, reset := .val 0 }
/-- R264: Uncorrectable errors, saturating -/
def PAN.UE_CNT : Fld := { blk := .pan, p0 := 0, p1 := 15, off := 0x12c, lo := 0, width := 32, acc := .ro, reset := .val 0 }
/-- R264: Ways retired (R263) -/
def PAN.RETIRED_WAYS : Fld := { blk := .pan, p0 := 0, p1 := 15, off := 0x130, lo := 0, width := 16, acc := .ro, reset := .val 0 }
/-- R264: Locks released by invalidation, saturating -/
def PAN.LOCK_LOST_CNT : Fld := { blk := .pan, p0 := 0, p1 := 15, off := 0x134, lo := 0, width := 32, acc := .ro, reset := .val 0 }
/-- R264: Dirty lines discarded, saturating -/
def PAN.DISCARD_CNT : Fld := { blk := .pan, p0 := 0, p1 := 15, off := 0x138, lo := 0, width := 32, acc := .ro, reset := .val 0 }
/-- R264: Scrub period (R262); writes of 0 store 1 -/
def PAN.PAN_SCRUB_MS : Fld := { blk := .pan, p0 := 0, p1 := 15, off := 0x13c, lo := 0, width := 16, acc := .rwp, stage := true, clamp := .lower 1, reset := .val 100 }
/-- R264: PAN_MAINT, Table 8-3; other values ignored -/
def PAN.OP : Fld := { blk := .pan, off := 0x140, lo := 0, width := 4, acc := .wo, free := true, reset := .val 0 }
/-- R264: First PPA of the range -/
def PAN.MAINT_BASE : Fld := { blk := .pan, off := 0x148, lo := 0, width := 52, acc := .rw, free := true, reset := .val 0 }
/-- R264: Range length, bytes -/
def PAN.MAINT_LEN : Fld := { blk := .pan, off := 0x150, lo := 0, width := 52, acc := .rw, free := true, reset := .val 0 }
/-- R264: 1: operation in progress -/
def PAN.BUSY : Fld := { blk := .pan, off := 0x158, lo := 31, width := 1, acc := .ro, reset := .val 0 }
/-- R264: 0 NONE, 1 DONE, 2 ABORTED, 3 REFUSED; others reserved -/
def PAN.RESULT : Fld := { blk := .pan, off := 0x158, lo := 0, width := 3, acc := .ro, reset := .val 0 }
/-- R264: Locks released by the last operation -/
def PAN.LOCKS_RELEASED : Fld := { blk := .pan, off := 0x15c, lo := 0, width := 32, acc := .ro, reset := .val 0 }
/-- R264: Lines written back by the last operation -/
def PAN.LINES_WRITTEN : Fld := { blk := .pan, off := 0x160, lo := 0, width := 32, acc := .ro, reset := .val 0 }
/-- R264: Dirty lines discarded by the last operation -/
def PAN.LINES_DISCARDED : Fld := { blk := .pan, off := 0x164, lo := 0, width := 32, acc := .ro, reset := .val 0 }
/-- R264: Lines the last LOCK left unlocked (R244) -/
def PAN.LOCK_REFUSED : Fld := { blk := .pan, off := 0x168, lo := 0, width := 32, acc := .ro, reset := .val 0 }
/-- R301: 0x1 6400, 0x2 8000, 0x3 8800 MT/s; others reserved -/
def DMC.MAX_RATE : Fld := { blk := .dmc, p0 := 0, p1 := 11, off := 0x100, lo := 8, width := 4, acc := .rwp, reset := .val 3 }
/-- R301: 1: patrol scrub on (R300) -/
def DMC.PATROL_EN : Fld := { blk := .dmc, p0 := 0, p1 := 11, off := 0x100, lo := 3, width := 1, acc := .rwp, stage := true, reset := .val 1 }
/-- R301: 1: rank power-down on (R297) -/
def DMC.PD_EN : Fld := { blk := .dmc, p0 := 0, p1 := 11, off := 0x100, lo := 2, width := 1, acc := .rwp, stage := true, reset := .val 1 }
/-- R301: 1: write CRC on (R279) -/
def DMC.WCRC_EN : Fld := { blk := .dmc, p0 := 0, p1 := 11, off := 0x100, lo := 1, width := 1, acc := .rwp, reset := .val 1 }
/-- R301: 0x1 16, 0x2 24, 0x3 32, 0x4 64 Gb; others reserved -/
def DMC.DENSITY : Fld := { blk := .dmc, p0 := 0, p1 := 11, off := 0x104, lo := 8, width := 4, acc := .rwp, reset := .val 0 }
/-- R301: 0x1 monolithic, 0x2 2H, 0x4 4H, 0x8 8H; others reserved -/
def DMC.HEIGHT : Fld := { blk := .dmc, p0 := 0, p1 := 11, off := 0x104, lo := 4, width := 4, acc := .rwp, reset := .val 0 }
/-- R301: 0 ABSENT, 1, 2 or 4 ranks; others reserved -/
def DMC.RANKS : Fld := { blk := .dmc, p0 := 0, p1 := 11, off := 0x104, lo := 0, width := 3, acc := .rwp, reset := .val 0 }
/-- R301: 0 ABSENT, 1 TRAINING, 2 READY, 3 RETRAIN, 4 SELF_REFRESH, 5 FAILED, 6 EXCLUDED -/
def DMC.STATE : Fld := { blk := .dmc, p0 := 0, p1 := 11, off := 0x108, lo := 28, width := 4, acc := .ro, reset := .val 0 }
/-- R301: Current rate, encoded as MAX_RATE; 0 when not trained -/
def DMC.RATE_NOW : Fld := { blk := .dmc, p0 := 0, p1 := 11, off := 0x108, lo := 24, width := 4, acc := .ro, reset := .val 0 }
/-- R301: 1: doubled refresh rate in use on some rank (R296) -/
def DMC.REF_X2 : Fld := { blk := .dmc, p0 := 0, p1 := 11, off := 0x108, lo := 4, width := 1, acc := .ro, reset := .val 0 }
/-- R301: Failing step of Table 9-4; 0 none; 0xF topology not supported (R268) -/
def DMC.TRAIN_STEP : Fld := { blk := .dmc, p0 := 0, p1 := 11, off := 0x108, lo := 0, width := 4, acc := .ro, reset := .val 0 }
/-- R301: Channel capacity, GiB -/
def DMC.CAP_GIB : Fld := { blk := .dmc, p0 := 0, p1 := 11, off := 0x10c, lo := 0, width := 32, acc := .ro, reset := .val 0 }
/-- R301: DMC_CLK cycles; writes of 0 store 1 -/
def DMC.PD_IDLE : Fld := { blk := .dmc, p0 := 0, p1 := 11, off := 0x110, lo := 0, width := 16, acc := .rwp, stage := true, clamp := .lower 1, reset := .val 64 }
/-- R301: Idle self-refresh delay, µs; 0 disables -/
def DMC.SR_IDLE_US : Fld := { blk := .dmc, p0 := 0, p1 := 11, off := 0x114, lo := 0, width := 32, acc := .rwp, stage := true, reset := .val 0 }
/-- R301: Corrected errors per device per hour for map-out; writes of 0 store 1 -/
def DMC.MAPOUT_CE : Fld := { blk := .dmc, p0 := 0, p1 := 11, off := 0x118, lo := 8, width := 8, acc := .rwp, stage := true, clamp := .lower 1, reset := .val 32 }
/-- R301: Refresh debt limit; writes of 0 store 1, above 8 store 8 -/
def DMC.REF_POSTPONE : Fld := { blk := .dmc, p0 := 0, p1 := 11, off := 0x118, lo := 0, width := 4, acc := .rwp, stage := true, clamp := .both 1 8, reset := .val 6 }
/-- R301: Oscillator check period; writes of 0 store 1 -/
def DMC.RETRAIN_MS : Fld := { blk := .dmc, p0 := 0, p1 := 11, off := 0x11c, lo := 16, width := 16, acc := .rwp, stage := true, clamp := .lower 1, reset := .val 50 }
/-- R301: Drift that starts a retraining, ps; writes of 0 store 1 -/
def DMC.DRIFT_PS : Fld := { blk := .dmc, p0 := 0, p1 := 11, off := 0x11c, lo := 0, width := 16, acc := .rwp, stage := true, clamp := .lower 1, reset := .val 8 }
/-- R301: Patrol period; writes of 0 store 1 -/
def DMC.SCRUB_HOURS : Fld := { blk := .dmc, p0 := 0, p1 := 11, off := 0x120, lo := 0, width := 8, acc := .rwp, stage := true, clamp := .lower 1, reset := .val 24 }
/-- R301: Nibble (2 × rank + subchannel): mapped-out device 0x0–0x9, numbered by data nibble with 0x8 and 0x9 the ECC devices (R282), or 0xF none -/
def DMC.MAPOUT : Fld := { blk := .dmc, p0 := 0, p1 := 11, off := 0x124, lo := 0, width := 32, acc := .ro, reset := .val 4294967295 }
/-- R301: Corrected errors, saturating -/
def DMC.CE_CNT : Fld := { blk := .dmc, p0 := 0, p1 := 11, off := 0x128, lo := 0, width := 32, acc := .ro, reset := .val 0 }
/-- R301: Uncorrectable errors, saturating -/
def DMC.UE_CNT : Fld := { blk := .dmc, p0 := 0, p1 := 11, off := 0x12c, lo := 0, width := 32, acc := .ro, reset := .val 0 }
/-- R301: Write CRC replays, saturating -/
def DMC.WCRC_CNT : Fld := { blk := .dmc, p0 := 0, p1 := 11, off := 0x130, lo := 0, width := 32, acc := .ro, reset := .val 0 }
/-- R301: Re-drive parity reissues, saturating -/
def DMC.CAPAR_CNT : Fld := { blk := .dmc, p0 := 0, p1 := 11, off := 0x134, lo := 0, width := 32, acc := .ro, reset := .val 0 }
/-- R301: All-bank refreshes forced by R295, saturating -/
def DMC.REFAB_CNT : Fld := { blk := .dmc, p0 := 0, p1 := 11, off := 0x138, lo := 0, width := 32, acc := .ro, reset := .val 0 }
/-- R301: Rank retrainings, saturating -/
def DMC.RETRAIN_CNT : Fld := { blk := .dmc, p0 := 0, p1 := 11, off := 0x13c, lo := 0, width := 32, acc := .ro, reset := .val 0 }
/-- R301: Target of port 2j + 1, ns; writes below 10 store 10 -/
def DMC.LAT_TGT_HI : Fld := { blk := .dmc, p0 := 0, p1 := 11, off := 0x140, lo := 16, width := 16, acc := .rwp, stage := true, clamp := .lower 10, stride := 0x4, cnt := 8, reset := .tbl [60, 60, 60, 60, 120, 200, 60, 150] }
/-- R301: Target of port 2j, ns; writes below 10 store 10 -/
def DMC.LAT_TGT_LO : Fld := { blk := .dmc, p0 := 0, p1 := 11, off := 0x140, lo := 0, width := 16, acc := .rwp, stage := true, clamp := .lower 10, stride := 0x4, cnt := 8, reset := .tbl [60, 60, 60, 60, 80, 400, 2000, 300] }
/-- R301: Port k at [2k + 1:2k], R288 -/
def DMC.URGENCY : Fld := { blk := .dmc, p0 := 0, p1 := 11, off := 0x160, lo := 0, width := 32, acc := .ro, reset := .val 0 }
/-- R301: Bit k: pair D2k, D2k+1 in the interleave -/
def DMC.PAIRS_USED : Fld := { blk := .dmc, off := 0x180, lo := 16, width := 6, acc := .ro, reset := .val 0 }
/-- R301: Channels in use (R271) -/
def DMC.NCHAN : Fld := { blk := .dmc, off := 0x180, lo := 0, width := 4, acc := .ro, reset := .val 0 }
/-- R301: DRAM address space, GiB -/
def DMC.DRAM_GIB : Fld := { blk := .dmc, off := 0x184, lo := 0, width := 32, acc := .ro, reset := .val 0 }
/-- R345: 1: channel brought up -/
def FLC.CH_EN : Fld := { blk := .flm, p0 := 0, p1 := 47, off := 0x100, lo := 4, width := 1, acc := .rwp, reset := .val 1 }
/-- R345: 0x1 1600, 0x2 2400, 0x3 3200, 0x4 3600 MT/s; others reserved -/
def FLC.MAX_RATE : Fld := { blk := .flm, p0 := 0, p1 := 47, off := 0x100, lo := 0, width := 4, acc := .rwp, reset := .val 4 }
/-- R345: 0 ABSENT, 1 INIT, 2 READY, 3 FAILED, 4 EXCLUDED; others reserved -/
def FLC.STATE : Fld := { blk := .flm, p0 := 0, p1 := 47, off := 0x104, lo := 28, width := 4, acc := .ro, reset := .val 0 }
/-- R345: Encoded as MAX_RATE -/
def FLC.RATE_NOW : Fld := { blk := .flm, p0 := 0, p1 := 47, off := 0x104, lo := 24, width := 4, acc := .ro, reset := .val 0 }
/-- R345: Bit c: CE c responded -/
def FLC.CE_PRESENT : Fld := { blk := .flm, p0 := 0, p1 := 47, off := 0x104, lo := 0, width := 16, acc := .ro, reset := .val 0 }
/-- R345: Bit 4 × CE + LUN: LUN lost or excluded -/
def FLC.LUN_LOST_MAP : Fld := { blk := .flm, p0 := 0, p1 := 47, off := 0x108, lo := 0, width := 64, acc := .ro, reset := .val 0 }
/-- R345: Bits corrected on the channel, modulo 2^64 -/
def FLC.CORR_BITS : Fld := { blk := .flm, p0 := 0, p1 := 47, off := 0x110, lo := 0, width := 64, acc := .ro, reset := .val 0 }
/-- R345: Unrecoverable units, saturating -/
def FLC.UNRECOV_CNT : Fld := { blk := .flm, p0 := 0, p1 := 47, off := 0x118, lo := 0, width := 32, acc := .ro, reset := .val 0 }
/-- R345: Program failures, saturating -/
def FLC.PROG_FAIL_CNT : Fld := { blk := .flm, p0 := 0, p1 := 47, off := 0x11c, lo := 0, width := 32, acc := .ro, reset := .val 0 }
/-- R345: Erase failures, saturating -/
def FLC.ERASE_FAIL_CNT : Fld := { blk := .flm, p0 := 0, p1 := 47, off := 0x120, lo := 0, width := 32, acc := .ro, reset := .val 0 }
/-- R345: Operations that timed out, saturating -/
def FLC.OP_TIMEOUT_CNT : Fld := { blk := .flm, p0 := 0, p1 := 47, off := 0x124, lo := 0, width := 32, acc := .ro, reset := .val 0 }
/-- R344: max(WEAR_USED_PCT, 100 − SPARE_LEFT_PCT); 100 in READ_ONLY -/
def FTL.LIFE_USED_PCT : Fld := { blk := .flm, p0 := 48, p1 := 48, off := 0x180, lo := 16, width := 8, acc := .ro, reset := .val 0 }
/-- R344: Mean wear × 100 / PE_LIMIT, saturating at 100 -/
def FTL.WEAR_USED_PCT : Fld := { blk := .flm, p0 := 48, p1 := 48, off := 0x180, lo := 8, width := 8, acc := .ro, reset := .val 0 }
/-- R344: R335 -/
def FTL.SPARE_LEFT_PCT : Fld := { blk := .flm, p0 := 48, p1 := 48, off := 0x180, lo := 0, width := 8, acc := .ro, reset := .val 100 }
/-- R344: Highest temperature since format, °C, signed -/
def FTL.TEMP_MAX : Fld := { blk := .flm, p0 := 48, p1 := 48, off := 0x184, lo := 16, width := 8, acc := .ro, reset := .val 128 }
/-- R344: Lowest temperature since format, °C, signed -/
def FTL.TEMP_MIN : Fld := { blk := .flm, p0 := 48, p1 := 48, off := 0x184, lo := 8, width := 8, acc := .ro, reset := .val 127 }
/-- R344: Current temperature, °C, signed -/
def FTL.TEMP_NOW : Fld := { blk := .flm, p0 := 48, p1 := 48, off := 0x184, lo := 0, width := 8, acc := .ro, reset := .val 0 }
/-- R344: Hours in band k: 0 below 40 °C, 1 40–54 °C, 2 55–69 °C, 3 from 70 °C -/
def FTL.TEMP_HOURS : Fld := { blk := .flm, p0 := 48, p1 := 48, off := 0x188, lo := 0, width := 32, acc := .ro, stride := 0x4, cnt := 4, reset := .val 0 }
/-- R344: Bits corrected, modulo 2^64 -/
def FTL.CORR_BITS : Fld := { blk := .flm, p0 := 48, p1 := 48, off := 0x198, lo := 0, width := 64, acc := .ro, reset := .val 0 }
/-- R344: Reads ending at step 2 or later, saturating -/
def FTL.READ_RETRIES : Fld := { blk := .flm, p0 := 48, p1 := 48, off := 0x1a0, lo := 0, width := 32, acc := .ro, reset := .val 0 }
/-- R344: Units rebuilt from die parity, saturating -/
def FTL.PARITY_REBUILDS : Fld := { blk := .flm, p0 := 48, p1 := 48, off := 0x1a4, lo := 0, width := 32, acc := .ro, reset := .val 0 }
/-- R344: Units fetched from the partner, saturating -/
def FTL.TWIN_FETCHES : Fld := { blk := .flm, p0 := 48, p1 := 48, off := 0x1a8, lo := 0, width := 32, acc := .ro, reset := .val 0 }
/-- R344: Units reported unrecoverable, saturating -/
def FTL.UNRECOVERABLE : Fld := { blk := .flm, p0 := 48, p1 := 48, off := 0x1ac, lo := 0, width := 32, acc := .ro, reset := .val 0 }
/-- R344: Program failures, saturating -/
def FTL.PROG_FAILS : Fld := { blk := .flm, p0 := 48, p1 := 48, off := 0x1b0, lo := 0, width := 32, acc := .ro, reset := .val 0 }
/-- R344: Erase failures, saturating -/
def FTL.ERASE_FAILS : Fld := { blk := .flm, p0 := 48, p1 := 48, off := 0x1b4, lo := 0, width := 32, acc := .ro, reset := .val 0 }
/-- R344: Blocks retired since format -/
def FTL.BLOCKS_RETIRED : Fld := { blk := .flm, p0 := 48, p1 := 48, off := 0x1b8, lo := 0, width := 32, acc := .ro, reset := .val 0 }
/-- R344: Update sequence -/
def FTL.HEALTH_SEQ : Fld := { blk := .flm, p0 := 48, p1 := 48, off := 0x1bc, lo := 16, width := 16, acc := .ro, reset := .val 0 }
/-- R344: LUNs lost since format -/
def FTL.LUNS_LOST : Fld := { blk := .flm, p0 := 48, p1 := 48, off := 0x1bc, lo := 0, width := 16, acc := .ro, reset := .val 0 }
/-- R346: R321; 0b11 reserved -/
def FTL.RAKE_POLICY : Fld := { blk := .flm, p0 := 48, p1 := 48, off := 0x100, lo := 2, width := 2, acc := .rwp, stage := true, reset := .val 0 }
/-- R346: R332 -/
def FTL.STATIC_WL_EN : Fld := { blk := .flm, p0 := 48, p1 := 48, off := 0x100, lo := 1, width := 1, acc := .rwp, stage := true, reset := .val 1 }
/-- R346: 0: raking only below RAKE_URGENT -/
def FTL.RAKE_EN : Fld := { blk := .flm, p0 := 48, p1 := 48, off := 0x100, lo := 0, width := 1, acc := .rwp, reset := .val 1 }
/-- R346: 0 INIT, 1 REPLAY, 2 NORMAL, 3 LOW_SPARE, 4 READ_ONLY, 5 FAILED; others reserved -/
def FTL.FLM_STATE : Fld := { blk := .flm, p0 := 48, p1 := 48, off := 0x104, lo := 0, width := 3, acc := .ro, reset := .val 0 }
/-- R346: DRAM address of the map directory -/
def FTL.MDIR_BASE : Fld := { blk := .flm, p0 := 48, p1 := 48, off := 0x108, lo := 12, width := 52, acc := .rwl, warden := true, reset := .val 0 }
/-- R346: DRAM address of the map cache -/
def FTL.MCACHE_BASE : Fld := { blk := .flm, p0 := 48, p1 := 48, off := 0x110, lo := 12, width := 52, acc := .rwl, warden := true, reset := .val 0 }
/-- R346: Map cache size; writes below 4 store 4 -/
def FTL.MAP_CACHE_GIB : Fld := { blk := .flm, p0 := 48, p1 := 48, off := 0x118, lo := 0, width := 16, acc := .rwp, clamp := .lower 4, reset := .val 32 }
/-- R346: Free blocks per LUN; writes above RAKE_LO store RAKE_LO -/
def FTL.RAKE_URGENT : Fld := { blk := .flm, p0 := 48, p1 := 48, off := 0x11c, lo := 16, width := 8, acc := .rwp, stage := true, clamp := .atMost 0x11C 0 8, reset := .val 3 }
/-- R346: Free blocks per LUN; writes below RAKE_LO store RAKE_LO -/
def FTL.RAKE_HI : Fld := { blk := .flm, p0 := 48, p1 := 48, off := 0x11c, lo := 8, width := 8, acc := .rwp, stage := true, clamp := .atLeast 0x11C 0 8, reset := .val 16 }
/-- R346: Free blocks per LUN; writes of 0 store 1 -/
def FTL.RAKE_LO : Fld := { blk := .flm, p0 := 48, p1 := 48, off := 0x11c, lo := 0, width := 8, acc := .rwp, stage := true, clamp := .lower 1, reset := .val 8 }
/-- R346: Native-equivalent cycles at which a block retires -/
def FTL.PE_LIMIT : Fld := { blk := .flm, p0 := 48, p1 := 48, off := 0x120, lo := 16, width := 16, acc := .rwp, reset := .val 3000 }
/-- R346: R332 -/
def FTL.WEAR_SPREAD : Fld := { blk := .flm, p0 := 48, p1 := 48, off := 0x120, lo := 0, width := 16, acc := .rwp, stage := true, reset := .val 200 }
/-- R346: Percent (R335) -/
def FTL.SPARE_WARN : Fld := { blk := .flm, p0 := 48, p1 := 48, off := 0x124, lo := 24, width := 8, acc := .rwp, stage := true, reset := .val 10 }
/-- R346: R331; writes of 0 store 1 -/
def FTL.SCRUB_DAYS : Fld := { blk := .flm, p0 := 48, p1 := 48, off := 0x124, lo := 16, width := 8, acc := .rwp, stage := true, clamp := .lower 1, reset := .val 7 }
/-- R346: R335; writes of 0 store 1 -/
def FTL.RO_MIN_PERMILLE : Fld := { blk := .flm, p0 := 48, p1 := 48, off := 0x124, lo := 8, width := 8, acc := .rwl, warden := true, clamp := .lower 1, reset := .val 5 }
/-- R346: Bits per codeword (R325) -/
def FTL.VERIFY_MAX : Fld := { blk := .flm, p0 := 48, p1 := 48, off := 0x124, lo := 0, width := 8, acc := .rwp, reset := .val 40 }
/-- R346: Journal between checkpoints; writes below 64 store 64 -/
def FTL.CKPT_JOURNAL_MIB : Fld := { blk := .flm, p0 := 48, p1 := 48, off := 0x128, lo := 0, width := 32, acc := .rwp, clamp := .lower 64, reset := .val 1024 }
/-- R346: User capacity, tier blocks (R310) -/
def FTL.USER_BLKS : Fld := { blk := .flm, p0 := 48, p1 := 48, off := 0x130, lo := 0, width := 64, acc := .rwl, warden := true, reset := .val 0 }
/-- R346: R335 -/
def FTL.SPARE_BLOCKS : Fld := { blk := .flm, p0 := 48, p1 := 48, off := 0x138, lo := 0, width := 32, acc := .ro, reset := .val 0 }
/-- R346: SPARE_BLOCKS at format -/
def FTL.SPARE_INIT : Fld := { blk := .flm, p0 := 48, p1 := 48, off := 0x13c, lo := 0, width := 32, acc := .ro, reset := .val 0 }
/-- R346: R336 -/
def FTL.RESERVE_READY_MIB : Fld := { blk := .flm, p0 := 48, p1 := 48, off := 0x140, lo := 0, width := 32, acc := .ro, reset := .val 0 }
/-- R346: LUNs holding reserve blocks, 0 to 3,072 -/
def FTL.RESERVE_LUNS : Fld := { blk := .flm, p0 := 48, p1 := 48, off := 0x144, lo := 0, width := 12, acc := .ro, reset := .val 0 }
/-- R346: VICTIM: GLUN of the next source (R321) -/
def FTL.VICTIM_GLUN : Fld := { blk := .flm, p0 := 48, p1 := 48, off := 0x148, lo := 16, width := 12, acc := .wo, reset := .val 0 }
/-- R346: VICTIM: block of the next source -/
def FTL.VICTIM_BLOCK : Fld := { blk := .flm, p0 := 48, p1 := 48, off := 0x148, lo := 0, width := 16, acc := .wo, reset := .val 0 }
/-- R346: Remote-diode input for temperature -/
def FTL.TEMP_SRC : Fld := { blk := .flm, p0 := 48, p1 := 48, off := 0x14c, lo := 0, width := 4, acc := .rwp, reset := .val 0 }
/-- R346: VICTIM writes refused, saturating -/
def FTL.VICTIM_REFUSED : Fld := { blk := .flm, p0 := 48, p1 := 48, off := 0x150, lo := 0, width := 32, acc := .ro, reset := .val 0 }
/-- R346: VICTIM entries waiting, at most 256; further writes are refused -/
def FTL.VICTIM_DEPTH : Fld := { blk := .flm, p0 := 48, p1 := 48, off := 0x154, lo := 0, width := 16, acc := .ro, reset := .val 0 }
/-- R346: System-area tier blocks above USER_BLKS (R302, R476) -/
def FTL.SYS_BLKS : Fld := { blk := .flm, p0 := 48, p1 := 48, off := 0x158, lo := 0, width := 32, acc := .rwl, warden := true, reset := .val 0 }
/-- R346: R341 -/
def FTL.RO_CLEAR : Fld := { blk := .flm, p0 := 48, p1 := 48, off := 0x1c0, lo := 0, width := 1, acc := .w1s, warden := true, reset := .val 0 }
/-- R368: R365 -/
def HRV.ACCEPT_LOSS : Fld := { blk := .hrv, off := 0x100, lo := 3, width := 1, acc := .w1s, warden := true, reset := .val 0 }
/-- R368: Trigger, Table 11-1 -/
def HRV.SHUTDOWN : Fld := { blk := .hrv, off := 0x100, lo := 2, width := 1, acc := .w1s, warden := true, reset := .val 0 }
/-- R368: Start a rehearsal; ignored outside NORMAL -/
def HRV.REHEARSE : Fld := { blk := .hrv, off := 0x100, lo := 1, width := 1, acc := .w1s, warden := true, reset := .val 0 }
/-- R368: Start a step-load test; ignored outside NORMAL -/
def HRV.STEPTEST : Fld := { blk := .hrv, off := 0x100, lo := 0, width := 1, acc := .w1s, reset := .val 0 }
/-- R368: 0 NORMAL, 1 HARVESTING, 2 SEALED, 3 RESTORING, 4 INCOMPLETE, 5 REHEARSING; others reserved -/
def HRV.STATE : Fld := { blk := .hrv, off := 0x104, lo := 29, width := 3, acc := .ro, reset := .val 0 }
/-- R368: Term that sets the tide: 0 CFG, 1 ENERGY, 2 RESERVE, 3 ZERO -/
def HRV.BIND : Fld := { blk := .hrv, off := 0x104, lo := 8, width := 2, acc := .ro, reset := .val 3 }
/-- R368: CAUSE bit index of the trigger that started the current or last harvest (R347); restored from the seal -/
def HRV.FIRST_CAUSE : Fld := { blk := .hrv, off := 0x104, lo := 5, width := 3, acc := .ro, reset := .val 0 }
/-- R368: Triggers of the current or last harvest, restored from the seal -/
def HRV.CAUSE : Fld := { blk := .hrv, off := 0x104, lo := 0, width := 5, acc := .ro, reset := .val 0 }
/-- R368: Ceiling, MiB; writes above 1,572,864 store 1,572,864 -/
def HRV.HRV_TIDE_CFG : Fld := { blk := .hrv, off := 0x108, lo := 0, width := 32, acc := .rwp, stage := true, clamp := .upper 1572864, reset := .val 1572864 }
/-- R368: Reserve SLC capacity kept by FLM (R336), GiB -/
def HRV.HRV_RESERVE : Fld := { blk := .hrv, off := 0x10c, lo := 0, width := 32, acc := .rwl, warden := true, reset := .val 1664 }
/-- R368: Tide mark, 4 KiB units -/
def HRV.HRV_TIDE_NOW : Fld := { blk := .hrv, off := 0x110, lo := 0, width := 64, acc := .ro, reset := .val 0 }
/-- R368: Bank voltage (R360), mV -/
def HRV.BANK_V_MV : Fld := { blk := .hrv, off := 0x118, lo := 0, width := 32, acc := .ro, reset := .val 0 }
/-- R368: Capacitance in use, mF -/
def HRV.BANK_C_MF : Fld := { blk := .hrv, off := 0x11c, lo := 0, width := 32, acc := .ro, reset := .val 0 }
/-- R368: ESR in use, µΩ -/
def HRV.BANK_ESR_UOHM : Fld := { blk := .hrv, off := 0x120, lo := 0, width := 32, acc := .ro, reset := .val 0 }
/-- R368: Lowest bank voltage at which the keep rails hold, mV -/
def HRV.V_MIN_MV : Fld := { blk := .hrv, off := 0x124, lo := 0, width := 32, acc := .rwp, stage := true, reset := .val 38000 }
/-- R368: Harvest draw at the bank from the last accepted rehearsal, W -/
def HRV.P_HARV_W : Fld := { blk := .hrv, off := 0x128, lo := 16, width := 16, acc := .ro, reset := .val 0 }
/-- R368: Draw used before any rehearsal, W -/
def HRV.P_DEFAULT_W : Fld := { blk := .hrv, off := 0x128, lo := 0, width := 16, acc := .rwp, stage := true, reset := .val 1500 }
/-- R368: Hold-up converter efficiency; writes below 50 store 50, above 100 store 100 -/
def HRV.HOLDUP_EFF_PCT : Fld := { blk := .hrv, off := 0x12c, lo := 16, width := 8, acc := .rwp, stage := true, clamp := .both 50 100, reset := .val 90 }
/-- R368: Energy margin; writes below 10 store 10, above 90 store 90 -/
def HRV.E_MARGIN_PCT : Fld := { blk := .hrv, off := 0x12c, lo := 0, width := 8, acc := .rwp, stage := true, clamp := .both 10 90, reset := .val 20 }
/-- R368: Harvest rate in use, MB/s -/
def HRV.RATE_MBPS : Fld := { blk := .hrv, off := 0x130, lo := 0, width := 32, acc := .ro, reset := .val 0 }
/-- R368: R367; writes below 100 store 100, above 60,000 store 60,000 -/
def HRV.T_RESUME_MS : Fld := { blk := .hrv, off := 0x134, lo := 0, width := 32, acc := .rwp, stage := true, clamp := .both 100 60000, reset := .val 2000 }
/-- R368: Step-load test period, minutes; writes of 0 store 1 -/
def HRV.STEPTEST_MIN : Fld := { blk := .hrv, off := 0x138, lo := 16, width := 16, acc := .rwp, stage := true, clamp := .lower 1, reset := .val 60 }
/-- R368: Rehearsal period, days; writes of 0 store 1 -/
def HRV.REHEARSE_DAYS : Fld := { blk := .hrv, off := 0x138, lo := 0, width := 16, acc := .rwp, stage := true, clamp := .lower 1, reset := .val 7 }
/-- R368: B of the last sealed set -/
def HRV.LAST_HARVEST_MIB : Fld := { blk := .hrv, off := 0x13c, lo := 0, width := 32, acc := .ro, reset := .val 0 }
/-- R368: Duration of the last harvest, t0 to step 9 -/
def HRV.LAST_HARVEST_MS : Fld := { blk := .hrv, off := 0x140, lo := 0, width := 32, acc := .ro, reset := .val 0 }
/-- R368: R364 -/
def HRV.RESTORE_BOUND_MS : Fld := { blk := .hrv, off := 0x144, lo := 0, width := 32, acc := .ro, reset := .val 0 }
/-- R368: Fast counter value of the last sealed set -/
def HRV.HARVEST_SEQ : Fld := { blk := .hrv, off := 0x148, lo := 0, width := 32, acc := .ro, reset := .val 0 }
/-- R368: Units left poisoned or awaiting repair at the last restore -/
def HRV.RESTORE_BAD_UNITS : Fld := { blk := .hrv, off := 0x14c, lo := 0, width := 32, acc := .ro, reset := .val 0 }
/-- R412: R391 -/
def TWN.ALONE_OK : Fld := { blk := .twn, off := 0x100, lo := 2, width := 1, acc := .w1s, warden := true, reset := .val 0 }
/-- R412: R388 -/
def TWN.PAIR_ACCEPT : Fld := { blk := .twn, off := 0x100, lo := 1, width := 1, acc := .w1s, warden := true, reset := .val 0 }
/-- R412: R410 -/
def TWN.RECLAIM_EN : Fld := { blk := .twn, off := 0x100, lo := 0, width := 1, acc := .rwp, stage := true, reset := .val 1 }
/-- R412: TWN_ROLE: 0 INIT, 1 FORMING, 2 PAIRED, 3 SOLO, 4 FENCED, 5 RESYNC_SRC, 6 RESYNC_DST; others reserved -/
def TWN.STATE : Fld := { blk := .twn, off := 0x104, lo := 28, width := 4, acc := .ro, reset := .val 0 }
/-- R412: TWIN_ID -/
def TWN.UNIT : Fld := { blk := .twn, off := 0x104, lo := 27, width := 1, acc := .ro, reset := .val 0 }
/-- R412: This twin is in sync -/
def TWN.IN_SYNC : Fld := { blk := .twn, off := 0x104, lo := 26, width := 1, acc := .ro, reset := .val 0 }
/-- R412: CLAIM_W level -/
def TWN.CLAIM_W_IN : Fld := { blk := .twn, off := 0x104, lo := 25, width := 1, acc := .ro, reset := .val 0 }
/-- R412: 1: this twin drives CLAIM_W low -/
def TWN.CLAIM_W_DRV : Fld := { blk := .twn, off := 0x104, lo := 24, width := 1, acc := .ro, reset := .val 0 }
/-- R412: 0: ALIVE loss (R371) -/
def TWN.ALIVE_IN_OK : Fld := { blk := .twn, off := 0x104, lo := 23, width := 1, acc := .ro, reset := .val 0 }
/-- R412: Bit b: TLb in use -/
def TWN.BUNDLES : Fld := { blk := .twn, off := 0x104, lo := 16, width := 4, acc := .ro, reset := .val 0 }
/-- R412: Bit g: group g served (R385) -/
def TWN.SERVE : Fld := { blk := .twn, off := 0x104, lo := 0, width := 16, acc := .ro, reset := .val 0 }
/-- R412: Preferred groups -/
def TWN.PREF_MASK : Fld := { blk := .twn, off := 0x108, lo := 0, width := 16, acc := .rwp, stage := true, reset := .byUnit 0x00FF 0xFF00 }
/-- R412: R401; 0 disables -/
def TWN.SAMPLE_N : Fld := { blk := .twn, off := 0x10c, lo := 16, width := 16, acc := .rwp, stage := true, reset := .val 1024 }
/-- R412: R409; writes of 0 store 1 -/
def TWN.HANDOFF_MAX_MS : Fld := { blk := .twn, off := 0x10c, lo := 0, width := 16, acc := .rwp, stage := true, clamp := .lower 1, reset := .val 50 }
/-- R412: R410 -/
def TWN.RECLAIM_HOLD_S : Fld := { blk := .twn, off := 0x110, lo := 0, width := 32, acc := .rwp, stage := true, reset := .val 60 }
/-- R412: R391; writes of 0 store 1 -/
def TWN.FORM_WAIT_S : Fld := { blk := .twn, off := 0x114, lo := 0, width := 32, acc := .rwp, clamp := .lower 1, reset := .val 120 }
/-- R412: 1 give GROUP, 2 request GROUP; others ignored -/
def TWN.HANDOFF_OP : Fld := { blk := .twn, off := 0x118, lo := 28, width := 4, acc := .wo, warden := true, reset := .val 0 }
/-- R412: Group of HANDOFF_OP -/
def TWN.GROUP : Fld := { blk := .twn, off := 0x118, lo := 0, width := 4, acc := .wo, warden := true, reset := .val 0 }
/-- R412: DRAM address of the RSM -/
def TWN.RSM_BASE : Fld := { blk := .twn, off := 0x120, lo := 12, width := 52, acc := .rwl, warden := true, reset := .val 0 }
/-- R412: Marked blocks -/
def TWN.RSM_COUNT : Fld := { blk := .twn, off := 0x128, lo := 0, width := 64, acc := .ro, reset := .val 0 }
/-- R412: Saturating -/
def TWN.DIGEST_MISMATCH : Fld := { blk := .twn, off := 0x130, lo := 0, width := 32, acc := .ro, reset := .val 0 }
/-- R412: Saturating -/
def TWN.DIVERGE_CNT : Fld := { blk := .twn, off := 0x134, lo := 0, width := 32, acc := .ro, reset := .val 0 }
/-- R412: Modulo 2^64 -/
def TWN.DUAL_READS : Fld := { blk := .twn, off := 0x138, lo := 0, width := 64, acc := .ro, reset := .val 0 }
/-- R412: Saturating -/
def TWN.RETX_CNT : Fld := { blk := .twn, off := 0x140, lo := 0, width := 32, acc := .ro, reset := .val 0 }
/-- R412: Saturating -/
def TWN.TAKEOVER_CNT : Fld := { blk := .twn, off := 0x144, lo := 0, width := 32, acc := .ro, reset := .val 0 }
/-- R412: Saturating -/
def TWN.HANDOFF_CNT : Fld := { blk := .twn, off := 0x148, lo := 0, width := 32, acc := .ro, reset := .val 0 }
/-- R412: Link losses and formation restarts, saturating -/
def TWN.LINK_DOWN_CNT : Fld := { blk := .twn, off := 0x14c, lo := 0, width := 32, acc := .ro, reset := .val 0 }
/-- R412: Claim held for group g; 0 when not serving -/
def TWN.TWN_CLAIM_LOCAL : Fld := { blk := .twn, off := 0x180, lo := 0, width := 64, acc := .ro, stride := 0x8, cnt := 16, reset := .val 0 }
/-- R412: Highest claim observed from the partner for group g -/
def TWN.TWN_CLAIM_PEER : Fld := { blk := .twn, off := 0x200, lo := 0, width := 64, acc := .ro, stride := 0x8, cnt := 16, reset := .val 0 }
/-- R445: Priority for R417 -/
def CMP.PFC_PRIO : Fld := { blk := .cmn, p0 := 0, p1 := 3, off := 0x100, lo := 9, width := 3, acc := .rwp, reset := .val 3 }
/-- R445: 1: priority flow control on -/
def CMP.PFC_EN : Fld := { blk := .cmn, p0 := 0, p1 := 3, off := 0x100, lo := 8, width := 1, acc := .rwp, reset := .val 0 }
/-- R445: 0 1 × 800G, 1 2 × 400G, 2 4 × 200G, 3 8 × 100G -/
def CMP.SPLIT : Fld := { blk := .cmn, p0 := 0, p1 := 3, off := 0x100, lo := 0, width := 2, acc := .rwp, reset := .val 0 }
/-- R445: Bit n: sublink n up -/
def CMP.LINK_UP : Fld := { blk := .cmn, p0 := 0, p1 := 3, off := 0x104, lo := 0, width := 8, acc := .ro, reset := .val 0 }
/-- R445: MAC of sublink 0; sublink n uses MAC_ADDR + n -/
def CMP.MAC_ADDR : Fld := { blk := .cmn, p0 := 0, p1 := 3, off := 0x108, lo := 0, width := 48, acc := .rwp, reset := .val 0 }
/-- R445: Modulo 2^64 -/
def CMP.RX_FRAMES : Fld := { blk := .cmn, p0 := 0, p1 := 3, off := 0x110, lo := 0, width := 64, acc := .ro, reset := .val 0 }
/-- R445: Modulo 2^64 -/
def CMP.TX_FRAMES : Fld := { blk := .cmn, p0 := 0, p1 := 3, off := 0x118, lo := 0, width := 64, acc := .ro, reset := .val 0 }
/-- R445: Saturating -/
def CMP.FCS_ERR : Fld := { blk := .cmn, p0 := 0, p1 := 3, off := 0x120, lo := 0, width := 32, acc := .ro, reset := .val 0 }
/-- R445: Packets dropped at R414, R427 or step 1, saturating -/
def CMP.RX_DROP : Fld := { blk := .cmn, p0 := 0, p1 := 3, off := 0x124, lo := 0, width := 32, acc := .ro, reset := .val 0 }
/-- R445: CE-marked packets received, saturating -/
def CMP.CE_MARKED : Fld := { blk := .cmn, p0 := 0, p1 := 3, off := 0x128, lo := 0, width := 32, acc := .ro, reset := .val 0 }
/-- R445: Pause frames received, saturating -/
def CMP.PFC_PAUSE : Fld := { blk := .cmn, p0 := 0, p1 := 3, off := 0x12c, lo := 0, width := 32, acc := .ro, reset := .val 0 }
/-- R445: Address of sublink n; IPv4 as an IPv4-mapped IPv6 address -/
def CMP.IP_ADDR : Fld := { blk := .cmn, p0 := 0, p1 := 3, off := 0x140, lo := 0, width := 128, acc := .rwp, stride := 0x10, cnt := 8, reset := .val 0 }
/-- R446: Own node ID (R423) -/
def CME.NODE_ID : Fld := { blk := .cmn, p0 := 4, p1 := 4, off := 0x100, lo := 0, width := 18, acc := .rwl, warden := true, reset := .val 0 }
/-- R446: Destination port (R414) -/
def CME.UDP_PORT : Fld := { blk := .cmn, p0 := 4, p1 := 4, off := 0x104, lo := 0, width := 16, acc := .rwp, reset := .val 7161 }
/-- R446: DSCP of sent packets -/
def CME.DSCP : Fld := { blk := .cmn, p0 := 4, p1 := 4, off := 0x108, lo := 0, width := 6, acc := .rwp, stage := true, reset := .val 26 }
/-- R446: DRAM address of the 128 MiB connection table -/
def CME.CONN_BASE : Fld := { blk := .cmn, p0 := 4, p1 := 4, off := 0x110, lo := 12, width := 52, acc := .rwl, warden := true, reset := .val 0 }
/-- R446: DRAM address of the 256 MiB key table -/
def CME.KEY_BASE : Fld := { blk := .cmn, p0 := 4, p1 := 4, off := 0x118, lo := 12, width := 52, acc := .rwl, warden := true, reset := .val 0 }
/-- R446: DRAM address of the 256 MiB path table -/
def CME.PATH_BASE : Fld := { blk := .cmn, p0 := 4, p1 := 4, off := 0x120, lo := 12, width := 52, acc := .rwl, warden := true, reset := .val 0 }
/-- R446: DRAM address of the 16 MiB claim table -/
def CME.CLAIM_BASE : Fld := { blk := .cmn, p0 := 4, p1 := 4, off := 0x128, lo := 12, width := 52, acc := .rwl, warden := true, reset := .val 0 }
/-- R446: µs; writes below 50 store 50 -/
def CME.MSG_TIMEOUT : Fld := { blk := .cmn, p0 := 4, p1 := 4, off := 0x130, lo := 0, width := 20, acc := .rwp, stage := true, clamp := .lower 50, reset := .val 500 }
/-- R446: µs; writes below MSG_TIMEOUT store MSG_TIMEOUT -/
def CME.INIT_TIMEOUT : Fld := { blk := .cmn, p0 := 4, p1 := 4, off := 0x134, lo := 0, width := 20, acc := .rwp, stage := true, clamp := .atLeast 0x130 0 20, reset := .val 1000 }
/-- R446: µs; writes of 0 store 1 -/
def CME.NACK_DELAY : Fld := { blk := .cmn, p0 := 4, p1 := 4, off := 0x138, lo := 16, width := 16, acc := .rwp, stage := true, clamp := .lower 1, reset := .val 8 }
/-- R446: µs; writes below 10 store 10 -/
def CME.RTO_US : Fld := { blk := .cmn, p0 := 4, p1 := 4, off := 0x138, lo := 0, width := 16, acc := .rwp, stage := true, clamp := .lower 10, reset := .val 40 }
/-- R446: Packets per ACK; writes of 0 store 1 -/
def CME.ACK_COAL : Fld := { blk := .cmn, p0 := 4, p1 := 4, off := 0x13c, lo := 24, width := 8, acc := .rwp, stage := true, clamp := .lower 1, reset := .val 16 }
/-- R446: Sends per packet; writes of 0 store 1 -/
def CME.RETX_MAX : Fld := { blk := .cmn, p0 := 4, p1 := 4, off := 0x13c, lo := 16, width := 8, acc := .rwp, stage := true, clamp := .lower 1, reset := .val 8 }
/-- R446: R426; writes of 0 store 1 -/
def CME.AUTH_FAIL_MAX : Fld := { blk := .cmn, p0 := 4, p1 := 4, off := 0x13c, lo := 8, width := 8, acc := .rwp, stage := true, clamp := .lower 1, reset := .val 16 }
/-- R446: R425 -/
def CME.REKEY_AT : Fld := { blk := .cmn, p0 := 4, p1 := 4, off := 0x140, lo := 0, width := 32, acc := .rwp, stage := true, reset := .val 2147483648 }
/-- R446: Free hold slots -/
def CME.HOLD_FREE : Fld := { blk := .cmn, p0 := 4, p1 := 4, off := 0x144, lo := 0, width := 10, acc := .ro, reset := .val 512 }
/-- R446: Free message slots -/
def CME.MSG_FREE : Fld := { blk := .cmn, p0 := 4, p1 := 4, off := 0x148, lo := 0, width := 32, acc := .ro, reset := .val 262144 }
/-- R446: Connections not FREE -/
def CME.CONN_OPEN : Fld := { blk := .cmn, p0 := 4, p1 := 4, off := 0x14c, lo := 0, width := 32, acc := .ro, reset := .val 0 }
/-- R446: Tag failures, saturating -/
def CME.AUTH_FAIL : Fld := { blk := .cmn, p0 := 4, p1 := 4, off := 0x150, lo := 0, width := 32, acc := .ro, reset := .val 0 }
/-- R446: Packets dropped at step 5, saturating -/
def CME.HOLD_DROP : Fld := { blk := .cmn, p0 := 4, p1 := 4, off := 0x154, lo := 0, width := 32, acc := .ro, reset := .val 0 }
/-- R446: Messages ended INCOMPLETE_MESSAGE, saturating -/
def CME.MSG_TIMEOUTS : Fld := { blk := .cmn, p0 := 4, p1 := 4, off := 0x158, lo := 0, width := 32, acc := .ro, reset := .val 0 }
/-- R446: Violations reported as target, saturating -/
def CME.VIOL_TX : Fld := { blk := .cmn, p0 := 4, p1 := 4, off := 0x15c, lo := 0, width := 32, acc := .ro, reset := .val 0 }
/-- R446: Violations received as initiator, saturating -/
def CME.VIOL_RX : Fld := { blk := .cmn, p0 := 4, p1 := 4, off := 0x160, lo := 0, width := 32, acc := .ro, reset := .val 0 }
/-- R446: R440, saturating -/
def CME.STALE_CLAIM_DROP : Fld := { blk := .cmn, p0 := 4, p1 := 4, off := 0x164, lo := 0, width := 32, acc := .ro, reset := .val 0 }
/-- R446: Step 4 drops, saturating -/
def CME.LATE_PKT : Fld := { blk := .cmn, p0 := 4, p1 := 4, off := 0x168, lo := 0, width := 32, acc := .ro, reset := .val 0 }
/-- R446: CONN_CTL: 1 OPEN, 2 CLOSE, 3 REKEY_INSTALL; others ignored -/
def CME.OP : Fld := { blk := .cmn, p0 := 4, p1 := 4, off := 0x170, lo := 29, width := 3, acc := .wo, warden := true, reset := .val 0 }
/-- R446: Target connection -/
def CME.CONN_IDX : Fld := { blk := .cmn, p0 := 4, p1 := 4, off := 0x170, lo := 0, width := 20, acc := .wo, warden := true, reset := .val 0 }
/-- R446: 1: a CONN_CTL operation in progress -/
def CME.BUSY : Fld := { blk := .cmn, p0 := 4, p1 := 4, off := 0x174, lo := 31, width := 1, acc := .ro, reset := .val 0 }
/-- R468: Lanes reserved for the twin link -/
def CIP.MIN_TWN : Fld := { blk := .cip, off := 0x100, lo := 16, width := 8, acc := .rwp, stage := true, reset := .val 8 }
/-- R468: Lanes reserved for Cemanor -/
def CIP.MIN_CMN : Fld := { blk := .cip, off := 0x100, lo := 8, width := 8, acc := .rwp, stage := true, reset := .val 8 }
/-- R468: Lanes reserved for flash -/
def CIP.MIN_FLM : Fld := { blk := .cip, off := 0x100, lo := 0, width := 8, acc := .rwp, stage := true, reset := .val 4 }
/-- R468: Bit k: lane k in service (R453) -/
def CIP.LANES_OK : Fld := { blk := .cip, off := 0x104, lo := 0, width := 24, acc := .ro, reset := .val 16777215 }
/-- R468: Tag failures on all paths, saturating -/
def CIP.AUTH_FAIL_CNT : Fld := { blk := .cip, off := 0x108, lo := 0, width := 32, acc := .ro, reset := .val 0 }
/-- R468: Decryptions delayed for hold space, saturating -/
def CIP.HOLD_FULL_CNT : Fld := { blk := .cip, off := 0x10c, lo := 0, width := 32, acc := .ro, reset := .val 0 }
/-- R468: Operations ended by R454, saturating -/
def CIP.LENGTH_ERR_CNT : Fld := { blk := .cip, off := 0x110, lo := 0, width := 32, acc := .ro, reset := .val 0 }
/-- R468: Source address -/
def CIP.JOB_SRC : Fld := { blk := .cip, off := 0x140, lo := 0, width := 64, acc := .rw, warden := true, reset := .val 0 }
/-- R468: Destination address; output followed by the 16 B tag for GCM encryption -/
def CIP.JOB_DST : Fld := { blk := .cip, off := 0x148, lo := 0, width := 64, acc := .rw, warden := true, reset := .val 0 }
/-- R468: Payload bytes -/
def CIP.JOB_LEN : Fld := { blk := .cip, off := 0x150, lo := 0, width := 32, acc := .rw, warden := true, reset := .val 0 }
/-- R468: 1 GCM encrypt, 2 GCM decrypt, 3 XTS encrypt, 4 XTS decrypt; others reserved -/
def CIP.JOB_OP : Fld := { blk := .cip, off := 0x154, lo := 28, width := 4, acc := .rw, warden := true, reset := .val 0 }
/-- R468: Warden key slot -/
def CIP.KEY_SLOT : Fld := { blk := .cip, off := 0x154, lo := 24, width := 4, acc := .rw, warden := true, reset := .val 0 }
/-- R468: AAD bytes, taken first from JOB_SRC -/
def CIP.AAD_LEN : Fld := { blk := .cip, off := 0x154, lo := 0, width := 10, acc := .rw, warden := true, reset := .val 0 }
/-- R468: GCM IV in [95:0], or XTS tweak -/
def CIP.JOB_IV : Fld := { blk := .cip, off := 0x160, lo := 0, width := 128, acc := .rw, warden := true, reset := .val 0 }
/-- R468: 1: job running -/
def CIP.BUSY : Fld := { blk := .cip, off := 0x170, lo := 31, width := 1, acc := .ro, reset := .val 0 }
/-- R468: Table 5-6 code -/
def CIP.JOB_STATUS : Fld := { blk := .cip, off := 0x170, lo := 0, width := 8, acc := .ro, reset := .val 0 }
/-- R468: Start the job -/
def CIP.START : Fld := { blk := .cip, off := 0x174, lo := 31, width := 1, acc := .w1s, warden := true, reset := .val 0 }
/-- R468: Key for KEY_LOAD -/
def CIP.KEY_DATA : Fld := { blk := .cip, off := 0x180, lo := 0, width := 256, acc := .wo, warden := true, reset := .val 0 }
/-- R468: Load KEY_DATA into KEY_SEL and zero KEY_DATA -/
def CIP.KEY_LOAD : Fld := { blk := .cip, off := 0x1a0, lo := 4, width := 1, acc := .w1s, warden := true, reset := .val 0 }
/-- R468: Slot to load -/
def CIP.KEY_SEL : Fld := { blk := .cip, off := 0x1a0, lo := 0, width := 4, acc := .wo, warden := true, reset := .val 0 }
/-- R469: Input address; for verify, digest, key and signature in that order -/
def HSH.SRC : Fld := { blk := .hsh, off := 0x100, lo := 0, width := 64, acc := .rw, stride := 0x40, cnt := 5, reset := .val 0 }
/-- R469: Output address -/
def HSH.DST : Fld := { blk := .hsh, off := 0x108, lo := 0, width := 64, acc := .rw, stride := 0x40, cnt := 5, reset := .val 0 }
/-- R469: Input bytes; ignored by OP 0x8–0xA -/
def HSH.SRC_LEN : Fld := { blk := .hsh, off := 0x110, lo := 0, width := 32, acc := .rw, stride := 0x40, cnt := 5, reset := .val 0 }
/-- R469: SHAKE256 output bytes, 1 to 65,536 -/
def HSH.DST_LEN : Fld := { blk := .hsh, off := 0x114, lo := 0, width := 17, acc := .rw, stride := 0x40, cnt := 5, reset := .val 0 }
/-- R469: Table 14-4; an OP not valid for the engine ends with LENGTH_ERROR -/
def HSH.OP : Fld := { blk := .hsh, off := 0x118, lo := 28, width := 4, acc := .rw, stride := 0x40, cnt := 5, reset := .val 0 }
/-- R469: Start the job -/
def HSH.START : Fld := { blk := .hsh, off := 0x118, lo := 0, width := 1, acc := .w1s, stride := 0x40, cnt := 5, reset := .val 0 }
/-- R469: 1: job running -/
def HSH.BUSY : Fld := { blk := .hsh, off := 0x11c, lo := 31, width := 1, acc := .ro, stride := 0x40, cnt := 5, reset := .val 0 }
/-- R469: Result of the last verify (R467) -/
def HSH.VERIFY_PASS : Fld := { blk := .hsh, off := 0x11c, lo := 8, width := 1, acc := .ro, stride := 0x40, cnt := 5, reset := .val 0 }
/-- R469: Table 5-6 code -/
def HSH.STATUS : Fld := { blk := .hsh, off := 0x11c, lo := 0, width := 8, acc := .ro, stride := 0x40, cnt := 5, reset := .val 0 }
/-- R500: 0 ROM, 1 INIT, 2 RELEASED, 3 RESTORING, 4 RUNNING, 5 RECOVERY, 6 HALTED; others reserved -/
def WDN.STAGE : Fld := { blk := .wdn, off := 0x100, lo := 28, width := 4, acc := .ro, reset := .val 0 }
/-- R500: Level granted -/
def WDN.DEBUG_LEVEL : Fld := { blk := .wdn, off := 0x100, lo := 26, width := 2, acc := .ro, reset := .val 0 }
/-- R500: Bank of the running service image -/
def WDN.SVC_BANK : Fld := { blk := .wdn, off := 0x100, lo := 25, width := 1, acc := .ro, reset := .val 0 }
/-- R500: 0 A, 1 B -/
def WDN.WDN_SLOT : Fld := { blk := .wdn, off := 0x100, lo := 24, width := 1, acc := .ro, reset := .val 0 }
/-- R500: R483 -/
def WDN.KEYS_SEALED : Fld := { blk := .wdn, off := 0x100, lo := 23, width := 1, acc := .ro, reset := .val 0 }
/-- R500: 0 IDLE, 1 LOADED, 2 HANDOVER, 3 SWITCHING, 4 TRIAL, 5 DONE, 6 REVERTED, 7 reserved -/
def WDN.ACT_STATE : Fld := { blk := .wdn, off := 0x100, lo := 0, width := 3, acc := .ro, reset := .val 0 }
/-- R500: Fuse count, 0 to 64 -/
def WDN.SVN_WDN : Fld := { blk := .wdn, off := 0x104, lo := 16, width := 16, acc := .ro, reset := .val 0 }
/-- R500: Fuse count, 0 to 64 -/
def WDN.SVN_SVC : Fld := { blk := .wdn, off := 0x104, lo := 0, width := 16, acc := .ro, reset := .val 0 }
/-- R500: R493; writes below 10 store 10 -/
def WDN.ACT_TIMEOUT_MS : Fld := { blk := .wdn, off := 0x108, lo := 16, width := 16, acc := .rwp, warden := true, clamp := .lower 10, reset := .val 500 }
/-- R500: R474; writes of 0 store 1 -/
def WDN.WDT_MS : Fld := { blk := .wdn, off := 0x108, lo := 0, width := 16, acc := .rwp, warden := true, clamp := .lower 1, reset := .val 10 }
/-- R500: R475; writes of 0 store 1 -/
def WDN.SVC_WDT_MS : Fld := { blk := .wdn, off := 0x10c, lo := 0, width := 16, acc := .rwp, warden := true, clamp := .lower 1, reset := .val 100 }
/-- R500: Any write feeds the warden watchdog -/
def WDN.WDT_FEED : Fld := { blk := .wdn, off := 0x110, lo := 0, width := 32, acc := .wo, warden := true, reset := .val 0 }
/-- R500: Restarts under R475, saturating -/
def WDN.SVC_RESTARTS : Fld := { blk := .wdn, off := 0x114, lo := 0, width := 32, acc := .ro, reset := .val 0 }
/-- R500: Slot k request; a write of this word submits it -/
def WDN.OPCODE : Fld := { blk := .wdn, off := 0x200, lo := 24, width := 8, acc := .rw, stride := 0x100, cnt := 8, reset := .val 0 }
/-- R500: Request tag, echoed in MB_RSP -/
def WDN.SEQ : Fld := { blk := .wdn, off := 0x200, lo := 16, width := 8, acc := .rw, stride := 0x100, cnt := 8, reset := .val 0 }
/-- R500: Payload bytes, in the slot or at BUF_ADDR -/
def WDN.LEN : Fld := { blk := .wdn, off := 0x200, lo := 0, width := 16, acc := .rw, stride := 0x100, cnt := 8, reset := .val 0 }
/-- R500: Request answered; cleared by a submission -/
def WDN.DONE : Fld := { blk := .wdn, off := 0x204, lo := 31, width := 1, acc := .ro, stride := 0x100, cnt := 8, reset := .val 1 }
/-- R500: SEQ of the answered request -/
def WDN.RSP_SEQ : Fld := { blk := .wdn, off := 0x204, lo := 16, width := 8, acc := .ro, stride := 0x100, cnt := 8, reset := .val 0 }
/-- R500: Table 5-6 code -/
def WDN.STATUS : Fld := { blk := .wdn, off := 0x204, lo := 0, width := 8, acc := .ro, stride := 0x100, cnt := 8, reset := .val 0 }
/-- R500: DRAM buffer for payloads above 240 B; 0 uses the slot -/
def WDN.BUF_ADDR : Fld := { blk := .wdn, off := 0x208, lo := 0, width := 64, acc := .rw, stride := 0x100, cnt := 8, reset := .val 0 }
/-- R500: Request and response payload -/
def WDN.PAYLOAD : Fld := { blk := .wdn, off := 0x210, lo := 0, width := 1920, acc := .rw, stride := 0x100, cnt := 8, reset := .val 0 }
/-- R524: Source ID for ROUTE_DATA -/
def EVF.ROUTE_IDX : Fld := { blk := .evf, off := 0x100, lo := 0, width := 13, acc := .rw, reset := .val 0 }
/-- R524: Route entry of ROUTE_IDX, Table 16-3 -/
def EVF.ROUTE_DATA : Fld := { blk := .evf, off := 0x104, lo := 0, width := 16, acc := .rw, free := true, reset := .val 0 }
/-- R524: Channel for CHAN_DATA and PENDING -/
def EVF.CHAN_IDX : Fld := { blk := .evf, off := 0x108, lo := 0, width := 9, acc := .rw, reset := .val 0 }
/-- R524: Channel entry of CHAN_IDX, Table 16-4 -/
def EVF.CHAN_DATA : Fld := { blk := .evf, off := 0x10c, lo := 0, width := 32, acc := .rw, free := true, reset := .val 0 }
/-- R524: Acknowledge a channel (R508) -/
def EVF.CHAN_ACK : Fld := { blk := .evf, off := 0x110, lo := 0, width := 9, acc := .wo, free := true, reset := .val 0 }
/-- R524: PENDING of CHAN_IDX -/
def EVF.PENDING : Fld := { blk := .evf, off := 0x114, lo := 0, width := 16, acc := .ro, reset := .val 0 }
/-- R524: Traces dropped (R511, R514), saturating -/
def EVF.TRACE_DROP : Fld := { blk := .evf, off := 0x118, lo := 0, width := 32, acc := .ro, reset := .val 0 }
/-- R524: Fold messages received (R511), saturating -/
def EVF.SRC_FOLD : Fld := { blk := .evf, off := 0x11c, lo := 0, width := 32, acc := .ro, reset := .val 0 }
/-- R524: Bit k: ALERT_Nk released under R510 -/
def EVF.ALERT_FAULT : Fld := { blk := .evf, off := 0x120, lo := 2, width := 2, acc := .rw1c, warden := true, reset := .val 0 }
/-- R524: Bit k: ALERT_Nk driven low -/
def EVF.ALERT_DRV : Fld := { blk := .evf, off := 0x120, lo := 0, width := 2, acc := .ro, reset := .val 0 }
/-- R525: Limiter window, ms; writes of 0 store 1 -/
def REC.RATE_MS : Fld := { blk := .recd, off := 0x100, lo := 0, width := 16, acc := .rwp, stage := true, clamp := .lower 1, reset := .val 100 }
/-- R525: Severity 4–5 records per window; writes of 0 store 1 -/
def REC.RATE_MID : Fld := { blk := .recd, off := 0x104, lo := 16, width := 16, acc := .rwp, stage := true, clamp := .lower 1, reset := .val 64 }
/-- R525: Severity 0–3 records per window -/
def REC.RATE_LO : Fld := { blk := .recd, off := 0x104, lo := 0, width := 16, acc := .rwp, stage := true, reset := .val 16 }
/-- R525: Severity 6–7 records per window; writes below 16 store 16 -/
def REC.RATE_HI : Fld := { blk := .recd, off := 0x108, lo := 0, width := 16, acc := .rwp, stage := true, clamp := .lower 16, reset := .val 256 }
/-- R525: Forwarder window, ms; writes below 100 store 100 -/
def REC.ALARM_MS : Fld := { blk := .recd, off := 0x10c, lo := 16, width := 16, acc := .rwp, stage := true, clamp := .lower 100, reset := .val 1000 }
/-- R525: Lowest alarm severity; writes below 2 store 2 -/
def REC.ALARM_SEV : Fld := { blk := .recd, off := 0x10c, lo := 0, width := 3, acc := .rwp, stage := true, clamp := .lower 2, reset := .val 4 }
/-- R525: Sequence of the last record written -/
def REC.HEAD_SEQ : Fld := { blk := .recd, off := 0x110, lo := 0, width := 32, acc := .ro, reset := .val 0 }
/-- R525: Highest sequence N such that every record numbered up to N since the last cold reset was spilled, or was overwritten, folded or cleared before it could be spilled (R519) -/
def REC.SPILLED_SEQ : Fld := { blk := .recd, off := 0x114, lo := 0, width := 32, acc := .ro, reset := .val 0 }
/-- R525: Highest sequence cleared -/
def REC.CLEARED_SEQ : Fld := { blk := .recd, off := 0x118, lo := 0, width := 32, acc := .ro, reset := .val 0 }
/-- R525: Records overwritten, saturating -/
def REC.OVW_CNT : Fld := { blk := .recd, off := 0x11c, lo := 0, width := 32, acc := .ro, reset := .val 0 }
/-- R525: Records folded under R514, saturating -/
def REC.LOST_CNT : Fld := { blk := .recd, off := 0x120, lo := 0, width := 32, acc := .ro, reset := .val 0 }
/-- R525: Reserved slots not free, 0 to 4,096 -/
def REC.RSV_USED : Fld := { blk := .recd, off := 0x124, lo := 0, width := 13, acc := .ro, reset := .val 0 }
/-- R525: Alarms dropped (R523), saturating -/
def REC.ALARM_DROP : Fld := { blk := .recd, off := 0x128, lo := 0, width := 32, acc := .ro, reset := .val 0 }
/-- R525: 1: spill active -/
def REC.SPILLING : Fld := { blk := .recd, off := 0x12c, lo := 0, width := 1, acc := .ro, reset := .val 0 }
/-- R525: R521 -/
def REC.CLEAR_UPTO : Fld := { blk := .recd, off := 0x130, lo := 0, width := 32, acc := .wo, warden := true, reset := .val 0 }
/-- R550: R527 -/
def CLK.REF_REVERT : Fld := { blk := .clk, off := 0x100, lo := 8, width := 1, acc := .rwp, warden := true, reset := .val 0 }
/-- R550: 0 REFCLK_A, 1 REFCLK_B -/
def CLK.REF_PREF : Fld := { blk := .clk, off := 0x100, lo := 0, width := 1, acc := .rwp, warden := true, reset := .val 0 }
/-- R550: 0 UNLOCKED, 1 LOCKED, 2 HOLDOVER, 3 FAILED; others reserved -/
def CLK.ROOT_STATE : Fld := { blk := .clk, off := 0x104, lo := 28, width := 4, acc := .ro, reset := .val 0 }
/-- R550: R526 -/
def CLK.REF_A_OK : Fld := { blk := .clk, off := 0x104, lo := 27, width := 1, acc := .ro, reset := .val 0 }
/-- R550: R526 -/
def CLK.REF_B_OK : Fld := { blk := .clk, off := 0x104, lo := 26, width := 1, acc := .ro, reset := .val 0 }
/-- R550: 0 A, 1 B -/
def CLK.REF_IN_USE : Fld := { blk := .clk, off := 0x104, lo := 25, width := 1, acc := .ro, reset := .val 0 }
/-- R550: 0 REFCLK/4, 1 RC oscillator -/
def CLK.AON_SRC : Fld := { blk := .clk, off := 0x104, lo := 24, width := 1, acc := .ro, reset := .val 1 }
/-- R550: Bit k: DRAM PLL of pair k locked -/
def CLK.DPLL_LOCK : Fld := { blk := .clk, off := 0x104, lo := 0, width := 6, acc := .ro, reset := .val 0 }
/-- R550: Reference cycles; writes below 64 store 64 -/
def CLK.LOCK_N : Fld := { blk := .clk, off := 0x108, lo := 16, width := 16, acc := .rwp, warden := true, clamp := .lower 64, reset := .val 1024 }
/-- R550: ps; writes of 0 store 1 -/
def CLK.LOCK_WIN : Fld := { blk := .clk, off := 0x108, lo := 0, width := 8, acc := .rwp, warden := true, clamp := .lower 1, reset := .val 20 }
/-- R550: CLK_DIV_SHADOW: 0 ÷8, 1 ÷12 -/
def CLK.FAB_SEL : Fld := { blk := .clk, off := 0x10c, lo := 8, width := 4, acc := .rwp, warden := true, reset := .val 0 }
/-- R550: 0 ÷6, 1 ÷8 -/
def CLK.PAN_SEL : Fld := { blk := .clk, off := 0x10c, lo := 4, width := 4, acc := .rwp, warden := true, reset := .val 0 }
/-- R550: 0 ÷6, 1 ÷8, 2 ÷12, 3 ÷24 -/
def CLK.CORE_SEL : Fld := { blk := .clk, off := 0x10c, lo := 0, width := 4, acc := .rwp, warden := true, reset := .val 0 }
/-- R550: CLK_DIV_COMMIT: commit in progress -/
def CLK.BUSY : Fld := { blk := .clk, off := 0x110, lo := 31, width := 1, acc := .ro, reset := .val 0 }
/-- R550: 0 NONE, 1 DONE, 2 REFUSED, 3 ABORTED -/
def CLK.RESULT : Fld := { blk := .clk, off := 0x110, lo := 1, width := 2, acc := .ro, reset := .val 0 }
/-- R550: R536 -/
def CLK.COMMIT : Fld := { blk := .clk, off := 0x110, lo := 0, width := 1, acc := .w1s, warden := true, reset := .val 0 }
/-- R550: Set in force, laid out as 0x10C -/
def CLK.CLK_DIV_NOW : Fld := { blk := .clk, off := 0x114, lo := 0, width := 32, acc := .ro, reset := .val 0 }
/-- R550: CKOUT_CFGk: output enabled -/
def CLK.EN : Fld := { blk := .clk, off := 0x120, lo := 15, width := 1, acc := .rw, stride := 0x4, cnt := 4, reset := .val 0 }
/-- R550: 0 HCSL, 1 LVDS, 2 LVCMOS 1.8 V; 3 reserved -/
def CLK.FMT : Fld := { blk := .clk, off := 0x120, lo := 10, width := 2, acc := .rwp, stride := 0x4, cnt := 4, reset := .val 0 }
/-- R550: HCSL swing 700/800/900 mV; LVDS VOD 250/350/450 mV; LVCMOS 4/8/12 mA; 3 reserved -/
def CLK.LEVEL : Fld := { blk := .clk, off := 0x120, lo := 8, width := 2, acc := .rwp, stride := 0x4, cnt := 4, reset := .val 1 }
/-- R550: 1 100 MHz, 2 50 MHz, 3 25 MHz from the root; 4 reference in use, buffered; others reserved -/
def CLK.SRC : Fld := { blk := .clk, off := 0x120, lo := 0, width := 3, acc := .rwp, stride := 0x4, cnt := 4, reset := .val 1 }
/-- R550: Bit k: R540 -/
def CLK.CKOUT_FAULT : Fld := { blk := .clk, off := 0x130, lo := 4, width := 4, acc := .rw1c, warden := true, reset := .val 0 }
/-- R550: Bit k: output running -/
def CLK.CKOUT_ON : Fld := { blk := .clk, off := 0x130, lo := 0, width := 4, acc := .ro, reset := .val 0 }
/-- R550: R541 -/
def CLK.TIME_NS : Fld := { blk := .clk, off := 0x140, lo := 0, width := 64, acc := .ro, reset := .val 0 }
/-- R550: R542 -/
def CLK.TIME_SET : Fld := { blk := .clk, off := 0x148, lo := 0, width := 64, acc := .wo, warden := true, reset := .val 0 }
/-- R551: PWR_DOM_MODE[n]: µs; writes of 0 store 1 -/
def PWR.IDLE_TIME : Fld := { blk := .pwr, off := 0x100, lo := 16, width := 16, acc := .rwp, clamp := .lower 1, stride := 0x4, cnt := 64, reset := .val 100 }
/-- R551: 0 ON, 1 RET, 2 OFF, 3 reserved (R543) -/
def PWR.MODE : Fld := { blk := .pwr, off := 0x100, lo := 0, width := 2, acc := .rwp, stride := 0x4, cnt := 64, reset := .val 0 }
/-- R551: PWR_DOM_STATE[n]: 0 ON, 1 RET, 2 OFF, 3 ENTERING, 4 WAKING, 5 RESETTING, 6 FAILED -/
def PWR.STATE : Fld := { blk := .pwr, off := 0x200, lo := 28, width := 4, acc := .ro, stride := 0x4, cnt := 64, reset := .val 0 }
/-- R551: Last refusal: 0 none, 1 brine, 2 dirty pan line, 3 link up, 4 work or channel in service, 5 state not permitted -/
def PWR.REFUSE : Fld := { blk := .pwr, off := 0x200, lo := 24, width := 4, acc := .ro, stride := 0x4, cnt := 64, reset := .val 0 }
/-- R551: Wakes, saturating -/
def PWR.WAKE_CNT : Fld := { blk := .pwr, off := 0x200, lo := 0, width := 16, acc := .ro, stride := 0x4, cnt := 64, reset := .val 0 }
/-- R551: Bit n: wake latched for domain n (R544) -/
def PWR.PWR_WAKE_LATCH : Fld := { blk := .pwr, off := 0x300, lo := 0, width := 64, acc := .ro, reset := .val 0 }
/-- R551: R547 -/
def PWR.PWR_DOM_RESET : Fld := { blk := .pwr, off := 0x308, lo := 0, width := 64, acc := .w1s, warden := true, reset := .val 0 }
/-- R551: Domains made FAILED (R548), saturating -/
def PWR.WAKE_FAIL_CNT : Fld := { blk := .pwr, off := 0x310, lo := 0, width := 32, acc := .ro, reset := .val 0 }
/-- R574: R564 -/
def SEQ.FAULT_CLR : Fld := { blk := .seq, off := 0x100, lo := 2, width := 1, acc := .w1s, warden := true, reset := .val 0 }
/-- R574: R568 -/
def SEQ.POWER_DOWN : Fld := { blk := .seq, off := 0x100, lo := 1, width := 1, acc := .w1s, warden := true, reset := .val 0 }
/-- R574: R556 -/
def SEQ.POWER_UP : Fld := { blk := .seq, off := 0x100, lo := 0, width := 1, acc := .w1s, warden := true, reset := .val 0 }
/-- R574: 0 OFF, 1 DEVICE_ON, 2 POWERING_UP, 3 ON, 4 SHED, 5 POWERING_DOWN; others reserved -/
def SEQ.STATE : Fld := { blk := .seq, off := 0x104, lo := 28, width := 4, acc := .ro, reset := .val 0 }
/-- R574: 1: this SK960 drives FAULT_N low -/
def SEQ.FAULT_N_DRV : Fld := { blk := .seq, off := 0x104, lo := 27, width := 1, acc := .ro, reset := .val 0 }
/-- R574: FAULT_N level -/
def SEQ.FAULT_N_IN : Fld := { blk := .seq, off := 0x104, lo := 26, width := 1, acc := .ro, reset := .val 1 }
/-- R574: Bit k: core k in service (R555) -/
def SEQ.ADC_CORES : Fld := { blk := .seq, off := 0x104, lo := 24, width := 2, acc := .ro, reset := .val 3 }
/-- R574: Step-load test running -/
def SEQ.STEP_ACTIVE : Fld := { blk := .seq, off := 0x104, lo := 23, width := 1, acc := .ro, reset := .val 0 }
/-- R574: Bit k: device rail row 32 + k GOOD -/
def SEQ.DEV_GOOD : Fld := { blk := .seq, off := 0x104, lo := 0, width := 8, acc := .ro, reset := .val 0 }
/-- R574: Bit n: RAIL_ENn asserted -/
def SEQ.RAIL_ON : Fld := { blk := .seq, off := 0x108, lo := 0, width := 32, acc := .ro, reset := .val 0 }
/-- R574: Bit n: rail n GOOD -/
def SEQ.RAIL_GOOD : Fld := { blk := .seq, off := 0x10c, lo := 0, width := 32, acc := .ro, reset := .val 0 }
/-- R574: Bit n: rail n faulted (R557, R559) -/
def SEQ.RAIL_FAULT : Fld := { blk := .seq, off := 0x110, lo := 0, width := 32, acc := .rw1c, warden := true, reset := .val 0 }
/-- R574: Bit n: rail n in warning (R558) -/
def SEQ.RAIL_WARN : Fld := { blk := .seq, off := 0x114, lo := 0, width := 32, acc := .rw1c, reset := .val 0 }
/-- R574: Row 0–40 for RAIL_DATA; values 41–63 select no row (R553) -/
def SEQ.RAIL_IDX : Fld := { blk := .seq, off := 0x118, lo := 0, width := 6, acc := .rw, warden := true, reset := .val 0 }
/-- R574: Word w (0–7) of the shadow of row RAIL_IDX -/
def SEQ.RAIL_DATA : Fld := { blk := .seq, off := 0x120, lo := 0, width := 32, acc := .rw, warden := true, free := true, stride := 0x4, cnt := 8, reset := .val 0 }
/-- R574: 0 NONE, 1 DONE, 2 REFUSED; 3 reserved -/
def SEQ.TABLE_RESULT : Fld := { blk := .seq, off := 0x140, lo := 1, width := 2, acc := .ro, reset := .val 0 }
/-- R574: R553 -/
def SEQ.TABLE_COMMIT : Fld := { blk := .seq, off := 0x140, lo := 0, width := 1, acc := .w1s, warden := true, reset := .val 0 }
/-- R574: Row of the first refusal -/
def SEQ.ERR_ROW : Fld := { blk := .seq, off := 0x144, lo := 8, width := 8, acc := .ro, reset := .val 0 }
/-- R574: Table 18-2 -/
def SEQ.ERR_CODE : Fld := { blk := .seq, off := 0x144, lo := 0, width := 8, acc := .ro, reset := .val 0 }
/-- R574: Sense input 0–66 for SNS_CFG and SNS_VALUE -/
def SEQ.SNS_IDX : Fld := { blk := .seq, off := 0x148, lo := 0, width := 7, acc := .rw, reset := .val 0 }
/-- R574: SNS_CFG of SNS_IDX: µV or µA per code (R554) -/
def SEQ.GAIN : Fld := { blk := .seq, off := 0x14c, lo := 16, width := 16, acc := .rwp, warden := true, free := true, reset := .val 0 }
/-- R574: SNS_CFG of SNS_IDX: signed, mV or mA -/
def SEQ.OFFSET : Fld := { blk := .seq, off := 0x14c, lo := 0, width := 16, acc := .rwp, warden := true, free := true, reset := .val 0 }
/-- R574: Signed value of SNS_IDX at the last scan -/
def SEQ.SNS_VALUE : Fld := { blk := .seq, off := 0x150, lo := 0, width := 32, acc := .ro, reset := .val 0 }
/-- R574: Temperature input for 0x164–0x16C -/
def SEQ.TEMP_IDX : Fld := { blk := .seq, off := 0x160, lo := 0, width := 4, acc := .rw, reset := .val 0 }
/-- R574: °C, for TEMP_IDX -/
def SEQ.FAULT_C : Fld := { blk := .seq, off := 0x164, lo := 24, width := 8, acc := .rwp, warden := true, free := true, reset := .val 105 }
/-- R574: °C, for TEMP_IDX -/
def SEQ.WARN_C : Fld := { blk := .seq, off := 0x164, lo := 16, width := 8, acc := .rwp, warden := true, free := true, reset := .val 90 }
/-- R574: Rails treated as faulted on a temperature fault of TEMP_IDX (R571) -/
def SEQ.TEMP_SHUT : Fld := { blk := .seq, off := 0x168, lo := 0, width := 32, acc := .rwp, warden := true, free := true, reset := .val 0 }
/-- R574: Signed, 0.125 °C units -/
def SEQ.TEMP_VALUE : Fld := { blk := .seq, off := 0x16c, lo := 0, width := 16, acc := .ro, reset := .val 0 }
/-- R574: Step duration; writes below 5 store 5, above 100 store 100 -/
def SEQ.STEP_MS : Fld := { blk := .seq, off := 0x170, lo := 0, width := 16, acc := .rwp, clamp := .both 5 100, reset := .val 20 }
/-- R574: R572 -/
def SEQ.BANK_FULL_MV : Fld := { blk := .seq, off := 0x174, lo := 0, width := 32, acc := .rwp, reset := .val 52000 }
/-- R574: Last valid result, mF -/
def SEQ.LAST_C_MF : Fld := { blk := .seq, off := 0x178, lo := 0, width := 32, acc := .ro, reset := .val 0 }
/-- R574: Last valid result, µΩ -/
def SEQ.LAST_ESR_UOHM : Fld := { blk := .seq, off := 0x17c, lo := 0, width := 32, acc := .ro, reset := .val 0 }
/-- R574: Tests completed, saturating -/
def SEQ.STEP_CNT : Fld := { blk := .seq, off := 0x180, lo := 0, width := 32, acc := .ro, reset := .val 0 }
/-- R574: Tests without a valid result, saturating -/
def SEQ.STEP_FAIL_CNT : Fld := { blk := .seq, off := 0x184, lo := 0, width := 32, acc := .ro, reset := .val 0 }
/-- R574: R567 -/
def SEQ.KEEP_POWER_MW : Fld := { blk := .seq, off := 0x188, lo := 0, width := 32, acc := .ro, reset := .val 0 }
/-- R574: Scans completed, modulo 2^32 -/
def SEQ.SCAN_CNT : Fld := { blk := .seq, off := 0x18c, lo := 0, width := 32, acc := .ro, reset := .val 0 }
/-- R593: 0x1 STORE, 0x2 RELOAD, 0x3 SLOT_WRITE, 0x4 SLOT_ERASE; others ignored -/
def NVS.NVS_CMD : Fld := { blk := .nvs, off := 0x100, lo := 0, width := 4, acc := .wo, warden := true, reset := .val 0 }
/-- R593: Command in progress -/
def NVS.BUSY : Fld := { blk := .nvs, off := 0x104, lo := 31, width := 1, acc := .ro, reset := .val 0 }
/-- R593: STORE awaiting a token (R581) -/
def NVS.PENDING : Fld := { blk := .nvs, off := 0x104, lo := 30, width := 1, acc := .ro, reset := .val 0 }
/-- R593: 0 A, 1 B -/
def NVS.BANK_IN_USE : Fld := { blk := .nvs, off := 0x104, lo := 29, width := 1, acc := .ro, reset := .val 0 }
/-- R593: [28] A, [27] B -/
def NVS.BANK_OK : Fld := { blk := .nvs, off := 0x104, lo := 27, width := 2, acc := .ro, reset := .val 3 }
/-- R593: 0 NONE, 1 DONE, 2 REFUSED, 3 FAILED; others reserved -/
def NVS.RESULT : Fld := { blk := .nvs, off := 0x104, lo := 0, width := 3, acc := .ro, reset := .val 0 }
/-- R593: Bank sequence in use -/
def NVS.SEQ_IN_USE : Fld := { blk := .nvs, off := 0x108, lo := 0, width := 32, acc := .ro, reset := .val 0 }
/-- R593: R579 -/
def NVS.SLOT_ID : Fld := { blk := .nvs, off := 0x10c, lo := 0, width := 8, acc := .rw, warden := true, reset := .val 0 }
/-- R593: Source buffer -/
def NVS.SLOT_ADDR : Fld := { blk := .nvs, off := 0x110, lo := 0, width := 64, acc := .rw, warden := true, reset := .val 0 }
/-- R593: Bytes -/
def NVS.SLOT_LEN : Fld := { blk := .nvs, off := 0x118, lo := 0, width := 32, acc := .rw, warden := true, reset := .val 0 }
/-- R593: Stores to bank A, saturating -/
def NVS.STORES_A : Fld := { blk := .nvs, off := 0x11c, lo := 0, width := 32, acc := .ro, reset := .val 0 }
/-- R593: Stores to bank B, saturating -/
def NVS.STORES_B : Fld := { blk := .nvs, off := 0x120, lo := 0, width := 32, acc := .ro, reset := .val 0 }
/-- R593: Writes below 60 store 60 -/
def NVS.STORE_REFILL_S : Fld := { blk := .nvs, off := 0x124, lo := 16, width := 16, acc := .rwp, clamp := .lower 60, reset := .val 450 }
/-- R593: Writes of 0 store 1, above 16 store 16 -/
def NVS.STORE_BURST : Fld := { blk := .nvs, off := 0x124, lo := 0, width := 5, acc := .rwp, clamp := .both 1 16, reset := .val 16 }
/-- R593: Tokens now -/
def NVS.TOKENS : Fld := { blk := .nvs, off := 0x128, lo := 0, width := 5, acc := .ro, reset := .val 16 }
/-- R593: Fields skipped by the last RELOAD -/
def NVS.RELOAD_SKIP : Fld := { blk := .nvs, off := 0x12c, lo := 0, width := 32, acc := .ro, reset := .val 0 }
/-- R593: Bit r: row r of Table 19-3 INVALID -/
def NVS.FAST_BAD : Fld := { blk := .nvs, off := 0x130, lo := 0, width := 7, acc := .ro, reset := .val 0 }
/-- R594: Management Ethernet on -/
def MGT.ETH_EN : Fld := { blk := .mgt, off := 0x100, lo := 8, width := 1, acc := .rwp, reset := .val 1 }
/-- R594: I3C target on -/
def MGT.I3C_EN : Fld := { blk := .mgt, off := 0x100, lo := 7, width := 1, acc := .rwp, reset := .val 1 }
/-- R594: SMBus address -/
def MGT.SMB_ADDR : Fld := { blk := .mgt, off := 0x100, lo := 0, width := 7, acc := .rwp, reset := .val 100 }
/-- R594: I3C static address -/
def MGT.I3C_ADDR : Fld := { blk := .mgt, off := 0x104, lo := 0, width := 7, acc := .rwp, reset := .val 48 }
/-- R594: UDP port -/
def MGT.TARAIVI_PORT : Fld := { blk := .mgt, off := 0x108, lo := 16, width := 16, acc := .rwp, reset := .val 7162 }
/-- R594: Writes below 100 store 100 -/
def MGT.ALARM_RETRY_MS : Fld := { blk := .mgt, off := 0x108, lo := 0, width := 16, acc := .rwp, stage := true, clamp := .lower 100, reset := .val 500 }
/-- R594: Management MAC -/
def MGT.MGMT_MAC : Fld := { blk := .mgt, off := 0x110, lo := 0, width := 48, acc := .rwp, reset := .val 0 }
/-- R594: IPv4 as an IPv4-mapped IPv6 address -/
def MGT.MGMT_IP : Fld := { blk := .mgt, off := 0x120, lo := 0, width := 128, acc := .rwp, reset := .val 0 }
/-- R594: Collector c, 0–1 -/
def MGT.COLLECTOR_IP : Fld := { blk := .mgt, off := 0x140, lo := 0, width := 128, acc := .rwp, stage := true, stride := 0x10, cnt := 2, reset := .val 0 }
/-- R594: Collector c in use -/
def MGT.VALID : Fld := { blk := .mgt, off := 0x160, lo := 63, width := 1, acc := .rwp, stage := true, stride := 0x8, cnt := 2, reset := .val 0 }
/-- R594: 1: send by MCTP to EID -/
def MGT.VIA_MCTP : Fld := { blk := .mgt, off := 0x160, lo := 62, width := 1, acc := .rwp, stage := true, stride := 0x8, cnt := 2, reset := .val 0 }
/-- R594: Collector EID -/
def MGT.EID : Fld := { blk := .mgt, off := 0x160, lo := 48, width := 8, acc := .rwp, stage := true, stride := 0x8, cnt := 2, reset := .val 0 }
/-- R594: Next-hop MAC -/
def MGT.NEXT_MAC : Fld := { blk := .mgt, off := 0x160, lo := 0, width := 48, acc := .rwp, stage := true, stride := 0x8, cnt := 2, reset := .val 0 }
/-- R594: [23:16] SMBus, [15:8] I3C, [7:0] PCIe VDM -/
def MGT.EIDS : Fld := { blk := .mgt, off := 0x170, lo := 0, width := 24, acc := .ro, reset := .val 0 }
/-- R594: Alarms sent, saturating -/
def MGT.ALARM_SENT : Fld := { blk := .mgt, off := 0x174, lo := 0, width := 32, acc := .ro, reset := .val 0 }
/-- R594: Requests refused under R591, saturating -/
def MGT.AUTH_REJECT : Fld := { blk := .mgt, off := 0x178, lo := 0, width := 32, acc := .ro, reset := .val 0 }

/-- The fields of the TOP pages. -/
def topFields : List Fld :=
  [TOP.STAGE_COMMIT, TOP.STAGE_TIMEOUT, TOP.PARTICIPANTS, TOP.APPLIED_COUNT, TOP.STAGE_GSTAT]
/-- The fields of the XLT pages. -/
def xltFields : List Fld :=
  [XLT.MEDIA_RO, XLT.RDT_BASE, XLT.RKT_BASE, XLT.EXT_BASE, XLT.SCOPE, XLT.INDEX, XLT.BUSY, XLT.DONE_COUNT, XLT.XLT_REVOKE, XLT.REVOKE_OPEN]
/-- The fields of the HP pages. -/
def hpFields : List Fld :=
  [HP.MAX_RATE, HP.L0P_EN, HP.MGMT_PF, HP.BIFURC, HP.UP, HP.CXL, HP.FLIT256, HP.MLD, HP.RATE, HP.WIDTH, HP.HOLD, HP.WRO, HP.HP_FWD_TIMEOUT, HP.REFUSE_CNT, HP.POISON_CNT, HP.BOUND, HP.TENANT]
/-- The fields of the QE pages. -/
def qeFields : List Fld :=
  [QE.QE_CTX_BASE, QE.QE_PMAP_BASE, QE.OP, QE.QID, QE.BUSY, QE.QE_DB_DROP]
/-- The fields of the MOV pages. -/
def movFields : List Fld :=
  [MOV.STATE, MOV.SCLASS, MOV.QID, MOV.CMD_ID, MOV.OPCODE, MOV.STEP, MOV.LAST_FCLASS, MOV.LAST_STATUS, MOV.LAST_FOFF, MOV.STEPS_DONE, MOV.FAULT_CNT, MOV.PREEMPT_CNT, MOV.OFFLINE, MOV.MAX_PER_CMD, MOV.PARKED, MOV.PARK_PEAK, MOV.PARK_FULL_CNT]
/-- The fields of the TIER pages. -/
def tierFields : List Fld :=
  [TIER.GRADE_EN, TIER.SLUICE_EN, TIER.QT_BASE, TIER.PIN_BASE, TIER.SCTR_BASE, TIER.T1_FRAMES, TIER.MIRROR_FRAMES, TIER.LOOSE_MIN, TIER.FREE_MIN, TIER.PATH_LEAD, TIER.CLEAN_HI, TIER.CLEAN_LO, TIER.BITTERN_MIB, TIER.SLUICE_LEAD_MS, TIER.SLUICE_LIFE_MS, TIER.DEV_BRINE, TIER.TIDE_M, TIER.PINNED, TIER.LOOSE, TIER.RISING, TIER.FREE, TIER.SCHED_RUN, TIER.ENTRIES_RUN, TIER.ON_TIME, TIER.MISSED, TIER.SLOW_PATH, TIER.SUBST, TIER.QUOTA_REFUSE]
/-- The fields of the PAN pages. -/
def panFields : List Fld :=
  [PAN.PF_DEPTH, PAN.DISCARD, PAN.STREAM_EN, PAN.PF_EN, PAN.DISABLE, PAN.STATE, PAN.DIRTY_LINES, PAN.LOCKED_LINES, PAN.HIT_CNT, PAN.MISS_CNT, PAN.WB_CNT, PAN.CE_CNT, PAN.UE_CNT, PAN.RETIRED_WAYS, PAN.LOCK_LOST_CNT, PAN.DISCARD_CNT, PAN.PAN_SCRUB_MS, PAN.OP, PAN.MAINT_BASE, PAN.MAINT_LEN, PAN.BUSY, PAN.RESULT, PAN.LOCKS_RELEASED, PAN.LINES_WRITTEN, PAN.LINES_DISCARDED, PAN.LOCK_REFUSED]
/-- The fields of the DMC pages. -/
def dmcFields : List Fld :=
  [DMC.MAX_RATE, DMC.PATROL_EN, DMC.PD_EN, DMC.WCRC_EN, DMC.DENSITY, DMC.HEIGHT, DMC.RANKS, DMC.STATE, DMC.RATE_NOW, DMC.REF_X2, DMC.TRAIN_STEP, DMC.CAP_GIB, DMC.PD_IDLE, DMC.SR_IDLE_US, DMC.MAPOUT_CE, DMC.REF_POSTPONE, DMC.RETRAIN_MS, DMC.DRIFT_PS, DMC.SCRUB_HOURS, DMC.MAPOUT, DMC.CE_CNT, DMC.UE_CNT, DMC.WCRC_CNT, DMC.CAPAR_CNT, DMC.REFAB_CNT, DMC.RETRAIN_CNT, DMC.LAT_TGT_HI, DMC.LAT_TGT_LO, DMC.URGENCY, DMC.PAIRS_USED, DMC.NCHAN, DMC.DRAM_GIB]
/-- The fields of the FLC pages. -/
def flcFields : List Fld :=
  [FLC.CH_EN, FLC.MAX_RATE, FLC.STATE, FLC.RATE_NOW, FLC.CE_PRESENT, FLC.LUN_LOST_MAP, FLC.CORR_BITS, FLC.UNRECOV_CNT, FLC.PROG_FAIL_CNT, FLC.ERASE_FAIL_CNT, FLC.OP_TIMEOUT_CNT]
/-- The fields of the FTL pages. -/
def ftlFields : List Fld :=
  [FTL.LIFE_USED_PCT, FTL.WEAR_USED_PCT, FTL.SPARE_LEFT_PCT, FTL.TEMP_MAX, FTL.TEMP_MIN, FTL.TEMP_NOW, FTL.TEMP_HOURS, FTL.CORR_BITS, FTL.READ_RETRIES, FTL.PARITY_REBUILDS, FTL.TWIN_FETCHES, FTL.UNRECOVERABLE, FTL.PROG_FAILS, FTL.ERASE_FAILS, FTL.BLOCKS_RETIRED, FTL.HEALTH_SEQ, FTL.LUNS_LOST, FTL.RAKE_POLICY, FTL.STATIC_WL_EN, FTL.RAKE_EN, FTL.FLM_STATE, FTL.MDIR_BASE, FTL.MCACHE_BASE, FTL.MAP_CACHE_GIB, FTL.RAKE_URGENT, FTL.RAKE_HI, FTL.RAKE_LO, FTL.PE_LIMIT, FTL.WEAR_SPREAD, FTL.SPARE_WARN, FTL.SCRUB_DAYS, FTL.RO_MIN_PERMILLE, FTL.VERIFY_MAX, FTL.CKPT_JOURNAL_MIB, FTL.USER_BLKS, FTL.SPARE_BLOCKS, FTL.SPARE_INIT, FTL.RESERVE_READY_MIB, FTL.RESERVE_LUNS, FTL.VICTIM_GLUN]
/-- The fields of the FTL pages. -/
def ftlFields1 : List Fld :=
  [FTL.VICTIM_BLOCK, FTL.TEMP_SRC, FTL.VICTIM_REFUSED, FTL.VICTIM_DEPTH, FTL.SYS_BLKS, FTL.RO_CLEAR]
/-- The fields of the HRV pages. -/
def hrvFields : List Fld :=
  [HRV.ACCEPT_LOSS, HRV.SHUTDOWN, HRV.REHEARSE, HRV.STEPTEST, HRV.STATE, HRV.BIND, HRV.FIRST_CAUSE, HRV.CAUSE, HRV.HRV_TIDE_CFG, HRV.HRV_RESERVE, HRV.HRV_TIDE_NOW, HRV.BANK_V_MV, HRV.BANK_C_MF, HRV.BANK_ESR_UOHM, HRV.V_MIN_MV, HRV.P_HARV_W, HRV.P_DEFAULT_W, HRV.HOLDUP_EFF_PCT, HRV.E_MARGIN_PCT, HRV.RATE_MBPS, HRV.T_RESUME_MS, HRV.STEPTEST_MIN, HRV.REHEARSE_DAYS, HRV.LAST_HARVEST_MIB, HRV.LAST_HARVEST_MS, HRV.RESTORE_BOUND_MS, HRV.HARVEST_SEQ, HRV.RESTORE_BAD_UNITS]
/-- The fields of the TWN pages. -/
def twnFields : List Fld :=
  [TWN.ALONE_OK, TWN.PAIR_ACCEPT, TWN.RECLAIM_EN, TWN.STATE, TWN.UNIT, TWN.IN_SYNC, TWN.CLAIM_W_IN, TWN.CLAIM_W_DRV, TWN.ALIVE_IN_OK, TWN.BUNDLES, TWN.SERVE, TWN.PREF_MASK, TWN.SAMPLE_N, TWN.HANDOFF_MAX_MS, TWN.RECLAIM_HOLD_S, TWN.FORM_WAIT_S, TWN.HANDOFF_OP, TWN.GROUP, TWN.RSM_BASE, TWN.RSM_COUNT, TWN.DIGEST_MISMATCH, TWN.DIVERGE_CNT, TWN.DUAL_READS, TWN.RETX_CNT, TWN.TAKEOVER_CNT, TWN.HANDOFF_CNT, TWN.LINK_DOWN_CNT, TWN.TWN_CLAIM_LOCAL, TWN.TWN_CLAIM_PEER]
/-- The fields of the CMP pages. -/
def cmpFields : List Fld :=
  [CMP.PFC_PRIO, CMP.PFC_EN, CMP.SPLIT, CMP.LINK_UP, CMP.MAC_ADDR, CMP.RX_FRAMES, CMP.TX_FRAMES, CMP.FCS_ERR, CMP.RX_DROP, CMP.CE_MARKED, CMP.PFC_PAUSE, CMP.IP_ADDR]
/-- The fields of the CME pages. -/
def cmeFields : List Fld :=
  [CME.NODE_ID, CME.UDP_PORT, CME.DSCP, CME.CONN_BASE, CME.KEY_BASE, CME.PATH_BASE, CME.CLAIM_BASE, CME.MSG_TIMEOUT, CME.INIT_TIMEOUT, CME.NACK_DELAY, CME.RTO_US, CME.ACK_COAL, CME.RETX_MAX, CME.AUTH_FAIL_MAX, CME.REKEY_AT, CME.HOLD_FREE, CME.MSG_FREE, CME.CONN_OPEN, CME.AUTH_FAIL, CME.HOLD_DROP, CME.MSG_TIMEOUTS, CME.VIOL_TX, CME.VIOL_RX, CME.STALE_CLAIM_DROP, CME.LATE_PKT, CME.OP, CME.CONN_IDX, CME.BUSY]
/-- The fields of the CIP pages. -/
def cipFields : List Fld :=
  [CIP.MIN_TWN, CIP.MIN_CMN, CIP.MIN_FLM, CIP.LANES_OK, CIP.AUTH_FAIL_CNT, CIP.HOLD_FULL_CNT, CIP.LENGTH_ERR_CNT, CIP.JOB_SRC, CIP.JOB_DST, CIP.JOB_LEN, CIP.JOB_OP, CIP.KEY_SLOT, CIP.AAD_LEN, CIP.JOB_IV, CIP.BUSY, CIP.JOB_STATUS, CIP.START, CIP.KEY_DATA, CIP.KEY_LOAD, CIP.KEY_SEL]
/-- The fields of the HSH pages. -/
def hshFields : List Fld :=
  [HSH.SRC, HSH.DST, HSH.SRC_LEN, HSH.DST_LEN, HSH.OP, HSH.START, HSH.BUSY, HSH.VERIFY_PASS, HSH.STATUS]
/-- The fields of the WDN pages. -/
def wdnFields : List Fld :=
  [WDN.STAGE, WDN.DEBUG_LEVEL, WDN.SVC_BANK, WDN.WDN_SLOT, WDN.KEYS_SEALED, WDN.ACT_STATE, WDN.SVN_WDN, WDN.SVN_SVC, WDN.ACT_TIMEOUT_MS, WDN.WDT_MS, WDN.SVC_WDT_MS, WDN.WDT_FEED, WDN.SVC_RESTARTS, WDN.OPCODE, WDN.SEQ, WDN.LEN, WDN.DONE, WDN.RSP_SEQ, WDN.STATUS, WDN.BUF_ADDR, WDN.PAYLOAD]
/-- The fields of the EVF pages. -/
def evfFields : List Fld :=
  [EVF.ROUTE_IDX, EVF.ROUTE_DATA, EVF.CHAN_IDX, EVF.CHAN_DATA, EVF.CHAN_ACK, EVF.PENDING, EVF.TRACE_DROP, EVF.SRC_FOLD, EVF.ALERT_FAULT, EVF.ALERT_DRV]
/-- The fields of the REC pages. -/
def recFields : List Fld :=
  [REC.RATE_MS, REC.RATE_MID, REC.RATE_LO, REC.RATE_HI, REC.ALARM_MS, REC.ALARM_SEV, REC.HEAD_SEQ, REC.SPILLED_SEQ, REC.CLEARED_SEQ, REC.OVW_CNT, REC.LOST_CNT, REC.RSV_USED, REC.ALARM_DROP, REC.SPILLING, REC.CLEAR_UPTO]
/-- The fields of the CLK pages. -/
def clkFields : List Fld :=
  [CLK.REF_REVERT, CLK.REF_PREF, CLK.ROOT_STATE, CLK.REF_A_OK, CLK.REF_B_OK, CLK.REF_IN_USE, CLK.AON_SRC, CLK.DPLL_LOCK, CLK.LOCK_N, CLK.LOCK_WIN, CLK.FAB_SEL, CLK.PAN_SEL, CLK.CORE_SEL, CLK.BUSY, CLK.RESULT, CLK.COMMIT, CLK.CLK_DIV_NOW, CLK.EN, CLK.FMT, CLK.LEVEL, CLK.SRC, CLK.CKOUT_FAULT, CLK.CKOUT_ON, CLK.TIME_NS, CLK.TIME_SET]
/-- The fields of the PWR pages. -/
def pwrFields : List Fld :=
  [PWR.IDLE_TIME, PWR.MODE, PWR.STATE, PWR.REFUSE, PWR.WAKE_CNT, PWR.PWR_WAKE_LATCH, PWR.PWR_DOM_RESET, PWR.WAKE_FAIL_CNT]
/-- The fields of the SEQ pages. -/
def seqFields : List Fld :=
  [SEQ.FAULT_CLR, SEQ.POWER_DOWN, SEQ.POWER_UP, SEQ.STATE, SEQ.FAULT_N_DRV, SEQ.FAULT_N_IN, SEQ.ADC_CORES, SEQ.STEP_ACTIVE, SEQ.DEV_GOOD, SEQ.RAIL_ON, SEQ.RAIL_GOOD, SEQ.RAIL_FAULT, SEQ.RAIL_WARN, SEQ.RAIL_IDX, SEQ.RAIL_DATA, SEQ.TABLE_RESULT, SEQ.TABLE_COMMIT, SEQ.ERR_ROW, SEQ.ERR_CODE, SEQ.SNS_IDX, SEQ.GAIN, SEQ.OFFSET, SEQ.SNS_VALUE, SEQ.TEMP_IDX, SEQ.FAULT_C, SEQ.WARN_C, SEQ.TEMP_SHUT, SEQ.TEMP_VALUE, SEQ.STEP_MS, SEQ.BANK_FULL_MV, SEQ.LAST_C_MF, SEQ.LAST_ESR_UOHM, SEQ.STEP_CNT, SEQ.STEP_FAIL_CNT, SEQ.KEEP_POWER_MW, SEQ.SCAN_CNT]
/-- The fields of the NVS pages. -/
def nvsFields : List Fld :=
  [NVS.NVS_CMD, NVS.BUSY, NVS.PENDING, NVS.BANK_IN_USE, NVS.BANK_OK, NVS.RESULT, NVS.SEQ_IN_USE, NVS.SLOT_ID, NVS.SLOT_ADDR, NVS.SLOT_LEN, NVS.STORES_A, NVS.STORES_B, NVS.STORE_REFILL_S, NVS.STORE_BURST, NVS.TOKENS, NVS.RELOAD_SKIP, NVS.FAST_BAD]
/-- The fields of the MGT pages. -/
def mgtFields : List Fld :=
  [MGT.ETH_EN, MGT.I3C_EN, MGT.SMB_ADDR, MGT.I3C_ADDR, MGT.TARAIVI_PORT, MGT.ALARM_RETRY_MS, MGT.MGMT_MAC, MGT.MGMT_IP, MGT.COLLECTOR_IP, MGT.VALID, MGT.VIA_MCTP, MGT.EID, MGT.NEXT_MAC, MGT.EIDS, MGT.ALARM_SENT, MGT.AUTH_REJECT]

/-- The fields of the pages of a block, from offset 0x100 up. -/
def blkFields : Blk → List Fld
  | .top => topFields
  | .clk => clkFields
  | .pwr => pwrFields
  | .seq => seqFields
  | .evf => evfFields
  | .recd => recFields
  | .nvs => nvsFields
  | .wdn => wdnFields
  | .svc => []
  | .hp => hpFields
  | .qe => qeFields
  | .mov => movFields
  | .xlt => xltFields
  | .tier => tierFields
  | .pan => panFields
  | .dmc => dmcFields
  | .flm => flcFields ++ ftlFields ++ ftlFields1
  | .hrv => hrvFields
  | .twn => twnFields
  | .cmn => cmpFields ++ cmeFields
  | .cip => cipFields
  | .hsh => hshFields
  | .mgt => mgtFields
  | .dbg => []

end Sys2Proof.Machine
end

