-- ==== Sys2Proof/Machine/Entry.lean ====
section
/-! DEFINITION. Submission queue entries (R148, Table 5-4): the commands, their place in the 64 bytes, decoding and encoding. An entry decodes only when every reserved bit is 0, that is, when encoding what was read gives the entry back (R151). -/
namespace Sys2Proof.Machine

/-- A queue command with its fields (Table 5-4). -/
inductive QCmd where
  | copy (dst : BitVec 40) (dstOff : BitVec 64) (src : BitVec 40) (srcOff len : BitVec 64)
  | zero (h : BitVec 40) (off len : BitVec 64)
  | persist (h : BitVec 40) (off len : BitVec 64) (all : Bool)
  | raise (h : BitVec 40) (off len : BitVec 64)
  | evict (h : BitVec 40) (off len : BitVec 64)
  | sluice (h : BitVec 40) (off : BitVec 64) (count : BitVec 16) (tag : BitVec 32) (timeBase : BitVec 64)
  | sluiceCancel (tag : BitVec 32)
  | regionCreate (id : BitVec 24) (size d0 d1 : BitVec 32) (deadline : BitVec 20) (w : BitVec 4)
  | regionGrow (h : BitVec 40) (size : BitVec 32)
  | regionDelete (h : BitVec 40)
  | regionSet (h : BitVec 40) (d0 d1 : BitVec 32) (deadline : BitVec 20) (w mask : BitVec 4)
  | regOpen (h : BitVec 40) (base len : BitVec 64) (w r nodeAny : Bool) (node : BitVec 18)
  | revoke (key : BitVec 32)
  | rwrite (h : BitVec 40) (off : BitVec 64) (conn : BitVec 24) (rkey : BitVec 32) (roff len : BitVec 64) (flagged : Bool)
  | rread (h : BitVec 40) (off : BitVec 64) (conn : BitVec 24) (rkey : BitVec 32) (roff len : BitVec 64) (flagged : Bool)
  | abort (target : BitVec 16)
  | nop
deriving DecidableEq, Repr

/-- The 8 bytes common to every entry (R148) with the command. -/
structure QEntry where
  fence : Bool
  notify : Bool
  cmdId : BitVec 16
  timeout : BitVec 20
  cmd : QCmd
deriving DecidableEq, Repr

/-- A field of n bits at bit k of an entry. -/
def putAt {n : Nat} (k : Nat) (v : BitVec n) : BitVec 512 := v.setWidth 512 <<< k
/-- The field of n bits at bit k of an entry. -/
def getAt (e : BitVec 512) (k n : Nat) : BitVec n := e.extractLsb' k n
/-- A flag as one bit. -/
def flagBit (b : Bool) : BitVec 1 := BitVec.ofBool b

/-- The opcode of a command (Table 5-4). -/
def QCmd.opcode : QCmd → BitVec 8
  | .copy .. => 0x01 | .zero .. => 0x02 | .persist .. => 0x03 | .raise .. => 0x10 | .evict .. => 0x11 | .sluice .. => 0x12
  | .sluiceCancel .. => 0x13 | .regionCreate .. => 0x20 | .regionGrow .. => 0x21 | .regionDelete .. => 0x22
  | .regionSet .. => 0x23 | .regOpen .. => 0x24 | .revoke .. => 0x25 | .rwrite .. => 0x30 | .rread .. => 0x31
  | .abort .. => 0x3E | .nop => 0x3F

/-- The three fields handle, offset and LENGTH at 0x08, 0x10 and 0x18. -/
def rangeBody (h : BitVec 40) (off len : BitVec 64) : BitVec 512 := putAt 64 h ||| putAt 128 off ||| putAt 192 len

/-- The fields RWRITE and RREAD share. -/
def remoteBody (h : BitVec 40) (off : BitVec 64) (conn : BitVec 24) (rkey : BitVec 32) (roff len : BitVec 64) (flagged : Bool) : BitVec 512 :=
  putAt 64 h ||| putAt 128 off ||| putAt 192 conn ||| putAt 224 rkey ||| putAt 256 roff ||| putAt 320 len ||| putAt 384 (flagBit flagged)

/-- The command-specific fields in place (Table 5-4). -/
def QCmd.body : QCmd → BitVec 512
  | .copy dst dstOff src srcOff len => putAt 64 dst ||| putAt 128 dstOff ||| putAt 192 src ||| putAt 256 srcOff ||| putAt 320 len
  | .zero h off len => rangeBody h off len
  | .persist h off len all => rangeBody h off len ||| putAt 256 (flagBit all)
  | .raise h off len => rangeBody h off len
  | .evict h off len => rangeBody h off len
  | .sluice h off count tag timeBase => putAt 64 h ||| putAt 128 off ||| putAt 192 count ||| putAt 224 tag ||| putAt 256 timeBase
  | .sluiceCancel tag => putAt 224 tag
  | .regionCreate id size d0 d1 deadline w => putAt 64 id ||| putAt 96 size ||| putAt 128 d0 ||| putAt 160 d1 ||| putAt 192 deadline ||| putAt 224 w
  | .regionGrow h size => putAt 64 h ||| putAt 128 size
  | .regionDelete h => putAt 64 h
  | .regionSet h d0 d1 deadline w mask => putAt 64 h ||| putAt 128 d0 ||| putAt 160 d1 ||| putAt 192 deadline ||| putAt 224 w ||| putAt 256 mask
  | .regOpen h base len w r nodeAny node =>
    rangeBody h base len ||| putAt 287 (flagBit w) ||| putAt 286 (flagBit r) ||| putAt 285 (flagBit nodeAny) ||| putAt 256 node
  | .revoke key => putAt 64 key
  | .rwrite h off conn rkey roff len flagged => remoteBody h off conn rkey roff len flagged
  | .rread h off conn rkey roff len flagged => remoteBody h off conn rkey roff len flagged
  | .abort target => putAt 64 target
  | .nop => 0

/-- The 64 bytes of an entry. -/
def QEntry.encode (q : QEntry) : SqEntry :=
  putAt 0 q.cmd.opcode ||| putAt 15 (flagBit q.fence) ||| putAt 14 (flagBit q.notify) ||| putAt 16 q.cmdId ||| putAt 32 q.timeout ||| q.cmd.body

/-- The command an opcode and the fields of an entry give. -/
def readCmd (e : SqEntry) : Option QCmd :=
  let h := getAt e 64 40
  let off := getAt e 128 64
  let len := getAt e 192 64
  let flag (k : Nat) : Bool := e.getLsbD k
  match (getAt e 0 8).toNat with
  | 0x01 => some (.copy h off (getAt e 192 40) (getAt e 256 64) (getAt e 320 64))
  | 0x02 => some (.zero h off len)
  | 0x03 => some (.persist h off len (flag 256))
  | 0x10 => some (.raise h off len)
  | 0x11 => some (.evict h off len)
  | 0x12 => some (.sluice h off (getAt e 192 16) (getAt e 224 32) (getAt e 256 64))
  | 0x13 => some (.sluiceCancel (getAt e 224 32))
  | 0x20 => some (.regionCreate (getAt e 64 24) (getAt e 96 32) (getAt e 128 32) (getAt e 160 32) (getAt e 192 20) (getAt e 224 4))
  | 0x21 => some (.regionGrow h (getAt e 128 32))
  | 0x22 => some (.regionDelete h)
  | 0x23 => some (.regionSet h (getAt e 128 32) (getAt e 160 32) (getAt e 192 20) (getAt e 224 4) (getAt e 256 4))
  | 0x24 => some (.regOpen h off len (flag 287) (flag 286) (flag 285) (getAt e 256 18))
  | 0x25 => some (.revoke (getAt e 64 32))
  | 0x30 => some (.rwrite h off (getAt e 192 24) (getAt e 224 32) (getAt e 256 64) (getAt e 320 64) (flag 384))
  | 0x31 => some (.rread h off (getAt e 192 24) (getAt e 224 32) (getAt e 256 64) (getAt e 320 64) (flag 384))
  | 0x3E => some (.abort (getAt e 64 16))
  | 0x3F => some .nop
  | _ => none

/-- Decode an entry: none for an unknown opcode or a nonzero reserved bit (R151). -/
def QEntry.decode (e : SqEntry) : Option QEntry :=
  match readCmd e with
  | none => none
  | some c =>
    let q : QEntry := { fence := e.getLsbD 15, notify := e.getLsbD 14, cmdId := getAt e 16 16, timeout := getAt e 32 20, cmd := c }
    if q.encode = e then some q else none

/-- Region ID and GEN of a handle. -/
def handleId (h : BitVec 40) : Nat := h.toNat / 65536
def handleGen (h : BitVec 40) : Nat := h.toNat % 65536

end Sys2Proof.Machine
end

