-- ==== Sys2Proof/Machine/State/Base.lean ====
section
/-! DEFINITION. State of the control space, the event fabric and the recorder (02, 16), and the sparse table every store of the model is held in. -/
namespace Sys2Proof.Machine

/-- A sparse table: pairs of a key and a value, keys strictly rising. -/
abbrev Table (α : Type) := List (Nat × α)

/-- A record of the recorder (R512): its CRC-32C is a function of the rest. -/
structure Record where
  time : Nat
  seq : Nat
  code : Nat
  sev : Nat
  forced : Bool
  boot : Bool
  rsv : Bool
  summary : Bool
  inst : Nat
  payload : List Byte
deriving DecidableEq, Repr

/-- A count of folded occurrences with what its summary record needs (Table 16-7). -/
structure Fold where
  count : Nat
  first : Nat
  last : Nat
  lastInst : Nat
  insts : List Nat
  sev : Nat
  payload : List Byte
deriving DecidableEq, Repr

/-- The limiter of one record code (R517): records written in the window, per severity class, and the fold. -/
structure Limiter where
  lo : Nat
  mid : Nat
  hi : Nat
  fold : Option Fold
deriving DecidableEq, Repr

/-- A slot of the ring: its record, and whether it has been spilled or cleared (a free slot, R513). -/
structure Slot where
  entry : Record
  free : Bool
deriving DecidableEq, Repr

/-- An alarm message (R592). -/
structure Alarm where
  code : Nat
  inst : Nat
  sev : Nat
  aggregate : Bool
  deviceWide : Bool
  count : Nat
  first : Nat
  last : Nat
  firstSeq : Nat
  payload : List Byte
deriving DecidableEq, Repr

/-- An entry of the alarm forwarder (R522): the alarms counted in its window. -/
structure FwdEntry where
  code : Nat
  inst : Nat
  sev : Nat
  count : Nat
  first : Nat
  last : Nat
  firstSeq : Nat
  payload : List Byte
deriving DecidableEq, Repr

/-- An alarm sent and not yet acknowledged (R592): its correlation and what is resent. -/
structure SentAlarm where
  corr : Nat
  alarm : Alarm
deriving DecidableEq, Repr

structure EvfState where
  /-- route table: entries that are not 0 (R505) -/
  routes : Table Nat
  /-- channel table: entries that are not 0; channel 0 is fixed (R506) -/
  chans : Table Nat
  /-- PENDING per channel (R508) -/
  pending : Table Nat
  /-- normal and reserved credits a block has used (R511) -/
  credits : Table (Nat × Nat)
  /-- fold counts per source (R511) -/
  folds : Table Fold
deriving DecidableEq, Repr

structure RecState where
  /-- the ring's written slots (R513) -/
  slots : Table Slot
  /-- the general slot the next record goes to (R514) -/
  wpos : Nat
  /-- the spill ring in the metadata pool (R515), by sequence number -/
  spill : List Record
  /-- limiters by code (R517) -/
  limiters : Table Limiter
  /-- open forwarder entries (R522) -/
  fwd : List FwdEntry
  /-- the device-wide forwarder entry (R522) -/
  fwdAll : Option FwdEntry
  /-- alarms sent and not acknowledged, oldest first (R523, R592) -/
  sent : List SentAlarm
  /-- correlation number of the next alarm -/
  nextCorr : Nat
  /-- a spill has taken place since cold reset (BOOT flag, Table 16-5) -/
  spilledOnce : Bool
deriving DecidableEq, Repr

/-- A staged change of one page waiting for its safe point (R63): field key and new value. -/
structure Staged where
  page : Page
  key : Nat
  value : Nat
deriving DecidableEq, Repr

/-- A participant of the commit in flight (R56, R59): whether it has applied, and whether it has restored. -/
structure Participant where
  page : Page
  applied : Bool
  restored : Bool
deriving DecidableEq, Repr

/-- A control access stalled until its page's domain is ON (R41, R545). -/
structure Stalled where
  req : Requester
  off : BitVec 32
  size : Nat
  write : Bool
  data : BitVec 64
deriving DecidableEq, Repr

structure CtlState where
  /-- shadows: values by field key (R55) -/
  shadow : Table Nat
  /-- old values kept for rollback, by field key (R56) -/
  old : Table Nat
  /-- single-page changes waiting for their safe point (R63) -/
  single : List Staged
  parts : List Participant
  stalled : List Stalled
deriving DecidableEq, Repr

end Sys2Proof.Machine
end

