-- ==== Sys2Proof/Machine/State/Data.lean ====
section
/-! DEFINITION. State of translation, host ports, queues, movers, tiers and the pan (03 to 08). -/
namespace Sys2Proof.Machine

/-- The completion status codes (Table 5-6). -/
inductive Status where
  | ok | okSubstituted | okSlowPath | retainedShared | accessViolation | keyRevoked | keyStale | lengthError | authFail
  | mediaReadOnly | mediaError | quotaExceeded | timeout | incompleteMessage | fenced | aborted | internal
deriving DecidableEq, Repr

/-- What a 64 B sector of the pool holds: its data, and whether it is poisoned (R109). -/
structure SectorVal where
  data : Sector
  poison : Bool
deriving DecidableEq, Repr

/-- A region descriptor (Table 3-1). -/
structure Region where
  valid : Bool
  ro : Bool
  pclass : Nat
  grp : Nat
  share : Bool
  levels : Nat
  tenant : Nat
  elemFmt : Nat
  gradeFmt : Nat
  subst : Nat
  pathMask : BitVec 4
  gen : Nat
  size : Nat
  deadline : Nat
  root : Nat
  flushDb : Nat
  substCtr : Nat
  remoteOk : Bool
  queueW : Bool
  hostW : Bool
  remoteW : Bool
  check : Nat
deriving DecidableEq, Repr

/-- A block map entry (Table 3-2). -/
structure Bme where
  alloc : Bool
  zero : Bool
  pbn : Nat
  chk : Nat
deriving DecidableEq, Repr

/-- STATE of an extent (R78). -/
inductive ExtState where
  | free | active | releasing
deriving DecidableEq, Repr

/-- An extent descriptor (R78), with the logical device it belongs to and whether its directory entries are filled (R79). -/
structure Extent where
  state : ExtState
  r : Bool
  w : Bool
  tenant : Nat
  dpaBase : Nat
  length : Nat
  region : Nat
  regionGen : Nat
  regionOff : Nat
  port : Nat
  ld : Nat
  listed : Bool
  reported : Bool
  check : Nat
deriving DecidableEq, Repr

/-- STATE of a registration (Table 3-4). -/
inductive RegState where
  | free | opened | closing
deriving DecidableEq, Repr

/-- A registration descriptor (Table 3-4), with the time its slot became FREE (R84). -/
structure Registration where
  state : RegState
  gen : Nat
  w : Bool
  r : Bool
  nodeAny : Bool
  tenant : Nat
  region : Nat
  regionGen : Nat
  node : Nat
  baseOff : Nat
  length : Nat
  revokeStamp : Nat
  inflight : Nat
  refused : Nat
  check : Nat
  freedAt : Option Nat
deriving DecidableEq, Repr

/-- The copy a translation cache holds (Table 3-6). -/
inductive XCopy where
  | window (d : WindowDesc)
  | extent (d : Extent)
  | region (d : Region)
  | dir (leaf : Nat)
  | block (d : Bme)
  | registration (d : Registration)
deriving DecidableEq, Repr

/-- A cache entry: key, copy, NRU reference bit (R616). -/
structure CacheEntry where
  key : XKey
  copy : XCopy
  used : Bool
deriving DecidableEq, Repr

/-- Why the warden waits for an invalidation (R74, R79, R81). -/
inductive InvalFor where
  | none
  | command (qid cmdId : Nat)
  /-- REGION_CREATE, whose answer is the handle -/
  | create (qid cmdId handle : Nat)
  /-- REGION_DELETE of a region, a change of class from D to M, a change to class V (R73, R9, R10) -/
  | delete (qid cmdId region : Nat)
  | toM (qid cmdId region : Nat)
  | toV (qid cmdId region : Nat)
  | extent (e : Nat)
  | window (w : Nat)
deriving DecidableEq, Repr

/-- An invalidation: scope and index of XLT_INVAL, and what waits for it. -/
structure Inval where
  scope : Nat
  index : Nat
  waiter : InvalFor
deriving DecidableEq, Repr

structure XltState where
  regions : Table Region
  /-- block map entries by region × 2^32 + block index -/
  bmap : Table Bme
  windows : Table WindowDesc
  extents : Table Extent
  registrations : Table Registration
  caches : List CacheEntry
  /-- fills in flight (R91) -/
  fills : List CacheEntry
  invalBusy : Option Inval
  invalQueue : List Inval
  /-- invalidations that found the queue full and that the warden issues again -/
  invalRetry : List Inval
  /-- the registration table has not been served since a harvest or reset (R96) -/
  sweep : Bool
deriving DecidableEq, Repr

/-- MSI-X of one function: enable, unmasked vectors, PBA (R509). -/
structure MsixFn where
  enable : Bool
  unmasked : List Nat
  pba : List Nat
deriving DecidableEq, Repr

/-- A CXL event record (R121, Tables 4-7, 4-9). -/
structure CxlEvent where
  handle : Nat
  time : Nat
  memModule : Bool
  kind : String
  dpa : Nat
  window : Nat
  status : Nat
deriving DecidableEq, Repr

/-- One event log (R121): at most 64 records, overflow flag and count, interrupt policy. -/
structure EventLog where
  records : List CxlEvent
  overflow : Bool
  lost : Nat
  intEnable : Bool
  vector : Nat
deriving DecidableEq, Repr

/-- The set of writes a GPF covers (R113, R114): its place in the order of barriers (R18) and the regions it reaches, mirror records outstanding at the coverage point, blocks that wait for resync, and whether a fencing has ended some of them (R115). -/
structure Gpf where
  id : Nat
  regions : List Nat
  covered : List Nat
  phase2 : Bool
  blocks : List Nat
  fenced : Bool
deriving DecidableEq, Repr

/-- State of a logical device slot. -/
structure LdState where
  memEnable : Bool
  logs : List EventLog
  nextHandle : Nat
  poison : List Nat
  poisonOverflow : Option Nat
  poisonCursor : Nat
  gpf : Option Gpf
  /-- a fencing has ended writes accepted here, and no GPF has reported it yet (R115) -/
  fencedOut : Bool
  alertConfig : BitVec 96
  timeOffset : Int
  allocUnits : Nat
  qosAlloc : BitVec 8
  qosLimit : BitVec 8
  /-- DC regions configured: base and length (Table 4-13) -/
  dcRegions : Table (Nat × Nat)
  /-- configuration registers written that no rule gives an effect -/
  config : Table Nat
  /-- extents of a Release DC that still wait for their invalidation (R79, R130) -/
  release : Option (List Nat)
  /-- extents whose release the Fabric Manager has asked for and which wait for their invalidation (R79) -/
  fmRelease : List Nat
deriving DecidableEq, Repr

/-- A write whose Cmp is not yet returned (R105): its mirror record, or refused, or held. -/
structure CmpWait where
  port : Nat
  ld : Nat
  link : Nat
  tag : Nat
  mirror : Option Nat
  held : Bool
  foreign : Option Nat
deriving DecidableEq, Repr

/-- A foreign-window access forwarded (R122, R442). -/
structure Forward where
  port : Nat
  ld : Nat
  tag : Nat
  read : Bool
  window : Nat
  dpa : Nat
  conn : Nat
  msn : Option Nat
  /-- a write that waits for an earlier one to its sector: data, enables, poison (R442) -/
  pend : Option (Sector × BitVec 64 × Bool)
deriving DecidableEq, Repr

/-- State of a link: PERST level, viral, dropped for viral (R126, R128). -/
structure LinkState where
  perst : Bool
  viral : Bool
deriving DecidableEq, Repr

/-- A write of Inject Poison or Clear Poison that is accepted and waits for its mirror record (R105, R112). -/
structure MbWait where
  port : Nat
  ld : Nat
  op : Nat
  dpa : Nat
  mirror : Option Nat
deriving DecidableEq, Repr

structure HpState where
  lds : Table LdState
  msix : Table MsixFn
  links : Table LinkState
  /-- HDM decoders committed, by window ID (R77) -/
  decoders : Table (Nat × Nat)
  released : Bool
  memoryActive : Bool
  infoValid : Bool
  /-- restore bound advertised, ms (R118) -/
  activeBound : Nat
  cmps : List CmpWait
  forwards : List Forward
  /-- writes of mailbox commands that wait for the mirror -/
  mbWaits : List MbWait := []
  injectEnabled : Bool
  /-- size of BAR0 of the LD functions as a power of two, and the Subsystem ID (Table 4-3) -/
  bar0Log : Nat
  subId : Nat
  qosControl : Table (BitVec 64)
  readOnlySeen : Bool
deriving DecidableEq, Repr

/-- STATE of a queue (Table 5-1). -/
inductive QState where
  | disabled | active | paused | error
deriving DecidableEq, Repr

/-- A queue context (Table 5-1). -/
structure QueueCtx where
  valid : Bool
  state : QState
  sclass : Nat
  weight : Nat
  tenant : Nat
  sqLog2 : Nat
  cqLog2 : Nat
  maxInflight : Nat
  ldSlot : Nat
  port : Nat
  ringHandle : Nat
  sqOff : Nat
  cqOff : Nat
  sqHead : Nat
  sqTail : Nat
  cqHead : Nat
  cqTail : Nat
  cqPhase : Bool
  armed : Bool
  vector : Nat
  coalCount : Nat
  coalTime : Nat
  cmdTimeout : Nat
  errReason : Nat
  inflight : Nat
  dbPage : Nat
  doneCnt : Nat
  check : Nat
  /-- completions not yet notified (R162) -/
  unnotified : Nat
deriving DecidableEq, Repr

/-- A page-map entry (R138). -/
structure PageMap where
  typ : Nat
  vecEn : Bool
  vector : Nat
  id : Nat
deriving DecidableEq, Repr

/-- The result of a command: status, RESULT0, DETAIL, CLEAN_PREFIX where it is not computed from the cursor. -/
structure CmdResult where
  status : Status
  result0 : Nat
  detail : Nat
  prefixLen : Nat
deriving DecidableEq, Repr

/-- State of a step that is neither unclaimed nor COMPLETE (Table 6-1). -/
inductive StepState where
  | running (mover : Nat)
  | parked
  | ready
  | waiting (mover : Nat)
  | issued (mirror : List Nat) (msg : Option (Nat × Nat))
deriving DecidableEq, Repr

/-- A claimed step: index, state, retries used (R183), worst status of its data so far. -/
structure StepRec where
  index : Nat
  state : StepState
  moverRetry : Bool
  remoteRetry : Bool
  avoid : Option Nat
  slow : Status
  /-- the mover that claimed it last -/
  ran : Nat
  /-- source sectors a cheaper path has delivered (R210) -/
  got : Table SectorVal
  /-- the descriptors of destination and source as WALK has checked them (R74) -/
  dst : Region
  src : Region
deriving DecidableEq, Repr

/-- A command in flight (R174): the entry, the cursor, the terminal status met so far. -/
structure Cmd where
  qid : Nat
  cmdId : Nat
  notify : Bool
  cmd : QCmd
  tenant : Nat
  sclass : Nat
  fetched : Nat
  /-- the timeout that applies, µs, 0 for none -/
  timeout : Nat
  sqHeadAfter : Nat
  low : Nat
  complete : List Nat
  steps : List StepRec
  stop : Bool
  /-- the lowest step with a terminal fault: step, status, DETAIL: its destination block, or the status the target reported (R181, Table 5-5) -/
  fault : Option (Nat × Status × Nat)
  slow : Status
  /-- the lowest step that a source sector was written poisoned in after the cheaper-path order (R182) -/
  poisoned : Option Nat
  /-- blocks RAISE still waits for by their place in the range, blocks refused, the first error in offset order with its place (R201, R156) -/
  waitBlocks : Table Nat
  refused : Nat
  raiseErr : Option (Nat × Status)
  /-- what ABORT or a timeout ends the command with (R158); TIME_NS of that and of the fault (Table 6-3) -/
  ended : Option Status
  endedAt : Nat := 0
  faultAt : Nat := 0
  result : Option CmdResult
  /-- what the command waits for besides its steps -/
  barrier : Option Nat
  preempted : Bool
  order : Nat
  /-- its place in the order in which QE has given commands movers (R160) -/
  dispatched : Nat := 0
deriving DecidableEq, Repr

/-- Who waits for a barrier (Table 1-3). -/
inductive BarrierBy where
  | command (qid cmdId : Nat)
  | flush (doorbell : Nat) (port ld : Nat) (vector : Option Nat)
  | classChange (qid cmdId : Nat)
deriving DecidableEq, Repr

/-- A persist barrier (R15-R19): regions and claim groups covered, mirror records covered, blocks covered that wait for resync. -/
structure Barrier where
  id : Nat
  who : BarrierBy
  regions : List Nat
  groups : List Nat
  covered : List Nat
  blocks : List Nat
deriving DecidableEq, Repr

structure QeState where
  queues : Table QueueCtx
  pmap : Table PageMap
  cmds : List Cmd
  barriers : List Barrier
  nextBarrier : Nat
  nextOrder : Nat
  nextDispatch : Nat := 0
  /-- round robin among class 0 queues: the queue whose turn is next; class 2: the queue served and the steps left of its weight (Table 5-8) -/
  urgentNext : Nat
  bulkQueue : Nat
  bulkLeft : Nat
  /-- flush doorbells: ISSUED and DONE (R145) -/
  flush : Table (Nat × Nat)
  /-- QE_QCTL operation in progress: queue, and whether it is RESET -/
  qctl : Option (Nat × Bool)
  statusSeq : Nat
  /-- what the status page of a function showed last (R147) -/
  statusShown : Table (List Nat)
deriving DecidableEq, Repr

/-- What a mover works on. -/
structure MoverRun where
  qid : Nat
  cmdId : Nat
  index : Nat
  /-- waits in place (R180) -/
  inPlace : Bool
deriving DecidableEq, Repr

structure MovState where
  runs : Table MoverRun
  /-- OFFLINE written while the mover runs a step (Table 6-3) -/
  offlineNext : List Nat
  /-- steps stalled in class HOLD in arrival order: queue, CMD_ID, step (R20, R178) -/
  holds : List (Nat × Nat × Nat)
  /-- movers between two steps of a command, which another is pre-empted before (R160): queue, CMD_ID -/
  kept : Table (Nat × Nat) := []
deriving DecidableEq, Repr

/-- Residency of a tier block that is not ABSENT (R198). -/
inductive Residency where
  | rising | resident | leaving
deriving DecidableEq, Repr

/-- A 4 KiB unit of a resident block (R190, R206). -/
structure TUnit where
  present : Bool
  dirty : Bool
  /-- write stamp: group serve count and order (R380) -/
  stamp : Nat
  /-- the write-back in flight: the stamp and the sectors it took, by index in the unit (R206) -/
  wb : Option (Nat × Table SectorVal)
  failed : Bool
  /-- the class the unit's dirty data was accepted under (R8) -/
  cls : Nat
deriving DecidableEq, Repr

/-- A tier block in T1 (R198). -/
structure TBlock where
  state : Residency
  leaveReq : Bool
  charge : Option Nat
  pins : List Nat
  units : Table TUnit
  /-- units whose fill or refill is in flight (R190) -/
  filling : List Nat
  region : Nat
  used : Bool
  /-- the T1 frame it occupies (R618) -/
  frame : Nat := 0
deriving DecidableEq, Repr

/-- A quota table entry (Table 7-1). -/
structure Quota where
  t1Quota : Nat
  t2Quota : Nat
  t2Used : Nat
  check : Nat
  t1Used : Nat
  quotaRefused : Nat
  substTotal : Nat
  refuseTotal : Nat
deriving DecidableEq, Repr

/-- Who reads (R209-R211). -/
inductive RdBy where
  | cxl (port ld tag : Nat)
  | step (qid cmdId index : Nat)
  | cmn (conn msn psn : Nat)
  /-- a write of a mailbox command: Inject Poison, Clear Poison (R112) -/
  | mailbox (port ld op : Nat)
deriving DecidableEq, Repr

/-- The QoS port of its requests (Table 9-6). -/
def RdBy.qos : RdBy → Nat
  | .cxl p .. | .mailbox p .. => p
  | .step .. => 10
  | .cmn .. => 9

/-- How far a waiting read has come in the cheaper-path order (Table 7-4). -/
inductive PathStage where
  | filling | twinDram | directFlash | ended
deriving DecidableEq, Repr

/-- A read waiting for a unit (R209). -/
structure WaitRead where
  id : Nat
  who : RdBy
  region : Nat
  grp : Nat
  pbn : Nat
  unit : Nat
  sector : Nat
  window : Nat
  dpa : Nat
  t0 : Nat
  stage : PathStage
  /-- no frame was free: the unit is being read from T2 without raising the block (Table 7-2) -/
  noFrame : Bool
  /-- waits for its pan slice, not for the unit (Table 8-5) -/
  panStall : Bool
  /-- another copy is asked of the partner to compare (R401) -/
  dual : Bool
deriving DecidableEq, Repr

/-- Why a write is held (R20, R116, R190, R199, R205). -/
inductive HoldWhy where
  | tide | classD | credit | frame | unit | pan | handoff | behind
deriving DecidableEq, Repr

/-- A held write (R20). -/
structure HeldWrite where
  src : WriteSrc
  who : RdBy
  why : HoldWhy
  region : Nat
  /-- the descriptor that its checks found (R74) -/
  desc : Region
  /-- one of the sectors of a write that covers its whole unit (R190) -/
  whole : Bool
  tenant : Nat
  /-- region offset -/
  off : Nat
  data : Sector
  enable : BitVec 64
  poison : Bool
  window : Nat
  dpa : Nat
deriving DecidableEq, Repr

/-- State of a schedule entry (R218-R223). -/
inductive SluState where
  | waiting | eligible | onTime | missed | cancelled
deriving DecidableEq, Repr

/-- An entry of a running schedule (Table 7-5). -/
structure SluEntry where
  region : Nat
  blocks : List Nat
  due : Nat
  dueUs : Nat
  hold : Nat
  trigger : Option Nat
  fired : Bool
  /-- the entry has become eligible (R218, R219) -/
  elig : Bool
  state : SluState
  /-- the hold is over by HOLD_MS, or was never begun -/
  holdEnded : Bool
deriving DecidableEq, Repr

/-- A running schedule (R217): tenant and tag, the queue command, entries, worst status of the list check. -/
structure Schedule where
  tenant : Nat
  tag : Nat
  qid : Nat
  cmdId : Nat
  entries : List SluEntry
  status : Status
  completed : Bool
  /-- the time of the list check (R222) -/
  start : Nat
deriving DecidableEq, Repr

/-- A bittern unit (R225): codes and scales, stale mark, NRU bit. -/
structure BUnit where
  codes : List Byte
  scales : List Byte
  stale : Bool
  used : Bool
  region : Nat
deriving DecidableEq, Repr

/-- A request waiting for a frame (R199): block, region, the tenant that pins and the one charged, the unit whose access causes the raise, whether a write covers that unit whole (R190). -/
structure FrameWait where
  pbn : Nat
  region : Nat
  pin : Option Nat
  charge : Option Nat
  unit : Nat
  whole : Bool
deriving DecidableEq, Repr

/-- A write in the write queue of a DRAM subchannel (R290): the sector, pool sectors at 2n and sectors of mirror frames at 2n + 1, the QoS port, the time of its acceptance. -/
structure QWrite where
  sector : Nat
  port : Nat
  since : Nat
deriving DecidableEq, Repr

structure TierState where
  blocks : Table TBlock
  /-- the frames: sectors by pool sector number, unlisted = zero without poison -/
  frames : Table SectorVal
  quotas : Table Quota
  reads : List WaitRead
  nextRead : Nat
  held : List HeldWrite
  /-- requests waiting for a frame: block, pinning tenant if any, in arrival order (R199) -/
  frameWait : List FrameWait
  schedules : List Schedule
  bittern : Table BUnit
  /-- MiB of the bittern area as laid out at boot step 6 (R618) -/
  bitternMib : Nat
  /-- substitution counters by SUBST_CTR (R230) -/
  substCtr : Table Nat
  /-- counters that have substituted since they were last read (R230) -/
  substSeen : List Nat
  /-- the stamp above which a group's write stamps lie (R380) -/
  stampFloor : Table Nat
  /-- the write queues by channel × 2 + subchannel, oldest first, those in a drain from 96 to 32 entries (R290), and the time of the last write accepted to a sector (R283) -/
  writes : Table (List QWrite)
  drains : List Nat
  written : Table Nat
deriving DecidableEq, Repr

/-- One sector of a pan line (R233). -/
structure LineSec where
  valid : Bool
  dirty : Bool
  val : SectorVal
deriving DecidableEq, Repr

/-- A pan line (R232, R233). -/
structure Line where
  tag : Nat
  s0 : LineSec
  s1 : LineSec
  lock : Bool
  age : Nat
deriving DecidableEq, Repr

/-- A stride tracker (R241). -/
structure Tracker where
  who : ReadReq
  last : Nat
  stride : Int
  conf : Nat
  fetched : List Nat
deriving DecidableEq, Repr

/-- A range operation in progress (R246-R251). -/
structure PanOp where
  op : Nat
  base : Nat
  len : Nat
deriving DecidableEq, Repr

structure PanState where
  /-- valid lines by (slice × 8192 + set) × 32 + way -/
  lines : Table Line
  /-- corrected errors per way, same key (R263) -/
  wayErrs : Table Nat
  /-- retired ways, same key -/
  retired : List Nat
  trackers : List Tracker
  op : Option PanOp
deriving DecidableEq, Repr

end Sys2Proof.Machine
end

