-- ==== Sys2Proof/Machine/State/Out.lean ====
section
/-! DEFINITION. What the SK960 sends: responses on its links, interrupts, pins, messages. An item of the output list each, newest last (log entry 3). -/
namespace Sys2Proof.Machine

/-- Responses on a CXL link. -/
inductive CxlRsp where
  | memData (tag : Nat) (v : SectorVal)
  | cmp (tag : Nat)
  | gpf1Done
  | gpf2Done
  | viral
deriving DecidableEq, Repr

/-- Return codes of a mailbox or management command. -/
inductive MbCode where
  | success | unsupported | invalidInput | retry | busy | background
deriving DecidableEq, Repr

/-- A completion entry (R153). -/
structure CqEntry where
  cmdId : Nat
  status : Status
  phase : Bool
  sqHead : Nat
  prefixLen : Nat
  result0 : Nat
  detail : Nat
  elapsed : Nat
deriving DecidableEq, Repr

inductive Out where
  /-- answer of a control-space read -/
  | ctlRead (req : Requester) (off : Nat) (value : Nat)
  | cxl (port ld : Nat) (r : CxlRsp) (devLoad : Nat)
  | cfg (port ld : Nat) (mgmt : Bool) (retry : Bool) (value : Nat)
  | msix (port ld : Nat) (mgmt : Bool) (vector : Nat)
  | wardenIrq (chan : Nat)
  | clusterIrq (cluster line : Nat)
  /-- an output pin: name, index, driven level (none: released, high impedance or idle) -/
  | pin (name : String) (idx : Nat) (level : Option Bool)
  | alarm (collector corr : Nat) (a : Alarm)
  | mailbox (port ld opcode : Nat) (code : MbCode) (vals : List Nat)
  | fm (cmd : String) (code : MbCode) (vals : List Nat)
  | cq (qid : Nat) (e : CqEntry)
  | dbRead (port ld off value : Nat)
  /-- a record on the twin link (Table 12-2): type, group, sequence, address, stamp, sectors -/
  | twin (typ grp seq addr stamp : Nat) (vals : List SectorVal)
  /-- a Cemanor packet, with whether it is a request (RESP = 0) and its operation (Table 13-2) -/
  | packet (op : Nat) (p : Packet)
  /-- an answer on an MCTP binding: control or PLDM command, completion code, numbers -/
  | mctp (bind : Nat) (cmd : String) (code : Nat) (vals : List Nat)
  /-- a Taraivi response under a role: TYPE, CORR, status, the fields of the body -/
  | taraivi (role typ corr status : Nat) (vals : List Nat)
  /-- what the debug port reads -/
  | debug (bytes : List Byte)
  /-- a hint or request to a device outside the model's data: flash, DRAM, bus; name and numbers -/
  | device (what : String) (args : List Nat)
deriving DecidableEq, Repr

end Sys2Proof.Machine
end

