-- ==== Sys2Proof/Machine/State/Rest.lean ====
section
/-! DEFINITION. State of the remaining blocks. -/
namespace Sys2Proof.Machine

/-- A mirror record sent (R378) with the sectors it carries (R376): kept until it is acknowledged and its digest interval is over (R376, R400). -/
structure MirrorRec where
  id : Nat
  seq : Nat
  stamp : Nat
  region : Nat
  grp : Nat
  /-- 0 class M, 1 class D -/
  cls : Nat
  sector : Nat
  val : SectorVal
  /-- port and logical device of a CXL write -/
  port : Option (Nat × Nat)
  acked : Bool
  retx : Bool
deriving DecidableEq, Repr

/-- A unit of twin brine in the mirror frames (R379): stamp, sectors covered by index in the unit, write-back in flight. -/
structure MUnit where
  stamp : Nat
  grp : Nat
  region : Nat
  cls : Nat
  vals : Table SectorVal
  wb : Option (Nat × Table SectorVal)
  dirty : Bool
deriving DecidableEq, Repr

/-- An ordered record waiting for the records before it (R376). -/
inductive RxBody where
  | mirror (classM : Bool) (grp addr stamp : Nat) (vals : List SectorVal) (tags : List Nat)
  | brineList (pbns : List Nat)
  | resync (unit : Nat) (stamp : Nat) (vals : Option (List SectorVal))
deriving DecidableEq, Repr

/-- An applied mirror record as the digest takes it (R400). -/
structure RxApplied where
  seq : Nat
  addr : Nat
  stamp : Nat
  tags : List Nat
deriving DecidableEq, Repr

/-- A take of claims in progress (R384): the groups, whether the epoch store was retried, whether ALONE_OK or a handoff is its cause. -/
structure Take where
  groups : List Nat
  retried : Bool
  takeover : Bool
deriving DecidableEq, Repr

/-- How far pair formation has come (Table 12-3). -/
inductive FormStep where
  | none | training | linked | hello | sources | fetching
deriving DecidableEq, Repr

/-- A record or XTS unit at the cipher (R451, R455): since when, nanoseconds of lane time left, bytes of cipher hold space, the lane; none while it waits. -/
structure LaneRec where
  since : Nat
  left : Nat
  hold : Nat
  lane : Option Nat
deriving DecidableEq, Repr

structure TwnState where
  replay : List MirrorRec
  nextMirror : Nat
  /-- last ordered sequence sent, and the first of the open digest interval -/
  txSeq : Nat
  digestFrom : Nat
  /-- last ordered sequence applied, the records waiting for a gap, the records applied since they were last compared -/
  rxSeq : Nat
  rxHold : Table RxBody
  rxLog : List RxApplied
  /-- digest intervals that have mismatched once -/
  badDigest : List (Nat × Nat)
  /-- records received per bundle in the session: the count of the IV (R375) -/
  rxCount : Table Nat
  /-- twin brine by unit number, PBN × 16 + unit -/
  mirror : Table MUnit
  /-- the partner's last reported tide mark, in 4 KiB units -/
  peerTide : Nat
  peerReadOnly : Bool
  /-- the partner has said that it harvests (R352) -/
  peerHarvest : Bool
  /-- the partner has reported IN_SYNC (R411, R409) -/
  peerInSync : Bool
  /-- stored epoch per group (R384) -/
  epochs : Table Nat
  /-- marked blocks (R403), whether the scan has finished, blocks sent and not acknowledged -/
  rsm : List Nat
  scanDone : Bool
  full : Bool
  /-- units received per block in a resync (R405) -/
  resyncGot : Table (List Nat)
  /-- groups whose new writes a handoff holds, and groups handed over whose CLAIM has not arrived (R409) -/
  handoff : List Nat
  gave : List Nat
  /-- a handoff the partner asked for or this twin has asked for (R410, R411) -/
  asked : List Nat
  take : Option Take
  form : FormStep
  /-- identity digest of the stored partner (R388) -/
  pairId : Option (BitVec 512)
  /-- units restored with TWIN_REPAIR, waiting for FETCH (R390) -/
  repair : List Nat
  /-- the stored sync record: this twin was in sync, and was serving every group (R391, R407) -/
  syncInSync : Bool
  syncAll : Bool
  /-- formation stopped by R388 -/
  stopped : Bool
  /-- reads counted for sampled comparison, and the comparison in flight by unit (R401) -/
  sampleCount : Nat
  compare : Option (Nat × Nat)
  /-- sectors of brine damaged here whose twin copy is asked for (R261, R284) -/
  mend : List Nat := []
  /-- its records at the cipher lanes (R451) -/
  cipher : List LaneRec
deriving DecidableEq, Repr

/-- STATE of a connection (Table 13-3). -/
inductive ConnState where
  | free | opened | closing | down | error
deriving DecidableEq, Repr

/-- State of a path (R439). -/
inductive PathSt where
  | active | suspect | down
deriving DecidableEq, Repr

/-- A path of an open connection: its congestion window, packets acknowledged since it grew, the CE count last reported, successive RTOs, successive answered PROBEs. -/
structure PathRun where
  path : CmnPath
  state : PathSt
  window : Nat
  acked : Nat
  ce : Nat
  rtos : Nat
  probes : Nat
  /-- a PROBE sent to a DOWN path is not yet answered -/
  probeOut : Bool
deriving DecidableEq, Repr

/-- The receive windows of one key phase (R424, R428): RX_BASE and the PSNs accepted above it, control sequences seen. -/
structure RxPhase where
  base : Nat
  acc : List Nat
  ctlHigh : Nat
  ctlSeen : List Nat
deriving DecidableEq, Repr

/-- Who started a message at the initiator (R441). -/
inductive InitBy where
  | step (qid cmdId index : Nat)
  | foreign (port ld tag : Nat)
deriving DecidableEq, Repr

/-- An unresolved message at the initiator: read data by byte offset of the message, bytes received. -/
structure InitMsg where
  msn : Nat
  who : InitBy
  read : Bool
  total : Nat
  rkey : Nat
  off : Nat
  got : List (Nat × List Byte × BitVec 128)
  gotBytes : Nat
  worst : Status
deriving DecidableEq, Repr

/-- A reliable packet prepared or sent and not acknowledged: phase, path, sends. -/
structure TxPkt where
  op : Nat
  phase : Bool
  path : Nat
  sends : Nat
  pkt : Packet
deriving DecidableEq, Repr

/-- A message slot at the target (R430): admission, extent, bytes placed, writes held, mirror records awaited, sectors read. -/
structure TgtMsg where
  msn : Nat
  reg : Nat
  rkey : Nat
  read : Bool
  flagged : Bool
  first : Option Nat
  final : Option Nat
  total : Option Nat
  placed : Nat
  held : Nat
  mirrors : List Nat
  worst : Status
  grp : Nat
  off : Nat
  want : Nat
  got : Table SectorVal
deriving DecidableEq, Repr

/-- A connection (Table 13-3): the warden's fields, CMN's fields, both receive phases, what is sent and what is open. -/
structure Conn where
  state : ConnState
  gen : Nat
  desc : ConnDesc
  keys0 : Option ConnKeys
  keys1 : Option ConnKeys
  phase : Bool
  nextReady : Bool
  txPsn : Nat
  /-- next control sequence of each key phase (R424) -/
  txCtl0 : Nat
  txCtl1 : Nat
  txMsn : Nat
  rx0 : RxPhase
  rx1 : RxPhase
  msnBase : Nat
  resolved : List Nat
  ceCount : Nat
  /-- accepted reliable packets since the last ACK -/
  owed : Nat
  /-- the PSNs that a NACK has named: phase, PSN, time (R429) -/
  nacked : List (Bool × Nat × Nat)
  paths : Table PathRun
  unacked : List TxPkt
  txq : List TxPkt
  inits : List InitMsg
  tgts : List TgtMsg
  holds : List Packet
  viol : Nat
  authFail : Nat
  /-- times of the tag failures of the last millisecond (R426) -/
  authAt : List Nat
  check : Nat
  freedAt : Option Nat
deriving DecidableEq, Repr

/-- A packet in a receive buffer, with what its row brings beside it (R456). -/
inductive RxMsg where
  | write (p : Packet)
  | masked (p : Packet)
  | read (p : Packet)
  | writeCmp (p : Packet)
  | readResp (p : Packet)
  | ack (p : Packet) (ackPsn ceCount : BitVec 32)
  | nack (p : Packet) (ranges : List (Nat × Nat))
  | notice (p : Packet) (status : BitVec 8)
  | probe (p : Packet) (path : Fin 8)
  | rekeyReady (p : Packet) (phase : Bool)
  | close (p : Packet) (status : BitVec 8)
deriving DecidableEq, Repr

structure CmnState where
  conns : Table Conn
  /-- the claim table: highest claim by appliance × 16 + group (R440) -/
  claims : Table Nat
  /-- priorities paused per Ethernet port (R417) -/
  paused : Table Nat
  /-- its records at the cipher lanes (R451) -/
  cipher : List LaneRec
  /-- packets that wait in the receive buffers for hold space (R456), oldest first: port, bytes, packet -/
  rxWait : List (Nat × Nat × RxMsg)
deriving DecidableEq, Repr

structure PwrState where
  /-- wakes latched per domain with the channel signalled (R544) -/
  latched : List (Nat × Nat)
  /-- domains a harvest has shed and holds off (R549) -/
  shed : List Nat
  /-- domains that wake from OFF, which ends in a domain reset (R545) -/
  fromOff : List Nat
deriving DecidableEq, Repr

/-- A training in progress (R274, R275): whether it is a restored one, whether a cold training has failed once. -/
structure TrainRun where
  restored : Bool
  retried : Bool
deriving DecidableEq, Repr

structure DmcState where
  training : Table TrainRun
  /-- refresh debts of bank indexes 0 to 3 by channel × 4 + rank (R293); unlisted: all 0 -/
  debts : Table (List Nat)
  /-- times of the corrected errors of the last hour, by device (R282) -/
  ces : Table (List Nat)
  /-- corrected errors per row (R286) -/
  rowCes : Table Nat
  /-- the rank that a channel retrains (R276) -/
  retraining : Table Nat
  /-- ranks in power-down (R297), ranks at the doubled refresh rate (R296) -/
  pdRanks : List Nat
  x2Ranks : List Nat
  /-- by rank and subchannel: the write rejected last and how often; 10: replayed after the retraining (R279) -/
  wcrc : Table (Nat × Nat)
  /-- by channel × 2 + subchannel: writes issued so far, and the last 64 of them (R279) -/
  issued : Table Nat := []
  replay : Table (List Nat) := []
  /-- by channel × 4 + rank: the time of the last request (R297, R298) -/
  asked : Table Nat := []
  /-- channels that leave self-refresh, and those that must enter it again once they have left (R299) -/
  leaving : List Nat := []
  srWait : List Nat := []
  /-- a cold training has given an image that is not yet stored (R274) -/
  newImages : Bool := false
deriving DecidableEq, Repr

/-- Geometry of a LUN (R304): spare bytes of a plane page, pages per block, blocks, native cell mode (true QLC, false TLC). -/
structure Geom where
  spare : Nat
  pages : Nat
  blocks : Nat
  qlc : Bool
deriving DecidableEq, Repr

/-- A LUN found at bring-up: geometry, lost (R334), excluded (R303, R304), successive failed operations. -/
structure LunRec where
  geom : Geom
  lost : Bool
  excluded : Bool
  fails : Nat
deriving DecidableEq, Repr

/-- State of a block. A reserve block a harvest has written is reserveUsed until HRV releases it (R337). -/
inductive BlkState where
  | free | opened | closed | erasePending | erasing | reserve | reserveUsed | parity | metadata | retired
deriving DecidableEq, Repr

/-- A block that is not simply free and unworn: wear in quarters of a native cycle (R332), SUSPECT (R326), its stripe, the reads since its last program or scrub, the time of the last of these (R331). -/
structure BlkRec where
  state : BlkState
  wear : Nat
  suspect : Bool
  stripe : Option Nat
  reads : Nat := 0
  scrubbed : Nat := 0
deriving DecidableEq, Repr

/-- State of a stripe (R324, R325). -/
inductive StripeState where
  | opened | closed | verified
deriving DecidableEq, Repr

/-- A stripe (R324): its 16 blocks and its parity block as GLUN × 2^16 + block, units placed, pages programmed (row × 16 + place), rows whose parity is programmed, places whose block has passed verify, the parity blocks filled before the present one. -/
structure Stripe where
  blocks : List Nat
  parity : Nat
  state : StripeState
  next : Nat
  prog : List Nat
  parityRows : List Nat
  passed : List Nat
  parities : List Nat := []
deriving DecidableEq, Repr

/-- A unit in staging (Table 10-6, Table 10-7): TUN, slot, the source of a MOVE, programmed, recorded; of a WRITE the stamp and the sectors that are not zero. -/
structure FtlUnit where
  tun : Nat
  fua : Nat
  old : Option Nat
  programmed : Bool
  recorded : Bool
  stamp : Nat := 0
  vals : Table SectorVal := []
deriving DecidableEq, Repr

/-- A journal record (Table 10-5). -/
structure JRec where
  typ : Nat
  key : Nat
  new : Nat
  old : Nat
  stamp : Nat
deriving DecidableEq, Repr

/-- The counts of Table 10-11 as they run; the registers take them as one set each second (R344). -/
structure Health where
  corrBits : Nat
  retries : Nat
  rebuilds : Nat
  fetches : Nat
  unrecoverable : Nat
  progFails : Nat
  eraseFails : Nat
  retired : Nat
  lunsLost : Nat
  tempMin : Int
  tempMax : Int
  /-- seconds in each temperature band -/
  secs : List Nat
deriving DecidableEq, Repr

/-- A checkpoint (R317): the stamp of its start, the map directory, the block table (block, valid count, state, wear), USER_BLKS and SYS_BLKS, the channels of its two copies. -/
structure Checkpoint where
  start : Nat
  mdir : Table Nat
  blks : List (Nat × Nat × BlkState × Nat)
  user : Nat
  sys : Nat
  copies : Nat × Nat
deriving DecidableEq, Repr

structure FlmState where
  /-- T2 content by pool sector number -/
  t2 : Table SectorVal
  /-- stamp of each unit in T2 (R408), 0 when never written -/
  t2Stamp : Table Nat
  /-- LUNs found, by GLUN; the geometry in use -/
  luns : Table LunRec
  geom : Option Geom
  /-- channels whose bring-up has failed once (R306) -/
  tries : List Nat
  /-- blocks by GLUN × 2^16 + block; unlisted: free, never worn -/
  blks : Table BlkRec
  stripes : Table Stripe
  nextStripe : Nat
  staged : List FtlUnit
  /-- the map: FUA by TUN; unlisted: UNWRITTEN -/
  map : Table Nat
  /-- the journal page that fills, the pages in program, the durable records of the journal window -/
  jopen : List JRec
  jprog : List (List JRec)
  jwin : List JRec
  jstamp : Nat
  /-- journal pages written since the last valid checkpoint's start, and the stamp at which a checkpoint in progress started -/
  winPages : Nat
  ckpt : Option Nat
  /-- source block of the raking of a LUN -/
  rakes : Table Nat
  victims : List Nat
  /-- TUNs whose map page is lost in both copies (R313) -/
  unreadable : List Nat
  /-- the map directory: FUA of the first copy of each map page; in that copy's spare area the FUA of the second; map pages changed since they were flushed, with the stamp of the first change (R312, R317) -/
  mdir : Table Nat
  spare : Table Nat
  mapDirty : Table Nat
  /-- pages of the parity log as formatted (R328) -/
  parityPages : Nat
  /-- the fold in the codeword metadata of each unit (R462) -/
  folds : Table Nat
  /-- its units at the cipher lanes (R451) -/
  cipher : List LaneRec
  /-- suspensions of the operation in progress by GLUN (R330) -/
  suspends : Table Nat
  /-- READ_ONLY as stored (R338) -/
  roStored : Bool
  /-- a format has taken place (R307) -/
  formatted : Bool
  /-- the checkpoint being written, and the newest valid one, to which the anchor blocks point (R317, R480) -/
  ckNew : Option Checkpoint := none
  ckSaved : Option Checkpoint := none
  health : Health
  /-- map pages flushed, journal pages programmed so far (R311, R315) -/
  flushSeq : Nat := 0
  jseq : Nat := 0
  /-- map pages in the map cache, the one used last at the end; reads of T2 that wait for their map page: block, units, at priority (R313) -/
  mcache : List Nat := []
  mapWait : List (Nat × List Nat × Bool) := []
  /-- reads of T2 in flight: TUN and the FUA that the map held (R323) -/
  reading : List (Nat × Nat) := []
  /-- units that wait for a slot (R333, R334) -/
  waiting : List FtlUnit := []
  /-- blocks whose raking waits for that of another block of their LUN (R326) -/
  rakeWait : List Nat := []
  /-- CLOSED stripes in the order in which they closed (R325) -/
  closing : List Nat := []
  /-- SPARE_BLOCKS at format (R335) -/
  spareInit : Nat := 0
deriving DecidableEq, Repr

/-- What a rail is doing (R556-R569). -/
inductive RailPhase where
  | off | ramping | good | releasing
deriving DecidableEq, Repr

/-- A rail: phase, the scan count at which it began, successive scans outside the warning and the fault limits, whether it is in the warning condition, whether the last scan found it above 10 % of WARN_LO. -/
structure RailRun where
  phase : RailPhase
  scan : Nat
  badW : Nat
  badF : Nat
  warned : Bool
  high : Bool
deriving DecidableEq, Repr

/-- A temperature input (R571): successive measurements above and at or below WARN_C and FAULT_C, conditions entered. -/
structure TempRun where
  warnUp : Nat
  warnDown : Nat
  faultUp : Nat
  faultDown : Nat
  warn : Bool
  fault : Bool
deriving DecidableEq, Repr

structure SeqState where
  /-- temperatures as last measured, by input, in 0.125 °C -/
  temps : Table Int
  tempRuns : Table TempRun
  /-- FAULT_C, WARN_C, TEMP_SHUT by input; unlisted: 105, 90, 0 -/
  tempCfg : Table (Nat × Nat × Nat)
  /-- rail table rows 0 to 31 and 40 in force, and the shadow: eight words each; unlisted: zeros (R552, R553) -/
  rows : Table (List Nat)
  shadow : Table (List Nat)
  rails : Table RailRun
  /-- values of the sense inputs at the last scan, and their GAIN and OFFSET -/
  sns : Table Int
  snsCfg : Table (Nat × Nat)
  /-- successive bad reference readings per ADC core (R555) -/
  refBad : Table Nat
  /-- POWER_UP written; a commanded power-down; a power-up being undone (R557) -/
  up : Bool
  down : Bool
  undo : Bool
  /-- device rails enabled so far in the order of Table 20-4, of those released in the order of R606 -/
  devUp : Option Nat
  devDown : Option Nat
  /-- ramp failures of device rails since POR_N rose; SEQ stays at step 2 of Table 20-4 (R603) -/
  devFails : Nat
  pwrgood : Bool
  /-- POR_N is high, RESET_IN_N is low -/
  por : Bool
  resetLow : Bool
  /-- PWRFAIL_N is high -/
  pfHigh : Bool
  /-- since when input has been good (R561) -/
  goodSince : Option Nat
  /-- successive scans with the input below FAULT_LO and above FAULT_HI -/
  vinLow : Nat
  vinHigh : Nat
  /-- the 10 ms minimum drive of FAULT_N runs; FAULT_CLR was written meanwhile (R564) -/
  faultHold : Bool
  faultClr : Bool
  /-- a device-rail fault or ramp failure, or a thermal trip, that the next boot records (R560, R603, R613) -/
  bootRail : Option Nat
  bootTrip : Bool
  /-- straps as sampled (R596): BIFURC per port, management port, boot, unit -/
  strapBif : List Nat
  strapMgmt : Nat
  strapBoot : Nat
  /-- a fuse-programming session is open (R600) -/
  fuseOpen : Bool
  /-- dynamic power cap, W (R598, R613) -/
  powerCap : Nat
deriving DecidableEq, Repr

/-- A unit in the harvest reserve (R353, R355): TUN, stamp, group, region, class, covered sectors by index, TWIN and TWIN_REPAIR flags, the reserve block that holds it. -/
structure HUnit where
  tun : Nat
  stamp : Nat
  grp : Nat
  region : Nat
  cls : Nat
  vals : Table SectorVal
  twin : Bool
  repair : Bool
  blk : Nat
deriving DecidableEq, Repr

/-- A harvest set (R354, R362). -/
structure HSet where
  seq : Nat
  units : List HUnit
  isSealed : Bool
  cause : Nat
  first : Nat
  mib : Nat
deriving DecidableEq, Repr

structure HrvState where
  /-- tide and BIND of the last computations, newest last, at most ten (R359) -/
  hist : List (Nat × Nat)
  /-- a rehearsal result exists; its rate; power and rate that wait for a confirming rehearsal (R361) -/
  rehearsed : Bool
  rate : Option Nat
  waitPower : Option Nat
  waitRate : Option Nat
  /-- a valid step-load result is in use; successive tests without one (R360) -/
  stepValid : Bool
  stepFails : Nat
  /-- blocks that a rehearsal has written (R360) -/
  rehBlks : List Nat
  /-- last step of Table 11-2 done, 0 outside a harvest; time of the trigger -/
  phase : Nat
  t0 : Nat
  /-- this SK960 has released its claims at step 4 (R352); the harvest ends a restore, so nothing is written (Table 11-3); the write-out has been stopped (R349) -/
  gaveUp : Bool
  nothing : Bool
  stopped : Bool
  /-- the newest set and the one before it, as the anchor blocks and the fast counter find them (R362) -/
  newest : Option HSet
  prior : Option HSet
  /-- fast counter: HARVEST_SEQ of the last sealed set (R354) -/
  fast : Nat
  /-- the restore of the boot has been done -/
  restored : Bool
deriving DecidableEq, Repr

end Sys2Proof.Machine
end

