-- ==== Sys2Proof/Machine/State/Mgmt.lean ====
section
/-! DEFINITION. State of the clocks, the cipher, the settings store, the warden and management (14, 15, 17, 19). -/
namespace Sys2Proof.Machine

structure ClkState where
  /-- a relock attempt of the root PLL runs (Table 17-2) -/
  relock : Bool
  /-- channel and SerDes PLLs that have lost lock, by number: DRAM pair k, 6 + host port, 14 + Ethernet port, 18 + bundle (R533) -/
  pllDown : List Nat
  /-- a boot that a CLOCK harvest caused waits for a reference (R535) -/
  bootWait : Bool
deriving DecidableEq, Repr

/-- A running cipher job: the operation and the key its lane has read (R457). -/
structure CipJob where
  op : Nat
  key : Nat
deriving DecidableEq, Repr

structure CipState where
  /-- warden key slots that are not zero -/
  keys : Table Nat
  job : Option CipJob
deriving DecidableEq, Repr

/-- The device configuration of slot 0x07 (R479, R480). -/
structure DevConfig where
  nodeId : Nat
  nodeValid : Bool
  userBlks : Nat
  sysBlks : Nat
  hrvReserve : Nat
  roMin : Nat
  formatPending : Bool
deriving DecidableEq, Repr

/-- State of an image slot (R486, R491). -/
inductive SlotSt where
  | empty | valid | invalid | trial
deriving DecidableEq, Repr

/-- The settings image (Table 19-1): RWP values by field key, the slots written by SLOT_WRITE as bytes, and what the warden keeps in slots 0x04 to 0x07 as it reads them: image slots (type × 2 + slot) with the ACTIVE slot of each type, wrapped keys, the partner's identity, the device configuration. -/
structure Settings where
  rwp : Table Nat
  /-- SEQ's rail table rows, sense and temperature settings, kept in slot 0x01 with the RWP fields (R574) -/
  rows : Table (List Nat)
  snsCfg : Table (Nat × Nat)
  tempCfg : Table (Nat × Nat × Nat)
  raw : Table (List Byte)
  marks : Table SlotSt
  active : Table Nat
  keys : Table (List Byte)
  pairId : Option (BitVec 512)
  dev : Option DevConfig
  /-- the RWP items of Table 4-3: BAR0 size as a power of two, Subsystem ID -/
  pci : Nat × Nat
  /-- the copies of BOOT_CNT and KEY_CTR in slot 0x00 -/
  bootCnt : Nat
  keyCtr : Nat
  /-- the DRAM training images of slot 0x02 by channel, those whose digest checks: DMC_TOPO, rate, temperature in 0.125 °C (R274); the rows listed in slot 0x03 (R286) -/
  train : Table (Nat × Nat × Int) := []
  ppr : List Nat := []
deriving DecidableEq, Repr

structure Bank where
  seq : Nat
  image : Settings
deriving DecidableEq, Repr

structure NvsState where
  image : Settings
  /-- the banks; none when magic or digest fail -/
  bankA : Option Bank
  bankB : Option Bank
  /-- the image captured by a STORE in progress (R577) -/
  storing : Option Settings
deriving DecidableEq, Repr

/-- The fuse array (Table 15-4). -/
structure Fuses where
  rootHash : Nat
  ownerHash : Nat
  ownerRevoked : Nat
  ownerOnly : Nat
  svnWdn : Nat
  svnSvc : Nat
  idSeed : Nat
  devSecret : Nat
  debugMax : Nat
deriving DecidableEq, Repr

/-- An activation of a service image in progress (Table 15-8): slot, new bank, the RAKE_POLICY to restore, the version in the handover area. -/
structure Activation where
  slot : Nat
  bank : Nat
  rake : Nat
deriving DecidableEq, Repr

/-- A mailbox request in the warden's private memory (R472). -/
structure MbReq where
  req : Requester
  opcode : Nat
  seq : Nat
  payload : List Byte
deriving DecidableEq, Repr

structure WdnState where
  /-- the boot step to be done next (Table 15-10) -/
  boot : Nat
  /-- the boot count under which the warden wrote the protection map (R471); none: no page is open -/
  prot : Option Nat
  fuses : Fuses
  /-- images in the boot blocks by type × 2 + slot -/
  bootBlocks : Table (List Byte)
  /-- the running warden image, and the service images in banks A and B -/
  wdnImg : List Byte
  banks : Table (List Byte)
  act : Option Activation
  requests : Table MbReq
  /-- the mailbox slot looked at next -/
  nextSlot : Nat
  /-- times of service restarts in the last hour; clusters left OFF (R475) -/
  restarts : List Nat
  svcOff : Bool
  /-- a debug challenge that waits for its response, failed attempts, unlocked since cold reset -/
  challenge : Option (List Byte)
  debugFails : Nat
  unlocked : Bool
  /-- KEYS_SEALED as kept -/
  keysSealed : Bool
  /-- KEY_CTR and BOOT_CNT of the fast counter page -/
  keyCtr : Nat
  bootCnt : Nat
  /-- the last message count accepted per Taraivi role -/
  counters : Table Nat
  /-- the ROM found no warden slot that verifies (R487) -/
  bootFail : Bool
  /-- the boot in progress follows a warm reset: DRAM kept its content -/
  warm : Bool
  /-- the warden image that runs was started from a TRIAL slot (R486) -/
  trialRun : Bool
  /-- ALIVE_OUT carries its square wave (R370) -/
  aliveOut : Bool
deriving DecidableEq, Repr

/-- A firmware update in progress (R589): over PLDM or Taraivi, image type (0: not yet named), size announced, lengths of the chunks received by offset, whether all data has come and the image was checked. -/
structure Update where
  pldm : Bool
  typ : Nat
  size : Nat
  got : Table Nat
  complete : Bool
deriving DecidableEq, Repr

structure MgtState where
  tid : Nat
  /-- event receiver: binding and EID -/
  receiver : Option (Nat × Nat)
  update : Option Update
deriving DecidableEq, Repr

end Sys2Proof.Machine
end

