-- ==== Sys2Proof/Machine/State.lean ====
section
/-! DEFINITION. The state of the SK960, the reasons a step can stop, and the state after reset. -/
namespace Sys2Proof.Machine

/-- The SK960 has no fault that stops it: an error is a status, a record, poison or a refusal, all of them state (INVENTORY, Faults). The one constructor stands for none: no meaning raises it. Safe. -/
inductive Fault where
  | none
deriving DecidableEq, Repr

/-- Why a command has no meaning. -/
inductive Refusal where
  /-- The command has no meaning yet. Raised by exec only. Safe. -/
  | notModelled (mnemonic : String)
deriving DecidableEq, Repr

/-- The machine: one SK960 with its register file, its blocks, the outputs it has sent, and the commands that wait. -/
structure State where
  /-- register fields by key (Fld.key); a field not listed holds its reset value -/
  regs : Table Nat
  ctl : CtlState
  evf : EvfState
  recd : RecState
  xlt : XltState
  hp : HpState
  qe : QeState
  mov : MovState
  tier : TierState
  pan : PanState
  twn : TwnState
  cmn : CmnState
  pwr : PwrState
  dmc : DmcState
  flm : FlmState
  seq : SeqState
  hrv : HrvState
  clk : ClkState
  cip : CipState
  nvs : NvsState
  wdn : WdnState
  mgt : MgtState
  /-- bytes of DRAM outside the frames in use, and from 2^63 of the warden's memory; a byte not listed reads 0 (log entry 25) -/
  mem : List Host.Cell
  /-- the unit number, 0 or 1 (TWIN_ID) -/
  unit : Nat
  timeNs : Nat
  /-- nanoseconds TIME_NS is ahead of the twin it follows and loses by slewing (R542) -/
  slew : Nat
  /-- what has been sent, oldest first (log entry 3) -/
  out : List Out
  /-- counter of the free values used: the model's own (log entry 4) -/
  free : Nat
  /-- commands waiting, first in first out -/
  pending : List Instr
deriving DecidableEq, Repr

/-! ## Reset: nothing in work, nothing stored (log entry 1) -/

def ctlInit : CtlState := { shadow := [], old := [], single := [], parts := [], stalled := [] }
def evfInit : EvfState := { routes := [], chans := [], pending := [], credits := [], folds := [] }
def recInit : RecState := { slots := [], wpos := 0, spill := [], limiters := [], fwd := [], fwdAll := none, sent := [], nextCorr := 0, spilledOnce := false }
def xltInit : XltState := { regions := [], bmap := [], windows := [], extents := [], registrations := [], caches := [], fills := [], invalBusy := none, invalQueue := [], invalRetry := [], sweep := false }
def hpInit : HpState :=
  { lds := [], msix := [], links := [], decoders := [], released := false, memoryActive := false, infoValid := false, activeBound := 0,
    cmps := [], forwards := [], injectEnabled := false, bar0Log := 26, subId := 0x0960, qosControl := [], readOnlySeen := false }
def qeInit : QeState := { queues := [], pmap := [], cmds := [], barriers := [], nextBarrier := 0, nextOrder := 0, urgentNext := 0, bulkQueue := 0, bulkLeft := 0, flush := [], qctl := none, statusSeq := 0, statusShown := [] }
def movInit : MovState := { runs := [], offlineNext := [], holds := [] }
def tierInit : TierState :=
  { blocks := [], frames := [], quotas := [], reads := [], nextRead := 0, held := [], frameWait := [], schedules := [], bittern := [], bitternMib := 0,
    substCtr := [], substSeen := [], stampFloor := [], writes := [], drains := [], written := [] }
def panInit : PanState := { lines := [], wayErrs := [], retired := [], trackers := [], op := none }
def twnInit : TwnState :=
  { replay := [], nextMirror := 0, txSeq := 0, digestFrom := 1, rxSeq := 0, rxHold := [], rxLog := [], badDigest := [], rxCount := [], mirror := [],
    peerTide := 0, peerReadOnly := false, peerHarvest := false, peerInSync := false, epochs := [], rsm := [], scanDone := false, full := false,
    resyncGot := [], handoff := [], gave := [], asked := [], take := none, form := .none, pairId := none, repair := [],
    syncInSync := false, syncAll := false, stopped := false, sampleCount := 0, compare := none, cipher := [] }
def cmnInit : CmnState := { conns := [], claims := [], paused := [], cipher := [], rxWait := [] }
def pwrInit : PwrState := { latched := [], shed := [], fromOff := [] }
def dmcInit : DmcState := { training := [], debts := [], ces := [], rowCes := [], retraining := [], pdRanks := [], x2Ranks := [], wcrc := [] }
def healthInit : Health :=
  { corrBits := 0, retries := 0, rebuilds := 0, fetches := 0, unrecoverable := 0, progFails := 0, eraseFails := 0, retired := 0, lunsLost := 0,
    tempMin := 127, tempMax := -128, secs := [0, 0, 0, 0] }
def flmInit' : FlmState :=
  { t2 := [], t2Stamp := [], luns := [], geom := none, tries := [], blks := [], stripes := [], nextStripe := 0, staged := [], map := [],
    jopen := [], jprog := [], jwin := [], jstamp := 0, winPages := 0, ckpt := none, rakes := [], victims := [], unreadable := [], mdir := [], spare := [], mapDirty := [], parityPages := 0, folds := [], cipher := [],
    suspends := [],
    roStored := false, formatted := false, health := healthInit }
def seqInit : SeqState :=
  { temps := [], tempRuns := [], tempCfg := [], rows := [], shadow := [], rails := [], sns := [], snsCfg := [], refBad := [], up := false, down := false,
    undo := false, devUp := none, devDown := none, devFails := 0, pwrgood := false, por := false, resetLow := false, pfHigh := true, goodSince := none,
    vinLow := 0, vinHigh := 0, faultHold := false, faultClr := false, bootRail := none, bootTrip := false, strapBif := [0, 0, 0, 0, 0, 0, 0, 0],
    strapMgmt := 0, strapBoot := 0, fuseOpen := false, powerCap := 420 }
def hrvInit : HrvState :=
  { hist := [], rehearsed := false, rate := none, waitPower := none, waitRate := none, stepValid := false, stepFails := 0, rehBlks := [], phase := 0,
    t0 := 0, gaveUp := false, nothing := false, stopped := false, newest := none, prior := none, fast := 0, restored := false }
def clkInit : ClkState := { relock := false, pllDown := [], bootWait := false }
def cipInit : CipState := { keys := [], job := none }
def settingsInit : Settings := { rwp := [], rows := [], snsCfg := [], tempCfg := [], raw := [], marks := [], active := [], keys := [], pairId := none, dev := none, pci := (26, 0x0960), bootCnt := 0, keyCtr := 0 }
def nvsInit : NvsState := { image := settingsInit, bankA := some { seq := 0, image := settingsInit }, bankB := some { seq := 0, image := settingsInit }, storing := none }
def fusesInit : Fuses := { rootHash := 0, ownerHash := 0, ownerRevoked := 0, ownerOnly := 0, svnWdn := 0, svnSvc := 0, idSeed := 0, devSecret := 0, debugMax := 0 }
def wdnInit : WdnState :=
  { boot := 1, prot := none, fuses := fusesInit, bootBlocks := [], wdnImg := [], banks := [], act := none, requests := [], nextSlot := 0, restarts := [],
    svcOff := false, challenge := none, debugFails := 0, unlocked := false, keysSealed := false, keyCtr := 0, bootCnt := 0,
    counters := [], bootFail := false, warm := false, trialRun := false, aliveOut := false }
def mgtInit : MgtState := { tid := 0, receiver := none, update := none }

/-- The machine right after reset: every register at its reset value (none listed), memory with nothing listed, no command waiting. -/
def State.reset : State :=
  { regs := [], ctl := ctlInit, evf := evfInit, recd := recInit, xlt := xltInit, hp := hpInit, qe := qeInit, mov := movInit, tier := tierInit,
    pan := panInit, twn := twnInit, cmn := cmnInit, pwr := pwrInit, dmc := dmcInit, flm := flmInit', seq := seqInit, hrv := hrvInit, clk := clkInit,
    cip := cipInit, nvs := nvsInit, wdn := wdnInit, mgt := mgtInit, mem := [], unit := 0, timeNs := 0, slew := 0, out := [], free := 0, pending := [] }

end Sys2Proof.Machine
end

