-- ==== Sys2Proof/Machine/Tables.lean ====
section
/-! DEFINITION. The operations on sparse tables: look up, set, delete, change. A table's keys rise strictly and every operation keeps that. -/
namespace Sys2Proof.Machine

variable {α : Type}

/-- The value listed under a key. -/
def tget : Table α → Nat → Option α
  | [], _ => none
  | (k, v) :: t, x => if x = k then some v else tget t x

/-- Set the value of a key. -/
def tset : Table α → Nat → α → Table α
  | [], x, w => [(x, w)]
  | (k, v) :: t, x, w =>
    if x < k then (x, w) :: (k, v) :: t else if x = k then (x, w) :: t else (k, v) :: tset t x w

/-- Take a key out. -/
def tdel : Table α → Nat → Table α
  | [], _ => []
  | (k, v) :: t, x => if x = k then tdel t x else (k, v) :: tdel t x

/-- Change the value of a key that is listed. -/
def tmod (t : Table α) (x : Nat) (f : α → α) : Table α :=
  match tget t x with
  | some v => tset t x (f v)
  | none => t

/-- Whether a key is listed. -/
def thas (t : Table α) (x : Nat) : Bool := (tget t x).isSome

/-- Keep the entries a test admits. -/
def tfilter (t : Table α) (p : Nat → α → Bool) : Table α := t.filter fun e => p e.1 e.2

/-- Change every entry's value. -/
def tmap (t : Table α) (f : Nat → α → α) : Table α := t.map fun e => (e.1, f e.1 e.2)

/-- The keys of a table. -/
def tkeys (t : Table α) : List Nat := t.map Prod.fst

/-- A list of numbers in rising order without repeats. -/
def ascending (l : List Nat) : List Nat := tkeys (l.foldl (fun t k => tset t k ()) [])

/-- The number at place n of those that a rising list leaves out. -/
def nthFree (used : List Nat) (n : Nat) : Nat := used.foldl (fun n u => if u ≤ n then n + 1 else n) n

/-- All keys of the table lie above a bound and rise strictly. -/
def Above : Nat → Table α → Prop
  | _, [] => True
  | b, (k, _) :: t => b < k ∧ Above k t

/-- The canonical form: keys strictly rising. -/
def Rising : Table α → Prop
  | [] => True
  | (k, _) :: t => Above k t

/-- Take the first element that passes a test out of a list. -/
def takeFirst (l : List α) (p : α → Bool) : Option (α × List α) :=
  match l with
  | [] => none
  | a :: r => if p a then some (a, r) else (takeFirst r p).map fun x => (x.1, a :: x.2)

end Sys2Proof.Machine
end

