-- ==== Sys2Proof/Machine/Ops.lean ====
section
/-! DEFINITION. The register file, the outputs, the free values and the power domains of pages: the operations every block uses. -/
namespace Sys2Proof.Machine

/-- The value of field f, entry idx, in page p (R42). -/
def State.rd (s : State) (p : Page) (f : Fld) (idx : Nat := 0) : Nat :=
  (tget s.regs (f.key p idx)).getD (f.resetAt s.unit idx)

/-- Store a value in field f, entry idx, of page p: cut to the field's width; the reset value is not listed. -/
def State.wr (s : State) (p : Page) (f : Fld) (v : Nat) (idx : Nat := 0) : State :=
  let v := v % 2 ^ f.width
  { s with regs := if v = f.resetAt s.unit idx then tdel s.regs (f.key p idx) else tset s.regs (f.key p idx) v }

/-- The value of a field of its block's instance. -/
def State.get (s : State) (f : Fld) (inst : Nat := f.p0) (idx : Nat := 0) : Nat := s.rd ⟨f.blk, inst⟩ f idx

/-- Store a field of its block's instance. -/
def State.put (s : State) (f : Fld) (v : Nat) (inst : Nat := f.p0) (idx : Nat := 0) : State := s.wr ⟨f.blk, inst⟩ f v idx

/-- A one-bit field as a Bool. -/
def State.flag (s : State) (f : Fld) (inst : Nat := f.p0) (idx : Nat := 0) : Bool := s.get f inst idx != 0

/-- Add n to a saturating counter. -/
def State.inc (s : State) (f : Fld) (n : Nat := 1) (inst : Nat := f.p0) (idx : Nat := 0) : State :=
  s.put f (satAdd f.width (s.get f inst idx) n) inst idx

/-- Add n to a counter that counts modulo its width. -/
def State.incMod (s : State) (f : Fld) (n : Nat := 1) (inst : Nat := f.p0) (idx : Nat := 0) : State :=
  s.put f (s.get f inst idx + n) inst idx

/-- Take n from a counter, not below 0. -/
def State.dec (s : State) (f : Fld) (n : Nat := 1) (inst : Nat := f.p0) (idx : Nat := 0) : State :=
  s.put f (s.get f inst idx - n) inst idx

/-- Set or clear one bit of a field. -/
def State.putBit (s : State) (f : Fld) (k : Nat) (b : Bool) (inst : Nat := f.p0) (idx : Nat := 0) : State :=
  s.put f (setBits (s.get f inst idx) k 1 (b2n b)) inst idx

/-- One bit of a field. -/
def State.bitOf (s : State) (f : Fld) (k : Nat) (inst : Nat := f.p0) (idx : Nat := 0) : Bool := bit (s.get f inst idx) k

/-- Send an item. -/
def State.emit (s : State) (o : Out) : State := { s with out := s.out ++ [o] }

/-- Use up one free value (log entry 4). -/
def State.useFree (s : State) : State := { s with free := s.free + 1 }

/-- The pages of FLM channel c, of the FTL, of a Cemanor port and of the engine. -/
def ftlPage : Page := ⟨.flm, 48⟩
def cmePage : Page := ⟨.cmn, 4⟩
def pg (b : Blk) (i : Nat := 0) : Page := ⟨b, i⟩

/-- The power domain of a page (Table 17-3). -/
def Page.dom (p : Page) : Nat :=
  match p.blk with
  | .top | .clk | .pwr | .seq => 0
  | .evf | .recd | .nvs | .hsh | .mgt | .dbg | .wdn => 1
  | .svc => 2 + p.inst
  | .hp => 8 + p.inst
  | .qe => 16
  | .mov => 17 + p.inst / 8
  | .xlt | .tier => 25
  | .pan => 26 + p.inst
  | .dmc => 42 + p.inst
  | .flm => if p.inst < 48 then 54 + p.inst / 8 else 60
  | .hrv => 60
  | .twn => 61
  | .cmn => 62
  | .cip => 63

/-- Domain states (PWR_DOM_STATE). -/
def domOn : Nat := 0
def domRet : Nat := 1
def domOff : Nat := 2
def domEntering : Nat := 3
def domWaking : Nat := 4
def domResetting : Nat := 5
def domFailed : Nat := 6

/-- Whether a domain is ON. -/
def State.domainOn (s : State) (n : Nat) : Bool := s.get PWR.STATE 0 n == domOn

/-- A page's QUIESCE is 1: the block accepts no new work (R52). -/
def State.resting (s : State) (p : Page) : Bool := s.rd p HDR.QUIESCE == 1

/-- An update has rewritten row k of the fast counter page: it is valid again (R585). -/
def State.fastWrote (s : State) (k : Nat) : State := s.putBit NVS.FAST_BAD k false

/-- Drive a pin, or release it (none). -/
def State.pinOut (s : State) (name : String) (idx : Nat) (level : Option Bool) : State := s.emit (.pin name idx level)

end Sys2Proof.Machine
end

