-- ==== Sys2Proof/Machine/FlashMap.lean ====
section
/-! DEFINITION. Flash as the tiers see it (10): unit addresses, blocks, the map and its cache, reads of T2 in flight and what they suspend. -/
namespace Sys2Proof.Machine

def flcPage (c : Nat) : Page := pg .flm c

/-- FLM_STATE values (Table 10-13) and STATE of a channel (Table 10-12). -/
def flmInit : Nat := 0
def flmReplay : Nat := 1
def flmNormal : Nat := 2
def flmLowSpare : Nat := 3
def flmReadOnly : Nat := 4
def flmFailed : Nat := 5
def chAbsent : Nat := 0
def chInit : Nat := 1
def chReady : Nat := 2
def chFailed : Nat := 3
def chExcluded : Nat := 4

def State.ftlGet (s : State) (f : Fld) : Nat := s.get f ftlPage.inst
def State.ftlPut (s : State) (f : Fld) (v : Nat) : State := s.put f v ftlPage.inst

/-! ## Blocks -/

def blkKey (glun block : Nat) : Nat := glun * 65536 + block
def blkGlun (k : Nat) : Nat := k / 65536
def blkChan (k : Nat) : Nat := k / 65536 / 64

def freshBlk : BlkRec := { state := .free, wear := 0, suspect := false, stripe := none }
def State.blk (s : State) (k : Nat) : BlkRec := (tget s.flm.blks k).getD freshBlk
def State.putBlk (s : State) (k : Nat) (b : BlkRec) : State :=
  { s with flm.blks := if b = freshBlk then tdel s.flm.blks k else tset s.flm.blks k b }

def State.pages (s : State) : Nat := match s.flm.geom with | some g => g.pages | none => 0

/-- The unit address of slot i (0 to 15) of a page (Table 10-3). -/
def State.fua (s : State) (k page i : Nat) : Nat := blkGlun k * 2 ^ 26 + ((k % 65536 * s.pages + page) * 16 + i)
/-- Block and page of a unit address. -/
def State.fuaBlk (s : State) (f : Nat) : Nat := blkKey (f / 2 ^ 26) (f % 2 ^ 26 / (16 * s.pages))
def State.fuaPage (s : State) (f : Nat) : Nat := f % 2 ^ 26 / 16 % s.pages

/-- Whether a LUN is in use: found, of the geometry in use, neither lost nor excluded. -/
def State.lunUsed (s : State) (g : Nat) : Bool := match tget s.flm.luns g with | some l => !l.lost && !l.excluded && some l.geom == s.flm.geom | none => false

/-- Valid units of a block: those the map points at (R321). -/
def State.validUnits (s : State) (k : Nat) : List (Nat × Nat) := s.flm.map.filter fun e => s.fuaBlk e.2 == k

/-! ## The map -/

def unwritten : Nat := 0xFF_FFFF_FFFF
def State.mapOf (s : State) (t : Nat) : Nat := (tget s.flm.map t).getD unwritten


/-- The map page of a tier block's units (R311). -/
def mapPageOf (pbn : Nat) : Nat := pbn / 51

/-- Whether a map page needs no read from flash: it is in the map cache, it has changed since it was flushed, or it has never been flushed (R313). -/
def State.mapCached (s : State) (mpi : Nat) : Bool := s.flm.mcache.contains mpi || thas s.flm.mapDirty mpi || !thas s.flm.mdir mpi

/-- A map page is used: it is in the map cache of MAP_CACHE_GIB, from which the page used longest ago goes (R313; log entry 116). -/
def State.mapUse (s : State) (mpi : Nat) : State :=
  if !thas s.flm.mdir mpi then s
  else
    let l := s.flm.mcache.filter (· != mpi) ++ [mpi]
    { s with flm.mcache := l.drop (l.length - s.ftlGet FTL.MAP_CACHE_GIB * 2 ^ 18) }

/-! ## Reads of T2 -/

/-- Whether a LUN runs a program or an erase (R330). -/
def State.lunBusy (s : State) (g : Nat) : Bool :=
  (s.flm.staged.any fun u => !u.programmed && u.fua / 2 ^ 26 == g) || s.flm.blks.any fun e => e.2.state == .erasing && blkGlun e.1 == g

/-- A read suspends the program or erase of its LUN, at most 4 times (R330). -/
def State.suspend (s : State) (g : Nat) : State :=
  let n := (tget s.flm.suspends g).getD 0
  if s.lunBusy g && n < 4 then { s with flm.suspends := tset s.flm.suspends g (n + 1) }.emit (.device "FLASH_SUSPEND" [g]) else s

/-- Units of a block are read at the places the map holds now; each read counts for its block (R323, R331). A direct-flash read suspends what its LUN runs at once (R330). -/
def State.t2Issue (s : State) (p : Nat) (us : List Nat) (priority : Bool) : State :=
  let s := us.foldl (fun s u =>
    let f := s.mapOf (p * 16 + u)
    let s : State := { s with flm := { s.flm with
        reading := s.flm.reading ++ [(p * 16 + u, f)],
        blks := if f = unwritten then s.flm.blks else tmod s.flm.blks (s.fuaBlk f) fun b => { b with reads := b.reads + 1 } } }
    if priority && f != unwritten then s.suspend (f / 2 ^ 26) else s) s
  s.emit (.device (if priority then "T2_READ_PRIORITY" else "T2_READ") (p :: us))

/-- Ask for units of a block from T2: a read that misses the map cache reads the map page first (R313). -/
def State.t2Ask (s : State) (p : Nat) (us : List Nat) (priority : Bool) : State :=
  let mpi := mapPageOf p
  if s.mapCached mpi then (s.mapUse mpi).t2Issue p us priority
  else
    let s : State := if s.flm.mapWait.any fun w => mapPageOf w.1 == mpi then s else s.emit (.device "MAP_PAGE_READ" [mpi])
    { s with flm.mapWait := s.flm.mapWait ++ [(p, us, priority)] }

/-- A read of a unit has ended. -/
def State.readEnded (s : State) (tun : Nat) : State :=
  match takeFirst s.flm.reading (fun e => e.1 == tun) with
  | some (_, l) => { s with flm.reading := l }
  | none => s

end Sys2Proof.Machine
end

