-- ==== Sys2Proof/Machine/Operands.lean ====
section
/-! DEFINITION. The byte images of descriptors and contexts and the checks over them (R67, R69, R75, R78, R83, R136, R192), status codes, and the numbers of windows, pool sectors and units. -/
namespace Sys2Proof.Machine

/-- The code of a status (Table 5-6). -/
def Status.code : Status → Nat
  | .ok => 0x00 | .okSubstituted => 0x01 | .okSlowPath => 0x02 | .retainedShared => 0x03 | .accessViolation => 0x10
  | .keyRevoked => 0x11 | .keyStale => 0x12 | .lengthError => 0x20 | .authFail => 0x21 | .mediaReadOnly => 0x30
  | .mediaError => 0x31 | .quotaExceeded => 0x32 | .timeout => 0x40 | .incompleteMessage => 0x41 | .fenced => 0x50
  | .aborted => 0x60 | .internal => 0x7F

/-- The status of a code; a reserved code is none. -/
def Status.ofCode (n : Nat) : Option Status :=
  [Status.ok, .okSubstituted, .okSlowPath, .retainedShared, .accessViolation, .keyRevoked, .keyStale, .lengthError, .authFail,
   .mediaReadOnly, .mediaError, .quotaExceeded, .timeout, .incompleteMessage, .fenced, .aborted, .internal].find? fun x => x.code == n

/-- Whether a status reports no error (R156). -/
def Status.good : Status → Bool
  | .ok | .okSubstituted | .okSlowPath | .retainedShared => true
  | .accessViolation | .keyRevoked | .keyStale | .lengthError | .authFail | .mediaReadOnly | .mediaError | .quotaExceeded | .timeout
  | .incompleteMessage | .fenced | .aborted | .internal => false

/-- Of two good statuses the one to report: OK_SUBSTITUTED over OK_SLOW_PATH over OK (R156). -/
def Status.worse (a b : Status) : Status :=
  if a = .okSubstituted ∨ b = .okSubstituted then .okSubstituted
  else if a = .okSlowPath ∨ b = .okSlowPath then .okSlowPath else a

/-- The region descriptor's bytes 0x00 to 0x3B (Table 3-1). -/
def Region.pack (r : Region) : List Byte :=
  le 4 (b2n r.valid * 2 ^ 31 + b2n r.ro * 2 ^ 30 + r.pclass * 2 ^ 28 + r.grp * 2 ^ 24 + b2n r.share * 2 ^ 23 + r.levels * 2 ^ 22 + r.tenant) ++
  le 4 (r.elemFmt * 2 ^ 28 + r.gradeFmt * 2 ^ 26 + r.subst * 2 ^ 24 + r.pathMask.toNat * 2 ^ 20 + r.gen) ++ le 4 r.size ++ le 4 r.deadline ++
  le 8 r.root ++ le 4 r.flushDb ++ le 4 r.substCtr ++
  le 4 (b2n r.remoteOk * 8 + b2n r.queueW * 4 + b2n r.hostW * 2 + b2n r.remoteW) ++ List.replicate 24 0

/-- Check 2 of a region descriptor (R67). -/
def Region.checkOk (r : Region) : Bool := r.check == crc32c r.pack
/-- VALID and no reserved encoding (R7, R67). -/
def Region.live (r : Region) : Bool := r.valid && r.pclass < 3 && r.elemFmt < 4 && (r.elemFmt == 0 || r.gradeFmt < 2) && r.subst < 3
/-- A descriptor with its CHECK computed. -/
def Region.seal (r : Region) : Region := { r with check := crc32c r.pack }

/-- The 7 bytes over which CHK is computed: bits [63:8], most significant byte first (Table 3-2). -/
def Bme.pack (b : Bme) : List Byte := be 7 (b2n b.alloc * 2 ^ 55 + b2n b.zero * 2 ^ 54 + b.pbn)
/-- CHK of a block map entry: CRC-8, polynomial 0x07, start 0. -/
def Bme.crc (b : Bme) : Nat := crcMsb 8 0x07 0 b.pack
def Bme.seal (b : Bme) : Bme := { b with chk := b.crc }

/-- The window descriptor's bytes 0x00 to 0x3B (Table 3-3). -/
def windowPack (d : WindowDesc) : List Byte :=
  le 4 (b2n d.valid * 2 ^ 31 + b2n d.foreign * 2 ^ 30 + b2n d.w * 2 ^ 29 + b2n d.r * 2 ^ 28 + d.state.toNat * 2 ^ 26 + d.tenant.toNat) ++
  le 4 d.region.toNat ++ le 4 (d.regionGen.toNat * 65536) ++ le 4 0 ++ le 8 d.dpaBase.toNat ++ le 8 d.length.toNat ++ le 8 d.regionOff.toNat ++
  le 4 d.rkey.toNat ++ le 4 d.node.toNat ++ le 4 d.conn.toNat ++ List.replicate 8 0
def windowOk (d : WindowDesc) : Bool := d.check.toNat == crc32c (windowPack d)
def windowSeal (d : WindowDesc) : WindowDesc := { d with check := BitVec.ofNat 32 (crc32c (windowPack d)) }

/-- The fields an extent's CHECK covers, in the order in which R78 names them. DEDUCED: R78 gives the fields and no layout (log entry 8). -/
def Extent.pack (e : Extent) : List Byte :=
  le 1 ((match e.state with | .free => 0 | .active => 1 | .releasing => 2) * 4 + b2n e.r * 2 + b2n e.w) ++ le 2 e.tenant ++ le 8 e.dpaBase ++
  le 8 e.length ++ le 3 e.region ++ le 2 e.regionGen ++ le 8 e.regionOff
def Extent.checkOk (e : Extent) : Bool := e.check == crc32c e.pack
def Extent.seal (e : Extent) : Extent := { e with check := crc32c e.pack }

/-- The bytes a registration's CHECK covers: 0x00 to 0x1F and 0x30 to 0x3B, STATE taken as 0 (R83). -/
def Registration.pack (d : Registration) : List Byte :=
  le 4 (d.gen * 2 ^ 20 + b2n d.w * 2 ^ 19 + b2n d.r * 2 ^ 18 + b2n d.nodeAny * 2 ^ 17 + d.tenant) ++ le 4 d.region ++ le 4 (d.regionGen * 65536) ++
  le 4 d.node ++ le 8 d.baseOff ++ le 8 d.length ++ List.replicate 12 0
def Registration.checkOk (d : Registration) : Bool := d.check == crc32c d.pack
def Registration.seal (d : Registration) : Registration := { d with check := crc32c d.pack }

/-- STATE of a queue context (Table 5-1). -/
def QState.code : QState → Nat
  | .disabled => 0 | .active => 1 | .paused => 2 | .error => 3

/-- The bytes a queue context's CHECK covers: 0x00 to 0x1F, 0x28 to 0x2F, 0x34 to 0x37, the fields QE keeps taken as 0 (R136). -/
def QueueCtx.pack (c : QueueCtx) : List Byte :=
  le 4 (b2n c.valid * 2 ^ 31 + c.sclass * 2 ^ 26 + c.weight * 2 ^ 16 + c.tenant) ++
  le 4 (c.sqLog2 * 2 ^ 27 + c.cqLog2 * 2 ^ 22 + c.maxInflight * 2 ^ 8 + c.ldSlot * 16 + c.port) ++ le 8 c.ringHandle ++ le 8 c.sqOff ++ le 8 c.cqOff ++
  le 4 (c.vector * 2 ^ 16 + c.coalCount * 256 + c.coalTime) ++ le 4 c.cmdTimeout ++ le 4 c.dbPage
def QueueCtx.checkOk (c : QueueCtx) : Bool := c.check == crc32c c.pack
def QueueCtx.seal (c : QueueCtx) : QueueCtx := { c with check := crc32c c.pack }

/-- The bytes a quota entry's CHECK covers (Table 7-1). -/
def Quota.pack (q : Quota) : List Byte := le 4 q.t1Quota ++ le 4 q.t2Quota ++ le 4 q.t2Used
def Quota.checkOk (q : Quota) : Bool := q.check == crc32c q.pack
def Quota.seal (q : Quota) : Quota := { q with check := crc32c q.pack }

/-- Window ID of decoder n of LD slot l of port p (chapter 3). -/
def windowId (p l n : Nat) : Nat := p * 512 + l * 32 + n

/-- Bytes of a tier block. -/
def blkBytes : Nat := 65536
/-- Pool sector number of a byte offset in a block. -/
def secOf (pbn off : Nat) : Nat := pbn * 1024 + off % blkBytes / 64
/-- Unit number of a pool sector. -/
def unitOf (n : Nat) : Nat := n / 64
/-- Block of a pool sector. -/
def pbnOf (n : Nat) : Nat := n / 1024

/-- Key of a block map entry. -/
def bmeKey (region blk : Nat) : Nat := region * 2 ^ 32 + blk

/-- The 64 bytes of a sector, lowest address first. -/
def secBytes (d : Sector) : List Byte := le 64 d.toNat
/-- The sector of 64 bytes. -/
def ofSecBytes (l : List Byte) : Sector := BitVec.ofNat 512 (ofLe (l.take 64))

end Sys2Proof.Machine
end

