-- ==== Sys2Proof/Machine/Grade.lean ====
section
/-! DEFINITION. Grading and restoring (R225-R228): exact floating-point values, rounding to nearest even, group scales. -/
namespace Sys2Proof.Machine

/-- A binary format: exponent bits, mantissa bits, bias, whether the top exponent holds only NaN and infinity (IEEE) or finite values too (E4M3). -/
structure Fmt where
  eb : Nat
  mb : Nat
  bias : Int
  ieee : Bool
deriving DecidableEq, Repr

def fp32 : Fmt := ⟨8, 23, 127, true⟩
def fp16 : Fmt := ⟨5, 10, 15, true⟩
def bf16 : Fmt := ⟨8, 7, 127, true⟩
def e4m3 : Fmt := ⟨4, 3, 7, false⟩
def e5m2 : Fmt := ⟨5, 2, 15, true⟩

/-- The source format of ELEM_FMT and the grading format of GRADE_FMT (Table 3-1). -/
def elemFmt (n : Nat) : Fmt := if n = 1 then fp32 else if n = 2 then fp16 else bf16
def gradeFmt (n : Nat) : Fmt := if n = 0 then e4m3 else e5m2
/-- EMAX, largest finite value as m × 2^e (Table 7-6). -/
def gradeEmax (n : Nat) : Int := if n = 0 then 8 else 15
def gradeMax (n : Nat) : Nat × Int := if n = 0 then (7, 6) else (7, 13)

/-- A value: sign with NaN, infinity, or m × 2^e exactly. -/
inductive FVal where
  | nan (neg : Bool)
  | inf (neg : Bool)
  | fin (neg : Bool) (m : Nat) (e : Int)
deriving DecidableEq, Repr

/-- The value of a code. -/
def Fmt.decode (f : Fmt) (v : Nat) : FVal :=
  let neg := v.testBit (f.eb + f.mb)
  let ex := bits v f.mb f.eb
  let fr := bits v 0 f.mb
  let top := 2 ^ f.eb - 1
  if ex = top && (if f.ieee then true else fr == 2 ^ f.mb - 1) then (if f.ieee && fr == 0 then .inf neg else .nan neg)
  else if ex = 0 then .fin neg fr (1 - f.bias - f.mb)
  else .fin neg (2 ^ f.mb + fr) ((ex : Int) - f.bias - f.mb)

/-- m ÷ 2^k rounded to nearest, ties to even. -/
def rneShift (m k : Nat) : Nat :=
  if k = 0 then m
  else
    let q := m / 2 ^ k
    let r := m % 2 ^ k
    if 2 ^ (k - 1) < r || (r == 2 ^ (k - 1) && q % 2 == 1) then q + 1 else q

/-- floor of log2 of m × 2^e, m not 0. -/
def flog2 (m : Nat) (e : Int) : Int := (Nat.log2 m : Int) + e

/-- m × 2^e rounded to nearest even with the format's mantissa and subnormals, exponent unbounded: a mantissa and its exponent. -/
def Fmt.round (f : Fmt) (m : Nat) (e : Int) : Nat × Int :=
  if m = 0 then (0, 1 - f.bias - f.mb)
  else
    let q := max (flog2 m e - f.mb) (1 - f.bias - f.mb)
    let n := if q ≤ e then m * 2 ^ (e - q).toNat else rneShift m (q - e).toNat
    if n = 2 ^ (f.mb + 1) then (2 ^ f.mb, q + 1) else (n, q)

/-- The code of a rounded value. -/
def Fmt.encode (f : Fmt) (neg : Bool) (n : Nat) (q : Int) : Nat :=
  b2n neg * 2 ^ (f.eb + f.mb) + (if n < 2 ^ f.mb then n else (q + f.mb + f.bias).toNat * 2 ^ f.mb + (n - 2 ^ f.mb))

/-- m1 × 2^e1 > m2 × 2^e2. -/
def fgt (m1 : Nat) (e1 : Int) (m2 : Nat) (e2 : Int) : Bool :=
  let b := min e1 e2
  m2 * 2 ^ (e2 - b).toNat < m1 * 2 ^ (e1 - b).toNat

/-- The scale exponent X of a group (R227): from the largest magnitude of its finite elements. -/
def groupX (g : Nat) (xs : List FVal) : Int :=
  let top := xs.foldl (fun (a : Option (Nat × Int)) x => match x with
    | .fin _ m e => if m = 0 then a else (match a with | none => some (m, e) | some (n, k) => if fgt m e n k then some (m, e) else a)
    | .nan _ | .inf _ => a) none
  match top with
  | none => 0
  | some (m, e) => max (-127) (min 127 (flog2 m e - gradeEmax g))

/-- The code of one element (R227). -/
def gradeElem (g : Nat) (x : Int) (v : FVal) : Nat :=
  let f := gradeFmt g
  match v with
  | .nan neg => b2n neg * 128 + 0x7F
  | .inf neg => b2n neg * 128 + (if g = 0 then 0x7F else 0x7C)
  | .fin neg m e =>
    let (n, q) := f.round m (e - x)
    let (tm, te) := gradeMax g
    if fgt n q tm te then f.encode neg (tm * 2 ^ (f.mb - 2)) (te - (f.mb - 2)) else f.encode neg n q

/-- Split a list into groups of n. -/
def chunks {α : Type} (n : Nat) : Nat → List α → List (List α)
  | 0, _ => []
  | k + 1, l => l.take n :: chunks n k (l.drop n)

/-- Bytes of an element of ELEM_FMT. -/
def elemBytes (fmt : Nat) : Nat := if fmt = 1 then 4 else 2

/-- The codes and scales of a unit's 4,096 bytes (R225, R227). -/
def gradeUnit (fmt g : Nat) (data : List Byte) : List Byte × List Byte :=
  let n := 4096 / elemBytes fmt
  let vals := (chunks (elemBytes fmt) n data).map fun b => (elemFmt fmt).decode (ofLe b)
  let groups := chunks 32 (n / 32) vals
  (groups.flatMap fun x => x.map fun v => BitVec.ofNat 8 (gradeElem g (groupX g x) v),
   groups.map fun x => BitVec.ofNat 8 (groupX g x + 127).toNat)

/-- One element restored (R228). -/
def restoreElem (fmt g : Nat) (code scale : Byte) : Nat :=
  let f := elemFmt fmt
  let top := (2 ^ f.eb - 1) * 2 ^ f.mb
  let sign (neg : Bool) : Nat := b2n neg * 2 ^ (f.eb + f.mb)
  match (gradeFmt g).decode code.toNat with
  | .nan neg => sign neg + top + 2 ^ (f.mb - 1)
  | .inf neg => sign neg + top
  | .fin neg m e =>
    let (n, q) := f.round m (e + scale.toNat - 127)
    f.encode neg n q

/-- A sector of a unit restored from its codes and scales (R228). -/
def restoreSector (fmt g : Nat) (codes scales : List Byte) (sec : Nat) : Sector :=
  let per := 64 / elemBytes fmt
  ofSecBytes ((List.range per).flatMap fun k =>
    let i := sec * per + k
    le (elemBytes fmt) (restoreElem fmt g (codes.getD i 0) (scales.getD (i / 32) 0)))

end Sys2Proof.Machine
end

