-- ==== Sys2Proof/Machine/Flags.lean ====
section
/-! DEFINITION. Event flags, error flags, the event fabric and the recorder (R43-R45, R501-R525): what every block uses to report. -/
namespace Sys2Proof.Machine

/-! ## Channels -/

/-- The channel entry of a channel: channel 0 is fixed to the warden (R506). -/
def State.chanEntry (s : State) (ch : Nat) : Nat := if ch = 0 then 0x2000_0000 else (tget s.evf.chans ch).getD 0

/-- PENDING of a channel (R508). -/
def State.chanPending (s : State) (ch : Nat) : Nat := (tget s.evf.pending ch).getD 0

def State.setPending (s : State) (ch n : Nat) : State :=
  { s with evf := { s.evf with pending := if n = 0 then tdel s.evf.pending ch else tset s.evf.pending ch n } }

/-- The key of a function's MSI-X table: an LD function of a port, or the management function. -/
def fnKey (port ld : Nat) (mgmt : Bool) : Nat := if mgmt then 1000 else port * 16 + ld

def noMsix : MsixFn := { enable := false, unmasked := [], pba := [] }

/-- Raise an MSI-X vector: sent while the function is enabled and the vector unmasked, else its PBA bit is set (R509). -/
def State.raiseVector (s : State) (port ld : Nat) (mgmt : Bool) (v : Nat) : State :=
  let k := fnKey port ld mgmt
  let m := (tget s.hp.msix k).getD noMsix
  if !mgmt && !s.flag HP.BOUND port ld then s
  else if m.enable && m.unmasked.contains v then s.emit (.msix port ld mgmt v)
  else { s with hp := { s.hp with msix := tset s.hp.msix k { m with pba := if m.pba.contains v then m.pba else m.pba ++ [v] } } }

/-- Whether any channel whose DEST selects ALERT_Nk has PENDING ≠ 0 (R510). -/
def State.alertWanted (s : State) (k : Nat) : Bool :=
  s.evf.pending.any fun e => e.2 != 0 && s.chanEntry e.1 / 2 ^ 29 == 4 + k

/-- Drive or release ALERT_Nk as R510 says. -/
def State.alertPin (s : State) (k : Nat) : State :=
  let want := s.alertWanted k && !s.bitOf EVF.ALERT_FAULT k
  if want == s.bitOf EVF.ALERT_DRV k then s
  else (s.putBit EVF.ALERT_DRV k want).pinOut "ALERT_N" k (if want then some false else none)

def State.alertPins (s : State) : State := (s.alertPin 0).alertPin 1

/-- Latch a wake for a domain with the channel to signal again (R544, R545). -/
def State.latchWake (s : State) (n ch : Nat) : State :=
  let s := s.putBit PWR.PWR_WAKE_LATCH n true
  if s.pwr.latched.contains (n, ch) then s else { s with pwr := { s.pwr with latched := s.pwr.latched ++ [(n, ch)] } }

/-- Start the wake of a domain that is in RET or OFF, unless a harvest holds the shed domains (R545, R549). -/
def State.wakeStart (s : State) (n : Nat) : State :=
  let st := s.get PWR.STATE 0 n
  if (st == domRet || st == domOff) && !(s.pwr.shed.contains n) then
    { (s.put PWR.STATE domWaking 0 n) with pwr.fromOff := if st == domOff && !s.pwr.fromOff.contains n then s.pwr.fromOff ++ [n] else s.pwr.fromOff }
  else s

/-- A wake event for a domain (R544): it wakes from RET or OFF; during entry it cancels the entry when it is observed before the commit cycle, else it is latched. Which of the two is the sender's timing: a free choice (log entry 7); once an access or event has been observed in the commit cycle or later, every further one is. -/
def State.wakeEvent (s : State) (n ch : Nat) : State :=
  let st := s.get PWR.STATE 0 n
  if st == domEntering then
    if s.bitOf PWR.PWR_WAKE_LATCH n then s.latchWake n ch
    else if Config.freeBool s.free then (s.useFree).put PWR.STATE domOn 0 n
    else (s.useFree).latchWake n ch
  else if st == domRet || st == domOff || st == domWaking then (s.latchWake n ch).wakeStart n
  else s

/-- An access to a domain that is not ON wakes it (R41, R544, R545); during entry it may come before the commit cycle, which is a free choice (log entry 7) until one access or event has come later. -/
def State.dataWake (s : State) (n : Nat) : State :=
  let st := s.get PWR.STATE 0 n
  if st == domEntering then
    if s.bitOf PWR.PWR_WAKE_LATCH n then s
    else if Config.freeBool s.free then s.useFree.put PWR.STATE domOn 0 n
    else s.useFree.putBit PWR.PWR_WAKE_LATCH n true
  else if st == domRet || st == domOff then (s.putBit PWR.PWR_WAKE_LATCH n true).wakeStart n
  else s

/-- Signal the destination of a channel (Table 16-4). -/
def State.signal (s : State) (ch : Nat) : State :=
  let e := s.chanEntry ch
  let unit := bits e 25 3
  match e / 2 ^ 29 with
  | 1 => if s.domainOn 1 then s.emit (.wardenIrq ch) else s.wakeEvent 1 ch
  | 2 => if s.domainOn (2 + unit) then s.emit (.clusterIrq unit (bits e 0 11)) else s.wakeEvent (2 + unit) ch
  | 3 => s.raiseVector unit (bits e 21 4) (bit e 28) (bits e 0 11)
  | _ => s

/-- Deliver one occurrence to a channel (R508). -/
def State.chanHit (s : State) (ch : Nat) : State :=
  let n := s.chanPending ch
  let s := s.setPending ch (min 0xFFFF (n + 1))
  (if n = 0 then s.signal ch else s).alertPins

/-- The route entry of a source (R505). -/
def State.routeEntry (s : State) (src : Nat) : Nat := (tget s.evf.routes src).getD 0

/-- Route an occurrence of local index idx of page p: masked by EVT_MASK (0-31) or by the entry's MASK (32-127), to CHANNEL or to EVT_ROUTE (R505). -/
def State.deliver (s : State) (p : Page) (idx : Nat) : State :=
  let e := s.routeEntry (p.blk.code * 128 + idx)
  let masked := if idx < 32 then bit (s.rd p HDR.EVT_MASK) idx else bit e 14
  if masked then s else s.chanHit (if bit e 15 then bits e 0 9 else s.rd p HDR.EVT_ROUTE)

/-! ## Alarms (R522, R523, R592) -/

/-- Send an alarm to every valid collector and keep it until it is acknowledged. A 257th unsent alarm drops the oldest of the lowest severity (R523). -/
def State.postAlarm (s : State) (a : Alarm) : State :=
  let corr := s.recd.nextCorr
  let drop := 256 ≤ s.recd.sent.length
  let low := (s.recd.sent.map fun x => x.alarm.sev).foldl min a.sev
  let kept := if drop then (match takeFirst s.recd.sent (fun x => x.alarm.sev == low) with
    | some (_, r) => r ++ [{ corr := corr, alarm := a }]
    | none => s.recd.sent) else s.recd.sent ++ [{ corr := corr, alarm := a }]
  let s := if drop then s.inc REC.ALARM_DROP else s
  let s := { s with recd := { s.recd with sent := kept, nextCorr := corr + 1 } }
  [0, 1].foldl (fun s c => if s.flag MGT.VALID 0 c then (s.inc MGT.ALARM_SENT).emit (.alarm c corr a) else s) s

def fwdEntryOf (r : Record) (inst : Nat) : FwdEntry :=
  { code := r.code, inst := inst, sev := 0, count := 0, first := r.time, last := r.time, firstSeq := r.seq, payload := [] }

/-- Count an alarm in an entry: a summary record adds its COUNT (R522). -/
def fwdCount (e : FwdEntry) (r : Record) (n : Nat) : FwdEntry :=
  { e with sev := max e.sev r.sev, count := e.count + n, last := r.time,
           first := if e.count = 0 then r.time else e.first,
           firstSeq := if e.count = 0 then r.seq else e.firstSeq,
           payload := if e.count = 0 then r.payload else e.payload }

/-- The COUNT a summary record carries (Table 16-7), 1 for any other record. -/
def recordCount (r : Record) : Nat := if r.summary then field r.payload 0 4 else 1

/-- The forwarder takes an alarm record (R522): a new key opens an entry and is sent at once; a key in its window is counted; with no entry free the key becomes the code with instance 0xFF, else the device-wide entry, which sets ALARM_FULL through err. -/
def State.forward (err : State → Page → Nat → State) (s : State) (r : Record) : State :=
  if r.sev < s.get REC.ALARM_SEV then s else
  let n := recordCount r
  let room := s.recd.fwd.length < (if 6 ≤ r.sev then 1024 else 960)
  let openEntry (inst : Nat) : State :=
    let s := { s with recd := { s.recd with fwd := s.recd.fwd ++ [fwdEntryOf r inst] } }
    let s := s.postAlarm ⟨r.code, inst, r.sev, false, false, n, r.time, r.time, r.seq, r.payload⟩
    if s.recd.sent.length = 256 && !bit (s.rd (pg .mgt) HDR.ERR_STAT) 16 then err s (pg .mgt) 16 else s
  let countIn (inst : Nat) : State :=
    { s with recd := { s.recd with fwd := s.recd.fwd.map fun e =>
        if e.code = r.code ∧ e.inst = inst then fwdCount e r n else e } }
  if s.recd.fwd.any (fun e => e.code == r.code && e.inst == r.inst) then countIn r.inst
  else if room then openEntry r.inst
  else if s.recd.fwd.any (fun e => e.code == r.code && e.inst == 0xFF) then countIn 0xFF
  else
    let e := s.recd.fwdAll.getD { fwdEntryOf r 0xFF with count := 0 }
    let s := { s with recd := { s.recd with fwdAll := some (fwdCount e r n) } }
    if bit (s.rd (pg .recd) HDR.ERR_STAT) 17 then s else err s (pg .recd) 17

/-! ## Records (R512-R518) -/

def generalSlots : Nat := 126976
def ringSlots : Nat := 131072

/-- Whether a slot is free: never written, or its record spilled or cleared (R513). -/
def State.slotFree (s : State) (k : Nat) : Bool := match tget s.recd.slots k with | some x => x.free | none => true

/-- The next 64 general slots from the write position. -/
def State.nearSlots (s : State) : List Nat := (List.range 64).map fun j => (s.recd.wpos + j) % generalSlots

/-- The severity of the unspilled record in a slot. -/
def State.slotSev (s : State) (k : Nat) : Nat := match tget s.recd.slots k with | some x => x.entry.sev | none => 0

/-- The first free reserved slot. Structural search bounded by the slots that are not free. -/
def State.freeReserved (s : State) : Option Nat :=
  let used := (s.recd.slots.filter fun e => generalSlots ≤ e.1 && !e.2.free).map Prod.fst
  let n := used.length
  if 4096 ≤ n then none
  else (List.range (n + 1)).map (generalSlots + ·) |>.find? fun k => !used.contains k

/-- Where Table 16-6 places a record: slot and whether it overwrites, dropped, or folded. -/
inductive Place where
  | slot (k : Nat) (old : Bool)
  | dropped
  | folded
deriving DecidableEq, Repr

def State.place (s : State) (sev : Nat) : Place :=
  if s.slotFree s.recd.wpos then .slot s.recd.wpos false
  else if sev ≤ 1 then .dropped
  else match s.nearSlots.find? s.slotFree with
    | some k => .slot k false
    | none =>
      let lower (top : Nat) : Place := match s.nearSlots.find? fun k => s.slotSev k ≤ top with
        | some k => .slot k true
        | none => .folded
      if sev ≤ 5 then lower (sev - 1)
      else match s.freeReserved with
        | some k => .slot k false
        | none => lower 5

/-- Add n occurrences to a fold. -/
def foldAdd (f : Option Fold) (n first last inst sev : Nat) (payload : List Byte) : Fold :=
  match f with
  | none => { count := n, first := first, last := last, lastInst := inst, insts := [inst], sev := sev, payload := payload }
  | some f => { count := f.count + n, first := f.first, last := last, lastInst := inst,
                insts := if f.insts.contains inst then f.insts else f.insts ++ [inst], sev := max f.sev sev, payload := payload }

def State.limiter (s : State) (code : Nat) : Limiter := (tget s.recd.limiters code).getD { lo := 0, mid := 0, hi := 0, fold := none }

/-- Count an occurrence of a code in the current window's summary (R517, R518). -/
def State.foldCode (s : State) (code n first last inst sev : Nat) (payload : List Byte) : State :=
  let l := s.limiter code
  { s with recd := { s.recd with limiters := tset s.recd.limiters code { l with fold := some (foldAdd l.fold n first last inst sev payload) } } }

/-- Write a record where Table 16-6 places it, and give it to the alarm forwarder (R512, R514, R522). -/
def State.writeRecord (err : State → Page → Nat → State) (s : State) (code inst sev : Nat) (payload : List Byte) (forced summary : Bool) : State :=
  match s.place sev with
  | .dropped => s.inc EVF.TRACE_DROP
  | .folded =>
    let n := if summary then field payload 0 4 else 1
    (s.inc REC.LOST_CNT).foldCode code n s.timeNs s.timeNs inst sev payload
  | .slot k old =>
    let seq := (s.get REC.HEAD_SEQ + 1) % 2 ^ 32
    let rsv := generalSlots ≤ k
    let r : Record := { time := s.timeNs, seq := seq, code := code, sev := sev, forced := forced, boot := !s.recd.spilledOnce,
                        rsv := rsv, summary := summary, inst := inst, payload := payload.take 44 }
    let s := s.put REC.HEAD_SEQ seq
    let s := if old then s.inc REC.OVW_CNT else if rsv then s.inc REC.RSV_USED else s
    let s := { s with recd := { s.recd with slots := tset s.recd.slots k { entry := r, free := false },
                                            wpos := if rsv then s.recd.wpos else (k + 1) % generalSlots } }
    s.forward err r

/-- Record an occurrence: the first of a code in a window singly, the further ones counted (R517). -/
def State.record (err : State → Page → Nat → State) (s : State) (code inst sev : Nat) (payload : List Byte) (forced : Bool) : State :=
  let l := s.limiter code
  let put (l : Limiter) (s : State) : State := { s with recd := { s.recd with limiters := tset s.recd.limiters code l } }
  if sev ≤ 3 then
    if l.lo < s.get REC.RATE_LO then (put { l with lo := l.lo + 1 } s).writeRecord err code inst sev payload forced false
    else s.foldCode code 1 s.timeNs s.timeNs inst sev payload
  else if sev ≤ 5 then
    if l.mid < s.get REC.RATE_MID then (put { l with mid := l.mid + 1 } s).writeRecord err code inst sev payload forced false
    else s.foldCode code 1 s.timeNs s.timeNs inst sev payload
  else
    if l.hi < s.get REC.RATE_HI then (put { l with hi := l.hi + 1 } s).writeRecord err code inst sev payload forced false
    else s.foldCode code 1 s.timeNs s.timeNs inst sev payload

/-! ## Occurrences (R502-R504, R511) -/

/-- One occurrence leaves its block: with a credit it is recorded and delivered; without, it is dropped, folded at the source, or uses a reserved credit, by severity (R511). -/
def State.sendOcc (err : State → Page → Nat → State) (s : State) (p : Page) (idx sev : Nat) (payload : List Byte) (forced : Bool) : State :=
  let c := p.blk.code
  let (n, r) := (tget s.evf.credits c).getD (0, 0)
  let src := c * 128 + idx
  let useCredit (x : Nat × Nat) (s : State) : State := { s with evf := { s.evf with credits := tset s.evf.credits c x } }
  let go (s : State) : State := (s.record err (c * 256 + idx) p.inst sev payload forced).deliver p idx
  let fold (s : State) : State :=
    { s with evf.folds := tset s.evf.folds src (foldAdd (tget s.evf.folds src) 1 s.timeNs s.timeNs p.inst sev payload) }
  if n < 8 then go (useCredit (n + 1, r) s)
  else if sev ≤ 1 then s.inc EVF.TRACE_DROP
  else if sev ≤ 5 then fold s
  else if r < 2 then go (useCredit (n, r + 1) s)
  else fold s

/-- An occurrence of source idx of page p: sets its EVT_STAT bit (0-31), is recorded and routed (R503, R504). -/
def State.occurWith (err : State → Page → Nat → State) (s : State) (p : Page) (idx sev : Nat) (payload : List Byte) (forced : Bool) : State :=
  let s := if idx < 32 then s.wr p HDR.EVT_STAT (setBits (s.rd p HDR.EVT_STAT) idx 1 1) else s
  s.sendOcc err p idx sev payload forced

/-- What a control access captured in ERR_INFO0 and ERR_INFO1 (Table 2-3). -/
structure Capture where
  req : Nat
  off : Nat
  data : Nat
deriving DecidableEq, Repr

/-- Set bit k of ERR_STAT of a page and capture the first error (R43, R44). -/
def State.setErr (s : State) (p : Page) (k : Nat) (c : Option Capture) : State :=
  let st := s.rd p HDR.ERR_STAT
  let (req, off, data) := match c with | some c => (c.req, c.off, c.data) | none => (0xF, 0, 0)
  let info := req * 2 ^ 28 + (if k < 16 then k else k - 16) * 2 ^ 24 + (if k < 16 then 0 else 2 ^ 23) + off % 4096
  let s := if st = 0 then (s.wr p HDR.ERR_INFO0 info).wr p HDR.ERR_INFO1 data else s
  s.wr p HDR.ERR_STAT (setBits st k 1 1)

/-- An error raised inside the alarm path itself: the bit and the capture; its own event is not raised again. -/
def State.errQuiet (s : State) (p : Page) (k : Nat) : State := s.setErr p k none
/-- An error of the alarm path, with its event. -/
def State.errInner (s : State) (p : Page) (k : Nat) : State :=
  (s.setErr p k none).occurWith State.errQuiet p (k - 14) 4 [] false
/-- An error of the alarm path met by an ordinary occurrence. -/
def State.errAlarm (s : State) (p : Page) (k : Nat) : State :=
  (s.setErr p k none).occurWith State.errInner p (k - 14) 4 [] false

/-- An occurrence of an event source of page p. -/
def State.occur (s : State) (p : Page) (idx sev : Nat) (payload : List Byte := []) : State :=
  s.occurWith State.errAlarm p idx sev payload false

/-- A record that no source of Table 16-1 or 16-12 names: local index 127, MISC (R617). -/
def State.misc (s : State) (p : Page) (sev : Nat) (payload : List Byte := []) : State := s.occur p 127 sev payload

/-- A block-defined error (ERR_STAT bit 16 to 29): bit, capture, and BLK_ERR event (Table 16-1). -/
def State.blkErr (s : State) (p : Page) (k sev : Nat) (payload : List Byte := []) (c : Option Capture := none) : State :=
  let s := s.setErr p k c
  if k ≤ 29 then s.occur p (k - 14) sev payload else s

/-- A common error (ERR_STAT bit 0 to 5) of a control access: bit, capture, and CTRL_ERR event with the capture (R45). -/
def State.ctlErr (s : State) (p : Page) (k sev : Nat) (c : Capture) : State :=
  let s := s.setErr p k (some c)
  s.occur p 0 sev (le 4 (s.rd p HDR.ERR_INFO0) ++ le 4 (s.rd p HDR.ERR_INFO1))

/-- HRV states (Table 11-5). -/
def hrvNormal : Nat := 0
def hrvHarvesting : Nat := 1
def hrvSealed : Nat := 2
def hrvRestoring : Nat := 3
def hrvIncomplete : Nat := 4
def hrvRehearsing : Nat := 5

/-- From the freeze of a harvest to its end (R351). -/
def State.frozen (s : State) : Bool := s.get HRV.STATE == hrvHarvesting || s.get HRV.STATE == hrvSealed

end Sys2Proof.Machine
end

