-- ==== Sys2Proof/Machine/Lanes.lean ====
section
/-! DEFINITION. The cipher scheduler and its hold space (R451-R453, R455, R456). A record takes effect when it arrives; what its lane time holds back is the path's next record (log entry 105). -/
namespace Sys2Proof.Machine

/-- The paths that share the lanes (R451). -/
inductive CipPath where
  | twin | cemanor | flash
deriving DecidableEq, Repr

def State.lanes (s : State) : CipPath → List LaneRec
  | .twin => s.twn.cipher
  | .cemanor => s.cmn.cipher
  | .flash => s.flm.cipher
def State.setLanes (s : State) (l : List LaneRec) : CipPath → State
  | .twin => { s with twn.cipher := l }
  | .cemanor => { s with cmn.cipher := l }
  | .flash => { s with flm.cipher := l }

/-- Whether a record waits for a lane; the lanes that run. -/
def laneWaits (l : List LaneRec) : Bool := l.any fun r => r.lane.isNone
def laneRuns (l : List LaneRec) : List Nat := l.filterMap fun r => r.lane

/-- The lanes in service that are free, ascending. -/
def State.freeLanes (s : State) : List Nat :=
  let used := laneRuns s.twn.cipher ++ laneRuns s.cmn.cipher ++ laneRuns s.flm.cipher
  (List.range 24).filter fun k => s.bitOf CIP.LANES_OK k && !used.contains k

/-- The lanes reserved for a path: its minimum; with fewer lanes in service than the sum of the minima a share of them in proportion, rounded down, for the twin link and flash at least one (R451, R453). -/
def State.laneMin (s : State) (p : CipPath) : Nat :=
  let a := s.get CIP.MIN_TWN
  let b := s.get CIP.MIN_CMN
  let c := s.get CIP.MIN_FLM
  let n := ((List.range 24).filter fun k => s.bitOf CIP.LANES_OK k).length
  let cut (m : Nat) : Nat := if a + b + c ≤ n then m else m * n / (a + b + c)
  let keep (m : Nat) : Nat := if a + b + c ≤ n then m else max 1 (cut m)
  match p with
  | .twin => keep a
  | .cemanor => cut b
  | .flash => keep c

/-- Whether flash and the twin link go before Cemanor: from a harvest's freeze to its end, and in a restore (R452). -/
def State.cipherFirst (s : State) : Bool := let st := s.get HRV.STATE; st == 1 || st == 2 || st == 3

/-- Of some paths the one whose waiting record has waited longest. -/
def State.laneOldest (s : State) (ps : List CipPath) : Option CipPath :=
  (ps.filterMap fun p => ((s.lanes p).find? fun r => r.lane.isNone).map fun r => (p, r.since)).foldl (fun best e => match best with
    | some (b : CipPath × Nat) => if e.2 < b.2 then some e else some b
    | none => some e) none |>.map Prod.fst

/-- The path whose waiting record gets the next lane (R451, R452). -/
def State.laneNext (s : State) : Option CipPath :=
  let waits := [CipPath.twin, .cemanor, .flash].filter fun p => laneWaits (s.lanes p)
  if s.cipherFirst then (s.laneOldest (waits.filter (· != .cemanor))).or (s.laneOldest waits)
  else (s.laneOldest (waits.filter fun p => (laneRuns (s.lanes p)).length < s.laneMin p)).or (s.laneOldest waits)

/-- The first waiting record of a path takes a lane. -/
def laneTake (k : Nat) : List LaneRec → List LaneRec
  | [] => []
  | r :: t => if r.lane.isNone then { r with lane := some k } :: t else r :: laneTake k t

/-- Free lanes go to the records that wait, one after another. -/
def State.laneGive : Nat → State → State
  | 0, s => s
  | n + 1, s =>
    match s.freeLanes.head?, s.laneNext with
    | some k, some p => State.laneGive n (s.setLanes (laneTake k (s.lanes p)) p)
    | _, _ => s

/-- A record of a path arrives at the cipher: 50 GB/s of lane time, and hold space until it is verified (R451, R455). It takes a free lane where no record waits. -/
def State.laneJoin (s : State) (p : CipPath) (bytes hold : Nat) : State :=
  let wait := laneWaits s.twn.cipher || laneWaits s.cmn.cipher || laneWaits s.flm.cipher
  s.setLanes (s.lanes p ++ [{ since := s.timeNs, left := max 1 ((bytes + 49) / 50), hold := hold, lane := if wait then none else s.freeLanes.head? }]) p

/-- Lane time passes: records that are through leave their lane and their hold space. -/
def laneRun (ns : Nat) (l : List LaneRec) : List LaneRec :=
  l.filterMap fun r => if r.lane.isNone then some r else if r.left ≤ ns then none else some { r with left := r.left - ns }

def State.laneTick (s : State) (ns : Nat) : State :=
  State.laneGive 24 (((s.setLanes (laneRun ns s.twn.cipher) .twin).setLanes (laneRun ns s.cmn.cipher) .cemanor).setLanes (laneRun ns s.flm.cipher) .flash)

/-- The records of a lane that leaves service wait again (R453: no record is dropped). -/
def State.laneGone (s : State) (k : Nat) : State :=
  let off (l : List LaneRec) : List LaneRec := l.map fun r => if r.lane = some k then { r with lane := none } else r
  ((s.setLanes (off s.twn.cipher) .twin).setLanes (off s.cmn.cipher) .cemanor).setLanes (off s.flm.cipher) .flash

/-- Bytes of the cipher hold buffer in use (R455), and whether so many more find no room (R456). -/
def State.holdBytes (s : State) : Nat := ((s.twn.cipher ++ s.cmn.cipher).map fun r => r.hold).foldl (· + ·) 0
def State.holdFull (s : State) (n : Nat) : Bool := decide (4 * 2 ^ 20 < s.holdBytes + n)

end Sys2Proof.Machine
end

