-- ==== Sys2Proof/Machine/PanOps.lean ====
section
/-! DEFINITION. The pan (08): lookup, fill, replacement, write, write-back, invalidation, trackers; and the frames below it. -/
namespace Sys2Proof.Machine

/-- DMC_STAT.STATE (Table 9-3). -/
def dmcAbsent : Nat := 0
def dmcTraining : Nat := 1
def dmcReady : Nat := 2
def dmcRetrain : Nat := 3
def dmcSelfRefresh : Nat := 4
def dmcFailed : Nat := 5
def dmcExcluded : Nat := 6

/-- A sector of zeros without poison. -/
def zeroSec : SectorVal := { data := 0, poison := false }

/-- A sector of a frame, by pool sector number (PBN × 1,024 + sector). -/
def State.frameRead (s : State) (n : Nat) : SectorVal := (tget s.tier.frames n).getD zeroSec

/-- The channels in use, ascending (R271). -/
def State.chansUsed (s : State) : List Nat := (List.range 12).filter fun c => s.bitOf DMC.PAIRS_USED (c / 2)

/-- The first 256 B interleave unit of the T1 frames: FRAME_BASE (R618). -/
def State.frameBase (s : State) : Nat := s.get DMC.DRAM_GIB * 2 ^ 22 - (s.get TIER.T1_FRAMES + s.get TIER.MIRROR_FRAMES) * 256

/-- The channel of a DRAM address: the (g mod NCHAN)-th in use, g = A >> 8 (R271). -/
def State.addrChan (s : State) (a : Nat) : Option Nat := s.chansUsed[a / 256 % max 1 s.chansUsed.length]?

/-- The channel-local address of a DRAM address (R271). -/
def State.addrLoc (s : State) (a : Nat) : Nat := a / 256 / max 1 s.chansUsed.length * 256 + a % 256

/-- The subchannel of a DRAM address: A[6] (R271). -/
def addrSub (a : Nat) : Bool := bit a 6

/-- The DRAM address of a sector of a frame, the mirror frames counted on after those of T1 (R618). -/
def State.frameAddr (s : State) (frame sec : Nat) : Nat := s.frameBase * 256 + frame * 65536 + sec * 64

/-- Whether a pool block belongs to the system area (R302, R476). -/
def State.isSys (s : State) (p : Nat) : Bool :=
  let user := s.get FTL.USER_BLKS ftlPage.inst
  user ≤ p && p < user + s.get FTL.SYS_BLKS ftlPage.inst

/-- The T1 frame of a pool block: system-area block USER_BLKS + s occupies frame s (R618). -/
def State.blockFrame (s : State) (p : Nat) : Option Nat :=
  if s.isSys p then some (p - s.get FTL.USER_BLKS ftlPage.inst) else (tget s.tier.blocks p).map fun b => b.frame

/-- The frame that TIER gives a block: which of those that no block has is free (log entry 17); the system area keeps the first SYS_BLKS (R618). -/
def State.pickFrame (s : State) (p : Nat) : Nat :=
  let sys := s.get FTL.SYS_BLKS ftlPage.inst
  let taken := s.tier.blocks.map fun e => e.2.frame
  (((List.range (taken.length + 1)).map fun k => sys + (Config.frameOf p + k) % max 1 (s.get TIER.T1_FRAMES - sys)).find? fun f => !taken.contains f).getD sys

/-- The page of DRAM that a number names among those of the system area's frames (R476, R618). -/
def State.sysPage (s : State) (k : Nat) : Nat := s.frameBase / 16 + k % max 1 (s.get FTL.SYS_BLKS ftlPage.inst * 16)

/-- The DRAM address of a pool sector's copy in T1, of one whose block has a frame. -/
def State.sectorAddr (s : State) (n : Nat) : Option Nat := (s.blockFrame (n / 1024)).map fun f => s.frameAddr f (n % 1024)

/-- The DRAM address of a sector of twin brine: which mirror frame its block has is free (log entry 17). -/
def State.mirrorAddr (s : State) (n : Nat) : Nat :=
  s.frameAddr (s.get TIER.T1_FRAMES + Config.frameOf (n / 1024) % max 1 (s.get TIER.MIRROR_FRAMES)) (n % 1024)

/-- The channel that holds the DRAM copy of a pool sector (R271, R618). -/
def State.chanOf (s : State) (n : Nat) : Option Nat := (s.sectorAddr n).bind s.addrChan

/-- The channel of a sector of twin brine. -/
def State.mirrorChan (s : State) (n : Nat) : Option Nat := s.addrChan (s.mirrorAddr n)

/-! ## The write queues of the DRAM subchannels (R290) -/

/-- LAT_TGT of a port of a channel (Table 9-8). -/
def State.latTgt (s : State) (c port : Nat) : Nat := if port % 2 = 0 then s.get DMC.LAT_TGT_LO c (port / 2) else s.get DMC.LAT_TGT_HI c (port / 2)

/-- The urgency of an age against a target (R288): at 50, 75 and 100 % of it. -/
def urgLevel (age tgt : Nat) : Nat := if age * 4 < tgt * 2 then 0 else if age * 4 < tgt * 3 then 1 else if age < tgt then 2 else 3

/-- The urgency of a request that a channel holds for a port since a time; patrol scrub belongs to no port (R287). -/
def State.reqUrgency (s : State) (c port since : Nat) : Nat := if port < 16 then urgLevel (s.timeNs - since) (s.latTgt c port) else 0

/-- Whether a queued write has reached urgency 3 (R288). -/
def State.writeUrgent (s : State) (c : Nat) (w : QWrite) : Bool := s.reqUrgency c w.port w.since == 3

/-- The reads that wait in a channel's queue: those that its state or a block on the way holds (Table 9-3, R52). -/
def State.chanReads (s : State) (c : Nat) : List WaitRead := s.tier.reads.filter fun r => r.panStall && s.chanOf r.sector == some c

/-- The urgency of a port of a channel: that of its oldest queued request (R288). -/
def State.portUrgency (s : State) (c port : Nat) : Nat :=
  let writes := ([2 * c, 2 * c + 1].flatMap fun k => (tget s.tier.writes k).getD []).filter fun w => w.port == port
  ((writes.map fun w => s.reqUrgency c port w.since) ++ (s.chanReads c).map fun r => if r.who.qos = port then s.reqUrgency c port r.t0 else 0).foldl max 0

/-- The URGENCY register of a channel (R288), two bits for each port. -/
def State.urgencyReg (s : State) (c : Nat) : Nat := (List.range 16).foldl (fun v p => setBits v (2 * p) 2 (s.portUrgency c p)) 0

/-- The urgency of a channel: the highest of its ports (R288). -/
def State.chanUrgency (s : State) (c : Nat) : Nat := ((List.range 16).map fun p => s.portUrgency c p).foldl max 0

/-- The DRAM urgency of a host port: the highest of the channels in use (R129, R288). -/
def State.urgency (s : State) (port : Nat) : Nat := (s.chansUsed.map fun c => s.portUrgency c port).foldl max 0

/-- Whether a channel serves requests: READY or RETRAIN (Table 9-3). -/
def State.dmcServes (s : State) (c : Nat) : Bool := s.get DMC.STATE c == dmcReady || s.get DMC.STATE c == dmcRetrain

/-- A request reaches the channel of a DRAM address: its rank leaves power-down (R297), and self-refresh that neither a harvest nor a warm reset holds will be left (R299). -/
def State.dramAsk (s : State) (a : Nat) : State :=
  match s.addrChan a with
  | none => s
  | some c =>
    let k := c * 4 + Config.dramRank (s.addrLoc a) % max 1 (s.get DMC.RANKS c)
    let go := s.get DMC.STATE c == dmcSelfRefresh && s.domainOn (42 + c) && !s.frozen && !s.wdn.warm && !s.dmc.leaving.contains c
    { s with dmc := { s.dmc with asked := tset s.dmc.asked k s.timeNs, pdRanks := s.dmc.pdRanks.filter (· != k), leaving := if go then s.dmc.leaving ++ [c] else s.dmc.leaving } }

/-- Writes are issued: while WCRC_EN = 1 the last 64 of each subchannel stay in its replay buffer (R279). -/
def State.dramIssued (s : State) (k : Nat) (ws : List QWrite) : State :=
  if ws.isEmpty || !s.flag DMC.WCRC_EN (k / 2) then s
  else
    let all := (tget s.dmc.replay k).getD [] ++ ws.map fun w => w.sector
    { s with dmc := { s.dmc with issued := tset s.dmc.issued k ((tget s.dmc.issued k).getD 0 + ws.length), replay := tset s.dmc.replay k (all.drop (all.length - 64)) } }

/-- A write of a sector at a DRAM address is accepted by its channel (R290): it joins the write queue of its subchannel; at 96 entries a drain begins. One that finds 128 waits for the oldest to be issued. -/
def State.dramAccept (s : State) (a sector port : Nat) : State :=
  match s.addrChan a with
  | none => s
  | some c =>
    let k := c * 2 + b2n (addrSub a)
    let q := (tget s.tier.writes k).getD []
    let s := (s.dramAsk a).dramIssued k (if 128 ≤ q.length then q.take 1 else [])
    let q := (if 128 ≤ q.length then q.drop 1 else q) ++ [{ sector := sector, port := port, since := s.timeNs }]
    { s with tier := { s.tier with writes := tset s.tier.writes k q, written := tset s.tier.written sector s.timeNs,
                                   drains := if 96 ≤ q.length && !s.tier.drains.contains k then s.tier.drains ++ [k] else s.tier.drains } }

/-- A queue without its writes up to the last urgent one: they are issued in order (R291). -/
def urgentOut (hit : QWrite → Bool) : List QWrite → List QWrite
  | [] => []
  | w :: r => if (w :: r).any hit then urgentOut hit r else w :: r

/-- What is left of a subchannel's write queue after a tick of draining (R290): from 96 entries to 32, without those up to one at urgency 3, nothing while no read is queued, which is free where State holds none (log entry 103). During a drain a read at urgency 3 lets one write go before it, below 120 entries. -/
def State.dramLeft (s : State) (k : Nat) (q : List QWrite) : List QWrite :=
  let reads := s.chanReads (k / 2)
  if reads.isEmpty && !Config.dramReads s.timeNs k then []
  else if !s.tier.drains.contains k then urgentOut (s.writeUrgent (k / 2)) q
  else if q.length < 120 && reads.any (fun r => s.reqUrgency (k / 2) r.who.qos r.t0 == 3) then q.drop 1
  else urgentOut (s.writeUrgent (k / 2)) (q.drop (q.length - 32))

/-- The write queues of the channels that serve drain (R290). -/
def State.dramDrain (s : State) : State :=
  s.tier.writes.foldl (fun s e =>
    if !s.dmcServes (e.1 / 2) then s
    else
      let q := s.dramLeft e.1 e.2
      let s := s.dramIssued e.1 (e.2.take (e.2.length - q.length))
      { s with tier := { s.tier with writes := if q.isEmpty then tdel s.tier.writes e.1 else tset s.tier.writes e.1 q,
                                     drains := if q.length ≤ 32 then s.tier.drains.filter (· != e.1) else s.tier.drains } }) s

/-- The write queues and the replay buffers of a channel are empty: drained before self-refresh (R298), or lost with it. -/
def State.dramEmpty (s : State) (c : Nat) : State :=
  { s with
    tier := { s.tier with writes := s.tier.writes.filter fun e => e.1 / 2 != c, drains := s.tier.drains.filter fun k => k / 2 != c },
    dmc := { s.dmc with replay := s.dmc.replay.filter fun e => e.1 / 2 != c } }

/-- Store a sector of a frame, for a QoS port (Table 9-6); a zero sector is not listed. -/
def State.frameWrite (s : State) (n : Nat) (v : SectorVal) (port : Nat := 14) : State :=
  let s : State := { s with tier.frames := if v = zeroSec then tdel s.tier.frames n else tset s.tier.frames n v }
  match s.sectorAddr n with
  | some a => s.dramAccept a (2 * n) port
  | none => s

/-- Bytes outside the frames, tables and bittern units, are written: their sectors join the write queues (R290). -/
def State.memAccept (s : State) (a n port : Nat) : State :=
  if n = 0 then s
  else (List.range ((a + n - 1) / 64 - a / 64 + 1)).foldl (fun s k => let x := a / 64 + k; s.dramAccept (x * 64) (2 * (2 ^ 64 + x)) port) s

/-- A sector of a frame is read by its channel. -/
def State.frameAsk (s : State) (n : Nat) : State := match s.sectorAddr n with | some a => s.dramAsk a | none => s

/-- Slice of line address L (R232). -/
def sliceOf (l : Nat) : Nat := l % 16 ^^^ (l >>> 17) % 16
/-- Set of line address L. -/
def setOf (l : Nat) : Nat := (l >>> 4) % 8192
/-- Tag of line address L. -/
def tagOf (l : Nat) : Nat := l >>> 17
/-- The first key of the set of a line. -/
def setKey (slice st : Nat) : Nat := (slice * 8192 + st) * 32
/-- The line address a tag, slice and set determine (R232). -/
def lineAddr (slice st tag : Nat) : Nat := tag * 2 ^ 17 + st * 16 + ((slice ^^^ tag % 16) % 16)

/-- Slice states (Table 8-5). -/
def panEnabled : Nat := 0
def panDraining : Nat := 1
def panClearing : Nat := 2
def panDisabled : Nat := 3
def panInvalidating : Nat := 4

/-- The way that holds line L, with the line. -/
def State.panFind (s : State) (l : Nat) : Option (Nat × Line) :=
  let k := setKey (sliceOf l) (setOf l)
  (List.range 24).findSome? fun w => match tget s.pan.lines (k + w) with
    | some x => if x.tag = tagOf l then some (k + w, x) else none
    | none => none

/-- Put a line under its key. -/
def State.panPut (s : State) (k : Nat) (x : Line) : State := { s with pan.lines := tset s.pan.lines k x }
/-- Take a line out. -/
def State.panDrop (s : State) (k : Nat) : State := { s with pan.lines := tdel s.pan.lines k }

def Line.dirty (x : Line) : Bool := x.s0.dirty || x.s1.dirty
def Line.sec (x : Line) (h : Nat) : LineSec := if h = 0 then x.s0 else x.s1
def Line.setSec (x : Line) (h : Nat) (y : LineSec) : Line := if h = 0 then { x with s0 := y } else { x with s1 := y }

/-- The line address of a key with its line. -/
def keyLine (k : Nat) (x : Line) : Nat := lineAddr (k / 32 / 8192) (k / 32 % 8192) x.tag

/-- Write a line's dirty sectors to its block's frame, for a QoS port (Table 9-6), and count it (R240). The line becomes clean. -/
def State.panWriteBack (s : State) (k : Nat) (x : Line) (port : Nat := 14) : State :=
  if x.dirty then
    let n := keyLine k x * 2
    let s := if x.s0.dirty then s.frameWrite n x.s0.val port else s
    let s := if x.s1.dirty then s.frameWrite (n + 1) x.s1.val port else s
    (s.incMod PAN.WB_CNT 1 (k / 32 / 8192)).panPut k { x with s0 := { x.s0 with dirty := false }, s1 := { x.s1 with dirty := false } }
  else s

/-- The candidate ways of a set: neither locked nor retired (R239). -/
def State.panCands (s : State) (k : Nat) : List Nat :=
  (List.range 24).filter fun w => !s.pan.retired.contains (k + w) &&
    (match tget s.pan.lines (k + w) with | some x => !x.lock | none => true)

/-- The victim of R239: an invalid way, else the ways age until one has AGE 3. Gives the way and the state with the ages. -/
def State.panVictim (s : State) (k : Nat) : Option (Nat × State) :=
  let c := s.panCands k
  match c.find? fun w => !thas s.pan.lines (k + w) with
  | some w => some (w, s)
  | none =>
    let ageOf (w : Nat) : Nat := match tget s.pan.lines (k + w) with | some x => x.age | none => 0
    let up := 3 - (c.map ageOf).foldl max 0
    let s := c.foldl (fun s w => { s with pan.lines := tmod s.pan.lines (k + w) fun x => { x with age := x.age + up } }) s
    match c.find? fun w => ageOf w + up = 3 with
    | some w => some (w, s)
    | none => none

/-- Install a line in place of the victim, whose dirty sectors go to the frame first (R240). With no candidate way nothing is installed. -/
def State.panInstall (s : State) (l : Nat) (x : Line) (port : Nat := 14) : State :=
  let k := setKey (sliceOf l) (setOf l)
  match s.panVictim k with
  | none => s
  | some (w, s) =>
    let s := match tget s.pan.lines (k + w) with | some y => s.panWriteBack (k + w) y port | none => s
    s.panPut (k + w) x

def cleanSec (v : SectorVal) : LineSec := { valid := true, dirty := false, val := v }

/-- The line of the frame's content (R234). -/
def State.frameLine (s : State) (l age : Nat) : Line :=
  { tag := tagOf l, s0 := cleanSec (s.frameRead (2 * l)), s1 := cleanSec (s.frameRead (2 * l + 1)), lock := false, age := age }

/-- Whether a sector's DRAM lies on a channel that has FAILED (R292). -/
def State.dead (s : State) (n : Nat) : Bool := match s.chanOf n with | some c => s.get DMC.STATE c == dmcFailed | none => false

/-- The value of a pool sector as the pan and the frame hold it; what touches a FAILED channel is unrecoverable (R292). -/
def State.secValue (s : State) (n : Nat) : SectorVal :=
  if s.dead n then { data := 0, poison := true }
  else match s.panFind (n / 2) with
  | some (_, x) => if (x.sec (n % 2)).valid then (x.sec (n % 2)).val else s.frameRead n
  | none => s.frameRead n

/-- What a pan read does to the lines and counters (R234, R239, Table 8-5): a hit sets AGE 0; a miss fills at the given age while the slice is ENABLED. -/
def State.panTouch (s : State) (n age : Nat) (demand : Bool) (port : Nat := 14) : State :=
  let l := n / 2
  let sl := sliceOf l
  let st := s.get PAN.STATE sl
  match s.panFind l with
  | some (k, x) =>
    let s := if demand then s.incMod PAN.HIT_CNT 1 sl else s
    let x := { x with age := 0 }
    if (x.sec (n % 2)).valid then s.panPut k x
    else (s.frameAsk n).panPut k (x.setSec (n % 2) (cleanSec (s.frameRead n)))
  | none =>
    let s := (if demand then s.incMod PAN.MISS_CNT 1 sl else s).frameAsk n
    if st = panEnabled then s.panInstall l (s.frameLine l age) port else s

/-- A write of a whole sector value (the bytes merged already): by a host, allocating on a miss (R235), or by a mover, which goes to the frame on a miss (R237). In DRAINING a write hit goes to line and frame and stays clean (Table 8-5). -/
def State.panWrite (s : State) (n : Nat) (v : SectorVal) (alloc : Bool) (port : Nat := 14) : State :=
  let l := n / 2
  let st := s.get PAN.STATE (sliceOf l)
  match s.panFind l with
  | some (k, x) =>
    if st = panEnabled then s.panPut k ({ x with age := 0 }.setSec (n % 2) { valid := true, dirty := true, val := v })
    else (s.frameWrite n v port).panPut k ({ x with age := 0 }.setSec (n % 2) (cleanSec v))
  | none =>
    if st = panEnabled && alloc && (s.panVictim (setKey (sliceOf l) (setOf l))).isSome then
      let bare : Line := { tag := tagOf l, s0 := { valid := false, dirty := false, val := zeroSec }, s1 := { valid := false, dirty := false, val := zeroSec }, lock := false, age := 1 }
      s.panInstall l (bare.setSec (n % 2) { valid := true, dirty := true, val := v }) port
    else s.frameWrite n v port

/-- The data-path ZERO of a whole line (R236): both sectors are 0, VALID and DIRTY, in a line that a miss allocates without reading the frame; through to the frame where the slice does not allocate. -/
def State.panZero (s : State) (l : Nat) (port : Nat := 14) : State :=
  let z : LineSec := { valid := true, dirty := true, val := zeroSec }
  match s.panFind l with
  | some (k, x) =>
    if s.get PAN.STATE (sliceOf l) = panEnabled then s.panPut k { x with age := 0, s0 := z, s1 := z }
    else (((s.frameWrite (2 * l) zeroSec port).frameWrite (2 * l + 1) zeroSec port)).panPut k { x with age := 0, s0 := cleanSec zeroSec, s1 := cleanSec zeroSec }
  | none =>
    if s.get PAN.STATE (sliceOf l) = panEnabled && (s.panVictim (setKey (sliceOf l) (setOf l))).isSome then s.panInstall l { tag := tagOf l, s0 := z, s1 := z, lock := false, age := 1 } port
    else (s.frameWrite (2 * l) zeroSec port).frameWrite (2 * l + 1) zeroSec port

/-- Lines of a slice. -/
def State.sliceLines (s : State) (sl : Nat) : Table Line := s.pan.lines.filter fun e => e.1 / 32 / 8192 = sl

/-- DIRTY_LINES and LOCKED_LINES of a slice. -/
def State.dirtyLines (s : State) (sl : Nat) : Nat := ((s.sliceLines sl).filter fun e => e.2.dirty).length
def State.lockedLines (s : State) (sl : Nat) : Nat := ((s.sliceLines sl).filter fun e => e.2.lock).length

/-- Count a lock released by anything but UNLOCK (R243, R249). -/
def State.lockLost (s : State) (sl : Nat) : State := (s.inc PAN.LOCK_LOST_CNT 1 sl).incMod PAN.LOCKS_RELEASED

/-- Write back and invalidate the lines of a block, as TIER's release does (R249); gives the locks released. -/
def State.panRelease (s : State) (pbn : Nat) : State × Nat :=
  s.pan.lines.foldl (fun (acc : State × Nat) e =>
    if keyLine e.1 e.2 / 512 = pbn then
      let s := (acc.1.panWriteBack e.1 e.2).panDrop e.1
      if e.2.lock then (s.lockLost (e.1 / 32 / 8192), acc.2 + 1) else (s, acc.2)
    else acc) (s, 0)

/-- The lock-release event with its payload (R249, Table 16-12): 52 bits of base and of length, in 7 bytes each (R617). -/
def State.lockEvent (s : State) (base len released : Nat) : State :=
  s.occur (pg .pan) 32 3 (le 7 base ++ le 7 len ++ le 4 released)

/-- Drop lines without writing them back; the locks that fall are counted and reported (R243, R249). -/
def State.panLose (s : State) (hit : Nat × Line → Bool) (base len : Nat) : State :=
  let locked := s.pan.lines.filter fun e => hit e && e.2.lock
  let s := locked.foldl (fun s e => s.lockLost (e.1 / 32 / 8192)) s
  let s : State := { s with pan.lines := s.pan.lines.filter fun e => !hit e }
  if locked.isEmpty then s else s.lockEvent base len locked.length

/-- Drop the lines of a block without writing them back. -/
def State.panForget (s : State) (pbn : Nat) : State := s.panLose (fun e => keyLine e.1 e.2 / 512 == pbn) (pbn * blkBytes) blkBytes

/-- Take the dirty sectors of a unit from the pan into the frame, clean in both (R233). -/
def State.panCleanUnit (s : State) (u : Nat) : State :=
  s.pan.lines.foldl (fun s e => if keyLine e.1 e.2 / 32 = u then s.panWriteBack e.1 e.2 12 else s) s

/-- The power domain of the slice of a sector (Table 17-3). -/
def panDom (n : Nat) : Nat := 26 + sliceOf (n / 2)

/-- Whether a channel holds requests: it trains, leaves self-refresh or is in it (Table 9-3), its domain is not ON (R545), or it is quiesced (R52). -/
def State.chanHolds (s : State) (c : Nat) : Bool :=
  s.get DMC.STATE c == dmcTraining || s.get DMC.STATE c == dmcSelfRefresh || !s.domainOn (42 + c) || s.resting (pg .dmc c)

/-- Whether accesses to a sector stall: its slice clears or invalidates (Table 8-5), the slice's domain is not ON (R26, R545), its channel holds requests, or a block on the way is quiesced (R52). -/
def State.panStalls (s : State) (n : Nat) : Bool :=
  let st := s.get PAN.STATE (sliceOf (n / 2))
  st == panClearing || st == panInvalidating || !s.domainOn (panDom n) || s.resting (pg .pan (sliceOf (n / 2))) ||
  s.resting (pg .tier) || s.resting (pg .xlt) || (match s.chanOf n with | some c => s.chanHolds c | none => false)

/-- An access to a sector wakes the domains of its slice and of its channel (R545), and the channel from self-refresh (R299). -/
def State.panWake (s : State) (n : Nat) : State :=
  let s := s.dataWake (panDom n)
  match s.chanOf n with
  | some c => if s.chanHolds c then (s.dataWake (42 + c)).frameAsk n else s
  | none => s

/-- The tracker of a requester. -/
def State.tracker (s : State) (r : ReadReq) : Option Tracker := s.pan.trackers.find? fun t => t.who == r

/-- Insert or move a tracker to the most recent place; at most 4,096 are kept (R241). -/
def State.setTracker (s : State) (t : Tracker) : State :=
  let rest := s.pan.trackers.filter fun x => !(x.who == t.who)
  let rest := if 4096 ≤ rest.length then rest.drop 1 else rest
  { s with pan.trackers := rest ++ [t] }

/-- Prefetch one line (R242): inside the block, block RESIDENT and unit present, slice ENABLED, not already there, a candidate way not dirty, its channel neither FAILED nor at urgency 2 (75 % of a target, R288). -/
def State.prefetch (s : State) (pbn l : Nat) : State :=
  let ok := l / 512 = pbn && (match tget s.tier.blocks pbn with
    | some b => b.state == .resident && (match tget b.units (l / 32 % 16) with | some u => u.present | none => false)
    | none => false)
  let k := setKey (sliceOf l) (setOf l)
  let room := (s.panCands k).any fun w => match tget s.pan.lines (k + w) with | some x => !x.dirty | none => true
  let slow := s.dead (2 * l) || (match s.chanOf (2 * l) with | some c => 2 ≤ s.chanUrgency c | none => false)
  if ok && room && !slow && (s.panFind l).isNone && s.get PAN.STATE (sliceOf l) = panEnabled then s.panInstall l (s.frameLine l 2) else s

/-- A read of line l by its requester trains the tracker and prefetches (R241). Gives the insertion age of the demand fill. -/
def State.train (s : State) (r : ReadReq) (pbn l : Nat) : State × Nat :=
  let sl := sliceOf l
  match s.tracker r with
  | none => (s.setTracker { who := r, last := l, stride := 1, conf := 0, fetched := [] }, 1)
  | some t =>
    let d : Int := (l : Int) - (t.last : Int)
    let t := if d = t.stride then { t with conf := min 3 (t.conf + 1) }
      else if d ≠ 0 ∧ -64 ≤ d ∧ d ≤ 64 then { t with stride := d, conf := 0 } else { t with conf := 0 }
    let t := { t with last := l }
    let depth := s.get PAN.PF_DEPTH sl
    let want := if 2 ≤ t.conf && s.flag PAN.PF_EN sl then
        ((List.range depth).map fun (k : Nat) => (l : Int) + ((k : Int) + 1) * t.stride).filterMap fun x =>
          if 0 ≤ x then (if t.fetched.contains x.toNat then none else some x.toNat) else none
      else []
    let streaming := t.conf = 3 && t.stride.natAbs ≤ 2 && s.flag PAN.STREAM_EN sl
    let s := s.setTracker { t with fetched := (t.fetched ++ want).filter fun x => x / 512 = pbn }
    (want.foldl (fun s x => s.prefetch pbn x) s, if streaming then 3 else 1)

end Sys2Proof.Machine
end

