-- ==== Sys2Proof/Machine/Walk.lean ====
section
/-! DEFINITION. Translation (03): caches and fills, the checks of Table 3-5, invalidation, revocation. -/
namespace Sys2Proof
open Machine (le)

/-- Entries of the cache that a key belongs to (Table 3-6). -/
def XKey.capacity : XKey → Nat
  | .window _ => 0 | .extent _ => 4096 | .region _ => 65536 | .dir .. => 65536 | .block .. => 1048576 | .registration _ => 131072

def XKey.cls : XKey → Nat
  | .window _ => 0 | .extent _ => 1 | .region _ => 2 | .dir .. => 3 | .block .. => 4 | .registration _ => 5

/-- The record of a descriptor whose refetch fails (R88): severity 6, naming the table and the index. -/
def XKey.payload : XKey → List Byte
  | .window w => le 1 0 ++ le 4 w.val
  | .extent e => le 1 1 ++ le 4 e.val
  | .region r => le 1 2 ++ le 4 r.toNat
  | .dir r e => le 1 3 ++ le 3 r.toNat ++ le 4 e
  | .block r b => le 1 4 ++ le 3 r.toNat ++ le 4 b
  | .registration i => le 1 5 ++ le 4 i.toNat

end Sys2Proof

namespace Sys2Proof.Machine

/-- Why a walk refuses an access (Table 3-5). -/
inductive WalkErr where
  | unmapped
  | status (st : Status)
deriving DecidableEq, Repr

def WalkErr.toStatus : WalkErr → Status
  | .unmapped => .accessViolation
  | .status st => st

/-- A refusal on XLT's own record: MISC of the XLT page (R617). -/
def xltPage : Page := pg .xlt

/-! ## Descriptors and caches -/

/-- The region descriptor in DRAM: an ID with no region reads as a descriptor with VALID = 0. -/
def noRegion : Region :=
  Region.seal {
    valid := false, ro := false, pclass := 0, grp := 0, share := false, levels := 0, tenant := 0, elemFmt := 0, gradeFmt := 0,
    subst := 0, pathMask := 0, gen := 0, size := 0, deadline := 0, root := 0, flushDb := 0, substCtr := 0, remoteOk := false,
    queueW := false, hostW := false, remoteW := false, check := 0 }
def State.regionAt (s : State) (r : Nat) : Region := (tget s.xlt.regions r).getD noRegion

/-- A registration slot never opened. -/
def noRegistration : Registration :=
  Registration.seal {
    state := .free, gen := 0, w := false, r := false, nodeAny := false, tenant := 0, region := 0, regionGen := 0, node := 0,
    baseOff := 0, length := 0, revokeStamp := 0, inflight := 0, refused := 0, check := 0, freedAt := none }
def State.registrationAt (s : State) (i : Nat) : Registration := (tget s.xlt.registrations i).getD noRegistration

/-- The copy DRAM holds under a key. -/
def State.xDram (s : State) : XKey → Option XCopy
  | .window w => (tget s.xlt.windows w.val).map .window
  | .extent e => (tget s.xlt.extents e.val).map .extent
  | .region r => some (.region (s.regionAt r.toNat))
  | .dir r e => some (.dir ((s.regionAt r.toNat).root + e * 8))
  | .block r b => (tget s.xlt.bmap (bmeKey r.toNat b)).map .block
  | .registration i => some (.registration (s.registrationAt i.toNat))

/-- Whether a copy passes its CHECK (checks 2 and 8). -/
def XCopy.ok : XCopy → Bool
  | .window d => windowOk d
  | .extent e => e.checkOk
  | .region r => r.checkOk
  | .dir _ => true
  | .block b => b.chk == b.crc && b.alloc
  | .registration d => d.checkOk

/-- The copy a cache holds. The window table is complete and holds no copies of its own. -/
def State.xCached (s : State) (k : XKey) : Option CacheEntry := s.xlt.caches.find? fun e => e.key == k

/-- Mark a cache entry used (R616). -/
def State.xUse (s : State) (k : XKey) : State :=
  { s with xlt.caches := s.xlt.caches.map fun e => if e.key == k then { e with used := true } else e }

/-- Install a copy: over its own entry, in a free place, or in place of a victim by NRU, the choice among the candidates being free (R616). -/
def State.xInstall (s : State) (e : CacheEntry) : State :=
  let rest := s.xlt.caches.filter fun x => !(x.key == e.key)
  let mine := rest.filter fun x => x.key.cls == e.key.cls
  if mine.length < e.key.capacity then { s with xlt.caches := rest ++ [e] }
  else
    let clear := mine.filter fun x => !x.used
    let rest := if clear.isEmpty then rest.map fun x => if x.key.cls == e.key.cls then { x with used := false } else x else rest
    let cands := if clear.isEmpty then mine else clear
    let s := s.useFree
    match (cands.drop (Config.freeNat (s.free - 1) % max 1 cands.length)).head? with
    | some v => { s with xlt.caches := (rest.filter fun x => !(x.key == v.key)) ++ [e] }
    | none => s

/-- Start a fill unless one is in flight; the window table never misses (R91). -/
def State.xFill (s : State) (k : XKey) (c : XCopy) : State :=
  if k.capacity = 0 || s.xlt.fills.any (fun e => e.key == k) then s
  else { s with xlt.fills := s.xlt.fills ++ [{ key := k, copy := c, used := true }] }

/-- The one refetch of a copy that failed its check (R88): passing, it replaces the copy and the corrected error is recorded at severity 4; failing, the descriptor is recorded at severity 6. -/
def State.refetch (s : State) (k : XKey) : State × Option XCopy :=
  match s.xDram k with
  | some c =>
    if c.ok then
      let s := { s with xlt.caches := s.xlt.caches.map fun (e : CacheEntry) => if e.key == k then { e with copy := c } else e }
      (s.misc xltPage 4 k.payload, some c)
    else (s.misc xltPage 6 k.payload, none)
  | none => (s.misc xltPage 6 k.payload, none)

/-- A copy by its key, through the caches, checked (checks 2 and 8). None: the check fails after the refetch. -/
def State.xGet (s : State) (k : XKey) : State × Option XCopy :=
  match s.xCached k with
  | some e => if e.copy.ok then (s.xUse k, some e.copy) else (s.xUse k).refetch k
  | none =>
    match s.xDram k with
    | some c => if c.ok then (s.xFill k c, some c) else s.refetch k
    | none => s.refetch k

/-- A copy by its key as check 1 reads it, before its CHECK is looked at (Table 3-5): the cached copy, else what DRAM holds. -/
def State.xPeek (s : State) (k : XKey) : Option XCopy :=
  match s.xCached k with
  | some e => some e.copy
  | none => s.xDram k

def State.getRegion (s : State) (r : Nat) : State × Option Region :=
  match s.xGet (.region (BitVec.ofNat 24 r)) with
  | (s, some (.region d)) => (s, some d)
  | (s, _) => (s, none)

/-- The block map entry of a block of a region, through the directory when LEVELS = 1 (R89, check 8). -/
def State.getBme (s : State) (r : Nat) (d : Region) (blk : Nat) : State × Option Bme :=
  let s := if d.levels = 1 then (s.xGet (.dir (BitVec.ofNat 24 r) (blk / 512))).1 else s
  match s.xGet (.block (BitVec.ofNat 24 r) blk) with
  | (s, some (.block b)) => (s, some b)
  | (s, _) => (s, none)

/-! ## The walk -/

/-- An access after check 1: what it is bound to. -/
structure Access where
  region : Nat
  gen : Nat
  off : Nat
  len : Nat
  tenant : Nat
  /-- bound by window, extent or registration, so that SHARE admits another tenant (R66) -/
  bound : Bool
  /-- the binding's own bounds hold, and its own rights -/
  inside : Bool
  mayRead : Bool
  mayWrite : Bool
deriving DecidableEq, Repr

/-- Which write bit of the region applies (Table 3-1). -/
inductive Via where
  | host | queue | remote
deriving DecidableEq, Repr

def Region.writeBit (d : Region) : Via → Bool
  | .host => d.hostW
  | .queue => d.queueW
  | .remote => d.remoteW

/-- Whether this SK960 serves a claim group (R385). -/
def State.serves (s : State) (g : Nat) : Bool := s.bitOf TWN.SERVE g

/-- Checks 2 to 7 of Table 3-5 for a bound access. -/
def State.checks (s : State) (a : Access) (via : Via) (write : Bool) : State × Except Status Region :=
  match s.getRegion a.region with
  | (s, none) => (s, .error .internal)
  | (s, some d) =>
    if !d.live then (s, .error .accessViolation)
    else if d.tenant ≠ a.tenant && !(d.share && a.bound) then (s, .error .accessViolation)
    else if d.gen ≠ a.gen then (s.misc xltPage 5, .error .keyStale)
    else if !a.inside || d.size * blkBytes < a.off + a.len then (s, .error .accessViolation)
    else if write && (!a.mayWrite || !d.writeBit via || d.ro) then (s, .error .accessViolation)
    else if !write && !a.mayRead then (s, .error .accessViolation)
    else if !s.serves d.grp then (s, .error .fenced)
    else if write && s.flag XLT.MEDIA_RO then (s, .error .mediaReadOnly)
    else (s, .ok d)

/-- Check 1 and the rest for a queue command's handle (R68): a GEN that is not current fails before the descriptor's CHECK is looked at. -/
def State.walkBound (s : State) (bound : Bool) (tenant : Nat) (h : BitVec 40) (off len : Nat) (write : Bool) : State × Except Status Region :=
  match s.xPeek (.region (BitVec.ofNat 24 (handleId h))) with
  | some (.region d) =>
    if d.gen ≠ handleGen h then (s.misc xltPage 5, .error .keyStale)
    else s.checks { region := handleId h, gen := handleGen h, off := off, len := len, tenant := tenant, bound := bound, inside := true, mayRead := true, mayWrite := true } .queue write
  | _ => (s, .error .internal)

/-- The walk of a command that moves data: nothing binds a region to a queue, so SHARE admits none (R66). -/
def State.walkQueue (s : State) (tenant : Nat) (h : BitVec 40) (off len : Nat) (write : Bool) : State × Except Status Region := s.walkBound false tenant h off len write

/-- Whether the warden has bound a region to an object of a tenant by a window, an extent or a registration (R66). -/
def State.boundTo (s : State) (tenant region : Nat) : Bool :=
  (s.xlt.windows.any fun e => e.2.valid && e.2.state.toNat == 1 && !e.2.foreign && e.2.tenant.toNat == tenant && e.2.region.toNat == region) ||
  (s.xlt.extents.any fun e => e.2.state == .active && e.2.tenant == tenant && e.2.region == region) ||
  (s.xlt.registrations.any fun e => e.2.state == .opened && e.2.tenant == tenant && e.2.region == region)

/-- The walk of RAISE, EVICT and SLUICE, which move no data: a tenant to which a SHARE region is bound may pin its blocks, as R195 and Table 7-3 have two tenants do (DEDUCED, log entry 97). -/
def State.walkShared (s : State) (tenant : Nat) (h : BitVec 40) (off len : Nat) : State × Except Status Region :=
  s.walkBound (s.boundTo tenant (handleId h)) tenant h off len false

/-- The window or extent of a DPA of a logical device, with its key: check 1. -/
inductive Target where
  | local (win : Nat) (key : XKey) (a : Access)
  | foreign (win : Nat) (d : WindowDesc)
deriving DecidableEq, Repr

/-- The window ID an access is recorded with. -/
def Target.win : Target → Nat
  | .local w _ _ => w
  | .foreign w _ => w

/-- The access of 64 bytes at a DPA under a window or an extent (R89). -/
def windowAccess (d : WindowDesc) (dpa : Nat) : Access :=
  { region := d.region.toNat, gen := d.regionGen.toNat, off := d.regionOff.toNat + (dpa - d.dpaBase.toNat), len := 64,
    tenant := d.tenant.toNat, bound := true, inside := dpa + 64 ≤ d.dpaBase.toNat + d.length.toNat, mayRead := d.r, mayWrite := d.w }
def Extent.access (e : Extent) (dpa : Nat) : Access :=
  { region := e.region, gen := e.regionGen, off := e.regionOff + (dpa - e.dpaBase), len := 64, tenant := e.tenant, bound := true,
    inside := dpa + 64 ≤ e.dpaBase + e.length, mayRead := e.r, mayWrite := e.w }

/-- The extents of a logical device a walk can see: cached copies, and the ACTIVE extents its directory lists (R79). -/
def State.extentsOf (s : State) (port ld : Nat) : List (Nat × Extent) :=
  let cached := s.xlt.caches.filterMap fun e => match e.key, e.copy with | .extent i, .extent d => some (i.val, d) | _, _ => none
  (cached ++ (s.xlt.extents.filter fun e => e.2.listed && !cached.any (fun c => c.1 == e.1))).filter fun e =>
    e.2.port == port && e.2.ld == ld && e.2.state == .active

/-- Check 1 for a CXL.mem access of 64 bytes (R86, R89, R101). -/
def State.target (s : State) (port ld dpa : Nat) : Option Target :=
  if !s.flag HP.BOUND port ld then none else
  let within (b l : Nat) : Bool := b ≤ dpa && dpa < b + l
  match (List.range 32).findSome? fun n => (tget s.xlt.windows (windowId port ld n)).bind fun d =>
      if d.valid && d.state.toNat = 1 && within d.dpaBase.toNat d.length.toNat then some (windowId port ld n, d) else none with
  | some (w, d) =>
    if d.foreign then some (.foreign w d) else some (.local w (.window (Fin.ofNat 4096 w)) (windowAccess d dpa))
  | none =>
    match (s.extentsOf port ld).find? fun e => within e.2.dpaBase e.2.length with
    | some (i, e) => some (.local 0xFFFF (.extent (Fin.ofNat 262144 i)) (e.access dpa))
    | none => none

/-- Check 2 of the window or extent of a target (R86, R88): a copy whose CHECK fails is refetched once, and the access is taken from the copy that passes. -/
def State.targetCheck (s : State) (t : Target) (dpa : Nat) : State × Except Status Target :=
  let key := match t with | .local _ k _ => k | .foreign w _ => .window (Fin.ofNat 4096 w)
  match s.xGet key, t with
  | (s, some (.window d)), .foreign w _ => (s, .ok (.foreign w d))
  | (s, some (.window d)), .local w k _ => (s, .ok (.local w k (windowAccess d dpa)))
  | (s, some (.extent d)), .local w k _ => (s, .ok (.local w k (d.access dpa)))
  | (s, _), _ => (s, .error .internal)

/-- A place in the pool that has passed checks 1 to 8: region, descriptor, block index, entry, pool sector. -/
structure Place64 where
  region : Nat
  desc : Region
  blk : Nat
  bme : Bme
  sector : Nat
deriving DecidableEq, Repr

/-- Check 8 for one sector of a region (R87). -/
def State.resolve (s : State) (region : Nat) (d : Region) (off : Nat) : State × Except Status Place64 :=
  match s.getBme region d (off / blkBytes) with
  | (s, none) => (s, .error .internal)
  | (s, some b) => (s, .ok { region := region, desc := d, blk := off / blkBytes, bme := b, sector := secOf b.pbn off })

/-- XLT clears ZERO with the first write (R71): the entry in DRAM and its cached copies change together. -/
def State.clearZero (s : State) (region blk : Nat) : State :=
  let k := XKey.block (BitVec.ofNat 24 region) blk
  let fix (c : XCopy) : XCopy := match c with | .block b => .block (Bme.seal { b with zero := false }) | c => c
  let up (e : CacheEntry) : CacheEntry := if e.key == k then { e with copy := fix e.copy } else e
  { s with xlt.bmap := tmod s.xlt.bmap (bmeKey region blk) fun b => Bme.seal { b with zero := false }, xlt.caches := s.xlt.caches.map up, xlt.fills := s.xlt.fills.map up }

/-! ## Invalidation (R90, R91, R98) -/

/-- The tenant a copy belongs to. -/
def State.copyTenant (s : State) (e : CacheEntry) : Nat :=
  match e.copy, e.key with
  | .window d, _ => d.tenant.toNat
  | .extent d, _ => d.tenant
  | .region d, _ => d.tenant
  | .registration d, _ => d.tenant
  | .dir _, .dir r _ => (s.regionAt r.toNat).tenant
  | .block _, .block r _ => (s.regionAt r.toNat).tenant
  | .dir _, _ | .block _, _ => 4096

/-- Whether an entry matches a scope and index (Table 3-8). INDEX of scope 4 is taken modulo 4,096, the range of TENANT (DESIGN CHOICE, log entry 96). -/
def State.invalHits (s : State) (scope index : Nat) (e : CacheEntry) : Bool :=
  match scope with
  | 0 => (match e.key with | .region r | .dir r _ | .block r _ => r.toNat == index | .window _ | .extent _ | .registration _ => false)
  | 1 => (match e.key with | .registration i => i.toNat == index | _ => false)
  | 2 => (match e.key with | .extent i => i.val == index | _ => false)
  | 3 => (match e.key with | .window i => i.val == index | _ => false)
  | 4 => s.copyTenant e == index % 4096
  | 5 => true
  | _ => false

/-- An invalidation leaves the queue: it removes its entries and the fills in flight for them. -/
def State.invalRun (s : State) (i : Inval) : State :=
  let keep (e : CacheEntry) : Bool := !s.invalHits i.scope i.index e
  ({ s with xlt.caches := s.xlt.caches.filter keep, xlt.fills := s.xlt.fills.filter keep, xlt.invalBusy := some i }).put XLT.BUSY 1

/-- XLT_INVAL: runs at once, is queued while BUSY up to 64 deep, or is ignored with INVAL_OVF (R98). A scope the register does not define is ignored. -/
def State.inval (s : State) (scope index : Nat) (w : InvalFor) : State :=
  if 5 < scope then s
  else if s.xlt.invalBusy.isNone then s.invalRun ⟨scope, index, w⟩
  else if s.xlt.invalQueue.length < 64 then { s with xlt.invalQueue := s.xlt.invalQueue ++ [⟨scope, index, w⟩] }
  else
    -- the write is ignored; the warden issues again what one of its operations waits for (log entry 98)
    let s := s.blkErr xltPage 16 4
    if w = .none then s else { s with xlt.invalRetry := s.xlt.invalRetry ++ [⟨scope, index, w⟩] }

/-- What waits for a finished invalidation (R74, R79): a command ends OK, an extent is freed, a window is free. -/
def State.invalFor (s : State) : InvalFor → State
  | .none => s
  | .command q c =>
    { s with qe.cmds := s.qe.cmds.map fun x =>
        if x.qid = q ∧ x.cmdId = c ∧ x.result.isNone then { x with result := some { status := .ok, result0 := 0, detail := 0, prefixLen := 0 } } else x }
  | .create q c h =>
    { s with qe.cmds := s.qe.cmds.map fun x =>
        if x.qid = q ∧ x.cmdId = c ∧ x.result.isNone then { x with result := some { status := .ok, result0 := h, detail := 0, prefixLen := 0 } } else x }
  | .delete .. | .toM .. | .toV .. => s
  | .extent e =>
    { s with xlt.extents := tmod s.xlt.extents e fun d => Extent.seal { d with state := .free } }
  | .window w => { s with xlt.windows := tmod s.xlt.windows w fun d => windowSeal { d with state := 0, valid := false } }

/-- An invalidation completes; the next of the queue starts, and a place in it goes to what the warden issues again (R90, R98). -/
def State.invalDone (s : State) : State :=
  match s.xlt.invalBusy with
  | none => s
  | some i =>
    let s := (({ s with xlt.invalBusy := none }).put XLT.BUSY 0).incMod XLT.DONE_COUNT
    let s := s.invalFor i.waiter
    match s.xlt.invalQueue ++ s.xlt.invalRetry.take 1 with
    | [] => s
    | j :: r => ({ s with xlt := { s.xlt with invalQueue := r, invalRetry := s.xlt.invalRetry.drop 1 } } : State).invalRun j

/-! ## Registrations (R82-R85, R92-R96) -/

/-- Index and generation of a registration key (R82). -/
def keyIndex (k : Nat) : Nat := k / 1024
def keyGen (k : Nat) : Nat := k % 1024

/-- Store a registration in DRAM and in its cached copies: XLT's own sequencer writes both. -/
def State.putRegistration (s : State) (i : Nat) (d : Registration) : State :=
  let up (e : CacheEntry) : CacheEntry := if e.key == .registration (BitVec.ofNat 22 i) then { e with copy := .registration d } else e
  { s with xlt.registrations := tset s.xlt.registrations i d, xlt.caches := s.xlt.caches.map up, xlt.fills := s.xlt.fills.map up }

/-- A CLOSING registration with nothing in flight becomes FREE: REVOKE_DONE with K and REFUSED, and the REVOKE commands for it end OK (R96). -/
def State.registrationFree (s : State) (i : Nat) (d : Registration) : State :=
  let k := i * 1024 + d.gen
  let s := s.putRegistration i { d with state := .free, inflight := 0, freedAt := some s.timeNs }
  let s := s.occur xltPage 32 2 (le 4 k ++ le 4 d.refused)
  { s with qe.cmds := s.qe.cmds.map fun x =>
      match x.cmd with
      | .revoke key => if key.toNat = k ∧ x.result.isNone then { x with result := some { status := .ok, result0 := 0, detail := d.refused, prefixLen := 0 } } else x
      | _ => x }

/-- XLT_REVOKE (R92): OPEN with a current GEN becomes CLOSING; nothing in flight ends it at once. -/
def State.revoke (s : State) (key : Nat) : State × Status :=
  let i := keyIndex key
  let d := s.registrationAt i
  if d.gen ≠ keyGen key then (s, .keyStale)
  else if d.state ≠ .opened then (s, .keyRevoked)
  else
    let d := { d with state := .closing, revokeStamp := s.timeNs }
    let s := s.putRegistration i d
    (if d.inflight = 0 then s.registrationFree i d else s, .ok)

/-- The end of an admitted message (R94): INFLIGHT falls, and the last one of a CLOSING registration frees it. -/
def State.messageEnd (s : State) (i : Nat) : State :=
  let d := s.registrationAt i
  let d := { d with inflight := d.inflight - 1 }
  if d.state = .closing ∧ d.inflight = 0 then s.registrationFree i d else s.putRegistration i d

/-- A tenant's refusal counter (R95, R144). -/
def noQuota : Quota := Quota.seal { t1Quota := 0, t2Quota := 0, t2Used := 0, check := 0, t1Used := 0, quotaRefused := 0, substTotal := 0, refuseTotal := 0 }
def State.quota (s : State) (t : Nat) : Quota := (tget s.tier.quotas t).getD noQuota
def State.putQuota (s : State) (t : Nat) (q : Quota) : State := { s with tier.quotas := tset s.tier.quotas t q }
def State.refusal (s : State) (t : Nat) : State := s.putQuota t { s.quota t with refuseTotal := ((s.quota t).refuseTotal + 1) % 2 ^ 64 }

/-- Check 1 and then check 2 for a message's first packet under a key (R85, R86, R93, R95): the registration, or the status. A refusal after a REVOKE counts in REFUSED while the slot is CLOSING and when it has become FREE. The record of a stale key GEN at severity 5 follows R68's for a region (DESIGN CHOICE, log entry 96). -/
def State.admitKey (s : State) (key node : Nat) : State × Except Status (Nat × Registration) :=
  let i := keyIndex key
  let k := XKey.registration (BitVec.ofNat 22 i)
  match s.xPeek k with
  | some (.registration d) =>
    let refuse (s : State) : State := (s.putRegistration i { d with refused := (d.refused + 1) % 2 ^ 32 }).refusal d.tenant
    if d.gen ≠ keyGen key then (s.misc xltPage 5, .error .keyStale)
    else match d.state with
    | .free => (if d.freedAt.isSome then refuse s else s.refusal d.tenant, .error .keyRevoked)
    | .closing => (refuse s, .error .keyRevoked)
    | .opened =>
      if !d.nodeAny && d.node ≠ node then (s, .error .accessViolation)
      else match s.xGet k with
      | (s, some (.registration d)) => (s, .ok (i, d))
      | (s, _) => (s, .error .internal)
  | _ => (s, .error .internal)

/-- The access of a message's packet under a registration (R89). -/
def Registration.access (d : Registration) (tenant off len : Nat) : Access :=
  { region := d.region, gen := d.regionGen, off := d.baseOff + off, len := len, tenant := tenant, bound := true, inside := off + len ≤ d.length, mayRead := d.r, mayWrite := d.w }

end Sys2Proof.Machine
end

