-- ==== Sys2Proof/Machine/TierOps.lean ====
section
/-! DEFINITION. The operations of the tiers (07): charges, pins, fills, releases, brine admission, acceptance of a write with its mirror record, write-back, bittern. -/
namespace Sys2Proof.Machine

def tierPage : Page := pg .tier
def twnPage : Page := pg .twn

/-! ## Pair state and brine -/

/-- TWN_ROLE values (Table 12-7). -/
def roleInit : Nat := 0
def roleForming : Nat := 1
def rolePaired : Nat := 2
def roleSolo : Nat := 3
def roleFenced : Nat := 4
def roleSrc : Nat := 5
def roleDst : Nat := 6

def State.role (s : State) : Nat := s.get TWN.STATE
def State.solo (s : State) : Bool := s.role == roleSolo
/-- The partner is in sync or is a resync destination (R378, R381). -/
def State.mirroring (s : State) : Bool := s.role == rolePaired || s.role == roleSrc || s.role == roleDst
/-- Whether the link carries records: at least one bundle is in use (R373, R377). -/
def State.linkUp (s : State) : Bool := s.get TWN.BUNDLES != 0

/-- Brine of T1: DIRTY units of class M and class D. -/
def TBlock.brine (b : TBlock) : Nat := (b.units.filter fun e => e.2.dirty && e.2.cls < 2).length
def State.localBrine (s : State) : Nat := (s.tier.blocks.map fun e => e.2.brine).foldl (· + ·) 0
def State.twinBrine (s : State) : Nat := (s.twn.mirror.filter fun e => e.2.dirty).length
/-- DEV_BRINE (07). -/
def State.devBrine (s : State) : Nat := s.localBrine + s.twinBrine
/-- TIDE_M (R204, R411). -/
def State.tideM (s : State) : Nat :=
  if s.solo || s.twn.peerReadOnly then s.get HRV.HRV_TIDE_NOW else min (s.get HRV.HRV_TIDE_NOW) s.twn.peerTide

/-- Bytes of class D data accepted and not yet in twin brine exceed 2 GiB (R116): those that have a mirror record. What a SOLO twin accepts has none and does not count, in RESYNC_SRC neither (DEDUCED, log entry 121). -/
def State.classDFull (s : State) : Bool := 2 ^ 31 < (s.twn.replay.filter fun r => r.cls == 1 && !r.acked).length * 64

/-! ## Frames, charges and pins -/

def State.putBlock (s : State) (p : Nat) (b : TBlock) : State := { s with tier.blocks := tset s.tier.blocks p b }
def State.block (s : State) (p : Nat) : Option TBlock := tget s.tier.blocks p

/-- FREE: T1 frames not taken by the system area or a block (R618). -/
def State.freeFrames (s : State) : Nat := s.get TIER.T1_FRAMES - s.get FTL.SYS_BLKS ftlPage.inst - (s.tier.blocks.filter fun e => !s.isSys e.1).length

/-- Take a charge of one block (R192, R194). -/
def State.charge (s : State) (t : Nat) : State × Option Status :=
  let q := s.quota t
  if !q.checkOk then (s.blkErr tierPage 17 5, some .internal)
  else if q.t1Used + 1 ≤ q.t1Quota then (s.putQuota t { q with t1Used := q.t1Used + 1 }, none)
  else ((s.putQuota t { q with quotaRefused := satAdd 32 q.quotaRefused 1 }).inc TIER.QUOTA_REFUSE, some .quotaExceeded)

def State.uncharge (s : State) (t : Option Nat) : State :=
  match t with
  | some t => s.putQuota t { s.quota t with t1Used := (s.quota t).t1Used - 1 }
  | none => s

def TBlock.dirty (b : TBlock) : Bool := b.units.any fun e => e.2.dirty
/-- A loose block: no pin, no DIRTY unit, no charge (R194). -/
def TBlock.loose (b : TBlock) : Bool := b.pins.isEmpty && !b.dirty && b.charge.isNone
def TBlock.unitPresent (b : TBlock) (u : Nat) : Bool := match tget b.units u with | some x => x.present | none => false

/-- A block with no pin and no DIRTY unit loses its charge (R196). -/
def State.settle (s : State) (p : Nat) : State :=
  match s.block p with
  | some b => if b.pins.isEmpty && !b.dirty then (s.uncharge b.charge).putBlock p { b with charge := none } else s
  | none => s

/-- Drop a tenant's pin: the charge passes to the earliest pin left, without a quota check (R195). -/
def State.dropPin (s : State) (p t : Nat) : State :=
  match s.block p with
  | some b =>
    if !b.pins.contains t then s else
    let pins := b.pins.filter fun x => x != t
    match b.charge == some t, pins with
    | true, n :: _ =>
      let s := s.uncharge b.charge
      (s.putQuota n { s.quota n with t1Used := (s.quota n).t1Used + 1 }).putBlock p { b with pins := pins, charge := some n }
    | _, _ => (s.putBlock p { b with pins := pins }).settle p
  | none => s

/-- Pins in the pin table, those of requests that wait for a frame among them. -/
def State.pinCount (s : State) : Nat :=
  (s.tier.blocks.map fun e => e.2.pins.length).foldl (· + ·) (s.tier.frameWait.filter fun w => w.pin.isSome).length

def freshUnit : TUnit := { present := true, dirty := false, stamp := 0, wb := none, failed := false, cls := 0 }
/-- The sixteen units, the given one first, then the others in ascending order (R190). -/
def unitOrder (first : Nat) : List Nat := first :: (List.range 16).filter fun u => u != first

/-- Whether the BME of a block of a region has ZERO (R71). -/
def State.bmeZero (s : State) (region p : Nat) : Bool := s.xlt.bmap.any fun e => e.1 / 2 ^ 32 == region && e.2.pbn == p && e.2.zero

/-- No claim group: that of the system area, which belongs to none (R476). -/
def sysGroup : Nat := 16

/-- A system-area block as it stands in T1: always resident, never loose or charged (R618). -/
def sysBlock : TBlock :=
  { state := .resident, leaveReq := false, charge := none, pins := [], units := [], filling := [], region := 2 ^ 24, used := true }

/-- Assign a frame and start the fill (R190), without the first unit where a write covers it whole; a ZERO block gets a zero-filled frame by the pan's ZERO and is there at once (R191, R236). -/
def State.startRise (s : State) (p region first : Nat) (whole zero : Bool) (charge : Option Nat) (pins : List Nat) : State :=
  let want := if whole then (unitOrder first).drop 1 else unitOrder first
  let b : TBlock := {
    state := if zero then .resident else .rising, leaveReq := false, charge := charge, pins := pins,
    units := if zero then (List.range 16).map fun u => (u, freshUnit) else [], filling := if zero then [] else want,
    region := region, used := true, frame := s.pickFrame p }
  let s := s.putBlock p b
  if zero then (List.range 512).foldl (fun s k => s.panZero (p * 512 + k) 11) s else s.t2Ask p want false

/-- Outcome of a request for residency. -/
inductive ReqRes where
  | ok
  | wait
  | refused (st : Status)
deriving DecidableEq, Repr

/-- RAISE or a sluice entry pins a block for tenant t (R194, R198, R199, Table 7-2). -/
def State.pin (s : State) (t p region : Nat) (zero : Bool) : State × ReqRes :=
  let full := 16777216 ≤ s.pinCount
  match s.block p with
  | none =>
    if s.tier.frameWait.any (fun w => w.pbn == p && w.pin == some t) then (s, .wait)
    else if full then (s.blkErr tierPage 16 4, .refused .quotaExceeded)
    else match s.charge t with
    | (s, some st) => (s, .refused st)
    | (s, none) =>
      if s.freeFrames = 0 then ({ s with tier.frameWait := s.tier.frameWait ++ [{ pbn := p, region := region, pin := some t, charge := some t, unit := 0, whole := false }] }, .wait)
      else (s.startRise p region 0 false zero (some t) [t], .ok)
  | some b =>
    if b.pins.contains t then (s, .ok)
    else if full then (s.blkErr tierPage 16 4, .refused .quotaExceeded)
    else
      let st := if b.state = .leaving then .resident else b.state
      if b.charge.isSome then (s.putBlock p { b with pins := b.pins ++ [t], state := st, used := true, leaveReq := false }, .ok)
      else match s.charge t with
      | (s, some e) => (s, .refused e)
      | (s, none) => (s.putBlock p { b with pins := b.pins ++ [t], charge := some t, state := st, used := true, leaveReq := false }, .ok)

/-- Frames that have become free go to the waiting requests in arrival order (R199). -/
def State.grantFrames : Nat → State → State
  | 0, s => s
  | k + 1, s =>
    match s.tier.frameWait with
    | [] => s
    | w :: rest =>
      match s.block w.pbn with
      | some b =>
        -- the block has come in meanwhile: the request's own charge is given back where the block has one
        let s : State := { s with tier.frameWait := rest }
        let s := if b.charge.isSome then s.uncharge w.charge else s
        let pins := match w.pin with | some t => if b.pins.contains t then b.pins else b.pins ++ [t] | none => b.pins
        -- it cancels the release of a LEAVING block, and the fill of a RISING one no longer ends in one (Table 7-2)
        State.grantFrames k (s.putBlock w.pbn { b with
          state := if b.state = .leaving then .resident else b.state, leaveReq := b.leaveReq && w.pin.isNone, pins := pins, charge := if b.charge.isSome then b.charge else w.charge })
      | none =>
        if s.freeFrames = 0 then s
        else
          let s : State := { s with tier.frameWait := rest }
          State.grantFrames k (s.startRise w.pbn w.region w.unit w.whole (s.bmeZero w.region w.pbn) w.charge w.pin.toList)

/-- Begin the release of a block (Table 7-2). -/
def State.startLeave (s : State) (p : Nat) : State :=
  match s.block p with
  | some b => s.putBlock p { b with state := .leaving }
  | none => s

/-- Take a block's sectors out of the frames. -/
def State.frameDrop (s : State) (p : Nat) : State := { s with tier.frames := s.tier.frames.filter fun e => e.1 / 1024 != p }

/-- Free a block's frame: charge and pins end (R196). -/
def State.freeBlock (s : State) (p : Nat) : State :=
  match s.block p with
  | some b =>
    let s := s.uncharge b.charge
    let s : State := { (s.frameDrop p) with tier.blocks := tdel s.tier.blocks p }
    s.grantFrames s.tier.frameWait.length
  | none => s

/-- Requests that no longer wait for a frame give back the charges they obtained (R194). -/
def State.frameWaitDrop (s : State) (gone : FrameWait → Bool) : State :=
  (s.tier.frameWait.filter gone).foldl (fun s w => s.uncharge w.charge) { s with tier.frameWait := s.tier.frameWait.filter fun w => !gone w }

/-- Free a block's frame after its pan lines are written back and invalidated (R188), with the lock-release event where a lock goes (R249). -/
def State.releaseBlock (s : State) (p : Nat) : State :=
  let (s, n) := s.panRelease p
  (if n = 0 then s else s.lockEvent (p * blkBytes) blkBytes n).freeBlock p

/-- What EVICT by t does to one block (R200, Table 7-2); true when the block counts as retained. -/
def State.evictBlock (s : State) (t p : Nat) : State × Bool :=
  -- a request of t that still waits for a frame goes, also where the block has come in for another tenant
  let s := s.frameWaitDrop fun w => w.pbn == p && w.pin == some t
  match s.block p with
  | none => (s, false)
  | some b =>
    let others := b.pins.any fun x => x != t
    match b.state with
    | .rising =>
      let s := s.dropPin p t
      (match s.block p with | some b => if b.pins.isEmpty then s.putBlock p { b with leaveReq := true } else s | none => s, true)
    | .resident => if others then (s.dropPin p t, true) else ((s.dropPin p t).startLeave p, false)
    | .leaving => (s.dropPin p t, false)

/-- Whether tenant t holds a pin on a block, or waits for a frame to pin it. -/
def State.pinned (s : State) (t p : Nat) : Bool :=
  (match s.block p with | some b => b.pins.contains t | none => false) || s.tier.frameWait.any fun w => w.pbn == p && w.pin == some t

/-- Every pin on the blocks of regions goes, those of requests that wait for a frame among them; charges end as R196 says (R203). -/
def State.pinsDrop (s : State) (hit : Nat → Bool) : State :=
  let s := s.frameWaitDrop fun w => hit w.region && w.pin.isSome
  let ps := (s.tier.blocks.filter fun e => hit e.2.region).map Prod.fst
  ps.foldl State.settle { s with tier.blocks := tmap s.tier.blocks fun _ b => if hit b.region then { b with pins := [] } else b }

/-- Drop the pin of t on a block as if by EVICT (R223); without a pin nothing happens. -/
def State.evictPin (s : State) (t p : Nat) : State := if s.pinned t p then (s.evictBlock t p).1 else s

/-! ## Units, T2 and the bittern -/

/-- A sector of T2. -/
def State.t2Read (s : State) (n : Nat) : SectorVal := (tget s.flm.t2 n).getD zeroSec
def State.t2Write (s : State) (n : Nat) (v : SectorVal) : State :=
  { s with flm.t2 := if v = zeroSec then tdel s.flm.t2 n else tset s.flm.t2 n v }
def State.t2Stamp (s : State) (u : Nat) : Nat := (tget s.flm.t2Stamp u).getD 0
def State.setT2Stamp (s : State) (u st : Nat) : State := { s with flm.t2Stamp := if st = 0 then tdel s.flm.t2Stamp u else tset s.flm.t2Stamp u st }

/-- The 64 pool sectors of a unit. -/
def unitSecs (u : Nat) : List Nat := (List.range 64).map fun k => u * 64 + k

/-- The integrity tag of a pool sector (R459, R460). -/
def integrityTag (n : Nat) (d : Sector) : Nat := crcMsb 64 0x42F0E1EBA9EA3693 n (secBytes d)

/-- The 8 B fold of a unit (R462): the CRC-64 of R459 from 0 over its sector tags, most significant byte first. Each tag is taken under the seeds of the unit expected. -/
def unitFold (u : Nat) (vals : List Sector) : Nat :=
  crcMsb 64 0x42F0E1EBA9EA3693 0 (vals.zipIdx.flatMap fun v => be 8 (integrityTag (u * 64 + v.2) v.1))

/-- The sectors that T2 holds of a unit. -/
def State.t2Secs (s : State) (u : Nat) : List Sector := (unitSecs u).map fun n => (s.t2Read n).data

/-- A unit is written as a codeword: its metadata holds the fold (R309, R462). -/
def State.t2Seal (s : State) (u : Nat) : State := { s with flm.folds := tset s.flm.folds u (unitFold u (s.t2Secs u)) }

/-- Whether the fold in the codeword of one unit agrees with the tags recomputed from its data under the seeds of the unit expected (R462). -/
def State.foldOk (s : State) (expect word : Nat) : Bool := tget s.flm.folds word == some (unitFold expect (s.t2Secs word))

/-- A unit's bytes in T2. -/
def State.t2Unit (s : State) (u : Nat) : List Byte := (unitSecs u).flatMap fun n => secBytes (s.t2Read n).data

/-- Units that fit the bittern area (R225, R229). -/
def State.bitternCap (s : State) : Nat := s.tier.bitternMib * 2 ^ 20 / 2112

/-- The DRAM address of a unit's place in the bittern area, which ends at FRAME_BASE (R618): which of its places it has is free (log entry 17). -/
def State.bitternAddr (s : State) (u : Nat) : Nat := s.frameBase * 256 - s.tier.bitternMib * 2 ^ 20 + Config.frameOf u % max 1 s.bitternCap * 2112

/-- Keep a graded unit, replacing by NRU with the units of resident blocks first (R229, R616). -/
def State.bitternPut (s : State) (u : Nat) (b : BUnit) : State :=
  if thas s.tier.bittern u || s.tier.bittern.length < s.bitternCap then { s with tier.bittern := tset s.tier.bittern u b }
  else if s.tier.bittern.isEmpty then s
  else
    let res := s.tier.bittern.filter fun e => thas s.tier.blocks (e.1 / 16)
    let pool := if res.isEmpty then s.tier.bittern else res
    let clear := pool.filter fun e => !e.2.used
    let s : State := if clear.isEmpty then { s with tier.bittern := tmap s.tier.bittern fun k e => if thas pool k then { e with used := false } else e } else s
    let cands := if clear.isEmpty then pool else clear
    match (cands.drop (Config.freeNat s.free % max 1 cands.length)).head? with
    | some v => { s.useFree with tier.bittern := tset (tdel s.tier.bittern v.1) u b }
    | none => s

/-- A write marks the unit's bittern unit STALE (R226). -/
def State.bitternStale (s : State) (u : Nat) : State := { s with tier.bittern := tmod s.tier.bittern u fun b => { b with stale := true } }

/-- Grade a unit from its T2 copy (R226): while GRADE_EN is 1, for a region with a bittern, when no sector of it is poisoned (log entry 9). A parity error in the grading datapath, whose coming is free (log entry 50), leaves the unit STALE and sets GRADE_PARITY. -/
def State.grade (s : State) (u region : Nat) : State :=
  let d := s.regionAt region
  if !s.flag TIER.GRADE_EN || d.elemFmt == 0 || (unitSecs u).any (fun n => (s.t2Read n).poison) then s
  else if Config.freeBool s.free then (s.useFree.bitternStale u).blkErr tierPage 18 4
  else
    let (codes, scales) := gradeUnit d.elemFmt d.gradeFmt (s.t2Unit u)
    (s.useFree.bitternPut u { codes := codes, scales := scales, stale := false, used := true, region := region }).memAccept (s.bitternAddr u) 2112 12

/-- A unit's fill arrives: its sectors go to the frame, it is PRESENT and graded (R190, R226). -/
def State.unitArrive (s : State) (p u : Nat) (b : TBlock) : State :=
  let w := p * 16 + u
  let s := (unitSecs w).foldl (fun s n => s.frameWrite n (s.t2Read n) 11) s
  let x : TUnit := { freshUnit with stamp := s.t2Stamp w }
  (s.putBlock p { b with units := tset b.units u x, filling := b.filling.filter fun k => k != u }).grade w b.region

/-- The fill of a RISING block ends once no unit is in flight: LEAVING if an EVICT asked for it, else RESIDENT (Table 7-2). -/
def State.fillEnd (s : State) (p : Nat) : State :=
  match s.block p with
  | some b =>
    if b.state = .rising && b.filling.isEmpty then
      if b.leaveReq && b.pins.isEmpty && !b.dirty then s.putBlock p { b with state := .leaving, leaveReq := false }
      else s.putBlock p { b with state := .resident, leaveReq := false }
    else s
  | none => s

/-- Ask for a unit of a block that is not PRESENT and not in flight (R190, Table 7-2). -/
def State.refill (s : State) (p u : Nat) : State :=
  match s.block p with
  | some b =>
    if b.unitPresent u || b.filling.contains u then s
    else (s.putBlock p { b with filling := b.filling ++ [u] }).t2Ask p [u] false
  | none => s

/-! ## Writes -/

/-- What becomes of a write of one sector. -/
inductive WriteRes where
  /-- accepted, with the mirror record it waits for if any -/
  | accepted (mirror : Option Nat)
  | held (why : HoldWhy)
  | refused (st : Status)
deriving DecidableEq, Repr

/-- A write: where it goes and what it brings. -/
structure WriteReq where
  tenant : Nat
  place : Place64
  data : Sector
  enable : BitVec 64
  poison : Bool
  /-- a host's write allocates in the pan, a mover's does not (R235, R237) -/
  alloc : Bool
  /-- covers its whole unit (R190) -/
  whole : Bool
  port : Option (Nat × Nat)
  /-- its QoS port (Table 9-6) -/
  qos : Nat := 14
  /-- of a whole line that a queue ZERO covers (R236) -/
  line : Bool := false
deriving DecidableEq, Repr

/-- Replace the enabled bytes of a sector (R110): byte k of 64 by bit k. -/
def mergeBytes (old new : Sector) (en : BitVec 64) : Sector :=
  ofSecBytes ((List.range 64).map fun k => if en.getLsbD k then new.extractLsb' (8 * k) 8 else old.extractLsb' (8 * k) 8)

/-- The value a write leaves in its sector (R109, R110): one that enables all 64 bytes, a MemWrPtl too, clears the poison (DEDUCED, log entry 122). -/
def mergeVal (old : SectorVal) (w : WriteReq) : SectorVal :=
  let full := w.enable == BitVec.allOnes 64
  { data := if full then w.data else mergeBytes old.data w.data w.enable, poison := w.poison || (old.poison && !full) }

/-- Send a MIRROR record of one sector (R378), unless the region has become class V (R10). Gives its number. -/
def State.mirrorSend (s : State) (region grp cls n stamp : Nat) (v : SectorVal) (port : Option (Nat × Nat)) : State × Option Nat :=
  if s.mirroring && cls < 2 && (s.regionAt region).pclass < 2 then
    let id := s.twn.nextMirror
    let seq := s.twn.txSeq + 1
    let r : MirrorRec := { id := id, seq := seq, stamp := stamp, region := region, grp := grp, cls := cls, sector := n, val := v, port := port, acked := false, retx := false }
    let s : State := { s with twn := { s.twn with replay := s.twn.replay ++ [r], nextMirror := id + 1, txSeq := seq } }
    (if s.linkUp then (s.laneJoin .twin 64 0).emit (.twin 0x03 grp seq (n * 64) stamp [v]) else s, some id)
  else (s, none)

/-- Mark a block in the resync map (R403). -/
def State.rsmMark (s : State) (p : Nat) : State := if s.twn.rsm.contains p then s else { s with twn.rsm := s.twn.rsm ++ [p] }

/-- A write stamp (R380): TIME_NS, or one above the unit's stamp, above the group's floor. -/
def State.newStamp (s : State) (grp old : Nat) : Nat :=
  max (max s.timeNs (old + 1)) ((tget s.tier.stampFloor grp).getD 0 + 1)

/-- The residency a write needs (Table 7-2): charge, frame, unit. None: it can go on. -/
def State.writeGate (s : State) (w : WriteReq) : State × Option WriteRes :=
  let p := pbnOf w.place.sector
  let u := unitOf w.place.sector % 16
  let unitCheck (s : State) : State × Option WriteRes :=
    match s.block p with
    | some b => if b.unitPresent u || w.whole then (s, none) else (s.refill p u, some (.held .unit))
    | none => (s, some (.held .frame))
  -- a write cancels the release of a LEAVING block, also while it waits for a unit (Table 7-2)
  let s : State := match s.block p with
    | some (b : TBlock) => if b.state == Residency.leaving then s.putBlock p { b with state := .resident } else s
    | none => s
  match s.block p with
  | none =>
    if s.tier.frameWait.any (fun x => x.pbn == p) then (s, some (.held .frame))
    else match s.charge w.tenant with
    | (s, some st) => (s, some (.refused st))
    | (s, none) =>
      if s.freeFrames = 0 then
        ({ s with tier.frameWait := s.tier.frameWait ++ [{ pbn := p, region := w.place.region, pin := none, charge := some w.tenant, unit := u, whole := w.whole }] }, some (.held .frame))
      else unitCheck (s.startRise p w.place.region u w.whole w.place.bme.zero (some w.tenant) [])
  | some (b : TBlock) =>
    if b.charge.isSome then unitCheck s
    else match s.charge w.tenant with
    | (s, some st) => (s, some (.refused st))
    | (s, none) => unitCheck (s.putBlock p ({ b with charge := some w.tenant } : TBlock))

/-- Accept a write of one sector (01, R71, R206, R378): the unit is DIRTY under the class in force, the pan or the frame takes the value, the bittern unit is stale, the mirror record goes out, and while SOLO the block is marked. A block whose last missing unit it covers has been filled (Table 7-2). -/
def State.acceptWrite (s : State) (w : WriteReq) : State × Option Nat :=
  let n := w.place.sector
  let p := pbnOf n
  let u := unitOf n % 16
  let d := w.place.desc
  match s.block p with
  | none => (s, none)
  | some b =>
    let old := (tget b.units u).getD { freshUnit with present := false }
    let stamp := s.newStamp d.grp old.stamp
    let cls := if old.dirty then min old.cls d.pclass else d.pclass
    let v := mergeVal (s.secValue n) w
    let x : TUnit := { old with present := true, dirty := true, stamp := stamp, cls := cls, failed := false }
    let st := if b.state = .leaving then .resident else b.state
    let s := s.putBlock p { b with state := st, used := true, units := tset b.units u x, filling := b.filling.filter fun k => k != u }
    let s := if !w.line then s.panWrite n v w.alloc w.qos else if n % 2 = 0 then s.panZero (n / 2) w.qos else s
    let s := (s.bitternStale (unitOf n)).fillEnd p
    let s := if w.place.bme.zero then s.clearZero w.place.region w.place.blk else s
    let s := if s.solo && !old.dirty then s.rsmMark p else s
    s.mirrorSend w.place.region d.grp d.pclass n stamp v w.port

/-- Whether the twin link has a credit for one more mirror record (R205): a record holds one until the partner has acknowledged it. How many there are the spec does not say (log entry 99). -/
def State.mirrorCredit (s : State) : Bool := !s.mirroring || ((s.twn.replay.filter fun r => !r.acked).length < Config.twinCredits && !laneWaits s.twn.cipher && !s.resting twnPage)

/-- Whether a write would make its unit DIRTY anew (R204). -/
def State.dirties (s : State) (n : Nat) : Bool :=
  match s.block (pbnOf n) with
  | some b => (match tget b.units (unitOf n % 16) with | some x => !x.dirty | none => true)
  | none => true

/-- Tide-mark admission (R204, R208). -/
def State.tideAdmits (s : State) (cls n : Nat) : Bool :=
  if cls = 2 || n = 0 then true
  else s.devBrine + n ≤ (if cls = 0 then s.tideM else s.get HRV.HRV_TIDE_NOW)

/-- The sectors that a write is admitted with: those of its unit where it covers the unit whole (R190). -/
def WriteReq.secs (w : WriteReq) : List Nat := if w.whole then unitSecs (unitOf w.place.sector) else [w.place.sector]

/-- A write of one sector at check 9: refused on a failed channel (R292), held behind its slice or a handoff, refused or held for its block, held by the tide mark (R20, R204), the class D limit (R116) or for want of a twin-link credit (R205), or accepted. -/
def State.tryWrite (s : State) (w : WriteReq) : State × WriteRes :=
  let n := w.place.sector
  let cls := w.place.desc.pclass
  let s := w.secs.foldl State.panWake s
  if w.secs.any s.dead then (s, .refused .mediaError)
  else if w.secs.any s.panStalls then (s, .held .pan)
  else match s.writeGate w with
  | (s, some r) => (s, r)
  | (s, none) =>
    if !s.tideAdmits cls (b2n (s.dirties n)) then (s, .held .tide)
    else if cls = 1 && s.classDFull && !(w.whole && n % 64 != 0) then (s, .held .classD)
    else if cls < 2 && !s.mirrorCredit && !(w.whole && n % 64 != 0) then (s, .held .credit)
    else
      let (s, m) := s.acceptWrite w
      (s, .accepted m)

/-! ## Write-back -/

/-- Whether FLM takes programs: RUNNING. FLM_STATE values of Table 10-14. -/
def State.flmState (s : State) : Nat := s.get FTL.FLM_STATE ftlPage.inst

/-- Whether mirror records of a unit wait for their acknowledgement (R381). -/
def State.unitUnacked (s : State) (u : Nat) : Bool := s.mirroring && s.twn.replay.any fun r => !r.acked && r.sector / 64 == u

/-- Whether a unit of a set is still brine as restored: not clean in T1, not superseded (R366). -/
def State.stillBrine (s : State) (u : HUnit) : Bool :=
  if u.twin then (match tget s.twn.mirror u.tun with | some m => m.dirty && m.stamp ≤ u.stamp | none => false)
  else match (s.block (u.tun / 16)).bind fun b => tget b.units (u.tun % 16) with
    | some x => x.dirty && x.stamp ≤ u.stamp
    | none => false

/-- Whether a write-back of a unit is in flight. -/
def State.wbFlies (s : State) (u : HUnit) : Bool :=
  if u.twin then (match tget s.twn.mirror u.tun with | some m => m.wb.isSome | none => false)
  else match (s.block (u.tun / 16)).bind fun b => tget b.units (u.tun % 16) with | some x => x.wb.isSome | none => false

/-- Units of the restore set that are still brine and wait for their write-back: by TUN × 2, and 1 for twin brine (R366). -/
def State.restoredBrine (s : State) : List Nat :=
  let of (x : Option HSet) : List Nat := match x with | some x => (x.units.filter fun u => s.stillBrine u && !s.wbFlies u).map fun u => u.tun * 2 + b2n u.twin | none => []
  if s.hrv.restored then of s.hrv.newest ++ of s.hrv.prior else []

/-- The rank of a block's write-back: LEAVING, no pin, then by the oldest DIRTY unit (R207). -/
def wbRank (b : TBlock) : Nat × Nat :=
  if b.state = .leaving then (0, 0) else if b.pins.isEmpty then (1, 0)
  else (2, (b.units.filter fun e => e.2.dirty).foldl (fun a e => min a e.2.stamp) (2 ^ 64))

/-- Whether a unit of T1 may be written back now (R207, R381, R399). -/
def State.wbAllowed (s : State) (p u : Nat) (b : TBlock) (x : TUnit) : Bool :=
  x.dirty && x.wb.isNone && !s.unitUnacked (p * 16 + u) && s.role != roleFenced &&
  (b.state == .leaving || s.restoredBrine.contains ((p * 16 + u) * 2) || s.get TIER.CLEAN_LO * s.get HRV.HRV_TIDE_NOW < s.devBrine * 100)

/-- Whether some block of a better rank has a unit to write back. -/
def State.wbBetter (s : State) (b : TBlock) : Bool :=
  s.tier.blocks.any fun e =>
    (e.2.units.any fun x => s.wbAllowed e.1 x.1 e.2 x.2) &&
    ((wbRank e.2).1 < (wbRank b).1 || ((wbRank e.2).1 == (wbRank b).1 && (wbRank e.2).2 < (wbRank b).2))

/-- The sectors of a unit as the pan and the frame hold them, those that are not zero. -/
def State.unitVals (s : State) (u : Nat) : Table SectorVal :=
  (List.range 64).filterMap fun k => let v := s.secValue (u * 64 + k); if v = zeroSec then none else some (k, v)

/-- Put a whole unit into T2; the bittern unit made from the copy before is out of date (R226). -/
def State.t2PutUnit (s : State) (u stamp : Nat) (vals : Table SectorVal) : State :=
  ((((List.range 64).foldl (fun s k => s.t2Write (u * 64 + k) ((tget vals k).getD zeroSec)) s).setT2Stamp u stamp).t2Seal u).bitternStale u

/-- Rewrite a sector of this twin, wherever it stands, for TWN unless another port is named (Table 9-6). -/
def State.secRewrite (s : State) (n : Nat) (v : SectorVal) (port : Nat := 8) : State :=
  let here := match s.block (pbnOf n) with | some b => b.unitPresent (unitOf n % 16) | none => false
  if here then
    (match s.panFind (n / 2) with
     | some (k, x) => if (x.sec (n % 2)).valid then s.panPut k (x.setSec (n % 2) { x.sec (n % 2) with val := v }) else s.frameWrite n v port
     | none => s.frameWrite n v port)
  else ((s.t2Write n v).t2Seal (unitOf n)).bitternStale (unitOf n)

end Sys2Proof.Machine
end

