-- ==== Sys2Proof/Machine/HpOps.lean ====
section
/-! DEFINITION. The operations of the host ports (04): logical devices, event logs, the mapping of outcomes to the wire, writes waiting for their Cmp. -/
namespace Sys2Proof.Machine

def hpPage (p : Nat) : Page := pg .hp p

/-- The link that holds an LD slot (Table 4-1). -/
def State.linkOf (s : State) (port ld : Nat) : Option Nat :=
  match s.get HP.BIFURC port with
  | 0 => some 0
  | 1 => some (ld / 8)
  | 2 => some (ld / 4)
  | _ => none
/-- The lowest LD slot of a link. -/
def State.firstLd (s : State) (port link : Nat) : Nat :=
  match s.get HP.BIFURC port with
  | 1 => link * 8
  | 2 => link * 4
  | _ => 0
/-- LD-ID of a slot: its position within its link (R100). -/
def State.ldId (s : State) (port ld : Nat) : Nat := match s.linkOf port ld with | some k => ld - s.firstLd port k | none => ld
/-- Whether the slot is presented: every slot of an MLD link, the lowest of another (R100). -/
def State.presented (s : State) (p l : Nat) : Bool :=
  match s.linkOf p l with
  | some k => s.flag HP.MLD p k || s.ldId p l == 0
  | none => false
/-- The LD slots of a link. -/
def State.ldsOf (s : State) (port link : Nat) : List Nat := (List.range 16).filter fun l => s.linkOf port l == some link

def ldKey (port ld : Nat) : Nat := port * 16 + ld
def noLog : EventLog := { records := [], overflow := false, lost := 0, intEnable := false, vector := 0 }
def noLd : LdState := {
  memEnable := false, logs := [noLog, noLog, noLog, noLog], nextHandle := 1, poison := [], poisonOverflow := none, poisonCursor := 0,
  gpf := none, fencedOut := false, alertConfig := 0, timeOffset := 0, allocUnits := 0, qosAlloc := 0, qosLimit := 0, dcRegions := [], config := [], release := none, fmRelease := [] }
def State.ld (s : State) (port ld : Nat) : LdState := (tget s.hp.lds (ldKey port ld)).getD noLd
def State.putLd (s : State) (port ld : Nat) (x : LdState) : State :=
  { s with hp.lds := if x = noLd then tdel s.hp.lds (ldKey port ld) else tset s.hp.lds (ldKey port ld) x }

def State.link (s : State) (port k : Nat) : LinkState := (tget s.hp.links (port * 4 + k)).getD { perst := false, viral := false }
def State.putLink (s : State) (port k : Nat) (x : LinkState) : State := { s with hp.links := tset s.hp.links (port * 4 + k) x }


end Sys2Proof.Machine

namespace Sys2Proof
def EvLog.ix : EvLog → Nat
  | .informational => 0 | .warning => 1 | .failure => 2 | .fatal => 3
end Sys2Proof

namespace Sys2Proof.Machine

/-- Enter an event record (R121): a full log sets its overflow flag, counts, and sets EVLOG_OVF; the vector of the log's policy is raised (R119). -/
def State.logEvent (s : State) (port ld log : Nat) (memModule : Bool) (kind : String) (dpa win st : Nat) : State :=
  let x := s.ld port ld
  let l := x.logs.getD log noLog
  let full := 64 ≤ l.records.length
  let e : CxlEvent := { handle := x.nextHandle, time := ((s.timeNs : Int) + x.timeOffset).toNat, memModule := memModule, kind := kind, dpa := dpa, window := win, status := st }
  let l' := if full then { l with overflow := true, lost := l.lost + 1 } else { l with records := l.records ++ [e] }
  let s := s.putLd port ld { x with logs := x.logs.set log l', nextHandle := if full then x.nextHandle else x.nextHandle % 65535 + 1 }
  let s := if full then s.blkErr (hpPage port) 18 4 else s
  if l.intEnable then s.raiseVector port ld false l.vector else s

/-- The bound logical devices. -/
def State.boundLds (s : State) : List (Nat × Nat) :=
  (List.range 8).flatMap fun p => (List.range 16).filterMap fun l => if s.flag HP.BOUND p l then some (p, l) else none

/-- A Memory Module record on every bound logical device (R119). -/
def State.moduleEvent (s : State) (log : Nat) (kind : String) : State :=
  s.boundLds.foldl (fun s x => s.logEvent x.1 x.2 log true kind 0 0 0) s

/-- Log and kind of the record of an outcome (Table 4-9). Of the outcomes that the table does not list, ABORTED, that of a forward that cannot be sent, and the others are recorded in log 2, Failure, as Data Path Error (DESIGN CHOICE, log entry 119). -/
def errLog : Option Status → Nat × String
  | none => (1, "Invalid Address")
  | some st => match st with
    | .accessViolation | .keyStale | .keyRevoked => (1, "Invalid Address")
    | .mediaReadOnly | .quotaExceeded | .timeout => (1, "Data Path Error")
    | .mediaError => (2, "Media ECC Error")
    | .okSubstituted => (0, "Data Path Error")
    | .ok | .okSlowPath | .retainedShared | .lengthError | .authFail | .incompleteMessage | .fenced | .aborted | .internal => (2, "Data Path Error")

/-- The event record and, for INTERNAL, the RAS error of an outcome (Table 4-9). -/
def State.cxlRecord (s : State) (port ld win dpa : Nat) (st : Option Status) : State :=
  let (log, kind) := errLog st
  let s := s.logEvent port ld log false kind dpa win ((st.map Status.code).getD 0)
  if st = some .internal then s.emit (.device "RAS_UNCORRECTABLE_INTERNAL" [port, ld]) else s

/-- A refused access: counted, recorded with window ID, DPA and status, and logged (R81, R120, R121). An access to no window or extent has no status in Table 3-5 and no window: it is recorded with status 0, and it and an access to an extent with window ID 0xFFFF (DESIGN CHOICE, log entry 96). -/
def State.cxlRefuse (s : State) (port ld win dpa : Nat) (st : Option Status) : State :=
  let s := s.inc HP.REFUSE_CNT 1 port
  let s := s.misc (hpPage port) 4 (le 2 win ++ le 8 dpa ++ le 1 ((st.map Status.code).getD 0))
  s.cxlRecord port ld win dpa st

/-- Whether a write is held for a reason of R106: the tide mark, the class D limit, or the mirror's acknowledgements. -/
def HeldWrite.admission (w : HeldWrite) : Bool := w.why == .tide || w.why == .classD || w.why == .credit

/-- Writes of a link held under R106: held at admission, behind one of their port that is, or waiting for a mirror acknowledgement. -/
def State.linkHeld (s : State) (port link : Nat) : Bool :=
  (s.tier.held.any fun w => (match w.who with | .cxl p l _ => p == port && s.linkOf p l == some link | .step .. | .cmn .. | .mailbox .. => false) &&
    (w.admission || (w.why == .behind && (match s.tier.held.find? fun x => x.src == w.src with | some x => x.admission | none => false)))) ||
  (s.hp.cmps.any fun c => c.port == port && c.link == link && (match c.mirror with | some m => s.twn.replay.any fun r => r.id == m && !r.acked | none => false))

/-- DevLoad of a response (Table 4-11). -/
def State.devLoad (s : State) (port ld : Nat) : Nat :=
  match s.linkOf port ld with
  | some k => if s.linkHeld port k then 3 else s.urgency port
  | none => s.urgency port

/-- Send an S2M response (R129). -/
def State.cxlSend (s : State) (port ld : Nat) (r : CxlRsp) : State := s.emit (.cxl port ld r (s.devLoad port ld))

/-- Return read data; poison is counted. -/
def State.cxlData (s : State) (port ld tag : Nat) (v : SectorVal) : State :=
  let s := if v.poison then s.inc HP.POISON_CNT 1 port else s
  s.cxlSend port ld (.memData tag (if v.poison then { data := 0, poison := true } else v))

def poisonSec : SectorVal := { data := 0, poison := true }

/-- Add a DPA to the poison list (R111, R112). -/
def State.addPoison (s : State) (port ld dpa : Nat) : State :=
  let x := s.ld port ld
  if x.poison.contains dpa then s
  else if x.poison.length < 1024 then s.putLd port ld { x with poison := x.poison ++ [dpa] }
  else s.putLd port ld { x with poisonOverflow := some (x.poisonOverflow.getD s.timeNs) }

/-- What TIER found for a read (R209-R211): a value with the worst of how it was got, a flagged substitution, or an error. -/
inductive ReadRes where
  | value (v : SectorVal) (how : Status)
  | subst (d : Sector) (flagged : Bool)
  | error (st : Status)
deriving DecidableEq, Repr

/-- Answer a CXL.mem read (Table 4-9) after the egress claim check (R123). -/
def State.cxlAnswer (s : State) (port ld tag win dpa grp : Nat) (r : ReadRes) : State :=
  if !s.serves grp then (s.cxlRecord port ld win dpa (some .fenced)).cxlData port ld tag poisonSec
  else match r with
  | .value v _ => (if v.poison then s.addPoison port ld dpa else s).cxlData port ld tag v
  | .subst d false => s.cxlData port ld tag { data := d, poison := false }
  | .subst _ true => (s.cxlRecord port ld win dpa (some .okSubstituted)).cxlData port ld tag poisonSec
  | .error st =>
    let s := if st = .mediaError then s.addPoison port ld dpa else s
    (s.cxlRecord port ld win dpa (some st)).cxlData port ld tag poisonSec

/-- Keep a write until its Cmp (R105). -/
def State.cmpWait (s : State) (port ld tag : Nat) (mirror : Option Nat) (held : Bool) (foreign : Option Nat) : State :=
  { s with hp.cmps := s.hp.cmps ++ [{ port := port, ld := ld, link := (s.linkOf port ld).getD 0, tag := tag, mirror := mirror, held := held, foreign := foreign }] }

/-- Whether a mirror record still waits for its acknowledgement. -/
def State.mirrorOpen (s : State) (m : Option Nat) : Bool :=
  match m with
  | some m => s.twn.replay.any fun r => r.id == m && !r.acked
  | none => false

/-- HP_WRITE_STAT.HOLD of a port: recomputed after every change of the waiting writes. -/
def State.hpHold (s : State) (port : Nat) : Bool := (List.range 4).any fun k => s.linkHeld port k

/-- The media state that Table 4-7 reports. -/
inductive MediaState where
  | restoring | paired | solo | readOnly | fenced | harvest
deriving DecidableEq, Repr

end Sys2Proof.Machine
end

