-- ==== Sys2Proof/Machine/ReadOps.lean ====
section
/-! DEFINITION. Reads of the pool (R190, R199, R209-R211, R234) and the sluice schedules that watch them (R214-R224). -/
namespace Sys2Proof.Machine

/-! ## Sluice schedules -/

/-- Whether an entry is settled. -/
def SluState.done : SluState → Bool
  | .onTime | .missed | .cancelled => true
  | .waiting | .eligible => false

/-- Change the schedule of a tenant with a tag. -/
def State.schedMod (s : State) (t tag : Nat) (f : Schedule → Schedule) : State :=
  { s with tier.schedules := s.tier.schedules.map fun x => if x.tenant = t ∧ x.tag = tag then f x else x }
def State.sched (s : State) (t tag : Nat) : Option Schedule := s.tier.schedules.find? fun x => x.tenant == t && x.tag == tag
def Schedule.setEntry (x : Schedule) (i : Nat) (f : SluEntry → SluEntry) : Schedule := { x with entries := x.entries.modify i f }

/-- Mark an entry and count it (R220-R222). -/
def State.sluMark (s : State) (t tag i : Nat) (st : SluState) : State :=
  let s := s.schedMod t tag fun x => x.setEntry i fun e => { e with state := st }
  match st with
  | .onTime => s.incMod TIER.ON_TIME
  | .missed => s.incMod TIER.MISSED
  | .cancelled | .waiting | .eligible => s

/-- The result of a SLUICE whose entries are settled (R216, R221): the first error of the list check, else QUOTA_EXCEEDED is left to DETAIL: counts on time and missed. -/
def Schedule.result (x : Schedule) (st : Status) : CmdResult :=
  { status := st, result0 := (x.entries.filter fun e => e.state == .onTime).length, detail := (x.entries.filter fun e => e.state == .missed).length, prefixLen := 0 }

/-- Give a command its result unless it has one. -/
def State.cmdResult (s : State) (q c : Nat) (r : CmdResult) : State :=
  { s with qe.cmds := s.qe.cmds.map fun x => if x.qid = q ∧ x.cmdId = c ∧ x.result.isNone then { x with result := some r } else x }

/-- Whether an entry holds nothing more: HOLD_MS is over, or HOLD_MS is 0 and the tenant has no pin left on its blocks (Table 7-5, R221). -/
def State.sluOver (s : State) (t : Nat) (e : SluEntry) : Bool := e.state.done && (e.holdEnded || (e.hold == 0 && !e.blocks.any fun p => s.pinned t p))

/-- Complete the SLUICE whose every entry is settled (R221), and end a completed schedule whose last hold is over. -/
def State.sluSettle (s : State) (t tag : Nat) : State :=
  match s.sched t tag with
  | none => s
  | some x =>
    let s := if !x.completed && x.entries.all (fun e => e.state.done) then
        (s.cmdResult x.qid x.cmdId (x.result x.status)).schedMod t tag fun x => { x with completed := true }
      else s
    match s.sched t tag with
    | some x => if x.completed && x.entries.all (s.sluOver t) then { s with tier.schedules := s.tier.schedules.filter fun y => !(y.tenant == t && y.tag == tag) } else s
    | none => s

/-- Look again at every schedule after pins have gone. -/
def State.sluSweep (s : State) : State := s.tier.schedules.foldl (fun s x => s.sluSettle x.tenant x.tag) s

/-- An entry becomes eligible: TIER raises and pins every block for the tenant; a block refused makes it MISSED (R218). -/
def State.sluEligible (s : State) (t tag i : Nat) : State :=
  match (s.sched t tag).bind fun x => x.entries[i]? with
  | none => s
  | some e =>
    if e.state ≠ .waiting then s else
    let s := s.schedMod t tag fun x => x.setEntry i fun e => { e with state := .eligible, elig := true }
    let (s, bad) := e.blocks.foldl (fun (a : State × Bool) p =>
      match a.1.pin t p e.region (a.1.bmeZero e.region p) with
      | (s, .refused _) => (s, true)
      | (s, _) => (s, a.2)) (s, false)
    if bad then (s.sluMark t tag i .missed).sluSettle t tag else s

/-- The first read of a marked block by the tenant fires the trigger (R219): each entry that names it becomes eligible, due DUE_US after now. -/
def State.sluRead (s : State) (t pbn : Nat) : State :=
  s.tier.schedules.foldl (fun s x =>
    if x.tenant ≠ t then s else
    (List.range x.entries.length).foldl (fun s j =>
      match (s.sched t x.tag).bind fun y => y.entries[j]? with
      | none => s
      | some e =>
        if e.fired || !e.elig || !e.blocks.contains pbn || !x.entries.any (fun k => k.trigger == some j) then s
        else
          let s := s.schedMod t x.tag fun y => y.setEntry j fun e => { e with fired := true }
          (List.range x.entries.length).foldl (fun s k =>
            match (s.sched t x.tag).bind fun y => y.entries[k]? with
            | none => s
            | some f =>
              if f.trigger == some j && f.state == .waiting then
                (s.schedMod t x.tag fun y => y.setEntry k fun f => { f with due := s.timeNs + f.dueUs * 1000 }).sluEligible t x.tag k
              else s) s) s) s

/-- Whether a block belongs to a MISSED entry: its reads start the cheaper-path order at t0 (R220). -/
def State.sluMissed (s : State) (pbn : Nat) : Bool := s.tier.schedules.any fun x => x.entries.any fun e => e.state == .missed && e.blocks.contains pbn

/-! ## The cheaper-path order (Table 7-4) -/

def State.setRead (s : State) (id : Nat) (f : WaitRead → WaitRead) : State :=
  { s with tier.reads := s.tier.reads.map fun r => if r.id = id then f r else r }
def State.dropRead (s : State) (id : Nat) : State := { s with tier.reads := s.tier.reads.filter fun r => r.id != id }

/-- A sector served from the bittern (R228, R230): counted for the region, its tenant and the device; the first since the counter was last read raises the substitution event. -/
def State.substitute (s : State) (region n : Nat) : State × Option (Sector × Bool) :=
  let d := s.regionAt region
  match tget s.tier.bittern (unitOf n) with
  | some b =>
    if b.stale || d.elemFmt = 0 || d.subst = 0 then (s, none)
    else
      let c := (tget s.tier.substCtr d.substCtr).getD 0
      let q := s.quota d.tenant
      let s : State := { s with tier := { s.tier with
          substCtr := tset s.tier.substCtr d.substCtr ((c + 1) % 2 ^ 64), bittern := tmod s.tier.bittern (unitOf n) fun b => { b with used := true } } }
      let s := (s.putQuota d.tenant { q with substTotal := (q.substTotal + 1) % 2 ^ 64 }).incMod TIER.SUBST
      let s := if s.tier.substSeen.contains d.substCtr then s
        else ({ s with tier.substSeen := s.tier.substSeen ++ [d.substCtr] }).occur tierPage 32 2 (le 3 region)
      (s, some (restoreSector d.elemFmt d.gradeFmt b.codes b.scales (n % 64), d.subst == 1))
  | none => (s, none)

/-- Take a waiting read on from path k of Table 7-4 (0 twin DRAM, 1 bittern, 2 direct flash). Answers at once when the bittern delivers. -/
def State.pathFrom (s : State) (r : WaitRead) (k : Nat) : State × Option ReadRes :=
  let d := s.regionAt r.region
  let mask (b : Nat) : Bool := d.pathMask.getLsbD b
  let direct (s : State) : State × Option ReadRes :=
    if mask 1 then ((s.setRead r.id fun r => { r with stage := .directFlash }).t2Ask r.pbn [r.unit] true, none)
    else (s.setRead r.id fun r => { r with stage := .ended }, none)
  let bittern (s : State) : State × Option ReadRes :=
    if mask 2 then
      match s.substitute r.region r.sector with
      | (s, some (v, fl)) => (s.dropRead r.id, some (.subst v fl))
      | (s, none) => direct s
    else direct s
  if k = 0 && mask 3 && s.role == rolePaired then
    ((s.setRead r.id fun r => { r with stage := .twinDram }).emit (.twin 0x0C r.grp 0 (r.pbn * 16 + r.unit) 0 []), none)
  else if k ≤ 1 then bittern s
  else direct s

/-! ## Starting a read -/

/-- A read of one sector that TIER is asked for. -/
structure ReadWant where
  place : Place64
  who : RdBy
  tenant : Nat
  train : Option ReadReq
  window : Nat
  dpa : Nat
deriving DecidableEq, Repr

def ReadWant.wait (w : ReadWant) (s : State) (noFrame panStall : Bool) : State :=
  let n := w.place.sector
  { s with tier := { s.tier with
      reads := s.tier.reads ++ [{
        id := s.tier.nextRead, who := w.who, region := w.place.region, grp := w.place.desc.grp, pbn := pbnOf n,
        unit := unitOf n % 16, sector := n, window := w.window, dpa := w.dpa, t0 := s.timeNs, stage := .filling, noFrame := noFrame, panStall := panStall, dual := false }],
      nextRead := s.tier.nextRead + 1 } }

/-- Sampled dual reads (R401): one read in every SAMPLE_N of local regions goes also to the partner. -/
def State.sample (s : State) (n : Nat) : State :=
  let k := s.get TWN.SAMPLE_N
  if s.role ≠ rolePaired || k = 0 then s
  else
    let c := s.twn.sampleCount + 1
    if c < k then { s with twn.sampleCount := c }
    else if s.twn.compare.isSome then { s with twn.sampleCount := 0 }
    else ({ s with twn := { s.twn with sampleCount := 0, compare := some (n, s.timeNs) } }).emit (.twin 0x0C 0 0 (unitOf n) 0 [])

/-- Read a sector that its frame or the pan holds (R234, R239, R241): a mover's read fills as a streaming one (R237). -/
def State.readPresent (s : State) (w : ReadWant) : State × SectorVal :=
  let n := w.place.sector
  let v := s.secValue n
  match w.train with
  | some r =>
    let (s, age) := s.train r (pbnOf n) (n / 2)
    (s.panTouch n age true w.who.qos, v)
  | none => (s.panTouch n 3 true w.who.qos, v)

/-- A read that has begun to wait for the fill of its unit: for a block of a MISSED entry that is not resident its path point is t0 (R220). -/
def ReadWant.missPoint (w : ReadWant) (s : State) : State × Option ReadRes :=
  if s.sluMissed (pbnOf w.place.sector) then
    match s.tier.reads.getLast? with
    | some r => s.pathFrom r 0
    | none => (s, none)
  else (s, none)

/-- A read at check 9 (Table 7-2): zero for a ZERO block without tier access (R71); unrecoverable on a failed channel (R292); the frame's or pan's value when the unit is there; else a wait for the fill, the block being raised without charge when a frame is free and served from T2 when none is. -/
def State.readStart (s : State) (w : ReadWant) : State × Option ReadRes :=
  let n := w.place.sector
  let p := pbnOf n
  let u := unitOf n % 16
  let s := s.sluRead w.tenant p
  if w.place.bme.zero then (s, some (.value zeroSec .ok))
  else if s.dead n then (s, some (.error .mediaError))
  else
    let s := (s.sample n).panWake n
    if s.panStalls n then (w.wait s false true, none)
    else match s.block p with
    | none =>
      if s.freeFrames = 0 then w.missPoint ((w.wait s true false).t2Ask p [u] false)
      else w.missPoint (w.wait (s.startRise p w.place.region u false false none []) false false)
    | some b =>
      let s := s.putBlock p { b with used := true }
      if b.unitPresent u then
        let (s, v) := s.readPresent w
        (s, some (.value v .ok))
      else if b.state = .resident then (w.wait (s.refill p u) false false, none)
      else w.missPoint (w.wait (s.refill p u) false false)

end Sys2Proof.Machine
end

