-- ==== Sys2Proof/Machine/CmnOps.lean ====
section
/-! DEFINITION. The sending side of Cemanor (13): packets and their header bytes, paths, the windows, messages of the initiator, responses of the target. -/
namespace Sys2Proof.Machine

/-- Operations (Table 13-2). -/
def opWrite : Nat := 0x1
def opMasked : Nat := 0x2
def opRead : Nat := 0x3
def opWriteCmp : Nat := 0x4
def opReadResp : Nat := 0x5
def opAck : Nat := 0x8
def opNack : Nat := 0x9
def opNotice : Nat := 0xA
def opProbe : Nat := 0xB
def opRekey : Nat := 0xC
def opClose : Nat := 0xD

/-- Whether an operation is a response (RESP). -/
def opResp (op : Nat) : Bool := op == opWriteCmp || op == opReadResp

/-- The 32 header bytes of a packet, in network byte order (Table 13-1). -/
def packetHeader (op : Nat) (p : Packet) : List Byte :=
  be 1 (p.ver.toNat * 16 + op) ++ be 1 (b2n p.first * 128 + b2n p.final * 64 + b2n p.flagged * 32 + b2n (opResp op) * 16 + b2n p.phase * 8) ++
  be 3 p.conn.toNat ++ be 1 0 ++ be 2 p.plen.toNat ++ be 4 p.psn.toNat ++ be 4 p.msn.toNat ++
  (if opResp op then be 8 p.claim.toNat ++ be 3 p.moff.toNat ++ be 1 p.status.toNat ++ be 4 (p.grp.val * 2 ^ 28)
   else be 4 p.rkey.toNat ++ be 5 p.offset.toNat ++ be 3 p.total.toNat ++ be 4 0)

/-- Bytes cut at 64 B boundaries from an offset: sector offset, sector, byte enables. -/
def spread (off : Nat) (bs : List Byte) : List (Nat × Sector × BitVec 64) :=
  let pre := off % 64
  let padded := List.replicate pre (0 : Byte) ++ bs
  let n := (padded.length + 63) / 64
  ((chunks 64 n padded).zipIdx).map fun (c, k) =>
    let lo := if k = 0 then pre else 0
    (off / 64 * 64 + k * 64, ofSecBytes c, BitVec.ofNat 64 (2 ^ c.length - 2 ^ lo))

/-- A byte range cut at the boundaries of 2^log2-byte spans (R419): start and length of each part. -/
def spans (log2 : Nat) : Nat → Nat → Nat → List (Nat × Nat)
  | 0, _, _ => []
  | k + 1, off, len =>
    if len = 0 then []
    else
      let room := 2 ^ log2 - off % 2 ^ log2
      let n := min room len
      (off, n) :: spans log2 k (off + n) (len - n)

def noConnDesc : ConnDesc := { init := false, tenant := 0, peerNode := 0, peerConn := 0, paths := [], holdMax := 0, dataLog2 := 13, txWindow := 0, msgWindow := 0 }
def freshRx : RxPhase := { base := 0, acc := [], ctlHigh := 0, ctlSeen := [] }

/-- The warden's bytes of a connection descriptor, CMN's fields as zero (R422). -/
def connPack (gen : Nat) (d : ConnDesc) : List Byte :=
  le 4 (gen * 2 ^ 25 + b2n d.init * 2 ^ 24 + d.tenant.toNat) ++ le 4 d.peerNode.toNat ++ le 4 d.peerConn.toNat ++
  le 4 ((d.paths.map fun p => 2 ^ p.1.val).foldl (· + ·) 0 * 65536 + d.holdMax.toNat * 256 + d.dataLog2.toNat) ++ List.replicate 20 0 ++
  le 4 (d.txWindow.toNat * 65536 + d.msgWindow.toNat) ++ List.replicate 84 0

def noConn : Conn := {
  state := .free, gen := 0, desc := noConnDesc, keys0 := none, keys1 := none, phase := false, nextReady := false, txPsn := 0, txCtl0 := 0, txCtl1 := 0,
  txMsn := 0, rx0 := freshRx, rx1 := freshRx, msnBase := 0, resolved := [], ceCount := 0, owed := 0, nacked := [], paths := [], unacked := [], txq := [],
  inits := [], tgts := [], holds := [], viol := 0, authFail := 0, authAt := [], check := crc32c (connPack 0 noConnDesc), freedAt := none }
def State.conn (s : State) (i : Nat) : Conn := (tget s.cmn.conns i).getD noConn
def State.putConn (s : State) (i : Nat) (c : Conn) : State := { s with cmn.conns := tset s.cmn.conns i c }
def State.modConn (s : State) (i : Nat) (f : Conn → Conn) : State := s.putConn i (f (s.conn i))

def Conn.rx (c : Conn) (phase : Bool) : RxPhase := if phase then c.rx1 else c.rx0
def Conn.setRx (c : Conn) (phase : Bool) (r : RxPhase) : Conn := if phase then { c with rx1 := r } else { c with rx0 := r }

/-- The free window of a path. -/
def Conn.room (c : Conn) (k : Nat) (p : PathRun) : Nat := p.window - (c.unacked.filter fun x => x.path == k).length

/-- The ACTIVE path with the most free window, the lowest number on a tie (R439); not the one to avoid while another is ACTIVE. -/
def Conn.pick (c : Conn) (avoid : Option Nat) : Option (Nat × PathRun) :=
  let act := c.paths.filter fun e => e.2.state == .active
  let act : Table PathRun := match avoid with
    | some a => if act.any (fun (e : Nat × PathRun) => e.1 != a) then act.filter (fun (e : Nat × PathRun) => e.1 != a) else act
    | none => act
  act.foldl (fun best e => match best with
    | none => some e
    | some b => if c.room b.1 b.2 < c.room e.1 e.2 then some e else best) none

/-- An empty packet of a connection. -/
def Conn.blank (c : Conn) : Packet := {
  eport := 0, sublink := 0, fcsOk := true, csumOk := true, udpLen := 48, ce := false, ver := 1, first := false, final := false, flagged := false, phase := c.phase,
  conn := c.desc.peerConn, plen := 0, psn := 0, msn := 0, rkey := 0, offset := 0, total := 0, claim := 0, moff := 0, status := 0, grp := 0, tagOk := true,
  poison := 0, enable := 0, data := [] }

end Sys2Proof.Machine

namespace Sys2Proof
/-- A packet on a path. -/
def Packet.via (p : Packet) (path : CmnPath) : Packet := { p with eport := path.eport, sublink := path.sublink, udpLen := 48 + p.plen.toNat }
end Sys2Proof

namespace Sys2Proof.Machine

/-- Send a frame: counted at its port, encrypted on a lane (R451). -/
def State.sendFrame (s : State) (op : Nat) (p : Packet) : State :=
  ((s.incMod CMP.TX_FRAMES 1 p.eport.val).laneJoin .cemanor p.plen.toNat 0).emit (.packet op p)

/-- The next control sequence of a phase (R424), and its use. -/
def Conn.txCtl (c : Conn) (phase : Bool) : Nat := if phase then c.txCtl1 else c.txCtl0
def Conn.ctlSent (c : Conn) (phase : Bool) : Conn := if phase then { c with txCtl1 := c.txCtl1 + 1 } else { c with txCtl0 := c.txCtl0 + 1 }

/-- Send a control packet on a path, or on the best one, numbered in the key phase it names (R420, R424). -/
def State.sendCtl (s : State) (i op : Nat) (path : Option Nat) (fill : Packet → Packet) : State :=
  let c := s.conn i
  let p := match path with
    | some k => (tget c.paths k).map fun r => r.path
    | none => match c.pick none with
      | some e => some e.2.path
      | none => c.paths.head?.map fun e => e.2.path
  match p with
  | some path =>
    let q := fill c.blank
    (s.putConn i (c.ctlSent q.phase)).sendFrame op (({ q with psn := BitVec.ofNat 32 (c.txCtl q.phase) } : Packet).via path)
  | none => s

/-- Whether a prepared packet may leave: its message is among the first MSG_WINDOW unresolved ones; a response always may. -/
def Conn.mayStart (c : Conn) (x : TxPkt) : Bool :=
  opResp x.op || ((c.inits.take c.desc.msgWindow.toNat).any fun m => m.msn == x.pkt.msn.toNat)

/-- Whether priority flow control holds an Ethernet port (R417). -/
def State.portPaused (s : State) (e : Nat) : Bool :=
  s.flag CMP.PFC_EN e && ((tget s.cmn.paused e).getD 0).testBit (s.get CMP.PFC_PRIO e)

/-- Send the prepared packets that the windows allow, numbering them from TX_PSN (R425, R438, R439), none while a packet waits for a cipher lane (R451). -/
def State.pump (i : Nat) : Nat → State → State
  | 0, s => s
  | k + 1, s =>
    let c := s.conn i
    match c.txq with
    | [] => s
    | x :: rest =>
      if !(c.state == .opened || c.state == .closing) || c.desc.txWindow.toNat ≤ c.unacked.length || !c.mayStart x || laneWaits s.cmn.cipher then s
      else if 0xFFFF_FFFF ≤ c.txPsn then (if bit (s.rd cmePage HDR.ERR_STAT) 19 then s else s.blkErr cmePage 19 4)
      else match c.pick none with
      | none => s
      | some (n, p) =>
        if c.room n p = 0 || s.portPaused p.path.eport.val then s
        else
          let y : TxPkt := { x with phase := c.phase, path := n, sends := 1, pkt := { x.pkt with phase := c.phase, psn := BitVec.ofNat 32 c.txPsn } }
          let s := s.putConn i { c with txq := rest, unacked := c.unacked ++ [y], txPsn := c.txPsn + 1 }
          let s := s.sendFrame y.op (y.pkt.via p.path)
          let s := if c.txPsn + 1 = s.get CME.REKEY_AT 4 then s.occur cmePage 32 3 (le 3 i) else s
          State.pump i k s

def State.cmnPump (s : State) (i : Nat) : State := State.pump i (s.conn i).txq.length s

/-- Resend an unacknowledged packet unchanged, on another path when one is ACTIVE (R421, R439); a packet sent RETX_MAX times stays. -/
def State.resend (s : State) (i : Nat) (psn : Nat) (phase : Bool) : State :=
  let c := s.conn i
  match c.unacked.find? fun x => x.pkt.psn.toNat == psn && x.phase == phase with
  | none => s
  | some x =>
    if s.get CME.RETX_MAX 4 ≤ x.sends then s
    else match c.pick (some x.path) with
    | none => s
    | some (n, p) =>
      let c := { c with
        unacked := c.unacked.map (fun y => if y.pkt.psn.toNat = psn ∧ y.phase = phase then { y with path := n, sends := y.sends + 1 } else y),
        paths := tmod c.paths x.path fun r => { r with window := max 4 (r.window / 2) } }
      (s.putConn i c).sendFrame x.op (x.pkt.via p.path)

/-- The tail of a data-bearing message's packets: one per data span (R419). bytes: the data; bad k: sector k of the message's range is poisoned. -/
def dataPackets (c : Conn) (op off : Nat) (bytes : List Byte) (poisonAt : Nat → Bool) (mk : Nat → Packet → Packet) : List TxPkt :=
  let log2 := c.desc.dataLog2.toNat
  let parts := spans log2 (bytes.length / 2 ^ log2 + 2) off bytes.length
  parts.zipIdx.map fun ((o, n), k) =>
    let data := (bytes.drop (o - off)).take n
    let base := o / 2 ^ log2 * 2 ^ log2
    let mask := (List.range 128).foldl (fun m j => if base + j * 64 + 64 ≤ o / 64 * 64 || o + n ≤ base + j * 64 then m else if poisonAt (base + j * 64) then m + 2 ^ j else m) 0
    let p : Packet := { c.blank with first := k == 0, final := k + 1 == parts.length, plen := BitVec.ofNat 16 (16 + n), poison := BitVec.ofNat 128 mask, data := data }
    { op := op, phase := c.phase, path := 0, sends := 0, pkt := mk o p }

/-- Start a message at the initiator (R438, R442): refused with ABORTED unless the connection is OPEN or DOWN with INIT = 1. Gives its MSN. -/
def State.msgStart (s : State) (i : Nat) (who : InitBy) (read flagged : Bool) (rkey off total : Nat) (pk : Conn → Nat → List TxPkt) : State × Option Nat :=
  let c := s.conn i
  if !(c.state == .opened || c.state == .down) || !c.desc.init then (s, none)
  else
    let msn := c.txMsn
    let m : InitMsg := { msn := msn, who := who, read := read, total := total, rkey := rkey, off := off, got := [], gotBytes := 0, worst := .ok }
    let fin (x : TxPkt) : TxPkt :=
      { x with pkt := { x.pkt with msn := BitVec.ofNat 32 msn, rkey := BitVec.ofNat 32 rkey, flagged := flagged,
                                   total := if x.pkt.final then BitVec.ofNat 24 total else 0 } }
    let s := s.putConn i { c with txMsn := (msn + 1) % 2 ^ 32, inits := c.inits ++ [m], txq := c.txq ++ (pk c msn).map fin }
    (s.cmnPump i, some msn)

/-- A WRITE message of bytes at a registration offset. -/
def State.sendWrite (s : State) (i : Nat) (who : InitBy) (flagged : Bool) (rkey off : Nat) (bytes : List Byte) (poisonAt : Nat → Bool) : State × Option Nat :=
  s.msgStart i who false flagged rkey off bytes.length fun c _ =>
    dataPackets c opWrite off bytes poisonAt fun o p => { p with offset := BitVec.ofNat 40 o }

/-- A WRITE_MASKED message of one sector (Table 13-2). -/
def State.sendMasked (s : State) (i : Nat) (who : InitBy) (rkey off : Nat) (d : Sector) (en : BitVec 64) (poison : Bool) : State × Option Nat :=
  s.msgStart i who false false rkey off 64 fun c _ =>
    [{ op := opMasked, phase := c.phase, path := 0, sends := 0,
       pkt := { c.blank with first := true, final := true, plen := 88, offset := BitVec.ofNat 40 off, enable := en, data := secBytes d,
                             poison := BitVec.ofNat 128 (if poison then 2 ^ (off % 2 ^ c.desc.dataLog2.toNat / 64) else 0) } }]

/-- A READ message of len bytes. -/
def State.sendRead (s : State) (i : Nat) (who : InitBy) (flagged : Bool) (rkey off len : Nat) : State × Option Nat :=
  s.msgStart i who true flagged rkey off len fun c _ =>
    [{ op := opRead, phase := c.phase, path := 0, sends := 0, pkt := { c.blank with first := true, final := true, offset := BitVec.ofNat 40 off } }]

/-- Queue responses of the target: dropped when the group is not served, else stamped with the claim (R386). -/
def State.respond (s : State) (i grp : Nat) (ps : List TxPkt) : State :=
  if !s.serves grp then s
  else
    let claim := s.get TWN.TWN_CLAIM_LOCAL 0 grp
    let ps := ps.map fun x => { x with pkt := { x.pkt with claim := BitVec.ofNat 64 claim, grp := Fin.ofNat 16 grp } }
    (s.modConn i fun c => { c with txq := c.txq ++ ps }).cmnPump i

end Sys2Proof.Machine
end

