-- ==== Sys2Proof/Machine/QeOps.lean ====
section
/-! DEFINITION. The operations of QE (05): queues, fetching, results, completion entries, notification, barriers, RAISE. -/
namespace Sys2Proof.Machine

def qePage : Page := pg .qe

def State.queue (s : State) (q : Nat) : Option QueueCtx := tget s.qe.queues q
def State.putQueue (s : State) (q : Nat) (c : QueueCtx) : State := { s with qe.queues := tset s.qe.queues q c }
def State.modQueue (s : State) (q : Nat) (f : QueueCtx → QueueCtx) : State := { s with qe.queues := tmod s.qe.queues q f }

/-- A queue error: ERROR, the first reason kept, recorded at severity 4 (R164). -/
def State.queueError (s : State) (q reason : Nat) : State :=
  match s.queue q with
  | some c =>
    if c.state = .error then s
    else (s.putQueue q { c with state := .error, errReason := reason }).misc qePage 4 (le 3 q ++ le 1 reason)
  | none => s

/-- Until Memory_Active the host ports answer CXL.mem as during a harvest (R29, R351; log entry 100). -/
def State.inactive (s : State) : Bool := s.frozen || !s.hp.memoryActive

/-- The page-map entry of a BAR0 page of an LD function (R138). -/
def pmapKey (port ld page : Nat) : Nat := (port * 16 + ld) * 2 ^ 20 + page
def State.dbEntry (s : State) (port ld page : Nat) : Option PageMap :=
  match tget s.qe.pmap (pmapKey port ld page) with
  | some e => if e.typ = 1 ∨ e.typ = 2 then some e else none
  | none => none

/-- A queue context never written. -/
def noQueue : QueueCtx :=
  { valid := false, state := .disabled, sclass := 0, weight := 0, tenant := 0, sqLog2 := 0, cqLog2 := 0, maxInflight := 0, ldSlot := 0, port := 0, ringHandle := 0, sqOff := 0, cqOff := 0,
    sqHead := 0, sqTail := 0, cqHead := 0, cqTail := 0, cqPhase := false, armed := false, vector := 0, coalCount := 0, coalTime := 0, cmdTimeout := 0, errReason := 0, inflight := 0,
    dbPage := 0, doneCnt := 0, check := 0, unnotified := 0 }

/-- The limits of Table 5-1: ring depths, commands in flight, ring offsets in pages. -/
def queueLimits (r : QueueReq) : Bool :=
  4 ≤ r.sqLog2.toNat && r.sqLog2.toNat ≤ 16 && 4 ≤ r.cqLog2.toNat && r.cqLog2.toNat ≤ 16 && 1 ≤ r.maxInflight.toNat && r.maxInflight.toNat ≤ 64 &&
  r.sqOff.toNat % 4096 == 0 && r.cqOff.toNat % 4096 == 0

/-- The warden writes its fields of a queue context (R136), within the limits of Table 5-1, while the queue is unused: not there or DISABLED, and of another tenant only while no page is mapped to it (R65, R138). -/
def State.queueSetup (s : State) (q : Nat) (r : QueueReq) : State :=
  let c := (s.queue q).getD noQueue
  let mapped := s.qe.pmap.any fun e => e.2.typ == 1 && e.2.id == q
  if (c.valid && c.state != .disabled) || (mapped && c.tenant != r.tenant.toNat) || (r.valid && !queueLimits r) then s
  else s.putQueue q (QueueCtx.seal { c with
    valid := r.valid, sclass := r.sclass.toNat, weight := r.weight.toNat, tenant := r.tenant.toNat, sqLog2 := r.sqLog2.toNat, cqLog2 := r.cqLog2.toNat, maxInflight := r.maxInflight.toNat,
    ldSlot := r.ldSlot.val, port := r.port.val, ringHandle := r.ringHandle.toNat, sqOff := r.sqOff.toNat, cqOff := r.cqOff.toNat, vector := r.vector.toNat,
    coalCount := r.coalCount.toNat, coalTime := r.coalTime.toNat, cmdTimeout := r.cmdTimeout.toNat, dbPage := r.dbPage.toNat })

/-- The warden writes a page-map entry (R138): a queue only on a page of an LD function bound to the queue's tenant. -/
def State.pageMapSet (s : State) (p l page : Nat) (e : PageReq) : State :=
  let put (t : Nat) : State := { s with qe.pmap := tset s.qe.pmap (pmapKey p l page) { typ := t, vecEn := e.vecEn, vector := e.vector.toNat, id := e.id.toNat } }
  match e.typ.toNat with
  | 0 => { s with qe.pmap := tdel s.qe.pmap (pmapKey p l page) }
  | 1 => (match s.queue e.id.toNat with
    | some c => if c.valid && s.flag HP.BOUND p l && c.tenant == s.get HP.TENANT p l then put 1 else s
    | none => s)
  | 2 => if e.id.toNat < 32768 then put 2 else s
  | _ => s

/-- Whether a logical device is unused, so that its binding may change (R65): no window of it is valid, no extent of it is there, no queue is mapped to its pages. -/
def State.ldUnused (s : State) (p l : Nat) : Bool :=
  !((List.range 32).any fun n => match tget s.xlt.windows (windowId p l n) with | some d => d.valid | none => false) &&
  !(s.xlt.extents.any fun e => e.2.port == p && e.2.ld == l && e.2.state != .free) &&
  !(s.qe.pmap.any fun e => e.1 / 2 ^ 20 == p * 16 + l && e.2.typ == 1)

def QueueCtx.sqDepth (c : QueueCtx) : Nat := 2 ^ c.sqLog2
def QueueCtx.cqDepth (c : QueueCtx) : Nat := 2 ^ c.cqLog2
/-- Completion entries written and not consumed. -/
def QueueCtx.cqUsed (c : QueueCtx) : Nat := (c.cqTail + c.cqDepth - c.cqHead) % c.cqDepth

/-- Raise the queue's vector and disarm (R162). -/
def State.notify (s : State) (q : Nat) : State :=
  match s.queue q with
  | some c => (s.putQueue q { c with armed := false, unnotified := 0 }).raiseVector c.port c.ldSlot false c.vector
  | none => s

/-! ## Commands in flight -/

def State.cmd (s : State) (q c : Nat) : Option Cmd := s.qe.cmds.find? fun x => x.qid == q && x.cmdId == c
/-- Change the commands of a queue that carry a CMD_ID. -/
def State.modCmd (s : State) (q c : Nat) (f : Cmd → Cmd) : State :=
  { s with qe.cmds := s.qe.cmds.map fun x => if x.qid = q ∧ x.cmdId = c then f x else x }

def okResult : CmdResult := { status := .ok, result0 := 0, detail := 0, prefixLen := 0 }
def failResult (st : Status) : CmdResult := { status := st, result0 := 0, detail := 0, prefixLen := 0 }

/-- Whether a command moves data by movers (R168). -/
def QCmd.moves : QCmd → Bool
  | .copy .. | .zero .. | .rwrite .. | .rread .. => true
  | _ => false

/-- Whether CMD_TIMEOUT applies (Table 5-5). -/
def QCmd.timed : QCmd → Bool
  | .copy .. | .zero .. | .persist .. | .raise .. | .evict .. | .rwrite .. | .rread .. => true
  | _ => false

/-- LENGTH of a command that has one. -/
def QCmd.len : QCmd → Option Nat
  | .copy _ _ _ _ len => some len.toNat
  | .zero _ _ len => some len.toNat
  | .persist _ _ len _ => some len.toNat
  | .raise _ _ len => some len.toNat
  | .evict _ _ len => some len.toNat
  | .regOpen _ _ len .. => some len.toNat
  | .rwrite _ _ _ _ _ len _ => some len.toNat
  | .rread _ _ _ _ _ len _ => some len.toNat
  | .sluice .. | .sluiceCancel _ | .regionCreate .. | .regionGrow .. | .regionDelete _ | .regionSet .. | .revoke _ | .abort _ | .nop => none

/-- The limits of R151: LENGTH from 1 to 2^40 − 1 (PERSIST may have 0), and no overlap of a COPY within one region. -/
def QCmd.formOk (c : QCmd) : Bool :=
  (match c.len with
   | some n => n < 2 ^ 40 && (1 ≤ n || (match c with | .persist .. => true | _ => false))
   | none => true) &&
  (match c with
   | .copy dst d src o len => !(handleId dst == handleId src && d.toNat < o.toNat + len.toNat && o.toNat < d.toNat + len.toNat)
   | .sluice _ off count .. => off.toNat % 64 == 0 && 1 ≤ count.toNat
   | _ => true)

/-- Whether QE can fetch an entry now (R149, R159, R164, R351): ACTIVE, an entry there, room in flight and in the CQ, no earlier command when FENCE is set. -/
def State.canFetch (s : State) (q : Nat) (c : QueueCtx) (fence : Bool) : Bool :=
  c.valid && c.state == .active && c.sqHead != c.sqTail && c.inflight < c.maxInflight && c.inflight + c.cqUsed + 1 < c.cqDepth && !s.frozen && !s.resting qePage && !s.resting xltPage &&
  !(fence && s.qe.cmds.any fun x => x.qid == q)

/-- Whether every mover is OFFLINE (R187). -/
def State.noMover (s : State) : Bool := (List.range 64).all fun m => s.flag MOV.OFFLINE m

/-- The command record of a fetched entry. -/
def State.newCmd (s : State) (q : Nat) (c : QueueCtx) (cmdId timeout : Nat) (notify : Bool) (cmd : QCmd) : Cmd := {
  qid := q, cmdId := cmdId, notify := notify, cmd := cmd, tenant := c.tenant, sclass := c.sclass, fetched := s.timeNs,
  timeout := if timeout = 0 then c.cmdTimeout else timeout, sqHeadAfter := (c.sqHead + 1) % c.sqDepth, low := 0, complete := [], steps := [], stop := false,
  fault := none, slow := .ok, poisoned := none, waitBlocks := [], refused := 0, raiseErr := none, ended := none, result := none, barrier := none,
  preempted := false, order := s.qe.nextOrder }

/-- Give a fetched command its result, unless it has one. -/
def State.done (s : State) (x : Cmd) (r : CmdResult) : State :=
  { s with qe.cmds := s.qe.cmds.map fun y => if y.order = x.order ∧ y.result.isNone then { y with result := some r } else y }

/-- What a read of the sector of a place returns: zero for a ZERO block (R71), the value in pan or frame where its unit is PRESENT, else what T2 holds. -/
def State.placeVal (s : State) (pl : Place64) : SectorVal :=
  if pl.bme.zero then zeroSec
  else match s.block (pbnOf pl.sector) with
  | some b => if b.unitPresent (unitOf pl.sector % 16) then s.secValue pl.sector else s.t2Read pl.sector
  | none => s.t2Read pl.sector

/-- Such a read looks in the pan first and fills a line on a miss (R234, R239), for QoS port 13 (Table 9-6). -/
def State.placeRead (s : State) (pl : Place64) : State × SectorVal :=
  let v := s.placeVal pl
  match s.block (pbnOf pl.sector) with
  | some b => if !pl.bme.zero && b.unitPresent (unitOf pl.sector % 16) then (s.panTouch pl.sector 1 true 13, v) else (s, v)
  | none => (s, v)

/-- Fetch an entry of a queue (R136, R140, R148, R151, R159): the ring's own checks, then the command in flight. QE reads the entry from the ring in pool memory: an entry that does not stand there is not fetched. The continuation gets the command and its fields when the entry is well formed and has the wanted opcode; an entry of another opcode is not this command. -/
def State.fetch (s : State) (q : Nat) (e : SqEntry) (op : Nat) (k : State → Cmd → State) : State :=
  match s.queue q with
  | none => s
  | some c =>
    let s0 := s
    if !(s.canFetch q c (e.getLsbD 15)) || (getAt e 0 8).toNat ≠ op then s
    else if !c.checkOk then s.queueError q 6
    else match s.walkQueue c.tenant (BitVec.ofNat 40 c.ringHandle) (c.sqOff + c.sqHead * 64) 64 false with
    | (s, .error .fenced) => s.queueError q 5
    | (s, .error _) => s.queueError q 3
    | (s, .ok d) =>
      match s.resolve (c.ringHandle / 65536) d (c.sqOff + c.sqHead * 64) with
      | (s, .error _) => s.queueError q 3
      | (s, .ok pl) =>
      let (s, v) := s.placeRead pl
      if v.poison then s.queueError q 3
      else if v.data ≠ e then s0 else
      let take (cmd : Cmd) (s : State) : State :=
        { s with qe := { s.qe with queues := tset s.qe.queues q { c with sqHead := (c.sqHead + 1) % c.sqDepth, inflight := c.inflight + 1 },
                                   cmds := s.qe.cmds ++ [cmd], nextOrder := s.qe.nextOrder + 1 } }
      match QEntry.decode e with
      | some x =>
        let cmd := s.newCmd q c x.cmdId.toNat x.timeout.toNat x.notify x.cmd
        let s := take cmd s
        if !x.cmd.formOk then s.done cmd (failResult .lengthError)
        else if x.cmd.moves && s.noMover then s.done cmd (failResult .internal)
        else k s cmd
      | none =>
        let cmd := { s.newCmd q c (getAt e 16 16).toNat 0 (e.getLsbD 14) .nop with result := some (failResult .lengthError) }
        take cmd s

/-! ## Completion (R153-R155, R162) -/

/-- The 32 bytes of a completion entry (R153). -/
def CqEntry.pack (e : CqEntry) : List Byte :=
  le 2 e.cmdId ++ le 1 e.status.code ++ le 1 (b2n e.phase * 128) ++ le 2 e.sqHead ++ le 2 0 ++ le 8 e.prefixLen ++ le 8 e.result0 ++ le 4 e.detail ++ le 4 e.elapsed

/-- Write a completion entry to the ring with one 32 B write (R143): none while it must wait for its block. -/
def State.cqWrite (s : State) (c : QueueCtx) (e : CqEntry) : State × Option (Except Status Unit) :=
  let off := c.cqOff + c.cqTail * 32
  match s.walkQueue c.tenant (BitVec.ofNat 40 c.ringHandle) off 32 true with
  | (s, .error st) => (s, some (.error st))
  | (s, .ok d) =>
    match s.resolve (c.ringHandle / 65536) d off with
    | (s, .error st) => (s, some (.error st))
    | (s, .ok pl) =>
      match spread off e.pack with
      | (_, v, en) :: _ =>
        match s.tryWrite { tenant := c.tenant, place := pl, data := v, enable := en, poison := false, alloc := true, whole := false, port := none, qos := 13 } with
        | (s, .accepted _) => (s, some (.ok ()))
        | (s, .held _) => (s, none)
        | (s, .refused st) => (s, some (.error st))
      | [] => (s, none)

/-- Post the completion of a command with its result (R154, R155, R162): the entry, CQ_TAIL and phase, INFLIGHT and DONE_CNT, the notification. A CQ write refused is a queue error (R164). -/
def State.post (s : State) (x : Cmd) (r : CmdResult) : State :=
  match s.queue x.qid with
  | none => { s with qe.cmds := s.qe.cmds.filter fun y => y.order != x.order }
  | some c =>
    let e : CqEntry := { cmdId := x.cmdId, status := r.status, phase := c.cqPhase, sqHead := x.sqHeadAfter, prefixLen := r.prefixLen,
                         result0 := r.result0, detail := r.detail, elapsed := min (2 ^ 32 - 1) ((s.timeNs - x.fetched) / 1000) }
    match s.cqWrite c e with
    | (s, none) => s
    | (s, some w) =>
      let c := (s.queue x.qid).getD c
      let s : State := { s with qe.cmds := s.qe.cmds.filter fun y => y.order != x.order }
      match w with
      | .error st =>
        let s := s.putQueue x.qid { c with inflight := c.inflight - 1 }
        s.queueError x.qid (if st = .fenced then 5 else 4)
      | .ok _ =>
        let wrap := c.cqTail + 1 = c.cqDepth
        let c := { c with cqTail := (c.cqTail + 1) % c.cqDepth, cqPhase := if wrap then !c.cqPhase else c.cqPhase, inflight := c.inflight - 1,
                          doneCnt := (c.doneCnt + 1) % 2 ^ 64, unnotified := c.unnotified + 1 }
        let s := (s.putQueue x.qid c).emit (.cq x.qid e)
        if c.armed && (c.coalCount ≤ c.unnotified || x.notify) then s.notify x.qid else s

/-! ## Barriers (R15-R19) -/

/-- The blocks of regions that the resync map marks: what a twin that was SOLO accepted there is not on the partner yet (R403). -/
def State.rsmOf (s : State) (regions : List Nat) : List Nat :=
  s.twn.rsm.filter fun p => s.xlt.bmap.any fun e => regions.contains (e.1 / 2 ^ 32) && e.2.pbn == p

/-- Whether a block of a list still waits for resync: a source's marked block (R15, R405, R407). -/
def State.rsmWaits (s : State) (blocks : List Nat) : Bool := s.role == roleSrc && blocks.any fun p => s.twn.rsm.contains p

/-- The blocks of class D regions among these that wait for resync: of the other classes a barrier waits for acknowledgements only (R15, R17). -/
def State.rsmClassD (s : State) (regions : List Nat) : List Nat := s.rsmOf (regions.filter fun r => (s.regionAt r).pclass == 1)

/-- Issue a barrier over regions and byte ranges: it covers the mirror records of class M and class D writes there that wait for their acknowledgement, and the class D blocks there that wait for resync. -/
def State.barrierIssue (s : State) (who : BarrierBy) (regions : List Nat) (inRange : MirrorRec → Bool) (inBlock : Nat → Bool) : State × Nat :=
  let id := s.qe.nextBarrier
  let b : Barrier := {
    id := id, who := who, regions := regions, groups := regions.map fun r => (s.regionAt r).grp,
    covered := (s.twn.replay.filter fun r => !r.acked && regions.contains r.region && inRange r).map fun r => r.id,
    blocks := ((match who with | .classChange .. => s.rsmOf regions | .command .. | .flush .. => s.rsmClassD regions).filter inBlock) }
  ({ s with qe := { s.qe with barriers := s.qe.barriers ++ [b], nextBarrier := id + 1 } }, id)

/-- Whether a barrier is fenced (R19): the twin does not serve a group it covers. A PERSIST over ALL ends FENCED as a whole when one of its groups is the partner's (DESIGN CHOICE, log entry 94). -/
def State.barrierFenced (s : State) (b : Barrier) : Bool := b.groups.any fun g => !s.serves g

/-- Whether a barrier issued before place id, of any form of Table 1-3, is open on one of the regions (R18). A GPF has its place from its coverage point on (DEDUCED, log entry 94). -/
def State.barrierBefore (s : State) (id : Nat) (regions : List Nat) : Bool :=
  (s.qe.barriers.any fun x => x.id < id && x.regions.any fun r => regions.contains r) ||
  s.hp.lds.any fun e => match e.2.gpf with
    | some g => g.id < id && g.regions.any fun r => regions.contains r
    | none => false

/-- Whether a barrier can end: what it covers is acknowledged or resynchronised, or its group is fenced, and no earlier barrier on its regions is open (R15, R18, R19). -/
def State.barrierReady (s : State) (b : Barrier) : Bool :=
  (s.barrierFenced b || !((b.covered.any fun m => s.mirrorOpen (some m)) || s.rsmWaits b.blocks)) && !s.barrierBefore b.id b.regions

/-! ## RAISE (R201) -/

/-- The first error of a RAISE in offset order, with its place (R156). -/
def firstErr (e : Option (Nat × Status)) (k : Nat) (st : Status) : Option (Nat × Status) :=
  match e with
  | some (j, old) => if j ≤ k then some (j, old) else some (k, st)
  | none => some (k, st)

/-- A fill of a block failed: every RAISE that waits for the block ends MEDIA_ERROR (R201). -/
def State.raiseFail (s : State) (p : Nat) : State :=
  { s with qe.cmds := s.qe.cmds.map fun x => { x with raiseErr := (x.waitBlocks.filter fun e => e.2 == p).foldl (fun a e => firstErr a e.1 .mediaError) x.raiseErr } }

/-- Look again at what every RAISE waits for: a block that is neither RISING nor waiting for a frame is done (R201). -/
def State.raiseSweep (s : State) : State :=
  { s with qe.cmds := s.qe.cmds.map fun x =>
      match x.cmd with
      | .raise .. =>
        if x.result.isSome then x else
        let still := x.waitBlocks.filter fun e => match s.block e.2 with | some b => b.state == .rising | none => s.tier.frameWait.any fun w => w.pbn == e.2
        { x with waitBlocks := still,
                 result := if still.isEmpty then some { status := (x.raiseErr.map Prod.snd).getD .ok, result0 := 0, detail := x.refused, prefixLen := 0 } else none }
      | _ => x }

/-- The blocks of a byte range. -/
def rangeBlocks (off len : Nat) : List Nat := (List.range ((off + len - 1) / blkBytes + 1 - off / blkBytes)).map fun k => off / blkBytes + k

end Sys2Proof.Machine
end

