-- ==== Sys2Proof/Machine/MovOps.lean ====
section
/-! DEFINITION. The operations of the movers (06): steps, WALK and MOVE, parking, faults, settling a command. -/
namespace Sys2Proof.Machine

def movPage (m : Nat) : Page := pg .mov m

/-- Mover states (Table 6-5). -/
def movIdle : Nat := 0
def movWalk : Nat := 1
def movMove : Nat := 2
def movWait : Nat := 3
def movOffline : Nat := 4

/-- Start and length of the destination space (R169). -/
def QCmd.dest : QCmd → Nat × Nat
  | .copy _ d _ _ len => (d.toNat, len.toNat)
  | .zero _ off len => (off.toNat, len.toNat)
  | .rwrite _ _ _ _ roff len _ => (roff.toNat, len.toNat)
  | .rread _ off _ _ _ len _ => (off.toNat, len.toNat)
  | _ => (0, 0)

/-- Steps of a command (R169). -/
def QCmd.stepCount (c : QCmd) : Nat := let (o, n) := c.dest; if n = 0 then 0 else (o + n - 1) / blkBytes + 1 - o / blkBytes
/-- Destination offset of the start of step k, and its length. -/
def QCmd.stepStart (c : QCmd) (k : Nat) : Nat := let (o, _) := c.dest; if k = 0 then o else (o / blkBytes + k) * blkBytes
def QCmd.stepLen (c : QCmd) (k : Nat) : Nat := let (o, n) := c.dest; min ((o / blkBytes + k + 1) * blkBytes) (o + n) - c.stepStart k

/-- The fault class of a status (Table 6-2). -/
def faultClass : Status → Nat
  | .accessViolation | .keyStale => 0x3
  | .keyRevoked => 0x4
  | .mediaReadOnly | .mediaError => 0x5
  | .fenced => 0x6
  | .quotaExceeded => 0x7
  | .internal => 0x9
  | .timeout | .incompleteMessage | .authFail | .lengthError | .ok | .okSubstituted | .okSlowPath | .retainedShared | .aborted => 0xA

def Cmd.setStep (x : Cmd) (r : StepRec) : Cmd := { x with steps := x.steps.filter (fun y => y.index != r.index) ++ [r] }
def Cmd.step (x : Cmd) (k : Nat) : Option StepRec := x.steps.find? fun r => r.index == k
def freshStep (k : Nat) (st : StepState) : StepRec := { index := k, state := st, moverRetry := false, remoteRetry := false, avoid := none, slow := .ok, ran := match st with | .running m | .waiting m => m | .parked | .ready | .issued .. => 0, got := [], dst := noRegion, src := noRegion }

/-- Advance LOW over complete steps (R174). -/
def advance : Nat → Nat → List Nat → Nat
  | 0, low, _ => low
  | k + 1, low, done => if done.contains low then advance k (low + 1) done else low

/-- A step reaches COMPLETE. -/
def Cmd.complete1 (x : Cmd) (k : Nat) : Cmd :=
  let done := if x.complete.contains k then x.complete else x.complete ++ [k]
  let low := advance (done.length + 1) x.low done
  { x with steps := x.steps.filter (fun y => y.index != k), complete := done.filter (fun j => low ≤ j), low := low }

/-- A source sector of a step has been written poisoned (R182). -/
def Cmd.poison (x : Cmd) (k : Nat) : Cmd := { x with poisoned := some (match x.poisoned with | some j => min j k | none => k) }

/-- Whether a step holds up the completion: running, waiting in place, or issued (R155, R181). -/
def StepState.busy : StepState → Bool
  | .running _ | .waiting _ | .issued .. => true
  | .parked | .ready => false

/-- Whether a step goes on after STOP (R181): one that is busy, and one of an RREAD whose data has come and is still to be written. -/
def Cmd.goesOn (x : Cmd) (r : StepRec) : Bool :=
  r.state.busy || (r.state == .ready && !r.got.isEmpty && (match x.cmd with | .rread .. => true | _ => false))

/-- CLEAN_PREFIX (R175). -/
def Cmd.cleanPrefix (x : Cmd) : Nat := if x.cmd.stepCount ≤ x.low then x.cmd.dest.2 else x.cmd.stepStart x.low - x.cmd.dest.1

/-- The result of a mover command once it has settled (R156, R158, R175, R181, R182): the error of the lowest step that met one, a terminal fault in a step before a poisoned sector of it (DEDUCED, log entry 101), else what ended it. DETAIL is the destination block of that step, of a remote command the status the target reported where it did (R181, Table 5-5; DEDUCED, log entry 101). -/
def Cmd.moveResult (x : Cmd) : CmdResult :=
  let remote := match x.cmd with | .rwrite .. | .rread .. => true | _ => false
  let media (k : Nat) : CmdResult := { status := .mediaError, result0 := 0, detail := x.cmd.stepStart k / blkBytes, prefixLen := x.cleanPrefix }
  match x.fault, x.poisoned with
  | some (j, st, detail), p =>
    (match p with
     | some k => if k < j then media k else { status := st, result0 := 0, detail := detail, prefixLen := x.cleanPrefix }
     | none => { status := st, result0 := 0, detail := detail, prefixLen := x.cleanPrefix })
  | none, p =>
    match x.ended, p with
    | some st, _ => { status := st, result0 := 0, detail := 0, prefixLen := x.cleanPrefix }
    | none, some k => media k
    | none, none => { status := x.slow, result0 := 0, detail := if remote then x.slow.code else 0, prefixLen := x.cleanPrefix }

/-- Settle a mover command: with STOP set, parked and ready steps are cancelled, and once nothing is busy the result stands; without it, once every step is COMPLETE (R181). -/
def Cmd.settle (x : Cmd) : Cmd :=
  if !x.cmd.moves || x.result.isSome then x
  else
    let x := if x.stop then { x with steps := x.steps.filter x.goesOn } else x
    if (x.stop && x.steps.isEmpty) || x.cmd.stepCount ≤ x.low then { x with result := some x.moveResult } else x

/-- Whether a step is stalled: parked, or waiting in place. -/
def State.stalledStep (s : State) (q c k : Nat) : Bool :=
  match (s.cmd q c).bind fun x => x.step k with
  | some r => (match r.state with | .parked | .waiting _ => true | .running _ | .ready | .issued .. => false)
  | none => false

/-- Reads that a cancelled or finished step no longer waits for are dropped (Table 6-3), and the place in the holds of a step that is no more. -/
def State.pruneReads (s : State) : State :=
  { s with tier.reads := s.tier.reads.filter fun r => match r.who with
      | .step q c k => s.stalledStep q c k
      | .cxl .. | .cmn .. | .mailbox .. => true,
           mov.holds := s.mov.holds.filter fun h => match (s.cmd h.1 h.2.1).bind fun x => x.step h.2.2 with
      | some r => (match r.state with | .issued .. => false | .parked | .waiting _ | .running _ | .ready => true)
      | none => false }

/-- Record a fault class in a mover's registers (Table 6-5). -/
def State.moverShows (s : State) (m cls st foff : Nat) : State := ((s.put MOV.LAST_FCLASS cls m).put MOV.LAST_STATUS st m).put MOV.LAST_FOFF foff m
/-- Record a fault in a mover's registers, counted (Table 6-5). -/
def State.moverFault (s : State) (m cls st foff : Nat) : State := (s.moverShows m cls st foff).inc MOV.FAULT_CNT 1 m

/-- The region that a command's steps write here, if they write here. -/
def QCmd.destRegion : QCmd → Option Nat
  | .copy h .. | .zero h .. | .rread h .. => some (handleId h)
  | _ => none

/-- The block that a region has at a block index. -/
def State.blockOf (s : State) (region blk : Nat) : Option Nat := (tget s.xlt.bmap (bmeKey region blk)).map fun b => b.pbn

/-- The stalled steps that write a block. -/
def State.stalledOnBlock (s : State) (p : Nat) : List (Cmd × StepRec) :=
  s.qe.cmds.flatMap fun x => (x.steps.filter fun r => (match r.state with | .parked | .waiting _ => true | .running _ | .ready | .issued .. => false) &&
    (match x.cmd.destRegion with | some g => s.blockOf g (x.cmd.stepStart r.index / blkBytes) == some p | none => false)).map fun r => (x, r)

/-- Whether a write waits for a block: a held write, or a stalled step. -/
def State.writeWaits (s : State) (p : Nat) : Bool :=
  (s.tier.held.any fun w => s.blockOf w.region (w.off / blkBytes) == some p) || !(s.stalledOnBlock p).isEmpty

/-- A block for which no write waits any more, with no pin and no DIRTY unit, loses the charge that a write took (R196). -/
def State.settleAll (s : State) : State :=
  s.tier.blocks.foldl (fun s e => if e.2.state = .rising || e.2.charge.isNone || s.writeWaits e.1 then s else s.settle e.1) s

/-- Settle every command and prune: a step that STOP ends is recorded in class STOP, uncounted (Table 6-2, Table 6-5). -/
def State.movSettle (s : State) : State :=
  let cut := (s.qe.cmds.filter fun x => x.stop && x.result.isNone).flatMap fun x => (x.steps.filter fun r => !x.goesOn r).map fun r => (r.ran, x.moveResult.status.code, x.cmd.stepStart r.index)
  let s := cut.foldl (fun s t => s.moverShows t.1 0xB t.2.1 t.2.2) s
  ({ s with qe.cmds := s.qe.cmds.map Cmd.settle }).pruneReads.settleAll

/-- A mover goes OFFLINE: while fewer than eight remain, each further transition is recorded at severity 6 (R187). -/
def State.moverOff (s : State) (m : Nat) : State :=
  let left := ((List.range 64).filter fun j => !s.flag MOV.OFFLINE j).length
  let s := (s.put MOV.OFFLINE 1 m).put MOV.STATE movOffline m
  if left < 8 then s.misc (movPage m) 6 (le 1 m) else s

/-- A mover goes back to IDLE, or OFFLINE where OFFLINE was written during the step (Table 6-3). -/
def State.moverFree (s : State) (m : Nat) : State :=
  let s : State := { s with mov.runs := tdel s.mov.runs m }
  if s.mov.offlineNext.contains m then ({ s with mov.offlineNext := s.mov.offlineNext.filter fun x => x != m }).moverOff m
  else s.put MOV.STATE movIdle m

/-- A terminal fault of a step in a class (R181): the mover that ran it records it, one that waits in place is free; STOP, and the status of the lowest faulting step, unless a timeout or ABORT has ended the command in an earlier cycle (R157, R158, Table 6-3). target: the target has reported it. -/
def State.stepFaultAs (s : State) (cls q c k : Nat) (st : Status) (target : Bool := false) : State :=
  match (s.cmd q c).bind fun x => (x.step k).map fun r => (x, r) with
  | none => s
  | some (x, r) =>
    let start := x.cmd.stepStart k
    let s := s.moverFault r.ran cls st.code start
    let s := match r.state with | .waiting m => s.moverFree m | .running _ | .parked | .ready | .issued .. => s
    let detail := if target then st.code else start / blkBytes
    let now := s.timeNs
    let s := s.modCmd q c fun x =>
      { x with stop := true, steps := x.steps.filter (fun r => r.index != k), faultAt := now,
               fault := match x.fault with
                 | some (j, a, b) => if j ≤ k then some (j, a, b) else some (k, st, detail)
                 | none => if x.ended.isSome && x.endedAt != now then none else some (k, st, detail) }
    s.movSettle

/-- A terminal fault of a step (R181), in the class of its status. -/
def State.stepFault (s : State) (q c k : Nat) (st : Status) : State := s.stepFaultAs (faultClass st) q c k st

/-- A source sector of a step is written poisoned and the step goes on (R182): the fault is recorded in class MEDIA (R178). -/
def State.mediaGoesOn (s : State) (q c k : Nat) : State :=
  match (s.cmd q c).bind fun x => (x.step k).map fun r => (x, r) with
  | some (x, r) => (s.moverFault r.ran 0x5 Status.mediaError.code (x.cmd.stepStart k)).modCmd q c fun x => x.poison k
  | none => s

/-- Parked steps now. -/
def State.parkedCount (s : State) : Nat := (s.qe.cmds.map fun x => (x.steps.filter fun r => r.state == .parked).length).foldl (· + ·) 0

/-- A stall (R179, R180): the step parks and frees its mover, or with no slot free the mover waits in place. One of class HOLD takes its place in the arrival order; after STOP it ends. -/
def State.stall (s : State) (m q c k cls : Nat) : State :=
  let start := match s.cmd q c with | some x => x.cmd.stepStart k | none => 0
  let s := s.moverFault m cls 0 start
  let s : State := if cls = 2 && !s.mov.holds.contains (q, c, k) then { s with mov.holds := s.mov.holds ++ [(q, c, k)] } else s
  if s.parkedCount < 4096 then
    let s := s.modCmd q c fun x => match x.step k with | some r => x.setStep { r with state := .parked } | none => x
    let n := s.parkedCount
    let s := if s.get MOV.PARK_PEAK < n then s.put MOV.PARK_PEAK n else s
    (s.moverFree m).movSettle
  else
    let s := s.modCmd q c fun x => match x.step k with | some r => x.setStep { r with state := .waiting m } | none => x
    (s.inc MOV.PARK_FULL_CNT).put MOV.STATE movWait m

/-! ## WALK and MOVE (R172) -/

/-- The checks of WALK for a step: destination and source, whole (R87). Gives the descriptors under which the step goes on (R74). -/
def State.walkStep (s : State) (x : Cmd) (k : Nat) : State × Except Status (Region × Region) :=
  let start := x.cmd.stepStart k
  let n := x.cmd.stepLen k
  let rel := start - x.cmd.dest.1
  let into (r : State × Except Status Region) : State × Except Status (Region × Region) := match r with | (s, .error st) => (s, .error st) | (s, .ok d) => (s, .ok (d, noRegion))
  let from' (d : Region) (r : State × Except Status Region) : State × Except Status (Region × Region) := match r with | (s, .error st) => (s, .error st) | (s, .ok x) => (s, .ok (d, x))
  match x.cmd with
  | .copy dst _ src so _ =>
    (match s.walkQueue x.tenant dst start n true with
     | (s, .error st) => (s, .error st)
     | (s, .ok d) => from' d (s.walkQueue x.tenant src (so.toNat + rel) n false))
  | .zero h .. => into (s.walkQueue x.tenant h start n true)
  | .rwrite h off .. => from' noRegion (s.walkQueue x.tenant h (off.toNat + rel) n false)
  | .rread h .. => into (s.walkQueue x.tenant h start n true)
  | _ => (s, .ok (noRegion, noRegion))

/-- The group a step writes locally, if a handoff holds it (R409). -/
def State.stepHeldByHandoff (s : State) (x : Cmd) : Bool :=
  match x.cmd with
  | .copy h .. | .zero h .. | .rread h .. => s.twn.handoff.contains (s.regionAt (handleId h)).grp
  | _ => false

/-- What reading a step's source gives: an error of check 8, a miss, or the sectors by region offset. -/
inductive SrcRes where
  | err (st : Status)
  | miss
  | vals (t : Table SectorVal)
deriving DecidableEq, Repr

/-- Read the source sectors of a byte range once each (R173); sectors a cheaper path delivered are taken from got. -/
def State.readRange (s : State) (tenant region : Nat) (d : Region) (off len : Nat) (who : RdBy) (got : Table SectorVal) : State × SrcRes :=
  let n := (off % 64 + len + 63) / 64
  (List.range n).foldl (fun (a : State × SrcRes) j =>
    let o := off / 64 * 64 + j * 64
    match a.2 with
    | .err st => (a.1, .err st)
    | _ =>
      match tget got o with
      | some v => (a.1, match a.2 with | .vals t => .vals (tset t o v) | r => r)
      | none =>
        match a.1.resolve region d o with
        | (s, .error st) => (s, .err st)
        | (s, .ok pl) =>
          match s.readStart { place := pl, who := who, tenant := tenant, train := none, window := 0, dpa := o } with
          | (s, none) => (s, .miss)
          | (s, some (.value v _)) => (s, match a.2 with | .vals t => .vals (tset t o v) | r => r)
          | (s, some (.subst dd fl)) =>
            let s := match who with | .step q c _ => if fl then s.modCmd q c fun x => { x with slow := .okSubstituted } else s | .cxl .. | .cmn .. | .mailbox .. => s
            (s, match a.2 with | .vals t => .vals (tset t o { data := dd, poison := false }) | r => r)
          | (s, some (.error st)) =>
            -- an unrecoverable sector (R182, R292)
            if st = .mediaError && d.pathMask.getLsbD 0 then
              let s := match who with | .step q c k => s.mediaGoesOn q c k | .cxl .. | .cmn .. | .mailbox .. => s
              (s, match a.2 with | .vals t => .vals (tset t o { data := 0, poison := true }) | r => r)
            else (s, .err st))
    (s, .vals [])

/-- The bytes of a range out of its sectors, and whether a byte's sector is poisoned. -/
def rangeBytes (t : Table SectorVal) (off len : Nat) : List Byte :=
  let n := (off % 64 + len + 63) / 64
  (((List.range n).flatMap fun j => secBytes ((tget t (off / 64 * 64 + j * 64)).getD zeroSec).data).drop (off % 64)).take len
def poisonIn (t : Table SectorVal) (off len : Nat) : Bool := t.any fun e => e.2.poison && e.1 < off + len && off < e.1 + 64

/-- What writing a range gave. -/
inductive DstRes where
  | err (st : Status)
  | hold
  | done (mirrors : List Nat)
deriving DecidableEq, Repr

/-- Write bytes at a region offset sector by sector (R87, R237). bad lo hi: the source of those bytes of the range is poisoned. -/
def State.writeRange (s : State) (tenant region : Nat) (d : Region) (off : Nat) (bytes : List Byte) (bad : Nat → Nat → Bool) (lines : Bool) : State × DstRes :=
  (spread off bytes).foldl (fun (a : State × DstRes) (o, v, en) =>
    match a.2 with
    | .done ms =>
      (match a.1.resolve region d o with
       | (s, .error st) => (s, .err st)
       | (s, .ok pl) =>
         let lo := max o off - off
         let hi := min (o + 64) (off + bytes.length) - off
         let whole := off ≤ o / 4096 * 4096 && o / 4096 * 4096 + 4096 ≤ off + bytes.length
         let line := lines && off ≤ o / 128 * 128 && o / 128 * 128 + 128 ≤ off + bytes.length
         match s.tryWrite { tenant := tenant, place := pl, data := v, enable := en, poison := bad lo hi, alloc := line, whole := whole, port := none, qos := 10, line := line } with
         | (s, .accepted m) => (s, .done (ms ++ (if d.pclass = 0 then m.toList else [])))
         | (s, .held _) => (s, .hold)
         | (s, .refused st) => (s, .err st))
    | r => (a.1, r)) (s, .done [])

/-- The end of MOVE with everything written: ISSUED while class M records wait, else COMPLETE (R172). -/
def State.stepWritten (s : State) (m q c k : Nat) (mirrors : List Nat) : State :=
  let open' := mirrors.filter fun x => s.mirrorOpen (some x)
  let s := s.modCmd q c fun x => if open'.isEmpty then x.complete1 k else (match x.step k with | some r => x.setStep { r with state := .issued open' none } | none => x)
  ((s.incMod MOV.STEPS_DONE 1 m).moverFree m).movSettle

/-- A step's message went out: ISSUED until the target reports. One that only asks for data is not at the end of its MOVE (STEPS_DONE). -/
def State.stepSent (s : State) (m q c k conn : Nat) (msn : Option Nat) (moved : Bool) : State :=
  match msn with
  | none => (s.moverFree m).stepFault q c k .aborted
  | some msn =>
    let s := s.modCmd q c fun x => match x.step k with | some r => x.setStep { r with state := .issued [] (some (conn, msn)), got := [] } | none => x
    (if moved then s.incMod MOV.STEPS_DONE 1 m else s).moverFree m

/-- A fault found by a mover in WALK or MOVE: the mover is free and the fault is terminal. -/
def State.moverStop (s : State) (m q c k : Nat) (st : Status) : State := (s.moverFree m).stepFault q c k st

/-- Whether an earlier step of the queue is held: a write to a class that can be held waits behind it (R20). -/
def State.heldAhead (s : State) (q c k : Nat) : Bool := match s.mov.holds.find? fun h => h.1 == q with | some h => h != (q, c, k) | none => false

/-- Whether the hold of a stalled step is over (R178, R179): it is the first of its queue, no handoff holds its group, and its destination would take its bytes now. -/
def State.holdOver (s : State) (x : Cmd) (k : Nat) : Bool :=
  !s.heldAhead x.qid x.cmdId k && !s.stepHeldByHandoff x &&
  (match x.cmd with
   | .copy h .. | .zero h .. | .rread h .. =>
     (match s.writeRange x.tenant (handleId h) (s.regionAt (handleId h)) (x.cmd.stepStart k) (List.replicate (x.cmd.stepLen k) 0) (fun _ _ => false) false with
      | (_, .hold) => false
      | (_, .err _) | (_, .done _) => true)
   | _ => true)

/-- MOVE of a step under the descriptors that WALK has checked (R74, R172, R173, R236, R237, R442). -/
def State.moveStep (s : State) (m q c k : Nat) (x : Cmd) (r : StepRec) : State :=
  let start := x.cmd.stepStart k
  let n := x.cmd.stepLen k
  let rel := start - x.cmd.dest.1
  let write (s : State) (h : BitVec 40) (bytes : List Byte) (bad : Nat → Nat → Bool) (lines : Bool) : State :=
    if r.dst.pclass < 2 && s.heldAhead q c k then s.stall m q c k 0x2
    else match s.writeRange x.tenant (handleId h) r.dst start bytes bad lines with
    | (s, .err st) => s.moverStop m q c k st
    | (s, .hold) => s.stall m q c k 0x2
    | (s, .done ms) => s.stepWritten m q c k ms
  match x.cmd with
  | .zero h .. => write s h (List.replicate n 0) (fun _ _ => false) true
  | .copy dst _ src so _ =>
    let off := so.toNat + rel
    (match s.readRange x.tenant (handleId src) r.src off n (.step q c k) r.got with
     | (s, .err st) => s.moverStop m q c k st
     | (s, .miss) => s.stall m q c k 0x1
     | (s, .vals t) => write s dst (rangeBytes t off n) (fun lo hi => poisonIn t (off + lo) (hi - lo)) false)
  | .rwrite h o conn rkey _ _ fl =>
    let off := o.toNat + rel
    (match s.readRange x.tenant (handleId h) r.src off n (.step q c k) r.got with
     | (s, .err st) => s.moverStop m q c k st
     | (s, .miss) => s.stall m q c k 0x1
     | (s, .vals t) =>
       let (s, msn) := s.sendWrite (conn.toNat / 16) (.step q c k) fl rkey.toNat start (rangeBytes t off n) fun a => poisonIn t (off + (max a start - start)) (64 - (start - min a start))
       s.stepSent m q c k (conn.toNat / 16) msn true)
  | .rread h _ conn rkey roff _ fl =>
    if r.got.isEmpty then
      let (s, msn) := s.sendRead (conn.toNat / 16) (.step q c k) fl rkey.toNat (roff.toNat + rel) n
      s.stepSent m q c k (conn.toNat / 16) msn false
    else write s h (rangeBytes r.got start n) (fun lo hi => poisonIn r.got (start + lo) (hi - lo)) false
  | _ => s.moverFree m

/-- A step abandoned for a mover fault (R183, R187): the failing mover goes OFFLINE, recorded at severity 5; the step is run again once on another mover, and a second fault of it is terminal. -/
def State.moverBroken (s : State) (m q c k : Nat) : State :=
  let start := match s.cmd q c with | some x => x.cmd.stepStart k | none => 0
  let s : State := { s with mov := { s.mov with runs := tdel s.mov.runs m, offlineNext := s.mov.offlineNext.filter fun x => x != m } }
  let s := (s.moverOff m).blkErr (movPage m) 16 5
  match (s.cmd q c).bind fun x => x.step k with
  | some r =>
    if r.moverRetry then (s.blkErr (movPage m) 17 4).stepFaultAs 0x8 q c k .internal
    else ((s.moverFault m 0x8 0 start).modCmd q c fun x => x.setStep { r with state := .ready, moverRetry := true, avoid := some m }).movSettle
  | none => s.moverFault m 0x8 0 start

/-- The lowest step of a command that runs again, for a mover: a stall of it is over, or it is retried (R179, R183); after STOP one that still goes on. -/
def Cmd.rerun (x : Cmd) (m : Nat) : Option Nat :=
  (ascending ((x.steps.filter fun r => r.state == .ready && r.avoid != some m && (!x.stop || x.goesOn r)).map fun r => r.index)).head?

/-- The step of a command that a mover claims: one that runs again, else the lowest unclaimed one in the window of 64 from LOW (R171, R179). -/
def Cmd.claimable (x : Cmd) (m : Nat) : Option Nat :=
  if x.result.isSome || !x.cmd.moves then none
  else (x.rerun m).or (if x.stop then none
    else (List.range 64).map (x.low + ·) |>.find? fun k => k < x.cmd.stepCount && !x.complete.contains k && (x.step k).isNone)

/-- Movers that work on a command now. -/
def State.moversOn (s : State) (x : Cmd) : Nat := (s.mov.runs.filter fun e => e.2.qid = x.qid ∧ e.2.cmdId = x.cmdId).length

/-- The command that a mover between two steps stays with: one that still has a step for it (R160, R171). -/
def State.keptFor (s : State) (m : Nat) : Option Cmd :=
  (tget s.mov.kept m).bind fun k => (s.cmd k.1 k.2).bind fun x => if (x.claimable m).isSome then some x else none

/-- Whether a command may have one more mover (R171). -/
def State.wantsMover (s : State) (x : Cmd) (m : Nat) : Bool := (x.claimable m).isSome && s.moversOn x < s.get MOV.MAX_PER_CMD

/-- Whether work of a better class waits for a mover (Table 5-8). -/
def State.betterWaits (s : State) (m : Nat) (cls : Nat) : Bool := s.qe.cmds.any fun y => y.sclass < cls && s.wantsMover y m

/-- The queue whose turn it is in a round robin that stands at a queue number. -/
def turnOf (qs : List Nat) (next : Nat) : Option Nat := ((ascending qs).find? fun q => next ≤ q).or (ascending qs).head?

/-- Whether a command has its turn within its class (R160, R179, Table 5-8): a step that runs again goes before the others of the class; then class 0 takes its queues in turn, class 2 by WEIGHT, in steps. -/
def State.myTurn (s : State) (m : Nat) (x : Cmd) : Bool :=
  let peers := s.qe.cmds.filter fun y => y.sclass == x.sclass && s.wantsMover y m
  let qs := peers.map fun y => y.qid
  if peers.any fun y => (y.rerun m).isSome then (x.rerun m).isSome
  else if x.sclass = 0 then turnOf qs s.qe.urgentNext == some x.qid
  else if x.sclass = 2 then
    (if qs.contains s.qe.bulkQueue && 0 < s.qe.bulkLeft then s.qe.bulkQueue == x.qid else turnOf qs (s.qe.bulkQueue + 1) == some x.qid)
  else true

/-- A queue of a class has been served a step. -/
def State.turnTaken (s : State) (q cls : Nat) : State :=
  if cls = 0 then { s with qe.urgentNext := q + 1 }
  else if cls = 2 then
    (if s.qe.bulkQueue = q && 0 < s.qe.bulkLeft then { s with qe.bulkLeft := s.qe.bulkLeft - 1 }
     else { s with qe := { s.qe with bulkQueue := q, bulkLeft := (match s.queue q with | some c => max 1 c.weight | none => 1) - 1 } })
  else s

/-- The movers in MOVE that work for the queues hit end their MOVE (R184). -/
def State.movesEnd (s : State) (hit : Nat → Bool) : State :=
  ((List.range 64).filter fun m => s.get MOV.STATE m == movMove).foldl (fun s m =>
    match (tget s.mov.runs m).bind fun r => (s.cmd r.qid r.cmdId).bind fun x => (x.step r.index).map fun k => (r, x, k) with
    | some (r, x, k) => if hit r.qid then s.moveStep m r.qid r.cmdId r.index x k else s
    | none => s) s

/-- Acknowledged or completed mirror records let ISSUED steps complete (R14, R172). -/
def State.issuedSweep (s : State) : State :=
  let fix (x : Cmd) : Cmd := x.steps.foldl (fun x r => match r.state with
    | .issued ms none =>
      let left := ms.filter fun m => s.mirrorOpen (some m)
      if left.isEmpty then x.complete1 r.index else x.setStep { r with state := .issued left none }
    | _ => x) x
  ({ s with qe.cmds := s.qe.cmds.map fix }).movSettle

end Sys2Proof.Machine
end

