-- ==== Sys2Proof/Machine/CmnRx.lean ====
section
/-! DEFINITION. The receiving side of Cemanor (13): ingress (Table 13-5), messages at the target, results at the initiator. -/
namespace Sys2Proof.Machine

/-! ## Ingress -/

/-- Send ACK for a phase: RX_BASE − 1 and the CE count (R429), in header bytes 0x10 to 0x17 with no payload (Table 13-2, log entry 92). -/
def State.sendAck (s : State) (i : Nat) (phase : Bool) (path : Option Nat) : State :=
  let c := s.conn i
  let base := (c.rx phase).base
  (s.putConn i { c with owed := 0 }).sendCtl i opAck path fun p =>
    { p with phase := phase, rkey := BitVec.ofNat 32 (base + 2 ^ 32 - 1), offset := BitVec.ofNat 40 (c.ceCount * 256) }

/-- Send NACK for ranges of PSNs, first and count each (Table 13-2, R429). -/
def State.sendNack (s : State) (i : Nat) (phase : Bool) (gaps : List (Nat × Nat)) : State :=
  s.sendCtl i opNack none fun p => { p with phase := phase, plen := BitVec.ofNat 16 (8 * gaps.length), data := gaps.flatMap fun g => be 4 g.1 ++ be 4 g.2 }

/-- Accept a reliable PSN into the replay window of its phase and count it for ACK_COAL (R428 step 6, R429). -/
def State.acceptPsn (s : State) (i : Nat) (phase : Bool) (psn : Nat) : State :=
  let c := s.conn i
  let r := c.rx phase
  let acc := r.acc ++ [psn]
  let base := advance (acc.length + 1) r.base acc
  let c := { (c.setRx phase { r with base := base, acc := acc.filter fun x => base ≤ x }) with owed := c.owed + 1, nacked := c.nacked.filter fun x => !(x.1 == phase && x.2.1 == psn) }
  let s := s.putConn i c
  if s.get CME.ACK_COAL 4 ≤ c.owed then s.sendAck i phase none else s

/-- CONN_OPEN: connections not FREE. -/
def State.connCount (s : State) : Nat := (s.cmn.conns.filter fun e => e.2.state != .free).length

/-- End a connection's messages with a status at both roles: the initiator's movers and windows hear of it elsewhere. -/
def Conn.clearTraffic (c : Conn) : Conn := { c with unacked := [], txq := [], inits := [], tgts := [], holds := [] }

/-- Bytes that wait in the receive buffer of a port. -/
def State.rxBytes (s : State) (port : Nat) : Nat := (s.cmn.rxWait.map fun w => if w.1 = port then w.2.1 else 0).foldl (· + ·) 0

/-- A packet waits in the receive buffer of its port for hold space, or is dropped and counted where that is full (R456); past 75 % the port sends a pause for PFC_PRIO (R417). How large the buffer is the spec does not say (log entry 105). -/
def State.rxDelay (s : State) (msg : RxMsg) (port n : Nat) : State :=
  if Config.rxBuffer < s.rxBytes port + n then s.inc CMP.RX_DROP 1 port
  else
    let s := ({ s with cmn.rxWait := s.cmn.rxWait ++ [(port, n, msg)] } : State).inc CIP.HOLD_FULL_CNT
    if s.flag CMP.PFC_EN port && 3 * Config.rxBuffer < 4 * s.rxBytes port then s.emit (.device "PFC_PAUSE" [port, s.get CMP.PFC_PRIO port]) else s

/-- Whether a packet that arrives waits: for hold space, or behind those of its port (R456). -/
def State.rxBehind (s : State) (again : Bool) (p : Packet) : Bool :=
  s.holdFull p.plen.toNat || (!again && s.cmn.rxWait.any fun w => w.1 == p.eport.val)

/-- Steps 1 to 3 of Table 13-5. reliable: PSN window, else control window. The continuation runs with the connection index once the tag has verified. msg: what waits should there be no hold space; again: it has waited and comes out of the receive buffer. -/
def State.ingress (storm : State → Nat → State) (again : Bool) (msg : RxMsg) (s : State) (p : Packet) (reliable : Bool) (k : State → Nat → State) : State :=
  let port := p.eport.val
  if !p.fcsOk then s.inc CMP.FCS_ERR 1 port else
  let s := if again then s else s.incMod CMP.RX_FRAMES 1 port
  let s := if p.ce && !again then s.inc CMP.CE_MARKED 1 port else s
  let i := p.conn.toNat / 16
  let c := s.conn i
  if s.frozen || s.resting cmePage then s
  else if !p.csumOk || p.ver.toNat ≠ 1 || 9000 < p.plen.toNat || p.udpLen ≠ 48 + p.plen.toNat then s.inc CMP.RX_DROP 1 port
  else if !(c.state == .opened || c.state == .closing || c.state == .down) || c.gen ≠ p.conn.toNat % 16 then s.inc CMP.RX_DROP 1 port
  else if c.check ≠ crc32c (connPack c.gen c.desc) then (s.putConn i { c with state := .error }).misc cmePage 5 (le 3 i)
  else
    let c := if p.ce && !again then { c with ceCount := (c.ceCount + 1) % 2 ^ 32 } else c
    let s := s.putConn i c
    let r := c.rx p.phase
    let psn := p.psn.toNat
    let keyed := if p.phase then c.keys1.isSome else c.keys0.isSome
    if reliable && (psn < r.base || r.base + 65535 < psn || r.acc.contains psn) then
      if psn < r.base || r.acc.contains psn then s.sendAck i p.phase none else s
    else if !reliable && (psn + 64 ≤ r.ctlHigh || r.ctlSeen.contains psn) then s
    else if s.rxBehind again p then
      (if again then { s with cmn.rxWait := (port, 48 + p.plen.toNat, msg) :: s.cmn.rxWait } else s.rxDelay msg port (48 + p.plen.toNat))
    else
    let s := s.laneJoin .cemanor p.plen.toNat p.plen.toNat
    if !p.tagOk || !keyed then
      let at' := (c.authAt.filter fun t => s.timeNs < t + 1000000) ++ [s.timeNs]
      let s := (s.putConn i { c with authFail := satAdd 32 c.authFail 1, authAt := at' }).inc CME.AUTH_FAIL 1 4 |>.inc CIP.AUTH_FAIL_CNT
      if s.get CME.AUTH_FAIL_MAX 4 ≤ at'.length && c.state != .closing then storm s i else s
    else if reliable then k s i
    else
      let r := { r with ctlHigh := max r.ctlHigh psn, ctlSeen := (r.ctlSeen ++ [psn]).filter fun x => max r.ctlHigh psn < x + 64 }
      k (s.putConn i (c.setRx p.phase r)) i

/-! ## The target -/

def Conn.tgt (c : Conn) (msn : Nat) : Option TgtMsg := c.tgts.find? fun m => m.msn == msn
def Conn.putTgt (c : Conn) (m : TgtMsg) : Conn := { c with tgts := if c.tgts.any (fun x => x.msn == m.msn) then c.tgts.map (fun x => if x.msn = m.msn then m else x) else c.tgts ++ [m] }

/-- Every message with a lower MSN is resolved (R434). -/
def Conn.turn (c : Conn) (msn : Nat) : Bool := c.msnBase == msn

/-- Mark a message resolved (R431). -/
def Conn.resolve (c : Conn) (msn : Nat) : Conn :=
  let done := c.resolved ++ [msn]
  let base := advance (done.length + 1) c.msnBase done
  { c with tgts := c.tgts.filter (fun m => m.msn != msn), holds := c.holds.filter (fun p => p.msn.toNat != msn), resolved := done.filter (fun x => base ≤ x), msnBase := base }

/-- Whether a status is a violation (Table 13-9). -/
def violation : Status → Bool
  | .keyStale | .keyRevoked | .accessViolation | .lengthError | .mediaReadOnly | .quotaExceeded => true
  | .ok | .okSubstituted | .okSlowPath | .retainedShared | .authFail | .mediaError | .timeout | .incompleteMessage | .fenced | .aborted | .internal => false

/-- Report a violation at the target (R436). -/
def State.violate (s : State) (i : Nat) (m : TgtMsg) (st : Status) (region : Option Nat) : State :=
  let c := s.conn i
  let s := s.misc cmePage 4 (le 1 st.code ++ le 3 i ++ le 3 c.desc.peerNode.toNat ++ le 4 m.rkey ++ le 4 m.msn ++ le 5 m.off)
  let s := (s.putConn i { c with viol := satAdd 32 c.viol 1 }).inc CME.VIOL_TX 1 4
  match region with
  | some r => if st = .keyRevoked then s else s.refusal (s.regionAt r).tenant
  | none => s

/-- A response without data. -/
def respPkt (c : Conn) (m : TgtMsg) (st : Status) : TxPkt :=
  { op := if m.read then opReadResp else opWriteCmp, phase := c.phase, path := 0, sends := 0,
    pkt := { c.blank with first := true, final := true, flagged := m.flagged, msn := BitVec.ofNat 32 m.msn, status := BitVec.ofNat 8 st.code } }

/-- End a message with a status (R431, R436, R437): FENCED by NOTICE; the rest by a response, without a claim while the group is not known. -/
def State.tgtEnd (s : State) (i : Nat) (m : TgtMsg) (admitted : Bool) (st : Status) (region : Option Nat) : State :=
  let s := if violation st then s.violate i m st region else s
  let s := s.modConn i fun c => c.resolve m.msn
  let s := if admitted then s.messageEnd m.reg else s
  let s : State := { s with tier.held := s.tier.held.filter fun w => match w.who with | .cmn j n _ => !(j == i && n == m.msn) | _ => true,
                            tier.reads := s.tier.reads.filter fun w => match w.who with | .cmn j n _ => !(j == i && n == m.msn) | _ => true }
  let s := s.settleAll
  if st = .fenced then s.sendCtl i opNotice none fun p => { p with plen := 1, msn := BitVec.ofNat 32 m.msn, data := [BitVec.ofNat 8 st.code] }
  else match region with
  | some r => s.respond i (s.regionAt r).grp [respPkt (s.conn i) m st]
  | none => (s.modConn i fun c => { c with txq := c.txq ++ [respPkt c m st] }).cmnPump i

/-- Bytes of a whole message by its sectors, for READ_RESP. -/
def TgtMsg.bytes (m : TgtMsg) (base : Nat) : List Byte := rangeBytes m.got (base + m.off) (m.total.getD 0)

/-- Look at a message again: lengths that disagree end it; a write whose bytes are all placed and acknowledged completes; a read whose sectors are all there is answered (R430-R432). -/
def State.tgtCheck (s : State) (i msn : Nat) : State :=
  let c := s.conn i
  match c.tgt msn with
  | none => s
  | some m =>
    let region := (s.registrationAt m.reg).region
    let bad := match m.total with
      | some t => 1048576 < t || t < m.placed || (match m.first, m.final with | some a, some b => b - a != t || b < a | _, _ => false)
      | none => 1048576 < m.placed
    if bad then s.tgtEnd i m true .lengthError (some region)
    else if m.read then
      if m.want ≠ 0 && m.got.length = m.want then
        let base := (s.registrationAt m.reg).baseOff
        let s := s.modConn i fun c => c.resolve msn
        let ps := dataPackets c opReadResp m.off (m.bytes base) (fun a => poisonIn m.got (base + a) 64) fun o p =>
          { p with moff := BitVec.ofNat 24 (o - m.off), status := BitVec.ofNat 8 m.worst.code, msn := BitVec.ofNat 32 msn, flagged := m.flagged }
        (s.respond i m.grp ps).messageEnd m.reg
      else s
    else
      match m.first, m.final, m.total with
      | some _, some _, some t =>
        if m.placed = t && m.held = 0 && !(m.mirrors.any fun x => s.mirrorOpen (some x)) then s.tgtEnd i m true m.worst (some region) else s
      | _, _, _ => s

/-- Place one sector of a packet's data, whole: of a packet that covers the sector's unit (R190): accepted, held in order behind the connection's held writes, or refused. -/
def State.placeSector (s : State) (i : Nat) (m : TgtMsg) (d : Region) (rd : Registration) (whole : Bool) (o : Nat) (v : Sector) (en : BitVec 64) (poison : Bool) (psn : Nat) : State × Except Status TgtMsg :=
  let tenant := (s.conn i).desc.tenant.toNat
  let src := WriteSrc.conn (BitVec.ofNat 20 i)
  let hold (s : State) (why : HoldWhy) : State × Except Status TgtMsg :=
    ({ s with tier.held := s.tier.held ++ [{
        src := src, who := .cmn i m.msn psn, why := why, region := rd.region, desc := d, whole := whole, tenant := tenant, off := o, data := v, enable := en, poison := poison, window := 0, dpa := 0 }] },
     .ok { m with held := m.held + 1 })
  match s.resolve rd.region d o with
  | (s, .error st) => (s, .error st)
  | (s, .ok pl) =>
    if s.twn.handoff.contains d.grp then hold s .handoff
    else if s.tier.held.any (fun w => w.src == src) then hold s .behind
    else match s.tryWrite { tenant := tenant, place := pl, data := v, enable := en, poison := poison, alloc := true, whole := whole, port := none, qos := 9 } with
    | (s, .accepted mr) => (s, .ok { m with mirrors := if d.pclass = 0 then m.mirrors ++ mr.toList else m.mirrors })
    | (s, .held why) => hold s why
    | (s, .refused st) => (s, .error st)

/-- Steps 8 and 9 for a packet of an admitted message (R87, R94, R430, R432): checks 2 to 9, the registration's CHECK among them (R86). -/
def State.tgtPlace (s : State) (i : Nat) (op : Nat) (p : Packet) : State :=
  let c := s.conn i
  match c.tgt p.msn.toNat with
  | none => s
  | some m =>
    let rd := s.registrationAt m.reg
    let off := p.offset.toNat
    let span := 2 ^ c.desc.dataLog2.toNat
    let len := if op = opRead then p.total.toNat else p.data.length
    let m := { m with total := if p.final then some p.total.toNat else m.total, first := if p.first then some off else m.first,
                      final := if p.final then some (off + len) else m.final, off := if p.first then off else m.off }
    let s := s.putConn i (c.putTgt m)
    let malformed := (op = opMasked && (off % 64 ≠ 0 || p.data.length ≠ 64 || !p.first || !p.final)) || (op ≠ opRead && off / span ≠ (off + len - 1) / span) ||
      (op ≠ opRead && p.plen.toNat ≠ (if op = opMasked then 24 else 16) + p.data.length) || (op = opRead && (!p.first || !p.final || 1048576 < len)) || len = 0
    if malformed then s.tgtEnd i m true .lengthError (some rd.region)
    else match s.xGet (.registration (BitVec.ofNat 22 m.reg)) with
    | (s, some (.registration rd)) =>
     (match s.checks (rd.access c.desc.tenant.toNat off len) .remote (op ≠ opRead) with
    | (s, .error st) => s.tgtEnd i m true st (some rd.region)
    | (s, .ok d) =>
      let m := { m with grp := d.grp }
      if op = opRead then
        let base := rd.baseOff + off
        let n := (base % 64 + len + 63) / 64
        let s := s.putConn i ((s.conn i).putTgt { m with want := n, read := true })
        let s := (List.range n).foldl (fun s j =>
          let o := base / 64 * 64 + j * 64
          match (s.conn i).tgt m.msn with
          | none => s
          | some m =>
            match s.resolve rd.region d o with
            | (s, .error st) => s.tgtEnd i m true st (some rd.region)
            | (s, .ok pl) =>
              match s.readStart { place := pl, who := .cmn i m.msn o, tenant := c.desc.tenant.toNat, train := some (.conn (BitVec.ofNat 20 i)), window := 0, dpa := o } with
              | (s, none) => s
              | (s, some (.value v how)) => s.modConn i fun c => c.putTgt { m with got := tset m.got o v, worst := m.worst.worse how }
              | (s, some (.subst v fl)) => s.modConn i fun c => c.putTgt { m with got := tset m.got o { data := v, poison := false }, worst := if fl then .okSubstituted else m.worst }
              | (s, some (.error st)) =>
                -- an unrecoverable sector (R211, R292)
                if st = .mediaError && d.pathMask.getLsbD 0 then s.modConn i fun c => c.putTgt { m with got := tset m.got o { data := 0, poison := true } }
                else s.tgtEnd i m true st (some rd.region)) s
        s.tgtCheck i m.msn
      else
        let poisonBit (o : Nat) : Bool := p.poison.getLsbD ((o - rd.baseOff) % span / 64)
        let parts := if op = opMasked then [(rd.baseOff + off, ofSecBytes p.data, p.enable)] else spread (rd.baseOff + off) p.data
        let (s, r) := parts.foldl (fun (a : State × Except Status TgtMsg) (o, v, en) =>
          match a.2 with
          | .ok m =>
            let whole := op ≠ opMasked && rd.baseOff + off ≤ o / 4096 * 4096 && o / 4096 * 4096 + 4096 ≤ rd.baseOff + off + len
            a.1.placeSector i m d rd whole o v en (poisonBit o) p.psn.toNat
          | .error st => (a.1, .error st)) (s, .ok m)
        match r with
        | .ok m => (s.modConn i fun c => c.putTgt { m with placed := m.placed + len }).tgtCheck i m.msn
        | .error st => s.tgtEnd i m true st (some rd.region))
    | (s, _) => s.tgtEnd i m true .internal (some rd.region)

/-- Release held FLAGGED packets whose turn has come (R434). -/
def State.releaseHolds (i : Nat) : Nat → State → State
  | 0, s => s
  | k + 1, s =>
    let c := s.conn i
    match c.holds.find? fun p => c.turn p.msn.toNat with
    | some p =>
      let s := s.putConn i { c with holds := c.holds.filter fun q => q != p }
      State.releaseHolds i k (s.tgtPlace i (if p.status.toNat = 1 then opRead else if p.status.toNat = 2 then opMasked else opWrite) { p with status := 0 })
    | none => s

/-- Hold slots in use. -/
def State.holdsUsed (s : State) : Nat := (s.cmn.conns.map fun e => e.2.holds.length).foldl (· + ·) 0
/-- Message slots in use. -/
def State.slotsUsed (s : State) : Nat := (s.cmn.conns.map fun e => e.2.tgts.length).foldl (· + ·) 0

/-- Steps 4 to 9 of Table 13-5 for a request packet whose tag has verified. -/
def State.request (s : State) (i op : Nat) (p : Packet) : State :=
  let c := s.conn i
  let msn := p.msn.toNat
  let psn := p.psn.toNat
  if msn < c.msnBase || c.msnBase + 4095 < msn || c.resolved.contains msn then (s.acceptPsn i p.phase psn).inc CME.LATE_PKT 1 4
  else
    let isNew := (c.tgt msn).isNone
    let mustHold := p.flagged && !c.turn msn
    if (isNew && 262144 ≤ s.slotsUsed) || (mustHold && (c.desc.holdMax.toNat ≤ c.holds.length || 512 ≤ s.holdsUsed)) then
      (s.inc CME.HOLD_DROP 1 4).sendNack i p.phase [(psn, 1)]
    else
      let s := s.acceptPsn i p.phase psn
      let m : TgtMsg := (c.tgt msn).getD {
        msn := msn, reg := keyIndex p.rkey.toNat, rkey := p.rkey.toNat, read := op == opRead, flagged := p.flagged, first := none,
        final := none, total := none, placed := 0, held := 0, mirrors := [], worst := .ok, grp := 0, off := p.offset.toNat, want := 0, got := [] }
      let go (s : State) : State :=
        let s := s.modConn i fun c => c.putTgt m
        if mustHold then
          let s := s.modConn i fun c => { c with holds := c.holds ++ [{ p with status := if op = opRead then 1 else if op = opMasked then 2 else 0 }] }
          if s.holdsUsed = 512 then s.blkErr cmePage 18 4 else s
        else
          let s := s.tgtPlace i op p
          s.releaseHolds i (s.conn i).holds.length
      if !isNew then go s
      else if c.state == .closing then s.tgtEnd i m false .aborted none
      else match s.admitKey p.rkey.toNat c.desc.peerNode.toNat with
      | (s, .error st) => s.tgtEnd i m false st (match st with | .keyRevoked | .accessViolation => some (s.registrationAt (keyIndex p.rkey.toNat)).region | _ => none)
      | (s, .ok (j, d)) => go (s.putRegistration j { d with inflight := (d.inflight + 1) % 2 ^ 32 })

/-- After mirror acknowledgements: writes of every connection that now are complete (R430). -/
def State.tgtSweep (s : State) : State :=
  s.cmn.conns.foldl (fun s e => (e.2.tgts.foldl (fun s m => if m.read then s else s.tgtCheck e.1 m.msn) s).releaseHolds e.1 (s.conn e.1).holds.length) s

/-! ## The initiator -/

/-- Take a forwarded access off the list. -/
def State.dropForward (s : State) (port ld tag : Nat) : State :=
  { s with hp.forwards := s.hp.forwards.filter fun f => !(f.port == port && f.ld == ld && f.tag == tag) }

/-- Send the next write that waits for a sector of a link (R442). -/
def State.forwardNext (s : State) (port ld dpa : Nat) : State :=
  match s.hp.forwards.find? fun f => f.port == port && s.linkOf port f.ld == s.linkOf port ld && f.dpa / 64 == dpa / 64 && f.pend.isSome with
  | some f =>
    match f.pend, tget s.xlt.windows f.window with
    | some (d, en, poison), some w =>
      let off := w.regionOff.toNat + (f.dpa - w.dpaBase.toNat)
      let (s, msn) :=
        if en == BitVec.allOnes 64 then s.sendWrite f.conn (.foreign f.port f.ld f.tag) false w.rkey.toNat off (secBytes d) fun _ => poison
        else s.sendMasked f.conn (.foreign f.port f.ld f.tag) w.rkey.toNat off d en poison
      { s with hp.forwards := s.hp.forwards.map fun g => if g.port = f.port ∧ g.ld = f.ld ∧ g.tag = f.tag then { g with pend := none, msn := msn } else g }
    | _, _ => s
  | none => s

/-- The end of a foreign-window access (R81, R122, R442): data or poison for a read, the record before the Cmp for a write that was refused; KEY_REVOKED and KEY_STALE raise FWD_REFUSED and unbind the window. -/
def State.forwardEnd (s : State) (port ld tag : Nat) (st : Status) (v : SectorVal) (refused : Bool) : State :=
  match s.hp.forwards.find? fun f => f.port == port && f.ld == ld && f.tag == tag with
  | none => s
  | some f =>
    let s := s.dropForward port ld tag
    let s :=
      if st.good then (if st = .okSubstituted then s.cxlRecord port ld f.window f.dpa (some st) else s)
      else if refused then s.cxlRefuse port ld f.window f.dpa (some st) else s.cxlRecord port ld f.window f.dpa (some st)
    let s := if st = .keyRevoked ∨ st = .keyStale then
        let s := s.occur (hpPage port) 32 4 (le 2 f.window ++ le 1 st.code)
        ({ s with xlt.windows := tmod s.xlt.windows f.window fun d => windowSeal { d with state := 2 } }).inval 3 f.window (.window f.window)
      else s
    if f.read then
      s.cxlData port ld tag (if st.good && st != .okSubstituted then v else poisonSec)
    else
      let s : State := { s with hp.cmps := s.hp.cmps.map fun c => if c.port = port ∧ c.ld = ld ∧ c.tag = tag then { c with foreign := none } else c }
      s.forwardNext port ld f.dpa

/-- A message of a mover step ends (R183, Table 6-2): INCOMPLETE_MESSAGE and TIMEOUT run the step again once; data read goes to the step, which a mover then writes. -/
def State.stepMessage (s : State) (q c k : Nat) (st : Status) (data : Table SectorVal) (read : Bool) : State :=
  match (s.cmd q c).bind fun x => x.step k with
  | none => s
  | some r =>
    if st.good then
      if read then (s.modCmd q c fun x => { (x.setStep { r with state := .ready, got := data }) with slow := x.slow.worse st }).movSettle
      else (s.modCmd q c fun x => { (x.complete1 k) with slow := x.slow.worse st }).movSettle
    else if (st = .timeout ∨ st = .incompleteMessage) ∧ !r.remoteRetry then
      let start := match s.cmd q c with | some x => x.cmd.stepStart k | none => 0
      ((s.moverFault r.ran 0xA st.code start).modCmd q c fun x => x.setStep { r with state := .ready, remoteRetry := true }).movSettle
    else s.stepFaultAs (faultClass st) q c k st true

/-- A message of the initiator ends with a status. -/
def State.initEnd (s : State) (i : Nat) (m : InitMsg) (st : Status) (refused : Bool) : State :=
  let s := s.modConn i fun c => { c with inits := c.inits.filter (fun x => x.msn != m.msn), txq := c.txq.filter fun x => opResp x.op || x.pkt.msn.toNat != m.msn }
  let s := if refused && violation st then
      (s.misc cmePage 4 (le 1 st.code ++ le 3 i ++ le 3 (s.conn i).desc.peerNode.toNat ++ le 4 m.rkey ++ le 4 m.msn ++ le 5 m.off)).inc CME.VIOL_RX 1 4 else s
  let bytes := (m.got.foldl (fun (a : List Byte) (x : Nat × List Byte × BitVec 128) => a.take x.1 ++ x.2.1 ++ a.drop (x.1 + x.2.1.length)) (List.replicate m.total 0))
  let span := 2 ^ (s.conn i).desc.dataLog2.toNat
  let bad (a : Nat) : Bool := m.got.any fun x => x.1 < a + 64 && a < x.1 + x.2.1.length && x.2.2.getLsbD ((m.off + a) % span / 64)
  let s := match m.who with
    | .foreign p l t => s.forwardEnd p l t st { data := ofSecBytes bytes, poison := bad 0 } refused
    | .step q c k =>
      let start := match s.cmd q c with | some x => x.cmd.stepStart k | none => 0
      let data : Table SectorVal := (spread start bytes).map fun (x : Nat × Sector × BitVec 64) => (x.1, { data := x.2.1, poison := bad (max x.1 start - start) })
      s.stepMessage q c k st data m.read
  s.cmnPump i

/-- A response packet at the initiator (R440): the claim check, then the message. -/
def State.response (s : State) (i : Nat) (p : Packet) (read : Bool) : State :=
  let s := s.acceptPsn i p.phase p.psn.toNat
  let c := s.conn i
  match c.inits.find? fun m => m.msn == p.msn.toNat with
  | none => s.inc CME.LATE_PKT 1 4
  | some m =>
    let st := (Status.ofCode p.status.toNat).getD .internal
    let key := c.desc.peerNode.toNat / 2 * 16 + p.grp.val
    let cur := (tget s.cmn.claims key).getD 0
    let claim := p.claim.toNat
    if claim = 0 && (st = .ok || st = .okSubstituted || st = .okSlowPath) then s
    else if claim ≠ 0 && claim < cur then s.inc CME.STALE_CLAIM_DROP 1 4
    else
      let s : State := if cur < claim then { s with cmn.claims := tset s.cmn.claims key claim } else s
      if !st.good then s.initEnd i m st true
      else if !read then s.initEnd i m st false
      else
        let m := { m with got := m.got ++ [(p.moff.toNat, p.data, p.poison)], gotBytes := m.gotBytes + p.data.length, worst := m.worst.worse st }
        let s := s.modConn i fun c => { c with inits := c.inits.map fun x => if x.msn = m.msn then m else x }
        if m.total ≤ m.gotBytes then s.initEnd i m m.worst false else s

/-- End every message of a connection with a status (R426). -/
def State.connEndAll (s : State) (i : Nat) (st : Status) : State :=
  let s := (s.conn i).inits.foldl (fun s m => s.initEnd i m st false) s
  (s.conn i).tgts.foldl (fun s m => s.tgtEnd i m true st (some (s.registrationAt m.reg).region)) s

/-- AUTH_FAIL_MAX tag failures in a millisecond (R426): CLOSE with AUTH_FAIL, messages end, AUTH_STORM at severity 5, ERROR. -/
def State.authStorm (s : State) (i : Nat) : State :=
  let s := s.sendCtl i opClose none fun p => { p with plen := 1, data := [BitVec.ofNat 8 Status.authFail.code] }
  let s := s.connEndAll i .authFail
  (s.modConn i fun c => { c.clearTraffic with state := .error }).blkErr cmePage 17 5

end Sys2Proof.Machine
end

