-- ==== Sys2Proof/Machine/PathOps.lean ====
section
/-! DEFINITION. Answers to waiting reads, fills and refills, held writes, and what mirror acknowledgements set going (06, 07, 12). -/
namespace Sys2Proof.Machine

/-- Give a waiting read its result (R210, R211, R230). The result of a read is final. -/
def State.answer (s : State) (w : WaitRead) (r : ReadRes) : State :=
  let s := s.dropRead w.id
  let s := match r with | .value _ .okSlowPath => s.incMod TIER.SLOW_PATH | _ => s
  match w.who with
  | .cxl p l t => s.cxlAnswer p l t w.window w.dpa w.grp r
  | .step q c k =>
    let keep (v : SectorVal) (f : Cmd → Cmd) : State :=
      s.modCmd q c fun x => match x.step k with | some st => f (x.setStep { st with got := tset st.got w.dpa v }) | none => x
    match r with
    | .value v how => if how = .ok then s else keep v fun x => { x with slow := x.slow.worse how }
    | .subst d fl => keep { data := d, poison := false } fun x => if fl then { x with slow := .okSubstituted } else x
    | .error _ =>
      if (s.regionAt w.region).pathMask.getLsbD 0 then (keep poisonSec fun x => x).mediaGoesOn q c k
      else s.stepFault q c k .mediaError
  | .mailbox .. => s
  | .cmn i m o =>
    match (s.conn i).tgt m with
    | none => s
    | some t =>
      let give (v : SectorVal) (st : Status) : State := (s.putConn i ((s.conn i).putTgt { t with got := tset t.got o v, worst := st })).tgtCheck i m
      match r with
      | .value v how => give v (t.worst.worse how)
      | .subst d fl => give { data := d, poison := false } (if fl then .okSubstituted else t.worst)
      | .error st =>
        if (s.regionAt w.region).pathMask.getLsbD 0 then give poisonSec t.worst
        else s.tgtEnd i t true st (some w.region)

/-- The reads that wait for a unit. -/
def State.unitReads (s : State) (p u : Nat) : List WaitRead := s.tier.reads.filter fun r => r.pbn == p && r.unit == u

/-- The requester whose reads the trackers follow; a step reads its source again itself (R241). -/
def WaitRead.reader (r : WaitRead) : Option ReadReq :=
  match r.who with
  | .cxl p l _ => some (.ld (Fin.ofNat 8 p) (Fin.ofNat 16 l))
  | .cmn i _ _ => some (.conn (BitVec.ofNat 20 i))
  | .step .. | .mailbox .. => none

/-- A unit that is PRESENT answers what waits for it, through the pan (R190, R210, R234); reads stalled by their slice go on waiting. -/
def State.serveUnit (s : State) (p u : Nat) : State :=
  (s.unitReads p u).foldl (fun s r =>
    if s.panStalls r.sector then s
    else match s.block p with
    | some b =>
      if b.unitPresent u then
        let v := s.secValue r.sector
        let s := match r.reader with
          | none => s
          | some q => let (s, age) := s.train q p (r.sector / 2); s.panTouch r.sector age true r.who.qos
        s.answer r (.value v .ok)
      else s
    | none => s) s

/-- Start the cheaper-path order of a read, from path k (R209). -/
def State.startPath (s : State) (r : WaitRead) (k : Nat) : State :=
  match s.pathFrom r k with
  | (s, some res) => s.answer r res
  | (s, none) => s

/-- What a fill failure does to the reads that wait for the unit: they start the cheaper-path order at once (R209). -/
def State.failReads (s : State) (p u : Nat) : State :=
  (s.unitReads p u).foldl (fun s r => if r.stage = .filling then s.startPath r 0 else s) s

/-- The write of Inject Poison or Clear Poison is accepted: the poison list gains or loses the sector, and the command is answered (R112). -/
def State.mbDone (s : State) (p l op dpa : Nat) : State :=
  let s := if op = 0x4301 then s.addPoison p l dpa
    else let x := s.ld p l; s.putLd p l { x with poison := x.poison.filter fun a => a / 64 != dpa / 64 }
  s.emit (.mailbox p l op .success [])

/-- The write of a mailbox command is accepted: done at once, or, of class M, when the mirror has acknowledged it (R105, R112). -/
def State.mbAccepted (s : State) (p l op dpa : Nat) (m : Option Nat) : State :=
  if s.mirrorOpen m then { s with hp.mbWaits := s.hp.mbWaits ++ [{ port := p, ld := l, op := op, dpa := dpa, mirror := m }] } else s.mbDone p l op dpa

/-- Mailbox writes whose mirror record is acknowledged are done. -/
def State.mbSweep (s : State) : State :=
  let go := s.hp.mbWaits.filter fun w => !s.mirrorOpen w.mirror
  go.foldl (fun s w => s.mbDone w.port w.ld w.op w.dpa) { s with hp.mbWaits := s.hp.mbWaits.filter fun w => s.mirrorOpen w.mirror }

/-- A write refused while held: the record before the Cmp, or the message's end (R22, R120). -/
def State.refuseHeld (s : State) (w : HeldWrite) (st : Status) : State :=
  match w.who with
  | .cxl p l t =>
    let s := s.settleAll.cxlRefuse p l w.window w.dpa (some st)
    { s with hp.cmps := s.hp.cmps.map fun c => if c.port = p ∧ c.ld = l ∧ c.tag = t then { c with held := false } else c }
  | .cmn i m _ =>
    match (s.conn i).tgt m with
    | some t => s.tgtEnd i t true st (some w.region)
    | none => s
  | .step q c k => s.stepFault q c k st
  | .mailbox p l op => s.settleAll.emit (.mailbox p l op .invalidInput [])

/-- The pool sector of a held write. -/
def State.heldSector (s : State) (w : HeldWrite) : Option Nat := (s.blockOf w.region (w.off / blkBytes)).map fun p => secOf p w.off

/-- Whether a step of a command writes a part of unit u of its block, not the whole of it. -/
def QCmd.partOf (c : QCmd) (k u : Nat) : Bool :=
  let lo := c.stepStart k % blkBytes
  let hi := lo + c.stepLen k
  lo < u * 4096 + 4096 && u * 4096 < hi && !(lo ≤ u * 4096 && u * 4096 + 4096 ≤ hi)

/-- Refuse the writes that wait for a unit, held ones and those of stalled steps (Table 7-2). -/
def State.refuseUnit (s : State) (p u : Nat) (st : Status) : State :=
  let hit (w : HeldWrite) : Bool := w.why == .unit && (match s.heldSector w with | some n => pbnOf n == p && unitOf n % 16 == u | none => false)
  let gone := s.tier.held.filter hit
  let s := gone.foldl (fun s w => s.refuseHeld w st) { s with tier.held := s.tier.held.filter fun w => !hit w }
  let steps := (s.stalledOnBlock p).filter fun e => s.mov.holds.contains (e.1.qid, e.1.cmdId, e.2.index) && e.1.cmd.partOf e.2.index u
  steps.foldl (fun s e => s.stepFault e.1.qid e.1.cmdId e.2.index st) s

/-- Answer the reads that wait for a unit read from T2 alone: the single-unit read at priority of path 3, or the read of a block that no frame was free for; OK_SLOW_PATH (Table 7-2, Table 7-4). -/
def State.directDone (s : State) (p u : Nat) (priority : Bool) : State :=
  (s.unitReads p u).foldl (fun s r =>
    if (if priority then r.stage == .directFlash else r.noFrame) && !r.panStall then s.answer r (.value (s.t2Read r.sector) .okSlowPath) else s) s

/-- Such a read of T2 has failed (R209, R211): path 3 is at the end of its order, a read without a frame starts the order at once. -/
def State.directFail (s : State) (p u : Nat) : State :=
  (s.unitReads p u).foldl (fun s r =>
    if r.panStall then s
    else if r.stage = .directFlash then s.setRead r.id fun r => { r with stage := .ended, noFrame := false }
    else if r.noFrame then
      let s := s.setRead r.id fun r => { r with noFrame := false }
      if r.stage = .filling then s.startPath { r with noFrame := false } 0 else s
    else s) s

/-- FILL_UNIT_DONE (R190, R199). -/
def State.fillDone (s : State) (p u : Nat) : State :=
  match s.block p with
  | some b =>
    if !b.filling.contains u then s
    else ((((s.unitArrive p u b).serveUnit p u).fillEnd p).raiseSweep).movSettle
  | none =>
    -- a unit read from T2 without raising
    s

/-- Whether a fill of the unit is in flight. -/
def State.unitFills (s : State) (w : Nat) : Bool := match s.block (w / 16) with | some b => b.filling.contains (w % 16) | none => false

/-- A unit has been read from T2 (R190, R210): path 3's own read gives its readers the sector, any other arrives in the frame or serves the reads that no frame was free for. -/
def State.unitRead (s : State) (p u : Nat) (priority : Bool) : State :=
  if !priority && s.unitFills (p * 16 + u) then s.fillDone p u
  else (s.directDone p u priority).movSettle

/-- FILL_UNIT_FAIL (Table 7-2): a RISING block without DIRTY units is abandoned, one with them and a RESIDENT one keep what they have. -/
def State.fillFail (s : State) (p u : Nat) : State :=
  match s.block p with
  | none => s
  | some b =>
    if !b.filling.contains u then s
    else if b.state = .rising && !b.dirty then
      let units := b.filling
      let s := (s.raiseFail p).releaseBlock p
      let s := units.foldl (fun s k => (s.refuseUnit p k .mediaError).failReads p k) s
      (s.raiseSweep.sluSweep).movSettle
    else
      let b := { b with filling := b.filling.filter fun k => k != u, units := tset b.units u { ((tget b.units u).getD { freshUnit with present := false }) with failed := true } }
      let s := (s.raiseFail p).putBlock p b
      ((((s.refuseUnit p u .mediaError).failReads p u).fillEnd p).raiseSweep).movSettle

/-- Release the first held write of a source: it is tried again under the descriptor that its checks found (R74); what is still held stays first. -/
def State.releaseHead (s : State) (src : WriteSrc) : State :=
  match s.tier.held.find? fun w => w.src == src with
  | none => s
  | some w =>
    let rest : List HeldWrite := (match takeFirst s.tier.held (fun x => x.src == src) with | some (_, r) => r | none => s.tier.held)
    let d := w.desc
    if s.twn.handoff.contains d.grp then s
    else if !s.serves d.grp then ({ s with tier.held := rest }).refuseHeld w .fenced
    else match s.resolve w.region d w.off with
    | (s, .error st) => ({ s with tier.held := rest }).refuseHeld w st
    | (s, .ok pl) =>
      let port := match w.who with | .cxl p l _ | .mailbox p l _ => some (p, l) | .step .. | .cmn .. => none
      match s.tryWrite { tenant := w.tenant, place := pl, data := w.data, enable := w.enable, poison := w.poison, alloc := true, whole := w.whole, port := port, qos := w.who.qos } with
      | (s, .held why) =>
        { s with tier.held := s.tier.held.map fun x => if x == w then { w with why := why } else x }
      | (s, .refused st) => ({ s with tier.held := rest }).refuseHeld w st
      | (s, .accepted m) =>
        let s : State := { s with tier.held := rest }
        let m := if d.pclass = 0 then m else none
        match w.who with
        | .cxl p l t => { s with hp.cmps := s.hp.cmps.map fun c => if c.port = p ∧ c.ld = l ∧ c.tag = t ∧ c.held then { c with held := false, mirror := m } else c }
        | .cmn i n _ => (s.modConn i fun c => match c.tgt n with | some t => c.putTgt { t with held := t.held - 1, mirrors := t.mirrors ++ m.toList } | none => c).tgtCheck i n
        | .mailbox p l op => s.mbAccepted p l op w.dpa m
        | .step .. => s

/-- The sectors that follow the first of a write that covers its whole unit are released with it (R190). -/
def State.releaseRest : Nat → WriteSrc → State → State
  | 0, _, s => s
  | k + 1, src, s => match s.tier.held.find? fun w => w.src == src with
    | some w => if w.whole && w.off % 4096 != 0 then State.releaseRest k src (s.releaseHead src) else s
    | none => s

/-- Release what a source holds first (R20): one sector, or the sectors of one whole unit. -/
def State.releaseOne (s : State) (src : WriteSrc) : State := State.releaseRest 63 src (s.releaseHead src)

/-- What every acknowledgement of mirror records lets go on: steps, messages, mailbox writes. Barriers and Cmps look for themselves. -/
def State.ackSweep (s : State) : State := s.issuedSweep.tgtSweep.mbSweep

end Sys2Proof.Machine
end

