-- ==== Sys2Proof/Machine/RegionOps.lean ====
section
/-! DEFINITION. The warden's region operations and what waits for their invalidation (R8-R10, R70-R74, R193, R213), and the opening of registrations (R84). -/
namespace Sys2Proof.Machine

/-- PBNs granted for n blocks (R70): which of the free ones, in which order, is not specified (free values, log entry 4). None when too few are free. -/
def State.grantPbns : Nat → List Nat → List Nat → State → State × List Nat
  | 0, _, got, s => (s, got)
  | n + 1, used, got, s =>
    let user := s.get FTL.USER_BLKS 48
    if user ≤ used.length then (s, got)
    else
      let p := nthFree used (Config.freeNat s.free % (user - used.length))
      State.grantPbns n (ascending (p :: used)) (got ++ [p]) s.useFree

/-- The PBNs that regions hold. -/
def State.heldPbns (s : State) : List Nat := ascending (s.xlt.bmap.map fun e => e.2.pbn)

/-- Write the BMEs of new blocks from block index `from'` on (R70, R72): ALLOC and ZERO set. -/
def State.putBmes (s : State) (region from' : Nat) (pbns : List Nat) : State :=
  (pbns.foldl (fun (a : State × Nat) p =>
    ({ a.1 with xlt.bmap := tset a.1.xlt.bmap (bmeKey region a.2) (Bme.seal { alloc := true, zero := true, pbn := p, chk := 0 }) }, a.2 + 1)) (s, from')).1

/-- Charge blocks to the tenant's T2 quota, or why not (R193). -/
def State.t2Charge (s : State) (t n : Nat) : State × Option Status :=
  let q := s.quota t
  if !q.checkOk then (s, some .internal)
  else if q.t2Quota < q.t2Used + n then (s, some .quotaExceeded)
  else (s.putQuota t (Quota.seal { q with t2Used := q.t2Used + n }), none)

/-- LEVELS of a region of a size: one leaf page covers 512 blocks (R69). -/
def levelsFor (size : Nat) : Nat := if size ≤ 512 then 0 else 1

/-- The fields of DESC0 and DESC1 that the warden uses. DESC0 words have RO in bit 30, PCLASS in 29:28, CLAIM_GRP in 27:24, SHARE in 23; DESC1 ELEM_FMT in 31:28, GRADE_FMT in 27:26, SUBST in 25:24, PATH_MASK in 23:20 (Table 3-1). -/
def Region.desc0 (r : Region) (w : BitVec 32) : Region :=
  { r with ro := w.getLsbD 30, pclass := (w.extractLsb' 28 2).toNat, share := w.getLsbD 23 }
def Region.desc1 (r : Region) (w : BitVec 32) : Region :=
  { r with elemFmt := (w.extractLsb' 28 4).toNat, gradeFmt := (w.extractLsb' 26 2).toNat, subst := (w.extractLsb' 24 2).toNat, pathMask := w.extractLsb' 20 4 }
def Region.wbits (r : Region) (w : BitVec 4) : Region :=
  { r with remoteOk := w.getLsbD 3, queueW := w.getLsbD 2, hostW := w.getLsbD 1, remoteW := w.getLsbD 0 }

/-- Whether a descriptor asked for is one the warden accepts (R7, Table 3-1, R213): no reserved encoding, and no bittern path without a bittern. -/
def Region.askOk (r : Region) : Bool :=
  r.live && 1 ≤ r.size && !(r.pathMask.getLsbD 2 && (r.subst == 0 || r.elemFmt == 0))

/-- Whether a DELETE of a region waits for its invalidation: its BMEs, blocks and quota use still stand, and the slot is not free yet (R70, R74). -/
def State.regionLeaving (s : State) (id : Nat) : Bool :=
  (s.xlt.invalBusy.toList ++ s.xlt.invalQueue ++ s.xlt.invalRetry).any fun i => match i.waiter with
    | .delete _ _ r => r == id
    | .none | .command .. | .create .. | .toM .. | .toV .. | .extent _ | .window _ => false

/-- The region ID of a CREATE: the one asked for, or one that the warden chooses among the free ones (a free value). -/
def State.createId (s : State) (id : Nat) : State × Nat :=
  if id = 0xFF_FFFF then
    let used := ascending ((s.xlt.regions.filter fun e => e.2.valid || s.regionLeaving e.1).map Prod.fst)
    (s.useFree, nthFree used (Config.freeNat s.free % (0xFF_FFFF - used.length)))
  else (s, id)

/-- A flush doorbell or a substitution counter that no valid region uses, below 2^24 (R144, R230): which one the warden gives is free. -/
def State.unusedIndex (s : State) (of : Region → Nat) (n : Nat) : Nat :=
  let used := ascending ((s.xlt.regions.filter fun e => e.2.valid).map fun e => of e.2)
  nthFree used (Config.freeNat n % (2 ^ 24 - used.length))

/-- REGION_CREATE (R68, R70, R193): the descriptor, or the status that refuses it. -/
def State.regionCreate (s : State) (tenant : Nat) (id : Nat) (size d0 d1 : BitVec 32) (deadline : BitVec 20) (w : BitVec 4) : State × CmdResult :=
  let (s, id) := s.createId id
  let old := s.regionAt id
  let ask := (((({ noRegion with
    valid := true, size := size.toNat, deadline := deadline.toNat, tenant := tenant, grp := (d0.extractLsb' 24 4).toNat, levels := levelsFor size.toNat,
    gen := (old.gen + 1) % 65536, root := s.sysPage (Config.freeNat s.free) * 4096, flushDb := s.unusedIndex (fun r => r.flushDb) (s.free + 1),
    substCtr := s.unusedIndex (fun r => r.substCtr) (s.free + 2) } : Region).desc0 d0).desc1 d1).wbits w)
  if !ask.askOk then (s, failResult .lengthError)
  else if old.valid || s.regionLeaving id then (s, failResult .aborted)
  else match s.t2Charge tenant ask.size with
  | (s, some st) => (s, failResult st)
  | (s', none) =>
    match { s' with free := s.free + 3 }.grantPbns ask.size s'.heldPbns [] with
    | (s', pbns) =>
      if pbns.length < ask.size then (s, failResult .quotaExceeded)
      else
        let s' := s'.putBmes id 0 pbns
        ({ s' with xlt.regions := tset s'.xlt.regions id ask.seal }, { okResult with result0 := id * 65536 + ask.gen })

/-- REGION_GROW (R72, R193): the new entries first, then SIZE_BLKS. -/
def State.regionGrow (s : State) (tenant id size : Nat) : State × Option Status :=
  let d := s.regionAt id
  if size < d.size then (s, some .aborted)
  else match s.t2Charge tenant (size - d.size) with
  | (s, some st) => (s, some st)
  | (s', none) =>
    match s'.grantPbns (size - d.size) s'.heldPbns [] with
    | (s', pbns) =>
      if pbns.length < size - d.size then (s, some .quotaExceeded)
      else
        let s' := s'.putBmes id d.size pbns
        ({ s' with xlt.regions := tset s'.xlt.regions id (Region.seal { d with size := size, levels := levelsFor size }) }, none)

/-- Whether a window, extent or open or closing registration names a region (R73). -/
def State.regionNamed (s : State) (id : Nat) : Bool :=
  (s.xlt.windows.any fun e => e.2.valid && e.2.state.toNat != 0 && !e.2.foreign && e.2.region.toNat == id) ||
  (s.xlt.extents.any fun e => e.2.state != .free && e.2.region == id) ||
  (s.xlt.registrations.any fun e => e.2.state != .free && e.2.region == id)

/-- The pool blocks of a region. -/
def State.regionPbns (s : State) (id : Nat) : List Nat := (s.xlt.bmap.filter fun e => e.1 / 2 ^ 32 = id).map fun e => e.2.pbn

/-- A block of a deleted region goes: its brine is discarded (R73), its frame and its pan lines are free, its copy in T2 is unwritten (log entry 15). -/
def State.discardBlock (s : State) (p : Nat) : State :=
  let s := ((s.panForget p).freeBlock p).frameWaitDrop fun w => w.pbn == p
  { s with flm := { s.flm with t2 := s.flm.t2.filter fun e => e.1 / 1024 != p, t2Stamp := s.flm.t2Stamp.filter fun e => e.1 / 16 != p },
           tier.bittern := s.tier.bittern.filter fun e => e.1 / 16 != p }

/-- The end of REGION_DELETE: the region's blocks go and its quota use is given back (R73, R193). -/
def State.regionPurge (s : State) (id : Nat) : State :=
  let d := s.regionAt id
  let pbns := s.regionPbns id
  let s := pbns.foldl State.discardBlock s
  let s : State := { s with xlt.bmap := s.xlt.bmap.filter fun e => e.1 / 2 ^ 32 != id }
  let q := s.quota d.tenant
  s.putQuota d.tenant (Quota.seal { q with t2Used := q.t2Used - d.size })

/-- A region has become class V: its brine counts no longer (R10). -/
def State.brineVolatile (s : State) (id : Nat) : State :=
  { s with tier.blocks := tmap s.tier.blocks fun _ b => if b.region = id then { b with units := tmap b.units fun _ x => if x.dirty then { x with cls := 2 } else x } else b }

/-- The invalidation of an extent that is released is complete: the release is reported to the host, and the Fabric Manager's request for it answered (R79); with the last extent of a Release DC that command is complete (R130). -/
def State.extentGone (s : State) (e : Nat) : State :=
  match tget s.xlt.extents e with
  | none => s
  | some d =>
    let p := d.port
    let l := d.ld
    let s := s.emit (.device "DC_RELEASED" [p, l, e, d.dpaBase, d.length])
    let s := if (s.ld p l).fmRelease.contains e then
        (s.putLd p l { s.ld p l with fmRelease := (s.ld p l).fmRelease.filter fun x => x != e }).emit (.fm "INITIATE_DYNAMIC_CAPACITY_RELEASE" .success [e])
      else s
    match (s.ld p l).release with
    | some es =>
      if !es.contains e then s else
      let rest := es.filter fun x => x != e
      let s := s.putLd p l { s.ld p l with release := if rest.isEmpty then none else some rest }
      if rest.isEmpty then s.emit (.mailbox p l 0x4803 .success []) else s
    | none => s

/-- What a finished invalidation lets a region operation do (R73, R9, R10). -/
def State.regionAfter (s : State) : InvalFor → State
  | .delete q c r => (s.regionPurge r).cmdResult q c okResult
  | .toV q c r => (s.brineVolatile r).cmdResult q c okResult
  | .toM q c r =>
    match s.barrierIssue (.classChange q c) [r] (fun _ => true) (fun _ => true) with
    | (s, id) => s.modCmd q c fun x => { x with barrier := some id }
  | .extent e => s.extentGone e
  | .none | .command .. | .create .. | .window _ => s

/-- REGION_SET (R8-R10, R213): MASK chooses the words taken. The class before and after, or the status that refuses it. -/
def State.regionSet (s : State) (id : Nat) (d0 d1 : BitVec 32) (deadline : BitVec 20) (w mask : BitVec 4) : State × Except Status (Nat × Nat) :=
  let d := s.regionAt id
  let n := if mask.getLsbD 0 then d.desc0 d0 else d
  let n := if mask.getLsbD 1 then n.desc1 d1 else n
  let n := if mask.getLsbD 2 then { n with deadline := deadline.toNat } else n
  let n := if mask.getLsbD 3 then n.wbits w else n
  if !n.askOk then (s, .error .lengthError)
  else ({ s with xlt.regions := tset s.xlt.regions id n.seal }, .ok (d.pclass, n.pclass))

/-- REG_OPEN (R82-R84, Table 3-4): a slot that has been FREE for 60 s, which one a free value; the key, or the status that refuses it. With no slot FREE for 60 s the spec gives no status: ABORTED (DESIGN CHOICE, log entry 96). -/
def State.regOpen (s : State) (tenant : Nat) (d : Region) (id base len : Nat) (w r nodeAny : Bool) (node : Nat) : State × CmdResult :=
  if base % 4096 ≠ 0 || len % 4096 ≠ 0 || len < 4096 then (s, failResult .lengthError)
  else if !d.remoteOk || (w && (!d.remoteW || d.ro)) then (s, failResult .accessViolation)
  else
    let busy (x : Registration) : Bool := x.state != .free || (match x.freedAt with | some t => s.timeNs < t + 60 * 10 ^ 9 | none => false)
    let used := ascending ((s.xlt.registrations.filter fun e => busy e.2).map Prod.fst)
    if 2 ^ 22 ≤ used.length then (s, failResult .aborted)
    else
      let i := nthFree used (Config.freeNat s.free % (2 ^ 22 - used.length))
      let gen := ((s.registrationAt i).gen + 1) % 1024
      let x : Registration := {
        state := .opened, gen := gen, w := w, r := r, nodeAny := nodeAny, tenant := tenant, region := id, regionGen := d.gen, node := node,
        baseOff := base, length := len, revokeStamp := 0, inflight := 0, refused := 0, check := 0, freedAt := none }
      (s.useFree.putRegistration i x.seal, { okResult with result0 := i * 1024 + gen })

end Sys2Proof.Machine
end

