-- ==== Sys2Proof/Machine/Xlt.lean ====
section
/-! DEFINITION. Translation commands (03): refetch, fills, invalidation, registrations, windows and decoders. -/
namespace Sys2Proof.Machine

abbrev Res := Host.Outcome State Fault Refusal

/-- R88: the single refetch of a copy that failed its check; nothing to do for a copy that passes. -/
def execDescriptorRefetch (key : XKey) (s : State) : Res :=
  match s.xCached key with
  | some e => .next (if e.copy.ok then s else (s.refetch key).1)
  | none => .next s

/-- R91: a fill that no invalidation removed is installed. -/
def execXltMissFill (key : XKey) (s : State) : Res :=
  match s.xlt.fills.find? fun e => e.key == key with
  | some e => .next (({ s with xlt.fills := s.xlt.fills.filter fun x => !(x.key == key) }).xInstall e)
  | none => .next s

/-- R90, R98: the running invalidation completes, and the operation that waits for it goes on (R73, R74). -/
def execXltInvalComplete (s : State) : Res :=
  match s.xlt.invalBusy with
  | some i => .next (s.invalDone.regionAfter i.waiter)
  | none => .next s

/-- R96: the table is served again after a harvest or reset: each CLOSING registration becomes FREE, once. -/
def execRegistrationSweep (s : State) : Res :=
  if !s.xlt.sweep || s.frozen then .next s
  else .next (s.xlt.registrations.foldl (fun s e => if e.2.state = .closing then s.registrationFree e.1 { e.2 with inflight := 0 } else s) { s with xlt.sweep := false })

/-- Whether the warden may bind a local range (R66, R76): bounds, write right, tenant, alignment of REGION_OFF. -/
def State.bindOk (s : State) (tenant region off len : Nat) (w : Bool) : Bool :=
  let d := s.regionAt region
  d.live && d.checkOk && off + len ≤ d.size * blkBytes && (!w || (d.hostW && !d.ro)) && (d.tenant == tenant || d.share) && off % blkBytes == 0

/-- R76, R77: bind a window to a committed decoder of equal range, or refuse with ACCESS_VIOLATION. R76 gives that status for its own conditions; for the others the spec gives none (DESIGN CHOICE, log entry 96). -/
def execWindowBind (wid : Fin 4096) (desc : WindowDesc) (s : State) : Res :=
  let p := wid.val / 512
  let l := wid.val / 32 % 16
  let len := desc.length.toNat
  let granule := 2 ^ 28
  let old := tget s.xlt.windows wid.val
  let unused := match old with | some d => !d.valid | none => true
  let ok := unused && s.flag HP.BOUND p l && s.get HP.TENANT p l == desc.tenant.toNat && desc.dpaBase.toNat % granule == 0 && len % granule == 0 &&
    tget s.hp.decoders wid.val == some (desc.dpaBase.toNat, len) &&
    (desc.foreign || s.bindOk desc.tenant.toNat desc.region.toNat desc.regionOff.toNat len desc.w)
  if ok then
    let gen := if desc.foreign then 0 else (s.regionAt desc.region.toNat).gen
    let d := windowSeal { desc with valid := true, state := 1, regionGen := BitVec.ofNat 16 gen }
    .next (({ s with xlt.windows := tset s.xlt.windows wid.val d }).emit (.device "WINDOW_BIND" [wid.val, Status.ok.code]))
  else .next (s.emit (.device "WINDOW_BIND" [wid.val, Status.accessViolation.code]))

/-- R77: the host commits a decoder. -/
def execHdmDecoderCommit (port : Port) (ld : Ld) (n : Fin 32) (base len : BitVec 64) (s : State) : Res :=
  .next { s with hp.decoders := tset s.hp.decoders (windowId port.val ld.val n.val) (base.toNat, len.toNat) }

/-- R77: uncommitting a decoder unbinds its window, which is free once its invalidation has completed. -/
def execHdmDecoderUncommit (port : Port) (ld : Ld) (n : Fin 32) (s : State) : Res :=
  let w := windowId port.val ld.val n.val
  let s : State := { s with hp.decoders := tdel s.hp.decoders w }
  match tget s.xlt.windows w with
  | some d =>
    if d.valid && d.state.toNat = 1 then
      .next (({ s with xlt.windows := tset s.xlt.windows w (windowSeal { d with state := 2 }) }).inval 3 w (.window w))
    else .next s
  | none => .next s

end Sys2Proof.Machine
end

