-- ==== Sys2Proof/Machine/Queue.lean ====
section
/-! DEFINITION. Doorbells and queue commands (05). -/
namespace Sys2Proof.Machine

/-! ## Doorbells -/

/-- The little-endian number that size bytes from an offset spell, in registers given as offset, bytes and value; bytes of none of them read 0 (R5). -/
def regBytes (regs : List (Nat × Nat × Nat)) (off size : Nat) : Nat :=
  ((List.range size).map fun k => match regs.find? fun r => r.1 ≤ off + k && off + k < r.1 + r.2.1 with
    | some r => r.2.2 / 2 ^ (8 * (off + k - r.1)) % 256 * 2 ^ (8 * k)
    | none => 0).foldl (· + ·) 0

/-- FENCED_GROUPS (R147): the groups not served, once a role is known; 0 at reset, as Table 5-3a gives it (DEDUCED, log entry 110). -/
def State.fencedGroups (s : State) : Nat := if s.role = roleInit then 0 else 0xFFFF - s.get TWN.SERVE % 65536

/-- The words of the status page of a logical device, by offset (Table 5-3a). -/
def State.statusPage (s : State) (tenant : Nat) : List (Nat × Nat × Nat) :=
  let q := s.quota tenant
  let st := s.get HRV.STATE
  let flags := b2n (st == hrvHarvesting || st == hrvSealed) * 16 + b2n (st == hrvRestoring) * 8 + s.get XLT.MEDIA_RO * 4 + b2n s.solo * 2 + b2n (s.role == rolePaired)
  [(0x000, 8, s.timeNs), (0x008, 4, s.fencedGroups * 65536 + flags), (0x00C, 4, s.get HRV.HRV_TIDE_NOW / 256), (0x010, 4, s.devBrine / 256),
   (0x014, 4, s.qe.statusSeq % 65536 * 65536), (0x018, 4, q.t1Quota), (0x01C, 4, q.t1Used), (0x020, 4, q.t2Quota), (0x024, 4, q.t2Used),
   (0x028, 8, q.substTotal), (0x030, 8, q.refuseTotal)]

/-- The status page of a function is brought up to date: STATUS_SEQ advances when it shows anything else than before (R147). -/
def State.statusUpdate (s : State) (p l : Nat) : State :=
  let vals := ((s.statusPage (s.get HP.TENANT p l)).filter fun r => r.1 != 0x014).map fun r => r.2.2
  if tget s.qe.statusShown (fnKey p l false) = some vals then s
  else { s with qe := { s.qe with statusSeq := (s.qe.statusSeq + 1) % 65536, statusShown := tset s.qe.statusShown (fnKey p l false) vals } }

/-- The registers of a doorbell page: ERR_REASON and STATE of a queue (Table 5-2), ISSUED and DONE of the flush doorbells (R145), nothing on an unmapped page (R139). -/
def State.dbRegs (s : State) (p l page : Nat) : List (Nat × Nat × Nat) :=
  match s.dbEntry p l page with
  | none => []
  | some e =>
    if e.typ = 1 then (match s.queue e.id with | some c => [(0x008, 4, c.errReason * 2 ^ 24 + c.state.code)] | none => [])
    else (s.qe.flush.filter fun f => f.1 / 512 == e.id).map fun f => (f.1 % 512 * 8, 8, f.2.1 * 2 ^ 32 + f.2.2)

/-- R139, R145, R147, Table 5-2: the accesses to BAR0 and BAR2 that no doorbell command is: a write to an unmapped doorbell page, a read of a page, a read of the status page, a read of the CXL Memory Device Status register, whose Media Status in [3:2] reads 0 Not Ready until Memory_Active and during a harvest, else 1 Ready (R119, Table 4-7; the bits PRESUMED, log entry 99). -/
def execDoorbellDrop (port : Port) (ld : Ld) (dbPage : BitVec 20) (acc : DbAccess) (s : State) : Res :=
  let p := port.val
  let l := ld.val
  match acc with
  | .write => .next (if (s.dbEntry p l dbPage.toNat).isSome then s else s.inc QE.QE_DB_DROP)
  | .read off wide => .next (s.emit (.dbRead p l off.toNat (regBytes (s.dbRegs p l dbPage.toNat) off.toNat (if wide then 8 else 4))))
  | .memStatus => .next (s.emit (.dbRead p l 0 (b2n (s.hp.memoryActive && !s.frozen) * 4)))
  | .status off wide =>
    let s := s.statusUpdate p l
    .next (s.emit (.dbRead p l off.toNat (regBytes (s.statusPage (s.get HP.TENANT p l)) off.toNat (if wide then 8 else 4))))

/-- The queue of a doorbell page: mapped as TYPE 1, and existing and not DISABLED (R138). -/
def State.dbQueue (s : State) (p l page : Nat) : Option (Nat × QueueCtx) :=
  match s.dbEntry p l page with
  | some e =>
    if e.typ = 1 then (match s.queue e.id with | some c => if c.valid && c.state != .disabled then some (e.id, c) else none | none => none) else none
  | none => none

/-- R142: a new SQ tail, or an error. -/
def execSqDoorbell (port : Port) (ld : Ld) (dbPage : BitVec 20) (tail : BitVec 16) (s : State) : Res :=
  if (s.dbEntry port.val ld.val dbPage.toNat).isNone then .next (s.inc QE.QE_DB_DROP)
  else match s.dbQueue port.val ld.val dbPage.toNat with
  | none => .next s
  | some (q, c) =>
    if !c.checkOk then .next (s.queueError q 6)
    else if c.sqDepth ≤ tail.toNat then .next (s.queueError q 1)
    else .next (s.putQueue q { c with sqTail := tail.toNat })

/-- R142, R163: a new CQ head, or an error; ARM arms after it, and raises at once when entries beyond the head are written. -/
def execCqDoorbell (port : Port) (ld : Ld) (dbPage : BitVec 20) (head : BitVec 16) (arm : Bool) (s : State) : Res :=
  if (s.dbEntry port.val ld.val dbPage.toNat).isNone then .next (s.inc QE.QE_DB_DROP)
  else match s.dbQueue port.val ld.val dbPage.toNat with
  | none => .next s
  | some (q, c) =>
    if !c.checkOk then .next (s.queueError q 6)
    else if c.cqDepth ≤ head.toNat || c.cqUsed < (head.toNat + c.cqDepth - c.cqHead) % c.cqDepth then .next (s.queueError q 2)
    else
      let c := { c with cqHead := head.toNat }
      let s := s.putQueue q c
      if !arm then .next s
      else if c.cqUsed = 0 then .next (s.putQueue q { c with armed := true })
      else .next (s.notify q)

/-- R144: a write of 4 or 8 bytes to a flush doorbell issues a barrier on its region when the tenant matches; any other write counts in the tenant's refusal counter. -/
def execFlushDoorbell (port : Port) (ld : Ld) (dbPage : BitVec 20) (slot : BitVec 9) (size : Nat) (s : State) : Res :=
  let p := port.val
  let l := ld.val
  match s.dbEntry p l dbPage.toNat with
  | none => .next (s.inc QE.QE_DB_DROP)
  | some e =>
    if e.typ ≠ 2 then .next s
    else
      let tenant := s.get HP.TENANT p l
      let ix := e.id * 512 + slot.toNat
      if size ≠ 4 && size ≠ 8 then .next (s.refusal tenant)
      else match s.xlt.regions.find? fun r => r.2.live && r.2.flushDb == ix && r.2.tenant == tenant with
      | none => .next (s.refusal tenant)
      | some (r, _) =>
        let (s, _) := s.barrierIssue (.flush ix p l (if e.vecEn then some e.vector else none)) [r] (fun _ => true) fun _ => true
        let (i, d) := (tget s.qe.flush ix).getD (0, 0)
        .next { s with qe.flush := tset s.qe.flush ix ((i + 1) % 2 ^ 32, d) }

/-! ## Data commands: QE fetches them, the movers run them (R152, R168) -/

def State.fetchMove (s : State) (qid : BitVec 20) (e : SqEntry) (op : Nat) : Res := .next (s.fetch qid.toNat e op fun s _ => s)

def execCopy (qid : BitVec 20) (entry : SqEntry) (s : State) : Res := s.fetchMove qid entry 0x01
def execZero (qid : BitVec 20) (entry : SqEntry) (s : State) : Res := s.fetchMove qid entry 0x02
def execRwrite (qid : BitVec 20) (entry : SqEntry) (s : State) : Res := s.fetchMove qid entry 0x30
def execRread (qid : BitVec 20) (entry : SqEntry) (s : State) : Res := s.fetchMove qid entry 0x31

/-- Whether a mirror record lies in a byte range of a region; length 0 is the whole region. -/
def State.inRange (s : State) (region off len : Nat) (r : MirrorRec) : Bool :=
  if len = 0 then true
  else (rangeBlocks off len).any fun k => match tget s.xlt.bmap (bmeKey region k) with
    | some b => b.pbn == pbnOf r.sector && (let o := k * blkBytes + r.sector % 1024 * 64; o < off + len && off < o + 64)
    | none => false

/-- Whether a pool block lies in a byte range of a region; length 0 is the whole region. -/
def State.blockInRange (s : State) (region off len p : Nat) : Bool :=
  len == 0 || (rangeBlocks off len).any fun k => match tget s.xlt.bmap (bmeKey region k) with | some b => b.pbn == p | none => false

/-- PERSIST (R15-R19, R152): a barrier over a range, the whole region, or every class D region of the tenant. -/
def execPersist (qid : BitVec 20) (entry : SqEntry) (s : State) : Res :=
  .next (s.fetch qid.toNat entry 0x03 fun s x =>
    match x.cmd with
    | .persist h off len all =>
      let issue (s : State) (regions : List Nat) (f : MirrorRec → Bool) (g : Nat → Bool) : State :=
        let (s, id) := s.barrierIssue (.command x.qid x.cmdId) regions f g
        s.modCmd x.qid x.cmdId fun y => if y.order = x.order then { y with barrier := some id } else y
      if all then issue s ((s.xlt.regions.filter fun e => e.2.live && e.2.tenant == x.tenant && e.2.pclass == 1).map Prod.fst) (fun _ => true) fun _ => true
      else
        let n := len.toNat
        let o := if n = 0 then 0 else off.toNat
        (match s.walkQueue x.tenant h o n false with
         | (s, .error st) => s.done x (failResult st)
         | (s, .ok _) => issue s [handleId h] (s.inRange (handleId h) o n) (s.blockInRange (handleId h) o n))
    | _ => s)

/-- The pool blocks of a range of a region, with whether each was never written; an error of check 8 ends it. -/
def State.blocksOf (s : State) (region : Nat) (d : Region) (off len : Nat) : State × Except Status (List (Nat × Bool)) :=
  (rangeBlocks off len).foldl (fun (a : State × Except Status (List (Nat × Bool))) k =>
    match a.2 with
    | .error st => (a.1, .error st)
    | .ok l =>
      match a.1.getBme region d k with
      | (s, some b) => (s, .ok (l ++ [(b.pbn, b.zero)]))
      | (s, none) => (s, .error .internal)) (s, .ok [])

/-- RAISE (R194, R198, R201): pin every block of the range; the command waits for those that are not resident. A quiesced TIER takes no command (R52). -/
def execRaise (qid : BitVec 20) (entry : SqEntry) (s : State) : Res :=
  if s.resting tierPage then .next s else
  .next (s.fetch qid.toNat entry 0x10 fun s x =>
    match x.cmd with
    | .raise h off len =>
      (match s.walkShared x.tenant h off.toNat len.toNat with
       | (s, .error st) => s.done x (failResult st)
       | (s, .ok d) =>
         match s.blocksOf (handleId h) d off.toNat len.toNat with
         | (s, .error st) => s.done x (failResult st)
         | (s, .ok bs) =>
           let r := (bs.zipIdx).foldl (fun (a : State × Table Nat × Nat × Option (Nat × Status)) (b, k) =>
             match a.1.pin x.tenant b.1 (handleId h) b.2 with
             | (s, .refused st) => (s, a.2.1, a.2.2.1 + 1, firstErr a.2.2.2 k st)
             | (s, _) => (s, a.2.1 ++ [(k, b.1)], a.2.2)) (s, [], 0, none)
           (r.1.modCmd x.qid x.cmdId fun y => if y.order = x.order then { y with waitBlocks := r.2.1, refused := r.2.2.1, raiseErr := r.2.2.2 } else y).raiseSweep)
    | _ => s)

/-- EVICT (R200): the tenant's pin goes from every block of the range. -/
def execEvict (qid : BitVec 20) (entry : SqEntry) (s : State) : Res :=
  if s.resting tierPage then .next s else
  .next (s.fetch qid.toNat entry 0x11 fun s x =>
    match x.cmd with
    | .evict h off len =>
      (match s.walkShared x.tenant h off.toNat len.toNat with
       | (s, .error st) => s.done x (failResult st)
       | (s, .ok d) =>
         match s.blocksOf (handleId h) d off.toNat len.toNat with
         | (s, .error st) => s.done x (failResult st)
         | (s, .ok bs) =>
           let (s, n) := bs.foldl (fun (a : State × Nat) b => let (s, r) := a.1.evictBlock x.tenant b.1; (s, a.2 + b2n r)) (s, 0)
           s.raiseSweep.sluSweep.done x { status := if n = 0 then .ok else .retainedShared, result0 := 0, detail := n, prefixLen := 0 })
    | _ => s)

/-! ## Sluice commands (R214-R223) -/

/-- The fields of a list entry (Table 7-5). -/
structure ListEntry where
  handle : BitVec 40
  off : Nat
  len : Nat
  dueUs : Nat
  holdMs : Nat
  trigger : Nat
deriving DecidableEq, Repr

/-- Read a list entry; none when it breaks R215 at its place k. -/
def listEntry (k : Nat) (e : BitVec 256) : Option ListEntry :=
  let f (lo n : Nat) : Nat := (e.extractLsb' lo n).toNat
  let x : ListEntry := { handle := e.extractLsb' 0 40, off := f 64 64, len := f 128 40, dueUs := f 192 32, holdMs := f 248 8, trigger := f 224 16 }
  if f 40 24 ≠ 0 || f 168 24 ≠ 0 || f 240 8 ≠ 0 || x.len = 0 || x.dueUs = 0xFFFF_FFFF || (x.trigger ≠ 0xFFFF && k ≤ x.trigger) then none
  else some x

/-- The list check of one entry (R216, Table 3-5): its place in the schedule, and the error of an entry that is MISSED at once. -/
def State.sluEntry (s : State) (tenant base : Nat) (x : ListEntry) : State × SluEntry × Option Status :=
  let mk (blocks : List (Nat × Bool)) (bad : Bool) : SluEntry := {
    region := handleId x.handle, blocks := blocks.map Prod.fst, due := base + x.dueUs * 1000, dueUs := x.dueUs, hold := x.holdMs,
    trigger := if x.trigger = 0xFFFF then none else some x.trigger, fired := false, elig := false,
    state := if bad then .missed else .waiting, holdEnded := bad }
  match s.walkShared tenant x.handle x.off x.len with
  | (s, .error st) => (s, mk [] true, some st)
  | (s, .ok d) =>
    match s.blocksOf (handleId x.handle) d x.off x.len with
    | (s, .error st) => (s, mk [] true, some st)
    | (s, .ok bs) => (s, mk bs false, none)

/-- When an entry without a trigger becomes eligible (R218), in ns. -/
def State.eligibleAt (s : State) (e : SluEntry) : Nat := e.due - s.get TIER.SLUICE_LEAD_MS * 1000000

/-- The entries eligible now, in order of due time and then of list index (R218). -/
def State.sluNow (s : State) (x : Schedule) : List Nat :=
  let t := (List.range x.entries.length).filterMap fun i => (x.entries[i]?).bind fun e =>
    if e.state == .waiting && e.trigger.isNone && s.eligibleAt e ≤ s.timeNs then some (e.due * 2 ^ 16 + i, i) else none
  (t.foldl (fun (a : Table Nat) p => tset a p.1 p.2) []).map Prod.snd

/-- TIER reads the list of a SLUICE from pool memory, two entries in a sector (R215): the entries, or the status of a sector that cannot be read. -/
def State.listRead (s : State) (region : Nat) (d : Region) (off count : Nat) : State × Except Status (List (BitVec 256)) :=
  (List.range ((count + 1) / 2)).foldl (fun (a : State × Except Status (List (BitVec 256))) k =>
    match a.2 with
    | .error st => (a.1, .error st)
    | .ok l =>
      match a.1.resolve region d (off + 64 * k) with
      | (s, .error st) => (s, .error st)
      | (s, .ok pl) =>
        let (s, v) := s.placeRead pl
        if v.poison then (s, .error .mediaError)
        else (s, .ok ((l ++ [v.data.extractLsb' 0 256, v.data.extractLsb' 256 256]).take count))) (s, .ok [])

/-- End a running schedule (R223, R224): unresolved entries are CANCELLED, its pins are dropped as if by EVICT, it runs no more. -/
def State.sluCancel (s : State) (t tag : Nat) (complete : Bool) : State :=
  match s.sched t tag with
  | none => s
  | some x =>
    let s := (x.entries.filter fun e => !e.holdEnded && e.state != .waiting).foldl (fun s e => e.blocks.foldl (State.evictPin · t ·) s) s
    let x := { x with entries := x.entries.map fun (e : SluEntry) => if e.state.done then e else { e with state := .cancelled } }
    let s := if complete && !x.completed then s.cmdResult x.qid x.cmdId (x.result .aborted) else s
    { s with tier.schedules := s.tier.schedules.filter fun y => !(y.tenant == t && y.tag == tag) }.raiseSweep.sluSweep

/-- SLUICE_CANCEL (R223). -/
def execSluiceCancel (qid : BitVec 20) (entry : SqEntry) (s : State) : Res :=
  .next (s.fetch qid.toNat entry 0x13 fun s x =>
    match x.cmd with
    | .sluiceCancel tag =>
      if (s.sched x.tenant tag.toNat).isSome then (s.sluCancel x.tenant tag.toNat true).done x okResult else s.done x (failResult .aborted)
    | _ => s)

/-! ## Region operations and registrations -/

/-- A change to a region descriptor is done when the invalidation issued for it completes (R74). -/
def State.regionInval (s : State) (id : Nat) (w : InvalFor) : State := s.inval 0 id w

/-- R68, R70, R74, R193: the handle is the answer once the invalidation of the slot is complete. -/
def execRegionCreate (qid : BitVec 20) (entry : SqEntry) (s : State) : Res :=
  .next (s.fetch qid.toNat entry 0x20 fun s x =>
    match x.cmd with
    | .regionCreate id size d0 d1 deadline w => 
      (match s.regionCreate x.tenant id.toNat size d0 d1 deadline w with
       | (s, r) => if r.status = .ok then s.regionInval (r.result0 / 65536) (.create x.qid x.cmdId r.result0) else s.done x r)
    | _ => s)

/-- The checks of a handle that a region operation names (R66, R68, Table 3-5). -/
def State.regionOp (s : State) (x : Cmd) (h : BitVec 40) (k : State → Region → State) : State :=
  match s.walkQueue x.tenant h 0 0 false with
  | (s, .error st) => s.done x (failResult st)
  | (s, .ok d) => k s d

def execRegionGrow (qid : BitVec 20) (entry : SqEntry) (s : State) : Res :=
  .next (s.fetch qid.toNat entry 0x21 fun s x =>
    match x.cmd with
    | .regionGrow h size => s.regionOp x h fun s _ =>
      (match s.regionGrow x.tenant (handleId h) size.toNat with
       | (s, some st) => s.done x (failResult st)
       | (s, none) => s.regionInval (handleId h) (.command x.qid x.cmdId))
    | _ => s)

/-- R73: refused with ABORTED while anything names the region; else VALID falls, and the blocks go when the invalidation is complete. -/
def execRegionDelete (qid : BitVec 20) (entry : SqEntry) (s : State) : Res :=
  .next (s.fetch qid.toNat entry 0x22 fun s x =>
    match x.cmd with
    | .regionDelete h => s.regionOp x h fun s d =>
      if s.regionNamed (handleId h) then s.done x (failResult .aborted)
      else { s with xlt.regions := tset s.xlt.regions (handleId h) (Region.seal { d with valid := false }) }.regionInval (handleId h) (.delete x.qid x.cmdId (handleId h))
    | _ => s)

/-- R8-R10, R74, R213. -/
def execRegionSet (qid : BitVec 20) (entry : SqEntry) (s : State) : Res :=
  .next (s.fetch qid.toNat entry 0x23 fun s x =>
    match x.cmd with
    | .regionSet h d0 d1 deadline w mask => s.regionOp x h fun s _ =>
      let id := handleId h
      (match s.regionSet id d0 d1 deadline w mask with
       | (s, .error st) => s.done x (failResult st)
       | (s, .ok (a, b)) => s.regionInval id (if b = 2 && a ≠ 2 then .toV x.qid x.cmdId id else if a = 1 && b = 0 then .toM x.qid x.cmdId id else .command x.qid x.cmdId))
    | _ => s)

/-- R84: the registration is OPEN and the command has its key. -/
def execRegOpen (qid : BitVec 20) (entry : SqEntry) (s : State) : Res :=
  .next (s.fetch qid.toNat entry 0x24 fun s x =>
    match x.cmd with
    | .regOpen h base len w r any node =>
      (match s.walkQueue x.tenant h base.toNat len.toNat false with
       | (s, .error st) => s.done x (failResult st)
       | (s, .ok d) => let (s, r) := s.regOpen x.tenant d (handleId h) base.toNat len.toNat w r any node.toNat; s.done x r)
    | _ => s)

/-- R92, R96: the command ends when the registration is FREE. A key of another tenant is refused. -/
def execRevoke (qid : BitVec 20) (entry : SqEntry) (s : State) : Res :=
  .next (s.fetch qid.toNat entry 0x25 fun s x =>
    match x.cmd with
    | .revoke key =>
      if (s.registrationAt (keyIndex key.toNat)).tenant ≠ x.tenant then s.done x (failResult .accessViolation)
      else (match s.revoke key.toNat with
        | (s, .ok) => s
        | (s, st) => s.done x (failResult st))
    | _ => s)

/-! ## ABORT, NOP, ends of commands -/

/-- End a command in flight with a status (R150, R158): mover commands stop at their step boundaries, a schedule is cancelled, any other has its result, RAISE with the blocks refused (Table 5-5). -/
def State.endCmd (s : State) (x : Cmd) (st : Status) : State :=
  if x.result.isSome then s
  else if x.cmd.moves then
    ({ s with qe.cmds := s.qe.cmds.map fun (y : Cmd) => if y.order = x.order then { y with stop := true, ended := some (y.ended.getD st), endedAt := if y.ended.isSome then y.endedAt else s.timeNs } else y }).movSettle
  else match s.tier.schedules.find? fun y => y.qid == x.qid && y.cmdId == x.cmdId && !y.completed with
  | some y => s.sluCancel y.tenant y.tag true
  | none => { s with qe.cmds := s.qe.cmds.map fun y => if y.order = x.order then { y with result := some { failResult st with detail := x.refused } } else y }

/-- ABORT (R150, Table 5-5): every other command in flight of the queue with that CMD_ID ends ABORTED; one that has its result already has completed (R157), but one that a terminal fault has ended in this cycle is counted (Table 6-3): a cycle is one value of TIME_NS (DESIGN CHOICE, log entry 111). -/
def execAbort (qid : BitVec 20) (entry : SqEntry) (s : State) : Res :=
  .next (s.fetch qid.toNat entry 0x3E fun s x =>
    match x.cmd with
    | .abort target =>
      let hit := s.qe.cmds.filter fun y => y.qid == x.qid && y.cmdId == target.toNat && y.order != x.order && (y.result.isNone || (y.fault.isSome && y.faultAt == s.timeNs))
      let s := hit.foldl (fun s y => s.endCmd y .aborted) s
      { s with qe.cmds := s.qe.cmds.map fun y => if y.order = x.order then { y with result := some { okResult with result0 := hit.length } } else y }
    | _ => s)

def execNop (qid : BitVec 20) (entry : SqEntry) (s : State) : Res := .next (s.fetch qid.toNat entry 0x3F fun s x => s.done x okResult)

/-- R151: an opcode that is none of Table 5-4. fetch gives it LENGTH_ERROR. -/
def execUnknownOpcode (qid : BitVec 20) (entry : SqEntry) (s : State) : Res :=
  if (readCmd entry).isSome && (QEntry.decode entry).isSome then .next s
  else .next (s.fetch qid.toNat entry (getAt entry 0 8).toNat fun s _ => s)

/-- R155: a command that has its result, and on which no mover works, is posted. -/
def execCommandCompletion (qid : BitVec 20) (cmdId : BitVec 16) (s : State) : Res :=
  let s := s.raiseSweep
  match s.qe.cmds.find? fun x => x.qid == qid.toNat && x.cmdId == cmdId.toNat && x.result.isSome && !(x.steps.any fun r => r.state.busy) with
  | some x => (match x.result with | some r => .next (s.post x r) | none => .next s)
  | none => .next s

/-- R158: the timeout of a command that has one and has not completed. -/
def execCmdTimeout (qid : BitVec 20) (cmdId : BitVec 16) (s : State) : Res :=
  match s.qe.cmds.find? fun x => x.qid == qid.toNat && x.cmdId == cmdId.toNat && x.result.isNone with
  | some x => if x.cmd.timed && x.timeout != 0 then .next (s.endCmd x .timeout) else .next s
  | none => .next s

/-- R162: the coalescing time has passed since the first unnotified completion. -/
def execCoalTimeExpiry (qid : BitVec 20) (s : State) : Res :=
  match s.queue qid.toNat with
  | some c => if c.armed && c.coalTime != 0 && c.unnotified != 0 then .next (s.notify qid.toNat) else .next s
  | none => .next s

/-- R15-R19, R145, R146: a barrier ends; its command completes, its flush doorbell's DONE advances unless it is fenced, its class change completes. -/
def execPersistBarrierComplete (id : Nat) (s : State) : Res :=
  match s.qe.barriers.find? fun b => b.id == id with
  | none => .next s
  | some b =>
    if !s.barrierReady b then .next s
    else
      let fenced := s.barrierFenced b
      let s : State := { s with qe.barriers := s.qe.barriers.filter fun x => x.id != id }
      let ended (x : Cmd) : Cmd :=
        if x.barrier = some id ∧ x.result.isNone then { x with result := some (if fenced then failResult .fenced else okResult) } else x
      let fin (s : State) : State := { s with qe.cmds := s.qe.cmds.map ended }
      match b.who with
      | .command .. | .classChange .. => .next (fin s)
      | .flush ix p l v =>
        if fenced then .next s
        else
          let (i, d) := (tget s.qe.flush ix).getD (0, 0)
          let s : State := { s with qe.flush := tset s.qe.flush ix (i, (d + 1) % 2 ^ 32) }
          match v with
          | some v => .next (s.raiseVector p l false v)
          | none => .next s

/-! ## QE_QCTL (R137, R165, R167) -/

/-- The context of a queue right after enable (R137). -/
def QueueCtx.enabled (c : QueueCtx) : QueueCtx :=
  { c with state := .active, sqHead := 0, sqTail := 0, cqHead := 0, cqTail := 0, cqPhase := true, armed := false, inflight := 0, unnotified := 0, errReason := 0 }

/-- Whether the warden lets a queue be enabled (R135, R136): the ring region is class V, the tenant's, and holds both rings, which begin at pages. -/
def State.ringOk (s : State) (c : QueueCtx) : Bool :=
  let r := s.regionAt (c.ringHandle / 65536)
  c.sqOff % 4096 == 0 && c.cqOff % 4096 == 0 && r.live && r.pclass == 2 && r.tenant == c.tenant && r.gen == c.ringHandle % 65536 &&
  c.sqOff + c.sqDepth * 64 ≤ r.size * blkBytes && c.cqOff + c.cqDepth * 32 ≤ r.size * blkBytes

/-- QE_QCTL on a queue: 1 ENABLE, 2 PAUSE, 3 RESET, 4 DISABLE; RESET and DISABLE take until INFLIGHT is 0. -/
def State.qctl (s : State) (op q : Nat) : State :=
  if s.qe.qctl.isSome then s.blkErr qePage 16 4
  else match s.queue q with
  | none => s
  | some c =>
    if !c.valid then s
    else match op with
    | 1 => if !c.checkOk then s.queueError q 6
           else if (c.state = .disabled ∨ c.state = .paused) ∧ s.ringOk c = true then s.putQueue q c.enabled else s
    | 2 => if c.state = .active then s.putQueue q { c with state := .paused } else s
    | 3 => ({ s with qe.qctl := some (q, true) }).put QE.BUSY 1
    | 4 => if c.state = .error then s else ({ s with qe.qctl := some (q, false) }).put QE.BUSY 1
    | _ => s

/-- The end of RESET (true) or DISABLE once INFLIGHT is 0. A RESET queue whose rings its region no longer holds is DISABLED (R135), one whose CHECK fails is in ERROR with CTX_CHECK (R136); only RESET leaves ERROR (R165). -/
def State.qctlDone (s : State) (q : Nat) (reset : Bool) : State :=
  match s.queue q with
  | some c =>
    if s.qe.qctl = some (q, reset) && c.inflight = 0 then
      let s : State := ({ s with qe.qctl := none }).put QE.BUSY 0
      if reset && !c.checkOk then (s.putQueue q { c with state := .disabled }).queueError q 6
      else s.putQueue q (if reset && s.ringOk c then c.enabled else if !reset && c.state == QState.error then c else { c with state := .disabled })
    else s
  | none => s

def execQueueResetDone (qid : BitVec 20) (s : State) : Res := .next (s.qctlDone qid.toNat true)
def execQueueDisableDone (qid : BitVec 20) (s : State) : Res := .next (s.qctlDone qid.toNat false)

end Sys2Proof.Machine
end

