-- ==== Sys2Proof/Machine/Mover.lean ====
section
/-! DEFINITION. The movers (06): WALK, pre-emption, resumption, OFFLINE. -/
namespace Sys2Proof.Machine

/-- Show in a mover's registers what it works on (Table 6-5). -/
def State.moverShow (s : State) (m : Nat) (x : Cmd) (k : Nat) : State :=
  (((((s.put MOV.SCLASS x.sclass m).put MOV.QID x.qid m).put MOV.CMD_ID x.cmdId m).put MOV.OPCODE x.cmd.opcode.toNat m).put MOV.STEP k m)

/-- WALK of a step that a mover holds (R172): a mover fault, a refusal, a hold for a handoff, or MOVE. -/
def State.runWalk (s : State) (m : Nat) (x : Cmd) (k : Nat) (parity : Bool) : State :=
  if parity then s.moverBroken m x.qid x.cmdId k
  else if s.stepHeldByHandoff x then s.stall m x.qid x.cmdId k 0x2
  else match s.walkStep x k with
  | (s, .error st) => s.moverStop m x.qid x.cmdId k st
  | (s, .ok (d, e)) => (s.modCmd x.qid x.cmdId fun y => match y.step k with | some r => y.setStep { r with dst := d, src := e } | none => y).put MOV.STATE movMove m

/-- The command that is pre-empted when better work finds no free mover (R160): the lowest class, the most recently dispatched. -/
def State.preemptTarget (s : State) : Option Cmd :=
  (s.qe.cmds.filter fun x => 0 < s.moversOn x).foldl (fun (a : Option Cmd) x => match a with
    | none => some x
    | some y => if y.sclass < x.sclass || (y.sclass == x.sclass && y.dispatched < x.dispatched) then some x else some y) none

/-- Whether better work asks for a mover at the end of a step, and no mover is free for it (R160): one between two steps of a command that it stays with is not. -/
def State.preempts (s : State) (m : Nat) (x : Cmd) : Bool :=
  x.result.isNone && (x.claimable m).isSome && !((List.range 64).any fun j => j != m && !s.flag MOV.OFFLINE j && s.get MOV.STATE j == movIdle && (s.keptFor j).isNone) &&
  (s.qe.cmds.any fun y => y.sclass ≤ 1 && y.sclass < x.sclass && s.wantsMover y m)

/-- Whether a mover that ends a step of a command is pre-empted there (R160, R177): its command is the one that is. -/
def State.preempted (s : State) (m : Nat) (x : Cmd) : Bool :=
  s.preempts m x && (match s.preemptTarget with | some y => y.order == x.order | none => false)

/-- R178, R179, R180: a stall is over once no read of the step waits, a hold once the step is the first held of its queue and its destination takes it: a parked step rejoins its class, a mover that waits in place walks again. -/
def execParkedStepResume (qid : BitVec 20) (cmdId : BitVec 16) (step : Nat) (s : State) : Res :=
  let q := qid.toNat
  let c := cmdId.toNat
  let waits := s.tier.reads.any fun r => r.who == .step q c step
  match s.cmd q c with
  | none => .next s
  | some x =>
    if waits || s.frozen then .next s
    else match x.step step with
    | none => .next s
    | some r =>
      match r.state with
      | .parked => if s.mov.holds.contains (q, c, step) && !s.holdOver x step then .next s else .next (s.modCmd q c fun x => x.setStep { r with state := .ready })
      | .waiting m =>
        if s.mov.holds.contains (q, c, step) && !s.holdOver x step then .next s
        else .next (((s.modCmd q c fun x => x.setStep { r with state := .running m }).put MOV.STATE movWalk m).runWalk m x step false)
      | _ => .next s

/-- MOVER_OFFLINE by its control write (Table 6-3): at once for an idle mover, at the end of its step else; back to IDLE when cleared. -/
def State.moverOffline (s : State) (m : Nat) (v : Bool) : State :=
  if v then
    if s.flag MOV.OFFLINE m || s.mov.offlineNext.contains m then s
    else if (tget s.mov.runs m).isSome then { s with mov.offlineNext := s.mov.offlineNext ++ [m] }
    else s.moverOff m
  else
    let s : State := { s with mov.offlineNext := s.mov.offlineNext.filter fun x => x != m }
    if s.flag MOV.OFFLINE m then (s.put MOV.OFFLINE 0 m).put MOV.STATE movIdle m else s

end Sys2Proof.Machine
end

