-- ==== Sys2Proof/Machine/TwinOps.lean ====
section
/-! DEFINITION. The operations of TWN (12): receiving, ordering and applying records, digests, solo and fenced, claims, handoff, resync. -/
namespace Sys2Proof.Machine

/-! ## Records -/

/-- Send a record while the link carries records (R377). -/
def State.twinSend (s : State) (typ grp seq addr stamp : Nat) (vals : List SectorVal) : State :=
  if s.linkUp then s.emit (.twin typ grp seq addr stamp vals) else s

/-- Count a record received on a bundle (R375); whether it goes on: the bundle is in use and the tag passes. A failed tag counts (Table 14-5). -/
def State.recv (s : State) (h : TwinHdr) (k : State → State) : State :=
  if !s.bitOf TWN.BUNDLES h.bundle.val then s
  else
    let s : State := { s with twn.rxCount := tset s.twn.rxCount h.bundle.val ((tget s.twn.rxCount h.bundle.val).getD 0 + 1) }
    if h.tagOk then k s else s.inc CIP.AUTH_FAIL_CNT

/-- The 64-bit digest over sequence, address, stamp and integrity tags (R400): the first bytes of SHA3-256. PRESUMED: R400 says SHA3-derived and no more (log entry 16). -/
def digestOf (l : List RxApplied) : Nat :=
  ofLe ((Config.sha3 32 (l.flatMap fun r => le 8 r.seq ++ le 8 r.addr ++ le 8 r.stamp ++ r.tags.flatMap (le 8))).take 8)

/-- The replay records of an interval as the digest takes them. -/
def State.replayDigest (s : State) (a b : Nat) : Nat :=
  digestOf ((s.twn.replay.filter fun r => a ≤ r.seq && r.seq ≤ b).map fun r =>
    { seq := r.seq, addr := r.sector * 64, stamp := r.stamp, tags := [integrityTag r.sector r.val.data] })

/-- Drop replay records that are acknowledged and whose interval is closed (R376). -/
def State.replayPrune (s : State) : State :=
  { s with twn.replay := s.twn.replay.filter fun r => !(r.acked && r.seq < s.twn.digestFrom) }

/-! ## Twin brine -/

/-- The region that holds a pool block. -/
def State.pbnRegion (s : State) (p : Nat) : Nat := match s.xlt.bmap.find? fun e => e.2.pbn == p with | some e => e.1 / 2 ^ 32 | none => 2 ^ 24
/-- The claim group of a pool block; the system area belongs to none and stands as 16 (R476). -/
def State.pbnGroup (s : State) (p : Nat) : Nat := if s.isSys p then sysGroup else (s.regionAt (s.pbnRegion p)).grp

/-- Admission of a mirror record (R205): a unit that is brine already, or room under the tide of its class. -/
def State.mirrorAdmits (s : State) (classM : Bool) (w : Nat) : Bool :=
  (match tget s.twn.mirror w with | some m => m.dirty | none => false) || s.tideAdmits (if classM then 0 else 1) 1

/-- Place a mirror record's sectors as twin brine (R379); a record older than what is held adds nothing (R405). -/
def State.mirrorPut (s : State) (classM : Bool) (grp addr stamp : Nat) (vals : List SectorVal) : State :=
  let n := addr / 64
  let w := unitOf n
  let old := (tget s.twn.mirror w).getD { stamp := 0, grp := grp, region := s.pbnRegion (w / 16), cls := 1, vals := [], wb := none, dirty := true }
  if stamp < old.stamp then s
  else
    let tab := (vals.foldl (fun (a : Table SectorVal × Nat) v => (tset a.1 ((n + a.2) % 64) v, a.2 + 1)) (old.vals, 0)).1
    let s : State := { s with twn.mirror := tset s.twn.mirror w { old with stamp := stamp, grp := grp, vals := tab, cls := if classM then 0 else old.cls, dirty := true } }
    (List.range vals.length).foldl (fun s k => s.dramAccept (s.mirrorAddr (n + k)) (2 * (n + k) + 1) 8) s

/-- Put a unit into T2 without its being brine (R405): none is a ZERO marker. -/
def State.resyncPut (s : State) (w stamp : Nat) (vals : Option (List SectorVal)) : State :=
  let newer : Bool := match tget s.twn.mirror w with | some m => stamp < m.stamp | none => false
  let s := if newer then s
    else
      let l := vals.getD []
      s.t2PutUnit w stamp ((List.range 64).filterMap fun k => (l[k]?).bind fun v => if v = zeroSec then none else some (k, v))
  let p := w / 16
  let got := (tget s.twn.resyncGot p).getD []
  let got := if got.contains (w % 16) then got else got ++ [w % 16]
  if got.length < 16 then { s with twn.resyncGot := tset s.twn.resyncGot p got }
  else ({ s with twn.resyncGot := tdel s.twn.resyncGot p }).twinSend 0x14 0 0 p 0 []

/-! ## Resync (R403-R407) -/

/-- The blocks that hold brine, local or twin. -/
def State.brineBlocks (s : State) : List Nat :=
  ascending ((s.tier.blocks.filter fun e => 0 < e.2.brine).map Prod.fst ++ (s.twn.mirror.filter fun e => e.2.dirty).map fun e => e.1 / 16)

/-- A unit as T1 or T2 holds it: stamp and sectors. -/
def State.unitNow (s : State) (w : Nat) : Nat × List SectorVal :=
  match s.block (w / 16) with
  | some b =>
    if b.unitPresent (w % 16) then (((tget b.units (w % 16)).getD freshUnit).stamp, (unitSecs w).map s.secValue)
    else (s.t2Stamp w, (unitSecs w).map s.t2Read)
  | none => (s.t2Stamp w, (unitSecs w).map s.t2Read)

/-- RESYNC_DATA for every unit of every marked block (R404), ZERO markers as records without sectors. -/
def State.resyncSend (s : State) : State :=
  if !s.twn.scanDone || !s.mirroring then s
  else s.twn.rsm.foldl (fun s p => (List.range 16).foldl (fun s u =>
    let (st, vs) := s.unitNow (p * 16 + u)
    let seq := s.twn.txSeq + 1
    ({ s with twn.txSeq := seq }).twinSend 0x13 (s.pbnGroup p) seq (p * 16 + u) st (if st = 0 && vs.all (· == zeroSec) then [] else vs)) s) s

/-- The pair is in sync again (R372, R407): PAIRED, CLAIM_W released, the partner told; an INCOMPLETE restore is made good (R365). -/
def State.enterPaired (s : State) : State :=
  let s := (s.put TWN.STATE rolePaired).put TWN.IN_SYNC 1
  let s := if s.flag TWN.CLAIM_W_DRV then (s.put TWN.CLAIM_W_DRV 0).pinOut "CLAIM_W" 0 none else s
  let s : State := { s.fastWrote 4 with twn := { s.twn with syncInSync := true, full := false } }
  let s : State := if s.get HRV.STATE = hrvIncomplete then { (s.put HRV.STATE hrvNormal) with hp.memoryActive := true } else s
  s.twinSend 0x08 0 0 0 rolePaired []

/-- The source looks whether resync is over (R407). -/
def State.resyncCheck (s : State) : State := if s.role = roleSrc && s.twn.scanDone && s.twn.rsm.isEmpty then s.enterPaired else s

/-! ## Claims -/

/-- Store SERVE, and whether this twin serves every group in its sync record (R391). -/
def State.setServe (s : State) (mask : Nat) : State :=
  { (s.put TWN.SERVE mask).fastWrote 4 with twn.syncAll := mask == 0xFFFF }

/-- Writes and steps of a group that will never be acknowledged here (R386, R399, Table 6-3): issued class M steps strike FENCED, no Cmp and no completion leaves, a GPF that covers some of them knows of the fencing (R115). -/
def State.dropUnacked (s : State) (hit : Nat → Bool) : State :=
  -- the system area is never fenced (R476)
  let hit (g : Nat) : Bool := g != sysGroup && hit g
  let open' := s.twn.replay.filter fun r => !r.acked && hit r.grp
  let isOpen (m : Nat) : Bool := open'.any fun r => r.id == m
  let gone (m : Option Nat) : Bool := match m with | some m => isOpen m | none => false
  let s : State := { s with hp := { s.hp with cmps := s.hp.cmps.filter fun c => !gone c.mirror, mbWaits := s.hp.mbWaits.filter fun w => !gone w.mirror } }
  let cut (x : LdState) : LdState := match x.gpf with
    | some g =>
      let left := g.blocks.filter fun p => !hit (s.pbnGroup p)
      { x with gpf := some { g with blocks := left, fenced := g.fenced || g.covered.any isOpen || left.length != g.blocks.length } }
    | none => x
  let s : State := { s with hp.lds := tmap s.hp.lds fun _ x => cut x }
  let s := ascending (open'.filterMap fun r => r.port.map fun x => ldKey x.1 x.2) |>.foldl (fun s k => s.putLd (k / 16) (k % 16) { s.ld (k / 16) (k % 16) with fencedOut := true }) s
  let steps := s.qe.cmds.flatMap fun x => x.steps.filterMap fun r => match r.state with
    | .issued ms none => if ms.any isOpen then some (x.qid, x.cmdId, r.index) else none
    | _ => none
  let s := steps.foldl (fun s t => s.stepFault t.1 t.2.1 t.2.2 .fenced) s
  let msgs := s.cmn.conns.flatMap fun e => e.2.tgts.filterMap fun m => if m.mirrors.any isOpen then some (e.1, m) else none
  let s := msgs.foldl (fun s e => s.tgtEnd e.1 e.2 true .fenced none) s
  { s with twn.replay := s.twn.replay.filter fun r => !(!r.acked && hit r.grp) }

/-- Fence groups: SERVE and the claims fall in one cycle (R385), and what waited for acknowledgement there with them; with the last of them every logical device is told (R119). -/
def State.fenceGroups (s : State) (hit : Nat → Bool) : State :=
  let gs := (List.range 16).filter hit
  let served := s.get TWN.SERVE
  let s := gs.foldl (fun s g => s.put TWN.TWN_CLAIM_LOCAL 0 0 g) s
  let s := s.setServe (gs.foldl (fun m g => setBits m g 1 0) (s.get TWN.SERVE))
  let s := s.dropUnacked hit
  let s := if served ≠ 0 && s.get TWN.SERVE = 0 then s.moduleEvent 2 "All claim groups fenced" else s
  if s.get TWN.SERVE = 0 && s.flag TWN.CLAIM_W_DRV then (s.put TWN.CLAIM_W_DRV 0).pinOut "CLAIM_W" 0 none else s

/-- Fenced on every group (R396, R397, R399). -/
def State.fenceAll (s : State) : State :=
  let s := ((s.fenceGroups fun _ => true).put TWN.STATE roleFenced).put TWN.IN_SYNC 0
  let s : State := { s with twn := { s.twn with take := none, handoff := [], gave := [], syncInSync := false } }
  s.occur twnPage 33 6

/-- The class D blocks of mirror records among these: once the records are gone, what a barrier or a GPF covered of them waits for resync should the pair form again before it completes (R15, R114). -/
def State.recBlocks (s : State) (covered : List Nat) : List Nat :=
  (s.twn.replay.filter fun r => !r.acked && r.cls == 1 && covered.contains r.id).map fun r => pbnOf r.sector

/-- Barriers and GPFs cover blocks in place of the mirror records that go. -/
def State.coverBlocks (s : State) : State :=
  { s with qe.barriers := s.qe.barriers.map fun b => { b with blocks := b.blocks ++ s.recBlocks b.covered },
           hp.lds := tmap s.hp.lds fun _ x => { x with gpf := x.gpf.map fun g => { g with blocks := g.blocks ++ s.recBlocks g.covered } } }

/-- The twin copy of a damaged sector is not to be had: it is stored poisoned, at severity 6 (Table 8-6, R284). -/
def State.mendFail (s : State) (n : Nat) : State := (s.secRewrite n { s.secValue n with poison := true }).misc (pg .pan (sliceOf (n / 2))) 6

/-- Entry to SOLO (R13, R14, R393, R403): what waits for a mirror acknowledgement is done, every block with brine is marked, units left poisoned by a restore are recorded (R355), the entry is an event. -/
def State.soloEntry (s : State) : State :=
  let s := s.coverBlocks.put TWN.STATE roleSolo
  let s : State := { s with twn := { s.twn with
      replay := [], handoff := [], gave := [], asked := [], compare := none, scanDone := false, rxHold := [], form := .none } }
  let s := s.brineBlocks.foldl State.rsmMark s
  let s := s.twn.repair.foldl (fun s w => s.misc (pg .hrv) 6 (le 8 w)) s
  let s := s.twn.mend.foldl State.mendFail { s with twn.mend := [] }
  ((s.occur twnPage 32 5).moduleEvent 1 "Solo").ackSweep

/-- The partner is declared lost (R393, R396). -/
def State.partnerLost (s : State) : State :=
  if s.role = rolePaired ∨ s.role = roleSrc ∨ s.role = roleDst then (if s.flag TWN.IN_SYNC then s.soloEntry else s.fenceAll) else s

/-- The groups this twin does not serve. -/
def State.unserved (s : State) : List Nat := (List.range 16).filter fun g => !s.serves g

/-- Begin to take groups (R384): the epochs go to the fast counter. -/
def State.takeStart (s : State) (groups : List Nat) (takeover : Bool) : State :=
  if groups.isEmpty then s
  else match s.twn.take with
  | some t => { s with twn.take := some { t with groups := t.groups ++ groups.filter fun g => !t.groups.contains g } }
  | none => { s with twn.take := some { groups := groups, retried := false, takeover := takeover } }.emit (.device "EPOCH_STORE" groups)

/-- Drop the commands of queues that a test names, without completion, once their movers have ended their MOVE (R137, R184, R224). -/
def State.dropCommands (s : State) (hit : Nat → Bool) : State :=
  let s := s.movesEnd hit
  let ms := (s.mov.runs.filter fun e => hit e.2.qid).map Prod.fst
  let s := ms.foldl State.moverFree s
  let sch := s.tier.schedules.filter fun x => hit x.qid
  let s := sch.foldl (fun s x => s.sluCancel x.tenant x.tag false) s
  ({ s with qe := { s.qe with
      cmds := s.qe.cmds.filter fun x => !hit x.qid,
      barriers := s.qe.barriers.filter fun b => match b.who with | .command q _ | .classChange q _ => !hit q | .flush .. => true } }).pruneReads.settleAll

/-- Queues read DISABLED, their commands are gone, and so is a RESET or DISABLE that waits for one of them (R137, R167). -/
def State.queuesOff (s : State) (hit : Nat → QueueCtx → Bool) : State :=
  let ids := (s.qe.queues.filter fun e => hit e.1 e.2).map Prod.fst
  let s := s.dropCommands fun q => ids.contains q
  let s : State := { s with qe.queues := tmap s.qe.queues fun q c => if ids.contains q then { c with state := .disabled, inflight := 0 } else c }
  match s.qe.qctl with
  | some (q, _) => if ids.contains q then ({ s with qe.qctl := none } : State).put QE.BUSY 0 else s
  | none => s

/-- Class V regions become zero (R28), each named by an event of severity 4. -/
def State.zeroVolatile (s : State) (hit : Nat → Bool) : State :=
  (s.xlt.regions.filter fun e => e.2.valid && e.2.pclass == 2 && hit e.2.grp).foldl (fun s e =>
    let s := (s.regionPbns e.1).foldl State.discardBlock s
    let zero (b : Bme) : Bme := Bme.seal { b with zero := true }
    let up (c : CacheEntry) : CacheEntry := match c.key, c.copy with
      | .block r _, .block b => if r.toNat = e.1 then { c with copy := .block (zero b) } else c
      | _, _ => c
    let s : State := { s with xlt.bmap := tmap s.xlt.bmap fun k b => if k / 2 ^ 32 = e.1 then zero b else b, xlt.caches := s.xlt.caches.map up, xlt.fills := s.xlt.fills.map up }
    s.misc tierPage 4 (le 3 e.1)) s

/-- Twin brine of groups becomes local brine (Table 12-4 step 6): its blocks are resident with those units DIRTY, charged to the region's tenant without a quota check (R203); sectors the records did not cover come from T2. -/
def State.adopt (s : State) (hit : Nat → Bool) : State :=
  (s.twn.mirror.filter fun e => hit e.2.grp).foldl (fun s e =>
    let w := e.1
    let p := w / 16
    let t := (s.regionAt e.2.region).tenant
    let s := match s.block p with
      | some b => if b.charge.isSome then s else (s.putQuota t { s.quota t with t1Used := (s.quota t).t1Used + 1 }).putBlock p { b with charge := some t }
      | none => (s.putQuota t { s.quota t with t1Used := (s.quota t).t1Used + 1 }).putBlock p {
          state := .resident, leaveReq := false, charge := some t, pins := [], units := [], filling := [], region := e.2.region, used := true, frame := s.pickFrame p }
    match s.block p with
    | none => s
    | some b =>
      let s := (List.range 64).foldl (fun s k => s.frameWrite (w * 64 + k) ((tget e.2.vals k).getD (s.t2Read (w * 64 + k))) 8) s
      let s := s.putBlock p { b with units := tset b.units (w % 16) { freshUnit with dirty := e.2.dirty, stamp := e.2.stamp, cls := e.2.cls } }
      { s with twn.mirror := tdel s.twn.mirror w }) s

/-- Local brine of a group becomes twin brine (R409 step 5): the group's blocks leave T1. -/
def State.relabel (s : State) (g : Nat) : State :=
  (s.tier.blocks.filter fun e => (s.regionAt e.2.region).grp == g).foldl (fun s e =>
    let p := e.1
    let s := (s.panRelease p).1
    let b := (s.block p).getD e.2
    let s := (b.units.filter fun u => u.2.dirty && u.2.cls < 2).foldl (fun s u =>
      let w := p * 16 + u.1
      { s with twn.mirror := tset s.twn.mirror w { stamp := u.2.stamp, grp := g, region := b.region, cls := u.2.cls, vals := s.unitVals w, wb := none, dirty := true } }) s
    s.freeBlock p) s

/-- The highest stamp this twin holds for any unit of a group (R380). -/
def State.groupStamp (s : State) (g : Nat) : Nat :=
  let m1 := (s.twn.mirror.filter fun e => e.2.grp = g).foldl (fun m e => max m e.2.stamp) 0
  let m2 := (s.flm.t2Stamp.filter fun e => s.pbnGroup (e.1 / 16) = g).foldl (fun m e => max m e.2) m1
  s.tier.blocks.foldl (fun m e => if (s.regionAt e.2.region).grp = g then e.2.units.foldl (fun m u => max m u.2.stamp) m else m) m2

/-- Take groups once their epochs are stored (R384, R394, R137, R203, R28, R380). -/
def State.takeDone (s : State) (t : Take) : State :=
  let hit (g : Nat) : Bool := t.groups.contains g
  -- class V is lost where the partner has served since; a twin that takes again what it served before a warm reset has kept it (R24, R28)
  let lost := t.groups.filter fun g => t.takeover || (tget s.twn.epochs g).getD 0 < s.get TWN.TWN_CLAIM_PEER 0 g / 256
  let s := t.groups.foldl (fun s g =>
    let e := max ((tget s.twn.epochs g).getD 0) (s.get TWN.TWN_CLAIM_PEER 0 g / 256) + 1
    let s : State := { s with twn.epochs := tset s.twn.epochs g e, tier.stampFloor := tset s.tier.stampFloor g (s.groupStamp g) }
    let claim := e * 256 + s.unit
    (s.put TWN.TWN_CLAIM_LOCAL claim 0 g).twinSend 0x09 g 0 0 claim []) s
  let s := (s.fastWrote 0).adopt hit
  let s := s.zeroVolatile fun g => lost.contains g
  let s := (s.queuesOff fun _ c => hit (s.regionAt (c.ringHandle / 65536)).grp).pinsDrop fun r => hit (s.regionAt r).grp
  let s := s.setServe (t.groups.foldl (fun m g => setBits m g 1 1) (s.get TWN.SERVE))
  let s : State := { s with twn.take := none }
  let s := if t.takeover then s.inc TWN.TAKEOVER_CNT else s
  if s.twn.peerReadOnly && s.role = rolePaired && s.get TWN.SERVE = 0xFFFF then s.soloEntry else s

/-! ## The ordered stream (R376) -/

/-- Apply one ordered record; none while the receiver cannot admit it (R205). -/
def State.rxApply (s : State) (seq : Nat) (b : RxBody) : Option State :=
  match b with
  | .mirror classM grp addr stamp vals tags =>
    if !s.mirrorAdmits classM (unitOf (addr / 64)) then none
    else
      let s := s.mirrorPut classM grp addr stamp vals
      some { s with twn.rxLog := s.twn.rxLog ++ [{ seq := seq, addr := addr, stamp := stamp, tags := tags }] }
  | .brineList pbns => some (pbns.foldl State.rsmMark s).resyncSend
  | .resync w stamp vals => some (s.resyncPut w stamp vals)

/-- Apply the held records that have no gap before them, and acknowledge. -/
def State.rxDrain : Nat → State → State
  | 0, s => s
  | k + 1, s =>
    match tget s.twn.rxHold (s.twn.rxSeq + 1) with
    | none => s
    | some b =>
      match s.rxApply (s.twn.rxSeq + 1) b with
      | none => s
      | some s =>
        let seq := s.twn.rxSeq + 1
        let s : State := { s with twn := { s.twn with rxSeq := seq, rxHold := tdel s.twn.rxHold seq } }
        State.rxDrain k (s.twinSend 0x04 0 seq 0 0 [])

/-- Payload bytes of an ordered record. -/
def RxBody.bytes : RxBody → Nat
  | .mirror _ _ _ _ vals _ => 64 * vals.length
  | .brineList pbns => 8 * pbns.length
  | .resync _ _ (some vals) => 64 * vals.length
  | .resync _ _ none => 0

/-- An ordered record arrives at the cipher (R455, R456): without hold space it waits behind the link's credits until a release (R456). One already applied is applied again where its stamp admits it and acknowledged again (R400), any other waits its turn. -/
def State.rxOrdered (s : State) (seq : Nat) (b : RxBody) : State :=
  if s.holdFull b.bytes then { (s.inc CIP.HOLD_FULL_CNT) with twn.rxHold := tset s.twn.rxHold seq b }
  else
  let s := s.laneJoin .twin b.bytes b.bytes
  if seq ≤ s.twn.rxSeq then ((s.rxApply seq b).getD s).twinSend 0x04 0 s.twn.rxSeq 0 0 []
  else
    let s : State := { s with twn.rxHold := tset s.twn.rxHold seq b }
    s.rxDrain s.twn.rxHold.length

/-! ## Link and formation -/

/-- The link is lost (R377): nothing is sent any more. -/
def State.linkLost (s : State) : State :=
  let s := if s.linkUp then (s.put TWN.BUNDLES 0).inc TWN.LINK_DOWN_CNT else s
  if s.flag TWN.ALIVE_IN_OK then s else s.partnerLost

/-- Whether this twin may take groups alone (R391, R396): in sync, or serving every group when it stopped. -/
def State.mayTake (s : State) : Bool := s.flag TWN.IN_SYNC || s.twn.syncInSync || s.twn.syncAll

/-- Start or restart pair formation with lane training (R387). -/
def State.formStart (s : State) : State :=
  let s := if s.role = roleForming then s.put TWN.STATE roleInit else s
  { s with twn.form := .training }.emit (.device "TWIN_TRAIN" [])

/-- Count of a formation restart. -/
def State.formRestart (s : State) : State := ((s.put TWN.BUNDLES 0).inc TWN.LINK_DOWN_CNT).formStart

/-- Ask the partner to hand groups over (R410, R411). -/
def State.askGroups (s : State) (gs : List Nat) : State :=
  let gs := gs.filter fun g => !s.serves g && !s.twn.asked.contains g
  if gs.isEmpty then s else { s with twn.asked := s.twn.asked ++ gs }.emit (.device "HANDOFF_REQUEST" gs)

/-- Begin a handoff of a group (R409 step 1). -/
def State.handoffStart (s : State) (g : Nat) : State :=
  if s.role = rolePaired && s.serves g && !s.twn.handoff.contains g then { s with twn.handoff := s.twn.handoff ++ [g] } else s

/-! ## Comparison (R401, R402) -/

/-- Divergence of a sector: counted, recorded at its severity (Table 12-6). -/
def State.diverge (s : State) (n sev : Nat) : State :=
  (((s.inc TWN.DIVERGE_CNT).setErr twnPage 18 none).occur twnPage 4 sev (le 8 (n * 64)))

/-- Compare the partner's copy of a sector with this twin's (R402, Table 12-6): whether the integrity tag of each passes. -/
def State.compareSec (s : State) (n stamp : Nat) (v : SectorVal) (tagOk ownOk : Bool) : State :=
  let (mine, vals) := s.unitNow (unitOf n)
  let own := (vals[n % 64]?).getD zeroSec
  let tell (s : State) (st : Nat) (v : SectorVal) : State := s.twinSend 0x03 (s.pbnGroup (pbnOf n)) 0 (n * 64) st [v]
  let s := s.incMod TWN.DUAL_READS
  let both (s : State) : State := tell ((s.diverge n 7).secRewrite n { own with poison := true }) mine { own with poison := true }
  if s.unitUnacked (unitOf n) then s
  else if !tagOk then (if ownOk then tell (s.diverge n 5) mine own else both s)
  else if !ownOk then (s.diverge n 5).secRewrite n v
  else if mine ≠ stamp then (if mine < stamp then (s.diverge n 6).secRewrite n v else tell (s.diverge n 6) mine own)
  else if own = v then s
  else both s

end Sys2Proof.Machine
end

