-- ==== Sys2Proof/Machine/FlmOps.lean ====
section
/-! DEFINITION. The flash translation layer (10): blocks, stripes, staging, journal, retirement, spare. -/
namespace Sys2Proof.Machine

/-- Change the running health counts. -/
def State.health (s : State) (f : Health → Health) : State := { s with flm.health := f s.flm.health }

/-! ## Blocks -/

/-- Blocks of a LUN that are not free. -/
def State.taken (s : State) (g : Nat) : List Nat := (s.flm.blks.filter fun e => blkGlun e.1 == g && e.2.state != .free).map fun e => e.1 % 65536

/-- Free blocks of a LUN. -/
def State.freeBlks (s : State) (g : Nat) : Nat := match s.flm.geom with | some geo => geo.blocks - (s.taken g).length | none => 0

/-- A free block of a LUN of the lowest wear (R332); among equals the choice is free (log entry 20). -/
def State.pickBlk (s : State) (g : Nat) : Option Nat :=
  match s.flm.geom with
  | none => none
  | some geo =>
    let listed := (s.flm.blks.filter fun e => blkGlun e.1 == g).map fun e => e.1 % 65536
    let fresh := geo.blocks - listed.length
    if 0 < fresh then some (blkKey g (nthFree listed (Config.freeNat s.free % fresh)))
    else
      let cands := s.flm.blks.filter fun e => blkGlun e.1 == g && e.2.state == .free
      let least := cands.foldl (fun m e => min m e.2.wear) (2 ^ 64)
      let best := (cands.filter fun e => e.2.wear == least).map Prod.fst
      best[Config.freeNat s.free % max 1 best.length]?

/-- The free block of lowest wear of a channel that does not rest (R52, R332); among LUNs that offer the same wear the choice is free (log entry 20). -/
def State.pickChan (s : State) (c : Nat) : Option Nat :=
  if s.resting (flcPage c) then none else
  let ks := (s.flm.luns.filter fun e => e.1 / 64 == c && s.lunUsed e.1).filterMap fun e => s.pickBlk e.1
  let least := ks.foldl (fun m k => min m (s.blk k).wear) (2 ^ 64)
  let best := ks.filter fun k => (s.blk k).wear == least
  best[Config.freeNat s.free % max 1 best.length]?

/-- Wear at PE_LIMIT retires a block (R333); here whether it has reached it. -/
def State.wornOut (s : State) (k : Nat) : Bool := s.ftlGet FTL.PE_LIMIT * 4 ≤ (s.blk k).wear

/-! ## Stripes -/

def State.stripe (s : State) (i : Nat) : Option Stripe := tget s.flm.stripes i
def State.putStripe (s : State) (i : Nat) (x : Stripe) : State := { s with flm.stripes := tset s.flm.stripes i x }

/-- Open a stripe: a free block on each of 16 channels and a parity block on a seventeenth (R324), the given block among them (R332). -/
def State.openStripe (s : State) (must : Option Nat) : State :=
  let chans := (List.range 48).filter fun c => s.get FLC.STATE c == chReady && (s.pickChan c).isSome && !(match must with | some k => blkChan k == c | none => false)
  let need := if must.isSome then 16 else 17
  if chans.length < need then s
  else
    let r := Config.freeNat (s.free + 1) % chans.length
    let order := (chans.drop r ++ chans.take r).take need
    let ks := order.filterMap s.pickChan
    let i := s.flm.nextStripe
    let data := must.toList ++ ks.take (need - 1)
    let par := (ks.drop (need - 1)).headD 0
    let s : State := { s with flm.nextStripe := i + 1, free := s.free + 2 }
    let s := data.foldl (fun s k => s.putBlk k { s.blk k with state := .opened, stripe := some i }) s
    let s := s.putBlk par { s.blk par with state := .parity, stripe := some i }
    s.putStripe i { blocks := data, parity := par, state := .opened, next := 0, prog := [], parityRows := [], passed := [] }

/-- The open stripe with room opened last. -/
def State.currentStripe (s : State) : Option (Nat × Stripe) :=
  (s.flm.stripes.filter fun e => e.2.state == .opened && e.2.next < s.pages * 256).getLast?

/-- The parity blocks of a stripe: those filled, and the present one. -/
def Stripe.parityBlks (x : Stripe) : List Nat := x.parities ++ [x.parity]

/-- Pages of the parity log in use (R328): one for each row begun, until the last parity block has been erased after VERIFIED. -/
def State.parityUsed (s : State) : Nat :=
  (s.flm.stripes.map fun e =>
    if e.2.parityBlks.any fun k => (s.blk k).stripe == some e.1 && (s.blk k).state != .free then (if e.2.state = .opened then (e.2.next + 255) / 256 else s.pages) else 0).foldl (· + ·) 0

/-- Whether the parity log has no free page (R328). -/
def State.parityFull (s : State) : Bool := decide (s.flm.parityPages ≤ s.parityUsed)

/-- Whether the next unit begins a row, which then needs a page of the parity log. -/
def State.rowStarts (s : State) : Bool := match s.currentStripe with | some e => e.2.next % 256 == 0 | none => true

/-- Whether a unit has to wait for a page of the parity log (R328). -/
def State.rowWaits (s : State) : Bool := s.rowStarts && s.parityFull

/-- Whether verify goes before raking (R328): no parity page is free and a CLOSED stripe waits to be verified. -/
def State.verifyFirst (s : State) : Bool := s.parityFull && s.flm.stripes.any fun e => e.2.state == .closed

/-- Whether a unit can take a slot now. -/
def State.assignable (s : State) : Bool := !s.rowWaits && (s.currentStripe.isSome || (s.openStripe none).currentStripe.isSome)

/-- Step 1 of Table 10-6 or 10-7: a unit takes a slot of an open stripe, encrypted on a lane (R451). While no stripe can be opened or its row waits for parity, it waits. -/
def State.assignUnit (s : State) (u : FtlUnit) : State :=
  let wait (s : State) : State := { s with flm.waiting := s.flm.waiting ++ [u] }
  if s.rowWaits then wait s else
  let s := if s.currentStripe.isSome then s else s.openStripe none
  match s.currentStripe with
  | none => wait s
  | some (i, x) =>
    let k := (x.blocks[x.next % 256 / 16]?).getD 0
    let s := s.putStripe i { x with next := x.next + 1 }
    ({ s with flm.staged := s.flm.staged ++ [{ u with fua := s.fua k (x.next / 256) (x.next % 16), programmed := false, recorded := false }] } : State).laneJoin .flash 4096 0

/-- A unit is copied: from its place for a MOVE, or as its write-back gives it. -/
def State.assign (s : State) (tun : Nat) (old : Option Nat) (stamp : Nat := 0) (vals : Table SectorVal := []) : State :=
  s.assignUnit { tun := tun, fua := 0, old := old, programmed := false, recorded := false, stamp := stamp, vals := vals }

/-- The units that wait for a slot try again, in their order. -/
def State.placeWaiting (s : State) : State := s.flm.waiting.foldl State.assignUnit { s with flm.waiting := [] }

/-- A stripe is CLOSED, and takes its place in the order of verify (R324, R325, R327). -/
def State.closeStripe (s : State) (i : Nat) (x : Stripe) : State :=
  let s : State := { (s.putStripe i { x with state := .closed }) with flm.closing := s.flm.closing ++ [i] }
  x.blocks.foldl (fun s k => if (s.blk k).state = .opened then s.putBlk k { s.blk k with state := .closed, scrubbed := s.timeNs } else s) s

/-! ## Journal (R314-R316) -/

/-- Two channels in service, one after the other in a free order: those of the two copies of a map, journal or checkpoint page (R312, R315, R317; log entry 104). -/
def State.mapChans (s : State) : Option (Nat × Nat) :=
  let cs := (List.range 48).filter fun c => s.get FLC.STATE c == chReady && s.flm.luns.any fun e => e.1 / 64 == c && s.lunUsed e.1
  let i := Config.freeNat s.free % max 1 cs.length
  let j := (i + 1 + Config.freeNat (s.free + 1) % max 1 (cs.length - 1)) % max 1 cs.length
  if cs.length < 2 then none else some (cs.getD i 0, cs.getD j 0)

/-- A record's 24 bytes (Table 10-5). -/
def JRec.bytes (r : JRec) : List Byte := le 1 r.typ ++ le 5 r.key ++ le 5 r.new ++ le 5 r.old ++ le 8 r.stamp

/-- PAD: what fills a page that is programmed before it is full (Table 10-5). -/
def padRec : JRec := { typ := 3, key := 0, new := 0, old := 0, stamp := 0 }

/-- A journal page (R315): the header with sequence, record count and CRC-32C, 681 records, 8 B of padding. Where the header holds them is not stated (log entry 117). -/
def journalPage (seq : Nat) (rs : List JRec) : List Byte :=
  let body := (rs ++ List.replicate (681 - rs.length) padRec).flatMap JRec.bytes ++ le 8 0
  let head := le 8 seq ++ le 4 rs.length
  head ++ le 4 (crc32c (head ++ le 20 0 ++ body)) ++ le 16 0 ++ body

/-- The page of the bad-block table that a retired block changes is written, in two copies (R333). -/
def State.badBlocks (s : State) : State :=
  match s.mapChans with
  | some (a, b) => ({ s with free := s.free + 2 } : State).emit (.device "BAD_BLOCK_TABLE" (a :: b :: (s.flm.blks.filter fun e => e.2.state == .retired).map Prod.fst))
  | none => s

/-- Program the journal page that fills, in two copies on two channels (R315). -/
def State.jProgram (s : State) : State :=
  if s.flm.jopen.isEmpty then s
  else
    let rs := s.flm.jopen
    let s' : State := { s with flm := { s.flm with jprog := s.flm.jprog ++ [rs], jopen := [], winPages := s.flm.winPages + 1, jseq := s.flm.jseq + 1 } }
    match s.mapChans with
    | some (a, b) => ({ s' with free := s.free + 2 } : State).emit (.device "JOURNAL_PROGRAM" (a :: b :: (journalPage s.flm.jseq rs).map (·.toNat)))
    | none => s'

/-- Append a record; a full page is programmed. -/
def State.jAppend (s : State) (typ key new old : Nat) : State :=
  let r : JRec := { typ := typ, key := key, new := new, old := old, stamp := s.flm.jstamp }
  let s : State := { s with flm := { s.flm with jopen := s.flm.jopen ++ [r], jstamp := s.flm.jstamp + 1 } }
  if s.flm.jopen.length = 681 then s.jProgram else s

/-- Apply a durable record to the map (R316): the map page has changed since it was flushed (R317). -/
def State.jApply (s : State) (r : JRec) : State :=
  if r.typ = 1 || (r.typ = 2 && s.mapOf r.key = r.old) then
    { s with flm := { s.flm with map := tset s.flm.map r.key r.new, unreadable := s.flm.unreadable.filter (· != r.key),
                                 mapDirty := if thas s.flm.mapDirty (r.key / 816) then s.flm.mapDirty else tset s.flm.mapDirty (r.key / 816) r.stamp } }
  else s

/-- The bytes of a map page (R311): 816 entries, its index, the flush sequence, the CRC-32C. -/
def State.mapPage (s : State) (mpi seq : Nat) : List Byte :=
  let body := (List.range 816).flatMap (fun k => le 5 (s.mapOf (mpi * 816 + k))) ++ le 8 mpi ++ le 4 seq
  body ++ le 4 (crc32c body)

/-- The place of a copy of a map page on a channel: a free one on one of its LUNs in use (R312; log entry 104). -/
def State.mapPlace (s : State) (c i : Nat) : Nat :=
  let gs := (s.flm.luns.filter fun e => e.1 / 64 == c && s.lunUsed e.1).map Prod.fst
  let units := match s.flm.geom with | some g => g.blocks * g.pages * 16 | none => 1
  (gs[Config.freeNat i % max 1 gs.length]?).getD 0 * 2 ^ 26 + Config.mapPlace i % max 1 units

/-- A map page is written in two copies on LUNs of two channels (R312): the directory names the first, the first copy's spare area the second; a MAPFLUSH record says where the page is (Table 10-5). The page stays in the map cache. -/
def State.mapFlush (s : State) (mpi : Nat) : State :=
  match s.mapChans with
  | none => s
  | some (a, b) =>
    let f := s.mapPlace a s.free
    let g := s.mapPlace b (s.free + 1)
    let page := s.mapPage mpi (s.flm.flushSeq % 2 ^ 32)
    let old := (tget s.flm.mdir mpi).getD unwritten
    let s : State := { s with free := s.free + 2, flm := { s.flm with
        mdir := tset s.flm.mdir mpi f, spare := tset (tdel s.flm.spare old) f g, mapDirty := tdel s.flm.mapDirty mpi, flushSeq := s.flm.flushSeq + 1 } }
    (((s.mapUse mpi).emit (.device "MAP_PAGE_PROGRAM" (f :: g :: page.map (·.toNat)))).jAppend 4 mpi f old)

/-- The units of a row whose parity is programmed get their records (Table 10-6 step 4, Table 10-7 step 2). -/
def State.recordRow (s : State) (x : Stripe) (row : Nat) : State :=
  let hit (u : FtlUnit) : Bool := u.programmed && !u.recorded && x.blocks.contains (s.fuaBlk u.fua) && s.fuaPage u.fua == row
  let us := s.flm.staged.filter hit
  let s : State := { s with flm.staged := s.flm.staged.map fun u => if hit u then { u with recorded := true } else u }
  us.foldl (fun s u => match u.old with
    | some o => s.jAppend 2 u.tun u.fua o
    | none => s.jAppend 1 u.tun u.fua (s.mapOf u.tun)) s

/-- The raking of a LUN ends; a block of it that waits to be emptied is next (R326). -/
def State.rakeEnd (s : State) (g : Nat) : State :=
  match takeFirst s.flm.rakeWait (fun k => blkGlun k == g) with
  | some (k, l) => { s with flm := { s.flm with rakes := tset s.flm.rakes g k, rakeWait := l } }
  | none => { s with flm.rakes := tdel s.flm.rakes g }

/-- A rake source without valid units whose MOVE records are durable becomes ERASE_PENDING (Table 10-7 step 4). -/
def State.rakeCheck (s : State) : State :=
  s.flm.rakes.foldl (fun s e =>
    let k := e.2
    let waits := (s.flm.staged ++ s.flm.waiting).any fun u => match u.old with | some o => s.fuaBlk o == k | none => false
    if (s.validUnits k).isEmpty && !waits then
      let s := s.rakeEnd e.1
      let b := s.blk k
      if b.state = .retired then s else s.putBlk k { b with state := .erasePending }
    else s) s

/-! ## Spare, READ_ONLY (R335, R338) -/

/-- Raw blocks of the device set. -/
def State.rawBlocks (s : State) : Nat := match s.flm.geom with | some g => (s.flm.luns.filter fun e => some e.2.geom == some g && !e.2.excluded).length * g.blocks | none => 0
/-- RO_MIN (R335). -/
def State.roMin (s : State) : Nat := s.ftlGet FTL.RO_MIN_PERMILLE * s.rawBlocks / 1000
/-- SPARE_LEFT_PCT (R335), rounded down, not below 0. -/
def State.spareLeft (s : State) : Nat :=
  (s.ftlGet FTL.SPARE_BLOCKS - s.roMin) * 100 / max 1 (s.ftlGet FTL.SPARE_INIT - s.roMin)

/-- READ_ONLY begins (R338): MEDIA_RO is set and the tide mark is zero in the same cycle; recorded, stored, and told to the hosts (Table 4-7). -/
def State.enterReadOnly (s : State) : State :=
  let s := ((s.ftlPut FTL.FLM_STATE flmReadOnly).put XLT.MEDIA_RO 1).put HRV.HRV_TIDE_NOW 0
  ((({ s.fastWrote 3 with flm.roStored := true }.put HRV.BIND 3).misc ftlPage 6).moduleEvent 2 "Flash READ_ONLY").twinSend 0x08 0 0 flmReadOnly s.role []

/-- What a fall of SPARE_BLOCKS brings (R335, R338). -/
def State.spareCheck (s : State) : State :=
  let st := s.flmState
  if st ≠ flmNormal && st ≠ flmLowSpare then s
  else if s.ftlGet FTL.SPARE_BLOCKS ≤ s.roMin then s.enterReadOnly
  else if st = flmNormal && s.spareLeft ≤ s.ftlGet FTL.SPARE_WARN then (s.ftlPut FTL.FLM_STATE flmLowSpare).misc ftlPage 4
  else s

/-- Blocks leave the good blocks. -/
def State.spareLose (s : State) (n : Nat) : State := (s.ftlPut FTL.SPARE_BLOCKS (s.ftlGet FTL.SPARE_BLOCKS - n)).spareCheck

/-- Start raking a block, whatever the free blocks; while its LUN rakes another it waits (R326). -/
def State.rakeBlock (s : State) (k : Nat) : State :=
  match tget s.flm.rakes (blkGlun k) with
  | none => { s with flm.rakes := tset s.flm.rakes (blkGlun k) k }
  | some r => if r = k || s.flm.rakeWait.contains k then s else { s with flm.rakeWait := s.flm.rakeWait ++ [k] }

/-- Retire a block (R333): RETIRE record, bad-block table, counts, spare; what it still holds is copied away. -/
def State.retire (s : State) (k : Nat) : State :=
  let b := s.blk k
  if b.state = .retired then s
  else
    let s := ((s.putBlk k { b with state := .retired }).jAppend 6 k 0 0).badBlocks
    let s := (s.health fun h => { h with retired := h.retired + 1 }).spareLose 1
    if (s.validUnits k).isEmpty then s else s.rakeBlock k

/-! ## Reserve (R336, R337) -/

/-- MiB that one block holds in SLC mode. -/
def State.slcMib (s : State) : Nat := match s.flm.geom with | some g => g.pages * 64 / (if g.qlc then 4 else 3) / 1024 | none => 0
def State.reserveBlks (s : State) : List Nat := (s.flm.blks.filter fun e => e.2.state == .reserve && s.lunUsed (blkGlun e.1)).map Prod.fst
/-- RESERVE_READY_MIB and RESERVE_LUNS follow the erased reserve blocks. -/
def State.reserveCount (s : State) : State :=
  let ks := s.reserveBlks
  (s.ftlPut FTL.RESERVE_READY_MIB (ks.length * s.slcMib)).ftlPut FTL.RESERVE_LUNS (ascending (ks.map blkGlun)).length

/-- Take reserve blocks, one LUN after another, of the lowest wear (R332, R336, R337). -/
def State.takeReserve : Nat → State → State
  | 0, s => s
  | k + 1, s =>
    let gs := (s.flm.luns.filter fun e => s.lunUsed e.1 && 0 < s.freeBlks e.1).map Prod.fst
    let held (g : Nat) : Nat := (s.flm.blks.filter fun e => blkGlun e.1 == g && e.2.state == .reserve).length
    match gs with
    | [] => s
    | g :: r =>
      let best := r.foldl (fun a b => if held b < held a then b else a) g
      match s.pickBlk best with
      | some b => State.takeReserve k (s.useFree.putBlk b { s.blk b with state := .reserve, stripe := none })
      | none => s

/-- An erase of a block in SLC mode ends: its wear and the ERASE record (R322, R332); wear at PE_LIMIT retires it (R333). -/
def State.slcErased (s : State) (k : Nat) (st : BlkState) : State :=
  let s := (s.putBlk k { s.blk k with state := st, wear := (s.blk k).wear + 1, stripe := none, reads := 0 }).jAppend 5 k 0 0
  if s.wornOut k then s.retire k else s

/-- FLM takes programs: NORMAL, LOW_SPARE or READ_ONLY (R339), no harvest (R207, R208). -/
def State.flashTakes (s : State) : Bool :=
  (s.flmState == flmNormal || s.flmState == flmLowSpare || s.flmState == flmReadOnly) && !(s.get HRV.STATE == 1 || s.get HRV.STATE == 2) && !s.resting ftlPage

/-- Whether raking for room goes on: in READ_ONLY only to make room for the write-back of brine (R339). -/
def State.rakesOn (s : State) : Bool := s.flashTakes && (s.flmState != flmReadOnly || 0 < s.devBrine)

end Sys2Proof.Machine
end

