-- ==== Sys2Proof/Machine/Twin.lean ====
section
/-! DEFINITION. The events of TWN (12): sideband, records, link, formation, takeover, arbitration, handoff. -/
namespace Sys2Proof.Machine

/-! ## Sideband -/

/-- R371, R393: no edge on ALIVE_IN. With the link lost too, the partner is lost; alone, it is recorded at severity 5 (Table 12-8). -/
def execAliveLoss (s : State) : Res :=
  if !s.flag TWN.ALIVE_IN_OK then .next s
  else
    let s := s.put TWN.ALIVE_IN_OK 0
    .next (if s.linkUp then s.misc twnPage 5 else s.partnerLost)

/-- R371: four edges at the nominal spacing. -/
def execAliveRestore (s : State) : Res := .next (s.put TWN.ALIVE_IN_OK 1)

/-! ## Records -/

/-- The claim this twin brings to formation for a group (R389): the one in force, else the stored epoch; 0 when it never held one. -/
def State.ownClaim (s : State) (g : Nat) : Nat :=
  let l := s.get TWN.TWN_CLAIM_LOCAL 0 g
  if l ≠ 0 then l else match tget s.twn.epochs g with | some e => if e = 0 then 0 else e * 256 + s.unit | none => 0

/-- Whether this twin is the source of a group (R389): the higher claim; with none on either side the one twin whose PREF_MASK has the group, else unit 0. -/
def State.isSource (s : State) (peerPref : BitVec 16) (peer g : Nat) : Bool :=
  let own := s.ownClaim g
  if own = 0 && peer = 0 then
    let a := bit (s.get TWN.PREF_MASK) g
    let b := peerPref.getLsbD g
    if a != b then a else s.unit == 0
  else peer < own

/-- Send a replay record again (R376). -/
def State.resendRec (s : State) (r : MirrorRec) : State :=
  (({ s with twn.replay := s.twn.replay.map fun (x : MirrorRec) => if x.id = r.id then { x with retx := true } else x }).inc TWN.RETX_CNT).twinSend 0x03 r.grp r.seq (r.sector * 64) r.stamp [r.val]

/-- Formation from step 4 on (R387, R389, R390, R403, R404, R406). -/
def State.formPair (s : State) (b : HelloBody) : State :=
  let peer (g : Nat) : Nat := match b.epochs[g]? with | some e => if e = 0 then 0 else e.toNat * 256 + b.unit.val | none => 0
  let gs := List.range 16
  let none' := gs.all fun g => s.ownClaim g == 0 && peer g == 0
  -- a twin whose restore is INCOMPLETE takes no claim from one whose restore is whole (R365, log entry 23)
  let broken := s.get HRV.STATE == hrvIncomplete
  let mine := gs.filter fun g => if broken != b.incomplete then b.incomplete else s.isSource b.pref (peer g) g
  let theirs := gs.filter fun g => !mine.contains g
  let full := s.twn.full || b.incomplete || (b.fresh && !none')
  let s := gs.foldl (fun s g => if s.get TWN.TWN_CLAIM_PEER 0 g < peer g then s.put TWN.TWN_CLAIM_PEER (peer g) 0 g else s) s
  let s := if theirs.any fun g => s.serves g then s.fenceGroups fun g => theirs.contains g else s
  -- records that the partner has not acknowledged go out again under the new session's sequence numbers (R14, R376)
  let open' := (s.twn.replay.filter fun r => !r.acked).zipIdx.map fun (r, k) => { r with seq := k + 1 }
  let s : State := { s with twn := { s.twn with
      pairId := some b.digest, peerReadOnly := b.readOnly, peerInSync := b.inSync, peerHarvest := false, txSeq := open'.length, digestFrom := 1, rxSeq := 0, rxHold := [], rxLog := [],
      badDigest := [], rxCount := [], replay := open', full := full, form := if s.twn.repair.isEmpty then .none else .fetching } }
  let s := s.twinSend 0x11 0 0 0 s.timeNs []
  let s := s.takeStart (mine.filter fun g => !s.serves g) false
  let s := (s.twinSend 0x07 0 0 0 (s.get HRV.HRV_TIDE_NOW) [])
  let s := s.twn.repair.foldl (fun s w => s.twinSend 0x0E (s.pbnGroup (w / 16)) 0 w 0 []) s
  let s := open'.foldl State.resendRec s
  if none' then s.enterPaired
  else
    -- brine of destination groups is named to the source and discarded (R404)
    let away (p : Nat) : Bool := theirs.contains (s.pbnGroup p)
    let listed := s.brineBlocks.filter away
    let units := ((s.tier.blocks.filter fun e => away e.1).map fun e => e.2.brine).foldl (· + ·) 0 + (s.twn.mirror.filter fun e => away (e.1 / 16) && e.2.dirty).length
    let s := if theirs.isEmpty then s
      else
        let seq := s.twn.txSeq + 1
        let s := ({ s with twn.txSeq := seq }.emit (.device "BRINE_LIST" listed)).twinSend 0x12 0 seq 0 0 []
        let s := (s.tier.blocks.filter fun e => away e.1).foldl (fun s e => (s.panForget e.1).freeBlock e.1) s
        let s : State := { s with twn.mirror := s.twn.mirror.filter fun e => !away (e.1 / 16) }
        if units = 0 then s else s.misc twnPage 4 (le 8 units)
    let mark := (if full then s.heldPbns.filter fun p => !away p else []) ++ s.brineBlocks.filter fun p => !away p
    let s : State := mark.foldl State.rsmMark s
    if (theirs.any fun g => peer g != 0) || (broken && mine.isEmpty) then (s.put TWN.STATE roleDst).put TWN.IN_SYNC 0
    else ({ (s.put TWN.STATE roleSrc).put TWN.IN_SYNC 1 with twn.scanDone := true }.resyncSend).resyncCheck

/-- R388: HELLO is checked against this twin's UNIT and the stored partner; formation stops or goes on. -/
def execHello (hdr : TwinHdr) (body : HelloBody) (s : State) : Res :=
  .next (s.recv hdr fun s =>
    if s.twn.form ≠ .linked || s.twn.stopped then s
    else if body.unit.val = s.unit then
      let s := (s.setErr twnPage 17 none).occur twnPage 3 6
      let s := s.fenceGroups fun _ => true
      { s with twn := { s.twn with stopped := true, form := .none } }
    else if (match s.twn.pairId with | some d => d != body.digest | none => false) then
      let s := (s.setErr twnPage 21 none).occur twnPage 7 4
      { s with twn := { s.twn with stopped := true, form := .hello } }
    else s.formPair body)

/-- R377: liveness. -/
def execTwinIdle (bundle : Bundle) (s : State) : Res :=
  .next (s.recv { bundle := bundle, tagOk := true, classM := false, retx := false, grp := 0, seq := 0, addr := 0, stamp := 0 } fun s => s)

/-- Sectors with their poison bits. -/
def withPoison (l : List Sector) (poison : BitVec 64) : List SectorVal :=
  (List.range l.length).filterMap fun k => (l[k]?).map fun d => { data := d, poison := poison.getLsbD k }

/-- R376, R379, R405: a MIRROR record, its sectors' integrity tags checked before it is applied (R461, R463). -/
def execMirror (hdr : TwinHdr) (poison : BitVec 64) (sectors : List Sector) (tags : List (BitVec 64)) (s : State) : Res :=
  .next (s.recv hdr fun s =>
    let n := hdr.addr.toNat / 64
    let ok := tags.length = sectors.length && 1 ≤ sectors.length && n % 64 + sectors.length ≤ 64 &&
      (List.range sectors.length).all fun k => match sectors[k]?, tags[k]? with | some d, some t => integrityTag (n + k) d == t.toNat | _, _ => false
    if !ok then s.misc twnPage 5 (le 8 hdr.seq.toNat)
    else s.rxOrdered hdr.seq.toNat (.mirror hdr.classM hdr.grp.val hdr.addr.toNat hdr.stamp.toNat (withPoison sectors poison) (tags.map BitVec.toNat)))

/-- R14, R376, R383: an acknowledgement; after the partner was declared lost it is discarded. -/
def execTwinAck (hdr : TwinHdr) (s : State) : Res :=
  .next (s.recv hdr fun s =>
    if !s.mirroring then s
    else ({ s with twn.replay := s.twn.replay.map fun (r : MirrorRec) => if r.seq ≤ hdr.seq.toNat then { r with acked := true } else r }).replayPrune.ackSweep)

/-- R376: the missing record is sent again. -/
def execTwinNack (hdr : TwinHdr) (s : State) : Res :=
  .next (s.recv hdr fun s => match s.twn.replay.find? fun r => r.seq == hdr.seq.toNat with
    | some r => s.resendRec r
    | none => s)

/-- R400: the receiver's digest over the interval; a mismatch asks for the records again, a second one marks their blocks. -/
def execDigest (hdr : TwinHdr) (first last : Nat) (digest : BitVec 64) (s : State) : Res :=
  .next (s.recv hdr fun s =>
    let recs := s.twn.rxLog.filter fun r => first ≤ r.seq && r.seq ≤ last
    let rest := s.twn.rxLog.filter fun r => last < r.seq
    if digestOf recs = digest.toNat then { s with twn := { s.twn with rxLog := rest, badDigest := s.twn.badDigest.filter (· != (first, last)) } }
    else
      let s := s.inc TWN.DIGEST_MISMATCH
      if s.twn.badDigest.contains (first, last) then
        let s := recs.foldl (fun s r => s.rsmMark (pbnOf (r.addr / 64))) s
        ({ s with twn := { s.twn with rxLog := rest, badDigest := s.twn.badDigest.filter (· != (first, last)) } }).misc twnPage 5 (le 8 first ++ le 8 last)
      else
        let s : State := { s with twn := { s.twn with badDigest := s.twn.badDigest ++ [(first, last)], rxLog := s.twn.rxLog.filter fun r => !(first ≤ r.seq && r.seq ≤ last) } }
        recs.foldl (fun s r => s.twinSend 0x05 0 r.seq 0 0 []) s)

/-- R204: the partner's tide mark. -/
def execTide (hdr : TwinHdr) (value : Nat) (s : State) : Res := .next (s.recv hdr fun s => { s with twn.peerTide := value })


/-- R407, R411: the partner's state. A destination that the source calls PAIRED is in sync; a READ_ONLY partner's groups are asked for. -/
def execTwinState (hdr : TwinHdr) (pairState : BitVec 4) (inSync : Bool) (flmState : BitVec 3) (s : State) : Res :=
  .next (s.recv hdr fun s =>
    let s : State := { s with twn.peerInSync := inSync }
    let s := if s.role = roleDst && pairState.toNat = rolePaired && s.twn.rsm.isEmpty then s.enterPaired else s
    if flmState.toNat = flmReadOnly && s.role = rolePaired then ({ s with twn.peerReadOnly := true }).askGroups (List.range 16) else s)

/-- R385, R409: a claim of the partner. One above this twin's own ends its serving; the one that follows a handoff lets the giver relabel its brine. -/
def execClaim (hdr : TwinHdr) (s : State) : Res :=
  .next (s.recv hdr fun s =>
    let g := hdr.grp.val
    let c := hdr.stamp.toNat
    let s := if s.get TWN.TWN_CLAIM_PEER 0 g < c then s.put TWN.TWN_CLAIM_PEER c 0 g else s
    let s := if s.get TWN.TWN_CLAIM_LOCAL 0 g ≤ s.get TWN.TWN_CLAIM_PEER 0 g && s.serves g then s.fenceGroups fun x => x == g else s
    if s.twn.gave.contains g then
      let s := s.relabel g
      let s : State := { s with twn := { s.twn with gave := s.twn.gave.filter (· != g), handoff := s.twn.handoff.filter (· != g) } }
      if s.flmState = flmReadOnly && s.get TWN.SERVE = 0 then s.fenceAll else s
    else s)

/-- R393: the partner releases groups; all of them together declare it lost. -/
def execRelease (hdr : TwinHdr) (groups : BitVec 16) (s : State) : Res :=
  .next (s.recv hdr fun s => if groups = BitVec.allOnes 16 then s.partnerLost else s)

/-- R409 step 4: the taker takes the group. -/
def execHandoff (hdr : TwinHdr) (s : State) : Res :=
  .next (s.recv hdr fun s =>
    let g := hdr.grp.val
    if s.role ≠ rolePaired || s.serves g then s
    else
      let c := hdr.stamp.toNat
      let s := if s.get TWN.TWN_CLAIM_PEER 0 g < c then s.put TWN.TWN_CLAIM_PEER c 0 g else s
      ({ s with twn.asked := s.twn.asked.filter (· != g) }).takeStart [g] false)

/-- A unit as twin DRAM holds it: T1, or the mirror frames with their gaps from T2 (R379). -/
def State.dramUnit (s : State) (w : Nat) : Option (Nat × List SectorVal) :=
  match s.block (w / 16) with
  | some b => if b.unitPresent (w % 16) then some (s.unitNow w) else none
  | none => (tget s.twn.mirror w).map fun m => (m.stamp, (List.range 64).map fun k => (tget m.vals k).getD (s.t2Read (w * 64 + k)))

/-- Codes of a READ_RESP or FETCH_RESP as this model sends it in the sequence place, which is 0 for unordered records: data, NOT_RESIDENT, NOT_IN_SYNC. -/
def rspData : Nat := 0
def rspNotResident : Nat := 1
def rspNotInSync : Nat := 2

/-- R408: a read of one unit of this twin's DRAM. -/
def execReadReq (hdr : TwinHdr) (s : State) : Res :=
  .next (s.recv hdr fun s =>
    let w := hdr.addr.toNat
    if !s.flag TWN.IN_SYNC then s.twinSend 0x0D hdr.grp.val rspNotInSync w 0 []
    else match s.dramUnit w with
    | some (st, vs) => s.twinSend 0x0D hdr.grp.val rspData w st vs
    | none => s.twinSend 0x0D hdr.grp.val rspNotResident w 0 [])

/-- R408: a read of one unit of this twin's T2. -/
def execFetch (hdr : TwinHdr) (s : State) : Res :=
  .next (s.recv hdr fun s =>
    let w := hdr.addr.toNat
    if !s.flag TWN.IN_SYNC then s.twinSend 0x0F hdr.grp.val rspNotInSync w 0 []
    else s.twinSend 0x0F hdr.grp.val rspData w (s.t2Stamp w) ((unitSecs w).map s.t2Read))

/-- The sampled comparison of a unit has its answer (R401). Without data from DRAM the partner's T2 is asked; without any the sample ends. -/
def State.compareAnswer (s : State) (w stamp : Nat) (r : TwinResp) : State :=
  match s.twn.compare with
  | none => s
  | some (n, _) =>
    if unitOf n ≠ w then s
    else match r with
    | .data sectors poison tagsOk ownOk =>
      let v := ((withPoison sectors poison)[n % 64]?).getD zeroSec
      ({ s with twn.compare := none }).compareSec n stamp v (tagsOk.getLsbD (n % 64)) ownOk
    | .notResident => s.twinSend 0x0E 0 0 w 0 []
    | .notInSync => { s with twn.compare := none }

/-- The partner's copy of a unit has come, or is not to be had: the damaged sectors of the unit are rewritten, or are poison (R261, R284, R355). -/
def State.mendAnswer (s : State) (w : Nat) (vals : Option (List SectorVal)) : State :=
  let mine := s.twn.mend.filter fun n => unitOf n == w
  let s : State := { s with twn.mend := s.twn.mend.filter fun n => unitOf n != w }
  match vals with
  | some l => mine.foldl (fun s n => s.secRewrite n ((l[n % 64]?).getD poisonSec)) s
  | none => mine.foldl State.mendFail s

/-- R209, R401, R408: a twin DRAM answer gives the reads of the unit on that path their data when its stamp is this twin's, else they go on to the next path. -/
def execTwinReadResp (hdr : TwinHdr) (resp : TwinResp) (s : State) : Res :=
  .next (s.recv hdr fun s =>
    let w := hdr.addr.toNat
    let s := s.compareAnswer w hdr.stamp.toNat resp
    let s := s.mendAnswer w (match resp with
      | .data sectors poison tagsOk _ => some ((withPoison sectors poison).zipIdx.map fun v => if tagsOk.getLsbD v.2 then v.1 else poisonSec)
      | .notResident | .notInSync => none)
    ((s.unitReads (w / 16) (w % 16)).filter fun r => r.stage == .twinDram).foldl (fun s r =>
      match resp with
      | .data sectors poison tagsOk _ =>
        if hdr.stamp.toNat = s.t2Stamp w && tagsOk.getLsbD (r.sector % 64) then
          s.answer r (.value (((withPoison sectors poison)[r.sector % 64]?).getD zeroSec) .okSlowPath)
        else s.startPath r 1
      | .notResident | .notInSync => s.startPath r 1) s |>.movSettle)

/-- R390, R401: a FETCH answer: it rewrites a unit restored for repair, or is the other copy of a comparison. -/
def execFetchResp (hdr : TwinHdr) (resp : TwinResp) (s : State) : Res :=
  .next (s.recv hdr fun s =>
    let w := hdr.addr.toNat
    let s := match resp with
      | .notResident => if (match s.twn.compare with | some (n, _) => unitOf n == w | none => false) then { s with twn.compare := none } else s
      | _ => s.compareAnswer w hdr.stamp.toNat resp
    if !s.twn.repair.contains w then s
    else
      let left := s.twn.repair.filter (· != w)
      let s : State := { s with twn := { s.twn with repair := left, form := if left.isEmpty && s.twn.form = .fetching then .none else s.twn.form } }
      match resp with
      | .data sectors poison tagsOk _ =>
        -- a sector whose tag fails in both copies is poison in both (Table 12-6)
        (withPoison sectors poison).foldl (fun (a : State × Nat) v =>
          let n := w * 64 + a.2
          (if tagsOk.getLsbD a.2 then a.1.secRewrite n v else (a.1.diverge n 7).secRewrite n poisonSec, a.2 + 1)) (s, 0) |>.1
      | .notResident | .notInSync => s.misc twnPage 7 (le 8 w))

/-- R352: the partner harvests. -/
def execHarvestBegin (hdr : TwinHdr) (s : State) : Res := .next (s.recv hdr fun s => { s with twn.peerHarvest := true })

/-- R392, R542: TIME_NS follows the twin that serves more groups, unit 0 on a tie: forward at once, backward by slewing. -/
def execTwinTime (hdr : TwinHdr) (serveCount : Nat) (s : State) : Res :=
  .next (s.recv hdr fun s =>
    let own := ((List.range 16).filter s.serves).length
    let t := hdr.stamp.toNat
    if own < serveCount || (own = serveCount && s.unit = 1) then
      (if s.timeNs ≤ t then { s with timeNs := t, slew := 0 } else { s with slew := s.timeNs - t })
    else s)

/-- R403, R404: the destination's brine blocks, in order. -/
def execBrineList (hdr : TwinHdr) (pbns : List Nat) (s : State) : Res := .next (s.recv hdr fun s => s.rxOrdered hdr.seq.toNat (.brineList pbns))

/-- R405: a unit of the resync stream, in order. -/
def execResyncData (hdr : TwinHdr) (unit : ResyncUnit) (s : State) : Res :=
  .next (s.recv hdr fun s =>
    let v := match unit with | .zero => none | .data sectors poison => some (withPoison sectors poison)
    s.rxOrdered hdr.seq.toNat (.resync hdr.addr.toNat hdr.stamp.toNat v))

/-- R405, R407: a block is durable at the destination. -/
def execResyncAck (hdr : TwinHdr) (s : State) : Res :=
  .next (s.recv hdr fun s => ({ s with twn.rsm := s.twn.rsm.filter (· != hdr.addr.toNat) }).resyncCheck)

/-! ## Timers of the link -/

/-- R376: NACK for the missing record. -/
def execRecordGapTimeout (s : State) : Res :=
  if s.twn.rxHold.isEmpty || thas s.twn.rxHold (s.twn.rxSeq + 1) then .next s else .next (s.twinSend 0x05 0 (s.twn.rxSeq + 1) 0 0 [])

/-- A bundle is down; its unacknowledged records go out on the others, unless the link is lost with it (R377). -/
def State.bundleDown (s : State) (b : Nat) : State :=
  if !s.bitOf TWN.BUNDLES b then s
  else
    let s := (s.blkErr twnPage 19 4)
    let left := setBits (s.get TWN.BUNDLES) b 1 0
    if (setBitsOf 4 left).length < 2 then s.linkLost
    else
      let s := s.put TWN.BUNDLES left
      (s.twn.replay.filter fun r => !r.acked).foldl State.resendRec s

/-- R377: a bundle goes down. -/
def execBundleDown (bundle : Bundle) (s : State) : Res := .next (s.bundleDown bundle.val)

/-- R377, R397: the link is lost; a twin whose bundles all fail the loopback test fences at once. -/
def execLinkLost (loopback : BitVec 4) (s : State) : Res :=
  if s.twn.form ≠ .none && s.twn.form ≠ .fetching then .next s.formRestart
  else
    let s := s.linkLost
    if (s.role = rolePaired || s.role = roleSrc || s.role = roleDst) && loopback = 0 then .next s.fenceAll else .next s

/-- R400: the interval closes and its digest is sent. -/
def execDigestInterval (s : State) : Res :=
  let a := s.twn.digestFrom
  let b := s.twn.txSeq
  if b < a then .next s
  else
    let d := s.replayDigest a b
    .next ((({ s with twn.digestFrom := b + 1 }).twinSend 0x06 0 a b d []).replayPrune)

/-! ## Takeover and arbitration -/

/-- A sample of CLAIM_W. A line that reads high while this twin drives it low is released and recorded: the readback of R372, Table 1-6; whether it was so (the severity: log entry 100). -/
def State.claimSample (s : State) (high : Bool) : State × Bool :=
  let s := s.put TWN.CLAIM_W_IN (b2n high)
  if s.flag TWN.CLAIM_W_DRV && high then (((s.put TWN.CLAIM_W_DRV 0).pinOut "CLAIM_W" 0 none).misc twnPage 5, true) else (s, false)

/-- Drive CLAIM_W low (R372). -/
def State.claimDrive (s : State) : State := if s.flag TWN.CLAIM_W_DRV then s else (s.put TWN.CLAIM_W_DRV 1).pinOut "CLAIM_W" 0 (some false)

/-- R394, R395, R372: two samples of CLAIM_W by a SOLO twin in sync. -/
def execTakeoverClaimSample (high1 high2 : Bool) (s : State) : Res :=
  let (s, bad) := s.claimSample high2
  if bad || s.role ≠ roleSolo || !s.flag TWN.IN_SYNC || s.flag TWN.CLAIM_W_DRV || s.unserved.isEmpty || !(high1 && high2) then .next s
  else .next (s.claimDrive.takeStart s.unserved true)

/-- R384: the epoch store ends. A second failure abandons the take. -/
def execEpochStoreDone (pass : Bool) (s : State) : Res :=
  match s.twn.take with
  | none => .next s
  | some t =>
    if pass then .next (s.takeDone t)
    else if t.retried then .next (({ s with twn.take := none }).misc twnPage 6)
    else .next (({ s with twn.take := some { t with retried := true } }).emit (.device "EPOCH_STORE" t.groups))

/-- R395: CLAIM_W has read low for 1 ms. -/
def execClaimStuck (s : State) : Res :=
  if s.role = roleSolo && !s.flag TWN.CLAIM_W_DRV && !s.unserved.isEmpty then .next (s.blkErr twnPage 20 6) else .next s

/-- R397, R398, R399, R391: arbitration with the link lost and ALIVE present: high wins, low loses. A twin that may not take groups is fenced (R396). -/
def execArbitrationSample (high : Bool) (s : State) : Res :=
  let (s, bad) := s.claimSample high
  let formed := s.role = rolePaired || s.role = roleSrc || s.role = roleDst
  let alone := s.role = roleInit || s.role = roleForming
  if bad || !(formed || alone) || s.linkUp || !s.flag TWN.ALIVE_IN_OK then .next s
  else if !high then .next s.fenceAll
  else if formed && !s.flag TWN.IN_SYNC || alone && !s.mayTake then .next s.fenceAll
  else .next ((s.claimDrive.soloEntry).put TWN.IN_SYNC 1)

/-- R398: the winner takes the loser's groups. -/
def execLoserGroupTake (s : State) : Res :=
  if s.role = roleSolo && s.flag TWN.CLAIM_W_DRV then .next (s.takeStart s.unserved true) else .next s

/-! ## Formation -/

/-- R387: lane training, once restore has ended. -/
def execPairFormationStart (s : State) : Res :=
  if s.twn.form ≠ .none || s.twn.stopped || s.get HRV.STATE ≠ hrvNormal || s.mirroring then .next s else .next s.formStart

/-- R387: bundles are trained; on two or more the link is up and HELLO goes out. -/
def execTwinLinkSignal (bundles : BitVec 4) (s : State) : Res :=
  if s.twn.form ≠ .training || (setBitsOf 4 bundles.toNat).length < 2 || (setBitsOf 4 bundles.toNat).any (fun b => s.clk.pllDown.contains (18 + b)) then .next s
  else
    let s := s.put TWN.BUNDLES bundles.toNat
    let s := if s.role = roleInit then s.put TWN.STATE roleForming else s
    .next (({ s with twn := { s.twn with form := .linked, rxCount := [] } }).twinSend 0x01 0 0 s.unit 0 [])

/-- R387: a step of formation has taken too long. -/
def execFormationTimeout (s : State) : Res := if s.twn.form = .none || s.twn.stopped then .next s else .next s.formRestart

/-- R391: FORM_WAIT_S without a pair: alone, with CLAIM_W high twice and the sync record or ALONE_OK, the twin takes every group. -/
def execFormWaitExpiry (high1 high2 : Bool) (s : State) : Res :=
  let (s, bad) := s.claimSample high2
  if bad || (s.role ≠ roleInit && s.role ≠ roleForming) || s.flag TWN.ALIVE_IN_OK || !(high1 && high2) || !(s.twn.syncAll || s.flag TWN.ALONE_OK) || s.bitOf NVS.FAST_BAD 0 then .next s
  else
    let s := if s.twn.syncAll then s else s.misc twnPage 6
    .next (((s.claimDrive.soloEntry).put TWN.IN_SYNC 1).takeStart s.unserved false)

/-- R403, R407: the background scan has finished. -/
def execRsmScanDone (s : State) : Res := .next (({ s with twn.scanDone := true }).resyncSend).resyncCheck

/-! ## Handoff -/

/-- R409 steps 2 and 3: every accepted write of the group is in the taker's twin brine. -/
def execHandoffDrained (group : Grp) (s : State) : Res :=
  let g := group.val
  if !s.twn.handoff.contains g || s.twn.gave.contains g || (s.twn.replay.any fun r => r.grp == g && !r.acked) then .next s
  else
    let c := s.get TWN.TWN_CLAIM_LOCAL 0 g
    let s := (s.twinSend 0x0B g 0 0 c []).fenceGroups fun x => x == g
    .next (({ s with twn.gave := s.twn.gave ++ [g] }).inc TWN.HANDOFF_CNT)

/-- R409: HANDOFF_MAX_MS is over before step 3. -/
def execHandoffTimeout (group : Grp) (s : State) : Res :=
  let g := group.val
  if s.twn.handoff.contains g && !s.twn.gave.contains g then
    .next (({ s with twn.handoff := s.twn.handoff.filter (· != g) }).misc twnPage 4 (le 1 g))
  else .next s

/-- R410: the pair has been PAIRED for RECLAIM_HOLD_S. -/
def execReclaimHoldExpiry (s : State) : Res :=
  if s.role = rolePaired && s.flag TWN.RECLAIM_EN then .next (s.askGroups ((List.range 16).filter fun g => bit (s.get TWN.PREF_MASK) g)) else .next s

/-- HANDOFF_OP (R410): 1 gives a group, 2 asks for it; others are ignored. -/
def State.handoffOp (s : State) (op g : Nat) : State :=
  match op with
  | 1 => s.handoffStart g
  | 2 => if s.role = rolePaired then s.askGroups [g] else s
  | _ => s

/-- PAIR_ACCEPT (R388, R406): formation stopped for a new partner may go on with it, as a full-resync destination. -/
def State.pairAccept (s : State) : State :=
  if s.twn.stopped && s.twn.form = .hello then { s with twn := { s.twn with stopped := false, pairId := none, full := true, form := .linked } } else s

end Sys2Proof.Machine
end

