-- ==== Sys2Proof/Machine/Cmn.lean ====
section
/-! DEFINITION. The events of CMN (13): packets by operation, timers, connection control. -/
namespace Sys2Proof.Machine

/-! ## Requests and responses (R428) -/

def State.rxRequest (s : State) (again : Bool) (m : RxMsg) (op : Nat) (p : Packet) : State :=
  (State.ingress State.authStorm again m s p true fun s i => s.request i op p).movSettle
def State.rxResponse (s : State) (again : Bool) (m : RxMsg) (read : Bool) (p : Packet) : State :=
  (State.ingress State.authStorm again m s p true fun s i => s.response i p read).movSettle
def execCmnWrite (pkt : Packet) (s : State) : Res := .next (s.rxRequest false (.write pkt) opWrite pkt)
def execCmnWriteMasked (pkt : Packet) (s : State) : Res := .next (s.rxRequest false (.masked pkt) opMasked pkt)
def execCmnRead (pkt : Packet) (s : State) : Res := .next (s.rxRequest false (.read pkt) opRead pkt)

def execCmnWriteCmp (pkt : Packet) (s : State) : Res := .next (s.rxResponse false (.writeCmp pkt) false pkt)
def execCmnReadResp (pkt : Packet) (s : State) : Res := .next (s.rxResponse false (.readResp pkt) true pkt)

/-! ## Control packets -/

/-- The path a packet came by: the first of the connection with its port and sublink. -/
def Conn.pathOf (c : Conn) (p : Packet) : Option Nat :=
  (c.paths.find? fun e => e.2.path.eport == p.eport && e.2.path.sublink == p.sublink).map Prod.fst

/-- The connection's paths have changed: with none ACTIVE or SUSPECT an OPEN connection is DOWN; with one ACTIVE a DOWN one is OPEN and sends (R426). -/
def State.connPaths (s : State) (i : Nat) : State :=
  let c := s.conn i
  let live := c.paths.any fun e => e.2.state != .down
  let act := c.paths.any fun e => e.2.state == .active
  if c.state = .opened && !live then s.putConn i { c with state := .down }
  else if c.state = .down && act then (s.putConn i { c with state := .opened }).cmnPump i
  else s

/-- What an acknowledged set of packets does to a path's window (R439): halved by new CE marks, grown by one for each full window without. -/
def PathRun.acked' (r : PathRun) (n ceCount : Nat) : PathRun :=
  if n = 0 then r
  else
    let st := if r.state = .suspect then .active else r.state
    if r.ce ≠ ceCount then { r with window := max 4 (r.window / 2), acked := 0, ce := ceCount, rtos := 0, state := st }
    else
      let a := r.acked + n
      if r.window ≤ a then { r with window := min 1024 (r.window + 1), acked := a - r.window, rtos := 0, state := st }
      else { r with acked := a, rtos := 0, state := st }

/-- The old phase is over (R424): its packets are all acknowledged, none of the peer's is missing, and the peer has sent under the other. The warden erases its keys. -/
def Conn.eraseOld (c : Conn) : Conn :=
  let old := !c.phase
  let fresh := c.rx c.phase
  let done := !(c.unacked.any fun x => x.phase == old) && (c.rx old).acc.isEmpty && c.owed == 0 && (fresh.base != 0 || !fresh.ctlSeen.isEmpty) && !c.nextReady
  let had := if old then c.keys1.isSome else c.keys0.isSome
  if done && had && (0 < (c.rx old).base || !(c.rx old).ctlSeen.isEmpty) then
    ({ c with keys0 := if old then c.keys0 else none, keys1 := if old then none else c.keys1 }).setRx old freshRx
  else c

/-- R429, R439: ACK of the phase in its header: everything up to ACK_PSN is acknowledged; a DOWN path that answers three PROBEs is ACTIVE. -/
def State.rxAck (s : State) (again : Bool) (pkt : Packet) (ackPsn ceCount : BitVec 32) : State :=
  (State.ingress State.authStorm again (.ack pkt ackPsn ceCount) s pkt false fun s i =>
    let c := s.conn i
    let none' := ackPsn = BitVec.allOnes 32
    let hit (x : TxPkt) : Bool := !none' && x.phase == pkt.phase && x.pkt.psn.toNat ≤ ackPsn.toNat
    let gone := c.unacked.filter hit
    let paths : Table PathRun := tmap c.paths fun k r => r.acked' (gone.filter fun x => x.path == k).length ceCount.toNat
    let paths : Table PathRun := match c.pathOf pkt with
      | some k => tmod paths k fun r =>
          if r.state = .down && r.probeOut then
            (if 3 ≤ r.probes + 1 then { r with state := .active, probes := 0, probeOut := false, rtos := 0 } else { r with probes := r.probes + 1, probeOut := false })
          else r
      | none => paths
    let c := { c with unacked := c.unacked.filter fun x => !hit x, paths := paths }
    (((s.putConn i c.eraseOld).connPaths i).cmnPump i))
def execCmnAck (pkt : Packet) (ackPsn ceCount : BitVec 32) (s : State) : Res := .next (s.rxAck false pkt ackPsn ceCount)

/-- R439: the packets a NACK names are sent again at once. -/
def State.rxNack (s : State) (again : Bool) (pkt : Packet) (ranges : List (Nat × Nat)) : State :=
  (State.ingress State.authStorm again (.nack pkt ranges) s pkt false fun s i =>
    ranges.foldl (fun s r => (List.range r.2).foldl (fun s k => s.resend i (r.1 + k) pkt.phase) s) s)
def execCmnNack (pkt : Packet) (ranges : List (Nat × Nat)) (s : State) : Res := .next (s.rxNack false pkt ranges)

/-- R437: NOTICE ends a message of the initiator with FENCED. -/
def State.rxNotice (s : State) (again : Bool) (pkt : Packet) (status : BitVec 8) : State :=
  ((State.ingress State.authStorm again (.notice pkt status) s pkt false fun s i =>
    match (s.conn i).inits.find? fun m => m.msn == pkt.msn.toNat with
    | some m => if status.toNat = Status.fenced.code then s.initEnd i m .fenced false else s
    | none => s).movSettle)
def execCmnNotice (pkt : Packet) (status : BitVec 8) (s : State) : Res := .next (s.rxNotice false pkt status)

/-- Table 13-2: PROBE is answered by ACK on the same path. -/
def State.rxProbe (s : State) (again : Bool) (pkt : Packet) (path : Fin 8) : State :=
  (State.ingress State.authStorm again (.probe pkt path) s pkt false fun s i => s.sendAck i pkt.phase (some path.val))
def execCmnProbe (pkt : Packet) (path : Fin 8) (s : State) : Res := .next (s.rxProbe false pkt path)

/-- Switch to the other key phase once both ends have its keys (R424): PSNs start at 0, held messages go out. -/
def State.phaseSwitch (s : State) (i : Nat) : State :=
  let c := s.conn i
  let keyed := if c.phase then c.keys0.isSome else c.keys1.isSome
  if c.nextReady && keyed then (s.putConn i { c with phase := !c.phase, nextReady := false, txPsn := 0 }).cmnPump i else s

/-- R424: the peer has the keys of a phase. -/
def State.rxRekeyReady (s : State) (again : Bool) (pkt : Packet) (phase : Bool) : State :=
  (State.ingress State.authStorm again (.rekeyReady pkt phase) s pkt false fun s i =>
    if phase == (s.conn i).phase then s else (s.modConn i fun c => { c with nextReady := true }).phaseSwitch i)
def execCmnRekeyReady (pkt : Packet) (phase : Bool) (s : State) : Res := .next (s.rxRekeyReady false pkt phase)

/-- R426: CLOSE from the peer. -/
def State.rxClose (s : State) (again : Bool) (pkt : Packet) (status : BitVec 8) : State :=
  (State.ingress State.authStorm again (.close pkt status) s pkt false fun s i =>
    let c := s.conn i
    if c.state = .opened ∨ c.state = .down then
      (s.putConn i { c with state := .closing }).emit (.device "CMN_CLOSED" [i, status.toNat])
    else s)
def execCmnClose (pkt : Packet) (status : BitVec 8) (s : State) : Res := .next (s.rxClose false pkt status)

/-- A packet out of a receive buffer (R456). -/
def State.rxRun (s : State) : RxMsg → State
  | .write p => s.rxRequest true (.write p) opWrite p
  | .masked p => s.rxRequest true (.masked p) opMasked p
  | .read p => s.rxRequest true (.read p) opRead p
  | .writeCmp p => s.rxResponse true (.writeCmp p) false p
  | .readResp p => s.rxResponse true (.readResp p) true p
  | .ack p a c => s.rxAck true p a c
  | .nack p r => s.rxNack true p r
  | .notice p st => s.rxNotice true p st
  | .probe p path => s.rxProbe true p path
  | .rekeyReady p ph => s.rxRekeyReady true p ph
  | .close p st => s.rxClose true p st

/-! ## Frames and pauses -/

/-- R415: any other frame goes to service firmware. -/
def execNonCemanorFrame (eport : EPort) (sublink : Fin 8) (len : Nat) (s : State) : Res :=
  .next ((s.incMod CMP.RX_FRAMES 1 eport.val).emit (.device "SVC_FRAME" [eport.val, sublink.val, len]))

/-- R417: a pause frame counts; it holds the port's sending while PFC_EN is 1 and it names PFC_PRIO. -/
def execPfcPauseReceived (eport : EPort) (prio : BitVec 3) (on : Bool) (s : State) : Res :=
  let e := eport.val
  let m := setBits ((tget s.cmn.paused e).getD 0) prio.toNat 1 (b2n on)
  let s : State := { (s.inc CMP.PFC_PAUSE 1 e) with cmn.paused := if m = 0 then tdel s.cmn.paused e else tset s.cmn.paused e m }
  .next (if on then s else s.cmn.conns.foldl (fun s c => s.cmnPump c.1) s)

/-- Table 13-10: LINK_UP of a port. -/
def execSublinkUp (eport : EPort) (sublink : Fin 8) (s : State) : Res :=
  if s.clk.pllDown.contains (14 + eport.val) then .next s else .next (s.putBit CMP.LINK_UP sublink.val true eport.val)
def execSublinkDown (eport : EPort) (sublink : Fin 8) (s : State) : Res := .next (s.putBit CMP.LINK_UP sublink.val false eport.val)

/-! ## Timers -/

/-- Whether a connection carries traffic. -/
def Conn.live (c : Conn) : Bool := c.state == .opened || c.state == .closing || c.state == .down

/-- R429: 4 µs after the first unacknowledged acceptance. ACK names the PSNs of each phase that is in use. -/
def execAckTimer (conn : BitVec 20) (s : State) : Res :=
  let i := conn.toNat
  let c := s.conn i
  if !c.live || c.owed = 0 then .next s
  else
    let s := if c.keys0.isSome && (0 < c.rx0.base || !c.rx0.acc.isEmpty) then s.sendAck i false none else s
    .next (if c.keys1.isSome && (0 < c.rx1.base || !c.rx1.acc.isEmpty) then s.sendAck i true none else s)

/-- The PSNs missing below the highest accepted one of a phase. -/
def RxPhase.missing (r : RxPhase) : List Nat :=
  let top := r.acc.foldl max r.base
  ((List.range (top - r.base)).map (r.base + ·)).filter fun n => !r.acc.contains n

/-- Rising numbers as ranges of successive ones: first and count. -/
def rangesOf (l : List Nat) : List (Nat × Nat) :=
  l.foldr (fun n acc => match acc with
    | (a, k) :: rest => if n + 1 = a then (n, k + 1) :: rest else (n, 1) :: acc
    | [] => [(n, 1)]) []

/-- R429: NACK for every missing range of a phase that none has named within RTO_US, at most 32 ranges a NACK. -/
def State.nackGaps (s : State) (i : Nat) (phase : Bool) : State :=
  let c := s.conn i
  let want := (c.rx phase).missing.filter fun n => !c.nacked.any fun x => x.1 == phase && x.2.1 == n && s.timeNs < x.2.2 + s.get CME.RTO_US 4 * 1000
  let gaps := rangesOf want
  let s := s.putConn i { c with nacked := (c.nacked.filter fun x => !(x.1 == phase && want.contains x.2.1)) ++ want.map fun n => (phase, n, s.timeNs) }
  (chunks 32 ((gaps.length + 31) / 32) gaps).foldl (fun s g => s.sendNack i phase g) s

/-- R429: NACK_DELAY has passed with a gap. -/
def execNackDelayExpiry (conn : BitVec 20) (s : State) : Res :=
  let i := conn.toNat
  if !(s.conn i).live then .next s else .next ((s.nackGaps i false).nackGaps i true)

/-- R431: MSG_TIMEOUT of an unresolved message at the target: INCOMPLETE_MESSAGE, its hold slots free, the FLAGGED messages behind it released. -/
def execMsgTimeout (conn : BitVec 20) (msn : BitVec 32) (s : State) : Res :=
  let i := conn.toNat
  match (s.conn i).tgt msn.toNat with
  | none => .next s
  | some m =>
    let s := (s.tgtEnd i m true .incompleteMessage (some (s.registrationAt m.reg).region)).inc CME.MSG_TIMEOUTS 1 4
    .next (s.releaseHolds i (s.conn i).holds.length).movSettle

/-- R441: INIT_TIMEOUT of a message that a mover started. -/
def execInitTimeout (conn : BitVec 20) (msn : BitVec 32) (s : State) : Res :=
  let i := conn.toNat
  match (s.conn i).inits.find? fun m => m.msn == msn.toNat with
  | none => .next s
  | some m => (match m.who with
    | .step .. => .next (s.initEnd i m .timeout false).movSettle
    | .foreign .. => .next s)

/-- R439: a packet is unacknowledged for its RTO: its path is SUSPECT, DOWN at the third in succession; the packet is sent again elsewhere. -/
def execRtoExpiry (conn : BitVec 20) (psn : BitVec 32) (s : State) : Res :=
  let i := conn.toNat
  let c := s.conn i
  match c.unacked.find? fun x => x.pkt.psn == psn with
  | none => .next s
  | some x =>
    if !c.live then .next s
    else
      let down (r : PathRun) : PathRun := if 3 ≤ r.rtos + 1 then { r with state := .down, rtos := 0, probes := 0, probeOut := false } else { r with state := .suspect, rtos := r.rtos + 1 }
      let s := (s.putConn i { c with paths := tmod c.paths x.path fun r => if r.state = .down then r else down r }).connPaths i
      .next (s.resend i psn.toNat x.phase)

/-- R439: a DOWN path is probed every 1 ms; an unanswered PROBE breaks the succession. -/
def execProbeTimer (conn : BitVec 20) (path : Fin 8) (s : State) : Res :=
  let i := conn.toNat
  let c := s.conn i
  match tget c.paths path.val with
  | some r =>
    if c.live && r.state == .down then
      let r := { r with probes := if r.probeOut then 0 else r.probes, probeOut := true }
      .next ((s.putConn i { c with paths := tset c.paths path.val r }).sendCtl i opProbe (some path.val) fun p => p)
    else .next s
  | none => .next s

/-- A connection becomes FREE; the warden erases its keys (R426). -/
def State.connErase (s : State) (i : Nat) : State :=
  s.modConn i fun c => { c.clearTraffic with state := .free, keys0 := none, keys1 := none, freedAt := some s.timeNs, paths := [] }

/-- A connection becomes FREE while the registration table is served: what it had admitted has ended (R94). -/
def State.connFree (s : State) (i : Nat) : State := ((s.conn i).tgts.foldl (fun s m => s.messageEnd m.reg) s).connErase i

/-- R426: a CLOSING connection whose messages are resolved, or whose time is over, is FREE. -/
def execConnCloseTimeout (conn : BitVec 20) (s : State) : Res :=
  let i := conn.toNat
  if (s.conn i).state = .closing then .next ((s.connEndAll i .aborted).connFree i).movSettle else .next s

/-! ## CONN_CTL (R424, R426, R427, R446) -/

/-- OPEN: a FREE slot, 1 s after it became FREE, its descriptor and the keys of phase 0 written, room in the context cache. PROBE goes out on every path. -/
def State.connOpen (s : State) (i : Nat) : State :=
  let c := s.conn i
  let rested := match c.freedAt with | some t => t + 10 ^ 9 ≤ s.timeNs | none => true
  if c.state ≠ .free || !rested || c.keys0.isNone || 524288 ≤ s.connCount then s
  else
    let gen := (c.gen + 1) % 16
    let paths : Table PathRun := c.desc.paths.foldl (fun t p => tset t p.1.val { path := p.2, state := .active, window := 32, acked := 0, ce := 0, rtos := 0, probes := 0, probeOut := false }) []
    let s := s.putConn i { noConn with
      state := .opened, gen := gen, desc := c.desc, keys0 := c.keys0, keys1 := c.keys1, check := crc32c (connPack gen c.desc), paths := paths }
    paths.foldl (fun s p => s.sendCtl i opProbe (some p.1) fun p => p) s

/-- CLOSE: CLOSE is sent and the connection is CLOSING; one in ERROR is FREE. -/
def State.connClose (s : State) (i : Nat) : State :=
  let c := s.conn i
  if c.state = .opened ∨ c.state = .down then
    (s.sendCtl i opClose none fun p => { p with plen := 1, data := [0] }).modConn i fun c => { c with state := .closing }
  else if c.state = .error then s.connFree i
  else s

/-- The control sequence of a phase starts at 0 (R424). -/
def Conn.ctlFresh (c : Conn) (phase : Bool) : Conn := if phase then { c with txCtl1 := 0 } else { c with txCtl0 := 0 }

/-- REKEY_INSTALL: the keys of the other phase are in the key table; the peer is told, and the windows of that phase start at 0. -/
def State.rekeyInstall (s : State) (i : Nat) : State :=
  let c := s.conn i
  let other := !c.phase
  let keyed := if other then c.keys1.isSome else c.keys0.isSome
  if !(c.state == .opened || c.state == .down) || !keyed then s
  else
    let s := s.putConn i ((c.setRx other freshRx).ctlFresh other)
    (s.sendCtl i opRekey none fun p => { p with plen := 1, data := [if other then 1 else 0] }).phaseSwitch i

/-- CONN_CTL (R446): 1 OPEN, 2 CLOSE, 3 REKEY_INSTALL; others are ignored. -/
def State.connCtl (s : State) (op i : Nat) : State :=
  match op with
  | 1 => s.connOpen i
  | 2 => s.connClose i
  | 3 => s.rekeyInstall i
  | _ => s

/-- R96: every admitted message has ended; the registration table is to be served again, and then its CLOSING registrations become FREE. -/
def State.sweepDue (s : State) : State :=
  { s with xlt.sweep := true, xlt.registrations := tmap s.xlt.registrations fun _ d => if d.state = .opened then { d with inflight := 0 } else d }

/-- R443: at a harvest or reset every connection becomes FREE without a CLOSE packet, and what it had admitted ends. -/
def State.connsFree (s : State) : State := (s.cmn.conns.foldl (fun s c => if c.2.state = .free then s else s.connErase c.1) s).sweepDue

/-- The same when Cemanor alone is reset. -/
def State.connsDrop (s : State) : State := s.cmn.conns.foldl (fun s c => if c.2.state = .free then s else s.connFree c.1) s

end Sys2Proof.Machine
end

