-- ==== Sys2Proof/Machine/Tier.lean ====
section
/-! DEFINITION. The events of TIER (07): fills, release, write-backs that end, held writes, path points, deadlines, schedules. -/
namespace Sys2Proof.Machine

/-- R190, R199, R210: a unit has been read from T2: by the fill, or by the single-unit read at priority of path 3. -/
def execFillUnitDone (pbn : Nat) (unit : Fin 16) (priority : Bool) (s : State) : Res := .next ((s.readEnded (pbn * 16 + unit.val)).unitRead pbn unit.val priority)

/-- R199, R209, Table 7-2: a unit is unrecoverable in T2. -/
def execFillUnitFail (pbn : Nat) (unit : Fin 16) (s : State) : Res :=
  let s := s.readEnded (pbn * 16 + unit.val)
  match s.block pbn with
  | some _ => .next (s.fillFail pbn unit.val)
  | none => .next (s.directFail pbn unit.val).movSettle

/-- R188, R199, R249: a LEAVING block whose units are clean leaves T1, its pan lines written back and invalidated first. -/
def execTierReleaseDone (pbn : Nat) (s : State) : Res :=
  match s.block pbn with
  | none => .next s
  | some b =>
    if b.state ≠ .leaving || b.dirty || (b.units.any fun e => e.2.wb.isSome) then .next s
    else
      .next (s.releaseBlock pbn)

/-- Whether T2 holds a unit as of a stamp, its record durable and applied (Table 10-6 step 5): nothing of its write-back is in staging or waits any more. -/
def State.written (s : State) (w st : Nat) : Bool := st ≤ s.t2Stamp w && !((s.flm.staged ++ s.flm.waiting).any fun u => u.tun == w && u.old.isNone)

/-- A write-back is in T2 (R206, R226, R319): the unit is clean unless it has been written since; it is graded, and a block without pin and DIRTY units loses its charge (R196). -/
def State.writeBackDone (s : State) (pbn u : Nat) : State :=
  let w := pbn * 16 + u
  match s.block pbn with
  | some b =>
    (match tget b.units u with
     | some x =>
       (match x.wb with
        | some (st, _) =>
          if !s.written w st then s
          else
            let x := { x with wb := none, dirty := x.dirty && x.stamp != st }
            ((s.putBlock pbn { b with units := tset b.units u x }).grade w b.region).settle pbn
        | none => s)
     | none => s)
  | none =>
    match tget s.twn.mirror w with
    | some m =>
      (match m.wb with
       | some (st, _) =>
         if !s.written w st then s
         else
           let s := s.grade w m.region
           { s with twn.mirror := if m.stamp = st then tdel s.twn.mirror w else tset s.twn.mirror w { m with wb := none } }
       | none => s)
    | none => s

/-- R206, R319: TIER learns that a write-back is complete: the record of the unit is durable and applied. -/
def execWriteBackDone (pbn : Nat) (unit : Fin 16) (s : State) : Res := .next (s.writeBackDone pbn unit.val)

/-- R20, R205: the first held write of a source, or the mirror record that waits for room, is tried again. -/
def execHeldWriteRelease (src : WriteSrc) (s : State) : Res :=
  match src with
  | .mirror => .next (s.rxDrain s.twn.rxHold.length)
  | .port _ | .queue _ | .conn _ => .next ((s.releaseOne src).movSettle)

def State.readById (s : State) (id : Nat) : Option WaitRead := s.tier.reads.find? fun r => r.id == id

/-- Table 7-4: the time allowed for the twin DRAM path is over. -/
def execTwinPathTimeout (id : Nat) (s : State) : Res :=
  match s.readById id with
  | some r => if r.stage = .twinDram then .next (s.startPath r 1) else .next s
  | none => .next s

/-- R211: the deadline of a read that no path has served. -/
def execReadDeadline (id : Nat) (s : State) : Res :=
  match s.readById id with
  | some r => .next ((s.answer r (.error .timeout)).movSettle)
  | none => .next s

/-! ## Sluice schedules -/

def State.sluEntryAt (s : State) (t tag i : Nat) : Option SluEntry := (s.sched t tag).bind fun x => x.entries[i]?

/-- R218: an entry without a trigger reaches its eligible time. -/
def execSluiceEligible (tenant : BitVec 12) (tag : BitVec 32) (idx : Nat) (s : State) : Res :=
  match s.sluEntryAt tenant.toNat tag.toNat idx with
  | some e => if e.trigger.isNone && !s.resting tierPage then .next (s.sluEligible tenant.toNat tag.toNat idx) else .next s
  | none => .next s

/-- R220: the due time of an eligible entry. -/
def execSluiceDue (tenant : BitVec 12) (tag : BitVec 32) (idx : Nat) (s : State) : Res :=
  let t := tenant.toNat
  let g := tag.toNat
  match s.sluEntryAt t g idx with
  | some e =>
    if e.state ≠ .eligible then .next s
    else
      let there := e.blocks.all fun p => match s.block p with | some b => b.state == .resident | none => false
      .next ((s.sluMark t g idx (if there then .onTime else .missed)).sluSettle t g)
  | none => .next s

/-- Table 7-5, Table 7-2: HOLD_MS after the later of the due time and residency is over; the tenant's pins on the entry's blocks are dropped. -/
def execSluiceHoldExpiry (tenant : BitVec 12) (tag : BitVec 32) (idx : Nat) (s : State) : Res :=
  let t := tenant.toNat
  let g := tag.toNat
  match s.sluEntryAt t g idx with
  | some e =>
    let rising := e.blocks.any fun p => s.pinned t p && (match s.block p with | some b => b.state == .rising | none => true)
    if !e.state.done || e.holdEnded || e.hold = 0 || rising then .next s
    else
      let s := e.blocks.foldl (State.evictPin · t ·) s
      .next (((s.schedMod t g fun x => x.setEntry idx fun e => { e with holdEnded := true }).sluSweep).raiseSweep)
  | none => .next s

end Sys2Proof.Machine
end

