-- ==== Sys2Proof/Machine/Pan.lean ====
section
/-! DEFINITION. The pan's range operations, slice states, scrub and way retirement (08). -/
namespace Sys2Proof.Machine

def panPage (sl : Nat) : Page := pg .pan sl

/-- Codes of PAN_MAINT.OP (Table 8-3). -/
def panClean : Nat := 1
def panCleanInv : Nat := 2
def panInv : Nat := 3
def panLock : Nat := 4
def panUnlock : Nat := 5

/-- Results of PAN_MAINT (Table 8-7). -/
def panDone : Nat := 1
def panAborted : Nat := 2
def panRefused : Nat := 3

/-- The slices of the lines of a range: among 31 consecutive lines every slice of a longer range occurs. -/
def rangeSlices (base len : Nat) : List Nat := (List.range (min 31 (len / 128))).map fun i => sliceOf (base / 128 + i)

/-- A write of OP (R244, R247): ignored while BUSY, refused for a bad range, or for LOCK over a slice that is not ENABLED; else the operation starts with its counters cleared. -/
def State.panStart (s : State) (op : Nat) : State :=
  let base := s.get PAN.MAINT_BASE
  let len := s.get PAN.MAINT_LEN
  if op = 0 || panUnlock < op then s
  else if s.flag PAN.BUSY then s.blkErr (panPage 0) 16 4
  else if base % 128 ≠ 0 || len % 128 ≠ 0 || len = 0 || (op = panLock && (rangeSlices base len).any fun sl => s.get PAN.STATE sl != panEnabled) then
    s.put PAN.RESULT panRefused
  else
    let s := (((s.put PAN.LOCKS_RELEASED 0).put PAN.LINES_WRITTEN 0).put PAN.LINES_DISCARDED 0).put PAN.LOCK_REFUSED 0
    { (s.put PAN.BUSY 1) with pan.op := some { op := op, base := base, len := len } }

/-- Whether a line lies in a range. -/
def inLines (base len : Nat) (k : Nat) (x : Line) : Bool := let a := keyLine k x * 128; base ≤ a && a < base + len

/-- A line whose lock falls with it (R249). -/
def State.panUnlocked (s : State) (k : Nat) (x : Line) : State := if x.lock then s.lockLost (k / 32 / 8192) else s

/-- Write a line back, counted for the operation. -/
def State.panOpWrite (s : State) (k : Nat) (x : Line) : State := if x.dirty then (s.panWriteBack k x).incMod PAN.LINES_WRITTEN else s

/-- Whether the dirty data of a line is brine of class M or D (R250). -/
def State.lineBrine (s : State) (k : Nat) (x : Line) : Bool :=
  x.dirty && (match s.block (keyLine k x / 512) with | some b => (s.regionAt b.region).pclass < 2 | none => false)

/-- LOCK of one line (R243, R244). A line that is there gets its missing sectors from the frame; an absent one is filled, where its slice still allocates (Table 8-5). -/
def State.panLockLine (s : State) (l : Nat) : State :=
  let k := setKey (sliceOf l) (setOf l)
  let full (s : State) (h : Nat) (y : LineSec) : LineSec := if y.valid then y else cleanSec (s.frameRead (2 * l + h))
  let locked := ((List.range 24).filter fun w => match tget s.pan.lines (k + w) with | some x => x.lock | none => false).length
  let ready := match s.block (l / 512) with | some b => b.state == .resident && b.unitPresent (l / 32 % 16) | none => false
  match s.panFind l with
  | some (j, x) => if x.lock then s else if ready && locked < 12 then s.panPut j { x with lock := true, s0 := full s 0 x.s0, s1 := full s 1 x.s1 } else s.incMod PAN.LOCK_REFUSED
  | none =>
    if !(ready && locked < 12 && s.get PAN.STATE (sliceOf l) == panEnabled) then s.incMod PAN.LOCK_REFUSED
    else
      let s := s.panInstall l (s.frameLine l 1)
      match s.panFind l with
      | some (j, x) => s.panPut j { x with lock := true }
      | none => s.incMod PAN.LOCK_REFUSED

/-- The units of RESIDENT blocks in the range of a LOCK that are not PRESENT, and whose fill has not failed: they are filled first (R244). -/
def State.lockMissing (s : State) (o : PanOp) : List (Nat × Nat) :=
  if o.op ≠ panLock then []
  else s.tier.blocks.flatMap fun e => ((List.range 16).filter fun u =>
    let a := e.1 * blkBytes + u * 4096
    e.2.state == .resident && a < o.base + o.len && o.base < a + 4096 && !e.2.unitPresent u && !(match tget e.2.units u with | some x => x.failed | none => false)).map fun u => (e.1, u)

/-- A range operation does its work on every line of its range (Table 8-3). True when INV has discarded brine. -/
def State.panRun (s : State) (o : PanOp) : State × Bool :=
  let hit := s.pan.lines.filter fun e => inLines o.base o.len e.1 e.2
  match o.op with
  | 1 => (hit.foldl (fun s e => s.panOpWrite e.1 e.2) s, false)
  | 2 => (hit.foldl (fun s e => ((s.panOpWrite e.1 e.2).panUnlocked e.1 e.2).panDrop e.1) s, false)
  | 3 => (hit.foldl (fun s e => ((if e.2.dirty then s.incMod PAN.LINES_DISCARDED else s).panUnlocked e.1 e.2).panDrop e.1) s, hit.any fun e => s.lineBrine e.1 e.2)
  | 4 => ((List.range (o.len / 128)).foldl (fun s i => s.panLockLine (o.base / 128 + i)) s, false)
  | _ => (hit.foldl (fun s e => s.panPut e.1 { e.2 with lock := false, age := 1 }) s, false)

/-- R244, R248-R250, R254: every slice has processed its lines; none of them waits in CLEARING or INVALIDATING, or for a unit that LOCK has filled from T2. The record of brine that INV discards holds the 52-bit range in 7 bytes a field (R617). -/
def execPanMaintDone (s : State) : Res :=
  match s.pan.op with
  | none => .next s
  | some o =>
    if (rangeSlices o.base o.len).any (fun sl => s.get PAN.STATE sl == panClearing || s.get PAN.STATE sl == panInvalidating) then .next s
    else if !(s.lockMissing o).isEmpty then .next ((s.lockMissing o).foldl (fun s e => s.refill e.1 e.2) s)
    else
      let (s, brine) := s.panRun o
      let s := if brine then s.misc (panPage 0) 6 (le 7 o.base ++ le 7 o.len ++ le 4 (s.get PAN.LINES_DISCARDED)) else s
      let s : State := { ((s.put PAN.BUSY 0).put PAN.RESULT panDone) with pan.op := none }
      let n := s.get PAN.LOCKS_RELEASED
      .next (if n = 0 then s else s.lockEvent o.base o.len n)

/-- R251: a range operation in progress ends ABORTED. -/
def State.panAbort (s : State) : State :=
  if s.pan.op.isSome then { ((s.put PAN.BUSY 0).put PAN.RESULT panAborted) with pan.op := none } else s

/-- DISABLE written 1 (R252). -/
def State.panDisable (s : State) (sl : Nat) : State :=
  let s := s.put PAN.DISABLE 1 sl
  if s.get PAN.STATE sl = panEnabled then s.put PAN.STATE panDraining sl else s

/-- DISABLE written 0 (R253). -/
def State.panEnable (s : State) (sl : Nat) : State :=
  let s := s.put PAN.DISABLE 0 sl
  let st := s.get PAN.STATE sl
  if st = panDraining then s.put PAN.STATE panEnabled sl
  else if st = panClearing ∨ st = panDisabled then s.put PAN.STATE panInvalidating sl else s

/-- The reads that a slice stalled go on as reads do (Table 8-5). -/
def State.unstall (s : State) : State :=
  (s.tier.reads.filter fun r => r.panStall && !s.panStalls r.sector).foldl (fun s r =>
    let s := s.setRead r.id fun r => { r with panStall := false }
    match s.block r.pbn with
    | some b => if b.unitPresent r.unit then s.serveUnit r.pbn r.unit else s.refill r.pbn r.unit
    | none =>
      if s.freeFrames = 0 then (s.setRead r.id fun r => { r with noFrame := true }).t2Ask r.pbn [r.unit] false
      else s.startRise r.pbn r.region r.unit false false none []) s

/-- R252: a draining slice writes back its dirty lines; with none left it enters CLEARING. -/
def execPanDrainDone (slice : Slice) (s : State) : Res :=
  let sl := slice.val
  if s.get PAN.STATE sl ≠ panDraining then .next s
  else .next (((s.sliceLines sl).foldl (fun s e => s.panWriteBack e.1 e.2) s).put PAN.STATE panClearing sl)

/-- A slice invalidates every line; the locks that fall are counted and reported (R249, R252). -/
def State.panClearLines (s : State) (sl : Nat) : State :=
  s.panLose (fun e => e.1 / 32 / 8192 == sl) 0 0

/-- R252: a clearing slice has invalidated every line and enters DISABLED. -/
def execPanClearingDone (slice : Slice) (s : State) : Res :=
  let sl := slice.val
  if s.get PAN.STATE sl ≠ panClearing then .next s
  else .next (((s.panClearLines sl).put PAN.STATE panDisabled sl).unstall).movSettle

/-- R253, R258: the invalidation of a slice ends and it serves what it stalled. With DISABLE written 1 meanwhile it goes on to DRAINING (Table 8-5). -/
def execPanInvalidateDone (slice : Slice) (s : State) : Res :=
  let sl := slice.val
  if s.get PAN.STATE sl ≠ panInvalidating then .next s
  else
    let st := if s.flag PAN.DISABLE sl then panDraining else panEnabled
    .next (((s.panClearLines sl).put PAN.STATE st sl).unstall).movSettle

/-- DISCARD = 1 (R257): the dirty lines go, their locks counted and reported (R243, R249), and the slice enters CLEARING. -/
def State.panDiscard (s : State) (sl : Nat) : State :=
  if s.get PAN.STATE sl ≠ panDraining then s
  else
    let dirty := (s.sliceLines sl).filter fun e => e.2.dirty
    let s := s.panLose (fun e => e.1 / 32 / 8192 == sl && e.2.dirty) 0 0
    ((s.inc PAN.DISCARD_CNT dirty.length sl).misc (panPage sl) 6 (le 4 dirty.length)).put PAN.STATE panClearing sl

/-! ## Errors (R260-R263) -/

/-- A lock that an error or a retired way releases (R249). -/
def State.panLockFell (s : State) (k : Nat) (x : Line) : State := if x.lock then (s.lockLost (k / 32 / 8192)).lockEvent (keyLine k x * 128) 128 1 else s

/-- R263: a corrected error of a way; the third retires it, and a fifth retired way of a set drains the slice instead. -/
def State.panCorrected (s : State) (k : Nat) : State :=
  let sl := k / 32 / 8192
  let st := k / 32 * 32
  let n := (tget s.pan.wayErrs k).getD 0 + 1
  let s : State := { (s.inc PAN.CE_CNT 1 sl) with pan.wayErrs := tset s.pan.wayErrs k n }
  if n < 3 || s.pan.retired.contains k then s
  else if 4 ≤ (s.pan.retired.filter fun j => j / 32 * 32 == st).length then (s.panDisable sl).misc (panPage sl) 5 (le 1 sl)
  else
    let s := match tget s.pan.lines k with
      | some x => ((s.panWriteBack k x).panDrop k).panLockFell k x
      | none => s
    (({ s with pan.retired := s.pan.retired ++ [k] }).inc PAN.RETIRED_WAYS 1 sl).blkErr (panPage sl) 19 4

/-- Whether the partner's copy of a dirty sector is current (Table 8-6): mirrored, nothing of its unit unacknowledged. -/
def State.twinCurrent (s : State) (n : Nat) : Bool :=
  s.role == rolePaired && !s.unitUnacked (unitOf n) &&
  (match s.block (pbnOf n) with
   | some b => (match tget b.units (unitOf n % 16) with | some x => x.dirty && x.cls < 2 | none => false)
   | none => false)

/-- Ask the partner for its copy of a sector of brine that is damaged here (R261, R284): READ_REQ of its unit; the answer rewrites the sector. -/
def State.mendAsk (s : State) (n : Nat) : State :=
  let s : State := { s with twn.mend := if s.twn.mend.contains n then s.twn.mend else s.twn.mend ++ [n] }
  s.emit (.twin 0x0C (s.pbnGroup (pbnOf n)) 0 (unitOf n) 0 [])

/-- An uncorrectable error of a sector (Table 8-6): a clean one goes with its line, the other sector's dirty data written back; a dirty one comes from the partner or is stored poisoned. -/
def State.panUncorrectable (s : State) (k : Nat) (x : Line) (h : Nat) : State :=
  let sl := k / 32 / 8192
  let n := keyLine k x * 2 + h
  let s := s.inc PAN.UE_CNT 1 sl
  if !(x.sec h).valid then s
  else if !(x.sec h).dirty then (((s.panWriteBack k x).panDrop k).panLockFell k x).misc (panPage sl) 4
  else if s.twinCurrent n then (s.mendAsk n).misc (panPage sl) 5
  else (s.panPut k (x.setSec h { x.sec h with val := { (x.sec h).val with poison := true } })).misc (panPage sl) 6

/-- R261, R262: what the patrol scrub finds in a way. -/
def execPanScrub (slice : Slice) (setIx : Fin 8192) (way : Fin 24) (err : PanErr) (s : State) : Res :=
  let k := setKey slice.val setIx.val + way.val
  match tget s.pan.lines k with
  | none => .next s
  | some x =>
    match err with
    | .correctable _ => .next (s.panCorrected k)
    | .uncorrectable h => .next (s.panUncorrectable k x h.val)
    | .tagFail h => .next (s.panUncorrectable k x h.val)
    | .tagCopies => .next s
    | .dirtyCopies => .next (s.panPut k { x with s0 := { x.s0 with dirty := x.s0.valid }, s1 := { x.s1 with dirty := x.s1.valid } })
    | .lockCopies => .next ((s.panPut k { x with lock := false }).panLockFell k x)

/-- R259: a tracker whose requester has not read for 2 ms is freed. -/
def execTrackerExpiry (req : ReadReq) (s : State) : Res :=
  .next { s with pan.trackers := s.pan.trackers.filter fun t => !(t.who == req) }

end Sys2Proof.Machine
end

