-- ==== Sys2Proof/Machine/Stage.lean ====
section
/-! DEFINITION. Staged changes (02): shadows, safe points, commits, rollback. -/
namespace Sys2Proof.Machine

/-! ## Stageable fields -/

/-- The fields of a page from offset 0x100 up. -/
def pageFields (p : Page) : List Fld := (blkFields p.blk).filter fun f => f.p0 ≤ p.inst && p.inst ≤ f.p1

/-- Every entry of every stageable field of a page. -/
def stageSlots (p : Page) : List (Fld × Nat) :=
  ((pageFields p).filter fun f => f.stage).flatMap fun f => (List.range f.cnt).map fun i => (f, i)

/-- A live stageable field takes a value: OFFLINE and DISABLE act as Tables 6-3 and 8-5 say, every other field is stored. -/
def State.liveSet (s : State) (p : Page) (f : Fld) (i v : Nat) : State :=
  if f = MOV.OFFLINE then s.moverOffline p.inst (v != 0)
  else if f = PAN.DISABLE then (if v = s.rd p f i then s else if v != 0 then s.panDisable p.inst else s.panEnable p.inst)
  else s.wr p f v i

/-- Take the values a table lists for a page's stageable fields. -/
def State.liveSetAll (s : State) (p : Page) (t : Nat → Option Nat) : State :=
  (stageSlots p).foldl (fun s x => match t (x.1.key p x.2) with | some v => s.liveSet p x.1 x.2 v | none => s) s

/-- The live values of a page's stageable fields, by key. -/
def State.liveVals (s : State) (p : Page) : Table Nat :=
  (stageSlots p).foldl (fun t x => tset t (x.1.key p x.2) (s.rd p x.1 x.2)) []

/-- Whether a key of the register file belongs to a page. -/
def keyIn (p : Page) (k : Nat) : Bool := k / 32768 == pageBit p / 32768

def State.dropShadow (s : State) (p : Page) : State := { s with ctl.shadow := s.ctl.shadow.filter fun e => !keyIn p e.1 }
def State.dropOld (s : State) (p : Page) : State := { s with ctl.old := s.ctl.old.filter fun e => !keyIn p e.1 }

/-- The shadow of a page that arms: the live value of every stageable field (R55). -/
def State.loadShadow (s : State) (p : Page) : State :=
  { s with ctl.shadow := (s.liveVals p).foldl (fun t e => tset t e.1 e.2) s.ctl.shadow }

/-! ## Safe points -/

/-- STAGE_STAT values (Table 2-6) and STAGE_GSTAT values (Table 2-8). -/
def stIdle : Nat := 0
def stArmed : Nat := 1
def stApplying : Nat := 2
def stApplied : Nat := 3
def stRolled : Nat := 4
def stStuck : Nat := 5
def gApplying : Nat := 1
def gDone : Nat := 2
def gRolling : Nat := 3
def gRolled : Nat := 4
def gStuck : Nat := 5

def topPage : Page := pg .top

/-- Whether a page is at a staged-change safe point in every cycle (R301). -/
def State.alwaysSafe (s : State) (p : Page) : Bool :=
  p.blk == .dmc && (let st := s.get DMC.STATE p.inst; st == dmcAbsent || st == dmcTraining || st == dmcFailed || st == dmcExcluded)

/-- Whether a page can reach a staged-change safe point now: a channel in SELF_REFRESH cannot (R301), a mover in a step cannot (R186). -/
def State.canApply (s : State) (p : Page) : Bool :=
  !(p.blk == .dmc && s.get DMC.STATE p.inst == dmcSelfRefresh) && !(p.blk == .mov && (tget s.mov.runs p.inst).isSome)

def State.part (s : State) (p : Page) : Option Participant := s.ctl.parts.find? fun x => x.page == p
def State.partMod (s : State) (p : Page) (f : Participant → Participant) : State :=
  { s with ctl.parts := s.ctl.parts.map fun x => if x.page = p then f x else x }

/-- A participant ends rolled back (R59): shadow and old values gone, ARM cleared, EPOCH kept, STAGE_END. -/
def State.partRolled (s : State) (p : Page) : State :=
  let s := ((s.dropShadow p).dropOld p).partMod p fun x => { x with restored := true }
  ((s.wr p HDR.ARM 0).wr p HDR.STAGE_STAT stRolled).occur p 1 2

/-- Whether a participant still has to restore, or is stuck. -/
def Participant.unrestored (x : Participant) : Bool := x.applied && !x.restored

/-- Records of the rollback (R59, Table 16-12): epoch, PARTICIPANTS, APPLIED_COUNT, then up to 20 pages not applied in each record. -/
def State.rollbackRecords (s : State) : State :=
  let pages := allPages.filter fun p => s.ctl.parts.any fun x => x.page == p && !x.applied
  let head := le 2 (s.get TOP.STAGE_COMMIT) ++ le 1 (s.get TOP.PARTICIPANTS) ++ le 1 (s.get TOP.APPLIED_COUNT)
  (List.range (max 1 ((pages.length + 19) / 20))).foldl (fun s k =>
    s.occur topPage 32 4 (head ++ ((pages.drop (20 * k)).take 20).flatMap fun p => le 2 (p.blk.code * 256 + p.inst))) s

/-- The commit ends ROLLED_BACK once no participant is still to restore or stuck (R59, R61). -/
def State.rollCheck (s : State) : State :=
  if s.ctl.parts.any Participant.unrestored then s
  else { ((s.put TOP.STAGE_GSTAT gRolled).rollbackRecords) with ctl.parts := [] }

/-- The commit ends DONE (R58). -/
def State.commitDone (s : State) : State :=
  let s := s.put TOP.STAGE_GSTAT gDone
  let s := s.ctl.parts.foldl (fun s x => (((s.dropOld x.page).dropShadow x.page).wr x.page HDR.STAGE_STAT stApplied).wr x.page HDR.ARM 0) s
  { s with ctl.parts := [] }

/-- The single-page changes of a page, those of the fields hit, apply (R63). -/
def State.applySingle (s : State) (p : Page) (hit : Nat → Bool := fun _ => true) : State :=
  let mine := s.ctl.single.filter fun x => x.page == p && hit x.key
  if mine.isEmpty then s
  else
    let s : State := { s with ctl.single := s.ctl.single.filter fun x => !(x.page == p && hit x.key) }
    let s := mine.foldl (fun s x => s.liveSetAll p fun k => if k = x.key then some x.value else none) s
    (s.wr p HDR.APPLIED 1).wr p HDR.APPLIED_EPOCH 0

/-- A participant applies (R56). -/
def State.applyPart (s : State) (p : Page) : State :=
  match s.part p with
  | some x =>
    if x.applied || s.get TOP.STAGE_GSTAT ≠ gApplying then s
    else
      let old := s.liveVals p
      let sh := s.ctl.shadow
      let s : State := { s with ctl.old := old.foldl (fun t e => tset t e.1 e.2) s.ctl.old }
      let s := (s.liveSetAll p (tget sh)).partMod p fun x => { x with applied := true }
      let s := ((s.wr p HDR.APPLIED 1).wr p HDR.APPLIED_EPOCH (s.get TOP.STAGE_COMMIT)).inc TOP.APPLIED_COUNT
      if s.ctl.parts.all (·.applied) then s.commitDone else s
  | none => s

/-- An applied unit restores its old values (R59). -/
def State.restorePart (s : State) (p : Page) : State :=
  match s.part p with
  | some x =>
    let g := s.get TOP.STAGE_GSTAT
    if !x.unrestored || (g ≠ gRolling && g ≠ gStuck) || s.rd p HDR.STAGE_STAT = stStuck then s
    else ((s.liveSetAll p (tget s.ctl.old)).wr p HDR.APPLIED 0).partRolled p |>.rollCheck
  | none => s

/-- MOV page 0, where MAX_PER_CMD stands beside OFFLINE, and the key of MAX_PER_CMD (R186). -/
def assignPage : Page := pg .mov 0
def assignKey : Nat := MOV.MAX_PER_CMD.key assignPage 0

/-- A page reaches its safe point: what waits for it happens (R56, R59, R63). The end of a step of mover 0 is the safe point of its OFFLINE alone (R186). -/
def State.safePoint (s : State) (p : Page) : State :=
  if p = assignPage then s.applySingle p fun k => k != assignKey else ((s.restorePart p).applyPart p).applySingle p

/-- QE assigns movers to a command: the safe point of MAX_PER_CMD, and, with mover 0 in no step, of all that its page has in a commit (R186; DEDUCED, log entry 95). -/
def State.assignPoint (s : State) : State :=
  (if s.canApply assignPage then (s.restorePart assignPage).applyPart assignPage else s).applySingle assignPage fun k => k == assignKey

/-- A write to a stageable field of a page with ARM = 0 (R63). -/
def State.stageSingle (s : State) (p : Page) (k v : Nat) : State :=
  let s : State := { s with ctl.single := (s.ctl.single.filter fun x => x.key != k) ++ [{ page := p, key := k, value := v }] }
  if s.alwaysSafe p then s.safePoint p else s

/-- A write to a stageable field of an armed page goes to its shadow (R55). -/
def State.stageShadow (s : State) (k v : Nat) : State := { s with ctl.shadow := tset s.ctl.shadow k v }

/-- A nonzero epoch is committed (R56). -/
def State.stageCommit (s : State) (e : Nat) : State :=
  let ps := allPages.filter fun p => s.rd p HDR.ARM = 1 && s.rd p HDR.EPOCH = e && s.rd p HDR.STAGE_STAT ≠ stStuck
  let s := ((((s.put TOP.STAGE_COMMIT e).put TOP.PARTICIPANTS ps.length).put TOP.APPLIED_COUNT 0).put TOP.STAGE_GSTAT gApplying)
  let s : State := { s with ctl.parts := ps.map fun p => { page := p, applied := false, restored := false } }
  let s := ps.foldl (fun s p => s.wr p HDR.STAGE_STAT stApplying) s
  if ps.isEmpty then s.commitDone
  else ps.foldl (fun s p => if s.alwaysSafe p then s.safePoint p else s) s

/-- ARM of a page is written 1 (R55). -/
def State.stageArm (s : State) (p : Page) (epoch : Nat) : State :=
  let s := if s.rd p HDR.ARM = 0 then s.loadShadow p else s
  let s := (s.wr p HDR.ARM 1).wr p HDR.EPOCH epoch
  s.wr p HDR.STAGE_STAT (if epoch = 0 then stIdle else stArmed)

/-- ARM of a page is written 0 (R55, R59). -/
def State.stageDisarm (s : State) (p : Page) (epoch : Nat) : State :=
  (((s.dropShadow p).wr p HDR.ARM 0).wr p HDR.EPOCH epoch).wr p HDR.STAGE_STAT stIdle

/-- ARM = 0 to a STUCK page of a quiesced block (R61). The page ceases to be a participant at once, so that its fields can be changed by R63 while other pages are still STUCK, and the EPOCH written with ARM = 0 is stored, though R62 excepts only the write of ARM (DESIGN CHOICE, log entry 95). -/
def State.stageUnstick (s : State) (p : Page) (epoch : Nat) : State :=
  let s := ((s.stageDisarm p epoch).dropOld p).wr p HDR.APPLIED 0
  ({ s with ctl.parts := s.ctl.parts.filter fun x => x.page != p } : State).rollCheck

/-- A warm reset, or a domain reset of a domain that holds a participant, ends the commit and every shadow (R64). With its shadow every armed page, of other domains too, loses ARM and reads IDLE, and STAGE_GSTAT reads IDLE: R64 does not say so (DESIGN CHOICE, log entry 95). -/
def State.stageInterrupt (s : State) (hit : Page → Bool) : State :=
  let running := s.ctl.parts.any fun x => hit x.page
  if !running then s
  else
    let s := s.occur topPage 33 4 (le 2 (s.get TOP.STAGE_COMMIT))
    let s := (allPages.filter fun p => s.rd p HDR.ARM = 1).foldl (fun s p => (s.wr p HDR.ARM 0).wr p HDR.STAGE_STAT stIdle) s
    { (s.put TOP.STAGE_GSTAT 0) with ctl := { s.ctl with shadow := [], old := [], parts := [] } }

/-! ## The events -/

/-- R56, R63: a page reaches its safe point and switches: the shadow first, then the change of the page alone, which so prevails and leaves APPLIED_EPOCH 0; the spec gives no order (DESIGN CHOICE, log entry 95). -/
def execStageApply (page : Page) (s : State) : Res :=
  if !s.canApply page then .next s
  else if page = assignPage then .next (s.safePoint page)
  else .next ((s.applyPart page).applySingle page)

/-- R59: the apply timer expires first. -/
def execStageTimeoutExpiry (s : State) : Res :=
  if s.get TOP.STAGE_GSTAT ≠ gApplying then .next s
  else
    let s := s.put TOP.STAGE_GSTAT gRolling
    let s := (s.ctl.parts.filter fun x => !x.applied).foldl (fun s x => s.partRolled x.page) s
    .next s.rollCheck

/-- R59: an applied unit restores at its safe point. -/
def execStageRestore (page : Page) (s : State) : Res :=
  if s.canApply page && page != assignPage then .next (s.restorePart page) else .next s

/-- R61: an applied unit has not restored within a further STAGE_TIMEOUT. -/
def execStageStuck (page : Page) (s : State) : Res :=
  match s.part page with
  | some x =>
    let g := s.get TOP.STAGE_GSTAT
    if x.unrestored && (g = gRolling || g = gStuck) && s.rd page HDR.STAGE_STAT ≠ stStuck then
      .next (((s.wr page HDR.STAGE_STAT stStuck).put TOP.STAGE_GSTAT gStuck).occur page 1 5)
    else .next s
  | none => .next s

end Sys2Proof.Machine
end

