-- ==== Sys2Proof/Machine/HostPort.lean ====
section
/-! DEFINITION. Host port commands (04): links, resets, configuration, CXL.mem, GPF. -/
namespace Sys2Proof.Machine

/-! ## Links and resets -/

/-- Links of a port (Table 4-1). -/
def State.linkCount (s : State) (port : Nat) : Nat :=
  match s.get HP.BIFURC port with
  | 0 => 1
  | 1 => 2
  | 2 => 4
  | _ => 0

/-- Lanes of a link (Table 4-1). -/
def State.linkLanes (s : State) (p : Nat) : Nat := match s.get HP.BIFURC p with | 0 => 16 | 1 => 8 | 2 => 4 | _ => 0

/-- The slots that a link does not present are not bound (R100). -/
def State.bindPresented (s : State) (p k : Nat) : State :=
  ((s.ldsOf p k).filter fun l => !s.presented p l).foldl (fun s l => s.put HP.BOUND 0 p l) s

/-- R99, R100, R102: a link reaches L0, with as many lanes as Table 4-1 gives it or a smaller power of two (Table 4-2); without CXL it is a PCIe link, recorded at severity 4. -/
def execLinkTrainingDone (port : Port) (link : Link) (cxl flit256 mld : Bool) (rate : BitVec 4) (width : BitVec 5) (s : State) : Res :=
  let p := port.val
  let k := link.val
  if s.linkCount p ≤ k || (s.link p k).perst || s.clk.pllDown.contains (6 + p) || s.get HP.MAX_RATE p < rate.toNat || s.linkLanes p < width.toNat || !([1, 2, 4, 8, 16].contains width.toNat) then .next s
  else
    let s := (((((s.put HP.UP 1 p k).put HP.CXL (b2n cxl) p k).put HP.FLIT256 (b2n (cxl && flit256)) p k).put HP.MLD (b2n (cxl && mld)) p k).put HP.RATE rate.toNat p k).put HP.WIDTH width.toNat p k
    let s : State := { s.bindPresented p k with hp.infoValid := true }
    .next (if cxl then s else s.blkErr (hpPage p) 17 4)

/-- Cmps and read answers of logical devices of a port that are not yet returned are discarded; accepted writes stay (R126). -/
def State.ldDiscard (s : State) (p : Nat) (mine : Nat → Bool) : State :=
  { s with hp := { s.hp with cmps := s.hp.cmps.filter fun c => !(c.port == p && mine c.ld), forwards := s.hp.forwards.filter fun f => !(f.port == p && mine f.ld) },
           tier.reads := s.tier.reads.filter fun r => match r.who with | .cxl q l _ => !(q == p && mine l) | _ => true }

/-- What a reset of a link does to the traffic (R126). -/
def State.linkDiscard (s : State) (p k : Nat) : State := (s.putLink p k { s.link p k with viral := false }).ldDiscard p fun l => s.linkOf p l == some k

def State.linkFields (s : State) (p k : Nat) : State :=
  (((((s.put HP.UP 0 p k).put HP.CXL 0 p k).put HP.FLIT256 0 p k).put HP.MLD 0 p k).put HP.RATE 0 p k).put HP.WIDTH 0 p k

/-- R127: what a function-level reset clears: configuration, event logs, poison-list cursor. -/
def State.functionReset (s : State) (p l : Nat) : State :=
  let x := s.ld p l
  let s := s.putLd p l { x with memEnable := false, logs := noLd.logs, poisonCursor := 0, config := x.config.filter fun e => 0x1000 ≤ e.1, alertConfig := 0, gpf := none }
  { s with hp.msix := tdel s.hp.msix (fnKey p l false) }

/-- A link goes down (R126). -/
def State.linkDown (s : State) (p k : Nat) : State :=
  if s.flag HP.UP p k then ((s.linkDiscard p k).linkFields p k).blkErr (hpPage p) 16 4 else s

/-- R126: the link goes down. -/
def execLinkDown (port : Port) (link : Link) (s : State) : Res := .next (s.linkDown port.val link.val)

/-- R126: a hot reset: unreturned Cmps are discarded and the functions of the link are reset. -/
def execHotReset (port : Port) (link : Link) (s : State) : Res :=
  if s.flag HP.UP port.val link.val then
    .next ((s.ldsOf port.val link.val).foldl (fun s l => s.functionReset port.val l) (s.linkDiscard port.val link.val))
  else .next s

/-- R126: PERST low holds the link in Conventional Reset. -/
def execPerstAssert (port : Port) (link : Link) (s : State) : Res :=
  let p := port.val
  let k := link.val
  let s := (s.ldsOf p k).foldl (fun s l => s.functionReset p l) ((s.linkDiscard p k).linkFields p k)
  .next (s.putLink p k { perst := true, viral := false })

/-- PERST high lets the link train again. -/
def execPerstDeassert (port : Port) (link : Link) (s : State) : Res :=
  .next (s.putLink port.val link.val { s.link port.val link.val with perst := false })

/-- R103, R126, R127: a function-level reset, a configuration write, of a function that is presented (R100): Request Retry Status until the host ports are released; then unreturned Cmps are discarded, the function is reset. -/
def execFlr (port : Port) (ld : Ld) (s : State) : Res :=
  if s.presented port.val ld.val && !s.hp.released then .next (s.emit (.cfg port.val ld.val false true 0))
  else if s.presented port.val ld.val then .next ((s.ldDiscard port.val fun l => l == ld.val).functionReset port.val ld.val) else .next s

/-! ## Configuration -/

/-- The encoding of the smallest Memory_Active_Timeout not below a bound in ms: 1, 4, 16, 64 s (R118). -/
def activeTimeout (ms : Nat) : Nat := if ms ≤ 1000 then 0 else if ms ≤ 4000 then 1 else if ms ≤ 16000 then 2 else 3

/-- Where a function keeps a configuration register: the management function apart from the LD function of its slot. -/
def cfgKey (mgmt : Bool) (k : Nat) : Nat := if mgmt then 0x1000 + k else k
/-- Sizes of the BARs as powers of two (Table 4-3). -/
def State.bar0Log (s : State) (mgmt : Bool) : Nat := if mgmt then 26 else s.hp.bar0Log
def bar2Log (mgmt : Bool) : Nat := if mgmt then 16 else 18

/-- Whether a port's slot carries the management function (04): the port that the strap selects, in the view of LD slot 0. -/
def State.mgmtAt (s : State) (p l : Nat) : Bool := s.flag HP.MGMT_PF p && l == 0
/-- Whether a function answers configuration requests (R100, R104). -/
def State.responds (s : State) (p l : Nat) (mgmt : Bool) : Bool := if mgmt then s.mgmtAt p l else s.presented p l

/-- Bandwidth of a link by its lanes, GB/s (R104). -/
def cdatGBs (lanes : Nat) : Nat := match lanes with | 16 => 121 | 8 => 60 | 4 => 30 | _ => 0
/-- The CDAT of an LD function, as the numbers that R104 gives: DSMAS of the static capacity and of each DC region configured (handle, base, length), then DSLBIS: read and write latency in ns, bandwidth each way. -/
def State.cdat (s : State) (p l : Nat) : List Nat :=
  [0, 0, (s.ld p l).allocUnits * 2 ^ 28] ++ ((s.ld p l).dcRegions.flatMap fun e => [e.1 + 1, e.2.1, e.2.2]) ++ [260, 1200, cdatGBs (s.linkLanes p), cdatGBs (s.linkLanes p)]

/-- The value of a configuration item of a function (Tables 4-2 to 4-5). The places of the bits of flexBus are those of Table 4-4's list; where in its 60 KiB the PBA of an LD function stands is free (log entry 99). A BAR reads the bits above its size and the type bits of a 64-bit BAR; its upper half is the register after it. FLR Capable and Max Payload Size 512 B stand in Device Capabilities, AER is an extended capability: PCIe numbers (PRESUMED, log entry 99). -/
def State.configValue (s : State) (p l : Nat) (mgmt : Bool) (item : ConfigItem) : Nat :=
  let cxl := match s.linkOf p l with | some k => s.flag HP.CXL p k | none => false
  let stored (k : Nat) : Nat := (tget (s.ld p l).config (cfgKey mgmt k)).getD 0
  match item with
  | .vendorId => 0x1F3C
  | .deviceId => 0x0960
  | .revisionId => 0x01
  | .classCode => if mgmt then 0x058000 else 0x050210
  | .subVendorId => 0x1F3C
  | .subId => s.hp.subId
  | .bar0 => stored 0x10 / 2 ^ s.bar0Log mgmt * 2 ^ s.bar0Log mgmt + 4
  | .bar2 => stored 0x18 / 2 ^ bar2Log mgmt * 2 ^ bar2Log mgmt + 4
  | .devCaps => 2 ^ 28 + 2
  | .aerCap => 1
  | .msixControl => b2n ((tget s.hp.msix (fnKey p l mgmt)).getD noMsix).enable * 2 ^ 31 + 2047 * 2 ^ 16
  | .cxlCaps => if mgmt then 0 else 2 + b2n cxl * 4 + 2 ^ 14
  | .memoryStatus => if mgmt then 0 else b2n s.hp.infoValid + b2n s.hp.memoryActive * 2 + activeTimeout s.hp.activeBound * 2 ^ 13
  | .gpf => if mgmt then 0 else 20
  | .ldCount => if mgmt then 0 else 16
  | .hdmCaps => if mgmt then 0 else 0xC + 2 ^ 8 + 2 ^ 9 + 2 ^ 11 + 2 ^ 12
  | .msixTable => if mgmt then 2 else 0x1000 + 2
  | .msixPba => if mgmt then 0x8000 + 2 else 0x9000 + Config.ldPba % 0xDE1 * 8 + 2
  | .functionMap => b2n (!mgmt && s.mgmtAt p l)
  | .flexBus => if mgmt then 0 else 0x1F
  | .registerLocator device => if mgmt then 0 else if device then 0x20000 else 0x10000
  | .doe => b2n !mgmt
  | .cdat k => if mgmt then 0 else (s.cdat p l).getD k.toNat 0
  | .other r => stored r.toNat

/-- Send the pending unmasked vectors of a function (R509). -/
def State.msixFlush (s : State) (k p l : Nat) (mgmt : Bool) : State :=
  let m := (tget s.hp.msix k).getD noMsix
  if !m.enable || (!mgmt && !s.flag HP.BOUND p l) then s
  else
    let go := m.pba.filter fun v => m.unmasked.contains v
    let s : State := { s with hp.msix := tset s.hp.msix k { m with pba := m.pba.filter fun v => !m.unmasked.contains v } }
    go.foldl (fun s v => s.emit (.msix p l mgmt v)) s

/-- R100, R103, R104: a function that is not presented answers nothing, nor does the management function elsewhere than at its port's slot 0; else Request Retry Status until the host ports are released; then the item's value, or the write of what a host may write. -/
def execConfigRequest (port : Port) (ld : Ld) (mgmt : Bool) (item : ConfigItem) (write : Bool) (data : BitVec 32) (s : State) : Res :=
  let p := port.val
  let l := ld.val
  if !s.responds p l mgmt then .next s
  else if !s.hp.released then .next (s.emit (.cfg p l mgmt true 0))
  else if !write then .next (s.emit (.cfg p l mgmt false (s.configValue p l mgmt item)))
  else
    let keep (k : Nat) (v : Nat) : State := let x := s.ld p l; s.putLd p l { x with config := tset x.config (cfgKey mgmt k) v }
    match item with
    | .bar0 => .next (keep 0x10 data.toNat)
    | .bar2 => .next (keep 0x18 data.toNat)
    | .other r => .next (keep r.toNat data.toNat)
    | .msixControl =>
      let k := fnKey p l mgmt
      let m := (tget s.hp.msix k).getD noMsix
      .next (({ s with hp.msix := tset s.hp.msix k { m with enable := data.getLsbD 31 } }).msixFlush k p l mgmt)
    | .vendorId | .deviceId | .revisionId | .classCode | .subVendorId | .subId | .cxlCaps | .memoryStatus | .gpf | .ldCount | .hdmCaps | .devCaps | .aerCap
    | .msixTable | .msixPba | .functionMap | .flexBus | .registerLocator _ | .doe | .cdat _ => .next s

/-- R101, R103: Mem_Enable of a function that is presented: Request Retry Status until the host ports are released; it is refused while the logical device is not bound. -/
def execMemEnable (port : Port) (ld : Ld) (value : Bool) (s : State) : Res :=
  if !s.presented port.val ld.val then .next s
  else if !s.hp.released then .next (s.emit (.cfg port.val ld.val false true 0))
  else if s.flag HP.BOUND port.val ld.val then .next (s.putLd port.val ld.val { s.ld port.val ld.val with memEnable := value }) else .next s

/-- R509: the host unmasks a vector: one pending is sent. -/
def execMsixUnmask (port : Port) (ld : Ld) (mgmt : Bool) (vector : BitVec 11) (s : State) : Res :=
  let k := fnKey port.val ld.val mgmt
  let m := (tget s.hp.msix k).getD noMsix
  let m := if m.unmasked.contains vector.toNat then m else { m with unmasked := m.unmasked ++ [vector.toNat] }
  .next (({ s with hp.msix := tset s.hp.msix k m }).msixFlush k port.val ld.val mgmt)

/-! ## CXL.mem -/

/-- Whether a request can reach the port: the link is up with CXL, not held in reset, and the port is not quiesced (R52). -/
def State.linkLive (s : State) (p l : Nat) : Bool :=
  match s.linkOf p l with
  | some k => s.flag HP.UP p k && s.flag HP.CXL p k && !(s.link p k).perst && !s.resting (hpPage p)
  | none => false

/-- Check 1 for a request of a link (R100, R101). -/
def State.cxlTarget (s : State) (p l dpa : Nat) : Option Target := if s.presented p l then s.target p l (dpa / 64 * 64) else none

/-- A refused read: record and poison (Table 4-9). -/
def State.readRefused (s : State) (p l tag win dpa : Nat) (st : Option Status) : State :=
  (s.cxlRefuse p l win dpa st).cxlData p l tag poisonSec

/-- MemRd and MemRdData (R86, R108, R122, R351, R442). -/
def State.cxlRead (s : State) (p l dpa tag : Nat) : State :=
  if !s.linkLive p l then s
  else match s.cxlTarget p l dpa with
  | none => s.readRefused p l tag 0xFFFF dpa none
  | some x => match s.targetCheck x (dpa / 64 * 64) with
  | (s, .error st) => s.readRefused p l tag x.win dpa (some st)
  | (s, .ok (.foreign w d)) =>
    if !d.r then s.readRefused p l tag w dpa (some .accessViolation)
    else
      let s := s.safePoint (hpPage p)
      let off := d.regionOff.toNat + (dpa / 64 * 64 - d.dpaBase.toNat)
      let i := d.conn.toNat / 16
      let f : Forward := { port := p, ld := l, tag := tag, read := true, window := w, dpa := dpa, conn := i, msn := none, pend := none }
      let s : State := { s with hp.forwards := s.hp.forwards ++ [f] }
      match s.sendRead i (.foreign p l tag) false d.rkey.toNat off 64 with
      | (s, some n) => { s with hp.forwards := s.hp.forwards.map fun g => if g.port = p ∧ g.ld = l ∧ g.tag = tag ∧ g.msn.isNone then { g with msn := some n } else g }
      | (s, none) => s.forwardEnd p l tag .aborted poisonSec true
  | (s, .ok (.local w _ a)) =>
      match s.checks a .host false with
      | (s, .error st) => s.readRefused p l tag w dpa (some st)
      | (s, .ok d) =>
        match s.resolve a.region d a.off with
        | (s, .error st) => s.readRefused p l tag w dpa (some st)
        | (s, .ok pl) =>
          let here := match s.block (pbnOf pl.sector) with | some b => b.unitPresent (unitOf pl.sector % 16) | none => pl.bme.zero
          if s.inactive && !here then s.cxlData p l tag poisonSec
          else
            let want : ReadWant := { place := pl, who := .cxl p l tag, tenant := a.tenant, train := some (.ld (Fin.ofNat 8 p) (Fin.ofNat 16 l)), window := w, dpa := dpa }
            match s.readStart want with
            | (s, some r) => s.cxlAnswer p l tag w dpa d.grp r
            | (s, none) => s

def execMemrd (port : Port) (ld : Ld) (dpa : BitVec 64) (tag : BitVec 16) (s : State) : Res := .next (s.cxlRead port.val ld.val dpa.toNat tag.toNat)
def execMemrddata (port : Port) (ld : Ld) (dpa : BitVec 64) (tag : BitVec 16) (s : State) : Res := .next (s.cxlRead port.val ld.val dpa.toNat tag.toNat)

/-- Table 4-6: a prefetch hint to TIER; no answer and no error. -/
def execMemspecrd (port : Port) (ld : Ld) (dpa : BitVec 64) (s : State) : Res :=
  let p := port.val
  let l := ld.val
  if !s.linkLive p l || s.inactive then .next s
  else match (s.cxlTarget p l dpa.toNat).map fun x => s.targetCheck x (dpa.toNat / 64 * 64) with
  | some (s, .ok (.local _ _ a)) =>
    match s.checks a .host false with
    | (_, .error _) => .next s
    | (t, .ok d) =>
      match t.resolve a.region d a.off with
      | (_, .error _) => .next s
      | (t, .ok pl) =>
        let n := pl.sector
        if !pl.bme.zero && (t.block (pbnOf n)).isNone && 0 < t.freeFrames then .next (t.startRise (pbnOf n) a.region (unitOf n % 16) false false none [])
        else .next t
  | _ => .next s

/-- Table 4-6: no device-side coherence state exists: Cmp. -/
def execMeminv (port : Port) (ld : Ld) (_dpa : BitVec 64) (tag : BitVec 16) (s : State) : Res :=
  .next (if s.linkLive port.val ld.val then s.cxlSend port.val ld.val (.cmp tag.toNat) else s)
def execMeminvnt (port : Port) (ld : Ld) (_dpa : BitVec 64) (tag : BitVec 16) (s : State) : Res :=
  .next (if s.linkLive port.val ld.val then s.cxlSend port.val ld.val (.cmp tag.toNat) else s)

/-- A refused write: the record first; its Cmp may then be returned (R120). -/
def State.writeRefused (s : State) (p l tag win dpa : Nat) (st : Option Status) : State :=
  (s.cxlRefuse p l win dpa st).cmpWait p l tag none false none

/-- MemWr and MemWrPtl (R105-R110, R116, R120, R128, R351, R442). A write dropped under viral gets no Cmp, and one through a foreign window is sent on whatever MEDIA_RO reads here, as the checks are its target's (DEDUCED, log entry 118). -/
def State.cxlWrite (s : State) (p l dpa tag : Nat) (data : Sector) (enable : BitVec 64) (poison : Bool) : State :=
  if !s.linkLive p l || s.inactive || (match s.linkOf p l with | some k => (s.link p k).viral | none => false) then s
  else
    let s := if poison then s.emit (.device "RAS_CORRECTABLE_MEM_POISON_RECEIVED" [p, l]) else s
    match s.cxlTarget p l dpa with
    | none => s.writeRefused p l tag 0xFFFF dpa none
    | some x => match s.targetCheck x (dpa / 64 * 64) with
    | (s, .error st) => s.writeRefused p l tag x.win dpa (some st)
    | (s, .ok (.foreign w d)) =>
      if !d.w then s.writeRefused p l tag w dpa (some .accessViolation)
      else
        let s := s.safePoint (hpPage p)
        let busy := s.hp.forwards.any fun f => f.port == p && s.linkOf p f.ld == s.linkOf p l && f.dpa / 64 == dpa / 64 && !f.read
        let f : Forward := { port := p, ld := l, tag := tag, read := false, window := w, dpa := dpa / 64 * 64, conn := d.conn.toNat / 16, msn := none, pend := some (data, enable, poison) }
        let s := ({ s with hp.forwards := s.hp.forwards ++ [f] } : State).cmpWait p l tag none false (some w)
        if busy then s
        else
          let s := s.forwardNext p l dpa
          match s.hp.forwards.find? fun g => g.port == p && g.ld == l && g.tag == tag with
          | some g => if g.pend.isNone && g.msn.isNone then s.forwardEnd p l tag .aborted poisonSec true else s
          | none => s
    | (s, .ok (.local w _ a)) =>
        match s.checks a .host true with
        | (s, .error st) => s.writeRefused p l tag w dpa (some st)
        | (s, .ok d) =>
          match s.resolve a.region d a.off with
          | (s, .error st) => s.writeRefused p l tag w dpa (some st)
          | (s, .ok pl) =>
            let src := WriteSrc.port (Fin.ofNat 8 p)
            let hold (s : State) (why : HoldWhy) : State :=
              let w : HeldWrite := {
                  src := src, who := .cxl p l tag, why := why, region := a.region, desc := d, whole := false, tenant := a.tenant, off := a.off, data := data, enable := enable, poison := poison,
                  window := w, dpa := dpa }
              ({ s with tier.held := s.tier.held ++ [w] } : State).cmpWait p l tag none true none
            if s.twn.handoff.contains d.grp then hold s .handoff
            else if s.tier.held.any (fun x => x.src == src) then hold s .behind
            else match s.tryWrite { tenant := a.tenant, place := pl, data := data, enable := enable, poison := poison, alloc := true, whole := false, port := some (p, l), qos := p } with
            | (s, .accepted m) => s.cmpWait p l tag (if d.pclass = 0 then m else none) false none
            | (s, .held why) => hold s why
            | (s, .refused st) => s.writeRefused p l tag w dpa (some st)

def execMemwr (port : Port) (ld : Ld) (dpa : BitVec 64) (data : Sector) (poison : Bool) (tag : BitVec 16) (s : State) : Res :=
  .next (s.cxlWrite port.val ld.val dpa.toNat tag.toNat data (BitVec.allOnes 64) poison)
def execMemwrptl (port : Port) (ld : Ld) (dpa : BitVec 64) (data : Sector) (enable : BitVec 64) (poison : Bool) (tag : BitVec 16) (s : State) : Res :=
  .next (s.cxlWrite port.val ld.val dpa.toNat tag.toNat data enable poison)

/-- R105: the Cmp of a write that is refused and logged, accepted and acknowledged, or answered by its target. -/
def execMemwrCmp (port : Port) (ld : Ld) (tag : BitVec 16) (s : State) : Res :=
  match takeFirst s.hp.cmps (fun c => c.port == port.val && c.ld == ld.val && c.tag == tag.toNat && !c.held && c.foreign.isNone && !s.mirrorOpen c.mirror) with
  | some (_, rest) => .next (({ s with hp.cmps := rest } : State).cxlSend port.val ld.val (.cmp tag.toNat))
  | none => .next s

/-- R122: no target response within HP_FWD_TIMEOUT. -/
def execHpFwdTimeout (port : Port) (ld : Ld) (tag : BitVec 16) (s : State) : Res :=
  match s.hp.forwards.find? fun f => f.port == port.val && f.ld == ld.val && f.tag == tag.toNat with
  | none => .next s
  | some f =>
    let s := s.modConn f.conn fun c => { c with inits := c.inits.filter fun m => m.who != .foreign f.port f.ld f.tag }
    .next (s.forwardEnd f.port f.ld f.tag .timeout poisonSec false)

/-- R128: viral from the host: later writes on the link are dropped; recorded at severity 6. Viral of the port's own (own): an uncorrectable internal error on its data path, signalled on every link of the port that is up. -/
def execViralReceived (port : Port) (link : Link) (own : Bool) (s : State) : Res :=
  if own then .next (((List.range 4).filter fun k => s.flag HP.UP port.val k).foldl (fun s k => s.emit (.device "VIRAL" [port.val, k])) s)
  else if s.flag HP.UP port.val link.val && !(s.link port.val link.val).viral then
    .next ((s.putLink port.val link.val { s.link port.val link.val with viral := true }).misc (hpPage port.val) 6 (le 1 link.val))
  else .next s

/-! ## Global Persistent Flush -/

/-- The regions that a logical device reaches by a window or an extent. -/
def State.ldRegions (s : State) (p l : Nat) : List Nat :=
  ((List.range 32).filterMap fun n => (tget s.xlt.windows (windowId p l n)).bind fun d => if d.valid && !d.foreign then some d.region.toNat else none) ++
  (s.xlt.extents.filter fun e => e.2.port == p && e.2.ld == l && e.2.state == .active).map fun e => e.2.region

/-- The coverage point of a logical device (R113, R114): its mirror records not yet acknowledged, and the class D blocks it reaches that wait for resync, where what it wrote while the twin was SOLO may stand; what a fencing has ended before is covered too (R115). The GPF takes the next place in the order of barriers (R18). -/
def State.gpfCover (s : State) (p l : Nat) : State :=
  let x := s.ld p l
  let rs := s.ldRegions p l
  let g : Gpf := {
    id := s.qe.nextBarrier, regions := rs, covered := (s.twn.replay.filter fun r => !r.acked && r.port == some (p, l)).map fun r => r.id, phase2 := false,
    blocks := s.rsmClassD rs, fenced := x.fencedOut }
  { (s.putLd p l { x with gpf := some g }) with qe.nextBarrier := s.qe.nextBarrier + 1 }

def execGpfPhase1 (port : Port) (ld : Ld) (s : State) : Res :=
  let p := port.val
  let l := ld.val
  if !s.linkLive p l then .next s
  else .next ((s.gpfCover p l).cxlSend p l .gpf1Done)

/-- R114: without a Phase 1 the coverage point is the arrival. -/
def execGpfPhase2 (port : Port) (ld : Ld) (s : State) : Res :=
  let p := port.val
  let l := ld.val
  if !s.linkLive p l then .next s
  else
    let s := if (s.ld p l).gpf.isSome then s else s.gpfCover p l
    .next (s.putLd p l { s.ld p l with gpf := (s.ld p l).gpf.map fun g => { g with phase2 := true } })

/-- R18, R114, R115: Phase 2 completes once everything covered is acknowledged or resynchronised, or anyway, with a Failure record, when what is left is fenced; and no earlier barrier on its regions is open. -/
def execGpfPhase2Complete (port : Port) (ld : Ld) (s : State) : Res :=
  let p := port.val
  let l := ld.val
  match (s.ld p l).gpf with
  | some g =>
    let open' := s.twn.replay.filter fun r => g.covered.contains r.id && !r.acked
    let fenced := open'.all fun r => !s.serves r.grp
    if g.phase2 && fenced && !s.rsmWaits g.blocks && !s.barrierBefore g.id g.regions then
      let t := s.putLd p l { s.ld p l with gpf := none, fencedOut := (s.ld p l).fencedOut && !g.fenced }
      let t := if open'.isEmpty && !g.fenced then t else t.logEvent p l 2 true "Fenced" 0 0 0
      .next (t.cxlSend p l .gpf2Done)
    else .next s
  | none => .next s

end Sys2Proof.Machine
end

