-- ==== Sys2Proof/Machine/Sys.lean ====
section
/-! DEFINITION. The system area (07, 15): what its tables hold as bytes, at the addresses their base registers give, and how the warden's changes become class M brine (R134, R476, R478, R618). -/
namespace Sys2Proof.Machine

/-! ## Images of the entries (Tables 3-1, 3-2, 3-4, 5-1, 7-1, R138) -/

def RegState.code : RegState → Nat
  | .free => 0 | .opened => 1 | .closing => 2

/-- A region descriptor's 64 bytes. -/
def Region.image (d : Region) : List Byte := d.pack ++ le 4 d.check
/-- A block map entry's 8 bytes. -/
def Bme.image (b : Bme) : List Byte := le 8 (b2n b.alloc * 2 ^ 63 + b2n b.zero * 2 ^ 62 + b.pbn * 2 ^ 8 + b.chk)
/-- A registration descriptor's 64 bytes, those that XLT maintains as 0 unless live. -/
def Registration.image (live : Bool) (d : Registration) : List Byte :=
  let own (n v : Nat) : List Byte := le n (if live then v else 0)
  le 4 (ofLe (d.pack.take 4) + (if live then d.state.code * 2 ^ 30 else 0)) ++ (d.pack.drop 4).take 28 ++ own 8 d.revokeStamp ++ own 4 d.inflight ++ own 4 d.refused ++
  List.replicate 12 0 ++ le 4 d.check
/-- A queue context's 128 bytes, those that QE maintains as 0 unless live; what is reserved for QE reads as anything. -/
def QueueCtx.image (live : Bool) (qid : Nat) (c : QueueCtx) : List Byte :=
  let own (n v : Nat) : List Byte := le n (if live then v else 0)
  let part (k n : Nat) : Nat := ofLe ((c.pack.drop k).take n)
  le 4 (part 0 4 + (if live then c.state.code * 2 ^ 28 else 0)) ++ (c.pack.drop 4).take 28 ++ own 4 (c.sqHead * 65536 + c.sqTail) ++ own 4 (c.cqHead * 65536 + c.cqTail) ++
  le 4 (part 32 4 + (if live then b2n c.cqPhase * 2 ^ 31 + b2n c.armed * 2 ^ 30 else 0)) ++ le 4 c.cmdTimeout ++ own 4 (c.errReason * 2 ^ 24 + c.inflight) ++ le 4 c.dbPage ++
  own 8 c.doneCnt ++ ((List.range 60).map fun k => if live then Config.ctxByte qid k else 0) ++ le 4 c.check
/-- A page-map entry's 8 bytes (R138). -/
def PageMap.image (m : PageMap) : List Byte := le 8 (m.typ * 2 ^ 62 + b2n m.vecEn * 2 ^ 43 + m.vector * 2 ^ 32 + m.id)
/-- A quota entry's 64 bytes, those that TIER, XLT and QE maintain as 0 unless live. -/
def Quota.image (live : Bool) (q : Quota) : List Byte :=
  let own (n v : Nat) : List Byte := le n (if live then v else 0)
  q.pack ++ le 4 q.check ++ own 4 q.t1Used ++ own 4 q.quotaRefused ++ own 8 q.substTotal ++ own 8 q.refuseTotal ++ List.replicate 24 0

/-! ## Where they lie -/

/-- A table of the system area: its base, entries, bytes of one, the keys listed and what an entry holds. -/
structure SysTable where
  base : Nat
  count : Nat
  size : Nat
  keys : List Nat
  entry : Nat → List Byte

/-- The tables with a base register (R134, R192; chapters 3 and 5); the page map's keys count its entries, 8 MiB for each LD slot. The extent table's layout is not given (log entry 69). -/
def State.sysTables (s : State) (live : Bool) : List SysTable :=
  let of {α : Type} (t : Table α) (f : Nat → α → List Byte) (k : Nat) : List Byte := match tget t k with | some x => f k x | none => []
  [{ base := s.get XLT.RDT_BASE * 4096, count := 2 ^ 24, size := 64, keys := tkeys s.xlt.regions, entry := of s.xlt.regions fun _ d => d.image },
   { base := s.get XLT.RKT_BASE * 4096, count := 2 ^ 22, size := 64, keys := tkeys s.xlt.registrations, entry := of s.xlt.registrations fun _ d => d.image live },
   { base := s.get QE.QE_CTX_BASE * 4096, count := 2 ^ 20, size := 128, keys := tkeys s.qe.queues, entry := of s.qe.queues fun q c => c.image live q },
   { base := s.get QE.QE_PMAP_BASE * 4096, count := 2 ^ 27, size := 8, keys := tkeys s.qe.pmap, entry := of s.qe.pmap fun _ m => m.image },
   { base := s.get TIER.QT_BASE * 4096, count := 4096, size := 64, keys := tkeys s.tier.quotas, entry := of s.tier.quotas fun _ q => q.image live }]

/-- The byte of a table at a DRAM address; an entry that is not listed holds zeros. -/
def SysTable.byte (t : SysTable) (a : Nat) : Option Byte :=
  if t.base ≠ 0 && t.base ≤ a && a < t.base + t.count * t.size then some (((t.entry ((a - t.base) / t.size))[(a - t.base) % t.size]?).getD 0) else none

/-- The DRAM address of leaf k of a region's block map: BMAP_ROOT itself with LEVELS = 0, else the page that the directory names (R69; log entry 29). -/
def State.leafAddr (s : State) (r k : Nat) (d : Region) : Nat := if d.levels = 0 then d.root else s.sysPage (Config.leafPage r k) * 4096

/-- Block map entries with their DRAM addresses. -/
def State.bmeAddrs (s : State) : List (Nat × Bme) :=
  s.xlt.bmap.map fun e => let r := e.1 / 2 ^ 32; let i := e.1 % 2 ^ 32; (s.leafAddr r (i / 512) (s.regionAt r) + i % 512 * 8, e.2)

/-- Directory entries with their DRAM addresses (R69). -/
def State.dirAddrs (s : State) : List (Nat × Nat) :=
  s.xlt.bmap.filterMap fun e =>
    let r := e.1 / 2 ^ 32; let i := e.1 % 2 ^ 32; let d := s.regionAt r
    if d.valid && d.levels = 1 && i % 512 = 0 then some (d.root + i / 512 * 8, s.leafAddr r (i / 512) d) else none

/-- The byte of a table of the system area at a DRAM address; live: with what QE, XLT and TIER maintain in it. -/
def State.tableByte (s : State) (live : Bool) (a : Nat) : Option Byte :=
  match (s.sysTables live).findSome? fun t => t.byte a with
  | some b => some b
  | none =>
    match (s.bmeAddrs.find? fun e => e.1 ≤ a && a < e.1 + 8), (s.dirAddrs.find? fun e => e.1 ≤ a && a < e.1 + 8) with
    | some e, _ => e.2.image[a - e.1]?
    | none, some e => (le 8 e.2)[a - e.1]?
    | none, none => none

/-! ## The system area as brine (R476, R618) -/

/-- The pool sector of the system area that a DRAM address lies in. -/
def State.sysSector (s : State) (a : Nat) : Option Nat :=
  let base := s.frameBase * 256
  let f := (a - base) / 65536
  if base ≤ a && f < s.get FTL.SYS_BLKS ftlPage.inst then some ((s.get FTL.USER_BLKS ftlPage.inst + f) * 1024 + (a - base) % 65536 / 64) else none

/-- The sectors of the system area in which a table entry stands or that hold anything in T1. -/
def State.sysSectors (s : State) : List Nat :=
  let tables := (s.sysTables false).flatMap fun t => if t.base = 0 then [] else t.keys.flatMap fun k => [t.base + k * t.size, t.base + k * t.size + t.size - 1]
  let maps := s.bmeAddrs.map Prod.fst ++ s.dirAddrs.map Prod.fst
  ascending ((tables ++ maps).filterMap s.sysSector ++ (tkeys s.tier.frames).filter fun n => s.isSys (n / 1024))

/-- A sector of the system area: its T1 copy, or what T2 holds of a unit that has not been touched since the area was raised. -/
def State.sysVal (s : State) (n : Nat) : SectorVal :=
  match s.block (n / 1024) with
  | some b => if b.unitPresent (unitOf n % 16) then s.secValue n else s.t2Read n
  | none => s.t2Read n

/-- A sector as the warden's tables have it. -/
def State.sysImage (s : State) (n : Nat) : SectorVal :=
  let old := s.sysVal n
  let a := (s.sectorAddr n).getD 0
  { old with data := ofSecBytes ((List.range 64).map fun i => (s.tableByte false (a + i)).getD (old.data.extractLsb' (8 * i) 8)) }

/-- A unit of the system area is taken up in T1 (R618). -/
def State.sysRaise (s : State) (n : Nat) : State :=
  let p := n / 1024
  let b := (s.block p).getD sysBlock
  let u := unitOf n % 16
  if b.unitPresent u then s
  else (unitSecs (unitOf n)).foldl (fun s k => s.frameWrite k (s.t2Read k) 11) (s.putBlock p { b with units := tset b.units u { freshUnit with stamp := s.t2Stamp (unitOf n) } })

/-- The warden writes a sector of the system area through TIER as class M; TWN mirrors it (R476). -/
def State.sysWrite (s : State) (n : Nat) (v : SectorVal) : State :=
  let s := s.sysRaise n
  match s.block (n / 1024) with
  | none => s
  | some b =>
    let old := (tget b.units (unitOf n % 16)).getD freshUnit
    let stamp := s.newStamp sysGroup old.stamp
    let s := s.putBlock (n / 1024) { b with units := tset b.units (unitOf n % 16) { old with present := true, dirty := true, stamp := stamp, cls := 0, failed := false } }
    ((s.panWrite n v false 15).mirrorSend (2 ^ 24) sysGroup 0 n stamp v none).1

/-- The warden's changes to its tables reach the system area, sector by sector as class M writes that the tide mark and the link admit (R204, R205, R476), from boot step 9 on and outside a harvest (log entry 113). -/
def State.sysSync (s : State) : State :=
  if s.get FTL.SYS_BLKS ftlPage.inst = 0 || s.wdn.boot < 10 || s.frozen then s
  else s.sysSectors.foldl (fun s n =>
    let v := s.sysImage n
    if s.sysVal n = v || !s.tideAdmits 0 (b2n (s.dirties n)) || !s.mirrorCredit then s else s.sysWrite n v) s

/-- No copy can supply a unit of the system area (R478): every descriptor in it is invalid, so that its CHECK fails, and the warden records the loss. -/
def State.tableLost (s : State) (w : Nat) : State :=
  let a := (s.sectorAddr (w * 64)).getD 0
  let hit (base size k : Nat) : Bool := base ≠ 0 && decide (a ≤ base * 4096 + k * size) && decide (base * 4096 + k * size < a + 4096)
  let spoil (c : Nat) : Nat := c ^^^ 1
  let s : State := { s with
    xlt := { s.xlt with
      regions := tmap s.xlt.regions fun k d => if hit (s.get XLT.RDT_BASE) 64 k then { d with check := spoil d.check } else d,
      registrations := tmap s.xlt.registrations fun k d => if hit (s.get XLT.RKT_BASE) 64 k then { d with check := spoil d.check } else d },
    qe.queues := tmap s.qe.queues fun k c => if hit (s.get QE.QE_CTX_BASE) 128 k then { c with check := spoil c.check } else c,
    tier.quotas := tmap s.tier.quotas fun k q => if hit (s.get TIER.QT_BASE) 64 k then { q with check := spoil q.check } else q }
  s.misc (pg .wdn) 7 (le 8 w)

end Sys2Proof.Machine
end

