-- ==== Sys2Proof/Machine/Mem.lean ====
section
/-! DEFINITION. Byte memory (14, 15, 19): DRAM as jobs, the mailbox and SLOT_WRITE address it, and the warden's private memory. The model numbers the warden's 1 MiB from 2^63, because the spec gives it no address (log entry 25). -/
namespace Sys2Proof.Machine

/-- The canonical form of a byte memory: addresses strictly rising above a bound, no byte that an unlisted address would give. -/
def Memory.wfAbove : Nat → List Host.Cell → Bool
  | _, [] => true
  | b, (k, v) :: t => decide (b ≤ k) && v != 0 && Memory.wfAbove (k + 1) t

/-- The canonical form. -/
def Memory.wf (m : List Host.Cell) : Bool := Memory.wfAbove 0 m

/-- What an address holds: 0 where nothing is listed. -/
def Memory.get (m : List Host.Cell) (a : Nat) : Byte := (tget m a).getD 0

/-- Store a byte; a 0 is not listed. -/
def Memory.set (m : List Host.Cell) (a : Nat) (v : Byte) : List Host.Cell := if v = 0 then tdel m a else tset m a v

def wardenMem : Nat := 2 ^ 63
def wardenMemSize : Nat := 2 ^ 20

/-- Whether a buffer lies in DRAM or in warden memory (R465). -/
def State.inMem (s : State) (a n : Nat) : Bool :=
  n == 0 || a + n ≤ s.get DMC.DRAM_GIB * 2 ^ 30 || (wardenMem ≤ a && a + n ≤ wardenMem + wardenMemSize)

/-- The pool sector that a DRAM address lies in, where it falls into the T1 frame of a block (R618). -/
def State.sectorAt (s : State) (a : Nat) : Option Nat :=
  let base := s.frameBase * 256
  if a < base then none
  else
    let f := (a - base) / 65536
    if s.get TIER.T1_FRAMES ≤ f then none
    else if (s.sysSector a).isSome then s.sysSector a
    else (s.tier.blocks.find? fun e => e.2.frame == f).map fun e => e.1 * 1024 + (a - base) % 65536 / 64

/-- The byte of a sector of the pool, or of plain memory. -/
def State.byteIn (s : State) (a : Nat) : Option Nat → Byte
  | some n => (if s.isSys (n / 1024) then s.sysVal n else s.secValue n).data.extractLsb' (a % 64 * 8) 8
  | none => Memory.get s.mem a

/-- The substitution counter that a DRAM address lies in: at SCTR_BASE + SUBST_CTR × 8 (R230). -/
def State.counterAt (s : State) (a : Nat) : Option Nat :=
  let b := s.get TIER.SCTR_BASE * 4096
  if b ≠ 0 && b ≤ a && a < b + 2 ^ 27 then some ((a - b) / 8) else none

/-- The map page whose directory entry a DRAM address lies in: at MDIR_BASE + 5 × MPI (R312). -/
def State.mdirAt (s : State) (a : Nat) : Option Nat :=
  let b := s.get FTL.MDIR_BASE 48 * 4096
  if b ≠ 0 && b ≤ a && a < b + 5 * ((s.get FTL.USER_BLKS 48 + s.get FTL.SYS_BLKS 48 + 50) / 51) then some ((a - b) / 5) else none

/-- The byte an address holds: of a table at the place its base register and its index give (R134, R230, R312), of a frame, or of plain memory. -/
def State.byteAt (s : State) (a : Nat) : Byte :=
  match s.counterAt a, s.mdirAt a with
  | some k, _ => ((le 8 ((tget s.tier.substCtr k).getD 0))[(a - s.get TIER.SCTR_BASE * 4096) % 8]?).getD 0
  | none, some m => ((le 5 ((tget s.flm.mdir m).getD 0xFF_FFFF_FFFF))[(a - s.get FTL.MDIR_BASE 48 * 4096) % 5]?).getD 0
  | none, none => (s.tableByte true a).getD (s.byteIn a (s.sectorAt a))

/-- A read of n bytes from an address: the substitution counters in it have been read (R230). -/
def State.memSeen (s : State) (a n : Nat) : State :=
  { s with tier.substSeen := s.tier.substSeen.filter fun k => !((List.range n).any fun i => s.counterAt (a + i) == some k) }

/-- A sector's value with one byte of it replaced. -/
def SectorVal.withByte (v : SectorVal) (k : Nat) (b : Byte) : SectorVal :=
  { v with data := mergeBytes v.data (b.setWidth 512 <<< (k * 8)) (BitVec.ofNat 64 (2 ^ k)) }

/-- Store a byte in a sector of the pool, or in plain memory. -/
def State.setByteIn (s : State) (a : Nat) (b : Byte) : Option Nat → State
  | some n => if s.isSys (n / 1024) then s.sysWrite n ((s.sysVal n).withByte (a % 64) b) else s.secRewrite n ((s.secValue n).withByte (a % 64) b) 15
  | none => { s with mem := Memory.set s.mem a b }

/-- Store a byte at an address. -/
def State.setByte (s : State) (a : Nat) (b : Byte) : State := s.setByteIn a b (s.sectorAt a)

/-- n bytes from an address. -/
def State.memRead (s : State) (a n : Nat) : List Byte := (List.range n).map fun i => s.byteAt (a + i)

/-- Store bytes from an address on. -/
def State.memStore (s : State) (a : Nat) : List Byte → State
  | [] => s
  | b :: r => (s.setByte a b).memStore (a + 1) r

/-- Store bytes from an address on, for a job of the warden or a service core (port 15 of Table 9-6); what lies outside the frames joins the write queues here (R290). -/
def State.memWrite (s : State) (a : Nat) (l : List Byte) : State :=
  let s := s.memStore a l
  if a < wardenMem && (s.sectorAt a).isNone then s.memAccept a l.length 15 else s

end Sys2Proof.Machine
end

