-- ==== Sys2Proof/Machine/Dmc.lean ====
section
/-! DEFINITION. The DRAM channels (09): training, pair selection, retraining, write CRC, ECC, refresh, power-down, self-refresh, scrub, failure of a channel. -/
namespace Sys2Proof.Machine

def dmcPage (c : Nat) : Page := pg .dmc c
def rankKey (c r : Nat) : Nat := c * 4 + r
def subKey (c r : Nat) (sub : Bool) : Nat := rankKey c r * 2 + b2n sub

/-! ## Topology (R265-R269) -/

/-- Density in Gb of a DENSITY code. -/
def density (k : Nat) : Option Nat :=
  match k with
  | 1 => some 16 | 2 => some 24 | 3 => some 32 | 4 => some 64 | _ => none
/-- Whether a HEIGHT or RANKS code is not reserved. -/
def heightOk (k : Nat) : Bool := k == 1 || k == 2 || k == 4 || k == 8
def ranksOk (k : Nat) : Bool := k == 1 || k == 2 || k == 4

/-- DMC_TOPO of a channel: DENSITY, HEIGHT, RANKS; 0 when RANKS is 0 (R268). -/
def State.dmcTopo (s : State) (c : Nat) : Nat × Nat × Nat :=
  let r := s.get DMC.RANKS c
  if r = 0 then (0, 0, 0) else (s.get DMC.DENSITY c, s.get DMC.HEIGHT c, r)

/-- Capacity of one rank of a topology, GiB (R267). -/
def rankGib (t : Nat × Nat × Nat) : Nat := 2 * (density t.1).getD 0 * t.2.1
/-- Capacity of a channel, GiB. -/
def chanGib (t : Nat × Nat × Nat) : Nat := t.2.2 * rankGib t

/-- Whether a topology is supported (R265, R267, R268). -/
def topoOk (t : Nat × Nat × Nat) : Bool := (density t.1).isSome && heightOk t.2.1 && ranksOk t.2.2 && chanGib t ≤ 2048

/-- The rate code of a rank count (Table 9-1). -/
def rankRate (ranks : Nat) : Nat := if ranks = 1 then 3 else if ranks = 2 then 2 else 1

/-- The rate that R266 gives a channel. -/
def State.chanRate (s : State) (c : Nat) : Nat := max 1 (min (s.get DMC.MAX_RATE c) (rankRate (s.get DMC.RANKS c)))

/-- The rate a channel runs at: the two channels of a pair share one PLL and run at one rate, the lower of the two (R266, R269). -/
def State.dmcRate (s : State) (c : Nat) : Nat :=
  let d := if c % 2 = 0 then c + 1 else c - 1
  if s.get DMC.RANKS d = 0 then s.chanRate c else min (s.chanRate c) (s.chanRate d)

/-- DMC_TOPO as a number: DENSITY, HEIGHT, RANKS in bits [11:0] of offset 0x104 (R268). -/
def topoCode (t : Nat × Nat × Nat) : Nat := t.1 * 256 + t.2.1 * 16 + t.2.2

/-- A channel that no longer serves: neither trained nor trained anew, no work left; a staged change that waits applies at once (R301). -/
def State.dmcStop (s : State) (c st : Nat) : State :=
  let s := (s.put DMC.STATE st c).put DMC.RATE_NOW 0 c
  let s : State := { s with dmc := { s.dmc with training := tdel s.dmc.training c, retraining := tdel s.dmc.retraining c, leaving := s.dmc.leaving.filter (· != c), srWait := s.dmc.srWait.filter (· != c) } }
  s.safePoint (dmcPage c)

/-- A channel is left out of training for good (R268, R275); one of the interleave has its pairs chosen again (R269; log entry 19). -/
def State.dmcExclude (s : State) (c step : Nat) : State :=
  let s := (s.dmcStop c dmcExcluded).put DMC.TRAIN_STEP step c
  (if s.bitOf DMC.PAIRS_USED (c / 2) then s.put DMC.NCHAN 0 else s).blkErr (dmcPage c) 19 5 (le 1 c)

/-- The rows of a channel that the settings store lists for post-package repair (R286). -/
def State.pprRows (s : State) (c : Nat) : List Nat := s.nvs.image.ppr.filter fun k => k / 2 ^ 18 / 16 / 8 == c

/-- A cold training begins; the rows listed for it get their hard PPR (R273, R286). -/
def State.dmcCold (s : State) (c : Nat) (retried : Bool) : State :=
  let s : State := { s with dmc.training := tset s.dmc.training c { restored := false, retried := retried } }
  if (s.pprRows c).isEmpty then s else s.emit (.device "DRAM_HARD_PPR" (s.pprRows c))

/-- Start a training of a channel (R268, R273, R274); the debts of its ranks are gone (R298). -/
def State.dmcTrain (s : State) (c : Nat) (restored : Bool) : State :=
  if s.get DMC.RANKS c = 0 then s.dmcStop c dmcAbsent
  else if !topoOk (s.dmcTopo c) then s.dmcExclude c 0xF
  else
    let s := s.dmcStop c dmcTraining
    let s : State := { s with dmc := { s.dmc with debts := s.dmc.debts.filter fun e => e.1 / 4 != c, pdRanks := s.dmc.pdRanks.filter fun k => k / 4 != c } }
    if restored then { s with dmc.training := tset s.dmc.training c { restored := true, retried := false } } else s.dmcCold c false

/-- Whether the stored training image of a channel meets R274: its digest, DMC_TOPO, rate and temperature; what the channel's temperature reads is an input that no command gives (log entry 74). -/
def State.imageFits (s : State) (c : Nat) : Bool :=
  match tget s.nvs.image.train c with
  | some (topo, rate, temp) => topo == topoCode (s.dmcTopo c) && rate == s.dmcRate c && (Config.chanTemp s.timeNs c - temp).natAbs ≤ 160
  | none => false

/-- Whether a channel is trained: READY, or in service or self-refresh since. -/
def State.dmcTrained (s : State) (c : Nat) : Bool := s.dmcServes c || s.get DMC.STATE c == dmcSelfRefresh

/-- Pairs that R269 can use: both channels trained, with identical DMC_TOPO. -/
def State.pairsReady (s : State) : List Nat :=
  (List.range 6).filter fun k => s.dmcTrained (2 * k) && s.dmcTrained (2 * k + 1) && s.dmcTopo (2 * k) == s.dmcTopo (2 * k + 1)

/-- The largest set of pairs that share one topology; of equal sets the one with the lowest-numbered pair (R269). -/
def State.pairsBest (s : State) : List Nat :=
  let ps := s.pairsReady
  let set (k : Nat) : List Nat := ps.filter fun j => s.dmcTopo (2 * j) == s.dmcTopo (2 * k)
  ps.foldl (fun best k => if best.length < (set k).length then set k else best) []

/-- Choose the pairs of the interleave once every training has ended (R269, R271). -/
def State.dmcPairs (s : State) : State :=
  if s.get DMC.NCHAN ≠ 0 || (List.range 12).any (fun c => s.get DMC.STATE c == dmcTraining) then s
  else
    let ps := s.pairsBest
    let out := (List.range 12).filter fun c => s.dmcTrained c && !ps.contains (c / 2)
    let s := out.foldl (fun s c => ((s.put DMC.STATE dmcExcluded c).safePoint (dmcPage c)).blkErr (dmcPage c) 20 5 (le 1 c)) s
    let s := (s.put DMC.PAIRS_USED (ps.foldl (fun m k => setBits m k 1 1) 0)).put DMC.NCHAN (2 * ps.length)
    s.put DMC.DRAM_GIB (match ps with | k :: _ => 2 * ps.length * chanGib (s.dmcTopo (2 * k)) | [] => 0)

/-! ## Failure of a channel (R292) -/

/-- A controller fault (R292, R548): while paired the claims are released and the partner told. -/
def State.controllerFault (s : State) : State :=
  if s.mirroring then (s.twinSend 0x0A 0 0 0 0xFFFF []).fenceAll else s

/-- A channel becomes FAILED. -/
def State.dmcFail (s : State) (c : Nat) : State :=
  if s.get DMC.STATE c = dmcFailed then s
  else
    let s := (s.dramEmpty c).dmcStop c dmcFailed
    if !s.bitOf DMC.PAIRS_USED (c / 2) then (s.misc (dmcPage c) 5 (le 1 c)).dmcPairs
    else if s.solo then s.misc (dmcPage c) 7 (le 1 c)
    else s.controllerFault.misc (dmcPage c) 6 (le 1 c)

/-- A harvest, warm reset or domain reset abandons retrainings (R277). -/
def State.retrainAbandon (s : State) (hit : Nat → Bool) : State :=
  let cs := (s.dmc.retraining.map Prod.fst).filter hit
  cs.foldl (fun s c =>
    { (if s.get DMC.STATE c = dmcRetrain then s.put DMC.STATE dmcReady c else s) with dmc.retraining := tdel s.dmc.retraining c }) s

/-- Enter self-refresh: the write queue and the replay buffer drain, a retraining is given up, the ranks leave power-down (R298); a channel that is leaving self-refresh enters it again once it has left (R299). -/
def State.selfRefresh (s : State) (c : Nat) : State :=
  if s.dmcServes c then
    let s := (s.dramEmpty c).put DMC.STATE dmcSelfRefresh c
    { s with dmc := { s.dmc with retraining := tdel s.dmc.retraining c, pdRanks := s.dmc.pdRanks.filter fun k => k / 4 != c } }
  else if s.get DMC.STATE c = dmcTraining && !s.dmc.srWait.contains c then { s with dmc.srWait := s.dmc.srWait ++ [c] }
  else s

/-- A channel is trained (R273): READY at its rate; an entry into self-refresh that waits proceeds (R299), which a warm boot past its step 5 leaves again; else what waits for the channel goes on. -/
def State.dmcReadied (s : State) (c : Nat) : State :=
  let s := ((s.put DMC.STATE dmcReady c).put DMC.RATE_NOW (s.dmcRate c) c).put DMC.CAP_GIB (chanGib (s.dmcTopo c)) c
  let wait := s.dmc.srWait.contains c
  let s : State := { s with dmc := { s.dmc with training := tdel s.dmc.training c, leaving := s.dmc.leaving.filter (· != c), srWait := s.dmc.srWait.filter (· != c) } }
  if !wait then s.dmcPairs.unstall
  else if s.wdn.warm && 5 ≤ s.wdn.boot then (s.selfRefresh c).dmcTrain c true
  else s.selfRefresh c

/-- R273-R275: a training ends. A restored one that fails becomes a cold one; a cold one that fails is run once more; a second failure excludes the channel. After a cold training the settings image takes the channel's training image up (R274). -/
def execDmcTrainingDone (ch : Chan) (res : TrainRes) (s : State) : Res :=
  let c := ch.val
  match tget s.dmc.training c with
  | none => .next s
  | some t =>
    match res with
    | .pass =>
      let s : State := if t.restored then s else
        { s with nvs.image.train := tset s.nvs.image.train c (topoCode (s.dmcTopo c), s.dmcRate c, Config.chanTemp s.timeNs c), dmc.newImages := true }
      .next (s.dmcReadied c).movSettle
    | .fail step =>
      if t.restored then .next (s.dmcCold c false)
      else if !t.retried then
        .next ({ s with dmc.training := tset s.dmc.training c { t with retried := true } }.emit (.device "DRAM_TRAIN_FROM" [c, min 5 step.val]))
      else .next (s.dmcExclude c step.val).dmcPairs

/-! ## Retraining, calibration and write CRC -/

/-- Start the retraining of a rank: one rank per channel at a time (R276). -/
def State.retrainStart (s : State) (c r : Nat) : State :=
  if s.get DMC.STATE c = dmcReady then
    { ((s.put DMC.STATE dmcRetrain c).inc DMC.RETRAIN_CNT 1 c) with dmc.retraining := tset s.dmc.retraining c r }
  else s

/-- R276, R289: the oscillator of a rank is read while READY, not during a harvest. -/
def execOscillatorCheck (ch : Chan) (rank : Fin 4) (drift : BitVec 16) (s : State) : Res :=
  let c := ch.val
  if s.get DMC.STATE c = dmcReady && !s.frozen && rank.val < s.get DMC.RANKS c && s.get DMC.DRIFT_PS c < drift.toNat then .next (s.retrainStart c rank.val)
  else .next s

/-- The writes of a subchannel's replay buffer from a number on (R279). -/
def State.replayFrom (s : State) (k wr : Nat) : List Nat :=
  let l := (tget s.dmc.replay k).getD []
  l.drop (wr - ((tget s.dmc.issued k).getD 0 - l.length))

/-- They are issued again, in the original order (R279). -/
def State.replayWrites (s : State) (c : Nat) (sub : Bool) (wr : Nat) : State :=
  (s.inc DMC.WCRC_CNT 1 c).emit (.device "DRAM_REPLAY" ((2 * c + b2n sub) :: s.replayFrom (2 * c + b2n sub) wr))

/-- R276, R279: a step of a retraining; at its end a write whose CRC has failed nine times is replayed once more, and the next rank that waits for one is retrained. -/
def execRetrainStep (ch : Chan) (res : RetrainRes) (s : State) : Res :=
  let c := ch.val
  match tget s.dmc.retraining c with
  | none => .next s
  | some r =>
    match res with
    | .more => .next s
    | .verifyFails => .next (s.dmcFail c)
    | .done =>
      let s := [false, true].foldl (fun s sub => match tget s.dmc.wcrc (subKey c r sub) with
        | some (w, 9) => { s.replayWrites c sub w with dmc.wcrc := tset s.dmc.wcrc (subKey c r sub) (w, 10) }
        | _ => s) s
      let s : State := { (s.put DMC.STATE dmcReady c) with dmc.retraining := tdel s.dmc.retraining c }
      .next (match (s.dmc.wcrc.filter fun e => e.1 / 8 == c && e.2.2 == 9).head? with | some e => s.retrainStart c (e.1 / 2 % 4) | none => s)

/-- R277: ZQ calibration of a rank: a step of at most 1 µs that changes no state the spec gives. -/
def execZqCalibration (_ch : Chan) (_rank : Fin 4) (s : State) : Res := .next s

/-- R279: ALERT_n reports a write CRC error; wr is the number, counted from 0 as the subchannel issues them, of the oldest write that the device could have rejected. The first rejection and those of the eight replays replay and count; then the rank is retrained, and a failure of the replay that follows makes the channel FAILED. -/
def execWcrcAlert (ch : Chan) (rank : Fin 4) (sub : Bool) (wr : Nat) (s : State) : Res :=
  let c := ch.val
  let k := subKey c rank.val sub
  if !s.flag DMC.WCRC_EN c || !s.dmcServes c then .next s
  else
    let old := match tget s.dmc.wcrc k with | some (w, n) => if w = wr then n else 0 | none => 0
    let s : State := { s with dmc.wcrc := tset s.dmc.wcrc k (wr, if old = 9 then 9 else old + 1) }
    if old < 8 then .next (s.replayWrites c sub wr)
    else if old ≤ 9 then .next (if s.frozen then s else s.retrainStart c rank.val)
    else .next ((s.blkErr (dmcPage c) 17 4 (le 1 c)).dmcFail c)

/-! ## The code (R280, R281) -/

/-- Symbols of 16 bits that are not 0 among the four of 64 bits (R280). -/
def symWeight (v : Nat) : Nat := ((List.range 4).filter fun k => bits v (16 * k) 16 != 0).length

end Sys2Proof.Machine
namespace Sys2Proof
open Sys2Proof.Machine
/-- What a burst has wrong of device d: devices 0 to 7 hold the 32 data symbols, 8 and 9 the 8 check symbols, four each (R280). -/
def Burst.dev (b : Burst) (d : Nat) : Nat := bits b.err.toNat (64 * d) 64
/-- The devices in error that are not decoded as erasures. -/
def Burst.devs (b : Burst) (out : Option Nat) : List Nat := (List.range 10).filter fun d => out != some d && b.dev d != 0
end Sys2Proof
namespace Sys2Proof.Machine

/-- What a decode comes to (Table 9-5): a correction takes a pattern off one device; with POISON = 1 assumed the data are poisoned. -/
inductive DecodeRes where
  | good | poisoned
  | corrected (dev fix : Nat) (poison : Bool)
  | tag
  | uncorrectable
deriving DecidableEq, Repr

/-- Symbols that may be corrected in one device, and the fewest wrong symbols that can lie as near to another codeword: from the distance, 9, or 5 where a device's four symbols are erasures (R280, R282). -/
def correctable (out : Option Nat) : Nat := if out.isSome then 2 else 4
def ambiguous (out : Option Nat) : Nat := if out.isSome then 3 else 5

/-- One attempt to decode (R280 to R282): out is the device decoded as erasures, wrong whether the POISON symbol assumed differs from the one encoded. No virtual symbol is ever corrected. A pattern of several devices that the distance does not cover may look like an error of one: whether it does is free (log entry 102). -/
def decodeBurstOnce (b : Burst) (out : Option Nat) (wrong : Bool) : DecodeRes :=
  let ds := b.devs out
  let t := symWeight b.tag.toNat
  let w := (ds.map fun d => symWeight (b.dev d)).foldl (· + ·) 0 + t + b2n wrong
  let d := ds.headD 0
  let one : Bool := ds.length == 1 && t == 0 && !wrong
  if w = 0 then .good
  else if one && symWeight (b.dev d) ≤ correctable out then .corrected d (b.dev d) false
  else if ds.isEmpty && !wrong then .tag
  else if w < ambiguous out || (one && out.isSome) then .uncorrectable
  else match Config.rsNear out b.err b.tag wrong with
  | some (e, fix) => if out = some e.val || correctable out < symWeight fix.toNat then .uncorrectable else .corrected e.val fix.toNat false
  | none => .uncorrectable

/-- A decode with POISON = 0, and if that fails with POISON = 1 (R281); poison: the POISON symbol encoded. -/
def burstDecode (b : Burst) (out : Option Nat) (poison : Bool) : DecodeRes :=
  match decodeBurstOnce b out poison with
  | .uncorrectable =>
    (match decodeBurstOnce b out (!poison) with
     | .good => .poisoned
     | .corrected d f _ => .corrected d f true
     | r => r)
  | r => r

/-- The data bits that a correction leaves changed: none where it takes off what was wrong; the erased device is computed anew. -/
def fixLeft (b : Burst) (out : Option Nat) (d fix : Nat) : Sector :=
  ((List.range 8).foldl (fun (v : Nat) k => if out = some k then v else v + 2 ^ (64 * k) * (b.dev k ^^^ (if k = d then fix else 0))) 0 : Nat) |> BitVec.ofNat 512

/-! ## ECC (R281-R286) -/

/-- Nanoseconds of an hour. -/
def hourNs : Nat := 3600000000000

/-- Count a corrected error of a device and look whether to map it out (R281, R282, R286). -/
def State.dramCorrected (s : State) (c r : Nat) (sub : Bool) (dev row : Nat) : State :=
  let s := s.inc DMC.CE_CNT 1 c
  let k := subKey c r sub
  let rk := (k * 16 + dev) * 2 ^ 18 + row
  let s : State := { s with dmc.rowCes := tset s.dmc.rowCes rk ((tget s.dmc.rowCes rk).getD 0 + 1) }
  let nib := 4 * (2 * r + b2n sub)
  let now := bits (s.get DMC.MAPOUT c) nib 4
  if now = dev then s
  else
    let old := ((tget s.dmc.ces (k * 16 + dev)).getD []).filter fun t => s.timeNs < t + hourNs
    let l := old ++ [s.timeNs]
    let s : State := { s with dmc.ces := tset s.dmc.ces (k * 16 + dev) l }
    let limit := s.get DMC.MAPOUT_CE c
    if l.length < limit then s
    else if now = 0xF then
      (s.put DMC.MAPOUT (setBits (s.get DMC.MAPOUT c) nib 4 dev) c).blkErr (dmcPage c) 21 5 (le 1 r ++ le 1 (b2n sub) ++ le 1 dev)
    else if l.length = limit then s.occur (dmcPage c) 65 6 (le 1 r ++ le 1 (b2n sub) ++ le 1 dev)
    else s

/-- The rows listed for the warden's review (R286). -/
def State.rowsListed (s : State) : List Nat := (s.dmc.rowCes.filter fun e => 4 ≤ e.2).map Prod.fst

/-- What an uncorrectable error does by the ownership of its address (R284, R478): true when poison results. While paired the twin copy is asked for. -/
def State.dramLost (s : State) (u : DramUse) : State × Bool :=
  match u with
  | .frame n =>
    let p := pbnOf n
    let k := unitOf n % 16
    (match s.block p with
     | some b =>
       (match tget b.units k with
        | some x =>
          if !x.present then (s, false)
          else if !x.dirty then ((s.putBlock p { b with units := tset b.units k { x with present := false } }).refill p k, false)
          else if s.twinCurrent n && !s.frozen then (s.mendAsk n, false)
          else
            let s := if s.isSys p then s.tableLost (unitOf n) else s
            let s := if (s.panFind (n / 2)).any fun y => (y.2.sec (n % 2)).dirty then s else s.frameWrite n { s.frameRead n with poison := true }
            -- during a harvest the unit is also marked for the partner's copy (R355)
            (if s.frozen && s.twinCurrent n then { s with twn.repair := if s.twn.repair.contains (unitOf n) then s.twn.repair else s.twn.repair ++ [unitOf n] } else s, true)
        | none => (s, false))
     | none => (s, false))
  | .mirror n =>
    (match tget s.twn.mirror (unitOf n) with
     | some m =>
       if !m.dirty || (s.role == rolePaired && !s.frozen) then (s, false)
       else
         let v := (tget m.vals (n % 64)).getD zeroSec
         ({ s with twn.mirror := tset s.twn.mirror (unitOf n) { m with vals := tset m.vals (n % 64) { v with poison := true } } }, true)
     | none => (s, false))
  | .bittern w => ({ s with tier.bittern := tdel s.tier.bittern w }, false)
  | .table => (s.emit (.device "WARDEN_TABLE_RECOVERY" []), false)
  | .unused | .command => (s, false)

/-- The POISON symbol encoded at an address. -/
def State.dramPoison (s : State) : DramUse → Bool
  | .frame n => (s.frameRead n).poison
  | .mirror n => (match tget s.twn.mirror (unitOf n) with | some m => ((tget m.vals (n % 64)).getD zeroSec).poison | none => false)
  | .bittern _ | .table | .unused | .command => false

/-- The device of a subchannel rank that is mapped out (R282). -/
def State.mappedOut (s : State) (c r : Nat) (sub : Bool) : Option Nat :=
  let v := bits (s.get DMC.MAPOUT c) (4 * (2 * r + b2n sub)) 4
  if v = 0xF then none else some v

/-- A corrected sector is rewritten with the POISON it decoded with (Table 9-5, R281), but where a write to it has been accepted since the read: that rewrite is discarded (R283). -/
def State.dramRewrite (s : State) (u : DramUse) (issued : Nat) (left : Sector) (poison : Bool) : State :=
  let fresh (k : Nat) : Bool := match tget s.tier.written k with | some t => decide (t < issued) | none => true
  match u with
  | .frame n =>
    if fresh (2 * n) then (let v := s.frameRead n; s.frameWrite n { data := v.data ^^^ left, poison := poison } 16) else s
  | .mirror n =>
    if !fresh (2 * n + 1) then s
    else
      let s := match tget s.twn.mirror (unitOf n) with
        | some m =>
          let v := (tget m.vals (n % 64)).getD zeroSec
          if left = 0 && v.poison = poison then s
          else { s with twn.mirror := tset s.twn.mirror (unitOf n) { m with vals := tset m.vals (n % 64) { data := v.data ^^^ left, poison := poison } } }
        | none => s
      s.dramAccept (s.mirrorAddr n) (2 * n + 1) 16
  | .bittern _ | .table | .unused | .command => s

/-- A DRAM read that its channel issued at a time comes back (Table 9-5, R281 to R284). -/
def State.dramRead (s : State) (c r : Nat) (sub : Bool) (a : DramAddr) (issued : Nat) (res : DramRes) : State :=
  let out := s.mappedOut c r sub
  let mend (s : State) (b : Burst) (d fix : Nat) (p : Bool) : State := (s.dramCorrected c r sub d a.row.toNat).dramRewrite a.use issued (fixLeft b out d fix) p
  match res with
  | .burst first again =>
    if a.use = .command then s
    else (match burstDecode first out (s.dramPoison a.use) with
     | .good | .poisoned => s
     | .corrected d fix p => mend s first d fix p
     | .tag | .uncorrectable =>
       let s := s.inc DMC.UE_CNT 1 c
       match burstDecode again out (s.dramPoison a.use) with
       | .good | .poisoned => s
       | .corrected d fix p => mend s again d fix p
       | .tag | .uncorrectable =>
         let (s, poison) := s.dramLost a.use
         s.occur (dmcPage c) 64 (if poison then 6 else 5) (le 1 c ++ le 1 r ++ le 1 (b2n sub) ++ le 6 a.loc.toNat))
  | .parityFail again =>
    let s := s.inc DMC.CAPAR_CNT 1 c
    if again then (s.blkErr (dmcPage c) 18 4 (le 1 c)).dmcFail c else s

/-- Whether a DRAM address lies where a read says it does: on that channel and subchannel at that channel-local address (R271). -/
def State.liesAt (s : State) (a c : Nat) (sub : Bool) (loc : Nat) : Bool := s.addrChan a == some c && addrSub a == sub && s.addrLoc a == loc

/-- Whether what a read names stands at the place it names (R271, R618): a sector of a frame or of twin brine; other uses have no address in State. -/
def State.dramAt (s : State) (c : Nat) (sub : Bool) (a : DramAddr) : Bool :=
  match a.use with
  | .frame n => (match s.sectorAddr n with | some x => s.liesAt x c sub a.loc.toNat | none => false)
  | .mirror n => s.liesAt (s.mirrorAddr n) c sub a.loc.toNat
  | .bittern _ | .table | .unused | .command => true

/-- A request of any kind takes a rank out of power-down (R297). -/
def State.rankUp (s : State) (c r : Nat) : State :=
  { s with dmc := { s.dmc with pdRanks := s.dmc.pdRanks.filter (· != rankKey c r), asked := tset s.dmc.asked (rankKey c r) s.timeNs } }

/-- R280-R284: a read of a serving channel is decoded; it takes its rank out of power-down (R297). issued: the TIME_NS at which the read was issued. A read that names a sector and another place than the sector's is none the machine can have made. A command other than a read brings no data, and may fail its parity check (R278). -/
def execDramReadDone (ch : Chan) (rank : Fin 4) (sub : Bool) (addr : DramAddr) (issued : Nat) (res : DramRes) (s : State) : Res :=
  let c := ch.val
  if !s.dmcServes c || !s.dramAt c sub addr then .next s
  else .next ((s.rankUp c rank.val).dramRead c rank.val sub addr issued res)

/-- R300: a patrol-scrub read, while PATROL_EN = 1 and no harvest runs (R289). -/
def execPatrolScrubRead (ch : Chan) (rank : Fin 4) (sub : Bool) (addr : DramAddr) (issued : Nat) (res : DramRes) (s : State) : Res :=
  let c := ch.val
  if !s.dmcServes c || !s.flag DMC.PATROL_EN c || s.frozen || !s.dramAt c sub addr then .next s
  else .next ({ s with dmc.pdRanks := s.dmc.pdRanks.filter (· != rankKey c rank.val) }.dramRead c rank.val sub addr issued res)

/-- R285: a device has completed an ECS pass: its count is recorded. -/
def execEcsPass (ch : Chan) (_rank : Fin 4) (_sub : Bool) (_dev : Fin 10) (count : BitVec 16) (s : State) : Res :=
  .next (s.misc (dmcPage ch.val) 2 (le 2 count.toNat))

/-! ## Refresh (R293-R296) -/

def State.debts (s : State) (c r : Nat) : List Nat := (tget s.dmc.debts (rankKey c r)).getD [0, 0, 0, 0]
def State.setDebts (s : State) (c r : Nat) (d : List Nat) : State :=
  { s with dmc.debts := if d = [0, 0, 0, 0] then tdel s.dmc.debts (rankKey c r) else tset s.dmc.debts (rankKey c r) d }

/-- A tick at one rank (R293-R295): every debt rises; at the limit one all-bank refresh; then same-bank refreshes of the indexes with no queued request. -/
def State.refreshTick (s : State) (c r : Nat) (busy : Nat → Bool) : State :=
  let d := (s.debts c r).map (· + 1)
  let limit := s.get DMC.REF_POSTPONE c
  let (s, d) := if d.any (fun x => limit ≤ x) then (s.inc DMC.REFAB_CNT 1 c, d.map (· - 1)) else (s, d)
  s.setDebts c r ((List.range 4).map fun b => if busy b then d.getD b 0 else 0)

/-- R293-R295, R301: a tREFI2 tick of a serving channel; busy bit 4 × rank + index: requests are queued to banks of that index. The tick is the channel's staged-change safe point. -/
def execTrefi2Tick (ch : Chan) (busy : BitVec 16) (s : State) : Res :=
  let c := ch.val
  if !s.dmcServes c then .next s
  else
    let s := (List.range (s.get DMC.RANKS c)).foldl (fun s r => s.refreshTick c r fun b => busy.getLsbD (4 * r + b)) s
    .next (s.safePoint (dmcPage c))

/-- R296: the refresh-rate indication of a rank. -/
def execRefreshRatePoll (ch : Chan) (rank : Fin 4) (x2 hot : Bool) (s : State) : Res :=
  let c := ch.val
  let k := rankKey c rank.val
  if !s.dmcServes c || s.get DMC.RANKS c ≤ rank.val then .next s
  else
    let rest := s.dmc.x2Ranks.filter (· != k)
    let l := if x2 then rest ++ [k] else rest
    let s : State := { s with dmc.x2Ranks := l }
    let s := s.put DMC.REF_X2 (b2n (l.any fun j => j / 4 == c)) c
    .next (if hot then s.misc (dmcPage c) 6 (le 1 rank.val) else s)

/-! ## Power-down and self-refresh (R297-R299) -/

/-- Nanoseconds of so many DMC_CLK cycles of a channel: its clock is the data rate over 8 (R297). -/
def State.dmcCycles (s : State) (c n : Nat) : Nat := n * 8000 / (match s.get DMC.RATE_NOW c with | 1 => 6400 | 2 => 8000 | _ => 8800)

/-- R297, R289: a rank that no request has reached for PD_IDLE cycles enters power-down while PD_EN = 1, the channel urgency is 0 and no harvest runs. -/
def execRankPowerDown (ch : Chan) (rank : Fin 4) (s : State) : Res :=
  let c := ch.val
  let k := rankKey c rank.val
  if s.dmcServes c && s.flag DMC.PD_EN c && !s.frozen && rank.val < s.get DMC.RANKS c && s.chanUrgency c = 0 && !s.dmc.pdRanks.contains k &&
    (match tget s.dmc.asked k with | some t => t + s.dmcCycles c (s.get DMC.PD_IDLE c) ≤ s.timeNs | none => true) then
    .next { s with dmc.pdRanks := s.dmc.pdRanks ++ [k] }
  else .next s

/-- The time since the last request to a channel, its ranks' last (R298); a channel that has had none has been idle long enough. -/
def State.chanIdle (s : State) (c ns : Nat) : Bool := (List.range 4).all fun r => match tget s.dmc.asked (rankKey c r) with | some t => t + ns ≤ s.timeNs | none => true

/-- R298, R299, R289: a channel that no request has reached for SR_IDLE_US enters self-refresh while SR_IDLE_US is not 0 and no harvest runs; a request that came before cancels the entry. -/
def execSrIdleEntry (ch : Chan) (s : State) : Res :=
  let c := ch.val
  let us := s.get DMC.SR_IDLE_US c
  if us ≠ 0 && !s.frozen && s.get DMC.STATE c = dmcReady && s.chanIdle c (us * 1000) && (s.chanReads c).isEmpty then .next (s.selfRefresh c) else .next s

/-- A channel begins to leave self-refresh (R298): every debt 0, restored training from the PD0 copy (R274). -/
def State.srLeave (s : State) (c : Nat) : State :=
  if s.get DMC.STATE c ≠ dmcSelfRefresh then s
  else { s.dmcTrain c true with dmc.leaving := if s.dmc.leaving.contains c then s.dmc.leaving else s.dmc.leaving ++ [c] }

/-- The channels that a request has found in self-refresh begin to leave it (R299). -/
def State.srTick (s : State) : State := s.dmc.leaving.foldl State.srLeave s

/-- Self-refresh exit ends (R298, R299): one all-bank refresh, every debt 0, restored training; one that fails verify becomes a cold training (R274). -/
def State.selfRefreshExit (s : State) (c : Nat) (verify : Bool) : State :=
  if s.get DMC.STATE c ≠ dmcSelfRefresh && !(s.get DMC.STATE c = dmcTraining && s.dmc.leaving.contains c) then s
  else
    let s := s.srLeave c
    if verify then s.dmcReadied c else s.dmcCold c false

/-- R298, R299: self-refresh exit with restored training finishes, and held requests are served. -/
def execSelfRefreshExitDone (ch : Chan) (verify : Bool) (s : State) : Res := .next (s.selfRefreshExit ch.val verify).movSettle

end Sys2Proof.Machine
end

