-- ==== Sys2Proof/Machine/Flm.lean ====
section
/-! DEFINITION. The events of FLM (10): bring-up, map, journal, checkpoints, programs, raking, verify, reads, wear, loss of LUNs, reserve, READ_ONLY, replay, format, health. -/
namespace Sys2Proof.Machine

/-! ## Bring-up (R303-R306) -/

/-- WP_N of a channel: high only while READY (R305). -/
def State.wpN (s : State) (c : Nat) (high : Bool) : State := s.pinOut "WP_N" c (some high)

/-- Start the bring-up of a channel. -/
def State.flmStart (s : State) (c : Nat) : State := s.put FLC.STATE (if s.flag FLC.CH_EN c then chInit else chAbsent) c

/-- A channel leaves service. -/
def State.flmOut (s : State) (c st : Nat) : State := (s.put FLC.STATE st c).wpN c false

end Sys2Proof.Machine
namespace Sys2Proof
open Sys2Proof.Machine
def LunInfo.geom (l : LunInfo) : Geom := { spare := l.spare, pages := l.pages, blocks := l.blocks, qlc := l.qlc }
/-- Whether a LUN has every item of Table 10-1: what its parameter page says besides, at least 2,048 B of spare per plane page, at most 256 GiB in native mode (R303). -/
def LunInfo.fit (l : LunInfo) : Bool := l.ok && 2048 ≤ l.spare && l.pages * l.blocks ≤ 2 ^ 22
def LunInfo.glun (l : LunInfo) (c : Nat) : Nat := c * 64 + l.ce.val * 4 + l.lun.val
end Sys2Proof
namespace Sys2Proof.Machine

/-- The geometry held by the most LUNs; a tie goes to the lowest-numbered LUN's (R304). -/
def State.bestGeom (s : State) : Option Geom :=
  let ls := s.flm.luns.filter fun e => !e.2.excluded
  let count (g : Geom) : Nat := (ls.filter fun e => e.2.geom = g).length
  ls.foldl (fun best e => match best with
    | none => some e.2.geom
    | some g => if count g < count e.2.geom then some e.2.geom else some g) none

/-- Once no channel is in bring-up any more: the geometry in use, the LUNs that differ excluded (R304). -/
def State.flmGeometry (s : State) : State :=
  if (List.range 48).any fun c => s.get FLC.STATE c == chInit then s
  else match s.bestGeom with
  | none => s
  | some g =>
    let out := (s.flm.luns.filter fun e => !e.2.excluded && e.2.geom != g).map Prod.fst
    let s : State := { s with flm := { s.flm with geom := some g, luns := tmap s.flm.luns fun k l => if out.contains k then { l with excluded := true } else l } }
    let s := out.foldl (fun s k => s.putBit FLC.LUN_LOST_MAP (k % 64) true (k / 64)) s
    (ascending (out.map (· / 64))).foldl (fun s c => s.blkErr (flcPage c) 17 4) s

/-- The rate of a channel (R532): FAB_CLK ÷12 limits it to 2400 MT/s. -/
def State.flcRate (s : State) (c : Nat) : Nat := let m := s.get FLC.MAX_RATE c; if bits (s.get CLK.CLK_DIV_NOW) 8 4 = 1 then min m 2 else m

/-! ## Loss of LUNs (R334) -/

/-- Whether the partner can deliver a unit (Table 10-9 step 5): class M or D, paired. -/
def State.fetchable (s : State) (tun : Nat) : Bool := s.role == rolePaired && (s.regionAt (s.pbnRegion (tun / 16))).pclass < 2

/-- Poison a unit in T2. -/
def State.t2Poison (s : State) (tun : Nat) : State := (unitSecs tun).foldl (fun s n => s.t2Write n { s.t2Read n with poison := true }) s

/-- Whether die parity is kept for a unit: its stripe is OPEN or CLOSED (R325, Table 10-9 step 4). -/
def State.parityHeld (s : State) (f : Nat) : Bool := match (s.blk (s.fuaBlk f)).stripe.bind s.stripe with | some x => x.state != .verified | none => false

/-- Rebuild a unit of a lost LUN by Table 10-9: from parity, from the partner, else it is lost: poison, at severity 7 where the unit is of class M or D (R34). -/
def State.rebuild (s : State) (tun old : Nat) : State :=
  if s.parityHeld old then (s.health fun h => { h with rebuilds := h.rebuilds + 1 }).assign tun (some old)
  else if s.fetchable tun then
    let s := s.health fun h => { h with fetches := h.fetches + 1 }
    ({ s with twn.repair := if s.twn.repair.contains tun then s.twn.repair else s.twn.repair ++ [tun] }).twinSend 0x0E (s.pbnGroup (tun / 16)) 0 tun 0 []
  else
    let s := (s.health fun h => { h with unrecoverable := h.unrecoverable + 1 }).inc FLC.UNRECOV_CNT 1 (blkChan (s.fuaBlk old))
    let s := s.t2Poison tun
    if (s.regionAt (s.pbnRegion (tun / 16))).pclass < 2 then s.misc ftlPage 7 (le 5 tun) else s

/-- A stripe that has lost a block is closed; its units that have no record yet are written again elsewhere (Table 10-8). -/
def State.stripeLost (s : State) (i : Nat) (x : Stripe) : State :=
  let hit (u : FtlUnit) : Bool := !u.recorded && x.blocks.contains (s.fuaBlk u.fua)
  let again := s.flm.staged.filter hit
  let s : State := { s with flm.staged := s.flm.staged.filter fun u => !hit u }
  again.foldl State.assignUnit (if x.state = .opened then s.closeStripe i x else s)

/-- A LUN is declared lost (R334): its units are rebuilt, its blocks retired, each with its record; reserve it held is replaced from spare elsewhere (R337). -/
def State.lunLost (s : State) (g : Nat) : State :=
  match tget s.flm.luns g with
  | none => s
  | some l =>
    if l.lost || l.excluded then s
    else
      let c := g / 64
      let units := s.flm.map.filter fun e => e.2 / 2 ^ 26 == g
      let good : List Nat := match s.flm.geom with | some geo => ((List.range geo.blocks).map (blkKey g)).filter fun k => (s.blk k).state != BlkState.retired | none => []
      let held := (good.filter fun k => (s.blk k).state == BlkState.reserve).length
      let s : State := { s with flm.luns := tset s.flm.luns g { l with lost := true } }
      let s := (s.putBit FLC.LUN_LOST_MAP (g % 64) true c).blkErr (flcPage c) 19 5 (le 2 g)
      let s := (s.flm.stripes.filter fun e => e.2.state != .verified && (e.2.parity :: e.2.blocks).any fun k => blkGlun k == g).foldl (fun s e => s.stripeLost e.1 e.2) s
      let s := units.foldl (fun s e => s.rebuild e.1 e.2) s
      let s : State := { s with flm := { s.flm with
          rakes := tdel s.flm.rakes g, rakeWait := s.flm.rakeWait.filter fun k => blkGlun k != g, blks := tmap s.flm.blks fun k b => if blkGlun k = g then { b with state := .retired } else b } }
      let s := (good.foldl (fun s k => s.jAppend 6 k 0 0) s).badBlocks
      let s := s.health fun h => { h with lunsLost := h.lunsLost + 1, retired := h.retired + good.length }
      let s := s.spareLose good.length
      let s := (State.takeReserve (min held (s.ftlGet FTL.SPARE_BLOCKS)) s).reserveCount
      if s.flm.luns.all fun e => e.1 / 64 != c || e.2.lost || e.2.excluded then (s.flmOut c chFailed).misc (flcPage c) 5 (le 1 c) else s

/-- A channel has come up with these LUNs (R303, R307); what was known of them before is out of date, but a lost LUN stays lost. -/
def State.flmLuns (s : State) (c : Nat) (luns : List LunInfo) : State :=
  let s : State := { s.put FLC.CE_PRESENT 0 c with flm.luns := s.flm.luns.filter fun e => e.1 / 64 != c || e.2.lost }
  luns.foldl (fun s l =>
    let g := l.glun c
    let s := s.putBit FLC.CE_PRESENT l.ce.val true c
    if thas s.flm.luns g then s
    else
      let s : State := { s with flm.luns := tset s.flm.luns g { geom := l.geom, lost := false, excluded := !l.fit, fails := 0 } }
      let s := if l.fit then s else s.putBit FLC.LUN_LOST_MAP (g % 64) true c
      l.bad.foldl (fun s b => s.putBlk (blkKey g b) { s.blk (blkKey g b) with state := .retired }) s) s

/-- R303-R306, R334: a bring-up ends; a channel that fails is tried once more, and then EXCLUDED, or lost where it has been in service before (log entry 115). -/
def execFlmBringupDone (ch : FChan) (res : BringupRes) (s : State) : Res :=
  let c := ch.val
  if s.get FLC.STATE c ≠ chInit then .next s
  else match res with
  | .fail =>
    let known := (s.flm.luns.filter fun e => e.1 / 64 == c && s.lunUsed e.1).map Prod.fst
    if !s.flm.tries.contains c then .next ({ s with flm.tries := s.flm.tries ++ [c] }.emit (.device "FLASH_BRINGUP" [c]))
    else if known.isEmpty then .next ((s.flmOut c chExcluded).blkErr (flcPage c) 18 5 (le 1 c)).flmGeometry
    else .next (known.foldl State.lunLost ((s.flmOut c chFailed).blkErr (flcPage c) 18 5 (le 1 c))).flmGeometry
  | .pass luns =>
    if luns.isEmpty then .next (s.flmOut c chAbsent).flmGeometry
    else
      let s := s.flmLuns c luns
      let s := if luns.all (·.fit) then s else s.blkErr (flcPage c) 16 4
      .next (((s.put FLC.STATE chReady c).put FLC.RATE_NOW (s.flcRate c) c).wpN c true).flmGeometry

/-! ## Map pages, journal, checkpoints (R313-R318) -/

/-- The TUNs of a map page (R311). -/
def mapPageTuns (mpi : Nat) : List Nat := (List.range 816).map (mpi * 816 + ·)

/-- A unit cannot be read (R209, R211, R313): the fill that waits for it fails, or the reads that have no frame. -/
def State.unitLost (s : State) (tun : Nat) : State :=
  if s.unitFills tun then s.fillFail (tun / 16) (tun % 16) else (s.directFail (tun / 16) (tun % 16)).movSettle

/-- The reads that wait for a map page go on once it is in the map cache, or fail with it (R313). -/
def State.mapArrived (s : State) (mpi : Nat) (good : Bool) : State :=
  let ws := s.flm.mapWait.filter fun w => mapPageOf w.1 == mpi
  let s : State := { s with flm.mapWait := s.flm.mapWait.filter fun w => mapPageOf w.1 != mpi }
  if good then ws.foldl (fun s w => s.t2Issue w.1 w.2.1 w.2.2) (s.mapUse mpi)
  else ws.foldl (fun s w => w.2.1.foldl (fun s u => s.unitLost (w.1 * 16 + u)) s) s

/-- R312, R313: a map page has been read: whether its first copy, which the directory names, and its second copy are good. A page that only the second gives is rewritten. -/
def execMapPageReadDone (mpi : Nat) (first second : Bool) (s : State) : Res :=
  if first then .next (s.mapArrived mpi true)
  else if second then .next (((s.mapFlush mpi).blkErr ftlPage 18 4 (le 4 mpi)).mapArrived mpi true)
  else .next (({ s with flm.unreadable := ascending (s.flm.unreadable ++ mapPageTuns mpi) }.blkErr ftlPage 18 6 (le 4 mpi)).mapArrived mpi false)

/-- R315: 20 µs after its first record the journal page is programmed. -/
def execJournalPageTimer (s : State) : Res := .next s.jProgram

/-- Units whose records are durable leave staging: T2 holds what was written back (Table 10-6 step 5). -/
def State.land (s : State) (rs : List JRec) : State :=
  let done (u : FtlUnit) : Bool := u.recorded && rs.any fun r => (r.typ == 1 || r.typ == 2) && r.key == u.tun && r.new == u.fua
  let us := s.flm.staged.filter fun u => done u && u.old.isNone
  us.foldl (fun s u => s.t2PutUnit u.tun u.stamp u.vals) { s with flm.staged := s.flm.staged.filter fun u => !done u }

/-- R315, R316, R319: both copies of the oldest page in program have programmed: its records are durable and applied in order. A unit that has landed on a LUN lost meanwhile is rebuilt (Table 10-8). A page that fails is programmed again. -/
def execJournalPageDurable (pass : Bool) (s : State) : Res :=
  match s.flm.jprog with
  | [] => .next s
  | rs :: rest =>
    if !pass then .next s
    else
      let s := ({ s with flm := { s.flm with jprog := rest, jwin := s.flm.jwin ++ rs } } : State).land rs
      let s := rs.foldl State.jApply s
      let lost (r : JRec) : Bool := (r.typ == 1 || r.typ == 2) && s.mapOf r.key == r.new && (match tget s.flm.luns (r.new / 2 ^ 26) with | some l => l.lost | none => false)
      .next ((rs.filter lost).foldl (fun s r => s.rebuild r.key r.new) s).rakeCheck

/-- What a checkpoint saves (R317). -/
def State.checkpoint (s : State) (start : Nat) : Checkpoint :=
  { start := start, mdir := s.flm.mdir, blks := s.flm.blks.map fun e => (e.1, (s.validUnits e.1).length, e.2.state, e.2.wear),
    user := s.ftlGet FTL.USER_BLKS, sys := s.ftlGet FTL.SYS_BLKS, copies := s.mapChans.getD (0, 0) }

/-- A checkpoint starts (R317): it flushes the map pages that a record older than its start has changed, then writes the directory, the block table and the capacity in two copies. -/
def State.ckptStart (s : State) : State :=
  let start := s.flm.jstamp
  let s := ((s.flm.mapDirty.filter fun e => e.2 < start).map Prod.fst).foldl State.mapFlush s
  let c := s.checkpoint start
  ({ s with free := s.free + 2, flm := { s.flm with ckpt := some start, ckNew := some c } } : State).emit (.device "CHECKPOINT_PROGRAM" [c.copies.1, c.copies.2])

/-- R312, R317: after CKPT_JOURNAL_MIB of journal, in 16 KiB pages, a checkpoint starts. -/
def execCheckpointStart (s : State) : Res :=
  if s.flm.ckpt.isNone && s.flashTakes && s.ftlGet FTL.CKPT_JOURNAL_MIB * 64 ≤ s.flm.winPages then .next s.ckptStart else .next s

/-- R334: a LUN is lost. -/
def execLunLost (glun : BitVec 12) (s : State) : Res := .next (s.lunLost glun.toNat)

/-- The result of an operation of a LUN: eight failures in a row lose it (R334). -/
def State.lunOp (s : State) (g : Nat) (pass : Bool) : State :=
  let s : State := { s with flm := { s.flm with suspends := tdel s.flm.suspends g, luns := tmod s.flm.luns g fun l => { l with fails := if pass then 0 else l.fails + 1 } } }
  match tget s.flm.luns g with
  | some l => if 8 ≤ l.fails then s.lunLost g else s
  | none => s

/-- R334: an operation times out. -/
def execOpTimeout (glun : BitVec 12) (s : State) : Res :=
  let g := glun.toNat
  if (tget s.flm.luns g).isSome then .next ((s.inc FLC.OP_TIMEOUT_CNT 1 (g / 64)).lunOp g false) else .next s

/-! ## Programs (Table 10-6, R319, R320, R333) -/

/-- Rows of a stripe whose sixteen pages are programmed and whose parity page is not. -/
def Stripe.ready (x : Stripe) (pages : Nat) : Option Nat :=
  (List.range pages).find? fun r => !x.parityRows.contains r && (List.range x.blocks.length).all fun k => x.prog.contains (r * 16 + k)

/-- Rows whose parity fits one block: SLC mode holds a part of the native pages (R324). -/
def State.slcPages (s : State) : Nat := match s.flm.geom with | some g => max 1 (g.pages / (if g.qlc then 4 else 3)) | none => 1

/-- Whether the present parity block of a stripe has room for a row (R324). -/
def State.parityRoom (s : State) (x : Stripe) : Bool := x.parityRows.length < (x.parities.length + 1) * s.slcPages

/-- Parity goes on in another block: of its own channel where that has one, else of another beside the sixteen (R324). -/
def State.parityNext (s : State) (i : Nat) (x : Stripe) (full : List Nat) : State :=
  match ((blkChan x.parity :: List.range 48).filter fun c => !(x.blocks.any fun k => blkChan k == c)).findSome? s.pickChan with
  | some k => (s.putBlk k { s.blk k with state := .parity, stripe := some i }).putStripe i { x with parity := k, parities := full }
  | none => s

/-- After a page or a parity page: parity of a full row is programmed, in another block where the present one is full; a stripe with every row done is CLOSED (R324). -/
def State.stripeStep (s : State) (i : Nat) : State :=
  match s.stripe i with
  | none => s
  | some x =>
    if x.state ≠ .opened then s
    else if x.parityRows.length = s.pages then s.closeStripe i x
    else if (x.ready s.pages).isNone then s
    else
      let s := if s.parityRoom x then s else s.parityNext i x x.parityBlks
      match s.stripe i with
      | some x => if s.parityRoom x then s.emit (.device "FLASH_PROGRAM_PARITY" [x.parity / 65536, x.parity % 65536]) else s
      | none => s

/-- A data page of a stripe has programmed or failed. -/
def State.pageDone (s : State) (i : Nat) (x : Stripe) (k : Nat) (pass : Bool) : State :=
  let waits := s.flm.staged.filter fun u => s.fuaBlk u.fua == k && !u.programmed
  match waits with
  | [] => s
  | u :: r =>
    let page := r.foldl (fun m v => min m (s.fuaPage v.fua)) (s.fuaPage u.fua)
    let hit (v : FtlUnit) : Bool := s.fuaBlk v.fua == k && !v.programmed && s.fuaPage v.fua == page
    let place := x.blocks.findIdx (· == k)
    let upto := page * 256 + place * 16 + 16
    let x := { x with prog := x.prog ++ [page * 16 + place], next := if page * 256 + place * 16 < x.next then max x.next upto else x.next }
    if pass then
      let s : State := { s with flm.staged := s.flm.staged.map fun v => if hit v then { v with programmed := true } else v }
      (s.putStripe i x).stripeStep i
    else
      -- the units of the failed page are programmed again elsewhere, and the block is retired (R333)
      let again := s.flm.staged.filter hit
      let s : State := { (s.putStripe i x) with flm.staged := s.flm.staged.filter fun v => !hit v }
      let s := again.foldl State.assignUnit s
      (s.retire k).stripeStep i

/-- A parity page has programmed or failed. A block that fails is retired, and its rows are in the block that follows it. -/
def State.parityDone (s : State) (i : Nat) (x : Stripe) (pass : Bool) : State :=
  match x.ready s.pages with
  | none => s
  | some row =>
    if !s.parityRoom x then s
    else if pass then
      let x := { x with parityRows := x.parityRows ++ [row] }
      ((s.putStripe i x).recordRow x row).stripeStep i
    else ((s.retire x.parity).parityNext i x x.parities).stripeStep i

/-- R319, R333: the page of a block in program is done; program failures are counted. -/
def execFlashProgramDone (glun : BitVec 12) (block : BitVec 16) (pass : Bool) (s : State) : Res :=
  let k := blkKey glun.toNat block.toNat
  let s := if pass then s else (s.health fun h => { h with progFails := h.progFails + 1 }).inc FLC.PROG_FAIL_CNT 1 (blkChan k)
  let s := match (s.blk k).stripe with
    | none => if pass then s else (s.retire k).reserveCount
    | some i => match s.stripe i with
      | none => s
      | some x => if x.parity = k then s.parityDone i x pass else s.pageDone i x k pass
  .next (s.lunOp glun.toNat pass).placeWaiting

/-- R320: a row not completed in 200 µs is completed with PAD pages: the pages that no unit waits for count as programmed, and the next unit starts a new row. -/
def execStripeRowTimeout (stripe : Nat) (s : State) : Res :=
  match s.stripe stripe with
  | none => .next s
  | some x =>
    if x.state ≠ .opened || x.next = 0 then .next s
    else
      let row := (x.next - 1) / 256
      let busy (k : Nat) : Bool := s.flm.staged.any fun u => !u.programmed && s.fuaBlk u.fua == k && s.fuaPage u.fua == row
      let pads := (List.range x.blocks.length).filter fun j => !x.prog.contains (row * 16 + j) && !busy ((x.blocks[j]?).getD 0)
      .next ((s.putStripe stripe { x with prog := x.prog ++ pads.map (row * 16 + ·), next := (row + 1) * 256 }).stripeStep stripe)

/-! ## Raking (R321-R323) -/

/-- Blocks of a LUN that can be raked: closed ones. -/
def State.rakeable (s : State) (g : Nat) : List Nat := (s.flm.blks.filter fun e => blkGlun e.1 == g && e.2.state == .closed).map Prod.fst

/-- The source that RAKE_POLICY chooses on a LUN (R321). How policy 1 weighs age is not stated: its choice, and that among equals, is free (log entry 22). -/
def State.rakeSource (s : State) (g : Nat) : State × Option Nat :=
  let cs := s.rakeable g
  let any (l : List Nat) : State × Option Nat := (s.useFree, l[Config.freeNat s.free % max 1 l.length]?)
  match s.ftlGet FTL.RAKE_POLICY with
  | 0 =>
    let least := cs.foldl (fun m k => min m (s.validUnits k).length) (2 ^ 64)
    any (cs.filter fun k => (s.validUnits k).length = least)
  | 1 => any cs
  | 2 =>
    (match s.flm.victims.find? fun k => blkGlun k == g with
     | some k => ({ s with flm.victims := s.flm.victims.erase k }, if cs.contains k then some k else none)
     | none => (s, none))
  | _ => (s, none)

/-- R321, R328: a LUN below RAKE_LO begins raking; with RAKE_EN 0 only below RAKE_URGENT; while verify goes first it waits. -/
def execRakeStart (glun : BitVec 12) (s : State) : Res :=
  let g := glun.toNat
  let n := s.freeBlks g
  if !s.rakesOn || s.verifyFirst || !s.lunUsed g || thas s.flm.rakes g || s.ftlGet FTL.RAKE_LO ≤ n || (!(s.ftlGet FTL.RAKE_EN == 1) && s.ftlGet FTL.RAKE_URGENT ≤ n) then .next s
  else match s.rakeSource g with
  | (s, some k) => .next (s.rakeBlock k)
  | (s, none) => .next s

/-- R322, R328: one rake step, which waits while verify goes first unless its block has failed one: valid units of the source take the slots of one destination page. Raking stops above RAKE_HI, but for a block that must be emptied. -/
def execRakeStep (glun : BitVec 12) (s : State) : Res :=
  let g := glun.toNat
  match tget s.flm.rakes g with
  | none => .next s
  | some k =>
    let b := s.blk k
    if !s.flashTakes || (s.verifyFirst && !b.suspect && b.state ≠ .retired) then .next s
    else if s.ftlGet FTL.RAKE_HI < s.freeBlks g && !b.suspect && b.state ≠ .retired then .next (s.rakeEnd g)
    else
      let s := s.placeWaiting
      let room := match s.currentStripe with | some e => 16 - e.2.next % 16 | none => 16
      let us := ((s.validUnits k).filter fun e => !((s.flm.staged ++ s.flm.waiting).any fun u => u.tun == e.1 && u.old == some e.2)).take room
      .next ((if s.assignable then us.foldl (fun s e => s.assign e.1 (some e.2)) s else s).rakeCheck)

/-- R322 step 5, R323: an ERASE_PENDING source without valid units, and with no read in flight to it, is erased. -/
def execSourceErase (glun : BitVec 12) (block : BitVec 16) (s : State) : Res :=
  let k := blkKey glun.toNat block.toNat
  let b := s.blk k
  if b.state = .erasePending && (s.validUnits k).isEmpty && s.flashTakes && !(s.flm.reading.any fun e => s.fuaBlk e.2 == k) then
    .next ((s.putBlk k { b with state := .erasing }).emit (.device "FLASH_ERASE" [glun.toNat, block.toNat]))
  else .next s

/-- Whether a block was last used in SLC mode: the parity block of its stripe, or a reserve block. -/
def State.slcUsed (s : State) (k : Nat) : Bool := match (s.blk k).stripe with | some i => (match s.stripe i with | some x => x.parityBlks.contains k | none => false) | none => true

/-- R322, R332, R333: an erase ends: the ERASE record, the wear; a failure, or wear at PE_LIMIT, retires the block. -/
def execFlashEraseDone (glun : BitVec 12) (block : BitVec 16) (pass : Bool) (s : State) : Res :=
  let k := blkKey glun.toNat block.toNat
  let b := s.blk k
  if b.state ≠ .erasing then .next s
  else if pass then
    let w := b.wear + (if s.slcUsed k then 1 else 4)
    let s := (s.putBlk k { state := .free, wear := w, suspect := b.suspect, stripe := none }).jAppend 5 k 0 0
    let s := if s.wornOut k then s.retire k else s
    .next (s.lunOp glun.toNat true).placeWaiting
  else
    let s := (s.health fun h => { h with eraseFails := h.eraseFails + 1 }).inc FLC.ERASE_FAIL_CNT 1 (blkChan k)
    .next ((s.retire k).lunOp glun.toNat false)

/-- VICTIM names a rake source (R321): one that is a reserve, parity, metadata or retired block, or beyond 256, is refused and counted. -/
def State.victimWrite (s : State) (g b : Nat) : State :=
  let k := blkKey g b
  let st := (s.blk k).state
  let no : Bool := match st with | .reserve | .reserveUsed | .parity | .metadata | .retired => true | .free | .opened | .closed | .erasePending | .erasing => false
  if no || 256 ≤ s.flm.victims.length then s.ftlPut FTL.VICTIM_REFUSED (satAdd 32 (s.ftlGet FTL.VICTIM_REFUSED) 1)
  else { s with flm.victims := s.flm.victims ++ [k] }

/-! ## Verify, reads, scrub, wear (R325-R332) -/

/-- A CLOSED stripe is VERIFIED once every block has passed, or, where it failed or has been raked, holds nothing valid any more (R325, R326); its parity is reclaimed. -/
def State.verifyCheck (s : State) (i : Nat) : State :=
  match s.stripe i with
  | none => s
  | some x =>
    let gone (k : Nat) : Bool := (s.blk k).stripe != some i || (((s.blk k).suspect || (s.blk k).state != .closed) && (s.validUnits k).isEmpty)
    if x.state = .closed && x.blocks.all fun k => x.passed.contains k || gone k then
      let s : State := { (s.putStripe i { x with state := .verified }) with flm.closing := s.flm.closing.erase i }
      x.parityBlks.foldl (fun s k => if (s.blk k).state = .parity then s.putBlk k { s.blk k with state := .erasePending } else s) s
    else s

/-- Whether a page passes: every codeword decodes, with at most VERIFY_MAX bits corrected (R325, R331). -/
def State.pagePasses (s : State) (corrected : Option (BitVec 16)) : Bool := match corrected with | some n => n.toNat ≤ s.ftlGet FTL.VERIFY_MAX | none => false

/-- Whether verify runs now (R325, R327, R328): on the stripe that closed first, below write-back and raking unless the parity log is full, not in a harvest or after a reset until FLM serves again. -/
def State.verifies (s : State) (i c : Nat) : Bool :=
  s.flashTakes && s.flm.closing.head? == some i && s.get FLC.STATE c == chReady && (s.verifyFirst || (s.flm.staged.isEmpty && s.flm.rakes.isEmpty))

/-- R325-R327, R333: a page of a CLOSED stripe is read-verified, the most bits that a codeword corrected, none where one fails hard decoding; last: it is the last of its block. A block that fails is raked and SUSPECT, and retired the second time. -/
def execVerifyPage (stripe : Nat) (glun : BitVec 12) (block : BitVec 16) (corrected : Option (BitVec 16)) (last : Bool) (s : State) : Res :=
  let k := blkKey glun.toNat block.toNat
  match s.stripe stripe with
  | none => .next s
  | some x =>
    if x.state ≠ .closed || !s.verifies stripe (glun.toNat / 64) || !x.blocks.contains k then .next s
    else if s.pagePasses corrected then
      .next ((if last && !x.passed.contains k then s.putStripe stripe { x with passed := x.passed ++ [k] } else s).verifyCheck stripe)
    else if (s.blk k).suspect then .next (s.retire k)
    else .next ((s.putBlk k { s.blk k with suspect := true }).rakeBlock k)

/-- R329: a unit read from T2 completes. Corrected bits and the step are counted; from step 3 on the unit is rewritten; TIER gets the unit or the failure, and the loss of a unit of class M or D is recorded at severity 7 (R34). -/
def execFlashReadDone (tun : Nat) (step : ReadStep) (word corr : Nat) (s : State) : Res :=
  let f := s.mapOf tun
  let c := f / 2 ^ 32
  let s := s.readEnded tun
  let s := if f = unwritten then s
    else (s.health fun h => { h with corrBits := h.corrBits + corr }).incMod FLC.CORR_BITS corr c
  let retried (s : State) : State := s.health fun h => { h with retries := h.retries + 1 }
  let rewrite (s : State) : State := if f = unwritten || !s.flashTakes then s else s.assign tun (some f)
  let serve (s : State) : State :=
    if s.unitFills tun then s.fillDone (tun / 16) (tun % 16) else ((s.directDone (tun / 16) (tun % 16) true).directDone (tun / 16) (tun % 16) false).movSettle
  let fail (s : State) : State :=
    let s := (s.health fun h => { h with unrecoverable := h.unrecoverable + 1, retries := h.retries + 1 })
    let s := if f = unwritten then s else s.inc FLC.UNRECOV_CNT 1 c
    let s := if (s.regionAt (s.pbnRegion (tun / 16))).pclass < 2 then s.misc ftlPage 7 (le 5 tun) else s
    s.unitLost tun
  -- a fold that does not agree is an integrity failure, and the next step is tried (R462, R463)
  let bad : Bool := f != unwritten && !s.foldOk tun word
  let onward (s : State) (n : Nat) : State := (s.misc ftlPage 5 (le 5 tun)).emit (.device "FLASH_READ_STEP" [tun, n])
  if s.flm.unreadable.contains tun then .next (fail s)
  else match step with
  | .hard => .next (if bad then onward s 2 else serve s)
  | .retry => .next (if bad then onward (retried s) 3 else serve (retried s))
  | .soft => .next (if bad then onward (retried s) 4 else serve (rewrite (retried s)))
  | .parity => .next (if bad || !(f == unwritten || s.parityHeld f) then onward (retried s) 5 else serve (rewrite ((retried s).health fun h => { h with rebuilds := h.rebuilds + 1 })))
  | .fetched sectors poison =>
    if !s.fetchable tun then .next (fail s)
    else
      let s := ((retried s).health fun h => { h with fetches := h.fetches + 1 }).twinSend 0x0E (s.pbnGroup (tun / 16)) 0 tun 0 []
      let s := (List.range 64).foldl (fun s k => match (withPoison sectors poison)[k]? with | some v => s.t2Write (tun * 64 + k) v | none => s) s
      .next (serve (rewrite ((s.t2Seal tun).bitternStale tun)))
  | .unrecoverable => .next (fail s)

/-- R330: a read that waits behind the program or erase of a LUN suspends it, at most 4 times. -/
def execSuspendTimeout (glun : BitVec 12) (s : State) : Res :=
  let g := glun.toNat
  if s.lunUsed g && s.flm.reading.any (fun e => e.2 / 2 ^ 26 == g) then .next (s.suspend g) else .next s

/-- Whether a closed block is to be read (R331): SCRUB_DAYS after it was read last, or after more than 100,000 reads. -/
def State.scrubDue (s : State) (b : BlkRec) : Bool := s.ftlGet FTL.SCRUB_DAYS * 86400000000000 ≤ s.timeNs - b.scrubbed || 100000 < b.reads

/-- R331, R339: a closed block has been read, the most bits that a codeword corrected; one with a page over VERIFY_MAX is raked. -/
def execFlashScrub (glun : BitVec 12) (block : BitVec 16) (corrected : Option (BitVec 16)) (s : State) : Res :=
  let k := blkKey glun.toNat block.toNat
  let b := s.blk k
  if b.state ≠ .closed || !s.flashTakes || !s.lunUsed glun.toNat || !s.scrubDue b then .next s
  else
    let s := s.putBlk k { b with reads := 0, scrubbed := s.timeNs }
    .next (if s.pagePasses corrected || s.flmState = flmReadOnly then s else s.rakeBlock k)

/-- The wear of the least worn of the good blocks (R332): 0 while one has never been worn. -/
def State.leastWear (s : State) (good : Table BlkRec) : Nat :=
  let all := match s.flm.geom with | some g => (s.flm.luns.filter fun e => s.lunUsed e.1).length * g.blocks | none => 0
  if (s.flm.blks.filter fun e => s.lunUsed (blkGlun e.1)).length < all then 0 else good.foldl (fun m e => min m e.2.wear) (2 ^ 64)

/-- R332, R339: while the wear of any two good blocks differs by more than WEAR_SPREAD, the least-worn closed block is raked into a stripe that has the most-worn free block. -/
def execStaticWearLevel (s : State) : Res :=
  if !(s.ftlGet FTL.STATIC_WL_EN == 1) || !s.flashTakes || s.flmState = flmReadOnly then .next s
  else
    let good := s.flm.blks.filter fun e => e.2.state != .retired && s.lunUsed (blkGlun e.1)
    let most := good.foldl (fun m e => max m e.2.wear) 0
    match good.filter fun e => e.2.state == .closed, good.filter fun e => e.2.state == .free with
    | c :: cs, f :: fs =>
      let lo := cs.foldl (fun (a : Nat × BlkRec) e => if e.2.wear < a.2.wear then e else a) c
      let hi := fs.foldl (fun (a : Nat × BlkRec) e => if a.2.wear < e.2.wear then e else a) f
      if s.ftlGet FTL.WEAR_SPREAD * 4 < most - s.leastWear good then .next ((s.openStripe (some hi.1)).rakeBlock lo.1) else .next s
    | _, _ => .next s

/-! ## Reserve and READ_ONLY (R336-R341) -/

/-- A spare block to take the place of a reserve block, while spare is left: of its LUN, else of the LUN with the least reserve (R336, R337). -/
def State.reservePick (s : State) (g : Nat) : Option Nat :=
  let held (g : Nat) : Nat := (s.flm.blks.filter fun e => blkGlun e.1 == g && e.2.state == .reserve).length
  let gs := (s.flm.luns.filter fun e => s.lunUsed e.1 && 0 < s.freeBlks e.1).map Prod.fst
  if s.ftlGet FTL.SPARE_BLOCKS = 0 then none
  else if gs.contains g then s.pickBlk g
  else match gs with
  | [] => none
  | a :: r => s.pickBlk (r.foldl (fun a b => if held b < held a then b else a) a)

/-- R337: a reserve block that goes bad is replaced from spare, or the reserve shrinks; a worn one is swapped for a less-worn spare block, which is counted before the old one leaves, while no harvest holds it. -/
def execReserveBlockReplace (glun : BitVec 12) (block : BitVec 16) (bad : Bool) (s : State) : Res :=
  let k := blkKey glun.toNat block.toNat
  let b := s.blk k
  if b.state ≠ .reserve && !(bad && b.state = .reserveUsed) then .next s
  else
    let new := (s.reservePick glun.toNat).filter fun n => bad || (!s.frozen && (s.blk n).wear < b.wear)
    let s := match new with | some n => s.putBlk n { s.blk n with state := .reserve, stripe := none } | none => s
    if bad then .next (s.retire k).reserveCount
    else if new.isSome then .next (s.putBlk k { b with state := .free }).reserveCount
    else .next s

/-- R338: SPARE_BLOCKS has fallen to RO_MIN. -/
def execFlmReadOnly (s : State) : Res :=
  if (s.flmState = flmNormal || s.flmState = flmLowSpare) && s.ftlGet FTL.SPARE_BLOCKS ≤ s.roMin then .next s.enterReadOnly else .next s

/-- NORMAL or LOW_SPARE by SPARE_LEFT_PCT (R335). -/
def State.flmServing (s : State) : Nat := if s.spareLeft ≤ s.ftlGet FTL.SPARE_WARN then flmLowSpare else flmNormal

/-- RO_CLEAR (R341): READ_ONLY ends when SPARE_BLOCKS exceeds 2 × RO_MIN. -/
def State.roClear (s : State) : State :=
  if s.flmState = flmReadOnly && 2 * s.roMin < s.ftlGet FTL.SPARE_BLOCKS then
    { ((s.ftlPut FTL.FLM_STATE s.flmServing).put XLT.MEDIA_RO 0).fastWrote 3 with flm.roStored := false }
  else s

/-! ## Replay and format (R307, R342) -/

/-- No write-back is in flight: units that are DIRTY are written back again. -/
def State.wbStop (s : State) : State :=
  { s with tier.blocks := tmap s.tier.blocks fun _ b => { b with units := tmap b.units fun _ u => { u with wb := none } }, twn.mirror := tmap s.twn.mirror fun _ m => { m with wb := none } }

/-- What a harvest, a warm reset or a domain reset leaves of the work in progress: journal pages in program complete, other records and the units in staging go, open stripes are closed, raking and checkpoints end (R318, R323, R327). -/
def State.ftlStop (s : State) : State :=
  let prog := s.flm.jprog.flatten
  let s : State := { s with flm := { s.flm with
      jopen := [], staged := s.flm.staged.filter fun u => u.recorded && prog.any fun r => r.key == u.tun && r.new == u.fua, ckpt := none, ckNew := none, rakes := [], victims := [], suspends := [],
      reading := [], mapWait := [], waiting := [], rakeWait := [] } }
  (s.flm.stripes.filter fun e => e.2.state == .opened).foldl (fun s e => s.closeStripe e.1 e.2) s.wbStop

/-- The loss of power ends the journal pages in program too: the window ends before them; the map cache is lost (Table 10-8, R342). -/
def State.ftlLost (s : State) : State :=
  let s := s.ftlStop
  { s with flm := { s.flm with jprog := [], staged := [], mcache := [] } }

/-- Blocks left without valid units are ERASE_PENDING after replay (R343). -/
def State.orphanBlocks (s : State) : State :=
  { s with flm.blks := tmap s.flm.blks fun k b => if b.state = .closed && (s.validUnits k).isEmpty then { b with state := .erasePending } else b }

/-- FLM leaves INIT, REPLAY or FAILED: REC spills again (R515). -/
def State.spillResume (s : State) : State := s.occur (pg .recd) 33 3 (le 4 (s.recd.slots.filter fun e => !e.2.free).length ++ le 4 (s.get REC.HEAD_SEQ))

/-- Blocks that user data and the map need for so many tier blocks (R310, R311, Table 10-4). -/
def State.dataBlocks (s : State) (n : Nat) : Nat :=
  let p := max 1 s.pages
  let mapGib := ((n + 50) / 51 * 4 + 2 ^ 20 - 1) / 2 ^ 20
  (n + p - 1) / p + (2 * mapGib * 2 ^ 20 + p * 64 - 1) / (p * 64)

/-- Blocks of the harvest reserve (R336). -/
def State.reserveNeed (s : State) : Nat := (s.get HRV.HRV_RESERVE * 1024 + max 1 s.slcMib - 1) / max 1 s.slcMib

/-- Good blocks of the LUNs in use. -/
def State.goodBlocks (s : State) : Nat :=
  match s.flm.geom with
  | some g => (s.flm.luns.filter fun e => s.lunUsed e.1).length * g.blocks - (s.flm.blks.filter fun e => e.2.state == .retired && s.lunUsed (blkGlun e.1)).length
  | none => 0

/-- SPARE_BLOCKS for a capacity (R335). -/
def State.spareFor (s : State) (n : Nat) : Nat := s.goodBlocks - (s.dataBlocks n + s.reserveNeed + Config.ftlPools s.rawBlocks)

/-- Whether R310 admits a capacity. -/
def State.capacityOk (s : State) (n : Nat) : Bool := n ≤ 10737418240 && 12 * s.rawBlocks ≤ 100 * s.spareFor n

/-- What replay finds (R342): the journal ends at the first page that is not there; the map directory is the newest valid checkpoint's with the MAPFLUSH records of the window; the block counts are those of the good blocks (R335). -/
def State.replayed (s : State) : State :=
  let s : State := { s with flm := { s.flm with
      jprog := [], staged := [],
      mdir := (s.flm.jwin.filter fun r => r.typ == 4).foldl (fun m r => tset m r.key r.new) ((s.flm.ckSaved.map (·.mdir)).getD []) } }
  if s.flm.formatted then (s.ftlPut FTL.SPARE_BLOCKS (s.spareFor (s.ftlGet FTL.USER_BLKS + s.ftlGet FTL.SYS_BLKS))).ftlPut FTL.SPARE_INIT s.flm.spareInit else s

/-- R342: replay ends; FLM enters NORMAL, or READ_ONLY where that is stored. -/
def execReplayDone (s : State) : Res :=
  if s.flmState ≠ flmReplay then .next s
  else
    let s := s.replayed.orphanBlocks.reserveCount
    let s := if s.flm.roStored then (s.ftlPut FTL.FLM_STATE flmReadOnly).put XLT.MEDIA_RO 1 else s.ftlPut FTL.FLM_STATE s.flmServing
    .next s.spillResume.spareCheck

/-- The anchor blocks (R318): the two lowest-numbered good blocks of CE 0, LUN 0 of F0 and of F24. -/
def State.anchors (s : State) : List Nat :=
  [0, 24 * 64].flatMap fun g =>
    if s.lunUsed g then (((List.range (match s.flm.geom with | some x => x.blocks | none => 0)).map (blkKey g)).filter fun k => (s.blk k).state != .retired).take 2 else []

/-- A format discards what the flash held (R307): every map entry UNWRITTEN, T2 and the journal empty; each block keeps its wear (R332). -/
def State.formatClear (s : State) : State :=
  { s with
    tier.quotas := tmap s.tier.quotas fun _ q => Quota.seal { q with t1Quota := 0, t2Quota := 0, t2Used := 0 },
    flm := { s.flm with
      t2 := [], t2Stamp := [], folds := [], map := [], mdir := [], spare := [], mapDirty := [], mcache := [], mapWait := [], reading := [], waiting := [], rakeWait := [], closing := [],
      parityPages := Config.parityPages s.rawBlocks, blks := tmap s.flm.blks fun _ b => if b.state = .retired then b else { freshBlk with wear := b.wear }, stripes := [], staged := [], jopen := [], jprog := [], jwin := [],
      winPages := 0, rakes := [], victims := [], unreadable := [], roStored := false, formatted := true,
      health := { corrBits := 0, retries := 0, rebuilds := 0, fetches := 0, unrecoverable := 0, progFails := 0, eraseFails := 0, retired := 0, lunsLost := 0, tempMin := 127, tempMax := -128, secs := [0, 0, 0, 0] } } }

/-- A format erases the metadata pool and the reserve (R307); the other blocks that were used wait for their erase. -/
def State.formatPools (s : State) (used : List Nat) : State :=
  let s := s.anchors.foldl (fun s k => s.slcErased k .metadata) s
  let s := State.takeReserve s.reserveNeed s
  let s := s.reserveBlks.foldl (fun s k => s.slcErased k .reserve) s
  (used.foldl (fun s k => if (s.blk k).state = .free then s.putBlk k { s.blk k with state := .erasePending } else s) s).reserveCount

/-- Format (R307): the bad-block table is built, the flash emptied, the pools erased, the first checkpoint written. -/
def State.ftlFormat (s : State) : State :=
  let used := (s.flm.blks.filter fun e => e.2.state != .retired && e.2.state != .free).map Prod.fst
  let start := s.flm.jstamp
  let s := s.formatClear.badBlocks
  let n := s.spareFor (s.ftlGet FTL.USER_BLKS + s.ftlGet FTL.SYS_BLKS)
  let s : State := { (s.ftlPut FTL.SPARE_BLOCKS n).ftlPut FTL.SPARE_INIT n with flm.spareInit := n }
  let s := ((s.formatPools used).ftlPut FTL.FLM_STATE flmNormal).ckptStart
  let s : State := { s with flm.ckpt := some start }
  if s.ftlGet FTL.RESERVE_READY_MIB < s.get HRV.HRV_RESERVE * 1024 then (s.blkErr ftlPage 19 4).spillResume else s.spillResume

/-! ## Health (R344) -/

/-- The band of a temperature (Table 10-11). -/
def tempBand (t : Int) : Nat := if t < 40 then 0 else if t < 55 then 1 else if t < 70 then 2 else 3

/-- Mean wear of the good blocks as a percentage of PE_LIMIT. -/
def State.wearPct (s : State) : Nat :=
  let sum := (s.flm.blks.filter fun e => e.2.state != .retired && s.lunUsed (blkGlun e.1)).foldl (fun n e => n + e.2.wear) 0
  min 100 (sum * 100 / max 1 (s.goodBlocks * 4 * s.ftlGet FTL.PE_LIMIT))

/-- R344: at a whole second of device time FLM_HEALTH is updated as one set. -/
def execHealthUpdate (s : State) : Res :=
  let t := (tget s.seq.temps (s.ftlGet FTL.TEMP_SRC)).getD 0 / 8
  let s := s.health fun h => { h with tempMin := min h.tempMin t, tempMax := max h.tempMax t, secs := h.secs.modify (tempBand t) (· + 1) }
  let h := s.flm.health
  let wear := s.wearPct
  let s := (s.ftlPut FTL.SPARE_LEFT_PCT s.spareLeft).ftlPut FTL.WEAR_USED_PCT wear
  let s := s.ftlPut FTL.LIFE_USED_PCT (if s.flmState = flmReadOnly then 100 else max wear (100 - s.spareLeft))
  let s := ((s.ftlPut FTL.TEMP_NOW (ofSigned 8 t)).ftlPut FTL.TEMP_MIN (ofSigned 8 h.tempMin)).ftlPut FTL.TEMP_MAX (ofSigned 8 h.tempMax)
  let s := (List.range 4).foldl (fun s k => s.put FTL.TEMP_HOURS (h.secs.getD k 0 / 3600) 48 k) s
  let s := ((s.ftlPut FTL.CORR_BITS h.corrBits).ftlPut FTL.READ_RETRIES (min (2 ^ 32 - 1) h.retries)).ftlPut FTL.PARITY_REBUILDS (min (2 ^ 32 - 1) h.rebuilds)
  let s := ((s.ftlPut FTL.TWIN_FETCHES (min (2 ^ 32 - 1) h.fetches)).ftlPut FTL.UNRECOVERABLE (min (2 ^ 32 - 1) h.unrecoverable)).ftlPut FTL.PROG_FAILS (min (2 ^ 32 - 1) h.progFails)
  let s := ((s.ftlPut FTL.ERASE_FAILS (min (2 ^ 32 - 1) h.eraseFails)).ftlPut FTL.BLOCKS_RETIRED h.retired).ftlPut FTL.LUNS_LOST h.lunsLost
  .next (s.incMod FTL.HEALTH_SEQ 1 48)

end Sys2Proof.Machine
end

