-- ==== Sys2Proof/Machine/SeqOps.lean ====
section
/-! DEFINITION. The rail table, the enables and the shared fault line of SEQ (18, 20). -/
namespace Sys2Proof.Machine

def seqPage : Page := pg .seq

/-- STATE of SEQ (Table 18-5). -/
def seqOff : Nat := 0
def seqDeviceOn : Nat := 1
def seqPoweringUp : Nat := 2
def seqOn : Nat := 3
def seqShed : Nat := 4
def seqPoweringDown : Nat := 5

/-! ## Rows (Table 18-1) -/

def zeroRow : List Nat := [0, 0, 0, 0, 0, 0, 0, 0]

/-- Nominal voltage of the device rails in mV (Table 20-3). -/
def railNominal : List Nat := [750, 850, 850, 1200, 1100, 1200, 900, 1800]
/-- Maximum current of the device rails in units of 10 mA (Table 20-3). -/
def railMaxCur : List Nat := [33800, 3600, 6200, 2500, 4900, 2800, 200, 10]

/-- Fixed row 32 + k (R599). -/
def fixedRow (k : Nat) : List Nat :=
  let v := railNominal.getD k 0
  let i := railMaxCur.getD k 0
  let lo (m : Nat) : Nat := (v * (100 - m) + 99) / 100
  let hi (m : Nat) : Nat := v * (100 + m) / 100
  [2 ^ 31 + (if k < 7 then 2 ^ 30 else 0) + 2 ^ 28 + 2 ^ 27 + 4 * 256 + 1, 0, lo 6 * 65536 + hi 6, lo 3 * 65536 + hi 3,
   (i * 5 / 4) * 65536 + i, 5, 0, 0]

/-- A row of the table in force. -/
def State.row (s : State) (n : Nat) : List Nat :=
  if 32 ≤ n && n < 40 then fixedRow (n - 32) else (tget s.seq.rows n).getD zeroRow

def rowValid (r : List Nat) : Bool := bit (r.getD 0 0) 31
def rowKeep (r : List Nat) : Bool := bit (r.getD 0 0) 30
def rowShared (r : List Nat) : Bool := bit (r.getD 0 0) 29
def rowVEn (r : List Nat) : Bool := bit (r.getD 0 0) 28
def rowIEn (r : List Nat) : Bool := bit (r.getD 0 0) 27
def rowVsns (r : List Nat) : Nat := bits (r.getD 0 0) 21 6
def rowIsns (r : List Nat) : Nat := bits (r.getD 0 0) 15 6
def rowRamp (r : List Nat) : Nat := bits (r.getD 0 0) 8 7
def rowSettle (r : List Nat) : Nat := bits (r.getD 0 0) 0 8
def rowDep (r : List Nat) : Nat := r.getD 1 0
def rowFaultLo (r : List Nat) : Int := bits (r.getD 2 0) 16 16
def rowFaultHi (r : List Nat) : Int := bits (r.getD 2 0) 0 16
def rowWarnLo (r : List Nat) : Int := bits (r.getD 3 0) 16 16
def rowWarnHi (r : List Nat) : Int := bits (r.getD 3 0) 0 16
def rowOcFault (r : List Nat) : Int := bits (r.getD 4 0) 16 16
def rowOcWarn (r : List Nat) : Int := bits (r.getD 4 0) 0 16

/-- The appliance rails in use. -/
def State.validRails (s : State) : List Nat := (List.range 32).filter fun n => rowValid (s.row n)

/-- The rails of a set and every rail that depends on one of them, directly or through other rails (R559). -/
def State.dependents (s : State) : Nat → List Nat → List Nat
  | 0, l => l
  | k + 1, l => State.dependents s k ((List.range 32).filter fun n => l.contains n || l.any fun m => bit (rowDep (s.row n)) m)

def State.closure (s : State) (l : List Nat) : List Nat := s.dependents 32 l

/-! ## Runs -/

def railIdle : RailRun := { phase := .off, scan := 0, badW := 0, badF := 0, warned := false, high := false }
def State.rail (s : State) (n : Nat) : RailRun := (tget s.seq.rails n).getD railIdle
def State.putRail (s : State) (n : Nat) (r : RailRun) : State :=
  { s with seq.rails := if r = railIdle then tdel s.seq.rails n else tset s.seq.rails n r }
def State.railPhase (s : State) (n : Nat) : RailPhase := (s.rail n).phase

/-- Assert the enable of a row (R563): a shared one pulls its line low. -/
def State.enPin (s : State) (n : Nat) : State :=
  if 32 ≤ n then s.pinOut "DEV_EN" (n - 32) (some true)
  else s.pinOut "RAIL_EN" n (some !(rowShared (s.row n)))
/-- Release it: a shared one is let go. -/
def State.disPin (s : State) (n : Nat) : State :=
  if 32 ≤ n then s.pinOut "DEV_EN" (n - 32) (some false)
  else s.pinOut "RAIL_EN" n (if rowShared (s.row n) then none else some false)

/-- The scan count, the millisecond clock of SEQ. -/
def State.scan (s : State) : Nat := s.get SEQ.SCAN_CNT
/-- Whole scans since a count. -/
def State.scansSince (s : State) (t : Nat) : Nat := (s.scan + 2 ^ 32 - t) % 2 ^ 32

/-- A rail starts: its enable is asserted (R556). -/
def State.railStart (s : State) (n : Nat) : State :=
  let s := (s.putRail n { railIdle with phase := .ramping, scan := s.scan, high := (s.rail n).high }).enPin n
  if n < 32 then s.putBit SEQ.RAIL_ON n true else s

/-- A rail is GOOD. -/
def State.railGood (s : State) (n : Nat) : State :=
  let s := s.putRail n { s.rail n with phase := .good, scan := s.scan, badW := 0, badF := 0 }
  if n < 32 then s.putBit SEQ.RAIL_GOOD n true else s.putBit SEQ.DEV_GOOD (n - 32) true

/-- A rail's enable is released (R559, R566, R568); its discharge begins. -/
def State.railRelease (s : State) (n : Nat) : State :=
  match s.railPhase n with
  | .off | .releasing => s
  | _ =>
    let s := (s.putRail n { s.rail n with phase := .releasing, scan := s.scan, badW := 0, badF := 0, warned := false }).disPin n
    if n < 32 then (s.putBit SEQ.RAIL_ON n false).putBit SEQ.RAIL_GOOD n false else s.putBit SEQ.DEV_GOOD (n - 32) false

def State.railsRelease (s : State) (l : List Nat) : State := l.foldl State.railRelease s

/-- A rail is off (R568). -/
def State.railOff (s : State) (n : Nat) : State := s.putRail n { s.rail n with phase := .off, scan := s.scan }

/-! ## FAULT_N (R564) -/

/-- FAULT_N is driven low for at least 10 ms, then until FAULT_CLR. -/
def State.faultN (s : State) : State :=
  { ((s.put SEQ.FAULT_N_DRV 1).put SEQ.FAULT_N_IN 0).pinOut "FAULT_N" 0 (some false) with seq := { s.seq with faultHold := true, faultClr := false } }

/-- FAULT_N is released; its level is then what the partner and the shelf make of it. -/
def State.faultNOff (s : State) : State :=
  if s.flag SEQ.FAULT_N_DRV then
    { ((s.put SEQ.FAULT_N_DRV 0).put SEQ.FAULT_N_IN 1).pinOut "FAULT_N" 0 none with seq := { s.seq with faultHold := false, faultClr := false } }
  else s

/-! ## Shedding, step-load test -/

/-- Step 5 of Table 11-2 (R566): every appliance rail with KEEP = 0 is released in one cycle; rails not started stay off. -/
def State.shedRails (s : State) : State :=
  let s := s.railsRelease ((List.range 32).filter fun n => !rowKeep (s.row n))
  { (s.put SEQ.STATE seqShed) with seq.up := false }

/-- A step-load test ends without a result (R573). -/
def State.stepAbort (s : State) : State :=
  if s.flag SEQ.STEP_ACTIVE then ((s.put SEQ.STEP_ACTIVE 0).pinOut "STEP_EN" 0 (some false)).pinOut "CHG_INH" 0 (some false) else s

/-- R572: what a step-load test needs. -/
def State.stepReady (s : State) : Bool :=
  s.get HRV.STATE == 0 && s.seq.pfHigh && s.get SEQ.BANK_FULL_MV ≤ s.get HRV.BANK_V_MV && !s.flag SEQ.STEP_ACTIVE

/-- A step-load test starts: the charger is held off, then the load is switched on (R572). -/
def State.stepStart (s : State) : State :=
  if s.stepReady then ((s.put SEQ.STEP_ACTIVE 1).pinOut "CHG_INH" 0 (some true)).pinOut "STEP_EN" 0 (some true) else s

end Sys2Proof.Machine
end

