-- ==== Sys2Proof/Machine/RegOps.lean ====
section
/-! DEFINITION. The fields of the register file by key, and their loading from the settings image. -/
namespace Sys2Proof.Machine

/-! ## Register fields (Table 2-5) -/

/-- The page a key of the register file belongs to. -/
def pageOfKey (k : Nat) : Option Page :=
  let n := k / 32768 - 0x1000
  (Blk.ofCode (n / 256)).map fun b => ⟨b, n % 256⟩

/-- The field, and which entry of it, a key stands for. -/
def fldOfKey (k : Nat) : Option (Page × Fld × Nat) :=
  (pageOfKey k).bind fun p => (hdrFields ++ pageFields p).findSome? fun f =>
    ((List.range f.cnt).find? fun i => f.key p i == k).map fun i => (p, f, i)

/-- RWP fields of the pages hit load from the settings image; SEQ's tables of them with its page (R51, R574). -/
def State.loadRwp (s : State) (hit : Page → Bool) : State :=
  let s := s.nvs.image.rwp.foldl (fun s e => match fldOfKey e.1 with
    | some (p, f, i) => if hit p && f.acc == .rwp then s.wr p f e.2 i else s
    | none => s) s
  let s : State := if hit (pg .hp 0) then { s with hp := { s.hp with bar0Log := s.nvs.image.pci.1, subId := s.nvs.image.pci.2 } } else s
  if hit seqPage then { s with seq := { s.seq with snsCfg := s.nvs.image.snsCfg, tempCfg := s.nvs.image.tempCfg } } else s

/-- A STORE in progress ends, the bank in use as it was (Table 19-2). -/
def State.storeAbandon (s : State) : State :=
  if s.nvs.storing.isSome then { (s.put NVS.BUSY 0) with nvs.storing := none } else s

/-- A commit of CLK_DIV in progress ends ABORTED (R537). -/
def State.clkAbort (s : State) : State :=
  if s.flag CLK.BUSY then (s.put CLK.BUSY 0).put CLK.RESULT 3 else s

/-- An activation in progress is abandoned (Table 15-11). -/
def State.actAbandon (s : State) : State := { (s.put WDN.ACT_STATE 0) with wdn.act := none }

/-! ## Quiescing (R52) -/

/-- Whether a block has work in flight that it must finish before it rests (R52; log entry 40). -/
def State.busy (s : State) (p : Page) : Bool :=
  let i := p.inst
  match p.blk with
  | .mov => let st := s.get MOV.STATE i; st != movIdle && st != movOffline
  | .hp => s.hp.cmps.any (fun c => c.port == i) || s.hp.forwards.any (fun f => f.port == i) ||
      s.tier.reads.any fun r => match r.who with | .cxl q _ _ => q == i | _ => false
  | .pan => let st := s.get PAN.STATE i; s.pan.op.isSome || !(st == panEnabled || st == panDisabled)
  | .dmc => let st := s.get DMC.STATE i; st == dmcTraining || st == dmcRetrain
  | .flm => if i < 48 then s.get FLC.STATE i == chInit else !s.flm.staged.isEmpty
  | .twn => s.twn.replay.any fun r => !r.acked
  | .cip => s.flag CIP.BUSY
  | .hsh => (List.range 5).any fun k => s.flag HSH.BUSY 0 k
  | .nvs => s.flag NVS.BUSY
  | .clk => s.flag CLK.BUSY
  | .xlt => s.xlt.invalBusy.isSome
  | .tier => !s.tier.reads.isEmpty || s.tier.blocks.any fun b => b.2.state != .resident
  | .top => let g := s.get TOP.STAGE_GSTAT; g == gApplying || g == gRolling
  | .qe => !s.qe.cmds.isEmpty || !s.qe.barriers.isEmpty || s.qe.qctl.isSome
  | .cmn => if i < 4 then s.cmn.rxWait.any fun w => w.1 == i else s.cmn.conns.any fun e => !e.2.inits.isEmpty || !e.2.tgts.isEmpty || !e.2.unacked.isEmpty
  | .hrv => let st := s.get HRV.STATE; st == hrvHarvesting || st == hrvRestoring || st == hrvRehearsing
  | .seq => (let st := s.get SEQ.STATE; st == seqPoweringUp || st == seqPoweringDown) || s.flag SEQ.STEP_ACTIVE
  | .wdn => s.wdn.act.isSome || !s.wdn.requests.isEmpty
  | .mgt => s.mgt.update.isSome
  | .pwr => (List.range 64).any fun n => let st := s.get PWR.STATE 0 n; st == domEntering || st == domWaking || st == domResetting
  | .evf | .recd | .svc | .dbg => false

/-- QUIESCED of a page. -/
def State.quiesced (s : State) (p : Page) : Bool := s.resting p && (s.rd p HDR.QUIESCED == 1 || !s.busy p)

/-- A block that has come to rest stays quiesced until QUIESCE = 0: commands it takes meanwhile do not end it. -/
def State.quiesceLatch (s : State) (p : Page) : State := if s.resting p && !s.busy p then s.wr p HDR.QUIESCED 1 else s

end Sys2Proof.Machine
end

