-- ==== Sys2Proof/Machine/NvsOps.lean ====
section
/-! DEFINITION. The settings store (19): capture, STORE, RELOAD, slots. -/
namespace Sys2Proof.Machine

def nvsPage : Page := pg .nvs
def nvsDone : Nat := 1
def nvsRefused : Nat := 2
def nvsFailed : Nat := 3

def State.nvsResult (s : State) (r : Nat) : State := s.put NVS.RESULT r

/-- The live values of the RWP fields, and what the warden keeps in the other slots, as one image (R577, Table 19-1). -/
def State.capture (s : State) : Settings :=
  { s.nvs.image with
    rwp := s.regs.filter fun e => match fldOfKey e.1 with | some (_, f, _) => f.acc == .rwp | none => false,
    rows := s.seq.rows, pci := (s.hp.bar0Log, s.hp.subId), snsCfg := s.seq.snsCfg, tempCfg := s.seq.tempCfg, pairId := s.twn.pairId,
    bootCnt := s.wdn.bootCnt, keyCtr := s.wdn.keyCtr }

/-- A STORE begins: slot 0x01 takes the live fields, the image goes to the bank not in use (R577). -/
def State.storeBegin (s : State) : State :=
  let x := s.capture
  { (s.put NVS.BUSY 1).put NVS.PENDING 0 with nvs := { s.nvs with image := x, storing := some x } }

/-- A STORE runs, is refused while only one bank is OK, or waits for a token (R581, R582). -/
def State.storeRun (s : State) : State :=
  let ok := s.get NVS.BANK_OK
  if ok = 1 || ok = 2 then ((s.put NVS.PENDING 0).nvsResult nvsFailed).blkErr nvsPage 18 6
  else if s.get NVS.TOKENS = 0 then s.put NVS.PENDING 1
  else (s.dec NVS.TOKENS).storeBegin

/-- A pending STORE starts at the freeze of a harvest, whatever the tokens (Table 19-2). -/
def State.storeFreeze (s : State) : State := if s.flag NVS.PENDING then (s.dec NVS.TOKENS).storeBegin else s

/-- The STORE in progress ends (R577). -/
def State.storeEnd (s : State) (readback : Bool) : State :=
  match s.nvs.storing with
  | none => s
  | some x =>
    let b := s.get NVS.BANK_IN_USE
    let t := 1 - b
    let seq := (s.get NVS.SEQ_IN_USE + 1) % 2 ^ 32
    let bank : Option Bank := if readback then some { seq := seq, image := x } else none
    let s : State := { s.put NVS.BUSY 0 with nvs := { s.nvs with storing := none, bankA := if t = 0 then bank else s.nvs.bankA, bankB := if t = 1 then bank else s.nvs.bankB } }
    let cnt := if t = 0 then NVS.STORES_A else NVS.STORES_B
    let s := s.inc cnt
    let s := if s.get cnt = 1000001 then s.blkErr nvsPage 20 4 else s
    let s := s.put NVS.BANK_OK (setBits (s.get NVS.BANK_OK) (1 - t) 1 (b2n readback))
    if readback then ((s.put NVS.BANK_IN_USE t).put NVS.SEQ_IN_USE seq).nvsResult nvsDone
    else s.nvsResult nvsFailed

/-- Every RWP field of every page, with the settings of SEQ's sense and temperature inputs. -/
def rwpSlots : List (Page × Fld × Nat) :=
  allPages.flatMap fun p => ((pageFields p).filter fun f => f.acc == .rwp).flatMap fun f => (List.range f.cnt).map fun i => (p, f, i)

/-- How many settings SEQ's page holds behind its index registers (R574): GAIN and OFFSET of 67 inputs, FAULT_C, WARN_C and TEMP_SHUT of 16, of which one each stands in its page. -/
def seqWindowed : Nat := 66 * 2 + 15 * 3

/-- RELOAD (R578): the bank in use becomes the settings image, RWP fields take its values; non-stageable ones of a block not quiesced keep theirs and are counted. -/
def State.reload (s : State) : State :=
  let bank := if s.get NVS.BANK_IN_USE = 0 then s.nvs.bankA else s.nvs.bankB
  match bank with
  | none => s.nvsResult nvsFailed
  | some x =>
    let s : State := { s with nvs.image := x.image }
    let skip (p : Page) (f : Fld) : Bool := !f.stage && !s.quiesced p
    let s' := rwpSlots.foldl (fun t e =>
      let (p, f, i) := e
      if skip p f then t else t.liveSet p f i ((tget x.image.rwp (f.key p i)).getD (f.resetAt s.unit i))) s
    let n := (rwpSlots.filter fun e => skip e.1 e.2.1).length
    let rest := s.quiesced seqPage
    let s' : State := if rest then { s' with seq := { s'.seq with rows := x.image.rows, snsCfg := x.image.snsCfg, tempCfg := x.image.tempCfg } } else s'
    (s'.put NVS.RELOAD_SKIP (n + if rest then 0 else seqWindowed)).nvsResult nvsDone

/-! ## Slots (Table 19-1) -/

/-- Limit of a slot in bytes; none: not listed. -/
def slotLimit (id : Nat) : Option Nat :=
  if id = 0 then some 4096 else if id = 1 then some (256 * 1024) else if id = 2 then some (768 * 1024) else if id = 3 then some (16 * 1024)
  else if id = 4 then some 4096 else if id = 5 then some (64 * 1024) else if id = 6 then some 4096 else if id = 7 then some 4096
  else if 0x10 ≤ id && id ≤ 0x1F then some (32 * 1024) else none

/-- Bytes that the slots written by SLOT_WRITE take. -/
def Settings.used (x : Settings) : Nat := (x.raw.map fun e => e.2.length).foldl (· + ·) 0

/-- The directory and slot 0x01 are counted at their limits. -/
def fixedSlots : Nat := 260 * 1024

/-- SLOT_WRITE of bytes into a slot of the image (R579); what the training images and the listed rows in slots 0x02 and 0x03 say is read from them (log entry 74). -/
def State.slotWrite (s : State) (id : Nat) (bytes : List Byte) : State :=
  let refuse := s.nvsResult nvsRefused
  match slotLimit id with
  | none => refuse
  | some m =>
    let other := (({ s.nvs.image with raw := tdel s.nvs.image.raw id } : Settings).used)
    if id ≤ 1 || m < bytes.length || 2040 * 1024 < fixedSlots + other + bytes.length then refuse
    else
      let x : Settings := { s.nvs.image with raw := tset s.nvs.image.raw id bytes }
      let x := if id = 2 then { x with train := (List.range 12).filterMap fun c => (Config.trainSlot bytes c).map fun t => (c, t) } else if id = 3 then { x with ppr := Config.pprSlot bytes } else x
      { s with nvs.image := x }.nvsResult nvsDone

/-- SLOT_ERASE (R579): the slot, and what the warden keeps in it. -/
def State.slotErase (s : State) (id : Nat) : State :=
  if id ≤ 1 || (slotLimit id).isNone then s.nvsResult nvsRefused
  else
    let x := { s.nvs.image with raw := tdel s.nvs.image.raw id }
    let x := if id = 4 then { x with marks := [], active := [] } else if id = 5 then { x with keys := [] } else if id = 6 then { x with pairId := none }
      else if id = 7 then { x with dev := none } else if id = 2 then { x with train := [] } else if id = 3 then { x with ppr := [] } else x
    { s with nvs.image := x }.nvsResult nvsDone

/-! ## Cold reset (R580, R585) -/

/-- NVS loads the valid bank with the higher sequence, and tells of banks that are not valid (R580). -/
def State.nvsLoad (s : State) : State :=
  let use (s : State) (b : Nat) (x : Bank) : State :=
    { (s.put NVS.BANK_IN_USE b).put NVS.SEQ_IN_USE x.seq with nvs.image := x.image }
  let s := s.put NVS.BANK_OK 3
  match s.nvs.bankA, s.nvs.bankB with
  | some a, some b => if (b.seq + 2 ^ 32 - a.seq) % 2 ^ 32 < 2 ^ 31 && a.seq != b.seq then use s 1 b else use s 0 a
  | some a, none => ((use s 0 a).putBit NVS.BANK_OK 0 false).misc nvsPage 5
  | none, some b => ((use s 1 b).putBit NVS.BANK_OK 1 false).misc nvsPage 5
  | none, none => ({ s.put NVS.BANK_OK 0 with nvs.image := settingsInit }).blkErr nvsPage 17 6

end Sys2Proof.Machine
end

