-- ==== Sys2Proof/Machine/Recorder.lean ====
section
/-! DEFINITION. The commands of the event fabric and the recorder (16). -/
namespace Sys2Proof.Machine

def evfPage : Page := pg .evf
def recPage : Page := pg .recd

/-! ## Credits (R511) -/

/-- The summary of a source's folded occurrences counts in the window of its code (R511, R518). -/
def State.foldMessage (s : State) (src : Nat) (f : Fold) : State :=
  let code := src / 128 * 256 + src % 128
  let s := (f.insts.filter (· != f.lastInst)).foldl (fun s i => s.foldCode code 0 f.first f.last i f.sev f.payload) s
  (s.foldCode code f.count f.first f.last f.lastInst f.sev f.payload).inc EVF.SRC_FOLD

/-- R511: a credit returns to its block, normal or reserved; the source's fold count is sent as one message. -/
def execCreditReturn (src : Nat) (rsv : Bool) (s : State) : Res :=
  let c := src / 128
  let (n, r) := (tget s.evf.credits c).getD (0, 0)
  let left := if rsv then (n, r - 1) else (n - 1, r)
  let s : State := { s with evf.credits := if left = (0, 0) then tdel s.evf.credits c else tset s.evf.credits c left }
  match tget s.evf.folds src with
  | some f => .next (({ s with evf.folds := tdel s.evf.folds src } : State).foldMessage src f)
  | none => .next s

/-! ## Spilling (R515, R516) -/

/-- Records of the ring that are not spilled. -/
def State.waitingRecords (s : State) : List Record := (s.recd.slots.filter fun e => !e.2.free).map fun e => e.2.entry

/-- How far a sequence number lies above another, modulo 2^32. -/
def seqDist (a b : Nat) : Nat := (b + 2 ^ 32 - a % 2 ^ 32) % 2 ^ 32

/-- SPILLED_SEQ: below the oldest record that waits, else HEAD_SEQ. -/
def State.spilledSeq (s : State) : Nat :=
  let h := s.get REC.HEAD_SEQ
  let back := s.waitingRecords.foldl (fun n r => max n (seqDist r.seq h + 1)) 0
  (h + 2 ^ 32 - back) % 2 ^ 32

/-- RSV_USED follows the reserved slots that are not free. -/
def State.rsvCount (s : State) : State := s.put REC.RSV_USED (s.recd.slots.filter fun e => generalSlots ≤ e.1 && !e.2.free).length

/-- Every waiting record goes to the spill ring, in sequence order; a full ring loses its oldest page (R515). -/
def State.spillAll (s : State) : State :=
  let w := s.waitingRecords
  if w.isEmpty then s
  else
    let h := s.get REC.HEAD_SEQ
    let sorted := (w.foldl (fun t r => tset t (2 ^ 32 - seqDist r.seq h) r) ([] : Table Record)).map Prod.snd
    let ring := s.recd.spill ++ sorted
    let beyond := ring.length - 2 ^ 30
    let s : State := { s with recd := { s.recd with
        spill := ring.drop ((beyond + 255) / 256 * 256), slots := tmap s.recd.slots fun _ x => { x with free := true }, spilledOnce := true } }
    s.rsvCount

/-- Whether spilling is stopped: FLM is INIT, REPLAY or FAILED (R515). -/
def State.spillStopped (s : State) : Bool := s.flmState == flmInit || s.flmState == flmReplay || s.flmState == flmFailed

/-- R515: records are spilled, or the stop is set and recorded once. -/
def execSpill (s : State) : Res :=
  if s.spillStopped then .next (if bit (s.rd recPage HDR.ERR_STAT) 16 then s else s.blkErr recPage 16 5)
  else .next s.spillAll

/-! ## Windows (R517, R518, R522) -/

/-- The payload of a summary record (Table 16-7). -/
def Fold.summary (f : Fold) : List Byte :=
  le 4 f.count ++ le 8 f.first ++ le 8 f.last ++ le 1 f.lastInst ++ le 1 (min 255 f.insts.length) ++ padTo 22 f.payload

/-- R518: a window of the limiters ends: one summary record for each code with a count. The end is REC's safe point (R525). -/
def execRateWindowEnd (s : State) : Res :=
  let ls := s.recd.limiters
  let s : State := { s with recd.limiters := [] }
  let s := ls.foldl (fun s e => match e.2.fold with
    | some f => if f.count = 0 then s else s.writeRecord State.errAlarm e.1 f.lastInst f.sev f.summary false true
    | none => s) s
  .next (s.safePoint recPage)

/-- The aggregate alarm of an entry whose window ends. -/
def State.aggregate (s : State) (e : FwdEntry) (all : Bool) : State :=
  if e.count = 0 then s else s.postAlarm ⟨e.code, e.inst, e.sev, true, all, e.count, e.first, e.last, e.firstSeq, e.payload⟩

/-- R522: a window of the forwarder ends, of an entry by code and instance or of the device-wide entry. -/
def execAlarmWindowEnd (key : Option (BitVec 16 × BitVec 8)) (s : State) : Res :=
  match key with
  | some (c, i) =>
    (match s.recd.fwd.find? fun e => e.code == c.toNat && e.inst == i.toNat with
     | some e => .next ((({ s with recd.fwd := s.recd.fwd.filter fun e => !(e.code == c.toNat && e.inst == i.toNat) } : State).aggregate e false).safePoint recPage)
     | none => .next s)
  | none =>
    match s.recd.fwdAll with
    | some e => .next ((({ s with recd.fwdAll := none } : State).aggregate e true).safePoint recPage)
    | none => .next s

/-- R592: alarms not acknowledged are sent again. -/
def execAlarmRetry (s : State) : Res :=
  .next (s.recd.sent.foldl (fun s a => [0, 1].foldl (fun s c => if s.flag MGT.VALID 0 c then (s.inc MGT.ALARM_SENT).emit (.alarm c a.corr a.alarm) else s) s) s)

/-! ## Registers with an effect -/

/-- Write the channel entry of CHAN_IDX (R506): channel 0 is fixed. -/
def State.chanDataSet (s : State) (v : Nat) : State :=
  let c := s.get EVF.CHAN_IDX
  let v := bits v 21 11 * 2 ^ 21 + bits v 0 11
  if c = 0 then s
  else ({ s with evf.chans := if v = 0 then tdel s.evf.chans c else tset s.evf.chans c v }).alertPins

/-- Write the route entry of ROUTE_IDX (R505). -/
def State.routeDataSet (s : State) (v : Nat) : State :=
  let i := s.get EVF.ROUTE_IDX
  let v := bits v 14 2 * 2 ^ 14 + bits v 0 9
  { s with evf.routes := if v = 0 then tdel s.evf.routes i else tset s.evf.routes i v }

/-- Acknowledge a channel (R508). -/
def State.chanAck (s : State) (c : Nat) : State := (s.setPending c 0).alertPins

/-- ALERT_FAULT bits cleared: the pins follow R510 again. -/
def State.alertFaultClear (s : State) (mask : Nat) : State :=
  ([0, 1].foldl (fun s k => if bit mask k then s.putBit EVF.ALERT_FAULT k false else s) s).alertPins

/-- R510: a driven ALERT_Nk reads high for 10 samples: released, until its fault is cleared. -/
def execAlertReadbackFault (k : Fin 2) (s : State) : Res :=
  if s.bitOf EVF.ALERT_DRV k.val then
    .next ((((s.putBit EVF.ALERT_DRV k.val false).pinOut "ALERT_N" k.val none).putBit EVF.ALERT_FAULT k.val true).blkErr evfPage 16 5)
  else .next s

/-- Clear records up to a sequence number (R521). -/
def State.clearUpto (s : State) (req : Requester) (u : Nat) : State :=
  let c := s.get REC.CLEARED_SEQ
  let span := seqDist c u
  if seqDist c (s.get REC.HEAD_SEQ) < span then s
  else
    let hit (r : Record) : Bool := 0 < seqDist c r.seq && seqDist c r.seq ≤ span
    let n := (s.waitingRecords.filter hit).length + (s.recd.spill.filter hit).length
    let s : State := { s with recd := { s.recd with slots := tfilter s.recd.slots fun _ x => !hit x.entry, spill := s.recd.spill.filter fun r => !hit r } }
    ((s.put REC.CLEARED_SEQ u).rsvCount).occur recPage 32 5 (le 4 u ++ le 1 req.code ++ le 4 n)

end Sys2Proof.Machine
end

