-- ==== Sys2Proof/Machine/Hrv.lean ====
section
/-! DEFINITION. Harvest, tide mark, step-load tests, rehearsals and restore (11). -/
namespace Sys2Proof.Machine

def hrvPage : Page := pg .hrv

/-! ## The tide mark (R358, R359) -/

/-- BIND values (Table 11-4). -/
def bindCfg : Nat := 0
def bindEnergy : Nat := 1
def bindReserve : Nat := 2
def bindZero : Nat := 3

/-- RATE_MBPS (R358). -/
def State.harvestRate (s : State) : Nat :=
  let r := min 96000 (s.ftlGet FTL.RESERVE_LUNS * 125)
  match s.hrv.rate with | some x => min r x | none => r

/-- energy_mib of R358 in whole numbers: N / D joules after the margin, from capacitance (mF), voltage (mV), V_MIN_MV, power (W), ESR (µΩ), margin (%) and rate (MB/s). -/
def energyMib (c v vmin p esr margin rate : Nat) : Nat :=
  let vend := vmin * vmin + p * esr
  let n := c * (v * v * (vmin * vmin) - vend * vend) * (100 - margin)
  let d := 200000000000 * (vmin * vmin)
  (2 * n - d * p) * rate * 1000000 / (2 * d * p * 2 ^ 20)

/-- energy_mib now. With V_MIN_MV or the power 0 the formula divides by 0: a free value (log entry 24). -/
def State.energyNow (s : State) : Nat :=
  let p := if s.hrv.rehearsed then s.get HRV.P_HARV_W else s.get HRV.P_DEFAULT_W
  let vmin := s.get HRV.V_MIN_MV
  if p = 0 || vmin = 0 then Config.freeNat s.free
  else energyMib (s.get HRV.BANK_C_MF) (s.get HRV.BANK_V_MV) vmin p (s.get HRV.BANK_ESR_UOHM) (s.get HRV.E_MARGIN_PCT) s.harvestRate

/-- tide_mib and BIND of one computation. -/
def State.tideCompute (s : State) : Nat × Nat :=
  if s.flmState = flmReadOnly || !s.hrv.stepValid then (0, bindZero)
  else
    let cfg := min (s.get HRV.HRV_TIDE_CFG) (s.get TIER.MIRROR_FRAMES / 16)
    let e := s.energyNow
    let r := s.ftlGet FTL.RESERVE_READY_MIB * 15 / 16
    let t := min cfg (min e r)
    (t, if t = cfg then bindCfg else if t = e then bindEnergy else bindReserve)

/-- A value takes effect (R359): a lower one at once, a higher one as the lowest of ten. The partner is told. -/
def State.tideTick (s : State) : State :=
  let s := s.safePoint hrvPage
  let s := s.put HRV.RATE_MBPS s.harvestRate
  let (t, b) := s.tideCompute
  let free := s.free + 1
  let hist := (s.hrv.hist ++ [(t, b)]).drop (s.hrv.hist.length - 9)
  let s : State := { s with hrv.hist := hist, free := free }
  let now := s.get HRV.HRV_TIDE_NOW / 256
  let low := hist.foldl (fun (a : Nat × Nat) x => if x.1 < a.1 then x else a) (t, b)
  let s := if t ≤ now then (s.put HRV.HRV_TIDE_NOW (t * 256)).put HRV.BIND b
    else if hist.length = 10 && now < low.1 then (s.put HRV.HRV_TIDE_NOW (low.1 * 256)).put HRV.BIND low.2
    else s
  s.twinSend 0x07 0 0 (s.get HRV.HRV_TIDE_NOW) 0 []

/-! ## The harvest set (R353-R355, R362) -/

/-- Poison for every sector of a unit. -/
def poisonUnit : Table SectorVal := (List.range 64).map fun k => (k, poisonSec)

/-- The brine of this SK960 (R353): DIRTY units of class M and D, and twin brine. -/
def State.brineSet (s : State) : List HUnit :=
  let loc := s.tier.blocks.flatMap fun e => (e.2.units.filter fun u => u.2.dirty && u.2.cls ≤ 1).map fun u =>
    let w := e.1 * 16 + u.1
    let rep := s.twn.repair.contains w
    { tun := w, stamp := u.2.stamp, grp := s.pbnGroup e.1, region := e.2.region, cls := u.2.cls,
      vals := if rep then poisonUnit else s.unitVals w, twin := false, repair := rep, blk := 0 : HUnit }
  let twin := (s.twn.mirror.filter fun e => e.2.dirty).map fun e =>
    { tun := e.1, stamp := e.2.stamp, grp := e.2.grp, region := e.2.region, cls := e.2.cls, vals := e.2.vals, twin := true, repair := false, blk := 0 : HUnit }
  loc ++ twin

/-- The reserve block that unit i of a write-out goes to: units are striped over the reserve LUNs (R353). -/
def reserveFor (byLun : List (List Nat)) (perBlk i : Nat) : Option Nat :=
  (byLun[i % max 1 byLun.length]?).bind fun ks => ks[i / max 1 byLun.length / max 1 perBlk]?

/-- Reserve blocks by LUN. -/
def State.reserveByLun (s : State) : List (List Nat) :=
  let ks := s.reserveBlks
  (ascending (ks.map blkGlun)).map fun g => ks.filter fun k => blkGlun k == g

/-- Place units in reserve blocks; those for which none is left are not written. -/
def State.placeUnits (s : State) (us : List HUnit) : List HUnit :=
  let by' := s.reserveByLun
  (us.foldl (fun (a : List HUnit × Nat) u => match reserveFor by' (s.slcMib * 256) a.2 with
    | some k => (a.1 ++ [{ u with blk := k }], a.2 + 1)
    | none => a) (([] : List HUnit), 0)).1

/-- Reserve blocks take units: they hold a set until HRV releases them. -/
def State.useReserve (s : State) (ks : List Nat) : State :=
  ((ascending ks).foldl (fun s k => s.putBlk k { s.blk k with state := .reserveUsed }) s).reserveCount

/-- OPEN marker (R354): the set that this harvest writes; the sealed set before it stays to be restored with it (R362). -/
def State.openSet (s : State) : State :=
  let x : HSet := { seq := (s.hrv.fast + 1) % 2 ^ 32, units := [], isSealed := false, cause := s.get HRV.CAUSE, first := s.get HRV.FIRST_CAUSE, mib := 0 }
  let prior := match s.hrv.newest with | some y => if y.isSealed then some y else s.hrv.prior | none => s.hrv.prior
  { s with hrv := { s.hrv with newest := some x, prior := prior } }

/-- The write-out stops before the seal (R349, R357): the set is left with what had been written, any part of the brine. -/
def State.harvestStop (s : State) : State :=
  if s.get HRV.STATE ≠ hrvHarvesting || s.hrv.stopped || s.hrv.nothing then s
  else
    let s := if s.hrv.phase < 6 then s.openSet else s
    let us := s.placeUnits s.brineSet
    let n := us.length
    let kept := ((us.zip (List.range n)).filter fun x => Config.freeBool (s.free + x.2)).map Prod.fst
    let s : State := { s with free := s.free + n, hrv := { s.hrv with stopped := true, newest := s.hrv.newest.map fun x => { x with units := kept } } }
    s.useReserve (kept.map (·.blk))

/-! ## The steps of Table 11-2 -/

/-- Step 4 (R352): the partner harvests too and claims are kept, or they are released. -/
def State.harvest4 (s : State) : State :=
  if s.twn.peerHarvest then s
  else { (s.twinSend 0x0A 0 0 0 0xFFFF []).fenceAll with hrv.gaveUp := true }

/-- Step 5 (R566, R549, R126): links down, service clusters OFF, rails shed. -/
def State.harvest5 (s : State) : State :=
  let links := (List.range 8).flatMap fun p => (List.range 4).map fun k => (p, k)
  let s := links.foldl (fun s x => s.linkDown x.1 x.2) s
  let s := (List.range 4).foldl (fun s e => s.put CMP.LINK_UP 0 e) s
  let s := ((List.range 6).map (2 + ·)).foldl (fun s n => s.put PWR.STATE domOff 0 n) s
  ({ s with pwr.shed := [2, 3, 4, 5, 6, 7] } : State).shedRails

/-- Step 6 (R323, R354): raking stops, the OPEN marker is written. -/
def State.harvest6 (s : State) : State := if s.hrv.nothing || s.hrv.stopped then s.ftlStop else s.ftlStop.openSet

/-- The steps up to k that are not done yet. -/
def State.harvestTo (s : State) (k : Nat) : State :=
  if s.get HRV.STATE ≠ hrvHarvesting then s
  else
    let go (n : Nat) (f : State → State) (s : State) : State := if s.hrv.phase < n && n ≤ k then { f s with hrv.phase := n } else s
    go 6 State.harvest6 (go 5 State.harvest5 (go 4 State.harvest4 s))

/-- The steps that are due by time: step 4 at 20 µs, step 5 at 1 ms, step 6 at 5 ms after the trigger (R350). -/
def State.harvestTick (s : State) : State :=
  let dt := s.timeNs - s.hrv.t0
  if s.get HRV.STATE ≠ hrvHarvesting then s
  else if dt < 20000 then s
  else s.harvestTo (if dt < 1000000 then 4 else if dt < 5000000 then 5 else 6)

/-- A warm reset in progress is abandoned: DRAM leaves self-refresh with its restored training (Table 11-3). -/
def State.warmAbandon (s : State) : State :=
  (List.range 12).foldl (fun s c => if s.get DMC.STATE c = dmcSelfRefresh || s.get DMC.STATE c = dmcTraining then
    ({ s.dmcTrain c true with dmc.srWait := [] } : State).dmcReadied c else s) s

/-- Steps 1 to 3: HARVEST_BEGIN, Memory_Active 0, freeze, movers stopped at the end of MOVE, range operations, retraining, verify, tests stopped (R350, R351, R184); hosts are told (Table 4-7). Before Memory_Active nothing is written, but during a warm reset DRAM holds the brine and the harvest proceeds (Table 11-3). -/
def State.harvestBegin (s : State) (c : Nat) : State :=
  let warm := s.wdn.warm && s.hrv.restored && s.get HRV.STATE != hrvIncomplete
  let nothing := !s.hp.memoryActive && !warm
  let s := if warm then s.warmAbandon else s.sysSync
  let s := s.moduleEvent 1 "Harvest in progress"
  let s := s.twinSend 0x10 0 0 0 0 []
  let s := s.movesEnd fun _ => true
  let s := ((s.put HRV.STATE hrvHarvesting).put HRV.CAUSE (2 ^ c)).put HRV.FIRST_CAUSE c
  let s : State := { s with hp.memoryActive := false, hrv := { s.hrv with phase := 3, t0 := s.timeNs, gaveUp := false, nothing := nothing, stopped := false } }
  let s := (s.queuesOff fun _ _ => true).connsFree
  -- a slice in RET wakes, with the dirty lines it keeps (R256)
  let s := (List.range 16).foldl (fun s k => s.dataWake (26 + k)) s
  (((s.panAbort).retrainAbandon fun _ => true).stepAbort).clkAbort.actAbandon.storeFreeze

/-- R347, Table 11-3: a trigger is observed. -/
def State.harvestStart (s : State) (c : Nat) : State :=
  let st := s.get HRV.STATE
  if st = hrvHarvesting || st = hrvSealed then s.put HRV.CAUSE (setBits (s.get HRV.CAUSE) c 1 1) else s.harvestBegin c

/-- PWRFAIL_N falls: a step-load test ends in the same cycle (R573), and input is not good. -/
def execPwrfailNFall (s : State) : Res := .next { s.stepAbort with seq := { s.seq with pfHigh := false } }

/-- R347, R561, R604: PWRFAIL_N has been low for 2 µs: the good period is broken, and the harvest starts while PWRGOOD is high. Before PWRGOOD the device rails enabled so far are released. -/
def execPwrfail (s : State) : Res :=
  let s : State := { s with seq := { s.seq with pfHigh := false, goodSince := none } }
  if s.seq.pwrgood then .next (s.harvestStart 0)
  else .next { s with seq := { s.seq with devUp := none, devDown := if s.seq.devUp.isSome then some 0 else s.seq.devDown } }

/-- Step 7 and 8 (R353, R354, R516): the write-out is done, the records are spilled, the set is sealed. -/
def execHarvestWriteoutDone (s : State) : Res :=
  if s.get HRV.STATE ≠ hrvHarvesting then .next s
  else
    let s := s.harvestTo 6
    if s.hrv.stopped then .next s
    else if s.hrv.nothing then .next { (s.put HRV.STATE hrvSealed) with hrv.phase := 8 }
    else
      let brine := s.brineSet
      let us := s.placeUnits brine
      if us.length < brine.length then .next s.harvestStop
      else
        let mib := (us.length + 255) / 256
        let s := (s.useReserve (us.map (·.blk))).spillAll
        let seq := (s.hrv.fast + 1) % 2 ^ 32
        let s : State := { s with hrv := { s.hrv with
            phase := 8, fast := seq,
            newest := s.hrv.newest.map fun x => { x with units := us, isSealed := true, cause := s.get HRV.CAUSE, first := s.get HRV.FIRST_CAUSE, mib := mib } } }
        .next ((((s.put HRV.HARVEST_SEQ seq).put HRV.LAST_HARVEST_MIB mib).put HRV.STATE hrvSealed).fastWrote 1)

/-- R357: the bank falls below V_MIN_MV before the seal completes. -/
def execBankExhausted (s : State) : Res := .next s.harvestStop

/-! ## Step-load tests (R360, R572, R573) -/

/-- R360: the period of the step-load test ends. -/
def execSteptestPeriod (s : State) : Res := .next s.stepStart

/-- R360, R572, R573: a step-load test ends. The result is valid when the fitted fall is at least 20 mV and the residual at most 5 mV; worse values apply at once, better ones up to 5 %. -/
def execSteptestDone (cMf esr : BitVec 32) (fallMv residMv : Nat) (s : State) : Res :=
  if !s.flag SEQ.STEP_ACTIVE then .next s
  else
    let s := s.stepAbort.inc SEQ.STEP_CNT
    if 20 ≤ fallMv && residMv ≤ 5 then
      let c := s.get HRV.BANK_C_MF
      let e := s.get HRV.BANK_ESR_UOHM
      let first := c = 0 && e = 0
      let c' := if first then cMf.toNat else min cMf.toNat (c * 105 / 100)
      let e' := if first then esr.toNat else max esr.toNat ((e * 95 + 99) / 100)
      let s := (s.put SEQ.LAST_C_MF cMf.toNat).put SEQ.LAST_ESR_UOHM esr.toNat
      let s := (s.put HRV.BANK_C_MF c').put HRV.BANK_ESR_UOHM e'
      .next { s with hrv := { s.hrv with stepValid := true, stepFails := 0 } }
    else
      let n := s.hrv.stepFails + 1
      let s : State := { s.inc SEQ.STEP_FAIL_CNT with hrv := { s.hrv with stepFails := n, stepValid := s.hrv.stepValid && n < 2 } }
      if n = 2 then .next (((s.blkErr hrvPage 16 5).put HRV.HRV_TIDE_NOW 0).put HRV.BIND bindZero)
      else .next (s.misc hrvPage 5)

/-! ## Rehearsals (R360, R361) -/

/-- A rehearsal starts: 500 ms at the full rate take reserve blocks. -/
def State.rehearse (s : State) : State :=
  if s.get HRV.STATE ≠ hrvNormal then s
  else
    let need := (s.harvestRate * 500000 + s.slcMib * 2 ^ 20 - 1) / max 1 (s.slcMib * 2 ^ 20)
    let by' := s.reserveByLun
    let ks := (List.range need).filterMap (reserveFor by' 1)
    let s := s.stepAbort.put HRV.STATE hrvRehearsing
    ({ s with hrv.rehBlks := ks } : State).useReserve ks

/-- The blocks a rehearsal wrote are erased: they are reserve again. -/
def State.rehearseErase (s : State) : State :=
  let s := s.hrv.rehBlks.foldl (fun s k => if (s.blk k).state = .reserveUsed then s.slcErased k .reserve else s) s
  ({ s with hrv.rehBlks := [] } : State).reserveCount

/-- R360: the rehearsal period ends. -/
def execRehearsePeriod (s : State) : Res := .next s.rehearse

/-- Whether b lies within 5 % of a. -/
def within5 (a b : Nat) : Bool := 95 * a ≤ 100 * b && 100 * b ≤ 105 * a

/-- A result that is worse applies at once; a better one when the next rehearsal confirms it within 5 % (R361). Gives the value in use and the one that waits. -/
def rehearsed (worse : Nat → Nat → Bool) (use new : Nat) (wait : Option Nat) : Nat × Option Nat :=
  if worse new use then (new, none)
  else if new = use then (use, none)
  else match wait with
    | some w => if within5 w new then (w, if new = w then none else some new) else (use, some new)
    | none => (use, some new)

/-- R360, R361: a rehearsal ends. A KEEP row without current sense prevents a result (R567). -/
def execRehearsalDone (powerMw : Nat) (rate : BitVec 32) (s : State) : Res :=
  if s.get HRV.STATE ≠ hrvRehearsing then .next s
  else
    let full := s.hrv.rehBlks.length
    let s := (s.put HRV.STATE hrvNormal).rehearseErase
    let blind := s.validRails.any fun n => rowKeep (s.row n) && !(rowIEn (s.row n) && rowVEn (s.row n))
    if blind || full = 0 then .next s
    else
      let p := (powerMw * 100 + s.get HRV.HOLDUP_EFF_PCT * 1000 - 1) / max 1 (s.get HRV.HOLDUP_EFF_PCT * 1000)
      let r := rate.toNat
      let target := min 96000 (s.ftlGet FTL.RESERVE_LUNS * 125)
      let s : State :=
        if !s.hrv.rehearsed then { (s.put HRV.P_HARV_W p) with hrv := { s.hrv with rehearsed := true, rate := some r } }
        else
          let (p', wp) := rehearsed (fun a b => b < a) (s.get HRV.P_HARV_W) p s.hrv.waitPower
          let (r', wr) := rehearsed (fun a b => a < b) (s.hrv.rate.getD r) r s.hrv.waitRate
          { (s.put HRV.P_HARV_W p') with hrv := { s.hrv with rate := some (if r < target then min r r' else r'), waitPower := wp, waitRate := wr } }
      .next (if r < target then s.blkErr hrvPage 18 5 else s)

/-! ## Restore (R362-R366) -/

/-- MiB of the last harvest's set, and the restore bound in ms (R364, R118): 3 s where none has been. -/
def State.restoreMib (s : State) : Nat := match s.hrv.newest with | some x => x.mib | none => 0
def State.restoreBound (s : State) : Nat := min 23600 ((s.restoreMib * 2 ^ 20 + 79999999) / 80000000 + 3000)

/-- Restore begins (15, R364). -/
def State.restoreStart (s : State) : State :=
  let s := match s.hrv.newest with | some x => (s.put HRV.CAUSE x.cause).put HRV.FIRST_CAUSE x.first | none => s
  let s := ((s.put HRV.STATE hrvRestoring).put HRV.RESTORE_BOUND_MS s.restoreBound).put HRV.HARVEST_SEQ s.hrv.fast
  s.put HRV.LAST_HARVEST_MIB s.restoreMib

/-- The units to restore (R362): those of the restore set, and those of the sealed set before it in blocks not released; of one TUN the higher stamp (R363). -/
def State.restoreUnits (s : State) : Table HUnit :=
  let live (x : HSet) : List HUnit := x.units.filter fun u => (s.blk u.blk).state == .reserveUsed
  let us := (match s.hrv.prior with | some x => live x | none => []) ++ (match s.hrv.newest with | some x => live x | none => [])
  us.foldl (fun t u =>
    let k := u.tun * 2 + b2n u.twin
    match tget t k with
    | some v => if u.stamp < v.stamp then t else tset t k u
    | none => tset t k u) []

/-- Restore one unit (R363): DIRTY in a RESIDENT block of T1, or twin brine; one that cannot be read is poison and waits for repair. -/
def State.restoreUnit (s : State) (u : HUnit) (bad : Bool) : State :=
  let vals := if bad then poisonUnit else u.vals
  let p := u.tun / 16
  let k := u.tun % 16
  let s : State := if bad || u.repair then { s with twn.repair := if s.twn.repair.contains u.tun then s.twn.repair else s.twn.repair ++ [u.tun] } else s
  if u.twin then
    { s with twn.mirror := tset s.twn.mirror u.tun { stamp := u.stamp, grp := u.grp, region := u.region, cls := u.cls, vals := vals, wb := none, dirty := true } }
  else
    let s := match s.block p with
      | some _ => s
      | none =>
        if s.isSys p then s.putBlock p sysBlock
        else
          let t := (s.regionAt u.region).tenant
          let q := s.quota t
          let s := s.putQuota t { q with t1Used := q.t1Used + 1 }
          s.putBlock p { state := .resident, leaveReq := false, charge := some t, pins := [], units := [], filling := [], region := u.region, used := false, frame := s.pickFrame p }
    match s.block p with
    | some b =>
      let s := s.putBlock p { b with units := tset b.units k { present := true, dirty := true, stamp := u.stamp, wb := none, failed := false, cls := u.cls } }
      (List.range 64).foldl (fun s i => s.frameWrite (u.tun * 64 + i) ((tget vals i).getD zeroSec) 15) s
    | none => s

/-- R363, R365: restore ends; `bad` names the units whose read fails. -/
def execRestoreDone (bad : List Nat) (s : State) : Res :=
  if s.get HRV.STATE ≠ hrvRestoring then .next s
  else
    let us := s.restoreUnits
    let s := us.foldl (fun s e => s.restoreUnit e.2 (bad.contains e.2.tun)) s
    let n := (us.filter fun e => e.2.repair || bad.contains e.2.tun).length
    let s := s.put HRV.RESTORE_BAD_UNITS n
    let s := if s.solo then (us.filter fun e => e.2.repair || bad.contains e.2.tun).foldl (fun s e => s.misc hrvPage 6 (le 8 e.2.tun)) s else s
    let s : State := { s with hrv.restored := true }
    match s.hrv.newest with
    | some x =>
      if x.isSealed then .next { (s.put HRV.STATE hrvNormal) with hp.memoryActive := true }
      else .next ((s.put HRV.STATE hrvIncomplete).blkErr hrvPage 17 7)
    | none => .next { (s.put HRV.STATE hrvNormal) with hp.memoryActive := true }

/-- R366: a reserve block of the restore set is released to FLM once every unit it holds is clean or superseded; FLM erases it. -/
def execReserveBlockRelease (glun : BitVec 12) (block : BitVec 16) (s : State) : Res :=
  let k := blkKey glun.toNat block.toNat
  let held (x : Option HSet) : Bool := match x with | some x => x.units.any fun u => u.blk == k && s.stillBrine u | none => false
  if (s.blk k).state ≠ .reserveUsed || s.hrv.rehBlks.contains k || !s.hrv.restored || s.frozen || held s.hrv.newest || held s.hrv.prior then .next s
  else
    let drop (x : HSet) : HSet := { x with units := x.units.filter fun u => u.blk != k }
    let s : State := { s with hrv := { s.hrv with newest := s.hrv.newest.map drop, prior := s.hrv.prior.map drop } }
    .next (s.slcErased k .reserve).reserveCount

/-- ACCEPT_LOSS (R365). -/
def State.acceptLoss (s : State) : State :=
  if s.solo && s.get HRV.STATE = hrvIncomplete then { (s.put HRV.STATE hrvNormal) with hp.memoryActive := true }.misc hrvPage 7 else s

end Sys2Proof.Machine
end

