-- ==== Sys2Proof/Machine/ResetOps.lean ====
section
/-! DEFINITION. The resets (02, 11, 15, 17): what a cold, warm and domain reset leave; resume. -/
namespace Sys2Proof.Machine

/-! ## Register fields (Table 2-5) -/

inductive ResetKind where
  | cold | warm | domain
deriving DecidableEq, Repr

/-- Read-only fields that show what a cold reset does not touch: the rails, references, banks, straps and the non-volatile counts. -/
def coldKeeps (f : Fld) : Bool :=
  match f.blk with
  | .seq => true
  | .nvs => [NVS.BANK_IN_USE, NVS.BANK_OK, NVS.SEQ_IN_USE, NVS.STORES_A, NVS.STORES_B].contains f
  | .clk => [CLK.REF_A_OK, CLK.REF_B_OK, CLK.REF_IN_USE, CLK.AON_SRC].contains f
  | .recd => [REC.HEAD_SEQ, REC.CLEARED_SEQ].contains f
  | .flm => f.p0 == 48 && f != FTL.FLM_STATE
  | .hp => [HP.BIFURC, HP.MGMT_PF].contains f
  | .twn => f == TWN.ALIVE_IN_OK
  | .hrv => f == HRV.HARVEST_SEQ
  | _ => false

/-- Whether a field keeps its value across a reset (R51, R49). Of the read-only fields a warm reset ends what STAGE_STAT and QUIESCED show: ARM and QUIESCE read 0 after it. -/
def keeps (kind : ResetKind) (f : Fld) : Bool :=
  let hdr := f.off < 0x100
  match kind with
  | .cold => !hdr && f.acc == .ro && coldKeeps f
  | .domain => hdr || f.acc == .ro || f.acc == .rws || f.acc == .rwl
  | .warm =>
    match f.acc with
    | .ro => f != HDR.STAGE_STAT && f != HDR.QUIESCED
    | .rws | .rwl => true
    | .w1s => f == HDR.LOCK
    | .rw1c => f == HDR.ERR_STAT
    | .rw | .rwp | .wo => false

/-- The fields of the pages hit take the value the reset gives them; RWP fields stand at their reset value until they are loaded. -/
def State.resetRegs (s : State) (kind : ResetKind) (hit : Page → Bool) : State :=
  { s with regs := s.regs.filter fun e => match fldOfKey e.1 with
      | some (p, f, _) => !hit p || keeps kind f
      | none => true }

/-! ## What every reset ends -/

/-- ALIVE_OUT is held low (R370). -/
def State.aliveStop (s : State) : State :=
  if s.wdn.aliveOut then ({ s with wdn.aliveOut := false }).pinOut "ALIVE_OUT" 0 (some false) else s

/-- CLAIM_W is let go. -/
def State.claimRelease (s : State) : State :=
  if s.flag TWN.CLAIM_W_DRV then (s.put TWN.CLAIM_W_DRV 0).pinOut "CLAIM_W" 0 none else s

/-- The clock outputs stop: EN reads 0 after the reset (R539). -/
def State.ckoutStop (s : State) : State :=
  (List.range 4).foldl (fun s k => if s.bitOf CLK.CKOUT_ON k then (s.putBit CLK.CKOUT_ON k false).pinOut "CKOUT" k none else s) s

/-! ## Cold reset -/

/-- The internal cold reset (R51, Table 2-5, Table 15-3, R137, R203, R229, R259, R443, R516): what is not held in flash, fuses, the settings store or PD0's rail sequencer is lost. The boot starts at step 1. -/
def State.coldReset (s : State) : State :=
  let head := s.spilledSeq
  let panRuns := s.pan.op.isSome
  let s := ((((s.movesEnd fun _ => true).ftlLost.aliveStop.claimRelease.stepAbort).sweepDue).panAbort).panLose (fun _ => true) 0 0
  -- a range operation that the reset ends keeps its RESULT and its counts (R251)
  let kept := if panRuns then [PAN.RESULT, PAN.LOCKS_RELEASED, PAN.LINES_WRITTEN, PAN.LINES_DISCARDED, PAN.LOCK_REFUSED].map fun f => (f, s.get f) else []
  let s := [0, 1].foldl (fun s k => if s.bitOf EVF.ALERT_DRV k then s.pinOut "ALERT_N" k none else s) s
  let s := s.ckoutStop
  let s := (List.range 48).foldl (fun s c => if s.get FLC.STATE c = chAbsent then s else s.wpN c false) s
  let s := s.resetRegs .cold fun _ => true
  let s : State := { s with
    ctl := ctlInit, evf := evfInit,
    recd := { recInit with spill := s.recd.spill },
    xlt := { s.xlt with caches := [], fills := [], invalBusy := none, invalQueue := [], invalRetry := [] },
    hp := { hpInit with lds := tmap s.hp.lds fun _ x => { noLd with allocUnits := x.allocUnits, dcRegions := x.dcRegions } },
    qe := { qeInit with queues := tmap s.qe.queues (fun _ c => { c with state := .disabled, inflight := 0 }), pmap := s.qe.pmap },
    mov := movInit,
    tier := { tierInit with quotas := tmap s.tier.quotas (fun _ q => { q with t1Used := 0 }), stampFloor := s.tier.stampFloor },
    pan := panInit,
    twn := { twnInit with epochs := s.twn.epochs, syncInSync := s.twn.syncInSync, syncAll := s.twn.syncAll, rsm := s.twn.rsm, pairId := s.nvs.image.pairId },
    cmn := cmnInit, pwr := pwrInit, dmc := dmcInit,
    flm := { s.flm with luns := [], geom := none, tries := [], cipher := [] },
    hrv := { hrvInit with newest := s.hrv.newest, prior := s.hrv.prior, fast := s.hrv.fast },
    clk := { s.clk with relock := false, pllDown := [] },
    cip := cipInit, nvs.storing := none, seq.goodSince := s.seq.goodSince.map fun _ => 0,
    wdn := { wdnInit with fuses := s.wdn.fuses, bootBlocks := s.wdn.bootBlocks, keyCtr := s.wdn.keyCtr, bootCnt := s.wdn.bootCnt, keysSealed := s.wdn.keysSealed },
    mgt := mgtInit, mem := [], timeNs := 0, slew := 0 }
  let s := kept.foldl (fun s x => s.put x.1 x.2) (s.put REC.HEAD_SEQ head)
  s.zeroVolatile fun _ => true

/-! ## Warm reset (R25, R51) -/

/-- Whether a flash channel is out of service (Table 17-3). -/
def State.flcIdle (s : State) (c : Nat) : Bool :=
  let st := s.get FLC.STATE c
  st == chAbsent || st == chExcluded || s.get FLC.CH_EN c == 0

/-- A flash channel is to be brought up again from step 1: no longer READY, it has WP_N low (R305). -/
def State.flmRestart (s : State) (c : Nat) : State :=
  let s := if s.get FLC.STATE c = chReady then s.wpN c false else s
  { s.put FLC.STATE chInit c with flm.tries := s.flm.tries.filter (· != c) }

/-- RISING blocks become RESIDENT and every pin goes (R203). -/
def State.tierWarm (s : State) : State :=
  let s := s.frameWaitDrop fun _ => true
  let s : State := { s with tier.blocks := tmap s.tier.blocks fun _ b =>
    let b := { b with pins := [], filling := [], units := tmap b.units fun _ u => { u with wb := none } }
    if b.state = .rising then { b with state := .resident } else b }
  let s : State := { s with tier := { s.tier with reads := [], held := [], schedules := [] } }
  (s.tier.blocks.map Prod.fst).foldl State.settle s

/-- The sectors of the dirty lines go to their frames (R25). -/
def State.panFlush (s : State) : State := s.pan.lines.foldl (fun s e => s.panWriteBack e.1 e.2) s

/-- A page's registers that show what runs return to rest: the movers, the jobs, the links. -/
def State.idleRegs (s : State) : State :=
  let s := (List.range 64).foldl (fun s m => s.put MOV.STATE movIdle m) s
  let s := (List.range 5).foldl (fun s k => s.put HSH.BUSY 0 0 k) (s.put CIP.BUSY 0)
  let s := (List.range 8).foldl (fun s p => (List.range 4).foldl (fun s k => (s.linkDiscard p k).linkFields p k) s) s
  let s := (List.range 4).foldl (fun s e => s.put CMP.LINK_UP 0 e) s
  (((((s.put QE.BUSY 0).put CME.BUSY 0).put XLT.BUSY 0).put TWN.BUNDLES 0).put PWR.PWR_WAKE_LATCH 0).ckoutStop

/-- The warm reset: brine of every class stays in DRAM, which is in self-refresh meanwhile; the LUNs and the geometry in use stay known until the channels are brought up again, so that a harvest finds its reserve (Table 11-3); the warden starts again at step 1. Control accesses that stall on a domain are dropped without an answer (DESIGN CHOICE, log entry 107). -/
def State.warmReset (s : State) : State :=
  let s := (((s.sysSync.movesEnd fun _ => true).panAbort.panFlush.panLose (fun _ => true) 0 0).retrainAbandon fun _ => true).stageInterrupt fun _ => true
  let s := (s.tierWarm.queuesOff fun _ _ => true).connsFree
  let s := ((s.ftlStop.storeAbandon.clkAbort.actAbandon.aliveStop).fenceAll.claimRelease.stepAbort)
  let s := s.idleRegs
  let s := (List.range 12).foldl State.selfRefresh s
  let s := (List.range 16).foldl (fun s k => s.put PAN.STATE panInvalidating k) s
  let s := (List.range 48).foldl (fun s c => if s.get FLC.STATE c = chExcluded then s else s.flmRestart c) s
  let s := (List.range 64).foldl (fun s n => s.put PWR.STATE domOn 0 n) s
  let s := (s.resetRegs .warm fun _ => true).loadRwp fun _ => true
  let s : State := { s with
    ctl := ctlInit,
    evf := { s.evf with pending := [], credits := [], folds := [] },
    hp := { s.hp with lds := tmap s.hp.lds (fun _ x => { x with memEnable := false, gpf := none }), msix := [], decoders := [], cmps := [], forwards := [], released := false, memoryActive := false, links := [] },
    xlt := { s.xlt with caches := [], fills := [], invalBusy := none, invalQueue := [], invalRetry := [] },
    qe := { s.qe with cmds := [], barriers := [], flush := [] },
    mov := movInit, pan := { s.pan with lines := [], trackers := [], op := none }, cmn := { s.cmn with cipher := [], rxWait := [] },
    twn := { twnInit with epochs := s.twn.epochs, syncInSync := s.twn.syncInSync, syncAll := s.twn.syncAll, rsm := s.twn.rsm, scanDone := s.twn.scanDone,
                          full := s.twn.full, pairId := s.twn.pairId, repair := s.twn.repair, mirror := tmap s.twn.mirror fun _ m => { m with wb := none } },
    pwr := pwrInit, cip := cipInit,
    wdn := { s.wdn with boot := 1, warm := true, requests := [], nextSlot := 0, svcOff := false, challenge := none, bootFail := false },
    mgt := mgtInit }
  let s := ((s.put TWN.STATE roleInit).put TWN.IN_SYNC 0).put TWN.SERVE 0
  let s := ((s.ftlPut FTL.FLM_STATE flmInit).put WDN.STAGE 0).alertPins
  { s with flm := { s.flm with tries := [], cipher := [] } }

/-! ## Domain reset (R547, Table 2-5) -/

/-- The pages of a domain. -/
def domPages (n : Nat) : List Page := allPages.filter fun p => Page.dom p == n

/-- What the blocks of a domain lose in a domain reset; fields as R51 says. -/
def State.domainBlocks (s : State) (n : Nat) : State :=
  if 8 ≤ n && n < 16 then
    let p := n - 8
    let s := (List.range 4).foldl (fun s k => (s.linkDiscard p k).linkFields p k) s
    (List.range 16).foldl (fun s l => s.functionReset p l) s
  else if 17 ≤ n && n < 25 then
    ((List.range 8).map fun k => (n - 17) * 8 + k).foldl (fun s m => match tget s.mov.runs m with
      | some r => s.moverStop m r.qid r.cmdId r.index .internal
      | none => s.put MOV.STATE movIdle m) s
  else if 26 ≤ n && n < 42 then s.put PAN.STATE panInvalidating (n - 26)
  else if 42 ≤ n && n < 54 then
    let c := n - 42
    let st := s.get DMC.STATE c
    if st = dmcFailed || st = dmcExcluded || st = dmcAbsent then s else (s.retrainAbandon (· == c)).dmcTrain c true
  else if 54 ≤ n && n < 60 then
    ((List.range 8).map fun k => (n - 54) * 8 + k).foldl (fun s c => if s.flcIdle c then s else s.flmRestart c) s.ftlStop
  else if n = 60 then s.ftlStop
  else if n = 62 then (List.range 4).foldl (fun s e => s.put CMP.LINK_UP 0 e) { s.connsDrop with cmn.rxWait := [] }
  else if n = 63 then { (((s.put CIP.BUSY 0).setLanes [] .twin).setLanes [] .cemanor).setLanes [] .flash with cip.job := none }
  else s

/-- A domain reset of a domain's blocks. A change of a page alone that still waits for its safe point is dropped, as by a warm reset (DESIGN CHOICE, log entry 95). -/
def State.domainReset (s : State) (n : Nat) : State :=
  let hit (p : Page) : Bool := Page.dom p == n
  let s := s.stageInterrupt hit
  let s := (s.domainBlocks n).resetRegs .domain hit
  let s := s.loadRwp hit
  { s with ctl.single := s.ctl.single.filter fun x => !hit x.page }

/-! ## Resume (R367) -/

/-- The resume: shed rails come up again, the shed domains wake (R549; each ends in DOMAIN_ON, which answers what stalls on it), the warden runs the boot stages from step 3, T1 holds nothing until restore returns the brine (R203, R490), and no group is served until pair formation has decided its source (Table 12-3 step 6; log entry 100). -/
def State.resume (s : State) : State :=
  let s := ((((s.queuesOff fun _ _ => true).panAbort.panLose (fun _ => true) 0 0).connsFree).put WDN.STAGE 1).put SEQ.STATE seqPoweringUp
  let s := (List.range 16).foldl (fun s k => s.put PAN.STATE panInvalidating k) s
  let s := s.pwr.shed.foldl (fun s n => s.wakeStart n) { s with pwr.shed := [] }
  let s : State := { s with
    seq.up := true,
    xlt := { s.xlt with caches := [], fills := [], invalBusy := none, invalQueue := [], invalRetry := [] },
    qe := { s.qe with cmds := [], barriers := [], flush := [] },
    tier := { s.tier with blocks := [], frames := [], quotas := tmap s.tier.quotas (fun _ q => { q with t1Used := 0 }), reads := [], held := [], frameWait := [], schedules := [], bittern := [], substCtr := [], substSeen := [], writes := [], drains := [], written := [] },
    pan := { s.pan with lines := [], trackers := [], op := none },
    twn := { s.twn with mirror := [], replay := [], rxHold := [], rxLog := [], form := .none, take := none, compare := none, cipher := [] },
    cmn := { s.cmn with cipher := [], rxWait := [] }, flm := { s.flm with cipher := [], mcache := [] },
    hp := { s.hp with released := false, memoryActive := false, cmps := [], forwards := [] },
    hrv := { s.hrv with phase := 0, restored := false },
    wdn := { s.wdn with boot := 3, warm := false, requests := [] } }
  let s := (List.range 16).foldl (fun s g => s.put TWN.TWN_CLAIM_LOCAL 0 0 g) (((s.put TWN.STATE roleInit).put TWN.BUNDLES 0).put TWN.SERVE 0)
  (s.ftlPut FTL.FLM_STATE flmReplay).zeroVolatile fun _ => true

end Sys2Proof.Machine
end

