-- ==== Sys2Proof/Machine/SeqRun.lean ====
section
/-! DEFINITION. What SEQ does with the rails (18, 20): faults, power-up and power-down, the device rails, the loss of the device, the rail table checks. -/
namespace Sys2Proof.Machine

/-! ## Faults (R559, R560) -/

/-- Rail faults: each is marked and recorded, the rails and everything that depends on them are released at once, FAULT_N is asserted unless a commanded power-down runs; a kept rail ends a write-out (R559, R562, R569). -/
def State.railFaults (s : State) (l : List Nat) : State :=
  if l.isEmpty then s
  else
    let stop := l.any fun n => rowKeep (s.row n)
    let s := l.foldl (fun s n => (s.putBit SEQ.RAIL_FAULT n true).blkErr seqPage 18 6 (le 1 n)) s
    let s := s.railsRelease (s.closure l)
    let s := if s.seq.down then s else s.faultN
    if stop then s.harvestStop else s

/-- The device loses its supply or its reset: what runs stops as it is, and the device is held in reset until PWRGOOD (R560, R607, R613). -/
def State.deviceLost (s : State) : State :=
  let wp := (List.range 48).filter fun c => s.get FLC.STATE c != chAbsent
  let s := s.harvestStop.coldReset
  -- WP_N has been driven low, and is let go (R305)
  let s := wp.foldl (fun s c => s.pinOut "WP_N" c none) s
  let s := if s.seq.pwrgood then s.pinOut "PWRGOOD" 0 (some false) else s
  { (s.put SEQ.STATE seqOff) with seq := { s.seq with pwrgood := false, up := false, undo := false, devUp := none, devDown := none, fuseOpen := false }, wdn.boot := 0 }

def deviceRails : List Nat := (List.range 8).map (32 + ·)

/-- A device rail faults (R560): every appliance rail, then every device rail, is released at once. -/
def State.deviceFault (s : State) (k : Nat) : State :=
  let s := s.harvestStop
  let s := if s.seq.down then s else s.faultN
  let s := (s.railsRelease (List.range 32)).railsRelease deviceRails
  let s := s.deviceLost
  { s with seq := { s.seq with down := false, bootRail := some k } }

/-! ## Power-up (R556) -/

/-- Whether a rail has been GOOD for its SETTLE_MS. -/
def State.settled (s : State) (n : Nat) : Bool := s.railPhase n == .good && rowSettle (s.row n) ≤ s.scansSince (s.rail n).scan

/-- Whether every device rail of rows 32 to 38 is GOOD. -/
def State.deviceGood (s : State) : Bool := (List.range 7).all fun k => s.railPhase (32 + k) == .good

/-- Whether a rail can start. -/
def State.railReady (s : State) (n : Nat) : Bool :=
  let r := s.row n
  rowValid r && s.railPhase n == .off && !s.bitOf SEQ.RAIL_FAULT n && s.deviceGood &&
  ((List.range 32).all fun m => !bit (rowDep r) m || s.settled m) && (!rowShared r || s.flag SEQ.FAULT_N_IN)

/-- Rails whose conditions are met start together; with every rail in use GOOD the appliance is ON. -/
def State.startRails (s : State) : State :=
  if !s.seq.up then s
  else
    let s := ((List.range 32).filter s.railReady).foldl State.railStart s
    if s.get SEQ.STATE = seqPoweringUp && s.validRails.all (fun n => s.railPhase n == .good) then s.put SEQ.STATE seqOn else s

/-- POWER_UP (R556, R570). -/
def State.powerUp (s : State) : State :=
  if s.seq.pwrgood && !s.seq.down then ({ (s.put SEQ.STATE seqPoweringUp) with seq.up := true } : State).startRails else s

/-! ## Power-down (R568, R606) -/

def devOffOrder : List Nat := [37, 36, 35, 34, 38, 33, 32]
def devOnOrder : List Nat := [32, 33, 38, 34, 35, 36, 37]

/-- Device rails released one after another, each once the one before it is off; then STATE OFF (R604, R606). -/
def State.devDownRun : Nat → State → State
  | 0, s => s
  | fuel + 1, s =>
    match s.seq.devDown with
    | none => s
    | some k =>
      let free := k = 0 || s.railPhase (devOffOrder.getD (k - 1) 32) == .off
      if !free then s
      else if k < 7 then State.devDownRun fuel { (s.railRelease (devOffOrder.getD k 32)) with seq.devDown := some (k + 1) }
      else { (s.put SEQ.STATE seqOff) with seq := { s.seq with devDown := none, down := false } }

def State.devDownGo (s : State) : State := State.devDownRun 8 s

/-- Appliance rails with no dependent that is not off are released together (R568). -/
def State.downRelease (s : State) : State :=
  let blocks (m n : Nat) : Bool := s.railPhase m != .off && bit (rowDep (s.row m)) n
  let ready := (List.range 32).filter fun n => (s.railPhase n == .ramping || s.railPhase n == .good) && !((List.range 32).any fun m => blocks m n)
  s.railsRelease ready

/-- A commanded power-down, or the undoing of a power-up, goes on (R557, R568). -/
def State.downProgress (s : State) : State :=
  if !(s.seq.down || s.seq.undo) then s.devDownGo
  else
    let s := s.downRelease
    if (List.range 32).any fun n => s.railPhase n != .off then s
    else if s.seq.down && s.seq.pwrgood then
      let s := s.deviceLost
      ({ (s.put SEQ.STATE seqPoweringDown).railRelease 39 with seq.devDown := some 0 }).devDownGo
    else ({ s with seq.undo := false } : State).devDownGo

/-- POWER_DOWN (R568). -/
def State.powerDown (s : State) : State :=
  if s.seq.pwrgood then ({ (s.put SEQ.STATE seqPoweringDown) with seq := { s.seq with down := true, up := false, undo := false } } : State).downProgress else s

/-! ## Device rails (R602-R605) -/

/-- The next device rail, or PWRGOOD once the last has been GOOD for 1 ms with RESET_IN_N high. -/
def State.devUpGo (s : State) : State :=
  match s.seq.devUp with
  | none => s
  | some k =>
    if !(s.settled (devOnOrder.getD (k - 1) 32)) then s
    else if k < 7 then { (s.railStart (devOnOrder.getD k 32)) with seq.devUp := some (k + 1) }
    else if s.seq.resetLow then s
    else
      let s := (s.put SEQ.STATE seqDeviceOn).pinOut "PWRGOOD" 0 (some true)
      { s with seq := { s.seq with devUp := none, pwrgood := true, up := false, down := false, undo := false }, wdn.boot := 1 }

/-- A device rail has not come up (R603). -/
def State.devRampFail (s : State) (k : Nat) : State :=
  let s := s.railsRelease deviceRails
  { s with seq := { s.seq with devUp := none, devFails := s.seq.devFails + 1, bootRail := some k } }

/-- Power-on starts at step 3 of Table 20-4. -/
def State.devStart (s : State) : State :=
  if s.seq.por && !s.seq.pwrgood && s.seq.devUp.isNone && s.seq.devDown.isNone && s.seq.devFails < 2 && s.seq.pfHigh then
    { s.railStart 32 with seq.devUp := some 1 }
  else s

/-! ## The rail table (R553, Table 18-2) -/

/-- A row of the shadow: the row in force until it is written. -/
def State.shadowRow (s : State) (n : Nat) : List Nat := (tget s.seq.shadow n).getD (s.row n)

/-- The bits of a word of a row that Table 18-1 does not reserve: a write ignores the others (R5). -/
def rowMask (w : Nat) : Nat := if w < 5 then 2 ^ 32 - 1 else if w = 5 then 0xFF else 0

/-- RAIL_DATA written (R553). -/
def State.railData (s : State) (w v : Nat) : State :=
  let n := s.get SEQ.RAIL_IDX
  if 41 ≤ n then s else { s with seq.shadow := tset s.seq.shadow n ((s.shadowRow n).set w (v &&& rowMask w)) }

/-- The rows that row n of the shadow depends on, itself apart. -/
def State.shDeps (s : State) (n : Nat) : List Nat := (List.range 32).filter fun m => m != n && bit (rowDep (s.shadowRow n)) m

/-- The rows reached from a set in so many steps. -/
def State.shReach (s : State) : Nat → List Nat → List Nat
  | 0, l => l
  | k + 1, l => State.shReach s k ((List.range 32).filter fun m => l.contains m || l.any fun n => (s.shDeps n).contains m)

/-- The time of the longest chain that ends at a row; the fuel bounds a chain that a cycle makes endless. -/
def State.shChain (s : State) : Nat → Nat → Nat
  | 0, _ => 0
  | k + 1, n => rowRamp (s.shadowRow n) + rowSettle (s.shadowRow n) + ((s.shDeps n).map fun m => State.shChain s k m).foldl max 0

def thresholdsOk (r : List Nat) : Bool :=
  rowFaultLo r < rowWarnLo r && rowWarnLo r ≤ rowWarnHi r && rowWarnHi r < rowFaultHi r &&
  (rowOcWarn r == 0 || rowOcFault r == 0 || rowOcWarn r < rowOcFault r)

/-- The lowest code of Table 18-2 that a row of the shadow fails. -/
def State.rowCode (s : State) (n : Nat) : Option Nat :=
  let r := s.shadowRow n
  let old := s.row n
  let app := n < 32 && rowValid r
  let deps := (List.range 32).filter fun m => bit (rowDep r) m
  let running := (List.range 32).any fun m => s.railPhase m != .off
  let changed := r.getD 0 0 != old.getD 0 0 || r.getD 1 0 != old.getD 1 0 || r.getD 5 0 != old.getD 5 0
  if app && (State.shReach s 32 (s.shDeps n)).contains n then some 1
  else if app && deps.any (fun m => m == n || !rowValid (s.shadowRow m)) then some 2
  else if (app || (n = 40 && rowVEn r)) && !thresholdsOk r then some 3
  else if app && rowKeep r && deps.any (fun m => !rowKeep (s.shadowRow m)) then some 4
  else if 32 ≤ n && n < 40 && r != old then some 5
  else if app && 100 < State.shChain s 32 n then some 6
  else if (n < 32 || n = 40) && changed && running then some 7
  else none

/-- TABLE_COMMIT (R553): the first failing row, or the shadow comes into force. -/
def State.tableCommit (s : State) : State :=
  match (List.range 41).findSome? fun n => (s.rowCode n).map fun c => (n, c) with
  | some (n, c) => (((s.put SEQ.TABLE_RESULT 2).put SEQ.ERR_ROW n).put SEQ.ERR_CODE c).blkErr seqPage 16 4
  | none =>
    let rows := (s.seq.shadow.filter fun e => e.1 < 32 || e.1 = 40).foldl (fun t e => if e.2 = zeroRow then tdel t e.1 else tset t e.1 e.2) s.seq.rows
    { (s.put SEQ.TABLE_RESULT 1) with seq := { s.seq with rows := rows, shadow := [] } }

/-! ## Commands of the warden -/

/-- FAULT_CLR (R564): FAULT_N is released, at the earliest when its 10 ms are over. -/
def State.faultClear (s : State) : State :=
  if s.seq.faultHold then { s with seq.faultClr := true } else s.faultNOff.startRails

/-- RAIL_FAULT bits cleared (R559): the rails may start again. -/
def State.railFaultClear (s : State) (mask : Nat) : State :=
  (s.put SEQ.RAIL_FAULT (s.get SEQ.RAIL_FAULT - (s.get SEQ.RAIL_FAULT &&& mask))).startRails

end Sys2Proof.Machine
end

