-- ==== Sys2Proof/Machine/Seq.lean ====
section
/-! DEFINITION. SEQ (18, 20): scans, temperatures, timers, pins, and the end of a harvest. -/
namespace Sys2Proof.Machine

/-! ## A scan (R554-R558, R561, R567) -/

/-- The codes of a scan by core, the device rails' readings. -/
structure Scan where
  core0 : List Nat
  core1 : List Nat
  dev : List (Nat × Nat)

/-- value = code × GAIN / 1,000 + OFFSET (R554). -/
def State.snsValue (s : State) (i code : Nat) : Int :=
  let (g, o) := (tget s.seq.snsCfg i).getD (0, 0)
  ((code * g / 1000 : Nat) : Int) + signedOf 16 o

/-- The readings of an input by the cores in service. -/
def State.readings (s : State) (x : Scan) (i : Nat) : List Int :=
  (if s.bitOf SEQ.ADC_CORES 0 then [s.snsValue i (x.core0.getD i 0)] else []) ++
  (if s.bitOf SEQ.ADC_CORES 1 then [s.snsValue i (x.core1.getD i 0)] else [])

def lowest : List Int → Int
  | [] => 0
  | a :: r => r.foldl min a
def highest : List Int → Int
  | [] => 0
  | a :: r => r.foldl max a

/-- Lowest and highest voltage and highest current of a supervised row; of the two cores' readings the one farther beyond a limit counts (R555). -/
def State.rowReading (s : State) (x : Scan) (n : Nat) : Option (Int × Int × Int) :=
  let r := s.row n
  if !rowVEn r then none
  else if 32 ≤ n && n < 40 then let (v, i) := x.dev.getD (n - 32) (0, 0); some (v, v, i)
  else
    let v := s.readings x (rowVsns r)
    some (lowest v, highest v, if rowIEn r then highest (s.readings x (rowIsns r)) else 0)

/-- With both cores removed every supervised rail counts as out of its fault limits. -/
def State.blind (s : State) : Bool := s.get SEQ.ADC_CORES == 0

def State.beyond (s : State) (lo hi oc : Int) (x : Int × Int × Int) : Bool :=
  s.blind || x.1 < lo || hi < x.2.1 || (oc != 0 && oc * 10 < x.2.2)

/-- A core whose reference or ground reading fails twice is removed (R555). -/
def State.refCheck (s : State) (k : Nat) (ok : Bool) : State :=
  let n := if ok then 0 else (tget s.seq.refBad k).getD 0 + 1
  let s : State := { s with seq.refBad := if n = 0 then tdel s.seq.refBad k else tset s.seq.refBad k n }
  if 2 ≤ n && s.bitOf SEQ.ADC_CORES k then (s.putBit SEQ.ADC_CORES k false).blkErr seqPage 20 5 (le 1 k) else s

/-- SNS_VALUE of every input: where the two cores differ, the spec does not say which reading it shows (log entry 26). -/
def State.snsTake (s : State) (x : Scan) : State :=
  let first := Config.freeBool s.free
  let val (l : List Int) : Int := match l with | [a, b] => if first then a else b | [a] => a | _ => 0
  let t := (List.range 67).foldl (fun t i => let v := val (s.readings x i); if v = 0 then tdel t i else tset t i v) s.seq.sns
  { s.useFree with seq.sns := t }

/-- One rail's judgement: a ramping one inside its warning window is GOOD; a GOOD one counts scans outside its limits. Gives whether it faults. -/
def State.judge (s : State) (x : Scan) (n : Nat) : State × Bool :=
  match s.rowReading x n with
  | none => (s, false)
  | some v =>
    let r := s.row n
    let s := s.putRail n { s.rail n with high := rowWarnLo r ≤ 10 * v.2.1 }
    let outW := s.beyond (rowWarnLo r) (rowWarnHi r) (rowOcWarn r) v
    let outF := s.beyond (rowFaultLo r) (rowFaultHi r) (rowOcFault r) v
    match s.railPhase n with
    | .ramping => (if !s.blind && rowWarnLo r ≤ v.1 && v.2.1 ≤ rowWarnHi r then s.railGood n else s, false)
    | .good =>
      let q := s.rail n
      let w := if outW then q.badW + 1 else 0
      let f := if outF then q.badF + 1 else 0
      let enters := 2 ≤ w && !q.warned
      let s := s.putRail n { q with badW := min 2 w, badF := min 2 f, warned := 2 ≤ w }
      let s := if !enters then s else if n < 32 then (s.putBit SEQ.RAIL_WARN n true).misc seqPage 4 (le 1 n) else s.misc seqPage 4 (le 1 n)
      (s, 2 ≤ f)
    | .releasing => (if !s.blind && 10 * v.2.1 < rowWarnLo r then s.railOff n else s, false)
    | .off => (s, false)

/-- The input rail (R561, R604): good, VIN_LOW, too high. -/
def State.inputRail (s : State) (x : Scan) (pf : Bool) : State :=
  let r := s.row 40
  let v := s.rowReading x 40
  let above : Bool := match v with | some v => !s.blind && rowWarnLo r < v.1 | none => true
  let low : Bool := match v with | some v => s.blind || v.1 < rowFaultLo r | none => false
  let high : Bool := match v with | some v => rowFaultHi r < v.2.1 | none => false
  let good := pf && above
  let nLow := if low then min 3 (s.seq.vinLow + 1) else 0
  let nHigh := if high then min 3 (s.seq.vinHigh + 1) else 0
  let s : State := { s with seq := { s.seq with pfHigh := pf, vinLow := nLow, vinHigh := nHigh, goodSince := if good then (match s.seq.goodSince with | some t => some t | none => some s.timeNs) else none } }
  let s := if nHigh = 2 then s.faultN.misc seqPage 6 else s
  if s.seq.pwrgood then (if nLow = 2 then s.harvestStart 1 else s)
  else if (low || !pf) && s.seq.devUp.isSome then { s with seq := { s.seq with devUp := none, devDown := some 0 } }
  else s

/-- V × I over the KEEP rows that sense both (R567), mW. -/
def State.keepPower (s : State) (x : Scan) : Nat :=
  ((List.range 40).map fun n =>
    let r := s.row n
    if !(rowValid r && rowKeep r && rowVEn r && rowIEn r) then 0
    else if 32 ≤ n then let (v, i) := x.dev.getD (n - 32) (0, 0); v * i / 1000
    else (((tget s.seq.sns (rowVsns r)).getD 0) * ((tget s.seq.sns (rowIsns r)).getD 0) / 1000).toNat).foldl (· + ·) 0

/-- R554-R562, R567, R568, R603, R357, R358: a scan ends. ref0 and ref1: the core's reference and ground readings are in tolerance; dev: mV and mA of the device rails; pf: the level of PWRFAIL_N. -/
def execAdcScan (core0 core1 : List Nat) (ref0 ref1 : Bool) (dev : List (Nat × Nat)) (pf : Bool) (s : State) : Res :=
  if !s.seq.por then .next s
  else
    let x : Scan := { core0 := core0, core1 := core1, dev := dev }
    let s := ((s.refCheck 0 ref0).refCheck 1 ref1).snsTake x
    let s := s.incMod SEQ.SCAN_CNT
    let bank (i : Nat) : Nat := (lowest (s.readings x i)).toNat
    let s := s.put HRV.BANK_V_MV (min (bank 64) (bank 65))
    let (s, bad) := (List.range 40).foldl (fun (a : State × List Nat) n =>
      let (t, f) := a.1.judge x n
      (t, if f then a.2 ++ [n] else a.2)) (s, [])
    let s := s.railFaults (bad.filter (· < 32))
    let s := match bad.find? (32 ≤ ·) with | some n => s.deviceFault (n - 32) | none => s
    let s := s.inputRail x pf
    let s := s.downProgress.startRails.devUpGo
    let s := s.put SEQ.KEEP_POWER_MW (s.keepPower x)
    let s := if s.get HRV.BANK_V_MV < s.get HRV.V_MIN_MV then s.harvestStop else s
    .next (if s.seq.pwrgood then s.tideTick else s)

/-! ## Timers of the rails -/

/-- R557, R603, R552: RAMP_MS has passed since the enable: an unsupervised rail is GOOD, a supervised one has failed its ramp. -/
def execRampTimeout (row : Fin 40) (s : State) : Res :=
  let n := row.val
  if s.railPhase n ≠ .ramping then .next s
  else if !rowVEn (s.row n) then .next (s.railGood n).startRails
  else if 32 ≤ n then .next (s.devRampFail (n - 32))
  else
    let s := (s.putBit SEQ.RAIL_FAULT n true).blkErr seqPage 17 6 (le 1 n)
    let s := s.faultN
    .next ({ (s.put SEQ.STATE seqDeviceOn) with seq := { s.seq with up := false, undo := true } } : State).downProgress

/-- R568: OFF_MS has passed since the release. -/
def execRailOffTimeout (row : Fin 40) (s : State) : Res :=
  if s.railPhase row.val = .releasing then .next ((s.railOff row.val).downProgress.startRails) else .next s

/-- R569: three times OFF_MS after its release a rail is still above 10 % of WARN_LO. -/
def execStuckOnTimeout (row : Fin 40) (s : State) : Res :=
  let n := row.val
  let q := s.rail n
  if q.high && (q.phase == .releasing || q.phase == .off) then .next (((s.blkErr seqPage 23 6 (le 1 n)).railOff n).downProgress) else .next s

/-! ## FAULT_N and the readback (R564, R565) -/

/-- R564: FAULT_N is low and this SK960 does not drive it. -/
def execPeerFault (s : State) : Res :=
  if s.flag SEQ.FAULT_N_DRV then .next s
  else
    let s := (s.put SEQ.FAULT_N_IN 0).blkErr seqPage 19 5
    .next ((s.railsRelease ((List.range 32).filter fun n => rowShared (s.row n))).downProgress)

/-- R564: FAULT_N reads high again. -/
def execFaultNHigh (s : State) : Res := if s.flag SEQ.FAULT_N_DRV then .next s else .next (s.put SEQ.FAULT_N_IN 1).startRails

/-- R564: the 10 ms of FAULT_N are over. -/
def execFaultNHoldExpiry (s : State) : Res :=
  let s : State := { s with seq.faultHold := false }
  if s.seq.faultClr then .next s.faultNOff.startRails else .next s

/-- R565: an output reads against its driven level. -/
def execEnableReadbackFault (pin : SeqPin) (s : State) : Res :=
  let s := s.blkErr seqPage 21 6
  match pin with
  | .railEn n => .next (((s.railFaults [n.val]).pinOut "RAIL_EN" n.val none).downProgress)
  | .devEn k => .next ((s.deviceFault k.val).pinOut "DEV_EN" k.val none)
  | .faultN => .next s.faultNOff.startRails

/-! ## Temperatures (R571) -/

def tempIdle : TempRun := { warnUp := 0, warnDown := 0, faultUp := 0, faultDown := 0, warn := false, fault := false }

/-- FAULT_C, WARN_C and TEMP_SHUT of an input. -/
def State.tempSet (s : State) (k : Nat) : Nat × Nat × Nat := (tget s.seq.tempCfg k).getD (105, 90, 0)

/-- One input measured: conditions entered and left after two measurements. -/
def State.tempOne (s : State) (k : Nat) (v : Int) : State :=
  let (fc, wc, shut) := s.tempSet k
  let r := (tget s.seq.tempRuns k).getD tempIdle
  let upW := if 8 * (wc : Int) < v then min 2 (r.warnUp + 1) else 0
  let dnW := if v ≤ 8 * (wc : Int) then min 2 (r.warnDown + 1) else 0
  let upF := if 8 * (fc : Int) < v then min 2 (r.faultUp + 1) else 0
  let dnF := if v ≤ 8 * (fc : Int) then min 2 (r.faultDown + 1) else 0
  let warn := if r.warn then dnW < 2 else upW = 2
  let fault := if r.fault then dnF < 2 else upF = 2
  let s : State := { s with seq := { s.seq with temps := tset s.seq.temps k v, tempRuns := tset s.seq.tempRuns k { warnUp := upW, warnDown := dnW, faultUp := upF, faultDown := dnF, warn := warn, fault := fault } } }
  let s := if warn && !r.warn then s.misc seqPage 4 (le 1 k) else s
  if fault && !r.fault then (s.blkErr seqPage 22 6 (le 1 k)).railFaults (setBitsOf 32 shut) else s

/-- R571: the temperature inputs are measured. -/
def execTempMeasure (values : List Int) (s : State) : Res :=
  if !s.seq.por then .next s
  else .next (((values.take 16).zip (List.range 16)).foldl (fun s x => s.tempOne x.2 x.1) s)

/-! ## Power-on, reset pins, junction temperature (20) -/

/-- R597: the port of the management function: the strapped one, or the lowest whose BIFURC is not 3. -/
def mgmtPort (bifs : List Nat) (strap : Nat) : Nat :=
  if bifs.getD strap 0 = 3 then ((List.range 8).find? fun p => bifs.getD p 0 != 3).getD strap else strap

/-- R596, R602: POR_N rises: straps are sampled, SEQ is OFF, every DEV_EN low. -/
def execPorNRise (straps : Straps) (s : State) : Res :=
  if s.seq.por then .next s
  else
    let bifs := (List.range 8).map fun p => bits straps.bifurc.toNat (2 * p) 2
    let m := straps.mgmt.toNat
    let s : State := { s with unit := straps.unit.val, seq := { s.seq with por := true, strapBif := bifs, strapMgmt := m, strapBoot := straps.boot.toNat } }
    let s := (List.range 8).foldl (fun s p => (s.put HP.BIFURC (bifs.getD p 0) p).put HP.MGMT_PF (b2n (mgmtPort bifs m == p)) p) s
    let s := s.put TWN.UNIT straps.unit.val
    .next ((List.range 8).foldl (fun s k => s.pinOut "DEV_EN" k (some false)) (s.put SEQ.STATE seqOff))

/-- R607, R608: POR_N falls: PD0 is reset and every output is in its standby state. What the next boot records of a device-rail fault or a trip is kept (log entry 27). -/
def execPorNFall (s : State) : Res :=
  if !s.seq.por then .next s
  else
    let s := s.deviceLost
    let pins : List (String × Nat) := (List.range 32).map (fun n => ("RAIL_EN", n)) ++ (List.range 8).map (fun k => ("DEV_EN", k)) ++
      [("STEP_EN", 0), ("CHG_INH", 0), ("FAULT_N", 0), ("CLAIM_W", 0), ("ALERT_N", 0), ("ALERT_N", 1), ("THERMTRIP_N", 0)]
    let s := pins.foldl (fun s x => s.pinOut x.1 x.2 none) s
    .next { s with regs := [], seq := { seqInit with bootRail := s.seq.bootRail, bootTrip := s.seq.bootTrip } }

/-- R602: input has been good for 2 s. -/
def execDeviceRailsStart (s : State) : Res := .next s.devStart

/-- R603: 1 s after the ramp failure of a device rail. -/
def execDeviceRailRetry (s : State) : Res := if s.seq.devFails = 1 then .next s.devStart else .next s

/-- R27, R605: RESET_IN_N is low for 1 µs: a cold-reset request while PWRGOOD is high. -/
def execResetInN (s : State) : Res :=
  let s : State := { s with seq.resetLow := true }
  if s.seq.pwrgood then .next (s.harvestStart 2) else .next s

/-- R605: RESET_IN_N rises. -/
def execResetInNRelease (s : State) : Res := .next ({ s with seq.resetLow := false } : State).devUpGo

/-- Table 20-10: 100 °C and above. -/
def execJunctionThrottle (celsius : BitVec 8) (s : State) : Res :=
  if celsius.toNat < 100 then .next { s with seq.powerCap := 420 }
  else .next (({ s with seq.powerCap := 420 - 10 * (celsius.toNat - 100) } : State).misc (pg .pwr) 4 (le 1 celsius.toNat))

/-- Table 20-10: 110 °C: the warden writes SHUTDOWN. -/
def execJunctionShutdown (s : State) : Res :=
  if s.seq.pwrgood then .next ((s.misc (pg .pwr) 6).harvestStart 4) else .next s

/-- Table 20-10: 120 °C: every DEV_EN is released at once. -/
def execThermtrip (s : State) : Res :=
  if !s.seq.pwrgood then .next s
  else
    let s := (s.harvestStop.railsRelease deviceRails).deviceLost.pinOut "THERMTRIP_N" 0 (some false)
    .next { s with seq := { s.seq with down := false, bootTrip := true } }

/-! ## The end of a harvest (R352, R367, Table 19-2) -/

/-- Step 9: once the set is sealed, or left unsealed, and a STORE of the freeze is done, DRAM is in self-refresh, once a channel that is leaving it has left it (R299), and the end action follows FIRST_CAUSE, or power-down where SHUTDOWN is latched. -/
def execHarvestEnd (s : State) : Res :=
  let st := s.get HRV.STATE
  let ended := st = hrvSealed || (st = hrvHarvesting && s.hrv.stopped)
  if !ended || s.nvs.storing.isSome then .next s
  else if !s.dmc.leaving.isEmpty then .next ((List.range 12).foldl State.selfRefresh s)
  else
    let s := (s.harvestTo 6).put HRV.LAST_HARVEST_MS ((s.timeNs - s.hrv.t0) / 1000000)
    let s := (List.range 12).foldl State.selfRefresh s
    let s := if s.hrv.gaveUp then s.aliveStop else s
    let first := s.get HRV.FIRST_CAUSE
    let good : Bool := match s.seq.goodSince with | some t => s.seq.pfHigh && s.get HRV.T_RESUME_MS * 1000000 ≤ s.timeNs - t | none => false
    let s : State := { s with hrv.phase := 9 }
    if bit (s.get HRV.CAUSE) 4 then .next s.powerDown
    else if first ≤ 1 then .next (if good then s.resume else s.powerDown)
    else
      let s : State := if first = 3 then { s with clk.bootWait := true } else s
      .next s.coldReset

end Sys2Proof.Machine
end

