-- ==== Sys2Proof/Machine/Clk.lean ====
section
/-! DEFINITION. Clocks (17): references, root PLL, channel and SerDes PLLs, divider set, clock outputs, TIME_NS. -/
namespace Sys2Proof.Machine

def clkPage : Page := pg .clk

/-- ROOT_STATE (Table 17-5). -/
def rootUnlocked : Nat := 0
def rootLocked : Nat := 1
def rootHoldover : Nat := 2
def rootFailed : Nat := 3

def refOk (b : Bool) : Fld := if b then CLK.REF_B_OK else CLK.REF_A_OK

/-! ## Clock outputs (R538-R540) -/

/-- Whether the outputs are gated (Table 17-2). -/
def State.ckoutGated (s : State) : Bool :=
  s.clk.relock || (!s.flag CLK.REF_A_OK && !s.flag CLK.REF_B_OK) || !(s.get CLK.ROOT_STATE == rootLocked || s.get CLK.ROOT_STATE == rootHoldover)

/-- Every output runs while it is enabled, not faulted and not gated. -/
def State.ckoutUpdate (s : State) : State :=
  (List.range 4).foldl (fun s k =>
    let want := s.flag CLK.EN 0 k && !s.bitOf CLK.CKOUT_FAULT k && !s.ckoutGated
    if want == s.bitOf CLK.CKOUT_ON k then s else (s.putBit CLK.CKOUT_ON k want).pinOut "CKOUT" k (if want then some true else none)) s

/-- A write of CKOUT_CFGk (R538): format, level and source change only while EN is 0. Gives whether they were refused. -/
def State.ckoutCfg (s : State) (k v : Nat) : State × Bool :=
  let on := s.flag CLK.EN 0 k
  let same := s.get CLK.FMT 0 k = bits v 10 2 && s.get CLK.LEVEL 0 k = bits v 8 2 && s.get CLK.SRC 0 k = bits v 0 3
  let s := if on then s else ((s.put CLK.FMT (bits v 10 2) 0 k).put CLK.LEVEL (bits v 8 2) 0 k).put CLK.SRC (bits v 0 3) 0 k
  ((s.put CLK.EN (bits v 15 1) 0 k).ckoutUpdate, on && !same)

/-- CKOUT_FAULT bits cleared (R540). -/
def State.ckoutFaultClear (s : State) (mask : Nat) : State :=
  (s.put CLK.CKOUT_FAULT (s.get CLK.CKOUT_FAULT - (s.get CLK.CKOUT_FAULT &&& mask))).ckoutUpdate

/-- R540: an enabled LVCMOS output is contended. -/
def execCkoutReadbackFault (k : Fin 4) (s : State) : Res :=
  if s.bitOf CLK.CKOUT_ON k.val && s.get CLK.FMT 0 k.val = 2 then
    .next (((s.putBit CLK.CKOUT_FAULT k.val true).blkErr clkPage 21 5 (le 1 k.val)).ckoutUpdate)
  else .next s

/-! ## References and root PLL (R526-R535) -/

/-- The root PLL enters holdover on another input (R527). -/
def State.refSwitch (s : State) (b : Bool) : State := (s.put CLK.REF_IN_USE (b2n b)).put CLK.ROOT_STATE rootHoldover

/-- R526, R534: an input is lost. -/
def execRefclkLost (b : Bool) (s : State) : Res :=
  if !s.flag (refOk b) then .next s
  else
    let s := s.put (refOk b) 0
    let err := if b then 17 else 16
    let running := s.get CLK.ROOT_STATE = rootLocked || s.get CLK.ROOT_STATE = rootHoldover
    if s.flag (refOk !b) then
      let s := s.blkErr clkPage err 4
      if s.get CLK.REF_IN_USE ≠ b2n b then .next s
      else if running then .next (s.refSwitch !b)
      else .next (s.put CLK.REF_IN_USE (b2n !b))
    else
      let s := (s.put CLK.AON_SRC 1).blkErr clkPage err 6
      let s := if running then (s.put CLK.ROOT_STATE rootHoldover).ckoutUpdate else s
      .next (if running && s.seq.pwrgood then s.harvestStart 3 else s)

/-- R526, R527: an input is good again. -/
def execRefclkGood (b : Bool) (s : State) : Res :=
  if s.flag (refOk b) then .next s
  else
    let alone := !s.flag (refOk !b)
    let s := (s.put (refOk b) 1).put CLK.AON_SRC 0
    let s : State := { s with clk.bootWait := false }
    if alone then .next (s.put CLK.REF_IN_USE (b2n b)).ckoutUpdate
    else if s.flag CLK.REF_REVERT && s.get CLK.REF_PREF = b2n b && s.get CLK.REF_IN_USE ≠ b2n b then
      if s.get CLK.ROOT_STATE = rootLocked || s.get CLK.ROOT_STATE = rootHoldover then .next (s.refSwitch b) else .next (s.put CLK.REF_IN_USE (b2n b))
    else .next s

/-- R529: the root PLL declares lock. Its channel PLLs lock with it. -/
def execRootPllLock (s : State) : Res :=
  let st := s.get CLK.ROOT_STATE
  let inUse := s.flag (refOk (s.flag CLK.REF_IN_USE))
  if !s.seq.pwrgood || !inUse || !(st = rootUnlocked || st = rootHoldover) then .next s
  else
    let s := s.put CLK.ROOT_STATE rootLocked
    let s := (List.range 6).foldl (fun s k => s.putBit CLK.DPLL_LOCK k (!s.clk.pllDown.contains k)) s
    .next ({ s with clk.relock := false } : State).ckoutUpdate

/-- R529, R534: loss of lock with an input good: a relock is tried. -/
def execRootPllUnlock (s : State) : Res :=
  if s.get CLK.ROOT_STATE ≠ rootLocked then .next s
  else
    let s := (s.put CLK.ROOT_STATE rootHoldover).blkErr clkPage 18 5
    .next ({ s with clk.relock := true } : State).ckoutUpdate

/-- R534: no lock within 1 ms. -/
def execRelockTimeout (s : State) : Res :=
  if !s.clk.relock then .next s
  else
    let s := s.misc clkPage 6
    .next (if s.seq.pwrgood then s.harvestStart 3 else s)

/-- R534: the VCO leaves its range in holdover: the device halts and is held in internal reset; SEQ goes on. -/
def execRootVcoFail (s : State) : Res :=
  if s.get CLK.ROOT_STATE ≠ rootHoldover then .next s
  else
    let s := s.harvestStop.coldReset
    .next ({ (s.put CLK.ROOT_STATE rootFailed) with wdn.boot := 0 }.misc clkPage 7)

/-! ## Channel and SerDes PLLs (R533) -/

def Pll.num : Pll → Nat
  | .dram k => k.val
  | .host p => 6 + p.val
  | .eth e => 14 + e.val
  | .bundle b => 18 + b.val

/-- R533: a PLL loses lock: its outputs are gated and its block treats the loss as its chapter says. -/
def execPllUnlock (pll : Pll) (s : State) : Res :=
  if s.clk.pllDown.contains (Pll.num pll) then .next s
  else
    let s : State := { s with clk.pllDown := s.clk.pllDown ++ [Pll.num pll] }
    match pll with
    | .dram k =>
      let s := (s.putBit CLK.DPLL_LOCK k.val false).blkErr clkPage 19 4 (le 1 k.val)
      .next ((s.dmcFail (2 * k.val)).dmcFail (2 * k.val + 1))
    | .host p => .next ((List.range 4).foldl (fun s l => s.linkDown p.val l) s)
    | .eth e => .next (s.put CMP.LINK_UP 0 e.val)
    | .bundle b => .next (s.bundleDown b.val)

/-- R533: a PLL reacquires by itself. -/
def execPllReacquire (pll : Pll) (s : State) : Res :=
  let s : State := { s with clk.pllDown := s.clk.pllDown.filter (· != Pll.num pll) }
  match pll with
  | .dram k => .next (if s.get CLK.ROOT_STATE = rootUnlocked || s.get CLK.ROOT_STATE = rootFailed then s else s.putBit CLK.DPLL_LOCK k.val true)
  | .host _ | .eth _ | .bundle _ => .next s

/-! ## Divider set (R536, R537) -/

/-- The shadow laid out as CLK_DIV_NOW. -/
def State.divShadow (s : State) : Nat := s.get CLK.FAB_SEL * 256 + s.get CLK.PAN_SEL * 16 + s.get CLK.CORE_SEL

/-- COMMIT: refused, or the switch is awaited. -/
def State.clkCommit (s : State) : State :=
  if s.flag CLK.BUSY then s.blkErr clkPage 20 4
  else if 1 < s.get CLK.FAB_SEL || 1 < s.get CLK.PAN_SEL || 3 < s.get CLK.CORE_SEL || (s.get CLK.FAB_SEL = 1 && s.busy ftlPage) then
    (s.put CLK.RESULT 2).blkErr clkPage 20 4
  else (s.put CLK.BUSY 1).put CLK.RESULT 0

/-- The edge at which the new set takes over (R536); flash rates follow FAB_CLK (R532). -/
def State.clkSwitch (s : State) : State :=
  if !s.flag CLK.BUSY then s
  else
    let s := ((s.put CLK.CLK_DIV_NOW s.divShadow).put CLK.BUSY 0).put CLK.RESULT 1
    (List.range 48).foldl (fun s c => if s.get FLC.STATE c = chReady then s.put FLC.RATE_NOW (s.flcRate c) c else s) s

/-! ## TIME_NS (R541, R542) -/

/-- TIME_SET: forward only. -/
def State.timeSet (s : State) (v : Nat) : State := if v < s.timeNs then s else { s with timeNs := v, slew := 0 }

/-- Lane time passes (R451): a lane assignment is the safe point of the minima (R468); connections send on once no packet waits for a lane; with hold space free the packet that has waited longest comes in (R456). -/
def State.cipherTick (s : State) (ns : Nat) : State :=
  let busy := laneWaits s.twn.cipher || laneWaits s.cmn.cipher || laneWaits s.flm.cipher
  let stuck := laneWaits s.cmn.cipher
  let s := s.laneTick ns
  let s := if busy then s.safePoint (pg .cip) else s
  let s := if stuck && !laneWaits s.cmn.cipher then s.cmn.conns.foldl (fun s c => s.cmnPump c.1) s else s
  match s.cmn.rxWait.head? with
  | some w => if s.holdFull w.2.1 then s else ({ s with cmn.rxWait := s.cmn.rxWait.drop 1 } : State).rxRun w.2.2
  | none => s

/-- One AON_CLK cycle: 40 ns, half of it while a backward correction runs (R541, R542); what falls due with it, the warden's table changes on their way to T1 among it (R476). -/
def State.tick (s : State) : State :=
  let n := min s.slew 20
  let s : State := { s with timeNs := s.timeNs + (40 - n), slew := s.slew - n }
  ((s.clkSwitch.harvestTick.dramDrain.srTick).cipherTick (40 - n)).sysSync

end Sys2Proof.Machine
end

