-- ==== Sys2Proof/Machine/Pwr.lean ====
section
/-! DEFINITION. Power domains (17): modes, entry, refusal, domain reset. The return to ON answers stalled accesses and stands with the control space. -/
namespace Sys2Proof.Machine

def pwrPage : Page := pg .pwr

/-- MODE values (Table 17-6). -/
def modeOn : Nat := 0
def modeRet : Nat := 1
def modeOff : Nat := 2

/-- The states a domain permits (Table 17-3). -/
def domPermits (n mode : Nat) : Bool :=
  let onOnly := n = 0 || n = 16 || n = 25 || n = 60 || n = 61 || n = 63
  if mode = modeOn then true
  else if mode = modeRet then !onOnly
  else if mode = modeOff then !onOnly && n != 1
  else false

/-- REFUSE codes (Table 17-6). -/
def refuseBrine : Nat := 1
def refusePan : Nat := 2
def refuseLink : Nat := 3
def refuseWork : Nat := 4
def refuseState : Nat := 5

/-- Whether a DRAM channel holds brine: a unit of 4 KiB spreads over every channel in use (R271). -/
def State.chanBrine (s : State) (c : Nat) : Bool := s.bitOf DMC.PAIRS_USED (c / 2) && 0 < s.devBrine

/-- Whether a class M write awaits its mirror acknowledgement (R54). -/
def State.mirrorWaits (s : State) : Bool := s.twn.replay.any fun r => r.cls == 0 && !r.acked

/-- Why PWR refuses to take a domain out of ON; off: an OFF entry or a domain reset (R26, R54, R256, R546, Table 17-3). -/
def State.refusal' (s : State) (n : Nat) (off : Bool) : Option Nat :=
  if 8 ≤ n && n < 16 && (List.range 4).any (fun k => s.flag HP.UP (n - 8) k) then some refuseLink
  else if n = 25 && off && 0 < s.devBrine then some refuseBrine
  else if 26 ≤ n && n < 42 && off && 0 < s.dirtyLines (n - 26) then some refusePan
  else if 42 ≤ n && n < 54 && s.dmcServes (n - 42) && s.chanBrine (n - 42) then some refuseBrine
  else if 54 ≤ n && n < 60 && off && !((List.range 8).all fun k => s.flcIdle ((n - 54) * 8 + k)) then some refuseWork
  else if n = 61 && s.mirrorWaits then some refuseWork
  else if n = 62 && (List.range 4).any (fun e => s.get CMP.LINK_UP e != 0) then some refuseLink
  else none

/-- A refusal is shown; that of a dirty slice in its page too (R256, R546). c: the control access that caused it (R44). -/
def State.refuse' (s : State) (n code bitNo : Nat) (c : Option Capture := none) : State :=
  let s := (s.put PWR.REFUSE code 0 n).blkErr pwrPage bitNo 4 (le 1 n) c
  if code = refusePan then s.blkErr (panPage (n - 26)) 18 4 [] c else s

/-- A write of PWR_DOM_MODE[n] (R543). -/
def State.domainMode (s : State) (n v : Nat) (c : Option Capture := none) : State :=
  let s := s.put PWR.IDLE_TIME (max 1 (bits v 16 16)) 0 n
  let m := bits v 0 2
  if domPermits n m then s.put PWR.MODE m 0 n else s.refuse' n refuseState 16 c

/-- A domain starts to leave ON for its MODE (R544); a DRAM channel goes to self-refresh first (R298). -/
def State.domainEnter (s : State) (n : Nat) : State :=
  let m := s.get PWR.MODE 0 n
  if s.get PWR.STATE 0 n ≠ domOn || m = modeOn || s.frozen then s
  else match s.refusal' n (m = modeOff) with
  | some k => s.refuse' n k 16
  | none =>
    let s := if 42 ≤ n && n < 54 then s.selfRefresh (n - 42) else s
    s.put PWR.STATE domEntering 0 n

/-- R543, R544: the idle detector has reported a domain idle for IDLE_TIME. -/
def execDomainIdleEntry (dom : Dom) (s : State) : Res :=
  let n := dom.val
  if n < 8 || (domPages n).any s.busy then .next s else .next (s.domainEnter n)

/-- R543, R544: the warden, or the last core of a cluster, waits for an event. -/
def execWaitForEvent (who : Waiter) (s : State) : Res :=
  match who with
  | .warden => .next (s.domainEnter 1)
  | .cluster k => .next (s.domainEnter (2 + k.val))

/-- R544: entry ends; a wake latched meanwhile starts the domain at once. -/
def execDomainEntryEnd (dom : Dom) (s : State) : Res :=
  let n := dom.val
  if s.get PWR.STATE 0 n ≠ domEntering then .next s
  else
    let m := s.get PWR.MODE 0 n
    let s := s.put PWR.STATE (if m = modeOff then domOff else if m = modeRet then domRet else domOn) 0 n
    .next (if s.bitOf PWR.PWR_WAKE_LATCH n then s.wakeStart n else s)

/-- PWR_DOM_RESET (R547): each domain named is reset or refused; PD0 and PD1 never are. The reset of a domain that holds a participant ends a commit at once (R64). -/
def State.domReset (s : State) (mask : Nat) (c : Option Capture := none) : State :=
  ((setBitsOf 64 mask).filter (2 ≤ ·)).foldl (fun s n => match s.refusal' n true with
    | some k => s.refuse' n k 18 c
    | none => (s.stageInterrupt fun p => Page.dom p == n).put PWR.STATE domResetting 0 n) s

end Sys2Proof.Machine
end

