-- ==== Sys2Proof/Machine/Cip.lean ====
section
/-! DEFINITION. The cipher's warden jobs and the hash and signature engines (14). -/
namespace Sys2Proof.Machine

def cipPage : Page := pg .cip
def hshPage : Page := pg .hsh

/-- R453: a lane leaves service, and its record waits for another; the minima rescale by themselves, since they are computed from LANES_OK. -/
def execCipherLaneFail (lane : Fin 24) (s : State) : Res :=
  if s.bitOf CIP.LANES_OK lane.val then .next (((s.putBit CIP.LANES_OK lane.val false).laneGone lane.val).blkErr cipPage 17 5 (le 1 lane.val)) else .next s

/-! ## Cipher jobs (R454, R455, R468) -/

def cipGcmEnc : Nat := 1
def cipGcmDec : Nat := 2
def cipXtsEnc : Nat := 3
def cipXtsDec : Nat := 4

/-- A warden key slot; a slot not listed holds zero. -/
def State.wardenKey (s : State) (k : Nat) : Nat := (tget s.cip.keys k).getD 0

/-- START: the lane reads its key and keeps it (R457). A reserved JOB_OP starts nothing (log entry 28). -/
def State.cipStart (s : State) (c : Option Capture := none) : State :=
  let op := s.get CIP.JOB_OP
  if s.flag CIP.BUSY then s.blkErr cipPage 18 4 [] c
  else if op < 1 || 4 < op then s
  else { (s.put CIP.BUSY 1) with cip.job := some { op := op, key := s.wardenKey (s.get CIP.KEY_SLOT) } }

/-- Whether the lengths of a job are in the limits of R454. -/
def State.cipLengths (s : State) (op : Nat) : Bool :=
  let n := s.get CIP.JOB_LEN
  if op ≤ 2 then n ≤ 65536 && s.get CIP.AAD_LEN ≤ 512 else 512 ≤ n && n ≤ 65536 && n % 16 == 0

/-- What a job reads and writes: source and destination extent in bytes. -/
def State.cipExtents (s : State) (op : Nat) : Nat × Nat :=
  let n := s.get CIP.JOB_LEN
  let a := s.get CIP.AAD_LEN
  if op = cipGcmEnc then (a + n, n + 16) else if op = cipGcmDec then (a + n + 16, n) else (n, n)

def State.cipEnd (s : State) (x : Status) : State :=
  { ((s.put CIP.BUSY 0).put CIP.JOB_STATUS x.code) with cip.job := none }

/-- The job's operation on its buffers (R454, R455): the output at JOB_DST, or none when the tag fails. -/
def State.cipRun (s : State) (j : CipJob) : State :=
  let src := s.get CIP.JOB_SRC
  let dst := s.get CIP.JOB_DST
  let n := s.get CIP.JOB_LEN
  let a := s.get CIP.AAD_LEN
  let key := le 32 j.key
  let iv := le 12 (s.get CIP.JOB_IV)
  let tweak := le 16 (s.get CIP.JOB_IV)
  let aad := s.memRead src a
  let body := s.memRead (src + a) n
  let tagIn := s.memRead (src + a + n) 16
  let data := s.memRead src n
  let s := s.memSeen src (s.cipExtents j.op).1
  if j.op = cipGcmEnc then
    let (ct, tag) := Config.gcmSeal key iv aad body
    (s.memWrite dst (padTo n ct ++ padTo 16 tag)).cipEnd .ok
  else if j.op = cipGcmDec then
    match Config.gcmOpen key iv aad body tagIn with
    | some pt => (s.memWrite dst (padTo n pt)).cipEnd .ok
    | none => (s.inc CIP.AUTH_FAIL_CNT).cipEnd .authFail
  else if j.op = cipXtsEnc then (s.memWrite dst (padTo n (Config.xtsEnc key tweak data))).cipEnd .ok
  else (s.memWrite dst (padTo n (Config.xtsDec key tweak data))).cipEnd .ok

/-- R454, R455: the running job ends. -/
def execCipJobDone (s : State) : Res :=
  match s.cip.job with
  | none => .next s
  | some j =>
    let (a, b) := s.cipExtents j.op
    if !s.cipLengths j.op then .next ((s.inc CIP.LENGTH_ERR_CNT).cipEnd .lengthError)
    else if !s.inMem (s.get CIP.JOB_SRC) a || !s.inMem (s.get CIP.JOB_DST) b then .next (s.cipEnd .accessViolation)
    else .next (s.cipRun j)

/-- KEY_LOAD (R468): KEY_DATA goes to a slot and is zeroed. -/
def State.keyLoad (s : State) (sel : Nat) : State :=
  let v := s.get CIP.KEY_DATA
  { (s.put CIP.KEY_DATA 0) with cip.keys := if v = 0 then tdel s.cip.keys sel else tset s.cip.keys sel v }

/-- Whether the minima leave their sum at most 24 (R468). -/
def minimaOk (a b c : Nat) : Bool := a + b + c ≤ 24

/-! ## Hash and signature engines (R465-R469) -/

def hshSha256 : Nat := 1
def hshSha384 : Nat := 2
def hshSha512 : Nat := 3
def hshShake : Nat := 4
def hshVerify : Nat := 8
def hshSign : Nat := 9
def hshExport : Nat := 10

/-- START of engine e. -/
def State.hshStart (s : State) (e : Nat) (c : Option Capture := none) : State :=
  if s.flag HSH.BUSY 0 e then s.blkErr hshPage 16 4 [] c else s.put HSH.BUSY 1 0 e

/-- Whether an operation is one of the engine's (Table 14-4). -/
def hshValid (e op : Nat) : Bool := if e < 4 then 1 ≤ op && op ≤ 4 else 8 ≤ op && op ≤ 10

/-- Input and output lengths of an operation (Table 14-4). -/
def State.hshLens (s : State) (e op : Nat) : Nat × Nat :=
  let n := s.get HSH.SRC_LEN 0 e
  if op = hshSha256 then (n, 32) else if op = hshSha384 then (n, 48) else if op = hshSha512 then (n, 64)
  else if op = hshShake then (n, s.get HSH.DST_LEN 0 e)
  else if op = hshVerify then (64 + 2592 + 4627, 0) else if op = hshSign then (64, 4627) else (0, 2592)

def State.hshEnd (s : State) (e : Nat) (x : Status) : State := (s.put HSH.BUSY 0 0 e).put HSH.STATUS x.code 0 e

/-- The job's operation (Table 14-4, R466, R467). The randomness of a signature is a free value. -/
def State.hshRun (s : State) (e op iterations : Nat) : State :=
  let src := s.get HSH.SRC 0 e
  let dst := s.get HSH.DST 0 e
  let (n, m) := s.hshLens e op
  let x := s.memRead src n
  let s := s.memSeen src n
  let out (l : List Byte) (s : State) : State := (s.memWrite dst (padTo m l)).hshEnd e .ok
  if op ≤ hshSha512 then out (Config.sha3 m x) s
  else if op = hshShake then out (Config.shake256 m x) s
  else if op = hshVerify then
    (s.put HSH.VERIFY_PASS (b2n (Config.mldsaVerify ((x.drop 64).take 2592) (x.take 64) (x.drop 2656))) 0 e).hshEnd e .ok
  else if op = hshSign then
    if 1000 < iterations then (s.hshEnd e .internal).blkErr hshPage 17 4
    else out (Config.mldsaSign s.wdn.fuses.idSeed x (Config.freeNat s.free)) s.useFree
  else out (Config.identityKey s.wdn.fuses.idSeed) s

/-- R465: the engine's job ends. -/
def execHshJobDone (eng : Fin 5) (iterations : Nat) (s : State) : Res :=
  let e := eng.val
  let op := s.get HSH.OP 0 e
  let (n, m) := s.hshLens e op
  if !s.flag HSH.BUSY 0 e then .next s
  else if !hshValid e op || (op = hshShake && (m = 0 || 65536 < m)) then .next (s.hshEnd e .lengthError)
  else if !s.inMem (s.get HSH.SRC 0 e) n || !s.inMem (s.get HSH.DST 0 e) m then .next (s.hshEnd e .accessViolation)
  else .next (s.hshRun e op iterations)

end Sys2Proof.Machine
end

