-- ==== Sys2Proof/Machine/Nvs.lean ====
section
/-! DEFINITION. The commands of the settings store (19). -/
namespace Sys2Proof.Machine

def nvsStore : Nat := 1
def nvsReload : Nat := 2
def nvsSlotWrite : Nat := 3
def nvsSlotErase : Nat := 4

/-- SLOT_WRITE (R579): the bytes come from memory once the length is known to fit. -/
def State.slotCommand (s : State) : State :=
  let id := s.get NVS.SLOT_ID
  let n := s.get NVS.SLOT_LEN
  match slotLimit id with
  | none => s.nvsResult nvsRefused
  | some m => if m < n then s.nvsResult nvsRefused else (s.memSeen (s.get NVS.SLOT_ADDR) n).slotWrite id (s.memRead (s.get NVS.SLOT_ADDR) n)

/-- A write of NVS_CMD (R577-R579, R581-R583). -/
def State.nvsCommand (s : State) (op : Nat) (c : Option Capture := none) : State :=
  if op < 1 || 4 < op then s
  else if s.flag NVS.BUSY then s.blkErr nvsPage 16 4 [] c
  else if op = nvsStore then s.storeRun
  else if op = nvsReload then s.reload
  else if op = nvsSlotWrite then s.slotCommand
  else s.slotErase (s.get NVS.SLOT_ID)

/-- R577: the STORE in progress ends, with what its readback has shown. -/
def execStoreDone (readback : Bool) (s : State) : Res := .next (s.storeEnd readback)

/-- R581: a token is added, and a STORE that waits for one runs. -/
def execTokenRefill (s : State) : Res :=
  let s := s.put NVS.TOKENS (min (s.get NVS.STORE_BURST) (s.get NVS.TOKENS + 1))
  .next (if s.flag NVS.PENDING && !s.flag NVS.BUSY then s.storeRun else s)

/-! ## Stores of the warden (R479, R480, R486) -/

/-- The warden makes a slot it has written durable. -/
def State.wardenStore (s : State) : State := if s.flag NVS.BUSY then s.put NVS.PENDING 1 else s.storeRun

/-- R317, R318, R480: the pointer is written, to the anchor blocks and the settings store, and the checkpoint is valid: the journal window begins at its start, and a format is complete. Or it fails. -/
def execCheckpointValid (pass : Bool) (s : State) : Res :=
  match s.flm.ckpt with
  | none => .next s
  | some a =>
    if pass then
      let w := s.flm.jwin.filter fun r => a ≤ r.stamp
      let s : State := { s.fastWrote 2 with flm := { s.flm with
          ckpt := none, ckNew := none, ckSaved := s.flm.ckNew.or s.flm.ckSaved, jwin := w, winPages := (w.length + 680) / 681 } }
      match s.nvs.image.dev with
      | some d => if d.formatPending && s.flm.formatted then .next ({ s with nvs.image.dev := some { d with formatPending := false } }).wardenStore else .next s
      | none => .next s
    else .next ({ s with flm := { s.flm with ckpt := none, ckNew := none } }.blkErr ftlPage 17 4)

end Sys2Proof.Machine
end

