-- ==== Sys2Proof/Machine/WardenOps.lean ====
section
/-! DEFINITION. The warden (15): images, slots, fuses, keys, cluster restarts, activation, debug levels, attestation. -/
namespace Sys2Proof.Machine

def wdnPage : Page := pg .wdn

/-- STAGE (Table 15-7). -/
def stageRom : Nat := 0
def stageInit : Nat := 1
def stageReleased : Nat := 2
def stageRestoring : Nat := 3
def stageRunning : Nat := 4
def stageRecovery : Nat := 5
def stageHalted : Nat := 6

/-- ACT_STATE (Table 15-7). -/
def actIdle : Nat := 0
def actHandover : Nat := 2
def actTrial : Nat := 4
def actDone : Nat := 5
def actReverted : Nat := 6

/-- IMG_TYPE (Table 15-9). -/
def imgWarden : Nat := 1
def imgService : Nat := 2

def sha512 (l : List Byte) : List Byte := Config.sha3 64 l

/-! ## Fuses (R481) -/

/-- The count of a thermometer code. -/
def fuseCount (v : Nat) : Nat := (setBitsOf 64 v).length

/-- The anti-rollback counter of an image type. -/
def State.svnFuse (s : State) (typ : Nat) : Nat := fuseCount (if typ = imgWarden then s.wdn.fuses.svnWdn else s.wdn.fuses.svnSvc)

/-- SVN_WDN and SVN_SVC show the fuses. -/
def State.svnShow (s : State) : State := (s.put WDN.SVN_WDN (s.svnFuse imgWarden)).put WDN.SVN_SVC (s.svnFuse imgService)

/-- Program bits of a field: each bit at most once (R481, Table 15-4). -/
def Fuses.program (f : Fuses) (x : FuseField) (v : Nat) : Fuses :=
  match x with
  | .rootHash => { f with rootHash := f.rootHash ||| v % 2 ^ 512 }
  | .ownerHash => { f with ownerHash := f.ownerHash ||| v % 2 ^ 512 }
  | .ownerRevoked => { f with ownerRevoked := f.ownerRevoked ||| v % 2 }
  | .ownerOnly => { f with ownerOnly := f.ownerOnly ||| v % 2 }
  | .svnWdn => { f with svnWdn := f.svnWdn ||| v % 2 ^ 64 }
  | .svnSvc => { f with svnSvc := f.svnSvc ||| v % 2 ^ 64 }
  | .idSeed => { f with idSeed := f.idSeed ||| v % 2 ^ 256 }
  | .devSecret => { f with devSecret := f.devSecret ||| v % 2 ^ 256 }
  | .debugMax => { f with debugMax := f.debugMax ||| v % 4 }

/-- A fuse-programming session (R600): the fuse supply is asked for, and once it is GOOD the fuses are programmed and the session ends. -/
def State.fuseSession (s : State) (f : Fuses → Fuses) : State :=
  if !s.seq.fuseOpen then { s.railStart 39 with seq.fuseOpen := true }
  else if s.railPhase 39 == .good then
    ({ s with seq.fuseOpen := false, wdn.fuses := f s.wdn.fuses } : State).svnShow.railRelease 39
  else s

/-! ## Images (R484-R486) -/

/-- Where an image slot stands: type × 2 + slot. -/
def slotKey (typ slot : Nat) : Nat := typ * 2 + slot

def State.slotImage (s : State) (typ slot : Nat) : List Byte := (tget s.wdn.bootBlocks (slotKey typ slot)).getD []
def State.slotMark (s : State) (typ slot : Nat) : SlotSt := (tget s.nvs.image.marks (slotKey typ slot)).getD .empty
def State.activeSlot (s : State) (typ : Nat) : Nat := (tget s.nvs.image.active typ).getD 0
def State.setMark (s : State) (typ slot : Nat) (m : SlotSt) : State :=
  { s with nvs.image.marks := if m = .empty then tdel s.nvs.image.marks (slotKey typ slot) else tset s.nvs.image.marks (slotKey typ slot) m }
def State.setActive (s : State) (typ slot : Nat) : State :=
  { s with nvs.image.active := if slot = 0 then tdel s.nvs.image.active typ else tset s.nvs.image.active typ slot }

def imgType (i : List Byte) : Nat := field i 0x6 1
def imgSigner (i : List Byte) : Nat := field i 0x7 1
def imgVer (i : List Byte) : Nat := field i 0x8 4
def imgSvn (i : List Byte) : Nat := field i 0xC 2
def imgMinHandover (i : List Byte) : Nat := field i 0xE 2
def imgBodyLen (i : List Byte) : Nat := field i 0x10 4
def imgBodyDigest (i : List Byte) : List Byte := padTo 64 ((i.drop 0x20).take 64)
def imgPubkey (i : List Byte) : List Byte := (i.drop 0x60).take 2592
def imgSignature (i : List Byte) : List Byte := (i.drop 0xA80).take 4627
def imgBody (i : List Byte) : List Byte := (i.drop 8192).take (imgBodyLen i)

/-- The signer rules of R485 for a public key. -/
def State.signerOk (s : State) (owner : Bool) (key : List Byte) : Bool :=
  let h := ofLe (sha512 key)
  let f := s.wdn.fuses
  if owner then h == f.ownerHash && f.ownerRevoked == 0 else h == f.rootHash && f.ownerOnly == 0

/-- Whether an image verifies (R485) as one of a type. -/
def State.imageOk (s : State) (typ : Nat) (i : List Byte) : Bool :=
  field i 0 4 == 0x57464B53 && field i 4 2 == 1 && imgType i == typ && imgBodyLen i ≤ (if typ = imgWarden then 786432 else 3145728) &&
  i.length == 8192 + imgBodyLen i && ((i.drop 0x1C93).take 0x36D).all (· == 0) &&
  imgSigner i ≤ 1 && s.signerOk (imgSigner i == 1) (imgPubkey i) &&
  Config.mldsaVerify (imgPubkey i) (sha512 (i.take 0xA80)) (imgSignature i) &&
  sha512 (imgBody i) == imgBodyDigest i && s.svnFuse typ ≤ imgSvn i

/-- A new image in the standby slot of its type is checked and marked (R491). -/
def State.slotCheck (s : State) (typ slot : Nat) : State :=
  (s.setMark typ slot (if s.imageOk typ (s.slotImage typ slot) then .valid else .invalid)).wardenStore

/-- The standby slot of a type. -/
def State.standby (s : State) (typ : Nat) : Nat := 1 - s.activeSlot typ

/-! ## Keys (R482, R483) -/

/-- Where a key stands in the settings image's slot 0x05. -/
def KeyUse.ix : KeyUse → Nat
  | .manager => 0
  | .pair => 1
  | .role r tx => 2 + r.toNat * 2 + b2n tx

def State.identityDigest (s : State) : List Byte := sha512 (Config.identityKey s.wdn.fuses.idSeed)

/-- The AAD of a wrapped key. -/
def WrappedKey.aad (w : WrappedKey) : List Byte := le 64 w.ident.toNat ++ le 8 w.counter.toNat

/-- The ALARM role's sending key goes to warden key slot 15 (R592). -/
def State.alarmKey (s : State) : State :=
  match tget s.nvs.image.keys (KeyUse.ix (.role 3 true)) with
  | some k => { s with cip.keys := tset s.cip.keys 15 (ofLe (k.take 32)) }
  | none => s

/-- A wrapped key is accepted under a key when it is for this SK960, its counter is above the last and its tag verifies (R483); KEY_CTR takes the counter, the settings image the key. Gives whether it was. -/
def State.keyAccept (s : State) (kek : List Byte) (w : WrappedKey) : State × Bool :=
  if le 64 w.ident.toNat != s.identityDigest || w.counter.toNat ≤ s.wdn.keyCtr then (s, false)
  else match Config.unwrapKey kek (WrappedKey.aad w) w.wrapped with
  | none => (s, false)
  | some k =>
    let s : State := { s.fastWrote 5 with wdn.keyCtr := w.counter.toNat, nvs.image.keys := tset s.nvs.image.keys (KeyUse.ix w.use) k }
    let s : State := if w.use = .manager then { s.put WDN.KEYS_SEALED 1 with wdn.keysSealed := true } else s
    (s.alarmKey.wardenStore, true)

/-- A delivered key (KEY_DELIVER): encrypted under the manager key. -/
def State.keyDeliver (s : State) (w : WrappedKey) : State × Bool :=
  match tget s.nvs.image.keys (KeyUse.ix .manager) with
  | some k => s.keyAccept k w
  | none => (s, false)

/-! ## Service clusters (R475, R493) -/

def clusterDoms : List Nat := (List.range 6).map (2 + ·)

/-- Whether control accesses stall on a domain (R41). -/
def State.stalledOn (s : State) (n : Nat) : Bool := s.ctl.stalled.any fun x => (Page.ofOff x.off.toNat).any fun p => Page.dom p == n

/-- Every cluster is reset and runs again; one on which accesses stall reaches ON by DOMAIN_ON, which answers them (R545, R547). -/
def State.clustersStart (s : State) : State :=
  clusterDoms.foldl (fun s n => (s.domainReset n).put PWR.STATE (if s.stalledOn n then domResetting else domOn) 0 n) s

/-- Every cluster is OFF. -/
def State.clustersOff (s : State) : State :=
  { (clusterDoms.foldl (fun s n => s.put PWR.STATE domOff 0 n) s) with wdn.svcOff := true }

/-- The clusters are restarted, or left OFF after three restarts within one hour (R475). -/
def State.svcRestart (s : State) : State :=
  if s.wdn.svcOff then s
  else
    let recent := s.wdn.restarts.filter fun t => s.timeNs < t + 3600000000000
    if 3 ≤ recent.length then s.clustersOff.misc wdnPage 6
    else { (s.clustersStart.inc WDN.SVC_RESTARTS) with wdn.restarts := recent ++ [s.timeNs] }.misc wdnPage 5

/-! ## Activation of a service image (R493, R494) -/

/-- Whether an activation is in progress. -/
def State.activating (s : State) : Bool := s.wdn.act.isSome

/-- Steps 1 and 2: the VALID image is loaded into the idle bank and checked again, the running image is told. Gives whether it was. -/
def State.actStart (s : State) : State × Bool :=
  let slot := s.standby imgService
  let img := s.slotImage imgService slot
  if s.activating then (s, false)
  else if s.slotMark imgService slot ≠ .valid then (s, false)
  else if !s.imageOk imgService img then ((s.setMark imgService slot .invalid).wardenStore, false)
  else
    let bank := 1 - s.get WDN.SVC_BANK
    let rake := s.ftlGet FTL.RAKE_POLICY
    let s := if rake = 2 then s.ftlPut FTL.RAKE_POLICY 0 else s
    ({ s.put WDN.ACT_STATE actHandover with wdn := { s.wdn with banks := tset s.wdn.banks bank img, act := some { slot := slot, bank := bank, rake := rake } } }, true)

/-- RAKE_POLICY as it was before the activation. -/
def State.rakeRestore (s : State) (a : Activation) : State := if a.rake = 2 then s.ftlPut FTL.RAKE_POLICY 2 else s

/-- The activation ends REVERTED (Table 15-11). -/
def State.actRevert (s : State) (a : Activation) (switched : Bool) : State :=
  let s := if switched then (s.put WDN.SVC_BANK (1 - a.bank)).clustersStart else s
  let s : State := { (s.rakeRestore a).put WDN.ACT_STATE actReverted with wdn.act := none }
  s.blkErr wdnPage 18 (if switched then 5 else 4)

/-! ## Debug (R497-R499) -/

/-- What level 3 costs: claims handed over or released, keys erased (R498). -/
def State.debugErase (s : State) : State :=
  let s := s.controllerFault.fenceAll
  { s with cip.keys := [], cmn.conns := tmap s.cmn.conns fun _ c => { c with keys0 := none, keys1 := none } }

/-- A level is granted. -/
def State.debugGrant (s : State) (level : Nat) : State :=
  let s := if level = 3 then s.debugErase else s
  let s : State := if level = 2 then { s.put WDN.KEYS_SEALED 0 with wdn.keysSealed := false } else s
  { s.put WDN.DEBUG_LEVEL level with wdn.unlocked := s.wdn.unlocked || level != 0 }

/-! ## Attestation (R496) -/

/-- FLAGS of the report. -/
def State.attestFlags (s : State) : Nat :=
  let f := s.wdn.fuses
  b2n s.wdn.unlocked + f.ownerOnly * 2 + b2n (f.ownerHash != 0) * 4 + f.ownerRevoked * 8 + b2n (s.role == rolePaired) * 16 + s.get WDN.KEYS_SEALED * 32

/-- Bytes 0x000 to 0x20F of the report. The digest of the bank in use is a free value: the spec does not lay the bank out in bytes (log entry 31). -/
def State.attestBody (s : State) (nonce : List Byte) : List Byte :=
  let w := s.wdn.wdnImg
  let v := (tget s.wdn.banks (s.get WDN.SVC_BANK)).getD []
  let st := s.slotImage imgService (s.standby imgService)
  le 4 0x54414B53 ++ le 2 1 ++ le 2 s.attestFlags ++ padTo 32 nonce ++ le 8 s.timeNs ++ padTo 64 s.identityDigest ++
  le 4 Config.romVersion ++ le 2 (s.svnFuse imgWarden) ++ le 2 (s.svnFuse imgService) ++
  le 4 (imgVer w) ++ le 2 (imgSvn w) ++ le 2 (imgSvn v) ++ le 4 (imgVer v) ++ le 4 0 ++
  imgBodyDigest w ++ imgBodyDigest v ++ imgBodyDigest st ++ le 64 (Config.freeBits 512 s.free).toNat ++
  le 64 s.wdn.fuses.ownerHash ++ le 64 (match s.nvs.image.pairId with | some d => d.toNat | none => 0) ++ le 4 (s.get NVS.SEQ_IN_USE) ++ le 4 0

/-- The signed report. -/
def State.attest (s : State) (nonce : List Byte) : List Byte :=
  let b := s.attestBody nonce
  b ++ padTo 4627 (Config.mldsaSign s.wdn.fuses.idSeed (sha512 b) (Config.freeNat s.free))

/-! ## The protection map (R471) -/

/-- The tables with base registers of their own and their sizes in MiB (R166, R231, R412, R446). -/
def State.tableAreas (s : State) : List (Nat × Nat) :=
  [(s.get CME.CONN_BASE, 128), (s.get CME.KEY_BASE, 256), (s.get CME.PATH_BASE, 256), (s.get CME.CLAIM_BASE, 16), (s.get TIER.PIN_BASE, 256),
   (s.get TIER.SCTR_BASE, 128), (s.get TWN.RSM_BASE, (s.ftlGet FTL.USER_BLKS + 8 * 2 ^ 20 - 1) / (8 * 2 ^ 20))].map fun x => (x.1 * 4096, x.2 * 2 ^ 20)

/-- Whether a 2 MiB page holds a table of Table 15-3 or the key table: the system area's frames, or one of the areas. -/
def State.tablePage (s : State) (page : Nat) : Bool :=
  let a := page * 2 ^ 21
  let meets (lo n : Nat) : Bool := lo < a + 2 ^ 21 && a < lo + n
  meets (s.frameBase * 256) (s.ftlGet FTL.SYS_BLKS * 65536) || s.tableAreas.any fun x => meets x.1 x.2

/-- Whether the protection map opens a page to service cores. -/
def State.protOpen (s : State) (page : Nat) : Bool :=
  match s.wdn.prot with
  | some n => Config.protOpen n page && !s.tablePage page
  | none => false

end Sys2Proof.Machine
end

