-- ==== Sys2Proof/Machine/Boot.lean ====
section
/-! DEFINITION. The boot stages (Table 15-10): from PWRGOOD, from a warm reset, and from the resume entry, step by step as far as what they wait for allows. -/
namespace Sys2Proof.Machine

/-! ## Steps 1 and 2: ROM (R485-R488) -/

/-- The TRIAL mark is cleared before the ROM jumps to the slot; the change holds at once in the bank in use (log entry 32). -/
def State.trialClear (s : State) (slot : Nat) : State :=
  let clear (x : Settings) : Settings := { x with marks := tset x.marks (slotKey imgWarden slot) .valid }
  let bank (b : Option Bank) : Option Bank := b.map fun x => { x with image := clear x.image }
  let a := s.get NVS.BANK_IN_USE = 0
  { s with nvs := { s.nvs with image := clear s.nvs.image, bankA := if a then bank s.nvs.bankA else s.nvs.bankA, bankB := if a then s.nvs.bankB else bank s.nvs.bankB } }

/-- A warden image starts from a slot. -/
def State.wardenStart (s : State) (slot : Nat) (trial : Bool) : State :=
  { (s.put WDN.WDN_SLOT slot) with wdn := { s.wdn with wdnImg := s.slotImage imgWarden slot, trialRun := trial, boot := 3 } }

/-- RECOVERY (R487): nothing transmits, CLAIM_W is let go, an image is awaited on the console. -/
def State.recovery (s : State) (failed : Bool) : State :=
  let s := (s.put WDN.STAGE stageRecovery).aliveStop.claimRelease
  { s with wdn.bootFail := s.wdn.bootFail || failed }

/-- The slot the ROM starts: a TRIAL slot once, else the ACTIVE slot, else the other one. -/
def State.bootRom (s : State) : State :=
  let ok (k : Nat) : Bool := s.imageOk imgWarden (s.slotImage imgWarden k)
  let a := s.activeSlot imgWarden
  let started (s : State) (k : Nat) (t : Bool) : State := s.wardenStart k t
  if s.seq.strapBoot = 1 then s.recovery false
  else match [0, 1].find? fun k => s.slotMark imgWarden k == .trial with
  | some k =>
    let s := s.trialClear k
    if ok k then started s k true else if ok a then started s a false else if ok (1 - a) then started s (1 - a) false else s.recovery true
  | none => if ok a then started s a false else if ok (1 - a) then started s (1 - a) false else s.recovery true

/-! ## Step 3 (R530, R585, R597, Table 19-3) -/

/-- The fast counter page is read: bit r of bad says that row r of Table 19-3 reads INVALID (R585). -/
def State.fastRead (s : State) (bad : Nat) : State :=
  let s := s.put NVS.FAST_BAD bad
  let s := (setBitsOf 7 bad).foldl (fun s r => s.blkErr nvsPage 19 (if r = 0 then 7 else 6) (le 1 r)) s
  let s : State := if bit bad 0 then { s with twn.epochs := [] } else s
  let s : State := if bit bad 1 then { s with hrv.fast := match s.hrv.newest with
      | some x => if x.isSealed then x.seq else match s.hrv.prior with | some y => y.seq | none => 0
      | none => 0 } else s
  let s : State := if bit bad 3 then { s with flm.roStored := true } else s
  let s : State := if bit bad 4 then { s with twn := { s.twn with syncInSync := false, syncAll := false } } else s
  let s : State := if bit bad 5 then { s.fastWrote 5 with wdn.keyCtr := (s.nvs.image.keyCtr + 2 ^ 40) % 2 ^ 64 } else s
  if bit bad 6 then { s.fastWrote 6 with wdn.bootCnt := (s.nvs.image.bootCnt + 2 ^ 16) % 2 ^ 32 } else s

/-- What an earlier power cycle left to be recorded: a device-rail fault, a thermal trip, a substituted management port, a boot without a warden image. -/
def State.bootRecords (s : State) : State :=
  let s := match s.seq.bootRail with | some k => s.misc (pg .seq) 7 (le 1 k) | none => s
  let s := if s.seq.bootTrip then s.misc (pg .pwr) 7 else s
  let s := if mgmtPort s.seq.strapBif s.seq.strapMgmt ≠ s.seq.strapMgmt then s.misc (hpPage s.seq.strapMgmt) 4 else s
  let s := if s.wdn.bootFail then s.misc wdnPage 7 else s
  { s with seq := { s.seq with bootRail := none, bootTrip := false }, wdn.bootFail := false }

/-- The root PLL takes the preferred input and the divider set the stored values (R530). -/
def State.clkStored (s : State) : State :=
  let b := s.flag CLK.REF_PREF
  let s := if s.flag (refOk b) && s.get CLK.REF_IN_USE ≠ b2n b then s.refSwitch b else s
  if 1 < s.get CLK.FAB_SEL || 1 < s.get CLK.PAN_SEL || 3 < s.get CLK.CORE_SEL then s else s.put CLK.CLK_DIV_NOW s.divShadow

/-- Step 3: the settings image gives the RWP fields, the boot is counted, ALIVE_OUT runs; what the warden keeps in the image's slots is taken up. -/
def State.bootInit (s : State) (bad : Nat) : State :=
  let s := (s.fastRead bad).loadRwp fun _ => true
  let x := s.nvs.image
  let s : State := { s with
    seq := { s.seq with rows := x.rows, shadow := [] }, twn.pairId := x.pairId,
    wdn := { s.wdn with bootCnt := (s.wdn.bootCnt + 1) % 2 ^ 32, counters := [] } }
  let s := (((s.put WDN.KEYS_SEALED (b2n s.wdn.keysSealed)).svnShow).clkStored).alarmKey.bootRecords
  let s := ({ s.put WDN.STAGE stageInit with wdn.aliveOut := true } : State).pinOut "ALIVE_OUT" 0 (some true)
  if s.get SEQ.STATE = seqOn then s else s.powerUp

/-! ## Step 5 -/

/-- Training, bring-up and the step-load test start. At a cold start the training is restored where the stored image meets R274; otherwise always. A channel that still leaves self-refresh for a warm reset goes on with that (R299). -/
def State.bootBringUp (s : State) : State :=
  let cold := !s.wdn.warm && s.flm.luns.isEmpty
  let chans := (List.range 12).filter fun c => let st := s.get DMC.STATE c; st != dmcFailed && st != dmcExcluded && !s.dmc.srWait.contains c
  let s := chans.foldl (fun s c => s.dmcTrain c (!cold || s.imageFits c)) s
  let s := if cold then (List.range 48).foldl (fun s c => s.flmStart c) s else s
  if cold then s.stepStart else s

/-- The service image of the ACTIVE slot, or of the other, goes to bank A; without one the clusters stay OFF. -/
def State.serviceLoad (s : State) : State :=
  let ok (k : Nat) : Bool := s.slotMark imgService k != .invalid && s.imageOk imgService (s.slotImage imgService k)
  let a := s.activeSlot imgService
  match [a, 1 - a].find? ok with
  | some k => { s.put WDN.SVC_BANK 0 with wdn.banks := tset s.wdn.banks 0 (s.slotImage imgService k) }
  | none => s.clustersOff

/-- The warden makes the training images of a cold training durable (R274). -/
def State.trainStore (s : State) : State := if s.dmc.newImages then { s with dmc.newImages := false }.wardenStore else s

/-- Whether what step 5 waits for is over. -/
def State.bringUpOver (s : State) : Bool :=
  (List.range 12).all (fun c => s.get DMC.STATE c != dmcTraining) && (List.range 48).all fun c => s.get FLC.STATE c != chInit

/-! ## Step 6: device configuration and layout (R479, R480, R618) -/

/-- The largest USER_BLKS that R310 admits with so many system blocks: its bits from the highest down. -/
def State.maxUser (s : State) (sys : Nat) : Nat :=
  ((List.range 34).map fun i => 33 - i).foldl (fun n b => if s.capacityOk (n + 2 ^ b + sys) then n + 2 ^ b else n) 0

/-- The configuration a boot without slot 0x07 and without a checkpoint formats with. -/
def State.freshDev (s : State) : DevConfig :=
  { nodeId := 0, nodeValid := false, userBlks := s.maxUser 65536, sysBlks := 65536, hrvReserve := s.get HRV.HRV_RESERVE, roMin := s.ftlGet FTL.RO_MIN_PERMILLE, formatPending := true }

/-- The device configuration of this boot. Without slot 0x07 the newest checkpoint gives the capacity; after NVS_EMPTY it cannot be read. A format gets the capacity that R310 admits, and stores it. -/
def State.devConfig (s : State) : State :=
  match s.nvs.image.dev with
  | some d =>
    let r := s.put HRV.HRV_RESERVE d.hrvReserve
    if d.formatPending && !r.capacityOk (d.userBlks + d.sysBlks) then
      let s : State := { s with nvs.image.dev := some { d with userBlks := r.maxUser d.sysBlks } }
      (s.misc wdnPage 5).wardenStore
    else s
  | none =>
    let d := s.freshDev
    match (if s.get NVS.BANK_OK = 0 then none else s.flm.ckSaved.map fun c => (c.user, c.sys)) with
    | some (u, y) => { s with nvs.image.dev := some { d with userBlks := u, sysBlks := y, formatPending := false } }
    | none => ({ s with nvs.image.dev := some d } : State).wardenStore

def mib2 (bytes : Nat) : Nat := (bytes + 2 ^ 21 - 1) / 2 ^ 21 * 2 ^ 21

/-- OUTSIDE: the outside areas of R618, each rounded up to 2 MiB. -/
def State.outside (s : State) : Nat :=
  let n := s.ftlGet FTL.USER_BLKS + s.ftlGet FTL.SYS_BLKS
  mib2 (1040 * 2 ^ 20) + mib2 (5 * ((n + 50) / 51)) + mib2 ((s.ftlGet FTL.USER_BLKS + 7) / 8) + mib2 (s.ftlGet FTL.MAP_CACHE_GIB * 2 ^ 30) + mib2 (s.get TIER.BITTERN_MIB * 2 ^ 20)

/-- Areas one after another in an order that the spec leaves open: a free one (log entry 29). -/
def freeOrder (l : List (Fld × Nat)) : List (Fld × Nat) := l.zipIdx.foldl (fun a x => a.insertIdx (Config.tableBase x.2 % (a.length + 1)) x.1) []

/-- Base registers for areas of so many 4 KiB pages, from a page on, with free gaps that come to no more than the slack. -/
def State.layAreas (s : State) (lo slack : Nat) (l : List (Fld × Nat)) : State :=
  ((freeOrder l).zipIdx.foldl (fun (a : State × Nat × Nat) x =>
    let gap := Config.tableBase (16 + x.2) % (a.2.2 + 1)
    (a.1.put x.1.1 (a.2.1 + gap), a.2.1 + gap + x.1.2, a.2.2 - gap)) (s, lo, slack)).1

/-- The layout of DRAM (R618): the frames, then the base of every table. The outside areas fill what lies below the bittern area and FRAME_BASE; the persistent tables of Table 15-3 lie in the T1 frames of the system area (R189). No two areas meet. -/
def State.layout (s : State) : State :=
  let mirror := s.get HRV.HRV_TIDE_CFG * 16
  let s : State := { s.put TIER.MIRROR_FRAMES mirror with tier.bitternMib := s.get TIER.BITTERN_MIB }
  let s := s.put TIER.T1_FRAMES (s.get DMC.DRAM_GIB * 16384 - mirror - s.outside / 65536)
  let mib (n : Nat) : Nat := n * 256
  let n := s.ftlGet FTL.USER_BLKS + s.ftlGet FTL.SYS_BLKS
  let out : List (Fld × Nat) := [(TIER.PIN_BASE, mib 256), (TIER.SCTR_BASE, mib 128), (CME.CONN_BASE, mib 128), (CME.KEY_BASE, mib 256), (CME.PATH_BASE, mib 256), (CME.CLAIM_BASE, mib 16),
    (FTL.MDIR_BASE, mib2 (5 * ((n + 50) / 51)) / 4096), (TWN.RSM_BASE, mib2 ((s.ftlGet FTL.USER_BLKS + 7) / 8) / 4096), (FTL.MCACHE_BASE, mib2 (s.ftlGet FTL.MAP_CACHE_GIB * 2 ^ 30) / 4096)]
  let sys : List (Fld × Nat) := [(XLT.RDT_BASE, mib 1024), (XLT.RKT_BASE, mib 256), (XLT.EXT_BASE, mib 8), (QE.QE_CTX_BASE, mib 128), (QE.QE_PMAP_BASE, mib 1024), (TIER.QT_BASE, 64)]
  let frames := s.frameBase / 16
  (s.layAreas 0 0 out).layAreas frames (s.ftlGet FTL.SYS_BLKS * 16 - (sys.map Prod.snd).foldl (· + ·) 0) sys

/-- Step 6. -/
def State.bootConfig (s : State) : State :=
  let s := s.devConfig
  let s := match s.nvs.image.dev with
    | some d => ((((s.put CME.NODE_ID d.nodeId).ftlPut FTL.USER_BLKS d.userBlks).ftlPut FTL.SYS_BLKS d.sysBlks).put HRV.HRV_RESERVE d.hrvReserve).ftlPut FTL.RO_MIN_PERMILLE d.roMin
    | none => s
  { s.layout with wdn.prot := some s.wdn.bootCnt }

/-! ## Step 7: grants and LOCK (Table 15-6) -/

/-- OWNER of a page as the shipped warden writes it. -/
def grantOf (p : Page) : Nat :=
  match p.blk with
  | .cip | .hsh | .nvs | .dbg => 0x0000
  | .clk | .pwr | .seq | .recd | .qe | .xlt => 0x3F02
  | .hp => 0x3F0A
  | .wdn | .evf | .svc | .mov | .pan | .dmc | .cmn | .mgt => 0x3F06
  | .flm => if p.inst = 48 then 0x3F0E else 0x3F06
  | .top | .tier | .hrv | .twn => 0x3F0E

/-- OWNER written as one word. -/
def State.setOwner (s : State) (p : Page) (v : Nat) : State :=
  ((((s.wr p HDR.SVC_CLUSTERS (bits v 8 6)).wr p HDR.HOST_W (bits v 4 1)).wr p HDR.HOST_R (bits v 3 1)).wr p HDR.SVC_W (bits v 2 1)).wr p HDR.SVC_R (bits v 1 1)

def State.bootGrant (s : State) : State :=
  allPages.foldl (fun s p => if s.rd p HDR.LOCK = 1 then s else (s.setOwner p (grantOf p)).wr p HDR.LOCK 1) s

/-! ## The stages in their order -/

/-- The boot stands at this step. -/
def State.bootTo (s : State) (n : Nat) : State := { s with wdn.boot := n }

/-- R480: the stored copy asks for a format, and the flash has not been started. -/
def State.formatDue (s : State) : Bool :=
  match s.nvs.image.dev with | some d => d.formatPending && s.flmState == flmInit | none => false

/-- The warden's own trial image has come up: it is made active. -/
def State.trialPass (s : State) : State :=
  if s.wdn.trialRun then (s.setActive imgWarden (s.get WDN.WDN_SLOT)).wardenStore else s

/-- The boot is over. -/
def State.bootEnd (s : State) : State := { s with wdn := { s.wdn with boot := 12, trialRun := false, warm := false } }

/-- One step of Table 15-10, or none while it waits: for the warden image, for a reference and the lock of the root PLL, for the rails, for training and bring-up, for replay, for restore, which a warm reset has not ended (R29, R117). Steps 2, 3, 6 and 7 of the resume entry hold what an earlier boot has locked. -/
def State.bootStep (bad : Nat) (s : State) : Option State :=
  let k := s.wdn.boot
  if k = 1 then some ((s.put WDN.STAGE stageRom).svnShow.bootTo 2)
  else if k = 2 then
    if s.get WDN.STAGE = stageRecovery then none
    else some ((if s.wdn.warm then s else s.nvsLoad).bootRom)
  else if k = 3 then if s.clk.bootWait || s.get CLK.ROOT_STATE ≠ rootLocked then none else some ((s.bootInit bad).bootTo 4)
  else if k = 4 then if s.get SEQ.STATE ≠ seqOn then none else some (s.bootBringUp.serviceLoad.bootTo 5)
  else if k = 5 then if s.bringUpOver then some (s.trainStore.bootTo 6) else none
  else if k = 6 then some ((if s.rd wdnPage HDR.LOCK = 1 then s else s.bootConfig).bootTo 7)
  else if k = 7 then some (s.bootGrant.bootTo 8)
  else if k = 8 then some (({ s.put WDN.STAGE stageReleased with hp := { s.hp with released := true, memoryActive := false, activeBound := s.restoreBound } } : State).bootTo 9)
  else if k = 9 then
    if s.formatDue then some (s.ftlFormat.bootTo 10)
    else if s.flmState = flmInit then some (s.ftlPut FTL.FLM_STATE flmReplay)
    else if s.flmState = flmReplay then none
    else some (s.bootTo 10)
  else if k = 10 then
    if s.get HRV.STATE = hrvRestoring then (if s.get WDN.STAGE = stageRestoring then none else some (s.put WDN.STAGE stageRestoring))
    else if s.wdn.warm && s.hrv.restored then
      some (({ s.put WDN.STAGE stageRunning with hp.memoryActive := s.hp.memoryActive || s.get HRV.STATE != hrvIncomplete } : State).bootTo 11)
    else if s.get WDN.STAGE ≠ stageRestoring then some (s.put WDN.STAGE stageRestoring).restoreStart
    else some ((s.put WDN.STAGE stageRunning).bootTo 11)
  else if k = 11 then some (s.trialPass.formStart.bootEnd)
  else none

/-- Steps as long as none waits; the fuel is above the number of steps. -/
def State.bootRun (bad : Nat) : Nat → State → State
  | 0, s => s
  | k + 1, s => match s.bootStep bad with | some s' => State.bootRun bad k s' | none => s

/-- R488: the boot goes on from where it stands; a harvest has ended it (Table 11-3). -/
def execColdBoot (fastBad : BitVec 7) (s : State) : Res :=
  if s.seq.pwrgood && !s.frozen then .next (State.bootRun fastBad.toNat 20 s) else .next s

end Sys2Proof.Machine
end

