-- ==== Sys2Proof/Machine/Warden.lean ====
section
/-! DEFINITION. The commands of the warden (15) that are no control accesses. -/
namespace Sys2Proof.Machine

/-! ## Watchdogs (R474, R475) -/

/-- The warden pair halts: every group is released, the twin link stops, ALIVE_OUT stops, a harvest of cause COLD_RESET starts (R474). Before the warden runs there is nothing to halt. -/
def State.wardenHalt (s : State) : State :=
  if s.wdn.boot < 3 then s
  else
    let s := if s.linkUp then s.twinSend 0x0A 0 0 0 0xFFFF [] else s
    let s := ((s.fenceAll.put TWN.BUNDLES 0).aliveStop).put WDN.STAGE stageHalted
    (s.misc wdnPage 7).harvestStart 2

def execWardenWatchdogExpiry (s : State) : Res := .next s.wardenHalt
def execLockstepMismatch (s : State) : Res := .next s.wardenHalt

/-- R475: a cluster's watchdog expires. -/
def execSvcWatchdogExpiry (_cluster : Cluster) (s : State) : Res := .next s.svcRestart

/-- R486: a warden image has not reached RELEASED within 2 s. -/
def execTrialTimeout (s : State) : Res := if 3 ≤ s.wdn.boot && s.wdn.boot ≤ 8 then .next s.coldReset else .next s

/-- R487: an image over the console, in RECOVERY. -/
def execUartImage (img : List (BitVec 8)) (s : State) : Res :=
  if s.get WDN.STAGE = stageRecovery && s.imageOk imgWarden img then
    .next { s.put WDN.STAGE stageRom with wdn := { s.wdn with wdnImg := img, trialRun := false, boot := 3 } }
  else .next s

/-- R483: on the console, while KEYS_SEALED is 0, the manager key under a commissioning key. -/
def execCommissioningKey (key : List (BitVec 8)) (wrapped : WrappedKey) (s : State) : Res :=
  if s.flag WDN.KEYS_SEALED || wrapped.use ≠ .manager || s.wdn.boot < 4 then .next s else .next (s.keyAccept key wrapped).1

/-! ## Fuses (R481, R495) -/

/-- R481: the warden programs bits of a field, in a session with the fuse supply on. -/
def execFuseProgram (field : FuseField) (bits : Nat) (s : State) : Res := .next (s.fuseSession fun f => Fuses.program f field bits)

/-- The counters raised to the SVN of the ACTIVE images. -/
def State.svnRaise (s : State) (f : Fuses) : Fuses :=
  let up (typ v : Nat) : Nat := v ||| (2 ^ min 64 (imgSvn (s.slotImage typ (s.activeSlot typ))) - 1)
  { f with svnWdn := up imgWarden f.svnWdn, svnSvc := up imgService f.svnSvc }

/-- Slots whose SVN has fallen below the counter become INVALID (R495). -/
def State.svnInvalid (s : State) : State :=
  [(1, 0), (1, 1), (2, 0), (2, 1)].foldl (fun s x =>
    if s.slotMark x.1 x.2 ≠ .empty && imgSvn (s.slotImage x.1 x.2) < s.svnFuse x.1 then s.setMark x.1 x.2 .invalid else s) s

/-- R495: refused while a slot is TRIAL or an activation runs; the counters are burnt as other fuses are. -/
def execCommitSvn (s : State) : Res :=
  if s.slotMark imgWarden 0 = .trial || s.slotMark imgWarden 1 = .trial || s.activating then .next s
  else
    let t := s.fuseSession s.svnRaise
    if s.seq.fuseOpen && !t.seq.fuseOpen then .next t.svnInvalid.wardenStore else .next t

/-! ## Activation (R493, R494) -/

/-- R493 steps 3 and 4: READY: the clusters start in the new bank, which refuses a handover below its MIN_HANDOVER. -/
def execActReady (version : BitVec 16) (s : State) : Res :=
  match s.wdn.act with
  | none => .next s
  | some a =>
    if s.get WDN.ACT_STATE ≠ actHandover then .next s
    else
      let s := ((s.put WDN.SVC_BANK a.bank).clustersStart).put WDN.ACT_STATE actTrial
      if version.toNat < imgMinHandover ((tget s.wdn.banks a.bank).getD []) then .next (s.actRevert a true) else .next s

/-- R493 step 5. -/
def execActRunning (s : State) : Res :=
  match s.wdn.act with
  | none => .next s
  | some a =>
    if s.get WDN.ACT_STATE ≠ actTrial then .next s
    else
      let s := ((s.rakeRestore a).setActive imgService a.slot).put WDN.ACT_STATE actDone
      .next ({ s with wdn.act := none } : State).wardenStore

/-- R494: the awaited report has not come. -/
def execActTimeout (s : State) : Res :=
  match s.wdn.act with
  | none => .next s
  | some a => .next (s.actRevert a (s.get WDN.ACT_STATE = actTrial))

/-! ## Debug (R497-R499) -/

def dbgPage : Page := pg .dbg

/-- R497: a fresh challenge. -/
def execDebugChallenge (s : State) : Res :=
  let c := le 32 (Config.freeBits 256 s.free).toNat ++ padTo 32 s.identityDigest
  .next ({ s.useFree with wdn.challenge := some c }.emit (.debug c))

/-- R497-R499: the response to the last challenge: granted or refused, recorded at severity 5; three failures end the attempts. -/
def execDebugResponse (level : BitVec 2) (owner : Bool) (key : List (BitVec 8)) (signature : List (BitVec 8)) (s : State) : Res :=
  let l := level.toNat
  let ok : Bool := match s.wdn.challenge with
    | some c => s.wdn.debugFails < 3 && s.signerOk owner key && Config.mldsaVerify key (sha512 (c ++ le 1 l)) signature && l ≤ s.wdn.fuses.debugMax
    | none => false
  let s : State := { s with wdn.challenge := none }
  if ok then .next ((s.debugGrant l).misc dbgPage 5 (le 1 l ++ le 1 1))
  else .next ({ s with wdn.debugFails := s.wdn.debugFails + 1 }.misc dbgPage 5 (le 1 l ++ le 1 0))

/-! ## Service-core accesses to DRAM (R471) -/

/-- R471: an access to a page whose bit is clear reads 0 or is ignored, and is recorded. -/
def execSvcDramViol (cluster : Cluster) (addr : BitVec 64) (write : Bool) (s : State) : Res :=
  if s.protOpen (addr.toNat / 2 ^ 21) then .next s
  else
    let s := if write then s else s.emit (.device "SVC_DRAM_READ" [cluster.val, addr.toNat, 0])
    .next (s.blkErr wdnPage 17 5 (le 1 cluster.val ++ le 8 addr.toNat))

/-! ## The mailbox (R472, R473) -/

/-- A submission: MB_REQ of a slot is written. The warden's copy of the request is taken with it. -/
def State.mbSubmit (s : State) (req : Requester) (k opcode seq len : Nat) (c : Capture) : State :=
  if s.get WDN.DONE 0 k = 0 then s.blkErr wdnPage 16 4 [] (some c)
  else
    let s := (((s.put WDN.OPCODE opcode 0 k).put WDN.SEQ seq 0 k).put WDN.LEN len 0 k).put WDN.DONE 0 0 k
    let a := s.get WDN.BUF_ADDR 0 k
    let body := if a = 0 then (le 240 (s.get WDN.PAYLOAD 0 k)).take len else s.memRead a len
    { s.memSeen a (if a = 0 then 0 else len) with wdn.requests := tset s.wdn.requests k { req := req, opcode := opcode, seq := seq, payload := body } }

/-- The slot the warden answers next: round robin (R473). -/
def State.mbNext (s : State) : Option Nat :=
  ((List.range 8).map fun j => (s.wdn.nextSlot + j) % 8).find? fun k => thas s.wdn.requests k

/-- The answer: MB_RSP and the response in the slot; a refusal for ACCESS_VIOLATION is recorded (R472). -/
def State.mbAnswer (s : State) (k status : Nat) (rsp : List Byte) : State :=
  match tget s.wdn.requests k with
  | none => s
  | some r =>
    let s := ((s.put WDN.DONE 1 0 k).put WDN.RSP_SEQ r.seq 0 k).put WDN.STATUS status 0 k
    let s := if rsp.isEmpty then s else s.put WDN.PAYLOAD (ofLe (padTo 240 rsp)) 0 k
    let s : State := { s with wdn := { s.wdn with requests := tdel s.wdn.requests k, nextSlot := (k + 1) % 8 } }
    if status = Status.accessViolation.code then s.misc wdnPage 5 (le 1 k ++ le 1 r.opcode) else s

end Sys2Proof.Machine
end

