-- ==== Sys2Proof/Machine/Live.lean ====
section
/-! DEFINITION. What a control-space read sees (02): fields that show a block's state rather than a stored value, the windows behind index registers, and the words of a page. -/
namespace Sys2Proof.Machine

/-- The fields that show the model's state of their block; none: the register file holds the value. -/
def State.shown (s : State) (p : Page) (f : Fld) (i : Nat) : Option Nat :=
  let n := p.inst
  if f.off < 0x100 then
    if f = HDR.QUIESCED then some (b2n (s.quiesced p))
    else if f = HDR.ENABLED then some (s.rd p HDR.ENABLE)
    else if f = HDR.STAT_LOCKED then some (s.rd p HDR.LOCK)
    else none
  else match p.blk with
  | .clk => if f = CLK.TIME_NS then some s.timeNs else none
  | .xlt => if f = XLT.REVOKE_OPEN then some (s.xlt.registrations.filter fun e => e.2.state == .closing).length else none
  | .hp =>
    if f = HP.HOLD then some (b2n (s.hpHold n))
    else if f = HP.WRO then some (s.get XLT.MEDIA_RO)
    else none
  | .mov => if f = MOV.PARKED then some s.parkedCount else none
  | .tier =>
    if f = TIER.DEV_BRINE then some s.devBrine
    else if f = TIER.TIDE_M then some s.tideM
    else if f = TIER.PINNED then some (s.tier.blocks.filter fun e => !e.2.pins.isEmpty).length
    else if f = TIER.LOOSE then some (s.tier.blocks.filter fun e => e.2.loose).length
    else if f = TIER.RISING then some (s.tier.blocks.filter fun e => e.2.state == .rising).length
    else if f = TIER.FREE then some s.freeFrames
    else if f = TIER.SCHED_RUN then some s.tier.schedules.length
    else if f = TIER.ENTRIES_RUN then some ((s.tier.schedules.map fun x => x.entries.length).foldl (· + ·) 0)
    else none
  | .pan =>
    if f = PAN.DIRTY_LINES then some (s.dirtyLines n)
    else if f = PAN.LOCKED_LINES then some (s.lockedLines n)
    else none
  | .dmc => if f = DMC.URGENCY then some (s.urgencyReg n) else none
  | .flm => if f = FTL.VICTIM_DEPTH then some s.flm.victims.length else none
  | .twn => if f = TWN.RSM_COUNT then some s.twn.rsm.length else none
  | .cmn =>
    if f = CME.HOLD_FREE then some (512 - s.holdsUsed)
    else if f = CME.MSG_FREE then some (262144 - s.slotsUsed)
    else if f = CME.CONN_OPEN then some s.connCount
    else none
  | .evf =>
    if f = EVF.ROUTE_DATA then some (s.routeEntry (s.get EVF.ROUTE_IDX))
    else if f = EVF.CHAN_DATA then some (s.chanEntry (s.get EVF.CHAN_IDX))
    else if f = EVF.PENDING then some (s.chanPending (s.get EVF.CHAN_IDX))
    else none
  | .recd =>
    if f = REC.SPILLED_SEQ then some s.spilledSeq
    else if f = REC.SPILLING then some (b2n (!s.waitingRecords.isEmpty && !s.spillStopped))
    else none
  | .seq =>
    let (g, o) := (tget s.seq.snsCfg (s.get SEQ.SNS_IDX)).getD (0, 0)
    let k := s.get SEQ.TEMP_IDX
    if f = SEQ.RAIL_DATA then some ((s.shadowRow (s.get SEQ.RAIL_IDX)).getD i 0)
    else if f = SEQ.GAIN then some g
    else if f = SEQ.OFFSET then some o
    else if f = SEQ.SNS_VALUE then some (ofSigned 32 ((tget s.seq.sns (s.get SEQ.SNS_IDX)).getD 0))
    else if f = SEQ.FAULT_C then some (s.tempSet k).1
    else if f = SEQ.WARN_C then some (s.tempSet k).2.1
    else if f = SEQ.TEMP_SHUT then some (s.tempSet k).2.2
    else if f = SEQ.TEMP_VALUE then some (ofSigned 16 ((tget s.seq.temps k).getD 0))
    else none
  | .top | .pwr | .nvs | .wdn | .svc | .qe | .hrv | .cip | .hsh | .mgt | .dbg => none

/-- The live value of a field. -/
def State.live (s : State) (p : Page) (f : Fld) (i : Nat) : Nat := ((s.shown p f i).getD (s.rd p f i)) % 2 ^ f.width

/-- What a read of a field gives (Table 0-3, R55): write-only and write-1-to-set command fields read 0, a stageable field of an armed page with VIEW = 1 its shadow. -/
def State.readField (s : State) (p : Page) (f : Fld) (i : Nat) : Nat :=
  if f.acc = .wo || f.acc = .w1s then 0
  else if f.stage && s.rd p HDR.ARM = 1 && s.rd p HDR.VIEW = 1 then (tget s.ctl.shadow (f.key p i)).getD (s.live p f i)
  else s.live p f i

/-- The constant words of the header (R42, R615), with PD_ON of BLK_STAT, as page offset in bits, width and value. -/
def State.headWords (s : State) (p : Page) : List (Nat × Nat × Nat) :=
  [(0, 32, p.blk.code * 2 ^ 16 + p.inst * 2 ^ 8 + 1), (32, 32, 0x00010000), (64, 32, 0), (96, 32, 0), (0x14 * 8 + 2, 1, b2n (s.domainOn (Page.dom p)))]

/-- The fields of a page: its header's, its block's, and on SVC page k the mode of domain 2 + k (17). Each with the page and entry it is stored under and its first bit in this page. -/
def pageSlots (p : Page) : List (Page × Fld × Nat × Nat) :=
  let own := (hdrFields ++ pageFields p).flatMap fun f => (List.range f.cnt).map fun i => (p, f, i, (f.off + f.stride * i) * 8 + f.lo)
  if p.blk = .svc then own ++ [PWR.IDLE_TIME, PWR.MODE].map fun f => (pg .pwr, f, 2 + p.inst, 0x100 * 8 + f.lo) else own

/-- The fields that an access to n bytes at offset a of a page meets. -/
def slotsAt (p : Page) (a n : Nat) : List (Page × Fld × Nat × Nat) :=
  (pageSlots p).filter fun x => x.2.2.2 < (a + n) * 8 && a * 8 < x.2.2.2 + x.2.1.width

/-- The part of a value at first bit b that an access to n bytes at offset a sees. -/
def partOf (v b a n : Nat) : Nat := (if b < a * 8 then v >>> (a * 8 - b) else v <<< (b - a * 8)) % 2 ^ (n * 8)

/-- What a read of n bytes at offset a of a page gives. -/
def State.readPage (s : State) (p : Page) (a n : Nat) : Nat :=
  let h := ((s.headWords p).map fun x => partOf x.2.2 x.1 a n).foldl (· + ·) 0
  ((slotsAt p a n).map fun x => partOf (s.readField x.1 x.2.1 x.2.2.1) x.2.2.2 a n).foldl (· + ·) h

end Sys2Proof.Machine
end

