-- ==== Sys2Proof/Machine/Access.lean ====
section
/-! DEFINITION. Control-space accesses (02): who may read and write, what a write of a register does, reads, accesses that stall. -/
namespace Sys2Proof.Machine

/-! ## Requesters (R46, R48, R471, R497) -/

/-- Whether a requester acts as the warden: the warden, and the debug port at level 2 and above. -/
def State.asWarden (s : State) : Requester → Bool
  | .warden => true
  | .debug => 2 ≤ s.get WDN.DEBUG_LEVEL
  | .svc _ | .host => false

/-- Whether OWNER lets a requester read a page. -/
def State.mayRead (s : State) (r : Requester) (p : Page) : Bool :=
  match r with
  | .warden => true
  | .debug => s.asWarden r || s.rd p HDR.SVC_R == 1
  | .svc k => s.rd p HDR.SVC_R == 1 && bit (s.rd p HDR.SVC_CLUSTERS) k.val
  | .host => s.rd p HDR.HOST_R == 1

/-- Whether OWNER lets a requester write a page (R48). -/
def State.mayWrite (s : State) (r : Requester) (p : Page) : Bool :=
  match r with
  | .warden => true
  | .debug => s.asWarden r
  | .svc _ => s.mayRead r p && s.rd p HDR.SVC_W == 1
  | .host => s.mayRead r p && s.rd p HDR.HOST_W == 1

/-- The debug port reaches the control space only after debug unlock. -/
def State.reaches (s : State) (r : Requester) : Bool := r != .debug || s.get WDN.DEBUG_LEVEL != 0

/-- The page an access falls on: the HSH and CIP pages have no address on the service cores' bus (R471). -/
def pageFor (r : Requester) (off : Nat) : Option Page :=
  (Page.ofOff off).filter fun p => match r with | .svc _ => p.blk != .hsh && p.blk != .cip | .warden | .host | .debug => true

/-- Size and alignment of R39. -/
def legalAccess (off size : Nat) : Bool := (size == 4 || size == 8) && off % size == 0

def capOf (r : Requester) (off data : Nat) : Capture := { req := r.code, off := off, data := data }

/-! ## One field of a write -/

/-- A field that a write meets: its page, entry, value once merged with the part the write leaves, and the bits written. -/
structure FieldWrite where
  page : Page
  fld : Fld
  idx : Nat
  value : Nat
  written : Nat
deriving DecidableEq, Repr

/-- The bits n bytes of data at offset a give to a field of width w at first bit b. -/
def bitsFor (data b w a n : Nat) : Nat :=
  let d := data % 2 ^ (n * 8)
  (if a * 8 ≤ b then d >>> (b - a * 8) else d <<< (a * 8 - b)) % 2 ^ w

/-- What a field holds before a write merges with it: of a stageable field the shadow of an armed page, or the page's pending change (R63), else its live value; a field of the write-1 types nothing. -/
def State.before (s : State) (p : Page) (f : Fld) (i : Nat) : Nat :=
  match f.acc with
  | .w1s | .rw1c => 0
  | .wo => s.rd p f i % 2 ^ f.width
  | .ro | .rw | .rws | .rwp | .rwl =>
    if f.stage && s.rd p HDR.ARM = 1 then (tget s.ctl.shadow (f.key p i)).getD (s.live p f i)
    else match s.ctl.single.find? fun x => x.key == f.key p i with
      | some x => x.value % 2 ^ f.width
      | none => s.live p f i

/-- The fields a write of n bytes at offset a of a page meets. -/
def State.writesAt (s : State) (p : Page) (a n data : Nat) : List FieldWrite :=
  (slotsAt p a n).map fun x =>
    let (q, f, i, b) := x
    let mask := bitsFor (2 ^ (n * 8) - 1) b f.width a n
    let old := s.before q f i
    { page := q, fld := f, idx := i, value := old - (old &&& mask) + bitsFor data b f.width a n, written := mask }

/-- What becomes of a field of a write: it meets nothing to write, it is refused with a common error bit, or it is taken. -/
inductive Verdict where
  | skip
  | err (k : Nat)
  | take
deriving DecidableEq, Repr

/-- Whether a commit in flight holds the stageable fields of a page (R62). -/
def State.stageHeld (s : State) (p : Page) : Bool :=
  let g := s.get TOP.STAGE_GSTAT
  (g == gApplying || g == gRolling || g == gStuck) && (s.part p).isSome

/-- Whether a write leaves a field as it is whatever its rights: read-only fields, and zeros to fields of the write-1 types. -/
def FieldWrite.idle (x : FieldWrite) : Bool := x.fld.acc == .ro || ((x.fld.acc == .w1s || x.fld.acc == .rw1c) && x.value == 0)

/-- The checks on a field, in the order OWNER and the marking, LOCK, staging, quiescing (R46, R50, R53, R62; log entry 33). p: the page addressed. -/
def State.verdict (s : State) (r : Requester) (p : Page) (x : FieldWrite) : Verdict :=
  let f := x.fld
  if x.idle then .skip
  else if f.warden && !s.asWarden r then .err 0
  else if f.acc == .rwl && s.rd p HDR.LOCK == 1 then .err 1
  else if f.off < 0x100 then .take
  else if f.stage then (if s.stageHeld p then .err 3 else .take)
  else if f.free || s.quiesced p then .take
  else .err 2

/-! ## Storing a value -/

/-- A clamp that looks at no other field. -/
def Clamp.own (c : Clamp) (v : Nat) : Nat :=
  match c with
  | .lower n => max n v
  | .upper n => min n v
  | .both lo hi => min hi (max lo v)
  | .none | .atMost .. | .atLeast .. => v

/-- The value that the field at a place of the same page has after the write all. -/
def State.sibling (s : State) (all : List FieldWrite) (p : Page) (off lo : Nat) : Nat :=
  match all.find? fun x => x.fld.off == off && x.fld.lo == lo with
  | some x => x.fld.clamp.own x.value
  | none => match (pageFields p).find? fun f => f.off == off && f.lo == lo with
    | some f => s.before p f 0
    | none => 0

/-- The value stored for a field of the write all. -/
def State.clamped (s : State) (all : List FieldWrite) (x : FieldWrite) : Nat :=
  match x.fld.clamp with
  | .atMost off lo _ => min x.value (s.sibling all x.page off lo)
  | .atLeast off lo _ => max x.value (s.sibling all x.page off lo)
  | c => c.own x.value

/-- Store a field: a stageable field in the shadow of an armed page, else as a staged change of its page alone (R55, R63). -/
def State.store (s : State) (all : List FieldWrite) (x : FieldWrite) : State :=
  let v := s.clamped all x
  if !x.fld.stage then s.wr x.page x.fld v x.idx
  else if s.rd x.page HDR.ARM = 1 then s.stageShadow (x.fld.key x.page x.idx) v
  else s.stageSingle x.page (x.fld.key x.page x.idx) v

/-- The value a write gives to another field of it. -/
def valueIn (all : List FieldWrite) (f : Fld) (i : Nat) (d : Nat := 0) : Nat :=
  match all.find? fun x => x.fld == f && x.idx == i with | some x => x.value | none => d

/-! ## The header -/

/-- The severity of BLK_ERR bit k of a page where the block's chapter or this model gives it one (log entry 34); none: no source uses the bit. -/
def blkErrSev (p : Page) (k : Nat) : Option Nat :=
  let l : List Nat := match p.blk with
    | .hp => [4, 4, 4] | .qe => [4] | .xlt => [4] | .mov => [4, 4] | .tier => [4, 5, 4] | .pan => [4, 4, 4, 4] | .dmc => [4, 4, 4, 5, 5, 5]
    | .flm => if p.inst < 48 then [4, 4, 5, 5] else [4, 4, 4, 4]
    | .hrv => [5, 7, 5] | .twn => [4, 6, 5, 4, 6, 4] | .cmn => if p.inst = 4 then [4, 5, 4, 4] else [] | .cip => [4, 5, 4] | .hsh => [4, 4]
    | .wdn => [4, 5, 4] | .evf => [5] | .recd => [5, 4] | .clk => [4, 4, 5, 4, 4, 5] | .pwr => [4, 6, 4] | .seq => [4, 6, 6, 5, 5, 6, 6, 6]
    | .nvs => [4, 6, 6, 6, 4] | .mgt => [4] | .top | .svc | .dbg => []
  if k < 16 then none else l[k - 16]?

/-- The severity of a local source of index 0 to 31 of a page; 2 for a bit that no source uses (R512). -/
def State.sourceSev (s : State) (p : Page) (idx : Nat) : Nat :=
  if idx = 0 then 4 else if idx = 1 then (if s.rd p HDR.STAGE_STAT = stStuck then 5 else 2) else (blkErrSev p (idx + 14)).getD 2

/-- An occurrence of a page source seen in the same cycle as the access (R504). -/
def State.pageOccur (s : State) (p : Page) (idx : Nat) (forced : Bool) : State := s.occurWith State.errAlarm p idx (s.sourceSev p idx) [] forced

/-- EVT_FORCE (R512). -/
def State.force (s : State) (p : Page) (mask : Nat) : State := (setBitsOf 32 mask).foldl (fun s k => s.pageOccur p k true) s

/-- EVT_MASK (R504): a set bit that becomes unmasked is delivered once. -/
def State.maskSet (s : State) (p : Page) (v : Nat) : State :=
  let freed := (setBitsOf 32 (s.rd p HDR.EVT_STAT)).filter fun k => bit (s.rd p HDR.EVT_MASK) k && !bit v k
  freed.foldl (fun s k => s.deliver p k) (s.wr p HDR.EVT_MASK v)

/-- The bits of a write-1-to-clear field are cleared. -/
def State.clearBits (s : State) (p : Page) (f : Fld) (i mask : Nat) : State := s.wr p f (s.rd p f i - (s.rd p f i &&& mask)) i

/-- The refusal bit of a page that may not quiesce now (R54). -/
def State.quiesceRefusal (s : State) (p : Page) : Option Nat :=
  match p.blk with
  | .pan => if 0 < s.dirtyLines p.inst then some 17 else none
  | .dmc => if s.chanBrine p.inst then some 16 else none
  | .twn => if s.mirrorWaits then some 16 else none
  | _ => none

/-- A write of QUIESCE (R52, R54). -/
def State.quiesceSet (s : State) (p : Page) (v : Nat) (c : Capture) : State :=
  if v = s.rd p HDR.QUIESCE then s
  else if v = 1 then match s.quiesceRefusal p with
    | some k => s.blkErr p k 4 [] (some c)
    | none => (s.wr p HDR.QUIESCE 1).quiesceLatch p
  else
    let s := (s.wr p HDR.QUIESCED 0).wr p HDR.QUIESCE 0
    if p.blk = .pan || p.blk = .dmc || p.blk = .tier || p.blk = .xlt then s.unstall else s

/-- A write of STAGE_CTRL (R55, R59, R61, R62). -/
def State.stageCtrl (s : State) (p : Page) (epoch view arm : Nat) (c : Capture) : State :=
  let s := s.wr p HDR.VIEW view
  if s.stageHeld p then
    if epoch = s.rd p HDR.EPOCH && arm = s.rd p HDR.ARM then s
    else if arm = 0 && s.rd p HDR.STAGE_STAT = stStuck && s.quiesced p then s.stageUnstick p epoch
    else s.ctlErr p 3 4 c
  else if arm = 1 then s.stageArm p epoch
  else s.stageDisarm p epoch

/-- What a taken write of a header field does. -/
def State.headerEffect (s : State) (all : List FieldWrite) (c : Capture) (x : FieldWrite) : State :=
  let p := x.page
  if x.fld = HDR.QUIESCE then s.quiesceSet p x.value c
  else if x.fld = HDR.EVT_STAT then s.clearBits p HDR.EVT_STAT 0 x.value
  else if x.fld = HDR.EVT_MASK then s.maskSet p x.value
  else if x.fld = HDR.EVT_FORCE then s.force p x.value
  else if x.fld = HDR.ERR_STAT then s.clearBits p HDR.ERR_STAT 0 x.value
  else if x.fld = HDR.ERR_INJECT then s
  else if x.fld = HDR.EPOCH || x.fld = HDR.VIEW then s
  else if x.fld = HDR.ARM then s.stageCtrl p (valueIn all HDR.EPOCH 0) (valueIn all HDR.VIEW 0) x.value c
  else s.store all x

/-! ## The blocks' registers -/

/-- A write of the CHAN_DATA register: an entry with DEST 3 and MGMT 0 only from the warden (R507). -/
def State.chanWrite (s : State) (r : Requester) (v : Nat) (c : Capture) : State :=
  if bits v 29 3 = 3 && !bit v 28 && r ≠ .warden then s.ctlErr evfPage 0 5 c else s.chanDataSet v

/-- A write of PAN_MAINT.OP (R247): INV only from the warden; from any other requester it ends REFUSED with OWNER_VIOL, unless an operation runs. -/
def State.panMaint (s : State) (r : Requester) (op : Nat) (c : Capture) : State :=
  if op = panInv && !s.asWarden r && !s.flag PAN.BUSY then (s.put PAN.RESULT panRefused).ctlErr (panPage 0) 0 (match r with | .svc _ => 5 | .warden | .host | .debug => 4) c
  else s.panStart op

/-- Settings of the sense input and of the temperature input that the index registers select (R574). -/
def State.snsSet (s : State) (gain offset : Nat) : State :=
  let k := s.get SEQ.SNS_IDX
  if 67 ≤ k then s else { s with seq.snsCfg := if gain = 0 && offset = 0 then tdel s.seq.snsCfg k else tset s.seq.snsCfg k (gain, offset) }
def State.tempCfgSet (s : State) (t : Nat × Nat × Nat) : State :=
  let k := s.get SEQ.TEMP_IDX
  { s with seq.tempCfg := tset s.seq.tempCfg k t }

/-- SEQ registers (Table 18-5). -/
def State.seqEffect (s : State) (all : List FieldWrite) (x : FieldWrite) : State :=
  let f := x.fld
  let (g, o) := (tget s.seq.snsCfg (s.get SEQ.SNS_IDX)).getD (0, 0)
  let t := s.tempSet (s.get SEQ.TEMP_IDX)
  if f = SEQ.POWER_UP then s.powerUp
  else if f = SEQ.POWER_DOWN then s.powerDown
  else if f = SEQ.FAULT_CLR then s.faultClear
  else if f = SEQ.RAIL_FAULT then s.railFaultClear x.value
  else if f = SEQ.RAIL_DATA then s.railData x.idx x.value
  else if f = SEQ.TABLE_COMMIT then s.tableCommit
  else if f = SEQ.GAIN then s.snsSet x.value o
  else if f = SEQ.OFFSET then s.snsSet g x.value
  else if f = SEQ.FAULT_C then s.tempCfgSet (x.value, t.2)
  else if f = SEQ.WARN_C then s.tempCfgSet (t.1, x.value, t.2.2)
  else if f = SEQ.TEMP_SHUT then s.tempCfgSet (t.1, t.2.1, x.value)
  else s.store all x

/-- CLK registers (Table 17-5). FMT, LEVEL and SRC stand with EN in CKOUT_CFGk. -/
def State.clkEffect (s : State) (all : List FieldWrite) (c : Capture) (x : FieldWrite) : State :=
  let f := x.fld
  if f = CLK.COMMIT then s.clkCommit
  else if f = CLK.EN then
    let (s, no) := s.ckoutCfg x.idx (x.value * 2 ^ 15 + valueIn all CLK.FMT x.idx * 2 ^ 10 + valueIn all CLK.LEVEL x.idx * 2 ^ 8 + valueIn all CLK.SRC x.idx)
    if no then s.ctlErr clkPage 2 4 c else s
  else if f = CLK.FMT || f = CLK.LEVEL || f = CLK.SRC then s
  else if f = CLK.CKOUT_FAULT then s.ckoutFaultClear x.value
  else if f = CLK.TIME_SET then s.timeSet x.value
  else s.store all x

/-- WDN registers (Table 15-7): a write of the first word of a slot submits its request. -/
def State.wdnEffect (s : State) (r : Requester) (all : List FieldWrite) (c : Capture) (x : FieldWrite) : State :=
  let f := x.fld
  if f = WDN.OPCODE then s.mbSubmit r x.idx x.value (valueIn all WDN.SEQ x.idx) (valueIn all WDN.LEN x.idx) c
  else if f = WDN.SEQ || f = WDN.LEN || f = WDN.WDT_FEED then s
  else s.store all x

/-- HRV and TWN commands (Tables 11-6 and 12-7). -/
def State.hrvEffect (s : State) (all : List FieldWrite) (x : FieldWrite) : State :=
  let f := x.fld
  if f = HRV.SHUTDOWN then s.harvestStart 4
  else if f = HRV.STEPTEST then s.stepStart
  else if f = HRV.REHEARSE then s.rehearse
  else if f = HRV.ACCEPT_LOSS then s.acceptLoss
  else s.store all x

def State.twnEffect (s : State) (all : List FieldWrite) (x : FieldWrite) : State :=
  let f := x.fld
  if f = TWN.PAIR_ACCEPT then s.pairAccept
  else if f = TWN.HANDOFF_OP then s.handoffOp x.value (valueIn all TWN.GROUP 0)
  else if f = TWN.GROUP then s
  else s.store all x

/-- A commit (R56, R62): zero commits nothing. -/
def State.commitWrite (s : State) (e : Nat) (c : Capture) : State :=
  let g := s.get TOP.STAGE_GSTAT
  if e = 0 then s else if g = gApplying || g = gRolling || g = gStuck then s.ctlErr topPage 3 4 c else s.stageCommit e

/-- What a taken write of a field from offset 0x100 up does: the commands act, every other field is stored. -/
def State.blockEffect (s : State) (r : Requester) (all : List FieldWrite) (c : Capture) (x : FieldWrite) : State :=
  let f := x.fld
  let i := x.page.inst
  match x.page.blk with
  | .top => if f = TOP.STAGE_COMMIT then s.commitWrite x.value c else s.store all x
  | .xlt =>
    if f = XLT.SCOPE then s.inval x.value (valueIn all XLT.INDEX 0) .none
    else if f = XLT.INDEX then s
    else if f = XLT.XLT_REVOKE then (s.revoke x.value).1
    else s.store all x
  | .qe => if f = QE.OP then s.qctl x.value (valueIn all QE.QID 0) else if f = QE.QID then s else s.store all x
  | .pan => if f = PAN.DISCARD then s.panDiscard i else if f = PAN.OP then s.panMaint r x.value c else s.store all x
  | .flm =>
    if f = FTL.VICTIM_BLOCK then s.victimWrite (valueIn all FTL.VICTIM_GLUN 0) x.value
    else if f = FTL.VICTIM_GLUN then s
    else if f = FTL.RO_CLEAR then s.roClear
    -- a capacity that R310 does not admit is not taken
    else if (f = FTL.USER_BLKS && !s.capacityOk (x.value + s.ftlGet FTL.SYS_BLKS)) || (f = FTL.SYS_BLKS && !s.capacityOk (s.ftlGet FTL.USER_BLKS + x.value)) then s
    else s.store all x
  | .hrv => s.hrvEffect all x
  | .twn => s.twnEffect all x
  | .cmn => if f = CME.OP then s.connCtl x.value (valueIn all CME.CONN_IDX 0) else if f = CME.CONN_IDX then s else s.store all x
  | .cip =>
    if f = CIP.START then s.cipStart (some c)
    else if f = CIP.KEY_LOAD then s.keyLoad (valueIn all CIP.KEY_SEL 0)
    else if f = CIP.KEY_SEL then s
    else s.store all x
  | .hsh => if f = HSH.START then s.hshStart x.idx (some c) else s.store all x
  | .wdn => s.wdnEffect r all c x
  | .evf =>
    if f = EVF.ROUTE_DATA then s.routeDataSet x.value
    else if f = EVF.CHAN_DATA then s.chanWrite r x.value c
    else if f = EVF.CHAN_ACK then s.chanAck x.value
    else if f = EVF.ALERT_FAULT then s.alertFaultClear x.value
    else s.store all x
  | .recd => if f = REC.CLEAR_UPTO then s.clearUpto r x.value else s.store all x
  | .clk => s.clkEffect all c x
  | .pwr =>
    if f = PWR.MODE then s.domainMode x.idx (valueIn all PWR.IDLE_TIME x.idx * 2 ^ 16 + x.value) (some c)
    else if f = PWR.IDLE_TIME then s
    else if f = PWR.PWR_DOM_RESET then s.domReset x.value (some c)
    else s.store all x
  | .seq => s.seqEffect all x
  | .nvs => if f = NVS.NVS_CMD then s.nvsCommand x.value (some c) else s.store all x
  -- a slot that is not presented stays unbound (R100)
  | .hp => if ((f = HP.BOUND || f = HP.TENANT) && !s.ldUnused i x.idx) || (f = HP.BOUND && x.value = 1 && !s.presented i x.idx) then s else s.store all x
  | .mov | .tier | .dmc | .mgt | .svc | .dbg => s.store all x

/-- What a taken write of a field does. Write-1-to-clear fields without an effect of their own are cleared. -/
def State.effect (r : Requester) (all : List FieldWrite) (c : Capture) (s : State) (x : FieldWrite) : State :=
  if x.fld.off < 0x100 then s.headerEffect all c x
  else if x.fld = SEQ.RAIL_WARN then s.clearBits x.page x.fld x.idx x.value
  else s.blockEffect r all c x

/-! ## Writes -/

/-- Job registers of a running job (R468, R469): the error bit a write of them sets. -/
def State.jobBusy (s : State) (x : FieldWrite) : Option Nat :=
  match x.page.blk with
  | .cip => if 0x140 ≤ x.fld.off && x.fld.off ≤ 0x174 && s.flag CIP.BUSY then some 18 else none
  | .hsh => if 0x100 ≤ x.fld.off && s.flag HSH.BUSY 0 x.idx then some 16 else none
  | _ => none

/-- Whether the lane minima after a write fit the lanes (R468). -/
def State.minimaFit (s : State) (all : List FieldWrite) : Bool :=
  let v (f : Fld) : Nat := valueIn all f 0 (s.before cipPage f 0)
  minimaOk (v CIP.MIN_TWN) (v CIP.MIN_CMN) (v CIP.MIN_FLM)

/-- Commands act after the fields of the same write are stored. -/
def FieldWrite.command (x : FieldWrite) : Bool := (x.fld.acc == .w1s || x.fld.acc == .wo) && x.fld != CIP.KEY_DATA

/-- A block-defined error that this access caused holds its capture (R44): one set with ERR_STAT read zero before. -/
def State.captureBy (s0 s : State) (p : Page) (c : Capture) : State :=
  if s0.rd p HDR.ERR_STAT = 0 && s.rd p HDR.ERR_STAT ≠ 0 && s.rd p HDR.ERR_INFO0 / 2 ^ 28 = 0xF then
    (s.wr p HDR.ERR_INFO0 (s.rd p HDR.ERR_INFO0 % 2 ^ 28 + c.req * 2 ^ 28 + c.off % 4096)).wr p HDR.ERR_INFO1 c.data
  else s

/-- The write of n bytes at offset a of a page whose domain is ON (R46-R53, R62). Each error bit is raised once for the access. -/
def State.pageWrite (s : State) (r : Requester) (p : Page) (a n data : Nat) : State :=
  let c := capOf r (p.base + a) data
  let s := s.quiesceLatch p
  let s0 := s
  let xs := s.writesAt p a n data
  let secret := match r with | .svc _ => xs.any fun x => x.fld.warden && !x.idle | .warden | .host | .debug => false
  let sev0 : Nat := if secret then 5 else 4
  if !s.mayWrite r p then s.ctlErr p 0 sev0 c
  else
    let vs := xs.map fun x => (x, s.verdict r p x)
    let taken := (vs.filter fun v => v.2 == .take).map Prod.fst
    let errs := [0, 1, 2, 3].filter fun k => vs.any fun v => v.2 == .err k
    let busy := taken.findSome? s.jobBusy
    let taken := taken.filter fun x => (s.jobBusy x).isNone
    let beyond := p.blk == .cip && taken.any (fun x => x.fld.stage) && !s.minimaFit taken
    let taken := if beyond then taken.filter fun x => !x.fld.stage else taken
    let s := errs.foldl (fun s k => s.ctlErr p k (if k = 0 then sev0 else 4) c) s
    let s := match busy with | some k => s.blkErr p k 4 [] (some c) | none => s
    let s := if beyond then s.blkErr p 16 4 [] (some c) else s
    let s := (taken.filter fun x => !x.command).foldl (State.effect r taken c) s
    let s := (taken.filter fun x => x.command).foldl (State.effect r taken c) s
    s0.captureBy s p c

/-! ## Reads -/

def State.ctlAnswer (s : State) (r : Requester) (off v : Nat) : State := s.emit (.ctlRead r off v)

/-- The severity of an OWNER_VIOL of an access that meets n bytes at offset a: 5 where service firmware meets a warden-only field (R45). -/
def ownerSev (r : Requester) (p : Page) (a n : Nat) : Nat :=
  match r with
  | .svc _ => if (slotsAt p a n).any fun x => x.2.1.warden then 5 else 4
  | .warden | .host | .debug => 4

/-- The read of n bytes at offset a of a page whose domain is ON (R46, R47). -/
def State.pageRead (s : State) (r : Requester) (p : Page) (a n : Nat) : State :=
  if s.mayRead r p then s.ctlAnswer r (p.base + a) (s.readPage p a n)
  else (s.ctlErr p 0 (ownerSev r p a n) (capOf r (p.base + a) 0)).ctlAnswer r (p.base + a) 0

/-! ## Any access -/

/-- An access that completes without effect: a read gives 0. -/
def State.blank (s : State) (r : Requester) (off : Nat) (write : Bool) : State := if write then s else s.ctlAnswer r off 0

/-- An access that falls on no page (R38): TOP holds the full offset. -/
def State.unmapped (s : State) (r : Requester) (off : Nat) (write : Bool) : State :=
  (s.ctlErr topPage 4 4 (capOf r off off)).blank r off write

/-- An access of a size or alignment outside R39. -/
def State.sizeViol (s : State) (r : Requester) (off : Nat) (write : Bool) (data : Nat) : State :=
  match pageFor r off with
  | some p => (s.ctlErr p 5 4 (capOf r off (if write then data else 0))).blank r off write
  | none => s.unmapped r off write

/-- An access refused as R47 says, as those to a FAILED domain are (R548). -/
def State.refusedAccess (s : State) (r : Requester) (p : Page) (off n : Nat) (write : Bool) (data : Nat) : State :=
  (s.ctlErr p 0 (ownerSev r p (off % 4096) n) (capOf r off (if write then data else 0))).blank r off write

/-- An access to a page whose domain answers. -/
def State.onPage (s : State) (r : Requester) (p : Page) (off n : Nat) (write : Bool) (data : Nat) : State :=
  if write then s.pageWrite r p (off % 4096) n data else s.pageRead r p (off % 4096) n

/-- An access to a domain that is not ON wakes it and stalls, unless it has cancelled the domain's entry (R41, R544, R545). -/
def State.accessWake (s : State) (x : Stalled) (p : Page) : State :=
  let s := s.dataWake (Page.dom p)
  if s.domainOn (Page.dom p) then s.onPage x.req p x.off.toNat x.size x.write x.data.toNat
  else { s with ctl.stalled := s.ctl.stalled ++ [x] }

/-- Whether an earlier write of the same requester to the same page still stalls: the writes of one requester to one page take effect in issue order (R40). -/
def State.behindWrite (s : State) (x : Stalled) (p : Page) : Bool :=
  x.write && s.ctl.stalled.any fun y => y.write && y.req == x.req && pageFor y.req y.off.toNat == some p

/-- A control-space access (R35-R54). The header answers without waking the block (R41), unless a write of its requester to the page waits before it (R40). -/
def State.access (s : State) (x : Stalled) : State :=
  let off := x.off.toNat
  let data := x.data.toNat % 2 ^ (8 * x.size)
  if !s.reaches x.req then s
  else if !legalAccess off x.size then s.sizeViol x.req off x.write data
  else match pageFor x.req off with
    | none => s.unmapped x.req off x.write
    | some p =>
      if s.behindWrite x p then { s with ctl.stalled := s.ctl.stalled ++ [x] }
      else if off % 4096 < 0x100 || s.domainOn (Page.dom p) then s.onPage x.req p off x.size x.write data
      else if s.get PWR.STATE 0 (Page.dom p) = domFailed then s.refusedAccess x.req p off x.size x.write data
      else s.accessWake x p

/-- The write of n bytes at offset a of page p by a requester. -/
def State.regWrite (s : State) (r : Requester) (p : Page) (a n data : Nat) : State :=
  s.access { req := r, off := BitVec.ofNat 32 (p.base + a), size := n, write := true, data := BitVec.ofNat 64 data }

/-- A word of a page as it stands, with the bits of the write-1 types 0: what software writes back to change one field. -/
def State.word (s : State) (p : Page) (a : Nat) : Nat :=
  ((slotsAt p a 4).map fun x => if x.2.1.acc = .wo || x.2.1.acc = .ro then 0 else partOf (s.before x.1 x.2.1 x.2.2.1) x.2.2.2 a 4).foldl (· + ·) 0

end Sys2Proof.Machine
end

