-- ==== Sys2Proof/Machine/Control.lean ====
section
/-! DEFINITION. The control-space accesses of the table of operations: header accesses (02), and the writes of command registers of the blocks (03, 05, 06, 08, 10-19), each one access to the register that carries it. -/
namespace Sys2Proof.Machine

/-! ## Accesses and header registers (02) -/

/-- Where a requester's bus places control-space offset 0 (R36): service cores reach it at 0x00_4000_0000; the host's BAR0 and the other requesters use the offset itself. -/
def ctlWindow : Requester → Nat
  | .svc _ => 0x4000_0000
  | .warden | .host | .debug => 0

/-- The control-space offset that an address on a requester's bus names (R36). -/
def ctlOffset (r : Requester) (addr : BitVec 32) : BitVec 32 := addr - BitVec.ofNat 32 (ctlWindow r)

/-- The address on a requester's bus of a control-space offset (R36). -/
def busAddr (r : Requester) (off : Nat) : BitVec 32 := BitVec.ofNat 32 (off + ctlWindow r)

/-- R46: a control-space write to an address of the requester's bus (R36). -/
def execControlWrite (req : Requester) (addr : BitVec 32) (size : Nat) (data : BitVec 64) (s : State) : Res :=
  .next (s.access { req := req, off := ctlOffset req addr, size := size, write := true, data := data })

/-- R47: a control-space read of an address of the requester's bus (R36). -/
def execControlRead (req : Requester) (addr : BitVec 32) (size : Nat) (s : State) : Res :=
  .next (s.access { req := req, off := ctlOffset req addr, size := size, write := false, data := 0 })

/-- R38: an access that falls on no page; one that falls on a page is not this event. -/
def execUnmappedAccess (req : Requester) (off : BitVec 32) (write : Bool) (_data : BitVec 64) (s : State) : Res :=
  if s.reaches req && (pageFor req off.toNat).isNone then .next (s.unmapped req off.toNat write) else .next s

/-- R39: an access of illegal size or alignment; a legal one is not this event. -/
def execSizeViolAccess (req : Requester) (off : BitVec 32) (size : Nat) (write : Bool) (data : BitVec 64) (s : State) : Res :=
  if s.reaches req && !legalAccess off.toNat size then .next (s.sizeViol req off.toNat write data.toNat) else .next s

/-- R504: EVT_STAT bits are cleared; occurrences of the same cycle leave their bits set. -/
def execEvtStatClear (req : Requester) (page : Page) (mask occ : BitVec 32) (s : State) : Res :=
  let s := s.regWrite req page 0x018 4 mask.toNat
  .next (if page.present then (setBitsOf 32 occ.toNat).foldl (fun s k => s.pageOccur page k false) s else s)

/-- R504: a write of EVT_MASK. -/
def execEvtMaskWrite (req : Requester) (page : Page) (value : BitVec 32) (s : State) : Res := .next (s.regWrite req page 0x01C 4 value.toNat)

/-- R512: a write of EVT_FORCE. -/
def execEvtForce (req : Requester) (page : Page) (mask : BitVec 32) (s : State) : Res := .next (s.regWrite req page 0x020 4 mask.toNat)

/-- R44: a write of ERR_STAT. -/
def execErrStatClear (req : Requester) (page : Page) (mask : BitVec 32) (s : State) : Res := .next (s.regWrite req page 0x028 4 mask.toNat)

/-- R55: STAGE_CTRL with ARM = 1. -/
def execStageArm (req : Requester) (page : Page) (epoch : BitVec 16) (view : Bool) (s : State) : Res :=
  .next (s.regWrite req page 0x038 4 (epoch.toNat * 65536 + b2n view * 2 + 1))

/-- R55, R61: STAGE_CTRL with ARM = 0. -/
def execStageDisarm (req : Requester) (page : Page) (epoch : BitVec 16) (view : Bool) (s : State) : Res :=
  .next (s.regWrite req page 0x038 4 (epoch.toNat * 65536 + b2n view * 2))

/-- R49: LOCK is written 1. -/
def execLock (req : Requester) (page : Page) (s : State) : Res := .next (s.regWrite req page 0x044 4 1)

/-- R52, R54: BLK_CTRL with QUIESCE = 1. -/
def execQuiesce (req : Requester) (page : Page) (s : State) : Res := .next (s.regWrite req page 0x010 4 (setBits (s.word page 0x010) 1 1 1))

/-- R52: BLK_CTRL with QUIESCE = 0. -/
def execQuiesceRelease (req : Requester) (page : Page) (s : State) : Res := .next (s.regWrite req page 0x010 4 (setBits (s.word page 0x010) 1 1 0))

/-- R63: a write to a stageable field of an unarmed page. -/
def execStageSingleChange (req : Requester) (off : BitVec 32) (size : Nat) (data : BitVec 64) (s : State) : Res :=
  .next (s.access { req := req, off := off, size := size, write := true, data := data })

/-- R56: a write of STAGE_COMMIT. -/
def execStageCommit (req : Requester) (epoch : BitVec 16) (s : State) : Res := .next (s.regWrite req topPage 0x100 4 epoch.toNat)

/-- R27: the cold-reset request of the TOP page, a warden-only field of no stated offset (log entry 35). -/
def execColdResetRequest (req : Requester) (s : State) : Res :=
  if !s.reaches req then .next s
  else if s.asWarden req then .next (s.harvestStart 2)
  else
    let sev := match req with | .svc _ => 5 | .warden | .host | .debug => 4
    .next (s.useFree.ctlErr topPage 0 sev (capOf req (Config.freeNat s.free) (Config.freeNat s.free)))

/-- R25: a warm reset; a harvest goes on through it. -/
def execWarmReset (s : State) : Res := if s.frozen then .next s else .next s.warmReset

/-! ## Translation, queues, movers (03, 05, 06) -/

/-- R90, R97: XLT_INVAL. -/
def execXltInval (req : Requester) (scope : BitVec 4) (index : BitVec 24) (s : State) : Res :=
  .next (s.regWrite req xltPage 0x120 4 (scope.toNat * 2 ^ 28 + index.toNat))

/-- R92: XLT_REVOKE. -/
def execXltRevoke (req : Requester) (key : BitVec 32) (s : State) : Res := .next (s.regWrite req xltPage 0x128 4 key.toNat)

/-- A write of QE_QCTL. -/
def State.qctlWrite (s : State) (req : Requester) (op : Nat) (qid : BitVec 20) : State := s.regWrite req qePage 0x110 4 (op * 2 ^ 29 + qid.toNat)

/-- R137: QE_QCTL ENABLE. -/
def execQueueEnable (req : Requester) (qid : BitVec 20) (s : State) : Res := .next (s.qctlWrite req 1 qid)
/-- R167: QE_QCTL PAUSE. -/
def execQueuePause (req : Requester) (qid : BitVec 20) (s : State) : Res := .next (s.qctlWrite req 2 qid)
/-- R165: QE_QCTL RESET. -/
def execQueueReset (req : Requester) (qid : BitVec 20) (s : State) : Res := .next (s.qctlWrite req 3 qid)
/-- R167: QE_QCTL DISABLE. -/
def execQueueDisable (req : Requester) (qid : BitVec 20) (s : State) : Res := .next (s.qctlWrite req 4 qid)

/-- R186: OFFLINE of a mover. -/
def execMoverOffline (req : Requester) (mover : MoverId) (value : Bool) (s : State) : Res := .next (s.regWrite req (movPage mover.val) 0x128 4 (b2n value))

/-! ## Pan (08) -/

/-- A write of PAN_MAINT_OP. -/
def State.panWrite' (s : State) (req : Requester) (op : Nat) : State := s.regWrite req (panPage 0) 0x140 4 op

/-- R246: CLEAN. -/
def execClean (req : Requester) (s : State) : Res := .next (s.panWrite' req panClean)
/-- R249: CLEAN_INV. -/
def execCleanInv (req : Requester) (s : State) : Res := .next (s.panWrite' req panCleanInv)
/-- R250: INV. -/
def execInv (req : Requester) (s : State) : Res := .next (s.panWrite' req panInv)
/-- R244: LOCK of pan lines. -/
def execPanLock (req : Requester) (s : State) : Res := .next (s.panWrite' req panLock)
/-- R246: UNLOCK of pan lines. -/
def execUnlock (req : Requester) (s : State) : Res := .next (s.panWrite' req panUnlock)

/-- A write of a slice's first register with one bit changed. -/
def State.panCtl (s : State) (req : Requester) (sl k v : Nat) : State := s.regWrite req (panPage sl) 0x100 4 (setBits (s.word (panPage sl) 0x100) k 1 v)

/-- R252: DISABLE of a slice written 1. -/
def execPanDisable (req : Requester) (slice : Slice) (s : State) : Res := .next (s.panCtl req slice.val 0 1)
/-- R253: DISABLE of a slice written 0. -/
def execPanEnable (req : Requester) (slice : Slice) (s : State) : Res := .next (s.panCtl req slice.val 0 0)
/-- R257: DISCARD of a draining slice. -/
def execDiscard (req : Requester) (slice : Slice) (s : State) : Res := .next (s.panCtl req slice.val 3 1)

/-! ## Flash and harvest (10, 11) -/

/-- R321: VICTIM. -/
def execVictim (req : Requester) (glun : BitVec 12) (block : BitVec 16) (s : State) : Res :=
  .next (s.regWrite req ftlPage 0x148 4 (glun.toNat * 65536 + block.toNat))

/-- R341: RO_CLEAR. -/
def execRoClear (req : Requester) (s : State) : Res := .next (s.regWrite req ftlPage 0x1C0 4 1)

/-- R347: SHUTDOWN. -/
def execShutdown (req : Requester) (s : State) : Res := .next (s.regWrite req hrvPage 0x100 4 4)
/-- R360: STEPTEST. -/
def execSteptest (req : Requester) (s : State) : Res := .next (s.regWrite req hrvPage 0x100 4 1)
/-- R360: REHEARSE. -/
def execRehearse (req : Requester) (s : State) : Res := .next (s.regWrite req hrvPage 0x100 4 2)
/-- R365: ACCEPT_LOSS. -/
def execAcceptLoss (req : Requester) (s : State) : Res := .next (s.regWrite req hrvPage 0x100 4 8)

/-! ## Twin (12) -/

/-- R409: HANDOFF_OP GIVE. -/
def execHandoffGive (req : Requester) (group : Grp) (s : State) : Res := .next (s.regWrite req twnPage 0x118 4 (1 * 2 ^ 28 + group.val))
/-- R410: HANDOFF_OP REQUEST. -/
def execHandoffRequest (req : Requester) (group : Grp) (s : State) : Res := .next (s.regWrite req twnPage 0x118 4 (2 * 2 ^ 28 + group.val))

/-- A write of TWN's first register with one bit set. -/
def State.twnCtl (s : State) (req : Requester) (k : Nat) : State := s.regWrite req twnPage 0x100 4 (setBits (s.word twnPage 0x100) k 1 1)

/-- R391: ALONE_OK. -/
def execAloneOk (req : Requester) (s : State) : Res := .next (s.twnCtl req 2)
/-- R388: PAIR_ACCEPT. -/
def execPairAccept (req : Requester) (s : State) : Res := .next (s.twnCtl req 1)

/-! ## Cemanor (13) -/

/-- A write of the connection control register. -/
def State.connWrite (s : State) (req : Requester) (op : Nat) (conn : BitVec 20) : State := s.regWrite req cmePage 0x170 4 (op * 2 ^ 29 + conn.toNat)

/-- R426: a connection is opened. -/
def execConnOpen (req : Requester) (conn : BitVec 20) (s : State) : Res := .next (s.connWrite req 1 conn)
/-- R426: a connection is closed. -/
def execConnClose (req : Requester) (conn : BitVec 20) (s : State) : Res := .next (s.connWrite req 2 conn)
/-- R424: the keys of the other phase are installed. -/
def execRekeyInstall (req : Requester) (conn : BitVec 20) (s : State) : Res := .next (s.connWrite req 3 conn)

/-! ## Cipher and hash (14) -/

/-- A warden job: JOB_OP with KEY_SLOT and AAD_LEN kept, then START. -/
def State.cipWrite (s : State) (req : Requester) (op : Nat) : State :=
  (s.regWrite req cipPage 0x154 4 (setBits (s.word cipPage 0x154) 28 4 op)).regWrite req cipPage 0x174 4 (2 ^ 31)

/-- R454: a GCM encryption job. -/
def execGcmEncrypt (req : Requester) (s : State) : Res := .next (s.cipWrite req cipGcmEnc)
/-- R455: a GCM decryption job. -/
def execGcmDecrypt (req : Requester) (s : State) : Res := .next (s.cipWrite req cipGcmDec)
/-- R454: an XTS encryption job. -/
def execXtsEncrypt (req : Requester) (s : State) : Res := .next (s.cipWrite req cipXtsEnc)
/-- R454: an XTS decryption job. -/
def execXtsDecrypt (req : Requester) (s : State) : Res := .next (s.cipWrite req cipXtsDec)

/-- R468: KEY_LOAD. -/
def execKeyLoad (req : Requester) (sel : BitVec 4) (s : State) : Res := .next (s.regWrite req cipPage 0x1A0 4 (16 + sel.toNat))

/-- A hash-engine job: OP and START in one write. -/
def State.hshWrite (s : State) (req : Requester) (eng : Fin 5) (op : Nat) : State := s.regWrite req hshPage (0x118 + 0x40 * eng.val) 4 (op * 2 ^ 28 + 1)

/-- R465: a SHA3-256 job. -/
def execSha3256 (req : Requester) (eng : Fin 5) (s : State) : Res := .next (s.hshWrite req eng hshSha256)
/-- R465: a SHA3-384 job. -/
def execSha3384 (req : Requester) (eng : Fin 5) (s : State) : Res := .next (s.hshWrite req eng hshSha384)
/-- R465: a SHA3-512 job. -/
def execSha3512 (req : Requester) (eng : Fin 5) (s : State) : Res := .next (s.hshWrite req eng hshSha512)
/-- R465: a SHAKE256 job. -/
def execShake256 (req : Requester) (eng : Fin 5) (s : State) : Res := .next (s.hshWrite req eng hshShake)
/-- R467: an ML-DSA-87 verification job. -/
def execMlDsa87Verify (req : Requester) (eng : Fin 5) (s : State) : Res := .next (s.hshWrite req eng hshVerify)
/-- R466: an ML-DSA-87 signing job. -/
def execMlDsa87Sign (req : Requester) (eng : Fin 5) (s : State) : Res := .next (s.hshWrite req eng hshSign)
/-- R465: export of the identity public key. -/
def execIdentityPublicKeyExport (req : Requester) (eng : Fin 5) (s : State) : Res := .next (s.hshWrite req eng hshExport)

/-! ## Warden, events, recorder (15, 16) -/

/-- R473: a mailbox request. -/
def execMailboxRequest (req : Requester) (slot : Fin 8) (opcode seq : BitVec 8) (len : BitVec 16) (s : State) : Res :=
  .next (s.regWrite req wdnPage (0x200 + 0x100 * slot.val) 4 (opcode.toNat * 2 ^ 24 + seq.toNat * 2 ^ 16 + len.toNat))

/-- R474: WDT_FEED. The watchdog's time is outside the model; its expiry is a command. -/
def execWdtFeed (req : Requester) (s : State) : Res := .next (s.regWrite req wdnPage 0x110 4 0)

/-- R507: CHAN_DATA. -/
def execChanDataWrite (req : Requester) (value : BitVec 32) (s : State) : Res := .next (s.regWrite req evfPage 0x10C 4 value.toNat)

/-- R508: CHAN_ACK; an occurrence of the same cycle counts after it. -/
def execChanAck (req : Requester) (chan : BitVec 9) (occ : Bool) (s : State) : Res :=
  let s := s.regWrite req evfPage 0x110 4 chan.toNat
  .next (if occ then s.chanHit chan.toNat else s)

/-- R510: ALERT_FAULT. -/
def execAlertFaultClear (req : Requester) (mask : BitVec 2) (s : State) : Res := .next (s.regWrite req evfPage 0x120 4 (mask.toNat * 4))

/-- R520, R521: CLEAR_UPTO. -/
def execClearUpto (req : Requester) (upto : BitVec 32) (s : State) : Res := .next (s.regWrite req recPage 0x130 4 upto.toNat)

/-! ## Clocks, domains (17) -/

/-- R536: COMMIT of CLK_DIV. -/
def execClkDivCommit (req : Requester) (s : State) : Res := .next (s.regWrite req clkPage 0x110 4 1)
/-- R538: CKOUT_CFGk. -/
def execCkoutCfgWrite (req : Requester) (k : Fin 4) (value : BitVec 32) (s : State) : Res := .next (s.regWrite req clkPage (0x120 + 4 * k.val) 4 value.toNat)
/-- R540: CKOUT_FAULT. -/
def execCkoutFaultClear (req : Requester) (mask : BitVec 4) (s : State) : Res := .next (s.regWrite req clkPage 0x130 4 (mask.toNat * 16))
/-- R542: TIME_SET. -/
def execTimeSet (req : Requester) (value : BitVec 64) (s : State) : Res := .next (s.regWrite req clkPage 0x148 8 value.toNat)

/-- R543: PWR_DOM_MODE. -/
def execDomainModeWrite (req : Requester) (dom : Dom) (value : BitVec 32) (s : State) : Res :=
  .next (s.regWrite req pwrPage (0x100 + 4 * dom.val) 4 value.toNat)
/-- R547: PWR_DOM_RESET. -/
def execPwrDomReset (req : Requester) (mask : BitVec 64) (s : State) : Res := .next (s.regWrite req pwrPage 0x308 8 mask.toNat)

/-- The accesses that stall on a domain, oldest first, are answered by k. -/
def State.unstallDom (s : State) (n : Nat) (k : State → Stalled → Page → State) : State :=
  let mine (x : Stalled) : Option Page := (pageFor x.req x.off.toNat).filter fun p => Page.dom p == n
  let go := s.ctl.stalled.filter fun x => (mine x).isSome
  let s : State := { s with ctl.stalled := s.ctl.stalled.filter fun x => (mine x).isNone }
  go.foldl (fun s x => match mine x with | some p => k s x p | none => s) s

/-- R545, R547: a domain reaches ON: from OFF, and after PWR_DOM_RESET, by a domain reset of its blocks; latched events are signalled again and stalled accesses go on. -/
def execDomainOn (dom : Dom) (s : State) : Res :=
  let n := dom.val
  let st := s.get PWR.STATE 0 n
  if st ≠ domWaking && st ≠ domResetting then .next s
  else
    let fresh := st = domResetting || s.pwr.fromOff.contains n
    let s := if fresh then s.domainReset n else s
    let s := if st = domWaking then s.inc PWR.WAKE_CNT 1 0 n else s
    let chans := (s.pwr.latched.filter fun x => x.1 == n).map Prod.snd
    let s : State := { ((s.put PWR.STATE domOn 0 n).putBit PWR.PWR_WAKE_LATCH n false) with
      pwr := { s.pwr with latched := s.pwr.latched.filter fun x => x.1 != n, fromOff := s.pwr.fromOff.filter (· != n) } }
    let s := chans.foldl State.signal s
    let s := s.unstallDom n fun s x _ => s.access x
    let s := if 42 ≤ n && n < 54 then s.srLeave (n - 42) else s
    .next (if 26 ≤ n && n < 54 then s.unstall.movSettle else s)

/-- R548: a domain does not reach ON in time. -/
def execDomainWakeFail (dom : Dom) (s : State) : Res :=
  let n := dom.val
  let st := s.get PWR.STATE 0 n
  if st ≠ domWaking && st ≠ domResetting then .next s
  else
    let s := ((s.put PWR.STATE domFailed 0 n).inc PWR.WAKE_FAIL_CNT).blkErr pwrPage 17 6 (le 1 n)
    let s : State := { s with pwr.fromOff := s.pwr.fromOff.filter (· != n) }
    let s := s.unstallDom n fun s x p => s.refusedAccess x.req p x.off.toNat x.size x.write x.data.toNat
    .next (if 2 ≤ n && n < 8 then s.svcRestart else s.controllerFault)

/-! ## Rails (18) -/

/-- R556: POWER_UP. -/
def execPowerUp (req : Requester) (s : State) : Res := .next (s.regWrite req seqPage 0x100 4 1)
/-- R568: POWER_DOWN. -/
def execPowerDown (req : Requester) (s : State) : Res := .next (s.regWrite req seqPage 0x100 4 2)
/-- R564: FAULT_CLR. -/
def execFaultClr (req : Requester) (s : State) : Res := .next (s.regWrite req seqPage 0x100 4 4)
/-- R559: RAIL_FAULT. -/
def execRailFaultClear (req : Requester) (mask : BitVec 32) (s : State) : Res := .next (s.regWrite req seqPage 0x110 4 mask.toNat)
/-- R553: RAIL_DATA. -/
def execRailDataWrite (req : Requester) (word : Fin 8) (value : BitVec 32) (s : State) : Res :=
  .next (s.regWrite req seqPage (0x120 + 4 * word.val) 4 value.toNat)
/-- R553: TABLE_COMMIT. -/
def execTableCommit (req : Requester) (s : State) : Res := .next (s.regWrite req seqPage 0x140 4 1)

/-! ## Settings store (19) -/

/-- R577: STORE. -/
def execStore (req : Requester) (s : State) : Res := .next (s.regWrite req nvsPage 0x100 4 nvsStore)
/-- R578: RELOAD. -/
def execReload (req : Requester) (s : State) : Res := .next (s.regWrite req nvsPage 0x100 4 nvsReload)
/-- R579: SLOT_WRITE. -/
def execSlotWrite (req : Requester) (s : State) : Res := .next (s.regWrite req nvsPage 0x100 4 nvsSlotWrite)
/-- R579: SLOT_ERASE. -/
def execSlotErase (req : Requester) (s : State) : Res := .next (s.regWrite req nvsPage 0x100 4 nvsSlotErase)

end Sys2Proof.Machine
end

