-- ==== Sys2Proof/Machine/Mailbox.lean ====
section
/-! DEFINITION. The primary mailbox of a logical device (Table 4-12), which a slot that is not presented has not (R100), and the Fabric Manager API (Table 4-13). -/
namespace Sys2Proof.Machine

/-- Answer a mailbox command. -/
def State.mb (s : State) (p l op : Nat) (c : MbCode) (vals : List Nat) : Res := .next (s.emit (.mailbox p l op c vals))
/-- Answer a Fabric Manager command. -/
def State.fmAnswer (s : State) (cmd : String) (c : MbCode) (vals : List Nat) : Res := .next (s.emit (.fm cmd c vals))

/-! ## Event records -/

/-- The kinds of event record of Tables 4-7 and 4-9 and of R115. -/
def eventKinds : List String := ["Invalid Address", "Data Path Error", "Media ECC Error", "Fenced", "All claim groups fenced", "Solo", "Flash READ_ONLY", "Harvest in progress"]

/-- A record as the mailbox returns it: handle, time, whether it is a Memory Module record, its kind by its place in eventKinds, DPA, window, status. -/
def CxlEvent.vals (e : CxlEvent) : List Nat := [e.handle, e.time, b2n e.memModule, eventKinds.findIdx fun k => k == e.kind, e.dpa, e.window, e.status]

def execGetEventRecords (port : Port) (ld : Ld) (log : EvLog) (s : State) : Res :=
  if !s.presented port.val ld.val then .next s else
  let l := (s.ld port.val ld.val).logs.getD log.ix noLog
  s.mb port.val ld.val 0x0100 .success ([b2n l.overflow, l.lost, l.records.length] ++ l.records.flatMap CxlEvent.vals)

/-- Records named by handle leave the log; with room again the overflow flag and count are cleared. -/
def execClearEventRecords (port : Port) (ld : Ld) (log : EvLog) (handles : List (BitVec 16)) (s : State) : Res :=
  if !s.presented port.val ld.val then .next s else
  let x := s.ld port.val ld.val
  let l := x.logs.getD log.ix noLog
  let recs := l.records.filter fun e => !handles.any fun h => h.toNat == e.handle
  let gone := recs.length < l.records.length
  let l := { l with records := recs, overflow := l.overflow && !gone, lost := if gone then 0 else l.lost }
  (s.putLd port.val ld.val { x with logs := x.logs.set log.ix l }).mb port.val ld.val 0x0101 .success []

def execGetEventInterruptPolicy (port : Port) (ld : Ld) (s : State) : Res :=
  if !s.presented port.val ld.val then .next s else
  s.mb port.val ld.val 0x0102 .success ((s.ld port.val ld.val).logs.flatMap fun l => [b2n l.intEnable, l.vector])
def execSetEventInterruptPolicy (port : Port) (ld : Ld) (log : EvLog) (enable : Bool) (vector : BitVec 11) (s : State) : Res :=
  if !s.presented port.val ld.val then .next s else
  let x := s.ld port.val ld.val
  let l := x.logs.getD log.ix noLog
  (s.putLd port.val ld.val { x with logs := x.logs.set log.ix { l with intEnable := enable, vector := vector.toNat } }).mb port.val ld.val 0x0103 .success []

/-! ## Firmware, time, logs -/

/-- Get FW Info: the slots in use and the security versions of the running images. -/
def execGetFwInfo (port : Port) (ld : Ld) (s : State) : Res :=
  if !s.presented port.val ld.val then .next s else
  s.mb port.val ld.val 0x0200 .success [s.get WDN.WDN_SLOT, s.get WDN.SVC_BANK, s.get WDN.SVN_WDN, s.get WDN.SVN_SVC]
def execTransferFw (port : Port) (ld : Ld) (s : State) : Res :=
  if !s.presented port.val ld.val then .next s else
  s.mb port.val ld.val 0x0201 .unsupported []
def execActivateFw (port : Port) (ld : Ld) (s : State) : Res :=
  if !s.presented port.val ld.val then .next s else
  s.mb port.val ld.val 0x0202 .unsupported []
def execGetTimestamp (port : Port) (ld : Ld) (s : State) : Res :=
  if !s.presented port.val ld.val then .next s else
  s.mb port.val ld.val 0x0300 .success [((s.timeNs : Int) + (s.ld port.val ld.val).timeOffset).toNat]
/-- Set Timestamp changes the record timestamps of the logical device only. -/
def execSetTimestamp (port : Port) (ld : Ld) (value : BitVec 64) (s : State) : Res :=
  if !s.presented port.val ld.val then .next s else
  (s.putLd port.val ld.val { s.ld port.val ld.val with timeOffset := (value.toNat : Int) - (s.timeNs : Int) }).mb port.val ld.val 0x0301 .success []

/-- The opcodes of Table 4-12. -/
def mailboxOpcodes : List Nat :=
  [0x0100, 0x0101, 0x0102, 0x0103, 0x0200, 0x0201, 0x0202, 0x0300, 0x0301, 0x0400, 0x0401, 0x4000, 0x4100, 0x4200, 0x4201, 0x4202,
   0x4300, 0x4301, 0x4302, 0x4800, 0x4801, 0x4802, 0x4803]
/-- The Command Effects Log names the supported commands. -/
def celOpcodes : List Nat := mailboxOpcodes.filter fun o => o != 0x0201 && o != 0x0202

def execGetSupportedLogs (port : Port) (ld : Ld) (s : State) : Res :=
  if !s.presented port.val ld.val then .next s else
  s.mb port.val ld.val 0x0400 .success [1]
def execGetLog (port : Port) (ld : Ld) (cel : Bool) (s : State) : Res :=
  if !s.presented port.val ld.val then .next s else
  if cel then s.mb port.val ld.val 0x0401 .success celOpcodes else s.mb port.val ld.val 0x0401 .invalidInput []

/-- Capacity of a logical device: its allocation in 256 MiB units. -/
def State.ldCapacity (s : State) (p l : Nat) : Nat := (s.ld p l).allocUnits * 2 ^ 28
def execIdentifyMemoryDevice (port : Port) (ld : Ld) (s : State) : Res :=
  if !s.presented port.val ld.val then .next s else
  s.mb port.val ld.val 0x4000 .success [s.ldCapacity port.val ld.val, 0, s.ldCapacity port.val ld.val]
def execGetPartitionInfo (port : Port) (ld : Ld) (s : State) : Res :=
  if !s.presented port.val ld.val then .next s else
  s.mb port.val ld.val 0x4100 .success [0, s.ldCapacity port.val ld.val]

/-- The state Table 4-7 reports. Where two of its rows hold at once the first here does (DESIGN CHOICE, log entry 109). -/
def State.mediaState (s : State) : MediaState :=
  if s.frozen then .harvest
  else if s.get HRV.STATE = hrvRestoring || s.get HRV.STATE = hrvIncomplete then .restoring
  else if s.flag XLT.MEDIA_RO then .readOnly
  else if s.get TWN.SERVE = 0 then .fenced
  else if s.solo then .solo
  else .paired

/-- Media Status (0 Normal, 1 Not Ready), Health Status (0 normal, 1 Maintenance Needed, 2 Replacement Needed), Life Used (Table 4-7); the codes are the model's (PRESUMED, log entry 109). -/
def execGetHealthInfo (port : Port) (ld : Ld) (s : State) : Res :=
  if !s.presented port.val ld.val then .next s else
  let life := s.get FTL.LIFE_USED_PCT ftlPage.inst
  let (media, health, used) := match s.mediaState with
    | .restoring | .harvest => (1, 0, life)
    | .paired => (0, 0, life)
    | .solo | .fenced => (0, 1, life)
    | .readOnly => (0, 2, 100)
  s.mb port.val ld.val 0x4200 .success [media, health, used]
def execGetAlertConfig (port : Port) (ld : Ld) (s : State) : Res :=
  if !s.presented port.val ld.val then .next s else
  s.mb port.val ld.val 0x4201 .success [(s.ld port.val ld.val).alertConfig.toNat]
def execSetAlertConfig (port : Port) (ld : Ld) (value : BitVec 96) (s : State) : Res :=
  if !s.presented port.val ld.val then .next s else
  (s.putLd port.val ld.val { s.ld port.val ld.val with alertConfig := value }).mb port.val ld.val 0x4202 .success []

/-! ## Poison (R112) -/

/-- The list from the cursor on. When more were found than it holds: More Err Records, Poison List Overflow and its time. -/
def execGetPoisonList (port : Port) (ld : Ld) (s : State) : Res :=
  if !s.presented port.val ld.val then .next s else
  let x := s.ld port.val ld.val
  let rest := x.poison.drop x.poisonCursor
  (s.putLd port.val ld.val { x with poisonCursor := 0 }).mb port.val ld.val 0x4300 .success
    ([b2n x.poisonOverflow.isSome, b2n x.poisonOverflow.isSome, x.poisonOverflow.getD 0, rest.length] ++ rest)

/-- Write one sector at a DPA for a mailbox command, checks and admission as for the host's own write. A write that is held waits among those of its port, and its command is answered when it is accepted or refused. -/
def State.mbWrite (s : State) (p l op dpa : Nat) (data : Option Sector) (poison : Bool) : State × WriteRes :=
  match (s.target p l (dpa / 64 * 64)).map fun x => s.targetCheck x (dpa / 64 * 64) with
  | some (s, .ok (.local w _ a)) =>
    match s.checks a .host true with
    | (s, .error st) => (s, .refused st)
    | (s, .ok d) =>
      match s.resolve a.region d a.off with
      | (s, .error st) => (s, .refused st)
      | (s, .ok pl) =>
        let src := WriteSrc.port (Fin.ofNat 8 p)
        let v := data.getD (s.secValue pl.sector).data
        let hold (s : State) (why : HoldWhy) : State × WriteRes :=
          ({ s with tier.held := s.tier.held ++ [{
              src := src, who := .mailbox p l op, why := why, region := a.region, desc := d, whole := false, tenant := a.tenant, off := a.off, data := v, enable := BitVec.allOnes 64, poison := poison, window := w, dpa := dpa }] }, .held why)
        if s.twn.handoff.contains d.grp then hold s .handoff
        else if s.tier.held.any (fun x => x.src == src) then hold s .behind
        else match s.tryWrite { tenant := a.tenant, place := pl, data := v, enable := BitVec.allOnes 64, poison := poison, alloc := true, whole := false, port := some (p, l), qos := p } with
        | (s, .held why) => hold s why
        | (s, .accepted m) => (s, .accepted (if d.pclass = 0 then m else none))
        | r => r
  | some (s, .error st) => (s, .refused st)
  | some (_, .ok (.foreign ..)) | none => (s, .refused .accessViolation)

/-- The end of a mailbox write: its effect on the poison list and success, for class M once the mirror has it (`State.mbAccepted`); invalid input when it is refused (log entry 108); nothing yet while it is held. -/
def State.mbWritten (r : State × WriteRes) (p l op dpa : Nat) : Res :=
  match r with
  | (s, .accepted m) => .next (s.mbAccepted p l op dpa m)
  | (s, .held _) => .next s
  | (s, .refused _) => s.mb p l op .invalidInput []

def execInjectPoison (port : Port) (ld : Ld) (dpa : BitVec 64) (s : State) : Res :=
  if !s.presented port.val ld.val then .next s else
  if !s.hp.injectEnabled then s.mb port.val ld.val 0x4301 .unsupported []
  else State.mbWritten (s.mbWrite port.val ld.val 0x4301 dpa.toNat none true) port.val ld.val 0x4301 dpa.toNat
def execClearPoison (port : Port) (ld : Ld) (dpa : BitVec 64) (data : Sector) (s : State) : Res :=
  if !s.presented port.val ld.val then .next s else
  State.mbWritten (s.mbWrite port.val ld.val 0x4302 dpa.toNat (some data) false) port.val ld.val 0x4302 dpa.toNat

/-! ## Dynamic Capacity (R78, R79, R131) -/

/-- The extents of a logical device in a state. -/
def State.ldExtents (s : State) (p l : Nat) : List (Nat × Extent) := s.xlt.extents.filter fun e => e.2.port = p ∧ e.2.ld = l ∧ e.2.state = .active

/-- Release an extent (R79): RELEASING, directory entries cleared, invalidation; it is freed and reported when that completes. -/
def State.extentRelease (s : State) (e : Nat) : State :=
  match tget s.xlt.extents e with
  | some d =>
    if d.state = .active then
      ({ s with xlt.extents := tset s.xlt.extents e (Extent.seal { d with state := .releasing, listed := false }) }).inval 2 e (.extent e)
    else s
  | none => s

def extentVals (x : Nat × Extent) : List Nat := [x.1, x.2.dpaBase, x.2.length]
def execGetDcConfig (port : Port) (ld : Ld) (s : State) : Res :=
  if !s.presented port.val ld.val then .next s else
  s.mb port.val ld.val 0x4800 .success ((s.ld port.val ld.val).dcRegions.flatMap fun e => [e.1, e.2.1, e.2.2, 2 ^ 21])
def execGetDcExtentList (port : Port) (ld : Ld) (s : State) : Res :=
  if !s.presented port.val ld.val then .next s else
  s.mb port.val ld.val 0x4801 .success ((s.ldExtents port.val ld.val).flatMap extentVals)
/-- R131: an extent that the host does not accept is released. -/
def execAddDcResponse (port : Port) (ld : Ld) (accepted : List Nat) (s : State) : Res :=
  if !s.presented port.val ld.val then .next s else
  let offered := (s.ldExtents port.val ld.val).filter fun e => !e.2.reported
  let s := offered.foldl (fun s e =>
    if accepted.contains e.1 then { s with xlt.extents := tmod s.xlt.extents e.1 fun d => { d with reported := true } } else s.extentRelease e.1) s
  s.mb port.val ld.val 0x4802 .success []
/-- R79, R130: the release of the ACTIVE extents named is complete, and answered, when the invalidation of the last of them is; one that names none is refused. One that comes while another waits is answered busy, and of the extents named those not ACTIVE are left out without a word (DESIGN CHOICE, log entry 120). -/
def execReleaseDc (port : Port) (ld : Ld) (extents : List Nat) (s : State) : Res :=
  if !s.presented port.val ld.val then .next s else
  let p := port.val
  let l := ld.val
  let mine := ((s.ldExtents p l).filter fun e => extents.contains e.1).map Prod.fst
  if mine.isEmpty then s.mb p l 0x4803 .invalidInput []
  else if (s.ld p l).release.isSome then s.mb p l 0x4803 .busy []
  else .next (mine.foldl (fun s e => s.extentRelease e) (s.putLd p l { s.ld p l with release := some mine }))

/-- R130: every other opcode. -/
def execMailboxUnsupported (port : Port) (ld : Ld) (opcode : BitVec 16) (s : State) : Res :=
  if !s.presented port.val ld.val then .next s else
  if mailboxOpcodes.contains opcode.toNat then .next s else s.mb port.val ld.val opcode.toNat .unsupported []

/-! ## Fabric Manager -/

def execFmIdentify (s : State) : Res := s.fmAnswer "IDENTIFY" .success [0x1F3C, 0x0960, 0x1F3C, 0x0960]
def execBackgroundOperationStatus (s : State) : Res := s.fmAnswer "BACKGROUND_OPERATION_STATUS" .success [0]
/-- The response limit is not given: a free value. -/
def execGetResponseMessageLimit (s : State) : Res := s.useFree.fmAnswer "GET_RESPONSE_MESSAGE_LIMIT" .success [Config.freeNat s.free]
def execGetLdInfo (port : Port) (s : State) : Res :=
  s.fmAnswer "GET_LD_INFO" .success [((List.range 16).map fun l => s.ldCapacity port.val l).foldl (· + ·) 0, 16]
def execGetLdAllocations (port : Port) (s : State) : Res :=
  s.fmAnswer "GET_LD_ALLOCATIONS" .success ((List.range 16).map fun l => (s.ld port.val l).allocUnits)

/-- Whether a BOUND window or ACTIVE extent of a logical device lies in a range of DPAs, wholly or in part. -/
def State.ldUses (s : State) (p l lo hi : Nat) : Bool :=
  let inside (base len : Nat) : Bool := base < hi && lo < base + len
  ((List.range 32).any fun n => match tget s.xlt.windows (windowId p l n) with | some d => d.valid && d.state.toNat == 1 && inside d.dpaBase.toNat d.length.toNat | none => false) ||
  (s.ldExtents p l).any fun e => inside e.2.dpaBase e.2.length

/-- R132: refused where a BOUND window or ACTIVE extent lies in the range cut, or beyond the tenant's T2 quota. -/
def execSetLdAllocations (port : Port) (ld : Ld) (units : Nat) (s : State) : Res :=
  let p := port.val
  let l := ld.val
  let beyond := (s.quota (s.get HP.TENANT p l)).t2Quota < units * 4096
  if s.ldUses p l (units * 2 ^ 28) ((s.ld p l).allocUnits * 2 ^ 28) || (s.flag HP.BOUND p l && beyond) then s.fmAnswer "SET_LD_ALLOCATIONS" .invalidInput []
  else (s.putLd p l { s.ld p l with allocUnits := units }).fmAnswer "SET_LD_ALLOCATIONS" .success [units]

def execGetQosControl (port : Port) (s : State) : Res := s.fmAnswer "GET_QOS_CONTROL" .success [((tget s.hp.qosControl port.val).getD 0).toNat]
def execSetQosControl (port : Port) (value : BitVec 64) (s : State) : Res :=
  ({ s with hp.qosControl := tset s.hp.qosControl port.val value }).fmAnswer "SET_QOS_CONTROL" .success [value.toNat]
/-- The status of a port's QoS: the DevLoad of each logical device (R129). -/
def execGetQosStatus (port : Port) (s : State) : Res := s.fmAnswer "GET_QOS_STATUS" .success ((List.range 16).map fun l => s.devLoad port.val l)
def execGetQosAllocatedBw (port : Port) (s : State) : Res :=
  s.fmAnswer "GET_QOS_ALLOCATED_BW" .success ((List.range 16).map fun l => (s.ld port.val l).qosAlloc.toNat)
def execSetQosAllocatedBw (port : Port) (ld : Ld) (value : BitVec 8) (s : State) : Res :=
  (s.putLd port.val ld.val { s.ld port.val ld.val with qosAlloc := value }).fmAnswer "SET_QOS_ALLOCATED_BW" .success [value.toNat]
def execGetQosBwLimit (port : Port) (s : State) : Res :=
  s.fmAnswer "GET_QOS_BW_LIMIT" .success ((List.range 16).map fun l => (s.ld port.val l).qosLimit.toNat)
def execSetQosBwLimit (port : Port) (ld : Ld) (value : BitVec 8) (s : State) : Res :=
  (s.putLd port.val ld.val { s.ld port.val ld.val with qosLimit := value }).fmAnswer "SET_QOS_BW_LIMIT" .success [value.toNat]

def execGetDcdInfo (s : State) : Res := s.fmAnswer "GET_DCD_INFO" .success [128, 8, 2 ^ 21]
def execGetHostDcRegionConfig (port : Port) (ld : Ld) (s : State) : Res :=
  s.fmAnswer "GET_HOST_DC_REGION_CONFIG" .success ((s.ld port.val ld.val).dcRegions.flatMap fun e => [e.1, e.2.1, e.2.2])
/-- A DC region is at most 4 TiB, in multiples of 2 MiB; one with ACTIVE extents is not changed. -/
def execSetDcRegionConfig (port : Port) (ld : Ld) (region : Fin 8) (base len : BitVec 64) (s : State) : Res :=
  let x := s.ld port.val ld.val
  let old := tget x.dcRegions region.val
  let used := (s.ldExtents port.val ld.val).any fun e => match old with | some (b, n) => b ≤ e.2.dpaBase && e.2.dpaBase < b + n | none => false
  if used || 2 ^ 42 < len.toNat || base.toNat % 2 ^ 21 ≠ 0 || len.toNat % 2 ^ 21 ≠ 0 then s.fmAnswer "SET_DC_REGION_CONFIG" .invalidInput []
  else (s.putLd port.val ld.val { x with dcRegions := tset x.dcRegions region.val (base.toNat, len.toNat) }).fmAnswer "SET_DC_REGION_CONFIG" .success []
def execGetDcRegionExtentLists (port : Port) (ld : Ld) (s : State) : Res :=
  s.fmAnswer "GET_DC_REGION_EXTENT_LISTS" .success ((s.ldExtents port.val ld.val).flatMap extentVals)

/-- R78, R79, R131: the warden checks the binding, sets the extent ACTIVE with its directory entries, and only then reports it to the host. -/
def execInitiateDynamicCapacityAdd (port : Port) (ld : Ld) (ext : Nat) (desc : ExtentReq) (s : State) : Res :=
  let p := port.val
  let l := ld.val
  let base := desc.dpaBase.toNat
  let len := desc.length.toNat
  let tenant := s.get HP.TENANT p l
  let free := ext < 262144 && (match tget s.xlt.extents ext with | some d => d.state == .free | none => true)
  let inRegion := (s.ld p l).dcRegions.any fun e => e.2.1 ≤ base && base + len ≤ e.2.1 + e.2.2
  let clash := (s.ldExtents p l).any fun e => e.2.dpaBase < base + len && base < e.2.dpaBase + e.2.length
  if free && inRegion && !clash && s.flag HP.BOUND p l && base % 2 ^ 21 = 0 && len % 2 ^ 21 = 0 && 0 < len &&
      s.bindOk tenant desc.region.toNat desc.regionOff.toNat len desc.w then
    let d : Extent := { state := .active, r := desc.r, w := desc.w, tenant := tenant, dpaBase := base, length := len, region := desc.region.toNat,
                        regionGen := (s.regionAt desc.region.toNat).gen, regionOff := desc.regionOff.toNat, port := p, ld := l, listed := true, reported := false, check := 0 }
    (({ s with xlt.extents := tset s.xlt.extents ext d.seal } : State).emit (.device "DC_ADD_CAPACITY" [p, l, ext, base, len])).fmAnswer "INITIATE_DYNAMIC_CAPACITY_ADD" .success [ext]
  else s.fmAnswer "INITIATE_DYNAMIC_CAPACITY_ADD" .invalidInput [ext]

/-- R79: the request is answered, and the host told, when the invalidation completes (`State.extentGone`). -/
def execInitiateDynamicCapacityRelease (port : Port) (ld : Ld) (ext : Nat) (s : State) : Res :=
  let x := s.ld port.val ld.val
  if (s.ldExtents port.val ld.val).any fun e => e.1 == ext then .next ((s.putLd port.val ld.val { x with fmRelease := x.fmRelease ++ [ext] }).extentRelease ext)
  else s.fmAnswer "INITIATE_DYNAMIC_CAPACITY_RELEASE" .invalidInput [ext]

end Sys2Proof.Machine
end

