-- ==== Sys2Proof/Machine/MgtOps.lean ====
section
/-! DEFINITION. What the warden and MGT use to answer (15, 16, 19): record bytes, the status page, sensors, firmware transfers, answers. -/
namespace Sys2Proof.Machine

def mgtPage : Page := pg .mgt

/-! ## Records -/

/-- Bytes 0 to 59 of a record (chapter 16). -/
def Record.body (r : Record) : List Byte :=
  le 8 r.time ++ le 4 r.seq ++ le 2 r.code ++
  le 1 (b2n r.forced * 64 + b2n r.boot * 32 + b2n r.rsv * 16 + b2n r.summary * 8 + r.sev % 8) ++ le 1 r.inst ++ padTo 44 r.payload

/-- The 64 bytes of a record. -/
def Record.pack (r : Record) : List Byte := r.body ++ le 4 (crc32c r.body)

/-- Records by rising sequence number from seq, counted modulo 2^32. -/
def recordsFrom (l : List Record) (seq n : Nat) : List Record :=
  let keyed := (l.filter fun r => seqDist seq r.seq < 2 ^ 31).foldl (fun t r => tset t (seqDist seq r.seq) r) []
  (keyed.map Prod.snd).take n

/-- The records of the ring and of the spill ring. -/
def State.allRecords (s : State) : List Record := s.recd.spill ++ s.recd.slots.map fun e => e.2.entry

/-! ## The warden at its mailbox (R472, R473) -/

/-- Whether the warden acts: from boot step 3 to a halt or recovery. -/
def State.wardenUp (s : State) : Bool :=
  let g := s.get WDN.STAGE
  g == stageInit || g == stageReleased || g == stageRestoring || g == stageRunning

/-- Whether service firmware answers requests: released and not left OFF (R475). -/
def State.svcUp (s : State) : Bool := s.wardenUp && s.get WDN.STAGE != stageInit && !s.wdn.svcOff

/-- The device configuration is changed with a STORE; it takes effect at the next cold reset (R479, R480). -/
def State.configure (s : State) (f : DevConfig → DevConfig) : State :=
  ({ s with nvs.image.dev := some (f (s.nvs.image.dev.getD s.freshDev)) }).wardenStore

/-- What the warden does on a request it accepts, and the payload of its answer. -/
def State.wardenDo (s : State) : WardenAct → State × List Byte
  | .none => (s, [])
  | .write off size data => (s.access { req := .warden, off := off, size := size, write := true, data := data }, [])
  | .configure nodeId nodeValid userBlks sysBlks hrvReserve roMin format =>
    (s.configure fun _ => { nodeId := nodeId.toNat, nodeValid := nodeValid, userBlks := userBlks, sysBlks := sysBlks, hrvReserve := hrvReserve, roMin := roMin, formatPending := format }, [])
  | .slotWrite slot bytes => (s.slotWrite slot.toNat bytes, [])
  | .slotErase slot => (s.slotErase slot.toNat, [])
  | .queueContext qid r => (s.queueSetup qid.toNat r, [])
  | .pageMap p l page e => (s.pageMapSet p.val l.val page.toNat e, [])
  | .inject on => ({ s with hp.injectEnabled := on }, [])
  | .pci bar0 subId => ({ s with hp := { s.hp with bar0Log := 20 + bar0.val, subId := subId.toNat } }, [])
  | .spillRead seq count => (s, (recordsFrom s.recd.spill seq.toNat (min 256 count)).flatMap Record.pack)

/-- R472, R473: the warden answers the slot whose turn it is; it acts only when the status reports no error. New requests wait while an activation is switched (Table 15-8). -/
def execMailboxAnswer (slot : Fin 8) (status : BitVec 8) (act : WardenAct) (rsp : List (BitVec 8)) (s : State) : Res :=
  if s.mbNext ≠ some slot.val || !s.wardenUp || s.get WDN.ACT_STATE = actTrial then .next s
  else
    let good := match Status.ofCode status.toNat with | some x => x.good | none => false
    let (s, out) := if good then s.wardenDo act else (s, [])
    .next (s.mbAnswer slot.val status.toNat (if out.isEmpty then rsp else out))

/-! ## Status page and sensors -/

/-- Sensed rows: voltage and current sensors (Table 19-5). -/
def State.voltSensors (s : State) : List Nat := (List.range 41).filter fun n => rowVEn (s.row n)
def State.curSensors (s : State) : List Nat := (List.range 41).filter fun n => rowIEn (s.row n)

/-- The numeric and the state sensors. -/
def State.numericSensors (s : State) : List Nat :=
  (s.voltSensors.map (0x0100 + ·)) ++ (s.curSensors.map (0x0200 + ·)) ++ (List.range 16).map (0x0300 + ·) ++ [0x0310, 0x0400, 0x0401, 0x0402]
def stateSensors : List Nat := [0x0500, 0x0501, 0x0502]

/-- The reading of a numeric sensor. The junction sensor's sites are outside the model: its reading is a free value (log entry 36). -/
def State.numeric (s : State) (k : Nat) : Int :=
  if k < 0x0200 then (tget s.seq.sns (rowVsns (s.row (k - 0x0100)))).getD 0
  else if k < 0x0300 then (tget s.seq.sns (rowIsns (s.row (k - 0x0200)))).getD 0
  else if k < 0x0310 then (tget s.seq.temps (k - 0x0300)).getD 0
  else if k = 0x0310 then Config.freeNat s.free % 256
  else if k = 0x0400 then s.get HRV.BANK_V_MV
  else if k = 0x0401 then (s.get HRV.HRV_TIDE_NOW / 256 : Nat)
  else (s.devBrine / 256 : Nat)

/-- The state a state sensor shows. -/
def State.stateSensor (s : State) (k : Nat) : Nat :=
  if k = 0x0500 then s.get TWN.STATE else if k = 0x0501 then s.flmState else s.get HRV.STATE

/-- The thresholds of a numeric sensor: warning and fault limits of its row or input. -/
def State.thresholds (s : State) (k : Nat) : List Int :=
  let r := s.row (k % 0x100)
  if k < 0x0200 then [rowFaultLo r, rowWarnLo r, rowWarnHi r, rowFaultHi r]
  else if k < 0x0300 then [rowOcWarn r, rowOcFault r]
  else if k < 0x0310 then let t := s.tempSet (k - 0x0300); [t.2.1, t.1]
  else []

/-- The reading of a sensor of either kind, in 32 bits. -/
def State.sensor (s : State) (k : Nat) : Option Nat :=
  if s.numericSensors.contains k then some (ofSigned 32 (s.numeric k)) else if stateSensors.contains k then some (s.stateSensor k) else none

/-! ## Firmware updates (R589, R491) -/

/-- Bytes c in place at offset off of l. -/
def splice (l : List Byte) (off : Nat) (c : List Byte) : List Byte := padTo off l ++ c ++ l.drop (off + c.length)

/-- A chunk of an image goes to the standby slot of its type; the first one empties the slot. -/
def State.imageChunk (s : State) (u : Update) (off : Nat) (c : List Byte) : State :=
  let slot := s.standby u.typ
  let k := slotKey u.typ slot
  let old := if u.got.isEmpty then [] else (tget s.wdn.bootBlocks k).getD []
  let s := if u.got.isEmpty then s.setMark u.typ slot .empty else s
  { s with wdn.bootBlocks := tset s.wdn.bootBlocks k (splice old off c), mgt.update := some { u with got := tset u.got off c.length } }

/-- Bytes of an update that have come. -/
def Update.bytes (u : Update) : Nat := (u.got.map Prod.snd).foldl (· + ·) 0

/-- All data has come: the warden checks the slot (R491). -/
def State.imageDone (s : State) (u : Update) : State := { s.slotCheck u.typ (s.standby u.typ) with mgt.update := some { u with complete := true } }

/-- ActivateFirmware (R589, R492): a service image starts its activation, a warden image is marked TRIAL. Gives the status. -/
def State.activate (s : State) (typ : Nat) : State × Status :=
  if typ = imgService then
    let (s, ok) := s.actStart
    (s, if ok then .ok else .aborted)
  else if typ = imgWarden && s.slotMark imgWarden (s.standby imgWarden) = .valid then
    ((s.setMark imgWarden (s.standby imgWarden) .trial).wardenStore, .ok)
  else (s, .aborted)

def Binding.code : Binding → Nat
  | .smbus => 0 | .i3c => 1 | .pcieVdm => 2

/-- An answer on a binding; a binding that is off answers nothing. -/
def State.mctp (s : State) (b : Binding) (cmd : String) (code : Nat) (vals : List Nat) : State :=
  if b = .i3c && !s.flag MGT.I3C_EN then s else s.emit (.mctp (Binding.code b) cmd code vals)

/-- A PLDM answer: from service firmware (Table 19-11). -/
def State.pldm (s : State) (b : Binding) (cmd : String) (code : Nat) (vals : List Nat) : State :=
  if s.svcUp then s.mctp b cmd code vals else s

/-- DMTF completion codes. PRESUMED: the spec names the codes and gives no numbers (log entry 37). -/
def pldmOk : Nat := 0x00
def pldmInvalidData : Nat := 0x02
def pldmUnsupported : Nat := 0x05
def pldmNotInUpdate : Nat := 0x80
def pldmInUpdate : Nat := 0x81
def pldmBadSensor : Nat := 0x80

end Sys2Proof.Machine
end

