-- ==== Sys2Proof/Machine/Mgt.lean ====
section
/-! DEFINITION. MCTP, PLDM and Taraivi (19). -/
namespace Sys2Proof.Machine

/-! ## MCTP control (R586, R587) -/

/-- First bit of a binding's byte of EIDS (Table 19-10). -/
def Binding.eidAt : Binding → Nat
  | .smbus => 16 | .i3c => 8 | .pcieVdm => 0

/-- R586: Set Endpoint ID. EIDs 0 and 0xFF are the null and the broadcast EID of MCTP and are not taken (log entry 37). -/
def execSetEndpointId (bind : Binding) (eid : BitVec 8) (s : State) : Res :=
  let e := eid.toNat
  let at' := Binding.eidAt bind
  if bind = .i3c && !s.flag MGT.I3C_EN then .next s
  else if e = 0 || e = 0xFF then .next (s.mctp bind "SET_ENDPOINT_ID" pldmInvalidData [bits (s.get MGT.EIDS) at' 8])
  else .next ((s.put MGT.EIDS (setBits (s.get MGT.EIDS) at' 8 e)).mctp bind "SET_ENDPOINT_ID" pldmOk [e])

/-- R587: Get Endpoint ID. -/
def execGetEndpointId (bind : Binding) (s : State) : Res := .next (s.mctp bind "GET_ENDPOINT_ID" pldmOk [bits (s.get MGT.EIDS) (Binding.eidAt bind) 8])

/-- R587: Get Endpoint UUID. The spec gives no UUID: a free value (log entry 37). -/
def execGetEndpointUuid (bind : Binding) (s : State) : Res :=
  .next (s.useFree.mctp bind "GET_ENDPOINT_UUID" pldmOk [(Config.freeBits 128 s.free).toNat])

/-- The message types the SK960 accepts (R587). -/
def mctpTypes : List Nat := [0x00, 0x01, 0x07, 0x08, 0x7E]

/-- R587: Get MCTP Version Support. The version numbers stand in the MCTP specification: a free value. -/
def execGetMctpVersionSupport (bind : Binding) (msgType : BitVec 8) (s : State) : Res :=
  let t := msgType.toNat
  if t = 0xFF || mctpTypes.contains t then .next (s.useFree.mctp bind "GET_MCTP_VERSION_SUPPORT" pldmOk [(Config.freeBits 32 s.free).toNat])
  else .next (s.mctp bind "GET_MCTP_VERSION_SUPPORT" pldmNotInUpdate [])

/-- R587: Get Message Type Support. -/
def execGetMessageTypeSupport (bind : Binding) (s : State) : Res := .next (s.mctp bind "GET_MESSAGE_TYPE_SUPPORT" pldmOk mctpTypes)

/-- R587: Get Vendor Defined Message Support: Halentov's PCI vendor ID. -/
def execGetVendorDefinedMessageSupport (bind : Binding) (s : State) : Res :=
  .next (s.mctp bind "GET_VENDOR_DEFINED_MESSAGE_SUPPORT" pldmOk [0x1F3C])

/-- R587: a message of a type that is not accepted is dropped. -/
def execMctpMessageDrop (_bind : Binding) (_msgType : BitVec 8) (s : State) : Res := .next s

/-! ## PLDM base and platform monitoring (R588) -/

/-- The PLDM types and the commands of each (Table 19-5), by their names in the order of the table. -/
def pldmTypes : List Nat := [0, 2, 5]
def pldmCommands (t : Nat) : List String :=
  if t = 0 then ["GetTID", "SetTID", "GetPLDMVersion", "GetPLDMTypes", "GetPLDMCommands"]
  else if t = 2 then ["SetEventReceiver", "GetPDRRepositoryInfo", "GetPDR", "GetSensorReading", "GetStateSensorReadings", "PollForPlatformEventMessage"]
  else if t = 5 then ["QueryDeviceIdentifiers", "GetFirmwareParameters", "RequestUpdate", "PassComponentTable", "UpdateComponent", "ActivateFirmware",
    "GetStatus", "CancelUpdateComponent", "CancelUpdate"]
  else []

/-- R588: GetTID. -/
def execGetTid (bind : Binding) (s : State) : Res := .next (s.pldm bind "GET_TID" pldmOk [s.mgt.tid])

/-- R588: SetTID. TIDs 0 and 0xFF are reserved in PLDM (log entry 37). -/
def execSetTid (bind : Binding) (tid : BitVec 8) (s : State) : Res :=
  let t := tid.toNat
  if !s.svcUp then .next s
  else if t = 0 || t = 0xFF then .next (s.pldm bind "SET_TID" pldmInvalidData [])
  else .next (({ s with mgt.tid := t }).pldm bind "SET_TID" pldmOk [])

/-- R588: GetPLDMVersion. The version numbers stand in the PLDM specifications: a free value. -/
def execGetPldmVersion (bind : Binding) (pldmType : BitVec 8) (s : State) : Res :=
  if pldmTypes.contains pldmType.toNat then .next (s.useFree.pldm bind "GET_PLDM_VERSION" pldmOk [(Config.freeBits 32 s.free).toNat])
  else .next (s.pldm bind "GET_PLDM_VERSION" 0x83 [])

/-- R588: GetPLDMTypes. -/
def execGetPldmTypes (bind : Binding) (s : State) : Res := .next (s.pldm bind "GET_PLDM_TYPES" pldmOk pldmTypes)

/-- R588: GetPLDMCommands: how many commands of Table 19-5 a type has. -/
def execGetPldmCommands (bind : Binding) (pldmType : BitVec 8) (s : State) : Res :=
  if pldmTypes.contains pldmType.toNat then .next (s.pldm bind "GET_PLDM_COMMANDS" pldmOk [(pldmCommands pldmType.toNat).length])
  else .next (s.pldm bind "GET_PLDM_COMMANDS" 0x83 [])

/-- R588: SetEventReceiver. -/
def execSetEventReceiver (bind : Binding) (enable : Bool) (eid : BitVec 8) (s : State) : Res :=
  if !s.svcUp then .next s
  else .next (({ s with mgt.receiver := if enable then some (Binding.code bind, eid.toNat) else none }).pldm bind "SET_EVENT_RECEIVER" pldmOk [])

/-- The sensors with a PDR, in handle order from 1. -/
def State.pdrs (s : State) : List Nat := s.numericSensors ++ stateSensors

/-- R588: GetPDRRepositoryInfo: the number of records. -/
def execGetPdrRepositoryInfo (bind : Binding) (s : State) : Res := .next (s.pldm bind "GET_PDR_REPOSITORY_INFO" pldmOk [s.pdrs.length])

/-- R588: GetPDR: next handle, sensor ID, thresholds. Handle 0 is the first record. -/
def execGetPdr (bind : Binding) (handle : BitVec 32) (s : State) : Res :=
  let h := max 1 handle.toNat
  match s.pdrs[h - 1]? with
  | some k => .next (s.pldm bind "GET_PDR" pldmOk ([if h < s.pdrs.length then h + 1 else 0, k] ++ (s.thresholds k).map (ofSigned 32)))
  | none => .next (s.pldm bind "GET_PDR" 0x82 [])

/-- R588: GetSensorReading. -/
def execGetSensorReading (bind : Binding) (sensor : BitVec 16) (s : State) : Res :=
  let k := sensor.toNat
  if s.numericSensors.contains k then .next ((if k = 0x0310 then s.useFree else s).pldm bind "GET_SENSOR_READING" pldmOk [ofSigned 32 (s.numeric k)])
  else .next (s.pldm bind "GET_SENSOR_READING" pldmBadSensor [])

/-- R588: GetStateSensorReadings. -/
def execGetStateSensorReadings (bind : Binding) (sensor : BitVec 16) (s : State) : Res :=
  let k := sensor.toNat
  if stateSensors.contains k then .next (s.pldm bind "GET_STATE_SENSOR_READINGS" pldmOk [s.stateSensor k])
  else .next (s.pldm bind "GET_STATE_SENSOR_READINGS" pldmBadSensor [])

/-- R588: PollForPlatformEventMessage. The spec names no event that PLDM queues: none waits (log entry 37). -/
def execPollForPlatformEventMessage (bind : Binding) (s : State) : Res := .next (s.pldm bind "POLL_FOR_PLATFORM_EVENT_MESSAGE" pldmOk [0])

/-- R588: a command outside Table 19-5. -/
def execPldmUnsupported (bind : Binding) (pldmType : BitVec 8) (cmd : BitVec 8) (s : State) : Res :=
  .next (s.pldm bind "PLDM_UNSUPPORTED" pldmUnsupported [pldmType.toNat, cmd.toNat])

/-! ## PLDM firmware update (R588, R589) -/

/-- R588: QueryDeviceIdentifiers: the PCI vendor ID. -/
def execQueryDeviceIdentifiers (bind : Binding) (s : State) : Res := .next (s.pldm bind "QUERY_DEVICE_IDENTIFIERS" pldmOk [0x1F3C])

/-- R588: GetFirmwareParameters: versions of the running images and of those in the standby slots, by component. -/
def execGetFirmwareParameters (bind : Binding) (s : State) : Res :=
  let ver (t : Nat) : List Nat := [imgVer (s.slotImage t (s.activeSlot t)), imgVer (s.slotImage t (s.standby t))]
  .next (s.pldm bind "GET_FIRMWARE_PARAMETERS" pldmOk ([imgWarden] ++ ver imgWarden ++ [imgService] ++ ver imgService))

/-- R589: RequestUpdate. -/
def execRequestUpdate (bind : Binding) (s : State) : Res :=
  if !s.svcUp then .next s
  else if s.mgt.update.isSome then .next (s.pldm bind "REQUEST_UPDATE" pldmInUpdate [])
  else .next (({ s with mgt.update := some { pldm := true, typ := 0, size := 0, got := [], complete := false } }).pldm bind "REQUEST_UPDATE" pldmOk [])

/-- An answer that needs a PLDM update to run. -/
def State.inUpdate (s : State) (b : Binding) (cmd : String) (k : Update → State) : State :=
  if !s.svcUp then s
  else match s.mgt.update with
  | some u => if u.pldm then k u else s.pldm b cmd pldmNotInUpdate []
  | none => s.pldm b cmd pldmNotInUpdate []

/-- R588: PassComponentTable: components 1 and 2. -/
def execPassComponentTable (bind : Binding) (comp : BitVec 16) (s : State) : Res :=
  .next (s.inUpdate bind "PASS_COMPONENT_TABLE" fun _ =>
    s.pldm bind "PASS_COMPONENT_TABLE" pldmOk [b2n (comp.toNat = imgWarden || comp.toNat = imgService)])

/-- R588: UpdateComponent: the transfer starts with RequestFirmwareData. -/
def execUpdateComponent (bind : Binding) (comp : BitVec 16) (size : Nat) (s : State) : Res :=
  .next (s.inUpdate bind "UPDATE_COMPONENT" fun u =>
    if (comp.toNat = imgWarden || comp.toNat = imgService) && u.typ = 0 && 0 < size then
      let s : State := { s with mgt.update := some { u with typ := comp.toNat, size := size, got := [], complete := false } }
      (s.pldm bind "UPDATE_COMPONENT" pldmOk [1]).pldm bind "REQUEST_FIRMWARE_DATA" pldmOk [0]
    else s.pldm bind "UPDATE_COMPONENT" pldmInvalidData [0])

/-- R491: image data comes; with the last of it the slot is checked, and TransferComplete, VerifyComplete and ApplyComplete are sent. -/
def execFirmwareDataReceived (offset : Nat) (chunk : List (BitVec 8)) (s : State) : Res :=
  match s.mgt.update with
  | none => .next s
  | some u =>
    if !u.pldm || u.typ = 0 || u.complete || u.size < offset + chunk.length || chunk.isEmpty || !s.svcUp then .next s
    else
      let s := s.imageChunk u offset chunk
      let u := s.mgt.update.getD u
      if u.bytes < u.size then .next (s.emit (.mctp 0 "REQUEST_FIRMWARE_DATA" pldmOk [u.bytes]))
      else
        let s := s.imageDone u
        let ok := s.slotMark u.typ (s.standby u.typ) == .valid
        .next (((s.emit (.mctp 0 "TRANSFER_COMPLETE" pldmOk [])).emit (.mctp 0 "VERIFY_COMPLETE" (b2n !ok) [])).emit (.mctp 0 "APPLY_COMPLETE" (b2n !ok) []))

/-- R589: ActivateFirmware; the update ends. -/
def execActivateFirmware (bind : Binding) (s : State) : Res :=
  .next (s.inUpdate bind "ACTIVATE_FIRMWARE" fun u =>
    if !u.complete then s.pldm bind "ACTIVATE_FIRMWARE" pldmInvalidData []
    else
      let (s, st) := s.activate u.typ
      if st = .ok then ({ s with mgt.update := none }).pldm bind "ACTIVATE_FIRMWARE" pldmOk [b2n (u.typ = imgWarden)]
      else s.pldm bind "ACTIVATE_FIRMWARE" pldmInvalidData [])

/-- R588: GetStatus: whether an update runs, whether it is complete, bytes received. -/
def execPldmGetStatus (bind : Binding) (s : State) : Res :=
  let u := s.mgt.update.getD { pldm := false, typ := 0, size := 0, got := [], complete := false }
  .next (s.pldm bind "PLDM_GET_STATUS" pldmOk [b2n s.mgt.update.isSome, b2n u.complete, u.bytes])

/-- R588: CancelUpdateComponent: the component's transfer is dropped. -/
def execCancelUpdateComponent (bind : Binding) (s : State) : Res :=
  .next (s.inUpdate bind "CANCEL_UPDATE_COMPONENT" fun u =>
    ({ s with mgt.update := some { u with typ := 0, size := 0, got := [], complete := false } }).pldm bind "CANCEL_UPDATE_COMPONENT" pldmOk [])

/-- R588: CancelUpdate. -/
def execCancelUpdate (bind : Binding) (s : State) : Res :=
  .next (s.inUpdate bind "CANCEL_UPDATE" fun _ => ({ s with mgt.update := none }).pldm bind "CANCEL_UPDATE" pldmOk [])

/-! ## Taraivi (R590, R591) -/

def roleObserver : Nat := 0
def roleOperator : Nat := 1
def roleDomain : Nat := 2
def roleAlarm : Nat := 3

/-- COUNTER of a request. -/
def TaraiviHdr.ctr (t : TaraiviHdr) : Nat := t.boot.toNat * 2 ^ 32 + t.count.toNat

/-- A response: TYPE + 0x80, CORR the request's COUNTER, the status byte. -/
def State.taraivi (s : State) (t : TaraiviHdr) (typ : Nat) (st : Status) (vals : List Nat) : State :=
  s.emit (.taraivi t.role.toNat (typ + 0x80) (TaraiviHdr.ctr t) st.code vals)

/-- The checks of R591, and the role of Table 19-7. A request of another role is answered ACCESS_VIOLATION (R472; log entry 38). up: whether the one who answers runs. -/
def State.request' (s : State) (t : TaraiviHdr) (typ role : Nat) (up : Bool) (k : State → State) : State :=
  if !s.wardenUp then s
  else if !(t.tagOk && t.boot.toNat == s.wdn.bootCnt % 2 ^ 32 && (match tget s.wdn.counters t.role.toNat with | some c => c < t.count.toNat | none => true)) then
    s.inc MGT.AUTH_REJECT
  else
    let s : State := { s with wdn.counters := tset s.wdn.counters t.role.toNat t.count.toNat }
    if t.role.toNat ≠ role then (s.misc wdnPage 5 (le 1 t.role.toNat ++ le 1 typ)).taraivi t typ .accessViolation []
    else if up then k s else s

/-- An OBSERVER request, answered by service firmware. -/
def State.observer (s : State) (t : TaraiviHdr) (typ : Nat) (k : State → State) : State := s.request' t typ roleObserver s.svcUp k
/-- An OPERATOR or DOMAIN request, performed by the warden, with its status. -/
def State.perform (s : State) (t : TaraiviHdr) (typ role : Nat) (k : State → State × Status) : State :=
  s.request' t typ role true fun s => let (s, st) := k s; s.taraivi t typ st []

/-- R591: IDENTIFY, under any role and without a tag. -/
def execIdentify (t : TaraiviHdr) (s : State) : Res :=
  if !s.wardenUp then .next s
  else .next (s.taraivi t 0x01 .ok [s.wdn.bootCnt, ofLe s.identityDigest, imgVer s.wdn.wdnImg, imgVer ((tget s.wdn.banks (s.get WDN.SVC_BANK)).getD [])])

/-- R496: ATTEST. -/
def execAttest (t : TaraiviHdr) (nonce : BitVec 256) (s : State) : Res :=
  .next (s.observer t 0x02 fun s => s.useFree.taraivi t 0x02 .ok ((s.attest (le 32 nonce.toNat)).map BitVec.toNat))

/-- R591: GET_STATUS: the fields of TWN, HRV, FLM and the device part of the status page (Table 19-7). -/
def execGetStatus (t : TaraiviHdr) (s : State) : Res :=
  .next (s.observer t 0x03 fun s => s.taraivi t 0x03 .ok
    ([s.get TWN.STATE, s.get TWN.IN_SYNC, s.get TWN.SERVE, s.get TWN.BUNDLES, s.get HRV.STATE, s.get HRV.CAUSE, s.get HRV.HARVEST_SEQ, s.flmState,
      s.ftlGet FTL.SPARE_LEFT_PCT] ++ ((s.statusPage 0).take 5).map fun x => x.2.2))

/-- R591: GET_TELEMETRY: sensor values, then the recorder's counters. An unknown sensor reads 0xFFFF_FFFF (log entry 38). -/
def execGetTelemetry (t : TaraiviHdr) (sensors : List (BitVec 16)) (s : State) : Res :=
  .next (s.observer t 0x04 fun s =>
    let vals := sensors.map fun k => (s.sensor k.toNat).getD 0xFFFF_FFFF
    (if sensors.contains 0x0310 then s.useFree else s).taraivi t 0x04 .ok (vals ++ [s.get REC.HEAD_SEQ, s.get REC.OVW_CNT, s.get REC.LOST_CNT, s.get MGT.ALARM_SENT]))

/-- R591: READ_RECORDS: up to 15 records, each as the number its 64 bytes spell. -/
def execReadRecords (t : TaraiviHdr) (seq : BitVec 32) (count : Nat) (s : State) : Res :=
  .next (s.observer t 0x05 fun s => s.taraivi t 0x05 .ok ((recordsFrom s.allRecords seq.toNat (min 15 count)).map fun r => ofLe r.pack))

/-- Whether an offset is that of an RWP field, and the bytes of the register it stands in. -/
def rwpAt (off : Nat) : Option (Page × Nat) :=
  match Page.ofOff off with
  | none => none
  | some p =>
    let fs := (slotsAt p (off % 4096) 4).filter fun x => x.2.1.acc == .rwp
    if off % 4 ≠ 0 || off % 4096 < 0x100 || fs.isEmpty then none
    else some (p, if off % 8 = 0 && fs.any (fun x => 32 < x.2.1.width) then 8 else 4)

/-- R591: GET_CONFIG. -/
def execGetConfig (t : TaraiviHdr) (offs : List (BitVec 32)) (s : State) : Res :=
  .next (s.observer t 0x06 fun s =>
    if offs.all fun o => (rwpAt o.toNat).isSome then
      s.taraivi t 0x06 .ok (offs.map fun o => match rwpAt o.toNat with | some (p, n) => s.readPage p (o.toNat % 4096) n | none => 0)
    else s.taraivi t 0x06 .accessViolation [])

/-- R591: SET_CONFIG: the warden's control writes, then a STORE where asked. -/
def execSetConfig (t : TaraiviHdr) (writes : List (BitVec 32 × BitVec 64)) (store : Bool) (s : State) : Res :=
  .next (s.perform t 0x10 roleOperator fun s =>
    if writes.all fun w => (rwpAt w.1.toNat).isSome then
      let s := writes.foldl (fun s w => match rwpAt w.1.toNat with | some (p, n) => s.regWrite .warden p (w.1.toNat % 4096) n w.2.toNat | none => s) s
      (if store then s.wardenStore else s, .ok)
    else (s, .accessViolation))

/-- R520: CLEAR_RECORDS. -/
def execClearRecords (t : TaraiviHdr) (upto : BitVec 32) (s : State) : Res :=
  .next (s.perform t 0x11 roleOperator fun s => (s.clearUpto .warden upto.toNat, .ok))

/-- R589: FW_TRANSFER: a chunk of an image; one update at a time. -/
def execFwTransfer (t : TaraiviHdr) (imgType : BitVec 8) (offset : Nat) (chunk : List (BitVec 8)) (last : Bool) (s : State) : Res :=
  .next (s.perform t 0x12 roleOperator fun s =>
    let typ := imgType.toNat
    let fresh : Update := { pldm := false, typ := typ, size := 0, got := [], complete := false }
    let u := s.mgt.update.getD fresh
    if u.pldm || u.typ ≠ typ || (typ ≠ imgWarden && typ ≠ imgService) || u.complete then (s, .aborted)
    else
      let s := s.imageChunk u offset chunk
      (if last then s.imageDone (s.mgt.update.getD u) else s, .ok))

/-- R589: FW_ACTIVATE, as ActivateFirmware. -/
def execFwActivate (t : TaraiviHdr) (imgType : BitVec 8) (s : State) : Res :=
  .next (s.perform t 0x13 roleOperator fun s =>
    let (s, st) := s.activate imgType.toNat
    (if st = .ok then { s with mgt.update := none } else s, st))

/-- R591: PAIR_CTL. -/
def execPairCtl (t : TaraiviHdr) (op : PairOp) (s : State) : Res :=
  .next (s.perform t 0x14 roleOperator fun s => (match op with
    | .aloneOk => s.put TWN.ALONE_OK 1
    | .pairAccept => s.pairAccept
    | .acceptLoss => s.acceptLoss
    | .handoff give g => s.handoffOp (if give then 1 else 2) g.val, .ok))

/-- R591: POWER_CTL. -/
def execPowerCtl (t : TaraiviHdr) (op : PowerOp) (s : State) : Res :=
  .next (s.perform t 0x15 roleOperator fun s => (match op with
    | .shutdown => s.harvestStart 4
    | .powerUp => s.powerUp
    | .powerDown => s.powerDown
    | .faultClr => s.faultClear
    | .railFaultClear m => s.railFaultClear m.toNat, .ok))

/-- R591: STORE_CTL. -/
def execStoreCtl (t : TaraiviHdr) (reload : Bool) (s : State) : Res :=
  .next (s.perform t 0x16 roleOperator fun s => (if reload then s.nvsCommand nvsReload else s.nvsCommand nvsStore, .ok))

/-- R483: KEY_DELIVER. -/
def execKeyDeliver (t : TaraiviHdr) (wrapped : WrappedKey) (s : State) : Res :=
  .next (s.perform t 0x20 roleDomain fun s =>
    let (s, ok) := s.keyDeliver wrapped
    (s, if ok then .ok else .authFail))

/-- The warden writes descriptor, paths and keys of a FREE slot and opens it; with NODE_VALID 0 it opens none (R426, R479). -/
def State.connRequest (s : State) : ConnReq → State × Status
  | .openConn i d k =>
    let c := s.conn i.toNat
    let valid := match s.nvs.image.dev with | some x => x.nodeValid | none => false
    if !valid || c.state ≠ .free then (s, .aborted)
    else
      let s := (s.putConn i.toNat { c with desc := d, keys0 := some k, keys1 := none }).connOpen i.toNat
      (s, if (s.conn i.toNat).state = .opened then .ok else .aborted)
  | .close i => (s.connClose i.toNat, .ok)
  | .rekey i k =>
    let s := s.modConn i.toNat fun c => if c.phase then { c with keys0 := some k } else { c with keys1 := some k }
    (s.rekeyInstall i.toNat, .ok)
  | .node id =>
    if id.toNat % 2 ≠ s.unit then (s, .accessViolation)
    else (s.configure fun d => { d with nodeId := id.toNat, nodeValid := true }, .ok)

/-- R426: CONN_CTL. -/
def execConnCtl (t : TaraiviHdr) (op : ConnReq) (s : State) : Res := .next (s.perform t 0x21 roleDomain fun s => s.connRequest op)

/-- Whether a change that names no claim group is this twin's to apply (R477). -/
def State.mayApply (s : State) : Bool := s.solo || (s.unit == 0 && (s.role == rolePaired || s.role == roleSrc || s.role == roleDst))

/-- A tenant's quotas (R197). -/
def State.quotaSet (s : State) (tenant t1 t2 : Nat) : State × Status :=
  let others := s.tier.quotas.filter fun e => e.1 != tenant
  let sum (f : Quota → Nat) : Nat := (others.map fun e => f e.2).foldl (· + ·) 0
  if s.get TIER.T1_FRAMES < sum (·.t1Quota) + t1 + s.ftlGet FTL.SYS_BLKS + s.get TIER.LOOSE_MIN || s.ftlGet FTL.USER_BLKS < sum (·.t2Quota) + t2 then
    (s, .quotaExceeded)
  else (s.putQuota tenant (Quota.seal { s.quota tenant with t1Quota := t1, t2Quota := t2 }), .ok)

/-- The binding of a logical device: LD_TENANT, which LOCK makes read-only (R49, R101; log entry 39), and which changes only while the logical device is unused (R65); refused otherwise, with ABORTED (log entry 98), as is the binding of a slot that the link does not present (R100). -/
def State.ldBind (s : State) (p l : Nat) (bound : Bool) (tenant : Nat) : State × Status :=
  let page := pg .hp p
  if s.rd page HDR.LOCK = 1 then (s.ctlErr page 1 4 (capOf .warden (page.base + 0x140 + 4 * l) (b2n bound * 2 ^ 31 + tenant)), .accessViolation)
  else if !s.ldUnused p l || (bound && !s.presented p l) then (s, .aborted)
  else ((s.put HP.BOUND (b2n bound) p l).put HP.TENANT tenant p l, .ok)

/-- R477: TENANT_CTL. -/
def execTenantCtl (t : TaraiviHdr) (op : TenantReq) (s : State) : Res :=
  .next (s.perform t 0x22 roleDomain fun s =>
    if !s.mayApply then (s, .fenced)
    else match op with
    | .quota tn t1 t2 => s.quotaSet tn.toNat t1.toNat t2.toNat
    | .ldBind p l b tn => s.ldBind p.val l.val b tn.toNat)

/-- R592: a collector acknowledges an alarm. -/
def execAlarmAck (corr : BitVec 64) (s : State) : Res := .next { s with recd.sent := s.recd.sent.filter fun x => x.corr != corr.toNat }

end Sys2Proof.Machine
end

