-- ==== Sys2Proof/Machine/MoverEvents.lean ====
section
/-! DEFINITION. The movers' decisions (06), each at its safe point: the claim of a step, the end of its MOVE. -/
namespace Sys2Proof.Machine

/-- R171, R172, R160: an idle mover claims the step of a command that is due, unless work of a better class waits, another queue has its turn or the command has MAX_PER_CMD movers, and walks it; one that better work has passed over for another victim goes on with its own command. QE's assignment is the safe point of MAX_PER_CMD (R186). -/
def execMoverStepClaim (mover : MoverId) (qid : BitVec 20) (cmdId : BitVec 16) (parity : Bool) (s : State) : Res :=
  let m := mover.val
  match s.qe.cmds.find? fun x => x.qid == qid.toNat && x.cmdId == cmdId.toNat && x.cmd.moves with
  | none => .next s
  | some x =>
    let due := match s.keptFor m with | some y => y.order == x.order | none => !s.betterWaits m x.sclass && s.myTurn m x
    if s.frozen || s.resting (movPage m) || s.get MOV.STATE m != movIdle || s.flag MOV.OFFLINE m || !due || !s.wantsMover x m then .next s
    else match x.claimable m with
    | none => .next s
    | some k =>
      let r := (x.step k).getD (freshStep k (.running m))
      let s := s.assignPoint
      let n := if s.moversOn x = 0 then s.qe.nextDispatch else x.dispatched
      let s := s.modCmd x.qid x.cmdId fun y => if y.order = x.order then { y.setStep { r with state := .running m, ran := m } with dispatched := n } else y
      let s : State := { s.turnTaken x.qid x.sclass with mov := { s.mov with runs := tset s.mov.runs m { qid := x.qid, cmdId := x.cmdId, index := k, inPlace := false }, kept := tdel s.mov.kept m } }
      let s : State := { s with qe.nextDispatch := max s.qe.nextDispatch (n + 1) }
      .next (((s.moverShow m x k).put MOV.STATE movWalk m).runWalk m x k parity)

/-- Whether a command reads a source of this SK960 (R173). -/
def QCmd.readsHere : QCmd → Bool
  | .copy .. | .rwrite .. => true
  | _ => false

/-- Whether a step has ended its MOVE without a fault: COMPLETE or ISSUED. -/
def Cmd.moved (x : Cmd) (k : Nat) : Bool :=
  k < x.low || x.complete.contains k || (match x.step k with | some r => (match r.state with | .issued .. => true | .running _ | .parked | .ready | .waiting _ => false) | none => false)

/-- R172, R177, R183, Table 6-2: the end of MOVE of the step a mover holds, with a parity error inside the mover, or with a source sector whose integrity tag fails after refetch. A pre-emption counts where the step ends there (R180, Table 6-3). The end of the step is the safe point of OFFLINE (R186). -/
def execMoverMoveDone (mover : MoverId) (how : MoveEnd) (s : State) : Res :=
  let m := mover.val
  if s.get MOV.STATE m != movMove then .next s
  else
    let t := match tget s.mov.runs m with
    | none => s
    | some r =>
      match (s.cmd r.qid r.cmdId).bind fun x => (x.step r.index).map fun st => (x, st) with
      | none => s.moverFree m
      | some (x, st) =>
        if how = MoveEnd.parity then s.moverBroken m r.qid r.cmdId r.index
        else if how = MoveEnd.sourceTag && x.cmd.readsHere then s.moverStop m r.qid r.cmdId r.index .internal
        else
          let pre := s.preempted m x
          let keeps := s.preempts m x && !pre
          let s := s.moveStep m r.qid r.cmdId r.index x st
          if pre && (match s.cmd r.qid r.cmdId with | some y => y.moved r.index && !y.stop | none => false) then s.inc MOV.PREEMPT_CNT 1 m
          else if keeps then { s with mov.kept := tset s.mov.kept m (r.qid, r.cmdId) } else s
    .next (if t.canApply (movPage m) then t.safePoint (movPage m) else t)

end Sys2Proof.Machine
end

