-- ==== Sys2Proof/Machine/TierEvents.lean ====
section
/-! DEFINITION. The decisions of TIER (07), each from TIER's safe point on: replacement, write-back, the list check of a schedule, path points, the life of an entry. -/
namespace Sys2Proof.Machine

/-- Whether replacement may take a block: loose, RESIDENT, no fill in flight, a block of a region (R202). -/
def State.replaceable (s : State) (p : Nat) (b : TBlock) : Bool :=
  b.loose && b.state == .resident && b.filling.isEmpty && p < s.get FTL.USER_BLKS 48

/-- R202, R616: while fewer than FREE_MIN frames are free, a loose block chosen by NRU starts to leave; when every candidate's reference bit is set, all are cleared first. Between two replacement decisions TIER is at its safe point (R52, R231). -/
def execTierReplacement (pbn : Nat) (s : State) : Res :=
  if s.resting tierPage then .next s else
  let s := s.safePoint tierPage
  match s.block pbn with
  | none => .next s
  | some b =>
    let cands := s.tier.blocks.filter fun e => s.replaceable e.1 e.2
    let all := cands.all fun e => e.2.used
    if !s.replaceable pbn b || s.get TIER.FREE_MIN ≤ s.freeFrames || (b.used && !all) then .next s
    else
      let s : State := if all then { s with tier.blocks := tmap s.tier.blocks fun p b => if s.replaceable p b then { b with used := false } else b } else s
      .next (s.startLeave pbn)

/-- Whether raking goes ahead of write-back (R321): a LUN below RAKE_URGENT rakes a block that still has units to copy. -/
def State.rakeFirst (s : State) : Bool :=
  s.flm.rakes.any fun e => s.lunUsed e.1 && s.freeBlks e.1 < s.ftlGet FTL.RAKE_URGENT && s.rakesOn && !(s.validUnits e.2).isEmpty

/-- The sectors of a unit of twin brine as its write-back writes them: those it does not hold keep what T2 has. -/
def State.brineVals (s : State) (w : Nat) (vals : Table SectorVal) : Table SectorVal :=
  (List.range 64).filterMap fun k => let v := (tget vals k).getD (s.t2Read (w * 64 + k)); if v = zeroSec then none else some (k, v)

/-- R206, R207: while a unit can take a slot, raking does not go first (R321), and no unit waits for a cipher lane (R451), write-back of a unit of T1 starts, in the order of R207, or of a unit of twin brine. The dirty pan lines of the unit go to the frame first. Between two cleaning decisions TIER is at its safe point (R52, R231). -/
def execWriteBackStart (pbn : Nat) (unit : Fin 16) (s : State) : Res :=
  let u := unit.val
  let w := pbn * 16 + u
  if s.resting tierPage then .next s else
  let s := s.safePoint tierPage
  if !s.flashTakes || !s.assignable || s.rakeFirst || laneWaits s.flm.cipher then .next s
  else match s.block pbn with
  | some b =>
    (match tget b.units u with
     | some x =>
       let first := s.restoredBrine
       if s.wbAllowed pbn u b x && (first.contains (w * 2) || (first.isEmpty && !s.wbBetter b)) then
         let s := s.panCleanUnit w
         let vals := s.unitVals w
         let x := { x with wb := some (x.stamp, vals) }
         .next (((s.putBlock pbn { b with units := tset b.units u x }).assign w none x.stamp vals).emit (.device "T2_WRITE" [pbn, u]))
       else .next s
     | none => .next s)
  | none =>
    match tget s.twn.mirror w with
    | some m =>
      let first := s.restoredBrine
      if m.dirty && m.wb.isNone && (first.contains (w * 2 + 1) || (first.isEmpty && s.get TIER.CLEAN_LO * s.get HRV.HRV_TIDE_NOW < s.devBrine * 100)) then
        .next (({ s with twn.mirror := tset s.twn.mirror w { m with wb := some (m.stamp, m.vals) } }.assign w none m.stamp (s.brineVals w m.vals)).emit (.device "T2_WRITE" [pbn, u]))
      else .next s
    | none => .next s

/-- SLUICE (R214-R218): the whole list is read and checked before anything is raised. The list check, which uses SLUICE_LEAD_MS, is TIER's safe point (R231). -/
def execSluice (qid : BitVec 20) (entry : SqEntry) (s : State) : Res :=
  if s.resting tierPage then .next s else
  .next (s.fetch qid.toNat entry 0x12 fun s x =>
    let s := s.safePoint tierPage
    match x.cmd with
    | .sluice h off count tag base =>
      let running := (s.tier.schedules.map fun y => y.entries.length).foldl (· + ·) 0
      if !s.flag TIER.SLUICE_EN then s.done x (failResult .aborted)
      else match s.walkQueue x.tenant h off.toNat (count.toNat * 32) false with
      | (s, .error st) => s.done x (failResult st)
      | (s, .ok d) =>
       match s.listRead (handleId h) d off.toNat count.toNat with
       | (s, .error st) => s.done x (failResult st)
       | (s, .ok entries) =>
        let list := (List.range entries.length).filterMap fun k => (entries[k]?).bind (listEntry k)
        if list.length ≠ entries.length || (s.sched x.tenant tag.toNat).isSome then s.done x (failResult .lengthError)
        else if 4096 ≤ s.tier.schedules.length || 1048576 < running + list.length then s.done x (failResult .quotaExceeded)
        else
          let (s, es, first) := list.foldl (fun (a : State × List SluEntry × Option Status) e =>
            let (s, r, st) := a.1.sluEntry x.tenant base.toNat e
            let s := if st.isSome then s.incMod TIER.MISSED else s
            (s, a.2.1 ++ [r], a.2.2.or st)) (s, [], none)
          let sch : Schedule := { tenant := x.tenant, tag := tag.toNat, qid := x.qid, cmdId := x.cmdId, entries := es, status := first.getD .ok, completed := false, start := s.timeNs }
          let s : State := { s with tier.schedules := s.tier.schedules ++ [sch] }
          ((s.sluNow sch).foldl (fun s i => s.sluEligible x.tenant tag.toNat i) s).sluSettle x.tenant tag.toNat
    | _ => s)

/-- R209, R231: the path point, a safe point of TIER, of a read whose unit is not there. -/
def execReadPathPoint (id : Nat) (s : State) : Res :=
  match s.readById id with
  | some r => if r.stage = .filling && !r.panStall then .next ((s.safePoint tierPage).startPath r 0).movSettle else .next s
  | none => .next s

/-- R222, R231: an entry, at a safe point of TIER, that has not reached its due time in SLUICE_LIFE_MS. One that never became eligible holds no pin. -/
def execSluiceLifeExpiry (tenant : BitVec 12) (tag : BitVec 32) (idx : Nat) (s : State) : Res :=
  let t := tenant.toNat
  let g := tag.toNat
  match s.sluEntryAt t g idx with
  | some e =>
    if e.state.done then .next s
    else
      let s := (s.safePoint tierPage).sluMark t g idx .missed
      let s := if e.state = .waiting then s.schedMod t g fun x => x.setEntry idx fun e => { e with holdEnded := true } else s
      .next (s.sluSettle t g)
  | none => .next s

end Sys2Proof.Machine
end

