-- ==== Sys2Proof/Machine/Dispatch.lean ====
section
/-! DEFINITION. The dispatch: each command of the table to its meaning. -/
namespace Sys2Proof.Machine
open Host
def exec (i : Instr) (s : State) : Host.Outcome State Fault Refusal :=
  match i with
  | .controlWrite req addr size data => Sys2Proof.Machine.execControlWrite req addr size data s
  | .unmappedAccess req off write data => Sys2Proof.Machine.execUnmappedAccess req off write data s
  | .sizeViolAccess req off size write data => Sys2Proof.Machine.execSizeViolAccess req off size write data s
  | .evtStatClear req page mask occ => Sys2Proof.Machine.execEvtStatClear req page mask occ s
  | .evtMaskWrite req page value => Sys2Proof.Machine.execEvtMaskWrite req page value s
  | .evtForce req page mask => Sys2Proof.Machine.execEvtForce req page mask s
  | .errStatClear req page mask => Sys2Proof.Machine.execErrStatClear req page mask s
  | .stageArm req page epoch view => Sys2Proof.Machine.execStageArm req page epoch view s
  | .stageDisarm req page epoch view => Sys2Proof.Machine.execStageDisarm req page epoch view s
  | .lock req page => Sys2Proof.Machine.execLock req page s
  | .quiesce req page => Sys2Proof.Machine.execQuiesce req page s
  | .quiesceRelease req page => Sys2Proof.Machine.execQuiesceRelease req page s
  | .stageSingleChange req off size data => Sys2Proof.Machine.execStageSingleChange req off size data s
  | .stageCommit req epoch => Sys2Proof.Machine.execStageCommit req epoch s
  | .stageApply page => Sys2Proof.Machine.execStageApply page s
  | .stageTimeoutExpiry => Sys2Proof.Machine.execStageTimeoutExpiry s
  | .stageRestore page => Sys2Proof.Machine.execStageRestore page s
  | .stageStuck page => Sys2Proof.Machine.execStageStuck page s
  | .coldResetRequest req => Sys2Proof.Machine.execColdResetRequest req s
  | .warmReset => Sys2Proof.Machine.execWarmReset s
  | .descriptorRefetch key => Sys2Proof.Machine.execDescriptorRefetch key s
  | .xltMissFill key => Sys2Proof.Machine.execXltMissFill key s
  | .xltInval req scope index => Sys2Proof.Machine.execXltInval req scope index s
  | .xltInvalComplete => Sys2Proof.Machine.execXltInvalComplete s
  | .xltRevoke req key => Sys2Proof.Machine.execXltRevoke req key s
  | .registrationSweep => Sys2Proof.Machine.execRegistrationSweep s
  | .windowBind wid desc => Sys2Proof.Machine.execWindowBind wid desc s
  | .hdmDecoderCommit port ld n base len => Sys2Proof.Machine.execHdmDecoderCommit port ld n base len s
  | .hdmDecoderUncommit port ld n => Sys2Proof.Machine.execHdmDecoderUncommit port ld n s
  | .linkTrainingDone port link cxl flit256 mld rate width => Sys2Proof.Machine.execLinkTrainingDone port link cxl flit256 mld rate width s
  | .linkDown port link => Sys2Proof.Machine.execLinkDown port link s
  | .hotReset port link => Sys2Proof.Machine.execHotReset port link s
  | .perstAssert port link => Sys2Proof.Machine.execPerstAssert port link s
  | .flr port ld => Sys2Proof.Machine.execFlr port ld s
  | .configRequest port ld mgmt item write data => Sys2Proof.Machine.execConfigRequest port ld mgmt item write data s
  | .memEnable port ld value => Sys2Proof.Machine.execMemEnable port ld value s
  | .memrd port ld dpa tag => Sys2Proof.Machine.execMemrd port ld dpa tag s
  | .memrddata port ld dpa tag => Sys2Proof.Machine.execMemrddata port ld dpa tag s
  | .memspecrd port ld dpa => Sys2Proof.Machine.execMemspecrd port ld dpa s
  | .meminv port ld dpa tag => Sys2Proof.Machine.execMeminv port ld dpa tag s
  | .meminvnt port ld dpa tag => Sys2Proof.Machine.execMeminvnt port ld dpa tag s
  | .memwr port ld dpa data poison tag => Sys2Proof.Machine.execMemwr port ld dpa data poison tag s
  | .memwrptl port ld dpa data enable poison tag => Sys2Proof.Machine.execMemwrptl port ld dpa data enable poison tag s
  | .memwrCmp port ld tag => Sys2Proof.Machine.execMemwrCmp port ld tag s
  | .hpFwdTimeout port ld tag => Sys2Proof.Machine.execHpFwdTimeout port ld tag s
  | .viralReceived port link own => Sys2Proof.Machine.execViralReceived port link own s
  | .gpfPhase1 port ld => Sys2Proof.Machine.execGpfPhase1 port ld s
  | .gpfPhase2 port ld => Sys2Proof.Machine.execGpfPhase2 port ld s
  | .gpfPhase2Complete port ld => Sys2Proof.Machine.execGpfPhase2Complete port ld s
  | .getEventRecords port ld log => Sys2Proof.Machine.execGetEventRecords port ld log s
  | .clearEventRecords port ld log handles => Sys2Proof.Machine.execClearEventRecords port ld log handles s
  | .getEventInterruptPolicy port ld => Sys2Proof.Machine.execGetEventInterruptPolicy port ld s
  | .setEventInterruptPolicy port ld log enable vector => Sys2Proof.Machine.execSetEventInterruptPolicy port ld log enable vector s
  | .getFwInfo port ld => Sys2Proof.Machine.execGetFwInfo port ld s
  | .transferFw port ld => Sys2Proof.Machine.execTransferFw port ld s
  | .activateFw port ld => Sys2Proof.Machine.execActivateFw port ld s
  | .getTimestamp port ld => Sys2Proof.Machine.execGetTimestamp port ld s
  | .setTimestamp port ld value => Sys2Proof.Machine.execSetTimestamp port ld value s
  | .getSupportedLogs port ld => Sys2Proof.Machine.execGetSupportedLogs port ld s
  | .getLog port ld cel => Sys2Proof.Machine.execGetLog port ld cel s
  | .identifyMemoryDevice port ld => Sys2Proof.Machine.execIdentifyMemoryDevice port ld s
  | .getPartitionInfo port ld => Sys2Proof.Machine.execGetPartitionInfo port ld s
  | .getHealthInfo port ld => Sys2Proof.Machine.execGetHealthInfo port ld s
  | .getAlertConfig port ld => Sys2Proof.Machine.execGetAlertConfig port ld s
  | .setAlertConfig port ld value => Sys2Proof.Machine.execSetAlertConfig port ld value s
  | .getPoisonList port ld => Sys2Proof.Machine.execGetPoisonList port ld s
  | .injectPoison port ld dpa => Sys2Proof.Machine.execInjectPoison port ld dpa s
  | .clearPoison port ld dpa data => Sys2Proof.Machine.execClearPoison port ld dpa data s
  | .getDcConfig port ld => Sys2Proof.Machine.execGetDcConfig port ld s
  | .getDcExtentList port ld => Sys2Proof.Machine.execGetDcExtentList port ld s
  | .addDcResponse port ld accepted => Sys2Proof.Machine.execAddDcResponse port ld accepted s
  | .releaseDc port ld extents => Sys2Proof.Machine.execReleaseDc port ld extents s
  | .mailboxUnsupported port ld opcode => Sys2Proof.Machine.execMailboxUnsupported port ld opcode s
  | .fmIdentify => Sys2Proof.Machine.execFmIdentify s
  | .backgroundOperationStatus => Sys2Proof.Machine.execBackgroundOperationStatus s
  | .getResponseMessageLimit => Sys2Proof.Machine.execGetResponseMessageLimit s
  | .getLdInfo port => Sys2Proof.Machine.execGetLdInfo port s
  | .getLdAllocations port => Sys2Proof.Machine.execGetLdAllocations port s
  | .setLdAllocations port ld units => Sys2Proof.Machine.execSetLdAllocations port ld units s
  | .getQosControl port => Sys2Proof.Machine.execGetQosControl port s
  | .setQosControl port value => Sys2Proof.Machine.execSetQosControl port value s
  | .getQosStatus port => Sys2Proof.Machine.execGetQosStatus port s
  | .getQosAllocatedBw port => Sys2Proof.Machine.execGetQosAllocatedBw port s
  | .setQosAllocatedBw port ld value => Sys2Proof.Machine.execSetQosAllocatedBw port ld value s
  | .getQosBwLimit port => Sys2Proof.Machine.execGetQosBwLimit port s
  | .setQosBwLimit port ld value => Sys2Proof.Machine.execSetQosBwLimit port ld value s
  | .getDcdInfo => Sys2Proof.Machine.execGetDcdInfo s
  | .getHostDcRegionConfig port ld => Sys2Proof.Machine.execGetHostDcRegionConfig port ld s
  | .setDcRegionConfig port ld region base len => Sys2Proof.Machine.execSetDcRegionConfig port ld region base len s
  | .getDcRegionExtentLists port ld => Sys2Proof.Machine.execGetDcRegionExtentLists port ld s
  | .initiateDynamicCapacityAdd port ld ext desc => Sys2Proof.Machine.execInitiateDynamicCapacityAdd port ld ext desc s
  | .initiateDynamicCapacityRelease port ld ext => Sys2Proof.Machine.execInitiateDynamicCapacityRelease port ld ext s
  | .sqDoorbell port ld dbPage tail => Sys2Proof.Machine.execSqDoorbell port ld dbPage tail s
  | .cqDoorbell port ld dbPage head arm => Sys2Proof.Machine.execCqDoorbell port ld dbPage head arm s
  | .doorbellDrop port ld dbPage acc => Sys2Proof.Machine.execDoorbellDrop port ld dbPage acc s
  | .flushDoorbell port ld dbPage slot size => Sys2Proof.Machine.execFlushDoorbell port ld dbPage slot size s
  | .copy qid entry => Sys2Proof.Machine.execCopy qid entry s
  | .zero qid entry => Sys2Proof.Machine.execZero qid entry s
  | .persist qid entry => Sys2Proof.Machine.execPersist qid entry s
  | .raise qid entry => Sys2Proof.Machine.execRaise qid entry s
  | .evict qid entry => Sys2Proof.Machine.execEvict qid entry s
  | .sluice qid entry => Sys2Proof.Machine.execSluice qid entry s
  | .sluiceCancel qid entry => Sys2Proof.Machine.execSluiceCancel qid entry s
  | .regionCreate qid entry => Sys2Proof.Machine.execRegionCreate qid entry s
  | .regionGrow qid entry => Sys2Proof.Machine.execRegionGrow qid entry s
  | .regionDelete qid entry => Sys2Proof.Machine.execRegionDelete qid entry s
  | .regionSet qid entry => Sys2Proof.Machine.execRegionSet qid entry s
  | .regOpen qid entry => Sys2Proof.Machine.execRegOpen qid entry s
  | .revoke qid entry => Sys2Proof.Machine.execRevoke qid entry s
  | .rwrite qid entry => Sys2Proof.Machine.execRwrite qid entry s
  | .rread qid entry => Sys2Proof.Machine.execRread qid entry s
  | .abort qid entry => Sys2Proof.Machine.execAbort qid entry s
  | .nop qid entry => Sys2Proof.Machine.execNop qid entry s
  | .unknownOpcode qid entry => Sys2Proof.Machine.execUnknownOpcode qid entry s
  | .commandCompletion qid cmdId => Sys2Proof.Machine.execCommandCompletion qid cmdId s
  | .cmdTimeout qid cmdId => Sys2Proof.Machine.execCmdTimeout qid cmdId s
  | .coalTimeExpiry qid => Sys2Proof.Machine.execCoalTimeExpiry qid s
  | .persistBarrierComplete id => Sys2Proof.Machine.execPersistBarrierComplete id s
  | .queueEnable req qid => Sys2Proof.Machine.execQueueEnable req qid s
  | .queuePause req qid => Sys2Proof.Machine.execQueuePause req qid s
  | .queueReset req qid => Sys2Proof.Machine.execQueueReset req qid s
  | .queueResetDone qid => Sys2Proof.Machine.execQueueResetDone qid s
  | .queueDisable req qid => Sys2Proof.Machine.execQueueDisable req qid s
  | .queueDisableDone qid => Sys2Proof.Machine.execQueueDisableDone qid s
  | .moverStepClaim mover qid cmdId parity => Sys2Proof.Machine.execMoverStepClaim mover qid cmdId parity s
  | .moverMoveDone mover how => Sys2Proof.Machine.execMoverMoveDone mover how s
  | .parkedStepResume qid cmdId step => Sys2Proof.Machine.execParkedStepResume qid cmdId step s
  | .moverOffline req mover value => Sys2Proof.Machine.execMoverOffline req mover value s
  | .fillUnitDone pbn unit priority => Sys2Proof.Machine.execFillUnitDone pbn unit priority s
  | .fillUnitFail pbn unit => Sys2Proof.Machine.execFillUnitFail pbn unit s
  | .tierReplacement pbn => Sys2Proof.Machine.execTierReplacement pbn s
  | .tierReleaseDone pbn => Sys2Proof.Machine.execTierReleaseDone pbn s
  | .writeBackStart pbn unit => Sys2Proof.Machine.execWriteBackStart pbn unit s
  | .writeBackDone pbn unit => Sys2Proof.Machine.execWriteBackDone pbn unit s
  | .heldWriteRelease src => Sys2Proof.Machine.execHeldWriteRelease src s
  | .readPathPoint id => Sys2Proof.Machine.execReadPathPoint id s
  | .twinPathTimeout id => Sys2Proof.Machine.execTwinPathTimeout id s
  | .readDeadline id => Sys2Proof.Machine.execReadDeadline id s
  | .sluiceEligible tenant tag idx => Sys2Proof.Machine.execSluiceEligible tenant tag idx s
  | .sluiceDue tenant tag idx => Sys2Proof.Machine.execSluiceDue tenant tag idx s
  | .sluiceLifeExpiry tenant tag idx => Sys2Proof.Machine.execSluiceLifeExpiry tenant tag idx s
  | .sluiceHoldExpiry tenant tag idx => Sys2Proof.Machine.execSluiceHoldExpiry tenant tag idx s
  | .clean req => Sys2Proof.Machine.execClean req s
  | .cleanInv req => Sys2Proof.Machine.execCleanInv req s
  | .inv req => Sys2Proof.Machine.execInv req s
  | .panLock req => Sys2Proof.Machine.execPanLock req s
  | .unlock req => Sys2Proof.Machine.execUnlock req s
  | .panMaintDone => Sys2Proof.Machine.execPanMaintDone s
  | .panDisable req slice => Sys2Proof.Machine.execPanDisable req slice s
  | .panEnable req slice => Sys2Proof.Machine.execPanEnable req slice s
  | .panDrainDone slice => Sys2Proof.Machine.execPanDrainDone slice s
  | .panClearingDone slice => Sys2Proof.Machine.execPanClearingDone slice s
  | .panInvalidateDone slice => Sys2Proof.Machine.execPanInvalidateDone slice s
  | .discard req slice => Sys2Proof.Machine.execDiscard req slice s
  | .panScrub slice setIx way err => Sys2Proof.Machine.execPanScrub slice setIx way err s
  | .trackerExpiry req => Sys2Proof.Machine.execTrackerExpiry req s
  | .dmcTrainingDone ch res => Sys2Proof.Machine.execDmcTrainingDone ch res s
  | .oscillatorCheck ch rank drift => Sys2Proof.Machine.execOscillatorCheck ch rank drift s
  | .retrainStep ch res => Sys2Proof.Machine.execRetrainStep ch res s
  | .zqCalibration ch rank => Sys2Proof.Machine.execZqCalibration ch rank s
  | .wcrcAlert ch rank sub wr => Sys2Proof.Machine.execWcrcAlert ch rank sub wr s
  | .dramReadDone ch rank sub addr issued res => Sys2Proof.Machine.execDramReadDone ch rank sub addr issued res s
  | .ecsPass ch rank sub dev count => Sys2Proof.Machine.execEcsPass ch rank sub dev count s
  | .trefi2Tick ch busy => Sys2Proof.Machine.execTrefi2Tick ch busy s
  | .refreshRatePoll ch rank x2 hot => Sys2Proof.Machine.execRefreshRatePoll ch rank x2 hot s
  | .rankPowerDown ch rank => Sys2Proof.Machine.execRankPowerDown ch rank s
  | .srIdleEntry ch => Sys2Proof.Machine.execSrIdleEntry ch s
  | .selfRefreshExitDone ch verify => Sys2Proof.Machine.execSelfRefreshExitDone ch verify s
  | .patrolScrubRead ch rank sub addr issued res => Sys2Proof.Machine.execPatrolScrubRead ch rank sub addr issued res s
  | .flmBringupDone ch res => Sys2Proof.Machine.execFlmBringupDone ch res s
  | .mapPageReadDone mpi first second => Sys2Proof.Machine.execMapPageReadDone mpi first second s
  | .journalPageTimer => Sys2Proof.Machine.execJournalPageTimer s
  | .journalPageDurable pass => Sys2Proof.Machine.execJournalPageDurable pass s
  | .checkpointStart => Sys2Proof.Machine.execCheckpointStart s
  | .checkpointValid pass => Sys2Proof.Machine.execCheckpointValid pass s
  | .flashProgramDone glun block pass => Sys2Proof.Machine.execFlashProgramDone glun block pass s
  | .stripeRowTimeout stripe => Sys2Proof.Machine.execStripeRowTimeout stripe s
  | .rakeStart glun => Sys2Proof.Machine.execRakeStart glun s
  | .rakeStep glun => Sys2Proof.Machine.execRakeStep glun s
  | .sourceErase glun block => Sys2Proof.Machine.execSourceErase glun block s
  | .flashEraseDone glun block pass => Sys2Proof.Machine.execFlashEraseDone glun block pass s
  | .victim req glun block => Sys2Proof.Machine.execVictim req glun block s
  | .verifyPage stripe glun block corrected last => Sys2Proof.Machine.execVerifyPage stripe glun block corrected last s
  | .flashReadDone tun step word corr => Sys2Proof.Machine.execFlashReadDone tun step word corr s
  | .suspendTimeout glun => Sys2Proof.Machine.execSuspendTimeout glun s
  | .flashScrub glun block corrected => Sys2Proof.Machine.execFlashScrub glun block corrected s
  | .staticWearLevel => Sys2Proof.Machine.execStaticWearLevel s
  | .lunLost glun => Sys2Proof.Machine.execLunLost glun s
  | .reserveBlockReplace glun block bad => Sys2Proof.Machine.execReserveBlockReplace glun block bad s
  | .flmReadOnly => Sys2Proof.Machine.execFlmReadOnly s
  | .roClear req => Sys2Proof.Machine.execRoClear req s
  | .replayDone => Sys2Proof.Machine.execReplayDone s
  | .healthUpdate => Sys2Proof.Machine.execHealthUpdate s
  | .pwrfailNFall => Sys2Proof.Machine.execPwrfailNFall s
  | .pwrfail => Sys2Proof.Machine.execPwrfail s
  | .shutdown req => Sys2Proof.Machine.execShutdown req s
  | .harvestWriteoutDone => Sys2Proof.Machine.execHarvestWriteoutDone s
  | .bankExhausted => Sys2Proof.Machine.execBankExhausted s
  | .harvestEnd => Sys2Proof.Machine.execHarvestEnd s
  | .steptest req => Sys2Proof.Machine.execSteptest req s
  | .steptestPeriod => Sys2Proof.Machine.execSteptestPeriod s
  | .steptestDone cMf esr fallMv residMv => Sys2Proof.Machine.execSteptestDone cMf esr fallMv residMv s
  | .rehearse req => Sys2Proof.Machine.execRehearse req s
  | .rehearsePeriod => Sys2Proof.Machine.execRehearsePeriod s
  | .rehearsalDone powerMw rate => Sys2Proof.Machine.execRehearsalDone powerMw rate s
  | .restoreDone bad => Sys2Proof.Machine.execRestoreDone bad s
  | .reserveBlockRelease glun block => Sys2Proof.Machine.execReserveBlockRelease glun block s
  | .acceptLoss req => Sys2Proof.Machine.execAcceptLoss req s
  | .aliveLoss => Sys2Proof.Machine.execAliveLoss s
  | .aliveRestore => Sys2Proof.Machine.execAliveRestore s
  | .hello hdr body => Sys2Proof.Machine.execHello hdr body s
  | .twinIdle bundle => Sys2Proof.Machine.execTwinIdle bundle s
  | .mirror hdr poison sectors tags => Sys2Proof.Machine.execMirror hdr poison sectors tags s
  | .twinAck hdr => Sys2Proof.Machine.execTwinAck hdr s
  | .twinNack hdr => Sys2Proof.Machine.execTwinNack hdr s
  | .digest hdr first last digest => Sys2Proof.Machine.execDigest hdr first last digest s
  | .tide hdr value => Sys2Proof.Machine.execTide hdr value s
  | .twinState hdr pairState inSync flmState => Sys2Proof.Machine.execTwinState hdr pairState inSync flmState s
  | .claim hdr => Sys2Proof.Machine.execClaim hdr s
  | .release hdr groups => Sys2Proof.Machine.execRelease hdr groups s
  | .handoff hdr => Sys2Proof.Machine.execHandoff hdr s
  | .readReq hdr => Sys2Proof.Machine.execReadReq hdr s
  | .twinReadResp hdr resp => Sys2Proof.Machine.execTwinReadResp hdr resp s
  | .fetch hdr => Sys2Proof.Machine.execFetch hdr s
  | .fetchResp hdr resp => Sys2Proof.Machine.execFetchResp hdr resp s
  | .harvestBegin hdr => Sys2Proof.Machine.execHarvestBegin hdr s
  | .twinTime hdr serveCount => Sys2Proof.Machine.execTwinTime hdr serveCount s
  | .brineList hdr pbns => Sys2Proof.Machine.execBrineList hdr pbns s
  | .resyncData hdr unit => Sys2Proof.Machine.execResyncData hdr unit s
  | .resyncAck hdr => Sys2Proof.Machine.execResyncAck hdr s
  | .recordGapTimeout => Sys2Proof.Machine.execRecordGapTimeout s
  | .bundleDown bundle => Sys2Proof.Machine.execBundleDown bundle s
  | .linkLost loopback => Sys2Proof.Machine.execLinkLost loopback s
  | .digestInterval => Sys2Proof.Machine.execDigestInterval s
  | .takeoverClaimSample high1 high2 => Sys2Proof.Machine.execTakeoverClaimSample high1 high2 s
  | .epochStoreDone pass => Sys2Proof.Machine.execEpochStoreDone pass s
  | .claimStuck => Sys2Proof.Machine.execClaimStuck s
  | .arbitrationSample high => Sys2Proof.Machine.execArbitrationSample high s
  | .loserGroupTake => Sys2Proof.Machine.execLoserGroupTake s
  | .pairFormationStart => Sys2Proof.Machine.execPairFormationStart s
  | .formationTimeout => Sys2Proof.Machine.execFormationTimeout s
  | .formWaitExpiry high1 high2 => Sys2Proof.Machine.execFormWaitExpiry high1 high2 s
  | .rsmScanDone => Sys2Proof.Machine.execRsmScanDone s
  | .handoffGive req group => Sys2Proof.Machine.execHandoffGive req group s
  | .handoffRequest req group => Sys2Proof.Machine.execHandoffRequest req group s
  | .handoffDrained group => Sys2Proof.Machine.execHandoffDrained group s
  | .handoffTimeout group => Sys2Proof.Machine.execHandoffTimeout group s
  | .reclaimHoldExpiry => Sys2Proof.Machine.execReclaimHoldExpiry s
  | .aloneOk req => Sys2Proof.Machine.execAloneOk req s
  | .pairAccept req => Sys2Proof.Machine.execPairAccept req s
  | .cmnWrite pkt => Sys2Proof.Machine.execCmnWrite pkt s
  | .cmnWriteMasked pkt => Sys2Proof.Machine.execCmnWriteMasked pkt s
  | .cmnRead pkt => Sys2Proof.Machine.execCmnRead pkt s
  | .cmnWriteCmp pkt => Sys2Proof.Machine.execCmnWriteCmp pkt s
  | .cmnReadResp pkt => Sys2Proof.Machine.execCmnReadResp pkt s
  | .cmnAck pkt ackPsn ceCount => Sys2Proof.Machine.execCmnAck pkt ackPsn ceCount s
  | .cmnNack pkt ranges => Sys2Proof.Machine.execCmnNack pkt ranges s
  | .cmnNotice pkt status => Sys2Proof.Machine.execCmnNotice pkt status s
  | .cmnProbe pkt path => Sys2Proof.Machine.execCmnProbe pkt path s
  | .cmnRekeyReady pkt phase => Sys2Proof.Machine.execCmnRekeyReady pkt phase s
  | .cmnClose pkt status => Sys2Proof.Machine.execCmnClose pkt status s
  | .nonCemanorFrame eport sublink len => Sys2Proof.Machine.execNonCemanorFrame eport sublink len s
  | .pfcPauseReceived eport prio on => Sys2Proof.Machine.execPfcPauseReceived eport prio on s
  | .ackTimer conn => Sys2Proof.Machine.execAckTimer conn s
  | .nackDelayExpiry conn => Sys2Proof.Machine.execNackDelayExpiry conn s
  | .msgTimeout conn msn => Sys2Proof.Machine.execMsgTimeout conn msn s
  | .initTimeout conn msn => Sys2Proof.Machine.execInitTimeout conn msn s
  | .rtoExpiry conn psn => Sys2Proof.Machine.execRtoExpiry conn psn s
  | .probeTimer conn path => Sys2Proof.Machine.execProbeTimer conn path s
  | .connCloseTimeout conn => Sys2Proof.Machine.execConnCloseTimeout conn s
  | .connOpen req conn => Sys2Proof.Machine.execConnOpen req conn s
  | .connClose req conn => Sys2Proof.Machine.execConnClose req conn s
  | .rekeyInstall req conn => Sys2Proof.Machine.execRekeyInstall req conn s
  | .cipherLaneFail lane => Sys2Proof.Machine.execCipherLaneFail lane s
  | .gcmEncrypt req => Sys2Proof.Machine.execGcmEncrypt req s
  | .gcmDecrypt req => Sys2Proof.Machine.execGcmDecrypt req s
  | .xtsEncrypt req => Sys2Proof.Machine.execXtsEncrypt req s
  | .xtsDecrypt req => Sys2Proof.Machine.execXtsDecrypt req s
  | .cipJobDone => Sys2Proof.Machine.execCipJobDone s
  | .keyLoad req sel => Sys2Proof.Machine.execKeyLoad req sel s
  | .sha3256 req eng => Sys2Proof.Machine.execSha3256 req eng s
  | .sha3384 req eng => Sys2Proof.Machine.execSha3384 req eng s
  | .sha3512 req eng => Sys2Proof.Machine.execSha3512 req eng s
  | .shake256 req eng => Sys2Proof.Machine.execShake256 req eng s
  | .mlDsa87Verify req eng => Sys2Proof.Machine.execMlDsa87Verify req eng s
  | .mlDsa87Sign req eng => Sys2Proof.Machine.execMlDsa87Sign req eng s
  | .identityPublicKeyExport req eng => Sys2Proof.Machine.execIdentityPublicKeyExport req eng s
  | .hshJobDone eng iterations => Sys2Proof.Machine.execHshJobDone eng iterations s
  | .mailboxRequest req slot opcode seq len => Sys2Proof.Machine.execMailboxRequest req slot opcode seq len s
  | .mailboxAnswer slot status act rsp => Sys2Proof.Machine.execMailboxAnswer slot status act rsp s
  | .wdtFeed req => Sys2Proof.Machine.execWdtFeed req s
  | .wardenWatchdogExpiry => Sys2Proof.Machine.execWardenWatchdogExpiry s
  | .lockstepMismatch => Sys2Proof.Machine.execLockstepMismatch s
  | .svcWatchdogExpiry cluster => Sys2Proof.Machine.execSvcWatchdogExpiry cluster s
  | .coldBoot fastBad => Sys2Proof.Machine.execColdBoot fastBad s
  | .trialTimeout => Sys2Proof.Machine.execTrialTimeout s
  | .uartImage img => Sys2Proof.Machine.execUartImage img s
  | .commissioningKey key wrapped => Sys2Proof.Machine.execCommissioningKey key wrapped s
  | .fuseProgram field bits => Sys2Proof.Machine.execFuseProgram field bits s
  | .commitSvn => Sys2Proof.Machine.execCommitSvn s
  | .actReady version => Sys2Proof.Machine.execActReady version s
  | .actRunning => Sys2Proof.Machine.execActRunning s
  | .actTimeout => Sys2Proof.Machine.execActTimeout s
  | .debugChallenge => Sys2Proof.Machine.execDebugChallenge s
  | .debugResponse level owner key signature => Sys2Proof.Machine.execDebugResponse level owner key signature s
  | .creditReturn src rsv => Sys2Proof.Machine.execCreditReturn src rsv s
  | .spill => Sys2Proof.Machine.execSpill s
  | .rateWindowEnd => Sys2Proof.Machine.execRateWindowEnd s
  | .alarmWindowEnd key => Sys2Proof.Machine.execAlarmWindowEnd key s
  | .alarmRetry => Sys2Proof.Machine.execAlarmRetry s
  | .chanDataWrite req value => Sys2Proof.Machine.execChanDataWrite req value s
  | .chanAck req chan occ => Sys2Proof.Machine.execChanAck req chan occ s
  | .alertReadbackFault k => Sys2Proof.Machine.execAlertReadbackFault k s
  | .alertFaultClear req mask => Sys2Proof.Machine.execAlertFaultClear req mask s
  | .clearUpto req upto => Sys2Proof.Machine.execClearUpto req upto s
  | .refclkLost b => Sys2Proof.Machine.execRefclkLost b s
  | .refclkGood b => Sys2Proof.Machine.execRefclkGood b s
  | .rootPllLock => Sys2Proof.Machine.execRootPllLock s
  | .rootPllUnlock => Sys2Proof.Machine.execRootPllUnlock s
  | .relockTimeout => Sys2Proof.Machine.execRelockTimeout s
  | .rootVcoFail => Sys2Proof.Machine.execRootVcoFail s
  | .pllUnlock pll => Sys2Proof.Machine.execPllUnlock pll s
  | .clkDivCommit req => Sys2Proof.Machine.execClkDivCommit req s
  | .ckoutCfgWrite req k value => Sys2Proof.Machine.execCkoutCfgWrite req k value s
  | .ckoutReadbackFault k => Sys2Proof.Machine.execCkoutReadbackFault k s
  | .ckoutFaultClear req mask => Sys2Proof.Machine.execCkoutFaultClear req mask s
  | .timeSet req value => Sys2Proof.Machine.execTimeSet req value s
  | .domainModeWrite req dom value => Sys2Proof.Machine.execDomainModeWrite req dom value s
  | .domainIdleEntry dom => Sys2Proof.Machine.execDomainIdleEntry dom s
  | .domainEntryEnd dom => Sys2Proof.Machine.execDomainEntryEnd dom s
  | .domainOn dom => Sys2Proof.Machine.execDomainOn dom s
  | .domainWakeFail dom => Sys2Proof.Machine.execDomainWakeFail dom s
  | .pwrDomReset req mask => Sys2Proof.Machine.execPwrDomReset req mask s
  | .adcScan core0 core1 ref0 ref1 dev pf => Sys2Proof.Machine.execAdcScan core0 core1 ref0 ref1 dev pf s
  | .rampTimeout row => Sys2Proof.Machine.execRampTimeout row s
  | .railOffTimeout row => Sys2Proof.Machine.execRailOffTimeout row s
  | .stuckOnTimeout row => Sys2Proof.Machine.execStuckOnTimeout row s
  | .peerFault => Sys2Proof.Machine.execPeerFault s
  | .enableReadbackFault pin => Sys2Proof.Machine.execEnableReadbackFault pin s
  | .tempMeasure values => Sys2Proof.Machine.execTempMeasure values s
  | .powerUp req => Sys2Proof.Machine.execPowerUp req s
  | .powerDown req => Sys2Proof.Machine.execPowerDown req s
  | .faultClr req => Sys2Proof.Machine.execFaultClr req s
  | .railFaultClear req mask => Sys2Proof.Machine.execRailFaultClear req mask s
  | .railDataWrite req word value => Sys2Proof.Machine.execRailDataWrite req word value s
  | .tableCommit req => Sys2Proof.Machine.execTableCommit req s
  | .store req => Sys2Proof.Machine.execStore req s
  | .storeDone readback => Sys2Proof.Machine.execStoreDone readback s
  | .tokenRefill => Sys2Proof.Machine.execTokenRefill s
  | .reload req => Sys2Proof.Machine.execReload req s
  | .slotWrite req => Sys2Proof.Machine.execSlotWrite req s
  | .slotErase req => Sys2Proof.Machine.execSlotErase req s
  | .setEndpointId bind eid => Sys2Proof.Machine.execSetEndpointId bind eid s
  | .getEndpointId bind => Sys2Proof.Machine.execGetEndpointId bind s
  | .getEndpointUuid bind => Sys2Proof.Machine.execGetEndpointUuid bind s
  | .getMctpVersionSupport bind msgType => Sys2Proof.Machine.execGetMctpVersionSupport bind msgType s
  | .getMessageTypeSupport bind => Sys2Proof.Machine.execGetMessageTypeSupport bind s
  | .getVendorDefinedMessageSupport bind => Sys2Proof.Machine.execGetVendorDefinedMessageSupport bind s
  | .mctpMessageDrop bind msgType => Sys2Proof.Machine.execMctpMessageDrop bind msgType s
  | .getTid bind => Sys2Proof.Machine.execGetTid bind s
  | .setTid bind tid => Sys2Proof.Machine.execSetTid bind tid s
  | .getPldmVersion bind pldmType => Sys2Proof.Machine.execGetPldmVersion bind pldmType s
  | .getPldmTypes bind => Sys2Proof.Machine.execGetPldmTypes bind s
  | .getPldmCommands bind pldmType => Sys2Proof.Machine.execGetPldmCommands bind pldmType s
  | .setEventReceiver bind enable eid => Sys2Proof.Machine.execSetEventReceiver bind enable eid s
  | .getPdrRepositoryInfo bind => Sys2Proof.Machine.execGetPdrRepositoryInfo bind s
  | .getPdr bind handle => Sys2Proof.Machine.execGetPdr bind handle s
  | .getSensorReading bind sensor => Sys2Proof.Machine.execGetSensorReading bind sensor s
  | .getStateSensorReadings bind sensor => Sys2Proof.Machine.execGetStateSensorReadings bind sensor s
  | .pollForPlatformEventMessage bind => Sys2Proof.Machine.execPollForPlatformEventMessage bind s
  | .queryDeviceIdentifiers bind => Sys2Proof.Machine.execQueryDeviceIdentifiers bind s
  | .getFirmwareParameters bind => Sys2Proof.Machine.execGetFirmwareParameters bind s
  | .requestUpdate bind => Sys2Proof.Machine.execRequestUpdate bind s
  | .passComponentTable bind comp => Sys2Proof.Machine.execPassComponentTable bind comp s
  | .updateComponent bind comp size => Sys2Proof.Machine.execUpdateComponent bind comp size s
  | .firmwareDataReceived offset chunk => Sys2Proof.Machine.execFirmwareDataReceived offset chunk s
  | .activateFirmware bind => Sys2Proof.Machine.execActivateFirmware bind s
  | .pldmGetStatus bind => Sys2Proof.Machine.execPldmGetStatus bind s
  | .cancelUpdateComponent bind => Sys2Proof.Machine.execCancelUpdateComponent bind s
  | .cancelUpdate bind => Sys2Proof.Machine.execCancelUpdate bind s
  | .pldmUnsupported bind pldmType cmd => Sys2Proof.Machine.execPldmUnsupported bind pldmType cmd s
  | .identify t => Sys2Proof.Machine.execIdentify t s
  | .attest t nonce => Sys2Proof.Machine.execAttest t nonce s
  | .getStatus t => Sys2Proof.Machine.execGetStatus t s
  | .getTelemetry t sensors => Sys2Proof.Machine.execGetTelemetry t sensors s
  | .readRecords t seq count => Sys2Proof.Machine.execReadRecords t seq count s
  | .getConfig t offs => Sys2Proof.Machine.execGetConfig t offs s
  | .setConfig t writes store => Sys2Proof.Machine.execSetConfig t writes store s
  | .clearRecords t upto => Sys2Proof.Machine.execClearRecords t upto s
  | .fwTransfer t imgType offset chunk last => Sys2Proof.Machine.execFwTransfer t imgType offset chunk last s
  | .fwActivate t imgType => Sys2Proof.Machine.execFwActivate t imgType s
  | .pairCtl t op => Sys2Proof.Machine.execPairCtl t op s
  | .powerCtl t op => Sys2Proof.Machine.execPowerCtl t op s
  | .storeCtl t reload => Sys2Proof.Machine.execStoreCtl t reload s
  | .keyDeliver t wrapped => Sys2Proof.Machine.execKeyDeliver t wrapped s
  | .connCtl t op => Sys2Proof.Machine.execConnCtl t op s
  | .tenantCtl t op => Sys2Proof.Machine.execTenantCtl t op s
  | .alarmAck corr => Sys2Proof.Machine.execAlarmAck corr s
  | .porNRise straps => Sys2Proof.Machine.execPorNRise straps s
  | .porNFall => Sys2Proof.Machine.execPorNFall s
  | .deviceRailsStart => Sys2Proof.Machine.execDeviceRailsStart s
  | .deviceRailRetry => Sys2Proof.Machine.execDeviceRailRetry s
  | .resetInN => Sys2Proof.Machine.execResetInN s
  | .junctionThrottle celsius => Sys2Proof.Machine.execJunctionThrottle celsius s
  | .junctionShutdown => Sys2Proof.Machine.execJunctionShutdown s
  | .thermtrip => Sys2Proof.Machine.execThermtrip s
  | .controlRead req addr size => Sys2Proof.Machine.execControlRead req addr size s
  | .msixUnmask port ld mgmt vector => Sys2Proof.Machine.execMsixUnmask port ld mgmt vector s
  | .pllReacquire pll => Sys2Proof.Machine.execPllReacquire pll s
  | .waitForEvent who => Sys2Proof.Machine.execWaitForEvent who s
  | .faultNHigh => Sys2Proof.Machine.execFaultNHigh s
  | .faultNHoldExpiry => Sys2Proof.Machine.execFaultNHoldExpiry s
  | .resetInNRelease => Sys2Proof.Machine.execResetInNRelease s
  | .perstDeassert port link => Sys2Proof.Machine.execPerstDeassert port link s
  | .opTimeout glun => Sys2Proof.Machine.execOpTimeout glun s
  | .svcDramViol cluster addr write => Sys2Proof.Machine.execSvcDramViol cluster addr write s
  | .twinLinkSignal bundles => Sys2Proof.Machine.execTwinLinkSignal bundles s
  | .sublinkUp eport sublink => Sys2Proof.Machine.execSublinkUp eport sublink s
  | .sublinkDown eport sublink => Sys2Proof.Machine.execSublinkDown eport sublink s
end Sys2Proof.Machine
end

