-- ==== Sys2Proof/Safety.lean ====
section
/-! DEFINITION. What statements about the machine are said in: canonical form of the stores, runs that go on, what a command leaves unchanged, and pages that take writes. -/
namespace Sys2Proof.Machine

/-- The register file in canonical form. -/
def State.regsOk (s : State) : Prop := Rising s.regs

/-- Every step of the first n goes on. -/
def State.runs : Nat → State → Prop
  | 0, _ => True
  | n + 1, s => ∃ t, step s = .next t ∧ t.runs n

/-! ## Frames -/

/-- The parts of State. -/
inductive Part where
  | regs | ctl | evf | recd | xlt | hp | qe | mov | tier | pan | twn | cmn | pwr | dmc | flm | seq | hrv | clk | cip | nvs | wdn | mgt
  | mem | unit | timeNs | slew | out | free | pending
deriving DecidableEq, Repr

/-- A part is the same in two states. -/
def State.samePart (s t : State) : Part → Prop
  | .regs => t.regs = s.regs
  | .ctl => t.ctl = s.ctl
  | .evf => t.evf = s.evf
  | .recd => t.recd = s.recd
  | .xlt => t.xlt = s.xlt
  | .hp => t.hp = s.hp
  | .qe => t.qe = s.qe
  | .mov => t.mov = s.mov
  | .tier => t.tier = s.tier
  | .pan => t.pan = s.pan
  | .twn => t.twn = s.twn
  | .cmn => t.cmn = s.cmn
  | .pwr => t.pwr = s.pwr
  | .dmc => t.dmc = s.dmc
  | .flm => t.flm = s.flm
  | .seq => t.seq = s.seq
  | .hrv => t.hrv = s.hrv
  | .clk => t.clk = s.clk
  | .cip => t.cip = s.cip
  | .nvs => t.nvs = s.nvs
  | .wdn => t.wdn = s.wdn
  | .mgt => t.mgt = s.mgt
  | .mem => t.mem = s.mem
  | .unit => t.unit = s.unit
  | .timeNs => t.timeNs = s.timeNs
  | .slew => t.slew = s.slew
  | .out => t.out = s.out
  | .free => t.free = s.free
  | .pending => t.pending = s.pending

/-- t differs from s in the parts l at most. -/
def State.keptBut (s t : State) (l : List Part) : Prop := ∀ p, p ∉ l → s.samePart t p

/-- The register file of t differs from that of s at the keys l at most. -/
def State.regsBut (s t : State) (l : List Nat) : Prop := ∀ k, k ∉ l → tget t.regs k = tget s.regs k

/-- A key of the register file is one of a field: an entry of it in a page of its block; of a header field (offsets under 0x100), in any page. -/
def Fld.covers (f : Fld) (k : Nat) : Prop := ∃ (p : Page) (i : Nat), (p.blk = f.blk ∨ f.off < 0x100) ∧ k = f.key p i

/-- The register file of t differs from that of s in the fields l at most. -/
def State.fieldsBut (s t : State) (l : List Fld) : Prop := ∀ k, (∀ f ∈ l, ¬ f.covers k) → tget t.regs k = tget s.regs k

/-- The frame of a command: the parts of State it may change, and of the register file the fields it may change. -/
def State.frame (s t : State) (parts : List Part) (fields : List Fld) : Prop := s.keptBut t parts ∧ s.fieldsBut t fields

/-- What reporting an event or an error may change: flags and counters in the register file, the event fabric and the recorder, what is sent, wake latches, MSI-X bits of a host port, and the counter of free values. -/
def reported : List Part := [.regs, .evf, .recd, .out, .pwr, .hp, .free]

/-- The register fields that reporting may change: flags and captures in the headers of pages, and registers of EVF, REC, MGT and PWR. -/
def reportedFields : List Fld :=
  [HDR.EVT_STAT, HDR.ERR_STAT, HDR.ERR_INFO0, HDR.ERR_INFO1, EVF.ALERT_DRV, EVF.TRACE_DROP, REC.ALARM_DROP, REC.HEAD_SEQ, REC.LOST_CNT, REC.OVW_CNT,
   REC.RSV_USED, MGT.ALARM_SENT, PWR.PWR_WAKE_LATCH, PWR.STATE]

/-! ## Pages that take a write -/

/-- No write of a requester to a page stalls before its next one (R40). -/
def State.wayClear (s : State) (r : Requester) (p : Page) : Prop := ∀ y ∈ s.ctl.stalled, ¬(y.write = true ∧ y.req = r ∧ pageFor r y.off.toNat = some p)

/-- A requester's write reaches a page, with no earlier one of it before it, and OWNER admits it (R40, R46, R48, R471). -/
def State.admits (s : State) (r : Requester) (p : Page) : Prop := s.reaches r = true ∧ pageFor r p.base = some p ∧ s.mayWrite r p = true ∧ s.wayClear r p

/-- A page's domain is ON and its block rests: a warden's write of a register from offset 0x100 up takes effect (R41, R53). -/
def State.takes (s : State) (p : Page) : Prop := s.domainOn (Page.dom p) = true ∧ s.quiesced p = true

/-- The warden, or the debug unit acting as the warden, reaches a page whose domain is ON: its write of a stageable field or of a command register to which R53 does not apply acts. -/
def State.governs (s : State) (r : Requester) (p : Page) : Prop := s.admits r p ∧ s.asWarden r = true ∧ s.domainOn (Page.dom p) = true

/-- The same with the block at rest: its write of any other register acts (R53). -/
def State.commands (s : State) (r : Requester) (p : Page) : Prop := s.governs r p ∧ s.quiesced p = true

/-- A Taraivi request that the warden accepts under a role (R591): the warden runs, the tag verifies, BOOT is this boot's, COUNTER is above the last under the role. -/
def State.accepts (s : State) (t : TaraiviHdr) (role : Nat) : Prop :=
  s.wardenUp = true ∧ t.tagOk = true ∧ t.boot.toNat = s.wdn.bootCnt % 2 ^ 32 ∧ (∀ c, tget s.wdn.counters t.role.toNat = some c → c < t.count.toNat) ∧ t.role.toNat = role

/-- The answer to a Taraivi request is the last thing sent, and its COUNTER is the last one under its role. -/
def State.answered (s : State) (t : TaraiviHdr) (typ : Nat) (st : Status) : Prop :=
  (∃ vals, s.out.getLast? = some (.taraivi t.role.toNat (typ + 0x80) (TaraiviHdr.ctr t) st.code vals)) ∧ tget s.wdn.counters t.role.toNat = some t.count.toNat

/-! ## Staged changes -/

/-- The stageable fields of a page hold the values a table gives them (R56, R59). -/
def State.holds (s : State) (p : Page) (v : Nat → Option Nat) : Prop := ∀ x ∈ stageSlots p, ∀ n, v (x.1.key p x.2) = some n → n < 2 ^ x.1.width → s.rd p x.1 x.2 = n

/-- No staged change waits for the safe point of a page (R56, R59, R63). -/
def State.unstaged (s : State) (p : Page) : Prop := s.part p = none ∧ ∀ x ∈ s.ctl.single, x.page ≠ p

/-- What a page that applies or restores staged changes may change: registers, staging, its mover, and what reporting may. -/
def stagedParts : List Part := [.ctl, .mov] ++ reported

/-! ## Queue commands -/

/-- QE fetches an entry of a queue as a well-formed command (R136, R140, R148, R149, R151): the entry stands in its place in the ring and is not poisoned; c is the queue's context, x what the entry says, u the state after the checks of that place. -/
def State.fetches (s : State) (q : Nat) (e : SqEntry) (c : QueueCtx) (x : QEntry) (u : State) : Prop :=
  s.queue q = some c ∧ s.canFetch q c (e.getLsbD 15) = true ∧ c.checkOk = true ∧ QEntry.decode e = some x ∧ x.cmd.formOk = true ∧
  (∃ v d pl, s.walkQueue c.tenant (BitVec.ofNat 40 c.ringHandle) (c.sqOff + c.sqHead * 64) 64 false = (v, .ok d) ∧
    v.resolve (c.ringHandle / 65536) d (c.sqOff + c.sqHead * 64) = (u, .ok pl) ∧ u.placeVal pl = { data := e, poison := false })

/-- The command in flight that a fetched entry becomes. -/
def State.flight (s : State) (q : Nat) (c : QueueCtx) (x : QEntry) : Cmd := s.newCmd q c x.cmdId.toNat x.timeout.toNat x.notify x.cmd

/-- SQ_HEAD has moved past the entry and INFLIGHT counts its command. -/
def QueueCtx.fetched (c : QueueCtx) : QueueCtx := { c with sqHead := (c.sqHead + 1) % c.sqDepth, inflight := c.inflight + 1 }

/-- The state in which a fetched command begins. -/
def State.begun (u : State) (q : Nat) (c : QueueCtx) (y : Cmd) : State :=
  { u with qe := { u.qe with queues := tset u.qe.queues q c.fetched, cmds := u.qe.cmds ++ [y], nextOrder := u.qe.nextOrder + 1 } }

/-- The result of a command in flight that has one. -/
def State.resultOf (s : State) (order : Nat) : Option CmdResult := (s.qe.cmds.find? fun y => y.order == order).bind Cmd.result

/-! ## Cemanor packets -/

/-- The receiver's connection of a packet (Table 13-1). -/
def cmnIx (p : Packet) : Nat := p.conn.toNat / 16

/-- A packet passes steps 1 to 3 of Table 13-5, and is not CE-marked: its frame and lengths are right, its connection carries traffic under its GEN and its CHECK, its number lies in the window of its phase and is new, it finds hold space with nothing of its port waiting for any (R456), its tag verifies. -/
def State.receives (s : State) (p : Packet) (reliable : Bool) : Prop :=
  p.fcsOk = true ∧ p.csumOk = true ∧ p.ver = 1 ∧ p.plen.toNat ≤ 9000 ∧ p.udpLen = 48 + p.plen.toNat ∧ p.ce = false ∧ p.tagOk = true ∧
  s.frozen = false ∧ s.resting cmePage = false ∧ (s.conn (cmnIx p)).live = true ∧ (s.conn (cmnIx p)).gen = p.conn.toNat % 16 ∧
  (s.conn (cmnIx p)).check = crc32c (connPack (s.conn (cmnIx p)).gen (s.conn (cmnIx p)).desc) ∧
  (if p.phase then (s.conn (cmnIx p)).keys1.isSome else (s.conn (cmnIx p)).keys0.isSome) = true ∧
  s.rxBehind false p = false ∧
  (if reliable then ((s.conn (cmnIx p)).rx p.phase).base ≤ p.psn.toNat ∧ p.psn.toNat ≤ ((s.conn (cmnIx p)).rx p.phase).base + 65535 ∧ p.psn.toNat ∉ ((s.conn (cmnIx p)).rx p.phase).acc
   else ((s.conn (cmnIx p)).rx p.phase).ctlHigh < p.psn.toNat + 64 ∧ p.psn.toNat ∉ ((s.conn (cmnIx p)).rx p.phase).ctlSeen)

/-- The state after steps 1 to 3 for a reliable packet: its frame is counted, and it is at the cipher (R451, R455). -/
def State.rcvd (s : State) (p : Packet) : State :=
  ((s.incMod CMP.RX_FRAMES 1 p.eport.val).putConn (cmnIx p) (s.conn (cmnIx p))).laneJoin .cemanor p.plen.toNat p.plen.toNat

/-- Its message is inside the window of message numbers, not resolved and not seen, and a message slot is free (steps 4 and 5). -/
def State.newMessage (s : State) (p : Packet) : Prop :=
  (s.conn (cmnIx p)).msnBase ≤ p.msn.toNat ∧ p.msn.toNat ≤ (s.conn (cmnIx p)).msnBase + 4095 ∧ p.msn.toNat ∉ (s.conn (cmnIx p)).resolved ∧
  (s.conn (cmnIx p)).tgt p.msn.toNat = none ∧ (s.rcvd p).slotsUsed < 262144 ∧ (s.conn (cmnIx p)).state ≠ .closing

/-- The state after a reliable packet is accepted into the replay window (step 6). -/
def State.tookPkt (s : State) (p : Packet) : State := (s.rcvd p).acceptPsn (cmnIx p) p.phase p.psn.toNat

/-- A packet's number is accepted. -/
def Conn.accepted (c : Conn) (p : Packet) : Prop := p.psn.toNat < (c.rx p.phase).base ∨ p.psn.toNat ∈ (c.rx p.phase).acc

/-- The message slot of a message at its first packet: at the admission, and with the extent that a packet of len bytes tells. -/
def slotNew (p : Packet) (read : Bool) : TgtMsg := {
  msn := p.msn.toNat, reg := keyIndex p.rkey.toNat, rkey := p.rkey.toNat, read := read, flagged := p.flagged, first := none, final := none, total := none,
  placed := 0, held := 0, mirrors := [], worst := .ok, grp := 0, off := p.offset.toNat, want := 0, got := [] }
def slotOf (p : Packet) (read : Bool) (len : Nat) : TgtMsg := { slotNew p read with
  first := if p.first then some p.offset.toNat else none, final := if p.final then some (p.offset.toNat + len) else none, total := if p.final then some p.total.toNat else none }

/-- The state in which the first packet of an admitted message is checked and placed (step 7). -/
def State.slotted (v : State) (p : Packet) (j : Nat) (r : Registration) (read : Bool) (len : Nat) : State :=
  ((v.putRegistration j { r with inflight := (r.inflight + 1) % 2 ^ 32 }).modConn (cmnIx p) fun c => c.putTgt (slotNew p read)).modConn (cmnIx p) fun c => c.putTgt (slotOf p read len)

/-- A connection has queued or sent a response for a message. -/
def Conn.responds (c : Conn) (op msn : Nat) (st : Status) : Prop :=
  ∃ x ∈ c.unacked ++ c.txq, x.op = op ∧ x.pkt.msn.toNat = msn ∧ x.pkt.status.toNat = st.code

/-- What the end of an extent's release sends: the report to the host, and the answer to the Fabric Manager where it asked for the release (R79). -/
def State.releaseTold (s : State) (e : Nat) (d : Extent) : List Out :=
  .device "DC_RELEASED" [d.port, d.ld, e, d.dpaBase, d.length] ::
    (if (s.ld d.port d.ld).fmRelease.contains e then [.fm "INITIATE_DYNAMIC_CAPACITY_RELEASE" .success [e]] else [])

/-! ## Byte memory -/

/-- n bytes from an address on are plain memory: none lies in a T1 frame that holds a block, or in a table of the system area. -/
def State.plain (s : State) (a n : Nat) : Prop :=
  ∀ k, k < n → s.sectorAt (a + k) = none ∧ s.counterAt (a + k) = none ∧ s.mdirAt (a + k) = none ∧ s.tableByte true (a + k) = none

/-- Of the tiers, t differs from s in the write queues of the channels and in which substitution counters have been read, at most. -/
def State.tierQueued (s t : State) : Prop :=
  t.tier = { s.tier with writes := t.tier.writes, written := t.tier.written, drains := t.tier.drains, substSeen := t.tier.substSeen }

/-- Bytes stand at an address in t, and every other byte of memory is as in s. -/
def State.wrote (s t : State) (a : Nat) (l : List Byte) : Prop :=
  t.memRead a l.length = l ∧ ∀ x, x < a ∨ a + l.length ≤ x → t.byteAt x = s.byteAt x

/-! ## Harvests, rails, answers -/

/-- What the reads that wait for a slice or a channel may change when they go on, beside what reporting may. -/
def unstallParts : List Part := [.xlt, .qe, .mov, .tier, .pan, .cmn, .dmc, .flm] ++ reported
/-- The register fields that they may change. -/
def unstallFields : List Fld :=
  [CME.VIOL_TX, CMP.TX_FRAMES, HP.POISON_CNT, MOV.FAULT_CNT, MOV.LAST_FCLASS, MOV.LAST_FOFF, MOV.LAST_STATUS, MOV.OFFLINE, MOV.STATE, PAN.HIT_CNT, PAN.MISS_CNT, PAN.WB_CNT,
   TIER.SLOW_PATH] ++ reportedFields

/-- What a harvest that starts may change beside what reporting may. -/
def harvestParts : List Part := [.xlt, .qe, .mov, .tier, .pan, .twn, .cmn, .dmc, .flm, .hrv, .nvs, .wdn] ++ reported
/-- The register fields that the start of a harvest may change. -/
def harvestFields : List Fld :=
  [CLK.BUSY, CLK.RESULT, CMP.TX_FRAMES, DMC.STATE, HRV.CAUSE, HRV.FIRST_CAUSE, HRV.STATE, MOV.FAULT_CNT, MOV.LAST_FCLASS, MOV.LAST_FOFF, MOV.LAST_STATUS,
   MOV.OFFLINE, MOV.PARK_FULL_CNT, MOV.PARK_PEAK, MOV.STATE, MOV.STEPS_DONE, NVS.BUSY, NVS.PENDING, NVS.TOKENS, PAN.BUSY, PAN.HIT_CNT, PAN.MISS_CNT, PAN.RESULT,
   PAN.WB_CNT, QE.BUSY, SEQ.STEP_ACTIVE, TIER.MISSED, TIER.ON_TIME, TIER.QUOTA_REFUSE, TIER.SUBST, WDN.ACT_STATE] ++ reportedFields
/-- The frame of a command that starts a harvest and changes besides the parts and fields given. A warm reset that the harvest abandons has its DRAM channels leave self-refresh (Table 11-3), which may apply their staged changes and let what waited for them go on. -/
def State.harvestFrame (s t : State) (parts : List Part) (fields : List Fld) : Prop :=
  s.keptBut t (.ctl :: parts ++ harvestParts) ∧ (s.wdn.warm = false → s.frame t (parts ++ harvestParts) (fields ++ harvestFields))

/-- SEQ has no power-up, power-down or release of device rails under way. -/
def State.railsCalm (s : State) : Prop := s.seq.up = false ∧ s.seq.down = false ∧ s.seq.undo = false ∧ s.seq.devUp = none ∧ s.seq.devDown = none

/-- What a rail fault may change in the register file beside what reporting may. -/
def railFields : List Fld := [SEQ.RAIL_FAULT, SEQ.RAIL_WARN, SEQ.RAIL_ON, SEQ.RAIL_GOOD, SEQ.FAULT_N_DRV, SEQ.FAULT_N_IN, SEQ.STATE] ++ reportedFields

/-- A binding answers: I3C only while I3C_EN is set. -/
def State.binds (s : State) (b : Binding) : Prop := b = .i3c → s.flag MGT.I3C_EN = true

/-- What the failure of a DRAM channel may change beside what reporting may: its work is gone, and while the modules mirror, the group claims are released. -/
def failParts : List Part := [.xlt, .qe, .mov, .tier, .twn, .cmn, .dmc] ++ reported
/-- The register fields that it may change, with the counter of what it failed by. -/
def failFields : List Fld :=
  [CME.VIOL_TX, CMP.TX_FRAMES, DMC.STATE, DMC.RATE_NOW, DMC.WCRC_CNT, DMC.CAPAR_CNT, MOV.FAULT_CNT, MOV.LAST_FCLASS, MOV.LAST_FOFF, MOV.LAST_STATUS,
   MOV.OFFLINE, MOV.STATE, NVS.FAST_BAD, TWN.CLAIM_W_DRV, TWN.IN_SYNC, TWN.SERVE, TWN.STATE, TWN.TWN_CLAIM_LOCAL] ++ reportedFields

/-- A command is answered on a binding with a code and numbers, and nothing but the parts l changes. -/
def State.answers (s t : State) (b : Binding) (cmd : String) (code : Nat) (vals : List Nat) (l : List Part) : Prop :=
  t.out = s.out ++ [.mctp (Binding.code b) cmd code vals] ∧ s.keptBut t (.out :: l)

/-- The same state with the COUNTER of a request taken. -/
def State.counted (s : State) (t : TaraiviHdr) : State := { s with wdn.counters := tset s.wdn.counters t.role.toNat t.count.toNat }

end Sys2Proof.Machine
end

