-- ==== Sys2Proof/Certificates/Slice0/Obligations.lean ====
section
/-! DEFINITION. What is claimed of the machine: a frame, a result or a rule of the spec for every family of commands, and the invariants of every step. -/
open Sys2Proof Sys2Proof.Machine

/-- Persistence: resets, barriers, class changes, acknowledgements, held writes: A cold-reset request by the warden starts a harvest, or adds its cause to one that runs. A warm reset outside a harvest stops every block: commands, movers, staging, pan lines, and the warden starts again. PERSIST puts a barrier in place that covers the class M and class D mirror records not yet acknowledged in its regions, of its range or of every class D region; a barrier that is ready and not fenced ends its command OK, or advances DONE of its flush doorbell. REGION_SET stores the fields its MASK names and waits for the invalidation. A twin acknowledgement marks mirror records up to its sequence. A held write that its source's turn and the admission rules let in is held no more; a mirror record that waited for room is applied. Each clause gives its frame. -/
def Obligations.PersistenceCommands : Prop :=
  (∀ (s : State) (r : Requester), s.regsOk → s.reaches r = true → s.asWarden r = true → s.frozen = false →
    ∃ t, exec (.coldResetRequest r) s = .next t ∧ t.get HRV.STATE = hrvHarvesting ∧ t.get HRV.CAUSE = 4 ∧ t.get HRV.FIRST_CAUSE = 2 ∧ t.hp.memoryActive = false ∧ s.harvestFrame t [] []) ∧
  (∀ (s : State) (r : Requester), s.regsOk → s.reaches r = true → s.asWarden r = true → s.frozen = true →
    ∃ t, exec (.coldResetRequest r) s = .next t ∧ t.bitOf HRV.CAUSE 2 = true ∧ s.frame t [.regs] [HRV.CAUSE]) ∧
  (∀ (s : State), s.regsOk → s.frozen = false →
    ∃ t, exec .warmReset s = .next t ∧ t.ctl = ctlInit ∧ t.mov = movInit ∧ t.qe.cmds = [] ∧ t.pan.lines = [] ∧ t.hp.memoryActive = false ∧ t.wdn.boot = 1 ∧
      t.get TWN.STATE = roleInit ∧ s.keptBut t ([.ctl, .xlt, .qe, .mov, .tier, .pan, .twn, .cmn, .dmc, .flm, .seq, .cip, .nvs, .wdn, .mgt] ++ reported)) ∧
  (∀ (s : State) (qid : BitVec 20) (e : SqEntry) (c : QueueCtx) (x : QEntry) (u : State) (h : BitVec 40) (off len : BitVec 64), s.regsOk →
    s.fetches qid.toNat e c x u → x.cmd = .persist h off len true →
    ∃ t b, exec (.persist qid e) s = .next t ∧ t.qe.barriers = u.qe.barriers ++ [b] ∧ b.who = .command qid.toNat x.cmdId.toNat ∧
      (∀ i, i ∈ b.regions ↔ ∃ d, (i, d) ∈ u.xlt.regions ∧ d.live = true ∧ d.tenant = c.tenant ∧ d.pclass = 1) ∧
      b.covered = (u.twn.replay.filter fun m => !m.acked && b.regions.contains m.region).map MirrorRec.id ∧
      { u.flight qid.toNat c x with barrier := some b.id } ∈ t.qe.cmds ∧ s.frame t ([.xlt, .qe, .tier, .pan, .dmc] ++ reported) ([PAN.HIT_CNT, PAN.MISS_CNT, PAN.WB_CNT] ++ reportedFields)) ∧
  (∀ (s : State) (qid : BitVec 20) (e : SqEntry) (c : QueueCtx) (x : QEntry) (u v : State) (h : BitVec 40) (off len : BitVec 64) (d : Region), s.regsOk →
    s.fetches qid.toNat e c x u → x.cmd = .persist h off len false →
    (u.begun qid.toNat c (u.flight qid.toNat c x)).walkQueue c.tenant h (if len = 0 then 0 else off.toNat) len.toNat false = (v, .ok d) →
    ∃ t b, exec (.persist qid e) s = .next t ∧ t.qe.barriers = u.qe.barriers ++ [b] ∧ b.who = .command qid.toNat x.cmdId.toNat ∧ b.regions = [handleId h] ∧
      (len = 0 → b.covered = (u.twn.replay.filter fun m => !m.acked && m.region == handleId h).map MirrorRec.id) ∧
      { u.flight qid.toNat c x with barrier := some b.id } ∈ t.qe.cmds ∧ s.frame t ([.xlt, .qe, .tier, .pan, .dmc] ++ reported) ([PAN.HIT_CNT, PAN.MISS_CNT, PAN.WB_CNT] ++ reportedFields)) ∧
  (∀ (s : State) (qid : BitVec 20) (e : SqEntry) (c : QueueCtx) (x : QEntry) (u v : State) (h : BitVec 40) (d0 d1 : BitVec 32) (dl : BitVec 20) (w : BitVec 4) (d : Region), s.regsOk →
    s.fetches qid.toNat e c x u → x.cmd = .regionSet h d0 d1 dl w 4 → (u.begun qid.toNat c (u.flight qid.toNat c x)).walkQueue c.tenant h 0 0 false = (v, .ok d) →
    v.xlt.invalBusy = none → ({ v.regionAt (handleId h) with deadline := dl.toNat } : Region).askOk = true →
    ∃ t, exec (.regionSet qid e) s = .next t ∧ t.regionAt (handleId h) = Region.seal { v.regionAt (handleId h) with deadline := dl.toNat } ∧
      (∃ i, t.xlt.invalBusy = some i ∧ i.scope = 0 ∧ i.index = handleId h) ∧ t.get XLT.BUSY = 1 ∧ s.frame t ([.xlt, .qe, .tier, .pan, .dmc] ++ reported) ([XLT.BUSY, PAN.HIT_CNT, PAN.MISS_CNT, PAN.WB_CNT] ++ reportedFields)) ∧
  (∀ (s : State) (id : Nat) (b : Barrier) (q n : Nat), (s.qe.barriers.find? fun x => x.id == id) = some b → s.barrierReady b = true → s.barrierFenced b = false → b.who = .command q n →
    ∃ t, exec (.persistBarrierComplete id) s = .next t ∧ t.qe.barriers = (s.qe.barriers.filter fun x => x.id != id) ∧
      t.qe.cmds = s.qe.cmds.map (fun y => if y.barrier = some id ∧ y.result.isNone then { y with result := some okResult } else y) ∧ s.keptBut t [.qe]) ∧
  (∀ (s : State) (id ix p l i n : Nat) (b : Barrier) (v : Option Nat), (s.qe.barriers.find? fun x => x.id == id) = some b → s.barrierReady b = true → s.barrierFenced b = false →
    b.who = .flush ix p l v → tget s.qe.flush ix = some (i, n) →
    ∃ t, exec (.persistBarrierComplete id) s = .next t ∧ t.qe.barriers = (s.qe.barriers.filter fun x => x.id != id) ∧ tget t.qe.flush ix = some (i, (n + 1) % 2 ^ 32) ∧
      t.qe.cmds = s.qe.cmds ∧ s.keptBut t [.qe, .hp, .out]) ∧
  (∀ (s : State) (src : WriteSrc) (w : HeldWrite) (rest : List HeldWrite) (pl : Place64) (u v : State) (m : Option Nat), s.regsOk → src ≠ .mirror →
    takeFirst s.tier.held (fun x => x.src == src) = some (w, rest) → (∀ i n k, w.who ≠ .cmn i n k) → s.twn.handoff.contains w.desc.grp = false →
    s.serves w.desc.grp = true → s.resolve w.region w.desc w.off = (u, .ok pl) → (∀ y ∈ rest, y.src = src → y.whole = false) →
    u.tryWrite { tenant := w.tenant, place := pl, data := w.data, enable := w.enable, poison := w.poison, alloc := true, whole := w.whole,
                 port := match w.who with | .cxl p l _ | .mailbox p l _ => some (p, l) | _ => none, qos := w.who.qos } = (v, .accepted m) →
    ∃ t, exec (.heldWriteRelease src) s = .next t ∧ t.tier.held = rest ∧ t.tier.blocks = v.tier.blocks ∧ s.frame t ([.xlt, .qe, .mov, .tier, .pan, .twn, .cmn, .dmc, .flm] ++ reported) ([MOV.OFFLINE, MOV.STATE, CME.VIOL_TX, CMP.TX_FRAMES, HP.REFUSE_CNT, MOV.FAULT_CNT, MOV.LAST_FCLASS, MOV.LAST_FOFF, MOV.LAST_STATUS, PAN.WB_CNT, TIER.QUOTA_REFUSE] ++ reportedFields)) ∧
  (∀ (s : State) (b : Bool) (grp addr stamp : Nat) (vals : List SectorVal) (tags : List Nat), s.regsOk →
    tget s.twn.rxHold (s.twn.rxSeq + 1) = some (.mirror b grp addr stamp vals tags) → s.mirrorAdmits b (unitOf (addr / 64)) = true →
    ∃ t, exec (.heldWriteRelease .mirror) s = .next t ∧ s.twn.rxSeq + 1 ≤ t.twn.rxSeq ∧ s.keptBut t [.tier, .twn, .dmc, .flm, .out]) ∧
  (∀ (s : State) (h : TwinHdr), s.regsOk → s.bitOf TWN.BUNDLES h.bundle.val = true → h.tagOk = true → s.mirroring = true → s.cmn.conns = [] →
    ∃ t, exec (.twinAck h) s = .next t ∧
      t.twn.replay = ((s.twn.replay.map fun (m : MirrorRec) => if m.seq ≤ h.seq.toNat then { m with acked := true } else m).filter
        fun m => !(m.acked && m.seq < s.twn.digestFrom)) ∧ s.frame t ([.xlt, .qe, .mov, .tier, .pan, .twn, .cmn, .dmc, .flm] ++ reported) ([MOV.LAST_FCLASS, MOV.LAST_FOFF, MOV.LAST_STATUS, TIER.SUBST, CIP.AUTH_FAIL_CNT, CME.VIOL_TX, CMP.TX_FRAMES, PAN.HIT_CNT, PAN.MISS_CNT, PAN.WB_CNT, TIER.MISSED, TIER.ON_TIME, TIER.QUOTA_REFUSE] ++ reportedFields))

/-- Control-space accesses: reads, writes, refusals, LOCK, and the common errors they raise: A control read that OWNER admits answers with the page's value and changes nothing else. One that OWNER refuses, on a page that answers, answers 0 and sets OWNER_VIOL. An access outside every page answers 0 and sets UNMAPPED of the TOP page with the offset in its capture; an access of illegal size or alignment sets SIZE_VIOL of the page and captures. A write of EVT_ROUTE is taken; a write OWNER refuses sets OWNER_VIOL and changes no other register. LOCK is set by a requester acting as the warden and makes the RWL fields of OWNER refuse with LOCK_VIOL. A mask written to ERR_STAT clears those bits and leaves the capture. QUIESCED may latch where the block has come to rest. Each clause gives its frame. -/
def Obligations.ControlSpaceAccesses : Prop :=
  (∀ (s : State) (r : Requester) (p : Page) (a : Nat), s.reaches r = true → pageFor r p.base = some p → s.mayRead r p = true → a < 4096 →
    legalAccess a 4 = true → (a < 0x100 ∨ s.domainOn (Page.dom p) = true) →
    ∃ t, exec (.controlRead r (busAddr r (p.base + a)) 4) s = .next t ∧ t.out = s.out ++ [.ctlRead r (p.base + a) (s.readPage p a 4)] ∧ s.keptBut t [.out]) ∧
  (∀ (s : State) (r : Requester) (p : Page) (a : Nat), s.regsOk → s.reaches r = true → pageFor r p.base = some p → s.mayRead r p = false → a < 4096 →
    legalAccess a 4 = true → (a < 0x100 ∨ s.domainOn (Page.dom p) = true) →
    ∃ t, exec (.controlRead r (busAddr r (p.base + a)) 4) s = .next t ∧ t.out.getLast? = some (.ctlRead r (p.base + a) 0) ∧
      bit (t.rd p HDR.ERR_STAT) 0 = true ∧ s.frame t reported reportedFields) ∧
  (∀ (s : State) (r : Requester) (off : BitVec 32) (write : Bool) (data : BitVec 64), s.regsOk → s.reaches r = true → pageFor r off.toNat = none →
    ∃ t, exec (.unmappedAccess r off write data) s = .next t ∧ bit (t.rd topPage HDR.ERR_STAT) 4 = true ∧
      (s.rd topPage HDR.ERR_STAT = 0 → t.rd topPage HDR.ERR_INFO1 = off.toNat) ∧ (write = false → t.out.getLast? = some (.ctlRead r off.toNat 0)) ∧ s.frame t reported reportedFields) ∧
  (∀ (s : State) (r : Requester) (p : Page) (off : BitVec 32) (size : Nat) (write : Bool) (data : BitVec 64), s.regsOk → s.reaches r = true →
    pageFor r off.toNat = some p → legalAccess off.toNat size = false →
    ∃ t, exec (.sizeViolAccess r off size write data) s = .next t ∧ bit (t.rd p HDR.ERR_STAT) 5 = true ∧
      (s.rd p HDR.ERR_STAT = 0 → t.rd p HDR.ERR_INFO0 = (r.code * 2 ^ 28 + 5 * 2 ^ 24 + off.toNat % 4096) % 2 ^ 32) ∧
      (write = false → t.out.getLast? = some (.ctlRead r off.toNat 0)) ∧ s.frame t reported reportedFields) ∧
  (∀ (s : State) (r : Requester) (p : Page) (v : Nat), s.regsOk → s.admits r p → v < 512 →
    ∃ t, exec (.controlWrite r (busAddr r (p.base + 0x024)) 4 (BitVec.ofNat 64 v)) s = .next t ∧ t.rd p HDR.EVT_ROUTE = v ∧
      s.frame t [.regs] [HDR.EVT_ROUTE, HDR.QUIESCED]) ∧
  (∀ (s : State) (r : Requester) (p : Page) (a : Nat) (data : BitVec 64), s.regsOk → s.reaches r = true → pageFor r p.base = some p → s.mayWrite r p = false → s.wayClear r p →
    a < 4096 → legalAccess a 4 = true → (a < 0x100 ∨ s.domainOn (Page.dom p) = true) →
    ∃ t, exec (.controlWrite r (busAddr r (p.base + a)) 4 data) s = .next t ∧ bit (t.rd p HDR.ERR_STAT) 0 = true ∧
      s.frame t reported (HDR.QUIESCED :: reportedFields)) ∧
  (∀ (s : State) (r : Requester) (p : Page), s.regsOk → s.admits r p → s.asWarden r = true →
    ∃ t, exec (.lock r p) s = .next t ∧ t.rd p HDR.LOCK = 1 ∧ s.frame t [.regs] [HDR.LOCK, HDR.QUIESCED]) ∧
  (∀ (s : State) (r : Requester) (p : Page) (m : BitVec 32), s.regsOk → s.admits r p → m ≠ 0 →
    ∃ t, exec (.errStatClear r p m) s = .next t ∧ (∀ k, k < 32 → bit (t.rd p HDR.ERR_STAT) k = (bit (s.rd p HDR.ERR_STAT) k && !m.getLsbD k)) ∧
      s.frame t [.regs] [HDR.ERR_STAT, HDR.QUIESCED])

/-- Staging: arming, disarming, committing, applying, rolling back; QUIESCE and its release: Arming a page outside a commit makes it ARMED for its epoch (IDLE for epoch 0) and, where ARM was 0, loads its shadow with the live value of every stageable field; disarming drops the shadow and makes it IDLE. While a commit holds the page both are refused with STAGE_BUSY; ARM = 0 to a STUCK page of a quiesced block ends its part. A nonzero epoch committed while no commit runs makes the pages armed with it participants, APPLYING; one that is safe in every cycle applies at once; with no participant the commit is DONE; while a commit runs another is refused. A participant that applies takes its shadow, sets APPLIED with the epoch and counts; the last one ends the commit DONE. A page with a change of its own alone takes it, with APPLIED_EPOCH 0. The timer's expiry ends ROLLED_BACK a commit of which nothing has applied; an applied unit restores its old values, and the last restore ends the rollback; one that has not restored reports STUCK. A write of a stageable field of an unarmed page waits as a change of that page alone, and takes effect at once where the page is safe in every cycle. QUIESCE = 1 rests the block, quiesced at once where it is idle, unless R54 refuses it; QUIESCE = 0 releases it. Each clause gives its frame. (An EPOCH stored with ARM = 0 of a STUCK page, and the order of shadow and own change, are the model's choices, log entry 95.) -/
def Obligations.StagedChanges : Prop :=
  (∀ (s : State) (r : Requester) (p : Page) (epoch : BitVec 16) (view : Bool), s.regsOk → s.admits r p → s.stageHeld p = false →
    ∃ t, exec (.stageArm r p epoch view) s = .next t ∧ t.rd p HDR.ARM = 1 ∧ t.rd p HDR.EPOCH = epoch.toNat ∧ t.rd p HDR.VIEW = b2n view ∧
      t.rd p HDR.STAGE_STAT = (if epoch = 0 then stIdle else stArmed) ∧ (s.rd p HDR.ARM ≠ 0 → t.ctl = s.ctl) ∧ t.ctl = { s.ctl with shadow := t.ctl.shadow } ∧
      (s.rd p HDR.ARM = 0 → (∀ x ∈ stageSlots p, tget t.ctl.shadow (x.1.key p x.2) = some (s.rd p x.1 x.2)) ∧
        ∀ k, (∀ x ∈ stageSlots p, x.1.key p x.2 ≠ k) → tget t.ctl.shadow k = tget s.ctl.shadow k) ∧
      s.frame t [.regs, .ctl] [HDR.ARM, HDR.EPOCH, HDR.VIEW, HDR.STAGE_STAT, HDR.QUIESCED]) ∧
  (∀ (s : State) (r : Requester) (p : Page) (epoch : BitVec 16) (view : Bool), s.regsOk → s.admits r p → s.stageHeld p = false →
    ∃ t, exec (.stageDisarm r p epoch view) s = .next t ∧ t.rd p HDR.ARM = 0 ∧ t.rd p HDR.EPOCH = epoch.toNat ∧ t.rd p HDR.VIEW = b2n view ∧ t.rd p HDR.STAGE_STAT = stIdle ∧
      t.ctl = { s.ctl with shadow := s.ctl.shadow.filter fun e => !keyIn p e.1 } ∧
      s.frame t [.regs, .ctl] [HDR.ARM, HDR.EPOCH, HDR.VIEW, HDR.STAGE_STAT, HDR.QUIESCED]) ∧
  (∀ (s : State) (r : Requester) (p : Page) (epoch : BitVec 16) (view : Bool), s.regsOk → s.admits r p → s.stageHeld p = true → s.rd p HDR.ARM = 1 → s.rd p HDR.EPOCH ≠ epoch.toNat →
    ∃ t, exec (.stageArm r p epoch view) s = .next t ∧ bit (t.rd p HDR.ERR_STAT) 3 = true ∧ t.rd p HDR.EPOCH = s.rd p HDR.EPOCH ∧ t.ctl = s.ctl ∧
      s.frame t reported ([HDR.VIEW, HDR.QUIESCED] ++ reportedFields)) ∧
  (∀ (s : State) (r : Requester) (p : Page) (epoch : BitVec 16) (view : Bool), s.regsOk → s.admits r p → s.stageHeld p = true → s.rd p HDR.ARM = 1 →
    ¬(s.rd p HDR.STAGE_STAT = stStuck ∧ s.quiesced p = true) →
    ∃ t, exec (.stageDisarm r p epoch view) s = .next t ∧ bit (t.rd p HDR.ERR_STAT) 3 = true ∧ t.rd p HDR.ARM = 1 ∧ t.ctl = s.ctl ∧
      s.frame t reported ([HDR.VIEW, HDR.QUIESCED] ++ reportedFields)) ∧
  (∀ (s : State) (r : Requester) (p : Page) (epoch : BitVec 16) (view : Bool), s.regsOk → s.admits r p → s.stageHeld p = true → s.rd p HDR.ARM = 1 →
    s.rd p HDR.STAGE_STAT = stStuck → s.quiesced p = true →
    ∃ t, exec (.stageDisarm r p epoch view) s = .next t ∧ t.rd p HDR.ARM = 0 ∧ t.rd p HDR.EPOCH = epoch.toNat ∧ t.rd p HDR.STAGE_STAT = stIdle ∧ t.rd p HDR.APPLIED = 0 ∧
      (t.get TOP.STAGE_GSTAT = if s.ctl.parts.any (fun x => x.page ≠ p && x.unrestored) then s.get TOP.STAGE_GSTAT else gRolled) ∧
      s.frame t ([.ctl] ++ reported) ([HDR.ARM, HDR.EPOCH, HDR.VIEW, HDR.STAGE_STAT, HDR.APPLIED, HDR.QUIESCED, TOP.STAGE_GSTAT] ++ reportedFields)) ∧
  (∀ (s : State) (r : Requester) (p : Page), s.regsOk → s.admits r p → s.quiesceRefusal p = none →
    ∃ t, exec (.quiesce r p) s = .next t ∧ t.rd p HDR.QUIESCE = 1 ∧ (s.busy p = false → t.quiesced p = true) ∧ s.frame t [.regs] [HDR.BLOCK_DEF, HDR.QUIESCE, HDR.ENABLE, HDR.QUIESCED]) ∧
  (∀ (s : State) (r : Requester) (p : Page) (k : Nat), s.regsOk → s.admits r p → s.rd p HDR.QUIESCE = 0 → s.quiesceRefusal p = some k →
    ∃ t, exec (.quiesce r p) s = .next t ∧ t.rd p HDR.QUIESCE = 0 ∧ bit (t.rd p HDR.ERR_STAT) k = true ∧ s.frame t reported ([HDR.BLOCK_DEF, HDR.ENABLE, HDR.QUIESCED] ++ reportedFields)) ∧
  (∀ (s : State) (r : Requester) (p : Page), s.regsOk → s.admits r p → s.rd p HDR.QUIESCE = 1 → p.blk ≠ .pan → p.blk ≠ .dmc → p.blk ≠ .tier → p.blk ≠ .xlt →
    ∃ t, exec (.quiesceRelease r p) s = .next t ∧ t.rd p HDR.QUIESCE = 0 ∧ t.rd p HDR.QUIESCED = 0 ∧
      s.frame t [.regs] [HDR.BLOCK_DEF, HDR.QUIESCE, HDR.ENABLE, HDR.QUIESCED]) ∧
  (∀ (s : State) (r : Requester) (p : Page), s.regsOk → s.admits r p → s.rd p HDR.QUIESCE = 1 → p.blk = .pan ∨ p.blk = .dmc ∨ p.blk = .tier ∨ p.blk = .xlt →
    ∃ t, exec (.quiesceRelease r p) s = .next t ∧ t.rd p HDR.QUIESCE = 0 ∧ t.rd p HDR.QUIESCED = 0 ∧
      ((∀ x ∈ s.tier.reads, x.panStall = false) → s.frame t [.regs] [HDR.BLOCK_DEF, HDR.QUIESCE, HDR.ENABLE, HDR.QUIESCED]) ∧
      s.keptBut t ([.xlt, .qe, .mov, .tier, .pan, .cmn] ++ reported)) ∧
  (∀ (s : State) (r : Requester) (p : Page) (a n : Nat) (d : BitVec 64) (y : FieldWrite), s.regsOk → s.admits r p → s.domainOn (Page.dom p) = true → a < 4096 → legalAccess a n = true →
    (s.quiesceLatch p).writesAt p a n (d.toNat % 2 ^ (8 * n)) = [y] → y.fld.stage = true → y.idle = false → (y.fld.warden = true → s.asWarden r = true) →
    (y.fld.acc = .rwl → s.rd p HDR.LOCK ≠ 1) → s.stageHeld p = false → s.rd p HDR.ARM = 0 → p.blk ≠ .cip → s.alwaysSafe p = false →
    ∃ t, exec (.stageSingleChange r (BitVec.ofNat 32 (p.base + a)) n d) s = .next t ∧
      t.ctl = { s.ctl with single := (s.ctl.single.filter fun x => x.key != y.fld.key p y.idx) ++ [{ page := p, key := y.fld.key p y.idx, value := s.clamped [y] y }] } ∧
      s.frame t [.regs, .ctl] [HDR.QUIESCED]) ∧
  (∀ (s : State) (r : Requester) (p : Page) (a n : Nat) (d : BitVec 64) (y : FieldWrite), s.regsOk → s.admits r p → s.domainOn (Page.dom p) = true → a < 4096 → legalAccess a n = true →
    (s.quiesceLatch p).writesAt p a n (d.toNat % 2 ^ (8 * n)) = [y] → y.fld.stage = true → y.idle = false → (y.fld.warden = true → s.asWarden r = true) →
    (y.fld.acc = .rwl → s.rd p HDR.LOCK ≠ 1) → s.stageHeld p = false → s.rd p HDR.ARM = 0 → s.alwaysSafe p = true → s.part p = none → (∀ x ∈ s.ctl.single, x.page ≠ p) →
    ∃ t, exec (.stageSingleChange r (BitVec.ofNat 32 (p.base + a)) n d) s = .next t ∧ t.rd p y.fld y.idx = s.clamped [y] y % 2 ^ y.fld.width ∧ t.rd p HDR.APPLIED = 1 ∧
      t.rd p HDR.APPLIED_EPOCH = 0 ∧ s.frame t [.regs, .ctl] [y.fld, HDR.APPLIED, HDR.APPLIED_EPOCH, HDR.QUIESCED]) ∧
  (∀ (s : State) (r : Requester) (e : BitVec 16), s.regsOk → s.admits r topPage → s.domainOn 0 = true → e ≠ 0 → s.get TOP.STAGE_GSTAT ≠ gApplying → s.get TOP.STAGE_GSTAT ≠ gRolling →
    s.get TOP.STAGE_GSTAT ≠ gStuck → (∀ p ∈ allPages, s.rd p HDR.ARM = 1 → s.rd p HDR.EPOCH ≠ e.toNat ∨ s.rd p HDR.STAGE_STAT = stStuck) →
    ∃ t, exec (.stageCommit r e) s = .next t ∧ t.get TOP.STAGE_COMMIT = e.toNat ∧ t.get TOP.PARTICIPANTS = 0 ∧ t.get TOP.APPLIED_COUNT = 0 ∧ t.get TOP.STAGE_GSTAT = gDone ∧ t.ctl.parts = [] ∧
      s.frame t [.regs, .ctl] [TOP.STAGE_COMMIT, TOP.PARTICIPANTS, TOP.APPLIED_COUNT, TOP.STAGE_GSTAT, HDR.QUIESCED]) ∧
  (∀ (s : State) (r : Requester) (e : BitVec 16) (ps : List Page), s.regsOk → s.admits r topPage → s.domainOn 0 = true → e ≠ 0 → s.get TOP.STAGE_GSTAT ≠ gApplying →
    s.get TOP.STAGE_GSTAT ≠ gRolling → s.get TOP.STAGE_GSTAT ≠ gStuck →
    ps = allPages.filter (fun p => s.rd p HDR.ARM = 1 && s.rd p HDR.EPOCH = e.toNat && s.rd p HDR.STAGE_STAT ≠ stStuck) → (∃ p ∈ ps, s.alwaysSafe p = false) →
    (∀ x ∈ s.ctl.single, s.alwaysSafe x.page = false) →
    ∃ t, exec (.stageCommit r e) s = .next t ∧ t.get TOP.STAGE_COMMIT = e.toNat ∧ t.get TOP.PARTICIPANTS = ps.length ∧ t.get TOP.APPLIED_COUNT = (ps.filter s.alwaysSafe).length ∧
      t.get TOP.STAGE_GSTAT = gApplying ∧ t.ctl.parts = ps.map (fun p => { page := p, applied := s.alwaysSafe p, restored := false }) ∧
      t.ctl.shadow = s.ctl.shadow ∧ t.ctl.single = s.ctl.single ∧
      (∀ p ∈ ps, t.rd p HDR.STAGE_STAT = stApplying ∧ (s.alwaysSafe p = true → t.rd p HDR.APPLIED = 1 ∧ t.rd p HDR.APPLIED_EPOCH = e.toNat ∧ t.holds p (tget s.ctl.shadow))) ∧
      s.keptBut t [.regs, .ctl] ∧
      ((∀ p ∈ ps, s.alwaysSafe p = false) → s.frame t [.regs, .ctl] [TOP.STAGE_COMMIT, TOP.PARTICIPANTS, TOP.APPLIED_COUNT, TOP.STAGE_GSTAT, HDR.STAGE_STAT, HDR.QUIESCED])) ∧
  (∀ (s : State) (r : Requester) (e : BitVec 16), s.regsOk → s.admits r topPage → s.domainOn 0 = true → e ≠ 0 →
    s.get TOP.STAGE_GSTAT = gApplying ∨ s.get TOP.STAGE_GSTAT = gRolling ∨ s.get TOP.STAGE_GSTAT = gStuck →
    ∃ t, exec (.stageCommit r e) s = .next t ∧ bit (t.rd topPage HDR.ERR_STAT) 3 = true ∧ s.frame t reported (HDR.QUIESCED :: reportedFields)) ∧
  (∀ (s : State) (p : Page) (x : Participant), s.regsOk → s.canApply p = true → s.part p = some x → x.applied = false → s.get TOP.STAGE_GSTAT = gApplying →
    (∀ y ∈ s.ctl.single, y.page ≠ p) → p.present = true → (p.blk = .mov → s.mov.offlineNext.contains p.inst = false) → (∀ y ∈ s.ctl.parts, y.page.present = true) →
    (∀ y ∈ s.ctl.parts, ∀ z ∈ s.ctl.parts, y.page = z.page → y = z) →
    ∃ t, exec (.stageApply p) s = .next t ∧ t.rd p HDR.APPLIED = 1 ∧ t.rd p HDR.APPLIED_EPOCH = s.get TOP.STAGE_COMMIT % 2 ^ 16 ∧ t.holds p (tget s.ctl.shadow) ∧
      t.get TOP.APPLIED_COUNT = satAdd 8 (s.get TOP.APPLIED_COUNT) 1 ∧
      ((∃ y ∈ s.ctl.parts, y.page ≠ p ∧ y.applied = false) → t.get TOP.STAGE_GSTAT = gApplying ∧ t.ctl.parts = s.ctl.parts.map (fun y => if y.page = p then { y with applied := true } else y)) ∧
      ((∀ y ∈ s.ctl.parts, y.page ≠ p → y.applied = true) → t.get TOP.STAGE_GSTAT = gDone ∧ t.ctl.parts = [] ∧
        ∀ y ∈ s.ctl.parts, t.rd y.page HDR.STAGE_STAT = stApplied ∧ t.rd y.page HDR.ARM = 0) ∧ s.keptBut t stagedParts) ∧
  (∀ (s : State) (p : Page) (x : Staged) (f : Fld) (i : Nat), s.regsOk → s.canApply p = true → s.part p = none → s.ctl.single.filter (fun y => y.page == p) = [x] → p.present = true →
    (f, i) ∈ stageSlots p → x.key = f.key p i → x.value < 2 ^ f.width → (p.blk = .mov → s.mov.offlineNext.contains p.inst = false) →
    ∃ t, exec (.stageApply p) s = .next t ∧ t.rd p f i = x.value ∧ t.rd p HDR.APPLIED = 1 ∧ t.rd p HDR.APPLIED_EPOCH = 0 ∧
      t.ctl = { s.ctl with single := s.ctl.single.filter fun y => y.page != p } ∧ s.keptBut t stagedParts) ∧
  (∀ (s : State), s.regsOk → s.get TOP.STAGE_GSTAT = gApplying → (∀ x ∈ s.ctl.parts, x.page.present = true) →
    (∀ x ∈ s.ctl.parts, ∀ y ∈ s.ctl.parts, x.page = y.page → x = y) →
    ∃ t, exec .stageTimeoutExpiry s = .next t ∧ (t.get TOP.STAGE_GSTAT = if s.ctl.parts.any Participant.unrestored then gRolling else gRolled) ∧
      (∀ x ∈ s.ctl.parts, x.applied = false → t.rd x.page HDR.STAGE_STAT = stRolled ∧ t.rd x.page HDR.ARM = 0) ∧ s.frame t ([.ctl] ++ reported) ([HDR.ARM, HDR.STAGE_STAT, TOP.STAGE_GSTAT] ++ reportedFields)) ∧
  (∀ (s : State) (p : Page) (x : Participant), s.regsOk → s.canApply p = true → s.part p = some x → x.unrestored = true → s.get TOP.STAGE_GSTAT = gRolling ∨ s.get TOP.STAGE_GSTAT = gStuck →
    s.rd p HDR.STAGE_STAT ≠ stStuck → p.present = true → (p.blk = .mov → s.mov.offlineNext.contains p.inst = false) →
    ∃ t, exec (.stageRestore p) s = .next t ∧ t.rd p HDR.STAGE_STAT = stRolled ∧ t.rd p HDR.ARM = 0 ∧ t.rd p HDR.APPLIED = 0 ∧ t.holds p (tget s.ctl.old) ∧
      (t.get TOP.STAGE_GSTAT = if s.ctl.parts.any (fun y => y.page ≠ p && y.unrestored) then s.get TOP.STAGE_GSTAT else gRolled) ∧ s.keptBut t stagedParts) ∧
  (∀ (s : State) (p : Page) (x : Participant), s.regsOk → s.part p = some x → x.unrestored = true → s.get TOP.STAGE_GSTAT = gRolling ∨ s.get TOP.STAGE_GSTAT = gStuck →
    s.rd p HDR.STAGE_STAT ≠ stStuck → p.present = true →
    ∃ t, exec (.stageStuck p) s = .next t ∧ t.rd p HDR.STAGE_STAT = stStuck ∧ t.get TOP.STAGE_GSTAT = gStuck ∧ t.ctl = s.ctl ∧
      s.frame t reported ([HDR.STAGE_STAT, TOP.STAGE_GSTAT] ++ reportedFields))

/-- Translation: refetch, fills, invalidation, revocation, windows, decoders, extents: A copy that failed its check and whose descriptor in DRAM passes is replaced by it. A fill that no invalidation removed is installed. XLT_INVAL runs at once while none runs, is queued up to 64 deep, and beyond that sets INVAL_OVF; running, it removes every matching copy and fill. Its completion counts, starts the next one, frees a released extent, tells the host and answers the Fabric Manager's request for it, a Release DC once its last extent is free, and ends a REGION_CREATE that waits for it OK with its handle. A revocation of a current OPEN key makes the registration CLOSING, or FREE at once when nothing is in flight; the sweep that is due after a harvest or reset leaves no registration CLOSING. A window bind that meets R76 and R77 is BOUND, any other is refused with ACCESS_VIOLATION; uncommitting its decoder makes it UNBINDING. A release makes an extent RELEASING and invalidates it; one that names no ACTIVE extent is refused. Each clause gives its frame. -/
def Obligations.TranslationCommands : Prop :=
  (∀ (s : State) (k : XKey) (e : CacheEntry) (c : XCopy), s.regsOk → s.xCached k = some e → e.copy.ok = false → s.xDram k = some c → c.ok = true →
    ∃ t, exec (.descriptorRefetch k) s = .next t ∧ t.xlt.caches = s.xlt.caches.map (fun (e : CacheEntry) => if e.key == k then { e with copy := c } else e) ∧ s.frame t ([.xlt] ++ reported) reportedFields) ∧
  (∀ (s : State) (k : XKey) (e : CacheEntry), (s.xlt.fills.find? fun e => e.key == k) = some e →
    (s.xlt.caches.filter fun x => !(x.key == k) && x.key.cls == k.cls).length < k.capacity →
    ∃ t, exec (.xltMissFill k) s = .next t ∧ t.xlt.caches = (s.xlt.caches.filter fun x => !(x.key == k)) ++ [e] ∧ (∀ x ∈ t.xlt.fills, x.key ≠ k) ∧ s.keptBut t [.xlt]) ∧
  (∀ (s : State) (r : Requester) (sc : BitVec 4) (i : BitVec 24), s.regsOk → s.commands r xltPage → sc.toNat ≤ 5 → s.xlt.invalBusy = none →
    ∃ t, exec (.xltInval r sc i) s = .next t ∧ t.xlt.invalBusy = some ⟨sc.toNat, i.toNat, .none⟩ ∧ t.get XLT.BUSY = 1 ∧
      (∀ e ∈ t.xlt.caches, s.invalHits sc.toNat i.toNat e = false) ∧ (∀ e ∈ t.xlt.fills, s.invalHits sc.toNat i.toNat e = false) ∧
      (∀ e ∈ s.xlt.caches, s.invalHits sc.toNat i.toNat e = false → e ∈ t.xlt.caches) ∧ s.frame t [.regs, .xlt] [XLT.BUSY, HDR.QUIESCED]) ∧
  (∀ (s : State) (r : Requester) (sc : BitVec 4) (i : BitVec 24) (b : Inval), s.regsOk → s.commands r xltPage → sc.toNat ≤ 5 → s.xlt.invalBusy = some b → s.xlt.invalQueue.length < 64 →
    ∃ t, exec (.xltInval r sc i) s = .next t ∧ t.xlt = { s.xlt with invalQueue := s.xlt.invalQueue ++ [⟨sc.toNat, i.toNat, .none⟩] } ∧ s.frame t [.regs, .xlt] [HDR.QUIESCED]) ∧
  (∀ (s : State) (r : Requester) (sc : BitVec 4) (i : BitVec 24) (b : Inval), s.regsOk → s.commands r xltPage → sc.toNat ≤ 5 → s.xlt.invalBusy = some b → 64 ≤ s.xlt.invalQueue.length →
    ∃ t, exec (.xltInval r sc i) s = .next t ∧ bit (t.rd xltPage HDR.ERR_STAT) 16 = true ∧ s.frame t reported (HDR.QUIESCED :: reportedFields)) ∧
  (∀ (s : State) (i : Inval), s.regsOk → s.xlt.invalBusy = some i → i.waiter = .none →
    ∃ t, exec .xltInvalComplete s = .next t ∧ t.get XLT.DONE_COUNT = (s.get XLT.DONE_COUNT + 1) % 2 ^ 16 ∧
      (s.xlt.invalQueue = [] → s.xlt.invalRetry = [] → t.xlt.invalBusy = none ∧ t.get XLT.BUSY = 0) ∧
      (∀ j q, s.xlt.invalQueue = j :: q → t.xlt.invalBusy = some j ∧ t.xlt.invalQueue = q ++ s.xlt.invalRetry.take 1 ∧ t.xlt.invalRetry = s.xlt.invalRetry.drop 1 ∧ t.get XLT.BUSY = 1) ∧ s.frame t [.regs, .xlt] [XLT.BUSY, XLT.DONE_COUNT]) ∧
  (∀ (s : State) (i : Inval) (e : Nat) (d : Extent), s.regsOk → s.xlt.invalBusy = some i → i.waiter = .extent e → tget s.xlt.extents e = some d →
    ∃ t, exec .xltInvalComplete s = .next t ∧ tget t.xlt.extents e = some (Extent.seal { d with state := .free }) ∧
      (t.ld d.port d.ld).fmRelease = ((s.ld d.port d.ld).fmRelease.filter fun x => x != e) ∧
      ((s.ld d.port d.ld).release = some [e] → (t.ld d.port d.ld).release = none ∧ t.out = s.out ++ s.releaseTold e d ++ [.mailbox d.port d.ld 0x4803 .success []]) ∧
      ((s.ld d.port d.ld).release = none → t.out = s.out ++ s.releaseTold e d) ∧
      (∀ l, (s.ld d.port d.ld).release = some l → (∃ x ∈ l, x ≠ e) → (∀ x, (∃ k, (t.ld d.port d.ld).release = some k ∧ x ∈ k) ↔ x ∈ l ∧ x ≠ e) ∧ t.out = s.out ++ s.releaseTold e d) ∧
      s.frame t [.regs, .xlt, .hp, .out] [XLT.BUSY, XLT.DONE_COUNT]) ∧
  (∀ (s : State) (i : Inval) (q c h : Nat), s.regsOk → s.xlt.invalBusy = some i → i.waiter = .create q c h →
    ∃ t, exec .xltInvalComplete s = .next t ∧ (∀ y ∈ s.qe.cmds, y.qid = q → y.cmdId = c → y.result = none → { y with result := some { okResult with result0 := h } } ∈ t.qe.cmds) ∧
      s.frame t [.regs, .xlt, .qe] [XLT.BUSY, XLT.DONE_COUNT]) ∧
  (∀ (s : State) (i : Inval) (q c r : Nat), s.regsOk → s.xlt.invalBusy = some i → i.waiter = .delete q c r →
    ∃ t, exec .xltInvalComplete s = .next t ∧ (∀ k b, tget t.xlt.bmap k = some b → k / 2 ^ 32 ≠ r) ∧ (∀ y ∈ t.qe.cmds, y.qid = q → y.cmdId = c → y.result.isSome = true) ∧ s.frame t ([.regs, .xlt, .hp, .qe, .tier, .pan, .dmc, .flm, .out] ++ reported) ([XLT.BUSY, XLT.DONE_COUNT, PAN.LOCKS_RELEASED, PAN.LOCK_LOST_CNT, PAN.WB_CNT] ++ reportedFields)) ∧
  (∀ (s : State) (r : Requester) (key : BitVec 32) (d : Registration), s.regsOk → s.commands r xltPage → s.registrationAt (keyIndex key.toNat) = d → d.gen = keyGen key.toNat →
    d.state = .opened → d.inflight ≠ 0 →
    ∃ t, exec (.xltRevoke r key) s = .next t ∧ t.registrationAt (keyIndex key.toNat) = { d with state := .closing, revokeStamp := s.timeNs } ∧ s.frame t [.regs, .xlt] [HDR.QUIESCED]) ∧
  (∀ (s : State) (r : Requester) (key : BitVec 32) (d : Registration), s.regsOk → s.commands r xltPage → s.registrationAt (keyIndex key.toNat) = d → d.gen = keyGen key.toNat →
    d.state = .opened → d.inflight = 0 →
    ∃ t, exec (.xltRevoke r key) s = .next t ∧ (t.registrationAt (keyIndex key.toNat)).state = .free ∧ (t.registrationAt (keyIndex key.toNat)).freedAt = some s.timeNs ∧
      s.frame t ([.xlt, .qe] ++ reported) (HDR.QUIESCED :: reportedFields)) ∧
  (∀ (s : State), s.regsOk → s.xlt.sweep = true → s.frozen = false → ∃ t, exec .registrationSweep s = .next t ∧ (∀ i, (t.registrationAt i).state ≠ .closing) ∧ t.xlt.sweep = false ∧ s.frame t ([.xlt, .qe] ++ reported) reportedFields) ∧
  (∀ (s : State) (w : Fin 4096) (d : WindowDesc), (∀ o, tget s.xlt.windows w.val = some o → o.valid = false) → s.flag HP.BOUND (w.val / 512) (w.val / 32 % 16) = true →
    s.get HP.TENANT (w.val / 512) (w.val / 32 % 16) = d.tenant.toNat → d.dpaBase.toNat % 2 ^ 28 = 0 → d.length.toNat % 2 ^ 28 = 0 →
    tget s.hp.decoders w.val = some (d.dpaBase.toNat, d.length.toNat) → d.foreign = false → s.bindOk d.tenant.toNat d.region.toNat d.regionOff.toNat d.length.toNat d.w = true →
    ∃ t, exec (.windowBind w d) s = .next t ∧
      tget t.xlt.windows w.val = some (windowSeal { d with valid := true, state := 1, regionGen := BitVec.ofNat 16 (s.regionAt d.region.toNat).gen }) ∧
      t.out = s.out ++ [.device "WINDOW_BIND" [w.val, Status.ok.code]] ∧ s.keptBut t [.xlt, .out]) ∧
  (∀ (s : State) (w : Fin 4096) (d : WindowDesc), d.foreign = false → s.bindOk d.tenant.toNat d.region.toNat d.regionOff.toNat d.length.toNat d.w = false →
    ∃ t, exec (.windowBind w d) s = .next t ∧ t.out = s.out ++ [.device "WINDOW_BIND" [w.val, Status.accessViolation.code]] ∧ s.keptBut t [.out]) ∧
  (∀ (s : State) (p : Port) (l : Ld) (n : Fin 32) (base len : BitVec 64),
    ∃ t, exec (.hdmDecoderCommit p l n base len) s = .next t ∧ tget t.hp.decoders (windowId p.val l.val n.val) = some (base.toNat, len.toNat) ∧ s.keptBut t [.hp]) ∧
  (∀ (s : State) (p : Port) (l : Ld) (n : Fin 32) (d : WindowDesc), s.regsOk → tget s.xlt.windows (windowId p.val l.val n.val) = some d → d.valid = true → d.state = 1 →
    s.xlt.invalBusy = none →
    ∃ t, exec (.hdmDecoderUncommit p l n) s = .next t ∧ tget t.hp.decoders (windowId p.val l.val n.val) = none ∧
      tget t.xlt.windows (windowId p.val l.val n.val) = some (windowSeal { d with state := 2 }) ∧
      t.xlt.invalBusy = some ⟨3, windowId p.val l.val n.val, .window (windowId p.val l.val n.val)⟩ ∧ s.frame t [.regs, .xlt, .hp] [XLT.BUSY]) ∧
  (∀ (s : State) (p : Port) (l : Ld) (es : List Nat) (e : Nat) (d : Extent), s.regsOk → s.presented p.val l.val = true → (s.ld p.val l.val).release = none → ((s.ldExtents p.val l.val).filter fun x => es.contains x.1) = [(e, d)] →
    tget s.xlt.extents e = some d → s.xlt.invalBusy = none →
    ∃ t, exec (.releaseDc p l es) s = .next t ∧ tget t.xlt.extents e = some (Extent.seal { d with state := .releasing, listed := false }) ∧
      t.xlt.invalBusy = some ⟨2, e, .extent e⟩ ∧ (t.ld p.val l.val).release = some [e] ∧ s.frame t [.regs, .xlt, .hp] [XLT.BUSY]) ∧
  (∀ (s : State) (p : Port) (l : Ld) (es : List Nat), s.presented p.val l.val = true → ((s.ldExtents p.val l.val).filter fun x => es.contains x.1) = [] →
    ∃ t, exec (.releaseDc p l es) s = .next t ∧ t.out = s.out ++ [.mailbox p.val l.val 0x4803 .invalidInput []] ∧ s.keptBut t [.out]) ∧
  (∀ (s : State) (p : Port) (l : Ld) (e : Nat) (d : Extent), s.regsOk → (e, d) ∈ s.ldExtents p.val l.val → tget s.xlt.extents e = some d → s.xlt.invalBusy = none →
    ∃ t, exec (.initiateDynamicCapacityRelease p l e) s = .next t ∧ tget t.xlt.extents e = some (Extent.seal { d with state := .releasing, listed := false }) ∧
      t.xlt.invalBusy = some ⟨2, e, .extent e⟩ ∧ (t.ld p.val l.val).fmRelease = (s.ld p.val l.val).fmRelease ++ [e] ∧ s.frame t [.regs, .xlt, .hp] [XLT.BUSY])

/-- Region operations and registrations from a queue: REGION_CREATE that the warden accepts writes a descriptor with the size asked for, the queue's tenant and the next GEN, and waits for the invalidation, whose end gives it its handle. REGION_GROW publishes the new size and waits for the invalidation. REGION_DELETE of a region that something names ends ABORTED; of any other it clears VALID and waits for the invalidation. REG_OPEN that is accepted leaves the registration OPEN with the range and rights asked for, and ends with its key. REVOKE of a key of the queue's tenant makes the registration CLOSING and waits, or ends OK with REFUSED when nothing is in flight. Each clause gives its frame. -/
def Obligations.RegionCommands : Prop :=
  (∀ (s : State) (qid : BitVec 20) (e : SqEntry) (c : QueueCtx) (x : QEntry) (u v : State) (id : BitVec 24) (size d0 d1 : BitVec 32) (dl : BitVec 20) (w : BitVec 4) (r : CmdResult), s.regsOk →
    s.fetches qid.toNat e c x u → x.cmd = .regionCreate id size d0 d1 dl w →
    (u.begun qid.toNat c (u.flight qid.toNat c x)).regionCreate c.tenant id.toNat size d0 d1 dl w = (v, r) → r.status = .ok → v.xlt.invalBusy = none →
    ∃ t d, exec (.regionCreate qid e) s = .next t ∧ u.flight qid.toNat c x ∈ t.qe.cmds ∧
      t.xlt.invalBusy = some ⟨0, r.result0 / 65536, .create qid.toNat x.cmdId.toNat r.result0⟩ ∧ tget t.xlt.regions (r.result0 / 65536) = some d ∧
      d.valid = true ∧ d.size = size.toNat ∧ d.tenant = c.tenant ∧ d.pclass = (d0.extractLsb' 28 2).toNat ∧ d.gen = r.result0 % 65536 ∧
      d.gen = ((u.regionAt (r.result0 / 65536)).gen + 1) % 65536 ∧ (id ≠ 0xFFFFFF → r.result0 / 65536 = id.toNat) ∧ s.frame t ([.xlt, .qe, .tier, .pan, .dmc] ++ reported) ([XLT.BUSY, PAN.HIT_CNT, PAN.MISS_CNT, PAN.WB_CNT] ++ reportedFields)) ∧
  (∀ (s : State) (qid : BitVec 20) (e : SqEntry) (c : QueueCtx) (x : QEntry) (u v w : State) (h : BitVec 40) (size : BitVec 32) (d : Region), s.regsOk →
    s.fetches qid.toNat e c x u → x.cmd = .regionGrow h size → (u.begun qid.toNat c (u.flight qid.toNat c x)).walkQueue c.tenant h 0 0 false = (v, .ok d) →
    v.regionGrow c.tenant (handleId h) size.toNat = (w, none) → w.xlt.invalBusy = none →
    ∃ t, exec (.regionGrow qid e) s = .next t ∧ (t.regionAt (handleId h)).size = size.toNat ∧
      t.xlt.invalBusy = some ⟨0, handleId h, .command qid.toNat x.cmdId.toNat⟩ ∧ u.flight qid.toNat c x ∈ t.qe.cmds ∧ s.frame t ([.xlt, .qe, .tier, .pan, .dmc] ++ reported) ([XLT.BUSY, PAN.HIT_CNT, PAN.MISS_CNT, PAN.WB_CNT] ++ reportedFields)) ∧
  (∀ (s : State) (qid : BitVec 20) (e : SqEntry) (c : QueueCtx) (x : QEntry) (u v : State) (h : BitVec 40) (d : Region), s.regsOk →
    s.fetches qid.toNat e c x u → x.cmd = .regionDelete h → (u.begun qid.toNat c (u.flight qid.toNat c x)).walkQueue c.tenant h 0 0 false = (v, .ok d) →
    v.regionNamed (handleId h) = false → v.xlt.invalBusy = none →
    ∃ t, exec (.regionDelete qid e) s = .next t ∧ (t.regionAt (handleId h)).valid = false ∧
      t.xlt.invalBusy = some ⟨0, handleId h, .delete qid.toNat x.cmdId.toNat (handleId h)⟩ ∧ u.flight qid.toNat c x ∈ t.qe.cmds ∧ s.frame t ([.xlt, .qe, .tier, .pan, .dmc] ++ reported) ([XLT.BUSY, PAN.HIT_CNT, PAN.MISS_CNT, PAN.WB_CNT] ++ reportedFields)) ∧
  (∀ (s : State) (qid : BitVec 20) (e : SqEntry) (c : QueueCtx) (x : QEntry) (u v : State) (h : BitVec 40) (d : Region), s.regsOk →
    s.fetches qid.toNat e c x u → x.cmd = .regionDelete h → (u.begun qid.toNat c (u.flight qid.toNat c x)).walkQueue c.tenant h 0 0 false = (v, .ok d) →
    v.regionNamed (handleId h) = true →
    ∃ t, exec (.regionDelete qid e) s = .next t ∧ t.xlt.regions = v.xlt.regions ∧ { u.flight qid.toNat c x with result := some (failResult .aborted) } ∈ t.qe.cmds ∧ s.frame t ([.xlt, .qe, .tier, .pan, .dmc] ++ reported) ([XLT.BUSY, PAN.HIT_CNT, PAN.MISS_CNT, PAN.WB_CNT] ++ reportedFields)) ∧
  (∀ (s : State) (qid : BitVec 20) (e : SqEntry) (c : QueueCtx) (x : QEntry) (u v z : State) (h : BitVec 40) (base len : BitVec 64) (w r any : Bool) (node : BitVec 18) (d : Region) (q : CmdResult),
    s.regsOk → s.fetches qid.toNat e c x u → x.cmd = .regOpen h base len w r any node →
    (u.begun qid.toNat c (u.flight qid.toNat c x)).walkQueue c.tenant h base.toNat len.toNat false = (v, .ok d) →
    v.regOpen c.tenant d (handleId h) base.toNat len.toNat w r any node.toNat = (z, q) → q.status = .ok →
    ∃ t g, exec (.regOpen qid e) s = .next t ∧ { u.flight qid.toNat c x with result := some q } ∈ t.qe.cmds ∧ tget t.xlt.registrations (keyIndex q.result0) = some g ∧
      g.state = .opened ∧ g.gen = keyGen q.result0 ∧ g.tenant = c.tenant ∧ g.region = handleId h ∧ g.baseOff = base.toNat ∧ g.length = len.toNat ∧ g.w = w ∧ g.r = r ∧ s.frame t ([.xlt, .qe, .tier, .pan, .dmc] ++ reported) ([PAN.HIT_CNT, PAN.MISS_CNT, PAN.WB_CNT] ++ reportedFields)) ∧
  (∀ (s : State) (qid : BitVec 20) (e : SqEntry) (c : QueueCtx) (x : QEntry) (u : State) (key : BitVec 32) (d : Registration), s.regsOk →
    s.fetches qid.toNat e c x u → x.cmd = .revoke key → u.registrationAt (keyIndex key.toNat) = d → d.tenant = c.tenant → d.gen = keyGen key.toNat → d.state = .opened → d.inflight ≠ 0 →
    ∃ t, exec (.revoke qid e) s = .next t ∧ t.registrationAt (keyIndex key.toNat) = { d with state := .closing, revokeStamp := s.timeNs } ∧ u.flight qid.toNat c x ∈ t.qe.cmds ∧ s.frame t ([.xlt, .qe, .tier, .pan, .dmc] ++ reported) ([PAN.HIT_CNT, PAN.MISS_CNT, PAN.WB_CNT] ++ reportedFields)) ∧
  (∀ (s : State) (qid : BitVec 20) (e : SqEntry) (c : QueueCtx) (x : QEntry) (u : State) (key : BitVec 32) (d : Registration), s.regsOk →
    s.fetches qid.toNat e c x u → x.cmd = .revoke key → u.registrationAt (keyIndex key.toNat) = d → d.tenant = c.tenant → d.gen = keyGen key.toNat → d.state = .opened → d.inflight = 0 →
    ∃ t, exec (.revoke qid e) s = .next t ∧ (t.registrationAt (keyIndex key.toNat)).state = .free ∧
      { u.flight qid.toNat c x with result := some { okResult with detail := d.refused } } ∈ t.qe.cmds ∧ s.frame t ([.xlt, .qe, .tier, .pan, .dmc] ++ reported) ([PAN.HIT_CNT, PAN.MISS_CNT, PAN.WB_CNT] ++ reportedFields))

/-- Host links: training, loss and resets, configuration requests, Mem_Enable, viral: A link of the port's bifurcation that trains to CXL shows its rate and width; one that trains as PCIe only also sets ALT_PROTO_FAIL. Link loss, hot reset and PERST discard the Cmps, forwards and read answers of the link's logical devices; loss and PERST clear its fields, hot reset and PERST reset the functions of the link, and PERST high lets it train again. FLR of a presented function discards its Cmps, forwards and read answers, clears its configuration, event logs and poison-list cursor, and nothing else of the device. Configuration requests of a function that is there get Request Retry Status until the ports are released, Mem_Enable and FLR among them; then the item's value; a BAR reads the bits above its size and its type; a function that is not presented, and the management function elsewhere than at its port's slot 0, answers nothing. Mem_Enable takes effect on a bound device only. Viral from the host is kept; viral of the port's own goes to every link of it that is up. Each clause gives its frame. -/
def Obligations.HostLinks : Prop :=
  (∀ (s : State) (p : Port) (k : Link) (flit mld : Bool) (rate : BitVec 4) (w : BitVec 5), s.regsOk → k.val < s.linkCount p.val → (s.link p.val k.val).perst = false →
    s.clk.pllDown.contains (6 + p.val) = false → rate.toNat ≤ s.get HP.MAX_RATE p.val → w.toNat ≤ s.linkLanes p.val → w ∈ [1, 2, 4, 8, 16] →
    ∃ t, exec (.linkTrainingDone p k true flit mld rate w) s = .next t ∧ t.flag HP.UP p.val k.val = true ∧ t.flag HP.CXL p.val k.val = true ∧
      t.get HP.FLIT256 p.val k.val = b2n flit ∧ t.get HP.MLD p.val k.val = b2n mld ∧ t.get HP.RATE p.val k.val = rate.toNat ∧ t.get HP.WIDTH p.val k.val = w.toNat ∧
      t.hp = { s.hp with infoValid := true } ∧ s.frame t [.regs, .hp] [HP.UP, HP.CXL, HP.FLIT256, HP.MLD, HP.RATE, HP.WIDTH, HP.BOUND]) ∧
  (∀ (s : State) (p : Port) (k : Link) (flit mld : Bool) (rate : BitVec 4) (w : BitVec 5), s.regsOk → k.val < s.linkCount p.val → (s.link p.val k.val).perst = false →
    s.clk.pllDown.contains (6 + p.val) = false → rate.toNat ≤ s.get HP.MAX_RATE p.val → w.toNat ≤ s.linkLanes p.val → w ∈ [1, 2, 4, 8, 16] →
    ∃ t, exec (.linkTrainingDone p k false flit mld rate w) s = .next t ∧ t.flag HP.UP p.val k.val = true ∧ t.flag HP.CXL p.val k.val = false ∧
      bit (t.rd (hpPage p.val) HDR.ERR_STAT) 17 = true ∧ s.frame t reported ([HP.CXL, HP.FLIT256, HP.MLD, HP.RATE, HP.UP, HP.WIDTH, HP.BOUND] ++ reportedFields)) ∧
  (∀ (s : State) (p : Port) (k : Link), s.regsOk → s.flag HP.UP p.val k.val = true →
    ∃ t, exec (.linkDown p k) s = .next t ∧ t.flag HP.UP p.val k.val = false ∧ bit (t.rd (hpPage p.val) HDR.ERR_STAT) 16 = true ∧
      t.hp.cmps = s.hp.cmps.filter (fun c => !(c.port == p.val && s.linkOf p.val c.ld == some k.val)) ∧ s.frame t ([.tier] ++ reported) ([HP.CXL, HP.FLIT256, HP.MLD, HP.RATE, HP.UP, HP.WIDTH] ++ reportedFields)) ∧
  (∀ (s : State) (p : Port) (k : Link), s.flag HP.UP p.val k.val = true →
    ∃ t, exec (.hotReset p k) s = .next t ∧ t.hp.cmps = s.hp.cmps.filter (fun c => !(c.port == p.val && s.linkOf p.val c.ld == some k.val)) ∧
      (∀ l, l < 16 → s.linkOf p.val l = some k.val → (t.ld p.val l).memEnable = false) ∧ s.keptBut t [.hp, .tier]) ∧
  (∀ (s : State) (p : Port) (k : Link), s.regsOk →
    ∃ t, exec (.perstAssert p k) s = .next t ∧ t.flag HP.UP p.val k.val = false ∧ t.link p.val k.val = { perst := true, viral := false } ∧
      t.hp.cmps = s.hp.cmps.filter (fun c => !(c.port == p.val && s.linkOf p.val c.ld == some k.val)) ∧ s.frame t [.regs, .hp, .tier] [HP.CXL, HP.FLIT256, HP.MLD, HP.RATE, HP.UP, HP.WIDTH]) ∧
  (∀ (s : State) (p : Port) (k : Link),
    ∃ t, exec (.perstDeassert p k) s = .next t ∧ t.link p.val k.val = { s.link p.val k.val with perst := false } ∧ s.keptBut t [.hp]) ∧
  (∀ (s : State) (p : Port) (l : Ld), s.hp.released = true → s.presented p.val l.val = true →
    ∃ t, exec (.flr p l) s = .next t ∧
      t.ld p.val l.val = { s.ld p.val l.val with memEnable := false, logs := noLd.logs, poisonCursor := 0, config := (s.ld p.val l.val).config.filter (fun e => 0x1000 ≤ e.1), alertConfig := 0, gpf := none } ∧
      tget t.hp.msix (fnKey p.val l.val false) = none ∧ t.hp.cmps = s.hp.cmps.filter (fun c => !(c.port == p.val && c.ld == l.val)) ∧ s.keptBut t [.hp, .tier]) ∧
  (∀ (s : State) (p : Port) (l : Ld) (m w : Bool) (i : ConfigItem) (d : BitVec 32), s.hp.released = false → s.responds p.val l.val m = true →
    ∃ t, exec (.configRequest p l m i w d) s = .next t ∧ t.out = s.out ++ [.cfg p.val l.val m true 0] ∧ s.keptBut t [.out]) ∧
  (∀ (s : State) (p : Port) (l : Ld) (m : Bool) (i : ConfigItem) (d : BitVec 32), s.hp.released = true → s.responds p.val l.val m = true →
    ∃ t, exec (.configRequest p l m i false d) s = .next t ∧ t.out = s.out ++ [.cfg p.val l.val m false (s.configValue p.val l.val m i)] ∧
      s.configValue p.val l.val m .vendorId = 0x1F3C ∧ s.configValue p.val l.val m .deviceId = 0x0960 ∧ s.keptBut t [.out]) ∧
  (∀ (s : State) (p : Port) (l : Ld) (m : Bool) (d : BitVec 32), s.hp.released = true → s.responds p.val l.val m = true →
    ∃ t, exec (.configRequest p l m .bar0 true d) s = .next t ∧ t.configValue p.val l.val m .bar0 = d.toNat / 2 ^ s.bar0Log m * 2 ^ s.bar0Log m + 4 ∧ s.keptBut t [.hp]) ∧
  (∀ (s : State) (p : Port) (l : Ld) (m w : Bool) (i : ConfigItem) (d : BitVec 32), s.responds p.val l.val m = false → exec (.configRequest p l m i w d) s = .next s) ∧
  (∀ (s : State) (p : Port) (l : Ld) (v : Bool), s.presented p.val l.val = false → exec (.flr p l) s = .next s ∧ exec (.memEnable p l v) s = .next s) ∧
  (∀ (s : State) (p : Port) (l : Ld) (v : Bool), s.presented p.val l.val = true → s.hp.released = false →
    exec (.flr p l) s = .next (s.emit (.cfg p.val l.val false true 0)) ∧ exec (.memEnable p l v) s = .next (s.emit (.cfg p.val l.val false true 0))) ∧
  (∀ (s : State) (p : Port) (l : Ld) (v : Bool), s.hp.released = true → s.presented p.val l.val = true → s.flag HP.BOUND p.val l.val = true →
    ∃ t, exec (.memEnable p l v) s = .next t ∧ t.ld p.val l.val = { s.ld p.val l.val with memEnable := v } ∧ s.keptBut t [.hp]) ∧
  (∀ (s : State) (p : Port) (l : Ld) (v : Bool), s.hp.released = true → s.flag HP.BOUND p.val l.val = false → exec (.memEnable p l v) s = .next s) ∧
  (∀ (s : State) (p : Port) (k : Link), s.regsOk → s.flag HP.UP p.val k.val = true → (s.link p.val k.val).viral = false →
    ∃ t, exec (.viralReceived p k false) s = .next t ∧ (t.link p.val k.val).viral = true ∧ s.frame t reported reportedFields) ∧
  (∀ (s : State) (p : Port) (k : Link), ∃ t, exec (.viralReceived p k true) s = .next t ∧
    t.out = s.out ++ ((List.range 4).filter fun i => s.flag HP.UP p.val i).map (fun i => .device "VIRAL" [p.val, i]) ∧ s.keptBut t [.out])

/-- CXL.mem: reads, writes, refusals, Cmps, forward timeouts, GPF: A read of a sector that a present unit holds is answered with its data or poison; one that no window or extent binds is answered with poison, counted and logged. A write that passes the walk and that TIER accepts waits for its Cmp, bound to its mirror record in class M only; a refused one changes no data and waits for its Cmp after its record. A Cmp is returned once nothing is left to wait for. MemInv and MemInvNT are answered with Cmp; MemSpecRd is answered with nothing. A forwarded write with no answer in time is freed for its Cmp, a read is answered with poison. GPF Phase 1 fixes the coverage point and completes; Phase 2 waits; it completes when nothing covered is open but what is fenced and nothing covered waits for resync, with a Failure record where something covered was fenced. Each clause gives its frame. -/
def Obligations.CxlMemAccesses : Prop :=
  (∀ (s : State) (p : Port) (l : Ld) (dpa : BitVec 64) (tag : BitVec 16) (x : Target) (w : Nat) (k : XKey) (a : Access) (o u v z : State) (d : Region) (pl : Place64) (r : SectorVal), s.regsOk →
    s.linkLive p.val l.val = true → s.cxlTarget p.val l.val dpa.toNat = some x → s.targetCheck x (dpa.toNat / 64 * 64) = (o, .ok (.local w k a)) → o.checks a .host false = (u, .ok d) →
    u.resolve a.region d a.off = (v, .ok pl) → v.inactive = false →
    v.readStart { place := pl, who := .cxl p.val l.val tag.toNat, tenant := a.tenant, train := some (.ld (Fin.ofNat 8 p.val) (Fin.ofNat 16 l.val)), window := w, dpa := dpa.toNat } = (z, some (.value r .ok)) →
    z.serves d.grp = true →
    ∃ t dl, exec (.memrd p l dpa tag) s = .next t ∧ exec (.memrddata p l dpa tag) s = .next t ∧
      t.out = z.out ++ [.cxl p.val l.val (.memData tag.toNat (if r.poison then { data := 0, poison := true } else r)) dl] ∧ s.frame t ([.xlt, .qe, .tier, .pan, .twn, .cmn, .dmc, .flm] ++ reported) ([CME.VIOL_TX, CMP.TX_FRAMES, HP.POISON_CNT, HP.REFUSE_CNT, MOV.FAULT_CNT, MOV.LAST_FCLASS, MOV.LAST_FOFF, MOV.LAST_STATUS, PAN.HIT_CNT, PAN.MISS_CNT, PAN.WB_CNT, TIER.MISSED, TIER.ON_TIME, TIER.QUOTA_REFUSE, TIER.SLOW_PATH, TIER.SUBST, XLT.BUSY] ++ reportedFields)) ∧
  (∀ (s : State) (p : Port) (l : Ld) (dpa : BitVec 64) (tag : BitVec 16), s.regsOk → s.linkLive p.val l.val = true → s.cxlTarget p.val l.val dpa.toNat = none →
    ∃ t dl, exec (.memrddata p l dpa tag) s = .next t ∧ exec (.memrd p l dpa tag) s = .next t ∧ t.out.getLast? = some (.cxl p.val l.val (.memData tag.toNat poisonSec) dl) ∧
      t.get HP.REFUSE_CNT p.val = satAdd 32 (s.get HP.REFUSE_CNT p.val) 1 % 2 ^ 32 ∧ s.frame t ([.xlt, .qe, .tier, .pan, .twn, .cmn, .dmc, .flm] ++ reported) ([CME.VIOL_TX, CMP.TX_FRAMES, HP.POISON_CNT, HP.REFUSE_CNT, MOV.FAULT_CNT, MOV.LAST_FCLASS, MOV.LAST_FOFF, MOV.LAST_STATUS, PAN.HIT_CNT, PAN.MISS_CNT, PAN.WB_CNT, TIER.MISSED, TIER.ON_TIME, TIER.QUOTA_REFUSE, TIER.SLOW_PATH, TIER.SUBST, XLT.BUSY] ++ reportedFields)) ∧
  (∀ (s : State) (p : Port) (l : Ld) (dpa : BitVec 64) (x : Target) (w : Nat) (k : XKey) (a : Access) (o u v : State) (d : Region) (pl : Place64), s.regsOk →
    s.linkLive p.val l.val = true → s.inactive = false → s.cxlTarget p.val l.val dpa.toNat = some x → s.targetCheck x (dpa.toNat / 64 * 64) = (o, .ok (.local w k a)) → o.checks a .host false = (u, .ok d) →
    u.resolve a.region d a.off = (v, .ok pl) → pl.bme.zero = false → v.block (pbnOf pl.sector) = none → 0 < v.freeFrames →
    ∃ t b, exec (.memspecrd p l dpa) s = .next t ∧ t.block (pbnOf pl.sector) = some b ∧ b.state = .rising ∧ s.frame t ([.xlt, .tier, .pan, .dmc, .flm] ++ reported) ([PAN.WB_CNT] ++ reportedFields)) ∧
  (∀ (s : State) (p : Port) (l : Ld) (dpa : BitVec 64) (tag : BitVec 16), s.linkLive p.val l.val = true →
    ∃ t dl, exec (.meminv p l dpa tag) s = .next t ∧ exec (.meminvnt p l dpa tag) s = .next t ∧ t.out = s.out ++ [.cxl p.val l.val (.cmp tag.toNat) dl] ∧ s.keptBut t [.out]) ∧
  (∀ (s : State) (p : Port) (l : Ld) (dpa : BitVec 64) (tag : BitVec 16), s.linkLive p.val l.val = true →
    ∃ t, exec (.meminvnt p l dpa tag) s = .next t ∧ t.out = s.out ++ [.cxl p.val l.val (.cmp tag.toNat) (s.devLoad p.val l.val)] ∧ s.keptBut t [.out]) ∧
  (∀ (s : State) (p : Port) (l : Ld) (dpa : BitVec 64) (data : Sector) (en : BitVec 64) (tag : BitVec 16) (x : Target) (k w : Nat) (y : XKey) (a : Access) (o u v z : State) (d : Region) (pl : Place64) (m : Option Nat), s.regsOk →
    s.linkLive p.val l.val = true → s.inactive = false → s.linkOf p.val l.val = some k → (s.link p.val k).viral = false →
    s.cxlTarget p.val l.val dpa.toNat = some x → s.targetCheck x (dpa.toNat / 64 * 64) = (o, .ok (.local w y a)) → o.checks a .host true = (u, .ok d) → u.resolve a.region d a.off = (v, .ok pl) →
    v.twn.handoff.contains d.grp = false → (v.tier.held.any fun x => x.src == .port (Fin.ofNat 8 p.val)) = false →
    v.tryWrite { tenant := a.tenant, place := pl, data := data, enable := en, poison := false, alloc := true, whole := false, port := some (p.val, l.val) } = (z, .accepted m) →
    ∃ t, exec (.memwrptl p l dpa data en false tag) s = .next t ∧ (en = BitVec.allOnes 64 → exec (.memwr p l dpa data false tag) s = .next t) ∧
      (∃ c, t.hp.cmps = z.hp.cmps ++ [c] ∧ c.port = p.val ∧ c.ld = l.val ∧ c.tag = tag.toNat ∧ c.held = false ∧ c.mirror = if d.pclass = 0 then m else none) ∧ t.tier = z.tier ∧ s.frame t ([.xlt, .tier, .pan, .twn, .cmn, .dmc, .flm] ++ reported) ([CMP.TX_FRAMES, HP.POISON_CNT, HP.REFUSE_CNT, PAN.WB_CNT, TIER.QUOTA_REFUSE, XLT.BUSY] ++ reportedFields)) ∧
  (∀ (s : State) (p : Port) (l : Ld) (dpa : BitVec 64) (data : Sector) (tag : BitVec 16) (x : Target) (k w : Nat) (y : XKey) (a : Access) (o u : State) (st : Status), s.regsOk →
    s.linkLive p.val l.val = true → s.inactive = false → s.linkOf p.val l.val = some k → (s.link p.val k).viral = false →
    s.cxlTarget p.val l.val dpa.toNat = some x → s.targetCheck x (dpa.toNat / 64 * 64) = (o, .ok (.local w y a)) → o.checks a .host true = (u, .error st) →
    ∃ t, exec (.memwr p l dpa data false tag) s = .next t ∧ (∃ c, c ∈ t.hp.cmps ∧ c.port = p.val ∧ c.ld = l.val ∧ c.tag = tag.toNat ∧ c.held = false ∧ c.mirror = none) ∧
      t.tier = s.tier ∧ t.mem = s.mem ∧ t.flm = s.flm ∧ t.pan = s.pan ∧ t.get HP.REFUSE_CNT p.val = satAdd 32 (u.get HP.REFUSE_CNT p.val) 1 % 2 ^ 32 ∧ s.frame t ([.xlt, .tier, .pan, .twn, .cmn, .dmc, .flm] ++ reported) ([CMP.TX_FRAMES, HP.POISON_CNT, HP.REFUSE_CNT, PAN.WB_CNT, TIER.QUOTA_REFUSE, XLT.BUSY] ++ reportedFields)) ∧
  (∀ (s : State) (p : Port) (l : Ld) (tag : BitVec 16) (c : CmpWait) (rest : List CmpWait),
    takeFirst s.hp.cmps (fun c => c.port == p.val && c.ld == l.val && c.tag == tag.toNat && !c.held && c.foreign.isNone && !s.mirrorOpen c.mirror) = some (c, rest) →
    ∃ t dl, exec (.memwrCmp p l tag) s = .next t ∧ t.hp.cmps = rest ∧ t.out = s.out ++ [.cxl p.val l.val (.cmp tag.toNat) dl] ∧ s.keptBut t [.hp, .out]) ∧
  (∀ (s : State) (p : Port) (l : Ld) (tag : BitVec 16) (f : Forward), s.regsOk → (s.hp.forwards.find? fun f => f.port == p.val && f.ld == l.val && f.tag == tag.toNat) = some f → f.read = true →
    ∃ t dl, exec (.hpFwdTimeout p l tag) s = .next t ∧ (∀ g ∈ t.hp.forwards, ¬ (g.port = p.val ∧ g.ld = l.val ∧ g.tag = tag.toNat)) ∧
      t.out.getLast? = some (.cxl p.val l.val (.memData tag.toNat poisonSec) dl) ∧ s.frame t ([.xlt, .cmn] ++ reported) ([CMP.TX_FRAMES, HP.POISON_CNT, HP.REFUSE_CNT, XLT.BUSY] ++ reportedFields)) ∧
  (∀ (s : State) (p : Port) (l : Ld), s.linkLive p.val l.val = true →
    ∃ t dl g, exec (.gpfPhase1 p l) s = .next t ∧ (t.ld p.val l.val).gpf = some g ∧ g.phase2 = false ∧ g.covered = (s.twn.replay.filter fun m => !m.acked && m.port == some (p.val, l.val)).map MirrorRec.id ∧
      g.id = s.qe.nextBarrier ∧ t.qe = { s.qe with nextBarrier := s.qe.nextBarrier + 1 } ∧ t.out = s.out ++ [.cxl p.val l.val .gpf1Done dl] ∧ s.keptBut t [.hp, .qe, .out]) ∧
  (∀ (s : State) (p : Port) (l : Ld), s.linkLive p.val l.val = true →
    ∃ t, exec (.gpfPhase2 p l) s = .next t ∧ (∀ g, (s.ld p.val l.val).gpf = some g → (t.ld p.val l.val).gpf = some { g with phase2 := true } ∧ t.qe = s.qe) ∧
      ((s.ld p.val l.val).gpf = none → ∃ g, (t.ld p.val l.val).gpf = some g ∧ g.phase2 = true ∧ g.id = s.qe.nextBarrier ∧
        g.covered = (s.twn.replay.filter fun m => !m.acked && m.port == some (p.val, l.val)).map MirrorRec.id) ∧ s.keptBut t [.hp, .qe]) ∧
  (∀ (s : State) (p : Port) (l : Ld) (g : Gpf), s.regsOk → (s.ld p.val l.val).gpf = some g → g.phase2 = true →
    (∀ r ∈ s.twn.replay, g.covered.contains r.id = true → r.acked = false → s.serves r.grp = false) → s.rsmWaits g.blocks = false → s.barrierBefore g.id g.regions = false →
    ∃ t dl, exec (.gpfPhase2Complete p l) s = .next t ∧ (t.ld p.val l.val).gpf = none ∧ t.out.getLast? = some (.cxl p.val l.val .gpf2Done dl) ∧ 
      (g.fenced = true → 2 < (s.ld p.val l.val).logs.length → ((s.ld p.val l.val).logs.getD 2 noLog).records.length < 64 →
        ∃ e ∈ ((t.ld p.val l.val).logs.getD 2 noLog).records, e.kind = "Fenced" ∧ e.memModule = true) ∧ s.frame t reported reportedFields)

/-- Primary mailbox: event logs, policies, time, health, alerts, poison: Every command of Table 4-12 to a presented function answers as the table says, and changes nothing on a slot that is not presented. Records named by handle leave their log, and with room again its overflow flag and count clear. The interrupt policy, the record time offset and the alert configuration are stored and read back. Transfer FW and Activate FW answer Unsupported. Get Health Info gives the states of Table 4-7. The poison list is given from its cursor on. Inject Poison answers Unsupported unless injection is enabled; Clear Poison of a sector that can be written writes the data and takes the address off the list, and one whose write is held waits among the writes of its port. Each clause gives its frame. -/
def Obligations.MailboxLogs : Prop :=
  (∀ (s : State) (p : Port) (l : Ld) (g : EvLog), s.presented p.val l.val = true →
    ∃ t vals, exec (.getEventRecords p l g) s = .next t ∧ t.out = s.out ++ [.mailbox p.val l.val 0x0100 .success vals] ∧
      vals.take 3 = [b2n ((s.ld p.val l.val).logs.getD g.ix noLog).overflow, ((s.ld p.val l.val).logs.getD g.ix noLog).lost, ((s.ld p.val l.val).logs.getD g.ix noLog).records.length] ∧ s.keptBut t [.out]) ∧
  (∀ (s : State) (p : Port) (l : Ld) (g : EvLog) (hs : List (BitVec 16)), s.presented p.val l.val = true →
    g.ix < (s.ld p.val l.val).logs.length →
    ∃ t, exec (.clearEventRecords p l g hs) s = .next t ∧
      (∀ e, e ∈ ((t.ld p.val l.val).logs.getD g.ix noLog).records ↔ e ∈ ((s.ld p.val l.val).logs.getD g.ix noLog).records ∧ ∀ h ∈ hs, h.toNat ≠ e.handle) ∧
      t.out = s.out ++ [.mailbox p.val l.val 0x0101 .success []] ∧ s.keptBut t [.hp, .out]) ∧
  (∀ (s : State) (p : Port) (l : Ld), s.presented p.val l.val = true →
    ∃ t, exec (.getEventInterruptPolicy p l) s = .next t ∧
      t.out = s.out ++ [.mailbox p.val l.val 0x0102 .success ((s.ld p.val l.val).logs.flatMap fun g => [b2n g.intEnable, g.vector])] ∧ s.keptBut t [.out]) ∧
  (∀ (s : State) (p : Port) (l : Ld) (g : EvLog) (en : Bool) (v : BitVec 11), s.presented p.val l.val = true →
    g.ix < (s.ld p.val l.val).logs.length →
    ∃ t, exec (.setEventInterruptPolicy p l g en v) s = .next t ∧
      (t.ld p.val l.val).logs.getD g.ix noLog = { (s.ld p.val l.val).logs.getD g.ix noLog with intEnable := en, vector := v.toNat } ∧
      t.out = s.out ++ [.mailbox p.val l.val 0x0103 .success []] ∧ s.keptBut t [.hp, .out]) ∧
  (∀ (s : State) (p : Port) (l : Ld), s.presented p.val l.val = true →
    ∃ t, exec (.getFwInfo p l) s = .next t ∧
      t.out = s.out ++ [.mailbox p.val l.val 0x0200 .success [s.get WDN.WDN_SLOT, s.get WDN.SVC_BANK, s.get WDN.SVN_WDN, s.get WDN.SVN_SVC]] ∧ s.keptBut t [.out]) ∧
  (∀ (s : State) (p : Port) (l : Ld), s.presented p.val l.val = true →
    ∃ t, exec (.transferFw p l) s = .next t ∧ t.out = s.out ++ [.mailbox p.val l.val 0x0201 .unsupported []] ∧ s.keptBut t [.out]) ∧
  (∀ (s : State) (p : Port) (l : Ld), s.presented p.val l.val = true →
    ∃ t, exec (.activateFw p l) s = .next t ∧ t.out = s.out ++ [.mailbox p.val l.val 0x0202 .unsupported []] ∧ s.keptBut t [.out]) ∧
  (∀ (s : State) (p : Port) (l : Ld), s.presented p.val l.val = true →
    ∃ t, exec (.getTimestamp p l) s = .next t ∧
      t.out = s.out ++ [.mailbox p.val l.val 0x0300 .success [((s.timeNs : Int) + (s.ld p.val l.val).timeOffset).toNat]] ∧ s.keptBut t [.out]) ∧
  (∀ (s : State) (p : Port) (l : Ld) (v : BitVec 64), s.presented p.val l.val = true →
    ∃ t, exec (.setTimestamp p l v) s = .next t ∧ (s.timeNs : Int) + (t.ld p.val l.val).timeOffset = v.toNat ∧ t.timeNs = s.timeNs ∧
      t.out = s.out ++ [.mailbox p.val l.val 0x0301 .success []] ∧ s.keptBut t [.hp, .out]) ∧
  (∀ (s : State) (p : Port) (l : Ld), s.presented p.val l.val = true →
    ∃ t, exec (.getHealthInfo p l) s = .next t ∧ s.keptBut t [.out] ∧
      t.out = s.out ++ [.mailbox p.val l.val 0x4200 .success (match s.mediaState with
        | .restoring | .harvest => [1, 0, s.get FTL.LIFE_USED_PCT ftlPage.inst]
        | .paired => [0, 0, s.get FTL.LIFE_USED_PCT ftlPage.inst]
        | .solo | .fenced => [0, 1, s.get FTL.LIFE_USED_PCT ftlPage.inst]
        | .readOnly => [0, 2, 100])]) ∧
  (∀ (s : State) (p : Port) (l : Ld), s.presented p.val l.val = true →
    ∃ t, exec (.getAlertConfig p l) s = .next t ∧ t.out = s.out ++ [.mailbox p.val l.val 0x4201 .success [(s.ld p.val l.val).alertConfig.toNat]] ∧ s.keptBut t [.out]) ∧
  (∀ (s : State) (p : Port) (l : Ld) (v : BitVec 96), s.presented p.val l.val = true →
    ∃ t, exec (.setAlertConfig p l v) s = .next t ∧ (t.ld p.val l.val).alertConfig = v ∧
      t.out = s.out ++ [.mailbox p.val l.val 0x4202 .success []] ∧ s.keptBut t [.hp, .out]) ∧
  (∀ (s : State) (p : Port) (l : Ld), s.presented p.val l.val = true →
    ∃ t vals, exec (.getPoisonList p l) s = .next t ∧ t.out = s.out ++ [.mailbox p.val l.val 0x4300 .success vals] ∧
      vals.take 2 = [b2n (s.ld p.val l.val).poisonOverflow.isSome, b2n (s.ld p.val l.val).poisonOverflow.isSome] ∧ vals.drop 4 = (s.ld p.val l.val).poison.drop (s.ld p.val l.val).poisonCursor ∧ t.ld p.val l.val = { s.ld p.val l.val with poisonCursor := 0 } ∧ s.keptBut t [.hp, .out]) ∧
  (∀ (s : State) (p : Port) (l : Ld) (dpa : BitVec 64), s.presented p.val l.val = true →
    s.hp.injectEnabled = false →
    ∃ t, exec (.injectPoison p l dpa) s = .next t ∧ t.out = s.out ++ [.mailbox p.val l.val 0x4301 .unsupported []] ∧ s.keptBut t [.dmc, .flm, .out]) ∧
  (∀ (s : State) (p : Port) (l : Ld) (dpa : BitVec 64) (u : State) (m : Option Nat), s.presented p.val l.val = true →
    s.regsOk → s.hp.injectEnabled = true → s.mbWrite p.val l.val 0x4301 dpa.toNat none true = (u, .accepted m) →
    (u.ld p.val l.val).poison.length < 1024 →
    ∃ t, exec (.injectPoison p l dpa) s = .next t ∧ dpa.toNat ∈ (t.ld p.val l.val).poison ∧ t.tier = u.tier ∧ t.out = u.out ++ [.mailbox p.val l.val 0x4301 .success []] ∧ s.frame t ([.xlt, .tier, .pan, .twn, .dmc, .flm] ++ reported) ([PAN.WB_CNT, TIER.QUOTA_REFUSE] ++ reportedFields)) ∧
  (∀ (s : State) (p : Port) (l : Ld) (dpa : BitVec 64) (data : Sector) (u : State) (m : Option Nat), s.presented p.val l.val = true →
    s.regsOk → s.mbWrite p.val l.val 0x4302 dpa.toNat (some data) false = (u, .accepted m) →
    ∃ t, exec (.clearPoison p l dpa data) s = .next t ∧ (∀ a ∈ (t.ld p.val l.val).poison, a / 64 ≠ dpa.toNat / 64) ∧ t.tier = u.tier ∧
      t.out = u.out ++ [.mailbox p.val l.val 0x4302 .success []] ∧ s.frame t ([.xlt, .tier, .pan, .twn, .dmc, .flm] ++ reported) ([PAN.WB_CNT, TIER.QUOTA_REFUSE] ++ reportedFields)) ∧
  (∀ (s : State) (p : Port) (l : Ld) (dpa : BitVec 64) (data : Sector) (u : State) (why : HoldWhy), s.regsOk → s.presented p.val l.val = true → s.mbWrite p.val l.val 0x4302 dpa.toNat (some data) false = (u, .held why) →
    ∃ t, exec (.clearPoison p l dpa data) s = .next t ∧ t = u ∧ (∃ w, t.tier.held.getLast? = some w ∧ w.who = .mailbox p.val l.val 0x4302 ∧ w.data = data ∧ w.why = why) ∧
      s.frame t ([.xlt, .tier, .pan, .twn, .dmc, .flm] ++ reported) ([PAN.WB_CNT, TIER.QUOTA_REFUSE] ++ reportedFields)) ∧
  (∀ (s : State) (p : Port) (l : Ld) (g : EvLog) (hs : List (BitVec 16)) (en cel : Bool) (v : BitVec 11) (ts dpa : BitVec 64) (al : BitVec 96) (data : Sector) (es : List Nat) (o : BitVec 16),
    s.presented p.val l.val = false → ∀ c ∈ [Instr.getEventRecords p l g, .clearEventRecords p l g hs, .getEventInterruptPolicy p l, .setEventInterruptPolicy p l g en v, .getFwInfo p l, .transferFw p l,
      .activateFw p l, .getTimestamp p l, .setTimestamp p l ts, .getSupportedLogs p l, .getLog p l cel, .identifyMemoryDevice p l, .getPartitionInfo p l, .getHealthInfo p l, .getAlertConfig p l,
      .setAlertConfig p l al, .getPoisonList p l, .injectPoison p l dpa, .clearPoison p l dpa data, .getDcConfig p l, .getDcExtentList p l, .addDcResponse p l es, .releaseDc p l es, .mailboxUnsupported p l o],
    exec c s = .next s)

/-- Mailbox: logs and capacity, Dynamic Capacity, LD allocations: Get Supported Logs and Get Log give the Command Effects Log and refuse any other; the capacity commands report the allocation as persistent only. Get DC Configuration and Get DC Extent List give the device's DC regions and ACTIVE extents. Add DC Response marks the extents accepted and releases one that is not. An opcode outside Table 4-12 answers Unsupported. Set LD Allocations is refused where a window or extent lies in the range cut, else stored. An added extent that meets the rules is ACTIVE before it is reported. Each clause gives its frame. -/
def Obligations.MailboxCapacity : Prop :=
  (∀ (s : State) (p : Port) (l : Ld), s.presented p.val l.val = true →
    ∃ t, exec (.getSupportedLogs p l) s = .next t ∧ t.out = s.out ++ [.mailbox p.val l.val 0x0400 .success [1]] ∧ s.keptBut t [.out]) ∧
  (∀ (s : State) (p : Port) (l : Ld) (cel : Bool), s.presented p.val l.val = true →
    ∃ t, exec (.getLog p l cel) s = .next t ∧ s.keptBut t [.out] ∧
      t.out = s.out ++ [if cel then .mailbox p.val l.val 0x0401 .success celOpcodes else .mailbox p.val l.val 0x0401 .invalidInput []]) ∧
  (∀ (s : State) (p : Port) (l : Ld), s.presented p.val l.val = true →
    ∃ t, exec (.identifyMemoryDevice p l) s = .next t ∧ s.keptBut t [.out] ∧
      t.out = s.out ++ [.mailbox p.val l.val 0x4000 .success [(s.ld p.val l.val).allocUnits * 2 ^ 28, 0, (s.ld p.val l.val).allocUnits * 2 ^ 28]]) ∧
  (∀ (s : State) (p : Port) (l : Ld), s.presented p.val l.val = true →
    ∃ t, exec (.getPartitionInfo p l) s = .next t ∧ s.keptBut t [.out] ∧
      t.out = s.out ++ [.mailbox p.val l.val 0x4100 .success [0, (s.ld p.val l.val).allocUnits * 2 ^ 28]]) ∧
  (∀ (s : State) (p : Port) (l : Ld), s.presented p.val l.val = true →
    ∃ t, exec (.getDcConfig p l) s = .next t ∧ s.keptBut t [.out] ∧
      t.out = s.out ++ [.mailbox p.val l.val 0x4800 .success ((s.ld p.val l.val).dcRegions.flatMap fun e => [e.1, e.2.1, e.2.2, 2 ^ 21])]) ∧
  (∀ (s : State) (p : Port) (l : Ld), s.presented p.val l.val = true →
    ∃ t, exec (.getDcExtentList p l) s = .next t ∧ s.keptBut t [.out] ∧
      t.out = s.out ++ [.mailbox p.val l.val 0x4801 .success ((s.xlt.extents.filter fun e => e.2.port = p.val ∧ e.2.ld = l.val ∧ e.2.state = .active).flatMap fun e => [e.1, e.2.dpaBase, e.2.length])]) ∧
  (∀ (s : State) (p : Port) (l : Ld) (acc : List Nat) (e : Nat) (d : Extent), s.presented p.val l.val = true →
    s.regsOk → ((s.ldExtents p.val l.val).filter fun x => !x.2.reported) = [(e, d)] → tget s.xlt.extents e = some d →
    s.xlt.invalBusy = none →
    ∃ t, exec (.addDcResponse p l acc) s = .next t ∧ t.out = s.out ++ [.mailbox p.val l.val 0x4802 .success []] ∧
      tget t.xlt.extents e = some (if acc.contains e then { d with reported := true } else Extent.seal { d with state := .releasing, listed := false }) ∧
      (acc.contains e = false → t.xlt.invalBusy = some ⟨2, e, .extent e⟩) ∧ s.frame t [.regs, .xlt, .out] [XLT.BUSY]) ∧
  (∀ (s : State) (p : Port) (l : Ld) (o : BitVec 16), s.presented p.val l.val = true →
    mailboxOpcodes.contains o.toNat = false →
    ∃ t, exec (.mailboxUnsupported p l o) s = .next t ∧ t.out = s.out ++ [.mailbox p.val l.val o.toNat .unsupported []] ∧ s.keptBut t [.out]) ∧
  (∀ (s : State) (p : Port) (l : Ld) (n : Nat), ((s.ld p.val l.val).allocUnits ≤ n ∨
      (∀ k d, k < 32 → tget s.xlt.windows (windowId p.val l.val k) = some d → d.valid = true → d.state = 1 → d.dpaBase.toNat + d.length.toNat ≤ n * 2 ^ 28) ∧
      (∀ e ∈ s.ldExtents p.val l.val, e.2.dpaBase + e.2.length ≤ n * 2 ^ 28)) → (s.flag HP.BOUND p.val l.val = true → n * 4096 ≤ (s.quota (s.get HP.TENANT p.val l.val)).t2Quota) →
    ∃ t, exec (.setLdAllocations p l n) s = .next t ∧ (t.ld p.val l.val).allocUnits = n ∧ t.out = s.out ++ [.fm "SET_LD_ALLOCATIONS" .success [n]] ∧ s.keptBut t [.hp, .out]) ∧
  (∀ (s : State) (p : Port) (l : Ld) (n k : Nat) (d : WindowDesc), k < 32 → tget s.xlt.windows (windowId p.val l.val k) = some d → d.valid = true → d.state = 1 → n < (s.ld p.val l.val).allocUnits → n * 2 ^ 28 < d.dpaBase.toNat + d.length.toNat →
    ∃ t, exec (.setLdAllocations p l n) s = .next t ∧ t.out = s.out ++ [.fm "SET_LD_ALLOCATIONS" .invalidInput []] ∧ s.keptBut t [.out]) ∧
  (∀ (s : State) (p : Port) (l : Ld) (e : Nat) (d : ExtentReq), e < 262144 → tget s.xlt.extents e = none → s.flag HP.BOUND p.val l.val = true →
    (∃ r ∈ (s.ld p.val l.val).dcRegions, r.2.1 ≤ d.dpaBase.toNat ∧ d.dpaBase.toNat + d.length.toNat ≤ r.2.1 + r.2.2) →
    (∀ x ∈ s.ldExtents p.val l.val, x.2.dpaBase + x.2.length ≤ d.dpaBase.toNat ∨ d.dpaBase.toNat + d.length.toNat ≤ x.2.dpaBase) →
    d.dpaBase.toNat % 2 ^ 21 = 0 → d.length.toNat % 2 ^ 21 = 0 → 0 < d.length.toNat →
    s.bindOk (s.get HP.TENANT p.val l.val) d.region.toNat d.regionOff.toNat d.length.toNat d.w = true →
    ∃ t x, exec (.initiateDynamicCapacityAdd p l e d) s = .next t ∧ tget t.xlt.extents e = some x ∧ x.state = .active ∧ x.listed = true ∧ x.tenant = s.get HP.TENANT p.val l.val ∧
      x.dpaBase = d.dpaBase.toNat ∧ x.length = d.length.toNat ∧ x.region = d.region.toNat ∧ x.checkOk = true ∧
      t.out = s.out ++ [.device "DC_ADD_CAPACITY" [p.val, l.val, e, d.dpaBase.toNat, d.length.toNat], .fm "INITIATE_DYNAMIC_CAPACITY_ADD" .success [e]] ∧ s.keptBut t [.xlt, .out])

/-- Doorbells, notification and QE_QCTL: A tail below the ring depth becomes SQ_TAIL; one that is not puts the queue in ERROR with reason 1. A head in range becomes CQ_HEAD, and ARM arms the queue when nothing is left unread, else notifies at once. A write to an unmapped doorbell page is counted, and a read of one answers 0; a read of a mapped page gives a queue's ERR_REASON and STATE or a flush doorbell's ISSUED and DONE, one of the status page its words. A write of 4 or 8 bytes to a flush doorbell of the tenant's region issues a barrier and counts ISSUED; any other counts as a refusal. The coalescing limit notifies and disarms. ENABLE resets the pointers and makes the queue ACTIVE where the warden's conditions on the ring hold, PAUSE pauses an ACTIVE queue, RESET and DISABLE wait for INFLIGHT = 0, and their ends re-enable it where its ring is still right, or disable it; DISABLE does nothing to a queue in ERROR. Each clause gives its frame. -/
def Obligations.QueueDoorbells : Prop :=
  (∀ (s : State) (p : Port) (l : Ld) (g : BitVec 20) (v : BitVec 16) (q : Nat) (c : QueueCtx), s.dbQueue p.val l.val g.toNat = some (q, c) → c.checkOk = true → v.toNat < c.sqDepth →
    ∃ t, exec (.sqDoorbell p l g v) s = .next t ∧ t.queue q = some { c with sqTail := v.toNat } ∧ (∀ k, k ≠ q → t.queue k = s.queue k) ∧ s.keptBut t [.qe]) ∧
  (∀ (s : State) (p : Port) (l : Ld) (g : BitVec 20) (v : BitVec 16) (q : Nat) (c : QueueCtx), s.regsOk → s.dbQueue p.val l.val g.toNat = some (q, c) → c.checkOk = true →
    c.sqDepth ≤ v.toNat → c.state ≠ .error →
    ∃ t, exec (.sqDoorbell p l g v) s = .next t ∧ t.queue q = some { c with state := .error, errReason := 1 } ∧ s.frame t ([.qe] ++ reported) ([QE.QE_DB_DROP] ++ reportedFields)) ∧
  (∀ (s : State) (p : Port) (l : Ld) (g : BitVec 20) (v : BitVec 16) (arm : Bool) (q : Nat) (c : QueueCtx), s.dbQueue p.val l.val g.toNat = some (q, c) → c.checkOk = true →
    v.toNat < c.cqDepth → (v.toNat + c.cqDepth - c.cqHead) % c.cqDepth ≤ c.cqUsed →
    ∃ t, exec (.cqDoorbell p l g v arm) s = .next t ∧
      t.queue q = some { c with cqHead := v.toNat, armed := if arm then ({ c with cqHead := v.toNat } : QueueCtx).cqUsed == 0 else c.armed,
                                unnotified := if arm && ({ c with cqHead := v.toNat } : QueueCtx).cqUsed != 0 then 0 else c.unnotified } ∧
      (∀ k, k ≠ q → t.queue k = s.queue k) ∧ s.keptBut t [.qe, .hp, .out]) ∧
  (∀ (s : State) (p : Port) (l : Ld) (g : BitVec 20), s.regsOk → s.dbEntry p.val l.val g.toNat = none →
    ∃ t, exec (.doorbellDrop p l g .write) s = .next t ∧ t.get QE.QE_DB_DROP = satAdd 32 (s.get QE.QE_DB_DROP) 1 % 2 ^ 32 ∧ s.frame t [.regs] [QE.QE_DB_DROP]) ∧
  (∀ (s : State) (p : Port) (l : Ld) (g : BitVec 20) (o : BitVec 12) (w : Bool), s.dbEntry p.val l.val g.toNat = none →
    ∃ t, exec (.doorbellDrop p l g (.read o w)) s = .next t ∧ t.out = s.out ++ [.dbRead p.val l.val o.toNat 0] ∧ s.keptBut t [.out]) ∧
  (∀ (s : State) (p : Port) (l : Ld) (g : BitVec 20) (e : PageMap) (c : QueueCtx), s.dbEntry p.val l.val g.toNat = some e → e.typ = 1 → s.queue e.id = some c →
    ∃ t, exec (.doorbellDrop p l g (.read 0x008 false)) s = .next t ∧ t.out = s.out ++ [.dbRead p.val l.val 0x008 ((c.errReason * 2 ^ 24 + c.state.code) % 2 ^ 32)] ∧ s.keptBut t [.out]) ∧
  (∀ (s : State) (p : Port) (l : Ld) (g : BitVec 20) (n : BitVec 9) (e : PageMap) (i d : Nat), s.dbEntry p.val l.val g.toNat = some e → e.typ = 2 → tget s.qe.flush (e.id * 512 + n.toNat) = some (i, d) →
    ∃ t, exec (.doorbellDrop p l g (.read (BitVec.ofNat 12 (n.toNat * 8)) true)) s = .next t ∧
      t.out = s.out ++ [.dbRead p.val l.val (n.toNat * 8) ((i * 2 ^ 32 + d) % 2 ^ 64)] ∧ s.keptBut t [.out]) ∧
  (∀ (s : State) (p : Port) (l : Ld) (g : BitVec 20) (o : BitVec 12) (w : Bool),
    ∃ t, exec (.doorbellDrop p l g (.status o w)) s = .next t ∧
      t.out = s.out ++ [.dbRead p.val l.val o.toNat (regBytes (t.statusPage (s.get HP.TENANT p.val l.val)) o.toNat (if w then 8 else 4))] ∧
      (t.qe.statusSeq = s.qe.statusSeq ∨ t.qe.statusSeq = (s.qe.statusSeq + 1) % 65536) ∧ t.qe.queues = s.qe.queues ∧ t.qe.cmds = s.qe.cmds ∧ s.keptBut t [.qe, .out]) ∧
  (∀ (s : State) (p : Port) (l : Ld) (g : BitVec 20),
    ∃ t, exec (.doorbellDrop p l g .memStatus) s = .next t ∧ t.out = s.out ++ [.dbRead p.val l.val 0 (b2n (s.hp.memoryActive && !s.frozen) * 4)] ∧ s.keptBut t [.out]) ∧
  (∀ (s : State) (p : Port) (l : Ld) (g : BitVec 20) (n : BitVec 9) (z : Nat) (e : PageMap) (r : Nat) (d : Region), z = 4 ∨ z = 8 → s.dbEntry p.val l.val g.toNat = some e → e.typ = 2 →
    (s.xlt.regions.find? fun x => x.2.live && x.2.flushDb == e.id * 512 + n.toNat && x.2.tenant == s.get HP.TENANT p.val l.val) = some (r, d) →
    ∃ t b, exec (.flushDoorbell p l g n z) s = .next t ∧ t.qe.barriers = s.qe.barriers ++ [b] ∧ b.regions = [r] ∧
      b.covered = (s.twn.replay.filter fun m => !m.acked && m.region == r).map MirrorRec.id ∧
      (∃ v, b.who = .flush (e.id * 512 + n.toNat) p.val l.val v) ∧
      ((tget t.qe.flush (e.id * 512 + n.toNat)).getD (0, 0)).1 = (((tget s.qe.flush (e.id * 512 + n.toNat)).getD (0, 0)).1 + 1) % 2 ^ 32 ∧
      ((tget t.qe.flush (e.id * 512 + n.toNat)).getD (0, 0)).2 = ((tget s.qe.flush (e.id * 512 + n.toNat)).getD (0, 0)).2 ∧ s.keptBut t [.qe]) ∧
  (∀ (s : State) (p : Port) (l : Ld) (g : BitVec 20) (n : BitVec 9) (z : Nat) (e : PageMap), s.dbEntry p.val l.val g.toNat = some e → e.typ = 2 →
    (z ≠ 4 ∧ z ≠ 8) ∨ (s.xlt.regions.find? fun x => x.2.live && x.2.flushDb == e.id * 512 + n.toNat && x.2.tenant == s.get HP.TENANT p.val l.val) = none →
    ∃ t, exec (.flushDoorbell p l g n z) s = .next t ∧
      (t.quota (s.get HP.TENANT p.val l.val)).refuseTotal = ((s.quota (s.get HP.TENANT p.val l.val)).refuseTotal + 1) % 2 ^ 64 ∧ s.keptBut t [.tier]) ∧
  (∀ (s : State) (qid : BitVec 20) (c : QueueCtx), s.queue qid.toNat = some c → c.armed = true → c.coalTime ≠ 0 → c.unnotified ≠ 0 →
    ∃ t, exec (.coalTimeExpiry qid) s = .next t ∧ t.queue qid.toNat = some { c with armed := false, unnotified := 0 } ∧ s.keptBut t [.hp, .qe, .out]) ∧
  (∀ (s : State) (r : Requester) (qid : BitVec 20) (c : QueueCtx), s.regsOk → s.commands r qePage → s.qe.qctl = none → s.queue qid.toNat = some c → c.valid = true → c.checkOk = true →
    (c.state = .disabled ∨ c.state = .paused) → s.ringOk c = true →
    ∃ t, exec (.queueEnable r qid) s = .next t ∧
      t.queue qid.toNat = some { c with state := .active, sqHead := 0, sqTail := 0, cqHead := 0, cqTail := 0, cqPhase := true, armed := false, inflight := 0, unnotified := 0, errReason := 0 } ∧
      s.frame t [.regs, .qe] [HDR.QUIESCED]) ∧
  (∀ (s : State) (r : Requester) (qid : BitVec 20) (c : QueueCtx), s.regsOk → s.commands r qePage → s.qe.qctl = none → s.queue qid.toNat = some c → c.valid = true → c.state = .active →
    ∃ t, exec (.queuePause r qid) s = .next t ∧ t.queue qid.toNat = some { c with state := .paused } ∧ s.frame t [.regs, .qe] [HDR.QUIESCED]) ∧
  (∀ (s : State) (r : Requester) (qid : BitVec 20) (c : QueueCtx), s.regsOk → s.commands r qePage → s.qe.qctl = none → s.queue qid.toNat = some c → c.valid = true →
    ∃ t, exec (.queueReset r qid) s = .next t ∧ t.qe = { s.qe with qctl := some (qid.toNat, true) } ∧ t.get QE.BUSY = 1 ∧ s.frame t [.regs, .qe] [QE.BUSY, HDR.QUIESCED]) ∧
  (∀ (s : State) (r : Requester) (qid : BitVec 20) (c : QueueCtx), s.regsOk → s.commands r qePage → s.qe.qctl = none → s.queue qid.toNat = some c → c.valid = true →
    ∃ t, exec (.queueDisable r qid) s = .next t ∧ (c.state ≠ .error → t.qe = { s.qe with qctl := some (qid.toNat, false) } ∧ t.get QE.BUSY = 1) ∧ (c.state = .error → t.qe = s.qe) ∧
      s.frame t [.regs, .qe] [QE.BUSY, HDR.QUIESCED]) ∧
  (∀ (s : State) (qid : BitVec 20) (c : QueueCtx), s.regsOk → s.queue qid.toNat = some c → s.qe.qctl = some (qid.toNat, true) → c.inflight = 0 →
    ∃ t, exec (.queueResetDone qid) s = .next t ∧
      t.queue qid.toNat = some (if c.checkOk = false then { c with state := .error, errReason := 6 } else if s.ringOk c then
        { c with state := .active, sqHead := 0, sqTail := 0, cqHead := 0, cqTail := 0, cqPhase := true, armed := false, inflight := 0, unnotified := 0, errReason := 0 } else { c with state := .disabled }) ∧
      t.qe.qctl = none ∧ t.get QE.BUSY = 0 ∧ s.frame t ([.regs, .qe] ++ reported) ([QE.BUSY] ++ reportedFields)) ∧
  (∀ (s : State) (qid : BitVec 20) (c : QueueCtx), s.regsOk → s.queue qid.toNat = some c → s.qe.qctl = some (qid.toNat, false) → c.inflight = 0 →
    ∃ t, exec (.queueDisableDone qid) s = .next t ∧ t.queue qid.toNat = some (if c.state = .error then c else { c with state := .disabled }) ∧ t.qe.qctl = none ∧ t.get QE.BUSY = 0 ∧
      s.frame t ([.regs, .qe] ++ reported) ([QE.BUSY] ++ reportedFields))

/-- Queue commands: fetch, entries refused, ABORT, completion, timeout: A well-formed COPY, ZERO, RWRITE or RREAD that is fetched moves SQ_HEAD, counts in INFLIGHT and stands in flight with its fields for the movers. NOP is ended OK at once. An entry with an unknown opcode or a nonzero reserved bit is in flight with LENGTH_ERROR. ABORT of a CMD_ID ends the commands in flight that carry it and answers their number. A command that has its result, and on which no mover works, is posted: its entry with the queue's phase is sent, CQ_TAIL and DONE_CNT advance, INFLIGHT falls, and it is in flight no more. A timeout ends a command with TIMEOUT, a mover command at its step boundaries. Each clause gives its frame. -/
def Obligations.QueueCommandFlow : Prop :=
  (∀ (s : State) (qid : BitVec 20) (e : SqEntry) (c : QueueCtx) (x : QEntry) (u : State) (dst src : BitVec 40) (d o n : BitVec 64), s.regsOk →
    s.fetches qid.toNat e c x u → x.cmd = .copy dst d src o n → u.noMover = false →
    ∃ t, exec (.copy qid e) s = .next t ∧ t.qe.cmds = s.qe.cmds ++ [s.flight qid.toNat c x] ∧
      t.queue qid.toNat = some { c with sqHead := (c.sqHead + 1) % c.sqDepth, inflight := c.inflight + 1 } ∧ s.frame t ([.xlt, .qe, .tier, .pan, .dmc] ++ reported) ([PAN.HIT_CNT, PAN.MISS_CNT, PAN.WB_CNT] ++ reportedFields)) ∧
  (∀ (s : State) (qid : BitVec 20) (e : SqEntry) (c : QueueCtx) (x : QEntry) (u : State) (h : BitVec 40) (o n : BitVec 64), s.regsOk →
    s.fetches qid.toNat e c x u → x.cmd = .zero h o n → u.noMover = false →
    ∃ t, exec (.zero qid e) s = .next t ∧ t.qe.cmds = s.qe.cmds ++ [s.flight qid.toNat c x] ∧
      t.queue qid.toNat = some { c with sqHead := (c.sqHead + 1) % c.sqDepth, inflight := c.inflight + 1 } ∧ s.frame t ([.xlt, .qe, .tier, .pan, .dmc] ++ reported) ([PAN.HIT_CNT, PAN.MISS_CNT, PAN.WB_CNT] ++ reportedFields)) ∧
  (∀ (s : State) (qid : BitVec 20) (e : SqEntry) (c : QueueCtx) (x : QEntry) (u : State) (h : BitVec 40) (o : BitVec 64) (k : BitVec 24) (key : BitVec 32) (ro n : BitVec 64) (f : Bool), s.regsOk →
    s.fetches qid.toNat e c x u → x.cmd = .rwrite h o k key ro n f → u.noMover = false →
    ∃ t, exec (.rwrite qid e) s = .next t ∧ t.qe.cmds = s.qe.cmds ++ [s.flight qid.toNat c x] ∧
      t.queue qid.toNat = some { c with sqHead := (c.sqHead + 1) % c.sqDepth, inflight := c.inflight + 1 } ∧ s.frame t ([.xlt, .qe, .tier, .pan, .dmc] ++ reported) ([PAN.HIT_CNT, PAN.MISS_CNT, PAN.WB_CNT] ++ reportedFields)) ∧
  (∀ (s : State) (qid : BitVec 20) (e : SqEntry) (c : QueueCtx) (x : QEntry) (u : State) (h : BitVec 40) (o : BitVec 64) (k : BitVec 24) (key : BitVec 32) (ro n : BitVec 64) (f : Bool), s.regsOk →
    s.fetches qid.toNat e c x u → x.cmd = .rread h o k key ro n f → u.noMover = false →
    ∃ t, exec (.rread qid e) s = .next t ∧ t.qe.cmds = s.qe.cmds ++ [s.flight qid.toNat c x] ∧
      t.queue qid.toNat = some { c with sqHead := (c.sqHead + 1) % c.sqDepth, inflight := c.inflight + 1 } ∧ s.frame t ([.xlt, .qe, .tier, .pan, .dmc] ++ reported) ([PAN.HIT_CNT, PAN.MISS_CNT, PAN.WB_CNT] ++ reportedFields)) ∧
  (∀ (s : State) (qid : BitVec 20) (e : SqEntry) (c : QueueCtx) (x : QEntry) (u : State), s.regsOk → s.fetches qid.toNat e c x u → x.cmd = .nop →
    ∃ t, exec (.nop qid e) s = .next t ∧ { s.flight qid.toNat c x with result := some okResult } ∈ t.qe.cmds ∧
      t.queue qid.toNat = some { c with sqHead := (c.sqHead + 1) % c.sqDepth, inflight := c.inflight + 1 } ∧ s.frame t ([.xlt, .qe, .tier, .pan, .dmc] ++ reported) ([PAN.HIT_CNT, PAN.MISS_CNT, PAN.WB_CNT] ++ reportedFields)) ∧
  (∀ (s : State) (qid : BitVec 20) (e : SqEntry) (c : QueueCtx) (u v : State) (d : Region) (pl : Place64), s.regsOk → s.queue qid.toNat = some c →
    s.canFetch qid.toNat c (e.getLsbD 15) = true → c.checkOk = true → QEntry.decode e = none →
    s.walkQueue c.tenant (BitVec.ofNat 40 c.ringHandle) (c.sqOff + c.sqHead * 64) 64 false = (v, .ok d) →
    v.resolve (c.ringHandle / 65536) d (c.sqOff + c.sqHead * 64) = (u, .ok pl) → u.placeVal pl = { data := e, poison := false } →
    ∃ t y, exec (.unknownOpcode qid e) s = .next t ∧ t.qe.cmds = s.qe.cmds ++ [y] ∧ y.cmdId = (getAt e 16 16).toNat ∧ y.result = some (failResult .lengthError) ∧
      t.queue qid.toNat = some { c with sqHead := (c.sqHead + 1) % c.sqDepth, inflight := c.inflight + 1 } ∧ s.frame t ([.xlt, .qe, .tier, .pan, .dmc] ++ reported) ([PAN.HIT_CNT, PAN.MISS_CNT, PAN.WB_CNT] ++ reportedFields)) ∧
  (∀ (s : State) (qid : BitVec 20) (e : SqEntry) (c : QueueCtx) (x : QEntry) (u : State) (target : BitVec 16), s.regsOk → s.fetches qid.toNat e c x u → x.cmd = .abort target →
    ∃ t y, exec (.abort qid e) s = .next t ∧ y ∈ t.qe.cmds ∧ y.order = s.qe.nextOrder ∧
      y.result = some { okResult with result0 := (s.qe.cmds.filter fun z => z.qid == qid.toNat && z.cmdId == target.toNat && z.order != s.qe.nextOrder && (z.result.isNone || (z.fault.isSome && z.faultAt == s.timeNs))).length } ∧ s.frame t ([.xlt, .qe, .mov, .tier, .pan, .dmc] ++ reported) ([MOV.LAST_FCLASS, MOV.LAST_FOFF, MOV.LAST_STATUS, PAN.HIT_CNT, PAN.MISS_CNT, PAN.WB_CNT] ++ reportedFields)) ∧
  (∀ (s : State) (qid : BitVec 20) (e : SqEntry) (c : QueueCtx) (x : QEntry) (u : State) (target : BitVec 16) (z : Cmd), s.regsOk → s.fetches qid.toNat e c x u → x.cmd = .abort target →
    (s.qe.cmds.filter fun y => y.qid == qid.toNat && y.cmdId == target.toNat && y.order != s.qe.nextOrder && (y.result.isNone || (y.fault.isSome && y.faultAt == s.timeNs))) = [z] → z.result = none → z.cmd.moves = false →
    (s.tier.schedules.find? fun y => y.qid == qid.toNat && y.cmdId == target.toNat && !y.completed) = none →
    ∃ t, exec (.abort qid e) s = .next t ∧ { z with result := some { failResult .aborted with detail := z.refused } } ∈ t.qe.cmds ∧ s.frame t ([.xlt, .qe, .mov, .tier, .pan, .dmc] ++ reported) ([MOV.LAST_FCLASS, MOV.LAST_FOFF, MOV.LAST_STATUS, PAN.HIT_CNT, PAN.MISS_CNT, PAN.WB_CNT] ++ reportedFields)) ∧
  (∀ (s : State) (qid : BitVec 20) (id : BitVec 16) (x : Cmd) (r : CmdResult) (c d : QueueCtx) (e : CqEntry) (v : State), s.regsOk →
    (s.raiseSweep.qe.cmds.find? fun x => x.qid == qid.toNat && x.cmdId == id.toNat && x.result.isSome && !(x.steps.any fun r => r.state.busy)) = some x → x.result = some r →
    s.queue x.qid = some c →
    e = { cmdId := x.cmdId, status := r.status, phase := c.cqPhase, sqHead := x.sqHeadAfter, prefixLen := r.prefixLen, result0 := r.result0, detail := r.detail,
          elapsed := min (2 ^ 32 - 1) ((s.timeNs - x.fetched) / 1000) } →
    s.raiseSweep.cqWrite c e = (v, some (.ok ())) → v.queue x.qid = some d →
    ∃ t d', exec (.commandCompletion qid id) s = .next t ∧ .cq x.qid e ∈ t.out ∧ (∀ y ∈ t.qe.cmds, y.order ≠ x.order) ∧ t.queue x.qid = some d' ∧
      d'.cqTail = (d.cqTail + 1) % d.cqDepth ∧ d'.cqPhase = (if d.cqTail + 1 = d.cqDepth then !d.cqPhase else d.cqPhase) ∧ d'.inflight = d.inflight - 1 ∧
      d'.doneCnt = (d.doneCnt + 1) % 2 ^ 64 ∧ s.frame t ([.xlt, .qe, .tier, .pan, .twn, .dmc, .flm] ++ reported) ([PAN.WB_CNT, TIER.QUOTA_REFUSE] ++ reportedFields)) ∧
  (∀ (s : State) (qid : BitVec 20) (id : BitVec 16) (x : Cmd), s.regsOk → (s.qe.cmds.find? fun x => x.qid == qid.toNat && x.cmdId == id.toNat && x.result.isNone) = some x →
    x.cmd.timed = true → x.timeout ≠ 0 → x.cmd.moves = false → (s.tier.schedules.find? fun y => y.qid == x.qid && y.cmdId == x.cmdId && !y.completed) = none →
    ∃ t, exec (.cmdTimeout qid id) s = .next t ∧ { x with result := some { failResult .timeout with detail := x.refused } } ∈ t.qe.cmds ∧ s.keptBut t [.qe]) ∧
  (∀ (s : State) (qid : BitVec 20) (id : BitVec 16) (x : Cmd), s.regsOk → (s.qe.cmds.find? fun x => x.qid == qid.toNat && x.cmdId == id.toNat && x.result.isNone) = some x →
    x.cmd.timed = true → x.timeout ≠ 0 → x.cmd.moves = true →
    ∃ t y, exec (.cmdTimeout qid id) s = .next t ∧ y ∈ t.qe.cmds ∧ y.order = x.order ∧ y.stop = true ∧ y.ended = some (x.ended.getD .timeout) ∧
      (∀ k ∈ y.steps, y.goesOn k = true) ∧ s.frame t [.regs, .qe, .mov, .tier] [MOV.LAST_FCLASS, MOV.LAST_FOFF, MOV.LAST_STATUS])

/-- Movers: claiming a step, the end of MOVE, resumption, OFFLINE: An idle mover that may claim, of a command whose turn it is, shows the command and the lowest claimable step in its registers; where the walk passes it holds the step in MOVE. The end of MOVE of a ZERO step whose writes are accepted with no mirror record to wait for makes the step COMPLETE and counts it; an internal parity error takes the mover OFFLINE and leaves the step to another mover once; a source sector whose integrity tag fails ends the command INTERNAL. A parked step whose reads are done, and whose hold is over, becomes ready again. A write of OFFLINE waits as a change of the mover's page alone; when it applies, an idle mover goes out of service, unrecorded while eight remain. The ends of MOVE and the claim are stated where no staged change of the mover's page waits. Each clause gives its frame. -/
def Obligations.MoverEvents : Prop :=
  (∀ (s : State) (m : MoverId) (qid : BitVec 20) (id : BitVec 16) (x : Cmd) (k n : Nat) (d e : Region) (u v : State), s.regsOk →
    (s.qe.cmds.find? fun x => x.qid == qid.toNat && x.cmdId == id.toNat && x.cmd.moves) = some x →
    s.unstaged (movPage 0) → s.keptFor m.val = none → s.myTurn m.val x = true → s.frozen = false → s.resting (movPage m.val) = false → s.get MOV.STATE m.val = movIdle → s.flag MOV.OFFLINE m.val = false → s.betterWaits m.val x.sclass = false →
    s.wantsMover x m.val = true → x.claimable m.val = some k →
    n = (if s.moversOn x = 0 then s.qe.nextDispatch else x.dispatched) →
    u = (let w : State := s.modCmd x.qid x.cmdId fun y => if y.order = x.order then { y.setStep { (x.step k).getD (freshStep k (.running m.val)) with state := .running m.val, ran := m.val } with dispatched := n } else y
         let w : State := { w.turnTaken x.qid x.sclass with mov := { w.mov with runs := tset w.mov.runs m.val { qid := x.qid, cmdId := x.cmdId, index := k, inPlace := false }, kept := tdel w.mov.kept m.val } }
         ((({ w with qe.nextDispatch := max w.qe.nextDispatch (n + 1) } : State).moverShow m.val x k).put MOV.STATE movWalk m.val)) →
    u.stepHeldByHandoff x = false → u.walkStep x k = (v, .ok (d, e)) →
    ∃ t, exec (.moverStepClaim m qid id false) s = .next t ∧ t.get MOV.STATE m.val = movMove ∧ t.get MOV.STEP m.val = k % 2 ^ 32 ∧ t.get MOV.QID m.val = x.qid % 2 ^ 20 ∧
      tget t.mov.runs m.val = some { qid := x.qid, cmdId := x.cmdId, index := k, inPlace := false } ∧ s.frame t ([.xlt, .qe, .mov, .tier] ++ reported) ([MOV.CMD_ID, MOV.FAULT_CNT, MOV.LAST_FCLASS, MOV.LAST_FOFF, MOV.LAST_STATUS, MOV.OFFLINE, MOV.OPCODE, MOV.PARK_FULL_CNT, MOV.PARK_PEAK, MOV.QID, MOV.SCLASS, MOV.STATE, MOV.STEP] ++ reportedFields)) ∧
  (∀ (s : State) (m : MoverId) (r : MoverRun) (x : Cmd) (st : StepRec) (h : BitVec 40) (o n : BitVec 64) (v : State), s.regsOk →
    s.unstaged (movPage m.val) → s.get MOV.STATE m.val = movMove → tget s.mov.runs m.val = some r → s.cmd r.qid r.cmdId = some x → x.step r.index = some st → x.cmd = .zero h o n →
    (2 ≤ (s.regionAt (handleId h)).pclass ∨ s.heldAhead r.qid r.cmdId r.index = false) →
    s.writeRange x.tenant (handleId h) (s.regionAt (handleId h)) (x.cmd.stepStart r.index) (List.replicate (x.cmd.stepLen r.index) 0) (fun _ _ => false) true = (v, .done []) →
    x ∈ v.qe.cmds →
    ∃ t y, exec (.moverMoveDone m .good) s = .next t ∧ y ∈ t.qe.cmds ∧ y.order = x.order ∧ (y.complete.contains r.index = true ∨ r.index < y.low) ∧
      t.get MOV.STEPS_DONE m.val = (s.get MOV.STEPS_DONE m.val + 1) % 2 ^ 64 ∧ s.frame t ([.xlt, .qe, .mov, .tier, .pan, .twn, .cmn, .dmc, .flm] ++ reported) ([CMP.TX_FRAMES, MOV.FAULT_CNT, MOV.LAST_FCLASS, MOV.LAST_FOFF, MOV.LAST_STATUS, MOV.OFFLINE, MOV.PARK_FULL_CNT, MOV.PARK_PEAK, MOV.PREEMPT_CNT, MOV.STATE, MOV.STEPS_DONE, PAN.HIT_CNT, PAN.MISS_CNT, PAN.WB_CNT, TIER.MISSED, TIER.ON_TIME, TIER.QUOTA_REFUSE] ++ reportedFields)) ∧
  (∀ (s : State) (m : MoverId) (r : MoverRun) (x : Cmd) (st : StepRec), s.regsOk →
    s.unstaged (movPage m.val) → s.get MOV.STATE m.val = movMove → tget s.mov.runs m.val = some r → s.cmd r.qid r.cmdId = some x → x.step r.index = some st → st.moverRetry = false → x.stop = false →
    ∃ t y, exec (.moverMoveDone m .parity) s = .next t ∧ t.get MOV.STATE m.val = movOffline ∧ t.flag MOV.OFFLINE m.val = true ∧ y ∈ t.qe.cmds ∧ y.order = x.order ∧
      y.step r.index = some { st with state := .ready, moverRetry := true, avoid := some m.val } ∧ bit (t.rd (movPage m.val) HDR.ERR_STAT) 16 = true ∧ s.frame t ([.xlt, .qe, .mov, .tier, .pan, .twn, .cmn, .dmc, .flm] ++ reported) ([CMP.TX_FRAMES, MOV.FAULT_CNT, MOV.LAST_FCLASS, MOV.LAST_FOFF, MOV.LAST_STATUS, MOV.OFFLINE, MOV.PARK_FULL_CNT, MOV.PARK_PEAK, MOV.PREEMPT_CNT, MOV.STATE, MOV.STEPS_DONE, PAN.HIT_CNT, PAN.MISS_CNT, PAN.WB_CNT, TIER.MISSED, TIER.ON_TIME, TIER.QUOTA_REFUSE] ++ reportedFields)) ∧
  (∀ (s : State) (m : MoverId) (r : MoverRun) (x : Cmd) (st : StepRec) (dst src : BitVec 40) (d o n : BitVec 64), s.regsOk →
    s.unstaged (movPage m.val) → s.get MOV.STATE m.val = movMove → tget s.mov.runs m.val = some r → s.cmd r.qid r.cmdId = some x → x.step r.index = some st → x.cmd = .copy dst d src o n →
    st.ran = m.val → st.state = .running m.val → x.ended = none → x.fault = none →
    ∃ t y, exec (.moverMoveDone m .sourceTag) s = .next t ∧ y ∈ t.qe.cmds ∧ y.order = x.order ∧ y.stop = true ∧ y.step r.index = none ∧
      y.fault = some (r.index, .internal, x.cmd.stepStart r.index / blkBytes) ∧ t.get MOV.LAST_FCLASS m.val = 9 ∧ t.get MOV.LAST_STATUS m.val = Status.internal.code ∧
      s.frame t ([.qe, .mov, .tier, .dmc, .flm] ++ reported) ([MOV.FAULT_CNT, MOV.LAST_FCLASS, MOV.LAST_FOFF, MOV.LAST_STATUS, MOV.OFFLINE, MOV.STATE] ++ reportedFields)) ∧
  (∀ (s : State) (qid : BitVec 20) (id : BitVec 16) (k : Nat) (x : Cmd) (r : StepRec), s.regsOk → (s.tier.reads.any fun d => d.who == .step qid.toNat id.toNat k) = false →
    s.cmd qid.toNat id.toNat = some x → s.frozen = false → x.step k = some r → r.state = .parked →
    (s.mov.holds.contains (qid.toNat, id.toNat, k) = false ∨ s.holdOver x k = true) →
    ∃ t y, exec (.parkedStepResume qid id k) s = .next t ∧ y ∈ t.qe.cmds ∧ y.order = x.order ∧ y.step k = some { r with state := .ready } ∧ s.keptBut t [.qe]) ∧
  (∀ (s : State) (r : Requester) (m : MoverId) (v : Bool), s.regsOk → s.governs r (movPage m.val) → s.stageHeld (movPage m.val) = false → s.rd (movPage m.val) HDR.ARM = 0 →
    ∃ t, exec (.moverOffline r m v) s = .next t ∧
      t.ctl.single.getLast? = some { page := movPage m.val, key := MOV.OFFLINE.key (movPage m.val) 0, value := b2n v } ∧ s.frame t [.regs, .ctl] [HDR.QUIESCED]) ∧
  (∀ (s : State) (m : MoverId), s.regsOk → s.ctl.single = [{ page := movPage m.val, key := MOV.OFFLINE.key (movPage m.val) 0, value := 1 }] → s.part (movPage m.val) = none →
    tget s.mov.runs m.val = none → s.flag MOV.OFFLINE m.val = false → s.mov.offlineNext = [] →
    ∃ t, exec (.stageApply (movPage m.val)) s = .next t ∧ t.flag MOV.OFFLINE m.val = true ∧ t.get MOV.STATE m.val = movOffline ∧ t.ctl.single = [] ∧
      (8 ≤ ((List.range 64).filter fun j => !s.flag MOV.OFFLINE j).length → t.recd = s.recd) ∧
      s.frame t ([.ctl] ++ reported) ([MOV.OFFLINE, MOV.STATE, HDR.APPLIED, HDR.APPLIED_EPOCH] ++ reportedFields))

/-- Tier blocks: RAISE, EVICT, fills, replacement, release, write-back: RAISE of blocks that are resident and pinned ends OK; of an absent block within the quota it charges the tenant, takes a frame, starts the fill and waits. EVICT drops the tenant's pin: a block pinned by nobody else leaves, one pinned by others stays and the command answers RETAINED_SHARED with their number. A unit that arrives is PRESENT with its T2 bytes in the frame; a failed unit abandons a rising block without DIRTY units and fails the RAISE that waits for it, else marks the unit. Replacement takes a loose resident block by NRU while fewer than FREE_MIN frames are free. A LEAVING block with clean units leaves T1. Replacement and write-back are stated where no staged change of the TIER page waits. A write-back takes a unit's stamp and sectors; once its record is durable and applied the unit is clean unless its stamp has moved, and before that nothing happens. Each clause gives its frame. -/
def Obligations.TierCommands : Prop :=
  (∀ (s : State) (qid : BitVec 20) (e : SqEntry) (c : QueueCtx) (x : QEntry) (u v w : State) (h : BitVec 40) (off len : BitVec 64) (d : Region) (bs : List (Nat × Bool)), s.regsOk →
    s.resting tierPage = false → s.fetches qid.toNat e c x u → x.cmd = .raise h off len → (u.begun qid.toNat c (u.flight qid.toNat c x)).walkShared c.tenant h off.toNat len.toNat = (v, .ok d) →
    v.blocksOf (handleId h) d off.toNat len.toNat = (w, .ok bs) → (∀ b ∈ bs, ∃ k, w.block b.1 = some k ∧ k.state = .resident ∧ k.pins.contains c.tenant = true) →
    ∃ t, exec (.raise qid e) s = .next t ∧ { u.flight qid.toNat c x with result := some okResult } ∈ t.qe.cmds ∧ t.tier.blocks = w.tier.blocks ∧ s.frame t ([.xlt, .qe, .tier, .pan, .dmc, .flm] ++ reported) ([TIER.QUOTA_REFUSE, PAN.HIT_CNT, PAN.MISS_CNT, PAN.WB_CNT] ++ reportedFields)) ∧
  (∀ (s : State) (qid : BitVec 20) (e : SqEntry) (c : QueueCtx) (x : QEntry) (u v w : State) (h : BitVec 40) (off len : BitVec 64) (d : Region) (p : Nat), s.regsOk →
    s.resting tierPage = false → s.fetches qid.toNat e c x u → x.cmd = .raise h off len → (u.begun qid.toNat c (u.flight qid.toNat c x)).walkShared c.tenant h off.toNat len.toNat = (v, .ok d) →
    v.blocksOf (handleId h) d off.toNat len.toNat = (w, .ok [(p, false)]) → w.block p = none → (w.tier.frameWait.any fun y => y.pbn == p && y.pin == some c.tenant) = false →
    w.pinCount < 16777216 → (w.quota c.tenant).checkOk = true → (w.quota c.tenant).t1Used + 1 ≤ (w.quota c.tenant).t1Quota → 0 < w.freeFrames →
    ∃ t b, exec (.raise qid e) s = .next t ∧ t.block p = some b ∧ b.state = .rising ∧ b.pins = [c.tenant] ∧ b.charge = some c.tenant ∧ b.filling = unitOrder 0 ∧
      (t.quota c.tenant).t1Used = (w.quota c.tenant).t1Used + 1 ∧ { u.flight qid.toNat c x with waitBlocks := [(0, p)] } ∈ t.qe.cmds ∧ s.frame t ([.xlt, .qe, .tier, .pan, .dmc, .flm] ++ reported) ([TIER.QUOTA_REFUSE, PAN.HIT_CNT, PAN.MISS_CNT, PAN.WB_CNT] ++ reportedFields)) ∧
  (∀ (s : State) (qid : BitVec 20) (e : SqEntry) (c : QueueCtx) (x : QEntry) (u v w : State) (h : BitVec 40) (off len : BitVec 64) (d : Region) (p : Nat) (z : Bool) (k : TBlock), s.regsOk →
    s.resting tierPage = false → s.fetches qid.toNat e c x u → x.cmd = .evict h off len → (u.begun qid.toNat c (u.flight qid.toNat c x)).walkShared c.tenant h off.toNat len.toNat = (v, .ok d) →
    v.blocksOf (handleId h) d off.toNat len.toNat = (w, .ok [(p, z)]) → w.block p = some k → k.state = .resident → k.pins = [c.tenant] → (∀ y ∈ w.tier.schedules, ¬ (y.qid = qid.toNat ∧ y.cmdId = x.cmdId.toNat)) →
    ∃ t b, exec (.evict qid e) s = .next t ∧ t.block p = some b ∧ b.state = .leaving ∧ b.pins = [] ∧ { u.flight qid.toNat c x with result := some okResult } ∈ t.qe.cmds ∧ s.frame t ([.xlt, .qe, .tier, .pan, .dmc] ++ reported) ([PAN.HIT_CNT, PAN.MISS_CNT, PAN.WB_CNT] ++ reportedFields)) ∧
  (∀ (s : State) (qid : BitVec 20) (e : SqEntry) (c : QueueCtx) (x : QEntry) (u v w : State) (h : BitVec 40) (off len : BitVec 64) (d : Region) (p : Nat) (z : Bool) (k : TBlock), s.regsOk →
    s.resting tierPage = false → s.fetches qid.toNat e c x u → x.cmd = .evict h off len → (u.begun qid.toNat c (u.flight qid.toNat c x)).walkShared c.tenant h off.toNat len.toNat = (v, .ok d) →
    v.blocksOf (handleId h) d off.toNat len.toNat = (w, .ok [(p, z)]) → w.block p = some k → k.state = .resident → (k.pins.any fun y => y != c.tenant) = true → (∀ y ∈ w.tier.schedules, ¬ (y.qid = qid.toNat ∧ y.cmdId = x.cmdId.toNat)) →
    ∃ t b, exec (.evict qid e) s = .next t ∧ t.block p = some b ∧ b.state = .resident ∧ b.pins = (k.pins.filter fun y => y != c.tenant) ∧
      { u.flight qid.toNat c x with result := some { status := .retainedShared, result0 := 0, detail := 1, prefixLen := 0 } } ∈ t.qe.cmds ∧ s.frame t ([.xlt, .qe, .tier, .pan, .dmc] ++ reported) ([PAN.HIT_CNT, PAN.MISS_CNT, PAN.WB_CNT] ++ reportedFields)) ∧
  (∀ (s : State) (p : Nat) (u : Fin 16) (b : TBlock), s.regsOk → s.block p = some b → b.filling.contains u.val = true → s.unitReads p u.val = [] →
    ∃ t c, exec (.fillUnitDone p u false) s = .next t ∧ t.block p = some c ∧ c.unitPresent u.val = true ∧ c.filling = (b.filling.filter fun k => k != u.val) ∧
      (∀ n ∈ unitSecs (p * 16 + u.val), t.frameRead n = s.t2Read n) ∧ (b.filling = [u.val] → b.state = .rising → b.leaveReq = false → c.state = .resident) ∧ s.frame t ([.xlt, .qe, .mov, .tier, .pan, .cmn, .dmc, .flm] ++ reported) ([MOV.OFFLINE, MOV.STATE, CME.VIOL_TX, CMP.TX_FRAMES, HP.POISON_CNT, MOV.FAULT_CNT, MOV.LAST_FCLASS, MOV.LAST_FOFF, MOV.LAST_STATUS, PAN.HIT_CNT, PAN.MISS_CNT, PAN.WB_CNT, TIER.SLOW_PATH] ++ reportedFields)) ∧
  (∀ (s : State) (p : Nat) (u : Fin 16) (b : TBlock) (y : Cmd) (h : BitVec 40) (o n : BitVec 64) (k : Nat), s.regsOk → s.block p = some b → b.filling.contains u.val = true →
    b.state = .rising → b.dirty = false → s.tier.frameWait = [] → s.tier.held = [] → s.tier.reads = [] → y ∈ s.qe.cmds → y.cmd = .raise h o n → y.result = none → y.waitBlocks = [(k, p)] → y.raiseErr = none →
    ∃ t z, exec (.fillUnitFail p u) s = .next t ∧ t.block p = none ∧ z ∈ t.qe.cmds ∧ z.order = y.order ∧ z.result = some { status := .mediaError, result0 := 0, detail := y.refused, prefixLen := 0 } ∧ s.frame t ([.xlt, .qe, .mov, .tier, .pan, .cmn, .dmc, .flm] ++ reported) ([MOV.OFFLINE, MOV.STATE, PAN.LOCK_LOST_CNT, PAN.WB_CNT, CME.VIOL_TX, CMP.TX_FRAMES, HP.POISON_CNT, HP.REFUSE_CNT, MOV.FAULT_CNT, MOV.LAST_FCLASS, MOV.LAST_FOFF, MOV.LAST_STATUS, TIER.SLOW_PATH, TIER.SUBST, PAN.LOCKS_RELEASED] ++ reportedFields)) ∧
  (∀ (s : State) (p : Nat) (u : Fin 16) (b : TBlock), s.regsOk → s.block p = some b → b.filling.contains u.val = true → (b.state ≠ .rising ∨ b.dirty = true) →
    s.tier.held = [] → s.tier.reads = [] →
    ∃ t c, exec (.fillUnitFail p u) s = .next t ∧ t.block p = some c ∧ tget c.units u.val = some { (tget b.units u.val).getD { freshUnit with present := false } with failed := true } ∧
      c.filling = (b.filling.filter fun k => k != u.val) ∧ s.frame t ([.xlt, .qe, .mov, .tier, .pan, .cmn, .dmc, .flm] ++ reported) ([MOV.OFFLINE, MOV.STATE, PAN.LOCK_LOST_CNT, PAN.WB_CNT, CME.VIOL_TX, CMP.TX_FRAMES, HP.POISON_CNT, HP.REFUSE_CNT, MOV.FAULT_CNT, MOV.LAST_FCLASS, MOV.LAST_FOFF, MOV.LAST_STATUS, TIER.SLOW_PATH, TIER.SUBST, PAN.LOCKS_RELEASED] ++ reportedFields)) ∧
  (∀ (s : State) (p : Nat) (b : TBlock), s.resting tierPage = false → s.unstaged tierPage → s.block p = some b → s.replaceable p b = true → s.freeFrames < s.get TIER.FREE_MIN → b.used = false →
    ∃ t, exec (.tierReplacement p) s = .next t ∧ t.block p = some { b with state := .leaving } ∧ (∀ q, q ≠ p → t.block q = s.block q) ∧ s.keptBut t [.tier]) ∧
  (∀ (s : State) (p : Nat) (b : TBlock), s.resting tierPage = false → s.unstaged tierPage → s.block p = some b → s.replaceable p b = true → s.freeFrames < s.get TIER.FREE_MIN →
    ((s.tier.blocks.filter fun e => s.replaceable e.1 e.2).all fun e => e.2.used) = true →
    ∃ t, exec (.tierReplacement p) s = .next t ∧ t.block p = some { b with state := .leaving, used := false } ∧
      (∀ q c, q ≠ p → s.block q = some c → t.block q = some (if s.replaceable q c then { c with used := false } else c)) ∧ s.keptBut t [.tier]) ∧
  (∀ (s : State) (p : Nat) (b : TBlock), s.regsOk → s.block p = some b → b.state = .leaving → b.dirty = false → (b.units.any fun e => e.2.wb.isSome) = false → s.tier.frameWait = [] →
    ∃ t, exec (.tierReleaseDone p) s = .next t ∧ t.block p = none ∧ (∀ q, q ≠ p → t.block q = s.block q) ∧ s.frame t ([.tier, .pan, .dmc, .flm] ++ reported) ([PAN.LOCK_LOST_CNT, PAN.WB_CNT, PAN.LOCKS_RELEASED] ++ reportedFields)) ∧
  (∀ (s : State) (p : Nat) (u : Fin 16) (b : TBlock) (x : TUnit), s.regsOk → s.resting tierPage = false → s.unstaged tierPage → s.flashTakes = true → s.assignable = true → s.rakeFirst = false → laneWaits s.flm.cipher = false → s.block p = some b → tget b.units u.val = some x → s.wbAllowed p u.val b x = true →
    s.restoredBrine = [] → s.wbBetter b = false →
    ∃ t c, exec (.writeBackStart p u) s = .next t ∧ t.block p = some c ∧
      tget c.units u.val = some { x with wb := some (x.stamp, (s.panCleanUnit (p * 16 + u.val)).unitVals (p * 16 + u.val)) } ∧
      t.out.getLast? = some (.device "T2_WRITE" [p, u.val]) ∧ s.frame t [.regs, .tier, .pan, .twn, .dmc, .flm, .out, .free] [PAN.WB_CNT]) ∧
  (∀ (s : State) (p : Nat) (u : Fin 16) (m : MUnit), s.resting tierPage = false → s.unstaged tierPage → s.flashTakes = true → s.assignable = true → s.rakeFirst = false → laneWaits s.flm.cipher = false → s.block p = none → tget s.twn.mirror (p * 16 + u.val) = some m → m.dirty = true → m.wb = none →
    s.restoredBrine = [] → s.get TIER.CLEAN_LO * s.get HRV.HRV_TIDE_NOW < s.devBrine * 100 →
    ∃ t, exec (.writeBackStart p u) s = .next t ∧ tget t.twn.mirror (p * 16 + u.val) = some { m with wb := some (m.stamp, m.vals) } ∧
      t.out = s.out ++ [.device "T2_WRITE" [p, u.val]] ∧ s.keptBut t [.twn, .dmc, .flm, .out, .free]) ∧
  (∀ (s : State) (p : Nat) (u : Fin 16) (b : TBlock) (x : TUnit) (st : Nat) (vals : Table SectorVal), s.regsOk → s.block p = some b → tget b.units u.val = some x → x.wb = some (st, vals) → s.written (p * 16 + u.val) st = true →
    ∃ t c, exec (.writeBackDone p u) s = .next t ∧ t.block p = some c ∧ tget c.units u.val = some { x with wb := none, dirty := x.dirty && x.stamp != st } ∧
      s.frame t ([.tier] ++ reported) reportedFields) ∧
  (∀ (s : State) (p : Nat) (u : Fin 16) (m : MUnit) (st : Nat) (vals : Table SectorVal), s.regsOk → s.block p = none → tget s.twn.mirror (p * 16 + u.val) = some m → m.wb = some (st, vals) → s.written (p * 16 + u.val) st = true →
    ∃ t, exec (.writeBackDone p u) s = .next t ∧ tget t.twn.mirror (p * 16 + u.val) = (if m.stamp = st then none else some { m with wb := none }) ∧
      s.frame t ([.tier, .twn] ++ reported) reportedFields) ∧
  (∀ (s : State) (p : Nat) (u : Fin 16) (b : TBlock) (x : TUnit) (st : Nat) (vals : Table SectorVal), s.block p = some b → tget b.units u.val = some x → x.wb = some (st, vals) → s.written (p * 16 + u.val) st = false →
    exec (.writeBackDone p u) s = .next s) ∧
  (∀ (s : State) (p : Nat) (u : Fin 16) (m : MUnit) (st : Nat) (vals : Table SectorVal), s.block p = none → tget s.twn.mirror (p * 16 + u.val) = some m → m.wb = some (st, vals) → s.written (p * 16 + u.val) st = false →
    exec (.writeBackDone p u) s = .next s)

/-- Cheaper-path reads, sluice schedules, the partner's tide: At its path point a waiting read asks the twin when paired and its mask has bit 3, else goes to direct flash where the mask allows only that; when the twin is late the read goes on, and the bittern delivers a restored sector. At its deadline a CXL read is answered with poison and waits no more. SLUICE reads its whole list from pool memory, checks it and keeps the schedule; an entry becomes eligible and its block rises pinned for the tenant; at its due time it counts as ON_TIME or MISSED, past its life as MISSED; at the end of its hold its pins are dropped. SLUICE_CANCEL ends the schedule and its command. A TIDE record sets the partner's tide. Each clause gives its frame. -/
def Obligations.ReadPathsAndSluice : Prop :=
  (∀ (s : State) (id : Nat) (r : WaitRead), s.readById id = some r → r.stage = .filling → r.panStall = false → s.unstaged tierPage → s.role = rolePaired → (s.regionAt r.region).pathMask.getLsbD 3 = true →
    ∃ t, exec (.readPathPoint id) s = .next t ∧ (∀ x ∈ t.tier.reads, x.id = id → x.stage = .twinDram) ∧ ((∀ q c k, r.who ≠ .step q c k) → { r with stage := .twinDram } ∈ t.tier.reads) ∧
      (∀ x ∈ s.tier.reads, x.id ≠ id → (∀ q c k, x.who ≠ .step q c k) → x ∈ t.tier.reads) ∧ t.out = s.out ++ [.twin 0x0C r.grp 0 (r.pbn * 16 + r.unit) 0 []] ∧
      s.frame t [.regs, .qe, .mov, .tier, .out] [MOV.LAST_FCLASS, MOV.LAST_FOFF, MOV.LAST_STATUS]) ∧
  (∀ (s : State) (id : Nat) (r : WaitRead), s.readById id = some r → r.stage = .filling → r.panStall = false → s.unstaged tierPage → (s.regionAt r.region).pathMask.getLsbD 3 = false →
    (s.regionAt r.region).pathMask.getLsbD 2 = false → (s.regionAt r.region).pathMask.getLsbD 1 = true → s.mapCached (mapPageOf r.pbn) = true →
    ∃ t, exec (.readPathPoint id) s = .next t ∧ (∀ x ∈ t.tier.reads, x.id = id → x.stage = .directFlash) ∧ ((∀ q c k, r.who ≠ .step q c k) → { r with stage := .directFlash } ∈ t.tier.reads) ∧
      (∀ x ∈ s.tier.reads, x.id ≠ id → (∀ q c k, x.who ≠ .step q c k) → x ∈ t.tier.reads) ∧ t.out.getLast? = some (.device "T2_READ_PRIORITY" [r.pbn, r.unit]) ∧
      s.frame t [.regs, .qe, .mov, .tier, .flm, .out] [MOV.LAST_FCLASS, MOV.LAST_FOFF, MOV.LAST_STATUS]) ∧
  (∀ (s : State) (id : Nat) (r : WaitRead), s.readById id = some r → r.stage = .twinDram → (s.regionAt r.region).pathMask.getLsbD 2 = false → (s.regionAt r.region).pathMask.getLsbD 1 = false →
    ∃ t, exec (.twinPathTimeout id) s = .next t ∧ t.tier = { s.tier with reads := s.tier.reads.map fun x => if x.id = id then { x with stage := .ended } else x } ∧ s.keptBut t [.tier]) ∧
  (∀ (s : State) (id : Nat) (r : WaitRead) (v : State) (d : Sector) (p l tag : Nat), s.regsOk → s.readById id = some r → r.stage = .twinDram → (s.regionAt r.region).pathMask.getLsbD 2 = true →
    s.substitute r.region r.sector = (v, some (d, false)) → r.who = .cxl p l tag → v.serves r.grp = true →
    ∃ t dl, exec (.twinPathTimeout id) s = .next t ∧ (∀ x ∈ t.tier.reads, x.id ≠ id) ∧ t.out = v.out ++ [.cxl p l (.memData tag { data := d, poison := false }) dl] ∧ s.frame t ([.xlt, .qe, .mov, .tier, .cmn, .flm] ++ reported) ([MOV.OFFLINE, MOV.STATE, CME.VIOL_TX, CMP.TX_FRAMES, HP.POISON_CNT, MOV.FAULT_CNT, MOV.LAST_FCLASS, MOV.LAST_FOFF, MOV.LAST_STATUS, TIER.SLOW_PATH, TIER.SUBST] ++ reportedFields)) ∧
  (∀ (s : State) (id : Nat) (r : WaitRead) (p l tag : Nat), s.regsOk → s.readById id = some r → r.who = .cxl p l tag →
    ∃ t dl, exec (.readDeadline id) s = .next t ∧ (∀ x ∈ t.tier.reads, x.id ≠ id) ∧ t.out.getLast? = some (.cxl p l (.memData tag poisonSec) dl) ∧ s.frame t ([.mov, .xlt, .qe, .tier, .cmn] ++ reported) ([MOV.OFFLINE, MOV.STATE, CME.VIOL_TX, CMP.TX_FRAMES, HP.POISON_CNT, MOV.FAULT_CNT, MOV.LAST_FCLASS, MOV.LAST_FOFF, MOV.LAST_STATUS, TIER.SLOW_PATH] ++ reportedFields)) ∧
  (∀ (s : State) (qid : BitVec 20) (e : SqEntry) (es : List (BitVec 256)) (c : QueueCtx) (x : QEntry) (u o v z : State) (h : BitVec 40) (off : BitVec 64) (n : BitVec 16) (tag : BitVec 32) (base : BitVec 64)
    (d : Region) (l : List ListEntry) (ks : List SluEntry), s.regsOk →
    s.resting tierPage = false → s.fetches qid.toNat e c x u → x.cmd = .sluice h off n tag base → s.unstaged tierPage → u.flag TIER.SLUICE_EN = true →
    (u.begun qid.toNat c (u.flight qid.toNat c x)).walkQueue c.tenant h off.toNat (n.toNat * 32) false = (o, .ok d) → o.listRead (handleId h) d off.toNat n.toNat = (v, .ok es) →
    ((List.range es.length).filterMap fun k => (es[k]?).bind (listEntry k)) = l → l.length = es.length → v.sched c.tenant tag.toNat = none → v.tier.schedules.length < 4096 →
    (u.tier.schedules.map fun y => y.entries.length).foldl (· + ·) 0 + l.length ≤ 1048576 →
    l.foldl (fun (a : State × List SluEntry × Option Status) e =>
      let (s, r, st) := a.1.sluEntry c.tenant base.toNat e
      let s := if st.isSome then s.incMod TIER.MISSED else s
      (s, a.2.1 ++ [r], a.2.2.or st)) (v, [], none) = (z, ks, none) →
    z.sluNow { tenant := c.tenant, tag := tag.toNat, qid := qid.toNat, cmdId := x.cmdId.toNat, entries := ks, status := .ok, completed := false, start := z.timeNs } = [] → (ks.any fun k => !k.state.done) = true →
    ∃ t, exec (.sluice qid e) s = .next t ∧
      t.tier.schedules = z.tier.schedules ++ [{ tenant := c.tenant, tag := tag.toNat, qid := qid.toNat, cmdId := x.cmdId.toNat, entries := ks, status := .ok, completed := false, start := z.timeNs }] ∧
      u.flight qid.toNat c x ∈ t.qe.cmds ∧ s.frame t ([.xlt, .qe, .tier, .pan, .dmc, .flm] ++ reported) ([TIER.MISSED, TIER.ON_TIME, TIER.QUOTA_REFUSE, PAN.HIT_CNT, PAN.MISS_CNT, PAN.WB_CNT] ++ reportedFields)) ∧
  (∀ (s : State) (qid : BitVec 20) (e : SqEntry) (c : QueueCtx) (x : QEntry) (u : State) (tag : BitVec 32) (y : Schedule), s.regsOk →
    s.fetches qid.toNat e c x u → x.cmd = .sluiceCancel tag → u.sched c.tenant tag.toNat = some y → y.completed = false → (∀ k ∈ u.tier.schedules, ¬ (k.qid = qid.toNat ∧ k.cmdId = x.cmdId.toNat)) →
    ∃ t, exec (.sluiceCancel qid e) s = .next t ∧ t.sched c.tenant tag.toNat = none ∧ { u.flight qid.toNat c x with result := some okResult } ∈ t.qe.cmds ∧
      (∀ k ∈ t.qe.cmds, k.qid = y.qid → k.cmdId = y.cmdId → k.result.isSome = true) ∧ s.frame t ([.xlt, .qe, .tier, .pan, .dmc] ++ reported) ([PAN.HIT_CNT, PAN.MISS_CNT, PAN.WB_CNT] ++ reportedFields)) ∧
  (∀ (s : State) (tn : BitVec 12) (tag : BitVec 32) (i : Nat) (e : SluEntry) (p : Nat), s.regsOk → s.resting tierPage = false → s.sluEntryAt tn.toNat tag.toNat i = some e → e.trigger = none → e.state = .waiting →
    e.blocks = [p] → s.bmeZero e.region p = false → s.block p = none → (s.tier.frameWait.any fun y => y.pbn == p && y.pin == some tn.toNat) = false →
    s.pinCount < 16777216 → (s.quota tn.toNat).checkOk = true → (s.quota tn.toNat).t1Used + 1 ≤ (s.quota tn.toNat).t1Quota → 0 < s.freeFrames →
    ∃ t b, exec (.sluiceEligible tn tag i) s = .next t ∧ t.sluEntryAt tn.toNat tag.toNat i = some { e with state := .eligible, elig := true } ∧ t.block p = some b ∧ b.state = .rising ∧ b.pins = [tn.toNat] ∧ s.frame t ([.qe, .tier, .pan, .dmc, .flm] ++ reported) ([TIER.MISSED, TIER.ON_TIME, TIER.QUOTA_REFUSE, PAN.WB_CNT] ++ reportedFields)) ∧
  (∀ (s : State) (tn : BitVec 12) (tag : BitVec 32) (i : Nat) (e : SluEntry), s.regsOk → s.sluEntryAt tn.toNat tag.toNat i = some e → e.state = .eligible →
    (∀ p ∈ e.blocks, ∃ b, s.block p = some b ∧ b.state = .resident) →
    ∃ t, exec (.sluiceDue tn tag i) s = .next t ∧ t.get TIER.ON_TIME = (s.get TIER.ON_TIME + 1) % 2 ^ 64 ∧ t.get TIER.MISSED = s.get TIER.MISSED ∧
      (∀ k, t.sluEntryAt tn.toNat tag.toNat i = some k → k.state = .onTime) ∧ s.frame t [.regs, .qe, .tier] [TIER.MISSED, TIER.ON_TIME]) ∧
  (∀ (s : State) (tn : BitVec 12) (tag : BitVec 32) (i : Nat) (e : SluEntry) (p : Nat), s.regsOk → s.sluEntryAt tn.toNat tag.toNat i = some e → e.state = .eligible →
    p ∈ e.blocks → s.block p = none →
    ∃ t, exec (.sluiceDue tn tag i) s = .next t ∧ t.get TIER.MISSED = (s.get TIER.MISSED + 1) % 2 ^ 64 ∧ t.get TIER.ON_TIME = s.get TIER.ON_TIME ∧
      (∀ k, t.sluEntryAt tn.toNat tag.toNat i = some k → k.state = .missed) ∧ s.frame t [.regs, .qe, .tier] [TIER.MISSED, TIER.ON_TIME]) ∧
  (∀ (s : State) (tn : BitVec 12) (tag : BitVec 32) (i : Nat) (e : SluEntry), s.regsOk → s.sluEntryAt tn.toNat tag.toNat i = some e → e.state.done = false → s.unstaged tierPage →
    ∃ t, exec (.sluiceLifeExpiry tn tag i) s = .next t ∧ t.get TIER.MISSED = (s.get TIER.MISSED + 1) % 2 ^ 64 ∧
      (∀ k, t.sluEntryAt tn.toNat tag.toNat i = some k → k.state = .missed) ∧ s.frame t [.regs, .qe, .tier] [TIER.MISSED, TIER.ON_TIME]) ∧
  (∀ (s : State) (tn : BitVec 12) (tag : BitVec 32) (i : Nat) (e : SluEntry) (p : Nat) (b : TBlock), s.sluEntryAt tn.toNat tag.toNat i = some e → e.state.done = true → e.holdEnded = false → e.hold ≠ 0 →
    e.blocks = [p] → s.block p = some b → b.state = .resident → b.pins = [tn.toNat] →
    ∃ t c, exec (.sluiceHoldExpiry tn tag i) s = .next t ∧ t.block p = some c ∧ c.state = .leaving ∧ c.pins = [] ∧
      (∀ k, t.sluEntryAt tn.toNat tag.toNat i = some k → k.holdEnded = true) ∧ s.keptBut t [.qe, .tier]) ∧
  (∀ (s : State) (h : TwinHdr) (v : Nat), s.bitOf TWN.BUNDLES h.bundle.val = true → h.tagOk = true →
    ∃ t, exec (.tide h v) s = .next t ∧ t.twn.peerTide = v ∧ s.keptBut t [.twn])

/-- Pan range operations: CLEAN, CLEAN_INV, INV, LOCK, UNLOCK and their end: A write of OP by an admitted requester, INV only from the warden, over a range of whole lines starts the operation: BUSY is 1 and the four counters are 0. A bad range ends REFUSED, and so does INV from another requester, which sets OWNER_VIOL. When every slice has done its lines the operation is DONE: no line of a CLEAN range is dirty, none of a CLEAN_INV or INV range is left, INV writes nothing to the frames, lines of an UNLOCK range are unlocked at AGE 1, a LOCK asks T2 for the units of its blocks that are not PRESENT and waits, locks a present line with both sectors filled, and one of a line whose block is not resident counts in LOCK_REFUSED. Lines outside the range stay. Each clause gives its frame. -/
def Obligations.PanRangeOperations : Prop :=
  (∀ (s : State) (r : Requester) (base len : Nat), s.regsOk → s.admits r (panPage 0) → s.domainOn (Page.dom (panPage 0)) = true → s.flag PAN.BUSY = false →
    s.get PAN.MAINT_BASE = base → s.get PAN.MAINT_LEN = len → base % 128 = 0 → len % 128 = 0 → len ≠ 0 →
    ∃ t, exec (.clean r) s = .next t ∧ t.pan = { s.pan with op := some { op := panClean, base := base, len := len } } ∧ t.get PAN.BUSY = 1 ∧ t.get PAN.LOCKS_RELEASED = 0 ∧
      t.get PAN.LINES_WRITTEN = 0 ∧ t.get PAN.LINES_DISCARDED = 0 ∧ t.get PAN.LOCK_REFUSED = 0 ∧ s.frame t [.regs, .pan] [PAN.BUSY, PAN.LOCKS_RELEASED, PAN.LINES_WRITTEN, PAN.LINES_DISCARDED, PAN.LOCK_REFUSED, HDR.QUIESCED]) ∧
  (∀ (s : State) (r : Requester) (base len : Nat), s.regsOk → s.admits r (panPage 0) → s.domainOn (Page.dom (panPage 0)) = true → s.flag PAN.BUSY = false →
    s.get PAN.MAINT_BASE = base → s.get PAN.MAINT_LEN = len → base % 128 = 0 → len % 128 = 0 → len ≠ 0 →
    ∃ t, exec (.cleanInv r) s = .next t ∧ t.pan = { s.pan with op := some { op := panCleanInv, base := base, len := len } } ∧ t.get PAN.BUSY = 1 ∧ t.get PAN.LOCKS_RELEASED = 0 ∧
      t.get PAN.LINES_WRITTEN = 0 ∧ t.get PAN.LINES_DISCARDED = 0 ∧ t.get PAN.LOCK_REFUSED = 0 ∧ s.frame t [.regs, .pan] [PAN.BUSY, PAN.LOCKS_RELEASED, PAN.LINES_WRITTEN, PAN.LINES_DISCARDED, PAN.LOCK_REFUSED, HDR.QUIESCED]) ∧
  (∀ (s : State) (r : Requester) (base len : Nat), s.regsOk → s.governs r (panPage 0) → s.flag PAN.BUSY = false →
    s.get PAN.MAINT_BASE = base → s.get PAN.MAINT_LEN = len → base % 128 = 0 → len % 128 = 0 → len ≠ 0 →
    ∃ t, exec (.inv r) s = .next t ∧ t.pan = { s.pan with op := some { op := panInv, base := base, len := len } } ∧ t.get PAN.BUSY = 1 ∧ t.get PAN.LOCKS_RELEASED = 0 ∧
      t.get PAN.LINES_WRITTEN = 0 ∧ t.get PAN.LINES_DISCARDED = 0 ∧ t.get PAN.LOCK_REFUSED = 0 ∧ s.frame t [.regs, .pan] [PAN.BUSY, PAN.LOCKS_RELEASED, PAN.LINES_WRITTEN, PAN.LINES_DISCARDED, PAN.LOCK_REFUSED, HDR.QUIESCED]) ∧
  (∀ (s : State) (r : Requester) (base len : Nat), s.regsOk → s.admits r (panPage 0) → s.domainOn (Page.dom (panPage 0)) = true → s.flag PAN.BUSY = false →
    s.get PAN.MAINT_BASE = base → s.get PAN.MAINT_LEN = len → base % 128 = 0 → len % 128 = 0 → len ≠ 0 → ((rangeSlices base len).any fun k => s.get PAN.STATE k != panEnabled) = false →
    ∃ t, exec (.panLock r) s = .next t ∧ t.pan = { s.pan with op := some { op := panLock, base := base, len := len } } ∧ t.get PAN.BUSY = 1 ∧ t.get PAN.LOCKS_RELEASED = 0 ∧
      t.get PAN.LINES_WRITTEN = 0 ∧ t.get PAN.LINES_DISCARDED = 0 ∧ t.get PAN.LOCK_REFUSED = 0 ∧ s.frame t [.regs, .pan] [PAN.BUSY, PAN.LOCKS_RELEASED, PAN.LINES_WRITTEN, PAN.LINES_DISCARDED, PAN.LOCK_REFUSED, HDR.QUIESCED]) ∧
  (∀ (s : State) (r : Requester) (base len : Nat), s.regsOk → s.admits r (panPage 0) → s.domainOn (Page.dom (panPage 0)) = true → s.flag PAN.BUSY = false →
    s.get PAN.MAINT_BASE = base → s.get PAN.MAINT_LEN = len → base % 128 = 0 → len % 128 = 0 → len ≠ 0 →
    ∃ t, exec (.unlock r) s = .next t ∧ t.pan = { s.pan with op := some { op := panUnlock, base := base, len := len } } ∧ t.get PAN.BUSY = 1 ∧ t.get PAN.LOCKS_RELEASED = 0 ∧
      t.get PAN.LINES_WRITTEN = 0 ∧ t.get PAN.LINES_DISCARDED = 0 ∧ t.get PAN.LOCK_REFUSED = 0 ∧ s.frame t [.regs, .pan] [PAN.BUSY, PAN.LOCKS_RELEASED, PAN.LINES_WRITTEN, PAN.LINES_DISCARDED, PAN.LOCK_REFUSED, HDR.QUIESCED]) ∧
  (∀ (s : State) (r : Requester), s.regsOk → s.admits r (panPage 0) → s.domainOn (Page.dom (panPage 0)) = true → s.asWarden r = false → s.flag PAN.BUSY = false →
    ∃ t, exec (.inv r) s = .next t ∧ t.get PAN.RESULT = panRefused ∧ bit (t.rd (panPage 0) HDR.ERR_STAT) 0 = true ∧ t.pan = s.pan ∧ t.tier = s.tier ∧
      s.frame t reported ([PAN.RESULT, HDR.QUIESCED] ++ reportedFields)) ∧
  (∀ (s : State) (r : Requester), s.regsOk → s.admits r (panPage 0) → s.domainOn (Page.dom (panPage 0)) = true → s.flag PAN.BUSY = false →
    (s.get PAN.MAINT_BASE % 128 ≠ 0 ∨ s.get PAN.MAINT_LEN % 128 ≠ 0 ∨ s.get PAN.MAINT_LEN = 0) →
    ∃ t, exec (.cleanInv r) s = .next t ∧ t.get PAN.RESULT = panRefused ∧ s.frame t [.regs] [PAN.RESULT, HDR.QUIESCED]) ∧
  (∀ (s : State) (o : PanOp), s.regsOk → s.pan.op = some o → o.op = panClean → ((rangeSlices o.base o.len).any fun k => s.get PAN.STATE k == panClearing || s.get PAN.STATE k == panInvalidating) = false →
    ∃ t, exec .panMaintDone s = .next t ∧ t.pan.op = none ∧ t.get PAN.BUSY = 0 ∧ t.get PAN.RESULT = panDone ∧
      (∀ k x, tget t.pan.lines k = some x → inLines o.base o.len k x = true → x.dirty = false) ∧ (Rising s.pan.lines → ∀ k x, tget s.pan.lines k = some x → inLines o.base o.len k x = false → tget t.pan.lines k = some x) ∧ s.frame t ([.tier, .pan, .dmc] ++ reported) ([PAN.BUSY, PAN.LINES_DISCARDED, PAN.LINES_WRITTEN, PAN.LOCKS_RELEASED, PAN.LOCK_LOST_CNT, PAN.LOCK_REFUSED, PAN.RESULT, PAN.WB_CNT] ++ reportedFields)) ∧
  (∀ (s : State) (o : PanOp), s.regsOk → s.pan.op = some o → o.op = panCleanInv → ((rangeSlices o.base o.len).any fun k => s.get PAN.STATE k == panClearing || s.get PAN.STATE k == panInvalidating) = false →
    ∃ t, exec .panMaintDone s = .next t ∧ t.pan.op = none ∧ t.get PAN.BUSY = 0 ∧ t.get PAN.RESULT = panDone ∧
      (∀ k x, tget t.pan.lines k = some x → inLines o.base o.len k x = false) ∧ (Rising s.pan.lines → ∀ k x, tget s.pan.lines k = some x → inLines o.base o.len k x = false → tget t.pan.lines k = some x) ∧ s.frame t ([.tier, .pan, .dmc] ++ reported) ([PAN.BUSY, PAN.LINES_DISCARDED, PAN.LINES_WRITTEN, PAN.LOCKS_RELEASED, PAN.LOCK_LOST_CNT, PAN.LOCK_REFUSED, PAN.RESULT, PAN.WB_CNT] ++ reportedFields)) ∧
  (∀ (s : State) (o : PanOp), s.regsOk → s.pan.op = some o → o.op = panInv → ((rangeSlices o.base o.len).any fun k => s.get PAN.STATE k == panClearing || s.get PAN.STATE k == panInvalidating) = false →
    ∃ t, exec .panMaintDone s = .next t ∧ t.pan.op = none ∧ t.get PAN.BUSY = 0 ∧ t.get PAN.RESULT = panDone ∧
      (∀ k x, tget t.pan.lines k = some x → inLines o.base o.len k x = false) ∧ (Rising s.pan.lines → ∀ k x, tget s.pan.lines k = some x → inLines o.base o.len k x = false → tget t.pan.lines k = some x) ∧ t.tier = s.tier ∧ s.frame t ([.pan] ++ reported) ([PAN.BUSY, PAN.LINES_DISCARDED, PAN.LOCKS_RELEASED, PAN.LOCK_LOST_CNT, PAN.RESULT] ++ reportedFields)) ∧
  (∀ (s : State) (o : PanOp), s.regsOk → s.pan.op = some o → o.op = panUnlock → ((rangeSlices o.base o.len).any fun k => s.get PAN.STATE k == panClearing || s.get PAN.STATE k == panInvalidating) = false →
    ∃ t, exec .panMaintDone s = .next t ∧ t.pan.op = none ∧ t.get PAN.BUSY = 0 ∧ t.get PAN.RESULT = panDone ∧
      (∀ k x, tget t.pan.lines k = some x → inLines o.base o.len k x = true → x.lock = false ∧ x.age = 1) ∧ (Rising s.pan.lines → ∀ k x, tget s.pan.lines k = some x → inLines o.base o.len k x = false → tget t.pan.lines k = some x) ∧ t.tier = s.tier ∧ s.frame t ([.pan] ++ reported) ([PAN.BUSY, PAN.RESULT] ++ reportedFields)) ∧
  (∀ (s : State) (l k : Nat) (x : Line) (b : TBlock), s.regsOk → s.pan.op = some { op := panLock, base := l * 128, len := 128 } → s.get PAN.STATE (sliceOf l) = panEnabled →
    s.block (l / 512) = some b → b.state = .resident → b.unitPresent (l / 32 % 16) = true → s.panFind l = some (k, x) → x.lock = false → s.lockMissing { op := panLock, base := l * 128, len := 128 } = [] →
    ((List.range 24).filter fun w => match tget s.pan.lines (setKey (sliceOf l) (setOf l) + w) with | some y => y.lock | none => false).length < 12 →
    ∃ t, exec .panMaintDone s = .next t ∧ t.pan = { s.pan with op := none, lines := tset s.pan.lines k { x with
        lock := true, s0 := if x.s0.valid then x.s0 else cleanSec (s.frameRead (2 * l)), s1 := if x.s1.valid then x.s1 else cleanSec (s.frameRead (2 * l + 1)) } } ∧
      t.get PAN.BUSY = 0 ∧ t.get PAN.RESULT = panDone ∧ s.frame t ([.pan] ++ reported) ([PAN.BUSY, PAN.RESULT] ++ reportedFields)) ∧
  (∀ (s : State) (l : Nat), s.regsOk → s.pan.op = some { op := panLock, base := l * 128, len := 128 } → s.get PAN.STATE (sliceOf l) = panEnabled →
    s.block (l / 512) = none → s.panFind l = none → s.get PAN.LOCKS_RELEASED = 0 →
    ∃ t, exec .panMaintDone s = .next t ∧ t.pan = { s.pan with op := none } ∧ t.get PAN.LOCK_REFUSED = (s.get PAN.LOCK_REFUSED + 1) % 2 ^ 32 ∧ t.get PAN.RESULT = panDone ∧
      s.frame t [.regs, .pan] [PAN.LOCK_REFUSED, PAN.BUSY, PAN.RESULT]) ∧
  (∀ (s : State) (o : PanOp) (p u : Nat), s.pan.op = some o → s.lockMissing o = [(p, u)] → ((rangeSlices o.base o.len).any fun k => s.get PAN.STATE k == panClearing || s.get PAN.STATE k == panInvalidating) = false →
    ∃ t, exec .panMaintDone s = .next t ∧ (∀ b, t.block p = some b → b.filling.contains u = true) ∧ t.pan = s.pan ∧ s.keptBut t [.tier, .flm, .out])

/-- Pan slices: disabling, draining, clearing, discarding, invalidating, scrub, trackers: A write of DISABLE waits as a change of the slice's page alone; applied in ENABLED, 1 starts DRAINING; 0 takes DRAINING back to ENABLED with the lines kept. A drained slice holds no dirty line and is CLEARING; a cleared one holds no line, counts the locks it released and is DISABLED. DISCARD by the warden in DRAINING takes the dirty lines away, counts them and starts CLEARING. An invalidated slice holds no line, is ENABLED and serves the reads it stalled. The third corrected error of a way retires it; an uncorrectable error invalidates a clean line, and poisons a dirty sector whose partner copy is not current. An idle tracker is freed. Each clause gives its frame. -/
def Obligations.PanSlices : Prop :=
  (∀ (s : State) (r : Requester) (n : Slice), s.regsOk → s.admits r (panPage n.val) → s.domainOn (Page.dom (panPage n.val)) = true → s.stageHeld (panPage n.val) = false → s.rd (panPage n.val) HDR.ARM = 0 →
    ∃ t, exec (.panDisable r n) s = .next t ∧ t.ctl.single.getLast? = some { page := panPage n.val, key := PAN.DISABLE.key (panPage n.val) 0, value := 1 } ∧ s.frame t [.regs, .ctl] [HDR.QUIESCED]) ∧
  (∀ (s : State) (r : Requester) (n : Slice), s.regsOk → s.admits r (panPage n.val) → s.domainOn (Page.dom (panPage n.val)) = true → s.stageHeld (panPage n.val) = false → s.rd (panPage n.val) HDR.ARM = 0 →
    ∃ t, exec (.panEnable r n) s = .next t ∧ t.ctl.single.getLast? = some { page := panPage n.val, key := PAN.DISABLE.key (panPage n.val) 0, value := 0 } ∧ s.frame t [.regs, .ctl] [HDR.QUIESCED]) ∧
  (∀ (s : State) (n : Slice), s.regsOk → s.ctl.single = [{ page := panPage n.val, key := PAN.DISABLE.key (panPage n.val) 0, value := 1 }] → s.part (panPage n.val) = none →
    s.flag PAN.DISABLE n.val = false → s.get PAN.STATE n.val = panEnabled →
    ∃ t, exec (.stageApply (panPage n.val)) s = .next t ∧ t.flag PAN.DISABLE n.val = true ∧ t.get PAN.STATE n.val = panDraining ∧ t.pan = s.pan ∧
      s.frame t [.regs, .ctl] [PAN.DISABLE, PAN.STATE, HDR.APPLIED, HDR.APPLIED_EPOCH]) ∧
  (∀ (s : State) (n : Slice), s.regsOk → s.ctl.single = [{ page := panPage n.val, key := PAN.DISABLE.key (panPage n.val) 0, value := 0 }] → s.part (panPage n.val) = none →
    s.get PAN.DISABLE n.val = 1 →
    ∃ t, exec (.stageApply (panPage n.val)) s = .next t ∧ t.flag PAN.DISABLE n.val = false ∧
      t.get PAN.STATE n.val = (if s.get PAN.STATE n.val = panDraining then panEnabled else if s.get PAN.STATE n.val = panClearing ∨ s.get PAN.STATE n.val = panDisabled then panInvalidating else s.get PAN.STATE n.val) ∧
      t.pan = s.pan ∧ s.frame t [.regs, .ctl] [PAN.DISABLE, PAN.STATE, HDR.APPLIED, HDR.APPLIED_EPOCH]) ∧
  (∀ (s : State) (n : Slice), s.regsOk → s.get PAN.STATE n.val = panDraining →
    ∃ t, exec (.panDrainDone n) s = .next t ∧ t.get PAN.STATE n.val = panClearing ∧ (∀ k x, tget t.pan.lines k = some x → k / 32 / 8192 = n.val → x.dirty = false) ∧ s.frame t [.regs, .tier, .pan, .dmc] [PAN.STATE, PAN.WB_CNT]) ∧
  (∀ (s : State) (n : Slice), s.regsOk → s.get PAN.STATE n.val = panClearing →
    ∃ t, exec (.panClearingDone n) s = .next t ∧ t.get PAN.STATE n.val = panDisabled ∧ (s.tier.reads = [] → ∀ k x, tget t.pan.lines k = some x → k / 32 / 8192 ≠ n.val) ∧
      (∀ m, s.lockedLines n.val = m + 1 → t.get PAN.LOCK_LOST_CNT n.val = satAdd 32 (s.get PAN.LOCK_LOST_CNT n.val) (m + 1)) ∧ s.frame t ([.xlt, .qe, .mov, .tier, .pan, .cmn, .dmc, .flm] ++ reported) ([MOV.OFFLINE, MOV.STATE, CME.VIOL_TX, CMP.TX_FRAMES, HP.POISON_CNT, MOV.FAULT_CNT, MOV.LAST_FCLASS, MOV.LAST_FOFF, MOV.LAST_STATUS, PAN.HIT_CNT, PAN.LOCK_LOST_CNT, PAN.MISS_CNT, PAN.STATE, PAN.WB_CNT, TIER.SLOW_PATH, PAN.LOCKS_RELEASED] ++ reportedFields)) ∧
  (∀ (s : State) (n : Slice), s.regsOk → s.get PAN.STATE n.val = panInvalidating → s.flag PAN.DISABLE n.val = false →
    ∃ t, exec (.panInvalidateDone n) s = .next t ∧ t.get PAN.STATE n.val = panEnabled ∧ (s.tier.reads = [] → ∀ k x, tget t.pan.lines k = some x → k / 32 / 8192 ≠ n.val) ∧ s.frame t ([.xlt, .qe, .mov, .tier, .pan, .cmn, .dmc, .flm] ++ reported) ([MOV.OFFLINE, MOV.STATE, CME.VIOL_TX, CMP.TX_FRAMES, HP.POISON_CNT, MOV.FAULT_CNT, MOV.LAST_FCLASS, MOV.LAST_FOFF, MOV.LAST_STATUS, PAN.HIT_CNT, PAN.LOCK_LOST_CNT, PAN.MISS_CNT, PAN.STATE, PAN.WB_CNT, TIER.SLOW_PATH, PAN.LOCKS_RELEASED] ++ reportedFields)) ∧
  (∀ (s : State) (n : Slice) (r : WaitRead) (b : TBlock) (p l tag : Nat), s.regsOk → s.get PAN.STATE n.val = panInvalidating → s.flag PAN.DISABLE n.val = false → s.tier.reads = [r] → r.panStall = true →
    sliceOf (r.sector / 2) = n.val → s.resting (panPage n.val) = false → s.block r.pbn = some b → b.unitPresent r.unit = true → r.who = .cxl p l tag → s.serves r.grp = true →
    (s.frameRead r.sector).poison = false →
    ∃ t dl, exec (.panInvalidateDone n) s = .next t ∧ t.tier.reads = [] ∧ t.out.getLast? = some (.cxl p l (.memData tag (s.frameRead r.sector)) dl) ∧ s.frame t ([.xlt, .qe, .mov, .tier, .pan, .cmn, .dmc, .flm] ++ reported) ([MOV.OFFLINE, MOV.STATE, CME.VIOL_TX, CMP.TX_FRAMES, HP.POISON_CNT, MOV.FAULT_CNT, MOV.LAST_FCLASS, MOV.LAST_FOFF, MOV.LAST_STATUS, PAN.HIT_CNT, PAN.LOCK_LOST_CNT, PAN.MISS_CNT, PAN.STATE, PAN.WB_CNT, TIER.SLOW_PATH, PAN.LOCKS_RELEASED] ++ reportedFields)) ∧
  (∀ (s : State) (r : Requester) (n : Slice), s.regsOk → s.governs r (panPage n.val) → s.stageHeld (panPage n.val) = false → s.rd (panPage n.val) HDR.ARM = 0 → s.get PAN.STATE n.val = panDraining →
    ∃ t, exec (.discard r n) s = .next t ∧ t.get PAN.STATE n.val = panClearing ∧ t.get PAN.DISCARD_CNT n.val = satAdd 32 (s.get PAN.DISCARD_CNT n.val) (s.dirtyLines n.val) ∧
      (∀ k x, tget t.pan.lines k = some x → k / 32 / 8192 = n.val → x.dirty = false) ∧ t.tier = s.tier ∧
      s.frame t ([.pan, .ctl] ++ reported) ([PAN.STATE, PAN.DISCARD_CNT, PAN.LOCK_LOST_CNT, HDR.QUIESCED] ++ reportedFields)) ∧
  (∀ (s : State) (n : Slice) (i : Fin 8192) (w : Fin 24) (h : Fin 2) (x : Line), s.regsOk → tget s.pan.lines (setKey n.val i.val + w.val) = some x →
    (tget s.pan.wayErrs (setKey n.val i.val + w.val)).getD 0 < 2 →
    ∃ t, exec (.panScrub n i w (.correctable h)) s = .next t ∧
      t.pan = { s.pan with wayErrs := tset s.pan.wayErrs (setKey n.val i.val + w.val) ((tget s.pan.wayErrs (setKey n.val i.val + w.val)).getD 0 + 1) } ∧
      t.get PAN.CE_CNT n.val = satAdd 32 (s.get PAN.CE_CNT n.val) 1 ∧ s.frame t [.regs, .pan, .twn, .dmc] [PAN.CE_CNT, PAN.LOCKS_RELEASED]) ∧
  (∀ (s : State) (n : Slice) (i : Fin 8192) (w : Fin 24) (h : Fin 2) (x : Line), s.regsOk → tget s.pan.lines (setKey n.val i.val + w.val) = some x →
    tget s.pan.wayErrs (setKey n.val i.val + w.val) = some 2 → s.pan.retired = [] →
    ∃ t, exec (.panScrub n i w (.correctable h)) s = .next t ∧ t.pan.retired = [setKey n.val i.val + w.val] ∧ tget t.pan.lines (setKey n.val i.val + w.val) = none ∧
      t.get PAN.RETIRED_WAYS n.val = satAdd 16 (s.get PAN.RETIRED_WAYS n.val) 1 ∧ bit (t.rd (panPage n.val) HDR.ERR_STAT) 19 = true ∧ s.frame t ([.tier, .pan, .twn, .dmc] ++ reported) ([PAN.CE_CNT, PAN.DISABLE, PAN.LOCK_LOST_CNT, PAN.RETIRED_WAYS, PAN.STATE, PAN.UE_CNT, PAN.WB_CNT, PAN.LOCKS_RELEASED] ++ reportedFields)) ∧
  (∀ (s : State) (n : Slice) (i : Fin 8192) (w : Fin 24) (h : Fin 2) (x : Line), s.regsOk → tget s.pan.lines (setKey n.val i.val + w.val) = some x →
    (x.sec h.val).valid = true → (x.sec h.val).dirty = false →
    ∃ t, exec (.panScrub n i w (.uncorrectable h)) s = .next t ∧ tget t.pan.lines (setKey n.val i.val + w.val) = none ∧ t.get PAN.UE_CNT n.val = satAdd 32 (s.get PAN.UE_CNT n.val) 1 ∧ s.frame t ([.tier, .pan, .twn, .dmc] ++ reported) ([PAN.CE_CNT, PAN.DISABLE, PAN.LOCK_LOST_CNT, PAN.RETIRED_WAYS, PAN.STATE, PAN.UE_CNT, PAN.WB_CNT, PAN.LOCKS_RELEASED] ++ reportedFields)) ∧
  (∀ (s : State) (n : Slice) (i : Fin 8192) (w : Fin 24) (h : Fin 2) (x : Line), s.regsOk → tget s.pan.lines (setKey n.val i.val + w.val) = some x →
    (x.sec h.val).valid = true → (x.sec h.val).dirty = true → s.twinCurrent (keyLine (setKey n.val i.val + w.val) x * 2 + h.val) = false →
    ∃ t y, exec (.panScrub n i w (.uncorrectable h)) s = .next t ∧ tget t.pan.lines (setKey n.val i.val + w.val) = some y ∧ y.sec h.val = { x.sec h.val with val := { (x.sec h.val).val with poison := true } } ∧
      y.sec (1 - h.val) = x.sec (1 - h.val) ∧ t.tier = s.tier ∧ s.frame t ([.tier, .pan, .twn, .dmc] ++ reported) ([PAN.CE_CNT, PAN.DISABLE, PAN.LOCK_LOST_CNT, PAN.RETIRED_WAYS, PAN.STATE, PAN.UE_CNT, PAN.WB_CNT, PAN.LOCKS_RELEASED] ++ reportedFields)) ∧
  (∀ (s : State) (r : ReadReq),
    ∃ t, exec (.trackerExpiry r) s = .next t ∧ t.pan = { s.pan with trackers := s.pan.trackers.filter fun x => x.who != r } ∧ s.keptBut t [.pan])

/-- DRAM channels: training, pairs, retraining, write CRC, self-refresh: A channel whose training passes is READY at its rate and capacity; the last one decides the pairs of the interleave, and a READY channel left out is EXCLUDED. A failed restored training becomes a cold one, a failed cold one is run once more, and a second failure excludes the channel with TRAIN_FAIL. Drift beyond DRIFT_PS starts the retraining of a rank, its end makes the channel READY again, a failed verify makes it FAILED, and while paired TWN is fenced for a channel of the interleave. A write CRC alert is replayed and counted; the ninth rejection of one write retrains the rank, a further one fails the channel. An idle channel enters self-refresh, and its exit clears every debt of its ranks. Calibration changes nothing. Each clause gives its frame. -/
def Obligations.DramTraining : Prop :=
  (∀ (s : State) (c : Chan) (r : TrainRun), s.regsOk → tget s.dmc.training c.val = some r → s.get DMC.NCHAN ≠ 0 → s.dmc.srWait.contains c.val = false → (∀ x ∈ s.tier.reads, x.panStall = false) →
    ∃ t, exec (.dmcTrainingDone c .pass) s = .next t ∧ t.get DMC.STATE c.val = dmcReady ∧ t.get DMC.RATE_NOW c.val = s.dmcRate c.val ∧
      t.get DMC.CAP_GIB c.val = chanGib (s.dmcTopo c.val) % 2 ^ 32 ∧
      t.dmc = { s.dmc with training := tdel s.dmc.training c.val, leaving := s.dmc.leaving.filter (· != c.val), srWait := s.dmc.srWait.filter (· != c.val), newImages := !r.restored || s.dmc.newImages } ∧
      (r.restored = true → t.nvs = s.nvs) ∧ (r.restored = false → tget t.nvs.image.train c.val = some (topoCode (s.dmcTopo c.val), s.dmcRate c.val, Config.chanTemp s.timeNs c.val)) ∧
      s.frame t [.regs, .qe, .mov, .tier, .dmc, .nvs] [DMC.STATE, DMC.RATE_NOW, DMC.CAP_GIB, MOV.LAST_FCLASS, MOV.LAST_FOFF, MOV.LAST_STATUS]) ∧
  (∀ (s : State) (c : Chan) (r : TrainRun) (ps : List Nat), s.regsOk → tget s.dmc.training c.val = some r → s.get DMC.NCHAN = 0 → (∀ d, d < 12 → d ≠ c.val → s.get DMC.STATE d ≠ dmcTraining) →
    s.dmc.srWait.contains c.val = false → (∀ d, d < 12 → s.unstaged (dmcPage d)) → (s.put DMC.STATE dmcReady c.val).pairsBest = ps →
    ∃ t, exec (.dmcTrainingDone c .pass) s = .next t ∧ t.get DMC.NCHAN = 2 * ps.length ∧
      (∀ d, d < 12 → (s.put DMC.STATE dmcReady c.val).dmcTrained d = true →
        t.get DMC.STATE d = (if ps.contains (d / 2) then (s.put DMC.STATE dmcReady c.val).get DMC.STATE d else dmcExcluded)) ∧
      s.frame t ([.nvs] ++ unstallParts) ([DMC.CAP_GIB, DMC.DRAM_GIB, DMC.NCHAN, DMC.PAIRS_USED, DMC.RATE_NOW, DMC.STATE] ++ unstallFields)) ∧
  (∀ (s : State) (c : Chan) (r : TrainRun) (k : Fin 9), tget s.dmc.training c.val = some r → r.restored = true →
    ∃ t, exec (.dmcTrainingDone c (.fail k)) s = .next t ∧ tget t.dmc.training c.val = some { restored := false, retried := false } ∧
      t.out = s.out ++ (if s.pprRows c.val = [] then [] else [.device "DRAM_HARD_PPR" (s.pprRows c.val)]) ∧ s.keptBut t [.dmc, .out]) ∧
  (∀ (s : State) (c : Chan) (r : TrainRun) (k : Fin 9), tget s.dmc.training c.val = some r → r.restored = false → r.retried = false →
    ∃ t, exec (.dmcTrainingDone c (.fail k)) s = .next t ∧ tget t.dmc.training c.val = some { restored := false, retried := true } ∧
      t.out = s.out ++ [.device "DRAM_TRAIN_FROM" [c.val, min 5 k.val]] ∧ s.keptBut t [.dmc, .out]) ∧
  (∀ (s : State) (c : Chan) (r : TrainRun) (k : Fin 9), s.regsOk → tget s.dmc.training c.val = some r → r.restored = false → r.retried = true → s.bitOf DMC.PAIRS_USED (c.val / 2) = false →
    s.get DMC.NCHAN ≠ 0 → s.unstaged (dmcPage c.val) →
    ∃ t, exec (.dmcTrainingDone c (.fail k)) s = .next t ∧ t.get DMC.STATE c.val = dmcExcluded ∧ t.get DMC.RATE_NOW c.val = 0 ∧ t.get DMC.TRAIN_STEP c.val = k.val ∧ tget t.dmc.training c.val = none ∧
      bit (t.rd (dmcPage c.val) HDR.ERR_STAT) 19 = true ∧ s.frame t ([.dmc] ++ reported) ([DMC.STATE, DMC.RATE_NOW, DMC.TRAIN_STEP] ++ reportedFields)) ∧
  (∀ (s : State) (c : Chan) (r : Fin 4) (d : BitVec 16), s.regsOk → s.get DMC.STATE c.val = dmcReady → s.frozen = false → r.val < s.get DMC.RANKS c.val → s.get DMC.DRIFT_PS c.val < d.toNat →
    ∃ t, exec (.oscillatorCheck c r d) s = .next t ∧ t.get DMC.STATE c.val = dmcRetrain ∧ t.get DMC.RETRAIN_CNT c.val = satAdd 32 (s.get DMC.RETRAIN_CNT c.val) 1 ∧
      t.dmc = { s.dmc with retraining := tset s.dmc.retraining c.val r.val } ∧ s.frame t [.regs, .dmc] [DMC.STATE, DMC.RETRAIN_CNT]) ∧
  (∀ (s : State) (c : Chan) (r : Fin 4) (d : BitVec 16), d.toNat ≤ s.get DMC.DRIFT_PS c.val → exec (.oscillatorCheck c r d) s = .next s) ∧
  (∀ (s : State) (c : Chan) (r : Nat), s.regsOk → tget s.dmc.retraining c.val = some r → s.dmc.wcrc = [] →
    ∃ t, exec (.retrainStep c .done) s = .next t ∧ t.get DMC.STATE c.val = dmcReady ∧ t.dmc = { s.dmc with retraining := tdel s.dmc.retraining c.val } ∧ s.frame t [.regs, .dmc] [DMC.STATE]) ∧
  (∀ (s : State) (c : Chan) (r : Nat), s.regsOk → tget s.dmc.retraining c.val = some r → s.get DMC.STATE c.val ≠ dmcFailed → s.get DMC.NCHAN ≠ 0 → s.unstaged (dmcPage c.val) →
    ∃ t, exec (.retrainStep c .verifyFails) s = .next t ∧ t.get DMC.STATE c.val = dmcFailed ∧ t.get DMC.RATE_NOW c.val = 0 ∧ tget t.dmc.retraining c.val = none ∧
      (s.bitOf DMC.PAIRS_USED (c.val / 2) = true → s.mirroring = true → t.get TWN.STATE = roleFenced) ∧
      (s.bitOf DMC.PAIRS_USED (c.val / 2) = false → t.get TWN.STATE = s.get TWN.STATE) ∧ s.frame t failParts failFields) ∧
  (∀ (s : State) (c : Chan) (r : Fin 4), exec (.zqCalibration c r) s = .next s) ∧
  (∀ (s : State) (c : Chan) (r : Fin 4) (sub : Bool) (w : Nat), s.regsOk → s.flag DMC.WCRC_EN c.val = true → s.dmcServes c.val = true → tget s.dmc.wcrc (subKey c.val r.val sub) = none →
    ∃ t, exec (.wcrcAlert c r sub w) s = .next t ∧ t.dmc = { s.dmc with wcrc := tset s.dmc.wcrc (subKey c.val r.val sub) (w, 1) } ∧
      t.get DMC.WCRC_CNT c.val = satAdd 32 (s.get DMC.WCRC_CNT c.val) 1 ∧ t.out = s.out ++ [.device "DRAM_REPLAY" ((2 * c.val + b2n sub) :: s.replayFrom (2 * c.val + b2n sub) w)] ∧
      s.frame t [.regs, .dmc, .out] [DMC.WCRC_CNT]) ∧
  (∀ (s : State) (c : Chan) (r : Fin 4) (sub : Bool) (w : Nat), s.regsOk → s.flag DMC.WCRC_EN c.val = true → s.get DMC.STATE c.val = dmcReady → s.frozen = false →
    tget s.dmc.wcrc (subKey c.val r.val sub) = some (w, 8) →
    ∃ t, exec (.wcrcAlert c r sub w) s = .next t ∧ t.get DMC.STATE c.val = dmcRetrain ∧ tget t.dmc.retraining c.val = some r.val ∧ tget t.dmc.wcrc (subKey c.val r.val sub) = some (w, 9) ∧
      s.frame t [.regs, .dmc] [DMC.STATE, DMC.RETRAIN_CNT]) ∧
  (∀ (s : State) (c : Chan) (r : Fin 4) (sub : Bool) (w : Nat), s.regsOk → s.flag DMC.WCRC_EN c.val = true → s.dmcServes c.val = true → s.get DMC.NCHAN ≠ 0 → s.unstaged (dmcPage c.val) →
    tget s.dmc.wcrc (subKey c.val r.val sub) = some (w, 10) →
    ∃ t, exec (.wcrcAlert c r sub w) s = .next t ∧ t.get DMC.STATE c.val = dmcFailed ∧ bit (t.rd (dmcPage c.val) HDR.ERR_STAT) 17 = true ∧ s.frame t failParts failFields) ∧
  (∀ (s : State) (c : Chan), s.regsOk → s.get DMC.SR_IDLE_US c.val ≠ 0 → s.frozen = false → s.get DMC.STATE c.val = dmcReady → s.chanIdle c.val (s.get DMC.SR_IDLE_US c.val * 1000) = true → s.chanReads c.val = [] →
    ∃ t, exec (.srIdleEntry c) s = .next t ∧ t.get DMC.STATE c.val = dmcSelfRefresh ∧
      t.dmc = { s.dmc with retraining := tdel s.dmc.retraining c.val, pdRanks := s.dmc.pdRanks.filter (fun k => k / 4 != c.val), replay := s.dmc.replay.filter fun e => e.1 / 2 != c.val } ∧
      (∀ k, k / 2 = c.val → tget t.tier.writes k = none) ∧ s.frame t [.tier, .regs, .dmc] [DMC.STATE]) ∧
  (∀ (s : State) (c : Chan) (v : Bool), s.regsOk → s.get DMC.STATE c.val = dmcSelfRefresh → topoOk (s.dmcTopo c.val) = true → s.get DMC.RANKS c.val ≠ 0 → s.get DMC.NCHAN ≠ 0 → s.unstaged (dmcPage c.val) →
    s.dmc.srWait.contains c.val = false → (∀ x ∈ s.tier.reads, x.panStall = false) →
    ∃ t, exec (.selfRefreshExitDone c v) s = .next t ∧ t.get DMC.STATE c.val = (if v then dmcReady else dmcTraining) ∧ (∀ r, r < 4 → t.debts c.val r = [0, 0, 0, 0]) ∧
      (v = false → tget t.dmc.training c.val = some { restored := false, retried := false }) ∧
      s.frame t [.regs, .qe, .mov, .tier, .dmc, .out] [DMC.STATE, DMC.RATE_NOW, DMC.CAP_GIB, MOV.LAST_FCLASS, MOV.LAST_FOFF, MOV.LAST_STATUS]) ∧
  (∀ (s : State) (c : Chan) (r : TrainRun), s.regsOk → tget s.dmc.training c.val = some r → s.get DMC.NCHAN ≠ 0 → s.dmc.srWait.contains c.val = false →
    ∃ t, exec (.dmcTrainingDone c .pass) s = .next t ∧ t.get DMC.STATE c.val = dmcReady ∧ t.get DMC.RATE_NOW c.val = s.dmcRate c.val ∧
      s.frame t ([.nvs] ++ unstallParts) ([DMC.STATE, DMC.RATE_NOW, DMC.CAP_GIB] ++ unstallFields)) ∧
  (∀ (s : State) (c : Chan) (r : TrainRun), s.regsOk → tget s.dmc.training c.val = some r → s.dmc.srWait.contains c.val = true → s.wdn.warm = false →
    ∃ t, exec (.dmcTrainingDone c .pass) s = .next t ∧ t.get DMC.STATE c.val = dmcSelfRefresh ∧ t.dmc.srWait.contains c.val = false ∧
      s.frame t [.regs, .qe, .mov, .tier, .dmc, .nvs] [DMC.STATE, DMC.RATE_NOW, DMC.CAP_GIB, MOV.LAST_FCLASS, MOV.LAST_FOFF, MOV.LAST_STATUS]) ∧
  (∀ (s : State) (c : Chan) (d : Nat) (r : TrainRun) (k : Fin 9), s.regsOk → tget s.dmc.training c.val = some r → r.restored = false → r.retried = true → s.bitOf DMC.PAIRS_USED (c.val / 2) = true →
    d < 12 → d ≠ c.val → s.get DMC.STATE d = dmcTraining → s.unstaged (dmcPage c.val) →
    ∃ t, exec (.dmcTrainingDone c (.fail k)) s = .next t ∧ t.get DMC.STATE c.val = dmcExcluded ∧ t.get DMC.NCHAN = 0 ∧ s.frame t ([.dmc] ++ reported) ([DMC.STATE, DMC.RATE_NOW, DMC.TRAIN_STEP, DMC.NCHAN] ++ reportedFields)) ∧
  (∀ (s : State) (c : Chan) (r : Fin 4) (w : Nat), s.regsOk → tget s.dmc.retraining c.val = some r.val → s.dmc.wcrc = [(subKey c.val r.val false, (w, 9))] →
    ∃ t, exec (.retrainStep c .done) s = .next t ∧ t.get DMC.STATE c.val = dmcReady ∧ t.dmc.wcrc = [(subKey c.val r.val false, (w, 10))] ∧ tget t.dmc.retraining c.val = none ∧
      t.get DMC.WCRC_CNT c.val = satAdd 32 (s.get DMC.WCRC_CNT c.val) 1 ∧ t.out = s.out ++ [.device "DRAM_REPLAY" (2 * c.val :: s.replayFrom (2 * c.val) w)] ∧ s.frame t [.regs, .dmc, .out] [DMC.STATE, DMC.WCRC_CNT]) ∧
  (∀ (s : State) (c : Chan), s.get DMC.STATE c.val = dmcTraining → s.dmc.srWait.contains c.val = false → s.selfRefresh c.val = { s with dmc := { s.dmc with srWait := s.dmc.srWait ++ [c.val] } })

/-- DRAM reads and scrub: code, corrections, rewrites, map-out, losses; refresh debts, rates, power-down: A burst with one device wrong is corrected by taking that device's error off, and one with two devices wrong in fewer than four symbols is uncorrectable. A read is of the place it names; a good one changes no more than the rank's power-down and the time of its last request. A correction counts in CE_CNT and, below MAPOUT_CE in the hour, maps nothing out; at the limit it maps the device out. The corrected sector is rewritten, with the poison it decoded with, and the rewrite is discarded where a write has been accepted since the read. An uncorrectable read that its retry does not save counts in UE_CNT: a clean unit of a frame is refilled, brine without a current partner copy is poisoned, a bittern unit is dropped. A parity failure counts, and of a reissued command fails the channel. A tick raises each debt of a rank, takes one from each where one reaches REF_POSTPONE, and clears those of idle indexes. The refresh-rate indication is followed. A rank that no request has reached for PD_IDLE cycles powers down while its channel has no urgent one. An ECS count is recorded. Each clause gives its frame. -/
def Obligations.DramReadsAndRefresh : Prop :=
  (∀ (b : Burst) (d : Nat), b.devs none = [d] → b.tag = 0 → burstDecode b none false = .corrected d (b.dev d) false ∧ fixLeft b none d (b.dev d) = 0) ∧
  (∀ (b : Burst) (d e : Nat) (p : Bool), b.devs none = [d, e] → symWeight (b.dev d) + symWeight (b.dev e) + symWeight b.tag.toNat < 4 → burstDecode b none p = .uncorrectable) ∧
  (∀ (s : State) (c : Chan) (r : Fin 4) (sub : Bool) (a : DramAddr) (i : Nat) (b b' : Burst), s.dmcServes c.val = true → s.dramAt c.val sub a = true →
    (burstDecode b (s.mappedOut c.val r.val sub) (s.dramPoison a.use) = .good ∨ burstDecode b (s.mappedOut c.val r.val sub) (s.dramPoison a.use) = .poisoned) →
    ∃ t, exec (.dramReadDone c r sub a i (.burst b b')) s = .next t ∧ t.dmc = { s.dmc with pdRanks := s.dmc.pdRanks.filter (· != rankKey c.val r.val), asked := tset s.dmc.asked (rankKey c.val r.val) s.timeNs } ∧ s.keptBut t [.dmc]) ∧
  (∀ (s : State) (c : Chan) (r : Fin 4) (sub : Bool) (a : DramAddr) (i d f : Nat) (p : Bool) (b b' : Burst), s.regsOk → s.dmcServes c.val = true → s.flag DMC.PATROL_EN c.val = true → s.frozen = false → s.dramAt c.val sub a = true → a.use ≠ .command →
    burstDecode b (s.mappedOut c.val r.val sub) (s.dramPoison a.use) = .corrected d f p →
    bits (s.get DMC.MAPOUT c.val) (4 * (2 * r.val + b2n sub)) 4 ≠ d →
    (((tget s.dmc.ces (subKey c.val r.val sub * 16 + d)).getD []).filter fun x => s.timeNs < x + hourNs).length + 1 < s.get DMC.MAPOUT_CE c.val →
    ∃ t, exec (.patrolScrubRead c r sub a i (.burst b b')) s = .next t ∧ t.get DMC.CE_CNT c.val = satAdd 32 (s.get DMC.CE_CNT c.val) 1 ∧
      tget t.dmc.ces (subKey c.val r.val sub * 16 + d) = some ((((tget s.dmc.ces (subKey c.val r.val sub * 16 + d)).getD []).filter fun x => s.timeNs < x + hourNs) ++ [s.timeNs]) ∧
      s.frame t [.regs, .dmc, .tier, .twn] [DMC.CE_CNT]) ∧
  (∀ (s : State) (c : Chan) (r : Fin 4) (sub : Bool) (a : DramAddr) (i d f : Nat) (p : Bool) (b b' : Burst), s.regsOk → s.dmcServes c.val = true → s.dramAt c.val sub a = true → a.use ≠ .command → d < 10 →
    burstDecode b none (s.dramPoison a.use) = .corrected d f p → bits (s.get DMC.MAPOUT c.val) (4 * (2 * r.val + b2n sub)) 4 = 0xF →
    s.get DMC.MAPOUT_CE c.val ≤ (((tget s.dmc.ces (subKey c.val r.val sub * 16 + d)).getD []).filter fun x => s.timeNs < x + hourNs).length + 1 →
    ∃ t, exec (.dramReadDone c r sub a i (.burst b b')) s = .next t ∧ bits (t.get DMC.MAPOUT c.val) (4 * (2 * r.val + b2n sub)) 4 = d ∧
      bit (t.rd (dmcPage c.val) HDR.ERR_STAT) 21 = true ∧ s.frame t ([.dmc, .tier, .twn] ++ reported) ([DMC.CE_CNT, DMC.MAPOUT] ++ reportedFields)) ∧
  (∀ (s : State) (c : Chan) (r : Fin 4) (sub : Bool) (a : DramAddr) (i d f n : Nat) (p : Bool) (b b' : Burst), s.regsOk → s.dmcServes c.val = true → s.dramAt c.val sub a = true → a.use = .frame n →
    burstDecode b (s.mappedOut c.val r.val sub) (s.dramPoison a.use) = .corrected d f p → fixLeft b (s.mappedOut c.val r.val sub) d f = 0 →
    (∀ x, tget s.tier.written (2 * n) = some x → x < i) → ((tget s.tier.writes (2 * c.val + b2n sub)).getD []).length < 128 →
    ∃ t, exec (.dramReadDone c r sub a i (.burst b b')) s = .next t ∧ t.frameRead n = { s.frameRead n with poison := p } ∧ (∀ m, m ≠ n → t.frameRead m = s.frameRead m) ∧
      tget t.tier.written (2 * n) = some s.timeNs ∧
      tget t.tier.writes (2 * c.val + b2n sub) = some (((tget s.tier.writes (2 * c.val + b2n sub)).getD []) ++ [{ sector := 2 * n, port := 16, since := s.timeNs }]) ∧
      s.frame t ([.dmc, .tier] ++ reported) ([DMC.CE_CNT, DMC.MAPOUT] ++ reportedFields)) ∧
  (∀ (s : State) (c : Chan) (r : Fin 4) (sub : Bool) (a : DramAddr) (i d f n x : Nat) (p : Bool) (b b' : Burst), s.regsOk → s.dmcServes c.val = true → s.dramAt c.val sub a = true → a.use = .frame n →
    burstDecode b (s.mappedOut c.val r.val sub) (s.dramPoison a.use) = .corrected d f p → tget s.tier.written (2 * n) = some x → i ≤ x →
    ∃ t, exec (.dramReadDone c r sub a i (.burst b b')) s = .next t ∧ t.get DMC.CE_CNT c.val = satAdd 32 (s.get DMC.CE_CNT c.val) 1 ∧
      s.frame t ([.dmc] ++ reported) ([DMC.CE_CNT, DMC.MAPOUT] ++ reportedFields)) ∧
  (∀ (s : State) (c : Chan) (r : Fin 4) (sub : Bool) (a : DramAddr) (i n : Nat) (b b' : Burst) (k : TBlock) (x : TUnit), s.regsOk → s.dmcServes c.val = true → s.dramAt c.val sub a = true → a.use = .frame n →
    burstDecode b (s.mappedOut c.val r.val sub) (s.dramPoison a.use) = .uncorrectable → burstDecode b' (s.mappedOut c.val r.val sub) (s.dramPoison a.use) = .uncorrectable →
    s.block (pbnOf n) = some k → tget k.units (unitOf n % 16) = some x → x.present = true → x.dirty = false →
    ∃ t k', exec (.dramReadDone c r sub a i (.burst b b')) s = .next t ∧ t.get DMC.UE_CNT c.val = satAdd 32 (s.get DMC.UE_CNT c.val) 1 ∧ t.block (pbnOf n) = some k' ∧
      tget k'.units (unitOf n % 16) = some { x with present := false } ∧ k'.filling.contains (unitOf n % 16) = true ∧ s.frame t ([.dmc, .tier, .flm] ++ reported) (DMC.UE_CNT :: reportedFields)) ∧
  (∀ (s : State) (c : Chan) (r : Fin 4) (sub : Bool) (a : DramAddr) (i n : Nat) (b b' : Burst) (k : TBlock) (x : TUnit), s.regsOk → s.dmcServes c.val = true → s.dramAt c.val sub a = true → a.use = .frame n →
    burstDecode b (s.mappedOut c.val r.val sub) (s.dramPoison a.use) = .uncorrectable → burstDecode b' (s.mappedOut c.val r.val sub) (s.dramPoison a.use) = .uncorrectable →
    s.block (pbnOf n) = some k → tget k.units (unitOf n % 16) = some x → x.present = true → x.dirty = true → s.twinCurrent n = false → s.panFind (n / 2) = none → s.isSys (pbnOf n) = false →
    ∃ t, exec (.dramReadDone c r sub a i (.burst b b')) s = .next t ∧ t.get DMC.UE_CNT c.val = satAdd 32 (s.get DMC.UE_CNT c.val) 1 ∧
      t.frameRead n = { s.frameRead n with poison := true } ∧ (∀ m, m ≠ n → t.frameRead m = s.frameRead m) ∧ t.tier.blocks = s.tier.blocks ∧
      s.frame t ([.dmc, .tier] ++ reported) (DMC.UE_CNT :: reportedFields)) ∧
  (∀ (s : State) (c : Chan) (r : Fin 4) (sub : Bool) (a : DramAddr) (i u : Nat) (b b' : Burst), s.regsOk → s.dmcServes c.val = true → s.flag DMC.PATROL_EN c.val = true → s.frozen = false → a.use = .bittern u →
    burstDecode b (s.mappedOut c.val r.val sub) false = .tag → burstDecode b' (s.mappedOut c.val r.val sub) false = .tag →
    ∃ t, exec (.patrolScrubRead c r sub a i (.burst b b')) s = .next t ∧ t.tier = { s.tier with bittern := tdel s.tier.bittern u } ∧
      t.get DMC.UE_CNT c.val = satAdd 32 (s.get DMC.UE_CNT c.val) 1 ∧ s.frame t ([.dmc, .tier] ++ reported) (DMC.UE_CNT :: reportedFields)) ∧
  (∀ (s : State) (c : Chan) (r : Fin 4) (sub : Bool) (a : DramAddr) (i : Nat) (b b' : Burst), s.regsOk → s.dmcServes c.val = true → s.dramAt c.val sub a = true → a.use ≠ .command →
    burstDecode b (s.mappedOut c.val r.val sub) (s.dramPoison a.use) = .uncorrectable → burstDecode b' (s.mappedOut c.val r.val sub) (s.dramPoison a.use) = .good →
    ∃ t, exec (.dramReadDone c r sub a i (.burst b b')) s = .next t ∧ t.get DMC.UE_CNT c.val = satAdd 32 (s.get DMC.UE_CNT c.val) 1 ∧ t.tier = s.tier ∧ s.frame t [.regs, .dmc] [DMC.UE_CNT]) ∧
  (∀ (s : State) (c : Chan) (r : Fin 4) (sub : Bool) (a : DramAddr) (i : Nat), s.regsOk → s.dmcServes c.val = true → s.dramAt c.val sub a = true →
    ∃ t, exec (.dramReadDone c r sub a i (.parityFail false)) s = .next t ∧ t.get DMC.CAPAR_CNT c.val = satAdd 32 (s.get DMC.CAPAR_CNT c.val) 1 ∧ s.frame t [.regs, .dmc] [DMC.CAPAR_CNT]) ∧
  (∀ (s : State) (c : Chan) (r : Fin 4) (sub : Bool) (a : DramAddr) (i : Nat), s.regsOk → s.dmcServes c.val = true → s.dramAt c.val sub a = true → s.get DMC.NCHAN ≠ 0 → s.unstaged (dmcPage c.val) →
    ∃ t, exec (.dramReadDone c r sub a i (.parityFail true)) s = .next t ∧ t.get DMC.STATE c.val = dmcFailed ∧ t.get DMC.RATE_NOW c.val = 0 ∧ t.get DMC.CAPAR_CNT c.val = satAdd 32 (s.get DMC.CAPAR_CNT c.val) 1 ∧
      bit (t.rd (dmcPage c.val) HDR.ERR_STAT) 18 = true ∧ s.frame t failParts failFields) ∧
  (∀ (s : State) (c : Chan) (r : Fin 4) (sub : Bool) (d : Fin 10) (n : BitVec 16),
    ∃ t, exec (.ecsPass c r sub d n) s = .next t ∧ t = s.misc (dmcPage c.val) 2 (le 2 n.toNat) ∧ s.frame t reported reportedFields) ∧
  (∀ (s : State) (c : Chan) (busy : BitVec 16), s.regsOk → s.dmcServes c.val = true → s.unstaged (dmcPage c.val) →
    ∃ t, exec (.trefi2Tick c busy) s = .next t ∧
      (∀ r, r < s.get DMC.RANKS c.val → ((s.debts c.val r).any fun x => s.get DMC.REF_POSTPONE c.val ≤ x + 1) = false →
        t.debts c.val r = (List.range 4).map fun b => if busy.getLsbD (4 * r + b) then ((s.debts c.val r).map (· + 1)).getD b 0 else 0) ∧
      (∀ r, r < s.get DMC.RANKS c.val → ((s.debts c.val r).any fun x => s.get DMC.REF_POSTPONE c.val ≤ x + 1) = true →
        t.debts c.val r = (List.range 4).map fun b => if busy.getLsbD (4 * r + b) then (s.debts c.val r).getD b 0 else 0) ∧
      s.frame t [.regs, .dmc] [DMC.REFAB_CNT]) ∧
  (∀ (s : State) (c : Chan) (busy : BitVec 16), s.regsOk → s.dmcServes c.val = true → s.unstaged (dmcPage c.val) →
    s.get DMC.RANKS c.val = 1 → ((s.debts c.val 0).any fun x => s.get DMC.REF_POSTPONE c.val ≤ x + 1) = true →
    ∃ t, exec (.trefi2Tick c busy) s = .next t ∧ t.get DMC.REFAB_CNT c.val = satAdd 32 (s.get DMC.REFAB_CNT c.val) 1 ∧ s.frame t [.regs, .dmc] [DMC.REFAB_CNT]) ∧
  (∀ (s : State) (c : Chan) (r : Fin 4), s.regsOk → s.dmcServes c.val = true → r.val < s.get DMC.RANKS c.val →
    ∃ t, exec (.refreshRatePoll c r true false) s = .next t ∧ t.dmc.x2Ranks.contains (rankKey c.val r.val) = true ∧ t.flag DMC.REF_X2 c.val = true ∧ s.frame t [.regs, .dmc] [DMC.REF_X2]) ∧
  (∀ (s : State) (c : Chan) (r : Fin 4), s.regsOk → s.dmcServes c.val = true → r.val < s.get DMC.RANKS c.val → (∀ k ∈ s.dmc.x2Ranks, k / 4 = c.val → k = rankKey c.val r.val) →
    ∃ t, exec (.refreshRatePoll c r false false) s = .next t ∧ t.dmc.x2Ranks.contains (rankKey c.val r.val) = false ∧ t.flag DMC.REF_X2 c.val = false ∧ s.frame t [.regs, .dmc] [DMC.REF_X2]) ∧
  (∀ (s : State) (c : Chan) (r : Fin 4), s.dmcServes c.val = true → s.flag DMC.PD_EN c.val = true → s.frozen = false → r.val < s.get DMC.RANKS c.val → s.chanUrgency c.val = 0 →
    s.dmc.pdRanks.contains (rankKey c.val r.val) = false → (∀ x, tget s.dmc.asked (rankKey c.val r.val) = some x → x + s.dmcCycles c.val (s.get DMC.PD_IDLE c.val) ≤ s.timeNs) →
    ∃ t, exec (.rankPowerDown c r) s = .next t ∧ t.dmc = { s.dmc with pdRanks := s.dmc.pdRanks ++ [rankKey c.val r.val] } ∧ s.keptBut t [.dmc])

/-- Flash: channel bring-up, map pages, journal pages, checkpoints, loss of LUNs: A channel whose bring-up finds no LUN is ABSENT, one that passes is READY at its rate with WP_N high, one that fails is tried once more and then EXCLUDED with TRAIN_FAIL. A map page bad in its first copy is read from the second and written again in two copies on two READY channels, the first copy named by the directory and the second by the first; bad in both, its TUNs are unreadable. A journal page is programmed at its timer or when it is full; once durable, its WRITE records set the map, its MOVE records only where the entry still equals OLD. A checkpoint starts after CKPT_JOURNAL_MIB of journal and flushes each map page that an older record has changed; once valid, the window begins at its start. A LUN that is lost is marked, its units are rebuilt or poisoned and its blocks retired; eight failures in a row lose it. While another channel is in bring-up, no geometry is chosen. Each clause gives its frame. -/
def Obligations.FlashBringupAndJournal : Prop :=
  (∀ (s : State) (c : FChan) (d : Nat), s.regsOk → s.get FLC.STATE c.val = chInit → d < 48 → d ≠ c.val → s.get FLC.STATE d = chInit →
    ∃ t, exec (.flmBringupDone c (.pass [])) s = .next t ∧ t.get FLC.STATE c.val = chAbsent ∧ t.out = s.out ++ [.pin "WP_N" c.val (some false)] ∧ s.frame t [.regs, .out] [FLC.STATE]) ∧
  (∀ (s : State) (c : FChan) (d : Nat) (l : LunInfo), s.regsOk → s.get FLC.STATE c.val = chInit → d < 48 → d ≠ c.val → s.get FLC.STATE d = chInit → l.fit = true → l.bad = [] → (∀ e ∈ s.flm.luns, e.1 / 64 ≠ c.val) →
    ∃ t, exec (.flmBringupDone c (.pass [l])) s = .next t ∧ t.get FLC.STATE c.val = chReady ∧ t.get FLC.RATE_NOW c.val = s.flcRate c.val % 16 ∧
      t.get FLC.CE_PRESENT c.val = 2 ^ l.ce.val ∧
      t.flm = { s.flm with luns := tset s.flm.luns (l.glun c.val) { geom := l.geom, lost := false, excluded := false, fails := 0 } } ∧
      t.out = s.out ++ [.pin "WP_N" c.val (some true)] ∧ s.frame t [.regs, .flm, .out] [FLC.STATE, FLC.RATE_NOW, FLC.CE_PRESENT]) ∧
  (∀ (s : State) (c : FChan), s.get FLC.STATE c.val = chInit → s.flm.tries.contains c.val = false →
    ∃ t, exec (.flmBringupDone c .fail) s = .next t ∧ t.flm = { s.flm with tries := s.flm.tries ++ [c.val] } ∧ t.out = s.out ++ [.device "FLASH_BRINGUP" [c.val]] ∧ s.keptBut t [.flm, .out]) ∧
  (∀ (s : State) (c : FChan) (d : Nat), s.regsOk → s.get FLC.STATE c.val = chInit → s.flm.tries.contains c.val = true → d < 48 → d ≠ c.val → s.get FLC.STATE d = chInit → (∀ e ∈ s.flm.luns, e.1 / 64 ≠ c.val) →
    ∃ t, exec (.flmBringupDone c .fail) s = .next t ∧ t.get FLC.STATE c.val = chExcluded ∧ bit (t.rd (flcPage c.val) HDR.ERR_STAT) 18 = true ∧
      t.flm = s.flm ∧ s.frame t reported (FLC.STATE :: reportedFields)) ∧
  (∀ (s : State) (m : Nat) (second : Bool), s.ftlGet FTL.MAP_CACHE_GIB ≠ 0 → (∀ w ∈ s.flm.mapWait, mapPageOf w.1 ≠ m) →
    ∃ t, exec (.mapPageReadDone m true second) s = .next t ∧ t.mapCached m = true ∧ t.flm = { s.flm with mcache := t.flm.mcache } ∧ s.keptBut t [.flm]) ∧
  (∀ (s : State) (m : Nat), s.regsOk → s.mapChans = none → (∀ w ∈ s.flm.mapWait, mapPageOf w.1 ≠ m) →
    ∃ t, exec (.mapPageReadDone m false true) s = .next t ∧ bit (t.rd ftlPage HDR.ERR_STAT) 18 = true ∧ t.flm = { s.flm with mcache := t.flm.mcache } ∧ s.frame t ([.flm] ++ reported) reportedFields) ∧
  (∀ (s : State) (m : Nat), s.regsOk →
    ∃ t, exec (.mapPageReadDone m false false) s = .next t ∧ bit (t.rd ftlPage HDR.ERR_STAT) 18 = true ∧ (∀ u, u / 816 = m → u ∈ t.flm.unreadable) ∧ s.frame t ([.xlt, .qe, .mov, .tier, .pan, .cmn, .dmc, .flm] ++ reported) ([CME.VIOL_TX, CMP.TX_FRAMES, HP.POISON_CNT, HP.REFUSE_CNT, MOV.FAULT_CNT, MOV.LAST_FCLASS, MOV.LAST_FOFF, MOV.LAST_STATUS, MOV.OFFLINE, MOV.STATE, PAN.LOCKS_RELEASED, PAN.LOCK_LOST_CNT, PAN.WB_CNT, TIER.SLOW_PATH, TIER.SUBST] ++ reportedFields)) ∧
  (∀ (s : State), s.flm.jopen ≠ [] →
    ∃ t, exec .journalPageTimer s = .next t ∧ t.flm = { s.flm with jprog := s.flm.jprog ++ [s.flm.jopen], jopen := [], winPages := s.flm.winPages + 1, jseq := s.flm.jseq + 1 } ∧
      (∀ a b, s.mapChans = some (a, b) → ∃ l, t.out = s.out ++ [.device "JOURNAL_PROGRAM" (a :: b :: l)]) ∧ s.keptBut t [.flm, .out, .free]) ∧
  (∀ (s : State) (r : JRec) (rest : List (List JRec)), s.flm.jprog = [r] :: rest → r.typ = 1 → s.flm.staged = [] → s.flm.rakes = [] →
    (∀ l, tget s.flm.luns (r.new / 2 ^ 26) = some l → l.lost = false) →
    ∃ t, exec (.journalPageDurable true) s = .next t ∧ t.mapOf r.key = r.new ∧ (∀ u, u ≠ r.key → t.mapOf u = s.mapOf u) ∧ t.flm.jwin = s.flm.jwin ++ [r] ∧ t.flm.jprog = rest ∧
      t.flm.jopen = s.flm.jopen ∧ t.flm.t2 = s.flm.t2 ∧ s.keptBut t [.flm]) ∧
  (∀ (s : State) (r : JRec) (rest : List (List JRec)), s.flm.jprog = [r] :: rest → r.typ = 2 → s.flm.staged = [] → s.flm.rakes = [] → (∀ l, tget s.flm.luns (r.new / 2 ^ 26) = some l → l.lost = false) →
    ∃ t, exec (.journalPageDurable true) s = .next t ∧ t.mapOf r.key = (if s.mapOf r.key = r.old then r.new else s.mapOf r.key) ∧ (∀ u, u ≠ r.key → t.mapOf u = s.mapOf u) ∧
      t.flm.jwin = s.flm.jwin ++ [r] ∧ t.flm.jprog = rest ∧ s.keptBut t [.flm]) ∧
  (∀ (s : State), exec (.journalPageDurable false) s = .next s) ∧
  (∀ (s : State), s.flm.ckpt = none → s.flashTakes = true → s.ftlGet FTL.CKPT_JOURNAL_MIB * 64 ≤ s.flm.winPages →
    ∃ t, exec .checkpointStart s = .next t ∧ t.flm.ckpt = some s.flm.jstamp ∧ t.flm.map = s.flm.map ∧ t.flm.t2 = s.flm.t2 ∧ t.flm.jwin = s.flm.jwin ∧
      (s.mapChans ≠ none → ∀ e ∈ s.flm.mapDirty, e.2 < s.flm.jstamp → (tget t.flm.mdir e.1).isSome = true ∧ tget t.flm.mapDirty e.1 = none) ∧
      ((∀ e ∈ s.flm.mapDirty, s.flm.jstamp ≤ e.2) → t.flm = { s.flm with ckpt := some s.flm.jstamp, ckNew := some (s.checkpoint s.flm.jstamp) }) ∧
      (∃ a b, t.out.getLast? = some (.device "CHECKPOINT_PROGRAM" [a, b])) ∧ s.keptBut t [.flm, .out, .free]) ∧
  (∀ (s : State) (a : Nat), s.regsOk → s.flm.ckpt = some a → s.nvs.image.dev = none →
    ∃ t, exec (.checkpointValid true) s = .next t ∧ t.bitOf NVS.FAST_BAD 2 = false ∧
      t.flm = { s.flm with ckpt := none, jwin := s.flm.jwin.filter fun r => a ≤ r.stamp, winPages := ((s.flm.jwin.filter fun r => a ≤ r.stamp).length + 680) / 681,
                           ckNew := none, ckSaved := s.flm.ckNew.or s.flm.ckSaved } ∧ s.frame t [.regs, .flm] [NVS.FAST_BAD]) ∧
  (∀ (s : State) (a : Nat), s.regsOk → s.flm.ckpt = some a →
    ∃ t, exec (.checkpointValid false) s = .next t ∧ t.flm = { s.flm with ckpt := none, ckNew := none } ∧ bit (t.rd ftlPage HDR.ERR_STAT) 17 = true ∧ s.frame t ([.flm] ++ reported) reportedFields) ∧
  (∀ (s : State) (g : BitVec 12) (l : LunRec), s.regsOk → tget s.flm.luns g.toNat = some l → l.lost = false → l.excluded = false →
    ∃ t, exec (.lunLost g) s = .next t ∧ t.flm.luns = tset s.flm.luns g.toNat { l with lost := true } ∧ t.bitOf FLC.LUN_LOST_MAP (g.toNat % 64) (g.toNat / 64) = true ∧
      bit (t.rd (flcPage (g.toNat / 64)) HDR.ERR_STAT) 19 = true ∧ (∀ e ∈ t.flm.blks, blkGlun e.1 = g.toNat → e.2.state = .retired) ∧ s.frame t ([.twn, .flm] ++ reported) ([FLC.LUN_LOST_MAP, FLC.STATE, FLC.UNRECOV_CNT, FTL.FLM_STATE, FTL.RESERVE_LUNS, FTL.RESERVE_READY_MIB, FTL.SPARE_BLOCKS, HRV.BIND, HRV.HRV_TIDE_NOW, NVS.FAST_BAD, XLT.MEDIA_RO] ++ reportedFields)) ∧
  (∀ (s : State) (g : BitVec 12) (l : LunRec) (u f : Nat), s.regsOk → tget s.flm.luns g.toNat = some l → l.lost = false → l.excluded = false → s.flm.map = [(u, f)] → f / 2 ^ 26 = g.toNat →
    (s.blk (s.fuaBlk f)).stripe = none → s.fetchable u = false →
    ∃ t, exec (.lunLost g) s = .next t ∧ (∀ n ∈ unitSecs u, (t.t2Read n).poison = true ∧ (t.t2Read n).data = (s.t2Read n).data) ∧ s.frame t ([.twn, .flm] ++ reported) ([FLC.LUN_LOST_MAP, FLC.STATE, FLC.UNRECOV_CNT, FTL.FLM_STATE, FTL.RESERVE_LUNS, FTL.RESERVE_READY_MIB, FTL.SPARE_BLOCKS, HRV.BIND, HRV.HRV_TIDE_NOW, NVS.FAST_BAD, XLT.MEDIA_RO] ++ reportedFields)) ∧
  (∀ (s : State) (g : BitVec 12) (l : LunRec), s.regsOk → tget s.flm.luns g.toNat = some l → l.fails + 1 < 8 →
    ∃ t, exec (.opTimeout g) s = .next t ∧ t.get FLC.OP_TIMEOUT_CNT (g.toNat / 64) = satAdd 32 (s.get FLC.OP_TIMEOUT_CNT (g.toNat / 64)) 1 ∧
      tget t.flm.luns g.toNat = some { l with fails := l.fails + 1 } ∧ s.frame t [.regs, .flm] [FLC.OP_TIMEOUT_CNT]) ∧
  (∀ (s : State) (g : BitVec 12) (l : LunRec), s.regsOk → tget s.flm.luns g.toNat = some l → l.fails = 7 → l.lost = false → l.excluded = false →
    ∃ t, exec (.opTimeout g) s = .next t ∧ tget t.flm.luns g.toNat = some { l with fails := 8, lost := true } ∧ s.frame t ([.twn, .flm] ++ reported) ([FLC.LUN_LOST_MAP, FLC.OP_TIMEOUT_CNT, FLC.STATE, FLC.UNRECOV_CNT, FTL.FLM_STATE, FTL.RESERVE_LUNS, FTL.RESERVE_READY_MIB, FTL.SPARE_BLOCKS, HRV.BIND, HRV.HRV_TIDE_NOW, NVS.FAST_BAD, XLT.MEDIA_RO] ++ reportedFields)) ∧
  (∀ (s : State) (m a b : Nat), s.regsOk → s.mapChans = some (a, b) →
    ∃ t f g, exec (.mapPageReadDone m false true) s = .next t ∧ bit (t.rd ftlPage HDR.ERR_STAT) 18 = true ∧ tget t.flm.mdir m = some f ∧ tget t.flm.spare f = some g ∧
      f / 2 ^ 32 = a ∧ g / 2 ^ 32 = b ∧ (∀ n, n ≠ m → tget t.flm.mdir n = tget s.flm.mdir n) ∧ t.flm.map = s.flm.map ∧ t.flm.t2 = s.flm.t2 ∧ t.flm.unreadable = s.flm.unreadable ∧
      s.frame t ([.xlt, .qe, .mov, .tier, .pan, .cmn, .dmc, .flm] ++ reported) ([CME.VIOL_TX, CMP.TX_FRAMES, HP.POISON_CNT, HP.REFUSE_CNT, MOV.FAULT_CNT, MOV.LAST_FCLASS, MOV.LAST_FOFF, MOV.LAST_STATUS, MOV.OFFLINE, MOV.STATE, PAN.LOCKS_RELEASED, PAN.LOCK_LOST_CNT, PAN.WB_CNT, TIER.SLOW_PATH, TIER.SUBST] ++ reportedFields)) ∧
  (∀ (s : State) (m p : Nat) (us : List Nat) (second : Bool), s.flm.mapWait = [(p, us, false)] → mapPageOf p = m →
    ∃ t, exec (.mapPageReadDone m true second) s = .next t ∧ t.flm.mapWait = [] ∧ t.flm.reading = s.flm.reading ++ us.map (fun u => (p * 16 + u, s.mapOf (p * 16 + u))) ∧
      t.out = s.out ++ [.device "T2_READ" (p :: us)] ∧ t.flm.map = s.flm.map ∧ s.keptBut t [.flm, .out]) ∧
  (∀ (s : State) (r : JRec) (u : FtlUnit), s.flm.jprog = [[r]] → r.typ = 1 → s.flm.staged = [u] → u.recorded = true → u.tun = r.key → u.fua = r.new → u.old = none → s.flm.rakes = [] →
    (∀ l, tget s.flm.luns (r.new / 2 ^ 26) = some l → l.lost = false) →
    ∃ t, exec (.journalPageDurable true) s = .next t ∧ (∀ k, k < 64 → t.t2Read (u.tun * 64 + k) = (tget u.vals k).getD zeroSec) ∧ t.flm.staged = [] ∧ t.mapOf u.tun = u.fua ∧
      s.keptBut t [.flm, .tier])

/-- Flash: programs, stripes, raking, erases, verify, scrub, wear levelling: A programmed page marks its units; a programmed parity page appends the record of each unit of its row; a page that fails retires its block and counts. A row that times out is filled with PAD pages. Raking begins below RAKE_LO at the source with the fewest valid units, or at the next VICTIM, copies units into a stripe, waits while the parity log is full and a CLOSED stripe is to be verified, and stops above RAKE_HI. An ERASE_PENDING source without valid units is erased, one that the map still points at is not; a good erase makes the block free at its new wear with an ERASE record. A VICTIM that names a protected block is refused and counted. The last page that passes verify makes the stripe VERIFIED; a failure makes the block SUSPECT and rakes it, a second one retires it. A read suspends an operation at most 4 times. A block over VERIFY_MAX is raked, and the least-worn closed block where the spread exceeds WEAR_SPREAD. Each clause gives its frame. -/
def Obligations.FlashProgramsAndRaking : Prop :=
  (∀ (s : State) (g : BitVec 12) (b : BitVec 16) (i p : Nat) (x : Stripe), (s.blk (blkKey g.toNat b.toNat)).stripe = some i → s.stripe i = some x → x.parity ≠ blkKey g.toNat b.toNat →
    (∃ u ∈ s.flm.staged, s.fuaBlk u.fua = blkKey g.toNat b.toNat ∧ u.programmed = false) →
    (∀ u ∈ s.flm.staged, s.fuaBlk u.fua = blkKey g.toNat b.toNat → u.programmed = false → s.fuaPage u.fua = p) → s.flm.waiting = [] →
    ∃ t, exec (.flashProgramDone g b true) s = .next t ∧
      t.flm.staged = (s.flm.staged.map fun u => if s.fuaBlk u.fua = blkKey g.toNat b.toNat then { u with programmed := true } else u) ∧
      t.flm.map = s.flm.map ∧ t.flm.jopen = s.flm.jopen ∧ s.keptBut t [.flm, .out]) ∧
  (∀ (s : State) (g : BitVec 12) (b : BitVec 16) (i row : Nat) (x : Stripe) (u : FtlUnit), (s.blk (blkKey g.toNat b.toNat)).stripe = some i → s.stripe i = some x → x.parity = blkKey g.toNat b.toNat →
    x.ready s.pages = some row → s.flm.staged = [u] → u.programmed = true → u.recorded = false → x.blocks.contains (s.fuaBlk u.fua) = true → s.fuaPage u.fua = row → s.flm.jopen.length < 680 → s.parityRoom x = true → s.flm.waiting = [] →
    ∃ t, exec (.flashProgramDone g b true) s = .next t ∧ t.flm.staged = [{ u with recorded := true }] ∧
      t.flm.jopen = s.flm.jopen ++ [{ typ := if u.old.isSome then 2 else 1, key := u.tun, new := u.fua, old := u.old.getD (s.mapOf u.tun), stamp := s.flm.jstamp }] ∧
      t.flm.map = s.flm.map ∧ s.keptBut t [.flm, .out]) ∧
  (∀ (s : State) (g : BitVec 12) (b : BitVec 16) (i : Nat) (x : Stripe), s.regsOk → (s.blk (blkKey g.toNat b.toNat)).stripe = some i → s.stripe i = some x → x.parity ≠ blkKey g.toNat b.toNat →
    (∃ u ∈ s.flm.staged, s.fuaBlk u.fua = blkKey g.toNat b.toNat ∧ u.programmed = false) →
    ∃ t, exec (.flashProgramDone g b false) s = .next t ∧ (t.blk (blkKey g.toNat b.toNat)).state = .retired ∧ t.flm.health.progFails = s.flm.health.progFails + 1 ∧
      t.get FLC.PROG_FAIL_CNT (g.toNat / 64) = satAdd 32 (s.get FLC.PROG_FAIL_CNT (g.toNat / 64)) 1 ∧ s.frame t ([.twn, .flm] ++ reported) ([FLC.LUN_LOST_MAP, FLC.PROG_FAIL_CNT, FLC.STATE, FLC.UNRECOV_CNT, FTL.FLM_STATE, FTL.RESERVE_LUNS, FTL.RESERVE_READY_MIB, FTL.SPARE_BLOCKS, HRV.BIND, HRV.HRV_TIDE_NOW, NVS.FAST_BAD, XLT.MEDIA_RO] ++ reportedFields)) ∧
  (∀ (s : State) (i : Nat) (x : Stripe), s.stripe i = some x → x.state = .opened → x.next ≠ 0 → x.parityRows.length ≠ s.pages → (∀ u ∈ s.flm.staged, u.programmed = true) →
    ∃ t pads, exec (.stripeRowTimeout i) s = .next t ∧ t.stripe i = some { x with prog := x.prog ++ pads, next := ((x.next - 1) / 256 + 1) * 256 } ∧
      (∀ j, j < x.blocks.length → (x.prog ++ pads).contains ((x.next - 1) / 256 * 16 + j) = true) ∧ (∀ k ∈ pads, ∃ j, j < x.blocks.length ∧ k = (x.next - 1) / 256 * 16 + j) ∧ s.keptBut t [.flm, .out]) ∧
  (∀ (s : State) (g : BitVec 12), s.rakesOn = true → s.lunUsed g.toNat = true → thas s.flm.rakes g.toNat = false → s.freeBlks g.toNat < s.ftlGet FTL.RAKE_LO → s.verifyFirst = false →
    (s.ftlGet FTL.RAKE_EN = 1 ∨ s.freeBlks g.toNat < s.ftlGet FTL.RAKE_URGENT) → s.ftlGet FTL.RAKE_POLICY = 0 → s.rakeable g.toNat ≠ [] →
    (∀ k ∈ s.rakeable g.toNat, (s.validUnits k).length < 2 ^ 64) →
    ∃ t k, exec (.rakeStart g) s = .next t ∧ k ∈ s.rakeable g.toNat ∧ (∀ j ∈ s.rakeable g.toNat, (s.validUnits k).length ≤ (s.validUnits j).length) ∧
      t.flm = { s.flm with rakes := tset s.flm.rakes g.toNat k } ∧ s.keptBut t [.flm, .free]) ∧
  (∀ (s : State) (g : BitVec 12) (k : Nat) (vs : List Nat), s.rakesOn = true → s.lunUsed g.toNat = true → thas s.flm.rakes g.toNat = false → s.freeBlks g.toNat < s.ftlGet FTL.RAKE_LO → s.verifyFirst = false →
    (s.ftlGet FTL.RAKE_EN = 1 ∨ s.freeBlks g.toNat < s.ftlGet FTL.RAKE_URGENT) → s.ftlGet FTL.RAKE_POLICY = 2 → s.flm.victims = k :: vs → k ∈ s.rakeable g.toNat →
    ∃ t, exec (.rakeStart g) s = .next t ∧ t.flm = { s.flm with rakes := tset s.flm.rakes g.toNat k, victims := vs } ∧ s.keptBut t [.flm]) ∧
  (∀ (s : State) (g : BitVec 12) (k tun f i : Nat) (x : Stripe), s.flm.rakes = [(g.toNat, k)] → s.flashTakes = true → s.verifyFirst = false → s.freeBlks g.toNat ≤ s.ftlGet FTL.RAKE_HI → s.flm.staged = [] →
    s.validUnits k = [(tun, f)] → s.currentStripe = some (i, x) → s.rowWaits = false → s.flm.waiting = [] →
    ∃ t, exec (.rakeStep g) s = .next t ∧ t.stripe i = some { x with next := x.next + 1 } ∧ t.flm.rakes = s.flm.rakes ∧ t.flm.map = s.flm.map ∧
      t.flm.staged = [{ tun := tun, fua := s.fua ((x.blocks[x.next % 256 / 16]?).getD 0) (x.next / 256) (x.next % 16), old := some f, programmed := false, recorded := false }] ∧
      s.keptBut t [.flm]) ∧
  (∀ (s : State) (g : BitVec 12) (k : Nat), tget s.flm.rakes g.toNat = some k → s.flashTakes = true → s.verifyFirst = false → s.ftlGet FTL.RAKE_HI < s.freeBlks g.toNat → (s.blk k).suspect = false → (s.blk k).state ≠ .retired → s.flm.rakeWait = [] →
    exec (.rakeStep g) s = .next { s with flm := { s.flm with rakes := tdel s.flm.rakes g.toNat } }) ∧
  (∀ (s : State) (g : BitVec 12) (k : Nat), tget s.flm.rakes g.toNat = some k → s.verifyFirst = true → (s.blk k).suspect = false → (s.blk k).state ≠ .retired → exec (.rakeStep g) s = .next s) ∧
  (∀ (s : State) (g : BitVec 12) (b : BitVec 16), (s.blk (blkKey g.toNat b.toNat)).state = .erasePending → s.validUnits (blkKey g.toNat b.toNat) = [] → s.flashTakes = true →
    (∀ e ∈ s.flm.reading, s.fuaBlk e.2 ≠ blkKey g.toNat b.toNat) →
    ∃ t, exec (.sourceErase g b) s = .next t ∧ t.blk (blkKey g.toNat b.toNat) = { s.blk (blkKey g.toNat b.toNat) with state := .erasing } ∧
      (∀ k, k ≠ blkKey g.toNat b.toNat → t.blk k = s.blk k) ∧ t.out = s.out ++ [.device "FLASH_ERASE" [g.toNat, b.toNat]] ∧ s.keptBut t [.flm, .out]) ∧
  (∀ (s : State) (g : BitVec 12) (b : BitVec 16), s.validUnits (blkKey g.toNat b.toNat) ≠ [] → exec (.sourceErase g b) s = .next s) ∧
  (∀ (s : State) (g : BitVec 12) (b : BitVec 16), (s.blk (blkKey g.toNat b.toNat)).state = .erasing →
    (s.blk (blkKey g.toNat b.toNat)).wear + (if s.slcUsed (blkKey g.toNat b.toNat) then 1 else 4) < s.ftlGet FTL.PE_LIMIT * 4 → s.flm.jopen.length < 680 → s.flm.waiting = [] →
    ∃ t, exec (.flashEraseDone g b true) s = .next t ∧
      t.blk (blkKey g.toNat b.toNat) = { state := .free, wear := (s.blk (blkKey g.toNat b.toNat)).wear + (if s.slcUsed (blkKey g.toNat b.toNat) then 1 else 4), suspect := (s.blk (blkKey g.toNat b.toNat)).suspect, stripe := none } ∧
      t.flm.jopen = s.flm.jopen ++ [{ typ := 5, key := blkKey g.toNat b.toNat, new := 0, old := 0, stamp := s.flm.jstamp }] ∧ t.flm.map = s.flm.map ∧ s.keptBut t [.flm]) ∧
  (∀ (s : State) (g : BitVec 12) (b : BitVec 16), s.regsOk → (s.blk (blkKey g.toNat b.toNat)).state = .erasing →
    ∃ t, exec (.flashEraseDone g b false) s = .next t ∧ (t.blk (blkKey g.toNat b.toNat)).state = .retired ∧ t.get FLC.ERASE_FAIL_CNT (g.toNat / 64) = satAdd 32 (s.get FLC.ERASE_FAIL_CNT (g.toNat / 64)) 1 ∧
      t.flm.health.eraseFails = s.flm.health.eraseFails + 1 ∧ s.frame t ([.twn, .flm] ++ reported) ([FLC.ERASE_FAIL_CNT, FLC.LUN_LOST_MAP, FLC.STATE, FLC.UNRECOV_CNT, FTL.FLM_STATE, FTL.RESERVE_LUNS, FTL.RESERVE_READY_MIB, FTL.SPARE_BLOCKS, HRV.BIND, HRV.HRV_TIDE_NOW, NVS.FAST_BAD, XLT.MEDIA_RO] ++ reportedFields)) ∧
  (∀ (s : State) (r : Requester) (g : BitVec 12) (b : BitVec 16), s.regsOk → s.admits r ftlPage → s.takes ftlPage → s.flm.victims.length < 256 → ((s.blk (blkKey g.toNat b.toNat)).state = .closed ∨ (s.blk (blkKey g.toNat b.toNat)).state = .opened) →
    ∃ t, exec (.victim r g b) s = .next t ∧ t.flm = { s.flm with victims := s.flm.victims ++ [blkKey g.toNat b.toNat] } ∧ s.frame t [.regs, .flm] [HDR.QUIESCED]) ∧
  (∀ (s : State) (r : Requester) (g : BitVec 12) (b : BitVec 16), s.regsOk → s.admits r ftlPage → s.takes ftlPage →
    (s.flm.victims.length = 256 ∨ (s.blk (blkKey g.toNat b.toNat)).state = .reserve ∨ (s.blk (blkKey g.toNat b.toNat)).state = .parity ∨ (s.blk (blkKey g.toNat b.toNat)).state = .metadata ∨
      (s.blk (blkKey g.toNat b.toNat)).state = .retired) →
    ∃ t, exec (.victim r g b) s = .next t ∧ t.flm = s.flm ∧ t.ftlGet FTL.VICTIM_REFUSED = satAdd 32 (s.ftlGet FTL.VICTIM_REFUSED) 1 ∧ s.frame t [.regs] [HDR.QUIESCED, FTL.VICTIM_REFUSED]) ∧
  (∀ (s : State) (i : Nat) (x : Stripe) (g : BitVec 12) (b n : BitVec 16), s.stripe i = some x → x.state = .closed → s.verifies i (g.toNat / 64) = true → x.blocks.contains (blkKey g.toNat b.toNat) = true →
    n.toNat ≤ s.ftlGet FTL.VERIFY_MAX → x.passed.contains (blkKey g.toNat b.toNat) = false → (∀ k ∈ x.blocks, k = blkKey g.toNat b.toNat ∨ x.passed.contains k = true) →
    ∃ t, exec (.verifyPage i g b (some n) true) s = .next t ∧ t.flm.closing = s.flm.closing.erase i ∧ t.stripe i = some { x with passed := x.passed ++ [blkKey g.toNat b.toNat], state := .verified } ∧
      ((s.blk x.parity).state = .parity → t.blk x.parity = { s.blk x.parity with state := .erasePending }) ∧ s.keptBut t [.flm]) ∧
  (∀ (s : State) (i : Nat) (x : Stripe) (g : BitVec 12) (b : BitVec 16) (n : Option (BitVec 16)) (last : Bool), s.stripe i = some x → x.state = .closed → s.verifies i (g.toNat / 64) = true → s.pagePasses n = false → x.blocks.contains (blkKey g.toNat b.toNat) = true →
    (s.blk (blkKey g.toNat b.toNat)).suspect = false → thas s.flm.rakes g.toNat = false →
    ∃ t, exec (.verifyPage i g b n last) s = .next t ∧ t.blk (blkKey g.toNat b.toNat) = { s.blk (blkKey g.toNat b.toNat) with suspect := true } ∧
      tget t.flm.rakes g.toNat = some (blkKey g.toNat b.toNat) ∧ s.keptBut t [.flm]) ∧
  (∀ (s : State) (i : Nat) (x : Stripe) (g : BitVec 12) (b : BitVec 16) (n : Option (BitVec 16)) (last : Bool), s.regsOk → s.stripe i = some x → x.state = .closed → s.verifies i (g.toNat / 64) = true → s.pagePasses n = false → x.blocks.contains (blkKey g.toNat b.toNat) = true →
    (s.blk (blkKey g.toNat b.toNat)).suspect = true → (s.blk (blkKey g.toNat b.toNat)).state ≠ .retired →
    ∃ t, exec (.verifyPage i g b n last) s = .next t ∧ (t.blk (blkKey g.toNat b.toNat)).state = .retired ∧ t.flm.health.retired = s.flm.health.retired + 1 ∧ s.frame t ([.flm] ++ reported) ([FTL.FLM_STATE, FTL.SPARE_BLOCKS, HRV.BIND, HRV.HRV_TIDE_NOW, NVS.FAST_BAD, XLT.MEDIA_RO] ++ reportedFields)) ∧
  (∀ (s : State) (g : BitVec 12), s.lunUsed g.toNat = true → (s.flm.reading.any fun e => e.2 / 2 ^ 26 == g.toNat) = true → s.lunBusy g.toNat = true → (tget s.flm.suspends g.toNat).getD 0 < 4 →
    ∃ t, exec (.suspendTimeout g) s = .next t ∧ t.flm = { s.flm with suspends := tset s.flm.suspends g.toNat ((tget s.flm.suspends g.toNat).getD 0 + 1) } ∧
      t.out = s.out ++ [.device "FLASH_SUSPEND" [g.toNat]] ∧ s.keptBut t [.flm, .out]) ∧
  (∀ (s : State) (g : BitVec 12), 4 ≤ (tget s.flm.suspends g.toNat).getD 0 → exec (.suspendTimeout g) s = .next s) ∧
  (∀ (s : State) (g : BitVec 12) (b : BitVec 16) (n : Option (BitVec 16)), (s.blk (blkKey g.toNat b.toNat)).state = .closed → s.flashTakes = true → s.lunUsed g.toNat = true → s.scrubDue (s.blk (blkKey g.toNat b.toNat)) = true →
    s.pagePasses n = false → s.flmState ≠ flmReadOnly → thas s.flm.rakes g.toNat = false →
    ∃ t, exec (.flashScrub g b n) s = .next t ∧ t.flm.rakes = tset s.flm.rakes g.toNat (blkKey g.toNat b.toNat) ∧ t.blk (blkKey g.toNat b.toNat) = { s.blk (blkKey g.toNat b.toNat) with reads := 0, scrubbed := s.timeNs } ∧
      t.flm.map = s.flm.map ∧ s.keptBut t [.flm]) ∧
  (∀ (s : State) (g : BitVec 12) (b n : BitVec 16), (s.blk (blkKey g.toNat b.toNat)).state = .closed → s.flashTakes = true → s.lunUsed g.toNat = true → s.scrubDue (s.blk (blkKey g.toNat b.toNat)) = true →
    n.toNat ≤ s.ftlGet FTL.VERIFY_MAX →
    ∃ t, exec (.flashScrub g b (some n)) s = .next t ∧ t.flm.rakes = s.flm.rakes ∧ t.blk (blkKey g.toNat b.toNat) = { s.blk (blkKey g.toNat b.toNat) with reads := 0, scrubbed := s.timeNs } ∧ s.keptBut t [.flm]) ∧
  (∀ (s : State) (c f : Nat × BlkRec), s.ftlGet FTL.STATIC_WL_EN = 1 → s.flashTakes = true → (s.flm.blks.filter fun e => e.2.state == .closed && s.lunUsed (blkGlun e.1)) = [c] →
    (s.flm.blks.filter fun e => e.2.state == .free && s.lunUsed (blkGlun e.1)) = [f] → s.ftlGet FTL.WEAR_SPREAD * 4 < f.2.wear - c.2.wear → thas s.flm.rakes (blkGlun c.1) = false →
    ∃ t, exec .staticWearLevel s = .next t ∧ tget t.flm.rakes (blkGlun c.1) = some c.1 ∧ t.flm.map = s.flm.map ∧ s.keptBut t [.flm, .free]) ∧
  (∀ (s : State) (g : BitVec 12) (b : BitVec 16) (n : Option (BitVec 16)), s.scrubDue (s.blk (blkKey g.toNat b.toNat)) = false → exec (.flashScrub g b n) s = .next s) ∧
  (∀ (s : State) (g : BitVec 12) (b : BitVec 16) (u : Nat), (u, s.fua (blkKey g.toNat b.toNat) 0 0) ∈ s.flm.reading → s.fuaBlk (s.fua (blkKey g.toNat b.toNat) 0 0) = blkKey g.toNat b.toNat →
    exec (.sourceErase g b) s = .next s) ∧
  (∀ (s : State) (g : BitVec 12), s.rakesOn = false → exec (.rakeStart g) s = .next s)

/-- Flash: reads from T2, reserve, READ_ONLY, replay, health: A unit read from T2 goes to its block; a read saved by parity counts and is staged for a rewrite; one the partner delivered is in T2; an unrecoverable one counts. A reserve block that goes bad is retired, and a spare one takes its place, RESERVE_READY_MIB following. When SPARE_BLOCKS has fallen to RO_MIN, FLM is READ_ONLY, MEDIA_RO is 1 and the tide mark 0; RO_CLEAR ends it only above twice RO_MIN. Replay ends in the state that SPARE_LEFT_PCT gives, or in READ_ONLY where that is stored, and closed blocks without valid units are ERASE_PENDING. The health registers take the running counts as one set, and HEALTH_SEQ advances. Each clause gives its frame. -/
def Obligations.FlashReadsAndService : Prop :=
  (∀ (s : State) (u w n : Nat) (b : TBlock), s.regsOk → s.flm.unreadable.contains u = false → (s.mapOf u = unwritten ∨ s.foldOk u w = true) → s.block (u / 16) = some b → b.filling.contains (u % 16) = true → s.unitReads (u / 16) (u % 16) = [] →
    ∃ t c, exec (.flashReadDone u .hard w n) s = .next t ∧ t.block (u / 16) = some c ∧ c.unitPresent (u % 16) = true ∧ c.filling = (b.filling.filter fun k => k != u % 16) ∧
      (∀ m ∈ unitSecs u, t.frameRead m = s.t2Read m) ∧ s.frame t ([.xlt, .qe, .mov, .tier, .pan, .cmn, .dmc, .flm] ++ reported) ([MOV.OFFLINE, MOV.STATE, PAN.LOCK_LOST_CNT, CME.VIOL_TX, CMP.TX_FRAMES, FLC.CORR_BITS, FLC.UNRECOV_CNT, HP.POISON_CNT, HP.REFUSE_CNT, MOV.FAULT_CNT, MOV.LAST_FCLASS, MOV.LAST_FOFF, MOV.LAST_STATUS, PAN.HIT_CNT, PAN.MISS_CNT, PAN.WB_CNT, TIER.SLOW_PATH, TIER.SUBST, PAN.LOCKS_RELEASED] ++ reportedFields)) ∧
  (∀ (s : State) (u w n i : Nat) (x : Stripe), s.regsOk → s.foldOk u w = true → s.flm.unreadable.contains u = false → s.block (u / 16) = none → s.unitReads (u / 16) (u % 16) = [] → s.mapOf u ≠ unwritten → s.flashTakes = true → s.parityHeld (s.mapOf u) = true →
    s.currentStripe = some (i, x) → s.rowWaits = false →
    ∃ t, exec (.flashReadDone u .parity w n) s = .next t ∧
      t.flm.health = { s.flm.health with corrBits := s.flm.health.corrBits + n, retries := s.flm.health.retries + 1, rebuilds := s.flm.health.rebuilds + 1 } ∧
      t.flm.staged = s.flm.staged ++ [{ tun := u, fua := s.fua ((x.blocks[x.next % 256 / 16]?).getD 0) (x.next / 256) (x.next % 16), old := some (s.mapOf u), programmed := false, recorded := false }] ∧
      t.get FLC.CORR_BITS (s.mapOf u / 2 ^ 32) = (s.get FLC.CORR_BITS (s.mapOf u / 2 ^ 32) + n) % 2 ^ 64 ∧ s.frame t ([.xlt, .qe, .mov, .tier, .pan, .cmn, .dmc, .flm] ++ reported) ([MOV.OFFLINE, MOV.STATE, PAN.LOCK_LOST_CNT, CME.VIOL_TX, CMP.TX_FRAMES, FLC.CORR_BITS, FLC.UNRECOV_CNT, HP.POISON_CNT, HP.REFUSE_CNT, MOV.FAULT_CNT, MOV.LAST_FCLASS, MOV.LAST_FOFF, MOV.LAST_STATUS, PAN.HIT_CNT, PAN.MISS_CNT, PAN.WB_CNT, TIER.SLOW_PATH, TIER.SUBST, PAN.LOCKS_RELEASED] ++ reportedFields)) ∧
  (∀ (s : State) (u w n : Nat) (l : List Sector) (p : BitVec 64), s.regsOk → s.flm.unreadable.contains u = false → s.block (u / 16) = none → s.unitReads (u / 16) (u % 16) = [] → s.fetchable u = true → l.length = 64 →
    ∃ t, exec (.flashReadDone u (.fetched l p) w n) s = .next t ∧ (∀ k v, (withPoison l p)[k]? = some v → t.t2Read (u * 64 + k) = v) ∧ t.flm.health.fetches = s.flm.health.fetches + 1 ∧ s.frame t ([.xlt, .qe, .mov, .tier, .pan, .cmn, .dmc, .flm] ++ reported) ([MOV.OFFLINE, MOV.STATE, PAN.LOCK_LOST_CNT, CME.VIOL_TX, CMP.TX_FRAMES, FLC.CORR_BITS, FLC.UNRECOV_CNT, HP.POISON_CNT, HP.REFUSE_CNT, MOV.FAULT_CNT, MOV.LAST_FCLASS, MOV.LAST_FOFF, MOV.LAST_STATUS, PAN.HIT_CNT, PAN.MISS_CNT, PAN.WB_CNT, TIER.SLOW_PATH, TIER.SUBST, PAN.LOCKS_RELEASED] ++ reportedFields)) ∧
  (∀ (s : State) (u w n : Nat), s.regsOk → s.block (u / 16) = none → s.mapOf u ≠ unwritten → s.unitReads (u / 16) (u % 16) = [] →
    ∃ t, exec (.flashReadDone u .unrecoverable w n) s = .next t ∧ t.flm.health.unrecoverable = s.flm.health.unrecoverable + 1 ∧
      t.get FLC.UNRECOV_CNT (s.mapOf u / 2 ^ 32) = satAdd 32 (s.get FLC.UNRECOV_CNT (s.mapOf u / 2 ^ 32)) 1 ∧ t.flm.t2 = s.flm.t2 ∧ s.frame t ([.xlt, .qe, .mov, .tier, .pan, .cmn, .dmc, .flm] ++ reported) ([MOV.OFFLINE, MOV.STATE, PAN.LOCK_LOST_CNT, CME.VIOL_TX, CMP.TX_FRAMES, FLC.CORR_BITS, FLC.UNRECOV_CNT, HP.POISON_CNT, HP.REFUSE_CNT, MOV.FAULT_CNT, MOV.LAST_FCLASS, MOV.LAST_FOFF, MOV.LAST_STATUS, PAN.HIT_CNT, PAN.MISS_CNT, PAN.WB_CNT, TIER.SLOW_PATH, TIER.SUBST, PAN.LOCKS_RELEASED] ++ reportedFields)) ∧
  (∀ (s : State) (g : BitVec 12) (b : BitVec 16) (n : Nat), s.regsOk → (s.blk (blkKey g.toNat b.toNat)).state = .reserve → s.reservePick g.toNat = some n → n ≠ blkKey g.toNat b.toNat →
    ∃ t, exec (.reserveBlockReplace g b true) s = .next t ∧ (t.blk (blkKey g.toNat b.toNat)).state = .retired ∧ (t.blk n).state = .reserve ∧
      t.ftlGet FTL.RESERVE_READY_MIB = t.reserveBlks.length * t.slcMib % 2 ^ 32 ∧ s.frame t ([.flm] ++ reported) ([FTL.FLM_STATE, FTL.RESERVE_LUNS, FTL.RESERVE_READY_MIB, FTL.SPARE_BLOCKS, HRV.BIND, HRV.HRV_TIDE_NOW, NVS.FAST_BAD, XLT.MEDIA_RO] ++ reportedFields)) ∧
  (∀ (s : State) (g : BitVec 12) (b : BitVec 16), s.regsOk → (s.blk (blkKey g.toNat b.toNat)).state = .reserve → s.ftlGet FTL.SPARE_BLOCKS = 0 →
    ∃ t, exec (.reserveBlockReplace g b true) s = .next t ∧ (t.blk (blkKey g.toNat b.toNat)).state = .retired ∧ t.ftlGet FTL.RESERVE_READY_MIB = t.reserveBlks.length * t.slcMib % 2 ^ 32 ∧ s.frame t ([.flm] ++ reported) ([FTL.FLM_STATE, FTL.RESERVE_LUNS, FTL.RESERVE_READY_MIB, FTL.SPARE_BLOCKS, HRV.BIND, HRV.HRV_TIDE_NOW, NVS.FAST_BAD, XLT.MEDIA_RO] ++ reportedFields)) ∧
  (∀ (s : State), s.regsOk → (s.flmState = flmNormal ∨ s.flmState = flmLowSpare) → s.ftlGet FTL.SPARE_BLOCKS ≤ s.roMin →
    ∃ t, exec .flmReadOnly s = .next t ∧ t.flmState = flmReadOnly ∧ t.get XLT.MEDIA_RO = 1 ∧ t.get HRV.HRV_TIDE_NOW = 0 ∧ t.flm = { s.flm with roStored := true } ∧ s.frame t ([.flm] ++ reported) ([FTL.FLM_STATE, HRV.BIND, HRV.HRV_TIDE_NOW, NVS.FAST_BAD, XLT.MEDIA_RO] ++ reportedFields)) ∧
  (∀ (s : State) (r : Requester), s.regsOk → s.commands r ftlPage → s.flmState = flmReadOnly → 2 * s.roMin < s.ftlGet FTL.SPARE_BLOCKS →
    ∃ t, exec (.roClear r) s = .next t ∧ t.flmState = s.flmServing ∧ t.get XLT.MEDIA_RO = 0 ∧ t.flm = { s.flm with roStored := false } ∧
      s.frame t [.regs, .flm] [HDR.QUIESCED, FTL.FLM_STATE, XLT.MEDIA_RO, NVS.FAST_BAD]) ∧
  (∀ (s : State) (r : Requester), s.regsOk → s.commands r ftlPage → s.ftlGet FTL.SPARE_BLOCKS ≤ 2 * s.roMin →
    ∃ t, exec (.roClear r) s = .next t ∧ t.flmState = s.flmState ∧ t.get XLT.MEDIA_RO = s.get XLT.MEDIA_RO ∧ s.frame t [.regs] [HDR.QUIESCED]) ∧
  (∀ (s : State), s.regsOk → s.flmState = flmReplay → s.flm.roStored = false → s.roMin < s.replayed.ftlGet FTL.SPARE_BLOCKS →
    ∃ t, exec .replayDone s = .next t ∧ t.flmState = s.replayed.flmServing ∧ t.ftlGet FTL.SPARE_BLOCKS = (if s.flm.formatted then s.spareFor (s.ftlGet FTL.USER_BLKS + s.ftlGet FTL.SYS_BLKS) % 2 ^ 32 else s.ftlGet FTL.SPARE_BLOCKS) ∧ (∀ k b, tget s.flm.blks k = some b → b.state = .closed → s.validUnits k = [] → (t.blk k).state = .erasePending) ∧ s.frame t ([.flm] ++ reported) ([FTL.FLM_STATE, FTL.RESERVE_LUNS, FTL.RESERVE_READY_MIB, HRV.BIND, HRV.HRV_TIDE_NOW, NVS.FAST_BAD, XLT.MEDIA_RO, FTL.SPARE_BLOCKS, FTL.SPARE_INIT] ++ reportedFields)) ∧
  (∀ (s : State), s.regsOk → s.flmState = flmReplay → s.flm.roStored = true →
    ∃ t, exec .replayDone s = .next t ∧ t.flmState = flmReadOnly ∧ t.get XLT.MEDIA_RO = 1 ∧ s.frame t ([.flm] ++ reported) ([FTL.FLM_STATE, FTL.RESERVE_LUNS, FTL.RESERVE_READY_MIB, HRV.BIND, HRV.HRV_TIDE_NOW, NVS.FAST_BAD, XLT.MEDIA_RO, FTL.SPARE_BLOCKS, FTL.SPARE_INIT] ++ reportedFields)) ∧
  (∀ (s : State), s.regsOk →
    ∃ t, exec .healthUpdate s = .next t ∧ t.ftlGet FTL.HEALTH_SEQ = (s.ftlGet FTL.HEALTH_SEQ + 1) % 2 ^ 16 ∧ t.ftlGet FTL.SPARE_LEFT_PCT = s.spareLeft % 256 ∧ t.ftlGet FTL.WEAR_USED_PCT = s.wearPct ∧
      t.ftlGet FTL.LIFE_USED_PCT = (if s.flmState = flmReadOnly then 100 else max s.wearPct (100 - s.spareLeft)) ∧ t.ftlGet FTL.CORR_BITS = s.flm.health.corrBits % 2 ^ 64 ∧
      t.ftlGet FTL.UNRECOVERABLE = min (2 ^ 32 - 1) s.flm.health.unrecoverable ∧ t.ftlGet FTL.PROG_FAILS = min (2 ^ 32 - 1) s.flm.health.progFails ∧
      t.ftlGet FTL.BLOCKS_RETIRED = s.flm.health.retired % 2 ^ 32 ∧ t.ftlGet FTL.LUNS_LOST = s.flm.health.lunsLost % 2 ^ 16 ∧
      t.ftlGet FTL.TEMP_NOW = ofSigned 8 ((tget s.seq.temps (s.ftlGet FTL.TEMP_SRC)).getD 0 / 8) % 256 ∧ s.frame t [.regs, .flm] [FTL.BLOCKS_RETIRED, FTL.CORR_BITS, FTL.ERASE_FAILS, FTL.HEALTH_SEQ, FTL.LIFE_USED_PCT, FTL.LUNS_LOST, FTL.PARITY_REBUILDS, FTL.PROG_FAILS, FTL.READ_RETRIES, FTL.SPARE_LEFT_PCT, FTL.TEMP_HOURS, FTL.TEMP_MAX, FTL.TEMP_MIN, FTL.TEMP_NOW, FTL.TWIN_FETCHES, FTL.UNRECOVERABLE, FTL.WEAR_USED_PCT])

/-- Harvest: triggers, write-out and seal, early end, end action: A trigger begins a harvest: STATE is HARVESTING, CAUSE and FIRST_CAUSE name it, Memory_Active is 0; a later trigger only sets its bit in CAUSE. The end of the write-out seals the set with every brine unit in reserve blocks, counts HARVEST_SEQ up and gives LAST_HARVEST_MIB; with nothing to write it seals at once. A bank below V_MIN_MV stops the write-out and leaves the set as far as it was written. The end action waits for a STORE in progress; with input good for T_RESUME_MS after PWRFAIL or VIN_LOW the SK960 resumes at boot step 3, with SHUTDOWN latched it powers down, after CLOCK or COLD_RESET it cold-resets, in each case with the channels in self-refresh. HARVEST_BEGIN of the partner is noted. Each clause gives its frame or the next state. -/
def Obligations.Harvest : Prop :=
  (∀ (s : State), s.regsOk → s.seq.pwrgood = true → s.get HRV.STATE ≠ hrvHarvesting → s.get HRV.STATE ≠ hrvSealed →
    ∃ t, exec .pwrfail s = .next t ∧ t.get HRV.STATE = hrvHarvesting ∧ t.get HRV.CAUSE = 1 ∧ t.get HRV.FIRST_CAUSE = 0 ∧ t.hp.memoryActive = false ∧ t.hrv.t0 = s.timeNs ∧ t.hrv.phase = 3 ∧
      t.hrv.nothing = (!s.hp.memoryActive && !(s.wdn.warm && s.hrv.restored && s.get HRV.STATE != hrvIncomplete)) ∧ t.seq.goodSince = none ∧ t.frozen = true ∧ s.harvestFrame t [.seq] []) ∧
  (∀ (s : State), s.regsOk → s.seq.pwrgood = true → (s.get HRV.STATE = hrvHarvesting ∨ s.get HRV.STATE = hrvSealed) →
    ∃ t, exec .pwrfail s = .next t ∧ bit (t.get HRV.CAUSE) 0 = true ∧ (∀ k, k ≠ 0 → k < 5 → bit (t.get HRV.CAUSE) k = bit (s.get HRV.CAUSE) k) ∧
      t.seq = { s.seq with pfHigh := false, goodSince := none } ∧ s.frame t [.regs, .seq] [HRV.CAUSE]) ∧
  (∀ (s : State), s.seq.pwrgood = false →
    exec .pwrfail s = .next { s with seq := { s.seq with pfHigh := false, goodSince := none, devUp := none, devDown := if s.seq.devUp.isSome then some 0 else s.seq.devDown } }) ∧
  (∀ (s : State) (r : Requester), s.regsOk → s.commands r hrvPage → s.get HRV.STATE ≠ hrvHarvesting → s.get HRV.STATE ≠ hrvSealed →
    ∃ t, exec (.shutdown r) s = .next t ∧ t.get HRV.STATE = hrvHarvesting ∧ t.get HRV.CAUSE = 16 ∧ t.get HRV.FIRST_CAUSE = 4 ∧ t.hp.memoryActive = false ∧ t.hrv.t0 = s.timeNs ∧ t.hrv.phase = 3 ∧ s.harvestFrame t [.seq] [HDR.QUIESCED]) ∧
  (∀ (s : State), s.regsOk → s.get HRV.STATE = hrvHarvesting → s.hrv.phase = 6 → s.hrv.stopped = false → s.hrv.nothing = true →
    ∃ t, exec .harvestWriteoutDone s = .next t ∧ t.get HRV.STATE = hrvSealed ∧ t.hrv = { s.hrv with phase := 8 } ∧ s.frame t [.regs, .hrv] [HRV.STATE]) ∧
  (∀ (s : State) (x : HSet), s.regsOk → s.get HRV.STATE = hrvHarvesting → s.hrv.phase = 6 → s.hrv.stopped = false → s.hrv.nothing = false → s.hrv.newest = some x →
    (s.placeUnits s.brineSet).length = s.brineSet.length →
    ∃ t, exec .harvestWriteoutDone s = .next t ∧ t.get HRV.STATE = hrvSealed ∧ t.get HRV.HARVEST_SEQ = (s.hrv.fast + 1) % 2 ^ 32 ∧ t.hrv.fast = (s.hrv.fast + 1) % 2 ^ 32 ∧
      t.get HRV.LAST_HARVEST_MIB = (s.brineSet.length + 255) / 256 % 2 ^ 32 ∧ t.bitOf NVS.FAST_BAD 1 = false ∧
      t.hrv.newest = some { x with units := s.placeUnits s.brineSet, isSealed := true, cause := s.get HRV.CAUSE, first := s.get HRV.FIRST_CAUSE, mib := (s.brineSet.length + 255) / 256 } ∧
      (∀ u ∈ s.placeUnits s.brineSet, (t.blk u.blk).state = .reserveUsed) ∧ s.frame t ([.mov, .xlt, .qe, .tier, .twn, .cmn, .flm, .seq, .hrv] ++ reported) ([MOV.OFFLINE, MOV.STATE, CME.VIOL_TX, CMP.LINK_UP, CMP.TX_FRAMES, FTL.RESERVE_LUNS, FTL.RESERVE_READY_MIB, HP.CXL, HP.FLIT256, HP.MLD, HP.RATE, HP.UP, HP.WIDTH, HRV.HARVEST_SEQ, HRV.LAST_HARVEST_MIB, HRV.STATE, MOV.FAULT_CNT, MOV.LAST_FCLASS, MOV.LAST_FOFF, MOV.LAST_STATUS, NVS.FAST_BAD, SEQ.DEV_GOOD, SEQ.RAIL_GOOD, SEQ.RAIL_ON, SEQ.STATE, TWN.CLAIM_W_DRV, TWN.IN_SYNC, TWN.SERVE, TWN.STATE, TWN.TWN_CLAIM_LOCAL] ++ reportedFields)) ∧
  (∀ (s : State) (x : HSet), s.regsOk → s.get HRV.STATE = hrvHarvesting → s.hrv.phase = 6 → s.hrv.stopped = false → s.hrv.nothing = false → s.hrv.newest = some x →
    ∃ t y, exec .bankExhausted s = .next t ∧ t.hrv.stopped = true ∧ t.get HRV.STATE = hrvHarvesting ∧ t.hrv.newest = some y ∧ y.isSealed = x.isSealed ∧ y.seq = x.seq ∧
      (∀ u ∈ y.units, u ∈ s.placeUnits s.brineSet) ∧ s.frame t [.regs, .flm, .hrv, .free] [FTL.RESERVE_LUNS, FTL.RESERVE_READY_MIB]) ∧
  (∀ (s : State), s.get HRV.STATE ≠ hrvHarvesting → exec .bankExhausted s = .next s) ∧
  (∀ (s : State), s.nvs.storing.isSome = true → exec .harvestEnd s = .next s) ∧
  (∀ (s : State) (a : Nat), s.regsOk → s.get HRV.STATE = hrvSealed → s.nvs.storing = none → bit (s.get HRV.CAUSE) 4 = false → s.get HRV.FIRST_CAUSE ≤ 1 → s.hrv.gaveUp = false → s.dmc.leaving = [] →
    s.seq.goodSince = some a → s.seq.pfHigh = true → s.get HRV.T_RESUME_MS * 1000000 ≤ s.timeNs - a →
    ∃ t, exec .harvestEnd s = .next t ∧ t.wdn.boot = 3 ∧ t.hrv = { s.hrv with phase := 0, restored := false } ∧ t.tier.blocks = [] ∧ t.pan.lines = [] ∧ t.twn.mirror = [] ∧ t.qe.cmds = [] ∧
      t.hp.memoryActive = false ∧ t.flmState = flmReplay ∧ t.get TWN.STATE = roleInit ∧ t.get TWN.SERVE = 0 ∧ t.get HRV.LAST_HARVEST_MS = (s.timeNs - s.hrv.t0) / 1000000 % 2 ^ 32 ∧
      (∀ k, k < 16 → t.get PAN.STATE k = panInvalidating) ∧ s.frame t ([.cmn, .flm, .hrv, .mov, .pan, .qe, .seq, .tier, .twn, .wdn, .xlt, .dmc] ++ reported)
        ([CMP.TX_FRAMES, DMC.STATE, FTL.FLM_STATE, HRV.LAST_HARVEST_MS, MOV.FAULT_CNT, MOV.LAST_FCLASS, MOV.LAST_FOFF, MOV.LAST_STATUS, MOV.OFFLINE, MOV.PARK_FULL_CNT, MOV.PARK_PEAK, MOV.STATE,
          MOV.STEPS_DONE, PAN.BUSY, PAN.HIT_CNT, PAN.LOCKS_RELEASED, PAN.LOCK_LOST_CNT, PAN.MISS_CNT, PAN.RESULT, PAN.STATE, PAN.WB_CNT, QE.BUSY, SEQ.STATE, TIER.MISSED, TIER.ON_TIME, TIER.QUOTA_REFUSE,
          TIER.SUBST, TWN.BUNDLES, TWN.SERVE, TWN.STATE, TWN.TWN_CLAIM_LOCAL, WDN.STAGE] ++ reportedFields)) ∧
  (∀ (s : State), s.regsOk → s.get HRV.STATE = hrvSealed → s.nvs.storing = none → bit (s.get HRV.CAUSE) 4 = true → s.hrv.gaveUp = false → s.dmc.leaving = [] →
    ∃ u, exec .harvestEnd s = .next u.powerDown ∧ (∀ c, c < 12 → s.dmcServes c = true → u.get DMC.STATE c = dmcSelfRefresh) ∧ u.get HRV.LAST_HARVEST_MS = (s.timeNs - s.hrv.t0) / 1000000 % 2 ^ 32 ∧
      u.hrv = { s.hrv with phase := 9 } ∧ s.frame u [.regs, .tier, .dmc, .hrv] [DMC.STATE, HRV.LAST_HARVEST_MS]) ∧
  (∀ (s : State), s.regsOk → s.get HRV.STATE = hrvSealed → s.nvs.storing = none → bit (s.get HRV.CAUSE) 4 = false → s.get HRV.FIRST_CAUSE = 2 → s.hrv.gaveUp = false → s.dmc.leaving = [] →
    ∃ u, exec .harvestEnd s = .next u.coldReset ∧ (∀ c, c < 12 → s.dmcServes c = true → u.get DMC.STATE c = dmcSelfRefresh) ∧ u.hrv = { s.hrv with phase := 9 } ∧
      s.frame u [.regs, .tier, .dmc, .hrv] [DMC.STATE, HRV.LAST_HARVEST_MS]) ∧
  (∀ (s : State) (h : TwinHdr), s.bitOf TWN.BUNDLES h.bundle.val = true → h.tagOk = true →
    exec (.harvestBegin h) s = .next { s with twn := { s.twn with rxCount := tset s.twn.rxCount h.bundle.val ((tget s.twn.rxCount h.bundle.val).getD 0 + 1), peerHarvest := true } })

/-- Harvest: step-load tests, rehearsals, restore, release of reserve blocks: A step-load test that may run drives CHG_INH and STEP_EN; where it may not, nothing happens. A rehearsal takes reserve blocks and RESERVE_READY_MIB falls; its end erases them. The first result applies as it is; a higher power applies at once, a lower one waits for its confirmation; a rate below the target sets REHEARSE_FAIL. Restore makes each unit DIRTY again in a RESIDENT block; after a sealed set Memory_Active is 1, after an unsealed one STATE is INCOMPLETE and it stays, until the warden of a solo twin writes ACCEPT_LOSS. A reserve block is released once none of its units is brine, and not before. Each clause gives its frame. -/
def Obligations.RehearsalsAndRestore : Prop :=
  (∀ (s : State) (r : Requester), s.regsOk → s.admits r hrvPage → s.takes hrvPage → s.stepReady = true →
    ∃ t, exec (.steptest r) s = .next t ∧ t.flag SEQ.STEP_ACTIVE = true ∧ t.out = s.out ++ [.pin "CHG_INH" 0 (some true), .pin "STEP_EN" 0 (some true)] ∧
      s.frame t [.regs, .out] [HDR.QUIESCED, SEQ.STEP_ACTIVE]) ∧
  (∀ (s : State), s.regsOk → s.stepReady = true →
    ∃ t, exec .steptestPeriod s = .next t ∧ t.flag SEQ.STEP_ACTIVE = true ∧ t.out = s.out ++ [.pin "CHG_INH" 0 (some true), .pin "STEP_EN" 0 (some true)] ∧ s.frame t [.regs, .out] [SEQ.STEP_ACTIVE]) ∧
  (∀ (s : State), s.get HRV.STATE ≠ hrvNormal → exec .steptestPeriod s = .next s) ∧
  (∀ (s : State) (r : Requester), s.regsOk → s.commands r hrvPage → s.get HRV.STATE = hrvNormal →
    ∃ t, exec (.rehearse r) s = .next t ∧ t.get HRV.STATE = hrvRehearsing ∧ (∀ k ∈ t.hrv.rehBlks, k ∈ s.reserveBlks ∧ (t.blk k).state = .reserveUsed) ∧
      t.ftlGet FTL.RESERVE_READY_MIB = t.reserveBlks.length * t.slcMib % 2 ^ 32 ∧ s.frame t [.regs, .flm, .hrv, .out] [FTL.RESERVE_LUNS, FTL.RESERVE_READY_MIB, HDR.QUIESCED, HRV.STATE, SEQ.STEP_ACTIVE]) ∧
  (∀ (s : State), s.regsOk → s.get HRV.STATE = hrvNormal →
    ∃ t, exec .rehearsePeriod s = .next t ∧ t.get HRV.STATE = hrvRehearsing ∧ t.flag SEQ.STEP_ACTIVE = false ∧ (∀ k ∈ t.hrv.rehBlks, k ∈ s.reserveBlks ∧ (t.blk k).state = .reserveUsed) ∧
      t.ftlGet FTL.RESERVE_READY_MIB = t.reserveBlks.length * t.slcMib % 2 ^ 32 ∧ s.frame t [.regs, .flm, .hrv, .out] [FTL.RESERVE_LUNS, FTL.RESERVE_READY_MIB, HRV.STATE, SEQ.STEP_ACTIVE]) ∧
  (∀ (s : State), s.get HRV.STATE ≠ hrvNormal → exec .rehearsePeriod s = .next s) ∧
  (∀ (s : State) (p : Nat) (v : BitVec 32), s.regsOk → s.get HRV.STATE = hrvRehearsing → s.hrv.rehBlks ≠ [] → s.hrv.rehearsed = false → 96000 ≤ v.toNat →
    (∀ n ∈ s.validRails, rowKeep (s.row n) = true → rowIEn (s.row n) = true ∧ rowVEn (s.row n) = true) →
    ∃ t, exec (.rehearsalDone p v) s = .next t ∧ t.get HRV.STATE = hrvNormal ∧ t.hrv.rehBlks = [] ∧ t.hrv.rehearsed = true ∧ t.hrv.rate = some v.toNat ∧
      t.get HRV.P_HARV_W = (p * 100 + s.get HRV.HOLDUP_EFF_PCT * 1000 - 1) / max 1 (s.get HRV.HOLDUP_EFF_PCT * 1000) % 2 ^ 16 ∧
      (∀ k ∈ s.hrv.rehBlks, (s.blk k).state = .reserveUsed → (t.blk k).state = .reserve) ∧ s.frame t ([.flm, .hrv] ++ reported) ([FTL.RESERVE_LUNS, FTL.RESERVE_READY_MIB, HRV.P_HARV_W, HRV.STATE, FTL.FLM_STATE, FTL.SPARE_BLOCKS, HRV.BIND, HRV.HRV_TIDE_NOW, NVS.FAST_BAD, XLT.MEDIA_RO] ++ reportedFields)) ∧
  (∀ (s : State) (p w : Nat) (v : BitVec 32), s.regsOk → s.get HRV.STATE = hrvRehearsing → s.hrv.rehBlks ≠ [] → s.hrv.rehearsed = true →
    (∀ n ∈ s.validRails, rowKeep (s.row n) = true → rowIEn (s.row n) = true ∧ rowVEn (s.row n) = true) → (p * 100 + s.get HRV.HOLDUP_EFF_PCT * 1000 - 1) / max 1 (s.get HRV.HOLDUP_EFF_PCT * 1000) = w →
    ∃ t, exec (.rehearsalDone p v) s = .next t ∧ (s.get HRV.P_HARV_W < w → t.get HRV.P_HARV_W = w % 2 ^ 16 ∧ t.hrv.waitPower = none) ∧
      (w < s.get HRV.P_HARV_W → s.hrv.waitPower = none → t.get HRV.P_HARV_W = s.get HRV.P_HARV_W % 2 ^ 16 ∧ t.hrv.waitPower = some w) ∧
      (v.toNat < min 96000 (t.ftlGet FTL.RESERVE_LUNS * 125) → bit (t.rd hrvPage HDR.ERR_STAT) 18 = true) ∧ s.frame t ([.flm, .hrv] ++ reported) ([FTL.RESERVE_LUNS, FTL.RESERVE_READY_MIB, HRV.P_HARV_W, HRV.STATE, FTL.FLM_STATE, FTL.SPARE_BLOCKS, HRV.BIND, HRV.HRV_TIDE_NOW, NVS.FAST_BAD, XLT.MEDIA_RO] ++ reportedFields)) ∧
  (∀ (s : State) (bad : List Nat), s.regsOk → s.get HRV.STATE = hrvRestoring → s.restoreUnits = [] → (∀ x, s.hrv.newest = some x → x.isSealed = true) →
    ∃ t, exec (.restoreDone bad) s = .next t ∧ t.get HRV.STATE = hrvNormal ∧ t.hp = { s.hp with memoryActive := true } ∧ t.hrv = { s.hrv with restored := true } ∧ t.get HRV.RESTORE_BAD_UNITS = 0 ∧
      s.frame t [.regs, .hp, .dmc, .hrv] [HRV.STATE, HRV.RESTORE_BAD_UNITS]) ∧
  (∀ (s : State) (k : Nat) (u : HUnit) (x : HSet), s.regsOk → s.get HRV.STATE = hrvRestoring → s.restoreUnits = [(k, u)] → u.twin = false → u.repair = false → s.block (u.tun / 16) = none → s.hrv.newest = some x →
    ∃ t b, exec (.restoreDone []) s = .next t ∧ t.block (u.tun / 16) = some b ∧ b.state = .resident ∧
      tget b.units (u.tun % 16) = some { present := true, dirty := true, stamp := u.stamp, wb := none, failed := false, cls := u.cls } ∧
      (∀ i v, i < 64 → tget u.vals i = some v → t.frameRead (u.tun * 64 + i) = v) ∧ (x.isSealed = true → t.get HRV.STATE = hrvNormal ∧ t.hp.memoryActive = true) ∧
      (x.isSealed = false → t.get HRV.STATE = hrvIncomplete ∧ t.hp.memoryActive = s.hp.memoryActive ∧ bit (t.rd hrvPage HDR.ERR_STAT) 17 = true) ∧ s.frame t ([.tier, .twn, .dmc, .hrv] ++ reported) ([HRV.RESTORE_BAD_UNITS, HRV.STATE] ++ reportedFields)) ∧
  (∀ (s : State) (g : BitVec 12) (b : BitVec 16) (x : HSet), s.regsOk → (s.blk (blkKey g.toNat b.toNat)).state = .reserveUsed → s.hrv.rehBlks.contains (blkKey g.toNat b.toNat) = false → s.hrv.restored = true →
    s.frozen = false → s.hrv.newest = some x → s.hrv.prior = none → (∀ u ∈ x.units, u.blk = blkKey g.toNat b.toNat → s.stillBrine u = false) →
    ∃ t, exec (.reserveBlockRelease g b) s = .next t ∧ t.blk (blkKey g.toNat b.toNat) = { s.blk (blkKey g.toNat b.toNat) with state := .reserve, wear := (s.blk (blkKey g.toNat b.toNat)).wear + 1 } ∧
      t.hrv = { s.hrv with newest := some { x with units := x.units.filter fun u => u.blk != blkKey g.toNat b.toNat } } ∧
      t.ftlGet FTL.RESERVE_READY_MIB = t.reserveBlks.length * t.slcMib % 2 ^ 32 ∧ s.frame t ([.regs, .flm, .hrv] ++ reported) ([FTL.RESERVE_LUNS, FTL.RESERVE_READY_MIB, FTL.FLM_STATE, FTL.SPARE_BLOCKS, HRV.BIND, HRV.HRV_TIDE_NOW, NVS.FAST_BAD, XLT.MEDIA_RO] ++ reportedFields)) ∧
  (∀ (s : State) (g : BitVec 12) (b : BitVec 16) (x : HSet) (u : HUnit), s.hrv.newest = some x → u ∈ x.units → u.blk = blkKey g.toNat b.toNat → s.stillBrine u = true →
    exec (.reserveBlockRelease g b) s = .next s) ∧
  (∀ (s : State) (r : Requester), s.regsOk → s.commands r hrvPage → s.solo = true → s.get HRV.STATE = hrvIncomplete →
    ∃ t, exec (.acceptLoss r) s = .next t ∧ t.get HRV.STATE = hrvNormal ∧ t.hp.memoryActive = true ∧ s.frame t reported (HRV.STATE :: HDR.QUIESCED :: reportedFields))

/-- Twin pair: ALIVE, bundles and link, formation, TIME, STATE of the partner: ALIVE loss alone is recorded; with the link lost a PAIRED twin in sync is SOLO and marks every block with brine, one not in sync is FENCED on every group. Signal on two bundles brings the link up and HELLO goes out. A partner of the same UNIT, or of another identity than the stored one, stops formation; PAIR_ACCEPT lets it go on as a full resync; two fresh twins are PAIRED. A formation step out of time restarts it. A bundle that is down leaves the link on the others or loses it; a lost link counts, and a twin whose bundles all fail loopback is FENCED. FORM_WAIT_S lets a twin that served every group take them alone, when CLAIM_W is high twice. TIME_NS follows the twin that serves more groups. A STATE record gives the partner's sync, ends resync, or begins the handoffs of a READ_ONLY partner. Each clause gives its frame. -/
def Obligations.TwinFormation : Prop :=
  (∀ (s : State), s.regsOk → s.flag TWN.ALIVE_IN_OK = true → s.linkUp = true →
    ∃ t, exec .aliveLoss s = .next t ∧ t.flag TWN.ALIVE_IN_OK = false ∧ t.role = s.role ∧ s.frame t ([.dmc, .flm] ++ reported) (TWN.ALIVE_IN_OK :: reportedFields)) ∧
  (∀ (s : State), s.regsOk → s.flag TWN.ALIVE_IN_OK = true → s.linkUp = false → s.role = rolePaired → s.flag TWN.IN_SYNC = true →
    ∃ t, exec .aliveLoss s = .next t ∧ t.flag TWN.ALIVE_IN_OK = false ∧ t.role = roleSolo ∧ t.twn.scanDone = false ∧ (∀ p ∈ s.brineBlocks, p ∈ t.twn.rsm) ∧ s.frame t ([.xlt, .qe, .mov, .tier, .pan, .twn, .cmn, .dmc, .flm] ++ reported) ([MOV.OFFLINE, MOV.STATE, TIER.SUBST, CME.VIOL_TX, CMP.TX_FRAMES, MOV.FAULT_CNT, MOV.LAST_FCLASS, MOV.LAST_FOFF, MOV.LAST_STATUS, NVS.FAST_BAD, PAN.HIT_CNT, PAN.MISS_CNT, PAN.WB_CNT, TIER.MISSED, TIER.ON_TIME, TIER.QUOTA_REFUSE, TWN.ALIVE_IN_OK, TWN.CLAIM_W_DRV, TWN.IN_SYNC, TWN.SERVE, TWN.STATE, TWN.TWN_CLAIM_LOCAL] ++ reportedFields)) ∧
  (∀ (s : State), s.regsOk → s.flag TWN.ALIVE_IN_OK = true → s.linkUp = false → s.role = rolePaired → s.flag TWN.IN_SYNC = false →
    ∃ t, exec .aliveLoss s = .next t ∧ t.role = roleFenced ∧ t.get TWN.SERVE = 0 ∧ (∀ g, g < 16 → t.get TWN.TWN_CLAIM_LOCAL 0 g = 0) ∧ s.frame t ([.xlt, .qe, .mov, .tier, .pan, .twn, .cmn, .dmc, .flm] ++ reported) ([MOV.OFFLINE, MOV.STATE, TIER.SUBST, CME.VIOL_TX, CMP.TX_FRAMES, MOV.FAULT_CNT, MOV.LAST_FCLASS, MOV.LAST_FOFF, MOV.LAST_STATUS, NVS.FAST_BAD, PAN.HIT_CNT, PAN.MISS_CNT, PAN.WB_CNT, TIER.MISSED, TIER.ON_TIME, TIER.QUOTA_REFUSE, TWN.ALIVE_IN_OK, TWN.CLAIM_W_DRV, TWN.IN_SYNC, TWN.SERVE, TWN.STATE, TWN.TWN_CLAIM_LOCAL] ++ reportedFields)) ∧
  (∀ (s : State), s.regsOk → ∃ t, exec .aliveRestore s = .next t ∧ t.flag TWN.ALIVE_IN_OK = true ∧ s.frame t [.regs] [TWN.ALIVE_IN_OK]) ∧
  (∀ (s : State) (h : TwinHdr) (b : HelloBody), s.regsOk → s.bitOf TWN.BUNDLES h.bundle.val = true → h.tagOk = true → s.twn.form = .linked → s.twn.stopped = false → b.unit.val = s.unit →
    ∃ t, exec (.hello h b) s = .next t ∧ t.twn.stopped = true ∧ t.get TWN.SERVE = 0 ∧ bit (t.rd twnPage HDR.ERR_STAT) 17 = true ∧ s.frame t ([.xlt, .qe, .mov, .tier, .pan, .twn, .cmn, .dmc, .flm] ++ reported) ([MOV.OFFLINE, MOV.STATE, TWN.RETX_CNT, CIP.AUTH_FAIL_CNT, CME.VIOL_TX, CMP.TX_FRAMES, HRV.STATE, MOV.FAULT_CNT, MOV.LAST_FCLASS, MOV.LAST_FOFF, MOV.LAST_STATUS, NVS.FAST_BAD, TWN.CLAIM_W_DRV, TWN.IN_SYNC, TWN.SERVE, TWN.STATE, TWN.TWN_CLAIM_LOCAL, TWN.TWN_CLAIM_PEER, PAN.LOCKS_RELEASED, PAN.LOCK_LOST_CNT, PAN.WB_CNT] ++ reportedFields)) ∧
  (∀ (s : State) (h : TwinHdr) (b : HelloBody) (d : BitVec 512), s.regsOk → s.bitOf TWN.BUNDLES h.bundle.val = true → h.tagOk = true → s.twn.form = .linked → s.twn.stopped = false → b.unit.val ≠ s.unit → s.twn.pairId = some d → d ≠ b.digest →
    ∃ t, exec (.hello h b) s = .next t ∧ t.twn = { s.twn with rxCount := tset s.twn.rxCount h.bundle.val ((tget s.twn.rxCount h.bundle.val).getD 0 + 1), stopped := true, form := .hello } ∧ bit (t.rd twnPage HDR.ERR_STAT) 21 = true ∧ s.frame t ([.twn, .dmc, .flm] ++ reported) ([PAN.LOCKS_RELEASED, PAN.LOCK_LOST_CNT, PAN.WB_CNT] ++ reportedFields)) ∧
  (∀ (s : State) (h : TwinHdr) (b : HelloBody), s.regsOk → s.bitOf TWN.BUNDLES h.bundle.val = true → h.tagOk = true → s.twn.form = .linked → s.twn.stopped = false → b.unit.val ≠ s.unit → (∀ d, s.twn.pairId = some d → d = b.digest) →
    (∀ g, g < 16 → s.ownClaim g = 0) → (∀ e ∈ b.epochs, e = 0) → s.twn.repair = [] → s.get HRV.STATE ≠ hrvIncomplete →
    ∃ t, exec (.hello h b) s = .next t ∧ t.role = rolePaired ∧ t.flag TWN.IN_SYNC = true ∧ t.flag TWN.CLAIM_W_DRV = false ∧ t.twn.pairId = some b.digest ∧ t.twn.form = .none ∧ s.frame t ([.xlt, .qe, .mov, .tier, .pan, .twn, .cmn, .dmc, .flm] ++ reported) ([MOV.OFFLINE, MOV.STATE, TWN.RETX_CNT, CIP.AUTH_FAIL_CNT, CME.VIOL_TX, CMP.TX_FRAMES, HRV.STATE, MOV.FAULT_CNT, MOV.LAST_FCLASS, MOV.LAST_FOFF, MOV.LAST_STATUS, NVS.FAST_BAD, TWN.CLAIM_W_DRV, TWN.IN_SYNC, TWN.SERVE, TWN.STATE, TWN.TWN_CLAIM_LOCAL, TWN.TWN_CLAIM_PEER, PAN.LOCKS_RELEASED, PAN.LOCK_LOST_CNT, PAN.WB_CNT] ++ reportedFields)) ∧
  (∀ (s : State) (b : Bundle), s.bitOf TWN.BUNDLES b.val = true →
    exec (.twinIdle b) s = .next { s with twn := { s.twn with rxCount := tset s.twn.rxCount b.val ((tget s.twn.rxCount b.val).getD 0 + 1) } }) ∧
  (∀ (s : State) (b : Bundle), s.regsOk → s.bitOf TWN.BUNDLES b.val = true → 2 < (setBitsOf 4 (s.get TWN.BUNDLES)).length → s.get TWN.BUNDLES < 16 →
    ∃ t, exec (.bundleDown b) s = .next t ∧ t.bitOf TWN.BUNDLES b.val = false ∧ (∀ k, k < 4 → k ≠ b.val → t.bitOf TWN.BUNDLES k = s.bitOf TWN.BUNDLES k) ∧
      bit (t.rd twnPage HDR.ERR_STAT) 19 = true ∧ t.get TWN.LINK_DOWN_CNT = s.get TWN.LINK_DOWN_CNT ∧ s.frame t ([.xlt, .qe, .mov, .tier, .pan, .twn, .cmn, .dmc, .flm] ++ reported) ([MOV.OFFLINE, MOV.STATE, TIER.SUBST, CME.VIOL_TX, CMP.TX_FRAMES, MOV.FAULT_CNT, MOV.LAST_FCLASS, MOV.LAST_FOFF, MOV.LAST_STATUS, NVS.FAST_BAD, PAN.HIT_CNT, PAN.MISS_CNT, PAN.WB_CNT, TIER.MISSED, TIER.ON_TIME, TIER.QUOTA_REFUSE, TWN.BUNDLES, TWN.CLAIM_W_DRV, TWN.IN_SYNC, TWN.LINK_DOWN_CNT, TWN.RETX_CNT, TWN.SERVE, TWN.STATE, TWN.TWN_CLAIM_LOCAL] ++ reportedFields)) ∧
  (∀ (s : State) (b : Bundle), s.regsOk → s.bitOf TWN.BUNDLES b.val = true → (setBitsOf 4 (s.get TWN.BUNDLES)).length ≤ 2 → s.get TWN.BUNDLES < 16 →
    ∃ t, exec (.bundleDown b) s = .next t ∧ t.linkUp = false ∧ t.get TWN.LINK_DOWN_CNT = satAdd 32 (s.get TWN.LINK_DOWN_CNT) 1 ∧ bit (t.rd twnPage HDR.ERR_STAT) 19 = true ∧ s.frame t ([.xlt, .qe, .mov, .tier, .pan, .twn, .cmn, .dmc, .flm] ++ reported) ([MOV.OFFLINE, MOV.STATE, TIER.SUBST, CME.VIOL_TX, CMP.TX_FRAMES, MOV.FAULT_CNT, MOV.LAST_FCLASS, MOV.LAST_FOFF, MOV.LAST_STATUS, NVS.FAST_BAD, PAN.HIT_CNT, PAN.MISS_CNT, PAN.WB_CNT, TIER.MISSED, TIER.ON_TIME, TIER.QUOTA_REFUSE, TWN.BUNDLES, TWN.CLAIM_W_DRV, TWN.IN_SYNC, TWN.LINK_DOWN_CNT, TWN.RETX_CNT, TWN.SERVE, TWN.STATE, TWN.TWN_CLAIM_LOCAL] ++ reportedFields)) ∧
  (∀ (s : State) (l : BitVec 4), s.regsOk → s.twn.form = .none → s.linkUp = true → s.flag TWN.ALIVE_IN_OK = true → l ≠ 0 →
    ∃ t, exec (.linkLost l) s = .next t ∧ t.linkUp = false ∧ t.get TWN.LINK_DOWN_CNT = satAdd 32 (s.get TWN.LINK_DOWN_CNT) 1 ∧ s.frame t [.regs, .dmc, .flm] [TWN.BUNDLES, TWN.LINK_DOWN_CNT]) ∧
  (∀ (s : State), s.regsOk → s.twn.form = .none → s.linkUp = true → s.flag TWN.ALIVE_IN_OK = true → s.role = rolePaired →
    ∃ t, exec (.linkLost 0) s = .next t ∧ t.linkUp = false ∧ t.role = roleFenced ∧ t.get TWN.SERVE = 0 ∧ s.frame t ([.xlt, .qe, .mov, .tier, .pan, .twn, .cmn, .dmc, .flm] ++ reported) ([MOV.OFFLINE, MOV.STATE, TIER.SUBST, CME.VIOL_TX, CMP.TX_FRAMES, MOV.FAULT_CNT, MOV.LAST_FCLASS, MOV.LAST_FOFF, MOV.LAST_STATUS, NVS.FAST_BAD, PAN.HIT_CNT, PAN.MISS_CNT, PAN.WB_CNT, TIER.MISSED, TIER.ON_TIME, TIER.QUOTA_REFUSE, TWN.BUNDLES, TWN.CLAIM_W_DRV, TWN.IN_SYNC, TWN.LINK_DOWN_CNT, TWN.SERVE, TWN.STATE, TWN.TWN_CLAIM_LOCAL] ++ reportedFields)) ∧
  (∀ (s : State), s.regsOk → s.twn.form = .none → s.twn.stopped = false → s.get HRV.STATE = hrvNormal → s.mirroring = false →
    ∃ t, exec .pairFormationStart s = .next t ∧ t.twn = { s.twn with form := .training } ∧ t.out = s.out ++ [.device "TWIN_TRAIN" []] ∧ t.role = (if s.role = roleForming then roleInit else s.role) ∧
      s.frame t [.regs, .twn, .out] [TWN.STATE]) ∧
  (∀ (s : State), s.regsOk → s.twn.form ≠ .none → s.twn.stopped = false →
    ∃ t, exec .formationTimeout s = .next t ∧ t.twn = { s.twn with form := .training } ∧ t.linkUp = false ∧ t.get TWN.LINK_DOWN_CNT = satAdd 32 (s.get TWN.LINK_DOWN_CNT) 1 ∧
      t.role = (if s.role = roleForming then roleInit else s.role) ∧ s.frame t [.regs, .twn, .out] [TWN.BUNDLES, TWN.LINK_DOWN_CNT, TWN.STATE]) ∧
  (∀ (s : State), s.regsOk → s.role = roleForming → s.flag TWN.ALIVE_IN_OK = false → s.twn.syncAll = true → s.bitOf NVS.FAST_BAD 0 = false → s.twn.take = none → s.unserved ≠ [] →
    ∃ t, exec (.formWaitExpiry true true) s = .next t ∧ t.role = roleSolo ∧ t.flag TWN.IN_SYNC = true ∧ t.flag TWN.CLAIM_W_DRV = true ∧
      t.twn.take = some { groups := s.unserved, retried := false, takeover := false } ∧ s.frame t ([.xlt, .qe, .mov, .tier, .pan, .twn, .cmn, .dmc, .flm] ++ reported) ([MOV.LAST_FCLASS, MOV.LAST_FOFF, MOV.LAST_STATUS, TIER.SUBST, CME.VIOL_TX, CMP.TX_FRAMES, PAN.HIT_CNT, PAN.MISS_CNT, PAN.WB_CNT, TIER.MISSED, TIER.ON_TIME, TIER.QUOTA_REFUSE, TWN.CLAIM_W_DRV, TWN.CLAIM_W_IN, TWN.IN_SYNC, TWN.STATE] ++ reportedFields)) ∧
  (∀ (s : State) (a b : Bool), s.regsOk → (a && b) = false → ∃ t, exec (.formWaitExpiry a b) s = .next t ∧ t.flag TWN.CLAIM_W_IN = b ∧ s.frame t [.regs, .dmc, .flm] [TWN.CLAIM_W_IN]) ∧
  (∀ (s : State) (m : BitVec 4), s.regsOk → s.twn.form = .training → 2 ≤ (setBitsOf 4 m.toNat).length → s.clk.pllDown = [] →
    ∃ t, exec (.twinLinkSignal m) s = .next t ∧ t.get TWN.BUNDLES = m.toNat ∧ t.twn = { s.twn with form := .linked, rxCount := [] } ∧ t.out = s.out ++ [.twin 0x01 0 0 s.unit 0 []] ∧
      t.role = (if s.role = roleInit then roleForming else s.role) ∧ s.frame t [.regs, .twn, .out] [TWN.BUNDLES, TWN.STATE]) ∧
  (∀ (s : State) (r : Requester), s.regsOk → s.commands r twnPage → s.stageHeld twnPage = false → s.rd twnPage HDR.ARM = 0 →
    ∃ t, exec (.aloneOk r) s = .next t ∧ t.flag TWN.ALONE_OK = true ∧ s.frame t [.regs, .ctl] [HDR.QUIESCED, TWN.ALONE_OK]) ∧
  (∀ (s : State) (r : Requester), s.regsOk → s.commands r twnPage → s.stageHeld twnPage = false → s.rd twnPage HDR.ARM = 0 → s.twn.stopped = true → s.twn.form = .hello →
    ∃ t, exec (.pairAccept r) s = .next t ∧ t.twn = { s.twn with stopped := false, pairId := none, full := true, form := .linked } ∧ s.frame t [.regs, .ctl, .twn] [HDR.QUIESCED]) ∧
  (∀ (s : State) (h : TwinHdr) (n : Nat), s.bitOf TWN.BUNDLES h.bundle.val = true → h.tagOk = true → ((List.range 16).filter s.serves).length < n →
    ∃ t, exec (.twinTime h n) s = .next t ∧ (s.timeNs ≤ h.stamp.toNat → t.timeNs = h.stamp.toNat ∧ t.slew = 0) ∧
      (h.stamp.toNat < s.timeNs → t.timeNs = s.timeNs ∧ t.slew = s.timeNs - h.stamp.toNat) ∧ t.twn = { s.twn with rxCount := tset s.twn.rxCount h.bundle.val ((tget s.twn.rxCount h.bundle.val).getD 0 + 1) } ∧ s.keptBut t [.twn, .timeNs, .slew]) ∧
  (∀ (s : State) (h : TwinHdr) (p : BitVec 4) (y : Bool) (f : BitVec 3), s.bitOf TWN.BUNDLES h.bundle.val = true → h.tagOk = true → s.role ≠ roleDst → f.toNat ≠ flmReadOnly →
    exec (.twinState h p y f) s = .next { s with twn := { s.twn with rxCount := tset s.twn.rxCount h.bundle.val ((tget s.twn.rxCount h.bundle.val).getD 0 + 1), peerInSync := y } }) ∧
  (∀ (s : State) (h : TwinHdr) (y : Bool) (f : BitVec 3), s.regsOk → s.bitOf TWN.BUNDLES h.bundle.val = true → h.tagOk = true → s.role = roleDst → s.twn.rsm = [] → f.toNat ≠ flmReadOnly →
    ∃ t, exec (.twinState h 2 y f) s = .next t ∧ t.role = rolePaired ∧ t.flag TWN.IN_SYNC = true ∧ t.twn.syncInSync = true ∧ s.frame t [.regs, .hp, .twn, .out] [CIP.AUTH_FAIL_CNT, HRV.STATE, NVS.FAST_BAD, TWN.CLAIM_W_DRV, TWN.IN_SYNC, TWN.STATE]) ∧
  (∀ (s : State) (h : TwinHdr) (p : BitVec 4) (y : Bool), s.bitOf TWN.BUNDLES h.bundle.val = true → h.tagOk = true → s.role = rolePaired →
    ∃ t, exec (.twinState h p y 4) s = .next t ∧ t.twn.peerReadOnly = true ∧ (∀ g, g < 16 → s.serves g = false → g ∈ t.twn.asked) ∧ s.keptBut t [.twn, .out])

/-- Twin link: MIRROR records, NACK, digests, reads of the partner, resync: An ordered record next in sequence that finds hold space is applied and acknowledged, one that finds none waits and is counted: a MIRROR record becomes twin brine with its stamp, a BRINE_LIST marks its blocks, a RESYNC_DATA unit is written to T2 unless newer twin brine is held. A MIRROR record whose tags do not match is dropped and recorded. A gap that stands sends NACK; NACK sends a record of the replay buffer again and counts. A digest interval is closed with its digest; a matching one is dropped at the receiver, a mismatch asks for its records, a second one marks their blocks. READ_REQ and FETCH are answered with data only in sync; answers serve the reads that wait or repair a unit. The last block of a resync makes the pair PAIRED. Each clause gives its frame. -/
def Obligations.TwinMirroring : Prop :=
  (∀ (s : State) (h : TwinHdr) (p : BitVec 64) (l : List Sector) (g : List (BitVec 64)), s.bitOf TWN.BUNDLES h.bundle.val = true → h.tagOk = true → h.seq.toNat = s.twn.rxSeq + 1 → s.twn.rxHold = [] → g.length = l.length → 1 ≤ l.length →
    h.addr.toNat / 64 % 64 + l.length ≤ 64 → (∀ k d v, l[k]? = some d → g[k]? = some v → integrityTag (h.addr.toNat / 64 + k) d = v.toNat) →
    s.holdFull (64 * l.length) = false → s.mirrorAdmits h.classM (h.addr.toNat / 4096) = true → tget s.twn.mirror (h.addr.toNat / 4096) = none →
    ∃ t m, exec (.mirror h p l g) s = .next t ∧ tget t.twn.mirror (h.addr.toNat / 4096) = some m ∧ m.stamp = h.stamp.toNat ∧ m.grp = h.grp.val ∧ m.dirty = true ∧
      (∀ k d, l[k]? = some d → tget m.vals (h.addr.toNat / 64 % 64 + k) = some { data := d, poison := p.getLsbD k }) ∧ (∀ w, w ≠ h.addr.toNat / 4096 → tget t.twn.mirror w = tget s.twn.mirror w) ∧
      t.twn.rxSeq = h.seq.toNat ∧ t.out = s.out ++ [.twin 0x04 0 h.seq.toNat 0 0 []] ∧ s.keptBut t [.tier, .twn, .dmc, .out]) ∧
  (∀ (s : State) (h : TwinHdr) (p : BitVec 64) (l : List Sector) (g : List (BitVec 64)), s.regsOk → s.bitOf TWN.BUNDLES h.bundle.val = true → h.tagOk = true → g.length ≠ l.length →
    ∃ t, exec (.mirror h p l g) s = .next t ∧ t.twn = { s.twn with rxCount := tset s.twn.rxCount h.bundle.val ((tget s.twn.rxCount h.bundle.val).getD 0 + 1) } ∧ s.frame t ([.twn, .dmc] ++ reported) reportedFields) ∧
  (∀ (s : State) (h : TwinHdr) (r : MirrorRec), s.regsOk → s.bitOf TWN.BUNDLES h.bundle.val = true → h.tagOk = true → s.twn.replay.find? (fun x => x.seq == h.seq.toNat) = some r →
    ∃ t, exec (.twinNack h) s = .next t ∧ t.get TWN.RETX_CNT = satAdd 32 (s.get TWN.RETX_CNT) 1 ∧ t.out = s.out ++ [.twin 0x03 r.grp r.seq (r.sector * 64) r.stamp [r.val]] ∧ s.frame t [.regs, .twn, .out] [CIP.AUTH_FAIL_CNT, TWN.RETX_CNT]) ∧
  (∀ (s : State) (h : TwinHdr) (a b : Nat) (d : BitVec 64), s.bitOf TWN.BUNDLES h.bundle.val = true → h.tagOk = true → digestOf (s.twn.rxLog.filter fun r => a ≤ r.seq && r.seq ≤ b) = d.toNat →
    exec (.digest h a b d) s = .next { s with twn := { s.twn with rxCount := tset s.twn.rxCount h.bundle.val ((tget s.twn.rxCount h.bundle.val).getD 0 + 1), rxLog := s.twn.rxLog.filter (fun r => b < r.seq), badDigest := s.twn.badDigest.filter (· != (a, b)) } }) ∧
  (∀ (s : State) (h : TwinHdr) (a b : Nat) (d : BitVec 64), s.regsOk → s.bitOf TWN.BUNDLES h.bundle.val = true → h.tagOk = true → digestOf (s.twn.rxLog.filter fun r => a ≤ r.seq && r.seq ≤ b) ≠ d.toNat → s.twn.badDigest.contains (a, b) = false →
    ∃ t, exec (.digest h a b d) s = .next t ∧ t.get TWN.DIGEST_MISMATCH = satAdd 32 (s.get TWN.DIGEST_MISMATCH) 1 ∧ t.twn.badDigest = s.twn.badDigest ++ [(a, b)] ∧
      t.out = s.out ++ ((s.twn.rxLog.filter fun r => a ≤ r.seq && r.seq ≤ b).map fun r => .twin 0x05 0 r.seq 0 0 []) ∧ s.frame t [.regs, .twn, .out] [TWN.DIGEST_MISMATCH]) ∧
  (∀ (s : State) (h : TwinHdr) (a b : Nat) (d : BitVec 64), s.regsOk → s.bitOf TWN.BUNDLES h.bundle.val = true → h.tagOk = true → digestOf (s.twn.rxLog.filter fun r => a ≤ r.seq && r.seq ≤ b) ≠ d.toNat → s.twn.badDigest.contains (a, b) = true →
    ∃ t, exec (.digest h a b d) s = .next t ∧ t.get TWN.DIGEST_MISMATCH = satAdd 32 (s.get TWN.DIGEST_MISMATCH) 1 ∧
      (∀ r ∈ s.twn.rxLog, a ≤ r.seq → r.seq ≤ b → pbnOf (r.addr / 64) ∈ t.twn.rsm) ∧ s.frame t ([.twn] ++ reported) ([CIP.AUTH_FAIL_CNT, TWN.DIGEST_MISMATCH] ++ reportedFields)) ∧
  (∀ (s : State), s.twn.rxHold ≠ [] → thas s.twn.rxHold (s.twn.rxSeq + 1) = false → s.linkUp = true →
    exec .recordGapTimeout s = .next { s with out := s.out ++ [.twin 0x05 0 (s.twn.rxSeq + 1) 0 0 []] }) ∧
  (∀ (s : State), s.twn.digestFrom ≤ s.twn.txSeq → s.linkUp = true →
    ∃ t, exec .digestInterval s = .next t ∧ t.twn.digestFrom = s.twn.txSeq + 1 ∧ t.twn.replay = (s.twn.replay.filter fun r => !(r.acked && r.seq < s.twn.txSeq + 1)) ∧
      t.out = s.out ++ [.twin 0x06 0 s.twn.digestFrom s.twn.txSeq (s.replayDigest s.twn.digestFrom s.twn.txSeq) []] ∧ s.keptBut t [.twn, .out]) ∧
  (∀ (s : State) (h : TwinHdr), s.bitOf TWN.BUNDLES h.bundle.val = true → h.tagOk = true → s.flag TWN.IN_SYNC = true →
    ∃ t, exec (.readReq h) s = .next t ∧ t.twn = { s.twn with rxCount := tset s.twn.rxCount h.bundle.val ((tget s.twn.rxCount h.bundle.val).getD 0 + 1) } ∧ (∀ a vs, s.dramUnit h.addr.toNat = some (a, vs) → t.out = s.out ++ [.twin 0x0D h.grp.val rspData h.addr.toNat a vs]) ∧
      (s.dramUnit h.addr.toNat = none → t.out = s.out ++ [.twin 0x0D h.grp.val rspNotResident h.addr.toNat 0 []]) ∧ s.keptBut t [.twn, .out]) ∧
  (∀ (s : State) (h : TwinHdr), s.bitOf TWN.BUNDLES h.bundle.val = true → h.tagOk = true → s.flag TWN.IN_SYNC = false →
    ∃ t, exec (.readReq h) s = .next t ∧ t.out = s.out ++ [.twin 0x0D h.grp.val rspNotInSync h.addr.toNat 0 []] ∧ s.keptBut t [.twn, .out]) ∧
  (∀ (s : State) (h : TwinHdr), s.bitOf TWN.BUNDLES h.bundle.val = true → h.tagOk = true →
    ∃ t, exec (.fetch h) s = .next t ∧ t.twn = { s.twn with rxCount := tset s.twn.rxCount h.bundle.val ((tget s.twn.rxCount h.bundle.val).getD 0 + 1) } ∧ t.out = s.out ++ [if s.flag TWN.IN_SYNC then
        .twin 0x0F h.grp.val rspData h.addr.toNat (s.t2Stamp h.addr.toNat) ((unitSecs h.addr.toNat).map s.t2Read) else .twin 0x0F h.grp.val rspNotInSync h.addr.toNat 0 []] ∧ s.keptBut t [.twn, .out]) ∧
  (∀ (s : State) (h : TwinHdr) (l : List Sector) (p g : BitVec 64) (own : Bool) (r : WaitRead), s.regsOk → s.bitOf TWN.BUNDLES h.bundle.val = true → h.tagOk = true → s.twn.compare = none → s.unitReads (h.addr.toNat / 16) (h.addr.toNat % 16) = [r] → r.stage = .twinDram →
    h.stamp.toNat = s.t2Stamp h.addr.toNat → g.getLsbD (r.sector % 64) = true →
    ∃ t, exec (.twinReadResp h (.data l p g own)) s = .next t ∧
      t = (({ s with twn := { s.twn with rxCount := tset s.twn.rxCount h.bundle.val ((tget s.twn.rxCount h.bundle.val).getD 0 + 1) } } : State).answer r (.value (((withPoison l p)[r.sector % 64]?).getD zeroSec) .okSlowPath)).movSettle ∧ s.frame t ([.xlt, .qe, .mov, .tier, .pan, .twn, .cmn, .dmc, .flm] ++ reported) ([MOV.OFFLINE, MOV.STATE, CIP.AUTH_FAIL_CNT, CME.VIOL_TX, CMP.TX_FRAMES, HP.POISON_CNT, MOV.FAULT_CNT, MOV.LAST_FCLASS, MOV.LAST_FOFF, MOV.LAST_STATUS, TIER.SLOW_PATH, TIER.SUBST, TWN.DIVERGE_CNT, TWN.DUAL_READS] ++ reportedFields)) ∧
  (∀ (s : State) (h : TwinHdr) (r : WaitRead), s.regsOk → s.bitOf TWN.BUNDLES h.bundle.val = true → h.tagOk = true → s.twn.compare = none → s.unitReads (h.addr.toNat / 16) (h.addr.toNat % 16) = [r] → r.stage = .twinDram →
    ∃ t, exec (.twinReadResp h .notResident) s = .next t ∧ t = (({ s with twn := { s.twn with rxCount := tset s.twn.rxCount h.bundle.val ((tget s.twn.rxCount h.bundle.val).getD 0 + 1) } } : State).startPath r 1).movSettle ∧ s.frame t ([.xlt, .qe, .mov, .tier, .pan, .twn, .cmn, .dmc, .flm] ++ reported) ([MOV.OFFLINE, MOV.STATE, CIP.AUTH_FAIL_CNT, CME.VIOL_TX, CMP.TX_FRAMES, HP.POISON_CNT, MOV.FAULT_CNT, MOV.LAST_FCLASS, MOV.LAST_FOFF, MOV.LAST_STATUS, TIER.SLOW_PATH, TIER.SUBST, TWN.DIVERGE_CNT, TWN.DUAL_READS] ++ reportedFields)) ∧
  (∀ (s : State) (h : TwinHdr) (l : List Sector) (p g : BitVec 64) (own : Bool), s.regsOk → s.bitOf TWN.BUNDLES h.bundle.val = true → h.tagOk = true → s.twn.compare = none → s.twn.repair.contains h.addr.toNat = true → s.block (h.addr.toNat / 16) = none → l.length ≤ 64 →
    ∃ t, exec (.fetchResp h (.data l p g own)) s = .next t ∧ t.twn.repair = s.twn.repair.filter (· != h.addr.toNat) ∧
      (∀ k v, (withPoison l p)[k]? = some v → t.t2Read (h.addr.toNat * 64 + k) = (if g.getLsbD k then v else poisonSec)) ∧ s.frame t ([.tier, .pan, .twn, .dmc, .flm] ++ reported) ([CIP.AUTH_FAIL_CNT, TWN.DIVERGE_CNT, TWN.DUAL_READS] ++ reportedFields)) ∧
  (∀ (s : State) (h : TwinHdr), s.regsOk → s.bitOf TWN.BUNDLES h.bundle.val = true → h.tagOk = true → s.twn.compare = none → s.twn.repair.contains h.addr.toNat = true →
    ∃ t, exec (.fetchResp h .notInSync) s = .next t ∧ t.twn.repair = s.twn.repair.filter (· != h.addr.toNat) ∧ t.flm = s.flm ∧ s.frame t ([.twn, .dmc] ++ reported) reportedFields) ∧
  (∀ (s : State) (h : TwinHdr) (ps : List Nat), s.bitOf TWN.BUNDLES h.bundle.val = true → h.tagOk = true → h.seq.toNat = s.twn.rxSeq + 1 → s.twn.rxHold = [] → s.holdFull (8 * ps.length) = false →
    ∃ t, exec (.brineList h ps) s = .next t ∧ (∀ p ∈ ps, p ∈ t.twn.rsm) ∧ (∀ p ∈ s.twn.rsm, p ∈ t.twn.rsm) ∧ t.twn.rxSeq = h.seq.toNat ∧ s.keptBut t [.twn, .dmc, .out]) ∧
  (∀ (s : State) (h : TwinHdr) (l : List Sector) (p : BitVec 64), s.bitOf TWN.BUNDLES h.bundle.val = true → h.tagOk = true → h.seq.toNat = s.twn.rxSeq + 1 → s.twn.rxHold = [] → s.holdFull 4096 = false → tget s.twn.mirror h.addr.toNat = none → l.length = 64 →
    ∃ t, exec (.resyncData h (.data l p)) s = .next t ∧ (∀ k v, (withPoison l p)[k]? = some v → t.t2Read (h.addr.toNat * 64 + k) = v) ∧ t.t2Stamp h.addr.toNat = h.stamp.toNat ∧
      (∀ n, n / 64 ≠ h.addr.toNat → t.t2Read n = s.t2Read n) ∧ t.twn.mirror = s.twn.mirror ∧ t.twn.rxSeq = h.seq.toNat ∧ s.keptBut t [.tier, .twn, .dmc, .flm, .out]) ∧
  (∀ (s : State) (h : TwinHdr) (u : ResyncUnit) (m : MUnit), s.bitOf TWN.BUNDLES h.bundle.val = true → h.tagOk = true → h.seq.toNat = s.twn.rxSeq + 1 → s.twn.rxHold = [] → s.holdFull (match u with | .zero => 0 | .data d _ => 64 * d.length) = false → tget s.twn.mirror h.addr.toNat = some m → h.stamp.toNat < m.stamp →
    ∃ t, exec (.resyncData h u) s = .next t ∧ t.flm = s.flm ∧ t.twn.mirror = s.twn.mirror ∧ t.twn.rxSeq = h.seq.toNat ∧ s.keptBut t [.twn, .dmc, .out]) ∧
  (∀ (s : State) (h : TwinHdr), s.bitOf TWN.BUNDLES h.bundle.val = true → h.tagOk = true → s.role ≠ roleSrc →
    exec (.resyncAck h) s = .next { s with twn := { s.twn with rxCount := tset s.twn.rxCount h.bundle.val ((tget s.twn.rxCount h.bundle.val).getD 0 + 1), rsm := s.twn.rsm.filter (· != h.addr.toNat) } }) ∧
  (∀ (s : State) (h : TwinHdr), s.regsOk → s.bitOf TWN.BUNDLES h.bundle.val = true → h.tagOk = true → s.role = roleSrc → s.twn.scanDone = true → s.twn.rsm = [h.addr.toNat] →
    ∃ t, exec (.resyncAck h) s = .next t ∧ t.role = rolePaired ∧ t.flag TWN.IN_SYNC = true ∧ t.flag TWN.CLAIM_W_DRV = false ∧ t.twn.rsm = [] ∧ s.frame t [.regs, .hp, .twn, .out] [CIP.AUTH_FAIL_CNT, HRV.STATE, NVS.FAST_BAD, TWN.CLAIM_W_DRV, TWN.IN_SYNC, TWN.STATE]) ∧
  (∀ (s : State), s.mirroring = false → exec .rsmScanDone s = .next { s with twn := { s.twn with scanDone := true } }) ∧
  (∀ (s : State), s.regsOk → s.role = roleSrc → s.twn.rsm = [] → ∃ t, exec .rsmScanDone s = .next t ∧ t.role = rolePaired ∧ t.flag TWN.IN_SYNC = true ∧ s.frame t [.regs, .hp, .twn, .out] [HRV.STATE, NVS.FAST_BAD, TWN.CLAIM_W_DRV, TWN.IN_SYNC, TWN.STATE]) ∧
  (∀ (s : State) (h : TwinHdr) (ps : List Nat), s.regsOk → s.bitOf TWN.BUNDLES h.bundle.val = true → h.tagOk = true → s.holdFull (8 * ps.length) = true →
    ∃ t, exec (.brineList h ps) s = .next t ∧ t.twn.rxHold = tset s.twn.rxHold h.seq.toNat (.brineList ps) ∧ t.twn.rxSeq = s.twn.rxSeq ∧
      t.get CIP.HOLD_FULL_CNT = satAdd 32 (s.get CIP.HOLD_FULL_CNT) 1 ∧ s.frame t [.regs, .twn, .dmc] [CIP.HOLD_FULL_CNT])

/-- Twin pair: claims, takeover, arbitration, handoff: A claim of the partner above this twin's own ends its serving of the group in that step; one below changes nothing; the claim that follows a handoff takes the group's blocks out of T1. A RELEASE of every group makes a twin in sync SOLO. A SOLO twin in sync that reads CLAIM_W high twice drives it low and has the epochs of the groups it does not serve stored; once stored, each claim is one epoch above every earlier one, with this twin's UNIT, and SERVE is set. A failed store is tried once more, then abandoned. CLAIM_W low for 1 ms is recorded. Arbitration: high wins, low is FENCED, and the winner takes the groups. A handoff holds a group, is given once every write is acknowledged, or ends at its timeout. A PAIRED twin asks for its preferred groups. Each clause gives its frame. -/
def Obligations.TwinClaims : Prop :=
  (∀ (s : State) (h : TwinHdr), s.regsOk → s.bitOf TWN.BUNDLES h.bundle.val = true → h.tagOk = true → s.get TWN.TWN_CLAIM_PEER 0 h.grp.val < h.stamp.toNat → s.get TWN.TWN_CLAIM_LOCAL 0 h.grp.val ≤ h.stamp.toNat → s.serves h.grp.val = true →
    s.twn.gave.contains h.grp.val = false →
    ∃ t, exec (.claim h) s = .next t ∧ t.get TWN.TWN_CLAIM_PEER 0 h.grp.val = h.stamp.toNat ∧ t.serves h.grp.val = false ∧ t.get TWN.TWN_CLAIM_LOCAL 0 h.grp.val = 0 ∧
      (∀ g, g < 16 → g ≠ h.grp.val → t.serves g = s.serves g ∧ t.get TWN.TWN_CLAIM_LOCAL 0 g = s.get TWN.TWN_CLAIM_LOCAL 0 g) ∧ s.frame t ([.xlt, .qe, .mov, .tier, .pan, .twn, .cmn, .dmc, .flm] ++ reported) ([MOV.OFFLINE, MOV.STATE, CIP.AUTH_FAIL_CNT, CME.VIOL_TX, CMP.TX_FRAMES, MOV.FAULT_CNT, MOV.LAST_FCLASS, MOV.LAST_FOFF, MOV.LAST_STATUS, NVS.FAST_BAD, PAN.LOCK_LOST_CNT, PAN.WB_CNT, TWN.CLAIM_W_DRV, TWN.IN_SYNC, TWN.SERVE, TWN.STATE, TWN.TWN_CLAIM_LOCAL, TWN.TWN_CLAIM_PEER, PAN.LOCKS_RELEASED] ++ reportedFields)) ∧
  (∀ (s : State) (h : TwinHdr), s.bitOf TWN.BUNDLES h.bundle.val = true → h.tagOk = true → h.stamp.toNat ≤ s.get TWN.TWN_CLAIM_PEER 0 h.grp.val → s.get TWN.TWN_CLAIM_PEER 0 h.grp.val < s.get TWN.TWN_CLAIM_LOCAL 0 h.grp.val →
    s.twn.gave.contains h.grp.val = false →
    exec (.claim h) s = .next { s with twn := { s.twn with rxCount := tset s.twn.rxCount h.bundle.val ((tget s.twn.rxCount h.bundle.val).getD 0 + 1) } }) ∧
  (∀ (s : State) (h : TwinHdr), s.regsOk → s.bitOf TWN.BUNDLES h.bundle.val = true → h.tagOk = true → s.serves h.grp.val = false → s.twn.gave.contains h.grp.val = true → s.flmState ≠ flmReadOnly →
    ∃ t, exec (.claim h) s = .next t ∧ (∀ p b, s.block p = some b → (s.regionAt b.region).grp = h.grp.val → t.block p = none) ∧ t.twn.gave = s.twn.gave.filter (· != h.grp.val) ∧
      t.twn.handoff = s.twn.handoff.filter (· != h.grp.val) ∧ s.frame t ([.xlt, .qe, .mov, .tier, .pan, .twn, .cmn, .dmc, .flm] ++ reported) ([MOV.OFFLINE, MOV.STATE, CIP.AUTH_FAIL_CNT, CME.VIOL_TX, CMP.TX_FRAMES, MOV.FAULT_CNT, MOV.LAST_FCLASS, MOV.LAST_FOFF, MOV.LAST_STATUS, NVS.FAST_BAD, PAN.LOCK_LOST_CNT, PAN.WB_CNT, TWN.CLAIM_W_DRV, TWN.IN_SYNC, TWN.SERVE, TWN.STATE, TWN.TWN_CLAIM_LOCAL, TWN.TWN_CLAIM_PEER, PAN.LOCKS_RELEASED] ++ reportedFields)) ∧
  (∀ (s : State) (h : TwinHdr), s.regsOk → s.bitOf TWN.BUNDLES h.bundle.val = true → h.tagOk = true → s.role = rolePaired → s.flag TWN.IN_SYNC = true →
    ∃ t, exec (.release h (BitVec.allOnes 16)) s = .next t ∧ t.role = roleSolo ∧ t.twn.scanDone = false ∧ (∀ p ∈ s.brineBlocks, p ∈ t.twn.rsm) ∧ s.frame t ([.xlt, .qe, .mov, .tier, .pan, .twn, .cmn, .dmc, .flm] ++ reported) ([MOV.OFFLINE, MOV.STATE, TIER.SUBST, CIP.AUTH_FAIL_CNT, CME.VIOL_TX, CMP.TX_FRAMES, MOV.FAULT_CNT, MOV.LAST_FCLASS, MOV.LAST_FOFF, MOV.LAST_STATUS, NVS.FAST_BAD, PAN.HIT_CNT, PAN.MISS_CNT, PAN.WB_CNT, TIER.MISSED, TIER.ON_TIME, TIER.QUOTA_REFUSE, TWN.CLAIM_W_DRV, TWN.IN_SYNC, TWN.SERVE, TWN.STATE, TWN.TWN_CLAIM_LOCAL] ++ reportedFields)) ∧
  (∀ (s : State) (h : TwinHdr) (m : BitVec 16), s.bitOf TWN.BUNDLES h.bundle.val = true → h.tagOk = true → m ≠ BitVec.allOnes 16 → exec (.release h m) s = .next { s with twn := { s.twn with rxCount := tset s.twn.rxCount h.bundle.val ((tget s.twn.rxCount h.bundle.val).getD 0 + 1) } }) ∧
  (∀ (s : State) (h : TwinHdr), s.regsOk → s.bitOf TWN.BUNDLES h.bundle.val = true → h.tagOk = true → s.role = rolePaired → s.serves h.grp.val = false → s.twn.take = none →
    ∃ t, exec (.handoff h) s = .next t ∧ t.twn.take = some { groups := [h.grp.val], retried := false, takeover := false } ∧ t.get TWN.TWN_CLAIM_PEER 0 h.grp.val = max (s.get TWN.TWN_CLAIM_PEER 0 h.grp.val) h.stamp.toNat ∧
      t.out = s.out ++ [.device "EPOCH_STORE" [h.grp.val]] ∧ s.frame t [.regs, .twn, .out] [CIP.AUTH_FAIL_CNT, TWN.TWN_CLAIM_PEER]) ∧
  (∀ (s : State), s.regsOk → s.role = roleSolo → s.flag TWN.IN_SYNC = true → s.flag TWN.CLAIM_W_DRV = false → s.unserved ≠ [] → s.twn.take = none →
    ∃ t, exec (.takeoverClaimSample true true) s = .next t ∧ t.flag TWN.CLAIM_W_DRV = true ∧ t.flag TWN.CLAIM_W_IN = true ∧
      t.twn = { s.twn with take := some { groups := s.unserved, retried := false, takeover := true } } ∧ t.out = s.out ++ [.pin "CLAIM_W" 0 (some false), .device "EPOCH_STORE" s.unserved] ∧ s.frame t [.evf, .free, .hp, .pwr, .recd, .regs, .twn, .out] [EVF.ALERT_DRV, EVF.TRACE_DROP, HDR.ERR_INFO0, HDR.ERR_INFO1, HDR.ERR_STAT, HDR.EVT_STAT, MGT.ALARM_SENT, PWR.PWR_WAKE_LATCH, PWR.STATE, REC.ALARM_DROP, REC.HEAD_SEQ, REC.LOST_CNT, REC.OVW_CNT, REC.RSV_USED, TWN.CLAIM_W_DRV, TWN.CLAIM_W_IN]) ∧
  (∀ (s : State) (a b : Bool), s.regsOk → (a && b) = false → ∃ t, exec (.takeoverClaimSample a b) s = .next t ∧ t.flag TWN.CLAIM_W_IN = b ∧ s.frame t [.regs] [TWN.CLAIM_W_IN]) ∧
  (∀ (s : State) (g : Nat) (k : Bool) (b : Bool) (e : Nat), s.regsOk → s.twn.take = some { groups := [g], retried := k, takeover := b } → g < 16 →
    max ((tget s.twn.epochs g).getD 0) (s.get TWN.TWN_CLAIM_PEER 0 g / 256) + 1 = e → s.twn.peerReadOnly = false →
    ∃ t, exec (.epochStoreDone true) s = .next t ∧ t.get TWN.TWN_CLAIM_LOCAL 0 g = (e * 256 + s.unit) % 2 ^ 64 ∧ t.serves g = true ∧ tget t.twn.epochs g = some e ∧ t.twn.take = none ∧
      (∀ x, x < 16 → x ≠ g → t.serves x = s.serves x ∧ t.get TWN.TWN_CLAIM_LOCAL 0 x = s.get TWN.TWN_CLAIM_LOCAL 0 x) ∧ (∀ m ∈ t.twn.mirror, m.2.grp ≠ g) ∧
      t.get TWN.TAKEOVER_CNT = (if b then satAdd 32 (s.get TWN.TAKEOVER_CNT) 1 else s.get TWN.TAKEOVER_CNT) ∧ s.frame t ([.xlt, .qe, .mov, .tier, .pan, .twn, .cmn, .dmc, .flm] ++ reported) ([MOV.FAULT_CNT, MOV.LAST_FCLASS, MOV.LAST_FOFF, MOV.LAST_STATUS, MOV.PARK_FULL_CNT, MOV.PARK_PEAK, MOV.STEPS_DONE, TIER.SUBST, CME.VIOL_TX, CMP.TX_FRAMES, MOV.OFFLINE, MOV.STATE, NVS.FAST_BAD, PAN.HIT_CNT, PAN.MISS_CNT, PAN.WB_CNT, TIER.MISSED, TIER.ON_TIME, TIER.QUOTA_REFUSE, TWN.SERVE, TWN.STATE, TWN.TAKEOVER_CNT, TWN.TWN_CLAIM_LOCAL, PAN.LOCKS_RELEASED, PAN.LOCK_LOST_CNT, QE.BUSY] ++ reportedFields)) ∧
  (∀ (s : State) (a : Take), s.twn.take = some a → a.retried = false →
    ∃ t, exec (.epochStoreDone false) s = .next t ∧ t.twn = { s.twn with take := some { a with retried := true } } ∧ t.out = s.out ++ [.device "EPOCH_STORE" a.groups] ∧ s.keptBut t [.twn, .dmc, .out]) ∧
  (∀ (s : State) (a : Take), s.regsOk → s.twn.take = some a → a.retried = true →
    ∃ t, exec (.epochStoreDone false) s = .next t ∧ t.twn = { s.twn with take := none } ∧ s.frame t ([.twn, .dmc] ++ reported) ([PAN.LOCKS_RELEASED, PAN.LOCK_LOST_CNT, QE.BUSY] ++ reportedFields)) ∧
  (∀ (s : State), s.regsOk → s.role = roleSolo → s.flag TWN.CLAIM_W_DRV = false → s.unserved ≠ [] →
    ∃ t, exec .claimStuck s = .next t ∧ bit (t.rd twnPage HDR.ERR_STAT) 20 = true ∧ s.frame t reported reportedFields) ∧
  (∀ (s : State), s.regsOk → s.role = rolePaired → s.linkUp = false → s.flag TWN.ALIVE_IN_OK = true → s.flag TWN.IN_SYNC = true →
    ∃ t, exec (.arbitrationSample true) s = .next t ∧ t.role = roleSolo ∧ t.flag TWN.CLAIM_W_DRV = true ∧ t.flag TWN.IN_SYNC = true ∧ s.frame t ([.xlt, .qe, .mov, .tier, .pan, .twn, .cmn, .dmc, .flm] ++ reported) ([MOV.OFFLINE, MOV.STATE, TIER.SUBST, CME.VIOL_TX, CMP.TX_FRAMES, MOV.FAULT_CNT, MOV.LAST_FCLASS, MOV.LAST_FOFF, MOV.LAST_STATUS, NVS.FAST_BAD, PAN.HIT_CNT, PAN.MISS_CNT, PAN.WB_CNT, TIER.MISSED, TIER.ON_TIME, TIER.QUOTA_REFUSE, TWN.CLAIM_W_DRV, TWN.CLAIM_W_IN, TWN.IN_SYNC, TWN.SERVE, TWN.STATE, TWN.TWN_CLAIM_LOCAL] ++ reportedFields)) ∧
  (∀ (s : State), s.regsOk → s.role = rolePaired → s.linkUp = false → s.flag TWN.ALIVE_IN_OK = true →
    ∃ t, exec (.arbitrationSample false) s = .next t ∧ t.role = roleFenced ∧ t.get TWN.SERVE = 0 ∧ t.flag TWN.CLAIM_W_DRV = false ∧ s.frame t ([.xlt, .qe, .mov, .tier, .pan, .twn, .cmn, .dmc, .flm] ++ reported) ([MOV.OFFLINE, MOV.STATE, TIER.SUBST, CME.VIOL_TX, CMP.TX_FRAMES, MOV.FAULT_CNT, MOV.LAST_FCLASS, MOV.LAST_FOFF, MOV.LAST_STATUS, NVS.FAST_BAD, PAN.HIT_CNT, PAN.MISS_CNT, PAN.WB_CNT, TIER.MISSED, TIER.ON_TIME, TIER.QUOTA_REFUSE, TWN.CLAIM_W_DRV, TWN.CLAIM_W_IN, TWN.IN_SYNC, TWN.SERVE, TWN.STATE, TWN.TWN_CLAIM_LOCAL] ++ reportedFields)) ∧
  (∀ (s : State), s.role = roleSolo → s.flag TWN.CLAIM_W_DRV = true → s.unserved ≠ [] → s.twn.take = none →
    ∃ t, exec .loserGroupTake s = .next t ∧ t.twn = { s.twn with take := some { groups := s.unserved, retried := false, takeover := true } } ∧
      t.out = s.out ++ [.device "EPOCH_STORE" s.unserved] ∧ s.keptBut t [.twn, .out]) ∧
  (∀ (s : State) (r : Requester) (g : Grp), s.regsOk → s.commands r twnPage → s.role = rolePaired → s.serves g.val = true → s.twn.handoff.contains g.val = false →
    ∃ t, exec (.handoffGive r g) s = .next t ∧ t.twn = { s.twn with handoff := s.twn.handoff ++ [g.val] } ∧ s.frame t [.regs, .twn] [HDR.QUIESCED]) ∧
  (∀ (s : State) (r : Requester) (g : Grp), s.regsOk → s.commands r twnPage → s.role = rolePaired → s.serves g.val = false → s.twn.asked.contains g.val = false →
    ∃ t, exec (.handoffRequest r g) s = .next t ∧ t.twn = { s.twn with asked := s.twn.asked ++ [g.val] } ∧ t.out = s.out ++ [.device "HANDOFF_REQUEST" [g.val]] ∧
      s.frame t [.regs, .twn, .out] [HDR.QUIESCED]) ∧
  (∀ (s : State) (g : Grp), s.regsOk → s.twn.handoff.contains g.val = true → s.twn.gave.contains g.val = false → (∀ r ∈ s.twn.replay, r.grp = g.val → r.acked = true) →
    ∃ t, exec (.handoffDrained g) s = .next t ∧ t.serves g.val = false ∧ t.get TWN.TWN_CLAIM_LOCAL 0 g.val = 0 ∧ t.twn.gave = s.twn.gave ++ [g.val] ∧
      t.get TWN.HANDOFF_CNT = satAdd 32 (s.get TWN.HANDOFF_CNT) 1 ∧ s.frame t ([.mov, .xlt, .qe, .tier, .twn, .cmn] ++ reported) ([MOV.OFFLINE, MOV.STATE, CME.VIOL_TX, CMP.TX_FRAMES, MOV.FAULT_CNT, MOV.LAST_FCLASS, MOV.LAST_FOFF, MOV.LAST_STATUS, NVS.FAST_BAD, TWN.CLAIM_W_DRV, TWN.HANDOFF_CNT, TWN.SERVE, TWN.TWN_CLAIM_LOCAL] ++ reportedFields)) ∧
  (∀ (s : State) (g : Grp) (r : MirrorRec), r ∈ s.twn.replay → r.grp = g.val → r.acked = false → exec (.handoffDrained g) s = .next s) ∧
  (∀ (s : State) (g : Grp), s.regsOk → s.twn.handoff.contains g.val = true → s.twn.gave.contains g.val = false →
    ∃ t, exec (.handoffTimeout g) s = .next t ∧ t.twn = { s.twn with handoff := s.twn.handoff.filter (· != g.val) } ∧ s.frame t ([.twn] ++ reported) reportedFields) ∧
  (∀ (s : State), s.role = rolePaired → s.flag TWN.RECLAIM_EN = true →
    ∃ t, exec .reclaimHoldExpiry s = .next t ∧ (∀ g, g < 16 → bit (s.get TWN.PREF_MASK) g = true → s.serves g = false → g ∈ t.twn.asked) ∧ s.keptBut t [.twn, .out])

/-- Cemanor target: packets of a message, FLAGGED, refusals, ACK and NACK timers, message timeout: A first packet of a message whose key is admitted takes a message slot, counts in INFLIGHT and places its data; a FLAGGED packet whose turn has not come is held; a packet of a resolved message is accepted and counted in LATE_PKT; without a message slot it is not accepted and NACK names it. A stale key ends the message with KEY_STALE, counted as a violation. A WRITE_MASKED that is placed and acknowledged is answered WRITE_CMP OK. A READ whose sector is at hand is answered READ_RESP with its data. ACK names RX_BASE - 1; NACK names every missing range; a message that times out ends INCOMPLETE_MESSAGE. Each clause gives its frame. -/
def Obligations.CemanorTarget : Prop :=
  (∀ (s u v w z : State) (p : Packet) (j : Nat) (r : Registration) (d : Region) (m : TgtMsg), s.regsOk → s.receives p true → s.newMessage p → p.flagged = false → p.first = false → p.final = false →
    p.data.length = 64 → p.plen = 80 → 10 ≤ (s.conn (cmnIx p)).desc.dataLog2.toNat → (s.conn (cmnIx p)).desc.dataLog2.toNat ≤ 13 → p.offset.toNat % 64 = 0 →
    (s.tookPkt p).admitKey p.rkey.toNat (s.conn (cmnIx p)).desc.peerNode.toNat = (u, .ok (j, r)) → j = keyIndex p.rkey.toNat → r.baseOff % 64 = 0 → u.slotted p j r false 64 = v →
    v.checks (r.access (s.conn (cmnIx p)).desc.tenant.toNat p.offset.toNat 64) .remote true = (w, .ok d) →
    w.placeSector (cmnIx p) { slotOf p false 64 with grp := d.grp } d { r with inflight := (r.inflight + 1) % 2 ^ 32 } false (r.baseOff + p.offset.toNat) (ofSecBytes p.data) (BitVec.allOnes 64)
      (p.poison.getLsbD (p.offset.toNat % 2 ^ (s.conn (cmnIx p)).desc.dataLog2.toNat / 64)) p.psn.toNat = (z, .ok m) → (z.conn (cmnIx p)).holds = [] →
    ∃ t, exec (.cmnWrite p) s = .next t ∧ (t.conn (cmnIx p)).tgt p.msn.toNat = some { m with placed := m.placed + 64 } ∧ t.tier = z.movSettle.tier ∧ t.twn = z.twn ∧ t.pan = z.pan ∧ s.frame t ([.xlt, .qe, .mov, .tier, .pan, .twn, .cmn, .dmc, .flm] ++ reported) ([MOV.OFFLINE, MOV.STATE, TIER.SUBST, CME.AUTH_FAIL, CME.HOLD_DROP, CME.LATE_PKT, CME.VIOL_RX, CME.VIOL_TX, CMP.CE_MARKED, CMP.FCS_ERR, CMP.RX_DROP, CMP.RX_FRAMES, CMP.TX_FRAMES, HP.POISON_CNT, HP.REFUSE_CNT, MOV.FAULT_CNT, MOV.LAST_FCLASS, MOV.LAST_FOFF, MOV.LAST_STATUS, PAN.HIT_CNT, PAN.MISS_CNT, PAN.WB_CNT, TIER.MISSED, TIER.ON_TIME, TIER.QUOTA_REFUSE, XLT.BUSY, CIP.AUTH_FAIL_CNT] ++ reportedFields)) ∧
  (∀ (s u : State) (p : Packet) (j : Nat) (r : Registration), s.regsOk → s.receives p true → s.newMessage p → p.flagged = true → (s.conn (cmnIx p)).msnBase ≠ p.msn.toNat →
    (s.conn (cmnIx p)).holds.length < (s.conn (cmnIx p)).desc.holdMax.toNat → (s.rcvd p).holdsUsed < 512 →
    (s.tookPkt p).admitKey p.rkey.toNat (s.conn (cmnIx p)).desc.peerNode.toNat = (u, .ok (j, r)) →
    ∃ t, exec (.cmnWrite p) s = .next t ∧ (t.conn (cmnIx p)).holds = (s.conn (cmnIx p)).holds ++ [{ p with status := 0 }] ∧ (t.conn (cmnIx p)).tgt p.msn.toNat = some (slotNew p false) ∧
      (t.conn (cmnIx p)).accepted p ∧ (t.registrationAt j).inflight = (r.inflight + 1) % 2 ^ 32 ∧ t.mem = s.mem ∧ s.frame t ([.xlt, .qe, .mov, .tier, .pan, .twn, .cmn, .dmc, .flm] ++ reported) ([MOV.OFFLINE, MOV.STATE, TIER.SUBST, CME.AUTH_FAIL, CME.HOLD_DROP, CME.LATE_PKT, CME.VIOL_RX, CME.VIOL_TX, CMP.CE_MARKED, CMP.FCS_ERR, CMP.RX_DROP, CMP.RX_FRAMES, CMP.TX_FRAMES, HP.POISON_CNT, HP.REFUSE_CNT, MOV.FAULT_CNT, MOV.LAST_FCLASS, MOV.LAST_FOFF, MOV.LAST_STATUS, PAN.HIT_CNT, PAN.MISS_CNT, PAN.WB_CNT, TIER.MISSED, TIER.ON_TIME, TIER.QUOTA_REFUSE, XLT.BUSY, CIP.AUTH_FAIL_CNT] ++ reportedFields)) ∧
  (∀ (s : State) (p : Packet), s.regsOk → s.receives p true → p.msn.toNat < (s.conn (cmnIx p)).msnBase →
    ∃ t, exec (.cmnWrite p) s = .next t ∧ (t.conn (cmnIx p)).accepted p ∧ t.get CME.LATE_PKT 4 = satAdd 32 (s.get CME.LATE_PKT 4) 1 ∧ t.pan = s.pan ∧ t.twn = s.twn ∧ s.frame t ([.xlt, .qe, .mov, .tier, .pan, .twn, .cmn, .dmc, .flm] ++ reported) ([MOV.OFFLINE, MOV.STATE, TIER.SUBST, CME.AUTH_FAIL, CME.HOLD_DROP, CME.LATE_PKT, CME.VIOL_RX, CME.VIOL_TX, CMP.CE_MARKED, CMP.FCS_ERR, CMP.RX_DROP, CMP.RX_FRAMES, CMP.TX_FRAMES, HP.POISON_CNT, HP.REFUSE_CNT, MOV.FAULT_CNT, MOV.LAST_FCLASS, MOV.LAST_FOFF, MOV.LAST_STATUS, PAN.HIT_CNT, PAN.MISS_CNT, PAN.WB_CNT, TIER.MISSED, TIER.ON_TIME, TIER.QUOTA_REFUSE, XLT.BUSY, CIP.AUTH_FAIL_CNT] ++ reportedFields)) ∧
  (∀ (s : State) (p : Packet), s.regsOk → s.receives p true → (s.conn (cmnIx p)).msnBase ≤ p.msn.toNat → p.msn.toNat ≤ (s.conn (cmnIx p)).msnBase + 4095 → p.msn.toNat ∉ (s.conn (cmnIx p)).resolved →
    (s.conn (cmnIx p)).tgt p.msn.toNat = none → 262144 ≤ (s.rcvd p).slotsUsed → (s.conn (cmnIx p)).paths ≠ [] →
    ∃ t, exec (.cmnWrite p) s = .next t ∧ (t.conn (cmnIx p)).rx p.phase = (s.conn (cmnIx p)).rx p.phase ∧ t.get CME.HOLD_DROP 4 = satAdd 32 (s.get CME.HOLD_DROP 4) 1 ∧
      (∃ q : Packet, t.out = s.out ++ [.packet opNack q] ∧ q.phase = p.phase ∧ q.conn = (s.conn (cmnIx p)).desc.peerConn ∧ q.data = be 4 p.psn.toNat ++ be 4 1) ∧ s.frame t ([.xlt, .qe, .mov, .tier, .pan, .twn, .cmn, .dmc, .flm] ++ reported) ([MOV.OFFLINE, MOV.STATE, TIER.SUBST, CME.AUTH_FAIL, CME.HOLD_DROP, CME.LATE_PKT, CME.VIOL_RX, CME.VIOL_TX, CMP.CE_MARKED, CMP.FCS_ERR, CMP.RX_DROP, CMP.RX_FRAMES, CMP.TX_FRAMES, HP.POISON_CNT, HP.REFUSE_CNT, MOV.FAULT_CNT, MOV.LAST_FCLASS, MOV.LAST_FOFF, MOV.LAST_STATUS, PAN.HIT_CNT, PAN.MISS_CNT, PAN.WB_CNT, TIER.MISSED, TIER.ON_TIME, TIER.QUOTA_REFUSE, XLT.BUSY, CIP.AUTH_FAIL_CNT] ++ reportedFields)) ∧
  (∀ (s u : State) (p : Packet), s.regsOk → s.receives p true → s.newMessage p → p.flagged = false → (s.tookPkt p).admitKey p.rkey.toNat (s.conn (cmnIx p)).desc.peerNode.toNat = (u, .error .keyStale) →
    ∃ t, exec (.cmnWriteMasked p) s = .next t ∧ (t.conn (cmnIx p)).tgt p.msn.toNat = none ∧ (t.conn (cmnIx p)).responds opWriteCmp p.msn.toNat .keyStale ∧
      (t.conn (cmnIx p)).viol = satAdd 32 (s.conn (cmnIx p)).viol 1 ∧ t.get CME.VIOL_TX 4 = satAdd 32 (s.get CME.VIOL_TX 4) 1 ∧ t.pan = s.pan ∧ t.twn = s.twn ∧ s.frame t ([.xlt, .qe, .mov, .tier, .pan, .twn, .cmn, .dmc, .flm] ++ reported) ([MOV.OFFLINE, MOV.STATE, TIER.SUBST, CME.AUTH_FAIL, CME.HOLD_DROP, CME.LATE_PKT, CME.VIOL_RX, CME.VIOL_TX, CMP.CE_MARKED, CMP.FCS_ERR, CMP.RX_DROP, CMP.RX_FRAMES, CMP.TX_FRAMES, HP.POISON_CNT, HP.REFUSE_CNT, MOV.FAULT_CNT, MOV.LAST_FCLASS, MOV.LAST_FOFF, MOV.LAST_STATUS, PAN.HIT_CNT, PAN.MISS_CNT, PAN.WB_CNT, TIER.MISSED, TIER.ON_TIME, TIER.QUOTA_REFUSE, XLT.BUSY, CIP.AUTH_FAIL_CNT] ++ reportedFields)) ∧
  (∀ (s u v w z : State) (p : Packet) (j : Nat) (r : Registration) (d : Region) (m : TgtMsg), s.regsOk → s.receives p true → s.newMessage p → p.flagged = false → p.first = true → p.final = true → p.total = 64 →
    p.data.length = 64 → p.plen = 88 → 10 ≤ (s.conn (cmnIx p)).desc.dataLog2.toNat → (s.conn (cmnIx p)).desc.dataLog2.toNat ≤ 13 → p.offset.toNat % 64 = 0 →
    (s.tookPkt p).admitKey p.rkey.toNat (s.conn (cmnIx p)).desc.peerNode.toNat = (u, .ok (j, r)) → j = keyIndex p.rkey.toNat → u.slotted p j r false 64 = v →
    v.checks (r.access (s.conn (cmnIx p)).desc.tenant.toNat p.offset.toNat 64) .remote true = (w, .ok d) →
    w.placeSector (cmnIx p) { slotOf p false 64 with grp := d.grp } d { r with inflight := (r.inflight + 1) % 2 ^ 32 } false (r.baseOff + p.offset.toNat) (ofSecBytes p.data) p.enable
      (p.poison.getLsbD (p.offset.toNat % 2 ^ (s.conn (cmnIx p)).desc.dataLog2.toNat / 64)) p.psn.toNat = (z, .ok m) → (z.conn (cmnIx p)).holds = [] →
    m.held = 0 → (m.mirrors.any fun x => z.mirrorOpen (some x)) = false → z.serves (z.regionAt r.region).grp = true →
    ∃ t, exec (.cmnWriteMasked p) s = .next t ∧ (t.conn (cmnIx p)).tgt p.msn.toNat = none ∧ (t.conn (cmnIx p)).responds opWriteCmp p.msn.toNat .ok ∧ t.twn = z.twn ∧ t.pan = z.pan ∧ s.frame t ([.xlt, .qe, .mov, .tier, .pan, .twn, .cmn, .dmc, .flm] ++ reported) ([MOV.OFFLINE, MOV.STATE, TIER.SUBST, CME.AUTH_FAIL, CME.HOLD_DROP, CME.LATE_PKT, CME.VIOL_RX, CME.VIOL_TX, CMP.CE_MARKED, CMP.FCS_ERR, CMP.RX_DROP, CMP.RX_FRAMES, CMP.TX_FRAMES, HP.POISON_CNT, HP.REFUSE_CNT, MOV.FAULT_CNT, MOV.LAST_FCLASS, MOV.LAST_FOFF, MOV.LAST_STATUS, PAN.HIT_CNT, PAN.MISS_CNT, PAN.WB_CNT, TIER.MISSED, TIER.ON_TIME, TIER.QUOTA_REFUSE, XLT.BUSY, CIP.AUTH_FAIL_CNT] ++ reportedFields)) ∧
  (∀ (s u v w x z : State) (p : Packet) (j : Nat) (r : Registration) (d : Region) (pl : Place64) (val : SectorVal) (how : Status), s.regsOk → s.receives p true → s.newMessage p → p.flagged = false →
    p.first = true → p.final = true → p.total = 64 → 10 ≤ (s.conn (cmnIx p)).desc.dataLog2.toNat → (s.conn (cmnIx p)).desc.dataLog2.toNat ≤ 13 → p.offset.toNat % 64 = 0 → r.baseOff % 64 = 0 →
    (s.tookPkt p).admitKey p.rkey.toNat (s.conn (cmnIx p)).desc.peerNode.toNat = (u, .ok (j, r)) → j = keyIndex p.rkey.toNat → u.slotted p j r true 64 = v →
    v.checks (r.access (s.conn (cmnIx p)).desc.tenant.toNat p.offset.toNat 64) .remote false = (w, .ok d) →
    (w.putConn (cmnIx p) ((w.conn (cmnIx p)).putTgt { slotOf p true 64 with grp := d.grp, want := 1 })).resolve r.region d (r.baseOff + p.offset.toNat) = (x, .ok pl) →
    x.readStart { place := pl, who := .cmn (cmnIx p) p.msn.toNat (r.baseOff + p.offset.toNat), tenant := (s.conn (cmnIx p)).desc.tenant.toNat, train := some (.conn (BitVec.ofNat 20 (cmnIx p))), window := 0, dpa := r.baseOff + p.offset.toNat } = (z, some (.value val how)) →
    (z.conn (cmnIx p)).holds = [] → z.serves d.grp = true →
    ∃ t, exec (.cmnRead p) s = .next t ∧ (t.conn (cmnIx p)).tgt p.msn.toNat = none ∧ (t.conn (cmnIx p)).responds opReadResp p.msn.toNat (Status.ok.worse how) ∧
      (∃ y ∈ (t.conn (cmnIx p)).unacked ++ (t.conn (cmnIx p)).txq, y.op = opReadResp ∧ y.pkt.msn = p.msn ∧ y.pkt.data = secBytes val.data ∧ y.pkt.moff = 0 ∧ y.pkt.claim = BitVec.ofNat 64 (z.get TWN.TWN_CLAIM_LOCAL 0 d.grp) ∧
        y.pkt.poison.getLsbD (p.offset.toNat % 2 ^ (s.conn (cmnIx p)).desc.dataLog2.toNat / 64) = val.poison) ∧ s.frame t ([.xlt, .qe, .mov, .tier, .pan, .twn, .cmn, .dmc, .flm] ++ reported) ([MOV.OFFLINE, MOV.STATE, TIER.SUBST, CME.AUTH_FAIL, CME.HOLD_DROP, CME.LATE_PKT, CME.VIOL_RX, CME.VIOL_TX, CMP.CE_MARKED, CMP.FCS_ERR, CMP.RX_DROP, CMP.RX_FRAMES, CMP.TX_FRAMES, HP.POISON_CNT, HP.REFUSE_CNT, MOV.FAULT_CNT, MOV.LAST_FCLASS, MOV.LAST_FOFF, MOV.LAST_STATUS, PAN.HIT_CNT, PAN.MISS_CNT, PAN.WB_CNT, TIER.MISSED, TIER.ON_TIME, TIER.QUOTA_REFUSE, XLT.BUSY, CIP.AUTH_FAIL_CNT] ++ reportedFields)) ∧
  (∀ (s : State) (c : BitVec 20) (msn : BitVec 32) (m : TgtMsg), s.regsOk → (s.conn c.toNat).tgt msn.toNat = some m → (s.conn c.toNat).holds = [] → s.serves (s.regionAt (s.registrationAt m.reg).region).grp = true →
    ∃ t, exec (.msgTimeout c msn) s = .next t ∧ (t.conn c.toNat).tgt msn.toNat = none ∧ (t.conn c.toNat).responds (if m.read then opReadResp else opWriteCmp) (msn.toNat) .incompleteMessage ∧
      t.get CME.MSG_TIMEOUTS 4 = satAdd 32 (s.get CME.MSG_TIMEOUTS 4) 1 ∧ ((s.registrationAt m.reg).state = .opened → (t.registrationAt m.reg).inflight = (s.registrationAt m.reg).inflight - 1) ∧ s.frame t ([.xlt, .qe, .mov, .tier, .pan, .twn, .cmn, .dmc, .flm] ++ reported) ([MOV.LAST_FCLASS, MOV.LAST_FOFF, MOV.LAST_STATUS, TIER.SUBST, CME.MSG_TIMEOUTS, CME.VIOL_TX, CMP.TX_FRAMES, PAN.HIT_CNT, PAN.MISS_CNT, PAN.WB_CNT, TIER.MISSED, TIER.ON_TIME, TIER.QUOTA_REFUSE] ++ reportedFields)) ∧
  (∀ (s : State) (c : BitVec 20), s.regsOk → (s.conn c.toNat).live = true → (s.conn c.toNat).owed ≠ 0 → (s.conn c.toNat).keys0.isSome = true → 0 < (s.conn c.toNat).rx0.base → (s.conn c.toNat).keys1 = none →
    (s.conn c.toNat).paths ≠ [] →
    ∃ t, exec (.ackTimer c) s = .next t ∧ (t.conn c.toNat).owed = 0 ∧ (∃ q : Packet, t.out = s.out ++ [.packet opAck q] ∧ q.phase = false ∧ q.conn = (s.conn c.toNat).desc.peerConn ∧
      q.psn = BitVec.ofNat 32 (s.conn c.toNat).txCtl0 ∧ q.rkey = BitVec.ofNat 32 ((s.conn c.toNat).rx0.base - 1) ∧ q.offset = BitVec.ofNat 40 ((s.conn c.toNat).ceCount * 256)) ∧ s.frame t [.regs, .cmn, .out] [CMP.TX_FRAMES]) ∧
  (∀ (s : State) (c : BitVec 20), s.regsOk → (s.conn c.toNat).live = true → (s.conn c.toNat).paths ≠ [] → (s.conn c.toNat).nacked = [] → (s.conn c.toNat).rx0.missing ≠ [] → (s.conn c.toNat).rx1.missing = [] →
    (rangesOf (s.conn c.toNat).rx0.missing).length ≤ 32 →
    ∃ t, exec (.nackDelayExpiry c) s = .next t ∧ (∀ n ∈ (s.conn c.toNat).rx0.missing, (false, n, s.timeNs) ∈ (t.conn c.toNat).nacked) ∧
      (∃ q : Packet, t.out = s.out ++ [.packet opNack q] ∧ q.phase = false ∧ q.data = (rangesOf (s.conn c.toNat).rx0.missing).flatMap fun g => be 4 g.1 ++ be 4 g.2) ∧ s.frame t [.regs, .cmn, .out] [CMP.TX_FRAMES])

/-- Cemanor initiator: responses and the claim table, ACK, NACK, RTO and paths, NOTICE, timeouts, rekey, CLOSE: A response whose claim is not below the claim table's raises it and ends its message; one with a lower claim is discarded and counted; a refusal counts in VIOL_RX. READ_RESP data complete a read and make its step ready to be placed. ACK frees the packets of its phase up to ACK_PSN, grows or halves a path's window; a DOWN path that answers three PROBEs is ACTIVE and the connection OPEN. NACK sends a packet again unchanged and halves the window. An RTO makes a path SUSPECT and the packet goes on another one; the third makes it DOWN. NOTICE FENCED and INIT_TIMEOUT end a message. PROBE is answered by ACK on its path. REKEY_READY switches the phase. CLOSE makes a connection CLOSING. Each clause gives its frame. -/
def Obligations.CemanorInitiator : Prop :=
  (∀ (s : State) (p : Packet) (m : InitMsg) (q c k : Nat) (x : Cmd) (r : StepRec), s.regsOk → s.receives p true → (s.conn (cmnIx p)).inits.find? (fun m => m.msn == p.msn.toNat) = some m → m.who = .step q c k → m.read = false →
    s.cmd q c = some x → x.step k = some r → p.status = 0 → p.claim ≠ 0 → (tget s.cmn.claims ((s.conn (cmnIx p)).desc.peerNode.toNat / 2 * 16 + p.grp.val)).getD 0 ≤ p.claim.toNat →
    ∃ t, exec (.cmnWriteCmp p) s = .next t ∧ (∀ n ∈ (t.conn (cmnIx p)).inits, n.msn ≠ p.msn.toNat) ∧ (t.conn (cmnIx p)).accepted p ∧
      (tget t.cmn.claims ((s.conn (cmnIx p)).desc.peerNode.toNat / 2 * 16 + p.grp.val)).getD 0 = p.claim.toNat ∧ (∃ y, t.cmd q c = some y ∧ y.step k = none ∧ (k < y.low ∨ k ∈ y.complete)) ∧ s.frame t ([.mov, .xlt, .qe, .tier, .cmn] ++ reported) ([MOV.OFFLINE, MOV.STATE, CME.AUTH_FAIL, CME.LATE_PKT, CME.STALE_CLAIM_DROP, CME.VIOL_RX, CME.VIOL_TX, CMP.CE_MARKED, CMP.FCS_ERR, CMP.RX_DROP, CMP.RX_FRAMES, CMP.TX_FRAMES, HP.POISON_CNT, HP.REFUSE_CNT, MOV.FAULT_CNT, MOV.LAST_FCLASS, MOV.LAST_FOFF, MOV.LAST_STATUS, XLT.BUSY, CIP.AUTH_FAIL_CNT] ++ reportedFields)) ∧
  (∀ (s : State) (p : Packet) (m : InitMsg), s.regsOk → s.receives p true → (s.conn (cmnIx p)).inits.find? (fun m => m.msn == p.msn.toNat) = some m → p.claim ≠ 0 →
    p.claim.toNat < (tget s.cmn.claims ((s.conn (cmnIx p)).desc.peerNode.toNat / 2 * 16 + p.grp.val)).getD 0 →
    ∃ t, exec (.cmnWriteCmp p) s = .next t ∧ t.get CME.STALE_CLAIM_DROP 4 = satAdd 32 (s.get CME.STALE_CLAIM_DROP 4) 1 ∧ (t.conn (cmnIx p)).inits = (s.conn (cmnIx p)).inits ∧ t.cmn.claims = s.cmn.claims ∧ s.frame t ([.mov, .xlt, .qe, .tier, .cmn] ++ reported) ([MOV.OFFLINE, MOV.STATE, CME.AUTH_FAIL, CME.LATE_PKT, CME.STALE_CLAIM_DROP, CME.VIOL_RX, CME.VIOL_TX, CMP.CE_MARKED, CMP.FCS_ERR, CMP.RX_DROP, CMP.RX_FRAMES, CMP.TX_FRAMES, HP.POISON_CNT, HP.REFUSE_CNT, MOV.FAULT_CNT, MOV.LAST_FCLASS, MOV.LAST_FOFF, MOV.LAST_STATUS, XLT.BUSY, CIP.AUTH_FAIL_CNT] ++ reportedFields)) ∧
  (∀ (s : State) (p : Packet) (m : InitMsg), s.regsOk → s.receives p true → (s.conn (cmnIx p)).inits.find? (fun m => m.msn == p.msn.toNat) = some m → p.claim = 0 → p.status.toNat = Status.keyStale.code → (s.conn (cmnIx p)).txMsn ≠ p.msn.toNat →
    ∃ t, exec (.cmnWriteCmp p) s = .next t ∧ t.get CME.VIOL_RX 4 = satAdd 32 (s.get CME.VIOL_RX 4) 1 ∧ (∀ n ∈ (t.conn (cmnIx p)).inits, n.msn ≠ p.msn.toNat) ∧ t.cmn.claims = s.cmn.claims ∧ s.frame t ([.mov, .xlt, .qe, .tier, .cmn] ++ reported) ([MOV.OFFLINE, MOV.STATE, CME.AUTH_FAIL, CME.LATE_PKT, CME.STALE_CLAIM_DROP, CME.VIOL_RX, CME.VIOL_TX, CMP.CE_MARKED, CMP.FCS_ERR, CMP.RX_DROP, CMP.RX_FRAMES, CMP.TX_FRAMES, HP.POISON_CNT, HP.REFUSE_CNT, MOV.FAULT_CNT, MOV.LAST_FCLASS, MOV.LAST_FOFF, MOV.LAST_STATUS, XLT.BUSY, CIP.AUTH_FAIL_CNT] ++ reportedFields)) ∧
  (∀ (s : State) (p : Packet) (m : InitMsg) (q c k : Nat) (x : Cmd) (r : StepRec), s.regsOk → s.receives p true → (s.conn (cmnIx p)).inits.find? (fun m => m.msn == p.msn.toNat) = some m → m.who = .step q c k → m.read = true →
    m.total = 64 → m.got = [] → m.gotBytes = 0 → m.worst = .ok → p.data.length = 64 → p.moff = 0 → s.cmd q c = some x → x.step k = some r → x.stop = false → x.cmd.stepStart k % 64 = 0 → p.status = 0 → p.claim ≠ 0 →
    (tget s.cmn.claims ((s.conn (cmnIx p)).desc.peerNode.toNat / 2 * 16 + p.grp.val)).getD 0 ≤ p.claim.toNat →
    ∃ t, exec (.cmnReadResp p) s = .next t ∧ (∀ n ∈ (t.conn (cmnIx p)).inits, n.msn ≠ p.msn.toNat) ∧
      (∃ y, t.cmd q c = some y ∧ y.step k = some { r with state := .ready, got := [(x.cmd.stepStart k, { data := ofSecBytes p.data, poison := p.poison.getLsbD (m.off % 2 ^ (s.conn (cmnIx p)).desc.dataLog2.toNat / 64) })] }) ∧ s.frame t ([.mov, .xlt, .qe, .tier, .cmn] ++ reported) ([MOV.OFFLINE, MOV.STATE, CME.AUTH_FAIL, CME.LATE_PKT, CME.STALE_CLAIM_DROP, CME.VIOL_RX, CME.VIOL_TX, CMP.CE_MARKED, CMP.FCS_ERR, CMP.RX_DROP, CMP.RX_FRAMES, CMP.TX_FRAMES, HP.POISON_CNT, HP.REFUSE_CNT, MOV.FAULT_CNT, MOV.LAST_FCLASS, MOV.LAST_FOFF, MOV.LAST_STATUS, XLT.BUSY, CIP.AUTH_FAIL_CNT] ++ reportedFields)) ∧
  (∀ (s : State) (p : Packet) (m : InitMsg), s.regsOk → s.receives p true → (s.conn (cmnIx p)).inits.find? (fun m => m.msn == p.msn.toNat) = some m → p.status = 0 → p.claim ≠ 0 →
    (tget s.cmn.claims ((s.conn (cmnIx p)).desc.peerNode.toNat / 2 * 16 + p.grp.val)).getD 0 ≤ p.claim.toNat → m.gotBytes + p.data.length < m.total →
    ∃ t, exec (.cmnReadResp p) s = .next t ∧ (t.conn (cmnIx p)).inits.find? (fun m => m.msn == p.msn.toNat) =
      some { m with got := m.got ++ [(p.moff.toNat, p.data, p.poison)], gotBytes := m.gotBytes + p.data.length, worst := m.worst.worse .ok } ∧ t.qe.cmds = (s.qe.cmds.map Cmd.settle) ∧ s.frame t ([.mov, .xlt, .qe, .tier, .cmn] ++ reported) ([MOV.OFFLINE, MOV.STATE, CME.AUTH_FAIL, CME.LATE_PKT, CME.STALE_CLAIM_DROP, CME.VIOL_RX, CME.VIOL_TX, CMP.CE_MARKED, CMP.FCS_ERR, CMP.RX_DROP, CMP.RX_FRAMES, CMP.TX_FRAMES, HP.POISON_CNT, HP.REFUSE_CNT, MOV.FAULT_CNT, MOV.LAST_FCLASS, MOV.LAST_FOFF, MOV.LAST_STATUS, XLT.BUSY, CIP.AUTH_FAIL_CNT] ++ reportedFields)) ∧
  (∀ (s : State) (p : Packet) (a n : BitVec 32), s.regsOk → s.receives p false → a ≠ BitVec.allOnes 32 → (s.conn (cmnIx p)).txq = [] →
    ∃ t, exec (.cmnAck p a n) s = .next t ∧ (t.conn (cmnIx p)).unacked = (s.conn (cmnIx p)).unacked.filter (fun x => !(x.phase == p.phase && decide (x.pkt.psn.toNat ≤ a.toNat))) ∧
      (∀ k r g, tget (s.conn (cmnIx p)).paths k = some r → r.state = .active → g = ((s.conn (cmnIx p)).unacked.filter fun x => x.path == k && x.phase == p.phase && decide (x.pkt.psn.toNat ≤ a.toNat)).length → 0 < g →
        ∃ r', tget (t.conn (cmnIx p)).paths k = some r' ∧ r'.window = (if r.ce ≠ n.toNat then max 4 (r.window / 2) else if r.window ≤ r.acked + g then min 1024 (r.window + 1) else r.window) ∧ r'.ce = n.toNat) ∧ s.frame t ([.mov, .xlt, .qe, .tier, .cmn] ++ reported) ([MOV.OFFLINE, MOV.STATE, CME.AUTH_FAIL, CME.VIOL_RX, CME.VIOL_TX, CMP.CE_MARKED, CMP.FCS_ERR, CMP.RX_DROP, CMP.RX_FRAMES, CMP.TX_FRAMES, HP.POISON_CNT, HP.REFUSE_CNT, MOV.FAULT_CNT, MOV.LAST_FCLASS, MOV.LAST_FOFF, MOV.LAST_STATUS, XLT.BUSY, CIP.AUTH_FAIL_CNT] ++ reportedFields)) ∧
  (∀ (s : State) (p : Packet) (a n : BitVec 32) (k : Nat) (r : PathRun), s.regsOk → s.receives p false → (s.conn (cmnIx p)).txq = [] → (s.conn (cmnIx p)).unacked = [] → (s.conn (cmnIx p)).state = .down →
    (s.conn (cmnIx p)).pathOf p = some k → tget (s.conn (cmnIx p)).paths k = some r → r.state = .down → r.probeOut = true → r.probes = 2 →
    ∃ t, exec (.cmnAck p a n) s = .next t ∧ tget (t.conn (cmnIx p)).paths k = some { r with state := .active, probes := 0, probeOut := false, rtos := 0 } ∧ (t.conn (cmnIx p)).state = .opened ∧ s.frame t ([.mov, .xlt, .qe, .tier, .cmn] ++ reported) ([MOV.OFFLINE, MOV.STATE, CME.AUTH_FAIL, CME.VIOL_RX, CME.VIOL_TX, CMP.CE_MARKED, CMP.FCS_ERR, CMP.RX_DROP, CMP.RX_FRAMES, CMP.TX_FRAMES, HP.POISON_CNT, HP.REFUSE_CNT, MOV.FAULT_CNT, MOV.LAST_FCLASS, MOV.LAST_FOFF, MOV.LAST_STATUS, XLT.BUSY, CIP.AUTH_FAIL_CNT] ++ reportedFields)) ∧
  (∀ (s : State) (p : Packet) (n : BitVec 32) (x : TxPkt) (k : Nat) (r w : PathRun), s.regsOk → s.receives p false → ((s.conn (cmnIx p)).unacked.find? fun x => x.pkt.psn.toNat == n.toNat && x.phase == p.phase) = some x →
    x.sends < s.get CME.RETX_MAX 4 → (s.conn (cmnIx p)).pick (some x.path) = some (k, r) → tget (s.conn (cmnIx p)).paths x.path = some w →
    ∃ t, exec (.cmnNack p [(n.toNat, 1)]) s = .next t ∧ t.out = s.out ++ [.packet x.op (x.pkt.via r.path)] ∧ { x with path := k, sends := x.sends + 1 } ∈ (t.conn (cmnIx p)).unacked ∧
      tget (t.conn (cmnIx p)).paths x.path = some { w with window := max 4 (w.window / 2) } ∧ s.frame t ([.mov, .xlt, .qe, .tier, .cmn] ++ reported) ([MOV.OFFLINE, MOV.STATE, CME.AUTH_FAIL, CME.VIOL_RX, CME.VIOL_TX, CMP.CE_MARKED, CMP.FCS_ERR, CMP.RX_DROP, CMP.RX_FRAMES, CMP.TX_FRAMES, HP.POISON_CNT, HP.REFUSE_CNT, MOV.FAULT_CNT, MOV.LAST_FCLASS, MOV.LAST_FOFF, MOV.LAST_STATUS, XLT.BUSY, CIP.AUTH_FAIL_CNT] ++ reportedFields)) ∧
  (∀ (s : State) (p : Packet) (st : BitVec 8) (m : InitMsg) (pt l g : Nat), s.regsOk → s.receives p false → (s.conn (cmnIx p)).inits.find? (fun m => m.msn == p.msn.toNat) = some m → m.who = .foreign pt l g → st.toNat = Status.fenced.code → (s.conn (cmnIx p)).txMsn ≠ p.msn.toNat →
    ∃ t, exec (.cmnNotice p st) s = .next t ∧ (∀ n ∈ (t.conn (cmnIx p)).inits, n.msn ≠ p.msn.toNat) ∧ (∀ f ∈ t.hp.forwards, ¬(f.port = pt ∧ f.ld = l ∧ f.tag = g)) ∧ t.cmn.claims = s.cmn.claims ∧ s.frame t ([.mov, .xlt, .qe, .tier, .cmn] ++ reported) ([MOV.OFFLINE, MOV.STATE, CME.AUTH_FAIL, CME.VIOL_RX, CME.VIOL_TX, CMP.CE_MARKED, CMP.FCS_ERR, CMP.RX_DROP, CMP.RX_FRAMES, CMP.TX_FRAMES, HP.POISON_CNT, HP.REFUSE_CNT, MOV.FAULT_CNT, MOV.LAST_FCLASS, MOV.LAST_FOFF, MOV.LAST_STATUS, XLT.BUSY, CIP.AUTH_FAIL_CNT] ++ reportedFields)) ∧
  (∀ (s : State) (p : Packet) (k : Fin 8) (r : PathRun), s.regsOk → s.receives p false → tget (s.conn (cmnIx p)).paths k.val = some r →
    ∃ t, exec (.cmnProbe p k) s = .next t ∧ (∃ q : Packet, t.out = s.out ++ [.packet opAck q] ∧ q.eport = r.path.eport ∧ q.sublink = r.path.sublink ∧ q.phase = p.phase ∧
      q.rkey = BitVec.ofNat 32 (((s.conn (cmnIx p)).rx p.phase).base + 2 ^ 32 - 1)) ∧ (t.conn (cmnIx p)).owed = 0 ∧ s.frame t ([.mov, .xlt, .qe, .tier, .cmn] ++ reported) ([MOV.OFFLINE, MOV.STATE, CME.AUTH_FAIL, CME.VIOL_RX, CME.VIOL_TX, CMP.CE_MARKED, CMP.FCS_ERR, CMP.RX_DROP, CMP.RX_FRAMES, CMP.TX_FRAMES, HP.POISON_CNT, HP.REFUSE_CNT, MOV.FAULT_CNT, MOV.LAST_FCLASS, MOV.LAST_FOFF, MOV.LAST_STATUS, XLT.BUSY, CIP.AUTH_FAIL_CNT] ++ reportedFields)) ∧
  (∀ (s : State) (p : Packet), s.regsOk → s.receives p false → (s.conn (cmnIx p)).txq = [] → (if (s.conn (cmnIx p)).phase then (s.conn (cmnIx p)).keys0.isSome else (s.conn (cmnIx p)).keys1.isSome) = true →
    ∃ t, exec (.cmnRekeyReady p (!(s.conn (cmnIx p)).phase)) s = .next t ∧ (t.conn (cmnIx p)).phase = (!(s.conn (cmnIx p)).phase) ∧ (t.conn (cmnIx p)).nextReady = false ∧ (t.conn (cmnIx p)).txPsn = 0 ∧
      (t.conn (cmnIx p)).txMsn = (s.conn (cmnIx p)).txMsn ∧ (t.conn (cmnIx p)).unacked = (s.conn (cmnIx p)).unacked ∧ s.frame t ([.mov, .xlt, .qe, .tier, .cmn] ++ reported) ([MOV.OFFLINE, MOV.STATE, CME.AUTH_FAIL, CME.VIOL_RX, CME.VIOL_TX, CMP.CE_MARKED, CMP.FCS_ERR, CMP.RX_DROP, CMP.RX_FRAMES, CMP.TX_FRAMES, HP.POISON_CNT, HP.REFUSE_CNT, MOV.FAULT_CNT, MOV.LAST_FCLASS, MOV.LAST_FOFF, MOV.LAST_STATUS, XLT.BUSY, CIP.AUTH_FAIL_CNT] ++ reportedFields)) ∧
  (∀ (s : State) (p : Packet) (st : BitVec 8), s.regsOk → s.receives p false → (s.conn (cmnIx p)).state ≠ .closing →
    ∃ t, exec (.cmnClose p st) s = .next t ∧ (t.conn (cmnIx p)).state = .closing ∧ (t.conn (cmnIx p)).tgts = (s.conn (cmnIx p)).tgts ∧ s.frame t ([.mov, .xlt, .qe, .tier, .cmn] ++ reported) ([MOV.OFFLINE, MOV.STATE, CME.AUTH_FAIL, CME.VIOL_RX, CME.VIOL_TX, CMP.CE_MARKED, CMP.FCS_ERR, CMP.RX_DROP, CMP.RX_FRAMES, CMP.TX_FRAMES, HP.POISON_CNT, HP.REFUSE_CNT, MOV.FAULT_CNT, MOV.LAST_FCLASS, MOV.LAST_FOFF, MOV.LAST_STATUS, XLT.BUSY, CIP.AUTH_FAIL_CNT] ++ reportedFields)) ∧
  (∀ (s : State) (i : BitVec 20) (msn : BitVec 32) (m : InitMsg) (q c k : Nat) (x : Cmd) (r : StepRec), s.regsOk → (s.conn i.toNat).inits.find? (fun m => m.msn == msn.toNat) = some m → m.who = .step q c k →
    s.cmd q c = some x → x.step k = some r → x.stop = false → r.remoteRetry = false →
    ∃ t, exec (.initTimeout i msn) s = .next t ∧ (∀ n ∈ (t.conn i.toNat).inits, n.msn ≠ msn.toNat) ∧ (∃ y, t.cmd q c = some y ∧ y.step k = some { r with state := .ready, remoteRetry := true }) ∧ s.frame t ([.mov, .xlt, .qe, .tier, .cmn] ++ reported) ([MOV.OFFLINE, MOV.STATE, CME.VIOL_RX, CMP.TX_FRAMES, HP.POISON_CNT, HP.REFUSE_CNT, MOV.FAULT_CNT, MOV.LAST_FCLASS, MOV.LAST_FOFF, MOV.LAST_STATUS, XLT.BUSY] ++ reportedFields)) ∧
  (∀ (s : State) (i : BitVec 20) (n : BitVec 32) (x : TxPkt) (r : PathRun) (k : Nat) (g : PathRun), s.regsOk → (s.conn i.toNat).state = .opened → ((s.conn i.toNat).unacked.find? fun x => x.pkt.psn == n) = some x →
    tget (s.conn i.toNat).paths x.path = some r → r.state = .active → r.rtos = 0 → k ≠ x.path → tget (s.conn i.toNat).paths k = some g → g.state = .active → x.sends < s.get CME.RETX_MAX 4 →
    ∃ t, exec (.rtoExpiry i n) s = .next t ∧ tget (t.conn i.toNat).paths x.path = some { r with state := .suspect, rtos := 1, window := max 4 (r.window / 2) } ∧
      (∃ y ∈ (t.conn i.toNat).unacked, y.pkt = x.pkt ∧ y.phase = x.phase ∧ y.sends = x.sends + 1 ∧ y.path ≠ x.path) ∧ (∃ l, t.out = s.out ++ [.packet x.op (x.pkt.via l)]) ∧ s.frame t ([.cmn] ++ reported) ([CMP.TX_FRAMES] ++ reportedFields)) ∧
  (∀ (s : State) (i : BitVec 20) (n : BitVec 32) (x : TxPkt) (r : PathRun), s.regsOk → (s.conn i.toNat).state = .opened → ((s.conn i.toNat).unacked.find? fun x => x.pkt.psn == n) = some x →
    (s.conn i.toNat).paths = [(x.path, r)] → r.state ≠ .down → r.rtos = 2 →
    ∃ t, exec (.rtoExpiry i n) s = .next t ∧ (t.conn i.toNat).state = .down ∧ (∃ r', tget (t.conn i.toNat).paths x.path = some r' ∧ r'.state = .down) ∧ (t.conn i.toNat).unacked = (s.conn i.toNat).unacked ∧ s.frame t ([.cmn] ++ reported) ([CMP.TX_FRAMES] ++ reportedFields)) ∧
  (∀ (s : State) (i : BitVec 20) (k : Fin 8) (r : PathRun), s.regsOk → (s.conn i.toNat).live = true → tget (s.conn i.toNat).paths k.val = some r → r.state = .down →
    ∃ t, exec (.probeTimer i k) s = .next t ∧ tget (t.conn i.toNat).paths k.val = some { r with probes := if r.probeOut then 0 else r.probes, probeOut := true } ∧
      (∃ q : Packet, t.out = s.out ++ [.packet opProbe q] ∧ q.eport = r.path.eport ∧ q.sublink = r.path.sublink ∧ q.conn = (s.conn i.toNat).desc.peerConn) ∧ s.frame t [.regs, .cmn, .out] [CMP.TX_FRAMES])

/-- Cemanor connections: CONN_CTL, life cycle, keys, Ethernet frames, pauses and links: CONN_CTL OPEN makes a FREE slot at rest OPEN with GEN one higher, its counters 0 and a PROBE on its path; CLOSE sends CLOSE and the connection is CLOSING, or frees one in ERROR; REKEY_INSTALL tells the peer and opens the receive window of the other phase at 0. Taraivi CONN_CTL of the domain manager opens a connection from its descriptor and keys. A CLOSING connection whose time is over is FREE and its keys are erased. A frame that is no Cemanor packet goes to service firmware. A pause frame of PFC_PRIO holds a port when PFC_EN is 1, and its end lets it go. LINK_UP follows a sublink. Each clause gives its frame. -/
def Obligations.CemanorConnections : Prop :=
  (∀ (s : State) (r : Requester) (i : BitVec 20) (k : Fin 8) (p : CmnPath), s.regsOk → s.commands r cmePage → (s.conn i.toNat).state = .free → (∀ u, (s.conn i.toNat).freedAt = some u → u + 10 ^ 9 ≤ s.timeNs) →
    (s.conn i.toNat).keys0.isSome = true → s.connCount < 524288 → (s.conn i.toNat).desc.paths = [(k, p)] →
    ∃ t, exec (.connOpen r i) s = .next t ∧ (t.conn i.toNat).state = .opened ∧ (t.conn i.toNat).gen = ((s.conn i.toNat).gen + 1) % 16 ∧ (t.conn i.toNat).txPsn = 0 ∧ (t.conn i.toNat).txMsn = 0 ∧
      (t.conn i.toNat).rx0 = freshRx ∧ (t.conn i.toNat).rx1 = freshRx ∧ (t.conn i.toNat).msnBase = 0 ∧ (t.conn i.toNat).viol = 0 ∧ (t.conn i.toNat).authFail = 0 ∧
      (∃ q : Packet, t.out = s.out ++ [.packet opProbe q] ∧ q.psn = 0 ∧ q.eport = p.eport ∧ q.sublink = p.sublink ∧ q.conn = (s.conn i.toNat).desc.peerConn) ∧
      (∀ j, j ≠ i.toNat → tget t.cmn.conns j = tget s.cmn.conns j) ∧ s.frame t [.regs, .cmn, .out] [HDR.QUIESCED, CMP.TX_FRAMES]) ∧
  (∀ (s : State) (r : Requester) (i : BitVec 20), s.regsOk → s.commands r cmePage → (s.conn i.toNat).state = .opened → (s.conn i.toNat).paths ≠ [] →
    ∃ t, exec (.connClose r i) s = .next t ∧ (t.conn i.toNat).state = .closing ∧ (∃ q : Packet, t.out = s.out ++ [.packet opClose q] ∧ q.data = [0] ∧ q.plen = 1) ∧
      (t.conn i.toNat).inits = (s.conn i.toNat).inits ∧ (t.conn i.toNat).tgts = (s.conn i.toNat).tgts ∧ s.frame t [.regs, .cmn, .out] [HDR.QUIESCED, CMP.TX_FRAMES]) ∧
  (∀ (s : State) (r : Requester) (i : BitVec 20), s.regsOk → s.commands r cmePage → (s.conn i.toNat).state = .error →
    ∃ t, exec (.connClose r i) s = .next t ∧ (t.conn i.toNat).state = .free ∧ (t.conn i.toNat).keys0 = none ∧ (t.conn i.toNat).keys1 = none ∧ (t.conn i.toNat).freedAt = some s.timeNs ∧ s.frame t ([.xlt, .qe, .cmn] ++ reported) (HDR.QUIESCED :: reportedFields)) ∧
  (∀ (s : State) (r : Requester) (i : BitVec 20), s.regsOk → s.commands r cmePage → (s.conn i.toNat).state = .opened → (s.conn i.toNat).phase = false → (s.conn i.toNat).keys1.isSome = true → (s.conn i.toNat).nextReady = false →
    (s.conn i.toNat).paths ≠ [] →
    ∃ t, exec (.rekeyInstall r i) s = .next t ∧ (t.conn i.toNat).rx1 = freshRx ∧ (t.conn i.toNat).rx0 = (s.conn i.toNat).rx0 ∧ (t.conn i.toNat).phase = false ∧ (t.conn i.toNat).txPsn = (s.conn i.toNat).txPsn ∧
      (∃ q : Packet, t.out = s.out ++ [.packet opRekey q] ∧ q.data = [1] ∧ q.phase = false) ∧ s.frame t [.regs, .cmn, .out] [HDR.QUIESCED, CMP.TX_FRAMES]) ∧
  (∀ (s : State) (h : TaraiviHdr) (i : BitVec 20) (d : ConnDesc) (k : ConnKeys) (x : DevConfig), s.regsOk → s.accepts h roleDomain → s.nvs.image.dev = some x → x.nodeValid = true → (s.conn i.toNat).state = .free →
    (∀ u, (s.conn i.toNat).freedAt = some u → u + 10 ^ 9 ≤ s.timeNs) → (s.putConn i.toNat { s.conn i.toNat with desc := d, keys0 := some k, keys1 := none }).connCount < 524288 →
    ∃ t, exec (.connCtl h (.openConn i d k)) s = .next t ∧ s.frame t ([.cmn, .wdn] ++ reported) (CMP.TX_FRAMES :: reportedFields) ∧ t.answered h 0x21 .ok ∧ (t.conn i.toNat).state = .opened ∧ (t.conn i.toNat).desc = d ∧
      (t.conn i.toNat).keys0 = some k ∧ (t.conn i.toNat).check = crc32c (connPack (t.conn i.toNat).gen d)) ∧
  (∀ (s : State) (i : BitVec 20), s.regsOk → (s.conn i.toNat).state = .closing →
    ∃ t, exec (.connCloseTimeout i) s = .next t ∧ (t.conn i.toNat).state = .free ∧ (t.conn i.toNat).keys0 = none ∧ (t.conn i.toNat).keys1 = none ∧ (t.conn i.toNat).inits = [] ∧ (t.conn i.toNat).tgts = [] ∧
      (t.conn i.toNat).freedAt = some s.timeNs ∧ s.frame t ([.mov, .xlt, .qe, .tier, .cmn] ++ reported) ([MOV.OFFLINE, MOV.STATE, CME.VIOL_RX, CME.VIOL_TX, CMP.TX_FRAMES, HP.POISON_CNT, HP.REFUSE_CNT, MOV.FAULT_CNT, MOV.LAST_FCLASS, MOV.LAST_FOFF, MOV.LAST_STATUS, XLT.BUSY] ++ reportedFields)) ∧
  (∀ (s : State) (e : EPort) (l : Fin 8) (n : Nat), s.regsOk →
    ∃ t, exec (.nonCemanorFrame e l n) s = .next t ∧ t.get CMP.RX_FRAMES e.val = (s.get CMP.RX_FRAMES e.val + 1) % 2 ^ 64 ∧ t.out = s.out ++ [.device "SVC_FRAME" [e.val, l.val, n]] ∧ s.frame t [.regs, .out] [CMP.RX_FRAMES]) ∧
  (∀ (s : State) (e : EPort), s.regsOk → s.flag CMP.PFC_EN e.val = true → s.get CMP.PFC_PRIO e.val < 8 →
    ∃ t, exec (.pfcPauseReceived e (BitVec.ofNat 3 (s.get CMP.PFC_PRIO e.val)) true) s = .next t ∧ t.get CMP.PFC_PAUSE e.val = satAdd 32 (s.get CMP.PFC_PAUSE e.val) 1 ∧ t.portPaused e.val = true ∧ s.frame t [.regs, .cmn] [CMP.PFC_PAUSE]) ∧
  (∀ (s : State) (e : EPort), s.regsOk → s.get CMP.PFC_PRIO e.val < 8 →
    ∃ t, exec (.pfcPauseReceived e (BitVec.ofNat 3 (s.get CMP.PFC_PRIO e.val)) false) s = .next t ∧ t.get CMP.PFC_PAUSE e.val = satAdd 32 (s.get CMP.PFC_PAUSE e.val) 1 ∧ t.portPaused e.val = false ∧ s.frame t ([.cmn] ++ reported) ([CMP.PFC_PAUSE, CMP.TX_FRAMES] ++ reportedFields)) ∧
  (∀ (s : State) (e : EPort) (l : Fin 8), s.regsOk → s.clk.pllDown.contains (14 + e.val) = false →
    ∃ t, exec (.sublinkUp e l) s = .next t ∧ t.bitOf CMP.LINK_UP l.val e.val = true ∧ (∀ k, k < 8 → k ≠ l.val → t.bitOf CMP.LINK_UP k e.val = s.bitOf CMP.LINK_UP k e.val) ∧ s.frame t [.regs] [CMP.LINK_UP]) ∧
  (∀ (s : State) (e : EPort) (l : Fin 8), s.regsOk →
    ∃ t, exec (.sublinkDown e l) s = .next t ∧ t.bitOf CMP.LINK_UP l.val e.val = false ∧ (∀ k, k < 8 → k ≠ l.val → t.bitOf CMP.LINK_UP k e.val = s.bitOf CMP.LINK_UP k e.val) ∧ s.frame t [.regs] [CMP.LINK_UP])

/-- Cipher: warden jobs, their results and limits, KEY_LOAD, loss of a lane: A job write keeps KEY_SLOT and AAD_LEN, sets JOB_OP and BUSY and takes the slot's key. A GCM encryption writes ciphertext and tag at JOB_DST, a decryption its plaintext when the tag verifies, else nothing with AUTH_FAIL counted; XTS jobs write their unit; every other byte of memory is unchanged. Lengths outside the limits end with LENGTH_ERROR, counted, with no output. KEY_LOAD moves KEY_DATA to one slot and zeroes it. A lane that fails leaves LANES_OK with LANE_FAIL set. The ciphers themselves are constants without a body (log entry 6). Each clause gives its frame. -/
def Obligations.CipherJobs : Prop :=
  (∀ (s : State) (r : Requester), s.regsOk → s.commands r cipPage → s.flag CIP.BUSY = false → s.get CIP.KEY_SLOT < 16 → s.get CIP.AAD_LEN < 1024 →
    ∃ t, exec (.gcmEncrypt r) s = .next t ∧ t.flag CIP.BUSY = true ∧ t.get CIP.JOB_OP = 1 ∧ t.cip = { s.cip with job := some { op := 1, key := s.wardenKey (s.get CIP.KEY_SLOT) } } ∧
      t.get CIP.KEY_SLOT = s.get CIP.KEY_SLOT ∧ t.get CIP.AAD_LEN = s.get CIP.AAD_LEN ∧ s.frame t [.regs, .cip] [HDR.QUIESCED, CIP.JOB_OP, CIP.KEY_SLOT, CIP.AAD_LEN, CIP.BUSY]) ∧
  (∀ (s : State) (r : Requester), s.regsOk → s.commands r cipPage → s.flag CIP.BUSY = false → s.get CIP.KEY_SLOT < 16 → s.get CIP.AAD_LEN < 1024 →
    ∃ t, exec (.gcmDecrypt r) s = .next t ∧ t.flag CIP.BUSY = true ∧ t.get CIP.JOB_OP = 2 ∧ t.cip = { s.cip with job := some { op := 2, key := s.wardenKey (s.get CIP.KEY_SLOT) } } ∧
      t.get CIP.KEY_SLOT = s.get CIP.KEY_SLOT ∧ t.get CIP.AAD_LEN = s.get CIP.AAD_LEN ∧ s.frame t [.regs, .cip] [HDR.QUIESCED, CIP.JOB_OP, CIP.KEY_SLOT, CIP.AAD_LEN, CIP.BUSY]) ∧
  (∀ (s : State) (r : Requester), s.regsOk → s.commands r cipPage → s.flag CIP.BUSY = false → s.get CIP.KEY_SLOT < 16 → s.get CIP.AAD_LEN < 1024 →
    ∃ t, exec (.xtsEncrypt r) s = .next t ∧ t.flag CIP.BUSY = true ∧ t.get CIP.JOB_OP = 3 ∧ t.cip = { s.cip with job := some { op := 3, key := s.wardenKey (s.get CIP.KEY_SLOT) } } ∧
      t.get CIP.KEY_SLOT = s.get CIP.KEY_SLOT ∧ t.get CIP.AAD_LEN = s.get CIP.AAD_LEN ∧ s.frame t [.regs, .cip] [HDR.QUIESCED, CIP.JOB_OP, CIP.KEY_SLOT, CIP.AAD_LEN, CIP.BUSY]) ∧
  (∀ (s : State) (r : Requester), s.regsOk → s.commands r cipPage → s.flag CIP.BUSY = false → s.get CIP.KEY_SLOT < 16 → s.get CIP.AAD_LEN < 1024 →
    ∃ t, exec (.xtsDecrypt r) s = .next t ∧ t.flag CIP.BUSY = true ∧ t.get CIP.JOB_OP = 4 ∧ t.cip = { s.cip with job := some { op := 4, key := s.wardenKey (s.get CIP.KEY_SLOT) } } ∧
      t.get CIP.KEY_SLOT = s.get CIP.KEY_SLOT ∧ t.get CIP.AAD_LEN = s.get CIP.AAD_LEN ∧ s.frame t [.regs, .cip] [HDR.QUIESCED, CIP.JOB_OP, CIP.KEY_SLOT, CIP.AAD_LEN, CIP.BUSY]) ∧
  (∀ (s : State) (j : CipJob), s.regsOk → s.cip.job = some j → j.op = 1 → s.get CIP.JOB_LEN ≤ 65536 → s.get CIP.AAD_LEN ≤ 512 → 
    s.inMem (s.get CIP.JOB_SRC) (s.get CIP.AAD_LEN + s.get CIP.JOB_LEN) = true → s.inMem (s.get CIP.JOB_DST) (s.get CIP.JOB_LEN + 16) = true → s.plain (s.get CIP.JOB_DST) (s.get CIP.JOB_LEN + 16) →
    ∃ t, exec .cipJobDone s = .next t ∧ t.flag CIP.BUSY = false ∧ t.cip = { s.cip with job := none } ∧ t.get CIP.JOB_STATUS = Status.ok.code ∧
      s.wrote t (s.get CIP.JOB_DST) (padTo (s.get CIP.JOB_LEN) (Config.gcmSeal (le 32 j.key) (le 12 (s.get CIP.JOB_IV)) (s.memRead (s.get CIP.JOB_SRC) (s.get CIP.AAD_LEN)) (s.memRead (s.get CIP.JOB_SRC + s.get CIP.AAD_LEN) (s.get CIP.JOB_LEN))).1 ++ padTo 16 (Config.gcmSeal (le 32 j.key) (le 12 (s.get CIP.JOB_IV)) (s.memRead (s.get CIP.JOB_SRC) (s.get CIP.AAD_LEN)) (s.memRead (s.get CIP.JOB_SRC + s.get CIP.AAD_LEN) (s.get CIP.JOB_LEN))).2) ∧ s.tierQueued t ∧ s.frame t [.regs, .tier, .dmc, .cip, .mem] [CIP.BUSY, CIP.JOB_STATUS]) ∧
  (∀ (s : State) (j : CipJob) (x : List Byte), s.regsOk → s.cip.job = some j → j.op = 2 → s.get CIP.JOB_LEN ≤ 65536 → s.get CIP.AAD_LEN ≤ 512 → 
    s.inMem (s.get CIP.JOB_SRC) (s.get CIP.AAD_LEN + s.get CIP.JOB_LEN + 16) = true → s.inMem (s.get CIP.JOB_DST) (s.get CIP.JOB_LEN) = true → s.plain (s.get CIP.JOB_DST) (s.get CIP.JOB_LEN) →
    Config.gcmOpen (le 32 j.key) (le 12 (s.get CIP.JOB_IV)) (s.memRead (s.get CIP.JOB_SRC) (s.get CIP.AAD_LEN)) (s.memRead (s.get CIP.JOB_SRC + s.get CIP.AAD_LEN) (s.get CIP.JOB_LEN)) (s.memRead (s.get CIP.JOB_SRC + s.get CIP.AAD_LEN + s.get CIP.JOB_LEN) 16) = some x →
    ∃ t, exec .cipJobDone s = .next t ∧ t.flag CIP.BUSY = false ∧ t.cip = { s.cip with job := none } ∧ t.get CIP.JOB_STATUS = Status.ok.code ∧ s.wrote t (s.get CIP.JOB_DST) (padTo (s.get CIP.JOB_LEN) x) ∧ s.tierQueued t ∧ s.frame t [.regs, .tier, .dmc, .cip, .mem] [CIP.BUSY, CIP.JOB_STATUS]) ∧
  (∀ (s : State) (j : CipJob), s.regsOk → s.cip.job = some j → j.op = 2 → s.get CIP.JOB_LEN ≤ 65536 → s.get CIP.AAD_LEN ≤ 512 → 
    s.inMem (s.get CIP.JOB_SRC) (s.get CIP.AAD_LEN + s.get CIP.JOB_LEN + 16) = true → s.inMem (s.get CIP.JOB_DST) (s.get CIP.JOB_LEN) = true →
    Config.gcmOpen (le 32 j.key) (le 12 (s.get CIP.JOB_IV)) (s.memRead (s.get CIP.JOB_SRC) (s.get CIP.AAD_LEN)) (s.memRead (s.get CIP.JOB_SRC + s.get CIP.AAD_LEN) (s.get CIP.JOB_LEN)) (s.memRead (s.get CIP.JOB_SRC + s.get CIP.AAD_LEN + s.get CIP.JOB_LEN) 16) = none →
    ∃ t, exec .cipJobDone s = .next t ∧ t.flag CIP.BUSY = false ∧ t.cip = { s.cip with job := none } ∧ t.get CIP.JOB_STATUS = Status.authFail.code ∧ t.get CIP.AUTH_FAIL_CNT = satAdd 32 (s.get CIP.AUTH_FAIL_CNT) 1 ∧ s.tierQueued t ∧ s.frame t [.regs, .tier, .cip] [CIP.BUSY, CIP.JOB_STATUS, CIP.AUTH_FAIL_CNT]) ∧
  (∀ (s : State) (j : CipJob), s.regsOk → s.cip.job = some j → j.op = 3 → 512 ≤ s.get CIP.JOB_LEN → s.get CIP.JOB_LEN ≤ 65536 → s.get CIP.JOB_LEN % 16 = 0 → 
    s.inMem (s.get CIP.JOB_SRC) (s.get CIP.JOB_LEN) = true → s.inMem (s.get CIP.JOB_DST) (s.get CIP.JOB_LEN) = true → s.plain (s.get CIP.JOB_DST) (s.get CIP.JOB_LEN) →
    ∃ t, exec .cipJobDone s = .next t ∧ t.flag CIP.BUSY = false ∧ t.cip = { s.cip with job := none } ∧ t.get CIP.JOB_STATUS = Status.ok.code ∧
      s.wrote t (s.get CIP.JOB_DST) (padTo (s.get CIP.JOB_LEN) (Config.xtsEnc (le 32 j.key) (le 16 (s.get CIP.JOB_IV)) (s.memRead (s.get CIP.JOB_SRC) (s.get CIP.JOB_LEN)))) ∧ s.tierQueued t ∧ s.frame t [.regs, .tier, .dmc, .cip, .mem] [CIP.BUSY, CIP.JOB_STATUS]) ∧
  (∀ (s : State) (j : CipJob), s.regsOk → s.cip.job = some j → j.op = 4 → 512 ≤ s.get CIP.JOB_LEN → s.get CIP.JOB_LEN ≤ 65536 → s.get CIP.JOB_LEN % 16 = 0 → 
    s.inMem (s.get CIP.JOB_SRC) (s.get CIP.JOB_LEN) = true → s.inMem (s.get CIP.JOB_DST) (s.get CIP.JOB_LEN) = true → s.plain (s.get CIP.JOB_DST) (s.get CIP.JOB_LEN) →
    ∃ t, exec .cipJobDone s = .next t ∧ t.flag CIP.BUSY = false ∧ t.cip = { s.cip with job := none } ∧ t.get CIP.JOB_STATUS = Status.ok.code ∧
      s.wrote t (s.get CIP.JOB_DST) (padTo (s.get CIP.JOB_LEN) (Config.xtsDec (le 32 j.key) (le 16 (s.get CIP.JOB_IV)) (s.memRead (s.get CIP.JOB_SRC) (s.get CIP.JOB_LEN)))) ∧ s.tierQueued t ∧ s.frame t [.regs, .tier, .dmc, .cip, .mem] [CIP.BUSY, CIP.JOB_STATUS]) ∧
  (∀ (s : State) (j : CipJob), s.regsOk → s.cip.job = some j → (j.op ≤ 2 ∧ (65536 < s.get CIP.JOB_LEN ∨ 512 < s.get CIP.AAD_LEN)) ∨ (2 < j.op ∧ (s.get CIP.JOB_LEN < 512 ∨ 65536 < s.get CIP.JOB_LEN ∨ s.get CIP.JOB_LEN % 16 ≠ 0)) →
    ∃ t, exec .cipJobDone s = .next t ∧ t.flag CIP.BUSY = false ∧ t.cip = { s.cip with job := none } ∧ t.get CIP.JOB_STATUS = Status.lengthError.code ∧ t.get CIP.LENGTH_ERR_CNT = satAdd 32 (s.get CIP.LENGTH_ERR_CNT) 1 ∧ s.frame t [.regs, .cip] [CIP.BUSY, CIP.JOB_STATUS, CIP.LENGTH_ERR_CNT]) ∧
  (∀ (s : State) (l : Fin 24), s.regsOk → s.bitOf CIP.LANES_OK l.val = true →
    ∃ t, exec (.cipherLaneFail l) s = .next t ∧ t.bitOf CIP.LANES_OK l.val = false ∧ (∀ k, k < 24 → k ≠ l.val → t.bitOf CIP.LANES_OK k = s.bitOf CIP.LANES_OK k) ∧ bit (t.rd cipPage HDR.ERR_STAT) 17 = true ∧ s.frame t ([.cmn, .flm, .twn] ++ reported) ([CIP.LANES_OK] ++ reportedFields)) ∧
  (∀ (s : State) (r : Requester) (k : BitVec 4), s.regsOk → s.commands r cipPage →
    ∃ t, exec (.keyLoad r k) s = .next t ∧ t.wardenKey k.toNat = s.get CIP.KEY_DATA ∧ (∀ j, j ≠ k.toNat → t.wardenKey j = s.wardenKey j) ∧ t.get CIP.KEY_DATA = 0 ∧ t.cip.job = s.cip.job ∧ s.frame t [.regs, .cip] [HDR.QUIESCED, CIP.KEY_DATA])

/-- Hash and signature engines: jobs of each operation and their ends: A job write of an engine at rest sets its OP and BUSY and nothing of another engine. A hash writes its digest at DST, SHAKE256 DST_LEN bytes; a verify sets VERIFY_PASS and its STATUS is OK either way; a signature of at most 1,000 iterations is written, a longer one ends INTERNAL with SIGN_LIMIT and writes nothing; the identity public key is written. Every other byte of memory is unchanged. An OP that is not the engine's ends with LENGTH_ERROR and no output. The hash and signature functions are constants without a body (log entry 6). Each clause gives its frame. -/
def Obligations.HashEngines : Prop :=
  (∀ (s : State) (r : Requester) (e : Fin 5), s.regsOk → s.admits r hshPage → s.takes hshPage → e.val < 4 → s.flag HSH.BUSY 0 e.val = false →
    ∃ t, exec (.sha3256 r e) s = .next t ∧ t.get HSH.OP 0 e.val = 1 ∧ t.flag HSH.BUSY 0 e.val = true ∧ (∀ k : Fin 5, k ≠ e → t.flag HSH.BUSY 0 k.val = s.flag HSH.BUSY 0 k.val ∧ t.get HSH.OP 0 k.val = s.get HSH.OP 0 k.val) ∧
      s.frame t [.regs] [HDR.QUIESCED, HSH.OP, HSH.BUSY]) ∧
  (∀ (s : State) (r : Requester) (e : Fin 5), s.regsOk → s.admits r hshPage → s.takes hshPage → e.val < 4 → s.flag HSH.BUSY 0 e.val = false →
    ∃ t, exec (.sha3384 r e) s = .next t ∧ t.get HSH.OP 0 e.val = 2 ∧ t.flag HSH.BUSY 0 e.val = true ∧ (∀ k : Fin 5, k ≠ e → t.flag HSH.BUSY 0 k.val = s.flag HSH.BUSY 0 k.val ∧ t.get HSH.OP 0 k.val = s.get HSH.OP 0 k.val) ∧
      s.frame t [.regs] [HDR.QUIESCED, HSH.OP, HSH.BUSY]) ∧
  (∀ (s : State) (r : Requester) (e : Fin 5), s.regsOk → s.admits r hshPage → s.takes hshPage → e.val < 4 → s.flag HSH.BUSY 0 e.val = false →
    ∃ t, exec (.sha3512 r e) s = .next t ∧ t.get HSH.OP 0 e.val = 3 ∧ t.flag HSH.BUSY 0 e.val = true ∧ (∀ k : Fin 5, k ≠ e → t.flag HSH.BUSY 0 k.val = s.flag HSH.BUSY 0 k.val ∧ t.get HSH.OP 0 k.val = s.get HSH.OP 0 k.val) ∧
      s.frame t [.regs] [HDR.QUIESCED, HSH.OP, HSH.BUSY]) ∧
  (∀ (s : State) (r : Requester) (e : Fin 5), s.regsOk → s.admits r hshPage → s.takes hshPage → e.val < 4 → s.flag HSH.BUSY 0 e.val = false →
    ∃ t, exec (.shake256 r e) s = .next t ∧ t.get HSH.OP 0 e.val = 4 ∧ t.flag HSH.BUSY 0 e.val = true ∧ (∀ k : Fin 5, k ≠ e → t.flag HSH.BUSY 0 k.val = s.flag HSH.BUSY 0 k.val ∧ t.get HSH.OP 0 k.val = s.get HSH.OP 0 k.val) ∧
      s.frame t [.regs] [HDR.QUIESCED, HSH.OP, HSH.BUSY]) ∧
  (∀ (s : State) (r : Requester) (e : Fin 5), s.regsOk → s.admits r hshPage → s.takes hshPage → e.val = 4 → s.flag HSH.BUSY 0 e.val = false →
    ∃ t, exec (.mlDsa87Verify r e) s = .next t ∧ t.get HSH.OP 0 e.val = 8 ∧ t.flag HSH.BUSY 0 e.val = true ∧ (∀ k : Fin 5, k ≠ e → t.flag HSH.BUSY 0 k.val = s.flag HSH.BUSY 0 k.val ∧ t.get HSH.OP 0 k.val = s.get HSH.OP 0 k.val) ∧
      s.frame t [.regs] [HDR.QUIESCED, HSH.OP, HSH.BUSY]) ∧
  (∀ (s : State) (r : Requester) (e : Fin 5), s.regsOk → s.admits r hshPage → s.takes hshPage → e.val = 4 → s.flag HSH.BUSY 0 e.val = false →
    ∃ t, exec (.mlDsa87Sign r e) s = .next t ∧ t.get HSH.OP 0 e.val = 9 ∧ t.flag HSH.BUSY 0 e.val = true ∧ (∀ k : Fin 5, k ≠ e → t.flag HSH.BUSY 0 k.val = s.flag HSH.BUSY 0 k.val ∧ t.get HSH.OP 0 k.val = s.get HSH.OP 0 k.val) ∧
      s.frame t [.regs] [HDR.QUIESCED, HSH.OP, HSH.BUSY]) ∧
  (∀ (s : State) (r : Requester) (e : Fin 5), s.regsOk → s.admits r hshPage → s.takes hshPage → e.val = 4 → s.flag HSH.BUSY 0 e.val = false →
    ∃ t, exec (.identityPublicKeyExport r e) s = .next t ∧ t.get HSH.OP 0 e.val = 10 ∧ t.flag HSH.BUSY 0 e.val = true ∧ (∀ k : Fin 5, k ≠ e → t.flag HSH.BUSY 0 k.val = s.flag HSH.BUSY 0 k.val ∧ t.get HSH.OP 0 k.val = s.get HSH.OP 0 k.val) ∧
      s.frame t [.regs] [HDR.QUIESCED, HSH.OP, HSH.BUSY]) ∧
  (∀ (s : State) (e : Fin 5) (n : Nat), s.regsOk → s.flag HSH.BUSY 0 e.val = true → e.val < 4 → s.get HSH.OP 0 e.val = 1 → s.inMem (s.get HSH.SRC 0 e.val) (s.get HSH.SRC_LEN 0 e.val) = true → s.inMem (s.get HSH.DST 0 e.val) 32 = true → s.plain (s.get HSH.DST 0 e.val) 32 →
    ∃ t, exec (.hshJobDone e n) s = .next t ∧ t.flag HSH.BUSY 0 e.val = false ∧ t.get HSH.STATUS 0 e.val = Status.ok.code ∧ s.wrote t (s.get HSH.DST 0 e.val) (padTo 32 (Config.sha3 32 (s.memRead (s.get HSH.SRC 0 e.val) (s.get HSH.SRC_LEN 0 e.val)))) ∧ s.tierQueued t ∧ s.frame t [.regs, .tier, .dmc, .mem] [HSH.BUSY, HSH.STATUS]) ∧
  (∀ (s : State) (e : Fin 5) (n : Nat), s.regsOk → s.flag HSH.BUSY 0 e.val = true → e.val < 4 → s.get HSH.OP 0 e.val = 2 → s.inMem (s.get HSH.SRC 0 e.val) (s.get HSH.SRC_LEN 0 e.val) = true → s.inMem (s.get HSH.DST 0 e.val) 48 = true → s.plain (s.get HSH.DST 0 e.val) 48 →
    ∃ t, exec (.hshJobDone e n) s = .next t ∧ t.flag HSH.BUSY 0 e.val = false ∧ t.get HSH.STATUS 0 e.val = Status.ok.code ∧ s.wrote t (s.get HSH.DST 0 e.val) (padTo 48 (Config.sha3 48 (s.memRead (s.get HSH.SRC 0 e.val) (s.get HSH.SRC_LEN 0 e.val)))) ∧ s.tierQueued t ∧ s.frame t [.regs, .tier, .dmc, .mem] [HSH.BUSY, HSH.STATUS]) ∧
  (∀ (s : State) (e : Fin 5) (n : Nat), s.regsOk → s.flag HSH.BUSY 0 e.val = true → e.val < 4 → s.get HSH.OP 0 e.val = 3 → s.inMem (s.get HSH.SRC 0 e.val) (s.get HSH.SRC_LEN 0 e.val) = true → s.inMem (s.get HSH.DST 0 e.val) 64 = true → s.plain (s.get HSH.DST 0 e.val) 64 →
    ∃ t, exec (.hshJobDone e n) s = .next t ∧ t.flag HSH.BUSY 0 e.val = false ∧ t.get HSH.STATUS 0 e.val = Status.ok.code ∧ s.wrote t (s.get HSH.DST 0 e.val) (padTo 64 (Config.sha3 64 (s.memRead (s.get HSH.SRC 0 e.val) (s.get HSH.SRC_LEN 0 e.val)))) ∧ s.tierQueued t ∧ s.frame t [.regs, .tier, .dmc, .mem] [HSH.BUSY, HSH.STATUS]) ∧
  (∀ (s : State) (e : Fin 5) (n : Nat), s.regsOk → s.flag HSH.BUSY 0 e.val = true → e.val < 4 → s.get HSH.OP 0 e.val = 4 → 1 ≤ s.get HSH.DST_LEN 0 e.val → s.get HSH.DST_LEN 0 e.val ≤ 65536 → s.inMem (s.get HSH.SRC 0 e.val) (s.get HSH.SRC_LEN 0 e.val) = true → s.inMem (s.get HSH.DST 0 e.val) (s.get HSH.DST_LEN 0 e.val) = true → s.plain (s.get HSH.DST 0 e.val) (s.get HSH.DST_LEN 0 e.val) →
    ∃ t, exec (.hshJobDone e n) s = .next t ∧ t.flag HSH.BUSY 0 e.val = false ∧ t.get HSH.STATUS 0 e.val = Status.ok.code ∧ s.wrote t (s.get HSH.DST 0 e.val) (padTo (s.get HSH.DST_LEN 0 e.val) (Config.shake256 (s.get HSH.DST_LEN 0 e.val) (s.memRead (s.get HSH.SRC 0 e.val) (s.get HSH.SRC_LEN 0 e.val)))) ∧ s.tierQueued t ∧ s.frame t [.regs, .tier, .dmc, .mem] [HSH.BUSY, HSH.STATUS]) ∧
  (∀ (s : State) (e : Fin 5) (n : Nat), s.regsOk → s.flag HSH.BUSY 0 e.val = true → e.val = 4 → s.get HSH.OP 0 e.val = 8 → s.inMem (s.get HSH.SRC 0 e.val) 7283 = true →
    ∃ t, exec (.hshJobDone e n) s = .next t ∧ t.flag HSH.BUSY 0 e.val = false ∧ t.get HSH.STATUS 0 e.val = Status.ok.code ∧ t.flag HSH.VERIFY_PASS 0 e.val = Config.mldsaVerify (s.memRead (s.get HSH.SRC 0 e.val + 64) 2592) (s.memRead (s.get HSH.SRC 0 e.val) 64) (s.memRead (s.get HSH.SRC 0 e.val + 2656) 4627) ∧ s.tierQueued t ∧ s.frame t [.regs, .tier] [HSH.BUSY, HSH.STATUS, HSH.VERIFY_PASS]) ∧
  (∀ (s : State) (e : Fin 5) (n : Nat), s.regsOk → s.flag HSH.BUSY 0 e.val = true → e.val = 4 → s.get HSH.OP 0 e.val = 9 → n ≤ 1000 → s.inMem (s.get HSH.SRC 0 e.val) 64 = true → s.inMem (s.get HSH.DST 0 e.val) 4627 = true → s.plain (s.get HSH.DST 0 e.val) 4627 →
    ∃ t, exec (.hshJobDone e n) s = .next t ∧ t.flag HSH.BUSY 0 e.val = false ∧ t.get HSH.STATUS 0 e.val = Status.ok.code ∧ s.wrote t (s.get HSH.DST 0 e.val) (padTo 4627 (Config.mldsaSign s.wdn.fuses.idSeed (s.memRead (s.get HSH.SRC 0 e.val) 64) (Config.freeNat s.free))) ∧ s.tierQueued t ∧ s.frame t [.regs, .tier, .dmc, .mem, .free] [HSH.BUSY, HSH.STATUS]) ∧
  (∀ (s : State) (e : Fin 5) (n : Nat), s.regsOk → s.flag HSH.BUSY 0 e.val = true → e.val = 4 → s.get HSH.OP 0 e.val = 9 → 1000 < n → s.inMem (s.get HSH.SRC 0 e.val) 64 = true → s.inMem (s.get HSH.DST 0 e.val) 4627 = true →
    ∃ t, exec (.hshJobDone e n) s = .next t ∧ t.flag HSH.BUSY 0 e.val = false ∧ t.get HSH.STATUS 0 e.val = Status.internal.code ∧ bit (t.rd hshPage HDR.ERR_STAT) 17 = true ∧ s.tierQueued t ∧ s.frame t ([.tier] ++ reported) ([HSH.BUSY, HSH.STATUS] ++ reportedFields)) ∧
  (∀ (s : State) (e : Fin 5) (n : Nat), s.regsOk → s.flag HSH.BUSY 0 e.val = true → e.val = 4 → s.get HSH.OP 0 e.val = 10 → s.inMem (s.get HSH.SRC 0 e.val) 0 = true → s.inMem (s.get HSH.DST 0 e.val) 2592 = true → s.plain (s.get HSH.DST 0 e.val) 2592 →
    ∃ t, exec (.hshJobDone e n) s = .next t ∧ t.flag HSH.BUSY 0 e.val = false ∧ t.get HSH.STATUS 0 e.val = Status.ok.code ∧ s.wrote t (s.get HSH.DST 0 e.val) (padTo 2592 (Config.identityKey s.wdn.fuses.idSeed)) ∧ s.tierQueued t ∧ s.frame t [.regs, .tier, .dmc, .mem] [HSH.BUSY, HSH.STATUS]) ∧
  (∀ (s : State) (e : Fin 5) (n : Nat), s.regsOk → s.flag HSH.BUSY 0 e.val = true → (e.val < 4 ∧ 4 < s.get HSH.OP 0 e.val) ∨ (e.val = 4 ∧ s.get HSH.OP 0 e.val < 8) →
    ∃ t, exec (.hshJobDone e n) s = .next t ∧ t.flag HSH.BUSY 0 e.val = false ∧ t.get HSH.STATUS 0 e.val = Status.lengthError.code ∧ s.frame t [.regs] [HSH.BUSY, HSH.STATUS])

/-- Warden: mailbox, watchdogs, boot stages, RECOVERY, protection map: A request written to a mailbox slot at rest is copied and DONE clears; one to a busy slot is ignored with MB_BUSY. The warden answers the slot whose turn it is, once; a refusal for access is recorded and has no other effect. A halt of the warden pair releases every group, stops the link and ALIVE_OUT, and starts a harvest. A cluster's watchdog restarts every cluster and is counted; after three restarts within the hour they are OFF. The boot goes on from where it stands: without an image to start it is in RECOVERY; LOCK and OWNER are written on every page and host write is granted on none; the host ports are released and FLM replays; after restore the device is RUNNING. A boot that is too slow is a cold reset. RECOVERY takes an image over the console only when it verifies. A service access the protection map closes is recorded. Each clause gives its frame. -/
def Obligations.WardenMailboxAndBoot : Prop :=
  (∀ (s : State) (r : Requester) (k : Fin 8) (o q : BitVec 8) (n : BitVec 16), s.regsOk → s.admits r wdnPage → s.takes wdnPage → s.get WDN.DONE 0 k.val ≠ 0 → s.get WDN.BUF_ADDR 0 k.val = 0 →
    ∃ t, exec (.mailboxRequest r k o q n) s = .next t ∧ t.get WDN.DONE 0 k.val = 0 ∧ t.get WDN.OPCODE 0 k.val = o.toNat ∧ t.get WDN.SEQ 0 k.val = q.toNat ∧ t.get WDN.LEN 0 k.val = n.toNat ∧
      t.wdn = { s.wdn with requests := tset s.wdn.requests k.val { req := r, opcode := o.toNat, seq := q.toNat, payload := (le 240 (s.get WDN.PAYLOAD 0 k.val)).take n.toNat } } ∧
      s.frame t [.regs, .wdn] [HDR.QUIESCED, WDN.OPCODE, WDN.SEQ, WDN.LEN, WDN.DONE]) ∧
  (∀ (s : State) (r : Requester) (k : Fin 8) (o q : BitVec 8) (n : BitVec 16), s.regsOk → s.admits r wdnPage → s.takes wdnPage → s.get WDN.DONE 0 k.val = 0 →
    ∃ t, exec (.mailboxRequest r k o q n) s = .next t ∧ t.wdn = s.wdn ∧ bit (t.rd wdnPage HDR.ERR_STAT) 16 = true ∧ s.frame t reported (HDR.QUIESCED :: reportedFields)) ∧
  (∀ (s : State) (k : Fin 8) (st : BitVec 8) (l : List (BitVec 8)) (r : MbReq), s.regsOk → s.mbNext = some k.val → s.wardenUp = true → s.get WDN.ACT_STATE ≠ 4 → tget s.wdn.requests k.val = some r → r.seq < 256 →
    st.toNat ≠ Status.accessViolation.code →
    ∃ t, exec (.mailboxAnswer k st .none l) s = .next t ∧ t.get WDN.DONE 0 k.val = 1 ∧ t.get WDN.RSP_SEQ 0 k.val = r.seq ∧ t.get WDN.STATUS 0 k.val = st.toNat ∧
      t.wdn = { s.wdn with requests := tdel s.wdn.requests k.val, nextSlot := (k.val + 1) % 8 } ∧ (l ≠ [] → t.get WDN.PAYLOAD 0 k.val = ofLe (padTo 240 l)) ∧
      s.frame t [.regs, .wdn] [WDN.DONE, WDN.RSP_SEQ, WDN.STATUS, WDN.PAYLOAD]) ∧
  (∀ (s : State) (k : Fin 8) (a : WardenAct) (l : List (BitVec 8)) (r : MbReq), s.regsOk → s.mbNext = some k.val → s.wardenUp = true → s.get WDN.ACT_STATE ≠ 4 → tget s.wdn.requests k.val = some r →
    ∃ t, exec (.mailboxAnswer k (BitVec.ofNat 8 Status.accessViolation.code) a l) s = .next t ∧ t.get WDN.DONE 0 k.val = 1 ∧ t.wdn.requests = tdel s.wdn.requests k.val ∧
      s.frame t ([.wdn] ++ reported) ([WDN.DONE, WDN.RSP_SEQ, WDN.STATUS, WDN.PAYLOAD] ++ reportedFields)) ∧
  (∀ (s : State) (r : Requester), s.regsOk → s.commands r wdnPage → ∃ t, exec (.wdtFeed r) s = .next t ∧ s.frame t [.regs] [HDR.QUIESCED]) ∧
  (∀ (s : State), s.regsOk → 3 ≤ s.wdn.boot → s.frozen = false →
    ∃ t, exec .wardenWatchdogExpiry s = .next t ∧ (∀ g, g < 16 → t.get TWN.TWN_CLAIM_LOCAL 0 g = 0) ∧ t.get TWN.SERVE = 0 ∧ t.linkUp = false ∧ t.wdn.aliveOut = false ∧ t.get WDN.STAGE = stageHalted ∧
      t.get HRV.STATE = hrvHarvesting ∧ t.get HRV.CAUSE = 4 ∧ s.harvestFrame t [] [CME.VIOL_TX, NVS.FAST_BAD, TWN.BUNDLES, TWN.CLAIM_W_DRV, TWN.IN_SYNC, TWN.SERVE, TWN.STATE, TWN.TWN_CLAIM_LOCAL, WDN.STAGE]) ∧
  (∀ (s : State), s.regsOk → 3 ≤ s.wdn.boot → s.frozen = false →
    ∃ t, exec .lockstepMismatch s = .next t ∧ (∀ g, g < 16 → t.get TWN.TWN_CLAIM_LOCAL 0 g = 0) ∧ t.get TWN.SERVE = 0 ∧ t.linkUp = false ∧ t.wdn.aliveOut = false ∧ t.get WDN.STAGE = stageHalted ∧
      t.get HRV.STATE = hrvHarvesting ∧ t.get HRV.CAUSE = 4 ∧ s.harvestFrame t [] [CME.VIOL_TX, NVS.FAST_BAD, TWN.BUNDLES, TWN.CLAIM_W_DRV, TWN.IN_SYNC, TWN.SERVE, TWN.STATE, TWN.TWN_CLAIM_LOCAL, WDN.STAGE]) ∧
  (∀ (s : State) (c : Cluster), s.regsOk → s.wdn.svcOff = false → (s.wdn.restarts.filter fun t => decide (s.timeNs < t + 3600000000000)).length < 3 →
    ∃ t, exec (.svcWatchdogExpiry c) s = .next t ∧ t.get WDN.SVC_RESTARTS = satAdd 32 (s.get WDN.SVC_RESTARTS) 1 ∧ s.timeNs ∈ t.wdn.restarts ∧ (∀ n, 2 ≤ n → n ≤ 7 → t.get PWR.STATE 0 n = domOn) ∧
      t.get WDN.SVC_BANK = s.get WDN.SVC_BANK ∧ s.keptBut t ([.flm, .twn, .xlt, .ctl, .qe, .mov, .tier, .cmn, .dmc, .seq, .cip, .wdn] ++ reported)) ∧
  (∀ (s : State) (c : Cluster), s.regsOk → s.wdn.svcOff = false → 3 ≤ (s.wdn.restarts.filter fun t => decide (s.timeNs < t + 3600000000000)).length →
    ∃ t, exec (.svcWatchdogExpiry c) s = .next t ∧ t.wdn = { s.wdn with svcOff := true } ∧ (∀ n, 2 ≤ n → n ≤ 7 → t.get PWR.STATE 0 n ≠ domOn) ∧ s.frame t ([.wdn] ++ reported) reportedFields) ∧
  (∀ (s : State) (b : BitVec 7), s.regsOk → s.seq.pwrgood = true → s.frozen = false → s.wdn.boot = 2 → s.wdn.warm = true → s.get WDN.STAGE ≠ stageRecovery → s.seq.strapBoot = 1 →
    ∃ t, exec (.coldBoot b) s = .next t ∧ t.get WDN.STAGE = stageRecovery ∧ t.wdn.aliveOut = false ∧ t.flag TWN.CLAIM_W_DRV = false ∧ t.wdn.boot = 2 ∧ s.frame t [.regs, .ctl, .mov, .wdn, .out] [WDN.STAGE, TWN.CLAIM_W_DRV]) ∧
  (∀ (s : State) (b : BitVec 7), s.regsOk → s.seq.pwrgood = true → s.frozen = false → s.wdn.boot = 2 → s.wdn.warm = true → s.get WDN.STAGE ≠ stageRecovery → s.seq.strapBoot ≠ 1 → s.slotMark imgWarden 0 ≠ .trial → s.slotMark imgWarden 1 ≠ .trial →
    s.imageOk imgWarden (s.slotImage imgWarden (s.activeSlot imgWarden)) = true → s.activeSlot imgWarden ≤ 1 → s.clk.bootWait = true →
    ∃ t, exec (.coldBoot b) s = .next t ∧ t.get WDN.WDN_SLOT = s.activeSlot imgWarden ∧ t.wdn = { s.wdn with wdnImg := s.slotImage imgWarden (s.activeSlot imgWarden), trialRun := false, boot := 3 } ∧ s.frame t [.regs, .ctl, .mov, .wdn] [WDN.WDN_SLOT]) ∧
  (∀ (s : State) (b : BitVec 7), s.regsOk → s.seq.pwrgood = true → s.frozen = false → s.wdn.boot = 7 → s.formatDue = false → s.flmState = flmReplay →
    ∃ t, exec (.coldBoot b) s = .next t ∧ (∀ p ∈ allPages, t.rd p HDR.LOCK = 1 ∧ (s.rd p HDR.LOCK ≠ 1 → t.rd p HDR.HOST_W = 0 ∧ t.rd p HDR.SVC_W = bits (grantOf p) 2 1 ∧ t.rd p HDR.SVC_R = bits (grantOf p) 1 1 ∧ t.rd p HDR.HOST_R = bits (grantOf p) 3 1)) ∧
      t.get WDN.STAGE = stageReleased ∧ t.hp = { s.hp with released := true, memoryActive := false, activeBound := s.restoreBound } ∧
      s.frame t [.regs, .ctl, .hp, .mov, .wdn] [HDR.LOCK, HDR.SVC_CLUSTERS, HDR.HOST_W, HDR.HOST_R, HDR.SVC_W, HDR.SVC_R, WDN.STAGE]) ∧
  (∀ (s : State) (b : BitVec 7), s.regsOk → s.seq.pwrgood = true → s.frozen = false → s.wdn.boot = 8 → s.formatDue = false → s.flmState = flmInit →
    ∃ t, exec (.coldBoot b) s = .next t ∧ t.get WDN.STAGE = stageReleased ∧ t.wdn = { s.wdn with boot := 9 } ∧ t.hp = { s.hp with released := true, memoryActive := false, activeBound := s.restoreBound } ∧ t.flmState = flmReplay ∧
      s.frame t [.regs, .ctl, .hp, .mov, .wdn] [WDN.STAGE, FTL.FLM_STATE]) ∧
  (∀ (s : State) (b : BitVec 7), s.regsOk → s.seq.pwrgood = true → s.frozen = false → s.wdn.boot = 10 → s.wdn.warm = false → s.get WDN.STAGE = stageRestoring → s.get HRV.STATE ≠ hrvRestoring →
    ∃ t, exec (.coldBoot b) s = .next t ∧ t.get WDN.STAGE = stageRunning ∧ t.wdn.boot = 12 ∧ t.wdn.trialRun = false ∧ (s.wdn.trialRun = true → t.activeSlot imgWarden = s.get WDN.WDN_SLOT) ∧ s.keptBut t ([.ctl, .mov, .tier, .twn, .dmc, .flm, .seq, .hrv, .cip, .nvs, .wdn] ++ reported)) ∧
  (∀ (s : State), s.regsOk → 3 ≤ s.wdn.boot → s.wdn.boot ≤ 8 →
    ∃ t, exec .trialTimeout s = .next t ∧ t.wdn = { wdnInit with fuses := s.wdn.fuses, bootBlocks := s.wdn.bootBlocks, keyCtr := s.wdn.keyCtr, bootCnt := s.wdn.bootCnt, keysSealed := s.wdn.keysSealed } ∧ t.timeNs = 0 ∧ t.mem = [] ∧ t.cip = cipInit ∧
      t.pan = panInit ∧ s.keptBut t ([.ctl, .xlt, .qe, .mov, .tier, .pan, .twn, .cmn, .dmc, .flm, .seq, .hrv, .clk, .cip, .nvs, .wdn, .mgt, .mem, .timeNs, .slew] ++ reported)) ∧
  (∀ (s : State) (i : List (BitVec 8)), s.regsOk → s.get WDN.STAGE = stageRecovery → s.imageOk imgWarden i = true →
    ∃ t, exec (.uartImage i) s = .next t ∧ t.get WDN.STAGE = stageRom ∧ t.wdn = { s.wdn with wdnImg := i, trialRun := false, boot := 3 } ∧ s.frame t [.regs, .wdn] [WDN.STAGE]) ∧
  (∀ (s : State) (i : List (BitVec 8)), s.imageOk imgWarden i = false → exec (.uartImage i) s = .next s) ∧
  (∀ (s : State) (c : Cluster) (a : BitVec 64), s.regsOk → s.protOpen (a.toNat / 2 ^ 21) = false →
    ∃ t, exec (.svcDramViol c a false) s = .next t ∧ bit (t.rd wdnPage HDR.ERR_STAT) 17 = true ∧ .device "SVC_DRAM_READ" [c.val, a.toNat, 0] ∈ t.out ∧ s.frame t reported reportedFields) ∧
  (∀ (s : State) (c : Cluster) (a : BitVec 64), s.regsOk → s.protOpen (a.toNat / 2 ^ 21) = false →
    ∃ t, exec (.svcDramViol c a true) s = .next t ∧ bit (t.rd wdnPage HDR.ERR_STAT) 17 = true ∧ s.frame t reported reportedFields)

/-- Fuses, wrapped keys, image transfer, activation, attestation, TENANT_CTL: A fuse session asks for the fuse supply and, once it is GOOD, sets bits that are never cleared and ends; COMMIT_SVN raises the counters to the SVN of the ACTIVE images. A wrapped key is accepted when it names this SK960, its counter is above the last and its tag verifies; the manager key seals. READY starts the clusters in the new bank, unless the handover is below MIN_HANDOVER, which reverts; RUNNING makes the slot ACTIVE and restores RAKE_POLICY; a timeout before the switch reverts and keeps the bank. Image data go to the standby slot, and with the last of them the slot is checked and marked. The attestation report has 5,155 bytes, begins with its magic and holds the nonce. A tenant's quotas are set only within T1 and T2 and by the twin that may apply them. Each clause gives its frame. -/
def Obligations.FusesKeysActivation : Prop :=
  (∀ (s : State) (f : FuseField) (b : Nat), s.regsOk → s.seq.fuseOpen = false → ∃ t, exec (.fuseProgram f b) s = .next t ∧ t.seq.fuseOpen = true ∧ t.wdn = s.wdn ∧ s.frame t [.regs, .seq, .wdn, .out] [SEQ.DEV_GOOD, SEQ.RAIL_GOOD, SEQ.RAIL_ON, WDN.SVN_SVC, WDN.SVN_WDN]) ∧
  (∀ (s : State) (b : Nat), s.regsOk → s.seq.fuseOpen = true → s.railPhase 39 = .good →
    ∃ t, exec (.fuseProgram .svnWdn b) s = .next t ∧ t.wdn.fuses = { s.wdn.fuses with svnWdn := s.wdn.fuses.svnWdn ||| b % 2 ^ 64 } ∧ t.get WDN.SVN_WDN = (setBitsOf 64 (s.wdn.fuses.svnWdn ||| b % 2 ^ 64)).length ∧ t.seq.fuseOpen = false ∧ s.frame t [.regs, .seq, .wdn, .out] [SEQ.DEV_GOOD, SEQ.RAIL_GOOD, SEQ.RAIL_ON, WDN.SVN_SVC, WDN.SVN_WDN]) ∧
  (∀ (s : State) (b : Nat), s.regsOk → s.seq.fuseOpen = true → s.railPhase 39 = .good →
    ∃ t, exec (.fuseProgram .ownerHash b) s = .next t ∧ t.wdn.fuses = { s.wdn.fuses with ownerHash := s.wdn.fuses.ownerHash ||| b % 2 ^ 512 } ∧ t.seq.fuseOpen = false ∧ s.frame t [.regs, .seq, .wdn, .out] [SEQ.DEV_GOOD, SEQ.RAIL_GOOD, SEQ.RAIL_ON, WDN.SVN_SVC, WDN.SVN_WDN]) ∧
  (∀ (s : State), s.regsOk → s.slotMark imgWarden 0 ≠ .trial → s.slotMark imgWarden 1 ≠ .trial → s.wdn.act = none → s.seq.fuseOpen = true → s.railPhase 39 = .good →
    ∃ t, exec .commitSvn s = .next t ∧ t.wdn.fuses = { s.wdn.fuses with
        svnWdn := s.wdn.fuses.svnWdn ||| (2 ^ min 64 (imgSvn (s.slotImage imgWarden (s.activeSlot imgWarden))) - 1),
        svnSvc := s.wdn.fuses.svnSvc ||| (2 ^ min 64 (imgSvn (s.slotImage imgService (s.activeSlot imgService))) - 1) } ∧
      (∀ y k, (y = 1 ∨ y = 2) → k < 2 → t.slotMark y k = .valid → t.svnFuse y ≤ imgSvn (t.slotImage y k)) ∧ s.frame t ([.seq, .nvs, .wdn] ++ reported) ([NVS.BUSY, NVS.PENDING, NVS.RESULT, NVS.TOKENS, SEQ.DEV_GOOD, SEQ.RAIL_GOOD, SEQ.RAIL_ON, WDN.SVN_SVC, WDN.SVN_WDN] ++ reportedFields)) ∧
  (∀ (s : State), s.slotMark imgWarden 0 = .trial ∨ s.slotMark imgWarden 1 = .trial ∨ s.wdn.act.isSome = true → exec .commitSvn s = .next s) ∧
  (∀ (s : State) (c : List (BitVec 8)) (w : WrappedKey) (k : List Byte), s.regsOk → s.flag WDN.KEYS_SEALED = false → w.use = .manager → 4 ≤ s.wdn.boot → le 64 w.ident.toNat = s.identityDigest → s.wdn.keyCtr < w.counter.toNat →
    Config.unwrapKey c (WrappedKey.aad w) w.wrapped = some k →
    ∃ t, exec (.commissioningKey c w) s = .next t ∧ t.wdn = { s.wdn with keyCtr := w.counter.toNat, keysSealed := true } ∧ tget t.nvs.image.keys 0 = some k ∧ t.flag WDN.KEYS_SEALED = true ∧ s.frame t ([.cip, .nvs, .wdn] ++ reported) ([NVS.BUSY, NVS.FAST_BAD, NVS.PENDING, NVS.RESULT, NVS.TOKENS, WDN.KEYS_SEALED] ++ reportedFields)) ∧
  (∀ (s : State) (c : List (BitVec 8)) (w : WrappedKey), s.flag WDN.KEYS_SEALED = true ∨ w.use ≠ .manager ∨ w.counter.toNat ≤ s.wdn.keyCtr → exec (.commissioningKey c w) s = .next s) ∧
  (∀ (s : State) (h : TaraiviHdr) (w : WrappedKey) (m k : List Byte), s.regsOk → s.accepts h roleDomain → tget s.nvs.image.keys 0 = some m → le 64 w.ident.toNat = s.identityDigest → s.wdn.keyCtr < w.counter.toNat →
    Config.unwrapKey m (WrappedKey.aad w) w.wrapped = some k → w.use = .pair →
    ∃ t, exec (.keyDeliver h w) s = .next t ∧ t.answered h 0x20 .ok ∧ t.wdn.keyCtr = w.counter.toNat ∧ tget t.nvs.image.keys 1 = some k ∧ t.wdn.keysSealed = s.wdn.keysSealed ∧ s.frame t ([.cip, .nvs, .wdn] ++ reported) ([MGT.AUTH_REJECT, NVS.BUSY, NVS.FAST_BAD, NVS.PENDING, NVS.RESULT, NVS.TOKENS, WDN.KEYS_SEALED] ++ reportedFields)) ∧
  (∀ (s : State) (h : TaraiviHdr) (w : WrappedKey), s.regsOk → s.accepts h roleDomain → w.counter.toNat ≤ s.wdn.keyCtr →
    ∃ t, exec (.keyDeliver h w) s = .next t ∧ t.answered h 0x20 .authFail ∧ t.nvs = s.nvs ∧ t.cip = s.cip ∧ s.frame t ([.cip, .nvs, .wdn] ++ reported) ([MGT.AUTH_REJECT, NVS.BUSY, NVS.FAST_BAD, NVS.PENDING, NVS.RESULT, NVS.TOKENS, WDN.KEYS_SEALED] ++ reportedFields)) ∧
  (∀ (s : State) (v : BitVec 16) (a : Activation), s.regsOk → s.wdn.act = some a → s.get WDN.ACT_STATE = 2 → a.bank ≤ 1 → imgMinHandover ((tget s.wdn.banks a.bank).getD []) ≤ v.toNat →
    ∃ t, exec (.actReady v) s = .next t ∧ t.get WDN.SVC_BANK = a.bank ∧ t.get WDN.ACT_STATE = 4 ∧ t.wdn = s.wdn ∧ (∀ n, 2 ≤ n → n ≤ 7 → t.get PWR.STATE 0 n = domOn) ∧ s.keptBut t ([.flm, .twn, .xlt, .ctl, .qe, .mov, .tier, .cmn, .dmc, .seq, .cip, .wdn] ++ reported)) ∧
  (∀ (s : State) (v : BitVec 16) (a : Activation), s.regsOk → s.wdn.act = some a → s.get WDN.ACT_STATE = 2 → a.bank ≤ 1 → v.toNat < imgMinHandover ((tget s.wdn.banks a.bank).getD []) →
    ∃ t, exec (.actReady v) s = .next t ∧ t.get WDN.SVC_BANK = 1 - a.bank ∧ t.get WDN.ACT_STATE = 6 ∧ t.wdn = { s.wdn with act := none } ∧ bit (t.rd wdnPage HDR.ERR_STAT) 18 = true ∧ s.keptBut t ([.flm, .twn, .xlt, .ctl, .qe, .mov, .tier, .cmn, .dmc, .seq, .cip, .wdn] ++ reported)) ∧
  (∀ (s : State) (a : Activation), s.regsOk → s.wdn.act = some a → s.get WDN.ACT_STATE = 4 →
    ∃ t, exec .actRunning s = .next t ∧ t.activeSlot imgService = a.slot ∧ t.get WDN.ACT_STATE = 5 ∧ t.wdn = { s.wdn with act := none } ∧ (a.rake = 2 → t.ftlGet FTL.RAKE_POLICY = 2) ∧ s.frame t ([.nvs, .wdn] ++ reported) ([FTL.RAKE_POLICY, NVS.BUSY, NVS.PENDING, NVS.RESULT, NVS.TOKENS, WDN.ACT_STATE] ++ reportedFields)) ∧
  (∀ (s : State) (a : Activation), s.regsOk → s.wdn.act = some a → s.get WDN.ACT_STATE ≠ 4 →
    ∃ t, exec .actTimeout s = .next t ∧ t.get WDN.ACT_STATE = 6 ∧ t.wdn = { s.wdn with act := none } ∧ t.get WDN.SVC_BANK = s.get WDN.SVC_BANK ∧ (a.rake = 2 → t.ftlGet FTL.RAKE_POLICY = 2) ∧ bit (t.rd wdnPage HDR.ERR_STAT) 18 = true ∧
      s.frame t ([.wdn] ++ reported) ([WDN.ACT_STATE, FTL.RAKE_POLICY] ++ reportedFields)) ∧
  (∀ (s : State) (o : Nat) (c : List (BitVec 8)) (u : Update), s.regsOk → s.mgt.update = some u → u.pldm = true → u.typ ≠ 0 → u.complete = false → o + c.length ≤ u.size → c ≠ [] → s.svcUp = true →
    Update.bytes { u with got := tset u.got o c.length } < u.size →
    ∃ t, exec (.firmwareDataReceived o c) s = .next t ∧ t.mgt.update = some { u with got := tset u.got o c.length } ∧ t.out = s.out ++ [.mctp 0 "REQUEST_FIRMWARE_DATA" pldmOk [Update.bytes { u with got := tset u.got o c.length }]] ∧
      s.keptBut t [.mgt, .wdn, .nvs, .out]) ∧
  (∀ (s : State) (o : Nat) (c : List (BitVec 8)) (u : Update), s.regsOk → s.mgt.update = some u → u.pldm = true → u.typ = imgService → u.complete = false → o + c.length ≤ u.size → c ≠ [] → s.svcUp = true →
    u.size ≤ Update.bytes { u with got := tset u.got o c.length } →
    ∃ t, exec (.firmwareDataReceived o c) s = .next t ∧ t.mgt.update = some { u with got := tset u.got o c.length, complete := true } ∧
      t.slotMark imgService (s.standby imgService) = (if s.imageOk imgService (t.slotImage imgService (s.standby imgService)) then .valid else .invalid) ∧ t.activeSlot imgService = s.activeSlot imgService ∧ s.frame t ([.nvs, .wdn, .mgt] ++ reported) ([NVS.BUSY, NVS.PENDING, NVS.RESULT, NVS.TOKENS] ++ reportedFields)) ∧
  (∀ (s : State) (h : TaraiviHdr) (n : BitVec 256), s.regsOk → s.accepts h roleObserver → s.svcUp = true →
    ∃ t v, exec (.attest h n) s = .next t ∧ t.answered h 0x02 .ok ∧ t.out = s.out ++ [.taraivi h.role.toNat 0x82 (TaraiviHdr.ctr h) 0 v] ∧ v.length = 5155 ∧ v.take 4 = [0x53, 0x4B, 0x41, 0x54] ∧
      (v.drop 8).take 32 = (le 32 n.toNat).map BitVec.toNat ∧ s.keptBut t [.wdn, .out, .free]) ∧
  (∀ (s : State) (h : TaraiviHdr) (tn : BitVec 12) (a b : BitVec 32), s.regsOk → s.accepts h roleDomain → s.mayApply = true →
    ((s.tier.quotas.filter fun e => e.1 != tn.toNat).map fun e => e.2.t1Quota).foldl (· + ·) 0 + a.toNat + s.ftlGet FTL.SYS_BLKS + s.get TIER.LOOSE_MIN ≤ s.get TIER.T1_FRAMES →
    ((s.tier.quotas.filter fun e => e.1 != tn.toNat).map fun e => e.2.t2Quota).foldl (· + ·) 0 + b.toNat ≤ s.ftlGet FTL.USER_BLKS →
    ∃ t, exec (.tenantCtl h (.quota tn a b)) s = .next t ∧ t.answered h 0x22 .ok ∧ (t.quota tn.toNat).t1Quota = a.toNat ∧ (t.quota tn.toNat).t2Quota = b.toNat ∧ (t.quota tn.toNat).t2Used = (s.quota tn.toNat).t2Used ∧
      (∀ k, k ≠ tn.toNat → t.quota k = s.quota k) ∧ s.keptBut t [.tier, .wdn, .out]) ∧
  (∀ (s : State) (h : TaraiviHdr) (o : TenantReq), s.regsOk → s.accepts h roleDomain → s.mayApply = false →
    ∃ t, exec (.tenantCtl h o) s = .next t ∧ t.answered h 0x22 .fenced ∧ t.tier = s.tier ∧ s.keptBut t [.wdn, .out])

/-- Debug unlock: challenge, grants of each level, refusal: A challenge is 32 bytes of a free value followed by the first 32 bytes of the identity digest, and replaces the last one. A response uses the challenge up. It is granted when fewer than three have failed, a key under the signer rules verifies the signature over the hash of challenge and level, and the level is within DEBUG_MAX: DEBUG_LEVEL takes it and the unlocked state lasts; level 2 clears KEYS_SEALED; level 3 leaves no claim, no warden key and no connection key, and the twin is FENCED. Any other response is counted as a failure and grants nothing. Each clause gives its frame. -/
def Obligations.DebugUnlock : Prop :=
  (∀ (s : State), ∃ t c, exec .debugChallenge s = .next t ∧ t.wdn = { s.wdn with challenge := some c } ∧ t.out = s.out ++ [.debug c] ∧ c.length = 64 ∧ c.drop 32 = padTo 32 s.identityDigest ∧ t.free = s.free + 1 ∧ s.keptBut t [.wdn, .out, .free]) ∧
  (∀ (s : State) (l : BitVec 2) (o : Bool) (k g : List (BitVec 8)) (c : List Byte), s.regsOk → s.wdn.challenge = some c → s.wdn.debugFails < 3 → s.signerOk o k = true → Config.mldsaVerify k (sha512 (c ++ le 1 l.toNat)) g = true →
    l.toNat ≤ s.wdn.fuses.debugMax → l = 1 →
    ∃ t, exec (.debugResponse l o k g) s = .next t ∧ t.get WDN.DEBUG_LEVEL = 1 ∧ t.wdn = { s.wdn with challenge := none, unlocked := true } ∧ s.frame t ([.wdn] ++ reported) ([WDN.DEBUG_LEVEL] ++ reportedFields)) ∧
  (∀ (s : State) (l : BitVec 2) (o : Bool) (k g : List (BitVec 8)) (c : List Byte), s.regsOk → s.wdn.challenge = some c → s.wdn.debugFails < 3 → s.signerOk o k = true → Config.mldsaVerify k (sha512 (c ++ le 1 l.toNat)) g = true →
    l.toNat ≤ s.wdn.fuses.debugMax → l = 2 →
    ∃ t, exec (.debugResponse l o k g) s = .next t ∧ t.get WDN.DEBUG_LEVEL = 2 ∧ t.flag WDN.KEYS_SEALED = false ∧ t.wdn = { s.wdn with challenge := none, unlocked := true, keysSealed := false } ∧
      s.frame t ([.wdn] ++ reported) ([WDN.DEBUG_LEVEL, WDN.KEYS_SEALED] ++ reportedFields)) ∧
  (∀ (s : State) (l : BitVec 2) (o : Bool) (k g : List (BitVec 8)) (c : List Byte), s.regsOk → s.wdn.challenge = some c → s.wdn.debugFails < 3 → s.signerOk o k = true → Config.mldsaVerify k (sha512 (c ++ le 1 l.toNat)) g = true →
    l.toNat ≤ s.wdn.fuses.debugMax → l = 3 →
    ∃ t, exec (.debugResponse l o k g) s = .next t ∧ t.get WDN.DEBUG_LEVEL = 3 ∧ (∀ g, g < 16 → t.get TWN.TWN_CLAIM_LOCAL 0 g = 0) ∧ t.role = roleFenced ∧ t.get TWN.SERVE = 0 ∧ t.cip.keys = [] ∧
      (∀ i x, tget t.cmn.conns i = some x → x.keys0 = none ∧ x.keys1 = none) ∧ s.frame t ([.mov, .xlt, .qe, .tier, .twn, .cmn, .cip, .wdn] ++ reported) ([MOV.OFFLINE, MOV.STATE, CME.VIOL_TX, CMP.TX_FRAMES, MOV.FAULT_CNT, MOV.LAST_FCLASS, MOV.LAST_FOFF, MOV.LAST_STATUS, NVS.FAST_BAD, TWN.CLAIM_W_DRV, TWN.IN_SYNC, TWN.SERVE, TWN.STATE, TWN.TWN_CLAIM_LOCAL, WDN.DEBUG_LEVEL, WDN.KEYS_SEALED] ++ reportedFields)) ∧
  (∀ (s : State) (l : BitVec 2) (o : Bool) (k g : List (BitVec 8)), s.regsOk → (3 ≤ s.wdn.debugFails ∨ s.signerOk o k = false ∨ s.wdn.fuses.debugMax < l.toNat ∨ s.wdn.challenge = none) →
    ∃ t, exec (.debugResponse l o k g) s = .next t ∧ t.wdn = { s.wdn with challenge := none, debugFails := s.wdn.debugFails + 1 } ∧ t.get WDN.DEBUG_LEVEL = s.get WDN.DEBUG_LEVEL ∧ s.frame t ([.wdn] ++ reported) reportedFields)

/-- Event fabric: flags, masks, forced events, credits, channels, ALERT pins, MSI-X: EVT_STAT bits written 1 are cleared, and an occurrence of the same cycle leaves its bit set. EVT_MASK is stored; a set bit that becomes unmasked is delivered to its channel. EVT_FORCE sets the bits it names. A returning credit frees its place and sends the source's fold as one message. CHAN_DATA stores the entry of CHAN_IDX, except one for an LD function from another requester than the warden, which sets OWNER_VIOL. CHAN_ACK sets PENDING to 0 (1 with an occurrence of the same cycle). An ALERT pin that reads high is released with ALERT_FAULT, which the warden clears. An unmasked vector whose PBA bit is set is sent. -/
def Obligations.EventFabric : Prop :=
  (∀ (s : State) (r : Requester) (p : Page) (mask : BitVec 32), s.regsOk → s.admits r p →
    ∃ t, exec (.evtStatClear r p mask 0) s = .next t ∧ (∀ k, k < 32 → bit (t.rd p HDR.EVT_STAT) k = (bit (s.rd p HDR.EVT_STAT) k && !mask.getLsbD k)) ∧
      s.frame t [.regs] [HDR.EVT_STAT, HDR.QUIESCED]) ∧
  (∀ (s : State) (r : Requester) (p : Page) (mask occ : BitVec 32), s.regsOk → s.admits r p →
    ∃ t, exec (.evtStatClear r p mask occ) s = .next t ∧ (∀ k, k < 32 → occ.getLsbD k = true → bit (t.rd p HDR.EVT_STAT) k = true) ∧
      s.frame t reported (HDR.QUIESCED :: reportedFields)) ∧
  (∀ (s : State) (r : Requester) (p : Page) (v : BitVec 32), s.regsOk → s.admits r p →
    ∃ t, exec (.evtMaskWrite r p v) s = .next t ∧ t.rd p HDR.EVT_MASK = v.toNat ∧
      ((∀ k, k < 32 → bit (s.rd p HDR.EVT_STAT) k = true → bit (s.rd p HDR.EVT_MASK) k = true → v.getLsbD k = true) → t.evf = s.evf) ∧
      (∀ k, k < 32 → bit (s.rd p HDR.EVT_STAT) k = true → bit (s.rd p HDR.EVT_MASK) k = true → v.getLsbD k = false →
        0 < t.chanPending (if bit (s.routeEntry (p.blk.code * 128 + k)) 15 then bits (s.routeEntry (p.blk.code * 128 + k)) 0 9 else s.rd p HDR.EVT_ROUTE)) ∧
      s.frame t [.regs, .evf, .out, .pwr, .hp, .free] [HDR.EVT_MASK, HDR.QUIESCED, EVF.ALERT_DRV, PWR.PWR_WAKE_LATCH, PWR.STATE]) ∧
  (∀ (s : State) (r : Requester) (p : Page) (mask : BitVec 32), s.regsOk → s.admits r p → s.asWarden r = true →
    ∃ t, exec (.evtForce r p mask) s = .next t ∧ (∀ k, k < 32 → mask.getLsbD k = true → bit (t.rd p HDR.EVT_STAT) k = true) ∧
      s.frame t reported (HDR.QUIESCED :: reportedFields)) ∧
  (∀ (s : State) (src n r : Nat) (rsv : Bool), s.regsOk → tget s.evf.credits (src / 128) = some (n, r) →
    ∃ t, exec (.creditReturn src rsv) s = .next t ∧ (tget t.evf.credits (src / 128)).getD (0, 0) = (if rsv then (n, r - 1) else (n - 1, r)) ∧
      tget t.evf.folds src = none ∧ (tget s.evf.folds src = none → t.recd = s.recd ∧ t.regs = s.regs) ∧
      (∀ f, tget s.evf.folds src = some f → t.get EVF.SRC_FOLD = satAdd 32 (s.get EVF.SRC_FOLD) 1 % 2 ^ 32 ∧
        (t.limiter (src / 128 * 256 + src % 128)).fold ≠ none) ∧ s.frame t [.regs, .evf, .recd] [EVF.SRC_FOLD]) ∧
  (∀ (s : State) (r : Requester) (v : BitVec 32), s.regsOk → s.admits r evfPage → s.domainOn 1 = true → s.get EVF.CHAN_IDX ≠ 0 →
    (bits v.toNat 29 3 = 3 → bit v.toNat 28 = false → r = .warden) →
    ∃ t, exec (.chanDataWrite r v) s = .next t ∧ t.chanEntry (s.get EVF.CHAN_IDX) = bits v.toNat 21 11 * 2 ^ 21 + bits v.toNat 0 11 ∧
      s.frame t [.regs, .evf, .out] [HDR.QUIESCED, EVF.ALERT_DRV]) ∧
  (∀ (s : State) (r : Requester) (v : BitVec 32), s.regsOk → s.admits r evfPage → s.domainOn 1 = true → bits v.toNat 29 3 = 3 → bit v.toNat 28 = false → r ≠ .warden →
    ∃ t, exec (.chanDataWrite r v) s = .next t ∧ bit (t.rd evfPage HDR.ERR_STAT) 0 = true ∧ t.evf.chans = s.evf.chans ∧
      s.frame t reported (HDR.QUIESCED :: reportedFields)) ∧
  (∀ (s : State) (r : Requester) (ch : BitVec 9) (occ : Bool), s.regsOk → s.admits r evfPage → s.domainOn 1 = true →
    ∃ t, exec (.chanAck r ch occ) s = .next t ∧ t.chanPending ch.toNat = (if occ then 1 else 0) ∧
      s.frame t [.regs, .evf, .out, .pwr, .hp, .free] [HDR.QUIESCED, EVF.ALERT_DRV, PWR.PWR_WAKE_LATCH, PWR.STATE]) ∧
  (∀ (s : State) (k : Fin 2), s.regsOk → s.bitOf EVF.ALERT_DRV k.val = true →
    ∃ t, exec (.alertReadbackFault k) s = .next t ∧ t.bitOf EVF.ALERT_FAULT k.val = true ∧ .pin "ALERT_N" k.val none ∈ t.out ∧
      bit (t.rd evfPage HDR.ERR_STAT) 16 = true ∧ s.frame t reported ([EVF.ALERT_FAULT] ++ reportedFields)) ∧
  (∀ (s : State) (r : Requester) (mask : BitVec 2), s.regsOk → s.commands r evfPage →
    ∃ t, exec (.alertFaultClear r mask) s = .next t ∧ (∀ k, k < 2 → t.bitOf EVF.ALERT_FAULT k = (s.bitOf EVF.ALERT_FAULT k && !mask.getLsbD k)) ∧
      s.frame t [.regs, .out] [EVF.ALERT_FAULT, EVF.ALERT_DRV, HDR.QUIESCED]) ∧
  (∀ (s : State) (p : Port) (l : Ld) (mgmt : Bool) (v : BitVec 11) (m : MsixFn), tget s.hp.msix (fnKey p.val l.val mgmt) = some m → m.enable = true →
    v.toNat ∈ m.pba → (mgmt = true ∨ s.flag HP.BOUND p.val l.val = true) →
    ∃ t, exec (.msixUnmask p l mgmt v) s = .next t ∧ .msix p.val l.val mgmt v.toNat ∈ t.out ∧
      (∃ m', tget t.hp.msix (fnKey p.val l.val mgmt) = some m' ∧ v.toNat ∈ m'.unmasked ∧ v.toNat ∉ m'.pba) ∧ s.keptBut t [.hp, .out])

/-- Recorder: spilling, window ends, clearing by the warden and by a Taraivi request: Spilling frees every slot, with SPILLED_SEQ at HEAD_SEQ; while FLM cannot take records it sets SPILL_STOP. The end of a limiter window empties the limiters and writes one summary record for a code with a count; the end of a forwarder window closes the entry and sends its aggregate. CLEAR_UPTO of a value up to HEAD_SEQ becomes CLEARED_SEQ; a value beyond is ignored. CLEAR_RECORDS from the operator clears the same way and is answered OK. Each clause but that of the summary record gives its frame; the window ends are stated where no staged change of the REC page waits. -/
def Obligations.RecorderCommands : Prop :=
  (∀ (s : State), s.regsOk → s.spillStopped = false →
    ∃ t, exec .spill s = .next t ∧ t.waitingRecords = [] ∧ t.spilledSeq = s.get REC.HEAD_SEQ % 2 ^ 32 ∧ (s.waitingRecords ≠ [] → t.recd.spilledOnce = true) ∧
      s.frame t [.regs, .recd] [REC.RSV_USED]) ∧
  (∀ (s : State), s.regsOk → s.spillStopped = true →
    ∃ t, exec .spill s = .next t ∧ bit (t.rd recPage HDR.ERR_STAT) 16 = true ∧ (bit (s.rd recPage HDR.ERR_STAT) 16 = true → t = s) ∧ s.frame t reported reportedFields) ∧
  (∀ (s : State), s.regsOk → (∀ e ∈ s.recd.limiters, ∀ f, e.2.fold = some f → f.count = 0) → (∀ y ∈ s.ctl.single, y.page ≠ recPage) → s.part recPage = none →
    ∃ t, exec .rateWindowEnd s = .next t ∧ t.recd = { s.recd with limiters := [] } ∧ s.keptBut t [.recd]) ∧
  (∀ (s : State) (code : Nat) (l : Limiter) (f : Fold), s.regsOk → s.recd.limiters = [(code, l)] → l.fold = some f → f.count ≠ 0 → f.sev < s.get REC.ALARM_SEV →
    s.slotFree s.recd.wpos = true → (∀ y ∈ s.ctl.single, y.page ≠ recPage) → s.part recPage = none →
    ∃ t x, exec .rateWindowEnd s = .next t ∧ tget t.recd.slots s.recd.wpos = some x ∧ x.free = false ∧ x.entry.summary = true ∧ x.entry.code = code ∧
      x.entry.sev = f.sev ∧ x.entry.payload = f.summary.take 44 ∧ x.entry.seq = (s.get REC.HEAD_SEQ + 1) % 2 ^ 32 ∧
      t.get REC.HEAD_SEQ = (s.get REC.HEAD_SEQ + 1) % 2 ^ 32 ∧ t.recd.limiters = []) ∧
  (∀ (s : State) (c : BitVec 16) (i : BitVec 8) (e : FwdEntry), s.regsOk → (s.recd.fwd.find? fun e => e.code == c.toNat && e.inst == i.toNat) = some e → e.count ≠ 0 →
    s.recd.sent.length < 256 → (∀ y ∈ s.ctl.single, y.page ≠ recPage) → s.part recPage = none →
    ∃ t, exec (.alarmWindowEnd (some (c, i))) s = .next t ∧ t.recd.fwd = (s.recd.fwd.filter fun e => !(e.code == c.toNat && e.inst == i.toNat)) ∧
      t.recd.sent = s.recd.sent ++ [{ corr := s.recd.nextCorr, alarm := ⟨e.code, e.inst, e.sev, true, false, e.count, e.first, e.last, e.firstSeq, e.payload⟩ }] ∧
      s.frame t [.regs, .recd, .out] [MGT.ALARM_SENT, REC.ALARM_DROP]) ∧
  (∀ (s : State) (e : FwdEntry), s.regsOk → s.recd.fwdAll = some e → e.count ≠ 0 → s.recd.sent.length < 256 → (∀ y ∈ s.ctl.single, y.page ≠ recPage) →
    s.part recPage = none →
    ∃ t, exec (.alarmWindowEnd none) s = .next t ∧ t.recd.fwdAll = none ∧
      t.recd.sent = s.recd.sent ++ [{ corr := s.recd.nextCorr, alarm := ⟨e.code, e.inst, e.sev, true, true, e.count, e.first, e.last, e.firstSeq, e.payload⟩ }] ∧
      s.frame t [.regs, .recd, .out] [MGT.ALARM_SENT, REC.ALARM_DROP]) ∧
  (∀ (s : State) (r : Requester) (u : BitVec 32), s.regsOk → s.admits r recPage → s.asWarden r = true → s.takes recPage →
    seqDist (s.get REC.CLEARED_SEQ) u.toNat ≤ seqDist (s.get REC.CLEARED_SEQ) (s.get REC.HEAD_SEQ) →
    ∃ t, exec (.clearUpto r u) s = .next t ∧ t.get REC.CLEARED_SEQ = u.toNat ∧
      s.frame t reported ([REC.CLEARED_SEQ, HDR.QUIESCED] ++ reportedFields)) ∧
  (∀ (s : State) (r : Requester) (u : BitVec 32), s.regsOk → s.admits r recPage → s.asWarden r = true → s.takes recPage →
    seqDist (s.get REC.CLEARED_SEQ) (s.get REC.HEAD_SEQ) < seqDist (s.get REC.CLEARED_SEQ) u.toNat →
    ∃ t, exec (.clearUpto r u) s = .next t ∧ s.frame t [.regs] [HDR.QUIESCED]) ∧
  (∀ (s : State) (h : TaraiviHdr) (u : BitVec 32), s.regsOk → s.accepts h roleOperator →
    seqDist (s.get REC.CLEARED_SEQ) u.toNat ≤ seqDist (s.get REC.CLEARED_SEQ) (s.get REC.HEAD_SEQ) →
    ∃ t, exec (.clearRecords h u) s = .next t ∧ t.get REC.CLEARED_SEQ = u.toNat ∧ t.answered h 0x11 .ok ∧ s.frame t ([.wdn] ++ reported) ([MGT.AUTH_REJECT, REC.CLEARED_SEQ] ++ reportedFields))

/-- A step takes the front command: The step of a state with command c at the front of its queue is exec of c on that state with the queue's rest. With no command waiting it is idle time: TIME_NS has moved forward by 40 ns, or by 20 ns while a backward correction of 20 ns or more is left, and the queue stays empty (the model's choice, log entry 2). -/
def Obligations.StepTakesFrontCommand : Prop :=
  (∀ (c : Instr) (rest : List Instr) (s : State), step { s with pending := c :: rest } = exec c { s with pending := rest }) ∧
  (∀ (s : State), s.pending = [] → ∃ t, step s = .next t ∧ t.timeNs = s.timeNs + (40 - min s.slew 20) ∧ t.slew = s.slew - min s.slew 20 ∧ t.pending = [])

/-- The state after reset: The register file and the byte memory are in canonical form, nothing waits, nothing has been sent (where the spec gives no value, the model's choice, log entry 1); the registers read the reset values of their tables: every page unlocked, not quiesced and not armed, its events masked, the root PLL unlocked with the AON clock on its own source, every domain ON, both settings banks OK, FAULT_N in high. -/
def Obligations.ResetState : Prop :=
  State.reset.regsOk ∧ Memory.wf State.reset.mem = true ∧ State.reset.pending = [] ∧ State.reset.out = [] ∧ State.reset.unit < 2 ∧
  (∀ p ∈ allPages, State.reset.rd p HDR.LOCK = 0 ∧ State.reset.rd p HDR.QUIESCE = 0 ∧ State.reset.rd p HDR.ARM = 0 ∧ State.reset.rd p HDR.STAGE_STAT = 0 ∧
    State.reset.rd p HDR.EVT_MASK = 0xFFFF_FFFF ∧ State.reset.rd p HDR.EVT_STAT = 0 ∧ State.reset.rd p HDR.ERR_STAT = 0) ∧
  State.reset.get CLK.ROOT_STATE = rootUnlocked ∧ State.reset.get CLK.AON_SRC = 1 ∧ State.reset.get CLK.LOCK_N = 1024 ∧ State.reset.get CLK.LOCK_WIN = 20 ∧
  (∀ n, n < 64 → State.reset.get PWR.STATE 0 n = domOn ∧ State.reset.get PWR.IDLE_TIME 0 n = 100) ∧
  State.reset.get NVS.BANK_OK = 3 ∧ State.reset.get NVS.TOKENS = 16 ∧ State.reset.get NVS.STORE_BURST = 16 ∧ State.reset.get NVS.STORE_REFILL_S = 450 ∧
  State.reset.get SEQ.FAULT_N_IN = 1 ∧ State.reset.get SEQ.ADC_CORES = 3 ∧ State.reset.get SEQ.BANK_FULL_MV = 52000

/-- An invariant of every step: Whatever command is at the front, a step keeps the register file in canonical form (so equal registers are equal data), the byte memory in canonical form, and the unit number 0 or 1; and it takes one command off the queue and changes nothing else of it. -/
def Obligations.StepKeepsInvariant : Prop :=
  ∀ (s t : State), step s = .next t →
    (s.regsOk → t.regsOk) ∧ (Memory.wf s.mem = true → Memory.wf t.mem = true) ∧ (s.unit < 2 → t.unit < 2) ∧ t.pending = s.pending.tail

/-- No run stops: From every state, with whatever commands waiting, any number of steps goes on: no command ends in a fault or a refusal, and none changes the queue behind it. -/
def Obligations.RunsGoOn : Prop :=
  (∀ (n : Nat) (s : State), s.runs n) ∧ (∀ (c : Instr) (s : State), ∃ t, exec c s = .next t ∧ t.pending = s.pending)

/-- Accesses that fall on no page (R38): A read of any size at an offset that falls on no page answers 0, and a write to one stores nothing; both set UNMAPPED in ERR_STAT of the TOP page and, as the first error it captures, leave the full offset in its ERR_INFO1. Nothing else changes but what the report of the error changes. -/
def Obligations.UnmappedAccessStated : Prop :=
  (∀ (s : State) (r : Requester) (off : BitVec 32) (n : Nat), s.regsOk → s.reaches r = true → pageFor r off.toNat = none →
    ∃ t, exec (.controlRead r (busAddr r off.toNat) n) s = .next t ∧ t.out.getLast? = some (.ctlRead r off.toNat 0) ∧ bit (t.rd topPage HDR.ERR_STAT) 4 = true ∧
      (s.rd topPage HDR.ERR_STAT = 0 → t.rd topPage HDR.ERR_INFO1 = off.toNat) ∧ s.frame t reported reportedFields) ∧
  (∀ (s : State) (r : Requester) (off : BitVec 32) (n : Nat) (data : BitVec 64), s.regsOk → s.reaches r = true → pageFor r off.toNat = none →
    ∃ t, exec (.controlWrite r (busAddr r off.toNat) n data) s = .next t ∧ bit (t.rd topPage HDR.ERR_STAT) 4 = true ∧
      (s.rd topPage HDR.ERR_STAT = 0 → t.rd topPage HDR.ERR_INFO1 = off.toNat) ∧ s.frame t reported reportedFields)

/-- Accesses that OWNER or a warden-only marking refuses (R47): A read that OWNER does not permit answers 0. A write that OWNER does not permit, and one of which every field is marked warden only while the requester does not act as the warden, stores nothing. The access completes, OWNER_VIOL of the page is set, and nothing else changes but what the report changes (QUIESCED latches where the block has come to rest). -/
def Obligations.RefusedAccessStated : Prop :=
  (∀ (s : State) (r : Requester) (p : Page) (a n : Nat), s.regsOk → s.reaches r = true → pageFor r p.base = some p → s.mayRead r p = false → a < 4096 → legalAccess a n = true →
    (a < 0x100 ∨ s.domainOn (Page.dom p) = true) →
    ∃ t, exec (.controlRead r (busAddr r (p.base + a)) n) s = .next t ∧ t.out.getLast? = some (.ctlRead r (p.base + a) 0) ∧ bit (t.rd p HDR.ERR_STAT) 0 = true ∧
      s.frame t reported reportedFields) ∧
  (∀ (s : State) (r : Requester) (p : Page) (a n : Nat) (data : BitVec 64), s.regsOk → s.reaches r = true → pageFor r p.base = some p → s.mayWrite r p = false → s.wayClear r p → a < 4096 →
    legalAccess a n = true → (a < 0x100 ∨ s.domainOn (Page.dom p) = true) →
    ∃ t, exec (.controlWrite r (busAddr r (p.base + a)) n data) s = .next t ∧ bit (t.rd p HDR.ERR_STAT) 0 = true ∧ s.frame t reported (HDR.QUIESCED :: reportedFields)) ∧
  (∀ (s : State) (r : Requester) (p : Page) (a n : Nat) (data : BitVec 64), s.regsOk → s.admits r p → s.asWarden r = false → a < 4096 → legalAccess a n = true →
    (a < 0x100 ∨ s.domainOn (Page.dom p) = true) →
    (s.writesAt p a n (data.toNat % 2 ^ (8 * n))).any (fun x => !x.idle) = true → (∀ x ∈ s.writesAt p a n (data.toNat % 2 ^ (8 * n)), x.idle = true ∨ x.fld.warden = true) →
    ∃ t, exec (.controlWrite r (busAddr r (p.base + a)) n data) s = .next t ∧ bit (t.rd p HDR.ERR_STAT) 0 = true ∧ s.frame t reported (HDR.QUIESCED :: reportedFields))

/-- HOST_W needs HOST_R, SVC_W needs SVC_R (R48): While HOST_R of a page is not set, a host's write of any register of it is refused whatever HOST_W says; with both set its write of EVT_ROUTE is taken. The same holds of SVC_R and SVC_W for a service core of a cluster that OWNER names. -/
def Obligations.WriteRightStated : Prop :=
  (∀ (s : State) (p : Page) (a n : Nat) (data : BitVec 64), s.regsOk → p.present = true → s.rd p HDR.HOST_R = 0 → s.wayClear .host p → a < 4096 → legalAccess a n = true →
    (a < 0x100 ∨ s.domainOn (Page.dom p) = true) →
    ∃ t, exec (.controlWrite .host (busAddr .host (p.base + a)) n data) s = .next t ∧ bit (t.rd p HDR.ERR_STAT) 0 = true ∧ s.frame t reported (HDR.QUIESCED :: reportedFields)) ∧
  (∀ (s : State) (p : Page) (v : Nat), s.regsOk → p.present = true → s.rd p HDR.HOST_R = 1 → s.rd p HDR.HOST_W = 1 → s.wayClear .host p → v < 512 →
    ∃ t, exec (.controlWrite .host (busAddr .host (p.base + 0x024)) 4 (BitVec.ofNat 64 v)) s = .next t ∧ t.rd p HDR.EVT_ROUTE = v ∧ s.frame t [.regs] [HDR.EVT_ROUTE, HDR.QUIESCED]) ∧
  (∀ (s : State) (k : Fin 6) (p : Page) (a n : Nat) (data : BitVec 64), s.regsOk → pageFor (.svc k) p.base = some p → s.rd p HDR.SVC_R = 0 → s.wayClear (.svc k) p → a < 4096 → legalAccess a n = true →
    (a < 0x100 ∨ s.domainOn (Page.dom p) = true) →
    ∃ t, exec (.controlWrite (.svc k) (busAddr (.svc k) (p.base + a)) n data) s = .next t ∧ bit (t.rd p HDR.ERR_STAT) 0 = true ∧ s.frame t reported (HDR.QUIESCED :: reportedFields)) ∧
  (∀ (s : State) (k : Fin 6) (p : Page) (v : Nat), s.regsOk → pageFor (.svc k) p.base = some p → s.rd p HDR.SVC_R = 1 → s.rd p HDR.SVC_W = 1 → bit (s.rd p HDR.SVC_CLUSTERS) k.val = true → s.wayClear (.svc k) p → v < 512 →
    ∃ t, exec (.controlWrite (.svc k) (busAddr (.svc k) (p.base + 0x024)) 4 (BitVec.ofNat 64 v)) s = .next t ∧ t.rd p HDR.EVT_ROUTE = v ∧ s.frame t [.regs] [HDR.EVT_ROUTE, HDR.QUIESCED])

/-- RWL fields after LOCK (R50): While LOCK of a page is set, a write by a requester that acts as the warden of which every field is RWL stores nothing and sets LOCK_VIOL. -/
def Obligations.LockedFieldsStated : Prop :=
  ∀ (s : State) (r : Requester) (p : Page) (a n : Nat) (data : BitVec 64), s.regsOk → s.admits r p → s.asWarden r = true → s.rd p HDR.LOCK = 1 → a < 4096 → legalAccess a n = true →
    (a < 0x100 ∨ s.domainOn (Page.dom p) = true) → slotsAt p a n ≠ [] → (∀ x ∈ slotsAt p a n, x.2.1.acc = .rwl) →
    ∃ t, exec (.controlWrite r (busAddr r (p.base + a)) n data) s = .next t ∧ bit (t.rd p HDR.ERR_STAT) 1 = true ∧ s.frame t reported (HDR.QUIESCED :: reportedFields)

/-- XLT_INVAL while BUSY (R98): A write of a scope while an invalidation runs waits at the end of the queue as long as fewer than 64 wait; with 64 waiting it is ignored and sets INVAL_OVF (ERR_STAT [16] of the XLT page). -/
def Obligations.InvalidationQueueStated : Prop :=
  (∀ (s : State) (r : Requester) (sc : BitVec 4) (i : BitVec 24) (b : Inval), s.regsOk → s.commands r xltPage → sc.toNat ≤ 5 → s.xlt.invalBusy = some b → s.xlt.invalQueue.length < 64 →
    ∃ t, exec (.xltInval r sc i) s = .next t ∧ t.xlt.invalQueue = s.xlt.invalQueue ++ [⟨sc.toNat, i.toNat, .none⟩] ∧ t.xlt.invalBusy = some b ∧ t.xlt.caches = s.xlt.caches ∧
      s.frame t [.regs, .xlt] [HDR.QUIESCED]) ∧
  (∀ (s : State) (r : Requester) (sc : BitVec 4) (i : BitVec 24) (b : Inval), s.regsOk → s.commands r xltPage → sc.toNat ≤ 5 → s.xlt.invalBusy = some b → 64 ≤ s.xlt.invalQueue.length →
    ∃ t, exec (.xltInval r sc i) s = .next t ∧ t.xlt = s.xlt ∧ bit (t.rd xltPage HDR.ERR_STAT) 16 = true ∧ s.frame t reported (HDR.QUIESCED :: reportedFields))

/-- STORE while only one bank is OK (R582): A STORE that would run, at the arrival of a token for one that waits, ends FAILED, sets NVS_DEGRADED (ERR_STAT [18] of the NVS page) and is recorded at severity 6 as that page's source 4; the banks, the image and every live field stay. -/
def Obligations.StoreWithOneBankStated : Prop :=
  (∀ (s : State), s.regsOk → s.flag NVS.PENDING = true → s.get NVS.BUSY = 0 → (s.get NVS.BANK_OK = 1 ∨ s.get NVS.BANK_OK = 2) →
    ∃ t u, exec .tokenRefill s = .next t ∧ t = u.blkErr nvsPage 18 6 ∧ u.get NVS.RESULT = nvsFailed ∧ u.get NVS.PENDING = 0 ∧ s.frame u [.regs] [NVS.TOKENS, NVS.PENDING, NVS.RESULT] ∧
      bit (t.rd nvsPage HDR.ERR_STAT) 18 = true ∧ t.nvs = s.nvs ∧ s.frame t reported ([NVS.TOKENS, NVS.PENDING, NVS.RESULT] ++ reportedFields)) ∧
  (∀ (s : State) (r : Requester), s.regsOk → s.commands r nvsPage → s.get NVS.BUSY = 0 → (s.get NVS.BANK_OK = 1 ∨ s.get NVS.BANK_OK = 2) →
    ∃ t, exec (.store r) s = .next t ∧ t.get NVS.RESULT = nvsFailed ∧ bit (t.rd nvsPage HDR.ERR_STAT) 18 = true ∧ t.nvs = s.nvs ∧
      s.frame t reported ([NVS.PENDING, NVS.RESULT, HDR.QUIESCED] ++ reportedFields))

/-- RESET_IN_N (R605): RESET_IN_N low while PWRGOOD is high is a cold-reset request, which begins with a harvest, or adds its cause to one that runs. Low before step 5 of power-on it withholds PWRGOOD: the last device rail being settled, PWRGOOD does not rise; when RESET_IN_N rises, it does. -/
def Obligations.ResetInputStated : Prop :=
  (∀ (s : State), s.regsOk → s.seq.pwrgood = true → s.frozen = false →
    ∃ t, exec .resetInN s = .next t ∧ t.get HRV.STATE = hrvHarvesting ∧ t.get HRV.CAUSE = 4 ∧ t.get HRV.FIRST_CAUSE = 2 ∧ t.hp.memoryActive = false ∧ t.seq.resetLow = true ∧
      s.harvestFrame t [.seq] []) ∧
  (∀ (s : State), s.regsOk → s.seq.pwrgood = true → s.frozen = true →
    ∃ t, exec .resetInN s = .next t ∧ t.bitOf HRV.CAUSE 2 = true ∧ t.seq = { s.seq with resetLow := true } ∧ s.frame t [.regs, .seq] [HRV.CAUSE]) ∧
  (∀ (s : State), s.seq.pwrgood = false → exec .resetInN s = .next { s with seq := { s.seq with resetLow := true } }) ∧
  (∀ (s : State), s.regsOk → s.seq.devUp = some 7 → s.settled 37 = true → s.seq.resetLow = true → s.seq.pwrgood = false →
    ∃ u t, s.devUpGo = u ∧ u.seq.pwrgood = false ∧ exec .resetInNRelease s = .next t ∧ t.seq.pwrgood = true ∧ t.seq.resetLow = false ∧ t.wdn.boot = 1 ∧ t.get SEQ.STATE = seqDeviceOn ∧
      t.out = s.out ++ [.pin "PWRGOOD" 0 (some true)] ∧ s.frame t [.regs, .seq, .wdn, .out] [SEQ.STATE])

/-- QUIESCE of a slice with dirty lines (R255): The SK960 refuses it: QUIESCE stays 0, QUIESCE_REFUSED (ERR_STAT [17] of the slice's page) is set, and every line stays. -/
def Obligations.DirtySliceQuiesceStated : Prop :=
  ∀ (s : State) (r : Requester) (n : Slice), s.regsOk → s.admits r (panPage n.val) → 0 < s.dirtyLines n.val → s.rd (panPage n.val) HDR.QUIESCE = 0 →
    ∃ t, exec (.quiesce r (panPage n.val)) s = .next t ∧ t.rd (panPage n.val) HDR.QUIESCE = 0 ∧ bit (t.rd (panPage n.val) HDR.ERR_STAT) 17 = true ∧ t.pan = s.pan ∧
      s.frame t reported ([HDR.BLOCK_DEF, HDR.ENABLE, HDR.QUIESCED] ++ reportedFields)

/-- Fabric Manager commands: Identification, background status, capacities, allocations, bandwidths, DevLoads, DCD information, DC regions and extents are answered with success and change nothing; the response limit is a free value. A QoS control, allocated bandwidth, bandwidth limit or DC region that is set is what the matching Get answers from then on, for that port and logical device and region alone. A DC region of more than 4 TiB or not in multiples of 2 MiB is refused and changes nothing. -/
def Obligations.FabricManager : Prop :=
  (∀ (s : State), ∃ a b t u v, exec .fmIdentify s = .next a ∧ a.out = s.out ++ [.fm "IDENTIFY" .success [0x1F3C, 0x0960, 0x1F3C, 0x0960]] ∧ s.keptBut a [.out] ∧
    exec .backgroundOperationStatus s = .next b ∧ b.out = s.out ++ [.fm "BACKGROUND_OPERATION_STATUS" .success [0]] ∧ s.keptBut b [.out] ∧
    exec .getDcdInfo s = .next t ∧ t.out = s.out ++ [.fm "GET_DCD_INFO" .success [128, 8, 2 ^ 21]] ∧ s.keptBut t [.out] ∧
    exec .getResponseMessageLimit s = .next u ∧ u.out = s.out ++ [.fm "GET_RESPONSE_MESSAGE_LIMIT" .success [v]] ∧ s.keptBut u [.out, .free]) ∧
  (∀ (s : State) (p : Port) (l : Ld), ∃ a va b vb c vc d vd e ve, exec (.getLdInfo p) s = .next a ∧ a.out = s.out ++ [.fm "GET_LD_INFO" .success [va, 16]] ∧
      va = ((List.range 16).map fun k => s.ldCapacity p.val k).foldl (· + ·) 0 ∧ s.keptBut a [.out] ∧
    exec (.getLdAllocations p) s = .next b ∧ b.out = s.out ++ [.fm "GET_LD_ALLOCATIONS" .success vb] ∧ vb.length = 16 ∧ vb[l.val]? = some (s.ld p.val l.val).allocUnits ∧ s.keptBut b [.out] ∧
    exec (.getQosStatus p) s = .next c ∧ c.out = s.out ++ [.fm "GET_QOS_STATUS" .success vc] ∧ vc.length = 16 ∧ vc[l.val]? = some (s.devLoad p.val l.val) ∧ s.keptBut c [.out] ∧
    exec (.getHostDcRegionConfig p l) s = .next d ∧ d.out = s.out ++ [.fm "GET_HOST_DC_REGION_CONFIG" .success vd] ∧ vd = ((s.ld p.val l.val).dcRegions.flatMap fun x => [x.1, x.2.1, x.2.2]) ∧ s.keptBut d [.out] ∧
    exec (.getDcRegionExtentLists p l) s = .next e ∧ e.out = s.out ++ [.fm "GET_DC_REGION_EXTENT_LISTS" .success ve] ∧ ve.length = 3 * (s.ldExtents p.val l.val).length ∧ s.keptBut e [.out]) ∧
  (∀ (s : State) (p : Port) (l : Ld), ∃ t u v x y, exec (.getQosControl p) s = .next t ∧ t.out = s.out ++ [.fm "GET_QOS_CONTROL" .success [((tget s.hp.qosControl p.val).getD 0).toNat]] ∧ s.keptBut t [.out] ∧
    exec (.getQosAllocatedBw p) s = .next u ∧ u.out = s.out ++ [.fm "GET_QOS_ALLOCATED_BW" .success x] ∧ x[l.val]? = some (s.ld p.val l.val).qosAlloc.toNat ∧ s.keptBut u [.out] ∧
    exec (.getQosBwLimit p) s = .next v ∧ v.out = s.out ++ [.fm "GET_QOS_BW_LIMIT" .success y] ∧ y[l.val]? = some (s.ld p.val l.val).qosLimit.toNat ∧ s.keptBut v [.out]) ∧
  (∀ (s : State) (p q : Port) (v : BitVec 64), ∃ t u vals, exec (.setQosControl p v) s = .next t ∧ t.out = s.out ++ [.fm "SET_QOS_CONTROL" .success [v.toNat]] ∧ s.keptBut t [.hp, .out] ∧
    exec (.getQosControl q) t = .next u ∧ u.out = t.out ++ [.fm "GET_QOS_CONTROL" .success vals] ∧ t.keptBut u [.out] ∧
    vals = [if q = p then v.toNat else ((tget s.hp.qosControl q.val).getD 0).toNat]) ∧
  (∀ (s : State) (p q : Port) (l m : Ld) (v : BitVec 8), ∃ t u vals, exec (.setQosAllocatedBw p l v) s = .next t ∧ t.out = s.out ++ [.fm "SET_QOS_ALLOCATED_BW" .success [v.toNat]] ∧ s.keptBut t [.hp, .out] ∧
    exec (.getQosAllocatedBw q) t = .next u ∧ u.out = t.out ++ [.fm "GET_QOS_ALLOCATED_BW" .success vals] ∧ t.keptBut u [.out] ∧
    vals[m.val]? = some (if q = p ∧ m = l then v.toNat else (s.ld q.val m.val).qosAlloc.toNat) ∧ (t.ld q.val m.val).qosLimit = (s.ld q.val m.val).qosLimit) ∧
  (∀ (s : State) (p q : Port) (l m : Ld) (v : BitVec 8), ∃ t u vals, exec (.setQosBwLimit p l v) s = .next t ∧ t.out = s.out ++ [.fm "SET_QOS_BW_LIMIT" .success [v.toNat]] ∧ s.keptBut t [.hp, .out] ∧
    exec (.getQosBwLimit q) t = .next u ∧ u.out = t.out ++ [.fm "GET_QOS_BW_LIMIT" .success vals] ∧ t.keptBut u [.out] ∧
    vals[m.val]? = some (if q = p ∧ m = l then v.toNat else (s.ld q.val m.val).qosLimit.toNat) ∧ (t.ld q.val m.val).qosAlloc = (s.ld q.val m.val).qosAlloc) ∧
  (∀ (s : State) (p : Port) (l : Ld) (k j : Fin 8) (base len : BitVec 64), tget (s.ld p.val l.val).dcRegions k.val = none → len.toNat ≤ 2 ^ 42 → base.toNat % 2 ^ 21 = 0 → len.toNat % 2 ^ 21 = 0 →
    ∃ t, exec (.setDcRegionConfig p l k base len) s = .next t ∧ t.out = s.out ++ [.fm "SET_DC_REGION_CONFIG" .success []] ∧
      tget (t.ld p.val l.val).dcRegions j.val = (if j = k then some (base.toNat, len.toNat) else tget (s.ld p.val l.val).dcRegions j.val) ∧
      (∀ (q : Port) (m : Ld), (q, m) ≠ (p, l) → t.ld q.val m.val = s.ld q.val m.val) ∧ s.keptBut t [.hp, .out]) ∧
  (∀ (s : State) (p : Port) (l : Ld) (k : Fin 8) (base len : BitVec 64), (2 ^ 42 < len.toNat ∨ base.toNat % 2 ^ 21 ≠ 0 ∨ len.toNat % 2 ^ 21 ≠ 0) →
    ∃ t, exec (.setDcRegionConfig p l k base len) s = .next t ∧ t.out = s.out ++ [.fm "SET_DC_REGION_CONFIG" .invalidInput []] ∧ s.keptBut t [.out])

/-- References and PLLs: When the input in use is lost with the other good, the root PLL goes to HOLDOVER on the other one; one not in use is only marked. With both lost AON_CLK takes its own source, and a root PLL that runs starts a harvest. A good input clears that and, as the only one or as the preferred one with REF_REVERT, is used. The root PLL's lock shows in ROOT_STATE and DPLL_LOCK, and runs every clock output that is enabled and not faulted; its loss gates them all in HOLDOVER; a relock that fails starts a harvest; a VCO that fails resets the device with ROOT_STATE FAILED. A PLL that loses lock is down: a DRAM PLL clears its DPLL_LOCK bit, those of an Ethernet port, a link or a bundle take it down; it comes back by itself. -/
def Obligations.ClockReferences : Prop :=
  (∀ (s : State) (b : Bool), s.regsOk → s.flag (refOk b) = true → s.flag (refOk !b) = true → s.get CLK.REF_IN_USE = b2n b → (s.get CLK.ROOT_STATE = rootLocked ∨ s.get CLK.ROOT_STATE = rootHoldover) →
    ∃ t, exec (.refclkLost b) s = .next t ∧ t.flag (refOk b) = false ∧ t.get CLK.ROOT_STATE = rootHoldover ∧ t.get CLK.REF_IN_USE = b2n !b ∧ bit (t.rd clkPage HDR.ERR_STAT) (if b then 17 else 16) = true ∧
      s.frame t reported ([refOk b, CLK.ROOT_STATE, CLK.REF_IN_USE] ++ reportedFields)) ∧
  (∀ (s : State) (b : Bool), s.regsOk → s.flag (refOk b) = true → s.flag (refOk !b) = true → s.get CLK.REF_IN_USE = b2n !b →
    ∃ t, exec (.refclkLost b) s = .next t ∧ t.flag (refOk b) = false ∧ bit (t.rd clkPage HDR.ERR_STAT) (if b then 17 else 16) = true ∧ s.frame t reported ([refOk b] ++ reportedFields)) ∧
  (∀ (s : State) (b : Bool), s.regsOk → s.flag (refOk b) = true → s.flag (refOk !b) = false → s.get CLK.ROOT_STATE = rootLocked → s.seq.pwrgood = true → s.frozen = false →
    ∃ t, exec (.refclkLost b) s = .next t ∧ t.flag (refOk b) = false ∧ t.get CLK.AON_SRC = 1 ∧ t.get CLK.ROOT_STATE = rootHoldover ∧ t.get CLK.CKOUT_ON % 16 = 0 ∧ bit (t.rd clkPage HDR.ERR_STAT) (if b then 17 else 16) = true ∧
      t.get HRV.STATE = hrvHarvesting ∧ t.get HRV.CAUSE = 8 ∧ t.get HRV.FIRST_CAUSE = 3 ∧
      s.harvestFrame t [] [CLK.AON_SRC, CLK.CKOUT_ON, refOk b, CLK.ROOT_STATE]) ∧
  (∀ (s : State) (b : Bool), s.regsOk → s.flag (refOk b) = false → s.flag (refOk !b) = false →
    ∃ t, exec (.refclkGood b) s = .next t ∧ t.get (refOk b) = 1 ∧ t.get CLK.AON_SRC = 0 ∧ t.get CLK.REF_IN_USE = b2n b ∧ t.clk = { s.clk with bootWait := false } ∧
      s.frame t [.regs, .clk, .out] [refOk b, CLK.AON_SRC, CLK.REF_IN_USE, CLK.CKOUT_ON]) ∧
  (∀ (s : State) (b : Bool), s.regsOk → s.flag (refOk b) = false → s.flag (refOk !b) = true → s.flag CLK.REF_REVERT = true → s.get CLK.REF_PREF = b2n b → s.get CLK.REF_IN_USE = b2n !b → s.get CLK.ROOT_STATE = rootLocked →
    ∃ t, exec (.refclkGood b) s = .next t ∧ t.get (refOk b) = 1 ∧ t.get CLK.REF_IN_USE = b2n b ∧ t.get CLK.ROOT_STATE = rootHoldover ∧ s.frame t [.regs, .clk] [refOk b, CLK.AON_SRC, CLK.REF_IN_USE, CLK.ROOT_STATE]) ∧
  (∀ (s : State) (b : Bool), s.regsOk → s.flag (refOk b) = false → s.flag (refOk !b) = true → s.flag CLK.REF_REVERT = false →
    ∃ t, exec (.refclkGood b) s = .next t ∧ t.get (refOk b) = 1 ∧ s.frame t [.regs, .clk] [refOk b, CLK.AON_SRC]) ∧
  (∀ (s : State), s.regsOk → s.seq.pwrgood = true → s.flag (refOk (s.flag CLK.REF_IN_USE)) = true → (s.get CLK.ROOT_STATE = rootUnlocked ∨ s.get CLK.ROOT_STATE = rootHoldover) →
    ∃ t, exec .rootPllLock s = .next t ∧ t.get CLK.ROOT_STATE = rootLocked ∧ (∀ k, k < 6 → t.bitOf CLK.DPLL_LOCK k = !s.clk.pllDown.contains k) ∧ t.clk = { s.clk with relock := false } ∧
      (∀ k, k < 4 → t.bitOf CLK.CKOUT_ON k = (s.flag CLK.EN 0 k && !s.bitOf CLK.CKOUT_FAULT k)) ∧ s.frame t [.regs, .clk, .out] [CLK.ROOT_STATE, CLK.DPLL_LOCK, CLK.CKOUT_ON]) ∧
  (∀ (s : State), s.regsOk → s.get CLK.ROOT_STATE = rootLocked →
    ∃ t, exec .rootPllUnlock s = .next t ∧ t.get CLK.ROOT_STATE = rootHoldover ∧ t.clk = { s.clk with relock := true } ∧ (∀ k, k < 4 → t.bitOf CLK.CKOUT_ON k = false) ∧
      bit (t.rd clkPage HDR.ERR_STAT) 18 = true ∧ s.frame t ([.clk] ++ reported) ([CLK.ROOT_STATE, CLK.CKOUT_ON] ++ reportedFields)) ∧
  (∀ (s : State), s.regsOk → s.clk.relock = true → s.seq.pwrgood = true → s.frozen = false →
    ∃ t, exec .relockTimeout s = .next t ∧ t.get HRV.STATE = hrvHarvesting ∧ t.get HRV.CAUSE = 8 ∧ t.get HRV.FIRST_CAUSE = 3 ∧ t.hp.memoryActive = false ∧ t.clk = s.clk ∧
      s.harvestFrame t [] []) ∧
  (∀ (s : State), s.clk.relock = false → exec .relockTimeout s = .next s) ∧
  (∀ (s : State), s.regsOk → s.get CLK.ROOT_STATE = rootHoldover →
    ∃ t, exec .rootVcoFail s = .next t ∧ t.get CLK.ROOT_STATE = rootFailed ∧ t.wdn.boot = 0 ∧ t.timeNs = 0 ∧ t.mem = [] ∧ t.qe.cmds = [] ∧ t.pan.lines = [] ∧ t.hp.memoryActive = false ∧
      t.seq.rails = s.seq.rails ∧ t.seq.pwrgood = s.seq.pwrgood ∧ t.unit = s.unit ∧ t.pending = s.pending) ∧
  (∀ (s : State) (k : Fin 6), s.regsOk → s.clk.pllDown.contains k.val = false →
    ∃ t, exec (.pllUnlock (.dram k)) s = .next t ∧ k.val ∈ t.clk.pllDown ∧ t.bitOf CLK.DPLL_LOCK k.val = false ∧ bit (t.rd clkPage HDR.ERR_STAT) 19 = true ∧
      t.get DMC.STATE (2 * k.val) = dmcFailed ∧ t.get DMC.STATE (2 * k.val + 1) = dmcFailed ∧ s.keptBut t ([.ctl, .xlt, .qe, .mov, .tier, .pan, .twn, .cmn, .dmc, .flm, .clk] ++ reported)) ∧
  (∀ (s : State) (e : EPort), s.regsOk → s.clk.pllDown.contains (14 + e.val) = false →
    ∃ t, exec (.pllUnlock (.eth e)) s = .next t ∧ t.get CMP.LINK_UP e.val = 0 ∧ t.clk = { s.clk with pllDown := s.clk.pllDown ++ [14 + e.val] } ∧ s.frame t [.regs, .clk] [CMP.LINK_UP]) ∧
  (∀ (s : State) (p : Port) (k : Link), s.regsOk → s.clk.pllDown.contains (6 + p.val) = false →
    ∃ t, exec (.pllUnlock (.host p)) s = .next t ∧ t.get HP.UP p.val k.val = 0 ∧ (∃ l, t.clk.pllDown = s.clk.pllDown ++ l ∧ 6 + p.val ∈ l) ∧
      s.frame t ([.tier, .clk] ++ reported) ([HP.CXL, HP.FLIT256, HP.MLD, HP.RATE, HP.UP, HP.WIDTH] ++ reportedFields)) ∧
  (∀ (s : State) (b : Bundle), s.regsOk → s.clk.pllDown.contains (18 + b.val) = false →
    ∃ t, exec (.pllUnlock (.bundle b)) s = .next t ∧ 18 + b.val ∈ t.clk.pllDown ∧ t.bitOf TWN.BUNDLES b.val = false ∧ s.keptBut t ([.ctl, .xlt, .qe, .mov, .tier, .pan, .twn, .cmn, .dmc, .flm, .clk] ++ reported)) ∧
  (∀ (s : State) (p : Pll), s.regsOk →
    ∃ t, exec (.pllReacquire p) s = .next t ∧ (∀ k, k ∈ t.clk.pllDown ↔ k ∈ s.clk.pllDown ∧ k ≠ Pll.num p) ∧ t.clk.relock = s.clk.relock ∧
      (∀ k, p = .dram k → (s.get CLK.ROOT_STATE = rootLocked ∨ s.get CLK.ROOT_STATE = rootHoldover) → t.bitOf CLK.DPLL_LOCK k.val = true) ∧ s.frame t [.regs, .clk] [CLK.DPLL_LOCK]) ∧
  (∀ (s : State) (k : Fin 4), s.regsOk → s.bitOf CLK.CKOUT_ON k.val = true → s.get CLK.FMT 0 k.val = 2 →
    ∃ t, exec (.ckoutReadbackFault k) s = .next t ∧ t.bitOf CLK.CKOUT_FAULT k.val = true ∧ t.bitOf CLK.CKOUT_ON k.val = false ∧ .pin "CKOUT" k.val none ∈ t.out ∧ bit (t.rd clkPage HDR.ERR_STAT) 21 = true ∧
      s.frame t reported ([CLK.CKOUT_FAULT, CLK.CKOUT_ON] ++ reportedFields))

/-- Clock registers: COMMIT of CLK_DIV with legal selections makes BUSY 1 and is carried out at the next edge, an AON_CLK cycle with no command waiting in the model (log entry 2): CLK_DIV_NOW takes the set, RESULT is DONE; illegal selections, or FAB_SEL 1 while FLM has work, are refused with RESULT REFUSED and an error; a COMMIT while BUSY sets the error. CKOUT_CFGk with EN 0 takes every field and the output follows; with EN 1 a changed format, level or source is refused with NOT_QUIESCED and only EN is taken. A mask written to CKOUT_FAULT clears those bits and the outputs follow. TIME_SET moves TIME_NS forward only. -/
def Obligations.ClockRegisters : Prop :=
  (∀ (s : State) (r : Requester), s.regsOk → s.commands r clkPage → s.flag CLK.BUSY = false → s.get CLK.FAB_SEL ≤ 1 → s.get CLK.PAN_SEL ≤ 1 → s.get CLK.CORE_SEL ≤ 3 →
    (s.get CLK.FAB_SEL = 1 → s.busy ftlPage = false) →
    ∃ t, exec (.clkDivCommit r) s = .next t ∧ t.get CLK.BUSY = 1 ∧ t.get CLK.RESULT = 0 ∧ s.frame t [.regs] [CLK.BUSY, CLK.RESULT, HDR.QUIESCED]) ∧
  (∀ (s : State) (r : Requester), s.regsOk → s.commands r clkPage → s.flag CLK.BUSY = false →
    (1 < s.get CLK.FAB_SEL ∨ 1 < s.get CLK.PAN_SEL ∨ 3 < s.get CLK.CORE_SEL ∨ (s.get CLK.FAB_SEL = 1 ∧ s.busy ftlPage = true)) →
    ∃ t, exec (.clkDivCommit r) s = .next t ∧ t.get CLK.RESULT = 2 ∧ bit (t.rd clkPage HDR.ERR_STAT) 20 = true ∧ s.frame t reported ([CLK.RESULT, HDR.QUIESCED] ++ reportedFields)) ∧
  (∀ (s : State) (r : Requester), s.regsOk → s.commands r clkPage → s.flag CLK.BUSY = true →
    ∃ t, exec (.clkDivCommit r) s = .next t ∧ bit (t.rd clkPage HDR.ERR_STAT) 20 = true ∧ s.frame t reported ([HDR.QUIESCED] ++ reportedFields)) ∧
  (∀ (s : State), s.regsOk → s.pending = [] → s.flag CLK.BUSY = true → s.get HRV.STATE ≠ hrvHarvesting → s.tier.writes = [] → s.tier.drains = [] →
    s.twn.cipher = [] → s.cmn.cipher = [] → s.flm.cipher = [] → s.cmn.rxWait = [] →
    ∃ t, step s = .next t ∧ t.get CLK.CLK_DIV_NOW = s.divShadow % 2 ^ 32 ∧ t.get CLK.BUSY = 0 ∧ t.get CLK.RESULT = 1 ∧
      s.frame t [.regs, .timeNs, .slew] [CLK.CLK_DIV_NOW, CLK.BUSY, CLK.RESULT, FLC.RATE_NOW]) ∧
  (∀ (s : State) (r : Requester) (k : Fin 4) (v : BitVec 32), s.regsOk → s.admits r clkPage → s.takes clkPage → s.flag CLK.EN 0 k.val = false →
    ∃ t, exec (.ckoutCfgWrite r k v) s = .next t ∧ t.get CLK.EN 0 k.val = bits v.toNat 15 1 ∧ t.get CLK.FMT 0 k.val = bits v.toNat 10 2 ∧ t.get CLK.LEVEL 0 k.val = bits v.toNat 8 2 ∧
      t.get CLK.SRC 0 k.val = bits v.toNat 0 3 ∧ t.bitOf CLK.CKOUT_ON k.val = (v.getLsbD 15 && !s.bitOf CLK.CKOUT_FAULT k.val && !s.ckoutGated) ∧
      (∀ j : Fin 4, j ≠ k → t.get CLK.EN 0 j.val = s.get CLK.EN 0 j.val ∧ t.get CLK.FMT 0 j.val = s.get CLK.FMT 0 j.val) ∧
      s.frame t [.regs, .out] [CLK.EN, CLK.FMT, CLK.LEVEL, CLK.SRC, CLK.CKOUT_ON, HDR.QUIESCED]) ∧
  (∀ (s : State) (r : Requester) (k : Fin 4) (v : BitVec 32), s.regsOk → s.admits r clkPage → s.takes clkPage → s.flag CLK.EN 0 k.val = true →
    ¬ (s.get CLK.FMT 0 k.val = bits v.toNat 10 2 ∧ s.get CLK.LEVEL 0 k.val = bits v.toNat 8 2 ∧ s.get CLK.SRC 0 k.val = bits v.toNat 0 3) →
    ∃ t, exec (.ckoutCfgWrite r k v) s = .next t ∧ t.get CLK.EN 0 k.val = bits v.toNat 15 1 ∧ bit (t.rd clkPage HDR.ERR_STAT) 2 = true ∧
      t.bitOf CLK.CKOUT_ON k.val = (v.getLsbD 15 && !s.bitOf CLK.CKOUT_FAULT k.val && !s.ckoutGated) ∧ s.frame t reported ([CLK.EN, CLK.CKOUT_ON, HDR.QUIESCED] ++ reportedFields)) ∧
  (∀ (s : State) (r : Requester) (m : BitVec 4), s.regsOk → s.commands r clkPage → m ≠ 0 →
    ∃ t, exec (.ckoutFaultClear r m) s = .next t ∧ (∀ k : Fin 4, t.bitOf CLK.CKOUT_FAULT k.val = (s.bitOf CLK.CKOUT_FAULT k.val && !m.getLsbD k.val) ∧
        t.bitOf CLK.CKOUT_ON k.val = (s.flag CLK.EN 0 k.val && !t.bitOf CLK.CKOUT_FAULT k.val && !s.ckoutGated)) ∧
      s.frame t [.regs, .out] [CLK.CKOUT_FAULT, CLK.CKOUT_ON, HDR.QUIESCED]) ∧
  (∀ (s : State) (r : Requester) (v : BitVec 64), s.regsOk → s.commands r clkPage →
    ∃ t, exec (.timeSet r v) s = .next t ∧ t.timeNs = (if v.toNat < s.timeNs then s.timeNs else v.toNat) ∧ t.slew = (if v.toNat < s.timeNs then s.slew else 0) ∧
      s.frame t [.regs, .timeNs, .slew] [HDR.QUIESCED])

/-- Power domains: A mode that Table 17-3 permits is taken, another is refused with REFUSE 5 and an error, IDLE_TIME being taken (0 as 1) either way. A domain reported idle, or whose cores wait, starts to leave ON for its MODE, or is refused with the reason of R546. The end of the entry puts it in the state of its MODE, or wakes it where a wake has been latched. When it is ON again its stalled accesses go on, a pan slice that was reset is invalidating, and a channel that was in self-refresh trains again. One that fails to come up is FAILED; its stalled accesses complete as refused ones do; a cluster's failure restarts the clusters. PWR_DOM_RESET resets the domains it names, ending a commit that one of their pages takes part in, or refuses one with the reason; domains 0 and 1 never are reset. -/
def Obligations.PowerDomains : Prop :=
  (∀ (s : State) (r : Requester) (n : Dom) (v : BitVec 32), s.regsOk → s.admits r pwrPage → s.takes pwrPage → domPermits n.val (bits v.toNat 0 2) = true →
    ∃ t, exec (.domainModeWrite r n v) s = .next t ∧ t.get PWR.MODE 0 n.val = bits v.toNat 0 2 ∧ t.get PWR.IDLE_TIME 0 n.val = max 1 (bits v.toNat 16 16) ∧
      (∀ m : Dom, m ≠ n → t.get PWR.MODE 0 m.val = s.get PWR.MODE 0 m.val) ∧ s.frame t [.regs] [PWR.MODE, PWR.IDLE_TIME, HDR.QUIESCED]) ∧
  (∀ (s : State) (r : Requester) (n : Dom) (v : BitVec 32), s.regsOk → s.admits r pwrPage → s.takes pwrPage → domPermits n.val (bits v.toNat 0 2) = false →
    ∃ t, exec (.domainModeWrite r n v) s = .next t ∧ t.get PWR.REFUSE 0 n.val = refuseState ∧ t.get PWR.IDLE_TIME 0 n.val = max 1 (bits v.toNat 16 16) ∧
      bit (t.rd pwrPage HDR.ERR_STAT) 16 = true ∧ s.frame t reported ([PWR.IDLE_TIME, PWR.REFUSE, HDR.QUIESCED] ++ reportedFields)) ∧
  (∀ (s : State) (n : Dom), s.regsOk → 8 ≤ n.val → (∀ p ∈ domPages n.val, s.busy p = false) → s.domainOn n.val = true → s.get PWR.MODE 0 n.val ≠ modeOn → s.frozen = false →
    s.refusal' n.val (s.get PWR.MODE 0 n.val = modeOff) = none →
    ∃ t, exec (.domainIdleEntry n) s = .next t ∧ t.get PWR.STATE 0 n.val = domEntering ∧ (∀ m : Dom, m ≠ n → t.get PWR.STATE 0 m.val = s.get PWR.STATE 0 m.val) ∧
      (42 ≤ n.val → n.val < 54 → s.dmcServes (n.val - 42) = true → t.get DMC.STATE (n.val - 42) = dmcSelfRefresh) ∧ s.frame t [.regs, .tier, .dmc] [PWR.STATE, DMC.STATE]) ∧
  (∀ (s : State) (n : Dom) (c : Nat), s.regsOk → 8 ≤ n.val → (∀ p ∈ domPages n.val, s.busy p = false) → s.domainOn n.val = true → s.get PWR.MODE 0 n.val ≠ modeOn → s.frozen = false →
    s.refusal' n.val (s.get PWR.MODE 0 n.val = modeOff) = some c →
    ∃ t, exec (.domainIdleEntry n) s = .next t ∧ t.domainOn n.val = true ∧ t.get PWR.REFUSE 0 n.val = c ∧ bit (t.rd pwrPage HDR.ERR_STAT) 16 = true ∧
      s.frame t reported (PWR.REFUSE :: reportedFields)) ∧
  (∀ (s : State), s.regsOk → s.domainOn 1 = true → s.get PWR.MODE 0 1 ≠ modeOn → s.frozen = false →
    ∃ t, exec (.waitForEvent .warden) s = .next t ∧ t.get PWR.STATE 0 1 = domEntering ∧ s.frame t [.regs] [PWR.STATE]) ∧
  (∀ (s : State) (k : Cluster), s.regsOk → s.domainOn (2 + k.val) = true → s.get PWR.MODE 0 (2 + k.val) ≠ modeOn → s.frozen = false →
    ∃ t, exec (.waitForEvent (.cluster k)) s = .next t ∧ t.get PWR.STATE 0 (2 + k.val) = domEntering ∧ s.frame t [.regs] [PWR.STATE]) ∧
  (∀ (s : State) (n : Dom), s.regsOk → s.get PWR.STATE 0 n.val = domEntering → s.bitOf PWR.PWR_WAKE_LATCH n.val = false →
    ∃ t, exec (.domainEntryEnd n) s = .next t ∧
      t.get PWR.STATE 0 n.val = (if s.get PWR.MODE 0 n.val = modeOff then domOff else if s.get PWR.MODE 0 n.val = modeRet then domRet else domOn) ∧ s.frame t [.regs] [PWR.STATE]) ∧
  (∀ (s : State) (n : Dom), s.regsOk → s.get PWR.STATE 0 n.val = domEntering → s.bitOf PWR.PWR_WAKE_LATCH n.val = true → s.pwr.shed.contains n.val = false →
    (s.get PWR.MODE 0 n.val = modeRet ∨ s.get PWR.MODE 0 n.val = modeOff) →
    ∃ t, exec (.domainEntryEnd n) s = .next t ∧ t.get PWR.STATE 0 n.val = domWaking ∧ (s.get PWR.MODE 0 n.val = modeOff → n.val ∈ t.pwr.fromOff) ∧ s.frame t [.regs, .pwr] [PWR.STATE]) ∧
  (∀ (s : State) (n : Dom), s.regsOk → s.get PWR.STATE 0 n.val = domWaking → s.pwr.fromOff.contains n.val = false → (∀ x ∈ s.pwr.latched, x.1 ≠ n.val) → s.ctl.stalled = [] →
    (n.val < 26 ∨ 54 ≤ n.val ∨ (s.tier.reads = [] ∧ s.tier.held = [] ∧ s.qe.cmds = [] ∧ s.mov.holds = [])) → (∀ c : Chan, n.val = 42 + c.val → s.get DMC.STATE c.val ≠ dmcSelfRefresh) →
    ∃ t, exec (.domainOn n) s = .next t ∧ t.domainOn n.val = true ∧ t.bitOf PWR.PWR_WAKE_LATCH n.val = false ∧ t.get PWR.WAKE_CNT 0 n.val = satAdd 16 (s.get PWR.WAKE_CNT 0 n.val) 1 ∧
      s.frame t [.regs] [PWR.STATE, PWR.WAKE_CNT, PWR.PWR_WAKE_LATCH]) ∧
  (∀ (s : State) (n : Dom) (x : Stalled) (p : Page), s.regsOk → s.get PWR.STATE 0 n.val = domWaking → s.pwr.fromOff.contains n.val = false → (∀ y ∈ s.pwr.latched, y.1 ≠ n.val) →
    s.ctl.stalled = [x] → x.write = false → pageFor x.req x.off.toNat = some p → Page.dom p = n.val → s.reaches x.req = true → s.mayRead x.req p = true → legalAccess x.off.toNat x.size = true →
    (n.val < 26 ∨ 54 ≤ n.val ∨ (s.tier.reads = [] ∧ s.tier.held = [] ∧ s.qe.cmds = [] ∧ s.mov.holds = [])) → (∀ c : Chan, n.val = 42 + c.val → s.get DMC.STATE c.val ≠ dmcSelfRefresh) →
    ∃ t v, exec (.domainOn n) s = .next t ∧ t.domainOn n.val = true ∧ t.ctl = { s.ctl with stalled := [] } ∧ t.out = s.out ++ [.ctlRead x.req x.off.toNat v] ∧
      s.frame t [.regs, .ctl, .out] [PWR.STATE, PWR.WAKE_CNT, PWR.PWR_WAKE_LATCH]) ∧
  (∀ (s : State) (k : Slice), s.regsOk → s.get PWR.STATE 0 (26 + k.val) = domResetting → s.ctl.stalled = [] →
    ∃ t, exec (.domainOn ⟨26 + k.val, by omega⟩) s = .next t ∧ t.domainOn (26 + k.val) = true ∧ t.get PAN.STATE k.val = panInvalidating ∧
      s.keptBut t [.regs, .ctl, .evf, .recd, .hp, .qe, .mov, .tier, .cmn, .pwr, .dmc, .seq, .cip, .out, .free]) ∧
  (∀ (s : State) (n : Dom), s.regsOk → (n.val < 2 ∨ 8 ≤ n.val) → (s.get PWR.STATE 0 n.val = domWaking ∨ s.get PWR.STATE 0 n.val = domResetting) → s.ctl.stalled = [] → s.mirroring = false →
    ∃ t, exec (.domainWakeFail n) s = .next t ∧ t.get PWR.STATE 0 n.val = domFailed ∧ t.get PWR.WAKE_FAIL_CNT = satAdd 32 (s.get PWR.WAKE_FAIL_CNT) 1 ∧ bit (t.rd pwrPage HDR.ERR_STAT) 17 = true ∧
      s.frame t reported (PWR.WAKE_FAIL_CNT :: reportedFields)) ∧
  (∀ (s : State) (n : Dom) (x : Stalled) (p : Page), s.regsOk → 8 ≤ n.val → (s.get PWR.STATE 0 n.val = domWaking ∨ s.get PWR.STATE 0 n.val = domResetting) → s.mirroring = false →
    s.ctl.stalled = [x] → x.write = false → pageFor x.req x.off.toNat = some p → Page.dom p = n.val →
    ∃ t, exec (.domainWakeFail n) s = .next t ∧ t.get PWR.STATE 0 n.val = domFailed ∧ t.ctl = { s.ctl with stalled := [] } ∧ t.out.getLast? = some (.ctlRead x.req x.off.toNat 0) ∧
      bit (t.rd p HDR.ERR_STAT) 0 = true ∧ s.frame t (.ctl :: reported) (PWR.WAKE_FAIL_CNT :: reportedFields)) ∧
  (∀ (s : State) (k : Cluster), s.regsOk → (s.get PWR.STATE 0 (2 + k.val) = domWaking ∨ s.get PWR.STATE 0 (2 + k.val) = domResetting) → s.ctl.stalled = [] → s.wdn.svcOff = false →
    (s.wdn.restarts.filter fun t => s.timeNs < t + 3600000000000).length < 3 →
    ∃ t, exec (.domainWakeFail ⟨2 + k.val, by omega⟩) s = .next t ∧ (∀ j : Cluster, t.domainOn (2 + j.val) = true) ∧
      t.wdn.restarts = (s.wdn.restarts.filter fun t => s.timeNs < t + 3600000000000) ++ [s.timeNs] ∧ bit (t.rd pwrPage HDR.ERR_STAT) 17 = true ∧ t.mem = s.mem ∧ t.xlt = s.xlt) ∧
  (∀ (s : State) (r : Requester) (m : BitVec 64), s.regsOk → s.commands r pwrPage → m ≠ 0 → (∀ n : Dom, 2 ≤ n.val → m.getLsbD n.val = true → s.refusal' n.val true = none) → (∀ x ∈ s.ctl.parts, m.getLsbD (Page.dom x.page) = false ∨ Page.dom x.page < 2) →
    ∃ t, exec (.pwrDomReset r m) s = .next t ∧ (∀ n : Dom, t.get PWR.STATE 0 n.val = if m.getLsbD n.val = true ∧ 2 ≤ n.val then domResetting else s.get PWR.STATE 0 n.val) ∧
      s.frame t [.regs] [PWR.STATE, HDR.QUIESCED]) ∧
  (∀ (s : State) (r : Requester) (n : Dom) (c : Nat), s.regsOk → s.commands r pwrPage → 2 ≤ n.val → s.refusal' n.val true = some c →
    ∃ t, exec (.pwrDomReset r (BitVec.ofNat 64 (2 ^ n.val))) s = .next t ∧ t.get PWR.REFUSE 0 n.val = c ∧ bit (t.rd pwrPage HDR.ERR_STAT) 18 = true ∧
      (s.domainOn n.val = true → t.domainOn n.val = true) ∧ s.frame t reported ([PWR.REFUSE, HDR.QUIESCED] ++ reportedFields)) ∧
  (∀ (s : State) (r : Requester) (n : Dom) (x : Participant), s.regsOk → s.commands r pwrPage → 2 ≤ n.val → s.refusal' n.val true = none → x ∈ s.ctl.parts → Page.dom x.page = n.val →
    ∃ t, exec (.pwrDomReset r (BitVec.ofNat 64 (2 ^ n.val))) s = .next t ∧ t.get PWR.STATE 0 n.val = domResetting ∧ t.ctl.parts = [] ∧ t.ctl.shadow = [] ∧ t.get TOP.STAGE_GSTAT = 0 ∧
      (∀ p ∈ allPages, t.rd p HDR.ARM = 0) ∧ s.frame t ([.ctl] ++ reported) ([HDR.ARM, HDR.STAGE_STAT, HDR.QUIESCED, TOP.STAGE_GSTAT] ++ reportedFields)) ∧
  (∀ (s : State) (c : Chan) (n : Dom), s.regsOk → n.val = 42 + c.val → s.get PWR.STATE 0 n.val = domWaking → s.pwr.fromOff.contains n.val = false → (∀ x ∈ s.pwr.latched, x.1 ≠ n.val) → s.ctl.stalled = [] →
    s.tier.reads = [] → s.tier.held = [] → s.qe.cmds = [] → s.mov.holds = [] → s.get DMC.STATE c.val = dmcSelfRefresh → s.get DMC.RANKS c.val ≠ 0 → topoOk (s.dmcTopo c.val) = true → s.unstaged (dmcPage c.val) →
    ∃ t, exec (.domainOn n) s = .next t ∧ t.domainOn n.val = true ∧ t.get DMC.STATE c.val = dmcTraining ∧ tget t.dmc.training c.val = some { restored := true, retried := false } ∧
      s.keptBut t [.regs, .dmc])

/-- Rail supervision: Every scan counts, and shows the lower bank voltage. A GOOD rail whose second scan in a row lies beyond a fault limit is marked in RAIL_FAULT, recorded and released, and FAULT_N is driven. A ramp that ends its time makes an unsupervised rail GOOD, fails a supervised appliance rail (the power-up is undone), and fails a device rail (device rails are released). A rail off in time is off; one that stays above 10 % of WARN_LO is an error. A fault of the partner, on the shared line, releases the shared rails; the line high again, the end of the 10 ms and FAULT_CLR release it. A readback fault is an error and faults its rail, the device, or lets FAULT_N go. A second measurement above FAULT_C faults the rails of TEMP_SHUT. A step-load test ends with a result, or fails; the second failure in a row lowers the tide mark to zero. PWRFAIL_N falling ends it. -/
def Obligations.RailSupervision : Prop :=
  (∀ (s : State) (c0 c1 : List Nat) (r0 r1 : Bool) (dev : List (Nat × Nat)) (pf : Bool), s.regsOk → s.seq.por = true →
    ∃ t, exec (.adcScan c0 c1 r0 r1 dev pf) s = .next t ∧ t.get SEQ.SCAN_CNT = (s.get SEQ.SCAN_CNT + 1) % 2 ^ 32) ∧
  (∀ (s : State) (c0 c1 : List Nat) (dev : List (Nat × Nat)) (pf : Bool), s.regsOk → s.seq.por = true → s.seq.pwrgood = false → s.railsCalm → (∀ n, n < 40 → s.railPhase n = .off) →
    rowVEn (s.row 40) = false → s.get HRV.STATE ≠ hrvHarvesting →
    ∃ t, exec (.adcScan c0 c1 true true dev pf) s = .next t ∧ t.get SEQ.SCAN_CNT = (s.get SEQ.SCAN_CNT + 1) % 2 ^ 32 ∧ t.seq.pfHigh = pf ∧
      t.get HRV.BANK_V_MV = (min (lowest (s.readings ⟨c0, c1, dev⟩ 64)).toNat (lowest (s.readings ⟨c0, c1, dev⟩ 65)).toNat) % 2 ^ 32 ∧ (∀ n, n < 40 → t.railPhase n = .off) ∧
      s.frame t [.regs, .seq, .free] [SEQ.SCAN_CNT, HRV.BANK_V_MV, SEQ.KEEP_POWER_MW]) ∧
  (∀ (s : State) (c0 c1 : List Nat) (dev : List (Nat × Nat)) (pf : Bool) (n : Fin 32) (v : Int × Int × Int), s.regsOk → s.seq.por = true → s.seq.pwrgood = false → s.railsCalm →
    (∀ m, m < 40 → m ≠ n.val → s.railPhase m = .off) → s.railPhase n.val = .good → (s.rail n.val).badF = 1 → s.rowReading ⟨c0, c1, dev⟩ n.val = some v →
    s.beyond (rowFaultLo (s.row n.val)) (rowFaultHi (s.row n.val)) (rowOcFault (s.row n.val)) v = true → rowVEn (s.row 40) = false → s.get HRV.STATE ≠ hrvHarvesting →
    ∃ t, exec (.adcScan c0 c1 true true dev pf) s = .next t ∧ t.bitOf SEQ.RAIL_FAULT n.val = true ∧ bit (t.rd seqPage HDR.ERR_STAT) 18 = true ∧ t.railPhase n.val = .releasing ∧
      t.bitOf SEQ.RAIL_ON n.val = false ∧ t.bitOf SEQ.RAIL_GOOD n.val = false ∧ t.get SEQ.FAULT_N_DRV = 1 ∧
      s.frame t (.seq :: reported) ([SEQ.SCAN_CNT, HRV.BANK_V_MV, SEQ.KEEP_POWER_MW] ++ railFields)) ∧
  (∀ (s : State) (n : Fin 32), s.regsOk → s.railPhase n.val = .ramping → rowVEn (s.row n.val) = false →
    ∃ t, exec (.rampTimeout ⟨n.val, by omega⟩) s = .next t ∧ t.railPhase n.val = .good ∧ t.bitOf SEQ.RAIL_GOOD n.val = true ∧
      s.frame t [.regs, .seq, .out] [SEQ.RAIL_GOOD, SEQ.RAIL_ON, SEQ.STATE]) ∧
  (∀ (s : State) (n : Fin 32), s.regsOk → s.railPhase n.val = .ramping → rowVEn (s.row n.val) = true →
    ∃ t, exec (.rampTimeout ⟨n.val, by omega⟩) s = .next t ∧ t.bitOf SEQ.RAIL_FAULT n.val = true ∧ bit (t.rd seqPage HDR.ERR_STAT) 17 = true ∧ t.get SEQ.FAULT_N_DRV = 1 ∧
      t.get SEQ.STATE = seqDeviceOn ∧ t.seq.up = false ∧ t.seq.undo = true ∧
      ((∀ m, m < 32 → s.railPhase m = .off ∨ bit (rowDep (s.row m)) n.val = false) → t.railPhase n.val = .releasing) ∧ s.frame t (.seq :: reported) railFields) ∧
  (∀ (s : State) (k : Fin 8), s.regsOk → s.railPhase (32 + k.val) = .ramping →
    ∃ t, exec (.rampTimeout ⟨32 + k.val, by omega⟩) s = .next t ∧ (∀ j : Fin 8, t.railPhase (32 + j.val) = .off ∨ t.railPhase (32 + j.val) = .releasing) ∧ t.seq.devUp = none ∧
      t.seq.devFails = s.seq.devFails + 1 ∧ t.seq.bootRail = some k.val ∧ s.frame t [.regs, .seq, .out] [SEQ.DEV_GOOD]) ∧
  (∀ (s : State) (n : Fin 40), s.regsOk → s.railPhase n.val = .releasing → s.railsCalm →
    ∃ t, exec (.railOffTimeout n) s = .next t ∧ t.railPhase n.val = .off ∧ s.keptBut t [.seq]) ∧
  (∀ (s : State) (n : Fin 40), s.regsOk → s.railPhase n.val = .releasing → n.val < 32 → s.seq.down = true → s.seq.up = false → s.seq.pwrgood = true →
    (∀ m, m < 32 → m ≠ n.val → s.railPhase m = .off) → s.railPhase 37 = .good →
    ∃ t, exec (.railOffTimeout n) s = .next t ∧ t.seq.pwrgood = false ∧ t.get SEQ.STATE = seqPoweringDown ∧ t.railPhase 37 = .releasing ∧ t.seq.devDown = some 1 ∧
      .pin "PWRGOOD" 0 (some false) ∈ t.out ∧ t.wdn.boot = 0 ∧ t.unit = s.unit) ∧
  (∀ (s : State) (n : Fin 40), s.regsOk → (s.rail n.val).high = true → (s.railPhase n.val = .releasing ∨ s.railPhase n.val = .off) → s.railsCalm →
    ∃ t, exec (.stuckOnTimeout n) s = .next t ∧ bit (t.rd seqPage HDR.ERR_STAT) 23 = true ∧ t.railPhase n.val = .off ∧ s.frame t (.seq :: reported) reportedFields) ∧
  (∀ (s : State), s.regsOk → s.flag SEQ.FAULT_N_DRV = false → s.railsCalm →
    ∃ t, exec .peerFault s = .next t ∧ t.get SEQ.FAULT_N_IN = 0 ∧ bit (t.rd seqPage HDR.ERR_STAT) 19 = true ∧
      (∀ n, n < 32 → rowShared (s.row n) = true → t.railPhase n = .off ∨ t.railPhase n = .releasing) ∧ (∀ n, n < 40 → rowShared (s.row n) = false → t.rail n = s.rail n) ∧
      s.frame t (.seq :: reported) railFields) ∧
  (∀ (s : State), s.regsOk → s.flag SEQ.FAULT_N_DRV = false →
    ∃ t, exec .faultNHigh s = .next t ∧ t.get SEQ.FAULT_N_IN = 1 ∧ s.frame t [.regs, .seq, .out] [SEQ.FAULT_N_IN, SEQ.RAIL_ON, SEQ.STATE]) ∧
  (∀ (s : State), s.seq.faultClr = false → exec .faultNHoldExpiry s = .next { s with seq := { s.seq with faultHold := false } }) ∧
  (∀ (s : State), s.regsOk → s.seq.faultClr = true → s.flag SEQ.FAULT_N_DRV = true →
    ∃ t, exec .faultNHoldExpiry s = .next t ∧ t.get SEQ.FAULT_N_DRV = 0 ∧ t.get SEQ.FAULT_N_IN = 1 ∧ t.seq.faultHold = false ∧ t.seq.faultClr = false ∧ .pin "FAULT_N" 0 none ∈ t.out ∧
      s.frame t [.regs, .seq, .out] [SEQ.FAULT_N_DRV, SEQ.FAULT_N_IN, SEQ.RAIL_ON, SEQ.STATE]) ∧
  (∀ (s : State) (n : Fin 32), s.regsOk → s.railsCalm → s.get HRV.STATE ≠ hrvHarvesting →
    ∃ t, exec (.enableReadbackFault (.railEn n)) s = .next t ∧ t.bitOf SEQ.RAIL_FAULT n.val = true ∧ bit (t.rd seqPage HDR.ERR_STAT) 21 = true ∧ t.get SEQ.FAULT_N_DRV = 1 ∧
      (t.railPhase n.val = .off ∨ t.railPhase n.val = .releasing) ∧ t.out.getLast? = some (.pin "RAIL_EN" n.val none) ∧ s.frame t (.seq :: reported) railFields) ∧
  (∀ (s : State) (k : Fin 8), s.regsOk → s.seq.down = false →
    ∃ t, exec (.enableReadbackFault (.devEn k)) s = .next t ∧ t.seq.pwrgood = false ∧ t.get SEQ.STATE = seqOff ∧ t.seq.bootRail = some k.val ∧ t.get SEQ.FAULT_N_DRV = 1 ∧
      (∀ n, n < 40 → t.railPhase n = .off ∨ t.railPhase n = .releasing) ∧ t.wdn.boot = 0 ∧ t.out.getLast? = some (.pin "DEV_EN" k.val none) ∧ t.unit = s.unit ∧ t.pending = s.pending) ∧
  (∀ (s : State), s.regsOk → s.flag SEQ.FAULT_N_DRV = true → s.seq.up = false →
    ∃ t, exec (.enableReadbackFault .faultN) s = .next t ∧ bit (t.rd seqPage HDR.ERR_STAT) 21 = true ∧ t.get SEQ.FAULT_N_DRV = 0 ∧ t.get SEQ.FAULT_N_IN = 1 ∧
      t.out.getLast? = some (.pin "FAULT_N" 0 none) ∧ s.frame t (.seq :: reported) railFields) ∧
  (∀ (s : State) (values : List Int) (k : Fin 16) (v : Int), s.regsOk → s.seq.por = true → values[k.val]? = some v →
    ∃ t, exec (.tempMeasure values) s = .next t ∧ tget t.seq.temps k.val = some v ∧
      s.frame t ([.flm, .seq, .hrv] ++ reported) ([FTL.RESERVE_LUNS, FTL.RESERVE_READY_MIB, SEQ.DEV_GOOD] ++ railFields)) ∧
  (∀ (s : State) (v : Int) (r : TempRun), s.regsOk → s.seq.por = true → (tget s.seq.tempRuns 0).getD tempIdle = r → r.fault = false → 1 ≤ r.faultUp → 8 * ((s.tempSet 0).1 : Int) < v →
    ∃ t, exec (.tempMeasure [v]) s = .next t ∧ bit (t.rd seqPage HDR.ERR_STAT) 22 = true ∧ (∀ n, n < 32 → bit (s.tempSet 0).2.2 n = true → t.bitOf SEQ.RAIL_FAULT n = true ∧
      (t.railPhase n = .off ∨ t.railPhase n = .releasing))) ∧
  (∀ (s : State) (c e : BitVec 32) (fall resid : Nat), s.regsOk → s.flag SEQ.STEP_ACTIVE = true → 20 ≤ fall → resid ≤ 5 → s.get HRV.BANK_ESR_UOHM < 2 ^ 32 →
    ∃ t, exec (.steptestDone c e fall resid) s = .next t ∧ t.get SEQ.STEP_ACTIVE = 0 ∧ t.get SEQ.STEP_CNT = satAdd 32 (s.get SEQ.STEP_CNT) 1 ∧ t.get SEQ.LAST_C_MF = c.toNat ∧
      t.get SEQ.LAST_ESR_UOHM = e.toNat ∧ t.hrv = { s.hrv with stepValid := true, stepFails := 0 } ∧
      t.get HRV.BANK_C_MF = (if s.get HRV.BANK_C_MF = 0 ∧ s.get HRV.BANK_ESR_UOHM = 0 then c.toNat else min c.toNat (s.get HRV.BANK_C_MF * 105 / 100)) ∧
      t.get HRV.BANK_ESR_UOHM = (if s.get HRV.BANK_C_MF = 0 ∧ s.get HRV.BANK_ESR_UOHM = 0 then e.toNat else max e.toNat ((s.get HRV.BANK_ESR_UOHM * 95 + 99) / 100)) ∧
      s.frame t [.regs, .hrv, .out] [SEQ.STEP_ACTIVE, SEQ.STEP_CNT, SEQ.LAST_C_MF, SEQ.LAST_ESR_UOHM, HRV.BANK_C_MF, HRV.BANK_ESR_UOHM]) ∧
  (∀ (s : State) (c e : BitVec 32) (fall resid : Nat), s.regsOk → s.flag SEQ.STEP_ACTIVE = true → (fall < 20 ∨ 5 < resid) → s.hrv.stepFails = 1 →
    ∃ t, exec (.steptestDone c e fall resid) s = .next t ∧ t.get SEQ.STEP_ACTIVE = 0 ∧ t.get SEQ.STEP_FAIL_CNT = satAdd 32 (s.get SEQ.STEP_FAIL_CNT) 1 ∧
      t.hrv = { s.hrv with stepFails := 2, stepValid := false } ∧ t.get HRV.HRV_TIDE_NOW = 0 ∧ t.get HRV.BIND = bindZero ∧ bit (t.rd hrvPage HDR.ERR_STAT) 16 = true ∧
      s.frame t (.hrv :: reported) ([SEQ.STEP_ACTIVE, SEQ.STEP_CNT, SEQ.STEP_FAIL_CNT, HRV.HRV_TIDE_NOW, HRV.BIND] ++ reportedFields)) ∧
  (∀ (s : State), s.regsOk →
    ∃ t, exec .pwrfailNFall s = .next t ∧ t.seq = { s.seq with pfHigh := false } ∧ t.flag SEQ.STEP_ACTIVE = false ∧
      (s.flag SEQ.STEP_ACTIVE = true → t.out = s.out ++ [.pin "STEP_EN" 0 (some false), .pin "CHG_INH" 0 (some false)]) ∧ s.frame t [.regs, .seq, .out] [SEQ.STEP_ACTIVE])

/-- Rail commands: POWER_UP with PWRGOOD high and no power-down under way starts every rail whose conditions are met; POWER_DOWN releases every rail on which no other depends, the rest following. FAULT_CLR lets FAULT_N go, at the earliest after its 10 ms. Bits written to RAIL_FAULT clear. RAIL_DATA changes a word of a row of the shadow. TABLE_COMMIT refuses the shadow with the first failing row and its code, or puts it in force. -/
def Obligations.RailCommands : Prop :=
  (∀ (s : State) (r : Requester), s.regsOk → s.commands r seqPage → s.seq.pwrgood = true → s.seq.down = false →
    ∃ t, exec (.powerUp r) s = .next t ∧ t.seq.up = true ∧ t.get SEQ.STATE = (if s.validRails.all (fun n => s.railPhase n == .good) = true then seqOn else seqPoweringUp) ∧
      (∀ n, n < 32 → s.railReady n = true → t.railPhase n = .ramping ∧ t.bitOf SEQ.RAIL_ON n = true) ∧ (∀ n, n < 40 → (n < 32 → s.railReady n = false) → t.rail n = s.rail n) ∧
      s.frame t [.regs, .seq, .out] [SEQ.STATE, SEQ.RAIL_ON, HDR.QUIESCED]) ∧
  (∀ (s : State) (r : Requester), s.regsOk → s.commands r seqPage → (s.seq.pwrgood = false ∨ s.seq.down = true) →
    ∃ t, exec (.powerUp r) s = .next t ∧ s.frame t [.regs] [HDR.QUIESCED]) ∧
  (∀ (s : State) (r : Requester), s.regsOk → s.commands r seqPage → s.seq.pwrgood = true → (∃ n, n < 32 ∧ s.railPhase n ≠ .off) →
    ∃ t, exec (.powerDown r) s = .next t ∧ t.get SEQ.STATE = seqPoweringDown ∧ t.seq.down = true ∧ t.seq.up = false ∧ t.seq.undo = false ∧
      (∀ n, n < 32 → (s.railPhase n = .ramping ∨ s.railPhase n = .good) → (∀ m, m < 32 → s.railPhase m = .off ∨ bit (rowDep (s.row m)) n = false) →
        t.railPhase n = .releasing ∧ t.bitOf SEQ.RAIL_ON n = false) ∧ s.frame t [.regs, .seq, .out] [SEQ.STATE, SEQ.RAIL_ON, SEQ.RAIL_GOOD, HDR.QUIESCED]) ∧
  (∀ (s : State) (r : Requester), s.regsOk → s.commands r seqPage → s.seq.faultHold = true →
    ∃ t, exec (.faultClr r) s = .next t ∧ t.seq = { s.seq with faultClr := true } ∧ s.frame t [.regs, .seq] [HDR.QUIESCED]) ∧
  (∀ (s : State) (r : Requester), s.regsOk → s.commands r seqPage → s.seq.faultHold = false → s.flag SEQ.FAULT_N_DRV = true →
    ∃ t, exec (.faultClr r) s = .next t ∧ t.get SEQ.FAULT_N_DRV = 0 ∧ t.get SEQ.FAULT_N_IN = 1 ∧ .pin "FAULT_N" 0 none ∈ t.out ∧
      s.frame t [.regs, .seq, .out] [SEQ.FAULT_N_DRV, SEQ.FAULT_N_IN, SEQ.RAIL_ON, SEQ.STATE, HDR.QUIESCED]) ∧
  (∀ (s : State) (r : Requester) (m : BitVec 32), s.regsOk → s.commands r seqPage → m ≠ 0 →
    ∃ t, exec (.railFaultClear r m) s = .next t ∧ (∀ n, n < 32 → t.bitOf SEQ.RAIL_FAULT n = (s.bitOf SEQ.RAIL_FAULT n && !m.getLsbD n)) ∧
      s.frame t [.regs, .seq, .out] [SEQ.RAIL_FAULT, SEQ.RAIL_ON, SEQ.STATE, HDR.QUIESCED]) ∧
  (∀ (s : State) (r : Requester) (w : Fin 8) (v : BitVec 32), s.regsOk → s.governs r seqPage → s.get SEQ.RAIL_IDX < 41 →
    ∃ t, exec (.railDataWrite r w v) s = .next t ∧ t.shadowRow (s.get SEQ.RAIL_IDX) = (s.shadowRow (s.get SEQ.RAIL_IDX)).set w.val (v.toNat &&& rowMask w.val) ∧
      (∀ m, m ≠ s.get SEQ.RAIL_IDX → t.shadowRow m = s.shadowRow m) ∧ t.seq.rows = s.seq.rows ∧ s.frame t [.regs, .seq] [HDR.QUIESCED]) ∧
  (∀ (s : State) (r : Requester) (w : Fin 8) (v : BitVec 32), s.regsOk → s.governs r seqPage → 41 ≤ s.get SEQ.RAIL_IDX →
    ∃ t, exec (.railDataWrite r w v) s = .next t ∧ s.frame t [.regs] [HDR.QUIESCED]) ∧
  (∀ (s : State) (r : Requester) (n c : Nat), s.regsOk → s.commands r seqPage → n < 41 → (∀ m, m < n → s.rowCode m = none) → s.rowCode n = some c →
    ∃ t, exec (.tableCommit r) s = .next t ∧ t.get SEQ.TABLE_RESULT = 2 ∧ t.get SEQ.ERR_ROW = n ∧ t.get SEQ.ERR_CODE = c ∧ bit (t.rd seqPage HDR.ERR_STAT) 16 = true ∧ t.seq = s.seq ∧
      s.frame t reported ([SEQ.TABLE_RESULT, SEQ.ERR_ROW, SEQ.ERR_CODE, HDR.QUIESCED] ++ reportedFields)) ∧
  (∀ (s : State) (r : Requester), s.regsOk → s.commands r seqPage → Rising s.seq.shadow → (∀ n, n < 41 → s.rowCode n = none) →
    ∃ t, exec (.tableCommit r) s = .next t ∧ t.get SEQ.TABLE_RESULT = 1 ∧ t.seq.shadow = [] ∧ (∀ n, n < 41 → (n < 32 ∨ n = 40) → t.row n = s.shadowRow n) ∧
      s.frame t [.regs, .seq] [SEQ.TABLE_RESULT, HDR.QUIESCED])

/-- The settings store: STORE with both banks OK and a token captures the live fields as the image and writes the other bank, BUSY meanwhile; with no token it waits; during a STORE a command is an error. Its end makes the bank written the one in use, or marks it not OK. A token arrives up to STORE_BURST and starts a waiting STORE. RELOAD fails without a valid bank; else the image is that bank's and non-stageable fields of blocks at rest take its values, the others keep theirs. SLOT_WRITE puts the bytes at SLOT_ADDR into a slot that may hold them; SLOT_ERASE empties a slot; the reserved slots 0 and 1, unlisted ones and excess lengths are refused. -/
def Obligations.SettingsStore : Prop :=
  (∀ (s : State) (r : Requester), s.regsOk → s.commands r nvsPage → s.get NVS.BUSY = 0 → s.get NVS.BANK_OK = 3 → 0 < s.get NVS.TOKENS →
    ∃ t, exec (.store r) s = .next t ∧ t.get NVS.BUSY = 1 ∧ t.get NVS.PENDING = 0 ∧ t.get NVS.TOKENS = (s.get NVS.TOKENS - 1) % 32 ∧
      t.nvs = { s.nvs with image := s.capture, storing := some s.capture } ∧ s.frame t [.regs, .nvs] [NVS.TOKENS, NVS.BUSY, NVS.PENDING, HDR.QUIESCED]) ∧
  (∀ (s : State) (r : Requester), s.regsOk → s.commands r nvsPage → s.get NVS.BUSY = 0 → s.get NVS.BANK_OK = 3 → s.get NVS.TOKENS = 0 →
    ∃ t, exec (.store r) s = .next t ∧ t.get NVS.PENDING = 1 ∧ s.frame t [.regs] [NVS.PENDING, HDR.QUIESCED]) ∧
  (∀ (s : State) (r : Requester), s.regsOk → s.commands r nvsPage → s.flag NVS.BUSY = true →
    ∃ t, exec (.store r) s = .next t ∧ bit (t.rd nvsPage HDR.ERR_STAT) 16 = true ∧ s.frame t reported (HDR.QUIESCED :: reportedFields)) ∧
  (∀ (s : State) (x : Settings), s.regsOk → s.nvs.storing = some x → s.get NVS.BANK_IN_USE = 0 →
    ∃ t, exec (.storeDone true) s = .next t ∧ t.get NVS.BUSY = 0 ∧ t.get NVS.RESULT = nvsDone ∧ t.get NVS.BANK_IN_USE = 1 ∧ t.get NVS.SEQ_IN_USE = (s.get NVS.SEQ_IN_USE + 1) % 2 ^ 32 ∧
      t.bitOf NVS.BANK_OK 0 = true ∧ t.nvs = { s.nvs with storing := none, bankB := some { seq := (s.get NVS.SEQ_IN_USE + 1) % 2 ^ 32, image := x } } ∧
      s.frame t (.nvs :: reported) ([NVS.BUSY, NVS.STORES_B, NVS.BANK_OK, NVS.BANK_IN_USE, NVS.SEQ_IN_USE, NVS.RESULT] ++ reportedFields)) ∧
  (∀ (s : State) (x : Settings), s.regsOk → s.nvs.storing = some x → s.get NVS.BANK_IN_USE = 1 →
    ∃ t, exec (.storeDone true) s = .next t ∧ t.get NVS.BUSY = 0 ∧ t.get NVS.RESULT = nvsDone ∧ t.get NVS.BANK_IN_USE = 0 ∧ t.get NVS.SEQ_IN_USE = (s.get NVS.SEQ_IN_USE + 1) % 2 ^ 32 ∧
      t.bitOf NVS.BANK_OK 1 = true ∧ t.nvs = { s.nvs with storing := none, bankA := some { seq := (s.get NVS.SEQ_IN_USE + 1) % 2 ^ 32, image := x } } ∧
      s.frame t (.nvs :: reported) ([NVS.BUSY, NVS.STORES_A, NVS.BANK_OK, NVS.BANK_IN_USE, NVS.SEQ_IN_USE, NVS.RESULT] ++ reportedFields)) ∧
  (∀ (s : State) (x : Settings), s.regsOk → s.nvs.storing = some x → s.get NVS.BANK_IN_USE ≤ 1 →
    ∃ t, exec (.storeDone false) s = .next t ∧ t.get NVS.BUSY = 0 ∧ t.get NVS.RESULT = nvsFailed ∧ t.get NVS.BANK_IN_USE = s.get NVS.BANK_IN_USE ∧ t.bitOf NVS.BANK_OK (s.get NVS.BANK_IN_USE) = false ∧
      t.nvs.storing = none ∧ (s.get NVS.BANK_IN_USE = 0 → t.nvs.bankA = s.nvs.bankA ∧ t.nvs.bankB = none) ∧ (s.get NVS.BANK_IN_USE = 1 → t.nvs.bankB = s.nvs.bankB ∧ t.nvs.bankA = none) ∧
      s.frame t (.nvs :: reported) ([NVS.BUSY, NVS.STORES_A, NVS.STORES_B, NVS.BANK_OK, NVS.RESULT] ++ reportedFields)) ∧
  (∀ (s : State), s.regsOk → s.flag NVS.PENDING = false →
    ∃ t, exec .tokenRefill s = .next t ∧ t.get NVS.TOKENS = (min (s.get NVS.STORE_BURST) (s.get NVS.TOKENS + 1)) % 32 ∧ s.frame t [.regs] [NVS.TOKENS]) ∧
  (∀ (s : State), s.regsOk → s.flag NVS.PENDING = true → s.get NVS.BUSY = 0 → s.get NVS.BANK_OK = 3 → 0 < s.get NVS.STORE_BURST → s.get NVS.STORE_BURST < 32 →
    ∃ t, exec .tokenRefill s = .next t ∧ t.get NVS.BUSY = 1 ∧ t.get NVS.PENDING = 0 ∧ t.get NVS.TOKENS = min (s.get NVS.STORE_BURST) (s.get NVS.TOKENS + 1) - 1 ∧
      t.nvs = { s.nvs with image := s.capture, storing := some s.capture } ∧ s.frame t [.regs, .nvs] [NVS.TOKENS, NVS.BUSY, NVS.PENDING]) ∧
  (∀ (s : State) (r : Requester), s.regsOk → s.commands r nvsPage → s.get NVS.BUSY = 0 → (if s.get NVS.BANK_IN_USE = 0 then s.nvs.bankA else s.nvs.bankB) = none →
    ∃ t, exec (.reload r) s = .next t ∧ t.get NVS.RESULT = nvsFailed ∧ s.frame t [.regs] [NVS.RESULT, HDR.QUIESCED]) ∧
  (∀ (s : State) (r : Requester) (x : Bank), s.regsOk → s.commands r nvsPage → s.get NVS.BUSY = 0 → (if s.get NVS.BANK_IN_USE = 0 then s.nvs.bankA else s.nvs.bankB) = some x →
    ∃ t, exec (.reload r) s = .next t ∧ t.get NVS.RESULT = nvsDone ∧ t.nvs = { s.nvs with image := x.image } ∧
      t.get CLK.LOCK_N = (if s.quiesced clkPage = true then ((tget x.image.rwp (CLK.LOCK_N.key clkPage 0)).getD 1024) % 2 ^ 16 else s.get CLK.LOCK_N) ∧
      (s.quiesced seqPage = true → t.seq.rows = x.image.rows) ∧ (s.quiesced seqPage = false → t.seq = s.seq) ∧ s.keptBut t [.regs, .mov, .seq, .nvs]) ∧
  (∀ (s : State) (r : Requester) (m : Nat), s.regsOk → s.commands r nvsPage → s.get NVS.BUSY = 0 → 2 ≤ s.get NVS.SLOT_ID → slotLimit (s.get NVS.SLOT_ID) = some m → s.get NVS.SLOT_LEN ≤ m →
    fixedSlots + ({ s.nvs.image with raw := tdel s.nvs.image.raw (s.get NVS.SLOT_ID) } : Settings).used + s.get NVS.SLOT_LEN ≤ 2040 * 1024 →
    ∃ t, exec (.slotWrite r) s = .next t ∧ t.get NVS.RESULT = nvsDone ∧
      t.nvs = { s.nvs with image := { s.nvs.image with raw := tset s.nvs.image.raw (s.get NVS.SLOT_ID) (s.memRead (s.get NVS.SLOT_ADDR) (s.get NVS.SLOT_LEN)) } } ∧
      s.frame t [.regs, .nvs] [NVS.RESULT, HDR.QUIESCED]) ∧
  (∀ (s : State) (r : Requester), s.regsOk → s.commands r nvsPage → s.get NVS.BUSY = 0 →
    (s.get NVS.SLOT_ID ≤ 1 ∨ slotLimit (s.get NVS.SLOT_ID) = none ∨ (∃ m, slotLimit (s.get NVS.SLOT_ID) = some m ∧ m < s.get NVS.SLOT_LEN)) →
    ∃ t, exec (.slotWrite r) s = .next t ∧ t.get NVS.RESULT = nvsRefused ∧ s.frame t [.regs] [NVS.RESULT, HDR.QUIESCED]) ∧
  (∀ (s : State) (r : Requester), s.regsOk → s.commands r nvsPage → s.get NVS.BUSY = 0 → 2 ≤ s.get NVS.SLOT_ID → (slotLimit (s.get NVS.SLOT_ID)).isSome = true →
    ∃ t, exec (.slotErase r) s = .next t ∧ t.get NVS.RESULT = nvsDone ∧ t.nvs.image.raw = tdel s.nvs.image.raw (s.get NVS.SLOT_ID) ∧ t.nvs.image.rwp = s.nvs.image.rwp ∧
      t.nvs.image.dev = (if s.get NVS.SLOT_ID = 7 then none else s.nvs.image.dev) ∧ t.nvs.image.pairId = (if s.get NVS.SLOT_ID = 6 then none else s.nvs.image.pairId) ∧
      t.nvs.image.keys = (if s.get NVS.SLOT_ID = 5 then [] else s.nvs.image.keys) ∧ t.nvs.image.marks = (if s.get NVS.SLOT_ID = 4 then [] else s.nvs.image.marks) ∧
      t.nvs.bankA = s.nvs.bankA ∧ t.nvs.bankB = s.nvs.bankB ∧ s.frame t [.regs, .nvs] [NVS.RESULT, HDR.QUIESCED]) ∧
  (∀ (s : State) (r : Requester), s.regsOk → s.commands r nvsPage → s.get NVS.BUSY = 0 → (s.get NVS.SLOT_ID ≤ 1 ∨ slotLimit (s.get NVS.SLOT_ID) = none) →
    ∃ t, exec (.slotErase r) s = .next t ∧ t.get NVS.RESULT = nvsRefused ∧ s.frame t [.regs] [NVS.RESULT, HDR.QUIESCED])

/-- MCTP control and PLDM monitoring: Set Endpoint ID takes an EID other than the null and the broadcast one for its binding alone, which Get Endpoint ID then answers. UUID and version numbers are answered with free values, where the spec gives none. Message types, the vendor ID, TID, PLDM types and commands, sensor records, readings and states, and events are answered from the state; unknown types, handles and sensors with the error code (the numbers of the codes, and which IDs are reserved, are the model's: log entry 37). A message of another type is dropped. -/
def Obligations.MctpAndPldm : Prop :=
  (∀ (s : State) (b c : Binding) (e : BitVec 8), s.regsOk → s.binds b → s.binds c → e ≠ 0 → e ≠ 255 →
    ∃ t u v, exec (.setEndpointId b e) s = .next t ∧ t.out = s.out ++ [.mctp (Binding.code b) "SET_ENDPOINT_ID" pldmOk [e.toNat]] ∧ s.frame t [.regs, .out] [MGT.EIDS] ∧
      exec (.getEndpointId c) t = .next u ∧ t.answers u c "GET_ENDPOINT_ID" pldmOk [v] [] ∧ v = if c = b then e.toNat else bits (s.get MGT.EIDS) (Binding.eidAt c) 8) ∧
  (∀ (s : State) (b : Binding) (e : BitVec 8), s.binds b → (e = 0 ∨ e = 255) →
    ∃ t, exec (.setEndpointId b e) s = .next t ∧ s.answers t b "SET_ENDPOINT_ID" pldmInvalidData [bits (s.get MGT.EIDS) (Binding.eidAt b) 8] []) ∧
  (∀ (s : State) (b : Binding), s.binds b →
    ∃ t u x y v, exec (.getEndpointId b) s = .next t ∧ s.answers t b "GET_ENDPOINT_ID" pldmOk [bits (s.get MGT.EIDS) (Binding.eidAt b) 8] [] ∧
    exec (.getEndpointUuid b) s = .next u ∧ s.answers u b "GET_ENDPOINT_UUID" pldmOk [v] [.free] ∧
    exec (.getMessageTypeSupport b) s = .next x ∧ s.answers x b "GET_MESSAGE_TYPE_SUPPORT" pldmOk [0x00, 0x01, 0x07, 0x08, 0x7E] [] ∧
    exec (.getVendorDefinedMessageSupport b) s = .next y ∧ s.answers y b "GET_VENDOR_DEFINED_MESSAGE_SUPPORT" pldmOk [0x1F3C] []) ∧
  (∀ (s : State) (b : Binding) (k : BitVec 8), s.binds b → (k.toNat = 0xFF ∨ k.toNat ∈ mctpTypes) →
    ∃ t v, exec (.getMctpVersionSupport b k) s = .next t ∧ s.answers t b "GET_MCTP_VERSION_SUPPORT" pldmOk [v] [.free]) ∧
  (∀ (s : State) (b : Binding) (k : BitVec 8), s.binds b → k.toNat ≠ 0xFF → k.toNat ∉ mctpTypes →
    ∃ t, exec (.getMctpVersionSupport b k) s = .next t ∧ s.answers t b "GET_MCTP_VERSION_SUPPORT" 0x80 [] []) ∧
  (∀ (s : State) (b : Binding) (k : BitVec 8), exec (.mctpMessageDrop b k) s = .next s) ∧
  (∀ (s : State) (b : Binding), s.binds b → s.svcUp = true → ∃ t, exec (.getTid b) s = .next t ∧ s.answers t b "GET_TID" pldmOk [s.mgt.tid] []) ∧
  (∀ (s : State) (b : Binding) (n : BitVec 8), s.binds b → s.svcUp = true → n ≠ 0 → n ≠ 255 →
    ∃ t u, exec (.setTid b n) s = .next t ∧ s.answers t b "SET_TID" pldmOk [] [.mgt] ∧ t.mgt = { s.mgt with tid := n.toNat } ∧
      exec (.getTid b) t = .next u ∧ t.answers u b "GET_TID" pldmOk [n.toNat] []) ∧
  (∀ (s : State) (b : Binding) (n : BitVec 8), s.binds b → s.svcUp = true → (n = 0 ∨ n = 255) →
    ∃ t, exec (.setTid b n) s = .next t ∧ s.answers t b "SET_TID" pldmInvalidData [] []) ∧
  (∀ (s : State) (b : Binding) (k : BitVec 8), s.binds b → s.svcUp = true → k.toNat ∈ pldmTypes →
    ∃ t u v, exec (.getPldmVersion b k) s = .next t ∧ s.answers t b "GET_PLDM_VERSION" pldmOk [v] [.free] ∧
      exec (.getPldmCommands b k) s = .next u ∧ s.answers u b "GET_PLDM_COMMANDS" pldmOk [if k.toNat = 0 then 5 else if k.toNat = 2 then 6 else 9] []) ∧
  (∀ (s : State) (b : Binding) (k : BitVec 8), s.binds b → s.svcUp = true → k.toNat ∉ pldmTypes →
    ∃ t u, exec (.getPldmVersion b k) s = .next t ∧ s.answers t b "GET_PLDM_VERSION" 0x83 [] [] ∧ exec (.getPldmCommands b k) s = .next u ∧ s.answers u b "GET_PLDM_COMMANDS" 0x83 [] []) ∧
  (∀ (s : State) (b : Binding) (k c : BitVec 8), s.binds b → s.svcUp = true →
    ∃ t u v w, exec (.getPldmTypes b) s = .next t ∧ s.answers t b "GET_PLDM_TYPES" pldmOk [0, 2, 5] [] ∧
      exec (.pldmUnsupported b k c) s = .next u ∧ s.answers u b "PLDM_UNSUPPORTED" pldmUnsupported [k.toNat, c.toNat] [] ∧
      exec (.getPdrRepositoryInfo b) s = .next v ∧ s.answers v b "GET_PDR_REPOSITORY_INFO" pldmOk [s.voltSensors.length + s.curSensors.length + 23] [] ∧
      exec (.pollForPlatformEventMessage b) s = .next w ∧ s.answers w b "POLL_FOR_PLATFORM_EVENT_MESSAGE" pldmOk [0] []) ∧
  (∀ (s : State) (b : Binding) (on : Bool) (e : BitVec 8), s.binds b → s.svcUp = true →
    ∃ t, exec (.setEventReceiver b on e) s = .next t ∧ s.answers t b "SET_EVENT_RECEIVER" pldmOk [] [.mgt] ∧
      t.mgt = { s.mgt with receiver := if on then some (Binding.code b, e.toNat) else none }) ∧
  (∀ (s : State) (b : Binding) (h : BitVec 32) (k : Nat), s.binds b → s.svcUp = true → s.pdrs[max 1 h.toNat - 1]? = some k →
    ∃ t, exec (.getPdr b h) s = .next t ∧
      s.answers t b "GET_PDR" pldmOk ([if max 1 h.toNat < s.pdrs.length then max 1 h.toNat + 1 else 0, k] ++ (s.thresholds k).map (ofSigned 32)) []) ∧
  (∀ (s : State) (b : Binding) (h : BitVec 32), s.binds b → s.svcUp = true → s.pdrs.length ≤ max 1 h.toNat - 1 →
    ∃ t, exec (.getPdr b h) s = .next t ∧ s.answers t b "GET_PDR" 0x82 [] []) ∧
  (∀ (s : State) (b : Binding) (k : BitVec 16), s.binds b → s.svcUp = true → k.toNat ∈ s.numericSensors → k.toNat ≠ 0x0310 →
    ∃ t, exec (.getSensorReading b k) s = .next t ∧ s.answers t b "GET_SENSOR_READING" pldmOk [ofSigned 32 (s.numeric k.toNat)] []) ∧
  (∀ (s : State) (b : Binding), s.binds b → s.svcUp = true →
    ∃ t v, exec (.getSensorReading b 0x0310) s = .next t ∧ s.answers t b "GET_SENSOR_READING" pldmOk [v] [.free]) ∧
  (∀ (s : State) (b : Binding) (k : BitVec 16), s.binds b → s.svcUp = true → k.toNat ∉ s.numericSensors →
    ∃ t, exec (.getSensorReading b k) s = .next t ∧ s.answers t b "GET_SENSOR_READING" pldmBadSensor [] []) ∧
  (∀ (s : State) (b : Binding), s.binds b → s.svcUp = true →
    ∃ t u v, exec (.getStateSensorReadings b 0x0500) s = .next t ∧ s.answers t b "GET_STATE_SENSOR_READINGS" pldmOk [s.get TWN.STATE] [] ∧
      exec (.getStateSensorReadings b 0x0501) s = .next u ∧ s.answers u b "GET_STATE_SENSOR_READINGS" pldmOk [s.flmState] [] ∧
      exec (.getStateSensorReadings b 0x0502) s = .next v ∧ s.answers v b "GET_STATE_SENSOR_READINGS" pldmOk [s.get HRV.STATE] []) ∧
  (∀ (s : State) (b : Binding) (k : BitVec 16), s.binds b → s.svcUp = true → k.toNat ∉ stateSensors →
    ∃ t, exec (.getStateSensorReadings b k) s = .next t ∧ s.answers t b "GET_STATE_SENSOR_READINGS" pldmBadSensor [] [])

/-- Firmware update: RequestUpdate begins an update where none runs and is refused where one does. PassComponentTable, UpdateComponent, ActivateFirmware, CancelUpdateComponent and CancelUpdate are refused outside a PLDM update. UpdateComponent of component 1 or 2 starts its transfer; CancelUpdateComponent drops it; CancelUpdate ends the update. ActivateFirmware of a complete warden image marks the standby slot TRIAL and ends the update. FW_TRANSFER puts a chunk in the standby slot of its type; while a PLDM update runs it is ABORTED. FW_ACTIVATE is as ActivateFirmware. -/
def Obligations.FirmwareUpdate : Prop :=
  (∀ (s : State) (b : Binding), s.binds b → s.svcUp = true → s.mgt.update = none →
    ∃ t, exec (.requestUpdate b) s = .next t ∧ s.answers t b "REQUEST_UPDATE" pldmOk [] [.mgt] ∧
      t.mgt = { s.mgt with update := some { pldm := true, typ := 0, size := 0, got := [], complete := false } }) ∧
  (∀ (s : State) (b : Binding) (u : Update), s.binds b → s.svcUp = true → s.mgt.update = some u →
    ∃ t, exec (.requestUpdate b) s = .next t ∧ s.answers t b "REQUEST_UPDATE" pldmInUpdate [] []) ∧
  (∀ (s : State) (b : Binding) (k : BitVec 16) (n : Nat), s.binds b → s.svcUp = true → (∀ u, s.mgt.update = some u → u.pldm = false) →
    ∃ t u v w x, exec (.passComponentTable b k) s = .next t ∧ s.answers t b "PASS_COMPONENT_TABLE" pldmNotInUpdate [] [] ∧
      exec (.updateComponent b k n) s = .next u ∧ s.answers u b "UPDATE_COMPONENT" pldmNotInUpdate [] [] ∧
      exec (.activateFirmware b) s = .next v ∧ s.answers v b "ACTIVATE_FIRMWARE" pldmNotInUpdate [] [] ∧
      exec (.cancelUpdateComponent b) s = .next w ∧ s.answers w b "CANCEL_UPDATE_COMPONENT" pldmNotInUpdate [] [] ∧
      exec (.cancelUpdate b) s = .next x ∧ s.answers x b "CANCEL_UPDATE" pldmNotInUpdate [] []) ∧
  (∀ (s : State) (b : Binding) (k : BitVec 16) (u : Update), s.binds b → s.svcUp = true → s.mgt.update = some u → u.pldm = true →
    ∃ t v w, exec (.passComponentTable b k) s = .next t ∧ s.answers t b "PASS_COMPONENT_TABLE" pldmOk [if k.toNat = 1 ∨ k.toNat = 2 then 1 else 0] [] ∧
      exec (.cancelUpdateComponent b) s = .next v ∧ s.answers v b "CANCEL_UPDATE_COMPONENT" pldmOk [] [.mgt] ∧
      v.mgt = { s.mgt with update := some { u with typ := 0, size := 0, got := [], complete := false } } ∧
      exec (.cancelUpdate b) s = .next w ∧ s.answers w b "CANCEL_UPDATE" pldmOk [] [.mgt] ∧ w.mgt = { s.mgt with update := none }) ∧
  (∀ (s : State) (b : Binding) (k : BitVec 16) (n : Nat) (u : Update), s.binds b → s.svcUp = true → s.mgt.update = some u → u.pldm = true → u.typ = 0 → (k.toNat = 1 ∨ k.toNat = 2) → 0 < n →
    ∃ t, exec (.updateComponent b k n) s = .next t ∧ t.mgt = { s.mgt with update := some { u with typ := k.toNat, size := n, got := [], complete := false } } ∧
      t.out = s.out ++ [.mctp (Binding.code b) "UPDATE_COMPONENT" pldmOk [1], .mctp (Binding.code b) "REQUEST_FIRMWARE_DATA" pldmOk [0]] ∧ s.keptBut t [.mgt, .out]) ∧
  (∀ (s : State) (b : Binding) (k : BitVec 16) (n : Nat) (u : Update), s.binds b → s.svcUp = true → s.mgt.update = some u → u.pldm = true →
    (u.typ ≠ 0 ∨ (k.toNat ≠ 1 ∧ k.toNat ≠ 2) ∨ n = 0) → ∃ t, exec (.updateComponent b k n) s = .next t ∧ s.answers t b "UPDATE_COMPONENT" pldmInvalidData [0] []) ∧
  (∀ (s : State) (b : Binding) (u : Update), s.binds b → s.svcUp = true → s.mgt.update = some u → u.pldm = true → u.complete = false →
    ∃ t, exec (.activateFirmware b) s = .next t ∧ s.answers t b "ACTIVATE_FIRMWARE" pldmInvalidData [] []) ∧
  (∀ (s : State) (b : Binding) (u : Update), s.regsOk → s.binds b → s.svcUp = true → s.mgt.update = some u → u.pldm = true → u.complete = true → u.typ = imgWarden →
    s.slotMark imgWarden (s.standby imgWarden) = .valid →
    ∃ t, exec (.activateFirmware b) s = .next t ∧ t.mgt = { s.mgt with update := none } ∧ t.slotMark imgWarden (s.standby imgWarden) = .trial ∧
      t.out.getLast? = some (.mctp (Binding.code b) "ACTIVATE_FIRMWARE" pldmOk [1]) ∧ s.frame t ([.nvs, .mgt] ++ reported) ([NVS.BUSY, NVS.PENDING, NVS.RESULT, NVS.TOKENS] ++ reportedFields)) ∧
  (∀ (s : State) (b : Binding), s.binds b → s.svcUp = true →
    ∃ t u v, exec (.queryDeviceIdentifiers b) s = .next t ∧ s.answers t b "QUERY_DEVICE_IDENTIFIERS" pldmOk [0x1F3C] [] ∧
      exec (.getFirmwareParameters b) s = .next u ∧ s.answers u b "GET_FIRMWARE_PARAMETERS" pldmOk
        [1, imgVer (s.slotImage 1 (s.activeSlot 1)), imgVer (s.slotImage 1 (s.standby 1)), 2, imgVer (s.slotImage 2 (s.activeSlot 2)), imgVer (s.slotImage 2 (s.standby 2))] [] ∧
      exec (.pldmGetStatus b) s = .next v ∧ (∀ x, s.mgt.update = some x → s.answers v b "PLDM_GET_STATUS" pldmOk [1, b2n x.complete, x.bytes] []) ∧
      (s.mgt.update = none → s.answers v b "PLDM_GET_STATUS" pldmOk [0, 0, 0] [])) ∧
  (∀ (s : State) (t : TaraiviHdr) (k : BitVec 8) (off : Nat) (chunk : List (BitVec 8)), s.regsOk → s.accepts t roleOperator → s.mgt.update = none → (k.toNat = 1 ∨ k.toNat = 2) →
    ∃ u, exec (.fwTransfer t k off chunk false) s = .next u ∧ u.answered t 0x12 .ok ∧ u.slotImage k.toNat (s.standby k.toNat) = padTo off [] ++ chunk ∧
      u.slotMark k.toNat (s.standby k.toNat) = .empty ∧ u.mgt = { s.mgt with update := some { pldm := false, typ := k.toNat, size := 0, got := [(off, chunk.length)], complete := false } } ∧
      s.keptBut u [.nvs, .wdn, .mgt, .out]) ∧
  (∀ (s : State) (t : TaraiviHdr) (k : BitVec 8) (off : Nat) (chunk : List (BitVec 8)) (last : Bool) (x : Update), s.regsOk → s.accepts t roleOperator → s.mgt.update = some x → x.pldm = true →
    ∃ u, exec (.fwTransfer t k off chunk last) s = .next u ∧ u.answered t 0x12 .aborted ∧ s.keptBut u [.wdn, .out]) ∧
  (∀ (s : State) (t : TaraiviHdr), s.regsOk → s.accepts t roleOperator → s.slotMark imgWarden (s.standby imgWarden) = .valid →
    ∃ u, exec (.fwActivate t 1) s = .next u ∧ u.answered t 0x13 .ok ∧ u.mgt = { s.mgt with update := none } ∧ u.slotMark imgWarden (s.standby imgWarden) = .trial ∧
      s.frame u ([.nvs, .wdn, .mgt] ++ reported) ([NVS.BUSY, NVS.PENDING, NVS.RESULT, NVS.TOKENS] ++ reportedFields)) ∧
  (∀ (s : State) (t : TaraiviHdr), s.regsOk → s.accepts t roleOperator → s.slotMark imgWarden (s.standby imgWarden) ≠ .valid →
    ∃ u, exec (.fwActivate t 1) s = .next u ∧ u.answered t 0x13 .aborted ∧ s.keptBut u [.wdn, .out])

/-- Taraivi requests: IDENTIFY is answered under any role. A request with a bad tag, another boot or a COUNTER not above the last only counts in AUTH_REJECT; one under another role than Table 19-7 gives it is answered ACCESS_VIOLATION and recorded. Accepted, its COUNTER is taken: GET_STATUS, GET_TELEMETRY, READ_RECORDS and GET_CONFIG are answered from the state and change nothing; SET_CONFIG writes as the warden; PAIR_CTL, POWER_CTL and STORE_CTL do what the register they stand for does. An offset of no RWP field is ACCESS_VIOLATION. -/
def Obligations.TaraiviRequests : Prop :=
  (∀ (s : State) (t : TaraiviHdr), s.wardenUp = true →
    ∃ u v, exec (.identify t) s = .next u ∧ u.out = s.out ++ [.taraivi t.role.toNat 0x81 (TaraiviHdr.ctr t) 0 v] ∧ v.head? = some s.wdn.bootCnt ∧ s.keptBut u [.out]) ∧
  (∀ (s : State) (t : TaraiviHdr) (c : Instr), s.regsOk → s.wardenUp = true →
    (t.tagOk = false ∨ t.boot.toNat ≠ s.wdn.bootCnt % 2 ^ 32 ∨ (∃ n, tget s.wdn.counters t.role.toNat = some n ∧ t.count.toNat ≤ n)) →
    ((∃ n, c = .attest t n) ∨ c = .getStatus t ∨ (∃ l, c = .getTelemetry t l) ∨ (∃ q n, c = .readRecords t q n) ∨ (∃ l, c = .getConfig t l) ∨ (∃ l b, c = .setConfig t l b) ∨
      (∃ k, c = .clearRecords t k) ∨ (∃ k o l b, c = .fwTransfer t k o l b) ∨ (∃ k, c = .fwActivate t k) ∨ (∃ o, c = .pairCtl t o) ∨ (∃ o, c = .powerCtl t o) ∨ (∃ b, c = .storeCtl t b) ∨
      (∃ w, c = .keyDeliver t w) ∨ (∃ o, c = .connCtl t o) ∨ (∃ o, c = .tenantCtl t o)) →
    ∃ u, exec c s = .next u ∧ u.get MGT.AUTH_REJECT = satAdd 32 (s.get MGT.AUTH_REJECT) 1 ∧ s.frame u [.regs] [MGT.AUTH_REJECT]) ∧
  (∀ (s : State) (t : TaraiviHdr) (c : Instr) (typ role : Nat), s.regsOk → s.accepts t t.role.toNat → t.role.toNat ≠ role →
    ((c = .getStatus t ∧ typ = 0x03 ∧ role = roleObserver) ∨ (∃ l, c = .getTelemetry t l ∧ typ = 0x04 ∧ role = roleObserver) ∨ (∃ q n, c = .readRecords t q n ∧ typ = 0x05 ∧ role = roleObserver) ∨
      (∃ l, c = .getConfig t l ∧ typ = 0x06 ∧ role = roleObserver) ∨ (∃ l b, c = .setConfig t l b ∧ typ = 0x10 ∧ role = roleOperator) ∨
      (∃ o, c = .pairCtl t o ∧ typ = 0x14 ∧ role = roleOperator) ∨ (∃ o, c = .powerCtl t o ∧ typ = 0x15 ∧ role = roleOperator) ∨ (∃ b, c = .storeCtl t b ∧ typ = 0x16 ∧ role = roleOperator)) →
    ∃ u, exec c s = .next u ∧ u.answered t typ .accessViolation ∧ s.frame u (.wdn :: reported) reportedFields) ∧
  (∀ (s : State) (t : TaraiviHdr), s.accepts t roleObserver → s.svcUp = true →
    ∃ u v, exec (.getStatus t) s = .next u ∧ u.answered t 0x03 .ok ∧ u.out = s.out ++ [.taraivi 0 0x83 (TaraiviHdr.ctr t) 0 v] ∧ v.length = 14 ∧
      v.take 9 = [s.get TWN.STATE, s.get TWN.IN_SYNC, s.get TWN.SERVE, s.get TWN.BUNDLES, s.get HRV.STATE, s.get HRV.CAUSE, s.get HRV.HARVEST_SEQ, s.flmState, s.ftlGet FTL.SPARE_LEFT_PCT] ∧
      v[9]? = some s.timeNs ∧ s.keptBut u [.wdn, .out]) ∧
  (∀ (s : State) (t : TaraiviHdr) (l : List (BitVec 16)), s.accepts t roleObserver → s.svcUp = true → 0x0310 ∉ l →
    ∃ u, exec (.getTelemetry t l) s = .next u ∧ u.answered t 0x04 .ok ∧ u.out = s.out ++ [.taraivi 0 0x84 (TaraiviHdr.ctr t) 0
      (l.map (fun k => (s.sensor k.toNat).getD 0xFFFF_FFFF) ++ [s.get REC.HEAD_SEQ, s.get REC.OVW_CNT, s.get REC.LOST_CNT, s.get MGT.ALARM_SENT])] ∧ s.keptBut u [.wdn, .out]) ∧
  (∀ (s : State) (t : TaraiviHdr) (q : BitVec 32) (n : Nat), s.accepts t roleObserver → s.svcUp = true →
    ∃ u v, exec (.readRecords t q n) s = .next u ∧ u.answered t 0x05 .ok ∧ u.out = s.out ++ [.taraivi 0 0x85 (TaraiviHdr.ctr t) 0 v] ∧ v.length ≤ 15 ∧ v.length ≤ n ∧
      (∀ x ∈ v, ∃ r ∈ s.allRecords, x = ofLe r.pack) ∧ s.keptBut u [.wdn, .out]) ∧
  (∀ (s : State) (t : TaraiviHdr) (o : BitVec 32) (p : Page) (n : Nat), s.accepts t roleObserver → s.svcUp = true → rwpAt o.toNat = some (p, n) →
    ∃ u, exec (.getConfig t [o]) s = .next u ∧ u.answered t 0x06 .ok ∧ u.out = s.out ++ [.taraivi 0 0x86 (TaraiviHdr.ctr t) 0 [s.readPage p (o.toNat % 4096) n]] ∧ s.keptBut u [.wdn, .out]) ∧
  (∀ (s : State) (t : TaraiviHdr) (l : List (BitVec 32)), s.accepts t roleObserver → s.svcUp = true → (∃ o ∈ l, rwpAt o.toNat = none) →
    ∃ u, exec (.getConfig t l) s = .next u ∧ u.answered t 0x06 .accessViolation ∧ s.keptBut u [.wdn, .out]) ∧
  (∀ (s : State) (t : TaraiviHdr) (o : BitVec 32) (d : BitVec 64) (p : Page) (n : Nat), s.regsOk → s.accepts t roleOperator → rwpAt o.toNat = some (p, n) →
    ∃ u v, exec (.setConfig t [(o, d)] false) s = .next u ∧ exec (.controlWrite .warden o n d) (s.counted t) = .next v ∧
      u = { v with out := v.out ++ [.taraivi 1 0x90 (TaraiviHdr.ctr t) 0 []] }) ∧
  (∀ (s : State) (t : TaraiviHdr) (l : List (BitVec 32 × BitVec 64)) (b : Bool), s.accepts t roleOperator → (∃ w ∈ l, rwpAt w.1.toNat = none) →
    ∃ u, exec (.setConfig t l b) s = .next u ∧ u.answered t 0x10 .accessViolation ∧ s.keptBut u [.wdn, .out]) ∧
  (∀ (s : State) (t : TaraiviHdr), s.regsOk → s.accepts t roleOperator →
    ∃ u, exec (.pairCtl t .aloneOk) s = .next u ∧ u.answered t 0x14 .ok ∧ u.get TWN.ALONE_OK = 1 ∧ s.frame u [.regs, .wdn, .out] [TWN.ALONE_OK]) ∧
  (∀ (s : State) (t : TaraiviHdr), s.regsOk → s.accepts t roleOperator → s.solo = true → s.get HRV.STATE = hrvIncomplete →
    ∃ u, exec (.pairCtl t .acceptLoss) s = .next u ∧ u.answered t 0x14 .ok ∧ u.get HRV.STATE = hrvNormal ∧ u.hp.memoryActive = true ∧ s.frame u (.wdn :: reported) (HRV.STATE :: reportedFields)) ∧
  (∀ (s : State) (t : TaraiviHdr) (o : PairOp), s.regsOk → s.accepts t roleOperator →
    ∃ u, exec (.pairCtl t o) s = .next u ∧ u.answered t 0x14 .ok ∧ s.frame u ([.twn, .wdn] ++ reported) ([HRV.STATE, TWN.ALONE_OK] ++ reportedFields)) ∧
  (∀ (s : State) (t : TaraiviHdr), s.regsOk → s.accepts t roleOperator → s.frozen = false →
    ∃ u, exec (.powerCtl t .shutdown) s = .next u ∧ u.answered t 0x15 .ok ∧ u.get HRV.STATE = hrvHarvesting ∧ u.get HRV.CAUSE = 16 ∧ u.get HRV.FIRST_CAUSE = 4 ∧ s.frame u harvestParts harvestFields) ∧
  (∀ (s : State) (t : TaraiviHdr), s.regsOk → s.accepts t roleOperator → s.seq.pwrgood = true → s.seq.down = false →
    ∃ u, exec (.powerCtl t .powerUp) s = .next u ∧ u.answered t 0x15 .ok ∧ u.seq.up = true ∧ (∀ n, n < 32 → s.railReady n = true → u.railPhase n = .ramping) ∧
      s.frame u [.regs, .seq, .wdn, .out] [SEQ.STATE, SEQ.RAIL_ON]) ∧
  (∀ (s : State) (t : TaraiviHdr), s.regsOk → s.accepts t roleOperator → s.seq.pwrgood = true → (∃ n, n < 32 ∧ s.railPhase n ≠ .off) →
    ∃ u, exec (.powerCtl t .powerDown) s = .next u ∧ u.answered t 0x15 .ok ∧ u.seq.down = true ∧ u.get SEQ.STATE = seqPoweringDown ∧
      s.frame u [.regs, .seq, .wdn, .out] [SEQ.STATE, SEQ.RAIL_ON, SEQ.RAIL_GOOD]) ∧
  (∀ (s : State) (t : TaraiviHdr), s.regsOk → s.accepts t roleOperator → s.seq.faultHold = true →
    ∃ u, exec (.powerCtl t .faultClr) s = .next u ∧ u.answered t 0x15 .ok ∧ u.seq = { s.seq with faultClr := true } ∧ s.keptBut u [.seq, .wdn, .out]) ∧
  (∀ (s : State) (t : TaraiviHdr) (m : BitVec 32), s.regsOk → s.accepts t roleOperator →
    ∃ u, exec (.powerCtl t (.railFaultClear m)) s = .next u ∧ u.answered t 0x15 .ok ∧ (∀ n, n < 32 → u.bitOf SEQ.RAIL_FAULT n = (s.bitOf SEQ.RAIL_FAULT n && !m.getLsbD n)) ∧
      s.frame u [.regs, .seq, .wdn, .out] [SEQ.RAIL_FAULT, SEQ.RAIL_ON, SEQ.STATE]) ∧
  (∀ (s : State) (t : TaraiviHdr), s.regsOk → s.accepts t roleOperator → s.get NVS.BUSY = 0 → s.get NVS.BANK_OK = 3 → 0 < s.get NVS.TOKENS →
    ∃ u, exec (.storeCtl t false) s = .next u ∧ u.answered t 0x16 .ok ∧ u.get NVS.BUSY = 1 ∧ u.nvs.storing = some s.capture ∧ s.frame u [.regs, .nvs, .wdn, .out] [NVS.TOKENS, NVS.BUSY, NVS.PENDING]) ∧
  (∀ (s : State) (t : TaraiviHdr), s.regsOk → s.accepts t roleOperator → s.get NVS.BUSY = 0 → (if s.get NVS.BANK_IN_USE = 0 then s.nvs.bankA else s.nvs.bankB) = none →
    ∃ u, exec (.storeCtl t true) s = .next u ∧ u.answered t 0x16 .ok ∧ u.get NVS.RESULT = nvsFailed ∧ s.frame u [.regs, .wdn, .out] [NVS.RESULT]) ∧
  (∀ (s : State) (t : TaraiviHdr) (x : Bank), s.regsOk → s.accepts t roleOperator → s.get NVS.BUSY = 0 → (if s.get NVS.BANK_IN_USE = 0 then s.nvs.bankA else s.nvs.bankB) = some x →
    ∃ u, exec (.storeCtl t true) s = .next u ∧ u.answered t 0x16 .ok ∧ u.get NVS.RESULT = nvsDone ∧ u.nvs.image = x.image ∧ s.keptBut u [.regs, .mov, .seq, .nvs, .wdn, .out])

/-- Power-on, device rails, junction temperature: POR_N rising samples the straps, gives each host port its bifurcation and the management port, and leaves SEQ OFF with every DEV_EN low; falling, it resets every register field and lets every pin go. The device rails start with the first one once power-on may go on, and once more after a first failure. At 100 °C and above the dynamic cap falls by 10 W a degree; at 110 °C a harvest with SHUTDOWN starts; at 120 °C the device rails are released, PWRGOOD falls and THERMTRIP_N is driven. -/
def Obligations.PowerOnAndThermal : Prop :=
  (∀ (s : State) (x : Straps), s.regsOk → s.seq.por = false →
    ∃ t, exec (.porNRise x) s = .next t ∧ t.seq = { s.seq with por := true, strapBif := (List.range 8).map (fun p => bits x.bifurc.toNat (2 * p) 2), strapMgmt := x.mgmt.toNat, strapBoot := x.boot.toNat } ∧
      t.unit = x.unit.val ∧ t.get TWN.UNIT = x.unit.val ∧ t.get SEQ.STATE = seqOff ∧ (∀ p : Port, t.get HP.BIFURC p.val = bits x.bifurc.toNat (2 * p.val) 2 ∧
        t.get HP.MGMT_PF p.val = b2n (mgmtPort ((List.range 8).map fun p => bits x.bifurc.toNat (2 * p) 2) x.mgmt.toNat == p.val)) ∧
      t.out = s.out ++ (List.range 8).map (fun k => .pin "DEV_EN" k (some false)) ∧ s.frame t [.regs, .seq, .unit, .out] [HP.BIFURC, HP.MGMT_PF, TWN.UNIT, SEQ.STATE]) ∧
  (∀ (s : State) (x : Straps), s.seq.por = true → exec (.porNRise x) s = .next s) ∧
  (∀ (s : State), s.regsOk → s.seq.por = true →
    ∃ t, exec .porNFall s = .next t ∧ t.regs = [] ∧ t.seq = { seqInit with bootRail := s.seq.bootRail, bootTrip := s.seq.bootTrip } ∧ t.wdn.boot = 0 ∧ t.wdn.fuses = s.wdn.fuses ∧ t.unit = s.unit ∧
      t.nvs.bankA = s.nvs.bankA ∧ t.nvs.bankB = s.nvs.bankB ∧ t.pending = s.pending ∧ (∀ n, n < 32 → .pin "RAIL_EN" n none ∈ t.out) ∧ (∀ k, k < 8 → .pin "DEV_EN" k none ∈ t.out) ∧
      .pin "FAULT_N" 0 none ∈ t.out) ∧
  (∀ (s : State), s.seq.por = false → exec .porNFall s = .next s) ∧
  (∀ (s : State), s.regsOk → s.seq.por = true → s.seq.pwrgood = false → s.seq.devUp = none → s.seq.devDown = none → s.seq.devFails < 2 → s.seq.pfHigh = true →
    ∃ t, exec .deviceRailsStart s = .next t ∧ t.seq.devUp = some 1 ∧ t.railPhase 32 = .ramping ∧ (∀ n, n ≠ 32 → t.rail n = s.rail n) ∧ t.out = s.out ++ [.pin "DEV_EN" 0 (some true)] ∧
      s.keptBut t [.seq, .out]) ∧
  (∀ (s : State), (s.seq.por = false ∨ s.seq.pwrgood = true ∨ 2 ≤ s.seq.devFails ∨ s.seq.pfHigh = false) → exec .deviceRailsStart s = .next s) ∧
  (∀ (s : State), s.regsOk → s.seq.por = true → s.seq.pwrgood = false → s.seq.devUp = none → s.seq.devDown = none → s.seq.devFails = 1 → s.seq.pfHigh = true →
    ∃ t, exec .deviceRailRetry s = .next t ∧ t.seq.devUp = some 1 ∧ t.railPhase 32 = .ramping ∧ t.out = s.out ++ [.pin "DEV_EN" 0 (some true)] ∧ s.keptBut t [.seq, .out]) ∧
  (∀ (s : State), s.seq.devFails ≠ 1 → exec .deviceRailRetry s = .next s) ∧
  (∀ (s : State) (c : BitVec 8), s.regsOk → 100 ≤ c.toNat →
    ∃ t, exec (.junctionThrottle c) s = .next t ∧ t.seq = { s.seq with powerCap := 420 - 10 * (c.toNat - 100) } ∧ s.frame t (.seq :: reported) reportedFields) ∧
  (∀ (s : State) (c : BitVec 8), c.toNat < 100 → exec (.junctionThrottle c) s = .next { s with seq := { s.seq with powerCap := 420 } }) ∧
  (∀ (s : State), s.regsOk → s.seq.pwrgood = true → s.frozen = false →
    ∃ t, exec .junctionShutdown s = .next t ∧ t.get HRV.STATE = hrvHarvesting ∧ t.get HRV.CAUSE = 16 ∧ t.get HRV.FIRST_CAUSE = 4 ∧ t.hp.memoryActive = false ∧ s.harvestFrame t [] []) ∧
  (∀ (s : State), s.regsOk → s.seq.pwrgood = true → s.frozen = true →
    ∃ t, exec .junctionShutdown s = .next t ∧ t.bitOf HRV.CAUSE 4 = true ∧ s.frame t reported (HRV.CAUSE :: reportedFields)) ∧
  (∀ (s : State), s.seq.pwrgood = false → exec .junctionShutdown s = .next s) ∧
  (∀ (s : State), s.regsOk → s.seq.pwrgood = true →
    ∃ t, exec .thermtrip s = .next t ∧ t.seq.pwrgood = false ∧ t.seq.bootTrip = true ∧ t.seq.down = false ∧ t.get SEQ.STATE = seqOff ∧ t.wdn.boot = 0 ∧
      (∀ k : Fin 8, t.railPhase (32 + k.val) = .off ∨ t.railPhase (32 + k.val) = .releasing) ∧ .pin "PWRGOOD" 0 (some false) ∈ t.out ∧
      t.out.getLast? = some (.pin "THERMTRIP_N" 0 (some false)) ∧ t.unit = s.unit ∧ t.pending = s.pending) ∧
  (∀ (s : State), s.seq.pwrgood = false → exec .thermtrip s = .next s)

/-- Alarms: Alarms not acknowledged are sent again to every valid collector and stay; a collector's acknowledgement removes the alarm of its CORR and no other. -/
def Obligations.AlarmDelivery : Prop :=
  (∀ (s : State), s.regsOk →
    ∃ t, exec .alarmRetry s = .next t ∧ t.out = s.out ++ s.recd.sent.flatMap (fun a => ([0, 1].filter fun c => s.flag MGT.VALID 0 c).map fun c => .alarm c a.corr a.alarm) ∧
      s.frame t [.regs, .out] [MGT.ALARM_SENT]) ∧
  (∀ (s : State) (n : BitVec 64),
    ∃ t, exec (.alarmAck n) s = .next t ∧ (∀ x, x ∈ t.recd.sent ↔ x ∈ s.recd.sent ∧ x.corr ≠ n.toNat) ∧ t.recd = { s.recd with sent := t.recd.sent } ∧ s.keptBut t [.recd])
end

