-- ==== Sys2Proof/Laws/Table.lean ====
section
/-! SUPPORT. What the sparse tables and the byte memory do: a read after a write, other keys unchanged, the canonical form kept. -/
namespace Sys2Proof.Machine

variable {α : Type}

theorem Above.mono {a b : Nat} {t : Table α} (h : Above b t) (hab : a ≤ b) : Above a t := by
  cases t with
  | nil => trivial
  | cons e t => exact ⟨lt_of_le_of_lt hab h.1, h.2⟩

theorem Above.rising {a : Nat} {t : Table α} (h : Above a t) : Rising t := by
  cases t with
  | nil => trivial
  | cons e t => exact h.2

theorem tget_above {b : Nat} {t : Table α} (h : Above b t) {x : Nat} (hx : x ≤ b) : tget t x = none := by
  induction t generalizing b with
  | nil => rfl
  | cons e t ih =>
    obtain ⟨k, w⟩ := e
    have hk := h.1
    simp only [tget]
    rw [if_neg (by omega), ih h.2 (by omega)]

@[simp] theorem tget_tset_same (t : Table α) (x : Nat) (v : α) : tget (tset t x v) x = some v := by
  induction t with
  | nil => simp [tset, tget]
  | cons e t ih =>
    obtain ⟨k, w⟩ := e
    simp only [tset]
    split
    · simp [tget]
    · split
      · simp [tget]
      · simp_all [tget]

theorem tget_tset_ne (t : Table α) {x y : Nat} (v : α) (h : y ≠ x) : tget (tset t x v) y = tget t y := by
  induction t with
  | nil => simp [tset, tget, h]
  | cons e t ih =>
    obtain ⟨k, w⟩ := e
    simp only [tset]
    split
    · simp [tget, h]
    · split
      · subst_vars
        simp [tget, h]
      · simp only [tget]
        rw [ih]

@[simp] theorem tget_tdel_same (t : Table α) (x : Nat) : tget (tdel t x) x = none := by
  induction t with
  | nil => rfl
  | cons e t ih =>
    obtain ⟨k, w⟩ := e
    simp only [tdel]
    split
    · exact ih
    · simp [tget, *]

theorem tget_tdel_ne (t : Table α) {x y : Nat} (hy : y ≠ x) : tget (tdel t x) y = tget t y := by
  induction t with
  | nil => rfl
  | cons e t ih =>
    obtain ⟨k, w⟩ := e
    simp only [tdel]
    split
    · subst_vars
      simp only [tget, hy, if_false]
      exact ih
    · simp only [tget]
      rw [ih]

theorem above_tset {b : Nat} {t : Table α} (h : Above b t) {x : Nat} (hx : b < x) (v : α) : Above b (tset t x v) := by
  induction t generalizing b with
  | nil => exact ⟨hx, trivial⟩
  | cons e t ih =>
    obtain ⟨k, w⟩ := e
    simp only [tset]
    split
    · exact ⟨hx, by assumption, h.2⟩
    · split
      · subst_vars
        exact ⟨hx, h.2⟩
      · exact ⟨h.1, ih h.2 (by omega)⟩

theorem rising_tset {t : Table α} (h : Rising t) (x : Nat) (v : α) : Rising (tset t x v) := by
  cases t with
  | nil => trivial
  | cons e t =>
    obtain ⟨k, w⟩ := e
    simp only [tset]
    split
    · exact ⟨by assumption, h⟩
    · split
      · subst_vars
        exact h
      · exact above_tset h (by omega) v

theorem above_tdel {b : Nat} {t : Table α} (h : Above b t) (x : Nat) : Above b (tdel t x) := by
  induction t generalizing b with
  | nil => trivial
  | cons e t ih =>
    obtain ⟨k, w⟩ := e
    simp only [tdel]
    split
    · exact ih (h.2.mono (le_of_lt h.1))
    · exact ⟨h.1, ih h.2⟩

theorem rising_tdel {t : Table α} (h : Rising t) (x : Nat) : Rising (tdel t x) := by
  induction t with
  | nil => trivial
  | cons e t ih =>
    obtain ⟨k, w⟩ := e
    simp only [tdel]
    split
    · exact ih h.rising
    · exact above_tdel h x

theorem rising_tmod {t : Table α} (h : Rising t) (x : Nat) (f : α → α) : Rising (tmod t x f) := by
  unfold tmod
  split
  · exact rising_tset h x _
  · exact h

/-! ## Byte memory -/

theorem Memory.wfAbove_mono {a b : Nat} {m : List Host.Cell} (h : Memory.wfAbove b m = true) (hab : a ≤ b) : Memory.wfAbove a m = true := by
  cases m with
  | nil => rfl
  | cons e m =>
    simp only [Memory.wfAbove, Bool.and_eq_true, decide_eq_true_eq] at h ⊢
    exact ⟨⟨by omega, h.1.2⟩, h.2⟩

theorem Memory.wfAbove_set {b : Nat} {m : List Host.Cell} (h : Memory.wfAbove b m = true) {x : Nat} (hx : b ≤ x) {v : Byte} (hv : v ≠ 0) :
    Memory.wfAbove b (tset m x v) = true := by
  induction m generalizing b with
  | nil => simpa [tset, Memory.wfAbove, hx] using hv
  | cons e m ih =>
    obtain ⟨k, w⟩ := e
    simp only [Memory.wfAbove, Bool.and_eq_true, decide_eq_true_eq, bne_iff_ne] at h
    simp only [tset]
    split
    · simp only [Memory.wfAbove, Bool.and_eq_true, decide_eq_true_eq, bne_iff_ne]
      exact ⟨⟨hx, hv⟩, ⟨by omega, h.1.2⟩, h.2⟩
    · split
      · subst_vars
        simp only [Memory.wfAbove, Bool.and_eq_true, decide_eq_true_eq, bne_iff_ne]
        exact ⟨⟨hx, hv⟩, h.2⟩
      · simp only [Memory.wfAbove, Bool.and_eq_true, decide_eq_true_eq, bne_iff_ne]
        exact ⟨h.1, ih h.2 (by omega)⟩

theorem Memory.wfAbove_del {b : Nat} {m : List Host.Cell} (h : Memory.wfAbove b m = true) (x : Nat) : Memory.wfAbove b (tdel m x) = true := by
  induction m generalizing b with
  | nil => rfl
  | cons e m ih =>
    obtain ⟨k, w⟩ := e
    simp only [Memory.wfAbove, Bool.and_eq_true, decide_eq_true_eq, bne_iff_ne] at h
    simp only [tdel]
    split
    · exact ih (Memory.wfAbove_mono h.2 (by omega))
    · simp only [Memory.wfAbove, Bool.and_eq_true, decide_eq_true_eq, bne_iff_ne]
      exact ⟨h.1, ih h.2⟩

/-- Storing a byte keeps the canonical form. -/
theorem Memory.wf_set {m : List Host.Cell} (h : Memory.wf m = true) (a : Nat) (v : Byte) : Memory.wf (Memory.set m a v) = true := by
  unfold Memory.set
  split
  · exact Memory.wfAbove_del h a
  · exact Memory.wfAbove_set h (Nat.zero_le a) (by assumption)

/-- A byte read after it is stored. -/
theorem Memory.get_set_same (m : List Host.Cell) (a : Nat) (v : Byte) : Memory.get (Memory.set m a v) a = v := by
  unfold Memory.set Memory.get
  split
  · subst_vars
    simp
  · simp

/-- Every other byte stays. -/
theorem Memory.get_set_ne (m : List Host.Cell) {a b : Nat} (v : Byte) (hb : b ≠ a) : Memory.get (Memory.set m a v) b = Memory.get m b := by
  unfold Memory.set Memory.get
  split
  · rw [tget_tdel_ne m hb]
  · rw [tget_tset_ne m v hb]

end Sys2Proof.Machine
end

