-- ==== Sys2Proof/Laws/State.lean ====
section
/-! SUPPORT. The register file and the small updates of State: what each changes, and that it changes nothing else. -/
namespace Sys2Proof.Machine

/-! ## One field of State per update -/

@[simp] theorem State.wr_ctl (s : State) (p : Page) (f : Fld) (v i : Nat) : (s.wr p f v i).ctl = s.ctl := rfl
@[simp] theorem State.wr_evf (s : State) (p : Page) (f : Fld) (v i : Nat) : (s.wr p f v i).evf = s.evf := rfl
@[simp] theorem State.wr_recd (s : State) (p : Page) (f : Fld) (v i : Nat) : (s.wr p f v i).recd = s.recd := rfl
@[simp] theorem State.wr_xlt (s : State) (p : Page) (f : Fld) (v i : Nat) : (s.wr p f v i).xlt = s.xlt := rfl
@[simp] theorem State.wr_hp (s : State) (p : Page) (f : Fld) (v i : Nat) : (s.wr p f v i).hp = s.hp := rfl
@[simp] theorem State.wr_qe (s : State) (p : Page) (f : Fld) (v i : Nat) : (s.wr p f v i).qe = s.qe := rfl
@[simp] theorem State.wr_mov (s : State) (p : Page) (f : Fld) (v i : Nat) : (s.wr p f v i).mov = s.mov := rfl
@[simp] theorem State.wr_tier (s : State) (p : Page) (f : Fld) (v i : Nat) : (s.wr p f v i).tier = s.tier := rfl
@[simp] theorem State.wr_pan (s : State) (p : Page) (f : Fld) (v i : Nat) : (s.wr p f v i).pan = s.pan := rfl
@[simp] theorem State.wr_twn (s : State) (p : Page) (f : Fld) (v i : Nat) : (s.wr p f v i).twn = s.twn := rfl
@[simp] theorem State.wr_cmn (s : State) (p : Page) (f : Fld) (v i : Nat) : (s.wr p f v i).cmn = s.cmn := rfl
@[simp] theorem State.wr_pwr (s : State) (p : Page) (f : Fld) (v i : Nat) : (s.wr p f v i).pwr = s.pwr := rfl
@[simp] theorem State.wr_dmc (s : State) (p : Page) (f : Fld) (v i : Nat) : (s.wr p f v i).dmc = s.dmc := rfl
@[simp] theorem State.wr_flm (s : State) (p : Page) (f : Fld) (v i : Nat) : (s.wr p f v i).flm = s.flm := rfl
@[simp] theorem State.wr_seq (s : State) (p : Page) (f : Fld) (v i : Nat) : (s.wr p f v i).seq = s.seq := rfl
@[simp] theorem State.wr_hrv (s : State) (p : Page) (f : Fld) (v i : Nat) : (s.wr p f v i).hrv = s.hrv := rfl
@[simp] theorem State.wr_clk (s : State) (p : Page) (f : Fld) (v i : Nat) : (s.wr p f v i).clk = s.clk := rfl
@[simp] theorem State.wr_cip (s : State) (p : Page) (f : Fld) (v i : Nat) : (s.wr p f v i).cip = s.cip := rfl
@[simp] theorem State.wr_nvs (s : State) (p : Page) (f : Fld) (v i : Nat) : (s.wr p f v i).nvs = s.nvs := rfl
@[simp] theorem State.wr_wdn (s : State) (p : Page) (f : Fld) (v i : Nat) : (s.wr p f v i).wdn = s.wdn := rfl
@[simp] theorem State.wr_mgt (s : State) (p : Page) (f : Fld) (v i : Nat) : (s.wr p f v i).mgt = s.mgt := rfl
@[simp] theorem State.wr_mem (s : State) (p : Page) (f : Fld) (v i : Nat) : (s.wr p f v i).mem = s.mem := rfl
@[simp] theorem State.wr_unit (s : State) (p : Page) (f : Fld) (v i : Nat) : (s.wr p f v i).unit = s.unit := rfl
@[simp] theorem State.wr_timeNs (s : State) (p : Page) (f : Fld) (v i : Nat) : (s.wr p f v i).timeNs = s.timeNs := rfl
@[simp] theorem State.wr_slew (s : State) (p : Page) (f : Fld) (v i : Nat) : (s.wr p f v i).slew = s.slew := rfl
@[simp] theorem State.wr_out (s : State) (p : Page) (f : Fld) (v i : Nat) : (s.wr p f v i).out = s.out := rfl
@[simp] theorem State.wr_free (s : State) (p : Page) (f : Fld) (v i : Nat) : (s.wr p f v i).free = s.free := rfl
@[simp] theorem State.wr_pending (s : State) (p : Page) (f : Fld) (v i : Nat) : (s.wr p f v i).pending = s.pending := rfl

@[simp] theorem State.put_ctl (s : State) (f : Fld) (v i j : Nat) : (s.put f v i j).ctl = s.ctl := rfl
@[simp] theorem State.put_evf (s : State) (f : Fld) (v i j : Nat) : (s.put f v i j).evf = s.evf := rfl
@[simp] theorem State.put_recd (s : State) (f : Fld) (v i j : Nat) : (s.put f v i j).recd = s.recd := rfl
@[simp] theorem State.put_xlt (s : State) (f : Fld) (v i j : Nat) : (s.put f v i j).xlt = s.xlt := rfl
@[simp] theorem State.put_hp (s : State) (f : Fld) (v i j : Nat) : (s.put f v i j).hp = s.hp := rfl
@[simp] theorem State.put_qe (s : State) (f : Fld) (v i j : Nat) : (s.put f v i j).qe = s.qe := rfl
@[simp] theorem State.put_mov (s : State) (f : Fld) (v i j : Nat) : (s.put f v i j).mov = s.mov := rfl
@[simp] theorem State.put_tier (s : State) (f : Fld) (v i j : Nat) : (s.put f v i j).tier = s.tier := rfl
@[simp] theorem State.put_pan (s : State) (f : Fld) (v i j : Nat) : (s.put f v i j).pan = s.pan := rfl
@[simp] theorem State.put_twn (s : State) (f : Fld) (v i j : Nat) : (s.put f v i j).twn = s.twn := rfl
@[simp] theorem State.put_cmn (s : State) (f : Fld) (v i j : Nat) : (s.put f v i j).cmn = s.cmn := rfl
@[simp] theorem State.put_pwr (s : State) (f : Fld) (v i j : Nat) : (s.put f v i j).pwr = s.pwr := rfl
@[simp] theorem State.put_dmc (s : State) (f : Fld) (v i j : Nat) : (s.put f v i j).dmc = s.dmc := rfl
@[simp] theorem State.put_flm (s : State) (f : Fld) (v i j : Nat) : (s.put f v i j).flm = s.flm := rfl
@[simp] theorem State.put_seq (s : State) (f : Fld) (v i j : Nat) : (s.put f v i j).seq = s.seq := rfl
@[simp] theorem State.put_hrv (s : State) (f : Fld) (v i j : Nat) : (s.put f v i j).hrv = s.hrv := rfl
@[simp] theorem State.put_clk (s : State) (f : Fld) (v i j : Nat) : (s.put f v i j).clk = s.clk := rfl
@[simp] theorem State.put_cip (s : State) (f : Fld) (v i j : Nat) : (s.put f v i j).cip = s.cip := rfl
@[simp] theorem State.put_nvs (s : State) (f : Fld) (v i j : Nat) : (s.put f v i j).nvs = s.nvs := rfl
@[simp] theorem State.put_wdn (s : State) (f : Fld) (v i j : Nat) : (s.put f v i j).wdn = s.wdn := rfl
@[simp] theorem State.put_mgt (s : State) (f : Fld) (v i j : Nat) : (s.put f v i j).mgt = s.mgt := rfl
@[simp] theorem State.put_mem (s : State) (f : Fld) (v i j : Nat) : (s.put f v i j).mem = s.mem := rfl
@[simp] theorem State.put_unit (s : State) (f : Fld) (v i j : Nat) : (s.put f v i j).unit = s.unit := rfl
@[simp] theorem State.put_timeNs (s : State) (f : Fld) (v i j : Nat) : (s.put f v i j).timeNs = s.timeNs := rfl
@[simp] theorem State.put_slew (s : State) (f : Fld) (v i j : Nat) : (s.put f v i j).slew = s.slew := rfl
@[simp] theorem State.put_out (s : State) (f : Fld) (v i j : Nat) : (s.put f v i j).out = s.out := rfl
@[simp] theorem State.put_free (s : State) (f : Fld) (v i j : Nat) : (s.put f v i j).free = s.free := rfl
@[simp] theorem State.put_pending (s : State) (f : Fld) (v i j : Nat) : (s.put f v i j).pending = s.pending := rfl

@[simp] theorem State.inc_ctl (s : State) (f : Fld) (n i j : Nat) : (s.inc f n i j).ctl = s.ctl := rfl
@[simp] theorem State.inc_evf (s : State) (f : Fld) (n i j : Nat) : (s.inc f n i j).evf = s.evf := rfl
@[simp] theorem State.inc_recd (s : State) (f : Fld) (n i j : Nat) : (s.inc f n i j).recd = s.recd := rfl
@[simp] theorem State.inc_xlt (s : State) (f : Fld) (n i j : Nat) : (s.inc f n i j).xlt = s.xlt := rfl
@[simp] theorem State.inc_hp (s : State) (f : Fld) (n i j : Nat) : (s.inc f n i j).hp = s.hp := rfl
@[simp] theorem State.inc_qe (s : State) (f : Fld) (n i j : Nat) : (s.inc f n i j).qe = s.qe := rfl
@[simp] theorem State.inc_mov (s : State) (f : Fld) (n i j : Nat) : (s.inc f n i j).mov = s.mov := rfl
@[simp] theorem State.inc_tier (s : State) (f : Fld) (n i j : Nat) : (s.inc f n i j).tier = s.tier := rfl
@[simp] theorem State.inc_pan (s : State) (f : Fld) (n i j : Nat) : (s.inc f n i j).pan = s.pan := rfl
@[simp] theorem State.inc_twn (s : State) (f : Fld) (n i j : Nat) : (s.inc f n i j).twn = s.twn := rfl
@[simp] theorem State.inc_cmn (s : State) (f : Fld) (n i j : Nat) : (s.inc f n i j).cmn = s.cmn := rfl
@[simp] theorem State.inc_pwr (s : State) (f : Fld) (n i j : Nat) : (s.inc f n i j).pwr = s.pwr := rfl
@[simp] theorem State.inc_dmc (s : State) (f : Fld) (n i j : Nat) : (s.inc f n i j).dmc = s.dmc := rfl
@[simp] theorem State.inc_flm (s : State) (f : Fld) (n i j : Nat) : (s.inc f n i j).flm = s.flm := rfl
@[simp] theorem State.inc_seq (s : State) (f : Fld) (n i j : Nat) : (s.inc f n i j).seq = s.seq := rfl
@[simp] theorem State.inc_hrv (s : State) (f : Fld) (n i j : Nat) : (s.inc f n i j).hrv = s.hrv := rfl
@[simp] theorem State.inc_clk (s : State) (f : Fld) (n i j : Nat) : (s.inc f n i j).clk = s.clk := rfl
@[simp] theorem State.inc_cip (s : State) (f : Fld) (n i j : Nat) : (s.inc f n i j).cip = s.cip := rfl
@[simp] theorem State.inc_nvs (s : State) (f : Fld) (n i j : Nat) : (s.inc f n i j).nvs = s.nvs := rfl
@[simp] theorem State.inc_wdn (s : State) (f : Fld) (n i j : Nat) : (s.inc f n i j).wdn = s.wdn := rfl
@[simp] theorem State.inc_mgt (s : State) (f : Fld) (n i j : Nat) : (s.inc f n i j).mgt = s.mgt := rfl
@[simp] theorem State.inc_mem (s : State) (f : Fld) (n i j : Nat) : (s.inc f n i j).mem = s.mem := rfl
@[simp] theorem State.inc_unit (s : State) (f : Fld) (n i j : Nat) : (s.inc f n i j).unit = s.unit := rfl
@[simp] theorem State.inc_timeNs (s : State) (f : Fld) (n i j : Nat) : (s.inc f n i j).timeNs = s.timeNs := rfl
@[simp] theorem State.inc_slew (s : State) (f : Fld) (n i j : Nat) : (s.inc f n i j).slew = s.slew := rfl
@[simp] theorem State.inc_out (s : State) (f : Fld) (n i j : Nat) : (s.inc f n i j).out = s.out := rfl
@[simp] theorem State.inc_free (s : State) (f : Fld) (n i j : Nat) : (s.inc f n i j).free = s.free := rfl
@[simp] theorem State.inc_pending (s : State) (f : Fld) (n i j : Nat) : (s.inc f n i j).pending = s.pending := rfl

@[simp] theorem State.incMod_ctl (s : State) (f : Fld) (n i j : Nat) : (s.incMod f n i j).ctl = s.ctl := rfl
@[simp] theorem State.incMod_evf (s : State) (f : Fld) (n i j : Nat) : (s.incMod f n i j).evf = s.evf := rfl
@[simp] theorem State.incMod_recd (s : State) (f : Fld) (n i j : Nat) : (s.incMod f n i j).recd = s.recd := rfl
@[simp] theorem State.incMod_xlt (s : State) (f : Fld) (n i j : Nat) : (s.incMod f n i j).xlt = s.xlt := rfl
@[simp] theorem State.incMod_hp (s : State) (f : Fld) (n i j : Nat) : (s.incMod f n i j).hp = s.hp := rfl
@[simp] theorem State.incMod_qe (s : State) (f : Fld) (n i j : Nat) : (s.incMod f n i j).qe = s.qe := rfl
@[simp] theorem State.incMod_mov (s : State) (f : Fld) (n i j : Nat) : (s.incMod f n i j).mov = s.mov := rfl
@[simp] theorem State.incMod_tier (s : State) (f : Fld) (n i j : Nat) : (s.incMod f n i j).tier = s.tier := rfl
@[simp] theorem State.incMod_pan (s : State) (f : Fld) (n i j : Nat) : (s.incMod f n i j).pan = s.pan := rfl
@[simp] theorem State.incMod_twn (s : State) (f : Fld) (n i j : Nat) : (s.incMod f n i j).twn = s.twn := rfl
@[simp] theorem State.incMod_cmn (s : State) (f : Fld) (n i j : Nat) : (s.incMod f n i j).cmn = s.cmn := rfl
@[simp] theorem State.incMod_pwr (s : State) (f : Fld) (n i j : Nat) : (s.incMod f n i j).pwr = s.pwr := rfl
@[simp] theorem State.incMod_dmc (s : State) (f : Fld) (n i j : Nat) : (s.incMod f n i j).dmc = s.dmc := rfl
@[simp] theorem State.incMod_flm (s : State) (f : Fld) (n i j : Nat) : (s.incMod f n i j).flm = s.flm := rfl
@[simp] theorem State.incMod_seq (s : State) (f : Fld) (n i j : Nat) : (s.incMod f n i j).seq = s.seq := rfl
@[simp] theorem State.incMod_hrv (s : State) (f : Fld) (n i j : Nat) : (s.incMod f n i j).hrv = s.hrv := rfl
@[simp] theorem State.incMod_clk (s : State) (f : Fld) (n i j : Nat) : (s.incMod f n i j).clk = s.clk := rfl
@[simp] theorem State.incMod_cip (s : State) (f : Fld) (n i j : Nat) : (s.incMod f n i j).cip = s.cip := rfl
@[simp] theorem State.incMod_nvs (s : State) (f : Fld) (n i j : Nat) : (s.incMod f n i j).nvs = s.nvs := rfl
@[simp] theorem State.incMod_wdn (s : State) (f : Fld) (n i j : Nat) : (s.incMod f n i j).wdn = s.wdn := rfl
@[simp] theorem State.incMod_mgt (s : State) (f : Fld) (n i j : Nat) : (s.incMod f n i j).mgt = s.mgt := rfl
@[simp] theorem State.incMod_mem (s : State) (f : Fld) (n i j : Nat) : (s.incMod f n i j).mem = s.mem := rfl
@[simp] theorem State.incMod_unit (s : State) (f : Fld) (n i j : Nat) : (s.incMod f n i j).unit = s.unit := rfl
@[simp] theorem State.incMod_timeNs (s : State) (f : Fld) (n i j : Nat) : (s.incMod f n i j).timeNs = s.timeNs := rfl
@[simp] theorem State.incMod_slew (s : State) (f : Fld) (n i j : Nat) : (s.incMod f n i j).slew = s.slew := rfl
@[simp] theorem State.incMod_out (s : State) (f : Fld) (n i j : Nat) : (s.incMod f n i j).out = s.out := rfl
@[simp] theorem State.incMod_free (s : State) (f : Fld) (n i j : Nat) : (s.incMod f n i j).free = s.free := rfl
@[simp] theorem State.incMod_pending (s : State) (f : Fld) (n i j : Nat) : (s.incMod f n i j).pending = s.pending := rfl

@[simp] theorem State.dec_ctl (s : State) (f : Fld) (n i j : Nat) : (s.dec f n i j).ctl = s.ctl := rfl
@[simp] theorem State.dec_evf (s : State) (f : Fld) (n i j : Nat) : (s.dec f n i j).evf = s.evf := rfl
@[simp] theorem State.dec_recd (s : State) (f : Fld) (n i j : Nat) : (s.dec f n i j).recd = s.recd := rfl
@[simp] theorem State.dec_xlt (s : State) (f : Fld) (n i j : Nat) : (s.dec f n i j).xlt = s.xlt := rfl
@[simp] theorem State.dec_hp (s : State) (f : Fld) (n i j : Nat) : (s.dec f n i j).hp = s.hp := rfl
@[simp] theorem State.dec_qe (s : State) (f : Fld) (n i j : Nat) : (s.dec f n i j).qe = s.qe := rfl
@[simp] theorem State.dec_mov (s : State) (f : Fld) (n i j : Nat) : (s.dec f n i j).mov = s.mov := rfl
@[simp] theorem State.dec_tier (s : State) (f : Fld) (n i j : Nat) : (s.dec f n i j).tier = s.tier := rfl
@[simp] theorem State.dec_pan (s : State) (f : Fld) (n i j : Nat) : (s.dec f n i j).pan = s.pan := rfl
@[simp] theorem State.dec_twn (s : State) (f : Fld) (n i j : Nat) : (s.dec f n i j).twn = s.twn := rfl
@[simp] theorem State.dec_cmn (s : State) (f : Fld) (n i j : Nat) : (s.dec f n i j).cmn = s.cmn := rfl
@[simp] theorem State.dec_pwr (s : State) (f : Fld) (n i j : Nat) : (s.dec f n i j).pwr = s.pwr := rfl
@[simp] theorem State.dec_dmc (s : State) (f : Fld) (n i j : Nat) : (s.dec f n i j).dmc = s.dmc := rfl
@[simp] theorem State.dec_flm (s : State) (f : Fld) (n i j : Nat) : (s.dec f n i j).flm = s.flm := rfl
@[simp] theorem State.dec_seq (s : State) (f : Fld) (n i j : Nat) : (s.dec f n i j).seq = s.seq := rfl
@[simp] theorem State.dec_hrv (s : State) (f : Fld) (n i j : Nat) : (s.dec f n i j).hrv = s.hrv := rfl
@[simp] theorem State.dec_clk (s : State) (f : Fld) (n i j : Nat) : (s.dec f n i j).clk = s.clk := rfl
@[simp] theorem State.dec_cip (s : State) (f : Fld) (n i j : Nat) : (s.dec f n i j).cip = s.cip := rfl
@[simp] theorem State.dec_nvs (s : State) (f : Fld) (n i j : Nat) : (s.dec f n i j).nvs = s.nvs := rfl
@[simp] theorem State.dec_wdn (s : State) (f : Fld) (n i j : Nat) : (s.dec f n i j).wdn = s.wdn := rfl
@[simp] theorem State.dec_mgt (s : State) (f : Fld) (n i j : Nat) : (s.dec f n i j).mgt = s.mgt := rfl
@[simp] theorem State.dec_mem (s : State) (f : Fld) (n i j : Nat) : (s.dec f n i j).mem = s.mem := rfl
@[simp] theorem State.dec_unit (s : State) (f : Fld) (n i j : Nat) : (s.dec f n i j).unit = s.unit := rfl
@[simp] theorem State.dec_timeNs (s : State) (f : Fld) (n i j : Nat) : (s.dec f n i j).timeNs = s.timeNs := rfl
@[simp] theorem State.dec_slew (s : State) (f : Fld) (n i j : Nat) : (s.dec f n i j).slew = s.slew := rfl
@[simp] theorem State.dec_out (s : State) (f : Fld) (n i j : Nat) : (s.dec f n i j).out = s.out := rfl
@[simp] theorem State.dec_free (s : State) (f : Fld) (n i j : Nat) : (s.dec f n i j).free = s.free := rfl
@[simp] theorem State.dec_pending (s : State) (f : Fld) (n i j : Nat) : (s.dec f n i j).pending = s.pending := rfl

@[simp] theorem State.putBit_ctl (s : State) (f : Fld) (k : Nat) (b : Bool) (i j : Nat) : (s.putBit f k b i j).ctl = s.ctl := rfl
@[simp] theorem State.putBit_evf (s : State) (f : Fld) (k : Nat) (b : Bool) (i j : Nat) : (s.putBit f k b i j).evf = s.evf := rfl
@[simp] theorem State.putBit_recd (s : State) (f : Fld) (k : Nat) (b : Bool) (i j : Nat) : (s.putBit f k b i j).recd = s.recd := rfl
@[simp] theorem State.putBit_xlt (s : State) (f : Fld) (k : Nat) (b : Bool) (i j : Nat) : (s.putBit f k b i j).xlt = s.xlt := rfl
@[simp] theorem State.putBit_hp (s : State) (f : Fld) (k : Nat) (b : Bool) (i j : Nat) : (s.putBit f k b i j).hp = s.hp := rfl
@[simp] theorem State.putBit_qe (s : State) (f : Fld) (k : Nat) (b : Bool) (i j : Nat) : (s.putBit f k b i j).qe = s.qe := rfl
@[simp] theorem State.putBit_mov (s : State) (f : Fld) (k : Nat) (b : Bool) (i j : Nat) : (s.putBit f k b i j).mov = s.mov := rfl
@[simp] theorem State.putBit_tier (s : State) (f : Fld) (k : Nat) (b : Bool) (i j : Nat) : (s.putBit f k b i j).tier = s.tier := rfl
@[simp] theorem State.putBit_pan (s : State) (f : Fld) (k : Nat) (b : Bool) (i j : Nat) : (s.putBit f k b i j).pan = s.pan := rfl
@[simp] theorem State.putBit_twn (s : State) (f : Fld) (k : Nat) (b : Bool) (i j : Nat) : (s.putBit f k b i j).twn = s.twn := rfl
@[simp] theorem State.putBit_cmn (s : State) (f : Fld) (k : Nat) (b : Bool) (i j : Nat) : (s.putBit f k b i j).cmn = s.cmn := rfl
@[simp] theorem State.putBit_pwr (s : State) (f : Fld) (k : Nat) (b : Bool) (i j : Nat) : (s.putBit f k b i j).pwr = s.pwr := rfl
@[simp] theorem State.putBit_dmc (s : State) (f : Fld) (k : Nat) (b : Bool) (i j : Nat) : (s.putBit f k b i j).dmc = s.dmc := rfl
@[simp] theorem State.putBit_flm (s : State) (f : Fld) (k : Nat) (b : Bool) (i j : Nat) : (s.putBit f k b i j).flm = s.flm := rfl
@[simp] theorem State.putBit_seq (s : State) (f : Fld) (k : Nat) (b : Bool) (i j : Nat) : (s.putBit f k b i j).seq = s.seq := rfl
@[simp] theorem State.putBit_hrv (s : State) (f : Fld) (k : Nat) (b : Bool) (i j : Nat) : (s.putBit f k b i j).hrv = s.hrv := rfl
@[simp] theorem State.putBit_clk (s : State) (f : Fld) (k : Nat) (b : Bool) (i j : Nat) : (s.putBit f k b i j).clk = s.clk := rfl
@[simp] theorem State.putBit_cip (s : State) (f : Fld) (k : Nat) (b : Bool) (i j : Nat) : (s.putBit f k b i j).cip = s.cip := rfl
@[simp] theorem State.putBit_nvs (s : State) (f : Fld) (k : Nat) (b : Bool) (i j : Nat) : (s.putBit f k b i j).nvs = s.nvs := rfl
@[simp] theorem State.putBit_wdn (s : State) (f : Fld) (k : Nat) (b : Bool) (i j : Nat) : (s.putBit f k b i j).wdn = s.wdn := rfl
@[simp] theorem State.putBit_mgt (s : State) (f : Fld) (k : Nat) (b : Bool) (i j : Nat) : (s.putBit f k b i j).mgt = s.mgt := rfl
@[simp] theorem State.putBit_mem (s : State) (f : Fld) (k : Nat) (b : Bool) (i j : Nat) : (s.putBit f k b i j).mem = s.mem := rfl
@[simp] theorem State.putBit_unit (s : State) (f : Fld) (k : Nat) (b : Bool) (i j : Nat) : (s.putBit f k b i j).unit = s.unit := rfl
@[simp] theorem State.putBit_timeNs (s : State) (f : Fld) (k : Nat) (b : Bool) (i j : Nat) : (s.putBit f k b i j).timeNs = s.timeNs := rfl
@[simp] theorem State.putBit_slew (s : State) (f : Fld) (k : Nat) (b : Bool) (i j : Nat) : (s.putBit f k b i j).slew = s.slew := rfl
@[simp] theorem State.putBit_out (s : State) (f : Fld) (k : Nat) (b : Bool) (i j : Nat) : (s.putBit f k b i j).out = s.out := rfl
@[simp] theorem State.putBit_free (s : State) (f : Fld) (k : Nat) (b : Bool) (i j : Nat) : (s.putBit f k b i j).free = s.free := rfl
@[simp] theorem State.putBit_pending (s : State) (f : Fld) (k : Nat) (b : Bool) (i j : Nat) : (s.putBit f k b i j).pending = s.pending := rfl

@[simp] theorem State.fastWrote_ctl (s : State) (k : Nat) : (s.fastWrote k).ctl = s.ctl := rfl
@[simp] theorem State.fastWrote_evf (s : State) (k : Nat) : (s.fastWrote k).evf = s.evf := rfl
@[simp] theorem State.fastWrote_recd (s : State) (k : Nat) : (s.fastWrote k).recd = s.recd := rfl
@[simp] theorem State.fastWrote_xlt (s : State) (k : Nat) : (s.fastWrote k).xlt = s.xlt := rfl
@[simp] theorem State.fastWrote_hp (s : State) (k : Nat) : (s.fastWrote k).hp = s.hp := rfl
@[simp] theorem State.fastWrote_qe (s : State) (k : Nat) : (s.fastWrote k).qe = s.qe := rfl
@[simp] theorem State.fastWrote_mov (s : State) (k : Nat) : (s.fastWrote k).mov = s.mov := rfl
@[simp] theorem State.fastWrote_tier (s : State) (k : Nat) : (s.fastWrote k).tier = s.tier := rfl
@[simp] theorem State.fastWrote_pan (s : State) (k : Nat) : (s.fastWrote k).pan = s.pan := rfl
@[simp] theorem State.fastWrote_twn (s : State) (k : Nat) : (s.fastWrote k).twn = s.twn := rfl
@[simp] theorem State.fastWrote_cmn (s : State) (k : Nat) : (s.fastWrote k).cmn = s.cmn := rfl
@[simp] theorem State.fastWrote_pwr (s : State) (k : Nat) : (s.fastWrote k).pwr = s.pwr := rfl
@[simp] theorem State.fastWrote_dmc (s : State) (k : Nat) : (s.fastWrote k).dmc = s.dmc := rfl
@[simp] theorem State.fastWrote_flm (s : State) (k : Nat) : (s.fastWrote k).flm = s.flm := rfl
@[simp] theorem State.fastWrote_seq (s : State) (k : Nat) : (s.fastWrote k).seq = s.seq := rfl
@[simp] theorem State.fastWrote_hrv (s : State) (k : Nat) : (s.fastWrote k).hrv = s.hrv := rfl
@[simp] theorem State.fastWrote_clk (s : State) (k : Nat) : (s.fastWrote k).clk = s.clk := rfl
@[simp] theorem State.fastWrote_cip (s : State) (k : Nat) : (s.fastWrote k).cip = s.cip := rfl
@[simp] theorem State.fastWrote_nvs (s : State) (k : Nat) : (s.fastWrote k).nvs = s.nvs := rfl
@[simp] theorem State.fastWrote_wdn (s : State) (k : Nat) : (s.fastWrote k).wdn = s.wdn := rfl
@[simp] theorem State.fastWrote_mgt (s : State) (k : Nat) : (s.fastWrote k).mgt = s.mgt := rfl
@[simp] theorem State.fastWrote_mem (s : State) (k : Nat) : (s.fastWrote k).mem = s.mem := rfl
@[simp] theorem State.fastWrote_unit (s : State) (k : Nat) : (s.fastWrote k).unit = s.unit := rfl
@[simp] theorem State.fastWrote_timeNs (s : State) (k : Nat) : (s.fastWrote k).timeNs = s.timeNs := rfl
@[simp] theorem State.fastWrote_slew (s : State) (k : Nat) : (s.fastWrote k).slew = s.slew := rfl
@[simp] theorem State.fastWrote_out (s : State) (k : Nat) : (s.fastWrote k).out = s.out := rfl
@[simp] theorem State.fastWrote_free (s : State) (k : Nat) : (s.fastWrote k).free = s.free := rfl
@[simp] theorem State.fastWrote_pending (s : State) (k : Nat) : (s.fastWrote k).pending = s.pending := rfl

@[simp] theorem State.emit_regs (s : State) (o : Out) : (s.emit o).regs = s.regs := rfl
@[simp] theorem State.emit_ctl (s : State) (o : Out) : (s.emit o).ctl = s.ctl := rfl
@[simp] theorem State.emit_evf (s : State) (o : Out) : (s.emit o).evf = s.evf := rfl
@[simp] theorem State.emit_recd (s : State) (o : Out) : (s.emit o).recd = s.recd := rfl
@[simp] theorem State.emit_xlt (s : State) (o : Out) : (s.emit o).xlt = s.xlt := rfl
@[simp] theorem State.emit_hp (s : State) (o : Out) : (s.emit o).hp = s.hp := rfl
@[simp] theorem State.emit_qe (s : State) (o : Out) : (s.emit o).qe = s.qe := rfl
@[simp] theorem State.emit_mov (s : State) (o : Out) : (s.emit o).mov = s.mov := rfl
@[simp] theorem State.emit_tier (s : State) (o : Out) : (s.emit o).tier = s.tier := rfl
@[simp] theorem State.emit_pan (s : State) (o : Out) : (s.emit o).pan = s.pan := rfl
@[simp] theorem State.emit_twn (s : State) (o : Out) : (s.emit o).twn = s.twn := rfl
@[simp] theorem State.emit_cmn (s : State) (o : Out) : (s.emit o).cmn = s.cmn := rfl
@[simp] theorem State.emit_pwr (s : State) (o : Out) : (s.emit o).pwr = s.pwr := rfl
@[simp] theorem State.emit_dmc (s : State) (o : Out) : (s.emit o).dmc = s.dmc := rfl
@[simp] theorem State.emit_flm (s : State) (o : Out) : (s.emit o).flm = s.flm := rfl
@[simp] theorem State.emit_seq (s : State) (o : Out) : (s.emit o).seq = s.seq := rfl
@[simp] theorem State.emit_hrv (s : State) (o : Out) : (s.emit o).hrv = s.hrv := rfl
@[simp] theorem State.emit_clk (s : State) (o : Out) : (s.emit o).clk = s.clk := rfl
@[simp] theorem State.emit_cip (s : State) (o : Out) : (s.emit o).cip = s.cip := rfl
@[simp] theorem State.emit_nvs (s : State) (o : Out) : (s.emit o).nvs = s.nvs := rfl
@[simp] theorem State.emit_wdn (s : State) (o : Out) : (s.emit o).wdn = s.wdn := rfl
@[simp] theorem State.emit_mgt (s : State) (o : Out) : (s.emit o).mgt = s.mgt := rfl
@[simp] theorem State.emit_mem (s : State) (o : Out) : (s.emit o).mem = s.mem := rfl
@[simp] theorem State.emit_unit (s : State) (o : Out) : (s.emit o).unit = s.unit := rfl
@[simp] theorem State.emit_timeNs (s : State) (o : Out) : (s.emit o).timeNs = s.timeNs := rfl
@[simp] theorem State.emit_slew (s : State) (o : Out) : (s.emit o).slew = s.slew := rfl
@[simp] theorem State.emit_free (s : State) (o : Out) : (s.emit o).free = s.free := rfl
@[simp] theorem State.emit_pending (s : State) (o : Out) : (s.emit o).pending = s.pending := rfl

@[simp] theorem State.pinOut_regs (s : State) (n : String) (k : Nat) (l : Option Bool) : (s.pinOut n k l).regs = s.regs := rfl
@[simp] theorem State.pinOut_ctl (s : State) (n : String) (k : Nat) (l : Option Bool) : (s.pinOut n k l).ctl = s.ctl := rfl
@[simp] theorem State.pinOut_evf (s : State) (n : String) (k : Nat) (l : Option Bool) : (s.pinOut n k l).evf = s.evf := rfl
@[simp] theorem State.pinOut_recd (s : State) (n : String) (k : Nat) (l : Option Bool) : (s.pinOut n k l).recd = s.recd := rfl
@[simp] theorem State.pinOut_xlt (s : State) (n : String) (k : Nat) (l : Option Bool) : (s.pinOut n k l).xlt = s.xlt := rfl
@[simp] theorem State.pinOut_hp (s : State) (n : String) (k : Nat) (l : Option Bool) : (s.pinOut n k l).hp = s.hp := rfl
@[simp] theorem State.pinOut_qe (s : State) (n : String) (k : Nat) (l : Option Bool) : (s.pinOut n k l).qe = s.qe := rfl
@[simp] theorem State.pinOut_mov (s : State) (n : String) (k : Nat) (l : Option Bool) : (s.pinOut n k l).mov = s.mov := rfl
@[simp] theorem State.pinOut_tier (s : State) (n : String) (k : Nat) (l : Option Bool) : (s.pinOut n k l).tier = s.tier := rfl
@[simp] theorem State.pinOut_pan (s : State) (n : String) (k : Nat) (l : Option Bool) : (s.pinOut n k l).pan = s.pan := rfl
@[simp] theorem State.pinOut_twn (s : State) (n : String) (k : Nat) (l : Option Bool) : (s.pinOut n k l).twn = s.twn := rfl
@[simp] theorem State.pinOut_cmn (s : State) (n : String) (k : Nat) (l : Option Bool) : (s.pinOut n k l).cmn = s.cmn := rfl
@[simp] theorem State.pinOut_pwr (s : State) (n : String) (k : Nat) (l : Option Bool) : (s.pinOut n k l).pwr = s.pwr := rfl
@[simp] theorem State.pinOut_dmc (s : State) (n : String) (k : Nat) (l : Option Bool) : (s.pinOut n k l).dmc = s.dmc := rfl
@[simp] theorem State.pinOut_flm (s : State) (n : String) (k : Nat) (l : Option Bool) : (s.pinOut n k l).flm = s.flm := rfl
@[simp] theorem State.pinOut_seq (s : State) (n : String) (k : Nat) (l : Option Bool) : (s.pinOut n k l).seq = s.seq := rfl
@[simp] theorem State.pinOut_hrv (s : State) (n : String) (k : Nat) (l : Option Bool) : (s.pinOut n k l).hrv = s.hrv := rfl
@[simp] theorem State.pinOut_clk (s : State) (n : String) (k : Nat) (l : Option Bool) : (s.pinOut n k l).clk = s.clk := rfl
@[simp] theorem State.pinOut_cip (s : State) (n : String) (k : Nat) (l : Option Bool) : (s.pinOut n k l).cip = s.cip := rfl
@[simp] theorem State.pinOut_nvs (s : State) (n : String) (k : Nat) (l : Option Bool) : (s.pinOut n k l).nvs = s.nvs := rfl
@[simp] theorem State.pinOut_wdn (s : State) (n : String) (k : Nat) (l : Option Bool) : (s.pinOut n k l).wdn = s.wdn := rfl
@[simp] theorem State.pinOut_mgt (s : State) (n : String) (k : Nat) (l : Option Bool) : (s.pinOut n k l).mgt = s.mgt := rfl
@[simp] theorem State.pinOut_mem (s : State) (n : String) (k : Nat) (l : Option Bool) : (s.pinOut n k l).mem = s.mem := rfl
@[simp] theorem State.pinOut_unit (s : State) (n : String) (k : Nat) (l : Option Bool) : (s.pinOut n k l).unit = s.unit := rfl
@[simp] theorem State.pinOut_timeNs (s : State) (n : String) (k : Nat) (l : Option Bool) : (s.pinOut n k l).timeNs = s.timeNs := rfl
@[simp] theorem State.pinOut_slew (s : State) (n : String) (k : Nat) (l : Option Bool) : (s.pinOut n k l).slew = s.slew := rfl
@[simp] theorem State.pinOut_free (s : State) (n : String) (k : Nat) (l : Option Bool) : (s.pinOut n k l).free = s.free := rfl
@[simp] theorem State.pinOut_pending (s : State) (n : String) (k : Nat) (l : Option Bool) : (s.pinOut n k l).pending = s.pending := rfl

@[simp] theorem State.useFree_regs (s : State)  : (s.useFree).regs = s.regs := rfl
@[simp] theorem State.useFree_ctl (s : State)  : (s.useFree).ctl = s.ctl := rfl
@[simp] theorem State.useFree_evf (s : State)  : (s.useFree).evf = s.evf := rfl
@[simp] theorem State.useFree_recd (s : State)  : (s.useFree).recd = s.recd := rfl
@[simp] theorem State.useFree_xlt (s : State)  : (s.useFree).xlt = s.xlt := rfl
@[simp] theorem State.useFree_hp (s : State)  : (s.useFree).hp = s.hp := rfl
@[simp] theorem State.useFree_qe (s : State)  : (s.useFree).qe = s.qe := rfl
@[simp] theorem State.useFree_mov (s : State)  : (s.useFree).mov = s.mov := rfl
@[simp] theorem State.useFree_tier (s : State)  : (s.useFree).tier = s.tier := rfl
@[simp] theorem State.useFree_pan (s : State)  : (s.useFree).pan = s.pan := rfl
@[simp] theorem State.useFree_twn (s : State)  : (s.useFree).twn = s.twn := rfl
@[simp] theorem State.useFree_cmn (s : State)  : (s.useFree).cmn = s.cmn := rfl
@[simp] theorem State.useFree_pwr (s : State)  : (s.useFree).pwr = s.pwr := rfl
@[simp] theorem State.useFree_dmc (s : State)  : (s.useFree).dmc = s.dmc := rfl
@[simp] theorem State.useFree_flm (s : State)  : (s.useFree).flm = s.flm := rfl
@[simp] theorem State.useFree_seq (s : State)  : (s.useFree).seq = s.seq := rfl
@[simp] theorem State.useFree_hrv (s : State)  : (s.useFree).hrv = s.hrv := rfl
@[simp] theorem State.useFree_clk (s : State)  : (s.useFree).clk = s.clk := rfl
@[simp] theorem State.useFree_cip (s : State)  : (s.useFree).cip = s.cip := rfl
@[simp] theorem State.useFree_nvs (s : State)  : (s.useFree).nvs = s.nvs := rfl
@[simp] theorem State.useFree_wdn (s : State)  : (s.useFree).wdn = s.wdn := rfl
@[simp] theorem State.useFree_mgt (s : State)  : (s.useFree).mgt = s.mgt := rfl
@[simp] theorem State.useFree_mem (s : State)  : (s.useFree).mem = s.mem := rfl
@[simp] theorem State.useFree_unit (s : State)  : (s.useFree).unit = s.unit := rfl
@[simp] theorem State.useFree_timeNs (s : State)  : (s.useFree).timeNs = s.timeNs := rfl
@[simp] theorem State.useFree_slew (s : State)  : (s.useFree).slew = s.slew := rfl
@[simp] theorem State.useFree_out (s : State)  : (s.useFree).out = s.out := rfl
@[simp] theorem State.useFree_pending (s : State)  : (s.useFree).pending = s.pending := rfl

@[simp] theorem State.emit_out (s : State) (o : Out) : (s.emit o).out = s.out ++ [o] := rfl
@[simp] theorem State.pinOut_out (s : State) (n : String) (k : Nat) (l : Option Bool) : (s.pinOut n k l).out = s.out ++ [.pin n k l] := rfl
@[simp] theorem State.useFree_free (s : State) : s.useFree.free = s.free + 1 := rfl

/-! ## Reading registers after a write -/

theorem State.regsOk_of_regs {s t : State} (h : s.regsOk) (e : t.regs = s.regs) : t.regsOk := by
  unfold State.regsOk at *
  rw [e]
  exact h

theorem State.regsOk_wr {s : State} (h : s.regsOk) (p : Page) (f : Fld) (v i : Nat) : (s.wr p f v i).regsOk := by
  unfold State.regsOk State.wr at *
  dsimp only
  split
  · exact rising_tdel h _
  · exact rising_tset h _ _

theorem State.regsOk_put {s : State} (h : s.regsOk) (f : Fld) (v i j : Nat) : (s.put f v i j).regsOk := State.regsOk_wr h _ _ _ _
theorem State.regsOk_inc {s : State} (h : s.regsOk) (f : Fld) (n i j : Nat) : (s.inc f n i j).regsOk := State.regsOk_wr h _ _ _ _
theorem State.regsOk_incMod {s : State} (h : s.regsOk) (f : Fld) (n i j : Nat) : (s.incMod f n i j).regsOk := State.regsOk_wr h _ _ _ _
theorem State.regsOk_putBit {s : State} (h : s.regsOk) (f : Fld) (k : Nat) (b : Bool) (i j : Nat) : (s.putBit f k b i j).regsOk := State.regsOk_wr h _ _ _ _

/-- A field read after it is written: the value, cut to the field's width. -/
theorem State.rd_wr_same {s : State} (h : s.regsOk) (p : Page) (f : Fld) (v i : Nat) : (s.wr p f v i).rd p f i = v % 2 ^ f.width := by
  unfold State.rd State.wr
  dsimp only
  split
  · rename_i e
    rw [tget_tdel_same]
    exact e.symm
  · rw [tget_tset_same]
    rfl

/-- Any other field stays. -/
theorem State.rd_wr_ne {s : State} (h : s.regsOk) {p q : Page} {f g : Fld} {i j : Nat} (v : Nat) (hk : g.key q j ≠ f.key p i) :
    (s.wr p f v i).rd q g j = s.rd q g j := by
  unfold State.rd State.wr
  dsimp only
  split
  · rw [tget_tdel_ne _ hk]
  · rw [tget_tset_ne _ _ hk]

theorem State.get_put_same {s : State} (h : s.regsOk) (f : Fld) (v i j : Nat) : (s.put f v i j).get f i j = v % 2 ^ f.width :=
  State.rd_wr_same h _ _ _ _

theorem State.get_put_ne {s : State} (h : s.regsOk) {f g : Fld} {i j a b : Nat} (v : Nat) (hk : g.key ⟨g.blk, a⟩ b ≠ f.key ⟨f.blk, i⟩ j) :
    (s.put f v i j).get g a b = s.get g a b :=
  State.rd_wr_ne h v hk

/-- A value that fits the field's width is stored whole. -/
theorem State.get_put_fit {s : State} (h : s.regsOk) (f : Fld) {v : Nat} (i j : Nat) (hv : v < 2 ^ f.width) : (s.put f v i j).get f i j = v := by
  rw [State.get_put_same h, Nat.mod_eq_of_lt hv]

/-- Two fields whose bits start at different places of their pages have different keys. -/
theorem Fld.key_inj {p q : Page} {f g : Fld} {i j : Nat} (h : f.key p i = g.key q j) (hf : (f.off + f.stride * i) * 8 + f.lo < 32768)
    (hg : (g.off + g.stride * j) * 8 + g.lo < 32768) :
    p.blk.code * 256 + p.inst = q.blk.code * 256 + q.inst ∧ (f.off + f.stride * i) * 8 + f.lo = (g.off + g.stride * j) * 8 + g.lo := by
  unfold Fld.key pageBit at h
  omega

theorem Blk.code_inj {a b : Blk} (h : a.code = b.code) : a = b := by
  cases a <;> cases b <;> simp_all [Blk.code]

/-- Fields of different pages have different keys. -/
theorem Fld.key_ne_page {p q : Page} {f g : Fld} {i j : Nat} (hf : (f.off + f.stride * i) * 8 + f.lo < 32768)
    (hg : (g.off + g.stride * j) * 8 + g.lo < 32768) (hp : p.inst < 256) (hq : q.inst < 256) (hpq : p ≠ q) : f.key p i ≠ g.key q j := by
  intro h
  obtain ⟨h1, -⟩ := Fld.key_inj h hf hg
  apply hpq
  have hc : p.blk.code = q.blk.code := by omega
  have hb := Blk.code_inj hc
  have hi : p.inst = q.inst := by omega
  cases p
  cases q
  simp_all

/-- Fields at different places have different keys. -/
theorem Fld.key_ne_place {p q : Page} {f g : Fld} {i j : Nat} (hf : (f.off + f.stride * i) * 8 + f.lo < 32768)
    (hg : (g.off + g.stride * j) * 8 + g.lo < 32768) (h : (f.off + f.stride * i) * 8 + f.lo ≠ (g.off + g.stride * j) * 8 + g.lo) :
    f.key p i ≠ g.key q j := fun e => h (Fld.key_inj e hf hg).2

theorem State.reset_regsOk : State.reset.regsOk := trivial

end Sys2Proof.Machine
end

