-- ==== Sys2Proof/Laws/Report.lean ====
section
/-! SUPPORT. What reporting an event or an error leaves alone: everything but registers, the event fabric, the recorder, the outputs, wake latches, MSI-X bits and the counter of free values. -/
namespace Sys2Proof.Machine

/-- The parts of State that no report touches. -/
def State.aside (s : State) :=
  (s.ctl, s.xlt, s.qe, s.mov, s.tier, s.pan, s.twn, s.cmn, s.dmc, s.flm, s.seq, s.hrv, s.clk, s.cip, s.nvs, s.wdn, s.mgt, s.mem, s.unit, s.timeNs, s.slew, s.pending)

theorem foldl_same {α β γ : Type} (g : β → γ) (f : β → α → β) (h : ∀ b a, g (f b a) = g b) (l : List α) (b : β) : g (l.foldl f b) = g b := by
  induction l generalizing b with
  | nil => rfl
  | cons a l ih => rw [List.foldl_cons, ih, h]

@[simp] theorem State.wr_aside (s : State) (p : Page) (f : Fld) (v i : Nat) : (s.wr p f v i).aside = s.aside := Eq.trans rfl rfl
@[simp] theorem State.put_aside (s : State) (f : Fld) (v i j : Nat) : (s.put f v i j).aside = s.aside := rfl
@[simp] theorem State.inc_aside (s : State) (f : Fld) (v i j : Nat) : (s.inc f v i j).aside = s.aside := rfl
@[simp] theorem State.incMod_aside (s : State) (f : Fld) (v i j : Nat) : (s.incMod f v i j).aside = s.aside := rfl
@[simp] theorem State.putBit_aside (s : State) (f : Fld) (k : Nat) (b : Bool) (i j : Nat) : (s.putBit f k b i j).aside = s.aside := rfl
@[simp] theorem State.emit_aside (s : State) (o : Out) : (s.emit o).aside = s.aside := rfl
@[simp] theorem State.pinOut_aside (s : State) (n : String) (k : Nat) (l : Option Bool) : (s.pinOut n k l).aside = s.aside := rfl
@[simp] theorem State.useFree_aside (s : State) : s.useFree.aside = s.aside := rfl
@[simp] theorem State.setPending_aside (s : State) (c n : Nat) : (s.setPending c n).aside = s.aside := rfl
@[simp] theorem State.foldCode_aside (s : State) (c n f l i v : Nat) (p : List Byte) : (s.foldCode c n f l i v p).aside = s.aside := rfl

@[simp] theorem State.raiseVector_aside (s : State) (p l : Nat) (m : Bool) (v : Nat) : (s.raiseVector p l m v).aside = s.aside := by
  unfold State.raiseVector
  dsimp only
  split_ifs <;> rfl

@[simp] theorem State.alertPin_aside (s : State) (k : Nat) : (s.alertPin k).aside = s.aside := by
  unfold State.alertPin
  dsimp only
  split_ifs <;> rfl

@[simp] theorem State.alertPins_aside (s : State) : s.alertPins.aside = s.aside := by simp [State.alertPins]

@[simp] theorem State.latchWake_aside (s : State) (n c : Nat) : (s.latchWake n c).aside = s.aside := by
  unfold State.latchWake
  dsimp only
  split_ifs <;> rfl

@[simp] theorem State.wakeStart_aside (s : State) (n : Nat) : (s.wakeStart n).aside = s.aside := by
  unfold State.wakeStart
  dsimp only
  split_ifs <;> rfl

@[simp] theorem State.wakeEvent_aside (s : State) (n c : Nat) : (s.wakeEvent n c).aside = s.aside := by
  unfold State.wakeEvent
  dsimp only
  split_ifs <;> simp

@[simp] theorem State.signal_aside (s : State) (c : Nat) : (s.signal c).aside = s.aside := by
  unfold State.signal
  dsimp only
  split <;> (try split_ifs) <;> simp

@[simp] theorem State.chanHit_aside (s : State) (c : Nat) : (s.chanHit c).aside = s.aside := by
  unfold State.chanHit
  dsimp only
  split_ifs <;> simp

@[simp] theorem State.deliver_aside (s : State) (p : Page) (k : Nat) : (s.deliver p k).aside = s.aside := by
  unfold State.deliver
  dsimp only
  split_ifs <;> simp

@[simp] theorem State.postAlarm_aside (s : State) (a : Alarm) : (s.postAlarm a).aside = s.aside := by
  unfold State.postAlarm
  dsimp only
  rw [foldl_same State.aside]
  · show State.aside (if _ then _ else _) = _
    split_ifs <;> rfl
  · intro b c
    split_ifs <;> rfl

theorem State.forward_aside (err : State → Page → Nat → State) (he : ∀ s p k, (err s p k).aside = s.aside) (s : State) (r : Record) :
    (State.forward err s r).aside = s.aside := by
  unfold State.forward
  dsimp only
  split_ifs <;> (try rw [he]) <;> (try rw [State.postAlarm_aside]) <;> rfl

theorem State.writeRecord_aside (err : State → Page → Nat → State) (he : ∀ s p k, (err s p k).aside = s.aside) (s : State) (c i v : Nat) (pl : List Byte) (f m : Bool) :
    (State.writeRecord err s c i v pl f m).aside = s.aside := by
  unfold State.writeRecord
  split
  · rfl
  · dsimp only
    rfl
  · dsimp only
    rw [State.forward_aside err he]
    show State.aside (if _ then _ else _) = _
    split_ifs <;> rfl

theorem State.record_aside (err : State → Page → Nat → State) (he : ∀ s p k, (err s p k).aside = s.aside) (s : State) (c i v : Nat) (pl : List Byte) (f : Bool) :
    (State.record err s c i v pl f).aside = s.aside := by
  unfold State.record
  dsimp only
  split_ifs <;> (try rw [State.writeRecord_aside err he]) <;> rfl

theorem State.sendOcc_aside (err : State → Page → Nat → State) (he : ∀ s p k, (err s p k).aside = s.aside) (s : State) (p : Page) (i v : Nat) (pl : List Byte) (f : Bool) :
    (State.sendOcc err s p i v pl f).aside = s.aside := by
  unfold State.sendOcc
  dsimp only
  split_ifs <;> (try rw [State.deliver_aside, State.record_aside err he]) <;> rfl

theorem State.occurWith_aside (err : State → Page → Nat → State) (he : ∀ s p k, (err s p k).aside = s.aside) (s : State) (p : Page) (i v : Nat) (pl : List Byte) (f : Bool) :
    (State.occurWith err s p i v pl f).aside = s.aside := by
  unfold State.occurWith
  dsimp only
  rw [State.sendOcc_aside err he]
  split_ifs
  · rw [State.wr_aside]
  · rfl

@[simp] theorem State.setErr_aside (s : State) (p : Page) (k : Nat) (c : Option Capture) : (s.setErr p k c).aside = s.aside := by
  unfold State.setErr
  cases c <;> dsimp only <;> split_ifs <;> simp only [State.wr_aside]

theorem State.errAlarm_aside (s : State) (p : Page) (k : Nat) : (s.errAlarm p k).aside = s.aside := by
  unfold State.errAlarm
  rw [State.occurWith_aside, State.setErr_aside]
  intro s p k
  unfold State.errInner
  rw [State.occurWith_aside, State.setErr_aside]
  intro s p k
  exact State.setErr_aside s p k none

/-- An occurrence touches only what reports touch. -/
@[simp] theorem State.occur_aside (s : State) (p : Page) (i v : Nat) (pl : List Byte) : (s.occur p i v pl).aside = s.aside :=
  State.occurWith_aside _ State.errAlarm_aside _ _ _ _ _ _

@[simp] theorem State.occurWith_errAlarm_aside (s : State) (p : Page) (i v : Nat) (pl : List Byte) (f : Bool) :
    (s.occurWith State.errAlarm p i v pl f).aside = s.aside := State.occurWith_aside _ State.errAlarm_aside _ _ _ _ _ _

@[simp] theorem State.misc_aside (s : State) (p : Page) (v : Nat) (pl : List Byte) : (s.misc p v pl).aside = s.aside := State.occur_aside _ _ _ _ _

@[simp] theorem State.blkErr_aside (s : State) (p : Page) (k v : Nat) (pl : List Byte) (c : Option Capture) : (s.blkErr p k v pl c).aside = s.aside := by
  unfold State.blkErr
  dsimp only
  split_ifs <;> simp

@[simp] theorem State.ctlErr_aside (s : State) (p : Page) (k v : Nat) (c : Capture) : (s.ctlErr p k v c).aside = s.aside := by
  simp [State.ctlErr]

theorem State.aside_parts {s t : State} (h : s.aside = t.aside) :
    s.ctl = t.ctl ∧ s.xlt = t.xlt ∧ s.qe = t.qe ∧ s.mov = t.mov ∧ s.tier = t.tier ∧ s.pan = t.pan ∧ s.twn = t.twn ∧ s.cmn = t.cmn ∧ s.dmc = t.dmc ∧ s.flm = t.flm ∧ s.seq = t.seq ∧ s.hrv = t.hrv ∧ s.clk = t.clk ∧ s.cip = t.cip ∧ s.nvs = t.nvs ∧ s.wdn = t.wdn ∧ s.mgt = t.mgt ∧ s.mem = t.mem ∧ s.unit = t.unit ∧ s.timeNs = t.timeNs ∧ s.slew = t.slew ∧ s.pending = t.pending := by
  simpa [State.aside, Prod.mk.injEq] using h

/-! ## Field by field -/

@[simp] theorem State.raiseVector_ctl (s : State) (p l : Nat) (m : Bool) (v : Nat) : (s.raiseVector p l m v).ctl = s.ctl := congrArg (fun a => a.1) (State.raiseVector_aside s p l m v)
@[simp] theorem State.raiseVector_xlt (s : State) (p l : Nat) (m : Bool) (v : Nat) : (s.raiseVector p l m v).xlt = s.xlt := congrArg (fun a => a.2.1) (State.raiseVector_aside s p l m v)
@[simp] theorem State.raiseVector_qe (s : State) (p l : Nat) (m : Bool) (v : Nat) : (s.raiseVector p l m v).qe = s.qe := congrArg (fun a => a.2.2.1) (State.raiseVector_aside s p l m v)
@[simp] theorem State.raiseVector_mov (s : State) (p l : Nat) (m : Bool) (v : Nat) : (s.raiseVector p l m v).mov = s.mov := congrArg (fun a => a.2.2.2.1) (State.raiseVector_aside s p l m v)
@[simp] theorem State.raiseVector_tier (s : State) (p l : Nat) (m : Bool) (v : Nat) : (s.raiseVector p l m v).tier = s.tier := congrArg (fun a => a.2.2.2.2.1) (State.raiseVector_aside s p l m v)
@[simp] theorem State.raiseVector_pan (s : State) (p l : Nat) (m : Bool) (v : Nat) : (s.raiseVector p l m v).pan = s.pan := congrArg (fun a => a.2.2.2.2.2.1) (State.raiseVector_aside s p l m v)
@[simp] theorem State.raiseVector_twn (s : State) (p l : Nat) (m : Bool) (v : Nat) : (s.raiseVector p l m v).twn = s.twn := congrArg (fun a => a.2.2.2.2.2.2.1) (State.raiseVector_aside s p l m v)
@[simp] theorem State.raiseVector_cmn (s : State) (p l : Nat) (m : Bool) (v : Nat) : (s.raiseVector p l m v).cmn = s.cmn := congrArg (fun a => a.2.2.2.2.2.2.2.1) (State.raiseVector_aside s p l m v)
@[simp] theorem State.raiseVector_dmc (s : State) (p l : Nat) (m : Bool) (v : Nat) : (s.raiseVector p l m v).dmc = s.dmc := congrArg (fun a => a.2.2.2.2.2.2.2.2.1) (State.raiseVector_aside s p l m v)
@[simp] theorem State.raiseVector_flm (s : State) (p l : Nat) (m : Bool) (v : Nat) : (s.raiseVector p l m v).flm = s.flm := congrArg (fun a => a.2.2.2.2.2.2.2.2.2.1) (State.raiseVector_aside s p l m v)
@[simp] theorem State.raiseVector_seq (s : State) (p l : Nat) (m : Bool) (v : Nat) : (s.raiseVector p l m v).seq = s.seq := congrArg (fun a => a.2.2.2.2.2.2.2.2.2.2.1) (State.raiseVector_aside s p l m v)
@[simp] theorem State.raiseVector_hrv (s : State) (p l : Nat) (m : Bool) (v : Nat) : (s.raiseVector p l m v).hrv = s.hrv := congrArg (fun a => a.2.2.2.2.2.2.2.2.2.2.2.1) (State.raiseVector_aside s p l m v)
@[simp] theorem State.raiseVector_clk (s : State) (p l : Nat) (m : Bool) (v : Nat) : (s.raiseVector p l m v).clk = s.clk := congrArg (fun a => a.2.2.2.2.2.2.2.2.2.2.2.2.1) (State.raiseVector_aside s p l m v)
@[simp] theorem State.raiseVector_cip (s : State) (p l : Nat) (m : Bool) (v : Nat) : (s.raiseVector p l m v).cip = s.cip := congrArg (fun a => a.2.2.2.2.2.2.2.2.2.2.2.2.2.1) (State.raiseVector_aside s p l m v)
@[simp] theorem State.raiseVector_nvs (s : State) (p l : Nat) (m : Bool) (v : Nat) : (s.raiseVector p l m v).nvs = s.nvs := congrArg (fun a => a.2.2.2.2.2.2.2.2.2.2.2.2.2.2.1) (State.raiseVector_aside s p l m v)
@[simp] theorem State.raiseVector_wdn (s : State) (p l : Nat) (m : Bool) (v : Nat) : (s.raiseVector p l m v).wdn = s.wdn := congrArg (fun a => a.2.2.2.2.2.2.2.2.2.2.2.2.2.2.2.1) (State.raiseVector_aside s p l m v)
@[simp] theorem State.raiseVector_mgt (s : State) (p l : Nat) (m : Bool) (v : Nat) : (s.raiseVector p l m v).mgt = s.mgt := congrArg (fun a => a.2.2.2.2.2.2.2.2.2.2.2.2.2.2.2.2.1) (State.raiseVector_aside s p l m v)
@[simp] theorem State.raiseVector_mem (s : State) (p l : Nat) (m : Bool) (v : Nat) : (s.raiseVector p l m v).mem = s.mem := congrArg (fun a => a.2.2.2.2.2.2.2.2.2.2.2.2.2.2.2.2.2.1) (State.raiseVector_aside s p l m v)
@[simp] theorem State.raiseVector_unit (s : State) (p l : Nat) (m : Bool) (v : Nat) : (s.raiseVector p l m v).unit = s.unit := congrArg (fun a => a.2.2.2.2.2.2.2.2.2.2.2.2.2.2.2.2.2.2.1) (State.raiseVector_aside s p l m v)
@[simp] theorem State.raiseVector_timeNs (s : State) (p l : Nat) (m : Bool) (v : Nat) : (s.raiseVector p l m v).timeNs = s.timeNs := congrArg (fun a => a.2.2.2.2.2.2.2.2.2.2.2.2.2.2.2.2.2.2.2.1) (State.raiseVector_aside s p l m v)
@[simp] theorem State.raiseVector_slew (s : State) (p l : Nat) (m : Bool) (v : Nat) : (s.raiseVector p l m v).slew = s.slew := congrArg (fun a => a.2.2.2.2.2.2.2.2.2.2.2.2.2.2.2.2.2.2.2.2.1) (State.raiseVector_aside s p l m v)
@[simp] theorem State.raiseVector_pending (s : State) (p l : Nat) (m : Bool) (v : Nat) : (s.raiseVector p l m v).pending = s.pending := congrArg (fun a => a.2.2.2.2.2.2.2.2.2.2.2.2.2.2.2.2.2.2.2.2.2) (State.raiseVector_aside s p l m v)

@[simp] theorem State.wakeStart_ctl (s : State) (n : Nat) : (s.wakeStart n).ctl = s.ctl := congrArg (fun a => a.1) (State.wakeStart_aside s n)
@[simp] theorem State.wakeStart_xlt (s : State) (n : Nat) : (s.wakeStart n).xlt = s.xlt := congrArg (fun a => a.2.1) (State.wakeStart_aside s n)
@[simp] theorem State.wakeStart_qe (s : State) (n : Nat) : (s.wakeStart n).qe = s.qe := congrArg (fun a => a.2.2.1) (State.wakeStart_aside s n)
@[simp] theorem State.wakeStart_mov (s : State) (n : Nat) : (s.wakeStart n).mov = s.mov := congrArg (fun a => a.2.2.2.1) (State.wakeStart_aside s n)
@[simp] theorem State.wakeStart_tier (s : State) (n : Nat) : (s.wakeStart n).tier = s.tier := congrArg (fun a => a.2.2.2.2.1) (State.wakeStart_aside s n)
@[simp] theorem State.wakeStart_pan (s : State) (n : Nat) : (s.wakeStart n).pan = s.pan := congrArg (fun a => a.2.2.2.2.2.1) (State.wakeStart_aside s n)
@[simp] theorem State.wakeStart_twn (s : State) (n : Nat) : (s.wakeStart n).twn = s.twn := congrArg (fun a => a.2.2.2.2.2.2.1) (State.wakeStart_aside s n)
@[simp] theorem State.wakeStart_cmn (s : State) (n : Nat) : (s.wakeStart n).cmn = s.cmn := congrArg (fun a => a.2.2.2.2.2.2.2.1) (State.wakeStart_aside s n)
@[simp] theorem State.wakeStart_dmc (s : State) (n : Nat) : (s.wakeStart n).dmc = s.dmc := congrArg (fun a => a.2.2.2.2.2.2.2.2.1) (State.wakeStart_aside s n)
@[simp] theorem State.wakeStart_flm (s : State) (n : Nat) : (s.wakeStart n).flm = s.flm := congrArg (fun a => a.2.2.2.2.2.2.2.2.2.1) (State.wakeStart_aside s n)
@[simp] theorem State.wakeStart_seq (s : State) (n : Nat) : (s.wakeStart n).seq = s.seq := congrArg (fun a => a.2.2.2.2.2.2.2.2.2.2.1) (State.wakeStart_aside s n)
@[simp] theorem State.wakeStart_hrv (s : State) (n : Nat) : (s.wakeStart n).hrv = s.hrv := congrArg (fun a => a.2.2.2.2.2.2.2.2.2.2.2.1) (State.wakeStart_aside s n)
@[simp] theorem State.wakeStart_clk (s : State) (n : Nat) : (s.wakeStart n).clk = s.clk := congrArg (fun a => a.2.2.2.2.2.2.2.2.2.2.2.2.1) (State.wakeStart_aside s n)
@[simp] theorem State.wakeStart_cip (s : State) (n : Nat) : (s.wakeStart n).cip = s.cip := congrArg (fun a => a.2.2.2.2.2.2.2.2.2.2.2.2.2.1) (State.wakeStart_aside s n)
@[simp] theorem State.wakeStart_nvs (s : State) (n : Nat) : (s.wakeStart n).nvs = s.nvs := congrArg (fun a => a.2.2.2.2.2.2.2.2.2.2.2.2.2.2.1) (State.wakeStart_aside s n)
@[simp] theorem State.wakeStart_wdn (s : State) (n : Nat) : (s.wakeStart n).wdn = s.wdn := congrArg (fun a => a.2.2.2.2.2.2.2.2.2.2.2.2.2.2.2.1) (State.wakeStart_aside s n)
@[simp] theorem State.wakeStart_mgt (s : State) (n : Nat) : (s.wakeStart n).mgt = s.mgt := congrArg (fun a => a.2.2.2.2.2.2.2.2.2.2.2.2.2.2.2.2.1) (State.wakeStart_aside s n)
@[simp] theorem State.wakeStart_mem (s : State) (n : Nat) : (s.wakeStart n).mem = s.mem := congrArg (fun a => a.2.2.2.2.2.2.2.2.2.2.2.2.2.2.2.2.2.1) (State.wakeStart_aside s n)
@[simp] theorem State.wakeStart_unit (s : State) (n : Nat) : (s.wakeStart n).unit = s.unit := congrArg (fun a => a.2.2.2.2.2.2.2.2.2.2.2.2.2.2.2.2.2.2.1) (State.wakeStart_aside s n)
@[simp] theorem State.wakeStart_timeNs (s : State) (n : Nat) : (s.wakeStart n).timeNs = s.timeNs := congrArg (fun a => a.2.2.2.2.2.2.2.2.2.2.2.2.2.2.2.2.2.2.2.1) (State.wakeStart_aside s n)
@[simp] theorem State.wakeStart_slew (s : State) (n : Nat) : (s.wakeStart n).slew = s.slew := congrArg (fun a => a.2.2.2.2.2.2.2.2.2.2.2.2.2.2.2.2.2.2.2.2.1) (State.wakeStart_aside s n)
@[simp] theorem State.wakeStart_pending (s : State) (n : Nat) : (s.wakeStart n).pending = s.pending := congrArg (fun a => a.2.2.2.2.2.2.2.2.2.2.2.2.2.2.2.2.2.2.2.2.2) (State.wakeStart_aside s n)

@[simp] theorem State.wakeEvent_ctl (s : State) (n c : Nat) : (s.wakeEvent n c).ctl = s.ctl := congrArg (fun a => a.1) (State.wakeEvent_aside s n c)
@[simp] theorem State.wakeEvent_xlt (s : State) (n c : Nat) : (s.wakeEvent n c).xlt = s.xlt := congrArg (fun a => a.2.1) (State.wakeEvent_aside s n c)
@[simp] theorem State.wakeEvent_qe (s : State) (n c : Nat) : (s.wakeEvent n c).qe = s.qe := congrArg (fun a => a.2.2.1) (State.wakeEvent_aside s n c)
@[simp] theorem State.wakeEvent_mov (s : State) (n c : Nat) : (s.wakeEvent n c).mov = s.mov := congrArg (fun a => a.2.2.2.1) (State.wakeEvent_aside s n c)
@[simp] theorem State.wakeEvent_tier (s : State) (n c : Nat) : (s.wakeEvent n c).tier = s.tier := congrArg (fun a => a.2.2.2.2.1) (State.wakeEvent_aside s n c)
@[simp] theorem State.wakeEvent_pan (s : State) (n c : Nat) : (s.wakeEvent n c).pan = s.pan := congrArg (fun a => a.2.2.2.2.2.1) (State.wakeEvent_aside s n c)
@[simp] theorem State.wakeEvent_twn (s : State) (n c : Nat) : (s.wakeEvent n c).twn = s.twn := congrArg (fun a => a.2.2.2.2.2.2.1) (State.wakeEvent_aside s n c)
@[simp] theorem State.wakeEvent_cmn (s : State) (n c : Nat) : (s.wakeEvent n c).cmn = s.cmn := congrArg (fun a => a.2.2.2.2.2.2.2.1) (State.wakeEvent_aside s n c)
@[simp] theorem State.wakeEvent_dmc (s : State) (n c : Nat) : (s.wakeEvent n c).dmc = s.dmc := congrArg (fun a => a.2.2.2.2.2.2.2.2.1) (State.wakeEvent_aside s n c)
@[simp] theorem State.wakeEvent_flm (s : State) (n c : Nat) : (s.wakeEvent n c).flm = s.flm := congrArg (fun a => a.2.2.2.2.2.2.2.2.2.1) (State.wakeEvent_aside s n c)
@[simp] theorem State.wakeEvent_seq (s : State) (n c : Nat) : (s.wakeEvent n c).seq = s.seq := congrArg (fun a => a.2.2.2.2.2.2.2.2.2.2.1) (State.wakeEvent_aside s n c)
@[simp] theorem State.wakeEvent_hrv (s : State) (n c : Nat) : (s.wakeEvent n c).hrv = s.hrv := congrArg (fun a => a.2.2.2.2.2.2.2.2.2.2.2.1) (State.wakeEvent_aside s n c)
@[simp] theorem State.wakeEvent_clk (s : State) (n c : Nat) : (s.wakeEvent n c).clk = s.clk := congrArg (fun a => a.2.2.2.2.2.2.2.2.2.2.2.2.1) (State.wakeEvent_aside s n c)
@[simp] theorem State.wakeEvent_cip (s : State) (n c : Nat) : (s.wakeEvent n c).cip = s.cip := congrArg (fun a => a.2.2.2.2.2.2.2.2.2.2.2.2.2.1) (State.wakeEvent_aside s n c)
@[simp] theorem State.wakeEvent_nvs (s : State) (n c : Nat) : (s.wakeEvent n c).nvs = s.nvs := congrArg (fun a => a.2.2.2.2.2.2.2.2.2.2.2.2.2.2.1) (State.wakeEvent_aside s n c)
@[simp] theorem State.wakeEvent_wdn (s : State) (n c : Nat) : (s.wakeEvent n c).wdn = s.wdn := congrArg (fun a => a.2.2.2.2.2.2.2.2.2.2.2.2.2.2.2.1) (State.wakeEvent_aside s n c)
@[simp] theorem State.wakeEvent_mgt (s : State) (n c : Nat) : (s.wakeEvent n c).mgt = s.mgt := congrArg (fun a => a.2.2.2.2.2.2.2.2.2.2.2.2.2.2.2.2.1) (State.wakeEvent_aside s n c)
@[simp] theorem State.wakeEvent_mem (s : State) (n c : Nat) : (s.wakeEvent n c).mem = s.mem := congrArg (fun a => a.2.2.2.2.2.2.2.2.2.2.2.2.2.2.2.2.2.1) (State.wakeEvent_aside s n c)
@[simp] theorem State.wakeEvent_unit (s : State) (n c : Nat) : (s.wakeEvent n c).unit = s.unit := congrArg (fun a => a.2.2.2.2.2.2.2.2.2.2.2.2.2.2.2.2.2.2.1) (State.wakeEvent_aside s n c)
@[simp] theorem State.wakeEvent_timeNs (s : State) (n c : Nat) : (s.wakeEvent n c).timeNs = s.timeNs := congrArg (fun a => a.2.2.2.2.2.2.2.2.2.2.2.2.2.2.2.2.2.2.2.1) (State.wakeEvent_aside s n c)
@[simp] theorem State.wakeEvent_slew (s : State) (n c : Nat) : (s.wakeEvent n c).slew = s.slew := congrArg (fun a => a.2.2.2.2.2.2.2.2.2.2.2.2.2.2.2.2.2.2.2.2.1) (State.wakeEvent_aside s n c)
@[simp] theorem State.wakeEvent_pending (s : State) (n c : Nat) : (s.wakeEvent n c).pending = s.pending := congrArg (fun a => a.2.2.2.2.2.2.2.2.2.2.2.2.2.2.2.2.2.2.2.2.2) (State.wakeEvent_aside s n c)

@[simp] theorem State.deliver_ctl (s : State) (p : Page) (k : Nat) : (s.deliver p k).ctl = s.ctl := congrArg (fun a => a.1) (State.deliver_aside s p k)
@[simp] theorem State.deliver_xlt (s : State) (p : Page) (k : Nat) : (s.deliver p k).xlt = s.xlt := congrArg (fun a => a.2.1) (State.deliver_aside s p k)
@[simp] theorem State.deliver_qe (s : State) (p : Page) (k : Nat) : (s.deliver p k).qe = s.qe := congrArg (fun a => a.2.2.1) (State.deliver_aside s p k)
@[simp] theorem State.deliver_mov (s : State) (p : Page) (k : Nat) : (s.deliver p k).mov = s.mov := congrArg (fun a => a.2.2.2.1) (State.deliver_aside s p k)
@[simp] theorem State.deliver_tier (s : State) (p : Page) (k : Nat) : (s.deliver p k).tier = s.tier := congrArg (fun a => a.2.2.2.2.1) (State.deliver_aside s p k)
@[simp] theorem State.deliver_pan (s : State) (p : Page) (k : Nat) : (s.deliver p k).pan = s.pan := congrArg (fun a => a.2.2.2.2.2.1) (State.deliver_aside s p k)
@[simp] theorem State.deliver_twn (s : State) (p : Page) (k : Nat) : (s.deliver p k).twn = s.twn := congrArg (fun a => a.2.2.2.2.2.2.1) (State.deliver_aside s p k)
@[simp] theorem State.deliver_cmn (s : State) (p : Page) (k : Nat) : (s.deliver p k).cmn = s.cmn := congrArg (fun a => a.2.2.2.2.2.2.2.1) (State.deliver_aside s p k)
@[simp] theorem State.deliver_dmc (s : State) (p : Page) (k : Nat) : (s.deliver p k).dmc = s.dmc := congrArg (fun a => a.2.2.2.2.2.2.2.2.1) (State.deliver_aside s p k)
@[simp] theorem State.deliver_flm (s : State) (p : Page) (k : Nat) : (s.deliver p k).flm = s.flm := congrArg (fun a => a.2.2.2.2.2.2.2.2.2.1) (State.deliver_aside s p k)
@[simp] theorem State.deliver_seq (s : State) (p : Page) (k : Nat) : (s.deliver p k).seq = s.seq := congrArg (fun a => a.2.2.2.2.2.2.2.2.2.2.1) (State.deliver_aside s p k)
@[simp] theorem State.deliver_hrv (s : State) (p : Page) (k : Nat) : (s.deliver p k).hrv = s.hrv := congrArg (fun a => a.2.2.2.2.2.2.2.2.2.2.2.1) (State.deliver_aside s p k)
@[simp] theorem State.deliver_clk (s : State) (p : Page) (k : Nat) : (s.deliver p k).clk = s.clk := congrArg (fun a => a.2.2.2.2.2.2.2.2.2.2.2.2.1) (State.deliver_aside s p k)
@[simp] theorem State.deliver_cip (s : State) (p : Page) (k : Nat) : (s.deliver p k).cip = s.cip := congrArg (fun a => a.2.2.2.2.2.2.2.2.2.2.2.2.2.1) (State.deliver_aside s p k)
@[simp] theorem State.deliver_nvs (s : State) (p : Page) (k : Nat) : (s.deliver p k).nvs = s.nvs := congrArg (fun a => a.2.2.2.2.2.2.2.2.2.2.2.2.2.2.1) (State.deliver_aside s p k)
@[simp] theorem State.deliver_wdn (s : State) (p : Page) (k : Nat) : (s.deliver p k).wdn = s.wdn := congrArg (fun a => a.2.2.2.2.2.2.2.2.2.2.2.2.2.2.2.1) (State.deliver_aside s p k)
@[simp] theorem State.deliver_mgt (s : State) (p : Page) (k : Nat) : (s.deliver p k).mgt = s.mgt := congrArg (fun a => a.2.2.2.2.2.2.2.2.2.2.2.2.2.2.2.2.1) (State.deliver_aside s p k)
@[simp] theorem State.deliver_mem (s : State) (p : Page) (k : Nat) : (s.deliver p k).mem = s.mem := congrArg (fun a => a.2.2.2.2.2.2.2.2.2.2.2.2.2.2.2.2.2.1) (State.deliver_aside s p k)
@[simp] theorem State.deliver_unit (s : State) (p : Page) (k : Nat) : (s.deliver p k).unit = s.unit := congrArg (fun a => a.2.2.2.2.2.2.2.2.2.2.2.2.2.2.2.2.2.2.1) (State.deliver_aside s p k)
@[simp] theorem State.deliver_timeNs (s : State) (p : Page) (k : Nat) : (s.deliver p k).timeNs = s.timeNs := congrArg (fun a => a.2.2.2.2.2.2.2.2.2.2.2.2.2.2.2.2.2.2.2.1) (State.deliver_aside s p k)
@[simp] theorem State.deliver_slew (s : State) (p : Page) (k : Nat) : (s.deliver p k).slew = s.slew := congrArg (fun a => a.2.2.2.2.2.2.2.2.2.2.2.2.2.2.2.2.2.2.2.2.1) (State.deliver_aside s p k)
@[simp] theorem State.deliver_pending (s : State) (p : Page) (k : Nat) : (s.deliver p k).pending = s.pending := congrArg (fun a => a.2.2.2.2.2.2.2.2.2.2.2.2.2.2.2.2.2.2.2.2.2) (State.deliver_aside s p k)

@[simp] theorem State.setErr_ctl (s : State) (p : Page) (k : Nat) (c : Option Capture) : (s.setErr p k c).ctl = s.ctl := congrArg (fun a => a.1) (State.setErr_aside s p k c)
@[simp] theorem State.setErr_xlt (s : State) (p : Page) (k : Nat) (c : Option Capture) : (s.setErr p k c).xlt = s.xlt := congrArg (fun a => a.2.1) (State.setErr_aside s p k c)
@[simp] theorem State.setErr_qe (s : State) (p : Page) (k : Nat) (c : Option Capture) : (s.setErr p k c).qe = s.qe := congrArg (fun a => a.2.2.1) (State.setErr_aside s p k c)
@[simp] theorem State.setErr_mov (s : State) (p : Page) (k : Nat) (c : Option Capture) : (s.setErr p k c).mov = s.mov := congrArg (fun a => a.2.2.2.1) (State.setErr_aside s p k c)
@[simp] theorem State.setErr_tier (s : State) (p : Page) (k : Nat) (c : Option Capture) : (s.setErr p k c).tier = s.tier := congrArg (fun a => a.2.2.2.2.1) (State.setErr_aside s p k c)
@[simp] theorem State.setErr_pan (s : State) (p : Page) (k : Nat) (c : Option Capture) : (s.setErr p k c).pan = s.pan := congrArg (fun a => a.2.2.2.2.2.1) (State.setErr_aside s p k c)
@[simp] theorem State.setErr_twn (s : State) (p : Page) (k : Nat) (c : Option Capture) : (s.setErr p k c).twn = s.twn := congrArg (fun a => a.2.2.2.2.2.2.1) (State.setErr_aside s p k c)
@[simp] theorem State.setErr_cmn (s : State) (p : Page) (k : Nat) (c : Option Capture) : (s.setErr p k c).cmn = s.cmn := congrArg (fun a => a.2.2.2.2.2.2.2.1) (State.setErr_aside s p k c)
@[simp] theorem State.setErr_dmc (s : State) (p : Page) (k : Nat) (c : Option Capture) : (s.setErr p k c).dmc = s.dmc := congrArg (fun a => a.2.2.2.2.2.2.2.2.1) (State.setErr_aside s p k c)
@[simp] theorem State.setErr_flm (s : State) (p : Page) (k : Nat) (c : Option Capture) : (s.setErr p k c).flm = s.flm := congrArg (fun a => a.2.2.2.2.2.2.2.2.2.1) (State.setErr_aside s p k c)
@[simp] theorem State.setErr_seq (s : State) (p : Page) (k : Nat) (c : Option Capture) : (s.setErr p k c).seq = s.seq := congrArg (fun a => a.2.2.2.2.2.2.2.2.2.2.1) (State.setErr_aside s p k c)
@[simp] theorem State.setErr_hrv (s : State) (p : Page) (k : Nat) (c : Option Capture) : (s.setErr p k c).hrv = s.hrv := congrArg (fun a => a.2.2.2.2.2.2.2.2.2.2.2.1) (State.setErr_aside s p k c)
@[simp] theorem State.setErr_clk (s : State) (p : Page) (k : Nat) (c : Option Capture) : (s.setErr p k c).clk = s.clk := congrArg (fun a => a.2.2.2.2.2.2.2.2.2.2.2.2.1) (State.setErr_aside s p k c)
@[simp] theorem State.setErr_cip (s : State) (p : Page) (k : Nat) (c : Option Capture) : (s.setErr p k c).cip = s.cip := congrArg (fun a => a.2.2.2.2.2.2.2.2.2.2.2.2.2.1) (State.setErr_aside s p k c)
@[simp] theorem State.setErr_nvs (s : State) (p : Page) (k : Nat) (c : Option Capture) : (s.setErr p k c).nvs = s.nvs := congrArg (fun a => a.2.2.2.2.2.2.2.2.2.2.2.2.2.2.1) (State.setErr_aside s p k c)
@[simp] theorem State.setErr_wdn (s : State) (p : Page) (k : Nat) (c : Option Capture) : (s.setErr p k c).wdn = s.wdn := congrArg (fun a => a.2.2.2.2.2.2.2.2.2.2.2.2.2.2.2.1) (State.setErr_aside s p k c)
@[simp] theorem State.setErr_mgt (s : State) (p : Page) (k : Nat) (c : Option Capture) : (s.setErr p k c).mgt = s.mgt := congrArg (fun a => a.2.2.2.2.2.2.2.2.2.2.2.2.2.2.2.2.1) (State.setErr_aside s p k c)
@[simp] theorem State.setErr_mem (s : State) (p : Page) (k : Nat) (c : Option Capture) : (s.setErr p k c).mem = s.mem := congrArg (fun a => a.2.2.2.2.2.2.2.2.2.2.2.2.2.2.2.2.2.1) (State.setErr_aside s p k c)
@[simp] theorem State.setErr_unit (s : State) (p : Page) (k : Nat) (c : Option Capture) : (s.setErr p k c).unit = s.unit := congrArg (fun a => a.2.2.2.2.2.2.2.2.2.2.2.2.2.2.2.2.2.2.1) (State.setErr_aside s p k c)
@[simp] theorem State.setErr_timeNs (s : State) (p : Page) (k : Nat) (c : Option Capture) : (s.setErr p k c).timeNs = s.timeNs := congrArg (fun a => a.2.2.2.2.2.2.2.2.2.2.2.2.2.2.2.2.2.2.2.1) (State.setErr_aside s p k c)
@[simp] theorem State.setErr_slew (s : State) (p : Page) (k : Nat) (c : Option Capture) : (s.setErr p k c).slew = s.slew := congrArg (fun a => a.2.2.2.2.2.2.2.2.2.2.2.2.2.2.2.2.2.2.2.2.1) (State.setErr_aside s p k c)
@[simp] theorem State.setErr_pending (s : State) (p : Page) (k : Nat) (c : Option Capture) : (s.setErr p k c).pending = s.pending := congrArg (fun a => a.2.2.2.2.2.2.2.2.2.2.2.2.2.2.2.2.2.2.2.2.2) (State.setErr_aside s p k c)

@[simp] theorem State.occur_ctl (s : State) (p : Page) (i v : Nat) (pl : List Byte) : (s.occur p i v pl).ctl = s.ctl := congrArg (fun a => a.1) (State.occur_aside s p i v pl)
@[simp] theorem State.occur_xlt (s : State) (p : Page) (i v : Nat) (pl : List Byte) : (s.occur p i v pl).xlt = s.xlt := congrArg (fun a => a.2.1) (State.occur_aside s p i v pl)
@[simp] theorem State.occur_qe (s : State) (p : Page) (i v : Nat) (pl : List Byte) : (s.occur p i v pl).qe = s.qe := congrArg (fun a => a.2.2.1) (State.occur_aside s p i v pl)
@[simp] theorem State.occur_mov (s : State) (p : Page) (i v : Nat) (pl : List Byte) : (s.occur p i v pl).mov = s.mov := congrArg (fun a => a.2.2.2.1) (State.occur_aside s p i v pl)
@[simp] theorem State.occur_tier (s : State) (p : Page) (i v : Nat) (pl : List Byte) : (s.occur p i v pl).tier = s.tier := congrArg (fun a => a.2.2.2.2.1) (State.occur_aside s p i v pl)
@[simp] theorem State.occur_pan (s : State) (p : Page) (i v : Nat) (pl : List Byte) : (s.occur p i v pl).pan = s.pan := congrArg (fun a => a.2.2.2.2.2.1) (State.occur_aside s p i v pl)
@[simp] theorem State.occur_twn (s : State) (p : Page) (i v : Nat) (pl : List Byte) : (s.occur p i v pl).twn = s.twn := congrArg (fun a => a.2.2.2.2.2.2.1) (State.occur_aside s p i v pl)
@[simp] theorem State.occur_cmn (s : State) (p : Page) (i v : Nat) (pl : List Byte) : (s.occur p i v pl).cmn = s.cmn := congrArg (fun a => a.2.2.2.2.2.2.2.1) (State.occur_aside s p i v pl)
@[simp] theorem State.occur_dmc (s : State) (p : Page) (i v : Nat) (pl : List Byte) : (s.occur p i v pl).dmc = s.dmc := congrArg (fun a => a.2.2.2.2.2.2.2.2.1) (State.occur_aside s p i v pl)
@[simp] theorem State.occur_flm (s : State) (p : Page) (i v : Nat) (pl : List Byte) : (s.occur p i v pl).flm = s.flm := congrArg (fun a => a.2.2.2.2.2.2.2.2.2.1) (State.occur_aside s p i v pl)
@[simp] theorem State.occur_seq (s : State) (p : Page) (i v : Nat) (pl : List Byte) : (s.occur p i v pl).seq = s.seq := congrArg (fun a => a.2.2.2.2.2.2.2.2.2.2.1) (State.occur_aside s p i v pl)
@[simp] theorem State.occur_hrv (s : State) (p : Page) (i v : Nat) (pl : List Byte) : (s.occur p i v pl).hrv = s.hrv := congrArg (fun a => a.2.2.2.2.2.2.2.2.2.2.2.1) (State.occur_aside s p i v pl)
@[simp] theorem State.occur_clk (s : State) (p : Page) (i v : Nat) (pl : List Byte) : (s.occur p i v pl).clk = s.clk := congrArg (fun a => a.2.2.2.2.2.2.2.2.2.2.2.2.1) (State.occur_aside s p i v pl)
@[simp] theorem State.occur_cip (s : State) (p : Page) (i v : Nat) (pl : List Byte) : (s.occur p i v pl).cip = s.cip := congrArg (fun a => a.2.2.2.2.2.2.2.2.2.2.2.2.2.1) (State.occur_aside s p i v pl)
@[simp] theorem State.occur_nvs (s : State) (p : Page) (i v : Nat) (pl : List Byte) : (s.occur p i v pl).nvs = s.nvs := congrArg (fun a => a.2.2.2.2.2.2.2.2.2.2.2.2.2.2.1) (State.occur_aside s p i v pl)
@[simp] theorem State.occur_wdn (s : State) (p : Page) (i v : Nat) (pl : List Byte) : (s.occur p i v pl).wdn = s.wdn := congrArg (fun a => a.2.2.2.2.2.2.2.2.2.2.2.2.2.2.2.1) (State.occur_aside s p i v pl)
@[simp] theorem State.occur_mgt (s : State) (p : Page) (i v : Nat) (pl : List Byte) : (s.occur p i v pl).mgt = s.mgt := congrArg (fun a => a.2.2.2.2.2.2.2.2.2.2.2.2.2.2.2.2.1) (State.occur_aside s p i v pl)
@[simp] theorem State.occur_mem (s : State) (p : Page) (i v : Nat) (pl : List Byte) : (s.occur p i v pl).mem = s.mem := congrArg (fun a => a.2.2.2.2.2.2.2.2.2.2.2.2.2.2.2.2.2.1) (State.occur_aside s p i v pl)
@[simp] theorem State.occur_unit (s : State) (p : Page) (i v : Nat) (pl : List Byte) : (s.occur p i v pl).unit = s.unit := congrArg (fun a => a.2.2.2.2.2.2.2.2.2.2.2.2.2.2.2.2.2.2.1) (State.occur_aside s p i v pl)
@[simp] theorem State.occur_timeNs (s : State) (p : Page) (i v : Nat) (pl : List Byte) : (s.occur p i v pl).timeNs = s.timeNs := congrArg (fun a => a.2.2.2.2.2.2.2.2.2.2.2.2.2.2.2.2.2.2.2.1) (State.occur_aside s p i v pl)
@[simp] theorem State.occur_slew (s : State) (p : Page) (i v : Nat) (pl : List Byte) : (s.occur p i v pl).slew = s.slew := congrArg (fun a => a.2.2.2.2.2.2.2.2.2.2.2.2.2.2.2.2.2.2.2.2.1) (State.occur_aside s p i v pl)
@[simp] theorem State.occur_pending (s : State) (p : Page) (i v : Nat) (pl : List Byte) : (s.occur p i v pl).pending = s.pending := congrArg (fun a => a.2.2.2.2.2.2.2.2.2.2.2.2.2.2.2.2.2.2.2.2.2) (State.occur_aside s p i v pl)

@[simp] theorem State.misc_ctl (s : State) (p : Page) (v : Nat) (pl : List Byte) : (s.misc p v pl).ctl = s.ctl := congrArg (fun a => a.1) (State.misc_aside s p v pl)
@[simp] theorem State.misc_xlt (s : State) (p : Page) (v : Nat) (pl : List Byte) : (s.misc p v pl).xlt = s.xlt := congrArg (fun a => a.2.1) (State.misc_aside s p v pl)
@[simp] theorem State.misc_qe (s : State) (p : Page) (v : Nat) (pl : List Byte) : (s.misc p v pl).qe = s.qe := congrArg (fun a => a.2.2.1) (State.misc_aside s p v pl)
@[simp] theorem State.misc_mov (s : State) (p : Page) (v : Nat) (pl : List Byte) : (s.misc p v pl).mov = s.mov := congrArg (fun a => a.2.2.2.1) (State.misc_aside s p v pl)
@[simp] theorem State.misc_tier (s : State) (p : Page) (v : Nat) (pl : List Byte) : (s.misc p v pl).tier = s.tier := congrArg (fun a => a.2.2.2.2.1) (State.misc_aside s p v pl)
@[simp] theorem State.misc_pan (s : State) (p : Page) (v : Nat) (pl : List Byte) : (s.misc p v pl).pan = s.pan := congrArg (fun a => a.2.2.2.2.2.1) (State.misc_aside s p v pl)
@[simp] theorem State.misc_twn (s : State) (p : Page) (v : Nat) (pl : List Byte) : (s.misc p v pl).twn = s.twn := congrArg (fun a => a.2.2.2.2.2.2.1) (State.misc_aside s p v pl)
@[simp] theorem State.misc_cmn (s : State) (p : Page) (v : Nat) (pl : List Byte) : (s.misc p v pl).cmn = s.cmn := congrArg (fun a => a.2.2.2.2.2.2.2.1) (State.misc_aside s p v pl)
@[simp] theorem State.misc_dmc (s : State) (p : Page) (v : Nat) (pl : List Byte) : (s.misc p v pl).dmc = s.dmc := congrArg (fun a => a.2.2.2.2.2.2.2.2.1) (State.misc_aside s p v pl)
@[simp] theorem State.misc_flm (s : State) (p : Page) (v : Nat) (pl : List Byte) : (s.misc p v pl).flm = s.flm := congrArg (fun a => a.2.2.2.2.2.2.2.2.2.1) (State.misc_aside s p v pl)
@[simp] theorem State.misc_seq (s : State) (p : Page) (v : Nat) (pl : List Byte) : (s.misc p v pl).seq = s.seq := congrArg (fun a => a.2.2.2.2.2.2.2.2.2.2.1) (State.misc_aside s p v pl)
@[simp] theorem State.misc_hrv (s : State) (p : Page) (v : Nat) (pl : List Byte) : (s.misc p v pl).hrv = s.hrv := congrArg (fun a => a.2.2.2.2.2.2.2.2.2.2.2.1) (State.misc_aside s p v pl)
@[simp] theorem State.misc_clk (s : State) (p : Page) (v : Nat) (pl : List Byte) : (s.misc p v pl).clk = s.clk := congrArg (fun a => a.2.2.2.2.2.2.2.2.2.2.2.2.1) (State.misc_aside s p v pl)
@[simp] theorem State.misc_cip (s : State) (p : Page) (v : Nat) (pl : List Byte) : (s.misc p v pl).cip = s.cip := congrArg (fun a => a.2.2.2.2.2.2.2.2.2.2.2.2.2.1) (State.misc_aside s p v pl)
@[simp] theorem State.misc_nvs (s : State) (p : Page) (v : Nat) (pl : List Byte) : (s.misc p v pl).nvs = s.nvs := congrArg (fun a => a.2.2.2.2.2.2.2.2.2.2.2.2.2.2.1) (State.misc_aside s p v pl)
@[simp] theorem State.misc_wdn (s : State) (p : Page) (v : Nat) (pl : List Byte) : (s.misc p v pl).wdn = s.wdn := congrArg (fun a => a.2.2.2.2.2.2.2.2.2.2.2.2.2.2.2.1) (State.misc_aside s p v pl)
@[simp] theorem State.misc_mgt (s : State) (p : Page) (v : Nat) (pl : List Byte) : (s.misc p v pl).mgt = s.mgt := congrArg (fun a => a.2.2.2.2.2.2.2.2.2.2.2.2.2.2.2.2.1) (State.misc_aside s p v pl)
@[simp] theorem State.misc_mem (s : State) (p : Page) (v : Nat) (pl : List Byte) : (s.misc p v pl).mem = s.mem := congrArg (fun a => a.2.2.2.2.2.2.2.2.2.2.2.2.2.2.2.2.2.1) (State.misc_aside s p v pl)
@[simp] theorem State.misc_unit (s : State) (p : Page) (v : Nat) (pl : List Byte) : (s.misc p v pl).unit = s.unit := congrArg (fun a => a.2.2.2.2.2.2.2.2.2.2.2.2.2.2.2.2.2.2.1) (State.misc_aside s p v pl)
@[simp] theorem State.misc_timeNs (s : State) (p : Page) (v : Nat) (pl : List Byte) : (s.misc p v pl).timeNs = s.timeNs := congrArg (fun a => a.2.2.2.2.2.2.2.2.2.2.2.2.2.2.2.2.2.2.2.1) (State.misc_aside s p v pl)
@[simp] theorem State.misc_slew (s : State) (p : Page) (v : Nat) (pl : List Byte) : (s.misc p v pl).slew = s.slew := congrArg (fun a => a.2.2.2.2.2.2.2.2.2.2.2.2.2.2.2.2.2.2.2.2.1) (State.misc_aside s p v pl)
@[simp] theorem State.misc_pending (s : State) (p : Page) (v : Nat) (pl : List Byte) : (s.misc p v pl).pending = s.pending := congrArg (fun a => a.2.2.2.2.2.2.2.2.2.2.2.2.2.2.2.2.2.2.2.2.2) (State.misc_aside s p v pl)

@[simp] theorem State.blkErr_ctl (s : State) (p : Page) (k v : Nat) (pl : List Byte) (c : Option Capture) : (s.blkErr p k v pl c).ctl = s.ctl := congrArg (fun a => a.1) (State.blkErr_aside s p k v pl c)
@[simp] theorem State.blkErr_xlt (s : State) (p : Page) (k v : Nat) (pl : List Byte) (c : Option Capture) : (s.blkErr p k v pl c).xlt = s.xlt := congrArg (fun a => a.2.1) (State.blkErr_aside s p k v pl c)
@[simp] theorem State.blkErr_qe (s : State) (p : Page) (k v : Nat) (pl : List Byte) (c : Option Capture) : (s.blkErr p k v pl c).qe = s.qe := congrArg (fun a => a.2.2.1) (State.blkErr_aside s p k v pl c)
@[simp] theorem State.blkErr_mov (s : State) (p : Page) (k v : Nat) (pl : List Byte) (c : Option Capture) : (s.blkErr p k v pl c).mov = s.mov := congrArg (fun a => a.2.2.2.1) (State.blkErr_aside s p k v pl c)
@[simp] theorem State.blkErr_tier (s : State) (p : Page) (k v : Nat) (pl : List Byte) (c : Option Capture) : (s.blkErr p k v pl c).tier = s.tier := congrArg (fun a => a.2.2.2.2.1) (State.blkErr_aside s p k v pl c)
@[simp] theorem State.blkErr_pan (s : State) (p : Page) (k v : Nat) (pl : List Byte) (c : Option Capture) : (s.blkErr p k v pl c).pan = s.pan := congrArg (fun a => a.2.2.2.2.2.1) (State.blkErr_aside s p k v pl c)
@[simp] theorem State.blkErr_twn (s : State) (p : Page) (k v : Nat) (pl : List Byte) (c : Option Capture) : (s.blkErr p k v pl c).twn = s.twn := congrArg (fun a => a.2.2.2.2.2.2.1) (State.blkErr_aside s p k v pl c)
@[simp] theorem State.blkErr_cmn (s : State) (p : Page) (k v : Nat) (pl : List Byte) (c : Option Capture) : (s.blkErr p k v pl c).cmn = s.cmn := congrArg (fun a => a.2.2.2.2.2.2.2.1) (State.blkErr_aside s p k v pl c)
@[simp] theorem State.blkErr_dmc (s : State) (p : Page) (k v : Nat) (pl : List Byte) (c : Option Capture) : (s.blkErr p k v pl c).dmc = s.dmc := congrArg (fun a => a.2.2.2.2.2.2.2.2.1) (State.blkErr_aside s p k v pl c)
@[simp] theorem State.blkErr_flm (s : State) (p : Page) (k v : Nat) (pl : List Byte) (c : Option Capture) : (s.blkErr p k v pl c).flm = s.flm := congrArg (fun a => a.2.2.2.2.2.2.2.2.2.1) (State.blkErr_aside s p k v pl c)
@[simp] theorem State.blkErr_seq (s : State) (p : Page) (k v : Nat) (pl : List Byte) (c : Option Capture) : (s.blkErr p k v pl c).seq = s.seq := congrArg (fun a => a.2.2.2.2.2.2.2.2.2.2.1) (State.blkErr_aside s p k v pl c)
@[simp] theorem State.blkErr_hrv (s : State) (p : Page) (k v : Nat) (pl : List Byte) (c : Option Capture) : (s.blkErr p k v pl c).hrv = s.hrv := congrArg (fun a => a.2.2.2.2.2.2.2.2.2.2.2.1) (State.blkErr_aside s p k v pl c)
@[simp] theorem State.blkErr_clk (s : State) (p : Page) (k v : Nat) (pl : List Byte) (c : Option Capture) : (s.blkErr p k v pl c).clk = s.clk := congrArg (fun a => a.2.2.2.2.2.2.2.2.2.2.2.2.1) (State.blkErr_aside s p k v pl c)
@[simp] theorem State.blkErr_cip (s : State) (p : Page) (k v : Nat) (pl : List Byte) (c : Option Capture) : (s.blkErr p k v pl c).cip = s.cip := congrArg (fun a => a.2.2.2.2.2.2.2.2.2.2.2.2.2.1) (State.blkErr_aside s p k v pl c)
@[simp] theorem State.blkErr_nvs (s : State) (p : Page) (k v : Nat) (pl : List Byte) (c : Option Capture) : (s.blkErr p k v pl c).nvs = s.nvs := congrArg (fun a => a.2.2.2.2.2.2.2.2.2.2.2.2.2.2.1) (State.blkErr_aside s p k v pl c)
@[simp] theorem State.blkErr_wdn (s : State) (p : Page) (k v : Nat) (pl : List Byte) (c : Option Capture) : (s.blkErr p k v pl c).wdn = s.wdn := congrArg (fun a => a.2.2.2.2.2.2.2.2.2.2.2.2.2.2.2.1) (State.blkErr_aside s p k v pl c)
@[simp] theorem State.blkErr_mgt (s : State) (p : Page) (k v : Nat) (pl : List Byte) (c : Option Capture) : (s.blkErr p k v pl c).mgt = s.mgt := congrArg (fun a => a.2.2.2.2.2.2.2.2.2.2.2.2.2.2.2.2.1) (State.blkErr_aside s p k v pl c)
@[simp] theorem State.blkErr_mem (s : State) (p : Page) (k v : Nat) (pl : List Byte) (c : Option Capture) : (s.blkErr p k v pl c).mem = s.mem := congrArg (fun a => a.2.2.2.2.2.2.2.2.2.2.2.2.2.2.2.2.2.1) (State.blkErr_aside s p k v pl c)
@[simp] theorem State.blkErr_unit (s : State) (p : Page) (k v : Nat) (pl : List Byte) (c : Option Capture) : (s.blkErr p k v pl c).unit = s.unit := congrArg (fun a => a.2.2.2.2.2.2.2.2.2.2.2.2.2.2.2.2.2.2.1) (State.blkErr_aside s p k v pl c)
@[simp] theorem State.blkErr_timeNs (s : State) (p : Page) (k v : Nat) (pl : List Byte) (c : Option Capture) : (s.blkErr p k v pl c).timeNs = s.timeNs := congrArg (fun a => a.2.2.2.2.2.2.2.2.2.2.2.2.2.2.2.2.2.2.2.1) (State.blkErr_aside s p k v pl c)
@[simp] theorem State.blkErr_slew (s : State) (p : Page) (k v : Nat) (pl : List Byte) (c : Option Capture) : (s.blkErr p k v pl c).slew = s.slew := congrArg (fun a => a.2.2.2.2.2.2.2.2.2.2.2.2.2.2.2.2.2.2.2.2.1) (State.blkErr_aside s p k v pl c)
@[simp] theorem State.blkErr_pending (s : State) (p : Page) (k v : Nat) (pl : List Byte) (c : Option Capture) : (s.blkErr p k v pl c).pending = s.pending := congrArg (fun a => a.2.2.2.2.2.2.2.2.2.2.2.2.2.2.2.2.2.2.2.2.2) (State.blkErr_aside s p k v pl c)

@[simp] theorem State.ctlErr_ctl (s : State) (p : Page) (k v : Nat) (c : Capture) : (s.ctlErr p k v c).ctl = s.ctl := congrArg (fun a => a.1) (State.ctlErr_aside s p k v c)
@[simp] theorem State.ctlErr_xlt (s : State) (p : Page) (k v : Nat) (c : Capture) : (s.ctlErr p k v c).xlt = s.xlt := congrArg (fun a => a.2.1) (State.ctlErr_aside s p k v c)
@[simp] theorem State.ctlErr_qe (s : State) (p : Page) (k v : Nat) (c : Capture) : (s.ctlErr p k v c).qe = s.qe := congrArg (fun a => a.2.2.1) (State.ctlErr_aside s p k v c)
@[simp] theorem State.ctlErr_mov (s : State) (p : Page) (k v : Nat) (c : Capture) : (s.ctlErr p k v c).mov = s.mov := congrArg (fun a => a.2.2.2.1) (State.ctlErr_aside s p k v c)
@[simp] theorem State.ctlErr_tier (s : State) (p : Page) (k v : Nat) (c : Capture) : (s.ctlErr p k v c).tier = s.tier := congrArg (fun a => a.2.2.2.2.1) (State.ctlErr_aside s p k v c)
@[simp] theorem State.ctlErr_pan (s : State) (p : Page) (k v : Nat) (c : Capture) : (s.ctlErr p k v c).pan = s.pan := congrArg (fun a => a.2.2.2.2.2.1) (State.ctlErr_aside s p k v c)
@[simp] theorem State.ctlErr_twn (s : State) (p : Page) (k v : Nat) (c : Capture) : (s.ctlErr p k v c).twn = s.twn := congrArg (fun a => a.2.2.2.2.2.2.1) (State.ctlErr_aside s p k v c)
@[simp] theorem State.ctlErr_cmn (s : State) (p : Page) (k v : Nat) (c : Capture) : (s.ctlErr p k v c).cmn = s.cmn := congrArg (fun a => a.2.2.2.2.2.2.2.1) (State.ctlErr_aside s p k v c)
@[simp] theorem State.ctlErr_dmc (s : State) (p : Page) (k v : Nat) (c : Capture) : (s.ctlErr p k v c).dmc = s.dmc := congrArg (fun a => a.2.2.2.2.2.2.2.2.1) (State.ctlErr_aside s p k v c)
@[simp] theorem State.ctlErr_flm (s : State) (p : Page) (k v : Nat) (c : Capture) : (s.ctlErr p k v c).flm = s.flm := congrArg (fun a => a.2.2.2.2.2.2.2.2.2.1) (State.ctlErr_aside s p k v c)
@[simp] theorem State.ctlErr_seq (s : State) (p : Page) (k v : Nat) (c : Capture) : (s.ctlErr p k v c).seq = s.seq := congrArg (fun a => a.2.2.2.2.2.2.2.2.2.2.1) (State.ctlErr_aside s p k v c)
@[simp] theorem State.ctlErr_hrv (s : State) (p : Page) (k v : Nat) (c : Capture) : (s.ctlErr p k v c).hrv = s.hrv := congrArg (fun a => a.2.2.2.2.2.2.2.2.2.2.2.1) (State.ctlErr_aside s p k v c)
@[simp] theorem State.ctlErr_clk (s : State) (p : Page) (k v : Nat) (c : Capture) : (s.ctlErr p k v c).clk = s.clk := congrArg (fun a => a.2.2.2.2.2.2.2.2.2.2.2.2.1) (State.ctlErr_aside s p k v c)
@[simp] theorem State.ctlErr_cip (s : State) (p : Page) (k v : Nat) (c : Capture) : (s.ctlErr p k v c).cip = s.cip := congrArg (fun a => a.2.2.2.2.2.2.2.2.2.2.2.2.2.1) (State.ctlErr_aside s p k v c)
@[simp] theorem State.ctlErr_nvs (s : State) (p : Page) (k v : Nat) (c : Capture) : (s.ctlErr p k v c).nvs = s.nvs := congrArg (fun a => a.2.2.2.2.2.2.2.2.2.2.2.2.2.2.1) (State.ctlErr_aside s p k v c)
@[simp] theorem State.ctlErr_wdn (s : State) (p : Page) (k v : Nat) (c : Capture) : (s.ctlErr p k v c).wdn = s.wdn := congrArg (fun a => a.2.2.2.2.2.2.2.2.2.2.2.2.2.2.2.1) (State.ctlErr_aside s p k v c)
@[simp] theorem State.ctlErr_mgt (s : State) (p : Page) (k v : Nat) (c : Capture) : (s.ctlErr p k v c).mgt = s.mgt := congrArg (fun a => a.2.2.2.2.2.2.2.2.2.2.2.2.2.2.2.2.1) (State.ctlErr_aside s p k v c)
@[simp] theorem State.ctlErr_mem (s : State) (p : Page) (k v : Nat) (c : Capture) : (s.ctlErr p k v c).mem = s.mem := congrArg (fun a => a.2.2.2.2.2.2.2.2.2.2.2.2.2.2.2.2.2.1) (State.ctlErr_aside s p k v c)
@[simp] theorem State.ctlErr_unit (s : State) (p : Page) (k v : Nat) (c : Capture) : (s.ctlErr p k v c).unit = s.unit := congrArg (fun a => a.2.2.2.2.2.2.2.2.2.2.2.2.2.2.2.2.2.2.1) (State.ctlErr_aside s p k v c)
@[simp] theorem State.ctlErr_timeNs (s : State) (p : Page) (k v : Nat) (c : Capture) : (s.ctlErr p k v c).timeNs = s.timeNs := congrArg (fun a => a.2.2.2.2.2.2.2.2.2.2.2.2.2.2.2.2.2.2.2.1) (State.ctlErr_aside s p k v c)
@[simp] theorem State.ctlErr_slew (s : State) (p : Page) (k v : Nat) (c : Capture) : (s.ctlErr p k v c).slew = s.slew := congrArg (fun a => a.2.2.2.2.2.2.2.2.2.2.2.2.2.2.2.2.2.2.2.2.1) (State.ctlErr_aside s p k v c)
@[simp] theorem State.ctlErr_pending (s : State) (p : Page) (k v : Nat) (c : Capture) : (s.ctlErr p k v c).pending = s.pending := congrArg (fun a => a.2.2.2.2.2.2.2.2.2.2.2.2.2.2.2.2.2.2.2.2.2) (State.ctlErr_aside s p k v c)

end Sys2Proof.Machine
end

