-- ==== Sys2Proof/Laws/Access.lean ====
section
/-! SUPPORT. Control-space accesses that are taken: an access to a page whose domain answers, and a write of which one field is taken, is the effect of that field. -/
namespace Sys2Proof.Machine

theorem Blk.ofCode_code (b : Blk) : Blk.ofCode b.code = some b := by cases b <;> rfl

theorem Blk.code_lt (b : Blk) : b.code < 25 := by cases b <;> decide
theorem Blk.pages_le (b : Blk) : b.pages ≤ 256 := by cases b <;> decide

/-- An offset inside a page falls on that page (R35). -/
theorem Page.ofOff_base {p : Page} (hp : p.present = true) {a : Nat} (ha : a < 4096) : Page.ofOff (p.base + a) = some p := by
  have h1 := Blk.code_lt p.blk
  have h2 : p.inst < p.blk.pages := of_decide_eq_true hp
  have h3 := Blk.pages_le p.blk
  generalize hb : p.base + a = x
  have hx : x = 16777216 + p.blk.code * 1048576 + p.inst * 4096 + a := hb.symm
  have e1 : (x - 16777216) / 1048576 = p.blk.code := by omega
  have e2 : (x - 16777216) % 1048576 / 4096 = p.inst := by omega
  have e0 : ¬ x < 16777216 := by omega
  unfold Page.ofOff
  rw [if_neg e0]
  dsimp only
  rw [e1, e2, Blk.ofCode_code]
  dsimp only
  rw [if_pos h2]

theorem Page.base_lt {p : Page} (hp : p.present = true) {a : Nat} (ha : a < 4096) : p.base + a < 2 ^ 32 := by
  have h1 := Blk.code_lt p.blk
  have h2 : p.inst < p.blk.pages := by simpa [Page.present] using hp
  have h3 := Blk.pages_le p.blk
  unfold Page.base
  omega

theorem Page.base_mod (p : Page) {a : Nat} (ha : a < 4096) : (p.base + a) % 4096 = a := by
  unfold Page.base
  omega

/-- Nothing of a requester stalls before its access to a page that is clear for it (R40). -/
theorem State.wayClear_behind {s : State} {r : Requester} {p : Page} (h : s.wayClear r p) (x : Stalled) (hx : x.req = r) : s.behindWrite x p = false := by
  unfold State.behindWrite
  rw [Bool.and_eq_false_iff]
  refine .inr (List.any_eq_false.mpr fun y hy e => h y hy ?_)
  simp only [Bool.and_eq_true, beq_iff_eq] at e
  have hr := e.1.2.trans hx
  exact ⟨e.1.1, hr, hr ▸ e.2⟩

/-- An access to a page that answers reaches it. -/
theorem State.access_onPage (s : State) (x : Stalled) {p : Page} {o d : Nat} (hr : s.reaches x.req = true) (ho : x.off.toNat = o)
    (hd : x.data.toNat % 2 ^ (8 * x.size) = d) (hl : legalAccess o x.size = true) (hp : pageFor x.req o = some p)
    (hb : s.behindWrite x p = false) (hc : (o % 4096 < 0x100 || s.domainOn (Page.dom p)) = true) : s.access x = s.onPage x.req p o x.size x.write d := by
  unfold State.access
  simp only [hr, ho, hd, hl, hp, hb, Bool.not_true, Bool.false_eq_true, if_false]
  rw [if_pos hc]

theorem legalAccess_base (p : Page) {a n : Nat} (hn : legalAccess a n = true) : legalAccess (p.base + a) n = true := by
  simp only [legalAccess, Bool.and_eq_true, Bool.or_eq_true, beq_iff_eq] at hn ⊢
  have h16 : p.base % 8 = 0 := by unfold Page.base; omega
  rcases hn with ⟨rfl | rfl, h⟩ <;> omega

theorem pageFor_warden {p : Page} (hp : p.present = true) {a : Nat} (ha : a < 4096) : pageFor .warden (p.base + a) = some p := by
  unfold pageFor
  rw [Page.ofOff_base hp ha]
  rfl

theorem ofNat32_toNat {a : Nat} (h : a < 2 ^ 32) : (BitVec.ofNat 32 a).toNat = a := by
  rw [BitVec.toNat_ofNat]
  exact Nat.mod_eq_of_lt h
theorem ofNat64_toNat {a : Nat} (h : a < 2 ^ 64) : (BitVec.ofNat 64 a).toNat = a := by
  rw [BitVec.toNat_ofNat]
  exact Nat.mod_eq_of_lt h

/-- The warden's write to a page that answers reaches it. -/
theorem State.regWrite_warden (s : State) {p : Page} {a n d : Nat} (hp : p.present = true) (ha : a < 4096) (hn : legalAccess a n = true)
    (hd : d < 2 ^ (8 * n)) (hw : s.wayClear .warden p) (hon : (a < 0x100 || s.domainOn (Page.dom p)) = true) : s.regWrite .warden p a n d = s.pageWrite .warden p a n d := by
  have hm := Page.base_mod p ha
  have hd64 : d < 2 ^ 64 := by
    simp only [legalAccess, Bool.and_eq_true, Bool.or_eq_true, beq_iff_eq] at hn
    rcases hn.1 with rfl | rfl <;> omega
  unfold State.regWrite
  rw [State.access_onPage (p := p) (o := p.base + a) (d := d) s _ rfl (ofNat32_toNat (Page.base_lt hp ha))
    (by show (BitVec.ofNat 64 d).toNat % _ = d; rw [ofNat64_toNat hd64, Nat.mod_eq_of_lt hd]) (legalAccess_base p hn) (pageFor_warden hp ha)
    (State.wayClear_behind hw _ rfl) (by rw [hm]; exact hon)]
  unfold State.onPage
  rw [hm]
  rfl

/-- A write of which the checks let one field through, and which meets no refusal, is the effect of that field; an error of that effect takes the write as its capture. -/
theorem State.pageWrite_one (s s1 : State) (r : Requester) (p : Page) (a n d : Nat) (y : FieldWrite) (h1 : s.quiesceLatch p = s1)
    (hm : s1.mayWrite r p = true) (ht : (((s1.writesAt p a n d).map fun x => (x, s1.verdict r p x)).filter fun v => v.2 == .take).map Prod.fst = [y])
    (he : ∀ k, (((s1.writesAt p a n d).map fun x => (x, s1.verdict r p x)).any fun v => v.2 == .err k) = false)
    (hj : s1.jobBusy y = none) (hc : y.fld.stage = false ∨ p.blk ≠ .cip) :
    s.pageWrite r p a n d = s1.captureBy (State.effect r [y] (capOf r (p.base + a) d) s1 y) p (capOf r (p.base + a) d) := by
  unfold State.pageWrite
  rw [h1]
  simp only [hm, Bool.not_true, Bool.false_eq_true, if_false, ht, he, List.foldl_nil, List.findSome?_cons, hj, List.findSome?_nil,
    List.filter_cons, Option.isNone_none, if_true, List.filter_nil, List.any_cons, List.any_nil, Bool.or_false]
  have ho : (p.blk == .cip && y.fld.stage && !s1.minimaFit [y]) = false := by
    rcases hc with hc | hc
    · simp [hc]
    · simp [beq_eq_false_iff_ne.mpr hc]
  simp only [ho, Bool.false_eq_true, if_false]
  cases hx : y.command <;> simp only [List.filter_cons, List.filter_nil, hx, Bool.not_true, Bool.not_false, Bool.false_eq_true, if_true, if_false, List.foldl_cons, List.foldl_nil]

end Sys2Proof.Machine
end

