-- ==== Sys2Proof/Laws/Touch.lean ====
section
/-! SUPPORT. The registers a report may touch: the event and error flags of pages, with the capture, and registers of EVF, REC, MGT and PWR. Every other register stays, and flags are only set. -/
namespace Sys2Proof.Machine

/-- The bit of its page at which an entry of a field starts. -/
def Fld.place (f : Fld) (i : Nat) : Nat := (f.off + f.stride * i) * 8 + f.lo

/-- A register that no report touches. -/
def Untouched (p : Page) (f : Fld) (i : Nat) : Prop :=
  f.place i < 32768 ∧ p.inst < 256 ∧ f.place i ≠ 0xC0 ∧ f.place i ≠ 0x140 ∧ f.place i ≠ 0x160 ∧ f.place i ≠ 0x180 ∧
  (f.place i < 0x800 ∨ (p.blk ≠ .evf ∧ p.blk ≠ .recd ∧ p.blk ≠ .mgt ∧ p.blk ≠ .pwr))

/-- A register that a report may write besides the flags and captures: one of EVF, REC, MGT or PWR. -/
def Touchable (p : Page) (f : Fld) (i : Nat) : Prop :=
  f.place i < 32768 ∧ p.inst < 256 ∧ 0x800 ≤ f.place i ∧ (p.blk = .evf ∨ p.blk = .recd ∨ p.blk = .mgt ∨ p.blk = .pwr)

/-- A page holds a capture: one of its error bits is set. -/
def State.captured (s : State) (p : Page) : Prop := ∃ k, k < 32 ∧ (s.rd p HDR.ERR_STAT).testBit k = true

/-- What a report does to the register file. -/
structure State.Rep (s t : State) : Prop where
  ok : s.regsOk → t.regsOk
  same : s.regsOk → ∀ p f i, Untouched p f i → t.rd p f i = s.rd p f i
  evt : s.regsOk → ∀ p k, p.inst < 256 → k < 32 → (s.rd p HDR.EVT_STAT).testBit k = true → (t.rd p HDR.EVT_STAT).testBit k = true
  err : s.regsOk → ∀ p k, p.inst < 256 → k < 32 → (s.rd p HDR.ERR_STAT).testBit k = true → (t.rd p HDR.ERR_STAT).testBit k = true
  info : s.regsOk → ∀ p, p.inst < 256 → s.captured p → t.rd p HDR.ERR_INFO0 = s.rd p HDR.ERR_INFO0 ∧ t.rd p HDR.ERR_INFO1 = s.rd p HDR.ERR_INFO1

theorem State.Rep.refl (s : State) : s.Rep s := ⟨id, fun _ _ _ _ _ => rfl, fun _ _ _ _ _ => id, fun _ _ _ _ _ => id, fun _ _ _ _ => ⟨rfl, rfl⟩⟩

theorem State.Rep.trans {s t u : State} (a : s.Rep t) (b : t.Rep u) : s.Rep u :=
  ⟨fun h => b.ok (a.ok h), fun h p f i n => (b.same (a.ok h) p f i n).trans (a.same h p f i n),
   fun h p k hp hk e => b.evt (a.ok h) p k hp hk (a.evt h p k hp hk e), fun h p k hp hk e => b.err (a.ok h) p k hp hk (a.err h p k hp hk e),
   fun h p hp c => by
    obtain ⟨k, hk, e⟩ := c
    have x := a.info h p hp ⟨k, hk, e⟩
    have y := b.info (a.ok h) p hp ⟨k, hk, a.err h p k hp hk e⟩
    exact ⟨y.1.trans x.1, y.2.trans x.2⟩⟩

theorem State.rd_of_regs {s t : State} (e : t.regs = s.regs) (u : t.unit = s.unit) (p : Page) (f : Fld) (i : Nat) : t.rd p f i = s.rd p f i := by
  unfold State.rd
  rw [e, u]

/-- A change that leaves the register file alone. -/
theorem State.Rep.of_regs {s t : State} (e : t.regs = s.regs) (u : t.unit = s.unit) : s.Rep t :=
  ⟨fun h => State.regsOk_of_regs h e, fun _ _ _ _ _ => State.rd_of_regs e u _ _ _,
   fun _ _ _ _ _ h => by rw [State.rd_of_regs e u]; exact h, fun _ _ _ _ _ h => by rw [State.rd_of_regs e u]; exact h,
   fun _ _ _ _ => ⟨State.rd_of_regs e u _ _ _, State.rd_of_regs e u _ _ _⟩⟩

theorem Fld.key_ne_of {p q : Page} {f g : Fld} {i j : Nat} (hf : f.place i < 32768) (hg : g.place j < 32768) (hp : p.inst < 256) (hq : q.inst < 256)
    (h : p ≠ q ∨ f.place i ≠ g.place j) : f.key p i ≠ g.key q j := by
  rcases h with h | h
  · exact Fld.key_ne_page hf hg hp hq h
  · exact Fld.key_ne_place hf hg h

theorem evtStat_place : HDR.EVT_STAT.place 0 = 0xC0 := rfl
theorem errStat_place : HDR.ERR_STAT.place 0 = 0x140 := rfl

/-- A write of a register that reports may write. -/
theorem State.Rep.wr {s : State} {p : Page} {f : Fld} {i : Nat} (v : Nat) (h : Touchable p f i) : s.Rep (s.wr p f v i) := by
  obtain ⟨h1, h2, h5, h6⟩ := h
  have hd {g : Fld} (q : Page) (hg : g.place 0 < 0x800) (hq : q.inst < 256) : g.key q 0 ≠ f.key p i :=
    Fld.key_ne_of (Nat.lt_trans hg (by decide)) h1 hq h2 (.inr (by omega))
  refine ⟨fun hr => State.regsOk_wr hr _ _ _ _, fun hr q g j hu => ?_, fun hr q k hq _ e => ?_, fun hr q k hq _ e => ?_, fun hr q hq _ => ⟨?_, ?_⟩⟩
  · refine State.rd_wr_ne hr v ?_
    obtain ⟨u1, u2, u3, u4, u5, u6, u7⟩ := hu
    refine Fld.key_ne_of u1 h1 u2 h2 ?_
    by_cases hqp : q = p
    · subst hqp
      right
      rcases u7 with u7 | ⟨a, b, c, d⟩
      · omega
      · rcases h6 with h6 | h6 | h6 | h6 <;> contradiction
    · exact .inl hqp
  · rw [State.rd_wr_ne hr v (hd q (by decide) hq)]
    exact e
  · rw [State.rd_wr_ne hr v (hd q (by decide) hq)]
    exact e
  · exact State.rd_wr_ne hr v (hd q (by decide) hq)
  · exact State.rd_wr_ne hr v (hd q (by decide) hq)

theorem testBit_add_two_pow {v k j : Nat} (hk : v.testBit k = false) (hv : v.testBit j = true) : (v + 2 ^ k).testBit j = true := by
  rcases Nat.lt_trichotomy j k with h | h | h
  · rw [Nat.add_comm, Nat.testBit_two_pow_add_gt h]
    exact hv
  · subst h
    rw [hk] at hv
    exact absurd hv Bool.false_ne_true
  · have hd : (v + 2 ^ k) / 2 ^ (k + 1) = v / 2 ^ (k + 1) := by
      have hb : v / 2 ^ k % 2 = 0 := by
        rw [Nat.testBit_eq_decide_div_mod_eq] at hk
        have := of_decide_eq_false hk
        omega
      have hp : 0 < 2 ^ k := Nat.two_pow_pos k
      rw [Nat.pow_succ, ← Nat.div_div_eq_div_mul, ← Nat.div_div_eq_div_mul, Nat.add_div_right _ hp]
      omega
    have e : j = k + 1 + (j - (k + 1)) := by omega
    rw [e, ← Nat.testBit_shiftRight, Nat.shiftRight_eq_div_pow] at hv ⊢
    rw [hd]
    exact hv

/-- Setting one bit keeps the bits that are set. -/
theorem setBits_one_testBit {v k j : Nat} (hv : v.testBit j = true) : (setBits v k 1 1).testBit j = true := by
  have hb : bits v k 1 = (v.testBit k).toNat := by
    unfold bits
    rw [Nat.pow_one, Nat.testBit_eq_decide_div_mod_eq, Nat.shiftRight_eq_div_pow]
    rcases Nat.mod_two_eq_zero_or_one (v / 2 ^ k) with h | h <;> simp [h]
  unfold setBits
  rw [hb]
  cases hk : v.testBit k
  · simpa using testBit_add_two_pow hk hv
  · have hle : 2 ^ k ≤ v := Nat.ge_two_pow_of_testBit hk
    simpa [Nat.sub_add_cancel hle] using hv

/-- Setting one bit sets it. -/
theorem setBits_one_self (v k : Nat) : (setBits v k 1 1).testBit k = true := by
  have hb : bits v k 1 = (v.testBit k).toNat := by
    unfold bits
    rw [Nat.pow_one, Nat.testBit_eq_decide_div_mod_eq, Nat.shiftRight_eq_div_pow]
    rcases Nat.mod_two_eq_zero_or_one (v / 2 ^ k) with h | h <;> simp [h]
  unfold setBits
  rw [hb]
  cases hk : v.testBit k
  · simp only [Bool.toNat_false, Nat.zero_mul, Nat.sub_zero, Nat.pow_one, Nat.one_mod, Nat.one_mul]
    rw [Nat.add_comm, Nat.testBit_two_pow_add_eq, hk]
    rfl
  · have hle : 2 ^ k ≤ v := Nat.ge_two_pow_of_testBit hk
    simpa [Nat.sub_add_cancel hle] using hk

/-- Setting a flag of a page keeps what is set. -/
theorem State.flag_mono {s : State} {p : Page} {f g : Fld} (hp : p.inst < 256) (k : Nat) (hf : f = HDR.EVT_STAT ∨ f = HDR.ERR_STAT)
    (hg : g = HDR.EVT_STAT ∨ g = HDR.ERR_STAT) (hr : s.regsOk) {q : Page} {j : Nat} (hq : q.inst < 256) (hj : j < 32)
    (e : (s.rd q g).testBit j = true) : ((s.wr p f (setBits (s.rd p f) k 1 1)).rd q g).testBit j = true := by
  have hpf : f.place 0 < 32768 := by rcases hf with rfl | rfl <;> decide
  have hpg : g.place 0 < 32768 := by rcases hg with rfl | rfl <;> decide
  by_cases h : q = p ∧ g = f
  · obtain ⟨rfl, rfl⟩ := h
    rw [State.rd_wr_same hr]
    have hw : g.width = 32 := by rcases hg with rfl | rfl <;> rfl
    rw [hw, Nat.testBit_mod_two_pow, setBits_one_testBit e]
    simp [hj]
  · rw [State.rd_wr_ne hr]
    · exact e
    · refine Fld.key_ne_of hpg hpf hq hp ?_
      by_cases hqp : q = p
      · right
        have hgf : g ≠ f := fun x => h ⟨hqp, x⟩
        rcases hf with rfl | rfl <;> rcases hg with rfl | rfl <;> first | exact absurd rfl hgf | decide
      · exact .inl hqp

theorem State.Rep.set {s : State} {p : Page} (hp : p.inst < 256) (k : Nat) {f : Fld} (hf : f = HDR.EVT_STAT ∨ f = HDR.ERR_STAT) :
    s.Rep (s.wr p f (setBits (s.rd p f) k 1 1)) := by
  refine ⟨fun hr => State.regsOk_wr hr _ _ _ _, fun hr q g j hu => ?_, fun hr q j hq hj e => State.flag_mono hp k hf (.inl rfl) hr hq hj e,
    fun hr q j hq hj e => State.flag_mono hp k hf (.inr rfl) hr hq hj e,
    fun hr q hq _ => ⟨State.rd_wr_ne hr _ (Fld.key_ne_of (by decide) (by rcases hf with rfl | rfl <;> decide) hq hp (.inr (by rcases hf with rfl | rfl <;> decide))),
      State.rd_wr_ne hr _ (Fld.key_ne_of (by decide) (by rcases hf with rfl | rfl <;> decide) hq hp (.inr (by rcases hf with rfl | rfl <;> decide)))⟩⟩
  obtain ⟨u1, u2, u3, u4, -⟩ := hu
  refine State.rd_wr_ne hr _ (Fld.key_ne_of u1 (by rcases hf with rfl | rfl <;> decide) u2 hp (.inr ?_))
  rcases hf with rfl | rfl
  · exact u3
  · exact u4

/-! ## The report operations -/

theorem State.Rep.then {s t u : State} (a : s.Rep t) (b : t.Rep u) : s.Rep u := a.trans b

theorem touch_blk {f : Fld} (i a : Nat) (hb : f.blk = .evf ∨ f.blk = .recd ∨ f.blk = .mgt ∨ f.blk = .pwr) (ha : a < 256) (h1 : f.place i < 32768)
    (h2 : 0x800 ≤ f.place i) : Touchable ⟨f.blk, a⟩ f i := ⟨h1, ha, h2, hb⟩

theorem State.Rep.put {s : State} {f : Fld} (v i j : Nat) (hb : f.blk = .evf ∨ f.blk = .recd ∨ f.blk = .mgt ∨ f.blk = .pwr) (hi : i < 256)
    (h1 : f.place j < 32768) (h2 : 0x800 ≤ f.place j) : s.Rep (s.put f v i j) := State.Rep.wr v (touch_blk j i hb hi h1 h2)

theorem State.Rep.foldl {α : Type} (f : State → α → State) (h : ∀ (s : State) (a : α), State.Rep s (f s a)) (l : List α) (s : State) :
    State.Rep s (l.foldl f s) := by
  induction l generalizing s with
  | nil => exact State.Rep.refl s
  | cons a l ih => exact (h s a).trans (ih _)

theorem State.raiseVector_rep (s : State) (p l : Nat) (m : Bool) (v : Nat) : s.Rep (s.raiseVector p l m v) := by
  unfold State.raiseVector
  dsimp only
  split_ifs <;> exact State.Rep.of_regs rfl rfl

theorem State.alertPin_rep (s : State) (k : Nat) : s.Rep (s.alertPin k) := by
  unfold State.alertPin
  dsimp only
  split_ifs
  · exact State.Rep.refl s
  all_goals exact (State.Rep.put _ _ _ (.inl rfl) (by decide) (by decide) (by decide)).trans (State.Rep.of_regs rfl rfl)

theorem State.alertPins_rep (s : State) : s.Rep s.alertPins := (State.alertPin_rep s 0).trans (State.alertPin_rep _ 1)

theorem State.latchWake_rep (s : State) (n c : Nat) : s.Rep (s.latchWake n c) := by
  have h : s.Rep (s.putBit PWR.PWR_WAKE_LATCH n true) := State.Rep.put _ _ _ (.inr (.inr (.inr rfl))) (by decide) (by decide) (by decide)
  unfold State.latchWake
  dsimp only
  split_ifs
  · exact h
  · exact h.trans (State.Rep.of_regs rfl rfl)

theorem pwrState_rep (s : State) (v : Nat) {n : Nat} (hn : n < 64) : s.Rep (s.put PWR.STATE v 0 n) :=
  State.Rep.put _ _ _ (.inr (.inr (.inr rfl))) (by decide) (by show (PWR.STATE.off + PWR.STATE.stride * n) * 8 + PWR.STATE.lo < 32768; simp only [PWR.STATE]; omega)
    (by show 0x800 ≤ (PWR.STATE.off + PWR.STATE.stride * n) * 8 + PWR.STATE.lo; simp only [PWR.STATE]; omega)

theorem State.wakeStart_rep (s : State) {n : Nat} (hn : n < 64) : s.Rep (s.wakeStart n) := by
  have h : ∀ x : PwrState, s.Rep { (s.put PWR.STATE domWaking 0 n) with pwr := x } := fun x =>
    State.Rep.trans (t := s.put PWR.STATE domWaking 0 n) (pwrState_rep s _ hn) (State.Rep.of_regs rfl rfl)
  unfold State.wakeStart
  dsimp only
  by_cases hc : ((s.get PWR.STATE 0 n == domRet || s.get PWR.STATE 0 n == domOff) && !s.pwr.shed.contains n) = true
  · rw [if_pos hc]
    exact h _
  · rw [if_neg hc]
    exact State.Rep.refl s

theorem State.wakeEvent_rep (s : State) {n : Nat} (hn : n < 64) (c : Nat) : s.Rep (s.wakeEvent n c) := by
  unfold State.wakeEvent
  dsimp only
  split_ifs
  · exact State.latchWake_rep s n c
  · exact State.Rep.trans (s := s) (t := s.useFree) (State.Rep.of_regs rfl rfl) (pwrState_rep _ _ hn)
  · exact State.Rep.trans (s := s) (t := s.useFree) (State.Rep.of_regs rfl rfl) (State.latchWake_rep _ _ _)
  · exact (State.latchWake_rep s n c).trans (State.wakeStart_rep _ hn)
  · exact State.Rep.refl s

theorem State.signal_rep (s : State) (c : Nat) : s.Rep (s.signal c) := by
  have hb : ∀ e : Nat, 2 + bits e 25 3 < 64 := by
    intro e
    have : bits e 25 3 < 8 := Nat.mod_lt _ (by decide)
    omega
  unfold State.signal
  dsimp only
  split
  · split_ifs
    · exact State.Rep.of_regs rfl rfl
    · exact State.wakeEvent_rep s (by decide) c
  · split_ifs
    · exact State.Rep.of_regs rfl rfl
    · exact State.wakeEvent_rep s (hb _) c
  · exact State.raiseVector_rep s _ _ _ _
  · exact State.Rep.refl s

theorem State.chanHit_rep (s : State) (c : Nat) : s.Rep (s.chanHit c) := by
  have h : s.Rep (s.setPending c (min 0xFFFF (s.chanPending c + 1))) := State.Rep.of_regs rfl rfl
  unfold State.chanHit
  dsimp only
  split_ifs
  · exact (h.trans (State.signal_rep _ c)).trans (State.alertPins_rep _)
  · exact h.trans (State.alertPins_rep _)

theorem State.deliver_rep (s : State) (p : Page) (k : Nat) : s.Rep (s.deliver p k) := by
  unfold State.deliver
  dsimp only
  split_ifs <;> first | exact State.Rep.refl s | exact State.chanHit_rep s _

theorem recPut_rep (s : State) {f : Fld} (v : Nat) (hb : f.blk = .evf ∨ f.blk = .recd ∨ f.blk = .mgt ∨ f.blk = .pwr)
    (h1 : f.place 0 < 32768) (h2 : 0x800 ≤ f.place 0) (h3 : f.p0 < 256) : s.Rep (s.put f v f.p0 0) := State.Rep.put _ _ _ hb h3 h1 h2

theorem State.postAlarm_rep (s : State) (a : Alarm) : s.Rep (s.postAlarm a) := by
  have h1 : s.Rep (s.inc REC.ALARM_DROP) := recPut_rep s _ (.inr (.inl rfl)) (by decide) (by decide) (by decide)
  unfold State.postAlarm
  dsimp only
  have h2 : ∀ (b : Bool) (x : RecState), s.Rep { (if b = true then s.inc REC.ALARM_DROP else s) with recd := x } := by
    intro b x
    cases b
    · exact State.Rep.of_regs rfl rfl
    · exact h1.trans (State.Rep.of_regs rfl rfl)
  refine State.Rep.trans ?_ (State.Rep.foldl _ ?_ _ _)
  · split_ifs
    · exact h1.trans (State.Rep.of_regs rfl rfl)
    · exact State.Rep.of_regs rfl rfl
  · intro s c
    split_ifs
    · exact (recPut_rep s (f := MGT.ALARM_SENT) _ (.inr (.inr (.inl rfl))) (by decide) (by decide) (by decide)).trans (State.Rep.of_regs rfl rfl)
    · exact State.Rep.refl s

theorem State.Rep.recd {s t : State} (h : State.Rep s t) (x : RecState) : State.Rep s { t with recd := x } := h.trans (State.Rep.of_regs rfl rfl)
theorem State.Rep.evf {s t : State} (h : State.Rep s t) (x : EvfState) : State.Rep s { t with evf := x } := h.trans (State.Rep.of_regs rfl rfl)
theorem State.Rep.ite {s t u : State} (c : Prop) [Decidable c] (h : State.Rep s t) (k : State.Rep s u) : State.Rep s (if c then t else u) := by
  split_ifs
  · exact h
  · exact k

theorem State.forward_rep (err : State → Page → Nat → State) (he : ∀ (s : State) (p : Page) (k : Nat), p.inst < 256 → State.Rep s (err s p k)) (s : State) (r : Record) :
    State.Rep s (State.forward err s r) := by
  have rc (x : RecState) : s.Rep { s with recd := x } := (State.Rep.refl s).recd x
  have op (x : RecState) (a : Alarm) : s.Rep (({ s with recd := x } : State).postAlarm a) := (rc x).trans (State.postAlarm_rep _ a)
  have er {t : State} (h : s.Rep t) (p : Page) (k : Nat) (hp : p.inst < 256) : s.Rep (err t p k) := h.trans (he t p k hp)
  unfold State.forward
  refine State.Rep.ite _ (State.Rep.refl s) (State.Rep.ite _ (rc _) (State.Rep.ite _ ?_ (State.Rep.ite _ (rc _) ?_)))
  · exact State.Rep.ite _ (er (op _ _) _ _ (by decide)) (op _ _)
  · exact State.Rep.ite _ (rc _) (er (rc _) _ _ (by decide))

theorem State.foldCode_rep (s : State) (c n f l i v : Nat) (pl : List Byte) : s.Rep (s.foldCode c n f l i v pl) := State.Rep.of_regs rfl rfl

theorem State.writeRecord_rep (err : State → Page → Nat → State) (he : ∀ (s : State) (p : Page) (k : Nat), p.inst < 256 → State.Rep s (err s p k))
    (s : State) (c i v : Nat) (pl : List Byte) (f m : Bool) : s.Rep (State.writeRecord err s c i v pl f m) := by
  unfold State.writeRecord
  split
  · exact recPut_rep s (f := EVF.TRACE_DROP) _ (.inl rfl) (by decide) (by decide) (by decide)
  · exact (recPut_rep s (f := REC.LOST_CNT) _ (.inr (.inl rfl)) (by decide) (by decide) (by decide)).trans (State.foldCode_rep _ _ _ _ _ _ _ _)
  · dsimp only
    refine State.Rep.trans ?_ (State.forward_rep err he _ _)
    have h1 := recPut_rep s (f := REC.HEAD_SEQ) ((s.get REC.HEAD_SEQ + 1) % 2 ^ 32) (.inr (.inl rfl)) (by decide) (by decide) (by decide)
    have ho : ∀ t : State, t.Rep (t.inc REC.OVW_CNT) := fun t => recPut_rep t (f := REC.OVW_CNT) _ (.inr (.inl rfl)) (by decide) (by decide) (by decide)
    have hu : ∀ t : State, t.Rep (t.inc REC.RSV_USED) := fun t => recPut_rep t (f := REC.RSV_USED) _ (.inr (.inl rfl)) (by decide) (by decide) (by decide)
    exact (State.Rep.ite _ (h1.trans (ho _)) (State.Rep.ite _ (h1.trans (hu _)) h1)).recd _

theorem State.record_rep (err : State → Page → Nat → State) (he : ∀ (s : State) (p : Page) (k : Nat), p.inst < 256 → State.Rep s (err s p k))
    (s : State) (c i v : Nat) (pl : List Byte) (f : Bool) : s.Rep (State.record err s c i v pl f) := by
  have h (x : RecState) : s.Rep (State.writeRecord err { s with recd := x } c i v pl f false) :=
    ((State.Rep.refl s).recd x).trans (State.writeRecord_rep err he _ _ _ _ _ _ _)
  have k := State.foldCode_rep s c 1 s.timeNs s.timeNs i v pl
  unfold State.record
  exact State.Rep.ite _ (State.Rep.ite _ (h _) k) (State.Rep.ite _ (State.Rep.ite _ (h _) k) (State.Rep.ite _ (h _) k))

theorem State.sendOcc_rep (err : State → Page → Nat → State) (he : ∀ (s : State) (p : Page) (k : Nat), p.inst < 256 → State.Rep s (err s p k))
    (s : State) (p : Page) (i v : Nat) (pl : List Byte) (f : Bool) : s.Rep (State.sendOcc err s p i v pl f) := by
  have go (x : EvfState) : s.Rep ((({ s with evf := x } : State).record err (p.blk.code * 256 + i) p.inst v pl f).deliver p i) :=
    (((State.Rep.refl s).evf x).trans (State.record_rep err he _ _ _ _ _ _)).trans (State.deliver_rep _ _ _)
  have fo (x : EvfState) : s.Rep { s with evf := x } := (State.Rep.refl s).evf x
  have tr : s.Rep (s.inc EVF.TRACE_DROP) := recPut_rep s (f := EVF.TRACE_DROP) _ (.inl rfl) (by decide) (by decide) (by decide)
  unfold State.sendOcc
  exact State.Rep.ite _ (go _) (State.Rep.ite _ tr (State.Rep.ite _ (fo _) (State.Rep.ite _ (go _) (fo _))))

theorem State.occurWith_rep (err : State → Page → Nat → State) (he : ∀ (s : State) (p : Page) (k : Nat), p.inst < 256 → State.Rep s (err s p k)) (s : State) {p : Page} (hp : p.inst < 256) (i v : Nat) (pl : List Byte) (f : Bool) :
    s.Rep (State.occurWith err s p i v pl f) := by
  unfold State.occurWith
  dsimp only
  refine State.Rep.trans ?_ (State.sendOcc_rep err he _ _ _ _ _ _)
  split_ifs
  · exact State.Rep.set hp i (.inl rfl)
  · exact State.Rep.refl s

/-- A capture: the two words are written while no error bit of the page is set. -/
theorem State.Rep.capture {s : State} {p : Page} (hp : p.inst < 256) (hz : s.rd p HDR.ERR_STAT = 0) (a b : Nat) :
    s.Rep ((s.wr p HDR.ERR_INFO0 a).wr p HDR.ERR_INFO1 b) := by
  have go (hr : s.regsOk) {q : Page} {g : Fld} {j : Nat} (h0 : g.key q j ≠ HDR.ERR_INFO0.key p 0) (h1 : g.key q j ≠ HDR.ERR_INFO1.key p 0) :
      ((s.wr p HDR.ERR_INFO0 a).wr p HDR.ERR_INFO1 b).rd q g j = s.rd q g j := by
    rw [State.rd_wr_ne (State.regsOk_wr hr _ _ _ _) _ h1, State.rd_wr_ne hr _ h0]
  have hd {q : Page} {g h : Fld} (hq : q.inst < 256) (hg : g.place 0 < 32768) (hh : h.place 0 < 32768) (n : g.place 0 ≠ h.place 0) : g.key q 0 ≠ h.key p 0 :=
    Fld.key_ne_of hg hh hq hp (.inr n)
  refine ⟨fun hr => State.regsOk_wr (State.regsOk_wr hr _ _ _ _) _ _ _ _, fun hr q g j hu => ?_, fun hr q k hq _ e => ?_, fun hr q k hq _ e => ?_,
    fun hr q hq c => ?_⟩
  · obtain ⟨u1, u2, u3, u4, u5, u6, u7⟩ := hu
    exact go hr (Fld.key_ne_of u1 (by decide) u2 hp (.inr u5)) (Fld.key_ne_of u1 (by decide) u2 hp (.inr u6))
  · rw [go hr (hd hq (by decide) (by decide) (by decide)) (hd hq (by decide) (by decide) (by decide))]
    exact e
  · rw [go hr (hd hq (by decide) (by decide) (by decide)) (hd hq (by decide) (by decide) (by decide))]
    exact e
  · have hqp : q ≠ p := by
      rintro rfl
      obtain ⟨k, -, e⟩ := c
      rw [hz] at e
      simp at e
    exact ⟨go hr (Fld.key_ne_of (by decide) (by decide) hq hp (.inl hqp)) (Fld.key_ne_of (by decide) (by decide) hq hp (.inl hqp)),
      go hr (Fld.key_ne_of (by decide) (by decide) hq hp (.inl hqp)) (Fld.key_ne_of (by decide) (by decide) hq hp (.inl hqp))⟩

theorem State.setErr_rep (s : State) {p : Page} (hp : p.inst < 256) (k : Nat) (c : Option Capture) : s.Rep (s.setErr p k c) := by
  have hset : ∀ (t : State) (st : Nat), st = t.rd p HDR.ERR_STAT → t.Rep (t.wr p HDR.ERR_STAT (setBits st k 1 1)) := by
    intro t st e
    rw [e]
    exact State.Rep.set hp k (.inr rfl)
  have hsame : ∀ (a b : Nat), s.regsOk → ((s.wr p HDR.ERR_INFO0 a).wr p HDR.ERR_INFO1 b).rd p HDR.ERR_STAT = s.rd p HDR.ERR_STAT := by
    intro a b hr
    rw [State.rd_wr_ne (State.regsOk_wr hr _ _ _ _), State.rd_wr_ne hr] <;> exact Fld.key_ne_of (by decide) (by decide) hp hp (.inr (by decide))
  have main : ∀ (a b : Nat), s.rd p HDR.ERR_STAT = 0 → s.Rep (((s.wr p HDR.ERR_INFO0 a).wr p HDR.ERR_INFO1 b).wr p HDR.ERR_STAT (setBits (s.rd p HDR.ERR_STAT) k 1 1)) := by
    intro a b hz
    have hc : s.regsOk → s.Rep (((s.wr p HDR.ERR_INFO0 a).wr p HDR.ERR_INFO1 b).wr p HDR.ERR_STAT (setBits (s.rd p HDR.ERR_STAT) k 1 1)) := fun hr =>
      (State.Rep.capture hp hz a b).trans (hset _ _ (hsame a b hr).symm)
    exact ⟨fun hr => (hc hr).ok hr, fun hr => (hc hr).same hr, fun hr => (hc hr).evt hr, fun hr => (hc hr).err hr, fun hr => (hc hr).info hr⟩
  unfold State.setErr
  cases c <;> dsimp only <;> split_ifs with h <;> first | exact main _ _ h | exact hset s _ rfl

/-- The capture of an error on a page without one (R44): requester and place, and the word. -/
theorem State.setErr_info {s : State} (hr : s.regsOk) {p : Page} (hp : p.inst < 256) (hz : s.rd p HDR.ERR_STAT = 0) (k : Nat) (c : Capture) :
    (s.setErr p k (some c)).rd p HDR.ERR_INFO0 =
      (c.req * 2 ^ 28 + (if k < 16 then k else k - 16) * 2 ^ 24 + (if k < 16 then 0 else 2 ^ 23) + c.off % 4096) % 2 ^ 32 ∧
    (s.setErr p k (some c)).rd p HDR.ERR_INFO1 = c.data % 2 ^ 32 := by
  have hd {g h : Fld} (hg : g.place 0 < 32768) (hh : h.place 0 < 32768) (n : g.place 0 ≠ h.place 0) : g.key p 0 ≠ h.key p 0 :=
    Fld.key_ne_of hg hh hp hp (.inr n)
  unfold State.setErr
  simp only [hz, if_true]
  constructor
  · rw [State.rd_wr_ne (State.regsOk_wr (State.regsOk_wr hr _ _ _ _) _ _ _ _) _ (hd (by decide) (by decide) (by decide)),
      State.rd_wr_ne (State.regsOk_wr hr _ _ _ _) _ (hd (by decide) (by decide) (by decide)), State.rd_wr_same hr]
    rfl
  · rw [State.rd_wr_ne (State.regsOk_wr (State.regsOk_wr hr _ _ _ _) _ _ _ _) _ (hd (by decide) (by decide) (by decide)),
      State.rd_wr_same (State.regsOk_wr hr _ _ _ _)]
    rfl

theorem State.errQuiet_rep (s : State) {p : Page} (hp : p.inst < 256) (k : Nat) : s.Rep (s.errQuiet p k) := State.setErr_rep s hp k none

theorem State.errInner_rep (s : State) {p : Page} (hp : p.inst < 256) (k : Nat) : s.Rep (s.errInner p k) :=
  (State.setErr_rep s hp k none).trans (State.occurWith_rep _ (fun s _ k h => State.errQuiet_rep s h k) _ hp _ _ _ _)

theorem State.errAlarm_rep (s : State) {p : Page} (hp : p.inst < 256) (k : Nat) : s.Rep (s.errAlarm p k) :=
  (State.setErr_rep s hp k none).trans (State.occurWith_rep _ (fun s _ k h => State.errInner_rep s h k) _ hp _ _ _ _)

/-- What an occurrence does to the register file. -/
theorem State.occur_rep (s : State) {p : Page} (hp : p.inst < 256) (i v : Nat) (pl : List Byte) : s.Rep (s.occur p i v pl) :=
  State.occurWith_rep _ (fun s _ k h => State.errAlarm_rep s h k) s hp i v pl false

theorem State.misc_rep (s : State) {p : Page} (hp : p.inst < 256) (v : Nat) (pl : List Byte) : s.Rep (s.misc p v pl) := State.occur_rep s hp _ _ _

theorem State.blkErr_rep (s : State) {p : Page} (hp : p.inst < 256) (k v : Nat) (pl : List Byte) (c : Option Capture) : s.Rep (s.blkErr p k v pl c) := by
  unfold State.blkErr
  dsimp only
  split_ifs
  · exact (State.setErr_rep s hp k c).trans (State.occur_rep _ hp _ _ _)
  · exact State.setErr_rep s hp k c

theorem State.ctlErr_rep (s : State) {p : Page} (hp : p.inst < 256) (k v : Nat) (c : Capture) : s.Rep (s.ctlErr p k v c) :=
  (State.setErr_rep s hp k (some c)).trans (State.occur_rep _ hp _ _ _)

theorem setFlag_testBit (v : Nat) {k : Nat} (hk : k < 32) : (setBits v k 1 1 % 2 ^ 32).testBit k = true := by
  rw [Nat.testBit_mod_two_pow, setBits_one_self]
  simp [hk]

/-- An error sets its bit of ERR_STAT, and the reports that follow leave it set. -/
theorem State.setErr_bit {s : State} (hr : s.regsOk) (p : Page) {k : Nat} (hk : k < 32) (c : Option Capture) :
    ((s.setErr p k c).rd p HDR.ERR_STAT).testBit k = true := by
  have h {t : State} (ht : t.regsOk) (v : Nat) : ((t.wr p HDR.ERR_STAT (setBits v k 1 1)).rd p HDR.ERR_STAT).testBit k = true := by
    rw [State.rd_wr_same ht]
    exact setFlag_testBit v hk
  have h2 (a b v : Nat) := h (State.regsOk_wr (State.regsOk_wr hr p HDR.ERR_INFO0 a 0) p HDR.ERR_INFO1 b 0) v
  have h3 (c : Prop) [Decidable c] (a b v : Nat) :
      (((if c then (s.wr p HDR.ERR_INFO0 a).wr p HDR.ERR_INFO1 b else s).wr p HDR.ERR_STAT (setBits v k 1 1)).rd p HDR.ERR_STAT).testBit k = true := by
    split_ifs
    · exact h2 a b v
    · exact h hr v
  unfold State.setErr
  cases c <;> exact h3 _ _ _ _

theorem State.blkErr_bit {s : State} (hr : s.regsOk) {p : Page} (hp : p.inst < 256) {k : Nat} (hk : k < 32) (v : Nat) (pl : List Byte) (c : Option Capture) :
    ((s.blkErr p k v pl c).rd p HDR.ERR_STAT).testBit k = true := by
  have h := State.setErr_bit hr p hk c
  unfold State.blkErr
  dsimp only
  split_ifs
  · exact (State.occur_rep _ hp _ _ _).err ((State.setErr_rep s hp k c).ok hr) p k hp hk h
  · exact h

theorem State.ctlErr_bit {s : State} (hr : s.regsOk) {p : Page} (hp : p.inst < 256) {k : Nat} (hk : k < 32) (v : Nat) (c : Capture) :
    ((s.ctlErr p k v c).rd p HDR.ERR_STAT).testBit k = true :=
  (State.occur_rep _ hp _ _ _).err ((State.setErr_rep s hp k _).ok hr) p k hp hk (State.setErr_bit hr p hk _)

/-- A common error leaves its capture in a page that held none. -/
theorem State.ctlErr_info {s : State} (hr : s.regsOk) {p : Page} (hp : p.inst < 256) (hz : s.rd p HDR.ERR_STAT = 0) {k : Nat} (hk : k < 32) (v : Nat) (c : Capture) :
    (s.ctlErr p k v c).rd p HDR.ERR_INFO0 =
      (c.req * 2 ^ 28 + (if k < 16 then k else k - 16) * 2 ^ 24 + (if k < 16 then 0 else 2 ^ 23) + c.off % 4096) % 2 ^ 32 ∧
    (s.ctlErr p k v c).rd p HDR.ERR_INFO1 = c.data % 2 ^ 32 := by
  have a := State.setErr_info hr hp hz k c
  have b := (State.occur_rep (s.setErr p k (some c)) hp 0 v
    (le 4 ((s.setErr p k (some c)).rd p HDR.ERR_INFO0) ++ le 4 ((s.setErr p k (some c)).rd p HDR.ERR_INFO1))).info ((State.setErr_rep s hp k _).ok hr) p hp
    ⟨k, hk, State.setErr_bit hr p hk _⟩
  exact ⟨b.1.trans a.1, b.2.trans a.2⟩

end Sys2Proof.Machine
end

