-- ==== Sys2Proof/Laws/Header.lean ====
section
/-! SUPPORT. Writes of the registers of the common header: each is the effect of the fields its word holds, on a block that has come to rest if it waited to. -/
namespace Sys2Proof.Machine

theorem blkFields_above (b : Blk) : ∀ f ∈ blkFields b, 0x100 ≤ f.off := by
  cases b <;> decide

theorem pageFor_present {r : Requester} {p : Page} (h : pageFor r p.base = some p) : p.present = true := by
  unfold pageFor at h
  rw [Option.filter_eq_some_iff] at h
  have e := h.1
  unfold Page.ofOff at e
  split at e
  · cases e
  · dsimp only at e
    split at e
    · split at e
      · rename_i b _ hi
        injection e with e
        rw [← e]
        exact decide_eq_true hi
      · cases e
    · cases e

theorem Page.inst_lt {p : Page} (hp : p.present = true) : p.inst < 256 := by
  have h1 := Blk.pages_le p.blk
  have h2 : p.inst < p.blk.pages := of_decide_eq_true hp
  omega

theorem pageFor_admitted {r : Requester} {p : Page} (h : pageFor r p.base = some p) {a : Nat} (ha : a < 4096) : pageFor r (p.base + a) = some p := by
  have hp := pageFor_present h
  unfold pageFor at h ⊢
  have e : Page.ofOff p.base = some p := Page.ofOff_base hp (a := 0) (by decide)
  rw [e] at h
  rw [Page.ofOff_base hp ha]
  exact h

/-- An admitted write of a page that answers reaches it. -/
theorem State.regWrite_admitted {s : State} {r : Requester} {p : Page} (h : s.admits r p) {a n d : Nat} (ha : a < 4096) (hn : legalAccess a n = true)
    (hd : d < 2 ^ (8 * n)) (hon : (a < 0x100 || s.domainOn (Page.dom p)) = true) : s.regWrite r p a n d = s.pageWrite r p a n d := by
  obtain ⟨hr, hf, -, hw⟩ := h
  have hp := pageFor_present hf
  have hm := Page.base_mod p ha
  have hd64 : d < 2 ^ 64 := by
    simp only [legalAccess, Bool.and_eq_true, Bool.or_eq_true, beq_iff_eq] at hn
    rcases hn.1 with rfl | rfl <;> omega
  unfold State.regWrite
  rw [State.access_onPage (p := p) (o := p.base + a) (d := d) s _ hr (ofNat32_toNat (Page.base_lt hp ha))
    (by show (BitVec.ofNat 64 d).toNat % _ = d; rw [ofNat64_toNat hd64, Nat.mod_eq_of_lt hd]) (legalAccess_base p hn) (pageFor_admitted hf ha)
    (State.wayClear_behind hw _ rfl) (by rw [hm]; exact hon)]
  unfold State.onPage
  rw [hm]
  rfl

theorem slotsAt_header (p : Page) {a n : Nat} (h : a + n ≤ 0x100) :
    slotsAt p a n = (hdrFields.map fun f => (p, f, 0, f.off * 8 + f.lo)).filter fun x => x.2.2.2 < (a + n) * 8 && a * 8 < x.2.2.2 + x.2.1.width := by
  have hh : hdrFields.flatMap (fun f => (List.range f.cnt).map fun i => (p, f, i, (f.off + f.stride * i) * 8 + f.lo)) =
      hdrFields.map fun f => (p, f, 0, f.off * 8 + f.lo) := rfl
  have hb : ((pageFields p).flatMap fun f => (List.range f.cnt).map fun i => (p, f, i, (f.off + f.stride * i) * 8 + f.lo)).filter
      (fun x => x.2.2.2 < (a + n) * 8 && a * 8 < x.2.2.2 + x.2.1.width) = [] := by
    rw [List.filter_eq_nil_iff]
    intro x hx
    obtain ⟨f, hf, hx⟩ := List.mem_flatMap.mp hx
    obtain ⟨i, -, rfl⟩ := List.mem_map.mp hx
    have h1 := blkFields_above p.blk f (List.mem_filter.mp hf).1
    have h2 : 0 ≤ f.stride * i := Nat.zero_le _
    simp only [Bool.and_eq_true, decide_eq_true_eq]
    omega
  have hs : (([PWR.IDLE_TIME, PWR.MODE].map fun f => (pg .pwr, f, 2 + p.inst, 0x100 * 8 + f.lo)) : List (Page × Fld × Nat × Nat)).filter
      (fun x => x.2.2.2 < (a + n) * 8 && a * 8 < x.2.2.2 + x.2.1.width) = [] := by
    rw [List.filter_eq_nil_iff]
    intro x hx
    simp only [List.map_cons, List.map_nil, List.mem_cons, List.not_mem_nil, or_false] at hx
    rcases hx with rfl | rfl <;> · simp only [Bool.and_eq_true, decide_eq_true_eq]; omega
  unfold slotsAt pageSlots
  rw [List.flatMap_append, hh]
  dsimp only
  split
  · rw [List.filter_append, List.filter_append, hb, hs, List.append_nil, List.append_nil]
  · rw [List.filter_append, hb, List.append_nil]

theorem State.quiesceLatch_rd {s : State} (hr : s.regsOk) (p : Page) {q : Page} {g : Fld} {j : Nat} (h : g.key q j ≠ HDR.QUIESCED.key p 0) :
    (s.quiesceLatch p).rd q g j = s.rd q g j := by
  unfold State.quiesceLatch
  split
  · exact State.rd_wr_ne hr _ h
  · rfl

theorem State.quiesceLatch_hdr {s : State} (hr : s.regsOk) (p : Page) {q : Page} {g : Fld} (hg : g.place 0 < 32768) (h : g.place 0 ≠ 161) :
    (s.quiesceLatch p).rd q g = s.rd q g :=
  State.quiesceLatch_rd hr p (Fld.key_ne_place hg (by decide) h)

theorem State.quiesceLatch_ok {s : State} (hr : s.regsOk) (p : Page) : (s.quiesceLatch p).regsOk := by
  unfold State.quiesceLatch
  split
  · exact State.regsOk_wr hr _ _ _ _
  · exact hr

theorem State.quiesceLatch_asWarden {s : State} (hr : s.regsOk) (p : Page) (r : Requester) : (s.quiesceLatch p).asWarden r = s.asWarden r := by
  cases r <;> try rfl
  unfold State.asWarden
  dsimp only
  rw [show (s.quiesceLatch p).get WDN.DEBUG_LEVEL = s.get WDN.DEBUG_LEVEL from State.quiesceLatch_hdr hr p (by decide) (by decide)]

theorem State.quiesceLatch_mayRead {s : State} (hr : s.regsOk) (p : Page) (r : Requester) : (s.quiesceLatch p).mayRead r p = s.mayRead r p := by
  have hw := State.quiesceLatch_asWarden hr p r
  cases r <;> unfold State.mayRead <;> dsimp only
  · rw [State.quiesceLatch_hdr hr p (g := HDR.SVC_R) (by decide) (by decide), State.quiesceLatch_hdr hr p (g := HDR.SVC_CLUSTERS) (by decide) (by decide)]
  · rw [State.quiesceLatch_hdr hr p (g := HDR.HOST_R) (by decide) (by decide)]
  · rw [hw, State.quiesceLatch_hdr hr p (g := HDR.SVC_R) (by decide) (by decide)]

theorem State.quiesceLatch_mayWrite {s : State} (hr : s.regsOk) (p : Page) (r : Requester) : (s.quiesceLatch p).mayWrite r p = s.mayWrite r p := by
  have hw := State.quiesceLatch_asWarden hr p r
  have hm := State.quiesceLatch_mayRead hr p r
  cases r <;> unfold State.mayWrite <;> dsimp only
  · rw [hm, State.quiesceLatch_hdr hr p (g := HDR.SVC_W) (by decide) (by decide)]
  · rw [hm, State.quiesceLatch_hdr hr p (g := HDR.HOST_W) (by decide) (by decide)]
  · exact hw

/-- An access that raises no error keeps the captures as they are. -/
theorem State.captureBy_same {s t : State} {p : Page} (h : s.rd p HDR.ERR_STAT = 0 → t.rd p HDR.ERR_STAT = 0) (c : Capture) : s.captureBy t p c = t := by
  unfold State.captureBy
  by_cases h0 : s.rd p HDR.ERR_STAT = 0
  · simp [h h0]
  · simp [h0]

/-- A write all of whose fields the checks let through or pass over, none of them a command, is the effects of those let through, in order. -/
theorem State.pageWrite_all (s s1 : State) (r : Requester) (p : Page) (a n d : Nat) (ys : List FieldWrite) (h1 : s.quiesceLatch p = s1)
    (hm : s1.mayWrite r p = true) (ht : (((s1.writesAt p a n d).map fun x => (x, s1.verdict r p x)).filter fun v => v.2 == .take).map Prod.fst = ys)
    (he : ∀ k, (((s1.writesAt p a n d).map fun x => (x, s1.verdict r p x)).any fun v => v.2 == .err k) = false)
    (hj : ∀ y ∈ ys, s1.jobBusy y = none) (hs : ∀ y ∈ ys, y.fld.stage = false) (hc : ∀ y ∈ ys, y.command = false) :
    s.pageWrite r p a n d = s1.captureBy (ys.foldl (State.effect r ys (capOf r (p.base + a) d)) s1) p (capOf r (p.base + a) d) := by
  have e1 : ys.findSome? s1.jobBusy = none := List.findSome?_eq_none_iff.mpr hj
  have e2 : ys.filter (fun x => (s1.jobBusy x).isNone) = ys := List.filter_eq_self.mpr fun y hy => by rw [hj y hy]; rfl
  have e3 : ys.any (fun x => x.fld.stage) = false := List.any_eq_false.mpr fun y hy => by rw [hs y hy]; exact Bool.false_ne_true
  have e4 : ys.filter (fun x => !x.command) = ys := List.filter_eq_self.mpr fun y hy => by rw [hc y hy]; rfl
  have e5 : ys.filter (fun x => x.command) = [] := List.filter_eq_nil_iff.mpr fun y hy => by rw [hc y hy]; exact Bool.false_ne_true
  unfold State.pageWrite
  rw [h1]
  simp only [hm, Bool.not_true, Bool.false_eq_true, if_false, ht, he, List.foldl_nil, e1, e2, e3, e4, e5, Bool.and_false, Bool.false_and,
    List.filter_cons, List.filter_nil]

/-! ## The words of the header -/

theorem slots_lock (p : Page) : slotsAt p 0x044 4 = [(p, HDR.LOCK, 0, 0x044 * 8)] := by
  rw [slotsAt_header p (by decide)]
  rfl
theorem slots_errStat (p : Page) : slotsAt p 0x028 4 = [(p, HDR.ERR_STAT, 0, 0x028 * 8)] := by
  rw [slotsAt_header p (by decide)]
  rfl
theorem slots_evtStat (p : Page) : slotsAt p 0x018 4 = [(p, HDR.EVT_STAT, 0, 0x018 * 8)] := by
  rw [slotsAt_header p (by decide)]
  rfl
theorem slots_evtMask (p : Page) : slotsAt p 0x01C 4 = [(p, HDR.EVT_MASK, 0, 0x01C * 8)] := by
  rw [slotsAt_header p (by decide)]
  rfl
theorem slots_evtForce (p : Page) : slotsAt p 0x020 4 = [(p, HDR.EVT_FORCE, 0, 0x020 * 8)] := by
  rw [slotsAt_header p (by decide)]
  rfl
theorem slots_evtRoute (p : Page) : slotsAt p 0x024 4 = [(p, HDR.EVT_ROUTE, 0, 0x024 * 8)] := by
  rw [slotsAt_header p (by decide)]
  rfl
theorem slots_stage (p : Page) : slotsAt p 0x038 4 =
    [(p, HDR.EPOCH, 0, 0x038 * 8 + 16), (p, HDR.STAGE_STAT, 0, 0x038 * 8 + 4), (p, HDR.VIEW, 0, 0x038 * 8 + 1), (p, HDR.ARM, 0, 0x038 * 8)] := by
  rw [slotsAt_header p (by decide)]
  rfl
theorem slots_ctrl (p : Page) : slotsAt p 0x010 4 =
    [(p, HDR.BLOCK_DEF, 0, 0x010 * 8 + 16), (p, HDR.QUIESCE, 0, 0x010 * 8 + 1), (p, HDR.ENABLE, 0, 0x010 * 8)] := by
  rw [slotsAt_header p (by decide)]
  rfl

theorem bitsFor_word {d b a : Nat} (hb : b = a * 8) (hd : d < 2 ^ 32) : bitsFor d b 32 a 4 = d := by
  subst hb
  unfold bitsFor
  simp only [Nat.le_refl, if_true, Nat.sub_self, Nat.shiftRight_zero]
  omega

theorem jobBusy_header {s : State} {y : FieldWrite} (h : y.fld.off < 0x100) : s.jobBusy y = none := by
  unfold State.jobBusy
  split
  · have : ¬ 0x140 ≤ y.fld.off := by omega
    simp [this]
  · have : ¬ 0x100 ≤ y.fld.off := by omega
    simp [this]
  · rfl

/-- A write of a header word that is one field, which is taken, is that field's effect. -/
theorem State.header_one {s : State} (hr : s.regsOk) {r : Requester} {p : Page} (ha : s.admits r p) {a d : Nat} {f : Fld} (hs : slotsAt p a 4 = [(p, f, 0, a * 8)])
    (hf : f.off < 0x100) (hl : a < 0x100) (hn : legalAccess a 4 = true) (hd : d < 2 ^ 32) {v : Nat} (hv : bitsFor d (a * 8) f.width a 4 = v)
    (hb : f.acc = .w1s ∨ f.acc = .rw1c ∨ bitsFor (2 ^ (4 * 8) - 1) (a * 8) f.width a 4 = 2 ^ f.width - 1 ∧ (s.quiesceLatch p).before p f 0 < 2 ^ f.width)
    (hi : f.acc ≠ .ro ∧ (f.acc = .w1s ∨ f.acc = .rw1c → v ≠ 0)) (hw : f.warden = true → s.asWarden r = true) (hk : f.acc = .rwl → s.rd p HDR.LOCK ≠ 1)
    (hg : f.stage = false) :
    ∃ y : FieldWrite, y.page = p ∧ y.fld = f ∧ y.idx = 0 ∧ y.value = v ∧ s.regWrite r p a 4 d =
      (s.quiesceLatch p).captureBy ((s.quiesceLatch p).headerEffect [y] (capOf r (p.base + a) d) y) p (capOf r (p.base + a) d) := by
  have hm := (State.quiesceLatch_mayWrite hr p r).trans ha.2.2.1
  have hw1 := State.quiesceLatch_asWarden hr p r
  have hk1 : (s.quiesceLatch p).rd p HDR.LOCK = s.rd p HDR.LOCK := State.quiesceLatch_hdr hr p (by decide) (by decide)
  obtain ⟨y, hy⟩ : ∃ y, (s.quiesceLatch p).writesAt p a 4 d = [y] ∧ y.page = p ∧ y.fld = f ∧ y.idx = 0 ∧ y.value = v := by
    unfold State.writesAt
    rw [hs]
    refine ⟨_, rfl, rfl, rfl, rfl, ?_⟩
    show _ - _ + bitsFor d (a * 8) f.width a 4 = v
    rw [hv]
    have h0 : (s.quiesceLatch p).before p f 0 - ((s.quiesceLatch p).before p f 0 &&& bitsFor (2 ^ (4 * 8) - 1) (a * 8) f.width a 4) = 0 := by
      rcases hb with hb | hb | ⟨hb, hlt⟩
      · simp [State.before, hb]
      · simp [State.before, hb]
      · rw [hb, Nat.and_two_pow_sub_one_eq_mod, Nat.mod_eq_of_lt hlt, Nat.sub_self]
    rw [h0, Nat.zero_add]
  obtain ⟨hy, y1, y2, y3, y4⟩ := hy
  have ht : (s.quiesceLatch p).verdict r p y = .take := by
    unfold State.verdict FieldWrite.idle
    dsimp only
    rw [y2, y4, hw1, hk1]
    have h1 : ¬ ((f.acc == Acc.ro || ((f.acc == Acc.w1s || f.acc == Acc.rw1c) && v == 0)) = true) := by
      simp only [Bool.or_eq_true, Bool.and_eq_true, beq_iff_eq]
      rintro (h | ⟨h, h'⟩)
      · exact hi.1 h
      · exact hi.2 h h'
    have h2 : ¬ ((f.warden && !s.asWarden r) = true) := by
      cases hfw : f.warden
      · simp
      · simp [hw hfw]
    have h3 : ¬ ((f.acc == .rwl && s.rd p HDR.LOCK == 1) = true) := by
      simp only [Bool.and_eq_true, beq_iff_eq]
      exact fun h => hk h.1 h.2
    rw [if_neg h1, if_neg h2, if_neg h3, if_pos hf]
  refine ⟨y, y1, y2, y3, y4, ?_⟩
  rw [State.regWrite_admitted ha (by omega) hn hd (by simp [hl])]
  rw [State.pageWrite_one s _ r p a 4 d y rfl hm ?_ ?_ (jobBusy_header (y2 ▸ hf)) (.inl (y2 ▸ hg))]
  · unfold State.effect
    rw [if_pos (y2 ▸ hf)]
  · rw [hy]
    simp [ht]
  · rw [hy]
    simp [ht]

/-- LOCK is written 1 (R49). -/
theorem State.write_lock {s : State} (hr : s.regsOk) {r : Requester} {p : Page} (ha : s.admits r p) (hw : s.asWarden r = true) :
    s.regWrite r p 0x044 4 1 = (s.quiesceLatch p).wr p HDR.LOCK 1 := by
  obtain ⟨y, y1, y2, y3, y4, e⟩ := State.header_one hr ha (slots_lock p) (d := 1) (v := 1) (by decide) (by decide) (by decide) (by decide) (by decide) (.inl rfl)
    ⟨by decide, fun _ => by decide⟩ (fun _ => hw) (fun h => absurd h (by decide)) rfl
  have h : (s.quiesceLatch p).headerEffect [y] (capOf r (p.base + 0x044) 1) y = (s.quiesceLatch p).wr p HDR.LOCK 1 := by
    unfold State.headerEffect State.store State.clamped
    rw [y1, y2, y3, y4]
    rfl
  rw [e, h, State.captureBy_same]
  intro h0
  rw [State.rd_wr_ne (State.quiesceLatch_ok hr p) _ (Fld.key_ne_place (by decide) (by decide) (by decide))]
  exact h0

theorem State.quiesceLatch_errStat {s : State} (hr : s.regsOk) (p : Page) : (s.quiesceLatch p).rd p HDR.ERR_STAT = s.rd p HDR.ERR_STAT :=
  State.quiesceLatch_hdr hr p (by decide) (by decide)

/-- ERR_STAT is written (R44): the bits written 1 are cleared. -/
theorem State.write_errStat {s : State} (hr : s.regsOk) {r : Requester} {p : Page} (ha : s.admits r p) {m : Nat} (hm : m < 2 ^ 32) (h0 : m ≠ 0) :
    s.regWrite r p 0x028 4 m = (s.quiesceLatch p).clearBits p HDR.ERR_STAT 0 m := by
  obtain ⟨y, y1, y2, y3, y4, e⟩ := State.header_one hr ha (slots_errStat p) (d := m) (v := m) (by decide) (by decide) (by decide) hm (bitsFor_word rfl hm)
    (.inr (.inl rfl)) ⟨by decide, fun _ => h0⟩ (fun h => absurd h (by decide)) (fun h => absurd h (by decide)) rfl
  have h : (s.quiesceLatch p).headerEffect [y] (capOf r (p.base + 0x028) m) y = (s.quiesceLatch p).clearBits p HDR.ERR_STAT 0 m := by
    unfold State.headerEffect
    rw [y1, y2, y4]
    rfl
  rw [e, h, State.captureBy_same]
  intro hz
  unfold State.clearBits
  rw [hz, State.rd_wr_same (State.quiesceLatch_ok hr p)]
  simp

/-- EVT_STAT is written (R504): the bits written 1 are cleared. -/
theorem State.write_evtStat {s : State} (hr : s.regsOk) {r : Requester} {p : Page} (ha : s.admits r p) {m : Nat} (hm : m < 2 ^ 32) (h0 : m ≠ 0) :
    s.regWrite r p 0x018 4 m = (s.quiesceLatch p).clearBits p HDR.EVT_STAT 0 m := by
  obtain ⟨y, y1, y2, y3, y4, e⟩ := State.header_one hr ha (slots_evtStat p) (d := m) (v := m) (by decide) (by decide) (by decide) hm (bitsFor_word rfl hm)
    (.inr (.inl rfl)) ⟨by decide, fun _ => h0⟩ (fun h => absurd h (by decide)) (fun h => absurd h (by decide)) rfl
  have h : (s.quiesceLatch p).headerEffect [y] (capOf r (p.base + 0x018) m) y = (s.quiesceLatch p).clearBits p HDR.EVT_STAT 0 m := by
    unfold State.headerEffect
    rw [y1, y2, y4]
    rfl
  rw [e, h, State.captureBy_same]
  intro hz
  unfold State.clearBits
  rw [State.rd_wr_ne (State.quiesceLatch_ok hr p) _ (Fld.key_ne_place (by decide) (by decide) (by decide))]
  exact hz

/-- What a field that is not stageable holds before a write fits its width. -/
theorem State.before_lt {s : State} {p : Page} {f : Fld} {i : Nat} (h : f.stage = false) : s.before p f i < 2 ^ f.width := by
  have h0 : 0 < 2 ^ f.width := Nat.two_pow_pos _
  unfold State.before State.live
  simp only [h, Bool.false_eq_true, Bool.false_and, if_false]
  repeat' split
  all_goals first | exact h0 | exact Nat.mod_lt _ h0

/-- EVT_ROUTE is written. -/
theorem State.write_evtRoute {s : State} (hr : s.regsOk) {r : Requester} {p : Page} (ha : s.admits r p) {v : Nat} (hv : v < 512) :
    s.regWrite r p 0x024 4 v = (s.quiesceLatch p).wr p HDR.EVT_ROUTE v := by
  have hlt : (s.quiesceLatch p).before p HDR.EVT_ROUTE 0 < 2 ^ 9 := State.before_lt rfl
  have hbits : bitsFor v (0x024 * 8) HDR.EVT_ROUTE.width 0x024 4 = v := by
    unfold bitsFor
    simp only [Nat.le_refl, if_true, Nat.sub_self, Nat.shiftRight_zero, HDR.EVT_ROUTE]
    omega
  obtain ⟨y, y1, y2, y3, y4, e⟩ := State.header_one hr ha (slots_evtRoute p) (d := v) (v := v) (by decide) (by decide) (by decide) (by omega) hbits
    (.inr (.inr ⟨by decide, hlt⟩)) ⟨by decide, fun h => absurd h (by decide)⟩ (fun h => absurd h (by decide)) (fun h => absurd h (by decide)) rfl
  have h : (s.quiesceLatch p).headerEffect [y] (capOf r (p.base + 0x024) v) y = (s.quiesceLatch p).wr p HDR.EVT_ROUTE v := by
    unfold State.headerEffect State.store State.clamped
    rw [y1, y2, y3, y4]
    rfl
  rw [e, h, State.captureBy_same]
  intro h0
  rw [State.rd_wr_ne (State.quiesceLatch_ok hr p) _ (Fld.key_ne_place (by decide) (by decide) (by decide))]
  exact h0

/-- STAGE_CTRL is written (R55): the write acts as one. -/
theorem State.write_stage {s : State} (hr : s.regsOk) {r : Requester} {p : Page} (ha : s.admits r p) (epoch : BitVec 16) (view : Bool) (arm : Nat) (hm : arm < 2) :
    s.regWrite r p 0x038 4 (epoch.toNat * 65536 + b2n view * 2 + arm) =
      (s.quiesceLatch p).captureBy ((s.quiesceLatch p).stageCtrl p epoch.toNat (b2n view) arm (capOf r (p.base + 0x038) (epoch.toNat * 65536 + b2n view * 2 + arm))) p
        (capOf r (p.base + 0x038) (epoch.toNat * 65536 + b2n view * 2 + arm)) := by
  have hm1 := (State.quiesceLatch_mayWrite hr p r).trans ha.2.2.1
  have hv : b2n view < 2 := by cases view <;> decide
  generalize b2n view = v at hv ⊢
  have he := epoch.isLt
  generalize epoch.toNat = e at he ⊢
  have hd : e * 65536 + v * 2 + arm < 2 ^ (8 * 4) := by omega
  have b1 : bitsFor (e * 65536 + v * 2 + arm) (0x038 * 8 + 16) 16 0x038 4 = e := by
    unfold bitsFor
    simp [Nat.shiftRight_eq_div_pow]
    omega
  have b2 : bitsFor (e * 65536 + v * 2 + arm) (0x038 * 8 + 1) 1 0x038 4 = v := by
    unfold bitsFor
    simp [Nat.shiftRight_eq_div_pow]
    omega
  have b3 : bitsFor (e * 65536 + v * 2 + arm) (0x038 * 8) 1 0x038 4 = arm := by
    unfold bitsFor
    simp [Nat.shiftRight_eq_div_pow]
    omega
  have k1 : (s.quiesceLatch p).before p HDR.EPOCH 0 - ((s.quiesceLatch p).before p HDR.EPOCH 0 &&& bitsFor (2 ^ (4 * 8) - 1) (0x038 * 8 + 16) 16 0x038 4) = 0 := by
    have hlt : (s.quiesceLatch p).before p HDR.EPOCH 0 < 2 ^ 16 := State.before_lt rfl
    rw [show bitsFor (2 ^ (4 * 8) - 1) (0x038 * 8 + 16) 16 0x038 4 = 2 ^ 16 - 1 by decide, Nat.and_two_pow_sub_one_eq_mod, Nat.mod_eq_of_lt hlt, Nat.sub_self]
  have k2 : (s.quiesceLatch p).before p HDR.VIEW 0 - ((s.quiesceLatch p).before p HDR.VIEW 0 &&& bitsFor (2 ^ (4 * 8) - 1) (0x038 * 8 + 1) 1 0x038 4) = 0 := by
    have hlt : (s.quiesceLatch p).before p HDR.VIEW 0 < 2 ^ 1 := State.before_lt rfl
    rw [show bitsFor (2 ^ (4 * 8) - 1) (0x038 * 8 + 1) 1 0x038 4 = 2 ^ 1 - 1 by decide, Nat.and_two_pow_sub_one_eq_mod, Nat.mod_eq_of_lt hlt, Nat.sub_self]
  have k3 : (s.quiesceLatch p).before p HDR.ARM 0 - ((s.quiesceLatch p).before p HDR.ARM 0 &&& bitsFor (2 ^ (4 * 8) - 1) (0x038 * 8) 1 0x038 4) = 0 := by
    have hlt : (s.quiesceLatch p).before p HDR.ARM 0 < 2 ^ 1 := State.before_lt rfl
    rw [show bitsFor (2 ^ (4 * 8) - 1) (0x038 * 8) 1 0x038 4 = 2 ^ 1 - 1 by decide, Nat.and_two_pow_sub_one_eq_mod, Nat.mod_eq_of_lt hlt, Nat.sub_self]
  have hw : ∃ w0 w1 w2 w3 x1, (s.quiesceLatch p).writesAt p 0x038 4 (e * 65536 + v * 2 + arm) =
      [⟨p, HDR.EPOCH, 0, e, w0⟩, ⟨p, HDR.STAGE_STAT, 0, x1, w1⟩, ⟨p, HDR.VIEW, 0, v, w2⟩, ⟨p, HDR.ARM, 0, arm, w3⟩] := by
    unfold State.writesAt
    rw [slots_stage]
    refine ⟨bitsFor (2 ^ (4 * 8) - 1) (0x038 * 8 + 16) 16 0x038 4, bitsFor (2 ^ (4 * 8) - 1) (0x038 * 8 + 4) 3 0x038 4,
      bitsFor (2 ^ (4 * 8) - 1) (0x038 * 8 + 1) 1 0x038 4, bitsFor (2 ^ (4 * 8) - 1) (0x038 * 8) 1 0x038 4,
      (s.quiesceLatch p).before p HDR.STAGE_STAT 0 - ((s.quiesceLatch p).before p HDR.STAGE_STAT 0 &&& bitsFor (2 ^ (4 * 8) - 1) (0x038 * 8 + 4) 3 0x038 4) +
        bitsFor (e * 65536 + v * 2 + arm) (0x038 * 8 + 4) 3 0x038 4, ?_⟩
    simp only [List.map_cons, List.map_nil]
    rw [show HDR.EPOCH.width = 16 from rfl, show HDR.STAGE_STAT.width = 3 from rfl, show HDR.VIEW.width = 1 from rfl, show HDR.ARM.width = 1 from rfl, k1, k2, k3, b1, b2, b3, Nat.zero_add, Nat.zero_add, Nat.zero_add]
  obtain ⟨w0, w1, w2, w3, x1, hw⟩ := hw
  rw [State.regWrite_admitted ha (by omega) (by decide) hd (by simp)]
  rw [State.pageWrite_all s _ r p 0x038 4 (e * 65536 + v * 2 + arm) [⟨p, HDR.EPOCH, 0, e, w0⟩, ⟨p, HDR.VIEW, 0, v, w2⟩, ⟨p, HDR.ARM, 0, arm, w3⟩] rfl hm1 ?_ ?_ ?_ ?_ ?_]
  · rfl
  · rw [hw]
    rfl
  · intro k
    rw [hw]
    rfl
  · intro y hy
    apply jobBusy_header
    simp only [List.mem_cons, List.not_mem_nil, or_false] at hy
    rcases hy with rfl | rfl | rfl <;> exact (by decide : (0x038 : Nat) < 0x100)
  · intro y hy
    simp only [List.mem_cons, List.not_mem_nil, or_false] at hy
    rcases hy with rfl | rfl | rfl <;> rfl
  · intro y hy
    simp only [List.mem_cons, List.not_mem_nil, or_false] at hy
    rcases hy with rfl | rfl | rfl <;> rfl

/-- BLK_CTRL is written with its word as it stands but for QUIESCE (R52). -/
theorem State.write_quiesce {s : State} (hr : s.regsOk) {r : Requester} {p : Page} (ha : s.admits r p) (v : Nat) (hv : v < 2) :
    ∃ b e d, s.regWrite r p 0x010 4 (setBits (s.word p 0x010) 1 1 v) =
      (s.quiesceLatch p).captureBy ((((s.quiesceLatch p).wr p HDR.BLOCK_DEF b).quiesceSet p v (capOf r (p.base + 0x010) d)).wr p HDR.ENABLE e) p
        (capOf r (p.base + 0x010) d) := by
  have hm1 := (State.quiesceLatch_mayWrite hr p r).trans ha.2.2.1
  have hword : ∃ B E, B < 2 ^ 16 ∧ E < 2 ∧ setBits (s.word p 0x010) 1 1 v = B * 65536 + v * 2 + E := by
    unfold State.word
    rw [slots_ctrl]
    have q1 : s.before p HDR.BLOCK_DEF 0 < 2 ^ 16 := State.before_lt rfl
    have q2 : s.before p HDR.QUIESCE 0 < 2 ^ 1 := State.before_lt rfl
    have q3 : s.before p HDR.ENABLE 0 < 2 ^ 1 := State.before_lt rfl
    refine ⟨s.before p HDR.BLOCK_DEF 0, s.before p HDR.ENABLE 0, q1, q3, ?_⟩
    simp only [List.map_cons, List.map_nil, List.foldl_cons, List.foldl_nil, HDR.BLOCK_DEF, HDR.QUIESCE, HDR.ENABLE, partOf] at q1 q2 q3 ⊢
    simp only [reduceCtorEq, decide_false, Bool.or_self, Bool.false_eq_true, if_false, Nat.reduceMul, Nat.reduceAdd, Nat.reduceLT, Nat.lt_irrefl, Nat.reduceSub, Nat.shiftLeft_eq, Nat.zero_add, Nat.sub_self]
    unfold setBits bits
    simp only [Nat.shiftRight_eq_div_pow]
    omega
  obtain ⟨B, E, hB, hE, hword⟩ := hword
  rw [hword]
  have hd : B * 65536 + v * 2 + E < 2 ^ (8 * 4) := by omega
  have b1 : bitsFor (B * 65536 + v * 2 + E) (0x010 * 8 + 16) 16 0x010 4 = B := by
    unfold bitsFor
    simp [Nat.shiftRight_eq_div_pow]
    omega
  have b2 : bitsFor (B * 65536 + v * 2 + E) (0x010 * 8 + 1) 1 0x010 4 = v := by
    unfold bitsFor
    simp [Nat.shiftRight_eq_div_pow]
    omega
  have b3 : bitsFor (B * 65536 + v * 2 + E) (0x010 * 8) 1 0x010 4 = E := by
    unfold bitsFor
    simp [Nat.shiftRight_eq_div_pow]
    omega
  have k1 : (s.quiesceLatch p).before p HDR.BLOCK_DEF 0 - ((s.quiesceLatch p).before p HDR.BLOCK_DEF 0 &&& bitsFor (2 ^ (4 * 8) - 1) (0x010 * 8 + 16) 16 0x010 4) = 0 := by
    have hlt : (s.quiesceLatch p).before p HDR.BLOCK_DEF 0 < 2 ^ 16 := State.before_lt rfl
    rw [show bitsFor (2 ^ (4 * 8) - 1) (0x010 * 8 + 16) 16 0x010 4 = 2 ^ 16 - 1 by decide, Nat.and_two_pow_sub_one_eq_mod, Nat.mod_eq_of_lt hlt, Nat.sub_self]
  have k2 : (s.quiesceLatch p).before p HDR.QUIESCE 0 - ((s.quiesceLatch p).before p HDR.QUIESCE 0 &&& bitsFor (2 ^ (4 * 8) - 1) (0x010 * 8 + 1) 1 0x010 4) = 0 := by
    have hlt : (s.quiesceLatch p).before p HDR.QUIESCE 0 < 2 ^ 1 := State.before_lt rfl
    rw [show bitsFor (2 ^ (4 * 8) - 1) (0x010 * 8 + 1) 1 0x010 4 = 2 ^ 1 - 1 by decide, Nat.and_two_pow_sub_one_eq_mod, Nat.mod_eq_of_lt hlt, Nat.sub_self]
  have k3 : (s.quiesceLatch p).before p HDR.ENABLE 0 - ((s.quiesceLatch p).before p HDR.ENABLE 0 &&& bitsFor (2 ^ (4 * 8) - 1) (0x010 * 8) 1 0x010 4) = 0 := by
    have hlt : (s.quiesceLatch p).before p HDR.ENABLE 0 < 2 ^ 1 := State.before_lt rfl
    rw [show bitsFor (2 ^ (4 * 8) - 1) (0x010 * 8) 1 0x010 4 = 2 ^ 1 - 1 by decide, Nat.and_two_pow_sub_one_eq_mod, Nat.mod_eq_of_lt hlt, Nat.sub_self]
  have hw : ∃ w0 w1 w2, (s.quiesceLatch p).writesAt p 0x010 4 (B * 65536 + v * 2 + E) =
      [⟨p, HDR.BLOCK_DEF, 0, B, w0⟩, ⟨p, HDR.QUIESCE, 0, v, w1⟩, ⟨p, HDR.ENABLE, 0, E, w2⟩] := by
    unfold State.writesAt
    rw [slots_ctrl]
    refine ⟨bitsFor (2 ^ (4 * 8) - 1) (0x010 * 8 + 16) 16 0x010 4, bitsFor (2 ^ (4 * 8) - 1) (0x010 * 8 + 1) 1 0x010 4, bitsFor (2 ^ (4 * 8) - 1) (0x010 * 8) 1 0x010 4, ?_⟩
    simp only [List.map_cons, List.map_nil]
    rw [show HDR.BLOCK_DEF.width = 16 from rfl, show HDR.QUIESCE.width = 1 from rfl, show HDR.ENABLE.width = 1 from rfl, k1, k2, k3, b1, b2, b3, Nat.zero_add, Nat.zero_add, Nat.zero_add]
  obtain ⟨w0, w1, w2, hw⟩ := hw
  refine ⟨B, E, B * 65536 + v * 2 + E, ?_⟩
  rw [State.regWrite_admitted ha (by omega) (by decide) hd (by simp)]
  rw [State.pageWrite_all s _ r p 0x010 4 (B * 65536 + v * 2 + E) [⟨p, HDR.BLOCK_DEF, 0, B, w0⟩, ⟨p, HDR.QUIESCE, 0, v, w1⟩, ⟨p, HDR.ENABLE, 0, E, w2⟩] rfl hm1 ?_ ?_ ?_ ?_ ?_]
  · rfl
  · rw [hw]
    rfl
  · intro k
    rw [hw]
    rfl
  · intro y hy
    apply jobBusy_header
    simp only [List.mem_cons, List.not_mem_nil, or_false] at hy
    rcases hy with rfl | rfl | rfl <;> exact (by decide : (0x010 : Nat) < 0x100)
  · intro y hy
    simp only [List.mem_cons, List.not_mem_nil, or_false] at hy
    rcases hy with rfl | rfl | rfl <;> rfl
  · intro y hy
    simp only [List.mem_cons, List.not_mem_nil, or_false] at hy
    rcases hy with rfl | rfl | rfl <;> rfl

end Sys2Proof.Machine
end

