-- ==== Sys2Proof/Laws/KeepBase.lean ====
section
/-! SUPPORT. What an operation keeps: every part of State outside a list, and the canonical form of the register file and of byte memory. The rules by which this passes through the shapes a definition has. -/
namespace Sys2Proof.Machine

/-- What an operation may change: parts of State, and fields of the register file (none: any). -/
structure Scope where
  parts : List Part
  flds : Option (List Fld)

/-- t differs from s in the scope l at most, and register file and memory stay in canonical form. -/
structure State.Keeps (l : Scope) (s t : State) : Prop where
  kept : s.keptBut t l.parts
  regs : s.regsOk → ∀ fs, l.flds = some fs → s.fieldsBut t fs
  ok : s.regsOk → t.regsOk
  wf : Memory.wf s.mem = true → Memory.wf t.mem = true

/-- Whether two fields stand at the same place. -/
def Fld.same (f g : Fld) : Bool := f.off == g.off && f.lo == g.lo && f.stride == g.stride && f.blk == g.blk

theorem Fld.same_covers {f g : Fld} (h : Fld.same f g = true) {k : Nat} (c : Fld.covers f k) : Fld.covers g k := by
  simp only [Fld.same, Bool.and_eq_true, beq_iff_eq] at h
  obtain ⟨⟨⟨h1, h2⟩, h3⟩, h4⟩ := h
  obtain ⟨p, i, c1, c2⟩ := c
  refine ⟨p, i, ?_, ?_⟩
  · rw [← h4, ← h1]
    exact c1
  · rw [c2]
    unfold Fld.key
    rw [h1, h2, h3]

/-- Inclusion of the fields of two scopes, as a computation. -/
def Fld.within : Option (List Fld) → Option (List Fld) → Bool
  | _, none => true
  | none, some _ => false
  | some l, some m => l.all fun f => m.any fun g => Fld.same f g

/-- Inclusion of scopes, as a computation. -/
def Scope.within (l m : Scope) : Bool := (l.parts.all fun p => m.parts.contains p) && Fld.within l.flds m.flds

/-- Whether a field stands in a scope. -/
def Scope.has (l : Scope) (f : Fld) : Bool := l.parts.contains .regs && Fld.within (some [f]) l.flds

theorem Fld.within_trans {l m n : Option (List Fld)} (h : Fld.within l m = true) (k : Fld.within m n = true) : Fld.within l n = true := by
  cases n with
  | none => cases l <;> rfl
  | some n => cases m with
    | none => simp [Fld.within] at k
    | some m => cases l with
      | none => simp [Fld.within] at h
      | some l =>
        simp only [Fld.within, List.all_eq_true, List.any_eq_true] at h k ⊢
        intro f hf
        obtain ⟨g, hg, e⟩ := h f hf
        obtain ⟨q, hq, e'⟩ := k g hg
        refine ⟨q, hq, ?_⟩
        simp only [Fld.same, Bool.and_eq_true, beq_iff_eq] at e e' ⊢
        exact ⟨⟨⟨e.1.1.1.trans e'.1.1.1, e.1.1.2.trans e'.1.1.2⟩, e.1.2.trans e'.1.2⟩, e.2.trans e'.2⟩

theorem Scope.within_mem {l m : Scope} (h : Scope.within l m = true) {p : Part} (hp : p ∉ m.parts) : p ∉ l.parts := by
  intro hl
  have := List.all_eq_true.mp (Bool.and_eq_true _ _ ▸ h).1 p hl
  exact hp (List.contains_iff_mem.mp this)

theorem Scope.within_flds {l m : Scope} (h : Scope.within l m = true) : Fld.within l.flds m.flds = true := (Bool.and_eq_true _ _ ▸ h).2

theorem Scope.within_trans {l m n : Scope} (h : Scope.within l m = true) (k : Scope.within m n = true) : Scope.within l n = true := by
  refine (Bool.and_eq_true _ _).mpr ⟨List.all_eq_true.mpr fun p hp => ?_, Fld.within_trans (Scope.within_flds h) (Scope.within_flds k)⟩
  have h1 := List.all_eq_true.mp (Bool.and_eq_true _ _ ▸ h).1 p hp
  exact List.all_eq_true.mp (Bool.and_eq_true _ _ ▸ k).1 p (List.contains_iff_mem.mp h1)

theorem Scope.within_contains {m n : Scope} {p : Part} (h : m.parts.contains p = true) (k : Scope.within m n = true) : n.parts.contains p = true :=
  List.all_eq_true.mp (Bool.and_eq_true _ _ ▸ k).1 p (List.contains_iff_mem.mp h)

theorem Scope.within_has {m n : Scope} {f : Fld} (h : m.has f = true) (k : Scope.within m n = true) : n.has f = true :=
  (Bool.and_eq_true _ _).mpr ⟨Scope.within_contains (Bool.and_eq_true _ _ ▸ h).1 k, Fld.within_trans (Bool.and_eq_true _ _ ▸ h).2 (Scope.within_flds k)⟩

theorem State.fieldsBut.refl {s t : State} (e : t.regs = s.regs) (l : List Fld) : s.fieldsBut t l := fun _ _ => by rw [e]
theorem State.fieldsBut.trans {s t u : State} {l : List Fld} (a : s.fieldsBut t l) (b : t.fieldsBut u l) : s.fieldsBut u l :=
  fun k h => (b k h).trans (a k h)
theorem State.fieldsBut.mono {s t : State} {l m : List Fld} (a : s.fieldsBut t l) (h : Fld.within (some l) (some m) = true) : s.fieldsBut t m := by
  intro k hk
  refine a k fun f hf c => ?_
  obtain ⟨g, hg, e⟩ := List.any_eq_true.mp (List.all_eq_true.mp h f hf)
  exact hk g hg (Fld.same_covers e c)

/-- Fields of a smaller scope, after what changes a larger one. -/
theorem State.fieldsBut.within {s t u : State} {l m : Scope} (hl : Scope.within l m = true) (hs : t.regsOk)
    (h : t.regsOk → ∀ fs, l.flds = some fs → t.fieldsBut u fs) (k : ∀ fs, m.flds = some fs → s.fieldsBut t fs) (fs : List Fld) (e : m.flds = some fs) :
    s.fieldsBut u fs := by
  have w := Scope.within_flds hl
  cases el : l.flds with
  | none => rw [el, e] at w; simp [Fld.within] at w
  | some ls =>
    rw [el, e] at w
    exact (k fs e).trans ((h hs ls el).mono w)

theorem State.samePart.trans {s t u : State} {p : Part} (a : s.samePart t p) (b : t.samePart u p) : s.samePart u p := by
  cases p <;> exact Eq.trans b a

theorem State.Keeps.refl (l : Scope) (s : State) : State.Keeps l s s :=
  ⟨fun p _ => by cases p <;> rfl, fun _ fs _ => State.fieldsBut.refl rfl fs, id, id⟩

theorem State.Keeps.mono {l m : Scope} {s t : State} (h : State.Keeps l s t) (hl : Scope.within l m = true) : State.Keeps m s t :=
  ⟨fun p hp => h.kept p (Scope.within_mem hl hp), fun r => State.fieldsBut.within hl r h.regs fun fs _ => State.fieldsBut.refl rfl fs, h.ok, h.wf⟩

/-- An operation after others. -/
theorem State.Keeps.step {l m : Scope} {s t u : State} (h : State.Keeps l t u) (k : State.Keeps m s t) (hl : Scope.within l m = true) :
    State.Keeps m s u :=
  ⟨fun p hp => (k.kept p hp).trans (h.kept p (Scope.within_mem hl hp)), fun r => State.fieldsBut.within hl (k.ok r) h.regs (k.regs r),
    fun r => h.ok (k.ok r), fun r => h.wf (k.wf r)⟩

theorem State.Keeps.ite {l : Scope} {s t u : State} {c : Prop} [Decidable c] (h : State.Keeps l s t) (k : State.Keeps l s u) :
    State.Keeps l s (if c then t else u) := by
  split
  · exact h
  · exact k

theorem State.Keeps.ite1 {α : Type} {l : Scope} {s : State} {t u : State × α} {c : Prop} [Decidable c] (h : State.Keeps l s t.1)
    (k : State.Keeps l s u.1) : State.Keeps l s (if c then t else u).1 := by
  split
  · exact h
  · exact k

theorem State.Keeps.pair {α : Type} {l : Scope} {s t : State} {a : α} (h : State.Keeps l s t) : State.Keeps l s (t, a).1 := h

/-- The state a pair was taken apart into. -/
theorem State.Keeps.fst {α : Type} {l : Scope} {s t : State} {f : State × α} {a : α} (e : f = (t, a)) (h : State.Keeps l s f.1) :
    State.Keeps l s t := by
  rw [e] at h
  exact h

theorem State.Keeps.foldl {α : Type} {l : Scope} {s t : State} {f : State → α → State} {xs : List α} (h : State.Keeps l s t)
    (k : ∀ (u : State) (a : α), State.Keeps l s u → State.Keeps l s (f u a)) : State.Keeps l s (xs.foldl f t) := by
  induction xs generalizing t with
  | nil => exact h
  | cons a xs ih => exact ih (k _ _ h)

theorem State.Keeps.foldl1 {α β : Type} {l : Scope} {s : State} {t : State × β} {f : State × β → α → State × β} {xs : List α}
    (h : State.Keeps l s t.1) (k : ∀ (u : State × β) (a : α), State.Keeps l s u.1 → State.Keeps l s (f u a).1) :
    State.Keeps l s (xs.foldl f t).1 := by
  induction xs generalizing t with
  | nil => exact h
  | cons a xs ih => exact ih (k _ _ h)

/-- A change of parts other than the register file and the memory. -/
theorem State.Keeps.upd {l : Scope} {s t : State} (h : State.Keeps l s t) {ctl evf recd xlt hp qe mov tier pan twn cmn pwr dmc flm seq hrv clk cip nvs wdn mgt
    unit timeNs slew out free pending}
    (k : ∀ p, p ∉ l.parts → t.samePart ⟨t.regs, ctl, evf, recd, xlt, hp, qe, mov, tier, pan, twn, cmn, pwr, dmc, flm, seq, hrv, clk, cip, nvs, wdn, mgt, t.mem, unit, timeNs, slew,
      out, free, pending⟩ p) :
    State.Keeps l s ⟨t.regs, ctl, evf, recd, xlt, hp, qe, mov, tier, pan, twn, cmn, pwr, dmc, flm, seq, hrv, clk, cip, nvs, wdn, mgt, t.mem, unit, timeNs, slew,
      out, free, pending⟩ :=
  ⟨fun p hp => (h.kept p hp).trans (k p hp), fun r fs e => (h.regs r fs e).trans (State.fieldsBut.refl rfl fs), h.ok, h.wf⟩

/-- Any change of listed parts that keeps the canonical forms. -/
theorem State.Keeps.gen {l : Scope} {s t u : State} (h : State.Keeps l s t) (k : ∀ p, p ∉ l.parts → t.samePart u p)
    (regs : t.regsOk → ∀ fs, l.flds = some fs → t.fieldsBut u fs) (ok : t.regsOk → u.regsOk)
    (wf : Memory.wf t.mem = true → Memory.wf u.mem = true) : State.Keeps l s u :=
  ⟨fun p hp => (h.kept p hp).trans (k p hp), fun r fs e => (h.regs r fs e).trans (regs (h.ok r) fs e), fun r => ok (h.ok r), fun r => wf (h.wf r)⟩

theorem above_filter {α : Type} {f : Nat × α → Bool} {b : Nat} {t : Table α} (h : Above b t) : Above b (t.filter f) := by
  induction t generalizing b with
  | nil => trivial
  | cons e t ih =>
    obtain ⟨k, v⟩ := e
    obtain ⟨h1, h2⟩ := h
    rw [List.filter_cons]
    split
    · exact ⟨h1, ih h2⟩
    · exact ih (Above.mono h2 (Nat.le_of_lt h1))

theorem rising_filter {α : Type} {f : Nat × α → Bool} {t : Table α} (h : Rising t) : Rising (t.filter f) := by
  cases t with
  | nil => trivial
  | cons e t =>
    obtain ⟨k, v⟩ := e
    rw [List.filter_cons]
    split
    · exact above_filter h
    · exact (above_filter h).rising

theorem State.fieldsBut_wr {t : State} (r : t.regsOk) (p : Page) (f : Fld) (v i : Nat) (hp : p.blk = f.blk ∨ f.off < 0x100) {fs : List Fld}
    (hf : Fld.within (some [f]) (some fs) = true) : t.fieldsBut (t.wr p f v i) fs := by
  intro k hk
  obtain ⟨g, hg, e⟩ := List.any_eq_true.mp (List.all_eq_true.mp hf f (List.mem_singleton.mpr rfl))
  have hne : k ≠ f.key p i := fun c => hk g hg (Fld.same_covers e ⟨p, i, hp, c⟩)
  show tget (if _ then tdel t.regs (f.key p i) else tset t.regs (f.key p i) _) k = _
  split
  · exact tget_tdel_ne _ hne
  · exact tget_tset_ne _ _ hne

theorem State.Keeps.wr {l : Scope} {s t : State} (h : State.Keeps l s t) (p : Page) (f : Fld) (v i : Nat) (hp : p.blk = f.blk ∨ f.off < 0x100)
    (m : l.has f = true) : State.Keeps l s (t.wr p f v i) :=
  ⟨fun q hq => (h.kept q hq).trans (by
    cases q <;> first
      | rfl
      | exact absurd (List.contains_iff_mem.mp (Bool.and_eq_true _ _ ▸ m).1) hq),
    fun r fs e => (h.regs r fs e).trans (State.fieldsBut_wr (h.ok r) p f v i hp (e ▸ (Bool.and_eq_true _ _ ▸ m).2)),
    fun r => State.regsOk_wr (h.ok r) _ _ _ _, h.wf⟩

theorem State.Keeps.put {l : Scope} {s t : State} (h : State.Keeps l s t) (f : Fld) (v i j : Nat) (m : l.has f = true) : State.Keeps l s (t.put f v i j) :=
  h.wr ⟨f.blk, i⟩ f v j (.inl rfl) m

/-- A write of any field, in a scope that lists none. -/
theorem State.Keeps.wrAny {l : Scope} {s t : State} (h : State.Keeps l s t) (p : Page) (f : Fld) (v i : Nat) (m : (l.parts.contains .regs && l.flds.isNone) = true) :
    State.Keeps l s (t.wr p f v i) :=
  ⟨fun q hq => (h.kept q hq).trans (by
    cases q <;> first
      | rfl
      | exact absurd (List.contains_iff_mem.mp (Bool.and_eq_true _ _ ▸ m).1) hq),
    fun _ fs e => by
      have := (Bool.and_eq_true _ _ ▸ m).2
      rw [e] at this
      exact absurd this (by simp),
    fun r => State.regsOk_wr (h.ok r) _ _ _ _, h.wf⟩

theorem Scope.has_of {f : Fld} {fs : List Fld} (h : f ∈ fs) : Scope.has ⟨[.regs], some fs⟩ f = true := by
  simp only [Scope.has, Fld.within, List.all_cons, List.all_nil, Bool.and_true, Bool.and_eq_true, List.any_eq_true]
  exact ⟨rfl, f, h, by simp [Fld.same]⟩

theorem Scope.has_one (f : Fld) : Scope.has ⟨[.regs], some [f]⟩ f = true := Scope.has_of (.head _)

/-- Nothing is asked of the fields in a scope that lists none. -/
theorem State.anyFields {l : Scope} {P : List Fld → Prop} (h : l.flds.isNone = true) : ∀ fs, l.flds = some fs → P fs := by
  intro fs e
  rw [e] at h
  exact absurd h (by simp)

/-- What an operation that may give no state keeps. -/
def State.KeepsO {α : Type} (l : Scope) (s : State) (g : α → State) (o : Option α) : Prop := ∀ x, o = some x → State.Keeps l s (g x)

theorem State.KeepsO.none {α : Type} {l : Scope} {s : State} {g : α → State} : State.KeepsO l s g .none := fun _ h => nomatch h
theorem State.KeepsO.some {α : Type} {l : Scope} {s : State} {g : α → State} {x : α} (h : State.Keeps l s (g x)) : State.KeepsO l s g (.some x) :=
  fun _ e => Option.some.inj e ▸ h
theorem State.KeepsO.ite {α : Type} {l : Scope} {s : State} {g : α → State} {o q : Option α} {c : Prop} [Decidable c] (h : State.KeepsO l s g o)
    (k : State.KeepsO l s g q) : State.KeepsO l s g (if c then o else q) := by
  split
  · exact h
  · exact k
theorem State.KeepsO.use {l : Scope} {s t : State} {o : Option State} (h : State.KeepsO l s id o) (e : o = .some t) : State.Keeps l s t := h t e
theorem State.KeepsO.use2 {α : Type} {l : Scope} {s t : State} {o : Option (α × State)} {a : α} (h : State.KeepsO l s Prod.snd o) (e : o = .some (a, t)) :
    State.Keeps l s t := h (a, t) e
theorem State.KeepsO.getD {l m : Scope} {s t d : State} {o : Option State} (h : State.KeepsO l t id o) (k : State.Keeps m s t) (hd : State.Keeps m s d)
    (hl : Scope.within l m = true) : State.Keeps m s (o.getD d) := by
  cases o with
  | none => exact hd
  | some u => exact State.Keeps.step (h u rfl) k hl

/-- What a meaning keeps: it goes on, to a state that keeps this. -/
def State.KeepsR (l : Scope) (s : State) (r : Res) : Prop := ∃ t, r = .next t ∧ State.Keeps l s t

theorem State.KeepsR.next {l : Scope} {s t : State} (h : State.Keeps l s t) : State.KeepsR l s (.next t) := ⟨t, rfl, h⟩

theorem State.KeepsR.ite {l : Scope} {s : State} {t u : Res} {c : Prop} [Decidable c] (h : State.KeepsR l s t) (k : State.KeepsR l s u) :
    State.KeepsR l s (if c then t else u) := by
  split
  · exact h
  · exact k

theorem State.KeepsR.step {l m : Scope} {s t : State} {r : Res} (h : State.KeepsR l t r) (k : State.Keeps m s t) (hl : Scope.within l m = true) :
    State.KeepsR m s r := by
  obtain ⟨u, e, h⟩ := h
  exact ⟨u, e, State.Keeps.step h k hl⟩

theorem State.Keeps.upd_ctl {l : Scope} {s t : State} {x} (h : State.Keeps l s t) (m : l.parts.contains .ctl = true) : State.Keeps l s { t with ctl := x } :=
  ⟨fun p hp => (h.kept p hp).trans (by cases p <;> first | exact absurd (List.contains_iff_mem.mp m) hp | rfl),
    fun r fs e => (h.regs r fs e).trans (State.fieldsBut.refl rfl fs), h.ok, h.wf⟩
theorem State.Keeps.upd_evf {l : Scope} {s t : State} {x} (h : State.Keeps l s t) (m : l.parts.contains .evf = true) : State.Keeps l s { t with evf := x } :=
  ⟨fun p hp => (h.kept p hp).trans (by cases p <;> first | exact absurd (List.contains_iff_mem.mp m) hp | rfl),
    fun r fs e => (h.regs r fs e).trans (State.fieldsBut.refl rfl fs), h.ok, h.wf⟩
theorem State.Keeps.upd_recd {l : Scope} {s t : State} {x} (h : State.Keeps l s t) (m : l.parts.contains .recd = true) : State.Keeps l s { t with recd := x } :=
  ⟨fun p hp => (h.kept p hp).trans (by cases p <;> first | exact absurd (List.contains_iff_mem.mp m) hp | rfl),
    fun r fs e => (h.regs r fs e).trans (State.fieldsBut.refl rfl fs), h.ok, h.wf⟩
theorem State.Keeps.upd_xlt {l : Scope} {s t : State} {x} (h : State.Keeps l s t) (m : l.parts.contains .xlt = true) : State.Keeps l s { t with xlt := x } :=
  ⟨fun p hp => (h.kept p hp).trans (by cases p <;> first | exact absurd (List.contains_iff_mem.mp m) hp | rfl),
    fun r fs e => (h.regs r fs e).trans (State.fieldsBut.refl rfl fs), h.ok, h.wf⟩
theorem State.Keeps.upd_hp {l : Scope} {s t : State} {x} (h : State.Keeps l s t) (m : l.parts.contains .hp = true) : State.Keeps l s { t with hp := x } :=
  ⟨fun p hp => (h.kept p hp).trans (by cases p <;> first | exact absurd (List.contains_iff_mem.mp m) hp | rfl),
    fun r fs e => (h.regs r fs e).trans (State.fieldsBut.refl rfl fs), h.ok, h.wf⟩
theorem State.Keeps.upd_qe {l : Scope} {s t : State} {x} (h : State.Keeps l s t) (m : l.parts.contains .qe = true) : State.Keeps l s { t with qe := x } :=
  ⟨fun p hp => (h.kept p hp).trans (by cases p <;> first | exact absurd (List.contains_iff_mem.mp m) hp | rfl),
    fun r fs e => (h.regs r fs e).trans (State.fieldsBut.refl rfl fs), h.ok, h.wf⟩
theorem State.Keeps.upd_mov {l : Scope} {s t : State} {x} (h : State.Keeps l s t) (m : l.parts.contains .mov = true) : State.Keeps l s { t with mov := x } :=
  ⟨fun p hp => (h.kept p hp).trans (by cases p <;> first | exact absurd (List.contains_iff_mem.mp m) hp | rfl),
    fun r fs e => (h.regs r fs e).trans (State.fieldsBut.refl rfl fs), h.ok, h.wf⟩
theorem State.Keeps.upd_tier {l : Scope} {s t : State} {x} (h : State.Keeps l s t) (m : l.parts.contains .tier = true) : State.Keeps l s { t with tier := x } :=
  ⟨fun p hp => (h.kept p hp).trans (by cases p <;> first | exact absurd (List.contains_iff_mem.mp m) hp | rfl),
    fun r fs e => (h.regs r fs e).trans (State.fieldsBut.refl rfl fs), h.ok, h.wf⟩
theorem State.Keeps.upd_pan {l : Scope} {s t : State} {x} (h : State.Keeps l s t) (m : l.parts.contains .pan = true) : State.Keeps l s { t with pan := x } :=
  ⟨fun p hp => (h.kept p hp).trans (by cases p <;> first | exact absurd (List.contains_iff_mem.mp m) hp | rfl),
    fun r fs e => (h.regs r fs e).trans (State.fieldsBut.refl rfl fs), h.ok, h.wf⟩
theorem State.Keeps.upd_twn {l : Scope} {s t : State} {x} (h : State.Keeps l s t) (m : l.parts.contains .twn = true) : State.Keeps l s { t with twn := x } :=
  ⟨fun p hp => (h.kept p hp).trans (by cases p <;> first | exact absurd (List.contains_iff_mem.mp m) hp | rfl),
    fun r fs e => (h.regs r fs e).trans (State.fieldsBut.refl rfl fs), h.ok, h.wf⟩
theorem State.Keeps.upd_cmn {l : Scope} {s t : State} {x} (h : State.Keeps l s t) (m : l.parts.contains .cmn = true) : State.Keeps l s { t with cmn := x } :=
  ⟨fun p hp => (h.kept p hp).trans (by cases p <;> first | exact absurd (List.contains_iff_mem.mp m) hp | rfl),
    fun r fs e => (h.regs r fs e).trans (State.fieldsBut.refl rfl fs), h.ok, h.wf⟩
theorem State.Keeps.upd_pwr {l : Scope} {s t : State} {x} (h : State.Keeps l s t) (m : l.parts.contains .pwr = true) : State.Keeps l s { t with pwr := x } :=
  ⟨fun p hp => (h.kept p hp).trans (by cases p <;> first | exact absurd (List.contains_iff_mem.mp m) hp | rfl),
    fun r fs e => (h.regs r fs e).trans (State.fieldsBut.refl rfl fs), h.ok, h.wf⟩
theorem State.Keeps.upd_dmc {l : Scope} {s t : State} {x} (h : State.Keeps l s t) (m : l.parts.contains .dmc = true) : State.Keeps l s { t with dmc := x } :=
  ⟨fun p hp => (h.kept p hp).trans (by cases p <;> first | exact absurd (List.contains_iff_mem.mp m) hp | rfl),
    fun r fs e => (h.regs r fs e).trans (State.fieldsBut.refl rfl fs), h.ok, h.wf⟩
theorem State.Keeps.upd_flm {l : Scope} {s t : State} {x} (h : State.Keeps l s t) (m : l.parts.contains .flm = true) : State.Keeps l s { t with flm := x } :=
  ⟨fun p hp => (h.kept p hp).trans (by cases p <;> first | exact absurd (List.contains_iff_mem.mp m) hp | rfl),
    fun r fs e => (h.regs r fs e).trans (State.fieldsBut.refl rfl fs), h.ok, h.wf⟩
theorem State.Keeps.upd_seq {l : Scope} {s t : State} {x} (h : State.Keeps l s t) (m : l.parts.contains .seq = true) : State.Keeps l s { t with seq := x } :=
  ⟨fun p hp => (h.kept p hp).trans (by cases p <;> first | exact absurd (List.contains_iff_mem.mp m) hp | rfl),
    fun r fs e => (h.regs r fs e).trans (State.fieldsBut.refl rfl fs), h.ok, h.wf⟩
theorem State.Keeps.upd_hrv {l : Scope} {s t : State} {x} (h : State.Keeps l s t) (m : l.parts.contains .hrv = true) : State.Keeps l s { t with hrv := x } :=
  ⟨fun p hp => (h.kept p hp).trans (by cases p <;> first | exact absurd (List.contains_iff_mem.mp m) hp | rfl),
    fun r fs e => (h.regs r fs e).trans (State.fieldsBut.refl rfl fs), h.ok, h.wf⟩
theorem State.Keeps.upd_clk {l : Scope} {s t : State} {x} (h : State.Keeps l s t) (m : l.parts.contains .clk = true) : State.Keeps l s { t with clk := x } :=
  ⟨fun p hp => (h.kept p hp).trans (by cases p <;> first | exact absurd (List.contains_iff_mem.mp m) hp | rfl),
    fun r fs e => (h.regs r fs e).trans (State.fieldsBut.refl rfl fs), h.ok, h.wf⟩
theorem State.Keeps.upd_cip {l : Scope} {s t : State} {x} (h : State.Keeps l s t) (m : l.parts.contains .cip = true) : State.Keeps l s { t with cip := x } :=
  ⟨fun p hp => (h.kept p hp).trans (by cases p <;> first | exact absurd (List.contains_iff_mem.mp m) hp | rfl),
    fun r fs e => (h.regs r fs e).trans (State.fieldsBut.refl rfl fs), h.ok, h.wf⟩
theorem State.Keeps.upd_nvs {l : Scope} {s t : State} {x} (h : State.Keeps l s t) (m : l.parts.contains .nvs = true) : State.Keeps l s { t with nvs := x } :=
  ⟨fun p hp => (h.kept p hp).trans (by cases p <;> first | exact absurd (List.contains_iff_mem.mp m) hp | rfl),
    fun r fs e => (h.regs r fs e).trans (State.fieldsBut.refl rfl fs), h.ok, h.wf⟩
theorem State.Keeps.upd_wdn {l : Scope} {s t : State} {x} (h : State.Keeps l s t) (m : l.parts.contains .wdn = true) : State.Keeps l s { t with wdn := x } :=
  ⟨fun p hp => (h.kept p hp).trans (by cases p <;> first | exact absurd (List.contains_iff_mem.mp m) hp | rfl),
    fun r fs e => (h.regs r fs e).trans (State.fieldsBut.refl rfl fs), h.ok, h.wf⟩
theorem State.Keeps.upd_mgt {l : Scope} {s t : State} {x} (h : State.Keeps l s t) (m : l.parts.contains .mgt = true) : State.Keeps l s { t with mgt := x } :=
  ⟨fun p hp => (h.kept p hp).trans (by cases p <;> first | exact absurd (List.contains_iff_mem.mp m) hp | rfl),
    fun r fs e => (h.regs r fs e).trans (State.fieldsBut.refl rfl fs), h.ok, h.wf⟩
theorem State.Keeps.upd_unit {l : Scope} {s t : State} {x} (h : State.Keeps l s t) (m : l.parts.contains .unit = true) : State.Keeps l s { t with unit := x } :=
  ⟨fun p hp => (h.kept p hp).trans (by cases p <;> first | exact absurd (List.contains_iff_mem.mp m) hp | rfl),
    fun r fs e => (h.regs r fs e).trans (State.fieldsBut.refl rfl fs), h.ok, h.wf⟩
theorem State.Keeps.upd_timeNs {l : Scope} {s t : State} {x} (h : State.Keeps l s t) (m : l.parts.contains .timeNs = true) : State.Keeps l s { t with timeNs := x } :=
  ⟨fun p hp => (h.kept p hp).trans (by cases p <;> first | exact absurd (List.contains_iff_mem.mp m) hp | rfl),
    fun r fs e => (h.regs r fs e).trans (State.fieldsBut.refl rfl fs), h.ok, h.wf⟩
theorem State.Keeps.upd_slew {l : Scope} {s t : State} {x} (h : State.Keeps l s t) (m : l.parts.contains .slew = true) : State.Keeps l s { t with slew := x } :=
  ⟨fun p hp => (h.kept p hp).trans (by cases p <;> first | exact absurd (List.contains_iff_mem.mp m) hp | rfl),
    fun r fs e => (h.regs r fs e).trans (State.fieldsBut.refl rfl fs), h.ok, h.wf⟩
theorem State.Keeps.upd_out {l : Scope} {s t : State} {x} (h : State.Keeps l s t) (m : l.parts.contains .out = true) : State.Keeps l s { t with out := x } :=
  ⟨fun p hp => (h.kept p hp).trans (by cases p <;> first | exact absurd (List.contains_iff_mem.mp m) hp | rfl),
    fun r fs e => (h.regs r fs e).trans (State.fieldsBut.refl rfl fs), h.ok, h.wf⟩
theorem State.Keeps.upd_free {l : Scope} {s t : State} {x} (h : State.Keeps l s t) (m : l.parts.contains .free = true) : State.Keeps l s { t with free := x } :=
  ⟨fun p hp => (h.kept p hp).trans (by cases p <;> first | exact absurd (List.contains_iff_mem.mp m) hp | rfl),
    fun r fs e => (h.regs r fs e).trans (State.fieldsBut.refl rfl fs), h.ok, h.wf⟩
theorem State.Keeps.upd_pending {l : Scope} {s t : State} {x} (h : State.Keeps l s t) (m : l.parts.contains .pending = true) : State.Keeps l s { t with pending := x } :=
  ⟨fun p hp => (h.kept p hp).trans (by cases p <;> first | exact absurd (List.contains_iff_mem.mp m) hp | rfl),
    fun r fs e => (h.regs r fs e).trans (State.fieldsBut.refl rfl fs), h.ok, h.wf⟩

/-- What is kept, as a frame. -/
theorem State.Keeps.frame {l : Scope} {s t : State} (k : State.Keeps l s t) (r : s.regsOk) {ps : List Part} {fs : List Fld}
    (h : Scope.within l ⟨ps, some fs⟩ = true) : s.frame t ps fs :=
  ⟨(k.mono h).kept, (k.mono h).regs r fs rfl⟩

theorem State.KeepsR.out {l : Scope} {s t : State} {r : Res} (k : State.KeepsR l s r) (e : r = .next t) : State.Keeps l s t := by
  obtain ⟨u, h, k⟩ := k
  rw [h] at e
  injection e with e
  exact e ▸ k

/-- A write of one field. -/
theorem State.Keeps.one (s : State) (p : Page) (f : Fld) (v i : Nat) (hp : p.blk = f.blk ∨ f.off < 0x100) : State.Keeps ⟨[.regs], some [f]⟩ s (s.wr p f v i) :=
  State.Keeps.wr (State.Keeps.refl _ _) p f v i hp (Scope.has_one f)

end Sys2Proof.Machine
end

