-- ==== Sys2Proof/Laws/KeepLanes.lean ====
section
/-! SUPPORT. What each operation of Machine/Lanes.lean keeps: the parts of State it can change are those listed. -/
set_option linter.unusedTactic false
set_option linter.unreachableTactic false
namespace Sys2Proof.Machine

/-- Every operation of the cipher lanes changes what the three paths have at the cipher, and nothing else. -/
def State.setLanes_scope : Scope := ⟨[.twn, .cmn, .flm], some []⟩
theorem State.setLanes_keeps (s : State) (l : List LaneRec) (p : CipPath) : State.Keeps State.setLanes_scope s (s.setLanes l p) := by
  cases p
  · exact State.Keeps.upd_twn (State.Keeps.refl _ _) (by decide)
  · exact State.Keeps.upd_cmn (State.Keeps.refl _ _) (by decide)
  · exact State.Keeps.upd_flm (State.Keeps.refl _ _) (by decide)

def State.laneGive_scope : Scope := ⟨[.twn, .cmn, .flm], some []⟩
theorem State.laneGive_keeps (n : Nat) (s : State) : State.Keeps State.laneGive_scope s (State.laneGive n s) := by
  induction n generalizing s with
  | zero => exact State.Keeps.refl _ _
  | succ n ih =>
    unfold State.laneGive
    split
    · exact State.Keeps.step (ih _) (State.setLanes_keeps ..) (by decide)
    · exact State.Keeps.refl _ _

def State.laneJoin_scope : Scope := ⟨[.twn, .cmn, .flm], some []⟩
theorem State.laneJoin_keeps (s : State) (p : CipPath) (bytes hold : Nat) : State.Keeps State.laneJoin_scope s (s.laneJoin p bytes hold) :=
  State.setLanes_keeps ..

/-- A record of the twin link, of Cemanor, of flash joins its own path. -/
def State.laneJoin_twin_scope : Scope := ⟨[.twn], some []⟩
theorem State.laneJoin_twin_keeps (s : State) (b h : Nat) : State.Keeps State.laneJoin_twin_scope s (s.laneJoin .twin b h) :=
  State.Keeps.upd_twn (State.Keeps.refl _ _) (by decide)

def State.laneJoin_cemanor_scope : Scope := ⟨[.cmn], some []⟩
theorem State.laneJoin_cemanor_keeps (s : State) (b h : Nat) : State.Keeps State.laneJoin_cemanor_scope s (s.laneJoin .cemanor b h) :=
  State.Keeps.upd_cmn (State.Keeps.refl _ _) (by decide)

def State.laneJoin_flash_scope : Scope := ⟨[.flm], some []⟩
theorem State.laneJoin_flash_keeps (s : State) (b h : Nat) : State.Keeps State.laneJoin_flash_scope s (s.laneJoin .flash b h) :=
  State.Keeps.upd_flm (State.Keeps.refl _ _) (by decide)

def State.laneTick_scope : Scope := ⟨[.twn, .cmn, .flm], some []⟩
theorem State.laneTick_keeps (s : State) (ns : Nat) : State.Keeps State.laneTick_scope s (s.laneTick ns) :=
  State.Keeps.step (State.laneGive_keeps ..) (State.Keeps.step (State.setLanes_keeps ..)
    (State.Keeps.step (State.setLanes_keeps ..) (State.setLanes_keeps s (laneRun ns s.twn.cipher) .twin) (by decide)) (by decide)) (by decide)

def State.laneGone_scope : Scope := ⟨[.twn, .cmn, .flm], some []⟩
theorem State.laneGone_keeps (s : State) (k : Nat) : State.Keeps State.laneGone_scope s (s.laneGone k) := by
  unfold State.laneGone
  exact State.Keeps.step (State.setLanes_keeps ..) (State.Keeps.step (State.setLanes_keeps ..) (State.setLanes_keeps ..) (by decide)) (by decide)

end Sys2Proof.Machine
end

