-- ==== Sys2Proof/Laws/KeepOps.lean ====
section
/-! SUPPORT. What each operation of Machine/Ops.lean keeps: the parts of State it can change are those listed. -/
set_option linter.unusedTactic false
set_option linter.unreachableTactic false
namespace Sys2Proof.Machine

theorem State.put_keeps (s : State) (f : Fld) (v : Nat) (inst : Nat) (idx : Nat) : State.Keeps ⟨[.regs], some [f]⟩ s (s.put f v inst idx) := State.Keeps.put (State.Keeps.refl _ _) f _ _ _ (Scope.has_one f)

theorem State.inc_keeps (s : State) (f : Fld) (n : Nat) (inst : Nat) (idx : Nat) : State.Keeps ⟨[.regs], some [f]⟩ s (s.inc f n inst idx) := State.Keeps.put (State.Keeps.refl _ _) f _ _ _ (Scope.has_one f)
theorem incIte_keeps (s : State) (c : Prop) [Decidable c] (f g : Fld) (n inst idx : Nat) : State.Keeps ⟨[.regs], some [f, g]⟩ s (s.inc (if c then f else g) n inst idx) := by
  by_cases hc : c
  · rw [if_pos hc]
    exact State.Keeps.put (State.Keeps.refl _ _) f _ _ _ (Scope.has_of (.head _))
  · rw [if_neg hc]
    exact State.Keeps.put (State.Keeps.refl _ _) g _ _ _ (Scope.has_of (.tail _ (.head _)))

def State.emit_scope : Scope := ⟨[.out], some []⟩
theorem State.emit_keeps (s : State) (o : Out) : State.Keeps State.emit_scope s (State.emit s o) := by
  unfold State.emit
  (try dsimp only)
  repeat' first
    | with_reducible exact State.Keeps.refl _ _
    | fail_if_no_progress ((with_reducible apply State.Keeps.upd_out); rotate_right; decide)

theorem State.putBit_keeps (s : State) (f : Fld) (k : Nat) (b : Bool) (inst : Nat) (idx : Nat) : State.Keeps ⟨[.regs], some [f]⟩ s (s.putBit f k b inst idx) := State.Keeps.put (State.Keeps.refl _ _) f _ _ _ (Scope.has_one f)

def State.useFree_scope : Scope := ⟨[.free], some []⟩
theorem State.useFree_keeps (s : State) : State.Keeps State.useFree_scope s (State.useFree s) := by
  unfold State.useFree
  (try dsimp only)
  repeat' first
    | with_reducible exact State.Keeps.refl _ _
    | fail_if_no_progress ((with_reducible apply State.Keeps.upd_free); rotate_right; decide)

def State.pinOut_scope : Scope := ⟨[.out], some []⟩
theorem State.pinOut_keeps (s : State) (name : String) (idx : Nat) (level : Option Bool) : State.Keeps State.pinOut_scope s (State.pinOut s name idx level) := by
  unfold State.pinOut
  (try dsimp only)
  repeat' first
    | with_reducible exact State.Keeps.refl _ _
    | ((with_reducible apply State.Keeps.step (State.emit_keeps ..)); rotate_right; decide)

theorem State.incMod_keeps (s : State) (f : Fld) (n : Nat) (inst : Nat) (idx : Nat) : State.Keeps ⟨[.regs], some [f]⟩ s (s.incMod f n inst idx) := State.Keeps.put (State.Keeps.refl _ _) f _ _ _ (Scope.has_one f)

theorem State.dec_keeps (s : State) (f : Fld) (n : Nat) (inst : Nat) (idx : Nat) : State.Keeps ⟨[.regs], some [f]⟩ s (s.dec f n inst idx) := State.Keeps.put (State.Keeps.refl _ _) f _ _ _ (Scope.has_one f)

def State.fastWrote_scope : Scope := ⟨[.regs], some [NVS.FAST_BAD]⟩
theorem State.fastWrote_keeps (s : State) (k : Nat) : State.Keeps State.fastWrote_scope s (State.fastWrote s k) := by
  unfold State.fastWrote
  (try dsimp only)
  repeat' first
    | with_reducible exact State.Keeps.refl _ _
    | ((with_reducible apply State.Keeps.step (State.putBit_keeps ..)); rotate_right; decide)

end Sys2Proof.Machine
end

