-- ==== Sys2Proof/Laws/KeepFlashMap.lean ====
section
/-! SUPPORT. What each operation of Machine/FlashMap.lean keeps: the parts of State it can change are those listed. -/
set_option linter.unusedTactic false
set_option linter.unreachableTactic false
namespace Sys2Proof.Machine

def State.putBlk_scope : Scope := ⟨[.flm], some []⟩
theorem State.putBlk_keeps (s : State) (k : Nat) (b : BlkRec) : State.Keeps State.putBlk_scope s (State.putBlk s k b) := by
  unfold State.putBlk
  (try dsimp only)
  repeat' first
    | with_reducible exact State.Keeps.refl _ _
    | fail_if_no_progress ((with_reducible apply State.Keeps.upd_flm); rotate_right; decide)
    | with_reducible assumption
    | with_reducible apply State.Keeps.ite

theorem State.ftlPut_keeps (s : State) (f : Fld) (v : Nat) : State.Keeps ⟨[.regs], some [f]⟩ s (s.ftlPut f v) := State.Keeps.put (State.Keeps.refl _ _) f _ _ _ (Scope.has_one f)

def State.mapUse_scope : Scope := ⟨[.flm], some []⟩
theorem State.mapUse_keeps (s : State) (mpi : Nat) : State.Keeps State.mapUse_scope s (State.mapUse s mpi) := by
  unfold State.mapUse
  (try dsimp only)
  repeat' first
    | with_reducible exact State.Keeps.refl _ _
    | with_reducible assumption
    | with_reducible apply State.Keeps.ite
    | fail_if_no_progress ((with_reducible apply State.Keeps.upd_flm); rotate_right; decide)

def State.suspend_scope : Scope := ⟨[.flm, .out], some []⟩
theorem State.suspend_keeps (s : State) (g : Nat) : State.Keeps State.suspend_scope s (State.suspend s g) := by
  unfold State.suspend
  (try dsimp only)
  repeat' first
    | with_reducible exact State.Keeps.refl _ _
    | with_reducible assumption
    | with_reducible apply State.Keeps.ite
    | fail_if_no_progress ((with_reducible apply State.Keeps.upd_flm); rotate_right; decide)
    | ((with_reducible apply State.Keeps.step (State.emit_keeps ..)); rotate_right; decide)

def State.t2Issue_scope : Scope := ⟨[.flm, .out], some []⟩
theorem State.t2Issue_keeps (s : State) (p : Nat) (us : List Nat) (priority : Bool) : State.Keeps State.t2Issue_scope s (State.t2Issue s p us priority) := by
  unfold State.t2Issue
  (try dsimp only)
  repeat' first
    | with_reducible exact State.Keeps.refl _ _
    | with_reducible assumption
    | with_reducible apply State.Keeps.ite
    | fail_if_no_progress ((with_reducible apply State.Keeps.upd_flm); rotate_right; decide)
    | ((with_reducible apply State.Keeps.step (State.suspend_keeps ..)); rotate_right; decide)
    | ((with_reducible apply State.Keeps.step (State.emit_keeps ..)); rotate_right; decide)
    | ((with_reducible apply State.Keeps.foldl1); rotate_right; intro _ _ _; rotate_left)
    | ((with_reducible apply State.Keeps.foldl); rotate_right; intro _ _ _; rotate_left)

def State.t2Ask_scope : Scope := ⟨[.flm, .out], some []⟩
theorem State.t2Ask_keeps (s : State) (p : Nat) (us : List Nat) (priority : Bool) : State.Keeps State.t2Ask_scope s (State.t2Ask s p us priority) := by
  unfold State.t2Ask
  (try dsimp only)
  repeat' first
    | with_reducible exact State.Keeps.refl _ _
    | with_reducible assumption
    | with_reducible apply State.Keeps.ite
    | fail_if_no_progress ((with_reducible apply State.Keeps.upd_flm); rotate_right; decide)
    | ((with_reducible apply State.Keeps.step (State.mapUse_keeps ..)); rotate_right; decide)
    | ((with_reducible apply State.Keeps.step (State.t2Issue_keeps ..)); rotate_right; decide)
    | ((with_reducible apply State.Keeps.step (State.emit_keeps ..)); rotate_right; decide)

def State.readEnded_scope : Scope := ⟨[.flm], some []⟩
theorem State.readEnded_keeps (s : State) (tun : Nat) : State.Keeps State.readEnded_scope s (State.readEnded s tun) := by
  unfold State.readEnded
  (try dsimp only)
  repeat' first
    | with_reducible exact State.Keeps.refl _ _
    | with_reducible assumption
    | with_reducible apply State.Keeps.ite
    | fail_if_no_progress ((with_reducible apply State.Keeps.upd_flm); rotate_right; decide)
    | with_reducible refine State.Keeps.fst ‹_ = (_, _)› ?_
    | split

end Sys2Proof.Machine
end

