-- ==== Sys2Proof/Laws/KeepFlags.lean ====
section
/-! SUPPORT. What each operation of Machine/Flags.lean keeps: the parts of State it can change are those listed. -/
set_option linter.unusedTactic false
set_option linter.unreachableTactic false
namespace Sys2Proof.Machine

def State.setErr_scope : Scope := ⟨[.regs], some [HDR.ERR_INFO0, HDR.ERR_INFO1, HDR.ERR_STAT]⟩
theorem State.setErr_keeps (s : State) (p : Page) (k : Nat) (c : Option Capture) : State.Keeps State.setErr_scope s (State.setErr s p k c) := by
  unfold State.setErr
  (try dsimp only)
  repeat' first
    | with_reducible exact State.Keeps.refl _ _
    | with_reducible apply State.Keeps.ite
    | ((with_reducible apply State.Keeps.wr); rotate_right; decide; rotate_right; first | exact Or.inr (by decide) | exact Or.inl rfl)

def State.errQuiet_scope : Scope := ⟨[.regs], some [HDR.ERR_INFO0, HDR.ERR_INFO1, HDR.ERR_STAT]⟩
theorem State.errQuiet_keeps (s : State) (p : Page) (k : Nat) : State.Keeps State.errQuiet_scope s (State.errQuiet s p k) := by
  unfold State.errQuiet
  (try dsimp only)
  repeat' first
    | with_reducible exact State.Keeps.refl _ _
    | ((with_reducible apply State.Keeps.step (State.setErr_keeps ..)); rotate_right; decide)

def State.foldCode_scope : Scope := ⟨[.recd], some []⟩
theorem State.foldCode_keeps (s : State) (code : Nat) (n : Nat) (first : Nat) (last : Nat) (inst : Nat) (sev : Nat) (payload : List Byte) : State.Keeps State.foldCode_scope s (State.foldCode s code n first last inst sev payload) := by
  unfold State.foldCode
  (try dsimp only)
  repeat' first
    | with_reducible exact State.Keeps.refl _ _
    | fail_if_no_progress ((with_reducible apply State.Keeps.upd_recd); rotate_right; decide)

def State.postAlarm_scope : Scope := ⟨[.regs, .recd, .out], some [MGT.ALARM_SENT, REC.ALARM_DROP]⟩
theorem State.postAlarm_keeps (s : State) (a : Alarm) : State.Keeps State.postAlarm_scope s (State.postAlarm s a) := by
  unfold State.postAlarm
  (try dsimp only)
  repeat' first
    | with_reducible exact State.Keeps.refl _ _
    | with_reducible assumption
    | with_reducible apply State.Keeps.ite
    | fail_if_no_progress ((with_reducible apply State.Keeps.upd_recd); rotate_right; decide)
    | ((with_reducible apply State.Keeps.step (State.inc_keeps ..)); rotate_right; decide)
    | ((with_reducible apply State.Keeps.step (State.emit_keeps ..)); rotate_right; decide)
    | ((with_reducible apply State.Keeps.foldl); rotate_right; intro _ _ _; rotate_left)

def State.forward_scope : Scope := State.postAlarm_scope
theorem State.forward_keeps {l : Scope} {s0 : State} (err : State → Page → Nat → State) (s : State) (r : Record) (herr : ∀ (x0 : State) (x1 : Page) (x2 : Nat), State.Keeps l s0 x0 → State.Keeps l s0 (err x0 x1 x2)) (hk0 : State.Keeps l s0 s) (hl : Scope.within State.forward_scope l = true) :
    State.Keeps l s0 (State.forward err s r) := by
  unfold State.forward
  (try dsimp only)
  repeat' first
    | with_reducible assumption
    | with_reducible apply herr
    | with_reducible apply State.Keeps.ite
    | fail_if_no_progress ((with_reducible apply State.Keeps.upd_recd); rotate_right; exact Scope.within_contains (m := State.forward_scope) (by decide) hl)
    | ((with_reducible apply State.Keeps.step (State.postAlarm_keeps ..)); rotate_right; exact Scope.within_trans (m := State.forward_scope) (by first | decide | rfl) hl)

def State.writeRecord_scope : Scope := ⟨[.regs, .recd, .out], some [EVF.TRACE_DROP, MGT.ALARM_SENT, REC.ALARM_DROP, REC.HEAD_SEQ, REC.LOST_CNT, REC.OVW_CNT, REC.RSV_USED]⟩
theorem State.writeRecord_keeps {l : Scope} {s0 : State} (err : State → Page → Nat → State) (s : State) (code : Nat) (inst : Nat) (sev : Nat) (payload : List Byte) (forced : Bool) (summary : Bool) (herr : ∀ (x0 : State) (x1 : Page) (x2 : Nat), State.Keeps l s0 x0 → State.Keeps l s0 (err x0 x1 x2)) (hk0 : State.Keeps l s0 s) (hl : Scope.within State.writeRecord_scope l = true) :
    State.Keeps l s0 (State.writeRecord err s code inst sev payload forced summary) := by
  unfold State.writeRecord
  (try dsimp only)
  repeat' first
    | intro _
    | with_reducible assumption
    | with_reducible apply herr
    | with_reducible apply State.Keeps.ite
    | fail_if_no_progress ((with_reducible apply State.Keeps.upd_recd); rotate_right; exact Scope.within_contains (m := State.writeRecord_scope) (by decide) hl)
    | ((with_reducible apply State.forward_keeps); rotate_right; exact Scope.within_trans (m := State.writeRecord_scope) (by first | decide | rfl) hl)
    | ((with_reducible apply State.Keeps.step (State.inc_keeps ..)); rotate_right; exact Scope.within_trans (m := State.writeRecord_scope) (by first | decide | rfl) hl)
    | ((with_reducible apply State.Keeps.step (State.put_keeps ..)); rotate_right; exact Scope.within_trans (m := State.writeRecord_scope) (by first | decide | rfl) hl)
    | ((with_reducible apply State.Keeps.step (State.foldCode_keeps ..)); rotate_right; exact Scope.within_trans (m := State.writeRecord_scope) (by first | decide | rfl) hl)
    | split

def State.record_scope : Scope := State.writeRecord_scope
theorem State.record_keeps {l : Scope} {s0 : State} (err : State → Page → Nat → State) (s : State) (code : Nat) (inst : Nat) (sev : Nat) (payload : List Byte) (forced : Bool) (herr : ∀ (x0 : State) (x1 : Page) (x2 : Nat), State.Keeps l s0 x0 → State.Keeps l s0 (err x0 x1 x2)) (hk0 : State.Keeps l s0 s) (hl : Scope.within State.record_scope l = true) :
    State.Keeps l s0 (State.record err s code inst sev payload forced) := by
  unfold State.record
  (try dsimp only)
  repeat' first
    | intro _
    | with_reducible assumption
    | with_reducible apply herr
    | with_reducible apply State.Keeps.ite
    | fail_if_no_progress ((with_reducible apply State.Keeps.upd_recd); rotate_right; exact Scope.within_contains (m := State.record_scope) (by decide) hl)
    | ((with_reducible apply State.writeRecord_keeps); rotate_right; exact Scope.within_trans (m := State.record_scope) (by first | decide | rfl) hl)
    | ((with_reducible apply State.Keeps.step (State.foldCode_keeps ..)); rotate_right; exact Scope.within_trans (m := State.record_scope) (by first | decide | rfl) hl)

def State.raiseVector_scope : Scope := ⟨[.hp, .out], some []⟩
theorem State.raiseVector_keeps (s : State) (port : Nat) (ld : Nat) (mgmt : Bool) (v : Nat) : State.Keeps State.raiseVector_scope s (State.raiseVector s port ld mgmt v) := by
  unfold State.raiseVector
  (try dsimp only)
  repeat' first
    | with_reducible exact State.Keeps.refl _ _
    | with_reducible apply State.Keeps.ite
    | fail_if_no_progress ((with_reducible apply State.Keeps.upd_hp); rotate_right; decide)
    | ((with_reducible apply State.Keeps.step (State.emit_keeps ..)); rotate_right; decide)

def State.latchWake_scope : Scope := ⟨[.regs, .pwr], some [PWR.PWR_WAKE_LATCH]⟩
theorem State.latchWake_keeps (s : State) (n : Nat) (ch : Nat) : State.Keeps State.latchWake_scope s (State.latchWake s n ch) := by
  unfold State.latchWake
  (try dsimp only)
  repeat' first
    | with_reducible exact State.Keeps.refl _ _
    | with_reducible apply State.Keeps.ite
    | fail_if_no_progress ((with_reducible apply State.Keeps.upd_pwr); rotate_right; decide)
    | ((with_reducible apply State.Keeps.step (State.putBit_keeps ..)); rotate_right; decide)

def State.wakeStart_scope : Scope := ⟨[.regs, .pwr], some [PWR.STATE]⟩
theorem State.wakeStart_keeps (s : State) (n : Nat) : State.Keeps State.wakeStart_scope s (State.wakeStart s n) := by
  unfold State.wakeStart
  (try dsimp only)
  repeat' first
    | with_reducible exact State.Keeps.refl _ _
    | with_reducible apply State.Keeps.ite
    | fail_if_no_progress ((with_reducible apply State.Keeps.upd_pwr); rotate_right; decide)
    | ((with_reducible apply State.Keeps.step (State.put_keeps ..)); rotate_right; decide)

def State.wakeEvent_scope : Scope := ⟨[.regs, .pwr, .free], some [PWR.PWR_WAKE_LATCH, PWR.STATE]⟩
theorem State.wakeEvent_keeps (s : State) (n : Nat) (ch : Nat) : State.Keeps State.wakeEvent_scope s (State.wakeEvent s n ch) := by
  unfold State.wakeEvent
  (try dsimp only)
  repeat' first
    | with_reducible exact State.Keeps.refl _ _
    | with_reducible apply State.Keeps.ite
    | ((with_reducible apply State.Keeps.step (State.latchWake_keeps ..)); rotate_right; decide)
    | ((with_reducible apply State.Keeps.step (State.wakeStart_keeps ..)); rotate_right; decide)
    | ((with_reducible apply State.Keeps.step (State.useFree_keeps ..)); rotate_right; decide)
    | ((with_reducible apply State.Keeps.step (State.put_keeps ..)); rotate_right; decide)

def State.signal_scope : Scope := ⟨[.regs, .hp, .pwr, .out, .free], some [PWR.PWR_WAKE_LATCH, PWR.STATE]⟩
theorem State.signal_keeps (s : State) (ch : Nat) : State.Keeps State.signal_scope s (State.signal s ch) := by
  unfold State.signal
  (try dsimp only)
  repeat' first
    | with_reducible exact State.Keeps.refl _ _
    | with_reducible apply State.Keeps.ite
    | ((with_reducible apply State.Keeps.step (State.raiseVector_keeps ..)); rotate_right; decide)
    | ((with_reducible apply State.Keeps.step (State.wakeEvent_keeps ..)); rotate_right; decide)
    | ((with_reducible apply State.Keeps.step (State.emit_keeps ..)); rotate_right; decide)
    | split

def State.alertPin_scope : Scope := ⟨[.regs, .out], some [EVF.ALERT_DRV]⟩
theorem State.alertPin_keeps (s : State) (k : Nat) : State.Keeps State.alertPin_scope s (State.alertPin s k) := by
  unfold State.alertPin
  (try dsimp only)
  repeat' first
    | with_reducible exact State.Keeps.refl _ _
    | with_reducible apply State.Keeps.ite
    | ((with_reducible apply State.Keeps.step (State.putBit_keeps ..)); rotate_right; decide)
    | ((with_reducible apply State.Keeps.step (State.pinOut_keeps ..)); rotate_right; decide)

def State.alertPins_scope : Scope := ⟨[.regs, .out], some [EVF.ALERT_DRV]⟩
theorem State.alertPins_keeps (s : State) : State.Keeps State.alertPins_scope s (State.alertPins s) := by
  unfold State.alertPins
  (try dsimp only)
  repeat' first
    | with_reducible exact State.Keeps.refl _ _
    | ((with_reducible apply State.Keeps.step (State.alertPin_keeps ..)); rotate_right; decide)

def State.setPending_scope : Scope := ⟨[.evf], some []⟩
theorem State.setPending_keeps (s : State) (ch : Nat) (n : Nat) : State.Keeps State.setPending_scope s (State.setPending s ch n) := by
  unfold State.setPending
  (try dsimp only)
  repeat' first
    | with_reducible exact State.Keeps.refl _ _
    | fail_if_no_progress ((with_reducible apply State.Keeps.upd_evf); rotate_right; decide)

def State.dataWake_scope : Scope := ⟨[.regs, .pwr, .free], some [PWR.PWR_WAKE_LATCH, PWR.STATE]⟩
theorem State.dataWake_keeps (s : State) (n : Nat) : State.Keeps State.dataWake_scope s (State.dataWake s n) := by
  unfold State.dataWake
  (try dsimp only)
  repeat' first
    | with_reducible exact State.Keeps.refl _ _
    | with_reducible assumption
    | with_reducible apply State.Keeps.ite
    | ((with_reducible apply State.Keeps.step (State.useFree_keeps ..)); rotate_right; decide)
    | ((with_reducible apply State.Keeps.step (State.put_keeps ..)); rotate_right; decide)
    | ((with_reducible apply State.Keeps.step (State.putBit_keeps ..)); rotate_right; decide)
    | ((with_reducible apply State.Keeps.step (State.wakeStart_keeps ..)); rotate_right; decide)

def State.chanHit_scope : Scope := ⟨[.regs, .evf, .hp, .pwr, .out, .free], some [EVF.ALERT_DRV, PWR.PWR_WAKE_LATCH, PWR.STATE]⟩
theorem State.chanHit_keeps (s : State) (ch : Nat) : State.Keeps State.chanHit_scope s (State.chanHit s ch) := by
  unfold State.chanHit
  (try dsimp only)
  repeat' first
    | with_reducible exact State.Keeps.refl _ _
    | with_reducible apply State.Keeps.ite
    | ((with_reducible apply State.Keeps.step (State.signal_keeps ..)); rotate_right; decide)
    | ((with_reducible apply State.Keeps.step (State.alertPins_keeps ..)); rotate_right; decide)
    | ((with_reducible apply State.Keeps.step (State.setPending_keeps ..)); rotate_right; decide)

def State.deliver_scope : Scope := State.chanHit_scope
theorem State.deliver_keeps (s : State) (p : Page) (idx : Nat) : State.Keeps State.deliver_scope s (State.deliver s p idx) := by
  unfold State.deliver
  (try dsimp only)
  repeat' first
    | with_reducible exact State.Keeps.refl _ _
    | with_reducible apply State.Keeps.ite
    | ((with_reducible apply State.Keeps.step (State.chanHit_keeps ..)); rotate_right; decide)

def State.sendOcc_scope : Scope := ⟨[.regs, .evf, .recd, .hp, .pwr, .out, .free], some [EVF.ALERT_DRV, EVF.TRACE_DROP, MGT.ALARM_SENT, PWR.PWR_WAKE_LATCH, PWR.STATE, REC.ALARM_DROP, REC.HEAD_SEQ, REC.LOST_CNT, REC.OVW_CNT, REC.RSV_USED]⟩
theorem State.sendOcc_keeps {l : Scope} {s0 : State} (err : State → Page → Nat → State) (s : State) (p : Page) (idx : Nat) (sev : Nat) (payload : List Byte) (forced : Bool) (herr : ∀ (x0 : State) (x1 : Page) (x2 : Nat), State.Keeps l s0 x0 → State.Keeps l s0 (err x0 x1 x2)) (hk0 : State.Keeps l s0 s) (hl : Scope.within State.sendOcc_scope l = true) :
    State.Keeps l s0 (State.sendOcc err s p idx sev payload forced) := by
  unfold State.sendOcc
  (try dsimp only)
  repeat' first
    | intro _
    | with_reducible assumption
    | with_reducible apply herr
    | with_reducible apply State.Keeps.ite
    | fail_if_no_progress ((with_reducible apply State.Keeps.upd_evf); rotate_right; exact Scope.within_contains (m := State.sendOcc_scope) (by decide) hl)
    | ((with_reducible apply State.record_keeps); rotate_right; exact Scope.within_trans (m := State.sendOcc_scope) (by first | decide | rfl) hl)
    | ((with_reducible apply State.Keeps.step (State.inc_keeps ..)); rotate_right; exact Scope.within_trans (m := State.sendOcc_scope) (by first | decide | rfl) hl)
    | ((with_reducible apply State.Keeps.step (State.deliver_keeps ..)); rotate_right; exact Scope.within_trans (m := State.sendOcc_scope) (by first | decide | rfl) hl)

def State.occurWith_scope : Scope := ⟨[.regs, .evf, .recd, .hp, .pwr, .out, .free], some [EVF.ALERT_DRV, EVF.TRACE_DROP, HDR.EVT_STAT, MGT.ALARM_SENT, PWR.PWR_WAKE_LATCH, PWR.STATE, REC.ALARM_DROP, REC.HEAD_SEQ, REC.LOST_CNT, REC.OVW_CNT, REC.RSV_USED]⟩
theorem State.occurWith_keeps {l : Scope} {s0 : State} (err : State → Page → Nat → State) (s : State) (p : Page) (idx : Nat) (sev : Nat) (payload : List Byte) (forced : Bool) (herr : ∀ (x0 : State) (x1 : Page) (x2 : Nat), State.Keeps l s0 x0 → State.Keeps l s0 (err x0 x1 x2)) (hk0 : State.Keeps l s0 s) (hl : Scope.within State.occurWith_scope l = true) :
    State.Keeps l s0 (State.occurWith err s p idx sev payload forced) := by
  unfold State.occurWith
  (try dsimp only)
  repeat' first
    | intro _
    | with_reducible assumption
    | with_reducible apply herr
    | with_reducible apply State.Keeps.ite
    | ((with_reducible apply State.Keeps.wr); rotate_right; exact Scope.within_has (m := State.occurWith_scope) (by decide) hl; rotate_right; first | exact Or.inr (by decide) | exact Or.inl rfl)
    | ((with_reducible apply State.sendOcc_keeps); rotate_right; exact Scope.within_trans (m := State.occurWith_scope) (by first | decide | rfl) hl)

def State.errInner_scope : Scope := ⟨[.regs, .evf, .recd, .hp, .pwr, .out, .free], some [EVF.ALERT_DRV, EVF.TRACE_DROP, HDR.ERR_INFO0, HDR.ERR_INFO1, HDR.ERR_STAT, HDR.EVT_STAT, MGT.ALARM_SENT, PWR.PWR_WAKE_LATCH, PWR.STATE, REC.ALARM_DROP, REC.HEAD_SEQ, REC.LOST_CNT, REC.OVW_CNT, REC.RSV_USED]⟩
theorem State.errInner_keeps (s : State) (p : Page) (k : Nat) : State.Keeps State.errInner_scope s (State.errInner s p k) := by
  unfold State.errInner
  (try dsimp only)
  repeat' first
    | intro _
    | with_reducible exact State.Keeps.refl _ _
    | with_reducible assumption
    | ((with_reducible apply State.occurWith_keeps); rotate_right; decide)
    | ((with_reducible apply State.Keeps.step (State.setErr_keeps ..)); rotate_right; decide)
    | ((with_reducible apply State.Keeps.step (State.errQuiet_keeps ..)); rotate_right; decide)

def State.errAlarm_scope : Scope := State.errInner_scope
theorem State.errAlarm_keeps (s : State) (p : Page) (k : Nat) : State.Keeps State.errAlarm_scope s (State.errAlarm s p k) := by
  unfold State.errAlarm
  (try dsimp only)
  repeat' first
    | intro _
    | with_reducible exact State.Keeps.refl _ _
    | with_reducible assumption
    | ((with_reducible apply State.occurWith_keeps); rotate_right; decide)
    | ((with_reducible apply State.Keeps.step (State.setErr_keeps ..)); rotate_right; decide)
    | ((with_reducible apply State.Keeps.step (State.errInner_keeps ..)); rotate_right; decide)

def State.occur_scope : Scope := State.errAlarm_scope
theorem State.occur_keeps (s : State) (p : Page) (idx : Nat) (sev : Nat) (payload : List Byte) : State.Keeps State.occur_scope s (State.occur s p idx sev payload) := by
  unfold State.occur
  (try dsimp only)
  repeat' first
    | intro _
    | with_reducible exact State.Keeps.refl _ _
    | with_reducible assumption
    | ((with_reducible apply State.occurWith_keeps); rotate_right; decide)
    | ((with_reducible apply State.Keeps.step (State.errAlarm_keeps ..)); rotate_right; decide)

def State.misc_scope : Scope := State.errAlarm_scope
theorem State.misc_keeps (s : State) (p : Page) (sev : Nat) (payload : List Byte) : State.Keeps State.misc_scope s (State.misc s p sev payload) := by
  unfold State.misc
  (try dsimp only)
  repeat' first
    | with_reducible exact State.Keeps.refl _ _
    | ((with_reducible apply State.Keeps.step (State.occur_keeps ..)); rotate_right; decide)

def State.ctlErr_scope : Scope := State.errAlarm_scope
theorem State.ctlErr_keeps (s : State) (p : Page) (k : Nat) (sev : Nat) (c : Capture) : State.Keeps State.ctlErr_scope s (State.ctlErr s p k sev c) := by
  unfold State.ctlErr
  (try dsimp only)
  repeat' first
    | with_reducible exact State.Keeps.refl _ _
    | ((with_reducible apply State.Keeps.step (State.occur_keeps ..)); rotate_right; decide)
    | ((with_reducible apply State.Keeps.step (State.setErr_keeps ..)); rotate_right; decide)

def State.blkErr_scope : Scope := State.errAlarm_scope
theorem State.blkErr_keeps (s : State) (p : Page) (k : Nat) (sev : Nat) (payload : List Byte) (c : Option Capture) : State.Keeps State.blkErr_scope s (State.blkErr s p k sev payload c) := by
  unfold State.blkErr
  (try dsimp only)
  repeat' first
    | with_reducible exact State.Keeps.refl _ _
    | with_reducible apply State.Keeps.ite
    | ((with_reducible apply State.Keeps.step (State.occur_keeps ..)); rotate_right; decide)
    | ((with_reducible apply State.Keeps.step (State.setErr_keeps ..)); rotate_right; decide)

end Sys2Proof.Machine
end

