-- ==== Sys2Proof/Laws/KeepPanOps.lean ====
section
/-! SUPPORT. What each operation of Machine/PanOps.lean keeps: the parts of State it can change are those listed. -/
set_option linter.unusedTactic false
set_option linter.unreachableTactic false
namespace Sys2Proof.Machine

def State.dramAsk_scope : Scope := ⟨[.dmc], some []⟩
theorem State.dramAsk_keeps (s : State) (a : Nat) : State.Keeps State.dramAsk_scope s (State.dramAsk s a) := by
  unfold State.dramAsk
  (try dsimp only)
  repeat' first
    | with_reducible exact State.Keeps.refl _ _
    | with_reducible assumption
    | with_reducible apply State.Keeps.ite
    | fail_if_no_progress ((with_reducible apply State.Keeps.upd_dmc); rotate_right; decide)
    | with_reducible refine State.Keeps.fst ‹_ = (_, _)› ?_
    | split

def State.dramIssued_scope : Scope := ⟨[.dmc], some []⟩
theorem State.dramIssued_keeps (s : State) (k : Nat) (ws : List QWrite) : State.Keeps State.dramIssued_scope s (State.dramIssued s k ws) := by
  unfold State.dramIssued
  (try dsimp only)
  repeat' first
    | with_reducible exact State.Keeps.refl _ _
    | with_reducible assumption
    | with_reducible apply State.Keeps.ite
    | fail_if_no_progress ((with_reducible apply State.Keeps.upd_dmc); rotate_right; decide)

def State.dramAccept_scope : Scope := ⟨[.tier, .dmc], some []⟩
theorem State.dramAccept_keeps (s : State) (a : Nat) (sector : Nat) (port : Nat) : State.Keeps State.dramAccept_scope s (State.dramAccept s a sector port) := by
  unfold State.dramAccept
  (try dsimp only)
  repeat' first
    | with_reducible exact State.Keeps.refl _ _
    | with_reducible assumption
    | with_reducible apply State.Keeps.ite
    | fail_if_no_progress ((with_reducible apply State.Keeps.upd_tier); rotate_right; decide)
    | ((with_reducible apply State.Keeps.step (State.dramAsk_keeps ..)); rotate_right; decide)
    | ((with_reducible apply State.Keeps.step (State.dramIssued_keeps ..)); rotate_right; decide)
    | with_reducible refine State.Keeps.fst ‹_ = (_, _)› ?_
    | split

def State.dramDrain_scope : Scope := ⟨[.tier, .dmc], some []⟩
theorem State.dramDrain_keeps (s : State) : State.Keeps State.dramDrain_scope s (State.dramDrain s) := by
  unfold State.dramDrain
  (try dsimp only)
  repeat' first
    | with_reducible exact State.Keeps.refl _ _
    | with_reducible assumption
    | with_reducible apply State.Keeps.ite
    | fail_if_no_progress ((with_reducible apply State.Keeps.upd_tier); rotate_right; decide)
    | with_reducible refine State.Keeps.fst ‹_ = (_, _)› ?_
    | ((with_reducible apply State.Keeps.step (State.dramIssued_keeps ..)); rotate_right; decide)
    | ((with_reducible apply State.Keeps.foldl1); rotate_right; intro _ _ _; rotate_left)
    | ((with_reducible apply State.Keeps.foldl); rotate_right; intro _ _ _; rotate_left)
    | split

def State.dramEmpty_scope : Scope := ⟨[.tier, .dmc], some []⟩
theorem State.dramEmpty_keeps (s : State) (c : Nat) : State.Keeps State.dramEmpty_scope s (State.dramEmpty s c) := by
  unfold State.dramEmpty
  (try dsimp only)
  repeat' first
    | with_reducible exact State.Keeps.refl _ _
    | with_reducible assumption
    | with_reducible apply State.Keeps.ite
    | fail_if_no_progress ((with_reducible apply State.Keeps.upd_tier); rotate_right; decide)
    | fail_if_no_progress ((with_reducible apply State.Keeps.upd_dmc); rotate_right; decide)
    | fail_if_no_progress ((with_reducible apply State.Keeps.upd); rotate_right; (intro p hp; cases p <;> first | exact absurd (by decide) hp | exact rfl))

def State.frameWrite_scope : Scope := ⟨[.tier, .dmc], some []⟩
theorem State.frameWrite_keeps (s : State) (n : Nat) (v : SectorVal) (port : Nat) : State.Keeps State.frameWrite_scope s (State.frameWrite s n v port) := by
  unfold State.frameWrite
  (try dsimp only)
  repeat' first
    | with_reducible exact State.Keeps.refl _ _
    | with_reducible assumption
    | with_reducible apply State.Keeps.ite
    | fail_if_no_progress ((with_reducible apply State.Keeps.upd_tier); rotate_right; decide)
    | ((with_reducible apply State.Keeps.step (State.dramAccept_keeps ..)); rotate_right; decide)
    | with_reducible refine State.Keeps.fst ‹_ = (_, _)› ?_
    | split

def State.memAccept_scope : Scope := ⟨[.tier, .dmc], some []⟩
theorem State.memAccept_keeps (s : State) (a : Nat) (n : Nat) (port : Nat) : State.Keeps State.memAccept_scope s (State.memAccept s a n port) := by
  unfold State.memAccept
  (try dsimp only)
  repeat' first
    | with_reducible exact State.Keeps.refl _ _
    | with_reducible assumption
    | with_reducible apply State.Keeps.ite
    | ((with_reducible apply State.Keeps.step (State.dramAccept_keeps ..)); rotate_right; decide)
    | ((with_reducible apply State.Keeps.foldl1); rotate_right; intro _ _ _; rotate_left)
    | ((with_reducible apply State.Keeps.foldl); rotate_right; intro _ _ _; rotate_left)

def State.frameAsk_scope : Scope := ⟨[.dmc], some []⟩
theorem State.frameAsk_keeps (s : State) (n : Nat) : State.Keeps State.frameAsk_scope s (State.frameAsk s n) := by
  unfold State.frameAsk
  (try dsimp only)
  repeat' first
    | with_reducible exact State.Keeps.refl _ _
    | with_reducible assumption
    | with_reducible apply State.Keeps.ite
    | ((with_reducible apply State.Keeps.step (State.dramAsk_keeps ..)); rotate_right; decide)
    | with_reducible refine State.Keeps.fst ‹_ = (_, _)› ?_
    | split

def State.panPut_scope : Scope := ⟨[.pan], some []⟩
theorem State.panPut_keeps (s : State) (k : Nat) (x : Line) : State.Keeps State.panPut_scope s (State.panPut s k x) := by
  unfold State.panPut
  (try dsimp only)
  repeat' first
    | with_reducible exact State.Keeps.refl _ _
    | fail_if_no_progress ((with_reducible apply State.Keeps.upd_pan); rotate_right; decide)

def State.panWriteBack_scope : Scope := ⟨[.regs, .tier, .pan, .dmc], some [PAN.WB_CNT]⟩
theorem State.panWriteBack_keeps (s : State) (k : Nat) (x : Line) (port : Nat) : State.Keeps State.panWriteBack_scope s (State.panWriteBack s k x port) := by
  unfold State.panWriteBack
  (try dsimp only)
  repeat' first
    | with_reducible exact State.Keeps.refl _ _
    | with_reducible apply State.Keeps.ite
    | ((with_reducible apply State.Keeps.step (State.incMod_keeps ..)); rotate_right; decide)
    | ((with_reducible apply State.Keeps.step (State.panPut_keeps ..)); rotate_right; decide)
    | ((with_reducible apply State.Keeps.step (State.frameWrite_keeps ..)); rotate_right; decide)
    | with_reducible assumption

def State.panVictim_scope : Scope := ⟨[.pan], some []⟩
theorem State.panVictim_keeps (s : State) (k : Nat) : State.KeepsO State.panVictim_scope s Prod.snd (State.panVictim s k) := by
  unfold State.panVictim
  (try dsimp only)
  repeat' first
    | with_reducible exact State.Keeps.refl _ _
    | with_reducible assumption
    | with_reducible exact State.KeepsO.none
    | with_reducible apply State.KeepsO.some
    | fail_if_no_progress ((with_reducible apply State.Keeps.upd_pan); rotate_right; decide)
    | ((with_reducible apply State.Keeps.foldl); rotate_right; intro _ _ _; rotate_left)
    | split

def State.panInstall_scope : Scope := ⟨[.regs, .tier, .pan, .dmc], some [PAN.WB_CNT]⟩
theorem State.panInstall_keeps (s : State) (l : Nat) (x : Line) (port : Nat) : State.Keeps State.panInstall_scope s (State.panInstall s l x port) := by
  unfold State.panInstall
  (try dsimp only)
  repeat' first
    | with_reducible exact State.Keeps.refl _ _
    | ((with_reducible apply State.Keeps.step (State.panPut_keeps ..)); rotate_right; decide)
    | ((with_reducible apply State.Keeps.step (State.panWriteBack_keeps ..)); rotate_right; decide)
    | ((with_reducible refine State.Keeps.step (State.KeepsO.use2 (State.panVictim_keeps ..) ‹_›) ?_ ?_); rotate_right; decide)
    | with_reducible assumption
    | with_reducible apply State.Keeps.ite
    | with_reducible refine State.Keeps.fst ‹_ = (_, _)› ?_
    | split

def State.panWrite_scope : Scope := ⟨[.regs, .tier, .pan, .dmc], some [PAN.WB_CNT]⟩
theorem State.panWrite_keeps (s : State) (n : Nat) (v : SectorVal) (alloc : Bool) (port : Nat) : State.Keeps State.panWrite_scope s (State.panWrite s n v alloc port) := by
  unfold State.panWrite
  (try dsimp only)
  repeat' first
    | with_reducible exact State.Keeps.refl _ _
    | with_reducible apply State.Keeps.ite
    | ((with_reducible apply State.Keeps.step (State.frameWrite_keeps ..)); rotate_right; decide)
    | ((with_reducible apply State.Keeps.step (State.panInstall_keeps ..)); rotate_right; decide)
    | ((with_reducible apply State.Keeps.step (State.panPut_keeps ..)); rotate_right; decide)
    | with_reducible assumption
    | with_reducible refine State.Keeps.fst ‹_ = (_, _)› ?_
    | split

def State.lockLost_scope : Scope := ⟨[.regs], some [PAN.LOCKS_RELEASED, PAN.LOCK_LOST_CNT]⟩
theorem State.lockLost_keeps (s : State) (sl : Nat) : State.Keeps State.lockLost_scope s (State.lockLost s sl) := by
  unfold State.lockLost
  (try dsimp only)
  repeat' first
    | with_reducible exact State.Keeps.refl _ _
    | ((with_reducible apply State.Keeps.step (State.inc_keeps ..)); rotate_right; decide)
    | with_reducible assumption
    | with_reducible apply State.Keeps.ite
    | ((with_reducible apply State.Keeps.step (State.incMod_keeps ..)); rotate_right; decide)

def State.lockEvent_scope : Scope := ⟨[.regs, .evf, .recd, .hp, .pwr, .out, .free], some [EVF.ALERT_DRV, EVF.TRACE_DROP, HDR.ERR_INFO0, HDR.ERR_INFO1, HDR.ERR_STAT, HDR.EVT_STAT, MGT.ALARM_SENT, PWR.PWR_WAKE_LATCH, PWR.STATE, REC.ALARM_DROP, REC.HEAD_SEQ, REC.LOST_CNT, REC.OVW_CNT, REC.RSV_USED]⟩
theorem State.lockEvent_keeps (s : State) (base : Nat) (len : Nat) (released : Nat) : State.Keeps State.lockEvent_scope s (State.lockEvent s base len released) := by
  unfold State.lockEvent
  (try dsimp only)
  repeat' first
    | with_reducible exact State.Keeps.refl _ _
    | ((with_reducible apply State.Keeps.step (State.occur_keeps ..)); rotate_right; decide)
    | with_reducible assumption
    | with_reducible apply State.Keeps.ite

def State.panLose_scope : Scope := ⟨[.regs, .evf, .recd, .hp, .pan, .pwr, .out, .free], some [EVF.ALERT_DRV, EVF.TRACE_DROP, HDR.ERR_INFO0, HDR.ERR_INFO1, HDR.ERR_STAT, HDR.EVT_STAT, MGT.ALARM_SENT, PAN.LOCKS_RELEASED, PAN.LOCK_LOST_CNT, PWR.PWR_WAKE_LATCH, PWR.STATE, REC.ALARM_DROP, REC.HEAD_SEQ, REC.LOST_CNT, REC.OVW_CNT, REC.RSV_USED]⟩
theorem State.panLose_keeps (s : State) (hit : Nat × Line → Bool) (base : Nat) (len : Nat) : State.Keeps State.panLose_scope s (State.panLose s hit base len) := by
  unfold State.panLose
  (try dsimp only)
  repeat' first
    | with_reducible exact State.Keeps.refl _ _
    | with_reducible assumption
    | with_reducible apply State.Keeps.ite
    | fail_if_no_progress ((with_reducible apply State.Keeps.upd_pan); rotate_right; decide)
    | ((with_reducible apply State.Keeps.step (State.lockLost_keeps ..)); rotate_right; decide)
    | ((with_reducible apply State.Keeps.step (State.lockEvent_keeps ..)); rotate_right; decide)
    | ((with_reducible apply State.Keeps.foldl1); rotate_right; intro _ _ _; rotate_left)
    | ((with_reducible apply State.Keeps.foldl); rotate_right; intro _ _ _; rotate_left)

def State.panForget_scope : Scope := ⟨[.regs, .evf, .recd, .hp, .pan, .pwr, .out, .free], some [EVF.ALERT_DRV, EVF.TRACE_DROP, HDR.ERR_INFO0, HDR.ERR_INFO1, HDR.ERR_STAT, HDR.EVT_STAT, MGT.ALARM_SENT, PAN.LOCKS_RELEASED, PAN.LOCK_LOST_CNT, PWR.PWR_WAKE_LATCH, PWR.STATE, REC.ALARM_DROP, REC.HEAD_SEQ, REC.LOST_CNT, REC.OVW_CNT, REC.RSV_USED]⟩
theorem State.panForget_keeps (s : State) (pbn : Nat) : State.Keeps State.panForget_scope s (State.panForget s pbn) := by
  unfold State.panForget
  (try dsimp only)
  repeat' first
    | with_reducible exact State.Keeps.refl _ _
    | fail_if_no_progress ((with_reducible apply State.Keeps.upd_pan); rotate_right; decide)
    | with_reducible assumption
    | with_reducible apply State.Keeps.ite
    | ((with_reducible apply State.Keeps.step (State.panLose_keeps ..)); rotate_right; decide)

def State.panTouch_scope : Scope := ⟨[.regs, .tier, .pan, .dmc], some [PAN.HIT_CNT, PAN.MISS_CNT, PAN.WB_CNT]⟩
theorem State.panTouch_keeps (s : State) (n : Nat) (age : Nat) (demand : Bool) (port : Nat) : State.Keeps State.panTouch_scope s (State.panTouch s n age demand port) := by
  unfold State.panTouch
  (try dsimp only)
  repeat' first
    | with_reducible exact State.Keeps.refl _ _
    | with_reducible apply State.Keeps.ite
    | ((with_reducible apply State.Keeps.step (State.panInstall_keeps ..)); rotate_right; decide)
    | ((with_reducible apply State.Keeps.step (State.incMod_keeps ..)); rotate_right; decide)
    | ((with_reducible apply State.Keeps.step (State.panPut_keeps ..)); rotate_right; decide)
    | with_reducible assumption
    | ((with_reducible apply State.Keeps.step (State.frameAsk_keeps ..)); rotate_right; decide)
    | with_reducible refine State.Keeps.fst ‹_ = (_, _)› ?_
    | split

def State.prefetch_scope : Scope := ⟨[.regs, .tier, .pan, .dmc], some [PAN.WB_CNT]⟩
theorem State.prefetch_keeps (s : State) (pbn : Nat) (l : Nat) : State.Keeps State.prefetch_scope s (State.prefetch s pbn l) := by
  unfold State.prefetch
  (try dsimp only)
  repeat' first
    | with_reducible exact State.Keeps.refl _ _
    | with_reducible apply State.Keeps.ite
    | ((with_reducible apply State.Keeps.step (State.panInstall_keeps ..)); rotate_right; decide)
    | with_reducible assumption
    | with_reducible refine State.Keeps.fst ‹_ = (_, _)› ?_
    | split

def State.setTracker_scope : Scope := ⟨[.pan], some []⟩
theorem State.setTracker_keeps (s : State) (t : Tracker) : State.Keeps State.setTracker_scope s (State.setTracker s t) := by
  unfold State.setTracker
  (try dsimp only)
  repeat' first
    | with_reducible exact State.Keeps.refl _ _
    | fail_if_no_progress ((with_reducible apply State.Keeps.upd_pan); rotate_right; decide)

def State.train_scope : Scope := ⟨[.regs, .tier, .pan, .dmc], some [PAN.WB_CNT]⟩
theorem State.train_keeps (s : State) (r : ReadReq) (pbn : Nat) (l : Nat) : State.Keeps State.train_scope s (State.train s r pbn l).1 := by
  unfold State.train
  (try dsimp only)
  repeat' first
    | with_reducible exact State.Keeps.refl _ _
    | with_reducible assumption
    | ((with_reducible apply State.Keeps.step (State.prefetch_keeps ..)); rotate_right; decide)
    | ((with_reducible apply State.Keeps.step (State.setTracker_keeps ..)); rotate_right; decide)
    | ((with_reducible apply State.Keeps.foldl); rotate_right; intro _ _ _; rotate_left)
    | split

def State.panDrop_scope : Scope := ⟨[.pan], some []⟩
theorem State.panDrop_keeps (s : State) (k : Nat) : State.Keeps State.panDrop_scope s (State.panDrop s k) := by
  unfold State.panDrop
  (try dsimp only)
  repeat' first
    | with_reducible exact State.Keeps.refl _ _
    | fail_if_no_progress ((with_reducible apply State.Keeps.upd_pan); rotate_right; decide)

def State.panZero_scope : Scope := ⟨[.regs, .tier, .pan, .dmc], some [PAN.WB_CNT]⟩
theorem State.panZero_keeps (s : State) (l : Nat) (port : Nat) : State.Keeps State.panZero_scope s (State.panZero s l port) := by
  unfold State.panZero
  (try dsimp only)
  repeat' first
    | with_reducible exact State.Keeps.refl _ _
    | with_reducible assumption
    | with_reducible apply State.Keeps.ite
    | ((with_reducible apply State.Keeps.step (State.panPut_keeps ..)); rotate_right; decide)
    | ((with_reducible apply State.Keeps.step (State.frameWrite_keeps ..)); rotate_right; decide)
    | ((with_reducible apply State.Keeps.step (State.panInstall_keeps ..)); rotate_right; decide)
    | with_reducible refine State.Keeps.fst ‹_ = (_, _)› ?_
    | split

def State.panCleanUnit_scope : Scope := ⟨[.regs, .tier, .pan, .dmc], some [PAN.WB_CNT]⟩
theorem State.panCleanUnit_keeps (s : State) (u : Nat) : State.Keeps State.panCleanUnit_scope s (State.panCleanUnit s u) := by
  unfold State.panCleanUnit
  (try dsimp only)
  repeat' first
    | with_reducible exact State.Keeps.refl _ _
    | with_reducible assumption
    | with_reducible apply State.Keeps.ite
    | ((with_reducible apply State.Keeps.step (State.panWriteBack_keeps ..)); rotate_right; decide)
    | ((with_reducible apply State.Keeps.foldl); rotate_right; intro _ _ _; rotate_left)
    | ((with_reducible apply State.Keeps.foldl1); rotate_right; intro _ _ _; rotate_left)

def State.panRelease_scope : Scope := ⟨[.regs, .tier, .pan, .dmc], some [PAN.LOCKS_RELEASED, PAN.LOCK_LOST_CNT, PAN.WB_CNT]⟩
theorem State.panRelease_keeps (s : State) (pbn : Nat) : State.Keeps State.panRelease_scope s (State.panRelease s pbn).1 := by
  unfold State.panRelease
  (try dsimp only)
  repeat' first
    | with_reducible exact State.Keeps.refl _ _
    | with_reducible assumption
    | ((with_reducible apply State.Keeps.step (State.lockLost_keeps ..)); rotate_right; decide)
    | ((with_reducible apply State.Keeps.step (State.panWriteBack_keeps ..)); rotate_right; decide)
    | ((with_reducible apply State.Keeps.step (State.panDrop_keeps ..)); rotate_right; decide)
    | with_reducible apply State.Keeps.ite1
    | ((with_reducible apply State.Keeps.foldl1); rotate_right; intro _ _ _; rotate_left)

def State.panWake_scope : Scope := ⟨[.regs, .pwr, .dmc, .free], some [PWR.PWR_WAKE_LATCH, PWR.STATE]⟩
theorem State.panWake_keeps (s : State) (n : Nat) : State.Keeps State.panWake_scope s (State.panWake s n) := by
  unfold State.panWake
  (try dsimp only)
  repeat' first
    | with_reducible exact State.Keeps.refl _ _
    | with_reducible assumption
    | with_reducible apply State.Keeps.ite
    | ((with_reducible apply State.Keeps.step (State.dataWake_keeps ..)); rotate_right; decide)
    | ((with_reducible apply State.Keeps.step (State.frameAsk_keeps ..)); rotate_right; decide)
    | with_reducible refine State.Keeps.fst ‹_ = (_, _)› ?_
    | split

end Sys2Proof.Machine
end

