-- ==== Sys2Proof/Laws/KeepWalk.lean ====
section
/-! SUPPORT. What each operation of Machine/Walk.lean keeps: the parts of State it can change are those listed. -/
set_option linter.unusedTactic false
set_option linter.unreachableTactic false
namespace Sys2Proof.Machine

def State.clearZero_scope : Scope := ⟨[.xlt], some []⟩
theorem State.clearZero_keeps (s : State) (region : Nat) (blk : Nat) : State.Keeps State.clearZero_scope s (State.clearZero s region blk) := by
  unfold State.clearZero
  (try dsimp only)
  repeat' first
    | with_reducible exact State.Keeps.refl _ _
    | fail_if_no_progress ((with_reducible apply State.Keeps.upd_xlt); rotate_right; decide)

def State.putQuota_scope : Scope := ⟨[.tier], some []⟩
theorem State.putQuota_keeps (s : State) (t : Nat) (q : Quota) : State.Keeps State.putQuota_scope s (State.putQuota s t q) := by
  unfold State.putQuota
  (try dsimp only)
  repeat' first
    | with_reducible exact State.Keeps.refl _ _
    | fail_if_no_progress ((with_reducible apply State.Keeps.upd_tier); rotate_right; decide)

def State.putRegistration_scope : Scope := ⟨[.xlt], some []⟩
theorem State.putRegistration_keeps (s : State) (i : Nat) (d : Registration) : State.Keeps State.putRegistration_scope s (State.putRegistration s i d) := by
  unfold State.putRegistration
  (try dsimp only)
  repeat' first
    | with_reducible exact State.Keeps.refl _ _
    | fail_if_no_progress ((with_reducible apply State.Keeps.upd_xlt); rotate_right; decide)

def State.registrationFree_scope : Scope := ⟨[.regs, .evf, .recd, .xlt, .hp, .qe, .pwr, .out, .free], some [EVF.ALERT_DRV, EVF.TRACE_DROP, HDR.ERR_INFO0, HDR.ERR_INFO1, HDR.ERR_STAT, HDR.EVT_STAT, MGT.ALARM_SENT, PWR.PWR_WAKE_LATCH, PWR.STATE, REC.ALARM_DROP, REC.HEAD_SEQ, REC.LOST_CNT, REC.OVW_CNT, REC.RSV_USED]⟩
theorem State.registrationFree_keeps (s : State) (i : Nat) (d : Registration) : State.Keeps State.registrationFree_scope s (State.registrationFree s i d) := by
  unfold State.registrationFree
  (try dsimp only)
  repeat' first
    | with_reducible exact State.Keeps.refl _ _
    | fail_if_no_progress ((with_reducible apply State.Keeps.upd_qe); rotate_right; decide)
    | ((with_reducible apply State.Keeps.step (State.occur_keeps ..)); rotate_right; decide)
    | ((with_reducible apply State.Keeps.step (State.putRegistration_keeps ..)); rotate_right; decide)

def State.refetch_scope : Scope := ⟨[.regs, .evf, .recd, .xlt, .hp, .pwr, .out, .free], some [EVF.ALERT_DRV, EVF.TRACE_DROP, HDR.ERR_INFO0, HDR.ERR_INFO1, HDR.ERR_STAT, HDR.EVT_STAT, MGT.ALARM_SENT, PWR.PWR_WAKE_LATCH, PWR.STATE, REC.ALARM_DROP, REC.HEAD_SEQ, REC.LOST_CNT, REC.OVW_CNT, REC.RSV_USED]⟩
theorem State.refetch_keeps (s : State) (k : XKey) : State.Keeps State.refetch_scope s (State.refetch s k).1 := by
  unfold State.refetch
  (try dsimp only)
  repeat' first
    | with_reducible exact State.Keeps.refl _ _
    | fail_if_no_progress ((with_reducible apply State.Keeps.upd_xlt); rotate_right; decide)
    | ((with_reducible apply State.Keeps.step (State.misc_keeps ..)); rotate_right; decide)
    | with_reducible apply State.Keeps.ite1
    | split

def State.xFill_scope : Scope := ⟨[.xlt], some []⟩
theorem State.xFill_keeps (s : State) (k : XKey) (c : XCopy) : State.Keeps State.xFill_scope s (State.xFill s k c) := by
  unfold State.xFill
  (try dsimp only)
  repeat' first
    | with_reducible exact State.Keeps.refl _ _
    | with_reducible apply State.Keeps.ite
    | fail_if_no_progress ((with_reducible apply State.Keeps.upd_xlt); rotate_right; decide)

def State.xUse_scope : Scope := ⟨[.xlt], some []⟩
theorem State.xUse_keeps (s : State) (k : XKey) : State.Keeps State.xUse_scope s (State.xUse s k) := by
  unfold State.xUse
  (try dsimp only)
  repeat' first
    | with_reducible exact State.Keeps.refl _ _
    | fail_if_no_progress ((with_reducible apply State.Keeps.upd_xlt); rotate_right; decide)

def State.xGet_scope : Scope := State.refetch_scope
theorem State.xGet_keeps (s : State) (k : XKey) : State.Keeps State.xGet_scope s (State.xGet s k).1 := by
  unfold State.xGet
  (try dsimp only)
  repeat' first
    | with_reducible exact State.Keeps.refl _ _
    | ((with_reducible apply State.Keeps.step (State.refetch_keeps ..)); rotate_right; decide)
    | ((with_reducible apply State.Keeps.step (State.xFill_keeps ..)); rotate_right; decide)
    | ((with_reducible apply State.Keeps.step (State.xUse_keeps ..)); rotate_right; decide)
    | with_reducible apply State.Keeps.ite1
    | split

def State.getBme_scope : Scope := State.refetch_scope
theorem State.getBme_keeps (s : State) (r : Nat) (d : Region) (blk : Nat) : State.Keeps State.getBme_scope s (State.getBme s r d blk).1 := by
  unfold State.getBme
  (try dsimp only)
  repeat' first
    | with_reducible exact State.Keeps.refl _ _
    | with_reducible apply State.Keeps.ite
    | ((with_reducible apply State.Keeps.step (State.xGet_keeps ..)); rotate_right; decide)
    | dsimp only
    | split
    | with_reducible refine State.Keeps.fst ‹_ = (_, _)› ?_

def State.resolve_scope : Scope := State.getBme_scope
theorem State.resolve_keeps (s : State) (region : Nat) (d : Region) (off : Nat) : State.Keeps State.resolve_scope s (State.resolve s region d off).1 := by
  unfold State.resolve
  (try dsimp only)
  repeat' first
    | with_reducible exact State.Keeps.refl _ _
    | ((with_reducible apply State.Keeps.step (State.getBme_keeps ..)); rotate_right; decide)
    | dsimp only
    | split
    | with_reducible refine State.Keeps.fst ‹_ = (_, _)› ?_

def State.revoke_scope : Scope := State.registrationFree_scope
theorem State.revoke_keeps (s : State) (key : Nat) : State.Keeps State.revoke_scope s (State.revoke s key).1 := by
  unfold State.revoke
  (try dsimp only)
  repeat' first
    | with_reducible exact State.Keeps.refl _ _
    | with_reducible apply State.Keeps.ite
    | ((with_reducible apply State.Keeps.step (State.registrationFree_keeps ..)); rotate_right; decide)
    | ((with_reducible apply State.Keeps.step (State.putRegistration_keeps ..)); rotate_right; decide)
    | with_reducible apply State.Keeps.ite1

def State.invalRun_scope : Scope := ⟨[.regs, .xlt], some [XLT.BUSY]⟩
theorem State.invalRun_keeps (s : State) (i : Inval) : State.Keeps State.invalRun_scope s (State.invalRun s i) := by
  unfold State.invalRun
  (try dsimp only)
  repeat' first
    | with_reducible exact State.Keeps.refl _ _
    | fail_if_no_progress ((with_reducible apply State.Keeps.upd_xlt); rotate_right; decide)
    | ((with_reducible apply State.Keeps.step (State.put_keeps ..)); rotate_right; decide)

def State.inval_scope : Scope := ⟨[.regs, .evf, .recd, .xlt, .hp, .pwr, .out, .free], some [EVF.ALERT_DRV, EVF.TRACE_DROP, HDR.ERR_INFO0, HDR.ERR_INFO1, HDR.ERR_STAT, HDR.EVT_STAT, MGT.ALARM_SENT, PWR.PWR_WAKE_LATCH, PWR.STATE, REC.ALARM_DROP, REC.HEAD_SEQ, REC.LOST_CNT, REC.OVW_CNT, REC.RSV_USED, XLT.BUSY]⟩
theorem State.inval_keeps (s : State) (scope : Nat) (index : Nat) (w : InvalFor) : State.Keeps State.inval_scope s (State.inval s scope index w) := by
  unfold State.inval
  (try dsimp only)
  repeat' first
    | with_reducible exact State.Keeps.refl _ _
    | with_reducible apply State.Keeps.ite
    | fail_if_no_progress ((with_reducible apply State.Keeps.upd_xlt); rotate_right; decide)
    | ((with_reducible apply State.Keeps.step (State.blkErr_keeps ..)); rotate_right; decide)
    | ((with_reducible apply State.Keeps.step (State.invalRun_keeps ..)); rotate_right; decide)

def State.messageEnd_scope : Scope := State.registrationFree_scope
theorem State.messageEnd_keeps (s : State) (i : Nat) : State.Keeps State.messageEnd_scope s (State.messageEnd s i) := by
  unfold State.messageEnd
  (try dsimp only)
  repeat' first
    | with_reducible exact State.Keeps.refl _ _
    | with_reducible apply State.Keeps.ite
    | ((with_reducible apply State.Keeps.step (State.putRegistration_keeps ..)); rotate_right; decide)
    | ((with_reducible apply State.Keeps.step (State.registrationFree_keeps ..)); rotate_right; decide)

def State.refusal_scope : Scope := ⟨[.tier], some []⟩
theorem State.refusal_keeps (s : State) (t : Nat) : State.Keeps State.refusal_scope s (State.refusal s t) := by
  unfold State.refusal
  (try dsimp only)
  repeat' first
    | with_reducible exact State.Keeps.refl _ _
    | ((with_reducible apply State.Keeps.step (State.putQuota_keeps ..)); rotate_right; decide)

def State.getRegion_scope : Scope := State.refetch_scope
theorem State.getRegion_keeps (s : State) (r : Nat) : State.Keeps State.getRegion_scope s (State.getRegion s r).1 := by
  unfold State.getRegion
  (try dsimp only)
  repeat' first
    | with_reducible exact State.Keeps.refl _ _
    | ((with_reducible apply State.Keeps.step (State.xGet_keeps ..)); rotate_right; decide)
    | dsimp only
    | split
    | with_reducible refine State.Keeps.fst ‹_ = (_, _)› ?_

def State.checks_scope : Scope := State.getRegion_scope
theorem State.checks_keeps (s : State) (a : Access) (via : Via) (write : Bool) : State.Keeps State.checks_scope s (State.checks s a via write).1 := by
  unfold State.checks
  (try dsimp only)
  repeat' first
    | with_reducible exact State.Keeps.refl _ _
    | ((with_reducible apply State.Keeps.step (State.misc_keeps ..)); rotate_right; decide)
    | ((with_reducible apply State.Keeps.step (State.getRegion_keeps ..)); rotate_right; decide)
    | with_reducible apply State.Keeps.ite1
    | dsimp only
    | split
    | with_reducible refine State.Keeps.fst ‹_ = (_, _)› ?_

def State.admitKey_scope : Scope := ⟨[.regs, .evf, .recd, .xlt, .hp, .tier, .pwr, .out, .free], some [EVF.ALERT_DRV, EVF.TRACE_DROP, HDR.ERR_INFO0, HDR.ERR_INFO1, HDR.ERR_STAT, HDR.EVT_STAT, MGT.ALARM_SENT, PWR.PWR_WAKE_LATCH, PWR.STATE, REC.ALARM_DROP, REC.HEAD_SEQ, REC.LOST_CNT, REC.OVW_CNT, REC.RSV_USED]⟩
theorem State.admitKey_keeps (s : State) (key : Nat) (node : Nat) : State.Keeps State.admitKey_scope s (State.admitKey s key node).1 := by
  unfold State.admitKey
  (try dsimp only)
  repeat' first
    | with_reducible exact State.Keeps.refl _ _
    | ((with_reducible apply State.Keeps.step (State.putRegistration_keeps ..)); rotate_right; decide)
    | ((with_reducible apply State.Keeps.step (State.refusal_keeps ..)); rotate_right; decide)
    | ((with_reducible apply State.Keeps.step (State.misc_keeps ..)); rotate_right; decide)
    | ((with_reducible apply State.Keeps.step (State.xGet_keeps ..)); rotate_right; decide)
    | with_reducible apply State.Keeps.ite1
    | dsimp only
    | split
    | with_reducible refine State.Keeps.fst ‹_ = (_, _)› ?_

def State.walkBound_scope : Scope := ⟨[.regs, .evf, .recd, .xlt, .hp, .pwr, .out, .free], some [EVF.ALERT_DRV, EVF.TRACE_DROP, HDR.ERR_INFO0, HDR.ERR_INFO1, HDR.ERR_STAT, HDR.EVT_STAT, MGT.ALARM_SENT, PWR.PWR_WAKE_LATCH, PWR.STATE, REC.ALARM_DROP, REC.HEAD_SEQ, REC.LOST_CNT, REC.OVW_CNT, REC.RSV_USED]⟩
theorem State.walkBound_keeps (s : State) (bound : Bool) (tenant : Nat) (h : BitVec 40) (off : Nat) (len : Nat) (write : Bool) : State.Keeps State.walkBound_scope s (State.walkBound s bound tenant h off len write).1 := by
  unfold State.walkBound
  (try dsimp only)
  repeat' first
    | with_reducible exact State.Keeps.refl _ _
    | with_reducible assumption
    | with_reducible apply State.Keeps.ite
    | with_reducible apply State.Keeps.ite1
    | ((with_reducible apply State.Keeps.step (State.misc_keeps ..)); rotate_right; decide)
    | ((with_reducible apply State.Keeps.step (State.checks_keeps ..)); rotate_right; decide)
    | with_reducible refine State.Keeps.fst ‹_ = (_, _)› ?_
    | dsimp only
    | split

def State.walkQueue_scope : Scope := ⟨[.regs, .evf, .recd, .xlt, .hp, .pwr, .out, .free], some [EVF.ALERT_DRV, EVF.TRACE_DROP, HDR.ERR_INFO0, HDR.ERR_INFO1, HDR.ERR_STAT, HDR.EVT_STAT, MGT.ALARM_SENT, PWR.PWR_WAKE_LATCH, PWR.STATE, REC.ALARM_DROP, REC.HEAD_SEQ, REC.LOST_CNT, REC.OVW_CNT, REC.RSV_USED]⟩
theorem State.walkQueue_keeps (s : State) (tenant : Nat) (h : BitVec 40) (off : Nat) (len : Nat) (write : Bool) : State.Keeps State.walkQueue_scope s (State.walkQueue s tenant h off len write).1 := by
  unfold State.walkQueue
  (try dsimp only)
  repeat' first
    | with_reducible exact State.Keeps.refl _ _
    | ((with_reducible apply State.Keeps.step (State.getRegion_keeps ..)); rotate_right; decide)
    | ((with_reducible apply State.Keeps.step (State.checks_keeps ..)); rotate_right; decide)
    | ((with_reducible apply State.Keeps.step (State.misc_keeps ..)); rotate_right; decide)
    | with_reducible apply State.Keeps.ite1
    | with_reducible assumption
    | with_reducible apply State.Keeps.ite
    | ((with_reducible apply State.Keeps.step (State.walkBound_keeps ..)); rotate_right; decide)
    | split
    | dsimp only

def State.invalFor_scope : Scope := ⟨[.xlt, .qe, .out], some []⟩
theorem State.invalFor_keeps (s : State) (a1 : InvalFor) : State.Keeps State.invalFor_scope s (State.invalFor s a1) := by
  unfold State.invalFor
  (try dsimp only)
  repeat' first
    | with_reducible exact State.Keeps.refl _ _
    | ((with_reducible apply State.Keeps.step (State.emit_keeps ..)); rotate_right; decide)
    | fail_if_no_progress ((with_reducible apply State.Keeps.upd); rotate_right; (intro p hp; cases p <;> first | exact absurd (by decide) hp | exact rfl))
    | split

def State.invalDone_scope : Scope := ⟨[.regs, .xlt, .qe, .out], some [XLT.BUSY, XLT.DONE_COUNT]⟩
theorem State.invalDone_keeps (s : State) : State.Keeps State.invalDone_scope s (State.invalDone s) := by
  unfold State.invalDone
  (try dsimp only)
  repeat' first
    | with_reducible exact State.Keeps.refl _ _
    | fail_if_no_progress ((with_reducible apply State.Keeps.upd_xlt); rotate_right; decide)
    | ((with_reducible apply State.Keeps.step (State.invalRun_keeps ..)); rotate_right; decide)
    | ((with_reducible apply State.Keeps.step (State.invalFor_keeps ..)); rotate_right; decide)
    | ((with_reducible apply State.Keeps.step (State.put_keeps ..)); rotate_right; decide)
    | ((with_reducible apply State.Keeps.step (State.incMod_keeps ..)); rotate_right; decide)
    | split

def State.xInstall_scope : Scope := ⟨[.xlt, .free], some []⟩
theorem State.xInstall_keeps (s : State) (e : CacheEntry) : State.Keeps State.xInstall_scope s (State.xInstall s e) := by
  unfold State.xInstall
  (try dsimp only)
  repeat' first
    | with_reducible exact State.Keeps.refl _ _
    | with_reducible apply State.Keeps.ite
    | fail_if_no_progress ((with_reducible apply State.Keeps.upd_xlt); rotate_right; decide)
    | ((with_reducible apply State.Keeps.step (State.useFree_keeps ..)); rotate_right; decide)
    | split

def State.walkShared_scope : Scope := ⟨[.regs, .evf, .recd, .xlt, .hp, .pwr, .out, .free], some [EVF.ALERT_DRV, EVF.TRACE_DROP, HDR.ERR_INFO0, HDR.ERR_INFO1, HDR.ERR_STAT, HDR.EVT_STAT, MGT.ALARM_SENT, PWR.PWR_WAKE_LATCH, PWR.STATE, REC.ALARM_DROP, REC.HEAD_SEQ, REC.LOST_CNT, REC.OVW_CNT, REC.RSV_USED]⟩
theorem State.walkShared_keeps (s : State) (tenant : Nat) (h : BitVec 40) (off : Nat) (len : Nat) : State.Keeps State.walkShared_scope s (State.walkShared s tenant h off len).1 := by
  unfold State.walkShared
  (try dsimp only)
  repeat' first
    | with_reducible exact State.Keeps.refl _ _
    | with_reducible assumption
    | with_reducible apply State.Keeps.ite
    | with_reducible apply State.Keeps.ite1
    | ((with_reducible apply State.Keeps.step (State.walkBound_keeps ..)); rotate_right; decide)
    | dsimp only

def State.targetCheck_scope : Scope := ⟨[.regs, .evf, .recd, .xlt, .hp, .pwr, .out, .free], some [EVF.ALERT_DRV, EVF.TRACE_DROP, HDR.ERR_INFO0, HDR.ERR_INFO1, HDR.ERR_STAT, HDR.EVT_STAT, MGT.ALARM_SENT, PWR.PWR_WAKE_LATCH, PWR.STATE, REC.ALARM_DROP, REC.HEAD_SEQ, REC.LOST_CNT, REC.OVW_CNT, REC.RSV_USED]⟩
theorem State.targetCheck_keeps (s : State) (t : Target) (dpa : Nat) : State.Keeps State.targetCheck_scope s (State.targetCheck s t dpa).1 := by
  unfold State.targetCheck
  (try dsimp only)
  repeat' first
    | with_reducible exact State.Keeps.refl _ _
    | with_reducible assumption
    | with_reducible apply State.Keeps.ite
    | with_reducible apply State.Keeps.ite1
    | ((with_reducible apply State.Keeps.step (State.xGet_keeps ..)); rotate_right; decide)
    | with_reducible refine State.Keeps.fst ‹_ = (_, _)› ?_
    | dsimp only
    | split

end Sys2Proof.Machine
end

