-- ==== Sys2Proof/Laws/KeepTierOps.lean ====
section
/-! SUPPORT. What each operation of Machine/TierOps.lean keeps: the parts of State it can change are those listed. -/
set_option linter.unusedTactic false
set_option linter.unreachableTactic false
namespace Sys2Proof.Machine

def State.mirrorSend_scope : Scope := ⟨[.twn, .out], some []⟩
theorem State.mirrorSend_keeps (s : State) (region : Nat) (grp : Nat) (cls : Nat) (n : Nat) (stamp : Nat) (v : SectorVal) (port : Option (Nat × Nat)) : State.Keeps State.mirrorSend_scope s (State.mirrorSend s region grp cls n stamp v port).1 := by
  unfold State.mirrorSend
  (try dsimp only)
  repeat' first
    | with_reducible exact State.Keeps.refl _ _
    | with_reducible apply State.Keeps.ite
    | fail_if_no_progress ((with_reducible apply State.Keeps.upd_twn); rotate_right; decide)
    | ((with_reducible apply State.Keeps.step (State.emit_keeps ..)); rotate_right; decide)
    | with_reducible apply State.Keeps.ite1
    | with_reducible assumption
    | ((with_reducible apply State.Keeps.step (State.laneJoin_twin_keeps ..)); rotate_right; decide)
    | dsimp only

def State.rsmMark_scope : Scope := ⟨[.twn], some []⟩
theorem State.rsmMark_keeps (s : State) (p : Nat) : State.Keeps State.rsmMark_scope s (State.rsmMark s p) := by
  unfold State.rsmMark
  (try dsimp only)
  repeat' first
    | with_reducible exact State.Keeps.refl _ _
    | with_reducible apply State.Keeps.ite
    | fail_if_no_progress ((with_reducible apply State.Keeps.upd_twn); rotate_right; decide)

def State.bitternStale_scope : Scope := ⟨[.tier], some []⟩
theorem State.bitternStale_keeps (s : State) (u : Nat) : State.Keeps State.bitternStale_scope s (State.bitternStale s u) := by
  unfold State.bitternStale
  (try dsimp only)
  repeat' first
    | with_reducible exact State.Keeps.refl _ _
    | fail_if_no_progress ((with_reducible apply State.Keeps.upd_tier); rotate_right; decide)

def State.putBlock_scope : Scope := ⟨[.tier], some []⟩
theorem State.putBlock_keeps (s : State) (p : Nat) (b : TBlock) : State.Keeps State.putBlock_scope s (State.putBlock s p b) := by
  unfold State.putBlock
  (try dsimp only)
  repeat' first
    | with_reducible exact State.Keeps.refl _ _
    | fail_if_no_progress ((with_reducible apply State.Keeps.upd_tier); rotate_right; decide)

def State.startRise_scope : Scope := ⟨[.regs, .tier, .pan, .dmc, .flm, .out], some [PAN.WB_CNT]⟩
theorem State.startRise_keeps (s : State) (p : Nat) (region : Nat) (first : Nat) (whole : Bool) (zero : Bool) (charge : Option Nat) (pins : List Nat) : State.Keeps State.startRise_scope s (State.startRise s p region first whole zero charge pins) := by
  unfold State.startRise
  (try dsimp only)
  repeat' first
    | with_reducible exact State.Keeps.refl _ _
    | with_reducible assumption
    | with_reducible apply State.Keeps.ite
    | ((with_reducible apply State.Keeps.step (State.putBlock_keeps ..)); rotate_right; decide)
    | ((with_reducible apply State.Keeps.step (State.emit_keeps ..)); rotate_right; decide)
    | ((with_reducible apply State.Keeps.step (State.panZero_keeps ..)); rotate_right; decide)
    | ((with_reducible apply State.Keeps.step (State.t2Ask_keeps ..)); rotate_right; decide)
    | ((with_reducible apply State.Keeps.foldl1); rotate_right; intro _ _ _; rotate_left)
    | ((with_reducible apply State.Keeps.foldl); rotate_right; intro _ _ _; rotate_left)

def State.uncharge_scope : Scope := ⟨[.tier], some []⟩
theorem State.uncharge_keeps (s : State) (t : Option Nat) : State.Keeps State.uncharge_scope s (State.uncharge s t) := by
  unfold State.uncharge
  (try dsimp only)
  repeat' first
    | with_reducible exact State.Keeps.refl _ _
    | ((with_reducible apply State.Keeps.step (State.putQuota_keeps ..)); rotate_right; decide)
    | split

def State.grantFrames_scope : Scope := ⟨[.regs, .tier, .pan, .dmc, .flm, .out], some [PAN.WB_CNT]⟩
theorem State.grantFrames_keeps (a0 : Nat) (a1 : State) : State.Keeps State.grantFrames_scope a1 (State.grantFrames a0 a1) := by
  induction a0 generalizing a1 with
  | zero => exact State.Keeps.refl _ _
  | succ _ ih =>
   unfold State.grantFrames
   (try dsimp only)
   repeat' first
    | ((with_reducible apply State.Keeps.step (ih ..)); rotate_right; decide)
    | with_reducible exact State.Keeps.refl _ _
    | with_reducible apply State.Keeps.ite
    | fail_if_no_progress ((with_reducible apply State.Keeps.upd_tier); rotate_right; decide)
    | ((with_reducible apply State.Keeps.step (State.startRise_keeps ..)); rotate_right; decide)
    | ((with_reducible apply State.Keeps.step (State.putBlock_keeps ..)); rotate_right; decide)
    | ((with_reducible apply State.Keeps.step (State.uncharge_keeps ..)); rotate_right; decide)
    | with_reducible assumption
    | with_reducible refine State.Keeps.fst ‹_ = (_, _)› ?_
    | split

def State.frameDrop_scope : Scope := ⟨[.tier], some []⟩
theorem State.frameDrop_keeps (s : State) (p : Nat) : State.Keeps State.frameDrop_scope s (State.frameDrop s p) := by
  unfold State.frameDrop
  (try dsimp only)
  repeat' first
    | with_reducible exact State.Keeps.refl _ _
    | fail_if_no_progress ((with_reducible apply State.Keeps.upd_tier); rotate_right; decide)

def State.freeBlock_scope : Scope := ⟨[.regs, .tier, .pan, .dmc, .flm, .out], some [PAN.WB_CNT]⟩
theorem State.freeBlock_keeps (s : State) (p : Nat) : State.Keeps State.freeBlock_scope s (State.freeBlock s p) := by
  unfold State.freeBlock
  (try dsimp only)
  repeat' first
    | with_reducible exact State.Keeps.refl _ _
    | fail_if_no_progress ((with_reducible apply State.Keeps.upd_tier); rotate_right; decide)
    | ((with_reducible apply State.Keeps.step (State.grantFrames_keeps ..)); rotate_right; decide)
    | ((with_reducible apply State.Keeps.step (State.frameDrop_keeps ..)); rotate_right; decide)
    | ((with_reducible apply State.Keeps.step (State.uncharge_keeps ..)); rotate_right; decide)
    | split

def State.settle_scope : Scope := ⟨[.tier], some []⟩
theorem State.settle_keeps (s : State) (p : Nat) : State.Keeps State.settle_scope s (State.settle s p) := by
  unfold State.settle
  (try dsimp only)
  repeat' first
    | with_reducible exact State.Keeps.refl _ _
    | with_reducible apply State.Keeps.ite
    | ((with_reducible apply State.Keeps.step (State.uncharge_keeps ..)); rotate_right; decide)
    | ((with_reducible apply State.Keeps.step (State.putBlock_keeps ..)); rotate_right; decide)
    | split

def State.dropPin_scope : Scope := ⟨[.tier], some []⟩
theorem State.dropPin_keeps (s : State) (p : Nat) (t : Nat) : State.Keeps State.dropPin_scope s (State.dropPin s p t) := by
  unfold State.dropPin
  (try dsimp only)
  repeat' first
    | with_reducible exact State.Keeps.refl _ _
    | with_reducible apply State.Keeps.ite
    | ((with_reducible apply State.Keeps.step (State.putBlock_keeps ..)); rotate_right; decide)
    | ((with_reducible apply State.Keeps.step (State.settle_keeps ..)); rotate_right; decide)
    | ((with_reducible apply State.Keeps.step (State.putQuota_keeps ..)); rotate_right; decide)
    | ((with_reducible apply State.Keeps.step (State.uncharge_keeps ..)); rotate_right; decide)
    | split

def State.startLeave_scope : Scope := ⟨[.tier], some []⟩
theorem State.startLeave_keeps (s : State) (p : Nat) : State.Keeps State.startLeave_scope s (State.startLeave s p) := by
  unfold State.startLeave
  (try dsimp only)
  repeat' first
    | with_reducible exact State.Keeps.refl _ _
    | ((with_reducible apply State.Keeps.step (State.putBlock_keeps ..)); rotate_right; decide)
    | split

def State.frameWaitDrop_scope : Scope := ⟨[.tier], some []⟩
theorem State.frameWaitDrop_keeps (s : State) (gone : FrameWait → Bool) : State.Keeps State.frameWaitDrop_scope s (State.frameWaitDrop s gone) := by
  unfold State.frameWaitDrop
  (try dsimp only)
  repeat' first
    | with_reducible exact State.Keeps.refl _ _
    | with_reducible assumption
    | with_reducible apply State.Keeps.ite
    | fail_if_no_progress ((with_reducible apply State.Keeps.upd_tier); rotate_right; decide)
    | ((with_reducible apply State.Keeps.step (State.uncharge_keeps ..)); rotate_right; decide)
    | ((with_reducible apply State.Keeps.foldl); rotate_right; intro _ _ _; rotate_left)

def State.evictBlock_scope : Scope := ⟨[.tier], some []⟩
theorem State.evictBlock_keeps (s : State) (t : Nat) (p : Nat) : State.Keeps State.evictBlock_scope s (State.evictBlock s t p).1 := by
  unfold State.evictBlock
  (try dsimp only)
  repeat' first
    | with_reducible exact State.Keeps.refl _ _
    | with_reducible apply State.Keeps.ite
    | fail_if_no_progress ((with_reducible apply State.Keeps.upd_tier); rotate_right; decide)
    | ((with_reducible apply State.Keeps.step (State.dropPin_keeps ..)); rotate_right; decide)
    | ((with_reducible apply State.Keeps.step (State.startLeave_keeps ..)); rotate_right; decide)
    | ((with_reducible apply State.Keeps.step (State.putBlock_keeps ..)); rotate_right; decide)
    | with_reducible apply State.Keeps.ite1
    | with_reducible assumption
    | ((with_reducible apply State.Keeps.step (State.frameWaitDrop_keeps ..)); rotate_right; decide)
    | with_reducible refine State.Keeps.fst ‹_ = (_, _)› ?_
    | dsimp only
    | split

def State.refill_scope : Scope := ⟨[.tier, .flm, .out], some []⟩
theorem State.refill_keeps (s : State) (p : Nat) (u : Nat) : State.Keeps State.refill_scope s (State.refill s p u) := by
  unfold State.refill
  (try dsimp only)
  repeat' first
    | with_reducible exact State.Keeps.refl _ _
    | with_reducible apply State.Keeps.ite
    | ((with_reducible apply State.Keeps.step (State.putBlock_keeps ..)); rotate_right; decide)
    | ((with_reducible apply State.Keeps.step (State.emit_keeps ..)); rotate_right; decide)
    | with_reducible assumption
    | ((with_reducible apply State.Keeps.step (State.t2Ask_keeps ..)); rotate_right; decide)
    | with_reducible refine State.Keeps.fst ‹_ = (_, _)› ?_
    | split

def State.charge_scope : Scope := ⟨[.regs, .evf, .recd, .hp, .tier, .pwr, .out, .free], some [EVF.ALERT_DRV, EVF.TRACE_DROP, HDR.ERR_INFO0, HDR.ERR_INFO1, HDR.ERR_STAT, HDR.EVT_STAT, MGT.ALARM_SENT, PWR.PWR_WAKE_LATCH, PWR.STATE, REC.ALARM_DROP, REC.HEAD_SEQ, REC.LOST_CNT, REC.OVW_CNT, REC.RSV_USED, TIER.QUOTA_REFUSE]⟩
theorem State.charge_keeps (s : State) (t : Nat) : State.Keeps State.charge_scope s (State.charge s t).1 := by
  unfold State.charge
  (try dsimp only)
  repeat' first
    | with_reducible exact State.Keeps.refl _ _
    | ((with_reducible apply State.Keeps.step (State.putQuota_keeps ..)); rotate_right; decide)
    | ((with_reducible apply State.Keeps.step (State.inc_keeps ..)); rotate_right; decide)
    | ((with_reducible apply State.Keeps.step (State.blkErr_keeps ..)); rotate_right; decide)
    | with_reducible apply State.Keeps.ite1

def State.pin_scope : Scope := ⟨[.regs, .evf, .recd, .hp, .tier, .pan, .pwr, .dmc, .flm, .out, .free], some [EVF.ALERT_DRV, EVF.TRACE_DROP, HDR.ERR_INFO0, HDR.ERR_INFO1, HDR.ERR_STAT, HDR.EVT_STAT, MGT.ALARM_SENT, PAN.WB_CNT, PWR.PWR_WAKE_LATCH, PWR.STATE, REC.ALARM_DROP, REC.HEAD_SEQ, REC.LOST_CNT, REC.OVW_CNT, REC.RSV_USED, TIER.QUOTA_REFUSE]⟩
theorem State.pin_keeps (s : State) (t : Nat) (p : Nat) (region : Nat) (zero : Bool) : State.Keeps State.pin_scope s (State.pin s t p region zero).1 := by
  unfold State.pin
  (try dsimp only)
  repeat' first
    | with_reducible exact State.Keeps.refl _ _
    | fail_if_no_progress ((with_reducible apply State.Keeps.upd_tier); rotate_right; decide)
    | ((with_reducible apply State.Keeps.step (State.putBlock_keeps ..)); rotate_right; decide)
    | ((with_reducible apply State.Keeps.step (State.charge_keeps ..)); rotate_right; decide)
    | ((with_reducible apply State.Keeps.step (State.blkErr_keeps ..)); rotate_right; decide)
    | ((with_reducible apply State.Keeps.step (State.startRise_keeps ..)); rotate_right; decide)
    | with_reducible apply State.Keeps.ite1
    | with_reducible refine State.Keeps.fst ‹_ = (_, _)› ?_
    | with_reducible assumption
    | with_reducible apply State.Keeps.ite
    | dsimp only
    | split

def State.releaseBlock_scope : Scope := ⟨[.regs, .evf, .recd, .hp, .tier, .pan, .pwr, .dmc, .flm, .out, .free], some [EVF.ALERT_DRV, EVF.TRACE_DROP, HDR.ERR_INFO0, HDR.ERR_INFO1, HDR.ERR_STAT, HDR.EVT_STAT, MGT.ALARM_SENT, PAN.LOCKS_RELEASED, PAN.LOCK_LOST_CNT, PAN.WB_CNT, PWR.PWR_WAKE_LATCH, PWR.STATE, REC.ALARM_DROP, REC.HEAD_SEQ, REC.LOST_CNT, REC.OVW_CNT, REC.RSV_USED]⟩
theorem State.releaseBlock_keeps (s : State) (p : Nat) : State.Keeps State.releaseBlock_scope s (State.releaseBlock s p) := by
  unfold State.releaseBlock
  (try dsimp only)
  repeat' first
    | with_reducible exact State.Keeps.refl _ _
    | with_reducible assumption
    | with_reducible apply State.Keeps.ite
    | ((with_reducible apply State.Keeps.step (State.panRelease_keeps ..)); rotate_right; decide)
    | ((with_reducible apply State.Keeps.step (State.lockEvent_keeps ..)); rotate_right; decide)
    | ((with_reducible apply State.Keeps.step (State.freeBlock_keeps ..)); rotate_right; decide)
    | with_reducible refine State.Keeps.fst ‹_ = (_, _)› ?_
    | split

def State.pinsDrop_scope : Scope := ⟨[.tier], some []⟩
theorem State.pinsDrop_keeps (s : State) (hit : Nat → Bool) : State.Keeps State.pinsDrop_scope s (State.pinsDrop s hit) := by
  unfold State.pinsDrop
  (try dsimp only)
  repeat' first
    | with_reducible exact State.Keeps.refl _ _
    | with_reducible assumption
    | with_reducible apply State.Keeps.ite
    | fail_if_no_progress ((with_reducible apply State.Keeps.upd_tier); rotate_right; decide)
    | ((with_reducible apply State.Keeps.step (State.frameWaitDrop_keeps ..)); rotate_right; decide)
    | ((with_reducible apply State.Keeps.step (State.settle_keeps ..)); rotate_right; decide)
    | ((with_reducible apply State.Keeps.foldl); rotate_right; intro _ _ _; rotate_left)

def State.evictPin_scope : Scope := ⟨[.tier], some []⟩
theorem State.evictPin_keeps (s : State) (t : Nat) (p : Nat) : State.Keeps State.evictPin_scope s (State.evictPin s t p) := by
  unfold State.evictPin
  (try dsimp only)
  repeat' first
    | with_reducible exact State.Keeps.refl _ _
    | with_reducible assumption
    | with_reducible apply State.Keeps.ite
    | ((with_reducible apply State.Keeps.step (State.evictBlock_keeps ..)); rotate_right; decide)

def State.writeGate_scope : Scope := ⟨[.regs, .evf, .recd, .hp, .tier, .pan, .pwr, .dmc, .flm, .out, .free], some [EVF.ALERT_DRV, EVF.TRACE_DROP, HDR.ERR_INFO0, HDR.ERR_INFO1, HDR.ERR_STAT, HDR.EVT_STAT, MGT.ALARM_SENT, PAN.WB_CNT, PWR.PWR_WAKE_LATCH, PWR.STATE, REC.ALARM_DROP, REC.HEAD_SEQ, REC.LOST_CNT, REC.OVW_CNT, REC.RSV_USED, TIER.QUOTA_REFUSE]⟩
theorem State.writeGate_keeps (s : State) (w : WriteReq) : State.Keeps State.writeGate_scope s (State.writeGate s w).1 := by
  unfold State.writeGate
  (try dsimp only)
  repeat' first
    | with_reducible exact State.Keeps.refl _ _
    | fail_if_no_progress ((with_reducible apply State.Keeps.upd_tier); rotate_right; decide)
    | ((with_reducible apply State.Keeps.step (State.putBlock_keeps ..)); rotate_right; decide)
    | ((with_reducible apply State.Keeps.step (State.charge_keeps ..)); rotate_right; decide)
    | ((with_reducible apply State.Keeps.step (State.startRise_keeps ..)); rotate_right; decide)
    | ((with_reducible apply State.Keeps.step (State.refill_keeps ..)); rotate_right; decide)
    | with_reducible apply State.Keeps.ite1
    | with_reducible refine State.Keeps.fst ‹_ = (_, _)› ?_
    | with_reducible assumption
    | with_reducible apply State.Keeps.ite
    | dsimp only
    | split

def State.bitternPut_scope : Scope := ⟨[.tier, .free], some []⟩
theorem State.bitternPut_keeps (s : State) (u : Nat) (b : BUnit) : State.Keeps State.bitternPut_scope s (State.bitternPut s u b) := by
  unfold State.bitternPut
  (try dsimp only)
  repeat' first
    | with_reducible exact State.Keeps.refl _ _
    | with_reducible apply State.Keeps.ite
    | fail_if_no_progress ((with_reducible apply State.Keeps.upd_tier); rotate_right; decide)
    | ((with_reducible apply State.Keeps.step (State.useFree_keeps ..)); rotate_right; decide)
    | split

def State.t2Write_scope : Scope := ⟨[.flm], some []⟩
theorem State.t2Write_keeps (s : State) (n : Nat) (v : SectorVal) : State.Keeps State.t2Write_scope s (State.t2Write s n v) := by
  unfold State.t2Write
  (try dsimp only)
  repeat' first
    | with_reducible exact State.Keeps.refl _ _
    | fail_if_no_progress ((with_reducible apply State.Keeps.upd_flm); rotate_right; decide)

def State.grade_scope : Scope := ⟨[.regs, .evf, .recd, .hp, .tier, .pwr, .dmc, .out, .free], some [EVF.ALERT_DRV, EVF.TRACE_DROP, HDR.ERR_INFO0, HDR.ERR_INFO1, HDR.ERR_STAT, HDR.EVT_STAT, MGT.ALARM_SENT, PWR.PWR_WAKE_LATCH, PWR.STATE, REC.ALARM_DROP, REC.HEAD_SEQ, REC.LOST_CNT, REC.OVW_CNT, REC.RSV_USED]⟩
theorem State.grade_keeps (s : State) (u : Nat) (region : Nat) : State.Keeps State.grade_scope s (State.grade s u region) := by
  unfold State.grade
  (try dsimp only)
  repeat' first
    | with_reducible exact State.Keeps.refl _ _
    | with_reducible apply State.Keeps.ite
    | ((with_reducible apply State.Keeps.step (State.bitternPut_keeps ..)); rotate_right; decide)
    | with_reducible assumption
    | ((with_reducible apply State.Keeps.step (State.useFree_keeps ..)); rotate_right; decide)
    | ((with_reducible apply State.Keeps.step (State.bitternStale_keeps ..)); rotate_right; decide)
    | ((with_reducible apply State.Keeps.step (State.blkErr_keeps ..)); rotate_right; decide)
    | with_reducible refine State.Keeps.fst ‹_ = (_, _)› ?_
    | ((with_reducible apply State.Keeps.step (State.memAccept_keeps ..)); rotate_right; decide)
    | split

def State.unitArrive_scope : Scope := ⟨[.regs, .evf, .recd, .hp, .tier, .pwr, .dmc, .out, .free], some [EVF.ALERT_DRV, EVF.TRACE_DROP, HDR.ERR_INFO0, HDR.ERR_INFO1, HDR.ERR_STAT, HDR.EVT_STAT, MGT.ALARM_SENT, PWR.PWR_WAKE_LATCH, PWR.STATE, REC.ALARM_DROP, REC.HEAD_SEQ, REC.LOST_CNT, REC.OVW_CNT, REC.RSV_USED]⟩
theorem State.unitArrive_keeps (s : State) (p : Nat) (u : Nat) (b : TBlock) : State.Keeps State.unitArrive_scope s (State.unitArrive s p u b) := by
  unfold State.unitArrive
  (try dsimp only)
  repeat' first
    | with_reducible exact State.Keeps.refl _ _
    | with_reducible assumption
    | ((with_reducible apply State.Keeps.step (State.putBlock_keeps ..)); rotate_right; decide)
    | ((with_reducible apply State.Keeps.step (State.grade_keeps ..)); rotate_right; decide)
    | ((with_reducible apply State.Keeps.step (State.frameWrite_keeps ..)); rotate_right; decide)
    | ((with_reducible apply State.Keeps.foldl); rotate_right; intro _ _ _; rotate_left)
    | with_reducible apply State.Keeps.ite

def State.fillEnd_scope : Scope := ⟨[.tier], some []⟩
theorem State.fillEnd_keeps (s : State) (p : Nat) : State.Keeps State.fillEnd_scope s (State.fillEnd s p) := by
  unfold State.fillEnd
  (try dsimp only)
  repeat' first
    | with_reducible exact State.Keeps.refl _ _
    | with_reducible apply State.Keeps.ite
    | ((with_reducible apply State.Keeps.step (State.putBlock_keeps ..)); rotate_right; decide)
    | split

def State.acceptWrite_scope : Scope := ⟨[.regs, .xlt, .tier, .pan, .twn, .dmc, .out], some [PAN.WB_CNT]⟩
theorem State.acceptWrite_keeps (s : State) (w : WriteReq) : State.Keeps State.acceptWrite_scope s (State.acceptWrite s w).1 := by
  unfold State.acceptWrite
  (try dsimp only)
  repeat' first
    | with_reducible exact State.Keeps.refl _ _
    | with_reducible apply State.Keeps.ite
    | ((with_reducible apply State.Keeps.step (State.mirrorSend_keeps ..)); rotate_right; decide)
    | ((with_reducible apply State.Keeps.step (State.rsmMark_keeps ..)); rotate_right; decide)
    | ((with_reducible apply State.Keeps.step (State.clearZero_keeps ..)); rotate_right; decide)
    | ((with_reducible apply State.Keeps.step (State.panWrite_keeps ..)); rotate_right; decide)
    | ((with_reducible apply State.Keeps.step (State.bitternStale_keeps ..)); rotate_right; decide)
    | ((with_reducible apply State.Keeps.step (State.putBlock_keeps ..)); rotate_right; decide)
    | with_reducible assumption
    | with_reducible apply State.Keeps.ite1
    | ((with_reducible apply State.Keeps.step (State.fillEnd_keeps ..)); rotate_right; decide)
    | with_reducible refine State.Keeps.fst ‹_ = (_, _)› ?_
    | ((with_reducible apply State.Keeps.step (State.panZero_keeps ..)); rotate_right; decide)
    | split
    | dsimp only

def State.tryWrite_scope : Scope := ⟨[.regs, .evf, .recd, .xlt, .hp, .tier, .pan, .twn, .pwr, .dmc, .flm, .out, .free], some [EVF.ALERT_DRV, EVF.TRACE_DROP, HDR.ERR_INFO0, HDR.ERR_INFO1, HDR.ERR_STAT, HDR.EVT_STAT, MGT.ALARM_SENT, PAN.WB_CNT, PWR.PWR_WAKE_LATCH, PWR.STATE, REC.ALARM_DROP, REC.HEAD_SEQ, REC.LOST_CNT, REC.OVW_CNT, REC.RSV_USED, TIER.QUOTA_REFUSE]⟩
theorem State.tryWrite_keeps (s : State) (w : WriteReq) : State.Keeps State.tryWrite_scope s (State.tryWrite s w).1 := by
  unfold State.tryWrite
  (try dsimp only)
  repeat' first
    | with_reducible exact State.Keeps.refl _ _
    | ((with_reducible apply State.Keeps.step (State.acceptWrite_keeps ..)); rotate_right; decide)
    | ((with_reducible apply State.Keeps.step (State.writeGate_keeps ..)); rotate_right; decide)
    | with_reducible apply State.Keeps.ite1
    | with_reducible refine State.Keeps.fst ‹_ = (_, _)› ?_
    | with_reducible assumption
    | with_reducible apply State.Keeps.ite
    | ((with_reducible apply State.Keeps.step (State.panWake_keeps ..)); rotate_right; decide)
    | ((with_reducible apply State.Keeps.foldl); rotate_right; intro _ _ _; rotate_left)
    | dsimp only
    | split

def State.setT2Stamp_scope : Scope := ⟨[.flm], some []⟩
theorem State.setT2Stamp_keeps (s : State) (u : Nat) (st : Nat) : State.Keeps State.setT2Stamp_scope s (State.setT2Stamp s u st) := by
  unfold State.setT2Stamp
  (try dsimp only)
  repeat' first
    | with_reducible exact State.Keeps.refl _ _
    | fail_if_no_progress ((with_reducible apply State.Keeps.upd_flm); rotate_right; decide)

def State.t2Seal_scope : Scope := ⟨[.flm], some []⟩
theorem State.t2Seal_keeps (s : State) (u : Nat) : State.Keeps State.t2Seal_scope s (State.t2Seal s u) := by
  unfold State.t2Seal
  (try dsimp only)
  repeat' first
    | with_reducible exact State.Keeps.refl _ _
    | with_reducible assumption
    | with_reducible apply State.Keeps.ite
    | fail_if_no_progress ((with_reducible apply State.Keeps.upd_flm); rotate_right; decide)

def State.t2PutUnit_scope : Scope := ⟨[.tier, .flm], some []⟩
theorem State.t2PutUnit_keeps (s : State) (u : Nat) (stamp : Nat) (vals : Table SectorVal) : State.Keeps State.t2PutUnit_scope s (State.t2PutUnit s u stamp vals) := by
  unfold State.t2PutUnit
  (try dsimp only)
  repeat' first
    | with_reducible exact State.Keeps.refl _ _
    | with_reducible assumption
    | ((with_reducible apply State.Keeps.step (State.t2Write_keeps ..)); rotate_right; decide)
    | ((with_reducible apply State.Keeps.step (State.setT2Stamp_keeps ..)); rotate_right; decide)
    | ((with_reducible apply State.Keeps.foldl); rotate_right; intro _ _ _; rotate_left)
    | with_reducible apply State.Keeps.ite
    | ((with_reducible apply State.Keeps.step (State.t2Seal_keeps ..)); rotate_right; decide)
    | ((with_reducible apply State.Keeps.step (State.bitternStale_keeps ..)); rotate_right; decide)

def State.secRewrite_scope : Scope := ⟨[.tier, .pan, .dmc, .flm], some []⟩
theorem State.secRewrite_keeps (s : State) (n : Nat) (v : SectorVal) (port : Nat) : State.Keeps State.secRewrite_scope s (State.secRewrite s n v port) := by
  unfold State.secRewrite
  (try dsimp only)
  repeat' first
    | with_reducible exact State.Keeps.refl _ _
    | with_reducible apply State.Keeps.ite
    | ((with_reducible apply State.Keeps.step (State.t2Write_keeps ..)); rotate_right; decide)
    | ((with_reducible apply State.Keeps.step (State.frameWrite_keeps ..)); rotate_right; decide)
    | ((with_reducible apply State.Keeps.step (State.panPut_keeps ..)); rotate_right; decide)
    | with_reducible assumption
    | ((with_reducible apply State.Keeps.step (State.t2Seal_keeps ..)); rotate_right; decide)
    | ((with_reducible apply State.Keeps.step (State.bitternStale_keeps ..)); rotate_right; decide)
    | with_reducible refine State.Keeps.fst ‹_ = (_, _)› ?_
    | split

end Sys2Proof.Machine
end

