-- ==== Sys2Proof/Laws/KeepHpOps.lean ====
section
/-! SUPPORT. What each operation of Machine/HpOps.lean keeps: the parts of State it can change are those listed. -/
set_option linter.unusedTactic false
set_option linter.unreachableTactic false
namespace Sys2Proof.Machine

def State.putLd_scope : Scope := ⟨[.hp], some []⟩
theorem State.putLd_keeps (s : State) (port : Nat) (ld : Nat) (x : LdState) : State.Keeps State.putLd_scope s (State.putLd s port ld x) := by
  unfold State.putLd
  (try dsimp only)
  repeat' first
    | with_reducible exact State.Keeps.refl _ _
    | fail_if_no_progress ((with_reducible apply State.Keeps.upd_hp); rotate_right; decide)

def State.logEvent_scope : Scope := State.blkErr_scope
theorem State.logEvent_keeps (s : State) (port : Nat) (ld : Nat) (log : Nat) (memModule : Bool) (kind : String) (dpa : Nat) (win : Nat) (st : Nat) : State.Keeps State.logEvent_scope s (State.logEvent s port ld log memModule kind dpa win st) := by
  unfold State.logEvent
  (try dsimp only)
  repeat' first
    | with_reducible exact State.Keeps.refl _ _
    | with_reducible apply State.Keeps.ite
    | ((with_reducible apply State.Keeps.step (State.raiseVector_keeps ..)); rotate_right; decide)
    | ((with_reducible apply State.Keeps.step (State.blkErr_keeps ..)); rotate_right; decide)
    | ((with_reducible apply State.Keeps.step (State.putLd_keeps ..)); rotate_right; decide)

def State.cxlRecord_scope : Scope := State.logEvent_scope
theorem State.cxlRecord_keeps (s : State) (port : Nat) (ld : Nat) (win : Nat) (dpa : Nat) (st : Option Status) : State.Keeps State.cxlRecord_scope s (State.cxlRecord s port ld win dpa st) := by
  unfold State.cxlRecord
  (try dsimp only)
  repeat' first
    | with_reducible exact State.Keeps.refl _ _
    | with_reducible apply State.Keeps.ite
    | ((with_reducible apply State.Keeps.step (State.emit_keeps ..)); rotate_right; decide)
    | ((with_reducible apply State.Keeps.step (State.logEvent_keeps ..)); rotate_right; decide)

def State.cxlSend_scope : Scope := ⟨[.out], some []⟩
theorem State.cxlSend_keeps (s : State) (port : Nat) (ld : Nat) (r : CxlRsp) : State.Keeps State.cxlSend_scope s (State.cxlSend s port ld r) := by
  unfold State.cxlSend
  (try dsimp only)
  repeat' first
    | with_reducible exact State.Keeps.refl _ _
    | ((with_reducible apply State.Keeps.step (State.emit_keeps ..)); rotate_right; decide)

def State.cxlData_scope : Scope := ⟨[.regs, .out], some [HP.POISON_CNT]⟩
theorem State.cxlData_keeps (s : State) (port : Nat) (ld : Nat) (tag : Nat) (v : SectorVal) : State.Keeps State.cxlData_scope s (State.cxlData s port ld tag v) := by
  unfold State.cxlData
  (try dsimp only)
  repeat' first
    | with_reducible exact State.Keeps.refl _ _
    | with_reducible apply State.Keeps.ite
    | ((with_reducible apply State.Keeps.step (State.cxlSend_keeps ..)); rotate_right; decide)
    | ((with_reducible apply State.Keeps.step (State.inc_keeps ..)); rotate_right; decide)

def State.addPoison_scope : Scope := ⟨[.hp], some []⟩
theorem State.addPoison_keeps (s : State) (port : Nat) (ld : Nat) (dpa : Nat) : State.Keeps State.addPoison_scope s (State.addPoison s port ld dpa) := by
  unfold State.addPoison
  (try dsimp only)
  repeat' first
    | with_reducible exact State.Keeps.refl _ _
    | with_reducible apply State.Keeps.ite
    | ((with_reducible apply State.Keeps.step (State.putLd_keeps ..)); rotate_right; decide)

def State.cxlAnswer_scope : Scope := ⟨[.regs, .evf, .recd, .hp, .pwr, .out, .free], some [EVF.ALERT_DRV, EVF.TRACE_DROP, HDR.ERR_INFO0, HDR.ERR_INFO1, HDR.ERR_STAT, HDR.EVT_STAT, HP.POISON_CNT, MGT.ALARM_SENT, PWR.PWR_WAKE_LATCH, PWR.STATE, REC.ALARM_DROP, REC.HEAD_SEQ, REC.LOST_CNT, REC.OVW_CNT, REC.RSV_USED]⟩
theorem State.cxlAnswer_keeps (s : State) (port : Nat) (ld : Nat) (tag : Nat) (win : Nat) (dpa : Nat) (grp : Nat) (r : ReadRes) : State.Keeps State.cxlAnswer_scope s (State.cxlAnswer s port ld tag win dpa grp r) := by
  unfold State.cxlAnswer
  (try dsimp only)
  repeat' first
    | with_reducible exact State.Keeps.refl _ _
    | with_reducible apply State.Keeps.ite
    | ((with_reducible apply State.Keeps.step (State.cxlRecord_keeps ..)); rotate_right; decide)
    | ((with_reducible apply State.Keeps.step (State.cxlData_keeps ..)); rotate_right; decide)
    | ((with_reducible apply State.Keeps.step (State.addPoison_keeps ..)); rotate_right; decide)
    | split

def State.putLink_scope : Scope := ⟨[.hp], some []⟩
theorem State.putLink_keeps (s : State) (port : Nat) (k : Nat) (x : LinkState) : State.Keeps State.putLink_scope s (State.putLink s port k x) := by
  unfold State.putLink
  (try dsimp only)
  repeat' first
    | with_reducible exact State.Keeps.refl _ _
    | fail_if_no_progress ((with_reducible apply State.Keeps.upd_hp); rotate_right; decide)

def State.cxlRefuse_scope : Scope := ⟨[.regs, .evf, .recd, .hp, .pwr, .out, .free], some [EVF.ALERT_DRV, EVF.TRACE_DROP, HDR.ERR_INFO0, HDR.ERR_INFO1, HDR.ERR_STAT, HDR.EVT_STAT, HP.REFUSE_CNT, MGT.ALARM_SENT, PWR.PWR_WAKE_LATCH, PWR.STATE, REC.ALARM_DROP, REC.HEAD_SEQ, REC.LOST_CNT, REC.OVW_CNT, REC.RSV_USED]⟩
theorem State.cxlRefuse_keeps (s : State) (port : Nat) (ld : Nat) (win : Nat) (dpa : Nat) (st : Option Status) : State.Keeps State.cxlRefuse_scope s (State.cxlRefuse s port ld win dpa st) := by
  unfold State.cxlRefuse
  (try dsimp only)
  repeat' first
    | with_reducible exact State.Keeps.refl _ _
    | ((with_reducible apply State.Keeps.step (State.cxlRecord_keeps ..)); rotate_right; decide)
    | ((with_reducible apply State.Keeps.step (State.misc_keeps ..)); rotate_right; decide)
    | ((with_reducible apply State.Keeps.step (State.inc_keeps ..)); rotate_right; decide)

def State.moduleEvent_scope : Scope := State.logEvent_scope
theorem State.moduleEvent_keeps (s : State) (log : Nat) (kind : String) : State.Keeps State.moduleEvent_scope s (State.moduleEvent s log kind) := by
  unfold State.moduleEvent
  (try dsimp only)
  repeat' first
    | with_reducible exact State.Keeps.refl _ _
    | with_reducible assumption
    | ((with_reducible apply State.Keeps.step (State.logEvent_keeps ..)); rotate_right; decide)
    | ((with_reducible apply State.Keeps.foldl); rotate_right; intro _ _ _; rotate_left)

def State.cmpWait_scope : Scope := ⟨[.hp], some []⟩
theorem State.cmpWait_keeps (s : State) (port : Nat) (ld : Nat) (tag : Nat) (mirror : Option Nat) (held : Bool) (foreign : Option Nat) : State.Keeps State.cmpWait_scope s (State.cmpWait s port ld tag mirror held foreign) := by
  unfold State.cmpWait
  (try dsimp only)
  repeat' first
    | with_reducible exact State.Keeps.refl _ _
    | fail_if_no_progress ((with_reducible apply State.Keeps.upd_hp); rotate_right; decide)

end Sys2Proof.Machine
end

