-- ==== Sys2Proof/Laws/KeepReadOps.lean ====
section
/-! SUPPORT. What each operation of Machine/ReadOps.lean keeps: the parts of State it can change are those listed. -/
set_option linter.unusedTactic false
set_option linter.unreachableTactic false
namespace Sys2Proof.Machine

def ReadWant.wait_scope : Scope := ⟨[.tier], some []⟩
theorem ReadWant.wait_keeps (w : ReadWant) (s : State) (noFrame : Bool) (panStall : Bool) : State.Keeps ReadWant.wait_scope s (ReadWant.wait w s noFrame panStall) := by
  unfold ReadWant.wait
  (try dsimp only)
  repeat' first
    | with_reducible exact State.Keeps.refl _ _
    | fail_if_no_progress ((with_reducible apply State.Keeps.upd_tier); rotate_right; decide)
    | with_reducible assumption
    | with_reducible apply State.Keeps.ite

def State.cmdResult_scope : Scope := ⟨[.qe], some []⟩
theorem State.cmdResult_keeps (s : State) (q : Nat) (c : Nat) (r : CmdResult) : State.Keeps State.cmdResult_scope s (State.cmdResult s q c r) := by
  unfold State.cmdResult
  (try dsimp only)
  repeat' first
    | with_reducible exact State.Keeps.refl _ _
    | fail_if_no_progress ((with_reducible apply State.Keeps.upd_qe); rotate_right; decide)

def State.readPresent_scope : Scope := ⟨[.regs, .tier, .pan, .dmc], some [PAN.HIT_CNT, PAN.MISS_CNT, PAN.WB_CNT]⟩
theorem State.readPresent_keeps (s : State) (w : ReadWant) : State.Keeps State.readPresent_scope s (State.readPresent s w).1 := by
  unfold State.readPresent
  (try dsimp only)
  repeat' first
    | with_reducible exact State.Keeps.refl _ _
    | ((with_reducible apply State.Keeps.step (State.panTouch_keeps ..)); rotate_right; decide)
    | ((with_reducible apply State.Keeps.step (State.train_keeps ..)); rotate_right; decide)
    | with_reducible assumption
    | with_reducible apply State.Keeps.ite
    | with_reducible apply State.Keeps.ite1
    | with_reducible refine State.Keeps.fst ‹_ = (_, _)› ?_
    | split
    | dsimp only

def State.schedMod_scope : Scope := ⟨[.tier], some []⟩
theorem State.schedMod_keeps (s : State) (t : Nat) (tag : Nat) (f : Schedule → Schedule) : State.Keeps State.schedMod_scope s (State.schedMod s t tag f) := by
  unfold State.schedMod
  (try dsimp only)
  repeat' first
    | with_reducible exact State.Keeps.refl _ _
    | fail_if_no_progress ((with_reducible apply State.Keeps.upd_tier); rotate_right; decide)

def State.sluMark_scope : Scope := ⟨[.regs, .tier], some [TIER.MISSED, TIER.ON_TIME]⟩
theorem State.sluMark_keeps (s : State) (t : Nat) (tag : Nat) (i : Nat) (st : SluState) : State.Keeps State.sluMark_scope s (State.sluMark s t tag i st) := by
  unfold State.sluMark
  (try dsimp only)
  repeat' first
    | with_reducible exact State.Keeps.refl _ _
    | ((with_reducible apply State.Keeps.step (State.incMod_keeps ..)); rotate_right; decide)
    | ((with_reducible apply State.Keeps.step (State.schedMod_keeps ..)); rotate_right; decide)
    | split

def State.sluSettle_scope : Scope := ⟨[.qe, .tier], some []⟩
theorem State.sluSettle_keeps (s : State) (t : Nat) (tag : Nat) : State.Keeps State.sluSettle_scope s (State.sluSettle s t tag) := by
  unfold State.sluSettle
  (try dsimp only)
  repeat' first
    | with_reducible exact State.Keeps.refl _ _
    | with_reducible apply State.Keeps.ite
    | fail_if_no_progress ((with_reducible apply State.Keeps.upd_tier); rotate_right; decide)
    | ((with_reducible apply State.Keeps.step (State.cmdResult_keeps ..)); rotate_right; decide)
    | ((with_reducible apply State.Keeps.step (State.schedMod_keeps ..)); rotate_right; decide)
    | split

def State.sluSweep_scope : Scope := ⟨[.qe, .tier], some []⟩
theorem State.sluSweep_keeps (s : State) : State.Keeps State.sluSweep_scope s (State.sluSweep s) := by
  unfold State.sluSweep
  (try dsimp only)
  repeat' first
    | with_reducible exact State.Keeps.refl _ _
    | with_reducible assumption
    | with_reducible apply State.Keeps.ite
    | ((with_reducible apply State.Keeps.step (State.sluSettle_keeps ..)); rotate_right; decide)
    | ((with_reducible apply State.Keeps.foldl); rotate_right; intro _ _ _; rotate_left)

def State.sluEligible_scope : Scope := ⟨[.regs, .evf, .recd, .hp, .qe, .tier, .pan, .pwr, .dmc, .flm, .out, .free], some [EVF.ALERT_DRV, EVF.TRACE_DROP, HDR.ERR_INFO0, HDR.ERR_INFO1, HDR.ERR_STAT, HDR.EVT_STAT, MGT.ALARM_SENT, PAN.WB_CNT, PWR.PWR_WAKE_LATCH, PWR.STATE, REC.ALARM_DROP, REC.HEAD_SEQ, REC.LOST_CNT, REC.OVW_CNT, REC.RSV_USED, TIER.MISSED, TIER.ON_TIME, TIER.QUOTA_REFUSE]⟩
theorem State.sluEligible_keeps (s : State) (t : Nat) (tag : Nat) (i : Nat) : State.Keeps State.sluEligible_scope s (State.sluEligible s t tag i) := by
  unfold State.sluEligible
  (try dsimp only)
  repeat' first
    | with_reducible exact State.Keeps.refl _ _
    | with_reducible assumption
    | with_reducible apply State.Keeps.ite
    | ((with_reducible apply State.Keeps.step (State.sluMark_keeps ..)); rotate_right; decide)
    | ((with_reducible apply State.Keeps.step (State.sluSettle_keeps ..)); rotate_right; decide)
    | ((with_reducible apply State.Keeps.step (State.pin_keeps ..)); rotate_right; decide)
    | ((with_reducible apply State.Keeps.step (State.schedMod_keeps ..)); rotate_right; decide)
    | ((with_reducible apply State.Keeps.foldl1); rotate_right; intro _ _ _; rotate_left)
    | dsimp only
    | split
    | with_reducible refine State.Keeps.fst ‹_ = (_, _)› ?_

def State.sluRead_scope : Scope := State.sluEligible_scope
theorem State.sluRead_keeps (s : State) (t : Nat) (pbn : Nat) : State.Keeps State.sluRead_scope s (State.sluRead s t pbn) := by
  unfold State.sluRead
  (try dsimp only)
  repeat' first
    | with_reducible exact State.Keeps.refl _ _
    | with_reducible assumption
    | with_reducible apply State.Keeps.ite
    | ((with_reducible apply State.Keeps.step (State.schedMod_keeps ..)); rotate_right; decide)
    | ((with_reducible apply State.Keeps.step (State.sluEligible_keeps ..)); rotate_right; decide)
    | ((with_reducible apply State.Keeps.foldl); rotate_right; intro _ _ _; rotate_left)
    | split

def State.sample_scope : Scope := ⟨[.twn, .out], some []⟩
theorem State.sample_keeps (s : State) (n : Nat) : State.Keeps State.sample_scope s (State.sample s n) := by
  unfold State.sample
  (try dsimp only)
  repeat' first
    | with_reducible exact State.Keeps.refl _ _
    | with_reducible apply State.Keeps.ite
    | fail_if_no_progress ((with_reducible apply State.Keeps.upd_twn); rotate_right; decide)
    | ((with_reducible apply State.Keeps.step (State.emit_keeps ..)); rotate_right; decide)

def State.setRead_scope : Scope := ⟨[.tier], some []⟩
theorem State.setRead_keeps (s : State) (id : Nat) (f : WaitRead → WaitRead) : State.Keeps State.setRead_scope s (State.setRead s id f) := by
  unfold State.setRead
  (try dsimp only)
  repeat' first
    | with_reducible exact State.Keeps.refl _ _
    | fail_if_no_progress ((with_reducible apply State.Keeps.upd_tier); rotate_right; decide)

def State.dropRead_scope : Scope := ⟨[.tier], some []⟩
theorem State.dropRead_keeps (s : State) (id : Nat) : State.Keeps State.dropRead_scope s (State.dropRead s id) := by
  unfold State.dropRead
  (try dsimp only)
  repeat' first
    | with_reducible exact State.Keeps.refl _ _
    | fail_if_no_progress ((with_reducible apply State.Keeps.upd_tier); rotate_right; decide)

def State.substitute_scope : Scope := ⟨[.regs, .evf, .recd, .hp, .tier, .pwr, .out, .free], some [EVF.ALERT_DRV, EVF.TRACE_DROP, HDR.ERR_INFO0, HDR.ERR_INFO1, HDR.ERR_STAT, HDR.EVT_STAT, MGT.ALARM_SENT, PWR.PWR_WAKE_LATCH, PWR.STATE, REC.ALARM_DROP, REC.HEAD_SEQ, REC.LOST_CNT, REC.OVW_CNT, REC.RSV_USED, TIER.SUBST]⟩
theorem State.substitute_keeps (s : State) (region : Nat) (n : Nat) : State.Keeps State.substitute_scope s (State.substitute s region n).1 := by
  unfold State.substitute
  (try dsimp only)
  repeat' first
    | with_reducible exact State.Keeps.refl _ _
    | with_reducible apply State.Keeps.ite
    | fail_if_no_progress ((with_reducible apply State.Keeps.upd_tier); rotate_right; decide)
    | ((with_reducible apply State.Keeps.step (State.occur_keeps ..)); rotate_right; decide)
    | ((with_reducible apply State.Keeps.step (State.putQuota_keeps ..)); rotate_right; decide)
    | ((with_reducible apply State.Keeps.step (State.incMod_keeps ..)); rotate_right; decide)
    | with_reducible apply State.Keeps.ite1
    | split

def State.pathFrom_scope : Scope := ⟨[.regs, .evf, .recd, .hp, .tier, .pwr, .flm, .out, .free], some [EVF.ALERT_DRV, EVF.TRACE_DROP, HDR.ERR_INFO0, HDR.ERR_INFO1, HDR.ERR_STAT, HDR.EVT_STAT, MGT.ALARM_SENT, PWR.PWR_WAKE_LATCH, PWR.STATE, REC.ALARM_DROP, REC.HEAD_SEQ, REC.LOST_CNT, REC.OVW_CNT, REC.RSV_USED, TIER.SUBST]⟩
theorem State.pathFrom_keeps (s : State) (r : WaitRead) (k : Nat) : State.Keeps State.pathFrom_scope s (State.pathFrom s r k).1 := by
  unfold State.pathFrom
  (try dsimp only)
  repeat' first
    | with_reducible exact State.Keeps.refl _ _
    | ((with_reducible apply State.Keeps.step (State.setRead_keeps ..)); rotate_right; decide)
    | ((with_reducible apply State.Keeps.step (State.emit_keeps ..)); rotate_right; decide)
    | ((with_reducible apply State.Keeps.step (State.dropRead_keeps ..)); rotate_right; decide)
    | ((with_reducible apply State.Keeps.step (State.substitute_keeps ..)); rotate_right; decide)
    | with_reducible apply State.Keeps.ite1
    | with_reducible refine State.Keeps.fst ‹_ = (_, _)› ?_
    | with_reducible assumption
    | with_reducible apply State.Keeps.ite
    | ((with_reducible apply State.Keeps.step (State.t2Ask_keeps ..)); rotate_right; decide)
    | split
    | dsimp only

def ReadWant.missPoint_scope : Scope := ⟨[.regs, .evf, .recd, .hp, .tier, .pwr, .flm, .out, .free], some [EVF.ALERT_DRV, EVF.TRACE_DROP, HDR.ERR_INFO0, HDR.ERR_INFO1, HDR.ERR_STAT, HDR.EVT_STAT, MGT.ALARM_SENT, PWR.PWR_WAKE_LATCH, PWR.STATE, REC.ALARM_DROP, REC.HEAD_SEQ, REC.LOST_CNT, REC.OVW_CNT, REC.RSV_USED, TIER.SUBST]⟩
theorem ReadWant.missPoint_keeps (w : ReadWant) (s : State) : State.Keeps ReadWant.missPoint_scope s (ReadWant.missPoint w s).1 := by
  unfold ReadWant.missPoint
  (try dsimp only)
  repeat' first
    | with_reducible exact State.Keeps.refl _ _
    | with_reducible assumption
    | with_reducible apply State.Keeps.ite
    | with_reducible apply State.Keeps.ite1
    | ((with_reducible apply State.Keeps.step (State.pathFrom_keeps ..)); rotate_right; decide)
    | with_reducible refine State.Keeps.fst ‹_ = (_, _)› ?_
    | dsimp only
    | split

def State.readStart_scope : Scope := ⟨[.regs, .evf, .recd, .hp, .qe, .tier, .pan, .twn, .pwr, .dmc, .flm, .out, .free], some [EVF.ALERT_DRV, EVF.TRACE_DROP, HDR.ERR_INFO0, HDR.ERR_INFO1, HDR.ERR_STAT, HDR.EVT_STAT, MGT.ALARM_SENT, PAN.HIT_CNT, PAN.MISS_CNT, PAN.WB_CNT, PWR.PWR_WAKE_LATCH, PWR.STATE, REC.ALARM_DROP, REC.HEAD_SEQ, REC.LOST_CNT, REC.OVW_CNT, REC.RSV_USED, TIER.MISSED, TIER.ON_TIME, TIER.QUOTA_REFUSE, TIER.SUBST]⟩
theorem State.readStart_keeps (s : State) (w : ReadWant) : State.Keeps State.readStart_scope s (State.readStart s w).1 := by
  unfold State.readStart
  (try dsimp only)
  repeat' first
    | with_reducible exact State.Keeps.refl _ _
    | ((with_reducible apply State.Keeps.step (State.refill_keeps ..)); rotate_right; decide)
    | ((with_reducible apply State.Keeps.step (ReadWant.wait_keeps ..)); rotate_right; decide)
    | ((with_reducible apply State.Keeps.step (State.readPresent_keeps ..)); rotate_right; decide)
    | ((with_reducible apply State.Keeps.step (State.putBlock_keeps ..)); rotate_right; decide)
    | ((with_reducible apply State.Keeps.step (State.startRise_keeps ..)); rotate_right; decide)
    | ((with_reducible apply State.Keeps.step (State.emit_keeps ..)); rotate_right; decide)
    | ((with_reducible apply State.Keeps.step (State.sluRead_keeps ..)); rotate_right; decide)
    | ((with_reducible apply State.Keeps.step (State.sample_keeps ..)); rotate_right; decide)
    | with_reducible apply State.Keeps.ite1
    | with_reducible assumption
    | with_reducible apply State.Keeps.ite
    | ((with_reducible apply State.Keeps.step (State.panWake_keeps ..)); rotate_right; decide)
    | with_reducible refine State.Keeps.fst ‹_ = (_, _)› ?_
    | ((with_reducible apply State.Keeps.step (ReadWant.missPoint_keeps ..)); rotate_right; decide)
    | ((with_reducible apply State.Keeps.step (State.t2Ask_keeps ..)); rotate_right; decide)
    | split
    | dsimp only

end Sys2Proof.Machine
end

