-- ==== Sys2Proof/Laws/KeepCmnOps.lean ====
section
/-! SUPPORT. What each operation of Machine/CmnOps.lean keeps: the parts of State it can change are those listed. -/
set_option linter.unusedTactic false
set_option linter.unreachableTactic false
namespace Sys2Proof.Machine

def State.putConn_scope : Scope := ⟨[.cmn], some []⟩
theorem State.putConn_keeps (s : State) (i : Nat) (c : Conn) : State.Keeps State.putConn_scope s (State.putConn s i c) := by
  unfold State.putConn
  (try dsimp only)
  repeat' first
    | with_reducible exact State.Keeps.refl _ _
    | fail_if_no_progress ((with_reducible apply State.Keeps.upd_cmn); rotate_right; decide)

def State.sendFrame_scope : Scope := ⟨[.regs, .cmn, .out], some [CMP.TX_FRAMES]⟩
theorem State.sendFrame_keeps (s : State) (op : Nat) (p : Packet) : State.Keeps State.sendFrame_scope s (State.sendFrame s op p) := by
  unfold State.sendFrame
  (try dsimp only)
  repeat' first
    | with_reducible exact State.Keeps.refl _ _
    | ((with_reducible apply State.Keeps.step (State.incMod_keeps ..)); rotate_right; decide)
    | ((with_reducible apply State.Keeps.step (State.emit_keeps ..)); rotate_right; decide)
    | with_reducible assumption
    | with_reducible apply State.Keeps.ite
    | ((with_reducible apply State.Keeps.step (State.laneJoin_cemanor_keeps ..)); rotate_right; decide)

def State.sendCtl_scope : Scope := ⟨[.regs, .cmn, .out], some [CMP.TX_FRAMES]⟩
theorem State.sendCtl_keeps (s : State) (i : Nat) (op : Nat) (path : Option Nat) (fill : Packet → Packet) : State.Keeps State.sendCtl_scope s (State.sendCtl s i op path fill) := by
  unfold State.sendCtl
  (try dsimp only)
  repeat' first
    | with_reducible exact State.Keeps.refl _ _
    | ((with_reducible apply State.Keeps.step (State.putConn_keeps ..)); rotate_right; decide)
    | ((with_reducible apply State.Keeps.step (State.sendFrame_keeps ..)); rotate_right; decide)
    | split

def State.pump_scope : Scope := ⟨[.regs, .evf, .recd, .hp, .cmn, .pwr, .out, .free], some [CMP.TX_FRAMES, EVF.ALERT_DRV, EVF.TRACE_DROP, HDR.ERR_INFO0, HDR.ERR_INFO1, HDR.ERR_STAT, HDR.EVT_STAT, MGT.ALARM_SENT, PWR.PWR_WAKE_LATCH, PWR.STATE, REC.ALARM_DROP, REC.HEAD_SEQ, REC.LOST_CNT, REC.OVW_CNT, REC.RSV_USED]⟩
theorem State.pump_keeps (i : Nat) (a1 : Nat) (a2 : State) : State.Keeps State.pump_scope a2 (State.pump i a1 a2) := by
  induction a1 generalizing a2 with
  | zero => exact State.Keeps.refl _ _
  | succ _ ih =>
   unfold State.pump
   (try dsimp only)
   repeat' first
    | ((with_reducible apply State.Keeps.step (ih ..)); rotate_right; decide)
    | with_reducible exact State.Keeps.refl _ _
    | with_reducible apply State.Keeps.ite
    | ((with_reducible apply State.Keeps.step (State.occur_keeps ..)); rotate_right; decide)
    | ((with_reducible apply State.Keeps.step (State.sendFrame_keeps ..)); rotate_right; decide)
    | ((with_reducible apply State.Keeps.step (State.putConn_keeps ..)); rotate_right; decide)
    | ((with_reducible apply State.Keeps.step (State.blkErr_keeps ..)); rotate_right; decide)
    | split

def State.cmnPump_scope : Scope := State.pump_scope
theorem State.cmnPump_keeps (s : State) (i : Nat) : State.Keeps State.cmnPump_scope s (State.cmnPump s i) := by
  unfold State.cmnPump
  (try dsimp only)
  repeat' first
    | with_reducible exact State.Keeps.refl _ _
    | ((with_reducible apply State.Keeps.step (State.pump_keeps ..)); rotate_right; decide)

def State.modConn_scope : Scope := ⟨[.cmn], some []⟩
theorem State.modConn_keeps (s : State) (i : Nat) (f : Conn → Conn) : State.Keeps State.modConn_scope s (State.modConn s i f) := by
  unfold State.modConn
  (try dsimp only)
  repeat' first
    | with_reducible exact State.Keeps.refl _ _
    | ((with_reducible apply State.Keeps.step (State.putConn_keeps ..)); rotate_right; decide)

def State.msgStart_scope : Scope := State.cmnPump_scope
theorem State.msgStart_keeps (s : State) (i : Nat) (who : InitBy) (read : Bool) (flagged : Bool) (rkey : Nat) (off : Nat) (total : Nat) (pk : Conn → Nat → List TxPkt) : State.Keeps State.msgStart_scope s (State.msgStart s i who read flagged rkey off total pk).1 := by
  unfold State.msgStart
  (try dsimp only)
  repeat' first
    | with_reducible exact State.Keeps.refl _ _
    | ((with_reducible apply State.Keeps.step (State.cmnPump_keeps ..)); rotate_right; decide)
    | ((with_reducible apply State.Keeps.step (State.putConn_keeps ..)); rotate_right; decide)
    | with_reducible apply State.Keeps.ite1

def State.sendRead_scope : Scope := State.cmnPump_scope
theorem State.sendRead_keeps (s : State) (i : Nat) (who : InitBy) (flagged : Bool) (rkey : Nat) (off : Nat) (len : Nat) : State.Keeps State.sendRead_scope s (State.sendRead s i who flagged rkey off len).1 := by
  unfold State.sendRead
  (try dsimp only)
  repeat' first
    | with_reducible exact State.Keeps.refl _ _
    | ((with_reducible apply State.Keeps.step (State.msgStart_keeps ..)); rotate_right; decide)

def State.sendWrite_scope : Scope := State.cmnPump_scope
theorem State.sendWrite_keeps (s : State) (i : Nat) (who : InitBy) (flagged : Bool) (rkey : Nat) (off : Nat) (bytes : List Byte) (poisonAt : Nat → Bool) : State.Keeps State.sendWrite_scope s (State.sendWrite s i who flagged rkey off bytes poisonAt).1 := by
  unfold State.sendWrite
  (try dsimp only)
  repeat' first
    | with_reducible exact State.Keeps.refl _ _
    | ((with_reducible apply State.Keeps.step (State.msgStart_keeps ..)); rotate_right; decide)

def State.respond_scope : Scope := State.cmnPump_scope
theorem State.respond_keeps (s : State) (i : Nat) (grp : Nat) (ps : List TxPkt) : State.Keeps State.respond_scope s (State.respond s i grp ps) := by
  unfold State.respond
  (try dsimp only)
  repeat' first
    | with_reducible exact State.Keeps.refl _ _
    | with_reducible apply State.Keeps.ite
    | ((with_reducible apply State.Keeps.step (State.modConn_keeps ..)); rotate_right; decide)
    | ((with_reducible apply State.Keeps.step (State.cmnPump_keeps ..)); rotate_right; decide)

def State.sendMasked_scope : Scope := State.cmnPump_scope
theorem State.sendMasked_keeps (s : State) (i : Nat) (who : InitBy) (rkey : Nat) (off : Nat) (d : Sector) (en : BitVec 64) (poison : Bool) : State.Keeps State.sendMasked_scope s (State.sendMasked s i who rkey off d en poison).1 := by
  unfold State.sendMasked
  (try dsimp only)
  repeat' first
    | with_reducible exact State.Keeps.refl _ _
    | ((with_reducible apply State.Keeps.step (State.msgStart_keeps ..)); rotate_right; decide)

def State.resend_scope : Scope := ⟨[.regs, .cmn, .out], some [CMP.TX_FRAMES]⟩
theorem State.resend_keeps (s : State) (i : Nat) (psn : Nat) (phase : Bool) : State.Keeps State.resend_scope s (State.resend s i psn phase) := by
  unfold State.resend
  (try dsimp only)
  repeat' first
    | with_reducible exact State.Keeps.refl _ _
    | with_reducible apply State.Keeps.ite
    | ((with_reducible apply State.Keeps.step (State.putConn_keeps ..)); rotate_right; decide)
    | ((with_reducible apply State.Keeps.step (State.sendFrame_keeps ..)); rotate_right; decide)
    | split

end Sys2Proof.Machine
end

