-- ==== Sys2Proof/Laws/KeepQeOps.lean ====
section
/-! SUPPORT. What each operation of Machine/QeOps.lean keeps: the parts of State it can change are those listed. -/
set_option linter.unusedTactic false
set_option linter.unreachableTactic false
namespace Sys2Proof.Machine

def State.raiseSweep_scope : Scope := ⟨[.qe], some []⟩
theorem State.raiseSweep_keeps (s : State) : State.Keeps State.raiseSweep_scope s (State.raiseSweep s) := by
  unfold State.raiseSweep
  (try dsimp only)
  repeat' first
    | with_reducible exact State.Keeps.refl _ _
    | fail_if_no_progress ((with_reducible apply State.Keeps.upd_qe); rotate_right; decide)

def State.modCmd_scope : Scope := ⟨[.qe], some []⟩
theorem State.modCmd_keeps (s : State) (q : Nat) (c : Nat) (f : Cmd → Cmd) : State.Keeps State.modCmd_scope s (State.modCmd s q c f) := by
  unfold State.modCmd
  (try dsimp only)
  repeat' first
    | with_reducible exact State.Keeps.refl _ _
    | fail_if_no_progress ((with_reducible apply State.Keeps.upd_qe); rotate_right; decide)

def State.putQueue_scope : Scope := ⟨[.qe], some []⟩
theorem State.putQueue_keeps (s : State) (q : Nat) (c : QueueCtx) : State.Keeps State.putQueue_scope s (State.putQueue s q c) := by
  unfold State.putQueue
  (try dsimp only)
  repeat' first
    | with_reducible exact State.Keeps.refl _ _
    | fail_if_no_progress ((with_reducible apply State.Keeps.upd_qe); rotate_right; decide)

def State.queueError_scope : Scope := ⟨[.regs, .evf, .recd, .hp, .qe, .pwr, .out, .free], some [EVF.ALERT_DRV, EVF.TRACE_DROP, HDR.ERR_INFO0, HDR.ERR_INFO1, HDR.ERR_STAT, HDR.EVT_STAT, MGT.ALARM_SENT, PWR.PWR_WAKE_LATCH, PWR.STATE, REC.ALARM_DROP, REC.HEAD_SEQ, REC.LOST_CNT, REC.OVW_CNT, REC.RSV_USED]⟩
theorem State.queueError_keeps (s : State) (q : Nat) (reason : Nat) : State.Keeps State.queueError_scope s (State.queueError s q reason) := by
  unfold State.queueError
  (try dsimp only)
  repeat' first
    | with_reducible exact State.Keeps.refl _ _
    | with_reducible apply State.Keeps.ite
    | ((with_reducible apply State.Keeps.step (State.putQueue_keeps ..)); rotate_right; decide)
    | ((with_reducible apply State.Keeps.step (State.misc_keeps ..)); rotate_right; decide)
    | split

def State.barrierIssue_scope : Scope := ⟨[.qe], some []⟩
theorem State.barrierIssue_keeps (s : State) (who : BarrierBy) (regions : List Nat) (inRange : MirrorRec → Bool) (inBlock : Nat → Bool) : State.Keeps State.barrierIssue_scope s (State.barrierIssue s who regions inRange inBlock).1 := by
  unfold State.barrierIssue
  (try dsimp only)
  repeat' first
    | with_reducible exact State.Keeps.refl _ _
    | with_reducible assumption
    | with_reducible apply State.Keeps.ite
    | with_reducible apply State.Keeps.ite1
    | fail_if_no_progress ((with_reducible apply State.Keeps.upd_qe); rotate_right; decide)
    | with_reducible refine State.Keeps.fst ‹_ = (_, _)› ?_
    | dsimp only
    | split

def State.cqWrite_scope : Scope := ⟨[.regs, .evf, .recd, .xlt, .hp, .tier, .pan, .twn, .pwr, .dmc, .flm, .out, .free], some [EVF.ALERT_DRV, EVF.TRACE_DROP, HDR.ERR_INFO0, HDR.ERR_INFO1, HDR.ERR_STAT, HDR.EVT_STAT, MGT.ALARM_SENT, PAN.WB_CNT, PWR.PWR_WAKE_LATCH, PWR.STATE, REC.ALARM_DROP, REC.HEAD_SEQ, REC.LOST_CNT, REC.OVW_CNT, REC.RSV_USED, TIER.QUOTA_REFUSE]⟩
theorem State.cqWrite_keeps (s : State) (c : QueueCtx) (e : CqEntry) : State.Keeps State.cqWrite_scope s (State.cqWrite s c e).1 := by
  unfold State.cqWrite
  (try dsimp only)
  repeat' first
    | with_reducible exact State.Keeps.refl _ _
    | ((with_reducible apply State.Keeps.step (State.tryWrite_keeps ..)); rotate_right; decide)
    | ((with_reducible apply State.Keeps.step (State.resolve_keeps ..)); rotate_right; decide)
    | ((with_reducible apply State.Keeps.step (State.walkQueue_keeps ..)); rotate_right; decide)
    | with_reducible refine State.Keeps.fst ‹_ = (_, _)› ?_
    | with_reducible assumption
    | with_reducible apply State.Keeps.ite
    | with_reducible apply State.Keeps.ite1
    | dsimp only
    | split

def State.done_scope : Scope := ⟨[.qe], some []⟩
theorem State.done_keeps (s : State) (x : Cmd) (r : CmdResult) : State.Keeps State.done_scope s (State.done s x r) := by
  unfold State.done
  (try dsimp only)
  repeat' first
    | with_reducible exact State.Keeps.refl _ _
    | fail_if_no_progress ((with_reducible apply State.Keeps.upd_qe); rotate_right; decide)

def State.placeRead_scope : Scope := ⟨[.regs, .tier, .pan, .dmc], some [PAN.HIT_CNT, PAN.MISS_CNT, PAN.WB_CNT]⟩
theorem State.placeRead_keeps (s : State) (pl : Place64) : State.Keeps State.placeRead_scope s (State.placeRead s pl).1 := by
  unfold State.placeRead
  (try dsimp only)
  repeat' first
    | with_reducible exact State.Keeps.refl _ _
    | with_reducible assumption
    | with_reducible apply State.Keeps.ite
    | with_reducible apply State.Keeps.ite1
    | ((with_reducible apply State.Keeps.step (State.panTouch_keeps ..)); rotate_right; decide)
    | with_reducible refine State.Keeps.fst ‹_ = (_, _)› ?_
    | dsimp only
    | split

def State.fetch_scope : Scope := ⟨[.regs, .evf, .recd, .xlt, .hp, .qe, .tier, .pan, .pwr, .dmc, .out, .free], some [EVF.ALERT_DRV, EVF.TRACE_DROP, HDR.ERR_INFO0, HDR.ERR_INFO1, HDR.ERR_STAT, HDR.EVT_STAT, MGT.ALARM_SENT, PAN.HIT_CNT, PAN.MISS_CNT, PAN.WB_CNT, PWR.PWR_WAKE_LATCH, PWR.STATE, REC.ALARM_DROP, REC.HEAD_SEQ, REC.LOST_CNT, REC.OVW_CNT, REC.RSV_USED]⟩
theorem State.fetch_keeps {l : Scope} {s0 : State} (s : State) (q : Nat) (e : SqEntry) (op : Nat) (k : State → Cmd → State) (hk : ∀ (x0 : State) (x1 : Cmd), State.Keeps l s0 x0 → State.Keeps l s0 (k x0 x1)) (hk0 : State.Keeps l s0 s) (hl : Scope.within State.fetch_scope l = true) :
    State.Keeps l s0 (State.fetch s q e op k) := by
  unfold State.fetch
  (try dsimp only)
  repeat' first
    | with_reducible assumption
    | with_reducible apply hk
    | with_reducible apply State.Keeps.ite
    | fail_if_no_progress ((with_reducible apply State.Keeps.upd_qe); rotate_right; exact Scope.within_contains (m := State.fetch_scope) (by decide) hl)
    | ((with_reducible apply State.Keeps.step (State.done_keeps ..)); rotate_right; exact Scope.within_trans (m := State.fetch_scope) (by first | decide | rfl) hl)
    | ((with_reducible apply State.Keeps.step (State.queueError_keeps ..)); rotate_right; exact Scope.within_trans (m := State.fetch_scope) (by first | decide | rfl) hl)
    | ((with_reducible apply State.Keeps.step (State.resolve_keeps ..)); rotate_right; exact Scope.within_trans (m := State.fetch_scope) (by first | decide | rfl) hl)
    | ((with_reducible apply State.Keeps.step (State.walkQueue_keeps ..)); rotate_right; exact Scope.within_trans (m := State.fetch_scope) (by first | decide | rfl) hl)
    | with_reducible refine State.Keeps.fst ‹_ = (_, _)› ?_
    | with_reducible exact State.Keeps.refl _ _
    | fail_if_no_progress ((with_reducible apply State.Keeps.upd_qe); rotate_right; decide)
    | ((with_reducible apply State.Keeps.step (State.placeRead_keeps ..)); rotate_right; exact Scope.within_trans (m := State.fetch_scope) (by first | decide | rfl) hl)
    | split

def State.modQueue_scope : Scope := ⟨[.qe], some []⟩
theorem State.modQueue_keeps (s : State) (q : Nat) (f : QueueCtx → QueueCtx) : State.Keeps State.modQueue_scope s (State.modQueue s q f) := by
  unfold State.modQueue
  (try dsimp only)
  repeat' first
    | with_reducible exact State.Keeps.refl _ _
    | fail_if_no_progress ((with_reducible apply State.Keeps.upd_qe); rotate_right; decide)

def State.queueSetup_scope : Scope := ⟨[.qe], some []⟩
theorem State.queueSetup_keeps (s : State) (q : Nat) (r : QueueReq) : State.Keeps State.queueSetup_scope s (State.queueSetup s q r) := by
  unfold State.queueSetup
  (try dsimp only)
  repeat' first
    | with_reducible exact State.Keeps.refl _ _
    | with_reducible assumption
    | with_reducible apply State.Keeps.ite
    | ((with_reducible apply State.Keeps.step (State.putQueue_keeps ..)); rotate_right; decide)

def State.pageMapSet_scope : Scope := ⟨[.qe], some []⟩
theorem State.pageMapSet_keeps (s : State) (p : Nat) (l : Nat) (page : Nat) (e : PageReq) : State.Keeps State.pageMapSet_scope s (State.pageMapSet s p l page e) := by
  unfold State.pageMapSet
  (try dsimp only)
  repeat' first
    | with_reducible exact State.Keeps.refl _ _
    | with_reducible assumption
    | with_reducible apply State.Keeps.ite
    | fail_if_no_progress ((with_reducible apply State.Keeps.upd_qe); rotate_right; decide)
    | with_reducible refine State.Keeps.fst ‹_ = (_, _)› ?_
    | split

def State.notify_scope : Scope := ⟨[.hp, .qe, .out], some []⟩
theorem State.notify_keeps (s : State) (q : Nat) : State.Keeps State.notify_scope s (State.notify s q) := by
  unfold State.notify
  (try dsimp only)
  repeat' first
    | with_reducible exact State.Keeps.refl _ _
    | ((with_reducible apply State.Keeps.step (State.putQueue_keeps ..)); rotate_right; decide)
    | ((with_reducible apply State.Keeps.step (State.raiseVector_keeps ..)); rotate_right; decide)
    | split

def State.post_scope : Scope := ⟨[.regs, .evf, .recd, .xlt, .hp, .qe, .tier, .pan, .twn, .pwr, .dmc, .flm, .out, .free], some [EVF.ALERT_DRV, EVF.TRACE_DROP, HDR.ERR_INFO0, HDR.ERR_INFO1, HDR.ERR_STAT, HDR.EVT_STAT, MGT.ALARM_SENT, PAN.WB_CNT, PWR.PWR_WAKE_LATCH, PWR.STATE, REC.ALARM_DROP, REC.HEAD_SEQ, REC.LOST_CNT, REC.OVW_CNT, REC.RSV_USED, TIER.QUOTA_REFUSE]⟩
theorem State.post_keeps (s : State) (x : Cmd) (r : CmdResult) : State.Keeps State.post_scope s (State.post s x r) := by
  unfold State.post
  (try dsimp only)
  repeat' first
    | with_reducible exact State.Keeps.refl _ _
    | with_reducible apply State.Keeps.ite
    | fail_if_no_progress ((with_reducible apply State.Keeps.upd_qe); rotate_right; decide)
    | ((with_reducible apply State.Keeps.step (State.notify_keeps ..)); rotate_right; decide)
    | ((with_reducible apply State.Keeps.step (State.putQueue_keeps ..)); rotate_right; decide)
    | ((with_reducible apply State.Keeps.step (State.emit_keeps ..)); rotate_right; decide)
    | ((with_reducible apply State.Keeps.step (State.queueError_keeps ..)); rotate_right; decide)
    | ((with_reducible apply State.Keeps.step (State.cqWrite_keeps ..)); rotate_right; decide)
    | split
    | with_reducible refine State.Keeps.fst ‹_ = (_, _)› ?_

def State.raiseFail_scope : Scope := ⟨[.qe], some []⟩
theorem State.raiseFail_keeps (s : State) (p : Nat) : State.Keeps State.raiseFail_scope s (State.raiseFail s p) := by
  unfold State.raiseFail
  (try dsimp only)
  repeat' first
    | with_reducible exact State.Keeps.refl _ _
    | with_reducible assumption
    | with_reducible apply State.Keeps.ite
    | fail_if_no_progress ((with_reducible apply State.Keeps.upd_qe); rotate_right; decide)
    | ((with_reducible apply State.Keeps.foldl); rotate_right; intro _ _ _; rotate_left)

end Sys2Proof.Machine
end

