-- ==== Sys2Proof/Laws/KeepMovOps.lean ====
section
/-! SUPPORT. What each operation of Machine/MovOps.lean keeps: the parts of State it can change are those listed. -/
set_option linter.unusedTactic false
set_option linter.unreachableTactic false
namespace Sys2Proof.Machine

def State.pruneReads_scope : Scope := ⟨[.mov, .tier], some []⟩
theorem State.pruneReads_keeps (s : State) : State.Keeps State.pruneReads_scope s (State.pruneReads s) := by
  unfold State.pruneReads
  (try dsimp only)
  repeat' first
    | with_reducible exact State.Keeps.refl _ _
    | fail_if_no_progress ((with_reducible apply State.Keeps.upd_tier); rotate_right; decide)
    | with_reducible assumption
    | with_reducible apply State.Keeps.ite
    | fail_if_no_progress ((with_reducible apply State.Keeps.upd_mov); rotate_right; decide)
    | fail_if_no_progress ((with_reducible apply State.Keeps.upd); rotate_right; (intro p hp; cases p <;> first | exact absurd (by decide) hp | exact rfl))
    | with_reducible refine State.Keeps.fst ‹_ = (_, _)› ?_
    | split

def State.moverShows_scope : Scope := ⟨[.regs], some [MOV.LAST_FCLASS, MOV.LAST_FOFF, MOV.LAST_STATUS]⟩
theorem State.moverShows_keeps (s : State) (m : Nat) (cls : Nat) (st : Nat) (foff : Nat) : State.Keeps State.moverShows_scope s (State.moverShows s m cls st foff) := by
  unfold State.moverShows
  (try dsimp only)
  repeat' first
    | with_reducible exact State.Keeps.refl _ _
    | with_reducible assumption
    | with_reducible apply State.Keeps.ite
    | ((with_reducible apply State.Keeps.step (State.put_keeps ..)); rotate_right; decide)

def State.moverOff_scope : Scope := ⟨[.regs, .evf, .recd, .hp, .pwr, .out, .free], some [EVF.ALERT_DRV, EVF.TRACE_DROP, HDR.ERR_INFO0, HDR.ERR_INFO1, HDR.ERR_STAT, HDR.EVT_STAT, MGT.ALARM_SENT, MOV.OFFLINE, MOV.STATE, PWR.PWR_WAKE_LATCH, PWR.STATE, REC.ALARM_DROP, REC.HEAD_SEQ, REC.LOST_CNT, REC.OVW_CNT, REC.RSV_USED]⟩
theorem State.moverOff_keeps (s : State) (m : Nat) : State.Keeps State.moverOff_scope s (State.moverOff s m) := by
  unfold State.moverOff
  (try dsimp only)
  repeat' first
    | with_reducible exact State.Keeps.refl _ _
    | with_reducible assumption
    | with_reducible apply State.Keeps.ite
    | ((with_reducible apply State.Keeps.step (State.put_keeps ..)); rotate_right; decide)
    | ((with_reducible apply State.Keeps.step (State.misc_keeps ..)); rotate_right; decide)

def State.moverFree_scope : Scope := ⟨[.regs, .evf, .recd, .hp, .mov, .pwr, .out, .free], some [EVF.ALERT_DRV, EVF.TRACE_DROP, HDR.ERR_INFO0, HDR.ERR_INFO1, HDR.ERR_STAT, HDR.EVT_STAT, MGT.ALARM_SENT, MOV.OFFLINE, MOV.STATE, PWR.PWR_WAKE_LATCH, PWR.STATE, REC.ALARM_DROP, REC.HEAD_SEQ, REC.LOST_CNT, REC.OVW_CNT, REC.RSV_USED]⟩
theorem State.moverFree_keeps (s : State) (m : Nat) : State.Keeps State.moverFree_scope s (State.moverFree s m) := by
  unfold State.moverFree
  (try dsimp only)
  repeat' first
    | with_reducible exact State.Keeps.refl _ _
    | with_reducible apply State.Keeps.ite
    | fail_if_no_progress ((with_reducible apply State.Keeps.upd_mov); rotate_right; decide)
    | ((with_reducible apply State.Keeps.step (State.put_keeps ..)); rotate_right; decide)
    | with_reducible assumption
    | ((with_reducible apply State.Keeps.step (State.moverOff_keeps ..)); rotate_right; decide)

def State.settleAll_scope : Scope := ⟨[.tier], some []⟩
theorem State.settleAll_keeps (s : State) : State.Keeps State.settleAll_scope s (State.settleAll s) := by
  unfold State.settleAll
  (try dsimp only)
  repeat' first
    | with_reducible exact State.Keeps.refl _ _
    | with_reducible assumption
    | with_reducible apply State.Keeps.ite
    | ((with_reducible apply State.Keeps.step (State.settle_keeps ..)); rotate_right; decide)
    | ((with_reducible apply State.Keeps.foldl1); rotate_right; intro _ _ _; rotate_left)
    | ((with_reducible apply State.Keeps.foldl); rotate_right; intro _ _ _; rotate_left)

def State.movSettle_scope : Scope := ⟨[.regs, .qe, .mov, .tier], some [MOV.LAST_FCLASS, MOV.LAST_FOFF, MOV.LAST_STATUS]⟩
theorem State.movSettle_keeps (s : State) : State.Keeps State.movSettle_scope s (State.movSettle s) := by
  unfold State.movSettle
  (try dsimp only)
  repeat' first
    | with_reducible exact State.Keeps.refl _ _
    | fail_if_no_progress ((with_reducible apply State.Keeps.upd_qe); rotate_right; decide)
    | ((with_reducible apply State.Keeps.step (State.pruneReads_keeps ..)); rotate_right; decide)
    | with_reducible assumption
    | with_reducible apply State.Keeps.ite
    | ((with_reducible apply State.Keeps.step (State.moverShows_keeps ..)); rotate_right; decide)
    | ((with_reducible apply State.Keeps.foldl); rotate_right; intro _ _ _; rotate_left)
    | ((with_reducible apply State.Keeps.step (State.settleAll_keeps ..)); rotate_right; decide)
    | ((with_reducible apply State.Keeps.foldl1); rotate_right; intro _ _ _; rotate_left)

def State.moverFault_scope : Scope := ⟨[.regs], some [MOV.FAULT_CNT, MOV.LAST_FCLASS, MOV.LAST_FOFF, MOV.LAST_STATUS]⟩
theorem State.moverFault_keeps (s : State) (m : Nat) (cls : Nat) (st : Nat) (foff : Nat) : State.Keeps State.moverFault_scope s (State.moverFault s m cls st foff) := by
  unfold State.moverFault
  (try dsimp only)
  repeat' first
    | with_reducible exact State.Keeps.refl _ _
    | ((with_reducible apply State.Keeps.step (State.put_keeps ..)); rotate_right; decide)
    | ((with_reducible apply State.Keeps.step (State.inc_keeps ..)); rotate_right; decide)
    | with_reducible assumption
    | with_reducible apply State.Keeps.ite
    | ((with_reducible apply State.Keeps.step (State.moverShows_keeps ..)); rotate_right; decide)
    | split

def State.stepFaultAs_scope : Scope := ⟨[.regs, .evf, .recd, .hp, .qe, .mov, .tier, .pwr, .out, .free], some [EVF.ALERT_DRV, EVF.TRACE_DROP, HDR.ERR_INFO0, HDR.ERR_INFO1, HDR.ERR_STAT, HDR.EVT_STAT, MGT.ALARM_SENT, MOV.FAULT_CNT, MOV.LAST_FCLASS, MOV.LAST_FOFF, MOV.LAST_STATUS, MOV.OFFLINE, MOV.STATE, PWR.PWR_WAKE_LATCH, PWR.STATE, REC.ALARM_DROP, REC.HEAD_SEQ, REC.LOST_CNT, REC.OVW_CNT, REC.RSV_USED]⟩
theorem State.stepFaultAs_keeps (s : State) (cls : Nat) (q : Nat) (c : Nat) (k : Nat) (st : Status) (target : Bool) : State.Keeps State.stepFaultAs_scope s (State.stepFaultAs s cls q c k st target) := by
  unfold State.stepFaultAs
  (try dsimp only)
  repeat' first
    | with_reducible exact State.Keeps.refl _ _
    | with_reducible assumption
    | with_reducible apply State.Keeps.ite
    | ((with_reducible apply State.Keeps.step (State.moverFault_keeps ..)); rotate_right; decide)
    | ((with_reducible apply State.Keeps.step (State.moverFree_keeps ..)); rotate_right; decide)
    | ((with_reducible apply State.Keeps.step (State.modCmd_keeps ..)); rotate_right; decide)
    | ((with_reducible apply State.Keeps.step (State.movSettle_keeps ..)); rotate_right; decide)
    | with_reducible refine State.Keeps.fst ‹_ = (_, _)› ?_
    | split

def State.stepFault_scope : Scope := ⟨[.regs, .evf, .recd, .hp, .qe, .mov, .tier, .pwr, .out, .free], some [EVF.ALERT_DRV, EVF.TRACE_DROP, HDR.ERR_INFO0, HDR.ERR_INFO1, HDR.ERR_STAT, HDR.EVT_STAT, MGT.ALARM_SENT, MOV.FAULT_CNT, MOV.LAST_FCLASS, MOV.LAST_FOFF, MOV.LAST_STATUS, MOV.OFFLINE, MOV.STATE, PWR.PWR_WAKE_LATCH, PWR.STATE, REC.ALARM_DROP, REC.HEAD_SEQ, REC.LOST_CNT, REC.OVW_CNT, REC.RSV_USED]⟩
theorem State.stepFault_keeps (s : State) (q : Nat) (c : Nat) (k : Nat) (st : Status) : State.Keeps State.stepFault_scope s (State.stepFault s q c k st) := by
  unfold State.stepFault
  (try dsimp only)
  repeat' first
    | with_reducible exact State.Keeps.refl _ _
    | with_reducible assumption
    | with_reducible apply State.Keeps.ite
    | ((with_reducible apply State.Keeps.step (State.stepFaultAs_keeps ..)); rotate_right; decide)

def State.mediaGoesOn_scope : Scope := ⟨[.regs, .qe], some [MOV.FAULT_CNT, MOV.LAST_FCLASS, MOV.LAST_FOFF, MOV.LAST_STATUS]⟩
theorem State.mediaGoesOn_keeps (s : State) (q : Nat) (c : Nat) (k : Nat) : State.Keeps State.mediaGoesOn_scope s (State.mediaGoesOn s q c k) := by
  unfold State.mediaGoesOn
  (try dsimp only)
  repeat' first
    | with_reducible exact State.Keeps.refl _ _
    | with_reducible assumption
    | with_reducible apply State.Keeps.ite
    | ((with_reducible apply State.Keeps.step (State.moverFault_keeps ..)); rotate_right; decide)
    | ((with_reducible apply State.Keeps.step (State.modCmd_keeps ..)); rotate_right; decide)
    | with_reducible refine State.Keeps.fst ‹_ = (_, _)› ?_
    | split

def State.stepSent_scope : Scope := ⟨[.regs, .evf, .recd, .hp, .qe, .mov, .tier, .pwr, .out, .free], some [EVF.ALERT_DRV, EVF.TRACE_DROP, HDR.ERR_INFO0, HDR.ERR_INFO1, HDR.ERR_STAT, HDR.EVT_STAT, MGT.ALARM_SENT, MOV.FAULT_CNT, MOV.LAST_FCLASS, MOV.LAST_FOFF, MOV.LAST_STATUS, MOV.OFFLINE, MOV.STATE, MOV.STEPS_DONE, PWR.PWR_WAKE_LATCH, PWR.STATE, REC.ALARM_DROP, REC.HEAD_SEQ, REC.LOST_CNT, REC.OVW_CNT, REC.RSV_USED]⟩
theorem State.stepSent_keeps (s : State) (m : Nat) (q : Nat) (c : Nat) (k : Nat) (conn : Nat) (msn : Option Nat) (moved : Bool) : State.Keeps State.stepSent_scope s (State.stepSent s m q c k conn msn moved) := by
  unfold State.stepSent
  (try dsimp only)
  repeat' first
    | with_reducible exact State.Keeps.refl _ _
    | with_reducible assumption
    | with_reducible apply State.Keeps.ite
    | ((with_reducible apply State.Keeps.step (State.moverFree_keeps ..)); rotate_right; decide)
    | ((with_reducible apply State.Keeps.step (State.stepFault_keeps ..)); rotate_right; decide)
    | ((with_reducible apply State.Keeps.step (State.modCmd_keeps ..)); rotate_right; decide)
    | ((with_reducible apply State.Keeps.step (State.incMod_keeps ..)); rotate_right; decide)
    | with_reducible refine State.Keeps.fst ‹_ = (_, _)› ?_
    | split

def State.stall_scope : Scope := ⟨[.regs, .evf, .recd, .hp, .qe, .mov, .tier, .pwr, .out, .free], some [EVF.ALERT_DRV, EVF.TRACE_DROP, HDR.ERR_INFO0, HDR.ERR_INFO1, HDR.ERR_STAT, HDR.EVT_STAT, MGT.ALARM_SENT, MOV.FAULT_CNT, MOV.LAST_FCLASS, MOV.LAST_FOFF, MOV.LAST_STATUS, MOV.OFFLINE, MOV.PARK_FULL_CNT, MOV.PARK_PEAK, MOV.STATE, PWR.PWR_WAKE_LATCH, PWR.STATE, REC.ALARM_DROP, REC.HEAD_SEQ, REC.LOST_CNT, REC.OVW_CNT, REC.RSV_USED]⟩
theorem State.stall_keeps (s : State) (m : Nat) (q : Nat) (c : Nat) (k : Nat) (cls : Nat) : State.Keeps State.stall_scope s (State.stall s m q c k cls) := by
  unfold State.stall
  (try dsimp only)
  repeat' first
    | with_reducible exact State.Keeps.refl _ _
    | with_reducible apply State.Keeps.ite
    | ((with_reducible apply State.Keeps.step (State.inc_keeps ..)); rotate_right; decide)
    | ((with_reducible apply State.Keeps.step (State.put_keeps ..)); rotate_right; decide)
    | ((with_reducible apply State.Keeps.step (State.modCmd_keeps ..)); rotate_right; decide)
    | ((with_reducible apply State.Keeps.step (State.moverFree_keeps ..)); rotate_right; decide)
    | ((with_reducible apply State.Keeps.step (State.moverFault_keeps ..)); rotate_right; decide)
    | with_reducible assumption
    | fail_if_no_progress ((with_reducible apply State.Keeps.upd_mov); rotate_right; decide)
    | ((with_reducible apply State.Keeps.step (State.movSettle_keeps ..)); rotate_right; decide)
    | with_reducible refine State.Keeps.fst ‹_ = (_, _)› ?_
    | split

def State.moverStop_scope : Scope := ⟨[.regs, .evf, .recd, .hp, .qe, .mov, .tier, .pwr, .out, .free], some [EVF.ALERT_DRV, EVF.TRACE_DROP, HDR.ERR_INFO0, HDR.ERR_INFO1, HDR.ERR_STAT, HDR.EVT_STAT, MGT.ALARM_SENT, MOV.FAULT_CNT, MOV.LAST_FCLASS, MOV.LAST_FOFF, MOV.LAST_STATUS, MOV.OFFLINE, MOV.STATE, PWR.PWR_WAKE_LATCH, PWR.STATE, REC.ALARM_DROP, REC.HEAD_SEQ, REC.LOST_CNT, REC.OVW_CNT, REC.RSV_USED]⟩
theorem State.moverStop_keeps (s : State) (m : Nat) (q : Nat) (c : Nat) (k : Nat) (st : Status) : State.Keeps State.moverStop_scope s (State.moverStop s m q c k st) := by
  unfold State.moverStop
  (try dsimp only)
  repeat' first
    | with_reducible exact State.Keeps.refl _ _
    | ((with_reducible apply State.Keeps.step (State.moverFree_keeps ..)); rotate_right; decide)
    | ((with_reducible apply State.Keeps.step (State.stepFault_keeps ..)); rotate_right; decide)

def State.readRange_scope : Scope := ⟨[.regs, .evf, .recd, .xlt, .hp, .qe, .tier, .pan, .twn, .pwr, .dmc, .flm, .out, .free], some [EVF.ALERT_DRV, EVF.TRACE_DROP, HDR.ERR_INFO0, HDR.ERR_INFO1, HDR.ERR_STAT, HDR.EVT_STAT, MGT.ALARM_SENT, MOV.FAULT_CNT, MOV.LAST_FCLASS, MOV.LAST_FOFF, MOV.LAST_STATUS, PAN.HIT_CNT, PAN.MISS_CNT, PAN.WB_CNT, PWR.PWR_WAKE_LATCH, PWR.STATE, REC.ALARM_DROP, REC.HEAD_SEQ, REC.LOST_CNT, REC.OVW_CNT, REC.RSV_USED, TIER.MISSED, TIER.ON_TIME, TIER.QUOTA_REFUSE, TIER.SUBST]⟩
theorem State.readRange_keeps (s : State) (tenant : Nat) (region : Nat) (d : Region) (off : Nat) (len : Nat) (who : RdBy) (got : Table SectorVal) : State.Keeps State.readRange_scope s (State.readRange s tenant region d off len who got).1 := by
  unfold State.readRange
  (try dsimp only)
  repeat' first
    | with_reducible exact State.Keeps.refl _ _
    | with_reducible assumption
    | ((with_reducible apply State.Keeps.step (State.modCmd_keeps ..)); rotate_right; decide)
    | ((with_reducible apply State.Keeps.step (State.readStart_keeps ..)); rotate_right; decide)
    | ((with_reducible apply State.Keeps.step (State.resolve_keeps ..)); rotate_right; decide)
    | with_reducible apply State.Keeps.ite1
    | ((with_reducible apply State.Keeps.foldl1); rotate_right; intro _ _ _; rotate_left)
    | with_reducible refine State.Keeps.fst ‹_ = (_, _)› ?_
    | with_reducible apply State.Keeps.ite
    | ((with_reducible apply State.Keeps.step (State.mediaGoesOn_keeps ..)); rotate_right; decide)
    | ((with_reducible apply State.Keeps.foldl); rotate_right; intro _ _ _; rotate_left)
    | dsimp only
    | split

def State.stepWritten_scope : Scope := ⟨[.regs, .evf, .recd, .hp, .qe, .mov, .tier, .pwr, .out, .free], some [EVF.ALERT_DRV, EVF.TRACE_DROP, HDR.ERR_INFO0, HDR.ERR_INFO1, HDR.ERR_STAT, HDR.EVT_STAT, MGT.ALARM_SENT, MOV.LAST_FCLASS, MOV.LAST_FOFF, MOV.LAST_STATUS, MOV.OFFLINE, MOV.STATE, MOV.STEPS_DONE, PWR.PWR_WAKE_LATCH, PWR.STATE, REC.ALARM_DROP, REC.HEAD_SEQ, REC.LOST_CNT, REC.OVW_CNT, REC.RSV_USED]⟩
theorem State.stepWritten_keeps (s : State) (m : Nat) (q : Nat) (c : Nat) (k : Nat) (mirrors : List Nat) : State.Keeps State.stepWritten_scope s (State.stepWritten s m q c k mirrors) := by
  unfold State.stepWritten
  (try dsimp only)
  repeat' first
    | with_reducible exact State.Keeps.refl _ _
    | ((with_reducible apply State.Keeps.step (State.incMod_keeps ..)); rotate_right; decide)
    | ((with_reducible apply State.Keeps.step (State.moverFree_keeps ..)); rotate_right; decide)
    | ((with_reducible apply State.Keeps.step (State.movSettle_keeps ..)); rotate_right; decide)
    | ((with_reducible apply State.Keeps.step (State.modCmd_keeps ..)); rotate_right; decide)

def State.writeRange_scope : Scope := ⟨[.regs, .evf, .recd, .xlt, .hp, .tier, .pan, .twn, .pwr, .dmc, .flm, .out, .free], some [EVF.ALERT_DRV, EVF.TRACE_DROP, HDR.ERR_INFO0, HDR.ERR_INFO1, HDR.ERR_STAT, HDR.EVT_STAT, MGT.ALARM_SENT, PAN.WB_CNT, PWR.PWR_WAKE_LATCH, PWR.STATE, REC.ALARM_DROP, REC.HEAD_SEQ, REC.LOST_CNT, REC.OVW_CNT, REC.RSV_USED, TIER.QUOTA_REFUSE]⟩
theorem State.writeRange_keeps (s : State) (tenant : Nat) (region : Nat) (d : Region) (off : Nat) (bytes : List Byte) (bad : Nat → Nat → Bool) (lines : Bool) : State.Keeps State.writeRange_scope s (State.writeRange s tenant region d off bytes bad lines).1 := by
  unfold State.writeRange
  (try dsimp only)
  repeat' first
    | with_reducible exact State.Keeps.refl _ _
    | with_reducible assumption
    | ((with_reducible apply State.Keeps.step (State.tryWrite_keeps ..)); rotate_right; decide)
    | ((with_reducible apply State.Keeps.step (State.resolve_keeps ..)); rotate_right; decide)
    | ((with_reducible apply State.Keeps.foldl1); rotate_right; intro _ _ _; rotate_left)
    | with_reducible refine State.Keeps.fst ‹_ = (_, _)› ?_
    | with_reducible apply State.Keeps.ite
    | with_reducible apply State.Keeps.ite1
    | ((with_reducible apply State.Keeps.foldl); rotate_right; intro _ _ _; rotate_left)
    | dsimp only
    | split

def State.moveStep_scope : Scope := ⟨[.regs, .evf, .recd, .xlt, .hp, .qe, .mov, .tier, .pan, .twn, .cmn, .pwr, .dmc, .flm, .out, .free], some [CMP.TX_FRAMES, EVF.ALERT_DRV, EVF.TRACE_DROP, HDR.ERR_INFO0, HDR.ERR_INFO1, HDR.ERR_STAT, HDR.EVT_STAT, MGT.ALARM_SENT, MOV.FAULT_CNT, MOV.LAST_FCLASS, MOV.LAST_FOFF, MOV.LAST_STATUS, MOV.OFFLINE, MOV.PARK_FULL_CNT, MOV.PARK_PEAK, MOV.STATE, MOV.STEPS_DONE, PAN.HIT_CNT, PAN.MISS_CNT, PAN.WB_CNT, PWR.PWR_WAKE_LATCH, PWR.STATE, REC.ALARM_DROP, REC.HEAD_SEQ, REC.LOST_CNT, REC.OVW_CNT, REC.RSV_USED, TIER.MISSED, TIER.ON_TIME, TIER.QUOTA_REFUSE, TIER.SUBST]⟩
theorem State.moveStep_keeps (s : State) (m : Nat) (q : Nat) (c : Nat) (k : Nat) (x : Cmd) (r : StepRec) : State.Keeps State.moveStep_scope s (State.moveStep s m q c k x r) := by
  unfold State.moveStep
  (try dsimp only)
  repeat' first
    | with_reducible exact State.Keeps.refl _ _
    | with_reducible apply State.Keeps.ite
    | ((with_reducible apply State.Keeps.step (State.moverFree_keeps ..)); rotate_right; decide)
    | ((with_reducible apply State.Keeps.step (State.stepSent_keeps ..)); rotate_right; decide)
    | ((with_reducible apply State.Keeps.step (State.sendRead_keeps ..)); rotate_right; decide)
    | ((with_reducible apply State.Keeps.step (State.sendWrite_keeps ..)); rotate_right; decide)
    | ((with_reducible apply State.Keeps.step (State.stall_keeps ..)); rotate_right; decide)
    | ((with_reducible apply State.Keeps.step (State.moverStop_keeps ..)); rotate_right; decide)
    | ((with_reducible apply State.Keeps.step (State.readRange_keeps ..)); rotate_right; decide)
    | ((with_reducible apply State.Keeps.step (State.stepWritten_keeps ..)); rotate_right; decide)
    | ((with_reducible apply State.Keeps.step (State.writeRange_keeps ..)); rotate_right; decide)
    | with_reducible refine State.Keeps.fst ‹_ = (_, _)› ?_
    | with_reducible assumption
    | ((with_reducible apply State.Keeps.step (State.done_keeps ..)); rotate_right; decide)
    | split

def State.issuedSweep_scope : Scope := ⟨[.regs, .qe, .mov, .tier], some [MOV.LAST_FCLASS, MOV.LAST_FOFF, MOV.LAST_STATUS]⟩
theorem State.issuedSweep_keeps (s : State) : State.Keeps State.issuedSweep_scope s (State.issuedSweep s) := by
  unfold State.issuedSweep
  (try dsimp only)
  repeat' first
    | with_reducible exact State.Keeps.refl _ _
    | fail_if_no_progress ((with_reducible apply State.Keeps.upd_qe); rotate_right; decide)
    | ((with_reducible apply State.Keeps.step (State.movSettle_keeps ..)); rotate_right; decide)

def State.moverBroken_scope : Scope := ⟨[.regs, .evf, .recd, .hp, .qe, .mov, .tier, .pwr, .out, .free], some [EVF.ALERT_DRV, EVF.TRACE_DROP, HDR.ERR_INFO0, HDR.ERR_INFO1, HDR.ERR_STAT, HDR.EVT_STAT, MGT.ALARM_SENT, MOV.FAULT_CNT, MOV.LAST_FCLASS, MOV.LAST_FOFF, MOV.LAST_STATUS, MOV.OFFLINE, MOV.STATE, PWR.PWR_WAKE_LATCH, PWR.STATE, REC.ALARM_DROP, REC.HEAD_SEQ, REC.LOST_CNT, REC.OVW_CNT, REC.RSV_USED]⟩
theorem State.moverBroken_keeps (s : State) (m : Nat) (q : Nat) (c : Nat) (k : Nat) : State.Keeps State.moverBroken_scope s (State.moverBroken s m q c k) := by
  unfold State.moverBroken
  (try dsimp only)
  repeat' first
    | with_reducible exact State.Keeps.refl _ _
    | with_reducible apply State.Keeps.ite
    | fail_if_no_progress ((with_reducible apply State.Keeps.upd_mov); rotate_right; decide)
    | ((with_reducible apply State.Keeps.step (State.modCmd_keeps ..)); rotate_right; decide)
    | ((with_reducible apply State.Keeps.step (State.blkErr_keeps ..)); rotate_right; decide)
    | ((with_reducible apply State.Keeps.step (State.stepFault_keeps ..)); rotate_right; decide)
    | ((with_reducible apply State.Keeps.step (State.misc_keeps ..)); rotate_right; decide)
    | ((with_reducible apply State.Keeps.step (State.moverFault_keeps ..)); rotate_right; decide)
    | ((with_reducible apply State.Keeps.step (State.put_keeps ..)); rotate_right; decide)
    | with_reducible assumption
    | ((with_reducible apply State.Keeps.step (State.moverOff_keeps ..)); rotate_right; decide)
    | ((with_reducible apply State.Keeps.step (State.stepFaultAs_keeps ..)); rotate_right; decide)
    | ((with_reducible apply State.Keeps.step (State.movSettle_keeps ..)); rotate_right; decide)
    | with_reducible refine State.Keeps.fst ‹_ = (_, _)› ?_
    | split

def State.walkStep_scope : Scope := ⟨[.regs, .evf, .recd, .xlt, .hp, .pwr, .out, .free], some [EVF.ALERT_DRV, EVF.TRACE_DROP, HDR.ERR_INFO0, HDR.ERR_INFO1, HDR.ERR_STAT, HDR.EVT_STAT, MGT.ALARM_SENT, PWR.PWR_WAKE_LATCH, PWR.STATE, REC.ALARM_DROP, REC.HEAD_SEQ, REC.LOST_CNT, REC.OVW_CNT, REC.RSV_USED]⟩
theorem State.walkStep_keeps (s : State) (x : Cmd) (k : Nat) : State.Keeps State.walkStep_scope s (State.walkStep s x k).1 := by
  unfold State.walkStep
  (try dsimp only)
  repeat' first
    | with_reducible exact State.Keeps.refl _ _
    | ((with_reducible apply State.Keeps.step (State.walkQueue_keeps ..)); rotate_right; decide)
    | with_reducible refine State.Keeps.fst ‹_ = (_, _)› ?_
    | with_reducible assumption
    | with_reducible apply State.Keeps.ite
    | with_reducible apply State.Keeps.ite1
    | dsimp only
    | split

def State.turnTaken_scope : Scope := ⟨[.qe], some []⟩
theorem State.turnTaken_keeps (s : State) (q : Nat) (cls : Nat) : State.Keeps State.turnTaken_scope s (State.turnTaken s q cls) := by
  unfold State.turnTaken
  (try dsimp only)
  repeat' first
    | with_reducible exact State.Keeps.refl _ _
    | with_reducible assumption
    | with_reducible apply State.Keeps.ite
    | fail_if_no_progress ((with_reducible apply State.Keeps.upd_qe); rotate_right; decide)
    | with_reducible refine State.Keeps.fst ‹_ = (_, _)› ?_
    | split

def State.movesEnd_scope : Scope := State.moveStep_scope
theorem State.movesEnd_keeps (s : State) (hit : Nat → Bool) : State.Keeps State.movesEnd_scope s (State.movesEnd s hit) := by
  unfold State.movesEnd
  (try dsimp only)
  repeat' first
    | with_reducible exact State.Keeps.refl _ _
    | with_reducible assumption
    | with_reducible apply State.Keeps.ite
    | ((with_reducible apply State.Keeps.step (State.moveStep_keeps ..)); rotate_right; decide)
    | ((with_reducible apply State.Keeps.foldl); rotate_right; intro _ _ _; rotate_left)
    | with_reducible refine State.Keeps.fst ‹_ = (_, _)› ?_
    | split

end Sys2Proof.Machine
end

