-- ==== Sys2Proof/Laws/KeepCmnRx.lean ====
section
/-! SUPPORT. What each operation of Machine/CmnRx.lean keeps: the parts of State it can change are those listed. -/
set_option linter.unusedTactic false
set_option linter.unreachableTactic false
namespace Sys2Proof.Machine

def State.sendAck_scope : Scope := ⟨[.regs, .cmn, .out], some [CMP.TX_FRAMES]⟩
theorem State.sendAck_keeps (s : State) (i : Nat) (phase : Bool) (path : Option Nat) : State.Keeps State.sendAck_scope s (State.sendAck s i phase path) := by
  unfold State.sendAck
  (try dsimp only)
  repeat' first
    | with_reducible exact State.Keeps.refl _ _
    | ((with_reducible apply State.Keeps.step (State.putConn_keeps ..)); rotate_right; decide)
    | ((with_reducible apply State.Keeps.step (State.sendCtl_keeps ..)); rotate_right; decide)

def State.acceptPsn_scope : Scope := ⟨[.regs, .cmn, .out], some [CMP.TX_FRAMES]⟩
theorem State.acceptPsn_keeps (s : State) (i : Nat) (phase : Bool) (psn : Nat) : State.Keeps State.acceptPsn_scope s (State.acceptPsn s i phase psn) := by
  unfold State.acceptPsn
  (try dsimp only)
  repeat' first
    | with_reducible exact State.Keeps.refl _ _
    | with_reducible apply State.Keeps.ite
    | ((with_reducible apply State.Keeps.step (State.sendAck_keeps ..)); rotate_right; decide)
    | ((with_reducible apply State.Keeps.step (State.putConn_keeps ..)); rotate_right; decide)

def State.violate_scope : Scope := ⟨[.regs, .evf, .recd, .hp, .tier, .cmn, .pwr, .out, .free], some [CME.VIOL_TX, EVF.ALERT_DRV, EVF.TRACE_DROP, HDR.ERR_INFO0, HDR.ERR_INFO1, HDR.ERR_STAT, HDR.EVT_STAT, MGT.ALARM_SENT, PWR.PWR_WAKE_LATCH, PWR.STATE, REC.ALARM_DROP, REC.HEAD_SEQ, REC.LOST_CNT, REC.OVW_CNT, REC.RSV_USED]⟩
theorem State.violate_keeps (s : State) (i : Nat) (m : TgtMsg) (st : Status) (region : Option Nat) : State.Keeps State.violate_scope s (State.violate s i m st region) := by
  unfold State.violate
  (try dsimp only)
  repeat' first
    | with_reducible exact State.Keeps.refl _ _
    | with_reducible apply State.Keeps.ite
    | ((with_reducible apply State.Keeps.step (State.refusal_keeps ..)); rotate_right; decide)
    | ((with_reducible apply State.Keeps.step (State.putConn_keeps ..)); rotate_right; decide)
    | ((with_reducible apply State.Keeps.step (State.inc_keeps ..)); rotate_right; decide)
    | ((with_reducible apply State.Keeps.step (State.misc_keeps ..)); rotate_right; decide)
    | split

def State.tgtEnd_scope : Scope := ⟨[.regs, .evf, .recd, .xlt, .hp, .qe, .tier, .cmn, .pwr, .out, .free], some [CME.VIOL_TX, CMP.TX_FRAMES, EVF.ALERT_DRV, EVF.TRACE_DROP, HDR.ERR_INFO0, HDR.ERR_INFO1, HDR.ERR_STAT, HDR.EVT_STAT, MGT.ALARM_SENT, PWR.PWR_WAKE_LATCH, PWR.STATE, REC.ALARM_DROP, REC.HEAD_SEQ, REC.LOST_CNT, REC.OVW_CNT, REC.RSV_USED]⟩
theorem State.tgtEnd_keeps (s : State) (i : Nat) (m : TgtMsg) (admitted : Bool) (st : Status) (region : Option Nat) : State.Keeps State.tgtEnd_scope s (State.tgtEnd s i m admitted st region) := by
  unfold State.tgtEnd
  (try dsimp only)
  repeat' first
    | with_reducible exact State.Keeps.refl _ _
    | with_reducible apply State.Keeps.ite
    | fail_if_no_progress ((with_reducible apply State.Keeps.upd_tier); rotate_right; decide)
    | ((with_reducible apply State.Keeps.step (State.modConn_keeps ..)); rotate_right; decide)
    | ((with_reducible apply State.Keeps.step (State.cmnPump_keeps ..)); rotate_right; decide)
    | ((with_reducible apply State.Keeps.step (State.respond_keeps ..)); rotate_right; decide)
    | ((with_reducible apply State.Keeps.step (State.sendCtl_keeps ..)); rotate_right; decide)
    | ((with_reducible apply State.Keeps.step (State.messageEnd_keeps ..)); rotate_right; decide)
    | ((with_reducible apply State.Keeps.step (State.violate_keeps ..)); rotate_right; decide)
    | with_reducible assumption
    | with_reducible refine State.Keeps.fst ‹_ = (_, _)› ?_
    | ((with_reducible apply State.Keeps.step (State.settleAll_keeps ..)); rotate_right; decide)
    | split

def State.tgtCheck_scope : Scope := State.tgtEnd_scope
theorem State.tgtCheck_keeps (s : State) (i : Nat) (msn : Nat) : State.Keeps State.tgtCheck_scope s (State.tgtCheck s i msn) := by
  unfold State.tgtCheck
  (try dsimp only)
  repeat' first
    | with_reducible exact State.Keeps.refl _ _
    | with_reducible apply State.Keeps.ite
    | ((with_reducible apply State.Keeps.step (State.tgtEnd_keeps ..)); rotate_right; decide)
    | ((with_reducible apply State.Keeps.step (State.respond_keeps ..)); rotate_right; decide)
    | ((with_reducible apply State.Keeps.step (State.messageEnd_keeps ..)); rotate_right; decide)
    | ((with_reducible apply State.Keeps.step (State.modConn_keeps ..)); rotate_right; decide)
    | split

def State.placeSector_scope : Scope := ⟨[.regs, .evf, .recd, .xlt, .hp, .tier, .pan, .twn, .pwr, .dmc, .flm, .out, .free], some [EVF.ALERT_DRV, EVF.TRACE_DROP, HDR.ERR_INFO0, HDR.ERR_INFO1, HDR.ERR_STAT, HDR.EVT_STAT, MGT.ALARM_SENT, PAN.WB_CNT, PWR.PWR_WAKE_LATCH, PWR.STATE, REC.ALARM_DROP, REC.HEAD_SEQ, REC.LOST_CNT, REC.OVW_CNT, REC.RSV_USED, TIER.QUOTA_REFUSE]⟩
theorem State.placeSector_keeps (s : State) (i : Nat) (m : TgtMsg) (d : Region) (rd : Registration) (whole : Bool) (o : Nat) (v : Sector) (en : BitVec 64) (poison : Bool) (psn : Nat) : State.Keeps State.placeSector_scope s (State.placeSector s i m d rd whole o v en poison psn).1 := by
  unfold State.placeSector
  (try dsimp only)
  repeat' first
    | with_reducible exact State.Keeps.refl _ _
    | fail_if_no_progress ((with_reducible apply State.Keeps.upd_tier); rotate_right; decide)
    | ((with_reducible apply State.Keeps.step (State.tryWrite_keeps ..)); rotate_right; decide)
    | ((with_reducible apply State.Keeps.step (State.resolve_keeps ..)); rotate_right; decide)
    | with_reducible apply State.Keeps.ite1
    | with_reducible refine State.Keeps.fst ‹_ = (_, _)› ?_
    | with_reducible assumption
    | with_reducible apply State.Keeps.ite
    | dsimp only
    | split

def State.tgtPlace_scope : Scope := ⟨[.regs, .evf, .recd, .xlt, .hp, .qe, .tier, .pan, .twn, .cmn, .pwr, .dmc, .flm, .out, .free], some [CME.VIOL_TX, CMP.TX_FRAMES, EVF.ALERT_DRV, EVF.TRACE_DROP, HDR.ERR_INFO0, HDR.ERR_INFO1, HDR.ERR_STAT, HDR.EVT_STAT, MGT.ALARM_SENT, PAN.HIT_CNT, PAN.MISS_CNT, PAN.WB_CNT, PWR.PWR_WAKE_LATCH, PWR.STATE, REC.ALARM_DROP, REC.HEAD_SEQ, REC.LOST_CNT, REC.OVW_CNT, REC.RSV_USED, TIER.MISSED, TIER.ON_TIME, TIER.QUOTA_REFUSE, TIER.SUBST]⟩
theorem State.tgtPlace_keeps (s : State) (i : Nat) (op : Nat) (p : Packet) : State.Keeps State.tgtPlace_scope s (State.tgtPlace s i op p) := by
  unfold State.tgtPlace
  (try dsimp only)
  repeat' first
    | with_reducible exact State.Keeps.refl _ _
    | with_reducible assumption
    | with_reducible apply State.Keeps.ite
    | ((with_reducible apply State.Keeps.step (State.tgtEnd_keeps ..)); rotate_right; decide)
    | ((with_reducible apply State.Keeps.step (State.modConn_keeps ..)); rotate_right; decide)
    | ((with_reducible apply State.Keeps.step (State.tgtCheck_keeps ..)); rotate_right; decide)
    | ((with_reducible apply State.Keeps.step (State.placeSector_keeps ..)); rotate_right; decide)
    | ((with_reducible apply State.Keeps.step (State.readStart_keeps ..)); rotate_right; decide)
    | ((with_reducible apply State.Keeps.step (State.resolve_keeps ..)); rotate_right; decide)
    | ((with_reducible apply State.Keeps.step (State.putConn_keeps ..)); rotate_right; decide)
    | ((with_reducible apply State.Keeps.step (State.checks_keeps ..)); rotate_right; decide)
    | ((with_reducible apply State.Keeps.foldl); rotate_right; intro _ _ _; rotate_left)
    | ((with_reducible apply State.Keeps.foldl1); rotate_right; intro _ _ _; rotate_left)
    | with_reducible refine State.Keeps.fst ‹_ = (_, _)› ?_
    | ((with_reducible apply State.Keeps.step (State.xGet_keeps ..)); rotate_right; decide)
    | dsimp only
    | split

def State.releaseHolds_scope : Scope := State.tgtPlace_scope
theorem State.releaseHolds_keeps (i : Nat) (a1 : Nat) (a2 : State) : State.Keeps State.releaseHolds_scope a2 (State.releaseHolds i a1 a2) := by
  induction a1 generalizing a2 with
  | zero => exact State.Keeps.refl _ _
  | succ _ ih =>
   unfold State.releaseHolds
   (try dsimp only)
   repeat' first
    | ((with_reducible apply State.Keeps.step (ih ..)); rotate_right; decide)
    | with_reducible exact State.Keeps.refl _ _
    | ((with_reducible apply State.Keeps.step (State.tgtPlace_keeps ..)); rotate_right; decide)
    | ((with_reducible apply State.Keeps.step (State.putConn_keeps ..)); rotate_right; decide)
    | split

def State.tgtSweep_scope : Scope := State.releaseHolds_scope
theorem State.tgtSweep_keeps (s : State) : State.Keeps State.tgtSweep_scope s (State.tgtSweep s) := by
  unfold State.tgtSweep
  (try dsimp only)
  repeat' first
    | with_reducible exact State.Keeps.refl _ _
    | with_reducible assumption
    | with_reducible apply State.Keeps.ite
    | ((with_reducible apply State.Keeps.step (State.tgtCheck_keeps ..)); rotate_right; decide)
    | ((with_reducible apply State.Keeps.step (State.releaseHolds_keeps ..)); rotate_right; decide)
    | ((with_reducible apply State.Keeps.foldl); rotate_right; intro _ _ _; rotate_left)

def State.stepMessage_scope : Scope := ⟨[.regs, .evf, .recd, .hp, .qe, .mov, .tier, .pwr, .out, .free], some [EVF.ALERT_DRV, EVF.TRACE_DROP, HDR.ERR_INFO0, HDR.ERR_INFO1, HDR.ERR_STAT, HDR.EVT_STAT, MGT.ALARM_SENT, MOV.FAULT_CNT, MOV.LAST_FCLASS, MOV.LAST_FOFF, MOV.LAST_STATUS, MOV.OFFLINE, MOV.STATE, PWR.PWR_WAKE_LATCH, PWR.STATE, REC.ALARM_DROP, REC.HEAD_SEQ, REC.LOST_CNT, REC.OVW_CNT, REC.RSV_USED]⟩
theorem State.stepMessage_keeps (s : State) (q : Nat) (c : Nat) (k : Nat) (st : Status) (data : Table SectorVal) (read : Bool) : State.Keeps State.stepMessage_scope s (State.stepMessage s q c k st data read) := by
  unfold State.stepMessage
  (try dsimp only)
  repeat' first
    | with_reducible exact State.Keeps.refl _ _
    | with_reducible apply State.Keeps.ite
    | ((with_reducible apply State.Keeps.step (State.stepFault_keeps ..)); rotate_right; decide)
    | ((with_reducible apply State.Keeps.step (State.modCmd_keeps ..)); rotate_right; decide)
    | ((with_reducible apply State.Keeps.step (State.movSettle_keeps ..)); rotate_right; decide)
    | with_reducible assumption
    | ((with_reducible apply State.Keeps.step (State.moverFault_keeps ..)); rotate_right; decide)
    | ((with_reducible apply State.Keeps.step (State.stepFaultAs_keeps ..)); rotate_right; decide)
    | with_reducible refine State.Keeps.fst ‹_ = (_, _)› ?_
    | split

def State.forwardNext_scope : Scope := State.cmnPump_scope
theorem State.forwardNext_keeps (s : State) (port : Nat) (ld : Nat) (dpa : Nat) : State.Keeps State.forwardNext_scope s (State.forwardNext s port ld dpa) := by
  unfold State.forwardNext
  (try dsimp only)
  repeat' first
    | with_reducible exact State.Keeps.refl _ _
    | fail_if_no_progress ((with_reducible apply State.Keeps.upd_hp); rotate_right; decide)
    | ((with_reducible apply State.Keeps.step (State.sendMasked_keeps ..)); rotate_right; decide)
    | ((with_reducible apply State.Keeps.step (State.sendWrite_keeps ..)); rotate_right; decide)
    | with_reducible apply State.Keeps.ite1
    | split

def State.dropForward_scope : Scope := ⟨[.hp], some []⟩
theorem State.dropForward_keeps (s : State) (port : Nat) (ld : Nat) (tag : Nat) : State.Keeps State.dropForward_scope s (State.dropForward s port ld tag) := by
  unfold State.dropForward
  (try dsimp only)
  repeat' first
    | with_reducible exact State.Keeps.refl _ _
    | fail_if_no_progress ((with_reducible apply State.Keeps.upd_hp); rotate_right; decide)

def State.forwardEnd_scope : Scope := ⟨[.regs, .evf, .recd, .xlt, .hp, .cmn, .pwr, .out, .free], some [CMP.TX_FRAMES, EVF.ALERT_DRV, EVF.TRACE_DROP, HDR.ERR_INFO0, HDR.ERR_INFO1, HDR.ERR_STAT, HDR.EVT_STAT, HP.POISON_CNT, HP.REFUSE_CNT, MGT.ALARM_SENT, PWR.PWR_WAKE_LATCH, PWR.STATE, REC.ALARM_DROP, REC.HEAD_SEQ, REC.LOST_CNT, REC.OVW_CNT, REC.RSV_USED, XLT.BUSY]⟩
theorem State.forwardEnd_keeps (s : State) (port : Nat) (ld : Nat) (tag : Nat) (st : Status) (v : SectorVal) (refused : Bool) : State.Keeps State.forwardEnd_scope s (State.forwardEnd s port ld tag st v refused) := by
  unfold State.forwardEnd
  (try dsimp only)
  repeat' first
    | with_reducible exact State.Keeps.refl _ _
    | with_reducible apply State.Keeps.ite
    | ((with_reducible apply State.Keeps.step (State.forwardNext_keeps ..)); rotate_right; decide)
    | ((with_reducible apply State.Keeps.step (State.cxlData_keeps ..)); rotate_right; decide)
    | ((with_reducible apply State.Keeps.step (State.inval_keeps ..)); rotate_right; decide)
    | ((with_reducible apply State.Keeps.step (State.occur_keeps ..)); rotate_right; decide)
    | ((with_reducible apply State.Keeps.step (State.cxlRecord_keeps ..)); rotate_right; decide)
    | ((with_reducible apply State.Keeps.step (State.cxlRefuse_keeps ..)); rotate_right; decide)
    | ((with_reducible apply State.Keeps.step (State.dropForward_keeps ..)); rotate_right; decide)
    | fail_if_no_progress ((with_reducible apply State.Keeps.upd); rotate_right; (intro p hp; cases p <;> first | exact absurd (by decide) hp | exact rfl))
    | split

def State.initEnd_scope : Scope := ⟨[.regs, .evf, .recd, .xlt, .hp, .qe, .mov, .tier, .cmn, .pwr, .out, .free], some [CME.VIOL_RX, CMP.TX_FRAMES, EVF.ALERT_DRV, EVF.TRACE_DROP, HDR.ERR_INFO0, HDR.ERR_INFO1, HDR.ERR_STAT, HDR.EVT_STAT, HP.POISON_CNT, HP.REFUSE_CNT, MGT.ALARM_SENT, MOV.FAULT_CNT, MOV.LAST_FCLASS, MOV.LAST_FOFF, MOV.LAST_STATUS, MOV.OFFLINE, MOV.STATE, PWR.PWR_WAKE_LATCH, PWR.STATE, REC.ALARM_DROP, REC.HEAD_SEQ, REC.LOST_CNT, REC.OVW_CNT, REC.RSV_USED, XLT.BUSY]⟩
theorem State.initEnd_keeps (s : State) (i : Nat) (m : InitMsg) (st : Status) (refused : Bool) : State.Keeps State.initEnd_scope s (State.initEnd s i m st refused) := by
  unfold State.initEnd
  (try dsimp only)
  repeat' first
    | with_reducible exact State.Keeps.refl _ _
    | with_reducible apply State.Keeps.ite
    | ((with_reducible apply State.Keeps.step (State.cmnPump_keeps ..)); rotate_right; decide)
    | ((with_reducible apply State.Keeps.step (State.stepMessage_keeps ..)); rotate_right; decide)
    | ((with_reducible apply State.Keeps.step (State.forwardEnd_keeps ..)); rotate_right; decide)
    | ((with_reducible apply State.Keeps.step (State.misc_keeps ..)); rotate_right; decide)
    | ((with_reducible apply State.Keeps.step (State.inc_keeps ..)); rotate_right; decide)
    | ((with_reducible apply State.Keeps.step (State.modConn_keeps ..)); rotate_right; decide)
    | split

def State.connEndAll_scope : Scope := ⟨[.regs, .evf, .recd, .xlt, .hp, .qe, .mov, .tier, .cmn, .pwr, .out, .free], some [CME.VIOL_RX, CME.VIOL_TX, CMP.TX_FRAMES, EVF.ALERT_DRV, EVF.TRACE_DROP, HDR.ERR_INFO0, HDR.ERR_INFO1, HDR.ERR_STAT, HDR.EVT_STAT, HP.POISON_CNT, HP.REFUSE_CNT, MGT.ALARM_SENT, MOV.FAULT_CNT, MOV.LAST_FCLASS, MOV.LAST_FOFF, MOV.LAST_STATUS, MOV.OFFLINE, MOV.STATE, PWR.PWR_WAKE_LATCH, PWR.STATE, REC.ALARM_DROP, REC.HEAD_SEQ, REC.LOST_CNT, REC.OVW_CNT, REC.RSV_USED, XLT.BUSY]⟩
theorem State.connEndAll_keeps (s : State) (i : Nat) (st : Status) : State.Keeps State.connEndAll_scope s (State.connEndAll s i st) := by
  unfold State.connEndAll
  (try dsimp only)
  repeat' first
    | with_reducible exact State.Keeps.refl _ _
    | with_reducible assumption
    | ((with_reducible apply State.Keeps.step (State.tgtEnd_keeps ..)); rotate_right; decide)
    | ((with_reducible apply State.Keeps.step (State.initEnd_keeps ..)); rotate_right; decide)
    | ((with_reducible apply State.Keeps.foldl); rotate_right; intro _ _ _; rotate_left)

def State.authStorm_scope : Scope := State.connEndAll_scope
theorem State.authStorm_keeps (s : State) (i : Nat) : State.Keeps State.authStorm_scope s (State.authStorm s i) := by
  unfold State.authStorm
  (try dsimp only)
  repeat' first
    | with_reducible exact State.Keeps.refl _ _
    | ((with_reducible apply State.Keeps.step (State.modConn_keeps ..)); rotate_right; decide)
    | ((with_reducible apply State.Keeps.step (State.blkErr_keeps ..)); rotate_right; decide)
    | ((with_reducible apply State.Keeps.step (State.connEndAll_keeps ..)); rotate_right; decide)
    | ((with_reducible apply State.Keeps.step (State.sendCtl_keeps ..)); rotate_right; decide)

def State.rxDelay_scope : Scope := ⟨[.regs, .cmn, .out], some [CIP.HOLD_FULL_CNT, CMP.RX_DROP]⟩
theorem State.rxDelay_keeps (s : State) (msg : RxMsg) (port : Nat) (n : Nat) : State.Keeps State.rxDelay_scope s (State.rxDelay s msg port n) := by
  unfold State.rxDelay
  (try dsimp only)
  repeat' first
    | with_reducible exact State.Keeps.refl _ _
    | with_reducible assumption
    | with_reducible apply State.Keeps.ite
    | fail_if_no_progress ((with_reducible apply State.Keeps.upd_cmn); rotate_right; decide)
    | ((with_reducible apply State.Keeps.step (State.inc_keeps ..)); rotate_right; decide)
    | ((with_reducible apply State.Keeps.step (State.emit_keeps ..)); rotate_right; decide)

def State.ingress_scope : Scope := ⟨[.regs, .evf, .recd, .hp, .cmn, .pwr, .out, .free], some [CIP.AUTH_FAIL_CNT, CIP.HOLD_FULL_CNT, CME.AUTH_FAIL, CMP.CE_MARKED, CMP.FCS_ERR, CMP.RX_DROP, CMP.RX_FRAMES, CMP.TX_FRAMES, EVF.ALERT_DRV, EVF.TRACE_DROP, HDR.ERR_INFO0, HDR.ERR_INFO1, HDR.ERR_STAT, HDR.EVT_STAT, MGT.ALARM_SENT, PWR.PWR_WAKE_LATCH, PWR.STATE, REC.ALARM_DROP, REC.HEAD_SEQ, REC.LOST_CNT, REC.OVW_CNT, REC.RSV_USED]⟩
theorem State.ingress_keeps {l : Scope} {s0 : State} (storm : State → Nat → State) (again : Bool) (msg : RxMsg) (s : State) (p : Packet) (reliable : Bool) (k : State → Nat → State) (hstorm : ∀ (x0 : State) (x1 : Nat), State.Keeps l s0 x0 → State.Keeps l s0 (storm x0 x1)) (hk : ∀ (x0 : State) (x1 : Nat), State.Keeps l s0 x0 → State.Keeps l s0 (k x0 x1)) (hk0 : State.Keeps l s0 s) (hl : Scope.within State.ingress_scope l = true) :
    State.Keeps l s0 (State.ingress storm again msg s p reliable k) := by
  unfold State.ingress
  (try dsimp only)
  repeat' first
    | with_reducible assumption
    | with_reducible apply hstorm
    | with_reducible apply hk
    | with_reducible apply State.Keeps.ite
    | ((with_reducible apply State.Keeps.step (State.putConn_keeps ..)); rotate_right; exact Scope.within_trans (m := State.ingress_scope) (by first | decide | rfl) hl)
    | ((with_reducible apply State.Keeps.step (State.inc_keeps ..)); rotate_right; exact Scope.within_trans (m := State.ingress_scope) (by first | decide | rfl) hl)
    | ((with_reducible apply State.Keeps.step (State.sendAck_keeps ..)); rotate_right; exact Scope.within_trans (m := State.ingress_scope) (by first | decide | rfl) hl)
    | ((with_reducible apply State.Keeps.step (State.rxDelay_keeps ..)); rotate_right; exact Scope.within_trans (m := State.ingress_scope) (by first | decide | rfl) hl)
    | ((with_reducible apply State.Keeps.step (State.laneJoin_cemanor_keeps ..)); rotate_right; exact Scope.within_trans (m := State.ingress_scope) (by first | decide | rfl) hl)
    | fail_if_no_progress ((with_reducible apply State.Keeps.upd_cmn); rotate_right; exact Scope.within_contains (m := State.ingress_scope) (by decide) hl)
    | ((with_reducible apply State.Keeps.step (State.misc_keeps ..)); rotate_right; exact Scope.within_trans (m := State.ingress_scope) (by first | decide | rfl) hl)
    | ((with_reducible apply State.Keeps.step (State.incMod_keeps ..)); rotate_right; exact Scope.within_trans (m := State.ingress_scope) (by first | decide | rfl) hl)

def State.sendNack_scope : Scope := ⟨[.regs, .cmn, .out], some [CMP.TX_FRAMES]⟩
theorem State.sendNack_keeps (s : State) (i : Nat) (phase : Bool) (gaps : List (Nat × Nat)) : State.Keeps State.sendNack_scope s (State.sendNack s i phase gaps) := by
  unfold State.sendNack
  (try dsimp only)
  repeat' first
    | with_reducible exact State.Keeps.refl _ _
    | ((with_reducible apply State.Keeps.step (State.sendCtl_keeps ..)); rotate_right; decide)

def State.request_scope : Scope := ⟨[.regs, .evf, .recd, .xlt, .hp, .qe, .tier, .pan, .twn, .cmn, .pwr, .dmc, .flm, .out, .free], some [CME.HOLD_DROP, CME.LATE_PKT, CME.VIOL_TX, CMP.TX_FRAMES, EVF.ALERT_DRV, EVF.TRACE_DROP, HDR.ERR_INFO0, HDR.ERR_INFO1, HDR.ERR_STAT, HDR.EVT_STAT, MGT.ALARM_SENT, PAN.HIT_CNT, PAN.MISS_CNT, PAN.WB_CNT, PWR.PWR_WAKE_LATCH, PWR.STATE, REC.ALARM_DROP, REC.HEAD_SEQ, REC.LOST_CNT, REC.OVW_CNT, REC.RSV_USED, TIER.MISSED, TIER.ON_TIME, TIER.QUOTA_REFUSE, TIER.SUBST]⟩
theorem State.request_keeps (s : State) (i : Nat) (op : Nat) (p : Packet) : State.Keeps State.request_scope s (State.request s i op p) := by
  unfold State.request
  (try dsimp only)
  repeat' first
    | with_reducible exact State.Keeps.refl _ _
    | with_reducible apply State.Keeps.ite
    | ((with_reducible apply State.Keeps.step (State.putRegistration_keeps ..)); rotate_right; decide)
    | ((with_reducible apply State.Keeps.step (State.tgtEnd_keeps ..)); rotate_right; decide)
    | ((with_reducible apply State.Keeps.step (State.admitKey_keeps ..)); rotate_right; decide)
    | ((with_reducible apply State.Keeps.step (State.releaseHolds_keeps ..)); rotate_right; decide)
    | ((with_reducible apply State.Keeps.step (State.tgtPlace_keeps ..)); rotate_right; decide)
    | ((with_reducible apply State.Keeps.step (State.blkErr_keeps ..)); rotate_right; decide)
    | ((with_reducible apply State.Keeps.step (State.modConn_keeps ..)); rotate_right; decide)
    | ((with_reducible apply State.Keeps.step (State.acceptPsn_keeps ..)); rotate_right; decide)
    | ((with_reducible apply State.Keeps.step (State.inc_keeps ..)); rotate_right; decide)
    | ((with_reducible apply State.Keeps.step (State.sendNack_keeps ..)); rotate_right; decide)
    | split
    | with_reducible refine State.Keeps.fst ‹_ = (_, _)› ?_

def State.response_scope : Scope := ⟨[.regs, .evf, .recd, .xlt, .hp, .qe, .mov, .tier, .cmn, .pwr, .out, .free], some [CME.LATE_PKT, CME.STALE_CLAIM_DROP, CME.VIOL_RX, CMP.TX_FRAMES, EVF.ALERT_DRV, EVF.TRACE_DROP, HDR.ERR_INFO0, HDR.ERR_INFO1, HDR.ERR_STAT, HDR.EVT_STAT, HP.POISON_CNT, HP.REFUSE_CNT, MGT.ALARM_SENT, MOV.FAULT_CNT, MOV.LAST_FCLASS, MOV.LAST_FOFF, MOV.LAST_STATUS, MOV.OFFLINE, MOV.STATE, PWR.PWR_WAKE_LATCH, PWR.STATE, REC.ALARM_DROP, REC.HEAD_SEQ, REC.LOST_CNT, REC.OVW_CNT, REC.RSV_USED, XLT.BUSY]⟩
theorem State.response_keeps (s : State) (i : Nat) (p : Packet) (read : Bool) : State.Keeps State.response_scope s (State.response s i p read) := by
  unfold State.response
  (try dsimp only)
  repeat' first
    | with_reducible exact State.Keeps.refl _ _
    | with_reducible apply State.Keeps.ite
    | fail_if_no_progress ((with_reducible apply State.Keeps.upd_cmn); rotate_right; decide)
    | ((with_reducible apply State.Keeps.step (State.initEnd_keeps ..)); rotate_right; decide)
    | ((with_reducible apply State.Keeps.step (State.modConn_keeps ..)); rotate_right; decide)
    | ((with_reducible apply State.Keeps.step (State.inc_keeps ..)); rotate_right; decide)
    | ((with_reducible apply State.Keeps.step (State.acceptPsn_keeps ..)); rotate_right; decide)
    | split

end Sys2Proof.Machine
end

