-- ==== Sys2Proof/Laws/KeepPathOps.lean ====
section
/-! SUPPORT. What each operation of Machine/PathOps.lean keeps: the parts of State it can change are those listed. -/
set_option linter.unusedTactic false
set_option linter.unreachableTactic false
namespace Sys2Proof.Machine

def State.answer_scope : Scope := ⟨[.regs, .evf, .recd, .xlt, .hp, .qe, .mov, .tier, .cmn, .pwr, .out, .free], some [CME.VIOL_TX, CMP.TX_FRAMES, EVF.ALERT_DRV, EVF.TRACE_DROP, HDR.ERR_INFO0, HDR.ERR_INFO1, HDR.ERR_STAT, HDR.EVT_STAT, HP.POISON_CNT, MGT.ALARM_SENT, MOV.FAULT_CNT, MOV.LAST_FCLASS, MOV.LAST_FOFF, MOV.LAST_STATUS, MOV.OFFLINE, MOV.STATE, PWR.PWR_WAKE_LATCH, PWR.STATE, REC.ALARM_DROP, REC.HEAD_SEQ, REC.LOST_CNT, REC.OVW_CNT, REC.RSV_USED, TIER.SLOW_PATH]⟩
theorem State.answer_keeps (s : State) (w : WaitRead) (r : ReadRes) : State.Keeps State.answer_scope s (State.answer s w r) := by
  unfold State.answer
  (try dsimp only)
  repeat' first
    | with_reducible exact State.Keeps.refl _ _
    | with_reducible apply State.Keeps.ite
    | ((with_reducible apply State.Keeps.step (State.tgtEnd_keeps ..)); rotate_right; decide)
    | ((with_reducible apply State.Keeps.step (State.putConn_keeps ..)); rotate_right; decide)
    | ((with_reducible apply State.Keeps.step (State.tgtCheck_keeps ..)); rotate_right; decide)
    | ((with_reducible apply State.Keeps.step (State.stepFault_keeps ..)); rotate_right; decide)
    | ((with_reducible apply State.Keeps.step (State.modCmd_keeps ..)); rotate_right; decide)
    | ((with_reducible apply State.Keeps.step (State.cxlAnswer_keeps ..)); rotate_right; decide)
    | ((with_reducible apply State.Keeps.step (State.incMod_keeps ..)); rotate_right; decide)
    | ((with_reducible apply State.Keeps.step (State.dropRead_keeps ..)); rotate_right; decide)
    | with_reducible assumption
    | ((with_reducible apply State.Keeps.step (State.mediaGoesOn_keeps ..)); rotate_right; decide)
    | with_reducible refine State.Keeps.fst ‹_ = (_, _)› ?_
    | split

def State.serveUnit_scope : Scope := ⟨[.regs, .evf, .recd, .xlt, .hp, .qe, .mov, .tier, .pan, .cmn, .pwr, .dmc, .out, .free], some [CME.VIOL_TX, CMP.TX_FRAMES, EVF.ALERT_DRV, EVF.TRACE_DROP, HDR.ERR_INFO0, HDR.ERR_INFO1, HDR.ERR_STAT, HDR.EVT_STAT, HP.POISON_CNT, MGT.ALARM_SENT, MOV.FAULT_CNT, MOV.LAST_FCLASS, MOV.LAST_FOFF, MOV.LAST_STATUS, MOV.OFFLINE, MOV.STATE, PAN.HIT_CNT, PAN.MISS_CNT, PAN.WB_CNT, PWR.PWR_WAKE_LATCH, PWR.STATE, REC.ALARM_DROP, REC.HEAD_SEQ, REC.LOST_CNT, REC.OVW_CNT, REC.RSV_USED, TIER.SLOW_PATH]⟩
theorem State.serveUnit_keeps (s : State) (p : Nat) (u : Nat) : State.Keeps State.serveUnit_scope s (State.serveUnit s p u) := by
  unfold State.serveUnit
  (try dsimp only)
  repeat' first
    | with_reducible exact State.Keeps.refl _ _
    | with_reducible assumption
    | with_reducible apply State.Keeps.ite
    | ((with_reducible apply State.Keeps.step (State.answer_keeps ..)); rotate_right; decide)
    | ((with_reducible apply State.Keeps.step (State.panTouch_keeps ..)); rotate_right; decide)
    | ((with_reducible apply State.Keeps.foldl); rotate_right; intro _ _ _; rotate_left)
    | ((with_reducible apply State.Keeps.step (State.train_keeps ..)); rotate_right; decide)
    | with_reducible refine State.Keeps.fst ‹_ = (_, _)› ?_
    | ((with_reducible apply State.Keeps.foldl1); rotate_right; intro _ _ _; rotate_left)
    | split

def State.mbDone_scope : Scope := ⟨[.hp, .out], some []⟩
theorem State.mbDone_keeps (s : State) (p : Nat) (l : Nat) (op : Nat) (dpa : Nat) : State.Keeps State.mbDone_scope s (State.mbDone s p l op dpa) := by
  unfold State.mbDone
  (try dsimp only)
  repeat' first
    | with_reducible exact State.Keeps.refl _ _
    | with_reducible assumption
    | with_reducible apply State.Keeps.ite
    | ((with_reducible apply State.Keeps.step (State.addPoison_keeps ..)); rotate_right; decide)
    | ((with_reducible apply State.Keeps.step (State.putLd_keeps ..)); rotate_right; decide)
    | ((with_reducible apply State.Keeps.step (State.emit_keeps ..)); rotate_right; decide)

def State.mbSweep_scope : Scope := ⟨[.hp, .out], some []⟩
theorem State.mbSweep_keeps (s : State) : State.Keeps State.mbSweep_scope s (State.mbSweep s) := by
  unfold State.mbSweep
  (try dsimp only)
  repeat' first
    | with_reducible exact State.Keeps.refl _ _
    | with_reducible assumption
    | with_reducible apply State.Keeps.ite
    | fail_if_no_progress ((with_reducible apply State.Keeps.upd_hp); rotate_right; decide)
    | ((with_reducible apply State.Keeps.step (State.mbDone_keeps ..)); rotate_right; decide)
    | ((with_reducible apply State.Keeps.foldl1); rotate_right; intro _ _ _; rotate_left)
    | ((with_reducible apply State.Keeps.foldl); rotate_right; intro _ _ _; rotate_left)

def State.ackSweep_scope : Scope := ⟨[.regs, .evf, .recd, .xlt, .hp, .qe, .mov, .tier, .pan, .twn, .cmn, .pwr, .dmc, .flm, .out, .free], some [CME.VIOL_TX, CMP.TX_FRAMES, EVF.ALERT_DRV, EVF.TRACE_DROP, HDR.ERR_INFO0, HDR.ERR_INFO1, HDR.ERR_STAT, HDR.EVT_STAT, MGT.ALARM_SENT, MOV.LAST_FCLASS, MOV.LAST_FOFF, MOV.LAST_STATUS, PAN.HIT_CNT, PAN.MISS_CNT, PAN.WB_CNT, PWR.PWR_WAKE_LATCH, PWR.STATE, REC.ALARM_DROP, REC.HEAD_SEQ, REC.LOST_CNT, REC.OVW_CNT, REC.RSV_USED, TIER.MISSED, TIER.ON_TIME, TIER.QUOTA_REFUSE, TIER.SUBST]⟩
theorem State.ackSweep_keeps (s : State) : State.Keeps State.ackSweep_scope s (State.ackSweep s) := by
  unfold State.ackSweep
  (try dsimp only)
  repeat' first
    | with_reducible exact State.Keeps.refl _ _
    | ((with_reducible apply State.Keeps.step (State.issuedSweep_keeps ..)); rotate_right; decide)
    | ((with_reducible apply State.Keeps.step (State.tgtSweep_keeps ..)); rotate_right; decide)
    | with_reducible assumption
    | with_reducible apply State.Keeps.ite
    | ((with_reducible apply State.Keeps.step (State.mbSweep_keeps ..)); rotate_right; decide)

def State.startPath_scope : Scope := ⟨[.regs, .evf, .recd, .xlt, .hp, .qe, .mov, .tier, .cmn, .pwr, .flm, .out, .free], some [CME.VIOL_TX, CMP.TX_FRAMES, EVF.ALERT_DRV, EVF.TRACE_DROP, HDR.ERR_INFO0, HDR.ERR_INFO1, HDR.ERR_STAT, HDR.EVT_STAT, HP.POISON_CNT, MGT.ALARM_SENT, MOV.FAULT_CNT, MOV.LAST_FCLASS, MOV.LAST_FOFF, MOV.LAST_STATUS, MOV.OFFLINE, MOV.STATE, PWR.PWR_WAKE_LATCH, PWR.STATE, REC.ALARM_DROP, REC.HEAD_SEQ, REC.LOST_CNT, REC.OVW_CNT, REC.RSV_USED, TIER.SLOW_PATH, TIER.SUBST]⟩
theorem State.startPath_keeps (s : State) (r : WaitRead) (k : Nat) : State.Keeps State.startPath_scope s (State.startPath s r k) := by
  unfold State.startPath
  (try dsimp only)
  repeat' first
    | with_reducible exact State.Keeps.refl _ _
    | ((with_reducible apply State.Keeps.step (State.answer_keeps ..)); rotate_right; decide)
    | ((with_reducible apply State.Keeps.step (State.pathFrom_keeps ..)); rotate_right; decide)
    | split
    | with_reducible refine State.Keeps.fst ‹_ = (_, _)› ?_

def State.failReads_scope : Scope := State.startPath_scope
theorem State.failReads_keeps (s : State) (p : Nat) (u : Nat) : State.Keeps State.failReads_scope s (State.failReads s p u) := by
  unfold State.failReads
  (try dsimp only)
  repeat' first
    | with_reducible exact State.Keeps.refl _ _
    | with_reducible assumption
    | with_reducible apply State.Keeps.ite
    | ((with_reducible apply State.Keeps.step (State.startPath_keeps ..)); rotate_right; decide)
    | ((with_reducible apply State.Keeps.foldl); rotate_right; intro _ _ _; rotate_left)

def State.mbAccepted_scope : Scope := ⟨[.hp, .out], some []⟩
theorem State.mbAccepted_keeps (s : State) (p : Nat) (l : Nat) (op : Nat) (dpa : Nat) (m : Option Nat) : State.Keeps State.mbAccepted_scope s (State.mbAccepted s p l op dpa m) := by
  unfold State.mbAccepted
  (try dsimp only)
  repeat' first
    | with_reducible exact State.Keeps.refl _ _
    | with_reducible assumption
    | with_reducible apply State.Keeps.ite
    | fail_if_no_progress ((with_reducible apply State.Keeps.upd_hp); rotate_right; decide)
    | ((with_reducible apply State.Keeps.step (State.mbDone_keeps ..)); rotate_right; decide)

def State.fillDone_scope : Scope := State.serveUnit_scope
theorem State.fillDone_keeps (s : State) (p : Nat) (u : Nat) : State.Keeps State.fillDone_scope s (State.fillDone s p u) := by
  unfold State.fillDone
  (try dsimp only)
  repeat' first
    | with_reducible exact State.Keeps.refl _ _
    | with_reducible apply State.Keeps.ite
    | ((with_reducible apply State.Keeps.step (State.unitArrive_keeps ..)); rotate_right; decide)
    | ((with_reducible apply State.Keeps.step (State.serveUnit_keeps ..)); rotate_right; decide)
    | ((with_reducible apply State.Keeps.step (State.fillEnd_keeps ..)); rotate_right; decide)
    | ((with_reducible apply State.Keeps.step (State.raiseSweep_keeps ..)); rotate_right; decide)
    | ((with_reducible apply State.Keeps.step (State.movSettle_keeps ..)); rotate_right; decide)
    | split

def State.refuseHeld_scope : Scope := ⟨[.regs, .evf, .recd, .xlt, .hp, .qe, .mov, .tier, .cmn, .pwr, .out, .free], some [CME.VIOL_TX, CMP.TX_FRAMES, EVF.ALERT_DRV, EVF.TRACE_DROP, HDR.ERR_INFO0, HDR.ERR_INFO1, HDR.ERR_STAT, HDR.EVT_STAT, HP.REFUSE_CNT, MGT.ALARM_SENT, MOV.FAULT_CNT, MOV.LAST_FCLASS, MOV.LAST_FOFF, MOV.LAST_STATUS, MOV.OFFLINE, MOV.STATE, PWR.PWR_WAKE_LATCH, PWR.STATE, REC.ALARM_DROP, REC.HEAD_SEQ, REC.LOST_CNT, REC.OVW_CNT, REC.RSV_USED]⟩
theorem State.refuseHeld_keeps (s : State) (w : HeldWrite) (st : Status) : State.Keeps State.refuseHeld_scope s (State.refuseHeld s w st) := by
  unfold State.refuseHeld
  (try dsimp only)
  repeat' first
    | with_reducible exact State.Keeps.refl _ _
    | fail_if_no_progress ((with_reducible apply State.Keeps.upd_hp); rotate_right; decide)
    | ((with_reducible apply State.Keeps.step (State.stepFault_keeps ..)); rotate_right; decide)
    | ((with_reducible apply State.Keeps.step (State.tgtEnd_keeps ..)); rotate_right; decide)
    | ((with_reducible apply State.Keeps.step (State.cxlRefuse_keeps ..)); rotate_right; decide)
    | with_reducible assumption
    | with_reducible apply State.Keeps.ite
    | ((with_reducible apply State.Keeps.step (State.emit_keeps ..)); rotate_right; decide)
    | with_reducible refine State.Keeps.fst ‹_ = (_, _)› ?_
    | ((with_reducible apply State.Keeps.step (State.settleAll_keeps ..)); rotate_right; decide)
    | split

def State.refuseUnit_scope : Scope := ⟨[.regs, .evf, .recd, .xlt, .hp, .qe, .mov, .tier, .cmn, .pwr, .out, .free], some [CME.VIOL_TX, CMP.TX_FRAMES, EVF.ALERT_DRV, EVF.TRACE_DROP, HDR.ERR_INFO0, HDR.ERR_INFO1, HDR.ERR_STAT, HDR.EVT_STAT, HP.REFUSE_CNT, MGT.ALARM_SENT, MOV.FAULT_CNT, MOV.LAST_FCLASS, MOV.LAST_FOFF, MOV.LAST_STATUS, MOV.OFFLINE, MOV.STATE, PWR.PWR_WAKE_LATCH, PWR.STATE, REC.ALARM_DROP, REC.HEAD_SEQ, REC.LOST_CNT, REC.OVW_CNT, REC.RSV_USED]⟩
theorem State.refuseUnit_keeps (s : State) (p : Nat) (u : Nat) (st : Status) : State.Keeps State.refuseUnit_scope s (State.refuseUnit s p u st) := by
  unfold State.refuseUnit
  (try dsimp only)
  repeat' first
    | with_reducible exact State.Keeps.refl _ _
    | with_reducible assumption
    | fail_if_no_progress ((with_reducible apply State.Keeps.upd_tier); rotate_right; decide)
    | ((with_reducible apply State.Keeps.step (State.refuseHeld_keeps ..)); rotate_right; decide)
    | ((with_reducible apply State.Keeps.foldl); rotate_right; intro _ _ _; rotate_left)
    | with_reducible apply State.Keeps.ite
    | ((with_reducible apply State.Keeps.step (State.stepFault_keeps ..)); rotate_right; decide)
    | ((with_reducible apply State.Keeps.foldl1); rotate_right; intro _ _ _; rotate_left)
    | with_reducible refine State.Keeps.fst ‹_ = (_, _)› ?_
    | split

def State.directFail_scope : Scope := ⟨[.regs, .evf, .recd, .xlt, .hp, .qe, .mov, .tier, .cmn, .pwr, .flm, .out, .free], some [CME.VIOL_TX, CMP.TX_FRAMES, EVF.ALERT_DRV, EVF.TRACE_DROP, HDR.ERR_INFO0, HDR.ERR_INFO1, HDR.ERR_STAT, HDR.EVT_STAT, HP.POISON_CNT, MGT.ALARM_SENT, MOV.FAULT_CNT, MOV.LAST_FCLASS, MOV.LAST_FOFF, MOV.LAST_STATUS, MOV.OFFLINE, MOV.STATE, PWR.PWR_WAKE_LATCH, PWR.STATE, REC.ALARM_DROP, REC.HEAD_SEQ, REC.LOST_CNT, REC.OVW_CNT, REC.RSV_USED, TIER.SLOW_PATH, TIER.SUBST]⟩
theorem State.directFail_keeps (s : State) (p : Nat) (u : Nat) : State.Keeps State.directFail_scope s (State.directFail s p u) := by
  unfold State.directFail
  (try dsimp only)
  repeat' first
    | with_reducible exact State.Keeps.refl _ _
    | with_reducible assumption
    | with_reducible apply State.Keeps.ite
    | ((with_reducible apply State.Keeps.step (State.setRead_keeps ..)); rotate_right; decide)
    | ((with_reducible apply State.Keeps.step (State.startPath_keeps ..)); rotate_right; decide)
    | ((with_reducible apply State.Keeps.foldl); rotate_right; intro _ _ _; rotate_left)

def State.fillFail_scope : Scope := ⟨[.regs, .evf, .recd, .xlt, .hp, .qe, .mov, .tier, .pan, .cmn, .pwr, .dmc, .flm, .out, .free], some [CME.VIOL_TX, CMP.TX_FRAMES, EVF.ALERT_DRV, EVF.TRACE_DROP, HDR.ERR_INFO0, HDR.ERR_INFO1, HDR.ERR_STAT, HDR.EVT_STAT, HP.POISON_CNT, HP.REFUSE_CNT, MGT.ALARM_SENT, MOV.FAULT_CNT, MOV.LAST_FCLASS, MOV.LAST_FOFF, MOV.LAST_STATUS, MOV.OFFLINE, MOV.STATE, PAN.LOCKS_RELEASED, PAN.LOCK_LOST_CNT, PAN.WB_CNT, PWR.PWR_WAKE_LATCH, PWR.STATE, REC.ALARM_DROP, REC.HEAD_SEQ, REC.LOST_CNT, REC.OVW_CNT, REC.RSV_USED, TIER.SLOW_PATH, TIER.SUBST]⟩
theorem State.fillFail_keeps (s : State) (p : Nat) (u : Nat) : State.Keeps State.fillFail_scope s (State.fillFail s p u) := by
  unfold State.fillFail
  (try dsimp only)
  repeat' first
    | with_reducible exact State.Keeps.refl _ _
    | with_reducible assumption
    | with_reducible apply State.Keeps.ite
    | ((with_reducible apply State.Keeps.step (State.refuseUnit_keeps ..)); rotate_right; decide)
    | ((with_reducible apply State.Keeps.step (State.failReads_keeps ..)); rotate_right; decide)
    | ((with_reducible apply State.Keeps.step (State.fillEnd_keeps ..)); rotate_right; decide)
    | ((with_reducible apply State.Keeps.step (State.raiseSweep_keeps ..)); rotate_right; decide)
    | ((with_reducible apply State.Keeps.step (State.movSettle_keeps ..)); rotate_right; decide)
    | ((with_reducible apply State.Keeps.step (State.putBlock_keeps ..)); rotate_right; decide)
    | ((with_reducible apply State.Keeps.step (State.freeBlock_keeps ..)); rotate_right; decide)
    | ((with_reducible apply State.Keeps.foldl); rotate_right; intro _ _ _; rotate_left)
    | ((with_reducible apply State.Keeps.step (State.raiseFail_keeps ..)); rotate_right; decide)
    | ((with_reducible apply State.Keeps.step (State.releaseBlock_keeps ..)); rotate_right; decide)
    | ((with_reducible apply State.Keeps.step (State.sluSweep_keeps ..)); rotate_right; decide)
    | with_reducible refine State.Keeps.fst ‹_ = (_, _)› ?_
    | split

def State.releaseHead_scope : Scope := ⟨[.regs, .evf, .recd, .xlt, .hp, .qe, .mov, .tier, .pan, .twn, .cmn, .pwr, .dmc, .flm, .out, .free], some [CME.VIOL_TX, CMP.TX_FRAMES, EVF.ALERT_DRV, EVF.TRACE_DROP, HDR.ERR_INFO0, HDR.ERR_INFO1, HDR.ERR_STAT, HDR.EVT_STAT, HP.REFUSE_CNT, MGT.ALARM_SENT, MOV.FAULT_CNT, MOV.LAST_FCLASS, MOV.LAST_FOFF, MOV.LAST_STATUS, MOV.OFFLINE, MOV.STATE, PAN.WB_CNT, PWR.PWR_WAKE_LATCH, PWR.STATE, REC.ALARM_DROP, REC.HEAD_SEQ, REC.LOST_CNT, REC.OVW_CNT, REC.RSV_USED, TIER.QUOTA_REFUSE]⟩
theorem State.releaseHead_keeps (s : State) (src : WriteSrc) : State.Keeps State.releaseHead_scope s (State.releaseHead s src) := by
  unfold State.releaseHead
  (try dsimp only)
  repeat' first
    | with_reducible exact State.Keeps.refl _ _
    | with_reducible assumption
    | with_reducible apply State.Keeps.ite
    | fail_if_no_progress ((with_reducible apply State.Keeps.upd_hp); rotate_right; decide)
    | fail_if_no_progress ((with_reducible apply State.Keeps.upd_tier); rotate_right; decide)
    | fail_if_no_progress ((with_reducible apply State.Keeps.upd); rotate_right; (intro p hp; cases p <;> first | exact absurd (by decide) hp | exact rfl))
    | ((with_reducible apply State.Keeps.step (State.refuseHeld_keeps ..)); rotate_right; decide)
    | ((with_reducible apply State.Keeps.step (State.resolve_keeps ..)); rotate_right; decide)
    | ((with_reducible apply State.Keeps.step (State.tryWrite_keeps ..)); rotate_right; decide)
    | ((with_reducible apply State.Keeps.step (State.modConn_keeps ..)); rotate_right; decide)
    | ((with_reducible apply State.Keeps.step (State.tgtCheck_keeps ..)); rotate_right; decide)
    | ((with_reducible apply State.Keeps.step (State.mbAccepted_keeps ..)); rotate_right; decide)
    | with_reducible refine State.Keeps.fst ‹_ = (_, _)› ?_
    | split

def State.releaseRest_scope : Scope := ⟨[.regs, .evf, .recd, .xlt, .hp, .qe, .mov, .tier, .pan, .twn, .cmn, .pwr, .dmc, .flm, .out, .free], some [CME.VIOL_TX, CMP.TX_FRAMES, EVF.ALERT_DRV, EVF.TRACE_DROP, HDR.ERR_INFO0, HDR.ERR_INFO1, HDR.ERR_STAT, HDR.EVT_STAT, HP.REFUSE_CNT, MGT.ALARM_SENT, MOV.FAULT_CNT, MOV.LAST_FCLASS, MOV.LAST_FOFF, MOV.LAST_STATUS, MOV.OFFLINE, MOV.STATE, PAN.WB_CNT, PWR.PWR_WAKE_LATCH, PWR.STATE, REC.ALARM_DROP, REC.HEAD_SEQ, REC.LOST_CNT, REC.OVW_CNT, REC.RSV_USED, TIER.QUOTA_REFUSE]⟩
theorem State.releaseRest_keeps (a0 : Nat) (src : WriteSrc) (a1 : State) : State.Keeps State.releaseRest_scope a1 (State.releaseRest a0 src a1) := by
  induction a0 generalizing a1 with
  | zero => exact State.Keeps.refl _ _
  | succ _ ih =>
   unfold State.releaseRest
   (try dsimp only)
   repeat' first
    | ((with_reducible apply State.Keeps.step (ih ..)); rotate_right; decide)
    | with_reducible exact State.Keeps.refl _ _
    | with_reducible apply State.Keeps.ite
    | ((with_reducible apply State.Keeps.step (State.releaseHead_keeps ..)); rotate_right; decide)
    | with_reducible assumption
    | with_reducible refine State.Keeps.fst ‹_ = (_, _)› ?_
    | split

def State.releaseOne_scope : Scope := ⟨[.regs, .evf, .recd, .xlt, .hp, .qe, .mov, .tier, .pan, .twn, .cmn, .pwr, .dmc, .flm, .out, .free], some [CME.VIOL_TX, CMP.TX_FRAMES, EVF.ALERT_DRV, EVF.TRACE_DROP, HDR.ERR_INFO0, HDR.ERR_INFO1, HDR.ERR_STAT, HDR.EVT_STAT, HP.REFUSE_CNT, MGT.ALARM_SENT, MOV.FAULT_CNT, MOV.LAST_FCLASS, MOV.LAST_FOFF, MOV.LAST_STATUS, MOV.OFFLINE, MOV.STATE, PAN.WB_CNT, PWR.PWR_WAKE_LATCH, PWR.STATE, REC.ALARM_DROP, REC.HEAD_SEQ, REC.LOST_CNT, REC.OVW_CNT, REC.RSV_USED, TIER.QUOTA_REFUSE]⟩
theorem State.releaseOne_keeps (s : State) (src : WriteSrc) : State.Keeps State.releaseOne_scope s (State.releaseOne s src) := by
  unfold State.releaseOne
  (try dsimp only)
  repeat' first
    | with_reducible exact State.Keeps.refl _ _
    | with_reducible apply State.Keeps.ite
    | ((with_reducible apply State.Keeps.step (State.modConn_keeps ..)); rotate_right; decide)
    | ((with_reducible apply State.Keeps.step (State.tgtCheck_keeps ..)); rotate_right; decide)
    | ((with_reducible apply State.Keeps.step (State.refuseHeld_keeps ..)); rotate_right; decide)
    | ((with_reducible apply State.Keeps.step (State.tryWrite_keeps ..)); rotate_right; decide)
    | ((with_reducible apply State.Keeps.step (State.resolve_keeps ..)); rotate_right; decide)
    | fail_if_no_progress ((with_reducible apply State.Keeps.upd); rotate_right; (intro p hp; cases p <;> first | exact absurd (by decide) hp | exact rfl))
    | with_reducible refine State.Keeps.fst ‹_ = (_, _)› ?_
    | with_reducible assumption
    | fail_if_no_progress ((with_reducible apply State.Keeps.upd_hp); rotate_right; decide)
    | fail_if_no_progress ((with_reducible apply State.Keeps.upd_tier); rotate_right; decide)
    | ((with_reducible apply State.Keeps.step (State.mbDone_keeps ..)); rotate_right; decide)
    | ((with_reducible apply State.Keeps.step (State.releaseHead_keeps ..)); rotate_right; decide)
    | ((with_reducible apply State.Keeps.step (State.releaseRest_keeps ..)); rotate_right; decide)
    | split

def State.directDone_scope : Scope := ⟨[.regs, .evf, .recd, .xlt, .hp, .qe, .mov, .tier, .cmn, .pwr, .out, .free], some [CME.VIOL_TX, CMP.TX_FRAMES, EVF.ALERT_DRV, EVF.TRACE_DROP, HDR.ERR_INFO0, HDR.ERR_INFO1, HDR.ERR_STAT, HDR.EVT_STAT, HP.POISON_CNT, MGT.ALARM_SENT, MOV.FAULT_CNT, MOV.LAST_FCLASS, MOV.LAST_FOFF, MOV.LAST_STATUS, MOV.OFFLINE, MOV.STATE, PWR.PWR_WAKE_LATCH, PWR.STATE, REC.ALARM_DROP, REC.HEAD_SEQ, REC.LOST_CNT, REC.OVW_CNT, REC.RSV_USED, TIER.SLOW_PATH]⟩
theorem State.directDone_keeps (s : State) (p : Nat) (u : Nat) (priority : Bool) : State.Keeps State.directDone_scope s (State.directDone s p u priority) := by
  unfold State.directDone
  (try dsimp only)
  repeat' first
    | with_reducible exact State.Keeps.refl _ _
    | with_reducible assumption
    | with_reducible apply State.Keeps.ite
    | ((with_reducible apply State.Keeps.step (State.answer_keeps ..)); rotate_right; decide)
    | ((with_reducible apply State.Keeps.foldl); rotate_right; intro _ _ _; rotate_left)

def State.unitRead_scope : Scope := ⟨[.regs, .evf, .recd, .xlt, .hp, .qe, .mov, .tier, .pan, .cmn, .pwr, .dmc, .out, .free], some [CME.VIOL_TX, CMP.TX_FRAMES, EVF.ALERT_DRV, EVF.TRACE_DROP, HDR.ERR_INFO0, HDR.ERR_INFO1, HDR.ERR_STAT, HDR.EVT_STAT, HP.POISON_CNT, MGT.ALARM_SENT, MOV.FAULT_CNT, MOV.LAST_FCLASS, MOV.LAST_FOFF, MOV.LAST_STATUS, MOV.OFFLINE, MOV.STATE, PAN.HIT_CNT, PAN.MISS_CNT, PAN.WB_CNT, PWR.PWR_WAKE_LATCH, PWR.STATE, REC.ALARM_DROP, REC.HEAD_SEQ, REC.LOST_CNT, REC.OVW_CNT, REC.RSV_USED, TIER.SLOW_PATH]⟩
theorem State.unitRead_keeps (s : State) (p : Nat) (u : Nat) (priority : Bool) : State.Keeps State.unitRead_scope s (State.unitRead s p u priority) := by
  unfold State.unitRead
  (try dsimp only)
  repeat' first
    | with_reducible exact State.Keeps.refl _ _
    | with_reducible assumption
    | with_reducible apply State.Keeps.ite
    | ((with_reducible apply State.Keeps.step (State.fillDone_keeps ..)); rotate_right; decide)
    | ((with_reducible apply State.Keeps.step (State.directDone_keeps ..)); rotate_right; decide)
    | ((with_reducible apply State.Keeps.step (State.movSettle_keeps ..)); rotate_right; decide)

end Sys2Proof.Machine
end

