-- ==== Sys2Proof/Laws/KeepRegionOps.lean ====
section
/-! SUPPORT. What each operation of Machine/RegionOps.lean keeps: the parts of State it can change are those listed. -/
set_option linter.unusedTactic false
set_option linter.unreachableTactic false
namespace Sys2Proof.Machine

def State.discardBlock_scope : Scope := ⟨[.regs, .evf, .recd, .hp, .tier, .pan, .pwr, .dmc, .flm, .out, .free], some [EVF.ALERT_DRV, EVF.TRACE_DROP, HDR.ERR_INFO0, HDR.ERR_INFO1, HDR.ERR_STAT, HDR.EVT_STAT, MGT.ALARM_SENT, PAN.LOCKS_RELEASED, PAN.LOCK_LOST_CNT, PAN.WB_CNT, PWR.PWR_WAKE_LATCH, PWR.STATE, REC.ALARM_DROP, REC.HEAD_SEQ, REC.LOST_CNT, REC.OVW_CNT, REC.RSV_USED]⟩
theorem State.discardBlock_keeps (s : State) (p : Nat) : State.Keeps State.discardBlock_scope s (State.discardBlock s p) := by
  unfold State.discardBlock
  (try dsimp only)
  repeat' first
    | with_reducible exact State.Keeps.refl _ _
    | ((with_reducible apply State.Keeps.step (State.panForget_keeps ..)); rotate_right; decide)
    | ((with_reducible apply State.Keeps.step (State.freeBlock_keeps ..)); rotate_right; decide)
    | fail_if_no_progress ((with_reducible apply State.Keeps.upd); rotate_right; (intro p hp; cases p <;> first | exact absurd (by decide) hp | exact rfl))
    | with_reducible assumption
    | with_reducible apply State.Keeps.ite
    | fail_if_no_progress ((with_reducible apply State.Keeps.upd_flm); rotate_right; decide)
    | fail_if_no_progress ((with_reducible apply State.Keeps.upd_tier); rotate_right; decide)
    | ((with_reducible apply State.Keeps.step (State.frameWaitDrop_keeps ..)); rotate_right; decide)

def State.brineVolatile_scope : Scope := ⟨[.tier], some []⟩
theorem State.brineVolatile_keeps (s : State) (id : Nat) : State.Keeps State.brineVolatile_scope s (State.brineVolatile s id) := by
  unfold State.brineVolatile
  (try dsimp only)
  repeat' first
    | with_reducible exact State.Keeps.refl _ _
    | fail_if_no_progress ((with_reducible apply State.Keeps.upd_tier); rotate_right; decide)

def State.createId_scope : Scope := ⟨[.free], some []⟩
theorem State.createId_keeps (s : State) (id : Nat) : State.Keeps State.createId_scope s (State.createId s id).1 := by
  unfold State.createId
  (try dsimp only)
  repeat' first
    | with_reducible exact State.Keeps.refl _ _
    | ((with_reducible apply State.Keeps.step (State.useFree_keeps ..)); rotate_right; decide)
    | with_reducible apply State.Keeps.ite1
    | with_reducible assumption
    | with_reducible apply State.Keeps.ite
    | dsimp only

def State.grantPbns_scope : Scope := ⟨[.free], some []⟩
theorem State.grantPbns_keeps (a0 : Nat) (a1 : List Nat) (a2 : List Nat) (a3 : State) : State.Keeps State.grantPbns_scope a3 (State.grantPbns a0 a1 a2 a3).1 := by
  induction a0 generalizing a1 a2 a3 with
  | zero => exact State.Keeps.refl _ _
  | succ _ ih =>
   unfold State.grantPbns
   (try dsimp only)
   repeat' first
    | ((with_reducible apply State.Keeps.step (ih ..)); rotate_right; decide)
    | with_reducible exact State.Keeps.refl _ _
    | ((with_reducible apply State.Keeps.step (State.useFree_keeps ..)); rotate_right; decide)
    | with_reducible apply State.Keeps.ite1

def State.putBmes_scope : Scope := ⟨[.xlt], some []⟩
theorem State.putBmes_keeps (s : State) (region : Nat) (from' : Nat) (pbns : List Nat) : State.Keeps State.putBmes_scope s (State.putBmes s region from' pbns) := by
  unfold State.putBmes
  (try dsimp only)
  repeat' first
    | with_reducible exact State.Keeps.refl _ _
    | with_reducible assumption
    | fail_if_no_progress ((with_reducible apply State.Keeps.upd_xlt); rotate_right; decide)
    | ((with_reducible apply State.Keeps.foldl1); rotate_right; intro _ _ _; rotate_left)

def State.regOpen_scope : Scope := ⟨[.xlt, .free], some []⟩
theorem State.regOpen_keeps (s : State) (tenant : Nat) (d : Region) (id : Nat) (base : Nat) (len : Nat) (w : Bool) (r : Bool) (nodeAny : Bool) (node : Nat) : State.Keeps State.regOpen_scope s (State.regOpen s tenant d id base len w r nodeAny node).1 := by
  unfold State.regOpen
  (try dsimp only)
  repeat' first
    | with_reducible exact State.Keeps.refl _ _
    | ((with_reducible apply State.Keeps.step (State.useFree_keeps ..)); rotate_right; decide)
    | ((with_reducible apply State.Keeps.step (State.putRegistration_keeps ..)); rotate_right; decide)
    | with_reducible apply State.Keeps.ite1

def State.regionPurge_scope : Scope := ⟨[.regs, .evf, .recd, .xlt, .hp, .tier, .pan, .pwr, .dmc, .flm, .out, .free], some [EVF.ALERT_DRV, EVF.TRACE_DROP, HDR.ERR_INFO0, HDR.ERR_INFO1, HDR.ERR_STAT, HDR.EVT_STAT, MGT.ALARM_SENT, PAN.LOCKS_RELEASED, PAN.LOCK_LOST_CNT, PAN.WB_CNT, PWR.PWR_WAKE_LATCH, PWR.STATE, REC.ALARM_DROP, REC.HEAD_SEQ, REC.LOST_CNT, REC.OVW_CNT, REC.RSV_USED]⟩
theorem State.regionPurge_keeps (s : State) (id : Nat) : State.Keeps State.regionPurge_scope s (State.regionPurge s id) := by
  unfold State.regionPurge
  (try dsimp only)
  repeat' first
    | with_reducible exact State.Keeps.refl _ _
    | with_reducible assumption
    | fail_if_no_progress ((with_reducible apply State.Keeps.upd_xlt); rotate_right; decide)
    | ((with_reducible apply State.Keeps.step (State.putQuota_keeps ..)); rotate_right; decide)
    | ((with_reducible apply State.Keeps.step (State.discardBlock_keeps ..)); rotate_right; decide)
    | ((with_reducible apply State.Keeps.foldl); rotate_right; intro _ _ _; rotate_left)

def State.extentGone_scope : Scope := ⟨[.hp, .out], some []⟩
theorem State.extentGone_keeps (s : State) (e : Nat) : State.Keeps State.extentGone_scope s (State.extentGone s e) := by
  unfold State.extentGone
  (try dsimp only)
  repeat' first
    | with_reducible exact State.Keeps.refl _ _
    | with_reducible assumption
    | with_reducible apply State.Keeps.ite
    | ((with_reducible apply State.Keeps.step (State.emit_keeps ..)); rotate_right; decide)
    | ((with_reducible apply State.Keeps.step (State.putLd_keeps ..)); rotate_right; decide)
    | with_reducible refine State.Keeps.fst ‹_ = (_, _)› ?_
    | split

def State.regionAfter_scope : Scope := ⟨[.regs, .evf, .recd, .xlt, .hp, .qe, .tier, .pan, .pwr, .dmc, .flm, .out, .free], some [EVF.ALERT_DRV, EVF.TRACE_DROP, HDR.ERR_INFO0, HDR.ERR_INFO1, HDR.ERR_STAT, HDR.EVT_STAT, MGT.ALARM_SENT, PAN.LOCKS_RELEASED, PAN.LOCK_LOST_CNT, PAN.WB_CNT, PWR.PWR_WAKE_LATCH, PWR.STATE, REC.ALARM_DROP, REC.HEAD_SEQ, REC.LOST_CNT, REC.OVW_CNT, REC.RSV_USED]⟩
theorem State.regionAfter_keeps (s : State) (a1 : InvalFor) : State.Keeps State.regionAfter_scope s (State.regionAfter s a1) := by
  unfold State.regionAfter
  (try dsimp only)
  repeat' first
    | with_reducible exact State.Keeps.refl _ _
    | ((with_reducible apply State.Keeps.step (State.modCmd_keeps ..)); rotate_right; decide)
    | ((with_reducible apply State.Keeps.step (State.barrierIssue_keeps ..)); rotate_right; decide)
    | ((with_reducible apply State.Keeps.step (State.brineVolatile_keeps ..)); rotate_right; decide)
    | ((with_reducible apply State.Keeps.step (State.cmdResult_keeps ..)); rotate_right; decide)
    | ((with_reducible apply State.Keeps.step (State.regionPurge_keeps ..)); rotate_right; decide)
    | with_reducible assumption
    | with_reducible apply State.Keeps.ite
    | ((with_reducible apply State.Keeps.step (State.putLd_keeps ..)); rotate_right; decide)
    | ((with_reducible apply State.Keeps.step (State.emit_keeps ..)); rotate_right; decide)
    | with_reducible refine State.Keeps.fst ‹_ = (_, _)› ?_
    | ((with_reducible apply State.Keeps.step (State.extentGone_keeps ..)); rotate_right; decide)
    | split

def State.t2Charge_scope : Scope := ⟨[.tier], some []⟩
theorem State.t2Charge_keeps (s : State) (t : Nat) (n : Nat) : State.Keeps State.t2Charge_scope s (State.t2Charge s t n).1 := by
  unfold State.t2Charge
  (try dsimp only)
  repeat' first
    | with_reducible exact State.Keeps.refl _ _
    | ((with_reducible apply State.Keeps.step (State.putQuota_keeps ..)); rotate_right; decide)
    | with_reducible apply State.Keeps.ite1

def State.regionCreate_scope : Scope := ⟨[.xlt, .tier, .free], some []⟩
theorem State.regionCreate_keeps (s : State) (tenant : Nat) (id : Nat) (size : BitVec 32) (d0 : BitVec 32) (d1 : BitVec 32) (deadline : BitVec 20) (w : BitVec 4) : State.Keeps State.regionCreate_scope s (State.regionCreate s tenant id size d0 d1 deadline w).1 := by
  unfold State.regionCreate
  (try dsimp only)
  repeat' first
    | with_reducible exact State.Keeps.refl _ _
    | ((with_reducible apply State.Keeps.step (State.putBmes_keeps ..)); rotate_right; decide)
    | ((with_reducible apply State.Keeps.step (State.grantPbns_keeps ..)); rotate_right; decide)
    | ((with_reducible apply State.Keeps.step (State.t2Charge_keeps ..)); rotate_right; decide)
    | ((with_reducible apply State.Keeps.step (State.createId_keeps ..)); rotate_right; decide)
    | fail_if_no_progress ((with_reducible apply State.Keeps.upd); rotate_right; (intro p hp; cases p <;> first | exact absurd (by decide) hp | exact rfl))
    | with_reducible apply State.Keeps.ite1
    | with_reducible refine State.Keeps.fst ‹_ = (_, _)› ?_
    | with_reducible assumption
    | with_reducible apply State.Keeps.ite
    | fail_if_no_progress ((with_reducible apply State.Keeps.upd_free); rotate_right; decide)
    | fail_if_no_progress ((with_reducible apply State.Keeps.upd_xlt); rotate_right; decide)
    | dsimp only
    | split

def State.regionGrow_scope : Scope := ⟨[.xlt, .tier, .free], some []⟩
theorem State.regionGrow_keeps (s : State) (tenant : Nat) (id : Nat) (size : Nat) : State.Keeps State.regionGrow_scope s (State.regionGrow s tenant id size).1 := by
  unfold State.regionGrow
  (try dsimp only)
  repeat' first
    | with_reducible exact State.Keeps.refl _ _
    | fail_if_no_progress ((with_reducible apply State.Keeps.upd_xlt); rotate_right; decide)
    | ((with_reducible apply State.Keeps.step (State.putBmes_keeps ..)); rotate_right; decide)
    | ((with_reducible apply State.Keeps.step (State.grantPbns_keeps ..)); rotate_right; decide)
    | ((with_reducible apply State.Keeps.step (State.t2Charge_keeps ..)); rotate_right; decide)
    | with_reducible apply State.Keeps.ite1
    | dsimp only
    | split
    | with_reducible refine State.Keeps.fst ‹_ = (_, _)› ?_

def State.regionSet_scope : Scope := ⟨[.xlt], some []⟩
theorem State.regionSet_keeps (s : State) (id : Nat) (d0 : BitVec 32) (d1 : BitVec 32) (deadline : BitVec 20) (w : BitVec 4) (mask : BitVec 4) : State.Keeps State.regionSet_scope s (State.regionSet s id d0 d1 deadline w mask).1 := by
  unfold State.regionSet
  (try dsimp only)
  repeat' first
    | with_reducible exact State.Keeps.refl _ _
    | fail_if_no_progress ((with_reducible apply State.Keeps.upd_xlt); rotate_right; decide)
    | with_reducible apply State.Keeps.ite1

end Sys2Proof.Machine
end

