-- ==== Sys2Proof/Laws/KeepXlt.lean ====
section
/-! SUPPORT. What each operation of Machine/Xlt.lean keeps: the parts of State it can change are those listed. -/
set_option linter.unusedTactic false
set_option linter.unreachableTactic false
namespace Sys2Proof.Machine

def execDescriptorRefetch_scope : Scope := State.refetch_scope
theorem execDescriptorRefetch_keeps (key : XKey) (s : State) : State.KeepsR execDescriptorRefetch_scope s (execDescriptorRefetch key s) := by
  unfold execDescriptorRefetch
  (try dsimp only)
  repeat' first
    | with_reducible exact State.Keeps.refl _ _
    | with_reducible apply State.KeepsR.next
    | with_reducible apply State.Keeps.ite
    | ((with_reducible apply State.Keeps.step (State.refetch_keeps ..)); rotate_right; decide)
    | split

def execHdmDecoderCommit_scope : Scope := ⟨[.hp], some []⟩
theorem execHdmDecoderCommit_keeps (port : Port) (ld : Ld) (n : Fin 32) (base : BitVec 64) (len : BitVec 64) (s : State) : State.KeepsR execHdmDecoderCommit_scope s (execHdmDecoderCommit port ld n base len s) := by
  unfold execHdmDecoderCommit
  (try dsimp only)
  repeat' first
    | with_reducible exact State.Keeps.refl _ _
    | with_reducible apply State.KeepsR.next
    | fail_if_no_progress ((with_reducible apply State.Keeps.upd_hp); rotate_right; decide)

def execHdmDecoderUncommit_scope : Scope := State.inval_scope
theorem execHdmDecoderUncommit_keeps (port : Port) (ld : Ld) (n : Fin 32) (s : State) : State.KeepsR execHdmDecoderUncommit_scope s (execHdmDecoderUncommit port ld n s) := by
  unfold execHdmDecoderUncommit
  (try dsimp only)
  repeat' first
    | with_reducible exact State.Keeps.refl _ _
    | with_reducible apply State.KeepsR.next
    | with_reducible apply State.KeepsR.ite
    | ((with_reducible apply State.Keeps.step (State.inval_keeps ..)); rotate_right; decide)
    | fail_if_no_progress ((with_reducible apply State.Keeps.upd); rotate_right; (intro p hp; cases p <;> first | exact absurd (by decide) hp | exact rfl))
    | split

def execRegistrationSweep_scope : Scope := ⟨[.regs, .evf, .recd, .xlt, .hp, .qe, .pwr, .out, .free], some [EVF.ALERT_DRV, EVF.TRACE_DROP, HDR.ERR_INFO0, HDR.ERR_INFO1, HDR.ERR_STAT, HDR.EVT_STAT, MGT.ALARM_SENT, PWR.PWR_WAKE_LATCH, PWR.STATE, REC.ALARM_DROP, REC.HEAD_SEQ, REC.LOST_CNT, REC.OVW_CNT, REC.RSV_USED]⟩
theorem execRegistrationSweep_keeps (s : State) : State.KeepsR execRegistrationSweep_scope s (execRegistrationSweep s) := by
  unfold execRegistrationSweep
  (try dsimp only)
  repeat' first
    | with_reducible exact State.Keeps.refl _ _
    | with_reducible assumption
    | with_reducible apply State.KeepsR.next
    | with_reducible apply State.Keeps.ite
    | ((with_reducible apply State.Keeps.step (State.registrationFree_keeps ..)); rotate_right; decide)
    | ((with_reducible apply State.Keeps.foldl); rotate_right; intro _ _ _; rotate_left)
    | with_reducible apply State.KeepsR.ite
    | fail_if_no_progress ((with_reducible apply State.Keeps.upd_xlt); rotate_right; decide)

def execWindowBind_scope : Scope := ⟨[.xlt, .out], some []⟩
theorem execWindowBind_keeps (wid : Fin 4096) (desc : WindowDesc) (s : State) : State.KeepsR execWindowBind_scope s (execWindowBind wid desc s) := by
  unfold execWindowBind
  (try dsimp only)
  repeat' first
    | with_reducible exact State.Keeps.refl _ _
    | with_reducible apply State.KeepsR.next
    | with_reducible apply State.KeepsR.ite
    | fail_if_no_progress ((with_reducible apply State.Keeps.upd_xlt); rotate_right; decide)
    | ((with_reducible apply State.Keeps.step (State.emit_keeps ..)); rotate_right; decide)

def execXltInvalComplete_scope : Scope := ⟨[.regs, .evf, .recd, .xlt, .hp, .qe, .tier, .pan, .pwr, .dmc, .flm, .out, .free], some [EVF.ALERT_DRV, EVF.TRACE_DROP, HDR.ERR_INFO0, HDR.ERR_INFO1, HDR.ERR_STAT, HDR.EVT_STAT, MGT.ALARM_SENT, PAN.LOCKS_RELEASED, PAN.LOCK_LOST_CNT, PAN.WB_CNT, PWR.PWR_WAKE_LATCH, PWR.STATE, REC.ALARM_DROP, REC.HEAD_SEQ, REC.LOST_CNT, REC.OVW_CNT, REC.RSV_USED, XLT.BUSY, XLT.DONE_COUNT]⟩
theorem execXltInvalComplete_keeps (s : State) : State.KeepsR execXltInvalComplete_scope s (execXltInvalComplete s) := by
  unfold execXltInvalComplete
  (try dsimp only)
  repeat' first
    | with_reducible exact State.Keeps.refl _ _
    | with_reducible apply State.KeepsR.next
    | ((with_reducible apply State.Keeps.step (State.invalDone_keeps ..)); rotate_right; decide)
    | ((with_reducible apply State.Keeps.step (State.regionAfter_keeps ..)); rotate_right; decide)
    | split

def execXltMissFill_scope : Scope := ⟨[.xlt, .free], some []⟩
theorem execXltMissFill_keeps (key : XKey) (s : State) : State.KeepsR execXltMissFill_scope s (execXltMissFill key s) := by
  unfold execXltMissFill
  (try dsimp only)
  repeat' first
    | with_reducible exact State.Keeps.refl _ _
    | with_reducible apply State.KeepsR.next
    | fail_if_no_progress ((with_reducible apply State.Keeps.upd_xlt); rotate_right; decide)
    | ((with_reducible apply State.Keeps.step (State.xInstall_keeps ..)); rotate_right; decide)
    | split

end Sys2Proof.Machine
end

