-- ==== Sys2Proof/Laws/KeepQueue.lean ====
section
/-! SUPPORT. What each operation of Machine/Queue.lean keeps: the parts of State it can change are those listed. -/
set_option linter.unusedTactic false
set_option linter.unreachableTactic false
namespace Sys2Proof.Machine

def State.statusUpdate_scope : Scope := ⟨[.qe], some []⟩
theorem State.statusUpdate_keeps (s : State) (p : Nat) (l : Nat) : State.Keeps State.statusUpdate_scope s (State.statusUpdate s p l) := by
  unfold State.statusUpdate
  (try dsimp only)
  repeat' first
    | with_reducible exact State.Keeps.refl _ _
    | with_reducible assumption
    | with_reducible apply State.Keeps.ite
    | fail_if_no_progress ((with_reducible apply State.Keeps.upd_qe); rotate_right; decide)

def State.sluCancel_scope : Scope := ⟨[.qe, .tier], some []⟩
theorem State.sluCancel_keeps (s : State) (t : Nat) (tag : Nat) (complete : Bool) : State.Keeps State.sluCancel_scope s (State.sluCancel s t tag complete) := by
  unfold State.sluCancel
  (try dsimp only)
  repeat' first
    | with_reducible exact State.Keeps.refl _ _
    | with_reducible assumption
    | with_reducible apply State.Keeps.ite
    | fail_if_no_progress ((with_reducible apply State.Keeps.upd_tier); rotate_right; decide)
    | ((with_reducible apply State.Keeps.step (State.raiseSweep_keeps ..)); rotate_right; decide)
    | ((with_reducible apply State.Keeps.step (State.cmdResult_keeps ..)); rotate_right; decide)
    | ((with_reducible apply State.Keeps.step (State.evictBlock_keeps ..)); rotate_right; decide)
    | ((with_reducible apply State.Keeps.foldl); rotate_right; intro _ _ _; rotate_left)
    | ((with_reducible apply State.Keeps.step (State.evictPin_keeps ..)); rotate_right; decide)
    | ((with_reducible apply State.Keeps.step (State.sluSweep_keeps ..)); rotate_right; decide)
    | with_reducible refine State.Keeps.fst ‹_ = (_, _)› ?_
    | split

def State.qctl_scope : Scope := ⟨[.regs, .evf, .recd, .hp, .qe, .pwr, .out, .free], some [EVF.ALERT_DRV, EVF.TRACE_DROP, HDR.ERR_INFO0, HDR.ERR_INFO1, HDR.ERR_STAT, HDR.EVT_STAT, MGT.ALARM_SENT, PWR.PWR_WAKE_LATCH, PWR.STATE, QE.BUSY, REC.ALARM_DROP, REC.HEAD_SEQ, REC.LOST_CNT, REC.OVW_CNT, REC.RSV_USED]⟩
theorem State.qctl_keeps (s : State) (op : Nat) (q : Nat) : State.Keeps State.qctl_scope s (State.qctl s op q) := by
  unfold State.qctl
  (try dsimp only)
  repeat' first
    | with_reducible exact State.Keeps.refl _ _
    | with_reducible apply State.Keeps.ite
    | fail_if_no_progress ((with_reducible apply State.Keeps.upd_qe); rotate_right; decide)
    | ((with_reducible apply State.Keeps.step (State.put_keeps ..)); rotate_right; decide)
    | ((with_reducible apply State.Keeps.step (State.putQueue_keeps ..)); rotate_right; decide)
    | ((with_reducible apply State.Keeps.step (State.queueError_keeps ..)); rotate_right; decide)
    | ((with_reducible apply State.Keeps.step (State.blkErr_keeps ..)); rotate_right; decide)
    | split

def State.blocksOf_scope : Scope := State.getBme_scope
theorem State.blocksOf_keeps (s : State) (region : Nat) (d : Region) (off : Nat) (len : Nat) : State.Keeps State.blocksOf_scope s (State.blocksOf s region d off len).1 := by
  unfold State.blocksOf
  (try dsimp only)
  repeat' first
    | with_reducible exact State.Keeps.refl _ _
    | with_reducible assumption
    | ((with_reducible apply State.Keeps.step (State.getBme_keeps ..)); rotate_right; decide)
    | ((with_reducible apply State.Keeps.foldl1); rotate_right; intro _ _ _; rotate_left)
    | dsimp only
    | split
    | with_reducible refine State.Keeps.fst ‹_ = (_, _)› ?_

def State.endCmd_scope : Scope := ⟨[.regs, .qe, .mov, .tier], some [MOV.LAST_FCLASS, MOV.LAST_FOFF, MOV.LAST_STATUS]⟩
theorem State.endCmd_keeps (s : State) (x : Cmd) (st : Status) : State.Keeps State.endCmd_scope s (State.endCmd s x st) := by
  unfold State.endCmd
  (try dsimp only)
  repeat' first
    | with_reducible exact State.Keeps.refl _ _
    | with_reducible apply State.Keeps.ite
    | fail_if_no_progress ((with_reducible apply State.Keeps.upd_qe); rotate_right; decide)
    | ((with_reducible apply State.Keeps.step (State.sluCancel_keeps ..)); rotate_right; decide)
    | ((with_reducible apply State.Keeps.step (State.movSettle_keeps ..)); rotate_right; decide)
    | with_reducible assumption
    | with_reducible refine State.Keeps.fst ‹_ = (_, _)› ?_
    | split

def State.fetchMove_scope : Scope := State.fetch_scope
theorem State.fetchMove_keeps (s : State) (qid : BitVec 20) (e : SqEntry) (op : Nat) : State.KeepsR State.fetchMove_scope s (State.fetchMove s qid e op) := by
  unfold State.fetchMove
  (try dsimp only)
  repeat' first
    | intro _
    | with_reducible exact State.Keeps.refl _ _
    | with_reducible assumption
    | with_reducible apply State.KeepsR.next
    | ((with_reducible apply State.fetch_keeps); rotate_right; decide)

def State.qctlDone_scope : Scope := ⟨[.regs, .evf, .recd, .hp, .qe, .pwr, .out, .free], some [EVF.ALERT_DRV, EVF.TRACE_DROP, HDR.ERR_INFO0, HDR.ERR_INFO1, HDR.ERR_STAT, HDR.EVT_STAT, MGT.ALARM_SENT, PWR.PWR_WAKE_LATCH, PWR.STATE, QE.BUSY, REC.ALARM_DROP, REC.HEAD_SEQ, REC.LOST_CNT, REC.OVW_CNT, REC.RSV_USED]⟩
theorem State.qctlDone_keeps (s : State) (q : Nat) (reset : Bool) : State.Keeps State.qctlDone_scope s (State.qctlDone s q reset) := by
  unfold State.qctlDone
  (try dsimp only)
  repeat' first
    | with_reducible exact State.Keeps.refl _ _
    | with_reducible apply State.Keeps.ite
    | fail_if_no_progress ((with_reducible apply State.Keeps.upd_qe); rotate_right; decide)
    | ((with_reducible apply State.Keeps.step (State.put_keeps ..)); rotate_right; decide)
    | ((with_reducible apply State.Keeps.step (State.putQueue_keeps ..)); rotate_right; decide)
    | with_reducible assumption
    | ((with_reducible apply State.Keeps.step (State.queueError_keeps ..)); rotate_right; decide)
    | with_reducible refine State.Keeps.fst ‹_ = (_, _)› ?_
    | split

def State.regionInval_scope : Scope := State.inval_scope
theorem State.regionInval_keeps (s : State) (id : Nat) (w : InvalFor) : State.Keeps State.regionInval_scope s (State.regionInval s id w) := by
  unfold State.regionInval
  (try dsimp only)
  repeat' first
    | with_reducible exact State.Keeps.refl _ _
    | ((with_reducible apply State.Keeps.step (State.inval_keeps ..)); rotate_right; decide)

def State.regionOp_scope : Scope := ⟨[.regs, .evf, .recd, .xlt, .hp, .qe, .pwr, .out, .free], some [EVF.ALERT_DRV, EVF.TRACE_DROP, HDR.ERR_INFO0, HDR.ERR_INFO1, HDR.ERR_STAT, HDR.EVT_STAT, MGT.ALARM_SENT, PWR.PWR_WAKE_LATCH, PWR.STATE, REC.ALARM_DROP, REC.HEAD_SEQ, REC.LOST_CNT, REC.OVW_CNT, REC.RSV_USED]⟩
theorem State.regionOp_keeps {l : Scope} {s0 : State} (s : State) (x : Cmd) (h : BitVec 40) (k : State → Region → State) (hk : ∀ (x0 : State) (x1 : Region), State.Keeps l s0 x0 → State.Keeps l s0 (k x0 x1)) (hk0 : State.Keeps l s0 s) (hl : Scope.within State.regionOp_scope l = true) :
    State.Keeps l s0 (State.regionOp s x h k) := by
  unfold State.regionOp
  (try dsimp only)
  repeat' first
    | with_reducible assumption
    | with_reducible apply hk
    | ((with_reducible apply State.Keeps.step (State.done_keeps ..)); rotate_right; exact Scope.within_trans (m := State.regionOp_scope) (by first | decide | rfl) hl)
    | ((with_reducible apply State.Keeps.step (State.walkQueue_keeps ..)); rotate_right; exact Scope.within_trans (m := State.regionOp_scope) (by first | decide | rfl) hl)
    | split
    | with_reducible refine State.Keeps.fst ‹_ = (_, _)› ?_

def State.sluEntry_scope : Scope := ⟨[.regs, .evf, .recd, .xlt, .hp, .pwr, .out, .free], some [EVF.ALERT_DRV, EVF.TRACE_DROP, HDR.ERR_INFO0, HDR.ERR_INFO1, HDR.ERR_STAT, HDR.EVT_STAT, MGT.ALARM_SENT, PWR.PWR_WAKE_LATCH, PWR.STATE, REC.ALARM_DROP, REC.HEAD_SEQ, REC.LOST_CNT, REC.OVW_CNT, REC.RSV_USED]⟩
theorem State.sluEntry_keeps (s : State) (tenant : Nat) (base : Nat) (x : ListEntry) : State.Keeps State.sluEntry_scope s (State.sluEntry s tenant base x).1 := by
  unfold State.sluEntry
  (try dsimp only)
  repeat' first
    | with_reducible exact State.Keeps.refl _ _
    | ((with_reducible apply State.Keeps.step (State.blocksOf_keeps ..)); rotate_right; decide)
    | ((with_reducible apply State.Keeps.step (State.walkQueue_keeps ..)); rotate_right; decide)
    | with_reducible refine State.Keeps.fst ‹_ = (_, _)› ?_
    | with_reducible assumption
    | with_reducible apply State.Keeps.ite
    | with_reducible apply State.Keeps.ite1
    | ((with_reducible apply State.Keeps.step (State.walkShared_keeps ..)); rotate_right; decide)
    | dsimp only
    | split

def execAbort_scope : Scope := ⟨[.regs, .evf, .recd, .xlt, .hp, .qe, .mov, .tier, .pan, .pwr, .dmc, .out, .free], some [EVF.ALERT_DRV, EVF.TRACE_DROP, HDR.ERR_INFO0, HDR.ERR_INFO1, HDR.ERR_STAT, HDR.EVT_STAT, MGT.ALARM_SENT, MOV.LAST_FCLASS, MOV.LAST_FOFF, MOV.LAST_STATUS, PAN.HIT_CNT, PAN.MISS_CNT, PAN.WB_CNT, PWR.PWR_WAKE_LATCH, PWR.STATE, REC.ALARM_DROP, REC.HEAD_SEQ, REC.LOST_CNT, REC.OVW_CNT, REC.RSV_USED]⟩
theorem execAbort_keeps (qid : BitVec 20) (entry : SqEntry) (s : State) : State.KeepsR execAbort_scope s (execAbort qid entry s) := by
  unfold execAbort
  (try dsimp only)
  repeat' first
    | intro _
    | with_reducible exact State.Keeps.refl _ _
    | with_reducible assumption
    | with_reducible apply State.KeepsR.next
    | fail_if_no_progress ((with_reducible apply State.Keeps.upd_qe); rotate_right; decide)
    | ((with_reducible apply State.fetch_keeps); rotate_right; decide)
    | ((with_reducible apply State.Keeps.step (State.endCmd_keeps ..)); rotate_right; decide)
    | ((with_reducible apply State.Keeps.foldl); rotate_right; intro _ _ _; rotate_left)
    | with_reducible apply State.KeepsR.ite
    | with_reducible apply State.Keeps.ite
    | ((with_reducible apply State.Keeps.foldl1); rotate_right; intro _ _ _; rotate_left)
    | with_reducible refine State.Keeps.fst ‹_ = (_, _)› ?_
    | split

def execCmdTimeout_scope : Scope := ⟨[.regs, .qe, .mov, .tier], some [MOV.LAST_FCLASS, MOV.LAST_FOFF, MOV.LAST_STATUS]⟩
theorem execCmdTimeout_keeps (qid : BitVec 20) (cmdId : BitVec 16) (s : State) : State.KeepsR execCmdTimeout_scope s (execCmdTimeout qid cmdId s) := by
  unfold execCmdTimeout
  (try dsimp only)
  repeat' first
    | with_reducible exact State.Keeps.refl _ _
    | with_reducible apply State.KeepsR.next
    | with_reducible apply State.KeepsR.ite
    | ((with_reducible apply State.Keeps.step (State.endCmd_keeps ..)); rotate_right; decide)
    | split

def execCoalTimeExpiry_scope : Scope := ⟨[.hp, .qe, .out], some []⟩
theorem execCoalTimeExpiry_keeps (qid : BitVec 20) (s : State) : State.KeepsR execCoalTimeExpiry_scope s (execCoalTimeExpiry qid s) := by
  unfold execCoalTimeExpiry
  (try dsimp only)
  repeat' first
    | with_reducible exact State.Keeps.refl _ _
    | with_reducible apply State.KeepsR.next
    | with_reducible apply State.KeepsR.ite
    | ((with_reducible apply State.Keeps.step (State.notify_keeps ..)); rotate_right; decide)
    | split

def execCommandCompletion_scope : Scope := ⟨[.regs, .evf, .recd, .xlt, .hp, .qe, .tier, .pan, .twn, .pwr, .dmc, .flm, .out, .free], some [EVF.ALERT_DRV, EVF.TRACE_DROP, HDR.ERR_INFO0, HDR.ERR_INFO1, HDR.ERR_STAT, HDR.EVT_STAT, MGT.ALARM_SENT, PAN.WB_CNT, PWR.PWR_WAKE_LATCH, PWR.STATE, REC.ALARM_DROP, REC.HEAD_SEQ, REC.LOST_CNT, REC.OVW_CNT, REC.RSV_USED, TIER.QUOTA_REFUSE]⟩
theorem execCommandCompletion_keeps (qid : BitVec 20) (cmdId : BitVec 16) (s : State) : State.KeepsR execCommandCompletion_scope s (execCommandCompletion qid cmdId s) := by
  unfold execCommandCompletion
  (try dsimp only)
  repeat' first
    | with_reducible exact State.Keeps.refl _ _
    | with_reducible apply State.KeepsR.next
    | ((with_reducible apply State.Keeps.step (State.post_keeps ..)); rotate_right; decide)
    | with_reducible assumption
    | with_reducible apply State.KeepsR.ite
    | with_reducible apply State.Keeps.ite
    | ((with_reducible apply State.Keeps.step (State.raiseSweep_keeps ..)); rotate_right; decide)
    | with_reducible refine State.Keeps.fst ‹_ = (_, _)› ?_
    | split

def execCopy_scope : Scope := State.fetchMove_scope
theorem execCopy_keeps (qid : BitVec 20) (entry : SqEntry) (s : State) : State.KeepsR execCopy_scope s (execCopy qid entry s) := by
  unfold execCopy
  (try dsimp only)
  repeat' first
    | with_reducible exact State.Keeps.refl _ _
    | ((with_reducible apply State.KeepsR.step (State.fetchMove_keeps ..)); rotate_right; decide)

def execCqDoorbell_scope : Scope := ⟨[.regs, .evf, .recd, .hp, .qe, .pwr, .out, .free], some [EVF.ALERT_DRV, EVF.TRACE_DROP, HDR.ERR_INFO0, HDR.ERR_INFO1, HDR.ERR_STAT, HDR.EVT_STAT, MGT.ALARM_SENT, PWR.PWR_WAKE_LATCH, PWR.STATE, QE.QE_DB_DROP, REC.ALARM_DROP, REC.HEAD_SEQ, REC.LOST_CNT, REC.OVW_CNT, REC.RSV_USED]⟩
theorem execCqDoorbell_keeps (port : Port) (ld : Ld) (dbPage : BitVec 20) (head : BitVec 16) (arm : Bool) (s : State) : State.KeepsR execCqDoorbell_scope s (execCqDoorbell port ld dbPage head arm s) := by
  unfold execCqDoorbell
  (try dsimp only)
  repeat' first
    | with_reducible exact State.Keeps.refl _ _
    | with_reducible apply State.KeepsR.next
    | with_reducible apply State.KeepsR.ite
    | ((with_reducible apply State.Keeps.step (State.notify_keeps ..)); rotate_right; decide)
    | ((with_reducible apply State.Keeps.step (State.putQueue_keeps ..)); rotate_right; decide)
    | ((with_reducible apply State.Keeps.step (State.queueError_keeps ..)); rotate_right; decide)
    | ((with_reducible apply State.Keeps.step (State.inc_keeps ..)); rotate_right; decide)
    | split

def execDoorbellDrop_scope : Scope := ⟨[.regs, .qe, .out], some [QE.QE_DB_DROP]⟩
theorem execDoorbellDrop_keeps (port : Port) (ld : Ld) (dbPage : BitVec 20) (acc : DbAccess) (s : State) : State.KeepsR execDoorbellDrop_scope s (execDoorbellDrop port ld dbPage acc s) := by
  unfold execDoorbellDrop
  (try dsimp only)
  repeat' first
    | with_reducible exact State.Keeps.refl _ _
    | with_reducible assumption
    | with_reducible apply State.KeepsR.next
    | with_reducible apply State.KeepsR.ite
    | with_reducible apply State.Keeps.ite
    | ((with_reducible apply State.Keeps.step (State.inc_keeps ..)); rotate_right; decide)
    | ((with_reducible apply State.Keeps.step (State.emit_keeps ..)); rotate_right; decide)
    | ((with_reducible apply State.Keeps.step (State.statusUpdate_keeps ..)); rotate_right; decide)
    | split

def execEvict_scope : Scope := ⟨[.regs, .evf, .recd, .xlt, .hp, .qe, .tier, .pan, .pwr, .dmc, .out, .free], some [EVF.ALERT_DRV, EVF.TRACE_DROP, HDR.ERR_INFO0, HDR.ERR_INFO1, HDR.ERR_STAT, HDR.EVT_STAT, MGT.ALARM_SENT, PAN.HIT_CNT, PAN.MISS_CNT, PAN.WB_CNT, PWR.PWR_WAKE_LATCH, PWR.STATE, REC.ALARM_DROP, REC.HEAD_SEQ, REC.LOST_CNT, REC.OVW_CNT, REC.RSV_USED]⟩
theorem execEvict_keeps (qid : BitVec 20) (entry : SqEntry) (s : State) : State.KeepsR execEvict_scope s (execEvict qid entry s) := by
  unfold execEvict
  (try dsimp only)
  repeat' first
    | with_reducible exact State.Keeps.refl _ _
    | with_reducible assumption
    | with_reducible apply State.KeepsR.next
    | ((with_reducible apply State.fetch_keeps); rotate_right; decide)
    | ((with_reducible apply State.Keeps.step (State.raiseSweep_keeps ..)); rotate_right; decide)
    | ((with_reducible apply State.Keeps.step (State.done_keeps ..)); rotate_right; decide)
    | ((with_reducible apply State.Keeps.step (State.evictBlock_keeps ..)); rotate_right; decide)
    | ((with_reducible apply State.Keeps.step (State.blocksOf_keeps ..)); rotate_right; decide)
    | ((with_reducible apply State.Keeps.step (State.walkQueue_keeps ..)); rotate_right; decide)
    | ((with_reducible apply State.Keeps.foldl1); rotate_right; intro _ _ _; rotate_left)
    | with_reducible refine State.Keeps.fst ‹_ = (_, _)› ?_
    | with_reducible apply State.KeepsR.ite
    | with_reducible apply State.Keeps.ite
    | ((with_reducible apply State.Keeps.step (State.fetch_keeps ..)); rotate_right; decide)
    | ((with_reducible apply State.Keeps.step (State.walkShared_keeps ..)); rotate_right; decide)
    | ((with_reducible apply State.Keeps.step (State.sluSweep_keeps ..)); rotate_right; decide)
    | ((with_reducible apply State.Keeps.foldl); rotate_right; intro _ _ _; rotate_left)
    | intro _
    | dsimp only
    | split

def execFlushDoorbell_scope : Scope := ⟨[.regs, .qe, .tier], some [QE.QE_DB_DROP]⟩
theorem execFlushDoorbell_keeps (port : Port) (ld : Ld) (dbPage : BitVec 20) (slot : BitVec 9) (size : Nat) (s : State) : State.KeepsR execFlushDoorbell_scope s (execFlushDoorbell port ld dbPage slot size s) := by
  unfold execFlushDoorbell
  (try dsimp only)
  repeat' first
    | with_reducible exact State.Keeps.refl _ _
    | with_reducible assumption
    | with_reducible apply State.KeepsR.next
    | with_reducible apply State.KeepsR.ite
    | with_reducible apply State.Keeps.ite
    | fail_if_no_progress ((with_reducible apply State.Keeps.upd_qe); rotate_right; decide)
    | ((with_reducible apply State.Keeps.step (State.inc_keeps ..)); rotate_right; decide)
    | ((with_reducible apply State.Keeps.step (State.refusal_keeps ..)); rotate_right; decide)
    | ((with_reducible apply State.Keeps.step (State.barrierIssue_keeps ..)); rotate_right; decide)
    | with_reducible refine State.Keeps.fst ‹_ = (_, _)› ?_
    | split

def execNop_scope : Scope := State.fetch_scope
theorem execNop_keeps (qid : BitVec 20) (entry : SqEntry) (s : State) : State.KeepsR execNop_scope s (execNop qid entry s) := by
  unfold execNop
  (try dsimp only)
  repeat' first
    | intro _
    | with_reducible exact State.Keeps.refl _ _
    | with_reducible assumption
    | with_reducible apply State.KeepsR.next
    | ((with_reducible apply State.fetch_keeps); rotate_right; decide)
    | ((with_reducible apply State.Keeps.step (State.done_keeps ..)); rotate_right; decide)

def execPersist_scope : Scope := State.fetch_scope
theorem execPersist_keeps (qid : BitVec 20) (entry : SqEntry) (s : State) : State.KeepsR execPersist_scope s (execPersist qid entry s) := by
  unfold execPersist
  (try dsimp only)
  repeat' first
    | intro _
    | with_reducible exact State.Keeps.refl _ _
    | with_reducible assumption
    | with_reducible apply State.KeepsR.next
    | with_reducible apply State.Keeps.ite
    | ((with_reducible apply State.fetch_keeps); rotate_right; decide)
    | ((with_reducible apply State.Keeps.step (State.done_keeps ..)); rotate_right; decide)
    | ((with_reducible apply State.Keeps.step (State.walkQueue_keeps ..)); rotate_right; decide)
    | ((with_reducible apply State.Keeps.step (State.modCmd_keeps ..)); rotate_right; decide)
    | ((with_reducible apply State.Keeps.step (State.barrierIssue_keeps ..)); rotate_right; decide)
    | split
    | with_reducible refine State.Keeps.fst ‹_ = (_, _)› ?_

def execPersistBarrierComplete_scope : Scope := ⟨[.hp, .qe, .out], some []⟩
theorem execPersistBarrierComplete_keeps (id : Nat) (s : State) : State.KeepsR execPersistBarrierComplete_scope s (execPersistBarrierComplete id s) := by
  unfold execPersistBarrierComplete
  (try dsimp only)
  repeat' first
    | with_reducible exact State.Keeps.refl _ _
    | with_reducible apply State.KeepsR.next
    | with_reducible apply State.KeepsR.ite
    | fail_if_no_progress ((with_reducible apply State.Keeps.upd_qe); rotate_right; decide)
    | ((with_reducible apply State.Keeps.step (State.raiseVector_keeps ..)); rotate_right; decide)
    | split

def execQueueDisableDone_scope : Scope := ⟨[.regs, .evf, .recd, .hp, .qe, .pwr, .out, .free], some [EVF.ALERT_DRV, EVF.TRACE_DROP, HDR.ERR_INFO0, HDR.ERR_INFO1, HDR.ERR_STAT, HDR.EVT_STAT, MGT.ALARM_SENT, PWR.PWR_WAKE_LATCH, PWR.STATE, QE.BUSY, REC.ALARM_DROP, REC.HEAD_SEQ, REC.LOST_CNT, REC.OVW_CNT, REC.RSV_USED]⟩
theorem execQueueDisableDone_keeps (qid : BitVec 20) (s : State) : State.KeepsR execQueueDisableDone_scope s (execQueueDisableDone qid s) := by
  unfold execQueueDisableDone
  (try dsimp only)
  repeat' first
    | with_reducible exact State.Keeps.refl _ _
    | with_reducible apply State.KeepsR.next
    | ((with_reducible apply State.Keeps.step (State.qctlDone_keeps ..)); rotate_right; decide)

def execQueueResetDone_scope : Scope := ⟨[.regs, .evf, .recd, .hp, .qe, .pwr, .out, .free], some [EVF.ALERT_DRV, EVF.TRACE_DROP, HDR.ERR_INFO0, HDR.ERR_INFO1, HDR.ERR_STAT, HDR.EVT_STAT, MGT.ALARM_SENT, PWR.PWR_WAKE_LATCH, PWR.STATE, QE.BUSY, REC.ALARM_DROP, REC.HEAD_SEQ, REC.LOST_CNT, REC.OVW_CNT, REC.RSV_USED]⟩
theorem execQueueResetDone_keeps (qid : BitVec 20) (s : State) : State.KeepsR execQueueResetDone_scope s (execQueueResetDone qid s) := by
  unfold execQueueResetDone
  (try dsimp only)
  repeat' first
    | with_reducible exact State.Keeps.refl _ _
    | with_reducible apply State.KeepsR.next
    | ((with_reducible apply State.Keeps.step (State.qctlDone_keeps ..)); rotate_right; decide)

def execRaise_scope : Scope := ⟨[.regs, .evf, .recd, .xlt, .hp, .qe, .tier, .pan, .pwr, .dmc, .flm, .out, .free], some [EVF.ALERT_DRV, EVF.TRACE_DROP, HDR.ERR_INFO0, HDR.ERR_INFO1, HDR.ERR_STAT, HDR.EVT_STAT, MGT.ALARM_SENT, PAN.HIT_CNT, PAN.MISS_CNT, PAN.WB_CNT, PWR.PWR_WAKE_LATCH, PWR.STATE, REC.ALARM_DROP, REC.HEAD_SEQ, REC.LOST_CNT, REC.OVW_CNT, REC.RSV_USED, TIER.QUOTA_REFUSE]⟩
theorem execRaise_keeps (qid : BitVec 20) (entry : SqEntry) (s : State) : State.KeepsR execRaise_scope s (execRaise qid entry s) := by
  unfold execRaise
  (try dsimp only)
  repeat' first
    | with_reducible exact State.Keeps.refl _ _
    | with_reducible assumption
    | with_reducible apply State.KeepsR.next
    | ((with_reducible apply State.fetch_keeps); rotate_right; decide)
    | ((with_reducible apply State.Keeps.step (State.modCmd_keeps ..)); rotate_right; decide)
    | ((with_reducible apply State.Keeps.step (State.raiseSweep_keeps ..)); rotate_right; decide)
    | ((with_reducible apply State.Keeps.step (State.pin_keeps ..)); rotate_right; decide)
    | ((with_reducible apply State.Keeps.step (State.done_keeps ..)); rotate_right; decide)
    | ((with_reducible apply State.Keeps.step (State.blocksOf_keeps ..)); rotate_right; decide)
    | ((with_reducible apply State.Keeps.step (State.walkQueue_keeps ..)); rotate_right; decide)
    | ((with_reducible apply State.Keeps.foldl1); rotate_right; intro _ _ _; rotate_left)
    | with_reducible refine State.Keeps.fst ‹_ = (_, _)› ?_
    | with_reducible apply State.KeepsR.ite
    | with_reducible apply State.Keeps.ite
    | ((with_reducible apply State.Keeps.step (State.fetch_keeps ..)); rotate_right; decide)
    | ((with_reducible apply State.Keeps.step (State.walkShared_keeps ..)); rotate_right; decide)
    | ((with_reducible apply State.Keeps.foldl); rotate_right; intro _ _ _; rotate_left)
    | intro _
    | dsimp only
    | split

def execRegOpen_scope : Scope := State.fetch_scope
theorem execRegOpen_keeps (qid : BitVec 20) (entry : SqEntry) (s : State) : State.KeepsR execRegOpen_scope s (execRegOpen qid entry s) := by
  unfold execRegOpen
  (try dsimp only)
  repeat' first
    | intro _
    | with_reducible exact State.Keeps.refl _ _
    | with_reducible assumption
    | with_reducible apply State.KeepsR.next
    | ((with_reducible apply State.fetch_keeps); rotate_right; decide)
    | ((with_reducible apply State.Keeps.step (State.done_keeps ..)); rotate_right; decide)
    | ((with_reducible apply State.Keeps.step (State.regOpen_keeps ..)); rotate_right; decide)
    | ((with_reducible apply State.Keeps.step (State.walkQueue_keeps ..)); rotate_right; decide)
    | split
    | with_reducible refine State.Keeps.fst ‹_ = (_, _)› ?_

def execRegionCreate_scope : Scope := ⟨[.regs, .evf, .recd, .xlt, .hp, .qe, .tier, .pan, .pwr, .dmc, .out, .free], some [EVF.ALERT_DRV, EVF.TRACE_DROP, HDR.ERR_INFO0, HDR.ERR_INFO1, HDR.ERR_STAT, HDR.EVT_STAT, MGT.ALARM_SENT, PAN.HIT_CNT, PAN.MISS_CNT, PAN.WB_CNT, PWR.PWR_WAKE_LATCH, PWR.STATE, REC.ALARM_DROP, REC.HEAD_SEQ, REC.LOST_CNT, REC.OVW_CNT, REC.RSV_USED, XLT.BUSY]⟩
theorem execRegionCreate_keeps (qid : BitVec 20) (entry : SqEntry) (s : State) : State.KeepsR execRegionCreate_scope s (execRegionCreate qid entry s) := by
  unfold execRegionCreate
  (try dsimp only)
  repeat' first
    | with_reducible exact State.Keeps.refl _ _
    | with_reducible assumption
    | with_reducible apply State.KeepsR.next
    | ((with_reducible apply State.fetch_keeps); rotate_right; decide)
    | ((with_reducible apply State.Keeps.step (State.done_keeps ..)); rotate_right; decide)
    | ((with_reducible apply State.Keeps.step (State.regionCreate_keeps ..)); rotate_right; decide)
    | with_reducible apply State.KeepsR.ite
    | with_reducible apply State.Keeps.ite
    | ((with_reducible apply State.Keeps.step (State.fetch_keeps ..)); rotate_right; decide)
    | ((with_reducible apply State.Keeps.step (State.regionInval_keeps ..)); rotate_right; decide)
    | with_reducible refine State.Keeps.fst ‹_ = (_, _)› ?_
    | intro _
    | split

def execRegionDelete_scope : Scope := ⟨[.regs, .evf, .recd, .xlt, .hp, .qe, .tier, .pan, .pwr, .dmc, .out, .free], some [EVF.ALERT_DRV, EVF.TRACE_DROP, HDR.ERR_INFO0, HDR.ERR_INFO1, HDR.ERR_STAT, HDR.EVT_STAT, MGT.ALARM_SENT, PAN.HIT_CNT, PAN.MISS_CNT, PAN.WB_CNT, PWR.PWR_WAKE_LATCH, PWR.STATE, REC.ALARM_DROP, REC.HEAD_SEQ, REC.LOST_CNT, REC.OVW_CNT, REC.RSV_USED, XLT.BUSY]⟩
theorem execRegionDelete_keeps (qid : BitVec 20) (entry : SqEntry) (s : State) : State.KeepsR execRegionDelete_scope s (execRegionDelete qid entry s) := by
  unfold execRegionDelete
  (try dsimp only)
  repeat' first
    | intro _
    | with_reducible exact State.Keeps.refl _ _
    | with_reducible assumption
    | with_reducible apply State.KeepsR.next
    | with_reducible apply State.Keeps.ite
    | fail_if_no_progress ((with_reducible apply State.Keeps.upd_xlt); rotate_right; decide)
    | ((with_reducible apply State.regionOp_keeps); rotate_right; decide)
    | ((with_reducible apply State.fetch_keeps); rotate_right; decide)
    | ((with_reducible apply State.Keeps.step (State.regionInval_keeps ..)); rotate_right; decide)
    | ((with_reducible apply State.Keeps.step (State.done_keeps ..)); rotate_right; decide)
    | split

def execRegionGrow_scope : Scope := ⟨[.regs, .evf, .recd, .xlt, .hp, .qe, .tier, .pan, .pwr, .dmc, .out, .free], some [EVF.ALERT_DRV, EVF.TRACE_DROP, HDR.ERR_INFO0, HDR.ERR_INFO1, HDR.ERR_STAT, HDR.EVT_STAT, MGT.ALARM_SENT, PAN.HIT_CNT, PAN.MISS_CNT, PAN.WB_CNT, PWR.PWR_WAKE_LATCH, PWR.STATE, REC.ALARM_DROP, REC.HEAD_SEQ, REC.LOST_CNT, REC.OVW_CNT, REC.RSV_USED, XLT.BUSY]⟩
theorem execRegionGrow_keeps (qid : BitVec 20) (entry : SqEntry) (s : State) : State.KeepsR execRegionGrow_scope s (execRegionGrow qid entry s) := by
  unfold execRegionGrow
  (try dsimp only)
  repeat' first
    | intro _
    | with_reducible exact State.Keeps.refl _ _
    | with_reducible assumption
    | with_reducible apply State.KeepsR.next
    | ((with_reducible apply State.regionOp_keeps); rotate_right; decide)
    | ((with_reducible apply State.fetch_keeps); rotate_right; decide)
    | ((with_reducible apply State.Keeps.step (State.regionInval_keeps ..)); rotate_right; decide)
    | ((with_reducible apply State.Keeps.step (State.done_keeps ..)); rotate_right; decide)
    | ((with_reducible apply State.Keeps.step (State.regionGrow_keeps ..)); rotate_right; decide)
    | split
    | with_reducible refine State.Keeps.fst ‹_ = (_, _)› ?_

def execRegionSet_scope : Scope := ⟨[.regs, .evf, .recd, .xlt, .hp, .qe, .tier, .pan, .pwr, .dmc, .out, .free], some [EVF.ALERT_DRV, EVF.TRACE_DROP, HDR.ERR_INFO0, HDR.ERR_INFO1, HDR.ERR_STAT, HDR.EVT_STAT, MGT.ALARM_SENT, PAN.HIT_CNT, PAN.MISS_CNT, PAN.WB_CNT, PWR.PWR_WAKE_LATCH, PWR.STATE, REC.ALARM_DROP, REC.HEAD_SEQ, REC.LOST_CNT, REC.OVW_CNT, REC.RSV_USED, XLT.BUSY]⟩
theorem execRegionSet_keeps (qid : BitVec 20) (entry : SqEntry) (s : State) : State.KeepsR execRegionSet_scope s (execRegionSet qid entry s) := by
  unfold execRegionSet
  (try dsimp only)
  repeat' first
    | intro _
    | with_reducible exact State.Keeps.refl _ _
    | with_reducible assumption
    | with_reducible apply State.KeepsR.next
    | ((with_reducible apply State.regionOp_keeps); rotate_right; decide)
    | ((with_reducible apply State.fetch_keeps); rotate_right; decide)
    | ((with_reducible apply State.Keeps.step (State.regionInval_keeps ..)); rotate_right; decide)
    | ((with_reducible apply State.Keeps.step (State.done_keeps ..)); rotate_right; decide)
    | ((with_reducible apply State.Keeps.step (State.regionSet_keeps ..)); rotate_right; decide)
    | split
    | with_reducible refine State.Keeps.fst ‹_ = (_, _)› ?_

def execRevoke_scope : Scope := State.fetch_scope
theorem execRevoke_keeps (qid : BitVec 20) (entry : SqEntry) (s : State) : State.KeepsR execRevoke_scope s (execRevoke qid entry s) := by
  unfold execRevoke
  (try dsimp only)
  repeat' first
    | intro _
    | with_reducible exact State.Keeps.refl _ _
    | with_reducible assumption
    | with_reducible apply State.KeepsR.next
    | with_reducible apply State.Keeps.ite
    | ((with_reducible apply State.fetch_keeps); rotate_right; decide)
    | ((with_reducible apply State.Keeps.step (State.done_keeps ..)); rotate_right; decide)
    | ((with_reducible apply State.Keeps.step (State.revoke_keeps ..)); rotate_right; decide)
    | split
    | with_reducible refine State.Keeps.fst ‹_ = (_, _)› ?_

def execRread_scope : Scope := State.fetchMove_scope
theorem execRread_keeps (qid : BitVec 20) (entry : SqEntry) (s : State) : State.KeepsR execRread_scope s (execRread qid entry s) := by
  unfold execRread
  (try dsimp only)
  repeat' first
    | with_reducible exact State.Keeps.refl _ _
    | ((with_reducible apply State.KeepsR.step (State.fetchMove_keeps ..)); rotate_right; decide)

def execRwrite_scope : Scope := State.fetchMove_scope
theorem execRwrite_keeps (qid : BitVec 20) (entry : SqEntry) (s : State) : State.KeepsR execRwrite_scope s (execRwrite qid entry s) := by
  unfold execRwrite
  (try dsimp only)
  repeat' first
    | with_reducible exact State.Keeps.refl _ _
    | ((with_reducible apply State.KeepsR.step (State.fetchMove_keeps ..)); rotate_right; decide)

def State.listRead_scope : Scope := ⟨[.regs, .evf, .recd, .xlt, .hp, .tier, .pan, .pwr, .dmc, .out, .free], some [EVF.ALERT_DRV, EVF.TRACE_DROP, HDR.ERR_INFO0, HDR.ERR_INFO1, HDR.ERR_STAT, HDR.EVT_STAT, MGT.ALARM_SENT, PAN.HIT_CNT, PAN.MISS_CNT, PAN.WB_CNT, PWR.PWR_WAKE_LATCH, PWR.STATE, REC.ALARM_DROP, REC.HEAD_SEQ, REC.LOST_CNT, REC.OVW_CNT, REC.RSV_USED]⟩
theorem State.listRead_keeps (s : State) (region : Nat) (d : Region) (off : Nat) (count : Nat) : State.Keeps State.listRead_scope s (State.listRead s region d off count).1 := by
  unfold State.listRead
  (try dsimp only)
  repeat' first
    | with_reducible exact State.Keeps.refl _ _
    | with_reducible assumption
    | with_reducible apply State.Keeps.ite
    | with_reducible apply State.Keeps.ite1
    | ((with_reducible apply State.Keeps.foldl); rotate_right; intro _ _ _; rotate_left)
    | with_reducible refine State.Keeps.fst ‹_ = (_, _)› ?_
    | ((with_reducible apply State.Keeps.step (State.resolve_keeps ..)); rotate_right; decide)
    | ((with_reducible apply State.Keeps.foldl1); rotate_right; intro _ _ _; rotate_left)
    | ((with_reducible apply State.Keeps.step (State.placeRead_keeps ..)); rotate_right; decide)
    | dsimp only
    | split

def execSluiceCancel_scope : Scope := ⟨[.regs, .evf, .recd, .xlt, .hp, .qe, .tier, .pan, .pwr, .dmc, .out, .free], some [EVF.ALERT_DRV, EVF.TRACE_DROP, HDR.ERR_INFO0, HDR.ERR_INFO1, HDR.ERR_STAT, HDR.EVT_STAT, MGT.ALARM_SENT, PAN.HIT_CNT, PAN.MISS_CNT, PAN.WB_CNT, PWR.PWR_WAKE_LATCH, PWR.STATE, REC.ALARM_DROP, REC.HEAD_SEQ, REC.LOST_CNT, REC.OVW_CNT, REC.RSV_USED]⟩
theorem execSluiceCancel_keeps (qid : BitVec 20) (entry : SqEntry) (s : State) : State.KeepsR execSluiceCancel_scope s (execSluiceCancel qid entry s) := by
  unfold execSluiceCancel
  (try dsimp only)
  repeat' first
    | intro _
    | with_reducible exact State.Keeps.refl _ _
    | with_reducible assumption
    | with_reducible apply State.KeepsR.next
    | with_reducible apply State.Keeps.ite
    | ((with_reducible apply State.fetch_keeps); rotate_right; decide)
    | ((with_reducible apply State.Keeps.step (State.done_keeps ..)); rotate_right; decide)
    | ((with_reducible apply State.Keeps.step (State.sluCancel_keeps ..)); rotate_right; decide)
    | split

def execSqDoorbell_scope : Scope := ⟨[.regs, .evf, .recd, .hp, .qe, .pwr, .out, .free], some [EVF.ALERT_DRV, EVF.TRACE_DROP, HDR.ERR_INFO0, HDR.ERR_INFO1, HDR.ERR_STAT, HDR.EVT_STAT, MGT.ALARM_SENT, PWR.PWR_WAKE_LATCH, PWR.STATE, QE.QE_DB_DROP, REC.ALARM_DROP, REC.HEAD_SEQ, REC.LOST_CNT, REC.OVW_CNT, REC.RSV_USED]⟩
theorem execSqDoorbell_keeps (port : Port) (ld : Ld) (dbPage : BitVec 20) (tail : BitVec 16) (s : State) : State.KeepsR execSqDoorbell_scope s (execSqDoorbell port ld dbPage tail s) := by
  unfold execSqDoorbell
  (try dsimp only)
  repeat' first
    | with_reducible exact State.Keeps.refl _ _
    | with_reducible apply State.KeepsR.next
    | with_reducible apply State.KeepsR.ite
    | ((with_reducible apply State.Keeps.step (State.putQueue_keeps ..)); rotate_right; decide)
    | ((with_reducible apply State.Keeps.step (State.queueError_keeps ..)); rotate_right; decide)
    | ((with_reducible apply State.Keeps.step (State.inc_keeps ..)); rotate_right; decide)
    | split

def execUnknownOpcode_scope : Scope := State.fetch_scope
theorem execUnknownOpcode_keeps (qid : BitVec 20) (entry : SqEntry) (s : State) : State.KeepsR execUnknownOpcode_scope s (execUnknownOpcode qid entry s) := by
  unfold execUnknownOpcode
  (try dsimp only)
  repeat' first
    | intro _
    | with_reducible exact State.Keeps.refl _ _
    | with_reducible assumption
    | with_reducible apply State.KeepsR.next
    | with_reducible apply State.KeepsR.ite
    | ((with_reducible apply State.fetch_keeps); rotate_right; decide)

def execZero_scope : Scope := State.fetchMove_scope
theorem execZero_keeps (qid : BitVec 20) (entry : SqEntry) (s : State) : State.KeepsR execZero_scope s (execZero qid entry s) := by
  unfold execZero
  (try dsimp only)
  repeat' first
    | with_reducible exact State.Keeps.refl _ _
    | ((with_reducible apply State.KeepsR.step (State.fetchMove_keeps ..)); rotate_right; decide)

end Sys2Proof.Machine
end

