-- ==== Sys2Proof/Laws/KeepMover.lean ====
section
/-! SUPPORT. What each operation of Machine/Mover.lean keeps: the parts of State it can change are those listed. -/
set_option linter.unusedTactic false
set_option linter.unreachableTactic false
namespace Sys2Proof.Machine

def State.moverOffline_scope : Scope := ⟨[.regs, .evf, .recd, .hp, .mov, .pwr, .out, .free], some [EVF.ALERT_DRV, EVF.TRACE_DROP, HDR.ERR_INFO0, HDR.ERR_INFO1, HDR.ERR_STAT, HDR.EVT_STAT, MGT.ALARM_SENT, MOV.OFFLINE, MOV.STATE, PWR.PWR_WAKE_LATCH, PWR.STATE, REC.ALARM_DROP, REC.HEAD_SEQ, REC.LOST_CNT, REC.OVW_CNT, REC.RSV_USED]⟩
theorem State.moverOffline_keeps (s : State) (m : Nat) (v : Bool) : State.Keeps State.moverOffline_scope s (State.moverOffline s m v) := by
  unfold State.moverOffline
  (try dsimp only)
  repeat' first
    | with_reducible exact State.Keeps.refl _ _
    | with_reducible apply State.Keeps.ite
    | fail_if_no_progress ((with_reducible apply State.Keeps.upd_mov); rotate_right; decide)
    | ((with_reducible apply State.Keeps.step (State.put_keeps ..)); rotate_right; decide)
    | with_reducible assumption
    | ((with_reducible apply State.Keeps.step (State.moverOff_keeps ..)); rotate_right; decide)

def State.moverShow_scope : Scope := ⟨[.regs], some [MOV.CMD_ID, MOV.OPCODE, MOV.QID, MOV.SCLASS, MOV.STEP]⟩
theorem State.moverShow_keeps (s : State) (m : Nat) (x : Cmd) (k : Nat) : State.Keeps State.moverShow_scope s (State.moverShow s m x k) := by
  unfold State.moverShow
  (try dsimp only)
  repeat' first
    | with_reducible exact State.Keeps.refl _ _
    | ((with_reducible apply State.Keeps.step (State.put_keeps ..)); rotate_right; decide)

def State.runWalk_scope : Scope := ⟨[.regs, .evf, .recd, .xlt, .hp, .qe, .mov, .tier, .pwr, .out, .free], some [EVF.ALERT_DRV, EVF.TRACE_DROP, HDR.ERR_INFO0, HDR.ERR_INFO1, HDR.ERR_STAT, HDR.EVT_STAT, MGT.ALARM_SENT, MOV.FAULT_CNT, MOV.LAST_FCLASS, MOV.LAST_FOFF, MOV.LAST_STATUS, MOV.OFFLINE, MOV.PARK_FULL_CNT, MOV.PARK_PEAK, MOV.STATE, PWR.PWR_WAKE_LATCH, PWR.STATE, REC.ALARM_DROP, REC.HEAD_SEQ, REC.LOST_CNT, REC.OVW_CNT, REC.RSV_USED]⟩
theorem State.runWalk_keeps (s : State) (m : Nat) (x : Cmd) (k : Nat) (parity : Bool) : State.Keeps State.runWalk_scope s (State.runWalk s m x k parity) := by
  unfold State.runWalk
  (try dsimp only)
  repeat' first
    | with_reducible exact State.Keeps.refl _ _
    | with_reducible apply State.Keeps.ite
    | ((with_reducible apply State.Keeps.step (State.put_keeps ..)); rotate_right; decide)
    | ((with_reducible apply State.Keeps.step (State.moverStop_keeps ..)); rotate_right; decide)
    | ((with_reducible apply State.Keeps.step (State.walkStep_keeps ..)); rotate_right; decide)
    | ((with_reducible apply State.Keeps.step (State.stall_keeps ..)); rotate_right; decide)
    | ((with_reducible apply State.Keeps.step (State.moverBroken_keeps ..)); rotate_right; decide)
    | with_reducible refine State.Keeps.fst ‹_ = (_, _)› ?_
    | with_reducible assumption
    | ((with_reducible apply State.Keeps.step (State.modCmd_keeps ..)); rotate_right; decide)
    | split

def execParkedStepResume_scope : Scope := State.runWalk_scope
theorem execParkedStepResume_keeps (qid : BitVec 20) (cmdId : BitVec 16) (step : Nat) (s : State) : State.KeepsR execParkedStepResume_scope s (execParkedStepResume qid cmdId step s) := by
  unfold execParkedStepResume
  (try dsimp only)
  repeat' first
    | with_reducible exact State.Keeps.refl _ _
    | with_reducible apply State.KeepsR.next
    | with_reducible apply State.KeepsR.ite
    | ((with_reducible apply State.Keeps.step (State.modCmd_keeps ..)); rotate_right; decide)
    | ((with_reducible apply State.Keeps.step (State.put_keeps ..)); rotate_right; decide)
    | ((with_reducible apply State.Keeps.step (State.runWalk_keeps ..)); rotate_right; decide)
    | split

end Sys2Proof.Machine
end

