-- ==== Sys2Proof/Laws/KeepTwinOps.lean ====
section
/-! SUPPORT. What each operation of Machine/TwinOps.lean keeps: the parts of State it can change are those listed. -/
set_option linter.unusedTactic false
set_option linter.unreachableTactic false
namespace Sys2Proof.Machine

def State.zeroVolatile_scope : Scope := ⟨[.regs, .evf, .recd, .xlt, .hp, .tier, .pan, .pwr, .dmc, .flm, .out, .free], some [EVF.ALERT_DRV, EVF.TRACE_DROP, HDR.ERR_INFO0, HDR.ERR_INFO1, HDR.ERR_STAT, HDR.EVT_STAT, MGT.ALARM_SENT, PAN.LOCKS_RELEASED, PAN.LOCK_LOST_CNT, PAN.WB_CNT, PWR.PWR_WAKE_LATCH, PWR.STATE, REC.ALARM_DROP, REC.HEAD_SEQ, REC.LOST_CNT, REC.OVW_CNT, REC.RSV_USED]⟩
theorem State.zeroVolatile_keeps (s : State) (hit : Nat → Bool) : State.Keeps State.zeroVolatile_scope s (State.zeroVolatile s hit) := by
  unfold State.zeroVolatile
  (try dsimp only)
  repeat' first
    | with_reducible exact State.Keeps.refl _ _
    | with_reducible assumption
    | fail_if_no_progress ((with_reducible apply State.Keeps.upd_xlt); rotate_right; decide)
    | ((with_reducible apply State.Keeps.step (State.misc_keeps ..)); rotate_right; decide)
    | ((with_reducible apply State.Keeps.step (State.discardBlock_keeps ..)); rotate_right; decide)
    | ((with_reducible apply State.Keeps.foldl); rotate_right; intro _ _ _; rotate_left)

def State.askGroups_scope : Scope := ⟨[.twn, .out], some []⟩
theorem State.askGroups_keeps (s : State) (gs : List Nat) : State.Keeps State.askGroups_scope s (State.askGroups s gs) := by
  unfold State.askGroups
  (try dsimp only)
  repeat' first
    | with_reducible exact State.Keeps.refl _ _
    | with_reducible apply State.Keeps.ite
    | fail_if_no_progress ((with_reducible apply State.Keeps.upd_twn); rotate_right; decide)
    | ((with_reducible apply State.Keeps.step (State.emit_keeps ..)); rotate_right; decide)

def State.handoffStart_scope : Scope := ⟨[.twn], some []⟩
theorem State.handoffStart_keeps (s : State) (g : Nat) : State.Keeps State.handoffStart_scope s (State.handoffStart s g) := by
  unfold State.handoffStart
  (try dsimp only)
  repeat' first
    | with_reducible exact State.Keeps.refl _ _
    | with_reducible apply State.Keeps.ite
    | fail_if_no_progress ((with_reducible apply State.Keeps.upd_twn); rotate_right; decide)

def State.dropCommands_scope : Scope := ⟨[.regs, .evf, .recd, .xlt, .hp, .qe, .mov, .tier, .pan, .twn, .cmn, .pwr, .dmc, .flm, .out, .free], some [CMP.TX_FRAMES, EVF.ALERT_DRV, EVF.TRACE_DROP, HDR.ERR_INFO0, HDR.ERR_INFO1, HDR.ERR_STAT, HDR.EVT_STAT, MGT.ALARM_SENT, MOV.FAULT_CNT, MOV.LAST_FCLASS, MOV.LAST_FOFF, MOV.LAST_STATUS, MOV.OFFLINE, MOV.PARK_FULL_CNT, MOV.PARK_PEAK, MOV.STATE, MOV.STEPS_DONE, PAN.HIT_CNT, PAN.MISS_CNT, PAN.WB_CNT, PWR.PWR_WAKE_LATCH, PWR.STATE, REC.ALARM_DROP, REC.HEAD_SEQ, REC.LOST_CNT, REC.OVW_CNT, REC.RSV_USED, TIER.MISSED, TIER.ON_TIME, TIER.QUOTA_REFUSE, TIER.SUBST]⟩
theorem State.dropCommands_keeps (s : State) (hit : Nat → Bool) : State.Keeps State.dropCommands_scope s (State.dropCommands s hit) := by
  unfold State.dropCommands
  (try dsimp only)
  repeat' first
    | with_reducible exact State.Keeps.refl _ _
    | with_reducible assumption
    | fail_if_no_progress ((with_reducible apply State.Keeps.upd_qe); rotate_right; decide)
    | ((with_reducible apply State.Keeps.step (State.pruneReads_keeps ..)); rotate_right; decide)
    | ((with_reducible apply State.Keeps.step (State.sluCancel_keeps ..)); rotate_right; decide)
    | ((with_reducible apply State.Keeps.step (State.moverFree_keeps ..)); rotate_right; decide)
    | ((with_reducible apply State.Keeps.foldl); rotate_right; intro _ _ _; rotate_left)
    | with_reducible apply State.Keeps.ite
    | ((with_reducible apply State.Keeps.step (State.movesEnd_keeps ..)); rotate_right; decide)
    | ((with_reducible apply State.Keeps.foldl1); rotate_right; intro _ _ _; rotate_left)
    | with_reducible refine State.Keeps.fst ‹_ = (_, _)› ?_
    | ((with_reducible apply State.Keeps.step (State.settleAll_keeps ..)); rotate_right; decide)
    | split

def State.queuesOff_scope : Scope := ⟨[.regs, .evf, .recd, .xlt, .hp, .qe, .mov, .tier, .pan, .twn, .cmn, .pwr, .dmc, .flm, .out, .free], some [CMP.TX_FRAMES, EVF.ALERT_DRV, EVF.TRACE_DROP, HDR.ERR_INFO0, HDR.ERR_INFO1, HDR.ERR_STAT, HDR.EVT_STAT, MGT.ALARM_SENT, MOV.FAULT_CNT, MOV.LAST_FCLASS, MOV.LAST_FOFF, MOV.LAST_STATUS, MOV.OFFLINE, MOV.PARK_FULL_CNT, MOV.PARK_PEAK, MOV.STATE, MOV.STEPS_DONE, PAN.HIT_CNT, PAN.MISS_CNT, PAN.WB_CNT, PWR.PWR_WAKE_LATCH, PWR.STATE, QE.BUSY, REC.ALARM_DROP, REC.HEAD_SEQ, REC.LOST_CNT, REC.OVW_CNT, REC.RSV_USED, TIER.MISSED, TIER.ON_TIME, TIER.QUOTA_REFUSE, TIER.SUBST]⟩
theorem State.queuesOff_keeps (s : State) (hit : Nat → QueueCtx → Bool) : State.Keeps State.queuesOff_scope s (State.queuesOff s hit) := by
  unfold State.queuesOff
  (try dsimp only)
  repeat' first
    | with_reducible exact State.Keeps.refl _ _
    | fail_if_no_progress ((with_reducible apply State.Keeps.upd_qe); rotate_right; decide)
    | ((with_reducible apply State.Keeps.step (State.dropCommands_keeps ..)); rotate_right; decide)
    | with_reducible assumption
    | with_reducible apply State.Keeps.ite
    | ((with_reducible apply State.Keeps.step (State.qctl_keeps ..)); rotate_right; decide)
    | ((with_reducible apply State.Keeps.step (State.put_keeps ..)); rotate_right; decide)
    | with_reducible refine State.Keeps.fst ‹_ = (_, _)› ?_
    | split

def State.twinSend_scope : Scope := ⟨[.out], some []⟩
theorem State.twinSend_keeps (s : State) (typ : Nat) (grp : Nat) (seq : Nat) (addr : Nat) (stamp : Nat) (vals : List SectorVal) : State.Keeps State.twinSend_scope s (State.twinSend s typ grp seq addr stamp vals) := by
  unfold State.twinSend
  (try dsimp only)
  repeat' first
    | with_reducible exact State.Keeps.refl _ _
    | with_reducible apply State.Keeps.ite
    | ((with_reducible apply State.Keeps.step (State.emit_keeps ..)); rotate_right; decide)

def State.adopt_scope : Scope := ⟨[.tier, .twn, .dmc], some []⟩
theorem State.adopt_keeps (s : State) (hit : Nat → Bool) : State.Keeps State.adopt_scope s (State.adopt s hit) := by
  unfold State.adopt
  (try dsimp only)
  repeat' first
    | with_reducible exact State.Keeps.refl _ _
    | with_reducible assumption
    | with_reducible apply State.Keeps.ite
    | fail_if_no_progress ((with_reducible apply State.Keeps.upd_twn); rotate_right; decide)
    | ((with_reducible apply State.Keeps.step (State.putBlock_keeps ..)); rotate_right; decide)
    | ((with_reducible apply State.Keeps.step (State.frameWrite_keeps ..)); rotate_right; decide)
    | ((with_reducible apply State.Keeps.step (State.putQuota_keeps ..)); rotate_right; decide)
    | ((with_reducible apply State.Keeps.foldl); rotate_right; intro _ _ _; rotate_left)
    | ((with_reducible apply State.Keeps.foldl1); rotate_right; intro _ _ _; rotate_left)
    | with_reducible refine State.Keeps.fst ‹_ = (_, _)› ?_
    | split

def State.formStart_scope : Scope := ⟨[.regs, .twn, .out], some [TWN.STATE]⟩
theorem State.formStart_keeps (s : State) : State.Keeps State.formStart_scope s (State.formStart s) := by
  unfold State.formStart
  (try dsimp only)
  repeat' first
    | with_reducible exact State.Keeps.refl _ _
    | with_reducible apply State.Keeps.ite
    | fail_if_no_progress ((with_reducible apply State.Keeps.upd_twn); rotate_right; decide)
    | ((with_reducible apply State.Keeps.step (State.emit_keeps ..)); rotate_right; decide)
    | ((with_reducible apply State.Keeps.step (State.put_keeps ..)); rotate_right; decide)

def State.dropUnacked_scope : Scope := ⟨[.regs, .evf, .recd, .xlt, .hp, .qe, .mov, .tier, .twn, .cmn, .pwr, .out, .free], some [CME.VIOL_TX, CMP.TX_FRAMES, EVF.ALERT_DRV, EVF.TRACE_DROP, HDR.ERR_INFO0, HDR.ERR_INFO1, HDR.ERR_STAT, HDR.EVT_STAT, MGT.ALARM_SENT, MOV.FAULT_CNT, MOV.LAST_FCLASS, MOV.LAST_FOFF, MOV.LAST_STATUS, MOV.OFFLINE, MOV.STATE, PWR.PWR_WAKE_LATCH, PWR.STATE, REC.ALARM_DROP, REC.HEAD_SEQ, REC.LOST_CNT, REC.OVW_CNT, REC.RSV_USED]⟩
theorem State.dropUnacked_keeps (s : State) (hit : Nat → Bool) : State.Keeps State.dropUnacked_scope s (State.dropUnacked s hit) := by
  unfold State.dropUnacked
  (try dsimp only)
  with_reducible apply State.Keeps.upd_twn
  rotate_right
  · decide
  repeat' first
    | with_reducible exact State.Keeps.refl _ _
    | with_reducible assumption
    | ((with_reducible apply State.Keeps.foldl); rotate_right; intro _ _ _; rotate_left)
    | ((with_reducible apply State.Keeps.step (State.tgtEnd_keeps ..)); rotate_right; decide)
    | ((with_reducible apply State.Keeps.step (State.stepFault_keeps ..)); rotate_right; decide)
    | ((with_reducible apply State.Keeps.step (State.putLd_keeps ..)); rotate_right; decide)
    | fail_if_no_progress ((with_reducible apply State.Keeps.upd_hp); rotate_right; decide)
    | with_reducible refine State.Keeps.fst ‹_ = (_, _)› ?_

def State.setServe_scope : Scope := ⟨[.regs, .twn], some [NVS.FAST_BAD, TWN.SERVE]⟩
theorem State.setServe_keeps (s : State) (mask : Nat) : State.Keeps State.setServe_scope s (State.setServe s mask) := by
  unfold State.setServe
  (try dsimp only)
  repeat' first
    | with_reducible exact State.Keeps.refl _ _
    | fail_if_no_progress ((with_reducible apply State.Keeps.upd_twn); rotate_right; decide)
    | ((with_reducible apply State.Keeps.step (State.put_keeps ..)); rotate_right; decide)
    | ((with_reducible apply State.Keeps.step (State.fastWrote_keeps ..)); rotate_right; decide)

def State.fenceGroups_scope : Scope := ⟨[.regs, .evf, .recd, .xlt, .hp, .qe, .mov, .tier, .twn, .cmn, .pwr, .out, .free], some [CME.VIOL_TX, CMP.TX_FRAMES, EVF.ALERT_DRV, EVF.TRACE_DROP, HDR.ERR_INFO0, HDR.ERR_INFO1, HDR.ERR_STAT, HDR.EVT_STAT, MGT.ALARM_SENT, MOV.FAULT_CNT, MOV.LAST_FCLASS, MOV.LAST_FOFF, MOV.LAST_STATUS, MOV.OFFLINE, MOV.STATE, NVS.FAST_BAD, PWR.PWR_WAKE_LATCH, PWR.STATE, REC.ALARM_DROP, REC.HEAD_SEQ, REC.LOST_CNT, REC.OVW_CNT, REC.RSV_USED, TWN.CLAIM_W_DRV, TWN.SERVE, TWN.TWN_CLAIM_LOCAL]⟩
theorem State.fenceGroups_keeps (s : State) (hit : Nat → Bool) : State.Keeps State.fenceGroups_scope s (State.fenceGroups s hit) := by
  unfold State.fenceGroups
  (try dsimp only)
  repeat' first
    | with_reducible exact State.Keeps.refl _ _
    | with_reducible assumption
    | with_reducible apply State.Keeps.ite
    | ((with_reducible apply State.Keeps.step (State.put_keeps ..)); rotate_right; decide)
    | ((with_reducible apply State.Keeps.step (State.pinOut_keeps ..)); rotate_right; decide)
    | ((with_reducible apply State.Keeps.step (State.dropUnacked_keeps ..)); rotate_right; decide)
    | ((with_reducible apply State.Keeps.step (State.setServe_keeps ..)); rotate_right; decide)
    | ((with_reducible apply State.Keeps.foldl); rotate_right; intro _ _ _; rotate_left)
    | ((with_reducible apply State.Keeps.step (State.moduleEvent_keeps ..)); rotate_right; decide)
    | ((with_reducible apply State.Keeps.foldl1); rotate_right; intro _ _ _; rotate_left)

def State.fenceAll_scope : Scope := ⟨[.regs, .evf, .recd, .xlt, .hp, .qe, .mov, .tier, .twn, .cmn, .pwr, .out, .free], some [CME.VIOL_TX, CMP.TX_FRAMES, EVF.ALERT_DRV, EVF.TRACE_DROP, HDR.ERR_INFO0, HDR.ERR_INFO1, HDR.ERR_STAT, HDR.EVT_STAT, MGT.ALARM_SENT, MOV.FAULT_CNT, MOV.LAST_FCLASS, MOV.LAST_FOFF, MOV.LAST_STATUS, MOV.OFFLINE, MOV.STATE, NVS.FAST_BAD, PWR.PWR_WAKE_LATCH, PWR.STATE, REC.ALARM_DROP, REC.HEAD_SEQ, REC.LOST_CNT, REC.OVW_CNT, REC.RSV_USED, TWN.CLAIM_W_DRV, TWN.IN_SYNC, TWN.SERVE, TWN.STATE, TWN.TWN_CLAIM_LOCAL]⟩
theorem State.fenceAll_keeps (s : State) : State.Keeps State.fenceAll_scope s (State.fenceAll s) := by
  unfold State.fenceAll
  (try dsimp only)
  repeat' first
    | with_reducible exact State.Keeps.refl _ _
    | fail_if_no_progress ((with_reducible apply State.Keeps.upd_twn); rotate_right; decide)
    | ((with_reducible apply State.Keeps.step (State.occur_keeps ..)); rotate_right; decide)
    | ((with_reducible apply State.Keeps.step (State.moduleEvent_keeps ..)); rotate_right; decide)
    | ((with_reducible apply State.Keeps.step (State.fenceGroups_keeps ..)); rotate_right; decide)
    | ((with_reducible apply State.Keeps.step (State.put_keeps ..)); rotate_right; decide)
    | with_reducible assumption
    | with_reducible apply State.Keeps.ite

def State.coverBlocks_scope : Scope := ⟨[.hp, .qe], some []⟩
theorem State.coverBlocks_keeps (s : State) : State.Keeps State.coverBlocks_scope s (State.coverBlocks s) := by
  unfold State.coverBlocks
  (try dsimp only)
  repeat' first
    | with_reducible exact State.Keeps.refl _ _
    | with_reducible assumption
    | with_reducible apply State.Keeps.ite
    | fail_if_no_progress ((with_reducible apply State.Keeps.upd_hp); rotate_right; decide)
    | fail_if_no_progress ((with_reducible apply State.Keeps.upd_qe); rotate_right; decide)
    | fail_if_no_progress ((with_reducible apply State.Keeps.upd); rotate_right; (intro p hp; cases p <;> first | exact absurd (by decide) hp | exact rfl))

def State.mendFail_scope : Scope := ⟨[.regs, .evf, .recd, .hp, .tier, .pan, .pwr, .dmc, .flm, .out, .free], some [EVF.ALERT_DRV, EVF.TRACE_DROP, HDR.ERR_INFO0, HDR.ERR_INFO1, HDR.ERR_STAT, HDR.EVT_STAT, MGT.ALARM_SENT, PWR.PWR_WAKE_LATCH, PWR.STATE, REC.ALARM_DROP, REC.HEAD_SEQ, REC.LOST_CNT, REC.OVW_CNT, REC.RSV_USED]⟩
theorem State.mendFail_keeps (s : State) (n : Nat) : State.Keeps State.mendFail_scope s (State.mendFail s n) := by
  unfold State.mendFail
  (try dsimp only)
  repeat' first
    | with_reducible exact State.Keeps.refl _ _
    | with_reducible assumption
    | with_reducible apply State.Keeps.ite
    | ((with_reducible apply State.Keeps.step (State.secRewrite_keeps ..)); rotate_right; decide)
    | ((with_reducible apply State.Keeps.step (State.misc_keeps ..)); rotate_right; decide)

def State.soloEntry_scope : Scope := ⟨[.regs, .evf, .recd, .xlt, .hp, .qe, .mov, .tier, .pan, .twn, .cmn, .pwr, .dmc, .flm, .out, .free], some [CME.VIOL_TX, CMP.TX_FRAMES, EVF.ALERT_DRV, EVF.TRACE_DROP, HDR.ERR_INFO0, HDR.ERR_INFO1, HDR.ERR_STAT, HDR.EVT_STAT, MGT.ALARM_SENT, MOV.LAST_FCLASS, MOV.LAST_FOFF, MOV.LAST_STATUS, PAN.HIT_CNT, PAN.MISS_CNT, PAN.WB_CNT, PWR.PWR_WAKE_LATCH, PWR.STATE, REC.ALARM_DROP, REC.HEAD_SEQ, REC.LOST_CNT, REC.OVW_CNT, REC.RSV_USED, TIER.MISSED, TIER.ON_TIME, TIER.QUOTA_REFUSE, TIER.SUBST, TWN.STATE]⟩
theorem State.soloEntry_keeps (s : State) : State.Keeps State.soloEntry_scope s (State.soloEntry s) := by
  unfold State.soloEntry
  (try dsimp only)
  repeat' first
    | with_reducible exact State.Keeps.refl _ _
    | with_reducible assumption
    | fail_if_no_progress ((with_reducible apply State.Keeps.upd_twn); rotate_right; decide)
    | ((with_reducible apply State.Keeps.step (State.occur_keeps ..)); rotate_right; decide)
    | ((with_reducible apply State.Keeps.step (State.moduleEvent_keeps ..)); rotate_right; decide)
    | ((with_reducible apply State.Keeps.step (State.ackSweep_keeps ..)); rotate_right; decide)
    | ((with_reducible apply State.Keeps.step (State.misc_keeps ..)); rotate_right; decide)
    | ((with_reducible apply State.Keeps.step (State.rsmMark_keeps ..)); rotate_right; decide)
    | ((with_reducible apply State.Keeps.step (State.put_keeps ..)); rotate_right; decide)
    | ((with_reducible apply State.Keeps.foldl); rotate_right; intro _ _ _; rotate_left)
    | with_reducible apply State.Keeps.ite
    | ((with_reducible apply State.Keeps.step (State.coverBlocks_keeps ..)); rotate_right; decide)
    | ((with_reducible apply State.Keeps.step (State.mendFail_keeps ..)); rotate_right; decide)
    | ((with_reducible apply State.Keeps.foldl1); rotate_right; intro _ _ _; rotate_left)

def State.partnerLost_scope : Scope := ⟨[.regs, .evf, .recd, .xlt, .hp, .qe, .mov, .tier, .pan, .twn, .cmn, .pwr, .dmc, .flm, .out, .free], some [CME.VIOL_TX, CMP.TX_FRAMES, EVF.ALERT_DRV, EVF.TRACE_DROP, HDR.ERR_INFO0, HDR.ERR_INFO1, HDR.ERR_STAT, HDR.EVT_STAT, MGT.ALARM_SENT, MOV.FAULT_CNT, MOV.LAST_FCLASS, MOV.LAST_FOFF, MOV.LAST_STATUS, MOV.OFFLINE, MOV.STATE, NVS.FAST_BAD, PAN.HIT_CNT, PAN.MISS_CNT, PAN.WB_CNT, PWR.PWR_WAKE_LATCH, PWR.STATE, REC.ALARM_DROP, REC.HEAD_SEQ, REC.LOST_CNT, REC.OVW_CNT, REC.RSV_USED, TIER.MISSED, TIER.ON_TIME, TIER.QUOTA_REFUSE, TIER.SUBST, TWN.CLAIM_W_DRV, TWN.IN_SYNC, TWN.SERVE, TWN.STATE, TWN.TWN_CLAIM_LOCAL]⟩
theorem State.partnerLost_keeps (s : State) : State.Keeps State.partnerLost_scope s (State.partnerLost s) := by
  unfold State.partnerLost
  (try dsimp only)
  repeat' first
    | with_reducible exact State.Keeps.refl _ _
    | with_reducible apply State.Keeps.ite
    | ((with_reducible apply State.Keeps.step (State.fenceAll_keeps ..)); rotate_right; decide)
    | ((with_reducible apply State.Keeps.step (State.soloEntry_keeps ..)); rotate_right; decide)

def State.linkLost_scope : Scope := ⟨[.regs, .evf, .recd, .xlt, .hp, .qe, .mov, .tier, .pan, .twn, .cmn, .pwr, .dmc, .flm, .out, .free], some [CME.VIOL_TX, CMP.TX_FRAMES, EVF.ALERT_DRV, EVF.TRACE_DROP, HDR.ERR_INFO0, HDR.ERR_INFO1, HDR.ERR_STAT, HDR.EVT_STAT, MGT.ALARM_SENT, MOV.FAULT_CNT, MOV.LAST_FCLASS, MOV.LAST_FOFF, MOV.LAST_STATUS, MOV.OFFLINE, MOV.STATE, NVS.FAST_BAD, PAN.HIT_CNT, PAN.MISS_CNT, PAN.WB_CNT, PWR.PWR_WAKE_LATCH, PWR.STATE, REC.ALARM_DROP, REC.HEAD_SEQ, REC.LOST_CNT, REC.OVW_CNT, REC.RSV_USED, TIER.MISSED, TIER.ON_TIME, TIER.QUOTA_REFUSE, TIER.SUBST, TWN.BUNDLES, TWN.CLAIM_W_DRV, TWN.IN_SYNC, TWN.LINK_DOWN_CNT, TWN.SERVE, TWN.STATE, TWN.TWN_CLAIM_LOCAL]⟩
theorem State.linkLost_keeps (s : State) : State.Keeps State.linkLost_scope s (State.linkLost s) := by
  unfold State.linkLost
  (try dsimp only)
  repeat' first
    | with_reducible exact State.Keeps.refl _ _
    | with_reducible apply State.Keeps.ite
    | ((with_reducible apply State.Keeps.step (State.partnerLost_keeps ..)); rotate_right; decide)
    | ((with_reducible apply State.Keeps.step (State.put_keeps ..)); rotate_right; decide)
    | ((with_reducible apply State.Keeps.step (State.inc_keeps ..)); rotate_right; decide)

def State.diverge_scope : Scope := ⟨[.regs, .evf, .recd, .hp, .pwr, .out, .free], some [EVF.ALERT_DRV, EVF.TRACE_DROP, HDR.ERR_INFO0, HDR.ERR_INFO1, HDR.ERR_STAT, HDR.EVT_STAT, MGT.ALARM_SENT, PWR.PWR_WAKE_LATCH, PWR.STATE, REC.ALARM_DROP, REC.HEAD_SEQ, REC.LOST_CNT, REC.OVW_CNT, REC.RSV_USED, TWN.DIVERGE_CNT]⟩
theorem State.diverge_keeps (s : State) (n : Nat) (sev : Nat) : State.Keeps State.diverge_scope s (State.diverge s n sev) := by
  unfold State.diverge
  (try dsimp only)
  repeat' first
    | with_reducible exact State.Keeps.refl _ _
    | ((with_reducible apply State.Keeps.step (State.inc_keeps ..)); rotate_right; decide)
    | ((with_reducible apply State.Keeps.step (State.setErr_keeps ..)); rotate_right; decide)
    | ((with_reducible apply State.Keeps.step (State.occur_keeps ..)); rotate_right; decide)

def State.compareSec_scope : Scope := ⟨[.regs, .evf, .recd, .hp, .tier, .pan, .pwr, .dmc, .flm, .out, .free], some [EVF.ALERT_DRV, EVF.TRACE_DROP, HDR.ERR_INFO0, HDR.ERR_INFO1, HDR.ERR_STAT, HDR.EVT_STAT, MGT.ALARM_SENT, PWR.PWR_WAKE_LATCH, PWR.STATE, REC.ALARM_DROP, REC.HEAD_SEQ, REC.LOST_CNT, REC.OVW_CNT, REC.RSV_USED, TWN.DIVERGE_CNT, TWN.DUAL_READS]⟩
theorem State.compareSec_keeps (s : State) (n : Nat) (stamp : Nat) (v : SectorVal) (tagOk : Bool) (ownOk : Bool) : State.Keeps State.compareSec_scope s (State.compareSec s n stamp v tagOk ownOk) := by
  unfold State.compareSec
  (try dsimp only)
  repeat' first
    | with_reducible exact State.Keeps.refl _ _
    | with_reducible assumption
    | with_reducible apply State.Keeps.ite
    | ((with_reducible apply State.Keeps.step (State.twinSend_keeps ..)); rotate_right; decide)
    | ((with_reducible apply State.Keeps.step (State.incMod_keeps ..)); rotate_right; decide)
    | ((with_reducible apply State.Keeps.step (State.diverge_keeps ..)); rotate_right; decide)
    | ((with_reducible apply State.Keeps.step (State.secRewrite_keeps ..)); rotate_right; decide)
    | with_reducible refine State.Keeps.fst ‹_ = (_, _)› ?_
    | split

def State.enterPaired_scope : Scope := ⟨[.regs, .hp, .twn, .out], some [HRV.STATE, NVS.FAST_BAD, TWN.CLAIM_W_DRV, TWN.IN_SYNC, TWN.STATE]⟩
theorem State.enterPaired_keeps (s : State) : State.Keeps State.enterPaired_scope s (State.enterPaired s) := by
  unfold State.enterPaired
  (try dsimp only)
  repeat' first
    | with_reducible exact State.Keeps.refl _ _
    | with_reducible apply State.Keeps.ite
    | ((with_reducible apply State.Keeps.step (State.twinSend_keeps ..)); rotate_right; decide)
    | ((with_reducible apply State.Keeps.step (State.put_keeps ..)); rotate_right; decide)
    | ((with_reducible apply State.Keeps.step (State.fastWrote_keeps ..)); rotate_right; decide)
    | ((with_reducible apply State.Keeps.step (State.pinOut_keeps ..)); rotate_right; decide)
    | fail_if_no_progress ((with_reducible apply State.Keeps.upd); rotate_right; (intro p hp; cases p <;> first | exact absurd (by decide) hp | exact rfl))

def State.resyncSend_scope : Scope := ⟨[.twn, .out], some []⟩
theorem State.resyncSend_keeps (s : State) : State.Keeps State.resyncSend_scope s (State.resyncSend s) := by
  unfold State.resyncSend
  (try dsimp only)
  repeat' first
    | with_reducible exact State.Keeps.refl _ _
    | with_reducible assumption
    | with_reducible apply State.Keeps.ite
    | fail_if_no_progress ((with_reducible apply State.Keeps.upd_twn); rotate_right; decide)
    | ((with_reducible apply State.Keeps.step (State.twinSend_keeps ..)); rotate_right; decide)
    | ((with_reducible apply State.Keeps.foldl); rotate_right; intro _ _ _; rotate_left)

def State.resyncCheck_scope : Scope := State.enterPaired_scope
theorem State.resyncCheck_keeps (s : State) : State.Keeps State.resyncCheck_scope s (State.resyncCheck s) := by
  unfold State.resyncCheck
  (try dsimp only)
  repeat' first
    | with_reducible exact State.Keeps.refl _ _
    | with_reducible apply State.Keeps.ite
    | ((with_reducible apply State.Keeps.step (State.enterPaired_keeps ..)); rotate_right; decide)

def State.takeStart_scope : Scope := ⟨[.twn, .out], some []⟩
theorem State.takeStart_keeps (s : State) (groups : List Nat) (takeover : Bool) : State.Keeps State.takeStart_scope s (State.takeStart s groups takeover) := by
  unfold State.takeStart
  (try dsimp only)
  repeat' first
    | with_reducible exact State.Keeps.refl _ _
    | with_reducible apply State.Keeps.ite
    | fail_if_no_progress ((with_reducible apply State.Keeps.upd_twn); rotate_right; decide)
    | ((with_reducible apply State.Keeps.step (State.emit_keeps ..)); rotate_right; decide)
    | split

def State.formRestart_scope : Scope := ⟨[.regs, .twn, .out], some [TWN.BUNDLES, TWN.LINK_DOWN_CNT, TWN.STATE]⟩
theorem State.formRestart_keeps (s : State) : State.Keeps State.formRestart_scope s (State.formRestart s) := by
  unfold State.formRestart
  (try dsimp only)
  repeat' first
    | with_reducible exact State.Keeps.refl _ _
    | ((with_reducible apply State.Keeps.step (State.put_keeps ..)); rotate_right; decide)
    | ((with_reducible apply State.Keeps.step (State.inc_keeps ..)); rotate_right; decide)
    | ((with_reducible apply State.Keeps.step (State.formStart_keeps ..)); rotate_right; decide)

def State.mirrorPut_scope : Scope := ⟨[.tier, .twn, .dmc], some []⟩
theorem State.mirrorPut_keeps (s : State) (classM : Bool) (grp : Nat) (addr : Nat) (stamp : Nat) (vals : List SectorVal) : State.Keeps State.mirrorPut_scope s (State.mirrorPut s classM grp addr stamp vals) := by
  unfold State.mirrorPut
  (try dsimp only)
  repeat' first
    | with_reducible exact State.Keeps.refl _ _
    | with_reducible apply State.Keeps.ite
    | fail_if_no_progress ((with_reducible apply State.Keeps.upd_twn); rotate_right; decide)
    | with_reducible assumption
    | ((with_reducible apply State.Keeps.step (State.dramAccept_keeps ..)); rotate_right; decide)
    | ((with_reducible apply State.Keeps.foldl1); rotate_right; intro _ _ _; rotate_left)
    | ((with_reducible apply State.Keeps.foldl); rotate_right; intro _ _ _; rotate_left)

def State.recv_scope : Scope := ⟨[.regs, .twn], some [CIP.AUTH_FAIL_CNT]⟩
theorem State.recv_keeps {l : Scope} {s0 : State} (s : State) (h : TwinHdr) (k : State → State) (hk : ∀ (x0 : State), State.Keeps l s0 x0 → State.Keeps l s0 (k x0)) (hk0 : State.Keeps l s0 s) (hl : Scope.within State.recv_scope l = true) :
    State.Keeps l s0 (State.recv s h k) := by
  unfold State.recv
  (try dsimp only)
  repeat' first
    | with_reducible assumption
    | with_reducible apply hk
    | with_reducible apply State.Keeps.ite
    | fail_if_no_progress ((with_reducible apply State.Keeps.upd_twn); rotate_right; exact Scope.within_contains (m := State.recv_scope) (by decide) hl)
    | ((with_reducible apply State.Keeps.step (State.inc_keeps ..)); rotate_right; exact Scope.within_trans (m := State.recv_scope) (by first | decide | rfl) hl)

def State.relabel_scope : Scope := ⟨[.regs, .tier, .pan, .twn, .dmc, .flm, .out], some [PAN.LOCKS_RELEASED, PAN.LOCK_LOST_CNT, PAN.WB_CNT]⟩
theorem State.relabel_keeps (s : State) (g : Nat) : State.Keeps State.relabel_scope s (State.relabel s g) := by
  unfold State.relabel
  (try dsimp only)
  repeat' first
    | with_reducible exact State.Keeps.refl _ _
    | with_reducible assumption
    | fail_if_no_progress ((with_reducible apply State.Keeps.upd_twn); rotate_right; decide)
    | ((with_reducible apply State.Keeps.step (State.freeBlock_keeps ..)); rotate_right; decide)
    | ((with_reducible apply State.Keeps.step (State.panRelease_keeps ..)); rotate_right; decide)
    | ((with_reducible apply State.Keeps.foldl); rotate_right; intro _ _ _; rotate_left)

def State.replayPrune_scope : Scope := ⟨[.twn], some []⟩
theorem State.replayPrune_keeps (s : State) : State.Keeps State.replayPrune_scope s (State.replayPrune s) := by
  unfold State.replayPrune
  (try dsimp only)
  repeat' first
    | with_reducible exact State.Keeps.refl _ _
    | fail_if_no_progress ((with_reducible apply State.Keeps.upd_twn); rotate_right; decide)

def State.resyncPut_scope : Scope := ⟨[.tier, .twn, .flm, .out], some []⟩
theorem State.resyncPut_keeps (s : State) (w : Nat) (stamp : Nat) (vals : Option (List SectorVal)) : State.Keeps State.resyncPut_scope s (State.resyncPut s w stamp vals) := by
  unfold State.resyncPut
  (try dsimp only)
  repeat' first
    | with_reducible exact State.Keeps.refl _ _
    | with_reducible apply State.Keeps.ite
    | fail_if_no_progress ((with_reducible apply State.Keeps.upd_twn); rotate_right; decide)
    | ((with_reducible apply State.Keeps.step (State.twinSend_keeps ..)); rotate_right; decide)
    | ((with_reducible apply State.Keeps.step (State.t2PutUnit_keeps ..)); rotate_right; decide)

def State.rxApply_scope : Scope := ⟨[.tier, .twn, .dmc, .flm, .out], some []⟩
theorem State.rxApply_keeps (s : State) (seq : Nat) (b : RxBody) : State.KeepsO State.rxApply_scope s id (State.rxApply s seq b) := by
  unfold State.rxApply
  (try dsimp only)
  repeat' first
    | with_reducible exact State.Keeps.refl _ _
    | with_reducible assumption
    | with_reducible exact State.KeepsO.none
    | with_reducible apply State.KeepsO.some
    | with_reducible apply State.KeepsO.ite
    | fail_if_no_progress ((with_reducible apply State.Keeps.upd_twn); rotate_right; decide)
    | ((with_reducible apply State.Keeps.step (State.resyncPut_keeps ..)); rotate_right; decide)
    | ((with_reducible apply State.Keeps.step (State.rsmMark_keeps ..)); rotate_right; decide)
    | ((with_reducible apply State.Keeps.step (State.resyncSend_keeps ..)); rotate_right; decide)
    | ((with_reducible apply State.Keeps.step (State.mirrorPut_keeps ..)); rotate_right; decide)
    | ((with_reducible apply State.Keeps.foldl); rotate_right; intro _ _ _; rotate_left)
    | dsimp only [id]
    | split

def State.rxDrain_scope : Scope := ⟨[.tier, .twn, .dmc, .flm, .out], some []⟩
theorem State.rxDrain_keeps (a0 : Nat) (a1 : State) : State.Keeps State.rxDrain_scope a1 (State.rxDrain a0 a1) := by
  induction a0 generalizing a1 with
  | zero => exact State.Keeps.refl _ _
  | succ _ ih =>
   unfold State.rxDrain
   (try dsimp only)
   repeat' first
    | ((with_reducible apply State.Keeps.step (ih ..)); rotate_right; decide)
    | with_reducible exact State.Keeps.refl _ _
    | fail_if_no_progress ((with_reducible apply State.Keeps.upd_twn); rotate_right; decide)
    | ((with_reducible apply State.Keeps.step (State.twinSend_keeps ..)); rotate_right; decide)
    | split
    | ((with_reducible refine State.Keeps.step (State.KeepsO.use (State.rxApply_keeps ..) ‹_›) ?_ ?_); rotate_right; decide)

def State.rxOrdered_scope : Scope := ⟨[.regs, .tier, .twn, .dmc, .flm, .out], some [CIP.HOLD_FULL_CNT]⟩
theorem State.rxOrdered_keeps (s : State) (seq : Nat) (b : RxBody) : State.Keeps State.rxOrdered_scope s (State.rxOrdered s seq b) := by
  unfold State.rxOrdered
  (try dsimp only)
  repeat' first
    | with_reducible exact State.Keeps.refl _ _
    | with_reducible apply State.Keeps.ite
    | fail_if_no_progress ((with_reducible apply State.Keeps.upd_twn); rotate_right; decide)
    | ((with_reducible apply State.Keeps.step (State.rxDrain_keeps ..)); rotate_right; decide)
    | ((with_reducible apply State.KeepsO.getD (State.rxApply_keeps ..)); rotate_right; decide)
    | ((with_reducible apply State.Keeps.step (State.twinSend_keeps ..)); rotate_right; decide)
    | with_reducible assumption
    | ((with_reducible apply State.Keeps.step (State.inc_keeps ..)); rotate_right; decide)
    | ((with_reducible apply State.Keeps.step (State.laneJoin_twin_keeps ..)); rotate_right; decide)

def State.takeDone_scope : Scope := ⟨[.regs, .evf, .recd, .xlt, .hp, .qe, .mov, .tier, .pan, .twn, .cmn, .pwr, .dmc, .flm, .out, .free], some [CME.VIOL_TX, CMP.TX_FRAMES, EVF.ALERT_DRV, EVF.TRACE_DROP, HDR.ERR_INFO0, HDR.ERR_INFO1, HDR.ERR_STAT, HDR.EVT_STAT, MGT.ALARM_SENT, MOV.FAULT_CNT, MOV.LAST_FCLASS, MOV.LAST_FOFF, MOV.LAST_STATUS, MOV.OFFLINE, MOV.PARK_FULL_CNT, MOV.PARK_PEAK, MOV.STATE, MOV.STEPS_DONE, NVS.FAST_BAD, PAN.HIT_CNT, PAN.LOCKS_RELEASED, PAN.LOCK_LOST_CNT, PAN.MISS_CNT, PAN.WB_CNT, PWR.PWR_WAKE_LATCH, PWR.STATE, QE.BUSY, REC.ALARM_DROP, REC.HEAD_SEQ, REC.LOST_CNT, REC.OVW_CNT, REC.RSV_USED, TIER.MISSED, TIER.ON_TIME, TIER.QUOTA_REFUSE, TIER.SUBST, TWN.SERVE, TWN.STATE, TWN.TAKEOVER_CNT, TWN.TWN_CLAIM_LOCAL]⟩
theorem State.takeDone_keeps (s : State) (t : Take) : State.Keeps State.takeDone_scope s (State.takeDone s t) := by
  unfold State.takeDone
  extract_lets hit lost s1 s2 s3 s4 s5 _ s6 s7
  have h1 : State.Keeps State.takeDone_scope s s1 := by
    refine State.Keeps.foldl (State.Keeps.refl _ _) (fun u g h => ?_)
    extract_lets e _ _ u1 c
    have k : State.Keeps State.takeDone_scope s u1 := by
      refine State.Keeps.gen (t := u) h (fun p hp => ?_) (by first | exact fun _ fs _ => State.fieldsBut.refl rfl fs | exact fun _ => State.anyFields rfl) id id
      cases p <;> first | exact absurd (by decide) hp | exact rfl
    exact State.Keeps.step (State.twinSend_keeps ..) (State.Keeps.step (State.put_keeps ..) k (by decide)) (by decide)
  have h2 := State.Keeps.step (State.adopt_keeps (s1.fastWrote 0) hit) (State.Keeps.step (State.fastWrote_keeps ..) h1 (by decide)) (by decide)
  have h3 := State.Keeps.step (State.zeroVolatile_keeps s2 fun g => lost.contains g) h2 (by decide)
  have h4 := State.Keeps.step (State.pinsDrop_keeps (s3.queuesOff fun _ c => hit (s3.regionAt (c.ringHandle / 65536)).grp) fun r => hit (s3.regionAt r).grp)
    (State.Keeps.step (State.queuesOff_keeps ..) h3 (by decide)) (by decide)
  have h5 := State.Keeps.step (State.setServe_keeps s4 (t.groups.foldl (fun m g => setBits m g 1 1) (s4.get TWN.SERVE))) h4 (by decide)
  have h6 : State.Keeps State.takeDone_scope s s6 := State.Keeps.upd_twn h5 (by decide)
  have h7 : State.Keeps State.takeDone_scope s s7 := State.Keeps.ite (State.Keeps.step (State.inc_keeps ..) h6 (by decide)) h6
  exact State.Keeps.ite (State.Keeps.step (State.soloEntry_keeps ..) h7 (by decide)) h7

end Sys2Proof.Machine
end

