-- ==== Sys2Proof/Laws/KeepFlmOps.lean ====
section
/-! SUPPORT. What each operation of Machine/FlmOps.lean keeps: the parts of State it can change are those listed. -/
set_option linter.unusedTactic false
set_option linter.unreachableTactic false
namespace Sys2Proof.Machine

def State.reserveCount_scope : Scope := ⟨[.regs], some [FTL.RESERVE_LUNS, FTL.RESERVE_READY_MIB]⟩
theorem State.reserveCount_keeps (s : State) : State.Keeps State.reserveCount_scope s (State.reserveCount s) := by
  unfold State.reserveCount
  (try dsimp only)
  repeat' first
    | with_reducible exact State.Keeps.refl _ _
    | ((with_reducible apply State.Keeps.step (State.ftlPut_keeps ..)); rotate_right; decide)

def State.putStripe_scope : Scope := ⟨[.flm], some []⟩
theorem State.putStripe_keeps (s : State) (i : Nat) (x : Stripe) : State.Keeps State.putStripe_scope s (State.putStripe s i x) := by
  unfold State.putStripe
  (try dsimp only)
  repeat' first
    | with_reducible exact State.Keeps.refl _ _
    | fail_if_no_progress ((with_reducible apply State.Keeps.upd_flm); rotate_right; decide)

def State.openStripe_scope : Scope := ⟨[.flm, .free], some []⟩
theorem State.openStripe_keeps (s : State) (must : Option Nat) : State.Keeps State.openStripe_scope s (State.openStripe s must) := by
  unfold State.openStripe
  (try dsimp only)
  repeat' first
    | with_reducible exact State.Keeps.refl _ _
    | with_reducible assumption
    | with_reducible apply State.Keeps.ite
    | ((with_reducible apply State.Keeps.step (State.putStripe_keeps ..)); rotate_right; decide)
    | ((with_reducible apply State.Keeps.step (State.putBlk_keeps ..)); rotate_right; decide)
    | fail_if_no_progress ((with_reducible apply State.Keeps.upd); rotate_right; (intro p hp; cases p <;> first | exact absurd (by decide) hp | exact rfl))
    | ((with_reducible apply State.Keeps.foldl); rotate_right; intro _ _ _; rotate_left)

def State.assignUnit_scope : Scope := ⟨[.flm, .free], some []⟩
theorem State.assignUnit_keeps (s : State) (u : FtlUnit) : State.Keeps State.assignUnit_scope s (State.assignUnit s u) := by
  unfold State.assignUnit
  (try dsimp only)
  repeat' first
    | with_reducible exact State.Keeps.refl _ _
    | with_reducible assumption
    | with_reducible apply State.Keeps.ite
    | fail_if_no_progress ((with_reducible apply State.Keeps.upd_flm); rotate_right; decide)
    | ((with_reducible apply State.Keeps.step (State.openStripe_keeps ..)); rotate_right; decide)
    | ((with_reducible apply State.Keeps.step (State.putStripe_keeps ..)); rotate_right; decide)
    | ((with_reducible apply State.Keeps.step (State.laneJoin_flash_keeps ..)); rotate_right; decide)
    | with_reducible refine State.Keeps.fst ‹_ = (_, _)› ?_
    | split

def State.assign_scope : Scope := ⟨[.flm, .free], some []⟩
theorem State.assign_keeps (s : State) (tun : Nat) (old : Option Nat) (stamp : Nat) (vals : Table SectorVal) : State.Keeps State.assign_scope s (State.assign s tun old stamp vals) := by
  unfold State.assign
  (try dsimp only)
  repeat' first
    | with_reducible exact State.Keeps.refl _ _
    | with_reducible apply State.Keeps.ite
    | fail_if_no_progress ((with_reducible apply State.Keeps.upd_flm); rotate_right; decide)
    | ((with_reducible apply State.Keeps.step (State.putStripe_keeps ..)); rotate_right; decide)
    | ((with_reducible apply State.Keeps.step (State.openStripe_keeps ..)); rotate_right; decide)
    | with_reducible assumption
    | ((with_reducible apply State.Keeps.step (State.laneJoin_flash_keeps ..)); rotate_right; decide)
    | with_reducible refine State.Keeps.fst ‹_ = (_, _)› ?_
    | ((with_reducible apply State.Keeps.step (State.assignUnit_keeps ..)); rotate_right; decide)
    | split

def State.enterReadOnly_scope : Scope := ⟨[.regs, .evf, .recd, .hp, .pwr, .flm, .out, .free], some [EVF.ALERT_DRV, EVF.TRACE_DROP, FTL.FLM_STATE, HDR.ERR_INFO0, HDR.ERR_INFO1, HDR.ERR_STAT, HDR.EVT_STAT, HRV.BIND, HRV.HRV_TIDE_NOW, MGT.ALARM_SENT, NVS.FAST_BAD, PWR.PWR_WAKE_LATCH, PWR.STATE, REC.ALARM_DROP, REC.HEAD_SEQ, REC.LOST_CNT, REC.OVW_CNT, REC.RSV_USED, XLT.MEDIA_RO]⟩
theorem State.enterReadOnly_keeps (s : State) : State.Keeps State.enterReadOnly_scope s (State.enterReadOnly s) := by
  unfold State.enterReadOnly
  (try dsimp only)
  repeat' first
    | with_reducible exact State.Keeps.refl _ _
    | fail_if_no_progress ((with_reducible apply State.Keeps.upd_flm); rotate_right; decide)
    | ((with_reducible apply State.Keeps.step (State.fastWrote_keeps ..)); rotate_right; decide)
    | ((with_reducible apply State.Keeps.step (State.put_keeps ..)); rotate_right; decide)
    | ((with_reducible apply State.Keeps.step (State.misc_keeps ..)); rotate_right; decide)
    | ((with_reducible apply State.Keeps.step (State.twinSend_keeps ..)); rotate_right; decide)
    | ((with_reducible apply State.Keeps.step (State.ftlPut_keeps ..)); rotate_right; decide)
    | with_reducible assumption
    | with_reducible apply State.Keeps.ite
    | ((with_reducible apply State.Keeps.step (State.moduleEvent_keeps ..)); rotate_right; decide)

def State.jApply_scope : Scope := ⟨[.flm], some []⟩
theorem State.jApply_keeps (s : State) (r : JRec) : State.Keeps State.jApply_scope s (State.jApply s r) := by
  unfold State.jApply
  (try dsimp only)
  repeat' first
    | with_reducible exact State.Keeps.refl _ _
    | with_reducible apply State.Keeps.ite
    | fail_if_no_progress ((with_reducible apply State.Keeps.upd_flm); rotate_right; decide)

def State.rakeEnd_scope : Scope := ⟨[.flm], some []⟩
theorem State.rakeEnd_keeps (s : State) (g : Nat) : State.Keeps State.rakeEnd_scope s (State.rakeEnd s g) := by
  unfold State.rakeEnd
  (try dsimp only)
  repeat' first
    | with_reducible exact State.Keeps.refl _ _
    | with_reducible assumption
    | with_reducible apply State.Keeps.ite
    | fail_if_no_progress ((with_reducible apply State.Keeps.upd_flm); rotate_right; decide)
    | with_reducible refine State.Keeps.fst ‹_ = (_, _)› ?_
    | split

def State.rakeCheck_scope : Scope := ⟨[.flm], some []⟩
theorem State.rakeCheck_keeps (s : State) : State.Keeps State.rakeCheck_scope s (State.rakeCheck s) := by
  unfold State.rakeCheck
  (try dsimp only)
  repeat' first
    | with_reducible exact State.Keeps.refl _ _
    | with_reducible assumption
    | with_reducible apply State.Keeps.ite
    | fail_if_no_progress ((with_reducible apply State.Keeps.upd_flm); rotate_right; decide)
    | ((with_reducible apply State.Keeps.step (State.putBlk_keeps ..)); rotate_right; decide)
    | ((with_reducible apply State.Keeps.foldl); rotate_right; intro _ _ _; rotate_left)
    | ((with_reducible apply State.Keeps.step (State.rakeEnd_keeps ..)); rotate_right; decide)
    | ((with_reducible apply State.Keeps.foldl1); rotate_right; intro _ _ _; rotate_left)
    | with_reducible refine State.Keeps.fst ‹_ = (_, _)› ?_
    | split

def State.health_scope : Scope := ⟨[.flm], some []⟩
theorem State.health_keeps (s : State) (f : Health → Health) : State.Keeps State.health_scope s (State.health s f) := by
  unfold State.health
  (try dsimp only)
  repeat' first
    | with_reducible exact State.Keeps.refl _ _
    | fail_if_no_progress ((with_reducible apply State.Keeps.upd_flm); rotate_right; decide)

def State.placeWaiting_scope : Scope := ⟨[.flm, .free], some []⟩
theorem State.placeWaiting_keeps (s : State) : State.Keeps State.placeWaiting_scope s (State.placeWaiting s) := by
  unfold State.placeWaiting
  (try dsimp only)
  repeat' first
    | with_reducible exact State.Keeps.refl _ _
    | with_reducible assumption
    | with_reducible apply State.Keeps.ite
    | fail_if_no_progress ((with_reducible apply State.Keeps.upd_flm); rotate_right; decide)
    | ((with_reducible apply State.Keeps.step (State.assignUnit_keeps ..)); rotate_right; decide)
    | ((with_reducible apply State.Keeps.foldl1); rotate_right; intro _ _ _; rotate_left)
    | ((with_reducible apply State.Keeps.foldl); rotate_right; intro _ _ _; rotate_left)

def State.closeStripe_scope : Scope := ⟨[.flm], some []⟩
theorem State.closeStripe_keeps (s : State) (i : Nat) (x : Stripe) : State.Keeps State.closeStripe_scope s (State.closeStripe s i x) := by
  unfold State.closeStripe
  (try dsimp only)
  repeat' first
    | with_reducible exact State.Keeps.refl _ _
    | with_reducible assumption
    | with_reducible apply State.Keeps.ite
    | fail_if_no_progress ((with_reducible apply State.Keeps.upd_flm); rotate_right; decide)
    | ((with_reducible apply State.Keeps.step (State.putStripe_keeps ..)); rotate_right; decide)
    | ((with_reducible apply State.Keeps.step (State.putBlk_keeps ..)); rotate_right; decide)
    | ((with_reducible apply State.Keeps.foldl1); rotate_right; intro _ _ _; rotate_left)
    | ((with_reducible apply State.Keeps.foldl); rotate_right; intro _ _ _; rotate_left)

def State.badBlocks_scope : Scope := ⟨[.out, .free], some []⟩
theorem State.badBlocks_keeps (s : State) : State.Keeps State.badBlocks_scope s (State.badBlocks s) := by
  unfold State.badBlocks
  (try dsimp only)
  repeat' first
    | with_reducible exact State.Keeps.refl _ _
    | with_reducible assumption
    | with_reducible apply State.Keeps.ite
    | fail_if_no_progress ((with_reducible apply State.Keeps.upd_free); rotate_right; decide)
    | ((with_reducible apply State.Keeps.step (State.emit_keeps ..)); rotate_right; decide)
    | with_reducible refine State.Keeps.fst ‹_ = (_, _)› ?_
    | split

def State.jProgram_scope : Scope := ⟨[.flm, .out, .free], some []⟩
theorem State.jProgram_keeps (s : State) : State.Keeps State.jProgram_scope s (State.jProgram s) := by
  unfold State.jProgram
  (try dsimp only)
  repeat' first
    | with_reducible exact State.Keeps.refl _ _
    | with_reducible apply State.Keeps.ite
    | fail_if_no_progress ((with_reducible apply State.Keeps.upd_flm); rotate_right; decide)
    | with_reducible assumption
    | fail_if_no_progress ((with_reducible apply State.Keeps.upd_free); rotate_right; decide)
    | fail_if_no_progress ((with_reducible apply State.Keeps.upd); rotate_right; (intro p hp; cases p <;> first | exact absurd (by decide) hp | exact rfl))
    | ((with_reducible apply State.Keeps.step (State.emit_keeps ..)); rotate_right; decide)
    | with_reducible refine State.Keeps.fst ‹_ = (_, _)› ?_
    | split

def State.jAppend_scope : Scope := ⟨[.flm, .out, .free], some []⟩
theorem State.jAppend_keeps (s : State) (typ : Nat) (key : Nat) (new : Nat) (old : Nat) : State.Keeps State.jAppend_scope s (State.jAppend s typ key new old) := by
  unfold State.jAppend
  (try dsimp only)
  repeat' first
    | with_reducible exact State.Keeps.refl _ _
    | with_reducible apply State.Keeps.ite
    | fail_if_no_progress ((with_reducible apply State.Keeps.upd_flm); rotate_right; decide)
    | ((with_reducible apply State.Keeps.step (State.jProgram_keeps ..)); rotate_right; decide)

def State.mapFlush_scope : Scope := ⟨[.flm, .out, .free], some []⟩
theorem State.mapFlush_keeps (s : State) (mpi : Nat) : State.Keeps State.mapFlush_scope s (State.mapFlush s mpi) := by
  unfold State.mapFlush
  (try dsimp only)
  repeat' first
    | with_reducible exact State.Keeps.refl _ _
    | with_reducible assumption
    | with_reducible apply State.Keeps.ite
    | fail_if_no_progress ((with_reducible apply State.Keeps.upd_flm); rotate_right; decide)
    | fail_if_no_progress ((with_reducible apply State.Keeps.upd_free); rotate_right; decide)
    | fail_if_no_progress ((with_reducible apply State.Keeps.upd); rotate_right; (intro p hp; cases p <;> first | exact absurd (by decide) hp | exact rfl))
    | ((with_reducible apply State.Keeps.step (State.jAppend_keeps ..)); rotate_right; decide)
    | with_reducible refine State.Keeps.fst ‹_ = (_, _)› ?_
    | ((with_reducible apply State.Keeps.step (State.mapUse_keeps ..)); rotate_right; decide)
    | ((with_reducible apply State.Keeps.step (State.emit_keeps ..)); rotate_right; decide)
    | split

def State.spareCheck_scope : Scope := ⟨[.regs, .evf, .recd, .hp, .pwr, .flm, .out, .free], some [EVF.ALERT_DRV, EVF.TRACE_DROP, FTL.FLM_STATE, HDR.ERR_INFO0, HDR.ERR_INFO1, HDR.ERR_STAT, HDR.EVT_STAT, HRV.BIND, HRV.HRV_TIDE_NOW, MGT.ALARM_SENT, NVS.FAST_BAD, PWR.PWR_WAKE_LATCH, PWR.STATE, REC.ALARM_DROP, REC.HEAD_SEQ, REC.LOST_CNT, REC.OVW_CNT, REC.RSV_USED, XLT.MEDIA_RO]⟩
theorem State.spareCheck_keeps (s : State) : State.Keeps State.spareCheck_scope s (State.spareCheck s) := by
  unfold State.spareCheck
  (try dsimp only)
  repeat' first
    | with_reducible exact State.Keeps.refl _ _
    | with_reducible apply State.Keeps.ite
    | ((with_reducible apply State.Keeps.step (State.ftlPut_keeps ..)); rotate_right; decide)
    | ((with_reducible apply State.Keeps.step (State.misc_keeps ..)); rotate_right; decide)
    | ((with_reducible apply State.Keeps.step (State.enterReadOnly_keeps ..)); rotate_right; decide)
    | with_reducible assumption

def State.spareLose_scope : Scope := ⟨[.regs, .evf, .recd, .hp, .pwr, .flm, .out, .free], some [EVF.ALERT_DRV, EVF.TRACE_DROP, FTL.FLM_STATE, FTL.SPARE_BLOCKS, HDR.ERR_INFO0, HDR.ERR_INFO1, HDR.ERR_STAT, HDR.EVT_STAT, HRV.BIND, HRV.HRV_TIDE_NOW, MGT.ALARM_SENT, NVS.FAST_BAD, PWR.PWR_WAKE_LATCH, PWR.STATE, REC.ALARM_DROP, REC.HEAD_SEQ, REC.LOST_CNT, REC.OVW_CNT, REC.RSV_USED, XLT.MEDIA_RO]⟩
theorem State.spareLose_keeps (s : State) (n : Nat) : State.Keeps State.spareLose_scope s (State.spareLose s n) := by
  unfold State.spareLose
  (try dsimp only)
  repeat' first
    | with_reducible exact State.Keeps.refl _ _
    | ((with_reducible apply State.Keeps.step (State.ftlPut_keeps ..)); rotate_right; decide)
    | ((with_reducible apply State.Keeps.step (State.spareCheck_keeps ..)); rotate_right; decide)

def State.rakeBlock_scope : Scope := ⟨[.flm], some []⟩
theorem State.rakeBlock_keeps (s : State) (k : Nat) : State.Keeps State.rakeBlock_scope s (State.rakeBlock s k) := by
  unfold State.rakeBlock
  (try dsimp only)
  repeat' first
    | with_reducible exact State.Keeps.refl _ _
    | with_reducible apply State.Keeps.ite
    | fail_if_no_progress ((with_reducible apply State.Keeps.upd_flm); rotate_right; decide)
    | with_reducible assumption
    | with_reducible refine State.Keeps.fst ‹_ = (_, _)› ?_
    | split

def State.retire_scope : Scope := ⟨[.regs, .evf, .recd, .hp, .pwr, .flm, .out, .free], some [EVF.ALERT_DRV, EVF.TRACE_DROP, FTL.FLM_STATE, FTL.SPARE_BLOCKS, HDR.ERR_INFO0, HDR.ERR_INFO1, HDR.ERR_STAT, HDR.EVT_STAT, HRV.BIND, HRV.HRV_TIDE_NOW, MGT.ALARM_SENT, NVS.FAST_BAD, PWR.PWR_WAKE_LATCH, PWR.STATE, REC.ALARM_DROP, REC.HEAD_SEQ, REC.LOST_CNT, REC.OVW_CNT, REC.RSV_USED, XLT.MEDIA_RO]⟩
theorem State.retire_keeps (s : State) (k : Nat) : State.Keeps State.retire_scope s (State.retire s k) := by
  unfold State.retire
  (try dsimp only)
  repeat' first
    | with_reducible exact State.Keeps.refl _ _
    | with_reducible apply State.Keeps.ite
    | ((with_reducible apply State.Keeps.step (State.rakeBlock_keeps ..)); rotate_right; decide)
    | ((with_reducible apply State.Keeps.step (State.health_keeps ..)); rotate_right; decide)
    | ((with_reducible apply State.Keeps.step (State.spareLose_keeps ..)); rotate_right; decide)
    | ((with_reducible apply State.Keeps.step (State.putBlk_keeps ..)); rotate_right; decide)
    | ((with_reducible apply State.Keeps.step (State.jAppend_keeps ..)); rotate_right; decide)
    | with_reducible assumption
    | ((with_reducible apply State.Keeps.step (State.badBlocks_keeps ..)); rotate_right; decide)

def State.recordRow_scope : Scope := ⟨[.flm, .out, .free], some []⟩
theorem State.recordRow_keeps (s : State) (x : Stripe) (row : Nat) : State.Keeps State.recordRow_scope s (State.recordRow s x row) := by
  unfold State.recordRow
  (try dsimp only)
  repeat' first
    | with_reducible exact State.Keeps.refl _ _
    | with_reducible assumption
    | fail_if_no_progress ((with_reducible apply State.Keeps.upd_flm); rotate_right; decide)
    | ((with_reducible apply State.Keeps.step (State.jAppend_keeps ..)); rotate_right; decide)
    | ((with_reducible apply State.Keeps.foldl); rotate_right; intro _ _ _; rotate_left)
    | split

def State.takeReserve_scope : Scope := ⟨[.flm, .free], some []⟩
theorem State.takeReserve_keeps (a0 : Nat) (a1 : State) : State.Keeps State.takeReserve_scope a1 (State.takeReserve a0 a1) := by
  induction a0 generalizing a1 with
  | zero => exact State.Keeps.refl _ _
  | succ _ ih =>
   unfold State.takeReserve
   (try dsimp only)
   repeat' first
    | ((with_reducible apply State.Keeps.step (ih ..)); rotate_right; decide)
    | with_reducible exact State.Keeps.refl _ _
    | ((with_reducible apply State.Keeps.step (State.useFree_keeps ..)); rotate_right; decide)
    | ((with_reducible apply State.Keeps.step (State.putBlk_keeps ..)); rotate_right; decide)
    | with_reducible assumption
    | with_reducible apply State.Keeps.ite
    | ((with_reducible apply State.Keeps.foldl1); rotate_right; intro _ _ _; rotate_left)
    | ((with_reducible apply State.Keeps.foldl); rotate_right; intro _ _ _; rotate_left)
    | with_reducible refine State.Keeps.fst ‹_ = (_, _)› ?_
    | split

def State.slcErased_scope : Scope := ⟨[.regs, .evf, .recd, .hp, .pwr, .flm, .out, .free], some [EVF.ALERT_DRV, EVF.TRACE_DROP, FTL.FLM_STATE, FTL.SPARE_BLOCKS, HDR.ERR_INFO0, HDR.ERR_INFO1, HDR.ERR_STAT, HDR.EVT_STAT, HRV.BIND, HRV.HRV_TIDE_NOW, MGT.ALARM_SENT, NVS.FAST_BAD, PWR.PWR_WAKE_LATCH, PWR.STATE, REC.ALARM_DROP, REC.HEAD_SEQ, REC.LOST_CNT, REC.OVW_CNT, REC.RSV_USED, XLT.MEDIA_RO]⟩
theorem State.slcErased_keeps (s : State) (k : Nat) (st : BlkState) : State.Keeps State.slcErased_scope s (State.slcErased s k st) := by
  unfold State.slcErased
  (try dsimp only)
  repeat' first
    | with_reducible exact State.Keeps.refl _ _
    | with_reducible assumption
    | with_reducible apply State.Keeps.ite
    | ((with_reducible apply State.Keeps.step (State.putBlk_keeps ..)); rotate_right; decide)
    | ((with_reducible apply State.Keeps.step (State.jAppend_keeps ..)); rotate_right; decide)
    | ((with_reducible apply State.Keeps.step (State.retire_keeps ..)); rotate_right; decide)

end Sys2Proof.Machine
end

