-- ==== Sys2Proof/Laws/KeepTwin.lean ====
section
/-! SUPPORT. What each operation of Machine/Twin.lean keeps: the parts of State it can change are those listed. -/
set_option linter.unusedTactic false
set_option linter.unreachableTactic false
namespace Sys2Proof.Machine

def State.handoffOp_scope : Scope := ⟨[.twn, .out], some []⟩
theorem State.handoffOp_keeps (s : State) (op : Nat) (g : Nat) : State.Keeps State.handoffOp_scope s (State.handoffOp s op g) := by
  unfold State.handoffOp
  (try dsimp only)
  repeat' first
    | with_reducible exact State.Keeps.refl _ _
    | with_reducible apply State.Keeps.ite
    | ((with_reducible apply State.Keeps.step (State.askGroups_keeps ..)); rotate_right; decide)
    | ((with_reducible apply State.Keeps.step (State.handoffStart_keeps ..)); rotate_right; decide)
    | split

def State.pairAccept_scope : Scope := ⟨[.twn], some []⟩
theorem State.pairAccept_keeps (s : State) : State.Keeps State.pairAccept_scope s (State.pairAccept s) := by
  unfold State.pairAccept
  (try dsimp only)
  repeat' first
    | with_reducible exact State.Keeps.refl _ _
    | with_reducible apply State.Keeps.ite
    | fail_if_no_progress ((with_reducible apply State.Keeps.upd_twn); rotate_right; decide)

def State.resendRec_scope : Scope := ⟨[.regs, .twn, .out], some [TWN.RETX_CNT]⟩
theorem State.resendRec_keeps (s : State) (r : MirrorRec) : State.Keeps State.resendRec_scope s (State.resendRec s r) := by
  unfold State.resendRec
  (try dsimp only)
  repeat' first
    | with_reducible exact State.Keeps.refl _ _
    | fail_if_no_progress ((with_reducible apply State.Keeps.upd_twn); rotate_right; decide)
    | ((with_reducible apply State.Keeps.step (State.inc_keeps ..)); rotate_right; decide)
    | ((with_reducible apply State.Keeps.step (State.twinSend_keeps ..)); rotate_right; decide)

def State.bundleDown_scope : Scope := ⟨[.regs, .evf, .recd, .xlt, .hp, .qe, .mov, .tier, .pan, .twn, .cmn, .pwr, .dmc, .flm, .out, .free], some [CME.VIOL_TX, CMP.TX_FRAMES, EVF.ALERT_DRV, EVF.TRACE_DROP, HDR.ERR_INFO0, HDR.ERR_INFO1, HDR.ERR_STAT, HDR.EVT_STAT, MGT.ALARM_SENT, MOV.FAULT_CNT, MOV.LAST_FCLASS, MOV.LAST_FOFF, MOV.LAST_STATUS, MOV.OFFLINE, MOV.STATE, NVS.FAST_BAD, PAN.HIT_CNT, PAN.MISS_CNT, PAN.WB_CNT, PWR.PWR_WAKE_LATCH, PWR.STATE, REC.ALARM_DROP, REC.HEAD_SEQ, REC.LOST_CNT, REC.OVW_CNT, REC.RSV_USED, TIER.MISSED, TIER.ON_TIME, TIER.QUOTA_REFUSE, TIER.SUBST, TWN.BUNDLES, TWN.CLAIM_W_DRV, TWN.IN_SYNC, TWN.LINK_DOWN_CNT, TWN.RETX_CNT, TWN.SERVE, TWN.STATE, TWN.TWN_CLAIM_LOCAL]⟩
theorem State.bundleDown_keeps (s : State) (b : Nat) : State.Keeps State.bundleDown_scope s (State.bundleDown s b) := by
  unfold State.bundleDown
  (try dsimp only)
  repeat' first
    | with_reducible exact State.Keeps.refl _ _
    | with_reducible assumption
    | with_reducible apply State.Keeps.ite
    | ((with_reducible apply State.Keeps.step (State.resendRec_keeps ..)); rotate_right; decide)
    | ((with_reducible apply State.Keeps.step (State.put_keeps ..)); rotate_right; decide)
    | ((with_reducible apply State.Keeps.step (State.linkLost_keeps ..)); rotate_right; decide)
    | ((with_reducible apply State.Keeps.step (State.blkErr_keeps ..)); rotate_right; decide)
    | ((with_reducible apply State.Keeps.foldl); rotate_right; intro _ _ _; rotate_left)

def State.claimDrive_scope : Scope := ⟨[.regs, .out], some [TWN.CLAIM_W_DRV]⟩
theorem State.claimDrive_keeps (s : State) : State.Keeps State.claimDrive_scope s (State.claimDrive s) := by
  unfold State.claimDrive
  (try dsimp only)
  repeat' first
    | with_reducible exact State.Keeps.refl _ _
    | with_reducible apply State.Keeps.ite
    | ((with_reducible apply State.Keeps.step (State.put_keeps ..)); rotate_right; decide)
    | ((with_reducible apply State.Keeps.step (State.pinOut_keeps ..)); rotate_right; decide)

def State.compareAnswer_scope : Scope := ⟨[.regs, .evf, .recd, .hp, .tier, .pan, .twn, .pwr, .dmc, .flm, .out, .free], some [EVF.ALERT_DRV, EVF.TRACE_DROP, HDR.ERR_INFO0, HDR.ERR_INFO1, HDR.ERR_STAT, HDR.EVT_STAT, MGT.ALARM_SENT, PWR.PWR_WAKE_LATCH, PWR.STATE, REC.ALARM_DROP, REC.HEAD_SEQ, REC.LOST_CNT, REC.OVW_CNT, REC.RSV_USED, TWN.DIVERGE_CNT, TWN.DUAL_READS]⟩
theorem State.compareAnswer_keeps (s : State) (w : Nat) (stamp : Nat) (r : TwinResp) : State.Keeps State.compareAnswer_scope s (State.compareAnswer s w stamp r) := by
  unfold State.compareAnswer
  (try dsimp only)
  repeat' first
    | with_reducible exact State.Keeps.refl _ _
    | with_reducible apply State.Keeps.ite
    | fail_if_no_progress ((with_reducible apply State.Keeps.upd_twn); rotate_right; decide)
    | ((with_reducible apply State.Keeps.step (State.twinSend_keeps ..)); rotate_right; decide)
    | ((with_reducible apply State.Keeps.step (State.compareSec_keeps ..)); rotate_right; decide)
    | split

def State.formPair_scope : Scope := ⟨[.regs, .evf, .recd, .xlt, .hp, .qe, .mov, .tier, .pan, .twn, .cmn, .pwr, .dmc, .flm, .out, .free], some [CME.VIOL_TX, CMP.TX_FRAMES, EVF.ALERT_DRV, EVF.TRACE_DROP, HDR.ERR_INFO0, HDR.ERR_INFO1, HDR.ERR_STAT, HDR.EVT_STAT, HRV.STATE, MGT.ALARM_SENT, MOV.FAULT_CNT, MOV.LAST_FCLASS, MOV.LAST_FOFF, MOV.LAST_STATUS, MOV.OFFLINE, MOV.STATE, NVS.FAST_BAD, PAN.LOCKS_RELEASED, PAN.LOCK_LOST_CNT, PAN.WB_CNT, PWR.PWR_WAKE_LATCH, PWR.STATE, REC.ALARM_DROP, REC.HEAD_SEQ, REC.LOST_CNT, REC.OVW_CNT, REC.RSV_USED, TWN.CLAIM_W_DRV, TWN.IN_SYNC, TWN.RETX_CNT, TWN.SERVE, TWN.STATE, TWN.TWN_CLAIM_LOCAL, TWN.TWN_CLAIM_PEER]⟩
theorem State.formPair_keeps (s : State) (b : HelloBody) : State.Keeps State.formPair_scope s (State.formPair s b) := by
  unfold State.formPair
  (try dsimp only)
  repeat' first
    | with_reducible exact State.Keeps.refl _ _
    | with_reducible assumption
    | with_reducible apply State.Keeps.ite
    | fail_if_no_progress ((with_reducible apply State.Keeps.upd_twn); rotate_right; decide)
    | ((with_reducible apply State.Keeps.step (State.put_keeps ..)); rotate_right; decide)
    | ((with_reducible apply State.Keeps.step (State.resyncSend_keeps ..)); rotate_right; decide)
    | ((with_reducible apply State.Keeps.step (State.resyncCheck_keeps ..)); rotate_right; decide)
    | ((with_reducible apply State.Keeps.step (State.rsmMark_keeps ..)); rotate_right; decide)
    | ((with_reducible apply State.Keeps.step (State.misc_keeps ..)); rotate_right; decide)
    | ((with_reducible apply State.Keeps.step (State.panForget_keeps ..)); rotate_right; decide)
    | ((with_reducible apply State.Keeps.step (State.freeBlock_keeps ..)); rotate_right; decide)
    | ((with_reducible apply State.Keeps.step (State.emit_keeps ..)); rotate_right; decide)
    | ((with_reducible apply State.Keeps.step (State.twinSend_keeps ..)); rotate_right; decide)
    | ((with_reducible apply State.Keeps.step (State.enterPaired_keeps ..)); rotate_right; decide)
    | ((with_reducible apply State.Keeps.step (State.takeStart_keeps ..)); rotate_right; decide)
    | ((with_reducible apply State.Keeps.step (State.fenceGroups_keeps ..)); rotate_right; decide)
    | ((with_reducible apply State.Keeps.foldl); rotate_right; intro _ _ _; rotate_left)
    | ((with_reducible apply State.Keeps.step (State.resendRec_keeps ..)); rotate_right; decide)
    | ((with_reducible apply State.Keeps.foldl1); rotate_right; intro _ _ _; rotate_left)
    | with_reducible refine State.Keeps.fst ‹_ = (_, _)› ?_
    | split

def execAliveLoss_scope : Scope := ⟨[.regs, .evf, .recd, .xlt, .hp, .qe, .mov, .tier, .pan, .twn, .cmn, .pwr, .dmc, .flm, .out, .free], some [CME.VIOL_TX, CMP.TX_FRAMES, EVF.ALERT_DRV, EVF.TRACE_DROP, HDR.ERR_INFO0, HDR.ERR_INFO1, HDR.ERR_STAT, HDR.EVT_STAT, MGT.ALARM_SENT, MOV.FAULT_CNT, MOV.LAST_FCLASS, MOV.LAST_FOFF, MOV.LAST_STATUS, MOV.OFFLINE, MOV.STATE, NVS.FAST_BAD, PAN.HIT_CNT, PAN.MISS_CNT, PAN.WB_CNT, PWR.PWR_WAKE_LATCH, PWR.STATE, REC.ALARM_DROP, REC.HEAD_SEQ, REC.LOST_CNT, REC.OVW_CNT, REC.RSV_USED, TIER.MISSED, TIER.ON_TIME, TIER.QUOTA_REFUSE, TIER.SUBST, TWN.ALIVE_IN_OK, TWN.CLAIM_W_DRV, TWN.IN_SYNC, TWN.SERVE, TWN.STATE, TWN.TWN_CLAIM_LOCAL]⟩
theorem execAliveLoss_keeps (s : State) : State.KeepsR execAliveLoss_scope s (execAliveLoss s) := by
  unfold execAliveLoss
  (try dsimp only)
  repeat' first
    | with_reducible exact State.Keeps.refl _ _
    | with_reducible apply State.KeepsR.next
    | with_reducible apply State.KeepsR.ite
    | with_reducible apply State.Keeps.ite
    | ((with_reducible apply State.Keeps.step (State.partnerLost_keeps ..)); rotate_right; decide)
    | ((with_reducible apply State.Keeps.step (State.misc_keeps ..)); rotate_right; decide)
    | ((with_reducible apply State.Keeps.step (State.put_keeps ..)); rotate_right; decide)

def execAliveRestore_scope : Scope := ⟨[.regs], some [TWN.ALIVE_IN_OK]⟩
theorem execAliveRestore_keeps (s : State) : State.KeepsR execAliveRestore_scope s (execAliveRestore s) := by
  unfold execAliveRestore
  (try dsimp only)
  repeat' first
    | with_reducible exact State.Keeps.refl _ _
    | with_reducible apply State.KeepsR.next
    | ((with_reducible apply State.Keeps.step (State.put_keeps ..)); rotate_right; decide)

def State.claimSample_scope : Scope := ⟨[.regs, .evf, .recd, .hp, .pwr, .out, .free], some [EVF.ALERT_DRV, EVF.TRACE_DROP, HDR.ERR_INFO0, HDR.ERR_INFO1, HDR.ERR_STAT, HDR.EVT_STAT, MGT.ALARM_SENT, PWR.PWR_WAKE_LATCH, PWR.STATE, REC.ALARM_DROP, REC.HEAD_SEQ, REC.LOST_CNT, REC.OVW_CNT, REC.RSV_USED, TWN.CLAIM_W_DRV, TWN.CLAIM_W_IN]⟩
theorem State.claimSample_keeps (s : State) (high : Bool) : State.Keeps State.claimSample_scope s (State.claimSample s high).1 := by
  unfold State.claimSample
  (try dsimp only)
  repeat' first
    | with_reducible exact State.Keeps.refl _ _
    | with_reducible assumption
    | with_reducible apply State.Keeps.ite
    | with_reducible apply State.Keeps.ite1
    | ((with_reducible apply State.Keeps.step (State.put_keeps ..)); rotate_right; decide)
    | ((with_reducible apply State.Keeps.step (State.pinOut_keeps ..)); rotate_right; decide)
    | ((with_reducible apply State.Keeps.step (State.misc_keeps ..)); rotate_right; decide)
    | dsimp only

def execArbitrationSample_scope : Scope := ⟨[.regs, .evf, .recd, .xlt, .hp, .qe, .mov, .tier, .pan, .twn, .cmn, .pwr, .dmc, .flm, .out, .free], some [CME.VIOL_TX, CMP.TX_FRAMES, EVF.ALERT_DRV, EVF.TRACE_DROP, HDR.ERR_INFO0, HDR.ERR_INFO1, HDR.ERR_STAT, HDR.EVT_STAT, MGT.ALARM_SENT, MOV.FAULT_CNT, MOV.LAST_FCLASS, MOV.LAST_FOFF, MOV.LAST_STATUS, MOV.OFFLINE, MOV.STATE, NVS.FAST_BAD, PAN.HIT_CNT, PAN.MISS_CNT, PAN.WB_CNT, PWR.PWR_WAKE_LATCH, PWR.STATE, REC.ALARM_DROP, REC.HEAD_SEQ, REC.LOST_CNT, REC.OVW_CNT, REC.RSV_USED, TIER.MISSED, TIER.ON_TIME, TIER.QUOTA_REFUSE, TIER.SUBST, TWN.CLAIM_W_DRV, TWN.CLAIM_W_IN, TWN.IN_SYNC, TWN.SERVE, TWN.STATE, TWN.TWN_CLAIM_LOCAL]⟩
theorem execArbitrationSample_keeps (high : Bool) (s : State) : State.KeepsR execArbitrationSample_scope s (execArbitrationSample high s) := by
  unfold execArbitrationSample
  (try dsimp only)
  repeat' first
    | with_reducible exact State.Keeps.refl _ _
    | with_reducible apply State.KeepsR.next
    | with_reducible apply State.KeepsR.ite
    | ((with_reducible apply State.Keeps.step (State.claimDrive_keeps ..)); rotate_right; decide)
    | ((with_reducible apply State.Keeps.step (State.soloEntry_keeps ..)); rotate_right; decide)
    | ((with_reducible apply State.Keeps.step (State.put_keeps ..)); rotate_right; decide)
    | ((with_reducible apply State.Keeps.step (State.fenceAll_keeps ..)); rotate_right; decide)
    | with_reducible assumption
    | with_reducible apply State.Keeps.ite
    | ((with_reducible apply State.Keeps.step (State.claimSample_keeps ..)); rotate_right; decide)
    | with_reducible refine State.Keeps.fst ‹_ = (_, _)› ?_
    | split

def execBrineList_scope : Scope := ⟨[.regs, .tier, .twn, .dmc, .flm, .out], some [CIP.AUTH_FAIL_CNT, CIP.HOLD_FULL_CNT]⟩
theorem execBrineList_keeps (hdr : TwinHdr) (pbns : List Nat) (s : State) : State.KeepsR execBrineList_scope s (execBrineList hdr pbns s) := by
  unfold execBrineList
  (try dsimp only)
  repeat' first
    | intro _
    | with_reducible exact State.Keeps.refl _ _
    | with_reducible assumption
    | with_reducible apply State.KeepsR.next
    | ((with_reducible apply State.recv_keeps); rotate_right; decide)
    | ((with_reducible apply State.Keeps.step (State.rxOrdered_keeps ..)); rotate_right; decide)

def execBundleDown_scope : Scope := State.bundleDown_scope
theorem execBundleDown_keeps (bundle : Bundle) (s : State) : State.KeepsR execBundleDown_scope s (execBundleDown bundle s) := by
  unfold execBundleDown
  (try dsimp only)
  repeat' first
    | with_reducible exact State.Keeps.refl _ _
    | with_reducible apply State.KeepsR.next
    | ((with_reducible apply State.Keeps.step (State.bundleDown_keeps ..)); rotate_right; decide)

def execClaim_scope : Scope := ⟨[.regs, .evf, .recd, .xlt, .hp, .qe, .mov, .tier, .pan, .twn, .cmn, .pwr, .dmc, .flm, .out, .free], some [CIP.AUTH_FAIL_CNT, CME.VIOL_TX, CMP.TX_FRAMES, EVF.ALERT_DRV, EVF.TRACE_DROP, HDR.ERR_INFO0, HDR.ERR_INFO1, HDR.ERR_STAT, HDR.EVT_STAT, MGT.ALARM_SENT, MOV.FAULT_CNT, MOV.LAST_FCLASS, MOV.LAST_FOFF, MOV.LAST_STATUS, MOV.OFFLINE, MOV.STATE, NVS.FAST_BAD, PAN.LOCKS_RELEASED, PAN.LOCK_LOST_CNT, PAN.WB_CNT, PWR.PWR_WAKE_LATCH, PWR.STATE, REC.ALARM_DROP, REC.HEAD_SEQ, REC.LOST_CNT, REC.OVW_CNT, REC.RSV_USED, TWN.CLAIM_W_DRV, TWN.IN_SYNC, TWN.SERVE, TWN.STATE, TWN.TWN_CLAIM_LOCAL, TWN.TWN_CLAIM_PEER]⟩
theorem execClaim_keeps (hdr : TwinHdr) (s : State) : State.KeepsR execClaim_scope s (execClaim hdr s) := by
  unfold execClaim
  (try dsimp only)
  repeat' first
    | intro _
    | with_reducible exact State.Keeps.refl _ _
    | with_reducible assumption
    | with_reducible apply State.KeepsR.next
    | with_reducible apply State.Keeps.ite
    | fail_if_no_progress ((with_reducible apply State.Keeps.upd_twn); rotate_right; decide)
    | ((with_reducible apply State.recv_keeps); rotate_right; decide)
    | ((with_reducible apply State.Keeps.step (State.fenceAll_keeps ..)); rotate_right; decide)
    | ((with_reducible apply State.Keeps.step (State.relabel_keeps ..)); rotate_right; decide)
    | ((with_reducible apply State.Keeps.step (State.fenceGroups_keeps ..)); rotate_right; decide)
    | ((with_reducible apply State.Keeps.step (State.put_keeps ..)); rotate_right; decide)

def execClaimStuck_scope : Scope := State.blkErr_scope
theorem execClaimStuck_keeps (s : State) : State.KeepsR execClaimStuck_scope s (execClaimStuck s) := by
  unfold execClaimStuck
  (try dsimp only)
  repeat' first
    | with_reducible exact State.Keeps.refl _ _
    | with_reducible apply State.KeepsR.next
    | with_reducible apply State.KeepsR.ite
    | ((with_reducible apply State.Keeps.step (State.blkErr_keeps ..)); rotate_right; decide)

def execDigest_scope : Scope := ⟨[.regs, .evf, .recd, .hp, .twn, .pwr, .out, .free], some [CIP.AUTH_FAIL_CNT, EVF.ALERT_DRV, EVF.TRACE_DROP, HDR.ERR_INFO0, HDR.ERR_INFO1, HDR.ERR_STAT, HDR.EVT_STAT, MGT.ALARM_SENT, PWR.PWR_WAKE_LATCH, PWR.STATE, REC.ALARM_DROP, REC.HEAD_SEQ, REC.LOST_CNT, REC.OVW_CNT, REC.RSV_USED, TWN.DIGEST_MISMATCH]⟩
theorem execDigest_keeps (hdr : TwinHdr) (first : Nat) (last : Nat) (digest : BitVec 64) (s : State) : State.KeepsR execDigest_scope s (execDigest hdr first last digest s) := by
  unfold execDigest
  (try dsimp only)
  repeat' first
    | intro _
    | with_reducible exact State.Keeps.refl _ _
    | with_reducible assumption
    | with_reducible apply State.KeepsR.next
    | with_reducible apply State.Keeps.ite
    | fail_if_no_progress ((with_reducible apply State.Keeps.upd_twn); rotate_right; decide)
    | ((with_reducible apply State.recv_keeps); rotate_right; decide)
    | ((with_reducible apply State.Keeps.step (State.twinSend_keeps ..)); rotate_right; decide)
    | ((with_reducible apply State.Keeps.step (State.misc_keeps ..)); rotate_right; decide)
    | ((with_reducible apply State.Keeps.step (State.rsmMark_keeps ..)); rotate_right; decide)
    | ((with_reducible apply State.Keeps.step (State.inc_keeps ..)); rotate_right; decide)
    | ((with_reducible apply State.Keeps.foldl); rotate_right; intro _ _ _; rotate_left)

def execDigestInterval_scope : Scope := ⟨[.twn, .out], some []⟩
theorem execDigestInterval_keeps (s : State) : State.KeepsR execDigestInterval_scope s (execDigestInterval s) := by
  unfold execDigestInterval
  (try dsimp only)
  repeat' first
    | with_reducible exact State.Keeps.refl _ _
    | with_reducible apply State.KeepsR.next
    | with_reducible apply State.KeepsR.ite
    | fail_if_no_progress ((with_reducible apply State.Keeps.upd_twn); rotate_right; decide)
    | ((with_reducible apply State.Keeps.step (State.twinSend_keeps ..)); rotate_right; decide)
    | ((with_reducible apply State.Keeps.step (State.replayPrune_keeps ..)); rotate_right; decide)

def execEpochStoreDone_scope : Scope := State.takeDone_scope
theorem execEpochStoreDone_keeps (pass : Bool) (s : State) : State.KeepsR execEpochStoreDone_scope s (execEpochStoreDone pass s) := by
  unfold execEpochStoreDone
  (try dsimp only)
  repeat' first
    | with_reducible exact State.Keeps.refl _ _
    | with_reducible apply State.KeepsR.next
    | with_reducible apply State.KeepsR.ite
    | fail_if_no_progress ((with_reducible apply State.Keeps.upd_twn); rotate_right; decide)
    | ((with_reducible apply State.Keeps.step (State.emit_keeps ..)); rotate_right; decide)
    | ((with_reducible apply State.Keeps.step (State.misc_keeps ..)); rotate_right; decide)
    | ((with_reducible apply State.Keeps.step (State.takeDone_keeps ..)); rotate_right; decide)
    | split

def execFetch_scope : Scope := ⟨[.regs, .twn, .out], some [CIP.AUTH_FAIL_CNT]⟩
theorem execFetch_keeps (hdr : TwinHdr) (s : State) : State.KeepsR execFetch_scope s (execFetch hdr s) := by
  unfold execFetch
  (try dsimp only)
  repeat' first
    | intro _
    | with_reducible exact State.Keeps.refl _ _
    | with_reducible assumption
    | with_reducible apply State.KeepsR.next
    | with_reducible apply State.Keeps.ite
    | ((with_reducible apply State.recv_keeps); rotate_right; decide)
    | ((with_reducible apply State.Keeps.step (State.twinSend_keeps ..)); rotate_right; decide)

def execFetchResp_scope : Scope := ⟨[.regs, .evf, .recd, .hp, .tier, .pan, .twn, .pwr, .dmc, .flm, .out, .free], some [CIP.AUTH_FAIL_CNT, EVF.ALERT_DRV, EVF.TRACE_DROP, HDR.ERR_INFO0, HDR.ERR_INFO1, HDR.ERR_STAT, HDR.EVT_STAT, MGT.ALARM_SENT, PWR.PWR_WAKE_LATCH, PWR.STATE, REC.ALARM_DROP, REC.HEAD_SEQ, REC.LOST_CNT, REC.OVW_CNT, REC.RSV_USED, TWN.DIVERGE_CNT, TWN.DUAL_READS]⟩
theorem execFetchResp_keeps (hdr : TwinHdr) (resp : TwinResp) (s : State) : State.KeepsR execFetchResp_scope s (execFetchResp hdr resp s) := by
  unfold execFetchResp
  (try dsimp only)
  repeat' first
    | with_reducible exact State.Keeps.refl _ _
    | with_reducible assumption
    | with_reducible apply State.KeepsR.next
    | with_reducible apply State.Keeps.ite
    | fail_if_no_progress ((with_reducible apply State.Keeps.upd_twn); rotate_right; decide)
    | ((with_reducible apply State.recv_keeps); rotate_right; decide)
    | ((with_reducible apply State.Keeps.step (State.misc_keeps ..)); rotate_right; decide)
    | ((with_reducible apply State.Keeps.step (State.secRewrite_keeps ..)); rotate_right; decide)
    | ((with_reducible apply State.Keeps.step (State.compareAnswer_keeps ..)); rotate_right; decide)
    | ((with_reducible apply State.Keeps.foldl1); rotate_right; intro _ _ _; rotate_left)
    | with_reducible apply State.KeepsR.ite
    | ((with_reducible apply State.Keeps.step (State.recv_keeps ..)); rotate_right; decide)
    | ((with_reducible apply State.Keeps.step (State.diverge_keeps ..)); rotate_right; decide)
    | ((with_reducible apply State.Keeps.foldl); rotate_right; intro _ _ _; rotate_left)
    | with_reducible refine State.Keeps.fst ‹_ = (_, _)› ?_
    | intro _
    | split

def execFormWaitExpiry_scope : Scope := ⟨[.regs, .evf, .recd, .xlt, .hp, .qe, .mov, .tier, .pan, .twn, .cmn, .pwr, .dmc, .flm, .out, .free], some [CME.VIOL_TX, CMP.TX_FRAMES, EVF.ALERT_DRV, EVF.TRACE_DROP, HDR.ERR_INFO0, HDR.ERR_INFO1, HDR.ERR_STAT, HDR.EVT_STAT, MGT.ALARM_SENT, MOV.LAST_FCLASS, MOV.LAST_FOFF, MOV.LAST_STATUS, PAN.HIT_CNT, PAN.MISS_CNT, PAN.WB_CNT, PWR.PWR_WAKE_LATCH, PWR.STATE, REC.ALARM_DROP, REC.HEAD_SEQ, REC.LOST_CNT, REC.OVW_CNT, REC.RSV_USED, TIER.MISSED, TIER.ON_TIME, TIER.QUOTA_REFUSE, TIER.SUBST, TWN.CLAIM_W_DRV, TWN.CLAIM_W_IN, TWN.IN_SYNC, TWN.STATE]⟩
theorem execFormWaitExpiry_keeps (high1 : Bool) (high2 : Bool) (s : State) : State.KeepsR execFormWaitExpiry_scope s (execFormWaitExpiry high1 high2 s) := by
  unfold execFormWaitExpiry
  (try dsimp only)
  repeat' first
    | with_reducible exact State.Keeps.refl _ _
    | with_reducible apply State.KeepsR.next
    | with_reducible apply State.KeepsR.ite
    | with_reducible apply State.Keeps.ite
    | ((with_reducible apply State.Keeps.step (State.claimDrive_keeps ..)); rotate_right; decide)
    | ((with_reducible apply State.Keeps.step (State.soloEntry_keeps ..)); rotate_right; decide)
    | ((with_reducible apply State.Keeps.step (State.put_keeps ..)); rotate_right; decide)
    | ((with_reducible apply State.Keeps.step (State.takeStart_keeps ..)); rotate_right; decide)
    | ((with_reducible apply State.Keeps.step (State.misc_keeps ..)); rotate_right; decide)
    | with_reducible assumption
    | ((with_reducible apply State.Keeps.step (State.claimSample_keeps ..)); rotate_right; decide)
    | with_reducible refine State.Keeps.fst ‹_ = (_, _)› ?_
    | split

def execFormationTimeout_scope : Scope := State.formRestart_scope
theorem execFormationTimeout_keeps (s : State) : State.KeepsR execFormationTimeout_scope s (execFormationTimeout s) := by
  unfold execFormationTimeout
  (try dsimp only)
  repeat' first
    | with_reducible exact State.Keeps.refl _ _
    | with_reducible apply State.KeepsR.next
    | with_reducible apply State.KeepsR.ite
    | ((with_reducible apply State.Keeps.step (State.formRestart_keeps ..)); rotate_right; decide)

def execHandoff_scope : Scope := ⟨[.regs, .twn, .out], some [CIP.AUTH_FAIL_CNT, TWN.TWN_CLAIM_PEER]⟩
theorem execHandoff_keeps (hdr : TwinHdr) (s : State) : State.KeepsR execHandoff_scope s (execHandoff hdr s) := by
  unfold execHandoff
  (try dsimp only)
  repeat' first
    | intro _
    | with_reducible exact State.Keeps.refl _ _
    | with_reducible assumption
    | with_reducible apply State.KeepsR.next
    | with_reducible apply State.Keeps.ite
    | fail_if_no_progress ((with_reducible apply State.Keeps.upd_twn); rotate_right; decide)
    | ((with_reducible apply State.recv_keeps); rotate_right; decide)
    | ((with_reducible apply State.Keeps.step (State.takeStart_keeps ..)); rotate_right; decide)
    | ((with_reducible apply State.Keeps.step (State.put_keeps ..)); rotate_right; decide)

def execHandoffDrained_scope : Scope := ⟨[.regs, .evf, .recd, .xlt, .hp, .qe, .mov, .tier, .twn, .cmn, .pwr, .out, .free], some [CME.VIOL_TX, CMP.TX_FRAMES, EVF.ALERT_DRV, EVF.TRACE_DROP, HDR.ERR_INFO0, HDR.ERR_INFO1, HDR.ERR_STAT, HDR.EVT_STAT, MGT.ALARM_SENT, MOV.FAULT_CNT, MOV.LAST_FCLASS, MOV.LAST_FOFF, MOV.LAST_STATUS, MOV.OFFLINE, MOV.STATE, NVS.FAST_BAD, PWR.PWR_WAKE_LATCH, PWR.STATE, REC.ALARM_DROP, REC.HEAD_SEQ, REC.LOST_CNT, REC.OVW_CNT, REC.RSV_USED, TWN.CLAIM_W_DRV, TWN.HANDOFF_CNT, TWN.SERVE, TWN.TWN_CLAIM_LOCAL]⟩
theorem execHandoffDrained_keeps (group : Grp) (s : State) : State.KeepsR execHandoffDrained_scope s (execHandoffDrained group s) := by
  unfold execHandoffDrained
  (try dsimp only)
  repeat' first
    | with_reducible exact State.Keeps.refl _ _
    | with_reducible apply State.KeepsR.next
    | with_reducible apply State.KeepsR.ite
    | fail_if_no_progress ((with_reducible apply State.Keeps.upd_twn); rotate_right; decide)
    | ((with_reducible apply State.Keeps.step (State.inc_keeps ..)); rotate_right; decide)
    | ((with_reducible apply State.Keeps.step (State.twinSend_keeps ..)); rotate_right; decide)
    | ((with_reducible apply State.Keeps.step (State.fenceGroups_keeps ..)); rotate_right; decide)

def execHandoffTimeout_scope : Scope := ⟨[.regs, .evf, .recd, .hp, .twn, .pwr, .out, .free], some [EVF.ALERT_DRV, EVF.TRACE_DROP, HDR.ERR_INFO0, HDR.ERR_INFO1, HDR.ERR_STAT, HDR.EVT_STAT, MGT.ALARM_SENT, PWR.PWR_WAKE_LATCH, PWR.STATE, REC.ALARM_DROP, REC.HEAD_SEQ, REC.LOST_CNT, REC.OVW_CNT, REC.RSV_USED]⟩
theorem execHandoffTimeout_keeps (group : Grp) (s : State) : State.KeepsR execHandoffTimeout_scope s (execHandoffTimeout group s) := by
  unfold execHandoffTimeout
  (try dsimp only)
  repeat' first
    | with_reducible exact State.Keeps.refl _ _
    | with_reducible apply State.KeepsR.next
    | with_reducible apply State.KeepsR.ite
    | fail_if_no_progress ((with_reducible apply State.Keeps.upd_twn); rotate_right; decide)
    | ((with_reducible apply State.Keeps.step (State.misc_keeps ..)); rotate_right; decide)

def execHarvestBegin_scope : Scope := ⟨[.regs, .twn], some [CIP.AUTH_FAIL_CNT]⟩
theorem execHarvestBegin_keeps (hdr : TwinHdr) (s : State) : State.KeepsR execHarvestBegin_scope s (execHarvestBegin hdr s) := by
  unfold execHarvestBegin
  (try dsimp only)
  repeat' first
    | intro _
    | with_reducible exact State.Keeps.refl _ _
    | with_reducible assumption
    | with_reducible apply State.KeepsR.next
    | fail_if_no_progress ((with_reducible apply State.Keeps.upd_twn); rotate_right; decide)
    | ((with_reducible apply State.recv_keeps); rotate_right; decide)

def execHello_scope : Scope := ⟨[.regs, .evf, .recd, .xlt, .hp, .qe, .mov, .tier, .pan, .twn, .cmn, .pwr, .dmc, .flm, .out, .free], some [CIP.AUTH_FAIL_CNT, CME.VIOL_TX, CMP.TX_FRAMES, EVF.ALERT_DRV, EVF.TRACE_DROP, HDR.ERR_INFO0, HDR.ERR_INFO1, HDR.ERR_STAT, HDR.EVT_STAT, HRV.STATE, MGT.ALARM_SENT, MOV.FAULT_CNT, MOV.LAST_FCLASS, MOV.LAST_FOFF, MOV.LAST_STATUS, MOV.OFFLINE, MOV.STATE, NVS.FAST_BAD, PAN.LOCKS_RELEASED, PAN.LOCK_LOST_CNT, PAN.WB_CNT, PWR.PWR_WAKE_LATCH, PWR.STATE, REC.ALARM_DROP, REC.HEAD_SEQ, REC.LOST_CNT, REC.OVW_CNT, REC.RSV_USED, TWN.CLAIM_W_DRV, TWN.IN_SYNC, TWN.RETX_CNT, TWN.SERVE, TWN.STATE, TWN.TWN_CLAIM_LOCAL, TWN.TWN_CLAIM_PEER]⟩
theorem execHello_keeps (hdr : TwinHdr) (body : HelloBody) (s : State) : State.KeepsR execHello_scope s (execHello hdr body s) := by
  unfold execHello
  (try dsimp only)
  repeat' first
    | intro _
    | with_reducible exact State.Keeps.refl _ _
    | with_reducible assumption
    | with_reducible apply State.KeepsR.next
    | with_reducible apply State.Keeps.ite
    | fail_if_no_progress ((with_reducible apply State.Keeps.upd_twn); rotate_right; decide)
    | ((with_reducible apply State.recv_keeps); rotate_right; decide)
    | ((with_reducible apply State.Keeps.step (State.formPair_keeps ..)); rotate_right; decide)
    | ((with_reducible apply State.Keeps.step (State.setErr_keeps ..)); rotate_right; decide)
    | ((with_reducible apply State.Keeps.step (State.occur_keeps ..)); rotate_right; decide)
    | ((with_reducible apply State.Keeps.step (State.fenceGroups_keeps ..)); rotate_right; decide)

def execLinkLost_scope : Scope := ⟨[.regs, .evf, .recd, .xlt, .hp, .qe, .mov, .tier, .pan, .twn, .cmn, .pwr, .dmc, .flm, .out, .free], some [CME.VIOL_TX, CMP.TX_FRAMES, EVF.ALERT_DRV, EVF.TRACE_DROP, HDR.ERR_INFO0, HDR.ERR_INFO1, HDR.ERR_STAT, HDR.EVT_STAT, MGT.ALARM_SENT, MOV.FAULT_CNT, MOV.LAST_FCLASS, MOV.LAST_FOFF, MOV.LAST_STATUS, MOV.OFFLINE, MOV.STATE, NVS.FAST_BAD, PAN.HIT_CNT, PAN.MISS_CNT, PAN.WB_CNT, PWR.PWR_WAKE_LATCH, PWR.STATE, REC.ALARM_DROP, REC.HEAD_SEQ, REC.LOST_CNT, REC.OVW_CNT, REC.RSV_USED, TIER.MISSED, TIER.ON_TIME, TIER.QUOTA_REFUSE, TIER.SUBST, TWN.BUNDLES, TWN.CLAIM_W_DRV, TWN.IN_SYNC, TWN.LINK_DOWN_CNT, TWN.SERVE, TWN.STATE, TWN.TWN_CLAIM_LOCAL]⟩
theorem execLinkLost_keeps (loopback : BitVec 4) (s : State) : State.KeepsR execLinkLost_scope s (execLinkLost loopback s) := by
  unfold execLinkLost
  (try dsimp only)
  repeat' first
    | with_reducible exact State.Keeps.refl _ _
    | with_reducible apply State.KeepsR.next
    | with_reducible apply State.KeepsR.ite
    | ((with_reducible apply State.Keeps.step (State.fenceAll_keeps ..)); rotate_right; decide)
    | ((with_reducible apply State.Keeps.step (State.linkLost_keeps ..)); rotate_right; decide)
    | ((with_reducible apply State.Keeps.step (State.formRestart_keeps ..)); rotate_right; decide)

def execLoserGroupTake_scope : Scope := ⟨[.twn, .out], some []⟩
theorem execLoserGroupTake_keeps (s : State) : State.KeepsR execLoserGroupTake_scope s (execLoserGroupTake s) := by
  unfold execLoserGroupTake
  (try dsimp only)
  repeat' first
    | with_reducible exact State.Keeps.refl _ _
    | with_reducible apply State.KeepsR.next
    | with_reducible apply State.KeepsR.ite
    | ((with_reducible apply State.Keeps.step (State.takeStart_keeps ..)); rotate_right; decide)

def execMirror_scope : Scope := ⟨[.regs, .evf, .recd, .hp, .tier, .twn, .pwr, .dmc, .flm, .out, .free], some [CIP.AUTH_FAIL_CNT, CIP.HOLD_FULL_CNT, EVF.ALERT_DRV, EVF.TRACE_DROP, HDR.ERR_INFO0, HDR.ERR_INFO1, HDR.ERR_STAT, HDR.EVT_STAT, MGT.ALARM_SENT, PWR.PWR_WAKE_LATCH, PWR.STATE, REC.ALARM_DROP, REC.HEAD_SEQ, REC.LOST_CNT, REC.OVW_CNT, REC.RSV_USED]⟩
theorem execMirror_keeps (hdr : TwinHdr) (poison : BitVec 64) (sectors : List Sector) (tags : List (BitVec 64)) (s : State) : State.KeepsR execMirror_scope s (execMirror hdr poison sectors tags s) := by
  unfold execMirror
  (try dsimp only)
  repeat' first
    | intro _
    | with_reducible exact State.Keeps.refl _ _
    | with_reducible assumption
    | with_reducible apply State.KeepsR.next
    | with_reducible apply State.Keeps.ite
    | ((with_reducible apply State.recv_keeps); rotate_right; decide)
    | ((with_reducible apply State.Keeps.step (State.rxOrdered_keeps ..)); rotate_right; decide)
    | ((with_reducible apply State.Keeps.step (State.misc_keeps ..)); rotate_right; decide)

def execPairFormationStart_scope : Scope := ⟨[.regs, .twn, .out], some [TWN.STATE]⟩
theorem execPairFormationStart_keeps (s : State) : State.KeepsR execPairFormationStart_scope s (execPairFormationStart s) := by
  unfold execPairFormationStart
  (try dsimp only)
  repeat' first
    | with_reducible exact State.Keeps.refl _ _
    | with_reducible apply State.KeepsR.next
    | with_reducible apply State.KeepsR.ite
    | ((with_reducible apply State.Keeps.step (State.formStart_keeps ..)); rotate_right; decide)

def execReadReq_scope : Scope := ⟨[.regs, .twn, .out], some [CIP.AUTH_FAIL_CNT]⟩
theorem execReadReq_keeps (hdr : TwinHdr) (s : State) : State.KeepsR execReadReq_scope s (execReadReq hdr s) := by
  unfold execReadReq
  (try dsimp only)
  repeat' first
    | intro _
    | with_reducible exact State.Keeps.refl _ _
    | with_reducible assumption
    | with_reducible apply State.KeepsR.next
    | with_reducible apply State.Keeps.ite
    | ((with_reducible apply State.recv_keeps); rotate_right; decide)
    | ((with_reducible apply State.Keeps.step (State.twinSend_keeps ..)); rotate_right; decide)
    | split

def execReclaimHoldExpiry_scope : Scope := ⟨[.twn, .out], some []⟩
theorem execReclaimHoldExpiry_keeps (s : State) : State.KeepsR execReclaimHoldExpiry_scope s (execReclaimHoldExpiry s) := by
  unfold execReclaimHoldExpiry
  (try dsimp only)
  repeat' first
    | with_reducible exact State.Keeps.refl _ _
    | with_reducible apply State.KeepsR.next
    | with_reducible apply State.KeepsR.ite
    | ((with_reducible apply State.Keeps.step (State.askGroups_keeps ..)); rotate_right; decide)

def execRecordGapTimeout_scope : Scope := ⟨[.out], some []⟩
theorem execRecordGapTimeout_keeps (s : State) : State.KeepsR execRecordGapTimeout_scope s (execRecordGapTimeout s) := by
  unfold execRecordGapTimeout
  (try dsimp only)
  repeat' first
    | with_reducible exact State.Keeps.refl _ _
    | with_reducible apply State.KeepsR.next
    | with_reducible apply State.KeepsR.ite
    | ((with_reducible apply State.Keeps.step (State.twinSend_keeps ..)); rotate_right; decide)

def execRelease_scope : Scope := ⟨[.regs, .evf, .recd, .xlt, .hp, .qe, .mov, .tier, .pan, .twn, .cmn, .pwr, .dmc, .flm, .out, .free], some [CIP.AUTH_FAIL_CNT, CME.VIOL_TX, CMP.TX_FRAMES, EVF.ALERT_DRV, EVF.TRACE_DROP, HDR.ERR_INFO0, HDR.ERR_INFO1, HDR.ERR_STAT, HDR.EVT_STAT, MGT.ALARM_SENT, MOV.FAULT_CNT, MOV.LAST_FCLASS, MOV.LAST_FOFF, MOV.LAST_STATUS, MOV.OFFLINE, MOV.STATE, NVS.FAST_BAD, PAN.HIT_CNT, PAN.MISS_CNT, PAN.WB_CNT, PWR.PWR_WAKE_LATCH, PWR.STATE, REC.ALARM_DROP, REC.HEAD_SEQ, REC.LOST_CNT, REC.OVW_CNT, REC.RSV_USED, TIER.MISSED, TIER.ON_TIME, TIER.QUOTA_REFUSE, TIER.SUBST, TWN.CLAIM_W_DRV, TWN.IN_SYNC, TWN.SERVE, TWN.STATE, TWN.TWN_CLAIM_LOCAL]⟩
theorem execRelease_keeps (hdr : TwinHdr) (groups : BitVec 16) (s : State) : State.KeepsR execRelease_scope s (execRelease hdr groups s) := by
  unfold execRelease
  (try dsimp only)
  repeat' first
    | intro _
    | with_reducible exact State.Keeps.refl _ _
    | with_reducible assumption
    | with_reducible apply State.KeepsR.next
    | with_reducible apply State.Keeps.ite
    | ((with_reducible apply State.recv_keeps); rotate_right; decide)
    | ((with_reducible apply State.Keeps.step (State.partnerLost_keeps ..)); rotate_right; decide)

def execResyncAck_scope : Scope := ⟨[.regs, .hp, .twn, .out], some [CIP.AUTH_FAIL_CNT, HRV.STATE, NVS.FAST_BAD, TWN.CLAIM_W_DRV, TWN.IN_SYNC, TWN.STATE]⟩
theorem execResyncAck_keeps (hdr : TwinHdr) (s : State) : State.KeepsR execResyncAck_scope s (execResyncAck hdr s) := by
  unfold execResyncAck
  (try dsimp only)
  repeat' first
    | intro _
    | with_reducible exact State.Keeps.refl _ _
    | with_reducible assumption
    | with_reducible apply State.KeepsR.next
    | fail_if_no_progress ((with_reducible apply State.Keeps.upd_twn); rotate_right; decide)
    | ((with_reducible apply State.recv_keeps); rotate_right; decide)
    | ((with_reducible apply State.Keeps.step (State.resyncCheck_keeps ..)); rotate_right; decide)

def execResyncData_scope : Scope := ⟨[.regs, .tier, .twn, .dmc, .flm, .out], some [CIP.AUTH_FAIL_CNT, CIP.HOLD_FULL_CNT]⟩
theorem execResyncData_keeps (hdr : TwinHdr) (unit : ResyncUnit) (s : State) : State.KeepsR execResyncData_scope s (execResyncData hdr unit s) := by
  unfold execResyncData
  (try dsimp only)
  repeat' first
    | intro _
    | with_reducible exact State.Keeps.refl _ _
    | with_reducible assumption
    | with_reducible apply State.KeepsR.next
    | ((with_reducible apply State.recv_keeps); rotate_right; decide)
    | ((with_reducible apply State.Keeps.step (State.rxOrdered_keeps ..)); rotate_right; decide)

def execRsmScanDone_scope : Scope := State.enterPaired_scope
theorem execRsmScanDone_keeps (s : State) : State.KeepsR execRsmScanDone_scope s (execRsmScanDone s) := by
  unfold execRsmScanDone
  (try dsimp only)
  repeat' first
    | with_reducible exact State.Keeps.refl _ _
    | with_reducible apply State.KeepsR.next
    | fail_if_no_progress ((with_reducible apply State.Keeps.upd_twn); rotate_right; decide)
    | ((with_reducible apply State.Keeps.step (State.resyncSend_keeps ..)); rotate_right; decide)
    | ((with_reducible apply State.Keeps.step (State.resyncCheck_keeps ..)); rotate_right; decide)

def execTakeoverClaimSample_scope : Scope := ⟨[.regs, .evf, .recd, .hp, .twn, .pwr, .out, .free], some [EVF.ALERT_DRV, EVF.TRACE_DROP, HDR.ERR_INFO0, HDR.ERR_INFO1, HDR.ERR_STAT, HDR.EVT_STAT, MGT.ALARM_SENT, PWR.PWR_WAKE_LATCH, PWR.STATE, REC.ALARM_DROP, REC.HEAD_SEQ, REC.LOST_CNT, REC.OVW_CNT, REC.RSV_USED, TWN.CLAIM_W_DRV, TWN.CLAIM_W_IN]⟩
theorem execTakeoverClaimSample_keeps (high1 : Bool) (high2 : Bool) (s : State) : State.KeepsR execTakeoverClaimSample_scope s (execTakeoverClaimSample high1 high2 s) := by
  unfold execTakeoverClaimSample
  (try dsimp only)
  repeat' first
    | with_reducible exact State.Keeps.refl _ _
    | with_reducible apply State.KeepsR.next
    | with_reducible apply State.KeepsR.ite
    | ((with_reducible apply State.Keeps.step (State.claimDrive_keeps ..)); rotate_right; decide)
    | ((with_reducible apply State.Keeps.step (State.takeStart_keeps ..)); rotate_right; decide)
    | ((with_reducible apply State.Keeps.step (State.put_keeps ..)); rotate_right; decide)
    | with_reducible assumption
    | with_reducible apply State.Keeps.ite
    | ((with_reducible apply State.Keeps.step (State.claimSample_keeps ..)); rotate_right; decide)
    | with_reducible refine State.Keeps.fst ‹_ = (_, _)› ?_
    | split

def execTide_scope : Scope := ⟨[.regs, .twn], some [CIP.AUTH_FAIL_CNT]⟩
theorem execTide_keeps (hdr : TwinHdr) (value : Nat) (s : State) : State.KeepsR execTide_scope s (execTide hdr value s) := by
  unfold execTide
  (try dsimp only)
  repeat' first
    | intro _
    | with_reducible exact State.Keeps.refl _ _
    | with_reducible assumption
    | with_reducible apply State.KeepsR.next
    | fail_if_no_progress ((with_reducible apply State.Keeps.upd_twn); rotate_right; decide)
    | ((with_reducible apply State.recv_keeps); rotate_right; decide)

def execTwinAck_scope : Scope := ⟨[.regs, .evf, .recd, .xlt, .hp, .qe, .mov, .tier, .pan, .twn, .cmn, .pwr, .dmc, .flm, .out, .free], some [CIP.AUTH_FAIL_CNT, CME.VIOL_TX, CMP.TX_FRAMES, EVF.ALERT_DRV, EVF.TRACE_DROP, HDR.ERR_INFO0, HDR.ERR_INFO1, HDR.ERR_STAT, HDR.EVT_STAT, MGT.ALARM_SENT, MOV.LAST_FCLASS, MOV.LAST_FOFF, MOV.LAST_STATUS, PAN.HIT_CNT, PAN.MISS_CNT, PAN.WB_CNT, PWR.PWR_WAKE_LATCH, PWR.STATE, REC.ALARM_DROP, REC.HEAD_SEQ, REC.LOST_CNT, REC.OVW_CNT, REC.RSV_USED, TIER.MISSED, TIER.ON_TIME, TIER.QUOTA_REFUSE, TIER.SUBST]⟩
theorem execTwinAck_keeps (hdr : TwinHdr) (s : State) : State.KeepsR execTwinAck_scope s (execTwinAck hdr s) := by
  unfold execTwinAck
  (try dsimp only)
  repeat' first
    | intro _
    | with_reducible exact State.Keeps.refl _ _
    | with_reducible assumption
    | with_reducible apply State.KeepsR.next
    | with_reducible apply State.Keeps.ite
    | fail_if_no_progress ((with_reducible apply State.Keeps.upd_twn); rotate_right; decide)
    | ((with_reducible apply State.recv_keeps); rotate_right; decide)
    | ((with_reducible apply State.Keeps.step (State.replayPrune_keeps ..)); rotate_right; decide)
    | ((with_reducible apply State.Keeps.step (State.ackSweep_keeps ..)); rotate_right; decide)

def execTwinIdle_scope : Scope := ⟨[.regs, .twn], some [CIP.AUTH_FAIL_CNT]⟩
theorem execTwinIdle_keeps (bundle : Bundle) (s : State) : State.KeepsR execTwinIdle_scope s (execTwinIdle bundle s) := by
  unfold execTwinIdle
  (try dsimp only)
  repeat' first
    | intro _
    | with_reducible exact State.Keeps.refl _ _
    | with_reducible assumption
    | with_reducible apply State.KeepsR.next
    | ((with_reducible apply State.recv_keeps); rotate_right; decide)

def execTwinLinkSignal_scope : Scope := ⟨[.regs, .twn, .out], some [TWN.BUNDLES, TWN.STATE]⟩
theorem execTwinLinkSignal_keeps (bundles : BitVec 4) (s : State) : State.KeepsR execTwinLinkSignal_scope s (execTwinLinkSignal bundles s) := by
  unfold execTwinLinkSignal
  (try dsimp only)
  repeat' first
    | with_reducible exact State.Keeps.refl _ _
    | with_reducible apply State.KeepsR.next
    | with_reducible apply State.KeepsR.ite
    | with_reducible apply State.Keeps.ite
    | fail_if_no_progress ((with_reducible apply State.Keeps.upd_twn); rotate_right; decide)
    | ((with_reducible apply State.Keeps.step (State.twinSend_keeps ..)); rotate_right; decide)
    | ((with_reducible apply State.Keeps.step (State.put_keeps ..)); rotate_right; decide)

def execTwinNack_scope : Scope := ⟨[.regs, .twn, .out], some [CIP.AUTH_FAIL_CNT, TWN.RETX_CNT]⟩
theorem execTwinNack_keeps (hdr : TwinHdr) (s : State) : State.KeepsR execTwinNack_scope s (execTwinNack hdr s) := by
  unfold execTwinNack
  (try dsimp only)
  repeat' first
    | intro _
    | with_reducible exact State.Keeps.refl _ _
    | with_reducible assumption
    | with_reducible apply State.KeepsR.next
    | ((with_reducible apply State.recv_keeps); rotate_right; decide)
    | ((with_reducible apply State.Keeps.step (State.resendRec_keeps ..)); rotate_right; decide)
    | split

def State.mendAnswer_scope : Scope := ⟨[.regs, .evf, .recd, .hp, .tier, .pan, .twn, .pwr, .dmc, .flm, .out, .free], some [EVF.ALERT_DRV, EVF.TRACE_DROP, HDR.ERR_INFO0, HDR.ERR_INFO1, HDR.ERR_STAT, HDR.EVT_STAT, MGT.ALARM_SENT, PWR.PWR_WAKE_LATCH, PWR.STATE, REC.ALARM_DROP, REC.HEAD_SEQ, REC.LOST_CNT, REC.OVW_CNT, REC.RSV_USED]⟩
theorem State.mendAnswer_keeps (s : State) (w : Nat) (vals : Option (List SectorVal)) : State.Keeps State.mendAnswer_scope s (State.mendAnswer s w vals) := by
  unfold State.mendAnswer
  (try dsimp only)
  repeat' first
    | with_reducible exact State.Keeps.refl _ _
    | with_reducible assumption
    | with_reducible apply State.Keeps.ite
    | fail_if_no_progress ((with_reducible apply State.Keeps.upd_twn); rotate_right; decide)
    | ((with_reducible apply State.Keeps.step (State.secRewrite_keeps ..)); rotate_right; decide)
    | ((with_reducible apply State.Keeps.foldl1); rotate_right; intro _ _ _; rotate_left)
    | ((with_reducible apply State.Keeps.foldl); rotate_right; intro _ _ _; rotate_left)
    | ((with_reducible apply State.Keeps.step (State.mendFail_keeps ..)); rotate_right; decide)
    | split

def execTwinReadResp_scope : Scope := ⟨[.regs, .evf, .recd, .xlt, .hp, .qe, .mov, .tier, .pan, .twn, .cmn, .pwr, .dmc, .flm, .out, .free], some [CIP.AUTH_FAIL_CNT, CME.VIOL_TX, CMP.TX_FRAMES, EVF.ALERT_DRV, EVF.TRACE_DROP, HDR.ERR_INFO0, HDR.ERR_INFO1, HDR.ERR_STAT, HDR.EVT_STAT, HP.POISON_CNT, MGT.ALARM_SENT, MOV.FAULT_CNT, MOV.LAST_FCLASS, MOV.LAST_FOFF, MOV.LAST_STATUS, MOV.OFFLINE, MOV.STATE, PWR.PWR_WAKE_LATCH, PWR.STATE, REC.ALARM_DROP, REC.HEAD_SEQ, REC.LOST_CNT, REC.OVW_CNT, REC.RSV_USED, TIER.SLOW_PATH, TIER.SUBST, TWN.DIVERGE_CNT, TWN.DUAL_READS]⟩
theorem execTwinReadResp_keeps (hdr : TwinHdr) (resp : TwinResp) (s : State) : State.KeepsR execTwinReadResp_scope s (execTwinReadResp hdr resp s) := by
  unfold execTwinReadResp
  (try dsimp only)
  repeat' first
    | intro _
    | with_reducible exact State.Keeps.refl _ _
    | with_reducible assumption
    | with_reducible apply State.KeepsR.next
    | with_reducible apply State.Keeps.ite
    | ((with_reducible apply State.recv_keeps); rotate_right; decide)
    | ((with_reducible apply State.Keeps.step (State.startPath_keeps ..)); rotate_right; decide)
    | ((with_reducible apply State.Keeps.step (State.answer_keeps ..)); rotate_right; decide)
    | ((with_reducible apply State.Keeps.step (State.movSettle_keeps ..)); rotate_right; decide)
    | ((with_reducible apply State.Keeps.step (State.compareAnswer_keeps ..)); rotate_right; decide)
    | ((with_reducible apply State.Keeps.foldl); rotate_right; intro _ _ _; rotate_left)
    | with_reducible apply State.KeepsR.ite
    | ((with_reducible apply State.Keeps.step (State.mendAnswer_keeps ..)); rotate_right; decide)
    | ((with_reducible apply State.Keeps.foldl1); rotate_right; intro _ _ _; rotate_left)
    | split

def execTwinState_scope : Scope := ⟨[.regs, .hp, .twn, .out], some [CIP.AUTH_FAIL_CNT, HRV.STATE, NVS.FAST_BAD, TWN.CLAIM_W_DRV, TWN.IN_SYNC, TWN.STATE]⟩
theorem execTwinState_keeps (hdr : TwinHdr) (pairState : BitVec 4) (inSync : Bool) (flmState : BitVec 3) (s : State) : State.KeepsR execTwinState_scope s (execTwinState hdr pairState inSync flmState s) := by
  unfold execTwinState
  (try dsimp only)
  repeat' first
    | intro _
    | with_reducible exact State.Keeps.refl _ _
    | with_reducible assumption
    | with_reducible apply State.KeepsR.next
    | with_reducible apply State.Keeps.ite
    | fail_if_no_progress ((with_reducible apply State.Keeps.upd_twn); rotate_right; decide)
    | ((with_reducible apply State.recv_keeps); rotate_right; decide)
    | ((with_reducible apply State.Keeps.step (State.askGroups_keeps ..)); rotate_right; decide)
    | ((with_reducible apply State.Keeps.step (State.enterPaired_keeps ..)); rotate_right; decide)

def execTwinTime_scope : Scope := ⟨[.regs, .twn, .timeNs, .slew], some [CIP.AUTH_FAIL_CNT]⟩
theorem execTwinTime_keeps (hdr : TwinHdr) (serveCount : Nat) (s : State) : State.KeepsR execTwinTime_scope s (execTwinTime hdr serveCount s) := by
  unfold execTwinTime
  (try dsimp only)
  repeat' first
    | intro _
    | with_reducible exact State.Keeps.refl _ _
    | with_reducible assumption
    | with_reducible apply State.KeepsR.next
    | with_reducible apply State.Keeps.ite
    | ((with_reducible apply State.recv_keeps); rotate_right; decide)
    | fail_if_no_progress ((with_reducible apply State.Keeps.upd); rotate_right; (intro p hp; cases p <;> first | exact absurd (by decide) hp | exact rfl))

end Sys2Proof.Machine
end

