-- ==== Sys2Proof/Laws/KeepCmn.lean ====
section
/-! SUPPORT. What each operation of Machine/Cmn.lean keeps: the parts of State it can change are those listed. -/
set_option linter.unusedTactic false
set_option linter.unreachableTactic false
namespace Sys2Proof.Machine

def State.phaseSwitch_scope : Scope := State.cmnPump_scope
theorem State.phaseSwitch_keeps (s : State) (i : Nat) : State.Keeps State.phaseSwitch_scope s (State.phaseSwitch s i) := by
  unfold State.phaseSwitch
  (try dsimp only)
  repeat' first
    | with_reducible exact State.Keeps.refl _ _
    | with_reducible apply State.Keeps.ite
    | ((with_reducible apply State.Keeps.step (State.putConn_keeps ..)); rotate_right; decide)
    | ((with_reducible apply State.Keeps.step (State.cmnPump_keeps ..)); rotate_right; decide)

def State.rekeyInstall_scope : Scope := State.phaseSwitch_scope
theorem State.rekeyInstall_keeps (s : State) (i : Nat) : State.Keeps State.rekeyInstall_scope s (State.rekeyInstall s i) := by
  unfold State.rekeyInstall
  (try dsimp only)
  repeat' first
    | with_reducible exact State.Keeps.refl _ _
    | with_reducible apply State.Keeps.ite
    | ((with_reducible apply State.Keeps.step (State.sendCtl_keeps ..)); rotate_right; decide)
    | ((with_reducible apply State.Keeps.step (State.phaseSwitch_keeps ..)); rotate_right; decide)
    | ((with_reducible apply State.Keeps.step (State.putConn_keeps ..)); rotate_right; decide)

def State.connErase_scope : Scope := ⟨[.cmn], some []⟩
theorem State.connErase_keeps (s : State) (i : Nat) : State.Keeps State.connErase_scope s (State.connErase s i) := by
  unfold State.connErase
  (try dsimp only)
  repeat' first
    | with_reducible exact State.Keeps.refl _ _
    | with_reducible assumption
    | with_reducible apply State.Keeps.ite
    | ((with_reducible apply State.Keeps.step (State.modConn_keeps ..)); rotate_right; decide)

def State.connFree_scope : Scope := ⟨[.regs, .evf, .recd, .xlt, .hp, .qe, .cmn, .pwr, .out, .free], some [EVF.ALERT_DRV, EVF.TRACE_DROP, HDR.ERR_INFO0, HDR.ERR_INFO1, HDR.ERR_STAT, HDR.EVT_STAT, MGT.ALARM_SENT, PWR.PWR_WAKE_LATCH, PWR.STATE, REC.ALARM_DROP, REC.HEAD_SEQ, REC.LOST_CNT, REC.OVW_CNT, REC.RSV_USED]⟩
theorem State.connFree_keeps (s : State) (i : Nat) : State.Keeps State.connFree_scope s (State.connFree s i) := by
  unfold State.connFree
  (try dsimp only)
  repeat' first
    | with_reducible exact State.Keeps.refl _ _
    | ((with_reducible apply State.Keeps.step (State.modConn_keeps ..)); rotate_right; decide)
    | with_reducible assumption
    | with_reducible apply State.Keeps.ite
    | ((with_reducible apply State.Keeps.step (State.messageEnd_keeps ..)); rotate_right; decide)
    | ((with_reducible apply State.Keeps.step (State.connErase_keeps ..)); rotate_right; decide)
    | ((with_reducible apply State.Keeps.foldl1); rotate_right; intro _ _ _; rotate_left)
    | ((with_reducible apply State.Keeps.foldl); rotate_right; intro _ _ _; rotate_left)

def State.connClose_scope : Scope := ⟨[.regs, .evf, .recd, .xlt, .hp, .qe, .cmn, .pwr, .out, .free], some [CMP.TX_FRAMES, EVF.ALERT_DRV, EVF.TRACE_DROP, HDR.ERR_INFO0, HDR.ERR_INFO1, HDR.ERR_STAT, HDR.EVT_STAT, MGT.ALARM_SENT, PWR.PWR_WAKE_LATCH, PWR.STATE, REC.ALARM_DROP, REC.HEAD_SEQ, REC.LOST_CNT, REC.OVW_CNT, REC.RSV_USED]⟩
theorem State.connClose_keeps (s : State) (i : Nat) : State.Keeps State.connClose_scope s (State.connClose s i) := by
  unfold State.connClose
  (try dsimp only)
  repeat' first
    | with_reducible exact State.Keeps.refl _ _
    | with_reducible apply State.Keeps.ite
    | ((with_reducible apply State.Keeps.step (State.connFree_keeps ..)); rotate_right; decide)
    | ((with_reducible apply State.Keeps.step (State.sendCtl_keeps ..)); rotate_right; decide)
    | ((with_reducible apply State.Keeps.step (State.modConn_keeps ..)); rotate_right; decide)

def State.connOpen_scope : Scope := ⟨[.regs, .cmn, .out], some [CMP.TX_FRAMES]⟩
theorem State.connOpen_keeps (s : State) (i : Nat) : State.Keeps State.connOpen_scope s (State.connOpen s i) := by
  unfold State.connOpen
  (try dsimp only)
  repeat' first
    | with_reducible exact State.Keeps.refl _ _
    | with_reducible assumption
    | with_reducible apply State.Keeps.ite
    | ((with_reducible apply State.Keeps.step (State.sendCtl_keeps ..)); rotate_right; decide)
    | ((with_reducible apply State.Keeps.step (State.putConn_keeps ..)); rotate_right; decide)
    | ((with_reducible apply State.Keeps.foldl); rotate_right; intro _ _ _; rotate_left)

def State.connCtl_scope : Scope := ⟨[.regs, .evf, .recd, .xlt, .hp, .qe, .cmn, .pwr, .out, .free], some [CMP.TX_FRAMES, EVF.ALERT_DRV, EVF.TRACE_DROP, HDR.ERR_INFO0, HDR.ERR_INFO1, HDR.ERR_STAT, HDR.EVT_STAT, MGT.ALARM_SENT, PWR.PWR_WAKE_LATCH, PWR.STATE, REC.ALARM_DROP, REC.HEAD_SEQ, REC.LOST_CNT, REC.OVW_CNT, REC.RSV_USED]⟩
theorem State.connCtl_keeps (s : State) (op : Nat) (i : Nat) : State.Keeps State.connCtl_scope s (State.connCtl s op i) := by
  unfold State.connCtl
  (try dsimp only)
  repeat' first
    | with_reducible exact State.Keeps.refl _ _
    | ((with_reducible apply State.Keeps.step (State.rekeyInstall_keeps ..)); rotate_right; decide)
    | ((with_reducible apply State.Keeps.step (State.connClose_keeps ..)); rotate_right; decide)
    | ((with_reducible apply State.Keeps.step (State.connOpen_keeps ..)); rotate_right; decide)
    | split

def State.sweepDue_scope : Scope := ⟨[.xlt], some []⟩
theorem State.sweepDue_keeps (s : State) : State.Keeps State.sweepDue_scope s (State.sweepDue s) := by
  unfold State.sweepDue
  (try dsimp only)
  repeat' first
    | with_reducible exact State.Keeps.refl _ _
    | with_reducible assumption
    | with_reducible apply State.Keeps.ite
    | fail_if_no_progress ((with_reducible apply State.Keeps.upd_xlt); rotate_right; decide)

def State.connsFree_scope : Scope := ⟨[.xlt, .cmn], some []⟩
theorem State.connsFree_keeps (s : State) : State.Keeps State.connsFree_scope s (State.connsFree s) := by
  unfold State.connsFree
  (try dsimp only)
  repeat' first
    | with_reducible exact State.Keeps.refl _ _
    | with_reducible assumption
    | with_reducible apply State.Keeps.ite
    | ((with_reducible apply State.Keeps.step (State.connFree_keeps ..)); rotate_right; decide)
    | ((with_reducible apply State.Keeps.foldl); rotate_right; intro _ _ _; rotate_left)
    | ((with_reducible apply State.Keeps.step (State.connErase_keeps ..)); rotate_right; decide)
    | ((with_reducible apply State.Keeps.step (State.sweepDue_keeps ..)); rotate_right; decide)
    | ((with_reducible apply State.Keeps.foldl1); rotate_right; intro _ _ _; rotate_left)

def State.connPaths_scope : Scope := State.cmnPump_scope
theorem State.connPaths_keeps (s : State) (i : Nat) : State.Keeps State.connPaths_scope s (State.connPaths s i) := by
  unfold State.connPaths
  (try dsimp only)
  repeat' first
    | with_reducible exact State.Keeps.refl _ _
    | with_reducible apply State.Keeps.ite
    | ((with_reducible apply State.Keeps.step (State.putConn_keeps ..)); rotate_right; decide)
    | ((with_reducible apply State.Keeps.step (State.cmnPump_keeps ..)); rotate_right; decide)

def State.rxRequest_scope : Scope := ⟨[.regs, .evf, .recd, .xlt, .hp, .qe, .mov, .tier, .pan, .twn, .cmn, .pwr, .dmc, .flm, .out, .free], some [CIP.AUTH_FAIL_CNT, CIP.HOLD_FULL_CNT, CME.AUTH_FAIL, CME.HOLD_DROP, CME.LATE_PKT, CME.VIOL_RX, CME.VIOL_TX, CMP.CE_MARKED, CMP.FCS_ERR, CMP.RX_DROP, CMP.RX_FRAMES, CMP.TX_FRAMES, EVF.ALERT_DRV, EVF.TRACE_DROP, HDR.ERR_INFO0, HDR.ERR_INFO1, HDR.ERR_STAT, HDR.EVT_STAT, HP.POISON_CNT, HP.REFUSE_CNT, MGT.ALARM_SENT, MOV.FAULT_CNT, MOV.LAST_FCLASS, MOV.LAST_FOFF, MOV.LAST_STATUS, MOV.OFFLINE, MOV.STATE, PAN.HIT_CNT, PAN.MISS_CNT, PAN.WB_CNT, PWR.PWR_WAKE_LATCH, PWR.STATE, REC.ALARM_DROP, REC.HEAD_SEQ, REC.LOST_CNT, REC.OVW_CNT, REC.RSV_USED, TIER.MISSED, TIER.ON_TIME, TIER.QUOTA_REFUSE, TIER.SUBST, XLT.BUSY]⟩
theorem State.rxRequest_keeps (s : State) (again : Bool) (m : RxMsg) (op : Nat) (p : Packet) : State.Keeps State.rxRequest_scope s (State.rxRequest s again m op p) := by
  unfold State.rxRequest
  (try dsimp only)
  repeat' first
    | intro _
    | with_reducible exact State.Keeps.refl _ _
    | with_reducible assumption
    | with_reducible apply State.Keeps.ite
    | ((with_reducible apply State.Keeps.step (State.ingress_keeps ..)); rotate_right; decide)
    | ((with_reducible apply State.Keeps.step (State.authStorm_keeps ..)); rotate_right; decide)
    | ((with_reducible apply State.Keeps.step (State.request_keeps ..)); rotate_right; decide)
    | ((with_reducible apply State.Keeps.step (State.movSettle_keeps ..)); rotate_right; decide)
    | ((with_reducible apply State.ingress_keeps); rotate_right; decide)

def State.rxResponse_scope : Scope := ⟨[.regs, .evf, .recd, .xlt, .hp, .qe, .mov, .tier, .cmn, .pwr, .out, .free], some [CIP.AUTH_FAIL_CNT, CIP.HOLD_FULL_CNT, CME.AUTH_FAIL, CME.LATE_PKT, CME.STALE_CLAIM_DROP, CME.VIOL_RX, CME.VIOL_TX, CMP.CE_MARKED, CMP.FCS_ERR, CMP.RX_DROP, CMP.RX_FRAMES, CMP.TX_FRAMES, EVF.ALERT_DRV, EVF.TRACE_DROP, HDR.ERR_INFO0, HDR.ERR_INFO1, HDR.ERR_STAT, HDR.EVT_STAT, HP.POISON_CNT, HP.REFUSE_CNT, MGT.ALARM_SENT, MOV.FAULT_CNT, MOV.LAST_FCLASS, MOV.LAST_FOFF, MOV.LAST_STATUS, MOV.OFFLINE, MOV.STATE, PWR.PWR_WAKE_LATCH, PWR.STATE, REC.ALARM_DROP, REC.HEAD_SEQ, REC.LOST_CNT, REC.OVW_CNT, REC.RSV_USED, XLT.BUSY]⟩
theorem State.rxResponse_keeps (s : State) (again : Bool) (m : RxMsg) (read : Bool) (p : Packet) : State.Keeps State.rxResponse_scope s (State.rxResponse s again m read p) := by
  unfold State.rxResponse
  (try dsimp only)
  repeat' first
    | intro _
    | with_reducible exact State.Keeps.refl _ _
    | with_reducible assumption
    | with_reducible apply State.Keeps.ite
    | ((with_reducible apply State.Keeps.step (State.ingress_keeps ..)); rotate_right; decide)
    | ((with_reducible apply State.Keeps.step (State.authStorm_keeps ..)); rotate_right; decide)
    | ((with_reducible apply State.Keeps.step (State.response_keeps ..)); rotate_right; decide)
    | ((with_reducible apply State.Keeps.step (State.movSettle_keeps ..)); rotate_right; decide)
    | ((with_reducible apply State.ingress_keeps); rotate_right; decide)

def execAckTimer_scope : Scope := ⟨[.regs, .cmn, .out], some [CMP.TX_FRAMES]⟩
theorem execAckTimer_keeps (conn : BitVec 20) (s : State) : State.KeepsR execAckTimer_scope s (execAckTimer conn s) := by
  unfold execAckTimer
  (try dsimp only)
  repeat' first
    | with_reducible exact State.Keeps.refl _ _
    | with_reducible apply State.KeepsR.next
    | with_reducible apply State.KeepsR.ite
    | with_reducible apply State.Keeps.ite
    | ((with_reducible apply State.Keeps.step (State.sendAck_keeps ..)); rotate_right; decide)

def State.rxAck_scope : Scope := ⟨[.regs, .evf, .recd, .xlt, .hp, .qe, .mov, .tier, .cmn, .pwr, .out, .free], some [CIP.AUTH_FAIL_CNT, CIP.HOLD_FULL_CNT, CME.AUTH_FAIL, CME.VIOL_RX, CME.VIOL_TX, CMP.CE_MARKED, CMP.FCS_ERR, CMP.RX_DROP, CMP.RX_FRAMES, CMP.TX_FRAMES, EVF.ALERT_DRV, EVF.TRACE_DROP, HDR.ERR_INFO0, HDR.ERR_INFO1, HDR.ERR_STAT, HDR.EVT_STAT, HP.POISON_CNT, HP.REFUSE_CNT, MGT.ALARM_SENT, MOV.FAULT_CNT, MOV.LAST_FCLASS, MOV.LAST_FOFF, MOV.LAST_STATUS, MOV.OFFLINE, MOV.STATE, PWR.PWR_WAKE_LATCH, PWR.STATE, REC.ALARM_DROP, REC.HEAD_SEQ, REC.LOST_CNT, REC.OVW_CNT, REC.RSV_USED, XLT.BUSY]⟩
theorem State.rxAck_keeps (s : State) (again : Bool) (pkt : Packet) (ackPsn : BitVec 32) (ceCount : BitVec 32) : State.Keeps State.rxAck_scope s (State.rxAck s again pkt ackPsn ceCount) := by
  unfold State.rxAck
  (try dsimp only)
  repeat' first
    | intro _
    | with_reducible exact State.Keeps.refl _ _
    | with_reducible assumption
    | with_reducible apply State.Keeps.ite
    | ((with_reducible apply State.Keeps.step (State.ingress_keeps ..)); rotate_right; decide)
    | ((with_reducible apply State.Keeps.step (State.authStorm_keeps ..)); rotate_right; decide)
    | ((with_reducible apply State.Keeps.step (State.putConn_keeps ..)); rotate_right; decide)
    | ((with_reducible apply State.Keeps.step (State.connPaths_keeps ..)); rotate_right; decide)
    | ((with_reducible apply State.Keeps.step (State.cmnPump_keeps ..)); rotate_right; decide)
    | with_reducible refine State.Keeps.fst ‹_ = (_, _)› ?_
    | ((with_reducible apply State.ingress_keeps); rotate_right; decide)
    | split

def execCmnAck_scope : Scope := ⟨[.regs, .evf, .recd, .xlt, .hp, .qe, .mov, .tier, .cmn, .pwr, .out, .free], some [CIP.AUTH_FAIL_CNT, CIP.HOLD_FULL_CNT, CME.AUTH_FAIL, CME.VIOL_RX, CME.VIOL_TX, CMP.CE_MARKED, CMP.FCS_ERR, CMP.RX_DROP, CMP.RX_FRAMES, CMP.TX_FRAMES, EVF.ALERT_DRV, EVF.TRACE_DROP, HDR.ERR_INFO0, HDR.ERR_INFO1, HDR.ERR_STAT, HDR.EVT_STAT, HP.POISON_CNT, HP.REFUSE_CNT, MGT.ALARM_SENT, MOV.FAULT_CNT, MOV.LAST_FCLASS, MOV.LAST_FOFF, MOV.LAST_STATUS, MOV.OFFLINE, MOV.STATE, PWR.PWR_WAKE_LATCH, PWR.STATE, REC.ALARM_DROP, REC.HEAD_SEQ, REC.LOST_CNT, REC.OVW_CNT, REC.RSV_USED, XLT.BUSY]⟩
theorem execCmnAck_keeps (pkt : Packet) (ackPsn : BitVec 32) (ceCount : BitVec 32) (s : State) : State.KeepsR execCmnAck_scope s (execCmnAck pkt ackPsn ceCount s) := by
  unfold execCmnAck
  (try dsimp only)
  repeat' first
    | with_reducible exact State.Keeps.refl _ _
    | with_reducible assumption
    | with_reducible apply State.KeepsR.next
    | ((with_reducible apply State.ingress_keeps); rotate_right; decide)
    | ((with_reducible apply State.Keeps.step (State.putConn_keeps ..)); rotate_right; decide)
    | ((with_reducible apply State.Keeps.step (State.connPaths_keeps ..)); rotate_right; decide)
    | ((with_reducible apply State.Keeps.step (State.cmnPump_keeps ..)); rotate_right; decide)
    | ((with_reducible apply State.Keeps.step (State.authStorm_keeps ..)); rotate_right; decide)
    | with_reducible apply State.KeepsR.ite
    | with_reducible apply State.Keeps.ite
    | ((with_reducible apply State.Keeps.step (State.rxAck_keeps ..)); rotate_right; decide)
    | intro _

def State.rxClose_scope : Scope := ⟨[.regs, .evf, .recd, .xlt, .hp, .qe, .mov, .tier, .cmn, .pwr, .out, .free], some [CIP.AUTH_FAIL_CNT, CIP.HOLD_FULL_CNT, CME.AUTH_FAIL, CME.VIOL_RX, CME.VIOL_TX, CMP.CE_MARKED, CMP.FCS_ERR, CMP.RX_DROP, CMP.RX_FRAMES, CMP.TX_FRAMES, EVF.ALERT_DRV, EVF.TRACE_DROP, HDR.ERR_INFO0, HDR.ERR_INFO1, HDR.ERR_STAT, HDR.EVT_STAT, HP.POISON_CNT, HP.REFUSE_CNT, MGT.ALARM_SENT, MOV.FAULT_CNT, MOV.LAST_FCLASS, MOV.LAST_FOFF, MOV.LAST_STATUS, MOV.OFFLINE, MOV.STATE, PWR.PWR_WAKE_LATCH, PWR.STATE, REC.ALARM_DROP, REC.HEAD_SEQ, REC.LOST_CNT, REC.OVW_CNT, REC.RSV_USED, XLT.BUSY]⟩
theorem State.rxClose_keeps (s : State) (again : Bool) (pkt : Packet) (status : BitVec 8) : State.Keeps State.rxClose_scope s (State.rxClose s again pkt status) := by
  unfold State.rxClose
  (try dsimp only)
  repeat' first
    | intro _
    | with_reducible exact State.Keeps.refl _ _
    | with_reducible assumption
    | with_reducible apply State.Keeps.ite
    | ((with_reducible apply State.Keeps.step (State.ingress_keeps ..)); rotate_right; decide)
    | ((with_reducible apply State.Keeps.step (State.authStorm_keeps ..)); rotate_right; decide)
    | ((with_reducible apply State.Keeps.step (State.putConn_keeps ..)); rotate_right; decide)
    | ((with_reducible apply State.Keeps.step (State.emit_keeps ..)); rotate_right; decide)
    | ((with_reducible apply State.ingress_keeps); rotate_right; decide)

def execCmnClose_scope : Scope := ⟨[.regs, .evf, .recd, .xlt, .hp, .qe, .mov, .tier, .cmn, .pwr, .out, .free], some [CIP.AUTH_FAIL_CNT, CIP.HOLD_FULL_CNT, CME.AUTH_FAIL, CME.VIOL_RX, CME.VIOL_TX, CMP.CE_MARKED, CMP.FCS_ERR, CMP.RX_DROP, CMP.RX_FRAMES, CMP.TX_FRAMES, EVF.ALERT_DRV, EVF.TRACE_DROP, HDR.ERR_INFO0, HDR.ERR_INFO1, HDR.ERR_STAT, HDR.EVT_STAT, HP.POISON_CNT, HP.REFUSE_CNT, MGT.ALARM_SENT, MOV.FAULT_CNT, MOV.LAST_FCLASS, MOV.LAST_FOFF, MOV.LAST_STATUS, MOV.OFFLINE, MOV.STATE, PWR.PWR_WAKE_LATCH, PWR.STATE, REC.ALARM_DROP, REC.HEAD_SEQ, REC.LOST_CNT, REC.OVW_CNT, REC.RSV_USED, XLT.BUSY]⟩
theorem execCmnClose_keeps (pkt : Packet) (status : BitVec 8) (s : State) : State.KeepsR execCmnClose_scope s (execCmnClose pkt status s) := by
  unfold execCmnClose
  (try dsimp only)
  repeat' first
    | with_reducible exact State.Keeps.refl _ _
    | with_reducible assumption
    | with_reducible apply State.KeepsR.next
    | with_reducible apply State.Keeps.ite
    | ((with_reducible apply State.ingress_keeps); rotate_right; decide)
    | ((with_reducible apply State.Keeps.step (State.putConn_keeps ..)); rotate_right; decide)
    | ((with_reducible apply State.Keeps.step (State.emit_keeps ..)); rotate_right; decide)
    | ((with_reducible apply State.Keeps.step (State.authStorm_keeps ..)); rotate_right; decide)
    | with_reducible apply State.KeepsR.ite
    | ((with_reducible apply State.Keeps.step (State.rxClose_keeps ..)); rotate_right; decide)
    | intro _

def State.rxNack_scope : Scope := ⟨[.regs, .evf, .recd, .xlt, .hp, .qe, .mov, .tier, .cmn, .pwr, .out, .free], some [CIP.AUTH_FAIL_CNT, CIP.HOLD_FULL_CNT, CME.AUTH_FAIL, CME.VIOL_RX, CME.VIOL_TX, CMP.CE_MARKED, CMP.FCS_ERR, CMP.RX_DROP, CMP.RX_FRAMES, CMP.TX_FRAMES, EVF.ALERT_DRV, EVF.TRACE_DROP, HDR.ERR_INFO0, HDR.ERR_INFO1, HDR.ERR_STAT, HDR.EVT_STAT, HP.POISON_CNT, HP.REFUSE_CNT, MGT.ALARM_SENT, MOV.FAULT_CNT, MOV.LAST_FCLASS, MOV.LAST_FOFF, MOV.LAST_STATUS, MOV.OFFLINE, MOV.STATE, PWR.PWR_WAKE_LATCH, PWR.STATE, REC.ALARM_DROP, REC.HEAD_SEQ, REC.LOST_CNT, REC.OVW_CNT, REC.RSV_USED, XLT.BUSY]⟩
theorem State.rxNack_keeps (s : State) (again : Bool) (pkt : Packet) (ranges : List (Nat × Nat)) : State.Keeps State.rxNack_scope s (State.rxNack s again pkt ranges) := by
  unfold State.rxNack
  (try dsimp only)
  repeat' first
    | intro _
    | with_reducible exact State.Keeps.refl _ _
    | with_reducible assumption
    | with_reducible apply State.Keeps.ite
    | ((with_reducible apply State.Keeps.step (State.ingress_keeps ..)); rotate_right; decide)
    | ((with_reducible apply State.Keeps.step (State.authStorm_keeps ..)); rotate_right; decide)
    | ((with_reducible apply State.Keeps.step (State.resend_keeps ..)); rotate_right; decide)
    | ((with_reducible apply State.Keeps.foldl); rotate_right; intro _ _ _; rotate_left)
    | ((with_reducible apply State.Keeps.foldl1); rotate_right; intro _ _ _; rotate_left)
    | ((with_reducible apply State.ingress_keeps); rotate_right; decide)

def execCmnNack_scope : Scope := ⟨[.regs, .evf, .recd, .xlt, .hp, .qe, .mov, .tier, .cmn, .pwr, .out, .free], some [CIP.AUTH_FAIL_CNT, CIP.HOLD_FULL_CNT, CME.AUTH_FAIL, CME.VIOL_RX, CME.VIOL_TX, CMP.CE_MARKED, CMP.FCS_ERR, CMP.RX_DROP, CMP.RX_FRAMES, CMP.TX_FRAMES, EVF.ALERT_DRV, EVF.TRACE_DROP, HDR.ERR_INFO0, HDR.ERR_INFO1, HDR.ERR_STAT, HDR.EVT_STAT, HP.POISON_CNT, HP.REFUSE_CNT, MGT.ALARM_SENT, MOV.FAULT_CNT, MOV.LAST_FCLASS, MOV.LAST_FOFF, MOV.LAST_STATUS, MOV.OFFLINE, MOV.STATE, PWR.PWR_WAKE_LATCH, PWR.STATE, REC.ALARM_DROP, REC.HEAD_SEQ, REC.LOST_CNT, REC.OVW_CNT, REC.RSV_USED, XLT.BUSY]⟩
theorem execCmnNack_keeps (pkt : Packet) (ranges : List (Nat × Nat)) (s : State) : State.KeepsR execCmnNack_scope s (execCmnNack pkt ranges s) := by
  unfold execCmnNack
  (try dsimp only)
  repeat' first
    | with_reducible exact State.Keeps.refl _ _
    | with_reducible assumption
    | with_reducible apply State.KeepsR.next
    | ((with_reducible apply State.ingress_keeps); rotate_right; decide)
    | ((with_reducible apply State.Keeps.step (State.resend_keeps ..)); rotate_right; decide)
    | ((with_reducible apply State.Keeps.step (State.authStorm_keeps ..)); rotate_right; decide)
    | ((with_reducible apply State.Keeps.foldl); rotate_right; intro _ _ _; rotate_left)
    | with_reducible apply State.KeepsR.ite
    | with_reducible apply State.Keeps.ite
    | ((with_reducible apply State.Keeps.step (State.rxNack_keeps ..)); rotate_right; decide)
    | intro _

def State.rxNotice_scope : Scope := ⟨[.regs, .evf, .recd, .xlt, .hp, .qe, .mov, .tier, .cmn, .pwr, .out, .free], some [CIP.AUTH_FAIL_CNT, CIP.HOLD_FULL_CNT, CME.AUTH_FAIL, CME.VIOL_RX, CME.VIOL_TX, CMP.CE_MARKED, CMP.FCS_ERR, CMP.RX_DROP, CMP.RX_FRAMES, CMP.TX_FRAMES, EVF.ALERT_DRV, EVF.TRACE_DROP, HDR.ERR_INFO0, HDR.ERR_INFO1, HDR.ERR_STAT, HDR.EVT_STAT, HP.POISON_CNT, HP.REFUSE_CNT, MGT.ALARM_SENT, MOV.FAULT_CNT, MOV.LAST_FCLASS, MOV.LAST_FOFF, MOV.LAST_STATUS, MOV.OFFLINE, MOV.STATE, PWR.PWR_WAKE_LATCH, PWR.STATE, REC.ALARM_DROP, REC.HEAD_SEQ, REC.LOST_CNT, REC.OVW_CNT, REC.RSV_USED, XLT.BUSY]⟩
theorem State.rxNotice_keeps (s : State) (again : Bool) (pkt : Packet) (status : BitVec 8) : State.Keeps State.rxNotice_scope s (State.rxNotice s again pkt status) := by
  unfold State.rxNotice
  (try dsimp only)
  repeat' first
    | intro _
    | with_reducible exact State.Keeps.refl _ _
    | with_reducible assumption
    | with_reducible apply State.Keeps.ite
    | ((with_reducible apply State.Keeps.step (State.ingress_keeps ..)); rotate_right; decide)
    | ((with_reducible apply State.Keeps.step (State.authStorm_keeps ..)); rotate_right; decide)
    | ((with_reducible apply State.Keeps.step (State.initEnd_keeps ..)); rotate_right; decide)
    | ((with_reducible apply State.Keeps.step (State.movSettle_keeps ..)); rotate_right; decide)
    | with_reducible refine State.Keeps.fst ‹_ = (_, _)› ?_
    | ((with_reducible apply State.ingress_keeps); rotate_right; decide)
    | split

def execCmnNotice_scope : Scope := ⟨[.regs, .evf, .recd, .xlt, .hp, .qe, .mov, .tier, .cmn, .pwr, .out, .free], some [CIP.AUTH_FAIL_CNT, CIP.HOLD_FULL_CNT, CME.AUTH_FAIL, CME.VIOL_RX, CME.VIOL_TX, CMP.CE_MARKED, CMP.FCS_ERR, CMP.RX_DROP, CMP.RX_FRAMES, CMP.TX_FRAMES, EVF.ALERT_DRV, EVF.TRACE_DROP, HDR.ERR_INFO0, HDR.ERR_INFO1, HDR.ERR_STAT, HDR.EVT_STAT, HP.POISON_CNT, HP.REFUSE_CNT, MGT.ALARM_SENT, MOV.FAULT_CNT, MOV.LAST_FCLASS, MOV.LAST_FOFF, MOV.LAST_STATUS, MOV.OFFLINE, MOV.STATE, PWR.PWR_WAKE_LATCH, PWR.STATE, REC.ALARM_DROP, REC.HEAD_SEQ, REC.LOST_CNT, REC.OVW_CNT, REC.RSV_USED, XLT.BUSY]⟩
theorem execCmnNotice_keeps (pkt : Packet) (status : BitVec 8) (s : State) : State.KeepsR execCmnNotice_scope s (execCmnNotice pkt status s) := by
  unfold execCmnNotice
  (try dsimp only)
  repeat' first
    | intro _
    | with_reducible exact State.Keeps.refl _ _
    | with_reducible assumption
    | with_reducible apply State.KeepsR.next
    | with_reducible apply State.Keeps.ite
    | ((with_reducible apply State.ingress_keeps); rotate_right; decide)
    | ((with_reducible apply State.Keeps.step (State.initEnd_keeps ..)); rotate_right; decide)
    | ((with_reducible apply State.Keeps.step (State.authStorm_keeps ..)); rotate_right; decide)
    | ((with_reducible apply State.Keeps.step (State.movSettle_keeps ..)); rotate_right; decide)
    | with_reducible apply State.KeepsR.ite
    | ((with_reducible apply State.Keeps.step (State.rxNotice_keeps ..)); rotate_right; decide)
    | split

def State.rxProbe_scope : Scope := ⟨[.regs, .evf, .recd, .xlt, .hp, .qe, .mov, .tier, .cmn, .pwr, .out, .free], some [CIP.AUTH_FAIL_CNT, CIP.HOLD_FULL_CNT, CME.AUTH_FAIL, CME.VIOL_RX, CME.VIOL_TX, CMP.CE_MARKED, CMP.FCS_ERR, CMP.RX_DROP, CMP.RX_FRAMES, CMP.TX_FRAMES, EVF.ALERT_DRV, EVF.TRACE_DROP, HDR.ERR_INFO0, HDR.ERR_INFO1, HDR.ERR_STAT, HDR.EVT_STAT, HP.POISON_CNT, HP.REFUSE_CNT, MGT.ALARM_SENT, MOV.FAULT_CNT, MOV.LAST_FCLASS, MOV.LAST_FOFF, MOV.LAST_STATUS, MOV.OFFLINE, MOV.STATE, PWR.PWR_WAKE_LATCH, PWR.STATE, REC.ALARM_DROP, REC.HEAD_SEQ, REC.LOST_CNT, REC.OVW_CNT, REC.RSV_USED, XLT.BUSY]⟩
theorem State.rxProbe_keeps (s : State) (again : Bool) (pkt : Packet) (path : Fin 8) : State.Keeps State.rxProbe_scope s (State.rxProbe s again pkt path) := by
  unfold State.rxProbe
  (try dsimp only)
  repeat' first
    | intro _
    | with_reducible exact State.Keeps.refl _ _
    | with_reducible assumption
    | with_reducible apply State.Keeps.ite
    | ((with_reducible apply State.Keeps.step (State.ingress_keeps ..)); rotate_right; decide)
    | ((with_reducible apply State.Keeps.step (State.authStorm_keeps ..)); rotate_right; decide)
    | ((with_reducible apply State.Keeps.step (State.sendAck_keeps ..)); rotate_right; decide)
    | ((with_reducible apply State.ingress_keeps); rotate_right; decide)

def execCmnProbe_scope : Scope := ⟨[.regs, .evf, .recd, .xlt, .hp, .qe, .mov, .tier, .cmn, .pwr, .out, .free], some [CIP.AUTH_FAIL_CNT, CIP.HOLD_FULL_CNT, CME.AUTH_FAIL, CME.VIOL_RX, CME.VIOL_TX, CMP.CE_MARKED, CMP.FCS_ERR, CMP.RX_DROP, CMP.RX_FRAMES, CMP.TX_FRAMES, EVF.ALERT_DRV, EVF.TRACE_DROP, HDR.ERR_INFO0, HDR.ERR_INFO1, HDR.ERR_STAT, HDR.EVT_STAT, HP.POISON_CNT, HP.REFUSE_CNT, MGT.ALARM_SENT, MOV.FAULT_CNT, MOV.LAST_FCLASS, MOV.LAST_FOFF, MOV.LAST_STATUS, MOV.OFFLINE, MOV.STATE, PWR.PWR_WAKE_LATCH, PWR.STATE, REC.ALARM_DROP, REC.HEAD_SEQ, REC.LOST_CNT, REC.OVW_CNT, REC.RSV_USED, XLT.BUSY]⟩
theorem execCmnProbe_keeps (pkt : Packet) (path : Fin 8) (s : State) : State.KeepsR execCmnProbe_scope s (execCmnProbe pkt path s) := by
  unfold execCmnProbe
  (try dsimp only)
  repeat' first
    | intro _
    | with_reducible exact State.Keeps.refl _ _
    | with_reducible assumption
    | with_reducible apply State.KeepsR.next
    | ((with_reducible apply State.ingress_keeps); rotate_right; decide)
    | ((with_reducible apply State.Keeps.step (State.sendAck_keeps ..)); rotate_right; decide)
    | ((with_reducible apply State.Keeps.step (State.authStorm_keeps ..)); rotate_right; decide)
    | with_reducible apply State.KeepsR.ite
    | with_reducible apply State.Keeps.ite
    | ((with_reducible apply State.Keeps.step (State.rxProbe_keeps ..)); rotate_right; decide)

def execCmnRead_scope : Scope := ⟨[.regs, .evf, .recd, .xlt, .hp, .qe, .mov, .tier, .pan, .twn, .cmn, .pwr, .dmc, .flm, .out, .free], some [CIP.AUTH_FAIL_CNT, CIP.HOLD_FULL_CNT, CME.AUTH_FAIL, CME.HOLD_DROP, CME.LATE_PKT, CME.VIOL_RX, CME.VIOL_TX, CMP.CE_MARKED, CMP.FCS_ERR, CMP.RX_DROP, CMP.RX_FRAMES, CMP.TX_FRAMES, EVF.ALERT_DRV, EVF.TRACE_DROP, HDR.ERR_INFO0, HDR.ERR_INFO1, HDR.ERR_STAT, HDR.EVT_STAT, HP.POISON_CNT, HP.REFUSE_CNT, MGT.ALARM_SENT, MOV.FAULT_CNT, MOV.LAST_FCLASS, MOV.LAST_FOFF, MOV.LAST_STATUS, MOV.OFFLINE, MOV.STATE, PAN.HIT_CNT, PAN.MISS_CNT, PAN.WB_CNT, PWR.PWR_WAKE_LATCH, PWR.STATE, REC.ALARM_DROP, REC.HEAD_SEQ, REC.LOST_CNT, REC.OVW_CNT, REC.RSV_USED, TIER.MISSED, TIER.ON_TIME, TIER.QUOTA_REFUSE, TIER.SUBST, XLT.BUSY]⟩
theorem execCmnRead_keeps (pkt : Packet) (s : State) : State.KeepsR execCmnRead_scope s (execCmnRead pkt s) := by
  unfold execCmnRead
  (try dsimp only)
  repeat' first
    | with_reducible exact State.Keeps.refl _ _
    | ((with_reducible apply State.KeepsR.step (State.rxRequest_keeps ..)); rotate_right; decide)
    | with_reducible assumption
    | with_reducible apply State.KeepsR.next
    | with_reducible apply State.KeepsR.ite
    | with_reducible apply State.Keeps.ite
    | ((with_reducible apply State.Keeps.step (State.rxRequest_keeps ..)); rotate_right; decide)

def execCmnReadResp_scope : Scope := ⟨[.regs, .evf, .recd, .xlt, .hp, .qe, .mov, .tier, .cmn, .pwr, .out, .free], some [CIP.AUTH_FAIL_CNT, CIP.HOLD_FULL_CNT, CME.AUTH_FAIL, CME.LATE_PKT, CME.STALE_CLAIM_DROP, CME.VIOL_RX, CME.VIOL_TX, CMP.CE_MARKED, CMP.FCS_ERR, CMP.RX_DROP, CMP.RX_FRAMES, CMP.TX_FRAMES, EVF.ALERT_DRV, EVF.TRACE_DROP, HDR.ERR_INFO0, HDR.ERR_INFO1, HDR.ERR_STAT, HDR.EVT_STAT, HP.POISON_CNT, HP.REFUSE_CNT, MGT.ALARM_SENT, MOV.FAULT_CNT, MOV.LAST_FCLASS, MOV.LAST_FOFF, MOV.LAST_STATUS, MOV.OFFLINE, MOV.STATE, PWR.PWR_WAKE_LATCH, PWR.STATE, REC.ALARM_DROP, REC.HEAD_SEQ, REC.LOST_CNT, REC.OVW_CNT, REC.RSV_USED, XLT.BUSY]⟩
theorem execCmnReadResp_keeps (pkt : Packet) (s : State) : State.KeepsR execCmnReadResp_scope s (execCmnReadResp pkt s) := by
  unfold execCmnReadResp
  (try dsimp only)
  repeat' first
    | intro _
    | with_reducible exact State.Keeps.refl _ _
    | with_reducible assumption
    | with_reducible apply State.KeepsR.next
    | ((with_reducible apply State.ingress_keeps); rotate_right; decide)
    | ((with_reducible apply State.Keeps.step (State.response_keeps ..)); rotate_right; decide)
    | ((with_reducible apply State.Keeps.step (State.authStorm_keeps ..)); rotate_right; decide)
    | ((with_reducible apply State.Keeps.step (State.movSettle_keeps ..)); rotate_right; decide)
    | with_reducible apply State.KeepsR.ite
    | with_reducible apply State.Keeps.ite
    | ((with_reducible apply State.Keeps.step (State.rxResponse_keeps ..)); rotate_right; decide)

def State.rxRekeyReady_scope : Scope := ⟨[.regs, .evf, .recd, .xlt, .hp, .qe, .mov, .tier, .cmn, .pwr, .out, .free], some [CIP.AUTH_FAIL_CNT, CIP.HOLD_FULL_CNT, CME.AUTH_FAIL, CME.VIOL_RX, CME.VIOL_TX, CMP.CE_MARKED, CMP.FCS_ERR, CMP.RX_DROP, CMP.RX_FRAMES, CMP.TX_FRAMES, EVF.ALERT_DRV, EVF.TRACE_DROP, HDR.ERR_INFO0, HDR.ERR_INFO1, HDR.ERR_STAT, HDR.EVT_STAT, HP.POISON_CNT, HP.REFUSE_CNT, MGT.ALARM_SENT, MOV.FAULT_CNT, MOV.LAST_FCLASS, MOV.LAST_FOFF, MOV.LAST_STATUS, MOV.OFFLINE, MOV.STATE, PWR.PWR_WAKE_LATCH, PWR.STATE, REC.ALARM_DROP, REC.HEAD_SEQ, REC.LOST_CNT, REC.OVW_CNT, REC.RSV_USED, XLT.BUSY]⟩
theorem State.rxRekeyReady_keeps (s : State) (again : Bool) (pkt : Packet) (phase : Bool) : State.Keeps State.rxRekeyReady_scope s (State.rxRekeyReady s again pkt phase) := by
  unfold State.rxRekeyReady
  (try dsimp only)
  repeat' first
    | intro _
    | with_reducible exact State.Keeps.refl _ _
    | with_reducible assumption
    | with_reducible apply State.Keeps.ite
    | ((with_reducible apply State.Keeps.step (State.ingress_keeps ..)); rotate_right; decide)
    | ((with_reducible apply State.Keeps.step (State.authStorm_keeps ..)); rotate_right; decide)
    | ((with_reducible apply State.Keeps.step (State.modConn_keeps ..)); rotate_right; decide)
    | ((with_reducible apply State.Keeps.step (State.phaseSwitch_keeps ..)); rotate_right; decide)
    | ((with_reducible apply State.ingress_keeps); rotate_right; decide)

def execCmnRekeyReady_scope : Scope := ⟨[.regs, .evf, .recd, .xlt, .hp, .qe, .mov, .tier, .cmn, .pwr, .out, .free], some [CIP.AUTH_FAIL_CNT, CIP.HOLD_FULL_CNT, CME.AUTH_FAIL, CME.VIOL_RX, CME.VIOL_TX, CMP.CE_MARKED, CMP.FCS_ERR, CMP.RX_DROP, CMP.RX_FRAMES, CMP.TX_FRAMES, EVF.ALERT_DRV, EVF.TRACE_DROP, HDR.ERR_INFO0, HDR.ERR_INFO1, HDR.ERR_STAT, HDR.EVT_STAT, HP.POISON_CNT, HP.REFUSE_CNT, MGT.ALARM_SENT, MOV.FAULT_CNT, MOV.LAST_FCLASS, MOV.LAST_FOFF, MOV.LAST_STATUS, MOV.OFFLINE, MOV.STATE, PWR.PWR_WAKE_LATCH, PWR.STATE, REC.ALARM_DROP, REC.HEAD_SEQ, REC.LOST_CNT, REC.OVW_CNT, REC.RSV_USED, XLT.BUSY]⟩
theorem execCmnRekeyReady_keeps (pkt : Packet) (phase : Bool) (s : State) : State.KeepsR execCmnRekeyReady_scope s (execCmnRekeyReady pkt phase s) := by
  unfold execCmnRekeyReady
  (try dsimp only)
  repeat' first
    | intro _
    | with_reducible exact State.Keeps.refl _ _
    | with_reducible assumption
    | with_reducible apply State.KeepsR.next
    | with_reducible apply State.Keeps.ite
    | ((with_reducible apply State.ingress_keeps); rotate_right; decide)
    | ((with_reducible apply State.Keeps.step (State.modConn_keeps ..)); rotate_right; decide)
    | ((with_reducible apply State.Keeps.step (State.phaseSwitch_keeps ..)); rotate_right; decide)
    | ((with_reducible apply State.Keeps.step (State.authStorm_keeps ..)); rotate_right; decide)
    | with_reducible apply State.KeepsR.ite
    | ((with_reducible apply State.Keeps.step (State.rxRekeyReady_keeps ..)); rotate_right; decide)

def execCmnWrite_scope : Scope := ⟨[.regs, .evf, .recd, .xlt, .hp, .qe, .mov, .tier, .pan, .twn, .cmn, .pwr, .dmc, .flm, .out, .free], some [CIP.AUTH_FAIL_CNT, CIP.HOLD_FULL_CNT, CME.AUTH_FAIL, CME.HOLD_DROP, CME.LATE_PKT, CME.VIOL_RX, CME.VIOL_TX, CMP.CE_MARKED, CMP.FCS_ERR, CMP.RX_DROP, CMP.RX_FRAMES, CMP.TX_FRAMES, EVF.ALERT_DRV, EVF.TRACE_DROP, HDR.ERR_INFO0, HDR.ERR_INFO1, HDR.ERR_STAT, HDR.EVT_STAT, HP.POISON_CNT, HP.REFUSE_CNT, MGT.ALARM_SENT, MOV.FAULT_CNT, MOV.LAST_FCLASS, MOV.LAST_FOFF, MOV.LAST_STATUS, MOV.OFFLINE, MOV.STATE, PAN.HIT_CNT, PAN.MISS_CNT, PAN.WB_CNT, PWR.PWR_WAKE_LATCH, PWR.STATE, REC.ALARM_DROP, REC.HEAD_SEQ, REC.LOST_CNT, REC.OVW_CNT, REC.RSV_USED, TIER.MISSED, TIER.ON_TIME, TIER.QUOTA_REFUSE, TIER.SUBST, XLT.BUSY]⟩
theorem execCmnWrite_keeps (pkt : Packet) (s : State) : State.KeepsR execCmnWrite_scope s (execCmnWrite pkt s) := by
  unfold execCmnWrite
  (try dsimp only)
  repeat' first
    | with_reducible exact State.Keeps.refl _ _
    | ((with_reducible apply State.KeepsR.step (State.rxRequest_keeps ..)); rotate_right; decide)
    | with_reducible assumption
    | with_reducible apply State.KeepsR.next
    | with_reducible apply State.KeepsR.ite
    | with_reducible apply State.Keeps.ite
    | ((with_reducible apply State.Keeps.step (State.rxRequest_keeps ..)); rotate_right; decide)

def execCmnWriteCmp_scope : Scope := ⟨[.regs, .evf, .recd, .xlt, .hp, .qe, .mov, .tier, .cmn, .pwr, .out, .free], some [CIP.AUTH_FAIL_CNT, CIP.HOLD_FULL_CNT, CME.AUTH_FAIL, CME.LATE_PKT, CME.STALE_CLAIM_DROP, CME.VIOL_RX, CME.VIOL_TX, CMP.CE_MARKED, CMP.FCS_ERR, CMP.RX_DROP, CMP.RX_FRAMES, CMP.TX_FRAMES, EVF.ALERT_DRV, EVF.TRACE_DROP, HDR.ERR_INFO0, HDR.ERR_INFO1, HDR.ERR_STAT, HDR.EVT_STAT, HP.POISON_CNT, HP.REFUSE_CNT, MGT.ALARM_SENT, MOV.FAULT_CNT, MOV.LAST_FCLASS, MOV.LAST_FOFF, MOV.LAST_STATUS, MOV.OFFLINE, MOV.STATE, PWR.PWR_WAKE_LATCH, PWR.STATE, REC.ALARM_DROP, REC.HEAD_SEQ, REC.LOST_CNT, REC.OVW_CNT, REC.RSV_USED, XLT.BUSY]⟩
theorem execCmnWriteCmp_keeps (pkt : Packet) (s : State) : State.KeepsR execCmnWriteCmp_scope s (execCmnWriteCmp pkt s) := by
  unfold execCmnWriteCmp
  (try dsimp only)
  repeat' first
    | intro _
    | with_reducible exact State.Keeps.refl _ _
    | with_reducible assumption
    | with_reducible apply State.KeepsR.next
    | ((with_reducible apply State.ingress_keeps); rotate_right; decide)
    | ((with_reducible apply State.Keeps.step (State.response_keeps ..)); rotate_right; decide)
    | ((with_reducible apply State.Keeps.step (State.authStorm_keeps ..)); rotate_right; decide)
    | ((with_reducible apply State.Keeps.step (State.movSettle_keeps ..)); rotate_right; decide)
    | with_reducible apply State.KeepsR.ite
    | with_reducible apply State.Keeps.ite
    | ((with_reducible apply State.Keeps.step (State.rxResponse_keeps ..)); rotate_right; decide)

def execCmnWriteMasked_scope : Scope := ⟨[.regs, .evf, .recd, .xlt, .hp, .qe, .mov, .tier, .pan, .twn, .cmn, .pwr, .dmc, .flm, .out, .free], some [CIP.AUTH_FAIL_CNT, CIP.HOLD_FULL_CNT, CME.AUTH_FAIL, CME.HOLD_DROP, CME.LATE_PKT, CME.VIOL_RX, CME.VIOL_TX, CMP.CE_MARKED, CMP.FCS_ERR, CMP.RX_DROP, CMP.RX_FRAMES, CMP.TX_FRAMES, EVF.ALERT_DRV, EVF.TRACE_DROP, HDR.ERR_INFO0, HDR.ERR_INFO1, HDR.ERR_STAT, HDR.EVT_STAT, HP.POISON_CNT, HP.REFUSE_CNT, MGT.ALARM_SENT, MOV.FAULT_CNT, MOV.LAST_FCLASS, MOV.LAST_FOFF, MOV.LAST_STATUS, MOV.OFFLINE, MOV.STATE, PAN.HIT_CNT, PAN.MISS_CNT, PAN.WB_CNT, PWR.PWR_WAKE_LATCH, PWR.STATE, REC.ALARM_DROP, REC.HEAD_SEQ, REC.LOST_CNT, REC.OVW_CNT, REC.RSV_USED, TIER.MISSED, TIER.ON_TIME, TIER.QUOTA_REFUSE, TIER.SUBST, XLT.BUSY]⟩
theorem execCmnWriteMasked_keeps (pkt : Packet) (s : State) : State.KeepsR execCmnWriteMasked_scope s (execCmnWriteMasked pkt s) := by
  unfold execCmnWriteMasked
  (try dsimp only)
  repeat' first
    | with_reducible exact State.Keeps.refl _ _
    | ((with_reducible apply State.KeepsR.step (State.rxRequest_keeps ..)); rotate_right; decide)
    | with_reducible assumption
    | with_reducible apply State.KeepsR.next
    | with_reducible apply State.KeepsR.ite
    | with_reducible apply State.Keeps.ite
    | ((with_reducible apply State.Keeps.step (State.rxRequest_keeps ..)); rotate_right; decide)

def execConnCloseTimeout_scope : Scope := ⟨[.regs, .evf, .recd, .xlt, .hp, .qe, .mov, .tier, .cmn, .pwr, .out, .free], some [CME.VIOL_RX, CME.VIOL_TX, CMP.TX_FRAMES, EVF.ALERT_DRV, EVF.TRACE_DROP, HDR.ERR_INFO0, HDR.ERR_INFO1, HDR.ERR_STAT, HDR.EVT_STAT, HP.POISON_CNT, HP.REFUSE_CNT, MGT.ALARM_SENT, MOV.FAULT_CNT, MOV.LAST_FCLASS, MOV.LAST_FOFF, MOV.LAST_STATUS, MOV.OFFLINE, MOV.STATE, PWR.PWR_WAKE_LATCH, PWR.STATE, REC.ALARM_DROP, REC.HEAD_SEQ, REC.LOST_CNT, REC.OVW_CNT, REC.RSV_USED, XLT.BUSY]⟩
theorem execConnCloseTimeout_keeps (conn : BitVec 20) (s : State) : State.KeepsR execConnCloseTimeout_scope s (execConnCloseTimeout conn s) := by
  unfold execConnCloseTimeout
  (try dsimp only)
  repeat' first
    | with_reducible exact State.Keeps.refl _ _
    | with_reducible apply State.KeepsR.next
    | with_reducible apply State.KeepsR.ite
    | ((with_reducible apply State.Keeps.step (State.connEndAll_keeps ..)); rotate_right; decide)
    | ((with_reducible apply State.Keeps.step (State.connFree_keeps ..)); rotate_right; decide)
    | ((with_reducible apply State.Keeps.step (State.movSettle_keeps ..)); rotate_right; decide)

def execInitTimeout_scope : Scope := ⟨[.regs, .evf, .recd, .xlt, .hp, .qe, .mov, .tier, .cmn, .pwr, .out, .free], some [CME.VIOL_RX, CMP.TX_FRAMES, EVF.ALERT_DRV, EVF.TRACE_DROP, HDR.ERR_INFO0, HDR.ERR_INFO1, HDR.ERR_STAT, HDR.EVT_STAT, HP.POISON_CNT, HP.REFUSE_CNT, MGT.ALARM_SENT, MOV.FAULT_CNT, MOV.LAST_FCLASS, MOV.LAST_FOFF, MOV.LAST_STATUS, MOV.OFFLINE, MOV.STATE, PWR.PWR_WAKE_LATCH, PWR.STATE, REC.ALARM_DROP, REC.HEAD_SEQ, REC.LOST_CNT, REC.OVW_CNT, REC.RSV_USED, XLT.BUSY]⟩
theorem execInitTimeout_keeps (conn : BitVec 20) (msn : BitVec 32) (s : State) : State.KeepsR execInitTimeout_scope s (execInitTimeout conn msn s) := by
  unfold execInitTimeout
  (try dsimp only)
  repeat' first
    | with_reducible exact State.Keeps.refl _ _
    | with_reducible apply State.KeepsR.next
    | ((with_reducible apply State.Keeps.step (State.initEnd_keeps ..)); rotate_right; decide)
    | ((with_reducible apply State.Keeps.step (State.movSettle_keeps ..)); rotate_right; decide)
    | split

def execMsgTimeout_scope : Scope := ⟨[.regs, .evf, .recd, .xlt, .hp, .qe, .mov, .tier, .pan, .twn, .cmn, .pwr, .dmc, .flm, .out, .free], some [CME.MSG_TIMEOUTS, CME.VIOL_TX, CMP.TX_FRAMES, EVF.ALERT_DRV, EVF.TRACE_DROP, HDR.ERR_INFO0, HDR.ERR_INFO1, HDR.ERR_STAT, HDR.EVT_STAT, MGT.ALARM_SENT, MOV.LAST_FCLASS, MOV.LAST_FOFF, MOV.LAST_STATUS, PAN.HIT_CNT, PAN.MISS_CNT, PAN.WB_CNT, PWR.PWR_WAKE_LATCH, PWR.STATE, REC.ALARM_DROP, REC.HEAD_SEQ, REC.LOST_CNT, REC.OVW_CNT, REC.RSV_USED, TIER.MISSED, TIER.ON_TIME, TIER.QUOTA_REFUSE, TIER.SUBST]⟩
theorem execMsgTimeout_keeps (conn : BitVec 20) (msn : BitVec 32) (s : State) : State.KeepsR execMsgTimeout_scope s (execMsgTimeout conn msn s) := by
  unfold execMsgTimeout
  (try dsimp only)
  repeat' first
    | with_reducible exact State.Keeps.refl _ _
    | with_reducible apply State.KeepsR.next
    | ((with_reducible apply State.Keeps.step (State.releaseHolds_keeps ..)); rotate_right; decide)
    | ((with_reducible apply State.Keeps.step (State.movSettle_keeps ..)); rotate_right; decide)
    | ((with_reducible apply State.Keeps.step (State.tgtEnd_keeps ..)); rotate_right; decide)
    | ((with_reducible apply State.Keeps.step (State.inc_keeps ..)); rotate_right; decide)
    | split

def State.nackGaps_scope : Scope := State.sendNack_scope
theorem State.nackGaps_keeps (s : State) (i : Nat) (phase : Bool) : State.Keeps State.nackGaps_scope s (State.nackGaps s i phase) := by
  unfold State.nackGaps
  (try dsimp only)
  repeat' first
    | with_reducible exact State.Keeps.refl _ _
    | with_reducible assumption
    | ((with_reducible apply State.Keeps.foldl); rotate_right; intro _ _ _; rotate_left)
    | ((with_reducible apply State.Keeps.step (State.putConn_keeps ..)); rotate_right; decide)
    | ((with_reducible apply State.Keeps.step (State.sendNack_keeps ..)); rotate_right; decide)

def execNackDelayExpiry_scope : Scope := ⟨[.regs, .cmn, .out], some [CMP.TX_FRAMES]⟩
theorem execNackDelayExpiry_keeps (conn : BitVec 20) (s : State) : State.KeepsR execNackDelayExpiry_scope s (execNackDelayExpiry conn s) := by
  unfold execNackDelayExpiry
  (try dsimp only)
  repeat' first
    | with_reducible exact State.Keeps.refl _ _
    | with_reducible apply State.KeepsR.next
    | with_reducible apply State.KeepsR.ite
    | with_reducible apply State.Keeps.ite
    | ((with_reducible apply State.Keeps.step (State.nackGaps_keeps ..)); rotate_right; decide)

def execNonCemanorFrame_scope : Scope := ⟨[.regs, .out], some [CMP.RX_FRAMES]⟩
theorem execNonCemanorFrame_keeps (eport : EPort) (sublink : Fin 8) (len : Nat) (s : State) : State.KeepsR execNonCemanorFrame_scope s (execNonCemanorFrame eport sublink len s) := by
  unfold execNonCemanorFrame
  (try dsimp only)
  repeat' first
    | with_reducible exact State.Keeps.refl _ _
    | with_reducible apply State.KeepsR.next
    | ((with_reducible apply State.Keeps.step (State.incMod_keeps ..)); rotate_right; decide)
    | ((with_reducible apply State.Keeps.step (State.emit_keeps ..)); rotate_right; decide)

def execPfcPauseReceived_scope : Scope := ⟨[.regs, .evf, .recd, .hp, .cmn, .pwr, .out, .free], some [CMP.PFC_PAUSE, CMP.TX_FRAMES, EVF.ALERT_DRV, EVF.TRACE_DROP, HDR.ERR_INFO0, HDR.ERR_INFO1, HDR.ERR_STAT, HDR.EVT_STAT, MGT.ALARM_SENT, PWR.PWR_WAKE_LATCH, PWR.STATE, REC.ALARM_DROP, REC.HEAD_SEQ, REC.LOST_CNT, REC.OVW_CNT, REC.RSV_USED]⟩
theorem execPfcPauseReceived_keeps (eport : EPort) (prio : BitVec 3) (on : Bool) (s : State) : State.KeepsR execPfcPauseReceived_scope s (execPfcPauseReceived eport prio on s) := by
  unfold execPfcPauseReceived
  (try dsimp only)
  repeat' first
    | with_reducible exact State.Keeps.refl _ _
    | with_reducible assumption
    | with_reducible apply State.KeepsR.next
    | with_reducible apply State.Keeps.ite
    | fail_if_no_progress ((with_reducible apply State.Keeps.upd_cmn); rotate_right; decide)
    | ((with_reducible apply State.Keeps.step (State.cmnPump_keeps ..)); rotate_right; decide)
    | ((with_reducible apply State.Keeps.step (State.inc_keeps ..)); rotate_right; decide)
    | ((with_reducible apply State.Keeps.foldl); rotate_right; intro _ _ _; rotate_left)

def execProbeTimer_scope : Scope := ⟨[.regs, .cmn, .out], some [CMP.TX_FRAMES]⟩
theorem execProbeTimer_keeps (conn : BitVec 20) (path : Fin 8) (s : State) : State.KeepsR execProbeTimer_scope s (execProbeTimer conn path s) := by
  unfold execProbeTimer
  (try dsimp only)
  repeat' first
    | with_reducible exact State.Keeps.refl _ _
    | with_reducible apply State.KeepsR.next
    | with_reducible apply State.KeepsR.ite
    | ((with_reducible apply State.Keeps.step (State.putConn_keeps ..)); rotate_right; decide)
    | ((with_reducible apply State.Keeps.step (State.sendCtl_keeps ..)); rotate_right; decide)
    | split

def execRtoExpiry_scope : Scope := State.connPaths_scope
theorem execRtoExpiry_keeps (conn : BitVec 20) (psn : BitVec 32) (s : State) : State.KeepsR execRtoExpiry_scope s (execRtoExpiry conn psn s) := by
  unfold execRtoExpiry
  (try dsimp only)
  repeat' first
    | with_reducible exact State.Keeps.refl _ _
    | with_reducible apply State.KeepsR.next
    | with_reducible apply State.KeepsR.ite
    | ((with_reducible apply State.Keeps.step (State.resend_keeps ..)); rotate_right; decide)
    | ((with_reducible apply State.Keeps.step (State.putConn_keeps ..)); rotate_right; decide)
    | ((with_reducible apply State.Keeps.step (State.connPaths_keeps ..)); rotate_right; decide)
    | split

def execSublinkDown_scope : Scope := ⟨[.regs], some [CMP.LINK_UP]⟩
theorem execSublinkDown_keeps (eport : EPort) (sublink : Fin 8) (s : State) : State.KeepsR execSublinkDown_scope s (execSublinkDown eport sublink s) := by
  unfold execSublinkDown
  (try dsimp only)
  repeat' first
    | with_reducible exact State.Keeps.refl _ _
    | with_reducible apply State.KeepsR.next
    | ((with_reducible apply State.Keeps.step (State.putBit_keeps ..)); rotate_right; decide)

def execSublinkUp_scope : Scope := ⟨[.regs], some [CMP.LINK_UP]⟩
theorem execSublinkUp_keeps (eport : EPort) (sublink : Fin 8) (s : State) : State.KeepsR execSublinkUp_scope s (execSublinkUp eport sublink s) := by
  unfold execSublinkUp
  (try dsimp only)
  repeat' first
    | with_reducible exact State.Keeps.refl _ _
    | with_reducible apply State.KeepsR.next
    | with_reducible apply State.KeepsR.ite
    | ((with_reducible apply State.Keeps.step (State.putBit_keeps ..)); rotate_right; decide)

def State.connsDrop_scope : Scope := ⟨[.regs, .evf, .recd, .xlt, .hp, .qe, .cmn, .pwr, .out, .free], some [EVF.ALERT_DRV, EVF.TRACE_DROP, HDR.ERR_INFO0, HDR.ERR_INFO1, HDR.ERR_STAT, HDR.EVT_STAT, MGT.ALARM_SENT, PWR.PWR_WAKE_LATCH, PWR.STATE, REC.ALARM_DROP, REC.HEAD_SEQ, REC.LOST_CNT, REC.OVW_CNT, REC.RSV_USED]⟩
theorem State.connsDrop_keeps (s : State) : State.Keeps State.connsDrop_scope s (State.connsDrop s) := by
  unfold State.connsDrop
  (try dsimp only)
  repeat' first
    | with_reducible exact State.Keeps.refl _ _
    | with_reducible assumption
    | with_reducible apply State.Keeps.ite
    | ((with_reducible apply State.Keeps.step (State.connFree_keeps ..)); rotate_right; decide)
    | ((with_reducible apply State.Keeps.foldl); rotate_right; intro _ _ _; rotate_left)

def State.rxRun_scope : Scope := ⟨[.regs, .evf, .recd, .xlt, .hp, .qe, .mov, .tier, .pan, .twn, .cmn, .pwr, .dmc, .flm, .out, .free], some [CIP.AUTH_FAIL_CNT, CIP.HOLD_FULL_CNT, CME.AUTH_FAIL, CME.HOLD_DROP, CME.LATE_PKT, CME.STALE_CLAIM_DROP, CME.VIOL_RX, CME.VIOL_TX, CMP.CE_MARKED, CMP.FCS_ERR, CMP.RX_DROP, CMP.RX_FRAMES, CMP.TX_FRAMES, EVF.ALERT_DRV, EVF.TRACE_DROP, HDR.ERR_INFO0, HDR.ERR_INFO1, HDR.ERR_STAT, HDR.EVT_STAT, HP.POISON_CNT, HP.REFUSE_CNT, MGT.ALARM_SENT, MOV.FAULT_CNT, MOV.LAST_FCLASS, MOV.LAST_FOFF, MOV.LAST_STATUS, MOV.OFFLINE, MOV.STATE, PAN.HIT_CNT, PAN.MISS_CNT, PAN.WB_CNT, PWR.PWR_WAKE_LATCH, PWR.STATE, REC.ALARM_DROP, REC.HEAD_SEQ, REC.LOST_CNT, REC.OVW_CNT, REC.RSV_USED, TIER.MISSED, TIER.ON_TIME, TIER.QUOTA_REFUSE, TIER.SUBST, XLT.BUSY]⟩
theorem State.rxRun_keeps (s : State) (a1 : RxMsg) : State.Keeps State.rxRun_scope s (State.rxRun s a1) := by
  cases a1 with
  | write => exact (State.rxRequest_keeps ..).mono (by decide)
  | masked => exact (State.rxRequest_keeps ..).mono (by decide)
  | read => exact (State.rxRequest_keeps ..).mono (by decide)
  | writeCmp => exact (State.rxResponse_keeps ..).mono (by decide)
  | readResp => exact (State.rxResponse_keeps ..).mono (by decide)
  | ack => exact (State.rxAck_keeps ..).mono (by decide)
  | nack => exact (State.rxNack_keeps ..).mono (by decide)
  | notice => exact (State.rxNotice_keeps ..).mono (by decide)
  | probe => exact (State.rxProbe_keeps ..).mono (by decide)
  | rekeyReady => exact (State.rxRekeyReady_keeps ..).mono (by decide)
  | close => exact (State.rxClose_keeps ..).mono (by decide)

end Sys2Proof.Machine
end

