-- ==== Sys2Proof/Laws/KeepTier.lean ====
section
/-! SUPPORT. What each operation of Machine/Tier.lean keeps: the parts of State it can change are those listed. -/
set_option linter.unusedTactic false
set_option linter.unreachableTactic false
namespace Sys2Proof.Machine

def State.writeBackDone_scope : Scope := ⟨[.regs, .evf, .recd, .hp, .tier, .twn, .pwr, .dmc, .out, .free], some [EVF.ALERT_DRV, EVF.TRACE_DROP, HDR.ERR_INFO0, HDR.ERR_INFO1, HDR.ERR_STAT, HDR.EVT_STAT, MGT.ALARM_SENT, PWR.PWR_WAKE_LATCH, PWR.STATE, REC.ALARM_DROP, REC.HEAD_SEQ, REC.LOST_CNT, REC.OVW_CNT, REC.RSV_USED]⟩
theorem State.writeBackDone_keeps (s : State) (pbn : Nat) (u : Nat) : State.Keeps State.writeBackDone_scope s (State.writeBackDone s pbn u) := by
  unfold State.writeBackDone
  (try dsimp only)
  repeat' first
    | with_reducible exact State.Keeps.refl _ _
    | with_reducible assumption
    | fail_if_no_progress ((with_reducible apply State.Keeps.upd_twn); rotate_right; decide)
    | ((with_reducible apply State.Keeps.step (State.t2Write_keeps ..)); rotate_right; decide)
    | ((with_reducible apply State.Keeps.step (State.setT2Stamp_keeps ..)); rotate_right; decide)
    | ((with_reducible apply State.Keeps.step (State.putBlock_keeps ..)); rotate_right; decide)
    | ((with_reducible apply State.Keeps.step (State.grade_keeps ..)); rotate_right; decide)
    | ((with_reducible apply State.Keeps.step (State.settle_keeps ..)); rotate_right; decide)
    | ((with_reducible apply State.Keeps.step (State.t2PutUnit_keeps ..)); rotate_right; decide)
    | ((with_reducible apply State.Keeps.foldl); rotate_right; intro _ _ _; rotate_left)
    | with_reducible apply State.Keeps.ite
    | ((with_reducible apply State.Keeps.step (State.t2Seal_keeps ..)); rotate_right; decide)
    | ((with_reducible apply State.Keeps.step (State.bitternStale_keeps ..)); rotate_right; decide)
    | ((with_reducible apply State.Keeps.foldl1); rotate_right; intro _ _ _; rotate_left)
    | with_reducible refine State.Keeps.fst ‹_ = (_, _)› ?_
    | split

def execFillUnitDone_scope : Scope := ⟨[.regs, .evf, .recd, .xlt, .hp, .qe, .mov, .tier, .pan, .cmn, .pwr, .dmc, .flm, .out, .free], some [CME.VIOL_TX, CMP.TX_FRAMES, EVF.ALERT_DRV, EVF.TRACE_DROP, HDR.ERR_INFO0, HDR.ERR_INFO1, HDR.ERR_STAT, HDR.EVT_STAT, HP.POISON_CNT, MGT.ALARM_SENT, MOV.FAULT_CNT, MOV.LAST_FCLASS, MOV.LAST_FOFF, MOV.LAST_STATUS, MOV.OFFLINE, MOV.STATE, PAN.HIT_CNT, PAN.MISS_CNT, PAN.WB_CNT, PWR.PWR_WAKE_LATCH, PWR.STATE, REC.ALARM_DROP, REC.HEAD_SEQ, REC.LOST_CNT, REC.OVW_CNT, REC.RSV_USED, TIER.SLOW_PATH]⟩
theorem execFillUnitDone_keeps (pbn : Nat) (unit : Fin 16) (priority : Bool) (s : State) : State.KeepsR execFillUnitDone_scope s (execFillUnitDone pbn unit priority s) := by
  unfold execFillUnitDone
  (try dsimp only)
  repeat' first
    | with_reducible exact State.Keeps.refl _ _
    | with_reducible assumption
    | with_reducible apply State.KeepsR.next
    | with_reducible apply State.KeepsR.ite
    | with_reducible apply State.Keeps.ite
    | ((with_reducible apply State.Keeps.step (State.unitRead_keeps ..)); rotate_right; decide)
    | ((with_reducible apply State.Keeps.step (State.readEnded_keeps ..)); rotate_right; decide)

def execFillUnitFail_scope : Scope := ⟨[.regs, .evf, .recd, .xlt, .hp, .qe, .mov, .tier, .pan, .cmn, .pwr, .dmc, .flm, .out, .free], some [CME.VIOL_TX, CMP.TX_FRAMES, EVF.ALERT_DRV, EVF.TRACE_DROP, HDR.ERR_INFO0, HDR.ERR_INFO1, HDR.ERR_STAT, HDR.EVT_STAT, HP.POISON_CNT, HP.REFUSE_CNT, MGT.ALARM_SENT, MOV.FAULT_CNT, MOV.LAST_FCLASS, MOV.LAST_FOFF, MOV.LAST_STATUS, MOV.OFFLINE, MOV.STATE, PAN.LOCKS_RELEASED, PAN.LOCK_LOST_CNT, PAN.WB_CNT, PWR.PWR_WAKE_LATCH, PWR.STATE, REC.ALARM_DROP, REC.HEAD_SEQ, REC.LOST_CNT, REC.OVW_CNT, REC.RSV_USED, TIER.SLOW_PATH, TIER.SUBST]⟩
theorem execFillUnitFail_keeps (pbn : Nat) (unit : Fin 16) (s : State) : State.KeepsR execFillUnitFail_scope s (execFillUnitFail pbn unit s) := by
  unfold execFillUnitFail
  (try dsimp only)
  repeat' first
    | with_reducible exact State.Keeps.refl _ _
    | with_reducible assumption
    | with_reducible apply State.KeepsR.next
    | with_reducible apply State.Keeps.ite
    | ((with_reducible apply State.Keeps.step (State.startPath_keeps ..)); rotate_right; decide)
    | ((with_reducible apply State.Keeps.step (State.fillFail_keeps ..)); rotate_right; decide)
    | ((with_reducible apply State.Keeps.foldl); rotate_right; intro _ _ _; rotate_left)
    | with_reducible apply State.KeepsR.ite
    | ((with_reducible apply State.Keeps.step (State.directFail_keeps ..)); rotate_right; decide)
    | ((with_reducible apply State.Keeps.step (State.movSettle_keeps ..)); rotate_right; decide)
    | with_reducible refine State.Keeps.fst ‹_ = (_, _)› ?_
    | ((with_reducible apply State.Keeps.step (State.readEnded_keeps ..)); rotate_right; decide)
    | split

def execHeldWriteRelease_scope : Scope := ⟨[.regs, .evf, .recd, .xlt, .hp, .qe, .mov, .tier, .pan, .twn, .cmn, .pwr, .dmc, .flm, .out, .free], some [CME.VIOL_TX, CMP.TX_FRAMES, EVF.ALERT_DRV, EVF.TRACE_DROP, HDR.ERR_INFO0, HDR.ERR_INFO1, HDR.ERR_STAT, HDR.EVT_STAT, HP.REFUSE_CNT, MGT.ALARM_SENT, MOV.FAULT_CNT, MOV.LAST_FCLASS, MOV.LAST_FOFF, MOV.LAST_STATUS, MOV.OFFLINE, MOV.STATE, PAN.WB_CNT, PWR.PWR_WAKE_LATCH, PWR.STATE, REC.ALARM_DROP, REC.HEAD_SEQ, REC.LOST_CNT, REC.OVW_CNT, REC.RSV_USED, TIER.QUOTA_REFUSE]⟩
theorem execHeldWriteRelease_keeps (src : WriteSrc) (s : State) : State.KeepsR execHeldWriteRelease_scope s (execHeldWriteRelease src s) := by
  unfold execHeldWriteRelease
  (try dsimp only)
  repeat' first
    | with_reducible exact State.Keeps.refl _ _
    | with_reducible apply State.KeepsR.next
    | ((with_reducible apply State.Keeps.step (State.releaseOne_keeps ..)); rotate_right; decide)
    | ((with_reducible apply State.Keeps.step (State.movSettle_keeps ..)); rotate_right; decide)
    | ((with_reducible apply State.Keeps.step (State.rxDrain_keeps ..)); rotate_right; decide)
    | split

def execReadDeadline_scope : Scope := State.answer_scope
theorem execReadDeadline_keeps (id : Nat) (s : State) : State.KeepsR execReadDeadline_scope s (execReadDeadline id s) := by
  unfold execReadDeadline
  (try dsimp only)
  repeat' first
    | with_reducible exact State.Keeps.refl _ _
    | with_reducible apply State.KeepsR.next
    | ((with_reducible apply State.Keeps.step (State.answer_keeps ..)); rotate_right; decide)
    | ((with_reducible apply State.Keeps.step (State.movSettle_keeps ..)); rotate_right; decide)
    | split

def execSluiceDue_scope : Scope := ⟨[.regs, .qe, .tier], some [TIER.MISSED, TIER.ON_TIME]⟩
theorem execSluiceDue_keeps (tenant : BitVec 12) (tag : BitVec 32) (idx : Nat) (s : State) : State.KeepsR execSluiceDue_scope s (execSluiceDue tenant tag idx s) := by
  unfold execSluiceDue
  (try dsimp only)
  repeat' first
    | with_reducible exact State.Keeps.refl _ _
    | with_reducible apply State.KeepsR.next
    | with_reducible apply State.KeepsR.ite
    | ((with_reducible apply State.Keeps.step (State.sluMark_keeps ..)); rotate_right; decide)
    | ((with_reducible apply State.Keeps.step (State.sluSettle_keeps ..)); rotate_right; decide)
    | split

def execSluiceEligible_scope : Scope := State.sluEligible_scope
theorem execSluiceEligible_keeps (tenant : BitVec 12) (tag : BitVec 32) (idx : Nat) (s : State) : State.KeepsR execSluiceEligible_scope s (execSluiceEligible tenant tag idx s) := by
  unfold execSluiceEligible
  (try dsimp only)
  repeat' first
    | with_reducible exact State.Keeps.refl _ _
    | with_reducible apply State.KeepsR.next
    | with_reducible apply State.KeepsR.ite
    | ((with_reducible apply State.Keeps.step (State.sluEligible_keeps ..)); rotate_right; decide)
    | split

def execSluiceHoldExpiry_scope : Scope := ⟨[.qe, .tier], some []⟩
theorem execSluiceHoldExpiry_keeps (tenant : BitVec 12) (tag : BitVec 32) (idx : Nat) (s : State) : State.KeepsR execSluiceHoldExpiry_scope s (execSluiceHoldExpiry tenant tag idx s) := by
  unfold execSluiceHoldExpiry
  (try dsimp only)
  repeat' first
    | with_reducible exact State.Keeps.refl _ _
    | with_reducible assumption
    | with_reducible apply State.KeepsR.next
    | with_reducible apply State.KeepsR.ite
    | ((with_reducible apply State.Keeps.step (State.schedMod_keeps ..)); rotate_right; decide)
    | ((with_reducible apply State.Keeps.step (State.sluSettle_keeps ..)); rotate_right; decide)
    | ((with_reducible apply State.Keeps.step (State.raiseSweep_keeps ..)); rotate_right; decide)
    | ((with_reducible apply State.Keeps.step (State.evictBlock_keeps ..)); rotate_right; decide)
    | ((with_reducible apply State.Keeps.foldl); rotate_right; intro _ _ _; rotate_left)
    | with_reducible apply State.Keeps.ite
    | ((with_reducible apply State.Keeps.step (State.evictPin_keeps ..)); rotate_right; decide)
    | ((with_reducible apply State.Keeps.step (State.sluSweep_keeps ..)); rotate_right; decide)
    | ((with_reducible apply State.Keeps.foldl1); rotate_right; intro _ _ _; rotate_left)
    | with_reducible refine State.Keeps.fst ‹_ = (_, _)› ?_
    | split

def execTierReleaseDone_scope : Scope := ⟨[.regs, .evf, .recd, .hp, .tier, .pan, .pwr, .dmc, .flm, .out, .free], some [EVF.ALERT_DRV, EVF.TRACE_DROP, HDR.ERR_INFO0, HDR.ERR_INFO1, HDR.ERR_STAT, HDR.EVT_STAT, MGT.ALARM_SENT, PAN.LOCKS_RELEASED, PAN.LOCK_LOST_CNT, PAN.WB_CNT, PWR.PWR_WAKE_LATCH, PWR.STATE, REC.ALARM_DROP, REC.HEAD_SEQ, REC.LOST_CNT, REC.OVW_CNT, REC.RSV_USED]⟩
theorem execTierReleaseDone_keeps (pbn : Nat) (s : State) : State.KeepsR execTierReleaseDone_scope s (execTierReleaseDone pbn s) := by
  unfold execTierReleaseDone
  (try dsimp only)
  repeat' first
    | with_reducible exact State.Keeps.refl _ _
    | with_reducible apply State.KeepsR.next
    | with_reducible apply State.KeepsR.ite
    | with_reducible apply State.Keeps.ite
    | ((with_reducible apply State.Keeps.step (State.freeBlock_keeps ..)); rotate_right; decide)
    | ((with_reducible apply State.Keeps.step (State.lockEvent_keeps ..)); rotate_right; decide)
    | ((with_reducible apply State.Keeps.step (State.panRelease_keeps ..)); rotate_right; decide)
    | with_reducible assumption
    | ((with_reducible apply State.Keeps.step (State.releaseBlock_keeps ..)); rotate_right; decide)
    | with_reducible refine State.Keeps.fst ‹_ = (_, _)› ?_
    | split

def execTwinPathTimeout_scope : Scope := State.startPath_scope
theorem execTwinPathTimeout_keeps (id : Nat) (s : State) : State.KeepsR execTwinPathTimeout_scope s (execTwinPathTimeout id s) := by
  unfold execTwinPathTimeout
  (try dsimp only)
  repeat' first
    | with_reducible exact State.Keeps.refl _ _
    | with_reducible apply State.KeepsR.next
    | with_reducible apply State.KeepsR.ite
    | ((with_reducible apply State.Keeps.step (State.startPath_keeps ..)); rotate_right; decide)
    | split

def execWriteBackDone_scope : Scope := ⟨[.regs, .evf, .recd, .hp, .tier, .twn, .pwr, .dmc, .flm, .out, .free], some [EVF.ALERT_DRV, EVF.TRACE_DROP, HDR.ERR_INFO0, HDR.ERR_INFO1, HDR.ERR_STAT, HDR.EVT_STAT, MGT.ALARM_SENT, PWR.PWR_WAKE_LATCH, PWR.STATE, REC.ALARM_DROP, REC.HEAD_SEQ, REC.LOST_CNT, REC.OVW_CNT, REC.RSV_USED]⟩
theorem execWriteBackDone_keeps (pbn : Nat) (unit : Fin 16) (s : State) : State.KeepsR execWriteBackDone_scope s (execWriteBackDone pbn unit s) := by
  unfold execWriteBackDone
  (try dsimp only)
  repeat' first
    | with_reducible exact State.Keeps.refl _ _
    | with_reducible apply State.KeepsR.next
    | ((with_reducible apply State.Keeps.step (State.writeBackDone_keeps ..)); rotate_right; decide)

end Sys2Proof.Machine
end

