-- ==== Sys2Proof/Laws/KeepPan.lean ====
section
/-! SUPPORT. What each operation of Machine/Pan.lean keeps: the parts of State it can change are those listed. -/
set_option linter.unusedTactic false
set_option linter.unreachableTactic false
namespace Sys2Proof.Machine

def State.panEnable_scope : Scope := ⟨[.regs], some [PAN.DISABLE, PAN.STATE]⟩
theorem State.panEnable_keeps (s : State) (sl : Nat) : State.Keeps State.panEnable_scope s (State.panEnable s sl) := by
  unfold State.panEnable
  (try dsimp only)
  repeat' first
    | with_reducible exact State.Keeps.refl _ _
    | with_reducible apply State.Keeps.ite
    | ((with_reducible apply State.Keeps.step (State.put_keeps ..)); rotate_right; decide)

def State.panDisable_scope : Scope := ⟨[.regs], some [PAN.DISABLE, PAN.STATE]⟩
theorem State.panDisable_keeps (s : State) (sl : Nat) : State.Keeps State.panDisable_scope s (State.panDisable s sl) := by
  unfold State.panDisable
  (try dsimp only)
  repeat' first
    | with_reducible exact State.Keeps.refl _ _
    | with_reducible apply State.Keeps.ite
    | ((with_reducible apply State.Keeps.step (State.put_keeps ..)); rotate_right; decide)

def State.panAbort_scope : Scope := ⟨[.regs, .pan], some [PAN.BUSY, PAN.RESULT]⟩
theorem State.panAbort_keeps (s : State) : State.Keeps State.panAbort_scope s (State.panAbort s) := by
  unfold State.panAbort
  (try dsimp only)
  repeat' first
    | with_reducible exact State.Keeps.refl _ _
    | with_reducible apply State.Keeps.ite
    | fail_if_no_progress ((with_reducible apply State.Keeps.upd_pan); rotate_right; decide)
    | ((with_reducible apply State.Keeps.step (State.put_keeps ..)); rotate_right; decide)

def State.panStart_scope : Scope := ⟨[.regs, .evf, .recd, .hp, .pan, .pwr, .out, .free], some [EVF.ALERT_DRV, EVF.TRACE_DROP, HDR.ERR_INFO0, HDR.ERR_INFO1, HDR.ERR_STAT, HDR.EVT_STAT, MGT.ALARM_SENT, PAN.BUSY, PAN.LINES_DISCARDED, PAN.LINES_WRITTEN, PAN.LOCKS_RELEASED, PAN.LOCK_REFUSED, PAN.RESULT, PWR.PWR_WAKE_LATCH, PWR.STATE, REC.ALARM_DROP, REC.HEAD_SEQ, REC.LOST_CNT, REC.OVW_CNT, REC.RSV_USED]⟩
theorem State.panStart_keeps (s : State) (op : Nat) : State.Keeps State.panStart_scope s (State.panStart s op) := by
  unfold State.panStart
  (try dsimp only)
  repeat' first
    | with_reducible exact State.Keeps.refl _ _
    | with_reducible apply State.Keeps.ite
    | fail_if_no_progress ((with_reducible apply State.Keeps.upd_pan); rotate_right; decide)
    | ((with_reducible apply State.Keeps.step (State.put_keeps ..)); rotate_right; decide)
    | ((with_reducible apply State.Keeps.step (State.blkErr_keeps ..)); rotate_right; decide)

def State.panDiscard_scope : Scope := ⟨[.regs, .evf, .recd, .hp, .pan, .pwr, .out, .free], some [EVF.ALERT_DRV, EVF.TRACE_DROP, HDR.ERR_INFO0, HDR.ERR_INFO1, HDR.ERR_STAT, HDR.EVT_STAT, MGT.ALARM_SENT, PAN.DISCARD_CNT, PAN.LOCKS_RELEASED, PAN.LOCK_LOST_CNT, PAN.STATE, PWR.PWR_WAKE_LATCH, PWR.STATE, REC.ALARM_DROP, REC.HEAD_SEQ, REC.LOST_CNT, REC.OVW_CNT, REC.RSV_USED]⟩
theorem State.panDiscard_keeps (s : State) (sl : Nat) : State.Keeps State.panDiscard_scope s (State.panDiscard s sl) := by
  unfold State.panDiscard
  (try dsimp only)
  repeat' first
    | with_reducible exact State.Keeps.refl _ _
    | with_reducible assumption
    | with_reducible apply State.Keeps.ite
    | ((with_reducible apply State.Keeps.step (State.lockEvent_keeps ..)); rotate_right; decide)
    | ((with_reducible apply State.Keeps.step (State.inc_keeps ..)); rotate_right; decide)
    | ((with_reducible apply State.Keeps.step (State.misc_keeps ..)); rotate_right; decide)
    | ((with_reducible apply State.Keeps.step (State.put_keeps ..)); rotate_right; decide)
    | ((with_reducible apply State.Keeps.step (State.lockLost_keeps ..)); rotate_right; decide)
    | ((with_reducible apply State.Keeps.step (State.panDrop_keeps ..)); rotate_right; decide)
    | ((with_reducible apply State.Keeps.foldl); rotate_right; intro _ _ _; rotate_left)
    | ((with_reducible apply State.Keeps.step (State.panLose_keeps ..)); rotate_right; decide)

def State.unstall_scope : Scope := ⟨[.regs, .evf, .recd, .xlt, .hp, .qe, .mov, .tier, .pan, .cmn, .pwr, .dmc, .flm, .out, .free], some [CME.VIOL_TX, CMP.TX_FRAMES, EVF.ALERT_DRV, EVF.TRACE_DROP, HDR.ERR_INFO0, HDR.ERR_INFO1, HDR.ERR_STAT, HDR.EVT_STAT, HP.POISON_CNT, MGT.ALARM_SENT, MOV.FAULT_CNT, MOV.LAST_FCLASS, MOV.LAST_FOFF, MOV.LAST_STATUS, MOV.OFFLINE, MOV.STATE, PAN.HIT_CNT, PAN.MISS_CNT, PAN.WB_CNT, PWR.PWR_WAKE_LATCH, PWR.STATE, REC.ALARM_DROP, REC.HEAD_SEQ, REC.LOST_CNT, REC.OVW_CNT, REC.RSV_USED, TIER.SLOW_PATH]⟩
theorem State.unstall_keeps (s : State) : State.Keeps State.unstall_scope s (State.unstall s) := by
  unfold State.unstall
  (try dsimp only)
  repeat' first
    | with_reducible exact State.Keeps.refl _ _
    | with_reducible assumption
    | with_reducible apply State.Keeps.ite
    | ((with_reducible apply State.Keeps.step (State.startRise_keeps ..)); rotate_right; decide)
    | ((with_reducible apply State.Keeps.step (State.setRead_keeps ..)); rotate_right; decide)
    | ((with_reducible apply State.Keeps.step (State.emit_keeps ..)); rotate_right; decide)
    | ((with_reducible apply State.Keeps.step (State.refill_keeps ..)); rotate_right; decide)
    | ((with_reducible apply State.Keeps.step (State.serveUnit_keeps ..)); rotate_right; decide)
    | ((with_reducible apply State.Keeps.foldl); rotate_right; intro _ _ _; rotate_left)
    | ((with_reducible apply State.Keeps.step (State.t2Ask_keeps ..)); rotate_right; decide)
    | ((with_reducible apply State.Keeps.foldl1); rotate_right; intro _ _ _; rotate_left)
    | with_reducible refine State.Keeps.fst ‹_ = (_, _)› ?_
    | split

def State.panLockFell_scope : Scope := ⟨[.regs, .evf, .recd, .hp, .pwr, .out, .free], some [EVF.ALERT_DRV, EVF.TRACE_DROP, HDR.ERR_INFO0, HDR.ERR_INFO1, HDR.ERR_STAT, HDR.EVT_STAT, MGT.ALARM_SENT, PAN.LOCKS_RELEASED, PAN.LOCK_LOST_CNT, PWR.PWR_WAKE_LATCH, PWR.STATE, REC.ALARM_DROP, REC.HEAD_SEQ, REC.LOST_CNT, REC.OVW_CNT, REC.RSV_USED]⟩
theorem State.panLockFell_keeps (s : State) (k : Nat) (x : Line) : State.Keeps State.panLockFell_scope s (State.panLockFell s k x) := by
  unfold State.panLockFell
  (try dsimp only)
  repeat' first
    | with_reducible exact State.Keeps.refl _ _
    | with_reducible apply State.Keeps.ite
    | ((with_reducible apply State.Keeps.step (State.lockLost_keeps ..)); rotate_right; decide)
    | ((with_reducible apply State.Keeps.step (State.lockEvent_keeps ..)); rotate_right; decide)

def State.panCorrected_scope : Scope := ⟨[.regs, .evf, .recd, .hp, .tier, .pan, .pwr, .dmc, .out, .free], some [EVF.ALERT_DRV, EVF.TRACE_DROP, HDR.ERR_INFO0, HDR.ERR_INFO1, HDR.ERR_STAT, HDR.EVT_STAT, MGT.ALARM_SENT, PAN.CE_CNT, PAN.DISABLE, PAN.LOCKS_RELEASED, PAN.LOCK_LOST_CNT, PAN.RETIRED_WAYS, PAN.STATE, PAN.WB_CNT, PWR.PWR_WAKE_LATCH, PWR.STATE, REC.ALARM_DROP, REC.HEAD_SEQ, REC.LOST_CNT, REC.OVW_CNT, REC.RSV_USED]⟩
theorem State.panCorrected_keeps (s : State) (k : Nat) : State.Keeps State.panCorrected_scope s (State.panCorrected s k) := by
  unfold State.panCorrected
  (try dsimp only)
  repeat' first
    | with_reducible exact State.Keeps.refl _ _
    | with_reducible apply State.Keeps.ite
    | fail_if_no_progress ((with_reducible apply State.Keeps.upd_pan); rotate_right; decide)
    | ((with_reducible apply State.Keeps.step (State.inc_keeps ..)); rotate_right; decide)
    | ((with_reducible apply State.Keeps.step (State.blkErr_keeps ..)); rotate_right; decide)
    | ((with_reducible apply State.Keeps.step (State.panWriteBack_keeps ..)); rotate_right; decide)
    | ((with_reducible apply State.Keeps.step (State.panDrop_keeps ..)); rotate_right; decide)
    | ((with_reducible apply State.Keeps.step (State.panLockFell_keeps ..)); rotate_right; decide)
    | ((with_reducible apply State.Keeps.step (State.panDisable_keeps ..)); rotate_right; decide)
    | ((with_reducible apply State.Keeps.step (State.misc_keeps ..)); rotate_right; decide)
    | split

def State.panLockLine_scope : Scope := ⟨[.regs, .tier, .pan, .dmc], some [PAN.LOCK_REFUSED, PAN.WB_CNT]⟩
theorem State.panLockLine_keeps (s : State) (l : Nat) : State.Keeps State.panLockLine_scope s (State.panLockLine s l) := by
  unfold State.panLockLine
  (try dsimp only)
  repeat' first
    | with_reducible exact State.Keeps.refl _ _
    | with_reducible apply State.Keeps.ite
    | ((with_reducible apply State.Keeps.step (State.incMod_keeps ..)); rotate_right; decide)
    | ((with_reducible apply State.Keeps.step (State.panPut_keeps ..)); rotate_right; decide)
    | ((with_reducible apply State.Keeps.step (State.panInstall_keeps ..)); rotate_right; decide)
    | with_reducible assumption
    | with_reducible refine State.Keeps.fst ‹_ = (_, _)› ?_
    | split

def State.panOpWrite_scope : Scope := ⟨[.regs, .tier, .pan, .dmc], some [PAN.LINES_WRITTEN, PAN.WB_CNT]⟩
theorem State.panOpWrite_keeps (s : State) (k : Nat) (x : Line) : State.Keeps State.panOpWrite_scope s (State.panOpWrite s k x) := by
  unfold State.panOpWrite
  (try dsimp only)
  repeat' first
    | with_reducible exact State.Keeps.refl _ _
    | with_reducible apply State.Keeps.ite
    | ((with_reducible apply State.Keeps.step (State.panWriteBack_keeps ..)); rotate_right; decide)
    | ((with_reducible apply State.Keeps.step (State.incMod_keeps ..)); rotate_right; decide)

def State.panUnlocked_scope : Scope := ⟨[.regs], some [PAN.LOCKS_RELEASED, PAN.LOCK_LOST_CNT]⟩
theorem State.panUnlocked_keeps (s : State) (k : Nat) (x : Line) : State.Keeps State.panUnlocked_scope s (State.panUnlocked s k x) := by
  unfold State.panUnlocked
  (try dsimp only)
  repeat' first
    | with_reducible exact State.Keeps.refl _ _
    | with_reducible apply State.Keeps.ite
    | ((with_reducible apply State.Keeps.step (State.lockLost_keeps ..)); rotate_right; decide)
    | ((with_reducible apply State.Keeps.step (State.incMod_keeps ..)); rotate_right; decide)
    | with_reducible assumption

def State.panRun_scope : Scope := ⟨[.regs, .tier, .pan, .dmc], some [PAN.LINES_DISCARDED, PAN.LINES_WRITTEN, PAN.LOCKS_RELEASED, PAN.LOCK_LOST_CNT, PAN.LOCK_REFUSED, PAN.WB_CNT]⟩
theorem State.panRun_keeps (s : State) (o : PanOp) : State.Keeps State.panRun_scope s (State.panRun s o).1 := by
  unfold State.panRun
  (try dsimp only)
  repeat' first
    | with_reducible exact State.Keeps.refl _ _
    | with_reducible assumption
    | with_reducible apply State.Keeps.ite
    | ((with_reducible apply State.Keeps.step (State.panPut_keeps ..)); rotate_right; decide)
    | ((with_reducible apply State.Keeps.step (State.panLockLine_keeps ..)); rotate_right; decide)
    | ((with_reducible apply State.Keeps.step (State.incMod_keeps ..)); rotate_right; decide)
    | ((with_reducible apply State.Keeps.step (State.panUnlocked_keeps ..)); rotate_right; decide)
    | ((with_reducible apply State.Keeps.step (State.panDrop_keeps ..)); rotate_right; decide)
    | ((with_reducible apply State.Keeps.step (State.panOpWrite_keeps ..)); rotate_right; decide)
    | ((with_reducible apply State.Keeps.foldl); rotate_right; intro _ _ _; rotate_left)
    | split

def State.mendAsk_scope : Scope := ⟨[.twn, .out], some []⟩
theorem State.mendAsk_keeps (s : State) (n : Nat) : State.Keeps State.mendAsk_scope s (State.mendAsk s n) := by
  unfold State.mendAsk
  (try dsimp only)
  repeat' first
    | with_reducible exact State.Keeps.refl _ _
    | with_reducible assumption
    | with_reducible apply State.Keeps.ite
    | fail_if_no_progress ((with_reducible apply State.Keeps.upd_twn); rotate_right; decide)
    | ((with_reducible apply State.Keeps.step (State.emit_keeps ..)); rotate_right; decide)

def State.panUncorrectable_scope : Scope := ⟨[.regs, .evf, .recd, .hp, .tier, .pan, .twn, .pwr, .dmc, .out, .free], some [EVF.ALERT_DRV, EVF.TRACE_DROP, HDR.ERR_INFO0, HDR.ERR_INFO1, HDR.ERR_STAT, HDR.EVT_STAT, MGT.ALARM_SENT, PAN.LOCKS_RELEASED, PAN.LOCK_LOST_CNT, PAN.UE_CNT, PAN.WB_CNT, PWR.PWR_WAKE_LATCH, PWR.STATE, REC.ALARM_DROP, REC.HEAD_SEQ, REC.LOST_CNT, REC.OVW_CNT, REC.RSV_USED]⟩
theorem State.panUncorrectable_keeps (s : State) (k : Nat) (x : Line) (h : Nat) : State.Keeps State.panUncorrectable_scope s (State.panUncorrectable s k x h) := by
  unfold State.panUncorrectable
  (try dsimp only)
  repeat' first
    | with_reducible exact State.Keeps.refl _ _
    | with_reducible apply State.Keeps.ite
    | ((with_reducible apply State.Keeps.step (State.panPut_keeps ..)); rotate_right; decide)
    | ((with_reducible apply State.Keeps.step (State.misc_keeps ..)); rotate_right; decide)
    | ((with_reducible apply State.Keeps.step (State.panWriteBack_keeps ..)); rotate_right; decide)
    | ((with_reducible apply State.Keeps.step (State.panDrop_keeps ..)); rotate_right; decide)
    | ((with_reducible apply State.Keeps.step (State.panLockFell_keeps ..)); rotate_right; decide)
    | ((with_reducible apply State.Keeps.step (State.inc_keeps ..)); rotate_right; decide)
    | with_reducible assumption
    | ((with_reducible apply State.Keeps.step (State.mendAsk_keeps ..)); rotate_right; decide)

def State.panClearLines_scope : Scope := ⟨[.regs, .evf, .recd, .hp, .pan, .pwr, .out, .free], some [EVF.ALERT_DRV, EVF.TRACE_DROP, HDR.ERR_INFO0, HDR.ERR_INFO1, HDR.ERR_STAT, HDR.EVT_STAT, MGT.ALARM_SENT, PAN.LOCKS_RELEASED, PAN.LOCK_LOST_CNT, PWR.PWR_WAKE_LATCH, PWR.STATE, REC.ALARM_DROP, REC.HEAD_SEQ, REC.LOST_CNT, REC.OVW_CNT, REC.RSV_USED]⟩
theorem State.panClearLines_keeps (s : State) (sl : Nat) : State.Keeps State.panClearLines_scope s (State.panClearLines s sl) := by
  unfold State.panClearLines
  (try dsimp only)
  repeat' first
    | with_reducible exact State.Keeps.refl _ _
    | with_reducible assumption
    | with_reducible apply State.Keeps.ite
    | fail_if_no_progress ((with_reducible apply State.Keeps.upd_pan); rotate_right; decide)
    | ((with_reducible apply State.Keeps.step (State.lockEvent_keeps ..)); rotate_right; decide)
    | ((with_reducible apply State.Keeps.step (State.lockLost_keeps ..)); rotate_right; decide)
    | ((with_reducible apply State.Keeps.foldl); rotate_right; intro _ _ _; rotate_left)
    | ((with_reducible apply State.Keeps.step (State.panLose_keeps ..)); rotate_right; decide)

def execPanClearingDone_scope : Scope := ⟨[.regs, .evf, .recd, .xlt, .hp, .qe, .mov, .tier, .pan, .cmn, .pwr, .dmc, .flm, .out, .free], some [CME.VIOL_TX, CMP.TX_FRAMES, EVF.ALERT_DRV, EVF.TRACE_DROP, HDR.ERR_INFO0, HDR.ERR_INFO1, HDR.ERR_STAT, HDR.EVT_STAT, HP.POISON_CNT, MGT.ALARM_SENT, MOV.FAULT_CNT, MOV.LAST_FCLASS, MOV.LAST_FOFF, MOV.LAST_STATUS, MOV.OFFLINE, MOV.STATE, PAN.HIT_CNT, PAN.LOCKS_RELEASED, PAN.LOCK_LOST_CNT, PAN.MISS_CNT, PAN.STATE, PAN.WB_CNT, PWR.PWR_WAKE_LATCH, PWR.STATE, REC.ALARM_DROP, REC.HEAD_SEQ, REC.LOST_CNT, REC.OVW_CNT, REC.RSV_USED, TIER.SLOW_PATH]⟩
theorem execPanClearingDone_keeps (slice : Slice) (s : State) : State.KeepsR execPanClearingDone_scope s (execPanClearingDone slice s) := by
  unfold execPanClearingDone
  (try dsimp only)
  repeat' first
    | with_reducible exact State.Keeps.refl _ _
    | with_reducible assumption
    | with_reducible apply State.KeepsR.next
    | with_reducible apply State.KeepsR.ite
    | with_reducible apply State.Keeps.ite
    | ((with_reducible apply State.Keeps.step (State.unstall_keeps ..)); rotate_right; decide)
    | ((with_reducible apply State.Keeps.step (State.movSettle_keeps ..)); rotate_right; decide)
    | ((with_reducible apply State.Keeps.step (State.put_keeps ..)); rotate_right; decide)
    | ((with_reducible apply State.Keeps.step (State.panClearLines_keeps ..)); rotate_right; decide)

def execPanDrainDone_scope : Scope := ⟨[.regs, .tier, .pan, .dmc], some [PAN.STATE, PAN.WB_CNT]⟩
theorem execPanDrainDone_keeps (slice : Slice) (s : State) : State.KeepsR execPanDrainDone_scope s (execPanDrainDone slice s) := by
  unfold execPanDrainDone
  (try dsimp only)
  repeat' first
    | with_reducible exact State.Keeps.refl _ _
    | with_reducible assumption
    | with_reducible apply State.KeepsR.next
    | with_reducible apply State.KeepsR.ite
    | ((with_reducible apply State.Keeps.step (State.panWriteBack_keeps ..)); rotate_right; decide)
    | ((with_reducible apply State.Keeps.step (State.put_keeps ..)); rotate_right; decide)
    | ((with_reducible apply State.Keeps.foldl); rotate_right; intro _ _ _; rotate_left)

def execPanInvalidateDone_scope : Scope := ⟨[.regs, .evf, .recd, .xlt, .hp, .qe, .mov, .tier, .pan, .cmn, .pwr, .dmc, .flm, .out, .free], some [CME.VIOL_TX, CMP.TX_FRAMES, EVF.ALERT_DRV, EVF.TRACE_DROP, HDR.ERR_INFO0, HDR.ERR_INFO1, HDR.ERR_STAT, HDR.EVT_STAT, HP.POISON_CNT, MGT.ALARM_SENT, MOV.FAULT_CNT, MOV.LAST_FCLASS, MOV.LAST_FOFF, MOV.LAST_STATUS, MOV.OFFLINE, MOV.STATE, PAN.HIT_CNT, PAN.LOCKS_RELEASED, PAN.LOCK_LOST_CNT, PAN.MISS_CNT, PAN.STATE, PAN.WB_CNT, PWR.PWR_WAKE_LATCH, PWR.STATE, REC.ALARM_DROP, REC.HEAD_SEQ, REC.LOST_CNT, REC.OVW_CNT, REC.RSV_USED, TIER.SLOW_PATH]⟩
theorem execPanInvalidateDone_keeps (slice : Slice) (s : State) : State.KeepsR execPanInvalidateDone_scope s (execPanInvalidateDone slice s) := by
  unfold execPanInvalidateDone
  (try dsimp only)
  repeat' first
    | with_reducible exact State.Keeps.refl _ _
    | with_reducible assumption
    | with_reducible apply State.KeepsR.next
    | with_reducible apply State.KeepsR.ite
    | with_reducible apply State.Keeps.ite
    | ((with_reducible apply State.Keeps.step (State.unstall_keeps ..)); rotate_right; decide)
    | ((with_reducible apply State.Keeps.step (State.movSettle_keeps ..)); rotate_right; decide)
    | ((with_reducible apply State.Keeps.step (State.put_keeps ..)); rotate_right; decide)
    | ((with_reducible apply State.Keeps.step (State.panClearLines_keeps ..)); rotate_right; decide)

def execPanMaintDone_scope : Scope := ⟨[.regs, .evf, .recd, .hp, .tier, .pan, .pwr, .dmc, .flm, .out, .free], some [EVF.ALERT_DRV, EVF.TRACE_DROP, HDR.ERR_INFO0, HDR.ERR_INFO1, HDR.ERR_STAT, HDR.EVT_STAT, MGT.ALARM_SENT, PAN.BUSY, PAN.LINES_DISCARDED, PAN.LINES_WRITTEN, PAN.LOCKS_RELEASED, PAN.LOCK_LOST_CNT, PAN.LOCK_REFUSED, PAN.RESULT, PAN.WB_CNT, PWR.PWR_WAKE_LATCH, PWR.STATE, REC.ALARM_DROP, REC.HEAD_SEQ, REC.LOST_CNT, REC.OVW_CNT, REC.RSV_USED]⟩
theorem execPanMaintDone_keeps (s : State) : State.KeepsR execPanMaintDone_scope s (execPanMaintDone s) := by
  unfold execPanMaintDone
  (try dsimp only)
  repeat' first
    | with_reducible exact State.Keeps.refl _ _
    | with_reducible apply State.KeepsR.next
    | with_reducible apply State.KeepsR.ite
    | with_reducible apply State.Keeps.ite
    | fail_if_no_progress ((with_reducible apply State.Keeps.upd_pan); rotate_right; decide)
    | ((with_reducible apply State.Keeps.step (State.lockEvent_keeps ..)); rotate_right; decide)
    | ((with_reducible apply State.Keeps.step (State.put_keeps ..)); rotate_right; decide)
    | ((with_reducible apply State.Keeps.step (State.misc_keeps ..)); rotate_right; decide)
    | ((with_reducible apply State.Keeps.step (State.panRun_keeps ..)); rotate_right; decide)
    | with_reducible assumption
    | ((with_reducible apply State.Keeps.step (State.refill_keeps ..)); rotate_right; decide)
    | ((with_reducible apply State.Keeps.foldl1); rotate_right; intro _ _ _; rotate_left)
    | ((with_reducible apply State.Keeps.foldl); rotate_right; intro _ _ _; rotate_left)
    | with_reducible refine State.Keeps.fst ‹_ = (_, _)› ?_
    | split

def execPanScrub_scope : Scope := ⟨[.regs, .evf, .recd, .hp, .tier, .pan, .twn, .pwr, .dmc, .out, .free], some [EVF.ALERT_DRV, EVF.TRACE_DROP, HDR.ERR_INFO0, HDR.ERR_INFO1, HDR.ERR_STAT, HDR.EVT_STAT, MGT.ALARM_SENT, PAN.CE_CNT, PAN.DISABLE, PAN.LOCKS_RELEASED, PAN.LOCK_LOST_CNT, PAN.RETIRED_WAYS, PAN.STATE, PAN.UE_CNT, PAN.WB_CNT, PWR.PWR_WAKE_LATCH, PWR.STATE, REC.ALARM_DROP, REC.HEAD_SEQ, REC.LOST_CNT, REC.OVW_CNT, REC.RSV_USED]⟩
theorem execPanScrub_keeps (slice : Slice) (setIx : Fin 8192) (way : Fin 24) (err : PanErr) (s : State) : State.KeepsR execPanScrub_scope s (execPanScrub slice setIx way err s) := by
  unfold execPanScrub
  (try dsimp only)
  repeat' first
    | with_reducible exact State.Keeps.refl _ _
    | with_reducible apply State.KeepsR.next
    | ((with_reducible apply State.Keeps.step (State.panPut_keeps ..)); rotate_right; decide)
    | ((with_reducible apply State.Keeps.step (State.panLockFell_keeps ..)); rotate_right; decide)
    | ((with_reducible apply State.Keeps.step (State.panUncorrectable_keeps ..)); rotate_right; decide)
    | ((with_reducible apply State.Keeps.step (State.panCorrected_keeps ..)); rotate_right; decide)
    | split

def execTrackerExpiry_scope : Scope := ⟨[.pan], some []⟩
theorem execTrackerExpiry_keeps (req : ReadReq) (s : State) : State.KeepsR execTrackerExpiry_scope s (execTrackerExpiry req s) := by
  unfold execTrackerExpiry
  (try dsimp only)
  repeat' first
    | with_reducible exact State.Keeps.refl _ _
    | with_reducible apply State.KeepsR.next
    | fail_if_no_progress ((with_reducible apply State.Keeps.upd_pan); rotate_right; decide)

end Sys2Proof.Machine
end

