-- ==== Sys2Proof/Laws/KeepStage.lean ====
section
/-! SUPPORT. What each operation of Machine/Stage.lean keeps: the parts of State it can change are those listed. -/
set_option linter.unusedTactic false
set_option linter.unreachableTactic false
namespace Sys2Proof.Machine

def State.liveSet_scope : Scope := ⟨[.regs, .evf, .recd, .hp, .mov, .pwr, .out, .free], none⟩
theorem State.liveSet_keeps (s : State) (p : Page) (f : Fld) (i : Nat) (v : Nat) : State.Keeps State.liveSet_scope s (State.liveSet s p f i v) := by
  unfold State.liveSet
  (try dsimp only)
  repeat' first
    | with_reducible exact State.Keeps.refl _ _
    | with_reducible apply State.Keeps.ite
    | ((with_reducible apply State.Keeps.wrAny); rotate_right; decide)
    | ((with_reducible apply State.Keeps.step (State.panEnable_keeps ..)); rotate_right; decide)
    | ((with_reducible apply State.Keeps.step (State.panDisable_keeps ..)); rotate_right; decide)
    | ((with_reducible apply State.Keeps.step (State.moverOffline_keeps ..)); rotate_right; decide)

def State.liveSetAll_scope : Scope := ⟨[.regs, .evf, .recd, .hp, .mov, .pwr, .out, .free], none⟩
theorem State.liveSetAll_keeps (s : State) (p : Page) (t : Nat → Option Nat) : State.Keeps State.liveSetAll_scope s (State.liveSetAll s p t) := by
  unfold State.liveSetAll
  (try dsimp only)
  repeat' first
    | with_reducible exact State.Keeps.refl _ _
    | with_reducible assumption
    | ((with_reducible apply State.Keeps.step (State.liveSet_keeps ..)); rotate_right; decide)
    | ((with_reducible apply State.Keeps.foldl); rotate_right; intro _ _ _; rotate_left)
    | split

def State.dropShadow_scope : Scope := ⟨[.ctl], some []⟩
theorem State.dropShadow_keeps (s : State) (p : Page) : State.Keeps State.dropShadow_scope s (State.dropShadow s p) := by
  unfold State.dropShadow
  (try dsimp only)
  repeat' first
    | with_reducible exact State.Keeps.refl _ _
    | fail_if_no_progress ((with_reducible apply State.Keeps.upd_ctl); rotate_right; decide)

def State.dropOld_scope : Scope := ⟨[.ctl], some []⟩
theorem State.dropOld_keeps (s : State) (p : Page) : State.Keeps State.dropOld_scope s (State.dropOld s p) := by
  unfold State.dropOld
  (try dsimp only)
  repeat' first
    | with_reducible exact State.Keeps.refl _ _
    | fail_if_no_progress ((with_reducible apply State.Keeps.upd_ctl); rotate_right; decide)

def State.partMod_scope : Scope := ⟨[.ctl], some []⟩
theorem State.partMod_keeps (s : State) (p : Page) (f : Participant → Participant) : State.Keeps State.partMod_scope s (State.partMod s p f) := by
  unfold State.partMod
  (try dsimp only)
  repeat' first
    | with_reducible exact State.Keeps.refl _ _
    | fail_if_no_progress ((with_reducible apply State.Keeps.upd_ctl); rotate_right; decide)

def State.partRolled_scope : Scope := ⟨[.regs, .ctl, .evf, .recd, .hp, .pwr, .out, .free], some [EVF.ALERT_DRV, EVF.TRACE_DROP, HDR.ARM, HDR.ERR_INFO0, HDR.ERR_INFO1, HDR.ERR_STAT, HDR.EVT_STAT, HDR.STAGE_STAT, MGT.ALARM_SENT, PWR.PWR_WAKE_LATCH, PWR.STATE, REC.ALARM_DROP, REC.HEAD_SEQ, REC.LOST_CNT, REC.OVW_CNT, REC.RSV_USED]⟩
theorem State.partRolled_keeps (s : State) (p : Page) : State.Keeps State.partRolled_scope s (State.partRolled s p) := by
  unfold State.partRolled
  (try dsimp only)
  repeat' first
    | with_reducible exact State.Keeps.refl _ _
    | ((with_reducible apply State.Keeps.wr); rotate_right; decide; rotate_right; first | exact Or.inr (by decide) | exact Or.inl rfl)
    | ((with_reducible apply State.Keeps.step (State.occur_keeps ..)); rotate_right; decide)
    | ((with_reducible apply State.Keeps.step (State.dropShadow_keeps ..)); rotate_right; decide)
    | ((with_reducible apply State.Keeps.step (State.dropOld_keeps ..)); rotate_right; decide)
    | ((with_reducible apply State.Keeps.step (State.partMod_keeps ..)); rotate_right; decide)

def State.rollbackRecords_scope : Scope := State.errAlarm_scope
theorem State.rollbackRecords_keeps (s : State) : State.Keeps State.rollbackRecords_scope s (State.rollbackRecords s) := by
  unfold State.rollbackRecords
  (try dsimp only)
  repeat' first
    | with_reducible exact State.Keeps.refl _ _
    | with_reducible assumption
    | ((with_reducible apply State.Keeps.step (State.occur_keeps ..)); rotate_right; decide)
    | ((with_reducible apply State.Keeps.foldl); rotate_right; intro _ _ _; rotate_left)

def State.rollCheck_scope : Scope := ⟨[.regs, .ctl, .evf, .recd, .hp, .pwr, .out, .free], some [EVF.ALERT_DRV, EVF.TRACE_DROP, HDR.ERR_INFO0, HDR.ERR_INFO1, HDR.ERR_STAT, HDR.EVT_STAT, MGT.ALARM_SENT, PWR.PWR_WAKE_LATCH, PWR.STATE, REC.ALARM_DROP, REC.HEAD_SEQ, REC.LOST_CNT, REC.OVW_CNT, REC.RSV_USED, TOP.STAGE_GSTAT]⟩
theorem State.rollCheck_keeps (s : State) : State.Keeps State.rollCheck_scope s (State.rollCheck s) := by
  unfold State.rollCheck
  (try dsimp only)
  repeat' first
    | with_reducible exact State.Keeps.refl _ _
    | with_reducible apply State.Keeps.ite
    | fail_if_no_progress ((with_reducible apply State.Keeps.upd_ctl); rotate_right; decide)
    | ((with_reducible apply State.Keeps.step (State.put_keeps ..)); rotate_right; decide)
    | ((with_reducible apply State.Keeps.step (State.rollbackRecords_keeps ..)); rotate_right; decide)

def State.restorePart_scope : Scope := ⟨[.regs, .ctl, .evf, .recd, .hp, .mov, .pwr, .out, .free], none⟩
theorem State.restorePart_keeps (s : State) (p : Page) : State.Keeps State.restorePart_scope s (State.restorePart s p) := by
  unfold State.restorePart
  (try dsimp only)
  repeat' first
    | with_reducible exact State.Keeps.refl _ _
    | with_reducible apply State.Keeps.ite
    | ((with_reducible apply State.Keeps.wr); rotate_right; decide; rotate_right; first | exact Or.inr (by decide) | exact Or.inl rfl)
    | ((with_reducible apply State.Keeps.step (State.liveSetAll_keeps ..)); rotate_right; decide)
    | ((with_reducible apply State.Keeps.step (State.partRolled_keeps ..)); rotate_right; decide)
    | ((with_reducible apply State.Keeps.step (State.rollCheck_keeps ..)); rotate_right; decide)
    | split

def State.commitDone_scope : Scope := ⟨[.regs, .ctl], some [HDR.ARM, HDR.STAGE_STAT, TOP.STAGE_GSTAT]⟩
theorem State.commitDone_keeps (s : State) : State.Keeps State.commitDone_scope s (State.commitDone s) := by
  unfold State.commitDone
  (try dsimp only)
  repeat' first
    | with_reducible exact State.Keeps.refl _ _
    | with_reducible assumption
    | ((with_reducible apply State.Keeps.wr); rotate_right; decide; rotate_right; first | exact Or.inr (by decide) | exact Or.inl rfl)
    | fail_if_no_progress ((with_reducible apply State.Keeps.upd_ctl); rotate_right; decide)
    | ((with_reducible apply State.Keeps.step (State.dropOld_keeps ..)); rotate_right; decide)
    | ((with_reducible apply State.Keeps.step (State.dropShadow_keeps ..)); rotate_right; decide)
    | ((with_reducible apply State.Keeps.step (State.put_keeps ..)); rotate_right; decide)
    | ((with_reducible apply State.Keeps.foldl); rotate_right; intro _ _ _; rotate_left)

def State.applyPart_scope : Scope := ⟨[.regs, .ctl, .evf, .recd, .hp, .mov, .pwr, .out, .free], none⟩
theorem State.applyPart_keeps (s : State) (p : Page) : State.Keeps State.applyPart_scope s (State.applyPart s p) := by
  unfold State.applyPart
  (try dsimp only)
  repeat' first
    | with_reducible exact State.Keeps.refl _ _
    | with_reducible apply State.Keeps.ite
    | ((with_reducible apply State.Keeps.wr); rotate_right; decide; rotate_right; first | exact Or.inr (by decide) | exact Or.inl rfl)
    | fail_if_no_progress ((with_reducible apply State.Keeps.upd_ctl); rotate_right; decide)
    | ((with_reducible apply State.Keeps.step (State.commitDone_keeps ..)); rotate_right; decide)
    | ((with_reducible apply State.Keeps.step (State.inc_keeps ..)); rotate_right; first | decide | rfl)
    | ((with_reducible apply State.Keeps.step (State.liveSetAll_keeps ..)); rotate_right; decide)
    | ((with_reducible apply State.Keeps.step (State.partMod_keeps ..)); rotate_right; decide)
    | split

def State.applySingle_scope : Scope := ⟨[.regs, .ctl, .evf, .recd, .hp, .mov, .pwr, .out, .free], none⟩
theorem State.applySingle_keeps (s : State) (p : Page) (hit : Nat → Bool) : State.Keeps State.applySingle_scope s (State.applySingle s p hit) := by
  unfold State.applySingle
  (try dsimp only)
  repeat' first
    | with_reducible exact State.Keeps.refl _ _
    | with_reducible assumption
    | with_reducible apply State.Keeps.ite
    | ((with_reducible apply State.Keeps.wr); rotate_right; decide; rotate_right; first | exact Or.inr (by decide) | exact Or.inl rfl)
    | fail_if_no_progress ((with_reducible apply State.Keeps.upd_ctl); rotate_right; decide)
    | ((with_reducible apply State.Keeps.step (State.liveSetAll_keeps ..)); rotate_right; decide)
    | ((with_reducible apply State.Keeps.foldl); rotate_right; intro _ _ _; rotate_left)
    | ((with_reducible apply State.Keeps.foldl1); rotate_right; intro _ _ _; rotate_left)

def State.safePoint_scope : Scope := ⟨[.regs, .ctl, .evf, .recd, .hp, .mov, .pwr, .out, .free], none⟩
theorem State.safePoint_keeps (s : State) (p : Page) : State.Keeps State.safePoint_scope s (State.safePoint s p) := by
  unfold State.safePoint
  (try dsimp only)
  repeat' first
    | with_reducible exact State.Keeps.refl _ _
    | ((with_reducible apply State.Keeps.step (State.restorePart_keeps ..)); rotate_right; decide)
    | ((with_reducible apply State.Keeps.step (State.applyPart_keeps ..)); rotate_right; decide)
    | ((with_reducible apply State.Keeps.step (State.applySingle_keeps ..)); rotate_right; decide)
    | with_reducible assumption
    | with_reducible apply State.Keeps.ite

def State.stageSingle_scope : Scope := State.restorePart_scope
theorem State.stageSingle_keeps (s : State) (p : Page) (k : Nat) (v : Nat) : State.Keeps State.stageSingle_scope s (State.stageSingle s p k v) := by
  unfold State.stageSingle
  (try dsimp only)
  repeat' first
    | with_reducible exact State.Keeps.refl _ _
    | with_reducible apply State.Keeps.ite
    | fail_if_no_progress ((with_reducible apply State.Keeps.upd_ctl); rotate_right; decide)
    | ((with_reducible apply State.Keeps.step (State.safePoint_keeps ..)); rotate_right; decide)

def State.stageShadow_scope : Scope := ⟨[.ctl], some []⟩
theorem State.stageShadow_keeps (s : State) (k : Nat) (v : Nat) : State.Keeps State.stageShadow_scope s (State.stageShadow s k v) := by
  unfold State.stageShadow
  (try dsimp only)
  repeat' first
    | with_reducible exact State.Keeps.refl _ _
    | fail_if_no_progress ((with_reducible apply State.Keeps.upd_ctl); rotate_right; decide)

def State.stageCommit_scope : Scope := State.restorePart_scope
theorem State.stageCommit_keeps (s : State) (e : Nat) : State.Keeps State.stageCommit_scope s (State.stageCommit s e) := by
  unfold State.stageCommit
  (try dsimp only)
  repeat' first
    | with_reducible exact State.Keeps.refl _ _
    | with_reducible assumption
    | with_reducible apply State.Keeps.ite
    | ((with_reducible apply State.Keeps.wr); rotate_right; decide; rotate_right; first | exact Or.inr (by decide) | exact Or.inl rfl)
    | fail_if_no_progress ((with_reducible apply State.Keeps.upd_ctl); rotate_right; decide)
    | ((with_reducible apply State.Keeps.step (State.safePoint_keeps ..)); rotate_right; decide)
    | ((with_reducible apply State.Keeps.step (State.commitDone_keeps ..)); rotate_right; decide)
    | ((with_reducible apply State.Keeps.step (State.put_keeps ..)); rotate_right; first | decide | rfl)
    | ((with_reducible apply State.Keeps.foldl); rotate_right; intro _ _ _; rotate_left)

def State.stageDisarm_scope : Scope := ⟨[.regs, .ctl], some [HDR.ARM, HDR.EPOCH, HDR.STAGE_STAT]⟩
theorem State.stageDisarm_keeps (s : State) (p : Page) (epoch : Nat) : State.Keeps State.stageDisarm_scope s (State.stageDisarm s p epoch) := by
  unfold State.stageDisarm
  (try dsimp only)
  repeat' first
    | with_reducible exact State.Keeps.refl _ _
    | ((with_reducible apply State.Keeps.wr); rotate_right; decide; rotate_right; first | exact Or.inr (by decide) | exact Or.inl rfl)
    | ((with_reducible apply State.Keeps.step (State.dropShadow_keeps ..)); rotate_right; decide)

def State.loadShadow_scope : Scope := ⟨[.ctl], some []⟩
theorem State.loadShadow_keeps (s : State) (p : Page) : State.Keeps State.loadShadow_scope s (State.loadShadow s p) := by
  unfold State.loadShadow
  (try dsimp only)
  repeat' first
    | with_reducible exact State.Keeps.refl _ _
    | fail_if_no_progress ((with_reducible apply State.Keeps.upd_ctl); rotate_right; decide)

def State.assignPoint_scope : Scope := ⟨[.regs, .ctl, .evf, .recd, .hp, .mov, .pwr, .out, .free], none⟩
theorem State.assignPoint_keeps (s : State) : State.Keeps State.assignPoint_scope s (State.assignPoint s) := by
  unfold State.assignPoint
  (try dsimp only)
  repeat' first
    | with_reducible exact State.Keeps.refl _ _
    | with_reducible assumption
    | with_reducible apply State.Keeps.ite
    | ((with_reducible apply State.Keeps.step (State.restorePart_keeps ..)); rotate_right; decide)
    | ((with_reducible apply State.Keeps.step (State.applyPart_keeps ..)); rotate_right; decide)
    | ((with_reducible apply State.Keeps.step (State.applySingle_keeps ..)); rotate_right; decide)

def State.stageArm_scope : Scope := ⟨[.regs, .ctl], some [HDR.ARM, HDR.EPOCH, HDR.STAGE_STAT]⟩
theorem State.stageArm_keeps (s : State) (p : Page) (epoch : Nat) : State.Keeps State.stageArm_scope s (State.stageArm s p epoch) := by
  unfold State.stageArm
  (try dsimp only)
  repeat' first
    | with_reducible exact State.Keeps.refl _ _
    | with_reducible apply State.Keeps.ite
    | ((with_reducible apply State.Keeps.wr); rotate_right; decide; rotate_right; first | exact Or.inr (by decide) | exact Or.inl rfl)
    | ((with_reducible apply State.Keeps.step (State.loadShadow_keeps ..)); rotate_right; decide)

def State.stageUnstick_scope : Scope := ⟨[.regs, .ctl, .evf, .recd, .hp, .pwr, .out, .free], some [EVF.ALERT_DRV, EVF.TRACE_DROP, HDR.APPLIED, HDR.ARM, HDR.EPOCH, HDR.ERR_INFO0, HDR.ERR_INFO1, HDR.ERR_STAT, HDR.EVT_STAT, HDR.STAGE_STAT, MGT.ALARM_SENT, PWR.PWR_WAKE_LATCH, PWR.STATE, REC.ALARM_DROP, REC.HEAD_SEQ, REC.LOST_CNT, REC.OVW_CNT, REC.RSV_USED, TOP.STAGE_GSTAT]⟩
theorem State.stageUnstick_keeps (s : State) (p : Page) (epoch : Nat) : State.Keeps State.stageUnstick_scope s (State.stageUnstick s p epoch) := by
  unfold State.stageUnstick
  (try dsimp only)
  repeat' first
    | with_reducible exact State.Keeps.refl _ _
    | ((with_reducible apply State.Keeps.wr); rotate_right; decide; rotate_right; first | exact Or.inr (by decide) | exact Or.inl rfl)
    | ((with_reducible apply State.Keeps.step (State.rollCheck_keeps ..)); rotate_right; decide)
    | ((with_reducible apply State.Keeps.step (State.stageDisarm_keeps ..)); rotate_right; decide)
    | ((with_reducible apply State.Keeps.step (State.dropOld_keeps ..)); rotate_right; decide)
    | ((with_reducible apply State.Keeps.step (State.partMod_keeps ..)); rotate_right; decide)
    | with_reducible assumption
    | with_reducible apply State.Keeps.ite
    | fail_if_no_progress ((with_reducible apply State.Keeps.upd_ctl); rotate_right; decide)

def State.stageInterrupt_scope : Scope := ⟨[.regs, .ctl, .evf, .recd, .hp, .pwr, .out, .free], some [EVF.ALERT_DRV, EVF.TRACE_DROP, HDR.ARM, HDR.ERR_INFO0, HDR.ERR_INFO1, HDR.ERR_STAT, HDR.EVT_STAT, HDR.STAGE_STAT, MGT.ALARM_SENT, PWR.PWR_WAKE_LATCH, PWR.STATE, REC.ALARM_DROP, REC.HEAD_SEQ, REC.LOST_CNT, REC.OVW_CNT, REC.RSV_USED, TOP.STAGE_GSTAT]⟩
theorem State.stageInterrupt_keeps (s : State) (hit : Page → Bool) : State.Keeps State.stageInterrupt_scope s (State.stageInterrupt s hit) := by
  unfold State.stageInterrupt
  (try dsimp only)
  repeat' first
    | with_reducible exact State.Keeps.refl _ _
    | with_reducible assumption
    | with_reducible apply State.Keeps.ite
    | ((with_reducible apply State.Keeps.wr); rotate_right; decide; rotate_right; first | exact Or.inr (by decide) | exact Or.inl rfl)
    | fail_if_no_progress ((with_reducible apply State.Keeps.upd_ctl); rotate_right; decide)
    | ((with_reducible apply State.Keeps.step (State.put_keeps ..)); rotate_right; decide)
    | ((with_reducible apply State.Keeps.step (State.occur_keeps ..)); rotate_right; decide)
    | ((with_reducible apply State.Keeps.foldl); rotate_right; intro _ _ _; rotate_left)

def execStageApply_scope : Scope := ⟨[.regs, .ctl, .evf, .recd, .hp, .mov, .pwr, .out, .free], none⟩
theorem execStageApply_keeps (page : Page) (s : State) : State.KeepsR execStageApply_scope s (execStageApply page s) := by
  unfold execStageApply
  (try dsimp only)
  repeat' first
    | with_reducible exact State.Keeps.refl _ _
    | with_reducible apply State.KeepsR.next
    | with_reducible apply State.KeepsR.ite
    | ((with_reducible apply State.Keeps.step (State.applyPart_keeps ..)); rotate_right; decide)
    | ((with_reducible apply State.Keeps.step (State.applySingle_keeps ..)); rotate_right; decide)
    | with_reducible assumption
    | with_reducible apply State.Keeps.ite
    | ((with_reducible apply State.Keeps.step (State.safePoint_keeps ..)); rotate_right; decide)

def execStageRestore_scope : Scope := ⟨[.regs, .ctl, .evf, .recd, .hp, .mov, .pwr, .out, .free], none⟩
theorem execStageRestore_keeps (page : Page) (s : State) : State.KeepsR execStageRestore_scope s (execStageRestore page s) := by
  unfold execStageRestore
  (try dsimp only)
  repeat' first
    | with_reducible exact State.Keeps.refl _ _
    | with_reducible apply State.KeepsR.next
    | with_reducible apply State.KeepsR.ite
    | ((with_reducible apply State.Keeps.step (State.restorePart_keeps ..)); rotate_right; decide)
    | with_reducible assumption
    | with_reducible apply State.Keeps.ite

def execStageStuck_scope : Scope := ⟨[.regs, .evf, .recd, .hp, .pwr, .out, .free], some [EVF.ALERT_DRV, EVF.TRACE_DROP, HDR.ERR_INFO0, HDR.ERR_INFO1, HDR.ERR_STAT, HDR.EVT_STAT, HDR.STAGE_STAT, MGT.ALARM_SENT, PWR.PWR_WAKE_LATCH, PWR.STATE, REC.ALARM_DROP, REC.HEAD_SEQ, REC.LOST_CNT, REC.OVW_CNT, REC.RSV_USED, TOP.STAGE_GSTAT]⟩
theorem execStageStuck_keeps (page : Page) (s : State) : State.KeepsR execStageStuck_scope s (execStageStuck page s) := by
  unfold execStageStuck
  (try dsimp only)
  repeat' first
    | with_reducible exact State.Keeps.refl _ _
    | with_reducible apply State.KeepsR.next
    | with_reducible apply State.KeepsR.ite
    | ((with_reducible apply State.Keeps.wr); rotate_right; decide; rotate_right; first | exact Or.inr (by decide) | exact Or.inl rfl)
    | ((with_reducible apply State.Keeps.step (State.put_keeps ..)); rotate_right; decide)
    | ((with_reducible apply State.Keeps.step (State.occur_keeps ..)); rotate_right; decide)
    | split

def execStageTimeoutExpiry_scope : Scope := ⟨[.regs, .ctl, .evf, .recd, .hp, .pwr, .out, .free], some [EVF.ALERT_DRV, EVF.TRACE_DROP, HDR.ARM, HDR.ERR_INFO0, HDR.ERR_INFO1, HDR.ERR_STAT, HDR.EVT_STAT, HDR.STAGE_STAT, MGT.ALARM_SENT, PWR.PWR_WAKE_LATCH, PWR.STATE, REC.ALARM_DROP, REC.HEAD_SEQ, REC.LOST_CNT, REC.OVW_CNT, REC.RSV_USED, TOP.STAGE_GSTAT]⟩
theorem execStageTimeoutExpiry_keeps (s : State) : State.KeepsR execStageTimeoutExpiry_scope s (execStageTimeoutExpiry s) := by
  unfold execStageTimeoutExpiry
  (try dsimp only)
  repeat' first
    | with_reducible exact State.Keeps.refl _ _
    | with_reducible assumption
    | with_reducible apply State.KeepsR.next
    | with_reducible apply State.KeepsR.ite
    | ((with_reducible apply State.Keeps.step (State.rollCheck_keeps ..)); rotate_right; decide)
    | ((with_reducible apply State.Keeps.step (State.partRolled_keeps ..)); rotate_right; decide)
    | ((with_reducible apply State.Keeps.step (State.put_keeps ..)); rotate_right; decide)
    | ((with_reducible apply State.Keeps.foldl); rotate_right; intro _ _ _; rotate_left)

end Sys2Proof.Machine
end

