-- ==== Sys2Proof/Laws/KeepHostPort.lean ====
section
/-! SUPPORT. What each operation of Machine/HostPort.lean keeps: the parts of State it can change are those listed. -/
set_option linter.unusedTactic false
set_option linter.unreachableTactic false
namespace Sys2Proof.Machine

def State.bindPresented_scope : Scope := ⟨[.regs], some [HP.BOUND]⟩
theorem State.bindPresented_keeps (s : State) (p : Nat) (k : Nat) : State.Keeps State.bindPresented_scope s (State.bindPresented s p k) := by
  unfold State.bindPresented
  (try dsimp only)
  repeat' first
    | with_reducible exact State.Keeps.refl _ _
    | with_reducible assumption
    | with_reducible apply State.Keeps.ite
    | ((with_reducible apply State.Keeps.step (State.put_keeps ..)); rotate_right; decide)
    | ((with_reducible apply State.Keeps.foldl1); rotate_right; intro _ _ _; rotate_left)
    | ((with_reducible apply State.Keeps.foldl); rotate_right; intro _ _ _; rotate_left)

def State.functionReset_scope : Scope := ⟨[.hp], some []⟩
theorem State.functionReset_keeps (s : State) (p : Nat) (l : Nat) : State.Keeps State.functionReset_scope s (State.functionReset s p l) := by
  unfold State.functionReset
  (try dsimp only)
  repeat' first
    | with_reducible exact State.Keeps.refl _ _
    | fail_if_no_progress ((with_reducible apply State.Keeps.upd_hp); rotate_right; decide)
    | ((with_reducible apply State.Keeps.step (State.putLd_keeps ..)); rotate_right; decide)

def State.ldDiscard_scope : Scope := ⟨[.hp, .tier], some []⟩
theorem State.ldDiscard_keeps (s : State) (p : Nat) (mine : Nat → Bool) : State.Keeps State.ldDiscard_scope s (State.ldDiscard s p mine) := by
  unfold State.ldDiscard
  (try dsimp only)
  repeat' first
    | with_reducible exact State.Keeps.refl _ _
    | with_reducible assumption
    | with_reducible apply State.Keeps.ite
    | fail_if_no_progress ((with_reducible apply State.Keeps.upd_hp); rotate_right; decide)
    | fail_if_no_progress ((with_reducible apply State.Keeps.upd_tier); rotate_right; decide)
    | fail_if_no_progress ((with_reducible apply State.Keeps.upd); rotate_right; (intro p hp; cases p <;> first | exact absurd (by decide) hp | exact rfl))
    | with_reducible refine State.Keeps.fst ‹_ = (_, _)› ?_
    | split

def State.linkDiscard_scope : Scope := ⟨[.hp, .tier], some []⟩
theorem State.linkDiscard_keeps (s : State) (p : Nat) (k : Nat) : State.Keeps State.linkDiscard_scope s (State.linkDiscard s p k) := by
  unfold State.linkDiscard
  (try dsimp only)
  repeat' first
    | with_reducible exact State.Keeps.refl _ _
    | ((with_reducible apply State.Keeps.step (State.putLink_keeps ..)); rotate_right; decide)
    | fail_if_no_progress ((with_reducible apply State.Keeps.upd); rotate_right; (intro p hp; cases p <;> first | exact absurd (by decide) hp | exact rfl))
    | with_reducible assumption
    | with_reducible apply State.Keeps.ite
    | ((with_reducible apply State.Keeps.step (State.ldDiscard_keeps ..)); rotate_right; decide)

def State.linkFields_scope : Scope := ⟨[.regs], some [HP.CXL, HP.FLIT256, HP.MLD, HP.RATE, HP.UP, HP.WIDTH]⟩
theorem State.linkFields_keeps (s : State) (p : Nat) (k : Nat) : State.Keeps State.linkFields_scope s (State.linkFields s p k) := by
  unfold State.linkFields
  (try dsimp only)
  repeat' first
    | with_reducible exact State.Keeps.refl _ _
    | ((with_reducible apply State.Keeps.step (State.put_keeps ..)); rotate_right; decide)

def State.readRefused_scope : Scope := ⟨[.regs, .evf, .recd, .hp, .pwr, .out, .free], some [EVF.ALERT_DRV, EVF.TRACE_DROP, HDR.ERR_INFO0, HDR.ERR_INFO1, HDR.ERR_STAT, HDR.EVT_STAT, HP.POISON_CNT, HP.REFUSE_CNT, MGT.ALARM_SENT, PWR.PWR_WAKE_LATCH, PWR.STATE, REC.ALARM_DROP, REC.HEAD_SEQ, REC.LOST_CNT, REC.OVW_CNT, REC.RSV_USED]⟩
theorem State.readRefused_keeps (s : State) (p : Nat) (l : Nat) (tag : Nat) (win : Nat) (dpa : Nat) (st : Option Status) : State.Keeps State.readRefused_scope s (State.readRefused s p l tag win dpa st) := by
  unfold State.readRefused
  (try dsimp only)
  repeat' first
    | with_reducible exact State.Keeps.refl _ _
    | ((with_reducible apply State.Keeps.step (State.cxlRefuse_keeps ..)); rotate_right; decide)
    | ((with_reducible apply State.Keeps.step (State.cxlData_keeps ..)); rotate_right; decide)

def State.cxlRead_scope : Scope := ⟨[.regs, .ctl, .evf, .recd, .xlt, .hp, .qe, .mov, .tier, .pan, .twn, .cmn, .pwr, .dmc, .flm, .out, .free], none⟩
theorem State.cxlRead_keeps (s : State) (p : Nat) (l : Nat) (dpa : Nat) (tag : Nat) : State.Keeps State.cxlRead_scope s (State.cxlRead s p l dpa tag) := by
  unfold State.cxlRead
  (try dsimp only)
  repeat' first
    | with_reducible exact State.Keeps.refl _ _
    | with_reducible apply State.Keeps.ite
    | fail_if_no_progress ((with_reducible apply State.Keeps.upd_hp); rotate_right; decide)
    | ((with_reducible apply State.Keeps.step (State.startPath_keeps ..)); rotate_right; decide)
    | ((with_reducible apply State.Keeps.step (State.cxlAnswer_keeps ..)); rotate_right; decide)
    | ((with_reducible apply State.Keeps.step (State.readStart_keeps ..)); rotate_right; decide)
    | ((with_reducible apply State.Keeps.step (State.cxlData_keeps ..)); rotate_right; decide)
    | ((with_reducible apply State.Keeps.step (State.readRefused_keeps ..)); rotate_right; decide)
    | ((with_reducible apply State.Keeps.step (State.resolve_keeps ..)); rotate_right; decide)
    | ((with_reducible apply State.Keeps.step (State.checks_keeps ..)); rotate_right; decide)
    | ((with_reducible apply State.Keeps.step (State.forwardEnd_keeps ..)); rotate_right; decide)
    | ((with_reducible apply State.Keeps.step (State.sendRead_keeps ..)); rotate_right; decide)
    | with_reducible refine State.Keeps.fst ‹_ = (_, _)› ?_
    | with_reducible assumption
    | ((with_reducible apply State.Keeps.step (State.targetCheck_keeps ..)); rotate_right; decide)
    | ((with_reducible apply State.Keeps.step (State.safePoint_keeps ..)); rotate_right; decide)
    | split

def State.writeRefused_scope : Scope := State.cxlRefuse_scope
theorem State.writeRefused_keeps (s : State) (p : Nat) (l : Nat) (tag : Nat) (win : Nat) (dpa : Nat) (st : Option Status) : State.Keeps State.writeRefused_scope s (State.writeRefused s p l tag win dpa st) := by
  unfold State.writeRefused
  (try dsimp only)
  repeat' first
    | with_reducible exact State.Keeps.refl _ _
    | ((with_reducible apply State.Keeps.step (State.cxlRefuse_keeps ..)); rotate_right; decide)
    | ((with_reducible apply State.Keeps.step (State.cmpWait_keeps ..)); rotate_right; decide)

def State.cxlWrite_scope : Scope := ⟨[.regs, .ctl, .evf, .recd, .xlt, .hp, .mov, .tier, .pan, .twn, .cmn, .pwr, .dmc, .flm, .out, .free], none⟩
theorem State.cxlWrite_keeps (s : State) (p : Nat) (l : Nat) (dpa : Nat) (tag : Nat) (data : Sector) (enable : BitVec 64) (poison : Bool) : State.Keeps State.cxlWrite_scope s (State.cxlWrite s p l dpa tag data enable poison) := by
  unfold State.cxlWrite
  (try extract_lets)
  repeat' first
    | with_reducible exact State.Keeps.refl _ _
    | with_reducible apply State.Keeps.ite
    | ((with_reducible apply State.Keeps.step (State.writeRefused_keeps ..)); rotate_right; decide)
    | ((with_reducible apply State.Keeps.step (State.cmpWait_keeps ..)); rotate_right; decide)
    | ((with_reducible apply State.Keeps.step (State.tryWrite_keeps ..)); rotate_right; decide)
    | ((with_reducible apply State.Keeps.step (State.resolve_keeps ..)); rotate_right; decide)
    | ((with_reducible apply State.Keeps.step (State.checks_keeps ..)); rotate_right; decide)
    | ((with_reducible apply State.Keeps.step (State.forwardEnd_keeps ..)); rotate_right; decide)
    | ((with_reducible apply State.Keeps.step (State.forwardNext_keeps ..)); rotate_right; decide)
    | ((with_reducible apply State.Keeps.step (State.emit_keeps ..)); rotate_right; decide)
    | fail_if_no_progress ((with_reducible apply State.Keeps.upd); rotate_right; (intro p hp; cases p <;> first | exact absurd (by decide) hp | exact rfl))
    | with_reducible refine State.Keeps.fst ‹_ = (_, _)› ?_
    | with_reducible assumption
    | fail_if_no_progress ((with_reducible apply State.Keeps.upd_hp); rotate_right; decide)
    | fail_if_no_progress ((with_reducible apply State.Keeps.upd_tier); rotate_right; decide)
    | ((with_reducible apply State.Keeps.step (State.targetCheck_keeps ..)); rotate_right; decide)
    | ((with_reducible apply State.Keeps.step (State.safePoint_keeps ..)); rotate_right; decide)
    | extract_lets
    | split

def State.linkDown_scope : Scope := ⟨[.regs, .evf, .recd, .hp, .tier, .pwr, .out, .free], some [EVF.ALERT_DRV, EVF.TRACE_DROP, HDR.ERR_INFO0, HDR.ERR_INFO1, HDR.ERR_STAT, HDR.EVT_STAT, HP.CXL, HP.FLIT256, HP.MLD, HP.RATE, HP.UP, HP.WIDTH, MGT.ALARM_SENT, PWR.PWR_WAKE_LATCH, PWR.STATE, REC.ALARM_DROP, REC.HEAD_SEQ, REC.LOST_CNT, REC.OVW_CNT, REC.RSV_USED]⟩
theorem State.linkDown_keeps (s : State) (p : Nat) (k : Nat) : State.Keeps State.linkDown_scope s (State.linkDown s p k) := by
  unfold State.linkDown
  (try dsimp only)
  repeat' first
    | with_reducible exact State.Keeps.refl _ _
    | with_reducible apply State.Keeps.ite
    | ((with_reducible apply State.Keeps.step (State.linkDiscard_keeps ..)); rotate_right; decide)
    | ((with_reducible apply State.Keeps.step (State.linkFields_keeps ..)); rotate_right; decide)
    | ((with_reducible apply State.Keeps.step (State.blkErr_keeps ..)); rotate_right; decide)

def State.msixFlush_scope : Scope := ⟨[.hp, .out], some []⟩
theorem State.msixFlush_keeps (s : State) (k : Nat) (p : Nat) (l : Nat) (mgmt : Bool) : State.Keeps State.msixFlush_scope s (State.msixFlush s k p l mgmt) := by
  unfold State.msixFlush
  (try dsimp only)
  repeat' first
    | with_reducible exact State.Keeps.refl _ _
    | with_reducible assumption
    | with_reducible apply State.Keeps.ite
    | fail_if_no_progress ((with_reducible apply State.Keeps.upd_hp); rotate_right; decide)
    | ((with_reducible apply State.Keeps.step (State.emit_keeps ..)); rotate_right; decide)
    | ((with_reducible apply State.Keeps.foldl); rotate_right; intro _ _ _; rotate_left)

def execConfigRequest_scope : Scope := ⟨[.hp, .out], some []⟩
theorem execConfigRequest_keeps (port : Port) (ld : Ld) (mgmt : Bool) (item : ConfigItem) (write : Bool) (data : BitVec 32) (s : State) : State.KeepsR execConfigRequest_scope s (execConfigRequest port ld mgmt item write data s) := by
  unfold execConfigRequest
  (try dsimp only)
  repeat' first
    | with_reducible exact State.Keeps.refl _ _
    | with_reducible apply State.KeepsR.next
    | with_reducible apply State.KeepsR.ite
    | fail_if_no_progress ((with_reducible apply State.Keeps.upd_hp); rotate_right; decide)
    | ((with_reducible apply State.Keeps.step (State.msixFlush_keeps ..)); rotate_right; decide)
    | ((with_reducible apply State.Keeps.step (State.putLd_keeps ..)); rotate_right; decide)
    | ((with_reducible apply State.Keeps.step (State.emit_keeps ..)); rotate_right; decide)
    | with_reducible assumption
    | with_reducible apply State.Keeps.ite
    | split

def execFlr_scope : Scope := ⟨[.hp, .tier, .out], some []⟩
theorem execFlr_keeps (port : Port) (ld : Ld) (s : State) : State.KeepsR execFlr_scope s (execFlr port ld s) := by
  unfold execFlr
  (try dsimp only)
  repeat' first
    | with_reducible exact State.Keeps.refl _ _
    | with_reducible apply State.KeepsR.next
    | ((with_reducible apply State.Keeps.step (State.functionReset_keeps ..)); rotate_right; decide)
    | with_reducible assumption
    | with_reducible apply State.KeepsR.ite
    | with_reducible apply State.Keeps.ite
    | ((with_reducible apply State.Keeps.step (State.ldDiscard_keeps ..)); rotate_right; decide)
    | ((with_reducible apply State.Keeps.step (State.emit_keeps ..)); rotate_right; decide)

def State.gpfCover_scope : Scope := ⟨[.hp, .qe], some []⟩
theorem State.gpfCover_keeps (s : State) (p : Nat) (l : Nat) : State.Keeps State.gpfCover_scope s (State.gpfCover s p l) := by
  unfold State.gpfCover
  (try dsimp only)
  repeat' first
    | with_reducible exact State.Keeps.refl _ _
    | with_reducible assumption
    | with_reducible apply State.Keeps.ite
    | fail_if_no_progress ((with_reducible apply State.Keeps.upd_qe); rotate_right; decide)
    | ((with_reducible apply State.Keeps.step (State.putLd_keeps ..)); rotate_right; decide)

def execGpfPhase1_scope : Scope := ⟨[.hp, .qe, .out], some []⟩
theorem execGpfPhase1_keeps (port : Port) (ld : Ld) (s : State) : State.KeepsR execGpfPhase1_scope s (execGpfPhase1 port ld s) := by
  unfold execGpfPhase1
  (try dsimp only)
  repeat' first
    | with_reducible exact State.Keeps.refl _ _
    | with_reducible apply State.KeepsR.next
    | with_reducible apply State.KeepsR.ite
    | ((with_reducible apply State.Keeps.step (State.putLd_keeps ..)); rotate_right; decide)
    | ((with_reducible apply State.Keeps.step (State.cxlSend_keeps ..)); rotate_right; decide)
    | with_reducible assumption
    | with_reducible apply State.Keeps.ite
    | ((with_reducible apply State.Keeps.step (State.gpfCover_keeps ..)); rotate_right; decide)

def execGpfPhase2_scope : Scope := ⟨[.hp, .qe], some []⟩
theorem execGpfPhase2_keeps (port : Port) (ld : Ld) (s : State) : State.KeepsR execGpfPhase2_scope s (execGpfPhase2 port ld s) := by
  unfold execGpfPhase2
  (try dsimp only)
  repeat' first
    | with_reducible exact State.Keeps.refl _ _
    | with_reducible apply State.KeepsR.next
    | with_reducible apply State.KeepsR.ite
    | ((with_reducible apply State.Keeps.step (State.putLd_keeps ..)); rotate_right; decide)
    | with_reducible assumption
    | with_reducible apply State.Keeps.ite
    | ((with_reducible apply State.Keeps.step (State.gpfCover_keeps ..)); rotate_right; decide)

def execGpfPhase2Complete_scope : Scope := ⟨[.regs, .evf, .recd, .hp, .pwr, .out, .free], some [EVF.ALERT_DRV, EVF.TRACE_DROP, HDR.ERR_INFO0, HDR.ERR_INFO1, HDR.ERR_STAT, HDR.EVT_STAT, MGT.ALARM_SENT, PWR.PWR_WAKE_LATCH, PWR.STATE, REC.ALARM_DROP, REC.HEAD_SEQ, REC.LOST_CNT, REC.OVW_CNT, REC.RSV_USED]⟩
theorem execGpfPhase2Complete_keeps (port : Port) (ld : Ld) (s : State) : State.KeepsR execGpfPhase2Complete_scope s (execGpfPhase2Complete port ld s) := by
  unfold execGpfPhase2Complete
  (try dsimp only)
  repeat' first
    | with_reducible exact State.Keeps.refl _ _
    | with_reducible apply State.KeepsR.next
    | with_reducible apply State.KeepsR.ite
    | with_reducible apply State.Keeps.ite
    | ((with_reducible apply State.Keeps.step (State.cxlSend_keeps ..)); rotate_right; decide)
    | ((with_reducible apply State.Keeps.step (State.logEvent_keeps ..)); rotate_right; decide)
    | ((with_reducible apply State.Keeps.step (State.putLd_keeps ..)); rotate_right; decide)
    | with_reducible assumption
    | with_reducible refine State.Keeps.fst ‹_ = (_, _)› ?_
    | split

def execHotReset_scope : Scope := ⟨[.hp, .tier], some []⟩
theorem execHotReset_keeps (port : Port) (link : Link) (s : State) : State.KeepsR execHotReset_scope s (execHotReset port link s) := by
  unfold execHotReset
  (try dsimp only)
  repeat' first
    | with_reducible exact State.Keeps.refl _ _
    | with_reducible assumption
    | with_reducible apply State.KeepsR.next
    | with_reducible apply State.KeepsR.ite
    | ((with_reducible apply State.Keeps.step (State.linkDiscard_keeps ..)); rotate_right; decide)
    | ((with_reducible apply State.Keeps.step (State.functionReset_keeps ..)); rotate_right; decide)
    | ((with_reducible apply State.Keeps.foldl); rotate_right; intro _ _ _; rotate_left)

def execHpFwdTimeout_scope : Scope := State.forwardEnd_scope
theorem execHpFwdTimeout_keeps (port : Port) (ld : Ld) (tag : BitVec 16) (s : State) : State.KeepsR execHpFwdTimeout_scope s (execHpFwdTimeout port ld tag s) := by
  unfold execHpFwdTimeout
  (try dsimp only)
  repeat' first
    | with_reducible exact State.Keeps.refl _ _
    | with_reducible apply State.KeepsR.next
    | ((with_reducible apply State.Keeps.step (State.forwardEnd_keeps ..)); rotate_right; decide)
    | ((with_reducible apply State.Keeps.step (State.modConn_keeps ..)); rotate_right; decide)
    | split

def execLinkDown_scope : Scope := State.linkDown_scope
theorem execLinkDown_keeps (port : Port) (link : Link) (s : State) : State.KeepsR execLinkDown_scope s (execLinkDown port link s) := by
  unfold execLinkDown
  (try dsimp only)
  repeat' first
    | with_reducible exact State.Keeps.refl _ _
    | with_reducible apply State.KeepsR.next
    | ((with_reducible apply State.Keeps.step (State.linkDown_keeps ..)); rotate_right; decide)

def execLinkTrainingDone_scope : Scope := ⟨[.regs, .evf, .recd, .hp, .pwr, .out, .free], some [EVF.ALERT_DRV, EVF.TRACE_DROP, HDR.ERR_INFO0, HDR.ERR_INFO1, HDR.ERR_STAT, HDR.EVT_STAT, HP.BOUND, HP.CXL, HP.FLIT256, HP.MLD, HP.RATE, HP.UP, HP.WIDTH, MGT.ALARM_SENT, PWR.PWR_WAKE_LATCH, PWR.STATE, REC.ALARM_DROP, REC.HEAD_SEQ, REC.LOST_CNT, REC.OVW_CNT, REC.RSV_USED]⟩
theorem execLinkTrainingDone_keeps (port : Port) (link : Link) (cxl : Bool) (flit256 : Bool) (mld : Bool) (rate : BitVec 4) (width : BitVec 5) (s : State) : State.KeepsR execLinkTrainingDone_scope s (execLinkTrainingDone port link cxl flit256 mld rate width s) := by
  unfold execLinkTrainingDone
  (try dsimp only)
  repeat' first
    | with_reducible exact State.Keeps.refl _ _
    | with_reducible apply State.KeepsR.next
    | with_reducible apply State.KeepsR.ite
    | with_reducible apply State.Keeps.ite
    | fail_if_no_progress ((with_reducible apply State.Keeps.upd_hp); rotate_right; decide)
    | ((with_reducible apply State.Keeps.step (State.blkErr_keeps ..)); rotate_right; decide)
    | ((with_reducible apply State.Keeps.step (State.put_keeps ..)); rotate_right; decide)
    | with_reducible assumption
    | ((with_reducible apply State.Keeps.step (State.bindPresented_keeps ..)); rotate_right; decide)

def execMemEnable_scope : Scope := ⟨[.hp, .out], some []⟩
theorem execMemEnable_keeps (port : Port) (ld : Ld) (value : Bool) (s : State) : State.KeepsR execMemEnable_scope s (execMemEnable port ld value s) := by
  unfold execMemEnable
  (try dsimp only)
  repeat' first
    | with_reducible exact State.Keeps.refl _ _
    | with_reducible apply State.KeepsR.next
    | with_reducible apply State.KeepsR.ite
    | ((with_reducible apply State.Keeps.step (State.putLd_keeps ..)); rotate_right; decide)
    | with_reducible assumption
    | with_reducible apply State.Keeps.ite
    | ((with_reducible apply State.Keeps.step (State.emit_keeps ..)); rotate_right; decide)

def execMeminv_scope : Scope := ⟨[.out], some []⟩
theorem execMeminv_keeps (port : Port) (ld : Ld) (_dpa : BitVec 64) (tag : BitVec 16) (s : State) : State.KeepsR execMeminv_scope s (execMeminv port ld _dpa tag s) := by
  unfold execMeminv
  (try dsimp only)
  repeat' first
    | with_reducible exact State.Keeps.refl _ _
    | with_reducible apply State.KeepsR.next
    | with_reducible apply State.Keeps.ite
    | ((with_reducible apply State.Keeps.step (State.cxlSend_keeps ..)); rotate_right; decide)

def execMeminvnt_scope : Scope := ⟨[.out], some []⟩
theorem execMeminvnt_keeps (port : Port) (ld : Ld) (_dpa : BitVec 64) (tag : BitVec 16) (s : State) : State.KeepsR execMeminvnt_scope s (execMeminvnt port ld _dpa tag s) := by
  unfold execMeminvnt
  (try dsimp only)
  repeat' first
    | with_reducible exact State.Keeps.refl _ _
    | with_reducible apply State.KeepsR.next
    | with_reducible apply State.Keeps.ite
    | ((with_reducible apply State.Keeps.step (State.cxlSend_keeps ..)); rotate_right; decide)

def execMemrd_scope : Scope := State.cxlRead_scope
theorem execMemrd_keeps (port : Port) (ld : Ld) (dpa : BitVec 64) (tag : BitVec 16) (s : State) : State.KeepsR execMemrd_scope s (execMemrd port ld dpa tag s) := by
  unfold execMemrd
  (try dsimp only)
  repeat' first
    | with_reducible exact State.Keeps.refl _ _
    | with_reducible apply State.KeepsR.next
    | ((with_reducible apply State.Keeps.step (State.cxlRead_keeps ..)); rotate_right; decide)

def execMemrddata_scope : Scope := State.cxlRead_scope
theorem execMemrddata_keeps (port : Port) (ld : Ld) (dpa : BitVec 64) (tag : BitVec 16) (s : State) : State.KeepsR execMemrddata_scope s (execMemrddata port ld dpa tag s) := by
  unfold execMemrddata
  (try dsimp only)
  repeat' first
    | with_reducible exact State.Keeps.refl _ _
    | with_reducible apply State.KeepsR.next
    | ((with_reducible apply State.Keeps.step (State.cxlRead_keeps ..)); rotate_right; decide)

def execMemspecrd_scope : Scope := ⟨[.regs, .evf, .recd, .xlt, .hp, .tier, .pan, .pwr, .dmc, .flm, .out, .free], some [EVF.ALERT_DRV, EVF.TRACE_DROP, HDR.ERR_INFO0, HDR.ERR_INFO1, HDR.ERR_STAT, HDR.EVT_STAT, MGT.ALARM_SENT, PAN.WB_CNT, PWR.PWR_WAKE_LATCH, PWR.STATE, REC.ALARM_DROP, REC.HEAD_SEQ, REC.LOST_CNT, REC.OVW_CNT, REC.RSV_USED]⟩
theorem execMemspecrd_keeps (port : Port) (ld : Ld) (dpa : BitVec 64) (s : State) : State.KeepsR execMemspecrd_scope s (execMemspecrd port ld dpa s) := by
  unfold execMemspecrd
  (try dsimp only)
  repeat' first
    | with_reducible exact State.Keeps.refl _ _
    | with_reducible apply State.KeepsR.next
    | with_reducible apply State.KeepsR.ite
    | ((with_reducible apply State.Keeps.step (State.startRise_keeps ..)); rotate_right; decide)
    | ((with_reducible apply State.Keeps.step (State.resolve_keeps ..)); rotate_right; decide)
    | ((with_reducible apply State.Keeps.step (State.checks_keeps ..)); rotate_right; decide)
    | with_reducible refine State.Keeps.fst ‹_ = (_, _)› ?_
    | with_reducible assumption
    | with_reducible apply State.Keeps.ite
    | ((with_reducible apply State.Keeps.step (State.targetCheck_keeps ..)); rotate_right; decide)
    | (obtain ⟨_, _, h⟩ := Option.map_eq_some_iff.mp ‹Option.map _ _ = some _›; exact State.Keeps.fst h (State.Keeps.step (State.targetCheck_keeps ..) (State.Keeps.refl _ _) (by decide)))
    | split

def execMemwr_scope : Scope := State.cxlWrite_scope
theorem execMemwr_keeps (port : Port) (ld : Ld) (dpa : BitVec 64) (data : Sector) (poison : Bool) (tag : BitVec 16) (s : State) : State.KeepsR execMemwr_scope s (execMemwr port ld dpa data poison tag s) := by
  unfold execMemwr
  (try dsimp only)
  repeat' first
    | with_reducible exact State.Keeps.refl _ _
    | with_reducible apply State.KeepsR.next
    | ((with_reducible apply State.Keeps.step (State.cxlWrite_keeps ..)); rotate_right; decide)

def execMemwrCmp_scope : Scope := ⟨[.hp, .out], some []⟩
theorem execMemwrCmp_keeps (port : Port) (ld : Ld) (tag : BitVec 16) (s : State) : State.KeepsR execMemwrCmp_scope s (execMemwrCmp port ld tag s) := by
  unfold execMemwrCmp
  (try dsimp only)
  repeat' first
    | with_reducible exact State.Keeps.refl _ _
    | with_reducible apply State.KeepsR.next
    | fail_if_no_progress ((with_reducible apply State.Keeps.upd_hp); rotate_right; decide)
    | ((with_reducible apply State.Keeps.step (State.cxlSend_keeps ..)); rotate_right; decide)
    | split

def execMemwrptl_scope : Scope := State.cxlWrite_scope
theorem execMemwrptl_keeps (port : Port) (ld : Ld) (dpa : BitVec 64) (data : Sector) (enable : BitVec 64) (poison : Bool) (tag : BitVec 16) (s : State) : State.KeepsR execMemwrptl_scope s (execMemwrptl port ld dpa data enable poison tag s) := by
  unfold execMemwrptl
  (try dsimp only)
  repeat' first
    | with_reducible exact State.Keeps.refl _ _
    | with_reducible apply State.KeepsR.next
    | ((with_reducible apply State.Keeps.step (State.cxlWrite_keeps ..)); rotate_right; decide)

def execMsixUnmask_scope : Scope := ⟨[.hp, .out], some []⟩
theorem execMsixUnmask_keeps (port : Port) (ld : Ld) (mgmt : Bool) (vector : BitVec 11) (s : State) : State.KeepsR execMsixUnmask_scope s (execMsixUnmask port ld mgmt vector s) := by
  unfold execMsixUnmask
  (try dsimp only)
  repeat' first
    | with_reducible exact State.Keeps.refl _ _
    | with_reducible apply State.KeepsR.next
    | fail_if_no_progress ((with_reducible apply State.Keeps.upd_hp); rotate_right; decide)
    | ((with_reducible apply State.Keeps.step (State.msixFlush_keeps ..)); rotate_right; decide)

def execPerstAssert_scope : Scope := ⟨[.regs, .hp, .tier], some [HP.CXL, HP.FLIT256, HP.MLD, HP.RATE, HP.UP, HP.WIDTH]⟩
theorem execPerstAssert_keeps (port : Port) (link : Link) (s : State) : State.KeepsR execPerstAssert_scope s (execPerstAssert port link s) := by
  unfold execPerstAssert
  (try dsimp only)
  repeat' first
    | with_reducible exact State.Keeps.refl _ _
    | with_reducible assumption
    | with_reducible apply State.KeepsR.next
    | ((with_reducible apply State.Keeps.step (State.putLink_keeps ..)); rotate_right; decide)
    | ((with_reducible apply State.Keeps.step (State.linkDiscard_keeps ..)); rotate_right; decide)
    | ((with_reducible apply State.Keeps.step (State.linkFields_keeps ..)); rotate_right; decide)
    | ((with_reducible apply State.Keeps.step (State.functionReset_keeps ..)); rotate_right; decide)
    | ((with_reducible apply State.Keeps.foldl); rotate_right; intro _ _ _; rotate_left)

def execPerstDeassert_scope : Scope := ⟨[.hp], some []⟩
theorem execPerstDeassert_keeps (port : Port) (link : Link) (s : State) : State.KeepsR execPerstDeassert_scope s (execPerstDeassert port link s) := by
  unfold execPerstDeassert
  (try dsimp only)
  repeat' first
    | with_reducible exact State.Keeps.refl _ _
    | with_reducible apply State.KeepsR.next
    | ((with_reducible apply State.Keeps.step (State.putLink_keeps ..)); rotate_right; decide)

def execViralReceived_scope : Scope := ⟨[.regs, .evf, .recd, .hp, .pwr, .out, .free], some [EVF.ALERT_DRV, EVF.TRACE_DROP, HDR.ERR_INFO0, HDR.ERR_INFO1, HDR.ERR_STAT, HDR.EVT_STAT, MGT.ALARM_SENT, PWR.PWR_WAKE_LATCH, PWR.STATE, REC.ALARM_DROP, REC.HEAD_SEQ, REC.LOST_CNT, REC.OVW_CNT, REC.RSV_USED]⟩
theorem execViralReceived_keeps (port : Port) (link : Link) (own : Bool) (s : State) : State.KeepsR execViralReceived_scope s (execViralReceived port link own s) := by
  unfold execViralReceived
  (try dsimp only)
  repeat' first
    | with_reducible exact State.Keeps.refl _ _
    | with_reducible assumption
    | with_reducible apply State.KeepsR.next
    | with_reducible apply State.KeepsR.ite
    | with_reducible apply State.Keeps.ite
    | ((with_reducible apply State.Keeps.step (State.emit_keeps ..)); rotate_right; decide)
    | ((with_reducible apply State.Keeps.step (State.putLink_keeps ..)); rotate_right; decide)
    | ((with_reducible apply State.Keeps.step (State.misc_keeps ..)); rotate_right; decide)
    | ((with_reducible apply State.Keeps.foldl); rotate_right; intro _ _ _; rotate_left)

end Sys2Proof.Machine
end

