-- ==== Sys2Proof/Laws/KeepSys.lean ====
section
/-! SUPPORT. What each operation of Machine/Sys.lean keeps: the parts of State it can change are those listed. -/
set_option linter.unusedTactic false
set_option linter.unreachableTactic false
namespace Sys2Proof.Machine

def State.sysRaise_scope : Scope := ⟨[.tier, .dmc], some []⟩
theorem State.sysRaise_keeps (s : State) (n : Nat) : State.Keeps State.sysRaise_scope s (State.sysRaise s n) := by
  unfold State.sysRaise
  (try dsimp only)
  repeat' first
    | with_reducible exact State.Keeps.refl _ _
    | with_reducible assumption
    | with_reducible apply State.Keeps.ite
    | ((with_reducible apply State.Keeps.step (State.frameWrite_keeps ..)); rotate_right; decide)
    | ((with_reducible apply State.Keeps.step (State.putBlock_keeps ..)); rotate_right; decide)
    | ((with_reducible apply State.Keeps.foldl1); rotate_right; intro _ _ _; rotate_left)
    | ((with_reducible apply State.Keeps.foldl); rotate_right; intro _ _ _; rotate_left)

def State.sysWrite_scope : Scope := ⟨[.regs, .tier, .pan, .twn, .dmc, .out], some [PAN.WB_CNT]⟩
theorem State.sysWrite_keeps (s : State) (n : Nat) (v : SectorVal) : State.Keeps State.sysWrite_scope s (State.sysWrite s n v) := by
  unfold State.sysWrite
  (try dsimp only)
  repeat' first
    | with_reducible exact State.Keeps.refl _ _
    | with_reducible assumption
    | with_reducible apply State.Keeps.ite
    | ((with_reducible apply State.Keeps.step (State.sysRaise_keeps ..)); rotate_right; decide)
    | ((with_reducible apply State.Keeps.step (State.putBlock_keeps ..)); rotate_right; decide)
    | ((with_reducible apply State.Keeps.step (State.panWrite_keeps ..)); rotate_right; decide)
    | ((with_reducible apply State.Keeps.step (State.mirrorSend_keeps ..)); rotate_right; decide)
    | with_reducible refine State.Keeps.fst ‹_ = (_, _)› ?_
    | split

def State.sysSync_scope : Scope := ⟨[.regs, .tier, .pan, .twn, .dmc, .out], some [PAN.WB_CNT]⟩
theorem State.sysSync_keeps (s : State) : State.Keeps State.sysSync_scope s (State.sysSync s) := by
  unfold State.sysSync
  (try dsimp only)
  repeat' first
    | with_reducible exact State.Keeps.refl _ _
    | with_reducible assumption
    | with_reducible apply State.Keeps.ite
    | ((with_reducible apply State.Keeps.step (State.sysWrite_keeps ..)); rotate_right; decide)
    | ((with_reducible apply State.Keeps.foldl1); rotate_right; intro _ _ _; rotate_left)
    | ((with_reducible apply State.Keeps.foldl); rotate_right; intro _ _ _; rotate_left)

def State.tableLost_scope : Scope := ⟨[.regs, .evf, .recd, .xlt, .hp, .qe, .tier, .pwr, .out, .free], some [EVF.ALERT_DRV, EVF.TRACE_DROP, HDR.ERR_INFO0, HDR.ERR_INFO1, HDR.ERR_STAT, HDR.EVT_STAT, MGT.ALARM_SENT, PWR.PWR_WAKE_LATCH, PWR.STATE, REC.ALARM_DROP, REC.HEAD_SEQ, REC.LOST_CNT, REC.OVW_CNT, REC.RSV_USED]⟩
theorem State.tableLost_keeps (s : State) (w : Nat) : State.Keeps State.tableLost_scope s (State.tableLost s w) := by
  unfold State.tableLost
  (try dsimp only)
  repeat' first
    | with_reducible exact State.Keeps.refl _ _
    | with_reducible assumption
    | with_reducible apply State.Keeps.ite
    | fail_if_no_progress ((with_reducible apply State.Keeps.upd_qe); rotate_right; decide)
    | fail_if_no_progress ((with_reducible apply State.Keeps.upd_tier); rotate_right; decide)
    | fail_if_no_progress ((with_reducible apply State.Keeps.upd_xlt); rotate_right; decide)
    | fail_if_no_progress ((with_reducible apply State.Keeps.upd); rotate_right; (intro p hp; cases p <;> first | exact absurd (by decide) hp | exact rfl))
    | ((with_reducible apply State.Keeps.step (State.misc_keeps ..)); rotate_right; decide)

end Sys2Proof.Machine
end

