-- ==== Sys2Proof/Laws/KeepMem.lean ====
section
/-! SUPPORT. What each operation of Machine/Mem.lean keeps: the parts of State it can change are those listed. -/
set_option linter.unusedTactic false
set_option linter.unreachableTactic false
namespace Sys2Proof.Machine

def State.memSeen_scope : Scope := ⟨[.tier], some []⟩
theorem State.memSeen_keeps (s : State) (a : Nat) (n : Nat) : State.Keeps State.memSeen_scope s (State.memSeen s a n) := by
  unfold State.memSeen
  (try dsimp only)
  repeat' first
    | with_reducible exact State.Keeps.refl _ _
    | with_reducible assumption
    | with_reducible apply State.Keeps.ite
    | fail_if_no_progress ((with_reducible apply State.Keeps.upd_tier); rotate_right; decide)

def State.setByteIn_scope : Scope := ⟨[.regs, .tier, .pan, .twn, .dmc, .flm, .mem, .out], some [PAN.WB_CNT]⟩
theorem State.setByteIn_keeps (s : State) (a : Nat) (b : Byte) (o : Option Nat) : State.Keeps State.setByteIn_scope s (State.setByteIn s a b o) := by
  cases o with
  | some n =>
    refine State.Keeps.ite ?_ ?_
    · exact State.Keeps.step (State.sysWrite_keeps ..) (State.Keeps.refl _ _) (by decide)
    · exact State.Keeps.step (State.secRewrite_keeps ..) (State.Keeps.refl _ _) (by decide)
  | none =>
    refine State.Keeps.gen (State.Keeps.refl _ _) (fun p hp => ?_) (by first | exact fun _ fs _ => State.fieldsBut.refl rfl fs | exact fun _ => State.anyFields rfl) id (fun h => Memory.wf_set h a b)
    cases p <;> first | exact absurd (by decide) hp | exact rfl

def State.setByte_scope : Scope := State.setByteIn_scope
theorem State.setByte_keeps (s : State) (a : Nat) (b : Byte) : State.Keeps State.setByte_scope s (State.setByte s a b) := by
  unfold State.setByte
  exact State.setByteIn_keeps ..

def State.memStore_scope : Scope := State.setByteIn_scope
theorem State.memStore_keeps (s : State) (a : Nat) (l : List Byte) : State.Keeps State.memStore_scope s (State.memStore s a l) := by
  induction l generalizing s a with
  | nil => exact State.Keeps.refl _ _
  | cons b r ih => exact State.Keeps.step (ih ..) (State.Keeps.step (State.setByte_keeps ..) (State.Keeps.refl _ _) (by decide)) (by decide)

def State.memWrite_scope : Scope := State.setByteIn_scope
theorem State.memWrite_keeps (s : State) (a : Nat) (l : List Byte) : State.Keeps State.memWrite_scope s (State.memWrite s a l) := by
  unfold State.memWrite
  (try dsimp only)
  repeat' first
    | with_reducible exact State.Keeps.refl _ _
    | with_reducible apply State.Keeps.ite
    | ((with_reducible apply State.Keeps.step (State.memAccept_keeps ..)); rotate_right; decide)
    | ((with_reducible apply State.Keeps.step (State.memStore_keeps ..)); rotate_right; decide)

end Sys2Proof.Machine
end

