-- ==== Sys2Proof/Laws/KeepDmc.lean ====
section
/-! SUPPORT. What each operation of Machine/Dmc.lean keeps: the parts of State it can change are those listed. -/
set_option linter.unusedTactic false
set_option linter.unreachableTactic false
namespace Sys2Proof.Machine

def State.dmcStop_scope : Scope := ⟨[.regs, .ctl, .evf, .recd, .hp, .mov, .pwr, .dmc, .out, .free], none⟩
theorem State.dmcStop_keeps (s : State) (c : Nat) (st : Nat) : State.Keeps State.dmcStop_scope s (State.dmcStop s c st) := by
  unfold State.dmcStop
  (try dsimp only)
  repeat' first
    | with_reducible exact State.Keeps.refl _ _
    | with_reducible assumption
    | with_reducible apply State.Keeps.ite
    | fail_if_no_progress ((with_reducible apply State.Keeps.upd_dmc); rotate_right; decide)
    | ((with_reducible apply State.Keeps.step (State.put_keeps ..)); rotate_right; decide)
    | ((with_reducible apply State.Keeps.step (State.safePoint_keeps ..)); rotate_right; decide)

def State.retrainAbandon_scope : Scope := ⟨[.regs, .dmc], some [DMC.STATE]⟩
theorem State.retrainAbandon_keeps (s : State) (hit : Nat → Bool) : State.Keeps State.retrainAbandon_scope s (State.retrainAbandon s hit) := by
  unfold State.retrainAbandon
  (try dsimp only)
  repeat' first
    | with_reducible exact State.Keeps.refl _ _
    | with_reducible assumption
    | with_reducible apply State.Keeps.ite
    | fail_if_no_progress ((with_reducible apply State.Keeps.upd_dmc); rotate_right; decide)
    | ((with_reducible apply State.Keeps.step (State.put_keeps ..)); rotate_right; decide)
    | ((with_reducible apply State.Keeps.foldl); rotate_right; intro _ _ _; rotate_left)

def State.dmcExclude_scope : Scope := ⟨[.regs, .ctl, .evf, .recd, .hp, .mov, .pwr, .dmc, .out, .free], none⟩
theorem State.dmcExclude_keeps (s : State) (c : Nat) (step : Nat) : State.Keeps State.dmcExclude_scope s (State.dmcExclude s c step) := by
  unfold State.dmcExclude
  (try dsimp only)
  repeat' first
    | with_reducible exact State.Keeps.refl _ _
    | fail_if_no_progress ((with_reducible apply State.Keeps.upd_dmc); rotate_right; decide)
    | ((with_reducible apply State.Keeps.step (State.blkErr_keeps ..)); rotate_right; decide)
    | ((with_reducible apply State.Keeps.step (State.put_keeps ..)); rotate_right; decide)
    | with_reducible assumption
    | with_reducible apply State.Keeps.ite
    | ((with_reducible apply State.Keeps.step (State.dmcStop_keeps ..)); rotate_right; decide)

def State.dmcCold_scope : Scope := ⟨[.dmc, .out], some []⟩
theorem State.dmcCold_keeps (s : State) (c : Nat) (retried : Bool) : State.Keeps State.dmcCold_scope s (State.dmcCold s c retried) := by
  unfold State.dmcCold
  (try dsimp only)
  repeat' first
    | with_reducible exact State.Keeps.refl _ _
    | with_reducible assumption
    | with_reducible apply State.Keeps.ite
    | fail_if_no_progress ((with_reducible apply State.Keeps.upd_dmc); rotate_right; decide)
    | ((with_reducible apply State.Keeps.step (State.emit_keeps ..)); rotate_right; decide)

def State.dmcTrain_scope : Scope := ⟨[.regs, .ctl, .evf, .recd, .hp, .mov, .pwr, .dmc, .out, .free], none⟩
theorem State.dmcTrain_keeps (s : State) (c : Nat) (restored : Bool) : State.Keeps State.dmcTrain_scope s (State.dmcTrain s c restored) := by
  unfold State.dmcTrain
  (try dsimp only)
  repeat' first
    | with_reducible exact State.Keeps.refl _ _
    | with_reducible apply State.Keeps.ite
    | fail_if_no_progress ((with_reducible apply State.Keeps.upd_dmc); rotate_right; decide)
    | ((with_reducible apply State.Keeps.step (State.put_keeps ..)); rotate_right; decide)
    | ((with_reducible apply State.Keeps.step (State.dmcExclude_keeps ..)); rotate_right; decide)
    | with_reducible assumption
    | ((with_reducible apply State.Keeps.step (State.dmcStop_keeps ..)); rotate_right; decide)
    | ((with_reducible apply State.Keeps.step (State.dmcCold_keeps ..)); rotate_right; decide)

def State.controllerFault_scope : Scope := State.fenceAll_scope
theorem State.controllerFault_keeps (s : State) : State.Keeps State.controllerFault_scope s (State.controllerFault s) := by
  unfold State.controllerFault
  (try dsimp only)
  repeat' first
    | with_reducible exact State.Keeps.refl _ _
    | with_reducible apply State.Keeps.ite
    | ((with_reducible apply State.Keeps.step (State.twinSend_keeps ..)); rotate_right; decide)
    | ((with_reducible apply State.Keeps.step (State.fenceAll_keeps ..)); rotate_right; decide)

def State.dmcPairs_scope : Scope := ⟨[.regs, .ctl, .evf, .recd, .hp, .mov, .pwr, .out, .free], none⟩
theorem State.dmcPairs_keeps (s : State) : State.Keeps State.dmcPairs_scope s (State.dmcPairs s) := by
  unfold State.dmcPairs
  (try dsimp only)
  repeat' first
    | with_reducible exact State.Keeps.refl _ _
    | with_reducible assumption
    | with_reducible apply State.Keeps.ite
    | ((with_reducible apply State.Keeps.step (State.put_keeps ..)); rotate_right; decide)
    | ((with_reducible apply State.Keeps.step (State.blkErr_keeps ..)); rotate_right; decide)
    | ((with_reducible apply State.Keeps.foldl); rotate_right; intro _ _ _; rotate_left)
    | ((with_reducible apply State.Keeps.step (State.safePoint_keeps ..)); rotate_right; decide)
    | ((with_reducible apply State.Keeps.foldl1); rotate_right; intro _ _ _; rotate_left)
    | with_reducible refine State.Keeps.fst ‹_ = (_, _)› ?_
    | split

def State.dmcFail_scope : Scope := ⟨[.regs, .ctl, .evf, .recd, .xlt, .hp, .qe, .mov, .tier, .twn, .cmn, .pwr, .dmc, .out, .free], none⟩
theorem State.dmcFail_keeps (s : State) (c : Nat) : State.Keeps State.dmcFail_scope s (State.dmcFail s c) := by
  unfold State.dmcFail
  (try dsimp only)
  repeat' first
    | with_reducible exact State.Keeps.refl _ _
    | with_reducible apply State.Keeps.ite
    | fail_if_no_progress ((with_reducible apply State.Keeps.upd_dmc); rotate_right; decide)
    | ((with_reducible apply State.Keeps.step (State.controllerFault_keeps ..)); rotate_right; decide)
    | ((with_reducible apply State.Keeps.step (State.misc_keeps ..)); rotate_right; decide)
    | ((with_reducible apply State.Keeps.step (State.put_keeps ..)); rotate_right; decide)
    | with_reducible assumption
    | ((with_reducible apply State.Keeps.step (State.dramEmpty_keeps ..)); rotate_right; decide)
    | ((with_reducible apply State.Keeps.step (State.dmcStop_keeps ..)); rotate_right; decide)
    | ((with_reducible apply State.Keeps.step (State.dmcPairs_keeps ..)); rotate_right; decide)

def State.dramCorrected_scope : Scope := ⟨[.regs, .evf, .recd, .hp, .pwr, .dmc, .out, .free], some [DMC.CE_CNT, DMC.MAPOUT, EVF.ALERT_DRV, EVF.TRACE_DROP, HDR.ERR_INFO0, HDR.ERR_INFO1, HDR.ERR_STAT, HDR.EVT_STAT, MGT.ALARM_SENT, PWR.PWR_WAKE_LATCH, PWR.STATE, REC.ALARM_DROP, REC.HEAD_SEQ, REC.LOST_CNT, REC.OVW_CNT, REC.RSV_USED]⟩
theorem State.dramCorrected_keeps (s : State) (c : Nat) (r : Nat) (sub : Bool) (dev : Nat) (row : Nat) : State.Keeps State.dramCorrected_scope s (State.dramCorrected s c r sub dev row) := by
  unfold State.dramCorrected
  (try dsimp only)
  repeat' first
    | with_reducible exact State.Keeps.refl _ _
    | with_reducible apply State.Keeps.ite
    | fail_if_no_progress ((with_reducible apply State.Keeps.upd_dmc); rotate_right; decide)
    | ((with_reducible apply State.Keeps.step (State.occur_keeps ..)); rotate_right; decide)
    | ((with_reducible apply State.Keeps.step (State.put_keeps ..)); rotate_right; decide)
    | ((with_reducible apply State.Keeps.step (State.blkErr_keeps ..)); rotate_right; decide)
    | ((with_reducible apply State.Keeps.step (State.inc_keeps ..)); rotate_right; decide)

def State.dramLost_scope : Scope := ⟨[.regs, .evf, .recd, .xlt, .hp, .qe, .tier, .twn, .pwr, .dmc, .flm, .out, .free], some [EVF.ALERT_DRV, EVF.TRACE_DROP, HDR.ERR_INFO0, HDR.ERR_INFO1, HDR.ERR_STAT, HDR.EVT_STAT, MGT.ALARM_SENT, PWR.PWR_WAKE_LATCH, PWR.STATE, REC.ALARM_DROP, REC.HEAD_SEQ, REC.LOST_CNT, REC.OVW_CNT, REC.RSV_USED]⟩
theorem State.dramLost_keeps (s : State) (u : DramUse) : State.Keeps State.dramLost_scope s (State.dramLost s u).1 := by
  unfold State.dramLost
  (try dsimp only)
  repeat' first
    | with_reducible exact State.Keeps.refl _ _
    | with_reducible apply State.Keeps.ite
    | ((with_reducible apply State.Keeps.step (State.emit_keeps ..)); rotate_right; decide)
    | ((with_reducible apply State.Keeps.step (State.frameWrite_keeps ..)); rotate_right; decide)
    | ((with_reducible apply State.Keeps.step (State.putBlock_keeps ..)); rotate_right; decide)
    | ((with_reducible apply State.Keeps.step (State.refill_keeps ..)); rotate_right; decide)
    | fail_if_no_progress ((with_reducible apply State.Keeps.upd); rotate_right; (intro p hp; cases p <;> first | exact absurd (by decide) hp | exact rfl))
    | with_reducible apply State.Keeps.ite1
    | with_reducible assumption
    | fail_if_no_progress ((with_reducible apply State.Keeps.upd_tier); rotate_right; decide)
    | fail_if_no_progress ((with_reducible apply State.Keeps.upd_twn); rotate_right; decide)
    | with_reducible refine State.Keeps.fst ‹_ = (_, _)› ?_
    | ((with_reducible apply State.Keeps.step (State.mendAsk_keeps ..)); rotate_right; decide)
    | ((with_reducible apply State.Keeps.step (State.tableLost_keeps ..)); rotate_right; decide)
    | split
    | dsimp only

def State.dramRewrite_scope : Scope := ⟨[.tier, .twn, .dmc], some []⟩
theorem State.dramRewrite_keeps (s : State) (u : DramUse) (issued : Nat) (left : Sector) (poison : Bool) : State.Keeps State.dramRewrite_scope s (State.dramRewrite s u issued left poison) := by
  unfold State.dramRewrite
  (try dsimp only)
  repeat' first
    | with_reducible exact State.Keeps.refl _ _
    | with_reducible assumption
    | with_reducible apply State.Keeps.ite
    | fail_if_no_progress ((with_reducible apply State.Keeps.upd_twn); rotate_right; decide)
    | ((with_reducible apply State.Keeps.step (State.frameWrite_keeps ..)); rotate_right; decide)
    | with_reducible refine State.Keeps.fst ‹_ = (_, _)› ?_
    | ((with_reducible apply State.Keeps.step (State.dramAccept_keeps ..)); rotate_right; decide)
    | split

def State.dramRead_scope : Scope := ⟨[.regs, .ctl, .evf, .recd, .xlt, .hp, .qe, .mov, .tier, .twn, .cmn, .pwr, .dmc, .flm, .out, .free], none⟩
theorem State.dramRead_keeps (s : State) (c : Nat) (r : Nat) (sub : Bool) (a : DramAddr) (issued : Nat) (res : DramRes) : State.Keeps State.dramRead_scope s (State.dramRead s c r sub a issued res) := by
  unfold State.dramRead
  (try dsimp only)
  repeat' first
    | with_reducible exact State.Keeps.refl _ _
    | with_reducible assumption
    | with_reducible apply State.Keeps.ite
    | ((with_reducible apply State.Keeps.step (State.dramCorrected_keeps ..)); rotate_right; decide)
    | ((with_reducible apply State.Keeps.step (State.dramRewrite_keeps ..)); rotate_right; decide)
    | ((with_reducible apply State.Keeps.step (State.inc_keeps ..)); rotate_right; decide)
    | ((with_reducible apply State.Keeps.step (State.dramLost_keeps ..)); rotate_right; decide)
    | ((with_reducible apply State.Keeps.step (State.occur_keeps ..)); rotate_right; decide)
    | ((with_reducible apply State.Keeps.step (State.blkErr_keeps ..)); rotate_right; decide)
    | ((with_reducible apply State.Keeps.step (State.dmcFail_keeps ..)); rotate_right; decide)
    | with_reducible refine State.Keeps.fst ‹_ = (_, _)› ?_
    | split

def State.setDebts_scope : Scope := ⟨[.dmc], some []⟩
theorem State.setDebts_keeps (s : State) (c : Nat) (r : Nat) (d : List Nat) : State.Keeps State.setDebts_scope s (State.setDebts s c r d) := by
  unfold State.setDebts
  (try dsimp only)
  repeat' first
    | with_reducible exact State.Keeps.refl _ _
    | fail_if_no_progress ((with_reducible apply State.Keeps.upd_dmc); rotate_right; decide)

def State.refreshTick_scope : Scope := ⟨[.regs, .dmc], some [DMC.REFAB_CNT]⟩
theorem State.refreshTick_keeps (s : State) (c : Nat) (r : Nat) (busy : Nat → Bool) : State.Keeps State.refreshTick_scope s (State.refreshTick s c r busy) := by
  unfold State.refreshTick
  (try dsimp only)
  repeat' first
    | with_reducible exact State.Keeps.refl _ _
    | ((with_reducible apply State.Keeps.step (State.setDebts_keeps ..)); rotate_right; decide)
    | ((with_reducible apply State.Keeps.step (State.inc_keeps ..)); rotate_right; decide)
    | with_reducible apply State.Keeps.ite1

def State.retrainStart_scope : Scope := ⟨[.regs, .dmc], some [DMC.RETRAIN_CNT, DMC.STATE]⟩
theorem State.retrainStart_keeps (s : State) (c : Nat) (r : Nat) : State.Keeps State.retrainStart_scope s (State.retrainStart s c r) := by
  unfold State.retrainStart
  (try dsimp only)
  repeat' first
    | with_reducible exact State.Keeps.refl _ _
    | with_reducible apply State.Keeps.ite
    | fail_if_no_progress ((with_reducible apply State.Keeps.upd_dmc); rotate_right; decide)
    | ((with_reducible apply State.Keeps.step (State.put_keeps ..)); rotate_right; decide)
    | ((with_reducible apply State.Keeps.step (State.inc_keeps ..)); rotate_right; decide)

def State.selfRefresh_scope : Scope := ⟨[.regs, .tier, .dmc], some [DMC.STATE]⟩
theorem State.selfRefresh_keeps (s : State) (c : Nat) : State.Keeps State.selfRefresh_scope s (State.selfRefresh s c) := by
  unfold State.selfRefresh
  (try dsimp only)
  repeat' first
    | with_reducible exact State.Keeps.refl _ _
    | with_reducible apply State.Keeps.ite
    | fail_if_no_progress ((with_reducible apply State.Keeps.upd_dmc); rotate_right; decide)
    | ((with_reducible apply State.Keeps.step (State.put_keeps ..)); rotate_right; decide)
    | with_reducible assumption
    | ((with_reducible apply State.Keeps.step (State.dramEmpty_keeps ..)); rotate_right; decide)

def State.dmcReadied_scope : Scope := ⟨[.regs, .ctl, .evf, .recd, .xlt, .hp, .qe, .mov, .tier, .pan, .cmn, .pwr, .dmc, .flm, .out, .free], none⟩
theorem State.dmcReadied_keeps (s : State) (c : Nat) : State.Keeps State.dmcReadied_scope s (State.dmcReadied s c) := by
  unfold State.dmcReadied
  (try dsimp only)
  repeat' first
    | with_reducible exact State.Keeps.refl _ _
    | with_reducible assumption
    | with_reducible apply State.Keeps.ite
    | fail_if_no_progress ((with_reducible apply State.Keeps.upd_dmc); rotate_right; decide)
    | ((with_reducible apply State.Keeps.step (State.put_keeps ..)); rotate_right; decide)
    | ((with_reducible apply State.Keeps.step (State.dmcPairs_keeps ..)); rotate_right; decide)
    | ((with_reducible apply State.Keeps.step (State.unstall_keeps ..)); rotate_right; decide)
    | ((with_reducible apply State.Keeps.step (State.selfRefresh_keeps ..)); rotate_right; decide)
    | ((with_reducible apply State.Keeps.step (State.dmcTrain_keeps ..)); rotate_right; decide)

def State.srLeave_scope : Scope := ⟨[.regs, .ctl, .evf, .recd, .hp, .mov, .pwr, .dmc, .out, .free], none⟩
theorem State.srLeave_keeps (s : State) (c : Nat) : State.Keeps State.srLeave_scope s (State.srLeave s c) := by
  unfold State.srLeave
  (try dsimp only)
  repeat' first
    | with_reducible exact State.Keeps.refl _ _
    | with_reducible assumption
    | with_reducible apply State.Keeps.ite
    | fail_if_no_progress ((with_reducible apply State.Keeps.upd_dmc); rotate_right; decide)
    | ((with_reducible apply State.Keeps.step (State.dmcTrain_keeps ..)); rotate_right; decide)

def State.selfRefreshExit_scope : Scope := ⟨[.regs, .ctl, .evf, .recd, .xlt, .hp, .qe, .mov, .tier, .pan, .cmn, .pwr, .dmc, .flm, .out, .free], none⟩
theorem State.selfRefreshExit_keeps (s : State) (c : Nat) (verify : Bool) : State.Keeps State.selfRefreshExit_scope s (State.selfRefreshExit s c verify) := by
  unfold State.selfRefreshExit
  (try dsimp only)
  repeat' first
    | with_reducible exact State.Keeps.refl _ _
    | with_reducible apply State.Keeps.ite
    | fail_if_no_progress ((with_reducible apply State.Keeps.upd_dmc); rotate_right; decide)
    | ((with_reducible apply State.Keeps.step (State.put_keeps ..)); rotate_right; decide)
    | with_reducible assumption
    | ((with_reducible apply State.Keeps.step (State.srLeave_keeps ..)); rotate_right; decide)
    | ((with_reducible apply State.Keeps.step (State.dmcReadied_keeps ..)); rotate_right; decide)
    | ((with_reducible apply State.Keeps.step (State.dmcCold_keeps ..)); rotate_right; decide)

def execDmcTrainingDone_scope : Scope := ⟨[.regs, .ctl, .evf, .recd, .xlt, .hp, .qe, .mov, .tier, .pan, .cmn, .pwr, .dmc, .flm, .nvs, .out, .free], none⟩
theorem execDmcTrainingDone_keeps (ch : Chan) (res : TrainRes) (s : State) : State.KeepsR execDmcTrainingDone_scope s (execDmcTrainingDone ch res s) := by
  unfold execDmcTrainingDone
  (try dsimp only)
  repeat' first
    | with_reducible exact State.Keeps.refl _ _
    | with_reducible apply State.KeepsR.next
    | with_reducible apply State.KeepsR.ite
    | fail_if_no_progress ((with_reducible apply State.Keeps.upd_dmc); rotate_right; decide)
    | ((with_reducible apply State.Keeps.step (State.dmcExclude_keeps ..)); rotate_right; decide)
    | ((with_reducible apply State.Keeps.step (State.dmcPairs_keeps ..)); rotate_right; decide)
    | ((with_reducible apply State.Keeps.step (State.put_keeps ..)); rotate_right; decide)
    | ((with_reducible apply State.Keeps.step (State.blkErr_keeps ..)); rotate_right; decide)
    | ((with_reducible apply State.Keeps.step (State.dmcFail_keeps ..)); rotate_right; decide)
    | ((with_reducible apply State.Keeps.step (State.emit_keeps ..)); rotate_right; decide)
    | with_reducible assumption
    | with_reducible apply State.Keeps.ite
    | fail_if_no_progress ((with_reducible apply State.Keeps.upd_nvs); rotate_right; decide)
    | fail_if_no_progress ((with_reducible apply State.Keeps.upd); rotate_right; (intro p hp; cases p <;> first | exact absurd (by decide) hp | exact rfl))
    | ((with_reducible apply State.Keeps.step (State.train_keeps ..)); rotate_right; decide)
    | ((with_reducible apply State.Keeps.step (State.dmcReadied_keeps ..)); rotate_right; decide)
    | ((with_reducible apply State.Keeps.step (State.movSettle_keeps ..)); rotate_right; decide)
    | ((with_reducible apply State.Keeps.step (State.dmcCold_keeps ..)); rotate_right; decide)
    | with_reducible refine State.Keeps.fst ‹_ = (_, _)› ?_
    | split

def State.rankUp_scope : Scope := ⟨[.dmc], some []⟩
theorem State.rankUp_keeps (s : State) (c : Nat) (r : Nat) : State.Keeps State.rankUp_scope s (State.rankUp s c r) := by
  unfold State.rankUp
  (try dsimp only)
  repeat' first
    | with_reducible exact State.Keeps.refl _ _
    | with_reducible assumption
    | with_reducible apply State.Keeps.ite
    | fail_if_no_progress ((with_reducible apply State.Keeps.upd_dmc); rotate_right; decide)

def execDramReadDone_scope : Scope := ⟨[.regs, .ctl, .evf, .recd, .xlt, .hp, .qe, .mov, .tier, .twn, .cmn, .pwr, .dmc, .flm, .out, .free], none⟩
theorem execDramReadDone_keeps (ch : Chan) (rank : Fin 4) (sub : Bool) (addr : DramAddr) (issued : Nat) (res : DramRes) (s : State) : State.KeepsR execDramReadDone_scope s (execDramReadDone ch rank sub addr issued res s) := by
  unfold execDramReadDone
  (try dsimp only)
  repeat' first
    | with_reducible exact State.Keeps.refl _ _
    | with_reducible assumption
    | with_reducible apply State.KeepsR.next
    | with_reducible apply State.KeepsR.ite
    | with_reducible apply State.Keeps.ite
    | fail_if_no_progress ((with_reducible apply State.Keeps.upd_dmc); rotate_right; decide)
    | ((with_reducible apply State.Keeps.step (State.dramRead_keeps ..)); rotate_right; decide)
    | ((with_reducible apply State.Keeps.step (State.rankUp_keeps ..)); rotate_right; decide)

def execEcsPass_scope : Scope := State.errAlarm_scope
theorem execEcsPass_keeps (ch : Chan) (_rank : Fin 4) (_sub : Bool) (_dev : Fin 10) (count : BitVec 16) (s : State) : State.KeepsR execEcsPass_scope s (execEcsPass ch _rank _sub _dev count s) := by
  unfold execEcsPass
  (try dsimp only)
  repeat' first
    | with_reducible exact State.Keeps.refl _ _
    | with_reducible apply State.KeepsR.next
    | ((with_reducible apply State.Keeps.step (State.misc_keeps ..)); rotate_right; decide)

def execOscillatorCheck_scope : Scope := ⟨[.regs, .dmc], some [DMC.RETRAIN_CNT, DMC.STATE]⟩
theorem execOscillatorCheck_keeps (ch : Chan) (rank : Fin 4) (drift : BitVec 16) (s : State) : State.KeepsR execOscillatorCheck_scope s (execOscillatorCheck ch rank drift s) := by
  unfold execOscillatorCheck
  (try dsimp only)
  repeat' first
    | with_reducible exact State.Keeps.refl _ _
    | with_reducible apply State.KeepsR.next
    | with_reducible apply State.KeepsR.ite
    | ((with_reducible apply State.Keeps.step (State.retrainStart_keeps ..)); rotate_right; decide)

def State.replayWrites_scope : Scope := ⟨[.regs, .out], some [DMC.WCRC_CNT]⟩
theorem State.replayWrites_keeps (s : State) (c : Nat) (sub : Bool) (wr : Nat) : State.Keeps State.replayWrites_scope s (State.replayWrites s c sub wr) := by
  unfold State.replayWrites
  (try dsimp only)
  repeat' first
    | with_reducible exact State.Keeps.refl _ _
    | with_reducible assumption
    | with_reducible apply State.Keeps.ite
    | ((with_reducible apply State.Keeps.step (State.inc_keeps ..)); rotate_right; decide)
    | ((with_reducible apply State.Keeps.step (State.emit_keeps ..)); rotate_right; decide)

def execPatrolScrubRead_scope : Scope := ⟨[.regs, .ctl, .evf, .recd, .xlt, .hp, .qe, .mov, .tier, .twn, .cmn, .pwr, .dmc, .flm, .out, .free], none⟩
theorem execPatrolScrubRead_keeps (ch : Chan) (rank : Fin 4) (sub : Bool) (addr : DramAddr) (issued : Nat) (res : DramRes) (s : State) : State.KeepsR execPatrolScrubRead_scope s (execPatrolScrubRead ch rank sub addr issued res s) := by
  unfold execPatrolScrubRead
  (try dsimp only)
  repeat' first
    | with_reducible exact State.Keeps.refl _ _
    | with_reducible assumption
    | with_reducible apply State.KeepsR.next
    | with_reducible apply State.KeepsR.ite
    | with_reducible apply State.Keeps.ite
    | ((with_reducible apply State.Keeps.step (State.dramRead_keeps ..)); rotate_right; decide)
    | fail_if_no_progress ((with_reducible apply State.Keeps.upd_dmc); rotate_right; decide)

def execRankPowerDown_scope : Scope := ⟨[.dmc], some []⟩
theorem execRankPowerDown_keeps (ch : Chan) (rank : Fin 4) (s : State) : State.KeepsR execRankPowerDown_scope s (execRankPowerDown ch rank s) := by
  unfold execRankPowerDown
  (try dsimp only)
  repeat' first
    | with_reducible exact State.Keeps.refl _ _
    | with_reducible apply State.KeepsR.next
    | with_reducible apply State.KeepsR.ite
    | fail_if_no_progress ((with_reducible apply State.Keeps.upd_dmc); rotate_right; decide)
    | with_reducible assumption
    | with_reducible apply State.Keeps.ite
    | with_reducible refine State.Keeps.fst ‹_ = (_, _)› ?_
    | split

def execRefreshRatePoll_scope : Scope := ⟨[.regs, .evf, .recd, .hp, .pwr, .dmc, .out, .free], some [DMC.REF_X2, EVF.ALERT_DRV, EVF.TRACE_DROP, HDR.ERR_INFO0, HDR.ERR_INFO1, HDR.ERR_STAT, HDR.EVT_STAT, MGT.ALARM_SENT, PWR.PWR_WAKE_LATCH, PWR.STATE, REC.ALARM_DROP, REC.HEAD_SEQ, REC.LOST_CNT, REC.OVW_CNT, REC.RSV_USED]⟩
theorem execRefreshRatePoll_keeps (ch : Chan) (rank : Fin 4) (x2 : Bool) (hot : Bool) (s : State) : State.KeepsR execRefreshRatePoll_scope s (execRefreshRatePoll ch rank x2 hot s) := by
  unfold execRefreshRatePoll
  (try dsimp only)
  repeat' first
    | with_reducible exact State.Keeps.refl _ _
    | with_reducible apply State.KeepsR.next
    | with_reducible apply State.KeepsR.ite
    | with_reducible apply State.Keeps.ite
    | fail_if_no_progress ((with_reducible apply State.Keeps.upd_dmc); rotate_right; decide)
    | ((with_reducible apply State.Keeps.step (State.misc_keeps ..)); rotate_right; decide)
    | ((with_reducible apply State.Keeps.step (State.put_keeps ..)); rotate_right; decide)

def execRetrainStep_scope : Scope := ⟨[.regs, .ctl, .evf, .recd, .xlt, .hp, .qe, .mov, .tier, .twn, .cmn, .pwr, .dmc, .out, .free], none⟩
theorem execRetrainStep_keeps (ch : Chan) (res : RetrainRes) (s : State) : State.KeepsR execRetrainStep_scope s (execRetrainStep ch res s) := by
  unfold execRetrainStep
  (try dsimp only)
  repeat' first
    | with_reducible exact State.Keeps.refl _ _
    | with_reducible apply State.KeepsR.next
    | with_reducible apply State.Keeps.ite
    | fail_if_no_progress ((with_reducible apply State.Keeps.upd_dmc); rotate_right; decide)
    | ((with_reducible apply State.Keeps.step (State.put_keeps ..)); rotate_right; decide)
    | ((with_reducible apply State.Keeps.step (State.inc_keeps ..)); rotate_right; decide)
    | ((with_reducible apply State.Keeps.step (State.dmcFail_keeps ..)); rotate_right; decide)
    | with_reducible assumption
    | with_reducible apply State.KeepsR.ite
    | ((with_reducible apply State.Keeps.step (State.done_keeps ..)); rotate_right; decide)
    | ((with_reducible apply State.Keeps.step (State.replayWrites_keeps ..)); rotate_right; decide)
    | ((with_reducible apply State.Keeps.step (State.retrainStart_keeps ..)); rotate_right; decide)
    | ((with_reducible apply State.Keeps.foldl1); rotate_right; intro _ _ _; rotate_left)
    | ((with_reducible apply State.Keeps.foldl); rotate_right; intro _ _ _; rotate_left)
    | with_reducible refine State.Keeps.fst ‹_ = (_, _)› ?_
    | split

def execSelfRefreshExitDone_scope : Scope := ⟨[.regs, .ctl, .evf, .recd, .xlt, .hp, .qe, .mov, .tier, .pan, .cmn, .pwr, .dmc, .flm, .out, .free], none⟩
theorem execSelfRefreshExitDone_keeps (ch : Chan) (verify : Bool) (s : State) : State.KeepsR execSelfRefreshExitDone_scope s (execSelfRefreshExitDone ch verify s) := by
  unfold execSelfRefreshExitDone
  (try dsimp only)
  repeat' first
    | with_reducible exact State.Keeps.refl _ _
    | with_reducible apply State.KeepsR.next
    | ((with_reducible apply State.Keeps.step (State.selfRefreshExit_keeps ..)); rotate_right; decide)
    | with_reducible assumption
    | with_reducible apply State.KeepsR.ite
    | with_reducible apply State.Keeps.ite
    | ((with_reducible apply State.Keeps.step (State.movSettle_keeps ..)); rotate_right; decide)

def execSrIdleEntry_scope : Scope := ⟨[.regs, .tier, .dmc], some [DMC.STATE]⟩
theorem execSrIdleEntry_keeps (ch : Chan) (s : State) : State.KeepsR execSrIdleEntry_scope s (execSrIdleEntry ch s) := by
  unfold execSrIdleEntry
  (try dsimp only)
  repeat' first
    | with_reducible exact State.Keeps.refl _ _
    | with_reducible apply State.KeepsR.next
    | with_reducible apply State.KeepsR.ite
    | ((with_reducible apply State.Keeps.step (State.selfRefresh_keeps ..)); rotate_right; decide)
    | with_reducible assumption
    | with_reducible apply State.Keeps.ite

def execTrefi2Tick_scope : Scope := ⟨[.regs, .ctl, .evf, .recd, .hp, .mov, .pwr, .dmc, .out, .free], none⟩
theorem execTrefi2Tick_keeps (ch : Chan) (busy : BitVec 16) (s : State) : State.KeepsR execTrefi2Tick_scope s (execTrefi2Tick ch busy s) := by
  unfold execTrefi2Tick
  (try dsimp only)
  repeat' first
    | with_reducible exact State.Keeps.refl _ _
    | with_reducible assumption
    | with_reducible apply State.KeepsR.next
    | with_reducible apply State.KeepsR.ite
    | ((with_reducible apply State.Keeps.step (State.safePoint_keeps ..)); rotate_right; decide)
    | ((with_reducible apply State.Keeps.step (State.refreshTick_keeps ..)); rotate_right; decide)
    | ((with_reducible apply State.Keeps.foldl); rotate_right; intro _ _ _; rotate_left)

def execWcrcAlert_scope : Scope := ⟨[.regs, .ctl, .evf, .recd, .xlt, .hp, .qe, .mov, .tier, .twn, .cmn, .pwr, .dmc, .out, .free], none⟩
theorem execWcrcAlert_keeps (ch : Chan) (rank : Fin 4) (sub : Bool) (wr : Nat) (s : State) : State.KeepsR execWcrcAlert_scope s (execWcrcAlert ch rank sub wr s) := by
  unfold execWcrcAlert
  (try dsimp only)
  repeat' first
    | with_reducible exact State.Keeps.refl _ _
    | with_reducible apply State.KeepsR.next
    | with_reducible apply State.KeepsR.ite
    | fail_if_no_progress ((with_reducible apply State.Keeps.upd_dmc); rotate_right; decide)
    | ((with_reducible apply State.Keeps.step (State.blkErr_keeps ..)); rotate_right; decide)
    | ((with_reducible apply State.Keeps.step (State.dmcFail_keeps ..)); rotate_right; decide)
    | ((with_reducible apply State.Keeps.step (State.retrainStart_keeps ..)); rotate_right; decide)
    | ((with_reducible apply State.Keeps.step (State.inc_keeps ..)); rotate_right; decide)
    | with_reducible assumption
    | with_reducible apply State.Keeps.ite
    | ((with_reducible apply State.Keeps.step (State.replayWrites_keeps ..)); rotate_right; decide)
    | with_reducible refine State.Keeps.fst ‹_ = (_, _)› ?_
    | split

def execZqCalibration_scope : Scope := ⟨[], some []⟩
theorem execZqCalibration_keeps (_ch : Chan) (_rank : Fin 4) (s : State) : State.KeepsR execZqCalibration_scope s (execZqCalibration _ch _rank s) := by
  unfold execZqCalibration
  (try dsimp only)
  repeat' first
    | with_reducible exact State.Keeps.refl _ _
    | with_reducible apply State.KeepsR.next

def State.srTick_scope : Scope := ⟨[.regs, .ctl, .evf, .recd, .hp, .mov, .pwr, .dmc, .out, .free], none⟩
theorem State.srTick_keeps (s : State) : State.Keeps State.srTick_scope s (State.srTick s) := by
  unfold State.srTick
  (try dsimp only)
  repeat' first
    | with_reducible exact State.Keeps.refl _ _
    | with_reducible assumption
    | with_reducible apply State.Keeps.ite
    | ((with_reducible apply State.Keeps.step (State.srLeave_keeps ..)); rotate_right; decide)
    | ((with_reducible apply State.Keeps.foldl1); rotate_right; intro _ _ _; rotate_left)
    | ((with_reducible apply State.Keeps.foldl); rotate_right; intro _ _ _; rotate_left)

end Sys2Proof.Machine
end

