-- ==== Sys2Proof/Laws/KeepFlm.lean ====
section
/-! SUPPORT. What each operation of Machine/Flm.lean keeps: the parts of State it can change are those listed. -/
set_option linter.unusedTactic false
set_option linter.unreachableTactic false
namespace Sys2Proof.Machine

def State.wpN_scope : Scope := ⟨[.out], some []⟩
theorem State.wpN_keeps (s : State) (c : Nat) (high : Bool) : State.Keeps State.wpN_scope s (State.wpN s c high) := by
  unfold State.wpN
  (try dsimp only)
  repeat' first
    | with_reducible exact State.Keeps.refl _ _
    | ((with_reducible apply State.Keeps.step (State.pinOut_keeps ..)); rotate_right; decide)

def State.wbStop_scope : Scope := ⟨[.tier, .twn], some []⟩
theorem State.wbStop_keeps (s : State) : State.Keeps State.wbStop_scope s (State.wbStop s) := by
  unfold State.wbStop
  (try dsimp only)
  repeat' first
    | with_reducible exact State.Keeps.refl _ _
    | with_reducible assumption
    | with_reducible apply State.Keeps.ite
    | fail_if_no_progress ((with_reducible apply State.Keeps.upd_tier); rotate_right; decide)
    | fail_if_no_progress ((with_reducible apply State.Keeps.upd_twn); rotate_right; decide)
    | fail_if_no_progress ((with_reducible apply State.Keeps.upd); rotate_right; (intro p hp; cases p <;> first | exact absurd (by decide) hp | exact rfl))

def State.ftlStop_scope : Scope := ⟨[.tier, .twn, .flm], some []⟩
theorem State.ftlStop_keeps (s : State) : State.Keeps State.ftlStop_scope s (State.ftlStop s) := by
  unfold State.ftlStop
  (try dsimp only)
  repeat' first
    | with_reducible exact State.Keeps.refl _ _
    | with_reducible assumption
    | with_reducible apply State.Keeps.ite
    | fail_if_no_progress ((with_reducible apply State.Keeps.upd_flm); rotate_right; decide)
    | ((with_reducible apply State.Keeps.step (State.putBlk_keeps ..)); rotate_right; decide)
    | ((with_reducible apply State.Keeps.step (State.putStripe_keeps ..)); rotate_right; decide)
    | ((with_reducible apply State.Keeps.foldl); rotate_right; intro _ _ _; rotate_left)
    | ((with_reducible apply State.Keeps.step (State.wbStop_keeps ..)); rotate_right; decide)
    | ((with_reducible apply State.Keeps.foldl1); rotate_right; intro _ _ _; rotate_left)
    | ((with_reducible apply State.Keeps.step (State.closeStripe_keeps ..)); rotate_right; decide)
    | split

def State.roClear_scope : Scope := ⟨[.regs, .flm], some [FTL.FLM_STATE, NVS.FAST_BAD, XLT.MEDIA_RO]⟩
theorem State.roClear_keeps (s : State) : State.Keeps State.roClear_scope s (State.roClear s) := by
  unfold State.roClear
  (try dsimp only)
  repeat' first
    | with_reducible exact State.Keeps.refl _ _
    | with_reducible apply State.Keeps.ite
    | fail_if_no_progress ((with_reducible apply State.Keeps.upd_flm); rotate_right; decide)
    | ((with_reducible apply State.Keeps.step (State.ftlPut_keeps ..)); rotate_right; decide)
    | ((with_reducible apply State.Keeps.step (State.put_keeps ..)); rotate_right; decide)
    | ((with_reducible apply State.Keeps.step (State.fastWrote_keeps ..)); rotate_right; decide)

def State.victimWrite_scope : Scope := ⟨[.regs, .flm], some [FTL.VICTIM_REFUSED]⟩
theorem State.victimWrite_keeps (s : State) (g : Nat) (b : Nat) : State.Keeps State.victimWrite_scope s (State.victimWrite s g b) := by
  unfold State.victimWrite
  (try dsimp only)
  repeat' first
    | with_reducible exact State.Keeps.refl _ _
    | with_reducible apply State.Keeps.ite
    | fail_if_no_progress ((with_reducible apply State.Keeps.upd_flm); rotate_right; decide)
    | ((with_reducible apply State.Keeps.step (State.ftlPut_keeps ..)); rotate_right; decide)

def State.flmStart_scope : Scope := ⟨[.regs], some [FLC.STATE]⟩
theorem State.flmStart_keeps (s : State) (c : Nat) : State.Keeps State.flmStart_scope s (State.flmStart s c) := by
  unfold State.flmStart
  (try dsimp only)
  repeat' first
    | with_reducible exact State.Keeps.refl _ _
    | ((with_reducible apply State.Keeps.step (State.put_keeps ..)); rotate_right; decide)

def State.spillResume_scope : Scope := State.errAlarm_scope
theorem State.spillResume_keeps (s : State) : State.Keeps State.spillResume_scope s (State.spillResume s) := by
  unfold State.spillResume
  (try dsimp only)
  repeat' first
    | with_reducible exact State.Keeps.refl _ _
    | ((with_reducible apply State.Keeps.step (State.occur_keeps ..)); rotate_right; decide)

def State.ckptStart_scope : Scope := ⟨[.flm, .out, .free], some []⟩
theorem State.ckptStart_keeps (s : State) : State.Keeps State.ckptStart_scope s (State.ckptStart s) := by
  unfold State.ckptStart
  (try dsimp only)
  repeat' first
    | with_reducible exact State.Keeps.refl _ _
    | with_reducible assumption
    | with_reducible apply State.Keeps.ite
    | fail_if_no_progress ((with_reducible apply State.Keeps.upd_flm); rotate_right; decide)
    | fail_if_no_progress ((with_reducible apply State.Keeps.upd_free); rotate_right; decide)
    | fail_if_no_progress ((with_reducible apply State.Keeps.upd); rotate_right; (intro p hp; cases p <;> first | exact absurd (by decide) hp | exact rfl))
    | ((with_reducible apply State.Keeps.step (State.mapFlush_keeps ..)); rotate_right; decide)
    | ((with_reducible apply State.Keeps.step (State.emit_keeps ..)); rotate_right; decide)
    | ((with_reducible apply State.Keeps.foldl1); rotate_right; intro _ _ _; rotate_left)
    | ((with_reducible apply State.Keeps.foldl); rotate_right; intro _ _ _; rotate_left)

def State.flmGeometry_scope : Scope := ⟨[.regs, .evf, .recd, .hp, .pwr, .flm, .out, .free], some [EVF.ALERT_DRV, EVF.TRACE_DROP, FLC.LUN_LOST_MAP, HDR.ERR_INFO0, HDR.ERR_INFO1, HDR.ERR_STAT, HDR.EVT_STAT, MGT.ALARM_SENT, PWR.PWR_WAKE_LATCH, PWR.STATE, REC.ALARM_DROP, REC.HEAD_SEQ, REC.LOST_CNT, REC.OVW_CNT, REC.RSV_USED]⟩
theorem State.flmGeometry_keeps (s : State) : State.Keeps State.flmGeometry_scope s (State.flmGeometry s) := by
  unfold State.flmGeometry
  (try dsimp only)
  repeat' first
    | with_reducible exact State.Keeps.refl _ _
    | with_reducible assumption
    | with_reducible apply State.Keeps.ite
    | fail_if_no_progress ((with_reducible apply State.Keeps.upd_flm); rotate_right; decide)
    | ((with_reducible apply State.Keeps.step (State.blkErr_keeps ..)); rotate_right; decide)
    | ((with_reducible apply State.Keeps.step (State.putBit_keeps ..)); rotate_right; decide)
    | ((with_reducible apply State.Keeps.foldl); rotate_right; intro _ _ _; rotate_left)
    | split

def State.flmOut_scope : Scope := ⟨[.regs, .out], some [FLC.STATE]⟩
theorem State.flmOut_keeps (s : State) (c : Nat) (st : Nat) : State.Keeps State.flmOut_scope s (State.flmOut s c st) := by
  unfold State.flmOut
  (try dsimp only)
  repeat' first
    | with_reducible exact State.Keeps.refl _ _
    | ((with_reducible apply State.Keeps.step (State.put_keeps ..)); rotate_right; decide)
    | ((with_reducible apply State.Keeps.step (State.wpN_keeps ..)); rotate_right; decide)

def State.t2Poison_scope : Scope := ⟨[.flm], some []⟩
theorem State.t2Poison_keeps (s : State) (tun : Nat) : State.Keeps State.t2Poison_scope s (State.t2Poison s tun) := by
  unfold State.t2Poison
  (try dsimp only)
  repeat' first
    | with_reducible exact State.Keeps.refl _ _
    | with_reducible assumption
    | ((with_reducible apply State.Keeps.step (State.t2Write_keeps ..)); rotate_right; decide)
    | ((with_reducible apply State.Keeps.foldl); rotate_right; intro _ _ _; rotate_left)

def State.rebuild_scope : Scope := ⟨[.regs, .evf, .recd, .hp, .twn, .pwr, .flm, .out, .free], some [EVF.ALERT_DRV, EVF.TRACE_DROP, FLC.UNRECOV_CNT, HDR.ERR_INFO0, HDR.ERR_INFO1, HDR.ERR_STAT, HDR.EVT_STAT, MGT.ALARM_SENT, PWR.PWR_WAKE_LATCH, PWR.STATE, REC.ALARM_DROP, REC.HEAD_SEQ, REC.LOST_CNT, REC.OVW_CNT, REC.RSV_USED]⟩
theorem State.rebuild_keeps (s : State) (tun : Nat) (old : Nat) : State.Keeps State.rebuild_scope s (State.rebuild s tun old) := by
  unfold State.rebuild
  (try dsimp only)
  repeat' first
    | with_reducible exact State.Keeps.refl _ _
    | with_reducible apply State.Keeps.ite
    | fail_if_no_progress ((with_reducible apply State.Keeps.upd_twn); rotate_right; decide)
    | ((with_reducible apply State.Keeps.step (State.misc_keeps ..)); rotate_right; decide)
    | ((with_reducible apply State.Keeps.step (State.t2Poison_keeps ..)); rotate_right; decide)
    | ((with_reducible apply State.Keeps.step (State.health_keeps ..)); rotate_right; decide)
    | ((with_reducible apply State.Keeps.step (State.inc_keeps ..)); rotate_right; decide)
    | ((with_reducible apply State.Keeps.step (State.twinSend_keeps ..)); rotate_right; decide)
    | ((with_reducible apply State.Keeps.step (State.assign_keeps ..)); rotate_right; decide)
    | with_reducible assumption

def State.stripeLost_scope : Scope := ⟨[.flm, .free], some []⟩
theorem State.stripeLost_keeps (s : State) (i : Nat) (x : Stripe) : State.Keeps State.stripeLost_scope s (State.stripeLost s i x) := by
  unfold State.stripeLost
  (try dsimp only)
  repeat' first
    | with_reducible exact State.Keeps.refl _ _
    | with_reducible assumption
    | with_reducible apply State.Keeps.ite
    | fail_if_no_progress ((with_reducible apply State.Keeps.upd_flm); rotate_right; decide)
    | ((with_reducible apply State.Keeps.foldl1); rotate_right; intro _ _ _; rotate_left)
    | ((with_reducible apply State.Keeps.foldl); rotate_right; intro _ _ _; rotate_left)
    | ((with_reducible apply State.Keeps.step (State.assignUnit_keeps ..)); rotate_right; decide)
    | ((with_reducible apply State.Keeps.step (State.closeStripe_keeps ..)); rotate_right; decide)

def State.lunLost_scope : Scope := ⟨[.regs, .evf, .recd, .hp, .twn, .pwr, .flm, .out, .free], some [EVF.ALERT_DRV, EVF.TRACE_DROP, FLC.LUN_LOST_MAP, FLC.STATE, FLC.UNRECOV_CNT, FTL.FLM_STATE, FTL.RESERVE_LUNS, FTL.RESERVE_READY_MIB, FTL.SPARE_BLOCKS, HDR.ERR_INFO0, HDR.ERR_INFO1, HDR.ERR_STAT, HDR.EVT_STAT, HRV.BIND, HRV.HRV_TIDE_NOW, MGT.ALARM_SENT, NVS.FAST_BAD, PWR.PWR_WAKE_LATCH, PWR.STATE, REC.ALARM_DROP, REC.HEAD_SEQ, REC.LOST_CNT, REC.OVW_CNT, REC.RSV_USED, XLT.MEDIA_RO]⟩
theorem State.lunLost_keeps (s : State) (g : Nat) : State.Keeps State.lunLost_scope s (State.lunLost s g) := by
  unfold State.lunLost
  (try dsimp only)
  repeat' first
    | with_reducible exact State.Keeps.refl _ _
    | with_reducible assumption
    | with_reducible apply State.Keeps.ite
    | fail_if_no_progress ((with_reducible apply State.Keeps.upd_flm); rotate_right; decide)
    | ((with_reducible apply State.Keeps.step (State.flmOut_keeps ..)); rotate_right; decide)
    | ((with_reducible apply State.Keeps.step (State.misc_keeps ..)); rotate_right; decide)
    | ((with_reducible apply State.Keeps.step (State.spareLose_keeps ..)); rotate_right; decide)
    | ((with_reducible apply State.Keeps.step (State.reserveCount_keeps ..)); rotate_right; decide)
    | ((with_reducible apply State.Keeps.step (State.health_keeps ..)); rotate_right; decide)
    | ((with_reducible apply State.Keeps.step (State.rebuild_keeps ..)); rotate_right; decide)
    | ((with_reducible apply State.Keeps.step (State.putBit_keeps ..)); rotate_right; decide)
    | ((with_reducible apply State.Keeps.step (State.blkErr_keeps ..)); rotate_right; decide)
    | ((with_reducible apply State.Keeps.foldl); rotate_right; intro _ _ _; rotate_left)
    | ((with_reducible apply State.Keeps.step (State.stripeLost_keeps ..)); rotate_right; decide)
    | ((with_reducible apply State.Keeps.step (State.jAppend_keeps ..)); rotate_right; decide)
    | ((with_reducible apply State.Keeps.step (State.takeReserve_keeps ..)); rotate_right; decide)
    | ((with_reducible apply State.Keeps.foldl1); rotate_right; intro _ _ _; rotate_left)
    | with_reducible refine State.Keeps.fst ‹_ = (_, _)› ?_
    | ((with_reducible apply State.Keeps.step (State.badBlocks_keeps ..)); rotate_right; decide)
    | split

def State.flmLuns_scope : Scope := ⟨[.regs, .flm], some [FLC.CE_PRESENT, FLC.LUN_LOST_MAP]⟩
theorem State.flmLuns_keeps (s : State) (c : Nat) (luns : List LunInfo) : State.Keeps State.flmLuns_scope s (State.flmLuns s c luns) := by
  unfold State.flmLuns
  (try dsimp only)
  repeat' first
    | with_reducible exact State.Keeps.refl _ _
    | with_reducible assumption
    | with_reducible apply State.Keeps.ite
    | fail_if_no_progress ((with_reducible apply State.Keeps.upd_flm); rotate_right; decide)
    | ((with_reducible apply State.Keeps.step (State.put_keeps ..)); rotate_right; decide)
    | ((with_reducible apply State.Keeps.step (State.putBit_keeps ..)); rotate_right; decide)
    | ((with_reducible apply State.Keeps.step (State.putBlk_keeps ..)); rotate_right; decide)
    | ((with_reducible apply State.Keeps.foldl1); rotate_right; intro _ _ _; rotate_left)
    | ((with_reducible apply State.Keeps.foldl); rotate_right; intro _ _ _; rotate_left)

def State.lunOp_scope : Scope := State.lunLost_scope
theorem State.lunOp_keeps (s : State) (g : Nat) (pass : Bool) : State.Keeps State.lunOp_scope s (State.lunOp s g pass) := by
  unfold State.lunOp
  (try dsimp only)
  repeat' first
    | with_reducible exact State.Keeps.refl _ _
    | with_reducible apply State.Keeps.ite
    | fail_if_no_progress ((with_reducible apply State.Keeps.upd_flm); rotate_right; decide)
    | ((with_reducible apply State.Keeps.step (State.lunLost_keeps ..)); rotate_right; decide)
    | split

def State.orphanBlocks_scope : Scope := ⟨[.flm], some []⟩
theorem State.orphanBlocks_keeps (s : State) : State.Keeps State.orphanBlocks_scope s (State.orphanBlocks s) := by
  unfold State.orphanBlocks
  (try dsimp only)
  repeat' first
    | with_reducible exact State.Keeps.refl _ _
    | fail_if_no_progress ((with_reducible apply State.Keeps.upd_flm); rotate_right; decide)

def State.parityNext_scope : Scope := ⟨[.flm], some []⟩
theorem State.parityNext_keeps (s : State) (i : Nat) (x : Stripe) (full : List Nat) : State.Keeps State.parityNext_scope s (State.parityNext s i x full) := by
  unfold State.parityNext
  (try dsimp only)
  repeat' first
    | with_reducible exact State.Keeps.refl _ _
    | with_reducible assumption
    | with_reducible apply State.Keeps.ite
    | ((with_reducible apply State.Keeps.step (State.putBlk_keeps ..)); rotate_right; decide)
    | ((with_reducible apply State.Keeps.step (State.putStripe_keeps ..)); rotate_right; decide)
    | with_reducible refine State.Keeps.fst ‹_ = (_, _)› ?_
    | split

def State.stripeStep_scope : Scope := ⟨[.flm, .out], some []⟩
theorem State.stripeStep_keeps (s : State) (i : Nat) : State.Keeps State.stripeStep_scope s (State.stripeStep s i) := by
  unfold State.stripeStep
  (try dsimp only)
  repeat' first
    | with_reducible exact State.Keeps.refl _ _
    | with_reducible assumption
    | with_reducible apply State.Keeps.ite
    | ((with_reducible apply State.Keeps.step (State.emit_keeps ..)); rotate_right; decide)
    | ((with_reducible apply State.Keeps.step (State.putBlk_keeps ..)); rotate_right; decide)
    | ((with_reducible apply State.Keeps.step (State.putStripe_keeps ..)); rotate_right; decide)
    | ((with_reducible apply State.Keeps.foldl); rotate_right; intro _ _ _; rotate_left)
    | ((with_reducible apply State.Keeps.step (State.parityNext_keeps ..)); rotate_right; decide)
    | with_reducible refine State.Keeps.fst ‹_ = (_, _)› ?_
    | ((with_reducible apply State.Keeps.step (State.closeStripe_keeps ..)); rotate_right; decide)
    | split

def State.pageDone_scope : Scope := ⟨[.regs, .evf, .recd, .hp, .pwr, .flm, .out, .free], some [EVF.ALERT_DRV, EVF.TRACE_DROP, FTL.FLM_STATE, FTL.SPARE_BLOCKS, HDR.ERR_INFO0, HDR.ERR_INFO1, HDR.ERR_STAT, HDR.EVT_STAT, HRV.BIND, HRV.HRV_TIDE_NOW, MGT.ALARM_SENT, NVS.FAST_BAD, PWR.PWR_WAKE_LATCH, PWR.STATE, REC.ALARM_DROP, REC.HEAD_SEQ, REC.LOST_CNT, REC.OVW_CNT, REC.RSV_USED, XLT.MEDIA_RO]⟩
theorem State.pageDone_keeps (s : State) (i : Nat) (x : Stripe) (k : Nat) (pass : Bool) : State.Keeps State.pageDone_scope s (State.pageDone s i x k pass) := by
  unfold State.pageDone
  (try dsimp only)
  repeat' first
    | with_reducible exact State.Keeps.refl _ _
    | with_reducible assumption
    | with_reducible apply State.Keeps.ite
    | fail_if_no_progress ((with_reducible apply State.Keeps.upd_flm); rotate_right; decide)
    | ((with_reducible apply State.Keeps.step (State.retire_keeps ..)); rotate_right; decide)
    | ((with_reducible apply State.Keeps.step (State.stripeStep_keeps ..)); rotate_right; decide)
    | ((with_reducible apply State.Keeps.step (State.assign_keeps ..)); rotate_right; decide)
    | ((with_reducible apply State.Keeps.step (State.putStripe_keeps ..)); rotate_right; decide)
    | ((with_reducible apply State.Keeps.foldl); rotate_right; intro _ _ _; rotate_left)
    | ((with_reducible apply State.Keeps.foldl1); rotate_right; intro _ _ _; rotate_left)
    | ((with_reducible apply State.Keeps.step (State.assignUnit_keeps ..)); rotate_right; decide)
    | split

def State.parityDone_scope : Scope := ⟨[.regs, .evf, .recd, .hp, .pwr, .flm, .out, .free], some [EVF.ALERT_DRV, EVF.TRACE_DROP, FTL.FLM_STATE, FTL.SPARE_BLOCKS, HDR.ERR_INFO0, HDR.ERR_INFO1, HDR.ERR_STAT, HDR.EVT_STAT, HRV.BIND, HRV.HRV_TIDE_NOW, MGT.ALARM_SENT, NVS.FAST_BAD, PWR.PWR_WAKE_LATCH, PWR.STATE, REC.ALARM_DROP, REC.HEAD_SEQ, REC.LOST_CNT, REC.OVW_CNT, REC.RSV_USED, XLT.MEDIA_RO]⟩
theorem State.parityDone_keeps (s : State) (i : Nat) (x : Stripe) (pass : Bool) : State.Keeps State.parityDone_scope s (State.parityDone s i x pass) := by
  unfold State.parityDone
  (try dsimp only)
  repeat' first
    | with_reducible exact State.Keeps.refl _ _
    | with_reducible apply State.Keeps.ite
    | ((with_reducible apply State.Keeps.step (State.putBlk_keeps ..)); rotate_right; decide)
    | ((with_reducible apply State.Keeps.step (State.putStripe_keeps ..)); rotate_right; decide)
    | ((with_reducible apply State.Keeps.step (State.stripeStep_keeps ..)); rotate_right; decide)
    | ((with_reducible apply State.Keeps.step (State.retire_keeps ..)); rotate_right; decide)
    | ((with_reducible apply State.Keeps.step (State.recordRow_keeps ..)); rotate_right; decide)
    | with_reducible assumption
    | ((with_reducible apply State.Keeps.step (State.parityNext_keeps ..)); rotate_right; decide)
    | with_reducible refine State.Keeps.fst ‹_ = (_, _)› ?_
    | split

def State.rakeSource_scope : Scope := ⟨[.flm, .free], some []⟩
theorem State.rakeSource_keeps (s : State) (g : Nat) : State.Keeps State.rakeSource_scope s (State.rakeSource s g).1 := by
  unfold State.rakeSource
  (try dsimp only)
  repeat' first
    | with_reducible exact State.Keeps.refl _ _
    | fail_if_no_progress ((with_reducible apply State.Keeps.upd_flm); rotate_right; decide)
    | ((with_reducible apply State.Keeps.step (State.useFree_keeps ..)); rotate_right; decide)
    | split

def State.verifyCheck_scope : Scope := ⟨[.flm], some []⟩
theorem State.verifyCheck_keeps (s : State) (i : Nat) : State.Keeps State.verifyCheck_scope s (State.verifyCheck s i) := by
  unfold State.verifyCheck
  (try dsimp only)
  repeat' first
    | with_reducible exact State.Keeps.refl _ _
    | with_reducible apply State.Keeps.ite
    | ((with_reducible apply State.Keeps.step (State.putBlk_keeps ..)); rotate_right; decide)
    | ((with_reducible apply State.Keeps.step (State.putStripe_keeps ..)); rotate_right; decide)
    | with_reducible assumption
    | fail_if_no_progress ((with_reducible apply State.Keeps.upd_flm); rotate_right; decide)
    | ((with_reducible apply State.Keeps.foldl1); rotate_right; intro _ _ _; rotate_left)
    | ((with_reducible apply State.Keeps.foldl); rotate_right; intro _ _ _; rotate_left)
    | with_reducible refine State.Keeps.fst ‹_ = (_, _)› ?_
    | split

def execCheckpointStart_scope : Scope := ⟨[.flm, .out, .free], some []⟩
theorem execCheckpointStart_keeps (s : State) : State.KeepsR execCheckpointStart_scope s (execCheckpointStart s) := by
  unfold execCheckpointStart
  (try dsimp only)
  repeat' first
    | with_reducible exact State.Keeps.refl _ _
    | with_reducible apply State.KeepsR.next
    | with_reducible apply State.KeepsR.ite
    | fail_if_no_progress ((with_reducible apply State.Keeps.upd_flm); rotate_right; decide)
    | with_reducible assumption
    | with_reducible apply State.Keeps.ite
    | ((with_reducible apply State.Keeps.step (State.mapFlush_keeps ..)); rotate_right; decide)
    | ((with_reducible apply State.Keeps.foldl1); rotate_right; intro _ _ _; rotate_left)
    | ((with_reducible apply State.Keeps.foldl); rotate_right; intro _ _ _; rotate_left)
    | ((with_reducible apply State.Keeps.step (State.ckptStart_keeps ..)); rotate_right; decide)

def execFlashEraseDone_scope : Scope := ⟨[.regs, .evf, .recd, .hp, .twn, .pwr, .flm, .out, .free], some [EVF.ALERT_DRV, EVF.TRACE_DROP, FLC.ERASE_FAIL_CNT, FLC.LUN_LOST_MAP, FLC.STATE, FLC.UNRECOV_CNT, FTL.FLM_STATE, FTL.RESERVE_LUNS, FTL.RESERVE_READY_MIB, FTL.SPARE_BLOCKS, HDR.ERR_INFO0, HDR.ERR_INFO1, HDR.ERR_STAT, HDR.EVT_STAT, HRV.BIND, HRV.HRV_TIDE_NOW, MGT.ALARM_SENT, NVS.FAST_BAD, PWR.PWR_WAKE_LATCH, PWR.STATE, REC.ALARM_DROP, REC.HEAD_SEQ, REC.LOST_CNT, REC.OVW_CNT, REC.RSV_USED, XLT.MEDIA_RO]⟩
theorem execFlashEraseDone_keeps (glun : BitVec 12) (block : BitVec 16) (pass : Bool) (s : State) : State.KeepsR execFlashEraseDone_scope s (execFlashEraseDone glun block pass s) := by
  unfold execFlashEraseDone
  (try dsimp only)
  repeat' first
    | with_reducible exact State.Keeps.refl _ _
    | with_reducible apply State.KeepsR.next
    | with_reducible apply State.KeepsR.ite
    | with_reducible apply State.Keeps.ite
    | ((with_reducible apply State.Keeps.step (State.retire_keeps ..)); rotate_right; decide)
    | ((with_reducible apply State.Keeps.step (State.lunOp_keeps ..)); rotate_right; decide)
    | ((with_reducible apply State.Keeps.step (State.health_keeps ..)); rotate_right; decide)
    | ((with_reducible apply State.Keeps.step (State.inc_keeps ..)); rotate_right; decide)
    | ((with_reducible apply State.Keeps.step (State.putBlk_keeps ..)); rotate_right; decide)
    | ((with_reducible apply State.Keeps.step (State.jAppend_keeps ..)); rotate_right; decide)
    | with_reducible assumption
    | ((with_reducible apply State.Keeps.step (State.placeWaiting_keeps ..)); rotate_right; decide)

def execFlashProgramDone_scope : Scope := ⟨[.regs, .evf, .recd, .hp, .twn, .pwr, .flm, .out, .free], some [EVF.ALERT_DRV, EVF.TRACE_DROP, FLC.LUN_LOST_MAP, FLC.PROG_FAIL_CNT, FLC.STATE, FLC.UNRECOV_CNT, FTL.FLM_STATE, FTL.RESERVE_LUNS, FTL.RESERVE_READY_MIB, FTL.SPARE_BLOCKS, HDR.ERR_INFO0, HDR.ERR_INFO1, HDR.ERR_STAT, HDR.EVT_STAT, HRV.BIND, HRV.HRV_TIDE_NOW, MGT.ALARM_SENT, NVS.FAST_BAD, PWR.PWR_WAKE_LATCH, PWR.STATE, REC.ALARM_DROP, REC.HEAD_SEQ, REC.LOST_CNT, REC.OVW_CNT, REC.RSV_USED, XLT.MEDIA_RO]⟩
theorem execFlashProgramDone_keeps (glun : BitVec 12) (block : BitVec 16) (pass : Bool) (s : State) : State.KeepsR execFlashProgramDone_scope s (execFlashProgramDone glun block pass s) := by
  unfold execFlashProgramDone
  (try dsimp only)
  repeat' first
    | with_reducible exact State.Keeps.refl _ _
    | with_reducible apply State.KeepsR.next
    | with_reducible apply State.Keeps.ite
    | ((with_reducible apply State.Keeps.step (State.lunOp_keeps ..)); rotate_right; decide)
    | ((with_reducible apply State.Keeps.step (State.pageDone_keeps ..)); rotate_right; decide)
    | ((with_reducible apply State.Keeps.step (State.parityDone_keeps ..)); rotate_right; decide)
    | ((with_reducible apply State.Keeps.step (State.health_keeps ..)); rotate_right; decide)
    | ((with_reducible apply State.Keeps.step (State.inc_keeps ..)); rotate_right; decide)
    | with_reducible assumption
    | with_reducible apply State.KeepsR.ite
    | ((with_reducible apply State.Keeps.step (State.retire_keeps ..)); rotate_right; decide)
    | ((with_reducible apply State.Keeps.step (State.reserveCount_keeps ..)); rotate_right; decide)
    | with_reducible refine State.Keeps.fst ‹_ = (_, _)› ?_
    | ((with_reducible apply State.Keeps.step (State.placeWaiting_keeps ..)); rotate_right; decide)
    | split

def State.unitLost_scope : Scope := ⟨[.regs, .evf, .recd, .xlt, .hp, .qe, .mov, .tier, .pan, .cmn, .pwr, .dmc, .flm, .out, .free], some [CME.VIOL_TX, CMP.TX_FRAMES, EVF.ALERT_DRV, EVF.TRACE_DROP, HDR.ERR_INFO0, HDR.ERR_INFO1, HDR.ERR_STAT, HDR.EVT_STAT, HP.POISON_CNT, HP.REFUSE_CNT, MGT.ALARM_SENT, MOV.FAULT_CNT, MOV.LAST_FCLASS, MOV.LAST_FOFF, MOV.LAST_STATUS, MOV.OFFLINE, MOV.STATE, PAN.LOCKS_RELEASED, PAN.LOCK_LOST_CNT, PAN.WB_CNT, PWR.PWR_WAKE_LATCH, PWR.STATE, REC.ALARM_DROP, REC.HEAD_SEQ, REC.LOST_CNT, REC.OVW_CNT, REC.RSV_USED, TIER.SLOW_PATH, TIER.SUBST]⟩
theorem State.unitLost_keeps (s : State) (tun : Nat) : State.Keeps State.unitLost_scope s (State.unitLost s tun) := by
  unfold State.unitLost
  (try dsimp only)
  repeat' first
    | with_reducible exact State.Keeps.refl _ _
    | with_reducible assumption
    | with_reducible apply State.Keeps.ite
    | ((with_reducible apply State.Keeps.step (State.fillFail_keeps ..)); rotate_right; decide)
    | ((with_reducible apply State.Keeps.step (State.directFail_keeps ..)); rotate_right; decide)
    | ((with_reducible apply State.Keeps.step (State.movSettle_keeps ..)); rotate_right; decide)

def execFlashReadDone_scope : Scope := ⟨[.regs, .evf, .recd, .xlt, .hp, .qe, .mov, .tier, .pan, .cmn, .pwr, .dmc, .flm, .out, .free], some [CME.VIOL_TX, CMP.TX_FRAMES, EVF.ALERT_DRV, EVF.TRACE_DROP, FLC.CORR_BITS, FLC.UNRECOV_CNT, HDR.ERR_INFO0, HDR.ERR_INFO1, HDR.ERR_STAT, HDR.EVT_STAT, HP.POISON_CNT, HP.REFUSE_CNT, MGT.ALARM_SENT, MOV.FAULT_CNT, MOV.LAST_FCLASS, MOV.LAST_FOFF, MOV.LAST_STATUS, MOV.OFFLINE, MOV.STATE, PAN.HIT_CNT, PAN.LOCKS_RELEASED, PAN.LOCK_LOST_CNT, PAN.MISS_CNT, PAN.WB_CNT, PWR.PWR_WAKE_LATCH, PWR.STATE, REC.ALARM_DROP, REC.HEAD_SEQ, REC.LOST_CNT, REC.OVW_CNT, REC.RSV_USED, TIER.SLOW_PATH, TIER.SUBST]⟩
theorem execFlashReadDone_keeps (tun : Nat) (step : ReadStep) (word : Nat) (corr : Nat) (s : State) : State.KeepsR execFlashReadDone_scope s (execFlashReadDone tun step word corr s) := by
  unfold execFlashReadDone
  (try dsimp only)
  repeat' first
    | with_reducible exact State.Keeps.refl _ _
    | with_reducible assumption
    | with_reducible apply State.KeepsR.next
    | with_reducible apply State.KeepsR.ite
    | with_reducible apply State.Keeps.ite
    | ((with_reducible apply State.Keeps.step (State.health_keeps ..)); rotate_right; decide)
    | ((with_reducible apply State.Keeps.step (State.incMod_keeps ..)); rotate_right; decide)
    | ((with_reducible apply State.Keeps.step (State.assign_keeps ..)); rotate_right; decide)
    | ((with_reducible apply State.Keeps.step (State.fillDone_keeps ..)); rotate_right; decide)
    | ((with_reducible apply State.Keeps.step (State.directDone_keeps ..)); rotate_right; decide)
    | ((with_reducible apply State.Keeps.step (State.movSettle_keeps ..)); rotate_right; decide)
    | ((with_reducible apply State.Keeps.step (State.inc_keeps ..)); rotate_right; decide)
    | ((with_reducible apply State.Keeps.step (State.misc_keeps ..)); rotate_right; decide)
    | ((with_reducible apply State.Keeps.step (State.fillFail_keeps ..)); rotate_right; decide)
    | ((with_reducible apply State.Keeps.step (State.directFail_keeps ..)); rotate_right; decide)
    | ((with_reducible apply State.Keeps.step (State.emit_keeps ..)); rotate_right; decide)
    | ((with_reducible apply State.Keeps.step (State.t2Write_keeps ..)); rotate_right; decide)
    | ((with_reducible apply State.Keeps.step (State.t2Seal_keeps ..)); rotate_right; decide)
    | ((with_reducible apply State.Keeps.step (State.bitternStale_keeps ..)); rotate_right; decide)
    | ((with_reducible apply State.Keeps.foldl); rotate_right; intro _ _ _; rotate_left)
    | with_reducible refine State.Keeps.fst ‹_ = (_, _)› ?_
    | ((with_reducible apply State.Keeps.step (State.readEnded_keeps ..)); rotate_right; decide)
    | ((with_reducible apply State.Keeps.step (State.unitLost_keeps ..)); rotate_right; decide)
    | ((with_reducible apply State.Keeps.step (State.twinSend_keeps ..)); rotate_right; decide)
    | ((with_reducible apply State.Keeps.foldl1); rotate_right; intro _ _ _; rotate_left)
    | split

def execFlashScrub_scope : Scope := ⟨[.flm], some []⟩
theorem execFlashScrub_keeps (glun : BitVec 12) (block : BitVec 16) (corrected : Option (BitVec 16)) (s : State) : State.KeepsR execFlashScrub_scope s (execFlashScrub glun block corrected s) := by
  unfold execFlashScrub
  (try dsimp only)
  repeat' first
    | with_reducible exact State.Keeps.refl _ _
    | with_reducible apply State.KeepsR.next
    | with_reducible apply State.KeepsR.ite
    | ((with_reducible apply State.Keeps.step (State.rakeBlock_keeps ..)); rotate_right; decide)
    | with_reducible assumption
    | with_reducible apply State.Keeps.ite
    | ((with_reducible apply State.Keeps.step (State.putBlk_keeps ..)); rotate_right; decide)

def execFlmBringupDone_scope : Scope := ⟨[.regs, .evf, .recd, .hp, .twn, .pwr, .flm, .out, .free], some [EVF.ALERT_DRV, EVF.TRACE_DROP, FLC.CE_PRESENT, FLC.LUN_LOST_MAP, FLC.RATE_NOW, FLC.STATE, FLC.UNRECOV_CNT, FTL.FLM_STATE, FTL.RESERVE_LUNS, FTL.RESERVE_READY_MIB, FTL.SPARE_BLOCKS, HDR.ERR_INFO0, HDR.ERR_INFO1, HDR.ERR_STAT, HDR.EVT_STAT, HRV.BIND, HRV.HRV_TIDE_NOW, MGT.ALARM_SENT, NVS.FAST_BAD, PWR.PWR_WAKE_LATCH, PWR.STATE, REC.ALARM_DROP, REC.HEAD_SEQ, REC.LOST_CNT, REC.OVW_CNT, REC.RSV_USED, XLT.MEDIA_RO]⟩
theorem execFlmBringupDone_keeps (ch : FChan) (res : BringupRes) (s : State) : State.KeepsR execFlmBringupDone_scope s (execFlmBringupDone ch res s) := by
  unfold execFlmBringupDone
  (try dsimp only)
  repeat' first
    | with_reducible exact State.Keeps.refl _ _
    | with_reducible assumption
    | with_reducible apply State.KeepsR.next
    | with_reducible apply State.KeepsR.ite
    | with_reducible apply State.Keeps.ite
    | fail_if_no_progress ((with_reducible apply State.Keeps.upd_flm); rotate_right; decide)
    | ((with_reducible apply State.Keeps.step (State.put_keeps ..)); rotate_right; decide)
    | ((with_reducible apply State.Keeps.step (State.wpN_keeps ..)); rotate_right; decide)
    | ((with_reducible apply State.Keeps.step (State.flmGeometry_keeps ..)); rotate_right; decide)
    | ((with_reducible apply State.Keeps.step (State.blkErr_keeps ..)); rotate_right; decide)
    | ((with_reducible apply State.Keeps.step (State.putBlk_keeps ..)); rotate_right; decide)
    | ((with_reducible apply State.Keeps.step (State.putBit_keeps ..)); rotate_right; decide)
    | ((with_reducible apply State.Keeps.step (State.emit_keeps ..)); rotate_right; decide)
    | ((with_reducible apply State.Keeps.step (State.flmOut_keeps ..)); rotate_right; decide)
    | ((with_reducible apply State.Keeps.foldl); rotate_right; intro _ _ _; rotate_left)
    | ((with_reducible apply State.Keeps.step (State.lunLost_keeps ..)); rotate_right; decide)
    | ((with_reducible apply State.Keeps.step (State.flmLuns_keeps ..)); rotate_right; decide)
    | ((with_reducible apply State.Keeps.foldl1); rotate_right; intro _ _ _; rotate_left)
    | split

def State.mapArrived_scope : Scope := ⟨[.regs, .evf, .recd, .xlt, .hp, .qe, .mov, .tier, .pan, .cmn, .pwr, .dmc, .flm, .out, .free], some [CME.VIOL_TX, CMP.TX_FRAMES, EVF.ALERT_DRV, EVF.TRACE_DROP, HDR.ERR_INFO0, HDR.ERR_INFO1, HDR.ERR_STAT, HDR.EVT_STAT, HP.POISON_CNT, HP.REFUSE_CNT, MGT.ALARM_SENT, MOV.FAULT_CNT, MOV.LAST_FCLASS, MOV.LAST_FOFF, MOV.LAST_STATUS, MOV.OFFLINE, MOV.STATE, PAN.LOCKS_RELEASED, PAN.LOCK_LOST_CNT, PAN.WB_CNT, PWR.PWR_WAKE_LATCH, PWR.STATE, REC.ALARM_DROP, REC.HEAD_SEQ, REC.LOST_CNT, REC.OVW_CNT, REC.RSV_USED, TIER.SLOW_PATH, TIER.SUBST]⟩
theorem State.mapArrived_keeps (s : State) (mpi : Nat) (good : Bool) : State.Keeps State.mapArrived_scope s (State.mapArrived s mpi good) := by
  unfold State.mapArrived
  (try dsimp only)
  repeat' first
    | with_reducible exact State.Keeps.refl _ _
    | with_reducible assumption
    | with_reducible apply State.Keeps.ite
    | fail_if_no_progress ((with_reducible apply State.Keeps.upd_flm); rotate_right; decide)
    | ((with_reducible apply State.Keeps.step (State.t2Issue_keeps ..)); rotate_right; decide)
    | ((with_reducible apply State.Keeps.step (State.mapUse_keeps ..)); rotate_right; decide)
    | ((with_reducible apply State.Keeps.step (State.unitLost_keeps ..)); rotate_right; decide)
    | ((with_reducible apply State.Keeps.foldl1); rotate_right; intro _ _ _; rotate_left)
    | ((with_reducible apply State.Keeps.foldl); rotate_right; intro _ _ _; rotate_left)

def execFlmReadOnly_scope : Scope := State.enterReadOnly_scope
theorem execFlmReadOnly_keeps (s : State) : State.KeepsR execFlmReadOnly_scope s (execFlmReadOnly s) := by
  unfold execFlmReadOnly
  (try dsimp only)
  repeat' first
    | with_reducible exact State.Keeps.refl _ _
    | with_reducible apply State.KeepsR.next
    | with_reducible apply State.KeepsR.ite
    | ((with_reducible apply State.Keeps.step (State.enterReadOnly_keeps ..)); rotate_right; decide)

def execHealthUpdate_scope : Scope := ⟨[.regs, .flm], some [FTL.BLOCKS_RETIRED, FTL.CORR_BITS, FTL.ERASE_FAILS, FTL.HEALTH_SEQ, FTL.LIFE_USED_PCT, FTL.LUNS_LOST, FTL.PARITY_REBUILDS, FTL.PROG_FAILS, FTL.READ_RETRIES, FTL.SPARE_LEFT_PCT, FTL.TEMP_HOURS, FTL.TEMP_MAX, FTL.TEMP_MIN, FTL.TEMP_NOW, FTL.TWIN_FETCHES, FTL.UNRECOVERABLE, FTL.WEAR_USED_PCT]⟩
theorem execHealthUpdate_keeps (s : State) : State.KeepsR execHealthUpdate_scope s (execHealthUpdate s) := by
  unfold execHealthUpdate
  (try dsimp only)
  repeat' first
    | with_reducible exact State.Keeps.refl _ _
    | with_reducible assumption
    | with_reducible apply State.KeepsR.next
    | ((with_reducible apply State.Keeps.step (State.incMod_keeps ..)); rotate_right; decide)
    | ((with_reducible apply State.Keeps.step (State.ftlPut_keeps ..)); rotate_right; decide)
    | ((with_reducible apply State.Keeps.step (State.put_keeps ..)); rotate_right; decide)
    | ((with_reducible apply State.Keeps.step (State.health_keeps ..)); rotate_right; decide)
    | ((with_reducible apply State.Keeps.foldl); rotate_right; intro _ _ _; rotate_left)

def State.land_scope : Scope := ⟨[.tier, .flm], some []⟩
theorem State.land_keeps (s : State) (rs : List JRec) : State.Keeps State.land_scope s (State.land s rs) := by
  unfold State.land
  (try dsimp only)
  repeat' first
    | with_reducible exact State.Keeps.refl _ _
    | with_reducible assumption
    | with_reducible apply State.Keeps.ite
    | fail_if_no_progress ((with_reducible apply State.Keeps.upd_flm); rotate_right; decide)
    | ((with_reducible apply State.Keeps.step (State.t2PutUnit_keeps ..)); rotate_right; decide)
    | ((with_reducible apply State.Keeps.foldl1); rotate_right; intro _ _ _; rotate_left)
    | ((with_reducible apply State.Keeps.foldl); rotate_right; intro _ _ _; rotate_left)

def execJournalPageDurable_scope : Scope := ⟨[.regs, .evf, .recd, .hp, .tier, .twn, .pwr, .flm, .out, .free], some [EVF.ALERT_DRV, EVF.TRACE_DROP, FLC.UNRECOV_CNT, HDR.ERR_INFO0, HDR.ERR_INFO1, HDR.ERR_STAT, HDR.EVT_STAT, MGT.ALARM_SENT, PWR.PWR_WAKE_LATCH, PWR.STATE, REC.ALARM_DROP, REC.HEAD_SEQ, REC.LOST_CNT, REC.OVW_CNT, REC.RSV_USED]⟩
theorem execJournalPageDurable_keeps (pass : Bool) (s : State) : State.KeepsR execJournalPageDurable_scope s (execJournalPageDurable pass s) := by
  unfold execJournalPageDurable
  (try dsimp only)
  repeat' first
    | with_reducible exact State.Keeps.refl _ _
    | with_reducible assumption
    | with_reducible apply State.KeepsR.next
    | with_reducible apply State.KeepsR.ite
    | fail_if_no_progress ((with_reducible apply State.Keeps.upd_flm); rotate_right; decide)
    | ((with_reducible apply State.Keeps.step (State.rakeCheck_keeps ..)); rotate_right; decide)
    | ((with_reducible apply State.Keeps.step (State.writeBackDone_keeps ..)); rotate_right; decide)
    | ((with_reducible apply State.Keeps.step (State.jApply_keeps ..)); rotate_right; decide)
    | ((with_reducible apply State.Keeps.foldl); rotate_right; intro _ _ _; rotate_left)
    | with_reducible apply State.Keeps.ite
    | ((with_reducible apply State.Keeps.step (State.land_keeps ..)); rotate_right; decide)
    | ((with_reducible apply State.Keeps.step (State.rebuild_keeps ..)); rotate_right; decide)
    | ((with_reducible apply State.Keeps.foldl1); rotate_right; intro _ _ _; rotate_left)
    | with_reducible refine State.Keeps.fst ‹_ = (_, _)› ?_
    | split

def execJournalPageTimer_scope : Scope := ⟨[.flm, .out, .free], some []⟩
theorem execJournalPageTimer_keeps (s : State) : State.KeepsR execJournalPageTimer_scope s (execJournalPageTimer s) := by
  unfold execJournalPageTimer
  (try dsimp only)
  repeat' first
    | with_reducible exact State.Keeps.refl _ _
    | with_reducible apply State.KeepsR.next
    | ((with_reducible apply State.Keeps.step (State.jProgram_keeps ..)); rotate_right; decide)

def execLunLost_scope : Scope := State.lunLost_scope
theorem execLunLost_keeps (glun : BitVec 12) (s : State) : State.KeepsR execLunLost_scope s (execLunLost glun s) := by
  unfold execLunLost
  (try dsimp only)
  repeat' first
    | with_reducible exact State.Keeps.refl _ _
    | with_reducible apply State.KeepsR.next
    | ((with_reducible apply State.Keeps.step (State.lunLost_keeps ..)); rotate_right; decide)

def execMapPageReadDone_scope : Scope := ⟨[.regs, .evf, .recd, .xlt, .hp, .qe, .mov, .tier, .pan, .cmn, .pwr, .dmc, .flm, .out, .free], some [CME.VIOL_TX, CMP.TX_FRAMES, EVF.ALERT_DRV, EVF.TRACE_DROP, HDR.ERR_INFO0, HDR.ERR_INFO1, HDR.ERR_STAT, HDR.EVT_STAT, HP.POISON_CNT, HP.REFUSE_CNT, MGT.ALARM_SENT, MOV.FAULT_CNT, MOV.LAST_FCLASS, MOV.LAST_FOFF, MOV.LAST_STATUS, MOV.OFFLINE, MOV.STATE, PAN.LOCKS_RELEASED, PAN.LOCK_LOST_CNT, PAN.WB_CNT, PWR.PWR_WAKE_LATCH, PWR.STATE, REC.ALARM_DROP, REC.HEAD_SEQ, REC.LOST_CNT, REC.OVW_CNT, REC.RSV_USED, TIER.SLOW_PATH, TIER.SUBST]⟩
theorem execMapPageReadDone_keeps (mpi : Nat) (first : Bool) (second : Bool) (s : State) : State.KeepsR execMapPageReadDone_scope s (execMapPageReadDone mpi first second s) := by
  unfold execMapPageReadDone
  (try dsimp only)
  repeat' first
    | with_reducible exact State.Keeps.refl _ _
    | with_reducible apply State.KeepsR.next
    | with_reducible apply State.KeepsR.ite
    | fail_if_no_progress ((with_reducible apply State.Keeps.upd_flm); rotate_right; decide)
    | ((with_reducible apply State.Keeps.step (State.blkErr_keeps ..)); rotate_right; decide)
    | ((with_reducible apply State.Keeps.step (State.emit_keeps ..)); rotate_right; decide)
    | with_reducible assumption
    | with_reducible apply State.Keeps.ite
    | ((with_reducible apply State.Keeps.step (State.mapFlush_keeps ..)); rotate_right; decide)
    | ((with_reducible apply State.Keeps.step (State.mapArrived_keeps ..)); rotate_right; decide)

def execOpTimeout_scope : Scope := ⟨[.regs, .evf, .recd, .hp, .twn, .pwr, .flm, .out, .free], some [EVF.ALERT_DRV, EVF.TRACE_DROP, FLC.LUN_LOST_MAP, FLC.OP_TIMEOUT_CNT, FLC.STATE, FLC.UNRECOV_CNT, FTL.FLM_STATE, FTL.RESERVE_LUNS, FTL.RESERVE_READY_MIB, FTL.SPARE_BLOCKS, HDR.ERR_INFO0, HDR.ERR_INFO1, HDR.ERR_STAT, HDR.EVT_STAT, HRV.BIND, HRV.HRV_TIDE_NOW, MGT.ALARM_SENT, NVS.FAST_BAD, PWR.PWR_WAKE_LATCH, PWR.STATE, REC.ALARM_DROP, REC.HEAD_SEQ, REC.LOST_CNT, REC.OVW_CNT, REC.RSV_USED, XLT.MEDIA_RO]⟩
theorem execOpTimeout_keeps (glun : BitVec 12) (s : State) : State.KeepsR execOpTimeout_scope s (execOpTimeout glun s) := by
  unfold execOpTimeout
  (try dsimp only)
  repeat' first
    | with_reducible exact State.Keeps.refl _ _
    | with_reducible apply State.KeepsR.next
    | with_reducible apply State.KeepsR.ite
    | ((with_reducible apply State.Keeps.step (State.inc_keeps ..)); rotate_right; decide)
    | ((with_reducible apply State.Keeps.step (State.lunOp_keeps ..)); rotate_right; decide)

def execRakeStart_scope : Scope := ⟨[.flm, .free], some []⟩
theorem execRakeStart_keeps (glun : BitVec 12) (s : State) : State.KeepsR execRakeStart_scope s (execRakeStart glun s) := by
  unfold execRakeStart
  (try dsimp only)
  repeat' first
    | with_reducible exact State.Keeps.refl _ _
    | with_reducible apply State.KeepsR.next
    | with_reducible apply State.KeepsR.ite
    | ((with_reducible apply State.Keeps.step (State.rakeBlock_keeps ..)); rotate_right; decide)
    | ((with_reducible apply State.Keeps.step (State.rakeSource_keeps ..)); rotate_right; decide)
    | with_reducible refine State.Keeps.fst ‹_ = (_, _)› ?_
    | with_reducible assumption
    | with_reducible apply State.Keeps.ite
    | split

def execRakeStep_scope : Scope := ⟨[.flm, .free], some []⟩
theorem execRakeStep_keeps (glun : BitVec 12) (s : State) : State.KeepsR execRakeStep_scope s (execRakeStep glun s) := by
  unfold execRakeStep
  (try dsimp only)
  repeat' first
    | with_reducible exact State.Keeps.refl _ _
    | with_reducible assumption
    | with_reducible apply State.KeepsR.next
    | with_reducible apply State.KeepsR.ite
    | fail_if_no_progress ((with_reducible apply State.Keeps.upd_flm); rotate_right; decide)
    | ((with_reducible apply State.Keeps.step (State.assign_keeps ..)); rotate_right; decide)
    | ((with_reducible apply State.Keeps.step (State.rakeCheck_keeps ..)); rotate_right; decide)
    | ((with_reducible apply State.Keeps.foldl); rotate_right; intro _ _ _; rotate_left)
    | with_reducible apply State.Keeps.ite
    | ((with_reducible apply State.Keeps.foldl1); rotate_right; intro _ _ _; rotate_left)
    | with_reducible refine State.Keeps.fst ‹_ = (_, _)› ?_
    | ((with_reducible apply State.Keeps.step (State.rakeEnd_keeps ..)); rotate_right; decide)
    | ((with_reducible apply State.Keeps.step (State.placeWaiting_keeps ..)); rotate_right; decide)
    | split

def State.replayed_scope : Scope := ⟨[.regs, .flm], some [FTL.SPARE_BLOCKS, FTL.SPARE_INIT]⟩
theorem State.replayed_keeps (s : State) : State.Keeps State.replayed_scope s (State.replayed s) := by
  unfold State.replayed
  (try dsimp only)
  repeat' first
    | with_reducible exact State.Keeps.refl _ _
    | with_reducible assumption
    | with_reducible apply State.Keeps.ite
    | fail_if_no_progress ((with_reducible apply State.Keeps.upd_flm); rotate_right; decide)
    | ((with_reducible apply State.Keeps.step (State.ftlPut_keeps ..)); rotate_right; decide)
    | ((with_reducible apply State.Keeps.foldl1); rotate_right; intro _ _ _; rotate_left)
    | ((with_reducible apply State.Keeps.foldl); rotate_right; intro _ _ _; rotate_left)

def execReplayDone_scope : Scope := ⟨[.regs, .evf, .recd, .hp, .pwr, .flm, .out, .free], some [EVF.ALERT_DRV, EVF.TRACE_DROP, FTL.FLM_STATE, FTL.RESERVE_LUNS, FTL.RESERVE_READY_MIB, FTL.SPARE_BLOCKS, FTL.SPARE_INIT, HDR.ERR_INFO0, HDR.ERR_INFO1, HDR.ERR_STAT, HDR.EVT_STAT, HRV.BIND, HRV.HRV_TIDE_NOW, MGT.ALARM_SENT, NVS.FAST_BAD, PWR.PWR_WAKE_LATCH, PWR.STATE, REC.ALARM_DROP, REC.HEAD_SEQ, REC.LOST_CNT, REC.OVW_CNT, REC.RSV_USED, XLT.MEDIA_RO]⟩
theorem execReplayDone_keeps (s : State) : State.KeepsR execReplayDone_scope s (execReplayDone s) := by
  unfold execReplayDone
  (try dsimp only)
  repeat' first
    | with_reducible exact State.Keeps.refl _ _
    | with_reducible apply State.KeepsR.next
    | with_reducible apply State.KeepsR.ite
    | with_reducible apply State.Keeps.ite
    | ((with_reducible apply State.Keeps.step (State.spillResume_keeps ..)); rotate_right; decide)
    | ((with_reducible apply State.Keeps.step (State.spareCheck_keeps ..)); rotate_right; decide)
    | ((with_reducible apply State.Keeps.step (State.ftlPut_keeps ..)); rotate_right; decide)
    | ((with_reducible apply State.Keeps.step (State.put_keeps ..)); rotate_right; decide)
    | ((with_reducible apply State.Keeps.step (State.orphanBlocks_keeps ..)); rotate_right; decide)
    | ((with_reducible apply State.Keeps.step (State.reserveCount_keeps ..)); rotate_right; decide)
    | with_reducible assumption
    | ((with_reducible apply State.Keeps.step (State.replayed_keeps ..)); rotate_right; decide)

def execReserveBlockReplace_scope : Scope := ⟨[.regs, .evf, .recd, .hp, .pwr, .flm, .out, .free], some [EVF.ALERT_DRV, EVF.TRACE_DROP, FTL.FLM_STATE, FTL.RESERVE_LUNS, FTL.RESERVE_READY_MIB, FTL.SPARE_BLOCKS, HDR.ERR_INFO0, HDR.ERR_INFO1, HDR.ERR_STAT, HDR.EVT_STAT, HRV.BIND, HRV.HRV_TIDE_NOW, MGT.ALARM_SENT, NVS.FAST_BAD, PWR.PWR_WAKE_LATCH, PWR.STATE, REC.ALARM_DROP, REC.HEAD_SEQ, REC.LOST_CNT, REC.OVW_CNT, REC.RSV_USED, XLT.MEDIA_RO]⟩
theorem execReserveBlockReplace_keeps (glun : BitVec 12) (block : BitVec 16) (bad : Bool) (s : State) : State.KeepsR execReserveBlockReplace_scope s (execReserveBlockReplace glun block bad s) := by
  unfold execReserveBlockReplace
  (try dsimp only)
  repeat' first
    | with_reducible exact State.Keeps.refl _ _
    | with_reducible apply State.KeepsR.next
    | with_reducible apply State.KeepsR.ite
    | ((with_reducible apply State.Keeps.step (State.putBlk_keeps ..)); rotate_right; decide)
    | ((with_reducible apply State.Keeps.step (State.reserveCount_keeps ..)); rotate_right; decide)
    | ((with_reducible apply State.Keeps.step (State.retire_keeps ..)); rotate_right; decide)
    | with_reducible assumption
    | with_reducible apply State.Keeps.ite
    | with_reducible refine State.Keeps.fst ‹_ = (_, _)› ?_
    | split

def execSourceErase_scope : Scope := ⟨[.flm, .out], some []⟩
theorem execSourceErase_keeps (glun : BitVec 12) (block : BitVec 16) (s : State) : State.KeepsR execSourceErase_scope s (execSourceErase glun block s) := by
  unfold execSourceErase
  (try dsimp only)
  repeat' first
    | with_reducible exact State.Keeps.refl _ _
    | with_reducible apply State.KeepsR.next
    | with_reducible apply State.KeepsR.ite
    | ((with_reducible apply State.Keeps.step (State.putBlk_keeps ..)); rotate_right; decide)
    | ((with_reducible apply State.Keeps.step (State.emit_keeps ..)); rotate_right; decide)
    | with_reducible assumption
    | with_reducible apply State.Keeps.ite

def execStaticWearLevel_scope : Scope := ⟨[.flm, .free], some []⟩
theorem execStaticWearLevel_keeps (s : State) : State.KeepsR execStaticWearLevel_scope s (execStaticWearLevel s) := by
  unfold execStaticWearLevel
  (try dsimp only)
  repeat' first
    | with_reducible exact State.Keeps.refl _ _
    | with_reducible apply State.KeepsR.next
    | with_reducible apply State.KeepsR.ite
    | ((with_reducible apply State.Keeps.step (State.openStripe_keeps ..)); rotate_right; decide)
    | ((with_reducible apply State.Keeps.step (State.rakeBlock_keeps ..)); rotate_right; decide)
    | with_reducible assumption
    | with_reducible apply State.Keeps.ite
    | ((with_reducible apply State.Keeps.foldl1); rotate_right; intro _ _ _; rotate_left)
    | ((with_reducible apply State.Keeps.foldl); rotate_right; intro _ _ _; rotate_left)
    | with_reducible refine State.Keeps.fst ‹_ = (_, _)› ?_
    | split

def execStripeRowTimeout_scope : Scope := ⟨[.flm, .out], some []⟩
theorem execStripeRowTimeout_keeps (stripe : Nat) (s : State) : State.KeepsR execStripeRowTimeout_scope s (execStripeRowTimeout stripe s) := by
  unfold execStripeRowTimeout
  (try dsimp only)
  repeat' first
    | with_reducible exact State.Keeps.refl _ _
    | with_reducible apply State.KeepsR.next
    | with_reducible apply State.KeepsR.ite
    | ((with_reducible apply State.Keeps.step (State.putStripe_keeps ..)); rotate_right; decide)
    | ((with_reducible apply State.Keeps.step (State.stripeStep_keeps ..)); rotate_right; decide)
    | split

def execSuspendTimeout_scope : Scope := ⟨[.flm, .out], some []⟩
theorem execSuspendTimeout_keeps (glun : BitVec 12) (s : State) : State.KeepsR execSuspendTimeout_scope s (execSuspendTimeout glun s) := by
  unfold execSuspendTimeout
  (try dsimp only)
  repeat' first
    | with_reducible exact State.Keeps.refl _ _
    | with_reducible apply State.KeepsR.next
    | with_reducible apply State.KeepsR.ite
    | fail_if_no_progress ((with_reducible apply State.Keeps.upd_flm); rotate_right; decide)
    | ((with_reducible apply State.Keeps.step (State.emit_keeps ..)); rotate_right; decide)
    | with_reducible assumption
    | with_reducible apply State.Keeps.ite
    | ((with_reducible apply State.Keeps.step (State.suspend_keeps ..)); rotate_right; decide)

def execVerifyPage_scope : Scope := ⟨[.regs, .evf, .recd, .hp, .pwr, .flm, .out, .free], some [EVF.ALERT_DRV, EVF.TRACE_DROP, FTL.FLM_STATE, FTL.SPARE_BLOCKS, HDR.ERR_INFO0, HDR.ERR_INFO1, HDR.ERR_STAT, HDR.EVT_STAT, HRV.BIND, HRV.HRV_TIDE_NOW, MGT.ALARM_SENT, NVS.FAST_BAD, PWR.PWR_WAKE_LATCH, PWR.STATE, REC.ALARM_DROP, REC.HEAD_SEQ, REC.LOST_CNT, REC.OVW_CNT, REC.RSV_USED, XLT.MEDIA_RO]⟩
theorem execVerifyPage_keeps (stripe : Nat) (glun : BitVec 12) (block : BitVec 16) (corrected : Option (BitVec 16)) (last : Bool) (s : State) : State.KeepsR execVerifyPage_scope s (execVerifyPage stripe glun block corrected last s) := by
  unfold execVerifyPage
  (try dsimp only)
  repeat' first
    | with_reducible exact State.Keeps.refl _ _
    | with_reducible apply State.KeepsR.next
    | with_reducible apply State.KeepsR.ite
    | with_reducible apply State.Keeps.ite
    | ((with_reducible apply State.Keeps.step (State.putBlk_keeps ..)); rotate_right; decide)
    | ((with_reducible apply State.Keeps.step (State.rakeBlock_keeps ..)); rotate_right; decide)
    | ((with_reducible apply State.Keeps.step (State.retire_keeps ..)); rotate_right; decide)
    | ((with_reducible apply State.Keeps.step (State.putStripe_keeps ..)); rotate_right; decide)
    | ((with_reducible apply State.Keeps.step (State.verifyCheck_keeps ..)); rotate_right; decide)
    | with_reducible assumption
    | with_reducible refine State.Keeps.fst ‹_ = (_, _)› ?_
    | split

def State.ftlLost_scope : Scope := ⟨[.tier, .twn, .flm], some []⟩
theorem State.ftlLost_keeps (s : State) : State.Keeps State.ftlLost_scope s (State.ftlLost s) := by
  unfold State.ftlLost
  (try dsimp only)
  repeat' first
    | with_reducible exact State.Keeps.refl _ _
    | with_reducible assumption
    | with_reducible apply State.Keeps.ite
    | fail_if_no_progress ((with_reducible apply State.Keeps.upd_flm); rotate_right; decide)
    | ((with_reducible apply State.Keeps.step (State.ftlStop_keeps ..)); rotate_right; decide)

def State.formatClear_scope : Scope := ⟨[.tier, .flm], some []⟩
theorem State.formatClear_keeps (s : State) : State.Keeps State.formatClear_scope s (State.formatClear s) := by
  unfold State.formatClear
  (try dsimp only)
  repeat' first
    | with_reducible exact State.Keeps.refl _ _
    | with_reducible assumption
    | with_reducible apply State.Keeps.ite
    | fail_if_no_progress ((with_reducible apply State.Keeps.upd_flm); rotate_right; decide)
    | fail_if_no_progress ((with_reducible apply State.Keeps.upd_tier); rotate_right; decide)
    | fail_if_no_progress ((with_reducible apply State.Keeps.upd); rotate_right; (intro p hp; cases p <;> first | exact absurd (by decide) hp | exact rfl))

def State.formatPools_scope : Scope := ⟨[.regs, .evf, .recd, .hp, .pwr, .flm, .out, .free], some [EVF.ALERT_DRV, EVF.TRACE_DROP, FTL.FLM_STATE, FTL.RESERVE_LUNS, FTL.RESERVE_READY_MIB, FTL.SPARE_BLOCKS, HDR.ERR_INFO0, HDR.ERR_INFO1, HDR.ERR_STAT, HDR.EVT_STAT, HRV.BIND, HRV.HRV_TIDE_NOW, MGT.ALARM_SENT, NVS.FAST_BAD, PWR.PWR_WAKE_LATCH, PWR.STATE, REC.ALARM_DROP, REC.HEAD_SEQ, REC.LOST_CNT, REC.OVW_CNT, REC.RSV_USED, XLT.MEDIA_RO]⟩
theorem State.formatPools_keeps (s : State) (used : List Nat) : State.Keeps State.formatPools_scope s (State.formatPools s used) := by
  unfold State.formatPools
  (try dsimp only)
  repeat' first
    | with_reducible exact State.Keeps.refl _ _
    | with_reducible assumption
    | with_reducible apply State.Keeps.ite
    | ((with_reducible apply State.Keeps.step (State.slcErased_keeps ..)); rotate_right; decide)
    | ((with_reducible apply State.Keeps.step (State.takeReserve_keeps ..)); rotate_right; decide)
    | ((with_reducible apply State.Keeps.step (State.putBlk_keeps ..)); rotate_right; decide)
    | ((with_reducible apply State.Keeps.step (State.reserveCount_keeps ..)); rotate_right; decide)
    | ((with_reducible apply State.Keeps.foldl1); rotate_right; intro _ _ _; rotate_left)
    | ((with_reducible apply State.Keeps.foldl); rotate_right; intro _ _ _; rotate_left)

def State.ftlFormat_scope : Scope := ⟨[.regs, .evf, .recd, .hp, .tier, .pwr, .flm, .out, .free], some [EVF.ALERT_DRV, EVF.TRACE_DROP, FTL.FLM_STATE, FTL.RESERVE_LUNS, FTL.RESERVE_READY_MIB, FTL.SPARE_BLOCKS, FTL.SPARE_INIT, HDR.ERR_INFO0, HDR.ERR_INFO1, HDR.ERR_STAT, HDR.EVT_STAT, HRV.BIND, HRV.HRV_TIDE_NOW, MGT.ALARM_SENT, NVS.FAST_BAD, PWR.PWR_WAKE_LATCH, PWR.STATE, REC.ALARM_DROP, REC.HEAD_SEQ, REC.LOST_CNT, REC.OVW_CNT, REC.RSV_USED, XLT.MEDIA_RO]⟩
theorem State.ftlFormat_keeps (s : State) : State.Keeps State.ftlFormat_scope s (State.ftlFormat s) := by
  unfold State.ftlFormat
  (try dsimp only)
  repeat' first
    | with_reducible exact State.Keeps.refl _ _
    | with_reducible assumption
    | with_reducible apply State.Keeps.ite
    | fail_if_no_progress ((with_reducible apply State.Keeps.upd_flm); rotate_right; decide)
    | ((with_reducible apply State.Keeps.step (State.formatClear_keeps ..)); rotate_right; decide)
    | ((with_reducible apply State.Keeps.step (State.badBlocks_keeps ..)); rotate_right; decide)
    | ((with_reducible apply State.Keeps.step (State.ftlPut_keeps ..)); rotate_right; decide)
    | ((with_reducible apply State.Keeps.step (State.formatPools_keeps ..)); rotate_right; decide)
    | ((with_reducible apply State.Keeps.step (State.ckptStart_keeps ..)); rotate_right; decide)
    | ((with_reducible apply State.Keeps.step (State.blkErr_keeps ..)); rotate_right; decide)
    | ((with_reducible apply State.Keeps.step (State.spillResume_keeps ..)); rotate_right; decide)

end Sys2Proof.Machine
end

