-- ==== Sys2Proof/Laws/KeepSeqOps.lean ====
section
/-! SUPPORT. What each operation of Machine/SeqOps.lean keeps: the parts of State it can change are those listed. -/
set_option linter.unusedTactic false
set_option linter.unreachableTactic false
namespace Sys2Proof.Machine

def State.putRail_scope : Scope := ⟨[.seq], some []⟩
theorem State.putRail_keeps (s : State) (n : Nat) (r : RailRun) : State.Keeps State.putRail_scope s (State.putRail s n r) := by
  unfold State.putRail
  (try dsimp only)
  repeat' first
    | with_reducible exact State.Keeps.refl _ _
    | fail_if_no_progress ((with_reducible apply State.Keeps.upd_seq); rotate_right; decide)

def State.enPin_scope : Scope := ⟨[.out], some []⟩
theorem State.enPin_keeps (s : State) (n : Nat) : State.Keeps State.enPin_scope s (State.enPin s n) := by
  unfold State.enPin
  (try dsimp only)
  repeat' first
    | with_reducible exact State.Keeps.refl _ _
    | with_reducible apply State.Keeps.ite
    | ((with_reducible apply State.Keeps.step (State.pinOut_keeps ..)); rotate_right; decide)

def State.railStart_scope : Scope := ⟨[.regs, .seq, .out], some [SEQ.RAIL_ON]⟩
theorem State.railStart_keeps (s : State) (n : Nat) : State.Keeps State.railStart_scope s (State.railStart s n) := by
  unfold State.railStart
  (try dsimp only)
  repeat' first
    | with_reducible exact State.Keeps.refl _ _
    | with_reducible apply State.Keeps.ite
    | ((with_reducible apply State.Keeps.step (State.putBit_keeps ..)); rotate_right; decide)
    | ((with_reducible apply State.Keeps.step (State.putRail_keeps ..)); rotate_right; decide)
    | ((with_reducible apply State.Keeps.step (State.enPin_keeps ..)); rotate_right; decide)

def State.faultNOff_scope : Scope := ⟨[.regs, .seq, .out], some [SEQ.FAULT_N_DRV, SEQ.FAULT_N_IN]⟩
theorem State.faultNOff_keeps (s : State) : State.Keeps State.faultNOff_scope s (State.faultNOff s) := by
  unfold State.faultNOff
  (try dsimp only)
  repeat' first
    | with_reducible exact State.Keeps.refl _ _
    | with_reducible apply State.Keeps.ite
    | fail_if_no_progress ((with_reducible apply State.Keeps.upd_seq); rotate_right; decide)
    | ((with_reducible apply State.Keeps.step (State.put_keeps ..)); rotate_right; decide)
    | ((with_reducible apply State.Keeps.step (State.pinOut_keeps ..)); rotate_right; decide)

def State.disPin_scope : Scope := ⟨[.out], some []⟩
theorem State.disPin_keeps (s : State) (n : Nat) : State.Keeps State.disPin_scope s (State.disPin s n) := by
  unfold State.disPin
  (try dsimp only)
  repeat' first
    | with_reducible exact State.Keeps.refl _ _
    | with_reducible apply State.Keeps.ite
    | ((with_reducible apply State.Keeps.step (State.pinOut_keeps ..)); rotate_right; decide)

def State.railRelease_scope : Scope := ⟨[.regs, .seq, .out], some [SEQ.DEV_GOOD, SEQ.RAIL_GOOD, SEQ.RAIL_ON]⟩
theorem State.railRelease_keeps (s : State) (n : Nat) : State.Keeps State.railRelease_scope s (State.railRelease s n) := by
  unfold State.railRelease
  (try dsimp only)
  repeat' first
    | with_reducible exact State.Keeps.refl _ _
    | with_reducible apply State.Keeps.ite
    | ((with_reducible apply State.Keeps.step (State.putBit_keeps ..)); rotate_right; decide)
    | ((with_reducible apply State.Keeps.step (State.putRail_keeps ..)); rotate_right; decide)
    | ((with_reducible apply State.Keeps.step (State.disPin_keeps ..)); rotate_right; decide)
    | split

def State.stepAbort_scope : Scope := ⟨[.regs, .out], some [SEQ.STEP_ACTIVE]⟩
theorem State.stepAbort_keeps (s : State) : State.Keeps State.stepAbort_scope s (State.stepAbort s) := by
  unfold State.stepAbort
  (try dsimp only)
  repeat' first
    | with_reducible exact State.Keeps.refl _ _
    | with_reducible apply State.Keeps.ite
    | ((with_reducible apply State.Keeps.step (State.put_keeps ..)); rotate_right; decide)
    | ((with_reducible apply State.Keeps.step (State.pinOut_keeps ..)); rotate_right; decide)

def State.railsRelease_scope : Scope := State.railRelease_scope
theorem State.railsRelease_keeps (s : State) (l : List Nat) : State.Keeps State.railsRelease_scope s (State.railsRelease s l) := by
  unfold State.railsRelease
  (try dsimp only)
  repeat' first
    | with_reducible exact State.Keeps.refl _ _
    | with_reducible assumption
    | ((with_reducible apply State.Keeps.step (State.railRelease_keeps ..)); rotate_right; decide)
    | ((with_reducible apply State.Keeps.foldl); rotate_right; intro _ _ _; rotate_left)

def State.stepStart_scope : Scope := ⟨[.regs, .out], some [SEQ.STEP_ACTIVE]⟩
theorem State.stepStart_keeps (s : State) : State.Keeps State.stepStart_scope s (State.stepStart s) := by
  unfold State.stepStart
  (try dsimp only)
  repeat' first
    | with_reducible exact State.Keeps.refl _ _
    | with_reducible apply State.Keeps.ite
    | ((with_reducible apply State.Keeps.step (State.put_keeps ..)); rotate_right; decide)
    | ((with_reducible apply State.Keeps.step (State.pinOut_keeps ..)); rotate_right; decide)

def State.faultN_scope : Scope := ⟨[.regs, .seq, .out], some [SEQ.FAULT_N_DRV, SEQ.FAULT_N_IN]⟩
theorem State.faultN_keeps (s : State) : State.Keeps State.faultN_scope s (State.faultN s) := by
  unfold State.faultN
  (try dsimp only)
  repeat' first
    | with_reducible exact State.Keeps.refl _ _
    | fail_if_no_progress ((with_reducible apply State.Keeps.upd_seq); rotate_right; decide)
    | ((with_reducible apply State.Keeps.step (State.put_keeps ..)); rotate_right; decide)
    | ((with_reducible apply State.Keeps.step (State.pinOut_keeps ..)); rotate_right; decide)

def State.shedRails_scope : Scope := ⟨[.regs, .seq, .out], some [SEQ.DEV_GOOD, SEQ.RAIL_GOOD, SEQ.RAIL_ON, SEQ.STATE]⟩
theorem State.shedRails_keeps (s : State) : State.Keeps State.shedRails_scope s (State.shedRails s) := by
  unfold State.shedRails
  (try dsimp only)
  repeat' first
    | with_reducible exact State.Keeps.refl _ _
    | fail_if_no_progress ((with_reducible apply State.Keeps.upd_seq); rotate_right; decide)
    | ((with_reducible apply State.Keeps.step (State.put_keeps ..)); rotate_right; decide)
    | ((with_reducible apply State.Keeps.step (State.railsRelease_keeps ..)); rotate_right; decide)

def State.railOff_scope : Scope := ⟨[.seq], some []⟩
theorem State.railOff_keeps (s : State) (n : Nat) : State.Keeps State.railOff_scope s (State.railOff s n) := by
  unfold State.railOff
  (try dsimp only)
  repeat' first
    | with_reducible exact State.Keeps.refl _ _
    | ((with_reducible apply State.Keeps.step (State.putRail_keeps ..)); rotate_right; decide)

def State.railGood_scope : Scope := ⟨[.regs, .seq], some [SEQ.DEV_GOOD, SEQ.RAIL_GOOD]⟩
theorem State.railGood_keeps (s : State) (n : Nat) : State.Keeps State.railGood_scope s (State.railGood s n) := by
  unfold State.railGood
  (try dsimp only)
  repeat' first
    | with_reducible exact State.Keeps.refl _ _
    | with_reducible apply State.Keeps.ite
    | ((with_reducible apply State.Keeps.step (State.putBit_keeps ..)); rotate_right; decide)
    | ((with_reducible apply State.Keeps.step (State.putRail_keeps ..)); rotate_right; decide)

end Sys2Proof.Machine
end

