-- ==== Sys2Proof/Laws/KeepRegOps.lean ====
section
/-! SUPPORT. What each operation of Machine/RegOps.lean keeps: the parts of State it can change are those listed. -/
set_option linter.unusedTactic false
set_option linter.unreachableTactic false
namespace Sys2Proof.Machine

def State.clkAbort_scope : Scope := ⟨[.regs], some [CLK.BUSY, CLK.RESULT]⟩
theorem State.clkAbort_keeps (s : State) : State.Keeps State.clkAbort_scope s (State.clkAbort s) := by
  unfold State.clkAbort
  (try dsimp only)
  repeat' first
    | with_reducible exact State.Keeps.refl _ _
    | with_reducible apply State.Keeps.ite
    | ((with_reducible apply State.Keeps.step (State.put_keeps ..)); rotate_right; decide)

def State.actAbandon_scope : Scope := ⟨[.regs, .wdn], some [WDN.ACT_STATE]⟩
theorem State.actAbandon_keeps (s : State) : State.Keeps State.actAbandon_scope s (State.actAbandon s) := by
  unfold State.actAbandon
  (try dsimp only)
  repeat' first
    | with_reducible exact State.Keeps.refl _ _
    | fail_if_no_progress ((with_reducible apply State.Keeps.upd_wdn); rotate_right; decide)
    | ((with_reducible apply State.Keeps.step (State.put_keeps ..)); rotate_right; decide)

def State.quiesceLatch_scope : Scope := ⟨[.regs], some [HDR.QUIESCED]⟩
theorem State.quiesceLatch_keeps (s : State) (p : Page) : State.Keeps State.quiesceLatch_scope s (State.quiesceLatch s p) := by
  unfold State.quiesceLatch
  (try dsimp only)
  repeat' first
    | with_reducible exact State.Keeps.refl _ _
    | with_reducible apply State.Keeps.ite
    | ((with_reducible apply State.Keeps.wr); rotate_right; decide; rotate_right; first | exact Or.inr (by decide) | exact Or.inl rfl)

def State.loadRwp_scope : Scope := ⟨[.regs, .hp, .seq], none⟩
theorem State.loadRwp_keeps (s : State) (hit : Page → Bool) : State.Keeps State.loadRwp_scope s (State.loadRwp s hit) := by
  unfold State.loadRwp
  (try dsimp only)
  repeat' first
    | with_reducible exact State.Keeps.refl _ _
    | with_reducible assumption
    | with_reducible apply State.Keeps.ite
    | ((with_reducible apply State.Keeps.wrAny); rotate_right; decide)
    | fail_if_no_progress ((with_reducible apply State.Keeps.upd_seq); rotate_right; decide)
    | ((with_reducible apply State.Keeps.foldl); rotate_right; intro _ _ _; rotate_left)
    | ((with_reducible apply State.Keeps.wr); rotate_right; decide; rotate_right; first | exact Or.inr (by decide) | exact Or.inl rfl)
    | fail_if_no_progress ((with_reducible apply State.Keeps.upd_hp); rotate_right; decide)
    | fail_if_no_progress ((with_reducible apply State.Keeps.upd); rotate_right; (intro p hp; cases p <;> first | exact absurd (by decide) hp | exact rfl))
    | ((with_reducible apply State.Keeps.foldl1); rotate_right; intro _ _ _; rotate_left)
    | with_reducible refine State.Keeps.fst ‹_ = (_, _)› ?_
    | split

def State.storeAbandon_scope : Scope := ⟨[.regs, .nvs], some [NVS.BUSY]⟩
theorem State.storeAbandon_keeps (s : State) : State.Keeps State.storeAbandon_scope s (State.storeAbandon s) := by
  unfold State.storeAbandon
  (try dsimp only)
  repeat' first
    | with_reducible exact State.Keeps.refl _ _
    | with_reducible apply State.Keeps.ite
    | fail_if_no_progress ((with_reducible apply State.Keeps.upd_nvs); rotate_right; decide)
    | ((with_reducible apply State.Keeps.step (State.put_keeps ..)); rotate_right; decide)

end Sys2Proof.Machine
end

