-- ==== Sys2Proof/Laws/KeepNvsOps.lean ====
section
/-! SUPPORT. What each operation of Machine/NvsOps.lean keeps: the parts of State it can change are those listed. -/
set_option linter.unusedTactic false
set_option linter.unreachableTactic false
namespace Sys2Proof.Machine

def State.nvsResult_scope : Scope := ⟨[.regs], some [NVS.RESULT]⟩
theorem State.nvsResult_keeps (s : State) (r : Nat) : State.Keeps State.nvsResult_scope s (State.nvsResult s r) := by
  unfold State.nvsResult
  (try dsimp only)
  repeat' first
    | with_reducible exact State.Keeps.refl _ _
    | ((with_reducible apply State.Keeps.step (State.put_keeps ..)); rotate_right; decide)

def State.slotErase_scope : Scope := ⟨[.regs, .nvs], some [NVS.RESULT]⟩
theorem State.slotErase_keeps (s : State) (id : Nat) : State.Keeps State.slotErase_scope s (State.slotErase s id) := by
  unfold State.slotErase
  (try dsimp only)
  repeat' first
    | with_reducible exact State.Keeps.refl _ _
    | with_reducible apply State.Keeps.ite
    | fail_if_no_progress ((with_reducible apply State.Keeps.upd_nvs); rotate_right; decide)
    | ((with_reducible apply State.Keeps.step (State.nvsResult_keeps ..)); rotate_right; decide)
    | with_reducible assumption

def State.slotWrite_scope : Scope := ⟨[.regs, .nvs], some [NVS.RESULT]⟩
theorem State.slotWrite_keeps (s : State) (id : Nat) (bytes : List Byte) : State.Keeps State.slotWrite_scope s (State.slotWrite s id bytes) := by
  unfold State.slotWrite
  (try dsimp only)
  repeat' first
    | with_reducible exact State.Keeps.refl _ _
    | with_reducible apply State.Keeps.ite
    | fail_if_no_progress ((with_reducible apply State.Keeps.upd_nvs); rotate_right; decide)
    | ((with_reducible apply State.Keeps.step (State.nvsResult_keeps ..)); rotate_right; decide)
    | with_reducible assumption
    | split

def State.reload_scope : Scope := ⟨[.regs, .evf, .recd, .hp, .mov, .pwr, .seq, .nvs, .out, .free], none⟩
theorem State.reload_keeps (s : State) : State.Keeps State.reload_scope s (State.reload s) := by
  unfold State.reload
  dsimp only
  split
  · exact State.Keeps.step (State.nvsResult_keeps ..) (State.Keeps.refl _ _) (by decide)
  · rename_i x _
    refine State.Keeps.step (State.nvsResult_keeps ..) (State.Keeps.step (State.put_keeps ..) ?_ (by decide)) (by decide)
    have h2 : ∀ xs : List (Page × Fld × Nat), State.Keeps State.reload_scope s (xs.foldl (fun t e =>
        if (!e.2.1.stage && !({ s with nvs.image := x.image } : State).quiesced e.1) then t
        else t.liveSet e.1 e.2.1 e.2.2 ((tget x.image.rwp (e.2.1.key e.1 e.2.2)).getD (e.2.1.resetAt ({ s with nvs.image := x.image } : State).unit e.2.2))) ({ s with nvs.image := x.image } : State)) := by
      intro xs
      refine State.Keeps.foldl (State.Keeps.upd_nvs (State.Keeps.refl _ _) (by decide)) (fun u a h => ?_)
      exact State.Keeps.ite h (State.Keeps.step (State.liveSet_keeps ..) h (by decide))
    exact State.Keeps.ite (State.Keeps.upd_seq (h2 rwpSlots) (by decide)) (h2 rwpSlots)

def State.storeBegin_scope : Scope := ⟨[.regs, .nvs], some [NVS.BUSY, NVS.PENDING]⟩
theorem State.storeBegin_keeps (s : State) : State.Keeps State.storeBegin_scope s (State.storeBegin s) := by
  unfold State.storeBegin
  (try dsimp only)
  repeat' first
    | with_reducible exact State.Keeps.refl _ _
    | fail_if_no_progress ((with_reducible apply State.Keeps.upd_nvs); rotate_right; decide)
    | ((with_reducible apply State.Keeps.step (State.put_keeps ..)); rotate_right; decide)

def State.storeRun_scope : Scope := ⟨[.regs, .evf, .recd, .hp, .pwr, .nvs, .out, .free], some [EVF.ALERT_DRV, EVF.TRACE_DROP, HDR.ERR_INFO0, HDR.ERR_INFO1, HDR.ERR_STAT, HDR.EVT_STAT, MGT.ALARM_SENT, NVS.BUSY, NVS.PENDING, NVS.RESULT, NVS.TOKENS, PWR.PWR_WAKE_LATCH, PWR.STATE, REC.ALARM_DROP, REC.HEAD_SEQ, REC.LOST_CNT, REC.OVW_CNT, REC.RSV_USED]⟩
theorem State.storeRun_keeps (s : State) : State.Keeps State.storeRun_scope s (State.storeRun s) := by
  unfold State.storeRun
  (try dsimp only)
  repeat' first
    | with_reducible exact State.Keeps.refl _ _
    | with_reducible apply State.Keeps.ite
    | ((with_reducible apply State.Keeps.step (State.dec_keeps ..)); rotate_right; decide)
    | ((with_reducible apply State.Keeps.step (State.storeBegin_keeps ..)); rotate_right; decide)
    | ((with_reducible apply State.Keeps.step (State.put_keeps ..)); rotate_right; decide)
    | ((with_reducible apply State.Keeps.step (State.nvsResult_keeps ..)); rotate_right; decide)
    | ((with_reducible apply State.Keeps.step (State.blkErr_keeps ..)); rotate_right; decide)

def State.storeFreeze_scope : Scope := ⟨[.regs, .nvs], some [NVS.BUSY, NVS.PENDING, NVS.TOKENS]⟩
theorem State.storeFreeze_keeps (s : State) : State.Keeps State.storeFreeze_scope s (State.storeFreeze s) := by
  unfold State.storeFreeze
  (try dsimp only)
  repeat' first
    | with_reducible exact State.Keeps.refl _ _
    | with_reducible apply State.Keeps.ite
    | ((with_reducible apply State.Keeps.step (State.dec_keeps ..)); rotate_right; decide)
    | ((with_reducible apply State.Keeps.step (State.storeBegin_keeps ..)); rotate_right; decide)

def State.nvsLoad_scope : Scope := ⟨[.regs, .evf, .recd, .hp, .pwr, .nvs, .out, .free], some [EVF.ALERT_DRV, EVF.TRACE_DROP, HDR.ERR_INFO0, HDR.ERR_INFO1, HDR.ERR_STAT, HDR.EVT_STAT, MGT.ALARM_SENT, NVS.BANK_IN_USE, NVS.BANK_OK, NVS.SEQ_IN_USE, PWR.PWR_WAKE_LATCH, PWR.STATE, REC.ALARM_DROP, REC.HEAD_SEQ, REC.LOST_CNT, REC.OVW_CNT, REC.RSV_USED]⟩
theorem State.nvsLoad_keeps (s : State) : State.Keeps State.nvsLoad_scope s (State.nvsLoad s) := by
  unfold State.nvsLoad
  (try dsimp only)
  repeat' first
    | with_reducible exact State.Keeps.refl _ _
    | with_reducible apply State.Keeps.ite
    | fail_if_no_progress ((with_reducible apply State.Keeps.upd_nvs); rotate_right; decide)
    | ((with_reducible apply State.Keeps.step (State.put_keeps ..)); rotate_right; decide)
    | ((with_reducible apply State.Keeps.step (State.blkErr_keeps ..)); rotate_right; decide)
    | ((with_reducible apply State.Keeps.step (State.putBit_keeps ..)); rotate_right; decide)
    | ((with_reducible apply State.Keeps.step (State.misc_keeps ..)); rotate_right; decide)
    | split

def State.storeEnd_scope : Scope := ⟨[.regs, .evf, .recd, .hp, .pwr, .nvs, .out, .free], some [EVF.ALERT_DRV, EVF.TRACE_DROP, HDR.ERR_INFO0, HDR.ERR_INFO1, HDR.ERR_STAT, HDR.EVT_STAT, MGT.ALARM_SENT, NVS.BANK_IN_USE, NVS.BANK_OK, NVS.BUSY, NVS.RESULT, NVS.SEQ_IN_USE, NVS.STORES_A, NVS.STORES_B, PWR.PWR_WAKE_LATCH, PWR.STATE, REC.ALARM_DROP, REC.HEAD_SEQ, REC.LOST_CNT, REC.OVW_CNT, REC.RSV_USED]⟩
theorem State.storeEnd_keeps (s : State) (readback : Bool) : State.Keeps State.storeEnd_scope s (State.storeEnd s readback) := by
  unfold State.storeEnd
  (try dsimp only)
  repeat' first
    | with_reducible exact State.Keeps.refl _ _
    | with_reducible apply State.Keeps.ite
    | ((with_reducible apply State.Keeps.step (incIte_keeps ..)); rotate_right; decide)
    | fail_if_no_progress ((with_reducible apply State.Keeps.upd_nvs); rotate_right; decide)
    | ((with_reducible apply State.Keeps.step (State.nvsResult_keeps ..)); rotate_right; decide)
    | ((with_reducible apply State.Keeps.step (State.put_keeps ..)); rotate_right; decide)
    | ((with_reducible apply State.Keeps.step (State.blkErr_keeps ..)); rotate_right; decide)
    | split

end Sys2Proof.Machine
end

