-- ==== Sys2Proof/Laws/KeepRecorder.lean ====
section
/-! SUPPORT. What each operation of Machine/Recorder.lean keeps: the parts of State it can change are those listed. -/
set_option linter.unusedTactic false
set_option linter.unreachableTactic false
namespace Sys2Proof.Machine

def State.rsvCount_scope : Scope := ⟨[.regs], some [REC.RSV_USED]⟩
theorem State.rsvCount_keeps (s : State) : State.Keeps State.rsvCount_scope s (State.rsvCount s) := by
  unfold State.rsvCount
  (try dsimp only)
  repeat' first
    | with_reducible exact State.Keeps.refl _ _
    | ((with_reducible apply State.Keeps.step (State.put_keeps ..)); rotate_right; decide)

def State.clearUpto_scope : Scope := ⟨[.regs, .evf, .recd, .hp, .pwr, .out, .free], some [EVF.ALERT_DRV, EVF.TRACE_DROP, HDR.ERR_INFO0, HDR.ERR_INFO1, HDR.ERR_STAT, HDR.EVT_STAT, MGT.ALARM_SENT, PWR.PWR_WAKE_LATCH, PWR.STATE, REC.ALARM_DROP, REC.CLEARED_SEQ, REC.HEAD_SEQ, REC.LOST_CNT, REC.OVW_CNT, REC.RSV_USED]⟩
theorem State.clearUpto_keeps (s : State) (req : Requester) (u : Nat) : State.Keeps State.clearUpto_scope s (State.clearUpto s req u) := by
  unfold State.clearUpto
  (try dsimp only)
  repeat' first
    | with_reducible exact State.Keeps.refl _ _
    | with_reducible apply State.Keeps.ite
    | fail_if_no_progress ((with_reducible apply State.Keeps.upd_recd); rotate_right; decide)
    | ((with_reducible apply State.Keeps.step (State.put_keeps ..)); rotate_right; decide)
    | ((with_reducible apply State.Keeps.step (State.rsvCount_keeps ..)); rotate_right; decide)
    | ((with_reducible apply State.Keeps.step (State.occur_keeps ..)); rotate_right; decide)

def State.alertFaultClear_scope : Scope := ⟨[.regs, .out], some [EVF.ALERT_DRV, EVF.ALERT_FAULT]⟩
theorem State.alertFaultClear_keeps (s : State) (mask : Nat) : State.Keeps State.alertFaultClear_scope s (State.alertFaultClear s mask) := by
  unfold State.alertFaultClear
  (try dsimp only)
  repeat' first
    | with_reducible exact State.Keeps.refl _ _
    | with_reducible assumption
    | with_reducible apply State.Keeps.ite
    | ((with_reducible apply State.Keeps.step (State.putBit_keeps ..)); rotate_right; decide)
    | ((with_reducible apply State.Keeps.step (State.alertPins_keeps ..)); rotate_right; decide)
    | ((with_reducible apply State.Keeps.foldl); rotate_right; intro _ _ _; rotate_left)

def State.chanAck_scope : Scope := ⟨[.regs, .evf, .out], some [EVF.ALERT_DRV]⟩
theorem State.chanAck_keeps (s : State) (c : Nat) : State.Keeps State.chanAck_scope s (State.chanAck s c) := by
  unfold State.chanAck
  (try dsimp only)
  repeat' first
    | with_reducible exact State.Keeps.refl _ _
    | ((with_reducible apply State.Keeps.step (State.setPending_keeps ..)); rotate_right; decide)
    | ((with_reducible apply State.Keeps.step (State.alertPins_keeps ..)); rotate_right; decide)

def State.chanDataSet_scope : Scope := ⟨[.regs, .evf, .out], some [EVF.ALERT_DRV]⟩
theorem State.chanDataSet_keeps (s : State) (v : Nat) : State.Keeps State.chanDataSet_scope s (State.chanDataSet s v) := by
  unfold State.chanDataSet
  (try dsimp only)
  repeat' first
    | with_reducible exact State.Keeps.refl _ _
    | with_reducible apply State.Keeps.ite
    | fail_if_no_progress ((with_reducible apply State.Keeps.upd_evf); rotate_right; decide)
    | ((with_reducible apply State.Keeps.step (State.alertPins_keeps ..)); rotate_right; decide)

def State.routeDataSet_scope : Scope := ⟨[.evf], some []⟩
theorem State.routeDataSet_keeps (s : State) (v : Nat) : State.Keeps State.routeDataSet_scope s (State.routeDataSet s v) := by
  unfold State.routeDataSet
  (try dsimp only)
  repeat' first
    | with_reducible exact State.Keeps.refl _ _
    | fail_if_no_progress ((with_reducible apply State.Keeps.upd_evf); rotate_right; decide)

def State.aggregate_scope : Scope := State.postAlarm_scope
theorem State.aggregate_keeps (s : State) (e : FwdEntry) (all : Bool) : State.Keeps State.aggregate_scope s (State.aggregate s e all) := by
  unfold State.aggregate
  (try dsimp only)
  repeat' first
    | with_reducible exact State.Keeps.refl _ _
    | with_reducible apply State.Keeps.ite
    | ((with_reducible apply State.Keeps.step (State.postAlarm_keeps ..)); rotate_right; decide)

def State.foldMessage_scope : Scope := ⟨[.regs, .recd], some [EVF.SRC_FOLD]⟩
theorem State.foldMessage_keeps (s : State) (src : Nat) (f : Fold) : State.Keeps State.foldMessage_scope s (State.foldMessage s src f) := by
  unfold State.foldMessage
  (try dsimp only)
  repeat' first
    | with_reducible exact State.Keeps.refl _ _
    | with_reducible assumption
    | ((with_reducible apply State.Keeps.step (State.foldCode_keeps ..)); rotate_right; decide)
    | ((with_reducible apply State.Keeps.step (State.inc_keeps ..)); rotate_right; decide)
    | ((with_reducible apply State.Keeps.foldl); rotate_right; intro _ _ _; rotate_left)

def State.spillAll_scope : Scope := ⟨[.regs, .recd], some [REC.RSV_USED]⟩
theorem State.spillAll_keeps (s : State) : State.Keeps State.spillAll_scope s (State.spillAll s) := by
  unfold State.spillAll
  (try dsimp only)
  repeat' first
    | with_reducible exact State.Keeps.refl _ _
    | with_reducible apply State.Keeps.ite
    | fail_if_no_progress ((with_reducible apply State.Keeps.upd_recd); rotate_right; decide)
    | ((with_reducible apply State.Keeps.step (State.rsvCount_keeps ..)); rotate_right; decide)

def execAlarmRetry_scope : Scope := ⟨[.regs, .out], some [MGT.ALARM_SENT]⟩
theorem execAlarmRetry_keeps (s : State) : State.KeepsR execAlarmRetry_scope s (execAlarmRetry s) := by
  unfold execAlarmRetry
  (try dsimp only)
  repeat' first
    | with_reducible exact State.Keeps.refl _ _
    | with_reducible assumption
    | with_reducible apply State.KeepsR.next
    | with_reducible apply State.Keeps.ite
    | ((with_reducible apply State.Keeps.step (State.inc_keeps ..)); rotate_right; decide)
    | ((with_reducible apply State.Keeps.step (State.emit_keeps ..)); rotate_right; decide)
    | ((with_reducible apply State.Keeps.foldl); rotate_right; intro _ _ _; rotate_left)

def execAlarmWindowEnd_scope : Scope := State.restorePart_scope
theorem execAlarmWindowEnd_keeps (key : Option (BitVec 16 × BitVec 8)) (s : State) : State.KeepsR execAlarmWindowEnd_scope s (execAlarmWindowEnd key s) := by
  unfold execAlarmWindowEnd
  (try dsimp only)
  repeat' first
    | with_reducible exact State.Keeps.refl _ _
    | with_reducible apply State.KeepsR.next
    | fail_if_no_progress ((with_reducible apply State.Keeps.upd_recd); rotate_right; decide)
    | ((with_reducible apply State.Keeps.step (State.aggregate_keeps ..)); rotate_right; decide)
    | ((with_reducible apply State.Keeps.step (State.safePoint_keeps ..)); rotate_right; decide)
    | split

def execAlertReadbackFault_scope : Scope := ⟨[.regs, .evf, .recd, .hp, .pwr, .out, .free], some [EVF.ALERT_DRV, EVF.ALERT_FAULT, EVF.TRACE_DROP, HDR.ERR_INFO0, HDR.ERR_INFO1, HDR.ERR_STAT, HDR.EVT_STAT, MGT.ALARM_SENT, PWR.PWR_WAKE_LATCH, PWR.STATE, REC.ALARM_DROP, REC.HEAD_SEQ, REC.LOST_CNT, REC.OVW_CNT, REC.RSV_USED]⟩
theorem execAlertReadbackFault_keeps (k : Fin 2) (s : State) : State.KeepsR execAlertReadbackFault_scope s (execAlertReadbackFault k s) := by
  unfold execAlertReadbackFault
  (try dsimp only)
  repeat' first
    | with_reducible exact State.Keeps.refl _ _
    | with_reducible apply State.KeepsR.next
    | with_reducible apply State.KeepsR.ite
    | ((with_reducible apply State.Keeps.step (State.putBit_keeps ..)); rotate_right; decide)
    | ((with_reducible apply State.Keeps.step (State.pinOut_keeps ..)); rotate_right; decide)
    | ((with_reducible apply State.Keeps.step (State.blkErr_keeps ..)); rotate_right; decide)

def execCreditReturn_scope : Scope := ⟨[.regs, .evf, .recd], some [EVF.SRC_FOLD]⟩
theorem execCreditReturn_keeps (src : Nat) (rsv : Bool) (s : State) : State.KeepsR execCreditReturn_scope s (execCreditReturn src rsv s) := by
  unfold execCreditReturn
  (try dsimp only)
  repeat' first
    | with_reducible exact State.Keeps.refl _ _
    | with_reducible apply State.KeepsR.next
    | fail_if_no_progress ((with_reducible apply State.Keeps.upd_evf); rotate_right; decide)
    | ((with_reducible apply State.Keeps.step (State.foldMessage_keeps ..)); rotate_right; decide)
    | split

def execRateWindowEnd_scope : Scope := State.restorePart_scope
theorem execRateWindowEnd_keeps (s : State) : State.KeepsR execRateWindowEnd_scope s (execRateWindowEnd s) := by
  unfold execRateWindowEnd
  (try dsimp only)
  repeat' first
    | intro _
    | with_reducible exact State.Keeps.refl _ _
    | with_reducible assumption
    | with_reducible apply State.KeepsR.next
    | with_reducible apply State.Keeps.ite
    | fail_if_no_progress ((with_reducible apply State.Keeps.upd_recd); rotate_right; decide)
    | ((with_reducible apply State.writeRecord_keeps); rotate_right; decide)
    | ((with_reducible apply State.Keeps.step (State.safePoint_keeps ..)); rotate_right; decide)
    | ((with_reducible apply State.Keeps.step (State.errAlarm_keeps ..)); rotate_right; decide)
    | ((with_reducible apply State.Keeps.foldl); rotate_right; intro _ _ _; rotate_left)
    | split

def execSpill_scope : Scope := State.blkErr_scope
theorem execSpill_keeps (s : State) : State.KeepsR execSpill_scope s (execSpill s) := by
  unfold execSpill
  (try dsimp only)
  repeat' first
    | with_reducible exact State.Keeps.refl _ _
    | with_reducible apply State.KeepsR.next
    | with_reducible apply State.KeepsR.ite
    | with_reducible apply State.Keeps.ite
    | ((with_reducible apply State.Keeps.step (State.spillAll_keeps ..)); rotate_right; decide)
    | ((with_reducible apply State.Keeps.step (State.blkErr_keeps ..)); rotate_right; decide)

end Sys2Proof.Machine
end

