-- ==== Sys2Proof/Laws/KeepHrv.lean ====
section
/-! SUPPORT. What each operation of Machine/Hrv.lean keeps: the parts of State it can change are those listed. -/
set_option linter.unusedTactic false
set_option linter.unreachableTactic false
namespace Sys2Proof.Machine

def State.acceptLoss_scope : Scope := ⟨[.regs, .evf, .recd, .hp, .pwr, .out, .free], some [EVF.ALERT_DRV, EVF.TRACE_DROP, HDR.ERR_INFO0, HDR.ERR_INFO1, HDR.ERR_STAT, HDR.EVT_STAT, HRV.STATE, MGT.ALARM_SENT, PWR.PWR_WAKE_LATCH, PWR.STATE, REC.ALARM_DROP, REC.HEAD_SEQ, REC.LOST_CNT, REC.OVW_CNT, REC.RSV_USED]⟩
theorem State.acceptLoss_keeps (s : State) : State.Keeps State.acceptLoss_scope s (State.acceptLoss s) := by
  unfold State.acceptLoss
  (try dsimp only)
  repeat' first
    | with_reducible exact State.Keeps.refl _ _
    | with_reducible apply State.Keeps.ite
    | fail_if_no_progress ((with_reducible apply State.Keeps.upd_hp); rotate_right; decide)
    | ((with_reducible apply State.Keeps.step (State.put_keeps ..)); rotate_right; decide)
    | ((with_reducible apply State.Keeps.step (State.misc_keeps ..)); rotate_right; decide)

def State.useReserve_scope : Scope := ⟨[.regs, .flm], some [FTL.RESERVE_LUNS, FTL.RESERVE_READY_MIB]⟩
theorem State.useReserve_keeps (s : State) (ks : List Nat) : State.Keeps State.useReserve_scope s (State.useReserve s ks) := by
  unfold State.useReserve
  (try dsimp only)
  repeat' first
    | with_reducible exact State.Keeps.refl _ _
    | with_reducible assumption
    | ((with_reducible apply State.Keeps.step (State.putBlk_keeps ..)); rotate_right; decide)
    | ((with_reducible apply State.Keeps.step (State.reserveCount_keeps ..)); rotate_right; decide)
    | ((with_reducible apply State.Keeps.foldl); rotate_right; intro _ _ _; rotate_left)

def State.openSet_scope : Scope := ⟨[.hrv], some []⟩
theorem State.openSet_keeps (s : State) : State.Keeps State.openSet_scope s (State.openSet s) := by
  unfold State.openSet
  (try dsimp only)
  repeat' first
    | with_reducible exact State.Keeps.refl _ _
    | fail_if_no_progress ((with_reducible apply State.Keeps.upd_hrv); rotate_right; decide)

def State.harvestStop_scope : Scope := ⟨[.regs, .flm, .hrv, .free], some [FTL.RESERVE_LUNS, FTL.RESERVE_READY_MIB]⟩
theorem State.harvestStop_keeps (s : State) : State.Keeps State.harvestStop_scope s (State.harvestStop s) := by
  unfold State.harvestStop
  (try extract_lets)
  repeat' first
    | with_reducible exact State.Keeps.refl _ _
    | with_reducible apply State.Keeps.ite
    | ((with_reducible apply State.Keeps.step (State.useReserve_keeps ..)); rotate_right; decide)
    | ((with_reducible apply State.Keeps.step (State.openSet_keeps ..)); rotate_right; decide)
    | fail_if_no_progress ((with_reducible apply State.Keeps.upd); rotate_right; (intro p hp; cases p <;> first | exact absurd (by decide) hp | exact rfl))

def State.rehearse_scope : Scope := ⟨[.regs, .flm, .hrv, .out], some [FTL.RESERVE_LUNS, FTL.RESERVE_READY_MIB, HRV.STATE, SEQ.STEP_ACTIVE]⟩
theorem State.rehearse_keeps (s : State) : State.Keeps State.rehearse_scope s (State.rehearse s) := by
  unfold State.rehearse
  (try dsimp only)
  repeat' first
    | with_reducible exact State.Keeps.refl _ _
    | with_reducible apply State.Keeps.ite
    | fail_if_no_progress ((with_reducible apply State.Keeps.upd_hrv); rotate_right; decide)
    | ((with_reducible apply State.Keeps.step (State.useReserve_keeps ..)); rotate_right; decide)
    | ((with_reducible apply State.Keeps.step (State.stepAbort_keeps ..)); rotate_right; decide)
    | ((with_reducible apply State.Keeps.step (State.put_keeps ..)); rotate_right; decide)

def State.warmAbandon_scope : Scope := ⟨[.regs, .ctl, .evf, .recd, .xlt, .hp, .qe, .mov, .tier, .pan, .cmn, .pwr, .dmc, .flm, .out, .free], none⟩
theorem State.warmAbandon_keeps (s : State) : State.Keeps State.warmAbandon_scope s (State.warmAbandon s) := by
  unfold State.warmAbandon
  (try dsimp only)
  repeat' first
    | with_reducible exact State.Keeps.refl _ _
    | with_reducible assumption
    | with_reducible apply State.Keeps.ite
    | fail_if_no_progress ((with_reducible apply State.Keeps.upd_dmc); rotate_right; decide)
    | ((with_reducible apply State.Keeps.step (State.dmcTrain_keeps ..)); rotate_right; decide)
    | ((with_reducible apply State.Keeps.step (State.dmcReadied_keeps ..)); rotate_right; decide)
    | ((with_reducible apply State.Keeps.foldl1); rotate_right; intro _ _ _; rotate_left)
    | ((with_reducible apply State.Keeps.foldl); rotate_right; intro _ _ _; rotate_left)

def State.harvestBegin_scope : Scope := ⟨[.regs, .ctl, .evf, .recd, .xlt, .hp, .qe, .mov, .tier, .pan, .twn, .cmn, .pwr, .dmc, .flm, .hrv, .nvs, .wdn, .out, .free], none⟩
theorem State.harvestBegin_keeps (s : State) (c : Nat) : State.Keeps State.harvestBegin_scope s (State.harvestBegin s c) := by
  unfold State.harvestBegin
  extract_lets warm nothing s0 s1 s2 s3 s4 _ _ s5 s6 s7
  have h0 : State.Keeps State.harvestBegin_scope s s0 :=
    State.Keeps.ite ((State.warmAbandon_keeps ..).mono (by decide)) ((State.sysSync_keeps ..).mono (by decide))
  have h1 : State.Keeps State.harvestBegin_scope s s1 := State.Keeps.step (State.moduleEvent_keeps ..) h0 (by decide)
  have h2 : State.Keeps State.harvestBegin_scope s s2 := State.Keeps.step (State.twinSend_keeps ..) h1 (by decide)
  have h3 : State.Keeps State.harvestBegin_scope s s3 := State.Keeps.step (State.movesEnd_keeps ..) h2 (by decide)
  have h4 : State.Keeps State.harvestBegin_scope s s4 :=
    State.Keeps.step (State.put_keeps ..) (State.Keeps.step (State.put_keeps ..) (State.Keeps.step (State.put_keeps ..) h3 (by decide)) (by decide)) (by decide)
  clear_value s4
  have h5 : State.Keeps State.harvestBegin_scope s s5 := by
    refine State.Keeps.gen (t := s4) h4 (fun p hp => ?_) (by first | exact fun _ fs _ => State.fieldsBut.refl rfl fs | exact fun _ => State.anyFields rfl) id id
    cases p <;> first | exact absurd (by decide) hp | exact rfl
  have h6 : State.Keeps State.harvestBegin_scope s s6 := State.Keeps.step (State.connsFree_keeps ..) (State.Keeps.step (State.queuesOff_keeps ..) h5 (by decide)) (by decide)
  clear_value s6
  have h7 : State.Keeps State.harvestBegin_scope s s7 :=
    State.Keeps.foldl h6 fun _ _ h => State.Keeps.step (State.dataWake_keeps ..) h (by decide)
  clear_value s7
  refine State.Keeps.step (State.storeFreeze_keeps ..) ?_ (by decide)
  refine State.Keeps.step (State.actAbandon_keeps ..) ?_ (by decide)
  refine State.Keeps.step (State.clkAbort_keeps ..) ?_ (by decide)
  refine State.Keeps.step (State.stepAbort_keeps ..) ?_ (by decide)
  refine State.Keeps.step (State.retrainAbandon_keeps ..) ?_ (by decide)
  exact State.Keeps.step (State.panAbort_keeps ..) h7 (by decide)

def State.harvestStart_scope : Scope := ⟨[.regs, .ctl, .evf, .recd, .xlt, .hp, .qe, .mov, .tier, .pan, .twn, .cmn, .pwr, .dmc, .flm, .hrv, .nvs, .wdn, .out, .free], none⟩
theorem State.harvestStart_keeps (s : State) (c : Nat) : State.Keeps State.harvestStart_scope s (State.harvestStart s c) := by
  unfold State.harvestStart
  (try dsimp only)
  repeat' first
    | with_reducible exact State.Keeps.refl _ _
    | with_reducible apply State.Keeps.ite
    | ((with_reducible apply State.Keeps.step (State.harvestBegin_keeps ..)); rotate_right; decide)
    | ((with_reducible apply State.Keeps.step (State.put_keeps ..)); rotate_right; decide)
    | with_reducible assumption

def State.restoreStart_scope : Scope := ⟨[.regs, .hp], some [HRV.CAUSE, HRV.FIRST_CAUSE, HRV.HARVEST_SEQ, HRV.LAST_HARVEST_MIB, HRV.RESTORE_BOUND_MS, HRV.STATE]⟩
theorem State.restoreStart_keeps (s : State) : State.Keeps State.restoreStart_scope s (State.restoreStart s) := by
  unfold State.restoreStart
  (try dsimp only)
  repeat' first
    | with_reducible exact State.Keeps.refl _ _
    | fail_if_no_progress ((with_reducible apply State.Keeps.upd_hp); rotate_right; decide)
    | ((with_reducible apply State.Keeps.step (State.put_keeps ..)); rotate_right; decide)
    | split

def State.harvest4_scope : Scope := ⟨[.regs, .evf, .recd, .xlt, .hp, .qe, .mov, .tier, .twn, .cmn, .pwr, .hrv, .out, .free], some [CME.VIOL_TX, CMP.TX_FRAMES, EVF.ALERT_DRV, EVF.TRACE_DROP, HDR.ERR_INFO0, HDR.ERR_INFO1, HDR.ERR_STAT, HDR.EVT_STAT, MGT.ALARM_SENT, MOV.FAULT_CNT, MOV.LAST_FCLASS, MOV.LAST_FOFF, MOV.LAST_STATUS, MOV.OFFLINE, MOV.STATE, NVS.FAST_BAD, PWR.PWR_WAKE_LATCH, PWR.STATE, REC.ALARM_DROP, REC.HEAD_SEQ, REC.LOST_CNT, REC.OVW_CNT, REC.RSV_USED, TWN.CLAIM_W_DRV, TWN.IN_SYNC, TWN.SERVE, TWN.STATE, TWN.TWN_CLAIM_LOCAL]⟩
theorem State.harvest4_keeps (s : State) : State.Keeps State.harvest4_scope s (State.harvest4 s) := by
  unfold State.harvest4
  (try dsimp only)
  repeat' first
    | with_reducible exact State.Keeps.refl _ _
    | with_reducible apply State.Keeps.ite
    | fail_if_no_progress ((with_reducible apply State.Keeps.upd_hrv); rotate_right; decide)
    | ((with_reducible apply State.Keeps.step (State.twinSend_keeps ..)); rotate_right; decide)
    | ((with_reducible apply State.Keeps.step (State.fenceAll_keeps ..)); rotate_right; decide)

def State.harvest5_scope : Scope := ⟨[.regs, .evf, .recd, .hp, .tier, .pwr, .seq, .out, .free], some [CMP.LINK_UP, EVF.ALERT_DRV, EVF.TRACE_DROP, HDR.ERR_INFO0, HDR.ERR_INFO1, HDR.ERR_STAT, HDR.EVT_STAT, HP.CXL, HP.FLIT256, HP.MLD, HP.RATE, HP.UP, HP.WIDTH, MGT.ALARM_SENT, PWR.PWR_WAKE_LATCH, PWR.STATE, REC.ALARM_DROP, REC.HEAD_SEQ, REC.LOST_CNT, REC.OVW_CNT, REC.RSV_USED, SEQ.DEV_GOOD, SEQ.RAIL_GOOD, SEQ.RAIL_ON, SEQ.STATE]⟩
theorem State.harvest5_keeps (s : State) : State.Keeps State.harvest5_scope s (State.harvest5 s) := by
  unfold State.harvest5
  (try dsimp only)
  repeat' first
    | with_reducible exact State.Keeps.refl _ _
    | with_reducible assumption
    | fail_if_no_progress ((with_reducible apply State.Keeps.upd_pwr); rotate_right; decide)
    | ((with_reducible apply State.Keeps.step (State.shedRails_keeps ..)); rotate_right; decide)
    | ((with_reducible apply State.Keeps.step (State.put_keeps ..)); rotate_right; decide)
    | ((with_reducible apply State.Keeps.step (State.linkDown_keeps ..)); rotate_right; decide)
    | ((with_reducible apply State.Keeps.foldl); rotate_right; intro _ _ _; rotate_left)

def State.harvest6_scope : Scope := ⟨[.tier, .twn, .flm, .hrv], some []⟩
theorem State.harvest6_keeps (s : State) : State.Keeps State.harvest6_scope s (State.harvest6 s) := by
  unfold State.harvest6
  (try dsimp only)
  repeat' first
    | with_reducible exact State.Keeps.refl _ _
    | with_reducible apply State.Keeps.ite
    | ((with_reducible apply State.Keeps.step (State.ftlStop_keeps ..)); rotate_right; decide)
    | ((with_reducible apply State.Keeps.step (State.openSet_keeps ..)); rotate_right; decide)

def State.harvestTo_scope : Scope := ⟨[.regs, .evf, .recd, .xlt, .hp, .qe, .mov, .tier, .twn, .cmn, .pwr, .flm, .seq, .hrv, .out, .free], some [CME.VIOL_TX, CMP.LINK_UP, CMP.TX_FRAMES, EVF.ALERT_DRV, EVF.TRACE_DROP, HDR.ERR_INFO0, HDR.ERR_INFO1, HDR.ERR_STAT, HDR.EVT_STAT, HP.CXL, HP.FLIT256, HP.MLD, HP.RATE, HP.UP, HP.WIDTH, MGT.ALARM_SENT, MOV.FAULT_CNT, MOV.LAST_FCLASS, MOV.LAST_FOFF, MOV.LAST_STATUS, MOV.OFFLINE, MOV.STATE, NVS.FAST_BAD, PWR.PWR_WAKE_LATCH, PWR.STATE, REC.ALARM_DROP, REC.HEAD_SEQ, REC.LOST_CNT, REC.OVW_CNT, REC.RSV_USED, SEQ.DEV_GOOD, SEQ.RAIL_GOOD, SEQ.RAIL_ON, SEQ.STATE, TWN.CLAIM_W_DRV, TWN.IN_SYNC, TWN.SERVE, TWN.STATE, TWN.TWN_CLAIM_LOCAL]⟩
theorem State.harvestTo_keeps (s : State) (k : Nat) : State.Keeps State.harvestTo_scope s (State.harvestTo s k) := by
  unfold State.harvestTo
  (try dsimp only)
  repeat' first
    | with_reducible exact State.Keeps.refl _ _
    | with_reducible apply State.Keeps.ite
    | fail_if_no_progress ((with_reducible apply State.Keeps.upd_hrv); rotate_right; decide)
    | ((with_reducible apply State.Keeps.step (State.harvest4_keeps ..)); rotate_right; decide)
    | ((with_reducible apply State.Keeps.step (State.harvest5_keeps ..)); rotate_right; decide)
    | ((with_reducible apply State.Keeps.step (State.harvest6_keeps ..)); rotate_right; decide)

def State.harvestTick_scope : Scope := State.harvestTo_scope
theorem State.harvestTick_keeps (s : State) : State.Keeps State.harvestTick_scope s (State.harvestTick s) := by
  unfold State.harvestTick
  (try dsimp only)
  repeat' first
    | with_reducible exact State.Keeps.refl _ _
    | with_reducible apply State.Keeps.ite
    | ((with_reducible apply State.Keeps.step (State.harvestTo_keeps ..)); rotate_right; decide)

def State.rehearseErase_scope : Scope := ⟨[.regs, .evf, .recd, .hp, .pwr, .flm, .hrv, .out, .free], some [EVF.ALERT_DRV, EVF.TRACE_DROP, FTL.FLM_STATE, FTL.RESERVE_LUNS, FTL.RESERVE_READY_MIB, FTL.SPARE_BLOCKS, HDR.ERR_INFO0, HDR.ERR_INFO1, HDR.ERR_STAT, HDR.EVT_STAT, HRV.BIND, HRV.HRV_TIDE_NOW, MGT.ALARM_SENT, NVS.FAST_BAD, PWR.PWR_WAKE_LATCH, PWR.STATE, REC.ALARM_DROP, REC.HEAD_SEQ, REC.LOST_CNT, REC.OVW_CNT, REC.RSV_USED, XLT.MEDIA_RO]⟩
theorem State.rehearseErase_keeps (s : State) : State.Keeps State.rehearseErase_scope s (State.rehearseErase s) := by
  unfold State.rehearseErase
  (try dsimp only)
  repeat' first
    | with_reducible exact State.Keeps.refl _ _
    | with_reducible assumption
    | with_reducible apply State.Keeps.ite
    | fail_if_no_progress ((with_reducible apply State.Keeps.upd_hrv); rotate_right; decide)
    | ((with_reducible apply State.Keeps.step (State.reserveCount_keeps ..)); rotate_right; decide)
    | ((with_reducible apply State.Keeps.step (State.putBlk_keeps ..)); rotate_right; decide)
    | ((with_reducible apply State.Keeps.step (State.jAppend_keeps ..)); rotate_right; decide)
    | ((with_reducible apply State.Keeps.foldl); rotate_right; intro _ _ _; rotate_left)
    | ((with_reducible apply State.Keeps.step (State.slcErased_keeps ..)); rotate_right; decide)
    | ((with_reducible apply State.Keeps.foldl1); rotate_right; intro _ _ _; rotate_left)

def State.restoreUnit_scope : Scope := ⟨[.tier, .twn, .dmc], some []⟩
theorem State.restoreUnit_keeps (s : State) (u : HUnit) (bad : Bool) : State.Keeps State.restoreUnit_scope s (State.restoreUnit s u bad) := by
  unfold State.restoreUnit
  (try dsimp only)
  repeat' first
    | with_reducible exact State.Keeps.refl _ _
    | with_reducible assumption
    | with_reducible apply State.Keeps.ite
    | fail_if_no_progress ((with_reducible apply State.Keeps.upd_twn); rotate_right; decide)
    | ((with_reducible apply State.Keeps.step (State.frameWrite_keeps ..)); rotate_right; decide)
    | ((with_reducible apply State.Keeps.step (State.putBlock_keeps ..)); rotate_right; decide)
    | ((with_reducible apply State.Keeps.step (State.putQuota_keeps ..)); rotate_right; decide)
    | ((with_reducible apply State.Keeps.foldl); rotate_right; intro _ _ _; rotate_left)
    | ((with_reducible apply State.Keeps.foldl1); rotate_right; intro _ _ _; rotate_left)
    | with_reducible refine State.Keeps.fst ‹_ = (_, _)› ?_
    | split

def State.tideTick_scope : Scope := ⟨[.regs, .ctl, .evf, .recd, .hp, .mov, .pwr, .hrv, .out, .free], none⟩
theorem State.tideTick_keeps (s : State) : State.Keeps State.tideTick_scope s (State.tideTick s) := by
  unfold State.tideTick
  (try extract_lets)
  repeat' first
    | with_reducible exact State.Keeps.refl _ _
    | with_reducible apply State.Keeps.ite
    | ((with_reducible apply State.Keeps.step (State.twinSend_keeps ..)); rotate_right; decide)
    | ((with_reducible apply State.Keeps.step (State.put_keeps ..)); rotate_right; first | decide | rfl)
    | ((with_reducible apply State.Keeps.step (State.safePoint_keeps ..)); rotate_right; decide)
    | fail_if_no_progress ((with_reducible apply State.Keeps.upd); rotate_right; (intro p hp; cases p <;> first | exact absurd (by decide) hp | exact rfl))

def execBankExhausted_scope : Scope := State.harvestStop_scope
theorem execBankExhausted_keeps (s : State) : State.KeepsR execBankExhausted_scope s (execBankExhausted s) := by
  unfold execBankExhausted
  (try dsimp only)
  repeat' first
    | with_reducible exact State.Keeps.refl _ _
    | with_reducible apply State.KeepsR.next
    | ((with_reducible apply State.Keeps.step (State.harvestStop_keeps ..)); rotate_right; decide)

def execHarvestWriteoutDone_scope : Scope := ⟨[.regs, .evf, .recd, .xlt, .hp, .qe, .mov, .tier, .twn, .cmn, .pwr, .flm, .seq, .hrv, .out, .free], some [CME.VIOL_TX, CMP.LINK_UP, CMP.TX_FRAMES, EVF.ALERT_DRV, EVF.TRACE_DROP, FTL.RESERVE_LUNS, FTL.RESERVE_READY_MIB, HDR.ERR_INFO0, HDR.ERR_INFO1, HDR.ERR_STAT, HDR.EVT_STAT, HP.CXL, HP.FLIT256, HP.MLD, HP.RATE, HP.UP, HP.WIDTH, HRV.HARVEST_SEQ, HRV.LAST_HARVEST_MIB, HRV.STATE, MGT.ALARM_SENT, MOV.FAULT_CNT, MOV.LAST_FCLASS, MOV.LAST_FOFF, MOV.LAST_STATUS, MOV.OFFLINE, MOV.STATE, NVS.FAST_BAD, PWR.PWR_WAKE_LATCH, PWR.STATE, REC.ALARM_DROP, REC.HEAD_SEQ, REC.LOST_CNT, REC.OVW_CNT, REC.RSV_USED, SEQ.DEV_GOOD, SEQ.RAIL_GOOD, SEQ.RAIL_ON, SEQ.STATE, TWN.CLAIM_W_DRV, TWN.IN_SYNC, TWN.SERVE, TWN.STATE, TWN.TWN_CLAIM_LOCAL]⟩
theorem execHarvestWriteoutDone_keeps (s : State) : State.KeepsR execHarvestWriteoutDone_scope s (execHarvestWriteoutDone s) := by
  unfold execHarvestWriteoutDone
  (try dsimp only)
  repeat' first
    | with_reducible exact State.Keeps.refl _ _
    | with_reducible apply State.KeepsR.next
    | with_reducible apply State.KeepsR.ite
    | fail_if_no_progress ((with_reducible apply State.Keeps.upd_hrv); rotate_right; decide)
    | ((with_reducible apply State.Keeps.step (State.put_keeps ..)); rotate_right; decide)
    | ((with_reducible apply State.Keeps.step (State.fastWrote_keeps ..)); rotate_right; decide)
    | ((with_reducible apply State.Keeps.step (State.useReserve_keeps ..)); rotate_right; decide)
    | ((with_reducible apply State.Keeps.step (State.spillAll_keeps ..)); rotate_right; decide)
    | ((with_reducible apply State.Keeps.step (State.harvestStop_keeps ..)); rotate_right; decide)
    | ((with_reducible apply State.Keeps.step (State.harvestTo_keeps ..)); rotate_right; decide)

def execPwrfail_scope : Scope := ⟨[.regs, .ctl, .evf, .recd, .xlt, .hp, .qe, .mov, .tier, .pan, .twn, .cmn, .pwr, .dmc, .flm, .seq, .hrv, .nvs, .wdn, .out, .free], none⟩
theorem execPwrfail_keeps (s : State) : State.KeepsR execPwrfail_scope s (execPwrfail s) := by
  unfold execPwrfail
  (try dsimp only)
  repeat' first
    | with_reducible exact State.Keeps.refl _ _
    | with_reducible apply State.KeepsR.next
    | with_reducible apply State.KeepsR.ite
    | fail_if_no_progress ((with_reducible apply State.Keeps.upd_seq); rotate_right; decide)
    | ((with_reducible apply State.Keeps.step (State.harvestStart_keeps ..)); rotate_right; decide)

def execPwrfailNFall_scope : Scope := ⟨[.regs, .seq, .out], some [SEQ.STEP_ACTIVE]⟩
theorem execPwrfailNFall_keeps (s : State) : State.KeepsR execPwrfailNFall_scope s (execPwrfailNFall s) := by
  unfold execPwrfailNFall
  (try dsimp only)
  repeat' first
    | with_reducible exact State.Keeps.refl _ _
    | with_reducible apply State.KeepsR.next
    | fail_if_no_progress ((with_reducible apply State.Keeps.upd_seq); rotate_right; decide)
    | ((with_reducible apply State.Keeps.step (State.stepAbort_keeps ..)); rotate_right; decide)

def execRehearsalDone_scope : Scope := ⟨[.regs, .evf, .recd, .hp, .pwr, .flm, .hrv, .out, .free], some [EVF.ALERT_DRV, EVF.TRACE_DROP, FTL.FLM_STATE, FTL.RESERVE_LUNS, FTL.RESERVE_READY_MIB, FTL.SPARE_BLOCKS, HDR.ERR_INFO0, HDR.ERR_INFO1, HDR.ERR_STAT, HDR.EVT_STAT, HRV.BIND, HRV.HRV_TIDE_NOW, HRV.P_HARV_W, HRV.STATE, MGT.ALARM_SENT, NVS.FAST_BAD, PWR.PWR_WAKE_LATCH, PWR.STATE, REC.ALARM_DROP, REC.HEAD_SEQ, REC.LOST_CNT, REC.OVW_CNT, REC.RSV_USED, XLT.MEDIA_RO]⟩
theorem execRehearsalDone_keeps (powerMw : Nat) (rate : BitVec 32) (s : State) : State.KeepsR execRehearsalDone_scope s (execRehearsalDone powerMw rate s) := by
  unfold execRehearsalDone
  (try dsimp only)
  repeat' first
    | with_reducible exact State.Keeps.refl _ _
    | with_reducible apply State.KeepsR.next
    | with_reducible apply State.KeepsR.ite
    | with_reducible apply State.Keeps.ite
    | fail_if_no_progress ((with_reducible apply State.Keeps.upd_hrv); rotate_right; decide)
    | ((with_reducible apply State.Keeps.step (State.blkErr_keeps ..)); rotate_right; decide)
    | ((with_reducible apply State.Keeps.step (State.put_keeps ..)); rotate_right; decide)
    | ((with_reducible apply State.Keeps.step (State.rehearseErase_keeps ..)); rotate_right; decide)

def execRehearsePeriod_scope : Scope := State.rehearse_scope
theorem execRehearsePeriod_keeps (s : State) : State.KeepsR execRehearsePeriod_scope s (execRehearsePeriod s) := by
  unfold execRehearsePeriod
  (try dsimp only)
  repeat' first
    | with_reducible exact State.Keeps.refl _ _
    | with_reducible apply State.KeepsR.next
    | ((with_reducible apply State.Keeps.step (State.rehearse_keeps ..)); rotate_right; decide)

def execReserveBlockRelease_scope : Scope := ⟨[.regs, .evf, .recd, .hp, .pwr, .flm, .hrv, .out, .free], some [EVF.ALERT_DRV, EVF.TRACE_DROP, FTL.FLM_STATE, FTL.RESERVE_LUNS, FTL.RESERVE_READY_MIB, FTL.SPARE_BLOCKS, HDR.ERR_INFO0, HDR.ERR_INFO1, HDR.ERR_STAT, HDR.EVT_STAT, HRV.BIND, HRV.HRV_TIDE_NOW, MGT.ALARM_SENT, NVS.FAST_BAD, PWR.PWR_WAKE_LATCH, PWR.STATE, REC.ALARM_DROP, REC.HEAD_SEQ, REC.LOST_CNT, REC.OVW_CNT, REC.RSV_USED, XLT.MEDIA_RO]⟩
theorem execReserveBlockRelease_keeps (glun : BitVec 12) (block : BitVec 16) (s : State) : State.KeepsR execReserveBlockRelease_scope s (execReserveBlockRelease glun block s) := by
  unfold execReserveBlockRelease
  (try dsimp only)
  repeat' first
    | with_reducible exact State.Keeps.refl _ _
    | with_reducible apply State.KeepsR.next
    | with_reducible apply State.KeepsR.ite
    | fail_if_no_progress ((with_reducible apply State.Keeps.upd_hrv); rotate_right; decide)
    | ((with_reducible apply State.Keeps.step (State.putBlk_keeps ..)); rotate_right; decide)
    | ((with_reducible apply State.Keeps.step (State.jAppend_keeps ..)); rotate_right; decide)
    | ((with_reducible apply State.Keeps.step (State.reserveCount_keeps ..)); rotate_right; decide)
    | with_reducible assumption
    | with_reducible apply State.Keeps.ite
    | ((with_reducible apply State.Keeps.step (State.slcErased_keeps ..)); rotate_right; decide)
    | with_reducible refine State.Keeps.fst ‹_ = (_, _)› ?_
    | split

def execRestoreDone_scope : Scope := ⟨[.regs, .evf, .recd, .hp, .tier, .twn, .pwr, .dmc, .hrv, .out, .free], some [EVF.ALERT_DRV, EVF.TRACE_DROP, HDR.ERR_INFO0, HDR.ERR_INFO1, HDR.ERR_STAT, HDR.EVT_STAT, HRV.RESTORE_BAD_UNITS, HRV.STATE, MGT.ALARM_SENT, PWR.PWR_WAKE_LATCH, PWR.STATE, REC.ALARM_DROP, REC.HEAD_SEQ, REC.LOST_CNT, REC.OVW_CNT, REC.RSV_USED]⟩
theorem execRestoreDone_keeps (bad : List Nat) (s : State) : State.KeepsR execRestoreDone_scope s (execRestoreDone bad s) := by
  unfold execRestoreDone
  (try extract_lets)
  repeat' first
    | with_reducible exact State.Keeps.refl _ _
    | with_reducible assumption
    | with_reducible apply State.KeepsR.next
    | with_reducible apply State.KeepsR.ite
    | with_reducible apply State.Keeps.ite
    | ((with_reducible apply State.Keeps.step (State.put_keeps ..)); rotate_right; decide)
    | ((with_reducible apply State.Keeps.step (State.blkErr_keeps ..)); rotate_right; decide)
    | ((with_reducible apply State.Keeps.step (State.misc_keeps ..)); rotate_right; decide)
    | ((with_reducible apply State.Keeps.step (State.restoreUnit_keeps ..)); rotate_right; decide)
    | fail_if_no_progress ((with_reducible apply State.Keeps.upd); rotate_right; (intro p hp; cases p <;> first | exact absurd (by decide) hp | exact rfl))
    | ((with_reducible apply State.Keeps.foldl); rotate_right; intro _ _ _; rotate_left)
    | extract_lets
    | split

def execSteptestDone_scope : Scope := ⟨[.regs, .evf, .recd, .hp, .pwr, .hrv, .out, .free], some [EVF.ALERT_DRV, EVF.TRACE_DROP, HDR.ERR_INFO0, HDR.ERR_INFO1, HDR.ERR_STAT, HDR.EVT_STAT, HRV.BANK_C_MF, HRV.BANK_ESR_UOHM, HRV.BIND, HRV.HRV_TIDE_NOW, MGT.ALARM_SENT, PWR.PWR_WAKE_LATCH, PWR.STATE, REC.ALARM_DROP, REC.HEAD_SEQ, REC.LOST_CNT, REC.OVW_CNT, REC.RSV_USED, SEQ.LAST_C_MF, SEQ.LAST_ESR_UOHM, SEQ.STEP_ACTIVE, SEQ.STEP_CNT, SEQ.STEP_FAIL_CNT]⟩
theorem execSteptestDone_keeps (cMf : BitVec 32) (esr : BitVec 32) (fallMv : Nat) (residMv : Nat) (s : State) : State.KeepsR execSteptestDone_scope s (execSteptestDone cMf esr fallMv residMv s) := by
  unfold execSteptestDone
  (try dsimp only)
  repeat' first
    | with_reducible exact State.Keeps.refl _ _
    | with_reducible apply State.KeepsR.next
    | with_reducible apply State.KeepsR.ite
    | fail_if_no_progress ((with_reducible apply State.Keeps.upd_hrv); rotate_right; decide)
    | ((with_reducible apply State.Keeps.step (State.misc_keeps ..)); rotate_right; decide)
    | ((with_reducible apply State.Keeps.step (State.blkErr_keeps ..)); rotate_right; decide)
    | ((with_reducible apply State.Keeps.step (State.put_keeps ..)); rotate_right; decide)
    | ((with_reducible apply State.Keeps.step (State.inc_keeps ..)); rotate_right; decide)
    | ((with_reducible apply State.Keeps.step (State.stepAbort_keeps ..)); rotate_right; decide)

def execSteptestPeriod_scope : Scope := ⟨[.regs, .out], some [SEQ.STEP_ACTIVE]⟩
theorem execSteptestPeriod_keeps (s : State) : State.KeepsR execSteptestPeriod_scope s (execSteptestPeriod s) := by
  unfold execSteptestPeriod
  (try dsimp only)
  repeat' first
    | with_reducible exact State.Keeps.refl _ _
    | with_reducible apply State.KeepsR.next
    | ((with_reducible apply State.Keeps.step (State.stepStart_keeps ..)); rotate_right; decide)

end Sys2Proof.Machine
end

