-- ==== Sys2Proof/Laws/KeepResetOps.lean ====
section
/-! SUPPORT. What each operation of Machine/ResetOps.lean keeps: the parts of State it can change are those listed. -/
set_option linter.unusedTactic false
set_option linter.unreachableTactic false
namespace Sys2Proof.Machine

def State.resetRegs_scope : Scope := ⟨[.regs], none⟩
theorem State.resetRegs_keeps (s : State) (kind : ResetKind) (hit : Page → Bool) : State.Keeps State.resetRegs_scope s (State.resetRegs s kind hit) := by
  unfold State.resetRegs
  refine State.Keeps.gen (State.Keeps.refl _ _) (fun p hp => ?_) (by first | exact fun _ fs _ => State.fieldsBut.refl rfl fs | exact fun _ => State.anyFields rfl) (fun h => rising_filter h) id
  cases p <;> first | exact absurd (by decide) hp | exact rfl

def State.aliveStop_scope : Scope := ⟨[.wdn, .out], some []⟩
theorem State.aliveStop_keeps (s : State) : State.Keeps State.aliveStop_scope s (State.aliveStop s) := by
  unfold State.aliveStop
  (try dsimp only)
  repeat' first
    | with_reducible exact State.Keeps.refl _ _
    | with_reducible apply State.Keeps.ite
    | fail_if_no_progress ((with_reducible apply State.Keeps.upd_wdn); rotate_right; decide)
    | ((with_reducible apply State.Keeps.step (State.pinOut_keeps ..)); rotate_right; decide)

def State.claimRelease_scope : Scope := ⟨[.regs, .out], some [TWN.CLAIM_W_DRV]⟩
theorem State.claimRelease_keeps (s : State) : State.Keeps State.claimRelease_scope s (State.claimRelease s) := by
  unfold State.claimRelease
  (try dsimp only)
  repeat' first
    | with_reducible exact State.Keeps.refl _ _
    | with_reducible apply State.Keeps.ite
    | ((with_reducible apply State.Keeps.step (State.put_keeps ..)); rotate_right; decide)
    | ((with_reducible apply State.Keeps.step (State.pinOut_keeps ..)); rotate_right; decide)

def State.ckoutStop_scope : Scope := ⟨[.regs, .out], some [CLK.CKOUT_ON]⟩
theorem State.ckoutStop_keeps (s : State) : State.Keeps State.ckoutStop_scope s (State.ckoutStop s) := by
  unfold State.ckoutStop
  (try dsimp only)
  repeat' first
    | with_reducible exact State.Keeps.refl _ _
    | with_reducible assumption
    | with_reducible apply State.Keeps.ite
    | ((with_reducible apply State.Keeps.step (State.putBit_keeps ..)); rotate_right; decide)
    | ((with_reducible apply State.Keeps.step (State.pinOut_keeps ..)); rotate_right; decide)
    | ((with_reducible apply State.Keeps.foldl1); rotate_right; intro _ _ _; rotate_left)
    | ((with_reducible apply State.Keeps.foldl); rotate_right; intro _ _ _; rotate_left)

def State.coldReset_scope : Scope := ⟨[.regs, .ctl, .evf, .recd, .xlt, .hp, .qe, .mov, .tier, .pan, .twn, .cmn, .pwr, .dmc, .flm, .seq, .hrv, .clk, .cip, .nvs, .wdn, .mgt, .mem, .timeNs, .slew, .out, .free], none⟩
theorem State.coldReset_keeps (s : State) : State.Keeps State.coldReset_scope s (State.coldReset s) := by
  unfold State.coldReset
  extract_lets head runs s1 kept s2 s3 s4 s5 _ _ _ _ _ _ _ _ _ _ _ _ _ s6 s7
  have h1 : State.Keeps State.coldReset_scope s s1 := by
    refine State.Keeps.step (State.panLose_keeps ..) ?_ (by decide)
    refine State.Keeps.step (State.panAbort_keeps ..) ?_ (by decide)
    refine State.Keeps.step (State.sweepDue_keeps ..) ?_ (by decide)
    refine State.Keeps.step (State.stepAbort_keeps ..) ?_ (by decide)
    refine State.Keeps.step (State.claimRelease_keeps ..) ?_ (by decide)
    refine State.Keeps.step (State.aliveStop_keeps ..) ?_ (by decide)
    exact State.Keeps.step (State.ftlLost_keeps ..) ((State.movesEnd_keeps s _).mono (by decide)) (by decide)
  clear_value kept s1
  have h2 : State.Keeps State.coldReset_scope s s2 := State.Keeps.foldl (xs := [0, 1]) h1 (f := fun s k => if s.bitOf EVF.ALERT_DRV k then s.pinOut "ALERT_N" k none else s)
    (fun u a h => State.Keeps.ite (State.Keeps.step (State.pinOut_keeps ..) h (by decide)) h)
  clear_value s2
  have h3 : State.Keeps State.coldReset_scope s s3 := State.Keeps.step (State.ckoutStop_keeps ..) h2 (by decide)
  clear_value s3
  have h4 : State.Keeps State.coldReset_scope s s4 := State.Keeps.foldl (xs := List.range 48) h3 (f := fun s c => if s.get FLC.STATE c = chAbsent then s else s.wpN c false)
    (fun u a h => State.Keeps.ite h (State.Keeps.step (State.wpN_keeps ..) h (by decide)))
  clear_value s4
  have h5 : State.Keeps State.coldReset_scope s s5 := State.Keeps.step (m := State.coldReset_scope) (State.resetRegs_keeps s4 .cold fun _ => true) h4 (by decide)
  clear_value s5
  have h6 : State.Keeps State.coldReset_scope s s6 := by
    refine State.Keeps.gen (t := s5) h5 (fun p hp => ?_) (by first | exact fun _ fs _ => State.fieldsBut.refl rfl fs | exact fun _ => State.anyFields rfl) id (fun _ => rfl)
    cases p <;> first | exact absurd (by decide) hp | exact rfl
  clear_value s6
  have h7 : State.Keeps State.coldReset_scope s s7 :=
    State.Keeps.foldl (State.Keeps.step (State.put_keeps ..) h6 (by decide)) fun _ a h => State.Keeps.step (State.put_keeps _ a.1 ..) h (by rfl)
  exact State.Keeps.step (State.zeroVolatile_keeps ..) h7 (by decide)

def State.flmRestart_scope : Scope := ⟨[.regs, .flm, .out], some [FLC.STATE]⟩
theorem State.flmRestart_keeps (s : State) (c : Nat) : State.Keeps State.flmRestart_scope s (State.flmRestart s c) := by
  unfold State.flmRestart
  (try dsimp only)
  repeat' first
    | with_reducible exact State.Keeps.refl _ _
    | with_reducible assumption
    | with_reducible apply State.Keeps.ite
    | fail_if_no_progress ((with_reducible apply State.Keeps.upd_flm); rotate_right; decide)
    | ((with_reducible apply State.Keeps.step (State.wpN_keeps ..)); rotate_right; decide)
    | ((with_reducible apply State.Keeps.step (State.put_keeps ..)); rotate_right; decide)

def State.domainBlocks_scope : Scope := ⟨[.regs, .ctl, .evf, .recd, .xlt, .hp, .qe, .mov, .tier, .twn, .cmn, .pwr, .dmc, .flm, .cip, .out, .free], none⟩
theorem State.domainBlocks_keeps (s : State) (n : Nat) : State.Keeps State.domainBlocks_scope s (State.domainBlocks s n) := by
  unfold State.domainBlocks
  (try dsimp only)
  repeat' first
    | with_reducible exact State.Keeps.refl _ _
    | with_reducible assumption
    | with_reducible apply State.Keeps.ite
    | fail_if_no_progress ((with_reducible apply State.Keeps.upd_cip); rotate_right; decide)
    | ((with_reducible apply State.Keeps.step (State.put_keeps ..)); rotate_right; decide)
    | ((with_reducible apply State.Keeps.step (State.connsFree_keeps ..)); rotate_right; decide)
    | ((with_reducible apply State.Keeps.step (State.retrainAbandon_keeps ..)); rotate_right; decide)
    | ((with_reducible apply State.Keeps.step (State.dmcTrain_keeps ..)); rotate_right; decide)
    | ((with_reducible apply State.Keeps.step (State.moverStop_keeps ..)); rotate_right; decide)
    | ((with_reducible apply State.Keeps.step (State.functionReset_keeps ..)); rotate_right; decide)
    | ((with_reducible apply State.Keeps.step (State.linkDiscard_keeps ..)); rotate_right; decide)
    | ((with_reducible apply State.Keeps.step (State.linkFields_keeps ..)); rotate_right; decide)
    | ((with_reducible apply State.Keeps.foldl); rotate_right; intro _ _ _; rotate_left)
    | fail_if_no_progress ((with_reducible apply State.Keeps.upd_cmn); rotate_right; decide)
    | fail_if_no_progress ((with_reducible apply State.Keeps.upd); rotate_right; (intro p hp; cases p <;> first | exact absurd (by decide) hp | exact rfl))
    | ((with_reducible apply State.Keeps.step (State.connsDrop_keeps ..)); rotate_right; decide)
    | ((with_reducible apply State.Keeps.step (State.setLanes_keeps ..)); rotate_right; decide)
    | ((with_reducible apply State.Keeps.foldl1); rotate_right; intro _ _ _; rotate_left)
    | with_reducible refine State.Keeps.fst ‹_ = (_, _)› ?_
    | ((with_reducible apply State.Keeps.step (State.flmRestart_keeps ..)); rotate_right; decide)
    | ((with_reducible apply State.Keeps.step (State.ftlStop_keeps ..)); rotate_right; decide)
    | split

def State.domainReset_scope : Scope := ⟨[.regs, .ctl, .evf, .recd, .xlt, .hp, .qe, .mov, .tier, .twn, .cmn, .pwr, .dmc, .flm, .seq, .cip, .out, .free], none⟩
theorem State.domainReset_keeps (s : State) (n : Nat) : State.Keeps State.domainReset_scope s (State.domainReset s n) := by
  unfold State.domainReset
  (try dsimp only)
  repeat' first
    | with_reducible exact State.Keeps.refl _ _
    | fail_if_no_progress ((with_reducible apply State.Keeps.upd_ctl); rotate_right; decide)
    | ((with_reducible apply State.Keeps.step (State.loadRwp_keeps ..)); rotate_right; decide)
    | ((with_reducible apply State.Keeps.step (State.domainBlocks_keeps ..)); rotate_right; decide)
    | ((with_reducible apply State.Keeps.step (State.resetRegs_keeps ..)); rotate_right; decide)
    | ((with_reducible apply State.Keeps.step (State.stageInterrupt_keeps ..)); rotate_right; decide)

def State.idleRegs_scope : Scope := ⟨[.regs, .hp, .tier, .out], some [CIP.BUSY, CLK.CKOUT_ON, CME.BUSY, CMP.LINK_UP, HP.CXL, HP.FLIT256, HP.MLD, HP.RATE, HP.UP, HP.WIDTH, HSH.BUSY, MOV.STATE, PWR.PWR_WAKE_LATCH, QE.BUSY, TWN.BUNDLES, XLT.BUSY]⟩
theorem State.idleRegs_keeps (s : State) : State.Keeps State.idleRegs_scope s (State.idleRegs s) := by
  unfold State.idleRegs
  (try dsimp only)
  repeat' first
    | with_reducible exact State.Keeps.refl _ _
    | with_reducible assumption
    | ((with_reducible apply State.Keeps.step (State.put_keeps ..)); rotate_right; decide)
    | ((with_reducible apply State.Keeps.step (State.linkDiscard_keeps ..)); rotate_right; decide)
    | ((with_reducible apply State.Keeps.step (State.linkFields_keeps ..)); rotate_right; decide)
    | ((with_reducible apply State.Keeps.foldl); rotate_right; intro _ _ _; rotate_left)
    | with_reducible apply State.Keeps.ite
    | ((with_reducible apply State.Keeps.step (State.ckoutStop_keeps ..)); rotate_right; decide)
    | ((with_reducible apply State.Keeps.foldl1); rotate_right; intro _ _ _; rotate_left)

def State.panFlush_scope : Scope := ⟨[.regs, .tier, .pan, .dmc], some [PAN.WB_CNT]⟩
theorem State.panFlush_keeps (s : State) : State.Keeps State.panFlush_scope s (State.panFlush s) := by
  unfold State.panFlush
  (try dsimp only)
  repeat' first
    | with_reducible exact State.Keeps.refl _ _
    | with_reducible assumption
    | ((with_reducible apply State.Keeps.step (State.panWriteBack_keeps ..)); rotate_right; decide)
    | ((with_reducible apply State.Keeps.foldl); rotate_right; intro _ _ _; rotate_left)

def State.resume_scope : Scope := ⟨[.regs, .evf, .recd, .xlt, .hp, .qe, .mov, .tier, .pan, .twn, .cmn, .pwr, .dmc, .flm, .seq, .hrv, .wdn, .out, .free], some [CMP.TX_FRAMES, EVF.ALERT_DRV, EVF.TRACE_DROP, FTL.FLM_STATE, HDR.ERR_INFO0, HDR.ERR_INFO1, HDR.ERR_STAT, HDR.EVT_STAT, MGT.ALARM_SENT, MOV.FAULT_CNT, MOV.LAST_FCLASS, MOV.LAST_FOFF, MOV.LAST_STATUS, MOV.OFFLINE, MOV.PARK_FULL_CNT, MOV.PARK_PEAK, MOV.STATE, MOV.STEPS_DONE, PAN.BUSY, PAN.HIT_CNT, PAN.LOCKS_RELEASED, PAN.LOCK_LOST_CNT, PAN.MISS_CNT, PAN.RESULT, PAN.STATE, PAN.WB_CNT, PWR.PWR_WAKE_LATCH, PWR.STATE, QE.BUSY, REC.ALARM_DROP, REC.HEAD_SEQ, REC.LOST_CNT, REC.OVW_CNT, REC.RSV_USED, SEQ.STATE, TIER.MISSED, TIER.ON_TIME, TIER.QUOTA_REFUSE, TIER.SUBST, TWN.BUNDLES, TWN.SERVE, TWN.STATE, TWN.TWN_CLAIM_LOCAL, WDN.STAGE]⟩
theorem State.resume_keeps (s : State) : State.Keeps State.resume_scope s (State.resume s) := by
  unfold State.resume
  extract_lets s1 s2 _ s3 _ _ _ _ _ _ _ _ _ _ _ s4 s5
  have h1 : State.Keeps State.resume_scope s s1 := by
    refine State.Keeps.step (State.put_keeps ..) ?_ (by decide)
    refine State.Keeps.step (State.put_keeps ..) ?_ (by decide)
    refine State.Keeps.step (State.connsFree_keeps ..) ?_ (by decide)
    refine State.Keeps.step (State.panLose_keeps ..) ?_ (by decide)
    refine State.Keeps.step (State.panAbort_keeps ..) ?_ (by decide)
    exact (State.queuesOff_keeps s _).mono (by decide)
  clear_value s1
  have h2 : State.Keeps State.resume_scope s s2 := State.Keeps.foldl (xs := List.range 16) h1 (f := fun s k => s.put PAN.STATE panInvalidating k) (fun u a h => State.Keeps.step (State.put_keeps ..) h (by decide))
  clear_value s2
  have h3 : State.Keeps State.resume_scope s s3 := by
    refine State.Keeps.foldl ?_ fun _ _ h => State.Keeps.step (State.wakeStart_keeps ..) h (by decide)
    exact State.Keeps.upd_pwr h2 (by decide)
  clear_value s3
  have h4 : State.Keeps State.resume_scope s s4 := by
    refine State.Keeps.gen (t := s3) h3 (fun p hp => ?_) (by first | exact fun _ fs _ => State.fieldsBut.refl rfl fs | exact fun _ => State.anyFields rfl) id id
    cases p <;> first | exact absurd (by decide) hp | exact rfl
  clear_value s4
  have h5 : State.Keeps State.resume_scope s s5 := State.Keeps.foldl
    (State.Keeps.step (State.put_keeps ..) (State.Keeps.step (State.put_keeps ..) (State.Keeps.step (State.put_keeps ..) h4 (by decide)) (by decide)) (by decide))
    (fun u a h => State.Keeps.step (State.put_keeps ..) h (by decide))
  refine State.Keeps.step (State.zeroVolatile_keeps ..) ?_ (by decide)
  exact State.Keeps.step (State.ftlPut_keeps ..) h5 (by decide)

def State.tierWarm_scope : Scope := ⟨[.tier], some []⟩
theorem State.tierWarm_keeps (s : State) : State.Keeps State.tierWarm_scope s (State.tierWarm s) := by
  unfold State.tierWarm
  (try dsimp only)
  repeat' first
    | with_reducible exact State.Keeps.refl _ _
    | with_reducible assumption
    | fail_if_no_progress ((with_reducible apply State.Keeps.upd_tier); rotate_right; decide)
    | ((with_reducible apply State.Keeps.step (State.settle_keeps ..)); rotate_right; decide)
    | ((with_reducible apply State.Keeps.foldl); rotate_right; intro _ _ _; rotate_left)
    | with_reducible apply State.Keeps.ite
    | ((with_reducible apply State.Keeps.step (State.frameWaitDrop_keeps ..)); rotate_right; decide)
    | ((with_reducible apply State.Keeps.foldl1); rotate_right; intro _ _ _; rotate_left)

def State.warmReset_scope : Scope := ⟨[.regs, .ctl, .evf, .recd, .xlt, .hp, .qe, .mov, .tier, .pan, .twn, .cmn, .pwr, .dmc, .flm, .seq, .cip, .nvs, .wdn, .mgt, .out, .free], none⟩
theorem State.warmReset_keeps (s : State) : State.Keeps State.warmReset_scope s (State.warmReset s) := by
  unfold State.warmReset
  extract_lets s1 s2 s3 s4 s5 s6 s7 s8 s9 _ _ _ _ _ _ _ _ s10 s11 s12
  have h1 : State.Keeps State.warmReset_scope s s1 := by
    refine State.Keeps.step (State.stageInterrupt_keeps ..) ?_ (by decide)
    refine State.Keeps.step (State.retrainAbandon_keeps ..) ?_ (by decide)
    refine State.Keeps.step (State.panLose_keeps ..) ?_ (by decide)
    refine State.Keeps.step (State.panFlush_keeps ..) ?_ (by decide)
    refine State.Keeps.step (State.panAbort_keeps ..) ?_ (by decide)
    exact State.Keeps.step (State.movesEnd_keeps ..) ((State.sysSync_keeps s).mono (by decide)) (by decide)
  clear_value s1
  have h2 : State.Keeps State.warmReset_scope s s2 :=
    State.Keeps.step (State.connsFree_keeps ..) (State.Keeps.step (State.queuesOff_keeps ..) (State.Keeps.step (State.tierWarm_keeps ..) h1 (by decide)) (by decide)) (by decide)
  clear_value s2
  have h3 : State.Keeps State.warmReset_scope s s3 := by
    refine State.Keeps.step (State.stepAbort_keeps ..) ?_ (by decide)
    refine State.Keeps.step (State.claimRelease_keeps ..) ?_ (by decide)
    refine State.Keeps.step (State.fenceAll_keeps ..) ?_ (by decide)
    refine State.Keeps.step (State.aliveStop_keeps ..) ?_ (by decide)
    refine State.Keeps.step (State.actAbandon_keeps ..) ?_ (by decide)
    refine State.Keeps.step (State.clkAbort_keeps ..) ?_ (by decide)
    refine State.Keeps.step (State.storeAbandon_keeps ..) ?_ (by decide)
    exact State.Keeps.step (State.ftlStop_keeps ..) h2 (by decide)
  clear_value s3
  have h4 : State.Keeps State.warmReset_scope s s4 := State.Keeps.step (State.idleRegs_keeps ..) h3 (by decide)
  clear_value s4
  have h5 : State.Keeps State.warmReset_scope s s5 := State.Keeps.foldl (xs := List.range 12) h4 (f := State.selfRefresh)
    (fun u a h => State.Keeps.step (State.selfRefresh_keeps ..) h (by decide))
  clear_value s5
  have h6 : State.Keeps State.warmReset_scope s s6 := State.Keeps.foldl (xs := List.range 16) h5 (f := fun s k => s.put PAN.STATE panInvalidating k) (fun u a h => State.Keeps.step (State.put_keeps ..) h (by decide))
  clear_value s6
  have h7 : State.Keeps State.warmReset_scope s s7 := State.Keeps.foldl (xs := List.range 48) h6 (f := fun s c => if s.get FLC.STATE c = chExcluded then s else s.flmRestart c)
    (fun u a h => State.Keeps.ite h (State.Keeps.step (State.flmRestart_keeps ..) h (by decide)))
  clear_value s7
  have h8 : State.Keeps State.warmReset_scope s s8 := State.Keeps.foldl (xs := List.range 64) h7 (f := fun s n => s.put PWR.STATE domOn 0 n) (fun u a h => State.Keeps.step (State.put_keeps ..) h (by decide))
  clear_value s8
  have h9 : State.Keeps State.warmReset_scope s s9 := State.Keeps.step (State.loadRwp_keeps (s8.resetRegs .warm fun _ => true) fun _ => true) (State.Keeps.step (State.resetRegs_keeps ..) h8 (by decide)) (by decide)
  clear_value s9
  have h10 : State.Keeps State.warmReset_scope s s10 := by
    refine State.Keeps.gen (t := s9) h9 (fun p hp => ?_) (by first | exact fun _ fs _ => State.fieldsBut.refl rfl fs | exact fun _ => State.anyFields rfl) id id
    cases p <;> first | exact absurd (by decide) hp | exact rfl
  have h11 : State.Keeps State.warmReset_scope s s11 := by
    refine State.Keeps.step (State.put_keeps ..) ?_ (by decide)
    refine State.Keeps.step (State.put_keeps ..) ?_ (by decide)
    exact State.Keeps.step (State.put_keeps ..) h10 (by decide)
  have h12 : State.Keeps State.warmReset_scope s s12 := by
    refine State.Keeps.step (State.alertPins_keeps ..) ?_ (by decide)
    refine State.Keeps.step (State.put_keeps ..) ?_ (by decide)
    exact State.Keeps.step (State.ftlPut_keeps ..) h11 (by decide)
  exact State.Keeps.upd_flm h12 (by decide)

end Sys2Proof.Machine
end

