-- ==== Sys2Proof/Laws/KeepSeqRun.lean ====
section
/-! SUPPORT. What each operation of Machine/SeqRun.lean keeps: the parts of State it can change are those listed. -/
set_option linter.unusedTactic false
set_option linter.unreachableTactic false
namespace Sys2Proof.Machine

def State.tableCommit_scope : Scope := ⟨[.regs, .evf, .recd, .hp, .pwr, .seq, .out, .free], some [EVF.ALERT_DRV, EVF.TRACE_DROP, HDR.ERR_INFO0, HDR.ERR_INFO1, HDR.ERR_STAT, HDR.EVT_STAT, MGT.ALARM_SENT, PWR.PWR_WAKE_LATCH, PWR.STATE, REC.ALARM_DROP, REC.HEAD_SEQ, REC.LOST_CNT, REC.OVW_CNT, REC.RSV_USED, SEQ.ERR_CODE, SEQ.ERR_ROW, SEQ.TABLE_RESULT]⟩
theorem State.tableCommit_keeps (s : State) : State.Keeps State.tableCommit_scope s (State.tableCommit s) := by
  unfold State.tableCommit
  (try dsimp only)
  repeat' first
    | with_reducible exact State.Keeps.refl _ _
    | fail_if_no_progress ((with_reducible apply State.Keeps.upd_seq); rotate_right; decide)
    | ((with_reducible apply State.Keeps.step (State.put_keeps ..)); rotate_right; decide)
    | ((with_reducible apply State.Keeps.step (State.blkErr_keeps ..)); rotate_right; decide)
    | split

def State.railData_scope : Scope := ⟨[.seq], some []⟩
theorem State.railData_keeps (s : State) (w : Nat) (v : Nat) : State.Keeps State.railData_scope s (State.railData s w v) := by
  unfold State.railData
  (try dsimp only)
  repeat' first
    | with_reducible exact State.Keeps.refl _ _
    | with_reducible apply State.Keeps.ite
    | fail_if_no_progress ((with_reducible apply State.Keeps.upd_seq); rotate_right; decide)

def State.startRails_scope : Scope := ⟨[.regs, .seq, .out], some [SEQ.RAIL_ON, SEQ.STATE]⟩
theorem State.startRails_keeps (s : State) : State.Keeps State.startRails_scope s (State.startRails s) := by
  unfold State.startRails
  (try dsimp only)
  repeat' first
    | with_reducible exact State.Keeps.refl _ _
    | with_reducible assumption
    | with_reducible apply State.Keeps.ite
    | ((with_reducible apply State.Keeps.step (State.put_keeps ..)); rotate_right; decide)
    | ((with_reducible apply State.Keeps.step (State.railStart_keeps ..)); rotate_right; decide)
    | ((with_reducible apply State.Keeps.foldl); rotate_right; intro _ _ _; rotate_left)

def State.railFaultClear_scope : Scope := ⟨[.regs, .seq, .out], some [SEQ.RAIL_FAULT, SEQ.RAIL_ON, SEQ.STATE]⟩
theorem State.railFaultClear_keeps (s : State) (mask : Nat) : State.Keeps State.railFaultClear_scope s (State.railFaultClear s mask) := by
  unfold State.railFaultClear
  (try dsimp only)
  repeat' first
    | with_reducible exact State.Keeps.refl _ _
    | ((with_reducible apply State.Keeps.step (State.put_keeps ..)); rotate_right; decide)
    | ((with_reducible apply State.Keeps.step (State.startRails_keeps ..)); rotate_right; decide)

def State.faultClear_scope : Scope := ⟨[.regs, .seq, .out], some [SEQ.FAULT_N_DRV, SEQ.FAULT_N_IN, SEQ.RAIL_ON, SEQ.STATE]⟩
theorem State.faultClear_keeps (s : State) : State.Keeps State.faultClear_scope s (State.faultClear s) := by
  unfold State.faultClear
  (try dsimp only)
  repeat' first
    | with_reducible exact State.Keeps.refl _ _
    | with_reducible apply State.Keeps.ite
    | fail_if_no_progress ((with_reducible apply State.Keeps.upd_seq); rotate_right; decide)
    | ((with_reducible apply State.Keeps.step (State.faultNOff_keeps ..)); rotate_right; decide)
    | ((with_reducible apply State.Keeps.step (State.startRails_keeps ..)); rotate_right; decide)

def State.devDownRun_scope : Scope := ⟨[.regs, .seq, .out], some [SEQ.DEV_GOOD, SEQ.RAIL_GOOD, SEQ.RAIL_ON, SEQ.STATE]⟩
theorem State.devDownRun_keeps (a0 : Nat) (a1 : State) : State.Keeps State.devDownRun_scope a1 (State.devDownRun a0 a1) := by
  induction a0 generalizing a1 with
  | zero => exact State.Keeps.refl _ _
  | succ _ ih =>
   unfold State.devDownRun
   (try dsimp only)
   repeat' first
    | ((with_reducible apply State.Keeps.step (ih ..)); rotate_right; decide)
    | with_reducible exact State.Keeps.refl _ _
    | with_reducible apply State.Keeps.ite
    | fail_if_no_progress ((with_reducible apply State.Keeps.upd_seq); rotate_right; decide)
    | ((with_reducible apply State.Keeps.step (State.put_keeps ..)); rotate_right; decide)
    | ((with_reducible apply State.Keeps.step (State.railRelease_keeps ..)); rotate_right; decide)
    | split

def State.devDownGo_scope : Scope := State.devDownRun_scope
theorem State.devDownGo_keeps (s : State) : State.Keeps State.devDownGo_scope s (State.devDownGo s) := by
  unfold State.devDownGo
  (try dsimp only)
  repeat' first
    | with_reducible exact State.Keeps.refl _ _
    | ((with_reducible apply State.Keeps.step (State.devDownRun_keeps ..)); rotate_right; decide)

def State.deviceLost_scope : Scope := State.coldReset_scope
theorem State.deviceLost_keeps (s : State) : State.Keeps State.deviceLost_scope s (State.deviceLost s) := by
  unfold State.deviceLost
  extract_lets wp s0 s1 s2 _ _ _
  have h0 : State.Keeps State.deviceLost_scope s s0 := State.Keeps.step (State.coldReset_keeps s.harvestStop) ((State.harvestStop_keeps s).mono (by decide)) (by decide)
  have h1 : State.Keeps State.deviceLost_scope s s1 := State.Keeps.foldl h0 fun _ _ h => State.Keeps.step (State.pinOut_keeps ..) h (by decide)
  have h2 : State.Keeps State.deviceLost_scope s s2 :=
    State.Keeps.ite (State.Keeps.step (State.pinOut_keeps ..) h1 (by decide)) h1
  clear_value s2
  refine State.Keeps.gen (t := s2.put SEQ.STATE seqOff) (State.Keeps.step (State.put_keeps ..) h2 (by decide)) (fun p hp => ?_) (by first | exact fun _ fs _ => State.fieldsBut.refl rfl fs | exact fun _ => State.anyFields rfl) id id
  cases p <;> first | exact absurd (by decide) hp | exact rfl

def State.downRelease_scope : Scope := State.railRelease_scope
theorem State.downRelease_keeps (s : State) : State.Keeps State.downRelease_scope s (State.downRelease s) := by
  unfold State.downRelease
  (try dsimp only)
  repeat' first
    | with_reducible exact State.Keeps.refl _ _
    | ((with_reducible apply State.Keeps.step (State.railsRelease_keeps ..)); rotate_right; decide)

def State.downProgress_scope : Scope := State.deviceLost_scope
theorem State.downProgress_keeps (s : State) : State.Keeps State.downProgress_scope s (State.downProgress s) := by
  unfold State.downProgress
  (try dsimp only)
  repeat' first
    | with_reducible exact State.Keeps.refl _ _
    | with_reducible apply State.Keeps.ite
    | fail_if_no_progress ((with_reducible apply State.Keeps.upd_seq); rotate_right; decide)
    | ((with_reducible apply State.Keeps.step (State.devDownGo_keeps ..)); rotate_right; decide)
    | ((with_reducible apply State.Keeps.step (State.put_keeps ..)); rotate_right; first | decide | rfl)
    | ((with_reducible apply State.Keeps.step (State.railRelease_keeps ..)); rotate_right; decide)
    | ((with_reducible apply State.Keeps.step (State.deviceLost_keeps ..)); rotate_right; decide)
    | ((with_reducible apply State.Keeps.step (State.downRelease_keeps ..)); rotate_right; decide)

def State.powerDown_scope : Scope := State.deviceLost_scope
theorem State.powerDown_keeps (s : State) : State.Keeps State.powerDown_scope s (State.powerDown s) := by
  unfold State.powerDown
  (try dsimp only)
  repeat' first
    | with_reducible exact State.Keeps.refl _ _
    | with_reducible apply State.Keeps.ite
    | fail_if_no_progress ((with_reducible apply State.Keeps.upd_seq); rotate_right; decide)
    | ((with_reducible apply State.Keeps.step (State.put_keeps ..)); rotate_right; first | decide | rfl)
    | ((with_reducible apply State.Keeps.step (State.downProgress_keeps ..)); rotate_right; decide)

def State.powerUp_scope : Scope := ⟨[.regs, .seq, .out], some [SEQ.RAIL_ON, SEQ.STATE]⟩
theorem State.powerUp_keeps (s : State) : State.Keeps State.powerUp_scope s (State.powerUp s) := by
  unfold State.powerUp
  (try dsimp only)
  repeat' first
    | with_reducible exact State.Keeps.refl _ _
    | with_reducible apply State.Keeps.ite
    | fail_if_no_progress ((with_reducible apply State.Keeps.upd_seq); rotate_right; decide)
    | ((with_reducible apply State.Keeps.step (State.put_keeps ..)); rotate_right; decide)
    | ((with_reducible apply State.Keeps.step (State.startRails_keeps ..)); rotate_right; decide)

def State.devRampFail_scope : Scope := State.railRelease_scope
theorem State.devRampFail_keeps (s : State) (k : Nat) : State.Keeps State.devRampFail_scope s (State.devRampFail s k) := by
  unfold State.devRampFail
  (try dsimp only)
  repeat' first
    | with_reducible exact State.Keeps.refl _ _
    | fail_if_no_progress ((with_reducible apply State.Keeps.upd_seq); rotate_right; decide)
    | ((with_reducible apply State.Keeps.step (State.railsRelease_keeps ..)); rotate_right; decide)

def State.devStart_scope : Scope := ⟨[.regs, .seq, .out], some [SEQ.RAIL_ON]⟩
theorem State.devStart_keeps (s : State) : State.Keeps State.devStart_scope s (State.devStart s) := by
  unfold State.devStart
  (try dsimp only)
  repeat' first
    | with_reducible exact State.Keeps.refl _ _
    | with_reducible apply State.Keeps.ite
    | fail_if_no_progress ((with_reducible apply State.Keeps.upd_seq); rotate_right; decide)
    | ((with_reducible apply State.Keeps.step (State.railStart_keeps ..)); rotate_right; decide)

def State.devUpGo_scope : Scope := ⟨[.regs, .seq, .wdn, .out], some [SEQ.RAIL_ON, SEQ.STATE]⟩
theorem State.devUpGo_keeps (s : State) : State.Keeps State.devUpGo_scope s (State.devUpGo s) := by
  unfold State.devUpGo
  (try dsimp only)
  repeat' first
    | with_reducible exact State.Keeps.refl _ _
    | with_reducible apply State.Keeps.ite
    | ((with_reducible apply State.Keeps.step (State.put_keeps ..)); rotate_right; decide)
    | ((with_reducible apply State.Keeps.step (State.pinOut_keeps ..)); rotate_right; decide)
    | ((with_reducible apply State.Keeps.step (State.railStart_keeps ..)); rotate_right; decide)
    | fail_if_no_progress ((with_reducible apply State.Keeps.upd); rotate_right; (intro p hp; cases p <;> first | exact absurd (by decide) hp | exact rfl))
    | split

def State.deviceFault_scope : Scope := State.deviceLost_scope
theorem State.deviceFault_keeps (s : State) (k : Nat) : State.Keeps State.deviceFault_scope s (State.deviceFault s k) := by
  unfold State.deviceFault
  (try dsimp only)
  repeat' first
    | with_reducible exact State.Keeps.refl _ _
    | with_reducible apply State.Keeps.ite
    | fail_if_no_progress ((with_reducible apply State.Keeps.upd_seq); rotate_right; decide)
    | ((with_reducible apply State.Keeps.step (State.deviceLost_keeps ..)); rotate_right; decide)
    | ((with_reducible apply State.Keeps.step (State.railsRelease_keeps ..)); rotate_right; decide)
    | ((with_reducible apply State.Keeps.step (State.faultN_keeps ..)); rotate_right; decide)
    | ((with_reducible apply State.Keeps.step (State.harvestStop_keeps ..)); rotate_right; decide)

def State.railFaults_scope : Scope := ⟨[.regs, .evf, .recd, .hp, .pwr, .flm, .seq, .hrv, .out, .free], some [EVF.ALERT_DRV, EVF.TRACE_DROP, FTL.RESERVE_LUNS, FTL.RESERVE_READY_MIB, HDR.ERR_INFO0, HDR.ERR_INFO1, HDR.ERR_STAT, HDR.EVT_STAT, MGT.ALARM_SENT, PWR.PWR_WAKE_LATCH, PWR.STATE, REC.ALARM_DROP, REC.HEAD_SEQ, REC.LOST_CNT, REC.OVW_CNT, REC.RSV_USED, SEQ.DEV_GOOD, SEQ.FAULT_N_DRV, SEQ.FAULT_N_IN, SEQ.RAIL_FAULT, SEQ.RAIL_GOOD, SEQ.RAIL_ON]⟩
theorem State.railFaults_keeps (s : State) (l : List Nat) : State.Keeps State.railFaults_scope s (State.railFaults s l) := by
  unfold State.railFaults
  (try dsimp only)
  repeat' first
    | with_reducible exact State.Keeps.refl _ _
    | with_reducible assumption
    | with_reducible apply State.Keeps.ite
    | ((with_reducible apply State.Keeps.step (State.harvestStop_keeps ..)); rotate_right; decide)
    | ((with_reducible apply State.Keeps.step (State.faultN_keeps ..)); rotate_right; decide)
    | ((with_reducible apply State.Keeps.step (State.railsRelease_keeps ..)); rotate_right; decide)
    | ((with_reducible apply State.Keeps.step (State.putBit_keeps ..)); rotate_right; decide)
    | ((with_reducible apply State.Keeps.step (State.blkErr_keeps ..)); rotate_right; decide)
    | ((with_reducible apply State.Keeps.foldl); rotate_right; intro _ _ _; rotate_left)

end Sys2Proof.Machine
end

