-- ==== Sys2Proof/Laws/KeepSeq.lean ====
section
/-! SUPPORT. What each operation of Machine/Seq.lean keeps: the parts of State it can change are those listed. -/
set_option linter.unusedTactic false
set_option linter.unreachableTactic false
namespace Sys2Proof.Machine

def State.inputRail_scope : Scope := ⟨[.regs, .ctl, .evf, .recd, .xlt, .hp, .qe, .mov, .tier, .pan, .twn, .cmn, .pwr, .dmc, .flm, .seq, .hrv, .nvs, .wdn, .out, .free], none⟩
theorem State.inputRail_keeps (s : State) (x : Scan) (pf : Bool) : State.Keeps State.inputRail_scope s (State.inputRail s x pf) := by
  unfold State.inputRail
  (try dsimp only)
  repeat' first
    | with_reducible exact State.Keeps.refl _ _
    | with_reducible apply State.Keeps.ite
    | fail_if_no_progress ((with_reducible apply State.Keeps.upd_seq); rotate_right; decide)
    | ((with_reducible apply State.Keeps.step (State.harvestStart_keeps ..)); rotate_right; decide)
    | ((with_reducible apply State.Keeps.step (State.faultN_keeps ..)); rotate_right; decide)
    | ((with_reducible apply State.Keeps.step (State.misc_keeps ..)); rotate_right; decide)

def State.judge_scope : Scope := ⟨[.regs, .evf, .recd, .hp, .pwr, .seq, .out, .free], some [EVF.ALERT_DRV, EVF.TRACE_DROP, HDR.ERR_INFO0, HDR.ERR_INFO1, HDR.ERR_STAT, HDR.EVT_STAT, MGT.ALARM_SENT, PWR.PWR_WAKE_LATCH, PWR.STATE, REC.ALARM_DROP, REC.HEAD_SEQ, REC.LOST_CNT, REC.OVW_CNT, REC.RSV_USED, SEQ.DEV_GOOD, SEQ.RAIL_GOOD, SEQ.RAIL_WARN]⟩
theorem State.judge_keeps (s : State) (x : Scan) (n : Nat) : State.Keeps State.judge_scope s (State.judge s x n).1 := by
  unfold State.judge
  (try dsimp only)
  repeat' first
    | with_reducible exact State.Keeps.refl _ _
    | with_reducible apply State.Keeps.ite
    | ((with_reducible apply State.Keeps.step (State.railOff_keeps ..)); rotate_right; decide)
    | ((with_reducible apply State.Keeps.step (State.misc_keeps ..)); rotate_right; decide)
    | ((with_reducible apply State.Keeps.step (State.putBit_keeps ..)); rotate_right; decide)
    | ((with_reducible apply State.Keeps.step (State.putRail_keeps ..)); rotate_right; decide)
    | ((with_reducible apply State.Keeps.step (State.railGood_keeps ..)); rotate_right; decide)
    | split

def State.refCheck_scope : Scope := ⟨[.regs, .evf, .recd, .hp, .pwr, .seq, .out, .free], some [EVF.ALERT_DRV, EVF.TRACE_DROP, HDR.ERR_INFO0, HDR.ERR_INFO1, HDR.ERR_STAT, HDR.EVT_STAT, MGT.ALARM_SENT, PWR.PWR_WAKE_LATCH, PWR.STATE, REC.ALARM_DROP, REC.HEAD_SEQ, REC.LOST_CNT, REC.OVW_CNT, REC.RSV_USED, SEQ.ADC_CORES]⟩
theorem State.refCheck_keeps (s : State) (k : Nat) (ok : Bool) : State.Keeps State.refCheck_scope s (State.refCheck s k ok) := by
  unfold State.refCheck
  (try dsimp only)
  repeat' first
    | with_reducible exact State.Keeps.refl _ _
    | with_reducible apply State.Keeps.ite
    | fail_if_no_progress ((with_reducible apply State.Keeps.upd_seq); rotate_right; decide)
    | ((with_reducible apply State.Keeps.step (State.putBit_keeps ..)); rotate_right; decide)
    | ((with_reducible apply State.Keeps.step (State.blkErr_keeps ..)); rotate_right; decide)

def State.snsTake_scope : Scope := ⟨[.seq, .free], some []⟩
theorem State.snsTake_keeps (s : State) (x : Scan) : State.Keeps State.snsTake_scope s (State.snsTake s x) := by
  unfold State.snsTake
  (try dsimp only)
  repeat' first
    | with_reducible exact State.Keeps.refl _ _
    | fail_if_no_progress ((with_reducible apply State.Keeps.upd_seq); rotate_right; decide)
    | ((with_reducible apply State.Keeps.step (State.useFree_keeps ..)); rotate_right; decide)

def State.tempOne_scope : Scope := State.railFaults_scope
theorem State.tempOne_keeps (s : State) (k : Nat) (v : Int) : State.Keeps State.tempOne_scope s (State.tempOne s k v) := by
  unfold State.tempOne
  (try dsimp only)
  repeat' first
    | with_reducible exact State.Keeps.refl _ _
    | with_reducible apply State.Keeps.ite
    | fail_if_no_progress ((with_reducible apply State.Keeps.upd_seq); rotate_right; decide)
    | ((with_reducible apply State.Keeps.step (State.blkErr_keeps ..)); rotate_right; decide)
    | ((with_reducible apply State.Keeps.step (State.railFaults_keeps ..)); rotate_right; decide)
    | ((with_reducible apply State.Keeps.step (State.misc_keeps ..)); rotate_right; decide)

def execAdcScan_scope : Scope := State.coldReset_scope
theorem execAdcScan_keeps (core0 : List Nat) (core1 : List Nat) (ref0 : Bool) (ref1 : Bool) (dev : List (Nat × Nat)) (pf : Bool) (s : State) : State.KeepsR execAdcScan_scope s (execAdcScan core0 core1 ref0 ref1 dev pf s) := by
  unfold execAdcScan
  (try dsimp only)
  repeat' first
    | with_reducible exact State.Keeps.refl _ _
    | with_reducible assumption
    | with_reducible apply State.KeepsR.next
    | with_reducible apply State.KeepsR.ite
    | with_reducible apply State.Keeps.ite
    | ((with_reducible apply State.Keeps.step (State.tideTick_keeps ..)); rotate_right; decide)
    | ((with_reducible apply State.Keeps.step (State.harvestStop_keeps ..)); rotate_right; decide)
    | ((with_reducible apply State.Keeps.step (State.railFaults_keeps ..)); rotate_right; decide)
    | ((with_reducible apply State.Keeps.step (State.deviceFault_keeps ..)); rotate_right; decide)
    | ((with_reducible apply State.Keeps.step (State.inputRail_keeps ..)); rotate_right; decide)
    | ((with_reducible apply State.Keeps.step (State.downProgress_keeps ..)); rotate_right; decide)
    | ((with_reducible apply State.Keeps.step (State.startRails_keeps ..)); rotate_right; decide)
    | ((with_reducible apply State.Keeps.step (State.devUpGo_keeps ..)); rotate_right; decide)
    | ((with_reducible apply State.Keeps.step (State.put_keeps ..)); rotate_right; first | decide | rfl)
    | ((with_reducible apply State.Keeps.step (State.judge_keeps ..)); rotate_right; decide)
    | ((with_reducible apply State.Keeps.step (State.incMod_keeps ..)); rotate_right; first | decide | rfl)
    | ((with_reducible apply State.Keeps.step (State.refCheck_keeps ..)); rotate_right; decide)
    | ((with_reducible apply State.Keeps.step (State.snsTake_keeps ..)); rotate_right; decide)
    | ((with_reducible apply State.Keeps.foldl1); rotate_right; intro _ _ _; rotate_left)
    | split

def execDeviceRailRetry_scope : Scope := ⟨[.regs, .seq, .out], some [SEQ.RAIL_ON]⟩
theorem execDeviceRailRetry_keeps (s : State) : State.KeepsR execDeviceRailRetry_scope s (execDeviceRailRetry s) := by
  unfold execDeviceRailRetry
  (try dsimp only)
  repeat' first
    | with_reducible exact State.Keeps.refl _ _
    | with_reducible apply State.KeepsR.next
    | with_reducible apply State.KeepsR.ite
    | ((with_reducible apply State.Keeps.step (State.devStart_keeps ..)); rotate_right; decide)

def execDeviceRailsStart_scope : Scope := ⟨[.regs, .seq, .out], some [SEQ.RAIL_ON]⟩
theorem execDeviceRailsStart_keeps (s : State) : State.KeepsR execDeviceRailsStart_scope s (execDeviceRailsStart s) := by
  unfold execDeviceRailsStart
  (try dsimp only)
  repeat' first
    | with_reducible exact State.Keeps.refl _ _
    | with_reducible apply State.KeepsR.next
    | ((with_reducible apply State.Keeps.step (State.devStart_keeps ..)); rotate_right; decide)

def execEnableReadbackFault_scope : Scope := State.coldReset_scope
theorem execEnableReadbackFault_keeps (pin : SeqPin) (s : State) : State.KeepsR execEnableReadbackFault_scope s (execEnableReadbackFault pin s) := by
  unfold execEnableReadbackFault
  (try dsimp only)
  repeat' first
    | with_reducible exact State.Keeps.refl _ _
    | with_reducible apply State.KeepsR.next
    | ((with_reducible apply State.Keeps.step (State.faultNOff_keeps ..)); rotate_right; decide)
    | ((with_reducible apply State.Keeps.step (State.startRails_keeps ..)); rotate_right; decide)
    | ((with_reducible apply State.Keeps.step (State.deviceFault_keeps ..)); rotate_right; decide)
    | ((with_reducible apply State.Keeps.step (State.pinOut_keeps ..)); rotate_right; decide)
    | ((with_reducible apply State.Keeps.step (State.railFaults_keeps ..)); rotate_right; decide)
    | ((with_reducible apply State.Keeps.step (State.downProgress_keeps ..)); rotate_right; decide)
    | ((with_reducible apply State.Keeps.step (State.blkErr_keeps ..)); rotate_right; decide)
    | split

def execFaultNHigh_scope : Scope := ⟨[.regs, .seq, .out], some [SEQ.FAULT_N_IN, SEQ.RAIL_ON, SEQ.STATE]⟩
theorem execFaultNHigh_keeps (s : State) : State.KeepsR execFaultNHigh_scope s (execFaultNHigh s) := by
  unfold execFaultNHigh
  (try dsimp only)
  repeat' first
    | with_reducible exact State.Keeps.refl _ _
    | with_reducible apply State.KeepsR.next
    | with_reducible apply State.KeepsR.ite
    | ((with_reducible apply State.Keeps.step (State.put_keeps ..)); rotate_right; decide)
    | ((with_reducible apply State.Keeps.step (State.startRails_keeps ..)); rotate_right; decide)

def execFaultNHoldExpiry_scope : Scope := ⟨[.regs, .seq, .out], some [SEQ.FAULT_N_DRV, SEQ.FAULT_N_IN, SEQ.RAIL_ON, SEQ.STATE]⟩
theorem execFaultNHoldExpiry_keeps (s : State) : State.KeepsR execFaultNHoldExpiry_scope s (execFaultNHoldExpiry s) := by
  unfold execFaultNHoldExpiry
  (try dsimp only)
  repeat' first
    | with_reducible exact State.Keeps.refl _ _
    | with_reducible apply State.KeepsR.next
    | with_reducible apply State.KeepsR.ite
    | fail_if_no_progress ((with_reducible apply State.Keeps.upd_seq); rotate_right; decide)
    | ((with_reducible apply State.Keeps.step (State.faultNOff_keeps ..)); rotate_right; decide)
    | ((with_reducible apply State.Keeps.step (State.startRails_keeps ..)); rotate_right; decide)

def execHarvestEnd_scope : Scope := State.coldReset_scope
theorem execHarvestEnd_keeps (s : State) : State.KeepsR execHarvestEnd_scope s (execHarvestEnd s) := by
  unfold execHarvestEnd
  extract_lets st ov s1 s2 s3 first good _ s4 _ s5
  refine State.KeepsR.ite (State.KeepsR.next (State.Keeps.refl _ _)) (State.KeepsR.ite (State.KeepsR.next ?_) ?_)
  · exact State.Keeps.foldl (State.Keeps.refl _ _) fun _ _ h => State.Keeps.step (State.selfRefresh_keeps ..) h (by decide)
  have h1 : State.Keeps execHarvestEnd_scope s s1 :=
    State.Keeps.step (State.put_keeps ..) ((State.harvestTo_keeps s 6).mono (by decide)) (by decide)
  have h2 : State.Keeps execHarvestEnd_scope s s2 := State.Keeps.foldl (xs := List.range 12) h1 (f := State.selfRefresh)
    (fun u a h => State.Keeps.step (State.selfRefresh_keeps ..) h (by decide))
  have h3 : State.Keeps execHarvestEnd_scope s s3 :=
    State.Keeps.ite (State.Keeps.step (State.aliveStop_keeps ..) h2 (by decide)) h2
  have h4 : State.Keeps execHarvestEnd_scope s s4 :=
    State.Keeps.upd_hrv h3 (by decide)
  have h5 : State.Keeps execHarvestEnd_scope s s5 :=
    State.Keeps.ite (State.Keeps.upd_clk h4 (by decide)) h4
  have hp := State.Keeps.step (State.powerDown_keeps s4) h4 (by decide)
  refine State.KeepsR.ite (State.KeepsR.next hp) (State.KeepsR.ite (State.KeepsR.next (State.Keeps.ite ?_ hp)) (State.KeepsR.next ?_))
  · exact State.Keeps.step (State.resume_keeps ..) h4 (by decide)
  · exact State.Keeps.step (State.coldReset_keeps ..) h5 (by decide)

def execJunctionShutdown_scope : Scope := State.harvestBegin_scope
theorem execJunctionShutdown_keeps (s : State) : State.KeepsR execJunctionShutdown_scope s (execJunctionShutdown s) := by
  unfold execJunctionShutdown
  (try dsimp only)
  repeat' first
    | with_reducible exact State.Keeps.refl _ _
    | with_reducible apply State.KeepsR.next
    | with_reducible apply State.KeepsR.ite
    | ((with_reducible apply State.Keeps.step (State.misc_keeps ..)); rotate_right; decide)
    | ((with_reducible apply State.Keeps.step (State.harvestStart_keeps ..)); rotate_right; decide)

def execJunctionThrottle_scope : Scope := ⟨[.regs, .evf, .recd, .hp, .pwr, .seq, .out, .free], some [EVF.ALERT_DRV, EVF.TRACE_DROP, HDR.ERR_INFO0, HDR.ERR_INFO1, HDR.ERR_STAT, HDR.EVT_STAT, MGT.ALARM_SENT, PWR.PWR_WAKE_LATCH, PWR.STATE, REC.ALARM_DROP, REC.HEAD_SEQ, REC.LOST_CNT, REC.OVW_CNT, REC.RSV_USED]⟩
theorem execJunctionThrottle_keeps (celsius : BitVec 8) (s : State) : State.KeepsR execJunctionThrottle_scope s (execJunctionThrottle celsius s) := by
  unfold execJunctionThrottle
  (try dsimp only)
  repeat' first
    | with_reducible exact State.Keeps.refl _ _
    | with_reducible apply State.KeepsR.next
    | with_reducible apply State.KeepsR.ite
    | fail_if_no_progress ((with_reducible apply State.Keeps.upd_seq); rotate_right; decide)
    | ((with_reducible apply State.Keeps.step (State.misc_keeps ..)); rotate_right; decide)

def execPeerFault_scope : Scope := State.coldReset_scope
theorem execPeerFault_keeps (s : State) : State.KeepsR execPeerFault_scope s (execPeerFault s) := by
  unfold execPeerFault
  (try dsimp only)
  repeat' first
    | with_reducible exact State.Keeps.refl _ _
    | with_reducible apply State.KeepsR.next
    | with_reducible apply State.KeepsR.ite
    | ((with_reducible apply State.Keeps.step (State.railsRelease_keeps ..)); rotate_right; decide)
    | ((with_reducible apply State.Keeps.step (State.downProgress_keeps ..)); rotate_right; decide)
    | ((with_reducible apply State.Keeps.step (State.put_keeps ..)); rotate_right; first | decide | rfl)
    | ((with_reducible apply State.Keeps.step (State.blkErr_keeps ..)); rotate_right; decide)

def execPorNFall_scope : Scope := State.coldReset_scope
theorem execPorNFall_keeps (s : State) : State.KeepsR execPorNFall_scope s (execPorNFall s) := by
  unfold execPorNFall
  refine State.KeepsR.ite (State.KeepsR.next (State.Keeps.refl _ _)) ?_
  extract_lets s1 pins s2
  have h1 : State.Keeps _ s s1 := State.deviceLost_keeps s
  clear_value s1 pins
  have h2 : State.Keeps _ s s2 := State.Keeps.foldl (xs := pins) h1 (f := fun s x => s.pinOut x.1 x.2 none)
    (fun u a h => State.Keeps.step (State.pinOut_keeps ..) h (by decide))
  clear_value s2
  refine State.KeepsR.next (State.Keeps.gen (t := s2) h2 (fun p hp => ?_) (by first | exact fun _ fs _ => State.fieldsBut.refl rfl fs | exact fun _ => State.anyFields rfl) (fun _ => trivial) id)
  cases p <;> first | exact absurd (by decide) hp | exact rfl

def execPorNRise_scope : Scope := ⟨[.regs, .seq, .unit, .out], some [HP.BIFURC, HP.MGMT_PF, SEQ.STATE, TWN.UNIT]⟩
theorem execPorNRise_keeps (straps : Straps) (s : State) : State.KeepsR execPorNRise_scope s (execPorNRise straps s) := by
  unfold execPorNRise
  refine State.KeepsR.ite (State.KeepsR.next (State.Keeps.refl _ _)) ?_
  extract_lets bifs m _ s1 s2 s3
  have h1 : State.Keeps execPorNRise_scope s s1 := by
    refine State.Keeps.gen (State.Keeps.refl _ _) (fun p hp => ?_) (by first | exact fun _ fs _ => State.fieldsBut.refl rfl fs | exact fun _ => State.anyFields rfl) id id
    cases p <;> first | exact absurd (by decide) hp | exact rfl
  have h2 : State.Keeps execPorNRise_scope s s2 := State.Keeps.foldl h1
    (fun u a h => State.Keeps.step (State.put_keeps ..) (State.Keeps.step (State.put_keeps ..) h (by decide)) (by decide))
  refine State.KeepsR.next (State.Keeps.foldl ?_ (fun u a h => State.Keeps.step (State.pinOut_keeps ..) h (by decide)))
  exact State.Keeps.step (State.put_keeps ..) (State.Keeps.step (State.put_keeps ..) h2 (by decide)) (by decide)

def execRailOffTimeout_scope : Scope := State.coldReset_scope
theorem execRailOffTimeout_keeps (row : Fin 40) (s : State) : State.KeepsR execRailOffTimeout_scope s (execRailOffTimeout row s) := by
  unfold execRailOffTimeout
  (try dsimp only)
  repeat' first
    | with_reducible exact State.Keeps.refl _ _
    | with_reducible apply State.KeepsR.next
    | with_reducible apply State.KeepsR.ite
    | ((with_reducible apply State.Keeps.step (State.railOff_keeps ..)); rotate_right; decide)
    | ((with_reducible apply State.Keeps.step (State.downProgress_keeps ..)); rotate_right; decide)
    | ((with_reducible apply State.Keeps.step (State.startRails_keeps ..)); rotate_right; decide)

def execRampTimeout_scope : Scope := State.coldReset_scope
theorem execRampTimeout_keeps (row : Fin 40) (s : State) : State.KeepsR execRampTimeout_scope s (execRampTimeout row s) := by
  unfold execRampTimeout
  (try dsimp only)
  repeat' first
    | with_reducible exact State.Keeps.refl _ _
    | with_reducible apply State.KeepsR.next
    | with_reducible apply State.KeepsR.ite
    | fail_if_no_progress ((with_reducible apply State.Keeps.upd_seq); rotate_right; decide)
    | ((with_reducible apply State.Keeps.step (State.put_keeps ..)); rotate_right; first | decide | rfl)
    | ((with_reducible apply State.Keeps.step (State.downProgress_keeps ..)); rotate_right; decide)
    | ((with_reducible apply State.Keeps.step (State.faultN_keeps ..)); rotate_right; decide)
    | ((with_reducible apply State.Keeps.step (State.putBit_keeps ..)); rotate_right; first | decide | rfl)
    | ((with_reducible apply State.Keeps.step (State.blkErr_keeps ..)); rotate_right; decide)
    | ((with_reducible apply State.Keeps.step (State.devRampFail_keeps ..)); rotate_right; decide)
    | ((with_reducible apply State.Keeps.step (State.railGood_keeps ..)); rotate_right; decide)
    | ((with_reducible apply State.Keeps.step (State.startRails_keeps ..)); rotate_right; decide)

def execResetInN_scope : Scope := ⟨[.regs, .ctl, .evf, .recd, .xlt, .hp, .qe, .mov, .tier, .pan, .twn, .cmn, .pwr, .dmc, .flm, .seq, .hrv, .nvs, .wdn, .out, .free], none⟩
theorem execResetInN_keeps (s : State) : State.KeepsR execResetInN_scope s (execResetInN s) := by
  unfold execResetInN
  (try dsimp only)
  repeat' first
    | with_reducible exact State.Keeps.refl _ _
    | with_reducible apply State.KeepsR.next
    | with_reducible apply State.KeepsR.ite
    | fail_if_no_progress ((with_reducible apply State.Keeps.upd_seq); rotate_right; decide)
    | ((with_reducible apply State.Keeps.step (State.harvestStart_keeps ..)); rotate_right; decide)

def execResetInNRelease_scope : Scope := ⟨[.regs, .seq, .wdn, .out], some [SEQ.RAIL_ON, SEQ.STATE]⟩
theorem execResetInNRelease_keeps (s : State) : State.KeepsR execResetInNRelease_scope s (execResetInNRelease s) := by
  unfold execResetInNRelease
  (try dsimp only)
  repeat' first
    | with_reducible exact State.Keeps.refl _ _
    | with_reducible apply State.KeepsR.next
    | fail_if_no_progress ((with_reducible apply State.Keeps.upd_seq); rotate_right; decide)
    | ((with_reducible apply State.Keeps.step (State.devUpGo_keeps ..)); rotate_right; decide)

def execStuckOnTimeout_scope : Scope := State.coldReset_scope
theorem execStuckOnTimeout_keeps (row : Fin 40) (s : State) : State.KeepsR execStuckOnTimeout_scope s (execStuckOnTimeout row s) := by
  unfold execStuckOnTimeout
  (try dsimp only)
  repeat' first
    | with_reducible exact State.Keeps.refl _ _
    | with_reducible apply State.KeepsR.next
    | with_reducible apply State.KeepsR.ite
    | ((with_reducible apply State.Keeps.step (State.blkErr_keeps ..)); rotate_right; decide)
    | ((with_reducible apply State.Keeps.step (State.railOff_keeps ..)); rotate_right; decide)
    | ((with_reducible apply State.Keeps.step (State.downProgress_keeps ..)); rotate_right; decide)

def execTempMeasure_scope : Scope := State.tempOne_scope
theorem execTempMeasure_keeps (values : List Int) (s : State) : State.KeepsR execTempMeasure_scope s (execTempMeasure values s) := by
  unfold execTempMeasure
  (try dsimp only)
  repeat' first
    | with_reducible exact State.Keeps.refl _ _
    | with_reducible assumption
    | with_reducible apply State.KeepsR.next
    | with_reducible apply State.KeepsR.ite
    | ((with_reducible apply State.Keeps.step (State.tempOne_keeps ..)); rotate_right; decide)
    | ((with_reducible apply State.Keeps.foldl); rotate_right; intro _ _ _; rotate_left)

def execThermtrip_scope : Scope := State.coldReset_scope
theorem execThermtrip_keeps (s : State) : State.KeepsR execThermtrip_scope s (execThermtrip s) := by
  unfold execThermtrip
  (try dsimp only)
  repeat' first
    | with_reducible exact State.Keeps.refl _ _
    | with_reducible apply State.KeepsR.next
    | with_reducible apply State.KeepsR.ite
    | fail_if_no_progress ((with_reducible apply State.Keeps.upd_seq); rotate_right; decide)
    | ((with_reducible apply State.Keeps.step (State.harvestStop_keeps ..)); rotate_right; decide)
    | ((with_reducible apply State.Keeps.step (State.railsRelease_keeps ..)); rotate_right; decide)
    | ((with_reducible apply State.Keeps.step (State.deviceLost_keeps ..)); rotate_right; decide)
    | ((with_reducible apply State.Keeps.step (State.pinOut_keeps ..)); rotate_right; decide)

end Sys2Proof.Machine
end

