-- ==== Sys2Proof/Laws/KeepClk.lean ====
section
/-! SUPPORT. What each operation of Machine/Clk.lean keeps: the parts of State it can change are those listed. -/
set_option linter.unusedTactic false
set_option linter.unreachableTactic false
namespace Sys2Proof.Machine

def State.timeSet_scope : Scope := ⟨[.timeNs, .slew], some []⟩
theorem State.timeSet_keeps (s : State) (v : Nat) : State.Keeps State.timeSet_scope s (State.timeSet s v) := by
  unfold State.timeSet
  (try dsimp only)
  repeat' first
    | with_reducible exact State.Keeps.refl _ _
    | with_reducible apply State.Keeps.ite
    | fail_if_no_progress ((with_reducible apply State.Keeps.upd); rotate_right; (intro p hp; cases p <;> first | exact absurd (by decide) hp | exact rfl))

def State.ckoutUpdate_scope : Scope := ⟨[.regs, .out], some [CLK.CKOUT_ON]⟩
theorem State.ckoutUpdate_keeps (s : State) : State.Keeps State.ckoutUpdate_scope s (State.ckoutUpdate s) := by
  unfold State.ckoutUpdate
  (try dsimp only)
  repeat' first
    | with_reducible exact State.Keeps.refl _ _
    | with_reducible assumption
    | with_reducible apply State.Keeps.ite
    | ((with_reducible apply State.Keeps.step (State.putBit_keeps ..)); rotate_right; decide)
    | ((with_reducible apply State.Keeps.step (State.pinOut_keeps ..)); rotate_right; decide)
    | ((with_reducible apply State.Keeps.foldl); rotate_right; intro _ _ _; rotate_left)

def State.ckoutFaultClear_scope : Scope := ⟨[.regs, .out], some [CLK.CKOUT_FAULT, CLK.CKOUT_ON]⟩
theorem State.ckoutFaultClear_keeps (s : State) (mask : Nat) : State.Keeps State.ckoutFaultClear_scope s (State.ckoutFaultClear s mask) := by
  unfold State.ckoutFaultClear
  (try dsimp only)
  repeat' first
    | with_reducible exact State.Keeps.refl _ _
    | ((with_reducible apply State.Keeps.step (State.put_keeps ..)); rotate_right; decide)
    | ((with_reducible apply State.Keeps.step (State.ckoutUpdate_keeps ..)); rotate_right; decide)

def State.ckoutCfg_scope : Scope := ⟨[.regs, .out], some [CLK.CKOUT_ON, CLK.EN, CLK.FMT, CLK.LEVEL, CLK.SRC]⟩
theorem State.ckoutCfg_keeps (s : State) (k : Nat) (v : Nat) : State.Keeps State.ckoutCfg_scope s (State.ckoutCfg s k v).1 := by
  unfold State.ckoutCfg
  (try dsimp only)
  repeat' first
    | with_reducible exact State.Keeps.refl _ _
    | with_reducible apply State.Keeps.ite
    | ((with_reducible apply State.Keeps.step (State.put_keeps ..)); rotate_right; decide)
    | ((with_reducible apply State.Keeps.step (State.ckoutUpdate_keeps ..)); rotate_right; decide)

def State.clkCommit_scope : Scope := ⟨[.regs, .evf, .recd, .hp, .pwr, .out, .free], some [CLK.BUSY, CLK.RESULT, EVF.ALERT_DRV, EVF.TRACE_DROP, HDR.ERR_INFO0, HDR.ERR_INFO1, HDR.ERR_STAT, HDR.EVT_STAT, MGT.ALARM_SENT, PWR.PWR_WAKE_LATCH, PWR.STATE, REC.ALARM_DROP, REC.HEAD_SEQ, REC.LOST_CNT, REC.OVW_CNT, REC.RSV_USED]⟩
theorem State.clkCommit_keeps (s : State) : State.Keeps State.clkCommit_scope s (State.clkCommit s) := by
  unfold State.clkCommit
  (try dsimp only)
  repeat' first
    | with_reducible exact State.Keeps.refl _ _
    | with_reducible apply State.Keeps.ite
    | ((with_reducible apply State.Keeps.step (State.put_keeps ..)); rotate_right; decide)
    | ((with_reducible apply State.Keeps.step (State.blkErr_keeps ..)); rotate_right; decide)

def State.refSwitch_scope : Scope := ⟨[.regs], some [CLK.REF_IN_USE, CLK.ROOT_STATE]⟩
theorem State.refSwitch_keeps (s : State) (b : Bool) : State.Keeps State.refSwitch_scope s (State.refSwitch s b) := by
  unfold State.refSwitch
  (try dsimp only)
  repeat' first
    | with_reducible exact State.Keeps.refl _ _
    | ((with_reducible apply State.Keeps.step (State.put_keeps ..)); rotate_right; decide)

def State.clkSwitch_scope : Scope := ⟨[.regs], some [CLK.BUSY, CLK.CLK_DIV_NOW, CLK.RESULT, FLC.RATE_NOW]⟩
theorem State.clkSwitch_keeps (s : State) : State.Keeps State.clkSwitch_scope s (State.clkSwitch s) := by
  unfold State.clkSwitch
  (try dsimp only)
  repeat' first
    | with_reducible exact State.Keeps.refl _ _
    | with_reducible assumption
    | with_reducible apply State.Keeps.ite
    | ((with_reducible apply State.Keeps.step (State.put_keeps ..)); rotate_right; decide)
    | ((with_reducible apply State.Keeps.foldl); rotate_right; intro _ _ _; rotate_left)

def State.cipherTick_scope : Scope := ⟨[.regs, .ctl, .evf, .recd, .xlt, .hp, .qe, .mov, .tier, .pan, .twn, .cmn, .pwr, .dmc, .flm, .out, .free], none⟩
theorem State.cipherTick_keeps (s : State) (ns : Nat) : State.Keeps State.cipherTick_scope s (State.cipherTick s ns) := by
  unfold State.cipherTick
  (try dsimp only)
  repeat' first
    | with_reducible exact State.Keeps.refl _ _
    | with_reducible assumption
    | with_reducible apply State.Keeps.ite
    | fail_if_no_progress ((with_reducible apply State.Keeps.upd_cmn); rotate_right; decide)
    | ((with_reducible apply State.Keeps.step (State.laneTick_keeps ..)); rotate_right; decide)
    | ((with_reducible apply State.Keeps.step (State.safePoint_keeps ..)); rotate_right; decide)
    | ((with_reducible apply State.Keeps.step (State.cmnPump_keeps ..)); rotate_right; decide)
    | ((with_reducible apply State.Keeps.foldl); rotate_right; intro _ _ _; rotate_left)
    | with_reducible refine State.Keeps.fst ‹_ = (_, _)› ?_
    | ((with_reducible apply State.Keeps.foldl1); rotate_right; intro _ _ _; rotate_left)
    | ((with_reducible apply State.Keeps.step (State.rxRun_keeps ..)); rotate_right; decide)
    | split

def State.tick_scope : Scope := ⟨[.regs, .ctl, .evf, .recd, .xlt, .hp, .qe, .mov, .tier, .pan, .twn, .cmn, .pwr, .dmc, .flm, .seq, .hrv, .timeNs, .slew, .out, .free], none⟩
theorem State.tick_keeps (s : State) : State.Keeps State.tick_scope s (State.tick s) := by
  unfold State.tick
  extract_lets n s1
  have h1 : State.Keeps State.tick_scope s s1 := by
    refine State.Keeps.gen (t := s) (State.Keeps.refl _ _) (fun p hp => ?_) (by first | exact fun _ fs _ => State.fieldsBut.refl rfl fs | exact fun _ => State.anyFields rfl) id id
    cases p <;> first | exact absurd (by decide) hp | exact rfl
  clear_value s1
  refine State.Keeps.step (State.sysSync_keeps ..) ?_ (by decide)
  refine State.Keeps.step (State.cipherTick_keeps ..) ?_ (by decide)
  refine State.Keeps.step (State.srTick_keeps ..) ?_ (by decide)
  refine State.Keeps.step (State.dramDrain_keeps ..) ?_ (by decide)
  refine State.Keeps.step (State.harvestTick_keeps ..) ?_ (by decide)
  exact State.Keeps.step (State.clkSwitch_keeps ..) h1 (by decide)

def execCkoutReadbackFault_scope : Scope := ⟨[.regs, .evf, .recd, .hp, .pwr, .out, .free], some [CLK.CKOUT_FAULT, CLK.CKOUT_ON, EVF.ALERT_DRV, EVF.TRACE_DROP, HDR.ERR_INFO0, HDR.ERR_INFO1, HDR.ERR_STAT, HDR.EVT_STAT, MGT.ALARM_SENT, PWR.PWR_WAKE_LATCH, PWR.STATE, REC.ALARM_DROP, REC.HEAD_SEQ, REC.LOST_CNT, REC.OVW_CNT, REC.RSV_USED]⟩
theorem execCkoutReadbackFault_keeps (k : Fin 4) (s : State) : State.KeepsR execCkoutReadbackFault_scope s (execCkoutReadbackFault k s) := by
  unfold execCkoutReadbackFault
  (try dsimp only)
  repeat' first
    | with_reducible exact State.Keeps.refl _ _
    | with_reducible apply State.KeepsR.next
    | with_reducible apply State.KeepsR.ite
    | ((with_reducible apply State.Keeps.step (State.putBit_keeps ..)); rotate_right; decide)
    | ((with_reducible apply State.Keeps.step (State.blkErr_keeps ..)); rotate_right; decide)
    | ((with_reducible apply State.Keeps.step (State.ckoutUpdate_keeps ..)); rotate_right; decide)

def execPllReacquire_scope : Scope := ⟨[.regs, .clk], some [CLK.DPLL_LOCK]⟩
theorem execPllReacquire_keeps (pll : Pll) (s : State) : State.KeepsR execPllReacquire_scope s (execPllReacquire pll s) := by
  unfold execPllReacquire
  (try dsimp only)
  repeat' first
    | with_reducible exact State.Keeps.refl _ _
    | with_reducible apply State.KeepsR.next
    | with_reducible apply State.Keeps.ite
    | fail_if_no_progress ((with_reducible apply State.Keeps.upd_clk); rotate_right; decide)
    | ((with_reducible apply State.Keeps.step (State.putBit_keeps ..)); rotate_right; decide)
    | split

def execPllUnlock_scope : Scope := ⟨[.regs, .ctl, .evf, .recd, .xlt, .hp, .qe, .mov, .tier, .pan, .twn, .cmn, .pwr, .dmc, .flm, .clk, .out, .free], none⟩
theorem execPllUnlock_keeps (pll : Pll) (s : State) : State.KeepsR execPllUnlock_scope s (execPllUnlock pll s) := by
  unfold execPllUnlock
  (try dsimp only)
  repeat' first
    | with_reducible exact State.Keeps.refl _ _
    | with_reducible assumption
    | with_reducible apply State.KeepsR.next
    | with_reducible apply State.KeepsR.ite
    | fail_if_no_progress ((with_reducible apply State.Keeps.upd_clk); rotate_right; decide)
    | ((with_reducible apply State.Keeps.step (State.bundleDown_keeps ..)); rotate_right; decide)
    | ((with_reducible apply State.Keeps.step (State.put_keeps ..)); rotate_right; decide)
    | ((with_reducible apply State.Keeps.step (State.linkDown_keeps ..)); rotate_right; decide)
    | ((with_reducible apply State.Keeps.step (State.dmcFail_keeps ..)); rotate_right; decide)
    | ((with_reducible apply State.Keeps.step (State.putBit_keeps ..)); rotate_right; decide)
    | ((with_reducible apply State.Keeps.step (State.blkErr_keeps ..)); rotate_right; decide)
    | ((with_reducible apply State.Keeps.foldl); rotate_right; intro _ _ _; rotate_left)
    | split

theorem putRefOk_keeps (s : State) (b : Bool) (v inst idx : Nat) : State.Keeps ⟨[.regs], some [CLK.REF_A_OK, CLK.REF_B_OK]⟩ s (s.put (refOk b) v inst idx) :=
  State.Keeps.put (State.Keeps.refl _ _) _ _ _ _ (by cases b <;> decide)

def execRefclkGood_scope : Scope := ⟨[.regs, .clk, .out], some [CLK.AON_SRC, CLK.CKOUT_ON, CLK.REF_A_OK, CLK.REF_B_OK, CLK.REF_IN_USE, CLK.ROOT_STATE]⟩
theorem execRefclkGood_keeps (b : Bool) (s : State) : State.KeepsR execRefclkGood_scope s (execRefclkGood b s) := by
  unfold execRefclkGood
  (try dsimp only)
  repeat' first
    | with_reducible exact State.Keeps.refl _ _
    | with_reducible apply State.KeepsR.next
    | with_reducible apply State.KeepsR.ite
    | ((with_reducible apply State.Keeps.step (putRefOk_keeps ..)); rotate_right; decide)
    | fail_if_no_progress ((with_reducible apply State.Keeps.upd_clk); rotate_right; decide)
    | ((with_reducible apply State.Keeps.step (State.put_keeps ..)); rotate_right; decide)
    | ((with_reducible apply State.Keeps.step (State.refSwitch_keeps ..)); rotate_right; decide)
    | ((with_reducible apply State.Keeps.step (State.ckoutUpdate_keeps ..)); rotate_right; decide)

def execRefclkLost_scope : Scope := ⟨[.regs, .ctl, .evf, .recd, .xlt, .hp, .qe, .mov, .tier, .pan, .twn, .cmn, .pwr, .dmc, .flm, .hrv, .nvs, .wdn, .out, .free], none⟩
theorem execRefclkLost_keeps (b : Bool) (s : State) : State.KeepsR execRefclkLost_scope s (execRefclkLost b s) := by
  unfold execRefclkLost
  (try dsimp only)
  repeat' first
    | with_reducible exact State.Keeps.refl _ _
    | with_reducible apply State.KeepsR.next
    | with_reducible apply State.KeepsR.ite
    | with_reducible apply State.Keeps.ite
    | ((with_reducible apply State.Keeps.step (putRefOk_keeps ..)); rotate_right; decide)
    | ((with_reducible apply State.Keeps.step (State.harvestStart_keeps ..)); rotate_right; decide)
    | ((with_reducible apply State.Keeps.step (State.put_keeps ..)); rotate_right; decide)
    | ((with_reducible apply State.Keeps.step (State.ckoutUpdate_keeps ..)); rotate_right; decide)
    | ((with_reducible apply State.Keeps.step (State.blkErr_keeps ..)); rotate_right; decide)
    | ((with_reducible apply State.Keeps.step (State.refSwitch_keeps ..)); rotate_right; decide)

def execRelockTimeout_scope : Scope := State.harvestBegin_scope
theorem execRelockTimeout_keeps (s : State) : State.KeepsR execRelockTimeout_scope s (execRelockTimeout s) := by
  unfold execRelockTimeout
  (try dsimp only)
  repeat' first
    | with_reducible exact State.Keeps.refl _ _
    | with_reducible apply State.KeepsR.next
    | with_reducible apply State.KeepsR.ite
    | with_reducible apply State.Keeps.ite
    | ((with_reducible apply State.Keeps.step (State.harvestStart_keeps ..)); rotate_right; decide)
    | ((with_reducible apply State.Keeps.step (State.misc_keeps ..)); rotate_right; decide)

def execRootPllLock_scope : Scope := ⟨[.regs, .clk, .out], some [CLK.CKOUT_ON, CLK.DPLL_LOCK, CLK.ROOT_STATE]⟩
theorem execRootPllLock_keeps (s : State) : State.KeepsR execRootPllLock_scope s (execRootPllLock s) := by
  unfold execRootPllLock
  (try dsimp only)
  repeat' first
    | with_reducible exact State.Keeps.refl _ _
    | with_reducible assumption
    | with_reducible apply State.KeepsR.next
    | with_reducible apply State.KeepsR.ite
    | fail_if_no_progress ((with_reducible apply State.Keeps.upd_clk); rotate_right; decide)
    | ((with_reducible apply State.Keeps.step (State.ckoutUpdate_keeps ..)); rotate_right; decide)
    | ((with_reducible apply State.Keeps.step (State.putBit_keeps ..)); rotate_right; decide)
    | ((with_reducible apply State.Keeps.step (State.put_keeps ..)); rotate_right; decide)
    | ((with_reducible apply State.Keeps.foldl); rotate_right; intro _ _ _; rotate_left)

def execRootPllUnlock_scope : Scope := ⟨[.regs, .evf, .recd, .hp, .pwr, .clk, .out, .free], some [CLK.CKOUT_ON, CLK.ROOT_STATE, EVF.ALERT_DRV, EVF.TRACE_DROP, HDR.ERR_INFO0, HDR.ERR_INFO1, HDR.ERR_STAT, HDR.EVT_STAT, MGT.ALARM_SENT, PWR.PWR_WAKE_LATCH, PWR.STATE, REC.ALARM_DROP, REC.HEAD_SEQ, REC.LOST_CNT, REC.OVW_CNT, REC.RSV_USED]⟩
theorem execRootPllUnlock_keeps (s : State) : State.KeepsR execRootPllUnlock_scope s (execRootPllUnlock s) := by
  unfold execRootPllUnlock
  (try dsimp only)
  repeat' first
    | with_reducible exact State.Keeps.refl _ _
    | with_reducible apply State.KeepsR.next
    | with_reducible apply State.KeepsR.ite
    | fail_if_no_progress ((with_reducible apply State.Keeps.upd_clk); rotate_right; decide)
    | ((with_reducible apply State.Keeps.step (State.ckoutUpdate_keeps ..)); rotate_right; decide)
    | ((with_reducible apply State.Keeps.step (State.put_keeps ..)); rotate_right; decide)
    | ((with_reducible apply State.Keeps.step (State.blkErr_keeps ..)); rotate_right; decide)

def execRootVcoFail_scope : Scope := State.coldReset_scope
theorem execRootVcoFail_keeps (s : State) : State.KeepsR execRootVcoFail_scope s (execRootVcoFail s) := by
  unfold execRootVcoFail
  (try dsimp only)
  repeat' first
    | with_reducible exact State.Keeps.refl _ _
    | with_reducible apply State.KeepsR.next
    | with_reducible apply State.KeepsR.ite
    | fail_if_no_progress ((with_reducible apply State.Keeps.upd_wdn); rotate_right; decide)
    | ((with_reducible apply State.Keeps.step (State.put_keeps ..)); rotate_right; first | decide | rfl)
    | ((with_reducible apply State.Keeps.step (State.misc_keeps ..)); rotate_right; decide)
    | ((with_reducible apply State.Keeps.step (State.harvestStop_keeps ..)); rotate_right; decide)
    | ((with_reducible apply State.Keeps.step (State.coldReset_keeps ..)); rotate_right; decide)

end Sys2Proof.Machine
end

