-- ==== Sys2Proof/Laws/KeepPwr.lean ====
section
/-! SUPPORT. What each operation of Machine/Pwr.lean keeps: the parts of State it can change are those listed. -/
set_option linter.unusedTactic false
set_option linter.unreachableTactic false
namespace Sys2Proof.Machine

def State.refuse'_scope : Scope := ⟨[.regs, .evf, .recd, .hp, .pwr, .out, .free], some [EVF.ALERT_DRV, EVF.TRACE_DROP, HDR.ERR_INFO0, HDR.ERR_INFO1, HDR.ERR_STAT, HDR.EVT_STAT, MGT.ALARM_SENT, PWR.PWR_WAKE_LATCH, PWR.REFUSE, PWR.STATE, REC.ALARM_DROP, REC.HEAD_SEQ, REC.LOST_CNT, REC.OVW_CNT, REC.RSV_USED]⟩
theorem State.refuse'_keeps (s : State) (n : Nat) (code : Nat) (bitNo : Nat) (c : Option Capture) : State.Keeps State.refuse'_scope s (State.refuse' s n code bitNo c) := by
  unfold State.refuse'
  (try dsimp only)
  repeat' first
    | with_reducible exact State.Keeps.refl _ _
    | with_reducible assumption
    | with_reducible apply State.Keeps.ite
    | ((with_reducible apply State.Keeps.step (State.put_keeps ..)); rotate_right; decide)
    | ((with_reducible apply State.Keeps.step (State.blkErr_keeps ..)); rotate_right; decide)

def State.domReset_scope : Scope := ⟨[.regs, .ctl, .evf, .recd, .hp, .pwr, .out, .free], some [EVF.ALERT_DRV, EVF.TRACE_DROP, HDR.ARM, HDR.ERR_INFO0, HDR.ERR_INFO1, HDR.ERR_STAT, HDR.EVT_STAT, HDR.STAGE_STAT, MGT.ALARM_SENT, PWR.PWR_WAKE_LATCH, PWR.REFUSE, PWR.STATE, REC.ALARM_DROP, REC.HEAD_SEQ, REC.LOST_CNT, REC.OVW_CNT, REC.RSV_USED, TOP.STAGE_GSTAT]⟩
theorem State.domReset_keeps (s : State) (mask : Nat) (c : Option Capture) : State.Keeps State.domReset_scope s (State.domReset s mask c) := by
  unfold State.domReset
  (try dsimp only)
  repeat' first
    | with_reducible exact State.Keeps.refl _ _
    | with_reducible assumption
    | with_reducible apply State.Keeps.ite
    | ((with_reducible apply State.Keeps.step (State.refuse'_keeps ..)); rotate_right; decide)
    | ((with_reducible apply State.Keeps.step (State.stageInterrupt_keeps ..)); rotate_right; decide)
    | ((with_reducible apply State.Keeps.step (State.put_keeps ..)); rotate_right; decide)
    | ((with_reducible apply State.Keeps.foldl); rotate_right; intro _ _ _; rotate_left)
    | with_reducible refine State.Keeps.fst ‹_ = (_, _)› ?_
    | split

def State.domainMode_scope : Scope := ⟨[.regs, .evf, .recd, .hp, .pwr, .out, .free], some [EVF.ALERT_DRV, EVF.TRACE_DROP, HDR.ERR_INFO0, HDR.ERR_INFO1, HDR.ERR_STAT, HDR.EVT_STAT, MGT.ALARM_SENT, PWR.IDLE_TIME, PWR.MODE, PWR.PWR_WAKE_LATCH, PWR.REFUSE, PWR.STATE, REC.ALARM_DROP, REC.HEAD_SEQ, REC.LOST_CNT, REC.OVW_CNT, REC.RSV_USED]⟩
theorem State.domainMode_keeps (s : State) (n : Nat) (v : Nat) (c : Option Capture) : State.Keeps State.domainMode_scope s (State.domainMode s n v c) := by
  unfold State.domainMode
  (try dsimp only)
  repeat' first
    | with_reducible exact State.Keeps.refl _ _
    | with_reducible assumption
    | with_reducible apply State.Keeps.ite
    | ((with_reducible apply State.Keeps.step (State.put_keeps ..)); rotate_right; decide)
    | ((with_reducible apply State.Keeps.step (State.refuse'_keeps ..)); rotate_right; decide)

def State.domainEnter_scope : Scope := ⟨[.regs, .evf, .recd, .hp, .tier, .pwr, .dmc, .out, .free], some [DMC.STATE, EVF.ALERT_DRV, EVF.TRACE_DROP, HDR.ERR_INFO0, HDR.ERR_INFO1, HDR.ERR_STAT, HDR.EVT_STAT, MGT.ALARM_SENT, PWR.PWR_WAKE_LATCH, PWR.REFUSE, PWR.STATE, REC.ALARM_DROP, REC.HEAD_SEQ, REC.LOST_CNT, REC.OVW_CNT, REC.RSV_USED]⟩
theorem State.domainEnter_keeps (s : State) (n : Nat) : State.Keeps State.domainEnter_scope s (State.domainEnter s n) := by
  unfold State.domainEnter
  (try dsimp only)
  repeat' first
    | with_reducible exact State.Keeps.refl _ _
    | with_reducible apply State.Keeps.ite
    | ((with_reducible apply State.Keeps.step (State.put_keeps ..)); rotate_right; decide)
    | ((with_reducible apply State.Keeps.step (State.refuse'_keeps ..)); rotate_right; decide)
    | with_reducible assumption
    | ((with_reducible apply State.Keeps.step (State.selfRefresh_keeps ..)); rotate_right; decide)
    | with_reducible refine State.Keeps.fst ‹_ = (_, _)› ?_
    | split

def execDomainEntryEnd_scope : Scope := ⟨[.regs, .pwr], some [PWR.STATE]⟩
theorem execDomainEntryEnd_keeps (dom : Dom) (s : State) : State.KeepsR execDomainEntryEnd_scope s (execDomainEntryEnd dom s) := by
  unfold execDomainEntryEnd
  (try dsimp only)
  repeat' first
    | with_reducible exact State.Keeps.refl _ _
    | with_reducible apply State.KeepsR.next
    | with_reducible apply State.KeepsR.ite
    | with_reducible apply State.Keeps.ite
    | ((with_reducible apply State.Keeps.step (State.wakeStart_keeps ..)); rotate_right; decide)
    | ((with_reducible apply State.Keeps.step (State.put_keeps ..)); rotate_right; decide)

def execDomainIdleEntry_scope : Scope := State.domainEnter_scope
theorem execDomainIdleEntry_keeps (dom : Dom) (s : State) : State.KeepsR execDomainIdleEntry_scope s (execDomainIdleEntry dom s) := by
  unfold execDomainIdleEntry
  (try dsimp only)
  repeat' first
    | with_reducible exact State.Keeps.refl _ _
    | with_reducible apply State.KeepsR.next
    | with_reducible apply State.KeepsR.ite
    | ((with_reducible apply State.Keeps.step (State.domainEnter_keeps ..)); rotate_right; decide)

def execWaitForEvent_scope : Scope := State.domainEnter_scope
theorem execWaitForEvent_keeps (who : Waiter) (s : State) : State.KeepsR execWaitForEvent_scope s (execWaitForEvent who s) := by
  unfold execWaitForEvent
  (try dsimp only)
  repeat' first
    | with_reducible exact State.Keeps.refl _ _
    | with_reducible apply State.KeepsR.next
    | ((with_reducible apply State.Keeps.step (State.domainEnter_keeps ..)); rotate_right; decide)
    | split

end Sys2Proof.Machine
end

