-- ==== Sys2Proof/Laws/KeepCip.lean ====
section
/-! SUPPORT. What each operation of Machine/Cip.lean keeps: the parts of State it can change are those listed. -/
set_option linter.unusedTactic false
set_option linter.unreachableTactic false
namespace Sys2Proof.Machine

def State.hshStart_scope : Scope := ⟨[.regs, .evf, .recd, .hp, .pwr, .out, .free], some [EVF.ALERT_DRV, EVF.TRACE_DROP, HDR.ERR_INFO0, HDR.ERR_INFO1, HDR.ERR_STAT, HDR.EVT_STAT, HSH.BUSY, MGT.ALARM_SENT, PWR.PWR_WAKE_LATCH, PWR.STATE, REC.ALARM_DROP, REC.HEAD_SEQ, REC.LOST_CNT, REC.OVW_CNT, REC.RSV_USED]⟩
theorem State.hshStart_keeps (s : State) (e : Nat) (c : Option Capture) : State.Keeps State.hshStart_scope s (State.hshStart s e c) := by
  unfold State.hshStart
  (try dsimp only)
  repeat' first
    | with_reducible exact State.Keeps.refl _ _
    | with_reducible apply State.Keeps.ite
    | ((with_reducible apply State.Keeps.step (State.put_keeps ..)); rotate_right; decide)
    | ((with_reducible apply State.Keeps.step (State.blkErr_keeps ..)); rotate_right; decide)

def State.keyLoad_scope : Scope := ⟨[.regs, .cip], some [CIP.KEY_DATA]⟩
theorem State.keyLoad_keeps (s : State) (sel : Nat) : State.Keeps State.keyLoad_scope s (State.keyLoad s sel) := by
  unfold State.keyLoad
  (try dsimp only)
  repeat' first
    | with_reducible exact State.Keeps.refl _ _
    | fail_if_no_progress ((with_reducible apply State.Keeps.upd_cip); rotate_right; decide)
    | ((with_reducible apply State.Keeps.step (State.put_keeps ..)); rotate_right; decide)

def State.cipStart_scope : Scope := ⟨[.regs, .evf, .recd, .hp, .pwr, .cip, .out, .free], some [CIP.BUSY, EVF.ALERT_DRV, EVF.TRACE_DROP, HDR.ERR_INFO0, HDR.ERR_INFO1, HDR.ERR_STAT, HDR.EVT_STAT, MGT.ALARM_SENT, PWR.PWR_WAKE_LATCH, PWR.STATE, REC.ALARM_DROP, REC.HEAD_SEQ, REC.LOST_CNT, REC.OVW_CNT, REC.RSV_USED]⟩
theorem State.cipStart_keeps (s : State) (c : Option Capture) : State.Keeps State.cipStart_scope s (State.cipStart s c) := by
  unfold State.cipStart
  (try dsimp only)
  repeat' first
    | with_reducible exact State.Keeps.refl _ _
    | with_reducible apply State.Keeps.ite
    | fail_if_no_progress ((with_reducible apply State.Keeps.upd_cip); rotate_right; decide)
    | ((with_reducible apply State.Keeps.step (State.put_keeps ..)); rotate_right; decide)
    | ((with_reducible apply State.Keeps.step (State.blkErr_keeps ..)); rotate_right; decide)

def State.cipEnd_scope : Scope := ⟨[.regs, .cip], some [CIP.BUSY, CIP.JOB_STATUS]⟩
theorem State.cipEnd_keeps (s : State) (x : Status) : State.Keeps State.cipEnd_scope s (State.cipEnd s x) := by
  unfold State.cipEnd
  (try dsimp only)
  repeat' first
    | with_reducible exact State.Keeps.refl _ _
    | fail_if_no_progress ((with_reducible apply State.Keeps.upd_cip); rotate_right; decide)
    | ((with_reducible apply State.Keeps.step (State.put_keeps ..)); rotate_right; decide)

def State.cipRun_scope : Scope := ⟨[.regs, .tier, .pan, .twn, .dmc, .flm, .cip, .mem, .out], some [CIP.AUTH_FAIL_CNT, CIP.BUSY, CIP.JOB_STATUS, PAN.WB_CNT]⟩
theorem State.cipRun_keeps (s : State) (j : CipJob) : State.Keeps State.cipRun_scope s (State.cipRun s j) := by
  unfold State.cipRun
  (try dsimp only)
  repeat' first
    | with_reducible exact State.Keeps.refl _ _
    | with_reducible apply State.Keeps.ite
    | ((with_reducible apply State.Keeps.step (State.memWrite_keeps ..)); rotate_right; decide)
    | ((with_reducible apply State.Keeps.step (State.cipEnd_keeps ..)); rotate_right; decide)
    | ((with_reducible apply State.Keeps.step (State.inc_keeps ..)); rotate_right; decide)
    | with_reducible assumption
    | ((with_reducible apply State.Keeps.step (State.memSeen_keeps ..)); rotate_right; decide)
    | with_reducible refine State.Keeps.fst ‹_ = (_, _)› ?_
    | split

def State.hshEnd_scope : Scope := ⟨[.regs], some [HSH.BUSY, HSH.STATUS]⟩
theorem State.hshEnd_keeps (s : State) (e : Nat) (x : Status) : State.Keeps State.hshEnd_scope s (State.hshEnd s e x) := by
  unfold State.hshEnd
  (try dsimp only)
  repeat' first
    | with_reducible exact State.Keeps.refl _ _
    | ((with_reducible apply State.Keeps.step (State.put_keeps ..)); rotate_right; decide)

def State.hshRun_scope : Scope := ⟨[.regs, .evf, .recd, .hp, .tier, .pan, .twn, .pwr, .dmc, .flm, .mem, .out, .free], some [EVF.ALERT_DRV, EVF.TRACE_DROP, HDR.ERR_INFO0, HDR.ERR_INFO1, HDR.ERR_STAT, HDR.EVT_STAT, HSH.BUSY, HSH.STATUS, HSH.VERIFY_PASS, MGT.ALARM_SENT, PAN.WB_CNT, PWR.PWR_WAKE_LATCH, PWR.STATE, REC.ALARM_DROP, REC.HEAD_SEQ, REC.LOST_CNT, REC.OVW_CNT, REC.RSV_USED]⟩
theorem State.hshRun_keeps (s : State) (e : Nat) (op : Nat) (iterations : Nat) : State.Keeps State.hshRun_scope s (State.hshRun s e op iterations) := by
  unfold State.hshRun
  (try dsimp only)
  repeat' first
    | with_reducible exact State.Keeps.refl _ _
    | with_reducible apply State.Keeps.ite
    | ((with_reducible apply State.Keeps.step (State.useFree_keeps ..)); rotate_right; decide)
    | ((with_reducible apply State.Keeps.step (State.hshEnd_keeps ..)); rotate_right; decide)
    | ((with_reducible apply State.Keeps.step (State.blkErr_keeps ..)); rotate_right; decide)
    | ((with_reducible apply State.Keeps.step (State.put_keeps ..)); rotate_right; decide)
    | ((with_reducible apply State.Keeps.step (State.memWrite_keeps ..)); rotate_right; decide)
    | with_reducible assumption
    | ((with_reducible apply State.Keeps.step (State.memSeen_keeps ..)); rotate_right; decide)
    | with_reducible refine State.Keeps.fst ‹_ = (_, _)› ?_
    | split

def execCipJobDone_scope : Scope := ⟨[.regs, .tier, .pan, .twn, .dmc, .flm, .cip, .mem, .out], some [CIP.AUTH_FAIL_CNT, CIP.BUSY, CIP.JOB_STATUS, CIP.LENGTH_ERR_CNT, PAN.WB_CNT]⟩
theorem execCipJobDone_keeps (s : State) : State.KeepsR execCipJobDone_scope s (execCipJobDone s) := by
  unfold execCipJobDone
  (try dsimp only)
  repeat' first
    | with_reducible exact State.Keeps.refl _ _
    | with_reducible apply State.KeepsR.next
    | with_reducible apply State.KeepsR.ite
    | ((with_reducible apply State.Keeps.step (State.cipRun_keeps ..)); rotate_right; decide)
    | ((with_reducible apply State.Keeps.step (State.cipEnd_keeps ..)); rotate_right; decide)
    | ((with_reducible apply State.Keeps.step (State.inc_keeps ..)); rotate_right; decide)
    | split

def execCipherLaneFail_scope : Scope := ⟨[.regs, .evf, .recd, .hp, .twn, .cmn, .pwr, .flm, .out, .free], some [CIP.LANES_OK, EVF.ALERT_DRV, EVF.TRACE_DROP, HDR.ERR_INFO0, HDR.ERR_INFO1, HDR.ERR_STAT, HDR.EVT_STAT, MGT.ALARM_SENT, PWR.PWR_WAKE_LATCH, PWR.STATE, REC.ALARM_DROP, REC.HEAD_SEQ, REC.LOST_CNT, REC.OVW_CNT, REC.RSV_USED]⟩
theorem execCipherLaneFail_keeps (lane : Fin 24) (s : State) : State.KeepsR execCipherLaneFail_scope s (execCipherLaneFail lane s) := by
  unfold execCipherLaneFail
  (try dsimp only)
  repeat' first
    | with_reducible exact State.Keeps.refl _ _
    | with_reducible apply State.KeepsR.next
    | with_reducible apply State.KeepsR.ite
    | ((with_reducible apply State.Keeps.step (State.putBit_keeps ..)); rotate_right; decide)
    | ((with_reducible apply State.Keeps.step (State.blkErr_keeps ..)); rotate_right; decide)
    | with_reducible assumption
    | with_reducible apply State.Keeps.ite
    | ((with_reducible apply State.Keeps.step (State.laneGone_keeps ..)); rotate_right; decide)

def execHshJobDone_scope : Scope := State.hshRun_scope
theorem execHshJobDone_keeps (eng : Fin 5) (iterations : Nat) (s : State) : State.KeepsR execHshJobDone_scope s (execHshJobDone eng iterations s) := by
  unfold execHshJobDone
  (try dsimp only)
  repeat' first
    | with_reducible exact State.Keeps.refl _ _
    | with_reducible apply State.KeepsR.next
    | with_reducible apply State.KeepsR.ite
    | ((with_reducible apply State.Keeps.step (State.hshRun_keeps ..)); rotate_right; decide)
    | ((with_reducible apply State.Keeps.step (State.hshEnd_keeps ..)); rotate_right; decide)

end Sys2Proof.Machine
end

