-- ==== Sys2Proof/Laws/KeepNvs.lean ====
section
/-! SUPPORT. What each operation of Machine/Nvs.lean keeps: the parts of State it can change are those listed. -/
set_option linter.unusedTactic false
set_option linter.unreachableTactic false
namespace Sys2Proof.Machine

def State.slotCommand_scope : Scope := ⟨[.regs, .tier, .nvs], some [NVS.RESULT]⟩
theorem State.slotCommand_keeps (s : State) : State.Keeps State.slotCommand_scope s (State.slotCommand s) := by
  unfold State.slotCommand
  (try dsimp only)
  repeat' first
    | with_reducible exact State.Keeps.refl _ _
    | with_reducible apply State.Keeps.ite
    | ((with_reducible apply State.Keeps.step (State.slotWrite_keeps ..)); rotate_right; decide)
    | ((with_reducible apply State.Keeps.step (State.nvsResult_keeps ..)); rotate_right; decide)
    | with_reducible assumption
    | ((with_reducible apply State.Keeps.step (State.memSeen_keeps ..)); rotate_right; decide)
    | split

def State.nvsCommand_scope : Scope := ⟨[.regs, .evf, .recd, .hp, .mov, .tier, .pwr, .seq, .nvs, .out, .free], none⟩
theorem State.nvsCommand_keeps (s : State) (op : Nat) (c : Option Capture) : State.Keeps State.nvsCommand_scope s (State.nvsCommand s op c) := by
  unfold State.nvsCommand
  (try dsimp only)
  repeat' first
    | with_reducible exact State.Keeps.refl _ _
    | with_reducible apply State.Keeps.ite
    | ((with_reducible apply State.Keeps.step (State.slotErase_keeps ..)); rotate_right; decide)
    | ((with_reducible apply State.Keeps.step (State.slotCommand_keeps ..)); rotate_right; decide)
    | ((with_reducible apply State.Keeps.step (State.reload_keeps ..)); rotate_right; decide)
    | ((with_reducible apply State.Keeps.step (State.storeRun_keeps ..)); rotate_right; decide)
    | ((with_reducible apply State.Keeps.step (State.blkErr_keeps ..)); rotate_right; decide)

def State.wardenStore_scope : Scope := State.storeRun_scope
theorem State.wardenStore_keeps (s : State) : State.Keeps State.wardenStore_scope s (State.wardenStore s) := by
  unfold State.wardenStore
  (try dsimp only)
  repeat' first
    | with_reducible exact State.Keeps.refl _ _
    | with_reducible apply State.Keeps.ite
    | ((with_reducible apply State.Keeps.step (State.storeRun_keeps ..)); rotate_right; decide)
    | ((with_reducible apply State.Keeps.step (State.put_keeps ..)); rotate_right; decide)

def execCheckpointValid_scope : Scope := ⟨[.regs, .evf, .recd, .hp, .pwr, .flm, .nvs, .out, .free], some [EVF.ALERT_DRV, EVF.TRACE_DROP, HDR.ERR_INFO0, HDR.ERR_INFO1, HDR.ERR_STAT, HDR.EVT_STAT, MGT.ALARM_SENT, NVS.BUSY, NVS.FAST_BAD, NVS.PENDING, NVS.RESULT, NVS.TOKENS, PWR.PWR_WAKE_LATCH, PWR.STATE, REC.ALARM_DROP, REC.HEAD_SEQ, REC.LOST_CNT, REC.OVW_CNT, REC.RSV_USED]⟩
theorem execCheckpointValid_keeps (pass : Bool) (s : State) : State.KeepsR execCheckpointValid_scope s (execCheckpointValid pass s) := by
  unfold execCheckpointValid
  (try dsimp only)
  repeat' first
    | with_reducible exact State.Keeps.refl _ _
    | with_reducible apply State.KeepsR.next
    | with_reducible apply State.KeepsR.ite
    | ((with_reducible apply State.Keeps.step (State.blkErr_keeps ..)); rotate_right; decide)
    | ((with_reducible apply State.Keeps.step (State.wardenStore_keeps ..)); rotate_right; decide)
    | ((with_reducible apply State.Keeps.step (State.fastWrote_keeps ..)); rotate_right; decide)
    | fail_if_no_progress ((with_reducible apply State.Keeps.upd); rotate_right; (intro p hp; cases p <;> first | exact absurd (by decide) hp | exact rfl))
    | with_reducible assumption
    | with_reducible apply State.Keeps.ite
    | fail_if_no_progress ((with_reducible apply State.Keeps.upd_flm); rotate_right; decide)
    | fail_if_no_progress ((with_reducible apply State.Keeps.upd_nvs); rotate_right; decide)
    | with_reducible refine State.Keeps.fst ‹_ = (_, _)› ?_
    | split

def execStoreDone_scope : Scope := State.storeEnd_scope
theorem execStoreDone_keeps (readback : Bool) (s : State) : State.KeepsR execStoreDone_scope s (execStoreDone readback s) := by
  unfold execStoreDone
  (try dsimp only)
  repeat' first
    | with_reducible exact State.Keeps.refl _ _
    | with_reducible apply State.KeepsR.next
    | ((with_reducible apply State.Keeps.step (State.storeEnd_keeps ..)); rotate_right; decide)

def execTokenRefill_scope : Scope := State.storeRun_scope
theorem execTokenRefill_keeps (s : State) : State.KeepsR execTokenRefill_scope s (execTokenRefill s) := by
  unfold execTokenRefill
  (try dsimp only)
  repeat' first
    | with_reducible exact State.Keeps.refl _ _
    | with_reducible apply State.KeepsR.next
    | with_reducible apply State.Keeps.ite
    | ((with_reducible apply State.Keeps.step (State.storeRun_keeps ..)); rotate_right; decide)
    | ((with_reducible apply State.Keeps.step (State.put_keeps ..)); rotate_right; decide)

end Sys2Proof.Machine
end

