-- ==== Sys2Proof/Laws/KeepWardenOps.lean ====
section
/-! SUPPORT. What each operation of Machine/WardenOps.lean keeps: the parts of State it can change are those listed. -/
set_option linter.unusedTactic false
set_option linter.unreachableTactic false
namespace Sys2Proof.Machine

def State.rakeRestore_scope : Scope := ⟨[.regs], some [FTL.RAKE_POLICY]⟩
theorem State.rakeRestore_keeps (s : State) (a : Activation) : State.Keeps State.rakeRestore_scope s (State.rakeRestore s a) := by
  unfold State.rakeRestore
  (try dsimp only)
  repeat' first
    | with_reducible exact State.Keeps.refl _ _
    | with_reducible apply State.Keeps.ite
    | ((with_reducible apply State.Keeps.step (State.ftlPut_keeps ..)); rotate_right; decide)

def State.clustersStart_scope : Scope := ⟨[.regs, .ctl, .evf, .recd, .xlt, .hp, .qe, .mov, .tier, .twn, .cmn, .pwr, .dmc, .flm, .seq, .cip, .out, .free], none⟩
theorem State.clustersStart_keeps (s : State) : State.Keeps State.clustersStart_scope s (State.clustersStart s) := by
  unfold State.clustersStart
  (try dsimp only)
  repeat' first
    | with_reducible exact State.Keeps.refl _ _
    | with_reducible assumption
    | ((with_reducible apply State.Keeps.step (State.domainReset_keeps ..)); rotate_right; decide)
    | ((with_reducible apply State.Keeps.step (State.put_keeps ..)); rotate_right; first | decide | rfl)
    | ((with_reducible apply State.Keeps.foldl); rotate_right; intro _ _ _; rotate_left)
    | with_reducible apply State.Keeps.ite
    | ((with_reducible apply State.Keeps.step (State.put_keeps ..)); rotate_right; decide)
    | ((with_reducible apply State.Keeps.foldl1); rotate_right; intro _ _ _; rotate_left)

def State.actRevert_scope : Scope := ⟨[.regs, .ctl, .evf, .recd, .xlt, .hp, .qe, .mov, .tier, .twn, .cmn, .pwr, .dmc, .flm, .seq, .cip, .wdn, .out, .free], none⟩
theorem State.actRevert_keeps (s : State) (a : Activation) (switched : Bool) : State.Keeps State.actRevert_scope s (State.actRevert s a switched) := by
  unfold State.actRevert
  (try dsimp only)
  repeat' first
    | with_reducible exact State.Keeps.refl _ _
    | with_reducible apply State.Keeps.ite
    | fail_if_no_progress ((with_reducible apply State.Keeps.upd_wdn); rotate_right; decide)
    | ((with_reducible apply State.Keeps.step (State.blkErr_keeps ..)); rotate_right; decide)
    | ((with_reducible apply State.Keeps.step (State.rakeRestore_keeps ..)); rotate_right; decide)
    | ((with_reducible apply State.Keeps.step (State.put_keeps ..)); rotate_right; first | decide | rfl)
    | ((with_reducible apply State.Keeps.step (State.clustersStart_keeps ..)); rotate_right; decide)

def State.setMark_scope : Scope := ⟨[.nvs], some []⟩
theorem State.setMark_keeps (s : State) (typ : Nat) (slot : Nat) (m : SlotSt) : State.Keeps State.setMark_scope s (State.setMark s typ slot m) := by
  unfold State.setMark
  (try dsimp only)
  repeat' first
    | with_reducible exact State.Keeps.refl _ _
    | fail_if_no_progress ((with_reducible apply State.Keeps.upd_nvs); rotate_right; decide)

def State.actStart_scope : Scope := ⟨[.regs, .evf, .recd, .hp, .pwr, .nvs, .wdn, .out, .free], some [EVF.ALERT_DRV, EVF.TRACE_DROP, FTL.RAKE_POLICY, HDR.ERR_INFO0, HDR.ERR_INFO1, HDR.ERR_STAT, HDR.EVT_STAT, MGT.ALARM_SENT, NVS.BUSY, NVS.PENDING, NVS.RESULT, NVS.TOKENS, PWR.PWR_WAKE_LATCH, PWR.STATE, REC.ALARM_DROP, REC.HEAD_SEQ, REC.LOST_CNT, REC.OVW_CNT, REC.RSV_USED, WDN.ACT_STATE]⟩
theorem State.actStart_keeps (s : State) : State.Keeps State.actStart_scope s (State.actStart s).1 := by
  unfold State.actStart
  (try dsimp only)
  repeat' first
    | with_reducible exact State.Keeps.refl _ _
    | with_reducible apply State.Keeps.ite
    | fail_if_no_progress ((with_reducible apply State.Keeps.upd_wdn); rotate_right; decide)
    | ((with_reducible apply State.Keeps.step (State.put_keeps ..)); rotate_right; decide)
    | ((with_reducible apply State.Keeps.step (State.ftlPut_keeps ..)); rotate_right; decide)
    | ((with_reducible apply State.Keeps.step (State.setMark_keeps ..)); rotate_right; decide)
    | ((with_reducible apply State.Keeps.step (State.wardenStore_keeps ..)); rotate_right; decide)
    | with_reducible apply State.Keeps.ite1

def State.alarmKey_scope : Scope := ⟨[.cip], some []⟩
theorem State.alarmKey_keeps (s : State) : State.Keeps State.alarmKey_scope s (State.alarmKey s) := by
  unfold State.alarmKey
  (try dsimp only)
  repeat' first
    | with_reducible exact State.Keeps.refl _ _
    | fail_if_no_progress ((with_reducible apply State.Keeps.upd_cip); rotate_right; decide)
    | split

def State.svnShow_scope : Scope := ⟨[.regs], some [WDN.SVN_SVC, WDN.SVN_WDN]⟩
theorem State.svnShow_keeps (s : State) : State.Keeps State.svnShow_scope s (State.svnShow s) := by
  unfold State.svnShow
  (try dsimp only)
  repeat' first
    | with_reducible exact State.Keeps.refl _ _
    | ((with_reducible apply State.Keeps.step (State.put_keeps ..)); rotate_right; decide)

def State.setActive_scope : Scope := ⟨[.nvs], some []⟩
theorem State.setActive_keeps (s : State) (typ : Nat) (slot : Nat) : State.Keeps State.setActive_scope s (State.setActive s typ slot) := by
  unfold State.setActive
  (try dsimp only)
  repeat' first
    | with_reducible exact State.Keeps.refl _ _
    | fail_if_no_progress ((with_reducible apply State.Keeps.upd_nvs); rotate_right; decide)

def State.clustersOff_scope : Scope := ⟨[.regs, .wdn], some [PWR.STATE]⟩
theorem State.clustersOff_keeps (s : State) : State.Keeps State.clustersOff_scope s (State.clustersOff s) := by
  unfold State.clustersOff
  (try dsimp only)
  repeat' first
    | with_reducible exact State.Keeps.refl _ _
    | with_reducible assumption
    | fail_if_no_progress ((with_reducible apply State.Keeps.upd_wdn); rotate_right; decide)
    | ((with_reducible apply State.Keeps.step (State.put_keeps ..)); rotate_right; decide)
    | ((with_reducible apply State.Keeps.foldl); rotate_right; intro _ _ _; rotate_left)

def State.debugErase_scope : Scope := ⟨[.regs, .evf, .recd, .xlt, .hp, .qe, .mov, .tier, .twn, .cmn, .pwr, .cip, .out, .free], some [CME.VIOL_TX, CMP.TX_FRAMES, EVF.ALERT_DRV, EVF.TRACE_DROP, HDR.ERR_INFO0, HDR.ERR_INFO1, HDR.ERR_STAT, HDR.EVT_STAT, MGT.ALARM_SENT, MOV.FAULT_CNT, MOV.LAST_FCLASS, MOV.LAST_FOFF, MOV.LAST_STATUS, MOV.OFFLINE, MOV.STATE, NVS.FAST_BAD, PWR.PWR_WAKE_LATCH, PWR.STATE, REC.ALARM_DROP, REC.HEAD_SEQ, REC.LOST_CNT, REC.OVW_CNT, REC.RSV_USED, TWN.CLAIM_W_DRV, TWN.IN_SYNC, TWN.SERVE, TWN.STATE, TWN.TWN_CLAIM_LOCAL]⟩
theorem State.debugErase_keeps (s : State) : State.Keeps State.debugErase_scope s (State.debugErase s) := by
  unfold State.debugErase
  extract_lets s1 _ _
  have h1 : State.Keeps State.debugErase_scope s s1 :=
    State.Keeps.step (State.fenceAll_keeps ..) ((State.controllerFault_keeps s).mono (by decide)) (by decide)
  clear_value s1
  refine State.Keeps.gen (t := s1) h1 (fun p hp => ?_) (by first | exact fun _ fs _ => State.fieldsBut.refl rfl fs | exact fun _ => State.anyFields rfl) id id
  cases p <;> first | exact absurd (by decide) hp | exact rfl

def State.debugGrant_scope : Scope := ⟨[.regs, .evf, .recd, .xlt, .hp, .qe, .mov, .tier, .twn, .cmn, .pwr, .cip, .wdn, .out, .free], some [CME.VIOL_TX, CMP.TX_FRAMES, EVF.ALERT_DRV, EVF.TRACE_DROP, HDR.ERR_INFO0, HDR.ERR_INFO1, HDR.ERR_STAT, HDR.EVT_STAT, MGT.ALARM_SENT, MOV.FAULT_CNT, MOV.LAST_FCLASS, MOV.LAST_FOFF, MOV.LAST_STATUS, MOV.OFFLINE, MOV.STATE, NVS.FAST_BAD, PWR.PWR_WAKE_LATCH, PWR.STATE, REC.ALARM_DROP, REC.HEAD_SEQ, REC.LOST_CNT, REC.OVW_CNT, REC.RSV_USED, TWN.CLAIM_W_DRV, TWN.IN_SYNC, TWN.SERVE, TWN.STATE, TWN.TWN_CLAIM_LOCAL, WDN.DEBUG_LEVEL, WDN.KEYS_SEALED]⟩
theorem State.debugGrant_keeps (s : State) (level : Nat) : State.Keeps State.debugGrant_scope s (State.debugGrant s level) := by
  unfold State.debugGrant
  (try dsimp only)
  repeat' first
    | with_reducible exact State.Keeps.refl _ _
    | with_reducible apply State.Keeps.ite
    | fail_if_no_progress ((with_reducible apply State.Keeps.upd_wdn); rotate_right; decide)
    | ((with_reducible apply State.Keeps.step (State.put_keeps ..)); rotate_right; decide)
    | ((with_reducible apply State.Keeps.step (State.debugErase_keeps ..)); rotate_right; decide)

def State.fuseSession_scope : Scope := ⟨[.regs, .seq, .wdn, .out], some [SEQ.DEV_GOOD, SEQ.RAIL_GOOD, SEQ.RAIL_ON, WDN.SVN_SVC, WDN.SVN_WDN]⟩
theorem State.fuseSession_keeps (s : State) (f : Fuses → Fuses) : State.Keeps State.fuseSession_scope s (State.fuseSession s f) := by
  unfold State.fuseSession
  (try dsimp only)
  repeat' first
    | with_reducible exact State.Keeps.refl _ _
    | with_reducible apply State.Keeps.ite
    | ((with_reducible apply State.Keeps.step (State.svnShow_keeps ..)); rotate_right; decide)
    | ((with_reducible apply State.Keeps.step (State.railRelease_keeps ..)); rotate_right; decide)
    | ((with_reducible apply State.Keeps.step (State.railStart_keeps ..)); rotate_right; decide)
    | fail_if_no_progress ((with_reducible apply State.Keeps.upd); rotate_right; (intro p hp; cases p <;> first | exact absurd (by decide) hp | exact rfl))

def State.slotCheck_scope : Scope := State.storeRun_scope
theorem State.slotCheck_keeps (s : State) (typ : Nat) (slot : Nat) : State.Keeps State.slotCheck_scope s (State.slotCheck s typ slot) := by
  unfold State.slotCheck
  (try dsimp only)
  repeat' first
    | with_reducible exact State.Keeps.refl _ _
    | ((with_reducible apply State.Keeps.step (State.setMark_keeps ..)); rotate_right; decide)
    | ((with_reducible apply State.Keeps.step (State.wardenStore_keeps ..)); rotate_right; decide)

def State.keyAccept_scope : Scope := ⟨[.regs, .evf, .recd, .hp, .pwr, .cip, .nvs, .wdn, .out, .free], some [EVF.ALERT_DRV, EVF.TRACE_DROP, HDR.ERR_INFO0, HDR.ERR_INFO1, HDR.ERR_STAT, HDR.EVT_STAT, MGT.ALARM_SENT, NVS.BUSY, NVS.FAST_BAD, NVS.PENDING, NVS.RESULT, NVS.TOKENS, PWR.PWR_WAKE_LATCH, PWR.STATE, REC.ALARM_DROP, REC.HEAD_SEQ, REC.LOST_CNT, REC.OVW_CNT, REC.RSV_USED, WDN.KEYS_SEALED]⟩
theorem State.keyAccept_keeps (s : State) (kek : List Byte) (w : WrappedKey) : State.Keeps State.keyAccept_scope s (State.keyAccept s kek w).1 := by
  unfold State.keyAccept
  (try dsimp only)
  repeat' first
    | with_reducible exact State.Keeps.refl _ _
    | with_reducible apply State.Keeps.ite
    | ((with_reducible apply State.Keeps.step (State.alarmKey_keeps ..)); rotate_right; decide)
    | ((with_reducible apply State.Keeps.step (State.wardenStore_keeps ..)); rotate_right; decide)
    | ((with_reducible apply State.Keeps.step (State.put_keeps ..)); rotate_right; decide)
    | ((with_reducible apply State.Keeps.step (State.fastWrote_keeps ..)); rotate_right; decide)
    | fail_if_no_progress ((with_reducible apply State.Keeps.upd); rotate_right; (intro p hp; cases p <;> first | exact absurd (by decide) hp | exact rfl))
    | with_reducible apply State.Keeps.ite1
    | split

def State.keyDeliver_scope : Scope := State.keyAccept_scope
theorem State.keyDeliver_keeps (s : State) (w : WrappedKey) : State.Keeps State.keyDeliver_scope s (State.keyDeliver s w).1 := by
  unfold State.keyDeliver
  (try dsimp only)
  repeat' first
    | with_reducible exact State.Keeps.refl _ _
    | ((with_reducible apply State.Keeps.step (State.keyAccept_keeps ..)); rotate_right; decide)
    | split

def State.svcRestart_scope : Scope := ⟨[.regs, .ctl, .evf, .recd, .xlt, .hp, .qe, .mov, .tier, .twn, .cmn, .pwr, .dmc, .flm, .seq, .cip, .wdn, .out, .free], none⟩
theorem State.svcRestart_keeps (s : State) : State.Keeps State.svcRestart_scope s (State.svcRestart s) := by
  unfold State.svcRestart
  (try dsimp only)
  repeat' first
    | with_reducible exact State.Keeps.refl _ _
    | with_reducible apply State.Keeps.ite
    | fail_if_no_progress ((with_reducible apply State.Keeps.upd_wdn); rotate_right; decide)
    | ((with_reducible apply State.Keeps.step (State.clustersStart_keeps ..)); rotate_right; decide)
    | ((with_reducible apply State.Keeps.step (State.inc_keeps ..)); rotate_right; first | decide | rfl)
    | ((with_reducible apply State.Keeps.step (State.misc_keeps ..)); rotate_right; decide)
    | ((with_reducible apply State.Keeps.step (State.clustersOff_keeps ..)); rotate_right; decide)

end Sys2Proof.Machine
end

