-- ==== Sys2Proof/Laws/KeepBoot.lean ====
section
/-! SUPPORT. What each operation of Machine/Boot.lean keeps: the parts of State it can change are those listed. -/
set_option linter.unusedTactic false
set_option linter.unreachableTactic false
namespace Sys2Proof.Machine

def State.bootBringUp_scope : Scope := ⟨[.regs, .ctl, .evf, .recd, .hp, .mov, .pwr, .dmc, .out, .free], none⟩
theorem State.bootBringUp_keeps (s : State) : State.Keeps State.bootBringUp_scope s (State.bootBringUp s) := by
  unfold State.bootBringUp
  (try dsimp only)
  repeat' first
    | with_reducible exact State.Keeps.refl _ _
    | with_reducible assumption
    | with_reducible apply State.Keeps.ite
    | ((with_reducible apply State.Keeps.step (State.stepStart_keeps ..)); rotate_right; decide)
    | ((with_reducible apply State.Keeps.step (State.flmStart_keeps ..)); rotate_right; decide)
    | ((with_reducible apply State.Keeps.step (State.dmcTrain_keeps ..)); rotate_right; decide)
    | ((with_reducible apply State.Keeps.step (State.useFree_keeps ..)); rotate_right; decide)
    | ((with_reducible apply State.Keeps.foldl); rotate_right; intro _ _ _; rotate_left)
    | ((with_reducible apply State.Keeps.foldl1); rotate_right; intro _ _ _; rotate_left)

def State.layAreas_scope : Scope := ⟨[.regs], none⟩
theorem State.layAreas_keeps (s : State) (lo : Nat) (slack : Nat) (l : List (Fld × Nat)) : State.Keeps State.layAreas_scope s (State.layAreas s lo slack l) := by
  unfold State.layAreas
  exact State.Keeps.foldl1 (State.Keeps.refl _ _) fun _ a h => State.Keeps.step (State.put_keeps _ a.1.1 ..) h (by rfl)

def State.layout_scope : Scope := ⟨[.regs, .tier], none⟩
theorem State.layout_keeps (s : State) : State.Keeps State.layout_scope s (State.layout s) := by
  unfold State.layout
  (try dsimp only)
  repeat' first
    | with_reducible exact State.Keeps.refl _ _
    | with_reducible assumption
    | ((with_reducible apply State.Keeps.step (State.put_keeps ..)); rotate_right; first | decide | rfl)
    | ((with_reducible apply State.Keeps.foldl); rotate_right; intro _ _ _; rotate_left)
    | with_reducible apply State.Keeps.ite
    | fail_if_no_progress ((with_reducible apply State.Keeps.upd_tier); rotate_right; decide)
    | ((with_reducible apply State.Keeps.step (State.put_keeps ..)); rotate_right; decide)
    | ((with_reducible apply State.Keeps.foldl1); rotate_right; intro _ _ _; rotate_left)
    | ((with_reducible apply State.Keeps.step (State.layAreas_keeps ..)); rotate_right; decide)

def State.devConfig_scope : Scope := ⟨[.regs, .evf, .recd, .hp, .pwr, .nvs, .out, .free], some [EVF.ALERT_DRV, EVF.TRACE_DROP, HDR.ERR_INFO0, HDR.ERR_INFO1, HDR.ERR_STAT, HDR.EVT_STAT, HRV.HRV_RESERVE, MGT.ALARM_SENT, NVS.BUSY, NVS.PENDING, NVS.RESULT, NVS.TOKENS, PWR.PWR_WAKE_LATCH, PWR.STATE, REC.ALARM_DROP, REC.HEAD_SEQ, REC.LOST_CNT, REC.OVW_CNT, REC.RSV_USED]⟩
theorem State.devConfig_keeps (s : State) : State.Keeps State.devConfig_scope s (State.devConfig s) := by
  unfold State.devConfig
  (try dsimp only)
  repeat' first
    | with_reducible exact State.Keeps.refl _ _
    | with_reducible apply State.Keeps.ite
    | fail_if_no_progress ((with_reducible apply State.Keeps.upd_nvs); rotate_right; decide)
    | ((with_reducible apply State.Keeps.step (State.wardenStore_keeps ..)); rotate_right; decide)
    | ((with_reducible apply State.Keeps.step (State.misc_keeps ..)); rotate_right; decide)
    | with_reducible assumption
    | ((with_reducible apply State.Keeps.step (State.put_keeps ..)); rotate_right; decide)
    | with_reducible refine State.Keeps.fst ‹_ = (_, _)› ?_
    | split

def State.bootConfig_scope : Scope := ⟨[.regs, .evf, .recd, .hp, .tier, .pwr, .nvs, .wdn, .out, .free], none⟩
theorem State.bootConfig_keeps (s : State) : State.Keeps State.bootConfig_scope s (State.bootConfig s) := by
  unfold State.bootConfig
  (try dsimp only)
  repeat' first
    | with_reducible exact State.Keeps.refl _ _
    | fail_if_no_progress ((with_reducible apply State.Keeps.upd_wdn); rotate_right; decide)
    | ((with_reducible apply State.Keeps.step (State.layout_keeps ..)); rotate_right; decide)
    | ((with_reducible apply State.Keeps.step (State.put_keeps ..)); rotate_right; first | decide | rfl)
    | ((with_reducible apply State.Keeps.step (State.ftlPut_keeps ..)); rotate_right; first | decide | rfl)
    | ((with_reducible apply State.Keeps.step (State.devConfig_keeps ..)); rotate_right; decide)
    | split

def State.bootEnd_scope : Scope := ⟨[.wdn], some []⟩
theorem State.bootEnd_keeps (s : State) : State.Keeps State.bootEnd_scope s (State.bootEnd s) := by
  unfold State.bootEnd
  (try dsimp only)
  repeat' first
    | with_reducible exact State.Keeps.refl _ _
    | fail_if_no_progress ((with_reducible apply State.Keeps.upd_wdn); rotate_right; decide)

def State.setOwner_scope : Scope := ⟨[.regs], some [HDR.HOST_R, HDR.HOST_W, HDR.SVC_CLUSTERS, HDR.SVC_R, HDR.SVC_W]⟩
theorem State.setOwner_keeps (s : State) (p : Page) (v : Nat) : State.Keeps State.setOwner_scope s (State.setOwner s p v) := by
  unfold State.setOwner
  (try dsimp only)
  repeat' first
    | with_reducible exact State.Keeps.refl _ _
    | ((with_reducible apply State.Keeps.wr); rotate_right; decide; rotate_right; first | exact Or.inr (by decide) | exact Or.inl rfl)

def State.bootGrant_scope : Scope := ⟨[.regs], some [HDR.HOST_R, HDR.HOST_W, HDR.LOCK, HDR.SVC_CLUSTERS, HDR.SVC_R, HDR.SVC_W]⟩
theorem State.bootGrant_keeps (s : State) : State.Keeps State.bootGrant_scope s (State.bootGrant s) := by
  unfold State.bootGrant
  (try dsimp only)
  repeat' first
    | with_reducible exact State.Keeps.refl _ _
    | with_reducible assumption
    | with_reducible apply State.Keeps.ite
    | ((with_reducible apply State.Keeps.wr); rotate_right; decide; rotate_right; first | exact Or.inr (by decide) | exact Or.inl rfl)
    | ((with_reducible apply State.Keeps.step (State.setOwner_keeps ..)); rotate_right; decide)
    | ((with_reducible apply State.Keeps.foldl); rotate_right; intro _ _ _; rotate_left)

def State.clkStored_scope : Scope := ⟨[.regs], some [CLK.CLK_DIV_NOW, CLK.REF_IN_USE, CLK.ROOT_STATE]⟩
theorem State.clkStored_keeps (s : State) : State.Keeps State.clkStored_scope s (State.clkStored s) := by
  unfold State.clkStored
  (try dsimp only)
  repeat' first
    | with_reducible exact State.Keeps.refl _ _
    | with_reducible apply State.Keeps.ite
    | ((with_reducible apply State.Keeps.step (State.put_keeps ..)); rotate_right; decide)
    | ((with_reducible apply State.Keeps.step (State.refSwitch_keeps ..)); rotate_right; decide)

def State.bootRecords_scope : Scope := ⟨[.regs, .evf, .recd, .hp, .pwr, .seq, .wdn, .out, .free], some [EVF.ALERT_DRV, EVF.TRACE_DROP, HDR.ERR_INFO0, HDR.ERR_INFO1, HDR.ERR_STAT, HDR.EVT_STAT, MGT.ALARM_SENT, PWR.PWR_WAKE_LATCH, PWR.STATE, REC.ALARM_DROP, REC.HEAD_SEQ, REC.LOST_CNT, REC.OVW_CNT, REC.RSV_USED]⟩
theorem State.bootRecords_keeps (s : State) : State.Keeps State.bootRecords_scope s (State.bootRecords s) := by
  unfold State.bootRecords
  (try dsimp only)
  repeat' first
    | with_reducible exact State.Keeps.refl _ _
    | with_reducible apply State.Keeps.ite
    | ((with_reducible apply State.Keeps.step (State.misc_keeps ..)); rotate_right; decide)
    | fail_if_no_progress ((with_reducible apply State.Keeps.upd); rotate_right; (intro p hp; cases p <;> first | exact absurd (by decide) hp | exact rfl))
    | split

def State.fastRead_scope : Scope := ⟨[.regs, .evf, .recd, .hp, .twn, .pwr, .flm, .hrv, .wdn, .out, .free], some [EVF.ALERT_DRV, EVF.TRACE_DROP, HDR.ERR_INFO0, HDR.ERR_INFO1, HDR.ERR_STAT, HDR.EVT_STAT, MGT.ALARM_SENT, NVS.FAST_BAD, PWR.PWR_WAKE_LATCH, PWR.STATE, REC.ALARM_DROP, REC.HEAD_SEQ, REC.LOST_CNT, REC.OVW_CNT, REC.RSV_USED]⟩
theorem State.fastRead_keeps (s : State) (bad : Nat) : State.Keeps State.fastRead_scope s (State.fastRead s bad) := by
  unfold State.fastRead
  (try extract_lets)
  repeat' first
    | intro _
    | with_reducible exact State.Keeps.refl _ _
    | with_reducible assumption
    | with_reducible apply State.Keeps.ite
    | ((with_reducible apply State.Keeps.step (State.fastWrote_keeps ..)); rotate_right; decide)
    | ((with_reducible apply State.Keeps.step (State.blkErr_keeps ..)); rotate_right; decide)
    | ((with_reducible apply State.Keeps.step (State.put_keeps ..)); rotate_right; decide)
    | fail_if_no_progress ((with_reducible apply State.Keeps.upd); rotate_right; (intro p hp; cases p <;> first | exact absurd (by decide) hp | exact rfl))
    | ((with_reducible apply State.Keeps.foldl); rotate_right; intro _ _ _; rotate_left)
    | with_reducible apply State.Keeps.ite1
    | ((with_reducible apply State.Keeps.foldl1); rotate_right; intro _ _ _; rotate_left)
    | extract_lets
    | split
    | with_reducible refine State.Keeps.fst ‹_ = (_, _)› ?_

def State.bootInit_scope : Scope := ⟨[.regs, .evf, .recd, .hp, .twn, .pwr, .flm, .seq, .hrv, .cip, .wdn, .out, .free], none⟩
theorem State.bootInit_keeps (s : State) (bad : Nat) : State.Keeps State.bootInit_scope s (State.bootInit s bad) := by
  unfold State.bootInit
  extract_lets s1 x _ _ _ s2 s3 s3b _ s4
  have h1 : State.Keeps State.bootInit_scope s s1 :=
    State.Keeps.step (State.loadRwp_keeps ..) ((State.fastRead_keeps s bad).mono (by decide)) (by decide)
  clear_value s1
  have h2 : State.Keeps State.bootInit_scope s s2 := by
    refine State.Keeps.gen (t := s1) h1 (fun p hp => ?_) (by first | exact fun _ fs _ => State.fieldsBut.refl rfl fs | exact fun _ => State.anyFields rfl) id id
    cases p <;> first | exact absurd (by decide) hp | exact rfl
  have h3 : State.Keeps State.bootInit_scope s s3 := by
    refine State.Keeps.step (State.bootRecords_keeps ..) ?_ (by decide)
    refine State.Keeps.step (State.alarmKey_keeps ..) ?_ (by decide)
    refine State.Keeps.step (State.clkStored_keeps ..) ?_ (by decide)
    refine State.Keeps.step (State.svnShow_keeps ..) ?_ (by decide)
    exact State.Keeps.step (State.put_keeps ..) h2 (by decide)
  have h4 : State.Keeps State.bootInit_scope s s4 :=
    State.Keeps.step (State.pinOut_keeps ..) (State.Keeps.upd_wdn (t := s3b) (State.Keeps.step (State.put_keeps ..) h3 (by decide)) (by decide)) (by decide)
  exact State.Keeps.ite h4 (State.Keeps.step (State.powerUp_keeps ..) h4 (by decide))

def State.recovery_scope : Scope := ⟨[.regs, .wdn, .out], some [TWN.CLAIM_W_DRV, WDN.STAGE]⟩
theorem State.recovery_keeps (s : State) (failed : Bool) : State.Keeps State.recovery_scope s (State.recovery s failed) := by
  unfold State.recovery
  (try dsimp only)
  repeat' first
    | with_reducible exact State.Keeps.refl _ _
    | fail_if_no_progress ((with_reducible apply State.Keeps.upd_wdn); rotate_right; decide)
    | ((with_reducible apply State.Keeps.step (State.put_keeps ..)); rotate_right; decide)
    | ((with_reducible apply State.Keeps.step (State.aliveStop_keeps ..)); rotate_right; decide)
    | ((with_reducible apply State.Keeps.step (State.claimRelease_keeps ..)); rotate_right; decide)

def State.trialClear_scope : Scope := ⟨[.nvs], some []⟩
theorem State.trialClear_keeps (s : State) (slot : Nat) : State.Keeps State.trialClear_scope s (State.trialClear s slot) := by
  unfold State.trialClear
  (try dsimp only)
  repeat' first
    | with_reducible exact State.Keeps.refl _ _
    | fail_if_no_progress ((with_reducible apply State.Keeps.upd_nvs); rotate_right; decide)

def State.wardenStart_scope : Scope := ⟨[.regs, .wdn], some [WDN.WDN_SLOT]⟩
theorem State.wardenStart_keeps (s : State) (slot : Nat) (trial : Bool) : State.Keeps State.wardenStart_scope s (State.wardenStart s slot trial) := by
  unfold State.wardenStart
  (try dsimp only)
  repeat' first
    | with_reducible exact State.Keeps.refl _ _
    | fail_if_no_progress ((with_reducible apply State.Keeps.upd_wdn); rotate_right; decide)
    | ((with_reducible apply State.Keeps.step (State.put_keeps ..)); rotate_right; decide)

def State.bootRom_scope : Scope := ⟨[.regs, .nvs, .wdn, .out], some [TWN.CLAIM_W_DRV, WDN.STAGE, WDN.WDN_SLOT]⟩
theorem State.bootRom_keeps (s : State) : State.Keeps State.bootRom_scope s (State.bootRom s) := by
  unfold State.bootRom
  (try dsimp only)
  repeat' first
    | with_reducible exact State.Keeps.refl _ _
    | with_reducible apply State.Keeps.ite
    | ((with_reducible apply State.Keeps.step (State.recovery_keeps ..)); rotate_right; decide)
    | ((with_reducible apply State.Keeps.step (State.trialClear_keeps ..)); rotate_right; decide)
    | ((with_reducible apply State.Keeps.step (State.wardenStart_keeps ..)); rotate_right; decide)
    | split

def State.trialPass_scope : Scope := State.storeRun_scope
theorem State.trialPass_keeps (s : State) : State.Keeps State.trialPass_scope s (State.trialPass s) := by
  unfold State.trialPass
  (try dsimp only)
  repeat' first
    | with_reducible exact State.Keeps.refl _ _
    | with_reducible apply State.Keeps.ite
    | ((with_reducible apply State.Keeps.step (State.setActive_keeps ..)); rotate_right; decide)
    | ((with_reducible apply State.Keeps.step (State.wardenStore_keeps ..)); rotate_right; decide)

def State.bootTo_scope : Scope := ⟨[.wdn], some []⟩
theorem State.bootTo_keeps (s : State) (n : Nat) : State.Keeps State.bootTo_scope s (State.bootTo s n) := by
  unfold State.bootTo
  (try dsimp only)
  repeat' first
    | with_reducible exact State.Keeps.refl _ _
    | fail_if_no_progress ((with_reducible apply State.Keeps.upd_wdn); rotate_right; decide)

def State.serviceLoad_scope : Scope := ⟨[.regs, .wdn], some [PWR.STATE, WDN.SVC_BANK]⟩
theorem State.serviceLoad_keeps (s : State) : State.Keeps State.serviceLoad_scope s (State.serviceLoad s) := by
  unfold State.serviceLoad
  (try dsimp only)
  repeat' first
    | with_reducible exact State.Keeps.refl _ _
    | fail_if_no_progress ((with_reducible apply State.Keeps.upd_wdn); rotate_right; decide)
    | ((with_reducible apply State.Keeps.step (State.clustersOff_keeps ..)); rotate_right; decide)
    | ((with_reducible apply State.Keeps.step (State.put_keeps ..)); rotate_right; decide)
    | split

def State.trainStore_scope : Scope := ⟨[.regs, .evf, .recd, .hp, .pwr, .dmc, .nvs, .out, .free], some [EVF.ALERT_DRV, EVF.TRACE_DROP, HDR.ERR_INFO0, HDR.ERR_INFO1, HDR.ERR_STAT, HDR.EVT_STAT, MGT.ALARM_SENT, NVS.BUSY, NVS.PENDING, NVS.RESULT, NVS.TOKENS, PWR.PWR_WAKE_LATCH, PWR.STATE, REC.ALARM_DROP, REC.HEAD_SEQ, REC.LOST_CNT, REC.OVW_CNT, REC.RSV_USED]⟩
theorem State.trainStore_keeps (s : State) : State.Keeps State.trainStore_scope s (State.trainStore s) := by
  unfold State.trainStore
  (try dsimp only)
  repeat' first
    | with_reducible exact State.Keeps.refl _ _
    | with_reducible assumption
    | with_reducible apply State.Keeps.ite
    | fail_if_no_progress ((with_reducible apply State.Keeps.upd_dmc); rotate_right; decide)
    | ((with_reducible apply State.Keeps.step (State.wardenStore_keeps ..)); rotate_right; decide)

def State.bootStep_scope : Scope := ⟨[.regs, .ctl, .evf, .recd, .hp, .mov, .tier, .twn, .pwr, .dmc, .flm, .seq, .hrv, .cip, .nvs, .wdn, .out, .free], none⟩
theorem State.bootStep_keeps (bad : Nat) (s : State) : State.KeepsO State.bootStep_scope s id (State.bootStep bad s) := by
  unfold State.bootStep
  (try dsimp only)
  repeat' first
    | with_reducible exact State.Keeps.refl _ _
    | with_reducible exact State.KeepsO.none
    | with_reducible apply State.KeepsO.some
    | with_reducible apply State.KeepsO.ite
    | with_reducible apply State.Keeps.ite
    | fail_if_no_progress ((with_reducible apply State.Keeps.upd_hp); rotate_right; decide)
    | ((with_reducible apply State.Keeps.step (State.trialPass_keeps ..)); rotate_right; decide)
    | ((with_reducible apply State.Keeps.step (State.formStart_keeps ..)); rotate_right; decide)
    | ((with_reducible apply State.Keeps.step (State.bootEnd_keeps ..)); rotate_right; decide)
    | ((with_reducible apply State.Keeps.step (State.put_keeps ..)); rotate_right; first | decide | rfl)
    | ((with_reducible apply State.Keeps.step (State.bootTo_keeps ..)); rotate_right; decide)
    | ((with_reducible apply State.Keeps.step (State.restoreStart_keeps ..)); rotate_right; decide)
    | ((with_reducible apply State.Keeps.step (State.ftlPut_keeps ..)); rotate_right; first | decide | rfl)
    | ((with_reducible apply State.Keeps.step (State.ftlFormat_keeps ..)); rotate_right; decide)
    | ((with_reducible apply State.Keeps.step (State.bootGrant_keeps ..)); rotate_right; decide)
    | ((with_reducible apply State.Keeps.step (State.bootConfig_keeps ..)); rotate_right; decide)
    | ((with_reducible apply State.Keeps.step (State.bootBringUp_keeps ..)); rotate_right; decide)
    | ((with_reducible apply State.Keeps.step (State.serviceLoad_keeps ..)); rotate_right; decide)
    | ((with_reducible apply State.Keeps.step (State.bootInit_keeps ..)); rotate_right; decide)
    | ((with_reducible apply State.Keeps.step (State.nvsLoad_keeps ..)); rotate_right; decide)
    | ((with_reducible apply State.Keeps.step (State.bootRom_keeps ..)); rotate_right; decide)
    | ((with_reducible apply State.Keeps.step (State.svnShow_keeps ..)); rotate_right; decide)
    | dsimp only [id]
    | with_reducible assumption
    | ((with_reducible apply State.Keeps.step (State.put_keeps ..)); rotate_right; decide)
    | ((with_reducible apply State.Keeps.step (State.trainStore_keeps ..)); rotate_right; decide)
    | ((with_reducible apply State.Keeps.step (State.ftlPut_keeps ..)); rotate_right; decide)

def State.bootRun_scope : Scope := State.bootStep_scope
theorem State.bootRun_keeps (bad : Nat) (a1 : Nat) (a2 : State) : State.Keeps State.bootRun_scope a2 (State.bootRun bad a1 a2) := by
  induction a1 generalizing a2 with
  | zero => exact State.Keeps.refl _ _
  | succ _ ih =>
   unfold State.bootRun
   (try dsimp only)
   repeat' first
    | ((with_reducible apply State.Keeps.step (ih ..)); rotate_right; decide)
    | with_reducible exact State.Keeps.refl _ _
    | split
    | ((with_reducible refine State.Keeps.step (State.KeepsO.use (State.bootStep_keeps ..) ‹_›) ?_ ?_); rotate_right; decide)

def execColdBoot_scope : Scope := State.bootRun_scope
theorem execColdBoot_keeps (fastBad : BitVec 7) (s : State) : State.KeepsR execColdBoot_scope s (execColdBoot fastBad s) := by
  unfold execColdBoot
  (try dsimp only)
  repeat' first
    | with_reducible exact State.Keeps.refl _ _
    | with_reducible apply State.KeepsR.next
    | with_reducible apply State.KeepsR.ite
    | ((with_reducible apply State.Keeps.step (State.bootRun_keeps ..)); rotate_right; decide)

end Sys2Proof.Machine
end

