-- ==== Sys2Proof/Laws/KeepWarden.lean ====
section
/-! SUPPORT. What each operation of Machine/Warden.lean keeps: the parts of State it can change are those listed. -/
set_option linter.unusedTactic false
set_option linter.unreachableTactic false
namespace Sys2Proof.Machine

def State.mbSubmit_scope : Scope := ⟨[.regs, .evf, .recd, .hp, .tier, .pwr, .wdn, .out, .free], some [EVF.ALERT_DRV, EVF.TRACE_DROP, HDR.ERR_INFO0, HDR.ERR_INFO1, HDR.ERR_STAT, HDR.EVT_STAT, MGT.ALARM_SENT, PWR.PWR_WAKE_LATCH, PWR.STATE, REC.ALARM_DROP, REC.HEAD_SEQ, REC.LOST_CNT, REC.OVW_CNT, REC.RSV_USED, WDN.DONE, WDN.LEN, WDN.OPCODE, WDN.SEQ]⟩
theorem State.mbSubmit_keeps (s : State) (req : Requester) (k : Nat) (opcode : Nat) (seq : Nat) (len : Nat) (c : Capture) : State.Keeps State.mbSubmit_scope s (State.mbSubmit s req k opcode seq len c) := by
  unfold State.mbSubmit
  (try dsimp only)
  repeat' first
    | with_reducible exact State.Keeps.refl _ _
    | with_reducible apply State.Keeps.ite
    | fail_if_no_progress ((with_reducible apply State.Keeps.upd_wdn); rotate_right; decide)
    | ((with_reducible apply State.Keeps.step (State.put_keeps ..)); rotate_right; decide)
    | ((with_reducible apply State.Keeps.step (State.blkErr_keeps ..)); rotate_right; decide)
    | with_reducible assumption
    | ((with_reducible apply State.Keeps.step (State.memSeen_keeps ..)); rotate_right; decide)

def State.mbAnswer_scope : Scope := ⟨[.regs, .evf, .recd, .hp, .pwr, .wdn, .out, .free], some [EVF.ALERT_DRV, EVF.TRACE_DROP, HDR.ERR_INFO0, HDR.ERR_INFO1, HDR.ERR_STAT, HDR.EVT_STAT, MGT.ALARM_SENT, PWR.PWR_WAKE_LATCH, PWR.STATE, REC.ALARM_DROP, REC.HEAD_SEQ, REC.LOST_CNT, REC.OVW_CNT, REC.RSV_USED, WDN.DONE, WDN.PAYLOAD, WDN.RSP_SEQ, WDN.STATUS]⟩
theorem State.mbAnswer_keeps (s : State) (k : Nat) (status : Nat) (rsp : List Byte) : State.Keeps State.mbAnswer_scope s (State.mbAnswer s k status rsp) := by
  unfold State.mbAnswer
  (try dsimp only)
  repeat' first
    | with_reducible exact State.Keeps.refl _ _
    | with_reducible apply State.Keeps.ite
    | fail_if_no_progress ((with_reducible apply State.Keeps.upd_wdn); rotate_right; decide)
    | ((with_reducible apply State.Keeps.step (State.misc_keeps ..)); rotate_right; decide)
    | ((with_reducible apply State.Keeps.step (State.put_keeps ..)); rotate_right; decide)
    | split

def State.svnInvalid_scope : Scope := ⟨[.nvs], some []⟩
theorem State.svnInvalid_keeps (s : State) : State.Keeps State.svnInvalid_scope s (State.svnInvalid s) := by
  unfold State.svnInvalid
  (try dsimp only)
  repeat' first
    | with_reducible exact State.Keeps.refl _ _
    | with_reducible assumption
    | with_reducible apply State.Keeps.ite
    | ((with_reducible apply State.Keeps.step (State.setMark_keeps ..)); rotate_right; decide)
    | ((with_reducible apply State.Keeps.foldl); rotate_right; intro _ _ _; rotate_left)

def State.wardenHalt_scope : Scope := ⟨[.regs, .ctl, .evf, .recd, .xlt, .hp, .qe, .mov, .tier, .pan, .twn, .cmn, .pwr, .dmc, .flm, .hrv, .nvs, .wdn, .out, .free], none⟩
theorem State.wardenHalt_keeps (s : State) : State.Keeps State.wardenHalt_scope s (State.wardenHalt s) := by
  unfold State.wardenHalt
  (try dsimp only)
  repeat' first
    | with_reducible exact State.Keeps.refl _ _
    | with_reducible apply State.Keeps.ite
    | ((with_reducible apply State.Keeps.step (State.misc_keeps ..)); rotate_right; decide)
    | ((with_reducible apply State.Keeps.step (State.harvestStart_keeps ..)); rotate_right; decide)
    | ((with_reducible apply State.Keeps.step (State.fenceAll_keeps ..)); rotate_right; decide)
    | ((with_reducible apply State.Keeps.step (State.put_keeps ..)); rotate_right; decide)
    | ((with_reducible apply State.Keeps.step (State.aliveStop_keeps ..)); rotate_right; decide)
    | ((with_reducible apply State.Keeps.step (State.twinSend_keeps ..)); rotate_right; decide)

def execActReady_scope : Scope := ⟨[.regs, .ctl, .evf, .recd, .xlt, .hp, .qe, .mov, .tier, .twn, .cmn, .pwr, .dmc, .flm, .seq, .cip, .wdn, .out, .free], none⟩
theorem execActReady_keeps (version : BitVec 16) (s : State) : State.KeepsR execActReady_scope s (execActReady version s) := by
  unfold execActReady
  (try dsimp only)
  repeat' first
    | with_reducible exact State.Keeps.refl _ _
    | with_reducible apply State.KeepsR.next
    | with_reducible apply State.KeepsR.ite
    | ((with_reducible apply State.Keeps.step (State.actRevert_keeps ..)); rotate_right; decide)
    | ((with_reducible apply State.Keeps.step (State.put_keeps ..)); rotate_right; first | decide | rfl)
    | ((with_reducible apply State.Keeps.step (State.clustersStart_keeps ..)); rotate_right; decide)
    | split

def execActRunning_scope : Scope := ⟨[.regs, .evf, .recd, .hp, .pwr, .nvs, .wdn, .out, .free], some [EVF.ALERT_DRV, EVF.TRACE_DROP, FTL.RAKE_POLICY, HDR.ERR_INFO0, HDR.ERR_INFO1, HDR.ERR_STAT, HDR.EVT_STAT, MGT.ALARM_SENT, NVS.BUSY, NVS.PENDING, NVS.RESULT, NVS.TOKENS, PWR.PWR_WAKE_LATCH, PWR.STATE, REC.ALARM_DROP, REC.HEAD_SEQ, REC.LOST_CNT, REC.OVW_CNT, REC.RSV_USED, WDN.ACT_STATE]⟩
theorem execActRunning_keeps (s : State) : State.KeepsR execActRunning_scope s (execActRunning s) := by
  unfold execActRunning
  (try dsimp only)
  repeat' first
    | with_reducible exact State.Keeps.refl _ _
    | with_reducible apply State.KeepsR.next
    | with_reducible apply State.KeepsR.ite
    | fail_if_no_progress ((with_reducible apply State.Keeps.upd_wdn); rotate_right; decide)
    | ((with_reducible apply State.Keeps.step (State.wardenStore_keeps ..)); rotate_right; decide)
    | ((with_reducible apply State.Keeps.step (State.rakeRestore_keeps ..)); rotate_right; decide)
    | ((with_reducible apply State.Keeps.step (State.setActive_keeps ..)); rotate_right; decide)
    | ((with_reducible apply State.Keeps.step (State.put_keeps ..)); rotate_right; decide)
    | split

def execActTimeout_scope : Scope := State.actRevert_scope
theorem execActTimeout_keeps (s : State) : State.KeepsR execActTimeout_scope s (execActTimeout s) := by
  unfold execActTimeout
  (try dsimp only)
  repeat' first
    | with_reducible exact State.Keeps.refl _ _
    | with_reducible apply State.KeepsR.next
    | ((with_reducible apply State.Keeps.step (State.actRevert_keeps ..)); rotate_right; decide)
    | split

def execCommissioningKey_scope : Scope := State.keyAccept_scope
theorem execCommissioningKey_keeps (key : List (BitVec 8)) (wrapped : WrappedKey) (s : State) : State.KeepsR execCommissioningKey_scope s (execCommissioningKey key wrapped s) := by
  unfold execCommissioningKey
  (try dsimp only)
  repeat' first
    | with_reducible exact State.Keeps.refl _ _
    | with_reducible apply State.KeepsR.next
    | with_reducible apply State.KeepsR.ite
    | ((with_reducible apply State.Keeps.step (State.keyAccept_keeps ..)); rotate_right; decide)

def execCommitSvn_scope : Scope := ⟨[.regs, .evf, .recd, .hp, .pwr, .seq, .nvs, .wdn, .out, .free], some [EVF.ALERT_DRV, EVF.TRACE_DROP, HDR.ERR_INFO0, HDR.ERR_INFO1, HDR.ERR_STAT, HDR.EVT_STAT, MGT.ALARM_SENT, NVS.BUSY, NVS.PENDING, NVS.RESULT, NVS.TOKENS, PWR.PWR_WAKE_LATCH, PWR.STATE, REC.ALARM_DROP, REC.HEAD_SEQ, REC.LOST_CNT, REC.OVW_CNT, REC.RSV_USED, SEQ.DEV_GOOD, SEQ.RAIL_GOOD, SEQ.RAIL_ON, WDN.SVN_SVC, WDN.SVN_WDN]⟩
theorem execCommitSvn_keeps (s : State) : State.KeepsR execCommitSvn_scope s (execCommitSvn s) := by
  unfold execCommitSvn
  (try dsimp only)
  repeat' first
    | with_reducible exact State.Keeps.refl _ _
    | with_reducible apply State.KeepsR.next
    | with_reducible apply State.KeepsR.ite
    | ((with_reducible apply State.Keeps.step (State.svnInvalid_keeps ..)); rotate_right; decide)
    | ((with_reducible apply State.Keeps.step (State.wardenStore_keeps ..)); rotate_right; decide)
    | ((with_reducible apply State.Keeps.step (State.fuseSession_keeps ..)); rotate_right; decide)

def execDebugChallenge_scope : Scope := ⟨[.wdn, .out, .free], some []⟩
theorem execDebugChallenge_keeps (s : State) : State.KeepsR execDebugChallenge_scope s (execDebugChallenge s) := by
  unfold execDebugChallenge
  (try dsimp only)
  repeat' first
    | with_reducible exact State.Keeps.refl _ _
    | with_reducible apply State.KeepsR.next
    | fail_if_no_progress ((with_reducible apply State.Keeps.upd_wdn); rotate_right; decide)
    | ((with_reducible apply State.Keeps.step (State.useFree_keeps ..)); rotate_right; decide)
    | ((with_reducible apply State.Keeps.step (State.emit_keeps ..)); rotate_right; decide)

def execDebugResponse_scope : Scope := State.debugGrant_scope
theorem execDebugResponse_keeps (level : BitVec 2) (owner : Bool) (key : List (BitVec 8)) (signature : List (BitVec 8)) (s : State) : State.KeepsR execDebugResponse_scope s (execDebugResponse level owner key signature s) := by
  unfold execDebugResponse
  (try dsimp only)
  repeat' first
    | with_reducible exact State.Keeps.refl _ _
    | with_reducible apply State.KeepsR.next
    | with_reducible apply State.KeepsR.ite
    | fail_if_no_progress ((with_reducible apply State.Keeps.upd_wdn); rotate_right; decide)
    | ((with_reducible apply State.Keeps.step (State.misc_keeps ..)); rotate_right; decide)
    | ((with_reducible apply State.Keeps.step (State.debugGrant_keeps ..)); rotate_right; decide)

def execFuseProgram_scope : Scope := State.fuseSession_scope
theorem execFuseProgram_keeps (field : FuseField) (bits : Nat) (s : State) : State.KeepsR execFuseProgram_scope s (execFuseProgram field bits s) := by
  unfold execFuseProgram
  (try dsimp only)
  repeat' first
    | with_reducible exact State.Keeps.refl _ _
    | with_reducible apply State.KeepsR.next
    | ((with_reducible apply State.Keeps.step (State.fuseSession_keeps ..)); rotate_right; decide)

def execLockstepMismatch_scope : Scope := State.wardenHalt_scope
theorem execLockstepMismatch_keeps (s : State) : State.KeepsR execLockstepMismatch_scope s (execLockstepMismatch s) := by
  unfold execLockstepMismatch
  (try dsimp only)
  repeat' first
    | with_reducible exact State.Keeps.refl _ _
    | with_reducible apply State.KeepsR.next
    | ((with_reducible apply State.Keeps.step (State.wardenHalt_keeps ..)); rotate_right; decide)

def execSvcDramViol_scope : Scope := State.blkErr_scope
theorem execSvcDramViol_keeps (cluster : Cluster) (addr : BitVec 64) (write : Bool) (s : State) : State.KeepsR execSvcDramViol_scope s (execSvcDramViol cluster addr write s) := by
  unfold execSvcDramViol
  (try dsimp only)
  repeat' first
    | with_reducible exact State.Keeps.refl _ _
    | with_reducible apply State.KeepsR.next
    | with_reducible apply State.KeepsR.ite
    | with_reducible apply State.Keeps.ite
    | ((with_reducible apply State.Keeps.step (State.blkErr_keeps ..)); rotate_right; decide)
    | ((with_reducible apply State.Keeps.step (State.emit_keeps ..)); rotate_right; decide)

def execSvcWatchdogExpiry_scope : Scope := State.svcRestart_scope
theorem execSvcWatchdogExpiry_keeps (_cluster : Cluster) (s : State) : State.KeepsR execSvcWatchdogExpiry_scope s (execSvcWatchdogExpiry _cluster s) := by
  unfold execSvcWatchdogExpiry
  (try dsimp only)
  repeat' first
    | with_reducible exact State.Keeps.refl _ _
    | with_reducible apply State.KeepsR.next
    | ((with_reducible apply State.Keeps.step (State.svcRestart_keeps ..)); rotate_right; decide)

def execTrialTimeout_scope : Scope := State.coldReset_scope
theorem execTrialTimeout_keeps (s : State) : State.KeepsR execTrialTimeout_scope s (execTrialTimeout s) := by
  unfold execTrialTimeout
  (try dsimp only)
  repeat' first
    | with_reducible exact State.Keeps.refl _ _
    | with_reducible apply State.KeepsR.next
    | with_reducible apply State.KeepsR.ite
    | ((with_reducible apply State.Keeps.step (State.coldReset_keeps ..)); rotate_right; decide)

def execUartImage_scope : Scope := ⟨[.regs, .wdn], some [WDN.STAGE]⟩
theorem execUartImage_keeps (img : List (BitVec 8)) (s : State) : State.KeepsR execUartImage_scope s (execUartImage img s) := by
  unfold execUartImage
  (try dsimp only)
  repeat' first
    | with_reducible exact State.Keeps.refl _ _
    | with_reducible apply State.KeepsR.next
    | with_reducible apply State.KeepsR.ite
    | fail_if_no_progress ((with_reducible apply State.Keeps.upd_wdn); rotate_right; decide)
    | ((with_reducible apply State.Keeps.step (State.put_keeps ..)); rotate_right; decide)

def execWardenWatchdogExpiry_scope : Scope := State.wardenHalt_scope
theorem execWardenWatchdogExpiry_keeps (s : State) : State.KeepsR execWardenWatchdogExpiry_scope s (execWardenWatchdogExpiry s) := by
  unfold execWardenWatchdogExpiry
  (try dsimp only)
  repeat' first
    | with_reducible exact State.Keeps.refl _ _
    | with_reducible apply State.KeepsR.next
    | ((with_reducible apply State.Keeps.step (State.wardenHalt_keeps ..)); rotate_right; decide)

end Sys2Proof.Machine
end

