-- ==== Sys2Proof/Laws/KeepAccess.lean ====
section
/-! SUPPORT. What each operation of Machine/Access.lean keeps: the parts of State it can change are those listed. -/
set_option linter.unusedTactic false
set_option linter.unreachableTactic false
namespace Sys2Proof.Machine

def State.ctlAnswer_scope : Scope := ⟨[.out], some []⟩
theorem State.ctlAnswer_keeps (s : State) (r : Requester) (off : Nat) (v : Nat) : State.Keeps State.ctlAnswer_scope s (State.ctlAnswer s r off v) := by
  unfold State.ctlAnswer
  (try dsimp only)
  repeat' first
    | with_reducible exact State.Keeps.refl _ _
    | ((with_reducible apply State.Keeps.step (State.emit_keeps ..)); rotate_right; decide)

def State.pageRead_scope : Scope := State.ctlErr_scope
theorem State.pageRead_keeps (s : State) (r : Requester) (p : Page) (a : Nat) (n : Nat) : State.Keeps State.pageRead_scope s (State.pageRead s r p a n) := by
  unfold State.pageRead
  (try dsimp only)
  repeat' first
    | with_reducible exact State.Keeps.refl _ _
    | with_reducible apply State.Keeps.ite
    | ((with_reducible apply State.Keeps.step (State.ctlErr_keeps ..)); rotate_right; decide)
    | ((with_reducible apply State.Keeps.step (State.ctlAnswer_keeps ..)); rotate_right; decide)

def State.captureBy_scope : Scope := ⟨[.regs], some [HDR.ERR_INFO0, HDR.ERR_INFO1]⟩
theorem State.captureBy_keeps (s0 : State) (s : State) (p : Page) (c : Capture) : State.Keeps State.captureBy_scope s (State.captureBy s0 s p c) := by
  unfold State.captureBy
  (try dsimp only)
  repeat' first
    | with_reducible exact State.Keeps.refl _ _
    | with_reducible apply State.Keeps.ite
    | ((with_reducible apply State.Keeps.wr); rotate_right; decide; rotate_right; first | exact Or.inr (by decide) | exact Or.inl rfl)

def State.store_scope : Scope := State.restorePart_scope
theorem State.store_keeps (s : State) (all : List FieldWrite) (x : FieldWrite) : State.Keeps State.store_scope s (State.store s all x) := by
  unfold State.store
  (try dsimp only)
  repeat' first
    | with_reducible exact State.Keeps.refl _ _
    | with_reducible apply State.Keeps.ite
    | ((with_reducible apply State.Keeps.wrAny); rotate_right; decide)
    | ((with_reducible apply State.Keeps.step (State.stageSingle_keeps ..)); rotate_right; decide)
    | ((with_reducible apply State.Keeps.step (State.stageShadow_keeps ..)); rotate_right; decide)

def State.tempCfgSet_scope : Scope := ⟨[.seq], some []⟩
theorem State.tempCfgSet_keeps (s : State) (t : Nat × Nat × Nat) : State.Keeps State.tempCfgSet_scope s (State.tempCfgSet s t) := by
  unfold State.tempCfgSet
  (try dsimp only)
  repeat' first
    | with_reducible exact State.Keeps.refl _ _
    | fail_if_no_progress ((with_reducible apply State.Keeps.upd_seq); rotate_right; decide)

def State.snsSet_scope : Scope := ⟨[.seq], some []⟩
theorem State.snsSet_keeps (s : State) (gain : Nat) (offset : Nat) : State.Keeps State.snsSet_scope s (State.snsSet s gain offset) := by
  unfold State.snsSet
  (try dsimp only)
  repeat' first
    | with_reducible exact State.Keeps.refl _ _
    | with_reducible apply State.Keeps.ite
    | fail_if_no_progress ((with_reducible apply State.Keeps.upd_seq); rotate_right; decide)

def State.seqEffect_scope : Scope := State.coldReset_scope
theorem State.seqEffect_keeps (s : State) (all : List FieldWrite) (x : FieldWrite) : State.Keeps State.seqEffect_scope s (State.seqEffect s all x) := by
  unfold State.seqEffect
  (try dsimp only)
  repeat' first
    | with_reducible exact State.Keeps.refl _ _
    | with_reducible apply State.Keeps.ite
    | ((with_reducible apply State.Keeps.step (State.store_keeps ..)); rotate_right; decide)
    | ((with_reducible apply State.Keeps.step (State.tempCfgSet_keeps ..)); rotate_right; decide)
    | ((with_reducible apply State.Keeps.step (State.snsSet_keeps ..)); rotate_right; decide)
    | ((with_reducible apply State.Keeps.step (State.tableCommit_keeps ..)); rotate_right; decide)
    | ((with_reducible apply State.Keeps.step (State.railData_keeps ..)); rotate_right; decide)
    | ((with_reducible apply State.Keeps.step (State.railFaultClear_keeps ..)); rotate_right; decide)
    | ((with_reducible apply State.Keeps.step (State.faultClear_keeps ..)); rotate_right; decide)
    | ((with_reducible apply State.Keeps.step (State.powerDown_keeps ..)); rotate_right; decide)
    | ((with_reducible apply State.Keeps.step (State.powerUp_keeps ..)); rotate_right; decide)

def State.clkEffect_scope : Scope := ⟨[.regs, .ctl, .evf, .recd, .hp, .mov, .pwr, .timeNs, .slew, .out, .free], none⟩
theorem State.clkEffect_keeps (s : State) (all : List FieldWrite) (c : Capture) (x : FieldWrite) : State.Keeps State.clkEffect_scope s (State.clkEffect s all c x) := by
  unfold State.clkEffect
  (try dsimp only)
  repeat' first
    | with_reducible exact State.Keeps.refl _ _
    | with_reducible apply State.Keeps.ite
    | ((with_reducible apply State.Keeps.step (State.store_keeps ..)); rotate_right; decide)
    | ((with_reducible apply State.Keeps.step (State.timeSet_keeps ..)); rotate_right; decide)
    | ((with_reducible apply State.Keeps.step (State.ckoutFaultClear_keeps ..)); rotate_right; decide)
    | ((with_reducible apply State.Keeps.step (State.ctlErr_keeps ..)); rotate_right; decide)
    | ((with_reducible apply State.Keeps.step (State.ckoutCfg_keeps ..)); rotate_right; decide)
    | ((with_reducible apply State.Keeps.step (State.clkCommit_keeps ..)); rotate_right; decide)

def State.chanWrite_scope : Scope := State.ctlErr_scope
theorem State.chanWrite_keeps (s : State) (r : Requester) (v : Nat) (c : Capture) : State.Keeps State.chanWrite_scope s (State.chanWrite s r v c) := by
  unfold State.chanWrite
  (try dsimp only)
  repeat' first
    | with_reducible exact State.Keeps.refl _ _
    | with_reducible apply State.Keeps.ite
    | ((with_reducible apply State.Keeps.step (State.chanDataSet_keeps ..)); rotate_right; decide)
    | ((with_reducible apply State.Keeps.step (State.ctlErr_keeps ..)); rotate_right; decide)

def State.panMaint_scope : Scope := ⟨[.regs, .evf, .recd, .hp, .pan, .pwr, .out, .free], some [EVF.ALERT_DRV, EVF.TRACE_DROP, HDR.ERR_INFO0, HDR.ERR_INFO1, HDR.ERR_STAT, HDR.EVT_STAT, MGT.ALARM_SENT, PAN.BUSY, PAN.LINES_DISCARDED, PAN.LINES_WRITTEN, PAN.LOCKS_RELEASED, PAN.LOCK_REFUSED, PAN.RESULT, PWR.PWR_WAKE_LATCH, PWR.STATE, REC.ALARM_DROP, REC.HEAD_SEQ, REC.LOST_CNT, REC.OVW_CNT, REC.RSV_USED]⟩
theorem State.panMaint_keeps (s : State) (r : Requester) (op : Nat) (c : Capture) : State.Keeps State.panMaint_scope s (State.panMaint s r op c) := by
  unfold State.panMaint
  (try dsimp only)
  repeat' first
    | with_reducible exact State.Keeps.refl _ _
    | with_reducible apply State.Keeps.ite
    | ((with_reducible apply State.Keeps.step (State.panStart_keeps ..)); rotate_right; decide)
    | ((with_reducible apply State.Keeps.step (State.ctlErr_keeps ..)); rotate_right; decide)
    | ((with_reducible apply State.Keeps.step (State.put_keeps ..)); rotate_right; decide)

def State.wdnEffect_scope : Scope := ⟨[.regs, .ctl, .evf, .recd, .hp, .mov, .tier, .pwr, .wdn, .out, .free], none⟩
theorem State.wdnEffect_keeps (s : State) (r : Requester) (all : List FieldWrite) (c : Capture) (x : FieldWrite) : State.Keeps State.wdnEffect_scope s (State.wdnEffect s r all c x) := by
  unfold State.wdnEffect
  (try dsimp only)
  repeat' first
    | with_reducible exact State.Keeps.refl _ _
    | with_reducible apply State.Keeps.ite
    | ((with_reducible apply State.Keeps.step (State.store_keeps ..)); rotate_right; decide)
    | ((with_reducible apply State.Keeps.step (State.mbSubmit_keeps ..)); rotate_right; decide)

def State.twnEffect_scope : Scope := ⟨[.regs, .ctl, .evf, .recd, .hp, .mov, .twn, .pwr, .out, .free], none⟩
theorem State.twnEffect_keeps (s : State) (all : List FieldWrite) (x : FieldWrite) : State.Keeps State.twnEffect_scope s (State.twnEffect s all x) := by
  unfold State.twnEffect
  (try dsimp only)
  repeat' first
    | with_reducible exact State.Keeps.refl _ _
    | with_reducible apply State.Keeps.ite
    | ((with_reducible apply State.Keeps.step (State.store_keeps ..)); rotate_right; decide)
    | ((with_reducible apply State.Keeps.step (State.handoffOp_keeps ..)); rotate_right; decide)
    | ((with_reducible apply State.Keeps.step (State.pairAccept_keeps ..)); rotate_right; decide)

def State.hrvEffect_scope : Scope := ⟨[.regs, .ctl, .evf, .recd, .xlt, .hp, .qe, .mov, .tier, .pan, .twn, .cmn, .pwr, .dmc, .flm, .hrv, .nvs, .wdn, .out, .free], none⟩
theorem State.hrvEffect_keeps (s : State) (all : List FieldWrite) (x : FieldWrite) : State.Keeps State.hrvEffect_scope s (State.hrvEffect s all x) := by
  unfold State.hrvEffect
  (try dsimp only)
  repeat' first
    | with_reducible exact State.Keeps.refl _ _
    | with_reducible apply State.Keeps.ite
    | ((with_reducible apply State.Keeps.step (State.store_keeps ..)); rotate_right; decide)
    | ((with_reducible apply State.Keeps.step (State.acceptLoss_keeps ..)); rotate_right; decide)
    | ((with_reducible apply State.Keeps.step (State.rehearse_keeps ..)); rotate_right; decide)
    | ((with_reducible apply State.Keeps.step (State.stepStart_keeps ..)); rotate_right; decide)
    | ((with_reducible apply State.Keeps.step (State.harvestStart_keeps ..)); rotate_right; decide)

def State.commitWrite_scope : Scope := State.restorePart_scope
theorem State.commitWrite_keeps (s : State) (e : Nat) (c : Capture) : State.Keeps State.commitWrite_scope s (State.commitWrite s e c) := by
  unfold State.commitWrite
  (try dsimp only)
  repeat' first
    | with_reducible exact State.Keeps.refl _ _
    | with_reducible apply State.Keeps.ite
    | ((with_reducible apply State.Keeps.step (State.stageCommit_keeps ..)); rotate_right; decide)
    | ((with_reducible apply State.Keeps.step (State.ctlErr_keeps ..)); rotate_right; decide)

def State.blockEffect_scope : Scope := ⟨[.regs, .ctl, .evf, .recd, .xlt, .hp, .qe, .mov, .tier, .pan, .twn, .cmn, .pwr, .dmc, .flm, .seq, .hrv, .clk, .cip, .nvs, .wdn, .mgt, .mem, .timeNs, .slew, .out, .free], none⟩
theorem State.blockEffect_keeps (s : State) (r : Requester) (all : List FieldWrite) (c : Capture) (x : FieldWrite) : State.Keeps State.blockEffect_scope s (State.blockEffect s r all c x) := by
  unfold State.blockEffect
  (try dsimp only)
  repeat' first
    | with_reducible exact State.Keeps.refl _ _
    | with_reducible apply State.Keeps.ite
    | ((with_reducible apply State.Keeps.step (State.store_keeps ..)); rotate_right; decide)
    | ((with_reducible apply State.Keeps.step (State.nvsCommand_keeps ..)); rotate_right; decide)
    | ((with_reducible apply State.Keeps.step (State.seqEffect_keeps ..)); rotate_right; decide)
    | ((with_reducible apply State.Keeps.step (State.domReset_keeps ..)); rotate_right; decide)
    | ((with_reducible apply State.Keeps.step (State.domainMode_keeps ..)); rotate_right; decide)
    | ((with_reducible apply State.Keeps.step (State.clkEffect_keeps ..)); rotate_right; decide)
    | ((with_reducible apply State.Keeps.step (State.clearUpto_keeps ..)); rotate_right; decide)
    | ((with_reducible apply State.Keeps.step (State.alertFaultClear_keeps ..)); rotate_right; decide)
    | ((with_reducible apply State.Keeps.step (State.chanAck_keeps ..)); rotate_right; decide)
    | ((with_reducible apply State.Keeps.step (State.chanWrite_keeps ..)); rotate_right; decide)
    | ((with_reducible apply State.Keeps.step (State.routeDataSet_keeps ..)); rotate_right; decide)
    | ((with_reducible apply State.Keeps.step (State.wdnEffect_keeps ..)); rotate_right; decide)
    | ((with_reducible apply State.Keeps.step (State.hshStart_keeps ..)); rotate_right; decide)
    | ((with_reducible apply State.Keeps.step (State.keyLoad_keeps ..)); rotate_right; decide)
    | ((with_reducible apply State.Keeps.step (State.cipStart_keeps ..)); rotate_right; decide)
    | ((with_reducible apply State.Keeps.step (State.connCtl_keeps ..)); rotate_right; decide)
    | ((with_reducible apply State.Keeps.step (State.twnEffect_keeps ..)); rotate_right; decide)
    | ((with_reducible apply State.Keeps.step (State.hrvEffect_keeps ..)); rotate_right; decide)
    | ((with_reducible apply State.Keeps.step (State.roClear_keeps ..)); rotate_right; decide)
    | ((with_reducible apply State.Keeps.step (State.victimWrite_keeps ..)); rotate_right; decide)
    | ((with_reducible apply State.Keeps.step (State.panMaint_keeps ..)); rotate_right; decide)
    | ((with_reducible apply State.Keeps.step (State.panDiscard_keeps ..)); rotate_right; decide)
    | ((with_reducible apply State.Keeps.step (State.qctl_keeps ..)); rotate_right; decide)
    | ((with_reducible apply State.Keeps.step (State.revoke_keeps ..)); rotate_right; decide)
    | ((with_reducible apply State.Keeps.step (State.inval_keeps ..)); rotate_right; decide)
    | ((with_reducible apply State.Keeps.step (State.commitWrite_keeps ..)); rotate_right; decide)
    | with_reducible assumption
    | with_reducible refine State.Keeps.fst ‹_ = (_, _)› ?_
    | split

def State.clearBits_scope : Scope := ⟨[.regs], none⟩
theorem State.clearBits_keeps (s : State) (p : Page) (f : Fld) (i : Nat) (mask : Nat) : State.Keeps State.clearBits_scope s (State.clearBits s p f i mask) := by
  unfold State.clearBits
  (try dsimp only)
  repeat' first
    | with_reducible exact State.Keeps.refl _ _
    | ((with_reducible apply State.Keeps.wrAny); rotate_right; decide)

def State.stageCtrl_scope : Scope := ⟨[.regs, .ctl, .evf, .recd, .hp, .pwr, .out, .free], some [EVF.ALERT_DRV, EVF.TRACE_DROP, HDR.APPLIED, HDR.ARM, HDR.EPOCH, HDR.ERR_INFO0, HDR.ERR_INFO1, HDR.ERR_STAT, HDR.EVT_STAT, HDR.STAGE_STAT, HDR.VIEW, MGT.ALARM_SENT, PWR.PWR_WAKE_LATCH, PWR.STATE, REC.ALARM_DROP, REC.HEAD_SEQ, REC.LOST_CNT, REC.OVW_CNT, REC.RSV_USED, TOP.STAGE_GSTAT]⟩
theorem State.stageCtrl_keeps (s : State) (p : Page) (epoch : Nat) (view : Nat) (arm : Nat) (c : Capture) : State.Keeps State.stageCtrl_scope s (State.stageCtrl s p epoch view arm c) := by
  unfold State.stageCtrl
  (try dsimp only)
  repeat' first
    | with_reducible exact State.Keeps.refl _ _
    | with_reducible apply State.Keeps.ite
    | ((with_reducible apply State.Keeps.wr); rotate_right; decide; rotate_right; first | exact Or.inr (by decide) | exact Or.inl rfl)
    | ((with_reducible apply State.Keeps.step (State.stageDisarm_keeps ..)); rotate_right; decide)
    | ((with_reducible apply State.Keeps.step (State.stageArm_keeps ..)); rotate_right; decide)
    | ((with_reducible apply State.Keeps.step (State.ctlErr_keeps ..)); rotate_right; decide)
    | ((with_reducible apply State.Keeps.step (State.stageUnstick_keeps ..)); rotate_right; decide)

def State.pageOccur_scope : Scope := State.errAlarm_scope
theorem State.pageOccur_keeps (s : State) (p : Page) (idx : Nat) (forced : Bool) : State.Keeps State.pageOccur_scope s (State.pageOccur s p idx forced) := by
  unfold State.pageOccur
  (try dsimp only)
  repeat' first
    | intro _
    | with_reducible exact State.Keeps.refl _ _
    | with_reducible assumption
    | ((with_reducible apply State.occurWith_keeps); rotate_right; decide)
    | ((with_reducible apply State.Keeps.step (State.errAlarm_keeps ..)); rotate_right; decide)

def State.force_scope : Scope := State.pageOccur_scope
theorem State.force_keeps (s : State) (p : Page) (mask : Nat) : State.Keeps State.force_scope s (State.force s p mask) := by
  unfold State.force
  (try dsimp only)
  repeat' first
    | with_reducible exact State.Keeps.refl _ _
    | with_reducible assumption
    | ((with_reducible apply State.Keeps.step (State.pageOccur_keeps ..)); rotate_right; decide)
    | ((with_reducible apply State.Keeps.foldl); rotate_right; intro _ _ _; rotate_left)

def State.maskSet_scope : Scope := ⟨[.regs, .evf, .hp, .pwr, .out, .free], some [EVF.ALERT_DRV, HDR.EVT_MASK, PWR.PWR_WAKE_LATCH, PWR.STATE]⟩
theorem State.maskSet_keeps (s : State) (p : Page) (v : Nat) : State.Keeps State.maskSet_scope s (State.maskSet s p v) := by
  unfold State.maskSet
  (try dsimp only)
  repeat' first
    | with_reducible exact State.Keeps.refl _ _
    | with_reducible assumption
    | ((with_reducible apply State.Keeps.wr); rotate_right; decide; rotate_right; first | exact Or.inr (by decide) | exact Or.inl rfl)
    | ((with_reducible apply State.Keeps.step (State.deliver_keeps ..)); rotate_right; decide)
    | ((with_reducible apply State.Keeps.foldl); rotate_right; intro _ _ _; rotate_left)

def State.quiesceSet_scope : Scope := ⟨[.regs, .evf, .recd, .xlt, .hp, .qe, .mov, .tier, .pan, .cmn, .pwr, .dmc, .flm, .out, .free], some [CME.VIOL_TX, CMP.TX_FRAMES, EVF.ALERT_DRV, EVF.TRACE_DROP, HDR.ERR_INFO0, HDR.ERR_INFO1, HDR.ERR_STAT, HDR.EVT_STAT, HDR.QUIESCE, HDR.QUIESCED, HP.POISON_CNT, MGT.ALARM_SENT, MOV.FAULT_CNT, MOV.LAST_FCLASS, MOV.LAST_FOFF, MOV.LAST_STATUS, MOV.OFFLINE, MOV.STATE, PAN.HIT_CNT, PAN.MISS_CNT, PAN.WB_CNT, PWR.PWR_WAKE_LATCH, PWR.STATE, REC.ALARM_DROP, REC.HEAD_SEQ, REC.LOST_CNT, REC.OVW_CNT, REC.RSV_USED, TIER.SLOW_PATH]⟩
theorem State.quiesceSet_keeps (s : State) (p : Page) (v : Nat) (c : Capture) : State.Keeps State.quiesceSet_scope s (State.quiesceSet s p v c) := by
  unfold State.quiesceSet
  (try dsimp only)
  repeat' first
    | with_reducible exact State.Keeps.refl _ _
    | with_reducible apply State.Keeps.ite
    | ((with_reducible apply State.Keeps.wr); rotate_right; decide; rotate_right; first | exact Or.inr (by decide) | exact Or.inl rfl)
    | ((with_reducible apply State.Keeps.step (State.unstall_keeps ..)); rotate_right; decide)
    | ((with_reducible apply State.Keeps.step (State.quiesceLatch_keeps ..)); rotate_right; decide)
    | ((with_reducible apply State.Keeps.step (State.blkErr_keeps ..)); rotate_right; decide)
    | split

def State.headerEffect_scope : Scope := ⟨[.regs, .ctl, .evf, .recd, .xlt, .hp, .qe, .mov, .tier, .pan, .cmn, .pwr, .dmc, .flm, .out, .free], none⟩
theorem State.headerEffect_keeps (s : State) (all : List FieldWrite) (c : Capture) (x : FieldWrite) : State.Keeps State.headerEffect_scope s (State.headerEffect s all c x) := by
  unfold State.headerEffect
  (try dsimp only)
  repeat' first
    | with_reducible exact State.Keeps.refl _ _
    | with_reducible apply State.Keeps.ite
    | ((with_reducible apply State.Keeps.step (State.store_keeps ..)); rotate_right; decide)
    | ((with_reducible apply State.Keeps.step (State.stageCtrl_keeps ..)); rotate_right; decide)
    | ((with_reducible apply State.Keeps.step (State.clearBits_keeps ..)); rotate_right; decide)
    | ((with_reducible apply State.Keeps.step (State.force_keeps ..)); rotate_right; decide)
    | ((with_reducible apply State.Keeps.step (State.maskSet_keeps ..)); rotate_right; decide)
    | ((with_reducible apply State.Keeps.step (State.quiesceSet_keeps ..)); rotate_right; decide)

def State.effect_scope : Scope := State.blockEffect_scope
theorem State.effect_keeps (r : Requester) (all : List FieldWrite) (c : Capture) (s : State) (x : FieldWrite) : State.Keeps State.effect_scope s (State.effect r all c s x) := by
  unfold State.effect
  (try dsimp only)
  repeat' first
    | with_reducible exact State.Keeps.refl _ _
    | with_reducible apply State.Keeps.ite
    | ((with_reducible apply State.Keeps.step (State.blockEffect_keeps ..)); rotate_right; decide)
    | ((with_reducible apply State.Keeps.step (State.clearBits_keeps ..)); rotate_right; decide)
    | ((with_reducible apply State.Keeps.step (State.headerEffect_keeps ..)); rotate_right; decide)

def State.pageWrite_scope : Scope := State.blockEffect_scope
theorem State.pageWrite_keeps (s : State) (r : Requester) (p : Page) (a : Nat) (n : Nat) (data : Nat) : State.Keeps State.pageWrite_scope s (State.pageWrite s r p a n data) := by
  unfold State.pageWrite
  (try dsimp only)
  repeat' first
    | with_reducible exact State.Keeps.refl _ _
    | with_reducible assumption
    | with_reducible apply State.Keeps.ite
    | ((with_reducible apply State.Keeps.step (State.captureBy_keeps ..)); rotate_right; decide)
    | ((with_reducible apply State.Keeps.step (State.effect_keeps ..)); rotate_right; decide)
    | ((with_reducible apply State.Keeps.step (State.blkErr_keeps ..)); rotate_right; decide)
    | ((with_reducible apply State.Keeps.step (State.ctlErr_keeps ..)); rotate_right; decide)
    | ((with_reducible apply State.Keeps.step (State.quiesceLatch_keeps ..)); rotate_right; decide)
    | ((with_reducible apply State.Keeps.foldl); rotate_right; intro _ _ _; rotate_left)
    | split

def State.onPage_scope : Scope := State.blockEffect_scope
theorem State.onPage_keeps (s : State) (r : Requester) (p : Page) (off : Nat) (n : Nat) (write : Bool) (data : Nat) : State.Keeps State.onPage_scope s (State.onPage s r p off n write data) := by
  unfold State.onPage
  (try dsimp only)
  repeat' first
    | with_reducible exact State.Keeps.refl _ _
    | with_reducible apply State.Keeps.ite
    | ((with_reducible apply State.Keeps.step (State.pageRead_keeps ..)); rotate_right; decide)
    | ((with_reducible apply State.Keeps.step (State.pageWrite_keeps ..)); rotate_right; decide)

def State.accessWake_scope : Scope := ⟨[.regs, .ctl, .evf, .recd, .xlt, .hp, .qe, .mov, .tier, .pan, .twn, .cmn, .pwr, .dmc, .flm, .seq, .hrv, .clk, .cip, .nvs, .wdn, .mgt, .mem, .timeNs, .slew, .out, .free], none⟩
theorem State.accessWake_keeps (s : State) (x : Stalled) (p : Page) : State.Keeps State.accessWake_scope s (State.accessWake s x p) := by
  unfold State.accessWake
  (try dsimp only)
  repeat' first
    | with_reducible exact State.Keeps.refl _ _
    | with_reducible apply State.Keeps.ite
    | fail_if_no_progress ((with_reducible apply State.Keeps.upd_ctl); rotate_right; decide)
    | ((with_reducible apply State.Keeps.step (State.putBit_keeps ..)); rotate_right; first | decide | rfl)
    | ((with_reducible apply State.Keeps.step (State.wakeStart_keeps ..)); rotate_right; decide)
    | ((with_reducible apply State.Keeps.step (State.useFree_keeps ..)); rotate_right; decide)
    | ((with_reducible apply State.Keeps.step (State.put_keeps ..)); rotate_right; first | decide | rfl)
    | ((with_reducible apply State.Keeps.step (State.onPage_keeps ..)); rotate_right; decide)
    | with_reducible assumption
    | ((with_reducible apply State.Keeps.step (State.dataWake_keeps ..)); rotate_right; decide)

def State.blank_scope : Scope := ⟨[.out], some []⟩
theorem State.blank_keeps (s : State) (r : Requester) (off : Nat) (write : Bool) : State.Keeps State.blank_scope s (State.blank s r off write) := by
  unfold State.blank
  (try dsimp only)
  repeat' first
    | with_reducible exact State.Keeps.refl _ _
    | with_reducible apply State.Keeps.ite
    | ((with_reducible apply State.Keeps.step (State.ctlAnswer_keeps ..)); rotate_right; decide)

def State.refusedAccess_scope : Scope := ⟨[.regs, .evf, .recd, .hp, .pwr, .out, .free], some [EVF.ALERT_DRV, EVF.TRACE_DROP, HDR.ERR_INFO0, HDR.ERR_INFO1, HDR.ERR_STAT, HDR.EVT_STAT, MGT.ALARM_SENT, PWR.PWR_WAKE_LATCH, PWR.STATE, REC.ALARM_DROP, REC.HEAD_SEQ, REC.LOST_CNT, REC.OVW_CNT, REC.RSV_USED]⟩
theorem State.refusedAccess_keeps (s : State) (r : Requester) (p : Page) (off : Nat) (n : Nat) (write : Bool) (data : Nat) : State.Keeps State.refusedAccess_scope s (State.refusedAccess s r p off n write data) := by
  unfold State.refusedAccess
  (try dsimp only)
  repeat' first
    | with_reducible exact State.Keeps.refl _ _
    | with_reducible assumption
    | with_reducible apply State.Keeps.ite
    | ((with_reducible apply State.Keeps.step (State.ctlErr_keeps ..)); rotate_right; decide)
    | ((with_reducible apply State.Keeps.step (State.blank_keeps ..)); rotate_right; decide)

def State.unmapped_scope : Scope := State.ctlErr_scope
theorem State.unmapped_keeps (s : State) (r : Requester) (off : Nat) (write : Bool) : State.Keeps State.unmapped_scope s (State.unmapped s r off write) := by
  unfold State.unmapped
  (try dsimp only)
  repeat' first
    | with_reducible exact State.Keeps.refl _ _
    | ((with_reducible apply State.Keeps.step (State.ctlErr_keeps ..)); rotate_right; decide)
    | ((with_reducible apply State.Keeps.step (State.blank_keeps ..)); rotate_right; decide)

def State.sizeViol_scope : Scope := State.unmapped_scope
theorem State.sizeViol_keeps (s : State) (r : Requester) (off : Nat) (write : Bool) (data : Nat) : State.Keeps State.sizeViol_scope s (State.sizeViol s r off write data) := by
  unfold State.sizeViol
  (try dsimp only)
  repeat' first
    | with_reducible exact State.Keeps.refl _ _
    | ((with_reducible apply State.Keeps.step (State.unmapped_keeps ..)); rotate_right; decide)
    | ((with_reducible apply State.Keeps.step (State.ctlErr_keeps ..)); rotate_right; decide)
    | ((with_reducible apply State.Keeps.step (State.blank_keeps ..)); rotate_right; decide)
    | split

def State.access_scope : Scope := ⟨[.regs, .ctl, .evf, .recd, .xlt, .hp, .qe, .mov, .tier, .pan, .twn, .cmn, .pwr, .dmc, .flm, .seq, .hrv, .clk, .cip, .nvs, .wdn, .mgt, .mem, .timeNs, .slew, .out, .free], none⟩
theorem State.access_keeps (s : State) (x : Stalled) : State.Keeps State.access_scope s (State.access s x) := by
  unfold State.access
  (try dsimp only)
  repeat' first
    | with_reducible exact State.Keeps.refl _ _
    | with_reducible apply State.Keeps.ite
    | ((with_reducible apply State.Keeps.step (State.accessWake_keeps ..)); rotate_right; decide)
    | ((with_reducible apply State.Keeps.step (State.refusedAccess_keeps ..)); rotate_right; decide)
    | ((with_reducible apply State.Keeps.step (State.onPage_keeps ..)); rotate_right; decide)
    | ((with_reducible apply State.Keeps.step (State.unmapped_keeps ..)); rotate_right; decide)
    | ((with_reducible apply State.Keeps.step (State.sizeViol_keeps ..)); rotate_right; decide)
    | with_reducible assumption
    | fail_if_no_progress ((with_reducible apply State.Keeps.upd_ctl); rotate_right; decide)
    | with_reducible refine State.Keeps.fst ‹_ = (_, _)› ?_
    | split

def State.regWrite_scope : Scope := State.access_scope
theorem State.regWrite_keeps (s : State) (r : Requester) (p : Page) (a : Nat) (n : Nat) (data : Nat) : State.Keeps State.regWrite_scope s (State.regWrite s r p a n data) := by
  unfold State.regWrite
  (try dsimp only)
  repeat' first
    | with_reducible exact State.Keeps.refl _ _
    | ((with_reducible apply State.Keeps.step (State.access_keeps ..)); rotate_right; decide)

end Sys2Proof.Machine
end

