-- ==== Sys2Proof/Laws/KeepControl.lean ====
section
/-! SUPPORT. What each operation of Machine/Control.lean keeps: the parts of State it can change are those listed. -/
set_option linter.unusedTactic false
set_option linter.unreachableTactic false
namespace Sys2Proof.Machine

def State.cipWrite_scope : Scope := State.access_scope
theorem State.cipWrite_keeps (s : State) (req : Requester) (op : Nat) : State.Keeps State.cipWrite_scope s (State.cipWrite s req op) := by
  unfold State.cipWrite
  (try dsimp only)
  repeat' first
    | with_reducible exact State.Keeps.refl _ _
    | ((with_reducible apply State.Keeps.step (State.regWrite_keeps ..)); rotate_right; decide)

def State.connWrite_scope : Scope := State.access_scope
theorem State.connWrite_keeps (s : State) (req : Requester) (op : Nat) (conn : BitVec 20) : State.Keeps State.connWrite_scope s (State.connWrite s req op conn) := by
  unfold State.connWrite
  (try dsimp only)
  repeat' first
    | with_reducible exact State.Keeps.refl _ _
    | ((with_reducible apply State.Keeps.step (State.regWrite_keeps ..)); rotate_right; decide)

def State.hshWrite_scope : Scope := State.access_scope
theorem State.hshWrite_keeps (s : State) (req : Requester) (eng : Fin 5) (op : Nat) : State.Keeps State.hshWrite_scope s (State.hshWrite s req eng op) := by
  unfold State.hshWrite
  (try dsimp only)
  repeat' first
    | with_reducible exact State.Keeps.refl _ _
    | ((with_reducible apply State.Keeps.step (State.regWrite_keeps ..)); rotate_right; decide)

def State.panCtl_scope : Scope := State.access_scope
theorem State.panCtl_keeps (s : State) (req : Requester) (sl : Nat) (k : Nat) (v : Nat) : State.Keeps State.panCtl_scope s (State.panCtl s req sl k v) := by
  unfold State.panCtl
  (try dsimp only)
  repeat' first
    | with_reducible exact State.Keeps.refl _ _
    | ((with_reducible apply State.Keeps.step (State.regWrite_keeps ..)); rotate_right; decide)

def State.panWrite'_scope : Scope := State.access_scope
theorem State.panWrite'_keeps (s : State) (req : Requester) (op : Nat) : State.Keeps State.panWrite'_scope s (State.panWrite' s req op) := by
  unfold State.panWrite'
  (try dsimp only)
  repeat' first
    | with_reducible exact State.Keeps.refl _ _
    | ((with_reducible apply State.Keeps.step (State.regWrite_keeps ..)); rotate_right; decide)

def State.qctlWrite_scope : Scope := State.access_scope
theorem State.qctlWrite_keeps (s : State) (req : Requester) (op : Nat) (qid : BitVec 20) : State.Keeps State.qctlWrite_scope s (State.qctlWrite s req op qid) := by
  unfold State.qctlWrite
  (try dsimp only)
  repeat' first
    | with_reducible exact State.Keeps.refl _ _
    | ((with_reducible apply State.Keeps.step (State.regWrite_keeps ..)); rotate_right; decide)

def State.twnCtl_scope : Scope := State.access_scope
theorem State.twnCtl_keeps (s : State) (req : Requester) (k : Nat) : State.Keeps State.twnCtl_scope s (State.twnCtl s req k) := by
  unfold State.twnCtl
  (try dsimp only)
  repeat' first
    | with_reducible exact State.Keeps.refl _ _
    | ((with_reducible apply State.Keeps.step (State.regWrite_keeps ..)); rotate_right; decide)

def State.unstallDom_scope : Scope := ⟨[.ctl], some []⟩
theorem State.unstallDom_keeps {l : Scope} {s0 : State} (s : State) (n : Nat) (k : State → Stalled → Page → State) (hk : ∀ (x0 : State) (x1 : Stalled) (x2 : Page), State.Keeps l s0 x0 → State.Keeps l s0 (k x0 x1 x2)) (hk0 : State.Keeps l s0 s) (hl : Scope.within State.unstallDom_scope l = true) :
    State.Keeps l s0 (State.unstallDom s n k) := by
  unfold State.unstallDom
  (try dsimp only)
  repeat' first
    | with_reducible assumption
    | with_reducible apply hk
    | fail_if_no_progress ((with_reducible apply State.Keeps.upd_ctl); rotate_right; exact Scope.within_contains (m := State.unstallDom_scope) (by decide) hl)
    | ((with_reducible apply State.Keeps.foldl); rotate_right; intro _ _ _; rotate_left)
    | split

def execAcceptLoss_scope : Scope := State.access_scope
theorem execAcceptLoss_keeps (req : Requester) (s : State) : State.KeepsR execAcceptLoss_scope s (execAcceptLoss req s) := by
  unfold execAcceptLoss
  (try dsimp only)
  repeat' first
    | with_reducible exact State.Keeps.refl _ _
    | with_reducible apply State.KeepsR.next
    | ((with_reducible apply State.Keeps.step (State.regWrite_keeps ..)); rotate_right; decide)

def execAlertFaultClear_scope : Scope := State.access_scope
theorem execAlertFaultClear_keeps (req : Requester) (mask : BitVec 2) (s : State) : State.KeepsR execAlertFaultClear_scope s (execAlertFaultClear req mask s) := by
  unfold execAlertFaultClear
  (try dsimp only)
  repeat' first
    | with_reducible exact State.Keeps.refl _ _
    | with_reducible apply State.KeepsR.next
    | ((with_reducible apply State.Keeps.step (State.regWrite_keeps ..)); rotate_right; decide)

def execAloneOk_scope : Scope := State.twnCtl_scope
theorem execAloneOk_keeps (req : Requester) (s : State) : State.KeepsR execAloneOk_scope s (execAloneOk req s) := by
  unfold execAloneOk
  (try dsimp only)
  repeat' first
    | with_reducible exact State.Keeps.refl _ _
    | with_reducible apply State.KeepsR.next
    | ((with_reducible apply State.Keeps.step (State.twnCtl_keeps ..)); rotate_right; decide)

def execChanAck_scope : Scope := State.access_scope
theorem execChanAck_keeps (req : Requester) (chan : BitVec 9) (occ : Bool) (s : State) : State.KeepsR execChanAck_scope s (execChanAck req chan occ s) := by
  unfold execChanAck
  (try dsimp only)
  repeat' first
    | with_reducible exact State.Keeps.refl _ _
    | with_reducible apply State.KeepsR.next
    | with_reducible apply State.Keeps.ite
    | ((with_reducible apply State.Keeps.step (State.chanHit_keeps ..)); rotate_right; decide)
    | ((with_reducible apply State.Keeps.step (State.regWrite_keeps ..)); rotate_right; decide)

def execChanDataWrite_scope : Scope := State.access_scope
theorem execChanDataWrite_keeps (req : Requester) (value : BitVec 32) (s : State) : State.KeepsR execChanDataWrite_scope s (execChanDataWrite req value s) := by
  unfold execChanDataWrite
  (try dsimp only)
  repeat' first
    | with_reducible exact State.Keeps.refl _ _
    | with_reducible apply State.KeepsR.next
    | ((with_reducible apply State.Keeps.step (State.regWrite_keeps ..)); rotate_right; decide)

def execCkoutCfgWrite_scope : Scope := State.access_scope
theorem execCkoutCfgWrite_keeps (req : Requester) (k : Fin 4) (value : BitVec 32) (s : State) : State.KeepsR execCkoutCfgWrite_scope s (execCkoutCfgWrite req k value s) := by
  unfold execCkoutCfgWrite
  (try dsimp only)
  repeat' first
    | with_reducible exact State.Keeps.refl _ _
    | with_reducible apply State.KeepsR.next
    | ((with_reducible apply State.Keeps.step (State.regWrite_keeps ..)); rotate_right; decide)

def execCkoutFaultClear_scope : Scope := State.access_scope
theorem execCkoutFaultClear_keeps (req : Requester) (mask : BitVec 4) (s : State) : State.KeepsR execCkoutFaultClear_scope s (execCkoutFaultClear req mask s) := by
  unfold execCkoutFaultClear
  (try dsimp only)
  repeat' first
    | with_reducible exact State.Keeps.refl _ _
    | with_reducible apply State.KeepsR.next
    | ((with_reducible apply State.Keeps.step (State.regWrite_keeps ..)); rotate_right; decide)

def execClean_scope : Scope := State.panWrite'_scope
theorem execClean_keeps (req : Requester) (s : State) : State.KeepsR execClean_scope s (execClean req s) := by
  unfold execClean
  (try dsimp only)
  repeat' first
    | with_reducible exact State.Keeps.refl _ _
    | with_reducible apply State.KeepsR.next
    | ((with_reducible apply State.Keeps.step (State.panWrite'_keeps ..)); rotate_right; decide)

def execCleanInv_scope : Scope := State.panWrite'_scope
theorem execCleanInv_keeps (req : Requester) (s : State) : State.KeepsR execCleanInv_scope s (execCleanInv req s) := by
  unfold execCleanInv
  (try dsimp only)
  repeat' first
    | with_reducible exact State.Keeps.refl _ _
    | with_reducible apply State.KeepsR.next
    | ((with_reducible apply State.Keeps.step (State.panWrite'_keeps ..)); rotate_right; decide)

def execClearUpto_scope : Scope := State.access_scope
theorem execClearUpto_keeps (req : Requester) (upto : BitVec 32) (s : State) : State.KeepsR execClearUpto_scope s (execClearUpto req upto s) := by
  unfold execClearUpto
  (try dsimp only)
  repeat' first
    | with_reducible exact State.Keeps.refl _ _
    | with_reducible apply State.KeepsR.next
    | ((with_reducible apply State.Keeps.step (State.regWrite_keeps ..)); rotate_right; decide)

def execClkDivCommit_scope : Scope := State.access_scope
theorem execClkDivCommit_keeps (req : Requester) (s : State) : State.KeepsR execClkDivCommit_scope s (execClkDivCommit req s) := by
  unfold execClkDivCommit
  (try dsimp only)
  repeat' first
    | with_reducible exact State.Keeps.refl _ _
    | with_reducible apply State.KeepsR.next
    | ((with_reducible apply State.Keeps.step (State.regWrite_keeps ..)); rotate_right; decide)

def execColdResetRequest_scope : Scope := State.harvestBegin_scope
theorem execColdResetRequest_keeps (req : Requester) (s : State) : State.KeepsR execColdResetRequest_scope s (execColdResetRequest req s) := by
  unfold execColdResetRequest
  (try dsimp only)
  repeat' first
    | with_reducible exact State.Keeps.refl _ _
    | with_reducible apply State.KeepsR.next
    | with_reducible apply State.KeepsR.ite
    | ((with_reducible apply State.Keeps.step (State.useFree_keeps ..)); rotate_right; decide)
    | ((with_reducible apply State.Keeps.step (State.ctlErr_keeps ..)); rotate_right; decide)
    | ((with_reducible apply State.Keeps.step (State.harvestStart_keeps ..)); rotate_right; decide)

def execConnClose_scope : Scope := State.connWrite_scope
theorem execConnClose_keeps (req : Requester) (conn : BitVec 20) (s : State) : State.KeepsR execConnClose_scope s (execConnClose req conn s) := by
  unfold execConnClose
  (try dsimp only)
  repeat' first
    | with_reducible exact State.Keeps.refl _ _
    | with_reducible apply State.KeepsR.next
    | ((with_reducible apply State.Keeps.step (State.connWrite_keeps ..)); rotate_right; decide)

def execConnOpen_scope : Scope := State.connWrite_scope
theorem execConnOpen_keeps (req : Requester) (conn : BitVec 20) (s : State) : State.KeepsR execConnOpen_scope s (execConnOpen req conn s) := by
  unfold execConnOpen
  (try dsimp only)
  repeat' first
    | with_reducible exact State.Keeps.refl _ _
    | with_reducible apply State.KeepsR.next
    | ((with_reducible apply State.Keeps.step (State.connWrite_keeps ..)); rotate_right; decide)

def execControlRead_scope : Scope := State.access_scope
theorem execControlRead_keeps (req : Requester) (off : BitVec 32) (size : Nat) (s : State) : State.KeepsR execControlRead_scope s (execControlRead req off size s) := by
  unfold execControlRead
  (try dsimp only)
  repeat' first
    | with_reducible exact State.Keeps.refl _ _
    | with_reducible apply State.KeepsR.next
    | ((with_reducible apply State.Keeps.step (State.access_keeps ..)); rotate_right; decide)

def execControlWrite_scope : Scope := State.access_scope
theorem execControlWrite_keeps (req : Requester) (off : BitVec 32) (size : Nat) (data : BitVec 64) (s : State) : State.KeepsR execControlWrite_scope s (execControlWrite req off size data s) := by
  unfold execControlWrite
  (try dsimp only)
  repeat' first
    | with_reducible exact State.Keeps.refl _ _
    | with_reducible apply State.KeepsR.next
    | ((with_reducible apply State.Keeps.step (State.access_keeps ..)); rotate_right; decide)

def execDiscard_scope : Scope := State.panCtl_scope
theorem execDiscard_keeps (req : Requester) (slice : Slice) (s : State) : State.KeepsR execDiscard_scope s (execDiscard req slice s) := by
  unfold execDiscard
  (try dsimp only)
  repeat' first
    | with_reducible exact State.Keeps.refl _ _
    | with_reducible apply State.KeepsR.next
    | ((with_reducible apply State.Keeps.step (State.panCtl_keeps ..)); rotate_right; decide)

def execDomainModeWrite_scope : Scope := State.access_scope
theorem execDomainModeWrite_keeps (req : Requester) (dom : Dom) (value : BitVec 32) (s : State) : State.KeepsR execDomainModeWrite_scope s (execDomainModeWrite req dom value s) := by
  unfold execDomainModeWrite
  (try dsimp only)
  repeat' first
    | with_reducible exact State.Keeps.refl _ _
    | with_reducible apply State.KeepsR.next
    | ((with_reducible apply State.Keeps.step (State.regWrite_keeps ..)); rotate_right; decide)

def execDomainOn_scope : Scope := ⟨[.regs, .ctl, .evf, .recd, .xlt, .hp, .qe, .mov, .tier, .pan, .twn, .cmn, .pwr, .dmc, .flm, .seq, .hrv, .clk, .cip, .nvs, .wdn, .mgt, .mem, .timeNs, .slew, .out, .free], none⟩
theorem execDomainOn_keeps (dom : Dom) (s : State) : State.KeepsR execDomainOn_scope s (execDomainOn dom s) := by
  unfold execDomainOn
  (try dsimp only)
  repeat' first
    | intro _
    | with_reducible exact State.Keeps.refl _ _
    | with_reducible assumption
    | with_reducible apply State.KeepsR.next
    | with_reducible apply State.KeepsR.ite
    | with_reducible apply State.Keeps.ite
    | fail_if_no_progress ((with_reducible apply State.Keeps.upd_pwr); rotate_right; decide)
    | ((with_reducible apply State.unstallDom_keeps); rotate_right; decide)
    | ((with_reducible apply State.Keeps.step (State.access_keeps ..)); rotate_right; decide)
    | ((with_reducible apply State.Keeps.step (State.signal_keeps ..)); rotate_right; decide)
    | ((with_reducible apply State.Keeps.step (State.put_keeps ..)); rotate_right; first | decide | rfl)
    | ((with_reducible apply State.Keeps.step (State.putBit_keeps ..)); rotate_right; first | decide | rfl)
    | ((with_reducible apply State.Keeps.step (State.inc_keeps ..)); rotate_right; first | decide | rfl)
    | ((with_reducible apply State.Keeps.step (State.domainReset_keeps ..)); rotate_right; decide)
    | ((with_reducible apply State.Keeps.foldl); rotate_right; intro _ _ _; rotate_left)
    | ((with_reducible apply State.Keeps.step (State.inc_keeps ..)); rotate_right; decide)
    | ((with_reducible apply State.Keeps.step (State.put_keeps ..)); rotate_right; decide)
    | ((with_reducible apply State.Keeps.step (State.putBit_keeps ..)); rotate_right; decide)
    | ((with_reducible apply State.Keeps.step (State.unstall_keeps ..)); rotate_right; decide)
    | ((with_reducible apply State.Keeps.step (State.movSettle_keeps ..)); rotate_right; decide)
    | ((with_reducible apply State.Keeps.foldl1); rotate_right; intro _ _ _; rotate_left)
    | ((with_reducible apply State.Keeps.step (State.srLeave_keeps ..)); rotate_right; decide)

def execDomainWakeFail_scope : Scope := ⟨[.regs, .ctl, .evf, .recd, .xlt, .hp, .qe, .mov, .tier, .twn, .cmn, .pwr, .dmc, .flm, .seq, .cip, .wdn, .out, .free], none⟩
theorem execDomainWakeFail_keeps (dom : Dom) (s : State) : State.KeepsR execDomainWakeFail_scope s (execDomainWakeFail dom s) := by
  unfold execDomainWakeFail
  (try dsimp only)
  repeat' first
    | intro _
    | with_reducible exact State.Keeps.refl _ _
    | with_reducible assumption
    | with_reducible apply State.KeepsR.next
    | with_reducible apply State.KeepsR.ite
    | with_reducible apply State.Keeps.ite
    | fail_if_no_progress ((with_reducible apply State.Keeps.upd_pwr); rotate_right; decide)
    | ((with_reducible apply State.unstallDom_keeps); rotate_right; decide)
    | ((with_reducible apply State.Keeps.step (State.controllerFault_keeps ..)); rotate_right; decide)
    | ((with_reducible apply State.Keeps.step (State.svcRestart_keeps ..)); rotate_right; decide)
    | ((with_reducible apply State.Keeps.step (State.refusedAccess_keeps ..)); rotate_right; decide)
    | ((with_reducible apply State.Keeps.step (State.put_keeps ..)); rotate_right; first | decide | rfl)
    | ((with_reducible apply State.Keeps.step (State.inc_keeps ..)); rotate_right; first | decide | rfl)
    | ((with_reducible apply State.Keeps.step (State.blkErr_keeps ..)); rotate_right; decide)

def execErrStatClear_scope : Scope := State.access_scope
theorem execErrStatClear_keeps (req : Requester) (page : Page) (mask : BitVec 32) (s : State) : State.KeepsR execErrStatClear_scope s (execErrStatClear req page mask s) := by
  unfold execErrStatClear
  (try dsimp only)
  repeat' first
    | with_reducible exact State.Keeps.refl _ _
    | with_reducible apply State.KeepsR.next
    | ((with_reducible apply State.Keeps.step (State.regWrite_keeps ..)); rotate_right; decide)

def execEvtForce_scope : Scope := State.access_scope
theorem execEvtForce_keeps (req : Requester) (page : Page) (mask : BitVec 32) (s : State) : State.KeepsR execEvtForce_scope s (execEvtForce req page mask s) := by
  unfold execEvtForce
  (try dsimp only)
  repeat' first
    | with_reducible exact State.Keeps.refl _ _
    | with_reducible apply State.KeepsR.next
    | ((with_reducible apply State.Keeps.step (State.regWrite_keeps ..)); rotate_right; decide)

def execEvtMaskWrite_scope : Scope := State.access_scope
theorem execEvtMaskWrite_keeps (req : Requester) (page : Page) (value : BitVec 32) (s : State) : State.KeepsR execEvtMaskWrite_scope s (execEvtMaskWrite req page value s) := by
  unfold execEvtMaskWrite
  (try dsimp only)
  repeat' first
    | with_reducible exact State.Keeps.refl _ _
    | with_reducible apply State.KeepsR.next
    | ((with_reducible apply State.Keeps.step (State.regWrite_keeps ..)); rotate_right; decide)

def execEvtStatClear_scope : Scope := State.access_scope
theorem execEvtStatClear_keeps (req : Requester) (page : Page) (mask : BitVec 32) (occ : BitVec 32) (s : State) : State.KeepsR execEvtStatClear_scope s (execEvtStatClear req page mask occ s) := by
  unfold execEvtStatClear
  (try dsimp only)
  repeat' first
    | with_reducible exact State.Keeps.refl _ _
    | with_reducible assumption
    | with_reducible apply State.KeepsR.next
    | with_reducible apply State.Keeps.ite
    | ((with_reducible apply State.Keeps.step (State.pageOccur_keeps ..)); rotate_right; decide)
    | ((with_reducible apply State.Keeps.step (State.regWrite_keeps ..)); rotate_right; decide)
    | ((with_reducible apply State.Keeps.foldl); rotate_right; intro _ _ _; rotate_left)

def execFaultClr_scope : Scope := State.access_scope
theorem execFaultClr_keeps (req : Requester) (s : State) : State.KeepsR execFaultClr_scope s (execFaultClr req s) := by
  unfold execFaultClr
  (try dsimp only)
  repeat' first
    | with_reducible exact State.Keeps.refl _ _
    | with_reducible apply State.KeepsR.next
    | ((with_reducible apply State.Keeps.step (State.regWrite_keeps ..)); rotate_right; decide)

def execGcmDecrypt_scope : Scope := State.cipWrite_scope
theorem execGcmDecrypt_keeps (req : Requester) (s : State) : State.KeepsR execGcmDecrypt_scope s (execGcmDecrypt req s) := by
  unfold execGcmDecrypt
  (try dsimp only)
  repeat' first
    | with_reducible exact State.Keeps.refl _ _
    | with_reducible apply State.KeepsR.next
    | ((with_reducible apply State.Keeps.step (State.cipWrite_keeps ..)); rotate_right; decide)

def execGcmEncrypt_scope : Scope := State.cipWrite_scope
theorem execGcmEncrypt_keeps (req : Requester) (s : State) : State.KeepsR execGcmEncrypt_scope s (execGcmEncrypt req s) := by
  unfold execGcmEncrypt
  (try dsimp only)
  repeat' first
    | with_reducible exact State.Keeps.refl _ _
    | with_reducible apply State.KeepsR.next
    | ((with_reducible apply State.Keeps.step (State.cipWrite_keeps ..)); rotate_right; decide)

def execHandoffGive_scope : Scope := State.access_scope
theorem execHandoffGive_keeps (req : Requester) (group : Grp) (s : State) : State.KeepsR execHandoffGive_scope s (execHandoffGive req group s) := by
  unfold execHandoffGive
  (try dsimp only)
  repeat' first
    | with_reducible exact State.Keeps.refl _ _
    | with_reducible apply State.KeepsR.next
    | ((with_reducible apply State.Keeps.step (State.regWrite_keeps ..)); rotate_right; decide)

def execHandoffRequest_scope : Scope := State.access_scope
theorem execHandoffRequest_keeps (req : Requester) (group : Grp) (s : State) : State.KeepsR execHandoffRequest_scope s (execHandoffRequest req group s) := by
  unfold execHandoffRequest
  (try dsimp only)
  repeat' first
    | with_reducible exact State.Keeps.refl _ _
    | with_reducible apply State.KeepsR.next
    | ((with_reducible apply State.Keeps.step (State.regWrite_keeps ..)); rotate_right; decide)

def execIdentityPublicKeyExport_scope : Scope := State.hshWrite_scope
theorem execIdentityPublicKeyExport_keeps (req : Requester) (eng : Fin 5) (s : State) : State.KeepsR execIdentityPublicKeyExport_scope s (execIdentityPublicKeyExport req eng s) := by
  unfold execIdentityPublicKeyExport
  (try dsimp only)
  repeat' first
    | with_reducible exact State.Keeps.refl _ _
    | with_reducible apply State.KeepsR.next
    | ((with_reducible apply State.Keeps.step (State.hshWrite_keeps ..)); rotate_right; decide)

def execInv_scope : Scope := State.panWrite'_scope
theorem execInv_keeps (req : Requester) (s : State) : State.KeepsR execInv_scope s (execInv req s) := by
  unfold execInv
  (try dsimp only)
  repeat' first
    | with_reducible exact State.Keeps.refl _ _
    | with_reducible apply State.KeepsR.next
    | ((with_reducible apply State.Keeps.step (State.panWrite'_keeps ..)); rotate_right; decide)

def execKeyLoad_scope : Scope := State.access_scope
theorem execKeyLoad_keeps (req : Requester) (sel : BitVec 4) (s : State) : State.KeepsR execKeyLoad_scope s (execKeyLoad req sel s) := by
  unfold execKeyLoad
  (try dsimp only)
  repeat' first
    | with_reducible exact State.Keeps.refl _ _
    | with_reducible apply State.KeepsR.next
    | ((with_reducible apply State.Keeps.step (State.regWrite_keeps ..)); rotate_right; decide)

def execLock_scope : Scope := State.access_scope
theorem execLock_keeps (req : Requester) (page : Page) (s : State) : State.KeepsR execLock_scope s (execLock req page s) := by
  unfold execLock
  (try dsimp only)
  repeat' first
    | with_reducible exact State.Keeps.refl _ _
    | with_reducible apply State.KeepsR.next
    | ((with_reducible apply State.Keeps.step (State.regWrite_keeps ..)); rotate_right; decide)

def execMailboxRequest_scope : Scope := State.access_scope
theorem execMailboxRequest_keeps (req : Requester) (slot : Fin 8) (opcode : BitVec 8) (seq : BitVec 8) (len : BitVec 16) (s : State) : State.KeepsR execMailboxRequest_scope s (execMailboxRequest req slot opcode seq len s) := by
  unfold execMailboxRequest
  (try dsimp only)
  repeat' first
    | with_reducible exact State.Keeps.refl _ _
    | with_reducible apply State.KeepsR.next
    | ((with_reducible apply State.Keeps.step (State.regWrite_keeps ..)); rotate_right; decide)

def execMlDsa87Sign_scope : Scope := State.hshWrite_scope
theorem execMlDsa87Sign_keeps (req : Requester) (eng : Fin 5) (s : State) : State.KeepsR execMlDsa87Sign_scope s (execMlDsa87Sign req eng s) := by
  unfold execMlDsa87Sign
  (try dsimp only)
  repeat' first
    | with_reducible exact State.Keeps.refl _ _
    | with_reducible apply State.KeepsR.next
    | ((with_reducible apply State.Keeps.step (State.hshWrite_keeps ..)); rotate_right; decide)

def execMlDsa87Verify_scope : Scope := State.hshWrite_scope
theorem execMlDsa87Verify_keeps (req : Requester) (eng : Fin 5) (s : State) : State.KeepsR execMlDsa87Verify_scope s (execMlDsa87Verify req eng s) := by
  unfold execMlDsa87Verify
  (try dsimp only)
  repeat' first
    | with_reducible exact State.Keeps.refl _ _
    | with_reducible apply State.KeepsR.next
    | ((with_reducible apply State.Keeps.step (State.hshWrite_keeps ..)); rotate_right; decide)

def execMoverOffline_scope : Scope := State.access_scope
theorem execMoverOffline_keeps (req : Requester) (mover : MoverId) (value : Bool) (s : State) : State.KeepsR execMoverOffline_scope s (execMoverOffline req mover value s) := by
  unfold execMoverOffline
  (try dsimp only)
  repeat' first
    | with_reducible exact State.Keeps.refl _ _
    | with_reducible apply State.KeepsR.next
    | ((with_reducible apply State.Keeps.step (State.regWrite_keeps ..)); rotate_right; decide)

def execPairAccept_scope : Scope := State.twnCtl_scope
theorem execPairAccept_keeps (req : Requester) (s : State) : State.KeepsR execPairAccept_scope s (execPairAccept req s) := by
  unfold execPairAccept
  (try dsimp only)
  repeat' first
    | with_reducible exact State.Keeps.refl _ _
    | with_reducible apply State.KeepsR.next
    | ((with_reducible apply State.Keeps.step (State.twnCtl_keeps ..)); rotate_right; decide)

def execPanDisable_scope : Scope := State.panCtl_scope
theorem execPanDisable_keeps (req : Requester) (slice : Slice) (s : State) : State.KeepsR execPanDisable_scope s (execPanDisable req slice s) := by
  unfold execPanDisable
  (try dsimp only)
  repeat' first
    | with_reducible exact State.Keeps.refl _ _
    | with_reducible apply State.KeepsR.next
    | ((with_reducible apply State.Keeps.step (State.panCtl_keeps ..)); rotate_right; decide)

def execPanEnable_scope : Scope := State.panCtl_scope
theorem execPanEnable_keeps (req : Requester) (slice : Slice) (s : State) : State.KeepsR execPanEnable_scope s (execPanEnable req slice s) := by
  unfold execPanEnable
  (try dsimp only)
  repeat' first
    | with_reducible exact State.Keeps.refl _ _
    | with_reducible apply State.KeepsR.next
    | ((with_reducible apply State.Keeps.step (State.panCtl_keeps ..)); rotate_right; decide)

def execPanLock_scope : Scope := State.panWrite'_scope
theorem execPanLock_keeps (req : Requester) (s : State) : State.KeepsR execPanLock_scope s (execPanLock req s) := by
  unfold execPanLock
  (try dsimp only)
  repeat' first
    | with_reducible exact State.Keeps.refl _ _
    | with_reducible apply State.KeepsR.next
    | ((with_reducible apply State.Keeps.step (State.panWrite'_keeps ..)); rotate_right; decide)

def execPowerDown_scope : Scope := State.access_scope
theorem execPowerDown_keeps (req : Requester) (s : State) : State.KeepsR execPowerDown_scope s (execPowerDown req s) := by
  unfold execPowerDown
  (try dsimp only)
  repeat' first
    | with_reducible exact State.Keeps.refl _ _
    | with_reducible apply State.KeepsR.next
    | ((with_reducible apply State.Keeps.step (State.regWrite_keeps ..)); rotate_right; decide)

def execPowerUp_scope : Scope := State.access_scope
theorem execPowerUp_keeps (req : Requester) (s : State) : State.KeepsR execPowerUp_scope s (execPowerUp req s) := by
  unfold execPowerUp
  (try dsimp only)
  repeat' first
    | with_reducible exact State.Keeps.refl _ _
    | with_reducible apply State.KeepsR.next
    | ((with_reducible apply State.Keeps.step (State.regWrite_keeps ..)); rotate_right; decide)

def execPwrDomReset_scope : Scope := State.access_scope
theorem execPwrDomReset_keeps (req : Requester) (mask : BitVec 64) (s : State) : State.KeepsR execPwrDomReset_scope s (execPwrDomReset req mask s) := by
  unfold execPwrDomReset
  (try dsimp only)
  repeat' first
    | with_reducible exact State.Keeps.refl _ _
    | with_reducible apply State.KeepsR.next
    | ((with_reducible apply State.Keeps.step (State.regWrite_keeps ..)); rotate_right; decide)

def execQueueDisable_scope : Scope := State.qctlWrite_scope
theorem execQueueDisable_keeps (req : Requester) (qid : BitVec 20) (s : State) : State.KeepsR execQueueDisable_scope s (execQueueDisable req qid s) := by
  unfold execQueueDisable
  (try dsimp only)
  repeat' first
    | with_reducible exact State.Keeps.refl _ _
    | with_reducible apply State.KeepsR.next
    | ((with_reducible apply State.Keeps.step (State.qctlWrite_keeps ..)); rotate_right; decide)

def execQueueEnable_scope : Scope := State.qctlWrite_scope
theorem execQueueEnable_keeps (req : Requester) (qid : BitVec 20) (s : State) : State.KeepsR execQueueEnable_scope s (execQueueEnable req qid s) := by
  unfold execQueueEnable
  (try dsimp only)
  repeat' first
    | with_reducible exact State.Keeps.refl _ _
    | with_reducible apply State.KeepsR.next
    | ((with_reducible apply State.Keeps.step (State.qctlWrite_keeps ..)); rotate_right; decide)

def execQueuePause_scope : Scope := State.qctlWrite_scope
theorem execQueuePause_keeps (req : Requester) (qid : BitVec 20) (s : State) : State.KeepsR execQueuePause_scope s (execQueuePause req qid s) := by
  unfold execQueuePause
  (try dsimp only)
  repeat' first
    | with_reducible exact State.Keeps.refl _ _
    | with_reducible apply State.KeepsR.next
    | ((with_reducible apply State.Keeps.step (State.qctlWrite_keeps ..)); rotate_right; decide)

def execQueueReset_scope : Scope := State.qctlWrite_scope
theorem execQueueReset_keeps (req : Requester) (qid : BitVec 20) (s : State) : State.KeepsR execQueueReset_scope s (execQueueReset req qid s) := by
  unfold execQueueReset
  (try dsimp only)
  repeat' first
    | with_reducible exact State.Keeps.refl _ _
    | with_reducible apply State.KeepsR.next
    | ((with_reducible apply State.Keeps.step (State.qctlWrite_keeps ..)); rotate_right; decide)

def execQuiesce_scope : Scope := State.access_scope
theorem execQuiesce_keeps (req : Requester) (page : Page) (s : State) : State.KeepsR execQuiesce_scope s (execQuiesce req page s) := by
  unfold execQuiesce
  (try dsimp only)
  repeat' first
    | with_reducible exact State.Keeps.refl _ _
    | with_reducible apply State.KeepsR.next
    | ((with_reducible apply State.Keeps.step (State.regWrite_keeps ..)); rotate_right; decide)

def execQuiesceRelease_scope : Scope := State.access_scope
theorem execQuiesceRelease_keeps (req : Requester) (page : Page) (s : State) : State.KeepsR execQuiesceRelease_scope s (execQuiesceRelease req page s) := by
  unfold execQuiesceRelease
  (try dsimp only)
  repeat' first
    | with_reducible exact State.Keeps.refl _ _
    | with_reducible apply State.KeepsR.next
    | ((with_reducible apply State.Keeps.step (State.regWrite_keeps ..)); rotate_right; decide)

def execRailDataWrite_scope : Scope := State.access_scope
theorem execRailDataWrite_keeps (req : Requester) (word : Fin 8) (value : BitVec 32) (s : State) : State.KeepsR execRailDataWrite_scope s (execRailDataWrite req word value s) := by
  unfold execRailDataWrite
  (try dsimp only)
  repeat' first
    | with_reducible exact State.Keeps.refl _ _
    | with_reducible apply State.KeepsR.next
    | ((with_reducible apply State.Keeps.step (State.regWrite_keeps ..)); rotate_right; decide)

def execRailFaultClear_scope : Scope := State.access_scope
theorem execRailFaultClear_keeps (req : Requester) (mask : BitVec 32) (s : State) : State.KeepsR execRailFaultClear_scope s (execRailFaultClear req mask s) := by
  unfold execRailFaultClear
  (try dsimp only)
  repeat' first
    | with_reducible exact State.Keeps.refl _ _
    | with_reducible apply State.KeepsR.next
    | ((with_reducible apply State.Keeps.step (State.regWrite_keeps ..)); rotate_right; decide)

def execRehearse_scope : Scope := State.access_scope
theorem execRehearse_keeps (req : Requester) (s : State) : State.KeepsR execRehearse_scope s (execRehearse req s) := by
  unfold execRehearse
  (try dsimp only)
  repeat' first
    | with_reducible exact State.Keeps.refl _ _
    | with_reducible apply State.KeepsR.next
    | ((with_reducible apply State.Keeps.step (State.regWrite_keeps ..)); rotate_right; decide)

def execRekeyInstall_scope : Scope := State.connWrite_scope
theorem execRekeyInstall_keeps (req : Requester) (conn : BitVec 20) (s : State) : State.KeepsR execRekeyInstall_scope s (execRekeyInstall req conn s) := by
  unfold execRekeyInstall
  (try dsimp only)
  repeat' first
    | with_reducible exact State.Keeps.refl _ _
    | with_reducible apply State.KeepsR.next
    | ((with_reducible apply State.Keeps.step (State.connWrite_keeps ..)); rotate_right; decide)

def execReload_scope : Scope := State.access_scope
theorem execReload_keeps (req : Requester) (s : State) : State.KeepsR execReload_scope s (execReload req s) := by
  unfold execReload
  (try dsimp only)
  repeat' first
    | with_reducible exact State.Keeps.refl _ _
    | with_reducible apply State.KeepsR.next
    | ((with_reducible apply State.Keeps.step (State.regWrite_keeps ..)); rotate_right; decide)

def execRoClear_scope : Scope := State.access_scope
theorem execRoClear_keeps (req : Requester) (s : State) : State.KeepsR execRoClear_scope s (execRoClear req s) := by
  unfold execRoClear
  (try dsimp only)
  repeat' first
    | with_reducible exact State.Keeps.refl _ _
    | with_reducible apply State.KeepsR.next
    | ((with_reducible apply State.Keeps.step (State.regWrite_keeps ..)); rotate_right; decide)

def execSha3256_scope : Scope := State.hshWrite_scope
theorem execSha3256_keeps (req : Requester) (eng : Fin 5) (s : State) : State.KeepsR execSha3256_scope s (execSha3256 req eng s) := by
  unfold execSha3256
  (try dsimp only)
  repeat' first
    | with_reducible exact State.Keeps.refl _ _
    | with_reducible apply State.KeepsR.next
    | ((with_reducible apply State.Keeps.step (State.hshWrite_keeps ..)); rotate_right; decide)

def execSha3384_scope : Scope := State.hshWrite_scope
theorem execSha3384_keeps (req : Requester) (eng : Fin 5) (s : State) : State.KeepsR execSha3384_scope s (execSha3384 req eng s) := by
  unfold execSha3384
  (try dsimp only)
  repeat' first
    | with_reducible exact State.Keeps.refl _ _
    | with_reducible apply State.KeepsR.next
    | ((with_reducible apply State.Keeps.step (State.hshWrite_keeps ..)); rotate_right; decide)

def execSha3512_scope : Scope := State.hshWrite_scope
theorem execSha3512_keeps (req : Requester) (eng : Fin 5) (s : State) : State.KeepsR execSha3512_scope s (execSha3512 req eng s) := by
  unfold execSha3512
  (try dsimp only)
  repeat' first
    | with_reducible exact State.Keeps.refl _ _
    | with_reducible apply State.KeepsR.next
    | ((with_reducible apply State.Keeps.step (State.hshWrite_keeps ..)); rotate_right; decide)

def execShake256_scope : Scope := State.hshWrite_scope
theorem execShake256_keeps (req : Requester) (eng : Fin 5) (s : State) : State.KeepsR execShake256_scope s (execShake256 req eng s) := by
  unfold execShake256
  (try dsimp only)
  repeat' first
    | with_reducible exact State.Keeps.refl _ _
    | with_reducible apply State.KeepsR.next
    | ((with_reducible apply State.Keeps.step (State.hshWrite_keeps ..)); rotate_right; decide)

def execShutdown_scope : Scope := State.access_scope
theorem execShutdown_keeps (req : Requester) (s : State) : State.KeepsR execShutdown_scope s (execShutdown req s) := by
  unfold execShutdown
  (try dsimp only)
  repeat' first
    | with_reducible exact State.Keeps.refl _ _
    | with_reducible apply State.KeepsR.next
    | ((with_reducible apply State.Keeps.step (State.regWrite_keeps ..)); rotate_right; decide)

def execSizeViolAccess_scope : Scope := State.ctlErr_scope
theorem execSizeViolAccess_keeps (req : Requester) (off : BitVec 32) (size : Nat) (write : Bool) (data : BitVec 64) (s : State) : State.KeepsR execSizeViolAccess_scope s (execSizeViolAccess req off size write data s) := by
  unfold execSizeViolAccess
  (try dsimp only)
  repeat' first
    | with_reducible exact State.Keeps.refl _ _
    | with_reducible apply State.KeepsR.next
    | with_reducible apply State.KeepsR.ite
    | ((with_reducible apply State.Keeps.step (State.sizeViol_keeps ..)); rotate_right; decide)

def execSlotErase_scope : Scope := State.access_scope
theorem execSlotErase_keeps (req : Requester) (s : State) : State.KeepsR execSlotErase_scope s (execSlotErase req s) := by
  unfold execSlotErase
  (try dsimp only)
  repeat' first
    | with_reducible exact State.Keeps.refl _ _
    | with_reducible apply State.KeepsR.next
    | ((with_reducible apply State.Keeps.step (State.regWrite_keeps ..)); rotate_right; decide)

def execSlotWrite_scope : Scope := State.access_scope
theorem execSlotWrite_keeps (req : Requester) (s : State) : State.KeepsR execSlotWrite_scope s (execSlotWrite req s) := by
  unfold execSlotWrite
  (try dsimp only)
  repeat' first
    | with_reducible exact State.Keeps.refl _ _
    | with_reducible apply State.KeepsR.next
    | ((with_reducible apply State.Keeps.step (State.regWrite_keeps ..)); rotate_right; decide)

def execStageArm_scope : Scope := State.access_scope
theorem execStageArm_keeps (req : Requester) (page : Page) (epoch : BitVec 16) (view : Bool) (s : State) : State.KeepsR execStageArm_scope s (execStageArm req page epoch view s) := by
  unfold execStageArm
  (try dsimp only)
  repeat' first
    | with_reducible exact State.Keeps.refl _ _
    | with_reducible apply State.KeepsR.next
    | ((with_reducible apply State.Keeps.step (State.regWrite_keeps ..)); rotate_right; decide)

def execStageCommit_scope : Scope := State.access_scope
theorem execStageCommit_keeps (req : Requester) (epoch : BitVec 16) (s : State) : State.KeepsR execStageCommit_scope s (execStageCommit req epoch s) := by
  unfold execStageCommit
  (try dsimp only)
  repeat' first
    | with_reducible exact State.Keeps.refl _ _
    | with_reducible apply State.KeepsR.next
    | ((with_reducible apply State.Keeps.step (State.regWrite_keeps ..)); rotate_right; decide)

def execStageDisarm_scope : Scope := State.access_scope
theorem execStageDisarm_keeps (req : Requester) (page : Page) (epoch : BitVec 16) (view : Bool) (s : State) : State.KeepsR execStageDisarm_scope s (execStageDisarm req page epoch view s) := by
  unfold execStageDisarm
  (try dsimp only)
  repeat' first
    | with_reducible exact State.Keeps.refl _ _
    | with_reducible apply State.KeepsR.next
    | ((with_reducible apply State.Keeps.step (State.regWrite_keeps ..)); rotate_right; decide)

def execStageSingleChange_scope : Scope := State.access_scope
theorem execStageSingleChange_keeps (req : Requester) (off : BitVec 32) (size : Nat) (data : BitVec 64) (s : State) : State.KeepsR execStageSingleChange_scope s (execStageSingleChange req off size data s) := by
  unfold execStageSingleChange
  (try dsimp only)
  repeat' first
    | with_reducible exact State.Keeps.refl _ _
    | with_reducible apply State.KeepsR.next
    | ((with_reducible apply State.Keeps.step (State.access_keeps ..)); rotate_right; decide)

def execSteptest_scope : Scope := State.access_scope
theorem execSteptest_keeps (req : Requester) (s : State) : State.KeepsR execSteptest_scope s (execSteptest req s) := by
  unfold execSteptest
  (try dsimp only)
  repeat' first
    | with_reducible exact State.Keeps.refl _ _
    | with_reducible apply State.KeepsR.next
    | ((with_reducible apply State.Keeps.step (State.regWrite_keeps ..)); rotate_right; decide)

def execStore_scope : Scope := State.access_scope
theorem execStore_keeps (req : Requester) (s : State) : State.KeepsR execStore_scope s (execStore req s) := by
  unfold execStore
  (try dsimp only)
  repeat' first
    | with_reducible exact State.Keeps.refl _ _
    | with_reducible apply State.KeepsR.next
    | ((with_reducible apply State.Keeps.step (State.regWrite_keeps ..)); rotate_right; decide)

def execTableCommit_scope : Scope := State.access_scope
theorem execTableCommit_keeps (req : Requester) (s : State) : State.KeepsR execTableCommit_scope s (execTableCommit req s) := by
  unfold execTableCommit
  (try dsimp only)
  repeat' first
    | with_reducible exact State.Keeps.refl _ _
    | with_reducible apply State.KeepsR.next
    | ((with_reducible apply State.Keeps.step (State.regWrite_keeps ..)); rotate_right; decide)

def execTimeSet_scope : Scope := State.access_scope
theorem execTimeSet_keeps (req : Requester) (value : BitVec 64) (s : State) : State.KeepsR execTimeSet_scope s (execTimeSet req value s) := by
  unfold execTimeSet
  (try dsimp only)
  repeat' first
    | with_reducible exact State.Keeps.refl _ _
    | with_reducible apply State.KeepsR.next
    | ((with_reducible apply State.Keeps.step (State.regWrite_keeps ..)); rotate_right; decide)

def execUnlock_scope : Scope := State.panWrite'_scope
theorem execUnlock_keeps (req : Requester) (s : State) : State.KeepsR execUnlock_scope s (execUnlock req s) := by
  unfold execUnlock
  (try dsimp only)
  repeat' first
    | with_reducible exact State.Keeps.refl _ _
    | with_reducible apply State.KeepsR.next
    | ((with_reducible apply State.Keeps.step (State.panWrite'_keeps ..)); rotate_right; decide)

def execUnmappedAccess_scope : Scope := State.ctlErr_scope
theorem execUnmappedAccess_keeps (req : Requester) (off : BitVec 32) (write : Bool) (_data : BitVec 64) (s : State) : State.KeepsR execUnmappedAccess_scope s (execUnmappedAccess req off write _data s) := by
  unfold execUnmappedAccess
  (try dsimp only)
  repeat' first
    | with_reducible exact State.Keeps.refl _ _
    | with_reducible apply State.KeepsR.next
    | with_reducible apply State.KeepsR.ite
    | ((with_reducible apply State.Keeps.step (State.unmapped_keeps ..)); rotate_right; decide)

def execVictim_scope : Scope := State.access_scope
theorem execVictim_keeps (req : Requester) (glun : BitVec 12) (block : BitVec 16) (s : State) : State.KeepsR execVictim_scope s (execVictim req glun block s) := by
  unfold execVictim
  (try dsimp only)
  repeat' first
    | with_reducible exact State.Keeps.refl _ _
    | with_reducible apply State.KeepsR.next
    | ((with_reducible apply State.Keeps.step (State.regWrite_keeps ..)); rotate_right; decide)

def execWarmReset_scope : Scope := State.warmReset_scope
theorem execWarmReset_keeps (s : State) : State.KeepsR execWarmReset_scope s (execWarmReset s) := by
  unfold execWarmReset
  (try dsimp only)
  repeat' first
    | with_reducible exact State.Keeps.refl _ _
    | with_reducible apply State.KeepsR.next
    | with_reducible apply State.KeepsR.ite
    | ((with_reducible apply State.Keeps.step (State.warmReset_keeps ..)); rotate_right; decide)

def execWdtFeed_scope : Scope := State.access_scope
theorem execWdtFeed_keeps (req : Requester) (s : State) : State.KeepsR execWdtFeed_scope s (execWdtFeed req s) := by
  unfold execWdtFeed
  (try dsimp only)
  repeat' first
    | with_reducible exact State.Keeps.refl _ _
    | with_reducible apply State.KeepsR.next
    | ((with_reducible apply State.Keeps.step (State.regWrite_keeps ..)); rotate_right; decide)

def execXltInval_scope : Scope := State.access_scope
theorem execXltInval_keeps (req : Requester) (scope : BitVec 4) (index : BitVec 24) (s : State) : State.KeepsR execXltInval_scope s (execXltInval req scope index s) := by
  unfold execXltInval
  (try dsimp only)
  repeat' first
    | with_reducible exact State.Keeps.refl _ _
    | with_reducible apply State.KeepsR.next
    | ((with_reducible apply State.Keeps.step (State.regWrite_keeps ..)); rotate_right; decide)

def execXltRevoke_scope : Scope := State.access_scope
theorem execXltRevoke_keeps (req : Requester) (key : BitVec 32) (s : State) : State.KeepsR execXltRevoke_scope s (execXltRevoke req key s) := by
  unfold execXltRevoke
  (try dsimp only)
  repeat' first
    | with_reducible exact State.Keeps.refl _ _
    | with_reducible apply State.KeepsR.next
    | ((with_reducible apply State.Keeps.step (State.regWrite_keeps ..)); rotate_right; decide)

def execXtsDecrypt_scope : Scope := State.cipWrite_scope
theorem execXtsDecrypt_keeps (req : Requester) (s : State) : State.KeepsR execXtsDecrypt_scope s (execXtsDecrypt req s) := by
  unfold execXtsDecrypt
  (try dsimp only)
  repeat' first
    | with_reducible exact State.Keeps.refl _ _
    | with_reducible apply State.KeepsR.next
    | ((with_reducible apply State.Keeps.step (State.cipWrite_keeps ..)); rotate_right; decide)

def execXtsEncrypt_scope : Scope := State.cipWrite_scope
theorem execXtsEncrypt_keeps (req : Requester) (s : State) : State.KeepsR execXtsEncrypt_scope s (execXtsEncrypt req s) := by
  unfold execXtsEncrypt
  (try dsimp only)
  repeat' first
    | with_reducible exact State.Keeps.refl _ _
    | with_reducible apply State.KeepsR.next
    | ((with_reducible apply State.Keeps.step (State.cipWrite_keeps ..)); rotate_right; decide)

end Sys2Proof.Machine
end

