-- ==== Sys2Proof/Laws/KeepMailbox.lean ====
section
/-! SUPPORT. What each operation of Machine/Mailbox.lean keeps: the parts of State it can change are those listed. -/
set_option linter.unusedTactic false
set_option linter.unreachableTactic false
namespace Sys2Proof.Machine

def State.extentRelease_scope : Scope := State.inval_scope
theorem State.extentRelease_keeps (s : State) (e : Nat) : State.Keeps State.extentRelease_scope s (State.extentRelease s e) := by
  unfold State.extentRelease
  (try dsimp only)
  repeat' first
    | with_reducible exact State.Keeps.refl _ _
    | with_reducible apply State.Keeps.ite
    | fail_if_no_progress ((with_reducible apply State.Keeps.upd_xlt); rotate_right; decide)
    | ((with_reducible apply State.Keeps.step (State.inval_keeps ..)); rotate_right; decide)
    | split

def State.fmAnswer_scope : Scope := ⟨[.out], some []⟩
theorem State.fmAnswer_keeps (s : State) (cmd : String) (c : MbCode) (vals : List Nat) : State.KeepsR State.fmAnswer_scope s (State.fmAnswer s cmd c vals) := by
  unfold State.fmAnswer
  (try dsimp only)
  repeat' first
    | with_reducible exact State.Keeps.refl _ _
    | with_reducible apply State.KeepsR.next
    | ((with_reducible apply State.Keeps.step (State.emit_keeps ..)); rotate_right; decide)

def State.mb_scope : Scope := ⟨[.out], some []⟩
theorem State.mb_keeps (s : State) (p : Nat) (l : Nat) (op : Nat) (c : MbCode) (vals : List Nat) : State.KeepsR State.mb_scope s (State.mb s p l op c vals) := by
  unfold State.mb
  (try dsimp only)
  repeat' first
    | with_reducible exact State.Keeps.refl _ _
    | with_reducible apply State.KeepsR.next
    | ((with_reducible apply State.Keeps.step (State.emit_keeps ..)); rotate_right; decide)

def State.mbWrite_scope : Scope := ⟨[.regs, .evf, .recd, .xlt, .hp, .tier, .pan, .twn, .pwr, .dmc, .flm, .out, .free], some [EVF.ALERT_DRV, EVF.TRACE_DROP, HDR.ERR_INFO0, HDR.ERR_INFO1, HDR.ERR_STAT, HDR.EVT_STAT, MGT.ALARM_SENT, PAN.WB_CNT, PWR.PWR_WAKE_LATCH, PWR.STATE, REC.ALARM_DROP, REC.HEAD_SEQ, REC.LOST_CNT, REC.OVW_CNT, REC.RSV_USED, TIER.QUOTA_REFUSE]⟩
theorem State.mbWrite_keeps (s : State) (p : Nat) (l : Nat) (op : Nat) (dpa : Nat) (data : Option Sector) (poison : Bool) : State.Keeps State.mbWrite_scope s (State.mbWrite s p l op dpa data poison).1 := by
  unfold State.mbWrite
  (try dsimp only)
  repeat' first
    | with_reducible exact State.Keeps.refl _ _
    | with_reducible assumption
    | with_reducible apply State.Keeps.ite
    | with_reducible apply State.Keeps.ite1
    | fail_if_no_progress ((with_reducible apply State.Keeps.upd_tier); rotate_right; decide)
    | ((with_reducible apply State.Keeps.step (State.targetCheck_keeps ..)); rotate_right; decide)
    | ((with_reducible apply State.Keeps.step (State.checks_keeps ..)); rotate_right; decide)
    | ((with_reducible apply State.Keeps.step (State.resolve_keeps ..)); rotate_right; decide)
    | ((with_reducible apply State.Keeps.step (State.tryWrite_keeps ..)); rotate_right; decide)
    | with_reducible refine State.Keeps.fst ‹_ = (_, _)› ?_
    | (obtain ⟨_, _, h⟩ := Option.map_eq_some_iff.mp ‹Option.map _ _ = some _›; exact State.Keeps.fst h (State.Keeps.step (State.targetCheck_keeps ..) (State.Keeps.refl _ _) (by decide)))
    | dsimp only
    | split

theorem State.mbWritten_keeps {l : Scope} {s : State} (r : State × WriteRes) (p : Nat) (k : Nat) (op : Nat) (dpa : Nat) (h : State.Keeps l s r.1) (hl : Scope.within State.mbAccepted_scope l = true) :
    State.KeepsR l s (State.mbWritten r p k op dpa) := by
  unfold State.mbWritten
  split
  · exact State.KeepsR.next (State.Keeps.step (State.mbAccepted_keeps ..) h hl)
  · exact State.KeepsR.next h
  · exact State.KeepsR.step (State.mb_keeps ..) h (Scope.within_trans (m := State.mbAccepted_scope) (by decide) hl)

def execActivateFw_scope : Scope := ⟨[.out], some []⟩
theorem execActivateFw_keeps (port : Port) (ld : Ld) (s : State) : State.KeepsR execActivateFw_scope s (execActivateFw port ld s) := by
  unfold execActivateFw
  (try dsimp only)
  repeat' first
    | with_reducible exact State.Keeps.refl _ _
    | ((with_reducible apply State.KeepsR.step (State.mb_keeps ..)); rotate_right; decide)
    | with_reducible assumption
    | with_reducible apply State.KeepsR.next
    | with_reducible apply State.KeepsR.ite
    | with_reducible apply State.Keeps.ite

def execAddDcResponse_scope : Scope := ⟨[.regs, .evf, .recd, .xlt, .hp, .pwr, .out, .free], some [EVF.ALERT_DRV, EVF.TRACE_DROP, HDR.ERR_INFO0, HDR.ERR_INFO1, HDR.ERR_STAT, HDR.EVT_STAT, MGT.ALARM_SENT, PWR.PWR_WAKE_LATCH, PWR.STATE, REC.ALARM_DROP, REC.HEAD_SEQ, REC.LOST_CNT, REC.OVW_CNT, REC.RSV_USED, XLT.BUSY]⟩
theorem execAddDcResponse_keeps (port : Port) (ld : Ld) (accepted : List Nat) (s : State) : State.KeepsR execAddDcResponse_scope s (execAddDcResponse port ld accepted s) := by
  unfold execAddDcResponse
  (try dsimp only)
  repeat' first
    | with_reducible exact State.Keeps.refl _ _
    | with_reducible assumption
    | with_reducible apply State.Keeps.ite
    | fail_if_no_progress ((with_reducible apply State.Keeps.upd_xlt); rotate_right; decide)
    | ((with_reducible apply State.KeepsR.step (State.mb_keeps ..)); rotate_right; decide)
    | ((with_reducible apply State.Keeps.step (State.extentRelease_keeps ..)); rotate_right; decide)
    | ((with_reducible apply State.Keeps.foldl); rotate_right; intro _ _ _; rotate_left)
    | with_reducible apply State.KeepsR.next
    | with_reducible apply State.KeepsR.ite
    | ((with_reducible apply State.Keeps.foldl1); rotate_right; intro _ _ _; rotate_left)

def execBackgroundOperationStatus_scope : Scope := ⟨[.out], some []⟩
theorem execBackgroundOperationStatus_keeps (s : State) : State.KeepsR execBackgroundOperationStatus_scope s (execBackgroundOperationStatus s) := by
  unfold execBackgroundOperationStatus
  (try dsimp only)
  repeat' first
    | with_reducible exact State.Keeps.refl _ _
    | ((with_reducible apply State.KeepsR.step (State.fmAnswer_keeps ..)); rotate_right; decide)

def execClearEventRecords_scope : Scope := ⟨[.hp, .out], some []⟩
theorem execClearEventRecords_keeps (port : Port) (ld : Ld) (log : EvLog) (handles : List (BitVec 16)) (s : State) : State.KeepsR execClearEventRecords_scope s (execClearEventRecords port ld log handles s) := by
  unfold execClearEventRecords
  (try dsimp only)
  repeat' first
    | with_reducible exact State.Keeps.refl _ _
    | ((with_reducible apply State.Keeps.step (State.putLd_keeps ..)); rotate_right; decide)
    | ((with_reducible apply State.KeepsR.step (State.mb_keeps ..)); rotate_right; decide)
    | with_reducible assumption
    | with_reducible apply State.KeepsR.next
    | with_reducible apply State.KeepsR.ite
    | with_reducible apply State.Keeps.ite

def execClearPoison_scope : Scope := ⟨[.regs, .evf, .recd, .xlt, .hp, .tier, .pan, .twn, .pwr, .dmc, .flm, .out, .free], some [EVF.ALERT_DRV, EVF.TRACE_DROP, HDR.ERR_INFO0, HDR.ERR_INFO1, HDR.ERR_STAT, HDR.EVT_STAT, MGT.ALARM_SENT, PAN.WB_CNT, PWR.PWR_WAKE_LATCH, PWR.STATE, REC.ALARM_DROP, REC.HEAD_SEQ, REC.LOST_CNT, REC.OVW_CNT, REC.RSV_USED, TIER.QUOTA_REFUSE]⟩
theorem execClearPoison_keeps (port : Port) (ld : Ld) (dpa : BitVec 64) (data : Sector) (s : State) : State.KeepsR execClearPoison_scope s (execClearPoison port ld dpa data s) := by
  unfold execClearPoison
  (try dsimp only)
  repeat' first
    | ((with_reducible apply State.mbWritten_keeps); rotate_right; decide)
    | with_reducible exact State.Keeps.refl _ _
    | ((with_reducible apply State.KeepsR.step (State.mb_keeps ..)); rotate_right; decide)
    | ((with_reducible apply State.Keeps.step (State.putLd_keeps ..)); rotate_right; decide)
    | ((with_reducible apply State.Keeps.step (State.mbWrite_keeps ..)); rotate_right; decide)
    | with_reducible assumption
    | with_reducible apply State.KeepsR.next
    | with_reducible apply State.KeepsR.ite
    | with_reducible apply State.Keeps.ite
    | split

def execFmIdentify_scope : Scope := ⟨[.out], some []⟩
theorem execFmIdentify_keeps (s : State) : State.KeepsR execFmIdentify_scope s (execFmIdentify s) := by
  unfold execFmIdentify
  (try dsimp only)
  repeat' first
    | with_reducible exact State.Keeps.refl _ _
    | ((with_reducible apply State.KeepsR.step (State.fmAnswer_keeps ..)); rotate_right; decide)

def execGetAlertConfig_scope : Scope := ⟨[.out], some []⟩
theorem execGetAlertConfig_keeps (port : Port) (ld : Ld) (s : State) : State.KeepsR execGetAlertConfig_scope s (execGetAlertConfig port ld s) := by
  unfold execGetAlertConfig
  (try dsimp only)
  repeat' first
    | with_reducible exact State.Keeps.refl _ _
    | ((with_reducible apply State.KeepsR.step (State.mb_keeps ..)); rotate_right; decide)
    | with_reducible assumption
    | with_reducible apply State.KeepsR.next
    | with_reducible apply State.KeepsR.ite
    | with_reducible apply State.Keeps.ite

def execGetDcConfig_scope : Scope := ⟨[.out], some []⟩
theorem execGetDcConfig_keeps (port : Port) (ld : Ld) (s : State) : State.KeepsR execGetDcConfig_scope s (execGetDcConfig port ld s) := by
  unfold execGetDcConfig
  (try dsimp only)
  repeat' first
    | with_reducible exact State.Keeps.refl _ _
    | ((with_reducible apply State.KeepsR.step (State.mb_keeps ..)); rotate_right; decide)
    | with_reducible assumption
    | with_reducible apply State.KeepsR.next
    | with_reducible apply State.KeepsR.ite
    | with_reducible apply State.Keeps.ite

def execGetDcExtentList_scope : Scope := ⟨[.out], some []⟩
theorem execGetDcExtentList_keeps (port : Port) (ld : Ld) (s : State) : State.KeepsR execGetDcExtentList_scope s (execGetDcExtentList port ld s) := by
  unfold execGetDcExtentList
  (try dsimp only)
  repeat' first
    | with_reducible exact State.Keeps.refl _ _
    | ((with_reducible apply State.KeepsR.step (State.mb_keeps ..)); rotate_right; decide)
    | with_reducible assumption
    | with_reducible apply State.KeepsR.next
    | with_reducible apply State.KeepsR.ite
    | with_reducible apply State.Keeps.ite

def execGetDcRegionExtentLists_scope : Scope := ⟨[.out], some []⟩
theorem execGetDcRegionExtentLists_keeps (port : Port) (ld : Ld) (s : State) : State.KeepsR execGetDcRegionExtentLists_scope s (execGetDcRegionExtentLists port ld s) := by
  unfold execGetDcRegionExtentLists
  (try dsimp only)
  repeat' first
    | with_reducible exact State.Keeps.refl _ _
    | ((with_reducible apply State.KeepsR.step (State.fmAnswer_keeps ..)); rotate_right; decide)

def execGetDcdInfo_scope : Scope := ⟨[.out], some []⟩
theorem execGetDcdInfo_keeps (s : State) : State.KeepsR execGetDcdInfo_scope s (execGetDcdInfo s) := by
  unfold execGetDcdInfo
  (try dsimp only)
  repeat' first
    | with_reducible exact State.Keeps.refl _ _
    | ((with_reducible apply State.KeepsR.step (State.fmAnswer_keeps ..)); rotate_right; decide)

def execGetEventInterruptPolicy_scope : Scope := ⟨[.out], some []⟩
theorem execGetEventInterruptPolicy_keeps (port : Port) (ld : Ld) (s : State) : State.KeepsR execGetEventInterruptPolicy_scope s (execGetEventInterruptPolicy port ld s) := by
  unfold execGetEventInterruptPolicy
  (try dsimp only)
  repeat' first
    | with_reducible exact State.Keeps.refl _ _
    | ((with_reducible apply State.KeepsR.step (State.mb_keeps ..)); rotate_right; decide)
    | with_reducible assumption
    | with_reducible apply State.KeepsR.next
    | with_reducible apply State.KeepsR.ite
    | with_reducible apply State.Keeps.ite

def execGetEventRecords_scope : Scope := ⟨[.out], some []⟩
theorem execGetEventRecords_keeps (port : Port) (ld : Ld) (log : EvLog) (s : State) : State.KeepsR execGetEventRecords_scope s (execGetEventRecords port ld log s) := by
  unfold execGetEventRecords
  (try dsimp only)
  repeat' first
    | with_reducible exact State.Keeps.refl _ _
    | ((with_reducible apply State.KeepsR.step (State.mb_keeps ..)); rotate_right; decide)
    | with_reducible assumption
    | with_reducible apply State.KeepsR.next
    | with_reducible apply State.KeepsR.ite
    | with_reducible apply State.Keeps.ite

def execGetFwInfo_scope : Scope := ⟨[.out], some []⟩
theorem execGetFwInfo_keeps (port : Port) (ld : Ld) (s : State) : State.KeepsR execGetFwInfo_scope s (execGetFwInfo port ld s) := by
  unfold execGetFwInfo
  (try dsimp only)
  repeat' first
    | with_reducible exact State.Keeps.refl _ _
    | ((with_reducible apply State.KeepsR.step (State.mb_keeps ..)); rotate_right; decide)
    | with_reducible assumption
    | with_reducible apply State.KeepsR.next
    | with_reducible apply State.KeepsR.ite
    | with_reducible apply State.Keeps.ite

def execGetHealthInfo_scope : Scope := ⟨[.out], some []⟩
theorem execGetHealthInfo_keeps (port : Port) (ld : Ld) (s : State) : State.KeepsR execGetHealthInfo_scope s (execGetHealthInfo port ld s) := by
  unfold execGetHealthInfo
  (try dsimp only)
  repeat' first
    | with_reducible exact State.Keeps.refl _ _
    | ((with_reducible apply State.KeepsR.step (State.mb_keeps ..)); rotate_right; decide)
    | with_reducible assumption
    | with_reducible apply State.KeepsR.next
    | with_reducible apply State.KeepsR.ite
    | with_reducible apply State.Keeps.ite
    | with_reducible refine State.Keeps.fst ‹_ = (_, _)› ?_
    | split

def execGetHostDcRegionConfig_scope : Scope := ⟨[.out], some []⟩
theorem execGetHostDcRegionConfig_keeps (port : Port) (ld : Ld) (s : State) : State.KeepsR execGetHostDcRegionConfig_scope s (execGetHostDcRegionConfig port ld s) := by
  unfold execGetHostDcRegionConfig
  (try dsimp only)
  repeat' first
    | with_reducible exact State.Keeps.refl _ _
    | ((with_reducible apply State.KeepsR.step (State.fmAnswer_keeps ..)); rotate_right; decide)

def execGetLdAllocations_scope : Scope := ⟨[.out], some []⟩
theorem execGetLdAllocations_keeps (port : Port) (s : State) : State.KeepsR execGetLdAllocations_scope s (execGetLdAllocations port s) := by
  unfold execGetLdAllocations
  (try dsimp only)
  repeat' first
    | with_reducible exact State.Keeps.refl _ _
    | ((with_reducible apply State.KeepsR.step (State.fmAnswer_keeps ..)); rotate_right; decide)

def execGetLdInfo_scope : Scope := ⟨[.out], some []⟩
theorem execGetLdInfo_keeps (port : Port) (s : State) : State.KeepsR execGetLdInfo_scope s (execGetLdInfo port s) := by
  unfold execGetLdInfo
  (try dsimp only)
  repeat' first
    | with_reducible exact State.Keeps.refl _ _
    | ((with_reducible apply State.KeepsR.step (State.fmAnswer_keeps ..)); rotate_right; decide)

def execGetLog_scope : Scope := ⟨[.out], some []⟩
theorem execGetLog_keeps (port : Port) (ld : Ld) (cel : Bool) (s : State) : State.KeepsR execGetLog_scope s (execGetLog port ld cel s) := by
  unfold execGetLog
  (try dsimp only)
  repeat' first
    | with_reducible exact State.Keeps.refl _ _
    | with_reducible apply State.KeepsR.ite
    | ((with_reducible apply State.KeepsR.step (State.mb_keeps ..)); rotate_right; decide)
    | with_reducible assumption
    | with_reducible apply State.KeepsR.next
    | with_reducible apply State.Keeps.ite

def execGetPartitionInfo_scope : Scope := ⟨[.out], some []⟩
theorem execGetPartitionInfo_keeps (port : Port) (ld : Ld) (s : State) : State.KeepsR execGetPartitionInfo_scope s (execGetPartitionInfo port ld s) := by
  unfold execGetPartitionInfo
  (try dsimp only)
  repeat' first
    | with_reducible exact State.Keeps.refl _ _
    | ((with_reducible apply State.KeepsR.step (State.mb_keeps ..)); rotate_right; decide)
    | with_reducible assumption
    | with_reducible apply State.KeepsR.next
    | with_reducible apply State.KeepsR.ite
    | with_reducible apply State.Keeps.ite

def execGetPoisonList_scope : Scope := ⟨[.hp, .out], some []⟩
theorem execGetPoisonList_keeps (port : Port) (ld : Ld) (s : State) : State.KeepsR execGetPoisonList_scope s (execGetPoisonList port ld s) := by
  unfold execGetPoisonList
  (try dsimp only)
  repeat' first
    | with_reducible exact State.Keeps.refl _ _
    | ((with_reducible apply State.Keeps.step (State.putLd_keeps ..)); rotate_right; decide)
    | ((with_reducible apply State.KeepsR.step (State.mb_keeps ..)); rotate_right; decide)
    | with_reducible assumption
    | with_reducible apply State.KeepsR.next
    | with_reducible apply State.KeepsR.ite
    | with_reducible apply State.Keeps.ite

def execGetQosAllocatedBw_scope : Scope := ⟨[.out], some []⟩
theorem execGetQosAllocatedBw_keeps (port : Port) (s : State) : State.KeepsR execGetQosAllocatedBw_scope s (execGetQosAllocatedBw port s) := by
  unfold execGetQosAllocatedBw
  (try dsimp only)
  repeat' first
    | with_reducible exact State.Keeps.refl _ _
    | ((with_reducible apply State.KeepsR.step (State.fmAnswer_keeps ..)); rotate_right; decide)

def execGetQosBwLimit_scope : Scope := ⟨[.out], some []⟩
theorem execGetQosBwLimit_keeps (port : Port) (s : State) : State.KeepsR execGetQosBwLimit_scope s (execGetQosBwLimit port s) := by
  unfold execGetQosBwLimit
  (try dsimp only)
  repeat' first
    | with_reducible exact State.Keeps.refl _ _
    | ((with_reducible apply State.KeepsR.step (State.fmAnswer_keeps ..)); rotate_right; decide)

def execGetQosControl_scope : Scope := ⟨[.out], some []⟩
theorem execGetQosControl_keeps (port : Port) (s : State) : State.KeepsR execGetQosControl_scope s (execGetQosControl port s) := by
  unfold execGetQosControl
  (try dsimp only)
  repeat' first
    | with_reducible exact State.Keeps.refl _ _
    | ((with_reducible apply State.KeepsR.step (State.fmAnswer_keeps ..)); rotate_right; decide)

def execGetQosStatus_scope : Scope := ⟨[.out], some []⟩
theorem execGetQosStatus_keeps (port : Port) (s : State) : State.KeepsR execGetQosStatus_scope s (execGetQosStatus port s) := by
  unfold execGetQosStatus
  (try dsimp only)
  repeat' first
    | with_reducible exact State.Keeps.refl _ _
    | ((with_reducible apply State.KeepsR.step (State.fmAnswer_keeps ..)); rotate_right; decide)

def execGetResponseMessageLimit_scope : Scope := ⟨[.out, .free], some []⟩
theorem execGetResponseMessageLimit_keeps (s : State) : State.KeepsR execGetResponseMessageLimit_scope s (execGetResponseMessageLimit s) := by
  unfold execGetResponseMessageLimit
  (try dsimp only)
  repeat' first
    | with_reducible exact State.Keeps.refl _ _
    | ((with_reducible apply State.Keeps.step (State.useFree_keeps ..)); rotate_right; decide)
    | ((with_reducible apply State.KeepsR.step (State.fmAnswer_keeps ..)); rotate_right; decide)

def execGetSupportedLogs_scope : Scope := ⟨[.out], some []⟩
theorem execGetSupportedLogs_keeps (port : Port) (ld : Ld) (s : State) : State.KeepsR execGetSupportedLogs_scope s (execGetSupportedLogs port ld s) := by
  unfold execGetSupportedLogs
  (try dsimp only)
  repeat' first
    | with_reducible exact State.Keeps.refl _ _
    | ((with_reducible apply State.KeepsR.step (State.mb_keeps ..)); rotate_right; decide)
    | with_reducible assumption
    | with_reducible apply State.KeepsR.next
    | with_reducible apply State.KeepsR.ite
    | with_reducible apply State.Keeps.ite

def execGetTimestamp_scope : Scope := ⟨[.out], some []⟩
theorem execGetTimestamp_keeps (port : Port) (ld : Ld) (s : State) : State.KeepsR execGetTimestamp_scope s (execGetTimestamp port ld s) := by
  unfold execGetTimestamp
  (try dsimp only)
  repeat' first
    | with_reducible exact State.Keeps.refl _ _
    | ((with_reducible apply State.KeepsR.step (State.mb_keeps ..)); rotate_right; decide)
    | with_reducible assumption
    | with_reducible apply State.KeepsR.next
    | with_reducible apply State.KeepsR.ite
    | with_reducible apply State.Keeps.ite

def execIdentifyMemoryDevice_scope : Scope := ⟨[.out], some []⟩
theorem execIdentifyMemoryDevice_keeps (port : Port) (ld : Ld) (s : State) : State.KeepsR execIdentifyMemoryDevice_scope s (execIdentifyMemoryDevice port ld s) := by
  unfold execIdentifyMemoryDevice
  (try dsimp only)
  repeat' first
    | with_reducible exact State.Keeps.refl _ _
    | ((with_reducible apply State.KeepsR.step (State.mb_keeps ..)); rotate_right; decide)
    | with_reducible assumption
    | with_reducible apply State.KeepsR.next
    | with_reducible apply State.KeepsR.ite
    | with_reducible apply State.Keeps.ite

def execInitiateDynamicCapacityAdd_scope : Scope := ⟨[.xlt, .out], some []⟩
theorem execInitiateDynamicCapacityAdd_keeps (port : Port) (ld : Ld) (ext : Nat) (desc : ExtentReq) (s : State) : State.KeepsR execInitiateDynamicCapacityAdd_scope s (execInitiateDynamicCapacityAdd port ld ext desc s) := by
  unfold execInitiateDynamicCapacityAdd
  (try dsimp only)
  repeat' first
    | with_reducible exact State.Keeps.refl _ _
    | with_reducible apply State.KeepsR.ite
    | fail_if_no_progress ((with_reducible apply State.Keeps.upd_xlt); rotate_right; decide)
    | ((with_reducible apply State.KeepsR.step (State.fmAnswer_keeps ..)); rotate_right; decide)
    | ((with_reducible apply State.Keeps.step (State.emit_keeps ..)); rotate_right; decide)

def execInitiateDynamicCapacityRelease_scope : Scope := ⟨[.regs, .evf, .recd, .xlt, .hp, .pwr, .out, .free], some [EVF.ALERT_DRV, EVF.TRACE_DROP, HDR.ERR_INFO0, HDR.ERR_INFO1, HDR.ERR_STAT, HDR.EVT_STAT, MGT.ALARM_SENT, PWR.PWR_WAKE_LATCH, PWR.STATE, REC.ALARM_DROP, REC.HEAD_SEQ, REC.LOST_CNT, REC.OVW_CNT, REC.RSV_USED, XLT.BUSY]⟩
theorem execInitiateDynamicCapacityRelease_keeps (port : Port) (ld : Ld) (ext : Nat) (s : State) : State.KeepsR execInitiateDynamicCapacityRelease_scope s (execInitiateDynamicCapacityRelease port ld ext s) := by
  unfold execInitiateDynamicCapacityRelease
  (try dsimp only)
  repeat' first
    | with_reducible exact State.Keeps.refl _ _
    | with_reducible apply State.KeepsR.ite
    | ((with_reducible apply State.KeepsR.step (State.fmAnswer_keeps ..)); rotate_right; decide)
    | ((with_reducible apply State.Keeps.step (State.extentRelease_keeps ..)); rotate_right; decide)
    | with_reducible assumption
    | with_reducible apply State.KeepsR.next
    | with_reducible apply State.Keeps.ite
    | ((with_reducible apply State.Keeps.step (State.putLd_keeps ..)); rotate_right; decide)

def execInjectPoison_scope : Scope := ⟨[.regs, .evf, .recd, .xlt, .hp, .tier, .pan, .twn, .pwr, .dmc, .flm, .out, .free], some [EVF.ALERT_DRV, EVF.TRACE_DROP, HDR.ERR_INFO0, HDR.ERR_INFO1, HDR.ERR_STAT, HDR.EVT_STAT, MGT.ALARM_SENT, PAN.WB_CNT, PWR.PWR_WAKE_LATCH, PWR.STATE, REC.ALARM_DROP, REC.HEAD_SEQ, REC.LOST_CNT, REC.OVW_CNT, REC.RSV_USED, TIER.QUOTA_REFUSE]⟩
theorem execInjectPoison_keeps (port : Port) (ld : Ld) (dpa : BitVec 64) (s : State) : State.KeepsR execInjectPoison_scope s (execInjectPoison port ld dpa s) := by
  unfold execInjectPoison
  (try dsimp only)
  repeat' first
    | ((with_reducible apply State.mbWritten_keeps); rotate_right; decide)
    | with_reducible exact State.Keeps.refl _ _
    | with_reducible apply State.KeepsR.ite
    | ((with_reducible apply State.KeepsR.step (State.mb_keeps ..)); rotate_right; decide)
    | ((with_reducible apply State.Keeps.step (State.addPoison_keeps ..)); rotate_right; decide)
    | ((with_reducible apply State.Keeps.step (State.mbWrite_keeps ..)); rotate_right; decide)
    | with_reducible assumption
    | with_reducible apply State.KeepsR.next
    | with_reducible apply State.Keeps.ite
    | split

def execMailboxUnsupported_scope : Scope := ⟨[.out], some []⟩
theorem execMailboxUnsupported_keeps (port : Port) (ld : Ld) (opcode : BitVec 16) (s : State) : State.KeepsR execMailboxUnsupported_scope s (execMailboxUnsupported port ld opcode s) := by
  unfold execMailboxUnsupported
  (try dsimp only)
  repeat' first
    | with_reducible exact State.Keeps.refl _ _
    | with_reducible apply State.KeepsR.next
    | with_reducible apply State.KeepsR.ite
    | ((with_reducible apply State.KeepsR.step (State.mb_keeps ..)); rotate_right; decide)

def execReleaseDc_scope : Scope := ⟨[.regs, .evf, .recd, .xlt, .hp, .pwr, .out, .free], some [EVF.ALERT_DRV, EVF.TRACE_DROP, HDR.ERR_INFO0, HDR.ERR_INFO1, HDR.ERR_STAT, HDR.EVT_STAT, MGT.ALARM_SENT, PWR.PWR_WAKE_LATCH, PWR.STATE, REC.ALARM_DROP, REC.HEAD_SEQ, REC.LOST_CNT, REC.OVW_CNT, REC.RSV_USED, XLT.BUSY]⟩
theorem execReleaseDc_keeps (port : Port) (ld : Ld) (extents : List Nat) (s : State) : State.KeepsR execReleaseDc_scope s (execReleaseDc port ld extents s) := by
  unfold execReleaseDc
  (try dsimp only)
  repeat' first
    | with_reducible exact State.Keeps.refl _ _
    | with_reducible assumption
    | with_reducible apply State.KeepsR.next
    | ((with_reducible apply State.Keeps.step (State.extentRelease_keeps ..)); rotate_right; decide)
    | ((with_reducible apply State.Keeps.foldl); rotate_right; intro _ _ _; rotate_left)
    | with_reducible apply State.KeepsR.ite
    | with_reducible apply State.Keeps.ite
    | ((with_reducible apply State.KeepsR.step (State.mb_keeps ..)); rotate_right; decide)
    | ((with_reducible apply State.Keeps.step (State.putLd_keeps ..)); rotate_right; decide)
    | ((with_reducible apply State.Keeps.foldl1); rotate_right; intro _ _ _; rotate_left)

def execSetAlertConfig_scope : Scope := ⟨[.hp, .out], some []⟩
theorem execSetAlertConfig_keeps (port : Port) (ld : Ld) (value : BitVec 96) (s : State) : State.KeepsR execSetAlertConfig_scope s (execSetAlertConfig port ld value s) := by
  unfold execSetAlertConfig
  (try dsimp only)
  repeat' first
    | with_reducible exact State.Keeps.refl _ _
    | ((with_reducible apply State.Keeps.step (State.putLd_keeps ..)); rotate_right; decide)
    | ((with_reducible apply State.KeepsR.step (State.mb_keeps ..)); rotate_right; decide)
    | with_reducible assumption
    | with_reducible apply State.KeepsR.next
    | with_reducible apply State.KeepsR.ite
    | with_reducible apply State.Keeps.ite

def execSetDcRegionConfig_scope : Scope := ⟨[.hp, .out], some []⟩
theorem execSetDcRegionConfig_keeps (port : Port) (ld : Ld) (region : Fin 8) (base : BitVec 64) (len : BitVec 64) (s : State) : State.KeepsR execSetDcRegionConfig_scope s (execSetDcRegionConfig port ld region base len s) := by
  unfold execSetDcRegionConfig
  (try dsimp only)
  repeat' first
    | with_reducible exact State.Keeps.refl _ _
    | with_reducible apply State.KeepsR.ite
    | ((with_reducible apply State.Keeps.step (State.putLd_keeps ..)); rotate_right; decide)
    | ((with_reducible apply State.KeepsR.step (State.fmAnswer_keeps ..)); rotate_right; decide)

def execSetEventInterruptPolicy_scope : Scope := ⟨[.hp, .out], some []⟩
theorem execSetEventInterruptPolicy_keeps (port : Port) (ld : Ld) (log : EvLog) (enable : Bool) (vector : BitVec 11) (s : State) : State.KeepsR execSetEventInterruptPolicy_scope s (execSetEventInterruptPolicy port ld log enable vector s) := by
  unfold execSetEventInterruptPolicy
  (try dsimp only)
  repeat' first
    | with_reducible exact State.Keeps.refl _ _
    | ((with_reducible apply State.Keeps.step (State.putLd_keeps ..)); rotate_right; decide)
    | ((with_reducible apply State.KeepsR.step (State.mb_keeps ..)); rotate_right; decide)
    | with_reducible assumption
    | with_reducible apply State.KeepsR.next
    | with_reducible apply State.KeepsR.ite
    | with_reducible apply State.Keeps.ite

def execSetLdAllocations_scope : Scope := ⟨[.hp, .out], some []⟩
theorem execSetLdAllocations_keeps (port : Port) (ld : Ld) (units : Nat) (s : State) : State.KeepsR execSetLdAllocations_scope s (execSetLdAllocations port ld units s) := by
  unfold execSetLdAllocations
  (try dsimp only)
  repeat' first
    | with_reducible exact State.Keeps.refl _ _
    | with_reducible apply State.KeepsR.ite
    | ((with_reducible apply State.Keeps.step (State.putLd_keeps ..)); rotate_right; decide)
    | ((with_reducible apply State.KeepsR.step (State.fmAnswer_keeps ..)); rotate_right; decide)
    | with_reducible assumption
    | with_reducible apply State.KeepsR.next
    | with_reducible apply State.Keeps.ite

def execSetQosAllocatedBw_scope : Scope := ⟨[.hp, .out], some []⟩
theorem execSetQosAllocatedBw_keeps (port : Port) (ld : Ld) (value : BitVec 8) (s : State) : State.KeepsR execSetQosAllocatedBw_scope s (execSetQosAllocatedBw port ld value s) := by
  unfold execSetQosAllocatedBw
  (try dsimp only)
  repeat' first
    | with_reducible exact State.Keeps.refl _ _
    | ((with_reducible apply State.Keeps.step (State.putLd_keeps ..)); rotate_right; decide)
    | ((with_reducible apply State.KeepsR.step (State.fmAnswer_keeps ..)); rotate_right; decide)

def execSetQosBwLimit_scope : Scope := ⟨[.hp, .out], some []⟩
theorem execSetQosBwLimit_keeps (port : Port) (ld : Ld) (value : BitVec 8) (s : State) : State.KeepsR execSetQosBwLimit_scope s (execSetQosBwLimit port ld value s) := by
  unfold execSetQosBwLimit
  (try dsimp only)
  repeat' first
    | with_reducible exact State.Keeps.refl _ _
    | ((with_reducible apply State.Keeps.step (State.putLd_keeps ..)); rotate_right; decide)
    | ((with_reducible apply State.KeepsR.step (State.fmAnswer_keeps ..)); rotate_right; decide)

def execSetQosControl_scope : Scope := ⟨[.hp, .out], some []⟩
theorem execSetQosControl_keeps (port : Port) (value : BitVec 64) (s : State) : State.KeepsR execSetQosControl_scope s (execSetQosControl port value s) := by
  unfold execSetQosControl
  (try dsimp only)
  repeat' first
    | with_reducible exact State.Keeps.refl _ _
    | fail_if_no_progress ((with_reducible apply State.Keeps.upd_hp); rotate_right; decide)
    | ((with_reducible apply State.KeepsR.step (State.fmAnswer_keeps ..)); rotate_right; decide)

def execSetTimestamp_scope : Scope := ⟨[.hp, .out], some []⟩
theorem execSetTimestamp_keeps (port : Port) (ld : Ld) (value : BitVec 64) (s : State) : State.KeepsR execSetTimestamp_scope s (execSetTimestamp port ld value s) := by
  unfold execSetTimestamp
  (try dsimp only)
  repeat' first
    | with_reducible exact State.Keeps.refl _ _
    | ((with_reducible apply State.Keeps.step (State.putLd_keeps ..)); rotate_right; decide)
    | ((with_reducible apply State.KeepsR.step (State.mb_keeps ..)); rotate_right; decide)
    | with_reducible assumption
    | with_reducible apply State.KeepsR.next
    | with_reducible apply State.KeepsR.ite
    | with_reducible apply State.Keeps.ite

def execTransferFw_scope : Scope := ⟨[.out], some []⟩
theorem execTransferFw_keeps (port : Port) (ld : Ld) (s : State) : State.KeepsR execTransferFw_scope s (execTransferFw port ld s) := by
  unfold execTransferFw
  (try dsimp only)
  repeat' first
    | with_reducible exact State.Keeps.refl _ _
    | ((with_reducible apply State.KeepsR.step (State.mb_keeps ..)); rotate_right; decide)
    | with_reducible assumption
    | with_reducible apply State.KeepsR.next
    | with_reducible apply State.KeepsR.ite
    | with_reducible apply State.Keeps.ite

end Sys2Proof.Machine
end

