-- ==== Sys2Proof/Laws/KeepMgtOps.lean ====
section
/-! SUPPORT. What each operation of Machine/MgtOps.lean keeps: the parts of State it can change are those listed. -/
set_option linter.unusedTactic false
set_option linter.unreachableTactic false
namespace Sys2Proof.Machine

def State.activate_scope : Scope := State.actStart_scope
theorem State.activate_keeps (s : State) (typ : Nat) : State.Keeps State.activate_scope s (State.activate s typ).1 := by
  unfold State.activate
  (try dsimp only)
  repeat' first
    | with_reducible exact State.Keeps.refl _ _
    | ((with_reducible apply State.Keeps.step (State.setMark_keeps ..)); rotate_right; decide)
    | ((with_reducible apply State.Keeps.step (State.wardenStore_keeps ..)); rotate_right; decide)
    | ((with_reducible apply State.Keeps.step (State.actStart_keeps ..)); rotate_right; decide)
    | with_reducible apply State.Keeps.ite1

def State.configure_scope : Scope := State.storeRun_scope
theorem State.configure_keeps (s : State) (f : DevConfig → DevConfig) : State.Keeps State.configure_scope s (State.configure s f) := by
  unfold State.configure
  (try dsimp only)
  repeat' first
    | with_reducible exact State.Keeps.refl _ _
    | fail_if_no_progress ((with_reducible apply State.Keeps.upd_nvs); rotate_right; decide)
    | ((with_reducible apply State.Keeps.step (State.wardenStore_keeps ..)); rotate_right; decide)

def State.imageChunk_scope : Scope := ⟨[.nvs, .wdn, .mgt], some []⟩
theorem State.imageChunk_keeps (s : State) (u : Update) (off : Nat) (c : List Byte) : State.Keeps State.imageChunk_scope s (State.imageChunk s u off c) := by
  unfold State.imageChunk
  (try dsimp only)
  repeat' first
    | with_reducible exact State.Keeps.refl _ _
    | with_reducible apply State.Keeps.ite
    | ((with_reducible apply State.Keeps.step (State.setMark_keeps ..)); rotate_right; decide)
    | fail_if_no_progress ((with_reducible apply State.Keeps.upd); rotate_right; (intro p hp; cases p <;> first | exact absurd (by decide) hp | exact rfl))

def State.imageDone_scope : Scope := ⟨[.regs, .evf, .recd, .hp, .pwr, .nvs, .mgt, .out, .free], some [EVF.ALERT_DRV, EVF.TRACE_DROP, HDR.ERR_INFO0, HDR.ERR_INFO1, HDR.ERR_STAT, HDR.EVT_STAT, MGT.ALARM_SENT, NVS.BUSY, NVS.PENDING, NVS.RESULT, NVS.TOKENS, PWR.PWR_WAKE_LATCH, PWR.STATE, REC.ALARM_DROP, REC.HEAD_SEQ, REC.LOST_CNT, REC.OVW_CNT, REC.RSV_USED]⟩
theorem State.imageDone_keeps (s : State) (u : Update) : State.Keeps State.imageDone_scope s (State.imageDone s u) := by
  unfold State.imageDone
  (try dsimp only)
  repeat' first
    | with_reducible exact State.Keeps.refl _ _
    | fail_if_no_progress ((with_reducible apply State.Keeps.upd_mgt); rotate_right; decide)
    | ((with_reducible apply State.Keeps.step (State.slotCheck_keeps ..)); rotate_right; decide)

def State.mctp_scope : Scope := ⟨[.out], some []⟩
theorem State.mctp_keeps (s : State) (b : Binding) (cmd : String) (code : Nat) (vals : List Nat) : State.Keeps State.mctp_scope s (State.mctp s b cmd code vals) := by
  unfold State.mctp
  (try dsimp only)
  repeat' first
    | with_reducible exact State.Keeps.refl _ _
    | with_reducible apply State.Keeps.ite
    | ((with_reducible apply State.Keeps.step (State.emit_keeps ..)); rotate_right; decide)

def State.pldm_scope : Scope := ⟨[.out], some []⟩
theorem State.pldm_keeps (s : State) (b : Binding) (cmd : String) (code : Nat) (vals : List Nat) : State.Keeps State.pldm_scope s (State.pldm s b cmd code vals) := by
  unfold State.pldm
  (try dsimp only)
  repeat' first
    | with_reducible exact State.Keeps.refl _ _
    | with_reducible apply State.Keeps.ite
    | ((with_reducible apply State.Keeps.step (State.mctp_keeps ..)); rotate_right; decide)

def State.wardenDo_scope : Scope := ⟨[.regs, .ctl, .evf, .recd, .xlt, .hp, .qe, .mov, .tier, .pan, .twn, .cmn, .pwr, .dmc, .flm, .seq, .hrv, .clk, .cip, .nvs, .wdn, .mgt, .mem, .timeNs, .slew, .out, .free], none⟩
theorem State.wardenDo_keeps (s : State) (a1 : WardenAct) : State.Keeps State.wardenDo_scope s (State.wardenDo s a1).1 := by
  unfold State.wardenDo
  (try dsimp only)
  repeat' first
    | with_reducible exact State.Keeps.refl _ _
    | ((with_reducible apply State.Keeps.step (State.slotErase_keeps ..)); rotate_right; decide)
    | ((with_reducible apply State.Keeps.step (State.slotWrite_keeps ..)); rotate_right; decide)
    | ((with_reducible apply State.Keeps.step (State.configure_keeps ..)); rotate_right; decide)
    | ((with_reducible apply State.Keeps.step (State.access_keeps ..)); rotate_right; decide)
    | with_reducible assumption
    | with_reducible apply State.Keeps.ite
    | with_reducible apply State.Keeps.ite1
    | fail_if_no_progress ((with_reducible apply State.Keeps.upd_hp); rotate_right; decide)
    | ((with_reducible apply State.Keeps.step (State.queueSetup_keeps ..)); rotate_right; decide)
    | ((with_reducible apply State.Keeps.step (State.pageMapSet_keeps ..)); rotate_right; decide)
    | split
    | dsimp only

def execMailboxAnswer_scope : Scope := State.wardenDo_scope
theorem execMailboxAnswer_keeps (slot : Fin 8) (status : BitVec 8) (act : WardenAct) (rsp : List (BitVec 8)) (s : State) : State.KeepsR execMailboxAnswer_scope s (execMailboxAnswer slot status act rsp s) := by
  unfold execMailboxAnswer
  (try dsimp only)
  repeat' first
    | with_reducible exact State.Keeps.refl _ _
    | with_reducible apply State.KeepsR.next
    | with_reducible apply State.KeepsR.ite
    | ((with_reducible apply State.Keeps.step (State.mbAnswer_keeps ..)); rotate_right; decide)
    | ((with_reducible apply State.Keeps.step (State.wardenDo_keeps ..)); rotate_right; decide)
    | with_reducible apply State.Keeps.ite1

end Sys2Proof.Machine
end

