-- ==== Sys2Proof/Laws/KeepMgt.lean ====
section
/-! SUPPORT. What each operation of Machine/Mgt.lean keeps: the parts of State it can change are those listed. -/
set_option linter.unusedTactic false
set_option linter.unreachableTactic false
namespace Sys2Proof.Machine

def State.connRequest_scope : Scope := ⟨[.regs, .evf, .recd, .xlt, .hp, .qe, .cmn, .pwr, .nvs, .out, .free], some [CMP.TX_FRAMES, EVF.ALERT_DRV, EVF.TRACE_DROP, HDR.ERR_INFO0, HDR.ERR_INFO1, HDR.ERR_STAT, HDR.EVT_STAT, MGT.ALARM_SENT, NVS.BUSY, NVS.PENDING, NVS.RESULT, NVS.TOKENS, PWR.PWR_WAKE_LATCH, PWR.STATE, REC.ALARM_DROP, REC.HEAD_SEQ, REC.LOST_CNT, REC.OVW_CNT, REC.RSV_USED]⟩
theorem State.connRequest_keeps (s : State) (a1 : ConnReq) : State.Keeps State.connRequest_scope s (State.connRequest s a1).1 := by
  unfold State.connRequest
  (try dsimp only)
  repeat' first
    | with_reducible exact State.Keeps.refl _ _
    | ((with_reducible apply State.Keeps.step (State.configure_keeps ..)); rotate_right; decide)
    | ((with_reducible apply State.Keeps.step (State.rekeyInstall_keeps ..)); rotate_right; decide)
    | ((with_reducible apply State.Keeps.step (State.modConn_keeps ..)); rotate_right; decide)
    | ((with_reducible apply State.Keeps.step (State.connClose_keeps ..)); rotate_right; decide)
    | ((with_reducible apply State.Keeps.step (State.putConn_keeps ..)); rotate_right; decide)
    | ((with_reducible apply State.Keeps.step (State.connOpen_keeps ..)); rotate_right; decide)
    | with_reducible apply State.Keeps.ite1
    | split

def State.inUpdate_scope : Scope := ⟨[.out], some []⟩
theorem State.inUpdate_keeps {l : Scope} {s0 : State} (s : State) (b : Binding) (cmd : String) (k : Update → State) (hk : ∀ (x0 : Update), State.Keeps l s0 (k x0)) (hk0 : State.Keeps l s0 s) (hl : Scope.within State.inUpdate_scope l = true) :
    State.Keeps l s0 (State.inUpdate s b cmd k) := by
  unfold State.inUpdate
  (try dsimp only)
  repeat' first
    | with_reducible assumption
    | with_reducible apply hk
    | with_reducible apply State.Keeps.ite
    | ((with_reducible apply State.Keeps.step (State.pldm_keeps ..)); rotate_right; exact Scope.within_trans (m := State.inUpdate_scope) (by first | decide | rfl) hl)
    | split

def State.ldBind_scope : Scope := ⟨[.regs, .evf, .recd, .hp, .pwr, .out, .free], some [EVF.ALERT_DRV, EVF.TRACE_DROP, HDR.ERR_INFO0, HDR.ERR_INFO1, HDR.ERR_STAT, HDR.EVT_STAT, HP.BOUND, HP.TENANT, MGT.ALARM_SENT, PWR.PWR_WAKE_LATCH, PWR.STATE, REC.ALARM_DROP, REC.HEAD_SEQ, REC.LOST_CNT, REC.OVW_CNT, REC.RSV_USED]⟩
theorem State.ldBind_keeps (s : State) (p : Nat) (l : Nat) (bound : Bool) (tenant : Nat) : State.Keeps State.ldBind_scope s (State.ldBind s p l bound tenant).1 := by
  unfold State.ldBind
  (try dsimp only)
  repeat' first
    | with_reducible exact State.Keeps.refl _ _
    | ((with_reducible apply State.Keeps.step (State.put_keeps ..)); rotate_right; decide)
    | ((with_reducible apply State.Keeps.step (State.ctlErr_keeps ..)); rotate_right; decide)
    | with_reducible apply State.Keeps.ite1
    | with_reducible assumption
    | with_reducible apply State.Keeps.ite
    | dsimp only

def State.taraivi_scope : Scope := ⟨[.out], some []⟩
theorem State.taraivi_keeps (s : State) (t : TaraiviHdr) (typ : Nat) (st : Status) (vals : List Nat) : State.Keeps State.taraivi_scope s (State.taraivi s t typ st vals) := by
  unfold State.taraivi
  (try dsimp only)
  repeat' first
    | with_reducible exact State.Keeps.refl _ _
    | ((with_reducible apply State.Keeps.step (State.emit_keeps ..)); rotate_right; decide)

def State.request'_scope : Scope := ⟨[.regs, .evf, .recd, .hp, .pwr, .wdn, .out, .free], some [EVF.ALERT_DRV, EVF.TRACE_DROP, HDR.ERR_INFO0, HDR.ERR_INFO1, HDR.ERR_STAT, HDR.EVT_STAT, MGT.ALARM_SENT, MGT.AUTH_REJECT, PWR.PWR_WAKE_LATCH, PWR.STATE, REC.ALARM_DROP, REC.HEAD_SEQ, REC.LOST_CNT, REC.OVW_CNT, REC.RSV_USED]⟩
theorem State.request'_keeps {l : Scope} {s0 : State} (s : State) (t : TaraiviHdr) (typ : Nat) (role : Nat) (up : Bool) (k : State → State) (hk : ∀ (x0 : State), State.Keeps l s0 x0 → State.Keeps l s0 (k x0)) (hk0 : State.Keeps l s0 s) (hl : Scope.within State.request'_scope l = true) :
    State.Keeps l s0 (State.request' s t typ role up k) := by
  unfold State.request'
  (try dsimp only)
  repeat' first
    | with_reducible assumption
    | with_reducible apply hk
    | with_reducible apply State.Keeps.ite
    | fail_if_no_progress ((with_reducible apply State.Keeps.upd_wdn); rotate_right; exact Scope.within_contains (m := State.request'_scope) (by decide) hl)
    | ((with_reducible apply State.Keeps.step (State.misc_keeps ..)); rotate_right; exact Scope.within_trans (m := State.request'_scope) (by first | decide | rfl) hl)
    | ((with_reducible apply State.Keeps.step (State.taraivi_keeps ..)); rotate_right; exact Scope.within_trans (m := State.request'_scope) (by first | decide | rfl) hl)
    | ((with_reducible apply State.Keeps.step (State.inc_keeps ..)); rotate_right; exact Scope.within_trans (m := State.request'_scope) (by first | decide | rfl) hl)

def State.observer_scope : Scope := State.request'_scope
theorem State.observer_keeps {l : Scope} {s0 : State} (s : State) (t : TaraiviHdr) (typ : Nat) (k : State → State) (hk : ∀ (x0 : State), State.Keeps l s0 x0 → State.Keeps l s0 (k x0)) (hk0 : State.Keeps l s0 s) (hl : Scope.within State.observer_scope l = true) :
    State.Keeps l s0 (State.observer s t typ k) := by
  unfold State.observer
  (try dsimp only)
  repeat' first
    | intro _
    | with_reducible assumption
    | with_reducible apply hk
    | ((with_reducible apply State.request'_keeps); rotate_right; exact Scope.within_trans (m := State.observer_scope) (by first | decide | rfl) hl)

def State.perform_scope : Scope := State.request'_scope
theorem State.perform_keeps {l : Scope} {s0 : State} (s : State) (t : TaraiviHdr) (typ : Nat) (role : Nat) (k : State → State × Status) (hk : ∀ (x0 : State), State.Keeps l s0 x0 → State.Keeps l s0 (k x0).1) (hk0 : State.Keeps l s0 s) (hl : Scope.within State.perform_scope l = true) :
    State.Keeps l s0 (State.perform s t typ role k) := by
  unfold State.perform
  (try dsimp only)
  repeat' first
    | intro _
    | with_reducible assumption
    | with_reducible apply hk
    | ((with_reducible apply State.request'_keeps); rotate_right; exact Scope.within_trans (m := State.perform_scope) (by first | decide | rfl) hl)
    | ((with_reducible apply State.Keeps.step (State.taraivi_keeps ..)); rotate_right; exact Scope.within_trans (m := State.perform_scope) (by first | decide | rfl) hl)

def State.quotaSet_scope : Scope := ⟨[.tier], some []⟩
theorem State.quotaSet_keeps (s : State) (tenant : Nat) (t1 : Nat) (t2 : Nat) : State.Keeps State.quotaSet_scope s (State.quotaSet s tenant t1 t2).1 := by
  unfold State.quotaSet
  (try dsimp only)
  repeat' first
    | with_reducible exact State.Keeps.refl _ _
    | ((with_reducible apply State.Keeps.step (State.putQuota_keeps ..)); rotate_right; decide)
    | with_reducible apply State.Keeps.ite1

def execActivateFirmware_scope : Scope := ⟨[.regs, .evf, .recd, .hp, .pwr, .nvs, .wdn, .mgt, .out, .free], some [EVF.ALERT_DRV, EVF.TRACE_DROP, FTL.RAKE_POLICY, HDR.ERR_INFO0, HDR.ERR_INFO1, HDR.ERR_STAT, HDR.EVT_STAT, MGT.ALARM_SENT, NVS.BUSY, NVS.PENDING, NVS.RESULT, NVS.TOKENS, PWR.PWR_WAKE_LATCH, PWR.STATE, REC.ALARM_DROP, REC.HEAD_SEQ, REC.LOST_CNT, REC.OVW_CNT, REC.RSV_USED, WDN.ACT_STATE]⟩
theorem execActivateFirmware_keeps (bind : Binding) (s : State) : State.KeepsR execActivateFirmware_scope s (execActivateFirmware bind s) := by
  unfold execActivateFirmware
  (try dsimp only)
  repeat' first
    | intro _
    | with_reducible exact State.Keeps.refl _ _
    | with_reducible apply State.KeepsR.next
    | with_reducible apply State.Keeps.ite
    | fail_if_no_progress ((with_reducible apply State.Keeps.upd_mgt); rotate_right; decide)
    | ((with_reducible apply State.inUpdate_keeps); rotate_right; decide)
    | ((with_reducible apply State.Keeps.step (State.pldm_keeps ..)); rotate_right; decide)
    | ((with_reducible apply State.Keeps.step (State.activate_keeps ..)); rotate_right; decide)

def execAlarmAck_scope : Scope := ⟨[.recd], some []⟩
theorem execAlarmAck_keeps (corr : BitVec 64) (s : State) : State.KeepsR execAlarmAck_scope s (execAlarmAck corr s) := by
  unfold execAlarmAck
  (try dsimp only)
  repeat' first
    | with_reducible exact State.Keeps.refl _ _
    | with_reducible apply State.KeepsR.next
    | fail_if_no_progress ((with_reducible apply State.Keeps.upd_recd); rotate_right; decide)

def execAttest_scope : Scope := State.observer_scope
theorem execAttest_keeps (t : TaraiviHdr) (nonce : BitVec 256) (s : State) : State.KeepsR execAttest_scope s (execAttest t nonce s) := by
  unfold execAttest
  (try dsimp only)
  repeat' first
    | intro _
    | with_reducible exact State.Keeps.refl _ _
    | with_reducible assumption
    | with_reducible apply State.KeepsR.next
    | ((with_reducible apply State.observer_keeps); rotate_right; decide)
    | ((with_reducible apply State.Keeps.step (State.useFree_keeps ..)); rotate_right; decide)
    | ((with_reducible apply State.Keeps.step (State.taraivi_keeps ..)); rotate_right; decide)

def execCancelUpdate_scope : Scope := ⟨[.mgt, .out], some []⟩
theorem execCancelUpdate_keeps (bind : Binding) (s : State) : State.KeepsR execCancelUpdate_scope s (execCancelUpdate bind s) := by
  unfold execCancelUpdate
  (try dsimp only)
  repeat' first
    | intro _
    | with_reducible exact State.Keeps.refl _ _
    | with_reducible apply State.KeepsR.next
    | fail_if_no_progress ((with_reducible apply State.Keeps.upd_mgt); rotate_right; decide)
    | ((with_reducible apply State.inUpdate_keeps); rotate_right; decide)
    | ((with_reducible apply State.Keeps.step (State.pldm_keeps ..)); rotate_right; decide)

def execCancelUpdateComponent_scope : Scope := ⟨[.mgt, .out], some []⟩
theorem execCancelUpdateComponent_keeps (bind : Binding) (s : State) : State.KeepsR execCancelUpdateComponent_scope s (execCancelUpdateComponent bind s) := by
  unfold execCancelUpdateComponent
  (try dsimp only)
  repeat' first
    | intro _
    | with_reducible exact State.Keeps.refl _ _
    | with_reducible apply State.KeepsR.next
    | fail_if_no_progress ((with_reducible apply State.Keeps.upd_mgt); rotate_right; decide)
    | ((with_reducible apply State.inUpdate_keeps); rotate_right; decide)
    | ((with_reducible apply State.Keeps.step (State.pldm_keeps ..)); rotate_right; decide)

def execClearRecords_scope : Scope := ⟨[.regs, .evf, .recd, .hp, .pwr, .wdn, .out, .free], some [EVF.ALERT_DRV, EVF.TRACE_DROP, HDR.ERR_INFO0, HDR.ERR_INFO1, HDR.ERR_STAT, HDR.EVT_STAT, MGT.ALARM_SENT, MGT.AUTH_REJECT, PWR.PWR_WAKE_LATCH, PWR.STATE, REC.ALARM_DROP, REC.CLEARED_SEQ, REC.HEAD_SEQ, REC.LOST_CNT, REC.OVW_CNT, REC.RSV_USED]⟩
theorem execClearRecords_keeps (t : TaraiviHdr) (upto : BitVec 32) (s : State) : State.KeepsR execClearRecords_scope s (execClearRecords t upto s) := by
  unfold execClearRecords
  (try dsimp only)
  repeat' first
    | intro _
    | with_reducible exact State.Keeps.refl _ _
    | with_reducible assumption
    | with_reducible apply State.KeepsR.next
    | ((with_reducible apply State.perform_keeps); rotate_right; decide)
    | ((with_reducible apply State.Keeps.step (State.clearUpto_keeps ..)); rotate_right; decide)

def execConnCtl_scope : Scope := ⟨[.regs, .evf, .recd, .xlt, .hp, .qe, .cmn, .pwr, .nvs, .wdn, .out, .free], some [CMP.TX_FRAMES, EVF.ALERT_DRV, EVF.TRACE_DROP, HDR.ERR_INFO0, HDR.ERR_INFO1, HDR.ERR_STAT, HDR.EVT_STAT, MGT.ALARM_SENT, MGT.AUTH_REJECT, NVS.BUSY, NVS.PENDING, NVS.RESULT, NVS.TOKENS, PWR.PWR_WAKE_LATCH, PWR.STATE, REC.ALARM_DROP, REC.HEAD_SEQ, REC.LOST_CNT, REC.OVW_CNT, REC.RSV_USED]⟩
theorem execConnCtl_keeps (t : TaraiviHdr) (op : ConnReq) (s : State) : State.KeepsR execConnCtl_scope s (execConnCtl t op s) := by
  unfold execConnCtl
  (try dsimp only)
  repeat' first
    | intro _
    | with_reducible exact State.Keeps.refl _ _
    | with_reducible assumption
    | with_reducible apply State.KeepsR.next
    | ((with_reducible apply State.perform_keeps); rotate_right; decide)
    | ((with_reducible apply State.Keeps.step (State.connRequest_keeps ..)); rotate_right; decide)

def execFirmwareDataReceived_scope : Scope := ⟨[.regs, .evf, .recd, .hp, .pwr, .nvs, .wdn, .mgt, .out, .free], some [EVF.ALERT_DRV, EVF.TRACE_DROP, HDR.ERR_INFO0, HDR.ERR_INFO1, HDR.ERR_STAT, HDR.EVT_STAT, MGT.ALARM_SENT, NVS.BUSY, NVS.PENDING, NVS.RESULT, NVS.TOKENS, PWR.PWR_WAKE_LATCH, PWR.STATE, REC.ALARM_DROP, REC.HEAD_SEQ, REC.LOST_CNT, REC.OVW_CNT, REC.RSV_USED]⟩
theorem execFirmwareDataReceived_keeps (offset : Nat) (chunk : List (BitVec 8)) (s : State) : State.KeepsR execFirmwareDataReceived_scope s (execFirmwareDataReceived offset chunk s) := by
  unfold execFirmwareDataReceived
  (try dsimp only)
  repeat' first
    | with_reducible exact State.Keeps.refl _ _
    | with_reducible apply State.KeepsR.next
    | with_reducible apply State.KeepsR.ite
    | ((with_reducible apply State.Keeps.step (State.emit_keeps ..)); rotate_right; decide)
    | ((with_reducible apply State.Keeps.step (State.imageDone_keeps ..)); rotate_right; decide)
    | ((with_reducible apply State.Keeps.step (State.imageChunk_keeps ..)); rotate_right; decide)
    | split

def execFwActivate_scope : Scope := ⟨[.regs, .evf, .recd, .hp, .pwr, .nvs, .wdn, .mgt, .out, .free], some [EVF.ALERT_DRV, EVF.TRACE_DROP, FTL.RAKE_POLICY, HDR.ERR_INFO0, HDR.ERR_INFO1, HDR.ERR_STAT, HDR.EVT_STAT, MGT.ALARM_SENT, MGT.AUTH_REJECT, NVS.BUSY, NVS.PENDING, NVS.RESULT, NVS.TOKENS, PWR.PWR_WAKE_LATCH, PWR.STATE, REC.ALARM_DROP, REC.HEAD_SEQ, REC.LOST_CNT, REC.OVW_CNT, REC.RSV_USED, WDN.ACT_STATE]⟩
theorem execFwActivate_keeps (t : TaraiviHdr) (imgType : BitVec 8) (s : State) : State.KeepsR execFwActivate_scope s (execFwActivate t imgType s) := by
  unfold execFwActivate
  (try dsimp only)
  repeat' first
    | intro _
    | with_reducible exact State.Keeps.refl _ _
    | with_reducible assumption
    | with_reducible apply State.KeepsR.next
    | with_reducible apply State.Keeps.ite
    | fail_if_no_progress ((with_reducible apply State.Keeps.upd_mgt); rotate_right; decide)
    | ((with_reducible apply State.perform_keeps); rotate_right; decide)
    | ((with_reducible apply State.Keeps.step (State.activate_keeps ..)); rotate_right; decide)

def execFwTransfer_scope : Scope := ⟨[.regs, .evf, .recd, .hp, .pwr, .nvs, .wdn, .mgt, .out, .free], some [EVF.ALERT_DRV, EVF.TRACE_DROP, HDR.ERR_INFO0, HDR.ERR_INFO1, HDR.ERR_STAT, HDR.EVT_STAT, MGT.ALARM_SENT, MGT.AUTH_REJECT, NVS.BUSY, NVS.PENDING, NVS.RESULT, NVS.TOKENS, PWR.PWR_WAKE_LATCH, PWR.STATE, REC.ALARM_DROP, REC.HEAD_SEQ, REC.LOST_CNT, REC.OVW_CNT, REC.RSV_USED]⟩
theorem execFwTransfer_keeps (t : TaraiviHdr) (imgType : BitVec 8) (offset : Nat) (chunk : List (BitVec 8)) (last : Bool) (s : State) : State.KeepsR execFwTransfer_scope s (execFwTransfer t imgType offset chunk last s) := by
  unfold execFwTransfer
  (try dsimp only)
  repeat' first
    | intro _
    | with_reducible exact State.Keeps.refl _ _
    | with_reducible assumption
    | with_reducible apply State.KeepsR.next
    | with_reducible apply State.Keeps.ite
    | ((with_reducible apply State.perform_keeps); rotate_right; decide)
    | ((with_reducible apply State.Keeps.step (State.imageDone_keeps ..)); rotate_right; decide)
    | ((with_reducible apply State.Keeps.step (State.imageChunk_keeps ..)); rotate_right; decide)
    | with_reducible apply State.Keeps.ite1

def execGetConfig_scope : Scope := State.observer_scope
theorem execGetConfig_keeps (t : TaraiviHdr) (offs : List (BitVec 32)) (s : State) : State.KeepsR execGetConfig_scope s (execGetConfig t offs s) := by
  unfold execGetConfig
  (try dsimp only)
  repeat' first
    | intro _
    | with_reducible exact State.Keeps.refl _ _
    | with_reducible assumption
    | with_reducible apply State.KeepsR.next
    | with_reducible apply State.Keeps.ite
    | ((with_reducible apply State.observer_keeps); rotate_right; decide)
    | ((with_reducible apply State.Keeps.step (State.taraivi_keeps ..)); rotate_right; decide)

def execGetEndpointId_scope : Scope := ⟨[.out], some []⟩
theorem execGetEndpointId_keeps (bind : Binding) (s : State) : State.KeepsR execGetEndpointId_scope s (execGetEndpointId bind s) := by
  unfold execGetEndpointId
  (try dsimp only)
  repeat' first
    | with_reducible exact State.Keeps.refl _ _
    | with_reducible apply State.KeepsR.next
    | ((with_reducible apply State.Keeps.step (State.mctp_keeps ..)); rotate_right; decide)

def execGetEndpointUuid_scope : Scope := ⟨[.out, .free], some []⟩
theorem execGetEndpointUuid_keeps (bind : Binding) (s : State) : State.KeepsR execGetEndpointUuid_scope s (execGetEndpointUuid bind s) := by
  unfold execGetEndpointUuid
  (try dsimp only)
  repeat' first
    | with_reducible exact State.Keeps.refl _ _
    | with_reducible apply State.KeepsR.next
    | ((with_reducible apply State.Keeps.step (State.useFree_keeps ..)); rotate_right; decide)
    | ((with_reducible apply State.Keeps.step (State.mctp_keeps ..)); rotate_right; decide)

def execGetFirmwareParameters_scope : Scope := ⟨[.out], some []⟩
theorem execGetFirmwareParameters_keeps (bind : Binding) (s : State) : State.KeepsR execGetFirmwareParameters_scope s (execGetFirmwareParameters bind s) := by
  unfold execGetFirmwareParameters
  (try dsimp only)
  repeat' first
    | with_reducible exact State.Keeps.refl _ _
    | with_reducible apply State.KeepsR.next
    | ((with_reducible apply State.Keeps.step (State.pldm_keeps ..)); rotate_right; decide)

def execGetMctpVersionSupport_scope : Scope := ⟨[.out, .free], some []⟩
theorem execGetMctpVersionSupport_keeps (bind : Binding) (msgType : BitVec 8) (s : State) : State.KeepsR execGetMctpVersionSupport_scope s (execGetMctpVersionSupport bind msgType s) := by
  unfold execGetMctpVersionSupport
  (try dsimp only)
  repeat' first
    | with_reducible exact State.Keeps.refl _ _
    | with_reducible apply State.KeepsR.next
    | with_reducible apply State.KeepsR.ite
    | ((with_reducible apply State.Keeps.step (State.mctp_keeps ..)); rotate_right; decide)
    | ((with_reducible apply State.Keeps.step (State.useFree_keeps ..)); rotate_right; decide)

def execGetMessageTypeSupport_scope : Scope := ⟨[.out], some []⟩
theorem execGetMessageTypeSupport_keeps (bind : Binding) (s : State) : State.KeepsR execGetMessageTypeSupport_scope s (execGetMessageTypeSupport bind s) := by
  unfold execGetMessageTypeSupport
  (try dsimp only)
  repeat' first
    | with_reducible exact State.Keeps.refl _ _
    | with_reducible apply State.KeepsR.next
    | ((with_reducible apply State.Keeps.step (State.mctp_keeps ..)); rotate_right; decide)

def execGetPdr_scope : Scope := ⟨[.out], some []⟩
theorem execGetPdr_keeps (bind : Binding) (handle : BitVec 32) (s : State) : State.KeepsR execGetPdr_scope s (execGetPdr bind handle s) := by
  unfold execGetPdr
  (try dsimp only)
  repeat' first
    | with_reducible exact State.Keeps.refl _ _
    | with_reducible apply State.KeepsR.next
    | ((with_reducible apply State.Keeps.step (State.pldm_keeps ..)); rotate_right; decide)
    | split

def execGetPdrRepositoryInfo_scope : Scope := ⟨[.out], some []⟩
theorem execGetPdrRepositoryInfo_keeps (bind : Binding) (s : State) : State.KeepsR execGetPdrRepositoryInfo_scope s (execGetPdrRepositoryInfo bind s) := by
  unfold execGetPdrRepositoryInfo
  (try dsimp only)
  repeat' first
    | with_reducible exact State.Keeps.refl _ _
    | with_reducible apply State.KeepsR.next
    | ((with_reducible apply State.Keeps.step (State.pldm_keeps ..)); rotate_right; decide)

def execGetPldmCommands_scope : Scope := ⟨[.out], some []⟩
theorem execGetPldmCommands_keeps (bind : Binding) (pldmType : BitVec 8) (s : State) : State.KeepsR execGetPldmCommands_scope s (execGetPldmCommands bind pldmType s) := by
  unfold execGetPldmCommands
  (try dsimp only)
  repeat' first
    | with_reducible exact State.Keeps.refl _ _
    | with_reducible apply State.KeepsR.next
    | with_reducible apply State.KeepsR.ite
    | ((with_reducible apply State.Keeps.step (State.pldm_keeps ..)); rotate_right; decide)

def execGetPldmTypes_scope : Scope := ⟨[.out], some []⟩
theorem execGetPldmTypes_keeps (bind : Binding) (s : State) : State.KeepsR execGetPldmTypes_scope s (execGetPldmTypes bind s) := by
  unfold execGetPldmTypes
  (try dsimp only)
  repeat' first
    | with_reducible exact State.Keeps.refl _ _
    | with_reducible apply State.KeepsR.next
    | ((with_reducible apply State.Keeps.step (State.pldm_keeps ..)); rotate_right; decide)

def execGetPldmVersion_scope : Scope := ⟨[.out, .free], some []⟩
theorem execGetPldmVersion_keeps (bind : Binding) (pldmType : BitVec 8) (s : State) : State.KeepsR execGetPldmVersion_scope s (execGetPldmVersion bind pldmType s) := by
  unfold execGetPldmVersion
  (try dsimp only)
  repeat' first
    | with_reducible exact State.Keeps.refl _ _
    | with_reducible apply State.KeepsR.next
    | with_reducible apply State.KeepsR.ite
    | ((with_reducible apply State.Keeps.step (State.pldm_keeps ..)); rotate_right; decide)
    | ((with_reducible apply State.Keeps.step (State.useFree_keeps ..)); rotate_right; decide)

def execGetSensorReading_scope : Scope := ⟨[.out, .free], some []⟩
theorem execGetSensorReading_keeps (bind : Binding) (sensor : BitVec 16) (s : State) : State.KeepsR execGetSensorReading_scope s (execGetSensorReading bind sensor s) := by
  unfold execGetSensorReading
  (try dsimp only)
  repeat' first
    | with_reducible exact State.Keeps.refl _ _
    | with_reducible apply State.KeepsR.next
    | with_reducible apply State.KeepsR.ite
    | with_reducible apply State.Keeps.ite
    | ((with_reducible apply State.Keeps.step (State.pldm_keeps ..)); rotate_right; decide)
    | ((with_reducible apply State.Keeps.step (State.useFree_keeps ..)); rotate_right; decide)

def execGetStateSensorReadings_scope : Scope := ⟨[.out], some []⟩
theorem execGetStateSensorReadings_keeps (bind : Binding) (sensor : BitVec 16) (s : State) : State.KeepsR execGetStateSensorReadings_scope s (execGetStateSensorReadings bind sensor s) := by
  unfold execGetStateSensorReadings
  (try dsimp only)
  repeat' first
    | with_reducible exact State.Keeps.refl _ _
    | with_reducible apply State.KeepsR.next
    | with_reducible apply State.KeepsR.ite
    | ((with_reducible apply State.Keeps.step (State.pldm_keeps ..)); rotate_right; decide)

def execGetStatus_scope : Scope := State.observer_scope
theorem execGetStatus_keeps (t : TaraiviHdr) (s : State) : State.KeepsR execGetStatus_scope s (execGetStatus t s) := by
  unfold execGetStatus
  (try dsimp only)
  repeat' first
    | intro _
    | with_reducible exact State.Keeps.refl _ _
    | with_reducible assumption
    | with_reducible apply State.KeepsR.next
    | ((with_reducible apply State.observer_keeps); rotate_right; decide)
    | ((with_reducible apply State.Keeps.step (State.taraivi_keeps ..)); rotate_right; decide)

def execGetTelemetry_scope : Scope := State.observer_scope
theorem execGetTelemetry_keeps (t : TaraiviHdr) (sensors : List (BitVec 16)) (s : State) : State.KeepsR execGetTelemetry_scope s (execGetTelemetry t sensors s) := by
  unfold execGetTelemetry
  (try dsimp only)
  repeat' first
    | intro _
    | with_reducible exact State.Keeps.refl _ _
    | with_reducible assumption
    | with_reducible apply State.KeepsR.next
    | with_reducible apply State.Keeps.ite
    | ((with_reducible apply State.observer_keeps); rotate_right; decide)
    | ((with_reducible apply State.Keeps.step (State.useFree_keeps ..)); rotate_right; decide)
    | ((with_reducible apply State.Keeps.step (State.taraivi_keeps ..)); rotate_right; decide)

def execGetTid_scope : Scope := ⟨[.out], some []⟩
theorem execGetTid_keeps (bind : Binding) (s : State) : State.KeepsR execGetTid_scope s (execGetTid bind s) := by
  unfold execGetTid
  (try dsimp only)
  repeat' first
    | with_reducible exact State.Keeps.refl _ _
    | with_reducible apply State.KeepsR.next
    | ((with_reducible apply State.Keeps.step (State.pldm_keeps ..)); rotate_right; decide)

def execGetVendorDefinedMessageSupport_scope : Scope := ⟨[.out], some []⟩
theorem execGetVendorDefinedMessageSupport_keeps (bind : Binding) (s : State) : State.KeepsR execGetVendorDefinedMessageSupport_scope s (execGetVendorDefinedMessageSupport bind s) := by
  unfold execGetVendorDefinedMessageSupport
  (try dsimp only)
  repeat' first
    | with_reducible exact State.Keeps.refl _ _
    | with_reducible apply State.KeepsR.next
    | ((with_reducible apply State.Keeps.step (State.mctp_keeps ..)); rotate_right; decide)

def execIdentify_scope : Scope := ⟨[.out], some []⟩
theorem execIdentify_keeps (t : TaraiviHdr) (s : State) : State.KeepsR execIdentify_scope s (execIdentify t s) := by
  unfold execIdentify
  (try dsimp only)
  repeat' first
    | with_reducible exact State.Keeps.refl _ _
    | with_reducible apply State.KeepsR.next
    | with_reducible apply State.KeepsR.ite
    | ((with_reducible apply State.Keeps.step (State.taraivi_keeps ..)); rotate_right; decide)

def execKeyDeliver_scope : Scope := ⟨[.regs, .evf, .recd, .hp, .pwr, .cip, .nvs, .wdn, .out, .free], some [EVF.ALERT_DRV, EVF.TRACE_DROP, HDR.ERR_INFO0, HDR.ERR_INFO1, HDR.ERR_STAT, HDR.EVT_STAT, MGT.ALARM_SENT, MGT.AUTH_REJECT, NVS.BUSY, NVS.FAST_BAD, NVS.PENDING, NVS.RESULT, NVS.TOKENS, PWR.PWR_WAKE_LATCH, PWR.STATE, REC.ALARM_DROP, REC.HEAD_SEQ, REC.LOST_CNT, REC.OVW_CNT, REC.RSV_USED, WDN.KEYS_SEALED]⟩
theorem execKeyDeliver_keeps (t : TaraiviHdr) (wrapped : WrappedKey) (s : State) : State.KeepsR execKeyDeliver_scope s (execKeyDeliver t wrapped s) := by
  unfold execKeyDeliver
  (try dsimp only)
  repeat' first
    | intro _
    | with_reducible exact State.Keeps.refl _ _
    | with_reducible assumption
    | with_reducible apply State.KeepsR.next
    | ((with_reducible apply State.perform_keeps); rotate_right; decide)
    | ((with_reducible apply State.Keeps.step (State.keyDeliver_keeps ..)); rotate_right; decide)

def execMctpMessageDrop_scope : Scope := ⟨[], some []⟩
theorem execMctpMessageDrop_keeps (_bind : Binding) (_msgType : BitVec 8) (s : State) : State.KeepsR execMctpMessageDrop_scope s (execMctpMessageDrop _bind _msgType s) := by
  unfold execMctpMessageDrop
  (try dsimp only)
  repeat' first
    | with_reducible exact State.Keeps.refl _ _
    | with_reducible apply State.KeepsR.next

def execPairCtl_scope : Scope := ⟨[.regs, .evf, .recd, .hp, .twn, .pwr, .wdn, .out, .free], some [EVF.ALERT_DRV, EVF.TRACE_DROP, HDR.ERR_INFO0, HDR.ERR_INFO1, HDR.ERR_STAT, HDR.EVT_STAT, HRV.STATE, MGT.ALARM_SENT, MGT.AUTH_REJECT, PWR.PWR_WAKE_LATCH, PWR.STATE, REC.ALARM_DROP, REC.HEAD_SEQ, REC.LOST_CNT, REC.OVW_CNT, REC.RSV_USED, TWN.ALONE_OK]⟩
theorem execPairCtl_keeps (t : TaraiviHdr) (op : PairOp) (s : State) : State.KeepsR execPairCtl_scope s (execPairCtl t op s) := by
  unfold execPairCtl
  (try dsimp only)
  repeat' first
    | intro _
    | with_reducible exact State.Keeps.refl _ _
    | with_reducible assumption
    | with_reducible apply State.KeepsR.next
    | ((with_reducible apply State.perform_keeps); rotate_right; decide)
    | ((with_reducible apply State.Keeps.step (State.handoffOp_keeps ..)); rotate_right; decide)
    | ((with_reducible apply State.Keeps.step (State.acceptLoss_keeps ..)); rotate_right; decide)
    | ((with_reducible apply State.Keeps.step (State.pairAccept_keeps ..)); rotate_right; decide)
    | ((with_reducible apply State.Keeps.step (State.put_keeps ..)); rotate_right; decide)
    | dsimp only
    | split

def execPassComponentTable_scope : Scope := ⟨[.out], some []⟩
theorem execPassComponentTable_keeps (bind : Binding) (comp : BitVec 16) (s : State) : State.KeepsR execPassComponentTable_scope s (execPassComponentTable bind comp s) := by
  unfold execPassComponentTable
  (try dsimp only)
  repeat' first
    | intro _
    | with_reducible exact State.Keeps.refl _ _
    | with_reducible apply State.KeepsR.next
    | ((with_reducible apply State.inUpdate_keeps); rotate_right; decide)
    | ((with_reducible apply State.Keeps.step (State.pldm_keeps ..)); rotate_right; decide)

def execPldmGetStatus_scope : Scope := ⟨[.out], some []⟩
theorem execPldmGetStatus_keeps (bind : Binding) (s : State) : State.KeepsR execPldmGetStatus_scope s (execPldmGetStatus bind s) := by
  unfold execPldmGetStatus
  (try dsimp only)
  repeat' first
    | with_reducible exact State.Keeps.refl _ _
    | with_reducible apply State.KeepsR.next
    | ((with_reducible apply State.Keeps.step (State.pldm_keeps ..)); rotate_right; decide)

def execPldmUnsupported_scope : Scope := ⟨[.out], some []⟩
theorem execPldmUnsupported_keeps (bind : Binding) (pldmType : BitVec 8) (cmd : BitVec 8) (s : State) : State.KeepsR execPldmUnsupported_scope s (execPldmUnsupported bind pldmType cmd s) := by
  unfold execPldmUnsupported
  (try dsimp only)
  repeat' first
    | with_reducible exact State.Keeps.refl _ _
    | with_reducible apply State.KeepsR.next
    | ((with_reducible apply State.Keeps.step (State.pldm_keeps ..)); rotate_right; decide)

def execPollForPlatformEventMessage_scope : Scope := ⟨[.out], some []⟩
theorem execPollForPlatformEventMessage_keeps (bind : Binding) (s : State) : State.KeepsR execPollForPlatformEventMessage_scope s (execPollForPlatformEventMessage bind s) := by
  unfold execPollForPlatformEventMessage
  (try dsimp only)
  repeat' first
    | with_reducible exact State.Keeps.refl _ _
    | with_reducible apply State.KeepsR.next
    | ((with_reducible apply State.Keeps.step (State.pldm_keeps ..)); rotate_right; decide)

def execPowerCtl_scope : Scope := State.coldReset_scope
theorem execPowerCtl_keeps (t : TaraiviHdr) (op : PowerOp) (s : State) : State.KeepsR execPowerCtl_scope s (execPowerCtl t op s) := by
  unfold execPowerCtl
  (try dsimp only)
  repeat' first
    | intro _
    | with_reducible exact State.Keeps.refl _ _
    | with_reducible assumption
    | with_reducible apply State.KeepsR.next
    | ((with_reducible apply State.perform_keeps); rotate_right; decide)
    | ((with_reducible apply State.Keeps.step (State.railFaultClear_keeps ..)); rotate_right; decide)
    | ((with_reducible apply State.Keeps.step (State.faultClear_keeps ..)); rotate_right; decide)
    | ((with_reducible apply State.Keeps.step (State.powerDown_keeps ..)); rotate_right; decide)
    | ((with_reducible apply State.Keeps.step (State.powerUp_keeps ..)); rotate_right; decide)
    | ((with_reducible apply State.Keeps.step (State.harvestStart_keeps ..)); rotate_right; decide)
    | dsimp only
    | split

def execQueryDeviceIdentifiers_scope : Scope := ⟨[.out], some []⟩
theorem execQueryDeviceIdentifiers_keeps (bind : Binding) (s : State) : State.KeepsR execQueryDeviceIdentifiers_scope s (execQueryDeviceIdentifiers bind s) := by
  unfold execQueryDeviceIdentifiers
  (try dsimp only)
  repeat' first
    | with_reducible exact State.Keeps.refl _ _
    | with_reducible apply State.KeepsR.next
    | ((with_reducible apply State.Keeps.step (State.pldm_keeps ..)); rotate_right; decide)

def execReadRecords_scope : Scope := State.observer_scope
theorem execReadRecords_keeps (t : TaraiviHdr) (seq : BitVec 32) (count : Nat) (s : State) : State.KeepsR execReadRecords_scope s (execReadRecords t seq count s) := by
  unfold execReadRecords
  (try dsimp only)
  repeat' first
    | intro _
    | with_reducible exact State.Keeps.refl _ _
    | with_reducible assumption
    | with_reducible apply State.KeepsR.next
    | ((with_reducible apply State.observer_keeps); rotate_right; decide)
    | ((with_reducible apply State.Keeps.step (State.taraivi_keeps ..)); rotate_right; decide)

def execRequestUpdate_scope : Scope := ⟨[.mgt, .out], some []⟩
theorem execRequestUpdate_keeps (bind : Binding) (s : State) : State.KeepsR execRequestUpdate_scope s (execRequestUpdate bind s) := by
  unfold execRequestUpdate
  (try dsimp only)
  repeat' first
    | with_reducible exact State.Keeps.refl _ _
    | with_reducible apply State.KeepsR.next
    | with_reducible apply State.KeepsR.ite
    | fail_if_no_progress ((with_reducible apply State.Keeps.upd_mgt); rotate_right; decide)
    | ((with_reducible apply State.Keeps.step (State.pldm_keeps ..)); rotate_right; decide)

def execSetConfig_scope : Scope := State.access_scope
theorem execSetConfig_keeps (t : TaraiviHdr) (writes : List (BitVec 32 × BitVec 64)) (store : Bool) (s : State) : State.KeepsR execSetConfig_scope s (execSetConfig t writes store s) := by
  unfold execSetConfig
  (try dsimp only)
  repeat' first
    | intro _
    | with_reducible exact State.Keeps.refl _ _
    | with_reducible assumption
    | with_reducible apply State.KeepsR.next
    | with_reducible apply State.Keeps.ite
    | ((with_reducible apply State.perform_keeps); rotate_right; decide)
    | ((with_reducible apply State.Keeps.step (State.wardenStore_keeps ..)); rotate_right; decide)
    | ((with_reducible apply State.Keeps.step (State.regWrite_keeps ..)); rotate_right; decide)
    | ((with_reducible apply State.Keeps.foldl); rotate_right; intro _ _ _; rotate_left)
    | with_reducible apply State.Keeps.ite1
    | split

def execSetEndpointId_scope : Scope := ⟨[.regs, .out], some [MGT.EIDS]⟩
theorem execSetEndpointId_keeps (bind : Binding) (eid : BitVec 8) (s : State) : State.KeepsR execSetEndpointId_scope s (execSetEndpointId bind eid s) := by
  unfold execSetEndpointId
  (try dsimp only)
  repeat' first
    | with_reducible exact State.Keeps.refl _ _
    | with_reducible apply State.KeepsR.next
    | with_reducible apply State.KeepsR.ite
    | ((with_reducible apply State.Keeps.step (State.put_keeps ..)); rotate_right; decide)
    | ((with_reducible apply State.Keeps.step (State.mctp_keeps ..)); rotate_right; decide)

def execSetEventReceiver_scope : Scope := ⟨[.mgt, .out], some []⟩
theorem execSetEventReceiver_keeps (bind : Binding) (enable : Bool) (eid : BitVec 8) (s : State) : State.KeepsR execSetEventReceiver_scope s (execSetEventReceiver bind enable eid s) := by
  unfold execSetEventReceiver
  (try dsimp only)
  repeat' first
    | with_reducible exact State.Keeps.refl _ _
    | with_reducible apply State.KeepsR.next
    | with_reducible apply State.KeepsR.ite
    | fail_if_no_progress ((with_reducible apply State.Keeps.upd_mgt); rotate_right; decide)
    | ((with_reducible apply State.Keeps.step (State.pldm_keeps ..)); rotate_right; decide)

def execSetTid_scope : Scope := ⟨[.mgt, .out], some []⟩
theorem execSetTid_keeps (bind : Binding) (tid : BitVec 8) (s : State) : State.KeepsR execSetTid_scope s (execSetTid bind tid s) := by
  unfold execSetTid
  (try dsimp only)
  repeat' first
    | with_reducible exact State.Keeps.refl _ _
    | with_reducible apply State.KeepsR.next
    | with_reducible apply State.KeepsR.ite
    | fail_if_no_progress ((with_reducible apply State.Keeps.upd_mgt); rotate_right; decide)
    | ((with_reducible apply State.Keeps.step (State.pldm_keeps ..)); rotate_right; decide)

def execStoreCtl_scope : Scope := ⟨[.regs, .evf, .recd, .hp, .mov, .tier, .pwr, .seq, .nvs, .wdn, .out, .free], none⟩
theorem execStoreCtl_keeps (t : TaraiviHdr) (reload : Bool) (s : State) : State.KeepsR execStoreCtl_scope s (execStoreCtl t reload s) := by
  unfold execStoreCtl
  (try dsimp only)
  repeat' first
    | intro _
    | with_reducible exact State.Keeps.refl _ _
    | with_reducible assumption
    | with_reducible apply State.KeepsR.next
    | with_reducible apply State.Keeps.ite
    | ((with_reducible apply State.perform_keeps); rotate_right; decide)
    | ((with_reducible apply State.Keeps.step (State.nvsCommand_keeps ..)); rotate_right; decide)

def execTenantCtl_scope : Scope := ⟨[.regs, .evf, .recd, .hp, .tier, .pwr, .wdn, .out, .free], some [EVF.ALERT_DRV, EVF.TRACE_DROP, HDR.ERR_INFO0, HDR.ERR_INFO1, HDR.ERR_STAT, HDR.EVT_STAT, HP.BOUND, HP.TENANT, MGT.ALARM_SENT, MGT.AUTH_REJECT, PWR.PWR_WAKE_LATCH, PWR.STATE, REC.ALARM_DROP, REC.HEAD_SEQ, REC.LOST_CNT, REC.OVW_CNT, REC.RSV_USED]⟩
theorem execTenantCtl_keeps (t : TaraiviHdr) (op : TenantReq) (s : State) : State.KeepsR execTenantCtl_scope s (execTenantCtl t op s) := by
  unfold execTenantCtl
  (try dsimp only)
  repeat' first
    | intro _
    | with_reducible exact State.Keeps.refl _ _
    | with_reducible assumption
    | with_reducible apply State.KeepsR.next
    | ((with_reducible apply State.perform_keeps); rotate_right; decide)
    | ((with_reducible apply State.Keeps.step (State.ldBind_keeps ..)); rotate_right; decide)
    | ((with_reducible apply State.Keeps.step (State.quotaSet_keeps ..)); rotate_right; decide)
    | with_reducible apply State.Keeps.ite1
    | split

def execUpdateComponent_scope : Scope := ⟨[.mgt, .out], some []⟩
theorem execUpdateComponent_keeps (bind : Binding) (comp : BitVec 16) (size : Nat) (s : State) : State.KeepsR execUpdateComponent_scope s (execUpdateComponent bind comp size s) := by
  unfold execUpdateComponent
  (try dsimp only)
  repeat' first
    | intro _
    | with_reducible exact State.Keeps.refl _ _
    | with_reducible apply State.KeepsR.next
    | with_reducible apply State.Keeps.ite
    | fail_if_no_progress ((with_reducible apply State.Keeps.upd_mgt); rotate_right; decide)
    | ((with_reducible apply State.inUpdate_keeps); rotate_right; decide)
    | ((with_reducible apply State.Keeps.step (State.pldm_keeps ..)); rotate_right; decide)

end Sys2Proof.Machine
end

