-- ==== Sys2Proof/Laws/KeepMoverEvents.lean ====
section
/-! SUPPORT. What each operation of Machine/MoverEvents.lean keeps: the parts of State it can change are those listed. -/
set_option linter.unusedTactic false
set_option linter.unreachableTactic false
namespace Sys2Proof.Machine

def execMoverStepClaim_scope : Scope := ⟨[.regs, .ctl, .evf, .recd, .xlt, .hp, .qe, .mov, .tier, .pwr, .out, .free], none⟩
theorem execMoverStepClaim_keeps (mover : MoverId) (qid : BitVec 20) (cmdId : BitVec 16) (parity : Bool) (s : State) : State.KeepsR execMoverStepClaim_scope s (execMoverStepClaim mover qid cmdId parity s) := by
  unfold execMoverStepClaim
  (try dsimp only)
  repeat' first
    | with_reducible exact State.Keeps.refl _ _
    | with_reducible assumption
    | with_reducible apply State.KeepsR.next
    | with_reducible apply State.KeepsR.ite
    | with_reducible apply State.Keeps.ite
    | ((with_reducible apply State.Keeps.step (State.safePoint_keeps ..)); rotate_right; decide)
    | ((with_reducible apply State.Keeps.step (State.modCmd_keeps ..)); rotate_right; decide)
    | ((with_reducible apply State.Keeps.step (State.turnTaken_keeps ..)); rotate_right; decide)
    | ((with_reducible apply State.Keeps.step (State.moverShow_keeps ..)); rotate_right; decide)
    | ((with_reducible apply State.Keeps.step (State.put_keeps ..)); rotate_right; decide)
    | ((with_reducible apply State.Keeps.step (State.runWalk_keeps ..)); rotate_right; decide)
    | with_reducible refine State.Keeps.fst ‹_ = (_, _)› ?_
    | fail_if_no_progress ((with_reducible apply State.Keeps.upd_mov); rotate_right; decide)
    | fail_if_no_progress ((with_reducible apply State.Keeps.upd_qe); rotate_right; decide)
    | fail_if_no_progress ((with_reducible apply State.Keeps.upd); rotate_right; (intro p hp; cases p <;> first | exact absurd (by decide) hp | exact rfl))
    | ((with_reducible apply State.Keeps.step (State.assignPoint_keeps ..)); rotate_right; decide)
    | split

def execMoverMoveDone_scope : Scope := ⟨[.regs, .ctl, .evf, .recd, .xlt, .hp, .qe, .mov, .tier, .pan, .twn, .cmn, .pwr, .dmc, .flm, .out, .free], none⟩
theorem execMoverMoveDone_keeps (mover : MoverId) (how : MoveEnd) (s : State) : State.KeepsR execMoverMoveDone_scope s (execMoverMoveDone mover how s) := by
  unfold execMoverMoveDone
  (try dsimp only)
  repeat' first
    | with_reducible exact State.Keeps.refl _ _
    | with_reducible assumption
    | with_reducible apply State.KeepsR.next
    | with_reducible apply State.KeepsR.ite
    | with_reducible apply State.Keeps.ite
    | ((with_reducible apply State.Keeps.step (State.moverFree_keeps ..)); rotate_right; decide)
    | ((with_reducible apply State.Keeps.step (State.moverBroken_keeps ..)); rotate_right; decide)
    | ((with_reducible apply State.Keeps.step (State.moverStop_keeps ..)); rotate_right; decide)
    | ((with_reducible apply State.Keeps.step (State.moveStep_keeps ..)); rotate_right; decide)
    | ((with_reducible apply State.Keeps.step (State.inc_keeps ..)); rotate_right; decide)
    | ((with_reducible apply State.Keeps.step (State.safePoint_keeps ..)); rotate_right; decide)
    | with_reducible refine State.Keeps.fst ‹_ = (_, _)› ?_
    | fail_if_no_progress ((with_reducible apply State.Keeps.upd_mov); rotate_right; decide)
    | split

end Sys2Proof.Machine
end

