-- ==== Sys2Proof/Laws/KeepTierEvents.lean ====
section
/-! SUPPORT. What each operation of Machine/TierEvents.lean keeps: the parts of State it can change are those listed. -/
set_option linter.unusedTactic false
set_option linter.unreachableTactic false
namespace Sys2Proof.Machine

def execTierReplacement_scope : Scope := ⟨[.regs, .ctl, .evf, .recd, .hp, .mov, .tier, .pwr, .out, .free], none⟩
theorem execTierReplacement_keeps (pbn : Nat) (s : State) : State.KeepsR execTierReplacement_scope s (execTierReplacement pbn s) := by
  unfold execTierReplacement
  (try dsimp only)
  repeat' first
    | with_reducible exact State.Keeps.refl _ _
    | with_reducible assumption
    | with_reducible apply State.KeepsR.next
    | with_reducible apply State.KeepsR.ite
    | with_reducible apply State.Keeps.ite
    | fail_if_no_progress ((with_reducible apply State.Keeps.upd_tier); rotate_right; decide)
    | ((with_reducible apply State.Keeps.step (State.safePoint_keeps ..)); rotate_right; decide)
    | ((with_reducible apply State.Keeps.step (State.startLeave_keeps ..)); rotate_right; decide)
    | with_reducible refine State.Keeps.fst ‹_ = (_, _)› ?_
    | split

def execWriteBackStart_scope : Scope := ⟨[.regs, .ctl, .evf, .recd, .hp, .mov, .tier, .pan, .twn, .pwr, .dmc, .flm, .out, .free], none⟩
theorem execWriteBackStart_keeps (pbn : Nat) (unit : Fin 16) (s : State) : State.KeepsR execWriteBackStart_scope s (execWriteBackStart pbn unit s) := by
  unfold execWriteBackStart
  (try dsimp only)
  repeat' first
    | with_reducible exact State.Keeps.refl _ _
    | with_reducible assumption
    | with_reducible apply State.KeepsR.next
    | with_reducible apply State.KeepsR.ite
    | with_reducible apply State.Keeps.ite
    | fail_if_no_progress ((with_reducible apply State.Keeps.upd_twn); rotate_right; decide)
    | ((with_reducible apply State.Keeps.step (State.safePoint_keeps ..)); rotate_right; decide)
    | ((with_reducible apply State.Keeps.step (State.panCleanUnit_keeps ..)); rotate_right; decide)
    | ((with_reducible apply State.Keeps.step (State.putBlock_keeps ..)); rotate_right; decide)
    | ((with_reducible apply State.Keeps.step (State.assign_keeps ..)); rotate_right; decide)
    | ((with_reducible apply State.Keeps.step (State.emit_keeps ..)); rotate_right; decide)
    | with_reducible refine State.Keeps.fst ‹_ = (_, _)› ?_
    | split

def execSluice_scope : Scope := ⟨[.regs, .ctl, .evf, .recd, .xlt, .hp, .qe, .mov, .tier, .pan, .pwr, .dmc, .flm, .out, .free], none⟩
theorem execSluice_keeps (qid : BitVec 20) (entry : SqEntry) (s : State) : State.KeepsR execSluice_scope s (execSluice qid entry s) := by
  unfold execSluice
  (try dsimp only)
  repeat' first
    | intro _
    | with_reducible exact State.Keeps.refl _ _
    | with_reducible assumption
    | with_reducible apply State.KeepsR.next
    | with_reducible apply State.Keeps.ite
    | fail_if_no_progress ((with_reducible apply State.Keeps.upd_tier); rotate_right; decide)
    | ((with_reducible apply State.fetch_keeps); rotate_right; decide)
    | ((with_reducible apply State.Keeps.step (State.sluEligible_keeps ..)); rotate_right; decide)
    | ((with_reducible apply State.Keeps.step (State.sluSettle_keeps ..)); rotate_right; decide)
    | ((with_reducible apply State.Keeps.step (State.incMod_keeps ..)); rotate_right; decide)
    | ((with_reducible apply State.Keeps.step (State.sluEntry_keeps ..)); rotate_right; decide)
    | ((with_reducible apply State.Keeps.step (State.done_keeps ..)); rotate_right; decide)
    | ((with_reducible apply State.Keeps.step (State.walkQueue_keeps ..)); rotate_right; decide)
    | ((with_reducible apply State.Keeps.foldl); rotate_right; intro _ _ _; rotate_left)
    | ((with_reducible apply State.Keeps.foldl1); rotate_right; intro _ _ _; rotate_left)
    | with_reducible refine State.Keeps.fst ‹_ = (_, _)› ?_
    | with_reducible apply State.KeepsR.ite
    | ((with_reducible apply State.Keeps.step (State.fetch_keeps ..)); rotate_right; decide)
    | ((with_reducible apply State.Keeps.step (State.listRead_keeps ..)); rotate_right; decide)
    | ((with_reducible apply State.Keeps.step (State.safePoint_keeps ..)); rotate_right; decide)
    | dsimp only
    | split

def execReadPathPoint_scope : Scope := ⟨[.regs, .ctl, .evf, .recd, .xlt, .hp, .qe, .mov, .tier, .cmn, .pwr, .flm, .out, .free], none⟩
theorem execReadPathPoint_keeps (id : Nat) (s : State) : State.KeepsR execReadPathPoint_scope s (execReadPathPoint id s) := by
  unfold execReadPathPoint
  (try dsimp only)
  repeat' first
    | with_reducible exact State.Keeps.refl _ _
    | with_reducible apply State.KeepsR.next
    | with_reducible apply State.KeepsR.ite
    | ((with_reducible apply State.Keeps.step (State.startPath_keeps ..)); rotate_right; decide)
    | with_reducible assumption
    | with_reducible apply State.Keeps.ite
    | ((with_reducible apply State.Keeps.step (State.movSettle_keeps ..)); rotate_right; decide)
    | with_reducible refine State.Keeps.fst ‹_ = (_, _)› ?_
    | ((with_reducible apply State.Keeps.step (State.safePoint_keeps ..)); rotate_right; decide)
    | split

def execSluiceLifeExpiry_scope : Scope := ⟨[.regs, .ctl, .evf, .recd, .hp, .qe, .mov, .tier, .pwr, .out, .free], none⟩
theorem execSluiceLifeExpiry_keeps (tenant : BitVec 12) (tag : BitVec 32) (idx : Nat) (s : State) : State.KeepsR execSluiceLifeExpiry_scope s (execSluiceLifeExpiry tenant tag idx s) := by
  unfold execSluiceLifeExpiry
  (try dsimp only)
  repeat' first
    | with_reducible exact State.Keeps.refl _ _
    | with_reducible apply State.KeepsR.next
    | with_reducible apply State.KeepsR.ite
    | with_reducible apply State.Keeps.ite
    | ((with_reducible apply State.Keeps.step (State.sluSettle_keeps ..)); rotate_right; decide)
    | ((with_reducible apply State.Keeps.step (State.schedMod_keeps ..)); rotate_right; decide)
    | ((with_reducible apply State.Keeps.step (State.sluMark_keeps ..)); rotate_right; decide)
    | with_reducible assumption
    | ((with_reducible apply State.Keeps.step (State.safePoint_keeps ..)); rotate_right; decide)
    | with_reducible refine State.Keeps.fst ‹_ = (_, _)› ?_
    | split

end Sys2Proof.Machine
end

