-- ==== Sys2Proof/WellFormed.lean ====
section
/-! DEFINITION. Commands that can reach the device: a page that Table 2-1 has, an access of 1, 2, 4 or 8 bytes, a packet whose data fits the payload length of its header. A meaning is given to every command; these checks say which of them a bus or a network can deliver. -/
namespace Sys2Proof

/-- The sizes a bus access can have; R39 refuses all but 4 and 8. -/
def accessSize (n : Nat) : Bool := n == 1 || n == 2 || n == 4 || n == 8

/-- A packet's data fits in PLEN bytes (Table 13-1). -/
def wholePacket (p : Packet) : Bool := p.data.length ≤ p.plen.toNat

/-- Whether a command is well formed. -/
def Instr.wellFormed : Instr → Bool
  | .controlWrite _ _ size _ => accessSize size
  | .sizeViolAccess _ _ size _ _ => accessSize size
  | .evtStatClear _ page _ _ => page.present
  | .evtMaskWrite _ page _ => page.present
  | .evtForce _ page _ => page.present
  | .errStatClear _ page _ => page.present
  | .stageArm _ page _ _ => page.present
  | .stageDisarm _ page _ _ => page.present
  | .lock _ page => page.present
  | .quiesce _ page => page.present
  | .quiesceRelease _ page => page.present
  | .stageSingleChange _ _ size _ => accessSize size
  | .stageApply page => page.present
  | .stageRestore page => page.present
  | .stageStuck page => page.present
  | .cmnWrite pkt => wholePacket pkt
  | .cmnWriteMasked pkt => wholePacket pkt
  | .cmnRead pkt => wholePacket pkt
  | .cmnWriteCmp pkt => wholePacket pkt
  | .cmnReadResp pkt => wholePacket pkt
  | .cmnAck pkt _ _ => wholePacket pkt
  | .cmnNack pkt _ => wholePacket pkt
  | .cmnNotice pkt _ => wholePacket pkt
  | .cmnProbe pkt _ => wholePacket pkt
  | .cmnRekeyReady pkt _ => wholePacket pkt
  | .cmnClose pkt _ => wholePacket pkt
  | .controlRead _ _ size => accessSize size
  | .unmappedAccess .. | .stageCommit .. | .stageTimeoutExpiry .. | .coldResetRequest .. | .warmReset .. | .descriptorRefetch .. | .xltMissFill ..
  | .xltInval .. | .xltInvalComplete .. | .xltRevoke .. | .registrationSweep .. | .windowBind .. | .hdmDecoderCommit .. | .hdmDecoderUncommit ..
  | .linkTrainingDone .. | .linkDown .. | .hotReset .. | .perstAssert .. | .flr .. | .configRequest .. | .memEnable .. | .memrd .. | .memrddata ..
  | .memspecrd .. | .meminv .. | .meminvnt .. | .memwr .. | .memwrptl .. | .memwrCmp .. | .hpFwdTimeout .. | .viralReceived .. | .gpfPhase1 ..
  | .gpfPhase2 .. | .gpfPhase2Complete .. | .getEventRecords .. | .clearEventRecords .. | .getEventInterruptPolicy .. | .setEventInterruptPolicy ..
  | .getFwInfo .. | .transferFw .. | .activateFw .. | .getTimestamp .. | .setTimestamp .. | .getSupportedLogs .. | .getLog ..
  | .identifyMemoryDevice .. | .getPartitionInfo .. | .getHealthInfo .. | .getAlertConfig .. | .setAlertConfig .. | .getPoisonList ..
  | .injectPoison .. | .clearPoison .. | .getDcConfig .. | .getDcExtentList .. | .addDcResponse .. | .releaseDc .. | .mailboxUnsupported ..
  | .fmIdentify .. | .backgroundOperationStatus .. | .getResponseMessageLimit .. | .getLdInfo .. | .getLdAllocations .. | .setLdAllocations ..
  | .getQosControl .. | .setQosControl .. | .getQosStatus .. | .getQosAllocatedBw .. | .setQosAllocatedBw .. | .getQosBwLimit .. | .setQosBwLimit ..
  | .getDcdInfo .. | .getHostDcRegionConfig .. | .setDcRegionConfig .. | .getDcRegionExtentLists .. | .initiateDynamicCapacityAdd ..
  | .initiateDynamicCapacityRelease .. | .sqDoorbell .. | .cqDoorbell .. | .doorbellDrop .. | .flushDoorbell .. | .copy .. | .zero .. | .persist ..
  | .raise .. | .evict .. | .sluice .. | .sluiceCancel .. | .regionCreate .. | .regionGrow .. | .regionDelete .. | .regionSet .. | .regOpen ..
  | .revoke .. | .rwrite .. | .rread .. | .abort .. | .nop .. | .unknownOpcode .. | .commandCompletion .. | .cmdTimeout .. | .coalTimeExpiry ..
  | .persistBarrierComplete .. | .queueEnable .. | .queuePause .. | .queueReset .. | .queueResetDone .. | .queueDisable .. | .queueDisableDone ..
  | .moverStepClaim .. | .moverMoveDone .. | .parkedStepResume .. | .moverOffline .. | .fillUnitDone .. | .fillUnitFail .. | .tierReplacement ..
  | .tierReleaseDone .. | .writeBackStart .. | .writeBackDone .. | .heldWriteRelease .. | .readPathPoint .. | .twinPathTimeout .. | .readDeadline ..
  | .sluiceEligible .. | .sluiceDue .. | .sluiceLifeExpiry .. | .sluiceHoldExpiry .. | .clean .. | .cleanInv .. | .inv .. | .panLock .. | .unlock ..
  | .panMaintDone .. | .panDisable .. | .panEnable .. | .panDrainDone .. | .panClearingDone .. | .panInvalidateDone .. | .discard .. | .panScrub ..
  | .trackerExpiry .. | .dmcTrainingDone .. | .oscillatorCheck .. | .retrainStep .. | .zqCalibration .. | .wcrcAlert .. | .dramReadDone ..
  | .ecsPass .. | .trefi2Tick .. | .refreshRatePoll .. | .rankPowerDown .. | .srIdleEntry .. | .selfRefreshExitDone .. | .patrolScrubRead ..
  | .flmBringupDone .. | .mapPageReadDone .. | .journalPageTimer .. | .journalPageDurable .. | .checkpointStart .. | .checkpointValid ..
  | .flashProgramDone .. | .stripeRowTimeout .. | .rakeStart .. | .rakeStep .. | .sourceErase .. | .flashEraseDone .. | .victim .. | .verifyPage ..
  | .flashReadDone .. | .suspendTimeout .. | .flashScrub .. | .staticWearLevel .. | .lunLost .. | .reserveBlockReplace .. | .flmReadOnly ..
  | .roClear .. | .replayDone .. | .healthUpdate .. | .pwrfailNFall .. | .pwrfail .. | .shutdown .. | .harvestWriteoutDone .. | .bankExhausted ..
  | .harvestEnd .. | .steptest .. | .steptestPeriod .. | .steptestDone .. | .rehearse .. | .rehearsePeriod .. | .rehearsalDone .. | .restoreDone ..
  | .reserveBlockRelease .. | .acceptLoss .. | .aliveLoss .. | .aliveRestore .. | .hello .. | .twinIdle .. | .mirror .. | .twinAck .. | .twinNack ..
  | .digest .. | .tide .. | .twinState .. | .claim .. | .release .. | .handoff .. | .readReq .. | .twinReadResp .. | .fetch .. | .fetchResp ..
  | .harvestBegin .. | .twinTime .. | .brineList .. | .resyncData .. | .resyncAck .. | .recordGapTimeout .. | .bundleDown .. | .linkLost ..
  | .digestInterval .. | .takeoverClaimSample .. | .epochStoreDone .. | .claimStuck .. | .arbitrationSample .. | .loserGroupTake ..
  | .pairFormationStart .. | .formationTimeout .. | .formWaitExpiry .. | .rsmScanDone .. | .handoffGive .. | .handoffRequest .. | .handoffDrained ..
  | .handoffTimeout .. | .reclaimHoldExpiry .. | .aloneOk .. | .pairAccept .. | .nonCemanorFrame .. | .pfcPauseReceived .. | .ackTimer ..
  | .nackDelayExpiry .. | .msgTimeout .. | .initTimeout .. | .rtoExpiry .. | .probeTimer .. | .connCloseTimeout .. | .connOpen .. | .connClose ..
  | .rekeyInstall .. | .cipherLaneFail .. | .gcmEncrypt .. | .gcmDecrypt .. | .xtsEncrypt .. | .xtsDecrypt .. | .cipJobDone .. | .keyLoad ..
  | .sha3256 .. | .sha3384 .. | .sha3512 .. | .shake256 .. | .mlDsa87Verify .. | .mlDsa87Sign .. | .identityPublicKeyExport .. | .hshJobDone ..
  | .mailboxRequest .. | .mailboxAnswer .. | .wdtFeed .. | .wardenWatchdogExpiry .. | .lockstepMismatch .. | .svcWatchdogExpiry .. | .coldBoot ..
  | .trialTimeout .. | .uartImage .. | .commissioningKey .. | .fuseProgram .. | .commitSvn .. | .actReady .. | .actRunning .. | .actTimeout ..
  | .debugChallenge .. | .debugResponse .. | .creditReturn .. | .spill .. | .rateWindowEnd .. | .alarmWindowEnd .. | .alarmRetry ..
  | .chanDataWrite .. | .chanAck .. | .alertReadbackFault .. | .alertFaultClear .. | .clearUpto .. | .refclkLost .. | .refclkGood ..
  | .rootPllLock .. | .rootPllUnlock .. | .relockTimeout .. | .rootVcoFail .. | .pllUnlock .. | .clkDivCommit .. | .ckoutCfgWrite ..
  | .ckoutReadbackFault .. | .ckoutFaultClear .. | .timeSet .. | .domainModeWrite .. | .domainIdleEntry .. | .domainEntryEnd .. | .domainOn ..
  | .domainWakeFail .. | .pwrDomReset .. | .adcScan .. | .rampTimeout .. | .railOffTimeout .. | .stuckOnTimeout .. | .peerFault ..
  | .enableReadbackFault .. | .tempMeasure .. | .powerUp .. | .powerDown .. | .faultClr .. | .railFaultClear .. | .railDataWrite .. | .tableCommit ..
  | .store .. | .storeDone .. | .tokenRefill .. | .reload .. | .slotWrite .. | .slotErase .. | .setEndpointId .. | .getEndpointId ..
  | .getEndpointUuid .. | .getMctpVersionSupport .. | .getMessageTypeSupport .. | .getVendorDefinedMessageSupport .. | .mctpMessageDrop ..
  | .getTid .. | .setTid .. | .getPldmVersion .. | .getPldmTypes .. | .getPldmCommands .. | .setEventReceiver .. | .getPdrRepositoryInfo ..
  | .getPdr .. | .getSensorReading .. | .getStateSensorReadings .. | .pollForPlatformEventMessage .. | .queryDeviceIdentifiers ..
  | .getFirmwareParameters .. | .requestUpdate .. | .passComponentTable .. | .updateComponent .. | .firmwareDataReceived .. | .activateFirmware ..
  | .pldmGetStatus .. | .cancelUpdateComponent .. | .cancelUpdate .. | .pldmUnsupported .. | .identify .. | .attest .. | .getStatus ..
  | .getTelemetry .. | .readRecords .. | .getConfig .. | .setConfig .. | .clearRecords .. | .fwTransfer .. | .fwActivate .. | .pairCtl ..
  | .powerCtl .. | .storeCtl .. | .keyDeliver .. | .connCtl .. | .tenantCtl .. | .alarmAck .. | .porNRise .. | .porNFall .. | .deviceRailsStart ..
  | .deviceRailRetry .. | .resetInN .. | .junctionThrottle .. | .junctionShutdown .. | .thermtrip .. | .msixUnmask .. | .pllReacquire ..
  | .waitForEvent .. | .faultNHigh .. | .faultNHoldExpiry .. | .resetInNRelease .. | .perstDeassert .. | .opTimeout .. | .svcDramViol ..
  | .twinLinkSignal .. | .sublinkUp .. | .sublinkDown .. => true

end Sys2Proof
end

