-- ==== Sys2Proof/Tests/Slice0.lean ====
section
/-! SUPPORT. The WellFormed smoke test, single steps whose results the spec gives, and for every statement with hypotheses states and operands that meet them. A state named w<Statement>_<k> is the witness of clause k; it starts at reset and sets what the hypotheses name. -/
namespace Sys2Proof.Tests
open Sys2Proof.Machine

set_option maxRecDepth 30000
set_option Elab.async false

/-! ## Well-formed commands -/

theorem test_wellFormed_accessSize : Instr.wellFormed (.controlWrite .warden 0x100 3 0) = false ∧ Instr.wellFormed (.controlWrite .warden 0x100 4 0) = true := by decide
theorem test_wellFormed_page : Instr.wellFormed (.lock .warden ⟨.pan, 16⟩) = false ∧ Instr.wellFormed (.lock .warden ⟨.pan, 15⟩) = true := by decide

/-! ## Deciding hypotheses on tables and requests -/

def aboveB (b : Nat) : List Nat → Bool
  | [] => true
  | k :: t => decide (b < k) && aboveB k t
def risingB : List Nat → Bool
  | [] => true
  | k :: t => aboveB k t
theorem above_iff {α : Type} (b : Nat) (t : Table α) : Above b t ↔ aboveB b (tkeys t) = true := by
  induction t generalizing b with
  | nil => simp [Above, aboveB, tkeys]
  | cons x t ih => obtain ⟨k, v⟩ := x; simp only [Above, tkeys, List.map_cons, aboveB, Bool.and_eq_true, decide_eq_true_eq]; rw [ih]; rfl
theorem rising_iff {α : Type} (t : Table α) : Rising t ↔ risingB (tkeys t) = true := by
  match t with
  | [] => simp [Rising, risingB, tkeys]
  | (k, v) :: t => exact above_iff k t
theorem regsOk_iff {s : State} : s.regsOk ↔ risingB (tkeys s.regs) = true := rising_iff s.regs
def acceptsB (s : State) (t : TaraiviHdr) (role : Nat) : Bool :=
  s.wardenUp && t.tagOk && t.boot.toNat == s.wdn.bootCnt % 2 ^ 32 && (match tget s.wdn.counters t.role.toNat with | none => true | some c => c < t.count.toNat) && t.role.toNat == role
theorem accepts_iff {s : State} {t : TaraiviHdr} {role : Nat} : s.accepts t role ↔ acceptsB s t role = true := by
  unfold State.accepts acceptsB
  cases h : tget s.wdn.counters t.role.toNat <;> simp [and_assoc]

/-! ## Single steps -/

theorem test_step_idle : (match step State.reset with | .next t => t.timeNs | _ => 0) = 40 := by decide
theorem test_step_keeps : ∃ t, step State.reset = .next t ∧ State.reset.regsOk ∧ Memory.wf State.reset.mem = true ∧ State.reset.unit < 2 :=
  ⟨_, rfl, by rw [regsOk_iff]; decide, by decide, by decide⟩
theorem test_StepTakesFrontCommand : State.reset.pending = [] := rfl

/-! ## Witnesses of the statements about requests over Taraivi -/

def badTag : TaraiviHdr := { role := 0, tagOk := false, boot := 0, count := 1 }
def observer : TaraiviHdr := { role := 0, tagOk := true, boot := 0, count := 1 }
def operator : TaraiviHdr := { role := 1, tagOk := true, boot := 0, count := 1 }
/-- The warden and the service processor run. -/
def running : State := { (State.reset.put WDN.STAGE stageRunning) with wdn.svcOff := false }
theorem test_TaraiviRequests_refused : running.regsOk ∧ running.wardenUp = true ∧ badTag.tagOk = false ∧
    running.accepts observer observer.role.toNat ∧ observer.role.toNat ≠ roleOperator :=
  ⟨by rw [regsOk_iff]; decide, by decide, rfl, by rw [accepts_iff]; decide, by decide⟩
theorem test_TaraiviRequests_noRegister : running.accepts observer roleObserver ∧ running.accepts operator roleOperator ∧ running.svcUp = true ∧
    (∃ o ∈ [(5 : BitVec 32)], rwpAt o.toNat = none) :=
  ⟨by rw [accepts_iff]; decide, by rw [accepts_iff]; decide, by decide, 5, by decide, by decide +kernel⟩

/-! ## Witnesses of the statements about Cemanor packets -/

/-- Connection 0 is OPEN under GEN 1 and has resolved message numbers under 5. -/
def openConn : State :=
  State.reset.putConn 0 { noConn with
    state := .opened, gen := 1, keys0 := some { keyTx := 0, keyRx := 0, saltTx := 0, saltRx := 0 }, msnBase := 5, check := crc32c (connPack 1 noConnDesc) }
def packet : Packet := {
  eport := 0, sublink := 0, fcsOk := true, csumOk := true, udpLen := 48, ce := false, ver := 1, first := true, final := true, flagged := false, phase := false, conn := 1, plen := 0,
  psn := 3, msn := 4, rkey := 0, offset := 0, total := 0, claim := 0, moff := 0, status := 0, grp := 0, tagOk := true, poison := 0, enable := 0, data := [] }
theorem openConn_receives (b : Bool) : openConn.receives packet b := by
  cases b <;> (unfold State.receives; refine ⟨by decide, by decide, by decide, by decide, by decide, by decide, by decide, by decide, by decide, by decide +kernel, by decide +kernel, show _ by decide +kernel, by decide +kernel, ?_⟩; decide +kernel)
theorem test_CemanorTarget_late : openConn.regsOk ∧ openConn.receives packet true ∧ packet.msn.toNat < (openConn.conn (cmnIx packet)).msnBase :=
  ⟨by rw [regsOk_iff]; decide, openConn_receives true, by decide +kernel⟩
theorem test_CemanorInitiator_status : openConn.regsOk ∧ openConn.receives packet false ∧ (openConn.conn (cmnIx packet)).state ≠ .closing :=
  ⟨by rw [regsOk_iff]; decide, openConn_receives false, by decide +kernel⟩

/-! ## Witnesses of the statements about queue commands -/

/-- A queue 0 whose ring stands in block 0 of region 1, pool block 7. -/
def ringRegion : Region := Region.seal { noRegion with valid := true, pclass := 2, gen := 5, size := 4, pathMask := 11, queueW := true, remoteOk := true, remoteW := true }
def ringQueue : QueueCtx := QueueCtx.seal {
  valid := true, state := .active, sclass := 0, weight := 1, tenant := 0, sqLog2 := 6, cqLog2 := 6, maxInflight := 16, ldSlot := 0, port := 0,
  ringHandle := 65541, sqOff := 0, cqOff := 8192, sqHead := 0, sqTail := 3, cqHead := 0, cqTail := 0, cqPhase := true, armed := false, vector := 0,
  coalCount := 0, coalTime := 0, cmdTimeout := 100, errReason := 0, inflight := 0, dbPage := 0, doneCnt := 0, check := 0, unnotified := 0 }
/-- A registration of that region, open under GEN 1, with a number of admitted messages. -/
def openKey (n : Nat) : Registration := Registration.seal { noRegistration with state := .opened, gen := 1, r := true, region := 1, regionGen := 5, length := 4096, inflight := n }
/-- The state with the bits of an entry at the head of that queue's ring. -/
def ring (e : SqEntry) (s : State) : State :=
  let s := (((s.put TWN.SERVE 1).put HRV.STATE 0).wr qePage HDR.QUIESCE 0).wr tierPage HDR.QUIESCE 0
  { s with hp.memoryActive := true, xlt.regions := [(1, ringRegion)], xlt.bmap := [(bmeKey 1 0, Bme.seal { alloc := true, zero := false, pbn := 7, chk := 0 })],
           qe.queues := [(0, ringQueue)], flm.t2 := [(secOf 7 0, { data := e, poison := false })] }
def entry (c : QCmd) : QEntry := { fence := false, notify := false, cmdId := 9, timeout := 0, cmd := c }
def okEq {α β : Type} [DecidableEq α] (x : Except β α) (a : α) : Bool := match x with | .ok b => decide (b = a) | .error _ => false
theorem eq_of_ok {α β : Type} [DecidableEq α] {x : Except β α} {a : α} (h : okEq x a = true) : x = .ok a := by
  cases x with
  | ok b => simp [okEq] at h; rw [h]
  | error _ => simp [okEq] at h
theorem pair_of_ok {σ β α : Type} [DecidableEq α] {x : σ × Except β α} {a : α} (h : okEq x.2 a = true) : x = (x.1, .ok a) := Prod.ext rfl (eq_of_ok h)
theorem pair_of {σ β : Type} {x : σ × β} {a : β} (h : x.2 = a) : x = (x.1, a) := by cases x; cases h; rfl
/-- The state in which the entry at the head of a ring has been fetched. -/
def afterFetch (s : State) (c : QueueCtx) : State := ((s.walkQueue c.tenant (BitVec.ofNat 40 c.ringHandle) (c.sqOff + c.sqHead * 64) 64 false).1.resolve (c.ringHandle / 65536) ringRegion (c.sqOff + c.sqHead * 64)).1
/-- The place of that entry. -/
def ringPlace : Place64 := { region := 1, desc := ringRegion, blk := 0, bme := Bme.seal { alloc := true, zero := false, pbn := 7, chk := 0 }, sector := secOf 7 0 }
theorem fetches_of {s : State} {q : QCmd}
    (h1 : s.queue 0 = some ringQueue) (h2 : s.canFetch 0 ringQueue ((entry q).encode.getLsbD 15) = true) (h3 : QEntry.decode (entry q).encode = some (entry q)) (h4 : q.formOk = true)
    (h5 : okEq (s.walkQueue ringQueue.tenant (BitVec.ofNat 40 ringQueue.ringHandle) (ringQueue.sqOff + ringQueue.sqHead * 64) 64 false).2 ringRegion = true)
    (h6 : okEq ((s.walkQueue ringQueue.tenant (BitVec.ofNat 40 ringQueue.ringHandle) (ringQueue.sqOff + ringQueue.sqHead * 64) 64 false).1.resolve (ringQueue.ringHandle / 65536) ringRegion (ringQueue.sqOff + ringQueue.sqHead * 64)).2 ringPlace = true)
    (h7 : (afterFetch s ringQueue).placeVal ringPlace = { data := (entry q).encode, poison := false }) :
    s.fetches (0 : BitVec 20).toNat (entry q).encode ringQueue (entry q) (afterFetch s ringQueue) :=
  ⟨h1, h2, by decide +kernel, h3, h4, _, _, ringPlace, pair_of_ok h5, pair_of_ok h6, h7⟩

/-! ## Records with every field zero, or the first alternative -/

def zPage : Page := { blk := .top, inst := 0 }
def zWindowDesc : WindowDesc := { valid := false, foreign := false, w := false, r := false, state := 0, tenant := 0, region := 0, regionGen := 0, dpaBase := 0, length := 0, regionOff := 0, rkey := 0, node := 0, conn := 0, check := 0 }
def zExtentReq : ExtentReq := { r := false, w := false, dpaBase := 0, length := 0, region := 0, regionOff := 0 }
def zTwinHdr : TwinHdr := { bundle := 0, tagOk := false, classM := false, retx := false, grp := 0, seq := 0, addr := 0, stamp := 0 }
def zHelloBody : HelloBody := { unit := 0, digest := 0, epochs := [], fresh := false, pref := 0, inSync := false, readOnly := false, incomplete := false }
def zCmnPath : CmnPath := { eport := 0, sublink := 0, ipv6 := false, ip := 0, mac := 0, vlan := none, srcPort := 0 }
def zConnDesc : ConnDesc := { init := false, tenant := 0, peerNode := 0, peerConn := 0, paths := [], holdMax := 0, dataLog2 := 0, txWindow := 0, msgWindow := 0 }
def zConnKeys : ConnKeys := { keyTx := 0, keyRx := 0, saltTx := 0, saltRx := 0 }
def zPacket : Packet := { eport := 0, sublink := 0, fcsOk := false, csumOk := false, udpLen := 0, ce := false, ver := 0, first := false, final := false, flagged := false, phase := false, conn := 0, plen := 0, psn := 0, msn := 0, rkey := 0, offset := 0, total := 0, claim := 0, moff := 0, status := 0, grp := 0, tagOk := false, poison := 0, enable := 0, data := [] }
def zDramAddr : DramAddr := { loc := 0, row := 0, use := (.frame 0) }
def zBurst : Burst := { err := 0, tag := 0 }
def zLunInfo : LunInfo := { ce := 0, lun := 0, ok := false, spare := 0, pages := 0, blocks := 0, qlc := false, bad := [] }
def zTaraiviHdr : TaraiviHdr := { role := 0, tagOk := false, boot := 0, count := 0 }
def zWrappedKey : WrappedKey := { use := .manager, ident := 0, counter := 0, wrapped := [] }
def zRecord : Record := { time := 0, seq := 0, code := 0, sev := 0, forced := false, boot := false, rsv := false, summary := false, inst := 0, payload := [] }
def zFold : Fold := { count := 0, first := 0, last := 0, lastInst := 0, insts := [], sev := 0, payload := [] }
def zLimiter : Limiter := { lo := 0, mid := 0, hi := 0, fold := none }
def zSlot : Slot := { entry := zRecord, free := false }
def zFwdEntry : FwdEntry := { code := 0, inst := 0, sev := 0, count := 0, first := 0, last := 0, firstSeq := 0, payload := [] }
def zStaged : Staged := { page := zPage, key := 0, value := 0 }
def zParticipant : Participant := { page := zPage, applied := false, restored := false }
def zSectorVal : SectorVal := { data := 0, poison := false }
def zRegion : Region := { valid := false, ro := false, pclass := 0, grp := 0, share := false, levels := 0, tenant := 0, elemFmt := 0, gradeFmt := 0, subst := 0, pathMask := 0, gen := 0, size := 0, deadline := 0, root := 0, flushDb := 0, substCtr := 0, remoteOk := false, queueW := false, hostW := false, remoteW := false, check := 0 }
def zBme : Bme := { alloc := false, zero := false, pbn := 0, chk := 0 }
def zExtent : Extent := { state := .free, r := false, w := false, tenant := 0, dpaBase := 0, length := 0, region := 0, regionGen := 0, regionOff := 0, port := 0, ld := 0, listed := false, reported := false, check := 0 }
def zRegistration : Registration := { state := .free, gen := 0, w := false, r := false, nodeAny := false, tenant := 0, region := 0, regionGen := 0, node := 0, baseOff := 0, length := 0, revokeStamp := 0, inflight := 0, refused := 0, check := 0, freedAt := none }
def zCacheEntry : CacheEntry := { key := (.window 0), copy := (.window zWindowDesc), used := false }
def zInval : Inval := { scope := 0, index := 0, waiter := .none }
def zMsixFn : MsixFn := { enable := false, unmasked := [], pba := [] }
def zGpf : Gpf := { id := 0, regions := [], covered := [], phase2 := false, blocks := [], fenced := false }
def zLdState : LdState := { memEnable := false, logs := [], nextHandle := 0, poison := [], poisonOverflow := none, poisonCursor := 0, gpf := none, fencedOut := false, alertConfig := 0, timeOffset := 0, allocUnits := 0, qosAlloc := 0, qosLimit := 0, dcRegions := [], config := [], release := none, fmRelease := [] }
def zCmpWait : CmpWait := { port := 0, ld := 0, link := 0, tag := 0, mirror := none, held := false, foreign := none }
def zForward : Forward := { port := 0, ld := 0, tag := 0, read := false, window := 0, dpa := 0, conn := 0, msn := none, pend := none }
def zQueueCtx : QueueCtx := { valid := false, state := .disabled, sclass := 0, weight := 0, tenant := 0, sqLog2 := 0, cqLog2 := 0, maxInflight := 0, ldSlot := 0, port := 0, ringHandle := 0, sqOff := 0, cqOff := 0, sqHead := 0, sqTail := 0, cqHead := 0, cqTail := 0, cqPhase := false, armed := false, vector := 0, coalCount := 0, coalTime := 0, cmdTimeout := 0, errReason := 0, inflight := 0, dbPage := 0, doneCnt := 0, check := 0, unnotified := 0 }
def zPageMap : PageMap := { typ := 0, vecEn := false, vector := 0, id := 0 }
def zCmdResult : CmdResult := { status := .ok, result0 := 0, detail := 0, prefixLen := 0 }
def zStepRec : StepRec := { index := 0, state := (.running 0), moverRetry := false, remoteRetry := false, avoid := none, slow := .ok, ran := 0, got := [], dst := zRegion, src := zRegion }
def zCmd : Cmd := { qid := 0, cmdId := 0, notify := false, cmd := (.copy 0 0 0 0 0), tenant := 0, sclass := 0, fetched := 0, timeout := 0, sqHeadAfter := 0, low := 0, complete := [], steps := [], stop := false, fault := none, slow := .ok, poisoned := none, waitBlocks := [], refused := 0, raiseErr := none, ended := none, endedAt := 0, faultAt := 0, result := none, barrier := none, preempted := false, order := 0, dispatched := 0 }
def zBarrier : Barrier := { id := 0, who := (.command 0 0), regions := [], groups := [], covered := [], blocks := [] }
def zMoverRun : MoverRun := { qid := 0, cmdId := 0, index := 0, inPlace := false }
def zTUnit : TUnit := { present := false, dirty := false, stamp := 0, wb := none, failed := false, cls := 0 }
def zTBlock : TBlock := { state := .rising, leaveReq := false, charge := none, pins := [], units := [], filling := [], region := 0, used := false, frame := 0 }
def zQuota : Quota := { t1Quota := 0, t2Quota := 0, t2Used := 0, check := 0, t1Used := 0, quotaRefused := 0, substTotal := 0, refuseTotal := 0 }
def zWaitRead : WaitRead := { id := 0, who := (.cxl 0 0 0), region := 0, grp := 0, pbn := 0, unit := 0, sector := 0, window := 0, dpa := 0, t0 := 0, stage := .filling, noFrame := false, panStall := false, dual := false }
def zHeldWrite : HeldWrite := { src := (.port 0), who := (.cxl 0 0 0), why := .tide, region := 0, desc := zRegion, whole := false, tenant := 0, off := 0, data := 0, enable := 0, poison := false, window := 0, dpa := 0 }
def zSluEntry : SluEntry := { region := 0, blocks := [], due := 0, dueUs := 0, hold := 0, trigger := none, fired := false, elig := false, state := .waiting, holdEnded := false }
def zSchedule : Schedule := { tenant := 0, tag := 0, qid := 0, cmdId := 0, entries := [], status := .ok, completed := false, start := 0 }
def zBUnit : BUnit := { codes := [], scales := [], stale := false, used := false, region := 0 }
def zLineSec : LineSec := { valid := false, dirty := false, val := zSectorVal }
def zLine : Line := { tag := 0, s0 := zLineSec, s1 := zLineSec, lock := false, age := 0 }
def zPanOp : PanOp := { op := 0, base := 0, len := 0 }
def zCqEntry : CqEntry := { cmdId := 0, status := .ok, phase := false, sqHead := 0, prefixLen := 0, result0 := 0, detail := 0, elapsed := 0 }
def zMirrorRec : MirrorRec := { id := 0, seq := 0, stamp := 0, region := 0, grp := 0, cls := 0, sector := 0, val := zSectorVal, port := none, acked := false, retx := false }
def zMUnit : MUnit := { stamp := 0, grp := 0, region := 0, cls := 0, vals := [], wb := none, dirty := false }
def zTake : Take := { groups := [], retried := false, takeover := false }
def zPathRun : PathRun := { path := zCmnPath, state := .active, window := 0, acked := 0, ce := 0, rtos := 0, probes := 0, probeOut := false }
def zRxPhase : RxPhase := { base := 0, acc := [], ctlHigh := 0, ctlSeen := [] }
def zInitMsg : InitMsg := { msn := 0, who := (.step 0 0 0), read := false, total := 0, rkey := 0, off := 0, got := [], gotBytes := 0, worst := .ok }
def zTxPkt : TxPkt := { op := 0, phase := false, path := 0, sends := 0, pkt := zPacket }
def zTgtMsg : TgtMsg := { msn := 0, reg := 0, rkey := 0, read := false, flagged := false, first := none, final := none, total := none, placed := 0, held := 0, mirrors := [], worst := .ok, grp := 0, off := 0, want := 0, got := [] }
def zConn : Conn := { state := .free, gen := 0, desc := zConnDesc, keys0 := none, keys1 := none, phase := false, nextReady := false, txPsn := 0, txCtl0 := 0, txCtl1 := 0, txMsn := 0, rx0 := zRxPhase, rx1 := zRxPhase, msnBase := 0, resolved := [], ceCount := 0, owed := 0, nacked := [], paths := [], unacked := [], txq := [], inits := [], tgts := [], holds := [], viol := 0, authFail := 0, authAt := [], check := 0, freedAt := none }
def zTrainRun : TrainRun := { restored := false, retried := false }
def zGeom : Geom := { spare := 0, pages := 0, blocks := 0, qlc := false }
def zLunRec : LunRec := { geom := zGeom, lost := false, excluded := false, fails := 0 }
def zBlkRec : BlkRec := { state := .free, wear := 0, suspect := false, stripe := none, reads := 0, scrubbed := 0 }
def zStripe : Stripe := { blocks := [], parity := 0, state := .opened, next := 0, prog := [], parityRows := [], passed := [], parities := [] }
def zFtlUnit : FtlUnit := { tun := 0, fua := 0, old := none, programmed := false, recorded := false, stamp := 0, vals := [] }
def zJRec : JRec := { typ := 0, key := 0, new := 0, old := 0, stamp := 0 }
def zRailRun : RailRun := { phase := .off, scan := 0, badW := 0, badF := 0, warned := false, high := false }
def zHUnit : HUnit := { tun := 0, stamp := 0, grp := 0, region := 0, cls := 0, vals := [], twin := false, repair := false, blk := 0 }
def zHSet : HSet := { seq := 0, units := [], isSealed := false, cause := 0, first := 0, mib := 0 }
def zCipJob : CipJob := { op := 0, key := 0 }
def zDevConfig : DevConfig := { nodeId := 0, nodeValid := false, userBlks := 0, sysBlks := 0, hrvReserve := 0, roMin := 0, formatPending := false }
def zSettings : Settings := { rwp := [], rows := [], snsCfg := [], tempCfg := [], raw := [], marks := [], active := [], keys := [], pairId := none, dev := none, pci := (0, 0), bootCnt := 0, keyCtr := 0, train := [], ppr := [] }
def zBank : Bank := { seq := 0, image := zSettings }
def zActivation : Activation := { slot := 0, bank := 0, rake := 0 }
def zMbReq : MbReq := { req := .warden, opcode := 0, seq := 0, payload := [] }
def zUpdate : Update := { pldm := false, typ := 0, size := 0, got := [], complete := false }
def zAccess : Access := { region := 0, gen := 0, off := 0, len := 0, tenant := 0, bound := false, inside := false, mayRead := false, mayWrite := false }
def zPlace64 : Place64 := { region := 0, desc := zRegion, blk := 0, bme := zBme, sector := 0 }

/-! ## Witnesses of the statements, clause by clause -/

def wPersistenceCommands_2 : State :=
  { State.reset with regs := [(285214781, 1)] }
def wPersistenceCommands_4 : State := ring (entry (.persist 65541 0 0 true)).encode State.reset
def wPersistenceCommands_5 : State := ring (entry (.persist 65541 0 64 false)).encode State.reset
def wPersistenceCommands_6 : State := ring (entry (.regionSet 65541 0 0 7 0 4)).encode State.reset
def wPersistenceCommands_7 : State :=
  { State.reset with qe.barriers := [{ zBarrier with id := 8, who := (BarrierBy.command 3 2), regions := [7, 64, 20], covered := [0, 64, 4096], blocks := [20, 1, 8] }] }
def wPersistenceCommands_8 : State :=
  { State.reset with qe.barriers := [{ zBarrier with id := 2, who := (BarrierBy.flush 4096 7 1 (some 3)) }], qe.flush := [(4096, (0, 0))] }
def wPersistenceCommands_9 : State :=
  { State.reset with regs := [(251660544, 1), (260048928, 0), (285214848, 1), (293603360, 1)], xlt.bmap := [(4294967296, { zBme with alloc := true, zero := true, pbn := 7, chk := 218 })], tier.quotas := [(5, { zQuota with t1Quota := 1000, t2Quota := 1000, t2Used := 4, check := 618357970 })], tier.held := [{ zHeldWrite with who := (RdBy.cxl 0 1 4), why := .handoff, region := 1, desc := { zRegion with valid := true, ro := true, pclass := 19, share := true, levels := 65536, tenant := 8, elemFmt := 2, gradeFmt := 4096, subst := 2, pathMask := 4, gen := 1, size := 8, deadline := 21, root := 8, flushDb := 21, substCtr := 4, remoteOk := true, queueW := true, check := 1 }, tenant := 5, off := 64, data := 2, enable := 2670566893644117330, poison := true, window := 1, dpa := 4 }] }
def wPersistenceCommands_10 : State :=
  { State.reset with regs := [(285214848, 1)], twn.rxHold := [(1, (RxBody.mirror false 7 3 20 [{ zSectorVal with poison := true }] [5, 20]))] }
def wPersistenceCommands_11 : State :=
  { State.reset with regs := [(293603376, 4), (293603388, 2)] }
theorem test_PersistenceCommands :
    (State.reset.regsOk ∧ State.reset.reaches ((Requester.warden) : Requester) = true ∧ State.reset.asWarden ((Requester.warden) : Requester) = true ∧ State.reset.frozen = false) ∧
    (wPersistenceCommands_2.regsOk ∧ wPersistenceCommands_2.reaches ((Requester.warden) : Requester) = true ∧ wPersistenceCommands_2.asWarden ((Requester.warden) : Requester) = true ∧ wPersistenceCommands_2.frozen = true) ∧
    (State.reset.regsOk ∧ State.reset.frozen = false) ∧
    (wPersistenceCommands_4.regsOk ∧ wPersistenceCommands_4.fetches (0 : BitVec 20).toNat (entry (.persist 65541 0 0 true)).encode ringQueue (entry (.persist 65541 0 0 true)) (afterFetch wPersistenceCommands_4 ringQueue) ∧ (entry (.persist 65541 0 0 true)).cmd = .persist ((65541 : BitVec 40) : BitVec 40) (0 : BitVec 64) (0 : BitVec 64) true) ∧
    (wPersistenceCommands_5.regsOk ∧ wPersistenceCommands_5.fetches (0 : BitVec 20).toNat (entry (.persist 65541 0 64 false)).encode ringQueue (entry (.persist 65541 0 64 false)) (afterFetch wPersistenceCommands_5 ringQueue) ∧ (entry (.persist 65541 0 64 false)).cmd = .persist ((65541 : BitVec 40) : BitVec 40) (0 : BitVec 64) (64 : BitVec 64) false ∧ ((afterFetch wPersistenceCommands_5 ringQueue).begun (0 : BitVec 20).toNat ringQueue ((afterFetch wPersistenceCommands_5 ringQueue).flight (0 : BitVec 20).toNat ringQueue (entry (.persist 65541 0 64 false)))).walkQueue ringQueue.tenant ((65541 : BitVec 40) : BitVec 40) (if (64 : BitVec 64) = 0 then 0 else (0 : BitVec 64).toNat) (64 : BitVec 64).toNat false = ((((afterFetch wPersistenceCommands_5 ringQueue).begun (0 : BitVec 20).toNat ringQueue ((afterFetch wPersistenceCommands_5 ringQueue).flight (0 : BitVec 20).toNat ringQueue (entry (.persist 65541 0 64 false)))).walkQueue ringQueue.tenant ((65541 : BitVec 40) : BitVec 40) (if (64 : BitVec 64) = 0 then 0 else (0 : BitVec 64).toNat) (64 : BitVec 64).toNat false).1, .ok ringRegion)) ∧
    (wPersistenceCommands_6.regsOk ∧ wPersistenceCommands_6.fetches (0 : BitVec 20).toNat (entry (.regionSet 65541 0 0 7 0 4)).encode ringQueue (entry (.regionSet 65541 0 0 7 0 4)) (afterFetch wPersistenceCommands_6 ringQueue) ∧ (entry (.regionSet 65541 0 0 7 0 4)).cmd = .regionSet ((65541 : BitVec 40) : BitVec 40) (0 : BitVec 32) (0 : BitVec 32) (7 : BitVec 20) (0 : BitVec 4) 4 ∧ ((afterFetch wPersistenceCommands_6 ringQueue).begun (0 : BitVec 20).toNat ringQueue ((afterFetch wPersistenceCommands_6 ringQueue).flight (0 : BitVec 20).toNat ringQueue (entry (.regionSet 65541 0 0 7 0 4)))).walkQueue ringQueue.tenant ((65541 : BitVec 40) : BitVec 40) 0 0 false = ((((afterFetch wPersistenceCommands_6 ringQueue).begun (0 : BitVec 20).toNat ringQueue ((afterFetch wPersistenceCommands_6 ringQueue).flight (0 : BitVec 20).toNat ringQueue (entry (.regionSet 65541 0 0 7 0 4)))).walkQueue ringQueue.tenant ((65541 : BitVec 40) : BitVec 40) 0 0 false).1, .ok ringRegion) ∧ (((afterFetch wPersistenceCommands_6 ringQueue).begun (0 : BitVec 20).toNat ringQueue ((afterFetch wPersistenceCommands_6 ringQueue).flight (0 : BitVec 20).toNat ringQueue (entry (.regionSet 65541 0 0 7 0 4)))).walkQueue ringQueue.tenant ((65541 : BitVec 40) : BitVec 40) 0 0 false).1.xlt.invalBusy = none ∧ ({ (((afterFetch wPersistenceCommands_6 ringQueue).begun (0 : BitVec 20).toNat ringQueue ((afterFetch wPersistenceCommands_6 ringQueue).flight (0 : BitVec 20).toNat ringQueue (entry (.regionSet 65541 0 0 7 0 4)))).walkQueue ringQueue.tenant ((65541 : BitVec 40) : BitVec 40) 0 0 false).1.regionAt (handleId ((65541 : BitVec 40) : BitVec 40)) with deadline := (7 : BitVec 20).toNat } : Region).askOk = true) ∧
    ((wPersistenceCommands_7.qe.barriers.find? fun x => x.id == (8 : Nat)) = some ({ zBarrier with id := 8, who := (BarrierBy.command 3 2), regions := [7, 64, 20], covered := [0, 64, 4096], blocks := [20, 1, 8] } : Barrier) ∧ wPersistenceCommands_7.barrierReady ({ zBarrier with id := 8, who := (BarrierBy.command 3 2), regions := [7, 64, 20], covered := [0, 64, 4096], blocks := [20, 1, 8] } : Barrier) = true ∧ wPersistenceCommands_7.barrierFenced ({ zBarrier with id := 8, who := (BarrierBy.command 3 2), regions := [7, 64, 20], covered := [0, 64, 4096], blocks := [20, 1, 8] } : Barrier) = false ∧ ({ zBarrier with id := 8, who := (BarrierBy.command 3 2), regions := [7, 64, 20], covered := [0, 64, 4096], blocks := [20, 1, 8] } : Barrier).who = .command (3 : Nat) (2 : Nat)) ∧
    ((wPersistenceCommands_8.qe.barriers.find? fun x => x.id == (2 : Nat)) = some ({ zBarrier with id := 2, who := (BarrierBy.flush 4096 7 1 (some 3)) } : Barrier) ∧ wPersistenceCommands_8.barrierReady ({ zBarrier with id := 2, who := (BarrierBy.flush 4096 7 1 (some 3)) } : Barrier) = true ∧ wPersistenceCommands_8.barrierFenced ({ zBarrier with id := 2, who := (BarrierBy.flush 4096 7 1 (some 3)) } : Barrier) = false ∧ ({ zBarrier with id := 2, who := (BarrierBy.flush 4096 7 1 (some 3)) } : Barrier).who = .flush (4096 : Nat) (7 : Nat) (1 : Nat) ((some 3) : Option Nat) ∧ tget wPersistenceCommands_8.qe.flush (4096 : Nat) = some ((0 : Nat), (0 : Nat))) ∧
    (wPersistenceCommands_9.regsOk ∧ ((WriteSrc.port 0) : WriteSrc) ≠ .mirror ∧ takeFirst wPersistenceCommands_9.tier.held (fun x => x.src == ((WriteSrc.port 0) : WriteSrc)) = some (({ zHeldWrite with who := (RdBy.cxl 0 1 4), why := .handoff, region := 1, desc := { zRegion with valid := true, ro := true, pclass := 19, share := true, levels := 65536, tenant := 8, elemFmt := 2, gradeFmt := 4096, subst := 2, pathMask := 4, gen := 1, size := 8, deadline := 21, root := 8, flushDb := 21, substCtr := 4, remoteOk := true, queueW := true, check := 1 }, tenant := 5, off := 64, data := 2, enable := 2670566893644117330, poison := true, window := 1, dpa := 4 } : HeldWrite), ([] : List HeldWrite)) ∧ (∀ i n k, ({ zHeldWrite with who := (RdBy.cxl 0 1 4), why := .handoff, region := 1, desc := { zRegion with valid := true, ro := true, pclass := 19, share := true, levels := 65536, tenant := 8, elemFmt := 2, gradeFmt := 4096, subst := 2, pathMask := 4, gen := 1, size := 8, deadline := 21, root := 8, flushDb := 21, substCtr := 4, remoteOk := true, queueW := true, check := 1 }, tenant := 5, off := 64, data := 2, enable := 2670566893644117330, poison := true, window := 1, dpa := 4 } : HeldWrite).who ≠ .cmn i n k) ∧ wPersistenceCommands_9.twn.handoff.contains ({ zHeldWrite with who := (RdBy.cxl 0 1 4), why := .handoff, region := 1, desc := { zRegion with valid := true, ro := true, pclass := 19, share := true, levels := 65536, tenant := 8, elemFmt := 2, gradeFmt := 4096, subst := 2, pathMask := 4, gen := 1, size := 8, deadline := 21, root := 8, flushDb := 21, substCtr := 4, remoteOk := true, queueW := true, check := 1 }, tenant := 5, off := 64, data := 2, enable := 2670566893644117330, poison := true, window := 1, dpa := 4 } : HeldWrite).desc.grp = false ∧ wPersistenceCommands_9.serves ({ zHeldWrite with who := (RdBy.cxl 0 1 4), why := .handoff, region := 1, desc := { zRegion with valid := true, ro := true, pclass := 19, share := true, levels := 65536, tenant := 8, elemFmt := 2, gradeFmt := 4096, subst := 2, pathMask := 4, gen := 1, size := 8, deadline := 21, root := 8, flushDb := 21, substCtr := 4, remoteOk := true, queueW := true, check := 1 }, tenant := 5, off := 64, data := 2, enable := 2670566893644117330, poison := true, window := 1, dpa := 4 } : HeldWrite).desc.grp = true ∧ wPersistenceCommands_9.resolve ({ zHeldWrite with who := (RdBy.cxl 0 1 4), why := .handoff, region := 1, desc := { zRegion with valid := true, ro := true, pclass := 19, share := true, levels := 65536, tenant := 8, elemFmt := 2, gradeFmt := 4096, subst := 2, pathMask := 4, gen := 1, size := 8, deadline := 21, root := 8, flushDb := 21, substCtr := 4, remoteOk := true, queueW := true, check := 1 }, tenant := 5, off := 64, data := 2, enable := 2670566893644117330, poison := true, window := 1, dpa := 4 } : HeldWrite).region ({ zHeldWrite with who := (RdBy.cxl 0 1 4), why := .handoff, region := 1, desc := { zRegion with valid := true, ro := true, pclass := 19, share := true, levels := 65536, tenant := 8, elemFmt := 2, gradeFmt := 4096, subst := 2, pathMask := 4, gen := 1, size := 8, deadline := 21, root := 8, flushDb := 21, substCtr := 4, remoteOk := true, queueW := true, check := 1 }, tenant := 5, off := 64, data := 2, enable := 2670566893644117330, poison := true, window := 1, dpa := 4 } : HeldWrite).desc ({ zHeldWrite with who := (RdBy.cxl 0 1 4), why := .handoff, region := 1, desc := { zRegion with valid := true, ro := true, pclass := 19, share := true, levels := 65536, tenant := 8, elemFmt := 2, gradeFmt := 4096, subst := 2, pathMask := 4, gen := 1, size := 8, deadline := 21, root := 8, flushDb := 21, substCtr := 4, remoteOk := true, queueW := true, check := 1 }, tenant := 5, off := 64, data := 2, enable := 2670566893644117330, poison := true, window := 1, dpa := 4 } : HeldWrite).off = ((wPersistenceCommands_9.resolve ({ zHeldWrite with who := (RdBy.cxl 0 1 4), why := .handoff, region := 1, desc := { zRegion with valid := true, ro := true, pclass := 19, share := true, levels := 65536, tenant := 8, elemFmt := 2, gradeFmt := 4096, subst := 2, pathMask := 4, gen := 1, size := 8, deadline := 21, root := 8, flushDb := 21, substCtr := 4, remoteOk := true, queueW := true, check := 1 }, tenant := 5, off := 64, data := 2, enable := 2670566893644117330, poison := true, window := 1, dpa := 4 } : HeldWrite).region ({ zHeldWrite with who := (RdBy.cxl 0 1 4), why := .handoff, region := 1, desc := { zRegion with valid := true, ro := true, pclass := 19, share := true, levels := 65536, tenant := 8, elemFmt := 2, gradeFmt := 4096, subst := 2, pathMask := 4, gen := 1, size := 8, deadline := 21, root := 8, flushDb := 21, substCtr := 4, remoteOk := true, queueW := true, check := 1 }, tenant := 5, off := 64, data := 2, enable := 2670566893644117330, poison := true, window := 1, dpa := 4 } : HeldWrite).desc ({ zHeldWrite with who := (RdBy.cxl 0 1 4), why := .handoff, region := 1, desc := { zRegion with valid := true, ro := true, pclass := 19, share := true, levels := 65536, tenant := 8, elemFmt := 2, gradeFmt := 4096, subst := 2, pathMask := 4, gen := 1, size := 8, deadline := 21, root := 8, flushDb := 21, substCtr := 4, remoteOk := true, queueW := true, check := 1 }, tenant := 5, off := 64, data := 2, enable := 2670566893644117330, poison := true, window := 1, dpa := 4 } : HeldWrite).off).1, .ok ({ zPlace64 with region := 1, desc := { zRegion with valid := true, ro := true, pclass := 19, share := true, levels := 65536, tenant := 8, elemFmt := 2, gradeFmt := 4096, subst := 2, pathMask := 4, gen := 1, size := 8, deadline := 21, root := 8, flushDb := 21, substCtr := 4, remoteOk := true, queueW := true, check := 1 }, bme := { zBme with alloc := true, zero := true, pbn := 7, chk := 218 }, sector := 7169 } : Place64)) ∧ (∀ y ∈ ([] : List HeldWrite), y.src = ((WriteSrc.port 0) : WriteSrc) → y.whole = false) ∧ (wPersistenceCommands_9.resolve ({ zHeldWrite with who := (RdBy.cxl 0 1 4), why := .handoff, region := 1, desc := { zRegion with valid := true, ro := true, pclass := 19, share := true, levels := 65536, tenant := 8, elemFmt := 2, gradeFmt := 4096, subst := 2, pathMask := 4, gen := 1, size := 8, deadline := 21, root := 8, flushDb := 21, substCtr := 4, remoteOk := true, queueW := true, check := 1 }, tenant := 5, off := 64, data := 2, enable := 2670566893644117330, poison := true, window := 1, dpa := 4 } : HeldWrite).region ({ zHeldWrite with who := (RdBy.cxl 0 1 4), why := .handoff, region := 1, desc := { zRegion with valid := true, ro := true, pclass := 19, share := true, levels := 65536, tenant := 8, elemFmt := 2, gradeFmt := 4096, subst := 2, pathMask := 4, gen := 1, size := 8, deadline := 21, root := 8, flushDb := 21, substCtr := 4, remoteOk := true, queueW := true, check := 1 }, tenant := 5, off := 64, data := 2, enable := 2670566893644117330, poison := true, window := 1, dpa := 4 } : HeldWrite).desc ({ zHeldWrite with who := (RdBy.cxl 0 1 4), why := .handoff, region := 1, desc := { zRegion with valid := true, ro := true, pclass := 19, share := true, levels := 65536, tenant := 8, elemFmt := 2, gradeFmt := 4096, subst := 2, pathMask := 4, gen := 1, size := 8, deadline := 21, root := 8, flushDb := 21, substCtr := 4, remoteOk := true, queueW := true, check := 1 }, tenant := 5, off := 64, data := 2, enable := 2670566893644117330, poison := true, window := 1, dpa := 4 } : HeldWrite).off).1.tryWrite { tenant := ({ zHeldWrite with who := (RdBy.cxl 0 1 4), why := .handoff, region := 1, desc := { zRegion with valid := true, ro := true, pclass := 19, share := true, levels := 65536, tenant := 8, elemFmt := 2, gradeFmt := 4096, subst := 2, pathMask := 4, gen := 1, size := 8, deadline := 21, root := 8, flushDb := 21, substCtr := 4, remoteOk := true, queueW := true, check := 1 }, tenant := 5, off := 64, data := 2, enable := 2670566893644117330, poison := true, window := 1, dpa := 4 } : HeldWrite).tenant, place := ({ zPlace64 with region := 1, desc := { zRegion with valid := true, ro := true, pclass := 19, share := true, levels := 65536, tenant := 8, elemFmt := 2, gradeFmt := 4096, subst := 2, pathMask := 4, gen := 1, size := 8, deadline := 21, root := 8, flushDb := 21, substCtr := 4, remoteOk := true, queueW := true, check := 1 }, bme := { zBme with alloc := true, zero := true, pbn := 7, chk := 218 }, sector := 7169 } : Place64), data := ({ zHeldWrite with who := (RdBy.cxl 0 1 4), why := .handoff, region := 1, desc := { zRegion with valid := true, ro := true, pclass := 19, share := true, levels := 65536, tenant := 8, elemFmt := 2, gradeFmt := 4096, subst := 2, pathMask := 4, gen := 1, size := 8, deadline := 21, root := 8, flushDb := 21, substCtr := 4, remoteOk := true, queueW := true, check := 1 }, tenant := 5, off := 64, data := 2, enable := 2670566893644117330, poison := true, window := 1, dpa := 4 } : HeldWrite).data, enable := ({ zHeldWrite with who := (RdBy.cxl 0 1 4), why := .handoff, region := 1, desc := { zRegion with valid := true, ro := true, pclass := 19, share := true, levels := 65536, tenant := 8, elemFmt := 2, gradeFmt := 4096, subst := 2, pathMask := 4, gen := 1, size := 8, deadline := 21, root := 8, flushDb := 21, substCtr := 4, remoteOk := true, queueW := true, check := 1 }, tenant := 5, off := 64, data := 2, enable := 2670566893644117330, poison := true, window := 1, dpa := 4 } : HeldWrite).enable, poison := ({ zHeldWrite with who := (RdBy.cxl 0 1 4), why := .handoff, region := 1, desc := { zRegion with valid := true, ro := true, pclass := 19, share := true, levels := 65536, tenant := 8, elemFmt := 2, gradeFmt := 4096, subst := 2, pathMask := 4, gen := 1, size := 8, deadline := 21, root := 8, flushDb := 21, substCtr := 4, remoteOk := true, queueW := true, check := 1 }, tenant := 5, off := 64, data := 2, enable := 2670566893644117330, poison := true, window := 1, dpa := 4 } : HeldWrite).poison, alloc := true, whole := ({ zHeldWrite with who := (RdBy.cxl 0 1 4), why := .handoff, region := 1, desc := { zRegion with valid := true, ro := true, pclass := 19, share := true, levels := 65536, tenant := 8, elemFmt := 2, gradeFmt := 4096, subst := 2, pathMask := 4, gen := 1, size := 8, deadline := 21, root := 8, flushDb := 21, substCtr := 4, remoteOk := true, queueW := true, check := 1 }, tenant := 5, off := 64, data := 2, enable := 2670566893644117330, poison := true, window := 1, dpa := 4 } : HeldWrite).whole, port := match ({ zHeldWrite with who := (RdBy.cxl 0 1 4), why := .handoff, region := 1, desc := { zRegion with valid := true, ro := true, pclass := 19, share := true, levels := 65536, tenant := 8, elemFmt := 2, gradeFmt := 4096, subst := 2, pathMask := 4, gen := 1, size := 8, deadline := 21, root := 8, flushDb := 21, substCtr := 4, remoteOk := true, queueW := true, check := 1 }, tenant := 5, off := 64, data := 2, enable := 2670566893644117330, poison := true, window := 1, dpa := 4 } : HeldWrite).who with | .cxl p l _ | .mailbox p l _ => some (p, l) | _ => none, qos := ({ zHeldWrite with who := (RdBy.cxl 0 1 4), why := .handoff, region := 1, desc := { zRegion with valid := true, ro := true, pclass := 19, share := true, levels := 65536, tenant := 8, elemFmt := 2, gradeFmt := 4096, subst := 2, pathMask := 4, gen := 1, size := 8, deadline := 21, root := 8, flushDb := 21, substCtr := 4, remoteOk := true, queueW := true, check := 1 }, tenant := 5, off := 64, data := 2, enable := 2670566893644117330, poison := true, window := 1, dpa := 4 } : HeldWrite).who.qos } = (((wPersistenceCommands_9.resolve ({ zHeldWrite with who := (RdBy.cxl 0 1 4), why := .handoff, region := 1, desc := { zRegion with valid := true, ro := true, pclass := 19, share := true, levels := 65536, tenant := 8, elemFmt := 2, gradeFmt := 4096, subst := 2, pathMask := 4, gen := 1, size := 8, deadline := 21, root := 8, flushDb := 21, substCtr := 4, remoteOk := true, queueW := true, check := 1 }, tenant := 5, off := 64, data := 2, enable := 2670566893644117330, poison := true, window := 1, dpa := 4 } : HeldWrite).region ({ zHeldWrite with who := (RdBy.cxl 0 1 4), why := .handoff, region := 1, desc := { zRegion with valid := true, ro := true, pclass := 19, share := true, levels := 65536, tenant := 8, elemFmt := 2, gradeFmt := 4096, subst := 2, pathMask := 4, gen := 1, size := 8, deadline := 21, root := 8, flushDb := 21, substCtr := 4, remoteOk := true, queueW := true, check := 1 }, tenant := 5, off := 64, data := 2, enable := 2670566893644117330, poison := true, window := 1, dpa := 4 } : HeldWrite).desc ({ zHeldWrite with who := (RdBy.cxl 0 1 4), why := .handoff, region := 1, desc := { zRegion with valid := true, ro := true, pclass := 19, share := true, levels := 65536, tenant := 8, elemFmt := 2, gradeFmt := 4096, subst := 2, pathMask := 4, gen := 1, size := 8, deadline := 21, root := 8, flushDb := 21, substCtr := 4, remoteOk := true, queueW := true, check := 1 }, tenant := 5, off := 64, data := 2, enable := 2670566893644117330, poison := true, window := 1, dpa := 4 } : HeldWrite).off).1.tryWrite { tenant := ({ zHeldWrite with who := (RdBy.cxl 0 1 4), why := .handoff, region := 1, desc := { zRegion with valid := true, ro := true, pclass := 19, share := true, levels := 65536, tenant := 8, elemFmt := 2, gradeFmt := 4096, subst := 2, pathMask := 4, gen := 1, size := 8, deadline := 21, root := 8, flushDb := 21, substCtr := 4, remoteOk := true, queueW := true, check := 1 }, tenant := 5, off := 64, data := 2, enable := 2670566893644117330, poison := true, window := 1, dpa := 4 } : HeldWrite).tenant, place := ({ zPlace64 with region := 1, desc := { zRegion with valid := true, ro := true, pclass := 19, share := true, levels := 65536, tenant := 8, elemFmt := 2, gradeFmt := 4096, subst := 2, pathMask := 4, gen := 1, size := 8, deadline := 21, root := 8, flushDb := 21, substCtr := 4, remoteOk := true, queueW := true, check := 1 }, bme := { zBme with alloc := true, zero := true, pbn := 7, chk := 218 }, sector := 7169 } : Place64), data := ({ zHeldWrite with who := (RdBy.cxl 0 1 4), why := .handoff, region := 1, desc := { zRegion with valid := true, ro := true, pclass := 19, share := true, levels := 65536, tenant := 8, elemFmt := 2, gradeFmt := 4096, subst := 2, pathMask := 4, gen := 1, size := 8, deadline := 21, root := 8, flushDb := 21, substCtr := 4, remoteOk := true, queueW := true, check := 1 }, tenant := 5, off := 64, data := 2, enable := 2670566893644117330, poison := true, window := 1, dpa := 4 } : HeldWrite).data, enable := ({ zHeldWrite with who := (RdBy.cxl 0 1 4), why := .handoff, region := 1, desc := { zRegion with valid := true, ro := true, pclass := 19, share := true, levels := 65536, tenant := 8, elemFmt := 2, gradeFmt := 4096, subst := 2, pathMask := 4, gen := 1, size := 8, deadline := 21, root := 8, flushDb := 21, substCtr := 4, remoteOk := true, queueW := true, check := 1 }, tenant := 5, off := 64, data := 2, enable := 2670566893644117330, poison := true, window := 1, dpa := 4 } : HeldWrite).enable, poison := ({ zHeldWrite with who := (RdBy.cxl 0 1 4), why := .handoff, region := 1, desc := { zRegion with valid := true, ro := true, pclass := 19, share := true, levels := 65536, tenant := 8, elemFmt := 2, gradeFmt := 4096, subst := 2, pathMask := 4, gen := 1, size := 8, deadline := 21, root := 8, flushDb := 21, substCtr := 4, remoteOk := true, queueW := true, check := 1 }, tenant := 5, off := 64, data := 2, enable := 2670566893644117330, poison := true, window := 1, dpa := 4 } : HeldWrite).poison, alloc := true, whole := ({ zHeldWrite with who := (RdBy.cxl 0 1 4), why := .handoff, region := 1, desc := { zRegion with valid := true, ro := true, pclass := 19, share := true, levels := 65536, tenant := 8, elemFmt := 2, gradeFmt := 4096, subst := 2, pathMask := 4, gen := 1, size := 8, deadline := 21, root := 8, flushDb := 21, substCtr := 4, remoteOk := true, queueW := true, check := 1 }, tenant := 5, off := 64, data := 2, enable := 2670566893644117330, poison := true, window := 1, dpa := 4 } : HeldWrite).whole, port := match ({ zHeldWrite with who := (RdBy.cxl 0 1 4), why := .handoff, region := 1, desc := { zRegion with valid := true, ro := true, pclass := 19, share := true, levels := 65536, tenant := 8, elemFmt := 2, gradeFmt := 4096, subst := 2, pathMask := 4, gen := 1, size := 8, deadline := 21, root := 8, flushDb := 21, substCtr := 4, remoteOk := true, queueW := true, check := 1 }, tenant := 5, off := 64, data := 2, enable := 2670566893644117330, poison := true, window := 1, dpa := 4 } : HeldWrite).who with | .cxl p l _ | .mailbox p l _ => some (p, l) | _ => none, qos := ({ zHeldWrite with who := (RdBy.cxl 0 1 4), why := .handoff, region := 1, desc := { zRegion with valid := true, ro := true, pclass := 19, share := true, levels := 65536, tenant := 8, elemFmt := 2, gradeFmt := 4096, subst := 2, pathMask := 4, gen := 1, size := 8, deadline := 21, root := 8, flushDb := 21, substCtr := 4, remoteOk := true, queueW := true, check := 1 }, tenant := 5, off := 64, data := 2, enable := 2670566893644117330, poison := true, window := 1, dpa := 4 } : HeldWrite).who.qos }).1, .accepted (none : Option Nat))) ∧
    (wPersistenceCommands_10.regsOk ∧ tget wPersistenceCommands_10.twn.rxHold (wPersistenceCommands_10.twn.rxSeq + 1) = some (.mirror (false : Bool) (7 : Nat) (3 : Nat) (20 : Nat) ([{ zSectorVal with poison := true }] : List SectorVal) ([5, 20] : List Nat)) ∧ wPersistenceCommands_10.mirrorAdmits (false : Bool) (unitOf ((3 : Nat) / 64)) = true) ∧
    (wPersistenceCommands_11.regsOk ∧ wPersistenceCommands_11.bitOf TWN.BUNDLES ({ zTwinHdr with bundle := 2, tagOk := true } : TwinHdr).bundle.val = true ∧ ({ zTwinHdr with bundle := 2, tagOk := true } : TwinHdr).tagOk = true ∧ wPersistenceCommands_11.mirroring = true ∧ wPersistenceCommands_11.cmn.conns = []) :=
  ⟨(by simp only [regsOk_iff]; decide +kernel),
   (by simp only [regsOk_iff]; decide +kernel),
   (by simp only [regsOk_iff]; decide +kernel),
   ⟨by rw [regsOk_iff]; decide +kernel, fetches_of (by decide +kernel) (by decide +kernel) (show _ by decide +kernel) (by decide +kernel) (by decide +kernel) (show _ by decide +kernel) (by decide +kernel), rfl⟩,
   ⟨by rw [regsOk_iff]; decide +kernel, fetches_of (by decide +kernel) (by decide +kernel) (show _ by decide +kernel) (by decide +kernel) (by decide +kernel) (show _ by decide +kernel) (by decide +kernel), rfl, pair_of_ok (by decide +kernel)⟩,
   ⟨by rw [regsOk_iff]; decide +kernel, fetches_of (by decide +kernel) (by decide +kernel) (show _ by decide +kernel) (by decide +kernel) (by decide +kernel) (show _ by decide +kernel) (by decide +kernel), rfl, pair_of_ok (by decide +kernel), by decide +kernel⟩,
   (by decide +kernel),
   (by decide +kernel),
   ⟨by rw [regsOk_iff]; decide +kernel, by decide +kernel, by decide +kernel, by first | decide +kernel | simp, by decide +kernel, by decide +kernel, pair_of_ok (by decide +kernel), by first | decide +kernel | simp, pair_of (by decide +kernel)⟩,
   (by simp only [regsOk_iff]; decide +kernel),
   (by simp only [regsOk_iff]; decide +kernel)⟩

theorem test_ControlSpaceAccesses :
    (State.reset.reaches ((Requester.warden) : Requester) = true ∧ pageFor ((Requester.warden) : Requester) ({ zPage with blk := .seq } : Page).base = some ({ zPage with blk := .seq } : Page) ∧ State.reset.mayRead ((Requester.warden) : Requester) ({ zPage with blk := .seq } : Page) = true ∧ (0 : Nat) < 4096 ∧ legalAccess (0 : Nat) 4 = true ∧ ((0 : Nat) < 0x100 ∨ State.reset.domainOn (Page.dom ({ zPage with blk := .seq } : Page)) = true)) ∧
    (State.reset.regsOk ∧ State.reset.reaches ((Requester.svc 0) : Requester) = true ∧ pageFor ((Requester.svc 0) : Requester) ({ zPage with blk := .seq } : Page).base = some ({ zPage with blk := .seq } : Page) ∧ State.reset.mayRead ((Requester.svc 0) : Requester) ({ zPage with blk := .seq } : Page) = false ∧ (0 : Nat) < 4096 ∧ legalAccess (0 : Nat) 4 = true ∧ ((0 : Nat) < 0x100 ∨ State.reset.domainOn (Page.dom ({ zPage with blk := .seq } : Page)) = true)) ∧
    (State.reset.regsOk ∧ State.reset.reaches ((Requester.warden) : Requester) = true ∧ pageFor ((Requester.warden) : Requester) (0 : BitVec 32).toNat = none) ∧
    (State.reset.regsOk ∧ State.reset.reaches ((Requester.warden) : Requester) = true ∧ pageFor ((Requester.warden) : Requester) (22020354 : BitVec 32).toNat = some ({ zPage with blk := .evf } : Page) ∧ legalAccess (22020354 : BitVec 32).toNat (0 : Nat) = false) ∧
    (State.reset.regsOk ∧ State.reset.admits ((Requester.warden) : Requester) ({ zPage with blk := .flm } : Page) ∧ (0 : Nat) < 512) ∧
    (State.reset.regsOk ∧ State.reset.reaches ((Requester.host) : Requester) = true ∧ pageFor ((Requester.host) : Requester) ({ zPage with blk := .pan } : Page).base = some ({ zPage with blk := .pan } : Page) ∧ State.reset.mayWrite ((Requester.host) : Requester) ({ zPage with blk := .pan } : Page) = false ∧ State.reset.wayClear ((Requester.host) : Requester) ({ zPage with blk := .pan } : Page) ∧ (0 : Nat) < 4096 ∧ legalAccess (0 : Nat) 4 = true ∧ ((0 : Nat) < 0x100 ∨ State.reset.domainOn (Page.dom ({ zPage with blk := .pan } : Page)) = true)) ∧
    (State.reset.regsOk ∧ State.reset.admits ((Requester.warden) : Requester) ({ zPage with blk := .seq } : Page) ∧ State.reset.asWarden ((Requester.warden) : Requester) = true) ∧
    (State.reset.regsOk ∧ State.reset.admits ((Requester.warden) : Requester) ({ zPage with blk := .mov } : Page) ∧ (1 : BitVec 32) ≠ 0) :=
  ⟨(by decide +kernel),
   (by simp only [regsOk_iff]; decide +kernel),
   (by simp only [regsOk_iff]; decide +kernel),
   (by simp only [regsOk_iff]; decide +kernel),
   (by simp only [regsOk_iff, State.admits, State.wayClear]; decide +kernel),
   (by simp only [regsOk_iff, State.wayClear]; decide +kernel),
   (by simp only [regsOk_iff, State.admits, State.wayClear]; decide +kernel),
   (by simp only [regsOk_iff, State.admits, State.wayClear]; decide +kernel)⟩

def wStagedChanges_3 : State :=
  { State.reset with regs := [(142608448, 1), (167772608, 1)], ctl.parts := [{ zParticipant with page := { zPage with blk := .seq } }] }
def wStagedChanges_4 : State :=
  { State.reset with regs := [(142608448, 1), (278397376, 1)], ctl.parts := [{ zParticipant with page := { zPage with blk := .flm, inst := 48 } }] }
def wStagedChanges_5 : State :=
  { State.reset with regs := [(142608448, 1), (277446785, 1), (277447104, 1), (277447108, 5)], ctl.parts := [{ zParticipant with page := { zPage with blk := .flm, inst := 19 } }] }
def wStagedChanges_7 : State :=
  { State.reset with pan.lines := [(786437, { zLine with s1 := { zLineSec with dirty := true } })] }
def wStagedChanges_8 : State :=
  { State.reset with regs := [(167772289, 1)] }
def wStagedChanges_9 : State :=
  { State.reset with regs := [(268697729, 1)] }
def wStagedChanges_13 : State :=
  { State.reset with regs := [(243270080, 1), (243270096, 3)] }
def wStagedChanges_14 : State :=
  { State.reset with regs := [(142608448, 1)] }
def wStagedChanges_15 : State :=
  { State.reset with regs := [(142608448, 1)], ctl.parts := [{ zParticipant with page := { zPage with blk := .mov, inst := 1 } }] }
def wStagedChanges_16 : State :=
  { State.reset with ctl.single := [{ zStaged with page := { zPage with blk := .dmc, inst := 3 }, key := 268536400, value := 1 }] }
def wStagedChanges_17 : State :=
  { State.reset with regs := [(142608448, 1)] }
def wStagedChanges_18 : State :=
  { State.reset with regs := [(142608448, 5)], ctl.parts := [{ zParticipant with page := { zPage with blk := .tier }, applied := true }] }
def wStagedChanges_19 : State :=
  { State.reset with regs := [(142608448, 3)], ctl.parts := [{ zParticipant with page := { zPage with blk := .pan, inst := 2 }, applied := true }] }
theorem test_StagedChanges :
    (State.reset.regsOk ∧ State.reset.admits ((Requester.warden) : Requester) ({ zPage with blk := .seq } : Page) ∧ State.reset.stageHeld ({ zPage with blk := .seq } : Page) = false) ∧
    (State.reset.regsOk ∧ State.reset.admits ((Requester.warden) : Requester) ({ zPage with blk := .seq } : Page) ∧ State.reset.stageHeld ({ zPage with blk := .seq } : Page) = false) ∧
    (wStagedChanges_3.regsOk ∧ wStagedChanges_3.admits ((Requester.warden) : Requester) ({ zPage with blk := .seq } : Page) ∧ wStagedChanges_3.stageHeld ({ zPage with blk := .seq } : Page) = true ∧ wStagedChanges_3.rd ({ zPage with blk := .seq } : Page) HDR.ARM = 1 ∧ wStagedChanges_3.rd ({ zPage with blk := .seq } : Page) HDR.EPOCH ≠ (1 : BitVec 16).toNat) ∧
    (wStagedChanges_4.regsOk ∧ wStagedChanges_4.admits ((Requester.warden) : Requester) ({ zPage with blk := .flm, inst := 48 } : Page) ∧ wStagedChanges_4.stageHeld ({ zPage with blk := .flm, inst := 48 } : Page) = true ∧ wStagedChanges_4.rd ({ zPage with blk := .flm, inst := 48 } : Page) HDR.ARM = 1 ∧ ¬(wStagedChanges_4.rd ({ zPage with blk := .flm, inst := 48 } : Page) HDR.STAGE_STAT = stStuck ∧ wStagedChanges_4.quiesced ({ zPage with blk := .flm, inst := 48 } : Page) = true)) ∧
    (wStagedChanges_5.regsOk ∧ wStagedChanges_5.admits ((Requester.warden) : Requester) ({ zPage with blk := .flm, inst := 19 } : Page) ∧ wStagedChanges_5.stageHeld ({ zPage with blk := .flm, inst := 19 } : Page) = true ∧ wStagedChanges_5.rd ({ zPage with blk := .flm, inst := 19 } : Page) HDR.ARM = 1 ∧ wStagedChanges_5.rd ({ zPage with blk := .flm, inst := 19 } : Page) HDR.STAGE_STAT = stStuck ∧ wStagedChanges_5.quiesced ({ zPage with blk := .flm, inst := 19 } : Page) = true) ∧
    (State.reset.regsOk ∧ State.reset.admits ((Requester.warden) : Requester) ({ zPage with blk := .mov } : Page) ∧ State.reset.quiesceRefusal ({ zPage with blk := .mov } : Page) = none) ∧
    (wStagedChanges_7.regsOk ∧ wStagedChanges_7.admits ((Requester.warden) : Requester) ({ zPage with blk := .pan, inst := 3 } : Page) ∧ wStagedChanges_7.rd ({ zPage with blk := .pan, inst := 3 } : Page) HDR.QUIESCE = 0 ∧ wStagedChanges_7.quiesceRefusal ({ zPage with blk := .pan, inst := 3 } : Page) = some (17 : Nat)) ∧
    (wStagedChanges_8.regsOk ∧ wStagedChanges_8.admits ((Requester.warden) : Requester) ({ zPage with blk := .seq } : Page) ∧ wStagedChanges_8.rd ({ zPage with blk := .seq } : Page) HDR.QUIESCE = 1 ∧ ({ zPage with blk := .seq } : Page).blk ≠ .pan ∧ ({ zPage with blk := .seq } : Page).blk ≠ .dmc ∧ ({ zPage with blk := .seq } : Page).blk ≠ .tier ∧ ({ zPage with blk := .seq } : Page).blk ≠ .xlt) ∧
    (wStagedChanges_9.regsOk ∧ wStagedChanges_9.admits ((Requester.warden) : Requester) ({ zPage with blk := .dmc, inst := 8 } : Page) ∧ wStagedChanges_9.rd ({ zPage with blk := .dmc, inst := 8 } : Page) HDR.QUIESCE = 1 ∧ ({ zPage with blk := .dmc, inst := 8 } : Page).blk = .pan ∨ ({ zPage with blk := .dmc, inst := 8 } : Page).blk = .dmc ∨ ({ zPage with blk := .dmc, inst := 8 } : Page).blk = .tier ∨ ({ zPage with blk := .dmc, inst := 8 } : Page).blk = .xlt) ∧
    (State.reset.regsOk ∧ State.reset.admits ((Requester.warden) : Requester) ({ zPage with blk := .tier } : Page) ∧ State.reset.domainOn (Page.dom ({ zPage with blk := .tier } : Page)) = true ∧ (304 : Nat) < 4096 ∧ legalAccess (304 : Nat) (4 : Nat) = true ∧ (State.reset.quiesceLatch ({ zPage with blk := .tier } : Page)).writesAt ({ zPage with blk := .tier } : Page) (304 : Nat) (4 : Nat) ((0 : BitVec 64).toNat % 2 ^ (8 * (4 : Nat))) = [({ page := { blk := Sys2Proof.Blk.tier, inst := 0 }, fld := { blk := Sys2Proof.Blk.tier, p0 := 0, p1 := 0, off := 304, stride := 0, cnt := 1, lo := 0, width := 16, acc := Sys2Proof.Machine.Acc.rwp, warden := false, stage := true, free := false, clamp := Sys2Proof.Machine.Clamp.none, reset := Sys2Proof.Machine.Rst.val 60 }, idx := 0, value := 0, written := 65535 } : FieldWrite)] ∧ ({ page := { blk := Sys2Proof.Blk.tier, inst := 0 }, fld := { blk := Sys2Proof.Blk.tier, p0 := 0, p1 := 0, off := 304, stride := 0, cnt := 1, lo := 0, width := 16, acc := Sys2Proof.Machine.Acc.rwp, warden := false, stage := true, free := false, clamp := Sys2Proof.Machine.Clamp.none, reset := Sys2Proof.Machine.Rst.val 60 }, idx := 0, value := 0, written := 65535 } : FieldWrite).fld.stage = true ∧ ({ page := { blk := Sys2Proof.Blk.tier, inst := 0 }, fld := { blk := Sys2Proof.Blk.tier, p0 := 0, p1 := 0, off := 304, stride := 0, cnt := 1, lo := 0, width := 16, acc := Sys2Proof.Machine.Acc.rwp, warden := false, stage := true, free := false, clamp := Sys2Proof.Machine.Clamp.none, reset := Sys2Proof.Machine.Rst.val 60 }, idx := 0, value := 0, written := 65535 } : FieldWrite).idle = false ∧ (({ page := { blk := Sys2Proof.Blk.tier, inst := 0 }, fld := { blk := Sys2Proof.Blk.tier, p0 := 0, p1 := 0, off := 304, stride := 0, cnt := 1, lo := 0, width := 16, acc := Sys2Proof.Machine.Acc.rwp, warden := false, stage := true, free := false, clamp := Sys2Proof.Machine.Clamp.none, reset := Sys2Proof.Machine.Rst.val 60 }, idx := 0, value := 0, written := 65535 } : FieldWrite).fld.warden = true → State.reset.asWarden ((Requester.warden) : Requester) = true) ∧ (({ page := { blk := Sys2Proof.Blk.tier, inst := 0 }, fld := { blk := Sys2Proof.Blk.tier, p0 := 0, p1 := 0, off := 304, stride := 0, cnt := 1, lo := 0, width := 16, acc := Sys2Proof.Machine.Acc.rwp, warden := false, stage := true, free := false, clamp := Sys2Proof.Machine.Clamp.none, reset := Sys2Proof.Machine.Rst.val 60 }, idx := 0, value := 0, written := 65535 } : FieldWrite).fld.acc = .rwl → State.reset.rd ({ zPage with blk := .tier } : Page) HDR.LOCK ≠ 1) ∧ State.reset.stageHeld ({ zPage with blk := .tier } : Page) = false ∧ State.reset.rd ({ zPage with blk := .tier } : Page) HDR.ARM = 0 ∧ ({ zPage with blk := .tier } : Page).blk ≠ .cip ∧ State.reset.alwaysSafe ({ zPage with blk := .tier } : Page) = false) ∧
    (State.reset.regsOk ∧ State.reset.admits ((Requester.warden) : Requester) ({ zPage with blk := .dmc } : Page) ∧ State.reset.domainOn (Page.dom ({ zPage with blk := .dmc } : Page)) = true ∧ (288 : Nat) < 4096 ∧ legalAccess (288 : Nat) (4 : Nat) = true ∧ (State.reset.quiesceLatch ({ zPage with blk := .dmc } : Page)).writesAt ({ zPage with blk := .dmc } : Page) (288 : Nat) (4 : Nat) ((0 : BitVec 64).toNat % 2 ^ (8 * (4 : Nat))) = [({ page := { blk := Sys2Proof.Blk.dmc, inst := 0 }, fld := { blk := Sys2Proof.Blk.dmc, p0 := 0, p1 := 11, off := 288, stride := 0, cnt := 1, lo := 0, width := 8, acc := Sys2Proof.Machine.Acc.rwp, warden := false, stage := true, free := false, clamp := Sys2Proof.Machine.Clamp.lower 1, reset := Sys2Proof.Machine.Rst.val 24 }, idx := 0, value := 0, written := 255 } : FieldWrite)] ∧ ({ page := { blk := Sys2Proof.Blk.dmc, inst := 0 }, fld := { blk := Sys2Proof.Blk.dmc, p0 := 0, p1 := 11, off := 288, stride := 0, cnt := 1, lo := 0, width := 8, acc := Sys2Proof.Machine.Acc.rwp, warden := false, stage := true, free := false, clamp := Sys2Proof.Machine.Clamp.lower 1, reset := Sys2Proof.Machine.Rst.val 24 }, idx := 0, value := 0, written := 255 } : FieldWrite).fld.stage = true ∧ ({ page := { blk := Sys2Proof.Blk.dmc, inst := 0 }, fld := { blk := Sys2Proof.Blk.dmc, p0 := 0, p1 := 11, off := 288, stride := 0, cnt := 1, lo := 0, width := 8, acc := Sys2Proof.Machine.Acc.rwp, warden := false, stage := true, free := false, clamp := Sys2Proof.Machine.Clamp.lower 1, reset := Sys2Proof.Machine.Rst.val 24 }, idx := 0, value := 0, written := 255 } : FieldWrite).idle = false ∧ (({ page := { blk := Sys2Proof.Blk.dmc, inst := 0 }, fld := { blk := Sys2Proof.Blk.dmc, p0 := 0, p1 := 11, off := 288, stride := 0, cnt := 1, lo := 0, width := 8, acc := Sys2Proof.Machine.Acc.rwp, warden := false, stage := true, free := false, clamp := Sys2Proof.Machine.Clamp.lower 1, reset := Sys2Proof.Machine.Rst.val 24 }, idx := 0, value := 0, written := 255 } : FieldWrite).fld.warden = true → State.reset.asWarden ((Requester.warden) : Requester) = true) ∧ (({ page := { blk := Sys2Proof.Blk.dmc, inst := 0 }, fld := { blk := Sys2Proof.Blk.dmc, p0 := 0, p1 := 11, off := 288, stride := 0, cnt := 1, lo := 0, width := 8, acc := Sys2Proof.Machine.Acc.rwp, warden := false, stage := true, free := false, clamp := Sys2Proof.Machine.Clamp.lower 1, reset := Sys2Proof.Machine.Rst.val 24 }, idx := 0, value := 0, written := 255 } : FieldWrite).fld.acc = .rwl → State.reset.rd ({ zPage with blk := .dmc } : Page) HDR.LOCK ≠ 1) ∧ State.reset.stageHeld ({ zPage with blk := .dmc } : Page) = false ∧ State.reset.rd ({ zPage with blk := .dmc } : Page) HDR.ARM = 0 ∧ State.reset.alwaysSafe ({ zPage with blk := .dmc } : Page) = true ∧ State.reset.part ({ zPage with blk := .dmc } : Page) = none ∧ (∀ x ∈ State.reset.ctl.single, x.page ≠ ({ zPage with blk := .dmc } : Page))) ∧
    (State.reset.regsOk ∧ State.reset.admits ((Requester.warden) : Requester) topPage ∧ State.reset.domainOn 0 = true ∧ (1 : BitVec 16) ≠ 0 ∧ State.reset.get TOP.STAGE_GSTAT ≠ gApplying ∧ State.reset.get TOP.STAGE_GSTAT ≠ gRolling ∧ State.reset.get TOP.STAGE_GSTAT ≠ gStuck ∧ (∀ p ∈ allPages, State.reset.rd p HDR.ARM = 1 → State.reset.rd p HDR.EPOCH ≠ (1 : BitVec 16).toNat ∨ State.reset.rd p HDR.STAGE_STAT = stStuck)) ∧
    (wStagedChanges_13.regsOk ∧ wStagedChanges_13.admits ((Requester.warden) : Requester) topPage ∧ wStagedChanges_13.domainOn 0 = true ∧ (3 : BitVec 16) ≠ 0 ∧ wStagedChanges_13.get TOP.STAGE_GSTAT ≠ gApplying ∧ wStagedChanges_13.get TOP.STAGE_GSTAT ≠ gRolling ∧ wStagedChanges_13.get TOP.STAGE_GSTAT ≠ gStuck ∧ ([{ zPage with blk := .xlt }] : List Page) = allPages.filter (fun p => wStagedChanges_13.rd p HDR.ARM = 1 && wStagedChanges_13.rd p HDR.EPOCH = (3 : BitVec 16).toNat && wStagedChanges_13.rd p HDR.STAGE_STAT ≠ stStuck) ∧ (∃ p ∈ ([{ zPage with blk := .xlt }] : List Page), wStagedChanges_13.alwaysSafe p = false) ∧ (∀ x ∈ wStagedChanges_13.ctl.single, wStagedChanges_13.alwaysSafe x.page = false)) ∧
    (wStagedChanges_14.regsOk ∧ wStagedChanges_14.admits ((Requester.warden) : Requester) topPage ∧ wStagedChanges_14.domainOn 0 = true ∧ (1 : BitVec 16) ≠ 0 ∧ (wStagedChanges_14.get TOP.STAGE_GSTAT = gApplying ∨ wStagedChanges_14.get TOP.STAGE_GSTAT = gRolling ∨ wStagedChanges_14.get TOP.STAGE_GSTAT = gStuck)) ∧
    (wStagedChanges_15.regsOk ∧ wStagedChanges_15.canApply ({ zPage with blk := .mov, inst := 1 } : Page) = true ∧ wStagedChanges_15.part ({ zPage with blk := .mov, inst := 1 } : Page) = some ({ zParticipant with page := { zPage with blk := .mov, inst := 1 } } : Participant) ∧ ({ zParticipant with page := { zPage with blk := .mov, inst := 1 } } : Participant).applied = false ∧ wStagedChanges_15.get TOP.STAGE_GSTAT = gApplying ∧ (∀ y ∈ wStagedChanges_15.ctl.single, y.page ≠ ({ zPage with blk := .mov, inst := 1 } : Page)) ∧ ({ zPage with blk := .mov, inst := 1 } : Page).present = true ∧ (({ zPage with blk := .mov, inst := 1 } : Page).blk = .mov → wStagedChanges_15.mov.offlineNext.contains ({ zPage with blk := .mov, inst := 1 } : Page).inst = false) ∧ (∀ y ∈ wStagedChanges_15.ctl.parts, y.page.present = true) ∧ (∀ y ∈ wStagedChanges_15.ctl.parts, ∀ z ∈ wStagedChanges_15.ctl.parts, y.page = z.page → y = z)) ∧
    (wStagedChanges_16.regsOk ∧ wStagedChanges_16.canApply ({ zPage with blk := .dmc, inst := 3 } : Page) = true ∧ wStagedChanges_16.part ({ zPage with blk := .dmc, inst := 3 } : Page) = none ∧ wStagedChanges_16.ctl.single.filter (fun y => y.page == ({ zPage with blk := .dmc, inst := 3 } : Page)) = [({ zStaged with page := { zPage with blk := .dmc, inst := 3 }, key := 268536400, value := 1 } : Staged)] ∧ ({ zPage with blk := .dmc, inst := 3 } : Page).present = true ∧ (({ blk := Sys2Proof.Blk.dmc, p0 := 0, p1 := 11, off := 320, stride := 4, cnt := 8, lo := 16, width := 16, acc := Sys2Proof.Machine.Acc.rwp, warden := false, stage := true, free := false, clamp := Sys2Proof.Machine.Clamp.lower 10, reset := Sys2Proof.Machine.Rst.tbl [60, 60, 60, 60, 120, 200, 60, 150] } : Fld), (2 : Nat)) ∈ stageSlots ({ zPage with blk := .dmc, inst := 3 } : Page) ∧ ({ zStaged with page := { zPage with blk := .dmc, inst := 3 }, key := 268536400, value := 1 } : Staged).key = ({ blk := Sys2Proof.Blk.dmc, p0 := 0, p1 := 11, off := 320, stride := 4, cnt := 8, lo := 16, width := 16, acc := Sys2Proof.Machine.Acc.rwp, warden := false, stage := true, free := false, clamp := Sys2Proof.Machine.Clamp.lower 10, reset := Sys2Proof.Machine.Rst.tbl [60, 60, 60, 60, 120, 200, 60, 150] } : Fld).key ({ zPage with blk := .dmc, inst := 3 } : Page) (2 : Nat) ∧ ({ zStaged with page := { zPage with blk := .dmc, inst := 3 }, key := 268536400, value := 1 } : Staged).value < 2 ^ ({ blk := Sys2Proof.Blk.dmc, p0 := 0, p1 := 11, off := 320, stride := 4, cnt := 8, lo := 16, width := 16, acc := Sys2Proof.Machine.Acc.rwp, warden := false, stage := true, free := false, clamp := Sys2Proof.Machine.Clamp.lower 10, reset := Sys2Proof.Machine.Rst.tbl [60, 60, 60, 60, 120, 200, 60, 150] } : Fld).width ∧ (({ zPage with blk := .dmc, inst := 3 } : Page).blk = .mov → wStagedChanges_16.mov.offlineNext.contains ({ zPage with blk := .dmc, inst := 3 } : Page).inst = false)) ∧
    (wStagedChanges_17.regsOk ∧ wStagedChanges_17.get TOP.STAGE_GSTAT = gApplying ∧ (∀ x ∈ wStagedChanges_17.ctl.parts, x.page.present = true) ∧ (∀ x ∈ wStagedChanges_17.ctl.parts, ∀ y ∈ wStagedChanges_17.ctl.parts, x.page = y.page → x = y)) ∧
    (wStagedChanges_18.regsOk ∧ wStagedChanges_18.canApply ({ zPage with blk := .tier } : Page) = true ∧ wStagedChanges_18.part ({ zPage with blk := .tier } : Page) = some ({ zParticipant with page := { zPage with blk := .tier }, applied := true } : Participant) ∧ ({ zParticipant with page := { zPage with blk := .tier }, applied := true } : Participant).unrestored = true ∧ (wStagedChanges_18.get TOP.STAGE_GSTAT = gRolling ∨ wStagedChanges_18.get TOP.STAGE_GSTAT = gStuck) ∧ wStagedChanges_18.rd ({ zPage with blk := .tier } : Page) HDR.STAGE_STAT ≠ stStuck ∧ ({ zPage with blk := .tier } : Page).present = true ∧ (({ zPage with blk := .tier } : Page).blk = .mov → wStagedChanges_18.mov.offlineNext.contains ({ zPage with blk := .tier } : Page).inst = false)) ∧
    (wStagedChanges_19.regsOk ∧ wStagedChanges_19.part ({ zPage with blk := .pan, inst := 2 } : Page) = some ({ zParticipant with page := { zPage with blk := .pan, inst := 2 }, applied := true } : Participant) ∧ ({ zParticipant with page := { zPage with blk := .pan, inst := 2 }, applied := true } : Participant).unrestored = true ∧ (wStagedChanges_19.get TOP.STAGE_GSTAT = gRolling ∨ wStagedChanges_19.get TOP.STAGE_GSTAT = gStuck) ∧ wStagedChanges_19.rd ({ zPage with blk := .pan, inst := 2 } : Page) HDR.STAGE_STAT ≠ stStuck ∧ ({ zPage with blk := .pan, inst := 2 } : Page).present = true) :=
  ⟨(by simp only [regsOk_iff, State.admits, State.wayClear]; decide +kernel),
   (by simp only [regsOk_iff, State.admits, State.wayClear]; decide +kernel),
   (by simp only [regsOk_iff, State.admits, State.wayClear]; decide +kernel),
   (by simp only [regsOk_iff, State.admits, State.wayClear]; decide +kernel),
   (by simp only [regsOk_iff, State.admits, State.wayClear]; decide +kernel),
   (by simp only [regsOk_iff, State.admits, State.wayClear]; decide +kernel),
   (by simp only [regsOk_iff, State.admits, State.wayClear]; decide +kernel),
   (by simp only [regsOk_iff, State.admits, State.wayClear]; decide +kernel),
   (by simp only [regsOk_iff, State.admits, State.wayClear]; decide +kernel),
   (by simp only [regsOk_iff, State.admits, State.wayClear]; decide +kernel),
   (by simp only [regsOk_iff, State.admits, State.wayClear]; decide +kernel),
   (by simp only [regsOk_iff, State.admits, State.wayClear]; decide +kernel),
   ⟨by rw [regsOk_iff]; decide +kernel, by simp only [State.admits, State.wayClear]; decide +kernel, by decide +kernel, by decide +kernel, show _ by decide +kernel, by decide +kernel, by decide +kernel, show _ by decide +kernel, by decide +kernel, by first | decide +kernel | simp⟩,
   (by simp only [regsOk_iff, State.admits, State.wayClear]; decide +kernel),
   (by simp only [regsOk_iff]; decide +kernel),
   (by simp only [regsOk_iff]; decide +kernel),
   (by simp only [regsOk_iff]; decide +kernel),
   (by simp only [regsOk_iff]; decide +kernel),
   (by simp only [regsOk_iff]; decide +kernel)⟩

def wTranslationCommands_1 : State :=
  { State.reset with xlt.caches := [{ zCacheEntry with key := (XKey.region 3), copy := (XCopy.region zRegion) }] }
def wTranslationCommands_2 : State :=
  { State.reset with xlt.fills := [{ zCacheEntry with key := (XKey.registration 4194303), copy := (XCopy.window { zWindowDesc with w := true, state := 2, region := 6174125, regionGen := 8, dpaBase := 6, length := 3, regionOff := 2199023255552, rkey := 7, node := 262143, conn := 1, check := 1785612025 }) }] }
def wTranslationCommands_3 : State :=
  { State.reset with regs := [(243269761, 1)] }
def wTranslationCommands_4 : State :=
  { State.reset with regs := [(243269761, 1), (243269793, 1)], xlt.invalBusy := (some zInval) }
def wTranslationCommands_5 : State :=
  { State.reset with regs := [(243269761, 1), (243269793, 1)], xlt.invalBusy := (some zInval), xlt.invalQueue := [zInval, zInval, zInval, zInval, zInval, zInval, zInval, zInval, zInval, zInval, zInval, zInval, zInval, zInval, zInval, zInval, zInval, zInval, zInval, zInval, zInval, zInval, zInval, zInval, zInval, zInval, zInval, zInval, zInval, zInval, zInval, zInval, zInval, zInval, zInval, zInval, zInval, zInval, zInval, zInval, zInval, zInval, zInval, zInval, zInval, zInval, zInval, zInval, zInval, zInval, zInval, zInval, zInval, zInval, zInval, zInval, zInval, zInval, zInval, zInval, zInval, zInval, zInval, zInval] }
def wTranslationCommands_6 : State :=
  { State.reset with xlt.invalBusy := (some zInval) }
def wTranslationCommands_7 : State :=
  { State.reset with xlt.extents := [(4, { zExtent with state := .releasing, w := true, region := 21, regionGen := 1, regionOff := 100, port := 19, ld := 8, check := 19 })], xlt.invalBusy := (some { zInval with waiter := (InvalFor.extent 4) }) }
def wTranslationCommands_8 : State :=
  { State.reset with xlt.invalBusy := (some { zInval with waiter := (InvalFor.create 0 5 7) }) }
def wTranslationCommands_9 : State :=
  { State.reset with xlt.invalBusy := (some { zInval with waiter := (InvalFor.delete 4096 5 0) }) }
def wTranslationCommands_10 : State :=
  { State.reset with regs := [(243269761, 1)], xlt.registrations := [(2, { zRegistration with state := .opened, gen := 1, w := true, nodeAny := true, tenant := 5, region := 3, regionGen := 3, node := 4096, baseOff := 21, length := 1, revokeStamp := 5, inflight := 3, refused := 65536, check := 21 })] }
def wTranslationCommands_11 : State :=
  { State.reset with regs := [(243269761, 1)], xlt.registrations := [(2, { zRegistration with state := .opened, gen := 1, r := true, nodeAny := true, tenant := 4, regionGen := 19, node := 8, baseOff := 8, length := 7, revokeStamp := 100, check := 19, freedAt := (some 8) })] }
def wTranslationCommands_12 : State :=
  { State.reset with xlt.sweep := true }
def wTranslationCommands_13 : State :=
  { State.reset with regs := [(218335968, 5), (218335999, 1)], xlt.regions := [(1, { zRegion with valid := true, pclass := 2, tenant := 5, elemFmt := 1, pathMask := 8, gen := 5, size := 8192, root := 1048576, flushDb := 1537, remoteOk := true, queueW := true, hostW := true, remoteW := true, check := 579209251 })], hp.decoders := [(3839, (0, 268435456))] }
def wTranslationCommands_16 : State :=
  { State.reset with xlt.windows := [(418, { zWindowDesc with valid := true, foreign := true, w := true, state := 1, tenant := 32, region := 2, dpaBase := 4, length := 3851430472055023362, regionOff := 1, rkey := 3, node := 3, conn := 4550931, check := 65536 })] }
def wTranslationCommands_17 : State :=
  { State.reset with xlt.extents := [(3, { zExtent with state := .active, w := true, tenant := 7, dpaBase := 5, length := 4, region := 65536, regionGen := 64, regionOff := 2, check := 8 })] }
def wTranslationCommands_19 : State :=
  { State.reset with xlt.extents := [(3, { zExtent with state := .active, w := true, tenant := 20, dpaBase := 4, length := 4, region := 5, regionGen := 5, regionOff := 4, port := 2, listed := true, reported := true })] }
theorem test_TranslationCommands :
    (wTranslationCommands_1.regsOk ∧ wTranslationCommands_1.xCached ((XKey.region 3) : XKey) = some ({ zCacheEntry with key := (XKey.region 3), copy := (XCopy.region zRegion) } : CacheEntry) ∧ ({ zCacheEntry with key := (XKey.region 3), copy := (XCopy.region zRegion) } : CacheEntry).copy.ok = false ∧ wTranslationCommands_1.xDram ((XKey.region 3) : XKey) = some ((XCopy.region { zRegion with check := 1510671665 }) : XCopy) ∧ ((XCopy.region { zRegion with check := 1510671665 }) : XCopy).ok = true) ∧
    ((wTranslationCommands_2.xlt.fills.find? fun ez => ez.key == ((XKey.registration 4194303) : XKey)) = some ({ zCacheEntry with key := (XKey.registration 4194303), copy := (XCopy.window { zWindowDesc with w := true, state := 2, region := 6174125, regionGen := 8, dpaBase := 6, length := 3, regionOff := 2199023255552, rkey := 7, node := 262143, conn := 1, check := 1785612025 }) } : CacheEntry) ∧ (wTranslationCommands_2.xlt.caches.filter fun x => !(x.key == ((XKey.registration 4194303) : XKey)) && x.key.cls == ((XKey.registration 4194303) : XKey).cls).length < ((XKey.registration 4194303) : XKey).capacity) ∧
    (wTranslationCommands_3.regsOk ∧ wTranslationCommands_3.commands ((Requester.warden) : Requester) xltPage ∧ (0 : BitVec 4).toNat ≤ 5 ∧ wTranslationCommands_3.xlt.invalBusy = none) ∧
    (wTranslationCommands_4.regsOk ∧ wTranslationCommands_4.commands ((Requester.warden) : Requester) xltPage ∧ (0 : BitVec 4).toNat ≤ 5 ∧ wTranslationCommands_4.xlt.invalBusy = some (zInval : Inval) ∧ wTranslationCommands_4.xlt.invalQueue.length < 64) ∧
    (wTranslationCommands_5.regsOk ∧ wTranslationCommands_5.commands ((Requester.warden) : Requester) xltPage ∧ (0 : BitVec 4).toNat ≤ 5 ∧ wTranslationCommands_5.xlt.invalBusy = some (zInval : Inval) ∧ 64 ≤ wTranslationCommands_5.xlt.invalQueue.length) ∧
    (wTranslationCommands_6.regsOk ∧ wTranslationCommands_6.xlt.invalBusy = some (zInval : Inval) ∧ (zInval : Inval).waiter = .none) ∧
    (wTranslationCommands_7.regsOk ∧ wTranslationCommands_7.xlt.invalBusy = some ({ zInval with waiter := (InvalFor.extent 4) } : Inval) ∧ ({ zInval with waiter := (InvalFor.extent 4) } : Inval).waiter = .extent (4 : Nat) ∧ tget wTranslationCommands_7.xlt.extents (4 : Nat) = some ({ zExtent with state := .releasing, w := true, region := 21, regionGen := 1, regionOff := 100, port := 19, ld := 8, check := 19 } : Extent)) ∧
    (wTranslationCommands_8.regsOk ∧ wTranslationCommands_8.xlt.invalBusy = some ({ zInval with waiter := (InvalFor.create 0 5 7) } : Inval) ∧ ({ zInval with waiter := (InvalFor.create 0 5 7) } : Inval).waiter = .create (0 : Nat) (5 : Nat) (7 : Nat)) ∧
    (wTranslationCommands_9.regsOk ∧ wTranslationCommands_9.xlt.invalBusy = some ({ zInval with waiter := (InvalFor.delete 4096 5 0) } : Inval) ∧ ({ zInval with waiter := (InvalFor.delete 4096 5 0) } : Inval).waiter = .delete (4096 : Nat) (5 : Nat) (0 : Nat)) ∧
    (wTranslationCommands_10.regsOk ∧ wTranslationCommands_10.commands ((Requester.warden) : Requester) xltPage ∧ wTranslationCommands_10.registrationAt (keyIndex (2049 : BitVec 32).toNat) = ({ zRegistration with state := .opened, gen := 1, w := true, nodeAny := true, tenant := 5, region := 3, regionGen := 3, node := 4096, baseOff := 21, length := 1, revokeStamp := 5, inflight := 3, refused := 65536, check := 21 } : Registration) ∧ ({ zRegistration with state := .opened, gen := 1, w := true, nodeAny := true, tenant := 5, region := 3, regionGen := 3, node := 4096, baseOff := 21, length := 1, revokeStamp := 5, inflight := 3, refused := 65536, check := 21 } : Registration).gen = keyGen (2049 : BitVec 32).toNat ∧ ({ zRegistration with state := .opened, gen := 1, w := true, nodeAny := true, tenant := 5, region := 3, regionGen := 3, node := 4096, baseOff := 21, length := 1, revokeStamp := 5, inflight := 3, refused := 65536, check := 21 } : Registration).state = .opened ∧ ({ zRegistration with state := .opened, gen := 1, w := true, nodeAny := true, tenant := 5, region := 3, regionGen := 3, node := 4096, baseOff := 21, length := 1, revokeStamp := 5, inflight := 3, refused := 65536, check := 21 } : Registration).inflight ≠ 0) ∧
    (wTranslationCommands_11.regsOk ∧ wTranslationCommands_11.commands ((Requester.warden) : Requester) xltPage ∧ wTranslationCommands_11.registrationAt (keyIndex (2049 : BitVec 32).toNat) = ({ zRegistration with state := .opened, gen := 1, r := true, nodeAny := true, tenant := 4, regionGen := 19, node := 8, baseOff := 8, length := 7, revokeStamp := 100, check := 19, freedAt := (some 8) } : Registration) ∧ ({ zRegistration with state := .opened, gen := 1, r := true, nodeAny := true, tenant := 4, regionGen := 19, node := 8, baseOff := 8, length := 7, revokeStamp := 100, check := 19, freedAt := (some 8) } : Registration).gen = keyGen (2049 : BitVec 32).toNat ∧ ({ zRegistration with state := .opened, gen := 1, r := true, nodeAny := true, tenant := 4, regionGen := 19, node := 8, baseOff := 8, length := 7, revokeStamp := 100, check := 19, freedAt := (some 8) } : Registration).state = .opened ∧ ({ zRegistration with state := .opened, gen := 1, r := true, nodeAny := true, tenant := 4, regionGen := 19, node := 8, baseOff := 8, length := 7, revokeStamp := 100, check := 19, freedAt := (some 8) } : Registration).inflight = 0) ∧
    (wTranslationCommands_12.regsOk ∧ wTranslationCommands_12.xlt.sweep = true ∧ wTranslationCommands_12.frozen = false) ∧
    ((∀ o, tget wTranslationCommands_13.xlt.windows (3839 : Fin 4096).val = some o → o.valid = false) ∧ wTranslationCommands_13.flag HP.BOUND ((3839 : Fin 4096).val / 512) ((3839 : Fin 4096).val / 32 % 16) = true ∧ wTranslationCommands_13.get HP.TENANT ((3839 : Fin 4096).val / 512) ((3839 : Fin 4096).val / 32 % 16) = ({ zWindowDesc with tenant := 5, region := 1, length := 268435456 } : WindowDesc).tenant.toNat ∧ ({ zWindowDesc with tenant := 5, region := 1, length := 268435456 } : WindowDesc).dpaBase.toNat % 2 ^ 28 = 0 ∧ ({ zWindowDesc with tenant := 5, region := 1, length := 268435456 } : WindowDesc).length.toNat % 2 ^ 28 = 0 ∧ tget wTranslationCommands_13.hp.decoders (3839 : Fin 4096).val = some (({ zWindowDesc with tenant := 5, region := 1, length := 268435456 } : WindowDesc).dpaBase.toNat, ({ zWindowDesc with tenant := 5, region := 1, length := 268435456 } : WindowDesc).length.toNat) ∧ ({ zWindowDesc with tenant := 5, region := 1, length := 268435456 } : WindowDesc).foreign = false ∧ wTranslationCommands_13.bindOk ({ zWindowDesc with tenant := 5, region := 1, length := 268435456 } : WindowDesc).tenant.toNat ({ zWindowDesc with tenant := 5, region := 1, length := 268435456 } : WindowDesc).region.toNat ({ zWindowDesc with tenant := 5, region := 1, length := 268435456 } : WindowDesc).regionOff.toNat ({ zWindowDesc with tenant := 5, region := 1, length := 268435456 } : WindowDesc).length.toNat ({ zWindowDesc with tenant := 5, region := 1, length := 268435456 } : WindowDesc).w = true) ∧
    ((zWindowDesc : WindowDesc).foreign = false ∧ State.reset.bindOk (zWindowDesc : WindowDesc).tenant.toNat (zWindowDesc : WindowDesc).region.toNat (zWindowDesc : WindowDesc).regionOff.toNat (zWindowDesc : WindowDesc).length.toNat (zWindowDesc : WindowDesc).w = false) ∧
    (wTranslationCommands_16.regsOk ∧ tget wTranslationCommands_16.xlt.windows (windowId (0 : Port).val (13 : Ld).val (2 : Fin 32).val) = some ({ zWindowDesc with valid := true, foreign := true, w := true, state := 1, tenant := 32, region := 2, dpaBase := 4, length := 3851430472055023362, regionOff := 1, rkey := 3, node := 3, conn := 4550931, check := 65536 } : WindowDesc) ∧ ({ zWindowDesc with valid := true, foreign := true, w := true, state := 1, tenant := 32, region := 2, dpaBase := 4, length := 3851430472055023362, regionOff := 1, rkey := 3, node := 3, conn := 4550931, check := 65536 } : WindowDesc).valid = true ∧ ({ zWindowDesc with valid := true, foreign := true, w := true, state := 1, tenant := 32, region := 2, dpaBase := 4, length := 3851430472055023362, regionOff := 1, rkey := 3, node := 3, conn := 4550931, check := 65536 } : WindowDesc).state = 1 ∧ wTranslationCommands_16.xlt.invalBusy = none) ∧
    (wTranslationCommands_17.regsOk ∧ wTranslationCommands_17.presented (0 : Port).val (0 : Ld).val = true ∧ (wTranslationCommands_17.ld (0 : Port).val (0 : Ld).val).release = none ∧ ((wTranslationCommands_17.ldExtents (0 : Port).val (0 : Ld).val).filter fun x => ([3] : List Nat).contains x.1) = [((3 : Nat), ({ zExtent with state := .active, w := true, tenant := 7, dpaBase := 5, length := 4, region := 65536, regionGen := 64, regionOff := 2, check := 8 } : Extent))] ∧ tget wTranslationCommands_17.xlt.extents (3 : Nat) = some ({ zExtent with state := .active, w := true, tenant := 7, dpaBase := 5, length := 4, region := 65536, regionGen := 64, regionOff := 2, check := 8 } : Extent) ∧ wTranslationCommands_17.xlt.invalBusy = none) ∧
    (State.reset.presented (0 : Port).val (0 : Ld).val = true ∧ ((State.reset.ldExtents (0 : Port).val (0 : Ld).val).filter fun x => ([] : List Nat).contains x.1) = []) ∧
    (wTranslationCommands_19.regsOk ∧ ((3 : Nat), ({ zExtent with state := .active, w := true, tenant := 20, dpaBase := 4, length := 4, region := 5, regionGen := 5, regionOff := 4, port := 2, listed := true, reported := true } : Extent)) ∈ wTranslationCommands_19.ldExtents (2 : Port).val (0 : Ld).val ∧ tget wTranslationCommands_19.xlt.extents (3 : Nat) = some ({ zExtent with state := .active, w := true, tenant := 20, dpaBase := 4, length := 4, region := 5, regionGen := 5, regionOff := 4, port := 2, listed := true, reported := true } : Extent) ∧ wTranslationCommands_19.xlt.invalBusy = none) :=
  ⟨(by simp only [regsOk_iff]; decide +kernel),
   (by decide +kernel),
   (by simp only [regsOk_iff, State.commands, State.governs, State.admits, State.wayClear]; decide +kernel),
   (by simp only [regsOk_iff, State.commands, State.governs, State.admits, State.wayClear]; decide +kernel),
   (by simp only [regsOk_iff, State.commands, State.governs, State.admits, State.wayClear]; decide +kernel),
   (by simp only [regsOk_iff]; decide +kernel),
   (by simp only [regsOk_iff]; decide +kernel),
   (by simp only [regsOk_iff]; decide +kernel),
   (by simp only [regsOk_iff]; decide +kernel),
   (by simp only [regsOk_iff, State.commands, State.governs, State.admits, State.wayClear]; decide +kernel),
   (by simp only [regsOk_iff, State.commands, State.governs, State.admits, State.wayClear]; decide +kernel),
   (by simp only [regsOk_iff]; decide +kernel),
   ⟨by first | decide +kernel | simp, by decide +kernel⟩,
   (by decide +kernel),
   (by simp only [regsOk_iff]; decide +kernel),
   (by simp only [regsOk_iff]; decide +kernel),
   (by decide +kernel),
   (by simp only [regsOk_iff]; decide +kernel)⟩

def wRegionCommands_1 : State := ring (entry (.regionCreate 2 1 1 0 0 0)).encode { (State.reset.put FTL.USER_BLKS 100 48) with tier.quotas := [(0, Quota.seal { noQuota with t2Quota := 100 })] }
def wRegionCommands_2 : State := ring (entry (.regionGrow 65541 4)).encode State.reset
def wRegionCommands_3 : State := ring (entry (.regionDelete 65541)).encode State.reset
def wRegionCommands_4 : State := ring (entry (.regionDelete 65541)).encode { State.reset with xlt.registrations := [(2, openKey 0)] }
def wRegionCommands_5 : State := ring (entry (.regOpen 65541 0 4096 true true true 0)).encode State.reset
def wRegionCommands_6 : State := ring (entry (.revoke 2049)).encode { State.reset with xlt.registrations := [(2, openKey 1)] }
def wRegionCommands_7 : State := ring (entry (.revoke 2049)).encode { State.reset with xlt.registrations := [(2, openKey 0)] }
theorem test_RegionCommands :
    (wRegionCommands_1.regsOk ∧ wRegionCommands_1.fetches (0 : BitVec 20).toNat (entry (.regionCreate 2 1 1 0 0 0)).encode ringQueue (entry (.regionCreate 2 1 1 0 0 0)) (afterFetch wRegionCommands_1 ringQueue) ∧ (entry (.regionCreate 2 1 1 0 0 0)).cmd = .regionCreate (2 : BitVec 24) (1 : BitVec 32) (1 : BitVec 32) (0 : BitVec 32) (0 : BitVec 20) (0 : BitVec 4) ∧ ((afterFetch wRegionCommands_1 ringQueue).begun (0 : BitVec 20).toNat ringQueue ((afterFetch wRegionCommands_1 ringQueue).flight (0 : BitVec 20).toNat ringQueue (entry (.regionCreate 2 1 1 0 0 0)))).regionCreate ringQueue.tenant (2 : BitVec 24).toNat (1 : BitVec 32) (1 : BitVec 32) (0 : BitVec 32) (0 : BitVec 20) (0 : BitVec 4) = ((((afterFetch wRegionCommands_1 ringQueue).begun (0 : BitVec 20).toNat ringQueue ((afterFetch wRegionCommands_1 ringQueue).flight (0 : BitVec 20).toNat ringQueue (entry (.regionCreate 2 1 1 0 0 0)))).regionCreate ringQueue.tenant (2 : BitVec 24).toNat (1 : BitVec 32) (1 : BitVec 32) (0 : BitVec 32) (0 : BitVec 20) (0 : BitVec 4)).1, (((afterFetch wRegionCommands_1 ringQueue).begun (0 : BitVec 20).toNat ringQueue ((afterFetch wRegionCommands_1 ringQueue).flight (0 : BitVec 20).toNat ringQueue (entry (.regionCreate 2 1 1 0 0 0)))).regionCreate ringQueue.tenant (2 : BitVec 24).toNat (1 : BitVec 32) (1 : BitVec 32) (0 : BitVec 32) (0 : BitVec 20) (0 : BitVec 4)).2) ∧ (((afterFetch wRegionCommands_1 ringQueue).begun (0 : BitVec 20).toNat ringQueue ((afterFetch wRegionCommands_1 ringQueue).flight (0 : BitVec 20).toNat ringQueue (entry (.regionCreate 2 1 1 0 0 0)))).regionCreate ringQueue.tenant (2 : BitVec 24).toNat (1 : BitVec 32) (1 : BitVec 32) (0 : BitVec 32) (0 : BitVec 20) (0 : BitVec 4)).2.status = .ok ∧ (((afterFetch wRegionCommands_1 ringQueue).begun (0 : BitVec 20).toNat ringQueue ((afterFetch wRegionCommands_1 ringQueue).flight (0 : BitVec 20).toNat ringQueue (entry (.regionCreate 2 1 1 0 0 0)))).regionCreate ringQueue.tenant (2 : BitVec 24).toNat (1 : BitVec 32) (1 : BitVec 32) (0 : BitVec 32) (0 : BitVec 20) (0 : BitVec 4)).1.xlt.invalBusy = none) ∧
    (wRegionCommands_2.regsOk ∧ wRegionCommands_2.fetches (0 : BitVec 20).toNat (entry (.regionGrow 65541 4)).encode ringQueue (entry (.regionGrow 65541 4)) (afterFetch wRegionCommands_2 ringQueue) ∧ (entry (.regionGrow 65541 4)).cmd = .regionGrow ((65541 : BitVec 40) : BitVec 40) (4 : BitVec 32) ∧ ((afterFetch wRegionCommands_2 ringQueue).begun (0 : BitVec 20).toNat ringQueue ((afterFetch wRegionCommands_2 ringQueue).flight (0 : BitVec 20).toNat ringQueue (entry (.regionGrow 65541 4)))).walkQueue ringQueue.tenant ((65541 : BitVec 40) : BitVec 40) 0 0 false = ((((afterFetch wRegionCommands_2 ringQueue).begun (0 : BitVec 20).toNat ringQueue ((afterFetch wRegionCommands_2 ringQueue).flight (0 : BitVec 20).toNat ringQueue (entry (.regionGrow 65541 4)))).walkQueue ringQueue.tenant ((65541 : BitVec 40) : BitVec 40) 0 0 false).1, .ok ringRegion) ∧ (((afterFetch wRegionCommands_2 ringQueue).begun (0 : BitVec 20).toNat ringQueue ((afterFetch wRegionCommands_2 ringQueue).flight (0 : BitVec 20).toNat ringQueue (entry (.regionGrow 65541 4)))).walkQueue ringQueue.tenant ((65541 : BitVec 40) : BitVec 40) 0 0 false).1.regionGrow ringQueue.tenant (handleId ((65541 : BitVec 40) : BitVec 40)) (4 : BitVec 32).toNat = (((((afterFetch wRegionCommands_2 ringQueue).begun (0 : BitVec 20).toNat ringQueue ((afterFetch wRegionCommands_2 ringQueue).flight (0 : BitVec 20).toNat ringQueue (entry (.regionGrow 65541 4)))).walkQueue ringQueue.tenant ((65541 : BitVec 40) : BitVec 40) 0 0 false).1.regionGrow ringQueue.tenant (handleId ((65541 : BitVec 40) : BitVec 40)) (4 : BitVec 32).toNat).1, none) ∧ ((((afterFetch wRegionCommands_2 ringQueue).begun (0 : BitVec 20).toNat ringQueue ((afterFetch wRegionCommands_2 ringQueue).flight (0 : BitVec 20).toNat ringQueue (entry (.regionGrow 65541 4)))).walkQueue ringQueue.tenant ((65541 : BitVec 40) : BitVec 40) 0 0 false).1.regionGrow ringQueue.tenant (handleId ((65541 : BitVec 40) : BitVec 40)) (4 : BitVec 32).toNat).1.xlt.invalBusy = none) ∧
    (wRegionCommands_3.regsOk ∧ wRegionCommands_3.fetches (0 : BitVec 20).toNat (entry (.regionDelete 65541)).encode ringQueue (entry (.regionDelete 65541)) (afterFetch wRegionCommands_3 ringQueue) ∧ (entry (.regionDelete 65541)).cmd = .regionDelete ((65541 : BitVec 40) : BitVec 40) ∧ ((afterFetch wRegionCommands_3 ringQueue).begun (0 : BitVec 20).toNat ringQueue ((afterFetch wRegionCommands_3 ringQueue).flight (0 : BitVec 20).toNat ringQueue (entry (.regionDelete 65541)))).walkQueue ringQueue.tenant ((65541 : BitVec 40) : BitVec 40) 0 0 false = ((((afterFetch wRegionCommands_3 ringQueue).begun (0 : BitVec 20).toNat ringQueue ((afterFetch wRegionCommands_3 ringQueue).flight (0 : BitVec 20).toNat ringQueue (entry (.regionDelete 65541)))).walkQueue ringQueue.tenant ((65541 : BitVec 40) : BitVec 40) 0 0 false).1, .ok ringRegion) ∧ (((afterFetch wRegionCommands_3 ringQueue).begun (0 : BitVec 20).toNat ringQueue ((afterFetch wRegionCommands_3 ringQueue).flight (0 : BitVec 20).toNat ringQueue (entry (.regionDelete 65541)))).walkQueue ringQueue.tenant ((65541 : BitVec 40) : BitVec 40) 0 0 false).1.regionNamed (handleId ((65541 : BitVec 40) : BitVec 40)) = false ∧ (((afterFetch wRegionCommands_3 ringQueue).begun (0 : BitVec 20).toNat ringQueue ((afterFetch wRegionCommands_3 ringQueue).flight (0 : BitVec 20).toNat ringQueue (entry (.regionDelete 65541)))).walkQueue ringQueue.tenant ((65541 : BitVec 40) : BitVec 40) 0 0 false).1.xlt.invalBusy = none) ∧
    (wRegionCommands_4.regsOk ∧ wRegionCommands_4.fetches (0 : BitVec 20).toNat (entry (.regionDelete 65541)).encode ringQueue (entry (.regionDelete 65541)) (afterFetch wRegionCommands_4 ringQueue) ∧ (entry (.regionDelete 65541)).cmd = .regionDelete ((65541 : BitVec 40) : BitVec 40) ∧ ((afterFetch wRegionCommands_4 ringQueue).begun (0 : BitVec 20).toNat ringQueue ((afterFetch wRegionCommands_4 ringQueue).flight (0 : BitVec 20).toNat ringQueue (entry (.regionDelete 65541)))).walkQueue ringQueue.tenant ((65541 : BitVec 40) : BitVec 40) 0 0 false = ((((afterFetch wRegionCommands_4 ringQueue).begun (0 : BitVec 20).toNat ringQueue ((afterFetch wRegionCommands_4 ringQueue).flight (0 : BitVec 20).toNat ringQueue (entry (.regionDelete 65541)))).walkQueue ringQueue.tenant ((65541 : BitVec 40) : BitVec 40) 0 0 false).1, .ok ringRegion) ∧ (((afterFetch wRegionCommands_4 ringQueue).begun (0 : BitVec 20).toNat ringQueue ((afterFetch wRegionCommands_4 ringQueue).flight (0 : BitVec 20).toNat ringQueue (entry (.regionDelete 65541)))).walkQueue ringQueue.tenant ((65541 : BitVec 40) : BitVec 40) 0 0 false).1.regionNamed (handleId ((65541 : BitVec 40) : BitVec 40)) = true) ∧
    (wRegionCommands_5.regsOk ∧ wRegionCommands_5.fetches (0 : BitVec 20).toNat (entry (.regOpen 65541 0 4096 true true true 0)).encode ringQueue (entry (.regOpen 65541 0 4096 true true true 0)) (afterFetch wRegionCommands_5 ringQueue) ∧ (entry (.regOpen 65541 0 4096 true true true 0)).cmd = .regOpen ((65541 : BitVec 40) : BitVec 40) (0 : BitVec 64) (4096 : BitVec 64) (true : Bool) (true : Bool) (true : Bool) (0 : BitVec 18) ∧ ((afterFetch wRegionCommands_5 ringQueue).begun (0 : BitVec 20).toNat ringQueue ((afterFetch wRegionCommands_5 ringQueue).flight (0 : BitVec 20).toNat ringQueue (entry (.regOpen 65541 0 4096 true true true 0)))).walkQueue ringQueue.tenant ((65541 : BitVec 40) : BitVec 40) (0 : BitVec 64).toNat (4096 : BitVec 64).toNat false = ((((afterFetch wRegionCommands_5 ringQueue).begun (0 : BitVec 20).toNat ringQueue ((afterFetch wRegionCommands_5 ringQueue).flight (0 : BitVec 20).toNat ringQueue (entry (.regOpen 65541 0 4096 true true true 0)))).walkQueue ringQueue.tenant ((65541 : BitVec 40) : BitVec 40) (0 : BitVec 64).toNat (4096 : BitVec 64).toNat false).1, .ok ringRegion) ∧ (((afterFetch wRegionCommands_5 ringQueue).begun (0 : BitVec 20).toNat ringQueue ((afterFetch wRegionCommands_5 ringQueue).flight (0 : BitVec 20).toNat ringQueue (entry (.regOpen 65541 0 4096 true true true 0)))).walkQueue ringQueue.tenant ((65541 : BitVec 40) : BitVec 40) (0 : BitVec 64).toNat (4096 : BitVec 64).toNat false).1.regOpen ringQueue.tenant ringRegion (handleId ((65541 : BitVec 40) : BitVec 40)) (0 : BitVec 64).toNat (4096 : BitVec 64).toNat (true : Bool) (true : Bool) (true : Bool) (0 : BitVec 18).toNat = (((((afterFetch wRegionCommands_5 ringQueue).begun (0 : BitVec 20).toNat ringQueue ((afterFetch wRegionCommands_5 ringQueue).flight (0 : BitVec 20).toNat ringQueue (entry (.regOpen 65541 0 4096 true true true 0)))).walkQueue ringQueue.tenant ((65541 : BitVec 40) : BitVec 40) (0 : BitVec 64).toNat (4096 : BitVec 64).toNat false).1.regOpen ringQueue.tenant ringRegion (handleId ((65541 : BitVec 40) : BitVec 40)) (0 : BitVec 64).toNat (4096 : BitVec 64).toNat (true : Bool) (true : Bool) (true : Bool) (0 : BitVec 18).toNat).1, ((((afterFetch wRegionCommands_5 ringQueue).begun (0 : BitVec 20).toNat ringQueue ((afterFetch wRegionCommands_5 ringQueue).flight (0 : BitVec 20).toNat ringQueue (entry (.regOpen 65541 0 4096 true true true 0)))).walkQueue ringQueue.tenant ((65541 : BitVec 40) : BitVec 40) (0 : BitVec 64).toNat (4096 : BitVec 64).toNat false).1.regOpen ringQueue.tenant ringRegion (handleId ((65541 : BitVec 40) : BitVec 40)) (0 : BitVec 64).toNat (4096 : BitVec 64).toNat (true : Bool) (true : Bool) (true : Bool) (0 : BitVec 18).toNat).2) ∧ ((((afterFetch wRegionCommands_5 ringQueue).begun (0 : BitVec 20).toNat ringQueue ((afterFetch wRegionCommands_5 ringQueue).flight (0 : BitVec 20).toNat ringQueue (entry (.regOpen 65541 0 4096 true true true 0)))).walkQueue ringQueue.tenant ((65541 : BitVec 40) : BitVec 40) (0 : BitVec 64).toNat (4096 : BitVec 64).toNat false).1.regOpen ringQueue.tenant ringRegion (handleId ((65541 : BitVec 40) : BitVec 40)) (0 : BitVec 64).toNat (4096 : BitVec 64).toNat (true : Bool) (true : Bool) (true : Bool) (0 : BitVec 18).toNat).2.status = .ok) ∧
    (wRegionCommands_6.regsOk ∧ wRegionCommands_6.fetches (0 : BitVec 20).toNat (entry (.revoke 2049)).encode ringQueue (entry (.revoke 2049)) (afterFetch wRegionCommands_6 ringQueue) ∧ (entry (.revoke 2049)).cmd = .revoke (2049 : BitVec 32) ∧ (afterFetch wRegionCommands_6 ringQueue).registrationAt (keyIndex (2049 : BitVec 32).toNat) = (openKey 1 : Registration) ∧ (openKey 1 : Registration).tenant = ringQueue.tenant ∧ (openKey 1 : Registration).gen = keyGen (2049 : BitVec 32).toNat ∧ (openKey 1 : Registration).state = .opened ∧ (openKey 1 : Registration).inflight ≠ 0) ∧
    (wRegionCommands_7.regsOk ∧ wRegionCommands_7.fetches (0 : BitVec 20).toNat (entry (.revoke 2049)).encode ringQueue (entry (.revoke 2049)) (afterFetch wRegionCommands_7 ringQueue) ∧ (entry (.revoke 2049)).cmd = .revoke (2049 : BitVec 32) ∧ (afterFetch wRegionCommands_7 ringQueue).registrationAt (keyIndex (2049 : BitVec 32).toNat) = (openKey 0 : Registration) ∧ (openKey 0 : Registration).tenant = ringQueue.tenant ∧ (openKey 0 : Registration).gen = keyGen (2049 : BitVec 32).toNat ∧ (openKey 0 : Registration).state = .opened ∧ (openKey 0 : Registration).inflight = 0) :=
  ⟨⟨by rw [regsOk_iff]; decide +kernel, fetches_of (by decide +kernel) (by decide +kernel) (show _ by decide +kernel) (by decide +kernel) (by decide +kernel) (show _ by decide +kernel) (by decide +kernel), rfl, rfl, by decide +kernel⟩,
   ⟨by rw [regsOk_iff]; decide +kernel, fetches_of (by decide +kernel) (by decide +kernel) (show _ by decide +kernel) (by decide +kernel) (by decide +kernel) (show _ by decide +kernel) (by decide +kernel), rfl, pair_of_ok (by decide +kernel), Prod.ext rfl (by decide +kernel), by decide +kernel⟩,
   ⟨by rw [regsOk_iff]; decide +kernel, fetches_of (by decide +kernel) (by decide +kernel) (show _ by decide +kernel) (by decide +kernel) (by decide +kernel) (show _ by decide +kernel) (by decide +kernel), rfl, pair_of_ok (by decide +kernel), by decide +kernel⟩,
   ⟨by rw [regsOk_iff]; decide +kernel, fetches_of (by decide +kernel) (by decide +kernel) (show _ by decide +kernel) (by decide +kernel) (by decide +kernel) (show _ by decide +kernel) (by decide +kernel), rfl, pair_of_ok (by decide +kernel), by decide +kernel⟩,
   ⟨by rw [regsOk_iff]; decide +kernel, fetches_of (by decide +kernel) (by decide +kernel) (show _ by decide +kernel) (by decide +kernel) (by decide +kernel) (show _ by decide +kernel) (by decide +kernel), rfl, pair_of_ok (by decide +kernel), rfl, by decide +kernel⟩,
   ⟨by rw [regsOk_iff]; decide +kernel, fetches_of (by decide +kernel) (by decide +kernel) (show _ by decide +kernel) (by decide +kernel) (by decide +kernel) (show _ by decide +kernel) (by decide +kernel), rfl, by decide +kernel⟩,
   ⟨by rw [regsOk_iff]; decide +kernel, fetches_of (by decide +kernel) (by decide +kernel) (show _ by decide +kernel) (by decide +kernel) (by decide +kernel) (show _ by decide +kernel) (by decide +kernel), rfl, by decide +kernel⟩⟩

def wHostLinks_3 : State :=
  { State.reset with regs := [(218105951, 1)] }
def wHostLinks_4 : State :=
  { State.reset with regs := [(218106015, 1)] }
def wHostLinks_7 : State :=
  { State.reset with hp.released := true }
def wHostLinks_9 : State :=
  { State.reset with hp.released := true }
def wHostLinks_10 : State :=
  { State.reset with hp.released := true }
def wHostLinks_14 : State :=
  { State.reset with regs := [(218138684, 1), (218139551, 1)], hp.released := true }
def wHostLinks_15 : State :=
  { State.reset with hp.released := true }
def wHostLinks_16 : State :=
  { State.reset with regs := [(218171551, 1)] }
theorem test_HostLinks :
    (State.reset.regsOk ∧ (0 : Link).val < State.reset.linkCount (0 : Port).val ∧ (State.reset.link (0 : Port).val (0 : Link).val).perst = false ∧ State.reset.clk.pllDown.contains (6 + (0 : Port).val) = false ∧ (0 : BitVec 4).toNat ≤ State.reset.get HP.MAX_RATE (0 : Port).val ∧ (1 : BitVec 5).toNat ≤ State.reset.linkLanes (0 : Port).val ∧ (1 : BitVec 5) ∈ [1, 2, 4, 8, 16]) ∧
    (State.reset.regsOk ∧ (0 : Link).val < State.reset.linkCount (0 : Port).val ∧ (State.reset.link (0 : Port).val (0 : Link).val).perst = false ∧ State.reset.clk.pllDown.contains (6 + (0 : Port).val) = false ∧ (0 : BitVec 4).toNat ≤ State.reset.get HP.MAX_RATE (0 : Port).val ∧ (1 : BitVec 5).toNat ≤ State.reset.linkLanes (0 : Port).val ∧ (1 : BitVec 5) ∈ [1, 2, 4, 8, 16]) ∧
    (wHostLinks_3.regsOk ∧ wHostLinks_3.flag HP.UP (0 : Port).val (1 : Link).val = true) ∧
    (wHostLinks_4.flag HP.UP (0 : Port).val (3 : Link).val = true) ∧
    (State.reset.regsOk) ∧
    (wHostLinks_7.hp.released = true ∧ wHostLinks_7.presented (0 : Port).val (0 : Ld).val = true) ∧
    (State.reset.hp.released = false ∧ State.reset.responds (0 : Port).val (0 : Ld).val (false : Bool) = true) ∧
    (wHostLinks_9.hp.released = true ∧ wHostLinks_9.responds (0 : Port).val (0 : Ld).val (false : Bool) = true) ∧
    (wHostLinks_10.hp.released = true ∧ wHostLinks_10.responds (0 : Port).val (0 : Ld).val (false : Bool) = true) ∧
    (State.reset.responds (0 : Port).val (5 : Ld).val (false : Bool) = false) ∧
    (State.reset.presented (0 : Port).val (8 : Ld).val = false) ∧
    (State.reset.presented (0 : Port).val (0 : Ld).val = true ∧ State.reset.hp.released = false) ∧
    (wHostLinks_14.hp.released = true ∧ wHostLinks_14.presented (1 : Port).val (12 : Ld).val = true ∧ wHostLinks_14.flag HP.BOUND (1 : Port).val (12 : Ld).val = true) ∧
    (wHostLinks_15.hp.released = true ∧ wHostLinks_15.flag HP.BOUND (0 : Port).val (0 : Ld).val = false) ∧
    (wHostLinks_16.regsOk ∧ wHostLinks_16.flag HP.UP (2 : Port).val (3 : Link).val = true ∧ (wHostLinks_16.link (2 : Port).val (3 : Link).val).viral = false) :=
  ⟨(by simp only [regsOk_iff]; decide +kernel),
   (by simp only [regsOk_iff]; decide +kernel),
   (by simp only [regsOk_iff]; decide +kernel),
   (by decide +kernel),
   (by simp only [regsOk_iff]; decide +kernel),
   (by decide +kernel),
   (by decide +kernel),
   (show _ by decide +kernel),
   (by decide +kernel),
   (by decide +kernel),
   (show _ by decide +kernel),
   (by decide +kernel),
   (by decide +kernel),
   (show _ by decide +kernel),
   (by simp only [regsOk_iff]; decide +kernel)⟩

def wCxlMemAccesses_2 : State :=
  { State.reset with regs := [(218105918, 1), (218105919, 1)] }
def wCxlMemAccesses_3 : State :=
  { State.reset with regs := [(218335294, 1), (218335295, 1), (218335775, 1), (251660544, 1), (293603360, 1)], xlt.regions := [(1, { zRegion with valid := true, pclass := 1, tenant := 5, elemFmt := 1, subst := 1, pathMask := 15, gen := 5, size := 4, root := 1048576, flushDb := 1537, remoteOk := true, queueW := true, hostW := true, remoteW := true, check := 2475005935 })], xlt.bmap := [(4294967298, { zBme with alloc := true, pbn := 9, chk := 181 })], xlt.windows := [(3584, { zWindowDesc with valid := true, w := true, r := true, state := 1, tenant := 5, region := 1, regionGen := 5, length := 262144, check := 3259651661 })], hp.memoryActive := true }
def wCxlMemAccesses_5 : State :=
  { State.reset with regs := [(218302526, 1), (218302527, 1)] }
def wCxlMemAccesses_7 : State :=
  { State.reset with regs := [(218105916, 1), (218105918, 1), (218105919, 1), (218106495, 1)], xlt.windows := [(96, { zWindowDesc with valid := true, w := true, r := true, state := 1, tenant := 5, region := 1, regionGen := 5, length := 262144, check := 3259651661 })], hp.memoryActive := true }
def wCxlMemAccesses_8 : State :=
  { State.reset with hp.cmps := [{ zCmpWait with port := 7, ld := 9, link := 2, tag := 7 }] }
def wCxlMemAccesses_9 : State :=
  { State.reset with hp.forwards := [{ zForward with ld := 11, tag := 7, read := true, window := 5, dpa := 19, conn := 19, pend := (some (13407807929942597099574024998205846127479365820592393377723561443721764030073546976801874298166903427690031858186486050853753882811946569946433649006084095, (18446744073709551615, true))) }] }
def wCxlMemAccesses_11 : State :=
  { State.reset with regs := [(218302526, 1), (218302527, 1)] }
def wCxlMemAccesses_12 : State :=
  { State.reset with hp.lds := [(102, { zLdState with gpf := (some { zGpf with regions := [0], covered := [1], phase2 := true, blocks := [3, 0, 5] }) })] }
theorem test_CxlMemAccesses :
    (wCxlMemAccesses_2.regsOk ∧ wCxlMemAccesses_2.linkLive (0 : Port).val (0 : Ld).val = true ∧ wCxlMemAccesses_2.cxlTarget (0 : Port).val (0 : Ld).val (0 : BitVec 64).toNat = none) ∧
    (wCxlMemAccesses_3.regsOk ∧ wCxlMemAccesses_3.linkLive (7 : Port).val (0 : Ld).val = true ∧ wCxlMemAccesses_3.inactive = false ∧ wCxlMemAccesses_3.cxlTarget (7 : Port).val (0 : Ld).val (131136 : BitVec 64).toNat = some ((Target.local 3584 (XKey.window 3584) { zAccess with region := 1, gen := 5, off := 131136, len := 64, tenant := 5, bound := true, inside := true, mayRead := true, mayWrite := true }) : Target) ∧ wCxlMemAccesses_3.targetCheck ((Target.local 3584 (XKey.window 3584) { zAccess with region := 1, gen := 5, off := 131136, len := 64, tenant := 5, bound := true, inside := true, mayRead := true, mayWrite := true }) : Target) ((131136 : BitVec 64).toNat / 64 * 64) = (({ State.reset with regs := [(218335294, 1), (218335295, 1), (218335775, 1), (251660544, 1), (293603360, 1)], xlt.regions := [(1, { zRegion with valid := true, pclass := 1, tenant := 5, elemFmt := 1, subst := 1, pathMask := 15, gen := 5, size := 4, root := 1048576, flushDb := 1537, remoteOk := true, queueW := true, hostW := true, remoteW := true, check := 2475005935 })], xlt.bmap := [(4294967298, { zBme with alloc := true, pbn := 9, chk := 181 })], xlt.windows := [(3584, { zWindowDesc with valid := true, w := true, r := true, state := 1, tenant := 5, region := 1, regionGen := 5, length := 262144, check := 3259651661 })], hp.memoryActive := true } : State), .ok (.local (3584 : Nat) ((XKey.window 3584) : XKey) ({ zAccess with region := 1, gen := 5, off := 131136, len := 64, tenant := 5, bound := true, inside := true, mayRead := true, mayWrite := true } : Access))) ∧ ({ State.reset with regs := [(218335294, 1), (218335295, 1), (218335775, 1), (251660544, 1), (293603360, 1)], xlt.regions := [(1, { zRegion with valid := true, pclass := 1, tenant := 5, elemFmt := 1, subst := 1, pathMask := 15, gen := 5, size := 4, root := 1048576, flushDb := 1537, remoteOk := true, queueW := true, hostW := true, remoteW := true, check := 2475005935 })], xlt.bmap := [(4294967298, { zBme with alloc := true, pbn := 9, chk := 181 })], xlt.windows := [(3584, { zWindowDesc with valid := true, w := true, r := true, state := 1, tenant := 5, region := 1, regionGen := 5, length := 262144, check := 3259651661 })], hp.memoryActive := true } : State).checks ({ zAccess with region := 1, gen := 5, off := 131136, len := 64, tenant := 5, bound := true, inside := true, mayRead := true, mayWrite := true } : Access) .host false = (({ State.reset with regs := [(218335294, 1), (218335295, 1), (218335775, 1), (251660544, 1), (293603360, 1)], xlt.regions := [(1, { zRegion with valid := true, pclass := 1, tenant := 5, elemFmt := 1, subst := 1, pathMask := 15, gen := 5, size := 4, root := 1048576, flushDb := 1537, remoteOk := true, queueW := true, hostW := true, remoteW := true, check := 2475005935 })], xlt.bmap := [(4294967298, { zBme with alloc := true, pbn := 9, chk := 181 })], xlt.windows := [(3584, { zWindowDesc with valid := true, w := true, r := true, state := 1, tenant := 5, region := 1, regionGen := 5, length := 262144, check := 3259651661 })], xlt.fills := [{ zCacheEntry with key := (XKey.region 1), copy := (XCopy.region { zRegion with valid := true, pclass := 1, tenant := 5, elemFmt := 1, subst := 1, pathMask := 15, gen := 5, size := 4, root := 1048576, flushDb := 1537, remoteOk := true, queueW := true, hostW := true, remoteW := true, check := 2475005935 }), used := true }], hp.memoryActive := true } : State), .ok ({ zRegion with valid := true, pclass := 1, tenant := 5, elemFmt := 1, subst := 1, pathMask := 15, gen := 5, size := 4, root := 1048576, flushDb := 1537, remoteOk := true, queueW := true, hostW := true, remoteW := true, check := 2475005935 } : Region)) ∧ ({ State.reset with regs := [(218335294, 1), (218335295, 1), (218335775, 1), (251660544, 1), (293603360, 1)], xlt.regions := [(1, { zRegion with valid := true, pclass := 1, tenant := 5, elemFmt := 1, subst := 1, pathMask := 15, gen := 5, size := 4, root := 1048576, flushDb := 1537, remoteOk := true, queueW := true, hostW := true, remoteW := true, check := 2475005935 })], xlt.bmap := [(4294967298, { zBme with alloc := true, pbn := 9, chk := 181 })], xlt.windows := [(3584, { zWindowDesc with valid := true, w := true, r := true, state := 1, tenant := 5, region := 1, regionGen := 5, length := 262144, check := 3259651661 })], xlt.fills := [{ zCacheEntry with key := (XKey.region 1), copy := (XCopy.region { zRegion with valid := true, pclass := 1, tenant := 5, elemFmt := 1, subst := 1, pathMask := 15, gen := 5, size := 4, root := 1048576, flushDb := 1537, remoteOk := true, queueW := true, hostW := true, remoteW := true, check := 2475005935 }), used := true }], hp.memoryActive := true } : State).resolve ({ zAccess with region := 1, gen := 5, off := 131136, len := 64, tenant := 5, bound := true, inside := true, mayRead := true, mayWrite := true } : Access).region ({ zRegion with valid := true, pclass := 1, tenant := 5, elemFmt := 1, subst := 1, pathMask := 15, gen := 5, size := 4, root := 1048576, flushDb := 1537, remoteOk := true, queueW := true, hostW := true, remoteW := true, check := 2475005935 } : Region) ({ zAccess with region := 1, gen := 5, off := 131136, len := 64, tenant := 5, bound := true, inside := true, mayRead := true, mayWrite := true } : Access).off = (({ State.reset with regs := [(218335294, 1), (218335295, 1), (218335775, 1), (251660544, 1), (293603360, 1)], xlt.regions := [(1, { zRegion with valid := true, pclass := 1, tenant := 5, elemFmt := 1, subst := 1, pathMask := 15, gen := 5, size := 4, root := 1048576, flushDb := 1537, remoteOk := true, queueW := true, hostW := true, remoteW := true, check := 2475005935 })], xlt.bmap := [(4294967298, { zBme with alloc := true, pbn := 9, chk := 181 })], xlt.windows := [(3584, { zWindowDesc with valid := true, w := true, r := true, state := 1, tenant := 5, region := 1, regionGen := 5, length := 262144, check := 3259651661 })], xlt.fills := [{ zCacheEntry with key := (XKey.region 1), copy := (XCopy.region { zRegion with valid := true, pclass := 1, tenant := 5, elemFmt := 1, subst := 1, pathMask := 15, gen := 5, size := 4, root := 1048576, flushDb := 1537, remoteOk := true, queueW := true, hostW := true, remoteW := true, check := 2475005935 }), used := true }, { zCacheEntry with key := (XKey.block 1 2), copy := (XCopy.block { zBme with alloc := true, pbn := 9, chk := 181 }), used := true }], hp.memoryActive := true } : State), .ok ({ zPlace64 with region := 1, desc := { zRegion with valid := true, pclass := 1, tenant := 5, elemFmt := 1, subst := 1, pathMask := 15, gen := 5, size := 4, root := 1048576, flushDb := 1537, remoteOk := true, queueW := true, hostW := true, remoteW := true, check := 2475005935 }, blk := 2, bme := { zBme with alloc := true, pbn := 9, chk := 181 }, sector := 9217 } : Place64)) ∧ ({ zPlace64 with region := 1, desc := { zRegion with valid := true, pclass := 1, tenant := 5, elemFmt := 1, subst := 1, pathMask := 15, gen := 5, size := 4, root := 1048576, flushDb := 1537, remoteOk := true, queueW := true, hostW := true, remoteW := true, check := 2475005935 }, blk := 2, bme := { zBme with alloc := true, pbn := 9, chk := 181 }, sector := 9217 } : Place64).bme.zero = false ∧ ({ State.reset with regs := [(218335294, 1), (218335295, 1), (218335775, 1), (251660544, 1), (293603360, 1)], xlt.regions := [(1, { zRegion with valid := true, pclass := 1, tenant := 5, elemFmt := 1, subst := 1, pathMask := 15, gen := 5, size := 4, root := 1048576, flushDb := 1537, remoteOk := true, queueW := true, hostW := true, remoteW := true, check := 2475005935 })], xlt.bmap := [(4294967298, { zBme with alloc := true, pbn := 9, chk := 181 })], xlt.windows := [(3584, { zWindowDesc with valid := true, w := true, r := true, state := 1, tenant := 5, region := 1, regionGen := 5, length := 262144, check := 3259651661 })], xlt.fills := [{ zCacheEntry with key := (XKey.region 1), copy := (XCopy.region { zRegion with valid := true, pclass := 1, tenant := 5, elemFmt := 1, subst := 1, pathMask := 15, gen := 5, size := 4, root := 1048576, flushDb := 1537, remoteOk := true, queueW := true, hostW := true, remoteW := true, check := 2475005935 }), used := true }, { zCacheEntry with key := (XKey.block 1 2), copy := (XCopy.block { zBme with alloc := true, pbn := 9, chk := 181 }), used := true }], hp.memoryActive := true } : State).block (pbnOf ({ zPlace64 with region := 1, desc := { zRegion with valid := true, pclass := 1, tenant := 5, elemFmt := 1, subst := 1, pathMask := 15, gen := 5, size := 4, root := 1048576, flushDb := 1537, remoteOk := true, queueW := true, hostW := true, remoteW := true, check := 2475005935 }, blk := 2, bme := { zBme with alloc := true, pbn := 9, chk := 181 }, sector := 9217 } : Place64).sector) = none ∧ 0 < ({ State.reset with regs := [(218335294, 1), (218335295, 1), (218335775, 1), (251660544, 1), (293603360, 1)], xlt.regions := [(1, { zRegion with valid := true, pclass := 1, tenant := 5, elemFmt := 1, subst := 1, pathMask := 15, gen := 5, size := 4, root := 1048576, flushDb := 1537, remoteOk := true, queueW := true, hostW := true, remoteW := true, check := 2475005935 })], xlt.bmap := [(4294967298, { zBme with alloc := true, pbn := 9, chk := 181 })], xlt.windows := [(3584, { zWindowDesc with valid := true, w := true, r := true, state := 1, tenant := 5, region := 1, regionGen := 5, length := 262144, check := 3259651661 })], xlt.fills := [{ zCacheEntry with key := (XKey.region 1), copy := (XCopy.region { zRegion with valid := true, pclass := 1, tenant := 5, elemFmt := 1, subst := 1, pathMask := 15, gen := 5, size := 4, root := 1048576, flushDb := 1537, remoteOk := true, queueW := true, hostW := true, remoteW := true, check := 2475005935 }), used := true }, { zCacheEntry with key := (XKey.block 1 2), copy := (XCopy.block { zBme with alloc := true, pbn := 9, chk := 181 }), used := true }], hp.memoryActive := true } : State).freeFrames) ∧
    (wCxlMemAccesses_5.linkLive (6 : Port).val (0 : Ld).val = true) ∧
    (wCxlMemAccesses_5.linkLive (6 : Port).val (0 : Ld).val = true) ∧
    (wCxlMemAccesses_7.regsOk ∧ wCxlMemAccesses_7.linkLive (0 : Port).val (3 : Ld).val = true ∧ wCxlMemAccesses_7.inactive = false ∧ wCxlMemAccesses_7.linkOf (0 : Port).val (3 : Ld).val = some (0 : Nat) ∧ (wCxlMemAccesses_7.link (0 : Port).val (0 : Nat)).viral = false ∧ wCxlMemAccesses_7.cxlTarget (0 : Port).val (3 : Ld).val (0 : BitVec 64).toNat = some ((Target.local 96 (XKey.window 96) { zAccess with region := 1, gen := 5, len := 64, tenant := 5, bound := true, inside := true, mayRead := true, mayWrite := true }) : Target) ∧ wCxlMemAccesses_7.targetCheck ((Target.local 96 (XKey.window 96) { zAccess with region := 1, gen := 5, len := 64, tenant := 5, bound := true, inside := true, mayRead := true, mayWrite := true }) : Target) ((0 : BitVec 64).toNat / 64 * 64) = (({ State.reset with regs := [(218105916, 1), (218105918, 1), (218105919, 1), (218106495, 1)], xlt.windows := [(96, { zWindowDesc with valid := true, w := true, r := true, state := 1, tenant := 5, region := 1, regionGen := 5, length := 262144, check := 3259651661 })], hp.memoryActive := true } : State), .ok (.local (96 : Nat) ((XKey.window 96) : XKey) ({ zAccess with region := 1, gen := 5, len := 64, tenant := 5, bound := true, inside := true, mayRead := true, mayWrite := true } : Access))) ∧ ({ State.reset with regs := [(218105916, 1), (218105918, 1), (218105919, 1), (218106495, 1)], xlt.windows := [(96, { zWindowDesc with valid := true, w := true, r := true, state := 1, tenant := 5, region := 1, regionGen := 5, length := 262144, check := 3259651661 })], hp.memoryActive := true } : State).checks ({ zAccess with region := 1, gen := 5, len := 64, tenant := 5, bound := true, inside := true, mayRead := true, mayWrite := true } : Access) .host true = (({ State.reset with regs := [(218105916, 1), (218105918, 1), (218105919, 1), (218106495, 1)], xlt.windows := [(96, { zWindowDesc with valid := true, w := true, r := true, state := 1, tenant := 5, region := 1, regionGen := 5, length := 262144, check := 3259651661 })], xlt.fills := [{ zCacheEntry with key := (XKey.region 1), copy := (XCopy.region { zRegion with check := 1510671665 }), used := true }], hp.memoryActive := true } : State), .error (.accessViolation : Status))) ∧
    (takeFirst wCxlMemAccesses_8.hp.cmps (fun cz => cz.port == (7 : Port).val && cz.ld == (9 : Ld).val && cz.tag == (7 : BitVec 16).toNat && !cz.held && cz.foreign.isNone && !wCxlMemAccesses_8.mirrorOpen cz.mirror) = some (({ zCmpWait with port := 7, ld := 9, link := 2, tag := 7 } : CmpWait), ([] : List CmpWait))) ∧
    (wCxlMemAccesses_9.regsOk ∧ (wCxlMemAccesses_9.hp.forwards.find? fun fz => fz.port == (0 : Port).val && fz.ld == (11 : Ld).val && fz.tag == (7 : BitVec 16).toNat) = some ({ zForward with ld := 11, tag := 7, read := true, window := 5, dpa := 19, conn := 19, pend := (some (13407807929942597099574024998205846127479365820592393377723561443721764030073546976801874298166903427690031858186486050853753882811946569946433649006084095, (18446744073709551615, true))) } : Forward) ∧ ({ zForward with ld := 11, tag := 7, read := true, window := 5, dpa := 19, conn := 19, pend := (some (13407807929942597099574024998205846127479365820592393377723561443721764030073546976801874298166903427690031858186486050853753882811946569946433649006084095, (18446744073709551615, true))) } : Forward).read = true) ∧
    (wCxlMemAccesses_11.linkLive (6 : Port).val (0 : Ld).val = true) ∧
    (wCxlMemAccesses_11.linkLive (6 : Port).val (0 : Ld).val = true) ∧
    (wCxlMemAccesses_12.regsOk ∧ (wCxlMemAccesses_12.ld (6 : Port).val (6 : Ld).val).gpf = some ({ zGpf with regions := [0], covered := [1], phase2 := true, blocks := [3, 0, 5] } : Gpf) ∧ ({ zGpf with regions := [0], covered := [1], phase2 := true, blocks := [3, 0, 5] } : Gpf).phase2 = true ∧ (∀ r ∈ wCxlMemAccesses_12.twn.replay, ({ zGpf with regions := [0], covered := [1], phase2 := true, blocks := [3, 0, 5] } : Gpf).covered.contains r.id = true → r.acked = false → wCxlMemAccesses_12.serves r.grp = false) ∧ wCxlMemAccesses_12.rsmWaits ({ zGpf with regions := [0], covered := [1], phase2 := true, blocks := [3, 0, 5] } : Gpf).blocks = false ∧ wCxlMemAccesses_12.barrierBefore ({ zGpf with regions := [0], covered := [1], phase2 := true, blocks := [3, 0, 5] } : Gpf).id ({ zGpf with regions := [0], covered := [1], phase2 := true, blocks := [3, 0, 5] } : Gpf).regions = false) :=
  ⟨(by simp only [regsOk_iff]; decide +kernel),
   (by simp only [regsOk_iff]; decide +kernel),
   (by decide +kernel),
   (by decide +kernel),
   (by simp only [regsOk_iff]; decide +kernel),
   (by decide +kernel),
   ⟨by rw [regsOk_iff]; decide +kernel, by decide +kernel⟩,
   (by decide +kernel),
   (by decide +kernel),
   (by simp only [regsOk_iff]; decide +kernel)⟩

def wMailboxLogs_15 : State :=
  { State.reset with regs := [(218171452, 1), (218172223, 1), (260048928, 0), (285214848, 1), (293603360, 1)], xlt.regions := [(1, { zRegion with valid := true, pclass := 1, tenant := 5, elemFmt := 1, pathMask := 2, gen := 5, size := 4, root := 1048576, flushDb := 1537, remoteOk := true, queueW := true, hostW := true, remoteW := true, check := 543207426 })], xlt.bmap := [(4294967297, { zBme with alloc := true, pbn := 8, chk := 178 })], xlt.windows := [(1312, { zWindowDesc with valid := true, w := true, r := true, state := 1, tenant := 5, region := 1, regionGen := 5, length := 262144, check := 3259651661 })], hp.injectEnabled := true, tier.blocks := [(8, { zTBlock with state := .resident, units := [(0, { zTUnit with present := true })] })], tier.quotas := [(5, { zQuota with t1Quota := 1000, t2Quota := 1000, t2Used := 4, check := 618357970 })] }
def wMailboxLogs_16 : State :=
  { State.reset with regs := [(218138684, 1), (218139263, 1), (251660544, 1), (260048928, 0), (285214848, 1), (293603360, 1)], xlt.regions := [(1, { zRegion with valid := true, pclass := 1, tenant := 5, subst := 1, pathMask := 6, gen := 5, size := 4, root := 1048576, flushDb := 1537, remoteOk := true, queueW := true, hostW := true, remoteW := true, check := 4057292326 })], xlt.bmap := [(4294967296, { zBme with alloc := true, zero := true, pbn := 7, chk := 218 })], xlt.windows := [(608, { zWindowDesc with valid := true, w := true, r := true, state := 1, tenant := 5, region := 1, regionGen := 5, length := 262144, check := 3259651661 })], tier.quotas := [(5, { zQuota with t1Quota := 1000, t2Quota := 1000, t2Used := 4, check := 618357970 })] }
def wMailboxLogs_17 : State :=
  { State.reset with regs := [(218138684, 1), (218139263, 1), (293603360, 1)], xlt.regions := [(1, { zRegion with valid := true, pclass := 1, tenant := 5, pathMask := 6, gen := 5, size := 4, root := 1048576, flushDb := 1537, remoteOk := true, queueW := true, hostW := true, remoteW := true, check := 953724236 })], xlt.bmap := [(4294967296, { zBme with alloc := true, pbn := 7, chk := 159 })], xlt.windows := [(608, { zWindowDesc with valid := true, w := true, r := true, state := 1, tenant := 5, region := 1, regionGen := 5, length := 262144, check := 3259651661 })] }
theorem test_MailboxLogs :
    (State.reset.presented (0 : Port).val (0 : Ld).val = true) ∧
    (State.reset.presented (0 : Port).val (0 : Ld).val = true ∧ (.warning : EvLog).ix < (State.reset.ld (0 : Port).val (0 : Ld).val).logs.length) ∧
    (State.reset.presented (0 : Port).val (0 : Ld).val = true) ∧
    (State.reset.presented (0 : Port).val (0 : Ld).val = true ∧ (.fatal : EvLog).ix < (State.reset.ld (0 : Port).val (0 : Ld).val).logs.length) ∧
    (State.reset.presented (0 : Port).val (0 : Ld).val = true) ∧
    (State.reset.presented (0 : Port).val (0 : Ld).val = true) ∧
    (State.reset.presented (0 : Port).val (0 : Ld).val = true) ∧
    (State.reset.presented (0 : Port).val (0 : Ld).val = true) ∧
    (State.reset.presented (0 : Port).val (0 : Ld).val = true) ∧
    (State.reset.presented (0 : Port).val (0 : Ld).val = true) ∧
    (State.reset.presented (0 : Port).val (0 : Ld).val = true) ∧
    (State.reset.presented (0 : Port).val (0 : Ld).val = true) ∧
    (State.reset.presented (0 : Port).val (0 : Ld).val = true) ∧
    (State.reset.presented (0 : Port).val (0 : Ld).val = true ∧ State.reset.hp.injectEnabled = false) ∧
    (wMailboxLogs_15.presented (2 : Port).val (9 : Ld).val = true ∧ wMailboxLogs_15.regsOk ∧ wMailboxLogs_15.hp.injectEnabled = true ∧ wMailboxLogs_15.mbWrite (2 : Port).val (9 : Ld).val 0x4301 (65536 : BitVec 64).toNat none true = (({ State.reset with regs := [(218171452, 1), (218172223, 1), (260048928, 0), (285214848, 1), (293603360, 1)], xlt.regions := [(1, { zRegion with valid := true, pclass := 1, tenant := 5, elemFmt := 1, pathMask := 2, gen := 5, size := 4, root := 1048576, flushDb := 1537, remoteOk := true, queueW := true, hostW := true, remoteW := true, check := 543207426 })], xlt.bmap := [(4294967297, { zBme with alloc := true, pbn := 8, chk := 178 })], xlt.windows := [(1312, { zWindowDesc with valid := true, w := true, r := true, state := 1, tenant := 5, region := 1, regionGen := 5, length := 262144, check := 3259651661 })], xlt.fills := [{ zCacheEntry with key := (XKey.region 1), copy := (XCopy.region { zRegion with valid := true, pclass := 1, tenant := 5, elemFmt := 1, pathMask := 2, gen := 5, size := 4, root := 1048576, flushDb := 1537, remoteOk := true, queueW := true, hostW := true, remoteW := true, check := 543207426 }), used := true }, { zCacheEntry with key := (XKey.block 1 1), copy := (XCopy.block { zBme with alloc := true, pbn := 8, chk := 178 }), used := true }], hp.injectEnabled := true, tier.blocks := [(8, { zTBlock with state := .resident, charge := (some 5), units := [(0, { zTUnit with present := true, dirty := true, stamp := 1, cls := 1 })], used := true })], tier.quotas := [(5, { zQuota with t1Quota := 1000, t2Quota := 1000, t2Used := 4, check := 618357970, t1Used := 1 })], pan.lines := [(8192, { zLine with s0 := { zLineSec with valid := true, dirty := true, val := { zSectorVal with poison := true } }, age := 1 })] } : State), .accepted (none : Option Nat)) ∧ (({ State.reset with regs := [(218171452, 1), (218172223, 1), (260048928, 0), (285214848, 1), (293603360, 1)], xlt.regions := [(1, { zRegion with valid := true, pclass := 1, tenant := 5, elemFmt := 1, pathMask := 2, gen := 5, size := 4, root := 1048576, flushDb := 1537, remoteOk := true, queueW := true, hostW := true, remoteW := true, check := 543207426 })], xlt.bmap := [(4294967297, { zBme with alloc := true, pbn := 8, chk := 178 })], xlt.windows := [(1312, { zWindowDesc with valid := true, w := true, r := true, state := 1, tenant := 5, region := 1, regionGen := 5, length := 262144, check := 3259651661 })], xlt.fills := [{ zCacheEntry with key := (XKey.region 1), copy := (XCopy.region { zRegion with valid := true, pclass := 1, tenant := 5, elemFmt := 1, pathMask := 2, gen := 5, size := 4, root := 1048576, flushDb := 1537, remoteOk := true, queueW := true, hostW := true, remoteW := true, check := 543207426 }), used := true }, { zCacheEntry with key := (XKey.block 1 1), copy := (XCopy.block { zBme with alloc := true, pbn := 8, chk := 178 }), used := true }], hp.injectEnabled := true, tier.blocks := [(8, { zTBlock with state := .resident, charge := (some 5), units := [(0, { zTUnit with present := true, dirty := true, stamp := 1, cls := 1 })], used := true })], tier.quotas := [(5, { zQuota with t1Quota := 1000, t2Quota := 1000, t2Used := 4, check := 618357970, t1Used := 1 })], pan.lines := [(8192, { zLine with s0 := { zLineSec with valid := true, dirty := true, val := { zSectorVal with poison := true } }, age := 1 })] } : State).ld (2 : Port).val (9 : Ld).val).poison.length < 1024) ∧
    (wMailboxLogs_16.presented (1 : Port).val (3 : Ld).val = true ∧ wMailboxLogs_16.regsOk ∧ wMailboxLogs_16.mbWrite (1 : Port).val (3 : Ld).val 0x4302 (0 : BitVec 64).toNat (some (0 : Sector)) false = ((wMailboxLogs_16.mbWrite (1 : Port).val (3 : Ld).val 0x4302 (0 : BitVec 64).toNat (some (0 : Sector)) false).1, .accepted (none : Option Nat))) ∧
    (wMailboxLogs_17.regsOk ∧ wMailboxLogs_17.presented (1 : Port).val (3 : Ld).val = true ∧ wMailboxLogs_17.mbWrite (1 : Port).val (3 : Ld).val 0x4302 (0 : BitVec 64).toNat (some (0 : Sector)) false = ((wMailboxLogs_17.mbWrite (1 : Port).val (3 : Ld).val 0x4302 (0 : BitVec 64).toNat (some (0 : Sector)) false).1, .held (.pan : HoldWhy))) ∧
    (State.reset.presented (0 : Port).val (3 : Ld).val = false) :=
  ⟨(by decide +kernel),
   (by decide +kernel),
   (show _ by decide +kernel),
   (by decide +kernel),
   (by decide +kernel),
   (show _ by decide +kernel),
   (by decide +kernel),
   (by decide +kernel),
   (show _ by decide +kernel),
   (by decide +kernel),
   (by decide +kernel),
   (show _ by decide +kernel),
   (by decide +kernel),
   (by decide +kernel),
   (by simp only [regsOk_iff]; decide +kernel),
   ⟨by decide +kernel, by rw [regsOk_iff]; decide +kernel, pair_of (by decide +kernel)⟩,
   ⟨by rw [regsOk_iff]; decide +kernel, by decide +kernel, pair_of (by decide +kernel)⟩,
   (by decide +kernel)⟩

def wMailboxCapacity_7 : State :=
  { State.reset with regs := [(218204220, 1)], xlt.extents := [(100, { zExtent with state := .active, r := true, tenant := 7, dpaBase := 20, length := 3, region := 5, regionGen := 3, regionOff := 4, port := 3, ld := 15 })] }
def wMailboxCapacity_10 : State :=
  { State.reset with xlt.windows := [(2977, { zWindowDesc with valid := true, w := true, state := 1, tenant := 8, region := 16777215, regionGen := 5348, length := 536870912, regionOff := 6, rkey := 4294967295, node := 51355, conn := 128, check := 3 })], hp.lds := [(93, { zLdState with allocUnits := 1 })] }
def wMailboxCapacity_11 : State :=
  { State.reset with regs := [(218270592, 5), (218270623, 1)], xlt.regions := [(1, { zRegion with valid := true, pclass := 1, tenant := 5, pathMask := 11, gen := 5, size := 64, root := 1048576, flushDb := 1537, remoteOk := true, queueW := true, hostW := true, remoteW := true, check := 1424978776 })], hp.lds := [(92, { zLdState with dcRegions := [(0, (0, 1073741824))] })] }
theorem test_MailboxCapacity :
    (State.reset.presented (0 : Port).val (0 : Ld).val = true) ∧
    (State.reset.presented (0 : Port).val (0 : Ld).val = true) ∧
    (State.reset.presented (0 : Port).val (0 : Ld).val = true) ∧
    (State.reset.presented (0 : Port).val (0 : Ld).val = true) ∧
    (State.reset.presented (0 : Port).val (0 : Ld).val = true) ∧
    (State.reset.presented (0 : Port).val (0 : Ld).val = true) ∧
    (wMailboxCapacity_7.presented (3 : Port).val (15 : Ld).val = true ∧ wMailboxCapacity_7.regsOk ∧ ((wMailboxCapacity_7.ldExtents (3 : Port).val (15 : Ld).val).filter fun x => !x.2.reported) = [((100 : Nat), ({ zExtent with state := .active, r := true, tenant := 7, dpaBase := 20, length := 3, region := 5, regionGen := 3, regionOff := 4, port := 3, ld := 15 } : Extent))] ∧ tget wMailboxCapacity_7.xlt.extents (100 : Nat) = some ({ zExtent with state := .active, r := true, tenant := 7, dpaBase := 20, length := 3, region := 5, regionGen := 3, regionOff := 4, port := 3, ld := 15 } : Extent) ∧ wMailboxCapacity_7.xlt.invalBusy = none) ∧
    (State.reset.presented (0 : Port).val (0 : Ld).val = true ∧ mailboxOpcodes.contains (0 : BitVec 16).toNat = false) ∧
    (((State.reset.ld (0 : Port).val (0 : Ld).val).allocUnits ≤ 0 ∨ (∀ (k : Nat) (d : WindowDesc), k < 32 → tget State.reset.xlt.windows (windowId (0 : Port).val (0 : Ld).val k) = some d → d.valid = true → d.state = 1 → d.dpaBase.toNat + d.length.toNat ≤ 0 * 2 ^ 28) ∧ (∀ e ∈ State.reset.ldExtents (0 : Port).val (0 : Ld).val, e.2.dpaBase + e.2.length ≤ 0 * 2 ^ 28)) ∧ (State.reset.flag HP.BOUND (0 : Port).val (0 : Ld).val = true → 0 * 4096 ≤ (State.reset.quota (State.reset.get HP.TENANT (0 : Port).val (0 : Ld).val)).t2Quota)) ∧
    ((1 : Nat) < 32 ∧ tget wMailboxCapacity_10.xlt.windows (windowId (5 : Port).val (13 : Ld).val (1 : Nat)) = some ({ zWindowDesc with valid := true, w := true, state := 1, tenant := 8, region := 16777215, regionGen := 5348, length := 536870912, regionOff := 6, rkey := 4294967295, node := 51355, conn := 128, check := 3 } : WindowDesc) ∧ ({ zWindowDesc with valid := true, w := true, state := 1, tenant := 8, region := 16777215, regionGen := 5348, length := 536870912, regionOff := 6, rkey := 4294967295, node := 51355, conn := 128, check := 3 } : WindowDesc).valid = true ∧ ({ zWindowDesc with valid := true, w := true, state := 1, tenant := 8, region := 16777215, regionGen := 5348, length := 536870912, regionOff := 6, rkey := 4294967295, node := 51355, conn := 128, check := 3 } : WindowDesc).state = 1 ∧ (0 : Nat) < (wMailboxCapacity_10.ld (5 : Port).val (13 : Ld).val).allocUnits ∧ (0 : Nat) * 2 ^ 28 < ({ zWindowDesc with valid := true, w := true, state := 1, tenant := 8, region := 16777215, regionGen := 5348, length := 536870912, regionOff := 6, rkey := 4294967295, node := 51355, conn := 128, check := 3 } : WindowDesc).dpaBase.toNat + ({ zWindowDesc with valid := true, w := true, state := 1, tenant := 8, region := 16777215, regionGen := 5348, length := 536870912, regionOff := 6, rkey := 4294967295, node := 51355, conn := 128, check := 3 } : WindowDesc).length.toNat) ∧
    ((0 : Nat) < 262144 ∧ tget wMailboxCapacity_11.xlt.extents (0 : Nat) = none ∧ wMailboxCapacity_11.flag HP.BOUND (5 : Port).val (12 : Ld).val = true ∧ (∃ r ∈ (wMailboxCapacity_11.ld (5 : Port).val (12 : Ld).val).dcRegions, r.2.1 ≤ ({ zExtentReq with length := 2097152, region := 1 } : ExtentReq).dpaBase.toNat ∧ ({ zExtentReq with length := 2097152, region := 1 } : ExtentReq).dpaBase.toNat + ({ zExtentReq with length := 2097152, region := 1 } : ExtentReq).length.toNat ≤ r.2.1 + r.2.2) ∧ (∀ x ∈ wMailboxCapacity_11.ldExtents (5 : Port).val (12 : Ld).val, x.2.dpaBase + x.2.length ≤ ({ zExtentReq with length := 2097152, region := 1 } : ExtentReq).dpaBase.toNat ∨ ({ zExtentReq with length := 2097152, region := 1 } : ExtentReq).dpaBase.toNat + ({ zExtentReq with length := 2097152, region := 1 } : ExtentReq).length.toNat ≤ x.2.dpaBase) ∧ ({ zExtentReq with length := 2097152, region := 1 } : ExtentReq).dpaBase.toNat % 2 ^ 21 = 0 ∧ ({ zExtentReq with length := 2097152, region := 1 } : ExtentReq).length.toNat % 2 ^ 21 = 0 ∧ 0 < ({ zExtentReq with length := 2097152, region := 1 } : ExtentReq).length.toNat ∧ wMailboxCapacity_11.bindOk (wMailboxCapacity_11.get HP.TENANT (5 : Port).val (12 : Ld).val) ({ zExtentReq with length := 2097152, region := 1 } : ExtentReq).region.toNat ({ zExtentReq with length := 2097152, region := 1 } : ExtentReq).regionOff.toNat ({ zExtentReq with length := 2097152, region := 1 } : ExtentReq).length.toNat ({ zExtentReq with length := 2097152, region := 1 } : ExtentReq).w = true) :=
  ⟨(by decide +kernel),
   (by decide +kernel),
   (show _ by decide +kernel),
   (by decide +kernel),
   (by decide +kernel),
   (show _ by decide +kernel),
   (by simp only [regsOk_iff]; decide +kernel),
   (by decide +kernel),
   ⟨.inl (by decide +kernel), by decide +kernel⟩,
   (by decide +kernel),
   (by decide +kernel)⟩

def wQueueDoorbells_1 : State :=
  { State.reset with qe.queues := [(3, { zQueueCtx with valid := true, state := .active, sclass := 5, weight := 100, tenant := 64, sqLog2 := 6, cqLog2 := 6, maxInflight := 1, ldSlot := 8, port := 64, ringHandle := 65536, sqOff := 20, cqOff := 2, sqHead := 20, sqTail := 5, cqTail := 7, armed := true, vector := 19, coalCount := 21, coalTime := 100, cmdTimeout := 100, errReason := 8, inflight := 65536, doneCnt := 4, check := 1317507255 })], qe.pmap := [(121634815, { zPageMap with typ := 1, id := 3 })] }
def wQueueDoorbells_2 : State :=
  { State.reset with qe.queues := [(3, { zQueueCtx with valid := true, state := .active, sclass := 19, weight := 7, tenant := 4, sqLog2 := 6, cqLog2 := 6, maxInflight := 4, ldSlot := 5, port := 19, ringHandle := 7, sqOff := 8, cqOff := 65536, sqHead := 8, sqTail := 3, cqHead := 100, cqTail := 1, vector := 4096, coalCount := 8, coalTime := 20, cmdTimeout := 8, errReason := 65536, inflight := 2, dbPage := 65536, doneCnt := 7, check := 3198214891, unnotified := 65536 })], qe.pmap := [(90177541, { zPageMap with typ := 1, id := 3 })] }
def wQueueDoorbells_3 : State :=
  { State.reset with qe.queues := [(3, { zQueueCtx with valid := true, state := .active, sclass := 1, weight := 4, tenant := 7, sqLog2 := 6, cqLog2 := 6, maxInflight := 64, ldSlot := 21, port := 1, ringHandle := 7, sqOff := 5, cqOff := 20, sqTail := 2, cqHead := 5, cqTail := 15, cqPhase := true, armed := true, vector := 8, coalCount := 65536, coalTime := 65536, cmdTimeout := 21, errReason := 2, inflight := 3, dbPage := 20, doneCnt := 65536, check := 3588922414, unnotified := 4096 })], qe.pmap := [(26214404, { zPageMap with typ := 1, id := 3 })] }
def wQueueDoorbells_6 : State :=
  { State.reset with qe.queues := [(3, { zQueueCtx with state := .active, sclass := 5, tenant := 5, sqLog2 := 5, cqLog2 := 7, maxInflight := 3, ldSlot := 19, ringHandle := 21, sqOff := 19, cqOff := 1, sqHead := 5, sqTail := 8, cqHead := 4096, cqTail := 21, armed := true, vector := 7, coalCount := 1, coalTime := 20, cmdTimeout := 64, errReason := 20, inflight := 21, dbPage := 7, doneCnt := 5, check := 7, unnotified := 21 })], qe.pmap := [(27262977, { zPageMap with typ := 1, vecEn := true, vector := 4096, id := 3 })] }
def wQueueDoorbells_7 : State :=
  { State.reset with qe.pmap := [(4194307, { zPageMap with typ := 2, vector := 1, id := 3 })], qe.flush := [(1537, (0, 0))] }
def wQueueDoorbells_10 : State := { State.reset with qe.pmap := [(pmapKey 0 0 3, { zPageMap with typ := 2, id := 3 })], xlt.regions := [(1, { zRegion with valid := true, flushDb := 1541 }.seal)] }
def wQueueDoorbells_12 : State :=
  { State.reset with qe.queues := [(512248, { zQueueCtx with sclass := 2, weight := 4, tenant := 64, sqLog2 := 64, cqLog2 := 3, maxInflight := 3, ldSlot := 65536, port := 100, ringHandle := 65536, sqOff := 8, cqOff := 19, sqHead := 5, sqTail := 5, cqHead := 4096, cqTail := 4096, cqPhase := true, armed := true, vector := 5, coalTime := 1, cmdTimeout := 65536, errReason := 5, inflight := 21, dbPage := 3, doneCnt := 19, unnotified := 65 })] }
def wQueueDoorbells_13 : State :=
  { State.reset with regs := [(226492545, 1)], xlt.regions := [(1, { zRegion with valid := true, pclass := 2, tenant := 5, gen := 5, size := 1 })], qe.queues := [(755664, { zQueueCtx with valid := true, sclass := 4, weight := 100, tenant := 5, sqLog2 := 6, cqLog2 := 6, maxInflight := 2, ldSlot := 65536, port := 21, ringHandle := 65541, cqOff := 8192, sqHead := 100, cqHead := 2, cqTail := 3, cqPhase := true, coalCount := 3, coalTime := 1, errReason := 3, inflight := 100, dbPage := 20, doneCnt := 5, check := 903737309, unnotified := 5 })] }
def wQueueDoorbells_14 : State :=
  { State.reset with regs := [(226492545, 1)], qe.queues := [(2048, { zQueueCtx with valid := true, state := .active, sclass := 5, weight := 8, tenant := 2, sqLog2 := 5, cqLog2 := 19, maxInflight := 2, ldSlot := 19, ringHandle := 3, sqOff := 4096, cqOff := 7, sqHead := 1, sqTail := 64, cqHead := 8, cqTail := 4, vector := 2, coalCount := 21, coalTime := 2, cmdTimeout := 8, errReason := 2, inflight := 65536, dbPage := 1, doneCnt := 3, unnotified := 7 })] }
def wQueueDoorbells_16 : State :=
  { State.reset with regs := [(226492545, 1)], qe.queues := [(1048575, { zQueueCtx with valid := true, sclass := 3, weight := 8, tenant := 1, sqLog2 := 3, cqLog2 := 2, maxInflight := 100, ldSlot := 2, port := 3, ringHandle := 4096, sqOff := 5, cqOff := 19, sqHead := 2, sqTail := 21, cqHead := 4096, cqTail := 5, armed := true, vector := 3, coalCount := 64, coalTime := 100, cmdTimeout := 20, errReason := 4, inflight := 100, dbPage := 20, doneCnt := 7, unnotified := 4 })] }
def wQueueDoorbells_17 : State :=
  { State.reset with qe.queues := [(3, { zQueueCtx with valid := true, state := .error, sclass := 19, tenant := 5, sqLog2 := 1, maxInflight := 1, ldSlot := 4, port := 21, ringHandle := 21, sqOff := 65536, cqOff := 8, sqHead := 1, sqTail := 64, cqHead := 2, cqTail := 100, armed := true, vector := 8, coalCount := 65536, coalTime := 3, cmdTimeout := 21, errReason := 1, dbPage := 21, doneCnt := 2, check := 7, unnotified := 7 })], qe.qctl := (some (3, true)) }
def wQueueDoorbells_18 : State :=
  { State.reset with qe.queues := [(0, { zQueueCtx with valid := true, state := .active, sclass := 20, weight := 4, tenant := 8, sqLog2 := 3, cqLog2 := 100, maxInflight := 21, ldSlot := 8, port := 4096, ringHandle := 21, sqOff := 64, cqOff := 19, sqHead := 100, sqTail := 4096, cqHead := 64, cqPhase := true, armed := true, vector := 4, coalCount := 4096, coalTime := 65536, cmdTimeout := 8, errReason := 7, dbPage := 5, doneCnt := 21, check := 8, unnotified := 19 })], qe.qctl := (some (0, false)) }
theorem test_QueueDoorbells :
    (wQueueDoorbells_1.dbQueue (7 : Port).val (3 : Ld).val (1048575 : BitVec 20).toNat = some ((3 : Nat), ({ zQueueCtx with valid := true, state := .active, sclass := 5, weight := 100, tenant := 64, sqLog2 := 6, cqLog2 := 6, maxInflight := 1, ldSlot := 8, port := 64, ringHandle := 65536, sqOff := 20, cqOff := 2, sqHead := 20, sqTail := 5, cqTail := 7, armed := true, vector := 19, coalCount := 21, coalTime := 100, cmdTimeout := 100, errReason := 8, inflight := 65536, doneCnt := 4, check := 1317507255 } : QueueCtx)) ∧ ({ zQueueCtx with valid := true, state := .active, sclass := 5, weight := 100, tenant := 64, sqLog2 := 6, cqLog2 := 6, maxInflight := 1, ldSlot := 8, port := 64, ringHandle := 65536, sqOff := 20, cqOff := 2, sqHead := 20, sqTail := 5, cqTail := 7, armed := true, vector := 19, coalCount := 21, coalTime := 100, cmdTimeout := 100, errReason := 8, inflight := 65536, doneCnt := 4, check := 1317507255 } : QueueCtx).checkOk = true ∧ (0 : BitVec 16).toNat < ({ zQueueCtx with valid := true, state := .active, sclass := 5, weight := 100, tenant := 64, sqLog2 := 6, cqLog2 := 6, maxInflight := 1, ldSlot := 8, port := 64, ringHandle := 65536, sqOff := 20, cqOff := 2, sqHead := 20, sqTail := 5, cqTail := 7, armed := true, vector := 19, coalCount := 21, coalTime := 100, cmdTimeout := 100, errReason := 8, inflight := 65536, doneCnt := 4, check := 1317507255 } : QueueCtx).sqDepth) ∧
    (wQueueDoorbells_2.regsOk ∧ wQueueDoorbells_2.dbQueue (5 : Port).val (6 : Ld).val (5 : BitVec 20).toNat = some ((3 : Nat), ({ zQueueCtx with valid := true, state := .active, sclass := 19, weight := 7, tenant := 4, sqLog2 := 6, cqLog2 := 6, maxInflight := 4, ldSlot := 5, port := 19, ringHandle := 7, sqOff := 8, cqOff := 65536, sqHead := 8, sqTail := 3, cqHead := 100, cqTail := 1, vector := 4096, coalCount := 8, coalTime := 20, cmdTimeout := 8, errReason := 65536, inflight := 2, dbPage := 65536, doneCnt := 7, check := 3198214891, unnotified := 65536 } : QueueCtx)) ∧ ({ zQueueCtx with valid := true, state := .active, sclass := 19, weight := 7, tenant := 4, sqLog2 := 6, cqLog2 := 6, maxInflight := 4, ldSlot := 5, port := 19, ringHandle := 7, sqOff := 8, cqOff := 65536, sqHead := 8, sqTail := 3, cqHead := 100, cqTail := 1, vector := 4096, coalCount := 8, coalTime := 20, cmdTimeout := 8, errReason := 65536, inflight := 2, dbPage := 65536, doneCnt := 7, check := 3198214891, unnotified := 65536 } : QueueCtx).checkOk = true ∧ ({ zQueueCtx with valid := true, state := .active, sclass := 19, weight := 7, tenant := 4, sqLog2 := 6, cqLog2 := 6, maxInflight := 4, ldSlot := 5, port := 19, ringHandle := 7, sqOff := 8, cqOff := 65536, sqHead := 8, sqTail := 3, cqHead := 100, cqTail := 1, vector := 4096, coalCount := 8, coalTime := 20, cmdTimeout := 8, errReason := 65536, inflight := 2, dbPage := 65536, doneCnt := 7, check := 3198214891, unnotified := 65536 } : QueueCtx).sqDepth ≤ (70 : BitVec 16).toNat ∧ ({ zQueueCtx with valid := true, state := .active, sclass := 19, weight := 7, tenant := 4, sqLog2 := 6, cqLog2 := 6, maxInflight := 4, ldSlot := 5, port := 19, ringHandle := 7, sqOff := 8, cqOff := 65536, sqHead := 8, sqTail := 3, cqHead := 100, cqTail := 1, vector := 4096, coalCount := 8, coalTime := 20, cmdTimeout := 8, errReason := 65536, inflight := 2, dbPage := 65536, doneCnt := 7, check := 3198214891, unnotified := 65536 } : QueueCtx).state ≠ .error) ∧
    (wQueueDoorbells_3.dbQueue (1 : Port).val (9 : Ld).val (4 : BitVec 20).toNat = some ((3 : Nat), ({ zQueueCtx with valid := true, state := .active, sclass := 1, weight := 4, tenant := 7, sqLog2 := 6, cqLog2 := 6, maxInflight := 64, ldSlot := 21, port := 1, ringHandle := 7, sqOff := 5, cqOff := 20, sqTail := 2, cqHead := 5, cqTail := 15, cqPhase := true, armed := true, vector := 8, coalCount := 65536, coalTime := 65536, cmdTimeout := 21, errReason := 2, inflight := 3, dbPage := 20, doneCnt := 65536, check := 3588922414, unnotified := 4096 } : QueueCtx)) ∧ ({ zQueueCtx with valid := true, state := .active, sclass := 1, weight := 4, tenant := 7, sqLog2 := 6, cqLog2 := 6, maxInflight := 64, ldSlot := 21, port := 1, ringHandle := 7, sqOff := 5, cqOff := 20, sqTail := 2, cqHead := 5, cqTail := 15, cqPhase := true, armed := true, vector := 8, coalCount := 65536, coalTime := 65536, cmdTimeout := 21, errReason := 2, inflight := 3, dbPage := 20, doneCnt := 65536, check := 3588922414, unnotified := 4096 } : QueueCtx).checkOk = true ∧ (6 : BitVec 16).toNat < ({ zQueueCtx with valid := true, state := .active, sclass := 1, weight := 4, tenant := 7, sqLog2 := 6, cqLog2 := 6, maxInflight := 64, ldSlot := 21, port := 1, ringHandle := 7, sqOff := 5, cqOff := 20, sqTail := 2, cqHead := 5, cqTail := 15, cqPhase := true, armed := true, vector := 8, coalCount := 65536, coalTime := 65536, cmdTimeout := 21, errReason := 2, inflight := 3, dbPage := 20, doneCnt := 65536, check := 3588922414, unnotified := 4096 } : QueueCtx).cqDepth ∧ ((6 : BitVec 16).toNat + ({ zQueueCtx with valid := true, state := .active, sclass := 1, weight := 4, tenant := 7, sqLog2 := 6, cqLog2 := 6, maxInflight := 64, ldSlot := 21, port := 1, ringHandle := 7, sqOff := 5, cqOff := 20, sqTail := 2, cqHead := 5, cqTail := 15, cqPhase := true, armed := true, vector := 8, coalCount := 65536, coalTime := 65536, cmdTimeout := 21, errReason := 2, inflight := 3, dbPage := 20, doneCnt := 65536, check := 3588922414, unnotified := 4096 } : QueueCtx).cqDepth - ({ zQueueCtx with valid := true, state := .active, sclass := 1, weight := 4, tenant := 7, sqLog2 := 6, cqLog2 := 6, maxInflight := 64, ldSlot := 21, port := 1, ringHandle := 7, sqOff := 5, cqOff := 20, sqTail := 2, cqHead := 5, cqTail := 15, cqPhase := true, armed := true, vector := 8, coalCount := 65536, coalTime := 65536, cmdTimeout := 21, errReason := 2, inflight := 3, dbPage := 20, doneCnt := 65536, check := 3588922414, unnotified := 4096 } : QueueCtx).cqHead) % ({ zQueueCtx with valid := true, state := .active, sclass := 1, weight := 4, tenant := 7, sqLog2 := 6, cqLog2 := 6, maxInflight := 64, ldSlot := 21, port := 1, ringHandle := 7, sqOff := 5, cqOff := 20, sqTail := 2, cqHead := 5, cqTail := 15, cqPhase := true, armed := true, vector := 8, coalCount := 65536, coalTime := 65536, cmdTimeout := 21, errReason := 2, inflight := 3, dbPage := 20, doneCnt := 65536, check := 3588922414, unnotified := 4096 } : QueueCtx).cqDepth ≤ ({ zQueueCtx with valid := true, state := .active, sclass := 1, weight := 4, tenant := 7, sqLog2 := 6, cqLog2 := 6, maxInflight := 64, ldSlot := 21, port := 1, ringHandle := 7, sqOff := 5, cqOff := 20, sqTail := 2, cqHead := 5, cqTail := 15, cqPhase := true, armed := true, vector := 8, coalCount := 65536, coalTime := 65536, cmdTimeout := 21, errReason := 2, inflight := 3, dbPage := 20, doneCnt := 65536, check := 3588922414, unnotified := 4096 } : QueueCtx).cqUsed) ∧
    (State.reset.regsOk ∧ State.reset.dbEntry (0 : Port).val (0 : Ld).val (0 : BitVec 20).toNat = none) ∧
    (State.reset.dbEntry (0 : Port).val (0 : Ld).val (0 : BitVec 20).toNat = none) ∧
    (wQueueDoorbells_6.dbEntry (1 : Port).val (10 : Ld).val (1 : BitVec 20).toNat = some ({ zPageMap with typ := 1, vecEn := true, vector := 4096, id := 3 } : PageMap) ∧ ({ zPageMap with typ := 1, vecEn := true, vector := 4096, id := 3 } : PageMap).typ = 1 ∧ wQueueDoorbells_6.queue ({ zPageMap with typ := 1, vecEn := true, vector := 4096, id := 3 } : PageMap).id = some ({ zQueueCtx with state := .active, sclass := 5, tenant := 5, sqLog2 := 5, cqLog2 := 7, maxInflight := 3, ldSlot := 19, ringHandle := 21, sqOff := 19, cqOff := 1, sqHead := 5, sqTail := 8, cqHead := 4096, cqTail := 21, armed := true, vector := 7, coalCount := 1, coalTime := 20, cmdTimeout := 64, errReason := 20, inflight := 21, dbPage := 7, doneCnt := 5, check := 7, unnotified := 21 } : QueueCtx)) ∧
    (wQueueDoorbells_7.dbEntry (0 : Port).val (4 : Ld).val (3 : BitVec 20).toNat = some ({ zPageMap with typ := 2, vector := 1, id := 3 } : PageMap) ∧ ({ zPageMap with typ := 2, vector := 1, id := 3 } : PageMap).typ = 2 ∧ tget wQueueDoorbells_7.qe.flush (({ zPageMap with typ := 2, vector := 1, id := 3 } : PageMap).id * 512 + (1 : BitVec 9).toNat) = some ((0 : Nat), (0 : Nat))) ∧
    (((4 : Nat) = 4 ∨ (4 : Nat) = 8) ∧ wQueueDoorbells_10.dbEntry (0 : Port).val (0 : Ld).val 3 = some { zPageMap with typ := 2, id := 3 } ∧ ({ zPageMap with typ := 2, id := 3 } : PageMap).typ = 2 ∧ (wQueueDoorbells_10.xlt.regions.find? fun x => x.2.live && x.2.flushDb == ({ zPageMap with typ := 2, id := 3 } : PageMap).id * 512 + 5 && x.2.tenant == wQueueDoorbells_10.get HP.TENANT (0 : Port).val (0 : Ld).val) = some (1, ({ zRegion with valid := true, flushDb := 1541 } : Region).seal)) ∧
    (State.reset.dbEntry (0 : Port).val (0 : Ld).val (1 : BitVec 20).toNat = some (zPageMap : PageMap) ∧ (zPageMap : PageMap).typ = 2 ∧ ((0 : Nat) ≠ 4 ∧ (0 : Nat) ≠ 8) ∨ (State.reset.xlt.regions.find? fun x => x.2.live && x.2.flushDb == (zPageMap : PageMap).id * 512 + (1 : BitVec 9).toNat && x.2.tenant == State.reset.get HP.TENANT (0 : Port).val (0 : Ld).val) = none) ∧
    (wQueueDoorbells_12.queue (512248 : BitVec 20).toNat = some ({ zQueueCtx with sclass := 2, weight := 4, tenant := 64, sqLog2 := 64, cqLog2 := 3, maxInflight := 3, ldSlot := 65536, port := 100, ringHandle := 65536, sqOff := 8, cqOff := 19, sqHead := 5, sqTail := 5, cqHead := 4096, cqTail := 4096, cqPhase := true, armed := true, vector := 5, coalTime := 1, cmdTimeout := 65536, errReason := 5, inflight := 21, dbPage := 3, doneCnt := 19, unnotified := 65 } : QueueCtx) ∧ ({ zQueueCtx with sclass := 2, weight := 4, tenant := 64, sqLog2 := 64, cqLog2 := 3, maxInflight := 3, ldSlot := 65536, port := 100, ringHandle := 65536, sqOff := 8, cqOff := 19, sqHead := 5, sqTail := 5, cqHead := 4096, cqTail := 4096, cqPhase := true, armed := true, vector := 5, coalTime := 1, cmdTimeout := 65536, errReason := 5, inflight := 21, dbPage := 3, doneCnt := 19, unnotified := 65 } : QueueCtx).armed = true ∧ ({ zQueueCtx with sclass := 2, weight := 4, tenant := 64, sqLog2 := 64, cqLog2 := 3, maxInflight := 3, ldSlot := 65536, port := 100, ringHandle := 65536, sqOff := 8, cqOff := 19, sqHead := 5, sqTail := 5, cqHead := 4096, cqTail := 4096, cqPhase := true, armed := true, vector := 5, coalTime := 1, cmdTimeout := 65536, errReason := 5, inflight := 21, dbPage := 3, doneCnt := 19, unnotified := 65 } : QueueCtx).coalTime ≠ 0 ∧ ({ zQueueCtx with sclass := 2, weight := 4, tenant := 64, sqLog2 := 64, cqLog2 := 3, maxInflight := 3, ldSlot := 65536, port := 100, ringHandle := 65536, sqOff := 8, cqOff := 19, sqHead := 5, sqTail := 5, cqHead := 4096, cqTail := 4096, cqPhase := true, armed := true, vector := 5, coalTime := 1, cmdTimeout := 65536, errReason := 5, inflight := 21, dbPage := 3, doneCnt := 19, unnotified := 65 } : QueueCtx).unnotified ≠ 0) ∧
    (wQueueDoorbells_13.regsOk ∧ wQueueDoorbells_13.commands ((Requester.warden) : Requester) qePage ∧ wQueueDoorbells_13.qe.qctl = none ∧ wQueueDoorbells_13.queue (755664 : BitVec 20).toNat = some ({ zQueueCtx with valid := true, sclass := 4, weight := 100, tenant := 5, sqLog2 := 6, cqLog2 := 6, maxInflight := 2, ldSlot := 65536, port := 21, ringHandle := 65541, cqOff := 8192, sqHead := 100, cqHead := 2, cqTail := 3, cqPhase := true, coalCount := 3, coalTime := 1, errReason := 3, inflight := 100, dbPage := 20, doneCnt := 5, check := 903737309, unnotified := 5 } : QueueCtx) ∧ ({ zQueueCtx with valid := true, sclass := 4, weight := 100, tenant := 5, sqLog2 := 6, cqLog2 := 6, maxInflight := 2, ldSlot := 65536, port := 21, ringHandle := 65541, cqOff := 8192, sqHead := 100, cqHead := 2, cqTail := 3, cqPhase := true, coalCount := 3, coalTime := 1, errReason := 3, inflight := 100, dbPage := 20, doneCnt := 5, check := 903737309, unnotified := 5 } : QueueCtx).valid = true ∧ ({ zQueueCtx with valid := true, sclass := 4, weight := 100, tenant := 5, sqLog2 := 6, cqLog2 := 6, maxInflight := 2, ldSlot := 65536, port := 21, ringHandle := 65541, cqOff := 8192, sqHead := 100, cqHead := 2, cqTail := 3, cqPhase := true, coalCount := 3, coalTime := 1, errReason := 3, inflight := 100, dbPage := 20, doneCnt := 5, check := 903737309, unnotified := 5 } : QueueCtx).checkOk = true ∧ (({ zQueueCtx with valid := true, sclass := 4, weight := 100, tenant := 5, sqLog2 := 6, cqLog2 := 6, maxInflight := 2, ldSlot := 65536, port := 21, ringHandle := 65541, cqOff := 8192, sqHead := 100, cqHead := 2, cqTail := 3, cqPhase := true, coalCount := 3, coalTime := 1, errReason := 3, inflight := 100, dbPage := 20, doneCnt := 5, check := 903737309, unnotified := 5 } : QueueCtx).state = .disabled ∨ ({ zQueueCtx with valid := true, sclass := 4, weight := 100, tenant := 5, sqLog2 := 6, cqLog2 := 6, maxInflight := 2, ldSlot := 65536, port := 21, ringHandle := 65541, cqOff := 8192, sqHead := 100, cqHead := 2, cqTail := 3, cqPhase := true, coalCount := 3, coalTime := 1, errReason := 3, inflight := 100, dbPage := 20, doneCnt := 5, check := 903737309, unnotified := 5 } : QueueCtx).state = .paused) ∧ wQueueDoorbells_13.ringOk ({ zQueueCtx with valid := true, sclass := 4, weight := 100, tenant := 5, sqLog2 := 6, cqLog2 := 6, maxInflight := 2, ldSlot := 65536, port := 21, ringHandle := 65541, cqOff := 8192, sqHead := 100, cqHead := 2, cqTail := 3, cqPhase := true, coalCount := 3, coalTime := 1, errReason := 3, inflight := 100, dbPage := 20, doneCnt := 5, check := 903737309, unnotified := 5 } : QueueCtx) = true) ∧
    (wQueueDoorbells_14.regsOk ∧ wQueueDoorbells_14.commands ((Requester.warden) : Requester) qePage ∧ wQueueDoorbells_14.qe.qctl = none ∧ wQueueDoorbells_14.queue (2048 : BitVec 20).toNat = some ({ zQueueCtx with valid := true, state := .active, sclass := 5, weight := 8, tenant := 2, sqLog2 := 5, cqLog2 := 19, maxInflight := 2, ldSlot := 19, ringHandle := 3, sqOff := 4096, cqOff := 7, sqHead := 1, sqTail := 64, cqHead := 8, cqTail := 4, vector := 2, coalCount := 21, coalTime := 2, cmdTimeout := 8, errReason := 2, inflight := 65536, dbPage := 1, doneCnt := 3, unnotified := 7 } : QueueCtx) ∧ ({ zQueueCtx with valid := true, state := .active, sclass := 5, weight := 8, tenant := 2, sqLog2 := 5, cqLog2 := 19, maxInflight := 2, ldSlot := 19, ringHandle := 3, sqOff := 4096, cqOff := 7, sqHead := 1, sqTail := 64, cqHead := 8, cqTail := 4, vector := 2, coalCount := 21, coalTime := 2, cmdTimeout := 8, errReason := 2, inflight := 65536, dbPage := 1, doneCnt := 3, unnotified := 7 } : QueueCtx).valid = true ∧ ({ zQueueCtx with valid := true, state := .active, sclass := 5, weight := 8, tenant := 2, sqLog2 := 5, cqLog2 := 19, maxInflight := 2, ldSlot := 19, ringHandle := 3, sqOff := 4096, cqOff := 7, sqHead := 1, sqTail := 64, cqHead := 8, cqTail := 4, vector := 2, coalCount := 21, coalTime := 2, cmdTimeout := 8, errReason := 2, inflight := 65536, dbPage := 1, doneCnt := 3, unnotified := 7 } : QueueCtx).state = .active) ∧
    (wQueueDoorbells_16.regsOk ∧ wQueueDoorbells_16.commands ((Requester.warden) : Requester) qePage ∧ wQueueDoorbells_16.qe.qctl = none ∧ wQueueDoorbells_16.queue (1048575 : BitVec 20).toNat = some ({ zQueueCtx with valid := true, sclass := 3, weight := 8, tenant := 1, sqLog2 := 3, cqLog2 := 2, maxInflight := 100, ldSlot := 2, port := 3, ringHandle := 4096, sqOff := 5, cqOff := 19, sqHead := 2, sqTail := 21, cqHead := 4096, cqTail := 5, armed := true, vector := 3, coalCount := 64, coalTime := 100, cmdTimeout := 20, errReason := 4, inflight := 100, dbPage := 20, doneCnt := 7, unnotified := 4 } : QueueCtx) ∧ ({ zQueueCtx with valid := true, sclass := 3, weight := 8, tenant := 1, sqLog2 := 3, cqLog2 := 2, maxInflight := 100, ldSlot := 2, port := 3, ringHandle := 4096, sqOff := 5, cqOff := 19, sqHead := 2, sqTail := 21, cqHead := 4096, cqTail := 5, armed := true, vector := 3, coalCount := 64, coalTime := 100, cmdTimeout := 20, errReason := 4, inflight := 100, dbPage := 20, doneCnt := 7, unnotified := 4 } : QueueCtx).valid = true) ∧
    (wQueueDoorbells_16.regsOk ∧ wQueueDoorbells_16.commands ((Requester.warden) : Requester) qePage ∧ wQueueDoorbells_16.qe.qctl = none ∧ wQueueDoorbells_16.queue (1048575 : BitVec 20).toNat = some ({ zQueueCtx with valid := true, sclass := 3, weight := 8, tenant := 1, sqLog2 := 3, cqLog2 := 2, maxInflight := 100, ldSlot := 2, port := 3, ringHandle := 4096, sqOff := 5, cqOff := 19, sqHead := 2, sqTail := 21, cqHead := 4096, cqTail := 5, armed := true, vector := 3, coalCount := 64, coalTime := 100, cmdTimeout := 20, errReason := 4, inflight := 100, dbPage := 20, doneCnt := 7, unnotified := 4 } : QueueCtx) ∧ ({ zQueueCtx with valid := true, sclass := 3, weight := 8, tenant := 1, sqLog2 := 3, cqLog2 := 2, maxInflight := 100, ldSlot := 2, port := 3, ringHandle := 4096, sqOff := 5, cqOff := 19, sqHead := 2, sqTail := 21, cqHead := 4096, cqTail := 5, armed := true, vector := 3, coalCount := 64, coalTime := 100, cmdTimeout := 20, errReason := 4, inflight := 100, dbPage := 20, doneCnt := 7, unnotified := 4 } : QueueCtx).valid = true) ∧
    (wQueueDoorbells_17.regsOk ∧ wQueueDoorbells_17.queue (3 : BitVec 20).toNat = some ({ zQueueCtx with valid := true, state := .error, sclass := 19, tenant := 5, sqLog2 := 1, maxInflight := 1, ldSlot := 4, port := 21, ringHandle := 21, sqOff := 65536, cqOff := 8, sqHead := 1, sqTail := 64, cqHead := 2, cqTail := 100, armed := true, vector := 8, coalCount := 65536, coalTime := 3, cmdTimeout := 21, errReason := 1, dbPage := 21, doneCnt := 2, check := 7, unnotified := 7 } : QueueCtx) ∧ wQueueDoorbells_17.qe.qctl = some ((3 : BitVec 20).toNat, true) ∧ ({ zQueueCtx with valid := true, state := .error, sclass := 19, tenant := 5, sqLog2 := 1, maxInflight := 1, ldSlot := 4, port := 21, ringHandle := 21, sqOff := 65536, cqOff := 8, sqHead := 1, sqTail := 64, cqHead := 2, cqTail := 100, armed := true, vector := 8, coalCount := 65536, coalTime := 3, cmdTimeout := 21, errReason := 1, dbPage := 21, doneCnt := 2, check := 7, unnotified := 7 } : QueueCtx).inflight = 0) ∧
    (wQueueDoorbells_18.regsOk ∧ wQueueDoorbells_18.queue (0 : BitVec 20).toNat = some ({ zQueueCtx with valid := true, state := .active, sclass := 20, weight := 4, tenant := 8, sqLog2 := 3, cqLog2 := 100, maxInflight := 21, ldSlot := 8, port := 4096, ringHandle := 21, sqOff := 64, cqOff := 19, sqHead := 100, sqTail := 4096, cqHead := 64, cqPhase := true, armed := true, vector := 4, coalCount := 4096, coalTime := 65536, cmdTimeout := 8, errReason := 7, dbPage := 5, doneCnt := 21, check := 8, unnotified := 19 } : QueueCtx) ∧ wQueueDoorbells_18.qe.qctl = some ((0 : BitVec 20).toNat, false) ∧ ({ zQueueCtx with valid := true, state := .active, sclass := 20, weight := 4, tenant := 8, sqLog2 := 3, cqLog2 := 100, maxInflight := 21, ldSlot := 8, port := 4096, ringHandle := 21, sqOff := 64, cqOff := 19, sqHead := 100, sqTail := 4096, cqHead := 64, cqPhase := true, armed := true, vector := 4, coalCount := 4096, coalTime := 65536, cmdTimeout := 8, errReason := 7, dbPage := 5, doneCnt := 21, check := 8, unnotified := 19 } : QueueCtx).inflight = 0) :=
  ⟨(by decide +kernel),
   (by simp only [regsOk_iff]; decide +kernel),
   (by decide +kernel),
   (by simp only [regsOk_iff]; decide +kernel),
   (by decide +kernel),
   (by decide +kernel),
   (show _ by decide +kernel),
   (by decide +kernel),
   (by decide),
   (by decide +kernel),
   (by simp only [regsOk_iff, State.commands, State.governs, State.admits, State.wayClear]; decide +kernel),
   (by simp only [regsOk_iff, State.commands, State.governs, State.admits, State.wayClear]; decide +kernel),
   (by simp only [regsOk_iff, State.commands, State.governs, State.admits, State.wayClear]; decide +kernel),
   (by simp only [regsOk_iff, State.commands, State.governs, State.admits, State.wayClear]; decide +kernel),
   (by simp only [regsOk_iff]; decide +kernel),
   (by simp only [regsOk_iff]; decide +kernel)⟩

def wQueueCommandFlow_1 : State := ring (entry (.copy 65541 0 65541 4096 64)).encode State.reset
def wQueueCommandFlow_2 : State := ring (entry (.zero 65541 0 64)).encode State.reset
def wQueueCommandFlow_3 : State := ring (entry (.rwrite 65541 0 16 2049 0 64 false)).encode State.reset
def wQueueCommandFlow_4 : State := ring (entry (.rread 65541 0 16 2049 0 64 false)).encode State.reset
def wQueueCommandFlow_5 : State := ring (entry (.nop)).encode State.reset
def wQueueCommandFlow_6 : State :=
  { State.reset with regs := [(293603360, 1)], xlt.regions := [(1, { zRegion with valid := true, tenant := 5, pathMask := 1, gen := 5, size := 4, root := 1048576, flushDb := 1537, remoteOk := true, queueW := true, hostW := true, remoteW := true, check := 4127110408 })], xlt.bmap := [(4294967296, { zBme with alloc := true, zero := true, pbn := 7, chk := 218 })], qe.queues := [(1048575, { zQueueCtx with valid := true, state := .active, sclass := 65536, weight := 64, tenant := 5, sqLog2 := 6, cqLog2 := 6, maxInflight := 16, ldSlot := 65536, port := 4096, ringHandle := 65541, cqOff := 8192, sqHead := 2, sqTail := 5, cqHead := 3, cqTail := 3, armed := true, vector := 5, coalTime := 100, cmdTimeout := 7, errReason := 100, inflight := 1, dbPage := 2, doneCnt := 21, check := 1903875979, unnotified := 2 })] }
def wQueueCommandFlow_7 : State := ring (entry (.abort 5)).encode State.reset
def wQueueCommandFlow_8 : State := ring (entry (.abort 5)).encode { State.reset with qe.cmds := [{ zCmd with cmdId := 5, cmd := .nop, order := 9 }] }
def wQueueCommandFlow_9 : State :=
  { State.reset with regs := [(260081696, 0), (293603360, 1)], xlt.regions := [(1, { zRegion with valid := true, pclass := 2, tenant := 5, pathMask := 5, gen := 5, size := 4, root := 1048576, flushDb := 1537, remoteOk := true, queueW := true, hostW := true, remoteW := true, check := 1451403541 })], xlt.bmap := [(4294967296, { zBme with alloc := true, pbn := 7, chk := 159 })], qe.queues := [(3, { zQueueCtx with valid := true, state := .active, sclass := 7, weight := 64, tenant := 5, sqLog2 := 6, cqLog2 := 6, maxInflight := 65536, ldSlot := 4096, port := 1, ringHandle := 65541, cqOff := 8192, sqHead := 5, sqTail := 19, cqHead := 3, cqTail := 7, cqPhase := true, armed := true, vector := 64, coalCount := 3, coalTime := 7, cmdTimeout := 4, errReason := 100, inflight := 100, dbPage := 20, doneCnt := 19, check := 3634462021, unnotified := 1 })], qe.cmds := [{ zCmd with qid := 3, cmdId := 1, notify := true, cmd := (QCmd.zero 6 7 7), tenant := 21, sclass := 2, fetched := 21, timeout := 7, sqHeadAfter := 19, stop := true, slow := .fenced, waitBlocks := [(4, 7)], refused := 3, raiseErr := (some (1, .fenced)), ended := (some .okSlowPath), result := (some { zCmdResult with status := .okSlowPath, result0 := 21, prefixLen := 4 }), preempted := true, order := 8 }], tier.blocks := [(7, { zTBlock with state := .resident, units := [(2, { zTUnit with present := true })] })], tier.quotas := [(5, { zQuota with t1Quota := 1000, t2Quota := 1000, t2Used := 4, check := 618357970 })] }
def wQueueCommandFlow_10 : State :=
  { State.reset with qe.cmds := [{ zCmd with qid := 315465, cmdId := 3, notify := true, cmd := (QCmd.persist 512 13090137256649257111 2 false), tenant := 21, sclass := 5, fetched := 7, timeout := 5, sqHeadAfter := 3, low := 19, complete := [3, 1], fault := (some (1, (.ok, 2))), slow := .quotaExceeded, refused := 4096, preempted := true }] }
def wQueueCommandFlow_11 : State :=
  { State.reset with qe.cmds := [{ zCmd with qid := 262144, cmdId := 5, cmd := (QCmd.copy 65541 65541 0 0 4096), tenant := 7, sclass := 2, timeout := 5, sqHeadAfter := 4, low := 19, complete := [4096, 1], slow := .keyRevoked, waitBlocks := [(0, 1), (3, 5)], refused := 20, ended := (some .aborted), preempted := true, order := 7 }] }
theorem test_QueueCommandFlow :
    (wQueueCommandFlow_1.regsOk ∧ wQueueCommandFlow_1.fetches (0 : BitVec 20).toNat (entry (.copy 65541 0 65541 4096 64)).encode ringQueue (entry (.copy 65541 0 65541 4096 64)) (afterFetch wQueueCommandFlow_1 ringQueue) ∧ (entry (.copy 65541 0 65541 4096 64)).cmd = .copy (65541 : BitVec 40) (0 : BitVec 64) (65541 : BitVec 40) (4096 : BitVec 64) (64 : BitVec 64) ∧ (afterFetch wQueueCommandFlow_1 ringQueue).noMover = false) ∧
    (wQueueCommandFlow_2.regsOk ∧ wQueueCommandFlow_2.fetches (0 : BitVec 20).toNat (entry (.zero 65541 0 64)).encode ringQueue (entry (.zero 65541 0 64)) (afterFetch wQueueCommandFlow_2 ringQueue) ∧ (entry (.zero 65541 0 64)).cmd = .zero ((65541 : BitVec 40) : BitVec 40) (0 : BitVec 64) (64 : BitVec 64) ∧ (afterFetch wQueueCommandFlow_2 ringQueue).noMover = false) ∧
    (wQueueCommandFlow_3.regsOk ∧ wQueueCommandFlow_3.fetches (0 : BitVec 20).toNat (entry (.rwrite 65541 0 16 2049 0 64 false)).encode ringQueue (entry (.rwrite 65541 0 16 2049 0 64 false)) (afterFetch wQueueCommandFlow_3 ringQueue) ∧ (entry (.rwrite 65541 0 16 2049 0 64 false)).cmd = .rwrite ((65541 : BitVec 40) : BitVec 40) (0 : BitVec 64) (16 : BitVec 24) (2049 : BitVec 32) (0 : BitVec 64) (64 : BitVec 64) (false : Bool) ∧ (afterFetch wQueueCommandFlow_3 ringQueue).noMover = false) ∧
    (wQueueCommandFlow_4.regsOk ∧ wQueueCommandFlow_4.fetches (0 : BitVec 20).toNat (entry (.rread 65541 0 16 2049 0 64 false)).encode ringQueue (entry (.rread 65541 0 16 2049 0 64 false)) (afterFetch wQueueCommandFlow_4 ringQueue) ∧ (entry (.rread 65541 0 16 2049 0 64 false)).cmd = .rread ((65541 : BitVec 40) : BitVec 40) (0 : BitVec 64) (16 : BitVec 24) (2049 : BitVec 32) (0 : BitVec 64) (64 : BitVec 64) (false : Bool) ∧ (afterFetch wQueueCommandFlow_4 ringQueue).noMover = false) ∧
    (wQueueCommandFlow_5.regsOk ∧ wQueueCommandFlow_5.fetches (0 : BitVec 20).toNat (entry (.nop)).encode ringQueue (entry (.nop)) (afterFetch wQueueCommandFlow_5 ringQueue) ∧ (entry (.nop)).cmd = .nop) ∧
    (wQueueCommandFlow_6.regsOk ∧ wQueueCommandFlow_6.queue (1048575 : BitVec 20).toNat = some ({ zQueueCtx with valid := true, state := .active, sclass := 65536, weight := 64, tenant := 5, sqLog2 := 6, cqLog2 := 6, maxInflight := 16, ldSlot := 65536, port := 4096, ringHandle := 65541, cqOff := 8192, sqHead := 2, sqTail := 5, cqHead := 3, cqTail := 3, armed := true, vector := 5, coalTime := 100, cmdTimeout := 7, errReason := 100, inflight := 1, dbPage := 2, doneCnt := 21, check := 1903875979, unnotified := 2 } : QueueCtx) ∧ wQueueCommandFlow_6.canFetch (1048575 : BitVec 20).toNat ({ zQueueCtx with valid := true, state := .active, sclass := 65536, weight := 64, tenant := 5, sqLog2 := 6, cqLog2 := 6, maxInflight := 16, ldSlot := 65536, port := 4096, ringHandle := 65541, cqOff := 8192, sqHead := 2, sqTail := 5, cqHead := 3, cqTail := 3, armed := true, vector := 5, coalTime := 100, cmdTimeout := 7, errReason := 100, inflight := 1, dbPage := 2, doneCnt := 21, check := 1903875979, unnotified := 2 } : QueueCtx) ((0 : SqEntry).getLsbD 15) = true ∧ ({ zQueueCtx with valid := true, state := .active, sclass := 65536, weight := 64, tenant := 5, sqLog2 := 6, cqLog2 := 6, maxInflight := 16, ldSlot := 65536, port := 4096, ringHandle := 65541, cqOff := 8192, sqHead := 2, sqTail := 5, cqHead := 3, cqTail := 3, armed := true, vector := 5, coalTime := 100, cmdTimeout := 7, errReason := 100, inflight := 1, dbPage := 2, doneCnt := 21, check := 1903875979, unnotified := 2 } : QueueCtx).checkOk = true ∧ QEntry.decode (0 : SqEntry) = none ∧ wQueueCommandFlow_6.walkQueue ({ zQueueCtx with valid := true, state := .active, sclass := 65536, weight := 64, tenant := 5, sqLog2 := 6, cqLog2 := 6, maxInflight := 16, ldSlot := 65536, port := 4096, ringHandle := 65541, cqOff := 8192, sqHead := 2, sqTail := 5, cqHead := 3, cqTail := 3, armed := true, vector := 5, coalTime := 100, cmdTimeout := 7, errReason := 100, inflight := 1, dbPage := 2, doneCnt := 21, check := 1903875979, unnotified := 2 } : QueueCtx).tenant (BitVec.ofNat 40 ({ zQueueCtx with valid := true, state := .active, sclass := 65536, weight := 64, tenant := 5, sqLog2 := 6, cqLog2 := 6, maxInflight := 16, ldSlot := 65536, port := 4096, ringHandle := 65541, cqOff := 8192, sqHead := 2, sqTail := 5, cqHead := 3, cqTail := 3, armed := true, vector := 5, coalTime := 100, cmdTimeout := 7, errReason := 100, inflight := 1, dbPage := 2, doneCnt := 21, check := 1903875979, unnotified := 2 } : QueueCtx).ringHandle) (({ zQueueCtx with valid := true, state := .active, sclass := 65536, weight := 64, tenant := 5, sqLog2 := 6, cqLog2 := 6, maxInflight := 16, ldSlot := 65536, port := 4096, ringHandle := 65541, cqOff := 8192, sqHead := 2, sqTail := 5, cqHead := 3, cqTail := 3, armed := true, vector := 5, coalTime := 100, cmdTimeout := 7, errReason := 100, inflight := 1, dbPage := 2, doneCnt := 21, check := 1903875979, unnotified := 2 } : QueueCtx).sqOff + ({ zQueueCtx with valid := true, state := .active, sclass := 65536, weight := 64, tenant := 5, sqLog2 := 6, cqLog2 := 6, maxInflight := 16, ldSlot := 65536, port := 4096, ringHandle := 65541, cqOff := 8192, sqHead := 2, sqTail := 5, cqHead := 3, cqTail := 3, armed := true, vector := 5, coalTime := 100, cmdTimeout := 7, errReason := 100, inflight := 1, dbPage := 2, doneCnt := 21, check := 1903875979, unnotified := 2 } : QueueCtx).sqHead * 64) 64 false = (({ State.reset with regs := [(293603360, 1)], xlt.regions := [(1, { zRegion with valid := true, tenant := 5, pathMask := 1, gen := 5, size := 4, root := 1048576, flushDb := 1537, remoteOk := true, queueW := true, hostW := true, remoteW := true, check := 4127110408 })], xlt.bmap := [(4294967296, { zBme with alloc := true, zero := true, pbn := 7, chk := 218 })], xlt.fills := [{ zCacheEntry with key := (XKey.region 1), copy := (XCopy.region { zRegion with valid := true, tenant := 5, pathMask := 1, gen := 5, size := 4, root := 1048576, flushDb := 1537, remoteOk := true, queueW := true, hostW := true, remoteW := true, check := 4127110408 }), used := true }], qe.queues := [(1048575, { zQueueCtx with valid := true, state := .active, sclass := 65536, weight := 64, tenant := 5, sqLog2 := 6, cqLog2 := 6, maxInflight := 16, ldSlot := 65536, port := 4096, ringHandle := 65541, cqOff := 8192, sqHead := 2, sqTail := 5, cqHead := 3, cqTail := 3, armed := true, vector := 5, coalTime := 100, cmdTimeout := 7, errReason := 100, inflight := 1, dbPage := 2, doneCnt := 21, check := 1903875979, unnotified := 2 })] } : State), .ok ({ zRegion with valid := true, tenant := 5, pathMask := 1, gen := 5, size := 4, root := 1048576, flushDb := 1537, remoteOk := true, queueW := true, hostW := true, remoteW := true, check := 4127110408 } : Region)) ∧ ({ State.reset with regs := [(293603360, 1)], xlt.regions := [(1, { zRegion with valid := true, tenant := 5, pathMask := 1, gen := 5, size := 4, root := 1048576, flushDb := 1537, remoteOk := true, queueW := true, hostW := true, remoteW := true, check := 4127110408 })], xlt.bmap := [(4294967296, { zBme with alloc := true, zero := true, pbn := 7, chk := 218 })], xlt.fills := [{ zCacheEntry with key := (XKey.region 1), copy := (XCopy.region { zRegion with valid := true, tenant := 5, pathMask := 1, gen := 5, size := 4, root := 1048576, flushDb := 1537, remoteOk := true, queueW := true, hostW := true, remoteW := true, check := 4127110408 }), used := true }], qe.queues := [(1048575, { zQueueCtx with valid := true, state := .active, sclass := 65536, weight := 64, tenant := 5, sqLog2 := 6, cqLog2 := 6, maxInflight := 16, ldSlot := 65536, port := 4096, ringHandle := 65541, cqOff := 8192, sqHead := 2, sqTail := 5, cqHead := 3, cqTail := 3, armed := true, vector := 5, coalTime := 100, cmdTimeout := 7, errReason := 100, inflight := 1, dbPage := 2, doneCnt := 21, check := 1903875979, unnotified := 2 })] } : State).resolve (({ zQueueCtx with valid := true, state := .active, sclass := 65536, weight := 64, tenant := 5, sqLog2 := 6, cqLog2 := 6, maxInflight := 16, ldSlot := 65536, port := 4096, ringHandle := 65541, cqOff := 8192, sqHead := 2, sqTail := 5, cqHead := 3, cqTail := 3, armed := true, vector := 5, coalTime := 100, cmdTimeout := 7, errReason := 100, inflight := 1, dbPage := 2, doneCnt := 21, check := 1903875979, unnotified := 2 } : QueueCtx).ringHandle / 65536) ({ zRegion with valid := true, tenant := 5, pathMask := 1, gen := 5, size := 4, root := 1048576, flushDb := 1537, remoteOk := true, queueW := true, hostW := true, remoteW := true, check := 4127110408 } : Region) (({ zQueueCtx with valid := true, state := .active, sclass := 65536, weight := 64, tenant := 5, sqLog2 := 6, cqLog2 := 6, maxInflight := 16, ldSlot := 65536, port := 4096, ringHandle := 65541, cqOff := 8192, sqHead := 2, sqTail := 5, cqHead := 3, cqTail := 3, armed := true, vector := 5, coalTime := 100, cmdTimeout := 7, errReason := 100, inflight := 1, dbPage := 2, doneCnt := 21, check := 1903875979, unnotified := 2 } : QueueCtx).sqOff + ({ zQueueCtx with valid := true, state := .active, sclass := 65536, weight := 64, tenant := 5, sqLog2 := 6, cqLog2 := 6, maxInflight := 16, ldSlot := 65536, port := 4096, ringHandle := 65541, cqOff := 8192, sqHead := 2, sqTail := 5, cqHead := 3, cqTail := 3, armed := true, vector := 5, coalTime := 100, cmdTimeout := 7, errReason := 100, inflight := 1, dbPage := 2, doneCnt := 21, check := 1903875979, unnotified := 2 } : QueueCtx).sqHead * 64) = (({ State.reset with regs := [(293603360, 1)], xlt.regions := [(1, { zRegion with valid := true, tenant := 5, pathMask := 1, gen := 5, size := 4, root := 1048576, flushDb := 1537, remoteOk := true, queueW := true, hostW := true, remoteW := true, check := 4127110408 })], xlt.bmap := [(4294967296, { zBme with alloc := true, zero := true, pbn := 7, chk := 218 })], xlt.fills := [{ zCacheEntry with key := (XKey.region 1), copy := (XCopy.region { zRegion with valid := true, tenant := 5, pathMask := 1, gen := 5, size := 4, root := 1048576, flushDb := 1537, remoteOk := true, queueW := true, hostW := true, remoteW := true, check := 4127110408 }), used := true }, { zCacheEntry with key := (XKey.block 1 0), copy := (XCopy.block { zBme with alloc := true, zero := true, pbn := 7, chk := 218 }), used := true }], qe.queues := [(1048575, { zQueueCtx with valid := true, state := .active, sclass := 65536, weight := 64, tenant := 5, sqLog2 := 6, cqLog2 := 6, maxInflight := 16, ldSlot := 65536, port := 4096, ringHandle := 65541, cqOff := 8192, sqHead := 2, sqTail := 5, cqHead := 3, cqTail := 3, armed := true, vector := 5, coalTime := 100, cmdTimeout := 7, errReason := 100, inflight := 1, dbPage := 2, doneCnt := 21, check := 1903875979, unnotified := 2 })] } : State), .ok ({ zPlace64 with region := 1, desc := { zRegion with valid := true, tenant := 5, pathMask := 1, gen := 5, size := 4, root := 1048576, flushDb := 1537, remoteOk := true, queueW := true, hostW := true, remoteW := true, check := 4127110408 }, bme := { zBme with alloc := true, zero := true, pbn := 7, chk := 218 }, sector := 7170 } : Place64)) ∧ ({ State.reset with regs := [(293603360, 1)], xlt.regions := [(1, { zRegion with valid := true, tenant := 5, pathMask := 1, gen := 5, size := 4, root := 1048576, flushDb := 1537, remoteOk := true, queueW := true, hostW := true, remoteW := true, check := 4127110408 })], xlt.bmap := [(4294967296, { zBme with alloc := true, zero := true, pbn := 7, chk := 218 })], xlt.fills := [{ zCacheEntry with key := (XKey.region 1), copy := (XCopy.region { zRegion with valid := true, tenant := 5, pathMask := 1, gen := 5, size := 4, root := 1048576, flushDb := 1537, remoteOk := true, queueW := true, hostW := true, remoteW := true, check := 4127110408 }), used := true }, { zCacheEntry with key := (XKey.block 1 0), copy := (XCopy.block { zBme with alloc := true, zero := true, pbn := 7, chk := 218 }), used := true }], qe.queues := [(1048575, { zQueueCtx with valid := true, state := .active, sclass := 65536, weight := 64, tenant := 5, sqLog2 := 6, cqLog2 := 6, maxInflight := 16, ldSlot := 65536, port := 4096, ringHandle := 65541, cqOff := 8192, sqHead := 2, sqTail := 5, cqHead := 3, cqTail := 3, armed := true, vector := 5, coalTime := 100, cmdTimeout := 7, errReason := 100, inflight := 1, dbPage := 2, doneCnt := 21, check := 1903875979, unnotified := 2 })] } : State).placeVal ({ zPlace64 with region := 1, desc := { zRegion with valid := true, tenant := 5, pathMask := 1, gen := 5, size := 4, root := 1048576, flushDb := 1537, remoteOk := true, queueW := true, hostW := true, remoteW := true, check := 4127110408 }, bme := { zBme with alloc := true, zero := true, pbn := 7, chk := 218 }, sector := 7170 } : Place64) = { data := (0 : SqEntry), poison := false }) ∧
    (wQueueCommandFlow_7.regsOk ∧ wQueueCommandFlow_7.fetches (0 : BitVec 20).toNat (entry (.abort 5)).encode ringQueue (entry (.abort 5)) (afterFetch wQueueCommandFlow_7 ringQueue) ∧ (entry (.abort 5)).cmd = .abort (5 : BitVec 16)) ∧
    (wQueueCommandFlow_8.regsOk ∧ wQueueCommandFlow_8.fetches (0 : BitVec 20).toNat (entry (.abort 5)).encode ringQueue (entry (.abort 5)) (afterFetch wQueueCommandFlow_8 ringQueue) ∧ (entry (.abort 5)).cmd = .abort (5 : BitVec 16) ∧ (wQueueCommandFlow_8.qe.cmds.filter fun y => y.qid == (0 : BitVec 20).toNat && y.cmdId == (5 : BitVec 16).toNat && y.order != wQueueCommandFlow_8.qe.nextOrder && (y.result.isNone || (y.fault.isSome && y.faultAt == wQueueCommandFlow_8.timeNs))) = [({ zCmd with cmdId := 5, cmd := .nop, order := 9 } : Cmd)] ∧ ({ zCmd with cmdId := 5, cmd := .nop, order := 9 } : Cmd).result = none ∧ ({ zCmd with cmdId := 5, cmd := .nop, order := 9 } : Cmd).cmd.moves = false ∧ (wQueueCommandFlow_8.tier.schedules.find? fun y => y.qid == (0 : BitVec 20).toNat && y.cmdId == (5 : BitVec 16).toNat && !y.completed) = none) ∧
    (wQueueCommandFlow_9.regsOk ∧ (wQueueCommandFlow_9.raiseSweep.qe.cmds.find? fun xz => xz.qid == (3 : BitVec 20).toNat && xz.cmdId == (1 : BitVec 16).toNat && xz.result.isSome && !(xz.steps.any fun rz => rz.state.busy)) = some ({ zCmd with qid := 3, cmdId := 1, notify := true, cmd := (QCmd.zero 6 7 7), tenant := 21, sclass := 2, fetched := 21, timeout := 7, sqHeadAfter := 19, stop := true, slow := .fenced, waitBlocks := [(4, 7)], refused := 3, raiseErr := (some (1, .fenced)), ended := (some .okSlowPath), result := (some { zCmdResult with status := .okSlowPath, result0 := 21, prefixLen := 4 }), preempted := true, order := 8 } : Cmd) ∧ ({ zCmd with qid := 3, cmdId := 1, notify := true, cmd := (QCmd.zero 6 7 7), tenant := 21, sclass := 2, fetched := 21, timeout := 7, sqHeadAfter := 19, stop := true, slow := .fenced, waitBlocks := [(4, 7)], refused := 3, raiseErr := (some (1, .fenced)), ended := (some .okSlowPath), result := (some { zCmdResult with status := .okSlowPath, result0 := 21, prefixLen := 4 }), preempted := true, order := 8 } : Cmd).result = some ({ zCmdResult with status := .okSlowPath, result0 := 21, prefixLen := 4 } : CmdResult) ∧ wQueueCommandFlow_9.queue ({ zCmd with qid := 3, cmdId := 1, notify := true, cmd := (QCmd.zero 6 7 7), tenant := 21, sclass := 2, fetched := 21, timeout := 7, sqHeadAfter := 19, stop := true, slow := .fenced, waitBlocks := [(4, 7)], refused := 3, raiseErr := (some (1, .fenced)), ended := (some .okSlowPath), result := (some { zCmdResult with status := .okSlowPath, result0 := 21, prefixLen := 4 }), preempted := true, order := 8 } : Cmd).qid = some ({ zQueueCtx with valid := true, state := .active, sclass := 7, weight := 64, tenant := 5, sqLog2 := 6, cqLog2 := 6, maxInflight := 65536, ldSlot := 4096, port := 1, ringHandle := 65541, cqOff := 8192, sqHead := 5, sqTail := 19, cqHead := 3, cqTail := 7, cqPhase := true, armed := true, vector := 64, coalCount := 3, coalTime := 7, cmdTimeout := 4, errReason := 100, inflight := 100, dbPage := 20, doneCnt := 19, check := 3634462021, unnotified := 1 } : QueueCtx) ∧ ({ zCqEntry with cmdId := 1, status := .okSlowPath, phase := true, sqHead := 19, prefixLen := 4, result0 := 21 } : CqEntry) = { cmdId := ({ zCmd with qid := 3, cmdId := 1, notify := true, cmd := (QCmd.zero 6 7 7), tenant := 21, sclass := 2, fetched := 21, timeout := 7, sqHeadAfter := 19, stop := true, slow := .fenced, waitBlocks := [(4, 7)], refused := 3, raiseErr := (some (1, .fenced)), ended := (some .okSlowPath), result := (some { zCmdResult with status := .okSlowPath, result0 := 21, prefixLen := 4 }), preempted := true, order := 8 } : Cmd).cmdId, status := ({ zCmdResult with status := .okSlowPath, result0 := 21, prefixLen := 4 } : CmdResult).status, phase := ({ zQueueCtx with valid := true, state := .active, sclass := 7, weight := 64, tenant := 5, sqLog2 := 6, cqLog2 := 6, maxInflight := 65536, ldSlot := 4096, port := 1, ringHandle := 65541, cqOff := 8192, sqHead := 5, sqTail := 19, cqHead := 3, cqTail := 7, cqPhase := true, armed := true, vector := 64, coalCount := 3, coalTime := 7, cmdTimeout := 4, errReason := 100, inflight := 100, dbPage := 20, doneCnt := 19, check := 3634462021, unnotified := 1 } : QueueCtx).cqPhase, sqHead := ({ zCmd with qid := 3, cmdId := 1, notify := true, cmd := (QCmd.zero 6 7 7), tenant := 21, sclass := 2, fetched := 21, timeout := 7, sqHeadAfter := 19, stop := true, slow := .fenced, waitBlocks := [(4, 7)], refused := 3, raiseErr := (some (1, .fenced)), ended := (some .okSlowPath), result := (some { zCmdResult with status := .okSlowPath, result0 := 21, prefixLen := 4 }), preempted := true, order := 8 } : Cmd).sqHeadAfter, prefixLen := ({ zCmdResult with status := .okSlowPath, result0 := 21, prefixLen := 4 } : CmdResult).prefixLen, result0 := ({ zCmdResult with status := .okSlowPath, result0 := 21, prefixLen := 4 } : CmdResult).result0, detail := ({ zCmdResult with status := .okSlowPath, result0 := 21, prefixLen := 4 } : CmdResult).detail, elapsed := min (2 ^ 32 - 1) ((wQueueCommandFlow_9.timeNs - ({ zCmd with qid := 3, cmdId := 1, notify := true, cmd := (QCmd.zero 6 7 7), tenant := 21, sclass := 2, fetched := 21, timeout := 7, sqHeadAfter := 19, stop := true, slow := .fenced, waitBlocks := [(4, 7)], refused := 3, raiseErr := (some (1, .fenced)), ended := (some .okSlowPath), result := (some { zCmdResult with status := .okSlowPath, result0 := 21, prefixLen := 4 }), preempted := true, order := 8 } : Cmd).fetched) / 1000) } ∧ wQueueCommandFlow_9.raiseSweep.cqWrite ({ zQueueCtx with valid := true, state := .active, sclass := 7, weight := 64, tenant := 5, sqLog2 := 6, cqLog2 := 6, maxInflight := 65536, ldSlot := 4096, port := 1, ringHandle := 65541, cqOff := 8192, sqHead := 5, sqTail := 19, cqHead := 3, cqTail := 7, cqPhase := true, armed := true, vector := 64, coalCount := 3, coalTime := 7, cmdTimeout := 4, errReason := 100, inflight := 100, dbPage := 20, doneCnt := 19, check := 3634462021, unnotified := 1 } : QueueCtx) ({ zCqEntry with cmdId := 1, status := .okSlowPath, phase := true, sqHead := 19, prefixLen := 4, result0 := 21 } : CqEntry) = (({ State.reset with regs := [(260081696, 0), (293603360, 1)], xlt.regions := [(1, { zRegion with valid := true, pclass := 2, tenant := 5, pathMask := 5, gen := 5, size := 4, root := 1048576, flushDb := 1537, remoteOk := true, queueW := true, hostW := true, remoteW := true, check := 1451403541 })], xlt.bmap := [(4294967296, { zBme with alloc := true, pbn := 7, chk := 159 })], xlt.fills := [{ zCacheEntry with key := (XKey.region 1), copy := (XCopy.region { zRegion with valid := true, pclass := 2, tenant := 5, pathMask := 5, gen := 5, size := 4, root := 1048576, flushDb := 1537, remoteOk := true, queueW := true, hostW := true, remoteW := true, check := 1451403541 }), used := true }, { zCacheEntry with key := (XKey.block 1 0), copy := (XCopy.block { zBme with alloc := true, pbn := 7, chk := 159 }), used := true }], qe.queues := [(3, { zQueueCtx with valid := true, state := .active, sclass := 7, weight := 64, tenant := 5, sqLog2 := 6, cqLog2 := 6, maxInflight := 65536, ldSlot := 4096, port := 1, ringHandle := 65541, cqOff := 8192, sqHead := 5, sqTail := 19, cqHead := 3, cqTail := 7, cqPhase := true, armed := true, vector := 64, coalCount := 3, coalTime := 7, cmdTimeout := 4, errReason := 100, inflight := 100, dbPage := 20, doneCnt := 19, check := 3634462021, unnotified := 1 })], qe.cmds := [{ zCmd with qid := 3, cmdId := 1, notify := true, cmd := (QCmd.zero 6 7 7), tenant := 21, sclass := 2, fetched := 21, timeout := 7, sqHeadAfter := 19, stop := true, slow := .fenced, waitBlocks := [(4, 7)], refused := 3, raiseErr := (some (1, .fenced)), ended := (some .okSlowPath), result := (some { zCmdResult with status := .okSlowPath, result0 := 21, prefixLen := 4 }), preempted := true, order := 8 }], tier.blocks := [(7, { zTBlock with state := .resident, charge := (some 5), units := [(2, { zTUnit with present := true, dirty := true, stamp := 1, cls := 2 })], used := true })], tier.quotas := [(5, { zQuota with t1Quota := 1000, t2Quota := 1000, t2Used := 4, check := 618357970, t1Used := 1 })], pan.lines := [(269440, { zLine with s1 := { zLineSec with valid := true, dirty := true, val := { zSectorVal with data := 827442130124284063466403790256397348523461963629228225077907704004295809273434569840583168148946309517973078262415360 } }, age := 1 })] } : State), some (.ok ())) ∧ ({ State.reset with regs := [(260081696, 0), (293603360, 1)], xlt.regions := [(1, { zRegion with valid := true, pclass := 2, tenant := 5, pathMask := 5, gen := 5, size := 4, root := 1048576, flushDb := 1537, remoteOk := true, queueW := true, hostW := true, remoteW := true, check := 1451403541 })], xlt.bmap := [(4294967296, { zBme with alloc := true, pbn := 7, chk := 159 })], xlt.fills := [{ zCacheEntry with key := (XKey.region 1), copy := (XCopy.region { zRegion with valid := true, pclass := 2, tenant := 5, pathMask := 5, gen := 5, size := 4, root := 1048576, flushDb := 1537, remoteOk := true, queueW := true, hostW := true, remoteW := true, check := 1451403541 }), used := true }, { zCacheEntry with key := (XKey.block 1 0), copy := (XCopy.block { zBme with alloc := true, pbn := 7, chk := 159 }), used := true }], qe.queues := [(3, { zQueueCtx with valid := true, state := .active, sclass := 7, weight := 64, tenant := 5, sqLog2 := 6, cqLog2 := 6, maxInflight := 65536, ldSlot := 4096, port := 1, ringHandle := 65541, cqOff := 8192, sqHead := 5, sqTail := 19, cqHead := 3, cqTail := 7, cqPhase := true, armed := true, vector := 64, coalCount := 3, coalTime := 7, cmdTimeout := 4, errReason := 100, inflight := 100, dbPage := 20, doneCnt := 19, check := 3634462021, unnotified := 1 })], qe.cmds := [{ zCmd with qid := 3, cmdId := 1, notify := true, cmd := (QCmd.zero 6 7 7), tenant := 21, sclass := 2, fetched := 21, timeout := 7, sqHeadAfter := 19, stop := true, slow := .fenced, waitBlocks := [(4, 7)], refused := 3, raiseErr := (some (1, .fenced)), ended := (some .okSlowPath), result := (some { zCmdResult with status := .okSlowPath, result0 := 21, prefixLen := 4 }), preempted := true, order := 8 }], tier.blocks := [(7, { zTBlock with state := .resident, charge := (some 5), units := [(2, { zTUnit with present := true, dirty := true, stamp := 1, cls := 2 })], used := true })], tier.quotas := [(5, { zQuota with t1Quota := 1000, t2Quota := 1000, t2Used := 4, check := 618357970, t1Used := 1 })], pan.lines := [(269440, { zLine with s1 := { zLineSec with valid := true, dirty := true, val := { zSectorVal with data := 827442130124284063466403790256397348523461963629228225077907704004295809273434569840583168148946309517973078262415360 } }, age := 1 })] } : State).queue ({ zCmd with qid := 3, cmdId := 1, notify := true, cmd := (QCmd.zero 6 7 7), tenant := 21, sclass := 2, fetched := 21, timeout := 7, sqHeadAfter := 19, stop := true, slow := .fenced, waitBlocks := [(4, 7)], refused := 3, raiseErr := (some (1, .fenced)), ended := (some .okSlowPath), result := (some { zCmdResult with status := .okSlowPath, result0 := 21, prefixLen := 4 }), preempted := true, order := 8 } : Cmd).qid = some ({ zQueueCtx with valid := true, state := .active, sclass := 7, weight := 64, tenant := 5, sqLog2 := 6, cqLog2 := 6, maxInflight := 65536, ldSlot := 4096, port := 1, ringHandle := 65541, cqOff := 8192, sqHead := 5, sqTail := 19, cqHead := 3, cqTail := 7, cqPhase := true, armed := true, vector := 64, coalCount := 3, coalTime := 7, cmdTimeout := 4, errReason := 100, inflight := 100, dbPage := 20, doneCnt := 19, check := 3634462021, unnotified := 1 } : QueueCtx)) ∧
    (wQueueCommandFlow_10.regsOk ∧ (wQueueCommandFlow_10.qe.cmds.find? fun xz => xz.qid == (315465 : BitVec 20).toNat && xz.cmdId == (3 : BitVec 16).toNat && xz.result.isNone) = some ({ zCmd with qid := 315465, cmdId := 3, notify := true, cmd := (QCmd.persist 512 13090137256649257111 2 false), tenant := 21, sclass := 5, fetched := 7, timeout := 5, sqHeadAfter := 3, low := 19, complete := [3, 1], fault := (some (1, (.ok, 2))), slow := .quotaExceeded, refused := 4096, preempted := true } : Cmd) ∧ ({ zCmd with qid := 315465, cmdId := 3, notify := true, cmd := (QCmd.persist 512 13090137256649257111 2 false), tenant := 21, sclass := 5, fetched := 7, timeout := 5, sqHeadAfter := 3, low := 19, complete := [3, 1], fault := (some (1, (.ok, 2))), slow := .quotaExceeded, refused := 4096, preempted := true } : Cmd).cmd.timed = true ∧ ({ zCmd with qid := 315465, cmdId := 3, notify := true, cmd := (QCmd.persist 512 13090137256649257111 2 false), tenant := 21, sclass := 5, fetched := 7, timeout := 5, sqHeadAfter := 3, low := 19, complete := [3, 1], fault := (some (1, (.ok, 2))), slow := .quotaExceeded, refused := 4096, preempted := true } : Cmd).timeout ≠ 0 ∧ ({ zCmd with qid := 315465, cmdId := 3, notify := true, cmd := (QCmd.persist 512 13090137256649257111 2 false), tenant := 21, sclass := 5, fetched := 7, timeout := 5, sqHeadAfter := 3, low := 19, complete := [3, 1], fault := (some (1, (.ok, 2))), slow := .quotaExceeded, refused := 4096, preempted := true } : Cmd).cmd.moves = false ∧ (wQueueCommandFlow_10.tier.schedules.find? fun y => y.qid == ({ zCmd with qid := 315465, cmdId := 3, notify := true, cmd := (QCmd.persist 512 13090137256649257111 2 false), tenant := 21, sclass := 5, fetched := 7, timeout := 5, sqHeadAfter := 3, low := 19, complete := [3, 1], fault := (some (1, (.ok, 2))), slow := .quotaExceeded, refused := 4096, preempted := true } : Cmd).qid && y.cmdId == ({ zCmd with qid := 315465, cmdId := 3, notify := true, cmd := (QCmd.persist 512 13090137256649257111 2 false), tenant := 21, sclass := 5, fetched := 7, timeout := 5, sqHeadAfter := 3, low := 19, complete := [3, 1], fault := (some (1, (.ok, 2))), slow := .quotaExceeded, refused := 4096, preempted := true } : Cmd).cmdId && !y.completed) = none) ∧
    (wQueueCommandFlow_11.regsOk ∧ (wQueueCommandFlow_11.qe.cmds.find? fun xz => xz.qid == (262144 : BitVec 20).toNat && xz.cmdId == (5 : BitVec 16).toNat && xz.result.isNone) = some ({ zCmd with qid := 262144, cmdId := 5, cmd := (QCmd.copy 65541 65541 0 0 4096), tenant := 7, sclass := 2, timeout := 5, sqHeadAfter := 4, low := 19, complete := [4096, 1], slow := .keyRevoked, waitBlocks := [(0, 1), (3, 5)], refused := 20, ended := (some .aborted), preempted := true, order := 7 } : Cmd) ∧ ({ zCmd with qid := 262144, cmdId := 5, cmd := (QCmd.copy 65541 65541 0 0 4096), tenant := 7, sclass := 2, timeout := 5, sqHeadAfter := 4, low := 19, complete := [4096, 1], slow := .keyRevoked, waitBlocks := [(0, 1), (3, 5)], refused := 20, ended := (some .aborted), preempted := true, order := 7 } : Cmd).cmd.timed = true ∧ ({ zCmd with qid := 262144, cmdId := 5, cmd := (QCmd.copy 65541 65541 0 0 4096), tenant := 7, sclass := 2, timeout := 5, sqHeadAfter := 4, low := 19, complete := [4096, 1], slow := .keyRevoked, waitBlocks := [(0, 1), (3, 5)], refused := 20, ended := (some .aborted), preempted := true, order := 7 } : Cmd).timeout ≠ 0 ∧ ({ zCmd with qid := 262144, cmdId := 5, cmd := (QCmd.copy 65541 65541 0 0 4096), tenant := 7, sclass := 2, timeout := 5, sqHeadAfter := 4, low := 19, complete := [4096, 1], slow := .keyRevoked, waitBlocks := [(0, 1), (3, 5)], refused := 20, ended := (some .aborted), preempted := true, order := 7 } : Cmd).cmd.moves = true) :=
  ⟨⟨by rw [regsOk_iff]; decide +kernel, fetches_of (by decide +kernel) (by decide +kernel) (show _ by decide +kernel) (by decide +kernel) (by decide +kernel) (show _ by decide +kernel) (by decide +kernel), rfl, by decide +kernel⟩,
   ⟨by rw [regsOk_iff]; decide +kernel, fetches_of (by decide +kernel) (by decide +kernel) (show _ by decide +kernel) (by decide +kernel) (by decide +kernel) (show _ by decide +kernel) (by decide +kernel), rfl, by decide +kernel⟩,
   ⟨by rw [regsOk_iff]; decide +kernel, fetches_of (by decide +kernel) (by decide +kernel) (show _ by decide +kernel) (by decide +kernel) (by decide +kernel) (show _ by decide +kernel) (by decide +kernel), rfl, by decide +kernel⟩,
   ⟨by rw [regsOk_iff]; decide +kernel, fetches_of (by decide +kernel) (by decide +kernel) (show _ by decide +kernel) (by decide +kernel) (by decide +kernel) (show _ by decide +kernel) (by decide +kernel), rfl, by decide +kernel⟩,
   ⟨by rw [regsOk_iff]; decide +kernel, fetches_of (by decide +kernel) (by decide +kernel) (show _ by decide +kernel) (by decide +kernel) (by decide +kernel) (show _ by decide +kernel) (by decide +kernel), rfl⟩,
   (by simp only [regsOk_iff]; decide +kernel),
   ⟨by rw [regsOk_iff]; decide +kernel, fetches_of (by decide +kernel) (by decide +kernel) (show _ by decide +kernel) (by decide +kernel) (by decide +kernel) (show _ by decide +kernel) (by decide +kernel), rfl⟩,
   ⟨by rw [regsOk_iff]; decide +kernel, fetches_of (by decide +kernel) (by decide +kernel) (show _ by decide +kernel) (by decide +kernel) (by decide +kernel) (show _ by decide +kernel) (by decide +kernel), rfl, by decide +kernel, rfl, rfl, rfl⟩,
   ⟨by rw [regsOk_iff]; decide +kernel, by decide +kernel⟩,
   ⟨by rw [regsOk_iff]; decide +kernel, by decide +kernel⟩,
   ⟨by rw [regsOk_iff]; decide +kernel, by decide +kernel⟩⟩

def wMoverEvents_2 : State :=
  { State.reset with regs := [(235505692, 2), (260048928, 0), (285214848, 1), (293603388, 3)], xlt.bmap := [(4294967296, { zBme with alloc := true, pbn := 7, chk := 159 })], qe.cmds := [{ zCmd with qid := 8, cmdId := 4096, cmd := (QCmd.zero 65541 0 64), tenant := 5, sclass := 64, timeout := 2, sqHeadAfter := 65536, low := 5, complete := [4096, 8], steps := [{ zStepRec with state := (StepState.running 64), remoteRetry := true, avoid := (some 64), slow := .authFail, ran := 7, got := [(2, { zSectorVal with data := 550377337206830876624970585032803272657331364823954779894386129958396433336569359548062137496170594729213954486577777681510049027858007254053141178112686, poison := true })] }], stop := true, slow := .incompleteMessage, refused := 2, ended := (some .internal), order := 7 }], mov.runs := [(19, { zMoverRun with qid := 8, cmdId := 4096 })], tier.blocks := [(7, { zTBlock with state := .resident, units := [(0, { zTUnit with present := true })] })], tier.quotas := [(5, { zQuota with t1Quota := 1000, t2Quota := 1000, t2Used := 4, check := 618357970 })] }
def wMoverEvents_3 : State :=
  { State.reset with regs := [(235374620, 2)], qe.cmds := [{ zCmd with qid := 21, cmdId := 1, cmd := (QCmd.regionGrow 134217728 0), tenant := 8, sclass := 8, fetched := 21, timeout := 100, sqHeadAfter := 21, low := 19, complete := [5, 100], steps := [{ zStepRec with index := 100, state := (StepState.parked), avoid := (some 5), slow := .mediaError, ran := 100, got := [(0, { zSectorVal with data := 6 }), (4, { zSectorVal with data := 13407807929942597099574024998205846127479365820592393377723561443721764030073546976801874298166903427690031858186486050853753882811946569946433649006084095, poison := true })] }], fault := (some (65536, (.incompleteMessage, 8))), slow := .mediaError, poisoned := (some 4), refused := 4, raiseErr := (some (8, .keyRevoked)), barrier := (some 8), preempted := true, order := 1 }], mov.runs := [(15, { zMoverRun with qid := 21, cmdId := 1, index := 100 })] }
def wMoverEvents_4 : State :=
  { State.reset with regs := [(235735068, 2)], qe.cmds := [{ zCmd with qid := 3, cmdId := 4, notify := true, cmd := (QCmd.copy 2 16787974652182764218 294017398652 72057594037927936 2), tenant := 7, sclass := 4, fetched := 5, timeout := 5, sqHeadAfter := 19, low := 19, complete := [2, 65536], steps := [{ zStepRec with index := 1, state := (StepState.running 26), moverRetry := true, remoteRetry := true, avoid := (some 100), slow := .quotaExceeded, ran := 26, got := [(2, { zSectorVal with data := 4 }), (4, { zSectorVal with data := 6 })] }], slow := .retainedShared, waitBlocks := [(2, 7)], refused := 8, result := (some { zCmdResult with status := .okSlowPath, result0 := 4096, prefixLen := 4 }), preempted := true, order := 19 }], mov.runs := [(26, { zMoverRun with qid := 3, cmdId := 4, index := 1 })] }
def wMoverEvents_5 : State :=
  { State.reset with qe.cmds := [{ zCmd with cmdId := 52702, cmd := (QCmd.regionGrow 5 4294967295), tenant := 21, sclass := 64, fetched := 5, timeout := 64, sqHeadAfter := 4096, low := 65536, complete := [19, 5], steps := [{ zStepRec with index := 100, state := (StepState.parked), slow := .incompleteMessage, ran := 65536 }], fault := (some (19, (.lengthError, 0))), slow := .keyRevoked, poisoned := (some 7), waitBlocks := [(1, 5)], refused := 7, ended := (some .okSlowPath), barrier := (some 0), order := 8 }] }
def wMoverEvents_7 : State :=
  { State.reset with ctl.single := [{ zStaged with page := { zPage with blk := .mov, inst := 22 }, key := 235604288, value := 1 }] }
theorem test_MoverEvents :
    (wMoverEvents_2.regsOk ∧ wMoverEvents_2.unstaged (movPage (19 : MoverId).val) ∧ wMoverEvents_2.get MOV.STATE (19 : MoverId).val = movMove ∧ tget wMoverEvents_2.mov.runs (19 : MoverId).val = some ({ zMoverRun with qid := 8, cmdId := 4096 } : MoverRun) ∧ wMoverEvents_2.cmd ({ zMoverRun with qid := 8, cmdId := 4096 } : MoverRun).qid ({ zMoverRun with qid := 8, cmdId := 4096 } : MoverRun).cmdId = some ({ zCmd with qid := 8, cmdId := 4096, cmd := (QCmd.zero 65541 0 64), tenant := 5, sclass := 64, timeout := 2, sqHeadAfter := 65536, low := 5, complete := [4096, 8], steps := [{ zStepRec with state := (StepState.running 64), remoteRetry := true, avoid := (some 64), slow := .authFail, ran := 7, got := [(2, { zSectorVal with data := 550377337206830876624970585032803272657331364823954779894386129958396433336569359548062137496170594729213954486577777681510049027858007254053141178112686, poison := true })] }], stop := true, slow := .incompleteMessage, refused := 2, ended := (some .internal), order := 7 } : Cmd) ∧ ({ zCmd with qid := 8, cmdId := 4096, cmd := (QCmd.zero 65541 0 64), tenant := 5, sclass := 64, timeout := 2, sqHeadAfter := 65536, low := 5, complete := [4096, 8], steps := [{ zStepRec with state := (StepState.running 64), remoteRetry := true, avoid := (some 64), slow := .authFail, ran := 7, got := [(2, { zSectorVal with data := 550377337206830876624970585032803272657331364823954779894386129958396433336569359548062137496170594729213954486577777681510049027858007254053141178112686, poison := true })] }], stop := true, slow := .incompleteMessage, refused := 2, ended := (some .internal), order := 7 } : Cmd).step ({ zMoverRun with qid := 8, cmdId := 4096 } : MoverRun).index = some ({ zStepRec with state := (StepState.running 64), remoteRetry := true, avoid := (some 64), slow := .authFail, ran := 7, got := [(2, { zSectorVal with data := 550377337206830876624970585032803272657331364823954779894386129958396433336569359548062137496170594729213954486577777681510049027858007254053141178112686, poison := true })] } : StepRec) ∧ ({ zCmd with qid := 8, cmdId := 4096, cmd := (QCmd.zero 65541 0 64), tenant := 5, sclass := 64, timeout := 2, sqHeadAfter := 65536, low := 5, complete := [4096, 8], steps := [{ zStepRec with state := (StepState.running 64), remoteRetry := true, avoid := (some 64), slow := .authFail, ran := 7, got := [(2, { zSectorVal with data := 550377337206830876624970585032803272657331364823954779894386129958396433336569359548062137496170594729213954486577777681510049027858007254053141178112686, poison := true })] }], stop := true, slow := .incompleteMessage, refused := 2, ended := (some .internal), order := 7 } : Cmd).cmd = .zero (65541 : BitVec 40) (0 : BitVec 64) (64 : BitVec 64) ∧ (2 ≤ (wMoverEvents_2.regionAt (handleId (65541 : BitVec 40))).pclass ∨ wMoverEvents_2.heldAhead ({ zMoverRun with qid := 8, cmdId := 4096 } : MoverRun).qid ({ zMoverRun with qid := 8, cmdId := 4096 } : MoverRun).cmdId ({ zMoverRun with qid := 8, cmdId := 4096 } : MoverRun).index = false) ∧ wMoverEvents_2.writeRange ({ zCmd with qid := 8, cmdId := 4096, cmd := (QCmd.zero 65541 0 64), tenant := 5, sclass := 64, timeout := 2, sqHeadAfter := 65536, low := 5, complete := [4096, 8], steps := [{ zStepRec with state := (StepState.running 64), remoteRetry := true, avoid := (some 64), slow := .authFail, ran := 7, got := [(2, { zSectorVal with data := 550377337206830876624970585032803272657331364823954779894386129958396433336569359548062137496170594729213954486577777681510049027858007254053141178112686, poison := true })] }], stop := true, slow := .incompleteMessage, refused := 2, ended := (some .internal), order := 7 } : Cmd).tenant (handleId (65541 : BitVec 40)) (wMoverEvents_2.regionAt (handleId (65541 : BitVec 40))) (({ zCmd with qid := 8, cmdId := 4096, cmd := (QCmd.zero 65541 0 64), tenant := 5, sclass := 64, timeout := 2, sqHeadAfter := 65536, low := 5, complete := [4096, 8], steps := [{ zStepRec with state := (StepState.running 64), remoteRetry := true, avoid := (some 64), slow := .authFail, ran := 7, got := [(2, { zSectorVal with data := 550377337206830876624970585032803272657331364823954779894386129958396433336569359548062137496170594729213954486577777681510049027858007254053141178112686, poison := true })] }], stop := true, slow := .incompleteMessage, refused := 2, ended := (some .internal), order := 7 } : Cmd).cmd.stepStart ({ zMoverRun with qid := 8, cmdId := 4096 } : MoverRun).index) (List.replicate (({ zCmd with qid := 8, cmdId := 4096, cmd := (QCmd.zero 65541 0 64), tenant := 5, sclass := 64, timeout := 2, sqHeadAfter := 65536, low := 5, complete := [4096, 8], steps := [{ zStepRec with state := (StepState.running 64), remoteRetry := true, avoid := (some 64), slow := .authFail, ran := 7, got := [(2, { zSectorVal with data := 550377337206830876624970585032803272657331364823954779894386129958396433336569359548062137496170594729213954486577777681510049027858007254053141178112686, poison := true })] }], stop := true, slow := .incompleteMessage, refused := 2, ended := (some .internal), order := 7 } : Cmd).cmd.stepLen ({ zMoverRun with qid := 8, cmdId := 4096 } : MoverRun).index) 0) (fun _ _ => false) true = (({ State.reset with regs := [(235505692, 2), (260048928, 0), (285214848, 1), (293603388, 3)], xlt.bmap := [(4294967296, { zBme with alloc := true, pbn := 7, chk := 159 })], xlt.fills := [{ zCacheEntry with key := (XKey.block 1 0), copy := (XCopy.block { zBme with alloc := true, pbn := 7, chk := 159 }), used := true }], qe.cmds := [{ zCmd with qid := 8, cmdId := 4096, cmd := (QCmd.zero 65541 0 64), tenant := 5, sclass := 64, timeout := 2, sqHeadAfter := 65536, low := 5, complete := [4096, 8], steps := [{ zStepRec with state := (StepState.running 64), remoteRetry := true, avoid := (some 64), slow := .authFail, ran := 7, got := [(2, { zSectorVal with data := 550377337206830876624970585032803272657331364823954779894386129958396433336569359548062137496170594729213954486577777681510049027858007254053141178112686, poison := true })] }], stop := true, slow := .incompleteMessage, refused := 2, ended := (some .internal), order := 7 }], mov.runs := [(19, { zMoverRun with qid := 8, cmdId := 4096 })], tier.blocks := [(7, { zTBlock with state := .resident, charge := (some 5), units := [(0, { zTUnit with present := true, dirty := true, stamp := 1 })], used := true })], tier.quotas := [(5, { zQuota with t1Quota := 1000, t2Quota := 1000, t2Used := 4, check := 618357970, t1Used := 1 })], twn.rsm := [7] } : State), .done []) ∧ ({ zCmd with qid := 8, cmdId := 4096, cmd := (QCmd.zero 65541 0 64), tenant := 5, sclass := 64, timeout := 2, sqHeadAfter := 65536, low := 5, complete := [4096, 8], steps := [{ zStepRec with state := (StepState.running 64), remoteRetry := true, avoid := (some 64), slow := .authFail, ran := 7, got := [(2, { zSectorVal with data := 550377337206830876624970585032803272657331364823954779894386129958396433336569359548062137496170594729213954486577777681510049027858007254053141178112686, poison := true })] }], stop := true, slow := .incompleteMessage, refused := 2, ended := (some .internal), order := 7 } : Cmd) ∈ ({ State.reset with regs := [(235505692, 2), (260048928, 0), (285214848, 1), (293603388, 3)], xlt.bmap := [(4294967296, { zBme with alloc := true, pbn := 7, chk := 159 })], xlt.fills := [{ zCacheEntry with key := (XKey.block 1 0), copy := (XCopy.block { zBme with alloc := true, pbn := 7, chk := 159 }), used := true }], qe.cmds := [{ zCmd with qid := 8, cmdId := 4096, cmd := (QCmd.zero 65541 0 64), tenant := 5, sclass := 64, timeout := 2, sqHeadAfter := 65536, low := 5, complete := [4096, 8], steps := [{ zStepRec with state := (StepState.running 64), remoteRetry := true, avoid := (some 64), slow := .authFail, ran := 7, got := [(2, { zSectorVal with data := 550377337206830876624970585032803272657331364823954779894386129958396433336569359548062137496170594729213954486577777681510049027858007254053141178112686, poison := true })] }], stop := true, slow := .incompleteMessage, refused := 2, ended := (some .internal), order := 7 }], mov.runs := [(19, { zMoverRun with qid := 8, cmdId := 4096 })], tier.blocks := [(7, { zTBlock with state := .resident, charge := (some 5), units := [(0, { zTUnit with present := true, dirty := true, stamp := 1 })], used := true })], tier.quotas := [(5, { zQuota with t1Quota := 1000, t2Quota := 1000, t2Used := 4, check := 618357970, t1Used := 1 })], twn.rsm := [7] } : State).qe.cmds) ∧
    (wMoverEvents_3.regsOk ∧ wMoverEvents_3.unstaged (movPage (15 : MoverId).val) ∧ wMoverEvents_3.get MOV.STATE (15 : MoverId).val = movMove ∧ tget wMoverEvents_3.mov.runs (15 : MoverId).val = some ({ zMoverRun with qid := 21, cmdId := 1, index := 100 } : MoverRun) ∧ wMoverEvents_3.cmd ({ zMoverRun with qid := 21, cmdId := 1, index := 100 } : MoverRun).qid ({ zMoverRun with qid := 21, cmdId := 1, index := 100 } : MoverRun).cmdId = some ({ zCmd with qid := 21, cmdId := 1, cmd := (QCmd.regionGrow 134217728 0), tenant := 8, sclass := 8, fetched := 21, timeout := 100, sqHeadAfter := 21, low := 19, complete := [5, 100], steps := [{ zStepRec with index := 100, state := (StepState.parked), avoid := (some 5), slow := .mediaError, ran := 100, got := [(0, { zSectorVal with data := 6 }), (4, { zSectorVal with data := 13407807929942597099574024998205846127479365820592393377723561443721764030073546976801874298166903427690031858186486050853753882811946569946433649006084095, poison := true })] }], fault := (some (65536, (.incompleteMessage, 8))), slow := .mediaError, poisoned := (some 4), refused := 4, raiseErr := (some (8, .keyRevoked)), barrier := (some 8), preempted := true, order := 1 } : Cmd) ∧ ({ zCmd with qid := 21, cmdId := 1, cmd := (QCmd.regionGrow 134217728 0), tenant := 8, sclass := 8, fetched := 21, timeout := 100, sqHeadAfter := 21, low := 19, complete := [5, 100], steps := [{ zStepRec with index := 100, state := (StepState.parked), avoid := (some 5), slow := .mediaError, ran := 100, got := [(0, { zSectorVal with data := 6 }), (4, { zSectorVal with data := 13407807929942597099574024998205846127479365820592393377723561443721764030073546976801874298166903427690031858186486050853753882811946569946433649006084095, poison := true })] }], fault := (some (65536, (.incompleteMessage, 8))), slow := .mediaError, poisoned := (some 4), refused := 4, raiseErr := (some (8, .keyRevoked)), barrier := (some 8), preempted := true, order := 1 } : Cmd).step ({ zMoverRun with qid := 21, cmdId := 1, index := 100 } : MoverRun).index = some ({ zStepRec with index := 100, state := (StepState.parked), avoid := (some 5), slow := .mediaError, ran := 100, got := [(0, { zSectorVal with data := 6 }), (4, { zSectorVal with data := 13407807929942597099574024998205846127479365820592393377723561443721764030073546976801874298166903427690031858186486050853753882811946569946433649006084095, poison := true })] } : StepRec) ∧ ({ zStepRec with index := 100, state := (StepState.parked), avoid := (some 5), slow := .mediaError, ran := 100, got := [(0, { zSectorVal with data := 6 }), (4, { zSectorVal with data := 13407807929942597099574024998205846127479365820592393377723561443721764030073546976801874298166903427690031858186486050853753882811946569946433649006084095, poison := true })] } : StepRec).moverRetry = false ∧ ({ zCmd with qid := 21, cmdId := 1, cmd := (QCmd.regionGrow 134217728 0), tenant := 8, sclass := 8, fetched := 21, timeout := 100, sqHeadAfter := 21, low := 19, complete := [5, 100], steps := [{ zStepRec with index := 100, state := (StepState.parked), avoid := (some 5), slow := .mediaError, ran := 100, got := [(0, { zSectorVal with data := 6 }), (4, { zSectorVal with data := 13407807929942597099574024998205846127479365820592393377723561443721764030073546976801874298166903427690031858186486050853753882811946569946433649006084095, poison := true })] }], fault := (some (65536, (.incompleteMessage, 8))), slow := .mediaError, poisoned := (some 4), refused := 4, raiseErr := (some (8, .keyRevoked)), barrier := (some 8), preempted := true, order := 1 } : Cmd).stop = false) ∧
    (wMoverEvents_4.regsOk ∧ wMoverEvents_4.unstaged (movPage (26 : MoverId).val) ∧ wMoverEvents_4.get MOV.STATE (26 : MoverId).val = movMove ∧ tget wMoverEvents_4.mov.runs (26 : MoverId).val = some ({ zMoverRun with qid := 3, cmdId := 4, index := 1 } : MoverRun) ∧ wMoverEvents_4.cmd ({ zMoverRun with qid := 3, cmdId := 4, index := 1 } : MoverRun).qid ({ zMoverRun with qid := 3, cmdId := 4, index := 1 } : MoverRun).cmdId = some ({ zCmd with qid := 3, cmdId := 4, notify := true, cmd := (QCmd.copy 2 16787974652182764218 294017398652 72057594037927936 2), tenant := 7, sclass := 4, fetched := 5, timeout := 5, sqHeadAfter := 19, low := 19, complete := [2, 65536], steps := [{ zStepRec with index := 1, state := (StepState.running 26), moverRetry := true, remoteRetry := true, avoid := (some 100), slow := .quotaExceeded, ran := 26, got := [(2, { zSectorVal with data := 4 }), (4, { zSectorVal with data := 6 })] }], slow := .retainedShared, waitBlocks := [(2, 7)], refused := 8, result := (some { zCmdResult with status := .okSlowPath, result0 := 4096, prefixLen := 4 }), preempted := true, order := 19 } : Cmd) ∧ ({ zCmd with qid := 3, cmdId := 4, notify := true, cmd := (QCmd.copy 2 16787974652182764218 294017398652 72057594037927936 2), tenant := 7, sclass := 4, fetched := 5, timeout := 5, sqHeadAfter := 19, low := 19, complete := [2, 65536], steps := [{ zStepRec with index := 1, state := (StepState.running 26), moverRetry := true, remoteRetry := true, avoid := (some 100), slow := .quotaExceeded, ran := 26, got := [(2, { zSectorVal with data := 4 }), (4, { zSectorVal with data := 6 })] }], slow := .retainedShared, waitBlocks := [(2, 7)], refused := 8, result := (some { zCmdResult with status := .okSlowPath, result0 := 4096, prefixLen := 4 }), preempted := true, order := 19 } : Cmd).step ({ zMoverRun with qid := 3, cmdId := 4, index := 1 } : MoverRun).index = some ({ zStepRec with index := 1, state := (StepState.running 26), moverRetry := true, remoteRetry := true, avoid := (some 100), slow := .quotaExceeded, ran := 26, got := [(2, { zSectorVal with data := 4 }), (4, { zSectorVal with data := 6 })] } : StepRec) ∧ ({ zCmd with qid := 3, cmdId := 4, notify := true, cmd := (QCmd.copy 2 16787974652182764218 294017398652 72057594037927936 2), tenant := 7, sclass := 4, fetched := 5, timeout := 5, sqHeadAfter := 19, low := 19, complete := [2, 65536], steps := [{ zStepRec with index := 1, state := (StepState.running 26), moverRetry := true, remoteRetry := true, avoid := (some 100), slow := .quotaExceeded, ran := 26, got := [(2, { zSectorVal with data := 4 }), (4, { zSectorVal with data := 6 })] }], slow := .retainedShared, waitBlocks := [(2, 7)], refused := 8, result := (some { zCmdResult with status := .okSlowPath, result0 := 4096, prefixLen := 4 }), preempted := true, order := 19 } : Cmd).cmd = .copy (2 : BitVec 40) (16787974652182764218 : BitVec 64) (294017398652 : BitVec 40) (72057594037927936 : BitVec 64) (2 : BitVec 64) ∧ ({ zStepRec with index := 1, state := (StepState.running 26), moverRetry := true, remoteRetry := true, avoid := (some 100), slow := .quotaExceeded, ran := 26, got := [(2, { zSectorVal with data := 4 }), (4, { zSectorVal with data := 6 })] } : StepRec).ran = (26 : MoverId).val ∧ ({ zStepRec with index := 1, state := (StepState.running 26), moverRetry := true, remoteRetry := true, avoid := (some 100), slow := .quotaExceeded, ran := 26, got := [(2, { zSectorVal with data := 4 }), (4, { zSectorVal with data := 6 })] } : StepRec).state = .running (26 : MoverId).val ∧ ({ zCmd with qid := 3, cmdId := 4, notify := true, cmd := (QCmd.copy 2 16787974652182764218 294017398652 72057594037927936 2), tenant := 7, sclass := 4, fetched := 5, timeout := 5, sqHeadAfter := 19, low := 19, complete := [2, 65536], steps := [{ zStepRec with index := 1, state := (StepState.running 26), moverRetry := true, remoteRetry := true, avoid := (some 100), slow := .quotaExceeded, ran := 26, got := [(2, { zSectorVal with data := 4 }), (4, { zSectorVal with data := 6 })] }], slow := .retainedShared, waitBlocks := [(2, 7)], refused := 8, result := (some { zCmdResult with status := .okSlowPath, result0 := 4096, prefixLen := 4 }), preempted := true, order := 19 } : Cmd).ended = none ∧ ({ zCmd with qid := 3, cmdId := 4, notify := true, cmd := (QCmd.copy 2 16787974652182764218 294017398652 72057594037927936 2), tenant := 7, sclass := 4, fetched := 5, timeout := 5, sqHeadAfter := 19, low := 19, complete := [2, 65536], steps := [{ zStepRec with index := 1, state := (StepState.running 26), moverRetry := true, remoteRetry := true, avoid := (some 100), slow := .quotaExceeded, ran := 26, got := [(2, { zSectorVal with data := 4 }), (4, { zSectorVal with data := 6 })] }], slow := .retainedShared, waitBlocks := [(2, 7)], refused := 8, result := (some { zCmdResult with status := .okSlowPath, result0 := 4096, prefixLen := 4 }), preempted := true, order := 19 } : Cmd).fault = none) ∧
    (wMoverEvents_5.regsOk ∧ (wMoverEvents_5.tier.reads.any fun d => d.who == .step (0 : BitVec 20).toNat (52702 : BitVec 16).toNat (100 : Nat)) = false ∧ wMoverEvents_5.cmd (0 : BitVec 20).toNat (52702 : BitVec 16).toNat = some ({ zCmd with cmdId := 52702, cmd := (QCmd.regionGrow 5 4294967295), tenant := 21, sclass := 64, fetched := 5, timeout := 64, sqHeadAfter := 4096, low := 65536, complete := [19, 5], steps := [{ zStepRec with index := 100, state := (StepState.parked), slow := .incompleteMessage, ran := 65536 }], fault := (some (19, (.lengthError, 0))), slow := .keyRevoked, poisoned := (some 7), waitBlocks := [(1, 5)], refused := 7, ended := (some .okSlowPath), barrier := (some 0), order := 8 } : Cmd) ∧ wMoverEvents_5.frozen = false ∧ ({ zCmd with cmdId := 52702, cmd := (QCmd.regionGrow 5 4294967295), tenant := 21, sclass := 64, fetched := 5, timeout := 64, sqHeadAfter := 4096, low := 65536, complete := [19, 5], steps := [{ zStepRec with index := 100, state := (StepState.parked), slow := .incompleteMessage, ran := 65536 }], fault := (some (19, (.lengthError, 0))), slow := .keyRevoked, poisoned := (some 7), waitBlocks := [(1, 5)], refused := 7, ended := (some .okSlowPath), barrier := (some 0), order := 8 } : Cmd).step (100 : Nat) = some ({ zStepRec with index := 100, state := (StepState.parked), slow := .incompleteMessage, ran := 65536 } : StepRec) ∧ ({ zStepRec with index := 100, state := (StepState.parked), slow := .incompleteMessage, ran := 65536 } : StepRec).state = .parked ∧ (wMoverEvents_5.mov.holds.contains ((0 : BitVec 20).toNat, (52702 : BitVec 16).toNat, (100 : Nat)) = false ∨ wMoverEvents_5.holdOver ({ zCmd with cmdId := 52702, cmd := (QCmd.regionGrow 5 4294967295), tenant := 21, sclass := 64, fetched := 5, timeout := 64, sqHeadAfter := 4096, low := 65536, complete := [19, 5], steps := [{ zStepRec with index := 100, state := (StepState.parked), slow := .incompleteMessage, ran := 65536 }], fault := (some (19, (.lengthError, 0))), slow := .keyRevoked, poisoned := (some 7), waitBlocks := [(1, 5)], refused := 7, ended := (some .okSlowPath), barrier := (some 0), order := 8 } : Cmd) (100 : Nat) = true)) ∧
    (State.reset.regsOk ∧ State.reset.governs ((Requester.warden) : Requester) (movPage (0 : MoverId).val) ∧ State.reset.stageHeld (movPage (0 : MoverId).val) = false ∧ State.reset.rd (movPage (0 : MoverId).val) HDR.ARM = 0) ∧
    (wMoverEvents_7.regsOk ∧ wMoverEvents_7.ctl.single = [{ page := movPage (22 : MoverId).val, key := MOV.OFFLINE.key (movPage (22 : MoverId).val) 0, value := 1 }] ∧ wMoverEvents_7.part (movPage (22 : MoverId).val) = none ∧ tget wMoverEvents_7.mov.runs (22 : MoverId).val = none ∧ wMoverEvents_7.flag MOV.OFFLINE (22 : MoverId).val = false ∧ wMoverEvents_7.mov.offlineNext = []) :=
  ⟨(by simp only [regsOk_iff, State.unstaged]; decide +kernel),
   (by simp only [regsOk_iff, State.unstaged]; decide +kernel),
   (by simp only [regsOk_iff, State.unstaged]; decide +kernel),
   (by simp only [regsOk_iff]; decide +kernel),
   (by simp only [regsOk_iff, State.governs, State.admits, State.wayClear]; decide +kernel),
   (by simp only [regsOk_iff]; decide +kernel)⟩

def wTierCommands_1 : State := ring (entry (.raise 65541 0 64)).encode { State.reset with tier.blocks := [(7, { state := .resident, leaveReq := false, charge := some 0, pins := [0], units := [], filling := [], region := 1, used := true })], tier.quotas := [(0, Quota.seal { noQuota with t1Quota := 4, t1Used := 1 })] }
def wTierCommands_2 : State := ring (entry (.raise 65541 0 64)).encode ({ (State.reset.put TIER.T1_FRAMES 9) with tier.quotas := [(0, Quota.seal { noQuota with t1Quota := 4 })] })
def wTierCommands_3 : State := ring (entry (.evict 65541 0 64)).encode { State.reset with tier.blocks := [(7, { state := .resident, leaveReq := false, charge := some 0, pins := [0], units := [], filling := [], region := 1, used := true })], tier.quotas := [(0, Quota.seal { noQuota with t1Quota := 4, t1Used := 1 })] }
def wTierCommands_4 : State := ring (entry (.evict 65541 0 64)).encode { State.reset with tier.blocks := [(7, { state := .resident, leaveReq := false, charge := some 0, pins := [0, 1], units := [], filling := [], region := 1, used := true })], tier.quotas := [(0, Quota.seal { noQuota with t1Quota := 4, t1Used := 1 })] }
def wTierCommands_5 : State :=
  { State.reset with tier.blocks := [(3, { zTBlock with state := .leaving, leaveReq := true, units := [(2, { zTUnit with present := true, dirty := true, stamp := 100, failed := true, cls := 64 }), (3, { zTUnit with present := true, dirty := true, failed := true, cls := 7 })], filling := [100, 0], region := 7 })] }
def wTierCommands_6 : State :=
  { State.reset with qe.cmds := [{ zCmd with qid := 64, cmdId := 21, notify := true, cmd := (QCmd.raise 0 18446744073709551615 0), tenant := 2, sclass := 100, fetched := 19, timeout := 8, sqHeadAfter := 1, low := 21, complete := [64], steps := [{ zStepRec with index := 4096, state := (StepState.running 21), slow := .authFail, ran := 3, got := [(0, { zSectorVal with data := 5 }), (4, { zSectorVal with data := 8 })] }], stop := true, fault := (some (5, (.accessViolation, 64))), slow := .keyRevoked, poisoned := (some 4), waitBlocks := [(1, 65536)], refused := 4096, order := 20 }], tier.blocks := [(65536, { zTBlock with leaveReq := true, pins := [20], units := [(0, { zTUnit with present := true, stamp := 7, wb := (some (5, [(4, { zSectorVal with data := 13407807929942597099574024998205846127479365820592393377723561443721764030073546976801874298166903427690031858186486050853753882811946569946433649006084095 })])), cls := 1 })], filling := [0, 4, 1], region := 4096 })] }
def wTierCommands_7 : State :=
  { State.reset with tier.blocks := [(4, { zTBlock with state := .leaving, pins := [100, 21], filling := [0], region := 1 })] }
def wTierCommands_8 : State :=
  { State.reset with regs := [(278399360, 100000)], tier.blocks := [(1, { zTBlock with state := .resident, region := 7 })] }
def wTierCommands_9 : State :=
  { State.reset with regs := [(278399360, 100000)], tier.blocks := [(2, { zTBlock with state := .resident, units := [(3, { zTUnit with present := true, stamp := 64, wb := (some (4096, [(2, { zSectorVal with data := 1812819612012577513187168763806007178322880950288855434831659945997017315278319142562227547424269572167350481775602602931864221615705901234652966035783442 })])), cls := 5 })], region := 2, used := true })] }
def wTierCommands_10 : State :=
  { State.reset with tier.blocks := [(20, { zTBlock with state := .leaving, charge := (some 64), pins := [21], region := 20 })] }
def wTierCommands_11 : State :=
  { State.reset with regs := [(278399008, 2)], tier.blocks := [(0, { zTBlock with state := .leaving, leaveReq := true, units := [(14, { zTUnit with present := true, dirty := true, cls := 3 })], filling := [3, 4096, 20], region := 4096, used := true, frame := 3 })], flm.geom := (some { zGeom with pages := 1 }), flm.stripes := [(0, { zStripe with next := 1 })] }
def wTierCommands_12 : State :=
  { State.reset with regs := [(278399008, 2)], twn.mirror := [(339, { zMUnit with stamp := 1, grp := 64, region := 64, cls := 21, dirty := true })], flm.geom := (some { zGeom with pages := 1 }), flm.stripes := [(0, { zStripe with next := 1 })] }
def wTierCommands_13 : State :=
  { State.reset with tier.blocks := [(4, { zTBlock with units := [(1, { zTUnit with present := true, dirty := true, stamp := 64, wb := (some (5, [])), failed := true, cls := 19 })], filling := [20, 1], region := 3, frame := 65536 })], flm.t2Stamp := [(65, 5)] }
def wTierCommands_14 : State :=
  { State.reset with twn.mirror := [(88, { zMUnit with stamp := 5, grp := 3, region := 20, cls := 20, wb := (some (5, [])), dirty := true })], flm.t2Stamp := [(88, 5)] }
def wTierCommands_15 : State :=
  { State.reset with tier.blocks := [(8, { zTBlock with leaveReq := true, charge := (some 1), pins := [2], units := [(0, { zTUnit with present := true, stamp := 5, wb := (some (6, [])), cls := 2 })], filling := [64, 19, 1], region := 64, used := true, frame := 100 })] }
def wTierCommands_16 : State :=
  { State.reset with twn.mirror := [(120, { zMUnit with stamp := 7, grp := 64, region := 8, cls := 4096, vals := [(1, { zSectorVal with data := 7326742572161834878775845527828975096713184083326301056609297152123855793648319781150436958482092185522187840347701628162054522178180910670963762028982592, poison := true })], wb := (some (6, [])) })] }
theorem test_TierCommands :
    (wTierCommands_1.regsOk ∧ wTierCommands_1.resting tierPage = false ∧ wTierCommands_1.fetches (0 : BitVec 20).toNat (entry (.raise 65541 0 64)).encode ringQueue (entry (.raise 65541 0 64)) (afterFetch wTierCommands_1 ringQueue) ∧ (entry (.raise 65541 0 64)).cmd = .raise ((65541 : BitVec 40) : BitVec 40) (0 : BitVec 64) (64 : BitVec 64) ∧ ((afterFetch wTierCommands_1 ringQueue).begun (0 : BitVec 20).toNat ringQueue ((afterFetch wTierCommands_1 ringQueue).flight (0 : BitVec 20).toNat ringQueue (entry (.raise 65541 0 64)))).walkShared ringQueue.tenant ((65541 : BitVec 40) : BitVec 40) (0 : BitVec 64).toNat (64 : BitVec 64).toNat = ((((afterFetch wTierCommands_1 ringQueue).begun (0 : BitVec 20).toNat ringQueue ((afterFetch wTierCommands_1 ringQueue).flight (0 : BitVec 20).toNat ringQueue (entry (.raise 65541 0 64)))).walkShared ringQueue.tenant ((65541 : BitVec 40) : BitVec 40) (0 : BitVec 64).toNat (64 : BitVec 64).toNat).1, .ok ringRegion) ∧ (((afterFetch wTierCommands_1 ringQueue).begun (0 : BitVec 20).toNat ringQueue ((afterFetch wTierCommands_1 ringQueue).flight (0 : BitVec 20).toNat ringQueue (entry (.raise 65541 0 64)))).walkShared ringQueue.tenant ((65541 : BitVec 40) : BitVec 40) (0 : BitVec 64).toNat (64 : BitVec 64).toNat).1.blocksOf (handleId ((65541 : BitVec 40) : BitVec 40)) ringRegion (0 : BitVec 64).toNat (64 : BitVec 64).toNat = (((((afterFetch wTierCommands_1 ringQueue).begun (0 : BitVec 20).toNat ringQueue ((afterFetch wTierCommands_1 ringQueue).flight (0 : BitVec 20).toNat ringQueue (entry (.raise 65541 0 64)))).walkShared ringQueue.tenant ((65541 : BitVec 40) : BitVec 40) (0 : BitVec 64).toNat (64 : BitVec 64).toNat).1.blocksOf (handleId ((65541 : BitVec 40) : BitVec 40)) ringRegion (0 : BitVec 64).toNat (64 : BitVec 64).toNat).1, .ok ([(7, false)] : List (Nat × Bool))) ∧ (∀ b ∈ ([(7, false)] : List (Nat × Bool)), ∃ k, ((((afterFetch wTierCommands_1 ringQueue).begun (0 : BitVec 20).toNat ringQueue ((afterFetch wTierCommands_1 ringQueue).flight (0 : BitVec 20).toNat ringQueue (entry (.raise 65541 0 64)))).walkShared ringQueue.tenant ((65541 : BitVec 40) : BitVec 40) (0 : BitVec 64).toNat (64 : BitVec 64).toNat).1.blocksOf (handleId ((65541 : BitVec 40) : BitVec 40)) ringRegion (0 : BitVec 64).toNat (64 : BitVec 64).toNat).1.block b.1 = some k ∧ k.state = .resident ∧ k.pins.contains ringQueue.tenant = true)) ∧
    (wTierCommands_2.regsOk ∧ wTierCommands_2.resting tierPage = false ∧ wTierCommands_2.fetches (0 : BitVec 20).toNat (entry (.raise 65541 0 64)).encode ringQueue (entry (.raise 65541 0 64)) (afterFetch wTierCommands_2 ringQueue) ∧ (entry (.raise 65541 0 64)).cmd = .raise ((65541 : BitVec 40) : BitVec 40) (0 : BitVec 64) (64 : BitVec 64) ∧ ((afterFetch wTierCommands_2 ringQueue).begun (0 : BitVec 20).toNat ringQueue ((afterFetch wTierCommands_2 ringQueue).flight (0 : BitVec 20).toNat ringQueue (entry (.raise 65541 0 64)))).walkShared ringQueue.tenant ((65541 : BitVec 40) : BitVec 40) (0 : BitVec 64).toNat (64 : BitVec 64).toNat = ((((afterFetch wTierCommands_2 ringQueue).begun (0 : BitVec 20).toNat ringQueue ((afterFetch wTierCommands_2 ringQueue).flight (0 : BitVec 20).toNat ringQueue (entry (.raise 65541 0 64)))).walkShared ringQueue.tenant ((65541 : BitVec 40) : BitVec 40) (0 : BitVec 64).toNat (64 : BitVec 64).toNat).1, .ok ringRegion) ∧ (((afterFetch wTierCommands_2 ringQueue).begun (0 : BitVec 20).toNat ringQueue ((afterFetch wTierCommands_2 ringQueue).flight (0 : BitVec 20).toNat ringQueue (entry (.raise 65541 0 64)))).walkShared ringQueue.tenant ((65541 : BitVec 40) : BitVec 40) (0 : BitVec 64).toNat (64 : BitVec 64).toNat).1.blocksOf (handleId ((65541 : BitVec 40) : BitVec 40)) ringRegion (0 : BitVec 64).toNat (64 : BitVec 64).toNat = (((((afterFetch wTierCommands_2 ringQueue).begun (0 : BitVec 20).toNat ringQueue ((afterFetch wTierCommands_2 ringQueue).flight (0 : BitVec 20).toNat ringQueue (entry (.raise 65541 0 64)))).walkShared ringQueue.tenant ((65541 : BitVec 40) : BitVec 40) (0 : BitVec 64).toNat (64 : BitVec 64).toNat).1.blocksOf (handleId ((65541 : BitVec 40) : BitVec 40)) ringRegion (0 : BitVec 64).toNat (64 : BitVec 64).toNat).1, .ok [((7 : Nat), false)]) ∧ ((((afterFetch wTierCommands_2 ringQueue).begun (0 : BitVec 20).toNat ringQueue ((afterFetch wTierCommands_2 ringQueue).flight (0 : BitVec 20).toNat ringQueue (entry (.raise 65541 0 64)))).walkShared ringQueue.tenant ((65541 : BitVec 40) : BitVec 40) (0 : BitVec 64).toNat (64 : BitVec 64).toNat).1.blocksOf (handleId ((65541 : BitVec 40) : BitVec 40)) ringRegion (0 : BitVec 64).toNat (64 : BitVec 64).toNat).1.block (7 : Nat) = none ∧ (((((afterFetch wTierCommands_2 ringQueue).begun (0 : BitVec 20).toNat ringQueue ((afterFetch wTierCommands_2 ringQueue).flight (0 : BitVec 20).toNat ringQueue (entry (.raise 65541 0 64)))).walkShared ringQueue.tenant ((65541 : BitVec 40) : BitVec 40) (0 : BitVec 64).toNat (64 : BitVec 64).toNat).1.blocksOf (handleId ((65541 : BitVec 40) : BitVec 40)) ringRegion (0 : BitVec 64).toNat (64 : BitVec 64).toNat).1.tier.frameWait.any fun y => y.pbn == (7 : Nat) && y.pin == some ringQueue.tenant) = false ∧ ((((afterFetch wTierCommands_2 ringQueue).begun (0 : BitVec 20).toNat ringQueue ((afterFetch wTierCommands_2 ringQueue).flight (0 : BitVec 20).toNat ringQueue (entry (.raise 65541 0 64)))).walkShared ringQueue.tenant ((65541 : BitVec 40) : BitVec 40) (0 : BitVec 64).toNat (64 : BitVec 64).toNat).1.blocksOf (handleId ((65541 : BitVec 40) : BitVec 40)) ringRegion (0 : BitVec 64).toNat (64 : BitVec 64).toNat).1.pinCount < 16777216 ∧ (((((afterFetch wTierCommands_2 ringQueue).begun (0 : BitVec 20).toNat ringQueue ((afterFetch wTierCommands_2 ringQueue).flight (0 : BitVec 20).toNat ringQueue (entry (.raise 65541 0 64)))).walkShared ringQueue.tenant ((65541 : BitVec 40) : BitVec 40) (0 : BitVec 64).toNat (64 : BitVec 64).toNat).1.blocksOf (handleId ((65541 : BitVec 40) : BitVec 40)) ringRegion (0 : BitVec 64).toNat (64 : BitVec 64).toNat).1.quota ringQueue.tenant).checkOk = true ∧ (((((afterFetch wTierCommands_2 ringQueue).begun (0 : BitVec 20).toNat ringQueue ((afterFetch wTierCommands_2 ringQueue).flight (0 : BitVec 20).toNat ringQueue (entry (.raise 65541 0 64)))).walkShared ringQueue.tenant ((65541 : BitVec 40) : BitVec 40) (0 : BitVec 64).toNat (64 : BitVec 64).toNat).1.blocksOf (handleId ((65541 : BitVec 40) : BitVec 40)) ringRegion (0 : BitVec 64).toNat (64 : BitVec 64).toNat).1.quota ringQueue.tenant).t1Used + 1 ≤ (((((afterFetch wTierCommands_2 ringQueue).begun (0 : BitVec 20).toNat ringQueue ((afterFetch wTierCommands_2 ringQueue).flight (0 : BitVec 20).toNat ringQueue (entry (.raise 65541 0 64)))).walkShared ringQueue.tenant ((65541 : BitVec 40) : BitVec 40) (0 : BitVec 64).toNat (64 : BitVec 64).toNat).1.blocksOf (handleId ((65541 : BitVec 40) : BitVec 40)) ringRegion (0 : BitVec 64).toNat (64 : BitVec 64).toNat).1.quota ringQueue.tenant).t1Quota ∧ 0 < ((((afterFetch wTierCommands_2 ringQueue).begun (0 : BitVec 20).toNat ringQueue ((afterFetch wTierCommands_2 ringQueue).flight (0 : BitVec 20).toNat ringQueue (entry (.raise 65541 0 64)))).walkShared ringQueue.tenant ((65541 : BitVec 40) : BitVec 40) (0 : BitVec 64).toNat (64 : BitVec 64).toNat).1.blocksOf (handleId ((65541 : BitVec 40) : BitVec 40)) ringRegion (0 : BitVec 64).toNat (64 : BitVec 64).toNat).1.freeFrames) ∧
    (wTierCommands_3.regsOk ∧ wTierCommands_3.resting tierPage = false ∧ wTierCommands_3.fetches (0 : BitVec 20).toNat (entry (.evict 65541 0 64)).encode ringQueue (entry (.evict 65541 0 64)) (afterFetch wTierCommands_3 ringQueue) ∧ (entry (.evict 65541 0 64)).cmd = .evict ((65541 : BitVec 40) : BitVec 40) (0 : BitVec 64) (64 : BitVec 64) ∧ ((afterFetch wTierCommands_3 ringQueue).begun (0 : BitVec 20).toNat ringQueue ((afterFetch wTierCommands_3 ringQueue).flight (0 : BitVec 20).toNat ringQueue (entry (.evict 65541 0 64)))).walkShared ringQueue.tenant ((65541 : BitVec 40) : BitVec 40) (0 : BitVec 64).toNat (64 : BitVec 64).toNat = ((((afterFetch wTierCommands_3 ringQueue).begun (0 : BitVec 20).toNat ringQueue ((afterFetch wTierCommands_3 ringQueue).flight (0 : BitVec 20).toNat ringQueue (entry (.evict 65541 0 64)))).walkShared ringQueue.tenant ((65541 : BitVec 40) : BitVec 40) (0 : BitVec 64).toNat (64 : BitVec 64).toNat).1, .ok ringRegion) ∧ (((afterFetch wTierCommands_3 ringQueue).begun (0 : BitVec 20).toNat ringQueue ((afterFetch wTierCommands_3 ringQueue).flight (0 : BitVec 20).toNat ringQueue (entry (.evict 65541 0 64)))).walkShared ringQueue.tenant ((65541 : BitVec 40) : BitVec 40) (0 : BitVec 64).toNat (64 : BitVec 64).toNat).1.blocksOf (handleId ((65541 : BitVec 40) : BitVec 40)) ringRegion (0 : BitVec 64).toNat (64 : BitVec 64).toNat = (((((afterFetch wTierCommands_3 ringQueue).begun (0 : BitVec 20).toNat ringQueue ((afterFetch wTierCommands_3 ringQueue).flight (0 : BitVec 20).toNat ringQueue (entry (.evict 65541 0 64)))).walkShared ringQueue.tenant ((65541 : BitVec 40) : BitVec 40) (0 : BitVec 64).toNat (64 : BitVec 64).toNat).1.blocksOf (handleId ((65541 : BitVec 40) : BitVec 40)) ringRegion (0 : BitVec 64).toNat (64 : BitVec 64).toNat).1, .ok [((7 : Nat), (false : Bool))]) ∧ ((((afterFetch wTierCommands_3 ringQueue).begun (0 : BitVec 20).toNat ringQueue ((afterFetch wTierCommands_3 ringQueue).flight (0 : BitVec 20).toNat ringQueue (entry (.evict 65541 0 64)))).walkShared ringQueue.tenant ((65541 : BitVec 40) : BitVec 40) (0 : BitVec 64).toNat (64 : BitVec 64).toNat).1.blocksOf (handleId ((65541 : BitVec 40) : BitVec 40)) ringRegion (0 : BitVec 64).toNat (64 : BitVec 64).toNat).1.block (7 : Nat) = some ({ state := .resident, leaveReq := false, charge := some 0, pins := [0], units := [], filling := [], region := 1, used := true } : TBlock) ∧ ({ state := .resident, leaveReq := false, charge := some 0, pins := [0], units := [], filling := [], region := 1, used := true } : TBlock).state = .resident ∧ ({ state := .resident, leaveReq := false, charge := some 0, pins := [0], units := [], filling := [], region := 1, used := true } : TBlock).pins = [ringQueue.tenant] ∧ (∀ y ∈ ((((afterFetch wTierCommands_3 ringQueue).begun (0 : BitVec 20).toNat ringQueue ((afterFetch wTierCommands_3 ringQueue).flight (0 : BitVec 20).toNat ringQueue (entry (.evict 65541 0 64)))).walkShared ringQueue.tenant ((65541 : BitVec 40) : BitVec 40) (0 : BitVec 64).toNat (64 : BitVec 64).toNat).1.blocksOf (handleId ((65541 : BitVec 40) : BitVec 40)) ringRegion (0 : BitVec 64).toNat (64 : BitVec 64).toNat).1.tier.schedules, ¬ (y.qid = (0 : BitVec 20).toNat ∧ y.cmdId = (entry (.evict 65541 0 64)).cmdId.toNat))) ∧
    (wTierCommands_4.regsOk ∧ wTierCommands_4.resting tierPage = false ∧ wTierCommands_4.fetches (0 : BitVec 20).toNat (entry (.evict 65541 0 64)).encode ringQueue (entry (.evict 65541 0 64)) (afterFetch wTierCommands_4 ringQueue) ∧ (entry (.evict 65541 0 64)).cmd = .evict ((65541 : BitVec 40) : BitVec 40) (0 : BitVec 64) (64 : BitVec 64) ∧ ((afterFetch wTierCommands_4 ringQueue).begun (0 : BitVec 20).toNat ringQueue ((afterFetch wTierCommands_4 ringQueue).flight (0 : BitVec 20).toNat ringQueue (entry (.evict 65541 0 64)))).walkShared ringQueue.tenant ((65541 : BitVec 40) : BitVec 40) (0 : BitVec 64).toNat (64 : BitVec 64).toNat = ((((afterFetch wTierCommands_4 ringQueue).begun (0 : BitVec 20).toNat ringQueue ((afterFetch wTierCommands_4 ringQueue).flight (0 : BitVec 20).toNat ringQueue (entry (.evict 65541 0 64)))).walkShared ringQueue.tenant ((65541 : BitVec 40) : BitVec 40) (0 : BitVec 64).toNat (64 : BitVec 64).toNat).1, .ok ringRegion) ∧ (((afterFetch wTierCommands_4 ringQueue).begun (0 : BitVec 20).toNat ringQueue ((afterFetch wTierCommands_4 ringQueue).flight (0 : BitVec 20).toNat ringQueue (entry (.evict 65541 0 64)))).walkShared ringQueue.tenant ((65541 : BitVec 40) : BitVec 40) (0 : BitVec 64).toNat (64 : BitVec 64).toNat).1.blocksOf (handleId ((65541 : BitVec 40) : BitVec 40)) ringRegion (0 : BitVec 64).toNat (64 : BitVec 64).toNat = (((((afterFetch wTierCommands_4 ringQueue).begun (0 : BitVec 20).toNat ringQueue ((afterFetch wTierCommands_4 ringQueue).flight (0 : BitVec 20).toNat ringQueue (entry (.evict 65541 0 64)))).walkShared ringQueue.tenant ((65541 : BitVec 40) : BitVec 40) (0 : BitVec 64).toNat (64 : BitVec 64).toNat).1.blocksOf (handleId ((65541 : BitVec 40) : BitVec 40)) ringRegion (0 : BitVec 64).toNat (64 : BitVec 64).toNat).1, .ok [((7 : Nat), (false : Bool))]) ∧ ((((afterFetch wTierCommands_4 ringQueue).begun (0 : BitVec 20).toNat ringQueue ((afterFetch wTierCommands_4 ringQueue).flight (0 : BitVec 20).toNat ringQueue (entry (.evict 65541 0 64)))).walkShared ringQueue.tenant ((65541 : BitVec 40) : BitVec 40) (0 : BitVec 64).toNat (64 : BitVec 64).toNat).1.blocksOf (handleId ((65541 : BitVec 40) : BitVec 40)) ringRegion (0 : BitVec 64).toNat (64 : BitVec 64).toNat).1.block (7 : Nat) = some ({ state := .resident, leaveReq := false, charge := some 0, pins := [0, 1], units := [], filling := [], region := 1, used := true } : TBlock) ∧ ({ state := .resident, leaveReq := false, charge := some 0, pins := [0, 1], units := [], filling := [], region := 1, used := true } : TBlock).state = .resident ∧ (({ state := .resident, leaveReq := false, charge := some 0, pins := [0, 1], units := [], filling := [], region := 1, used := true } : TBlock).pins.any fun y => y != ringQueue.tenant) = true ∧ (∀ y ∈ ((((afterFetch wTierCommands_4 ringQueue).begun (0 : BitVec 20).toNat ringQueue ((afterFetch wTierCommands_4 ringQueue).flight (0 : BitVec 20).toNat ringQueue (entry (.evict 65541 0 64)))).walkShared ringQueue.tenant ((65541 : BitVec 40) : BitVec 40) (0 : BitVec 64).toNat (64 : BitVec 64).toNat).1.blocksOf (handleId ((65541 : BitVec 40) : BitVec 40)) ringRegion (0 : BitVec 64).toNat (64 : BitVec 64).toNat).1.tier.schedules, ¬ (y.qid = (0 : BitVec 20).toNat ∧ y.cmdId = (entry (.evict 65541 0 64)).cmdId.toNat))) ∧
    (wTierCommands_5.regsOk ∧ wTierCommands_5.block (3 : Nat) = some ({ zTBlock with state := .leaving, leaveReq := true, units := [(2, { zTUnit with present := true, dirty := true, stamp := 100, failed := true, cls := 64 }), (3, { zTUnit with present := true, dirty := true, failed := true, cls := 7 })], filling := [100, 0], region := 7 } : TBlock) ∧ ({ zTBlock with state := .leaving, leaveReq := true, units := [(2, { zTUnit with present := true, dirty := true, stamp := 100, failed := true, cls := 64 }), (3, { zTUnit with present := true, dirty := true, failed := true, cls := 7 })], filling := [100, 0], region := 7 } : TBlock).filling.contains (0 : Fin 16).val = true ∧ wTierCommands_5.unitReads (3 : Nat) (0 : Fin 16).val = []) ∧
    (wTierCommands_6.regsOk ∧ wTierCommands_6.block (65536 : Nat) = some ({ zTBlock with leaveReq := true, pins := [20], units := [(0, { zTUnit with present := true, stamp := 7, wb := (some (5, [(4, { zSectorVal with data := 13407807929942597099574024998205846127479365820592393377723561443721764030073546976801874298166903427690031858186486050853753882811946569946433649006084095 })])), cls := 1 })], filling := [0, 4, 1], region := 4096 } : TBlock) ∧ ({ zTBlock with leaveReq := true, pins := [20], units := [(0, { zTUnit with present := true, stamp := 7, wb := (some (5, [(4, { zSectorVal with data := 13407807929942597099574024998205846127479365820592393377723561443721764030073546976801874298166903427690031858186486050853753882811946569946433649006084095 })])), cls := 1 })], filling := [0, 4, 1], region := 4096 } : TBlock).filling.contains (0 : Fin 16).val = true ∧ ({ zTBlock with leaveReq := true, pins := [20], units := [(0, { zTUnit with present := true, stamp := 7, wb := (some (5, [(4, { zSectorVal with data := 13407807929942597099574024998205846127479365820592393377723561443721764030073546976801874298166903427690031858186486050853753882811946569946433649006084095 })])), cls := 1 })], filling := [0, 4, 1], region := 4096 } : TBlock).state = .rising ∧ ({ zTBlock with leaveReq := true, pins := [20], units := [(0, { zTUnit with present := true, stamp := 7, wb := (some (5, [(4, { zSectorVal with data := 13407807929942597099574024998205846127479365820592393377723561443721764030073546976801874298166903427690031858186486050853753882811946569946433649006084095 })])), cls := 1 })], filling := [0, 4, 1], region := 4096 } : TBlock).dirty = false ∧ wTierCommands_6.tier.frameWait = [] ∧ wTierCommands_6.tier.held = [] ∧ wTierCommands_6.tier.reads = [] ∧ ({ zCmd with qid := 64, cmdId := 21, notify := true, cmd := (QCmd.raise 0 18446744073709551615 0), tenant := 2, sclass := 100, fetched := 19, timeout := 8, sqHeadAfter := 1, low := 21, complete := [64], steps := [{ zStepRec with index := 4096, state := (StepState.running 21), slow := .authFail, ran := 3, got := [(0, { zSectorVal with data := 5 }), (4, { zSectorVal with data := 8 })] }], stop := true, fault := (some (5, (.accessViolation, 64))), slow := .keyRevoked, poisoned := (some 4), waitBlocks := [(1, 65536)], refused := 4096, order := 20 } : Cmd) ∈ wTierCommands_6.qe.cmds ∧ ({ zCmd with qid := 64, cmdId := 21, notify := true, cmd := (QCmd.raise 0 18446744073709551615 0), tenant := 2, sclass := 100, fetched := 19, timeout := 8, sqHeadAfter := 1, low := 21, complete := [64], steps := [{ zStepRec with index := 4096, state := (StepState.running 21), slow := .authFail, ran := 3, got := [(0, { zSectorVal with data := 5 }), (4, { zSectorVal with data := 8 })] }], stop := true, fault := (some (5, (.accessViolation, 64))), slow := .keyRevoked, poisoned := (some 4), waitBlocks := [(1, 65536)], refused := 4096, order := 20 } : Cmd).cmd = .raise (0 : BitVec 40) (18446744073709551615 : BitVec 64) (0 : BitVec 64) ∧ ({ zCmd with qid := 64, cmdId := 21, notify := true, cmd := (QCmd.raise 0 18446744073709551615 0), tenant := 2, sclass := 100, fetched := 19, timeout := 8, sqHeadAfter := 1, low := 21, complete := [64], steps := [{ zStepRec with index := 4096, state := (StepState.running 21), slow := .authFail, ran := 3, got := [(0, { zSectorVal with data := 5 }), (4, { zSectorVal with data := 8 })] }], stop := true, fault := (some (5, (.accessViolation, 64))), slow := .keyRevoked, poisoned := (some 4), waitBlocks := [(1, 65536)], refused := 4096, order := 20 } : Cmd).result = none ∧ ({ zCmd with qid := 64, cmdId := 21, notify := true, cmd := (QCmd.raise 0 18446744073709551615 0), tenant := 2, sclass := 100, fetched := 19, timeout := 8, sqHeadAfter := 1, low := 21, complete := [64], steps := [{ zStepRec with index := 4096, state := (StepState.running 21), slow := .authFail, ran := 3, got := [(0, { zSectorVal with data := 5 }), (4, { zSectorVal with data := 8 })] }], stop := true, fault := (some (5, (.accessViolation, 64))), slow := .keyRevoked, poisoned := (some 4), waitBlocks := [(1, 65536)], refused := 4096, order := 20 } : Cmd).waitBlocks = [((1 : Nat), (65536 : Nat))] ∧ ({ zCmd with qid := 64, cmdId := 21, notify := true, cmd := (QCmd.raise 0 18446744073709551615 0), tenant := 2, sclass := 100, fetched := 19, timeout := 8, sqHeadAfter := 1, low := 21, complete := [64], steps := [{ zStepRec with index := 4096, state := (StepState.running 21), slow := .authFail, ran := 3, got := [(0, { zSectorVal with data := 5 }), (4, { zSectorVal with data := 8 })] }], stop := true, fault := (some (5, (.accessViolation, 64))), slow := .keyRevoked, poisoned := (some 4), waitBlocks := [(1, 65536)], refused := 4096, order := 20 } : Cmd).raiseErr = none) ∧
    (wTierCommands_7.regsOk ∧ wTierCommands_7.block (4 : Nat) = some ({ zTBlock with state := .leaving, pins := [100, 21], filling := [0], region := 1 } : TBlock) ∧ ({ zTBlock with state := .leaving, pins := [100, 21], filling := [0], region := 1 } : TBlock).filling.contains (0 : Fin 16).val = true ∧ (({ zTBlock with state := .leaving, pins := [100, 21], filling := [0], region := 1 } : TBlock).state ≠ .rising ∨ ({ zTBlock with state := .leaving, pins := [100, 21], filling := [0], region := 1 } : TBlock).dirty = true) ∧ wTierCommands_7.tier.held = [] ∧ wTierCommands_7.tier.reads = []) ∧
    (wTierCommands_8.resting tierPage = false ∧ wTierCommands_8.unstaged tierPage ∧ wTierCommands_8.block (1 : Nat) = some ({ zTBlock with state := .resident, region := 7 } : TBlock) ∧ wTierCommands_8.replaceable (1 : Nat) ({ zTBlock with state := .resident, region := 7 } : TBlock) = true ∧ wTierCommands_8.freeFrames < wTierCommands_8.get TIER.FREE_MIN ∧ ({ zTBlock with state := .resident, region := 7 } : TBlock).used = false) ∧
    (wTierCommands_9.resting tierPage = false ∧ wTierCommands_9.unstaged tierPage ∧ wTierCommands_9.block (2 : Nat) = some ({ zTBlock with state := .resident, units := [(3, { zTUnit with present := true, stamp := 64, wb := (some (4096, [(2, { zSectorVal with data := 1812819612012577513187168763806007178322880950288855434831659945997017315278319142562227547424269572167350481775602602931864221615705901234652966035783442 })])), cls := 5 })], region := 2, used := true } : TBlock) ∧ wTierCommands_9.replaceable (2 : Nat) ({ zTBlock with state := .resident, units := [(3, { zTUnit with present := true, stamp := 64, wb := (some (4096, [(2, { zSectorVal with data := 1812819612012577513187168763806007178322880950288855434831659945997017315278319142562227547424269572167350481775602602931864221615705901234652966035783442 })])), cls := 5 })], region := 2, used := true } : TBlock) = true ∧ wTierCommands_9.freeFrames < wTierCommands_9.get TIER.FREE_MIN ∧ ((wTierCommands_9.tier.blocks.filter fun e => wTierCommands_9.replaceable e.1 e.2).all fun e => e.2.used) = true) ∧
    (wTierCommands_10.regsOk ∧ wTierCommands_10.block (20 : Nat) = some ({ zTBlock with state := .leaving, charge := (some 64), pins := [21], region := 20 } : TBlock) ∧ ({ zTBlock with state := .leaving, charge := (some 64), pins := [21], region := 20 } : TBlock).state = .leaving ∧ ({ zTBlock with state := .leaving, charge := (some 64), pins := [21], region := 20 } : TBlock).dirty = false ∧ (({ zTBlock with state := .leaving, charge := (some 64), pins := [21], region := 20 } : TBlock).units.any fun e => e.2.wb.isSome) = false ∧ wTierCommands_10.tier.frameWait = []) ∧
    (wTierCommands_11.regsOk ∧ wTierCommands_11.resting tierPage = false ∧ wTierCommands_11.unstaged tierPage ∧ wTierCommands_11.flashTakes = true ∧ wTierCommands_11.assignable = true ∧ wTierCommands_11.rakeFirst = false ∧ laneWaits wTierCommands_11.flm.cipher = false ∧ wTierCommands_11.block (0 : Nat) = some ({ zTBlock with state := .leaving, leaveReq := true, units := [(14, { zTUnit with present := true, dirty := true, cls := 3 })], filling := [3, 4096, 20], region := 4096, used := true, frame := 3 } : TBlock) ∧ tget ({ zTBlock with state := .leaving, leaveReq := true, units := [(14, { zTUnit with present := true, dirty := true, cls := 3 })], filling := [3, 4096, 20], region := 4096, used := true, frame := 3 } : TBlock).units (14 : Fin 16).val = some ({ zTUnit with present := true, dirty := true, cls := 3 } : TUnit) ∧ wTierCommands_11.wbAllowed (0 : Nat) (14 : Fin 16).val ({ zTBlock with state := .leaving, leaveReq := true, units := [(14, { zTUnit with present := true, dirty := true, cls := 3 })], filling := [3, 4096, 20], region := 4096, used := true, frame := 3 } : TBlock) ({ zTUnit with present := true, dirty := true, cls := 3 } : TUnit) = true ∧ wTierCommands_11.restoredBrine = [] ∧ wTierCommands_11.wbBetter ({ zTBlock with state := .leaving, leaveReq := true, units := [(14, { zTUnit with present := true, dirty := true, cls := 3 })], filling := [3, 4096, 20], region := 4096, used := true, frame := 3 } : TBlock) = false) ∧
    (wTierCommands_12.resting tierPage = false ∧ wTierCommands_12.unstaged tierPage ∧ wTierCommands_12.flashTakes = true ∧ wTierCommands_12.assignable = true ∧ wTierCommands_12.rakeFirst = false ∧ laneWaits wTierCommands_12.flm.cipher = false ∧ wTierCommands_12.block (21 : Nat) = none ∧ tget wTierCommands_12.twn.mirror ((21 : Nat) * 16 + (3 : Fin 16).val) = some ({ zMUnit with stamp := 1, grp := 64, region := 64, cls := 21, dirty := true } : MUnit) ∧ ({ zMUnit with stamp := 1, grp := 64, region := 64, cls := 21, dirty := true } : MUnit).dirty = true ∧ ({ zMUnit with stamp := 1, grp := 64, region := 64, cls := 21, dirty := true } : MUnit).wb = none ∧ wTierCommands_12.restoredBrine = [] ∧ wTierCommands_12.get TIER.CLEAN_LO * wTierCommands_12.get HRV.HRV_TIDE_NOW < wTierCommands_12.devBrine * 100) ∧
    (wTierCommands_13.regsOk ∧ wTierCommands_13.block (4 : Nat) = some ({ zTBlock with units := [(1, { zTUnit with present := true, dirty := true, stamp := 64, wb := (some (5, [])), failed := true, cls := 19 })], filling := [20, 1], region := 3, frame := 65536 } : TBlock) ∧ tget ({ zTBlock with units := [(1, { zTUnit with present := true, dirty := true, stamp := 64, wb := (some (5, [])), failed := true, cls := 19 })], filling := [20, 1], region := 3, frame := 65536 } : TBlock).units (1 : Fin 16).val = some ({ zTUnit with present := true, dirty := true, stamp := 64, wb := (some (5, [])), failed := true, cls := 19 } : TUnit) ∧ ({ zTUnit with present := true, dirty := true, stamp := 64, wb := (some (5, [])), failed := true, cls := 19 } : TUnit).wb = some ((5 : Nat), ([] : Table SectorVal)) ∧ wTierCommands_13.written ((4 : Nat) * 16 + (1 : Fin 16).val) (5 : Nat) = true) ∧
    (wTierCommands_14.regsOk ∧ wTierCommands_14.block (5 : Nat) = none ∧ tget wTierCommands_14.twn.mirror ((5 : Nat) * 16 + (8 : Fin 16).val) = some ({ zMUnit with stamp := 5, grp := 3, region := 20, cls := 20, wb := (some (5, [])), dirty := true } : MUnit) ∧ ({ zMUnit with stamp := 5, grp := 3, region := 20, cls := 20, wb := (some (5, [])), dirty := true } : MUnit).wb = some ((5 : Nat), ([] : Table SectorVal)) ∧ wTierCommands_14.written ((5 : Nat) * 16 + (8 : Fin 16).val) (5 : Nat) = true) ∧
    (wTierCommands_15.block (8 : Nat) = some ({ zTBlock with leaveReq := true, charge := (some 1), pins := [2], units := [(0, { zTUnit with present := true, stamp := 5, wb := (some (6, [])), cls := 2 })], filling := [64, 19, 1], region := 64, used := true, frame := 100 } : TBlock) ∧ tget ({ zTBlock with leaveReq := true, charge := (some 1), pins := [2], units := [(0, { zTUnit with present := true, stamp := 5, wb := (some (6, [])), cls := 2 })], filling := [64, 19, 1], region := 64, used := true, frame := 100 } : TBlock).units (0 : Fin 16).val = some ({ zTUnit with present := true, stamp := 5, wb := (some (6, [])), cls := 2 } : TUnit) ∧ ({ zTUnit with present := true, stamp := 5, wb := (some (6, [])), cls := 2 } : TUnit).wb = some ((6 : Nat), ([] : Table SectorVal)) ∧ wTierCommands_15.written ((8 : Nat) * 16 + (0 : Fin 16).val) (6 : Nat) = false) ∧
    (wTierCommands_16.block (7 : Nat) = none ∧ tget wTierCommands_16.twn.mirror ((7 : Nat) * 16 + (8 : Fin 16).val) = some ({ zMUnit with stamp := 7, grp := 64, region := 8, cls := 4096, vals := [(1, { zSectorVal with data := 7326742572161834878775845527828975096713184083326301056609297152123855793648319781150436958482092185522187840347701628162054522178180910670963762028982592, poison := true })], wb := (some (6, [])) } : MUnit) ∧ ({ zMUnit with stamp := 7, grp := 64, region := 8, cls := 4096, vals := [(1, { zSectorVal with data := 7326742572161834878775845527828975096713184083326301056609297152123855793648319781150436958482092185522187840347701628162054522178180910670963762028982592, poison := true })], wb := (some (6, [])) } : MUnit).wb = some ((6 : Nat), ([] : Table SectorVal)) ∧ wTierCommands_16.written ((7 : Nat) * 16 + (8 : Fin 16).val) (6 : Nat) = false) :=
  ⟨⟨by rw [regsOk_iff]; decide +kernel, by decide +kernel, fetches_of (by decide +kernel) (by decide +kernel) (show _ by decide +kernel) (by decide +kernel) (by decide +kernel) (show _ by decide +kernel) (by decide +kernel), rfl, pair_of_ok (by decide +kernel), pair_of_ok (by decide +kernel), fun b hb => by simp only [List.mem_singleton] at hb; subst hb; exact ⟨_, rfl, by decide +kernel⟩⟩,
   ⟨by rw [regsOk_iff]; decide +kernel, by decide +kernel, fetches_of (by decide +kernel) (by decide +kernel) (show _ by decide +kernel) (by decide +kernel) (by decide +kernel) (show _ by decide +kernel) (by decide +kernel), rfl, pair_of_ok (by decide +kernel), pair_of_ok (by decide +kernel), by decide +kernel⟩,
   ⟨by rw [regsOk_iff]; decide +kernel, by decide +kernel, fetches_of (by decide +kernel) (by decide +kernel) (show _ by decide +kernel) (by decide +kernel) (by decide +kernel) (show _ by decide +kernel) (by decide +kernel), rfl, pair_of_ok (by decide +kernel), pair_of_ok (by decide +kernel), by decide +kernel⟩,
   ⟨by rw [regsOk_iff]; decide +kernel, by decide +kernel, fetches_of (by decide +kernel) (by decide +kernel) (show _ by decide +kernel) (by decide +kernel) (by decide +kernel) (show _ by decide +kernel) (by decide +kernel), rfl, pair_of_ok (by decide +kernel), pair_of_ok (by decide +kernel), by decide +kernel⟩,
   (by simp only [regsOk_iff]; decide +kernel),
   (by simp only [regsOk_iff]; decide +kernel),
   (by simp only [regsOk_iff]; decide +kernel),
   (by simp only [State.unstaged]; decide +kernel),
   (by simp only [State.unstaged]; decide +kernel),
   (by simp only [regsOk_iff]; decide +kernel),
   (by simp only [regsOk_iff, State.unstaged]; decide +kernel),
   (by simp only [State.unstaged]; decide +kernel),
   (by simp only [regsOk_iff]; decide +kernel),
   (by simp only [regsOk_iff]; decide +kernel),
   (by decide +kernel),
   (by decide +kernel)⟩

def wReadPathsAndSluice_1 : State :=
  { State.reset with regs := [(293603388, 2)], xlt.regions := [(19, { zRegion with pathMask := 8 })], tier.reads := [{ zWaitRead with id := 7, who := (RdBy.mailbox 1 2 3), region := 19, grp := 2, pbn := 3, unit := 2, sector := 2, window := 20, dpa := 21, t0 := 19 }] }
def wReadPathsAndSluice_2 : State :=
  { State.reset with xlt.regions := [(19, { zRegion with pathMask := 2 })], tier.reads := [{ zWaitRead with id := 7, who := (RdBy.cxl 1 2 3), region := 19, grp := 5, pbn := 3, unit := 2, sector := 2, window := 64, dpa := 5, t0 := 2 }] }
def wReadPathsAndSluice_3 : State :=
  { State.reset with tier.reads := [{ zWaitRead with id := 65536, who := (RdBy.cmn 21 4 0), region := 4, grp := 2, pbn := 100, unit := 5, window := 20, dpa := 4, t0 := 1, stage := .twinDram, noFrame := true, panStall := true }] }
def wReadPathsAndSluice_4 : State :=
  { State.reset with regs := [(293603360, 1)], xlt.regions := [(20, { zRegion with elemFmt := 1, subst := 2, pathMask := 4 })], tier.reads := [{ zWaitRead with id := 5, who := (RdBy.cxl 0 7 5), region := 20, pbn := 4096, unit := 64, sector := 7, window := 5, dpa := 100, t0 := 8, stage := .twinDram, panStall := true }], tier.bittern := [(0, zBUnit)] }
def wReadPathsAndSluice_5 : State :=
  { State.reset with tier.reads := [{ zWaitRead with who := (RdBy.cxl 2 0 3), region := 4, grp := 100, pbn := 64, unit := 65536, sector := 21, window := 100, dpa := 19, t0 := 64, stage := .ended, noFrame := true, panStall := true }] }
def wReadPathsAndSluice_7 : State := ring (entry (.sluiceCancel 5)).encode { State.reset with tier.schedules := [{ zSchedule with tag := 5, qid := 3 }] }
def wReadPathsAndSluice_8 : State :=
  { State.reset with regs := [(251660544, 1)], tier.quotas := [(6, { zQuota with t1Quota := 1000, t2Quota := 1000, t2Used := 4, check := 618357970 })], tier.schedules := [{ zSchedule with tenant := 6, tag := 2304421938, entries := [zSluEntry, { zSluEntry with region := 21, blocks := [7], due := 100, dueUs := 21, hold := 5, fired := true }], status := .incompleteMessage }] }
def wReadPathsAndSluice_9 : State :=
  { State.reset with tier.blocks := [(7, { zTBlock with state := .resident })], tier.schedules := [{ zSchedule with tenant := 1024, tag := 4294967295, entries := [{ zSluEntry with state := .eligible }, { zSluEntry with region := 5, blocks := [7], due := 8, dueUs := 8, hold := 8, fired := true, elig := true, state := .eligible }], status := .internal }] }
def wReadPathsAndSluice_10 : State :=
  { State.reset with tier.schedules := [{ zSchedule with tenant := 32, tag := 3, entries := [{ zSluEntry with region := 21, blocks := [7], due := 3, dueUs := 5, hold := 7, fired := true, elig := true, state := .eligible }], status := .keyStale }] }
def wReadPathsAndSluice_11 : State :=
  { State.reset with tier.schedules := [{ zSchedule with tenant := 4, tag := 6, entries := [{ zSluEntry with region := 2, blocks := [7], due := 5, dueUs := 65536, hold := 5, trigger := (some 20) }], status := .lengthError }] }
def wReadPathsAndSluice_12 : State :=
  { State.reset with tier.blocks := [(7, { zTBlock with state := .resident, pins := [64], units := [(2, { zTUnit with present := true, stamp := 19, wb := (some (8, [(4, { zSectorVal with data := 6, poison := true })])), cls := 20 })], region := 8 })], tier.schedules := [{ zSchedule with tenant := 64, tag := 7, entries := [{ zSluEntry with region := 2, blocks := [7], due := 5, dueUs := 100, hold := 3, elig := true, state := .onTime }], status := .mediaReadOnly }] }
def wReadPathsAndSluice_13 : State :=
  { State.reset with regs := [(293603376, 1)] }
theorem test_ReadPathsAndSluice :
    (wReadPathsAndSluice_1.readById (7 : Nat) = some ({ zWaitRead with id := 7, who := (RdBy.mailbox 1 2 3), region := 19, grp := 2, pbn := 3, unit := 2, sector := 2, window := 20, dpa := 21, t0 := 19 } : WaitRead) ∧ ({ zWaitRead with id := 7, who := (RdBy.mailbox 1 2 3), region := 19, grp := 2, pbn := 3, unit := 2, sector := 2, window := 20, dpa := 21, t0 := 19 } : WaitRead).stage = .filling ∧ ({ zWaitRead with id := 7, who := (RdBy.mailbox 1 2 3), region := 19, grp := 2, pbn := 3, unit := 2, sector := 2, window := 20, dpa := 21, t0 := 19 } : WaitRead).panStall = false ∧ wReadPathsAndSluice_1.unstaged tierPage ∧ wReadPathsAndSluice_1.role = rolePaired ∧ (wReadPathsAndSluice_1.regionAt ({ zWaitRead with id := 7, who := (RdBy.mailbox 1 2 3), region := 19, grp := 2, pbn := 3, unit := 2, sector := 2, window := 20, dpa := 21, t0 := 19 } : WaitRead).region).pathMask.getLsbD 3 = true) ∧
    (wReadPathsAndSluice_2.readById (7 : Nat) = some ({ zWaitRead with id := 7, who := (RdBy.cxl 1 2 3), region := 19, grp := 5, pbn := 3, unit := 2, sector := 2, window := 64, dpa := 5, t0 := 2 } : WaitRead) ∧ ({ zWaitRead with id := 7, who := (RdBy.cxl 1 2 3), region := 19, grp := 5, pbn := 3, unit := 2, sector := 2, window := 64, dpa := 5, t0 := 2 } : WaitRead).stage = .filling ∧ ({ zWaitRead with id := 7, who := (RdBy.cxl 1 2 3), region := 19, grp := 5, pbn := 3, unit := 2, sector := 2, window := 64, dpa := 5, t0 := 2 } : WaitRead).panStall = false ∧ wReadPathsAndSluice_2.unstaged tierPage ∧ (wReadPathsAndSluice_2.regionAt ({ zWaitRead with id := 7, who := (RdBy.cxl 1 2 3), region := 19, grp := 5, pbn := 3, unit := 2, sector := 2, window := 64, dpa := 5, t0 := 2 } : WaitRead).region).pathMask.getLsbD 3 = false ∧ (wReadPathsAndSluice_2.regionAt ({ zWaitRead with id := 7, who := (RdBy.cxl 1 2 3), region := 19, grp := 5, pbn := 3, unit := 2, sector := 2, window := 64, dpa := 5, t0 := 2 } : WaitRead).region).pathMask.getLsbD 2 = false ∧ (wReadPathsAndSluice_2.regionAt ({ zWaitRead with id := 7, who := (RdBy.cxl 1 2 3), region := 19, grp := 5, pbn := 3, unit := 2, sector := 2, window := 64, dpa := 5, t0 := 2 } : WaitRead).region).pathMask.getLsbD 1 = true ∧ wReadPathsAndSluice_2.mapCached (mapPageOf ({ zWaitRead with id := 7, who := (RdBy.cxl 1 2 3), region := 19, grp := 5, pbn := 3, unit := 2, sector := 2, window := 64, dpa := 5, t0 := 2 } : WaitRead).pbn) = true) ∧
    (wReadPathsAndSluice_3.readById (65536 : Nat) = some ({ zWaitRead with id := 65536, who := (RdBy.cmn 21 4 0), region := 4, grp := 2, pbn := 100, unit := 5, window := 20, dpa := 4, t0 := 1, stage := .twinDram, noFrame := true, panStall := true } : WaitRead) ∧ ({ zWaitRead with id := 65536, who := (RdBy.cmn 21 4 0), region := 4, grp := 2, pbn := 100, unit := 5, window := 20, dpa := 4, t0 := 1, stage := .twinDram, noFrame := true, panStall := true } : WaitRead).stage = .twinDram ∧ (wReadPathsAndSluice_3.regionAt ({ zWaitRead with id := 65536, who := (RdBy.cmn 21 4 0), region := 4, grp := 2, pbn := 100, unit := 5, window := 20, dpa := 4, t0 := 1, stage := .twinDram, noFrame := true, panStall := true } : WaitRead).region).pathMask.getLsbD 2 = false ∧ (wReadPathsAndSluice_3.regionAt ({ zWaitRead with id := 65536, who := (RdBy.cmn 21 4 0), region := 4, grp := 2, pbn := 100, unit := 5, window := 20, dpa := 4, t0 := 1, stage := .twinDram, noFrame := true, panStall := true } : WaitRead).region).pathMask.getLsbD 1 = false) ∧
    (wReadPathsAndSluice_4.regsOk ∧ wReadPathsAndSluice_4.readById (5 : Nat) = some ({ zWaitRead with id := 5, who := (RdBy.cxl 0 7 5), region := 20, pbn := 4096, unit := 64, sector := 7, window := 5, dpa := 100, t0 := 8, stage := .twinDram, panStall := true } : WaitRead) ∧ ({ zWaitRead with id := 5, who := (RdBy.cxl 0 7 5), region := 20, pbn := 4096, unit := 64, sector := 7, window := 5, dpa := 100, t0 := 8, stage := .twinDram, panStall := true } : WaitRead).stage = .twinDram ∧ (wReadPathsAndSluice_4.regionAt ({ zWaitRead with id := 5, who := (RdBy.cxl 0 7 5), region := 20, pbn := 4096, unit := 64, sector := 7, window := 5, dpa := 100, t0 := 8, stage := .twinDram, panStall := true } : WaitRead).region).pathMask.getLsbD 2 = true ∧ wReadPathsAndSluice_4.substitute ({ zWaitRead with id := 5, who := (RdBy.cxl 0 7 5), region := 20, pbn := 4096, unit := 64, sector := 7, window := 5, dpa := 100, t0 := 8, stage := .twinDram, panStall := true } : WaitRead).region ({ zWaitRead with id := 5, who := (RdBy.cxl 0 7 5), region := 20, pbn := 4096, unit := 64, sector := 7, window := 5, dpa := 100, t0 := 8, stage := .twinDram, panStall := true } : WaitRead).sector = (({ State.reset with regs := [(184551552, 1), (251661376, 1), (293603360, 1)], evf.pending := [(0, 1)], evf.credits := [(14, (1, 0))], recd.slots := [(0, { zSlot with entry := { zRecord with seq := 1, code := 3616, sev := 2, boot := true, payload := [20, 0, 0] } })], recd.wpos := 1, recd.limiters := [(3616, { zLimiter with lo := 1 })], xlt.regions := [(20, { zRegion with elemFmt := 1, subst := 2, pathMask := 4 })], tier.quotas := [(0, { zQuota with check := 727758173, substTotal := 1 })], tier.reads := [{ zWaitRead with id := 5, who := (RdBy.cxl 0 7 5), region := 20, pbn := 4096, unit := 64, sector := 7, window := 5, dpa := 100, t0 := 8, stage := .twinDram, panStall := true }], tier.bittern := [(0, { zBUnit with used := true })], tier.substCtr := [(0, 1)], tier.substSeen := [0], out := [(Out.wardenIrq 0)] } : State), some ((0 : Sector), false)) ∧ ({ zWaitRead with id := 5, who := (RdBy.cxl 0 7 5), region := 20, pbn := 4096, unit := 64, sector := 7, window := 5, dpa := 100, t0 := 8, stage := .twinDram, panStall := true } : WaitRead).who = .cxl (0 : Nat) (7 : Nat) (5 : Nat) ∧ ({ State.reset with regs := [(184551552, 1), (251661376, 1), (293603360, 1)], evf.pending := [(0, 1)], evf.credits := [(14, (1, 0))], recd.slots := [(0, { zSlot with entry := { zRecord with seq := 1, code := 3616, sev := 2, boot := true, payload := [20, 0, 0] } })], recd.wpos := 1, recd.limiters := [(3616, { zLimiter with lo := 1 })], xlt.regions := [(20, { zRegion with elemFmt := 1, subst := 2, pathMask := 4 })], tier.quotas := [(0, { zQuota with check := 727758173, substTotal := 1 })], tier.reads := [{ zWaitRead with id := 5, who := (RdBy.cxl 0 7 5), region := 20, pbn := 4096, unit := 64, sector := 7, window := 5, dpa := 100, t0 := 8, stage := .twinDram, panStall := true }], tier.bittern := [(0, { zBUnit with used := true })], tier.substCtr := [(0, 1)], tier.substSeen := [0], out := [(Out.wardenIrq 0)] } : State).serves ({ zWaitRead with id := 5, who := (RdBy.cxl 0 7 5), region := 20, pbn := 4096, unit := 64, sector := 7, window := 5, dpa := 100, t0 := 8, stage := .twinDram, panStall := true } : WaitRead).grp = true) ∧
    (wReadPathsAndSluice_5.regsOk ∧ wReadPathsAndSluice_5.readById (0 : Nat) = some ({ zWaitRead with who := (RdBy.cxl 2 0 3), region := 4, grp := 100, pbn := 64, unit := 65536, sector := 21, window := 100, dpa := 19, t0 := 64, stage := .ended, noFrame := true, panStall := true } : WaitRead) ∧ ({ zWaitRead with who := (RdBy.cxl 2 0 3), region := 4, grp := 100, pbn := 64, unit := 65536, sector := 21, window := 100, dpa := 19, t0 := 64, stage := .ended, noFrame := true, panStall := true } : WaitRead).who = .cxl (2 : Nat) (0 : Nat) (3 : Nat)) ∧
    (wReadPathsAndSluice_7.regsOk ∧ wReadPathsAndSluice_7.fetches (0 : BitVec 20).toNat (entry (.sluiceCancel 5)).encode ringQueue (entry (.sluiceCancel 5)) (afterFetch wReadPathsAndSluice_7 ringQueue) ∧ (entry (.sluiceCancel 5)).cmd = .sluiceCancel (5 : BitVec 32) ∧ (afterFetch wReadPathsAndSluice_7 ringQueue).sched ringQueue.tenant (5 : BitVec 32).toNat = some ({ zSchedule with tag := 5, qid := 3 } : Schedule) ∧ ({ zSchedule with tag := 5, qid := 3 } : Schedule).completed = false ∧ (∀ k ∈ (afterFetch wReadPathsAndSluice_7 ringQueue).tier.schedules, ¬ (k.qid = (0 : BitVec 20).toNat ∧ k.cmdId = (entry (.sluiceCancel 5)).cmdId.toNat))) ∧
    (wReadPathsAndSluice_8.regsOk ∧ wReadPathsAndSluice_8.resting tierPage = false ∧ wReadPathsAndSluice_8.sluEntryAt (6 : BitVec 12).toNat (2304421938 : BitVec 32).toNat (1 : Nat) = some ({ zSluEntry with region := 21, blocks := [7], due := 100, dueUs := 21, hold := 5, fired := true } : SluEntry) ∧ ({ zSluEntry with region := 21, blocks := [7], due := 100, dueUs := 21, hold := 5, fired := true } : SluEntry).trigger = none ∧ ({ zSluEntry with region := 21, blocks := [7], due := 100, dueUs := 21, hold := 5, fired := true } : SluEntry).state = .waiting ∧ ({ zSluEntry with region := 21, blocks := [7], due := 100, dueUs := 21, hold := 5, fired := true } : SluEntry).blocks = [(7 : Nat)] ∧ wReadPathsAndSluice_8.bmeZero ({ zSluEntry with region := 21, blocks := [7], due := 100, dueUs := 21, hold := 5, fired := true } : SluEntry).region (7 : Nat) = false ∧ wReadPathsAndSluice_8.block (7 : Nat) = none ∧ (wReadPathsAndSluice_8.tier.frameWait.any fun y => y.pbn == (7 : Nat) && y.pin == some (6 : BitVec 12).toNat) = false ∧ wReadPathsAndSluice_8.pinCount < 16777216 ∧ (wReadPathsAndSluice_8.quota (6 : BitVec 12).toNat).checkOk = true ∧ (wReadPathsAndSluice_8.quota (6 : BitVec 12).toNat).t1Used + 1 ≤ (wReadPathsAndSluice_8.quota (6 : BitVec 12).toNat).t1Quota ∧ 0 < wReadPathsAndSluice_8.freeFrames) ∧
    (wReadPathsAndSluice_9.regsOk ∧ wReadPathsAndSluice_9.sluEntryAt (1024 : BitVec 12).toNat (4294967295 : BitVec 32).toNat (1 : Nat) = some ({ zSluEntry with region := 5, blocks := [7], due := 8, dueUs := 8, hold := 8, fired := true, elig := true, state := .eligible } : SluEntry) ∧ ({ zSluEntry with region := 5, blocks := [7], due := 8, dueUs := 8, hold := 8, fired := true, elig := true, state := .eligible } : SluEntry).state = .eligible ∧ (∀ p ∈ ({ zSluEntry with region := 5, blocks := [7], due := 8, dueUs := 8, hold := 8, fired := true, elig := true, state := .eligible } : SluEntry).blocks, ∃ b, wReadPathsAndSluice_9.block p = some b ∧ b.state = .resident)) ∧
    (wReadPathsAndSluice_10.regsOk ∧ wReadPathsAndSluice_10.sluEntryAt (32 : BitVec 12).toNat (3 : BitVec 32).toNat (0 : Nat) = some ({ zSluEntry with region := 21, blocks := [7], due := 3, dueUs := 5, hold := 7, fired := true, elig := true, state := .eligible } : SluEntry) ∧ ({ zSluEntry with region := 21, blocks := [7], due := 3, dueUs := 5, hold := 7, fired := true, elig := true, state := .eligible } : SluEntry).state = .eligible ∧ (7 : Nat) ∈ ({ zSluEntry with region := 21, blocks := [7], due := 3, dueUs := 5, hold := 7, fired := true, elig := true, state := .eligible } : SluEntry).blocks ∧ wReadPathsAndSluice_10.block (7 : Nat) = none) ∧
    (wReadPathsAndSluice_11.regsOk ∧ wReadPathsAndSluice_11.sluEntryAt (4 : BitVec 12).toNat (6 : BitVec 32).toNat (0 : Nat) = some ({ zSluEntry with region := 2, blocks := [7], due := 5, dueUs := 65536, hold := 5, trigger := (some 20) } : SluEntry) ∧ ({ zSluEntry with region := 2, blocks := [7], due := 5, dueUs := 65536, hold := 5, trigger := (some 20) } : SluEntry).state.done = false ∧ wReadPathsAndSluice_11.unstaged tierPage) ∧
    (wReadPathsAndSluice_12.sluEntryAt (64 : BitVec 12).toNat (7 : BitVec 32).toNat (0 : Nat) = some ({ zSluEntry with region := 2, blocks := [7], due := 5, dueUs := 100, hold := 3, elig := true, state := .onTime } : SluEntry) ∧ ({ zSluEntry with region := 2, blocks := [7], due := 5, dueUs := 100, hold := 3, elig := true, state := .onTime } : SluEntry).state.done = true ∧ ({ zSluEntry with region := 2, blocks := [7], due := 5, dueUs := 100, hold := 3, elig := true, state := .onTime } : SluEntry).holdEnded = false ∧ ({ zSluEntry with region := 2, blocks := [7], due := 5, dueUs := 100, hold := 3, elig := true, state := .onTime } : SluEntry).hold ≠ 0 ∧ ({ zSluEntry with region := 2, blocks := [7], due := 5, dueUs := 100, hold := 3, elig := true, state := .onTime } : SluEntry).blocks = [(7 : Nat)] ∧ wReadPathsAndSluice_12.block (7 : Nat) = some ({ zTBlock with state := .resident, pins := [64], units := [(2, { zTUnit with present := true, stamp := 19, wb := (some (8, [(4, { zSectorVal with data := 6, poison := true })])), cls := 20 })], region := 8 } : TBlock) ∧ ({ zTBlock with state := .resident, pins := [64], units := [(2, { zTUnit with present := true, stamp := 19, wb := (some (8, [(4, { zSectorVal with data := 6, poison := true })])), cls := 20 })], region := 8 } : TBlock).state = .resident ∧ ({ zTBlock with state := .resident, pins := [64], units := [(2, { zTUnit with present := true, stamp := 19, wb := (some (8, [(4, { zSectorVal with data := 6, poison := true })])), cls := 20 })], region := 8 } : TBlock).pins = [(64 : BitVec 12).toNat]) ∧
    (wReadPathsAndSluice_13.bitOf TWN.BUNDLES ({ zTwinHdr with tagOk := true } : TwinHdr).bundle.val = true ∧ ({ zTwinHdr with tagOk := true } : TwinHdr).tagOk = true) :=
  ⟨(by simp only [State.unstaged]; decide +kernel),
   (by simp only [State.unstaged]; decide +kernel),
   (by decide +kernel),
   (by simp only [regsOk_iff]; decide +kernel),
   (by simp only [regsOk_iff]; decide +kernel),
   ⟨by rw [regsOk_iff]; decide +kernel, fetches_of (by decide +kernel) (by decide +kernel) (show _ by decide +kernel) (by decide +kernel) (by decide +kernel) (show _ by decide +kernel) (by decide +kernel), rfl, by decide +kernel, rfl, by decide +kernel⟩,
   (by simp only [regsOk_iff]; decide +kernel),
   (by simp only [regsOk_iff]; decide +kernel),
   (by simp only [regsOk_iff]; decide +kernel),
   (by simp only [regsOk_iff, State.unstaged]; decide +kernel),
   (by decide +kernel),
   (by decide +kernel)⟩

def wPanRangeOperations_5 : State :=
  { State.reset with regs := [(260049472, 4096), (260049536, 4096)] }
def wPanRangeOperations_3 : State :=
  { State.reset with regs := [(260049536, 4096)] }
def wPanRangeOperations_4 : State :=
  { State.reset with regs := [(260049472, 1024), (260049536, 1024), (260311072, 0), (260343840, 0), (260376608, 0), (260409376, 0), (260442144, 0), (260474912, 0), (260507680, 0), (260540448, 0)] }
def wPanRangeOperations_6 : State :=
  { State.reset with regs := [(260047363, 1), (260047364, 1)] }
def wPanRangeOperations_8 : State :=
  { State.reset with pan.op := (some { zPanOp with op := 1, base := 65536, len := 5 }) }
def wPanRangeOperations_9 : State :=
  { State.reset with pan.op := (some { zPanOp with op := 2, base := 65536, len := 19 }) }
def wPanRangeOperations_10 : State :=
  { State.reset with pan.op := (some { zPanOp with op := 3, base := 1, len := 8 }) }
def wPanRangeOperations_11 : State :=
  { State.reset with pan.op := (some { zPanOp with op := 5, len := 3 }) }
def wPanRangeOperations_12 : State :=
  { State.reset with regs := [(260048928, 0)], tier.blocks := [(0, { zTBlock with state := .resident, pins := [2, 20], units := [(0, { zTUnit with present := true }), (1, { zTUnit with present := true }), (2, { zTUnit with present := true }), (3, { zTUnit with present := true }), (4, { zTUnit with present := true }), (5, { zTUnit with present := true }), (6, { zTUnit with present := true }), (7, { zTUnit with present := true }), (8, { zTUnit with present := true }), (9, { zTUnit with present := true }), (10, { zTUnit with present := true }), (11, { zTUnit with present := true }), (12, { zTUnit with present := true }), (13, { zTUnit with present := true }), (14, { zTUnit with present := true }), (15, { zTUnit with present := true })], region := 2, used := true, frame := 21 })], pan.lines := [(0, { zLine with s0 := { zLineSec with val := { zSectorVal with data := 4398046511104 } }, s1 := { zLineSec with dirty := true, val := { zSectorVal with data := 3, poison := true } }, age := 19 })], pan.op := (some { zPanOp with op := 4, len := 128 }) }
def wPanRangeOperations_13 : State :=
  { State.reset with regs := [(260278304, 0)], pan.op := (some { zPanOp with op := 4, base := 896, len := 128 }) }
def wPanRangeOperations_14 : State :=
  { State.reset with regs := [(260048928, 0), (260081696, 0), (260114464, 0), (260147232, 0), (260180000, 0), (260212768, 0), (260245536, 0), (260278304, 0), (260311072, 0), (260343840, 0), (260376608, 0), (260409376, 0), (260442144, 0), (260474912, 0), (260507680, 0), (260540448, 0)], tier.blocks := [(7, { zTBlock with state := .resident })], pan.op := (some { zPanOp with op := 4, base := 471040, len := 4096 }) }
theorem test_PanRangeOperations :
    (wPanRangeOperations_5.regsOk ∧ wPanRangeOperations_5.admits ((Requester.warden) : Requester) (panPage 0) ∧ wPanRangeOperations_5.domainOn (Page.dom (panPage 0)) = true ∧ wPanRangeOperations_5.flag PAN.BUSY = false ∧ wPanRangeOperations_5.get PAN.MAINT_BASE = (4096 : Nat) ∧ wPanRangeOperations_5.get PAN.MAINT_LEN = (4096 : Nat) ∧ (4096 : Nat) % 128 = 0 ∧ (4096 : Nat) % 128 = 0 ∧ (4096 : Nat) ≠ 0) ∧
    (wPanRangeOperations_5.regsOk ∧ wPanRangeOperations_5.admits ((Requester.warden) : Requester) (panPage 0) ∧ wPanRangeOperations_5.domainOn (Page.dom (panPage 0)) = true ∧ wPanRangeOperations_5.flag PAN.BUSY = false ∧ wPanRangeOperations_5.get PAN.MAINT_BASE = (4096 : Nat) ∧ wPanRangeOperations_5.get PAN.MAINT_LEN = (4096 : Nat) ∧ (4096 : Nat) % 128 = 0 ∧ (4096 : Nat) % 128 = 0 ∧ (4096 : Nat) ≠ 0) ∧
    (wPanRangeOperations_3.regsOk ∧ wPanRangeOperations_3.governs ((Requester.warden) : Requester) (panPage 0) ∧ wPanRangeOperations_3.flag PAN.BUSY = false ∧ wPanRangeOperations_3.get PAN.MAINT_BASE = (0 : Nat) ∧ wPanRangeOperations_3.get PAN.MAINT_LEN = (4096 : Nat) ∧ (0 : Nat) % 128 = 0 ∧ (4096 : Nat) % 128 = 0 ∧ (4096 : Nat) ≠ 0) ∧
    (wPanRangeOperations_4.regsOk ∧ wPanRangeOperations_4.admits ((Requester.warden) : Requester) (panPage 0) ∧ wPanRangeOperations_4.domainOn (Page.dom (panPage 0)) = true ∧ wPanRangeOperations_4.flag PAN.BUSY = false ∧ wPanRangeOperations_4.get PAN.MAINT_BASE = (1024 : Nat) ∧ wPanRangeOperations_4.get PAN.MAINT_LEN = (1024 : Nat) ∧ (1024 : Nat) % 128 = 0 ∧ (1024 : Nat) % 128 = 0 ∧ (1024 : Nat) ≠ 0 ∧ ((rangeSlices (1024 : Nat) (1024 : Nat)).any fun k => wPanRangeOperations_4.get PAN.STATE k != panEnabled) = false) ∧
    (wPanRangeOperations_5.regsOk ∧ wPanRangeOperations_5.admits ((Requester.warden) : Requester) (panPage 0) ∧ wPanRangeOperations_5.domainOn (Page.dom (panPage 0)) = true ∧ wPanRangeOperations_5.flag PAN.BUSY = false ∧ wPanRangeOperations_5.get PAN.MAINT_BASE = (4096 : Nat) ∧ wPanRangeOperations_5.get PAN.MAINT_LEN = (4096 : Nat) ∧ (4096 : Nat) % 128 = 0 ∧ (4096 : Nat) % 128 = 0 ∧ (4096 : Nat) ≠ 0) ∧
    (wPanRangeOperations_6.regsOk ∧ wPanRangeOperations_6.admits ((Requester.host) : Requester) (panPage 0) ∧ wPanRangeOperations_6.domainOn (Page.dom (panPage 0)) = true ∧ wPanRangeOperations_6.asWarden ((Requester.host) : Requester) = false ∧ wPanRangeOperations_6.flag PAN.BUSY = false) ∧
    (State.reset.regsOk ∧ State.reset.admits ((Requester.warden) : Requester) (panPage 0) ∧ State.reset.domainOn (Page.dom (panPage 0)) = true ∧ State.reset.flag PAN.BUSY = false ∧ (State.reset.get PAN.MAINT_BASE % 128 ≠ 0 ∨ State.reset.get PAN.MAINT_LEN % 128 ≠ 0 ∨ State.reset.get PAN.MAINT_LEN = 0)) ∧
    (wPanRangeOperations_8.regsOk ∧ wPanRangeOperations_8.pan.op = some ({ zPanOp with op := 1, base := 65536, len := 5 } : PanOp) ∧ ({ zPanOp with op := 1, base := 65536, len := 5 } : PanOp).op = panClean ∧ ((rangeSlices ({ zPanOp with op := 1, base := 65536, len := 5 } : PanOp).base ({ zPanOp with op := 1, base := 65536, len := 5 } : PanOp).len).any fun k => wPanRangeOperations_8.get PAN.STATE k == panClearing || wPanRangeOperations_8.get PAN.STATE k == panInvalidating) = false) ∧
    (wPanRangeOperations_9.regsOk ∧ wPanRangeOperations_9.pan.op = some ({ zPanOp with op := 2, base := 65536, len := 19 } : PanOp) ∧ ({ zPanOp with op := 2, base := 65536, len := 19 } : PanOp).op = panCleanInv ∧ ((rangeSlices ({ zPanOp with op := 2, base := 65536, len := 19 } : PanOp).base ({ zPanOp with op := 2, base := 65536, len := 19 } : PanOp).len).any fun k => wPanRangeOperations_9.get PAN.STATE k == panClearing || wPanRangeOperations_9.get PAN.STATE k == panInvalidating) = false) ∧
    (wPanRangeOperations_10.regsOk ∧ wPanRangeOperations_10.pan.op = some ({ zPanOp with op := 3, base := 1, len := 8 } : PanOp) ∧ ({ zPanOp with op := 3, base := 1, len := 8 } : PanOp).op = panInv ∧ ((rangeSlices ({ zPanOp with op := 3, base := 1, len := 8 } : PanOp).base ({ zPanOp with op := 3, base := 1, len := 8 } : PanOp).len).any fun k => wPanRangeOperations_10.get PAN.STATE k == panClearing || wPanRangeOperations_10.get PAN.STATE k == panInvalidating) = false) ∧
    (wPanRangeOperations_11.regsOk ∧ wPanRangeOperations_11.pan.op = some ({ zPanOp with op := 5, len := 3 } : PanOp) ∧ ({ zPanOp with op := 5, len := 3 } : PanOp).op = panUnlock ∧ ((rangeSlices ({ zPanOp with op := 5, len := 3 } : PanOp).base ({ zPanOp with op := 5, len := 3 } : PanOp).len).any fun k => wPanRangeOperations_11.get PAN.STATE k == panClearing || wPanRangeOperations_11.get PAN.STATE k == panInvalidating) = false) ∧
    (wPanRangeOperations_12.regsOk ∧ wPanRangeOperations_12.pan.op = some { op := panLock, base := (0 : Nat) * 128, len := 128 } ∧ wPanRangeOperations_12.get PAN.STATE (sliceOf (0 : Nat)) = panEnabled ∧ wPanRangeOperations_12.block ((0 : Nat) / 512) = some ({ zTBlock with state := .resident, pins := [2, 20], units := [(0, { zTUnit with present := true }), (1, { zTUnit with present := true }), (2, { zTUnit with present := true }), (3, { zTUnit with present := true }), (4, { zTUnit with present := true }), (5, { zTUnit with present := true }), (6, { zTUnit with present := true }), (7, { zTUnit with present := true }), (8, { zTUnit with present := true }), (9, { zTUnit with present := true }), (10, { zTUnit with present := true }), (11, { zTUnit with present := true }), (12, { zTUnit with present := true }), (13, { zTUnit with present := true }), (14, { zTUnit with present := true }), (15, { zTUnit with present := true })], region := 2, used := true, frame := 21 } : TBlock) ∧ ({ zTBlock with state := .resident, pins := [2, 20], units := [(0, { zTUnit with present := true }), (1, { zTUnit with present := true }), (2, { zTUnit with present := true }), (3, { zTUnit with present := true }), (4, { zTUnit with present := true }), (5, { zTUnit with present := true }), (6, { zTUnit with present := true }), (7, { zTUnit with present := true }), (8, { zTUnit with present := true }), (9, { zTUnit with present := true }), (10, { zTUnit with present := true }), (11, { zTUnit with present := true }), (12, { zTUnit with present := true }), (13, { zTUnit with present := true }), (14, { zTUnit with present := true }), (15, { zTUnit with present := true })], region := 2, used := true, frame := 21 } : TBlock).state = .resident ∧ ({ zTBlock with state := .resident, pins := [2, 20], units := [(0, { zTUnit with present := true }), (1, { zTUnit with present := true }), (2, { zTUnit with present := true }), (3, { zTUnit with present := true }), (4, { zTUnit with present := true }), (5, { zTUnit with present := true }), (6, { zTUnit with present := true }), (7, { zTUnit with present := true }), (8, { zTUnit with present := true }), (9, { zTUnit with present := true }), (10, { zTUnit with present := true }), (11, { zTUnit with present := true }), (12, { zTUnit with present := true }), (13, { zTUnit with present := true }), (14, { zTUnit with present := true }), (15, { zTUnit with present := true })], region := 2, used := true, frame := 21 } : TBlock).unitPresent ((0 : Nat) / 32 % 16) = true ∧ wPanRangeOperations_12.panFind (0 : Nat) = some ((0 : Nat), ({ zLine with s0 := { zLineSec with val := { zSectorVal with data := 4398046511104 } }, s1 := { zLineSec with dirty := true, val := { zSectorVal with data := 3, poison := true } }, age := 19 } : Line)) ∧ ({ zLine with s0 := { zLineSec with val := { zSectorVal with data := 4398046511104 } }, s1 := { zLineSec with dirty := true, val := { zSectorVal with data := 3, poison := true } }, age := 19 } : Line).lock = false ∧ wPanRangeOperations_12.lockMissing { op := panLock, base := (0 : Nat) * 128, len := 128 } = [] ∧ ((List.range 24).filter fun w => match tget wPanRangeOperations_12.pan.lines (setKey (sliceOf (0 : Nat)) (setOf (0 : Nat)) + w) with | some y => y.lock | none => false).length < 12) ∧
    (wPanRangeOperations_13.regsOk ∧ wPanRangeOperations_13.pan.op = some { op := panLock, base := (7 : Nat) * 128, len := 128 } ∧ wPanRangeOperations_13.get PAN.STATE (sliceOf (7 : Nat)) = panEnabled ∧ wPanRangeOperations_13.block ((7 : Nat) / 512) = none ∧ wPanRangeOperations_13.panFind (7 : Nat) = none ∧ wPanRangeOperations_13.get PAN.LOCKS_RELEASED = 0) ∧
    (wPanRangeOperations_14.pan.op = some ({ zPanOp with op := 4, base := 471040, len := 4096 } : PanOp) ∧ wPanRangeOperations_14.lockMissing ({ zPanOp with op := 4, base := 471040, len := 4096 } : PanOp) = [((7 : Nat), (3 : Nat))] ∧ ((rangeSlices ({ zPanOp with op := 4, base := 471040, len := 4096 } : PanOp).base ({ zPanOp with op := 4, base := 471040, len := 4096 } : PanOp).len).any fun k => wPanRangeOperations_14.get PAN.STATE k == panClearing || wPanRangeOperations_14.get PAN.STATE k == panInvalidating) = false) :=
  ⟨(by simp only [regsOk_iff, State.admits, State.wayClear]; decide +kernel),
   (by simp only [regsOk_iff, State.admits, State.wayClear]; decide +kernel),
   (by simp only [regsOk_iff, State.governs, State.admits, State.wayClear]; decide +kernel),
   (by simp only [regsOk_iff, State.admits, State.wayClear]; decide +kernel),
   (by simp only [regsOk_iff, State.admits, State.wayClear]; decide +kernel),
   (by simp only [regsOk_iff, State.admits, State.wayClear]; decide +kernel),
   (by simp only [regsOk_iff, State.admits, State.wayClear]; decide +kernel),
   (by simp only [regsOk_iff]; decide +kernel),
   (by simp only [regsOk_iff]; decide +kernel),
   (by simp only [regsOk_iff]; decide +kernel),
   (by simp only [regsOk_iff]; decide +kernel),
   (by simp only [regsOk_iff]; decide +kernel),
   (by simp only [regsOk_iff]; decide +kernel),
   (by decide +kernel)⟩

def wPanSlices_3 : State :=
  { State.reset with regs := [(260278304, 0)], ctl.single := [{ zStaged with page := { zPage with blk := .pan, inst := 7 }, key := 260278272, value := 1 }] }
def wPanSlices_4 : State :=
  { State.reset with regs := [(260212736, 1)], ctl.single := [{ zStaged with page := { zPage with blk := .pan, inst := 5 }, key := 260212736 }] }
def wPanSlices_5 : State :=
  { State.reset with regs := [(260180000, 1)] }
def wPanSlices_6 : State :=
  { State.reset with regs := [(260376608, 2)] }
def wPanSlices_8 : State :=
  { State.reset with regs := [(293603360, 1)], tier.blocks := [(20, { zTBlock with leaveReq := true, charge := (some 21), pins := [20], units := [(0, { zTUnit with present := true }), (1, { zTUnit with present := true }), (2, { zTUnit with present := true }), (3, { zTUnit with present := true }), (4, { zTUnit with present := true }), (5, { zTUnit with present := true }), (6, { zTUnit with present := true }), (7, { zTUnit with present := true }), (8, { zTUnit with present := true }), (9, { zTUnit with present := true }), (10, { zTUnit with present := true }), (11, { zTUnit with present := true }), (12, { zTUnit with present := true }), (13, { zTUnit with present := true }), (14, { zTUnit with present := true }), (15, { zTUnit with present := true })], region := 4, used := true })], tier.reads := [{ zWaitRead with id := 21, who := (RdBy.cxl 0 4 64), region := 1, pbn := 20, unit := 3, sector := 26, window := 20, dpa := 19, t0 := 2, stage := .directFlash, panStall := true, dual := true }] }
def wPanSlices_9 : State :=
  { State.reset with regs := [(260180000, 1)] }
def wPanSlices_10 : State :=
  { State.reset with pan.lines := [(2085380, { zLine with tag := 19, s0 := { zLineSec with dirty := true, val := { zSectorVal with poison := true } }, s1 := { zLineSec with dirty := true, val := { zSectorVal with data := 6 } }, age := 3 })] }
def wPanSlices_11 : State :=
  { State.reset with pan.lines := [(3004010, { zLine with tag := 20, s0 := { zLineSec with valid := true, val := { zSectorVal with data := 12757795604457259977699385838895390334642897892959123759699084599991922994256137010985964760738205176719093800278705273320612710407133030222187687836631592 } }, s1 := { zLineSec with val := { zSectorVal with data := 3291009114642412084309938365114701009965471731267159726697218048, poison := true } }, age := 19 })], pan.wayErrs := [(3004010, 2)] }
def wPanSlices_12 : State :=
  { State.reset with pan.lines := [(3281420, { zLine with tag := 5, s0 := { zLineSec with valid := true, val := { zSectorVal with data := 13407807929942597099574024998205846127479365820592393377723561443721764030073546976801874298166903427690031858186486050853753882811946569946433649006084095, poison := true } }, s1 := { zLineSec with valid := true, dirty := true, val := { zSectorVal with data := 13407807929942597099574024998205846127479365820592393377723561443721764030073546976801874298166903427690031858186486050853753882811946569946433649006084095, poison := true } }, lock := true, age := 19 })] }
def wPanSlices_13 : State :=
  { State.reset with pan.lines := [(1093605, { zLine with tag := 4, s0 := { zLineSec with valid := true, dirty := true, val := { zSectorVal with data := 2 } }, s1 := { zLineSec with val := { zSectorVal with data := 2 } }, age := 2 })] }
theorem test_PanSlices :
    (State.reset.regsOk ∧ State.reset.admits ((Requester.warden) : Requester) (panPage (0 : Slice).val) ∧ State.reset.domainOn (Page.dom (panPage (0 : Slice).val)) = true ∧ State.reset.stageHeld (panPage (0 : Slice).val) = false ∧ State.reset.rd (panPage (0 : Slice).val) HDR.ARM = 0) ∧
    (State.reset.regsOk ∧ State.reset.admits ((Requester.warden) : Requester) (panPage (0 : Slice).val) ∧ State.reset.domainOn (Page.dom (panPage (0 : Slice).val)) = true ∧ State.reset.stageHeld (panPage (0 : Slice).val) = false ∧ State.reset.rd (panPage (0 : Slice).val) HDR.ARM = 0) ∧
    (wPanSlices_3.regsOk ∧ wPanSlices_3.ctl.single = [{ page := panPage (7 : Slice).val, key := PAN.DISABLE.key (panPage (7 : Slice).val) 0, value := 1 }] ∧ wPanSlices_3.part (panPage (7 : Slice).val) = none ∧ wPanSlices_3.flag PAN.DISABLE (7 : Slice).val = false ∧ wPanSlices_3.get PAN.STATE (7 : Slice).val = panEnabled) ∧
    (wPanSlices_4.regsOk ∧ wPanSlices_4.ctl.single = [{ page := panPage (5 : Slice).val, key := PAN.DISABLE.key (panPage (5 : Slice).val) 0, value := 0 }] ∧ wPanSlices_4.part (panPage (5 : Slice).val) = none ∧ wPanSlices_4.get PAN.DISABLE (5 : Slice).val = 1) ∧
    (wPanSlices_5.regsOk ∧ wPanSlices_5.get PAN.STATE (4 : Slice).val = panDraining) ∧
    (wPanSlices_6.regsOk ∧ wPanSlices_6.get PAN.STATE (10 : Slice).val = panClearing) ∧
    (State.reset.regsOk ∧ State.reset.get PAN.STATE (0 : Slice).val = panInvalidating ∧ State.reset.flag PAN.DISABLE (0 : Slice).val = false) ∧
    (wPanSlices_8.regsOk ∧ wPanSlices_8.get PAN.STATE (13 : Slice).val = panInvalidating ∧ wPanSlices_8.flag PAN.DISABLE (13 : Slice).val = false ∧ wPanSlices_8.tier.reads = [({ zWaitRead with id := 21, who := (RdBy.cxl 0 4 64), region := 1, pbn := 20, unit := 3, sector := 26, window := 20, dpa := 19, t0 := 2, stage := .directFlash, panStall := true, dual := true } : WaitRead)] ∧ ({ zWaitRead with id := 21, who := (RdBy.cxl 0 4 64), region := 1, pbn := 20, unit := 3, sector := 26, window := 20, dpa := 19, t0 := 2, stage := .directFlash, panStall := true, dual := true } : WaitRead).panStall = true ∧ sliceOf (({ zWaitRead with id := 21, who := (RdBy.cxl 0 4 64), region := 1, pbn := 20, unit := 3, sector := 26, window := 20, dpa := 19, t0 := 2, stage := .directFlash, panStall := true, dual := true } : WaitRead).sector / 2) = (13 : Slice).val ∧ wPanSlices_8.resting (panPage (13 : Slice).val) = false ∧ wPanSlices_8.block ({ zWaitRead with id := 21, who := (RdBy.cxl 0 4 64), region := 1, pbn := 20, unit := 3, sector := 26, window := 20, dpa := 19, t0 := 2, stage := .directFlash, panStall := true, dual := true } : WaitRead).pbn = some ({ zTBlock with leaveReq := true, charge := (some 21), pins := [20], units := [(0, { zTUnit with present := true }), (1, { zTUnit with present := true }), (2, { zTUnit with present := true }), (3, { zTUnit with present := true }), (4, { zTUnit with present := true }), (5, { zTUnit with present := true }), (6, { zTUnit with present := true }), (7, { zTUnit with present := true }), (8, { zTUnit with present := true }), (9, { zTUnit with present := true }), (10, { zTUnit with present := true }), (11, { zTUnit with present := true }), (12, { zTUnit with present := true }), (13, { zTUnit with present := true }), (14, { zTUnit with present := true }), (15, { zTUnit with present := true })], region := 4, used := true } : TBlock) ∧ ({ zTBlock with leaveReq := true, charge := (some 21), pins := [20], units := [(0, { zTUnit with present := true }), (1, { zTUnit with present := true }), (2, { zTUnit with present := true }), (3, { zTUnit with present := true }), (4, { zTUnit with present := true }), (5, { zTUnit with present := true }), (6, { zTUnit with present := true }), (7, { zTUnit with present := true }), (8, { zTUnit with present := true }), (9, { zTUnit with present := true }), (10, { zTUnit with present := true }), (11, { zTUnit with present := true }), (12, { zTUnit with present := true }), (13, { zTUnit with present := true }), (14, { zTUnit with present := true }), (15, { zTUnit with present := true })], region := 4, used := true } : TBlock).unitPresent ({ zWaitRead with id := 21, who := (RdBy.cxl 0 4 64), region := 1, pbn := 20, unit := 3, sector := 26, window := 20, dpa := 19, t0 := 2, stage := .directFlash, panStall := true, dual := true } : WaitRead).unit = true ∧ ({ zWaitRead with id := 21, who := (RdBy.cxl 0 4 64), region := 1, pbn := 20, unit := 3, sector := 26, window := 20, dpa := 19, t0 := 2, stage := .directFlash, panStall := true, dual := true } : WaitRead).who = .cxl (0 : Nat) (4 : Nat) (64 : Nat) ∧ wPanSlices_8.serves ({ zWaitRead with id := 21, who := (RdBy.cxl 0 4 64), region := 1, pbn := 20, unit := 3, sector := 26, window := 20, dpa := 19, t0 := 2, stage := .directFlash, panStall := true, dual := true } : WaitRead).grp = true ∧ (wPanSlices_8.frameRead ({ zWaitRead with id := 21, who := (RdBy.cxl 0 4 64), region := 1, pbn := 20, unit := 3, sector := 26, window := 20, dpa := 19, t0 := 2, stage := .directFlash, panStall := true, dual := true } : WaitRead).sector).poison = false) ∧
    (wPanSlices_9.regsOk ∧ wPanSlices_9.governs ((Requester.warden) : Requester) (panPage (4 : Slice).val) ∧ wPanSlices_9.stageHeld (panPage (4 : Slice).val) = false ∧ wPanSlices_9.rd (panPage (4 : Slice).val) HDR.ARM = 0 ∧ wPanSlices_9.get PAN.STATE (4 : Slice).val = panDraining) ∧
    (wPanSlices_10.regsOk ∧ tget wPanSlices_10.pan.lines (setKey (7 : Slice).val (7824 : Fin 8192).val + (4 : Fin 24).val) = some ({ zLine with tag := 19, s0 := { zLineSec with dirty := true, val := { zSectorVal with poison := true } }, s1 := { zLineSec with dirty := true, val := { zSectorVal with data := 6 } }, age := 3 } : Line) ∧ (tget wPanSlices_10.pan.wayErrs (setKey (7 : Slice).val (7824 : Fin 8192).val + (4 : Fin 24).val)).getD 0 < 2) ∧
    (wPanSlices_11.regsOk ∧ tget wPanSlices_11.pan.lines (setKey (11 : Slice).val (3763 : Fin 8192).val + (10 : Fin 24).val) = some ({ zLine with tag := 20, s0 := { zLineSec with valid := true, val := { zSectorVal with data := 12757795604457259977699385838895390334642897892959123759699084599991922994256137010985964760738205176719093800278705273320612710407133030222187687836631592 } }, s1 := { zLineSec with val := { zSectorVal with data := 3291009114642412084309938365114701009965471731267159726697218048, poison := true } }, age := 19 } : Line) ∧ tget wPanSlices_11.pan.wayErrs (setKey (11 : Slice).val (3763 : Fin 8192).val + (10 : Fin 24).val) = some 2 ∧ wPanSlices_11.pan.retired = []) ∧
    (wPanSlices_12.regsOk ∧ tget wPanSlices_12.pan.lines (setKey (12 : Slice).val (4240 : Fin 8192).val + (12 : Fin 24).val) = some ({ zLine with tag := 5, s0 := { zLineSec with valid := true, val := { zSectorVal with data := 13407807929942597099574024998205846127479365820592393377723561443721764030073546976801874298166903427690031858186486050853753882811946569946433649006084095, poison := true } }, s1 := { zLineSec with valid := true, dirty := true, val := { zSectorVal with data := 13407807929942597099574024998205846127479365820592393377723561443721764030073546976801874298166903427690031858186486050853753882811946569946433649006084095, poison := true } }, lock := true, age := 19 } : Line) ∧ (({ zLine with tag := 5, s0 := { zLineSec with valid := true, val := { zSectorVal with data := 13407807929942597099574024998205846127479365820592393377723561443721764030073546976801874298166903427690031858186486050853753882811946569946433649006084095, poison := true } }, s1 := { zLineSec with valid := true, dirty := true, val := { zSectorVal with data := 13407807929942597099574024998205846127479365820592393377723561443721764030073546976801874298166903427690031858186486050853753882811946569946433649006084095, poison := true } }, lock := true, age := 19 } : Line).sec (0 : Fin 2).val).valid = true ∧ (({ zLine with tag := 5, s0 := { zLineSec with valid := true, val := { zSectorVal with data := 13407807929942597099574024998205846127479365820592393377723561443721764030073546976801874298166903427690031858186486050853753882811946569946433649006084095, poison := true } }, s1 := { zLineSec with valid := true, dirty := true, val := { zSectorVal with data := 13407807929942597099574024998205846127479365820592393377723561443721764030073546976801874298166903427690031858186486050853753882811946569946433649006084095, poison := true } }, lock := true, age := 19 } : Line).sec (0 : Fin 2).val).dirty = false) ∧
    (wPanSlices_13.regsOk ∧ tget wPanSlices_13.pan.lines (setKey (4 : Slice).val (1407 : Fin 8192).val + (5 : Fin 24).val) = some ({ zLine with tag := 4, s0 := { zLineSec with valid := true, dirty := true, val := { zSectorVal with data := 2 } }, s1 := { zLineSec with val := { zSectorVal with data := 2 } }, age := 2 } : Line) ∧ (({ zLine with tag := 4, s0 := { zLineSec with valid := true, dirty := true, val := { zSectorVal with data := 2 } }, s1 := { zLineSec with val := { zSectorVal with data := 2 } }, age := 2 } : Line).sec (0 : Fin 2).val).valid = true ∧ (({ zLine with tag := 4, s0 := { zLineSec with valid := true, dirty := true, val := { zSectorVal with data := 2 } }, s1 := { zLineSec with val := { zSectorVal with data := 2 } }, age := 2 } : Line).sec (0 : Fin 2).val).dirty = true ∧ wPanSlices_13.twinCurrent (keyLine (setKey (4 : Slice).val (1407 : Fin 8192).val + (5 : Fin 24).val) ({ zLine with tag := 4, s0 := { zLineSec with valid := true, dirty := true, val := { zSectorVal with data := 2 } }, s1 := { zLineSec with val := { zSectorVal with data := 2 } }, age := 2 } : Line) * 2 + (0 : Fin 2).val) = false) :=
  ⟨(by simp only [regsOk_iff, State.admits, State.wayClear]; decide +kernel),
   (by simp only [regsOk_iff, State.admits, State.wayClear]; decide +kernel),
   (by simp only [regsOk_iff]; decide +kernel),
   (by simp only [regsOk_iff]; decide +kernel),
   (by simp only [regsOk_iff]; decide +kernel),
   (by simp only [regsOk_iff]; decide +kernel),
   (by simp only [regsOk_iff]; decide +kernel),
   (by simp only [regsOk_iff]; decide +kernel),
   (by simp only [regsOk_iff, State.governs, State.admits, State.wayClear]; decide +kernel),
   (by simp only [regsOk_iff]; decide +kernel),
   (by simp only [regsOk_iff]; decide +kernel),
   (by simp only [regsOk_iff]; decide +kernel),
   (by simp only [regsOk_iff]; decide +kernel)⟩

def wDramTraining_1 : State :=
  { State.reset with regs := [(268438528, 1)], dmc.training := [(6, { zTrainRun with restored := true, retried := true })] }
def wDramTraining_2 : State :=
  { State.reset with dmc.training := [(3, zTrainRun)] }
def wDramTraining_3 : State :=
  { State.reset with dmc.training := [(6, { zTrainRun with restored := true, retried := true })] }
def wDramTraining_4 : State :=
  { State.reset with dmc.training := [(7, zTrainRun)] }
def wDramTraining_5 : State :=
  { State.reset with regs := [(268438528, 1)], dmc.training := [(8, { zTrainRun with retried := true })] }
def wDramTraining_6 : State :=
  { State.reset with regs := [(268535840, 1), (268535900, 2)] }
def wDramTraining_8 : State :=
  { State.reset with dmc.retraining := [(0, 2)] }
def wDramTraining_9 : State :=
  { State.reset with regs := [(268438528, 1)], dmc.retraining := [(3, 4)] }
def wDramTraining_11 : State :=
  { State.reset with regs := [(268437596, 2)] }
def wDramTraining_12 : State :=
  { State.reset with regs := [(268699740, 2)], dmc.wcrc := [(64, (0, 8))] }
def wDramTraining_13 : State :=
  { State.reset with regs := [(268438528, 1), (268798044, 2)], dmc.wcrc := [(92, (0, 10))] }
def wDramTraining_14 : State :=
  { State.reset with regs := [(268732508, 2), (268732576, 1)] }
def wDramTraining_15 : State :=
  { State.reset with regs := [(268438528, 1), (268797984, 1), (268797988, 1), (268797992, 1), (268798044, 4)] }
def wDramTraining_16 : State :=
  { State.reset with regs := [(268438528, 1)], dmc.training := [(1, { zTrainRun with restored := true })] }
def wDramTraining_17 : State :=
  { State.reset with dmc.training := [(0, { zTrainRun with retried := true })], dmc.srWait := [0] }
def wDramTraining_18 : State :=
  { State.reset with regs := [(268438544, 63), (268699740, 1)], dmc.training := [(7, { zTrainRun with retried := true })] }
def wDramTraining_19 : State :=
  { State.reset with dmc.retraining := [(1, 2)], dmc.wcrc := [(12, (1, 9))] }
def wDramTraining_20 : State :=
  { State.reset with regs := [(268437596, 1)] }
theorem test_DramTraining :
    (wDramTraining_1.regsOk ∧ tget wDramTraining_1.dmc.training (6 : Chan).val = some ({ zTrainRun with restored := true, retried := true } : TrainRun) ∧ wDramTraining_1.get DMC.NCHAN ≠ 0 ∧ wDramTraining_1.dmc.srWait.contains (6 : Chan).val = false ∧ (∀ x ∈ wDramTraining_1.tier.reads, x.panStall = false)) ∧
    (wDramTraining_2.regsOk ∧ tget wDramTraining_2.dmc.training (3 : Chan).val = some (zTrainRun : TrainRun) ∧ wDramTraining_2.get DMC.NCHAN = 0 ∧ (∀ d, d < 12 → d ≠ (3 : Chan).val → wDramTraining_2.get DMC.STATE d ≠ dmcTraining) ∧ wDramTraining_2.dmc.srWait.contains (3 : Chan).val = false ∧ (∀ d, d < 12 → wDramTraining_2.unstaged (dmcPage d)) ∧ (wDramTraining_2.put DMC.STATE dmcReady (3 : Chan).val).pairsBest = ([] : List Nat)) ∧
    (tget wDramTraining_3.dmc.training (6 : Chan).val = some ({ zTrainRun with restored := true, retried := true } : TrainRun) ∧ ({ zTrainRun with restored := true, retried := true } : TrainRun).restored = true) ∧
    (tget wDramTraining_4.dmc.training (7 : Chan).val = some (zTrainRun : TrainRun) ∧ (zTrainRun : TrainRun).restored = false ∧ (zTrainRun : TrainRun).retried = false) ∧
    (wDramTraining_5.regsOk ∧ tget wDramTraining_5.dmc.training (8 : Chan).val = some ({ zTrainRun with retried := true } : TrainRun) ∧ ({ zTrainRun with retried := true } : TrainRun).restored = false ∧ ({ zTrainRun with retried := true } : TrainRun).retried = true ∧ wDramTraining_5.bitOf DMC.PAIRS_USED ((8 : Chan).val / 2) = false ∧ wDramTraining_5.get DMC.NCHAN ≠ 0 ∧ wDramTraining_5.unstaged (dmcPage (8 : Chan).val)) ∧
    (wDramTraining_6.regsOk ∧ wDramTraining_6.get DMC.STATE (3 : Chan).val = dmcReady ∧ wDramTraining_6.frozen = false ∧ (0 : Fin 4).val < wDramTraining_6.get DMC.RANKS (3 : Chan).val ∧ wDramTraining_6.get DMC.DRIFT_PS (3 : Chan).val < (31829 : BitVec 16).toNat) ∧
    ((0 : BitVec 16).toNat ≤ State.reset.get DMC.DRIFT_PS (0 : Chan).val) ∧
    (wDramTraining_8.regsOk ∧ tget wDramTraining_8.dmc.retraining (0 : Chan).val = some (2 : Nat) ∧ wDramTraining_8.dmc.wcrc = []) ∧
    (wDramTraining_9.regsOk ∧ tget wDramTraining_9.dmc.retraining (3 : Chan).val = some (4 : Nat) ∧ wDramTraining_9.get DMC.STATE (3 : Chan).val ≠ dmcFailed ∧ wDramTraining_9.get DMC.NCHAN ≠ 0 ∧ wDramTraining_9.unstaged (dmcPage (3 : Chan).val)) ∧
    (wDramTraining_11.regsOk ∧ wDramTraining_11.flag DMC.WCRC_EN (0 : Chan).val = true ∧ wDramTraining_11.dmcServes (0 : Chan).val = true ∧ tget wDramTraining_11.dmc.wcrc (subKey (0 : Chan).val (0 : Fin 4).val (false : Bool)) = none) ∧
    (wDramTraining_12.regsOk ∧ wDramTraining_12.flag DMC.WCRC_EN (8 : Chan).val = true ∧ wDramTraining_12.get DMC.STATE (8 : Chan).val = dmcReady ∧ wDramTraining_12.frozen = false ∧ tget wDramTraining_12.dmc.wcrc (subKey (8 : Chan).val (0 : Fin 4).val (false : Bool)) = some ((0 : Nat), 8)) ∧
    (wDramTraining_13.regsOk ∧ wDramTraining_13.flag DMC.WCRC_EN (11 : Chan).val = true ∧ wDramTraining_13.dmcServes (11 : Chan).val = true ∧ wDramTraining_13.get DMC.NCHAN ≠ 0 ∧ wDramTraining_13.unstaged (dmcPage (11 : Chan).val) ∧ tget wDramTraining_13.dmc.wcrc (subKey (11 : Chan).val (2 : Fin 4).val (false : Bool)) = some ((0 : Nat), 10)) ∧
    (wDramTraining_14.regsOk ∧ wDramTraining_14.get DMC.SR_IDLE_US (9 : Chan).val ≠ 0 ∧ wDramTraining_14.frozen = false ∧ wDramTraining_14.get DMC.STATE (9 : Chan).val = dmcReady ∧ wDramTraining_14.chanIdle (9 : Chan).val (wDramTraining_14.get DMC.SR_IDLE_US (9 : Chan).val * 1000) = true ∧ wDramTraining_14.chanReads (9 : Chan).val = []) ∧
    (wDramTraining_15.regsOk ∧ wDramTraining_15.get DMC.STATE (11 : Chan).val = dmcSelfRefresh ∧ topoOk (wDramTraining_15.dmcTopo (11 : Chan).val) = true ∧ wDramTraining_15.get DMC.RANKS (11 : Chan).val ≠ 0 ∧ wDramTraining_15.get DMC.NCHAN ≠ 0 ∧ wDramTraining_15.unstaged (dmcPage (11 : Chan).val) ∧ wDramTraining_15.dmc.srWait.contains (11 : Chan).val = false ∧ (∀ x ∈ wDramTraining_15.tier.reads, x.panStall = false)) ∧
    (wDramTraining_16.regsOk ∧ tget wDramTraining_16.dmc.training (1 : Chan).val = some ({ zTrainRun with restored := true } : TrainRun) ∧ wDramTraining_16.get DMC.NCHAN ≠ 0 ∧ wDramTraining_16.dmc.srWait.contains (1 : Chan).val = false) ∧
    (wDramTraining_17.regsOk ∧ tget wDramTraining_17.dmc.training (0 : Chan).val = some ({ zTrainRun with retried := true } : TrainRun) ∧ wDramTraining_17.dmc.srWait.contains (0 : Chan).val = true ∧ wDramTraining_17.wdn.warm = false) ∧
    (wDramTraining_18.regsOk ∧ tget wDramTraining_18.dmc.training (7 : Chan).val = some ({ zTrainRun with retried := true } : TrainRun) ∧ ({ zTrainRun with retried := true } : TrainRun).restored = false ∧ ({ zTrainRun with retried := true } : TrainRun).retried = true ∧ wDramTraining_18.bitOf DMC.PAIRS_USED ((7 : Chan).val / 2) = true ∧ (8 : Nat) < 12 ∧ (8 : Nat) ≠ (7 : Chan).val ∧ wDramTraining_18.get DMC.STATE (8 : Nat) = dmcTraining ∧ wDramTraining_18.unstaged (dmcPage (7 : Chan).val)) ∧
    (wDramTraining_19.regsOk ∧ tget wDramTraining_19.dmc.retraining (1 : Chan).val = some (2 : Fin 4).val ∧ wDramTraining_19.dmc.wcrc = [(subKey (1 : Chan).val (2 : Fin 4).val false, ((1 : Nat), 9))]) ∧
    (wDramTraining_20.get DMC.STATE (0 : Chan).val = dmcTraining ∧ wDramTraining_20.dmc.srWait.contains (0 : Chan).val = false) :=
  ⟨(by simp only [regsOk_iff]; decide +kernel),
   (by simp only [regsOk_iff, State.unstaged]; decide +kernel),
   (by decide +kernel),
   (by decide +kernel),
   (by simp only [regsOk_iff, State.unstaged]; decide +kernel),
   (by simp only [regsOk_iff]; decide +kernel),
   (by decide +kernel),
   (by simp only [regsOk_iff]; decide +kernel),
   (by simp only [regsOk_iff, State.unstaged]; decide +kernel),
   (by simp only [regsOk_iff]; decide +kernel),
   (by simp only [regsOk_iff]; decide +kernel),
   (by simp only [regsOk_iff, State.unstaged]; decide +kernel),
   (by simp only [regsOk_iff]; decide +kernel),
   (by simp only [regsOk_iff, State.unstaged]; decide +kernel),
   (by simp only [regsOk_iff]; decide +kernel),
   (by simp only [regsOk_iff]; decide +kernel),
   (by simp only [regsOk_iff, State.unstaged]; decide +kernel),
   (by simp only [regsOk_iff]; decide +kernel),
   (by decide +kernel)⟩

def wDramReadsAndRefresh_3 : State :=
  { State.reset with regs := [(268699740, 2)] }
def wDramReadsAndRefresh_4 : State :=
  { State.reset with regs := [(268732508, 2)] }
def wDramReadsAndRefresh_5 : State :=
  { State.reset with regs := [(268699740, 2), (268699848, 0)] }
def wDramReadsAndRefresh_6 : State :=
  { State.reset with regs := [(251660544, 1000), (268437596, 2), (268438544, 5), (268438560, 512)], tier.blocks := [(0, { zTBlock with state := .resident, frame := 3 })] }
def wDramReadsAndRefresh_7 : State :=
  { State.reset with regs := [(251660544, 5), (268438544, 63), (268438560, 512), (268470364, 2)], tier.blocks := [(1, { zTBlock with state := .leaving, frame := 3 })], tier.written := [(2060, 1)] }
def wDramReadsAndRefresh_8 : State :=
  { State.reset with regs := [(251660544, 1000), (268438544, 63), (268438560, 512), (268601436, 2)], tier.blocks := [(0, { zTBlock with charge := (some 8), pins := [100, 8], units := [(0, { zTUnit with present := true, stamp := 21, cls := 19 })], region := 1, used := true, frame := 3 })] }
def wDramReadsAndRefresh_9 : State :=
  { State.reset with regs := [(268438544, 63), (268438560, 512), (268699740, 2)], tier.blocks := [(0, { zTBlock with state := .resident, pins := [100], units := [(0, { zTUnit with present := true, dirty := true, stamp := 1, failed := true })], filling := [65536, 21], region := 19, frame := 3 })] }
def wDramReadsAndRefresh_10 : State :=
  { State.reset with regs := [(268765276, 2)] }
def wDramReadsAndRefresh_11 : State :=
  { State.reset with regs := [(268634204, 2)] }
def wDramReadsAndRefresh_12 : State :=
  { State.reset with regs := [(268765276, 2)] }
def wDramReadsAndRefresh_13 : State :=
  { State.reset with regs := [(268438528, 1), (268666972, 2)] }
def wDramReadsAndRefresh_15 : State :=
  { State.reset with regs := [(268634204, 2)] }
def wDramReadsAndRefresh_16 : State :=
  { State.reset with regs := [(268797984, 1), (268798044, 2)], dmc.debts := [(44, [8])] }
def wDramReadsAndRefresh_17 : State :=
  { State.reset with regs := [(268699680, 1), (268699740, 2)] }
def wDramReadsAndRefresh_18 : State :=
  { State.reset with regs := [(268470304, 1), (268470364, 2)] }
def wDramReadsAndRefresh_19 : State :=
  { State.reset with regs := [(268666912, 1), (268666972, 2)] }
theorem test_DramReadsAndRefresh :
    (({ zBurst with err := 6277101735386680763835789423207666416102355444464034512896 } : Burst).devs none = [(3 : Nat)] ∧ ({ zBurst with err := 6277101735386680763835789423207666416102355444464034512896 } : Burst).tag = 0) ∧
    (({ zBurst with err := 247330401473104534060502521019647190035858187825507446804612379900785229640885508531003719121524535188778310714129537262677556085020514775528308676708159345850141373777313792 } : Burst).devs none = [(7 : Nat), (9 : Nat)] ∧ symWeight (({ zBurst with err := 247330401473104534060502521019647190035858187825507446804612379900785229640885508531003719121524535188778310714129537262677556085020514775528308676708159345850141373777313792 } : Burst).dev (7 : Nat)) + symWeight (({ zBurst with err := 247330401473104534060502521019647190035858187825507446804612379900785229640885508531003719121524535188778310714129537262677556085020514775528308676708159345850141373777313792 } : Burst).dev (9 : Nat)) + symWeight ({ zBurst with err := 247330401473104534060502521019647190035858187825507446804612379900785229640885508531003719121524535188778310714129537262677556085020514775528308676708159345850141373777313792 } : Burst).tag.toNat < 4) ∧
    (wDramReadsAndRefresh_3.dmcServes (8 : Chan).val = true ∧ wDramReadsAndRefresh_3.dramAt (8 : Chan).val (false : Bool) ({ zDramAddr with use := (DramUse.command) } : DramAddr) = true ∧ (burstDecode (zBurst : Burst) (wDramReadsAndRefresh_3.mappedOut (8 : Chan).val (0 : Fin 4).val (false : Bool)) (wDramReadsAndRefresh_3.dramPoison ({ zDramAddr with use := (DramUse.command) } : DramAddr).use) = .good ∨ burstDecode (zBurst : Burst) (wDramReadsAndRefresh_3.mappedOut (8 : Chan).val (0 : Fin 4).val (false : Bool)) (wDramReadsAndRefresh_3.dramPoison ({ zDramAddr with use := (DramUse.command) } : DramAddr).use) = .poisoned)) ∧
    (wDramReadsAndRefresh_4.regsOk ∧ wDramReadsAndRefresh_4.dmcServes (9 : Chan).val = true ∧ wDramReadsAndRefresh_4.flag DMC.PATROL_EN (9 : Chan).val = true ∧ wDramReadsAndRefresh_4.frozen = false ∧ wDramReadsAndRefresh_4.dramAt (9 : Chan).val (false : Bool) ({ zDramAddr with use := (DramUse.table) } : DramAddr) = true ∧ ({ zDramAddr with use := (DramUse.table) } : DramAddr).use ≠ .command ∧ burstDecode ({ zBurst with err := 1 } : Burst) (wDramReadsAndRefresh_4.mappedOut (9 : Chan).val (0 : Fin 4).val (false : Bool)) (wDramReadsAndRefresh_4.dramPoison ({ zDramAddr with use := (DramUse.table) } : DramAddr).use) = .corrected (0 : Nat) (1 : Nat) (false : Bool) ∧ bits (wDramReadsAndRefresh_4.get DMC.MAPOUT (9 : Chan).val) (4 * (2 * (0 : Fin 4).val + b2n (false : Bool))) 4 ≠ (0 : Nat) ∧ (((tget wDramReadsAndRefresh_4.dmc.ces (subKey (9 : Chan).val (0 : Fin 4).val (false : Bool) * 16 + (0 : Nat))).getD []).filter fun x => wDramReadsAndRefresh_4.timeNs < x + hourNs).length + 1 < wDramReadsAndRefresh_4.get DMC.MAPOUT_CE (9 : Chan).val) ∧
    (wDramReadsAndRefresh_5.regsOk ∧ wDramReadsAndRefresh_5.dmcServes (8 : Chan).val = true ∧ wDramReadsAndRefresh_5.dramAt (8 : Chan).val (false : Bool) ({ zDramAddr with use := (DramUse.table) } : DramAddr) = true ∧ ({ zDramAddr with use := (DramUse.table) } : DramAddr).use ≠ .command ∧ (0 : Nat) < 10 ∧ burstDecode ({ zBurst with err := 1 } : Burst) none (wDramReadsAndRefresh_5.dramPoison ({ zDramAddr with use := (DramUse.table) } : DramAddr).use) = .corrected (0 : Nat) (1 : Nat) (false : Bool) ∧ bits (wDramReadsAndRefresh_5.get DMC.MAPOUT (8 : Chan).val) (4 * (2 * (0 : Fin 4).val + b2n (false : Bool))) 4 = 0xF ∧ wDramReadsAndRefresh_5.get DMC.MAPOUT_CE (8 : Chan).val ≤ (((tget wDramReadsAndRefresh_5.dmc.ces (subKey (8 : Chan).val (0 : Fin 4).val (false : Bool) * 16 + (0 : Nat))).getD []).filter fun x => wDramReadsAndRefresh_5.timeNs < x + hourNs).length + 1) ∧
    (wDramReadsAndRefresh_6.regsOk ∧ wDramReadsAndRefresh_6.dmcServes (0 : Chan).val = true ∧ wDramReadsAndRefresh_6.dramAt (0 : Chan).val (false : Bool) ({ zDramAddr with loc := 137422618624 } : DramAddr) = true ∧ ({ zDramAddr with loc := 137422618624 } : DramAddr).use = .frame (0 : Nat) ∧ burstDecode ({ zBurst with err := 1 } : Burst) (wDramReadsAndRefresh_6.mappedOut (0 : Chan).val (0 : Fin 4).val (false : Bool)) (wDramReadsAndRefresh_6.dramPoison ({ zDramAddr with loc := 137422618624 } : DramAddr).use) = .corrected (0 : Nat) (1 : Nat) (false : Bool) ∧ fixLeft ({ zBurst with err := 1 } : Burst) (wDramReadsAndRefresh_6.mappedOut (0 : Chan).val (0 : Fin 4).val (false : Bool)) (0 : Nat) (1 : Nat) = 0 ∧ (∀ x, tget wDramReadsAndRefresh_6.tier.written (2 * (0 : Nat)) = some x → x < (0 : Nat)) ∧ ((tget wDramReadsAndRefresh_6.tier.writes (2 * (0 : Chan).val + b2n (false : Bool))).getD []).length < 128) ∧
    (wDramReadsAndRefresh_7.regsOk ∧ wDramReadsAndRefresh_7.dmcServes (1 : Chan).val = true ∧ wDramReadsAndRefresh_7.dramAt (1 : Chan).val (false : Bool) ({ zDramAddr with loc := 45812973696, use := (DramUse.frame 1030) } : DramAddr) = true ∧ ({ zDramAddr with loc := 45812973696, use := (DramUse.frame 1030) } : DramAddr).use = .frame (1030 : Nat) ∧ burstDecode ({ zBurst with err := 1 } : Burst) (wDramReadsAndRefresh_7.mappedOut (1 : Chan).val (0 : Fin 4).val (false : Bool)) (wDramReadsAndRefresh_7.dramPoison ({ zDramAddr with loc := 45812973696, use := (DramUse.frame 1030) } : DramAddr).use) = .corrected (0 : Nat) (1 : Nat) (false : Bool) ∧ tget wDramReadsAndRefresh_7.tier.written (2 * (1030 : Nat)) = some (1 : Nat) ∧ (0 : Nat) ≤ (1 : Nat)) ∧
    (wDramReadsAndRefresh_8.regsOk ∧ wDramReadsAndRefresh_8.dmcServes (5 : Chan).val = true ∧ wDramReadsAndRefresh_8.dramAt (5 : Chan).val (true : Bool) ({ zDramAddr with loc := 45807539520, use := (DramUse.frame 5) } : DramAddr) = true ∧ ({ zDramAddr with loc := 45807539520, use := (DramUse.frame 5) } : DramAddr).use = .frame (5 : Nat) ∧ burstDecode ({ zBurst with err := 18446744073709551617 } : Burst) (wDramReadsAndRefresh_8.mappedOut (5 : Chan).val (0 : Fin 4).val (true : Bool)) (wDramReadsAndRefresh_8.dramPoison ({ zDramAddr with loc := 45807539520, use := (DramUse.frame 5) } : DramAddr).use) = .uncorrectable ∧ burstDecode ({ zBurst with err := 18446744073709551617 } : Burst) (wDramReadsAndRefresh_8.mappedOut (5 : Chan).val (0 : Fin 4).val (true : Bool)) (wDramReadsAndRefresh_8.dramPoison ({ zDramAddr with loc := 45807539520, use := (DramUse.frame 5) } : DramAddr).use) = .uncorrectable ∧ wDramReadsAndRefresh_8.block (pbnOf (5 : Nat)) = some ({ zTBlock with charge := (some 8), pins := [100, 8], units := [(0, { zTUnit with present := true, stamp := 21, cls := 19 })], region := 1, used := true, frame := 3 } : TBlock) ∧ tget ({ zTBlock with charge := (some 8), pins := [100, 8], units := [(0, { zTUnit with present := true, stamp := 21, cls := 19 })], region := 1, used := true, frame := 3 } : TBlock).units (unitOf (5 : Nat) % 16) = some ({ zTUnit with present := true, stamp := 21, cls := 19 } : TUnit) ∧ ({ zTUnit with present := true, stamp := 21, cls := 19 } : TUnit).present = true ∧ ({ zTUnit with present := true, stamp := 21, cls := 19 } : TUnit).dirty = false) ∧
    (wDramReadsAndRefresh_9.regsOk ∧ wDramReadsAndRefresh_9.dmcServes (8 : Chan).val = true ∧ wDramReadsAndRefresh_9.dramAt (8 : Chan).val (false : Bool) ({ zDramAddr with loc := 45813000704 } : DramAddr) = true ∧ ({ zDramAddr with loc := 45813000704 } : DramAddr).use = .frame (0 : Nat) ∧ burstDecode ({ zBurst with err := 18446744073709551617 } : Burst) (wDramReadsAndRefresh_9.mappedOut (8 : Chan).val (0 : Fin 4).val (false : Bool)) (wDramReadsAndRefresh_9.dramPoison ({ zDramAddr with loc := 45813000704 } : DramAddr).use) = .uncorrectable ∧ burstDecode ({ zBurst with err := 18446744073709551617 } : Burst) (wDramReadsAndRefresh_9.mappedOut (8 : Chan).val (0 : Fin 4).val (false : Bool)) (wDramReadsAndRefresh_9.dramPoison ({ zDramAddr with loc := 45813000704 } : DramAddr).use) = .uncorrectable ∧ wDramReadsAndRefresh_9.block (pbnOf (0 : Nat)) = some ({ zTBlock with state := .resident, pins := [100], units := [(0, { zTUnit with present := true, dirty := true, stamp := 1, failed := true })], filling := [65536, 21], region := 19, frame := 3 } : TBlock) ∧ tget ({ zTBlock with state := .resident, pins := [100], units := [(0, { zTUnit with present := true, dirty := true, stamp := 1, failed := true })], filling := [65536, 21], region := 19, frame := 3 } : TBlock).units (unitOf (0 : Nat) % 16) = some ({ zTUnit with present := true, dirty := true, stamp := 1, failed := true } : TUnit) ∧ ({ zTUnit with present := true, dirty := true, stamp := 1, failed := true } : TUnit).present = true ∧ ({ zTUnit with present := true, dirty := true, stamp := 1, failed := true } : TUnit).dirty = true ∧ wDramReadsAndRefresh_9.twinCurrent (0 : Nat) = false ∧ wDramReadsAndRefresh_9.panFind ((0 : Nat) / 2) = none ∧ wDramReadsAndRefresh_9.isSys (pbnOf (0 : Nat)) = false) ∧
    (wDramReadsAndRefresh_10.regsOk ∧ wDramReadsAndRefresh_10.dmcServes (10 : Chan).val = true ∧ wDramReadsAndRefresh_10.flag DMC.PATROL_EN (10 : Chan).val = true ∧ wDramReadsAndRefresh_10.frozen = false ∧ ({ zDramAddr with use := (DramUse.bittern 64) } : DramAddr).use = .bittern (64 : Nat) ∧ burstDecode ({ zBurst with tag := 1 } : Burst) (wDramReadsAndRefresh_10.mappedOut (10 : Chan).val (0 : Fin 4).val (false : Bool)) false = .tag ∧ burstDecode ({ zBurst with tag := 1 } : Burst) (wDramReadsAndRefresh_10.mappedOut (10 : Chan).val (0 : Fin 4).val (false : Bool)) false = .tag) ∧
    (wDramReadsAndRefresh_11.regsOk ∧ wDramReadsAndRefresh_11.dmcServes (6 : Chan).val = true ∧ wDramReadsAndRefresh_11.dramAt (6 : Chan).val (false : Bool) ({ zDramAddr with use := (DramUse.table) } : DramAddr) = true ∧ ({ zDramAddr with use := (DramUse.table) } : DramAddr).use ≠ .command ∧ burstDecode ({ zBurst with err := 18446744073709551617 } : Burst) (wDramReadsAndRefresh_11.mappedOut (6 : Chan).val (0 : Fin 4).val (false : Bool)) (wDramReadsAndRefresh_11.dramPoison ({ zDramAddr with use := (DramUse.table) } : DramAddr).use) = .uncorrectable ∧ burstDecode (zBurst : Burst) (wDramReadsAndRefresh_11.mappedOut (6 : Chan).val (0 : Fin 4).val (false : Bool)) (wDramReadsAndRefresh_11.dramPoison ({ zDramAddr with use := (DramUse.table) } : DramAddr).use) = .good) ∧
    (wDramReadsAndRefresh_12.regsOk ∧ wDramReadsAndRefresh_12.dmcServes (10 : Chan).val = true ∧ wDramReadsAndRefresh_12.dramAt (10 : Chan).val (false : Bool) ({ zDramAddr with use := (DramUse.bittern 0) } : DramAddr) = true) ∧
    (wDramReadsAndRefresh_13.regsOk ∧ wDramReadsAndRefresh_13.dmcServes (7 : Chan).val = true ∧ wDramReadsAndRefresh_13.dramAt (7 : Chan).val (false : Bool) ({ zDramAddr with use := (DramUse.table) } : DramAddr) = true ∧ wDramReadsAndRefresh_13.get DMC.NCHAN ≠ 0 ∧ wDramReadsAndRefresh_13.unstaged (dmcPage (7 : Chan).val)) ∧
    (wDramReadsAndRefresh_15.regsOk ∧ wDramReadsAndRefresh_15.dmcServes (6 : Chan).val = true ∧ wDramReadsAndRefresh_15.unstaged (dmcPage (6 : Chan).val)) ∧
    (wDramReadsAndRefresh_16.regsOk ∧ wDramReadsAndRefresh_16.dmcServes (11 : Chan).val = true ∧ wDramReadsAndRefresh_16.unstaged (dmcPage (11 : Chan).val) ∧ wDramReadsAndRefresh_16.get DMC.RANKS (11 : Chan).val = 1 ∧ ((wDramReadsAndRefresh_16.debts (11 : Chan).val 0).any fun x => wDramReadsAndRefresh_16.get DMC.REF_POSTPONE (11 : Chan).val ≤ x + 1) = true) ∧
    (wDramReadsAndRefresh_17.regsOk ∧ wDramReadsAndRefresh_17.dmcServes (8 : Chan).val = true ∧ (0 : Fin 4).val < wDramReadsAndRefresh_17.get DMC.RANKS (8 : Chan).val) ∧
    (wDramReadsAndRefresh_18.regsOk ∧ wDramReadsAndRefresh_18.dmcServes (1 : Chan).val = true ∧ (0 : Fin 4).val < wDramReadsAndRefresh_18.get DMC.RANKS (1 : Chan).val ∧ (∀ k ∈ wDramReadsAndRefresh_18.dmc.x2Ranks, k / 4 = (1 : Chan).val → k = rankKey (1 : Chan).val (0 : Fin 4).val)) ∧
    (wDramReadsAndRefresh_19.dmcServes (7 : Chan).val = true ∧ wDramReadsAndRefresh_19.flag DMC.PD_EN (7 : Chan).val = true ∧ wDramReadsAndRefresh_19.frozen = false ∧ (0 : Fin 4).val < wDramReadsAndRefresh_19.get DMC.RANKS (7 : Chan).val ∧ wDramReadsAndRefresh_19.chanUrgency (7 : Chan).val = 0 ∧ wDramReadsAndRefresh_19.dmc.pdRanks.contains (rankKey (7 : Chan).val (0 : Fin 4).val) = false ∧ (∀ x, tget wDramReadsAndRefresh_19.dmc.asked (rankKey (7 : Chan).val (0 : Fin 4).val) = some x → x + wDramReadsAndRefresh_19.dmcCycles (7 : Chan).val (wDramReadsAndRefresh_19.get DMC.PD_IDLE (7 : Chan).val) ≤ wDramReadsAndRefresh_19.timeNs)) :=
  ⟨(by decide +kernel),
   (by decide +kernel),
   (by decide +kernel),
   (by simp only [regsOk_iff]; decide +kernel),
   (by simp only [regsOk_iff]; decide +kernel),
   (by simp only [regsOk_iff]; decide +kernel),
   (by simp only [regsOk_iff]; decide +kernel),
   (by simp only [regsOk_iff]; decide +kernel),
   (by simp only [regsOk_iff]; decide +kernel),
   ⟨by rw [regsOk_iff]; decide +kernel, by decide +kernel⟩,
   (by simp only [regsOk_iff]; decide +kernel),
   (by simp only [regsOk_iff]; decide +kernel),
   (by simp only [regsOk_iff, State.unstaged]; decide +kernel),
   (by simp only [regsOk_iff, State.unstaged]; decide +kernel),
   (by simp only [regsOk_iff, State.unstaged]; decide +kernel),
   (by simp only [regsOk_iff]; decide +kernel),
   (by simp only [regsOk_iff]; decide +kernel),
   (by decide +kernel)⟩

def wFlashBringupAndJournal_1 : State :=
  { State.reset with regs := [(277055548, 1), (277678140, 1)] }
def wFlashBringupAndJournal_2 : State :=
  { State.reset with regs := [(276858940, 1), (277022780, 1)] }
def wFlashBringupAndJournal_3 : State :=
  { State.reset with regs := [(277121084, 1)] }
def wFlashBringupAndJournal_4 : State :=
  { State.reset with regs := [(277055548, 1), (278366268, 1)], flm.tries := [47] }
def wFlashBringupAndJournal_8 : State :=
  { State.reset with flm.jopen := [zJRec] }
def wFlashBringupAndJournal_9 : State :=
  { State.reset with flm.jprog := [[{ zJRec with typ := 1, key := 3, new := 1, old := 8, stamp := 3 }], [{ zJRec with typ := 19, key := 4, new := 20, old := 3 }, { zJRec with typ := 20, key := 21, new := 4, old := 21, stamp := 2 }]] }
def wFlashBringupAndJournal_10 : State :=
  { State.reset with flm.jprog := [[{ zJRec with typ := 2, key := 4096, new := 2, old := 19, stamp := 3 }]] }
def wFlashBringupAndJournal_12 : State :=
  { State.reset with regs := [(278399008, 2)], flm.winPages := 65536 }
def wFlashBringupAndJournal_13 : State :=
  { State.reset with flm.ckpt := (some 3) }
def wFlashBringupAndJournal_14 : State :=
  { State.reset with flm.ckpt := (some 7) }
def wFlashBringupAndJournal_15 : State :=
  { State.reset with flm.luns := [(293, { zLunRec with geom := { zGeom with spare := 3, pages := 64, blocks := 19 }, fails := 4096 })] }
def wFlashBringupAndJournal_16 : State :=
  { State.reset with flm.luns := [(0, { zLunRec with geom := { zGeom with spare := 7, pages := 8, blocks := 3, qlc := true }, fails := 64 })], flm.map := [(1, 19)] }
def wFlashBringupAndJournal_17 : State :=
  { State.reset with flm.luns := [(4095, { zLunRec with geom := { zGeom with spare := 5, blocks := 4096, qlc := true } })] }
def wFlashBringupAndJournal_18 : State :=
  { State.reset with flm.luns := [(8, { zLunRec with geom := { zGeom with pages := 5, blocks := 21 }, fails := 7 })] }
def wFlashBringupAndJournal_20 : State :=
  { State.reset with flm.mapWait := [(20, ([7], false))] }
def wFlashBringupAndJournal_21 : State :=
  { State.reset with flm.staged := [{ zFtlUnit with tun := 8, fua := 8, recorded := true, stamp := 2 }], flm.jprog := [[{ zJRec with typ := 1, key := 8, new := 8, stamp := 5 }]] }
theorem test_FlashBringupAndJournal :
    (wFlashBringupAndJournal_1.regsOk ∧ wFlashBringupAndJournal_1.get FLC.STATE (26 : FChan).val = chInit ∧ (7 : Nat) < 48 ∧ (7 : Nat) ≠ (26 : FChan).val ∧ wFlashBringupAndJournal_1.get FLC.STATE (7 : Nat) = chInit) ∧
    (wFlashBringupAndJournal_2.regsOk ∧ wFlashBringupAndJournal_2.get FLC.STATE (6 : FChan).val = chInit ∧ (1 : Nat) < 48 ∧ (1 : Nat) ≠ (6 : FChan).val ∧ wFlashBringupAndJournal_2.get FLC.STATE (1 : Nat) = chInit ∧ ({ zLunInfo with ok := true, spare := 2048 } : LunInfo).fit = true ∧ ({ zLunInfo with ok := true, spare := 2048 } : LunInfo).bad = [] ∧ (∀ e ∈ wFlashBringupAndJournal_2.flm.luns, e.1 / 64 ≠ (6 : FChan).val)) ∧
    (wFlashBringupAndJournal_3.get FLC.STATE (9 : FChan).val = chInit ∧ wFlashBringupAndJournal_3.flm.tries.contains (9 : FChan).val = false) ∧
    (wFlashBringupAndJournal_4.regsOk ∧ wFlashBringupAndJournal_4.get FLC.STATE (47 : FChan).val = chInit ∧ wFlashBringupAndJournal_4.flm.tries.contains (47 : FChan).val = true ∧ (7 : Nat) < 48 ∧ (7 : Nat) ≠ (47 : FChan).val ∧ wFlashBringupAndJournal_4.get FLC.STATE (7 : Nat) = chInit ∧ (∀ e ∈ wFlashBringupAndJournal_4.flm.luns, e.1 / 64 ≠ (47 : FChan).val)) ∧
    (State.reset.ftlGet FTL.MAP_CACHE_GIB ≠ 0 ∧ (∀ w ∈ State.reset.flm.mapWait, mapPageOf w.1 ≠ (0 : Nat))) ∧
    (State.reset.regsOk ∧ State.reset.mapChans = none ∧ (∀ w ∈ State.reset.flm.mapWait, mapPageOf w.1 ≠ (0 : Nat))) ∧
    (State.reset.regsOk) ∧
    (wFlashBringupAndJournal_8.flm.jopen ≠ []) ∧
    (wFlashBringupAndJournal_9.flm.jprog = [({ zJRec with typ := 1, key := 3, new := 1, old := 8, stamp := 3 } : JRec)] :: ([[{ zJRec with typ := 19, key := 4, new := 20, old := 3 }, { zJRec with typ := 20, key := 21, new := 4, old := 21, stamp := 2 }]] : List (List JRec)) ∧ ({ zJRec with typ := 1, key := 3, new := 1, old := 8, stamp := 3 } : JRec).typ = 1 ∧ wFlashBringupAndJournal_9.flm.staged = [] ∧ wFlashBringupAndJournal_9.flm.rakes = [] ∧ (∀ l, tget wFlashBringupAndJournal_9.flm.luns (({ zJRec with typ := 1, key := 3, new := 1, old := 8, stamp := 3 } : JRec).new / 2 ^ 26) = some l → l.lost = false)) ∧
    (wFlashBringupAndJournal_10.flm.jprog = [({ zJRec with typ := 2, key := 4096, new := 2, old := 19, stamp := 3 } : JRec)] :: ([] : List (List JRec)) ∧ ({ zJRec with typ := 2, key := 4096, new := 2, old := 19, stamp := 3 } : JRec).typ = 2 ∧ wFlashBringupAndJournal_10.flm.staged = [] ∧ wFlashBringupAndJournal_10.flm.rakes = [] ∧ (∀ l, tget wFlashBringupAndJournal_10.flm.luns (({ zJRec with typ := 2, key := 4096, new := 2, old := 19, stamp := 3 } : JRec).new / 2 ^ 26) = some l → l.lost = false)) ∧
    (wFlashBringupAndJournal_12.flm.ckpt = none ∧ wFlashBringupAndJournal_12.flashTakes = true ∧ wFlashBringupAndJournal_12.ftlGet FTL.CKPT_JOURNAL_MIB * 64 ≤ wFlashBringupAndJournal_12.flm.winPages) ∧
    (wFlashBringupAndJournal_13.regsOk ∧ wFlashBringupAndJournal_13.flm.ckpt = some (3 : Nat) ∧ wFlashBringupAndJournal_13.nvs.image.dev = none) ∧
    (wFlashBringupAndJournal_14.regsOk ∧ wFlashBringupAndJournal_14.flm.ckpt = some (7 : Nat)) ∧
    (wFlashBringupAndJournal_15.regsOk ∧ tget wFlashBringupAndJournal_15.flm.luns (293 : BitVec 12).toNat = some ({ zLunRec with geom := { zGeom with spare := 3, pages := 64, blocks := 19 }, fails := 4096 } : LunRec) ∧ ({ zLunRec with geom := { zGeom with spare := 3, pages := 64, blocks := 19 }, fails := 4096 } : LunRec).lost = false ∧ ({ zLunRec with geom := { zGeom with spare := 3, pages := 64, blocks := 19 }, fails := 4096 } : LunRec).excluded = false) ∧
    (wFlashBringupAndJournal_16.regsOk ∧ tget wFlashBringupAndJournal_16.flm.luns (0 : BitVec 12).toNat = some ({ zLunRec with geom := { zGeom with spare := 7, pages := 8, blocks := 3, qlc := true }, fails := 64 } : LunRec) ∧ ({ zLunRec with geom := { zGeom with spare := 7, pages := 8, blocks := 3, qlc := true }, fails := 64 } : LunRec).lost = false ∧ ({ zLunRec with geom := { zGeom with spare := 7, pages := 8, blocks := 3, qlc := true }, fails := 64 } : LunRec).excluded = false ∧ wFlashBringupAndJournal_16.flm.map = [((1 : Nat), (19 : Nat))] ∧ (19 : Nat) / 2 ^ 26 = (0 : BitVec 12).toNat ∧ (wFlashBringupAndJournal_16.blk (wFlashBringupAndJournal_16.fuaBlk (19 : Nat))).stripe = none ∧ wFlashBringupAndJournal_16.fetchable (1 : Nat) = false) ∧
    (wFlashBringupAndJournal_17.regsOk ∧ tget wFlashBringupAndJournal_17.flm.luns (4095 : BitVec 12).toNat = some ({ zLunRec with geom := { zGeom with spare := 5, blocks := 4096, qlc := true } } : LunRec) ∧ ({ zLunRec with geom := { zGeom with spare := 5, blocks := 4096, qlc := true } } : LunRec).fails + 1 < 8) ∧
    (wFlashBringupAndJournal_18.regsOk ∧ tget wFlashBringupAndJournal_18.flm.luns (8 : BitVec 12).toNat = some ({ zLunRec with geom := { zGeom with pages := 5, blocks := 21 }, fails := 7 } : LunRec) ∧ ({ zLunRec with geom := { zGeom with pages := 5, blocks := 21 }, fails := 7 } : LunRec).fails = 7 ∧ ({ zLunRec with geom := { zGeom with pages := 5, blocks := 21 }, fails := 7 } : LunRec).lost = false ∧ ({ zLunRec with geom := { zGeom with pages := 5, blocks := 21 }, fails := 7 } : LunRec).excluded = false) ∧
    (wFlashBringupAndJournal_20.flm.mapWait = [((20 : Nat), ([7] : List Nat), false)] ∧ mapPageOf (20 : Nat) = (0 : Nat)) ∧
    (wFlashBringupAndJournal_21.flm.jprog = [[({ zJRec with typ := 1, key := 8, new := 8, stamp := 5 } : JRec)]] ∧ ({ zJRec with typ := 1, key := 8, new := 8, stamp := 5 } : JRec).typ = 1 ∧ wFlashBringupAndJournal_21.flm.staged = [({ zFtlUnit with tun := 8, fua := 8, recorded := true, stamp := 2 } : FtlUnit)] ∧ ({ zFtlUnit with tun := 8, fua := 8, recorded := true, stamp := 2 } : FtlUnit).recorded = true ∧ ({ zFtlUnit with tun := 8, fua := 8, recorded := true, stamp := 2 } : FtlUnit).tun = ({ zJRec with typ := 1, key := 8, new := 8, stamp := 5 } : JRec).key ∧ ({ zFtlUnit with tun := 8, fua := 8, recorded := true, stamp := 2 } : FtlUnit).fua = ({ zJRec with typ := 1, key := 8, new := 8, stamp := 5 } : JRec).new ∧ ({ zFtlUnit with tun := 8, fua := 8, recorded := true, stamp := 2 } : FtlUnit).old = none ∧ wFlashBringupAndJournal_21.flm.rakes = [] ∧ (∀ l, tget wFlashBringupAndJournal_21.flm.luns (({ zJRec with typ := 1, key := 8, new := 8, stamp := 5 } : JRec).new / 2 ^ 26) = some l → l.lost = false)) :=
  ⟨(by simp only [regsOk_iff]; decide +kernel),
   (by simp only [regsOk_iff]; decide +kernel),
   (by decide +kernel),
   (by simp only [regsOk_iff]; decide +kernel),
   (by decide +kernel),
   (by simp only [regsOk_iff]; decide +kernel),
   (by simp only [regsOk_iff]; decide +kernel),
   (by decide +kernel),
   (by decide +kernel),
   (show _ by decide +kernel),
   (by decide +kernel),
   (by simp only [regsOk_iff]; decide +kernel),
   (by simp only [regsOk_iff]; decide +kernel),
   (by simp only [regsOk_iff]; decide +kernel),
   (by simp only [regsOk_iff]; decide +kernel),
   (by simp only [regsOk_iff]; decide +kernel),
   (by simp only [regsOk_iff]; decide +kernel),
   (by decide +kernel),
   (by decide +kernel)⟩

def wFlashProgramsAndRaking_1 : State :=
  { State.reset with flm.geom := (some { zGeom with pages := 20 }), flm.blks := [(522002, { zBlkRec with state := .opened, stripe := (some 0) })], flm.stripes := [(0, { zStripe with blocks := [522002, 70000], parity := 99, next := 20, prog := [7, 19, 4], parityRows := [20, 7], parities := [65536, 2] })], flm.staged := [{ zFtlUnit with fua := 490002098 }] }
def wFlashProgramsAndRaking_2 : State :=
  { State.reset with flm.geom := (some { zGeom with pages := 20 }), flm.blks := [(268369952, { zBlkRec with state := .parity, stripe := (some 0) })], flm.stripes := [(0, { zStripe with blocks := [70001, 70000], parity := 268369952, next := 8, prog := [48, 49], parityRows := [0, 1, 2], parities := [65536, 3] })], flm.staged := [{ zFtlUnit with tun := 5, fua := 68537714, programmed := true, stamp := 21, vals := [(0, { zSectorVal with poison := true })] }] }
def wFlashProgramsAndRaking_3 : State :=
  { State.reset with flm.blks := [(327680, { zBlkRec with state := .opened, stripe := (some 8) })], flm.stripes := [(8, { zStripe with blocks := [327680, 70000], parity := 99, next := 4, parityRows := [2, 4, 0], passed := [0, 4, 3] })], flm.staged := [{ zFtlUnit with fua := 335544370 }] }
def wFlashProgramsAndRaking_4 : State :=
  { State.reset with flm.stripes := [(19, { zStripe with parity := 65536, next := 1, prog := [4096, 100, 20], parityRows := [20, 1, 64], passed := [19, 3, 64] })] }
def wFlashProgramsAndRaking_5 : State :=
  { State.reset with regs := [(278399008, 2), (278399200, 40)], flm.luns := [(2048, { zLunRec with geom := { zGeom with spare := 9, pages := 20, blocks := 30 } })], flm.geom := (some { zGeom with spare := 9, pages := 20, blocks := 30 }), flm.blks := [(134217735, { zBlkRec with state := .closed })] }
def wFlashProgramsAndRaking_6 : State :=
  { State.reset with regs := [(278398978, 2), (278399008, 2), (278399200, 40)], flm.luns := [(1, { zLunRec with geom := { zGeom with spare := 9, pages := 20, blocks := 30 } })], flm.geom := (some { zGeom with spare := 9, pages := 20, blocks := 30 }), flm.blks := [(65541, { zBlkRec with state := .closed })], flm.victims := [65541, 9] }
def wFlashProgramsAndRaking_7 : State :=
  { State.reset with regs := [(278399008, 2)], flm.geom := (some { zGeom with pages := 20 }), flm.stripes := [(3, { zStripe with blocks := [70001, 70000], parity := 7, next := 5 })], flm.map := [(8, 1310770)], flm.rakes := [(8, 4096)] }
def wFlashProgramsAndRaking_8 : State :=
  { State.reset with regs := [(278399008, 2)], flm.geom := (some { zGeom with blocks := 300 }), flm.rakes := [(2, 2)] }
def wFlashProgramsAndRaking_9 : State :=
  { State.reset with flm.stripes := [(0, { zStripe with state := .closed })], flm.rakes := [(3, 100)] }
def wFlashProgramsAndRaking_10 : State :=
  { State.reset with regs := [(278399008, 2)], flm.blks := [(393220, { zBlkRec with state := .erasePending })] }
def wFlashProgramsAndRaking_11 : State :=
  { State.reset with flm.geom := (some { zGeom with pages := 20 }), flm.map := [(0, 67114034)] }
def wFlashProgramsAndRaking_12 : State :=
  { State.reset with flm.blks := [(249257639, { zBlkRec with state := .erasing })] }
def wFlashProgramsAndRaking_13 : State :=
  { State.reset with flm.blks := [(512017, { zBlkRec with state := .erasing })] }
def wFlashProgramsAndRaking_14 : State :=
  { State.reset with regs := [(278397057, 1)], flm.blks := [(131071, { zBlkRec with state := .opened })] }
def wFlashProgramsAndRaking_15 : State :=
  { State.reset with regs := [(278397057, 1)], flm.blks := [(206831624, { zBlkRec with state := .retired })] }
def wFlashProgramsAndRaking_16 : State :=
  { State.reset with regs := [(276826172, 2), (278399008, 2)], flm.stripes := [(5, { zStripe with blocks := [459264, 70001, 70002], parity := 70009, state := .closed, next := 7, prog := [65536, 19, 4096], parityRows := [8, 4, 8], passed := [70001, 70002] })], flm.closing := [5] }
def wFlashProgramsAndRaking_17 : State :=
  { State.reset with regs := [(276826172, 2), (278399008, 2)], flm.stripes := [(4096, { zStripe with blocks := [196624, 70001, 70002], parity := 70009, state := .closed, next := 3, prog := [3, 19, 0], parityRows := [64], passed := [70001, 70002] })], flm.closing := [4096] }
def wFlashProgramsAndRaking_18 : State :=
  { State.reset with regs := [(276826172, 2), (278399008, 2)], flm.blks := [(65541, { zBlkRec with state := .closed, suspect := true })], flm.stripes := [(2, { zStripe with blocks := [65541, 70001, 70002], parity := 70009, state := .closed, next := 64, parityRows := [4096], passed := [70001, 70002], parities := [70010] })], flm.closing := [2] }
def wFlashProgramsAndRaking_19 : State :=
  { State.reset with flm.luns := [(1, { zLunRec with geom := { zGeom with spare := 9, pages := 20, blocks := 30 } })], flm.geom := (some { zGeom with spare := 9, pages := 20, blocks := 30 }), flm.staged := [{ zFtlUnit with fua := 67108871 }], flm.reading := [(0, 67108941)] }
def wFlashProgramsAndRaking_20 : State :=
  { State.reset with flm.suspends := [(0, 100)] }
def wFlashProgramsAndRaking_21 : State :=
  { State.reset with regs := [(278399008, 2)], flm.luns := [(6, { zLunRec with geom := { zGeom with spare := 9, pages := 20, blocks := 30 } })], flm.geom := (some { zGeom with spare := 9, pages := 20, blocks := 30 }), flm.blks := [(393218, { zBlkRec with state := .closed, reads := 200000 })] }
def wFlashProgramsAndRaking_22 : State :=
  { State.reset with regs := [(278399008, 2)], flm.luns := [(1, { zLunRec with geom := { zGeom with spare := 9, pages := 20, blocks := 30 } })], flm.geom := (some { zGeom with spare := 9, pages := 20, blocks := 30 }), flm.blks := [(131071, { zBlkRec with state := .closed, reads := 200000 })] }
def wFlashProgramsAndRaking_23 : State :=
  { State.reset with regs := [(278399008, 2), (278399232, 0)], flm.luns := [(3, { zLunRec with geom := { zGeom with spare := 9, pages := 20, blocks := 30 } })], flm.geom := (some { zGeom with spare := 9, pages := 20, blocks := 30 }), flm.blks := [(196613, { zBlkRec with state := .closed, wear := 2 }), (196614, { zBlkRec with wear := 90 })] }
def wFlashProgramsAndRaking_25 : State :=
  { State.reset with flm.geom := (some { zGeom with pages := 20 }), flm.reading := [(3, 274831769280)] }
theorem test_FlashProgramsAndRaking :
    ((wFlashProgramsAndRaking_1.blk (blkKey (7 : BitVec 12).toNat (63250 : BitVec 16).toNat)).stripe = some (0 : Nat) ∧ wFlashProgramsAndRaking_1.stripe (0 : Nat) = some ({ zStripe with blocks := [522002, 70000], parity := 99, next := 20, prog := [7, 19, 4], parityRows := [20, 7], parities := [65536, 2] } : Stripe) ∧ ({ zStripe with blocks := [522002, 70000], parity := 99, next := 20, prog := [7, 19, 4], parityRows := [20, 7], parities := [65536, 2] } : Stripe).parity ≠ blkKey (7 : BitVec 12).toNat (63250 : BitVec 16).toNat ∧ (∃ u ∈ wFlashProgramsAndRaking_1.flm.staged, wFlashProgramsAndRaking_1.fuaBlk u.fua = blkKey (7 : BitVec 12).toNat (63250 : BitVec 16).toNat ∧ u.programmed = false) ∧ (∀ u ∈ wFlashProgramsAndRaking_1.flm.staged, wFlashProgramsAndRaking_1.fuaBlk u.fua = blkKey (7 : BitVec 12).toNat (63250 : BitVec 16).toNat → u.programmed = false → wFlashProgramsAndRaking_1.fuaPage u.fua = (3 : Nat)) ∧ wFlashProgramsAndRaking_1.flm.waiting = []) ∧
    ((wFlashProgramsAndRaking_2.blk (blkKey (4095 : BitVec 12).toNat (32 : BitVec 16).toNat)).stripe = some (0 : Nat) ∧ wFlashProgramsAndRaking_2.stripe (0 : Nat) = some ({ zStripe with blocks := [70001, 70000], parity := 268369952, next := 8, prog := [48, 49], parityRows := [0, 1, 2], parities := [65536, 3] } : Stripe) ∧ ({ zStripe with blocks := [70001, 70000], parity := 268369952, next := 8, prog := [48, 49], parityRows := [0, 1, 2], parities := [65536, 3] } : Stripe).parity = blkKey (4095 : BitVec 12).toNat (32 : BitVec 16).toNat ∧ ({ zStripe with blocks := [70001, 70000], parity := 268369952, next := 8, prog := [48, 49], parityRows := [0, 1, 2], parities := [65536, 3] } : Stripe).ready wFlashProgramsAndRaking_2.pages = some (3 : Nat) ∧ wFlashProgramsAndRaking_2.flm.staged = [({ zFtlUnit with tun := 5, fua := 68537714, programmed := true, stamp := 21, vals := [(0, { zSectorVal with poison := true })] } : FtlUnit)] ∧ ({ zFtlUnit with tun := 5, fua := 68537714, programmed := true, stamp := 21, vals := [(0, { zSectorVal with poison := true })] } : FtlUnit).programmed = true ∧ ({ zFtlUnit with tun := 5, fua := 68537714, programmed := true, stamp := 21, vals := [(0, { zSectorVal with poison := true })] } : FtlUnit).recorded = false ∧ ({ zStripe with blocks := [70001, 70000], parity := 268369952, next := 8, prog := [48, 49], parityRows := [0, 1, 2], parities := [65536, 3] } : Stripe).blocks.contains (wFlashProgramsAndRaking_2.fuaBlk ({ zFtlUnit with tun := 5, fua := 68537714, programmed := true, stamp := 21, vals := [(0, { zSectorVal with poison := true })] } : FtlUnit).fua) = true ∧ wFlashProgramsAndRaking_2.fuaPage ({ zFtlUnit with tun := 5, fua := 68537714, programmed := true, stamp := 21, vals := [(0, { zSectorVal with poison := true })] } : FtlUnit).fua = (3 : Nat) ∧ wFlashProgramsAndRaking_2.flm.jopen.length < 680 ∧ wFlashProgramsAndRaking_2.parityRoom ({ zStripe with blocks := [70001, 70000], parity := 268369952, next := 8, prog := [48, 49], parityRows := [0, 1, 2], parities := [65536, 3] } : Stripe) = true ∧ wFlashProgramsAndRaking_2.flm.waiting = []) ∧
    (wFlashProgramsAndRaking_3.regsOk ∧ (wFlashProgramsAndRaking_3.blk (blkKey (5 : BitVec 12).toNat (0 : BitVec 16).toNat)).stripe = some (8 : Nat) ∧ wFlashProgramsAndRaking_3.stripe (8 : Nat) = some ({ zStripe with blocks := [327680, 70000], parity := 99, next := 4, parityRows := [2, 4, 0], passed := [0, 4, 3] } : Stripe) ∧ ({ zStripe with blocks := [327680, 70000], parity := 99, next := 4, parityRows := [2, 4, 0], passed := [0, 4, 3] } : Stripe).parity ≠ blkKey (5 : BitVec 12).toNat (0 : BitVec 16).toNat ∧ (∃ u ∈ wFlashProgramsAndRaking_3.flm.staged, wFlashProgramsAndRaking_3.fuaBlk u.fua = blkKey (5 : BitVec 12).toNat (0 : BitVec 16).toNat ∧ u.programmed = false)) ∧
    (wFlashProgramsAndRaking_4.stripe (19 : Nat) = some ({ zStripe with parity := 65536, next := 1, prog := [4096, 100, 20], parityRows := [20, 1, 64], passed := [19, 3, 64] } : Stripe) ∧ ({ zStripe with parity := 65536, next := 1, prog := [4096, 100, 20], parityRows := [20, 1, 64], passed := [19, 3, 64] } : Stripe).state = .opened ∧ ({ zStripe with parity := 65536, next := 1, prog := [4096, 100, 20], parityRows := [20, 1, 64], passed := [19, 3, 64] } : Stripe).next ≠ 0 ∧ ({ zStripe with parity := 65536, next := 1, prog := [4096, 100, 20], parityRows := [20, 1, 64], passed := [19, 3, 64] } : Stripe).parityRows.length ≠ wFlashProgramsAndRaking_4.pages ∧ (∀ u ∈ wFlashProgramsAndRaking_4.flm.staged, u.programmed = true)) ∧
    (wFlashProgramsAndRaking_5.rakesOn = true ∧ wFlashProgramsAndRaking_5.lunUsed (2048 : BitVec 12).toNat = true ∧ thas wFlashProgramsAndRaking_5.flm.rakes (2048 : BitVec 12).toNat = false ∧ wFlashProgramsAndRaking_5.freeBlks (2048 : BitVec 12).toNat < wFlashProgramsAndRaking_5.ftlGet FTL.RAKE_LO ∧ wFlashProgramsAndRaking_5.verifyFirst = false ∧ (wFlashProgramsAndRaking_5.ftlGet FTL.RAKE_EN = 1 ∨ wFlashProgramsAndRaking_5.freeBlks (2048 : BitVec 12).toNat < wFlashProgramsAndRaking_5.ftlGet FTL.RAKE_URGENT) ∧ wFlashProgramsAndRaking_5.ftlGet FTL.RAKE_POLICY = 0 ∧ wFlashProgramsAndRaking_5.rakeable (2048 : BitVec 12).toNat ≠ [] ∧ (∀ k ∈ wFlashProgramsAndRaking_5.rakeable (2048 : BitVec 12).toNat, (wFlashProgramsAndRaking_5.validUnits k).length < 2 ^ 64)) ∧
    (wFlashProgramsAndRaking_6.rakesOn = true ∧ wFlashProgramsAndRaking_6.lunUsed (1 : BitVec 12).toNat = true ∧ thas wFlashProgramsAndRaking_6.flm.rakes (1 : BitVec 12).toNat = false ∧ wFlashProgramsAndRaking_6.freeBlks (1 : BitVec 12).toNat < wFlashProgramsAndRaking_6.ftlGet FTL.RAKE_LO ∧ wFlashProgramsAndRaking_6.verifyFirst = false ∧ (wFlashProgramsAndRaking_6.ftlGet FTL.RAKE_EN = 1 ∨ wFlashProgramsAndRaking_6.freeBlks (1 : BitVec 12).toNat < wFlashProgramsAndRaking_6.ftlGet FTL.RAKE_URGENT) ∧ wFlashProgramsAndRaking_6.ftlGet FTL.RAKE_POLICY = 2 ∧ wFlashProgramsAndRaking_6.flm.victims = (65541 : Nat) :: ([9] : List Nat) ∧ (65541 : Nat) ∈ wFlashProgramsAndRaking_6.rakeable (1 : BitVec 12).toNat) ∧
    (wFlashProgramsAndRaking_7.flm.rakes = [((8 : BitVec 12).toNat, (4096 : Nat))] ∧ wFlashProgramsAndRaking_7.flashTakes = true ∧ wFlashProgramsAndRaking_7.verifyFirst = false ∧ wFlashProgramsAndRaking_7.freeBlks (8 : BitVec 12).toNat ≤ wFlashProgramsAndRaking_7.ftlGet FTL.RAKE_HI ∧ wFlashProgramsAndRaking_7.flm.staged = [] ∧ wFlashProgramsAndRaking_7.validUnits (4096 : Nat) = [((8 : Nat), (1310770 : Nat))] ∧ wFlashProgramsAndRaking_7.currentStripe = some ((3 : Nat), ({ zStripe with blocks := [70001, 70000], parity := 7, next := 5 } : Stripe)) ∧ wFlashProgramsAndRaking_7.rowWaits = false ∧ wFlashProgramsAndRaking_7.flm.waiting = []) ∧
    (tget wFlashProgramsAndRaking_8.flm.rakes (2 : BitVec 12).toNat = some (2 : Nat) ∧ wFlashProgramsAndRaking_8.flashTakes = true ∧ wFlashProgramsAndRaking_8.verifyFirst = false ∧ wFlashProgramsAndRaking_8.ftlGet FTL.RAKE_HI < wFlashProgramsAndRaking_8.freeBlks (2 : BitVec 12).toNat ∧ (wFlashProgramsAndRaking_8.blk (2 : Nat)).suspect = false ∧ (wFlashProgramsAndRaking_8.blk (2 : Nat)).state ≠ .retired ∧ wFlashProgramsAndRaking_8.flm.rakeWait = []) ∧
    (tget wFlashProgramsAndRaking_9.flm.rakes (3 : BitVec 12).toNat = some (100 : Nat) ∧ wFlashProgramsAndRaking_9.verifyFirst = true ∧ (wFlashProgramsAndRaking_9.blk (100 : Nat)).suspect = false ∧ (wFlashProgramsAndRaking_9.blk (100 : Nat)).state ≠ .retired) ∧
    ((wFlashProgramsAndRaking_10.blk (blkKey (6 : BitVec 12).toNat (4 : BitVec 16).toNat)).state = .erasePending ∧ wFlashProgramsAndRaking_10.validUnits (blkKey (6 : BitVec 12).toNat (4 : BitVec 16).toNat) = [] ∧ wFlashProgramsAndRaking_10.flashTakes = true ∧ (∀ e ∈ wFlashProgramsAndRaking_10.flm.reading, wFlashProgramsAndRaking_10.fuaBlk e.2 ≠ blkKey (6 : BitVec 12).toNat (4 : BitVec 16).toNat)) ∧
    (wFlashProgramsAndRaking_11.validUnits (blkKey (1 : BitVec 12).toNat (16 : BitVec 16).toNat) ≠ []) ∧
    ((wFlashProgramsAndRaking_12.blk (blkKey (3803 : BitVec 12).toNat (24231 : BitVec 16).toNat)).state = .erasing ∧ (wFlashProgramsAndRaking_12.blk (blkKey (3803 : BitVec 12).toNat (24231 : BitVec 16).toNat)).wear + (if wFlashProgramsAndRaking_12.slcUsed (blkKey (3803 : BitVec 12).toNat (24231 : BitVec 16).toNat) then 1 else 4) < wFlashProgramsAndRaking_12.ftlGet FTL.PE_LIMIT * 4 ∧ wFlashProgramsAndRaking_12.flm.jopen.length < 680 ∧ wFlashProgramsAndRaking_12.flm.waiting = []) ∧
    (wFlashProgramsAndRaking_13.regsOk ∧ (wFlashProgramsAndRaking_13.blk (blkKey (7 : BitVec 12).toNat (53265 : BitVec 16).toNat)).state = .erasing) ∧
    (wFlashProgramsAndRaking_14.regsOk ∧ wFlashProgramsAndRaking_14.admits ((Requester.warden) : Requester) ftlPage ∧ wFlashProgramsAndRaking_14.takes ftlPage ∧ wFlashProgramsAndRaking_14.flm.victims.length < 256 ∧ ((wFlashProgramsAndRaking_14.blk (blkKey (1 : BitVec 12).toNat (65535 : BitVec 16).toNat)).state = .closed ∨ (wFlashProgramsAndRaking_14.blk (blkKey (1 : BitVec 12).toNat (65535 : BitVec 16).toNat)).state = .opened)) ∧
    (wFlashProgramsAndRaking_15.regsOk ∧ wFlashProgramsAndRaking_15.admits ((Requester.warden) : Requester) ftlPage ∧ wFlashProgramsAndRaking_15.takes ftlPage ∧ (wFlashProgramsAndRaking_15.flm.victims.length = 256 ∨ (wFlashProgramsAndRaking_15.blk (blkKey (3156 : BitVec 12).toNat (8 : BitVec 16).toNat)).state = .reserve ∨ (wFlashProgramsAndRaking_15.blk (blkKey (3156 : BitVec 12).toNat (8 : BitVec 16).toNat)).state = .parity ∨ (wFlashProgramsAndRaking_15.blk (blkKey (3156 : BitVec 12).toNat (8 : BitVec 16).toNat)).state = .metadata ∨ (wFlashProgramsAndRaking_15.blk (blkKey (3156 : BitVec 12).toNat (8 : BitVec 16).toNat)).state = .retired)) ∧
    (wFlashProgramsAndRaking_16.stripe (5 : Nat) = some ({ zStripe with blocks := [459264, 70001, 70002], parity := 70009, state := .closed, next := 7, prog := [65536, 19, 4096], parityRows := [8, 4, 8], passed := [70001, 70002] } : Stripe) ∧ ({ zStripe with blocks := [459264, 70001, 70002], parity := 70009, state := .closed, next := 7, prog := [65536, 19, 4096], parityRows := [8, 4, 8], passed := [70001, 70002] } : Stripe).state = .closed ∧ wFlashProgramsAndRaking_16.verifies (5 : Nat) ((7 : BitVec 12).toNat / 64) = true ∧ ({ zStripe with blocks := [459264, 70001, 70002], parity := 70009, state := .closed, next := 7, prog := [65536, 19, 4096], parityRows := [8, 4, 8], passed := [70001, 70002] } : Stripe).blocks.contains (blkKey (7 : BitVec 12).toNat (512 : BitVec 16).toNat) = true ∧ (0 : BitVec 16).toNat ≤ wFlashProgramsAndRaking_16.ftlGet FTL.VERIFY_MAX ∧ ({ zStripe with blocks := [459264, 70001, 70002], parity := 70009, state := .closed, next := 7, prog := [65536, 19, 4096], parityRows := [8, 4, 8], passed := [70001, 70002] } : Stripe).passed.contains (blkKey (7 : BitVec 12).toNat (512 : BitVec 16).toNat) = false ∧ (∀ k ∈ ({ zStripe with blocks := [459264, 70001, 70002], parity := 70009, state := .closed, next := 7, prog := [65536, 19, 4096], parityRows := [8, 4, 8], passed := [70001, 70002] } : Stripe).blocks, k = blkKey (7 : BitVec 12).toNat (512 : BitVec 16).toNat ∨ ({ zStripe with blocks := [459264, 70001, 70002], parity := 70009, state := .closed, next := 7, prog := [65536, 19, 4096], parityRows := [8, 4, 8], passed := [70001, 70002] } : Stripe).passed.contains k = true)) ∧
    (wFlashProgramsAndRaking_17.stripe (4096 : Nat) = some ({ zStripe with blocks := [196624, 70001, 70002], parity := 70009, state := .closed, next := 3, prog := [3, 19, 0], parityRows := [64], passed := [70001, 70002] } : Stripe) ∧ ({ zStripe with blocks := [196624, 70001, 70002], parity := 70009, state := .closed, next := 3, prog := [3, 19, 0], parityRows := [64], passed := [70001, 70002] } : Stripe).state = .closed ∧ wFlashProgramsAndRaking_17.verifies (4096 : Nat) ((3 : BitVec 12).toNat / 64) = true ∧ wFlashProgramsAndRaking_17.pagePasses (none : Option (BitVec 16)) = false ∧ ({ zStripe with blocks := [196624, 70001, 70002], parity := 70009, state := .closed, next := 3, prog := [3, 19, 0], parityRows := [64], passed := [70001, 70002] } : Stripe).blocks.contains (blkKey (3 : BitVec 12).toNat (16 : BitVec 16).toNat) = true ∧ (wFlashProgramsAndRaking_17.blk (blkKey (3 : BitVec 12).toNat (16 : BitVec 16).toNat)).suspect = false ∧ thas wFlashProgramsAndRaking_17.flm.rakes (3 : BitVec 12).toNat = false) ∧
    (wFlashProgramsAndRaking_18.regsOk ∧ wFlashProgramsAndRaking_18.stripe (2 : Nat) = some ({ zStripe with blocks := [65541, 70001, 70002], parity := 70009, state := .closed, next := 64, parityRows := [4096], passed := [70001, 70002], parities := [70010] } : Stripe) ∧ ({ zStripe with blocks := [65541, 70001, 70002], parity := 70009, state := .closed, next := 64, parityRows := [4096], passed := [70001, 70002], parities := [70010] } : Stripe).state = .closed ∧ wFlashProgramsAndRaking_18.verifies (2 : Nat) ((1 : BitVec 12).toNat / 64) = true ∧ wFlashProgramsAndRaking_18.pagePasses (none : Option (BitVec 16)) = false ∧ ({ zStripe with blocks := [65541, 70001, 70002], parity := 70009, state := .closed, next := 64, parityRows := [4096], passed := [70001, 70002], parities := [70010] } : Stripe).blocks.contains (blkKey (1 : BitVec 12).toNat (5 : BitVec 16).toNat) = true ∧ (wFlashProgramsAndRaking_18.blk (blkKey (1 : BitVec 12).toNat (5 : BitVec 16).toNat)).suspect = true ∧ (wFlashProgramsAndRaking_18.blk (blkKey (1 : BitVec 12).toNat (5 : BitVec 16).toNat)).state ≠ .retired) ∧
    (wFlashProgramsAndRaking_19.lunUsed (1 : BitVec 12).toNat = true ∧ (wFlashProgramsAndRaking_19.flm.reading.any fun e => e.2 / 2 ^ 26 == (1 : BitVec 12).toNat) = true ∧ wFlashProgramsAndRaking_19.lunBusy (1 : BitVec 12).toNat = true ∧ (tget wFlashProgramsAndRaking_19.flm.suspends (1 : BitVec 12).toNat).getD 0 < 4) ∧
    (4 ≤ (tget wFlashProgramsAndRaking_20.flm.suspends (0 : BitVec 12).toNat).getD 0) ∧
    ((wFlashProgramsAndRaking_21.blk (blkKey (6 : BitVec 12).toNat (2 : BitVec 16).toNat)).state = .closed ∧ wFlashProgramsAndRaking_21.flashTakes = true ∧ wFlashProgramsAndRaking_21.lunUsed (6 : BitVec 12).toNat = true ∧ wFlashProgramsAndRaking_21.scrubDue (wFlashProgramsAndRaking_21.blk (blkKey (6 : BitVec 12).toNat (2 : BitVec 16).toNat)) = true ∧ wFlashProgramsAndRaking_21.pagePasses (none : Option (BitVec 16)) = false ∧ wFlashProgramsAndRaking_21.flmState ≠ flmReadOnly ∧ thas wFlashProgramsAndRaking_21.flm.rakes (6 : BitVec 12).toNat = false) ∧
    ((wFlashProgramsAndRaking_22.blk (blkKey (1 : BitVec 12).toNat (65535 : BitVec 16).toNat)).state = .closed ∧ wFlashProgramsAndRaking_22.flashTakes = true ∧ wFlashProgramsAndRaking_22.lunUsed (1 : BitVec 12).toNat = true ∧ wFlashProgramsAndRaking_22.scrubDue (wFlashProgramsAndRaking_22.blk (blkKey (1 : BitVec 12).toNat (65535 : BitVec 16).toNat)) = true ∧ (0 : BitVec 16).toNat ≤ wFlashProgramsAndRaking_22.ftlGet FTL.VERIFY_MAX) ∧
    (wFlashProgramsAndRaking_23.ftlGet FTL.STATIC_WL_EN = 1 ∧ wFlashProgramsAndRaking_23.flashTakes = true ∧ (wFlashProgramsAndRaking_23.flm.blks.filter fun e => e.2.state == .closed && wFlashProgramsAndRaking_23.lunUsed (blkGlun e.1)) = [((196613, { zBlkRec with state := .closed, wear := 2 }) : Nat × BlkRec)] ∧ (wFlashProgramsAndRaking_23.flm.blks.filter fun e => e.2.state == .free && wFlashProgramsAndRaking_23.lunUsed (blkGlun e.1)) = [((196614, { zBlkRec with wear := 90 }) : Nat × BlkRec)] ∧ wFlashProgramsAndRaking_23.ftlGet FTL.WEAR_SPREAD * 4 < ((196614, { zBlkRec with wear := 90 }) : Nat × BlkRec).2.wear - ((196613, { zBlkRec with state := .closed, wear := 2 }) : Nat × BlkRec).2.wear ∧ thas wFlashProgramsAndRaking_23.flm.rakes (blkGlun ((196613, { zBlkRec with state := .closed, wear := 2 }) : Nat × BlkRec).1) = false) ∧
    (State.reset.scrubDue (State.reset.blk (blkKey (0 : BitVec 12).toNat (0 : BitVec 16).toNat)) = false) ∧
    (((3 : Nat), wFlashProgramsAndRaking_25.fua (blkKey (4095 : BitVec 12).toNat (65535 : BitVec 16).toNat) 0 0) ∈ wFlashProgramsAndRaking_25.flm.reading ∧ wFlashProgramsAndRaking_25.fuaBlk (wFlashProgramsAndRaking_25.fua (blkKey (4095 : BitVec 12).toNat (65535 : BitVec 16).toNat) 0 0) = blkKey (4095 : BitVec 12).toNat (65535 : BitVec 16).toNat) ∧
    (State.reset.rakesOn = false) :=
  ⟨(by decide +kernel),
   (by decide +kernel),
   (by simp only [regsOk_iff]; decide +kernel),
   (by decide +kernel),
   (by decide +kernel),
   (show _ by decide +kernel),
   (by decide +kernel),
   (by decide +kernel),
   (show _ by decide +kernel),
   (by decide +kernel),
   (by decide +kernel),
   (show _ by decide +kernel),
   (by simp only [regsOk_iff]; decide +kernel),
   (by simp only [regsOk_iff, State.takes, State.admits, State.wayClear]; decide +kernel),
   ⟨by rw [regsOk_iff]; decide +kernel, by simp only [State.admits, State.wayClear]; decide +kernel, by simp only [State.takes]; decide +kernel, by decide +kernel⟩,
   (by decide +kernel),
   (by decide +kernel),
   (by simp only [regsOk_iff]; decide +kernel),
   (by decide +kernel),
   (by decide +kernel),
   (show _ by decide +kernel),
   (by decide +kernel),
   (by decide +kernel),
   (show _ by decide +kernel),
   (by decide +kernel),
   (by decide +kernel)⟩

def wFlashReadsAndService_1 : State :=
  { State.reset with tier.blocks := [(0, { zTBlock with leaveReq := true, charge := (some 64), pins := [19, 1], units := [(2, { zTUnit with present := true, dirty := true, stamp := 3, wb := (some (8, [])), cls := 7 }), (3, { zTUnit with present := true, dirty := true, stamp := 4, cls := 5 })], filling := [3], region := 20, used := true })] }
def wFlashReadsAndService_2 : State :=
  { State.reset with regs := [(278399008, 2)], flm.geom := (some { zGeom with pages := 1 }), flm.blks := [(0, { zBlkRec with stripe := (some 3) })], flm.stripes := [(3, { zStripe with blocks := [70001, 70000], parity := 7, next := 5 })], flm.map := [(5, 0)], flm.folds := [(5, 12468609545999559925)] }
def wFlashReadsAndService_3 : State :=
  { State.reset with regs := [(293603388, 2)] }
def wFlashReadsAndService_4 : State :=
  { State.reset with flm.map := [(2, 0)] }
def wFlashReadsAndService_6 : State :=
  { State.reset with flm.blks := [(92602376, { zBlkRec with state := .reserve })] }
def wFlashReadsAndService_7 : State :=
  { State.reset with regs := [(278399008, 2)] }
def wFlashReadsAndService_8 : State :=
  { State.reset with regs := [(278397057, 1), (278399008, 4), (278399424, 1)] }
def wFlashReadsAndService_9 : State :=
  { State.reset with regs := [(278397057, 1)] }
def wFlashReadsAndService_10 : State := (State.reset.put FTL.FLM_STATE flmReplay 48).put FTL.SPARE_BLOCKS 1 48
def wFlashReadsAndService_11 : State :=
  { State.reset with regs := [(278399008, 1)], flm.roStored := true }
theorem test_FlashReadsAndService :
    (wFlashReadsAndService_1.regsOk ∧ wFlashReadsAndService_1.flm.unreadable.contains (3 : Nat) = false ∧ (wFlashReadsAndService_1.mapOf (3 : Nat) = unwritten ∨ wFlashReadsAndService_1.foldOk (3 : Nat) (0 : Nat) = true) ∧ wFlashReadsAndService_1.block ((3 : Nat) / 16) = some ({ zTBlock with leaveReq := true, charge := (some 64), pins := [19, 1], units := [(2, { zTUnit with present := true, dirty := true, stamp := 3, wb := (some (8, [])), cls := 7 }), (3, { zTUnit with present := true, dirty := true, stamp := 4, cls := 5 })], filling := [3], region := 20, used := true } : TBlock) ∧ ({ zTBlock with leaveReq := true, charge := (some 64), pins := [19, 1], units := [(2, { zTUnit with present := true, dirty := true, stamp := 3, wb := (some (8, [])), cls := 7 }), (3, { zTUnit with present := true, dirty := true, stamp := 4, cls := 5 })], filling := [3], region := 20, used := true } : TBlock).filling.contains ((3 : Nat) % 16) = true ∧ wFlashReadsAndService_1.unitReads ((3 : Nat) / 16) ((3 : Nat) % 16) = []) ∧
    (wFlashReadsAndService_2.regsOk ∧ wFlashReadsAndService_2.foldOk (5 : Nat) (5 : Nat) = true ∧ wFlashReadsAndService_2.flm.unreadable.contains (5 : Nat) = false ∧ wFlashReadsAndService_2.block ((5 : Nat) / 16) = none ∧ wFlashReadsAndService_2.unitReads ((5 : Nat) / 16) ((5 : Nat) % 16) = [] ∧ wFlashReadsAndService_2.mapOf (5 : Nat) ≠ unwritten ∧ wFlashReadsAndService_2.flashTakes = true ∧ wFlashReadsAndService_2.parityHeld (wFlashReadsAndService_2.mapOf (5 : Nat)) = true ∧ wFlashReadsAndService_2.currentStripe = some ((3 : Nat), ({ zStripe with blocks := [70001, 70000], parity := 7, next := 5 } : Stripe)) ∧ wFlashReadsAndService_2.rowWaits = false) ∧
    (wFlashReadsAndService_3.regsOk ∧ wFlashReadsAndService_3.flm.unreadable.contains (0 : Nat) = false ∧ wFlashReadsAndService_3.block ((0 : Nat) / 16) = none ∧ wFlashReadsAndService_3.unitReads ((0 : Nat) / 16) ((0 : Nat) % 16) = [] ∧ wFlashReadsAndService_3.fetchable (0 : Nat) = true ∧ ((List.replicate 64 3) : List Sector).length = 64) ∧
    (wFlashReadsAndService_4.regsOk ∧ wFlashReadsAndService_4.block ((2 : Nat) / 16) = none ∧ wFlashReadsAndService_4.mapOf (2 : Nat) ≠ unwritten ∧ wFlashReadsAndService_4.unitReads ((2 : Nat) / 16) ((2 : Nat) % 16) = []) ∧
    (wFlashReadsAndService_6.regsOk ∧ (wFlashReadsAndService_6.blk (blkKey (1413 : BitVec 12).toNat (8 : BitVec 16).toNat)).state = .reserve ∧ wFlashReadsAndService_6.ftlGet FTL.SPARE_BLOCKS = 0) ∧
    (wFlashReadsAndService_7.regsOk ∧ (wFlashReadsAndService_7.flmState = flmNormal ∨ wFlashReadsAndService_7.flmState = flmLowSpare) ∧ wFlashReadsAndService_7.ftlGet FTL.SPARE_BLOCKS ≤ wFlashReadsAndService_7.roMin) ∧
    (wFlashReadsAndService_8.regsOk ∧ wFlashReadsAndService_8.commands ((Requester.warden) : Requester) ftlPage ∧ wFlashReadsAndService_8.flmState = flmReadOnly ∧ 2 * wFlashReadsAndService_8.roMin < wFlashReadsAndService_8.ftlGet FTL.SPARE_BLOCKS) ∧
    (wFlashReadsAndService_9.regsOk ∧ wFlashReadsAndService_9.commands ((Requester.warden) : Requester) ftlPage ∧ wFlashReadsAndService_9.ftlGet FTL.SPARE_BLOCKS ≤ 2 * wFlashReadsAndService_9.roMin) ∧
    (wFlashReadsAndService_10.regsOk ∧ wFlashReadsAndService_10.flmState = flmReplay ∧ wFlashReadsAndService_10.flm.roStored = false ∧ wFlashReadsAndService_10.roMin < wFlashReadsAndService_10.replayed.ftlGet FTL.SPARE_BLOCKS) ∧
    (wFlashReadsAndService_11.regsOk ∧ wFlashReadsAndService_11.flmState = flmReplay ∧ wFlashReadsAndService_11.flm.roStored = true) ∧
    (State.reset.regsOk) :=
  ⟨(by simp only [regsOk_iff]; decide +kernel),
   (by simp only [regsOk_iff]; decide +kernel),
   (by simp only [regsOk_iff]; decide +kernel),
   (by simp only [regsOk_iff]; decide +kernel),
   (by simp only [regsOk_iff]; decide +kernel),
   (by simp only [regsOk_iff]; decide +kernel),
   (by simp only [regsOk_iff, State.commands, State.governs, State.admits, State.wayClear]; decide +kernel),
   (by simp only [regsOk_iff, State.commands, State.governs, State.admits, State.wayClear]; decide +kernel),
   (by simp only [regsOk_iff]; decide +kernel),
   (by simp only [regsOk_iff]; decide +kernel),
   (by simp only [regsOk_iff]; decide +kernel)⟩

def wHarvest_1 : State :=
  { State.reset with seq.pwrgood := true }
def wHarvest_2 : State :=
  { State.reset with regs := [(285214781, 1)], seq.pwrgood := true }
def wHarvest_4 : State :=
  { State.reset with regs := [(285212801, 1)] }
def wHarvest_5 : State :=
  { State.reset with regs := [(285214781, 1)], hrv.phase := 6, hrv.nothing := true }
def wHarvest_6 : State :=
  { State.reset with regs := [(285214781, 1)], hrv.phase := 6, hrv.newest := (some { zHSet with seq := 64, cause := 3, first := 8, mib := 2 }) }
def wHarvest_7 : State :=
  { State.reset with regs := [(285214781, 1)], hrv.phase := 6, hrv.newest := (some { zHSet with seq := 65536, units := [{ zHUnit with tun := 5, stamp := 8, grp := 3, region := 4096, cls := 2, vals := [(2, { zSectorVal with data := 5, poison := true })], repair := true, blk := 1 }], cause := 8, mib := 4 }) }
def wHarvest_9 : State :=
  { State.reset with nvs.storing := (some zSettings) }
def wHarvest_10 : State :=
  { State.reset with regs := [(285214781, 2)], seq.goodSince := (some 0), timeNs := 10000000000 }
def wHarvest_11 : State :=
  { State.reset with regs := [(285214752, 16), (285214781, 2)] }
def wHarvest_12 : State :=
  { State.reset with regs := [(285214757, 2), (285214781, 2)] }
def wHarvest_13 : State :=
  { State.reset with regs := [(293603376, 1)] }
theorem test_Harvest :
    (wHarvest_1.regsOk ∧ wHarvest_1.seq.pwrgood = true ∧ wHarvest_1.get HRV.STATE ≠ hrvHarvesting ∧ wHarvest_1.get HRV.STATE ≠ hrvSealed) ∧
    (wHarvest_2.regsOk ∧ wHarvest_2.seq.pwrgood = true ∧ (wHarvest_2.get HRV.STATE = hrvHarvesting ∨ wHarvest_2.get HRV.STATE = hrvSealed)) ∧
    (State.reset.seq.pwrgood = false) ∧
    (wHarvest_4.regsOk ∧ wHarvest_4.commands ((Requester.warden) : Requester) hrvPage ∧ wHarvest_4.get HRV.STATE ≠ hrvHarvesting ∧ wHarvest_4.get HRV.STATE ≠ hrvSealed) ∧
    (wHarvest_5.regsOk ∧ wHarvest_5.get HRV.STATE = hrvHarvesting ∧ wHarvest_5.hrv.phase = 6 ∧ wHarvest_5.hrv.stopped = false ∧ wHarvest_5.hrv.nothing = true) ∧
    (wHarvest_6.regsOk ∧ wHarvest_6.get HRV.STATE = hrvHarvesting ∧ wHarvest_6.hrv.phase = 6 ∧ wHarvest_6.hrv.stopped = false ∧ wHarvest_6.hrv.nothing = false ∧ wHarvest_6.hrv.newest = some ({ zHSet with seq := 64, cause := 3, first := 8, mib := 2 } : HSet) ∧ (wHarvest_6.placeUnits wHarvest_6.brineSet).length = wHarvest_6.brineSet.length) ∧
    (wHarvest_7.regsOk ∧ wHarvest_7.get HRV.STATE = hrvHarvesting ∧ wHarvest_7.hrv.phase = 6 ∧ wHarvest_7.hrv.stopped = false ∧ wHarvest_7.hrv.nothing = false ∧ wHarvest_7.hrv.newest = some ({ zHSet with seq := 65536, units := [{ zHUnit with tun := 5, stamp := 8, grp := 3, region := 4096, cls := 2, vals := [(2, { zSectorVal with data := 5, poison := true })], repair := true, blk := 1 }], cause := 8, mib := 4 } : HSet)) ∧
    (State.reset.get HRV.STATE ≠ hrvHarvesting) ∧
    (wHarvest_9.nvs.storing.isSome = true) ∧
    (wHarvest_10.regsOk ∧ wHarvest_10.get HRV.STATE = hrvSealed ∧ wHarvest_10.nvs.storing = none ∧ bit (wHarvest_10.get HRV.CAUSE) 4 = false ∧ wHarvest_10.get HRV.FIRST_CAUSE ≤ 1 ∧ wHarvest_10.hrv.gaveUp = false ∧ wHarvest_10.dmc.leaving = [] ∧ wHarvest_10.seq.goodSince = some (0 : Nat) ∧ wHarvest_10.seq.pfHigh = true ∧ wHarvest_10.get HRV.T_RESUME_MS * 1000000 ≤ wHarvest_10.timeNs - (0 : Nat)) ∧
    (wHarvest_11.regsOk ∧ wHarvest_11.get HRV.STATE = hrvSealed ∧ wHarvest_11.nvs.storing = none ∧ bit (wHarvest_11.get HRV.CAUSE) 4 = true ∧ wHarvest_11.hrv.gaveUp = false ∧ wHarvest_11.dmc.leaving = []) ∧
    (wHarvest_12.regsOk ∧ wHarvest_12.get HRV.STATE = hrvSealed ∧ wHarvest_12.nvs.storing = none ∧ bit (wHarvest_12.get HRV.CAUSE) 4 = false ∧ wHarvest_12.get HRV.FIRST_CAUSE = 2 ∧ wHarvest_12.hrv.gaveUp = false ∧ wHarvest_12.dmc.leaving = []) ∧
    (wHarvest_13.bitOf TWN.BUNDLES ({ zTwinHdr with tagOk := true } : TwinHdr).bundle.val = true ∧ ({ zTwinHdr with tagOk := true } : TwinHdr).tagOk = true) :=
  ⟨(by simp only [regsOk_iff]; decide +kernel),
   (by simp only [regsOk_iff]; decide +kernel),
   (by decide +kernel),
   (by simp only [regsOk_iff, State.commands, State.governs, State.admits, State.wayClear]; decide +kernel),
   (by simp only [regsOk_iff]; decide +kernel),
   (by simp only [regsOk_iff]; decide +kernel),
   (by simp only [regsOk_iff]; decide +kernel),
   (by decide +kernel),
   (by decide +kernel),
   (by simp only [regsOk_iff]; decide +kernel),
   (by simp only [regsOk_iff]; decide +kernel),
   (by simp only [regsOk_iff]; decide +kernel),
   (by decide +kernel)⟩

def wRehearsalsAndRestore_1 : State :=
  { State.reset with regs := [(285212801, 1), (285214912, 52000)] }
def wRehearsalsAndRestore_2 : State :=
  { State.reset with regs := [(285214912, 52000)] }
def wRehearsalsAndRestore_6 : State :=
  { State.reset with regs := [(285214781, 1)] }
def wRehearsalsAndRestore_4 : State :=
  { State.reset with regs := [(285212801, 1)] }
def wRehearsalsAndRestore_7 : State :=
  { State.reset with regs := [(285214781, 5)], hrv.rehBlks := [0] }
def wRehearsalsAndRestore_8 : State :=
  { State.reset with regs := [(285214781, 5)], hrv.rehearsed := true, hrv.rehBlks := [0] }
def wRehearsalsAndRestore_9 : State :=
  { State.reset with regs := [(285214781, 3)] }
def wRehearsalsAndRestore_10 : State :=
  { State.reset with regs := [(285214781, 3)], flm.blks := [(0, { zBlkRec with state := .reserveUsed })], hrv.newest := (some { zHSet with seq := 1, units := [{ zHUnit with tun := 8, stamp := 20, grp := 2, region := 64, cls := 21 }], cause := 2, first := 21, mib := 7 }) }
def wRehearsalsAndRestore_11 : State :=
  { State.reset with flm.blks := [(589823, { zBlkRec with state := .reserveUsed })], hrv.newest := (some { zHSet with isSealed := true, cause := 8, first := 20, mib := 21 }), hrv.restored := true }
def wRehearsalsAndRestore_12 : State :=
  { State.reset with tier.blocks := [(0, { zTBlock with state := .leaving, units := [(4, { zTUnit with dirty := true })] })], hrv.newest := (some { zHSet with seq := 5, units := [{ zHUnit with tun := 4, stamp := 4, grp := 21, region := 2, cls := 1, vals := [(1, { zSectorVal with data := 7 })], repair := true, blk := 268369921 }], isSealed := true, cause := 100 }) }
def wRehearsalsAndRestore_13 : State :=
  { State.reset with regs := [(285212801, 1), (285214781, 4), (293603388, 3)] }
theorem test_RehearsalsAndRestore :
    (wRehearsalsAndRestore_1.regsOk ∧ wRehearsalsAndRestore_1.admits ((Requester.warden) : Requester) hrvPage ∧ wRehearsalsAndRestore_1.takes hrvPage ∧ wRehearsalsAndRestore_1.stepReady = true) ∧
    (wRehearsalsAndRestore_2.regsOk ∧ wRehearsalsAndRestore_2.stepReady = true) ∧
    (wRehearsalsAndRestore_6.get HRV.STATE ≠ hrvNormal) ∧
    (wRehearsalsAndRestore_4.regsOk ∧ wRehearsalsAndRestore_4.commands ((Requester.warden) : Requester) hrvPage ∧ wRehearsalsAndRestore_4.get HRV.STATE = hrvNormal) ∧
    (State.reset.regsOk ∧ State.reset.get HRV.STATE = hrvNormal) ∧
    (wRehearsalsAndRestore_6.get HRV.STATE ≠ hrvNormal) ∧
    (wRehearsalsAndRestore_7.regsOk ∧ wRehearsalsAndRestore_7.get HRV.STATE = hrvRehearsing ∧ wRehearsalsAndRestore_7.hrv.rehBlks ≠ [] ∧ wRehearsalsAndRestore_7.hrv.rehearsed = false ∧ 96000 ≤ (2776408466 : BitVec 32).toNat ∧ (∀ n ∈ wRehearsalsAndRestore_7.validRails, rowKeep (wRehearsalsAndRestore_7.row n) = true → rowIEn (wRehearsalsAndRestore_7.row n) = true ∧ rowVEn (wRehearsalsAndRestore_7.row n) = true)) ∧
    (wRehearsalsAndRestore_8.regsOk ∧ wRehearsalsAndRestore_8.get HRV.STATE = hrvRehearsing ∧ wRehearsalsAndRestore_8.hrv.rehBlks ≠ [] ∧ wRehearsalsAndRestore_8.hrv.rehearsed = true ∧ (∀ n ∈ wRehearsalsAndRestore_8.validRails, rowKeep (wRehearsalsAndRestore_8.row n) = true → rowIEn (wRehearsalsAndRestore_8.row n) = true ∧ rowVEn (wRehearsalsAndRestore_8.row n) = true) ∧ ((1 : Nat) * 100 + wRehearsalsAndRestore_8.get HRV.HOLDUP_EFF_PCT * 1000 - 1) / max 1 (wRehearsalsAndRestore_8.get HRV.HOLDUP_EFF_PCT * 1000) = (1 : Nat)) ∧
    (wRehearsalsAndRestore_9.regsOk ∧ wRehearsalsAndRestore_9.get HRV.STATE = hrvRestoring ∧ wRehearsalsAndRestore_9.restoreUnits = [] ∧ (∀ x, wRehearsalsAndRestore_9.hrv.newest = some x → x.isSealed = true)) ∧
    (wRehearsalsAndRestore_10.regsOk ∧ wRehearsalsAndRestore_10.get HRV.STATE = hrvRestoring ∧ wRehearsalsAndRestore_10.restoreUnits = [((16 : Nat), ({ zHUnit with tun := 8, stamp := 20, grp := 2, region := 64, cls := 21 } : HUnit))] ∧ ({ zHUnit with tun := 8, stamp := 20, grp := 2, region := 64, cls := 21 } : HUnit).twin = false ∧ ({ zHUnit with tun := 8, stamp := 20, grp := 2, region := 64, cls := 21 } : HUnit).repair = false ∧ wRehearsalsAndRestore_10.block (({ zHUnit with tun := 8, stamp := 20, grp := 2, region := 64, cls := 21 } : HUnit).tun / 16) = none ∧ wRehearsalsAndRestore_10.hrv.newest = some ({ zHSet with seq := 1, units := [{ zHUnit with tun := 8, stamp := 20, grp := 2, region := 64, cls := 21 }], cause := 2, first := 21, mib := 7 } : HSet)) ∧
    (wRehearsalsAndRestore_11.regsOk ∧ (wRehearsalsAndRestore_11.blk (blkKey (8 : BitVec 12).toNat (65535 : BitVec 16).toNat)).state = .reserveUsed ∧ wRehearsalsAndRestore_11.hrv.rehBlks.contains (blkKey (8 : BitVec 12).toNat (65535 : BitVec 16).toNat) = false ∧ wRehearsalsAndRestore_11.hrv.restored = true ∧ wRehearsalsAndRestore_11.frozen = false ∧ wRehearsalsAndRestore_11.hrv.newest = some ({ zHSet with isSealed := true, cause := 8, first := 20, mib := 21 } : HSet) ∧ wRehearsalsAndRestore_11.hrv.prior = none ∧ (∀ u ∈ ({ zHSet with isSealed := true, cause := 8, first := 20, mib := 21 } : HSet).units, u.blk = blkKey (8 : BitVec 12).toNat (65535 : BitVec 16).toNat → wRehearsalsAndRestore_11.stillBrine u = false)) ∧
    (wRehearsalsAndRestore_12.hrv.newest = some ({ zHSet with seq := 5, units := [{ zHUnit with tun := 4, stamp := 4, grp := 21, region := 2, cls := 1, vals := [(1, { zSectorVal with data := 7 })], repair := true, blk := 268369921 }], isSealed := true, cause := 100 } : HSet) ∧ ({ zHUnit with tun := 4, stamp := 4, grp := 21, region := 2, cls := 1, vals := [(1, { zSectorVal with data := 7 })], repair := true, blk := 268369921 } : HUnit) ∈ ({ zHSet with seq := 5, units := [{ zHUnit with tun := 4, stamp := 4, grp := 21, region := 2, cls := 1, vals := [(1, { zSectorVal with data := 7 })], repair := true, blk := 268369921 }], isSealed := true, cause := 100 } : HSet).units ∧ ({ zHUnit with tun := 4, stamp := 4, grp := 21, region := 2, cls := 1, vals := [(1, { zSectorVal with data := 7 })], repair := true, blk := 268369921 } : HUnit).blk = blkKey (4095 : BitVec 12).toNat (1 : BitVec 16).toNat ∧ wRehearsalsAndRestore_12.stillBrine ({ zHUnit with tun := 4, stamp := 4, grp := 21, region := 2, cls := 1, vals := [(1, { zSectorVal with data := 7 })], repair := true, blk := 268369921 } : HUnit) = true) ∧
    (wRehearsalsAndRestore_13.regsOk ∧ wRehearsalsAndRestore_13.commands ((Requester.warden) : Requester) hrvPage ∧ wRehearsalsAndRestore_13.solo = true ∧ wRehearsalsAndRestore_13.get HRV.STATE = hrvIncomplete) :=
  ⟨(by simp only [regsOk_iff, State.takes, State.admits, State.wayClear]; decide +kernel),
   (by simp only [regsOk_iff]; decide +kernel),
   (by decide +kernel),
   (by simp only [regsOk_iff, State.commands, State.governs, State.admits, State.wayClear]; decide +kernel),
   (by simp only [regsOk_iff]; decide +kernel),
   (by decide +kernel),
   (by simp only [regsOk_iff]; decide +kernel),
   (by simp only [regsOk_iff]; decide +kernel),
   (by simp only [regsOk_iff]; decide +kernel),
   (by simp only [regsOk_iff]; decide +kernel),
   (by simp only [regsOk_iff]; decide +kernel),
   (by decide +kernel),
   (by simp only [regsOk_iff, State.commands, State.governs, State.admits, State.wayClear]; decide +kernel)⟩

def wTwinFormation_1 : State :=
  { State.reset with regs := [(293603376, 1), (293603383, 1)] }
def wTwinFormation_2 : State :=
  { State.reset with regs := [(293603383, 1), (293603386, 1), (293603388, 2)] }
def wTwinFormation_3 : State :=
  { State.reset with regs := [(293603383, 1), (293603388, 2)] }
def wTwinFormation_5 : State :=
  { State.reset with regs := [(293603376, 2)], twn.form := .linked, unit := 1 }
def wTwinFormation_6 : State :=
  { State.reset with regs := [(293603376, 1)], twn.form := .linked, twn.pairId := (some 3) }
def wTwinFormation_7 : State :=
  { State.reset with regs := [(293603376, 4)], twn.form := .linked }
def wTwinFormation_8 : State :=
  { State.reset with regs := [(293603376, 1)] }
def wTwinFormation_9 : State :=
  { State.reset with regs := [(293603376, 15)] }
def wTwinFormation_10 : State :=
  { State.reset with regs := [(293603376, 1)] }
def wTwinFormation_11 : State :=
  { State.reset with regs := [(293603376, 1), (293603383, 1)] }
def wTwinFormation_12 : State :=
  { State.reset with regs := [(293603376, 1), (293603383, 1), (293603388, 2)] }
def wTwinFormation_14 : State :=
  { State.reset with twn.form := .linked }
def wTwinFormation_15 : State :=
  { State.reset with regs := [(293603388, 1)], twn.syncAll := true }
def wTwinFormation_17 : State :=
  { State.reset with twn.form := .training }
def wTwinFormation_18 : State :=
  { State.reset with regs := [(293601409, 1)] }
def wTwinFormation_19 : State :=
  { State.reset with regs := [(293601409, 1)], twn.form := .hello, twn.stopped := true }
def wTwinFormation_20 : State :=
  { State.reset with regs := [(293603376, 4)] }
def wTwinFormation_21 : State :=
  { State.reset with regs := [(293603376, 4)] }
def wTwinFormation_22 : State :=
  { State.reset with regs := [(293603376, 8), (293603388, 6)] }
def wTwinFormation_23 : State :=
  { State.reset with regs := [(293603376, 2), (293603388, 2)] }
theorem test_TwinFormation :
    (wTwinFormation_1.regsOk ∧ wTwinFormation_1.flag TWN.ALIVE_IN_OK = true ∧ wTwinFormation_1.linkUp = true) ∧
    (wTwinFormation_2.regsOk ∧ wTwinFormation_2.flag TWN.ALIVE_IN_OK = true ∧ wTwinFormation_2.linkUp = false ∧ wTwinFormation_2.role = rolePaired ∧ wTwinFormation_2.flag TWN.IN_SYNC = true) ∧
    (wTwinFormation_3.regsOk ∧ wTwinFormation_3.flag TWN.ALIVE_IN_OK = true ∧ wTwinFormation_3.linkUp = false ∧ wTwinFormation_3.role = rolePaired ∧ wTwinFormation_3.flag TWN.IN_SYNC = false) ∧
    (State.reset.regsOk) ∧
    (wTwinFormation_5.regsOk ∧ wTwinFormation_5.bitOf TWN.BUNDLES ({ zTwinHdr with bundle := 1, tagOk := true } : TwinHdr).bundle.val = true ∧ ({ zTwinHdr with bundle := 1, tagOk := true } : TwinHdr).tagOk = true ∧ wTwinFormation_5.twn.form = .linked ∧ wTwinFormation_5.twn.stopped = false ∧ ({ zHelloBody with unit := 1 } : HelloBody).unit.val = wTwinFormation_5.unit) ∧
    (wTwinFormation_6.regsOk ∧ wTwinFormation_6.bitOf TWN.BUNDLES ({ zTwinHdr with tagOk := true } : TwinHdr).bundle.val = true ∧ ({ zTwinHdr with tagOk := true } : TwinHdr).tagOk = true ∧ wTwinFormation_6.twn.form = .linked ∧ wTwinFormation_6.twn.stopped = false ∧ ({ zHelloBody with unit := 1 } : HelloBody).unit.val ≠ wTwinFormation_6.unit ∧ wTwinFormation_6.twn.pairId = some (3 : BitVec 512) ∧ (3 : BitVec 512) ≠ ({ zHelloBody with unit := 1 } : HelloBody).digest) ∧
    (wTwinFormation_7.regsOk ∧ wTwinFormation_7.bitOf TWN.BUNDLES ({ zTwinHdr with bundle := 2, tagOk := true } : TwinHdr).bundle.val = true ∧ ({ zTwinHdr with bundle := 2, tagOk := true } : TwinHdr).tagOk = true ∧ wTwinFormation_7.twn.form = .linked ∧ wTwinFormation_7.twn.stopped = false ∧ ({ zHelloBody with unit := 1 } : HelloBody).unit.val ≠ wTwinFormation_7.unit ∧ (∀ d, wTwinFormation_7.twn.pairId = some d → d = ({ zHelloBody with unit := 1 } : HelloBody).digest) ∧ (∀ g, g < 16 → wTwinFormation_7.ownClaim g = 0) ∧ (∀ e ∈ ({ zHelloBody with unit := 1 } : HelloBody).epochs, e = 0) ∧ wTwinFormation_7.twn.repair = [] ∧ wTwinFormation_7.get HRV.STATE ≠ hrvIncomplete) ∧
    (wTwinFormation_8.bitOf TWN.BUNDLES (0 : Bundle).val = true) ∧
    (wTwinFormation_9.regsOk ∧ wTwinFormation_9.bitOf TWN.BUNDLES (0 : Bundle).val = true ∧ 2 < (setBitsOf 4 (wTwinFormation_9.get TWN.BUNDLES)).length ∧ wTwinFormation_9.get TWN.BUNDLES < 16) ∧
    (wTwinFormation_10.regsOk ∧ wTwinFormation_10.bitOf TWN.BUNDLES (0 : Bundle).val = true ∧ (setBitsOf 4 (wTwinFormation_10.get TWN.BUNDLES)).length ≤ 2 ∧ wTwinFormation_10.get TWN.BUNDLES < 16) ∧
    (wTwinFormation_11.regsOk ∧ wTwinFormation_11.twn.form = .none ∧ wTwinFormation_11.linkUp = true ∧ wTwinFormation_11.flag TWN.ALIVE_IN_OK = true ∧ (1 : BitVec 4) ≠ 0) ∧
    (wTwinFormation_12.regsOk ∧ wTwinFormation_12.twn.form = .none ∧ wTwinFormation_12.linkUp = true ∧ wTwinFormation_12.flag TWN.ALIVE_IN_OK = true ∧ wTwinFormation_12.role = rolePaired) ∧
    (State.reset.regsOk ∧ State.reset.twn.form = .none ∧ State.reset.twn.stopped = false ∧ State.reset.get HRV.STATE = hrvNormal ∧ State.reset.mirroring = false) ∧
    (wTwinFormation_14.regsOk ∧ wTwinFormation_14.twn.form ≠ .none ∧ wTwinFormation_14.twn.stopped = false) ∧
    (wTwinFormation_15.regsOk ∧ wTwinFormation_15.role = roleForming ∧ wTwinFormation_15.flag TWN.ALIVE_IN_OK = false ∧ wTwinFormation_15.twn.syncAll = true ∧ wTwinFormation_15.bitOf NVS.FAST_BAD 0 = false ∧ wTwinFormation_15.twn.take = none ∧ wTwinFormation_15.unserved ≠ []) ∧
    (State.reset.regsOk ∧ ((false : Bool) && (false : Bool)) = false) ∧
    (wTwinFormation_17.regsOk ∧ wTwinFormation_17.twn.form = .training ∧ 2 ≤ (setBitsOf 4 (7 : BitVec 4).toNat).length ∧ wTwinFormation_17.clk.pllDown = []) ∧
    (wTwinFormation_18.regsOk ∧ wTwinFormation_18.commands ((Requester.warden) : Requester) twnPage ∧ wTwinFormation_18.stageHeld twnPage = false ∧ wTwinFormation_18.rd twnPage HDR.ARM = 0) ∧
    (wTwinFormation_19.regsOk ∧ wTwinFormation_19.commands ((Requester.warden) : Requester) twnPage ∧ wTwinFormation_19.stageHeld twnPage = false ∧ wTwinFormation_19.rd twnPage HDR.ARM = 0 ∧ wTwinFormation_19.twn.stopped = true ∧ wTwinFormation_19.twn.form = .hello) ∧
    (wTwinFormation_20.bitOf TWN.BUNDLES ({ zTwinHdr with bundle := 2, tagOk := true } : TwinHdr).bundle.val = true ∧ ({ zTwinHdr with bundle := 2, tagOk := true } : TwinHdr).tagOk = true ∧ ((List.range 16).filter wTwinFormation_20.serves).length < (1 : Nat)) ∧
    (wTwinFormation_21.bitOf TWN.BUNDLES ({ zTwinHdr with bundle := 2, tagOk := true } : TwinHdr).bundle.val = true ∧ ({ zTwinHdr with bundle := 2, tagOk := true } : TwinHdr).tagOk = true ∧ wTwinFormation_21.role ≠ roleDst ∧ (0 : BitVec 3).toNat ≠ flmReadOnly) ∧
    (wTwinFormation_22.regsOk ∧ wTwinFormation_22.bitOf TWN.BUNDLES ({ zTwinHdr with bundle := 3, tagOk := true } : TwinHdr).bundle.val = true ∧ ({ zTwinHdr with bundle := 3, tagOk := true } : TwinHdr).tagOk = true ∧ wTwinFormation_22.role = roleDst ∧ wTwinFormation_22.twn.rsm = [] ∧ (0 : BitVec 3).toNat ≠ flmReadOnly) ∧
    (wTwinFormation_23.bitOf TWN.BUNDLES ({ zTwinHdr with bundle := 1, tagOk := true } : TwinHdr).bundle.val = true ∧ ({ zTwinHdr with bundle := 1, tagOk := true } : TwinHdr).tagOk = true ∧ wTwinFormation_23.role = rolePaired) :=
  ⟨(by simp only [regsOk_iff]; decide +kernel),
   (by simp only [regsOk_iff]; decide +kernel),
   (by simp only [regsOk_iff]; decide +kernel),
   (by simp only [regsOk_iff]; decide +kernel),
   (by simp only [regsOk_iff]; decide +kernel),
   (by simp only [regsOk_iff]; decide +kernel),
   ⟨by rw [regsOk_iff]; decide +kernel, by decide +kernel, by decide +kernel, show _ by decide +kernel, by decide +kernel, by decide +kernel, by simp [State.reset, twnInit, wTwinFormation_7], by first | decide +kernel | simp, by simp [zHelloBody], by decide +kernel⟩,
   (by decide +kernel),
   (by simp only [regsOk_iff]; decide +kernel),
   (by simp only [regsOk_iff]; decide +kernel),
   (by simp only [regsOk_iff]; decide +kernel),
   (by simp only [regsOk_iff]; decide +kernel),
   (by simp only [regsOk_iff]; decide +kernel),
   (by simp only [regsOk_iff]; decide +kernel),
   (by simp only [regsOk_iff]; decide +kernel),
   (by simp only [regsOk_iff]; decide +kernel),
   (by simp only [regsOk_iff]; decide +kernel),
   (by simp only [regsOk_iff, State.commands, State.governs, State.admits, State.wayClear]; decide +kernel),
   (by simp only [regsOk_iff, State.commands, State.governs, State.admits, State.wayClear]; decide +kernel),
   (by decide +kernel),
   (by decide +kernel),
   (by simp only [regsOk_iff]; decide +kernel),
   (by decide +kernel)⟩

def wTwinMirroring_2 : State :=
  { State.reset with regs := [(293603376, 8)] }
def wTwinMirroring_3 : State :=
  { State.reset with regs := [(293603376, 2)], twn.replay := [{ zMirrorRec with id := 20, seq := 8, stamp := 3, region := 7, grp := 4, cls := 8, sector := 4096, val := { zSectorVal with data := 13407807929942597099574024998205846127479365820592393377723561443721764030073546976801874298166903427690031858186486050853753882811946569946433649006084095, poison := true }, retx := true }] }
def wTwinMirroring_7 : State :=
  { State.reset with regs := [(293603376, 1)], twn.rxHold := [(0, (RxBody.resync 0 0 none))] }
def wTwinMirroring_8 : State :=
  { State.reset with regs := [(293603376, 1)], twn.txSeq := 1 }
def wTwinMirroring_9 : State :=
  { State.reset with regs := [(293603376, 8), (293603386, 1)] }
def wTwinMirroring_10 : State :=
  { State.reset with regs := [(293603376, 4)] }
def wTwinMirroring_11 : State :=
  { State.reset with regs := [(293603376, 8)] }
def wTwinMirroring_12 : State :=
  { State.reset with regs := [(293603376, 1)], tier.reads := [{ zWaitRead with id := 21, who := (RdBy.mailbox 64 20 3), region := 5, grp := 20, pbn := 7, unit := 3, sector := 64, window := 2, dpa := 7, t0 := 7, stage := .twinDram, noFrame := true, dual := true }], flm.t2Stamp := [(115, 9)] }
def wTwinMirroring_13 : State :=
  { State.reset with regs := [(293603376, 8)], tier.reads := [{ zWaitRead with id := 1, who := (RdBy.step 100 1 4), region := 3, grp := 7, pbn := 7, unit := 3, sector := 20, window := 100, dpa := 7, t0 := 19, stage := .twinDram, dual := true }] }
def wTwinMirroring_14 : State :=
  { State.reset with regs := [(293603376, 1)], twn.repair := [18446744073709551615] }
def wTwinMirroring_15 : State :=
  { State.reset with regs := [(293603376, 2)], twn.repair := [1] }
def wTwinMirroring_16 : State :=
  { State.reset with regs := [(293603376, 4)] }
def wTwinMirroring_17 : State :=
  { State.reset with regs := [(293603376, 2)], twn.rxSeq := 5 }
def wTwinMirroring_18 : State :=
  { State.reset with regs := [(293603376, 8)], twn.mirror := [(2, { zMUnit with stamp := 21, grp := 100, region := 2, cls := 64, vals := [(1, { zSectorVal with data := 5339942918376739121282247778403223239937988933863891493447062148050017305859345555535612652577042090303204420317647057601668788192893083039930723148681535, poison := true }), (4, { zSectorVal with data := 13407807929942597099574024998205846127479365820592393377723561443721764030073546976801874298166903427690031858186486050853753882811946569946433649006084095, poison := true })], wb := (some (20, [(3, { zSectorVal with data := 2, poison := true })])), dirty := true })] }
def wTwinMirroring_19 : State :=
  { State.reset with regs := [(293603376, 4)] }
def wTwinMirroring_20 : State :=
  { State.reset with regs := [(293603376, 8), (293603388, 5)], twn.rsm := [8], twn.scanDone := true }
def wTwinMirroring_22 : State :=
  { State.reset with regs := [(293603388, 5)] }
def wTwinMirroring_23 : State :=
  { wTwinMirroring_16 with twn.cipher := [{ since := 0, left := 100, hold := 4 * 2 ^ 20, lane := some 0 }] }
theorem test_TwinMirroring :
    (wTwinMirroring_2.regsOk ∧ wTwinMirroring_2.bitOf TWN.BUNDLES ({ zTwinHdr with bundle := 3, tagOk := true } : TwinHdr).bundle.val = true ∧ ({ zTwinHdr with bundle := 3, tagOk := true } : TwinHdr).tagOk = true ∧ ([] : List (BitVec 64)).length ≠ ([0] : List Sector).length) ∧
    (wTwinMirroring_3.regsOk ∧ wTwinMirroring_3.bitOf TWN.BUNDLES ({ zTwinHdr with bundle := 1, tagOk := true, seq := 8 } : TwinHdr).bundle.val = true ∧ ({ zTwinHdr with bundle := 1, tagOk := true, seq := 8 } : TwinHdr).tagOk = true ∧ wTwinMirroring_3.twn.replay.find? (fun x => x.seq == ({ zTwinHdr with bundle := 1, tagOk := true, seq := 8 } : TwinHdr).seq.toNat) = some ({ zMirrorRec with id := 20, seq := 8, stamp := 3, region := 7, grp := 4, cls := 8, sector := 4096, val := { zSectorVal with data := 13407807929942597099574024998205846127479365820592393377723561443721764030073546976801874298166903427690031858186486050853753882811946569946433649006084095, poison := true }, retx := true } : MirrorRec)) ∧
    (wTwinMirroring_7.twn.rxHold ≠ [] ∧ thas wTwinMirroring_7.twn.rxHold (wTwinMirroring_7.twn.rxSeq + 1) = false ∧ wTwinMirroring_7.linkUp = true) ∧
    (wTwinMirroring_8.twn.digestFrom ≤ wTwinMirroring_8.twn.txSeq ∧ wTwinMirroring_8.linkUp = true) ∧
    (wTwinMirroring_9.bitOf TWN.BUNDLES ({ zTwinHdr with bundle := 3, tagOk := true } : TwinHdr).bundle.val = true ∧ ({ zTwinHdr with bundle := 3, tagOk := true } : TwinHdr).tagOk = true ∧ wTwinMirroring_9.flag TWN.IN_SYNC = true) ∧
    (wTwinMirroring_10.bitOf TWN.BUNDLES ({ zTwinHdr with bundle := 2, tagOk := true } : TwinHdr).bundle.val = true ∧ ({ zTwinHdr with bundle := 2, tagOk := true } : TwinHdr).tagOk = true ∧ wTwinMirroring_10.flag TWN.IN_SYNC = false) ∧
    (wTwinMirroring_11.bitOf TWN.BUNDLES ({ zTwinHdr with bundle := 3, tagOk := true } : TwinHdr).bundle.val = true ∧ ({ zTwinHdr with bundle := 3, tagOk := true } : TwinHdr).tagOk = true) ∧
    (wTwinMirroring_12.regsOk ∧ wTwinMirroring_12.bitOf TWN.BUNDLES ({ zTwinHdr with tagOk := true, addr := 115, stamp := 9 } : TwinHdr).bundle.val = true ∧ ({ zTwinHdr with tagOk := true, addr := 115, stamp := 9 } : TwinHdr).tagOk = true ∧ wTwinMirroring_12.twn.compare = none ∧ wTwinMirroring_12.unitReads (({ zTwinHdr with tagOk := true, addr := 115, stamp := 9 } : TwinHdr).addr.toNat / 16) (({ zTwinHdr with tagOk := true, addr := 115, stamp := 9 } : TwinHdr).addr.toNat % 16) = [({ zWaitRead with id := 21, who := (RdBy.mailbox 64 20 3), region := 5, grp := 20, pbn := 7, unit := 3, sector := 64, window := 2, dpa := 7, t0 := 7, stage := .twinDram, noFrame := true, dual := true } : WaitRead)] ∧ ({ zWaitRead with id := 21, who := (RdBy.mailbox 64 20 3), region := 5, grp := 20, pbn := 7, unit := 3, sector := 64, window := 2, dpa := 7, t0 := 7, stage := .twinDram, noFrame := true, dual := true } : WaitRead).stage = .twinDram ∧ ({ zTwinHdr with tagOk := true, addr := 115, stamp := 9 } : TwinHdr).stamp.toNat = wTwinMirroring_12.t2Stamp ({ zTwinHdr with tagOk := true, addr := 115, stamp := 9 } : TwinHdr).addr.toNat ∧ (1 : BitVec 64).getLsbD (({ zWaitRead with id := 21, who := (RdBy.mailbox 64 20 3), region := 5, grp := 20, pbn := 7, unit := 3, sector := 64, window := 2, dpa := 7, t0 := 7, stage := .twinDram, noFrame := true, dual := true } : WaitRead).sector % 64) = true) ∧
    (wTwinMirroring_13.regsOk ∧ wTwinMirroring_13.bitOf TWN.BUNDLES ({ zTwinHdr with bundle := 3, tagOk := true, addr := 115 } : TwinHdr).bundle.val = true ∧ ({ zTwinHdr with bundle := 3, tagOk := true, addr := 115 } : TwinHdr).tagOk = true ∧ wTwinMirroring_13.twn.compare = none ∧ wTwinMirroring_13.unitReads (({ zTwinHdr with bundle := 3, tagOk := true, addr := 115 } : TwinHdr).addr.toNat / 16) (({ zTwinHdr with bundle := 3, tagOk := true, addr := 115 } : TwinHdr).addr.toNat % 16) = [({ zWaitRead with id := 1, who := (RdBy.step 100 1 4), region := 3, grp := 7, pbn := 7, unit := 3, sector := 20, window := 100, dpa := 7, t0 := 19, stage := .twinDram, dual := true } : WaitRead)] ∧ ({ zWaitRead with id := 1, who := (RdBy.step 100 1 4), region := 3, grp := 7, pbn := 7, unit := 3, sector := 20, window := 100, dpa := 7, t0 := 19, stage := .twinDram, dual := true } : WaitRead).stage = .twinDram) ∧
    (wTwinMirroring_14.regsOk ∧ wTwinMirroring_14.bitOf TWN.BUNDLES ({ zTwinHdr with tagOk := true, addr := 18446744073709551615 } : TwinHdr).bundle.val = true ∧ ({ zTwinHdr with tagOk := true, addr := 18446744073709551615 } : TwinHdr).tagOk = true ∧ wTwinMirroring_14.twn.compare = none ∧ wTwinMirroring_14.twn.repair.contains ({ zTwinHdr with tagOk := true, addr := 18446744073709551615 } : TwinHdr).addr.toNat = true ∧ wTwinMirroring_14.block (({ zTwinHdr with tagOk := true, addr := 18446744073709551615 } : TwinHdr).addr.toNat / 16) = none ∧ ([] : List Sector).length ≤ 64) ∧
    (wTwinMirroring_15.regsOk ∧ wTwinMirroring_15.bitOf TWN.BUNDLES ({ zTwinHdr with bundle := 1, tagOk := true, addr := 1 } : TwinHdr).bundle.val = true ∧ ({ zTwinHdr with bundle := 1, tagOk := true, addr := 1 } : TwinHdr).tagOk = true ∧ wTwinMirroring_15.twn.compare = none ∧ wTwinMirroring_15.twn.repair.contains ({ zTwinHdr with bundle := 1, tagOk := true, addr := 1 } : TwinHdr).addr.toNat = true) ∧
    (wTwinMirroring_16.bitOf TWN.BUNDLES ({ zTwinHdr with bundle := 2, tagOk := true, seq := 1 } : TwinHdr).bundle.val = true ∧ ({ zTwinHdr with bundle := 2, tagOk := true, seq := 1 } : TwinHdr).tagOk = true ∧ ({ zTwinHdr with bundle := 2, tagOk := true, seq := 1 } : TwinHdr).seq.toNat = wTwinMirroring_16.twn.rxSeq + 1 ∧ wTwinMirroring_16.twn.rxHold = [] ∧ wTwinMirroring_16.holdFull (8 * ([] : List Nat).length) = false) ∧
    (wTwinMirroring_17.bitOf TWN.BUNDLES ({ zTwinHdr with bundle := 1, tagOk := true, seq := 6 } : TwinHdr).bundle.val = true ∧ ({ zTwinHdr with bundle := 1, tagOk := true, seq := 6 } : TwinHdr).tagOk = true ∧ ({ zTwinHdr with bundle := 1, tagOk := true, seq := 6 } : TwinHdr).seq.toNat = wTwinMirroring_17.twn.rxSeq + 1 ∧ wTwinMirroring_17.twn.rxHold = [] ∧ wTwinMirroring_17.holdFull 4096 = false ∧ tget wTwinMirroring_17.twn.mirror ({ zTwinHdr with bundle := 1, tagOk := true, seq := 6 } : TwinHdr).addr.toNat = none ∧ ((List.replicate 64 3) : List Sector).length = 64) ∧
    (wTwinMirroring_18.bitOf TWN.BUNDLES ({ zTwinHdr with bundle := 3, tagOk := true, seq := 1, addr := 2 } : TwinHdr).bundle.val = true ∧ ({ zTwinHdr with bundle := 3, tagOk := true, seq := 1, addr := 2 } : TwinHdr).tagOk = true ∧ ({ zTwinHdr with bundle := 3, tagOk := true, seq := 1, addr := 2 } : TwinHdr).seq.toNat = wTwinMirroring_18.twn.rxSeq + 1 ∧ wTwinMirroring_18.twn.rxHold = [] ∧ wTwinMirroring_18.holdFull (match (.zero : ResyncUnit) with | .zero => 0 | .data d _ => 64 * d.length) = false ∧ tget wTwinMirroring_18.twn.mirror ({ zTwinHdr with bundle := 3, tagOk := true, seq := 1, addr := 2 } : TwinHdr).addr.toNat = some ({ zMUnit with stamp := 21, grp := 100, region := 2, cls := 64, vals := [(1, { zSectorVal with data := 5339942918376739121282247778403223239937988933863891493447062148050017305859345555535612652577042090303204420317647057601668788192893083039930723148681535, poison := true }), (4, { zSectorVal with data := 13407807929942597099574024998205846127479365820592393377723561443721764030073546976801874298166903427690031858186486050853753882811946569946433649006084095, poison := true })], wb := (some (20, [(3, { zSectorVal with data := 2, poison := true })])), dirty := true } : MUnit) ∧ ({ zTwinHdr with bundle := 3, tagOk := true, seq := 1, addr := 2 } : TwinHdr).stamp.toNat < ({ zMUnit with stamp := 21, grp := 100, region := 2, cls := 64, vals := [(1, { zSectorVal with data := 5339942918376739121282247778403223239937988933863891493447062148050017305859345555535612652577042090303204420317647057601668788192893083039930723148681535, poison := true }), (4, { zSectorVal with data := 13407807929942597099574024998205846127479365820592393377723561443721764030073546976801874298166903427690031858186486050853753882811946569946433649006084095, poison := true })], wb := (some (20, [(3, { zSectorVal with data := 2, poison := true })])), dirty := true } : MUnit).stamp) ∧
    (wTwinMirroring_19.bitOf TWN.BUNDLES ({ zTwinHdr with bundle := 2, tagOk := true } : TwinHdr).bundle.val = true ∧ ({ zTwinHdr with bundle := 2, tagOk := true } : TwinHdr).tagOk = true ∧ wTwinMirroring_19.role ≠ roleSrc) ∧
    (wTwinMirroring_20.regsOk ∧ wTwinMirroring_20.bitOf TWN.BUNDLES ({ zTwinHdr with bundle := 3, tagOk := true, addr := 8 } : TwinHdr).bundle.val = true ∧ ({ zTwinHdr with bundle := 3, tagOk := true, addr := 8 } : TwinHdr).tagOk = true ∧ wTwinMirroring_20.role = roleSrc ∧ wTwinMirroring_20.twn.scanDone = true ∧ wTwinMirroring_20.twn.rsm = [({ zTwinHdr with bundle := 3, tagOk := true, addr := 8 } : TwinHdr).addr.toNat]) ∧
    (State.reset.mirroring = false) ∧
    (wTwinMirroring_22.regsOk ∧ wTwinMirroring_22.role = roleSrc ∧ wTwinMirroring_22.twn.rsm = []) ∧
    (wTwinMirroring_23.regsOk ∧ wTwinMirroring_23.bitOf TWN.BUNDLES ({ zTwinHdr with bundle := 2, tagOk := true, seq := 1 } : TwinHdr).bundle.val = true ∧ ({ zTwinHdr with bundle := 2, tagOk := true, seq := 1 } : TwinHdr).tagOk = true ∧ wTwinMirroring_23.holdFull (8 * ([3] : List Nat).length) = true) :=
  ⟨(by simp only [regsOk_iff]; decide +kernel),
   (by simp only [regsOk_iff]; decide +kernel),
   (by decide +kernel),
   (by decide +kernel),
   (show _ by decide +kernel),
   (by decide +kernel),
   (by decide +kernel),
   (by simp only [regsOk_iff]; decide +kernel),
   (by simp only [regsOk_iff]; decide +kernel),
   (by simp only [regsOk_iff]; decide +kernel),
   (by simp only [regsOk_iff]; decide +kernel),
   (by decide +kernel),
   (by decide +kernel),
   (show _ by decide +kernel),
   (by decide +kernel),
   (by simp only [regsOk_iff]; decide +kernel),
   (by decide +kernel),
   (by simp only [regsOk_iff]; decide +kernel),
   (by simp only [regsOk_iff]; decide +kernel)⟩

def wTwinClaims_1 : State :=
  { State.reset with regs := [(293603360, 512), (293603376, 8)] }
def wTwinClaims_2 : State :=
  { State.reset with regs := [(293603376, 2), (293604416, 1)] }
def wTwinClaims_3 : State :=
  { State.reset with regs := [(293603376, 2)], twn.gave := [2] }
def wTwinClaims_4 : State :=
  { State.reset with regs := [(293603376, 1), (293603386, 1), (293603388, 2)] }
def wTwinClaims_5 : State :=
  { State.reset with regs := [(293603376, 4)] }
def wTwinClaims_6 : State :=
  { State.reset with regs := [(293603376, 2), (293603388, 2)] }
def wTwinClaims_7 : State :=
  { State.reset with regs := [(293603386, 1), (293603388, 3)] }
def wTwinClaims_9 : State :=
  { State.reset with twn.take := (some { zTake with groups := [2], takeover := true }) }
def wTwinClaims_10 : State :=
  { State.reset with twn.take := (some { zTake with groups := [7, 0, 4] }) }
def wTwinClaims_11 : State :=
  { State.reset with twn.take := (some { zTake with groups := [20, 3, 8], retried := true, takeover := true }) }
def wTwinClaims_12 : State :=
  { State.reset with regs := [(293603388, 3)] }
def wTwinClaims_13 : State :=
  { State.reset with regs := [(293603383, 1), (293603386, 1), (293603388, 2)] }
def wTwinClaims_14 : State :=
  { State.reset with regs := [(293603383, 1), (293603388, 2)] }
def wTwinClaims_15 : State :=
  { State.reset with regs := [(293603384, 1), (293603388, 3)] }
def wTwinClaims_16 : State :=
  { State.reset with regs := [(293601409, 1), (293603360, 32768), (293603388, 2)] }
def wTwinClaims_17 : State :=
  { State.reset with regs := [(293601409, 1), (293603388, 2)] }
def wTwinClaims_18 : State :=
  { State.reset with twn.handoff := [5] }
def wTwinClaims_19 : State :=
  { State.reset with twn.replay := [{ zMirrorRec with id := 8, stamp := 20, region := 100, grp := 1, cls := 100, sector := 3, val := { zSectorVal with data := 726838724295606890549323807888004534353641360687318060281490199180639288113397923326191050713763565560762521606266177933534601628614656 }, port := (some (5, 0)), retx := true }] }
def wTwinClaims_20 : State :=
  { State.reset with twn.handoff := [3] }
def wTwinClaims_21 : State :=
  { State.reset with regs := [(293603388, 2)] }
theorem test_TwinClaims :
    (wTwinClaims_1.regsOk ∧ wTwinClaims_1.bitOf TWN.BUNDLES ({ zTwinHdr with bundle := 3, tagOk := true, grp := 9, stamp := 1 } : TwinHdr).bundle.val = true ∧ ({ zTwinHdr with bundle := 3, tagOk := true, grp := 9, stamp := 1 } : TwinHdr).tagOk = true ∧ wTwinClaims_1.get TWN.TWN_CLAIM_PEER 0 ({ zTwinHdr with bundle := 3, tagOk := true, grp := 9, stamp := 1 } : TwinHdr).grp.val < ({ zTwinHdr with bundle := 3, tagOk := true, grp := 9, stamp := 1 } : TwinHdr).stamp.toNat ∧ wTwinClaims_1.get TWN.TWN_CLAIM_LOCAL 0 ({ zTwinHdr with bundle := 3, tagOk := true, grp := 9, stamp := 1 } : TwinHdr).grp.val ≤ ({ zTwinHdr with bundle := 3, tagOk := true, grp := 9, stamp := 1 } : TwinHdr).stamp.toNat ∧ wTwinClaims_1.serves ({ zTwinHdr with bundle := 3, tagOk := true, grp := 9, stamp := 1 } : TwinHdr).grp.val = true ∧ wTwinClaims_1.twn.gave.contains ({ zTwinHdr with bundle := 3, tagOk := true, grp := 9, stamp := 1 } : TwinHdr).grp.val = false) ∧
    (wTwinClaims_2.bitOf TWN.BUNDLES ({ zTwinHdr with bundle := 1, tagOk := true, grp := 1 } : TwinHdr).bundle.val = true ∧ ({ zTwinHdr with bundle := 1, tagOk := true, grp := 1 } : TwinHdr).tagOk = true ∧ ({ zTwinHdr with bundle := 1, tagOk := true, grp := 1 } : TwinHdr).stamp.toNat ≤ wTwinClaims_2.get TWN.TWN_CLAIM_PEER 0 ({ zTwinHdr with bundle := 1, tagOk := true, grp := 1 } : TwinHdr).grp.val ∧ wTwinClaims_2.get TWN.TWN_CLAIM_PEER 0 ({ zTwinHdr with bundle := 1, tagOk := true, grp := 1 } : TwinHdr).grp.val < wTwinClaims_2.get TWN.TWN_CLAIM_LOCAL 0 ({ zTwinHdr with bundle := 1, tagOk := true, grp := 1 } : TwinHdr).grp.val ∧ wTwinClaims_2.twn.gave.contains ({ zTwinHdr with bundle := 1, tagOk := true, grp := 1 } : TwinHdr).grp.val = false) ∧
    (wTwinClaims_3.regsOk ∧ wTwinClaims_3.bitOf TWN.BUNDLES ({ zTwinHdr with bundle := 1, tagOk := true, grp := 2 } : TwinHdr).bundle.val = true ∧ ({ zTwinHdr with bundle := 1, tagOk := true, grp := 2 } : TwinHdr).tagOk = true ∧ wTwinClaims_3.serves ({ zTwinHdr with bundle := 1, tagOk := true, grp := 2 } : TwinHdr).grp.val = false ∧ wTwinClaims_3.twn.gave.contains ({ zTwinHdr with bundle := 1, tagOk := true, grp := 2 } : TwinHdr).grp.val = true ∧ wTwinClaims_3.flmState ≠ flmReadOnly) ∧
    (wTwinClaims_4.regsOk ∧ wTwinClaims_4.bitOf TWN.BUNDLES ({ zTwinHdr with tagOk := true } : TwinHdr).bundle.val = true ∧ ({ zTwinHdr with tagOk := true } : TwinHdr).tagOk = true ∧ wTwinClaims_4.role = rolePaired ∧ wTwinClaims_4.flag TWN.IN_SYNC = true) ∧
    (wTwinClaims_5.bitOf TWN.BUNDLES ({ zTwinHdr with bundle := 2, tagOk := true } : TwinHdr).bundle.val = true ∧ ({ zTwinHdr with bundle := 2, tagOk := true } : TwinHdr).tagOk = true ∧ (0 : BitVec 16) ≠ BitVec.allOnes 16) ∧
    (wTwinClaims_6.regsOk ∧ wTwinClaims_6.bitOf TWN.BUNDLES ({ zTwinHdr with bundle := 1, tagOk := true } : TwinHdr).bundle.val = true ∧ ({ zTwinHdr with bundle := 1, tagOk := true } : TwinHdr).tagOk = true ∧ wTwinClaims_6.role = rolePaired ∧ wTwinClaims_6.serves ({ zTwinHdr with bundle := 1, tagOk := true } : TwinHdr).grp.val = false ∧ wTwinClaims_6.twn.take = none) ∧
    (wTwinClaims_7.regsOk ∧ wTwinClaims_7.role = roleSolo ∧ wTwinClaims_7.flag TWN.IN_SYNC = true ∧ wTwinClaims_7.flag TWN.CLAIM_W_DRV = false ∧ wTwinClaims_7.unserved ≠ [] ∧ wTwinClaims_7.twn.take = none) ∧
    (State.reset.regsOk ∧ ((false : Bool) && (false : Bool)) = false) ∧
    (wTwinClaims_9.regsOk ∧ wTwinClaims_9.twn.take = some { groups := [(2 : Nat)], retried := (false : Bool), takeover := (true : Bool) } ∧ (2 : Nat) < 16 ∧ max ((tget wTwinClaims_9.twn.epochs (2 : Nat)).getD 0) (wTwinClaims_9.get TWN.TWN_CLAIM_PEER 0 (2 : Nat) / 256) + 1 = (1 : Nat) ∧ wTwinClaims_9.twn.peerReadOnly = false) ∧
    (wTwinClaims_10.twn.take = some ({ zTake with groups := [7, 0, 4] } : Take) ∧ ({ zTake with groups := [7, 0, 4] } : Take).retried = false) ∧
    (wTwinClaims_11.regsOk ∧ wTwinClaims_11.twn.take = some ({ zTake with groups := [20, 3, 8], retried := true, takeover := true } : Take) ∧ ({ zTake with groups := [20, 3, 8], retried := true, takeover := true } : Take).retried = true) ∧
    (wTwinClaims_12.regsOk ∧ wTwinClaims_12.role = roleSolo ∧ wTwinClaims_12.flag TWN.CLAIM_W_DRV = false ∧ wTwinClaims_12.unserved ≠ []) ∧
    (wTwinClaims_13.regsOk ∧ wTwinClaims_13.role = rolePaired ∧ wTwinClaims_13.linkUp = false ∧ wTwinClaims_13.flag TWN.ALIVE_IN_OK = true ∧ wTwinClaims_13.flag TWN.IN_SYNC = true) ∧
    (wTwinClaims_14.regsOk ∧ wTwinClaims_14.role = rolePaired ∧ wTwinClaims_14.linkUp = false ∧ wTwinClaims_14.flag TWN.ALIVE_IN_OK = true) ∧
    (wTwinClaims_15.role = roleSolo ∧ wTwinClaims_15.flag TWN.CLAIM_W_DRV = true ∧ wTwinClaims_15.unserved ≠ [] ∧ wTwinClaims_15.twn.take = none) ∧
    (wTwinClaims_16.regsOk ∧ wTwinClaims_16.commands ((Requester.warden) : Requester) twnPage ∧ wTwinClaims_16.role = rolePaired ∧ wTwinClaims_16.serves (15 : Grp).val = true ∧ wTwinClaims_16.twn.handoff.contains (15 : Grp).val = false) ∧
    (wTwinClaims_17.regsOk ∧ wTwinClaims_17.commands ((Requester.warden) : Requester) twnPage ∧ wTwinClaims_17.role = rolePaired ∧ wTwinClaims_17.serves (0 : Grp).val = false ∧ wTwinClaims_17.twn.asked.contains (0 : Grp).val = false) ∧
    (wTwinClaims_18.regsOk ∧ wTwinClaims_18.twn.handoff.contains (5 : Grp).val = true ∧ wTwinClaims_18.twn.gave.contains (5 : Grp).val = false ∧ (∀ r ∈ wTwinClaims_18.twn.replay, r.grp = (5 : Grp).val → r.acked = true)) ∧
    (({ zMirrorRec with id := 8, stamp := 20, region := 100, grp := 1, cls := 100, sector := 3, val := { zSectorVal with data := 726838724295606890549323807888004534353641360687318060281490199180639288113397923326191050713763565560762521606266177933534601628614656 }, port := (some (5, 0)), retx := true } : MirrorRec) ∈ wTwinClaims_19.twn.replay ∧ ({ zMirrorRec with id := 8, stamp := 20, region := 100, grp := 1, cls := 100, sector := 3, val := { zSectorVal with data := 726838724295606890549323807888004534353641360687318060281490199180639288113397923326191050713763565560762521606266177933534601628614656 }, port := (some (5, 0)), retx := true } : MirrorRec).grp = (1 : Grp).val ∧ ({ zMirrorRec with id := 8, stamp := 20, region := 100, grp := 1, cls := 100, sector := 3, val := { zSectorVal with data := 726838724295606890549323807888004534353641360687318060281490199180639288113397923326191050713763565560762521606266177933534601628614656 }, port := (some (5, 0)), retx := true } : MirrorRec).acked = false) ∧
    (wTwinClaims_20.regsOk ∧ wTwinClaims_20.twn.handoff.contains (3 : Grp).val = true ∧ wTwinClaims_20.twn.gave.contains (3 : Grp).val = false) ∧
    (wTwinClaims_21.role = rolePaired ∧ wTwinClaims_21.flag TWN.RECLAIM_EN = true) :=
  ⟨(by simp only [regsOk_iff]; decide +kernel),
   (by decide +kernel),
   (by simp only [regsOk_iff]; decide +kernel),
   (by simp only [regsOk_iff]; decide +kernel),
   (by decide +kernel),
   (by simp only [regsOk_iff]; decide +kernel),
   (by simp only [regsOk_iff]; decide +kernel),
   (by simp only [regsOk_iff]; decide +kernel),
   (by simp only [regsOk_iff]; decide +kernel),
   (by decide +kernel),
   (by simp only [regsOk_iff]; decide +kernel),
   (by simp only [regsOk_iff]; decide +kernel),
   (by simp only [regsOk_iff]; decide +kernel),
   (by simp only [regsOk_iff]; decide +kernel),
   (by decide +kernel),
   (by simp only [regsOk_iff, State.commands, State.governs, State.admits, State.wayClear]; decide +kernel),
   (by simp only [regsOk_iff, State.commands, State.governs, State.admits, State.wayClear]; decide +kernel),
   (by simp only [regsOk_iff]; decide +kernel),
   (by decide +kernel),
   (by simp only [regsOk_iff]; decide +kernel),
   (by decide +kernel)⟩

def wCemanorTarget_3 : State :=
  { State.reset with cmn.conns := [(0, { zConn with state := .opened, desc := { zConnDesc with tenant := 3, peerNode := 2, peerConn := 2106185, paths := [(3, zCmnPath)], holdMax := 255, dataLog2 := 5, txWindow := 31613, msgWindow := 16 }, keys1 := (some zConnKeys), msnBase := 1, check := 1495942695 })] }
def wCemanorTarget_8 : State :=
  { State.reset with regs := [(293603360, 1)], cmn.conns := [(4, { zConn with tgts := [{ zTgtMsg with msn := 524288, reg := 65536, rkey := 4096, read := true, flagged := true, first := (some 8), final := (some 100), placed := 2, held := 7, worst := .retainedShared, grp := 21, off := 3, want := 3 }] })] }
def wCemanorTarget_9 : State :=
  { State.reset with cmn.conns := [(4, { zConn with state := .opened, keys0 := (some zConnKeys), rx0 := { zRxPhase with base := 1 }, owed := 1, paths := [(0, zPathRun)] })] }
def wCemanorTarget_10 : State :=
  { State.reset with cmn.conns := [(938680, { zConn with state := .opened, rx0 := { zRxPhase with acc := [1] }, paths := [(0, zPathRun)] })] }
theorem test_CemanorTarget :
    (wCemanorTarget_3.regsOk ∧ wCemanorTarget_3.receives ({ zPacket with fcsOk := true, csumOk := true, udpLen := 49, ver := 1, phase := true, plen := 1, tagOk := true } : Packet) true ∧ ({ zPacket with fcsOk := true, csumOk := true, udpLen := 49, ver := 1, phase := true, plen := 1, tagOk := true } : Packet).msn.toNat < (wCemanorTarget_3.conn (cmnIx ({ zPacket with fcsOk := true, csumOk := true, udpLen := 49, ver := 1, phase := true, plen := 1, tagOk := true } : Packet))).msnBase) ∧
    (wCemanorTarget_8.regsOk ∧ (wCemanorTarget_8.conn (4 : BitVec 20).toNat).tgt (524288 : BitVec 32).toNat = some ({ zTgtMsg with msn := 524288, reg := 65536, rkey := 4096, read := true, flagged := true, first := (some 8), final := (some 100), placed := 2, held := 7, worst := .retainedShared, grp := 21, off := 3, want := 3 } : TgtMsg) ∧ (wCemanorTarget_8.conn (4 : BitVec 20).toNat).holds = [] ∧ wCemanorTarget_8.serves (wCemanorTarget_8.regionAt (wCemanorTarget_8.registrationAt ({ zTgtMsg with msn := 524288, reg := 65536, rkey := 4096, read := true, flagged := true, first := (some 8), final := (some 100), placed := 2, held := 7, worst := .retainedShared, grp := 21, off := 3, want := 3 } : TgtMsg).reg).region).grp = true) ∧
    (wCemanorTarget_9.regsOk ∧ (wCemanorTarget_9.conn (4 : BitVec 20).toNat).live = true ∧ (wCemanorTarget_9.conn (4 : BitVec 20).toNat).owed ≠ 0 ∧ (wCemanorTarget_9.conn (4 : BitVec 20).toNat).keys0.isSome = true ∧ 0 < (wCemanorTarget_9.conn (4 : BitVec 20).toNat).rx0.base ∧ (wCemanorTarget_9.conn (4 : BitVec 20).toNat).keys1 = none ∧ (wCemanorTarget_9.conn (4 : BitVec 20).toNat).paths ≠ []) ∧
    (wCemanorTarget_10.regsOk ∧ (wCemanorTarget_10.conn (938680 : BitVec 20).toNat).live = true ∧ (wCemanorTarget_10.conn (938680 : BitVec 20).toNat).paths ≠ [] ∧ (wCemanorTarget_10.conn (938680 : BitVec 20).toNat).nacked = [] ∧ (wCemanorTarget_10.conn (938680 : BitVec 20).toNat).rx0.missing ≠ [] ∧ (wCemanorTarget_10.conn (938680 : BitVec 20).toNat).rx1.missing = [] ∧ (rangesOf (wCemanorTarget_10.conn (938680 : BitVec 20).toNat).rx0.missing).length ≤ 32) :=
  ⟨⟨by rw [regsOk_iff]; decide +kernel, by simp only [State.receives]; decide +kernel, by decide +kernel⟩,
   (by simp only [regsOk_iff]; decide +kernel),
   (by simp only [regsOk_iff]; decide +kernel),
   (by simp only [regsOk_iff]; decide +kernel)⟩

def wCemanorInitiator_1 : State :=
  { State.reset with qe.cmds := [{ zCmd with qid := 8, cmdId := 21, cmd := (QCmd.zero 730942934740 14941330982245873131 5), sclass := 7, fetched := 5, timeout := 100, sqHeadAfter := 2, low := 19, steps := [{ zStepRec with index := 7, state := (StepState.ready), moverRetry := true, remoteRetry := true, avoid := (some 5), ran := 100, got := [(2, { zSectorVal with data := 13407807929942597099574024998205846127479365820592393377723561443721764030073546976801874298166903427690031858186486050853753882811946569946433649006084095 })] }], stop := true, slow := .accessViolation, refused := 4, result := (some { zCmdResult with status := .mediaReadOnly, result0 := 4096, detail := 64, prefixLen := 21 }), barrier := (some 4), order := 4096 }], cmn.conns := [(3, { zConn with state := .opened, gen := 15, desc := { zConnDesc with dataLog2 := 13 }, keys1 := (some zConnKeys), inits := [{ zInitMsg with msn := 9, who := (InitBy.step 8 21 7), total := 100, rkey := 20, off := 1, got := [(0, ([255, 166, 255], 340282366920938463463374607431768211455))], gotBytes := 5, worst := .lengthError }], check := 2609311952 })] }
def wCemanorInitiator_2 : State :=
  { State.reset with cmn.conns := [(0, { zConn with state := .opened, gen := 1, desc := { zConnDesc with dataLog2 := 13 }, keys0 := (some zConnKeys), inits := [{ zInitMsg with msn := 10, who := (InitBy.step 3 5 1), total := 1, rkey := 3, off := 4, got := [(3, ([], 6))], gotBytes := 4, worst := .accessViolation }], check := 3804186597 })], cmn.claims := [(10, 9)] }
def wCemanorInitiator_3 : State :=
  { State.reset with cmn.conns := [(0, { zConn with state := .opened, gen := 7, desc := { zConnDesc with dataLog2 := 13 }, keys1 := (some zConnKeys), inits := [{ zInitMsg with msn := 10, who := (InitBy.step 3 0 2), read := true, total := 4096, rkey := 4, off := 2, got := [(0, ([], 0)), (1, ([3, 5, 162], 340282366920938463463374607431768211455))], gotBytes := 4096, worst := .timeout }], check := 3152594951 })] }
def wCemanorInitiator_4 : State :=
  { State.reset with qe.cmds := [{ zCmd with qid := 21, cmdId := 4096, notify := true, cmd := (QCmd.copy 65541 65541 0 0 65536), tenant := 5, sclass := 100, fetched := 5, timeout := 8, sqHeadAfter := 1, low := 7, steps := [{ zStepRec with index := 7, state := (StepState.waiting 0), moverRetry := true, slow := .quotaExceeded, ran := 100, got := [(4, { zSectorVal with data := 6243497100631984462763194459586332611497196285329942301718313919250743477639531240240612206126983942319653862242813245790895951358576570612580352, poison := true })] }], fault := (some (4, (.timeout, 19))), slow := .mediaError, waitBlocks := [(1, 100)], refused := 65536, result := (some { zCmdResult with status := .aborted, result0 := 100, detail := 7, prefixLen := 19 }), barrier := (some 1), preempted := true, order := 21 }], cmn.conns := [(0, { zConn with state := .opened, gen := 4, desc := { zConnDesc with dataLog2 := 13 }, keys0 := (some zConnKeys), inits := [{ zInitMsg with msn := 5, who := (InitBy.step 21 4096 7), read := true, total := 64, rkey := 21, off := 20 }], check := 2537754614 })] }
def wCemanorInitiator_5 : State :=
  { State.reset with cmn.conns := [(2, { zConn with state := .opened, gen := 12, desc := { zConnDesc with dataLog2 := 13 }, keys1 := (some zConnKeys), inits := [{ zInitMsg with msn := 3, who := (InitBy.step 4096 100 20), read := true, total := 65536, rkey := 3, off := 1, got := [(0, ([233, 153], 340282366920938463463374607431768211455))], gotBytes := 7, worst := .okSubstituted }], check := 3073193761 })] }
def wCemanorInitiator_6 : State :=
  { State.reset with cmn.conns := [(0, { zConn with state := .opened, desc := { zConnDesc with dataLog2 := 13 }, keys0 := (some zConnKeys), check := 92416229 })] }
def wCemanorInitiator_7 : State :=
  { State.reset with cmn.conns := [(0, { zConn with state := .down, gen := 4, desc := { zConnDesc with dataLog2 := 13 }, keys1 := (some zConnKeys), paths := [(2, { zPathRun with path := { zCmnPath with sublink := 3, ip := 8, mac := 4, vlan := (some 2048), srcPort := 24000 }, state := .down, window := 3, acked := 65536, ce := 3, rtos := 5, probes := 2, probeOut := true })], check := 2537754614 })] }
def wCemanorInitiator_8 : State :=
  { State.reset with regs := [(302123504, 65)], cmn.conns := [(0, { zConn with state := .opened, gen := 7, desc := { zConnDesc with dataLog2 := 13 }, keys1 := (some zConnKeys), paths := [(20, { zPathRun with path := { zCmnPath with eport := 3, ip := 4, mac := 3, srcPort := 17714 }, window := 3, acked := 100, ce := 65536, probes := 4 })], unacked := [{ zTxPkt with op := 4096, phase := true, path := 20, sends := 64, pkt := { zPacket with eport := 3, sublink := 7, fcsOk := true, udpLen := 20, ver := 15, flagged := true, conn := 16777215, plen := 6, psn := 4294967295, msn := 1, rkey := 8388608, offset := 134217728, total := 131072, claim := 1, moff := 6, status := 232, grp := 10, poison := 6653329557120403400774381168234071207, enable := 36028797018963968 } }], check := 3152594951 })] }
def wCemanorInitiator_9 : State :=
  { State.reset with cmn.conns := [(0, { zConn with state := .opened, gen := 8, desc := { zConnDesc with dataLog2 := 13 }, keys0 := (some zConnKeys), inits := [{ zInitMsg with msn := 10, who := (InitBy.foreign 4096 21 100), total := 8, rkey := 20, off := 5, got := [(0, ([6, 0, 1], 5))], gotBytes := 19, worst := .aborted }], check := 636227634 })] }
def wCemanorInitiator_10 : State :=
  { State.reset with cmn.conns := [(3, { zConn with state := .opened, gen := 15, desc := { zConnDesc with dataLog2 := 13 }, keys0 := (some zConnKeys), paths := [(3, { zPathRun with path := { zCmnPath with eport := 3, sublink := 2, ip := 2, mac := 8, vlan := (some 4), srcPort := 65535 }, state := .down, window := 4096, acked := 2, ce := 21, rtos := 19, probes := 20 })], check := 2609311952 })] }
def wCemanorInitiator_11 : State :=
  { State.reset with cmn.conns := [(1, { zConn with state := .opened, gen := 5, desc := { zConnDesc with dataLog2 := 13 }, keys0 := (some zConnKeys), keys1 := (some zConnKeys), check := 1887330550 })] }
def wCemanorInitiator_12 : State :=
  { State.reset with cmn.conns := [(0, { zConn with state := .opened, gen := 3, desc := { zConnDesc with dataLog2 := 13 }, keys0 := (some zConnKeys), check := 690614036 })] }
def wCemanorInitiator_13 : State :=
  { State.reset with qe.cmds := [{ zCmd with qid := 4096, cmdId := 65536, cmd := (QCmd.abort 65535), tenant := 1, sclass := 20, fetched := 5, timeout := 4, sqHeadAfter := 8, low := 1, complete := [1], steps := [{ zStepRec with index := 8, state := (StepState.waiting 2), moverRetry := true, avoid := (some 0), slow := .incompleteMessage, ran := 8, got := [(3, { zSectorVal with data := 604462909807314587353088, poison := true })] }], slow := .aborted, poisoned := (some 8), waitBlocks := [(2, 3), (4, 8)], refused := 5, raiseErr := (some (2, .incompleteMessage)), ended := (some .okSlowPath), result := (some { zCmdResult with status := .lengthError, result0 := 3, detail := 65536, prefixLen := 8 }), barrier := (some 20), order := 7 }], cmn.conns := [(1, { zConn with inits := [{ zInitMsg with msn := 3, who := (InitBy.step 4096 65536 8), read := true, rkey := 1, off := 4, got := [(1, ([], 4)), (4, ([8, 158, 2], 5))], gotBytes := 4, worst := .accessViolation }] })] }
def wCemanorInitiator_14 : State :=
  { State.reset with regs := [(302123504, 9)], cmn.conns := [(541362, { zConn with state := .opened, paths := [(5, { zPathRun with path := { zCmnPath with eport := 3, ip := 154509377814011597177810045577538414356, mac := 281474976710655, vlan := (some 65535) }, window := 3, acked := 2, ce := 19, probes := 7 }), (21, { zPathRun with path := { zCmnPath with eport := 3, sublink := 7, ipv6 := true, ip := 1, mac := 68719476736, vlan := (some 64), srcPort := 2 }, window := 5, ce := 1, probes := 4096, probeOut := true })], unacked := [{ zTxPkt with op := 64, path := 5, sends := 8, pkt := { zPacket with eport := 3, sublink := 6, udpLen := 21, ver := 6, first := true, flagged := true, phase := true, conn := 7947763, plen := 65535, psn := 7, msn := 4294967295, rkey := 3398991017, offset := 6, total := 16777215, claim := 7, moff := 2097152, status := 15, grp := 14, poison := 340282366920938463463374607431768211455, enable := 16384, data := [1, 8, 255] } }] })] }
def wCemanorInitiator_15 : State :=
  { State.reset with cmn.conns := [(2, { zConn with state := .opened, paths := [(5, { zPathRun with path := { zCmnPath with eport := 1, sublink := 5, ip := 6, mac := 16384, srcPort := 13329 }, state := .suspect, window := 3, acked := 65536, ce := 100, rtos := 2, probes := 7 })], unacked := [{ zTxPkt with op := 64, path := 5, sends := 21, pkt := { zPacket with sublink := 3, fcsOk := true, udpLen := 4, ver := 2, first := true, final := true, conn := 13163550, plen := 8, psn := 1, msn := 5, rkey := 827955167, total := 6, claim := 2000863265377774771, moff := 16777215, status := 1, grp := 9, tagOk := true, enable := 8, data := [6] } }] })] }
def wCemanorInitiator_16 : State :=
  { State.reset with cmn.conns := [(78246, { zConn with state := .opened, paths := [(5, { zPathRun with path := { zCmnPath with sublink := 2, ipv6 := true, ip := 2, mac := 274621616583107, srcPort := 8 }, state := .down, window := 2, acked := 8, ce := 5, rtos := 65536, probeOut := true })] })] }
theorem test_CemanorInitiator :
    (wCemanorInitiator_1.regsOk ∧ wCemanorInitiator_1.receives ({ zPacket with fcsOk := true, csumOk := true, udpLen := 50, ver := 1, phase := true, conn := 63, plen := 2, msn := 9, claim := 1, tagOk := true } : Packet) true ∧ (wCemanorInitiator_1.conn (cmnIx ({ zPacket with fcsOk := true, csumOk := true, udpLen := 50, ver := 1, phase := true, conn := 63, plen := 2, msn := 9, claim := 1, tagOk := true } : Packet))).inits.find? (fun mz => mz.msn == ({ zPacket with fcsOk := true, csumOk := true, udpLen := 50, ver := 1, phase := true, conn := 63, plen := 2, msn := 9, claim := 1, tagOk := true } : Packet).msn.toNat) = some ({ zInitMsg with msn := 9, who := (InitBy.step 8 21 7), total := 100, rkey := 20, off := 1, got := [(0, ([255, 166, 255], 340282366920938463463374607431768211455))], gotBytes := 5, worst := .lengthError } : InitMsg) ∧ ({ zInitMsg with msn := 9, who := (InitBy.step 8 21 7), total := 100, rkey := 20, off := 1, got := [(0, ([255, 166, 255], 340282366920938463463374607431768211455))], gotBytes := 5, worst := .lengthError } : InitMsg).who = .step (8 : Nat) (21 : Nat) (7 : Nat) ∧ ({ zInitMsg with msn := 9, who := (InitBy.step 8 21 7), total := 100, rkey := 20, off := 1, got := [(0, ([255, 166, 255], 340282366920938463463374607431768211455))], gotBytes := 5, worst := .lengthError } : InitMsg).read = false ∧ wCemanorInitiator_1.cmd (8 : Nat) (21 : Nat) = some ({ zCmd with qid := 8, cmdId := 21, cmd := (QCmd.zero 730942934740 14941330982245873131 5), sclass := 7, fetched := 5, timeout := 100, sqHeadAfter := 2, low := 19, steps := [{ zStepRec with index := 7, state := (StepState.ready), moverRetry := true, remoteRetry := true, avoid := (some 5), ran := 100, got := [(2, { zSectorVal with data := 13407807929942597099574024998205846127479365820592393377723561443721764030073546976801874298166903427690031858186486050853753882811946569946433649006084095 })] }], stop := true, slow := .accessViolation, refused := 4, result := (some { zCmdResult with status := .mediaReadOnly, result0 := 4096, detail := 64, prefixLen := 21 }), barrier := (some 4), order := 4096 } : Cmd) ∧ ({ zCmd with qid := 8, cmdId := 21, cmd := (QCmd.zero 730942934740 14941330982245873131 5), sclass := 7, fetched := 5, timeout := 100, sqHeadAfter := 2, low := 19, steps := [{ zStepRec with index := 7, state := (StepState.ready), moverRetry := true, remoteRetry := true, avoid := (some 5), ran := 100, got := [(2, { zSectorVal with data := 13407807929942597099574024998205846127479365820592393377723561443721764030073546976801874298166903427690031858186486050853753882811946569946433649006084095 })] }], stop := true, slow := .accessViolation, refused := 4, result := (some { zCmdResult with status := .mediaReadOnly, result0 := 4096, detail := 64, prefixLen := 21 }), barrier := (some 4), order := 4096 } : Cmd).step (7 : Nat) = some ({ zStepRec with index := 7, state := (StepState.ready), moverRetry := true, remoteRetry := true, avoid := (some 5), ran := 100, got := [(2, { zSectorVal with data := 13407807929942597099574024998205846127479365820592393377723561443721764030073546976801874298166903427690031858186486050853753882811946569946433649006084095 })] } : StepRec) ∧ ({ zPacket with fcsOk := true, csumOk := true, udpLen := 50, ver := 1, phase := true, conn := 63, plen := 2, msn := 9, claim := 1, tagOk := true } : Packet).status = 0 ∧ ({ zPacket with fcsOk := true, csumOk := true, udpLen := 50, ver := 1, phase := true, conn := 63, plen := 2, msn := 9, claim := 1, tagOk := true } : Packet).claim ≠ 0 ∧ (tget wCemanorInitiator_1.cmn.claims ((wCemanorInitiator_1.conn (cmnIx ({ zPacket with fcsOk := true, csumOk := true, udpLen := 50, ver := 1, phase := true, conn := 63, plen := 2, msn := 9, claim := 1, tagOk := true } : Packet))).desc.peerNode.toNat / 2 * 16 + ({ zPacket with fcsOk := true, csumOk := true, udpLen := 50, ver := 1, phase := true, conn := 63, plen := 2, msn := 9, claim := 1, tagOk := true } : Packet).grp.val)).getD 0 ≤ ({ zPacket with fcsOk := true, csumOk := true, udpLen := 50, ver := 1, phase := true, conn := 63, plen := 2, msn := 9, claim := 1, tagOk := true } : Packet).claim.toNat) ∧
    (wCemanorInitiator_2.regsOk ∧ wCemanorInitiator_2.receives ({ zPacket with fcsOk := true, csumOk := true, udpLen := 49, ver := 1, conn := 1, plen := 1, msn := 10, claim := 1, grp := 10, tagOk := true } : Packet) true ∧ (wCemanorInitiator_2.conn (cmnIx ({ zPacket with fcsOk := true, csumOk := true, udpLen := 49, ver := 1, conn := 1, plen := 1, msn := 10, claim := 1, grp := 10, tagOk := true } : Packet))).inits.find? (fun mz => mz.msn == ({ zPacket with fcsOk := true, csumOk := true, udpLen := 49, ver := 1, conn := 1, plen := 1, msn := 10, claim := 1, grp := 10, tagOk := true } : Packet).msn.toNat) = some ({ zInitMsg with msn := 10, who := (InitBy.step 3 5 1), total := 1, rkey := 3, off := 4, got := [(3, ([], 6))], gotBytes := 4, worst := .accessViolation } : InitMsg) ∧ ({ zPacket with fcsOk := true, csumOk := true, udpLen := 49, ver := 1, conn := 1, plen := 1, msn := 10, claim := 1, grp := 10, tagOk := true } : Packet).claim ≠ 0 ∧ ({ zPacket with fcsOk := true, csumOk := true, udpLen := 49, ver := 1, conn := 1, plen := 1, msn := 10, claim := 1, grp := 10, tagOk := true } : Packet).claim.toNat < (tget wCemanorInitiator_2.cmn.claims ((wCemanorInitiator_2.conn (cmnIx ({ zPacket with fcsOk := true, csumOk := true, udpLen := 49, ver := 1, conn := 1, plen := 1, msn := 10, claim := 1, grp := 10, tagOk := true } : Packet))).desc.peerNode.toNat / 2 * 16 + ({ zPacket with fcsOk := true, csumOk := true, udpLen := 49, ver := 1, conn := 1, plen := 1, msn := 10, claim := 1, grp := 10, tagOk := true } : Packet).grp.val)).getD 0) ∧
    (wCemanorInitiator_3.regsOk ∧ wCemanorInitiator_3.receives ({ zPacket with fcsOk := true, csumOk := true, udpLen := 49, ver := 1, phase := true, conn := 7, plen := 1, msn := 10, status := 18, tagOk := true } : Packet) true ∧ (wCemanorInitiator_3.conn (cmnIx ({ zPacket with fcsOk := true, csumOk := true, udpLen := 49, ver := 1, phase := true, conn := 7, plen := 1, msn := 10, status := 18, tagOk := true } : Packet))).inits.find? (fun mz => mz.msn == ({ zPacket with fcsOk := true, csumOk := true, udpLen := 49, ver := 1, phase := true, conn := 7, plen := 1, msn := 10, status := 18, tagOk := true } : Packet).msn.toNat) = some ({ zInitMsg with msn := 10, who := (InitBy.step 3 0 2), read := true, total := 4096, rkey := 4, off := 2, got := [(0, ([], 0)), (1, ([3, 5, 162], 340282366920938463463374607431768211455))], gotBytes := 4096, worst := .timeout } : InitMsg) ∧ ({ zPacket with fcsOk := true, csumOk := true, udpLen := 49, ver := 1, phase := true, conn := 7, plen := 1, msn := 10, status := 18, tagOk := true } : Packet).claim = 0 ∧ ({ zPacket with fcsOk := true, csumOk := true, udpLen := 49, ver := 1, phase := true, conn := 7, plen := 1, msn := 10, status := 18, tagOk := true } : Packet).status.toNat = Status.keyStale.code ∧ (wCemanorInitiator_3.conn (cmnIx ({ zPacket with fcsOk := true, csumOk := true, udpLen := 49, ver := 1, phase := true, conn := 7, plen := 1, msn := 10, status := 18, tagOk := true } : Packet))).txMsn ≠ ({ zPacket with fcsOk := true, csumOk := true, udpLen := 49, ver := 1, phase := true, conn := 7, plen := 1, msn := 10, status := 18, tagOk := true } : Packet).msn.toNat) ∧
    (wCemanorInitiator_4.regsOk ∧ wCemanorInitiator_4.receives ({ zPacket with fcsOk := true, csumOk := true, udpLen := 112, ver := 1, conn := 4, plen := 64, msn := 5, claim := 1, tagOk := true, data := (List.replicate 64 7) } : Packet) true ∧ (wCemanorInitiator_4.conn (cmnIx ({ zPacket with fcsOk := true, csumOk := true, udpLen := 112, ver := 1, conn := 4, plen := 64, msn := 5, claim := 1, tagOk := true, data := (List.replicate 64 7) } : Packet))).inits.find? (fun mz => mz.msn == ({ zPacket with fcsOk := true, csumOk := true, udpLen := 112, ver := 1, conn := 4, plen := 64, msn := 5, claim := 1, tagOk := true, data := (List.replicate 64 7) } : Packet).msn.toNat) = some ({ zInitMsg with msn := 5, who := (InitBy.step 21 4096 7), read := true, total := 64, rkey := 21, off := 20 } : InitMsg) ∧ ({ zInitMsg with msn := 5, who := (InitBy.step 21 4096 7), read := true, total := 64, rkey := 21, off := 20 } : InitMsg).who = .step (21 : Nat) (4096 : Nat) (7 : Nat) ∧ ({ zInitMsg with msn := 5, who := (InitBy.step 21 4096 7), read := true, total := 64, rkey := 21, off := 20 } : InitMsg).read = true ∧ ({ zInitMsg with msn := 5, who := (InitBy.step 21 4096 7), read := true, total := 64, rkey := 21, off := 20 } : InitMsg).total = 64 ∧ ({ zInitMsg with msn := 5, who := (InitBy.step 21 4096 7), read := true, total := 64, rkey := 21, off := 20 } : InitMsg).got = [] ∧ ({ zInitMsg with msn := 5, who := (InitBy.step 21 4096 7), read := true, total := 64, rkey := 21, off := 20 } : InitMsg).gotBytes = 0 ∧ ({ zInitMsg with msn := 5, who := (InitBy.step 21 4096 7), read := true, total := 64, rkey := 21, off := 20 } : InitMsg).worst = .ok ∧ ({ zPacket with fcsOk := true, csumOk := true, udpLen := 112, ver := 1, conn := 4, plen := 64, msn := 5, claim := 1, tagOk := true, data := (List.replicate 64 7) } : Packet).data.length = 64 ∧ ({ zPacket with fcsOk := true, csumOk := true, udpLen := 112, ver := 1, conn := 4, plen := 64, msn := 5, claim := 1, tagOk := true, data := (List.replicate 64 7) } : Packet).moff = 0 ∧ wCemanorInitiator_4.cmd (21 : Nat) (4096 : Nat) = some ({ zCmd with qid := 21, cmdId := 4096, notify := true, cmd := (QCmd.copy 65541 65541 0 0 65536), tenant := 5, sclass := 100, fetched := 5, timeout := 8, sqHeadAfter := 1, low := 7, steps := [{ zStepRec with index := 7, state := (StepState.waiting 0), moverRetry := true, slow := .quotaExceeded, ran := 100, got := [(4, { zSectorVal with data := 6243497100631984462763194459586332611497196285329942301718313919250743477639531240240612206126983942319653862242813245790895951358576570612580352, poison := true })] }], fault := (some (4, (.timeout, 19))), slow := .mediaError, waitBlocks := [(1, 100)], refused := 65536, result := (some { zCmdResult with status := .aborted, result0 := 100, detail := 7, prefixLen := 19 }), barrier := (some 1), preempted := true, order := 21 } : Cmd) ∧ ({ zCmd with qid := 21, cmdId := 4096, notify := true, cmd := (QCmd.copy 65541 65541 0 0 65536), tenant := 5, sclass := 100, fetched := 5, timeout := 8, sqHeadAfter := 1, low := 7, steps := [{ zStepRec with index := 7, state := (StepState.waiting 0), moverRetry := true, slow := .quotaExceeded, ran := 100, got := [(4, { zSectorVal with data := 6243497100631984462763194459586332611497196285329942301718313919250743477639531240240612206126983942319653862242813245790895951358576570612580352, poison := true })] }], fault := (some (4, (.timeout, 19))), slow := .mediaError, waitBlocks := [(1, 100)], refused := 65536, result := (some { zCmdResult with status := .aborted, result0 := 100, detail := 7, prefixLen := 19 }), barrier := (some 1), preempted := true, order := 21 } : Cmd).step (7 : Nat) = some ({ zStepRec with index := 7, state := (StepState.waiting 0), moverRetry := true, slow := .quotaExceeded, ran := 100, got := [(4, { zSectorVal with data := 6243497100631984462763194459586332611497196285329942301718313919250743477639531240240612206126983942319653862242813245790895951358576570612580352, poison := true })] } : StepRec) ∧ ({ zCmd with qid := 21, cmdId := 4096, notify := true, cmd := (QCmd.copy 65541 65541 0 0 65536), tenant := 5, sclass := 100, fetched := 5, timeout := 8, sqHeadAfter := 1, low := 7, steps := [{ zStepRec with index := 7, state := (StepState.waiting 0), moverRetry := true, slow := .quotaExceeded, ran := 100, got := [(4, { zSectorVal with data := 6243497100631984462763194459586332611497196285329942301718313919250743477639531240240612206126983942319653862242813245790895951358576570612580352, poison := true })] }], fault := (some (4, (.timeout, 19))), slow := .mediaError, waitBlocks := [(1, 100)], refused := 65536, result := (some { zCmdResult with status := .aborted, result0 := 100, detail := 7, prefixLen := 19 }), barrier := (some 1), preempted := true, order := 21 } : Cmd).stop = false ∧ ({ zCmd with qid := 21, cmdId := 4096, notify := true, cmd := (QCmd.copy 65541 65541 0 0 65536), tenant := 5, sclass := 100, fetched := 5, timeout := 8, sqHeadAfter := 1, low := 7, steps := [{ zStepRec with index := 7, state := (StepState.waiting 0), moverRetry := true, slow := .quotaExceeded, ran := 100, got := [(4, { zSectorVal with data := 6243497100631984462763194459586332611497196285329942301718313919250743477639531240240612206126983942319653862242813245790895951358576570612580352, poison := true })] }], fault := (some (4, (.timeout, 19))), slow := .mediaError, waitBlocks := [(1, 100)], refused := 65536, result := (some { zCmdResult with status := .aborted, result0 := 100, detail := 7, prefixLen := 19 }), barrier := (some 1), preempted := true, order := 21 } : Cmd).cmd.stepStart (7 : Nat) % 64 = 0 ∧ ({ zPacket with fcsOk := true, csumOk := true, udpLen := 112, ver := 1, conn := 4, plen := 64, msn := 5, claim := 1, tagOk := true, data := (List.replicate 64 7) } : Packet).status = 0 ∧ ({ zPacket with fcsOk := true, csumOk := true, udpLen := 112, ver := 1, conn := 4, plen := 64, msn := 5, claim := 1, tagOk := true, data := (List.replicate 64 7) } : Packet).claim ≠ 0 ∧ (tget wCemanorInitiator_4.cmn.claims ((wCemanorInitiator_4.conn (cmnIx ({ zPacket with fcsOk := true, csumOk := true, udpLen := 112, ver := 1, conn := 4, plen := 64, msn := 5, claim := 1, tagOk := true, data := (List.replicate 64 7) } : Packet))).desc.peerNode.toNat / 2 * 16 + ({ zPacket with fcsOk := true, csumOk := true, udpLen := 112, ver := 1, conn := 4, plen := 64, msn := 5, claim := 1, tagOk := true, data := (List.replicate 64 7) } : Packet).grp.val)).getD 0 ≤ ({ zPacket with fcsOk := true, csumOk := true, udpLen := 112, ver := 1, conn := 4, plen := 64, msn := 5, claim := 1, tagOk := true, data := (List.replicate 64 7) } : Packet).claim.toNat) ∧
    (wCemanorInitiator_5.regsOk ∧ wCemanorInitiator_5.receives ({ zPacket with fcsOk := true, csumOk := true, udpLen := 51, ver := 1, phase := true, conn := 44, plen := 3, msn := 3, claim := 1, tagOk := true } : Packet) true ∧ (wCemanorInitiator_5.conn (cmnIx ({ zPacket with fcsOk := true, csumOk := true, udpLen := 51, ver := 1, phase := true, conn := 44, plen := 3, msn := 3, claim := 1, tagOk := true } : Packet))).inits.find? (fun mz => mz.msn == ({ zPacket with fcsOk := true, csumOk := true, udpLen := 51, ver := 1, phase := true, conn := 44, plen := 3, msn := 3, claim := 1, tagOk := true } : Packet).msn.toNat) = some ({ zInitMsg with msn := 3, who := (InitBy.step 4096 100 20), read := true, total := 65536, rkey := 3, off := 1, got := [(0, ([233, 153], 340282366920938463463374607431768211455))], gotBytes := 7, worst := .okSubstituted } : InitMsg) ∧ ({ zPacket with fcsOk := true, csumOk := true, udpLen := 51, ver := 1, phase := true, conn := 44, plen := 3, msn := 3, claim := 1, tagOk := true } : Packet).status = 0 ∧ ({ zPacket with fcsOk := true, csumOk := true, udpLen := 51, ver := 1, phase := true, conn := 44, plen := 3, msn := 3, claim := 1, tagOk := true } : Packet).claim ≠ 0 ∧ (tget wCemanorInitiator_5.cmn.claims ((wCemanorInitiator_5.conn (cmnIx ({ zPacket with fcsOk := true, csumOk := true, udpLen := 51, ver := 1, phase := true, conn := 44, plen := 3, msn := 3, claim := 1, tagOk := true } : Packet))).desc.peerNode.toNat / 2 * 16 + ({ zPacket with fcsOk := true, csumOk := true, udpLen := 51, ver := 1, phase := true, conn := 44, plen := 3, msn := 3, claim := 1, tagOk := true } : Packet).grp.val)).getD 0 ≤ ({ zPacket with fcsOk := true, csumOk := true, udpLen := 51, ver := 1, phase := true, conn := 44, plen := 3, msn := 3, claim := 1, tagOk := true } : Packet).claim.toNat ∧ ({ zInitMsg with msn := 3, who := (InitBy.step 4096 100 20), read := true, total := 65536, rkey := 3, off := 1, got := [(0, ([233, 153], 340282366920938463463374607431768211455))], gotBytes := 7, worst := .okSubstituted } : InitMsg).gotBytes + ({ zPacket with fcsOk := true, csumOk := true, udpLen := 51, ver := 1, phase := true, conn := 44, plen := 3, msn := 3, claim := 1, tagOk := true } : Packet).data.length < ({ zInitMsg with msn := 3, who := (InitBy.step 4096 100 20), read := true, total := 65536, rkey := 3, off := 1, got := [(0, ([233, 153], 340282366920938463463374607431768211455))], gotBytes := 7, worst := .okSubstituted } : InitMsg).total) ∧
    (wCemanorInitiator_6.regsOk ∧ wCemanorInitiator_6.receives ({ zPacket with fcsOk := true, csumOk := true, udpLen := 51, ver := 1, plen := 3, tagOk := true } : Packet) false ∧ (0 : BitVec 32) ≠ BitVec.allOnes 32 ∧ (wCemanorInitiator_6.conn (cmnIx ({ zPacket with fcsOk := true, csumOk := true, udpLen := 51, ver := 1, plen := 3, tagOk := true } : Packet))).txq = []) ∧
    (wCemanorInitiator_7.regsOk ∧ wCemanorInitiator_7.receives ({ zPacket with sublink := 3, fcsOk := true, csumOk := true, udpLen := 48, ver := 1, phase := true, conn := 4, tagOk := true } : Packet) false ∧ (wCemanorInitiator_7.conn (cmnIx ({ zPacket with sublink := 3, fcsOk := true, csumOk := true, udpLen := 48, ver := 1, phase := true, conn := 4, tagOk := true } : Packet))).txq = [] ∧ (wCemanorInitiator_7.conn (cmnIx ({ zPacket with sublink := 3, fcsOk := true, csumOk := true, udpLen := 48, ver := 1, phase := true, conn := 4, tagOk := true } : Packet))).unacked = [] ∧ (wCemanorInitiator_7.conn (cmnIx ({ zPacket with sublink := 3, fcsOk := true, csumOk := true, udpLen := 48, ver := 1, phase := true, conn := 4, tagOk := true } : Packet))).state = .down ∧ (wCemanorInitiator_7.conn (cmnIx ({ zPacket with sublink := 3, fcsOk := true, csumOk := true, udpLen := 48, ver := 1, phase := true, conn := 4, tagOk := true } : Packet))).pathOf ({ zPacket with sublink := 3, fcsOk := true, csumOk := true, udpLen := 48, ver := 1, phase := true, conn := 4, tagOk := true } : Packet) = some (2 : Nat) ∧ tget (wCemanorInitiator_7.conn (cmnIx ({ zPacket with sublink := 3, fcsOk := true, csumOk := true, udpLen := 48, ver := 1, phase := true, conn := 4, tagOk := true } : Packet))).paths (2 : Nat) = some ({ zPathRun with path := { zCmnPath with sublink := 3, ip := 8, mac := 4, vlan := (some 2048), srcPort := 24000 }, state := .down, window := 3, acked := 65536, ce := 3, rtos := 5, probes := 2, probeOut := true } : PathRun) ∧ ({ zPathRun with path := { zCmnPath with sublink := 3, ip := 8, mac := 4, vlan := (some 2048), srcPort := 24000 }, state := .down, window := 3, acked := 65536, ce := 3, rtos := 5, probes := 2, probeOut := true } : PathRun).state = .down ∧ ({ zPathRun with path := { zCmnPath with sublink := 3, ip := 8, mac := 4, vlan := (some 2048), srcPort := 24000 }, state := .down, window := 3, acked := 65536, ce := 3, rtos := 5, probes := 2, probeOut := true } : PathRun).probeOut = true ∧ ({ zPathRun with path := { zCmnPath with sublink := 3, ip := 8, mac := 4, vlan := (some 2048), srcPort := 24000 }, state := .down, window := 3, acked := 65536, ce := 3, rtos := 5, probes := 2, probeOut := true } : PathRun).probes = 2) ∧
    (wCemanorInitiator_8.regsOk ∧ wCemanorInitiator_8.receives ({ zPacket with fcsOk := true, csumOk := true, udpLen := 48, ver := 1, phase := true, conn := 7, tagOk := true } : Packet) false ∧ ((wCemanorInitiator_8.conn (cmnIx ({ zPacket with fcsOk := true, csumOk := true, udpLen := 48, ver := 1, phase := true, conn := 7, tagOk := true } : Packet))).unacked.find? fun xz => xz.pkt.psn.toNat == (4294967295 : BitVec 32).toNat && xz.phase == ({ zPacket with fcsOk := true, csumOk := true, udpLen := 48, ver := 1, phase := true, conn := 7, tagOk := true } : Packet).phase) = some ({ zTxPkt with op := 4096, phase := true, path := 20, sends := 64, pkt := { zPacket with eport := 3, sublink := 7, fcsOk := true, udpLen := 20, ver := 15, flagged := true, conn := 16777215, plen := 6, psn := 4294967295, msn := 1, rkey := 8388608, offset := 134217728, total := 131072, claim := 1, moff := 6, status := 232, grp := 10, poison := 6653329557120403400774381168234071207, enable := 36028797018963968 } } : TxPkt) ∧ ({ zTxPkt with op := 4096, phase := true, path := 20, sends := 64, pkt := { zPacket with eport := 3, sublink := 7, fcsOk := true, udpLen := 20, ver := 15, flagged := true, conn := 16777215, plen := 6, psn := 4294967295, msn := 1, rkey := 8388608, offset := 134217728, total := 131072, claim := 1, moff := 6, status := 232, grp := 10, poison := 6653329557120403400774381168234071207, enable := 36028797018963968 } } : TxPkt).sends < wCemanorInitiator_8.get CME.RETX_MAX 4 ∧ (wCemanorInitiator_8.conn (cmnIx ({ zPacket with fcsOk := true, csumOk := true, udpLen := 48, ver := 1, phase := true, conn := 7, tagOk := true } : Packet))).pick (some ({ zTxPkt with op := 4096, phase := true, path := 20, sends := 64, pkt := { zPacket with eport := 3, sublink := 7, fcsOk := true, udpLen := 20, ver := 15, flagged := true, conn := 16777215, plen := 6, psn := 4294967295, msn := 1, rkey := 8388608, offset := 134217728, total := 131072, claim := 1, moff := 6, status := 232, grp := 10, poison := 6653329557120403400774381168234071207, enable := 36028797018963968 } } : TxPkt).path) = some ((20 : Nat), ({ zPathRun with path := { zCmnPath with eport := 3, ip := 4, mac := 3, srcPort := 17714 }, window := 3, acked := 100, ce := 65536, probes := 4 } : PathRun)) ∧ tget (wCemanorInitiator_8.conn (cmnIx ({ zPacket with fcsOk := true, csumOk := true, udpLen := 48, ver := 1, phase := true, conn := 7, tagOk := true } : Packet))).paths ({ zTxPkt with op := 4096, phase := true, path := 20, sends := 64, pkt := { zPacket with eport := 3, sublink := 7, fcsOk := true, udpLen := 20, ver := 15, flagged := true, conn := 16777215, plen := 6, psn := 4294967295, msn := 1, rkey := 8388608, offset := 134217728, total := 131072, claim := 1, moff := 6, status := 232, grp := 10, poison := 6653329557120403400774381168234071207, enable := 36028797018963968 } } : TxPkt).path = some ({ zPathRun with path := { zCmnPath with eport := 3, ip := 4, mac := 3, srcPort := 17714 }, window := 3, acked := 100, ce := 65536, probes := 4 } : PathRun)) ∧
    (wCemanorInitiator_9.regsOk ∧ wCemanorInitiator_9.receives ({ zPacket with fcsOk := true, csumOk := true, udpLen := 51, ver := 1, conn := 8, plen := 3, msn := 10, tagOk := true } : Packet) false ∧ (wCemanorInitiator_9.conn (cmnIx ({ zPacket with fcsOk := true, csumOk := true, udpLen := 51, ver := 1, conn := 8, plen := 3, msn := 10, tagOk := true } : Packet))).inits.find? (fun mz => mz.msn == ({ zPacket with fcsOk := true, csumOk := true, udpLen := 51, ver := 1, conn := 8, plen := 3, msn := 10, tagOk := true } : Packet).msn.toNat) = some ({ zInitMsg with msn := 10, who := (InitBy.foreign 4096 21 100), total := 8, rkey := 20, off := 5, got := [(0, ([6, 0, 1], 5))], gotBytes := 19, worst := .aborted } : InitMsg) ∧ ({ zInitMsg with msn := 10, who := (InitBy.foreign 4096 21 100), total := 8, rkey := 20, off := 5, got := [(0, ([6, 0, 1], 5))], gotBytes := 19, worst := .aborted } : InitMsg).who = .foreign (4096 : Nat) (21 : Nat) (100 : Nat) ∧ (80 : BitVec 8).toNat = Status.fenced.code ∧ (wCemanorInitiator_9.conn (cmnIx ({ zPacket with fcsOk := true, csumOk := true, udpLen := 51, ver := 1, conn := 8, plen := 3, msn := 10, tagOk := true } : Packet))).txMsn ≠ ({ zPacket with fcsOk := true, csumOk := true, udpLen := 51, ver := 1, conn := 8, plen := 3, msn := 10, tagOk := true } : Packet).msn.toNat) ∧
    (wCemanorInitiator_10.regsOk ∧ wCemanorInitiator_10.receives ({ zPacket with fcsOk := true, csumOk := true, udpLen := 51, ver := 1, conn := 63, plen := 3, tagOk := true } : Packet) false ∧ tget (wCemanorInitiator_10.conn (cmnIx ({ zPacket with fcsOk := true, csumOk := true, udpLen := 51, ver := 1, conn := 63, plen := 3, tagOk := true } : Packet))).paths (3 : Fin 8).val = some ({ zPathRun with path := { zCmnPath with eport := 3, sublink := 2, ip := 2, mac := 8, vlan := (some 4), srcPort := 65535 }, state := .down, window := 4096, acked := 2, ce := 21, rtos := 19, probes := 20 } : PathRun)) ∧
    (wCemanorInitiator_11.regsOk ∧ wCemanorInitiator_11.receives ({ zPacket with fcsOk := true, csumOk := true, udpLen := 48, ver := 1, conn := 21, tagOk := true } : Packet) false ∧ (wCemanorInitiator_11.conn (cmnIx ({ zPacket with fcsOk := true, csumOk := true, udpLen := 48, ver := 1, conn := 21, tagOk := true } : Packet))).txq = [] ∧ (if (wCemanorInitiator_11.conn (cmnIx ({ zPacket with fcsOk := true, csumOk := true, udpLen := 48, ver := 1, conn := 21, tagOk := true } : Packet))).phase then (wCemanorInitiator_11.conn (cmnIx ({ zPacket with fcsOk := true, csumOk := true, udpLen := 48, ver := 1, conn := 21, tagOk := true } : Packet))).keys0.isSome else (wCemanorInitiator_11.conn (cmnIx ({ zPacket with fcsOk := true, csumOk := true, udpLen := 48, ver := 1, conn := 21, tagOk := true } : Packet))).keys1.isSome) = true) ∧
    (wCemanorInitiator_12.regsOk ∧ wCemanorInitiator_12.receives ({ zPacket with fcsOk := true, csumOk := true, udpLen := 49, ver := 1, conn := 3, plen := 1, tagOk := true } : Packet) false ∧ (wCemanorInitiator_12.conn (cmnIx ({ zPacket with fcsOk := true, csumOk := true, udpLen := 49, ver := 1, conn := 3, plen := 1, tagOk := true } : Packet))).state ≠ .closing) ∧
    (wCemanorInitiator_13.regsOk ∧ (wCemanorInitiator_13.conn (1 : BitVec 20).toNat).inits.find? (fun mz => mz.msn == (3 : BitVec 32).toNat) = some ({ zInitMsg with msn := 3, who := (InitBy.step 4096 65536 8), read := true, rkey := 1, off := 4, got := [(1, ([], 4)), (4, ([8, 158, 2], 5))], gotBytes := 4, worst := .accessViolation } : InitMsg) ∧ ({ zInitMsg with msn := 3, who := (InitBy.step 4096 65536 8), read := true, rkey := 1, off := 4, got := [(1, ([], 4)), (4, ([8, 158, 2], 5))], gotBytes := 4, worst := .accessViolation } : InitMsg).who = .step (4096 : Nat) (65536 : Nat) (8 : Nat) ∧ wCemanorInitiator_13.cmd (4096 : Nat) (65536 : Nat) = some ({ zCmd with qid := 4096, cmdId := 65536, cmd := (QCmd.abort 65535), tenant := 1, sclass := 20, fetched := 5, timeout := 4, sqHeadAfter := 8, low := 1, complete := [1], steps := [{ zStepRec with index := 8, state := (StepState.waiting 2), moverRetry := true, avoid := (some 0), slow := .incompleteMessage, ran := 8, got := [(3, { zSectorVal with data := 604462909807314587353088, poison := true })] }], slow := .aborted, poisoned := (some 8), waitBlocks := [(2, 3), (4, 8)], refused := 5, raiseErr := (some (2, .incompleteMessage)), ended := (some .okSlowPath), result := (some { zCmdResult with status := .lengthError, result0 := 3, detail := 65536, prefixLen := 8 }), barrier := (some 20), order := 7 } : Cmd) ∧ ({ zCmd with qid := 4096, cmdId := 65536, cmd := (QCmd.abort 65535), tenant := 1, sclass := 20, fetched := 5, timeout := 4, sqHeadAfter := 8, low := 1, complete := [1], steps := [{ zStepRec with index := 8, state := (StepState.waiting 2), moverRetry := true, avoid := (some 0), slow := .incompleteMessage, ran := 8, got := [(3, { zSectorVal with data := 604462909807314587353088, poison := true })] }], slow := .aborted, poisoned := (some 8), waitBlocks := [(2, 3), (4, 8)], refused := 5, raiseErr := (some (2, .incompleteMessage)), ended := (some .okSlowPath), result := (some { zCmdResult with status := .lengthError, result0 := 3, detail := 65536, prefixLen := 8 }), barrier := (some 20), order := 7 } : Cmd).step (8 : Nat) = some ({ zStepRec with index := 8, state := (StepState.waiting 2), moverRetry := true, avoid := (some 0), slow := .incompleteMessage, ran := 8, got := [(3, { zSectorVal with data := 604462909807314587353088, poison := true })] } : StepRec) ∧ ({ zCmd with qid := 4096, cmdId := 65536, cmd := (QCmd.abort 65535), tenant := 1, sclass := 20, fetched := 5, timeout := 4, sqHeadAfter := 8, low := 1, complete := [1], steps := [{ zStepRec with index := 8, state := (StepState.waiting 2), moverRetry := true, avoid := (some 0), slow := .incompleteMessage, ran := 8, got := [(3, { zSectorVal with data := 604462909807314587353088, poison := true })] }], slow := .aborted, poisoned := (some 8), waitBlocks := [(2, 3), (4, 8)], refused := 5, raiseErr := (some (2, .incompleteMessage)), ended := (some .okSlowPath), result := (some { zCmdResult with status := .lengthError, result0 := 3, detail := 65536, prefixLen := 8 }), barrier := (some 20), order := 7 } : Cmd).stop = false ∧ ({ zStepRec with index := 8, state := (StepState.waiting 2), moverRetry := true, avoid := (some 0), slow := .incompleteMessage, ran := 8, got := [(3, { zSectorVal with data := 604462909807314587353088, poison := true })] } : StepRec).remoteRetry = false) ∧
    (wCemanorInitiator_14.regsOk ∧ (wCemanorInitiator_14.conn (541362 : BitVec 20).toNat).state = .opened ∧ ((wCemanorInitiator_14.conn (541362 : BitVec 20).toNat).unacked.find? fun xz => xz.pkt.psn == (7 : BitVec 32)) = some ({ zTxPkt with op := 64, path := 5, sends := 8, pkt := { zPacket with eport := 3, sublink := 6, udpLen := 21, ver := 6, first := true, flagged := true, phase := true, conn := 7947763, plen := 65535, psn := 7, msn := 4294967295, rkey := 3398991017, offset := 6, total := 16777215, claim := 7, moff := 2097152, status := 15, grp := 14, poison := 340282366920938463463374607431768211455, enable := 16384, data := [1, 8, 255] } } : TxPkt) ∧ tget (wCemanorInitiator_14.conn (541362 : BitVec 20).toNat).paths ({ zTxPkt with op := 64, path := 5, sends := 8, pkt := { zPacket with eport := 3, sublink := 6, udpLen := 21, ver := 6, first := true, flagged := true, phase := true, conn := 7947763, plen := 65535, psn := 7, msn := 4294967295, rkey := 3398991017, offset := 6, total := 16777215, claim := 7, moff := 2097152, status := 15, grp := 14, poison := 340282366920938463463374607431768211455, enable := 16384, data := [1, 8, 255] } } : TxPkt).path = some ({ zPathRun with path := { zCmnPath with eport := 3, ip := 154509377814011597177810045577538414356, mac := 281474976710655, vlan := (some 65535) }, window := 3, acked := 2, ce := 19, probes := 7 } : PathRun) ∧ ({ zPathRun with path := { zCmnPath with eport := 3, ip := 154509377814011597177810045577538414356, mac := 281474976710655, vlan := (some 65535) }, window := 3, acked := 2, ce := 19, probes := 7 } : PathRun).state = .active ∧ ({ zPathRun with path := { zCmnPath with eport := 3, ip := 154509377814011597177810045577538414356, mac := 281474976710655, vlan := (some 65535) }, window := 3, acked := 2, ce := 19, probes := 7 } : PathRun).rtos = 0 ∧ (21 : Nat) ≠ ({ zTxPkt with op := 64, path := 5, sends := 8, pkt := { zPacket with eport := 3, sublink := 6, udpLen := 21, ver := 6, first := true, flagged := true, phase := true, conn := 7947763, plen := 65535, psn := 7, msn := 4294967295, rkey := 3398991017, offset := 6, total := 16777215, claim := 7, moff := 2097152, status := 15, grp := 14, poison := 340282366920938463463374607431768211455, enable := 16384, data := [1, 8, 255] } } : TxPkt).path ∧ tget (wCemanorInitiator_14.conn (541362 : BitVec 20).toNat).paths (21 : Nat) = some ({ zPathRun with path := { zCmnPath with eport := 3, sublink := 7, ipv6 := true, ip := 1, mac := 68719476736, vlan := (some 64), srcPort := 2 }, window := 5, ce := 1, probes := 4096, probeOut := true } : PathRun) ∧ ({ zPathRun with path := { zCmnPath with eport := 3, sublink := 7, ipv6 := true, ip := 1, mac := 68719476736, vlan := (some 64), srcPort := 2 }, window := 5, ce := 1, probes := 4096, probeOut := true } : PathRun).state = .active ∧ ({ zTxPkt with op := 64, path := 5, sends := 8, pkt := { zPacket with eport := 3, sublink := 6, udpLen := 21, ver := 6, first := true, flagged := true, phase := true, conn := 7947763, plen := 65535, psn := 7, msn := 4294967295, rkey := 3398991017, offset := 6, total := 16777215, claim := 7, moff := 2097152, status := 15, grp := 14, poison := 340282366920938463463374607431768211455, enable := 16384, data := [1, 8, 255] } } : TxPkt).sends < wCemanorInitiator_14.get CME.RETX_MAX 4) ∧
    (wCemanorInitiator_15.regsOk ∧ (wCemanorInitiator_15.conn (2 : BitVec 20).toNat).state = .opened ∧ ((wCemanorInitiator_15.conn (2 : BitVec 20).toNat).unacked.find? fun xz => xz.pkt.psn == (1 : BitVec 32)) = some ({ zTxPkt with op := 64, path := 5, sends := 21, pkt := { zPacket with sublink := 3, fcsOk := true, udpLen := 4, ver := 2, first := true, final := true, conn := 13163550, plen := 8, psn := 1, msn := 5, rkey := 827955167, total := 6, claim := 2000863265377774771, moff := 16777215, status := 1, grp := 9, tagOk := true, enable := 8, data := [6] } } : TxPkt) ∧ (wCemanorInitiator_15.conn (2 : BitVec 20).toNat).paths = [(({ zTxPkt with op := 64, path := 5, sends := 21, pkt := { zPacket with sublink := 3, fcsOk := true, udpLen := 4, ver := 2, first := true, final := true, conn := 13163550, plen := 8, psn := 1, msn := 5, rkey := 827955167, total := 6, claim := 2000863265377774771, moff := 16777215, status := 1, grp := 9, tagOk := true, enable := 8, data := [6] } } : TxPkt).path, ({ zPathRun with path := { zCmnPath with eport := 1, sublink := 5, ip := 6, mac := 16384, srcPort := 13329 }, state := .suspect, window := 3, acked := 65536, ce := 100, rtos := 2, probes := 7 } : PathRun))] ∧ ({ zPathRun with path := { zCmnPath with eport := 1, sublink := 5, ip := 6, mac := 16384, srcPort := 13329 }, state := .suspect, window := 3, acked := 65536, ce := 100, rtos := 2, probes := 7 } : PathRun).state ≠ .down ∧ ({ zPathRun with path := { zCmnPath with eport := 1, sublink := 5, ip := 6, mac := 16384, srcPort := 13329 }, state := .suspect, window := 3, acked := 65536, ce := 100, rtos := 2, probes := 7 } : PathRun).rtos = 2) ∧
    (wCemanorInitiator_16.regsOk ∧ (wCemanorInitiator_16.conn (78246 : BitVec 20).toNat).live = true ∧ tget (wCemanorInitiator_16.conn (78246 : BitVec 20).toNat).paths (5 : Fin 8).val = some ({ zPathRun with path := { zCmnPath with sublink := 2, ipv6 := true, ip := 2, mac := 274621616583107, srcPort := 8 }, state := .down, window := 2, acked := 8, ce := 5, rtos := 65536, probeOut := true } : PathRun) ∧ ({ zPathRun with path := { zCmnPath with sublink := 2, ipv6 := true, ip := 2, mac := 274621616583107, srcPort := 8 }, state := .down, window := 2, acked := 8, ce := 5, rtos := 65536, probeOut := true } : PathRun).state = .down) :=
  ⟨⟨by rw [regsOk_iff]; decide +kernel, by simp only [State.receives]; decide +kernel, by decide +kernel⟩,
   ⟨by rw [regsOk_iff]; decide +kernel, by simp only [State.receives]; decide +kernel, by decide +kernel⟩,
   ⟨by rw [regsOk_iff]; decide +kernel, by simp only [State.receives]; decide +kernel, by decide +kernel⟩,
   ⟨by rw [regsOk_iff]; decide +kernel, by simp only [State.receives]; decide +kernel, by decide +kernel⟩,
   ⟨by rw [regsOk_iff]; decide +kernel, by simp only [State.receives]; decide +kernel, by decide +kernel⟩,
   ⟨by rw [regsOk_iff]; decide +kernel, by simp only [State.receives]; decide +kernel, by decide +kernel⟩,
   ⟨by rw [regsOk_iff]; decide +kernel, by simp only [State.receives]; decide +kernel, by decide +kernel⟩,
   ⟨by rw [regsOk_iff]; decide +kernel, by simp only [State.receives]; decide +kernel, by decide +kernel⟩,
   ⟨by rw [regsOk_iff]; decide +kernel, by simp only [State.receives]; decide +kernel, by decide +kernel⟩,
   ⟨by rw [regsOk_iff]; decide +kernel, by simp only [State.receives]; decide +kernel, by decide +kernel⟩,
   ⟨by rw [regsOk_iff]; decide +kernel, by simp only [State.receives]; decide +kernel, by decide +kernel⟩,
   ⟨by rw [regsOk_iff]; decide +kernel, by simp only [State.receives]; decide +kernel, by decide +kernel⟩,
   ⟨by rw [regsOk_iff]; decide +kernel, by decide +kernel⟩,
   ⟨by rw [regsOk_iff]; decide +kernel, by decide +kernel⟩,
   ⟨by rw [regsOk_iff]; decide +kernel, by decide +kernel⟩,
   (by simp only [regsOk_iff]; decide +kernel)⟩

def wCemanorConnections_1 : State :=
  { State.reset with regs := [(302121089, 1)], cmn.conns := [(811210, { zConn with desc := { zConnDesc with paths := [(2, { zCmnPath with sublink := 2, ip := 1, mac := 1, vlan := (some 65535), srcPort := 1024 })] }, keys0 := (some zConnKeys) })] }
def wCemanorConnections_2 : State :=
  { State.reset with regs := [(302121089, 1)], cmn.conns := [(4, { zConn with state := .opened, paths := [(0, { zPathRun with state := .down })] })] }
def wCemanorConnections_3 : State :=
  { State.reset with regs := [(302121089, 1)], cmn.conns := [(616479, { zConn with state := .error })] }
def wCemanorConnections_4 : State :=
  { State.reset with regs := [(302121089, 1)], cmn.conns := [(302593, { zConn with state := .opened, keys1 := (some zConnKeys), paths := [(0, zPathRun)] })] }
def wCemanorConnections_5 : State :=
  { State.reset with regs := [(201328668, 1)], nvs.image := { zSettings with dev := (some { zDevConfig with nodeId := 21, nodeValid := true, userBlks := 7, hrvReserve := 100, roMin := 4 }) } }
def wCemanorConnections_6 : State :=
  { State.reset with cmn.conns := [(1048575, { zConn with state := .closing })] }
def wCemanorConnections_8 : State :=
  { State.reset with regs := [(302057480, 1)] }
theorem test_CemanorConnections :
    (wCemanorConnections_1.regsOk ∧ wCemanorConnections_1.commands ((Requester.warden) : Requester) cmePage ∧ (wCemanorConnections_1.conn (811210 : BitVec 20).toNat).state = .free ∧ (∀ u, (wCemanorConnections_1.conn (811210 : BitVec 20).toNat).freedAt = some u → u + 10 ^ 9 ≤ wCemanorConnections_1.timeNs) ∧ (wCemanorConnections_1.conn (811210 : BitVec 20).toNat).keys0.isSome = true ∧ wCemanorConnections_1.connCount < 524288 ∧ (wCemanorConnections_1.conn (811210 : BitVec 20).toNat).desc.paths = [((2 : Fin 8), ({ zCmnPath with sublink := 2, ip := 1, mac := 1, vlan := (some 65535), srcPort := 1024 } : CmnPath))]) ∧
    (wCemanorConnections_2.regsOk ∧ wCemanorConnections_2.commands ((Requester.warden) : Requester) cmePage ∧ (wCemanorConnections_2.conn (4 : BitVec 20).toNat).state = .opened ∧ (wCemanorConnections_2.conn (4 : BitVec 20).toNat).paths ≠ []) ∧
    (wCemanorConnections_3.regsOk ∧ wCemanorConnections_3.commands ((Requester.warden) : Requester) cmePage ∧ (wCemanorConnections_3.conn (616479 : BitVec 20).toNat).state = .error) ∧
    (wCemanorConnections_4.regsOk ∧ wCemanorConnections_4.commands ((Requester.warden) : Requester) cmePage ∧ (wCemanorConnections_4.conn (302593 : BitVec 20).toNat).state = .opened ∧ (wCemanorConnections_4.conn (302593 : BitVec 20).toNat).phase = false ∧ (wCemanorConnections_4.conn (302593 : BitVec 20).toNat).keys1.isSome = true ∧ (wCemanorConnections_4.conn (302593 : BitVec 20).toNat).nextReady = false ∧ (wCemanorConnections_4.conn (302593 : BitVec 20).toNat).paths ≠ []) ∧
    (wCemanorConnections_5.regsOk ∧ wCemanorConnections_5.accepts ({ zTaraiviHdr with role := 2, tagOk := true } : TaraiviHdr) roleDomain ∧ wCemanorConnections_5.nvs.image.dev = some ({ zDevConfig with nodeId := 21, nodeValid := true, userBlks := 7, hrvReserve := 100, roMin := 4 } : DevConfig) ∧ ({ zDevConfig with nodeId := 21, nodeValid := true, userBlks := 7, hrvReserve := 100, roMin := 4 } : DevConfig).nodeValid = true ∧ (wCemanorConnections_5.conn (0 : BitVec 20).toNat).state = .free ∧ (∀ u, (wCemanorConnections_5.conn (0 : BitVec 20).toNat).freedAt = some u → u + 10 ^ 9 ≤ wCemanorConnections_5.timeNs) ∧ (wCemanorConnections_5.putConn (0 : BitVec 20).toNat { wCemanorConnections_5.conn (0 : BitVec 20).toNat with desc := (zConnDesc : ConnDesc), keys0 := some (zConnKeys : ConnKeys), keys1 := none }).connCount < 524288) ∧
    (wCemanorConnections_6.regsOk ∧ (wCemanorConnections_6.conn (1048575 : BitVec 20).toNat).state = .closing) ∧
    (State.reset.regsOk) ∧
    (wCemanorConnections_8.regsOk ∧ wCemanorConnections_8.flag CMP.PFC_EN (2 : EPort).val = true ∧ wCemanorConnections_8.get CMP.PFC_PRIO (2 : EPort).val < 8) ∧
    (State.reset.regsOk ∧ State.reset.get CMP.PFC_PRIO (0 : EPort).val < 8) ∧
    (State.reset.regsOk ∧ State.reset.clk.pllDown.contains (14 + (0 : EPort).val) = false) ∧
    (State.reset.regsOk) :=
  ⟨(by simp only [regsOk_iff, State.commands, State.governs, State.admits, State.wayClear]; decide +kernel),
   (by simp only [regsOk_iff, State.commands, State.governs, State.admits, State.wayClear]; decide +kernel),
   (by simp only [regsOk_iff, State.commands, State.governs, State.admits, State.wayClear]; decide +kernel),
   (by simp only [regsOk_iff, State.commands, State.governs, State.admits, State.wayClear]; decide +kernel),
   (by simp only [regsOk_iff, accepts_iff]; decide +kernel),
   (by simp only [regsOk_iff]; decide +kernel),
   (by simp only [regsOk_iff]; decide +kernel),
   (by simp only [regsOk_iff]; decide +kernel),
   (by simp only [regsOk_iff]; decide +kernel),
   (by simp only [regsOk_iff]; decide +kernel),
   (by simp only [regsOk_iff]; decide +kernel)⟩

def wCipherJobs_4 : State :=
  { State.reset with regs := [(310378625, 1)] }
def wCipherJobs_5 : State :=
  { State.reset with regs := [(268438560, 1)], cip.job := (some { zCipJob with op := 1, key := 64 }) }
def wCipherJobs_8 : State :=
  { State.reset with regs := [(268438560, 1), (310381184, 512)], cip.job := (some { zCipJob with op := 3, key := 65536 }) }
def wCipherJobs_9 : State :=
  { State.reset with regs := [(268438560, 1), (310381184, 512)], cip.job := (some { zCipJob with op := 4, key := 3 }) }
def wCipherJobs_10 : State :=
  { State.reset with cip.job := (some { zCipJob with op := 3, key := 21 }) }
def wCipherJobs_12 : State :=
  { State.reset with regs := [(310378625, 1)] }
theorem test_CipherJobs :
    (wCipherJobs_4.regsOk ∧ wCipherJobs_4.commands ((Requester.warden) : Requester) cipPage ∧ wCipherJobs_4.flag CIP.BUSY = false ∧ wCipherJobs_4.get CIP.KEY_SLOT < 16 ∧ wCipherJobs_4.get CIP.AAD_LEN < 1024) ∧
    (wCipherJobs_4.regsOk ∧ wCipherJobs_4.commands ((Requester.warden) : Requester) cipPage ∧ wCipherJobs_4.flag CIP.BUSY = false ∧ wCipherJobs_4.get CIP.KEY_SLOT < 16 ∧ wCipherJobs_4.get CIP.AAD_LEN < 1024) ∧
    (wCipherJobs_4.regsOk ∧ wCipherJobs_4.commands ((Requester.warden) : Requester) cipPage ∧ wCipherJobs_4.flag CIP.BUSY = false ∧ wCipherJobs_4.get CIP.KEY_SLOT < 16 ∧ wCipherJobs_4.get CIP.AAD_LEN < 1024) ∧
    (wCipherJobs_4.regsOk ∧ wCipherJobs_4.commands ((Requester.warden) : Requester) cipPage ∧ wCipherJobs_4.flag CIP.BUSY = false ∧ wCipherJobs_4.get CIP.KEY_SLOT < 16 ∧ wCipherJobs_4.get CIP.AAD_LEN < 1024) ∧
    (wCipherJobs_5.regsOk ∧ wCipherJobs_5.cip.job = some ({ zCipJob with op := 1, key := 64 } : CipJob) ∧ ({ zCipJob with op := 1, key := 64 } : CipJob).op = 1 ∧ wCipherJobs_5.get CIP.JOB_LEN ≤ 65536 ∧ wCipherJobs_5.get CIP.AAD_LEN ≤ 512 ∧ wCipherJobs_5.inMem (wCipherJobs_5.get CIP.JOB_SRC) (wCipherJobs_5.get CIP.AAD_LEN + wCipherJobs_5.get CIP.JOB_LEN) = true ∧ wCipherJobs_5.inMem (wCipherJobs_5.get CIP.JOB_DST) (wCipherJobs_5.get CIP.JOB_LEN + 16) = true ∧ wCipherJobs_5.plain (wCipherJobs_5.get CIP.JOB_DST) (wCipherJobs_5.get CIP.JOB_LEN + 16)) ∧
    (wCipherJobs_8.regsOk ∧ wCipherJobs_8.cip.job = some ({ zCipJob with op := 3, key := 65536 } : CipJob) ∧ ({ zCipJob with op := 3, key := 65536 } : CipJob).op = 3 ∧ 512 ≤ wCipherJobs_8.get CIP.JOB_LEN ∧ wCipherJobs_8.get CIP.JOB_LEN ≤ 65536 ∧ wCipherJobs_8.get CIP.JOB_LEN % 16 = 0 ∧ wCipherJobs_8.inMem (wCipherJobs_8.get CIP.JOB_SRC) (wCipherJobs_8.get CIP.JOB_LEN) = true ∧ wCipherJobs_8.inMem (wCipherJobs_8.get CIP.JOB_DST) (wCipherJobs_8.get CIP.JOB_LEN) = true ∧ wCipherJobs_8.plain (wCipherJobs_8.get CIP.JOB_DST) (wCipherJobs_8.get CIP.JOB_LEN)) ∧
    (wCipherJobs_9.regsOk ∧ wCipherJobs_9.cip.job = some ({ zCipJob with op := 4, key := 3 } : CipJob) ∧ ({ zCipJob with op := 4, key := 3 } : CipJob).op = 4 ∧ 512 ≤ wCipherJobs_9.get CIP.JOB_LEN ∧ wCipherJobs_9.get CIP.JOB_LEN ≤ 65536 ∧ wCipherJobs_9.get CIP.JOB_LEN % 16 = 0 ∧ wCipherJobs_9.inMem (wCipherJobs_9.get CIP.JOB_SRC) (wCipherJobs_9.get CIP.JOB_LEN) = true ∧ wCipherJobs_9.inMem (wCipherJobs_9.get CIP.JOB_DST) (wCipherJobs_9.get CIP.JOB_LEN) = true ∧ wCipherJobs_9.plain (wCipherJobs_9.get CIP.JOB_DST) (wCipherJobs_9.get CIP.JOB_LEN)) ∧
    (wCipherJobs_10.regsOk ∧ wCipherJobs_10.cip.job = some ({ zCipJob with op := 3, key := 21 } : CipJob) ∧ (({ zCipJob with op := 3, key := 21 } : CipJob).op ≤ 2 ∧ (65536 < wCipherJobs_10.get CIP.JOB_LEN ∨ 512 < wCipherJobs_10.get CIP.AAD_LEN)) ∨ (2 < ({ zCipJob with op := 3, key := 21 } : CipJob).op ∧ (wCipherJobs_10.get CIP.JOB_LEN < 512 ∨ 65536 < wCipherJobs_10.get CIP.JOB_LEN ∨ wCipherJobs_10.get CIP.JOB_LEN % 16 ≠ 0))) ∧
    (State.reset.regsOk ∧ State.reset.bitOf CIP.LANES_OK (0 : Fin 24).val = true) ∧
    (wCipherJobs_12.regsOk ∧ wCipherJobs_12.commands ((Requester.warden) : Requester) cipPage) :=
  ⟨(by simp only [regsOk_iff, State.commands, State.governs, State.admits, State.wayClear]; decide +kernel),
   (by simp only [regsOk_iff, State.commands, State.governs, State.admits, State.wayClear]; decide +kernel),
   (by simp only [regsOk_iff, State.commands, State.governs, State.admits, State.wayClear]; decide +kernel),
   (by simp only [regsOk_iff, State.commands, State.governs, State.admits, State.wayClear]; decide +kernel),
   ⟨by rw [regsOk_iff]; decide +kernel, by decide +kernel, by decide +kernel, show _ by decide +kernel, by decide +kernel, by decide +kernel, show _ by decide +kernel, by simp only [State.plain]; decide +kernel⟩,
   ⟨by rw [regsOk_iff]; decide +kernel, by decide +kernel, by decide +kernel, show _ by decide +kernel, by decide +kernel, by decide +kernel, show _ by decide +kernel, by decide +kernel, by simp only [State.plain]; decide +kernel⟩,
   ⟨by rw [regsOk_iff]; decide +kernel, by decide +kernel, by decide +kernel, show _ by decide +kernel, by decide +kernel, by decide +kernel, show _ by decide +kernel, by decide +kernel, by simp only [State.plain]; decide +kernel⟩,
   (by simp only [regsOk_iff]; decide +kernel),
   (by simp only [regsOk_iff]; decide +kernel),
   (by simp only [regsOk_iff, State.commands, State.governs, State.admits, State.wayClear]; decide +kernel)⟩

def wHashEngines_4 : State :=
  { State.reset with regs := [(318767233, 1)] }
def wHashEngines_5 : State :=
  { State.reset with regs := [(318767233, 1)] }
def wHashEngines_6 : State :=
  { State.reset with regs := [(318767233, 1)] }
def wHashEngines_7 : State :=
  { State.reset with regs := [(318767233, 1)] }
def wHashEngines_8 : State :=
  { State.reset with regs := [(268438560, 1), (318769884, 1), (318769919, 1)] }
def wHashEngines_9 : State :=
  { State.reset with regs := [(268438560, 1), (318769884, 2), (318769919, 1)] }
def wHashEngines_10 : State :=
  { State.reset with regs := [(268438560, 1), (318769884, 3), (318769919, 1)] }
def wHashEngines_11 : State :=
  { State.reset with regs := [(268438560, 1), (318769824, 1), (318769884, 4), (318769919, 1)] }
def wHashEngines_12 : State :=
  { State.reset with regs := [(268438560, 1), (318771420, 8), (318771455, 1)] }
def wHashEngines_13 : State :=
  { State.reset with regs := [(268438560, 1), (318771420, 9), (318771455, 1)] }
def wHashEngines_14 : State :=
  { State.reset with regs := [(268438560, 1), (318771420, 9), (318771455, 1)] }
def wHashEngines_15 : State :=
  { State.reset with regs := [(268438560, 1), (318771420, 10), (318771455, 1)] }
def wHashEngines_16 : State :=
  { State.reset with regs := [(318771455, 1)] }
theorem test_HashEngines :
    (wHashEngines_4.regsOk ∧ wHashEngines_4.admits ((Requester.warden) : Requester) hshPage ∧ wHashEngines_4.takes hshPage ∧ (0 : Fin 5).val < 4 ∧ wHashEngines_4.flag HSH.BUSY 0 (0 : Fin 5).val = false) ∧
    (wHashEngines_4.regsOk ∧ wHashEngines_4.admits ((Requester.warden) : Requester) hshPage ∧ wHashEngines_4.takes hshPage ∧ (0 : Fin 5).val < 4 ∧ wHashEngines_4.flag HSH.BUSY 0 (0 : Fin 5).val = false) ∧
    (wHashEngines_4.regsOk ∧ wHashEngines_4.admits ((Requester.warden) : Requester) hshPage ∧ wHashEngines_4.takes hshPage ∧ (0 : Fin 5).val < 4 ∧ wHashEngines_4.flag HSH.BUSY 0 (0 : Fin 5).val = false) ∧
    (wHashEngines_4.regsOk ∧ wHashEngines_4.admits ((Requester.warden) : Requester) hshPage ∧ wHashEngines_4.takes hshPage ∧ (0 : Fin 5).val < 4 ∧ wHashEngines_4.flag HSH.BUSY 0 (0 : Fin 5).val = false) ∧
    (wHashEngines_5.regsOk ∧ wHashEngines_5.admits ((Requester.warden) : Requester) hshPage ∧ wHashEngines_5.takes hshPage ∧ (4 : Fin 5).val = 4 ∧ wHashEngines_5.flag HSH.BUSY 0 (4 : Fin 5).val = false) ∧
    (wHashEngines_6.regsOk ∧ wHashEngines_6.admits ((Requester.warden) : Requester) hshPage ∧ wHashEngines_6.takes hshPage ∧ (4 : Fin 5).val = 4 ∧ wHashEngines_6.flag HSH.BUSY 0 (4 : Fin 5).val = false) ∧
    (wHashEngines_7.regsOk ∧ wHashEngines_7.admits ((Requester.warden) : Requester) hshPage ∧ wHashEngines_7.takes hshPage ∧ (4 : Fin 5).val = 4 ∧ wHashEngines_7.flag HSH.BUSY 0 (4 : Fin 5).val = false) ∧
    (wHashEngines_8.regsOk ∧ wHashEngines_8.flag HSH.BUSY 0 (1 : Fin 5).val = true ∧ (1 : Fin 5).val < 4 ∧ wHashEngines_8.get HSH.OP 0 (1 : Fin 5).val = 1 ∧ wHashEngines_8.inMem (wHashEngines_8.get HSH.SRC 0 (1 : Fin 5).val) (wHashEngines_8.get HSH.SRC_LEN 0 (1 : Fin 5).val) = true ∧ wHashEngines_8.inMem (wHashEngines_8.get HSH.DST 0 (1 : Fin 5).val) 32 = true ∧ wHashEngines_8.plain (wHashEngines_8.get HSH.DST 0 (1 : Fin 5).val) 32) ∧
    (wHashEngines_9.regsOk ∧ wHashEngines_9.flag HSH.BUSY 0 (1 : Fin 5).val = true ∧ (1 : Fin 5).val < 4 ∧ wHashEngines_9.get HSH.OP 0 (1 : Fin 5).val = 2 ∧ wHashEngines_9.inMem (wHashEngines_9.get HSH.SRC 0 (1 : Fin 5).val) (wHashEngines_9.get HSH.SRC_LEN 0 (1 : Fin 5).val) = true ∧ wHashEngines_9.inMem (wHashEngines_9.get HSH.DST 0 (1 : Fin 5).val) 48 = true ∧ wHashEngines_9.plain (wHashEngines_9.get HSH.DST 0 (1 : Fin 5).val) 48) ∧
    (wHashEngines_10.regsOk ∧ wHashEngines_10.flag HSH.BUSY 0 (1 : Fin 5).val = true ∧ (1 : Fin 5).val < 4 ∧ wHashEngines_10.get HSH.OP 0 (1 : Fin 5).val = 3 ∧ wHashEngines_10.inMem (wHashEngines_10.get HSH.SRC 0 (1 : Fin 5).val) (wHashEngines_10.get HSH.SRC_LEN 0 (1 : Fin 5).val) = true ∧ wHashEngines_10.inMem (wHashEngines_10.get HSH.DST 0 (1 : Fin 5).val) 64 = true ∧ wHashEngines_10.plain (wHashEngines_10.get HSH.DST 0 (1 : Fin 5).val) 64) ∧
    (wHashEngines_11.regsOk ∧ wHashEngines_11.flag HSH.BUSY 0 (1 : Fin 5).val = true ∧ (1 : Fin 5).val < 4 ∧ wHashEngines_11.get HSH.OP 0 (1 : Fin 5).val = 4 ∧ 1 ≤ wHashEngines_11.get HSH.DST_LEN 0 (1 : Fin 5).val ∧ wHashEngines_11.get HSH.DST_LEN 0 (1 : Fin 5).val ≤ 65536 ∧ wHashEngines_11.inMem (wHashEngines_11.get HSH.SRC 0 (1 : Fin 5).val) (wHashEngines_11.get HSH.SRC_LEN 0 (1 : Fin 5).val) = true ∧ wHashEngines_11.inMem (wHashEngines_11.get HSH.DST 0 (1 : Fin 5).val) (wHashEngines_11.get HSH.DST_LEN 0 (1 : Fin 5).val) = true ∧ wHashEngines_11.plain (wHashEngines_11.get HSH.DST 0 (1 : Fin 5).val) (wHashEngines_11.get HSH.DST_LEN 0 (1 : Fin 5).val)) ∧
    (wHashEngines_12.regsOk ∧ wHashEngines_12.flag HSH.BUSY 0 (4 : Fin 5).val = true ∧ (4 : Fin 5).val = 4 ∧ wHashEngines_12.get HSH.OP 0 (4 : Fin 5).val = 8 ∧ wHashEngines_12.inMem (wHashEngines_12.get HSH.SRC 0 (4 : Fin 5).val) 7283 = true) ∧
    (wHashEngines_13.regsOk ∧ wHashEngines_13.flag HSH.BUSY 0 (4 : Fin 5).val = true ∧ (4 : Fin 5).val = 4 ∧ wHashEngines_13.get HSH.OP 0 (4 : Fin 5).val = 9 ∧ (0 : Nat) ≤ 1000 ∧ wHashEngines_13.inMem (wHashEngines_13.get HSH.SRC 0 (4 : Fin 5).val) 64 = true ∧ wHashEngines_13.inMem (wHashEngines_13.get HSH.DST 0 (4 : Fin 5).val) 4627 = true ∧ wHashEngines_13.plain (wHashEngines_13.get HSH.DST 0 (4 : Fin 5).val) 4627) ∧
    (wHashEngines_14.regsOk ∧ wHashEngines_14.flag HSH.BUSY 0 (4 : Fin 5).val = true ∧ (4 : Fin 5).val = 4 ∧ wHashEngines_14.get HSH.OP 0 (4 : Fin 5).val = 9 ∧ 1000 < (65536 : Nat) ∧ wHashEngines_14.inMem (wHashEngines_14.get HSH.SRC 0 (4 : Fin 5).val) 64 = true ∧ wHashEngines_14.inMem (wHashEngines_14.get HSH.DST 0 (4 : Fin 5).val) 4627 = true) ∧
    (wHashEngines_15.regsOk ∧ wHashEngines_15.flag HSH.BUSY 0 (4 : Fin 5).val = true ∧ (4 : Fin 5).val = 4 ∧ wHashEngines_15.get HSH.OP 0 (4 : Fin 5).val = 10 ∧ wHashEngines_15.inMem (wHashEngines_15.get HSH.SRC 0 (4 : Fin 5).val) 0 = true ∧ wHashEngines_15.inMem (wHashEngines_15.get HSH.DST 0 (4 : Fin 5).val) 2592 = true ∧ wHashEngines_15.plain (wHashEngines_15.get HSH.DST 0 (4 : Fin 5).val) 2592) ∧
    (wHashEngines_16.regsOk ∧ wHashEngines_16.flag HSH.BUSY 0 (4 : Fin 5).val = true ∧ ((4 : Fin 5).val < 4 ∧ 4 < wHashEngines_16.get HSH.OP 0 (4 : Fin 5).val) ∨ ((4 : Fin 5).val = 4 ∧ wHashEngines_16.get HSH.OP 0 (4 : Fin 5).val < 8)) :=
  ⟨(by simp only [regsOk_iff, State.takes, State.admits, State.wayClear]; decide +kernel),
   (by simp only [regsOk_iff, State.takes, State.admits, State.wayClear]; decide +kernel),
   (by simp only [regsOk_iff, State.takes, State.admits, State.wayClear]; decide +kernel),
   (by simp only [regsOk_iff, State.takes, State.admits, State.wayClear]; decide +kernel),
   (by simp only [regsOk_iff, State.takes, State.admits, State.wayClear]; decide +kernel),
   (by simp only [regsOk_iff, State.takes, State.admits, State.wayClear]; decide +kernel),
   (by simp only [regsOk_iff, State.takes, State.admits, State.wayClear]; decide +kernel),
   ⟨by rw [regsOk_iff]; decide +kernel, by decide +kernel, by decide +kernel, show _ by decide +kernel, by decide +kernel, by decide +kernel, by simp only [State.plain]; decide +kernel⟩,
   ⟨by rw [regsOk_iff]; decide +kernel, by decide +kernel, by decide +kernel, show _ by decide +kernel, by decide +kernel, by decide +kernel, by simp only [State.plain]; decide +kernel⟩,
   ⟨by rw [regsOk_iff]; decide +kernel, by decide +kernel, by decide +kernel, show _ by decide +kernel, by decide +kernel, by decide +kernel, by simp only [State.plain]; decide +kernel⟩,
   ⟨by rw [regsOk_iff]; decide +kernel, by decide +kernel, by decide +kernel, show _ by decide +kernel, by decide +kernel, by decide +kernel, show _ by decide +kernel, by decide +kernel, by simp only [State.plain]; decide +kernel⟩,
   (by simp only [regsOk_iff]; decide +kernel),
   ⟨by rw [regsOk_iff]; decide +kernel, by decide +kernel, by decide +kernel, show _ by decide +kernel, by decide +kernel, by decide +kernel, show _ by decide +kernel, by simp only [State.plain]; decide +kernel⟩,
   (by simp only [regsOk_iff]; decide +kernel),
   ⟨by rw [regsOk_iff]; decide +kernel, by decide +kernel, by decide +kernel, show _ by decide +kernel, by decide +kernel, by decide +kernel, by simp only [State.plain]; decide +kernel⟩,
   (by simp only [regsOk_iff]; decide +kernel)⟩

def wWardenMailboxAndBoot_1 : State :=
  { State.reset with regs := [(201326721, 1)] }
def wWardenMailboxAndBoot_2 : State :=
  { State.reset with regs := [(201326721, 1), (201334847, 0)] }
def wWardenMailboxAndBoot_3 : State :=
  { State.reset with regs := [(201328668, 1)], wdn.requests := [(4, { zMbReq with opcode := 19, seq := 21, payload := [170, 2, 32] })] }
def wWardenMailboxAndBoot_4 : State :=
  { State.reset with regs := [(201328668, 1)], wdn.requests := [(0, { zMbReq with req := (Requester.host), opcode := 4, seq := 21 })] }
def wWardenMailboxAndBoot_5 : State :=
  { State.reset with regs := [(201326721, 1)] }
def wWardenMailboxAndBoot_7 : State :=
  { State.reset with wdn.boot := 3 }
def wWardenMailboxAndBoot_9 : State :=
  { State.reset with wdn.restarts := [0, 0, 0] }
def wWardenMailboxAndBoot_10 : State :=
  { State.reset with seq.pwrgood := true, seq.strapBoot := 1, wdn.boot := 2, wdn.warm := true }
def wWardenMailboxAndBoot_12 : State :=
  { State.reset with regs := [(278399008, 1)], seq.pwrgood := true, wdn.boot := 7 }
def wWardenMailboxAndBoot_13 : State :=
  { State.reset with seq.pwrgood := true, wdn.boot := 8 }
def wWardenMailboxAndBoot_14 : State :=
  { State.reset with regs := [(201328668, 3)], seq.pwrgood := true, wdn.boot := 10 }
def wWardenMailboxAndBoot_15 : State :=
  { State.reset with wdn.boot := 3 }
theorem test_WardenMailboxAndBoot :
    (wWardenMailboxAndBoot_1.regsOk ∧ wWardenMailboxAndBoot_1.admits ((Requester.warden) : Requester) wdnPage ∧ wWardenMailboxAndBoot_1.takes wdnPage ∧ wWardenMailboxAndBoot_1.get WDN.DONE 0 (0 : Fin 8).val ≠ 0 ∧ wWardenMailboxAndBoot_1.get WDN.BUF_ADDR 0 (0 : Fin 8).val = 0) ∧
    (wWardenMailboxAndBoot_2.regsOk ∧ wWardenMailboxAndBoot_2.admits ((Requester.warden) : Requester) wdnPage ∧ wWardenMailboxAndBoot_2.takes wdnPage ∧ wWardenMailboxAndBoot_2.get WDN.DONE 0 (2 : Fin 8).val = 0) ∧
    (wWardenMailboxAndBoot_3.regsOk ∧ wWardenMailboxAndBoot_3.mbNext = some (4 : Fin 8).val ∧ wWardenMailboxAndBoot_3.wardenUp = true ∧ wWardenMailboxAndBoot_3.get WDN.ACT_STATE ≠ 4 ∧ tget wWardenMailboxAndBoot_3.wdn.requests (4 : Fin 8).val = some ({ zMbReq with opcode := 19, seq := 21, payload := [170, 2, 32] } : MbReq) ∧ ({ zMbReq with opcode := 19, seq := 21, payload := [170, 2, 32] } : MbReq).seq < 256 ∧ (0 : BitVec 8).toNat ≠ Status.accessViolation.code) ∧
    (wWardenMailboxAndBoot_4.regsOk ∧ wWardenMailboxAndBoot_4.mbNext = some (0 : Fin 8).val ∧ wWardenMailboxAndBoot_4.wardenUp = true ∧ wWardenMailboxAndBoot_4.get WDN.ACT_STATE ≠ 4 ∧ tget wWardenMailboxAndBoot_4.wdn.requests (0 : Fin 8).val = some ({ zMbReq with req := (Requester.host), opcode := 4, seq := 21 } : MbReq)) ∧
    (wWardenMailboxAndBoot_5.regsOk ∧ wWardenMailboxAndBoot_5.commands ((Requester.warden) : Requester) wdnPage) ∧
    (wWardenMailboxAndBoot_7.regsOk ∧ 3 ≤ wWardenMailboxAndBoot_7.wdn.boot ∧ wWardenMailboxAndBoot_7.frozen = false) ∧
    (wWardenMailboxAndBoot_7.regsOk ∧ 3 ≤ wWardenMailboxAndBoot_7.wdn.boot ∧ wWardenMailboxAndBoot_7.frozen = false) ∧
    (State.reset.regsOk ∧ State.reset.wdn.svcOff = false ∧ (State.reset.wdn.restarts.filter fun t => decide (State.reset.timeNs < t + 3600000000000)).length < 3) ∧
    (wWardenMailboxAndBoot_9.regsOk ∧ wWardenMailboxAndBoot_9.wdn.svcOff = false ∧ 3 ≤ (wWardenMailboxAndBoot_9.wdn.restarts.filter fun t => decide (wWardenMailboxAndBoot_9.timeNs < t + 3600000000000)).length) ∧
    (wWardenMailboxAndBoot_10.regsOk ∧ wWardenMailboxAndBoot_10.seq.pwrgood = true ∧ wWardenMailboxAndBoot_10.frozen = false ∧ wWardenMailboxAndBoot_10.wdn.boot = 2 ∧ wWardenMailboxAndBoot_10.wdn.warm = true ∧ wWardenMailboxAndBoot_10.get WDN.STAGE ≠ stageRecovery ∧ wWardenMailboxAndBoot_10.seq.strapBoot = 1) ∧
    (wWardenMailboxAndBoot_12.regsOk ∧ wWardenMailboxAndBoot_12.seq.pwrgood = true ∧ wWardenMailboxAndBoot_12.frozen = false ∧ wWardenMailboxAndBoot_12.wdn.boot = 7 ∧ wWardenMailboxAndBoot_12.formatDue = false ∧ wWardenMailboxAndBoot_12.flmState = flmReplay) ∧
    (wWardenMailboxAndBoot_13.regsOk ∧ wWardenMailboxAndBoot_13.seq.pwrgood = true ∧ wWardenMailboxAndBoot_13.frozen = false ∧ wWardenMailboxAndBoot_13.wdn.boot = 8 ∧ wWardenMailboxAndBoot_13.formatDue = false ∧ wWardenMailboxAndBoot_13.flmState = flmInit) ∧
    (wWardenMailboxAndBoot_14.regsOk ∧ wWardenMailboxAndBoot_14.seq.pwrgood = true ∧ wWardenMailboxAndBoot_14.frozen = false ∧ wWardenMailboxAndBoot_14.wdn.boot = 10 ∧ wWardenMailboxAndBoot_14.wdn.warm = false ∧ wWardenMailboxAndBoot_14.get WDN.STAGE = stageRestoring ∧ wWardenMailboxAndBoot_14.get HRV.STATE ≠ hrvRestoring) ∧
    (wWardenMailboxAndBoot_15.regsOk ∧ 3 ≤ wWardenMailboxAndBoot_15.wdn.boot ∧ wWardenMailboxAndBoot_15.wdn.boot ≤ 8) ∧
    (State.reset.imageOk imgWarden ([] : List (BitVec 8)) = false) ∧
    (State.reset.regsOk ∧ State.reset.protOpen ((0 : BitVec 64).toNat / 2 ^ 21) = false) ∧
    (State.reset.regsOk ∧ State.reset.protOpen ((0 : BitVec 64).toNat / 2 ^ 21) = false) :=
  ⟨(by simp only [regsOk_iff, State.takes, State.admits, State.wayClear]; decide +kernel),
   (by simp only [regsOk_iff, State.takes, State.admits, State.wayClear]; decide +kernel),
   (by simp only [regsOk_iff]; decide +kernel),
   (by simp only [regsOk_iff]; decide +kernel),
   (by simp only [regsOk_iff, State.commands, State.governs, State.admits, State.wayClear]; decide +kernel),
   (by simp only [regsOk_iff]; decide +kernel),
   (by simp only [regsOk_iff]; decide +kernel),
   (by simp only [regsOk_iff]; decide +kernel),
   (by simp only [regsOk_iff]; decide +kernel),
   (by simp only [regsOk_iff]; decide +kernel),
   (by simp only [regsOk_iff]; decide +kernel),
   (by simp only [regsOk_iff]; decide +kernel),
   (by simp only [regsOk_iff]; decide +kernel),
   (by simp only [regsOk_iff]; decide +kernel),
   (by decide +kernel),
   (by simp only [regsOk_iff]; decide +kernel),
   (by simp only [regsOk_iff]; decide +kernel)⟩

def wFusesKeysActivation_3 : State :=
  { State.reset with seq.rails := [(39, { zRailRun with phase := .good })], seq.fuseOpen := true }
def wFusesKeysActivation_4 : State :=
  { State.reset with seq.rails := [(39, { zRailRun with phase := .good })], seq.fuseOpen := true }
def wFusesKeysActivation_5 : State :=
  { State.reset with wdn.act := (some zActivation) }
def wFusesKeysActivation_9 : State :=
  { State.reset with regs := [(201328668, 1)] }
def wFusesKeysActivation_10 : State :=
  { State.reset with regs := [(201328640, 2)], wdn.act := (some { zActivation with slot := 4096, bank := 1, rake := 1 }) }
def wFusesKeysActivation_11 : State :=
  { State.reset with regs := [(201328640, 2)], wdn.banks := [(0, [0, 0, 0, 0, 0, 0, 0, 0, 0, 0, 0, 0, 0, 0, 1])], wdn.act := (some { zActivation with slot := 2, rake := 4 }) }
def wFusesKeysActivation_12 : State :=
  { State.reset with regs := [(201328640, 4)], wdn.act := (some { zActivation with slot := 100, bank := 5, rake := 8 }) }
def wFusesKeysActivation_13 : State :=
  { State.reset with wdn.act := (some { zActivation with slot := 100, bank := 20 }) }
def wFusesKeysActivation_14 : State :=
  { State.reset with regs := [(201328668, 4)], mgt.update := (some { zUpdate with pldm := true, typ := 1, size := 5, got := [(0, 4)] }) }
def wFusesKeysActivation_15 : State :=
  { State.reset with regs := [(201328668, 4)], mgt.update := (some { zUpdate with pldm := true, typ := 2, size := 7, got := [(0, 4)] }) }
def wFusesKeysActivation_16 : State :=
  { State.reset with regs := [(201328668, 4)] }
def wFusesKeysActivation_17 : State :=
  { State.reset with regs := [(201328668, 1), (251660544, 66546), (293603388, 3)] }
def wFusesKeysActivation_18 : State :=
  { State.reset with regs := [(201328668, 1)] }
theorem test_FusesKeysActivation :
    (State.reset.regsOk ∧ State.reset.seq.fuseOpen = false) ∧
    (wFusesKeysActivation_3.regsOk ∧ wFusesKeysActivation_3.seq.fuseOpen = true ∧ wFusesKeysActivation_3.railPhase 39 = .good) ∧
    (wFusesKeysActivation_3.regsOk ∧ wFusesKeysActivation_3.seq.fuseOpen = true ∧ wFusesKeysActivation_3.railPhase 39 = .good) ∧
    (wFusesKeysActivation_4.regsOk ∧ wFusesKeysActivation_4.slotMark imgWarden 0 ≠ .trial ∧ wFusesKeysActivation_4.slotMark imgWarden 1 ≠ .trial ∧ wFusesKeysActivation_4.wdn.act = none ∧ wFusesKeysActivation_4.seq.fuseOpen = true ∧ wFusesKeysActivation_4.railPhase 39 = .good) ∧
    ((wFusesKeysActivation_5.slotMark imgWarden 0 = .trial ∨ wFusesKeysActivation_5.slotMark imgWarden 1 = .trial ∨ wFusesKeysActivation_5.wdn.act.isSome = true)) ∧
    ((State.reset.flag WDN.KEYS_SEALED = true ∨ ({ zWrappedKey with use := (KeyUse.role 0 false) } : WrappedKey).use ≠ .manager ∨ ({ zWrappedKey with use := (KeyUse.role 0 false) } : WrappedKey).counter.toNat ≤ State.reset.wdn.keyCtr)) ∧
    (wFusesKeysActivation_9.regsOk ∧ wFusesKeysActivation_9.accepts ({ zTaraiviHdr with role := 2, tagOk := true } : TaraiviHdr) roleDomain ∧ ({ zWrappedKey with use := (KeyUse.role 0 false) } : WrappedKey).counter.toNat ≤ wFusesKeysActivation_9.wdn.keyCtr) ∧
    (wFusesKeysActivation_10.regsOk ∧ wFusesKeysActivation_10.wdn.act = some ({ zActivation with slot := 4096, bank := 1, rake := 1 } : Activation) ∧ wFusesKeysActivation_10.get WDN.ACT_STATE = 2 ∧ ({ zActivation with slot := 4096, bank := 1, rake := 1 } : Activation).bank ≤ 1 ∧ imgMinHandover ((tget wFusesKeysActivation_10.wdn.banks ({ zActivation with slot := 4096, bank := 1, rake := 1 } : Activation).bank).getD []) ≤ (0 : BitVec 16).toNat) ∧
    (wFusesKeysActivation_11.regsOk ∧ wFusesKeysActivation_11.wdn.act = some ({ zActivation with slot := 2, rake := 4 } : Activation) ∧ wFusesKeysActivation_11.get WDN.ACT_STATE = 2 ∧ ({ zActivation with slot := 2, rake := 4 } : Activation).bank ≤ 1 ∧ (0 : BitVec 16).toNat < imgMinHandover ((tget wFusesKeysActivation_11.wdn.banks ({ zActivation with slot := 2, rake := 4 } : Activation).bank).getD [])) ∧
    (wFusesKeysActivation_12.regsOk ∧ wFusesKeysActivation_12.wdn.act = some ({ zActivation with slot := 100, bank := 5, rake := 8 } : Activation) ∧ wFusesKeysActivation_12.get WDN.ACT_STATE = 4) ∧
    (wFusesKeysActivation_13.regsOk ∧ wFusesKeysActivation_13.wdn.act = some ({ zActivation with slot := 100, bank := 20 } : Activation) ∧ wFusesKeysActivation_13.get WDN.ACT_STATE ≠ 4) ∧
    (wFusesKeysActivation_14.regsOk ∧ wFusesKeysActivation_14.mgt.update = some ({ zUpdate with pldm := true, typ := 1, size := 5, got := [(0, 4)] } : Update) ∧ ({ zUpdate with pldm := true, typ := 1, size := 5, got := [(0, 4)] } : Update).pldm = true ∧ ({ zUpdate with pldm := true, typ := 1, size := 5, got := [(0, 4)] } : Update).typ ≠ 0 ∧ ({ zUpdate with pldm := true, typ := 1, size := 5, got := [(0, 4)] } : Update).complete = false ∧ (0 : Nat) + ([0] : List (BitVec 8)).length ≤ ({ zUpdate with pldm := true, typ := 1, size := 5, got := [(0, 4)] } : Update).size ∧ ([0] : List (BitVec 8)) ≠ [] ∧ wFusesKeysActivation_14.svcUp = true ∧ Update.bytes { ({ zUpdate with pldm := true, typ := 1, size := 5, got := [(0, 4)] } : Update) with got := tset ({ zUpdate with pldm := true, typ := 1, size := 5, got := [(0, 4)] } : Update).got (0 : Nat) ([0] : List (BitVec 8)).length } < ({ zUpdate with pldm := true, typ := 1, size := 5, got := [(0, 4)] } : Update).size) ∧
    (wFusesKeysActivation_15.regsOk ∧ wFusesKeysActivation_15.mgt.update = some ({ zUpdate with pldm := true, typ := 2, size := 7, got := [(0, 4)] } : Update) ∧ ({ zUpdate with pldm := true, typ := 2, size := 7, got := [(0, 4)] } : Update).pldm = true ∧ ({ zUpdate with pldm := true, typ := 2, size := 7, got := [(0, 4)] } : Update).typ = imgService ∧ ({ zUpdate with pldm := true, typ := 2, size := 7, got := [(0, 4)] } : Update).complete = false ∧ (1 : Nat) + ([0, 0, 0] : List (BitVec 8)).length ≤ ({ zUpdate with pldm := true, typ := 2, size := 7, got := [(0, 4)] } : Update).size ∧ ([0, 0, 0] : List (BitVec 8)) ≠ [] ∧ wFusesKeysActivation_15.svcUp = true ∧ ({ zUpdate with pldm := true, typ := 2, size := 7, got := [(0, 4)] } : Update).size ≤ Update.bytes { ({ zUpdate with pldm := true, typ := 2, size := 7, got := [(0, 4)] } : Update) with got := tset ({ zUpdate with pldm := true, typ := 2, size := 7, got := [(0, 4)] } : Update).got (1 : Nat) ([0, 0, 0] : List (BitVec 8)).length }) ∧
    (wFusesKeysActivation_16.regsOk ∧ wFusesKeysActivation_16.accepts ({ zTaraiviHdr with tagOk := true } : TaraiviHdr) roleObserver ∧ wFusesKeysActivation_16.svcUp = true) ∧
    (wFusesKeysActivation_17.regsOk ∧ wFusesKeysActivation_17.accepts ({ zTaraiviHdr with role := 2, tagOk := true } : TaraiviHdr) roleDomain ∧ wFusesKeysActivation_17.mayApply = true ∧ ((wFusesKeysActivation_17.tier.quotas.filter fun e => e.1 != (0 : BitVec 12).toNat).map fun e => e.2.t1Quota).foldl (· + ·) 0 + (0 : BitVec 32).toNat + wFusesKeysActivation_17.ftlGet FTL.SYS_BLKS + wFusesKeysActivation_17.get TIER.LOOSE_MIN ≤ wFusesKeysActivation_17.get TIER.T1_FRAMES ∧ ((wFusesKeysActivation_17.tier.quotas.filter fun e => e.1 != (0 : BitVec 12).toNat).map fun e => e.2.t2Quota).foldl (· + ·) 0 + (0 : BitVec 32).toNat ≤ wFusesKeysActivation_17.ftlGet FTL.USER_BLKS) ∧
    (wFusesKeysActivation_18.regsOk ∧ wFusesKeysActivation_18.accepts ({ zTaraiviHdr with role := 2, tagOk := true } : TaraiviHdr) roleDomain ∧ wFusesKeysActivation_18.mayApply = false) :=
  ⟨(by simp only [regsOk_iff]; decide +kernel),
   (by simp only [regsOk_iff]; decide +kernel),
   (by simp only [regsOk_iff]; decide +kernel),
   (by simp only [regsOk_iff]; decide +kernel),
   (by decide +kernel),
   (by decide +kernel),
   (by simp only [regsOk_iff, accepts_iff]; decide +kernel),
   (by simp only [regsOk_iff]; decide +kernel),
   (by simp only [regsOk_iff]; decide +kernel),
   (by simp only [regsOk_iff]; decide +kernel),
   (by simp only [regsOk_iff]; decide +kernel),
   (by simp only [regsOk_iff]; decide +kernel),
   (by simp only [regsOk_iff]; decide +kernel),
   (by simp only [regsOk_iff, accepts_iff]; decide +kernel),
   (by simp only [regsOk_iff, accepts_iff]; decide +kernel),
   (by simp only [regsOk_iff, accepts_iff]; decide +kernel)⟩

def wDebugUnlock_5 : State :=
  let s := State.reset
  let s : State := { s with wdn.debugFails := max (3) s.wdn.debugFails }
  s
theorem test_DebugUnlock : wDebugUnlock_5.regsOk ∧ (3 ≤ wDebugUnlock_5.wdn.debugFails ∨ wDebugUnlock_5.signerOk (true : Bool) ([] : List (BitVec 8)) = false ∨ wDebugUnlock_5.wdn.fuses.debugMax < (1 : BitVec 2).toNat ∨ wDebugUnlock_5.wdn.challenge = none) :=
  (by simp only [regsOk_iff]; decide)

def wEventFabric_5 : State :=
  { State.reset with evf.credits := [(0, (0, 0))] }
def wEventFabric_6 : State :=
  { State.reset with regs := [(176162880, 1)] }
def wEventFabric_7 : State :=
  { State.reset with regs := [(176161283, 1), (176161284, 1)] }
def wEventFabric_9 : State :=
  { State.reset with regs := [(176163072, 1)] }
def wEventFabric_10 : State :=
  { State.reset with regs := [(176160897, 1)] }
def wEventFabric_11 : State :=
  { State.reset with hp.msix := [(1000, { zMsixFn with enable := true, pba := [7, 21] })] }
theorem test_EventFabric :
    (State.reset.regsOk ∧ State.reset.admits ((Requester.warden) : Requester) ({ zPage with blk := .seq } : Page)) ∧
    (State.reset.regsOk ∧ State.reset.admits ((Requester.warden) : Requester) ({ zPage with blk := .seq } : Page)) ∧
    (State.reset.regsOk ∧ State.reset.admits ((Requester.warden) : Requester) ({ zPage with blk := .flm } : Page)) ∧
    (State.reset.regsOk ∧ State.reset.admits ((Requester.warden) : Requester) ({ zPage with blk := .seq } : Page) ∧ State.reset.asWarden ((Requester.warden) : Requester) = true) ∧
    (wEventFabric_5.regsOk ∧ tget wEventFabric_5.evf.credits ((0 : Nat) / 128) = some ((0 : Nat), (0 : Nat))) ∧
    (wEventFabric_6.regsOk ∧ wEventFabric_6.admits ((Requester.warden) : Requester) evfPage ∧ wEventFabric_6.domainOn 1 = true ∧ wEventFabric_6.get EVF.CHAN_IDX ≠ 0 ∧ (bits (0 : BitVec 32).toNat 29 3 = 3 → bit (0 : BitVec 32).toNat 28 = false → ((Requester.warden) : Requester) = .warden)) ∧
    (wEventFabric_7.regsOk ∧ wEventFabric_7.admits ((Requester.host) : Requester) evfPage ∧ wEventFabric_7.domainOn 1 = true ∧ bits (1610612743 : BitVec 32).toNat 29 3 = 3 ∧ bit (1610612743 : BitVec 32).toNat 28 = false ∧ ((Requester.host) : Requester) ≠ .warden) ∧
    (State.reset.regsOk ∧ State.reset.admits ((Requester.warden) : Requester) evfPage ∧ State.reset.domainOn 1 = true) ∧
    (wEventFabric_9.regsOk ∧ wEventFabric_9.bitOf EVF.ALERT_DRV (0 : Fin 2).val = true) ∧
    (wEventFabric_10.regsOk ∧ wEventFabric_10.commands ((Requester.warden) : Requester) evfPage) ∧
    (tget wEventFabric_11.hp.msix (fnKey (0 : Port).val (0 : Ld).val (true : Bool)) = some ({ zMsixFn with enable := true, pba := [7, 21] } : MsixFn) ∧ ({ zMsixFn with enable := true, pba := [7, 21] } : MsixFn).enable = true ∧ (7 : BitVec 11).toNat ∈ ({ zMsixFn with enable := true, pba := [7, 21] } : MsixFn).pba ∧ ((true : Bool) = true ∨ wEventFabric_11.flag HP.BOUND (0 : Port).val (0 : Ld).val = true)) :=
  ⟨(by simp only [regsOk_iff, State.admits, State.wayClear]; decide +kernel),
   (by simp only [regsOk_iff, State.admits, State.wayClear]; decide +kernel),
   (by simp only [regsOk_iff, State.admits, State.wayClear]; decide +kernel),
   (by simp only [regsOk_iff, State.admits, State.wayClear]; decide +kernel),
   (by simp only [regsOk_iff]; decide +kernel),
   (by simp only [regsOk_iff, State.admits, State.wayClear]; decide +kernel),
   (by simp only [regsOk_iff, State.admits, State.wayClear]; decide +kernel),
   (by simp only [regsOk_iff, State.admits, State.wayClear]; decide +kernel),
   (by simp only [regsOk_iff]; decide +kernel),
   (by simp only [regsOk_iff, State.commands, State.governs, State.admits, State.wayClear]; decide +kernel),
   (by decide +kernel)⟩

def wRecorderCommands_1 : State :=
  { State.reset with regs := [(278399008, 2)] }
def wRecorderCommands_4 : State :=
  { State.reset with recd.limiters := [(7, { zLimiter with lo := 65536, mid := 19, hi := 4, fold := (some { zFold with count := 7, first := 2, last := 5, lastInst := 4096, insts := [19], sev := 3, payload := [0, 2, 4] }) })] }
def wRecorderCommands_5 : State :=
  { State.reset with recd.fwd := [{ zFwdEntry with code := 4, inst := 4, sev := 65536, count := 8, first := 64, last := 2, payload := [4, 64] }] }
def wRecorderCommands_6 : State :=
  { State.reset with recd.fwdAll := (some { zFwdEntry with code := 20, inst := 20, sev := 8, count := 5, first := 21, firstSeq := 8, payload := [7, 32] }) }
def wRecorderCommands_7 : State :=
  { State.reset with regs := [(184549505, 1)] }
def wRecorderCommands_8 : State :=
  { State.reset with regs := [(184549505, 1)] }
def wRecorderCommands_9 : State :=
  { State.reset with regs := [(201328668, 1)] }
theorem test_RecorderCommands :
    (wRecorderCommands_1.regsOk ∧ wRecorderCommands_1.spillStopped = false) ∧
    (State.reset.regsOk ∧ State.reset.spillStopped = true) ∧
    (State.reset.regsOk ∧ (∀ e ∈ State.reset.recd.limiters, ∀ f, e.2.fold = some f → f.count = 0) ∧ (∀ y ∈ State.reset.ctl.single, y.page ≠ recPage) ∧ State.reset.part recPage = none) ∧
    (wRecorderCommands_4.regsOk ∧ wRecorderCommands_4.recd.limiters = [((7 : Nat), ({ zLimiter with lo := 65536, mid := 19, hi := 4, fold := (some { zFold with count := 7, first := 2, last := 5, lastInst := 4096, insts := [19], sev := 3, payload := [0, 2, 4] }) } : Limiter))] ∧ ({ zLimiter with lo := 65536, mid := 19, hi := 4, fold := (some { zFold with count := 7, first := 2, last := 5, lastInst := 4096, insts := [19], sev := 3, payload := [0, 2, 4] }) } : Limiter).fold = some ({ zFold with count := 7, first := 2, last := 5, lastInst := 4096, insts := [19], sev := 3, payload := [0, 2, 4] } : Fold) ∧ ({ zFold with count := 7, first := 2, last := 5, lastInst := 4096, insts := [19], sev := 3, payload := [0, 2, 4] } : Fold).count ≠ 0 ∧ ({ zFold with count := 7, first := 2, last := 5, lastInst := 4096, insts := [19], sev := 3, payload := [0, 2, 4] } : Fold).sev < wRecorderCommands_4.get REC.ALARM_SEV ∧ wRecorderCommands_4.slotFree wRecorderCommands_4.recd.wpos = true ∧ (∀ y ∈ wRecorderCommands_4.ctl.single, y.page ≠ recPage) ∧ wRecorderCommands_4.part recPage = none) ∧
    (wRecorderCommands_5.regsOk ∧ (wRecorderCommands_5.recd.fwd.find? fun ez => ez.code == (4 : BitVec 16).toNat && ez.inst == (4 : BitVec 8).toNat) = some ({ zFwdEntry with code := 4, inst := 4, sev := 65536, count := 8, first := 64, last := 2, payload := [4, 64] } : FwdEntry) ∧ ({ zFwdEntry with code := 4, inst := 4, sev := 65536, count := 8, first := 64, last := 2, payload := [4, 64] } : FwdEntry).count ≠ 0 ∧ wRecorderCommands_5.recd.sent.length < 256 ∧ (∀ y ∈ wRecorderCommands_5.ctl.single, y.page ≠ recPage) ∧ wRecorderCommands_5.part recPage = none) ∧
    (wRecorderCommands_6.regsOk ∧ wRecorderCommands_6.recd.fwdAll = some ({ zFwdEntry with code := 20, inst := 20, sev := 8, count := 5, first := 21, firstSeq := 8, payload := [7, 32] } : FwdEntry) ∧ ({ zFwdEntry with code := 20, inst := 20, sev := 8, count := 5, first := 21, firstSeq := 8, payload := [7, 32] } : FwdEntry).count ≠ 0 ∧ wRecorderCommands_6.recd.sent.length < 256 ∧ (∀ y ∈ wRecorderCommands_6.ctl.single, y.page ≠ recPage) ∧ wRecorderCommands_6.part recPage = none) ∧
    (wRecorderCommands_7.regsOk ∧ wRecorderCommands_7.admits ((Requester.warden) : Requester) recPage ∧ wRecorderCommands_7.asWarden ((Requester.warden) : Requester) = true ∧ wRecorderCommands_7.takes recPage ∧ seqDist (wRecorderCommands_7.get REC.CLEARED_SEQ) (0 : BitVec 32).toNat ≤ seqDist (wRecorderCommands_7.get REC.CLEARED_SEQ) (wRecorderCommands_7.get REC.HEAD_SEQ)) ∧
    (wRecorderCommands_8.regsOk ∧ wRecorderCommands_8.admits ((Requester.warden) : Requester) recPage ∧ wRecorderCommands_8.asWarden ((Requester.warden) : Requester) = true ∧ wRecorderCommands_8.takes recPage ∧ seqDist (wRecorderCommands_8.get REC.CLEARED_SEQ) (wRecorderCommands_8.get REC.HEAD_SEQ) < seqDist (wRecorderCommands_8.get REC.CLEARED_SEQ) (1 : BitVec 32).toNat) ∧
    (wRecorderCommands_9.regsOk ∧ wRecorderCommands_9.accepts ({ zTaraiviHdr with role := 1, tagOk := true } : TaraiviHdr) roleOperator ∧ seqDist (wRecorderCommands_9.get REC.CLEARED_SEQ) (0 : BitVec 32).toNat ≤ seqDist (wRecorderCommands_9.get REC.CLEARED_SEQ) (wRecorderCommands_9.get REC.HEAD_SEQ)) :=
  ⟨(by simp only [regsOk_iff]; decide +kernel),
   (by simp only [regsOk_iff]; decide +kernel),
   (by simp only [regsOk_iff]; decide +kernel),
   (by simp only [regsOk_iff]; decide +kernel),
   ⟨by rw [regsOk_iff]; decide +kernel, by decide +kernel, by decide +kernel, by decide +kernel, by first | decide +kernel | simp, by decide +kernel⟩,
   (by simp only [regsOk_iff]; decide +kernel),
   (by simp only [regsOk_iff, State.takes, State.admits, State.wayClear]; decide +kernel),
   (by simp only [regsOk_iff, State.takes, State.admits, State.wayClear]; decide +kernel),
   (by simp only [regsOk_iff, accepts_iff]; decide +kernel)⟩

theorem test_UnmappedAccessStated :
    (State.reset.regsOk ∧ State.reset.reaches ((Requester.warden) : Requester) = true ∧ pageFor ((Requester.warden) : Requester) (0 : BitVec 32).toNat = none) ∧
    (State.reset.regsOk ∧ State.reset.reaches ((Requester.svc 0) : Requester) = true ∧ pageFor ((Requester.svc 0) : Requester) (0 : BitVec 32).toNat = none) :=
  ⟨(by simp only [regsOk_iff]; decide +kernel),
   (by simp only [regsOk_iff]; decide +kernel)⟩

def wRefusedAccessStated_3 : State :=
  let s := State.reset
  let s : State := { (s.put PWR.STATE 0 0 (Page.dom (clkPage : Page))) with ctl.stalled := [] }
  let s : State := (s.wr clkPage HDR.HOST_R 1).wr clkPage HDR.HOST_W 1
  s
theorem test_RefusedAccessStated :
    (State.reset.regsOk ∧ State.reset.reaches ((Requester.svc 0) : Requester) = true ∧ pageFor ((Requester.svc 0) : Requester) ({ zPage with blk := .mov } : Page).base = some ({ zPage with blk := .mov } : Page) ∧ State.reset.mayRead ((Requester.svc 0) : Requester) ({ zPage with blk := .mov } : Page) = false ∧ (0 : Nat) < 4096 ∧ legalAccess (0 : Nat) (8 : Nat) = true ∧ ((0 : Nat) < 0x100 ∨ State.reset.domainOn (Page.dom ({ zPage with blk := .mov } : Page)) = true)) ∧
    (State.reset.regsOk ∧ State.reset.reaches ((Requester.host) : Requester) = true ∧ pageFor ((Requester.host) : Requester) ({ zPage with blk := .seq } : Page).base = some ({ zPage with blk := .seq } : Page) ∧ State.reset.mayWrite ((Requester.host) : Requester) ({ zPage with blk := .seq } : Page) = false ∧ State.reset.wayClear ((Requester.host) : Requester) ({ zPage with blk := .seq } : Page) ∧ (0 : Nat) < 4096 ∧ legalAccess (0 : Nat) (4 : Nat) = true ∧ ((0 : Nat) < 0x100 ∨ State.reset.domainOn (Page.dom ({ zPage with blk := .seq } : Page)) = true)) ∧
    (wRefusedAccessStated_3.regsOk ∧ wRefusedAccessStated_3.admits (.host : Requester) (clkPage : Page) ∧ wRefusedAccessStated_3.asWarden (.host : Requester) = false ∧ (0x108 : Nat) < 4096 ∧ legalAccess (0x108 : Nat) (4 : Nat) = true ∧ ((0x108 : Nat) < 0x100 ∨ wRefusedAccessStated_3.domainOn (Page.dom (clkPage : Page)) = true) ∧ (wRefusedAccessStated_3.writesAt (clkPage : Page) (0x108 : Nat) (4 : Nat) ((0x04000014 : BitVec 64).toNat % 2 ^ (8 * (4 : Nat)))).any (fun x => !x.idle) = true ∧ (∀ x ∈ wRefusedAccessStated_3.writesAt (clkPage : Page) (0x108 : Nat) (4 : Nat) ((0x04000014 : BitVec 64).toNat % 2 ^ (8 * (4 : Nat))), x.idle = true ∨ x.fld.warden = true)) :=
  ⟨(by simp only [regsOk_iff]; decide +kernel),
   (by simp only [regsOk_iff, State.wayClear]; decide +kernel),
   (by simp only [regsOk_iff, State.admits, State.wayClear]; decide)⟩

def wWriteRightStated_2 : State :=
  { State.reset with regs := [(234979843, 1), (234979844, 1)] }
def wWriteRightStated_4 : State :=
  { State.reset with regs := [(167772673, 1), (167772674, 1), (167772680, 1)] }
theorem test_WriteRightStated :
    (State.reset.regsOk ∧ ({ zPage with blk := .seq } : Page).present = true ∧ State.reset.rd ({ zPage with blk := .seq } : Page) HDR.HOST_R = 0 ∧ State.reset.wayClear .host ({ zPage with blk := .seq } : Page) ∧ (0 : Nat) < 4096 ∧ legalAccess (0 : Nat) (4 : Nat) = true ∧ ((0 : Nat) < 0x100 ∨ State.reset.domainOn (Page.dom ({ zPage with blk := .seq } : Page)) = true)) ∧
    (wWriteRightStated_2.regsOk ∧ ({ zPage with blk := .mov, inst := 3 } : Page).present = true ∧ wWriteRightStated_2.rd ({ zPage with blk := .mov, inst := 3 } : Page) HDR.HOST_R = 1 ∧ wWriteRightStated_2.rd ({ zPage with blk := .mov, inst := 3 } : Page) HDR.HOST_W = 1 ∧ wWriteRightStated_2.wayClear .host ({ zPage with blk := .mov, inst := 3 } : Page) ∧ (0 : Nat) < 512) ∧
    (State.reset.regsOk ∧ pageFor (.svc (0 : Fin 6)) ({ zPage with blk := .seq } : Page).base = some ({ zPage with blk := .seq } : Page) ∧ State.reset.rd ({ zPage with blk := .seq } : Page) HDR.SVC_R = 0 ∧ State.reset.wayClear (.svc (0 : Fin 6)) ({ zPage with blk := .seq } : Page) ∧ (0 : Nat) < 4096 ∧ legalAccess (0 : Nat) (4 : Nat) = true ∧ ((0 : Nat) < 0x100 ∨ State.reset.domainOn (Page.dom ({ zPage with blk := .seq } : Page)) = true)) ∧
    (wWriteRightStated_4.regsOk ∧ pageFor (.svc (0 : Fin 6)) ({ zPage with blk := .seq } : Page).base = some ({ zPage with blk := .seq } : Page) ∧ wWriteRightStated_4.rd ({ zPage with blk := .seq } : Page) HDR.SVC_R = 1 ∧ wWriteRightStated_4.rd ({ zPage with blk := .seq } : Page) HDR.SVC_W = 1 ∧ bit (wWriteRightStated_4.rd ({ zPage with blk := .seq } : Page) HDR.SVC_CLUSTERS) (0 : Fin 6).val = true ∧ wWriteRightStated_4.wayClear (.svc (0 : Fin 6)) ({ zPage with blk := .seq } : Page) ∧ (0 : Nat) < 512) :=
  ⟨(by simp only [regsOk_iff, State.wayClear]; decide +kernel),
   (by simp only [regsOk_iff, State.wayClear]; decide +kernel),
   (by simp only [regsOk_iff, State.wayClear]; decide +kernel),
   (by simp only [regsOk_iff, State.wayClear]; decide +kernel)⟩

def wLockedFieldsStated_1 : State :=
  { State.reset with regs := [(293601824, 1)] }
theorem test_LockedFieldsStated : wLockedFieldsStated_1.regsOk ∧ wLockedFieldsStated_1.admits ((Requester.warden) : Requester) ({ zPage with blk := .twn } : Page) ∧ wLockedFieldsStated_1.asWarden ((Requester.warden) : Requester) = true ∧ wLockedFieldsStated_1.rd ({ zPage with blk := .twn } : Page) HDR.LOCK = 1 ∧ (64 : Nat) < 4096 ∧ legalAccess (64 : Nat) (4 : Nat) = true ∧ ((64 : Nat) < 0x100 ∨ wLockedFieldsStated_1.domainOn (Page.dom ({ zPage with blk := .twn } : Page)) = true) ∧ slotsAt ({ zPage with blk := .twn } : Page) (64 : Nat) (4 : Nat) ≠ [] ∧ (∀ x ∈ slotsAt ({ zPage with blk := .twn } : Page) (64 : Nat) (4 : Nat), x.2.1.acc = .rwl) :=
  (by simp only [regsOk_iff, State.admits, State.wayClear]; decide +kernel)

def wInvalidationQueueStated_1 : State :=
  { State.reset with regs := [(243269761, 1), (243269793, 1)], xlt.invalBusy := (some zInval) }
def wInvalidationQueueStated_2 : State :=
  let s := State.reset
  let s : State := s.wr xltPage HDR.QUIESCE 1
  let s : State := { (s.put PWR.STATE 0 0 (Page.dom xltPage)) with ctl.stalled := [] }
  let s : State := { s.wr xltPage HDR.QUIESCED 1 with xlt := { s.xlt with invalBusy := some ⟨0, 1, .none⟩, invalQueue := List.replicate 64 ⟨1, 2, .none⟩ } }
  s
theorem test_InvalidationQueueStated :
    (wInvalidationQueueStated_1.regsOk ∧ wInvalidationQueueStated_1.commands ((Requester.warden) : Requester) xltPage ∧ (0 : BitVec 4).toNat ≤ 5 ∧ wInvalidationQueueStated_1.xlt.invalBusy = some (zInval : Inval) ∧ wInvalidationQueueStated_1.xlt.invalQueue.length < 64) ∧
    (wInvalidationQueueStated_2.regsOk ∧ wInvalidationQueueStated_2.commands (.warden : Requester) xltPage ∧ (1 : BitVec 4).toNat ≤ 5 ∧ wInvalidationQueueStated_2.xlt.invalBusy = some (⟨0, 1, .none⟩ : Inval) ∧ 64 ≤ wInvalidationQueueStated_2.xlt.invalQueue.length) :=
  ⟨(by simp only [regsOk_iff, State.commands, State.governs, State.admits, State.wayClear]; decide +kernel),
   (by simp only [regsOk_iff, State.commands, State.governs, State.admits, State.wayClear]; decide)⟩

def wStoreWithOneBankStated_1 : State :=
  { State.reset with regs := [(192940091, 1), (192940094, 1)] }
def wStoreWithOneBankStated_2 : State :=
  { State.reset with regs := [(192938113, 1), (192940091, 1)] }
theorem test_StoreWithOneBankStated :
    (wStoreWithOneBankStated_1.regsOk ∧ wStoreWithOneBankStated_1.flag NVS.PENDING = true ∧ wStoreWithOneBankStated_1.get NVS.BUSY = 0 ∧ (wStoreWithOneBankStated_1.get NVS.BANK_OK = 1 ∨ wStoreWithOneBankStated_1.get NVS.BANK_OK = 2)) ∧
    (wStoreWithOneBankStated_2.regsOk ∧ wStoreWithOneBankStated_2.commands ((Requester.warden) : Requester) nvsPage ∧ wStoreWithOneBankStated_2.get NVS.BUSY = 0 ∧ (wStoreWithOneBankStated_2.get NVS.BANK_OK = 1 ∨ wStoreWithOneBankStated_2.get NVS.BANK_OK = 2)) :=
  ⟨(by simp only [regsOk_iff]; decide +kernel),
   (by simp only [regsOk_iff, State.commands, State.governs, State.admits, State.wayClear]; decide +kernel)⟩

def wResetInputStated_1 : State :=
  { State.reset with seq.pwrgood := true }
def wResetInputStated_2 : State :=
  { State.reset with regs := [(285214781, 1)], seq.pwrgood := true }
def wResetInputStated_4 : State :=
  { State.reset with seq.rails := [(37, { zRailRun with phase := .good, scan := 1 })], seq.devUp := (some 7), seq.resetLow := true }
theorem test_ResetInputStated :
    (wResetInputStated_1.regsOk ∧ wResetInputStated_1.seq.pwrgood = true ∧ wResetInputStated_1.frozen = false) ∧
    (wResetInputStated_2.regsOk ∧ wResetInputStated_2.seq.pwrgood = true ∧ wResetInputStated_2.frozen = true) ∧
    (State.reset.seq.pwrgood = false) ∧
    (wResetInputStated_4.regsOk ∧ wResetInputStated_4.seq.devUp = some 7 ∧ wResetInputStated_4.settled 37 = true ∧ wResetInputStated_4.seq.resetLow = true ∧ wResetInputStated_4.seq.pwrgood = false) :=
  ⟨(by simp only [regsOk_iff]; decide +kernel),
   (by simp only [regsOk_iff]; decide +kernel),
   (by decide +kernel),
   (by simp only [regsOk_iff]; decide +kernel)⟩

def wDirtySliceQuiesceStated_1 : State :=
  { State.reset with pan.lines := [(0, { zLine with s0 := { zLineSec with dirty := true } })] }
theorem test_DirtySliceQuiesceStated : wDirtySliceQuiesceStated_1.regsOk ∧ wDirtySliceQuiesceStated_1.admits ((Requester.warden) : Requester) (panPage (0 : Slice).val) ∧ 0 < wDirtySliceQuiesceStated_1.dirtyLines (0 : Slice).val ∧ wDirtySliceQuiesceStated_1.rd (panPage (0 : Slice).val) HDR.QUIESCE = 0 :=
  (by simp only [regsOk_iff, State.admits, State.wayClear]; decide +kernel)

theorem test_FabricManager :
    (tget (State.reset.ld (0 : Port).val (0 : Ld).val).dcRegions (0 : Fin 8).val = none ∧ (0 : BitVec 64).toNat ≤ 2 ^ 42 ∧ (0 : BitVec 64).toNat % 2 ^ 21 = 0 ∧ (0 : BitVec 64).toNat % 2 ^ 21 = 0) ∧
    ((2 ^ 42 < (1 : BitVec 64).toNat ∨ (0 : BitVec 64).toNat % 2 ^ 21 ≠ 0 ∨ (1 : BitVec 64).toNat % 2 ^ 21 ≠ 0)) :=
  ⟨(by decide +kernel),
   (by decide +kernel)⟩

def wClockReferences_1 : State :=
  { State.reset with regs := [(150997049, 1), (150997050, 1), (150997051, 1), (150997052, 1)] }
def wClockReferences_2 : State :=
  { State.reset with regs := [(150997050, 1), (150997051, 1)] }
def wClockReferences_3 : State :=
  { State.reset with regs := [(150997051, 1), (150997052, 1)], seq.pwrgood := true }
def wClockReferences_5 : State :=
  { State.reset with regs := [(150996992, 1), (150997000, 1), (150997051, 1), (150997052, 1)] }
def wClockReferences_6 : State :=
  { State.reset with regs := [(150997050, 1)] }
def wClockReferences_7 : State :=
  { State.reset with regs := [(150997051, 1)], seq.pwrgood := true }
def wClockReferences_8 : State :=
  { State.reset with regs := [(150997052, 1)] }
def wClockReferences_9 : State :=
  { State.reset with seq.pwrgood := true, clk.relock := true }
def wClockReferences_11 : State :=
  { State.reset with regs := [(150997052, 2)] }
def wClockReferences_17 : State :=
  { State.reset with regs := [(150997258, 2), (150997376, 1)] }
theorem test_ClockReferences :
    (wClockReferences_1.regsOk ∧ wClockReferences_1.flag (refOk (true : Bool)) = true ∧ wClockReferences_1.flag (refOk !(true : Bool)) = true ∧ wClockReferences_1.get CLK.REF_IN_USE = b2n (true : Bool) ∧ (wClockReferences_1.get CLK.ROOT_STATE = rootLocked ∨ wClockReferences_1.get CLK.ROOT_STATE = rootHoldover)) ∧
    (wClockReferences_2.regsOk ∧ wClockReferences_2.flag (refOk (true : Bool)) = true ∧ wClockReferences_2.flag (refOk !(true : Bool)) = true ∧ wClockReferences_2.get CLK.REF_IN_USE = b2n !(true : Bool)) ∧
    (wClockReferences_3.regsOk ∧ wClockReferences_3.flag (refOk (false : Bool)) = true ∧ wClockReferences_3.flag (refOk !(false : Bool)) = false ∧ wClockReferences_3.get CLK.ROOT_STATE = rootLocked ∧ wClockReferences_3.seq.pwrgood = true ∧ wClockReferences_3.frozen = false) ∧
    (State.reset.regsOk ∧ State.reset.flag (refOk (false : Bool)) = false ∧ State.reset.flag (refOk !(false : Bool)) = false) ∧
    (wClockReferences_5.regsOk ∧ wClockReferences_5.flag (refOk (true : Bool)) = false ∧ wClockReferences_5.flag (refOk !(true : Bool)) = true ∧ wClockReferences_5.flag CLK.REF_REVERT = true ∧ wClockReferences_5.get CLK.REF_PREF = b2n (true : Bool) ∧ wClockReferences_5.get CLK.REF_IN_USE = b2n !(true : Bool) ∧ wClockReferences_5.get CLK.ROOT_STATE = rootLocked) ∧
    (wClockReferences_6.regsOk ∧ wClockReferences_6.flag (refOk (false : Bool)) = false ∧ wClockReferences_6.flag (refOk !(false : Bool)) = true ∧ wClockReferences_6.flag CLK.REF_REVERT = false) ∧
    (wClockReferences_7.regsOk ∧ wClockReferences_7.seq.pwrgood = true ∧ wClockReferences_7.flag (refOk (wClockReferences_7.flag CLK.REF_IN_USE)) = true ∧ (wClockReferences_7.get CLK.ROOT_STATE = rootUnlocked ∨ wClockReferences_7.get CLK.ROOT_STATE = rootHoldover)) ∧
    (wClockReferences_8.regsOk ∧ wClockReferences_8.get CLK.ROOT_STATE = rootLocked) ∧
    (wClockReferences_9.regsOk ∧ wClockReferences_9.clk.relock = true ∧ wClockReferences_9.seq.pwrgood = true ∧ wClockReferences_9.frozen = false) ∧
    (State.reset.clk.relock = false) ∧
    (wClockReferences_11.regsOk ∧ wClockReferences_11.get CLK.ROOT_STATE = rootHoldover) ∧
    (State.reset.regsOk ∧ State.reset.clk.pllDown.contains (0 : Fin 6).val = false) ∧
    (State.reset.regsOk ∧ State.reset.clk.pllDown.contains (14 + (0 : EPort).val) = false) ∧
    (State.reset.regsOk ∧ State.reset.clk.pllDown.contains (6 + (0 : Port).val) = false) ∧
    (State.reset.regsOk ∧ State.reset.clk.pllDown.contains (18 + (0 : Bundle).val) = false) ∧
    (State.reset.regsOk) ∧
    (wClockReferences_17.regsOk ∧ wClockReferences_17.bitOf CLK.CKOUT_ON (0 : Fin 4).val = true ∧ wClockReferences_17.get CLK.FMT 0 (0 : Fin 4).val = 2) :=
  ⟨(by simp only [regsOk_iff]; decide +kernel),
   (by simp only [regsOk_iff]; decide +kernel),
   (by simp only [regsOk_iff]; decide +kernel),
   (by simp only [regsOk_iff]; decide +kernel),
   (by simp only [regsOk_iff]; decide +kernel),
   (by simp only [regsOk_iff]; decide +kernel),
   (by simp only [regsOk_iff]; decide +kernel),
   (by simp only [regsOk_iff]; decide +kernel),
   (by simp only [regsOk_iff]; decide +kernel),
   (by decide +kernel),
   (by simp only [regsOk_iff]; decide +kernel),
   (by simp only [regsOk_iff]; decide +kernel),
   (by simp only [regsOk_iff]; decide +kernel),
   (by simp only [regsOk_iff]; decide +kernel),
   (by simp only [regsOk_iff]; decide +kernel),
   (by simp only [regsOk_iff]; decide +kernel),
   (by simp only [regsOk_iff]; decide +kernel)⟩

def wClockRegisters_1 : State :=
  { State.reset with regs := [(150995073, 1)] }
def wClockRegisters_2 : State :=
  { State.reset with regs := [(150995073, 1), (150997088, 4)] }
def wClockRegisters_3 : State :=
  { State.reset with regs := [(150995073, 1), (150995105, 1), (150997151, 1)] }
def wClockRegisters_4 : State :=
  { State.reset with regs := [(150997151, 1)] }
def wClockRegisters_5 : State :=
  { State.reset with regs := [(150995073, 1)] }
def wClockRegisters_6 : State :=
  { State.reset with regs := [(150995073, 1), (150997327, 1)] }
def wClockRegisters_7 : State :=
  { State.reset with regs := [(150995073, 1)] }
def wClockRegisters_8 : State :=
  { State.reset with regs := [(150995073, 1)] }
theorem test_ClockRegisters :
    (wClockRegisters_1.regsOk ∧ wClockRegisters_1.commands ((Requester.warden) : Requester) clkPage ∧ wClockRegisters_1.flag CLK.BUSY = false ∧ wClockRegisters_1.get CLK.FAB_SEL ≤ 1 ∧ wClockRegisters_1.get CLK.PAN_SEL ≤ 1 ∧ wClockRegisters_1.get CLK.CORE_SEL ≤ 3 ∧ (wClockRegisters_1.get CLK.FAB_SEL = 1 → wClockRegisters_1.busy ftlPage = false)) ∧
    (wClockRegisters_2.regsOk ∧ wClockRegisters_2.commands ((Requester.warden) : Requester) clkPage ∧ wClockRegisters_2.flag CLK.BUSY = false ∧ (1 < wClockRegisters_2.get CLK.FAB_SEL ∨ 1 < wClockRegisters_2.get CLK.PAN_SEL ∨ 3 < wClockRegisters_2.get CLK.CORE_SEL ∨ (wClockRegisters_2.get CLK.FAB_SEL = 1 ∧ wClockRegisters_2.busy ftlPage = true))) ∧
    (wClockRegisters_3.regsOk ∧ wClockRegisters_3.commands ((Requester.warden) : Requester) clkPage ∧ wClockRegisters_3.flag CLK.BUSY = true) ∧
    (wClockRegisters_4.regsOk ∧ wClockRegisters_4.pending = [] ∧ wClockRegisters_4.flag CLK.BUSY = true ∧ wClockRegisters_4.get HRV.STATE ≠ hrvHarvesting ∧ wClockRegisters_4.tier.writes = [] ∧ wClockRegisters_4.tier.drains = [] ∧ wClockRegisters_4.twn.cipher = [] ∧ wClockRegisters_4.cmn.cipher = [] ∧ wClockRegisters_4.flm.cipher = [] ∧ wClockRegisters_4.cmn.rxWait = []) ∧
    (wClockRegisters_5.regsOk ∧ wClockRegisters_5.admits ((Requester.warden) : Requester) clkPage ∧ wClockRegisters_5.takes clkPage ∧ wClockRegisters_5.flag CLK.EN 0 (0 : Fin 4).val = false) ∧
    (wClockRegisters_6.regsOk ∧ wClockRegisters_6.admits ((Requester.warden) : Requester) clkPage ∧ wClockRegisters_6.takes clkPage ∧ wClockRegisters_6.flag CLK.EN 0 (2 : Fin 4).val = true ∧ ¬ (wClockRegisters_6.get CLK.FMT 0 (2 : Fin 4).val = bits (0 : BitVec 32).toNat 10 2 ∧ wClockRegisters_6.get CLK.LEVEL 0 (2 : Fin 4).val = bits (0 : BitVec 32).toNat 8 2 ∧ wClockRegisters_6.get CLK.SRC 0 (2 : Fin 4).val = bits (0 : BitVec 32).toNat 0 3)) ∧
    (wClockRegisters_7.regsOk ∧ wClockRegisters_7.commands ((Requester.warden) : Requester) clkPage ∧ (1 : BitVec 4) ≠ 0) ∧
    (wClockRegisters_8.regsOk ∧ wClockRegisters_8.commands ((Requester.warden) : Requester) clkPage) :=
  ⟨(by simp only [regsOk_iff, State.commands, State.governs, State.admits, State.wayClear]; decide +kernel),
   (by simp only [regsOk_iff, State.commands, State.governs, State.admits, State.wayClear]; decide +kernel),
   (by simp only [regsOk_iff, State.commands, State.governs, State.admits, State.wayClear]; decide +kernel),
   (by simp only [regsOk_iff]; decide +kernel),
   (by simp only [regsOk_iff, State.takes, State.admits, State.wayClear]; decide +kernel),
   (by simp only [regsOk_iff, State.takes, State.admits, State.wayClear]; decide +kernel),
   (by simp only [regsOk_iff, State.commands, State.governs, State.admits, State.wayClear]; decide +kernel),
   (by simp only [regsOk_iff, State.commands, State.governs, State.admits, State.wayClear]; decide +kernel)⟩

def wPowerDomains_1 : State :=
  { State.reset with regs := [(159383681, 1)] }
def wPowerDomains_2 : State :=
  { State.reset with regs := [(159383681, 1)] }
def wPowerDomains_3 : State :=
  { State.reset with regs := [(159386976, 1)] }
def wPowerDomains_4 : State :=
  let s := State.reset
  let s : State := s.put PWR.STATE 0 0 (8 : Dom).val
  let s : State := s.put PWR.MODE (((modeOn)+1)) 0 (8 : Dom).val
  let s : State := s.put HRV.STATE 0
  let s : State := (s.put PWR.MODE 1 0 8).put HP.UP 1 0 1
  s
def wPowerDomains_5 : State :=
  { State.reset with regs := [(159385632, 1)] }
def wPowerDomains_6 : State :=
  { State.reset with regs := [(159385664, 1)] }
def wPowerDomains_7 : State :=
  { State.reset with regs := [(159389436, 3)] }
def wPowerDomains_8 : State :=
  { State.reset with regs := [(159386976, 1), (159389052, 3), (159389696, 8796093022208)] }
def wPowerDomains_9 : State :=
  { State.reset with regs := [(159389276, 4)] }
def wPowerDomains_10 : State :=
  let s := State.reset
  let s : State := s.put PWR.STATE (domWaking) 0 (0 : Dom).val
  let s : State := { s with ctl.stalled := [({ req := .warden, off := BitVec.ofNat 32 (seqPage.base + 0x100), size := 4, write := false, data := 0 } : Stalled)] }
  s
def wPowerDomains_11 : State :=
  { State.reset with regs := [(159388860, 5)] }
def wPowerDomains_12 : State :=
  { State.reset with regs := [(159388732, 4)] }
def wPowerDomains_13 : State :=
  let s := State.reset
  let s : State := s.put PWR.STATE (domWaking) 0 (16 : Dom).val
  let s : State := s.put TWN.STATE 0
  let s : State := { s with ctl.stalled := [({ req := .warden, off := BitVec.ofNat 32 (qePage.base + 0x100), size := 4, write := false, data := 0 } : Stalled)] }
  s
def wPowerDomains_14 : State :=
  { State.reset with regs := [(159387836, 5)] }
def wPowerDomains_15 : State :=
  { State.reset with regs := [(159383681, 1)] }
def wPowerDomains_16 : State :=
  let s := State.reset
  let s : State := s.wr pwrPage HDR.QUIESCE 1
  let s : State := { (s.put PWR.STATE 0 0 (Page.dom pwrPage)) with ctl.stalled := [] }
  let s : State := s.put HP.UP 1 0 1
  s
def wPowerDomains_17 : State :=
  let s := State.reset
  let s : State := s.wr pwrPage HDR.QUIESCE 1
  { s with ctl.parts := [({ page := pg .pan, applied := false, restored := false } : Participant)] }
def wPowerDomains_18 : State :=
  { State.reset with regs := [(159389116, 4), (268535840, 1), (268535844, 1), (268535848, 1), (268535900, 4)] }
theorem test_PowerDomains :
    (wPowerDomains_1.regsOk ∧ wPowerDomains_1.admits ((Requester.warden) : Requester) pwrPage ∧ wPowerDomains_1.takes pwrPage ∧ domPermits (0 : Dom).val (bits (0 : BitVec 32).toNat 0 2) = true) ∧
    (wPowerDomains_2.regsOk ∧ wPowerDomains_2.admits ((Requester.warden) : Requester) pwrPage ∧ wPowerDomains_2.takes pwrPage ∧ domPermits (0 : Dom).val (bits (1 : BitVec 32).toNat 0 2) = false) ∧
    (wPowerDomains_3.regsOk ∧ 8 ≤ (43 : Dom).val ∧ (∀ p ∈ domPages (43 : Dom).val, wPowerDomains_3.busy p = false) ∧ wPowerDomains_3.domainOn (43 : Dom).val = true ∧ wPowerDomains_3.get PWR.MODE 0 (43 : Dom).val ≠ modeOn ∧ wPowerDomains_3.frozen = false ∧ wPowerDomains_3.refusal' (43 : Dom).val (wPowerDomains_3.get PWR.MODE 0 (43 : Dom).val = modeOff) = none) ∧
    (wPowerDomains_4.regsOk ∧ 8 ≤ (8 : Dom).val ∧ (∀ p ∈ domPages (8 : Dom).val, wPowerDomains_4.busy p = false) ∧ wPowerDomains_4.domainOn (8 : Dom).val = true ∧ wPowerDomains_4.get PWR.MODE 0 (8 : Dom).val ≠ modeOn ∧ wPowerDomains_4.frozen = false ∧ wPowerDomains_4.refusal' (8 : Dom).val (wPowerDomains_4.get PWR.MODE 0 (8 : Dom).val = modeOff) = some (refuseLink : Nat)) ∧
    (wPowerDomains_5.regsOk ∧ wPowerDomains_5.domainOn 1 = true ∧ wPowerDomains_5.get PWR.MODE 0 1 ≠ modeOn ∧ wPowerDomains_5.frozen = false) ∧
    (wPowerDomains_6.regsOk ∧ wPowerDomains_6.domainOn (2 + (0 : Cluster).val) = true ∧ wPowerDomains_6.get PWR.MODE 0 (2 + (0 : Cluster).val) ≠ modeOn ∧ wPowerDomains_6.frozen = false) ∧
    (wPowerDomains_7.regsOk ∧ wPowerDomains_7.get PWR.STATE 0 (55 : Dom).val = domEntering ∧ wPowerDomains_7.bitOf PWR.PWR_WAKE_LATCH (55 : Dom).val = false) ∧
    (wPowerDomains_8.regsOk ∧ wPowerDomains_8.get PWR.STATE 0 (43 : Dom).val = domEntering ∧ wPowerDomains_8.bitOf PWR.PWR_WAKE_LATCH (43 : Dom).val = true ∧ wPowerDomains_8.pwr.shed.contains (43 : Dom).val = false ∧ (wPowerDomains_8.get PWR.MODE 0 (43 : Dom).val = modeRet ∨ wPowerDomains_8.get PWR.MODE 0 (43 : Dom).val = modeOff)) ∧
    (wPowerDomains_9.regsOk ∧ wPowerDomains_9.get PWR.STATE 0 (50 : Dom).val = domWaking ∧ wPowerDomains_9.pwr.fromOff.contains (50 : Dom).val = false ∧ (∀ x ∈ wPowerDomains_9.pwr.latched, x.1 ≠ (50 : Dom).val) ∧ wPowerDomains_9.ctl.stalled = [] ∧ ((50 : Dom).val < 26 ∨ 54 ≤ (50 : Dom).val ∨ (wPowerDomains_9.tier.reads = [] ∧ wPowerDomains_9.tier.held = [] ∧ wPowerDomains_9.qe.cmds = [] ∧ wPowerDomains_9.mov.holds = [])) ∧ (∀ c : Chan, (50 : Dom).val = 42 + c.val → wPowerDomains_9.get DMC.STATE c.val ≠ dmcSelfRefresh)) ∧
    (wPowerDomains_10.regsOk ∧ wPowerDomains_10.get PWR.STATE 0 (0 : Dom).val = domWaking ∧ wPowerDomains_10.pwr.fromOff.contains (0 : Dom).val = false ∧ (∀ y ∈ wPowerDomains_10.pwr.latched, y.1 ≠ (0 : Dom).val) ∧ wPowerDomains_10.ctl.stalled = [({ req := .warden, off := BitVec.ofNat 32 (seqPage.base + 0x100), size := 4, write := false, data := 0 } : Stalled)] ∧ ({ req := .warden, off := BitVec.ofNat 32 (seqPage.base + 0x100), size := 4, write := false, data := 0 } : Stalled).write = false ∧ pageFor ({ req := .warden, off := BitVec.ofNat 32 (seqPage.base + 0x100), size := 4, write := false, data := 0 } : Stalled).req ({ req := .warden, off := BitVec.ofNat 32 (seqPage.base + 0x100), size := 4, write := false, data := 0 } : Stalled).off.toNat = some (seqPage : Page) ∧ Page.dom (seqPage : Page) = (0 : Dom).val ∧ wPowerDomains_10.reaches ({ req := .warden, off := BitVec.ofNat 32 (seqPage.base + 0x100), size := 4, write := false, data := 0 } : Stalled).req = true ∧ wPowerDomains_10.mayRead ({ req := .warden, off := BitVec.ofNat 32 (seqPage.base + 0x100), size := 4, write := false, data := 0 } : Stalled).req (seqPage : Page) = true ∧ legalAccess ({ req := .warden, off := BitVec.ofNat 32 (seqPage.base + 0x100), size := 4, write := false, data := 0 } : Stalled).off.toNat ({ req := .warden, off := BitVec.ofNat 32 (seqPage.base + 0x100), size := 4, write := false, data := 0 } : Stalled).size = true ∧ ((0 : Dom).val < 26 ∨ 54 ≤ (0 : Dom).val ∨ (wPowerDomains_10.tier.reads = [] ∧ wPowerDomains_10.tier.held = [] ∧ wPowerDomains_10.qe.cmds = [] ∧ wPowerDomains_10.mov.holds = [])) ∧ (∀ c : Chan, (0 : Dom).val = 42 + c.val → wPowerDomains_10.get DMC.STATE c.val ≠ dmcSelfRefresh)) ∧
    (wPowerDomains_11.regsOk ∧ wPowerDomains_11.get PWR.STATE 0 (26 + (11 : Slice).val) = domResetting ∧ wPowerDomains_11.ctl.stalled = []) ∧
    (wPowerDomains_12.regsOk ∧ ((33 : Dom).val < 2 ∨ 8 ≤ (33 : Dom).val) ∧ (wPowerDomains_12.get PWR.STATE 0 (33 : Dom).val = domWaking ∨ wPowerDomains_12.get PWR.STATE 0 (33 : Dom).val = domResetting) ∧ wPowerDomains_12.ctl.stalled = [] ∧ wPowerDomains_12.mirroring = false) ∧
    (wPowerDomains_13.regsOk ∧ 8 ≤ (16 : Dom).val ∧ (wPowerDomains_13.get PWR.STATE 0 (16 : Dom).val = domWaking ∨ wPowerDomains_13.get PWR.STATE 0 (16 : Dom).val = domResetting) ∧ wPowerDomains_13.mirroring = false ∧ wPowerDomains_13.ctl.stalled = [({ req := .warden, off := BitVec.ofNat 32 (qePage.base + 0x100), size := 4, write := false, data := 0 } : Stalled)] ∧ ({ req := .warden, off := BitVec.ofNat 32 (qePage.base + 0x100), size := 4, write := false, data := 0 } : Stalled).write = false ∧ pageFor ({ req := .warden, off := BitVec.ofNat 32 (qePage.base + 0x100), size := 4, write := false, data := 0 } : Stalled).req ({ req := .warden, off := BitVec.ofNat 32 (qePage.base + 0x100), size := 4, write := false, data := 0 } : Stalled).off.toNat = some (qePage : Page) ∧ Page.dom (qePage : Page) = (16 : Dom).val) ∧
    (wPowerDomains_14.regsOk ∧ (wPowerDomains_14.get PWR.STATE 0 (2 + (3 : Cluster).val) = domWaking ∨ wPowerDomains_14.get PWR.STATE 0 (2 + (3 : Cluster).val) = domResetting) ∧ wPowerDomains_14.ctl.stalled = [] ∧ wPowerDomains_14.wdn.svcOff = false ∧ (wPowerDomains_14.wdn.restarts.filter fun t => wPowerDomains_14.timeNs < t + 3600000000000).length < 3) ∧
    (wPowerDomains_15.regsOk ∧ wPowerDomains_15.commands ((Requester.warden) : Requester) pwrPage ∧ (1 : BitVec 64) ≠ 0 ∧ (∀ n : Dom, 2 ≤ n.val → (1 : BitVec 64).getLsbD n.val = true → wPowerDomains_15.refusal' n.val true = none) ∧ (∀ x ∈ wPowerDomains_15.ctl.parts, (1 : BitVec 64).getLsbD (Page.dom x.page) = false ∨ Page.dom x.page < 2)) ∧
    (wPowerDomains_16.regsOk ∧ wPowerDomains_16.commands (.warden : Requester) pwrPage ∧ 2 ≤ (8 : Dom).val ∧ wPowerDomains_16.refusal' (8 : Dom).val true = some (refuseLink : Nat)) ∧
    (wPowerDomains_17.regsOk ∧ wPowerDomains_17.commands (.warden : Requester) pwrPage ∧ 2 ≤ (26 : Dom).val ∧ wPowerDomains_17.refusal' (26 : Dom).val true = none ∧ ({ page := pg .pan, applied := false, restored := false } : Participant) ∈ wPowerDomains_17.ctl.parts ∧ Page.dom ({ page := pg .pan, applied := false, restored := false } : Participant).page = (26 : Dom).val) ∧
    (wPowerDomains_18.regsOk ∧ (45 : Dom).val = 42 + (3 : Chan).val ∧ wPowerDomains_18.get PWR.STATE 0 (45 : Dom).val = domWaking ∧ wPowerDomains_18.pwr.fromOff.contains (45 : Dom).val = false ∧ (∀ x ∈ wPowerDomains_18.pwr.latched, x.1 ≠ (45 : Dom).val) ∧ wPowerDomains_18.ctl.stalled = [] ∧ wPowerDomains_18.tier.reads = [] ∧ wPowerDomains_18.tier.held = [] ∧ wPowerDomains_18.qe.cmds = [] ∧ wPowerDomains_18.mov.holds = [] ∧ wPowerDomains_18.get DMC.STATE (3 : Chan).val = dmcSelfRefresh ∧ wPowerDomains_18.get DMC.RANKS (3 : Chan).val ≠ 0 ∧ topoOk (wPowerDomains_18.dmcTopo (3 : Chan).val) = true ∧ wPowerDomains_18.unstaged (dmcPage (3 : Chan).val)) :=
  ⟨(by simp only [regsOk_iff, State.takes, State.admits, State.wayClear]; decide +kernel),
   (by simp only [regsOk_iff, State.takes, State.admits, State.wayClear]; decide +kernel),
   (by simp only [regsOk_iff]; decide +kernel),
   (by simp only [regsOk_iff]; decide),
   (by simp only [regsOk_iff]; decide +kernel),
   (by simp only [regsOk_iff]; decide +kernel),
   (by simp only [regsOk_iff]; decide +kernel),
   (by simp only [regsOk_iff]; decide +kernel),
   (by simp only [regsOk_iff]; decide +kernel),
   (by simp only [regsOk_iff]; decide +kernel),
   (by simp only [regsOk_iff]; decide +kernel),
   (by simp only [regsOk_iff]; decide +kernel),
   (by simp only [regsOk_iff]; decide),
   (by simp only [regsOk_iff]; decide +kernel),
   (by simp only [regsOk_iff, State.commands, State.governs, State.admits, State.wayClear]; decide +kernel),
   (by simp only [regsOk_iff, State.commands, State.governs, State.admits, State.wayClear]; decide),
   (by simp only [regsOk_iff, State.commands, State.governs, State.admits, State.wayClear]; decide +kernel),
   (by simp only [regsOk_iff, State.unstaged]; decide +kernel)⟩

def wRailSupervision_1 : State :=
  { State.reset with seq.por := true }
def wRailSupervision_2 : State :=
  { State.reset with seq.por := true }
def wRailSupervision_3 : State :=
  let s := State.reset
  let s : State := { s with seq.por := true }
  let s : State := { s with seq.pwrgood := false }
  let s : State := { s with seq.up := false, seq.down := false, seq.undo := false, seq.devUp := none, seq.devDown := none }
  let s : State := s.put HRV.STATE (((hrvHarvesting)+1)) 
  let s : State := { s with seq := { s.seq with rows := [(3, [0x90000000, 0, 0x00640190, 0, 0, 0, 0, 0])], rails := [(3, { railIdle with phase := .good, badF := 1 })] } }
  s
def wRailSupervision_4 : State :=
  { State.reset with seq.rails := [(7, { zRailRun with phase := .ramping })] }
def wRailSupervision_5 : State :=
  { State.reset with seq.rows := [(0, [2556429569])], seq.rails := [(0, { zRailRun with phase := .ramping })] }
def wRailSupervision_6 : State :=
  { State.reset with seq.rails := [(33, { zRailRun with phase := .ramping })] }
def wRailSupervision_7 : State :=
  { State.reset with seq.rails := [(17, { zRailRun with phase := .releasing })] }
def wRailSupervision_8 : State :=
  { State.reset with seq.rails := [(16, { zRailRun with phase := .releasing }), (37, { zRailRun with phase := .good })], seq.down := true, seq.pwrgood := true }
def wRailSupervision_9 : State :=
  { State.reset with seq.rails := [(31, { zRailRun with high := true })] }
def wRailSupervision_13 : State :=
  { State.reset with regs := [(167774267, 1)], seq.faultClr := true }
def wRailSupervision_16 : State :=
  { State.reset with regs := [(167774267, 1)] }
def wRailSupervision_17 : State :=
  { State.reset with seq.por := true }
def wRailSupervision_18 : State :=
  let s := State.reset
  let s : State := { s with seq.por := true }
  let s : State := { s with seq := { s.seq with tempRuns := [(0, { tempIdle with faultUp := 1 })], tempCfg := [(0, (105, 90, 0xFFFFFFFF))] } }
  s
def wRailSupervision_19 : State :=
  { State.reset with regs := [(167774263, 1)] }
def wRailSupervision_20 : State :=
  { State.reset with regs := [(167774263, 1)], hrv.stepFails := 1 }
theorem test_RailSupervision :
    (wRailSupervision_1.regsOk ∧ wRailSupervision_1.seq.por = true) ∧
    (wRailSupervision_2.regsOk ∧ wRailSupervision_2.seq.por = true ∧ wRailSupervision_2.seq.pwrgood = false ∧ wRailSupervision_2.railsCalm ∧ (∀ n, n < 40 → wRailSupervision_2.railPhase n = .off) ∧ rowVEn (wRailSupervision_2.row 40) = false ∧ wRailSupervision_2.get HRV.STATE ≠ hrvHarvesting) ∧
    (wRailSupervision_3.regsOk ∧ wRailSupervision_3.seq.por = true ∧ wRailSupervision_3.seq.pwrgood = false ∧ wRailSupervision_3.railsCalm ∧ (∀ m, m < 40 → m ≠ (3 : Fin 32).val → wRailSupervision_3.railPhase m = .off) ∧ wRailSupervision_3.railPhase (3 : Fin 32).val = .good ∧ (wRailSupervision_3.rail (3 : Fin 32).val).badF = 1 ∧ wRailSupervision_3.rowReading ⟨([] : List Nat), ([] : List Nat), ([] : List (Nat × Nat))⟩ (3 : Fin 32).val = some ((0, 0, 0) : Int × Int × Int) ∧ wRailSupervision_3.beyond (rowFaultLo (wRailSupervision_3.row (3 : Fin 32).val)) (rowFaultHi (wRailSupervision_3.row (3 : Fin 32).val)) (rowOcFault (wRailSupervision_3.row (3 : Fin 32).val)) ((0, 0, 0) : Int × Int × Int) = true ∧ rowVEn (wRailSupervision_3.row 40) = false ∧ wRailSupervision_3.get HRV.STATE ≠ hrvHarvesting) ∧
    (wRailSupervision_4.regsOk ∧ wRailSupervision_4.railPhase (7 : Fin 32).val = .ramping ∧ rowVEn (wRailSupervision_4.row (7 : Fin 32).val) = false) ∧
    (wRailSupervision_5.regsOk ∧ wRailSupervision_5.railPhase (0 : Fin 32).val = .ramping ∧ rowVEn (wRailSupervision_5.row (0 : Fin 32).val) = true) ∧
    (wRailSupervision_6.regsOk ∧ wRailSupervision_6.railPhase (32 + (1 : Fin 8).val) = .ramping) ∧
    (wRailSupervision_7.regsOk ∧ wRailSupervision_7.railPhase (17 : Fin 40).val = .releasing ∧ wRailSupervision_7.railsCalm) ∧
    (wRailSupervision_8.regsOk ∧ wRailSupervision_8.railPhase (16 : Fin 40).val = .releasing ∧ (16 : Fin 40).val < 32 ∧ wRailSupervision_8.seq.down = true ∧ wRailSupervision_8.seq.up = false ∧ wRailSupervision_8.seq.pwrgood = true ∧ (∀ m, m < 32 → m ≠ (16 : Fin 40).val → wRailSupervision_8.railPhase m = .off) ∧ wRailSupervision_8.railPhase 37 = .good) ∧
    (wRailSupervision_9.regsOk ∧ (wRailSupervision_9.rail (31 : Fin 40).val).high = true ∧ (wRailSupervision_9.railPhase (31 : Fin 40).val = .releasing ∨ wRailSupervision_9.railPhase (31 : Fin 40).val = .off) ∧ wRailSupervision_9.railsCalm) ∧
    (State.reset.regsOk ∧ State.reset.flag SEQ.FAULT_N_DRV = false ∧ State.reset.railsCalm) ∧
    (State.reset.regsOk ∧ State.reset.flag SEQ.FAULT_N_DRV = false) ∧
    (State.reset.seq.faultClr = false) ∧
    (wRailSupervision_13.regsOk ∧ wRailSupervision_13.seq.faultClr = true ∧ wRailSupervision_13.flag SEQ.FAULT_N_DRV = true) ∧
    (State.reset.regsOk ∧ State.reset.railsCalm ∧ State.reset.get HRV.STATE ≠ hrvHarvesting) ∧
    (State.reset.regsOk ∧ State.reset.seq.down = false) ∧
    (wRailSupervision_16.regsOk ∧ wRailSupervision_16.flag SEQ.FAULT_N_DRV = true ∧ wRailSupervision_16.seq.up = false) ∧
    (wRailSupervision_17.regsOk ∧ wRailSupervision_17.seq.por = true ∧ ([2000, 0] : List Int)[(1 : Fin 16).val]? = some (0 : Int)) ∧
    (wRailSupervision_18.regsOk ∧ wRailSupervision_18.seq.por = true ∧ (tget wRailSupervision_18.seq.tempRuns 0).getD tempIdle = ({ tempIdle with faultUp := 1 } : TempRun) ∧ ({ tempIdle with faultUp := 1 } : TempRun).fault = false ∧ 1 ≤ ({ tempIdle with faultUp := 1 } : TempRun).faultUp ∧ 8 * ((wRailSupervision_18.tempSet 0).1 : Int) < (841 : Int)) ∧
    (wRailSupervision_19.regsOk ∧ wRailSupervision_19.flag SEQ.STEP_ACTIVE = true ∧ 20 ≤ (4096 : Nat) ∧ (0 : Nat) ≤ 5 ∧ wRailSupervision_19.get HRV.BANK_ESR_UOHM < 2 ^ 32) ∧
    (wRailSupervision_20.regsOk ∧ wRailSupervision_20.flag SEQ.STEP_ACTIVE = true ∧ ((0 : Nat) < 20 ∨ 5 < (0 : Nat)) ∧ wRailSupervision_20.hrv.stepFails = 1) ∧
    (State.reset.regsOk) :=
  ⟨(by simp only [regsOk_iff]; decide +kernel),
   (by simp only [regsOk_iff, State.railsCalm]; decide +kernel),
   (by simp only [regsOk_iff, State.railsCalm]; decide),
   (by simp only [regsOk_iff]; decide +kernel),
   (by simp only [regsOk_iff]; decide +kernel),
   (by simp only [regsOk_iff]; decide +kernel),
   (by simp only [regsOk_iff, State.railsCalm]; decide +kernel),
   (by simp only [regsOk_iff]; decide +kernel),
   (by simp only [regsOk_iff, State.railsCalm]; decide +kernel),
   (by simp only [regsOk_iff, State.railsCalm]; decide +kernel),
   (by simp only [regsOk_iff]; decide +kernel),
   (by decide +kernel),
   (by simp only [regsOk_iff]; decide +kernel),
   (by simp only [regsOk_iff, State.railsCalm]; decide +kernel),
   (by simp only [regsOk_iff]; decide +kernel),
   (by simp only [regsOk_iff]; decide +kernel),
   (by simp only [regsOk_iff]; decide +kernel),
   (by simp only [regsOk_iff]; decide),
   (by simp only [regsOk_iff]; decide +kernel),
   (by simp only [regsOk_iff]; decide +kernel),
   (by simp only [regsOk_iff]; decide +kernel)⟩

def wRailCommands_1 : State :=
  { State.reset with regs := [(167772289, 1)], seq.pwrgood := true }
def wRailCommands_2 : State :=
  { State.reset with regs := [(167772289, 1)] }
def wRailCommands_3 : State :=
  { State.reset with regs := [(167772289, 1)], seq.rails := [(0, { zRailRun with phase := .ramping })], seq.pwrgood := true }
def wRailCommands_4 : State :=
  { State.reset with regs := [(167772289, 1)], seq.faultHold := true }
def wRailCommands_5 : State :=
  { State.reset with regs := [(167772289, 1), (167774267, 1)] }
def wRailCommands_6 : State :=
  { State.reset with regs := [(167772289, 1)] }
def wRailCommands_8 : State :=
  { State.reset with regs := [(167774400, 42)] }
def wRailCommands_9 : State :=
  let s := State.reset
  let s : State := s.wr seqPage HDR.QUIESCE 1
  let s : State := { (s.put PWR.STATE 0 0 (Page.dom seqPage)) with ctl.stalled := [] }
  let s : State := { s with seq := { s.seq with shadow := [(3, [0x80000000, 8, 0, 0, 0, 0, 0, 0])] } }
  s
def wRailCommands_10 : State :=
  { State.reset with regs := [(167772289, 1)] }
theorem test_RailCommands :
    (wRailCommands_1.regsOk ∧ wRailCommands_1.commands ((Requester.warden) : Requester) seqPage ∧ wRailCommands_1.seq.pwrgood = true ∧ wRailCommands_1.seq.down = false) ∧
    (wRailCommands_2.regsOk ∧ wRailCommands_2.commands ((Requester.warden) : Requester) seqPage ∧ (wRailCommands_2.seq.pwrgood = false ∨ wRailCommands_2.seq.down = true)) ∧
    (wRailCommands_3.regsOk ∧ wRailCommands_3.commands ((Requester.warden) : Requester) seqPage ∧ wRailCommands_3.seq.pwrgood = true ∧ (∃ n, n < 32 ∧ wRailCommands_3.railPhase n ≠ .off)) ∧
    (wRailCommands_4.regsOk ∧ wRailCommands_4.commands ((Requester.warden) : Requester) seqPage ∧ wRailCommands_4.seq.faultHold = true) ∧
    (wRailCommands_5.regsOk ∧ wRailCommands_5.commands ((Requester.warden) : Requester) seqPage ∧ wRailCommands_5.seq.faultHold = false ∧ wRailCommands_5.flag SEQ.FAULT_N_DRV = true) ∧
    (wRailCommands_6.regsOk ∧ wRailCommands_6.commands ((Requester.warden) : Requester) seqPage ∧ (1 : BitVec 32) ≠ 0) ∧
    (State.reset.regsOk ∧ State.reset.governs ((Requester.warden) : Requester) seqPage ∧ State.reset.get SEQ.RAIL_IDX < 41) ∧
    (wRailCommands_8.regsOk ∧ wRailCommands_8.governs ((Requester.warden) : Requester) seqPage ∧ 41 ≤ wRailCommands_8.get SEQ.RAIL_IDX) ∧
    (wRailCommands_9.regsOk ∧ wRailCommands_9.commands (.warden : Requester) seqPage ∧ (3 : Nat) < 41 ∧ (∀ m, m < (3 : Nat) → wRailCommands_9.rowCode m = none) ∧ wRailCommands_9.rowCode (3 : Nat) = some (2 : Nat)) ∧
    (wRailCommands_10.regsOk ∧ wRailCommands_10.commands ((Requester.warden) : Requester) seqPage ∧ Rising wRailCommands_10.seq.shadow ∧ (∀ n, n < 41 → wRailCommands_10.rowCode n = none)) :=
  ⟨(by simp only [regsOk_iff, State.commands, State.governs, State.admits, State.wayClear]; decide +kernel),
   (by simp only [regsOk_iff, State.commands, State.governs, State.admits, State.wayClear]; decide +kernel),
   (by simp only [regsOk_iff, State.commands, State.governs, State.admits, State.wayClear]; decide +kernel),
   (by simp only [regsOk_iff, State.commands, State.governs, State.admits, State.wayClear]; decide +kernel),
   (by simp only [regsOk_iff, State.commands, State.governs, State.admits, State.wayClear]; decide +kernel),
   (by simp only [regsOk_iff, State.commands, State.governs, State.admits, State.wayClear]; decide +kernel),
   (by simp only [regsOk_iff, State.governs, State.admits, State.wayClear]; decide +kernel),
   (by simp only [regsOk_iff, State.governs, State.admits, State.wayClear]; decide +kernel),
   (by simp only [regsOk_iff, State.commands, State.governs, State.admits, State.wayClear]; decide),
   (by simp only [regsOk_iff, rising_iff, State.commands, State.governs, State.admits, State.wayClear]; decide +kernel)⟩

def wSettingsStore_1 : State :=
  { State.reset with regs := [(192938113, 1)] }
def wSettingsStore_2 : State :=
  { State.reset with regs := [(192938113, 1), (192940352, 0)] }
def wSettingsStore_3 : State :=
  { State.reset with regs := [(192938113, 1), (192938145, 1), (192940095, 1)] }
def wSettingsStore_4 : State :=
  { State.reset with nvs.storing := (some { zSettings with pci := (26, 2400) }) }
def wSettingsStore_5 : State :=
  { State.reset with regs := [(192940093, 1)], nvs.storing := (some { zSettings with pci := (26, 2400) }) }
def wSettingsStore_6 : State :=
  { State.reset with nvs.storing := (some { zSettings with pci := (26, 2400) }) }
def wSettingsStore_8 : State :=
  { State.reset with regs := [(192940094, 1)] }
def wSettingsStore_9 : State :=
  { State.reset with regs := [(192938113, 1)], nvs.bankA := none }
def wSettingsStore_10 : State :=
  { State.reset with regs := [(192938113, 1)] }
def wSettingsStore_11 : State :=
  let s := State.reset
  let s : State := s.wr nvsPage HDR.QUIESCE 1
  let s : State := { (s.put PWR.STATE 0 0 (Page.dom nvsPage)) with ctl.stalled := [] }
  let s : State := s.put NVS.BUSY (0) 
  let s : State := s.put NVS.SLOT_ID (2) 
  let s : State := (s.put NVS.SLOT_ID 2).put NVS.SLOT_LEN 4096
  s
def wSettingsStore_12 : State :=
  { State.reset with regs := [(192938113, 1)] }
def wSettingsStore_13 : State :=
  { State.reset with regs := [(192938113, 1), (192940128, 3)] }
def wSettingsStore_14 : State :=
  { State.reset with regs := [(192938113, 1)] }
theorem test_SettingsStore :
    (wSettingsStore_1.regsOk ∧ wSettingsStore_1.commands ((Requester.warden) : Requester) nvsPage ∧ wSettingsStore_1.get NVS.BUSY = 0 ∧ wSettingsStore_1.get NVS.BANK_OK = 3 ∧ 0 < wSettingsStore_1.get NVS.TOKENS) ∧
    (wSettingsStore_2.regsOk ∧ wSettingsStore_2.commands ((Requester.warden) : Requester) nvsPage ∧ wSettingsStore_2.get NVS.BUSY = 0 ∧ wSettingsStore_2.get NVS.BANK_OK = 3 ∧ wSettingsStore_2.get NVS.TOKENS = 0) ∧
    (wSettingsStore_3.regsOk ∧ wSettingsStore_3.commands ((Requester.warden) : Requester) nvsPage ∧ wSettingsStore_3.flag NVS.BUSY = true) ∧
    (wSettingsStore_4.regsOk ∧ wSettingsStore_4.nvs.storing = some ({ zSettings with pci := (26, 2400) } : Settings) ∧ wSettingsStore_4.get NVS.BANK_IN_USE = 0) ∧
    (wSettingsStore_5.regsOk ∧ wSettingsStore_5.nvs.storing = some ({ zSettings with pci := (26, 2400) } : Settings) ∧ wSettingsStore_5.get NVS.BANK_IN_USE = 1) ∧
    (wSettingsStore_6.regsOk ∧ wSettingsStore_6.nvs.storing = some ({ zSettings with pci := (26, 2400) } : Settings) ∧ wSettingsStore_6.get NVS.BANK_IN_USE ≤ 1) ∧
    (State.reset.regsOk ∧ State.reset.flag NVS.PENDING = false) ∧
    (wSettingsStore_8.regsOk ∧ wSettingsStore_8.flag NVS.PENDING = true ∧ wSettingsStore_8.get NVS.BUSY = 0 ∧ wSettingsStore_8.get NVS.BANK_OK = 3 ∧ 0 < wSettingsStore_8.get NVS.STORE_BURST ∧ wSettingsStore_8.get NVS.STORE_BURST < 32) ∧
    (wSettingsStore_9.regsOk ∧ wSettingsStore_9.commands ((Requester.warden) : Requester) nvsPage ∧ wSettingsStore_9.get NVS.BUSY = 0 ∧ (if wSettingsStore_9.get NVS.BANK_IN_USE = 0 then wSettingsStore_9.nvs.bankA else wSettingsStore_9.nvs.bankB) = none) ∧
    (wSettingsStore_10.regsOk ∧ wSettingsStore_10.commands ((Requester.warden) : Requester) nvsPage ∧ wSettingsStore_10.get NVS.BUSY = 0 ∧ (if wSettingsStore_10.get NVS.BANK_IN_USE = 0 then wSettingsStore_10.nvs.bankA else wSettingsStore_10.nvs.bankB) = some ({ zBank with image := { zSettings with pci := (26, 2400) } } : Bank)) ∧
    (wSettingsStore_11.regsOk ∧ wSettingsStore_11.commands (.warden : Requester) nvsPage ∧ wSettingsStore_11.get NVS.BUSY = 0 ∧ 2 ≤ wSettingsStore_11.get NVS.SLOT_ID ∧ slotLimit (wSettingsStore_11.get NVS.SLOT_ID) = some (768 * 1024 : Nat) ∧ wSettingsStore_11.get NVS.SLOT_LEN ≤ (768 * 1024 : Nat) ∧ fixedSlots + ({ wSettingsStore_11.nvs.image with raw := tdel wSettingsStore_11.nvs.image.raw (wSettingsStore_11.get NVS.SLOT_ID) } : Settings).used + wSettingsStore_11.get NVS.SLOT_LEN ≤ 2040 * 1024) ∧
    (wSettingsStore_12.regsOk ∧ wSettingsStore_12.commands ((Requester.warden) : Requester) nvsPage ∧ wSettingsStore_12.get NVS.BUSY = 0 ∧ (wSettingsStore_12.get NVS.SLOT_ID ≤ 1 ∨ slotLimit (wSettingsStore_12.get NVS.SLOT_ID) = none ∨ (∃ m, slotLimit (wSettingsStore_12.get NVS.SLOT_ID) = some m ∧ m < wSettingsStore_12.get NVS.SLOT_LEN))) ∧
    (wSettingsStore_13.regsOk ∧ wSettingsStore_13.commands ((Requester.warden) : Requester) nvsPage ∧ wSettingsStore_13.get NVS.BUSY = 0 ∧ 2 ≤ wSettingsStore_13.get NVS.SLOT_ID ∧ (slotLimit (wSettingsStore_13.get NVS.SLOT_ID)).isSome = true) ∧
    (wSettingsStore_14.regsOk ∧ wSettingsStore_14.commands ((Requester.warden) : Requester) nvsPage ∧ wSettingsStore_14.get NVS.BUSY = 0 ∧ (wSettingsStore_14.get NVS.SLOT_ID ≤ 1 ∨ slotLimit (wSettingsStore_14.get NVS.SLOT_ID) = none)) :=
  ⟨(by simp only [regsOk_iff, State.commands, State.governs, State.admits, State.wayClear]; decide +kernel),
   (by simp only [regsOk_iff, State.commands, State.governs, State.admits, State.wayClear]; decide +kernel),
   (by simp only [regsOk_iff, State.commands, State.governs, State.admits, State.wayClear]; decide +kernel),
   (by simp only [regsOk_iff]; decide +kernel),
   (by simp only [regsOk_iff]; decide +kernel),
   (by simp only [regsOk_iff]; decide +kernel),
   (by simp only [regsOk_iff]; decide +kernel),
   (by simp only [regsOk_iff]; decide +kernel),
   (by simp only [regsOk_iff, State.commands, State.governs, State.admits, State.wayClear]; decide +kernel),
   (by simp only [regsOk_iff, State.commands, State.governs, State.admits, State.wayClear]; decide +kernel),
   (by simp only [regsOk_iff, State.commands, State.governs, State.admits, State.wayClear]; decide),
   (by simp only [regsOk_iff, State.commands, State.governs, State.admits, State.wayClear]; decide +kernel),
   (by simp only [regsOk_iff, State.commands, State.governs, State.admits, State.wayClear]; decide +kernel),
   (by simp only [regsOk_iff, State.commands, State.governs, State.admits, State.wayClear]; decide +kernel)⟩

def wMctpAndPldm_19 : State :=
  { State.reset with regs := [(201328668, 4)] }
def wMctpAndPldm_8 : State :=
  { State.reset with regs := [(201328668, 4)] }
def wMctpAndPldm_9 : State :=
  { State.reset with regs := [(201328668, 4)] }
def wMctpAndPldm_10 : State :=
  { State.reset with regs := [(201328668, 4)] }
def wMctpAndPldm_11 : State :=
  { State.reset with regs := [(201328668, 4)] }
def wMctpAndPldm_12 : State :=
  { State.reset with regs := [(201328668, 4)] }
def wMctpAndPldm_13 : State :=
  { State.reset with regs := [(201328668, 4)] }
def wMctpAndPldm_15 : State :=
  { State.reset with regs := [(201328668, 4)] }
def wMctpAndPldm_16 : State :=
  { State.reset with regs := [(201328668, 4)] }
def wMctpAndPldm_18 : State :=
  { State.reset with regs := [(201328668, 4)] }
def wMctpAndPldm_20 : State :=
  { State.reset with regs := [(201328668, 4)] }
theorem test_MctpAndPldm :
    (State.reset.regsOk ∧ State.reset.binds (.pcieVdm : Binding) ∧ State.reset.binds (.i3c : Binding) ∧ (1 : BitVec 8) ≠ 0 ∧ (1 : BitVec 8) ≠ 255) ∧
    (State.reset.binds (.smbus : Binding) ∧ ((0 : BitVec 8) = 0 ∨ (0 : BitVec 8) = 255)) ∧
    (State.reset.binds (.smbus : Binding)) ∧
    (State.reset.binds (.smbus : Binding) ∧ ((0 : BitVec 8).toNat = 0xFF ∨ (0 : BitVec 8).toNat ∈ mctpTypes)) ∧
    (State.reset.binds (.pcieVdm : Binding) ∧ (64 : BitVec 8).toNat ≠ 0xFF ∧ (64 : BitVec 8).toNat ∉ mctpTypes) ∧
    (wMctpAndPldm_19.binds (.pcieVdm : Binding) ∧ wMctpAndPldm_19.svcUp = true) ∧
    (wMctpAndPldm_8.binds (.pcieVdm : Binding) ∧ wMctpAndPldm_8.svcUp = true ∧ (1 : BitVec 8) ≠ 0 ∧ (1 : BitVec 8) ≠ 255) ∧
    (wMctpAndPldm_9.binds (.smbus : Binding) ∧ wMctpAndPldm_9.svcUp = true ∧ ((0 : BitVec 8) = 0 ∨ (0 : BitVec 8) = 255)) ∧
    (wMctpAndPldm_10.binds (.pcieVdm : Binding) ∧ wMctpAndPldm_10.svcUp = true ∧ (0 : BitVec 8).toNat ∈ pldmTypes) ∧
    (wMctpAndPldm_11.binds (.i3c : Binding) ∧ wMctpAndPldm_11.svcUp = true ∧ (1 : BitVec 8).toNat ∉ pldmTypes) ∧
    (wMctpAndPldm_12.binds (.pcieVdm : Binding) ∧ wMctpAndPldm_12.svcUp = true) ∧
    (wMctpAndPldm_13.binds (.smbus : Binding) ∧ wMctpAndPldm_13.svcUp = true) ∧
    (wMctpAndPldm_15.binds (.smbus : Binding) ∧ wMctpAndPldm_15.svcUp = true ∧ wMctpAndPldm_15.pdrs.length ≤ max 1 (851938429 : BitVec 32).toNat - 1) ∧
    (wMctpAndPldm_16.binds (.pcieVdm : Binding) ∧ wMctpAndPldm_16.svcUp = true ∧ (1024 : BitVec 16).toNat ∈ wMctpAndPldm_16.numericSensors ∧ (1024 : BitVec 16).toNat ≠ 0x0310) ∧
    (wMctpAndPldm_19.binds (.pcieVdm : Binding) ∧ wMctpAndPldm_19.svcUp = true) ∧
    (wMctpAndPldm_18.binds (.i3c : Binding) ∧ wMctpAndPldm_18.svcUp = true ∧ (0 : BitVec 16).toNat ∉ wMctpAndPldm_18.numericSensors) ∧
    (wMctpAndPldm_19.binds (.pcieVdm : Binding) ∧ wMctpAndPldm_19.svcUp = true) ∧
    (wMctpAndPldm_20.binds (.i3c : Binding) ∧ wMctpAndPldm_20.svcUp = true ∧ (0 : BitVec 16).toNat ∉ stateSensors) :=
  ⟨(by simp only [regsOk_iff, State.binds]; decide +kernel),
   (by simp only [State.binds]; decide +kernel),
   (by simp only [State.binds]; decide +kernel),
   (by simp only [State.binds]; decide +kernel),
   (by simp only [State.binds]; decide +kernel),
   (by simp only [State.binds]; decide +kernel),
   (by simp only [State.binds]; decide +kernel),
   (by simp only [State.binds]; decide +kernel),
   (by simp only [State.binds]; decide +kernel),
   (by simp only [State.binds]; decide +kernel),
   (by simp only [State.binds]; decide +kernel),
   (by simp only [State.binds]; decide +kernel),
   (by simp only [State.binds]; decide +kernel),
   (by simp only [State.binds]; decide +kernel),
   (by simp only [State.binds]; decide +kernel),
   (by simp only [State.binds]; decide +kernel),
   (by simp only [State.binds]; decide +kernel),
   (by simp only [State.binds]; decide +kernel)⟩

def wFirmwareUpdate_1 : State :=
  { State.reset with regs := [(201328668, 4)] }
def wFirmwareUpdate_2 : State :=
  { State.reset with regs := [(201328668, 4)], mgt.update := (some { zUpdate with pldm := true, typ := 1, size := 7, got := [(0, 4)] }) }
def wFirmwareUpdate_3 : State :=
  { State.reset with regs := [(201328668, 4)] }
def wFirmwareUpdate_4 : State :=
  { State.reset with regs := [(201328668, 4)], mgt.update := (some { zUpdate with pldm := true, got := [(0, 4)] }) }
def wFirmwareUpdate_5 : State :=
  { State.reset with regs := [(201328668, 4)], mgt.update := (some { zUpdate with pldm := true, size := 2, got := [(0, 4)], complete := true }) }
def wFirmwareUpdate_6 : State :=
  { State.reset with regs := [(201328668, 4)], mgt.update := (some { zUpdate with pldm := true, typ := 1, size := 8, got := [(0, 4)] }) }
def wFirmwareUpdate_7 : State :=
  { State.reset with regs := [(201328668, 4)], mgt.update := (some { zUpdate with pldm := true, size := 5, got := [(0, 4)] }) }
def wFirmwareUpdate_8 : State :=
  { State.reset with regs := [(201328668, 4)], nvs.image := { zSettings with marks := [(2, .valid)], active := [(1, 1)] }, mgt.update := (some { zUpdate with pldm := true, typ := 1, size := 2, got := [(0, 4)], complete := true }) }
def wFirmwareUpdate_9 : State :=
  { State.reset with regs := [(201328668, 4)] }
def wFirmwareUpdate_10 : State :=
  { State.reset with regs := [(201328668, 1)] }
def wFirmwareUpdate_11 : State :=
  { State.reset with regs := [(201328668, 1)], mgt.update := (some { zUpdate with pldm := true, typ := 2, size := 4, got := [(0, 4)], complete := true }) }
def wFirmwareUpdate_12 : State :=
  { State.reset with regs := [(201328668, 1)], nvs.image := { zSettings with marks := [(2, .valid)], active := [(1, 1)] } }
def wFirmwareUpdate_13 : State :=
  { State.reset with regs := [(201328668, 1)] }
theorem test_FirmwareUpdate :
    (wFirmwareUpdate_1.binds (.pcieVdm : Binding) ∧ wFirmwareUpdate_1.svcUp = true ∧ wFirmwareUpdate_1.mgt.update = none) ∧
    (wFirmwareUpdate_2.binds (.i3c : Binding) ∧ wFirmwareUpdate_2.svcUp = true ∧ wFirmwareUpdate_2.mgt.update = some ({ zUpdate with pldm := true, typ := 1, size := 7, got := [(0, 4)] } : Update)) ∧
    (wFirmwareUpdate_3.binds (.i3c : Binding) ∧ wFirmwareUpdate_3.svcUp = true ∧ (∀ u, wFirmwareUpdate_3.mgt.update = some u → u.pldm = false)) ∧
    (wFirmwareUpdate_4.binds (.pcieVdm : Binding) ∧ wFirmwareUpdate_4.svcUp = true ∧ wFirmwareUpdate_4.mgt.update = some ({ zUpdate with pldm := true, got := [(0, 4)] } : Update) ∧ ({ zUpdate with pldm := true, got := [(0, 4)] } : Update).pldm = true) ∧
    (wFirmwareUpdate_5.binds (.smbus : Binding) ∧ wFirmwareUpdate_5.svcUp = true ∧ wFirmwareUpdate_5.mgt.update = some ({ zUpdate with pldm := true, size := 2, got := [(0, 4)], complete := true } : Update) ∧ ({ zUpdate with pldm := true, size := 2, got := [(0, 4)], complete := true } : Update).pldm = true ∧ ({ zUpdate with pldm := true, size := 2, got := [(0, 4)], complete := true } : Update).typ = 0 ∧ ((1 : BitVec 16).toNat = 1 ∨ (1 : BitVec 16).toNat = 2) ∧ 0 < (1 : Nat)) ∧
    (wFirmwareUpdate_6.binds (.smbus : Binding) ∧ wFirmwareUpdate_6.svcUp = true ∧ wFirmwareUpdate_6.mgt.update = some ({ zUpdate with pldm := true, typ := 1, size := 8, got := [(0, 4)] } : Update) ∧ ({ zUpdate with pldm := true, typ := 1, size := 8, got := [(0, 4)] } : Update).pldm = true ∧ (({ zUpdate with pldm := true, typ := 1, size := 8, got := [(0, 4)] } : Update).typ ≠ 0 ∨ ((0 : BitVec 16).toNat ≠ 1 ∧ (0 : BitVec 16).toNat ≠ 2) ∨ (0 : Nat) = 0)) ∧
    (wFirmwareUpdate_7.binds (.pcieVdm : Binding) ∧ wFirmwareUpdate_7.svcUp = true ∧ wFirmwareUpdate_7.mgt.update = some ({ zUpdate with pldm := true, size := 5, got := [(0, 4)] } : Update) ∧ ({ zUpdate with pldm := true, size := 5, got := [(0, 4)] } : Update).pldm = true ∧ ({ zUpdate with pldm := true, size := 5, got := [(0, 4)] } : Update).complete = false) ∧
    (wFirmwareUpdate_8.regsOk ∧ wFirmwareUpdate_8.binds (.i3c : Binding) ∧ wFirmwareUpdate_8.svcUp = true ∧ wFirmwareUpdate_8.mgt.update = some ({ zUpdate with pldm := true, typ := 1, size := 2, got := [(0, 4)], complete := true } : Update) ∧ ({ zUpdate with pldm := true, typ := 1, size := 2, got := [(0, 4)], complete := true } : Update).pldm = true ∧ ({ zUpdate with pldm := true, typ := 1, size := 2, got := [(0, 4)], complete := true } : Update).complete = true ∧ ({ zUpdate with pldm := true, typ := 1, size := 2, got := [(0, 4)], complete := true } : Update).typ = imgWarden ∧ wFirmwareUpdate_8.slotMark imgWarden (wFirmwareUpdate_8.standby imgWarden) = .valid) ∧
    (wFirmwareUpdate_9.binds (.pcieVdm : Binding) ∧ wFirmwareUpdate_9.svcUp = true) ∧
    (wFirmwareUpdate_10.regsOk ∧ wFirmwareUpdate_10.accepts ({ zTaraiviHdr with role := 1, tagOk := true } : TaraiviHdr) roleOperator ∧ wFirmwareUpdate_10.mgt.update = none ∧ ((1 : BitVec 8).toNat = 1 ∨ (1 : BitVec 8).toNat = 2)) ∧
    (wFirmwareUpdate_11.regsOk ∧ wFirmwareUpdate_11.accepts ({ zTaraiviHdr with role := 1, tagOk := true } : TaraiviHdr) roleOperator ∧ wFirmwareUpdate_11.mgt.update = some ({ zUpdate with pldm := true, typ := 2, size := 4, got := [(0, 4)], complete := true } : Update) ∧ ({ zUpdate with pldm := true, typ := 2, size := 4, got := [(0, 4)], complete := true } : Update).pldm = true) ∧
    (wFirmwareUpdate_12.regsOk ∧ wFirmwareUpdate_12.accepts ({ zTaraiviHdr with role := 1, tagOk := true } : TaraiviHdr) roleOperator ∧ wFirmwareUpdate_12.slotMark imgWarden (wFirmwareUpdate_12.standby imgWarden) = .valid) ∧
    (wFirmwareUpdate_13.regsOk ∧ wFirmwareUpdate_13.accepts ({ zTaraiviHdr with role := 1, tagOk := true } : TaraiviHdr) roleOperator ∧ wFirmwareUpdate_13.slotMark imgWarden (wFirmwareUpdate_13.standby imgWarden) ≠ .valid) :=
  ⟨(by simp only [State.binds]; decide +kernel),
   (by simp only [State.binds]; decide +kernel),
   (by simp only [State.binds]; decide +kernel),
   (by simp only [State.binds]; decide +kernel),
   (by simp only [State.binds]; decide +kernel),
   (by simp only [State.binds]; decide +kernel),
   (by simp only [State.binds]; decide +kernel),
   (by simp only [regsOk_iff, State.binds]; decide +kernel),
   (by simp only [State.binds]; decide +kernel),
   (by simp only [regsOk_iff, accepts_iff]; decide +kernel),
   (by simp only [regsOk_iff, accepts_iff]; decide +kernel),
   (by simp only [regsOk_iff, accepts_iff]; decide +kernel),
   (by simp only [regsOk_iff, accepts_iff]; decide +kernel)⟩

def wTaraiviRequests_1 : State :=
  { State.reset with regs := [(201328668, 1)] }
def wTaraiviRequests_4 : State :=
  { State.reset with regs := [(201328668, 4)] }
def wTaraiviRequests_5 : State :=
  { State.reset with regs := [(201328668, 4)] }
def wTaraiviRequests_6 : State :=
  { State.reset with regs := [(201328668, 4)] }
def wTaraiviRequests_7 : State :=
  let s := State.reset
  let s : State := { (s.put WDN.STAGE stageRunning) with wdn.svcOff := false }
  let s : State := { (s.put WDN.STAGE stageRunning) with wdn.svcOff := false }
  s
def wTaraiviRequests_9 : State :=
  let s := State.reset
  let s : State := { (s.put WDN.STAGE stageRunning) with wdn.svcOff := false }
  s
def wTaraiviRequests_10 : State :=
  { State.reset with regs := [(201328668, 1)] }
def wTaraiviRequests_11 : State :=
  { State.reset with regs := [(201328668, 1)] }
def wTaraiviRequests_12 : State :=
  { State.reset with regs := [(201328668, 1), (285214781, 4), (293603388, 3)] }
def wTaraiviRequests_13 : State :=
  { State.reset with regs := [(201328668, 1)] }
def wTaraiviRequests_14 : State :=
  { State.reset with regs := [(201328668, 1)] }
def wTaraiviRequests_15 : State :=
  { State.reset with regs := [(201328668, 1)], seq.pwrgood := true }
def wTaraiviRequests_16 : State :=
  { State.reset with regs := [(201328668, 1)], seq.rails := [(0, { zRailRun with phase := .releasing })], seq.pwrgood := true }
def wTaraiviRequests_17 : State :=
  { State.reset with regs := [(201328668, 1)], seq.faultHold := true }
def wTaraiviRequests_18 : State :=
  { State.reset with regs := [(201328668, 1)] }
def wTaraiviRequests_19 : State :=
  { State.reset with regs := [(201328668, 1)] }
def wTaraiviRequests_20 : State :=
  { State.reset with regs := [(201328668, 1)], nvs.bankA := none }
def wTaraiviRequests_21 : State :=
  { State.reset with regs := [(201328668, 1)] }
theorem test_TaraiviRequests :
    (wTaraiviRequests_1.wardenUp = true) ∧
    (wTaraiviRequests_4.accepts ({ zTaraiviHdr with tagOk := true } : TaraiviHdr) roleObserver ∧ wTaraiviRequests_4.svcUp = true) ∧
    (wTaraiviRequests_5.accepts ({ zTaraiviHdr with tagOk := true } : TaraiviHdr) roleObserver ∧ wTaraiviRequests_5.svcUp = true ∧ 0x0310 ∉ ([] : List (BitVec 16))) ∧
    (wTaraiviRequests_6.accepts ({ zTaraiviHdr with tagOk := true } : TaraiviHdr) roleObserver ∧ wTaraiviRequests_6.svcUp = true) ∧
    (wTaraiviRequests_7.accepts (⟨0, true, 0, 1⟩ : TaraiviHdr) roleObserver ∧ wTaraiviRequests_7.svcUp = true ∧ rwpAt (BitVec.ofNat 32 (clkPage.base + 0x108) : BitVec 32).toNat = some ((clkPage : Page), (4 : Nat))) ∧
    (wTaraiviRequests_9.regsOk ∧ wTaraiviRequests_9.accepts (⟨1, true, 0, 1⟩ : TaraiviHdr) roleOperator ∧ rwpAt (BitVec.ofNat 32 (clkPage.base + 0x108) : BitVec 32).toNat = some ((clkPage : Page), (4 : Nat))) ∧
    (wTaraiviRequests_10.accepts ({ zTaraiviHdr with role := 1, tagOk := true } : TaraiviHdr) roleOperator ∧ (∃ w ∈ ([(0, 0)] : List (BitVec 32 × BitVec 64)), rwpAt w.1.toNat = none)) ∧
    (wTaraiviRequests_11.regsOk ∧ wTaraiviRequests_11.accepts ({ zTaraiviHdr with role := 1, tagOk := true } : TaraiviHdr) roleOperator) ∧
    (wTaraiviRequests_12.regsOk ∧ wTaraiviRequests_12.accepts ({ zTaraiviHdr with role := 1, tagOk := true } : TaraiviHdr) roleOperator ∧ wTaraiviRequests_12.solo = true ∧ wTaraiviRequests_12.get HRV.STATE = hrvIncomplete) ∧
    (wTaraiviRequests_13.regsOk ∧ wTaraiviRequests_13.accepts ({ zTaraiviHdr with role := 1, tagOk := true } : TaraiviHdr) roleOperator) ∧
    (wTaraiviRequests_14.regsOk ∧ wTaraiviRequests_14.accepts ({ zTaraiviHdr with role := 1, tagOk := true } : TaraiviHdr) roleOperator ∧ wTaraiviRequests_14.frozen = false) ∧
    (wTaraiviRequests_15.regsOk ∧ wTaraiviRequests_15.accepts ({ zTaraiviHdr with role := 1, tagOk := true } : TaraiviHdr) roleOperator ∧ wTaraiviRequests_15.seq.pwrgood = true ∧ wTaraiviRequests_15.seq.down = false) ∧
    (wTaraiviRequests_16.regsOk ∧ wTaraiviRequests_16.accepts ({ zTaraiviHdr with role := 1, tagOk := true } : TaraiviHdr) roleOperator ∧ wTaraiviRequests_16.seq.pwrgood = true ∧ (∃ n, n < 32 ∧ wTaraiviRequests_16.railPhase n ≠ .off)) ∧
    (wTaraiviRequests_17.regsOk ∧ wTaraiviRequests_17.accepts ({ zTaraiviHdr with role := 1, tagOk := true } : TaraiviHdr) roleOperator ∧ wTaraiviRequests_17.seq.faultHold = true) ∧
    (wTaraiviRequests_18.regsOk ∧ wTaraiviRequests_18.accepts ({ zTaraiviHdr with role := 1, tagOk := true } : TaraiviHdr) roleOperator) ∧
    (wTaraiviRequests_19.regsOk ∧ wTaraiviRequests_19.accepts ({ zTaraiviHdr with role := 1, tagOk := true } : TaraiviHdr) roleOperator ∧ wTaraiviRequests_19.get NVS.BUSY = 0 ∧ wTaraiviRequests_19.get NVS.BANK_OK = 3 ∧ 0 < wTaraiviRequests_19.get NVS.TOKENS) ∧
    (wTaraiviRequests_20.regsOk ∧ wTaraiviRequests_20.accepts ({ zTaraiviHdr with role := 1, tagOk := true } : TaraiviHdr) roleOperator ∧ wTaraiviRequests_20.get NVS.BUSY = 0 ∧ (if wTaraiviRequests_20.get NVS.BANK_IN_USE = 0 then wTaraiviRequests_20.nvs.bankA else wTaraiviRequests_20.nvs.bankB) = none) ∧
    (wTaraiviRequests_21.regsOk ∧ wTaraiviRequests_21.accepts ({ zTaraiviHdr with role := 1, tagOk := true } : TaraiviHdr) roleOperator ∧ wTaraiviRequests_21.get NVS.BUSY = 0 ∧ (if wTaraiviRequests_21.get NVS.BANK_IN_USE = 0 then wTaraiviRequests_21.nvs.bankA else wTaraiviRequests_21.nvs.bankB) = some ({ zBank with image := { zSettings with pci := (26, 2400) } } : Bank)) :=
  ⟨(by decide +kernel),
   (by simp only [accepts_iff]; decide +kernel),
   (by simp only [accepts_iff]; decide +kernel),
   (by simp only [accepts_iff]; decide +kernel),
   (by simp only [accepts_iff]; decide),
   (by simp only [regsOk_iff, accepts_iff]; decide),
   (by simp only [accepts_iff]; decide +kernel),
   (by simp only [regsOk_iff, accepts_iff]; decide +kernel),
   (by simp only [regsOk_iff, accepts_iff]; decide +kernel),
   (by simp only [regsOk_iff, accepts_iff]; decide +kernel),
   (by simp only [regsOk_iff, accepts_iff]; decide +kernel),
   (by simp only [regsOk_iff, accepts_iff]; decide +kernel),
   (by simp only [regsOk_iff, accepts_iff]; decide +kernel),
   (by simp only [regsOk_iff, accepts_iff]; decide +kernel),
   (by simp only [regsOk_iff, accepts_iff]; decide +kernel),
   (by simp only [regsOk_iff, accepts_iff]; decide +kernel),
   (by simp only [regsOk_iff, accepts_iff]; decide +kernel),
   (by simp only [regsOk_iff, accepts_iff]; decide +kernel)⟩

def wPowerOnAndThermal_2 : State :=
  { State.reset with seq.por := true }
def wPowerOnAndThermal_3 : State :=
  { State.reset with seq.por := true }
def wPowerOnAndThermal_5 : State :=
  { State.reset with seq.por := true }
def wPowerOnAndThermal_7 : State :=
  { State.reset with seq.devFails := 1, seq.por := true }
def wPowerOnAndThermal_11 : State :=
  { State.reset with seq.pwrgood := true }
def wPowerOnAndThermal_12 : State :=
  { State.reset with regs := [(285214781, 1)], seq.pwrgood := true }
def wPowerOnAndThermal_14 : State :=
  { State.reset with seq.pwrgood := true }
theorem test_PowerOnAndThermal :
    (State.reset.regsOk ∧ State.reset.seq.por = false) ∧
    (wPowerOnAndThermal_2.seq.por = true) ∧
    (wPowerOnAndThermal_3.regsOk ∧ wPowerOnAndThermal_3.seq.por = true) ∧
    (State.reset.seq.por = false) ∧
    (wPowerOnAndThermal_5.regsOk ∧ wPowerOnAndThermal_5.seq.por = true ∧ wPowerOnAndThermal_5.seq.pwrgood = false ∧ wPowerOnAndThermal_5.seq.devUp = none ∧ wPowerOnAndThermal_5.seq.devDown = none ∧ wPowerOnAndThermal_5.seq.devFails < 2 ∧ wPowerOnAndThermal_5.seq.pfHigh = true) ∧
    ((State.reset.seq.por = false ∨ State.reset.seq.pwrgood = true ∨ 2 ≤ State.reset.seq.devFails ∨ State.reset.seq.pfHigh = false)) ∧
    (wPowerOnAndThermal_7.regsOk ∧ wPowerOnAndThermal_7.seq.por = true ∧ wPowerOnAndThermal_7.seq.pwrgood = false ∧ wPowerOnAndThermal_7.seq.devUp = none ∧ wPowerOnAndThermal_7.seq.devDown = none ∧ wPowerOnAndThermal_7.seq.devFails = 1 ∧ wPowerOnAndThermal_7.seq.pfHigh = true) ∧
    (State.reset.seq.devFails ≠ 1) ∧
    (State.reset.regsOk ∧ 100 ≤ (255 : BitVec 8).toNat) ∧
    ((0 : BitVec 8).toNat < 100) ∧
    (wPowerOnAndThermal_11.regsOk ∧ wPowerOnAndThermal_11.seq.pwrgood = true ∧ wPowerOnAndThermal_11.frozen = false) ∧
    (wPowerOnAndThermal_12.regsOk ∧ wPowerOnAndThermal_12.seq.pwrgood = true ∧ wPowerOnAndThermal_12.frozen = true) ∧
    (State.reset.seq.pwrgood = false) ∧
    (wPowerOnAndThermal_14.regsOk ∧ wPowerOnAndThermal_14.seq.pwrgood = true) ∧
    (State.reset.seq.pwrgood = false) :=
  ⟨(by simp only [regsOk_iff]; decide +kernel),
   (by decide +kernel),
   (by simp only [regsOk_iff]; decide +kernel),
   (by decide +kernel),
   (by simp only [regsOk_iff]; decide +kernel),
   (by decide +kernel),
   (by simp only [regsOk_iff]; decide +kernel),
   (by decide +kernel),
   (by simp only [regsOk_iff]; decide +kernel),
   (by decide +kernel),
   (by simp only [regsOk_iff]; decide +kernel),
   (by simp only [regsOk_iff]; decide +kernel),
   (by decide +kernel),
   (by simp only [regsOk_iff]; decide +kernel),
   (by decide +kernel)⟩

theorem test_AlarmDelivery : State.reset.regsOk :=
  (by simp only [regsOk_iff]; decide +kernel)

end Sys2Proof.Tests
end

section
/-! SUPPORT. A held write that is let in: the settling of the movers after it (R196) also takes the charge of a block that it did not touch. -/
namespace Sys2Proof.Proofs.HeldWriteRelease
open Sys2Proof.Machine

/-- The charge of a T1 block after an outcome: none where the machine does not go on or the block is not in T1. -/
def chargeAfter (o : Res) (p : Nat) : Option (Option Nat) :=
  match o with
  | .next t => (t.block p).map TBlock.charge
  | .fault _ | .refused _ => none

/-- A class V region of claim group 0, so that neither tide mark nor twin link holds its writes. -/
def classV : Region := { noRegion with pclass := 2 }

/-- A block of T1 with frame, all units clean, charged to tenant 0, without a pin. -/
def chargedBlock (frame : Nat) : TBlock :=
  { state := .resident, leaveReq := false, charge := some 0, pins := [], units := [(0, freshUnit)], filling := [], region := 0, used := true, frame := frame }

/-- A host's write of the first sector of region 0, which is block 0. -/
def heldWrite : HeldWrite :=
  { src := .port 0, who := .cxl 0 0 0, why := .handoff, region := 0, desc := classV, whole := false, tenant := 0, off := 0, data := 1, enable := 1, poison := false,
    window := 0, dpa := 0 }

/-- The block map entry of block 0. -/
def entry : Bme := Bme.seal { alloc := true, zero := false, pbn := 0, chk := 0 }

/-- After reset, the write is held, and beside its block 0 stands block 1, charged and idle. -/
def idleBeside : State :=
  { State.reset with
    xlt := { xltInit with bmap := [(bmeKey 0 0, entry)] },
    tier := { tierInit with blocks := [(0, chargedBlock 0), (1, chargedBlock 1)], held := [heldWrite] } }

/-- The twin serves group 0 and slice 0 is ENABLED: the write can go on. -/
def holding : State := (idleBeside.put TWN.SERVE 1).put PAN.STATE panEnabled 0

/-- A pair by its second part. -/
theorem eq_pair {α β : Type} {x : α × β} {b : β} (h : x.2 = b) : x = (x.1, b) := h ▸ rfl

/-- The place that the walk finds for the write. -/
def place : Place64 := { region := 0, desc := classV, blk := 0, bme := entry, sector := 0 }

/-- The state after the walk, and the one after the write's admission. -/
def walked : State := (holding.resolve 0 classV 0).1
def written : State :=
  (walked.tryWrite { tenant := 0, place := place, data := 1, enable := 1, poison := false, alloc := true, whole := false, port := some (0, 0), qos := 0 }).1

theorem holding_regsOk : holding.regsOk :=
  have h : idleBeside.regsOk := trivial
  State.regsOk_put (State.regsOk_put h _ _ _ _) _ _ _ _

theorem holding_resolve : holding.resolve 0 classV 0 = (walked, .ok place) := by
  have h : (match (holding.resolve 0 classV 0).2 with | .ok q => decide (q = place) | .error _ => false) = true := by decide +kernel
  refine eq_pair ?_
  split at h
  · rename_i e
    rw [e, of_decide_eq_true h]
  · cases h

theorem walked_tryWrite :
    walked.tryWrite { tenant := 0, place := place, data := 1, enable := 1, poison := false, alloc := true, whole := false, port := some (0, 0), qos := 0 } =
      (written, .accepted none) :=
  eq_pair (by decide +kernel)

/-- The write itself leaves block 1 its charge. -/
theorem written_charge : (written.block 1).map TBlock.charge = some (some 0) := by decide +kernel

/-- The release takes it: no write waits for block 1 (R196). -/
theorem heldWriteRelease_charge : chargeAfter (exec (.heldWriteRelease (.port 0)) holding) 1 = some none := by decide +kernel

/-- Refutes O1: the clause of the held write says that T1's blocks are those that the write's admission leaves, but the release then settles every block,
and one that is charged, without a pin, a DIRTY unit or a waiting write, loses its charge (R196). -/
theorem not_persistenceCommands : ¬ Obligations.PersistenceCommands := by
  unfold Obligations.PersistenceCommands
  rintro ⟨-, -, -, -, -, -, -, -, release, -⟩
  obtain ⟨t, released, -, blocks, -⟩ := release holding (.port 0) heldWrite [] place walked written none holding_regsOk (by decide) rfl
    (fun _ _ _ => RdBy.noConfusion) rfl (by decide +kernel) holding_resolve (fun _ hy => absurd hy List.not_mem_nil) walked_tryWrite
  have settled := heldWriteRelease_charge
  rw [released] at settled
  have kept : (t.block 1).map TBlock.charge = some (some 0) := by
    unfold State.block
    rw [blocks]
    exact written_charge
  exact absurd (kept.symm.trans settled) (by decide)

end Sys2Proof.Proofs.HeldWriteRelease
end

section
/-! SUPPORT. The end of a rehearsal whose block has one erase left: wear at PE_LIMIT retires it (R333). -/
namespace Sys2Proof.Proofs.RehearsalEnd
open Sys2Proof.Machine

/-- The state of a flash block after an outcome. -/
def blkStateAfter (o : Res) (k : Nat) : Option BlkState :=
  match o with
  | .next t => some (t.blk k).state
  | .fault _ | .refused _ => none

/-- A rehearsal has written block 0, which is one erase short of PE_LIMIT: its 3,000 cycles are 12,000 in SLC mode, which counts a quarter each (R332). -/
def written : State :=
  { State.reset with
    hrv := { hrvInit with rehBlks := [0] },
    flm := { flmInit' with blks := [(0, { freshBlk with state := .reserveUsed, wear := 11999 })] } }

/-- The rehearsal runs. -/
def rehearsing : State := written.put HRV.STATE hrvRehearsing

theorem rehearsing_regsOk : rehearsing.regsOk :=
  have h : written.regsOk := trivial
  State.regsOk_put h _ _ _ _

/-- The erase at the rehearsal's end retires the block (R333). -/
theorem rehearsalDone_retires : blkStateAfter (exec (.rehearsalDone 0 96000) rehearsing) 0 = some .retired := by decide +kernel

/-- Refutes O23: the clause of the first result says that every block the rehearsal wrote is a reserve block again, but the erase that brings a block's wear
to PE_LIMIT retires it (R333). -/
theorem not_rehearsalsAndRestore : ¬ Obligations.RehearsalsAndRestore := by
  unfold Obligations.RehearsalsAndRestore
  rintro ⟨-, -, -, -, -, -, firstResult, -⟩
  obtain ⟨t, ended, -, -, -, -, -, erased, -⟩ := firstResult rehearsing 0 96000 rehearsing_regsOk (by decide +kernel) (by decide) rfl (by decide)
    (by decide +kernel)
  have retired := rehearsalDone_retires
  rw [ended] at retired
  have reserve : (t.blk 0).state = .reserve := erased 0 (List.mem_singleton.mpr rfl) rfl
  exact absurd (reserve.symm.trans (Option.some.inj retired)) (by decide)

end Sys2Proof.Proofs.RehearsalEnd
end

section
/-! SUPPORT. What every command keeps, and an idle tick: it goes on, with the queue as it was, the stores in canonical form and the unit number 0 or 1. -/
namespace Sys2Proof.Machine

/-- What a command, or an idle tick, leaves of a state: its queue, the canonical forms, the range of the unit number. -/
structure State.GoesOn (s t : State) : Prop where
  queue : t.pending = s.pending
  regs : s.regsOk → t.regsOk
  mem : Memory.wf s.mem = true → Memory.wf t.mem = true
  unit : s.unit < 2 → t.unit < 2

/-- A meaning ends in no fault and no refusal, and leaves what `GoesOn` says. -/
def State.GoesOnR (s : State) (r : Res) : Prop := ∃ t, r = .next t ∧ s.GoesOn t

/-- Every part of State but the queue and the unit number. -/
def runningScope : Scope :=
  ⟨[.regs, .ctl, .evf, .recd, .xlt, .hp, .qe, .mov, .tier, .pan, .twn, .cmn, .pwr, .dmc, .flm, .seq, .hrv, .clk, .cip, .nvs, .wdn, .mgt, .mem, .timeNs, .slew,
    .out, .free], none⟩

theorem State.Keeps.goesOn {l : Scope} {s t : State} (k : State.Keeps l s t) (h : Scope.within l runningScope = true) : s.GoesOn t where
  queue := k.kept .pending (Scope.within_mem h (by decide))
  regs := k.ok
  mem := k.wf
  unit hu := (k.kept .unit (Scope.within_mem h (by decide)) : t.unit = s.unit) ▸ hu

theorem State.KeepsR.goesOn {l : Scope} {s : State} {r : Res} (k : State.KeepsR l s r) (h : Scope.within l runningScope = true) : s.GoesOnR r := by
  obtain ⟨t, e, k⟩ := k
  exact ⟨t, e, k.goesOn h⟩

/-- The rise of POR_N is the one command that sets the unit number, from the strap of one bit (R596). -/
theorem execPorNRise_unit {straps : Straps} {s t : State} (h : execPorNRise straps s = .next t) (hu : s.unit < 2) : t.unit < 2 := by
  unfold execPorNRise at h
  split at h
  · injection h with h
    exact h ▸ hu
  · injection h with h
    have strapped : t.unit = straps.unit.val := by
      rw [← h]
      refine (foldl_same State.unit _ (fun _ _ => ?_) _ _).trans ?_
      · rfl
      · rw [State.put_unit, State.put_unit]
        exact foldl_same State.unit _ (by intros; rfl) _ _
    exact strapped ▸ straps.unit.isLt

theorem execPorNRise_goesOn (straps : Straps) (s : State) : s.GoesOnR (execPorNRise straps s) := by
  obtain ⟨t, e, k⟩ := execPorNRise_keeps straps s
  exact ⟨t, e, k.kept .pending (by decide), k.ok, k.wf, execPorNRise_unit e⟩

theorem State.tick_goesOn (s : State) : s.GoesOn s.tick := (State.tick_keeps s).goesOn (by decide)

/-- No command stops, and each keeps the invariant: command by command, from what its meaning keeps. -/
theorem exec_goesOn (c : Instr) (s : State) : s.GoesOnR (exec c s) := by
  cases c with
  | controlWrite => exact (execControlWrite_keeps ..).goesOn (by decide)
  | unmappedAccess req off write data => exact (execUnmappedAccess_keeps req off write data s).goesOn (by decide)
  | sizeViolAccess => exact (execSizeViolAccess_keeps ..).goesOn (by decide)
  | evtStatClear => exact (execEvtStatClear_keeps ..).goesOn (by decide)
  | evtMaskWrite => exact (execEvtMaskWrite_keeps ..).goesOn (by decide)
  | evtForce => exact (execEvtForce_keeps ..).goesOn (by decide)
  | errStatClear => exact (execErrStatClear_keeps ..).goesOn (by decide)
  | stageArm => exact (execStageArm_keeps ..).goesOn (by decide)
  | stageDisarm => exact (execStageDisarm_keeps ..).goesOn (by decide)
  | lock => exact (execLock_keeps ..).goesOn (by decide)
  | quiesce => exact (execQuiesce_keeps ..).goesOn (by decide)
  | quiesceRelease => exact (execQuiesceRelease_keeps ..).goesOn (by decide)
  | stageSingleChange => exact (execStageSingleChange_keeps ..).goesOn (by decide)
  | stageCommit => exact (execStageCommit_keeps ..).goesOn (by decide)
  | stageApply => exact (execStageApply_keeps ..).goesOn (by decide)
  | stageTimeoutExpiry => exact (execStageTimeoutExpiry_keeps ..).goesOn (by decide)
  | stageRestore => exact (execStageRestore_keeps ..).goesOn (by decide)
  | stageStuck => exact (execStageStuck_keeps ..).goesOn (by decide)
  | coldResetRequest => exact (execColdResetRequest_keeps ..).goesOn (by decide)
  | warmReset => exact (execWarmReset_keeps ..).goesOn (by decide)
  | descriptorRefetch => exact (execDescriptorRefetch_keeps ..).goesOn (by decide)
  | xltMissFill => exact (execXltMissFill_keeps ..).goesOn (by decide)
  | xltInval => exact (execXltInval_keeps ..).goesOn (by decide)
  | xltInvalComplete => exact (execXltInvalComplete_keeps ..).goesOn (by decide)
  | xltRevoke => exact (execXltRevoke_keeps ..).goesOn (by decide)
  | registrationSweep => exact (execRegistrationSweep_keeps ..).goesOn (by decide)
  | windowBind => exact (execWindowBind_keeps ..).goesOn (by decide)
  | hdmDecoderCommit => exact (execHdmDecoderCommit_keeps ..).goesOn (by decide)
  | hdmDecoderUncommit => exact (execHdmDecoderUncommit_keeps ..).goesOn (by decide)
  | linkTrainingDone => exact (execLinkTrainingDone_keeps ..).goesOn (by decide)
  | linkDown => exact (execLinkDown_keeps ..).goesOn (by decide)
  | hotReset => exact (execHotReset_keeps ..).goesOn (by decide)
  | perstAssert => exact (execPerstAssert_keeps ..).goesOn (by decide)
  | flr => exact (execFlr_keeps ..).goesOn (by decide)
  | configRequest => exact (execConfigRequest_keeps ..).goesOn (by decide)
  | memEnable => exact (execMemEnable_keeps ..).goesOn (by decide)
  | memrd => exact (execMemrd_keeps ..).goesOn (by decide)
  | memrddata => exact (execMemrddata_keeps ..).goesOn (by decide)
  | memspecrd => exact (execMemspecrd_keeps ..).goesOn (by decide)
  | meminv port ld dpa tag => exact (execMeminv_keeps port ld dpa tag s).goesOn (by decide)
  | meminvnt port ld dpa tag => exact (execMeminvnt_keeps port ld dpa tag s).goesOn (by decide)
  | memwr => exact (execMemwr_keeps ..).goesOn (by decide)
  | memwrptl => exact (execMemwrptl_keeps ..).goesOn (by decide)
  | memwrCmp => exact (execMemwrCmp_keeps ..).goesOn (by decide)
  | hpFwdTimeout => exact (execHpFwdTimeout_keeps ..).goesOn (by decide)
  | viralReceived => exact (execViralReceived_keeps ..).goesOn (by decide)
  | gpfPhase1 => exact (execGpfPhase1_keeps ..).goesOn (by decide)
  | gpfPhase2 => exact (execGpfPhase2_keeps ..).goesOn (by decide)
  | gpfPhase2Complete => exact (execGpfPhase2Complete_keeps ..).goesOn (by decide)
  | getEventRecords => exact (execGetEventRecords_keeps ..).goesOn (by decide)
  | clearEventRecords => exact (execClearEventRecords_keeps ..).goesOn (by decide)
  | getEventInterruptPolicy => exact (execGetEventInterruptPolicy_keeps ..).goesOn (by decide)
  | setEventInterruptPolicy => exact (execSetEventInterruptPolicy_keeps ..).goesOn (by decide)
  | getFwInfo => exact (execGetFwInfo_keeps ..).goesOn (by decide)
  | transferFw => exact (execTransferFw_keeps ..).goesOn (by decide)
  | activateFw => exact (execActivateFw_keeps ..).goesOn (by decide)
  | getTimestamp => exact (execGetTimestamp_keeps ..).goesOn (by decide)
  | setTimestamp => exact (execSetTimestamp_keeps ..).goesOn (by decide)
  | getSupportedLogs => exact (execGetSupportedLogs_keeps ..).goesOn (by decide)
  | getLog => exact (execGetLog_keeps ..).goesOn (by decide)
  | identifyMemoryDevice => exact (execIdentifyMemoryDevice_keeps ..).goesOn (by decide)
  | getPartitionInfo => exact (execGetPartitionInfo_keeps ..).goesOn (by decide)
  | getHealthInfo => exact (execGetHealthInfo_keeps ..).goesOn (by decide)
  | getAlertConfig => exact (execGetAlertConfig_keeps ..).goesOn (by decide)
  | setAlertConfig => exact (execSetAlertConfig_keeps ..).goesOn (by decide)
  | getPoisonList => exact (execGetPoisonList_keeps ..).goesOn (by decide)
  | injectPoison => exact (execInjectPoison_keeps ..).goesOn (by decide)
  | clearPoison => exact (execClearPoison_keeps ..).goesOn (by decide)
  | getDcConfig => exact (execGetDcConfig_keeps ..).goesOn (by decide)
  | getDcExtentList => exact (execGetDcExtentList_keeps ..).goesOn (by decide)
  | addDcResponse => exact (execAddDcResponse_keeps ..).goesOn (by decide)
  | releaseDc => exact (execReleaseDc_keeps ..).goesOn (by decide)
  | mailboxUnsupported => exact (execMailboxUnsupported_keeps ..).goesOn (by decide)
  | fmIdentify => exact (execFmIdentify_keeps ..).goesOn (by decide)
  | backgroundOperationStatus => exact (execBackgroundOperationStatus_keeps ..).goesOn (by decide)
  | getResponseMessageLimit => exact (execGetResponseMessageLimit_keeps ..).goesOn (by decide)
  | getLdInfo => exact (execGetLdInfo_keeps ..).goesOn (by decide)
  | getLdAllocations => exact (execGetLdAllocations_keeps ..).goesOn (by decide)
  | setLdAllocations => exact (execSetLdAllocations_keeps ..).goesOn (by decide)
  | getQosControl => exact (execGetQosControl_keeps ..).goesOn (by decide)
  | setQosControl => exact (execSetQosControl_keeps ..).goesOn (by decide)
  | getQosStatus => exact (execGetQosStatus_keeps ..).goesOn (by decide)
  | getQosAllocatedBw => exact (execGetQosAllocatedBw_keeps ..).goesOn (by decide)
  | setQosAllocatedBw => exact (execSetQosAllocatedBw_keeps ..).goesOn (by decide)
  | getQosBwLimit => exact (execGetQosBwLimit_keeps ..).goesOn (by decide)
  | setQosBwLimit => exact (execSetQosBwLimit_keeps ..).goesOn (by decide)
  | getDcdInfo => exact (execGetDcdInfo_keeps ..).goesOn (by decide)
  | getHostDcRegionConfig => exact (execGetHostDcRegionConfig_keeps ..).goesOn (by decide)
  | setDcRegionConfig => exact (execSetDcRegionConfig_keeps ..).goesOn (by decide)
  | getDcRegionExtentLists => exact (execGetDcRegionExtentLists_keeps ..).goesOn (by decide)
  | initiateDynamicCapacityAdd => exact (execInitiateDynamicCapacityAdd_keeps ..).goesOn (by decide)
  | initiateDynamicCapacityRelease => exact (execInitiateDynamicCapacityRelease_keeps ..).goesOn (by decide)
  | sqDoorbell => exact (execSqDoorbell_keeps ..).goesOn (by decide)
  | cqDoorbell => exact (execCqDoorbell_keeps ..).goesOn (by decide)
  | doorbellDrop => exact (execDoorbellDrop_keeps ..).goesOn (by decide)
  | flushDoorbell => exact (execFlushDoorbell_keeps ..).goesOn (by decide)
  | copy => exact (execCopy_keeps ..).goesOn (by decide)
  | zero => exact (execZero_keeps ..).goesOn (by decide)
  | persist => exact (execPersist_keeps ..).goesOn (by decide)
  | raise => exact (execRaise_keeps ..).goesOn (by decide)
  | evict => exact (execEvict_keeps ..).goesOn (by decide)
  | sluice => exact (execSluice_keeps ..).goesOn (by decide)
  | sluiceCancel => exact (execSluiceCancel_keeps ..).goesOn (by decide)
  | regionCreate => exact (execRegionCreate_keeps ..).goesOn (by decide)
  | regionGrow => exact (execRegionGrow_keeps ..).goesOn (by decide)
  | regionDelete => exact (execRegionDelete_keeps ..).goesOn (by decide)
  | regionSet => exact (execRegionSet_keeps ..).goesOn (by decide)
  | regOpen => exact (execRegOpen_keeps ..).goesOn (by decide)
  | revoke => exact (execRevoke_keeps ..).goesOn (by decide)
  | rwrite => exact (execRwrite_keeps ..).goesOn (by decide)
  | rread => exact (execRread_keeps ..).goesOn (by decide)
  | abort => exact (execAbort_keeps ..).goesOn (by decide)
  | nop => exact (execNop_keeps ..).goesOn (by decide)
  | unknownOpcode => exact (execUnknownOpcode_keeps ..).goesOn (by decide)
  | commandCompletion => exact (execCommandCompletion_keeps ..).goesOn (by decide)
  | cmdTimeout => exact (execCmdTimeout_keeps ..).goesOn (by decide)
  | coalTimeExpiry => exact (execCoalTimeExpiry_keeps ..).goesOn (by decide)
  | persistBarrierComplete => exact (execPersistBarrierComplete_keeps ..).goesOn (by decide)
  | queueEnable => exact (execQueueEnable_keeps ..).goesOn (by decide)
  | queuePause => exact (execQueuePause_keeps ..).goesOn (by decide)
  | queueReset => exact (execQueueReset_keeps ..).goesOn (by decide)
  | queueResetDone => exact (execQueueResetDone_keeps ..).goesOn (by decide)
  | queueDisable => exact (execQueueDisable_keeps ..).goesOn (by decide)
  | queueDisableDone => exact (execQueueDisableDone_keeps ..).goesOn (by decide)
  | moverStepClaim => exact (execMoverStepClaim_keeps ..).goesOn (by decide)
  | moverMoveDone => exact (execMoverMoveDone_keeps ..).goesOn (by decide)
  | parkedStepResume => exact (execParkedStepResume_keeps ..).goesOn (by decide)
  | moverOffline => exact (execMoverOffline_keeps ..).goesOn (by decide)
  | fillUnitDone => exact (execFillUnitDone_keeps ..).goesOn (by decide)
  | fillUnitFail => exact (execFillUnitFail_keeps ..).goesOn (by decide)
  | tierReplacement => exact (execTierReplacement_keeps ..).goesOn (by decide)
  | tierReleaseDone => exact (execTierReleaseDone_keeps ..).goesOn (by decide)
  | writeBackStart => exact (execWriteBackStart_keeps ..).goesOn (by decide)
  | writeBackDone => exact (execWriteBackDone_keeps ..).goesOn (by decide)
  | heldWriteRelease => exact (execHeldWriteRelease_keeps ..).goesOn (by decide)
  | readPathPoint => exact (execReadPathPoint_keeps ..).goesOn (by decide)
  | twinPathTimeout => exact (execTwinPathTimeout_keeps ..).goesOn (by decide)
  | readDeadline => exact (execReadDeadline_keeps ..).goesOn (by decide)
  | sluiceEligible => exact (execSluiceEligible_keeps ..).goesOn (by decide)
  | sluiceDue => exact (execSluiceDue_keeps ..).goesOn (by decide)
  | sluiceLifeExpiry => exact (execSluiceLifeExpiry_keeps ..).goesOn (by decide)
  | sluiceHoldExpiry => exact (execSluiceHoldExpiry_keeps ..).goesOn (by decide)
  | clean => exact (execClean_keeps ..).goesOn (by decide)
  | cleanInv => exact (execCleanInv_keeps ..).goesOn (by decide)
  | inv => exact (execInv_keeps ..).goesOn (by decide)
  | panLock => exact (execPanLock_keeps ..).goesOn (by decide)
  | unlock => exact (execUnlock_keeps ..).goesOn (by decide)
  | panMaintDone => exact (execPanMaintDone_keeps ..).goesOn (by decide)
  | panDisable => exact (execPanDisable_keeps ..).goesOn (by decide)
  | panEnable => exact (execPanEnable_keeps ..).goesOn (by decide)
  | panDrainDone => exact (execPanDrainDone_keeps ..).goesOn (by decide)
  | panClearingDone => exact (execPanClearingDone_keeps ..).goesOn (by decide)
  | panInvalidateDone => exact (execPanInvalidateDone_keeps ..).goesOn (by decide)
  | discard => exact (execDiscard_keeps ..).goesOn (by decide)
  | panScrub => exact (execPanScrub_keeps ..).goesOn (by decide)
  | trackerExpiry => exact (execTrackerExpiry_keeps ..).goesOn (by decide)
  | dmcTrainingDone => exact (execDmcTrainingDone_keeps ..).goesOn (by decide)
  | oscillatorCheck => exact (execOscillatorCheck_keeps ..).goesOn (by decide)
  | retrainStep => exact (execRetrainStep_keeps ..).goesOn (by decide)
  | zqCalibration ch rank => exact (execZqCalibration_keeps ch rank s).goesOn (by decide)
  | wcrcAlert => exact (execWcrcAlert_keeps ..).goesOn (by decide)
  | dramReadDone => exact (execDramReadDone_keeps ..).goesOn (by decide)
  | ecsPass ch rank sub dev count => exact (execEcsPass_keeps ch rank sub dev count s).goesOn (by decide)
  | trefi2Tick => exact (execTrefi2Tick_keeps ..).goesOn (by decide)
  | refreshRatePoll => exact (execRefreshRatePoll_keeps ..).goesOn (by decide)
  | rankPowerDown => exact (execRankPowerDown_keeps ..).goesOn (by decide)
  | srIdleEntry => exact (execSrIdleEntry_keeps ..).goesOn (by decide)
  | selfRefreshExitDone => exact (execSelfRefreshExitDone_keeps ..).goesOn (by decide)
  | patrolScrubRead => exact (execPatrolScrubRead_keeps ..).goesOn (by decide)
  | flmBringupDone => exact (execFlmBringupDone_keeps ..).goesOn (by decide)
  | mapPageReadDone => exact (execMapPageReadDone_keeps ..).goesOn (by decide)
  | journalPageTimer => exact (execJournalPageTimer_keeps ..).goesOn (by decide)
  | journalPageDurable => exact (execJournalPageDurable_keeps ..).goesOn (by decide)
  | checkpointStart => exact (execCheckpointStart_keeps ..).goesOn (by decide)
  | checkpointValid => exact (execCheckpointValid_keeps ..).goesOn (by decide)
  | flashProgramDone => exact (execFlashProgramDone_keeps ..).goesOn (by decide)
  | stripeRowTimeout => exact (execStripeRowTimeout_keeps ..).goesOn (by decide)
  | rakeStart => exact (execRakeStart_keeps ..).goesOn (by decide)
  | rakeStep => exact (execRakeStep_keeps ..).goesOn (by decide)
  | sourceErase => exact (execSourceErase_keeps ..).goesOn (by decide)
  | flashEraseDone => exact (execFlashEraseDone_keeps ..).goesOn (by decide)
  | victim => exact (execVictim_keeps ..).goesOn (by decide)
  | verifyPage => exact (execVerifyPage_keeps ..).goesOn (by decide)
  | flashReadDone => exact (execFlashReadDone_keeps ..).goesOn (by decide)
  | suspendTimeout => exact (execSuspendTimeout_keeps ..).goesOn (by decide)
  | flashScrub => exact (execFlashScrub_keeps ..).goesOn (by decide)
  | staticWearLevel => exact (execStaticWearLevel_keeps ..).goesOn (by decide)
  | lunLost => exact (execLunLost_keeps ..).goesOn (by decide)
  | reserveBlockReplace => exact (execReserveBlockReplace_keeps ..).goesOn (by decide)
  | flmReadOnly => exact (execFlmReadOnly_keeps ..).goesOn (by decide)
  | roClear => exact (execRoClear_keeps ..).goesOn (by decide)
  | replayDone => exact (execReplayDone_keeps ..).goesOn (by decide)
  | healthUpdate => exact (execHealthUpdate_keeps ..).goesOn (by decide)
  | pwrfailNFall => exact (execPwrfailNFall_keeps ..).goesOn (by decide)
  | pwrfail => exact (execPwrfail_keeps ..).goesOn (by decide)
  | shutdown => exact (execShutdown_keeps ..).goesOn (by decide)
  | harvestWriteoutDone => exact (execHarvestWriteoutDone_keeps ..).goesOn (by decide)
  | bankExhausted => exact (execBankExhausted_keeps ..).goesOn (by decide)
  | harvestEnd => exact (execHarvestEnd_keeps ..).goesOn (by decide)
  | steptest => exact (execSteptest_keeps ..).goesOn (by decide)
  | steptestPeriod => exact (execSteptestPeriod_keeps ..).goesOn (by decide)
  | steptestDone => exact (execSteptestDone_keeps ..).goesOn (by decide)
  | rehearse => exact (execRehearse_keeps ..).goesOn (by decide)
  | rehearsePeriod => exact (execRehearsePeriod_keeps ..).goesOn (by decide)
  | rehearsalDone => exact (execRehearsalDone_keeps ..).goesOn (by decide)
  | restoreDone => exact (execRestoreDone_keeps ..).goesOn (by decide)
  | reserveBlockRelease => exact (execReserveBlockRelease_keeps ..).goesOn (by decide)
  | acceptLoss => exact (execAcceptLoss_keeps ..).goesOn (by decide)
  | aliveLoss => exact (execAliveLoss_keeps ..).goesOn (by decide)
  | aliveRestore => exact (execAliveRestore_keeps ..).goesOn (by decide)
  | hello => exact (execHello_keeps ..).goesOn (by decide)
  | twinIdle => exact (execTwinIdle_keeps ..).goesOn (by decide)
  | mirror => exact (execMirror_keeps ..).goesOn (by decide)
  | twinAck => exact (execTwinAck_keeps ..).goesOn (by decide)
  | twinNack => exact (execTwinNack_keeps ..).goesOn (by decide)
  | digest => exact (execDigest_keeps ..).goesOn (by decide)
  | tide => exact (execTide_keeps ..).goesOn (by decide)
  | twinState => exact (execTwinState_keeps ..).goesOn (by decide)
  | claim => exact (execClaim_keeps ..).goesOn (by decide)
  | release => exact (execRelease_keeps ..).goesOn (by decide)
  | handoff => exact (execHandoff_keeps ..).goesOn (by decide)
  | readReq => exact (execReadReq_keeps ..).goesOn (by decide)
  | twinReadResp => exact (execTwinReadResp_keeps ..).goesOn (by decide)
  | fetch => exact (execFetch_keeps ..).goesOn (by decide)
  | fetchResp => exact (execFetchResp_keeps ..).goesOn (by decide)
  | harvestBegin => exact (execHarvestBegin_keeps ..).goesOn (by decide)
  | twinTime => exact (execTwinTime_keeps ..).goesOn (by decide)
  | brineList => exact (execBrineList_keeps ..).goesOn (by decide)
  | resyncData => exact (execResyncData_keeps ..).goesOn (by decide)
  | resyncAck => exact (execResyncAck_keeps ..).goesOn (by decide)
  | recordGapTimeout => exact (execRecordGapTimeout_keeps ..).goesOn (by decide)
  | bundleDown => exact (execBundleDown_keeps ..).goesOn (by decide)
  | linkLost => exact (execLinkLost_keeps ..).goesOn (by decide)
  | digestInterval => exact (execDigestInterval_keeps ..).goesOn (by decide)
  | takeoverClaimSample => exact (execTakeoverClaimSample_keeps ..).goesOn (by decide)
  | epochStoreDone => exact (execEpochStoreDone_keeps ..).goesOn (by decide)
  | claimStuck => exact (execClaimStuck_keeps ..).goesOn (by decide)
  | arbitrationSample => exact (execArbitrationSample_keeps ..).goesOn (by decide)
  | loserGroupTake => exact (execLoserGroupTake_keeps ..).goesOn (by decide)
  | pairFormationStart => exact (execPairFormationStart_keeps ..).goesOn (by decide)
  | formationTimeout => exact (execFormationTimeout_keeps ..).goesOn (by decide)
  | formWaitExpiry => exact (execFormWaitExpiry_keeps ..).goesOn (by decide)
  | rsmScanDone => exact (execRsmScanDone_keeps ..).goesOn (by decide)
  | handoffGive => exact (execHandoffGive_keeps ..).goesOn (by decide)
  | handoffRequest => exact (execHandoffRequest_keeps ..).goesOn (by decide)
  | handoffDrained => exact (execHandoffDrained_keeps ..).goesOn (by decide)
  | handoffTimeout => exact (execHandoffTimeout_keeps ..).goesOn (by decide)
  | reclaimHoldExpiry => exact (execReclaimHoldExpiry_keeps ..).goesOn (by decide)
  | aloneOk => exact (execAloneOk_keeps ..).goesOn (by decide)
  | pairAccept => exact (execPairAccept_keeps ..).goesOn (by decide)
  | cmnWrite => exact (execCmnWrite_keeps ..).goesOn (by decide)
  | cmnWriteMasked => exact (execCmnWriteMasked_keeps ..).goesOn (by decide)
  | cmnRead => exact (execCmnRead_keeps ..).goesOn (by decide)
  | cmnWriteCmp => exact (execCmnWriteCmp_keeps ..).goesOn (by decide)
  | cmnReadResp => exact (execCmnReadResp_keeps ..).goesOn (by decide)
  | cmnAck => exact (execCmnAck_keeps ..).goesOn (by decide)
  | cmnNack => exact (execCmnNack_keeps ..).goesOn (by decide)
  | cmnNotice => exact (execCmnNotice_keeps ..).goesOn (by decide)
  | cmnProbe => exact (execCmnProbe_keeps ..).goesOn (by decide)
  | cmnRekeyReady => exact (execCmnRekeyReady_keeps ..).goesOn (by decide)
  | cmnClose => exact (execCmnClose_keeps ..).goesOn (by decide)
  | nonCemanorFrame => exact (execNonCemanorFrame_keeps ..).goesOn (by decide)
  | pfcPauseReceived => exact (execPfcPauseReceived_keeps ..).goesOn (by decide)
  | ackTimer => exact (execAckTimer_keeps ..).goesOn (by decide)
  | nackDelayExpiry => exact (execNackDelayExpiry_keeps ..).goesOn (by decide)
  | msgTimeout => exact (execMsgTimeout_keeps ..).goesOn (by decide)
  | initTimeout => exact (execInitTimeout_keeps ..).goesOn (by decide)
  | rtoExpiry => exact (execRtoExpiry_keeps ..).goesOn (by decide)
  | probeTimer => exact (execProbeTimer_keeps ..).goesOn (by decide)
  | connCloseTimeout => exact (execConnCloseTimeout_keeps ..).goesOn (by decide)
  | connOpen => exact (execConnOpen_keeps ..).goesOn (by decide)
  | connClose => exact (execConnClose_keeps ..).goesOn (by decide)
  | rekeyInstall => exact (execRekeyInstall_keeps ..).goesOn (by decide)
  | cipherLaneFail => exact (execCipherLaneFail_keeps ..).goesOn (by decide)
  | gcmEncrypt => exact (execGcmEncrypt_keeps ..).goesOn (by decide)
  | gcmDecrypt => exact (execGcmDecrypt_keeps ..).goesOn (by decide)
  | xtsEncrypt => exact (execXtsEncrypt_keeps ..).goesOn (by decide)
  | xtsDecrypt => exact (execXtsDecrypt_keeps ..).goesOn (by decide)
  | cipJobDone => exact (execCipJobDone_keeps ..).goesOn (by decide)
  | keyLoad => exact (execKeyLoad_keeps ..).goesOn (by decide)
  | sha3256 => exact (execSha3256_keeps ..).goesOn (by decide)
  | sha3384 => exact (execSha3384_keeps ..).goesOn (by decide)
  | sha3512 => exact (execSha3512_keeps ..).goesOn (by decide)
  | shake256 => exact (execShake256_keeps ..).goesOn (by decide)
  | mlDsa87Verify => exact (execMlDsa87Verify_keeps ..).goesOn (by decide)
  | mlDsa87Sign => exact (execMlDsa87Sign_keeps ..).goesOn (by decide)
  | identityPublicKeyExport => exact (execIdentityPublicKeyExport_keeps ..).goesOn (by decide)
  | hshJobDone => exact (execHshJobDone_keeps ..).goesOn (by decide)
  | mailboxRequest => exact (execMailboxRequest_keeps ..).goesOn (by decide)
  | mailboxAnswer => exact (execMailboxAnswer_keeps ..).goesOn (by decide)
  | wdtFeed => exact (execWdtFeed_keeps ..).goesOn (by decide)
  | wardenWatchdogExpiry => exact (execWardenWatchdogExpiry_keeps ..).goesOn (by decide)
  | lockstepMismatch => exact (execLockstepMismatch_keeps ..).goesOn (by decide)
  | svcWatchdogExpiry cluster => exact (execSvcWatchdogExpiry_keeps cluster s).goesOn (by decide)
  | coldBoot => exact (execColdBoot_keeps ..).goesOn (by decide)
  | trialTimeout => exact (execTrialTimeout_keeps ..).goesOn (by decide)
  | uartImage => exact (execUartImage_keeps ..).goesOn (by decide)
  | commissioningKey => exact (execCommissioningKey_keeps ..).goesOn (by decide)
  | fuseProgram => exact (execFuseProgram_keeps ..).goesOn (by decide)
  | commitSvn => exact (execCommitSvn_keeps ..).goesOn (by decide)
  | actReady => exact (execActReady_keeps ..).goesOn (by decide)
  | actRunning => exact (execActRunning_keeps ..).goesOn (by decide)
  | actTimeout => exact (execActTimeout_keeps ..).goesOn (by decide)
  | debugChallenge => exact (execDebugChallenge_keeps ..).goesOn (by decide)
  | debugResponse => exact (execDebugResponse_keeps ..).goesOn (by decide)
  | creditReturn => exact (execCreditReturn_keeps ..).goesOn (by decide)
  | spill => exact (execSpill_keeps ..).goesOn (by decide)
  | rateWindowEnd => exact (execRateWindowEnd_keeps ..).goesOn (by decide)
  | alarmWindowEnd => exact (execAlarmWindowEnd_keeps ..).goesOn (by decide)
  | alarmRetry => exact (execAlarmRetry_keeps ..).goesOn (by decide)
  | chanDataWrite => exact (execChanDataWrite_keeps ..).goesOn (by decide)
  | chanAck => exact (execChanAck_keeps ..).goesOn (by decide)
  | alertReadbackFault => exact (execAlertReadbackFault_keeps ..).goesOn (by decide)
  | alertFaultClear => exact (execAlertFaultClear_keeps ..).goesOn (by decide)
  | clearUpto => exact (execClearUpto_keeps ..).goesOn (by decide)
  | refclkLost => exact (execRefclkLost_keeps ..).goesOn (by decide)
  | refclkGood => exact (execRefclkGood_keeps ..).goesOn (by decide)
  | rootPllLock => exact (execRootPllLock_keeps ..).goesOn (by decide)
  | rootPllUnlock => exact (execRootPllUnlock_keeps ..).goesOn (by decide)
  | relockTimeout => exact (execRelockTimeout_keeps ..).goesOn (by decide)
  | rootVcoFail => exact (execRootVcoFail_keeps ..).goesOn (by decide)
  | pllUnlock => exact (execPllUnlock_keeps ..).goesOn (by decide)
  | clkDivCommit => exact (execClkDivCommit_keeps ..).goesOn (by decide)
  | ckoutCfgWrite => exact (execCkoutCfgWrite_keeps ..).goesOn (by decide)
  | ckoutReadbackFault => exact (execCkoutReadbackFault_keeps ..).goesOn (by decide)
  | ckoutFaultClear => exact (execCkoutFaultClear_keeps ..).goesOn (by decide)
  | timeSet => exact (execTimeSet_keeps ..).goesOn (by decide)
  | domainModeWrite => exact (execDomainModeWrite_keeps ..).goesOn (by decide)
  | domainIdleEntry => exact (execDomainIdleEntry_keeps ..).goesOn (by decide)
  | domainEntryEnd => exact (execDomainEntryEnd_keeps ..).goesOn (by decide)
  | domainOn => exact (execDomainOn_keeps ..).goesOn (by decide)
  | domainWakeFail => exact (execDomainWakeFail_keeps ..).goesOn (by decide)
  | pwrDomReset => exact (execPwrDomReset_keeps ..).goesOn (by decide)
  | adcScan => exact (execAdcScan_keeps ..).goesOn (by decide)
  | rampTimeout => exact (execRampTimeout_keeps ..).goesOn (by decide)
  | railOffTimeout => exact (execRailOffTimeout_keeps ..).goesOn (by decide)
  | stuckOnTimeout => exact (execStuckOnTimeout_keeps ..).goesOn (by decide)
  | peerFault => exact (execPeerFault_keeps ..).goesOn (by decide)
  | enableReadbackFault => exact (execEnableReadbackFault_keeps ..).goesOn (by decide)
  | tempMeasure => exact (execTempMeasure_keeps ..).goesOn (by decide)
  | powerUp => exact (execPowerUp_keeps ..).goesOn (by decide)
  | powerDown => exact (execPowerDown_keeps ..).goesOn (by decide)
  | faultClr => exact (execFaultClr_keeps ..).goesOn (by decide)
  | railFaultClear => exact (execRailFaultClear_keeps ..).goesOn (by decide)
  | railDataWrite => exact (execRailDataWrite_keeps ..).goesOn (by decide)
  | tableCommit => exact (execTableCommit_keeps ..).goesOn (by decide)
  | store => exact (execStore_keeps ..).goesOn (by decide)
  | storeDone => exact (execStoreDone_keeps ..).goesOn (by decide)
  | tokenRefill => exact (execTokenRefill_keeps ..).goesOn (by decide)
  | reload => exact (execReload_keeps ..).goesOn (by decide)
  | slotWrite => exact (execSlotWrite_keeps ..).goesOn (by decide)
  | slotErase => exact (execSlotErase_keeps ..).goesOn (by decide)
  | setEndpointId => exact (execSetEndpointId_keeps ..).goesOn (by decide)
  | getEndpointId => exact (execGetEndpointId_keeps ..).goesOn (by decide)
  | getEndpointUuid => exact (execGetEndpointUuid_keeps ..).goesOn (by decide)
  | getMctpVersionSupport => exact (execGetMctpVersionSupport_keeps ..).goesOn (by decide)
  | getMessageTypeSupport => exact (execGetMessageTypeSupport_keeps ..).goesOn (by decide)
  | getVendorDefinedMessageSupport => exact (execGetVendorDefinedMessageSupport_keeps ..).goesOn (by decide)
  | mctpMessageDrop bind msgType => exact (execMctpMessageDrop_keeps bind msgType s).goesOn (by decide)
  | getTid => exact (execGetTid_keeps ..).goesOn (by decide)
  | setTid => exact (execSetTid_keeps ..).goesOn (by decide)
  | getPldmVersion => exact (execGetPldmVersion_keeps ..).goesOn (by decide)
  | getPldmTypes => exact (execGetPldmTypes_keeps ..).goesOn (by decide)
  | getPldmCommands => exact (execGetPldmCommands_keeps ..).goesOn (by decide)
  | setEventReceiver => exact (execSetEventReceiver_keeps ..).goesOn (by decide)
  | getPdrRepositoryInfo => exact (execGetPdrRepositoryInfo_keeps ..).goesOn (by decide)
  | getPdr => exact (execGetPdr_keeps ..).goesOn (by decide)
  | getSensorReading => exact (execGetSensorReading_keeps ..).goesOn (by decide)
  | getStateSensorReadings => exact (execGetStateSensorReadings_keeps ..).goesOn (by decide)
  | pollForPlatformEventMessage => exact (execPollForPlatformEventMessage_keeps ..).goesOn (by decide)
  | queryDeviceIdentifiers => exact (execQueryDeviceIdentifiers_keeps ..).goesOn (by decide)
  | getFirmwareParameters => exact (execGetFirmwareParameters_keeps ..).goesOn (by decide)
  | requestUpdate => exact (execRequestUpdate_keeps ..).goesOn (by decide)
  | passComponentTable => exact (execPassComponentTable_keeps ..).goesOn (by decide)
  | updateComponent => exact (execUpdateComponent_keeps ..).goesOn (by decide)
  | firmwareDataReceived => exact (execFirmwareDataReceived_keeps ..).goesOn (by decide)
  | activateFirmware => exact (execActivateFirmware_keeps ..).goesOn (by decide)
  | pldmGetStatus => exact (execPldmGetStatus_keeps ..).goesOn (by decide)
  | cancelUpdateComponent => exact (execCancelUpdateComponent_keeps ..).goesOn (by decide)
  | cancelUpdate => exact (execCancelUpdate_keeps ..).goesOn (by decide)
  | pldmUnsupported => exact (execPldmUnsupported_keeps ..).goesOn (by decide)
  | identify => exact (execIdentify_keeps ..).goesOn (by decide)
  | attest => exact (execAttest_keeps ..).goesOn (by decide)
  | getStatus => exact (execGetStatus_keeps ..).goesOn (by decide)
  | getTelemetry => exact (execGetTelemetry_keeps ..).goesOn (by decide)
  | readRecords => exact (execReadRecords_keeps ..).goesOn (by decide)
  | getConfig => exact (execGetConfig_keeps ..).goesOn (by decide)
  | setConfig => exact (execSetConfig_keeps ..).goesOn (by decide)
  | clearRecords => exact (execClearRecords_keeps ..).goesOn (by decide)
  | fwTransfer => exact (execFwTransfer_keeps ..).goesOn (by decide)
  | fwActivate => exact (execFwActivate_keeps ..).goesOn (by decide)
  | pairCtl => exact (execPairCtl_keeps ..).goesOn (by decide)
  | powerCtl => exact (execPowerCtl_keeps ..).goesOn (by decide)
  | storeCtl => exact (execStoreCtl_keeps ..).goesOn (by decide)
  | keyDeliver => exact (execKeyDeliver_keeps ..).goesOn (by decide)
  | connCtl => exact (execConnCtl_keeps ..).goesOn (by decide)
  | tenantCtl => exact (execTenantCtl_keeps ..).goesOn (by decide)
  | alarmAck => exact (execAlarmAck_keeps ..).goesOn (by decide)
  | porNRise => exact execPorNRise_goesOn ..
  | porNFall => exact (execPorNFall_keeps ..).goesOn (by decide)
  | deviceRailsStart => exact (execDeviceRailsStart_keeps ..).goesOn (by decide)
  | deviceRailRetry => exact (execDeviceRailRetry_keeps ..).goesOn (by decide)
  | resetInN => exact (execResetInN_keeps ..).goesOn (by decide)
  | junctionThrottle => exact (execJunctionThrottle_keeps ..).goesOn (by decide)
  | junctionShutdown => exact (execJunctionShutdown_keeps ..).goesOn (by decide)
  | thermtrip => exact (execThermtrip_keeps ..).goesOn (by decide)
  | controlRead => exact (execControlRead_keeps ..).goesOn (by decide)
  | msixUnmask => exact (execMsixUnmask_keeps ..).goesOn (by decide)
  | pllReacquire => exact (execPllReacquire_keeps ..).goesOn (by decide)
  | waitForEvent => exact (execWaitForEvent_keeps ..).goesOn (by decide)
  | faultNHigh => exact (execFaultNHigh_keeps ..).goesOn (by decide)
  | faultNHoldExpiry => exact (execFaultNHoldExpiry_keeps ..).goesOn (by decide)
  | resetInNRelease => exact (execResetInNRelease_keeps ..).goesOn (by decide)
  | perstDeassert => exact (execPerstDeassert_keeps ..).goesOn (by decide)
  | opTimeout => exact (execOpTimeout_keeps ..).goesOn (by decide)
  | svcDramViol => exact (execSvcDramViol_keeps ..).goesOn (by decide)
  | twinLinkSignal => exact (execTwinLinkSignal_keeps ..).goesOn (by decide)
  | sublinkUp => exact (execSublinkUp_keeps ..).goesOn (by decide)
  | sublinkDown => exact (execSublinkDown_keeps ..).goesOn (by decide)

/-- A step goes on, from the state without the command it takes. -/
theorem step_goesOn (s : State) : State.GoesOnR { s with pending := s.pending.tail } (step s) := by
  unfold step
  split
  next empty =>
    have same : ({ s with pending := s.pending.tail } : State) = s := by rw [empty, List.tail_nil, ← empty]
    exact ⟨s.tick, rfl, same.symm ▸ s.tick_goesOn⟩
  next c rest waiting =>
    rw [waiting]
    exact exec_goesOn c _

/-- Settles O39: every step takes the front command and is that command's meaning, or an idle tick, and both keep the invariant. -/
theorem stepKeepsInvariant : Obligations.StepKeepsInvariant := by
  unfold Obligations.StepKeepsInvariant
  intro s t stepped
  obtain ⟨u, e, keeps⟩ := step_goesOn s
  obtain rfl : u = t := Host.Outcome.next.inj (e.symm.trans stepped)
  exact ⟨keeps.regs, keeps.mem, keeps.unit, keeps.queue⟩

/-- Any number of steps goes on. -/
theorem State.runs_all (n : Nat) (s : State) : s.runs n := by
  induction n generalizing s with
  | zero => trivial
  | succ n ih =>
    obtain ⟨t, e, -⟩ := step_goesOn s
    exact ⟨t, e, ih t⟩

/-- Settles O40: each step goes on, so any number of them does (log entry 91). -/
theorem runsGoOn : Obligations.RunsGoOn := by
  unfold Obligations.RunsGoOn
  refine ⟨State.runs_all, fun c s => ?_⟩
  obtain ⟨t, e, keeps⟩ := exec_goesOn c s
  exact ⟨t, e, keeps.queue⟩

end Sys2Proof.Machine
end

section
/-! SUPPORT. The step and the state after reset, as the definitions have them. -/
namespace Sys2Proof.Machine

/-- The state of an idle tick once its time has passed (R541, R542). -/
def State.timePassed (s : State) : State := { s with timeNs := s.timeNs + (40 - min s.slew 20), slew := s.slew - min s.slew 20 }

/-- What falls due with a tick may change these parts, TIME_NS not among them. -/
def dueScope : Scope := ⟨[.regs, .ctl, .evf, .recd, .xlt, .hp, .qe, .mov, .tier, .pan, .twn, .cmn, .pwr, .dmc, .flm, .seq, .hrv, .out, .free], none⟩

theorem State.tick_due (s : State) : State.Keeps dueScope s.timePassed s.tick := by
  refine State.Keeps.step (State.sysSync_keeps ..) ?_ (by decide)
  refine State.Keeps.step (State.cipherTick_keeps ..) ?_ (by decide)
  refine State.Keeps.step (State.srTick_keeps ..) ?_ (by decide)
  refine State.Keeps.step (State.dramDrain_keeps ..) ?_ (by decide)
  refine State.Keeps.step (State.harvestTick_keeps ..) ?_ (by decide)
  exact State.Keeps.step (State.clkSwitch_keeps ..) (State.Keeps.refl _ _) (by decide)

/-- Settles O37: with a command waiting by the definition of a step, with none by what falls due with a tick. -/
theorem stepTakesFrontCommand : Obligations.StepTakesFrontCommand := by
  unfold Obligations.StepTakesFrontCommand
  refine ⟨fun c rest s => rfl, fun s empty => ⟨s.tick, ?_, ?_, ?_, ?_⟩⟩
  · unfold step
    rw [empty]
  · exact s.tick_due.kept .timeNs (by decide)
  · exact s.tick_due.kept .slew (by decide)
  · have queue : s.tick.pending = s.pending := s.tick_due.kept .pending (by decide)
    exact queue.trans empty

/-- After reset every field holds the reset value of its table (R42). -/
theorem State.reset_rd (p : Page) (f : Fld) (i : Nat) : State.reset.rd p f i = f.resetAt 0 i := rfl

/-- Settles O38: nothing is listed in the register file after reset, so each register reads its table's reset value. -/
theorem resetState : Obligations.ResetState := by
  unfold Obligations.ResetState
  refine ⟨State.reset_regsOk, rfl, rfl, rfl, by decide, fun p _ => ?_, ?_⟩
  · simp only [State.reset_rd]
    decide
  · simp only [State.get, State.reset_rd]
    refine ⟨rfl, rfl, rfl, rfl, fun n _ => ⟨rfl, rfl⟩, rfl, rfl, rfl, rfl, rfl, rfl, rfl⟩

end Sys2Proof.Machine
end

section
/-! SUPPORT. Mover 0's page at the safe point of its OFFLINE: its part of a commit waits for QE's assignment of movers (R186). -/
namespace Sys2Proof.Proofs.AssignPageApply
open Sys2Proof.Machine

/-- A page no change of which alone waits applies none. -/
theorem applySingle_of_none {s : State} {p : Page} (h : ∀ x ∈ s.ctl.single, x.page ≠ p) (hit : Nat → Bool) : s.applySingle p hit = s := by
  have none_waits : (s.ctl.single.filter fun x => x.page == p && hit x.key) = [] :=
    List.filter_eq_nil_iff.mpr fun x hx e => h x hx (beq_iff_eq.mp (Bool.and_eq_true _ _ ▸ e).1)
  unfold State.applySingle
  rw [none_waits]
  rfl

/-- At the safe point of mover 0's page only changes of that page alone apply: with none of them, nothing happens, in a commit or not. -/
theorem execStageApply_assignPage {s : State} (h : ∀ x ∈ s.ctl.single, x.page ≠ assignPage) (can : s.canApply assignPage = true) :
    exec (.stageApply assignPage) s = .next s := by
  show execStageApply assignPage s = .next s
  unfold execStageApply State.safePoint
  rw [can, applySingle_of_none h]
  rfl

/-- Mover 0's page, which has not applied, is the one participant of the commit that runs. -/
def inCommit : State :=
  { State.reset.put TOP.STAGE_GSTAT gApplying with ctl.parts := [{ page := assignPage, applied := false, restored := false }] }

theorem inCommit_regsOk : inCommit.regsOk :=
  have h := State.regsOk_put State.reset_regsOk TOP.STAGE_GSTAT gApplying 0 0
  State.regsOk_of_regs h rfl

/-- Refutes O3: the clause of a participant that applies covers every page, but STAGE_APPLY of mover 0's page is the safe point of its OFFLINE alone (R186):
its part of the commit waits for QE's assignment of movers, and APPLIED stays 0. -/
theorem not_stagedChanges : ¬ Obligations.StagedChanges := by
  unfold Obligations.StagedChanges
  rintro ⟨-, -, -, -, -, -, -, -, -, -, -, -, -, -, applies, -⟩
  have noneAlone : ∀ x ∈ inCommit.ctl.single, x.page ≠ assignPage := fun _ h => absurd h List.not_mem_nil
  have unique : ∀ y ∈ inCommit.ctl.parts, ∀ z ∈ inCommit.ctl.parts, y.page = z.page → y = z := fun y hy z hz _ =>
    (List.mem_singleton.mp hy).trans (List.mem_singleton.mp hz).symm
  obtain ⟨t, applied, flag, -⟩ := applies inCommit assignPage { page := assignPage, applied := false, restored := false } inCommit_regsOk (by decide) rfl rfl
    (by decide) noneAlone (by decide) (fun _ => rfl) (by decide) unique
  rw [execStageApply_assignPage noneAlone (by decide)] at applied
  obtain rfl : inCommit = t := Host.Outcome.next.inj applied
  exact absurd flag (by decide)

end Sys2Proof.Proofs.AssignPageApply
end

section
/-! SUPPORT. Control-space accesses at bus addresses: which page they reach, and what one that is refused, or that reaches no page, leaves. -/
namespace Sys2Proof.Machine

/-! ## From the bus to the page -/

/-- The bus address of an offset names that offset (R36). -/
theorem ctlOffset_busAddr (r : Requester) (off : Nat) : ctlOffset r (busAddr r off) = BitVec.ofNat 32 off := by
  unfold ctlOffset busAddr
  rw [BitVec.ofNat_add, BitVec.add_sub_cancel]

theorem exec_controlRead (s : State) (r : Requester) (off n : Nat) :
    exec (.controlRead r (busAddr r off) n) s = .next (s.access { req := r, off := BitVec.ofNat 32 off, size := n, write := false, data := 0 }) := by
  rw [← ctlOffset_busAddr r off]
  rfl

theorem exec_controlWrite (s : State) (r : Requester) (off n : Nat) (data : BitVec 64) :
    exec (.controlWrite r (busAddr r off) n data) s = .next (s.access { req := r, off := BitVec.ofNat 32 off, size := n, write := true, data := data }) := by
  rw [← ctlOffset_busAddr r off]
  rfl

/-- A read of a page that answers (R41) is the page's read. -/
theorem exec_controlRead_page {s : State} {r : Requester} {p : Page} {a n : Nat} (hr : s.reaches r = true) (hf : pageFor r p.base = some p) (ha : a < 4096)
    (hl : legalAccess a n = true) (hon : a < 0x100 ∨ s.domainOn (Page.dom p) = true) :
    exec (.controlRead r (busAddr r (p.base + a)) n) s = .next (s.pageRead r p a n) := by
  have hm := Page.base_mod p ha
  rw [exec_controlRead, State.access_onPage s _ hr (ofNat32_toNat (Page.base_lt (pageFor_present hf) ha)) rfl (legalAccess_base p hl) (pageFor_admitted hf ha)
    rfl (by rw [hm]; simpa using hon)]
  unfold State.onPage
  rw [hm]
  rfl

/-- A write of a page that answers, with no earlier write before it (R40, R41), is the page's write. -/
theorem exec_controlWrite_page {s : State} {r : Requester} {p : Page} {a n : Nat} (data : BitVec 64) (hr : s.reaches r = true) (hf : pageFor r p.base = some p)
    (hw : s.wayClear r p) (ha : a < 4096) (hl : legalAccess a n = true) (hon : a < 0x100 ∨ s.domainOn (Page.dom p) = true) :
    exec (.controlWrite r (busAddr r (p.base + a)) n data) s = .next (s.pageWrite r p a n (data.toNat % 2 ^ (8 * n))) := by
  have hm := Page.base_mod p ha
  rw [exec_controlWrite, State.access_onPage s _ hr (ofNat32_toNat (Page.base_lt (pageFor_present hf) ha)) rfl (legalAccess_base p hl) (pageFor_admitted hf ha)
    (State.wayClear_behind hw _ rfl) (by rw [hm]; simpa using hon)]
  unfold State.onPage
  rw [hm]
  rfl

/-- An access of any size at an offset of no page (R38). -/
theorem State.access_unmapped {s : State} {x : Stalled} (hr : s.reaches x.req = true) (hp : pageFor x.req x.off.toNat = none) :
    s.access x = s.unmapped x.req x.off.toNat x.write := by
  unfold State.access State.sizeViol
  simp only [hr, hp, Bool.not_true, Bool.false_eq_true, if_false, ite_self]

theorem Page.ofOff_present {off : Nat} {p : Page} (h : Page.ofOff off = some p) : p.present = true := by
  unfold Page.ofOff at h
  split at h
  · cases h
  · dsimp only at h
    split at h
    · split at h
      next inside =>
        obtain rfl := Option.some.inj h
        exact decide_eq_true inside
      next => cases h
    · cases h

theorem pageFor_inst_lt {r : Requester} {off : Nat} {p : Page} (h : pageFor r off = some p) : p.inst < 256 :=
  Page.inst_lt (Page.ofOff_present (Option.filter_eq_some_iff.mp h).1)

/-! ## What a refused access leaves -/

/-- An error of a control access changes what reports change. -/
theorem State.ctlErr_frame {s : State} (hs : s.regsOk) (p : Page) (k v : Nat) (c : Capture) : s.frame (s.ctlErr p k v c) reported reportedFields :=
  (State.ctlErr_keeps s p k v c).frame hs (by decide)

@[simp] theorem State.ctlAnswer_rd (s : State) (r : Requester) (off v : Nat) (q : Page) (g : Fld) (i : Nat) : (s.ctlAnswer r off v).rd q g i = s.rd q g i := rfl

@[simp] theorem State.blank_rd (s : State) (r : Requester) (off : Nat) (w : Bool) (q : Page) (g : Fld) (i : Nat) : (s.blank r off w).rd q g i = s.rd q g i := by
  cases w <;> rfl

theorem State.ctlAnswer_last (s : State) (r : Requester) (off v : Nat) : (s.ctlAnswer r off v).out.getLast? = some (.ctlRead r off v) :=
  List.getLast?_concat

/-- An access that completes with an error and without effect: the error's report, and for a read the answer 0. -/
theorem State.ctlErr_blank_frame {s : State} (hs : s.regsOk) (p : Page) (k v : Nat) (c : Capture) (r : Requester) (off : Nat) (w : Bool) :
    s.frame ((s.ctlErr p k v c).blank r off w) reported reportedFields :=
  ((State.blank_keeps _ r off w).step ((State.ctlErr_keeps s p k v c).mono (by decide : Scope.within _ State.ctlErr_scope = true)) (by decide)).frame hs (by decide)

/-- What an access of no page leaves (R38). -/
theorem State.unmapped_spec {s : State} (hs : s.regsOk) (r : Requester) {off : Nat} (hoff : off < 2 ^ 32) (w : Bool) :
    bit ((s.unmapped r off w).rd topPage HDR.ERR_STAT) 4 = true ∧ (s.rd topPage HDR.ERR_STAT = 0 → (s.unmapped r off w).rd topPage HDR.ERR_INFO1 = off) ∧
      (w = false → (s.unmapped r off w).out.getLast? = some (.ctlRead r off 0)) ∧ s.frame (s.unmapped r off w) reported reportedFields := by
  refine ⟨?_, fun clear => ?_, ?_, State.ctlErr_blank_frame hs ..⟩
  · unfold State.unmapped
    rw [State.blank_rd]
    exact State.ctlErr_bit hs (by decide) (by decide) _ _
  · unfold State.unmapped
    rw [State.blank_rd, (State.ctlErr_info hs (by decide) clear (by decide) _ _).2]
    exact Nat.mod_eq_of_lt hoff
  · rintro rfl
    exact State.ctlAnswer_last ..

/-- What a read that OWNER refuses leaves (R47). -/
theorem State.pageRead_refused {s : State} (hs : s.regsOk) {r : Requester} {p : Page} (hp : p.inst < 256) (refused : s.mayRead r p = false) (a n : Nat) :
    (s.pageRead r p a n).out.getLast? = some (.ctlRead r (p.base + a) 0) ∧ bit ((s.pageRead r p a n).rd p HDR.ERR_STAT) 0 = true ∧
      s.frame (s.pageRead r p a n) reported reportedFields := by
  refine ⟨?_, ?_, (State.pageRead_keeps s r p a n).frame hs (by decide)⟩ <;> unfold State.pageRead <;> rw [if_neg (by rw [refused]; decide)]
  · exact State.ctlAnswer_last ..
  · exact State.ctlErr_bit hs hp (by decide) _ _

/-- A write that is refused as a whole with a common error, on a block that has come to rest if it waited to: the error, whose capture is the write's. -/
def State.refusedWith (s : State) (p : Page) (k : Nat) (t : State) : Prop :=
  ∃ sev c, t = (s.quiesceLatch p).ctlErr p k sev c ∨ t = (s.quiesceLatch p).captureBy ((s.quiesceLatch p).ctlErr p k sev c) p c

theorem State.captureBy_errStat {s t : State} (ht : t.regsOk) (p : Page) (c : Capture) : (s.captureBy t p c).rd p HDR.ERR_STAT = t.rd p HDR.ERR_STAT := by
  unfold State.captureBy
  split
  · rw [State.rd_wr_ne (State.regsOk_wr ht _ _ _ _) _ (Fld.key_ne_place (by decide) (by decide) (by decide)),
      State.rd_wr_ne ht _ (Fld.key_ne_place (by decide) (by decide) (by decide))]
  · rfl

/-- What such a write leaves: its error bit set, nothing changed but what the report changes, and QUIESCED. -/
theorem State.refusedWith.spec {s t : State} {p : Page} {k : Nat} (h : s.refusedWith p k t) (hs : s.regsOk) (hp : p.inst < 256) (hk : k < 32) :
    bit (t.rd p HDR.ERR_STAT) k = true ∧ s.frame t reported (HDR.QUIESCED :: reportedFields) := by
  obtain ⟨sev, c, h⟩ := h
  have ok := State.quiesceLatch_ok hs p
  have erred := State.ctlErr_keeps (s.quiesceLatch p) p k sev c
  have latched : State.Keeps ⟨reported, some (HDR.QUIESCED :: reportedFields)⟩ s (s.quiesceLatch p) := (State.quiesceLatch_keeps s p).mono (by decide)
  have kept := erred.step latched (by decide)
  have set := State.ctlErr_bit ok hp hk sev c
  rcases h with rfl | rfl
  · exact ⟨set, kept.frame hs (by decide)⟩
  · exact ⟨(State.captureBy_errStat (erred.ok ok) p c).symm ▸ set, ((State.captureBy_keeps ..).step kept (by decide)).frame hs (by decide)⟩

/-- A write that OWNER refuses (R47). -/
theorem State.pageWrite_unowned {s : State} (hs : s.regsOk) {r : Requester} {p : Page} (refused : s.mayWrite r p = false) (a n d : Nat) :
    s.refusedWith p 0 (s.pageWrite r p a n d) := by
  unfold State.pageWrite
  simp only [State.quiesceLatch_mayWrite hs, refused, Bool.not_false, if_true]
  exact ⟨_, _, .inl rfl⟩

/-- The common error k alone among those that a write can meet. -/
theorem only_error {l : List Verdict} {k : Nat} (hk : k < 4) (all : ∀ v ∈ l, v = .skip ∨ v = .err k) (one : Verdict.err k ∈ l) :
    ([0, 1, 2, 3].filter fun j => l.any fun v => v == .err j) = [k] := by
  have met (j : Nat) : (l.any fun v => v == .err j) = decide (j = k) := by
    rw [Bool.eq_iff_iff, List.any_eq_true, decide_eq_true_iff]
    constructor
    · rintro ⟨v, hv, e⟩
      obtain rfl := beq_iff_eq.mp e
      rcases all _ hv with h | h
      · cases h
      · exact Verdict.err.inj h
    · rintro rfl
      exact ⟨_, one, beq_self_eq_true _⟩
  simp only [met]
  interval_cases k <;> rfl

/-- A write that OWNER admits, each field of which is passed over or refused with one common error, and one at least refused. -/
theorem State.pageWrite_refused {s : State} (hs : s.regsOk) {r : Requester} {p : Page} (admitted : s.mayWrite r p = true) {a n d k : Nat} (hk : k < 4)
    (all : ∀ x ∈ (s.quiesceLatch p).writesAt p a n d, (s.quiesceLatch p).verdict r p x = .skip ∨ (s.quiesceLatch p).verdict r p x = .err k)
    (one : ∃ x ∈ (s.quiesceLatch p).writesAt p a n d, (s.quiesceLatch p).verdict r p x = .err k) : s.refusedWith p k (s.pageWrite r p a n d) := by
  generalize hxs : (s.quiesceLatch p).writesAt p a n d = xs at all one
  have taken : (xs.map fun x => (x, (s.quiesceLatch p).verdict r p x)).filter (fun v => v.2 == .take) = [] := by
    refine List.filter_eq_nil_iff.mpr fun v hv e => ?_
    obtain ⟨x, hx, rfl⟩ := List.mem_map.mp hv
    rcases all x hx with h | h <;> rw [h] at e <;> cases beq_iff_eq.mp e
  have errs : ([0, 1, 2, 3].filter fun j => (xs.map fun x => (x, (s.quiesceLatch p).verdict r p x)).any fun v => v.2 == .err j) = [k] := by
    have h := only_error (l := xs.map fun x => (s.quiesceLatch p).verdict r p x) hk (List.forall_mem_map.mpr all) (List.mem_map.mpr one)
    simpa only [List.any_map, Function.comp_def] using h
  unfold State.pageWrite
  simp only [State.quiesceLatch_mayWrite hs, admitted, hxs, Bool.not_true, Bool.false_eq_true, if_false, taken, errs, List.map_nil, List.findSome?_nil,
    List.filter_nil, List.any_nil, Bool.and_false, Bool.false_and, List.foldl_nil, List.foldl_cons]
  exact ⟨_, _, .inr rfl⟩

/-! ## The fields a write meets -/

theorem State.mem_writesAt {s : State} {p : Page} {a n d : Nat} {x : FieldWrite} (h : x ∈ s.writesAt p a n d) : ∃ y ∈ slotsAt p a n, y.2.1 = x.fld := by
  obtain ⟨y, hy, rfl⟩ := List.mem_map.mp h
  exact ⟨y, hy, rfl⟩

/-- What a write-1 field holds does not enter a write of it. -/
theorem State.before_writeOne (s : State) (p : Page) {f : Fld} (h : f.acc = .w1s ∨ f.acc = .rw1c) (i : Nat) : s.before p f i = 0 := by
  unfold State.before
  rcases h with h | h <;> rw [h]

/-- Which fields a write meets, and which of them it leaves idle, do not depend on the state. -/
theorem State.writesAt_idle (s t : State) {p : Page} {a n d : Nat} {x : FieldWrite} (h : x ∈ s.writesAt p a n d) :
    ∃ y ∈ t.writesAt p a n d, y.fld = x.fld ∧ y.idle = x.idle := by
  obtain ⟨⟨q, f, i, b⟩, hy, rfl⟩ := List.mem_map.mp h
  refine ⟨_, List.mem_map.mpr ⟨_, hy, rfl⟩, rfl, ?_⟩
  by_cases one : f.acc = .w1s ∨ f.acc = .rw1c
  · simp only [FieldWrite.idle, State.before_writeOne _ q one]
  · have none : (f.acc == .w1s || f.acc == .rw1c) = false := by simpa using one
    simp only [FieldWrite.idle, none, Bool.false_and]

end Sys2Proof.Machine
end

section
/-! SUPPORT. The statements about control-space accesses. -/
namespace Sys2Proof.Machine

/-- Clearing the bits of a mask, bit by bit. -/
theorem testBit_sub_and (v m k : Nat) : (v - (v &&& m)).testBit k = (v.testBit k && !m.testBit k) := by
  have low (v m : Nat) : (v &&& m) % 2 = 1 ↔ v % 2 = 1 ∧ m % 2 = 1 := Nat.and_mod_two_eq_one
  induction k generalizing v m with
  | zero =>
    have le : v &&& m ≤ v := Nat.and_le_left
    have parity := low v m
    rw [Bool.eq_iff_iff]
    simp only [Nat.testBit_zero, Bool.and_eq_true, Bool.not_eq_true', decide_eq_true_eq, decide_eq_false_iff_not]
    omega
  | succ k ih =>
    have le : v / 2 &&& m / 2 ≤ v / 2 := Nat.and_le_left
    have half : (v &&& m) / 2 = v / 2 &&& m / 2 := Nat.and_div_two
    have parity := low v m
    have shifted : (v - (v &&& m)) / 2 = v / 2 - (v / 2 &&& m / 2) := by omega
    simp only [Nat.testBit_succ, shifted, ih]

/-- ERR_STAT after a write of a mask (R44). -/
theorem State.clearBits_errStat {s : State} (hs : s.regsOk) (p : Page) (m : Nat) {k : Nat} (hk : k < 32) :
    bit ((s.clearBits p HDR.ERR_STAT 0 m).rd p HDR.ERR_STAT) k = (bit (s.rd p HDR.ERR_STAT) k && !m.testBit k) := by
  unfold State.clearBits bit
  rw [State.rd_wr_same hs, show HDR.ERR_STAT.width = 32 from rfl, Nat.testBit_mod_two_pow, testBit_sub_and]
  simp [hk]

/-- A write of one header field, on a block that has come to rest if it waited to, changes that field and QUIESCED. -/
theorem State.latch_wr_frame {s : State} (hs : s.regsOk) (p : Page) {f : Fld} (hf : f.off < 0x100) (v : Nat) :
    s.frame ((s.quiesceLatch p).wr p f v) [.regs] [f, HDR.QUIESCED] := by
  have latched : State.Keeps ⟨[.regs], some [f, HDR.QUIESCED]⟩ s (s.quiesceLatch p) :=
    (State.quiesceLatch_keeps s p).mono (by simp [Scope.within, Fld.within, Fld.same, State.quiesceLatch_scope])
  exact (latched.wr p f v 0 (.inr hf) (Scope.has_of (.head _))).frame hs (by simp [Scope.within, Fld.within, Fld.same])

/-- A write of EVT_ROUTE that OWNER admits is taken. -/
theorem exec_controlWrite_evtRoute {s : State} (hs : s.regsOk) {r : Requester} {p : Page} (admitted : s.admits r p) {v : Nat} (hv : v < 512) :
    ∃ t, exec (.controlWrite r (busAddr r (p.base + 0x024)) 4 (BitVec.ofNat 64 v)) s = .next t ∧ t.rd p HDR.EVT_ROUTE = v ∧
      s.frame t [.regs] [HDR.EVT_ROUTE, HDR.QUIESCED] := by
  have written : exec (.controlWrite r (busAddr r (p.base + 0x024)) 4 (BitVec.ofNat 64 v)) s = .next (s.regWrite r p 0x024 4 v) := exec_controlWrite ..
  rw [written, State.write_evtRoute hs admitted hv]
  refine ⟨_, rfl, ?_, State.latch_wr_frame hs p (by decide) v⟩
  rw [State.rd_wr_same (State.quiesceLatch_ok hs p)]
  exact Nat.mod_eq_of_lt hv

/-- A write of a page that answers, which OWNER refuses (R47). -/
theorem exec_controlWrite_unowned {s : State} (hs : s.regsOk) {r : Requester} {p : Page} {a n : Nat} (data : BitVec 64) (hr : s.reaches r = true)
    (hf : pageFor r p.base = some p) (refused : s.mayWrite r p = false) (hw : s.wayClear r p) (ha : a < 4096) (hl : legalAccess a n = true)
    (hon : a < 0x100 ∨ s.domainOn (Page.dom p) = true) :
    ∃ t, exec (.controlWrite r (busAddr r (p.base + a)) n data) s = .next t ∧ bit (t.rd p HDR.ERR_STAT) 0 = true ∧
      s.frame t reported (HDR.QUIESCED :: reportedFields) :=
  ⟨_, exec_controlWrite_page data hr hf hw ha hl hon, (State.pageWrite_unowned hs refused a n _).spec hs (pageFor_inst_lt hf) (by decide)⟩

/-- A read of a page that answers, which OWNER refuses (R47). -/
theorem exec_controlRead_unowned {s : State} (hs : s.regsOk) {r : Requester} {p : Page} {a n : Nat} (hr : s.reaches r = true) (hf : pageFor r p.base = some p)
    (refused : s.mayRead r p = false) (ha : a < 4096) (hl : legalAccess a n = true) (hon : a < 0x100 ∨ s.domainOn (Page.dom p) = true) :
    ∃ t, exec (.controlRead r (busAddr r (p.base + a)) n) s = .next t ∧ t.out.getLast? = some (.ctlRead r (p.base + a) 0) ∧ bit (t.rd p HDR.ERR_STAT) 0 = true ∧
      s.frame t reported reportedFields :=
  ⟨_, exec_controlRead_page hr hf ha hl hon, State.pageRead_refused hs (pageFor_inst_lt hf) refused a n⟩

/-- An access of illegal size or alignment on a page (R39). -/
theorem State.sizeViol_spec {s : State} (hs : s.regsOk) {r : Requester} {p : Page} {off : Nat} (hf : pageFor r off = some p) (w : Bool) (d : Nat) :
    bit ((s.sizeViol r off w d).rd p HDR.ERR_STAT) 5 = true ∧
      (s.rd p HDR.ERR_STAT = 0 → (s.sizeViol r off w d).rd p HDR.ERR_INFO0 = (r.code * 2 ^ 28 + 5 * 2 ^ 24 + off % 4096) % 2 ^ 32) ∧
      (w = false → (s.sizeViol r off w d).out.getLast? = some (.ctlRead r off 0)) ∧ s.frame (s.sizeViol r off w d) reported reportedFields := by
  have hp := pageFor_inst_lt hf
  unfold State.sizeViol
  rw [hf]
  refine ⟨?_, fun clear => ?_, ?_, State.ctlErr_blank_frame hs ..⟩
  · rw [State.blank_rd]
    exact State.ctlErr_bit hs hp (by decide) _ _
  · rw [State.blank_rd, (State.ctlErr_info hs hp clear (by decide) _ _).1]
    simp [capOf]
  · rintro rfl
    exact State.ctlAnswer_last ..

/-- Settles O41: the access goes nowhere but to the report of its error. -/
theorem unmappedAccessStated : Obligations.UnmappedAccessStated := by
  unfold Obligations.UnmappedAccessStated
  have off_self (off : BitVec 32) : BitVec.ofNat 32 off.toNat = off := by rw [BitVec.ofNat_toNat, BitVec.setWidth_eq]
  refine ⟨fun s r off n hs hr hp => ?_, fun s r off n data hs hr hp => ?_⟩
  · obtain ⟨flag, info, answer, frame⟩ := State.unmapped_spec hs r off.isLt false
    rw [exec_controlRead, off_self, State.access_unmapped hr hp]
    exact ⟨_, rfl, answer rfl, flag, info, frame⟩
  · obtain ⟨flag, info, -, frame⟩ := State.unmapped_spec hs r off.isLt true
    rw [exec_controlWrite, off_self, State.access_unmapped hr hp]
    exact ⟨_, rfl, flag, info, frame⟩

/-- Settles O2: each access is its page's read or write, or one field's effect, or the report of its error. -/
theorem controlSpaceAccesses : Obligations.ControlSpaceAccesses := by
  unfold Obligations.ControlSpaceAccesses
  refine ⟨?read, ?refusedRead, ?unmapped, ?sizeViol, ?evtRoute, ?refusedWrite, ?lock, ?errStat⟩
  case read =>
    intro s r p a hr hf may ha hl hon
    have answered : s.pageRead r p a 4 = s.ctlAnswer r (p.base + a) (s.readPage p a 4) := if_pos may
    refine ⟨_, exec_controlRead_page hr hf ha hl hon, ?_, ?_⟩ <;> rw [answered]
    · rfl
    · exact (State.ctlAnswer_keeps ..).kept
  case refusedRead =>
    intro s r p a hs hr hf refused ha hl hon
    exact exec_controlRead_unowned hs hr hf refused ha hl hon
  case unmapped =>
    intro s r off write data hs hr hp
    obtain ⟨flag, info, answer, frame⟩ := State.unmapped_spec hs r off.isLt write
    refine ⟨_, ?_, flag, info, answer, frame⟩
    show execUnmappedAccess r off write data s = _
    unfold execUnmappedAccess
    rw [hr, hp]
    rfl
  case sizeViol =>
    intro s r p off size write data hs hr hf illegal
    refine ⟨s.sizeViol r off.toNat write data.toNat, ?_, State.sizeViol_spec hs hf write data.toNat⟩
    show execSizeViolAccess r off size write data s = _
    unfold execSizeViolAccess
    rw [hr, illegal]
    rfl
  case evtRoute =>
    intro s r p v hs admitted hv
    exact exec_controlWrite_evtRoute hs admitted hv
  case refusedWrite =>
    intro s r p a data hs hr hf refused hw ha hl hon
    exact exec_controlWrite_unowned hs data hr hf refused hw ha hl hon
  case lock =>
    intro s r p hs admitted warden
    refine ⟨s.regWrite r p 0x044 4 1, rfl, ?_⟩
    rw [State.write_lock hs admitted warden]
    exact ⟨State.rd_wr_same (State.quiesceLatch_ok hs p) .., State.latch_wr_frame hs p (by decide) 1⟩
  case errStat =>
    intro s r p m hs admitted nonzero
    refine ⟨s.regWrite r p 0x028 4 m.toNat, rfl, ?_⟩
    rw [State.write_errStat hs admitted m.isLt fun e => nonzero (BitVec.eq_of_toNat_eq e)]
    refine ⟨fun k hk => ?_, State.latch_wr_frame hs p (by decide) _⟩
    rw [State.clearBits_errStat (State.quiesceLatch_ok hs p) p _ hk, State.quiesceLatch_errStat hs p]
    rfl

/-- Settles O42: the read and the write that OWNER refuses, and the write whose fields the marking refuses, end with the report of OWNER_VIOL. -/
theorem refusedAccessStated : Obligations.RefusedAccessStated := by
  unfold Obligations.RefusedAccessStated
  refine ⟨?read, ?write, ?marked⟩
  case read =>
    intro s r p a n hs hr hf refused ha hl hon
    exact exec_controlRead_unowned hs hr hf refused ha hl hon
  case write =>
    intro s r p a n data hs hr hf refused hw ha hl hon
    exact exec_controlWrite_unowned hs data hr hf refused hw ha hl hon
  case marked =>
    intro s r p a n data hs admitted software ha hl hon active marked
    obtain ⟨hr, hf, may, hw⟩ := admitted
    have software' : (s.quiesceLatch p).asWarden r = false := (State.quiesceLatch_asWarden hs p r).trans software
    have verdicts : ∀ x ∈ (s.quiesceLatch p).writesAt p a n (data.toNat % 2 ^ (8 * n)), x.idle = false → (s.quiesceLatch p).verdict r p x = .err 0 := by
      intro x hx busy
      obtain ⟨y, hy, fld, idle⟩ := State.writesAt_idle _ s hx
      have warden : x.fld.warden = true := fld ▸ (marked y hy).resolve_left (by rw [idle, busy]; decide)
      unfold State.verdict
      simp [busy, warden, software']
    refine ⟨_, exec_controlWrite_page data hr hf hw ha hl hon, (State.pageWrite_refused hs may (by decide) (fun x hx => ?_) ?_).spec hs (pageFor_inst_lt hf) (by decide)⟩
    · cases idle : x.idle
      · exact .inr (verdicts x hx idle)
      · exact .inl (if_pos idle)
    · obtain ⟨y, hy, busy⟩ := List.any_eq_true.mp active
      obtain ⟨x, hx, -, idle⟩ := State.writesAt_idle _ (s.quiesceLatch p) hy
      exact ⟨x, hx, verdicts x hx (by rw [idle]; simpa using busy)⟩

/-- The host reaches every page (R36). -/
theorem pageFor_host {p : Page} (present : p.present = true) : pageFor .host p.base = some p := by
  unfold pageFor
  rw [show Page.ofOff p.base = some p from Page.ofOff_base present (a := 0) (by decide)]
  rfl

/-- Settles O43: without the right to read there is none to write; with both the write of EVT_ROUTE is admitted. -/
theorem writeRightStated : Obligations.WriteRightStated := by
  unfold Obligations.WriteRightStated
  refine ⟨?host, ?hostTaken, ?svc, ?svcTaken⟩
  case host =>
    intro s p a n data hs present noRead hw ha hl hon
    exact exec_controlWrite_unowned hs data rfl (pageFor_host present) (by simp [State.mayWrite, State.mayRead, noRead]) hw ha hl hon
  case hostTaken =>
    intro s p v hs present read write hw hv
    exact exec_controlWrite_evtRoute hs ⟨rfl, pageFor_host present, by simp [State.mayWrite, State.mayRead, read, write], hw⟩ hv
  case svc =>
    intro s k p a n data hs hf noRead hw ha hl hon
    exact exec_controlWrite_unowned hs data rfl hf (by simp [State.mayWrite, State.mayRead, noRead]) hw ha hl hon
  case svcTaken =>
    intro s k p v hs hf read write named hw hv
    exact exec_controlWrite_evtRoute hs ⟨rfl, hf, by simp [State.mayWrite, State.mayRead, read, write, named], hw⟩ hv

/-- Settles O44: every field that the write meets is refused with LOCK_VIOL. -/
theorem lockedFieldsStated : Obligations.LockedFieldsStated := by
  unfold Obligations.LockedFieldsStated
  intro s r p a n data hs admitted warden locked ha hl hon meets rwl
  obtain ⟨hr, hf, may, hw⟩ := admitted
  have locked' : (s.quiesceLatch p).rd p HDR.LOCK = 1 := (State.quiesceLatch_hdr hs p (by decide) (by decide)).trans locked
  have warden' : (s.quiesceLatch p).asWarden r = true := (State.quiesceLatch_asWarden hs p r).trans warden
  have verdicts : ∀ x ∈ (s.quiesceLatch p).writesAt p a n (data.toNat % 2 ^ (8 * n)), (s.quiesceLatch p).verdict r p x = .err 1 := by
    intro x hx
    obtain ⟨y, hy, fld⟩ := State.mem_writesAt hx
    have acc : x.fld.acc = .rwl := fld ▸ rwl y hy
    simp [State.verdict, FieldWrite.idle, acc, locked', warden']
  refine ⟨_, exec_controlWrite_page data hr hf hw ha hl hon,
    (State.pageWrite_refused hs may (by decide) (fun x hx => .inr (verdicts x hx)) ?_).spec hs (pageFor_inst_lt hf) (by decide)⟩
  obtain ⟨x, hx⟩ := List.exists_mem_of_ne_nil _ (mt List.map_eq_nil_iff.mp meets)
  exact ⟨x, hx, verdicts x hx⟩

end Sys2Proof.Machine
end

section
/-! SUPPORT. Set LD Allocations where a BOUND window lies wholly beyond the capacity that is allocated: nothing of it is cut. -/
namespace Sys2Proof.Proofs.LdAllocations
open Sys2Proof.Machine

/-- A BOUND window whose range begins at the DPA at which the allocation below ends. -/
def farWindow : WindowDesc :=
  { valid := true, foreign := false, w := false, r := false, state := 1, tenant := 0, region := 0, regionGen := 0, dpaBase := 0x1000_0000, length := 0x1000_0000, regionOff := 0,
    rkey := 0, node := 0, conn := 0, check := 0 }

/-- After reset, logical device 0 of port 0 has 256 MiB, and its window 0 is bound beyond them. -/
def beyond : State :=
  { State.reset with xlt := { xltInit with windows := [(0, farWindow)] }, hp := { hpInit with lds := [(0, { noLd with allocUnits := 1 })] } }

/-- The range cut is that below the window: the allocation of 0 is stored. -/
theorem exec_setLdAllocations_beyond :
    exec (.setLdAllocations 0 0 0) beyond = (beyond.putLd 0 0 { beyond.ld 0 0 with allocUnits := 0 }).fmAnswer "SET_LD_ALLOCATIONS" .success [0] := by
  show execSetLdAllocations 0 0 0 beyond = _
  unfold execSetLdAllocations
  exact if_neg (by decide)

/-- Refutes O9: the clause of the refusal asks only that a BOUND window ends above the new allocation, and so covers one that lies wholly above the old one too.
Such a window is not in the range cut (R132), and the allocation is stored. -/
theorem not_mailboxCapacity : ¬ Obligations.MailboxCapacity := by
  unfold Obligations.MailboxCapacity
  rintro ⟨-, -, -, -, -, -, -, -, -, refused, -⟩
  obtain ⟨t, done, out, -⟩ := refused beyond 0 0 0 0 farWindow (by decide) (by decide) rfl rfl (by decide) (by decide)
  rw [exec_setLdAllocations_beyond] at done
  obtain rfl := Host.Outcome.next.inj done
  exact absurd out (by decide)

end Sys2Proof.Proofs.LdAllocations
end

section
/-! SUPPORT. A host's write that TIER takes and that goes through pan to its frame: it joins its subchannel's write queue under the QoS of its port. -/
namespace Sys2Proof.Proofs.QueuedWrite
open Sys2Proof.Machine
open Sys2Proof.Proofs.HeldWriteRelease (eq_pair)

/-- A class V region of one block of tenant 0 that hosts may write. -/
def region : Region := Region.seal { noRegion with valid := true, pclass := 2, size := 1, hostW := true }

/-- Its block map entry: pool block 0. -/
def entry : Bme := Bme.seal { alloc := true, zero := false, pbn := 0, chk := 0 }

/-- Window 0 of logical device 0 of port 0, bound to the region. -/
def window : WindowDesc :=
  windowSeal { valid := true, foreign := false, w := true, r := true, state := 1, tenant := 0, region := 0, regionGen := 0, dpaBase := 0, length := 65536, regionOff := 0,
               rkey := 0, node := 0, conn := 0, check := 0 }

/-- Block 0 in frame 0 of T1, charged to tenant 0, its first unit present and clean. -/
def block : TBlock :=
  { state := .resident, leaveReq := false, charge := some 0, pins := [], units := [(0, freshUnit)], filling := [], region := 0, used := true, frame := 0 }

/-- After reset, the window, the region and the block stand, and CXL.mem is served. -/
def mapped : State :=
  { State.reset with
    xlt := { xltInit with regions := [(0, region)], bmap := [(bmeKey 0 0, entry)], windows := [(0, window)] },
    tier := { tierInit with blocks := [(0, block)] },
    hp := { hpInit with memoryActive := true } }

/-- Link 0 of port 0 is up with CXL, its logical device 0 is bound, group 0 is served, and DRAM channels 0 and 1 are in use. -/
def serving : State := (((((mapped.put HP.UP 1).put HP.CXL 1).put HP.BOUND 1).put TWN.SERVE 1).put DMC.PAIRS_USED 1).put PAN.STATE panDisabled

/-- The access of the window's first sector. -/
def access : Access := windowAccess window 0

/-- The place that the walk finds for it. -/
def place : Place64 := { region := 0, desc := region, blk := 0, bme := entry, sector := 0 }

/-- The write as the clause puts it to TIER: without the QoS of its port. -/
def request : WriteReq :=
  { tenant := 0, place := place, data := 1, enable := BitVec.allOnes 64, poison := false, alloc := true, whole := false, port := some (0, 0) }

/-- The states after check 2 of the window, the other checks, the walk, and the write. -/
def targeted : State := (serving.targetCheck (.local 0 (.window 0) access) 0).1
def checked : State := (targeted.checks access .host true).1
def walked : State := (checked.resolve 0 region 0).1
def written : State := (walked.tryWrite request).1

/-- Whether a result is a given value. -/
def gives {α : Type} [DecidableEq α] (r : Except Status α) (a : α) : Bool :=
  match r with
  | .ok b => b = a
  | .error _ => false

theorem eq_ok_of_gives {α : Type} [DecidableEq α] {r : Except Status α} {a : α} (h : gives r a = true) : r = .ok a := by
  cases r with
  | ok b => rw [of_decide_eq_true h]
  | error _ => cases h

theorem serving_regsOk : serving.regsOk := by
  have h : mapped.regsOk := trivial
  unfold serving
  iterate 6 apply State.regsOk_put
  exact h

/-- The QoS under which each write waits on subchannel 0 of channel 0. -/
def queuedFor (t : State) : List Nat := ((tget t.tier.writes 0).getD []).map QWrite.port

/-- The QoS of the writes that wait after an outcome: none where the machine does not go on. -/
def queuedAfter (o : Res) : List Nat :=
  match o with
  | .next t => queuedFor t
  | .fault _ | .refused _ => []

set_option maxRecDepth 10000 in
/-- The walk and the write, as the machine runs them. The write that the clause describes waits under 14, the QoS of no port; the host's, under its port's.
One evaluation serves them all. -/
theorem evaluated :
    gives (serving.targetCheck (.local 0 (.window 0) access) 0).2 (.local 0 (.window 0) access) = true ∧ gives (targeted.checks access .host true).2 region = true ∧
      gives (checked.resolve access.region region access.off).2 place = true ∧ walked.twn.handoff.contains region.grp = false ∧
      (walked.tier.held.any fun x => x.src == .port (Fin.ofNat 8 0)) = false ∧ (walked.tryWrite request).2 = .accepted none ∧
      queuedFor written = [14] ∧ queuedAfter (exec (.memwrptl 0 0 0 1 (BitVec.allOnes 64) false 0) serving) = [0] := by decide

/-- Refutes O7: the clause of an accepted write gives the tiers after a write to TIER without a QoS, but a host's write goes to TIER with that of its port, which its entry in
the DRAM write queue keeps (R290). -/
theorem not_cxlMemAccesses : ¬ Obligations.CxlMemAccesses := by
  unfold Obligations.CxlMemAccesses
  rintro ⟨-, -, -, -, -, accepted, -⟩
  obtain ⟨known, passes, mapped, stays, free, taken, described, happens⟩ := evaluated
  have checks : serving.targetCheck (.local 0 (.window 0) access) 0 = (targeted, .ok (.local 0 (.window 0) access)) := eq_pair (eq_ok_of_gives known)
  have walks : targeted.checks access .host true = (checked, .ok region) := eq_pair (eq_ok_of_gives passes)
  have finds : checked.resolve access.region region access.off = (walked, .ok place) := eq_pair (eq_ok_of_gives mapped)
  have writes : walked.tryWrite request = (written, .accepted none) := eq_pair taken
  obtain ⟨t, done, -, -, tier, -⟩ := accepted serving 0 0 0 1 (BitVec.allOnes 64) 0 _ 0 0 _ _ _ _ _ _ _ _ _ serving_regsOk (by decide) (by decide)
    (by decide) (by decide) (by decide) checks walks finds stays free writes
  rw [done] at happens
  have same : queuedFor t = queuedFor written := congrArg (fun x : TierState => ((tget x.writes 0).getD []).map QWrite.port) tier
  exact absurd (happens.symm.trans (same.trans described)) (by decide)

end Sys2Proof.Proofs.QueuedWrite
end

section
/-! SUPPORT. The XLT page's command registers, XLT_INVAL and XLT_REVOKE: a write that the page takes is the invalidation, or the revocation, that its word asks for. -/
namespace Sys2Proof.Machine

theorem slots_xltInval : slotsAt xltPage 0x120 4 = [(xltPage, XLT.SCOPE, 0, 0x120 * 8 + 28), (xltPage, XLT.INDEX, 0, 0x120 * 8)] := by decide
theorem slots_xltRevoke : slotsAt xltPage 0x128 4 = [(xltPage, XLT.XLT_REVOKE, 0, 0x128 * 8)] := by decide

theorem State.quiesceLatch_quiesced {s : State} (hr : s.regsOk) {p : Page} (h : s.quiesced p = true) : (s.quiesceLatch p).quiesced p = true := by
  have resting : (s.quiesceLatch p).resting p = s.resting p := by
    unfold State.resting
    rw [State.quiesceLatch_hdr hr p (by decide) (by decide)]
  obtain ⟨rests, came⟩ := Bool.and_eq_true_iff.mp h
  unfold State.quiesced
  rw [resting, rests, Bool.true_and]
  unfold State.quiesceLatch
  split
  · rw [State.rd_wr_same hr]
    rfl
  · exact came

/-- A write all of whose fields the checks let through, each of them a command, is the effects of those commands, in order. -/
theorem State.pageWrite_commands (s s1 : State) (r : Requester) (p : Page) (a n d : Nat) (ys : List FieldWrite) (h1 : s.quiesceLatch p = s1)
    (hm : s1.mayWrite r p = true) (hw : s1.writesAt p a n d = ys) (ht : ∀ y ∈ ys, s1.verdict r p y = .take) (hj : ∀ y ∈ ys, s1.jobBusy y = none)
    (hs : ∀ y ∈ ys, y.fld.stage = false) (hc : ∀ y ∈ ys, y.command = true) :
    s.pageWrite r p a n d = s1.captureBy (ys.foldl (State.effect r ys (capOf r (p.base + a) d)) s1) p (capOf r (p.base + a) d) := by
  have verdicts : ys.map (fun x => (x, s1.verdict r p x)) = ys.map fun x => (x, Verdict.take) := List.map_congr_left fun y hy => by rw [ht y hy]
  have taken : ((ys.map fun x => (x, Verdict.take)).filter fun v => v.2 == .take).map Prod.fst = ys := by
    rw [List.filter_eq_self.mpr (by simp), List.map_map]
    exact List.map_id ys
  have noErr : ∀ k, ((ys.map fun x => (x, Verdict.take)).any fun v => v.2 == .err k) = false := fun k => List.any_eq_false.mpr (by simp)
  have noJob : ys.findSome? s1.jobBusy = none := List.findSome?_eq_none_iff.mpr hj
  have free : ys.filter (fun x => (s1.jobBusy x).isNone) = ys := List.filter_eq_self.mpr fun y hy => by rw [hj y hy]; rfl
  have unstaged : ys.any (fun x => x.fld.stage) = false := List.any_eq_false.mpr fun y hy => by rw [hs y hy]; exact Bool.false_ne_true
  have noFields : ys.filter (fun x => !x.command) = [] := List.filter_eq_nil_iff.mpr fun y hy => by rw [hc y hy]; exact Bool.false_ne_true
  have commands : ys.filter (fun x => x.command) = ys := List.filter_eq_self.mpr hc
  unfold State.pageWrite
  rw [h1]
  simp only [hm, hw, verdicts, taken, noErr, noJob, free, unstaged, noFields, commands, Bool.not_true, Bool.false_eq_true, if_false, List.filter_cons, List.filter_nil,
    List.foldl_nil, Bool.and_false, Bool.false_and]

/-- A write of bits to the whole of a write-only field gives it those bits. -/
theorem State.before_wo_cleared (s : State) (p : Page) {f : Fld} (i : Nat) (hf : f.acc = .wo) :
    s.before p f i - (s.before p f i &&& (2 ^ f.width - 1)) = 0 := by
  have h : s.before p f i = s.rd p f i % 2 ^ f.width := by simp [State.before, hf]
  rw [h, Nat.and_two_pow_sub_one_eq_mod, Nat.mod_mod, Nat.sub_self]

/-- The warden's write of a write-only command of a page at rest is taken (R46, R53). -/
theorem State.verdict_command {s : State} {r : Requester} {p : Page} {y : FieldWrite} (hw : s.asWarden r = true) (hq : s.quiesced p = true) (hf : y.fld.acc = .wo)
    (hs : y.fld.stage = false) : s.verdict r p y = .take := by
  simp [State.verdict, FieldWrite.idle, hf, hw, hs, hq]

/-- What the three parts of `commands` say at the state whose block has come to rest. -/
theorem State.commands_latched {s : State} (hs : s.regsOk) {r : Requester} {p : Page} (h : s.commands r p) :
    (s.quiesceLatch p).mayWrite r p = true ∧ (s.quiesceLatch p).asWarden r = true ∧ (s.quiesceLatch p).quiesced p = true := by
  obtain ⟨⟨⟨-, -, may, -⟩, warden, -⟩, quiet⟩ := h
  exact ⟨(State.quiesceLatch_mayWrite hs p r).trans may, (State.quiesceLatch_asWarden hs p r).trans warden, State.quiesceLatch_quiesced hs quiet⟩

theorem State.effect_xltScope (r : Requester) (ys : List FieldWrite) (c : Capture) (s : State) (v m : Nat) :
    State.effect r ys c s ⟨xltPage, XLT.SCOPE, 0, v, m⟩ = s.inval v (valueIn ys XLT.INDEX 0) .none := by
  unfold State.effect State.blockEffect
  rw [if_neg (by decide : ¬ XLT.SCOPE.off < 0x100), if_neg (by decide : XLT.SCOPE ≠ SEQ.RAIL_WARN)]
  exact if_pos rfl
theorem State.effect_xltIndex (r : Requester) (ys : List FieldWrite) (c : Capture) (s : State) (v m : Nat) :
    State.effect r ys c s ⟨xltPage, XLT.INDEX, 0, v, m⟩ = s := by
  unfold State.effect State.blockEffect
  rw [if_neg (by decide : ¬ XLT.INDEX.off < 0x100), if_neg (by decide : XLT.INDEX ≠ SEQ.RAIL_WARN)]
  exact (if_neg (by decide : XLT.INDEX ≠ XLT.SCOPE)).trans (if_pos rfl)
theorem State.effect_xltRevoke (r : Requester) (ys : List FieldWrite) (c : Capture) (s : State) (v m : Nat) :
    State.effect r ys c s ⟨xltPage, XLT.XLT_REVOKE, 0, v, m⟩ = (s.revoke v).1 := by
  unfold State.effect State.blockEffect
  rw [if_neg (by decide : ¬ XLT.XLT_REVOKE.off < 0x100), if_neg (by decide : XLT.XLT_REVOKE ≠ SEQ.RAIL_WARN)]
  exact (if_neg (by decide : XLT.XLT_REVOKE ≠ XLT.SCOPE)).trans ((if_neg (by decide : XLT.XLT_REVOKE ≠ XLT.INDEX)).trans (if_pos rfl))

/-- A write of XLT_INVAL is the invalidation of its SCOPE and INDEX (R90, R97). -/
theorem State.write_xltInval {s : State} (hs : s.regsOk) {r : Requester} (h : s.commands r xltPage) (sc : BitVec 4) (i : BitVec 24) :
    ∃ c, s.regWrite r xltPage 0x120 4 (sc.toNat * 2 ^ 28 + i.toNat) =
      (s.quiesceLatch xltPage).captureBy ((s.quiesceLatch xltPage).inval sc.toNat i.toNat .none) xltPage c := by
  obtain ⟨may, warden, quiet⟩ := State.commands_latched hs h
  obtain ⟨⟨admitted, -, on⟩, -⟩ := h
  have hsc := sc.isLt
  have hi := i.isLt
  generalize sc.toNat = a at hsc ⊢
  generalize i.toNat = b at hi ⊢
  have scope : bitsFor (a * 2 ^ 28 + b) (0x120 * 8 + 28) 4 0x120 4 = a := by
    unfold bitsFor
    simp [Nat.shiftRight_eq_div_pow]
    omega
  have index : bitsFor (a * 2 ^ 28 + b) (0x120 * 8) 24 0x120 4 = b := by
    unfold bitsFor
    simp
    omega
  have writes : (s.quiesceLatch xltPage).writesAt xltPage 0x120 4 (a * 2 ^ 28 + b) = [⟨xltPage, XLT.SCOPE, 0, a, 2 ^ 4 - 1⟩, ⟨xltPage, XLT.INDEX, 0, b, 2 ^ 24 - 1⟩] := by
    unfold State.writesAt
    rw [slots_xltInval]
    simp only [List.map_cons, List.map_nil]
    rw [show XLT.SCOPE.width = 4 from rfl, show XLT.INDEX.width = 24 from rfl, scope, index,
      show bitsFor (2 ^ (4 * 8) - 1) (0x120 * 8 + 28) 4 0x120 4 = 2 ^ XLT.SCOPE.width - 1 by decide,
      show bitsFor (2 ^ (4 * 8) - 1) (0x120 * 8) 24 0x120 4 = 2 ^ XLT.INDEX.width - 1 by decide,
      State.before_wo_cleared _ _ _ rfl, State.before_wo_cleared _ _ _ rfl, Nat.zero_add, Nat.zero_add]
    rfl
  refine ⟨capOf r (xltPage.base + 0x120) (a * 2 ^ 28 + b), ?_⟩
  rw [State.regWrite_admitted admitted (by decide) (by decide) (by omega) (by simp [on]), State.pageWrite_commands s _ r xltPage 0x120 4 _ _ rfl may writes ?_ ?_ ?_ ?_,
    List.foldl_cons, List.foldl_cons, List.foldl_nil, State.effect_xltScope, State.effect_xltIndex]
  · rfl
  all_goals
    intro y hy
    rcases List.mem_pair.mp hy with rfl | rfl
  · exact State.verdict_command warden quiet rfl rfl
  · exact State.verdict_command warden quiet rfl rfl
  all_goals rfl

/-- A write of XLT_REVOKE is the revocation of its key (R92). -/
theorem State.write_xltRevoke {s : State} (hs : s.regsOk) {r : Requester} (h : s.commands r xltPage) (key : BitVec 32) :
    ∃ c, s.regWrite r xltPage 0x128 4 key.toNat = (s.quiesceLatch xltPage).captureBy ((s.quiesceLatch xltPage).revoke key.toNat).1 xltPage c := by
  obtain ⟨may, warden, quiet⟩ := State.commands_latched hs h
  obtain ⟨⟨admitted, -, on⟩, -⟩ := h
  have hk := key.isLt
  generalize key.toNat = k at hk ⊢
  have writes : (s.quiesceLatch xltPage).writesAt xltPage 0x128 4 k = [⟨xltPage, XLT.XLT_REVOKE, 0, k, 2 ^ 32 - 1⟩] := by
    unfold State.writesAt
    rw [slots_xltRevoke]
    simp only [List.map_cons, List.map_nil]
    rw [show XLT.XLT_REVOKE.width = 32 from rfl, bitsFor_word rfl hk,
      show bitsFor (2 ^ (4 * 8) - 1) (0x128 * 8) 32 0x128 4 = 2 ^ XLT.XLT_REVOKE.width - 1 by decide, State.before_wo_cleared _ _ _ rfl, Nat.zero_add]
    rfl
  refine ⟨capOf r (xltPage.base + 0x128) k, ?_⟩
  rw [State.regWrite_admitted admitted (by decide) (by decide) (by omega) (by simp [on]), State.pageWrite_commands s _ r xltPage 0x128 4 _ _ rfl may writes ?_ ?_ ?_ ?_,
    List.foldl_cons, List.foldl_nil, State.effect_xltRevoke]
  all_goals
    intro y hy
    obtain rfl := List.mem_singleton.mp hy
  · exact State.verdict_command warden quiet rfl rfl
  all_goals rfl

theorem State.quiesceLatch_xlt (s : State) (p : Page) : (s.quiesceLatch p).xlt = s.xlt := by
  unfold State.quiesceLatch
  split <;> rfl

/-! What XLT_INVAL of a defined scope does (R98): it runs, it waits, or it is ignored. -/

theorem State.inval_idle {s : State} {sc : Nat} (hsc : sc ≤ 5) (i : Nat) (w : InvalFor) (idle : s.xlt.invalBusy = none) : s.inval sc i w = s.invalRun ⟨sc, i, w⟩ := by
  unfold State.inval
  rw [if_neg (Nat.not_lt.mpr hsc), if_pos (by rw [idle]; rfl)]

theorem State.inval_busy {s : State} {sc : Nat} (hsc : sc ≤ 5) (i : Nat) (w : InvalFor) {b : Inval} (busy : s.xlt.invalBusy = some b)
    (room : s.xlt.invalQueue.length < 64) : s.inval sc i w = { s with xlt.invalQueue := s.xlt.invalQueue ++ [⟨sc, i, w⟩] } := by
  unfold State.inval
  rw [if_neg (Nat.not_lt.mpr hsc), if_neg (by simp [busy]), if_pos room]

theorem State.inval_full {s : State} {sc : Nat} (hsc : sc ≤ 5) (i : Nat) {b : Inval} (busy : s.xlt.invalBusy = some b)
    (full : 64 ≤ s.xlt.invalQueue.length) : s.inval sc i .none = s.blkErr xltPage 16 4 := by
  unfold State.inval
  rw [if_neg (Nat.not_lt.mpr hsc), if_neg (by simp [busy]), if_neg (Nat.not_lt.mpr full)]
  exact if_pos rfl

theorem State.invalRun_errStat {s : State} (hs : s.regsOk) (i : Inval) (p : Page) : (s.invalRun i).rd p HDR.ERR_STAT = s.rd p HDR.ERR_STAT :=
  State.rd_wr_ne (s := { s with xlt := _ }) hs _ (Fld.key_ne_place (by decide) (by decide) (by decide))

theorem exec_xltInval_idle {s : State} (hs : s.regsOk) {r : Requester} (h : s.commands r xltPage) {sc : BitVec 4} (i : BitVec 24) (hsc : sc.toNat ≤ 5)
    (idle : s.xlt.invalBusy = none) : exec (.xltInval r sc i) s = .next ((s.quiesceLatch xltPage).invalRun ⟨sc.toNat, i.toNat, .none⟩) := by
  obtain ⟨c, write⟩ := State.write_xltInval hs h sc i
  rw [State.inval_idle hsc _ _ ((congrArg _ (State.quiesceLatch_xlt s xltPage)).trans idle), State.captureBy_same] at write
  · exact congrArg Host.Outcome.next write
  · exact (State.invalRun_errStat (State.quiesceLatch_ok hs _) _ _).trans

theorem exec_xltInval_busy {s : State} (hs : s.regsOk) {r : Requester} (h : s.commands r xltPage) {sc : BitVec 4} (i : BitVec 24) (hsc : sc.toNat ≤ 5) {b : Inval}
    (busy : s.xlt.invalBusy = some b) (room : s.xlt.invalQueue.length < 64) :
    exec (.xltInval r sc i) s = .next { s.quiesceLatch xltPage with xlt := { s.xlt with invalQueue := s.xlt.invalQueue ++ [⟨sc.toNat, i.toNat, .none⟩] } } := by
  obtain ⟨c, write⟩ := State.write_xltInval hs h sc i
  have same := State.quiesceLatch_xlt s xltPage
  rw [State.inval_busy hsc _ _ (same ▸ busy) (same ▸ room)] at write
  exact congrArg Host.Outcome.next (write.trans ((State.captureBy_same (fun clear => clear) c).trans
    (congrArg (fun x : XltState => { s.quiesceLatch xltPage with xlt := { x with invalQueue := x.invalQueue ++ [⟨sc.toNat, i.toNat, .none⟩] } }) same)))

theorem exec_xltInval_full {s : State} (hs : s.regsOk) {r : Requester} (h : s.commands r xltPage) {sc : BitVec 4} (i : BitVec 24) (hsc : sc.toNat ≤ 5) {b : Inval}
    (busy : s.xlt.invalBusy = some b) (full : 64 ≤ s.xlt.invalQueue.length) :
    ∃ c, exec (.xltInval r sc i) s = .next ((s.quiesceLatch xltPage).captureBy ((s.quiesceLatch xltPage).blkErr xltPage 16 4) xltPage c) := by
  obtain ⟨c, write⟩ := State.write_xltInval hs h sc i
  have same := State.quiesceLatch_xlt s xltPage
  rw [State.inval_full hsc _ (same ▸ busy) (same ▸ full)] at write
  exact ⟨c, congrArg Host.Outcome.next write⟩

/-- XLT_INVAL while BUSY waits, and nothing but the queue and QUIESCED changes. -/
theorem xltInval_busy_frame {s : State} (hs : s.regsOk) (x : XltState) :
    s.frame { s.quiesceLatch xltPage with xlt := x } [.regs, .xlt] [HDR.QUIESCED] :=
  (State.Keeps.upd_xlt ((State.quiesceLatch_keeps s xltPage).mono (m := ⟨[.regs, .xlt], some [HDR.QUIESCED]⟩) (by decide)) (by decide)).frame hs (by decide)

/-- XLT_INVAL with 64 waiting sets INVAL_OVF, and is otherwise ignored. -/
theorem xltInval_full_spec {s : State} (hs : s.regsOk) (c : Capture) :
    let t := (s.quiesceLatch xltPage).captureBy ((s.quiesceLatch xltPage).blkErr xltPage 16 4) xltPage c
    t.xlt = s.xlt ∧ bit (t.rd xltPage HDR.ERR_STAT) 16 = true ∧ s.frame t reported (HDR.QUIESCED :: reportedFields) := by
  have ok := State.quiesceLatch_ok hs xltPage
  have kept : State.Keeps ⟨reported, some (HDR.QUIESCED :: reportedFields)⟩ s
      ((s.quiesceLatch xltPage).captureBy ((s.quiesceLatch xltPage).blkErr xltPage 16 4) xltPage c) :=
    (State.captureBy_keeps ..).step ((State.blkErr_keeps ..).step ((State.quiesceLatch_keeps s xltPage).mono (by decide)) (by decide)) (by decide)
  refine ⟨kept.kept .xlt (by decide), ?_, kept.frame hs (by decide)⟩
  rw [State.captureBy_errStat ((State.blkErr_rep _ (by decide) _ _ _ _).ok ok)]
  exact State.blkErr_bit ok (by decide) (by decide) _ _ _

/-- Settles O45: the write waits behind those that wait, or, with 64 waiting, is ignored and flagged. -/
theorem invalidationQueueStated : Obligations.InvalidationQueueStated := by
  unfold Obligations.InvalidationQueueStated
  refine ⟨?_, ?_⟩
  case refine_1 =>
    intro s r sc i b hs h hsc busy room
    exact ⟨_, exec_xltInval_busy hs h i hsc busy room, rfl, busy, rfl, xltInval_busy_frame hs _⟩
  case refine_2 =>
    intro s r sc i b hs h hsc busy full
    obtain ⟨c, done⟩ := exec_xltInval_full hs h i hsc busy full
    exact ⟨_, done, xltInval_full_spec hs c⟩

end Sys2Proof.Machine
end

section
/-! SUPPORT. Translation: the caches, the end of an invalidation and what waits for it, registrations, extents that are released. -/
namespace Sys2Proof.Machine

theorem mem_of_tget {α : Type} {t : Table α} {k : Nat} {v : α} (h : tget t k = some v) : (k, v) ∈ t := by
  induction t with
  | nil => cases h
  | cons e t ih =>
    obtain ⟨j, w⟩ := e
    simp only [tget] at h
    split at h
    · rename_i same
      cases h
      exact same ▸ List.mem_cons_self
    · exact List.mem_cons_of_mem _ (ih h)

theorem State.ld_putLd_same (s : State) (p l : Nat) (x : LdState) : (s.putLd p l x).ld p l = x := by
  unfold State.putLd State.ld
  split
  · rename_i empty
    simp [empty]
  · simp

/-! ## The end of an invalidation (R90, R98) -/

/-- The running invalidation is over, and counted. -/
def State.invalOver (s : State) : State := (({ s with xlt.invalBusy := none }).put XLT.BUSY 0).incMod XLT.DONE_COUNT

/-- The first of those that wait runs, and a place in the queue goes to what the warden issues again. -/
def State.invalNext (s : State) : State :=
  match s.xlt.invalQueue ++ s.xlt.invalRetry.take 1 with
  | [] => s
  | j :: r => ({ s with xlt := { s.xlt with invalQueue := r, invalRetry := s.xlt.invalRetry.drop 1 } } : State).invalRun j

theorem State.invalDone_eq {s : State} {i : Inval} (busy : s.xlt.invalBusy = some i) : s.invalDone = (s.invalOver.invalFor i.waiter).invalNext := by
  unfold State.invalDone
  rw [busy]
  rfl

theorem exec_xltInvalComplete {s : State} {i : Inval} (busy : s.xlt.invalBusy = some i) :
    exec .xltInvalComplete s = .next ((s.invalOver.invalFor i.waiter).invalNext.regionAfter i.waiter) := by
  show execXltInvalComplete s = _
  unfold execXltInvalComplete
  rw [busy, State.invalDone_eq busy]

theorem State.invalOver_keeps (s : State) : State.Keeps ⟨[.regs, .xlt], some [XLT.BUSY, XLT.DONE_COUNT]⟩ s s.invalOver :=
  State.Keeps.put (State.Keeps.put ((State.Keeps.refl _ _).upd_xlt (by decide)) _ _ _ _ (by decide)) _ _ _ _ (by decide)

theorem State.invalNext_keeps (s : State) : State.Keeps State.invalRun_scope s s.invalNext := by
  unfold State.invalNext
  split
  · exact State.Keeps.refl _ _
  · exact (State.invalRun_keeps _ _).step ((State.Keeps.refl _ _).upd_xlt (by decide)) (by decide)

theorem State.invalOver_count {s : State} (hs : s.regsOk) : s.invalOver.get XLT.DONE_COUNT = (s.get XLT.DONE_COUNT + 1) % 2 ^ 16 := by
  have ok : ({ s with xlt.invalBusy := none } : State).regsOk := hs
  unfold State.invalOver State.incMod
  rw [State.get_put_same (State.regsOk_put ok _ _ _ _), State.get_put_ne ok _ (by decide)]
  rfl

theorem State.invalOver_idle {s : State} (hs : s.regsOk) : s.invalOver.get XLT.BUSY = 0 := by
  have ok : ({ s with xlt.invalBusy := none } : State).regsOk := hs
  unfold State.invalOver State.incMod
  rw [State.get_put_ne (State.regsOk_put ok _ _ _ _) _ (by decide), State.get_put_fit ok _ _ _ (by decide)]

theorem State.invalRun_busy {s : State} (hs : s.regsOk) (i : Inval) : (s.invalRun i).get XLT.BUSY = 1 := by
  have ok : ({ s with xlt.caches := s.xlt.caches.filter fun e => !s.invalHits i.scope i.index e,
                      xlt.fills := s.xlt.fills.filter fun e => !s.invalHits i.scope i.index e, xlt.invalBusy := some i } : State).regsOk := hs
  exact State.get_put_fit ok _ _ _ (by decide)

theorem State.invalNext_count {s : State} (hs : s.regsOk) : s.invalNext.get XLT.DONE_COUNT = s.get XLT.DONE_COUNT := by
  unfold State.invalNext
  split
  · rfl
  · exact State.get_put_ne (s := { s with xlt := _ }) hs _ (by decide)

theorem State.invalNext_none {s : State} (hq : s.xlt.invalQueue = []) (hr : s.xlt.invalRetry = []) : s.invalNext = s := by
  unfold State.invalNext
  rw [hq, hr]
  rfl

theorem State.invalNext_some {s : State} {j : Inval} {q : List Inval} (hq : s.xlt.invalQueue = j :: q) :
    s.invalNext = ({ s with xlt := { s.xlt with invalQueue := q ++ s.xlt.invalRetry.take 1, invalRetry := s.xlt.invalRetry.drop 1 } } : State).invalRun j := by
  unfold State.invalNext
  rw [hq]
  rfl

/-- The invalidation that starts touches neither extents nor the block map. -/
theorem State.invalNext_tables (s : State) : s.invalNext.xlt.extents = s.xlt.extents ∧ s.invalNext.xlt.bmap = s.xlt.bmap := by
  unfold State.invalNext
  split <;> exact ⟨rfl, rfl⟩

/-! ## The end of an extent's release (R79, R130) -/

/-- The release is reported, and the Fabric Manager's request for it answered. -/
def State.releaseReported (s : State) (e : Nat) (d : Extent) : State :=
  let told := s.emit (.device "DC_RELEASED" [d.port, d.ld, e, d.dpaBase, d.length])
  if (s.ld d.port d.ld).fmRelease.contains e then
    (told.putLd d.port d.ld { s.ld d.port d.ld with fmRelease := (s.ld d.port d.ld).fmRelease.filter fun x => x != e }).emit
      (.fm "INITIATE_DYNAMIC_CAPACITY_RELEASE" .success [e])
  else told

/-- The extent leaves the Release DC that waits for it, which is answered with its last one. -/
def State.releaseEnded (s : State) (e p l : Nat) : State :=
  match (s.ld p l).release with
  | some es =>
    if !es.contains e then s else
    let rest := es.filter fun x => x != e
    let s := s.putLd p l { s.ld p l with release := if rest.isEmpty then none else some rest }
    if rest.isEmpty then s.emit (.mailbox p l 0x4803 .success []) else s
  | none => s

theorem State.extentGone_eq {s : State} {e : Nat} {d : Extent} (h : tget s.xlt.extents e = some d) :
    s.extentGone e = (s.releaseReported e d).releaseEnded e d.port d.ld := by
  unfold State.extentGone
  rw [h]
  rfl

theorem State.releaseReported_out (s : State) (e : Nat) (d : Extent) : (s.releaseReported e d).out = s.out ++ s.releaseTold e d := by
  unfold State.releaseReported State.releaseTold
  dsimp only
  by_cases asked : (s.ld d.port d.ld).fmRelease.contains e = true
  · rw [if_pos asked, if_pos asked]
    exact List.append_assoc ..
  · rw [if_neg asked, if_neg asked]
    rfl

theorem State.releaseReported_ld (s : State) (e : Nat) (d : Extent) :
    (s.releaseReported e d).ld d.port d.ld = { s.ld d.port d.ld with fmRelease := (s.ld d.port d.ld).fmRelease.filter fun x => x != e } := by
  unfold State.releaseReported
  dsimp only
  by_cases asked : (s.ld d.port d.ld).fmRelease.contains e = true
  · rw [if_pos asked]
    exact State.ld_putLd_same ..
  · rw [if_neg asked]
    have same : (s.ld d.port d.ld).fmRelease.filter (fun x => x != e) = (s.ld d.port d.ld).fmRelease :=
      List.filter_eq_self.mpr fun x hx => bne_iff_ne.mpr fun c => asked (List.contains_iff_mem.mpr (c ▸ hx))
    rw [same]
    rfl

theorem State.releaseEnded_none {s : State} {e p l : Nat} (h : (s.ld p l).release = none) : s.releaseEnded e p l = s := by
  unfold State.releaseEnded
  rw [h]

theorem State.releaseEnded_last {s : State} {e p l : Nat} (h : (s.ld p l).release = some [e]) :
    s.releaseEnded e p l = (s.putLd p l { s.ld p l with release := none }).emit (.mailbox p l 0x4803 .success []) := by
  unfold State.releaseEnded
  rw [h]
  simp

theorem State.releaseEnded_fmRelease (s : State) (e p l : Nat) : ((s.releaseEnded e p l).ld p l).fmRelease = (s.ld p l).fmRelease := by
  unfold State.releaseEnded
  split
  · dsimp only
    split_ifs
    · rfl
    · exact (congrArg LdState.fmRelease (State.ld_putLd_same s p l _)).trans rfl
    · exact (congrArg LdState.fmRelease (State.ld_putLd_same s p l _)).trans rfl
  · rfl

/-- A Release DC that waits for other extents too goes on waiting for these. -/
theorem State.releaseEnded_more {s : State} {e p l : Nat} {es : List Nat} (h : (s.ld p l).release = some es) (more : ∃ x ∈ es, x ≠ e) :
    (∀ x, (∃ k, ((s.releaseEnded e p l).ld p l).release = some k ∧ x ∈ k) ↔ x ∈ es ∧ x ≠ e) ∧ (s.releaseEnded e p l).out = s.out := by
  obtain ⟨y, hy, ne⟩ := more
  have rest : (es.filter fun x => x != e).isEmpty = false := by
    rw [List.isEmpty_eq_false_iff]
    exact List.ne_nil_of_mem (List.mem_filter.mpr ⟨hy, bne_iff_ne.mpr ne⟩)
  unfold State.releaseEnded
  rw [h]
  dsimp only
  by_cases waits : es.contains e = true
  · rw [waits, rest]
    simp only [Bool.not_true, Bool.false_eq_true, if_false]
    refine ⟨fun x => ?_, rfl⟩
    rw [State.ld_putLd_same]
    simp
  · rw [Bool.not_eq_true] at waits
    rw [waits]
    simp only [Bool.not_false, if_true]
    refine ⟨fun x => ?_, trivial⟩
    have absent : e ∉ es := fun c => absurd (List.contains_iff_mem.mpr c) (by rw [waits]; decide)
    rw [h]
    exact ⟨fun ⟨k, hk, hx⟩ => ⟨Option.some.inj hk ▸ hx, fun c => absent (c ▸ Option.some.inj hk ▸ hx)⟩, fun ⟨hx, _⟩ => ⟨es, rfl, hx⟩⟩

end Sys2Proof.Machine
end

section
/-! SUPPORT. The commands of translation: what each leaves, and what it leaves unchanged. -/
namespace Sys2Proof.Machine

/-! ## Registrations (R92, R96) -/

theorem State.registrationAt_put_same (s : State) (i : Nat) (d : Registration) : (s.putRegistration i d).registrationAt i = d := by
  unfold State.registrationAt State.putRegistration
  rw [tget_tset_same]
  rfl

theorem State.registrationFree_registrations (s : State) (i : Nat) (d : Registration) :
    (s.registrationFree i d).xlt.registrations = tset s.xlt.registrations i { d with state := .free, inflight := 0, freedAt := some s.timeNs } := by
  show (State.occur _ _ _ _ _).xlt.registrations = _
  rw [State.occur_xlt]
  rfl

theorem State.registrationFree_sweep (s : State) (i : Nat) (d : Registration) : (s.registrationFree i d).xlt.sweep = s.xlt.sweep := by
  show (State.occur _ _ _ _ _).xlt.sweep = _
  rw [State.occur_xlt]
  rfl

theorem State.registrationFree_at (s : State) (i : Nat) (d : Registration) :
    (s.registrationFree i d).registrationAt i = { d with state := .free, inflight := 0, freedAt := some s.timeNs } := by
  unfold State.registrationAt
  rw [State.registrationFree_registrations, tget_tset_same]
  rfl

/-- A current OPEN key whose registration has messages in flight: CLOSING. -/
theorem State.revoke_inflight {s : State} {key : Nat} {d : Registration} (h : s.registrationAt (keyIndex key) = d) (gen : d.gen = keyGen key) (opened : d.state = .opened)
    (busy : d.inflight ≠ 0) : s.revoke key = (s.putRegistration (keyIndex key) { d with state := .closing, revokeStamp := s.timeNs }, .ok) := by
  unfold State.revoke
  simp [h, gen, opened, busy]

/-- One with nothing in flight: FREE. -/
theorem State.revoke_idle {s : State} {key : Nat} {d : Registration} (h : s.registrationAt (keyIndex key) = d) (gen : d.gen = keyGen key) (opened : d.state = .opened)
    (idle : d.inflight = 0) : s.revoke key = ((s.putRegistration (keyIndex key) { d with state := .closing, revokeStamp := s.timeNs }).registrationFree (keyIndex key)
      { d with state := .closing, revokeStamp := s.timeNs }, .ok) := by
  unfold State.revoke
  simp [h, gen, opened, idle]

/-- The sweep: what was CLOSING is FREE. -/
def State.swept (s : State) (l : Table Registration) : State :=
  l.foldl (fun s e => if e.2.state = .closing then s.registrationFree e.1 { e.2 with inflight := 0 } else s) s

/-- The sweep of a list that names every CLOSING registration leaves none CLOSING. -/
theorem State.swept_closing (l : Table Registration) (s : State) (all : ∀ i d, tget s.xlt.registrations i = some d → d.state = .closing → (i, d) ∈ l) :
    ∀ i d, tget (s.swept l).xlt.registrations i = some d → d.state ≠ .closing := by
  induction l generalizing s with
  | nil => exact fun i d h c => absurd (all i d h c) List.not_mem_nil
  | cons e l ih =>
    show ∀ i d, tget (State.swept (if e.2.state = .closing then s.registrationFree e.1 { e.2 with inflight := 0 } else s) l).xlt.registrations i = some d → _
    by_cases closing : e.2.state = .closing
    · rw [if_pos closing]
      refine ih _ fun i d h c => ?_
      rw [State.registrationFree_registrations] at h
      by_cases same : i = e.1
      · subst same
        rw [tget_tset_same] at h
        cases h
        cases c
      · rw [tget_tset_ne _ _ same] at h
        rcases List.mem_cons.mp (all i d h c) with eq | mem
        · exact absurd (congrArg Prod.fst eq) same
        · exact mem
    · rw [if_neg closing]
      refine ih s fun i d h c => ?_
      rcases List.mem_cons.mp (all i d h c) with rfl | mem
      · exact absurd c closing
      · exact mem

theorem State.swept_sweep (l : Table Registration) (s : State) : (s.swept l).xlt.sweep = s.xlt.sweep := by
  unfold State.swept
  refine foldl_same (fun s : State => s.xlt.sweep) _ (fun s e => ?_) l s
  split
  · exact State.registrationFree_sweep ..
  · rfl

/-! ## Extents (R79) -/

/-- The release of an ACTIVE extent while no invalidation runs: RELEASING, and its invalidation runs. -/
theorem State.extentRelease_idle {s : State} {e : Nat} {d : Extent} (h : tget s.xlt.extents e = some d) (active : d.state = .active) (idle : s.xlt.invalBusy = none) :
    s.extentRelease e = ({ s with xlt.extents := tset s.xlt.extents e (Extent.seal { d with state := .releasing, listed := false }) } : State).invalRun ⟨2, e, .extent e⟩ := by
  unfold State.extentRelease
  rw [h]
  dsimp only
  rw [if_pos active]
  exact State.inval_idle (by decide) _ _ idle

theorem State.extentRelease_extent {s : State} {e : Nat} {d : Extent} (h : tget s.xlt.extents e = some d) (active : d.state = .active) (idle : s.xlt.invalBusy = none) :
    tget (s.extentRelease e).xlt.extents e = some (Extent.seal { d with state := .releasing, listed := false }) ∧
      (s.extentRelease e).xlt.invalBusy = some ⟨2, e, .extent e⟩ ∧ (s.extentRelease e).hp = s.hp := by
  rw [State.extentRelease_idle h active idle]
  exact ⟨tget_tset_same .., rfl, rfl⟩

theorem State.extentRelease_keeps_idle {s : State} {e : Nat} {d : Extent} (h : tget s.xlt.extents e = some d) (active : d.state = .active) (idle : s.xlt.invalBusy = none) :
    State.Keeps State.invalRun_scope s (s.extentRelease e) := by
  rw [State.extentRelease_idle h active idle]
  exact (State.invalRun_keeps _ _).step ((State.Keeps.refl _ _).upd_xlt (by decide)) (by decide)

theorem State.ldExtents_active {s : State} {p l e : Nat} {d : Extent} (h : (e, d) ∈ s.ldExtents p l) : d.state = .active := by
  have h := (List.mem_filter.mp h).2
  exact (of_decide_eq_true h).2.2

/-! ## The clauses -/

theorem exec_descriptorRefetch {s : State} {k : XKey} {e : CacheEntry} {c : XCopy} (hs : s.regsOk) (cached : s.xCached k = some e) (bad : e.copy.ok = false)
    (dram : s.xDram k = some c) (good : c.ok = true) :
    ∃ t, exec (.descriptorRefetch k) s = .next t ∧ t.xlt.caches = s.xlt.caches.map (fun (e : CacheEntry) => if e.key == k then { e with copy := c } else e) ∧
      s.frame t ([.xlt] ++ reported) reportedFields := by
  have done : exec (.descriptorRefetch k) s = .next (s.refetch k).1 := by
    show execDescriptorRefetch k s = _
    unfold execDescriptorRefetch
    rw [cached]
    dsimp only
    rw [bad]
    rfl
  refine ⟨_, done, ?_, (State.refetch_keeps s k).frame hs (by decide)⟩
  unfold State.refetch
  rw [dram]
  dsimp only
  rw [if_pos good]
  exact congrArg XltState.caches (State.misc_xlt ..)

theorem exec_xltMissFill {s : State} {k : XKey} {e : CacheEntry} (found : (s.xlt.fills.find? fun e => e.key == k) = some e)
    (room : (s.xlt.caches.filter fun x => !(x.key == k) && x.key.cls == k.cls).length < k.capacity) :
    ∃ t, exec (.xltMissFill k) s = .next t ∧ t.xlt.caches = (s.xlt.caches.filter fun x => !(x.key == k)) ++ [e] ∧ (∀ x ∈ t.xlt.fills, x.key ≠ k) ∧ s.keptBut t [.xlt] := by
  obtain rfl : e.key = k := by simpa using List.find?_some found
  have mine : ((s.xlt.caches.filter fun x => !(x.key == e.key)).filter fun x => x.key.cls == e.key.cls).length < e.key.capacity := by
    rw [List.filter_filter]
    exact (congrArg List.length (List.filter_congr fun x _ => Bool.and_comm _ _)).trans_lt room
  have done : exec (.xltMissFill e.key) s =
      .next { s with xlt := { s.xlt with fills := s.xlt.fills.filter fun x => !(x.key == e.key), caches := (s.xlt.caches.filter fun x => !(x.key == e.key)) ++ [e] } } := by
    show execXltMissFill e.key s = _
    unfold execXltMissFill
    rw [found]
    dsimp only
    unfold State.xInstall
    exact congrArg Host.Outcome.next (if_pos mine)
  refine ⟨_, done, rfl, fun x hx same => ?_, fun p hp => ?_⟩
  · have kept := (List.mem_filter.mp hx).2
    rw [same] at kept
    simp at kept
  · cases p <;> first | rfl | exact absurd List.mem_cons_self hp

theorem xltInval_runs {s : State} (hs : s.regsOk) {r : Requester} (h : s.commands r xltPage) {sc : BitVec 4} (i : BitVec 24) (hsc : sc.toNat ≤ 5) (idle : s.xlt.invalBusy = none) :
    ∃ t, exec (.xltInval r sc i) s = .next t ∧ t.xlt.invalBusy = some ⟨sc.toNat, i.toNat, .none⟩ ∧ t.get XLT.BUSY = 1 ∧
      (∀ e ∈ t.xlt.caches, s.invalHits sc.toNat i.toNat e = false) ∧ (∀ e ∈ t.xlt.fills, s.invalHits sc.toNat i.toNat e = false) ∧
      (∀ e ∈ s.xlt.caches, s.invalHits sc.toNat i.toNat e = false → e ∈ t.xlt.caches) ∧ s.frame t [.regs, .xlt] [XLT.BUSY, HDR.QUIESCED] := by
  have same := State.quiesceLatch_xlt s xltPage
  have hits : ∀ e, (s.quiesceLatch xltPage).invalHits sc.toNat i.toNat e = s.invalHits sc.toNat i.toNat e := fun e => by
    unfold State.invalHits State.copyTenant State.regionAt
    rw [same]
  have kept : ∀ l : List CacheEntry, ∀ e, e ∈ (l.filter fun e => !(s.quiesceLatch xltPage).invalHits sc.toNat i.toNat e) ↔ e ∈ l ∧ s.invalHits sc.toNat i.toNat e = false :=
    fun l e => by simp [List.mem_filter, hits]
  refine ⟨_, exec_xltInval_idle hs h i hsc idle, rfl, State.invalRun_busy (State.quiesceLatch_ok hs _) _, fun e he => ((kept _ e).mp he).2, fun e he => ((kept _ e).mp he).2,
    fun e he miss => (kept _ e).mpr ⟨same ▸ he, miss⟩, ?_⟩
  exact ((State.invalRun_keeps _ _).step ((State.quiesceLatch_keeps s xltPage).mono (m := ⟨[.regs, .xlt], some [XLT.BUSY, HDR.QUIESCED]⟩) (by decide)) (by decide)).frame hs (by decide)

/-- A completion for which nothing waits. -/
theorem xltInvalComplete_none {s : State} {i : Inval} (hs : s.regsOk) (busy : s.xlt.invalBusy = some i) (w : i.waiter = .none) :
    ∃ t, exec .xltInvalComplete s = .next t ∧ t.get XLT.DONE_COUNT = (s.get XLT.DONE_COUNT + 1) % 2 ^ 16 ∧
      (s.xlt.invalQueue = [] → s.xlt.invalRetry = [] → t.xlt.invalBusy = none ∧ t.get XLT.BUSY = 0) ∧
      (∀ j q, s.xlt.invalQueue = j :: q → t.xlt.invalBusy = some j ∧ t.xlt.invalQueue = q ++ s.xlt.invalRetry.take 1 ∧ t.xlt.invalRetry = s.xlt.invalRetry.drop 1 ∧ t.get XLT.BUSY = 1) ∧
      s.frame t [.regs, .xlt] [XLT.BUSY, XLT.DONE_COUNT] := by
  have done := exec_xltInvalComplete busy
  rw [w] at done
  have ok := s.invalOver_keeps.ok hs
  refine ⟨_, done, (State.invalNext_count ok).trans (State.invalOver_count hs), fun hq hr => ?_, fun j q hq => ?_, ?_⟩
  · show s.invalOver.invalNext.xlt.invalBusy = none ∧ s.invalOver.invalNext.get XLT.BUSY = 0
    rw [State.invalNext_none (s := s.invalOver) hq hr]
    exact ⟨rfl, State.invalOver_idle hs⟩
  · show s.invalOver.invalNext.xlt.invalBusy = _ ∧ s.invalOver.invalNext.xlt.invalQueue = _ ∧ s.invalOver.invalNext.xlt.invalRetry = _ ∧ s.invalOver.invalNext.get XLT.BUSY = _
    rw [State.invalNext_some (s := s.invalOver) hq]
    exact ⟨rfl, rfl, rfl, State.invalRun_busy (s := { s.invalOver with xlt := _ }) ok j⟩
  · exact (s.invalOver.invalNext_keeps.step s.invalOver_keeps (by decide)).frame hs (by decide)

/-- A completion for which the release of an extent waits. -/
theorem xltInvalComplete_extent {s : State} {i : Inval} {e : Nat} {d : Extent} (hs : s.regsOk) (busy : s.xlt.invalBusy = some i) (w : i.waiter = .extent e)
    (h : tget s.xlt.extents e = some d) :
    ∃ t, exec .xltInvalComplete s = .next t ∧ tget t.xlt.extents e = some (Extent.seal { d with state := .free }) ∧
      (t.ld d.port d.ld).fmRelease = ((s.ld d.port d.ld).fmRelease.filter fun x => x != e) ∧
      ((s.ld d.port d.ld).release = some [e] → (t.ld d.port d.ld).release = none ∧ t.out = s.out ++ s.releaseTold e d ++ [.mailbox d.port d.ld 0x4803 .success []]) ∧
      ((s.ld d.port d.ld).release = none → t.out = s.out ++ s.releaseTold e d) ∧
      (∀ l, (s.ld d.port d.ld).release = some l → (∃ x ∈ l, x ≠ e) → (∀ x, (∃ k, (t.ld d.port d.ld).release = some k ∧ x ∈ k) ↔ x ∈ l ∧ x ≠ e) ∧ t.out = s.out ++ s.releaseTold e d) ∧
      s.frame t [.regs, .xlt, .hp, .out] [XLT.BUSY, XLT.DONE_COUNT] := by
  let z := (s.invalOver.invalFor (.extent e)).invalNext
  have freed : tget z.xlt.extents e = some (Extent.seal { d with state := .free }) := by
    show tget (s.invalOver.invalFor (.extent e)).invalNext.xlt.extents e = _
    rw [(State.invalNext_tables _).1]
    show tget (tmod s.xlt.extents e _) e = _
    unfold tmod
    rw [h]
    exact tget_tset_same ..
  have keeps : State.Keeps ⟨[.regs, .xlt, .hp, .out], some [XLT.BUSY, XLT.DONE_COUNT]⟩ s z :=
    (State.invalNext_keeps _).step ((s.invalOver_keeps.mono (by decide)).upd_xlt (by decide)) (by decide)
  have hp : z.hp = s.hp := (State.invalNext_keeps (s.invalOver.invalFor (.extent e))).kept .hp (by decide)
  have out : z.out = s.out := (State.invalNext_keeps (s.invalOver.invalFor (.extent e))).kept .out (by decide)
  have ld : z.ld d.port d.ld = s.ld d.port d.ld := congrArg (fun x : HpState => (tget x.lds (ldKey d.port d.ld)).getD noLd) hp
  have told : z.releaseTold e (Extent.seal { d with state := .free }) = s.releaseTold e d := by
    unfold State.releaseTold
    exact congrArg (fun x : LdState => _ :: if x.fmRelease.contains e then _ else _) ld
  have done := exec_xltInvalComplete busy
  rw [w] at done
  have gone : z.extentGone e = (z.releaseReported e (Extent.seal { d with state := .free })).releaseEnded e d.port d.ld := State.extentGone_eq freed
  replace done : exec .xltInvalComplete s = .next ((z.releaseReported e (Extent.seal { d with state := .free })).releaseEnded e d.port d.ld) :=
    done.trans (congrArg Host.Outcome.next gone)
  have reportedLd : (z.releaseReported e (Extent.seal { d with state := .free })).ld d.port d.ld =
      { s.ld d.port d.ld with fmRelease := (s.ld d.port d.ld).fmRelease.filter fun x => x != e } :=
    (z.releaseReported_ld e (Extent.seal { d with state := .free })).trans
      (congrArg (fun x : LdState => { x with fmRelease := x.fmRelease.filter fun x => x != e }) ld)
  have reportedOut : (z.releaseReported e (Extent.seal { d with state := .free })).out = s.out ++ s.releaseTold e d := by
    rw [State.releaseReported_out, told, out]
  refine ⟨_, done, ?_, ?_, fun last => ?_, fun none => ?_, fun l waits more => ?_, ?_⟩
  · rw [← gone]
    exact (congrArg (fun x : XltState => tget x.extents e) ((z.extentGone_keeps e).kept .xlt (by decide))).trans freed
  · rw [State.releaseEnded_fmRelease, reportedLd]
  · rw [State.releaseEnded_last (by rw [reportedLd]; exact last)]
    refine ⟨?_, congrArg (· ++ _) reportedOut⟩
    exact (congrArg LdState.release (State.ld_putLd_same _ d.port d.ld _)).trans rfl
  · rw [State.releaseEnded_none (by rw [reportedLd]; exact none), reportedOut]
  · obtain ⟨left, same⟩ := State.releaseEnded_more (s := z.releaseReported e (Extent.seal { d with state := .free })) (e := e) (p := d.port) (l := d.ld) (es := l)
      (by rw [reportedLd]; exact waits) more
    exact ⟨left, same.trans reportedOut⟩
  · rw [← gone]
    exact ((z.extentGone_keeps e).step keeps (by decide)).frame hs (by decide)

/-- A completion for which a REGION_CREATE waits. -/
theorem xltInvalComplete_create {s : State} {i : Inval} {q c h : Nat} (hs : s.regsOk) (busy : s.xlt.invalBusy = some i) (w : i.waiter = .create q c h) :
    ∃ t, exec .xltInvalComplete s = .next t ∧ (∀ y ∈ s.qe.cmds, y.qid = q → y.cmdId = c → y.result = none → { y with result := some { okResult with result0 := h } } ∈ t.qe.cmds) ∧
      s.frame t [.regs, .xlt, .qe] [XLT.BUSY, XLT.DONE_COUNT] := by
  have done := exec_xltInvalComplete busy
  rw [w] at done
  refine ⟨_, done, fun y hy hq hc hr => ?_, ?_⟩
  · have same : (s.invalOver.invalFor (.create q c h)).invalNext.qe = (s.invalOver.invalFor (.create q c h)).qe := (State.invalNext_keeps _).kept .qe (by decide)
    show _ ∈ (s.invalOver.invalFor (.create q c h)).invalNext.qe.cmds
    rw [same]
    exact List.mem_map.mpr ⟨y, hy, if_pos ⟨hq, hc, by rw [hr]; rfl⟩⟩
  · exact ((State.invalNext_keeps _).step ((s.invalOver_keeps.mono (m := ⟨[.regs, .xlt, .qe], some [XLT.BUSY, XLT.DONE_COUNT]⟩) (by decide)).upd_qe (by decide)) (by decide)).frame hs (by decide)

theorem State.regionPurge_bmap (s : State) (r : Nat) : ∀ k b, tget (s.regionPurge r).xlt.bmap k = some b → k / 2 ^ 32 ≠ r := fun k b h => by
  have kept := (List.mem_filter.mp (mem_of_tget h)).2
  exact bne_iff_ne.mp kept

theorem State.cmdResult_xlt (s : State) (q c : Nat) (r : CmdResult) : (s.cmdResult q c r).xlt = s.xlt := rfl

/-- A command that is given a result where it had none has one. -/
theorem State.cmdResult_done (s : State) (q c : Nat) (r : CmdResult) : ∀ y ∈ (s.cmdResult q c r).qe.cmds, y.qid = q → y.cmdId = c → y.result.isSome = true := by
  intro y hy hq hc
  obtain ⟨x, -, rfl⟩ := List.mem_map.mp hy
  by_cases waits : x.qid = q ∧ x.cmdId = c ∧ x.result.isNone
  · rw [if_pos waits]
    rfl
  · rw [if_neg waits] at hq hc ⊢
    have had : ¬ x.result.isNone = true := fun none => waits ⟨hq, hc, none⟩
    exact Option.isSome_iff_ne_none.mpr fun none => had (Option.isNone_iff_eq_none.mpr none)

theorem State.regionAfter_delete (s : State) (q c r : Nat) : s.regionAfter (.delete q c r) = (s.regionPurge r).cmdResult q c okResult := by
  unfold State.regionAfter
  rfl

/-- A completion for which a REGION_DELETE waits: the region's blocks go, and the command ends OK. -/
theorem exec_xltInvalComplete_delete {s : State} {i : Inval} {q c r : Nat} (busy : s.xlt.invalBusy = some i) (w : i.waiter = .delete q c r) :
    exec .xltInvalComplete s = .next (((s.invalOver.invalFor (.delete q c r)).invalNext.regionPurge r).cmdResult q c okResult) := by
  have done := exec_xltInvalComplete busy
  rw [w] at done
  exact done.trans (congrArg Host.Outcome.next (State.regionAfter_delete ..))

theorem State.registrationAt_latched (s : State) (p : Page) (i : Nat) : (s.quiesceLatch p).registrationAt i = s.registrationAt i := by
  unfold State.registrationAt
  rw [State.quiesceLatch_xlt]

theorem State.quiesceLatch_timeNs (s : State) (p : Page) : (s.quiesceLatch p).timeNs = s.timeNs := (s.quiesceLatch_keeps p).kept .timeNs (by decide)

theorem State.captureBy_putRegistration (s : State) (p : Page) (c : Capture) (i : Nat) (d : Registration) :
    s.captureBy (s.putRegistration i d) p c = s.putRegistration i d :=
  State.captureBy_same (t := s.putRegistration i d) (fun clear => clear) c

theorem xltRevoke_inflight {s : State} {r : Requester} {key : BitVec 32} {d : Registration} (hs : s.regsOk) (h : s.commands r xltPage)
    (at_ : s.registrationAt (keyIndex key.toNat) = d) (gen : d.gen = keyGen key.toNat) (opened : d.state = .opened) (busy : d.inflight ≠ 0) :
    ∃ t, exec (.xltRevoke r key) s = .next t ∧ t.registrationAt (keyIndex key.toNat) = { d with state := .closing, revokeStamp := s.timeNs } ∧ s.frame t [.regs, .xlt] [HDR.QUIESCED] := by
  obtain ⟨c, write⟩ := State.write_xltRevoke hs h key
  rw [State.revoke_inflight ((s.registrationAt_latched _ _).trans at_) gen opened busy, State.quiesceLatch_timeNs] at write
  refine ⟨_, congrArg Host.Outcome.next (write.trans (State.captureBy_putRegistration _ _ c _ _)), State.registrationAt_put_same .., ?_⟩
  exact ((State.putRegistration_keeps ..).step ((s.quiesceLatch_keeps xltPage).mono (m := ⟨[.regs, .xlt], some [HDR.QUIESCED]⟩) (by decide)) (by decide)).frame hs (by decide)

theorem xltRevoke_idle {s : State} {r : Requester} {key : BitVec 32} {d : Registration} (hs : s.regsOk) (h : s.commands r xltPage)
    (at_ : s.registrationAt (keyIndex key.toNat) = d) (gen : d.gen = keyGen key.toNat) (opened : d.state = .opened) (idle : d.inflight = 0) :
    ∃ t, exec (.xltRevoke r key) s = .next t ∧ (t.registrationAt (keyIndex key.toNat)).state = .free ∧ (t.registrationAt (keyIndex key.toNat)).freedAt = some s.timeNs ∧
      s.frame t ([.xlt, .qe] ++ reported) (HDR.QUIESCED :: reportedFields) := by
  obtain ⟨c, write⟩ := State.write_xltRevoke hs h key
  have keeps : State.Keeps ⟨[.xlt, .qe] ++ reported, some (HDR.QUIESCED :: reportedFields)⟩ s (s.regWrite r xltPage 0x128 4 key.toNat) := by
    rw [write]
    exact (State.captureBy_keeps ..).step ((State.revoke_keeps ..).step ((s.quiesceLatch_keeps xltPage).mono (by decide)) (by decide)) (by decide)
  have kept : (s.regWrite r xltPage 0x128 4 key.toNat).xlt = ((s.quiesceLatch xltPage).revoke key.toNat).1.xlt := by
    rw [write]
    exact (State.captureBy_keeps ..).kept .xlt (by decide)
  have freed : (s.regWrite r xltPage 0x128 4 key.toNat).registrationAt (keyIndex key.toNat) = _ :=
    congrArg (fun x : XltState => (tget x.registrations (keyIndex key.toNat)).getD noRegistration) kept
  rw [State.revoke_idle ((s.registrationAt_latched _ _).trans at_) gen opened idle] at freed
  replace freed := freed.trans (State.registrationFree_at ..)
  refine ⟨_, rfl, congrArg Registration.state freed, (congrArg Registration.freedAt freed).trans ?_, keeps.frame hs (by decide)⟩
  exact congrArg some (s.quiesceLatch_timeNs xltPage)

theorem exec_registrationSweep {s : State} (hs : s.regsOk) (due : s.xlt.sweep = true) (live : s.frozen = false) :
    ∃ t, exec .registrationSweep s = .next t ∧ (∀ i, (t.registrationAt i).state ≠ .closing) ∧ t.xlt.sweep = false ∧ s.frame t ([.xlt, .qe] ++ reported) reportedFields := by
  have done : exec .registrationSweep s = .next (State.swept { s with xlt := { s.xlt with sweep := false } } s.xlt.registrations) := by
    show execRegistrationSweep s = _
    unfold execRegistrationSweep
    rw [due, live]
    rfl
  refine ⟨_, done, fun i => ?_, State.swept_sweep .., ((execRegistrationSweep_keeps s).out done).frame hs (by decide)⟩
  unfold State.registrationAt
  cases h : tget (State.swept { s with xlt := { s.xlt with sweep := false } } s.xlt.registrations).xlt.registrations i with
  | none => exact RegState.noConfusion
  | some d => exact State.swept_closing s.xlt.registrations { s with xlt := { s.xlt with sweep := false } } (fun _ _ found _ => mem_of_tget found) i d h

/-! ### Windows and decoders (R76, R77) -/

theorem windowBind_bound {s : State} {w : Fin 4096} {d : WindowDesc} (unused : ∀ o, tget s.xlt.windows w.val = some o → o.valid = false)
    (bound : s.flag HP.BOUND (w.val / 512) (w.val / 32 % 16) = true) (tenant : s.get HP.TENANT (w.val / 512) (w.val / 32 % 16) = d.tenant.toNat)
    (base : d.dpaBase.toNat % 2 ^ 28 = 0) (len : d.length.toNat % 2 ^ 28 = 0) (decoder : tget s.hp.decoders w.val = some (d.dpaBase.toNat, d.length.toNat))
    (here : d.foreign = false) (may : s.bindOk d.tenant.toNat d.region.toNat d.regionOff.toNat d.length.toNat d.w = true) :
    ∃ t, exec (.windowBind w d) s = .next t ∧
      tget t.xlt.windows w.val = some (windowSeal { d with valid := true, state := 1, regionGen := BitVec.ofNat 16 (s.regionAt d.region.toNat).gen }) ∧
      t.out = s.out ++ [.device "WINDOW_BIND" [w.val, Status.ok.code]] ∧ s.keptBut t [.xlt, .out] := by
  let x := windowSeal { d with valid := true, state := 1, regionGen := BitVec.ofNat 16 (s.regionAt d.region.toNat).gen }
  have done : exec (.windowBind w d) s =
      .next (({ s with xlt := { s.xlt with windows := tset s.xlt.windows w.val x } } : State).emit (.device "WINDOW_BIND" [w.val, Status.ok.code])) := by
    show execWindowBind w d s = _
    unfold execWindowBind
    dsimp only
    rw [bound, tenant, base, len, decoder, here, may]
    cases old : tget s.xlt.windows w.val with
    | none => simp [x, here]
    | some o => simp [unused o old, x, here]
  refine ⟨_, done, tget_tset_same .., rfl, ((execWindowBind_keeps w d s).out done).kept⟩

theorem windowBind_refused {s : State} {w : Fin 4096} {d : WindowDesc} (here : d.foreign = false)
    (may : s.bindOk d.tenant.toNat d.region.toNat d.regionOff.toNat d.length.toNat d.w = false) :
    exec (.windowBind w d) s = .next (s.emit (.device "WINDOW_BIND" [w.val, Status.accessViolation.code])) := by
  show execWindowBind w d s = _
  unfold execWindowBind
  dsimp only
  rw [here, may, Bool.or_self, Bool.and_false]
  exact if_neg Bool.false_ne_true

theorem State.emit_keptBut (s : State) (o : Out) : s.keptBut (s.emit o) [.out] := (State.emit_keeps s o).kept

theorem hdmDecoderUncommit_bound {s : State} {p : Port} {l : Ld} {n : Fin 32} {d : WindowDesc} (hs : s.regsOk) (h : tget s.xlt.windows (windowId p.val l.val n.val) = some d)
    (valid : d.valid = true) (bound : d.state = 1) (idle : s.xlt.invalBusy = none) :
    ∃ t, exec (.hdmDecoderUncommit p l n) s = .next t ∧ tget t.hp.decoders (windowId p.val l.val n.val) = none ∧
      tget t.xlt.windows (windowId p.val l.val n.val) = some (windowSeal { d with state := 2 }) ∧
      t.xlt.invalBusy = some ⟨3, windowId p.val l.val n.val, .window (windowId p.val l.val n.val)⟩ ∧ s.frame t [.regs, .xlt, .hp] [XLT.BUSY] := by
  let v : State := { s with hp := { s.hp with decoders := tdel s.hp.decoders (windowId p.val l.val n.val) } }
  let u : State := { v with xlt := { s.xlt with windows := tset s.xlt.windows (windowId p.val l.val n.val) (windowSeal { d with state := 2 }) } }
  have done : exec (.hdmDecoderUncommit p l n) s = .next (u.invalRun ⟨3, windowId p.val l.val n.val, .window (windowId p.val l.val n.val)⟩) := by
    show execHdmDecoderUncommit p l n s = _
    unfold execHdmDecoderUncommit
    dsimp only
    rw [h]
    dsimp only
    rw [if_pos (by rw [valid, bound]; decide)]
    exact congrArg Host.Outcome.next (State.inval_idle (s := u) (sc := 3) (by decide) (windowId p.val l.val n.val) (.window (windowId p.val l.val n.val)) idle)
  have keeps : State.Keeps ⟨[.regs, .xlt, .hp], some [XLT.BUSY]⟩ s u :=
    State.Keeps.upd_xlt (t := v) (State.Keeps.upd_hp (t := s) (State.Keeps.refl _ _) (by decide)) (by decide)
  exact ⟨_, done, tget_tdel_same .., tget_tset_same .., rfl, ((State.invalRun_keeps _ _).step keeps (by decide)).frame hs (by decide)⟩

/-! ### The release of extents (R79, R130) -/

/-- An ACTIVE extent is released after a change of its logical device's own state. -/
theorem extentRelease_after {s : State} {p l e : Nat} {d : Extent} (hs : s.regsOk) (x : LdState) (h : tget s.xlt.extents e = some d) (active : d.state = .active)
    (idle : s.xlt.invalBusy = none) :
    tget ((s.putLd p l x).extentRelease e).xlt.extents e = some (Extent.seal { d with state := .releasing, listed := false }) ∧
      ((s.putLd p l x).extentRelease e).xlt.invalBusy = some ⟨2, e, .extent e⟩ ∧ ((s.putLd p l x).extentRelease e).ld p l = x ∧
      s.frame ((s.putLd p l x).extentRelease e) [.regs, .xlt, .hp] [XLT.BUSY] := by
  obtain ⟨releasing, runs, hp⟩ := State.extentRelease_extent (s := s.putLd p l x) h active idle
  refine ⟨releasing, runs, ?_, ?_⟩
  · exact (congrArg (fun y : HpState => (tget y.lds (ldKey p l)).getD noLd) hp).trans (s.ld_putLd_same p l x)
  · exact ((State.extentRelease_keeps_idle (s := s.putLd p l x) h active idle).step ((s.putLd_keeps p l x).mono (m := ⟨[.regs, .xlt, .hp], some [XLT.BUSY]⟩) (by decide))
      (by decide)).frame hs (by decide)

theorem exec_releaseDc {s : State} {p : Port} {l : Ld} {es : List Nat} {e : Nat} {d : Extent} (shown : s.presented p.val l.val = true)
    (first : (s.ld p.val l.val).release = none) (mine : ((s.ldExtents p.val l.val).filter fun x => es.contains x.1) = [(e, d)]) :
    exec (.releaseDc p l es) s = .next ((s.putLd p.val l.val { s.ld p.val l.val with release := some [e] }).extentRelease e) := by
  show execReleaseDc p l es s = _
  unfold execReleaseDc
  dsimp only
  rw [shown, mine, first]
  rfl

theorem exec_releaseDc_none {s : State} {p : Port} {l : Ld} {es : List Nat} (shown : s.presented p.val l.val = true)
    (mine : ((s.ldExtents p.val l.val).filter fun x => es.contains x.1) = []) :
    exec (.releaseDc p l es) s = .next (s.emit (.mailbox p.val l.val 0x4803 .invalidInput [])) := by
  show execReleaseDc p l es s = _
  unfold execReleaseDc
  dsimp only
  rw [shown, mine]
  rfl

theorem exec_initiateDynamicCapacityRelease {s : State} {p : Port} {l : Ld} {e : Nat} {d : Extent} (mine : (e, d) ∈ s.ldExtents p.val l.val) :
    exec (.initiateDynamicCapacityRelease p l e) s =
      .next ((s.putLd p.val l.val { s.ld p.val l.val with fmRelease := (s.ld p.val l.val).fmRelease ++ [e] }).extentRelease e) := by
  show execInitiateDynamicCapacityRelease p l e s = _
  unfold execInitiateDynamicCapacityRelease
  exact if_pos (List.any_eq_true.mpr ⟨(e, d), mine, beq_self_eq_true e⟩)

/-- Settles O4: every clause is the lemma above of its command. -/
theorem translationCommands : Obligations.TranslationCommands := by
  unfold Obligations.TranslationCommands
  refine ⟨?refetch, ?fill, ?runs, ?waits, ?overflows, ?completes, ?extent, ?create, ?delete, ?revoke, ?revokeIdle, ?sweep, ?bind, ?bindRefused, ?commit, ?uncommit, ?release,
    ?releaseNone, ?fmRelease⟩
  case refetch => exact fun s k e c hs cached bad dram good => exec_descriptorRefetch hs cached bad dram good
  case fill => exact fun s k e found room => exec_xltMissFill found room
  case runs => exact fun s r sc i hs h hsc idle => xltInval_runs hs h i hsc idle
  case waits => exact fun s r sc i b hs h hsc busy room => ⟨_, exec_xltInval_busy hs h i hsc busy room, rfl, xltInval_busy_frame hs _⟩
  case overflows =>
    intro s r sc i b hs h hsc busy full
    obtain ⟨c, done⟩ := exec_xltInval_full hs h i hsc busy full
    exact ⟨_, done, (xltInval_full_spec hs c).2⟩
  case completes => exact fun s i hs busy w => xltInvalComplete_none hs busy w
  case extent => exact fun s i e d hs busy w h => xltInvalComplete_extent hs busy w h
  case create => exact fun s i q c h hs busy w => xltInvalComplete_create hs busy w
  case delete =>
    intro s i q c r hs busy w
    have done := exec_xltInvalComplete_delete busy w
    refine ⟨_, done, ?_, State.cmdResult_done _ q c okResult, ((execXltInvalComplete_keeps s).out done).frame hs (by decide)⟩
    rw [State.cmdResult_xlt]
    exact State.regionPurge_bmap _ r
  case revoke => exact fun s r key d hs h at_ gen opened busy => xltRevoke_inflight hs h at_ gen opened busy
  case revokeIdle => exact fun s r key d hs h at_ gen opened idle => xltRevoke_idle hs h at_ gen opened idle
  case sweep => exact fun s hs due live => exec_registrationSweep hs due live
  case bind => exact fun s w d unused bound tenant base len decoder here may => windowBind_bound unused bound tenant base len decoder here may
  case bindRefused => exact fun s w d here may => ⟨_, windowBind_refused here may, rfl, s.emit_keptBut _⟩
  case commit => exact fun s p l n base len => ⟨_, rfl, tget_tset_same .., ((execHdmDecoderCommit_keeps p l n base len s).out rfl).kept⟩
  case uncommit => exact fun s p l n d hs h valid bound idle => hdmDecoderUncommit_bound hs h valid bound idle
  case release =>
    intro s p l es e d hs shown first mine h idle
    have active : d.state = .active := State.ldExtents_active (List.mem_of_mem_filter (mine ▸ List.mem_singleton_self (e, d) : (e, d) ∈ (s.ldExtents p.val l.val).filter _))
    obtain ⟨releasing, runs, ld, frame⟩ := extentRelease_after (p := p.val) (l := l.val) hs { s.ld p.val l.val with release := some [e] } h active idle
    exact ⟨_, exec_releaseDc shown first mine, releasing, runs, congrArg LdState.release ld, frame⟩
  case releaseNone => exact fun s p l es shown mine => ⟨_, exec_releaseDc_none shown mine, rfl, s.emit_keptBut _⟩
  case fmRelease =>
    intro s p l e d hs mine h idle
    obtain ⟨releasing, runs, ld, frame⟩ := extentRelease_after (p := p.val) (l := l.val) hs
      { s.ld p.val l.val with fmRelease := (s.ld p.val l.val).fmRelease ++ [e] } h (State.ldExtents_active mine) idle
    exact ⟨_, exec_initiateDynamicCapacityRelease mine, releasing, runs, congrArg LdState.fmRelease ld, frame⟩

end Sys2Proof.Machine
end

section
/-! SUPPORT. States that differ only in what reading the pan changes: its lines, its counters, the queues of the DRAM channels. Reports, walks and region operations do the same in both. -/
namespace Sys2Proof.Machine

/-- A field of a page that is not one of the pan's. -/
@[reducible] def Fld.offPan (f : Fld) (p : Page) (i : Nat) : Prop := p.inst < 256 ∧ p.blk ≠ .pan ∧ f.place i < 32768

/-- t differs from s in the pan, the DRAM channels, TIER apart from the quotas, and registers of the pan's pages at most. -/
structure State.Alike (s t : State) : Prop where
  rest : t = { s with regs := t.regs, tier := t.tier, pan := t.pan, dmc := t.dmc }
  rd : ∀ p f i, Fld.offPan f p i → t.rd p f i = s.rd p f i
  quotas : t.tier.quotas = s.tier.quotas

/-- An operation that may raise an error does the same in both. -/
def State.ErrAlike (err : State → Page → Nat → State) : Prop :=
  ∀ {s t : State} (p : Page) (k : Nat), p.inst < 256 → p.blk ≠ .pan → s.Alike t → (err s p k).Alike (err t p k)

/-- Two results that agree, and the states that go with them. -/
def State.AlikeP {α : Type} (x y : State × α) : Prop := x.1.Alike y.1 ∧ y.2 = x.2

namespace State.Alike
variable {s t : State}

protected theorem refl (s : State) : s.Alike s := ⟨rfl, fun _ _ _ _ => rfl, rfl⟩

protected theorem trans {u : State} (a : s.Alike t) (b : t.Alike u) : s.Alike u :=
  ⟨b.rest.trans (congrArg (fun z : State => { z with regs := u.regs, tier := u.tier, pan := u.pan, dmc := u.dmc }) a.rest),
    fun p f i h => (b.rd p f i h).trans (a.rd p f i h), b.quotas.trans a.quotas⟩

section Parts
variable (h : s.Alike t)
include h

theorem xlt : t.xlt = s.xlt := (congrArg State.xlt h.rest :)
theorem qe : t.qe = s.qe := (congrArg State.qe h.rest :)
theorem evf : t.evf = s.evf := (congrArg State.evf h.rest :)
theorem recd : t.recd = s.recd := (congrArg State.recd h.rest :)
theorem hp : t.hp = s.hp := (congrArg State.hp h.rest :)
theorem pwr : t.pwr = s.pwr := (congrArg State.pwr h.rest :)
theorem out : t.out = s.out := (congrArg State.out h.rest :)
theorem free : t.free = s.free := (congrArg State.free h.rest :)
theorem timeNs : t.timeNs = s.timeNs := (congrArg State.timeNs h.rest :)
theorem unit : t.unit = s.unit := (congrArg State.unit h.rest :)

theorem get (f : Fld) (i j : Nat) (ok : Fld.offPan f ⟨f.blk, i⟩ j) : t.get f i j = s.get f i j := h.rd _ _ _ ok
theorem flag (f : Fld) (i j : Nat) (ok : Fld.offPan f ⟨f.blk, i⟩ j) : t.flag f i j = s.flag f i j := (congrArg (· != 0) (h.get f i j ok) :)
theorem bitOf (f : Fld) (k i j : Nat) (ok : Fld.offPan f ⟨f.blk, i⟩ j) : t.bitOf f k i j = s.bitOf f k i j := (congrArg (bit · k) (h.get f i j ok) :)

theorem with_xlt (x : XltState) : ({ s with xlt := x } : State).Alike { t with xlt := x } := ⟨(congrArg (fun z : State => { z with xlt := x }) h.rest :), h.rd, h.quotas⟩
theorem with_evf {x y : EvfState} (same : y = x) : ({ s with evf := x } : State).Alike { t with evf := y } := by
  subst same
  exact ⟨(congrArg (fun z : State => { z with evf := y }) h.rest :), h.rd, h.quotas⟩
theorem with_recd (x : RecState) : ({ s with recd := x } : State).Alike { t with recd := x } := ⟨(congrArg (fun z : State => { z with recd := x }) h.rest :), h.rd, h.quotas⟩
theorem with_hp (x : HpState) : ({ s with hp := x } : State).Alike { t with hp := x } := ⟨(congrArg (fun z : State => { z with hp := x }) h.rest :), h.rd, h.quotas⟩
theorem with_pwr (x : PwrState) : ({ s with pwr := x } : State).Alike { t with pwr := x } := ⟨(congrArg (fun z : State => { z with pwr := x }) h.rest :), h.rd, h.quotas⟩
theorem with_qe (x : QeState) : ({ s with qe := x } : State).Alike { t with qe := x } := ⟨(congrArg (fun z : State => { z with qe := x }) h.rest :), h.rd, h.quotas⟩
theorem with_free (x : Nat) : ({ s with free := x } : State).Alike { t with free := x } := ⟨(congrArg (fun z : State => { z with free := x }) h.rest :), h.rd, h.quotas⟩
theorem with_out (x : List Out) : ({ s with out := x } : State).Alike { t with out := x } := ⟨(congrArg (fun z : State => { z with out := x }) h.rest :), h.rd, h.quotas⟩

/-- The same write in both. -/
theorem wr (p : Page) (f : Fld) (v i : Nat) : (s.wr p f v i).Alike (t.wr p f v i) := by
  refine ⟨(congrArg (fun z : State => { z with regs := (t.wr p f v i).regs }) h.rest :), fun q g j ok => ?_, h.quotas⟩
  have same := h.rd q g j ok
  unfold State.rd State.wr at *
  rw [h.unit] at same ⊢
  dsimp only at same ⊢
  by_cases k : g.key q j = f.key p i
  · rw [k]
    split <;> simp
  · split
    · simpa only [tget_tdel_ne _ k] using same
    · simpa only [tget_tset_ne _ _ k] using same

theorem put (f : Fld) (v i j : Nat) : (s.put f v i j).Alike (t.put f v i j) := h.wr _ _ _ _
theorem inc (f : Fld) (n i j : Nat) (ok : Fld.offPan f ⟨f.blk, i⟩ j) : (s.inc f n i j).Alike (t.inc f n i j) := by
  unfold State.inc
  rw [h.get f i j ok]
  exact h.put ..
theorem putBit (f : Fld) (k : Nat) (b : Bool) (i j : Nat) (ok : Fld.offPan f ⟨f.blk, i⟩ j) : (s.putBit f k b i j).Alike (t.putBit f k b i j) := by
  unfold State.putBit
  rw [h.get f i j ok]
  exact h.put ..
theorem emit (o : Out) : (s.emit o).Alike (t.emit o) := by
  unfold State.emit
  rw [h.out]
  exact h.with_out _
theorem useFree : s.useFree.Alike t.useFree := by
  unfold State.useFree
  rw [h.free]
  exact h.with_free _

end Parts

protected theorem ite {a b : State} {c : Prop} [Decidable c] (h : s.Alike t) (k : a.Alike b) : (if c then s else a).Alike (if c then t else b) := by
  split
  · exact h
  · exact k

protected theorem foldl {α : Type} (f : State → α → State) (hf : ∀ {s t : State} (x : α), s.Alike t → (f s x).Alike (f t x)) (l : List α) (h : s.Alike t) :
    (l.foldl f s).Alike (l.foldl f t) := by
  induction l generalizing s t with
  | nil => exact h
  | cons x l ih => exact ih (hf x h)

/-! ## Channels (R505 to R510, R544, R545) -/

section Channels
variable (h : s.Alike t)
include h

theorem domainOn {n : Nat} (hn : n < 64) : t.domainOn n = s.domainOn n := by
  unfold State.domainOn
  rw [h.get PWR.STATE 0 n ⟨by decide, by decide, by simp only [Fld.place, PWR.STATE]; omega⟩]

theorem chanEntry (ch : Nat) : t.chanEntry ch = s.chanEntry ch := by unfold State.chanEntry; rw [h.evf]

theorem raiseVector {port ld : Nat} (mgmt : Bool) (v : Nat) (hp : port < 8) (hl : ld < 16) : (s.raiseVector port ld mgmt v).Alike (t.raiseVector port ld mgmt v) := by
  unfold State.raiseVector
  rw [h.flag HP.BOUND port ld ⟨by dsimp only; omega, Blk.noConfusion, by simp only [Fld.place, HP.BOUND]; omega⟩, h.hp]
  exact h.ite ((h.emit _).ite (h.with_hp _))

theorem alertPin {k : Nat} : (s.alertPin k).Alike (t.alertPin k) := by
  have wanted : t.alertWanted k = s.alertWanted k := by
    unfold State.alertWanted State.chanEntry
    rw [h.evf]
  unfold State.alertPin
  rw [wanted, h.bitOf EVF.ALERT_FAULT k _ _ (by decide), h.bitOf EVF.ALERT_DRV k _ _ (by decide)]
  exact h.ite ((h.putBit _ _ _ _ _ (by decide)).emit _)

theorem latchWake (n ch : Nat) : (s.latchWake n ch).Alike (t.latchWake n ch) := by
  have set : (s.putBit PWR.PWR_WAKE_LATCH n true).Alike (t.putBit PWR.PWR_WAKE_LATCH n true) := h.putBit _ _ _ _ _ (by decide)
  unfold State.latchWake
  dsimp only
  rw [set.pwr]
  exact set.ite (set.with_pwr _)

theorem wakeStart {n : Nat} (hn : n < 64) : (s.wakeStart n).Alike (t.wakeStart n) := by
  unfold State.wakeStart
  dsimp only
  rw [h.get PWR.STATE 0 n ⟨by decide, by decide, by simp only [Fld.place, PWR.STATE]; omega⟩, h.pwr]
  have put : (s.put PWR.STATE domWaking 0 n).Alike (t.put PWR.STATE domWaking 0 n) := h.put _ _ _ _
  rw [put.pwr]
  refine State.Alike.ite ?_ h
  exact put.with_pwr _

theorem wakeEvent {n : Nat} (ch : Nat) (hn : n < 64) : (s.wakeEvent n ch).Alike (t.wakeEvent n ch) := by
  unfold State.wakeEvent
  dsimp only
  rw [h.get PWR.STATE 0 n ⟨by decide, by decide, by simp only [Fld.place, PWR.STATE]; omega⟩, h.bitOf PWR.PWR_WAKE_LATCH n _ _ (by decide), h.free]
  exact ((h.latchWake n ch).ite ((h.useFree.put _ _ _ _).ite (h.useFree.latchWake n ch))).ite (((h.latchWake n ch).wakeStart hn).ite h)

theorem signal (ch : Nat) : (s.signal ch).Alike (t.signal ch) := by
  have unit (e : Nat) : bits e 25 3 < 8 := Nat.mod_lt _ (by decide)
  have slot (e : Nat) : bits e 21 4 < 16 := Nat.mod_lt _ (by decide)
  unfold State.signal
  dsimp only
  rw [h.chanEntry ch]
  have hu := unit (s.chanEntry ch)
  split
  · rw [h.domainOn (by decide)]
    exact (h.emit _).ite (h.wakeEvent _ (by decide))
  · rw [h.domainOn (by omega)]
    exact (h.emit _).ite (h.wakeEvent _ (by omega))
  · exact h.raiseVector _ _ hu (slot _)
  · exact h

theorem chanHit (ch : Nat) : (s.chanHit ch).Alike (t.chanHit ch) := by
  have pending (n : Nat) : (s.setPending ch n).Alike (t.setPending ch n) := by
    unfold State.setPending
    rw [h.evf]
    exact h.with_evf rfl
  have count : t.chanPending ch = s.chanPending ch := by
    unfold State.chanPending
    rw [h.evf]
  unfold State.chanHit State.alertPins
  dsimp only
  rw [count]
  exact (((pending _).signal ch).ite (pending _)).alertPin.alertPin

theorem deliver {p : Page} (idx : Nat) (hp : p.inst < 256) (pan : p.blk ≠ .pan) : (s.deliver p idx).Alike (t.deliver p idx) := by
  have entry (k : Nat) : t.routeEntry k = s.routeEntry k := by
    unfold State.routeEntry
    rw [h.evf]
  unfold State.deliver
  dsimp only
  rw [entry, h.rd p HDR.EVT_MASK 0 ⟨hp, pan, by decide⟩, h.rd p HDR.EVT_ROUTE 0 ⟨hp, pan, by decide⟩]
  exact h.ite (h.chanHit _)

end Channels

end State.Alike
end Sys2Proof.Machine
end

section
/-! SUPPORT. The recorder and the alarm path in two such states. -/
namespace Sys2Proof.Machine
namespace State.Alike
variable {s t : State}

section Records
variable (h : s.Alike t)
include h

theorem alarmTold (c corr : Nat) (a : Alarm) (hc : c < 2) :
    (if s.flag MGT.VALID 0 c then (s.inc MGT.ALARM_SENT).emit (.alarm c corr a) else s).Alike (if t.flag MGT.VALID 0 c then (t.inc MGT.ALARM_SENT).emit (.alarm c corr a) else t) := by
  rw [h.flag MGT.VALID 0 c ⟨by decide, by decide, by simp only [Fld.place, MGT.VALID]; omega⟩]
  exact ((h.inc _ _ _ _ (by decide)).emit _).ite h

theorem postAlarm (a : Alarm) : (s.postAlarm a).Alike (t.postAlarm a) := by
  have dropped (c : Prop) [Decidable c] : (if c then s.inc REC.ALARM_DROP else s).Alike (if c then t.inc REC.ALARM_DROP else t) := (h.inc _ _ _ _ (by decide)).ite h
  unfold State.postAlarm
  dsimp only [List.foldl]
  rw [h.recd, (dropped _).recd]
  exact (((dropped _).with_recd _).alarmTold 0 _ a (by decide)).alarmTold 1 _ a (by decide)

theorem with_fwd (x : List FwdEntry) : ({ s with recd := { s.recd with fwd := x } } : State).Alike { t with recd := { t.recd with fwd := x } } := by
  rw [h.recd]
  exact h.with_recd _

theorem forward {err : State → Page → Nat → State} (he : State.ErrAlike err) (r : Record) : (s.forward err r).Alike (t.forward err r) := by
  have full {a b : State} (k : a.Alike b) : (if a.recd.sent.length = 256 && !bit (a.rd (pg .mgt) HDR.ERR_STAT) 16 then err a (pg .mgt) 16 else a).Alike
      (if b.recd.sent.length = 256 && !bit (b.rd (pg .mgt) HDR.ERR_STAT) 16 then err b (pg .mgt) 16 else b) := by
    rw [k.recd, k.rd (pg .mgt) HDR.ERR_STAT 0 (by decide)]
    exact (he _ _ (by decide) (by decide) k).ite k
  have wide {a b : State} (k : a.Alike b) : (if bit (a.rd (pg .recd) HDR.ERR_STAT) 17 then a else err a (pg .recd) 17).Alike
      (if bit (b.rd (pg .recd) HDR.ERR_STAT) 17 then b else err b (pg .recd) 17) := by
    rw [k.rd (pg .recd) HDR.ERR_STAT 0 (by decide)]
    exact k.ite (he _ _ (by decide) (by decide) k)
  unfold State.forward
  dsimp only
  rw [h.get REC.ALARM_SEV _ _ (by decide), h.recd]
  exact h.ite ((h.with_recd _).ite ((full ((h.with_recd _).postAlarm _)).ite ((h.with_recd _).ite (wide (h.with_recd _)))))

theorem foldCode (code n first last inst sev : Nat) (payload : List Byte) : (s.foldCode code n first last inst sev payload).Alike (t.foldCode code n first last inst sev payload) := by
  unfold State.foldCode State.limiter
  rw [h.recd]
  exact h.with_recd _

theorem place (sev : Nat) : t.place sev = s.place sev := by
  unfold State.place State.slotFree State.nearSlots State.slotSev State.freeReserved
  rw [h.recd]

theorem writeRecord {err : State → Page → Nat → State} (he : State.ErrAlike err) (code inst sev : Nat) (payload : List Byte) (forced summary : Bool) :
    (s.writeRecord err code inst sev payload forced summary).Alike (t.writeRecord err code inst sev payload forced summary) := by
  unfold State.writeRecord
  rw [h.place sev, h.timeNs, h.get REC.HEAD_SEQ _ _ (by decide), h.recd]
  split
  · exact h.inc _ _ _ _ (by decide)
  · exact (h.inc _ _ _ _ (by decide)).foldCode _ _ _ _ _ _ _
  · dsimp only
    have seq (v : Nat) : (s.put REC.HEAD_SEQ v).Alike (t.put REC.HEAD_SEQ v) := h.put _ _ _ _
    have counted (c d : Prop) [Decidable c] [Decidable d] (v : Nat) :
        (if c then (s.put REC.HEAD_SEQ v).inc REC.OVW_CNT else if d then (s.put REC.HEAD_SEQ v).inc REC.RSV_USED else s.put REC.HEAD_SEQ v).Alike
          (if c then (t.put REC.HEAD_SEQ v).inc REC.OVW_CNT else if d then (t.put REC.HEAD_SEQ v).inc REC.RSV_USED else t.put REC.HEAD_SEQ v) :=
      ((seq v).inc _ _ _ _ (by decide)).ite (((seq v).inc _ _ _ _ (by decide)).ite (seq v))
    rw [(counted _ _ _).recd]
    exact ((counted _ _ _).with_recd _).forward he _

theorem record {err : State → Page → Nat → State} (he : State.ErrAlike err) (code inst sev : Nat) (payload : List Byte) (forced : Bool) :
    (s.record err code inst sev payload forced).Alike (t.record err code inst sev payload forced) := by
  unfold State.record State.limiter
  dsimp only
  rw [h.get REC.RATE_LO _ _ (by decide), h.get REC.RATE_MID _ _ (by decide), h.get REC.RATE_HI _ _ (by decide), h.recd]
  have folded : (s.foldCode code 1 s.timeNs s.timeNs inst sev payload).Alike (t.foldCode code 1 t.timeNs t.timeNs inst sev payload) := by
    rw [h.timeNs]
    exact h.foldCode ..
  have written (x : RecState) := (h.with_recd x).writeRecord he code inst sev payload forced false
  refine State.Alike.ite (State.Alike.ite ?_ folded) (State.Alike.ite (State.Alike.ite ?_ folded) (State.Alike.ite ?_ folded)) <;> exact written _

theorem sendOcc {err : State → Page → Nat → State} (he : State.ErrAlike err) {p : Page} (idx sev : Nat) (payload : List Byte) (forced : Bool) (hp : p.inst < 256) (pan : p.blk ≠ .pan) :
    (s.sendOcc err p idx sev payload forced).Alike (t.sendOcc err p idx sev payload forced) := by
  unfold State.sendOcc
  dsimp only
  rw [h.evf]
  have sent (x : EvfState) := ((h.with_evf (Eq.refl x)).record he (p.blk.code * 256 + idx) p.inst sev payload forced).deliver idx hp pan
  have folded := h.with_evf (x := { s.evf with folds := tset s.evf.folds (p.blk.code * 128 + idx) (foldAdd (tget s.evf.folds (p.blk.code * 128 + idx)) 1 s.timeNs s.timeNs p.inst sev payload) })
    (y := { s.evf with folds := tset s.evf.folds (p.blk.code * 128 + idx) (foldAdd (tget s.evf.folds (p.blk.code * 128 + idx)) 1 t.timeNs t.timeNs p.inst sev payload) }) (by rw [h.timeNs])
  refine State.Alike.ite (sent _) (State.Alike.ite ?_ (State.Alike.ite folded (State.Alike.ite (sent _) folded)))
  exact h.inc _ _ _ _ (by decide)

theorem occurWith {err : State → Page → Nat → State} (he : State.ErrAlike err) {p : Page} (idx sev : Nat) (payload : List Byte) (forced : Bool) (hp : p.inst < 256) (pan : p.blk ≠ .pan) :
    (s.occurWith err p idx sev payload forced).Alike (t.occurWith err p idx sev payload forced) := by
  unfold State.occurWith
  dsimp only
  rw [h.rd p HDR.EVT_STAT 0 ⟨hp, pan, by decide⟩]
  exact ((h.wr _ _ _ _).ite h).sendOcc he idx sev payload forced hp pan

theorem setErr {p : Page} (k : Nat) (c : Option Capture) (hp : p.inst < 256) (pan : p.blk ≠ .pan) : (s.setErr p k c).Alike (t.setErr p k c) := by
  unfold State.setErr
  dsimp only
  rw [h.rd p HDR.ERR_STAT 0 ⟨hp, pan, by decide⟩]
  exact (((h.wr _ _ _ _).wr _ _ _ _).ite h).wr _ _ _ _

end Records

theorem errQuiet : State.ErrAlike State.errQuiet := fun _ k hp pan h => h.setErr k none hp pan
theorem errInner : State.ErrAlike State.errInner := fun _ k hp pan h => (h.setErr k none hp pan).occurWith errQuiet _ _ _ _ hp pan
theorem errAlarm : State.ErrAlike State.errAlarm := fun _ k hp pan h => (h.setErr k none hp pan).occurWith errInner _ _ _ _ hp pan

section Reports
variable (h : s.Alike t)
include h

theorem misc {p : Page} (sev : Nat) (payload : List Byte) (hp : p.inst < 256) (pan : p.blk ≠ .pan) : (s.misc p sev payload).Alike (t.misc p sev payload) :=
  h.occurWith errAlarm _ _ _ _ hp pan

theorem blkErr {p : Page} (k sev : Nat) (payload : List Byte) (c : Option Capture) (hp : p.inst < 256) (pan : p.blk ≠ .pan) :
    (s.blkErr p k sev payload c).Alike (t.blkErr p k sev payload c) :=
  ((h.setErr k c hp pan).occurWith errAlarm _ _ _ _ hp pan).ite (h.setErr k c hp pan)

end Reports

end State.Alike
end Sys2Proof.Machine
end

section
/-! SUPPORT. Walks and region operations in two such states. -/
namespace Sys2Proof.Machine

theorem State.AlikeP.split {α : Type} {x y : State × α} (h : State.AlikeP x y) : ∃ a b v, x = (a, v) ∧ y = (b, v) ∧ a.Alike b :=
  ⟨x.1, y.1, x.2, rfl, Prod.ext rfl h.2, h.1⟩

protected theorem State.AlikeP.ite {α : Type} {x y z w : State × α} {c : Prop} [Decidable c] (h : State.AlikeP x y) (k : State.AlikeP z w) :
    State.AlikeP (if c then x else z) (if c then y else w) := by
  split
  · exact h
  · exact k

namespace State.Alike
variable {s t : State}

theorem pair {α : Type} (h : s.Alike t) (a : α) : State.AlikeP (s, a) (t, a) := ⟨h, rfl⟩

section Walks
variable (h : s.Alike t)
include h

theorem regionAt (r : Nat) : t.regionAt r = s.regionAt r := by unfold State.regionAt; rw [h.xlt]
theorem registrationAt (i : Nat) : t.registrationAt i = s.registrationAt i := by unfold State.registrationAt; rw [h.xlt]
theorem xCached (k : XKey) : t.xCached k = s.xCached k := by unfold State.xCached; rw [h.xlt]
theorem xDram (k : XKey) : t.xDram k = s.xDram k := by
  cases k <;> simp only [State.xDram, h.xlt, h.regionAt, h.registrationAt]
theorem xPeek (k : XKey) : t.xPeek k = s.xPeek k := by
  unfold State.xPeek
  rw [h.xCached, h.xDram]

theorem xUse (k : XKey) : (s.xUse k).Alike (t.xUse k) := by
  unfold State.xUse
  rw [h.xlt]
  exact h.with_xlt _

theorem xFill (k : XKey) (c : XCopy) : (s.xFill k c).Alike (t.xFill k c) := by
  unfold State.xFill
  rw [h.xlt]
  exact h.ite (h.with_xlt _)

theorem refetch (k : XKey) : State.AlikeP (s.refetch k) (t.refetch k) := by
  have told {a b : State} (ab : a.Alike b) (sev : Nat) := ab.misc (p := xltPage) sev k.payload (by decide) (by decide)
  unfold State.refetch
  rw [h.xDram k, h.xlt]
  cases s.xDram k with
  | none => exact (told h 6).pair _
  | some c => exact ((told (h.with_xlt _) 4).pair _).ite ((told h 6).pair _)

theorem xGet (k : XKey) : State.AlikeP (s.xGet k) (t.xGet k) := by
  unfold State.xGet
  rw [h.xCached, h.xDram]
  cases s.xCached k with
  | some e => exact ((h.xUse k).pair _).ite ((h.xUse k).refetch k)
  | none => cases s.xDram k with
    | some c => exact ((h.xFill k c).pair _).ite (h.refetch k)
    | none => exact h.refetch k

theorem getRegion (r : Nat) : State.AlikeP (s.getRegion r) (t.getRegion r) := by
  obtain ⟨a, b, c, ea, eb, ab⟩ := (h.xGet (.region (BitVec.ofNat 24 r))).split
  unfold State.getRegion
  rw [ea, eb]
  rcases c with _ | c
  · exact ab.pair _
  · cases c <;> exact ab.pair _

theorem checks (x : Access) (via : Via) (write : Bool) : State.AlikeP (s.checks x via write) (t.checks x via write) := by
  obtain ⟨a, b, c, ea, eb, ab⟩ := (h.getRegion x.region).split
  unfold State.checks
  rw [ea, eb]
  cases c with
  | none => exact ab.pair _
  | some d =>
    have serves : b.serves d.grp = a.serves d.grp := ab.bitOf TWN.SERVE d.grp _ _ (by decide)
    dsimp only
    rw [serves, ab.flag XLT.MEDIA_RO _ _ (by decide)]
    have refused (st : Status) : State.AlikeP (a, (.error st : Except Status Region)) (b, .error st) := ab.pair _
    exact (refused _).ite ((refused _).ite (((ab.misc 5 [] (by decide) (by decide)).pair _).ite ((refused _).ite ((refused _).ite ((refused _).ite
      ((refused _).ite ((refused _).ite (ab.pair _))))))))

theorem walkQueue (tenant : Nat) (n : BitVec 40) (off len : Nat) (write : Bool) :
    State.AlikeP (s.walkQueue tenant n off len write) (t.walkQueue tenant n off len write) := by
  unfold State.walkQueue State.walkBound
  rw [h.xPeek]
  split
  · exact ((h.misc 5 [] (by decide) (by decide)).pair _).ite (h.checks _ _ _)
  · exact h.pair _

end Walks

section Regions
variable (h : s.Alike t)
include h

theorem quota (n : Nat) : t.quota n = s.quota n := by unfold State.quota; rw [h.quotas]

theorem putQuota (n : Nat) (q : Quota) : (s.putQuota n q).Alike (t.putQuota n q) :=
  ⟨(congrArg (fun z : State => { z with tier := (t.putQuota n q).tier }) h.rest :), h.rd, congrArg (fun z => tset z n q) h.quotas⟩

theorem createId (id : Nat) : State.AlikeP (s.createId id) (t.createId id) := by
  unfold State.createId State.regionLeaving
  rw [h.xlt, h.free]
  exact (h.useFree.pair _).ite (h.pair _)

theorem t2Charge (n k : Nat) : State.AlikeP (s.t2Charge n k) (t.t2Charge n k) := by
  unfold State.t2Charge
  dsimp only
  rw [h.quota]
  exact (h.pair _).ite ((h.pair _).ite ((h.putQuota _ _).pair _))

theorem grantPbns (n : Nat) (used got : List Nat) : State.AlikeP (State.grantPbns n used got s) (State.grantPbns n used got t) := by
  induction n generalizing s t used got with
  | zero => exact h.pair _
  | succ n ih =>
    unfold State.grantPbns
    dsimp only
    rw [h.get FTL.USER_BLKS 48 _ (by decide), h.free]
    exact (h.pair _).ite (ih h.useFree _ _)

theorem putBmes (region first : Nat) (pbns : List Nat) : (s.putBmes region first pbns).Alike (t.putBmes region first pbns) := by
  unfold State.putBmes
  induction pbns generalizing s t first with
  | nil => exact h
  | cons p l ih =>
    refine ih ?_ (first + 1)
    dsimp only
    rw [h.xlt]
    exact h.with_xlt _

theorem heldPbns : t.heldPbns = s.heldPbns := by unfold State.heldPbns; rw [h.xlt]

theorem sysPage (k : Nat) : t.sysPage k = s.sysPage k := by
  unfold State.sysPage State.frameBase
  rw [h.get DMC.DRAM_GIB _ _ (by decide), h.get TIER.T1_FRAMES _ _ (by decide), h.get TIER.MIRROR_FRAMES _ _ (by decide), h.get FTL.SYS_BLKS _ _ (by decide)]

theorem unusedIndex (of : Region → Nat) (n : Nat) : t.unusedIndex of n = s.unusedIndex of n := by unfold State.unusedIndex; rw [h.xlt]
theorem regionLeaving (id : Nat) : t.regionLeaving id = s.regionLeaving id := by unfold State.regionLeaving; rw [h.xlt]
theorem regionNamed (id : Nat) : t.regionNamed id = s.regionNamed id := by unfold State.regionNamed; rw [h.xlt]

theorem with_regions (id : Nat) (d : Region) : ({ s with xlt.regions := tset s.xlt.regions id d } : State).Alike { t with xlt.regions := tset t.xlt.regions id d } := by
  rw [h.xlt]
  exact h.with_xlt _

/-- Blocks that are granted, with their entries and the descriptor that names them; too few leave the state a. -/
theorem granted {a b : State} (ab : a.Alike b) {α : Type} (n : Nat) (used : List Nat) (region first : Nat) (d : Region) (refused done : α) :
    State.AlikeP
      (match State.grantPbns n used [] s with
        | (z, pbns) => if pbns.length < n then (a, refused) else
            ({ z.putBmes region first pbns with xlt.regions := tset (z.putBmes region first pbns).xlt.regions region d }, done))
      (match State.grantPbns n used [] t with
        | (z, pbns) => if pbns.length < n then (b, refused) else
            ({ z.putBmes region first pbns with xlt.regions := tset (z.putBmes region first pbns).xlt.regions region d }, done)) := by
  obtain ⟨x, y, l, ex, ey, xy⟩ := (h.grantPbns n used []).split
  rw [ex, ey]
  exact (ab.pair _).ite (((xy.putBmes _ _ _).with_regions _ _).pair _)

theorem regionGrow (tenant id size : Nat) : State.AlikeP (s.regionGrow tenant id size) (t.regionGrow tenant id size) := by
  obtain ⟨a, b, c, ea, eb, ab⟩ := (h.t2Charge tenant (size - (s.regionAt id).size)).split
  unfold State.regionGrow
  dsimp only
  rw [h.regionAt, ea, eb]
  refine State.AlikeP.ite (h.pair _) ?_
  cases c with
  | some st => exact ab.pair _
  | none =>
    dsimp only
    rw [ab.heldPbns]
    exact ab.granted h _ _ _ _ _ _ _

theorem regionCreate (tenant id : Nat) (size d0 d1 : BitVec 32) (deadline : BitVec 20) (w : BitVec 4) :
    State.AlikeP (s.regionCreate tenant id size d0 d1 deadline w) (t.regionCreate tenant id size d0 d1 deadline w) := by
  obtain ⟨a, b, i, ea, eb, ab⟩ := (h.createId id).split
  unfold State.regionCreate
  rw [ea, eb]
  dsimp only
  rw [ab.regionAt, ab.sysPage, ab.unusedIndex, ab.unusedIndex, ab.regionLeaving, ab.free]
  refine State.AlikeP.ite (ab.pair _) (State.AlikeP.ite (ab.pair _) ?_)
  obtain ⟨x, y, c, ex, ey, xy⟩ := (ab.t2Charge tenant _).split
  rw [ex, ey]
  cases c with
  | some st => exact xy.pair _
  | none =>
    dsimp only
    rw [xy.heldPbns]
    exact (xy.with_free _).granted ab _ _ _ _ _ _ _

theorem putRegistration (i : Nat) (d : Registration) : (s.putRegistration i d).Alike (t.putRegistration i d) := by
  unfold State.putRegistration
  rw [h.xlt]
  exact h.with_xlt _

theorem regOpen (tenant : Nat) (d : Region) (id base len : Nat) (w r any : Bool) (node : Nat) :
    State.AlikeP (s.regOpen tenant d id base len w r any node) (t.regOpen tenant d id base len w r any node) := by
  unfold State.regOpen
  dsimp only
  rw [h.xlt, h.timeNs, h.free, h.registrationAt]
  exact (h.pair _).ite ((h.pair _).ite ((h.pair _).ite ((h.useFree.putRegistration _ _).pair _)))

end Regions
end State.Alike
end Sys2Proof.Machine
end

section
/-! SUPPORT. Looking up a place in the pan leads to such a state. -/
namespace Sys2Proof.Machine
namespace State.Alike

section Pan
variable {s t : State} (h : s.Alike t)
include h

theorem in_pan (x : PanState) : s.Alike { t with pan := x } := ⟨(congrArg (fun z : State => { z with pan := x }) h.rest :), h.rd, h.quotas⟩
theorem in_dmc (x : DmcState) : s.Alike { t with dmc := x } := ⟨(congrArg (fun z : State => { z with dmc := x }) h.rest :), h.rd, h.quotas⟩
theorem in_tier (x : TierState) (quotas : x.quotas = t.tier.quotas) : s.Alike { t with tier := x } :=
  ⟨(congrArg (fun z : State => { z with tier := x }) h.rest :), h.rd, quotas.trans h.quotas⟩

/-- A register of a slice's page is not looked at. -/
theorem in_slice {f : Fld} (v : Nat) {i : Nat} (j : Nat) (pan : f.blk = .pan) (hi : i < 256) (fits : f.place j < 32768) : s.Alike (t.put f v i j) := by
  refine ⟨(congrArg (fun z : State => { z with regs := (t.put f v i j).regs }) h.rest :), fun p g k off => ?_, h.quotas⟩
  refine Eq.trans ?_ (h.rd p g k off)
  obtain ⟨inst, other, place⟩ := off
  have apart : g.key p k ≠ f.key ⟨f.blk, i⟩ j := Fld.key_ne_page place fits inst hi fun e => other ((congrArg Page.blk e).trans pan)
  unfold State.put State.rd State.wr
  dsimp only
  split
  · rw [tget_tdel_ne _ apart]
  · rw [tget_tset_ne _ _ apart]

theorem if_then {c : Prop} [Decidable c] {u : State} (k : s.Alike u) : s.Alike (if c then t else u) := by
  split
  · exact h
  · exact k

theorem dramAsk (a : Nat) : s.Alike (t.dramAsk a) := by
  unfold State.dramAsk
  split
  · exact h
  · exact h.in_dmc _

theorem frameAsk (n : Nat) : s.Alike (t.frameAsk n) := by
  unfold State.frameAsk
  split
  · exact h.dramAsk _
  · exact h

theorem dramIssued (k : Nat) (ws : List QWrite) : s.Alike (t.dramIssued k ws) := by
  unfold State.dramIssued
  exact h.if_then (h.in_dmc _)

theorem dramAccept (a sector port : Nat) : s.Alike (t.dramAccept a sector port) := by
  unfold State.dramAccept
  split
  · exact h
  · exact ((h.dramAsk a).dramIssued _ _).in_tier _ rfl

theorem frameWrite (n : Nat) (v : SectorVal) (port : Nat) : s.Alike (t.frameWrite n v port) := by
  have stored := h.in_tier { t.tier with frames := if v = zeroSec then tdel t.tier.frames n else tset t.tier.frames n v } rfl
  unfold State.frameWrite
  dsimp only
  split
  · exact stored.dramAccept _ _ _
  · exact stored

theorem panWriteBack {k : Nat} (x : Line) (port : Nat) (slice : k / 32 / 8192 < 16) : s.Alike (t.panWriteBack k x port) := by
  have first := (h.frameWrite (keyLine k x * 2) x.s0.val port).if_then (c := x.s0.dirty = true) h
  unfold State.panWriteBack
  refine if_then ?_ h
  exact (((first.frameWrite _ _ _).if_then first).in_slice _ _ rfl (by omega) (by decide)).in_pan _

/-- A way is one of 24, and ageing the others changes lines only. -/
theorem panVictim {k w : Nat} {u : State} (found : t.panVictim k = some (w, u)) : w < 24 ∧ s.Alike u := by
  have way {f : Nat → Bool} {w : Nat} (e : (t.panCands k).find? f = some w) : w < 24 :=
    List.mem_range.mp (List.mem_filter.mp (List.mem_of_find?_eq_some e)).1
  have aged (up : Nat) (l : List Nat) (a : State) (ha : s.Alike a) :
      s.Alike (l.foldl (fun s w => { s with pan.lines := tmod s.pan.lines (k + w) fun x => { x with age := x.age + up } }) a) := by
    induction l generalizing a with
    | nil => exact ha
    | cons x l ih => exact ih _ (ha.in_pan _)
  unfold State.panVictim at found
  dsimp only at found
  split at found
  · rename_i e
    cases found
    exact ⟨way e, h⟩
  · split at found
    · rename_i e
      cases found
      exact ⟨way e, aged _ _ _ h⟩
    · cases found

theorem panInstall (l : Nat) (x : Line) (port : Nat) : s.Alike (t.panInstall l x port) := by
  have slice : sliceOf l < 16 := Nat.xor_lt_two_pow (n := 4) (Nat.mod_lt _ (by decide)) (Nat.mod_lt _ (by decide))
  have inSet : setOf l < 8192 := Nat.mod_lt _ (by decide)
  unfold State.panInstall
  dsimp only
  split
  · exact h
  · rename_i w u found
    obtain ⟨way, aged⟩ := h.panVictim found
    refine in_pan ?_ _
    split
    · exact aged.panWriteBack _ _ (by unfold setKey; omega)
    · exact aged

theorem panTouch (n age : Nat) (demand : Bool) (port : Nat) : s.Alike (t.panTouch n age demand port) := by
  have slice : sliceOf (n / 2) < 16 := Nat.xor_lt_two_pow (n := 4) (Nat.mod_lt _ (by decide)) (Nat.mod_lt _ (by decide))
  have counted (f : Fld) (pan : f.blk = .pan) (fits : f.place 0 < 32768) : s.Alike (if demand then t.incMod f 1 (sliceOf (n / 2)) else t) :=
    (h.in_slice _ _ pan (by omega) fits).if_then h
  unfold State.panTouch
  dsimp only
  split
  · have hit := counted PAN.HIT_CNT rfl (by decide)
    exact (hit.in_pan _).if_then ((hit.frameAsk _).in_pan _)
  · have miss := (counted PAN.MISS_CNT rfl (by decide)).frameAsk n
    exact (miss.panInstall _ _ _).if_then miss

end Pan

theorem placeRead (s : State) (pl : Place64) : s.Alike (s.placeRead pl).1 := by
  unfold State.placeRead
  split
  · split
    · exact (Alike.refl s).panTouch _ _ _ _
    · exact Alike.refl s
  · exact Alike.refl s

end State.Alike
end Sys2Proof.Machine
end

section
/-! SUPPORT. The fetch of a region command: it begins in a state alike the one after the checks of its ring. -/
namespace Sys2Proof.Machine

theorem readCmd_opcode {e : SqEntry} {c : QCmd} (h : readCmd e = some c) : (getAt e 0 8).toNat = c.opcode.toNat := by
  unfold readCmd at h
  dsimp only at h
  split at h <;> cases h <;> assumption

theorem QEntry.decode_opcode {e : SqEntry} {x : QEntry} (h : QEntry.decode e = some x) : (getAt e 0 8).toNat = x.cmd.opcode.toNat := by
  unfold QEntry.decode at h
  cases r : readCmd e with
  | none => rw [r] at h; cases h
  | some c =>
    rw [r] at h
    dsimp only at h
    split at h
    · cases h
      exact readCmd_opcode r
    · cases h

theorem State.placeRead_val (s : State) (pl : Place64) : (s.placeRead pl).2 = s.placeVal pl := by
  unfold State.placeRead
  dsimp only
  split
  · split <;> rfl
  · rfl

theorem State.Alike.begun {s t : State} (h : s.Alike t) (q : Nat) (c : QueueCtx) (y : Cmd) : (s.begun q c y).Alike (t.begun q c y) := by
  unfold State.begun
  rw [h.qe]
  exact h.with_qe _

theorem State.Alike.flight {s t : State} (h : s.Alike t) (q : Nat) (c : QueueCtx) (x : QEntry) : t.flight q c x = s.flight q c x := by
  unfold State.flight State.newCmd
  rw [h.qe, h.timeNs]

/-- A fetched command that moves no data goes on to what its opcode does. -/
theorem State.fetch_begins {s u : State} {q op : Nat} {e : SqEntry} {c : QueueCtx} {x : QEntry} (h : s.fetches q e c x u) (code : x.cmd.opcode.toNat = op)
    (still : x.cmd.moves = false) :
    ∃ b, (u.begun q c (u.flight q c x)).Alike b ∧ ∀ k : State → Cmd → State, s.fetch q e op k = k b (u.flight q c x) := by
  obtain ⟨queue, ready, sound, entry, form, v, d, pl, walk, place, val⟩ := h
  have looked := State.Alike.placeRead u pl
  refine ⟨((u.placeRead pl).1).begun q c (u.flight q c x), looked.begun _ _ _, fun k => ?_⟩
  have pair : u.placeRead pl = ((u.placeRead pl).1, { data := e, poison := false }) := Prod.ext rfl ((u.placeRead_val pl).trans val)
  have opcode : (getAt e 0 8).toNat = op := (QEntry.decode_opcode entry).trans code
  rw [← looked.flight]
  unfold State.fetch
  rw [queue]
  dsimp only
  rw [walk]
  dsimp only
  rw [place]
  dsimp only
  rw [pair, entry]
  simp only [ready, sound, opcode, form, still, Bool.not_true, Bool.false_eq_true, Bool.false_or, Bool.false_and, ne_eq, not_true_eq_false, decide_false, if_false]
  rfl

end Sys2Proof.Machine
end

section
/-! SUPPORT. What a region operation that is accepted leaves behind, and O5. -/
namespace Sys2Proof.Machine

/-! ## Region operations (R70, R72, R84) -/

theorem State.createId_regionAt (s : State) (id r : Nat) : (s.createId id).1.regionAt r = s.regionAt r := by
  unfold State.createId
  split <;> rfl

theorem State.createId_asked (s : State) {id : Nat} (asked : id ≠ 0xFFFFFF) : (s.createId id).2 = id := by
  unfold State.createId
  rw [if_neg asked]

/-- A descriptor that REGION_CREATE has written under a handle. -/
structure Region.Created (d : Region) (size d0 : BitVec 32) (tenant handle old : Nat) : Prop where
  valid : d.valid = true
  size : d.size = size.toNat
  tenant : d.tenant = tenant
  pclass : d.pclass = (d0.extractLsb' 28 2).toNat
  gen : d.gen = handle % 65536
  next : d.gen = (old + 1) % 65536

theorem State.t2Charge_status {s a : State} {t n : Nat} {st : Status} (h : s.t2Charge t n = (a, some st)) : st ≠ .ok := by
  unfold State.t2Charge at h
  dsimp only at h
  split at h
  · cases h; decide
  · split at h
    · cases h; decide
    · cases h

theorem State.regionCreate_accepted {s v : State} {tenant id : Nat} {size d0 d1 : BitVec 32} {deadline : BitVec 20} {w : BitVec 4} {r : CmdResult}
    (h : s.regionCreate tenant id size d0 d1 deadline w = (v, r)) (ok : r.status = .ok) :
    ∃ d, tget v.xlt.regions (r.result0 / 65536) = some d ∧ Region.Created d size d0 tenant r.result0 (s.regionAt (r.result0 / 65536)).gen ∧
      (id ≠ 0xFFFFFF → r.result0 / 65536 = id) := by
  have asked := s.createId_asked (id := id)
  have old := s.createId_regionAt id
  unfold State.regionCreate at h
  generalize s.createId id = x at h asked old
  obtain ⟨a, i⟩ := x
  have refused {z : State} {st : Status} (bad : st ≠ .ok) (e : (z, failResult st) = (v, r)) : False := by
    cases e
    exact bad ok
  dsimp only at h
  generalize written : Region.wbits _ w = ask at h
  have gen : ((a.regionAt i).gen + 1) % 65536 = ask.gen := congrArg Region.gen written
  split at h
  · exact (refused (by decide) h).elim
  · split at h
    · exact (refused (by decide) h).elim
    · split at h
      · rename_i charge
        exact (refused (State.t2Charge_status charge) h).elim
      · split at h
        · exact (refused (by decide) h).elim
        · cases h
          have region : (i * 65536 + ask.gen) / 65536 = i := by omega
          have created : Region.Created ask.seal size d0 tenant (i * 65536 + ask.gen) (s.regionAt i).gen := by
            rw [← old, ← written]
            exact ⟨rfl, rfl, rfl, rfl, by rw [written]; show ask.gen = _; omega, rfl⟩
          refine ⟨ask.seal, ?_, ?_, fun e => region.trans (asked e)⟩
          · dsimp only
            rw [region, tget_tset_same]
          · dsimp only
            rw [region]
            exact created

theorem State.regionGrow_accepted {s v : State} {tenant id size : Nat} (h : s.regionGrow tenant id size = (v, none)) : (v.regionAt id).size = size := by
  unfold State.regionGrow at h
  dsimp only at h
  split at h
  · cases h
  · split at h
    · cases h
    · split at h
      · cases h
      · cases h
        unfold State.regionAt
        rw [tget_tset_same]
        rfl

theorem State.regOpen_accepted {s v : State} {tenant : Nat} {d : Region} {id base len : Nat} {w r any : Bool} {node : Nat} {q : CmdResult}
    (h : s.regOpen tenant d id base len w r any node = (v, q)) (ok : q.status = .ok) :
    ∃ g, tget v.xlt.registrations (keyIndex q.result0) = some g ∧ g.state = .opened ∧ g.gen = keyGen q.result0 ∧ g.tenant = tenant ∧ g.region = id ∧ g.baseOff = base ∧
      g.length = len ∧ g.w = w ∧ g.r = r := by
  have refused {z : State} {st : Status} (bad : st ≠ .ok) (e : (z, failResult st) = (v, q)) : False := by
    cases e
    exact bad ok
  unfold State.regOpen at h
  dsimp only at h
  split at h
  · exact (refused (by decide) h).elim
  · split at h
    · exact (refused (by decide) h).elim
    · split at h
      · exact (refused (by decide) h).elim
      · generalize nthFree _ _ = i at h
        cases h
        have gen : ((s.registrationAt i).gen + 1) % 1024 < 1024 := Nat.mod_lt _ (by decide)
        have index : keyIndex (i * 1024 + ((s.registrationAt i).gen + 1) % 1024) = i := by unfold keyIndex; omega
        have current : ((s.registrationAt i).gen + 1) % 1024 = keyGen (i * 1024 + ((s.registrationAt i).gen + 1) % 1024) := by unfold keyGen; omega
        dsimp only
        rw [index, ← current]
        exact ⟨_, tget_tset_same .., rfl, rfl, rfl, rfl, rfl, rfl, rfl, rfl⟩

/-! ## The commands -/

/-- A command in flight without a result gets the one it is given. -/
theorem State.done_mem {s : State} {y : Cmd} (r : CmdResult) (h : y ∈ s.qe.cmds) (waits : y.result = none) : { y with result := some r } ∈ (s.done y r).qe.cmds :=
  List.mem_map.mpr ⟨y, h, if_pos ⟨rfl, by rw [waits]; rfl⟩⟩

section Begun
variable {s u b : State} {q : Nat} {e : SqEntry} {c : QueueCtx} {x : QEntry}

theorem State.begun_mem (u : State) (q : Nat) (c : QueueCtx) (y : Cmd) : y ∈ (u.begun q c y).qe.cmds := List.mem_append_right _ (List.mem_singleton.mpr rfl)

theorem State.Alike.begun_mem {y : Cmd} (h : (u.begun q c y).Alike b) : y ∈ b.qe.cmds := by
  rw [h.qe]
  exact u.begun_mem q c y

theorem State.fetches_timeNs (h : s.fetches q e c x u) : u.timeNs = s.timeNs := by
  obtain ⟨-, -, -, -, -, v, d, pl, walk, place, -⟩ := h
  have walked := (s.walkQueue_keeps c.tenant (BitVec.ofNat 40 c.ringHandle) (c.sqOff + c.sqHead * 64) 64 false).kept .timeNs (by decide)
  have placed := (v.resolve_keeps (c.ringHandle / 65536) d (c.sqOff + c.sqHead * 64)).kept .timeNs (by decide)
  rw [walk] at walked
  rw [place] at placed
  exact Eq.trans placed walked

end Begun

theorem State.Alike.walked {s t v : State} (h : s.Alike t) {tenant : Nat} {n : BitVec 40} {off len : Nat} {write : Bool} {r : Except Status Region}
    (walk : s.walkQueue tenant n off len write = (v, r)) : ∃ z, t.walkQueue tenant n off len write = (z, r) ∧ v.Alike z ∧ z.qe = t.qe := by
  have results := h.walkQueue tenant n off len write
  have qe : (t.walkQueue tenant n off len write).1.qe = t.qe := (t.walkQueue_keeps ..).kept .qe (by decide)
  rw [walk] at results
  exact ⟨_, Prod.ext rfl results.2, results.1, qe⟩

theorem State.regionOp_ok {s v : State} {y : Cmd} {n : BitVec 40} {d : Region} (walk : s.walkQueue y.tenant n 0 0 false = (v, .ok d)) (k : State → Region → State) :
    s.regionOp y n k = k v d := by
  unfold State.regionOp
  rw [walk]

theorem State.regionInval_idle {s : State} (idle : s.xlt.invalBusy = none) (id : Nat) (w : InvalFor) : s.regionInval id w = s.invalRun ⟨0, id, w⟩ :=
  State.inval_idle (by decide) id w idle

section Commands
variable {s u v : State} {qid : BitVec 20} {e : SqEntry} {c : QueueCtx} {x : QEntry}

theorem exec_regionCreate (h : s.fetches qid.toNat e c x u) {id : BitVec 24} {size d0 d1 : BitVec 32} {dl : BitVec 20} {w : BitVec 4} {r : CmdResult}
    (cmd : x.cmd = .regionCreate id size d0 d1 dl w)
    (made : (u.begun qid.toNat c (u.flight qid.toNat c x)).regionCreate c.tenant id.toNat size d0 d1 dl w = (v, r)) (ok : r.status = .ok) (idle : v.xlt.invalBusy = none) :
    ∃ z, v.Alike z ∧ u.flight qid.toNat c x ∈ z.qe.cmds ∧
      exec (.regionCreate qid e) s = .next (z.invalRun ⟨0, r.result0 / 65536, .create qid.toNat x.cmdId.toNat r.result0⟩) := by
  obtain ⟨b, alike, fetched⟩ := State.fetch_begins (op := 0x20) h (by rw [cmd]; rfl) (by rw [cmd]; rfl)
  have results := alike.regionCreate c.tenant id.toNat size d0 d1 dl w
  have qe : (b.regionCreate c.tenant id.toNat size d0 d1 dl w).1.qe = b.qe := (b.regionCreate_keeps ..).kept .qe (by decide)
  rw [made] at results
  have same : b.regionCreate (u.flight qid.toNat c x).tenant id.toNat size d0 d1 dl w = ((b.regionCreate c.tenant id.toNat size d0 d1 dl w).1, r) := Prod.ext rfl results.2
  refine ⟨_, results.1, by rw [qe]; exact alike.begun_mem, ?_⟩
  show execRegionCreate qid e s = _
  unfold execRegionCreate
  rw [fetched, show (u.flight qid.toNat c x).cmd = _ from cmd]
  dsimp only
  rw [same]
  dsimp only
  rw [if_pos ok, State.regionInval_idle (by rw [results.1.xlt]; exact idle)]
  rfl

theorem exec_regionGrow (h : s.fetches qid.toNat e c x u) {n : BitVec 40} {size : BitVec 32} {w : State} {d : Region} (cmd : x.cmd = .regionGrow n size)
    (walk : (u.begun qid.toNat c (u.flight qid.toNat c x)).walkQueue c.tenant n 0 0 false = (v, .ok d))
    (grown : v.regionGrow c.tenant (handleId n) size.toNat = (w, none)) (idle : w.xlt.invalBusy = none) :
    ∃ z, w.Alike z ∧ u.flight qid.toNat c x ∈ z.qe.cmds ∧
      exec (.regionGrow qid e) s = .next (z.invalRun ⟨0, handleId n, .command qid.toNat x.cmdId.toNat⟩) := by
  obtain ⟨b, alike, fetched⟩ := State.fetch_begins (op := 0x21) h (by rw [cmd]; rfl) (by rw [cmd]; rfl)
  obtain ⟨a, walked, va, aqe⟩ := alike.walked walk
  have results := va.regionGrow c.tenant (handleId n) size.toNat
  have qe : (a.regionGrow c.tenant (handleId n) size.toNat).1.qe = a.qe := (a.regionGrow_keeps ..).kept .qe (by decide)
  rw [grown] at results
  have same : a.regionGrow (u.flight qid.toNat c x).tenant (handleId n) size.toNat = ((a.regionGrow c.tenant (handleId n) size.toNat).1, none) := Prod.ext rfl results.2
  refine ⟨_, results.1, by rw [qe, aqe]; exact alike.begun_mem, ?_⟩
  show execRegionGrow qid e s = _
  unfold execRegionGrow
  rw [fetched, show (u.flight qid.toNat c x).cmd = _ from cmd]
  dsimp only
  rw [State.regionOp_ok walked, same]
  dsimp only
  rw [State.regionInval_idle (by rw [results.1.xlt]; exact idle)]
  rfl

/-- A descriptor that is no longer valid. -/
def State.regionGone (s : State) (id : Nat) (d : Region) : State := { s with xlt.regions := tset s.xlt.regions id (Region.seal { d with valid := false }) }

theorem exec_regionDelete (h : s.fetches qid.toNat e c x u) {n : BitVec 40} {d : Region} (cmd : x.cmd = .regionDelete n)
    (walk : (u.begun qid.toNat c (u.flight qid.toNat c x)).walkQueue c.tenant n 0 0 false = (v, .ok d)) :
    ∃ z, v.Alike z ∧ u.flight qid.toNat c x ∈ z.qe.cmds ∧
      exec (.regionDelete qid e) s = .next (if v.regionNamed (handleId n) then z.done (u.flight qid.toNat c x) (failResult .aborted)
        else (z.regionGone (handleId n) d).regionInval (handleId n) (.delete qid.toNat x.cmdId.toNat (handleId n))) := by
  obtain ⟨b, alike, fetched⟩ := State.fetch_begins (op := 0x22) h (by rw [cmd]; rfl) (by rw [cmd]; rfl)
  obtain ⟨z, walked, vz, qe⟩ := alike.walked walk
  refine ⟨z, vz, by rw [qe]; exact alike.begun_mem, ?_⟩
  show execRegionDelete qid e s = _
  unfold execRegionDelete
  rw [fetched, show (u.flight qid.toNat c x).cmd = _ from cmd]
  dsimp only
  rw [State.regionOp_ok walked, vz.regionNamed]
  rfl

theorem exec_regOpen (h : s.fetches qid.toNat e c x u) {n : BitVec 40} {base len : BitVec 64} {w r any : Bool} {node : BitVec 18} {d : Region} {z : State} {q : CmdResult}
    (cmd : x.cmd = .regOpen n base len w r any node)
    (walk : (u.begun qid.toNat c (u.flight qid.toNat c x)).walkQueue c.tenant n base.toNat len.toNat false = (v, .ok d))
    (opened : v.regOpen c.tenant d (handleId n) base.toNat len.toNat w r any node.toNat = (z, q)) :
    ∃ y, z.Alike y ∧ u.flight qid.toNat c x ∈ y.qe.cmds ∧ exec (.regOpen qid e) s = .next (y.done (u.flight qid.toNat c x) q) := by
  obtain ⟨b, alike, fetched⟩ := State.fetch_begins (op := 0x24) h (by rw [cmd]; rfl) (by rw [cmd]; rfl)
  obtain ⟨a, walked, va, aqe⟩ := alike.walked walk
  have results := va.regOpen c.tenant d (handleId n) base.toNat len.toNat w r any node.toNat
  have qe : (a.regOpen c.tenant d (handleId n) base.toNat len.toNat w r any node.toNat).1.qe = a.qe := (a.regOpen_keeps ..).kept .qe (by decide)
  rw [opened] at results
  refine ⟨_, results.1, by rw [qe, aqe]; exact alike.begun_mem, ?_⟩
  show execRegOpen qid e s = _
  unfold execRegOpen
  rw [fetched, show (u.flight qid.toNat c x).cmd = _ from cmd]
  dsimp only
  rw [show b.walkQueue (u.flight qid.toNat c x).tenant n base.toNat len.toNat false = (a, .ok d) from walked]
  dsimp only
  rw [show (a.regOpen (u.flight qid.toNat c x).tenant d (handleId n) base.toNat len.toNat w r any node.toNat).2 = q from results.2]
  rfl

theorem exec_revoke (h : s.fetches qid.toNat e c x u) {key : BitVec 32} {d : Registration} (cmd : x.cmd = .revoke key)
    (at_ : u.registrationAt (keyIndex key.toNat) = d) (mine : d.tenant = c.tenant) (gen : d.gen = keyGen key.toNat) (opened : d.state = .opened) :
    ∃ b : State, b.timeNs = s.timeNs ∧ b.registrationAt (keyIndex key.toNat) = d ∧ u.flight qid.toNat c x ∈ b.qe.cmds ∧ exec (.revoke qid e) s = .next (b.revoke key.toNat).1 := by
  obtain ⟨b, alike, fetched⟩ := State.fetch_begins (op := 0x25) h (by rw [cmd]; rfl) (by rw [cmd]; rfl)
  have here : b.registrationAt (keyIndex key.toNat) = d := (alike.registrationAt _).trans at_
  refine ⟨b, alike.timeNs.trans (State.fetches_timeNs h :), here, alike.begun_mem, ?_⟩
  show execRevoke qid e s = _
  unfold execRevoke
  rw [fetched, show (u.flight qid.toNat c x).cmd = _ from cmd]
  dsimp only
  rw [here, if_neg fun other => other mine]
  by_cases idle : d.inflight = 0
  · rw [State.revoke_idle here gen opened idle]
  · rw [State.revoke_inflight here gen opened idle]

end Commands

/-- A REVOKE in flight for a key ends when its registration is FREE (R96). -/
theorem State.registrationFree_mem {s : State} {i : Nat} {d : Registration} {y : Cmd} {key : BitVec 32} (h : y ∈ s.qe.cmds) (cmd : y.cmd = .revoke key) (waits : y.result = none)
    (own : key.toNat = i * 1024 + d.gen) : { y with result := some { okResult with detail := d.refused } } ∈ (s.registrationFree i d).qe.cmds := by
  unfold State.registrationFree
  dsimp only
  refine List.mem_map.mpr ⟨y, ?_, ?_⟩
  · rw [State.occur_qe]
    exact h
  · rw [cmd]
    dsimp only
    rw [if_pos ⟨own, by rw [waits]; rfl⟩]
    rfl
section Clauses
variable {s u v : State} {qid : BitVec 20} {e : SqEntry} {c : QueueCtx} {x : QEntry}

theorem regionCommands_create (hs : s.regsOk) (h : s.fetches qid.toNat e c x u) {id : BitVec 24} {size d0 d1 : BitVec 32} {dl : BitVec 20} {w : BitVec 4} {r : CmdResult}
    (cmd : x.cmd = .regionCreate id size d0 d1 dl w)
    (made : (u.begun qid.toNat c (u.flight qid.toNat c x)).regionCreate c.tenant id.toNat size d0 d1 dl w = (v, r)) (ok : r.status = .ok) (idle : v.xlt.invalBusy = none) :
    ∃ t d, exec (.regionCreate qid e) s = .next t ∧ u.flight qid.toNat c x ∈ t.qe.cmds ∧
      t.xlt.invalBusy = some ⟨0, r.result0 / 65536, .create qid.toNat x.cmdId.toNat r.result0⟩ ∧ tget t.xlt.regions (r.result0 / 65536) = some d ∧
      d.valid = true ∧ d.size = size.toNat ∧ d.tenant = c.tenant ∧ d.pclass = (d0.extractLsb' 28 2).toNat ∧ d.gen = r.result0 % 65536 ∧
      d.gen = ((u.regionAt (r.result0 / 65536)).gen + 1) % 65536 ∧ (id ≠ 0xFFFFFF → r.result0 / 65536 = id.toNat) ∧
      s.frame t ([.xlt, .qe, .tier, .pan, .dmc] ++ reported) ([XLT.BUSY, PAN.HIT_CNT, PAN.MISS_CNT, PAN.WB_CNT] ++ reportedFields) := by
  obtain ⟨z, alike, waits, done⟩ := exec_regionCreate h cmd made ok idle
  obtain ⟨d, stored, created, asked⟩ := State.regionCreate_accepted made ok
  refine ⟨_, d, done, waits, rfl, ?_, created.valid, created.size, created.tenant, created.pclass, created.gen, created.next,
    fun other => asked fun same => other (BitVec.eq_of_toNat_eq same), ((execRegionCreate_keeps ..).out done).frame hs (by decide)⟩
  show tget z.xlt.regions _ = _
  rw [alike.xlt]
  exact stored

theorem regionCommands_grow (hs : s.regsOk) (h : s.fetches qid.toNat e c x u) {n : BitVec 40} {size : BitVec 32} {w : State} {d : Region} (cmd : x.cmd = .regionGrow n size)
    (walk : (u.begun qid.toNat c (u.flight qid.toNat c x)).walkQueue c.tenant n 0 0 false = (v, .ok d))
    (grown : v.regionGrow c.tenant (handleId n) size.toNat = (w, none)) (idle : w.xlt.invalBusy = none) :
    ∃ t, exec (.regionGrow qid e) s = .next t ∧ (t.regionAt (handleId n)).size = size.toNat ∧
      t.xlt.invalBusy = some ⟨0, handleId n, .command qid.toNat x.cmdId.toNat⟩ ∧ u.flight qid.toNat c x ∈ t.qe.cmds ∧
      s.frame t ([.xlt, .qe, .tier, .pan, .dmc] ++ reported) ([XLT.BUSY, PAN.HIT_CNT, PAN.MISS_CNT, PAN.WB_CNT] ++ reportedFields) := by
  obtain ⟨z, alike, waits, done⟩ := exec_regionGrow h cmd walk grown idle
  refine ⟨_, done, ?_, rfl, waits, ((execRegionGrow_keeps ..).out done).frame hs (by decide)⟩
  show (z.regionAt _).size = _
  rw [alike.regionAt]
  exact State.regionGrow_accepted grown

theorem regionCommands_delete (hs : s.regsOk) (h : s.fetches qid.toNat e c x u) {n : BitVec 40} {d : Region} (cmd : x.cmd = .regionDelete n)
    (walk : (u.begun qid.toNat c (u.flight qid.toNat c x)).walkQueue c.tenant n 0 0 false = (v, .ok d)) (unnamed : v.regionNamed (handleId n) = false)
    (idle : v.xlt.invalBusy = none) :
    ∃ t, exec (.regionDelete qid e) s = .next t ∧ (t.regionAt (handleId n)).valid = false ∧
      t.xlt.invalBusy = some ⟨0, handleId n, .delete qid.toNat x.cmdId.toNat (handleId n)⟩ ∧ u.flight qid.toNat c x ∈ t.qe.cmds ∧
      s.frame t ([.xlt, .qe, .tier, .pan, .dmc] ++ reported) ([XLT.BUSY, PAN.HIT_CNT, PAN.MISS_CNT, PAN.WB_CNT] ++ reportedFields) := by
  obtain ⟨z, alike, waits, done⟩ := exec_regionDelete h cmd walk
  rw [unnamed, if_neg Bool.false_ne_true, State.regionInval_idle (s := z.regionGone _ _) (by show z.xlt.invalBusy = none; rw [alike.xlt]; exact idle)] at done
  refine ⟨_, done, ?_, rfl, waits, ((execRegionDelete_keeps ..).out done).frame hs (by decide)⟩
  show ((tget (tset z.xlt.regions (handleId n) _) (handleId n)).getD noRegion).valid = false
  rw [tget_tset_same]
  rfl

theorem regionCommands_named (hs : s.regsOk) (h : s.fetches qid.toNat e c x u) {n : BitVec 40} {d : Region} (cmd : x.cmd = .regionDelete n)
    (walk : (u.begun qid.toNat c (u.flight qid.toNat c x)).walkQueue c.tenant n 0 0 false = (v, .ok d)) (named : v.regionNamed (handleId n) = true) :
    ∃ t, exec (.regionDelete qid e) s = .next t ∧ t.xlt.regions = v.xlt.regions ∧ { u.flight qid.toNat c x with result := some (failResult .aborted) } ∈ t.qe.cmds ∧
      s.frame t ([.xlt, .qe, .tier, .pan, .dmc] ++ reported) ([XLT.BUSY, PAN.HIT_CNT, PAN.MISS_CNT, PAN.WB_CNT] ++ reportedFields) := by
  obtain ⟨z, alike, waits, done⟩ := exec_regionDelete h cmd walk
  rw [named, if_pos rfl] at done
  exact ⟨_, done, congrArg XltState.regions alike.xlt, State.done_mem _ waits rfl, ((execRegionDelete_keeps ..).out done).frame hs (by decide)⟩

theorem regionCommands_open (hs : s.regsOk) (h : s.fetches qid.toNat e c x u) {n : BitVec 40} {base len : BitVec 64} {w r any : Bool} {node : BitVec 18} {d : Region} {z : State}
    {q : CmdResult} (cmd : x.cmd = .regOpen n base len w r any node)
    (walk : (u.begun qid.toNat c (u.flight qid.toNat c x)).walkQueue c.tenant n base.toNat len.toNat false = (v, .ok d))
    (opened : v.regOpen c.tenant d (handleId n) base.toNat len.toNat w r any node.toNat = (z, q)) (ok : q.status = .ok) :
    ∃ t g, exec (.regOpen qid e) s = .next t ∧ { u.flight qid.toNat c x with result := some q } ∈ t.qe.cmds ∧ tget t.xlt.registrations (keyIndex q.result0) = some g ∧
      g.state = .opened ∧ g.gen = keyGen q.result0 ∧ g.tenant = c.tenant ∧ g.region = handleId n ∧ g.baseOff = base.toNat ∧ g.length = len.toNat ∧ g.w = w ∧ g.r = r ∧
      s.frame t ([.xlt, .qe, .tier, .pan, .dmc] ++ reported) ([PAN.HIT_CNT, PAN.MISS_CNT, PAN.WB_CNT] ++ reportedFields) := by
  obtain ⟨y, alike, waits, done⟩ := exec_regOpen h cmd walk opened
  obtain ⟨g, stored, state, gen, tenant, region, off, length, write, read⟩ := State.regOpen_accepted opened ok
  refine ⟨_, g, done, State.done_mem _ waits rfl, ?_, state, gen, tenant, region, off, length, write, read, ((execRegOpen_keeps ..).out done).frame hs (by decide)⟩
  show tget y.xlt.registrations _ = _
  rw [alike.xlt]
  exact stored

theorem regionCommands_revoke (hs : s.regsOk) (h : s.fetches qid.toNat e c x u) {key : BitVec 32} {d : Registration} (cmd : x.cmd = .revoke key)
    (at_ : u.registrationAt (keyIndex key.toNat) = d) (mine : d.tenant = c.tenant) (gen : d.gen = keyGen key.toNat) (opened : d.state = .opened) (busy : d.inflight ≠ 0) :
    ∃ t, exec (.revoke qid e) s = .next t ∧ t.registrationAt (keyIndex key.toNat) = { d with state := .closing, revokeStamp := s.timeNs } ∧
      u.flight qid.toNat c x ∈ t.qe.cmds ∧ s.frame t ([.xlt, .qe, .tier, .pan, .dmc] ++ reported) ([PAN.HIT_CNT, PAN.MISS_CNT, PAN.WB_CNT] ++ reportedFields) := by
  obtain ⟨b, now, here, waits, done⟩ := exec_revoke h cmd at_ mine gen opened
  rw [State.revoke_inflight here gen opened busy, now] at done
  exact ⟨_, done, State.registrationAt_put_same .., waits, ((execRevoke_keeps ..).out done).frame hs (by decide)⟩

theorem regionCommands_revokeIdle (hs : s.regsOk) (h : s.fetches qid.toNat e c x u) {key : BitVec 32} {d : Registration} (cmd : x.cmd = .revoke key)
    (at_ : u.registrationAt (keyIndex key.toNat) = d) (mine : d.tenant = c.tenant) (gen : d.gen = keyGen key.toNat) (opened : d.state = .opened) (idle : d.inflight = 0) :
    ∃ t, exec (.revoke qid e) s = .next t ∧ (t.registrationAt (keyIndex key.toNat)).state = .free ∧
      { u.flight qid.toNat c x with result := some { okResult with detail := d.refused } } ∈ t.qe.cmds ∧
      s.frame t ([.xlt, .qe, .tier, .pan, .dmc] ++ reported) ([PAN.HIT_CNT, PAN.MISS_CNT, PAN.WB_CNT] ++ reportedFields) := by
  obtain ⟨b, now, here, waits, done⟩ := exec_revoke h cmd at_ mine gen opened
  rw [State.revoke_idle here gen opened idle] at done
  have own : key.toNat = keyIndex key.toNat * 1024 + d.gen := by
    rw [gen]
    unfold keyIndex keyGen
    omega
  refine ⟨_, done, ?_, State.registrationFree_mem (d := { d with state := .closing, revokeStamp := b.timeNs }) waits cmd rfl own, ((execRevoke_keeps ..).out done).frame hs (by decide)⟩
  exact congrArg Registration.state (State.registrationFree_at ..)

end Clauses

/-- Settles O5: every clause is the lemma above of its command. -/
theorem regionCommands : Obligations.RegionCommands := by
  unfold Obligations.RegionCommands
  refine ⟨?create, ?grow, ?delete, ?named, ?opens, ?revoke, ?revokeIdle⟩
  case create => exact fun _ _ _ _ _ _ _ _ _ _ _ _ _ _ hs h cmd made ok idle => regionCommands_create hs h cmd made ok idle
  case grow => exact fun _ _ _ _ _ _ _ _ _ _ _ hs h cmd walk grown idle => regionCommands_grow hs h cmd walk grown idle
  case delete => exact fun _ _ _ _ _ _ _ _ _ hs h cmd walk unnamed idle => regionCommands_delete hs h cmd walk unnamed idle
  case named => exact fun _ _ _ _ _ _ _ _ _ hs h cmd walk named => regionCommands_named hs h cmd walk named
  case opens => exact fun _ _ _ _ _ _ _ _ _ _ _ _ _ _ _ _ _ hs h cmd walk opened ok => regionCommands_open hs h cmd walk opened ok
  case revoke => exact fun _ _ _ _ _ _ _ _ hs h cmd at_ mine gen opened busy => regionCommands_revoke hs h cmd at_ mine gen opened busy
  case revokeIdle => exact fun _ _ _ _ _ _ _ _ hs h cmd at_ mine gen opened idle => regionCommands_revokeIdle hs h cmd at_ mine gen opened idle

end Sys2Proof.Machine
end

section
/-! SUPPORT. Cemanor: what sending a control packet, accepting a packet and pumping leave of a connection, and which registers they reach. -/
namespace Sys2Proof.Machine

theorem State.conn_putConn_same (s : State) (i : Nat) (c : Conn) : (s.putConn i c).conn i = c := by
  unfold State.conn State.putConn
  rw [tget_tset_same]
  rfl

theorem State.conn_modConn (s : State) (i : Nat) (f : Conn → Conn) : (s.modConn i f).conn i = f (s.conn i) := State.conn_putConn_same ..

theorem State.conn_of_cmn {s t : State} (h : t.cmn = s.cmn) (i : Nat) : t.conn i = s.conn i := by
  unfold State.conn
  rw [h]

theorem State.sendFrame_conn (s : State) (op : Nat) (p : Packet) (i : Nat) : (s.sendFrame op p).conn i = s.conn i := rfl

/-! ## Control packets and acceptance (R420, R424, R428, R429) -/

/-- d differs from c in its receive windows, what it owes and has named in NACKs, and the control sequences it has used, at most. -/
def Conn.Acks (c d : Conn) : Prop :=
  d = { c with rx0 := d.rx0, rx1 := d.rx1, owed := d.owed, nacked := d.nacked, txCtl0 := d.txCtl0, txCtl1 := d.txCtl1 }

theorem Conn.Acks.trans {c d e : Conn} (h : c.Acks d) (k : d.Acks e) : c.Acks e := by
  unfold Conn.Acks at *
  rw [k, h]

theorem Conn.ctlSent_acks (c : Conn) (phase : Bool) : c.Acks (c.ctlSent phase) := by cases phase <;> rfl
theorem Conn.rx_ctlSent (c : Conn) (phase ph : Bool) : (c.ctlSent phase).rx ph = c.rx ph := by cases phase <;> rfl

/-- A control packet leaves, or finds no path. -/
theorem State.sendCtl_cases (s : State) (i op : Nat) (path : Option Nat) (fill : Packet → Packet) :
    s.sendCtl i op path fill = s ∨
      ∃ way : CmnPath, s.sendCtl i op path fill = (s.putConn i ((s.conn i).ctlSent (fill (s.conn i).blank).phase)).sendFrame op
        (({ fill (s.conn i).blank with psn := BitVec.ofNat 32 ((s.conn i).txCtl (fill (s.conn i).blank).phase) } : Packet).via way) := by
  unfold State.sendCtl
  dsimp only
  split
  · exact .inr ⟨_, rfl⟩
  · exact .inl rfl

/-- The best path is one of the connection's. -/
theorem State.sendCtl_best (s : State) (i op : Nat) (fill : Packet → Packet) (paths : (s.conn i).paths ≠ []) :
    ∃ way : CmnPath, s.sendCtl i op none fill = (s.putConn i ((s.conn i).ctlSent (fill (s.conn i).blank).phase)).sendFrame op
      (({ fill (s.conn i).blank with psn := BitVec.ofNat 32 ((s.conn i).txCtl (fill (s.conn i).blank).phase) } : Packet).via way) := by
  unfold State.sendCtl
  dsimp only
  cases pick : (s.conn i).pick none with
  | some e => exact ⟨e.2.path, rfl⟩
  | none => cases list : (s.conn i).paths with
    | nil => exact absurd list paths
    | cons e l => exact ⟨e.2.path, rfl⟩

theorem State.sendCtl_acks (s : State) (i op : Nat) (path : Option Nat) (fill : Packet → Packet) :
    (s.conn i).Acks ((s.sendCtl i op path fill).conn i) ∧ ∀ ph, ((s.sendCtl i op path fill).conn i).rx ph = (s.conn i).rx ph := by
  rcases s.sendCtl_cases i op path fill with e | ⟨way, e⟩
  · rw [e]
    exact ⟨rfl, fun _ => rfl⟩
  · rw [e, State.sendFrame_conn, State.conn_putConn_same]
    exact ⟨Conn.ctlSent_acks .., Conn.rx_ctlSent _ _⟩

theorem State.sendAck_acks (s : State) (i : Nat) (phase : Bool) (path : Option Nat) :
    (s.conn i).Acks ((s.sendAck i phase path).conn i) ∧ ∀ ph, ((s.sendAck i phase path).conn i).rx ph = (s.conn i).rx ph := by
  unfold State.sendAck
  dsimp only
  have sent := (s.putConn i { s.conn i with owed := 0 }).sendCtl_acks i opAck path fun p =>
    { p with phase := phase, rkey := BitVec.ofNat 32 (((s.conn i).rx phase).base + 2 ^ 32 - 1), offset := BitVec.ofNat 40 ((s.conn i).ceCount * 256) }
  rw [State.conn_putConn_same] at sent
  exact ⟨Conn.Acks.trans (c := s.conn i) (d := { s.conn i with owed := 0 }) rfl sent.1, fun ph => (sent.2 ph).trans (by cases ph <;> rfl)⟩

/-- The receive window of a phase with a number taken. -/
def RxPhase.took (r : RxPhase) (psn : Nat) : RxPhase :=
  { r with base := advance ((r.acc ++ [psn]).length + 1) r.base (r.acc ++ [psn]),
           acc := (r.acc ++ [psn]).filter fun x => advance ((r.acc ++ [psn]).length + 1) r.base (r.acc ++ [psn]) ≤ x }

theorem RxPhase.took_in (r : RxPhase) (psn : Nat) : psn < (r.took psn).base ∨ psn ∈ (r.took psn).acc := by
  rcases Nat.lt_or_ge psn (r.took psn).base with low | high
  · exact .inl low
  · exact .inr (List.mem_filter.mpr ⟨List.mem_append_right _ (List.mem_singleton.mpr rfl), decide_eq_true high⟩)

/-- The connection with a packet accepted. -/
def Conn.took (c : Conn) (phase : Bool) (psn : Nat) : Conn :=
  { c.setRx phase ((c.rx phase).took psn) with owed := c.owed + 1, nacked := c.nacked.filter fun x => !(x.1 == phase && x.2.1 == psn) }

theorem Conn.took_acks (c : Conn) (phase : Bool) (psn : Nat) : c.Acks (c.took phase psn) := by cases phase <;> rfl
theorem Conn.took_rx (c : Conn) (phase : Bool) (psn : Nat) : (c.took phase psn).rx phase = (c.rx phase).took psn := by cases phase <;> rfl

theorem State.acceptPsn_eq (s : State) (i : Nat) (phase : Bool) (psn : Nat) : s.acceptPsn i phase psn =
    if (s.putConn i ((s.conn i).took phase psn)).get CME.ACK_COAL 4 ≤ (s.conn i).owed + 1 then (s.putConn i ((s.conn i).took phase psn)).sendAck i phase none
    else s.putConn i ((s.conn i).took phase psn) := rfl

/-- Accepting a packet changes nothing of the connection's messages, and accepts it. -/
theorem State.acceptPsn_acks (s : State) (i : Nat) (p : Packet) :
    (s.conn i).Acks ((s.acceptPsn i p.phase p.psn.toNat).conn i) ∧ ((s.acceptPsn i p.phase p.psn.toNat).conn i).accepted p := by
  have took : (s.conn i).Acks ((s.conn i).took p.phase p.psn.toNat) ∧ ((s.conn i).took p.phase p.psn.toNat).accepted p := by
    unfold Conn.accepted
    rw [Conn.took_rx]
    exact ⟨Conn.took_acks .., RxPhase.took_in ..⟩
  rw [State.acceptPsn_eq]
  split
  · have sent := (s.putConn i ((s.conn i).took p.phase p.psn.toNat)).sendAck_acks i p.phase none
    rw [State.conn_putConn_same] at sent
    unfold Conn.accepted at took ⊢
    rw [sent.2]
    exact ⟨took.1.trans sent.1, took.2⟩
  · rw [State.conn_putConn_same]
    exact took

/-! ## Pumping (R425, R438, R439) -/

/-- d is c with some of its prepared packets sent: each of them is still there, under the number of its sending. -/
structure Conn.Pumped (c d : Conn) : Prop where
  rest : d = { c with txq := d.txq, unacked := d.unacked, txPsn := d.txPsn }
  sent : ∀ x ∈ c.unacked ++ c.txq, ∃ y ∈ d.unacked ++ d.txq, y.op = x.op ∧ y.pkt = { x.pkt with phase := y.pkt.phase, psn := y.pkt.psn }

theorem Conn.Pumped.refl (c : Conn) : c.Pumped c := ⟨rfl, fun x h => ⟨x, h, rfl, rfl⟩⟩

theorem Conn.Pumped.trans {c d e : Conn} (h : c.Pumped d) (k : d.Pumped e) : c.Pumped e := by
  refine ⟨by rw [k.rest, h.rest], fun x hx => ?_⟩
  obtain ⟨y, hy, op, pkt⟩ := h.sent x hx
  obtain ⟨z, hz, op', pkt'⟩ := k.sent y hy
  exact ⟨z, hz, op'.trans op, by rw [pkt', pkt]⟩

/-- One prepared packet leaves. -/
theorem Conn.Pumped.one (c : Conn) {x : TxPkt} {l : List TxPkt} (first : c.txq = x :: l) (path n : Nat) :
    c.Pumped { c with txq := l, unacked := c.unacked ++ [{ x with phase := c.phase, path := path, sends := 1, pkt := { x.pkt with phase := c.phase, psn := BitVec.ofNat 32 c.txPsn } }], txPsn := n } := by
  refine ⟨rfl, fun y hy => ?_⟩
  rw [first] at hy
  rcases List.mem_append.mp hy with old | new
  · exact ⟨y, List.mem_append_left _ (List.mem_append_left _ old), rfl, rfl⟩
  · rcases List.mem_cons.mp new with rfl | later
    · exact ⟨_, List.mem_append_left _ (List.mem_append_right _ (List.mem_singleton.mpr rfl)), rfl, rfl⟩
    · exact ⟨y, List.mem_append_right _ later, rfl, rfl⟩

theorem State.pump_conn (i k : Nat) (s : State) : (s.conn i).Pumped ((State.pump i k s).conn i) := by
  induction k generalizing s with
  | zero => exact Conn.Pumped.refl _
  | succ k ih =>
    unfold State.pump
    dsimp only
    split
    · exact Conn.Pumped.refl _
    · rename_i x l first
      split
      · exact Conn.Pumped.refl _
      · split
        · split
          · exact Conn.Pumped.refl _
          · rw [State.conn_of_cmn (State.blkErr_cmn ..)]
            exact Conn.Pumped.refl _
        · split
          · exact Conn.Pumped.refl _
          · rename_i n path _
            split
            · exact Conn.Pumped.refl _
            · refine Conn.Pumped.trans ?_ (ih _)
              have one := Conn.Pumped.one (s.conn i) first n ((s.conn i).txPsn + 1)
              split
              · rw [State.conn_of_cmn (State.occur_cmn ..), State.sendFrame_conn, State.conn_putConn_same]
                exact one
              · rw [State.sendFrame_conn, State.conn_putConn_same]
                exact one

theorem State.cmnPump_conn (s : State) (i : Nat) : (s.conn i).Pumped ((s.cmnPump i).conn i) := State.pump_conn ..

/-- A response that is queued is queued or sent afterwards, with its claim. -/
theorem State.respond_conn {s : State} (i : Nat) {grp : Nat} (ps : List TxPkt) (serves : s.serves grp = true) :
    ∃ c : Conn, c = { s.conn i with txq := (s.conn i).txq ++ ps.map fun x => { x with pkt := { x.pkt with claim := BitVec.ofNat 64 (s.get TWN.TWN_CLAIM_LOCAL 0 grp), grp := Fin.ofNat 16 grp } } } ∧
      c.Pumped ((s.respond i grp ps).conn i) := by
  refine ⟨_, rfl, ?_⟩
  unfold State.respond
  rw [serves]
  have pumped := (s.modConn i fun c => { c with txq := c.txq ++ ps.map fun x => { x with pkt := { x.pkt with claim := BitVec.ofNat 64 (s.get TWN.TWN_CLAIM_LOCAL 0 grp), grp := Fin.ofNat 16 grp } } }).cmnPump_conn i
  rw [State.conn_modConn] at pumped
  exact pumped

end Sys2Proof.Machine
end

section
/-! SUPPORT. Cemanor: the counters of the engine that nothing on the way of a packet writes besides its own step. -/
namespace Sys2Proof.Machine

/-- A register of the engine's page that is no flag and stands apart from the places where a mover records a fault. -/
@[reducible] def Fld.tally (f : Fld) : Prop :=
  0x800 ≤ f.place 0 ∧ f.place 0 < 32768 ∧ f.place 0 ≠ MOV.LAST_FCLASS.place 0 ∧ f.place 0 ≠ MOV.LAST_STATUS.place 0 ∧ f.place 0 ≠ MOV.LAST_FOFF.place 0

/-- t has the engine's counters of s. -/
structure State.Calm (s t : State) : Prop where
  ok : s.regsOk → t.regsOk
  rd : s.regsOk → ∀ f, Fld.tally f → t.rd cmePage f = s.rd cmePage f

namespace State.Calm
variable {s t u : State}

protected theorem refl (s : State) : s.Calm s := ⟨id, fun _ _ _ => rfl⟩
protected theorem trans (a : s.Calm t) (b : t.Calm u) : s.Calm u := ⟨fun h => b.ok (a.ok h), fun h f n => (b.rd (a.ok h) f n).trans (a.rd h f n)⟩

theorem of_rep (h : s.Rep t) : s.Calm t :=
  ⟨h.ok, fun ok f ⟨low, high, _⟩ => h.same ok cmePage f 0 ⟨high, by decide, by omega, by omega, by omega, by omega, .inr (by decide)⟩⟩

theorem of_regs (regs : t.regs = s.regs) (unit : t.unit = s.unit) : s.Calm t := of_rep (State.Rep.of_regs regs unit)

/-- A counter of an Ethernet port. -/
theorem port {f : Fld} (v : Nat) (e : EPort) (fits : f.place 0 < 32768) : s.Calm (s.put f v e.val 0) := by
  refine ⟨fun ok => State.regsOk_put ok _ _ _ _, fun ok g ⟨_, high, _⟩ => State.rd_wr_ne ok v ?_⟩
  refine Fld.key_ne_page high fits (by decide) (by dsimp only; omega) fun same => ?_
  have inst : 4 = e.val := congrArg Page.inst same
  omega

/-- What a mover records of a fault. -/
theorem fault {f : Fld} (v m : Nat) (place : f = MOV.LAST_FCLASS ∨ f = MOV.LAST_STATUS ∨ f = MOV.LAST_FOFF) : s.Calm (s.put f v m 0) := by
  refine ⟨fun ok => State.regsOk_put ok _ _ _ _, fun ok g ⟨_, high, cls, st, off⟩ => State.rd_wr_ne ok v ?_⟩
  rcases place with rfl | rfl | rfl
  · exact Fld.key_ne_place high (by decide) cls
  · exact Fld.key_ne_place high (by decide) st
  · exact Fld.key_ne_place high (by decide) off

theorem get (h : s.Calm t) (ok : s.regsOk) (f : Fld) (blk : f.blk = .cmn) (tally : Fld.tally f) : t.get f 4 = s.get f 4 := by
  unfold State.get
  rw [blk]
  exact h.rd ok f tally

protected theorem ite {c : Prop} [Decidable c] (h : s.Calm t) (k : s.Calm u) : s.Calm (if c then t else u) := by
  split
  · exact h
  · exact k

end State.Calm

section Steps
variable (s : State)

theorem State.putConn_calm (i : Nat) (c : Conn) : s.Calm (s.putConn i c) := State.Calm.of_regs rfl rfl

theorem State.sendFrame_calm (op : Nat) (p : Packet) : s.Calm (s.sendFrame op p) :=
  (State.Calm.port (f := CMP.TX_FRAMES) _ p.eport (by decide)).trans (State.Calm.of_regs rfl rfl)

theorem State.sendCtl_calm (i op : Nat) (path : Option Nat) (fill : Packet → Packet) : s.Calm (s.sendCtl i op path fill) := by
  rcases s.sendCtl_cases i op path fill with e | ⟨way, e⟩
  · rw [e]
    exact State.Calm.refl s
  · rw [e]
    exact (State.putConn_calm ..).trans (State.sendFrame_calm ..)

theorem State.sendAck_calm (i : Nat) (phase : Bool) (path : Option Nat) : s.Calm (s.sendAck i phase path) := by
  unfold State.sendAck
  exact (State.putConn_calm ..).trans (State.sendCtl_calm ..)

theorem State.acceptPsn_calm (i : Nat) (phase : Bool) (psn : Nat) : s.Calm (s.acceptPsn i phase psn) := by
  rw [State.acceptPsn_eq]
  have put := s.putConn_calm i ((s.conn i).took phase psn)
  exact (put.trans (State.sendAck_calm ..)).ite put

theorem State.pump_calm (i k : Nat) : s.Calm (State.pump i k s) := by
  induction k generalizing s with
  | zero => exact State.Calm.refl s
  | succ k ih =>
    unfold State.pump
    dsimp only
    split
    · exact State.Calm.refl s
    · refine State.Calm.ite (State.Calm.refl s) (State.Calm.ite (State.Calm.ite (State.Calm.refl s) (State.Calm.of_rep (State.blkErr_rep s (by decide) ..))) ?_)
      split
      · exact State.Calm.refl s
      · refine State.Calm.ite (State.Calm.refl s) (State.Calm.trans ?_ (ih _))
        have sent (c : Conn) (op : Nat) (p : Packet) : s.Calm ((s.putConn i c).sendFrame op p) :=
          (State.putConn_calm ..).trans (State.sendFrame_calm ..)
        exact State.Calm.ite ((sent ..).trans (State.Calm.of_rep (State.occur_rep _ (by decide) ..))) (sent ..)

theorem State.cmnPump_calm (i : Nat) : s.Calm (s.cmnPump i) := State.pump_calm ..

theorem State.respond_calm (i grp : Nat) (ps : List TxPkt) : s.Calm (s.respond i grp ps) := by
  unfold State.respond
  exact State.Calm.ite (State.Calm.refl s) ((State.putConn_calm ..).trans (State.cmnPump_calm ..))

theorem State.registrationFree_rep (i : Nat) (d : Registration) : s.Rep (s.registrationFree i d) := by
  unfold State.registrationFree
  have put : s.Rep (s.putRegistration i { d with state := .free, inflight := 0, freedAt := some s.timeNs }) := State.Rep.of_regs rfl rfl
  exact (put.trans (State.occur_rep _ (p := xltPage) (by decide) ..)).trans (State.Rep.of_regs rfl rfl)

theorem State.messageEnd_rep (i : Nat) : s.Rep (s.messageEnd i) := by
  unfold State.messageEnd
  dsimp only
  split
  · exact State.registrationFree_rep ..
  · exact State.Rep.of_regs rfl rfl

theorem State.settleAll_rep : s.Rep s.settleAll :=
  State.Rep.of_regs ((State.settleAll_keeps s).kept .regs (by decide)) ((State.settleAll_keeps s).kept .unit (by decide))

theorem State.moverShows_calm (m cls st foff : Nat) : s.Calm (s.moverShows m cls st foff) :=
  ((State.Calm.fault _ _ (.inl rfl)).trans (State.Calm.fault _ _ (.inr (.inl rfl)))).trans (State.Calm.fault _ _ (.inr (.inr rfl)))

theorem State.movSettle_calm : s.Calm s.movSettle := by
  have cut (l : List (Nat × Nat × Nat)) : ∀ t : State, t.Calm (l.foldl (fun s x => s.moverShows x.1 0xB x.2.1 x.2.2) t) := by
    induction l with
    | nil => exact State.Calm.refl
    | cons x l ih => exact fun t => (State.moverShows_calm t ..).trans (ih _)
  unfold State.movSettle
  dsimp only
  generalize List.flatMap _ _ = l
  have shown := cut l s
  generalize List.foldl _ s l = t at shown ⊢
  refine shown.trans (State.Calm.trans ?_ (State.Calm.of_rep (State.settleAll_rep _)))
  exact State.Calm.of_regs rfl rfl

end Steps

/-- A counter of the engine after it counts one. -/
theorem State.get_inc_engine {s : State} (hs : s.regsOk) (f : Fld) : (s.inc f 1 4).get f 4 = satAdd f.width (s.get f 4) 1 := by
  unfold State.inc
  rw [State.get_put_same hs]
  exact Nat.mod_eq_of_lt (by unfold satAdd; have := Nat.two_pow_pos f.width; omega)

end Sys2Proof.Machine
end

section
/-! SUPPORT. Cemanor: a packet that passes steps 1 to 3 reaches the target, and what steps 4 to 6 make of it (R428). -/
namespace Sys2Proof.Machine

/-! ## Steps 1 to 3 -/

theorem State.rcvd_conn (s : State) (p : Packet) : (s.rcvd p).conn (cmnIx p) = s.conn (cmnIx p) := State.conn_putConn_same ..

theorem State.rcvd_calm (s : State) (p : Packet) : s.Calm (s.rcvd p) :=
  (State.Calm.port (f := CMP.RX_FRAMES) _ p.eport (by decide)).trans (State.Calm.of_regs rfl rfl)

theorem State.rcvd_keeps (s : State) (p : Packet) : State.Keeps ⟨[.regs, .cmn], some [CMP.RX_FRAMES]⟩ s (s.rcvd p) :=
  ((State.Keeps.put (State.Keeps.refl _ s) CMP.RX_FRAMES _ _ _ (by decide)).upd_cmn (by decide)).upd_cmn (by decide)

/-- Counting a frame is not seen by what steps 1 to 3 look at. -/
theorem State.rxCounted {s : State} (hs : s.regsOk) (e : EPort) :
    (s.incMod CMP.RX_FRAMES 1 e.val).frozen = s.frozen ∧ (s.incMod CMP.RX_FRAMES 1 e.val).resting cmePage = s.resting cmePage := by
  unfold State.frozen State.resting
  refine ⟨?_, congrArg (· == 1) (State.rd_wr_ne hs _ (Fld.key_ne_place (by decide) (by decide) (by decide)))⟩
  rw [show (s.incMod CMP.RX_FRAMES 1 e.val).get HRV.STATE = s.get HRV.STATE from State.rd_wr_ne hs _ (Fld.key_ne_place (by decide) (by decide) (by decide))]

/-- A request packet that passes steps 1 to 3 goes on to step 4. -/
theorem State.rxRequest_received {s : State} {p : Packet} (hs : s.regsOk) (h : s.receives p true) (m : RxMsg) (op : Nat) :
    s.rxRequest false m op p = ((s.rcvd p).request (cmnIx p) op p).movSettle := by
  obtain ⟨fcs, sum, ver, fits, udp, ce, tag, run, serves, live, gen, sound, keyed, room, low, high, fresh⟩ := h
  rw [gen] at sound
  obtain ⟨run', serves'⟩ := State.rxCounted hs p.eport
  have new : (((s.conn (cmnIx p)).rx p.phase).acc.contains p.psn.toNat) = false := by
    rw [← Bool.not_eq_true, List.contains_iff_mem]
    exact fresh
  have state : ((s.conn (cmnIx p)).state == .opened || (s.conn (cmnIx p)).state == .closing || (s.conn (cmnIx p)).state == .down) = true := live
  have here : ((s.incMod CMP.RX_FRAMES 1 p.eport.val).conn (cmnIx p)) = s.conn (cmnIx p) := rfl
  have version : p.ver.toNat = 1 := by rw [ver]; rfl
  have behind : ((s.incMod CMP.RX_FRAMES 1 p.eport.val).putConn (cmnIx p) (s.conn (cmnIx p))).rxBehind false p = false := room
  unfold State.rxRequest State.ingress
  simp only [fcs, sum, ce, tag, Bool.not_true, Bool.false_and, Bool.false_eq_true, if_false, run', run, serves', serves, Bool.or_self,
    show p.conn.toNat / 16 = cmnIx p from rfl, here, state, gen, version, udp, new, ne_eq, not_true_eq_false, decide_false, Bool.true_and, Nat.not_lt.mpr low, Nat.not_lt.mpr high,
    Nat.not_lt.mpr fits, keyed, behind, sound, if_true]
  rfl

/-! ## Steps 4 to 6 -/

section Steps
variable {s : State} {p : Packet}

theorem State.request_late (op : Nat) (low : p.msn.toNat < (s.conn (cmnIx p)).msnBase) :
    (s.rcvd p).request (cmnIx p) op p = (s.tookPkt p).inc CME.LATE_PKT 1 4 := by
  unfold State.request
  simp only [s.rcvd_conn p, decide_eq_true low, Bool.true_or, if_true]
  rfl

theorem State.request_full (op : Nat) (low : (s.conn (cmnIx p)).msnBase ≤ p.msn.toNat) (high : p.msn.toNat ≤ (s.conn (cmnIx p)).msnBase + 4095)
    (fresh : p.msn.toNat ∉ (s.conn (cmnIx p)).resolved) (unseen : (s.conn (cmnIx p)).tgt p.msn.toNat = none) (full : 262144 ≤ (s.rcvd p).slotsUsed) :
    (s.rcvd p).request (cmnIx p) op p = ((s.rcvd p).inc CME.HOLD_DROP 1 4).sendNack (cmnIx p) p.phase [(p.psn.toNat, 1)] := by
  have new : (s.conn (cmnIx p)).resolved.contains p.msn.toNat = false := by
    rw [← Bool.not_eq_true, List.contains_iff_mem]
    exact fresh
  unfold State.request
  simp only [s.rcvd_conn p, Nat.not_lt.mpr low, Nat.not_lt.mpr high, new, unseen, full, Option.isNone_none, decide_false, decide_true, Bool.or_self, Bool.false_eq_true,
    if_false, Bool.and_true, Bool.true_or, if_true]

/-- Whether a packet of a message waits for its turn (R434). -/
def Conn.awaits (c : Conn) (p : Packet) : Bool := p.flagged && !c.turn p.msn.toNat

/-- A first packet of a message that finds its slots goes on to the admission of its key. -/
theorem State.request_new (op : Nat) (new : s.newMessage p)
    (room : (s.conn (cmnIx p)).awaits p = true → (s.conn (cmnIx p)).holds.length < (s.conn (cmnIx p)).desc.holdMax.toNat ∧ (s.rcvd p).holdsUsed < 512) :
    (s.rcvd p).request (cmnIx p) op p = match (s.tookPkt p).admitKey p.rkey.toNat (s.conn (cmnIx p)).desc.peerNode.toNat with
      | (s, .error st) => s.tgtEnd (cmnIx p) (slotNew p (op == opRead)) false st
          (match st with | .keyRevoked | .accessViolation => some (s.registrationAt (keyIndex p.rkey.toNat)).region | _ => none)
      | (u, .ok (j, r)) =>
        let v := (u.putRegistration j { r with inflight := (r.inflight + 1) % 2 ^ 32 }).modConn (cmnIx p) fun c => c.putTgt (slotNew p (op == opRead))
        if (s.conn (cmnIx p)).awaits p then
          let w := v.modConn (cmnIx p) fun c => { c with holds := c.holds ++ [{ p with status := if op = opRead then 1 else if op = opMasked then 2 else 0 }] }
          if w.holdsUsed = 512 then w.blkErr cmePage 18 4 else w
        else State.releaseHolds (cmnIx p) ((v.tgtPlace (cmnIx p) op p).conn (cmnIx p)).holds.length (v.tgtPlace (cmnIx p) op p) := by
  obtain ⟨low, high, fresh, unseen, slots, active⟩ := new
  have out : (s.conn (cmnIx p)).resolved.contains p.msn.toNat = false := by
    rw [← Bool.not_eq_true, List.contains_iff_mem]
    exact fresh
  have state : ((s.conn (cmnIx p)).state == .closing) = false := by
    rw [← Bool.not_eq_true, beq_iff_eq]
    exact active
  have held : ((s.conn (cmnIx p)).awaits p && (decide ((s.conn (cmnIx p)).desc.holdMax.toNat ≤ (s.conn (cmnIx p)).holds.length) || decide (512 ≤ (s.rcvd p).holdsUsed))) = false := by
    cases w : (s.conn (cmnIx p)).awaits p with
    | false => rfl
    | true => simp [Nat.not_le.mpr (room w).1, Nat.not_le.mpr (room w).2]
  unfold State.request
  simp only [s.rcvd_conn p, Nat.not_lt.mpr low, Nat.not_lt.mpr high, out, unseen, Nat.not_le.mpr slots, Option.isNone_none, decide_false, Bool.or_self, Bool.false_eq_true,
    if_false, Bool.and_false, Bool.not_true, state, show (p.flagged && !(s.conn (cmnIx p)).turn p.msn.toNat) = (s.conn (cmnIx p)).awaits p from rfl, held, Option.getD_none] <;> rfl

end Steps

end Sys2Proof.Machine
end

section
/-! SUPPORT. The registration of an admitted message: its copy stands in the cache or in a fill, and looking at it again changes nothing. -/
namespace Sys2Proof.Machine

/-- A copy under a key has been looked at: its cache entries are marked used, and without one a fill is under way. -/
structure State.Looked (s : State) (k : XKey) : Prop where
  used : ∀ e ∈ s.xlt.caches, e.key = k → e.used = true
  fills : s.xCached k = none → k.capacity = 0 ∨ (s.xlt.fills.any fun e => e.key == k) = true

theorem State.xUse_looked (s : State) {k : XKey} {e : CacheEntry} (cached : s.xCached k = some e) : (s.xUse k).Looked k := by
  refine ⟨fun e he hk => ?_, fun none => ?_⟩
  · obtain ⟨x, -, rfl⟩ := List.mem_map.mp he
    by_cases same : (x.key == k) = true
    · rw [if_pos same]
    · rw [if_neg same] at hk
      exact absurd (beq_iff_eq.mpr hk) same
  · have here := List.find?_some cached
    have mem := List.mem_of_find?_eq_some cached
    refine absurd here (List.find?_eq_none.mp none { e with used := true } (List.mem_map.mpr ⟨e, mem, ?_⟩))
    exact if_pos here

theorem State.Looked.of_xlt {s t : State} {k : XKey} (h : s.Looked k) (e : t.xlt = s.xlt) : t.Looked k := by
  refine ⟨fun x hx => h.used x (by rw [← e]; exact hx), fun none => ?_⟩
  rw [e]
  refine h.fills ?_
  unfold State.xCached at none ⊢
  rw [← e]
  exact none

/-- Copies that change under a key keep the marks. -/
theorem State.Looked.copies {s : State} {k : XKey} (h : s.Looked k) (c : XCopy) :
    ({ s with xlt.caches := s.xlt.caches.map fun (e : CacheEntry) => if e.key == k then { e with copy := c } else e } : State).Looked k := by
  refine ⟨fun e he hk => ?_, fun none => h.fills ?_⟩
  · obtain ⟨x, hx, rfl⟩ := List.mem_map.mp he
    by_cases same : (x.key == k) = true
    · rw [if_pos same]
      exact h.used x hx (beq_iff_eq.mp same)
    · rw [if_neg same] at hk
      exact absurd (beq_iff_eq.mpr hk) same
  · refine List.find?_eq_none.mpr fun x hx hk => ?_
    exact absurd hk (List.find?_eq_none.mp none { x with copy := c } (List.mem_map.mpr ⟨x, hx, if_pos hk⟩))

theorem State.refetch_looked {s u : State} {k : XKey} {c : XCopy} (h : s.Looked k) (got : s.refetch k = (u, some c)) : u.Looked k ∧ c.ok = true := by
  unfold State.refetch at got
  split at got
  · split at got
    · rename_i ok
      cases got
      exact ⟨(h.copies c).of_xlt (State.misc_xlt ..), ok⟩
    · cases got
  · cases got

theorem State.xGet_looked {s u : State} {k : XKey} {c : XCopy} (got : s.xGet k = (u, some c)) : u.Looked k ∧ c.ok = true := by
  unfold State.xGet at got
  split at got
  · rename_i e cached
    split at got
    · rename_i ok
      cases got
      exact ⟨s.xUse_looked cached, ok⟩
    · exact State.refetch_looked (s.xUse_looked cached) got
  · rename_i cached
    have bad {z : State} (dram : ∀ c, s.xDram k = some c → c.ok = false) (e : s.refetch k = (z, some c)) : False := by
      unfold State.refetch at e
      split at e
      · rename_i c' found
        rw [dram c' found] at e
        cases e
      · cases e
    split at got
    · rename_i c' found
      split at got
      · rename_i ok
        cases got
        refine ⟨⟨fun e he hk => ?_, fun _ => ?_⟩, ok⟩
        · have caches : (s.xFill k c).xlt.caches = s.xlt.caches := by
            unfold State.xFill
            split <;> rfl
          rw [caches] at he
          exact absurd (beq_iff_eq.mpr hk) (List.find?_eq_none.mp cached e he)
        · unfold State.xFill
          split
          · rename_i full
            simpa using full
          · exact .inr (List.any_eq_true.mpr ⟨_, List.mem_append_right _ (List.mem_singleton.mpr rfl), beq_self_eq_true _⟩)
      · rename_i notOk
        exact (bad (fun d hd => by rw [found] at hd; cases hd; exact Bool.eq_false_iff.mpr notOk) got).elim
    · rename_i found
      exact (bad (fun d hd => by rw [found] at hd; cases hd) got).elim

/-- A copy of a registration that is written passes its check where the one before did, and is found again at once. -/
theorem State.xGet_admitted {u t : State} {j : Nat} {r : Registration} (small : j < 2 ^ 22) (looked : u.Looked (.registration (BitVec.ofNat 22 j))) (ok : r.checkOk = true)
    (written : t.xlt = (u.putRegistration j r).xlt) : t.xGet (.registration (BitVec.ofNat 22 j)) = (t, some (.registration r)) := by
  have caches : t.xlt.caches = u.xlt.caches.map fun e => if e.key == .registration (BitVec.ofNat 22 j) then { e with copy := .registration r } else e := by rw [written]; rfl
  have fills : t.xlt.fills = u.xlt.fills.map fun e => if e.key == .registration (BitVec.ofNat 22 j) then { e with copy := .registration r } else e := by rw [written]; rfl
  unfold State.xGet
  cases cached : t.xCached (.registration (BitVec.ofNat 22 j)) with
  | some e =>
    have here := List.find?_some cached
    have mem := List.mem_of_find?_eq_some cached
    rw [caches] at mem
    obtain ⟨x, hx, rfl⟩ := List.mem_map.mp mem
    have key : (x.key == .registration (BitVec.ofNat 22 j)) = true := by
      split at here
      · assumption
      · exact here
    have marked : t.xUse (.registration (BitVec.ofNat 22 j)) = t := by
      have same : (t.xlt.caches.map fun e => if e.key == .registration (BitVec.ofNat 22 j) then { e with used := true } else e) = t.xlt.caches := by
        rw [caches, List.map_map]
        refine List.map_congr_left fun e he => ?_
        by_cases hk : (e.key == .registration (BitVec.ofNat 22 j)) = true
        · have used := looked.used e he (beq_iff_eq.mp hk)
          obtain ⟨k, c, b⟩ := e
          cases used
          simp only [Function.comp_apply, if_pos hk]
        · simp only [Function.comp_apply, if_neg hk]
      unfold State.xUse
      rw [same]
    rw [if_pos key]
    dsimp only
    rw [if_pos (show XCopy.ok (.registration r) = true from ok), marked]
  | none =>
    have index : (BitVec.ofNat 22 j).toNat = j := Nat.mod_eq_of_lt small
    have dram : t.xDram (.registration (BitVec.ofNat 22 j)) = some (.registration r) := by
      show some (XCopy.registration (t.registrationAt (BitVec.ofNat 22 j).toNat)) = _
      unfold State.registrationAt
      rw [index, written]
      show some (XCopy.registration ((tget (tset _ j r) j).getD noRegistration)) = _
      rw [tget_tset_same]
      rfl
    have uncached : u.xCached (.registration (BitVec.ofNat 22 j)) = none := by
      refine List.find?_eq_none.mpr fun x hx hk => ?_
      refine absurd ?_ (List.find?_eq_none.mp cached { x with copy := .registration r } (by rw [caches]; exact List.mem_map.mpr ⟨x, hx, if_pos hk⟩))
      exact hk
    have filling : t.xFill (.registration (BitVec.ofNat 22 j)) (.registration r) = t := by
      unfold State.xFill
      refine if_pos ?_
      rcases looked.fills uncached with zero | some
      · rw [zero]
        rfl
      · obtain ⟨x, hx, hk⟩ := List.any_eq_true.mp some
        refine (Bool.or_eq_true _ _).mpr (.inr (List.any_eq_true.mpr ⟨{ x with copy := .registration r }, ?_, hk⟩))
        rw [fills]
        exact List.mem_map.mpr ⟨x, hx, if_pos hk⟩
    rw [dram]
    dsimp only
    rw [if_pos (show XCopy.ok (.registration r) = true from ok), filling]

/-- What the admission of a key gives: its registration, as it has just been looked at. -/
theorem State.admitKey_ok {s u : State} {key node j : Nat} {r : Registration} (h : s.admitKey key node = (u, .ok (j, r))) :
    j = keyIndex key ∧ u.Looked (.registration (BitVec.ofNat 22 j)) ∧ r.checkOk = true := by
  unfold State.admitKey at h
  dsimp only at h
  split at h
  · split at h
    · cases h
    · split at h
      · cases h
      · cases h
      · split at h
        · cases h
        · split at h
          · rename_i got
            cases h
            exact ⟨rfl, State.xGet_looked got⟩
          · cases h
  · cases h

theorem State.admitKey_stale {s u : State} {key node : Nat} (h : s.admitKey key node = (u, .error .keyStale)) : u = s.misc xltPage 5 := by
  unfold State.admitKey at h
  dsimp only at h
  split at h
  · split at h
    · cases h
      rfl
    · split at h
      · cases h
      · cases h
      · split at h
        · cases h
        · split at h <;> cases h
  · cases h

end Sys2Proof.Machine
end

section
/-! SUPPORT. The walk, a write and a read leave the tables of regions and registrations in DRAM as they are: they change copies, and ZERO in the block map. -/
namespace Sys2Proof.Machine

/-- t has the regions and the registrations of s. -/
def State.SameTables (s t : State) : Prop := t.xlt.registrations = s.xlt.registrations ∧ t.xlt.regions = s.xlt.regions

namespace State.SameTables
variable {s t u : State}

protected theorem refl (s : State) : s.SameTables s := ⟨rfl, rfl⟩
protected theorem trans (h : s.SameTables t) (k : t.SameTables u) : s.SameTables u := ⟨k.1.trans h.1, k.2.trans h.2⟩
theorem of_xlt (e : t.xlt = s.xlt) : s.SameTables t := ⟨congrArg XltState.registrations e, congrArg XltState.regions e⟩

theorem registrationAt (h : s.SameTables t) (i : Nat) : t.registrationAt i = s.registrationAt i := by
  unfold State.registrationAt
  rw [h.1]

theorem regionAt (h : s.SameTables t) (r : Nat) : t.regionAt r = s.regionAt r := by
  unfold State.regionAt
  rw [h.2]

protected theorem ite {c : Prop} [Decidable c] (h : s.SameTables t) (k : s.SameTables u) : s.SameTables (if c then t else u) := by
  split
  · exact h
  · exact k

end State.SameTables

section Steps
variable (s : State)

theorem State.refetch_tables (k : XKey) : s.SameTables (s.refetch k).1 := by
  unfold State.refetch
  split
  · split
    · dsimp only
      refine State.SameTables.trans ?_ (.of_xlt (State.misc_xlt ..))
      exact ⟨rfl, rfl⟩
    · exact .of_xlt (State.misc_xlt ..)
  · exact .of_xlt (State.misc_xlt ..)

theorem State.xFill_tables (k : XKey) (c : XCopy) : s.SameTables (s.xFill k c) := by
  unfold State.xFill
  exact .ite (.refl s) ⟨rfl, rfl⟩

theorem State.xGet_tables (k : XKey) : s.SameTables (s.xGet k).1 := by
  unfold State.xGet
  split
  · split
    · exact ⟨rfl, rfl⟩
    · exact State.SameTables.trans ⟨rfl, rfl⟩ ((s.xUse k).refetch_tables k)
  · split
    · split
      · exact s.xFill_tables ..
      · exact s.refetch_tables k
    · exact s.refetch_tables k

theorem State.getRegion_tables (r : Nat) : s.SameTables (s.getRegion r).1 := by
  have got := s.xGet_tables (.region (BitVec.ofNat 24 r))
  unfold State.getRegion
  split
  · rename_i e
    rw [e] at got
    exact got
  · rename_i e
    rw [e] at got
    exact got

theorem State.checks_tables (a : Access) (via : Via) (write : Bool) : s.SameTables (s.checks a via write).1 := by
  have got := s.getRegion_tables a.region
  have stale (z : State) (h : s.SameTables z) : s.SameTables (z.misc xltPage 5) := h.trans (.of_xlt (State.misc_xlt ..))
  unfold State.checks
  split
  · rename_i e
    rw [e] at got
    exact got
  · rename_i z d e
    rw [e] at got
    simp only [apply_ite Prod.fst]
    exact .ite got (.ite got (.ite (stale z got) (.ite got (.ite got (.ite got (.ite got (.ite got got)))))))

theorem State.getBme_tables (r : Nat) (d : Region) (blk : Nat) : s.SameTables (s.getBme r d blk).1 := by
  unfold State.getBme
  dsimp only
  have dir : s.SameTables (if d.levels = 1 then (s.xGet (.dir (BitVec.ofNat 24 r) (blk / 512))).1 else s) := .ite (s.xGet_tables _) (.refl s)
  generalize (if d.levels = 1 then (s.xGet (.dir (BitVec.ofNat 24 r) (blk / 512))).1 else s) = t at dir ⊢
  have got := dir.trans (t.xGet_tables (.block (BitVec.ofNat 24 r) blk))
  split
  · rename_i e
    rw [e] at got
    exact got
  · rename_i e
    rw [e] at got
    exact got

theorem State.resolve_tables (region : Nat) (d : Region) (off : Nat) : s.SameTables (s.resolve region d off).1 := by
  have got := s.getBme_tables region d (off / blkBytes)
  unfold State.resolve
  split <;> rename_i e <;> rw [e] at got <;> exact got

theorem State.acceptWrite_tables (w : WriteReq) : s.SameTables (s.acceptWrite w).1 := by
  unfold State.acceptWrite
  dsimp only
  split
  · exact .refl s
  · rename_i b _
    have panned (z : State) (zs : s.SameTables z) (v : SectorVal) : s.SameTables
        (if !w.line then z.panWrite w.place.sector v w.alloc w.qos else if w.place.sector % 2 = 0 then z.panZero (w.place.sector / 2) w.qos else z) :=
      .ite (zs.trans (.of_xlt ((State.panWrite_keeps ..).kept .xlt (by decide)))) (.ite (zs.trans (.of_xlt ((State.panZero_keeps ..).kept .xlt (by decide)))) zs)
    have filled (z : State) (zs : s.SameTables z) (u p : Nat) : s.SameTables ((z.bitternStale u).fillEnd p) :=
      (zs.trans (.of_xlt ((State.bitternStale_keeps ..).kept .xlt (by decide)))).trans (.of_xlt ((State.fillEnd_keeps ..).kept .xlt (by decide)))
    have marked (z : State) (zs : s.SameTables z) (c : Bool) (p : Nat) : s.SameTables (if c then z.rsmMark p else z) :=
      .ite (zs.trans (.of_xlt ((State.rsmMark_keeps ..).kept .xlt (by decide)))) zs
    have cleared (z : State) (zs : s.SameTables z) : s.SameTables (if w.place.bme.zero then z.clearZero w.place.region w.place.blk else z) :=
      .ite (zs.trans ⟨rfl, rfl⟩) zs
    refine State.SameTables.trans ?_ (.of_xlt ((State.mirrorSend_keeps ..).kept .xlt (by decide)))
    refine marked _ ?_ _ _
    refine cleared _ ?_
    refine filled _ ?_ _ _
    refine panned _ ?_ _
    exact ⟨rfl, rfl⟩

theorem State.panWake_tables (l : List Nat) : s.SameTables (l.foldl State.panWake s) := by
  induction l generalizing s with
  | nil => exact .refl s
  | cons n l ih => exact State.SameTables.trans (.of_xlt ((State.panWake_keeps s n).kept .xlt (by decide))) (ih _)

theorem State.tryWrite_tables (w : WriteReq) : s.SameTables (s.tryWrite w).1 := by
  unfold State.tryWrite
  dsimp only
  have woken := s.panWake_tables w.secs
  generalize List.foldl State.panWake s w.secs = t at woken ⊢
  simp only [apply_ite Prod.fst]
  refine .ite woken (.ite woken ?_)
  have gated := woken.trans (.of_xlt ((State.writeGate_keeps t w).kept .xlt (by decide)))
  split
  · rename_i e
    rw [e] at gated
    exact gated
  · rename_i z e
    rw [e] at gated
    simp only [apply_ite Prod.fst]
    exact .ite gated (.ite gated (.ite gated (gated.trans (z.acceptWrite_tables w))))

theorem State.placeSector_tables (i : Nat) (m : TgtMsg) (d : Region) (rd : Registration) (whole : Bool) (o : Nat) (v : Sector) (en : BitVec 64) (poison : Bool) (psn : Nat) :
    s.SameTables (s.placeSector i m d rd whole o v en poison psn).1 := by
  have walked := s.resolve_tables rd.region d o
  unfold State.placeSector
  dsimp only
  split
  · rename_i e
    rw [e] at walked
    exact walked
  · rename_i z pl e
    rw [e] at walked
    simp only [apply_ite Prod.fst]
    refine .ite (walked.trans ⟨rfl, rfl⟩) (.ite (walked.trans ⟨rfl, rfl⟩) ?_)
    have written := walked.trans (z.tryWrite_tables { tenant := (s.conn i).desc.tenant.toNat, place := pl, data := v, enable := en, poison := poison, alloc := true, whole := whole, port := none, qos := 9 })
    split
    all_goals
      rename_i e
      rw [e] at written
      exact written.trans ⟨rfl, rfl⟩

end Steps

/-- What a placed sector changes of its message. -/
theorem State.placeSector_msg {s z : State} {i : Nat} {m n : TgtMsg} {d : Region} {rd : Registration} {whole : Bool} {o : Nat} {v : Sector} {en : BitVec 64} {poison : Bool} {psn : Nat}
    (h : s.placeSector i m d rd whole o v en poison psn = (z, .ok n)) : n = { m with held := n.held, mirrors := n.mirrors } := by
  unfold State.placeSector at h
  dsimp only at h
  split at h
  · cases h
  · split at h
    · cases h
      rfl
    · split at h
      · cases h
        rfl
      · split at h
        · cases h
          split <;> rfl
        · cases h
          rfl
        · cases h

end Sys2Proof.Machine
end

section
/-! SUPPORT. Cemanor: the messages of a connection at the target, and how one ends with a response (R431, R436). -/
namespace Sys2Proof.Machine

/-! ## The messages of a connection -/

theorem find?_replaced (m : TgtMsg) (l : List TgtMsg) (found : l.any (fun x => x.msn == m.msn) = true) :
    (l.map fun x => if x.msn = m.msn then m else x).find? (fun x => x.msn == m.msn) = some m := by
  induction l with
  | nil => exact absurd found (by simp)
  | cons x l ih =>
    by_cases same : x.msn = m.msn
    · rw [List.map_cons, if_pos same, List.find?_cons_of_pos (p := fun x : TgtMsg => x.msn == m.msn) (beq_self_eq_true _)]
    · rw [List.map_cons, if_neg same, List.find?_cons_of_neg (by simpa using same)]
      refine ih ?_
      rw [List.any_cons, beq_eq_false_iff_ne.mpr same] at found
      exact found

theorem Conn.tgt_putTgt (c : Conn) (m : TgtMsg) : (c.putTgt m).tgt m.msn = some m := by
  unfold Conn.putTgt Conn.tgt
  dsimp only
  split
  · rename_i found
    exact find?_replaced m c.tgts found
  · rename_i absent
    have before : c.tgts.find? (fun x => x.msn == m.msn) = none := List.find?_eq_none.mpr fun x hx hm => absent (List.any_eq_true.mpr ⟨x, hx, hm⟩)
    rw [List.find?_append, before, List.find?_cons_of_pos (p := fun x : TgtMsg => x.msn == m.msn) (beq_self_eq_true _)]
    rfl

theorem Conn.tgt_msn {c : Conn} {n : Nat} {m : TgtMsg} (h : c.tgt n = some m) : m.msn = n := beq_iff_eq.mp (List.find?_some (p := fun m : TgtMsg => m.msn == n) h)

theorem Conn.tgt_resolve (c : Conn) (n : Nat) : (c.resolve n).tgt n = none := by
  refine List.find?_eq_none.mpr fun m hm => ?_
  have other := (List.mem_filter.mp hm).2
  rw [beq_iff_eq]
  exact fun same => by rw [same, bne_self_eq_false] at other; cases other

theorem Conn.holds_resolve {c : Conn} (h : c.holds = []) (n : Nat) : (c.resolve n).holds = [] := by
  unfold Conn.resolve
  dsimp only
  rw [h]
  rfl

theorem State.releaseHolds_nil {s : State} {i : Nat} (h : (s.conn i).holds = []) (k : Nat) : s.releaseHolds i k = s := by
  cases k with
  | zero => rfl
  | succ k =>
    unfold State.releaseHolds
    dsimp only
    rw [h]
    rfl

theorem State.movSettle_conn (s : State) (i : Nat) : s.movSettle.conn i = s.conn i := State.conn_of_cmn ((State.movSettle_keeps s).kept .cmn (by decide)) i
theorem State.movSettle_twn (s : State) : s.movSettle.twn = s.twn := (State.movSettle_keeps s).kept .twn (by decide)
theorem State.movSettle_pan (s : State) : s.movSettle.pan = s.pan := (State.movSettle_keeps s).kept .pan (by decide)
theorem State.movSettle_out (s : State) : s.movSettle.out = s.out := (State.movSettle_keeps s).kept .out (by decide)
theorem State.movSettle_tables (s : State) : s.SameTables s.movSettle := .of_xlt ((State.movSettle_keeps s).kept .xlt (by decide))

/-! ## The end of a message -/

theorem State.Rep.serves {s t : State} (h : s.Rep t) (hs : s.regsOk) (g : Nat) : t.serves g = s.serves g :=
  congrArg (bit · g) (h.same hs (pg .twn) TWN.SERVE 0 (by unfold Untouched; decide))

theorem State.messageEnd_regions (s : State) (i : Nat) : (s.messageEnd i).xlt.regions = s.xlt.regions := by
  unfold State.messageEnd
  dsimp only
  split
  · unfold State.registrationFree
    dsimp only
    rw [State.occur_xlt]
    rfl
  · rfl

theorem Status.code_lt (st : Status) : st.code < 2 ^ 8 := by cases st <;> decide

/-- The bits of a message number and of a status stand in the packet that names them. -/
theorem Conn.Pumped.responds {c d : Conn} (h : c.Pumped d) {x : TxPkt} (mem : x ∈ c.txq) {msn : BitVec 32} {st : Status} (number : x.pkt.msn = msn)
    (status : x.pkt.status = BitVec.ofNat 8 st.code) : d.responds x.op msn.toNat st := by
  obtain ⟨y, hy, op, pkt⟩ := h.sent x (List.mem_append_right _ mem)
  refine ⟨y, hy, op, ?_, ?_⟩
  · rw [pkt]
    exact congrArg BitVec.toNat number
  · rw [pkt]
    exact (congrArg BitVec.toNat status).trans (Nat.mod_eq_of_lt st.code_lt)

/-- The state in which the response of a message that was admitted is queued: it is resolved, its registration and the tiers have let it go. -/
def State.ended (s : State) (i : Nat) (m : TgtMsg) : State :=
  ({ (s.modConn i fun c => c.resolve m.msn).messageEnd m.reg with
    tier.held := ((s.modConn i fun c => c.resolve m.msn).messageEnd m.reg).tier.held.filter fun w => match w.who with | .cmn j n _ => !(j == i && n == m.msn) | _ => true,
    tier.reads := ((s.modConn i fun c => c.resolve m.msn).messageEnd m.reg).tier.reads.filter fun w => match w.who with | .cmn j n _ => !(j == i && n == m.msn) | _ => true } : State).settleAll

theorem State.tgtEnd_eq (s : State) (i : Nat) (m : TgtMsg) {st : Status} (r : Nat) (harmless : violation st = false) (unfenced : st ≠ .fenced) :
    s.tgtEnd i m true st (some r) = (s.ended i m).respond i ((s.ended i m).regionAt r).grp [respPkt ((s.ended i m).conn i) m st] := by
  unfold State.tgtEnd
  simp only [harmless, Bool.false_eq_true, if_false, if_true, if_neg unfenced]
  rfl

theorem State.ended_rep (s : State) (i : Nat) (m : TgtMsg) : s.Rep (s.ended i m) := by
  have resolved : s.Rep (s.modConn i fun c => c.resolve m.msn) := State.Rep.of_regs rfl rfl
  refine (resolved.trans (State.messageEnd_rep _ m.reg)).trans (State.Rep.trans ?_ (State.settleAll_rep _))
  exact State.Rep.of_regs rfl rfl

theorem State.ended_conn (s : State) (i : Nat) (m : TgtMsg) : (s.ended i m).conn i = (s.conn i).resolve m.msn := by
  unfold State.ended
  rw [State.conn_of_cmn ((State.settleAll_keeps _).kept .cmn (by decide))]
  show ((s.modConn i fun c => c.resolve m.msn).messageEnd m.reg).conn i = _
  rw [State.conn_of_cmn ((State.messageEnd_keeps ..).kept .cmn (by decide)), State.conn_modConn]

theorem State.ended_xlt (s : State) (i : Nat) (m : TgtMsg) : (s.ended i m).xlt = ((s.modConn i fun c => c.resolve m.msn).messageEnd m.reg).xlt :=
  (State.settleAll_keeps _).kept .xlt (by decide)

theorem State.ended_regionAt (s : State) (i : Nat) (m : TgtMsg) (r : Nat) : (s.ended i m).regionAt r = s.regionAt r := by
  unfold State.regionAt
  rw [State.ended_xlt, State.messageEnd_regions]
  rfl

/-- An admitted message that ends with a status that is no violation is resolved and answered, where this twin serves the group of its region. -/
theorem State.tgtEnd_answered {s : State} (hs : s.regsOk) {i : Nat} {m : TgtMsg} {st : Status} {r : Nat} {msn : BitVec 32} (number : m.msn = msn.toNat)
    (harmless : violation st = false) (unfenced : st ≠ .fenced) (serves : s.serves (s.regionAt r).grp = true) :
    ((s.tgtEnd i m true st (some r)).conn i).tgt msn.toNat = none ∧ ((s.tgtEnd i m true st (some r)).conn i).responds (if m.read then opReadResp else opWriteCmp) msn.toNat st ∧
      ((s.conn i).holds = [] → ((s.tgtEnd i m true st (some r)).conn i).holds = []) ∧ (s.tgtEnd i m true st (some r)).xlt = ((s.modConn i fun c => c.resolve m.msn).messageEnd m.reg).xlt := by
  have serves' : (s.ended i m).serves ((s.ended i m).regionAt r).grp = true := by rw [State.ended_regionAt, (s.ended_rep i m).serves hs, serves]
  rw [State.tgtEnd_eq s i m r harmless unfenced]
  obtain ⟨c, queued, pumped⟩ := State.respond_conn i [respPkt ((s.ended i m).conn i) m st] serves'
  have xlt : ((s.ended i m).respond i ((s.ended i m).regionAt r).grp [respPkt ((s.ended i m).conn i) m st]).xlt = (s.ended i m).xlt := (State.respond_keeps ..).kept .xlt (by decide)
  rw [State.ended_xlt] at xlt
  generalize ((s.ended i m).respond i ((s.ended i m).regionAt r).grp [respPkt ((s.ended i m).conn i) m st]) = t at pumped xlt ⊢
  rw [State.ended_conn] at queued
  refine ⟨?_, ?_, fun none => ?_, xlt⟩
  · unfold Conn.tgt
    rw [pumped.rest, queued, ← number]
    exact (s.conn i).tgt_resolve m.msn
  · have mem : { respPkt ((s.conn i).resolve m.msn) m st with pkt := { (respPkt ((s.conn i).resolve m.msn) m st).pkt with
        claim := BitVec.ofNat 64 ((s.ended i m).get TWN.TWN_CLAIM_LOCAL 0 ((s.ended i m).regionAt r).grp), grp := Fin.ofNat 16 ((s.ended i m).regionAt r).grp } } ∈ c.txq := by
      rw [queued]
      exact List.mem_append_right _ (List.mem_singleton.mpr rfl)
    exact pumped.responds mem (by
      show BitVec.ofNat 32 m.msn = msn
      rw [number, BitVec.ofNat_toNat, BitVec.setWidth_eq]) rfl
  · rw [pumped.rest, queued]
    exact Conn.holds_resolve none m.msn

end Sys2Proof.Machine
end

section
/-! SUPPORT. Cemanor: request packets that are late, find no slot, wait for their turn, or bring a stale key (R428, R434, R436). -/
namespace Sys2Proof.Machine

/-- What a request packet may change. -/
@[reducible] def targetParts : List Part := [.xlt, .qe, .mov, .tier, .pan, .twn, .cmn, .dmc, .flm] ++ reported
@[reducible] def targetFields : List Fld :=
  [MOV.OFFLINE, MOV.STATE, TIER.SUBST, CME.AUTH_FAIL, CME.HOLD_DROP, CME.LATE_PKT, CME.VIOL_RX, CME.VIOL_TX, CMP.CE_MARKED, CMP.FCS_ERR, CMP.RX_DROP, CMP.RX_FRAMES, CMP.TX_FRAMES,
   HP.POISON_CNT, HP.REFUSE_CNT, MOV.FAULT_CNT, MOV.LAST_FCLASS, MOV.LAST_FOFF, MOV.LAST_STATUS, PAN.HIT_CNT, PAN.MISS_CNT, PAN.WB_CNT, TIER.MISSED, TIER.ON_TIME, TIER.QUOTA_REFUSE,
   XLT.BUSY, CIP.AUTH_FAIL_CNT] ++ reportedFields

section Steps
variable (s : State) (p : Packet)

theorem State.request_keeps_target (op : Nat) : State.Keeps ⟨targetParts, some targetFields⟩ s ((s.rcvd p).request (cmnIx p) op p).movSettle :=
  (State.movSettle_keeps _).step ((State.request_keeps ..).step ((s.rcvd_keeps p).mono (by decide)) (by decide)) (by decide)

theorem State.request_frame {s : State} (hs : s.regsOk) (p : Packet) (op : Nat) : s.frame ((s.rcvd p).request (cmnIx p) op p).movSettle targetParts targetFields :=
  (s.request_keeps_target p op).frame hs (by decide)

theorem State.tookPkt_conn : (s.conn (cmnIx p)).Acks ((s.tookPkt p).conn (cmnIx p)) ∧ ((s.tookPkt p).conn (cmnIx p)).accepted p := by
  have took := (s.rcvd p).acceptPsn_acks (cmnIx p) p
  rw [s.rcvd_conn p] at took
  exact took

theorem State.tookPkt_calm : s.Calm (s.tookPkt p) := (s.rcvd_calm p).trans (State.acceptPsn_calm ..)

theorem State.tookPkt_keeps : State.Keeps ⟨[.regs, .cmn, .out], some [CMP.RX_FRAMES, CMP.TX_FRAMES]⟩ s (s.tookPkt p) :=
  (State.acceptPsn_keeps ..).step ((s.rcvd_keeps p).mono (by decide)) (by decide)

end Steps

/-- A control packet that finds a path. -/
theorem State.sendCtl_sent (s : State) (i op : Nat) (fill : Packet → Packet) (paths : (s.conn i).paths ≠ []) :
    ∃ way : CmnPath, (s.sendCtl i op none fill).conn i = (s.conn i).ctlSent (fill (s.conn i).blank).phase ∧ (s.sendCtl i op none fill).out = s.out ++
      [.packet op (({ fill (s.conn i).blank with psn := BitVec.ofNat 32 ((s.conn i).txCtl (fill (s.conn i).blank).phase) } : Packet).via way)] := by
  obtain ⟨way, e⟩ := s.sendCtl_best i op fill paths
  rw [e, State.sendFrame_conn, State.conn_putConn_same]
  exact ⟨way, rfl, rfl⟩

theorem State.sendNack_sent (s : State) (i : Nat) (phase : Bool) (gaps : List (Nat × Nat)) (paths : (s.conn i).paths ≠ []) :
    ∃ q : Packet, (s.sendNack i phase gaps).out = s.out ++ [.packet opNack q] ∧ q.phase = phase ∧ q.conn = (s.conn i).desc.peerConn ∧
      q.data = (gaps.flatMap fun g => be 4 g.1 ++ be 4 g.2) ∧ (s.sendNack i phase gaps).conn i = (s.conn i).ctlSent phase := by
  obtain ⟨way, conn, out⟩ := s.sendCtl_sent i opNack (fun q => { q with phase := phase, plen := BitVec.ofNat 16 (8 * gaps.length), data := gaps.flatMap fun g => be 4 g.1 ++ be 4 g.2 }) paths
  exact ⟨_, out, rfl, rfl, rfl, conn⟩

theorem State.sendNack_calm (s : State) (i : Nat) (phase : Bool) (gaps : List (Nat × Nat)) : s.Calm (s.sendNack i phase gaps) := State.sendCtl_calm ..

theorem Conn.accepted.of_rx {c d : Conn} {p : Packet} (h : c.accepted p) (rx0 : d.rx0 = c.rx0) (rx1 : d.rx1 = c.rx1) : d.accepted p := by
  unfold Conn.accepted Conn.rx at *
  rw [rx0, rx1]
  exact h

section Clauses
variable {s : State} {p : Packet}

theorem cmnWrite_late (hs : s.regsOk) (h : s.receives p true) (low : p.msn.toNat < (s.conn (cmnIx p)).msnBase) :
    ∃ t, exec (.cmnWrite p) s = .next t ∧ (t.conn (cmnIx p)).accepted p ∧ t.get CME.LATE_PKT 4 = satAdd 32 (s.get CME.LATE_PKT 4) 1 ∧ t.pan = s.pan ∧ t.twn = s.twn ∧
      s.frame t targetParts targetFields := by
  have run : exec (.cmnWrite p) s = .next ((s.rcvd p).request (cmnIx p) opWrite p).movSettle := congrArg Host.Outcome.next (State.rxRequest_received hs h (.write p) opWrite)
  have frame := State.request_frame hs p opWrite
  rw [State.request_late opWrite low] at run frame
  have took := (s.tookPkt_calm p).ok hs
  refine ⟨_, run, ?_, ?_, ?_, ?_, frame⟩
  · rw [State.movSettle_conn]
    exact (s.tookPkt_conn p).2
  · rw [(State.movSettle_calm _).get (State.regsOk_inc took _ _ _ _) CME.LATE_PKT rfl (by decide), State.get_inc_engine took, (s.tookPkt_calm p).get hs CME.LATE_PKT rfl (by decide)]
    rfl
  · rw [State.movSettle_pan]
    exact (s.tookPkt_keeps p).kept .pan (by decide)
  · rw [State.movSettle_twn]
    exact (s.tookPkt_keeps p).kept .twn (by decide)

theorem cmnWrite_full (hs : s.regsOk) (h : s.receives p true) (low : (s.conn (cmnIx p)).msnBase ≤ p.msn.toNat) (high : p.msn.toNat ≤ (s.conn (cmnIx p)).msnBase + 4095)
    (fresh : p.msn.toNat ∉ (s.conn (cmnIx p)).resolved) (unseen : (s.conn (cmnIx p)).tgt p.msn.toNat = none) (full : 262144 ≤ (s.rcvd p).slotsUsed) (paths : (s.conn (cmnIx p)).paths ≠ []) :
    ∃ t, exec (.cmnWrite p) s = .next t ∧ (t.conn (cmnIx p)).rx p.phase = (s.conn (cmnIx p)).rx p.phase ∧ t.get CME.HOLD_DROP 4 = satAdd 32 (s.get CME.HOLD_DROP 4) 1 ∧
      (∃ q : Packet, t.out = s.out ++ [.packet opNack q] ∧ q.phase = p.phase ∧ q.conn = (s.conn (cmnIx p)).desc.peerConn ∧ q.data = be 4 p.psn.toNat ++ be 4 1) ∧
      s.frame t targetParts targetFields := by
  have run : exec (.cmnWrite p) s = .next ((s.rcvd p).request (cmnIx p) opWrite p).movSettle := congrArg Host.Outcome.next (State.rxRequest_received hs h (.write p) opWrite)
  have frame := State.request_frame hs p opWrite
  rw [State.request_full opWrite low high fresh unseen full] at run frame
  have here : ((s.rcvd p).inc CME.HOLD_DROP 1 4).conn (cmnIx p) = s.conn (cmnIx p) := s.rcvd_conn p
  have ok := (s.rcvd_calm p).ok hs
  obtain ⟨q, out, phase, peer, data, conn⟩ := ((s.rcvd p).inc CME.HOLD_DROP 1 4).sendNack_sent (cmnIx p) p.phase [(p.psn.toNat, 1)] (by rw [here]; exact paths)
  rw [here] at conn peer
  refine ⟨_, run, ?_, ?_, ⟨q, (State.movSettle_out _).trans out, phase, peer, data.trans (List.append_nil _)⟩, frame⟩
  · rw [State.movSettle_conn, conn, Conn.rx_ctlSent]
  · rw [((State.sendNack_calm _ _ _ _).trans (State.movSettle_calm _)).get (State.regsOk_inc ok _ _ _ _) CME.HOLD_DROP rfl (by decide), State.get_inc_engine ok,
      (s.rcvd_calm p).get hs CME.HOLD_DROP rfl (by decide)]
    rfl

theorem cmnWrite_held {u : State} {j : Nat} {r : Registration} (hs : s.regsOk) (h : s.receives p true) (new : s.newMessage p) (flagged : p.flagged = true)
    (early : (s.conn (cmnIx p)).msnBase ≠ p.msn.toNat) (room : (s.conn (cmnIx p)).holds.length < (s.conn (cmnIx p)).desc.holdMax.toNat) (slots : (s.rcvd p).holdsUsed < 512)
    (admitted : (s.tookPkt p).admitKey p.rkey.toNat (s.conn (cmnIx p)).desc.peerNode.toNat = (u, .ok (j, r))) :
    ∃ t, exec (.cmnWrite p) s = .next t ∧ (t.conn (cmnIx p)).holds = (s.conn (cmnIx p)).holds ++ [{ p with status := 0 }] ∧ (t.conn (cmnIx p)).tgt p.msn.toNat = some (slotNew p false) ∧
      (t.conn (cmnIx p)).accepted p ∧ (t.registrationAt j).inflight = (r.inflight + 1) % 2 ^ 32 ∧ t.mem = s.mem ∧ s.frame t targetParts targetFields := by
  have run : exec (.cmnWrite p) s = .next ((s.rcvd p).request (cmnIx p) opWrite p).movSettle := congrArg Host.Outcome.next (State.rxRequest_received hs h (.write p) opWrite)
  have frame := State.request_frame hs p opWrite
  have waits : (s.conn (cmnIx p)).awaits p = true := by
    unfold Conn.awaits Conn.turn
    rw [flagged, beq_eq_false_iff_ne.mpr early]
    rfl
  rw [State.request_new opWrite new fun _ => ⟨room, slots⟩, admitted] at run frame
  dsimp only at run frame
  rw [if_pos waits] at run frame
  have entered : u.conn (cmnIx p) = (s.tookPkt p).conn (cmnIx p) := by
    have keep := State.conn_of_cmn ((State.admitKey_keeps (s.tookPkt p) p.rkey.toNat (s.conn (cmnIx p)).desc.peerNode.toNat).kept .cmn (by decide)) (cmnIx p)
    rw [admitted] at keep
    exact keep
  obtain ⟨acks, accepted⟩ := s.tookPkt_conn p
  generalize (s.tookPkt p).conn (cmnIx p) = c at entered acks accepted
  generalize made : ((u.putRegistration j { r with inflight := (r.inflight + 1) % 2 ^ 32 }).modConn (cmnIx p) fun c => c.putTgt (slotNew p (opWrite == opRead))).modConn (cmnIx p)
    (fun c => { c with holds := c.holds ++ [{ p with status := if opWrite = opRead then 1 else if opWrite = opMasked then 2 else 0 }] }) = w at run frame
  have conn : w.conn (cmnIx p) = { c.putTgt (slotNew p false) with holds := (s.conn (cmnIx p)).holds ++ [{ p with status := 0 }] } := by
    rw [← made, State.conn_modConn, State.conn_modConn, show (u.putRegistration j { r with inflight := (r.inflight + 1) % 2 ^ 32 }).conn (cmnIx p) = u.conn (cmnIx p) from rfl, entered, acks]
    rfl
  have full : (if w.holdsUsed = 512 then w.blkErr cmePage 18 4 else w).movSettle.conn (cmnIx p) = w.conn (cmnIx p) ∧
      w.SameTables (if w.holdsUsed = 512 then w.blkErr cmePage 18 4 else w).movSettle := by
    rw [State.movSettle_conn]
    split
    · exact ⟨State.conn_of_cmn (State.blkErr_cmn ..) _, State.SameTables.trans (.of_xlt (State.blkErr_xlt ..)) (State.movSettle_tables _)⟩
    · exact ⟨rfl, State.movSettle_tables _⟩
  refine ⟨_, run, ?_, ?_, ?_, ?_, frame.1 .mem (by decide), frame⟩
  · rw [full.1, conn]
  · rw [full.1, conn]
    exact Conn.tgt_putTgt _ (slotNew p false)
  · rw [full.1, conn]
    exact accepted.of_rx rfl rfl
  · rw [full.2.registrationAt, ← made]
    exact congrArg Registration.inflight (u.registrationAt_put_same ..)

end Clauses

end Sys2Proof.Machine
end

section
/-! SUPPORT. Cemanor: a stale key, and the timers of a connection (R429, R431, R436). -/
namespace Sys2Proof.Machine

/-! ## A stale key -/

/-- The state in which the refusal of a stale key is queued: the violation is counted, the message resolved, the tiers have let it go. -/
def State.staleEnded (s : State) (i : Nat) (m : TgtMsg) : State :=
  ({ (s.violate i m .keyStale none).modConn i fun c => c.resolve m.msn with
    tier.held := (s.violate i m .keyStale none).tier.held.filter fun w => match w.who with | .cmn j n _ => !(j == i && n == m.msn) | _ => true,
    tier.reads := (s.violate i m .keyStale none).tier.reads.filter fun w => match w.who with | .cmn j n _ => !(j == i && n == m.msn) | _ => true } : State).settleAll

theorem State.tgtEnd_stale (s : State) (i : Nat) (m : TgtMsg) :
    s.tgtEnd i m false .keyStale none = ((s.staleEnded i m).modConn i fun c => { c with txq := c.txq ++ [respPkt c m .keyStale] }).cmnPump i := rfl

theorem State.violate_conn (s : State) (i : Nat) (m : TgtMsg) (st : Status) : (s.violate i m st none).conn i = { s.conn i with viol := satAdd 32 (s.conn i).viol 1 } := by
  unfold State.violate
  show (State.putConn _ i _).conn i = _
  rw [State.conn_putConn_same]

theorem State.staleEnded_conn (s : State) (i : Nat) (m : TgtMsg) : (s.staleEnded i m).conn i = Conn.resolve { s.conn i with viol := satAdd 32 (s.conn i).viol 1 } m.msn := by
  unfold State.staleEnded
  rw [State.conn_of_cmn ((State.settleAll_keeps _).kept .cmn (by decide))]
  show ((s.violate i m .keyStale none).modConn i fun c => c.resolve m.msn).conn i = _
  rw [State.conn_modConn, State.violate_conn]

/-- The counter of violations sent counts one for the stale key. -/
theorem State.tgtEnd_stale_count {s : State} (hs : s.regsOk) (i : Nat) (m : TgtMsg) : (s.tgtEnd i m false .keyStale none).get CME.VIOL_TX 4 = satAdd 32 (s.get CME.VIOL_TX 4) 1 := by
  generalize told : (s.misc cmePage 4 (le 1 Status.keyStale.code ++ le 3 i ++ le 3 (s.conn i).desc.peerNode.toNat ++ le 4 m.rkey ++ le 4 m.msn ++ le 5 m.off)).putConn i
    { s.conn i with viol := satAdd 32 (s.conn i).viol 1 } = a
  have before : s.Calm a := by
    rw [← told]
    exact (State.Calm.of_rep (State.misc_rep s (p := cmePage) (by decide) ..)).trans (State.putConn_calm ..)
  have counted : s.violate i m .keyStale none = a.inc CME.VIOL_TX 1 4 := by
    rw [← told]
    rfl
  have after : (a.inc CME.VIOL_TX 1 4).Calm (s.tgtEnd i m false .keyStale none) := by
    rw [State.tgtEnd_stale, ← counted]
    refine State.Calm.trans ?_ ((State.putConn_calm ..).trans (State.cmnPump_calm ..))
    refine State.Calm.trans ?_ (State.Calm.of_rep (State.settleAll_rep _))
    exact State.Calm.of_regs rfl rfl
  rw [after.get (State.regsOk_inc (before.ok hs) _ _ _ _) CME.VIOL_TX rfl (by decide), State.get_inc_engine (before.ok hs), before.get hs CME.VIOL_TX rfl (by decide)]
  rfl

theorem cmnWriteMasked_stale {s u : State} {p : Packet} (hs : s.regsOk) (h : s.receives p true) (new : s.newMessage p) (plain : p.flagged = false)
    (stale : (s.tookPkt p).admitKey p.rkey.toNat (s.conn (cmnIx p)).desc.peerNode.toNat = (u, .error .keyStale)) :
    ∃ t, exec (.cmnWriteMasked p) s = .next t ∧ (t.conn (cmnIx p)).tgt p.msn.toNat = none ∧ (t.conn (cmnIx p)).responds opWriteCmp p.msn.toNat .keyStale ∧
      (t.conn (cmnIx p)).viol = satAdd 32 (s.conn (cmnIx p)).viol 1 ∧ t.get CME.VIOL_TX 4 = satAdd 32 (s.get CME.VIOL_TX 4) 1 ∧ t.pan = s.pan ∧ t.twn = s.twn ∧
      s.frame t targetParts targetFields := by
  have run : exec (.cmnWriteMasked p) s = .next ((s.rcvd p).request (cmnIx p) opMasked p).movSettle := congrArg Host.Outcome.next (State.rxRequest_received hs h (.masked p) opMasked)
  have frame := State.request_frame hs p opMasked
  have goes : (s.conn (cmnIx p)).awaits p = false := by
    unfold Conn.awaits
    rw [plain]
    rfl
  rw [State.request_new opMasked new (fun waits => by rw [goes] at waits; cases waits), stale] at run frame
  rw [show (opMasked == opRead) = false from rfl] at run frame
  dsimp only at run frame
  have refused := State.admitKey_stale stale
  have calm : s.Calm u := by
    rw [refused]
    exact (s.tookPkt_calm p).trans (State.Calm.of_rep (State.misc_rep _ (p := xltPage) (by decide) ..))
  have viol : (u.conn (cmnIx p)).viol = (s.conn (cmnIx p)).viol := by
    rw [refused, State.conn_of_cmn (State.misc_cmn ..), (s.tookPkt_conn p).1]
  have kept : State.Keeps ⟨[.xlt, .qe, .tier, .cmn] ++ reported, some targetFields⟩ s (u.tgtEnd (cmnIx p) (slotNew p false) false .keyStale none) := by
    rw [refused]
    exact (State.tgtEnd_keeps ..).step ((State.misc_keeps ..).step ((s.tookPkt_keeps p).mono (by decide)) (by decide)) (by decide)
  have pumped := ((u.staleEnded (cmnIx p) (slotNew p false)).modConn (cmnIx p) fun c => { c with txq := c.txq ++ [respPkt c (slotNew p false) .keyStale] }).cmnPump_conn (cmnIx p)
  rw [State.conn_modConn, State.staleEnded_conn, ← State.tgtEnd_stale] at pumped
  have count := State.tgtEnd_stale_count (calm.ok hs) (cmnIx p) (slotNew p false)
  rw [calm.get hs CME.VIOL_TX rfl (by decide)] at count
  refine ⟨_, run, ?_, ?_, ?_, ?_, ?_, ?_, frame⟩
  · rw [State.movSettle_conn]
    unfold Conn.tgt
    refine Eq.trans ?_ (Conn.tgt_resolve { u.conn (cmnIx p) with viol := satAdd 32 (u.conn (cmnIx p)).viol 1 } p.msn.toNat)
    exact congrArg (fun c : Conn => c.tgts.find? fun m => m.msn == p.msn.toNat) pumped.rest
  · rw [State.movSettle_conn]
    exact pumped.responds (List.mem_append_right _ (List.mem_singleton.mpr rfl)) (BitVec.ofNat_toNat ..) rfl
  · rw [State.movSettle_conn]
    exact (congrArg Conn.viol pumped.rest).trans (congrArg (satAdd 32 · 1) viol)
  · rw [(State.movSettle_calm _).get (kept.ok hs) CME.VIOL_TX rfl (by decide)]
    exact count
  · rw [State.movSettle_pan]
    exact kept.kept .pan (by decide)
  · rw [State.movSettle_twn]
    exact kept.kept .twn (by decide)

end Sys2Proof.Machine
end

section
/-! SUPPORT. Cemanor: the message timeout, the ACK timer and the NACK delay (R429, R431). -/
namespace Sys2Proof.Machine

@[reducible] def timeoutFields : List Fld :=
  [MOV.LAST_FCLASS, MOV.LAST_FOFF, MOV.LAST_STATUS, TIER.SUBST, CME.MSG_TIMEOUTS, CME.VIOL_TX, CMP.TX_FRAMES, PAN.HIT_CNT, PAN.MISS_CNT, PAN.WB_CNT, TIER.MISSED, TIER.ON_TIME,
   TIER.QUOTA_REFUSE] ++ reportedFields

theorem State.messageEnd_opened {s : State} {i : Nat} (opened : (s.registrationAt i).state = .opened) :
    ((s.messageEnd i).registrationAt i).inflight = (s.registrationAt i).inflight - 1 := by
  unfold State.messageEnd
  dsimp only
  rw [if_neg (by rw [opened]; exact fun h => by cases h.1), State.registrationAt_put_same]

theorem State.tgtEnd_calm {s : State} (i : Nat) (m : TgtMsg) {st : Status} (r : Nat) (harmless : violation st = false) (unfenced : st ≠ .fenced) :
    s.Calm (s.tgtEnd i m true st (some r)) := by
  rw [State.tgtEnd_eq s i m r harmless unfenced]
  exact (State.Calm.of_rep (s.ended_rep i m)).trans (State.respond_calm ..)

theorem msgTimeout_answered {s : State} {c : BitVec 20} {msn : BitVec 32} {m : TgtMsg} (hs : s.regsOk) (open_ : (s.conn c.toNat).tgt msn.toNat = some m) (holds : (s.conn c.toNat).holds = [])
    (serves : s.serves (s.regionAt (s.registrationAt m.reg).region).grp = true) :
    ∃ t, exec (.msgTimeout c msn) s = .next t ∧ (t.conn c.toNat).tgt msn.toNat = none ∧ (t.conn c.toNat).responds (if m.read then opReadResp else opWriteCmp) (msn.toNat) .incompleteMessage ∧
      t.get CME.MSG_TIMEOUTS 4 = satAdd 32 (s.get CME.MSG_TIMEOUTS 4) 1 ∧ ((s.registrationAt m.reg).state = .opened → (t.registrationAt m.reg).inflight = (s.registrationAt m.reg).inflight - 1) ∧
      s.frame t targetParts timeoutFields := by
  have calm := s.tgtEnd_calm c.toNat m (s.registrationAt m.reg).region (st := .incompleteMessage) rfl (by decide)
  obtain ⟨gone, told, free, xlt⟩ := State.tgtEnd_answered hs (st := .incompleteMessage) (Conn.tgt_msn open_) rfl (by decide) serves
  have free' : (((s.tgtEnd c.toNat m true .incompleteMessage (some (s.registrationAt m.reg).region)).inc CME.MSG_TIMEOUTS 1 4).conn c.toNat).holds = [] := free holds
  have done : exec (.msgTimeout c msn) s = .next ((s.tgtEnd c.toNat m true .incompleteMessage (some (s.registrationAt m.reg).region)).inc CME.MSG_TIMEOUTS 1 4).movSettle := by
    show execMsgTimeout c msn s = _
    unfold execMsgTimeout
    dsimp only
    rw [open_]
    dsimp only
    rw [State.releaseHolds_nil free']
  refine ⟨_, done, ?_, ?_, ?_, fun opened => ?_, ((execMsgTimeout_keeps ..).out done).frame hs (by decide)⟩
  · rw [State.movSettle_conn]
    exact gone
  · rw [State.movSettle_conn]
    exact told
  · rw [(State.movSettle_calm _).get (State.regsOk_inc (calm.ok hs) _ _ _ _) CME.MSG_TIMEOUTS rfl (by decide), State.get_inc_engine (calm.ok hs), calm.get hs CME.MSG_TIMEOUTS rfl (by decide)]
    rfl
  · rw [(State.movSettle_tables _).registrationAt]
    have kept : ((s.tgtEnd c.toNat m true .incompleteMessage (some (s.registrationAt m.reg).region)).inc CME.MSG_TIMEOUTS 1 4).registrationAt m.reg =
        ((s.modConn c.toNat fun c => c.resolve m.msn).messageEnd m.reg).registrationAt m.reg := congrArg (fun x : XltState => (tget x.registrations m.reg).getD noRegistration) xlt
    rw [kept, State.messageEnd_opened (s := s.modConn c.toNat fun c => c.resolve m.msn) opened]
    rfl

/-! ## ACK and NACK -/

theorem State.sendAck_sent (s : State) (i : Nat) (phase : Bool) (paths : (s.conn i).paths ≠ []) :
    ∃ q : Packet, (s.sendAck i phase none).out = s.out ++ [.packet opAck q] ∧ q.phase = phase ∧ q.conn = (s.conn i).desc.peerConn ∧
      q.psn = BitVec.ofNat 32 ((s.conn i).txCtl phase) ∧ q.rkey = BitVec.ofNat 32 (((s.conn i).rx phase).base + 2 ^ 32 - 1) ∧ q.offset = BitVec.ofNat 40 ((s.conn i).ceCount * 256) ∧
      (s.sendAck i phase none).conn i = Conn.ctlSent { s.conn i with owed := 0 } phase := by
  have here := State.conn_putConn_same s i { s.conn i with owed := 0 }
  obtain ⟨way, conn, out⟩ := (s.putConn i { s.conn i with owed := 0 }).sendCtl_sent i opAck
    (fun p => { p with phase := phase, rkey := BitVec.ofNat 32 (((s.conn i).rx phase).base + 2 ^ 32 - 1), offset := BitVec.ofNat 40 ((s.conn i).ceCount * 256) })
    (by rw [here]; exact paths)
  rw [here] at conn out
  exact ⟨_, out, rfl, rfl, rfl, rfl, rfl, conn⟩

theorem ofNat_before {n : Nat} (h : 0 < n) : BitVec.ofNat 32 (n + 2 ^ 32 - 1) = BitVec.ofNat 32 (n - 1) := by
  refine BitVec.eq_of_toNat_eq ?_
  rw [BitVec.toNat_ofNat, BitVec.toNat_ofNat]
  omega

theorem ackTimer_acks {s : State} {c : BitVec 20} (hs : s.regsOk) (live : (s.conn c.toNat).live = true) (owed : (s.conn c.toNat).owed ≠ 0) (keyed : (s.conn c.toNat).keys0.isSome = true)
    (base : 0 < (s.conn c.toNat).rx0.base) (single : (s.conn c.toNat).keys1 = none) (paths : (s.conn c.toNat).paths ≠ []) :
    ∃ t, exec (.ackTimer c) s = .next t ∧ (t.conn c.toNat).owed = 0 ∧ (∃ q : Packet, t.out = s.out ++ [.packet opAck q] ∧ q.phase = false ∧ q.conn = (s.conn c.toNat).desc.peerConn ∧
      q.psn = BitVec.ofNat 32 (s.conn c.toNat).txCtl0 ∧ q.rkey = BitVec.ofNat 32 ((s.conn c.toNat).rx0.base - 1) ∧ q.offset = BitVec.ofNat 40 ((s.conn c.toNat).ceCount * 256)) ∧
      s.frame t [.regs, .cmn, .out] [CMP.TX_FRAMES] := by
  have done : exec (.ackTimer c) s = .next (s.sendAck c.toNat false none) := by
    show execAckTimer c s = _
    unfold execAckTimer
    simp [live, owed, keyed, base, single]
  obtain ⟨q, out, phase, peer, psn, rkey, ce, conn⟩ := s.sendAck_sent c.toNat false paths
  refine ⟨_, done, ?_, ⟨q, out, phase, peer, psn, rkey.trans (ofNat_before base), ce⟩, ((execAckTimer_keeps ..).out done).frame hs (by decide)⟩
  rw [conn]
  rfl

theorem rangesOf_ne_nil {l : List Nat} (h : l ≠ []) : rangesOf l ≠ [] := by
  cases l with
  | nil => exact absurd rfl h
  | cons n l =>
    show (match rangesOf l with | (a, k) :: rest => if n + 1 = a then (n, k + 1) :: rest else (n, 1) :: rangesOf l | [] => [(n, 1)]) ≠ []
    split
    · split <;> exact List.cons_ne_nil _ _
    · exact List.cons_ne_nil _ _

/-- At most 32 items are one chunk of 32. -/
theorem chunks_one {α : Type} {l : List α} (some : l ≠ []) (few : l.length ≤ 32) : chunks 32 ((l.length + 31) / 32) l = [l] := by
  have one : (l.length + 31) / 32 = 1 := by
    have := List.length_pos_iff.mpr some
    omega
  rw [one]
  show [l.take 32] = [l]
  rw [List.take_of_length_le few]

/-- The connection with the missing numbers of a phase named in a NACK. -/
def Conn.named (c : Conn) (phase : Bool) (time : Nat) (want : List Nat) : Conn :=
  { c with nacked := (c.nacked.filter fun x => !(x.1 == phase && want.contains x.2.1)) ++ want.map fun n => (phase, n, time) }

theorem State.nackGaps_one {s : State} {i : Nat} {phase : Bool} (first : (s.conn i).nacked = []) (some : ((s.conn i).rx phase).missing ≠ []) (few : (rangesOf ((s.conn i).rx phase).missing).length ≤ 32) :
    s.nackGaps i phase = (s.putConn i ((s.conn i).named phase s.timeNs ((s.conn i).rx phase).missing)).sendNack i phase (rangesOf ((s.conn i).rx phase).missing) := by
  have want : (((s.conn i).rx phase).missing.filter fun n => !(s.conn i).nacked.any fun x => x.1 == phase && x.2.1 == n && s.timeNs < x.2.2 + s.get CME.RTO_US 4 * 1000) = ((s.conn i).rx phase).missing := by
    rw [first]
    exact List.filter_eq_self.mpr fun _ _ => rfl
  unfold State.nackGaps
  simp only [want]
  rw [chunks_one (rangesOf_ne_nil some) few]
  rfl

theorem State.nackGaps_none {s : State} {i : Nat} {phase : Bool} (none : ((s.conn i).rx phase).missing = []) : s.nackGaps i phase = s.putConn i ((s.conn i).named phase s.timeNs []) := by
  unfold State.nackGaps
  dsimp only
  rw [none, List.filter_nil]
  rfl

theorem nackDelay_names {s : State} {c : BitVec 20} (hs : s.regsOk) (live : (s.conn c.toNat).live = true) (paths : (s.conn c.toNat).paths ≠ []) (first : (s.conn c.toNat).nacked = [])
    (gaps : (s.conn c.toNat).rx0.missing ≠ []) (none : (s.conn c.toNat).rx1.missing = []) (few : (rangesOf (s.conn c.toNat).rx0.missing).length ≤ 32) :
    ∃ t, exec (.nackDelayExpiry c) s = .next t ∧ (∀ n ∈ (s.conn c.toNat).rx0.missing, (false, n, s.timeNs) ∈ (t.conn c.toNat).nacked) ∧
      (∃ q : Packet, t.out = s.out ++ [.packet opNack q] ∧ q.phase = false ∧ q.data = (rangesOf (s.conn c.toNat).rx0.missing).flatMap fun g => be 4 g.1 ++ be 4 g.2) ∧
      s.frame t [.regs, .cmn, .out] [CMP.TX_FRAMES] := by
  have done : exec (.nackDelayExpiry c) s = .next ((s.nackGaps c.toNat false).nackGaps c.toNat true) := by
    show execNackDelayExpiry c s = _
    unfold execNackDelayExpiry
    simp [live]
  have keeps := (execNackDelayExpiry_keeps c s).out done
  have here := State.conn_putConn_same s c.toNat ((s.conn c.toNat).named false s.timeNs ((s.conn c.toNat).rx false).missing)
  obtain ⟨q, out, phase, -, data, conn⟩ := (s.putConn c.toNat ((s.conn c.toNat).named false s.timeNs ((s.conn c.toNat).rx false).missing)).sendNack_sent c.toNat false
    (rangesOf ((s.conn c.toNat).rx false).missing) (by rw [here]; exact paths)
  rw [here] at conn
  rw [State.nackGaps_one (phase := false) first gaps few] at done keeps
  generalize ((s.putConn c.toNat ((s.conn c.toNat).named false s.timeNs ((s.conn c.toNat).rx false).missing)).sendNack c.toNat false (rangesOf ((s.conn c.toNat).rx false).missing)) = u at done keeps out conn
  have rest : ((u.conn c.toNat).rx true).missing = [] := by
    rw [conn]
    exact none
  rw [State.nackGaps_none rest] at done keeps
  refine ⟨_, done, fun n hn => ?_, ⟨q, out, phase, data⟩, keeps.frame hs (by decide)⟩
  rw [State.conn_putConn_same, conn]
  refine List.mem_append_left _ (List.mem_filter.mpr ⟨?_, rfl⟩)
  exact List.mem_append_right _ (List.mem_map.mpr ⟨n, hn, rfl⟩)

end Sys2Proof.Machine
end

section
/-! SUPPORT. Cemanor: the first packet of an admitted message is checked and walked (steps 7 to 9, R87, R94). -/
namespace Sys2Proof.Machine

/-- A packet whose lengths or flags disagree with its operation (R430, R432). -/
def malformed (p : Packet) (op span len : Nat) : Bool :=
  (op = opMasked && (p.offset.toNat % 64 ≠ 0 || p.data.length ≠ 64 || !p.first || !p.final)) || (op ≠ opRead && p.offset.toNat / span ≠ (p.offset.toNat + len - 1) / span) ||
  (op ≠ opRead && p.plen.toNat ≠ (if op = opMasked then 24 else 16) + p.data.length) || (op = opRead && (!p.first || !p.final || 1048576 < len)) || len = 0

/-- One sector of a READ (R432). -/
def State.tgtReadSector (i : Nat) (n : Nat) (tenant : Nat) (rd : Registration) (d : Region) (base : Nat) (s : State) (j : Nat) : State :=
  let o := base / 64 * 64 + j * 64
  match (s.conn i).tgt n with
  | none => s
  | some m =>
    match s.resolve rd.region d o with
    | (s, .error st) => s.tgtEnd i m true st (some rd.region)
    | (s, .ok pl) =>
      match s.readStart { place := pl, who := .cmn i m.msn o, tenant := tenant, train := some (.conn (BitVec.ofNat 20 i)), window := 0, dpa := o } with
      | (s, none) => s
      | (s, some (.value v how)) => s.modConn i fun c => c.putTgt { m with got := tset m.got o v, worst := m.worst.worse how }
      | (s, some (.subst v fl)) => s.modConn i fun c => c.putTgt { m with got := tset m.got o { data := v, poison := false }, worst := if fl then .okSubstituted else m.worst }
      | (s, some (.error st)) =>
        if st = .mediaError && d.pathMask.getLsbD 0 then s.modConn i fun c => c.putTgt { m with got := tset m.got o { data := 0, poison := true } }
        else s.tgtEnd i m true st (some rd.region)

/-- A READ that has passed its checks (R432). -/
def State.tgtRead (s : State) (i : Nat) (m : TgtMsg) (tenant : Nat) (rd : Registration) (d : Region) (base len : Nat) : State :=
  State.tgtCheck ((List.range ((base % 64 + len + 63) / 64)).foldl (State.tgtReadSector i m.msn tenant rd d base)
    (s.putConn i ((s.conn i).putTgt { m with want := (base % 64 + len + 63) / 64, read := true }))) i m.msn

/-- One part of a packet that writes. -/
def State.tgtWritePart (i op : Nat) (p : Packet) (span len : Nat) (rd : Registration) (d : Region) (a : State × Except Status TgtMsg) (x : Nat × Sector × BitVec 64) : State × Except Status TgtMsg :=
  match a.2 with
  | .ok m =>
    a.1.placeSector i m d rd (op ≠ opMasked && rd.baseOff + p.offset.toNat ≤ x.1 / 4096 * 4096 && x.1 / 4096 * 4096 + 4096 ≤ rd.baseOff + p.offset.toNat + len) x.1 x.2.1 x.2.2
      (p.poison.getLsbD ((x.1 - rd.baseOff) % span / 64)) p.psn.toNat
  | .error st => (a.1, .error st)

/-- The parts of a packet that writes. -/
def packetParts (p : Packet) (op at_ : Nat) : List (Nat × Sector × BitVec 64) := if op = opMasked then [(at_, ofSecBytes p.data, p.enable)] else spread at_ p.data

/-- A WRITE or WRITE_MASKED packet that has passed its checks (R430). -/
def State.tgtWrite (s : State) (i op : Nat) (p : Packet) (m : TgtMsg) (span len : Nat) (rd : Registration) (d : Region) : State :=
  let a := (packetParts p op (rd.baseOff + p.offset.toNat)).foldl (State.tgtWritePart i op p span len rd d) (s, .ok m)
  match a.2 with
  | .ok m => (a.1.modConn i fun c => c.putTgt { m with placed := m.placed + len }).tgtCheck i m.msn
  | .error st => a.1.tgtEnd i m true st (some rd.region)

theorem slotOf_eq (p : Packet) (read : Bool) (len : Nat) :
    { slotNew p read with total := if p.final then some p.total.toNat else (slotNew p read).total, first := if p.first then some p.offset.toNat else (slotNew p read).first,
                          final := if p.final then some (p.offset.toNat + len) else (slotNew p read).final, off := if p.first then p.offset.toNat else (slotNew p read).off } = slotOf p read len := by
  unfold slotOf slotNew
  cases p.first <;> rfl

/-- The first packet of an admitted message that is well formed and passes its checks is placed or read. -/
theorem State.tgtPlace_walked {u v w : State} {op : Nat} {p : Packet} {j len : Nat} {r : Registration} {d : Region} (index : j = keyIndex p.rkey.toNat)
    (looked : u.Looked (.registration (BitVec.ofNat 22 j))) (ok : r.checkOk = true) (length : len = if op = opRead then p.total.toNat else p.data.length)
    (slot : u.slotted p j r (op == opRead) len = v) (formed : malformed p op (2 ^ (u.conn (cmnIx p)).desc.dataLog2.toNat) len = false)
    (walk : v.checks (r.access (u.conn (cmnIx p)).desc.tenant.toNat p.offset.toNat len) .remote (op ≠ opRead) = (w, .ok d)) :
    ((u.putRegistration j { r with inflight := (r.inflight + 1) % 2 ^ 32 }).modConn (cmnIx p) fun c => c.putTgt (slotNew p (op == opRead))).tgtPlace (cmnIx p) op p =
      if op = opRead then w.tgtRead (cmnIx p) { slotOf p (op == opRead) len with grp := d.grp } (u.conn (cmnIx p)).desc.tenant.toNat { r with inflight := (r.inflight + 1) % 2 ^ 32 } d (r.baseOff + p.offset.toNat) len
      else w.tgtWrite (cmnIx p) op p { slotOf p (op == opRead) len with grp := d.grp } (2 ^ (u.conn (cmnIx p)).desc.dataLog2.toNat) len { r with inflight := (r.inflight + 1) % 2 ^ 32 } d := by
  generalize made : (u.putRegistration j { r with inflight := (r.inflight + 1) % 2 ^ 32 }).modConn (cmnIx p) (fun c => c.putTgt (slotNew p (op == opRead))) = a
  have conn : a.conn (cmnIx p) = (u.conn (cmnIx p)).putTgt (slotNew p (op == opRead)) := by
    rw [← made, State.conn_modConn]
    rfl
  have desc : (a.conn (cmnIx p)).desc = (u.conn (cmnIx p)).desc := by
    rw [conn]
    rfl
  have slots : (a.conn (cmnIx p)).tgt p.msn.toNat = some (slotNew p (op == opRead)) := by
    rw [conn]
    exact Conn.tgt_putTgt _ (slotNew p (op == opRead))
  have admitted : a.registrationAt (slotNew p (op == opRead)).reg = { r with inflight := (r.inflight + 1) % 2 ^ 32 } := by
    rw [← made, show (slotNew p (op == opRead)).reg = j from index.symm]
    exact State.registrationAt_put_same ..
  have put : a.putConn (cmnIx p) ((a.conn (cmnIx p)).putTgt (slotOf p (op == opRead) len)) = v := by
    rw [← slot, ← made]
    rfl
  have small : j < 2 ^ 22 := by
    rw [index]
    unfold keyIndex
    have := p.rkey.isLt
    omega
  have got : v.xGet (.registration (BitVec.ofNat 22 (slotNew p (op == opRead)).reg)) = (v, some (.registration { r with inflight := (r.inflight + 1) % 2 ^ 32 })) := by
    rw [show (slotNew p (op == opRead)).reg = j from index.symm]
    refine State.xGet_admitted (u := u) small looked ?_ ?_
    · exact ok
    · rw [← slot]
      rfl
  have off : (if p.first = true then p.offset.toNat else (slotNew p (op == opRead)).off) = p.offset.toNat := by split <;> rfl
  unfold State.tgtPlace
  dsimp only
  rw [slots]
  dsimp only
  rw [admitted, desc, ← length, slotOf_eq, put]
  unfold malformed at formed
  rw [formed]
  rw [if_neg Bool.false_ne_true, got]
  dsimp only
  rw [show Registration.access { r with inflight := (r.inflight + 1) % 2 ^ 32 } (u.conn (cmnIx p)).desc.tenant.toNat p.offset.toNat len =
    r.access (u.conn (cmnIx p)).desc.tenant.toNat p.offset.toNat len from rfl, walk]
  simp only [off]
  by_cases read : op = opRead
  · rw [if_pos read, if_pos read]
    rfl
  · rw [if_neg read, if_neg read]
    rfl

end Sys2Proof.Machine
end

section
/-! SUPPORT. Cemanor: a packet of one sector that writes (R430). -/
namespace Sys2Proof.Machine

/-! ## Settling and the connections -/

section Settle
variable (s : State) (x : CmnState)

theorem State.settle_with_cmn (p : Nat) : ({ s with cmn := x } : State).settle p = { s.settle p with cmn := x } := by
  unfold State.settle
  rw [show ({ s with cmn := x } : State).block p = s.block p from rfl]
  cases s.block p with
  | none => rfl
  | some b =>
    dsimp only
    split
    · cases b.charge <;> rfl
    · rfl

theorem State.settleAll_with_cmn : ({ s with cmn := x } : State).settleAll = { s.settleAll with cmn := x } := by
  have step (l : Table TBlock) : ∀ t : State, l.foldl (fun s e => if e.2.state = .rising || e.2.charge.isNone || s.writeWaits e.1 then s else s.settle e.1) ({ t with cmn := x } : State) =
      { l.foldl (fun s e => if e.2.state = .rising || e.2.charge.isNone || s.writeWaits e.1 then s else s.settle e.1) t with cmn := x } := by
    induction l with
    | nil => exact fun _ => rfl
    | cons e l ih =>
      intro t
      rw [List.foldl_cons, List.foldl_cons, ← ih]
      congr 1
      rw [show ({ t with cmn := x } : State).writeWaits e.1 = t.writeWaits e.1 from rfl]
      split
      · rfl
      · exact t.settle_with_cmn x e.1
  exact step s.tier.blocks s

theorem State.movSettle_with_cmn : ({ s with cmn := x } : State).movSettle = { s.movSettle with cmn := x } := by
  have shown (l : List (Nat × Nat × Nat)) : ∀ t : State, l.foldl (fun s t => s.moverShows t.1 0xB t.2.1 t.2.2) ({ t with cmn := x } : State) =
      { l.foldl (fun s t => s.moverShows t.1 0xB t.2.1 t.2.2) t with cmn := x } := by
    induction l with
    | nil => exact fun _ => rfl
    | cons e l ih => exact fun t => ih (t.moverShows e.1 0xB e.2.1 e.2.2)
  unfold State.movSettle
  dsimp only
  rw [shown]
  generalize List.foldl _ s _ = t
  exact State.settleAll_with_cmn ({ t with qe.cmds := t.qe.cmds.map Cmd.settle } : State).pruneReads x

end Settle

theorem State.movSettle_modConn (s : State) (i : Nat) (f : Conn → Conn) : (s.modConn i f).movSettle.tier = s.movSettle.tier :=
  (congrArg State.tier (s.movSettle_with_cmn { s.cmn with conns := tset s.cmn.conns i (f (s.conn i)) }) :)

/-! ## One sector -/

/-- 64 aligned bytes lie in one span. -/
theorem same_span {off k : Nat} (aligned : off % 64 = 0) (wide : 6 ≤ k) : (off + 64 - 1) / 2 ^ k = off / 2 ^ k := by
  obtain ⟨n, rfl⟩ := Nat.exists_eq_add_of_le wide
  rw [Nat.pow_add, ← Nat.div_div_eq_div_mul, ← Nat.div_div_eq_div_mul]
  congr 1
  omega

/-- 64 aligned bytes are one whole sector. -/
theorem spread_one {off : Nat} {bs : List Byte} (aligned : off % 64 = 0) (length : bs.length = 64) : spread off bs = [(off, ofSecBytes bs, BitVec.allOnes 64)] := by
  unfold spread
  dsimp only
  rw [aligned, List.replicate_zero, List.nil_append, length]
  show [(off / 64 * 64 + 0 * 64, ofSecBytes (bs.take 64), BitVec.ofNat 64 (2 ^ (bs.take 64).length - 2 ^ 0))] = _
  rw [List.take_of_length_le (Nat.le_of_eq length), length, show off / 64 * 64 + 0 * 64 = off by omega]
  rfl

theorem State.tgtWrite_one {w z : State} {i op : Nat} {p : Packet} {m n : TgtMsg} {span : Nat} {rd : Registration} {d : Region} {v : Sector} {en : BitVec 64}
    (part : packetParts p op (rd.baseOff + p.offset.toNat) = [(rd.baseOff + p.offset.toNat, v, en)])
    (placed : w.placeSector i m d rd false (rd.baseOff + p.offset.toNat) v en (p.poison.getLsbD (p.offset.toNat % span / 64)) p.psn.toNat = (z, .ok n)) :
    w.tgtWrite i op p m span 64 rd d = (z.modConn i fun c => c.putTgt { n with placed := n.placed + 64 }).tgtCheck i n.msn := by
  have small : (op ≠ opMasked && rd.baseOff + p.offset.toNat ≤ (rd.baseOff + p.offset.toNat) / 4096 * 4096 &&
      (rd.baseOff + p.offset.toNat) / 4096 * 4096 + 4096 ≤ rd.baseOff + p.offset.toNat + 64 : Bool) = false := by
    rw [Bool.eq_false_iff]
    intro all
    simp only [Bool.and_eq_true, decide_eq_true_eq] at all
    omega
  unfold State.tgtWrite
  rw [part]
  unfold State.tgtWritePart
  simp only [List.foldl_cons, List.foldl_nil, small, Nat.add_sub_cancel_left, placed]

/-- A message of which only a middle part has come stays open. -/
theorem State.tgtCheck_open {s : State} {i msn : Nat} {m : TgtMsg} (here : (s.conn i).tgt msn = some m) (total : m.total = none) (few : m.placed ≤ 1048576) (write : m.read = false)
    (first : m.first = none) : s.tgtCheck i msn = s := by
  unfold State.tgtCheck
  simp only [here, total, write, first, Nat.not_lt.mpr few, decide_false, Bool.false_eq_true, if_false]

/-- A write of one message whose sector is placed and acknowledged completes. -/
theorem State.tgtCheck_placed {s : State} {i msn a : Nat} {m : TgtMsg} (here : (s.conn i).tgt msn = some m) (total : m.total = some 64) (placed : m.placed = 64) (write : m.read = false)
    (first : m.first = some a) (final : m.final = some (a + 64)) (held : m.held = 0) (acked : (m.mirrors.any fun x => s.mirrorOpen (some x)) = false)
    {st : Status} (worst : m.worst = st) : s.tgtCheck i msn = s.tgtEnd i m true st (some (s.registrationAt m.reg).region) := by
  unfold State.tgtCheck
  simp [here, total, write, first, final, placed, held, acked, worst]

end Sys2Proof.Machine
end

section
/-! SUPPORT. Cemanor: the first packet of a WRITE and a WRITE_MASKED of one packet (R93, R428, R430). -/
namespace Sys2Proof.Machine

/-- A first packet that is not FLAGGED, from its arrival in s: u after the admission of its key, v with its slot taken, w after its checks. -/
structure State.Walks (s u v w : State) (p : Packet) (op j : Nat) (r : Registration) (d : Region) (len : Nat) : Prop where
  ok : s.regsOk
  receives : s.receives p true
  new : s.newMessage p
  plain : p.flagged = false
  wide : 10 ≤ (s.conn (cmnIx p)).desc.dataLog2.toNat
  aligned : p.offset.toNat % 64 = 0
  admitted : (s.tookPkt p).admitKey p.rkey.toNat (s.conn (cmnIx p)).desc.peerNode.toNat = (u, .ok (j, r))
  slot : u.slotted p j r (op == opRead) len = v
  walk : v.checks (r.access (s.conn (cmnIx p)).desc.tenant.toNat p.offset.toNat len) .remote (op ≠ opRead) = (w, .ok d)

namespace State.Walks
variable {s u v w : State} {p : Packet} {op j len : Nat} {r : Registration} {d : Region} (h : s.Walks u v w p op j r d len)
include h

theorem entered : State.Keeps State.admitKey_scope (s.tookPkt p) u := by
  have keep := State.admitKey_keeps (s.tookPkt p) p.rkey.toNat (s.conn (cmnIx p)).desc.peerNode.toNat
  rw [h.admitted] at keep
  exact keep

theorem checked : State.Keeps State.checks_scope v w := by
  have keep := v.checks_keeps (r.access (s.conn (cmnIx p)).desc.tenant.toNat p.offset.toNat len) .remote (op ≠ opRead)
  rw [h.walk] at keep
  exact keep

theorem desc : (u.conn (cmnIx p)).desc = (s.conn (cmnIx p)).desc := by
  rw [State.conn_of_cmn (h.entered.kept .cmn (by decide)), (s.tookPkt_conn p).1]

theorem checkedDesc : (w.conn (cmnIx p)).desc = (s.conn (cmnIx p)).desc := by
  rw [State.conn_of_cmn (h.checked.kept .cmn (by decide)), ← h.slot]
  unfold State.slotted
  rw [State.conn_modConn, State.conn_modConn]
  exact h.desc

theorem regsOk : w.regsOk := by
  refine h.checked.ok ?_
  rw [← h.slot]
  exact h.entered.ok ((s.tookPkt_calm p).ok h.ok)

/-- The registration of the message, as it stands after the checks. -/
theorem registrationAt : w.registrationAt (keyIndex p.rkey.toNat) = { r with inflight := (r.inflight + 1) % 2 ^ 32 } := by
  have tables := v.checks_tables (r.access (s.conn (cmnIx p)).desc.tenant.toNat p.offset.toNat len) .remote (op ≠ opRead)
  rw [h.walk] at tables
  rw [tables.registrationAt, ← h.slot, ← (State.admitKey_ok h.admitted).1]
  exact State.registrationAt_put_same ..

/-- The packet goes on to its placing or its reading. -/
theorem request (length : len = if op = opRead then p.total.toNat else p.data.length) (formed : malformed p op (2 ^ (s.conn (cmnIx p)).desc.dataLog2.toNat) len = false) {t : State}
    (placed : (if op = opRead then
        w.tgtRead (cmnIx p) { slotOf p (op == opRead) len with grp := d.grp } (s.conn (cmnIx p)).desc.tenant.toNat { r with inflight := (r.inflight + 1) % 2 ^ 32 } d (r.baseOff + p.offset.toNat) len
      else w.tgtWrite (cmnIx p) op p { slotOf p (op == opRead) len with grp := d.grp } (2 ^ (s.conn (cmnIx p)).desc.dataLog2.toNat) len { r with inflight := (r.inflight + 1) % 2 ^ 32 } d) = t)
    (holds : (t.conn (cmnIx p)).holds = []) : (s.rcvd p).request (cmnIx p) op p = t := by
  obtain ⟨index, looked, sound⟩ := State.admitKey_ok h.admitted
  have goes : (s.conn (cmnIx p)).awaits p = false := by
    unfold Conn.awaits
    rw [h.plain]
    rfl
  have walked := State.tgtPlace_walked (w := w) index looked sound length h.slot (by rw [h.desc]; exact formed) (by rw [h.desc]; exact h.walk)
  rw [h.desc, placed] at walked
  rw [State.request_new op h.new (fun waits => by rw [goes] at waits; cases waits), h.admitted]
  dsimp only
  rw [if_neg (by rw [goes]; exact Bool.false_ne_true), walked, State.releaseHolds_nil holds]

end State.Walks

/-- An aligned WRITE packet of one sector is well formed. -/
theorem malformed_write {p : Packet} {k : Nat} (aligned : p.offset.toNat % 64 = 0) (wide : 10 ≤ k) (length : p.data.length = 64) (plen : p.plen = 80) : malformed p opWrite (2 ^ k) 64 = false := by
  unfold malformed
  rw [same_span aligned (by omega), plen, length]
  simp [opWrite, opMasked, opRead]

/-- A WRITE_MASKED packet of one sector is well formed. -/
theorem malformed_masked {p : Packet} {k : Nat} (aligned : p.offset.toNat % 64 = 0) (wide : 10 ≤ k) (length : p.data.length = 64) (plen : p.plen = 88) (first : p.first = true) (final : p.final = true) :
    malformed p opMasked (2 ^ k) 64 = false := by
  unfold malformed
  rw [same_span aligned (by omega), plen, length, first, final, aligned]
  simp [opMasked, opRead]

/-- What placing its sector leaves of a message, and the state it is placed in. -/
theorem State.placeSector_after {w z : State} {i : Nat} {m n : TgtMsg} {d : Region} {rd : Registration} {whole : Bool} {o : Nat} {v : Sector} {en : BitVec 64} {poison : Bool} {psn : Nat}
    (placed : w.placeSector i m d rd whole o v en poison psn = (z, .ok n)) : State.Keeps State.placeSector_scope w z ∧ w.SameTables z ∧ n = { m with held := n.held, mirrors := n.mirrors } := by
  have keep := w.placeSector_keeps i m d rd whole o v en poison psn
  have tables := w.placeSector_tables i m d rd whole o v en poison psn
  rw [placed] at keep tables
  exact ⟨keep, tables, State.placeSector_msg placed⟩

section Clauses
variable {s u v w z : State} {p : Packet} {j : Nat} {r : Registration} {d : Region} {m : TgtMsg}

theorem cmnWrite_placed (h : s.Walks u v w p opWrite j r d 64) (first : p.first = false) (final : p.final = false) (length : p.data.length = 64) (plen : p.plen = 80) (base : r.baseOff % 64 = 0)
    (placed : w.placeSector (cmnIx p) { slotOf p false 64 with grp := d.grp } d { r with inflight := (r.inflight + 1) % 2 ^ 32 } false (r.baseOff + p.offset.toNat) (ofSecBytes p.data) (BitVec.allOnes 64)
      (p.poison.getLsbD (p.offset.toNat % 2 ^ (s.conn (cmnIx p)).desc.dataLog2.toNat / 64)) p.psn.toNat = (z, .ok m)) (holds : (z.conn (cmnIx p)).holds = []) :
    ∃ t, exec (.cmnWrite p) s = .next t ∧ (t.conn (cmnIx p)).tgt p.msn.toNat = some { m with placed := m.placed + 64 } ∧ t.tier = z.movSettle.tier ∧ t.twn = z.twn ∧ t.pan = z.pan ∧
      s.frame t targetParts targetFields := by
  have run : exec (.cmnWrite p) s = .next ((s.rcvd p).request (cmnIx p) opWrite p).movSettle := congrArg Host.Outcome.next (State.rxRequest_received h.ok h.receives (.write p) opWrite)
  have frame := State.request_frame h.ok p opWrite
  obtain ⟨-, -, msg⟩ := State.placeSector_after placed
  have number : m.msn = p.msn.toNat := by rw [msg]; rfl
  have aligned : (r.baseOff + p.offset.toNat) % 64 = 0 := by
    have := h.aligned
    omega
  have written := State.tgtWrite_one (op := opWrite) (span := 2 ^ (s.conn (cmnIx p)).desc.dataLog2.toNat) (rd := { r with inflight := (r.inflight + 1) % 2 ^ 32 }) (spread_one aligned length) placed
  generalize done : (z.modConn (cmnIx p) fun c => c.putTgt { m with placed := m.placed + 64 }) = y at written
  have here : (y.conn (cmnIx p)).tgt p.msn.toNat = some { m with placed := m.placed + 64 } := by
    rw [← done, State.conn_modConn, ← number]
    exact Conn.tgt_putTgt _ { m with placed := m.placed + 64 }
  rw [number, State.tgtCheck_open here (by rw [msg]; exact if_neg (by rw [final]; exact Bool.false_ne_true)) (by rw [msg]; exact (by decide : 0 + 64 ≤ 1048576)) (by rw [msg]; rfl)
    (by rw [msg]; exact if_neg (by rw [first]; exact Bool.false_ne_true))] at written
  rw [h.request length.symm (malformed_write h.aligned h.wide length plen) written (by rw [← done, State.conn_modConn]; exact holds)] at run frame
  refine ⟨_, run, ?_, ?_, ?_, ?_, frame⟩
  · rw [State.movSettle_conn]
    exact here
  · rw [← done, State.movSettle_modConn]
  · rw [State.movSettle_twn, ← done]
    rfl
  · rw [State.movSettle_pan, ← done]
    rfl

theorem cmnWriteMasked_answered (h : s.Walks u v w p opMasked j r d 64) (first : p.first = true) (final : p.final = true) (total : p.total = 64) (length : p.data.length = 64) (plen : p.plen = 88)
    (placed : w.placeSector (cmnIx p) { slotOf p false 64 with grp := d.grp } d { r with inflight := (r.inflight + 1) % 2 ^ 32 } false (r.baseOff + p.offset.toNat) (ofSecBytes p.data) p.enable
      (p.poison.getLsbD (p.offset.toNat % 2 ^ (s.conn (cmnIx p)).desc.dataLog2.toNat / 64)) p.psn.toNat = (z, .ok m)) (holds : (z.conn (cmnIx p)).holds = [])
    (free : m.held = 0) (acked : (m.mirrors.any fun x => z.mirrorOpen (some x)) = false) (serves : z.serves (z.regionAt r.region).grp = true) :
    ∃ t, exec (.cmnWriteMasked p) s = .next t ∧ (t.conn (cmnIx p)).tgt p.msn.toNat = none ∧ (t.conn (cmnIx p)).responds opWriteCmp p.msn.toNat .ok ∧ t.twn = z.twn ∧ t.pan = z.pan ∧
      s.frame t targetParts targetFields := by
  have run : exec (.cmnWriteMasked p) s = .next ((s.rcvd p).request (cmnIx p) opMasked p).movSettle := congrArg Host.Outcome.next (State.rxRequest_received h.ok h.receives (.masked p) opMasked)
  have frame := State.request_frame h.ok p opMasked
  obtain ⟨keeps, tables, msg⟩ := State.placeSector_after placed
  have number : m.msn = p.msn.toNat := by rw [msg]; rfl
  have written := State.tgtWrite_one (op := opMasked) (span := 2 ^ (s.conn (cmnIx p)).desc.dataLog2.toNat) (rd := { r with inflight := (r.inflight + 1) % 2 ^ 32 }) rfl placed
  generalize done : (z.modConn (cmnIx p) fun c => c.putTgt { m with placed := m.placed + 64 }) = y at written
  have here : (y.conn (cmnIx p)).tgt p.msn.toNat = some { m with placed := m.placed + 64 } := by
    rw [← done, State.conn_modConn, ← number]
    exact Conn.tgt_putTgt _ { m with placed := m.placed + 64 }
  have region : (y.registrationAt m.reg).region = r.region := by
    rw [← done, show m.reg = keyIndex p.rkey.toNat by rw [msg]; rfl]
    exact (congrArg Registration.region ((tables.registrationAt _).trans h.registrationAt) :)
  rw [number, State.tgtCheck_placed (a := p.offset.toNat) here (by rw [msg]; exact (if_pos final).trans (by rw [total]; rfl)) (by rw [msg]; rfl) (by rw [msg]; rfl)
    (by rw [msg]; exact if_pos first) (by rw [msg]; exact if_pos final) free (by rw [← done]; exact acked) (st := .ok) (by rw [msg]; rfl), region] at written
  have ok : y.regsOk := by
    rw [← done]
    exact keeps.ok h.regsOk
  obtain ⟨gone, told, empty, -⟩ := State.tgtEnd_answered ok (m := { m with placed := m.placed + 64 }) (st := .ok) number rfl (by decide) (by rw [← done]; exact serves)
  rw [if_neg (by rw [msg]; exact Bool.false_ne_true)] at told
  have kept := State.tgtEnd_keeps y (cmnIx p) { m with placed := m.placed + 64 } true .ok (some r.region)
  rw [h.request length.symm (malformed_masked h.aligned h.wide length plen first final) written (empty (by rw [← done, State.conn_modConn]; exact holds))] at run frame
  refine ⟨_, run, ?_, ?_, ?_, ?_, frame⟩
  · rw [State.movSettle_conn]
    exact gone
  · rw [State.movSettle_conn]
    exact told
  · rw [State.movSettle_twn, kept.kept .twn (by decide), ← done]
    rfl
  · rw [State.movSettle_pan, kept.kept .pan (by decide), ← done]
    rfl

end Clauses

end Sys2Proof.Machine
end

section
/-! SUPPORT. Cemanor: the answer to a READ of one sector (R419, R432). -/
namespace Sys2Proof.Machine

theorem length_le (n v : Nat) : (le n v).length = n := by
  induction n generalizing v with
  | zero => rfl
  | succ n ih => exact congrArg Nat.succ (ih (v / 256))

theorem length_secBytes (d : Sector) : (secBytes d).length = 64 := length_le 64 _

/-- 64 aligned bytes are one span. -/
theorem spans_one {k off : Nat} (aligned : off % 64 = 0) (wide : 10 ≤ k) : spans k (64 / 2 ^ k + 2) off 64 = [(off, 64)] := by
  have large : 2 ^ 10 ≤ 2 ^ k := Nat.pow_le_pow_right (by decide) wide
  have fits : min (2 ^ k - off % 2 ^ k) 64 = 64 := by
    obtain ⟨n, rfl⟩ := Nat.exists_eq_add_of_le (Nat.le_trans (by decide : 6 ≤ 10) wide)
    have lt := Nat.mod_lt off (Nat.two_pow_pos (6 + n))
    have multiple : off % 2 ^ (6 + n) % 64 = 0 := by rw [Nat.mod_mod_of_dvd _ ⟨2 ^ n, Nat.pow_add 2 6 n⟩, aligned]
    have whole : 2 ^ (6 + n) % 64 = 0 := by rw [Nat.pow_add]; exact Nat.mul_mod_right 64 _
    omega
  rw [Nat.div_eq_of_lt (Nat.lt_of_lt_of_le (by decide) large)]
  show (if 64 = 0 then [] else (off, min (2 ^ k - off % 2 ^ k) 64) :: spans k 1 (off + min (2 ^ k - off % 2 ^ k) 64) (64 - min (2 ^ k - off % 2 ^ k) 64)) = _
  rw [if_neg (by decide), fits]
  rfl

/-- Going over the numbers below a bound, with a step at one of them only. -/
theorem foldl_only {α : Type} (g : α → α) (K n : Nat) (a : α) : (List.range n).foldl (fun m j => if j = K then g m else m) a = if K < n then g a else a := by
  induction n with
  | zero => rfl
  | succ n ih =>
    rw [List.range_succ, List.foldl_append, ih]
    show (if n = K then g _ else _) = _
    by_cases here : n = K
    · rw [if_pos here, if_neg (by omega), if_pos (by omega)]
    · rw [if_neg here]
      by_cases before : K < n
      · rw [if_pos before, if_pos (by omega)]
      · rw [if_neg before, if_neg (by omega)]

/-- The poison mask of one aligned sector names it. -/
theorem mask_one {k off : Nat} (aligned : off % 64 = 0) (wide : 10 ≤ k) (bound : k ≤ 13) (poisonAt : Nat → Bool) :
    (List.range 128).foldl (fun m j => if off / 2 ^ k * 2 ^ k + j * 64 + 64 ≤ off / 64 * 64 || off + 64 ≤ off / 2 ^ k * 2 ^ k + j * 64 then m
      else if poisonAt (off / 2 ^ k * 2 ^ k + j * 64) then m + 2 ^ j else m) 0 = if poisonAt off then 2 ^ (off % 2 ^ k / 64) else 0 := by
  have small : off % 2 ^ k / 64 < 128 := by
    have lt := Nat.mod_lt off (Nat.two_pow_pos k)
    have le : 2 ^ k ≤ 2 ^ 13 := Nat.pow_le_pow_right (by decide) bound
    omega
  have split : off / 2 ^ k * 2 ^ k + off % 2 ^ k / 64 * 64 = off := by
    obtain ⟨n, rfl⟩ := Nat.exists_eq_add_of_le (Nat.le_trans (by decide : 6 ≤ 10) wide)
    have multiple : off % 2 ^ (6 + n) % 64 = 0 := by rw [Nat.mod_mod_of_dvd _ ⟨2 ^ n, Nat.pow_add 2 6 n⟩, aligned]
    have := Nat.div_add_mod' off (2 ^ (6 + n))
    omega
  have step : (fun m j => if off / 2 ^ k * 2 ^ k + j * 64 + 64 ≤ off / 64 * 64 || off + 64 ≤ off / 2 ^ k * 2 ^ k + j * 64 then m
      else if poisonAt (off / 2 ^ k * 2 ^ k + j * 64) then m + 2 ^ j else m) =
      fun m j => if j = off % 2 ^ k / 64 then (fun m => if poisonAt off then m + 2 ^ (off % 2 ^ k / 64) else m) m else m := by
    funext m j
    generalize off / 2 ^ k * 2 ^ k = b at split ⊢
    generalize off % 2 ^ k / 64 = i at split ⊢
    by_cases same : j = i
    · subst same
      rw [split, if_neg (by simp only [Bool.or_eq_true, decide_eq_true_eq]; omega), if_pos rfl]
    · rw [if_pos (by simp only [Bool.or_eq_true, decide_eq_true_eq]; omega), if_neg same]
  rw [step, foldl_only, if_pos small, Nat.zero_add]

/-- The answer to a READ of one aligned sector is one packet with its bytes and its poison. -/
theorem dataPackets_one {c : Conn} {op off : Nat} {bytes : List Byte} (poisonAt : Nat → Bool) (mk : Nat → Packet → Packet) (aligned : off % 64 = 0) (wide : 10 ≤ c.desc.dataLog2.toNat)
    (bound : c.desc.dataLog2.toNat ≤ 13) (length : bytes.length = 64) :
    dataPackets c op off bytes poisonAt mk = [{
      op := op, phase := c.phase, path := 0, sends := 0,
      pkt := mk off { c.blank with first := true, final := true, plen := 80, poison := BitVec.ofNat 128 (if poisonAt off then 2 ^ (off % 2 ^ c.desc.dataLog2.toNat / 64) else 0), data := bytes } }] := by
  unfold dataPackets
  dsimp only
  rw [length, spans_one aligned wide]
  simp only [List.zipIdx_cons, List.zipIdx_nil, List.map_cons, List.map_nil, mask_one aligned wide bound, Nat.sub_self, List.drop_zero, List.take_of_length_le (Nat.le_of_eq length)]
  rfl

theorem poison_bit {k off : Nat} (bound : k ≤ 13) (b : Bool) : (BitVec.ofNat 128 (if b then 2 ^ (off % 2 ^ k / 64) else 0)).getLsbD (off % 2 ^ k / 64) = b := by
  have small : off % 2 ^ k / 64 < 128 := by
    have lt := Nat.mod_lt off (Nat.two_pow_pos k)
    have le : 2 ^ k ≤ 2 ^ 13 := Nat.pow_le_pow_right (by decide) bound
    omega
  rw [BitVec.getLsbD_ofNat, decide_eq_true small, Bool.true_and]
  cases b with
  | true => exact Nat.testBit_two_pow_self
  | false => exact Nat.zero_testBit _

theorem rangeBytes_one {base : Nat} (aligned : base % 64 = 0) (v : SectorVal) : rangeBytes [(base, v)] base 64 = secBytes v.data := by
  unfold rangeBytes
  dsimp only
  rw [aligned, show base / 64 * 64 = base by omega]
  show ((secBytes ((tget [(base, v)] (base + 0 * 64)).getD zeroSec).data ++ []).drop 0).take 64 = _
  rw [List.append_nil, List.drop_zero, show tget [(base, v)] (base + 0 * 64) = some v from tget_tset_same [] base v]
  exact List.take_of_length_le (Nat.le_of_eq (length_secBytes v.data))

theorem poisonIn_one (base : Nat) (v : SectorVal) : poisonIn [(base, v)] base 64 = v.poison := by
  unfold poisonIn
  simp

end Sys2Proof.Machine
end

section
/-! SUPPORT. Cemanor: a READ whose sector is at hand is answered (R432), and the target's statement. -/
namespace Sys2Proof.Machine

/-- A READ of one sector whose value is at hand. -/
theorem State.tgtRead_one {w x z : State} {i tenant base : Nat} {m : TgtMsg} {rd : Registration} {d : Region} {pl : Place64} {val : SectorVal} {how : Status} (aligned : base % 64 = 0)
    (walked : (w.putConn i ((w.conn i).putTgt { m with want := 1, read := true })).resolve rd.region d base = (x, .ok pl))
    (read : x.readStart { place := pl, who := .cmn i m.msn base, tenant := tenant, train := some (.conn (BitVec.ofNat 20 i)), window := 0, dpa := base } = (z, some (.value val how))) :
    w.tgtRead i m tenant rd d base 64 = (z.modConn i fun c => c.putTgt { m with want := 1, read := true, got := tset m.got base val, worst := m.worst.worse how }).tgtCheck i m.msn := by
  have one : (base % 64 + 64 + 63) / 64 = 1 := by rw [aligned]
  have here : ((w.putConn i ((w.conn i).putTgt { m with want := 1, read := true })).conn i).tgt m.msn = some { m with want := 1, read := true } := by
    rw [State.conn_putConn_same]
    exact Conn.tgt_putTgt _ { m with want := 1, read := true }
  unfold State.tgtRead
  rw [one]
  show State.tgtCheck (State.tgtReadSector i m.msn tenant rd d base _ 0) i m.msn = _
  unfold State.tgtReadSector
  dsimp only
  rw [here, show base / 64 * 64 + 0 * 64 = base by omega]
  dsimp only
  rw [walked]
  dsimp only
  rw [read]

/-- The packets that answer a READ. -/
def State.readAnswer (s : State) (i : Nat) (m : TgtMsg) : List TxPkt :=
  dataPackets (s.conn i) opReadResp m.off (m.bytes (s.registrationAt m.reg).baseOff) (fun a => poisonIn m.got ((s.registrationAt m.reg).baseOff + a) 64) fun o p =>
    { p with moff := BitVec.ofNat 24 (o - m.off), status := BitVec.ofNat 8 m.worst.code, msn := BitVec.ofNat 32 m.msn, flagged := m.flagged }

/-- A READ whose sectors are all there is answered. -/
theorem State.tgtCheck_read {s : State} {i msn a : Nat} {m : TgtMsg} (here : (s.conn i).tgt msn = some m) (total : m.total = some 64) (placed : m.placed = 0) (read : m.read = true)
    (first : m.first = some a) (final : m.final = some (a + 64)) (want : m.want = 1) (got : m.got.length = 1) :
    s.tgtCheck i msn = ((s.modConn i fun c => c.resolve msn).respond i m.grp (s.readAnswer i m)).messageEnd m.reg := by
  have number := Conn.tgt_msn here
  subst number
  unfold State.tgtCheck
  simp only [here, total, read, first, final, placed, want, got]
  simp [State.readAnswer]

/-- The packet that answers a READ of one sector. -/
def readPkt (c : Conn) (m : TgtMsg) (val : SectorVal) : TxPkt := {
  op := opReadResp, phase := c.phase, path := 0, sends := 0,
  pkt := { c.blank with first := true, final := true, plen := 80, poison := BitVec.ofNat 128 (if val.poison then 2 ^ (m.off % 2 ^ c.desc.dataLog2.toNat / 64) else 0), data := secBytes val.data,
                        moff := 0, status := BitVec.ofNat 8 m.worst.code, msn := BitVec.ofNat 32 m.msn, flagged := m.flagged } }

theorem State.readAnswer_one (s : State) (i : Nat) {m : TgtMsg} {base : Nat} {val : SectorVal} (baseOff : (s.registrationAt m.reg).baseOff = base) (got : m.got = [(base + m.off, val)])
    (total : m.total = some 64) (aligned : m.off % 64 = 0) (sector : (base + m.off) % 64 = 0) (wide : 10 ≤ (s.conn i).desc.dataLog2.toNat) (bound : (s.conn i).desc.dataLog2.toNat ≤ 13) :
    s.readAnswer i m = [readPkt (s.conn i) m val] := by
  have bytes : m.bytes base = secBytes val.data := by
    unfold TgtMsg.bytes
    rw [got, total]
    exact rangeBytes_one sector val
  unfold State.readAnswer
  rw [baseOff, bytes, dataPackets_one _ _ aligned wide bound (length_secBytes _), got, poisonIn_one, Nat.sub_self]
  rfl

/-- A READ_RESP that is queued is queued or sent. -/
theorem State.read_answered {s : State} {i msn : Nat} {m : TgtMsg} {x : TxPkt} (serves : s.serves m.grp = true) (one : s.readAnswer i m = [x]) :
    ∃ c : Conn, c.Pumped ((((s.modConn i fun c => c.resolve msn).respond i m.grp (s.readAnswer i m)).messageEnd m.reg).conn i) ∧
      c = { (s.conn i).resolve msn with txq := (s.conn i).txq ++ [{ x with pkt := { x.pkt with claim := BitVec.ofNat 64 (s.get TWN.TWN_CLAIM_LOCAL 0 m.grp), grp := Fin.ofNat 16 m.grp } }] } := by
  obtain ⟨c, queued, pumped⟩ := State.respond_conn (s := s.modConn i fun c => c.resolve msn) i (s.readAnswer i m) serves
  rw [State.conn_modConn, one] at queued
  refine ⟨c, ?_, queued⟩
  rw [State.conn_of_cmn ((State.messageEnd_keeps ..).kept .cmn (by decide))]
  exact pumped

theorem malformed_read {p : Packet} {span : Nat} (first : p.first = true) (final : p.final = true) : malformed p opRead span 64 = false := by
  unfold malformed
  rw [first, final]
  simp [opMasked, opRead]

theorem cmnRead_answered {s u v w x z : State} {p : Packet} {j : Nat} {r : Registration} {d : Region} {pl : Place64} {val : SectorVal} {how : Status} (h : s.Walks u v w p opRead j r d 64)
    (first : p.first = true) (final : p.final = true) (total : p.total = 64) (bound : (s.conn (cmnIx p)).desc.dataLog2.toNat ≤ 13) (base : r.baseOff % 64 = 0)
    (walked : (w.putConn (cmnIx p) ((w.conn (cmnIx p)).putTgt { slotOf p true 64 with grp := d.grp, want := 1 })).resolve r.region d (r.baseOff + p.offset.toNat) = (x, .ok pl))
    (read : x.readStart { place := pl, who := .cmn (cmnIx p) p.msn.toNat (r.baseOff + p.offset.toNat), tenant := (s.conn (cmnIx p)).desc.tenant.toNat, train := some (.conn (BitVec.ofNat 20 (cmnIx p))), window := 0, dpa := r.baseOff + p.offset.toNat } = (z, some (.value val how)))
    (holds : (z.conn (cmnIx p)).holds = []) (serves : z.serves d.grp = true) :
    ∃ t, exec (.cmnRead p) s = .next t ∧ (t.conn (cmnIx p)).tgt p.msn.toNat = none ∧ (t.conn (cmnIx p)).responds opReadResp p.msn.toNat (Status.ok.worse how) ∧
      (∃ y ∈ (t.conn (cmnIx p)).unacked ++ (t.conn (cmnIx p)).txq, y.op = opReadResp ∧ y.pkt.msn = p.msn ∧ y.pkt.data = secBytes val.data ∧ y.pkt.moff = 0 ∧ y.pkt.claim = BitVec.ofNat 64 (z.get TWN.TWN_CLAIM_LOCAL 0 d.grp) ∧
        y.pkt.poison.getLsbD (p.offset.toNat % 2 ^ (s.conn (cmnIx p)).desc.dataLog2.toNat / 64) = val.poison) ∧ s.frame t targetParts targetFields := by
  have run : exec (.cmnRead p) s = .next ((s.rcvd p).request (cmnIx p) opRead p).movSettle := congrArg Host.Outcome.next (State.rxRequest_received h.ok h.receives (.read p) opRead)
  have frame := State.request_frame h.ok p opRead
  have aligned : (r.baseOff + p.offset.toNat) % 64 = 0 := by
    have := h.aligned
    omega
  have answered := State.tgtRead_one (m := { slotOf p true 64 with grp := d.grp }) (rd := { r with inflight := (r.inflight + 1) % 2 ^ 32 }) aligned walked read
  -- the message with its sector, and the state that looks at it
  generalize full : ({ slotOf p true 64 with grp := d.grp, want := 1, read := true, got := tset [] (r.baseOff + p.offset.toNat) val, worst := Status.ok.worse how } : TgtMsg) = m
  have number : m.msn = p.msn.toNat := by rw [← full]; rfl
  have reg : m.reg = keyIndex p.rkey.toNat := by rw [← full]; rfl
  have grp : m.grp = d.grp := by rw [← full]
  generalize done : (z.modConn (cmnIx p) fun c => c.putTgt m) = y
  replace answered : w.tgtRead (cmnIx p) { slotOf p true 64 with grp := d.grp } (s.conn (cmnIx p)).desc.tenant.toNat { r with inflight := (r.inflight + 1) % 2 ^ 32 } d (r.baseOff + p.offset.toNat) 64 =
      y.tgtCheck (cmnIx p) p.msn.toNat := by
    rw [← done, ← full]
    exact answered
  have here : (y.conn (cmnIx p)).tgt p.msn.toNat = some m := by
    rw [← done, State.conn_modConn, ← number]
    exact Conn.tgt_putTgt _ m
  rw [State.tgtCheck_read (a := p.offset.toNat) here (by rw [← full]; exact (if_pos final).trans (by rw [total]; rfl)) (by rw [← full]; rfl) (by rw [← full]) (by rw [← full]; exact if_pos first)
    (by rw [← full]; exact if_pos final) (by rw [← full]) (by rw [← full]; rfl)] at answered
  -- the tables and the connection have not changed since the checks
  have resolved := (w.putConn (cmnIx p) ((w.conn (cmnIx p)).putTgt { slotOf p true 64 with grp := d.grp, want := 1 })).resolve_tables r.region d (r.baseOff + p.offset.toNat)
  have resolvedConn := (State.resolve_keeps (w.putConn (cmnIx p) ((w.conn (cmnIx p)).putTgt { slotOf p true 64 with grp := d.grp, want := 1 })) r.region d (r.baseOff + p.offset.toNat)).kept .cmn (by decide)
  rw [walked] at resolved resolvedConn
  have started := State.readStart_keeps x { place := pl, who := .cmn (cmnIx p) p.msn.toNat (r.baseOff + p.offset.toNat), tenant := (s.conn (cmnIx p)).desc.tenant.toNat, train := some (.conn (BitVec.ofNat 20 (cmnIx p))), window := 0, dpa := r.baseOff + p.offset.toNat }
  rw [read] at started
  have baseOff : (y.registrationAt m.reg).baseOff = r.baseOff := by
    rw [← done, reg]
    exact (congrArg Registration.baseOff ((((State.SameTables.of_xlt (started.kept .xlt (by decide))).registrationAt _).trans (resolved.registrationAt _)).trans h.registrationAt) :)
  have log : (y.conn (cmnIx p)).desc.dataLog2 = (s.conn (cmnIx p)).desc.dataLog2 := by
    rw [← done, State.conn_modConn]
    show (z.conn (cmnIx p)).desc.dataLog2 = _
    rw [State.conn_of_cmn (started.kept .cmn (by decide)), State.conn_of_cmn resolvedConn, State.conn_putConn_same]
    exact congrArg ConnDesc.dataLog2 h.checkedDesc
  have off : m.off = p.offset.toNat := by rw [← full]; rfl
  have one := y.readAnswer_one (cmnIx p) (val := val) baseOff (by rw [← full]; rfl) (by rw [← full]; exact (if_pos final).trans (by rw [total]; rfl)) (by rw [off]; exact h.aligned)
    (by rw [off]; exact aligned) (by rw [log]; exact h.wide) (by rw [log]; exact bound)
  obtain ⟨c, pumped, queued⟩ := State.read_answered (msn := p.msn.toNat) (by rw [grp, ← done]; exact serves) one
  have sent : { readPkt (y.conn (cmnIx p)) m val with pkt := { (readPkt (y.conn (cmnIx p)) m val).pkt with claim := BitVec.ofNat 64 (y.get TWN.TWN_CLAIM_LOCAL 0 m.grp), grp := Fin.ofNat 16 m.grp } } ∈ c.txq := by
    rw [queued]
    exact List.mem_append_right _ (List.mem_singleton.mpr rfl)
  have msn : BitVec.ofNat 32 m.msn = p.msn := by rw [number, BitVec.ofNat_toNat, BitVec.setWidth_eq]
  obtain ⟨a, mem, op, pkt⟩ := pumped.sent _ (List.mem_append_right _ sent)
  have free : (((((y.modConn (cmnIx p) fun c => c.resolve p.msn.toNat).respond (cmnIx p) m.grp (y.readAnswer (cmnIx p) m)).messageEnd m.reg).conn (cmnIx p)).holds = []) := by
    rw [pumped.rest, queued]
    refine Conn.holds_resolve ?_ _
    rw [← done, State.conn_modConn]
    exact holds
  rw [h.request (by rw [total]; rfl) (malformed_read first final) answered free] at run frame
  refine ⟨_, run, ?_, ?_, ⟨a, ?_, op, ?_, ?_, ?_, ?_, ?_⟩, frame⟩
  · rw [State.movSettle_conn]
    unfold Conn.tgt
    rw [pumped.rest, queued]
    exact (y.conn (cmnIx p)).tgt_resolve p.msn.toNat
  · rw [State.movSettle_conn]
    exact pumped.responds sent msn (by rw [← full]; rfl)
  · rw [State.movSettle_conn]
    exact mem
  · rw [pkt]
    exact msn
  · rw [pkt]
    rfl
  · rw [pkt]
    rfl
  · rw [pkt, ← grp, ← done]
    rfl
  · rw [pkt, ← log, ← off]
    exact poison_bit (by rw [log]; exact bound) val.poison

end Sys2Proof.Machine
end

section
/-! SUPPORT. Cemanor at the target: the statement. -/
namespace Sys2Proof.Machine

/-- Settles O27: each packet goes through steps 1 to 7 by the lemmas of the target, each timer by those of its connection. -/
theorem cemanorTarget : Obligations.CemanorTarget := by
  unfold Obligations.CemanorTarget
  refine ⟨?write, ?held, ?late, ?full, ?stale, ?masked, ?read, ?timeout, ?ack, ?nack⟩
  case write =>
    intro s u v w z p j r d m hs h new plain first final length plen wide _ aligned admitted _ base slot walk placed holds
    exact cmnWrite_placed ⟨hs, h, new, plain, wide, aligned, admitted, slot, walk⟩ first final length plen base placed holds
  case held => exact fun _ _ _ _ _ hs h new flagged early room slots admitted => cmnWrite_held hs h new flagged early room slots admitted
  case late => exact fun _ _ hs h low => cmnWrite_late hs h low
  case full => exact fun _ _ hs h low high fresh unseen full paths => cmnWrite_full hs h low high fresh unseen full paths
  case stale => exact fun _ _ _ hs h new plain stale => cmnWriteMasked_stale hs h new plain stale
  case masked =>
    intro s u v w z p j r d m hs h new plain first final total length plen wide _ aligned admitted _ slot walk placed holds free acked serves
    exact cmnWriteMasked_answered ⟨hs, h, new, plain, wide, aligned, admitted, slot, walk⟩ first final total length plen placed holds free acked serves
  case read =>
    intro s u v w x z p j r d pl val how hs h new plain first final total wide bound aligned base admitted _ slot walk walked read holds serves
    exact cmnRead_answered ⟨hs, h, new, plain, wide, aligned, admitted, slot, walk⟩ first final total bound base walked read holds serves
  case timeout => exact fun _ _ _ _ hs here holds serves => msgTimeout_answered hs here holds serves
  case ack => exact fun _ _ hs live owed keyed base single paths => ackTimer_acks hs live owed keyed base single paths
  case nack => exact fun _ _ hs live paths first gaps none few => nackDelay_names hs live paths first gaps none few

end Sys2Proof.Machine
end

section
/-! SUPPORT. Logical devices: what the state of one reads after it is put, and which other ones it leaves. -/
namespace Sys2Proof.Machine

theorem ldKey_inj {p q : Port} {l m : Ld} : ldKey q.val m.val = ldKey p.val l.val ↔ q = p ∧ m = l := by
  unfold ldKey
  constructor
  · intro h
    exact ⟨Fin.ext (by omega), Fin.ext (by omega)⟩
  · rintro ⟨rfl, rfl⟩
    rfl

theorem State.ld_putLd_ne (s : State) {p l q m : Nat} (x : LdState) (h : ldKey q m ≠ ldKey p l) : (s.putLd p l x).ld q m = s.ld q m := by
  unfold State.putLd State.ld
  dsimp only
  split
  · rw [tget_tdel_ne _ h]
  · rw [tget_tset_ne _ _ h]

/-- Slots of one port. -/
theorem State.ld_putLd_slot (s : State) (p l m : Nat) (x : LdState) : (s.putLd p l x).ld p m = if m = l then x else s.ld p m := by
  split
  · rename_i same
    rw [same]
    exact s.ld_putLd_same p l x
  · exact s.ld_putLd_ne x (by unfold ldKey; omega)

/-- Slots of any port. -/
theorem State.ld_putLd (s : State) (p q : Port) (l m : Ld) (x : LdState) :
    (s.putLd p.val l.val x).ld q.val m.val = if q = p ∧ m = l then x else s.ld q.val m.val := by
  split
  · rename_i same
    obtain ⟨rfl, rfl⟩ := same
    exact s.ld_putLd_same _ _ x
  · rename_i other
    exact s.ld_putLd_ne x fun same => other (ldKey_inj.mp same)

end Sys2Proof.Machine
end

section
/-! SUPPORT. The Fabric Manager API (Table 4-13): what each Get answers, and what a Get answers after a Set. -/
namespace Sys2Proof.Machine

/-- An answer to the Fabric Manager is sent, and nothing else happens. -/
theorem fm_answered (s : State) (cmd : String) (c : MbCode) (vals : List Nat) :
    s.fmAnswer cmd c vals = .next (s.emit (.fm cmd c vals)) ∧ (s.emit (.fm cmd c vals)).out = s.out ++ [.fm cmd c vals] ∧ s.keptBut (s.emit (.fm cmd c vals)) [.out] :=
  ⟨rfl, rfl, s.emit_keptBut _⟩

/-- A list with one entry per slot, at a slot. -/
theorem perLd_at (f : Nat → Nat) (l : Ld) : ((List.range 16).map f)[l.val]? = some (f l.val) := by
  rw [List.getElem?_map, List.getElem?_range l.isLt]
  rfl

theorem perLd_length (f : Nat → Nat) : ((List.range 16).map f).length = 16 := by rw [List.length_map, List.length_range]

theorem extentVals_length (l : List (Nat × Extent)) : (l.flatMap extentVals).length = 3 * l.length := by
  induction l with
  | nil => rfl
  | cons e l ih =>
    rw [List.flatMap_cons, List.length_append, ih, List.length_cons]
    show 3 + 3 * l.length = _
    omega

/-- A change of one logical device and its answer: the host ports change and the answer is sent. -/
theorem ldSet_keptBut (s : State) (p : Port) (l : Ld) (x : LdState) (o : Out) : s.keptBut ((s.putLd p.val l.val x).emit o) [.hp, .out] :=
  ((State.emit_keeps _ o).step ((s.putLd_keeps p.val l.val x).mono (m := ⟨[.hp, .out], some []⟩) (by decide)) (by decide)).kept

theorem execSetDcRegionConfig_new {s : State} {p : Port} {l : Ld} {k : Fin 8} {base len : BitVec 64} (unset : tget (s.ld p.val l.val).dcRegions k.val = none)
    (most : len.toNat ≤ 2 ^ 42) (base_ : base.toNat % 2 ^ 21 = 0) (len_ : len.toNat % 2 ^ 21 = 0) :
    exec (.setDcRegionConfig p l k base len) s =
      .next ((s.putLd p.val l.val { s.ld p.val l.val with dcRegions := tset (s.ld p.val l.val).dcRegions k.val (base.toNat, len.toNat) }).emit (.fm "SET_DC_REGION_CONFIG" .success [])) := by
  show execSetDcRegionConfig p l k base len s = _
  unfold execSetDcRegionConfig
  dsimp only
  rw [unset]
  refine if_neg ?_
  have none_ : ((s.ldExtents p.val l.val).any fun _ => false) = false := List.any_eq_false.mpr fun _ _ => Bool.false_ne_true
  simp only [none_, base_, len_, Bool.false_or, ne_eq, not_true_eq_false, decide_false, Bool.or_false, decide_eq_true_eq]
  omega

theorem execSetDcRegionConfig_refused {s : State} {p : Port} {l : Ld} {k : Fin 8} {base len : BitVec 64}
    (bad : 2 ^ 42 < len.toNat ∨ base.toNat % 2 ^ 21 ≠ 0 ∨ len.toNat % 2 ^ 21 ≠ 0) :
    exec (.setDcRegionConfig p l k base len) s = .next (s.emit (.fm "SET_DC_REGION_CONFIG" .invalidInput [])) := by
  show execSetDcRegionConfig p l k base len s = _
  unfold execSetDcRegionConfig
  refine if_pos ?_
  simp only [Bool.or_eq_true, decide_eq_true_eq]
  rcases bad with big | base_ | len_
  · exact .inl (.inl (.inr big))
  · exact .inl (.inr base_)
  · exact .inr len_

/-- A DC region is set: it reads back, and every other region and logical device is as it was. -/
theorem setDcRegionConfig_stored {s : State} {p : Port} {l : Ld} {k j : Fin 8} {base len : BitVec 64} (unset : tget (s.ld p.val l.val).dcRegions k.val = none)
    (most : len.toNat ≤ 2 ^ 42) (base_ : base.toNat % 2 ^ 21 = 0) (len_ : len.toNat % 2 ^ 21 = 0) :
    ∃ t, exec (.setDcRegionConfig p l k base len) s = .next t ∧ t.out = s.out ++ [.fm "SET_DC_REGION_CONFIG" .success []] ∧
      tget (t.ld p.val l.val).dcRegions j.val = (if j = k then some (base.toNat, len.toNat) else tget (s.ld p.val l.val).dcRegions j.val) ∧
      (∀ (q : Port) (m : Ld), (q, m) ≠ (p, l) → t.ld q.val m.val = s.ld q.val m.val) ∧ s.keptBut t [.hp, .out] := by
  refine ⟨_, execSetDcRegionConfig_new unset most base_ len_, rfl, ?_, fun q m other => ?_, ldSet_keptBut s p l _ _⟩
  · show tget ((s.putLd p.val l.val _).ld p.val l.val).dcRegions j.val = _
    rw [State.ld_putLd_same]
    split
    · rename_i same
      rw [same]
      exact tget_tset_same ..
    · rename_i other
      exact tget_tset_ne _ _ fun c => other (Fin.ext c)
  · show (s.putLd p.val l.val _).ld q.val m.val = _
    rw [State.ld_putLd, if_neg]
    rintro ⟨rfl, rfl⟩
    exact other rfl

/-- What the slots of a port show of one of their fields after it is set in one slot. -/
theorem ldSet_reads {α : Type} (f : LdState → α) (s : State) (p q : Port) (l m : Ld) (x : LdState) :
    f ((s.putLd p.val l.val x).ld q.val m.val) = if q = p ∧ m = l then f x else f (s.ld q.val m.val) := by
  rw [State.ld_putLd]
  exact apply_ite f ..

/-- What setting a field of one slot leaves of a field that the new state has from the old. -/
theorem ldSet_leaves {α : Type} (f : LdState → α) (s : State) (p q : Port) (l m : Ld) (x : LdState) (same : f x = f (s.ld p.val l.val)) :
    f ((s.putLd p.val l.val x).ld q.val m.val) = f (s.ld q.val m.val) := by
  rw [ldSet_reads f]
  split
  · rename_i here
    obtain ⟨rfl, rfl⟩ := here
    exact same
  · rfl

/-- Settles O49: each Get is its answer; each Set changes what the matching Get reads, and that alone. -/
theorem fabricManager : Obligations.FabricManager := by
  unfold Obligations.FabricManager
  refine ⟨?fixed, ?gets, ?qos, ?control, ?allocated, ?limit, ?region, ?refused⟩
  case fixed =>
    intro s
    obtain ⟨identify, identified, identifies⟩ := fm_answered s "IDENTIFY" .success [0x1F3C, 0x0960, 0x1F3C, 0x0960]
    obtain ⟨status, told, tells⟩ := fm_answered s "BACKGROUND_OPERATION_STATUS" .success [0]
    obtain ⟨dcd, shown, shows⟩ := fm_answered s "GET_DCD_INFO" .success [128, 8, 2 ^ 21]
    exact ⟨_, _, _, _, Config.freeNat s.free, identify, identified, identifies, status, told, tells, dcd, shown, shows, rfl, rfl,
      ((execGetResponseMessageLimit_keeps s).out rfl).kept⟩
  case gets =>
    intro s p l
    exact ⟨_, _, _, _, _, _, _, _, _, _, rfl, rfl, rfl, s.emit_keptBut _, rfl, rfl, perLd_length _, perLd_at _ l, s.emit_keptBut _, rfl, rfl, perLd_length _,
      perLd_at _ l, s.emit_keptBut _, rfl, rfl, rfl, s.emit_keptBut _, rfl, rfl, extentVals_length _, s.emit_keptBut _⟩
  case qos =>
    intro s p l
    exact ⟨_, _, _, _, _, rfl, rfl, s.emit_keptBut _, rfl, rfl, perLd_at _ l, s.emit_keptBut _, rfl, rfl, perLd_at _ l, s.emit_keptBut _⟩
  case control =>
    intro s p q v
    refine ⟨_, _, _, rfl, rfl, ((execSetQosControl_keeps p v s).out rfl).kept, rfl, rfl, State.emit_keptBut _ _, ?_⟩
    show [((tget (tset s.hp.qosControl p.val v) q.val).getD 0).toNat] = _
    split
    · rename_i same
      rw [same, tget_tset_same]
      rfl
    · rename_i other
      rw [tget_tset_ne _ _ fun c => other (Fin.ext c)]
  case allocated =>
    intro s p q l m v
    refine ⟨_, _, _, rfl, rfl, ldSet_keptBut s p l _ _, rfl, rfl, State.emit_keptBut _ _, (perLd_at _ m).trans (congrArg some ?_), ?_⟩
    · exact ldSet_reads (fun x => x.qosAlloc.toNat) s p q l m { s.ld p.val l.val with qosAlloc := v }
    · exact ldSet_leaves LdState.qosLimit s p q l m _ rfl
  case limit =>
    intro s p q l m v
    refine ⟨_, _, _, rfl, rfl, ldSet_keptBut s p l _ _, rfl, rfl, State.emit_keptBut _ _, (perLd_at _ m).trans (congrArg some ?_), ?_⟩
    · exact ldSet_reads (fun x => x.qosLimit.toNat) s p q l m { s.ld p.val l.val with qosLimit := v }
    · exact ldSet_leaves LdState.qosAlloc s p q l m _ rfl
  case region => exact fun _ _ _ _ _ _ _ unset most base len => setDcRegionConfig_stored unset most base len
  case refused => exact fun s _ _ _ _ _ bad => ⟨_, execSetDcRegionConfig_refused bad, rfl, s.emit_keptBut _⟩

end Sys2Proof.Machine
end

section
/-! SUPPORT. What a report leaves of the host ports: everything but the MSI-X bits of their functions (R507, R509). -/
namespace Sys2Proof.Machine

/-- The host ports without the MSI-X bits of their functions. -/
def State.hostSide (s : State) : HpState := { s.hp with msix := [] }

theorem State.Keeps.hostSide {l : Scope} {s t : State} (k : State.Keeps l s t) (h : Part.hp ∉ l.parts) : t.hostSide = s.hostSide :=
  congrArg (fun x : HpState => { x with msix := [] }) (k.kept .hp h)

theorem State.hostSide_ite {s t u : State} {c : Prop} [Decidable c] (h : t.hostSide = s.hostSide) (k : u.hostSide = s.hostSide) :
    (if c then t else u).hostSide = s.hostSide := by
  split
  · exact h
  · exact k

theorem State.raiseVector_hostSide (s : State) (p l : Nat) (m : Bool) (v : Nat) : (s.raiseVector p l m v).hostSide = s.hostSide := by
  unfold State.raiseVector
  exact State.hostSide_ite rfl (State.hostSide_ite rfl rfl)

theorem State.signal_hostSide (s : State) (c : Nat) : (s.signal c).hostSide = s.hostSide := by
  unfold State.signal
  dsimp only
  split
  · exact State.hostSide_ite rfl ((s.wakeEvent_keeps _ _).hostSide (by decide))
  · exact State.hostSide_ite rfl ((s.wakeEvent_keeps _ _).hostSide (by decide))
  · exact s.raiseVector_hostSide ..
  · rfl

theorem State.deliver_hostSide (s : State) (p : Page) (k : Nat) : (s.deliver p k).hostSide = s.hostSide := by
  have pins (t : State) : t.alertPins.hostSide = t.hostSide := t.alertPins_keeps.hostSide (by decide)
  have hit (c : Nat) : (s.chanHit c).hostSide = s.hostSide := by
    unfold State.chanHit
    exact (pins _).trans (State.hostSide_ite (State.signal_hostSide _ c) rfl)
  unfold State.deliver
  exact State.hostSide_ite rfl (hit _)

/-- The forwarder, with an error report inside that leaves the host ports. -/
theorem State.forward_hostSide {err : State → Page → Nat → State} (he : ∀ s p k, (err s p k).hostSide = s.hostSide) (s : State) (r : Record) :
    (State.forward err s r).hostSide = s.hostSide := by
  have posted (x : RecState) (a : Alarm) : (({ s with recd := x } : State).postAlarm a).hostSide = s.hostSide :=
    (State.postAlarm_keeps _ a).hostSide (by decide)
  unfold State.forward
  refine State.hostSide_ite rfl (State.hostSide_ite rfl (State.hostSide_ite ?_ (State.hostSide_ite rfl ?_)))
  · exact State.hostSide_ite ((he _ _ _).trans (posted _ _)) (posted _ _)
  · exact State.hostSide_ite rfl (he _ _ _)

theorem State.record_hostSide {err : State → Page → Nat → State} (he : ∀ s p k, (err s p k).hostSide = s.hostSide) (s : State) (c i v : Nat) (pl : List Byte) (f : Bool) :
    (State.record err s c i v pl f).hostSide = s.hostSide := by
  have written (t : State) : (State.writeRecord err t c i v pl f false).hostSide = t.hostSide := by
    unfold State.writeRecord
    split
    · rfl
    · rfl
    · refine (State.forward_hostSide he _ _).trans ?_
      exact State.hostSide_ite (t := State.inc _ REC.OVW_CNT) rfl (State.hostSide_ite rfl rfl)
  unfold State.record
  exact State.hostSide_ite (State.hostSide_ite (written _) rfl) (State.hostSide_ite (State.hostSide_ite (written _) rfl) (State.hostSide_ite (written _) rfl))

theorem State.occurWith_hostSide {err : State → Page → Nat → State} (he : ∀ s p k, (err s p k).hostSide = s.hostSide) (s : State) (p : Page) (i v : Nat) (pl : List Byte)
    (f : Bool) : (State.occurWith err s p i v pl f).hostSide = s.hostSide := by
  have sent (t : State) : (State.sendOcc err t p i v pl f).hostSide = t.hostSide := by
    have go (x : EvfState) : ((State.record err { t with evf := x } (p.blk.code * 256 + i) p.inst v pl f).deliver p i).hostSide = t.hostSide :=
      (State.deliver_hostSide _ _ _).trans (State.record_hostSide he _ _ _ _ _ _)
    unfold State.sendOcc
    exact State.hostSide_ite (go _) (State.hostSide_ite rfl (State.hostSide_ite rfl (State.hostSide_ite (go _) rfl)))
  unfold State.occurWith
  exact (sent _).trans (State.hostSide_ite rfl rfl)

theorem State.setErr_hostSide (s : State) (p : Page) (k : Nat) (c : Option Capture) : (s.setErr p k c).hostSide = s.hostSide :=
  (s.setErr_keeps p k c).hostSide (by decide)

theorem State.occur_hostSide (s : State) (p : Page) (i v : Nat) (pl : List Byte) : (s.occur p i v pl).hostSide = s.hostSide := by
  have inner (s : State) (p : Page) (k : Nat) : (s.errInner p k).hostSide = s.hostSide :=
    (State.occurWith_hostSide (fun s p k => s.setErr_hostSide p k none) _ _ _ _ _ _).trans (s.setErr_hostSide p k none)
  have alarm (s : State) (p : Page) (k : Nat) : (s.errAlarm p k).hostSide = s.hostSide :=
    (State.occurWith_hostSide inner _ _ _ _ _ _).trans (s.setErr_hostSide p k none)
  exact State.occurWith_hostSide alarm ..

theorem State.blkErr_hostSide (s : State) (p : Page) (k v : Nat) (pl : List Byte) (c : Option Capture) : (s.blkErr p k v pl c).hostSide = s.hostSide := by
  unfold State.blkErr
  exact State.hostSide_ite ((State.occur_hostSide ..).trans (s.setErr_hostSide p k c)) (s.setErr_hostSide p k c)

theorem State.cmps_of_hostSide {s t : State} (h : t.hostSide = s.hostSide) : t.hp.cmps = s.hp.cmps := by
  show t.hostSide.cmps = s.hostSide.cmps
  rw [h]

theorem State.link_of_hostSide {s t : State} (h : t.hostSide = s.hostSide) (p k : Nat) : t.link p k = s.link p k := by
  show (tget t.hostSide.links (p * 4 + k)).getD _ = (tget s.hostSide.links (p * 4 + k)).getD _
  rw [h]

end Sys2Proof.Machine
end

section
/-! SUPPORT. The status registers of a link (R99, R102): how they read after they are written, after slots are unbound, and after a report. -/
namespace Sys2Proof.Machine

/-- A field of a link's status register. -/
def Fld.ofLink (f : Fld) : Prop := f.blk = .hp ∧ f.off = 0x104 ∧ f.stride = 4 ∧ f.lo < 32

/-- Two fields of one status register. -/
theorem Fld.ofLink.key_ne {f g : Fld} (hf : f.ofLink) (hg : g.ofLink) (lo : f.lo ≠ g.lo) (p : Page) (k : Nat) : f.key p k ≠ g.key p k := by
  obtain ⟨-, foff, fstride, -⟩ := hf
  obtain ⟨-, goff, gstride, -⟩ := hg
  unfold Fld.key
  rw [foff, fstride, goff, gstride]
  omega

/-- The binding of a slot stands elsewhere. -/
theorem Fld.ofLink.key_ne_bound {f : Fld} (hf : f.ofLink) {k : Nat} (hk : k < 4) (p : Page) (l : Nat) : f.key p k ≠ HP.BOUND.key p l := by
  obtain ⟨-, off, stride, lo⟩ := hf
  unfold Fld.key
  rw [off, stride]
  simp only [HP.BOUND]
  omega

theorem Fld.ofLink.untouched {f : Fld} (hf : f.ofLink) {p k : Nat} (hp : p < 256) (hk : k < 4) : Untouched ⟨.hp, p⟩ f k := by
  obtain ⟨-, off, stride, lo⟩ := hf
  have at_ : f.place k = (0x104 + 4 * k) * 8 + f.lo := by
    unfold Fld.place
    rw [off, stride]
  unfold Untouched
  rw [at_]
  exact ⟨by omega, hp, by omega, by omega, by omega, by omega, .inr (show Blk.hp ≠ .evf ∧ Blk.hp ≠ .recd ∧ Blk.hp ≠ .mgt ∧ Blk.hp ≠ .pwr by decide)⟩

theorem ofLink_up : HP.UP.ofLink := ⟨rfl, rfl, rfl, by decide⟩
theorem ofLink_cxl : HP.CXL.ofLink := ⟨rfl, rfl, rfl, by decide⟩
theorem ofLink_flit256 : HP.FLIT256.ofLink := ⟨rfl, rfl, rfl, by decide⟩
theorem ofLink_mld : HP.MLD.ofLink := ⟨rfl, rfl, rfl, by decide⟩
theorem ofLink_rate : HP.RATE.ofLink := ⟨rfl, rfl, rfl, by decide⟩
theorem ofLink_width : HP.WIDTH.ofLink := ⟨rfl, rfl, rfl, by decide⟩

/-- The status register of a link is written. -/
def State.linkShows (s : State) (p k up cxl flit mld rate width : Nat) : State :=
  (((((s.put HP.UP up p k).put HP.CXL cxl p k).put HP.FLIT256 flit p k).put HP.MLD mld p k).put HP.RATE rate p k).put HP.WIDTH width p k

theorem State.linkFields_eq (s : State) (p k : Nat) : s.linkFields p k = s.linkShows p k 0 0 0 0 0 0 := rfl

theorem State.regsOk_linkShows {s : State} (hs : s.regsOk) (p k up cxl flit mld rate width : Nat) : (s.linkShows p k up cxl flit mld rate width).regsOk := by
  unfold State.linkShows
  iterate 6 apply State.regsOk_put
  exact hs

theorem State.linkShows_keeps (s : State) (p k up cxl flit mld rate width : Nat) :
    State.Keeps State.linkFields_scope s (s.linkShows p k up cxl flit mld rate width) := by
  unfold State.linkShows
  iterate 6 refine State.Keeps.put ?_ _ _ _ _ (by decide)
  exact State.Keeps.refl _ _

/-- A field of the status register is left by the write of another. -/
theorem State.get_put_link {s : State} (hs : s.regsOk) {f g : Fld} (hf : f.ofLink) (hg : g.ofLink) (lo : f.lo ≠ g.lo) (v p k : Nat) :
    (s.put g v p k).get f p k = s.get f p k := by
  have page : g.blk = f.blk := hg.1.trans hf.1.symm
  refine State.get_put_ne hs v ?_
  rw [page]
  exact hf.key_ne hg lo _ k

/-- What a link's status register reads after it is written. -/
theorem State.linkShows_get {s : State} (hs : s.regsOk) (p k up cxl flit mld rate width : Nat) :
    let t := s.linkShows p k up cxl flit mld rate width
    t.get HP.UP p k = up % 2 ∧ t.get HP.CXL p k = cxl % 2 ∧ t.get HP.FLIT256 p k = flit % 2 ∧ t.get HP.MLD p k = mld % 2 ∧ t.get HP.RATE p k = rate % 16 ∧
      t.get HP.WIDTH p k = width % 32 := by
  have ok1 := State.regsOk_put hs HP.UP up p k
  have ok2 := State.regsOk_put ok1 HP.CXL cxl p k
  have ok3 := State.regsOk_put ok2 HP.FLIT256 flit p k
  have ok4 := State.regsOk_put ok3 HP.MLD mld p k
  have ok5 := State.regsOk_put ok4 HP.RATE rate p k
  have width_ {f : Fld} (hf : f.ofLink) (lo : f.lo ≠ HP.WIDTH.lo) := State.get_put_link ok5 hf ofLink_width lo width p k
  have rate_ {f : Fld} (hf : f.ofLink) (lo : f.lo ≠ HP.RATE.lo) := State.get_put_link ok4 hf ofLink_rate lo rate p k
  have mld_ {f : Fld} (hf : f.ofLink) (lo : f.lo ≠ HP.MLD.lo) := State.get_put_link ok3 hf ofLink_mld lo mld p k
  have flit_ {f : Fld} (hf : f.ofLink) (lo : f.lo ≠ HP.FLIT256.lo) := State.get_put_link ok2 hf ofLink_flit256 lo flit p k
  have cxl_ {f : Fld} (hf : f.ofLink) (lo : f.lo ≠ HP.CXL.lo) := State.get_put_link ok1 hf ofLink_cxl lo cxl p k
  unfold State.linkShows
  refine ⟨?_, ?_, ?_, ?_, ?_, ?_⟩
  · rw [width_ ofLink_up (by decide), rate_ ofLink_up (by decide), mld_ ofLink_up (by decide), flit_ ofLink_up (by decide), cxl_ ofLink_up (by decide)]
    exact State.get_put_same hs ..
  · rw [width_ ofLink_cxl (by decide), rate_ ofLink_cxl (by decide), mld_ ofLink_cxl (by decide), flit_ ofLink_cxl (by decide)]
    exact State.get_put_same ok1 ..
  · rw [width_ ofLink_flit256 (by decide), rate_ ofLink_flit256 (by decide), mld_ ofLink_flit256 (by decide)]
    exact State.get_put_same ok2 ..
  · rw [width_ ofLink_mld (by decide), rate_ ofLink_mld (by decide)]
    exact State.get_put_same ok3 ..
  · rw [width_ ofLink_rate (by decide)]
    exact State.get_put_same ok4 ..
  · exact State.get_put_same ok5 ..

/-- Slots that lose their binding leave the link's status (R100). -/
theorem State.bindPresented_get {s : State} (hs : s.regsOk) {f : Fld} (hf : f.ofLink) (p : Nat) {k : Nat} (hk : k < 4) (j : Nat) :
    (s.bindPresented p j).regsOk ∧ (s.bindPresented p j).get f p k = s.get f p k := by
  have unbind (l : List Nat) {t : State} (ht : t.regsOk) :
      (l.foldl (fun t m => t.put HP.BOUND 0 p m) t).regsOk ∧ (l.foldl (fun t m => t.put HP.BOUND 0 p m) t).get f p k = t.get f p k := by
    induction l generalizing t with
    | nil => exact ⟨ht, rfl⟩
    | cons m l ih =>
      obtain ⟨ok, same⟩ := ih (State.regsOk_put ht HP.BOUND 0 p m)
      refine ⟨ok, same.trans (State.get_put_ne ht 0 ?_)⟩
      rw [hf.1]
      exact hf.key_ne_bound hk ⟨.hp, p⟩ m
  exact unbind _ hs

/-- A report leaves the link's status. -/
theorem State.blkErr_link {s : State} (hs : s.regsOk) {f : Fld} (hf : f.ofLink) (p : Port) (k : Link) (q : Port) (i v : Nat) :
    (s.blkErr (hpPage q.val) i v).get f p.val k.val = s.get f p.val k.val := by
  have page : (⟨f.blk, p.val⟩ : Page) = ⟨.hp, p.val⟩ := by rw [hf.1]
  unfold State.get
  rw [page]
  exact (State.blkErr_rep s (p := hpPage q.val) (show q.val < 256 by omega) i v [] none).same hs _ f k.val (hf.untouched (by omega) k.isLt)

end Sys2Proof.Machine
end

section
/-! SUPPORT. Links and resets of the host ports (R99 to R104, R126 to R128): what each command leaves. -/
namespace Sys2Proof.Machine

/-! ## Training (R99, R102) -/

/-- A link in L0: its status register shows the training, the slots that it does not present are unbound, and Mem_Info_Valid is set. -/
def State.trained (s : State) (p : Port) (k : Link) (cxl flit mld : Bool) (rate : BitVec 4) (w : BitVec 5) : State :=
  { (s.linkShows p.val k.val 1 (b2n cxl) (b2n flit) (b2n mld) rate.toNat w.toNat).bindPresented p.val k.val with hp.infoValid := true }

/-- The conditions under which a training ends in L0. -/
theorem linkTrainingDone_trains {s : State} {p : Port} {k : Link} {rate : BitVec 4} {w : BitVec 5} (count : k.val < s.linkCount p.val)
    (free : (s.link p.val k.val).perst = false) (pll : s.clk.pllDown.contains (6 + p.val) = false) (fast : rate.toNat ≤ s.get HP.MAX_RATE p.val)
    (wide : w.toNat ≤ s.linkLanes p.val) (power : w ∈ ([1, 2, 4, 8, 16] : List (BitVec 5))) (cxl flit mld : Bool) :
    exec (.linkTrainingDone p k cxl flit mld rate w) s =
      .next (if cxl then s.trained p k cxl (cxl && flit) (cxl && mld) rate w
        else (s.trained p k cxl (cxl && flit) (cxl && mld) rate w).blkErr (hpPage p.val) 17 4) := by
  have widths : ([1, 2, 4, 8, 16] : List Nat).contains w.toNat = true := by
    clear wide
    revert w
    decide
  show execLinkTrainingDone p k cxl flit mld rate w s = _
  unfold execLinkTrainingDone
  refine if_neg ?_
  simp only [free, pll, widths, Bool.or_false, Bool.not_true, Bool.or_eq_true, decide_eq_true_eq]
  omega

theorem flag_of_get {s : State} {f : Fld} {i j : Nat} {b : Bool} (h : s.get f i j = b2n b) : s.flag f i j = b := by
  unfold State.flag
  rw [h]
  cases b <;> rfl

theorem b2n_mod (b : Bool) : b2n b % 2 = b2n b := by cases b <;> rfl

/-- What a link that has trained shows, before any report. -/
theorem trained_get {s : State} (hs : s.regsOk) (p : Port) (k : Link) (cxl flit mld : Bool) (rate : BitVec 4) (w : BitVec 5) :
    let t := s.trained p k cxl flit mld rate w
    t.regsOk ∧ t.get HP.UP p.val k.val = 1 ∧ t.get HP.CXL p.val k.val = b2n cxl ∧ t.get HP.FLIT256 p.val k.val = b2n flit ∧ t.get HP.MLD p.val k.val = b2n mld ∧
      t.get HP.RATE p.val k.val = rate.toNat ∧ t.get HP.WIDTH p.val k.val = w.toNat ∧ t.hp = { s.hp with infoValid := true } := by
  have ok := State.regsOk_linkShows hs p.val k.val 1 (b2n cxl) (b2n flit) (b2n mld) rate.toNat w.toNat
  obtain ⟨up, cxl_, flit_, mld_, rate_, width⟩ := State.linkShows_get hs p.val k.val 1 (b2n cxl) (b2n flit) (b2n mld) rate.toNat w.toNat
  have bound {f : Fld} (hf : f.ofLink) := (State.bindPresented_get ok hf p.val k.isLt k.val).2
  have hp : ((s.linkShows p.val k.val 1 (b2n cxl) (b2n flit) (b2n mld) rate.toNat w.toNat).bindPresented p.val k.val).hp = s.hp :=
    (State.bindPresented_keeps _ _ _).kept .hp (by decide)
  refine ⟨(State.bindPresented_get ok ofLink_up p.val k.isLt k.val).1, (bound ofLink_up).trans up, (bound ofLink_cxl).trans (cxl_.trans (b2n_mod _)),
    (bound ofLink_flit256).trans (flit_.trans (b2n_mod _)), (bound ofLink_mld).trans (mld_.trans (b2n_mod _)),
    (bound ofLink_rate).trans (rate_.trans (Nat.mod_eq_of_lt rate.isLt)), (bound ofLink_width).trans (width.trans (Nat.mod_eq_of_lt w.isLt)), ?_⟩
  exact congrArg (fun x : HpState => { x with infoValid := true }) hp

theorem linkTrainingDone_cxl {s : State} {p : Port} {k : Link} {flit mld : Bool} {rate : BitVec 4} {w : BitVec 5} (hs : s.regsOk)
    (done : exec (.linkTrainingDone p k true flit mld rate w) s = .next (s.trained p k true flit mld rate w)) :
    ∃ t, exec (.linkTrainingDone p k true flit mld rate w) s = .next t ∧ t.flag HP.UP p.val k.val = true ∧ t.flag HP.CXL p.val k.val = true ∧
      t.get HP.FLIT256 p.val k.val = b2n flit ∧ t.get HP.MLD p.val k.val = b2n mld ∧ t.get HP.RATE p.val k.val = rate.toNat ∧ t.get HP.WIDTH p.val k.val = w.toNat ∧
      t.hp = { s.hp with infoValid := true } ∧ s.frame t [.regs, .hp] [HP.UP, HP.CXL, HP.FLIT256, HP.MLD, HP.RATE, HP.WIDTH, HP.BOUND] := by
  obtain ⟨-, up, cxl, flit_, mld_, rate_, width, hp⟩ := trained_get hs p k true flit mld rate w
  refine ⟨_, done, flag_of_get (b := true) up, flag_of_get cxl, flit_, mld_, rate_, width, hp, ?_⟩
  have shown := (s.linkShows_keeps p.val k.val 1 (b2n true) (b2n flit) (b2n mld) rate.toNat w.toNat).mono
    (m := ⟨[.regs, .hp], some [HP.UP, HP.CXL, HP.FLIT256, HP.MLD, HP.RATE, HP.WIDTH, HP.BOUND]⟩) (by decide)
  exact (State.Keeps.upd_hp ((State.bindPresented_keeps _ p.val k.val).step shown (by decide)) (by decide)).frame hs (by decide)

theorem linkTrainingDone_pcie {s : State} {p : Port} {k : Link} {flit mld : Bool} {rate : BitVec 4} {w : BitVec 5} (hs : s.regsOk)
    (done : exec (.linkTrainingDone p k false flit mld rate w) s = .next ((s.trained p k false false false rate w).blkErr (hpPage p.val) 17 4)) :
    ∃ t, exec (.linkTrainingDone p k false flit mld rate w) s = .next t ∧ t.flag HP.UP p.val k.val = true ∧ t.flag HP.CXL p.val k.val = false ∧
      bit (t.rd (hpPage p.val) HDR.ERR_STAT) 17 = true ∧ s.frame t reported ([HP.CXL, HP.FLIT256, HP.MLD, HP.RATE, HP.UP, HP.WIDTH, HP.BOUND] ++ reportedFields) := by
  obtain ⟨ok, up, cxl, -⟩ := trained_get hs p k false false false rate w
  refine ⟨_, done, flag_of_get (b := true) ((State.blkErr_link ok ofLink_up p k p 17 4).trans up), flag_of_get ((State.blkErr_link ok ofLink_cxl p k p 17 4).trans cxl), ?_,
    ((execLinkTrainingDone_keeps p k false flit mld rate w s).out done).frame hs (by decide)⟩
  exact State.blkErr_bit ok (show p.val < 256 by omega) (by decide) 4 [] none

end Sys2Proof.Machine
end

section
/-! SUPPORT. Link loss and resets (R126 to R128): what is discarded, and what the functions keep. -/
namespace Sys2Proof.Machine

/-! ## What a reset discards -/

theorem State.linkDiscard_cmps (s : State) (p k : Nat) :
    (s.linkDiscard p k).hp.cmps = s.hp.cmps.filter fun c => !(c.port == p && s.linkOf p c.ld == some k) := rfl

theorem State.linkFields_hp (s : State) (p k : Nat) : (s.linkFields p k).hp = s.hp := (s.linkFields_keeps p k).kept .hp (by decide)

/-- A cleared status register shows no link. -/
theorem State.linkFields_down {s : State} (hs : s.regsOk) (p k : Nat) : (s.linkFields p k).flag HP.UP p k = false := by
  obtain ⟨up, -⟩ := State.linkShows_get hs p k 0 0 0 0 0 0
  exact flag_of_get (b := false) up

/-! ## The reset of functions (R127) -/

theorem State.functionReset_memEnable (s : State) (p l m : Nat) :
    ((s.functionReset p l).ld p m).memEnable = if m = l then false else (s.ld p m).memEnable := by
  show ((s.putLd p l _).ld p m).memEnable = _
  rw [State.ld_putLd_slot]
  exact apply_ite LdState.memEnable ..

/-- Functions that are reset have Mem_Enable 0, and so has one that had it before. -/
theorem State.functionsReset_memEnable {s : State} {p m : Nat} {l : List Nat} (h : m ∈ l ∨ (s.ld p m).memEnable = false) :
    ((l.foldl (fun s l => s.functionReset p l) s).ld p m).memEnable = false := by
  induction l generalizing s with
  | nil => exact h.resolve_left List.not_mem_nil
  | cons k l ih =>
    refine ih ?_
    rw [State.functionReset_memEnable]
    rcases h with mem | off
    · rcases List.mem_cons.mp mem with same | mem
      · exact .inr (if_pos same)
      · exact .inl mem
    · rw [off, ite_self]
      exact .inr rfl

theorem State.functionsReset_cmps (s : State) (p : Nat) (l : List Nat) : (l.foldl (fun s l => s.functionReset p l) s).hp.cmps = s.hp.cmps :=
  foldl_same (fun t : State => t.hp.cmps) (fun t m => t.functionReset p m) (fun _ _ => rfl) l s

theorem State.functionsReset_flag (s : State) (p : Nat) (l : List Nat) (f : Fld) (i j : Nat) :
    (l.foldl (fun s l => s.functionReset p l) s).flag f i j = s.flag f i j :=
  foldl_same (fun t : State => t.flag f i j) _ (fun t m => by unfold State.flag State.get; rw [State.rd_of_regs (s := t) (t := t.functionReset p m) rfl rfl]) l s

theorem State.mem_ldsOf {s : State} {p k l : Nat} (lt : l < 16) (link : s.linkOf p l = some k) : l ∈ s.ldsOf p k :=
  List.mem_filter.mpr ⟨List.mem_range.mpr lt, beq_iff_eq.mpr link⟩

theorem State.link_putLink (s : State) (p k : Nat) (x : LinkState) : (s.putLink p k x).link p k = x := by
  show (tget (tset s.hp.links (p * 4 + k) x) (p * 4 + k)).getD _ = x
  rw [tget_tset_same]
  rfl

theorem State.flag_putLink (s : State) (p k : Nat) (x : LinkState) (f : Fld) (i j : Nat) : (s.putLink p k x).flag f i j = s.flag f i j := by
  unfold State.flag State.get
  rw [State.rd_of_regs (s := s) (t := s.putLink p k x) rfl rfl]

theorem State.cmps_putLink (s : State) (p k : Nat) (x : LinkState) : (s.putLink p k x).hp.cmps = s.hp.cmps := rfl

/-! ## The commands -/

theorem linkDown_down {s : State} {p : Port} {k : Link} (hs : s.regsOk) (up : s.flag HP.UP p.val k.val = true) :
    ∃ t, exec (.linkDown p k) s = .next t ∧ t.flag HP.UP p.val k.val = false ∧ bit (t.rd (hpPage p.val) HDR.ERR_STAT) 16 = true ∧
      t.hp.cmps = s.hp.cmps.filter (fun c => !(c.port == p.val && s.linkOf p.val c.ld == some k.val)) ∧
      s.frame t ([.tier] ++ reported) ([HP.CXL, HP.FLIT256, HP.MLD, HP.RATE, HP.UP, HP.WIDTH] ++ reportedFields) := by
  have done : exec (.linkDown p k) s = .next (((s.linkDiscard p.val k.val).linkFields p.val k.val).blkErr (hpPage p.val) 16 4) := congrArg Host.Outcome.next (if_pos up)
  have discarded := (s.linkDiscard_keeps p.val k.val).ok hs
  have cleared := ((s.linkDiscard p.val k.val).linkFields_keeps p.val k.val).ok discarded
  refine ⟨_, done, ?_, State.blkErr_bit cleared (show p.val < 256 by omega) (by decide) 4 [] none, ?_, ((execLinkDown_keeps p k s).out done).frame hs (by decide)⟩
  · unfold State.flag
    rw [State.blkErr_link cleared ofLink_up]
    exact State.linkFields_down discarded _ _
  · rw [State.cmps_of_hostSide (State.blkErr_hostSide ..), State.linkFields_hp, State.linkDiscard_cmps]

theorem hotReset_resets {s : State} {p : Port} {k : Link} (up : s.flag HP.UP p.val k.val = true) :
    ∃ t, exec (.hotReset p k) s = .next t ∧ t.hp.cmps = s.hp.cmps.filter (fun c => !(c.port == p.val && s.linkOf p.val c.ld == some k.val)) ∧
      (∀ l, l < 16 → s.linkOf p.val l = some k.val → (t.ld p.val l).memEnable = false) ∧ s.keptBut t [.hp, .tier] := by
  have done : exec (.hotReset p k) s =
      .next ((s.ldsOf p.val k.val).foldl (fun s l => s.functionReset p.val l) (s.linkDiscard p.val k.val)) := if_pos up
  exact ⟨_, done, State.functionsReset_cmps .., fun l lt link => State.functionsReset_memEnable (.inl (State.mem_ldsOf lt link)),
    ((execHotReset_keeps p k s).out done).kept⟩

theorem perstAssert_resets {s : State} (hs : s.regsOk) (p : Port) (k : Link) :
    ∃ t, exec (.perstAssert p k) s = .next t ∧ t.flag HP.UP p.val k.val = false ∧ t.link p.val k.val = { perst := true, viral := false } ∧
      t.hp.cmps = s.hp.cmps.filter (fun c => !(c.port == p.val && s.linkOf p.val c.ld == some k.val)) ∧
      s.frame t [.regs, .hp, .tier] [HP.CXL, HP.FLIT256, HP.MLD, HP.RATE, HP.UP, HP.WIDTH] := by
  refine ⟨_, rfl, ?_, State.link_putLink .., ?_, ((execPerstAssert_keeps p k s).out rfl).frame hs (by decide)⟩
  · have discarded := (s.linkDiscard_keeps p.val k.val).ok hs
    rw [State.flag_putLink, State.functionsReset_flag]
    exact State.linkFields_down discarded _ _
  · rw [State.cmps_putLink, State.functionsReset_cmps, State.linkFields_hp, State.linkDiscard_cmps]

theorem perstDeassert_frees (s : State) (p : Port) (k : Link) :
    ∃ t, exec (.perstDeassert p k) s = .next t ∧ t.link p.val k.val = { s.link p.val k.val with perst := false } ∧ s.keptBut t [.hp] :=
  ⟨_, rfl, State.link_putLink .., ((execPerstDeassert_keeps p k s).out rfl).kept⟩

/-! ## Function-level reset and Mem_Enable (R104, R127) -/

theorem flr_resets {s : State} {p : Port} {l : Ld} (released : s.hp.released = true) (shown : s.presented p.val l.val = true) :
    ∃ t, exec (.flr p l) s = .next t ∧
      t.ld p.val l.val = { s.ld p.val l.val with memEnable := false, logs := noLd.logs, poisonCursor := 0, config := (s.ld p.val l.val).config.filter (fun e => 0x1000 ≤ e.1), alertConfig := 0, gpf := none } ∧
      tget t.hp.msix (fnKey p.val l.val false) = none ∧ t.hp.cmps = s.hp.cmps.filter (fun c => !(c.port == p.val && c.ld == l.val)) ∧ s.keptBut t [.hp, .tier] := by
  have done : exec (.flr p l) s = .next ((s.ldDiscard p.val fun m => m == l.val).functionReset p.val l.val) := by
    show execFlr p l s = _
    unfold execFlr
    simp [released, shown]
  refine ⟨_, done, State.ld_putLd_same .., tget_tdel_same .., rfl, ?_⟩
  exact (((State.functionReset_keeps _ _ _).mono (m := ⟨[.hp, .tier], some []⟩) (by decide)).step (s.ldDiscard_keeps p.val fun m => m == l.val) (by decide)).kept

theorem flr_absent {s : State} {p : Port} {l : Ld} (absent : s.presented p.val l.val = false) (v : Bool) :
    exec (.flr p l) s = .next s ∧ exec (.memEnable p l v) s = .next s := by
  show execFlr p l s = _ ∧ execMemEnable p l v s = _
  unfold execFlr execMemEnable
  simp [absent]

theorem flr_unreleased {s : State} {p : Port} {l : Ld} (shown : s.presented p.val l.val = true) (held : s.hp.released = false) (v : Bool) :
    exec (.flr p l) s = .next (s.emit (.cfg p.val l.val false true 0)) ∧ exec (.memEnable p l v) s = .next (s.emit (.cfg p.val l.val false true 0)) := by
  show execFlr p l s = _ ∧ execMemEnable p l v s = _
  unfold execFlr execMemEnable
  simp [shown, held]

theorem memEnable_bound {s : State} {p : Port} {l : Ld} (released : s.hp.released = true) (shown : s.presented p.val l.val = true)
    (bound : s.flag HP.BOUND p.val l.val = true) (v : Bool) :
    ∃ t, exec (.memEnable p l v) s = .next t ∧ t.ld p.val l.val = { s.ld p.val l.val with memEnable := v } ∧ s.keptBut t [.hp] := by
  have done : exec (.memEnable p l v) s = .next (s.putLd p.val l.val { s.ld p.val l.val with memEnable := v }) := by
    show execMemEnable p l v s = _
    unfold execMemEnable
    simp [released, shown, bound]
  exact ⟨_, done, State.ld_putLd_same .., (State.putLd_keeps ..).kept⟩

theorem memEnable_unbound {s : State} {p : Port} {l : Ld} (released : s.hp.released = true) (unbound : s.flag HP.BOUND p.val l.val = false) (v : Bool) :
    exec (.memEnable p l v) s = .next s := by
  show execMemEnable p l v s = _
  unfold execMemEnable
  simp [released, unbound]

/-! ## Configuration requests (R104) -/

theorem configRequest_absent {s : State} {p : Port} {l : Ld} {m : Bool} (absent : s.responds p.val l.val m = false) (i : ConfigItem) (w : Bool) (d : BitVec 32) :
    exec (.configRequest p l m i w d) s = .next s := by
  show execConfigRequest p l m i w d s = _
  unfold execConfigRequest
  simp only [absent, Bool.not_false, if_true]

theorem configRequest_unreleased {s : State} {p : Port} {l : Ld} {m : Bool} (there : s.responds p.val l.val m = true) (held : s.hp.released = false)
    (i : ConfigItem) (w : Bool) (d : BitVec 32) : exec (.configRequest p l m i w d) s = .next (s.emit (.cfg p.val l.val m true 0)) := by
  show execConfigRequest p l m i w d s = _
  unfold execConfigRequest
  simp only [there, held, Bool.not_false, Bool.not_true, Bool.false_eq_true, if_true, if_false]

theorem configRequest_read {s : State} {p : Port} {l : Ld} {m : Bool} (there : s.responds p.val l.val m = true) (released : s.hp.released = true)
    (i : ConfigItem) (d : BitVec 32) : exec (.configRequest p l m i false d) s = .next (s.emit (.cfg p.val l.val m false (s.configValue p.val l.val m i))) := by
  show execConfigRequest p l m i false d s = _
  unfold execConfigRequest
  simp only [there, released, Bool.not_false, Bool.not_true, Bool.false_eq_true, if_true, if_false]

theorem configRequest_bar0 {s : State} {p : Port} {l : Ld} {m : Bool} (there : s.responds p.val l.val m = true) (released : s.hp.released = true) (d : BitVec 32) :
    ∃ t, exec (.configRequest p l m .bar0 true d) s = .next t ∧ t.configValue p.val l.val m .bar0 = d.toNat / 2 ^ s.bar0Log m * 2 ^ s.bar0Log m + 4 ∧
      s.keptBut t [.hp] := by
  have done : exec (.configRequest p l m .bar0 true d) s =
      .next (s.putLd p.val l.val { s.ld p.val l.val with config := tset (s.ld p.val l.val).config (cfgKey m 0x10) d.toNat }) := by
    show execConfigRequest p l m .bar0 true d s = _
    unfold execConfigRequest
    simp only [there, released, Bool.not_true, Bool.false_eq_true, if_false]
  refine ⟨_, done, ?_, (State.putLd_keeps ..).kept⟩
  have stored : (tget ((s.putLd p.val l.val { s.ld p.val l.val with config := tset (s.ld p.val l.val).config (cfgKey m 0x10) d.toNat }).ld p.val l.val).config
      (cfgKey m 0x10)).getD 0 = d.toNat := by
    rw [State.ld_putLd_same, tget_tset_same]
    rfl
  exact congrArg (fun v => v / 2 ^ s.bar0Log m * 2 ^ s.bar0Log m + 4) stored

/-! ## Viral (R128) -/

theorem viralReceived_kept {s : State} {p : Port} {k : Link} (hs : s.regsOk) (up : s.flag HP.UP p.val k.val = true) (fresh : (s.link p.val k.val).viral = false) :
    ∃ t, exec (.viralReceived p k false) s = .next t ∧ (t.link p.val k.val).viral = true ∧ s.frame t reported reportedFields := by
  have done : exec (.viralReceived p k false) s =
      .next ((s.putLink p.val k.val { s.link p.val k.val with viral := true }).misc (hpPage p.val) 6 (le 1 k.val)) := by
    show execViralReceived p k false s = _
    unfold execViralReceived
    simp [up, fresh]
  refine ⟨_, done, ?_, ((execViralReceived_keeps p k false s).out done).frame hs (by decide)⟩
  unfold State.misc
  rw [State.link_of_hostSide (State.occur_hostSide ..), State.link_putLink]

/-- Messages that are sent one after the other. -/
theorem State.emitAll (s : State) {α : Type} (f : α → Out) (l : List α) : (l.foldl (fun s x => s.emit (f x)) s).out = s.out ++ l.map f := by
  induction l generalizing s with
  | nil => exact (List.append_nil _).symm
  | cons x l ih => exact (ih (s.emit (f x))).trans (List.append_assoc ..)

theorem viralReceived_own (s : State) (p : Port) (k : Link) : ∃ t, exec (.viralReceived p k true) s = .next t ∧
    t.out = s.out ++ ((List.range 4).filter fun i => s.flag HP.UP p.val i).map (fun i => .device "VIRAL" [p.val, i]) ∧ s.keptBut t [.out] := by
  have done : exec (.viralReceived p k true) s = .next (((List.range 4).filter fun i => s.flag HP.UP p.val i).foldl (fun s i => s.emit (.device "VIRAL" [p.val, i])) s) := rfl
  exact ⟨_, done, s.emitAll .., (State.Keeps.foldl (State.Keeps.refl ⟨[.out], some []⟩ s) fun t i k => (t.emit_keeps (.device "VIRAL" [p.val, i])).step k (by decide)).kept⟩

/-- Settles O6: each command by what it does to its link or its function. -/
theorem hostLinks : Obligations.HostLinks := by
  unfold Obligations.HostLinks
  refine ⟨?cxl, ?pcie, ?down, ?hot, ?perst, ?free, ?flr, ?retry, ?read, ?bar, ?silent, ?absent, ?held, ?enable, ?unbound, ?viral, ?own⟩
  case cxl =>
    intro s p k flit mld rate w hs count free pll fast wide power
    have done := linkTrainingDone_trains count free pll fast wide power true flit mld
    rw [if_pos rfl, Bool.true_and, Bool.true_and] at done
    exact linkTrainingDone_cxl hs done
  case pcie =>
    intro s p k flit mld rate w hs count free pll fast wide power
    have done := linkTrainingDone_trains count free pll fast wide power false flit mld
    rw [if_neg Bool.false_ne_true, Bool.false_and, Bool.false_and] at done
    exact linkTrainingDone_pcie hs done
  case down => exact fun _ _ _ hs up => linkDown_down hs up
  case hot => exact fun _ _ _ up => hotReset_resets up
  case perst => exact fun _ p k hs => perstAssert_resets hs p k
  case free => exact perstDeassert_frees
  case flr => exact fun _ _ _ released shown => flr_resets released shown
  case retry => exact fun s _ _ _ w i d held there => ⟨_, configRequest_unreleased there held i w d, rfl, s.emit_keptBut _⟩
  case read => exact fun s _ _ _ i d released there => ⟨_, configRequest_read there released i d, rfl, rfl, rfl, s.emit_keptBut _⟩
  case bar => exact fun _ _ _ _ d released there => configRequest_bar0 there released d
  case silent => exact fun _ _ _ _ w i d absent => configRequest_absent absent i w d
  case absent => exact fun _ _ _ v absent => flr_absent absent v
  case held => exact fun _ _ _ v shown held => flr_unreleased shown held v
  case enable => exact fun _ _ _ v released shown bound => memEnable_bound released shown bound v
  case unbound => exact fun _ _ _ v released unbound => memEnable_unbound released unbound v
  case viral => exact fun _ _ _ hs up fresh => viralReceived_kept hs up fresh
  case own => exact viralReceived_own

end Sys2Proof.Machine
end

section
/-! SUPPORT. A unit rebuilt from parity beside a command that STOP ends: the class STOP of its steps goes to the registers of the movers that ran them (Tables 6-2, 6-5). -/
namespace Sys2Proof.Proofs.FlashRewrite
open Sys2Proof.Machine

/-! ## The read that parity saves (R313, R329) -/

/-- A fold agrees or not by what T2 and the folds are. -/
theorem foldOk_of_same {s t : State} (folds : t.flm.folds = s.flm.folds) (data : t.flm.t2 = s.flm.t2) (expect word : Nat) : t.foldOk expect word = s.foldOk expect word := by
  unfold State.foldOk State.t2Secs State.t2Read
  rw [folds, data]

/-- The read of a mapped unit has ended and its corrected bits are counted. -/
def counted (s : State) (u n : Nat) : State :=
  ((s.readEnded u).health fun h => { h with corrBits := h.corrBits + n }).incMod FLC.CORR_BITS n (s.mapOf u / 2 ^ 32)

/-- The retry and the rebuild are counted too. -/
def rebuilt (s : State) (u n : Nat) : State :=
  ((counted s u n).health fun h => { h with retries := h.retries + 1 }).health fun h => { h with rebuilds := h.rebuilds + 1 }

/-- The unit is staged for its rewrite. -/
def rewritten (s : State) (u n : Nat) : State := (rebuilt s u n).assign u (some (s.mapOf u))

theorem counted_folds (s : State) (u n : Nat) : (counted s u n).flm.folds = s.flm.folds ∧ (counted s u n).flm.t2 = s.flm.t2 := by
  have ended : (s.readEnded u).flm.folds = s.flm.folds ∧ (s.readEnded u).flm.t2 = s.flm.t2 := by
    unfold State.readEnded
    split
    · exact ⟨rfl, rfl⟩
    · exact ⟨rfl, rfl⟩
  exact ended

/-- A unit that parity gives back is staged, and then its readers are served. -/
theorem parityRead_serves {s : State} {u w n : Nat} (mapped : s.mapOf u ≠ unwritten) (agrees : s.foldOk u w = true)
    (readable : (counted s u n).flm.unreadable.contains u = false) (held : (counted s u n).parityHeld (s.mapOf u) = true)
    (takes : (rebuilt s u n).flashTakes = true) (direct : (rewritten s u n).unitFills u = false) :
    exec (.flashReadDone u .parity w n) s =
      .next (((rewritten s u n).directDone (u / 16) (u % 16) true).directDone (u / 16) (u % 16) false).movSettle := by
  obtain ⟨folds, data⟩ := counted_folds s u n
  have fold := (foldOk_of_same folds data u w).trans agrees
  show execFlashReadDone u .parity w n s = _
  unfold rewritten rebuilt counted at *
  unfold execFlashReadDone
  simp only [mapped, if_false, readable, fold, held, takes, direct, decide_false, Bool.not_true, Bool.and_false, Bool.or_true, Bool.or_false, Bool.false_eq_true]

/-! ## The counterexample -/

/-- The correction counter of flash channel 0. -/
def corrBits (s : State) : Nat := s.get FLC.CORR_BITS 0

/-- A parked step of a command. The mover that it names as the one that ran it is none of the 64: the place that a page of that number would have is that of flash channel 0. -/
def parkedStep : StepRec :=
  { index := 0, state := .parked, moverRetry := false, remoteRetry := false, avoid := none, slow := .ok, ran := 1280, got := [], dst := noRegion, src := noRegion }

/-- A ZERO from offset 64 on that STOP ends, with the parked step still to be recorded. -/
def stopped : Cmd :=
  { qid := 0, cmdId := 0, notify := false, cmd := .zero 0 64 0, tenant := 0, sclass := 0, fetched := 0, timeout := 0, sqHeadAfter := 0, low := 0, complete := [],
    steps := [parkedStep], stop := true, fault := none, slow := .ok, poisoned := none, waitBlocks := [], refused := 0, raiseErr := none, ended := some .aborted, result := none,
    barrier := none, preempted := false, order := 0 }

/-- The open stripe, which takes the rewrite at its sixth place. -/
def openStripe : Stripe := { blocks := [70001, 70000], parity := 7, state := .opened, next := 5, prog := [], parityRows := [], passed := [] }

/-- After reset, unit 5 is at the first place of block 0, whose stripe has its parity, and its fold is that of a unit of which T2 holds no sector. -/
def mapped : State :=
  { State.reset with
    qe := { State.reset.qe with cmds := [stopped] },
    flm := { flmInit' with
      geom := some { spare := 0, pages := 1, blocks := 0, qlc := false }, blks := [(0, { freshBlk with stripe := some 3 })], stripes := [(3, openStripe)], map := [(5, 0)],
      folds := [(5, unitFold 5 (State.reset.t2Secs 5))] } }

/-- FLM serves. -/
def serving : State := mapped.put FTL.FLM_STATE flmNormal ftlPage.inst

theorem serving_regsOk : serving.regsOk :=
  have h : mapped.regsOk := trivial
  State.regsOk_put h _ _ _ _

theorem serving_foldOk : serving.foldOk 5 5 = true := by
  have empty : serving.t2Secs 5 = State.reset.t2Secs 5 := rfl
  unfold State.foldOk
  rw [empty]
  exact beq_self_eq_true (some (unitFold 5 (State.reset.t2Secs 5)))

/-- The counter holds the offset of the step that was recorded. -/
theorem rewritten_corrBits : corrBits (((rewritten serving 5 0).directDone 0 5 true).directDone 0 5 false).movSettle = 64 := by decide +kernel

/-- Refutes O21: the clause of a read saved by parity gives the channel's correction counter its old value and what the read corrected, for every state; the end of
the read settles the movers, and a step that STOP ends is recorded under the mover number it holds, which the clause does not bound: the number 1280 leads to the
page of flash channel 0, where LAST_FOFF stands at the counter's place. -/
theorem not_flashReadsAndService : ¬ Obligations.FlashReadsAndService := by
  unfold Obligations.FlashReadsAndService
  rintro ⟨-, parity, -⟩
  have unit : serving.mapOf 5 ≠ unwritten := by decide +kernel
  obtain ⟨t, done, -, -, counts, -⟩ := parity serving 5 5 0 3 openStripe serving_regsOk serving_foldOk rfl rfl rfl unit (by decide +kernel)
    (by decide +kernel) (by decide +kernel) (by decide +kernel)
  rw [parityRead_serves unit serving_foldOk (by decide +kernel) (by decide +kernel) (by decide +kernel) (by decide +kernel)] at done
  have shown : corrBits t = 64 := by
    injection done with same
    rw [← same]
    exact rewritten_corrBits
  have stays : corrBits t = 0 := counts.trans (by decide +kernel)
  exact absurd (stays.symm.trans shown) (by decide)

end Sys2Proof.Proofs.FlashRewrite
end

section
/-! SUPPORT. The integrity tag of a source sector fails in a step of a COPY of which the same mover has parked another step: STOP ends that step, and class STOP is the last that the mover shows (Tables 6-2, 6-5). -/
namespace Sys2Proof.Proofs.SourceTagStop
open Sys2Proof.Machine

/-- LAST_FCLASS of mover 0 after an outcome. -/
def classShown (o : Res) : Option Nat :=
  match o with
  | .next t => some (t.get MOV.LAST_FCLASS 0)
  | .fault _ | .refused _ => none

/-- A step that mover 0 has claimed last. -/
def stepIn (k : Nat) (st : StepState) : StepRec := { freshStep k st with ran := 0 }

/-- A COPY of two blocks from region 1 to region 0: its first step is parked, its second one is with mover 0. -/
def copying : Cmd :=
  { State.reset.newCmd 0 noQueue 0 0 false (.copy 0 0 0x10000 0 (BitVec.ofNat 64 (2 * blkBytes))) with steps := [stepIn 0 .parked, stepIn 1 (.running 0)] }

/-- Mover 0 runs the second step. -/
def assigned : State :=
  { State.reset with
    qe := { State.reset.qe with cmds := [copying] },
    mov := { State.reset.mov with runs := [(0, { qid := 0, cmdId := 0, index := 1, inPlace := false })] } }

/-- It is in MOVE. -/
def moving : State := assigned.put MOV.STATE movMove 0

theorem moving_regsOk : moving.regsOk :=
  have h : assigned.regsOk := trivial
  State.regsOk_put h _ _ _ _

/-- The fault's own class 9 is shown first, then class STOP of the parked step. -/
theorem moveDone_classShown : classShown (exec (.moverMoveDone 0 .sourceTag) moving) = some 0xB := by decide +kernel

/-- Refutes O12: the clause of a source tag that fails says that the mover shows the fault's class, for every command, but where the same mover ran a step of it
that is parked, STOP ends that step too, and its class STOP is recorded in the mover's registers after the fault's. -/
theorem not_moverEvents : ¬ Obligations.MoverEvents := by
  unfold Obligations.MoverEvents
  rintro ⟨-, -, -, sourceTag, -⟩
  obtain ⟨t, y, done, -, -, -, -, -, shown, -⟩ := sourceTag moving 0 _ copying (stepIn 1 (.running 0)) _ _ _ _ _ moving_regsOk
    ⟨rfl, fun _ hx => absurd hx List.not_mem_nil⟩ (by decide +kernel) rfl rfl rfl rfl rfl rfl rfl rfl
  have stop := moveDone_classShown
  rw [done] at stop
  exact absurd ((Option.some.inj stop).symm.trans shown) (by decide)

end Sys2Proof.Proofs.SourceTagStop
end

section
/-! SUPPORT. Doorbells, notification and queue errors (R137 to R145, R162 to R164): what each does to the context of its queue. -/
namespace Sys2Proof.Machine

/-! ## Queue contexts -/

@[simp] theorem State.queue_putQueue_same (s : State) (q : Nat) (c : QueueCtx) : (s.putQueue q c).queue q = some c := tget_tset_same ..
theorem State.queue_putQueue_ne (s : State) {q k : Nat} (c : QueueCtx) (h : k ≠ q) : (s.putQueue q c).queue k = s.queue k := tget_tset_ne _ _ h
theorem State.queue_of_qe {s t : State} (h : t.qe = s.qe) (q : Nat) : t.queue q = s.queue q := by
  unfold State.queue
  rw [h]

/-- A queue that is not in ERROR yet goes there with its reason, and this is recorded. -/
theorem State.queueError_eq {s : State} {q : Nat} {c : QueueCtx} (h : s.queue q = some c) (sound : c.state ≠ .error) (reason : Nat) :
    s.queueError q reason = (s.putQueue q { c with state := .error, errReason := reason }).misc qePage 4 (le 3 q ++ le 1 reason) := by
  unfold State.queueError
  rw [h]
  exact if_neg sound

theorem State.queueError_queue {s : State} {q : Nat} {c : QueueCtx} (h : s.queue q = some c) (sound : c.state ≠ .error) (reason : Nat) :
    (s.queueError q reason).queue q = some { c with state := .error, errReason := reason } := by
  rw [State.queueError_eq h sound, State.queue_of_qe (State.misc_qe ..), State.queue_putQueue_same]

/-- Notification disarms the queue (R162). -/
theorem State.notify_queue {s : State} {q : Nat} {c : QueueCtx} (h : s.queue q = some c) : (s.notify q).queue q = some { c with armed := false, unnotified := 0 } := by
  unfold State.notify
  rw [h]
  dsimp only
  rw [State.queue_of_qe (State.raiseVector_qe ..), State.queue_putQueue_same]

theorem State.notify_queue_ne (s : State) {q k : Nat} (h : k ≠ q) : (s.notify q).queue k = s.queue k := by
  unfold State.notify
  split
  · rw [State.queue_of_qe (State.raiseVector_qe ..), State.queue_putQueue_ne _ _ h]
  · rfl

/-- The queue of a doorbell page is the one that its entry names. -/
theorem State.dbQueue_some {s : State} {p l g q : Nat} {c : QueueCtx} (h : s.dbQueue p l g = some (q, c)) : (s.dbEntry p l g).isNone = false ∧ s.queue q = some c := by
  unfold State.dbQueue at h
  split at h
  · rename_i entry
    split at h
    · split at h
      · split at h
        · rename_i queue _
          cases h
          exact ⟨by rw [entry]; rfl, queue⟩
        · cases h
      · cases h
    · cases h
  · cases h

/-! ## The doorbells of a queue (R142, R163) -/

theorem execSqDoorbell_eq {s : State} {p : Port} {l : Ld} {g : BitVec 20} {q : Nat} {c : QueueCtx} (h : s.dbQueue p.val l.val g.toNat = some (q, c)) (sound : c.checkOk = true)
    (v : BitVec 16) : exec (.sqDoorbell p l g v) s = .next (if c.sqDepth ≤ v.toNat then s.queueError q 1 else s.putQueue q { c with sqTail := v.toNat }) := by
  show execSqDoorbell p l g v s = _
  unfold execSqDoorbell
  rw [(State.dbQueue_some h).1, h]
  dsimp only
  rw [sound]
  exact (apply_ite Host.Outcome.next _ _ _).symm

/-- The completions up to a head are consumed. -/
def QueueCtx.headAt (c : QueueCtx) (head : Nat) : QueueCtx := { c with cqHead := head }

/-- What a CQ doorbell leaves of its queue. -/
def QueueCtx.rung (c : QueueCtx) (head : Nat) (arm : Bool) : QueueCtx :=
  { c with cqHead := head, armed := if arm then (c.headAt head).cqUsed == 0 else c.armed, unnotified := if arm && (c.headAt head).cqUsed != 0 then 0 else c.unnotified }

theorem QueueCtx.rung_empty {c : QueueCtx} {head : Nat} (empty : (c.headAt head).cqUsed = 0) : c.rung head true = { c.headAt head with armed := true } := by
  unfold QueueCtx.rung
  rw [empty]
  rfl

theorem QueueCtx.rung_unread {c : QueueCtx} {head : Nat} (unread : (c.headAt head).cqUsed ≠ 0) :
    c.rung head true = { c.headAt head with armed := false, unnotified := 0 } := by
  have notified : (true && (c.headAt head).cqUsed != 0) = true := by simp [unread]
  unfold QueueCtx.rung
  rw [if_pos notified, beq_eq_false_iff_ne.mpr unread]
  rfl

theorem execCqDoorbell_eq {s : State} {p : Port} {l : Ld} {g : BitVec 20} {v : BitVec 16} {q : Nat} {c : QueueCtx} (h : s.dbQueue p.val l.val g.toNat = some (q, c))
    (sound : c.checkOk = true) (inside : v.toNat < c.cqDepth) (written : (v.toNat + c.cqDepth - c.cqHead) % c.cqDepth ≤ c.cqUsed) (arm : Bool) :
    exec (.cqDoorbell p l g v arm) s = (if !arm then .next (s.putQueue q (c.headAt v.toNat))
      else if (c.headAt v.toNat).cqUsed = 0 then .next ((s.putQueue q (c.headAt v.toNat)).putQueue q { c.headAt v.toNat with armed := true })
      else .next ((s.putQueue q (c.headAt v.toNat)).notify q)) := by
  have taken : (decide (c.cqDepth ≤ v.toNat) || decide (c.cqUsed < (v.toNat + c.cqDepth - c.cqHead) % c.cqDepth)) = false := by
    simp only [Bool.or_eq_false_iff, decide_eq_false_iff_not]
    omega
  show execCqDoorbell p l g v arm s = _
  unfold execCqDoorbell
  rw [(State.dbQueue_some h).1, h]
  dsimp only
  rw [sound, taken]
  rfl

theorem cqDoorbell_rings {s : State} {p : Port} {l : Ld} {g : BitVec 20} {v : BitVec 16} {q : Nat} {c : QueueCtx} (h : s.dbQueue p.val l.val g.toNat = some (q, c))
    (sound : c.checkOk = true) (inside : v.toNat < c.cqDepth) (written : (v.toNat + c.cqDepth - c.cqHead) % c.cqDepth ≤ c.cqUsed) (arm : Bool) :
    ∃ t, exec (.cqDoorbell p l g v arm) s = .next t ∧ t.queue q = some (c.rung v.toNat arm) ∧ (∀ k, k ≠ q → t.queue k = s.queue k) ∧ s.keptBut t [.qe, .hp, .out] := by
  have moved := s.queue_putQueue_same q (c.headAt v.toNat)
  have others {k : Nat} (other : k ≠ q) := s.queue_putQueue_ne (c.headAt v.toNat) other
  have kept : State.Keeps ⟨[.qe, .hp, .out], some []⟩ s (s.putQueue q (c.headAt v.toNat)) := (State.putQueue_keeps ..).mono (by decide)
  rw [execCqDoorbell_eq h sound inside written]
  cases arm with
  | false => exact ⟨_, rfl, moved, fun k other => others other, kept.kept⟩
  | true =>
    rw [if_neg (by decide)]
    by_cases empty : (c.headAt v.toNat).cqUsed = 0
    · rw [if_pos empty, QueueCtx.rung_empty empty]
      exact ⟨_, rfl, State.queue_putQueue_same .., fun k other => (State.queue_putQueue_ne _ _ other).trans (others other),
        ((State.putQueue_keeps ..).step kept (by decide)).kept⟩
    · rw [if_neg empty, QueueCtx.rung_unread empty]
      exact ⟨_, rfl, State.notify_queue moved, fun k other => (State.notify_queue_ne _ other).trans (others other), ((State.notify_keeps ..).step kept (by decide)).kept⟩

/-! ## Reads of a doorbell page (R139, R145, Table 5-2) -/

/-- The bytes of a register, from its first one on. -/
theorem regBytes_of_found {regs : List (Nat × Nat × Nat)} {off w v : Nat} (n : Nat)
    (found : ∀ k, k < n → (regs.find? fun r => r.1 ≤ off + k && off + k < r.1 + r.2.1) = some (off, w, v)) : regBytes regs off n = v % 2 ^ (8 * n) := by
  induction n with
  | zero => rw [Nat.mul_zero, pow_zero, Nat.mod_one]; rfl
  | succ n ih =>
    have before := ih fun k hk => found k (Nat.lt_succ_of_lt hk)
    unfold regBytes at before ⊢
    rw [List.range_succ, List.map_append, List.foldl_append, before, List.map_singleton, found n (Nat.lt_succ_self n), List.foldl_cons, List.foldl_nil]
    dsimp only
    rw [Nat.add_sub_cancel_left, Nat.mul_succ, Nat.pow_add, Nat.mod_mul, Nat.mul_comm (2 ^ (8 * n))]

theorem regBytes_nil (off n : Nat) : regBytes [] off n = 0 := by
  induction n with
  | zero => rfl
  | succ n ih =>
    unfold regBytes at ih ⊢
    rw [List.range_succ, List.map_append, List.foldl_append, ih]
    rfl

/-- The flush doorbell of a slot among the registers of its page. -/
theorem flushReg_found {t : Table (Nat × Nat)} {page n k i d : Nat} (hn : n < 512) (hk : k < 8) (h : tget t (page * 512 + n) = some (i, d)) :
    (((t.filter fun f => f.1 / 512 == page).map fun f => (f.1 % 512 * 8, 8, f.2.1 * 2 ^ 32 + f.2.2)).find? fun r => r.1 ≤ n * 8 + k && n * 8 + k < r.1 + r.2.1) =
      some (n * 8, 8, i * 2 ^ 32 + d) := by
  induction t with
  | nil => cases h
  | cons e t ih =>
    obtain ⟨a, b⟩ := e
    unfold tget at h
    by_cases here : page * 512 + n = a
    · rw [if_pos here] at h
      cases h
      have inPage : (a / 512 == page) = true := beq_iff_eq.mpr (by omega)
      have slot : a % 512 = n := by omega
      rw [List.filter_cons, if_pos inPage, List.map_cons, List.find?_cons_of_pos]
      · simp only [slot]
      · simp only [slot, Bool.and_eq_true, decide_eq_true_eq]
        omega
    · rw [if_neg here] at h
      by_cases inPage : (a / 512 == page) = true
      · rw [List.filter_cons, if_pos inPage, List.map_cons, List.find?_cons_of_neg]
        · exact ih h
        · have := beq_iff_eq.mp inPage
          simp only [Bool.and_eq_true, decide_eq_true_eq]
          omega
      · rw [List.filter_cons, if_neg inPage]
        exact ih h

theorem State.dbRegs_unmapped {s : State} {p l g : Nat} (h : s.dbEntry p l g = none) : s.dbRegs p l g = [] := by
  unfold State.dbRegs
  rw [h]

theorem State.dbRegs_queue {s : State} {p l g : Nat} {e : PageMap} {c : QueueCtx} (h : s.dbEntry p l g = some e) (typ : e.typ = 1) (queue : s.queue e.id = some c) :
    s.dbRegs p l g = [(0x008, 4, c.errReason * 2 ^ 24 + c.state.code)] := by
  unfold State.dbRegs
  rw [h]
  dsimp only
  rw [if_pos typ, queue]

theorem State.dbRegs_flush {s : State} {p l g : Nat} {e : PageMap} (h : s.dbEntry p l g = some e) (typ : e.typ = 2) :
    s.dbRegs p l g = (s.qe.flush.filter fun f => f.1 / 512 == e.id).map fun f => (f.1 % 512 * 8, 8, f.2.1 * 2 ^ 32 + f.2.2) := by
  unfold State.dbRegs
  rw [h]
  dsimp only
  rw [if_neg (by rw [typ]; decide)]

/-- A read of a page sends the bytes of its registers, and nothing else happens. -/
theorem exec_dbRead {s : State} {p : Port} {l : Ld} {g : BitVec 20} {o : BitVec 12} {w : Bool} {n : Nat}
    (h : regBytes (s.dbRegs p.val l.val g.toNat) o.toNat (if w then 8 else 4) = n) :
    ∃ t, exec (.doorbellDrop p l g (.read o w)) s = .next t ∧ t.out = s.out ++ [.dbRead p.val l.val o.toNat n] ∧ s.keptBut t [.out] := by
  subst h
  exact ⟨_, rfl, rfl, s.emit_keptBut _⟩

theorem dbRead_queue {s : State} {p : Port} {l : Ld} {g : BitVec 20} {e : PageMap} {c : QueueCtx} (h : s.dbEntry p.val l.val g.toNat = some e) (typ : e.typ = 1)
    (queue : s.queue e.id = some c) :
    ∃ t, exec (.doorbellDrop p l g (.read 0x008 false)) s = .next t ∧ t.out = s.out ++ [.dbRead p.val l.val 0x008 ((c.errReason * 2 ^ 24 + c.state.code) % 2 ^ 32)] ∧
      s.keptBut t [.out] := by
  refine exec_dbRead ?_
  rw [State.dbRegs_queue h typ queue]
  refine regBytes_of_found (off := 0x008) 4 fun k hk => List.find?_cons_of_pos ?_
  simp only [Bool.and_eq_true, decide_eq_true_eq]
  omega

theorem dbRead_flush {s : State} {p : Port} {l : Ld} {g : BitVec 20} {n : BitVec 9} {e : PageMap} {i d : Nat} (h : s.dbEntry p.val l.val g.toNat = some e) (typ : e.typ = 2)
    (slot : tget s.qe.flush (e.id * 512 + n.toNat) = some (i, d)) :
    ∃ t, exec (.doorbellDrop p l g (.read (BitVec.ofNat 12 (n.toNat * 8)) true)) s = .next t ∧
      t.out = s.out ++ [.dbRead p.val l.val (n.toNat * 8) ((i * 2 ^ 32 + d) % 2 ^ 64)] ∧ s.keptBut t [.out] := by
  have hn := n.isLt
  have off : (BitVec.ofNat 12 (n.toNat * 8)).toNat = n.toNat * 8 := by rw [BitVec.toNat_ofNat]; omega
  have read : regBytes (s.dbRegs p.val l.val g.toNat) (n.toNat * 8) 8 = (i * 2 ^ 32 + d) % 2 ^ 64 := by
    rw [State.dbRegs_flush h typ]
    exact regBytes_of_found 8 fun k hk => flushReg_found hn hk slot
  have sent := exec_dbRead (p := p) (l := l) (g := g) (o := BitVec.ofNat 12 (n.toNat * 8)) (w := true) (s := s) (n := (i * 2 ^ 32 + d) % 2 ^ 64)
  rw [off] at sent
  exact sent read

/-- A read of the status page: STATUS_SEQ advances where it shows something new (R147). -/
theorem exec_dbStatus (s : State) (p : Port) (l : Ld) (g : BitVec 20) (o : BitVec 12) (w : Bool) :
    ∃ t, exec (.doorbellDrop p l g (.status o w)) s = .next t ∧
      t.out = s.out ++ [.dbRead p.val l.val o.toNat (regBytes (t.statusPage (s.get HP.TENANT p.val l.val)) o.toNat (if w then 8 else 4))] ∧
      (t.qe.statusSeq = s.qe.statusSeq ∨ t.qe.statusSeq = (s.qe.statusSeq + 1) % 65536) ∧ t.qe.queues = s.qe.queues ∧ t.qe.cmds = s.qe.cmds ∧ s.keptBut t [.qe, .out] := by
  have kept : s.keptBut ((s.statusUpdate p.val l.val).emit _) [.qe, .out] :=
    ((State.emit_keeps _ (.dbRead p.val l.val o.toNat
      (regBytes ((s.statusUpdate p.val l.val).statusPage ((s.statusUpdate p.val l.val).get HP.TENANT p.val l.val)) o.toNat (if w then 8 else 4)))).step
      ((s.statusUpdate_keeps p.val l.val).mono (m := ⟨[.qe, .out], some []⟩) (by decide)) (by decide)).kept
  have same : (s.statusUpdate p.val l.val).get HP.TENANT p.val l.val = s.get HP.TENANT p.val l.val ∧ (s.statusUpdate p.val l.val).out = s.out ∧
      ((s.statusUpdate p.val l.val).qe.statusSeq = s.qe.statusSeq ∨ (s.statusUpdate p.val l.val).qe.statusSeq = (s.qe.statusSeq + 1) % 65536) ∧
      (s.statusUpdate p.val l.val).qe.queues = s.qe.queues ∧ (s.statusUpdate p.val l.val).qe.cmds = s.qe.cmds := by
    unfold State.statusUpdate
    dsimp only
    split
    · exact ⟨rfl, rfl, .inl rfl, rfl, rfl⟩
    · exact ⟨rfl, rfl, .inr rfl, rfl, rfl⟩
  obtain ⟨tenant, out, seq, queues, cmds⟩ := same
  refine ⟨_, rfl, ?_, seq, queues, cmds, kept⟩
  rw [State.emit_out, out, tenant]
  rfl

/-! ## Flush doorbells (R144, R145) -/

theorem flushDoorbell_issues {s : State} {p : Port} {l : Ld} {g : BitVec 20} {n : BitVec 9} {z : Nat} {e : PageMap} {r : Nat} {d : Region} (size : z = 4 ∨ z = 8)
    (h : s.dbEntry p.val l.val g.toNat = some e) (typ : e.typ = 2)
    (region : (s.xlt.regions.find? fun x => x.2.live && x.2.flushDb == e.id * 512 + n.toNat && x.2.tenant == s.get HP.TENANT p.val l.val) = some (r, d)) :
    ∃ t b, exec (.flushDoorbell p l g n z) s = .next t ∧ t.qe.barriers = s.qe.barriers ++ [b] ∧ b.regions = [r] ∧
      b.covered = (s.twn.replay.filter fun m => !m.acked && m.region == r).map MirrorRec.id ∧
      (∃ v, b.who = .flush (e.id * 512 + n.toNat) p.val l.val v) ∧
      ((tget t.qe.flush (e.id * 512 + n.toNat)).getD (0, 0)).1 = (((tget s.qe.flush (e.id * 512 + n.toNat)).getD (0, 0)).1 + 1) % 2 ^ 32 ∧
      ((tget t.qe.flush (e.id * 512 + n.toNat)).getD (0, 0)).2 = ((tget s.qe.flush (e.id * 512 + n.toNat)).getD (0, 0)).2 ∧ s.keptBut t [.qe] := by
  have legal : (decide (z ≠ 4) && decide (z ≠ 8)) = false := by
    rcases size with rfl | rfl
    · rfl
    · rfl
  have opened : exec (.flushDoorbell p l g n z) s = .next
      { (s.barrierIssue (.flush (e.id * 512 + n.toNat) p.val l.val (if e.vecEn then some e.vector else none)) [r] (fun _ => true) fun _ => true).1 with
        qe.flush := tset s.qe.flush (e.id * 512 + n.toNat)
          ((((tget s.qe.flush (e.id * 512 + n.toNat)).getD (0, 0)).1 + 1) % 2 ^ 32, ((tget s.qe.flush (e.id * 512 + n.toNat)).getD (0, 0)).2) } := by
    show execFlushDoorbell p l g n z s = _
    unfold execFlushDoorbell
    dsimp only
    rw [h]
    dsimp only
    rw [if_neg (not_not_intro typ), legal, region]
    rfl
  have one (m : MirrorRec) : (!m.acked && [r].contains m.region && true) = (!m.acked && m.region == r) := by
    rw [List.contains_cons, List.contains_nil, Bool.or_false, Bool.and_true]
  refine ⟨_, _, opened, rfl, rfl, ?_, ⟨_, rfl⟩, ?_, ?_, ?_⟩
  · exact congrArg (List.map _) (List.filter_congr fun m _ => one m)
  · rw [tget_tset_same]
    rfl
  · rw [tget_tset_same]
    rfl
  · exact (State.Keeps.upd_qe ((State.barrierIssue_keeps ..).mono (m := ⟨[.qe], some []⟩) (by decide)) (by decide)).kept

theorem flushDoorbell_refused {s : State} {p : Port} {l : Ld} {g : BitVec 20} {n : BitVec 9} {z : Nat} {e : PageMap} (h : s.dbEntry p.val l.val g.toNat = some e)
    (typ : e.typ = 2) (bad : (z ≠ 4 ∧ z ≠ 8) ∨
      (s.xlt.regions.find? fun x => x.2.live && x.2.flushDb == e.id * 512 + n.toNat && x.2.tenant == s.get HP.TENANT p.val l.val) = none) :
    ∃ t, exec (.flushDoorbell p l g n z) s = .next t ∧
      (t.quota (s.get HP.TENANT p.val l.val)).refuseTotal = ((s.quota (s.get HP.TENANT p.val l.val)).refuseTotal + 1) % 2 ^ 64 ∧ s.keptBut t [.tier] := by
  have opened : exec (.flushDoorbell p l g n z) s = .next (s.refusal (s.get HP.TENANT p.val l.val)) := by
    show execFlushDoorbell p l g n z s = _
    unfold execFlushDoorbell
    dsimp only
    rw [h]
    dsimp only
    rw [if_neg (not_not_intro typ)]
    by_cases size : (decide (z ≠ 4) && decide (z ≠ 8)) = true
    · exact if_pos size
    · rw [if_neg size, bad.resolve_left fun other => size (by simp [other])]
  refine ⟨_, opened, ?_, (State.refusal_keeps ..).kept⟩
  unfold State.refusal State.putQuota State.quota
  dsimp only
  rw [tget_tset_same]
  rfl

theorem coalTimeExpiry_notifies {s : State} {qid : BitVec 20} {c : QueueCtx} (h : s.queue qid.toNat = some c) (armed : c.armed = true) (limit : c.coalTime ≠ 0)
    (waits : c.unnotified ≠ 0) :
    ∃ t, exec (.coalTimeExpiry qid) s = .next t ∧ t.queue qid.toNat = some { c with armed := false, unnotified := 0 } ∧ s.keptBut t [.hp, .qe, .out] := by
  have opened : exec (.coalTimeExpiry qid) s = .next (s.notify qid.toNat) := by
    show execCoalTimeExpiry qid s = _
    unfold execCoalTimeExpiry
    rw [h]
    exact if_pos (by simp [armed, limit, waits])
  exact ⟨_, opened, State.notify_queue h, (State.notify_keeps ..).kept⟩

end Sys2Proof.Machine
end

section
/-! SUPPORT. QE_QCTL (R137, R165, R167): a write that the QE page takes is the operation that its word asks for, and what each operation leaves. -/
namespace Sys2Proof.Machine

theorem slots_qeQctl : slotsAt qePage 0x110 4 = [(qePage, QE.OP, 0, 0x110 * 8 + 29), (qePage, QE.QID, 0, 0x110 * 8)] := by decide

theorem State.effect_qeOp (r : Requester) (ys : List FieldWrite) (c : Capture) (s : State) (v m : Nat) :
    State.effect r ys c s ⟨qePage, QE.OP, 0, v, m⟩ = s.qctl v (valueIn ys QE.QID 0) := by
  unfold State.effect State.blockEffect
  rw [if_neg (by decide : ¬ QE.OP.off < 0x100), if_neg (by decide : QE.OP ≠ SEQ.RAIL_WARN)]
  exact if_pos rfl
theorem State.effect_qeQid (r : Requester) (ys : List FieldWrite) (c : Capture) (s : State) (v m : Nat) : State.effect r ys c s ⟨qePage, QE.QID, 0, v, m⟩ = s := by
  unfold State.effect State.blockEffect
  rw [if_neg (by decide : ¬ QE.QID.off < 0x100), if_neg (by decide : QE.QID ≠ SEQ.RAIL_WARN)]
  exact (if_neg (by decide : QE.QID ≠ QE.OP)).trans (if_pos rfl)

theorem State.quiesceLatch_qe (s : State) (p : Page) : (s.quiesceLatch p).qe = s.qe := by
  unfold State.quiesceLatch
  split <;> rfl

/-- A write of QE_QCTL that the page takes is its operation on its queue. -/
theorem State.qctlWrite_eq {s : State} (hs : s.regsOk) {r : Requester} (h : s.commands r qePage) {op : Nat} (bound : op < 8) (qid : BitVec 20)
    (quiet : ((s.quiesceLatch qePage).qctl op qid.toNat).rd qePage HDR.ERR_STAT = (s.quiesceLatch qePage).rd qePage HDR.ERR_STAT) :
    s.qctlWrite r op qid = (s.quiesceLatch qePage).qctl op qid.toNat := by
  obtain ⟨may, warden, quiesced⟩ := State.commands_latched hs h
  obtain ⟨⟨admitted, -, on⟩, -⟩ := h
  have bits := qid.isLt
  unfold State.qctlWrite
  generalize qid.toNat = b at bits quiet ⊢
  have ask : bitsFor (op * 2 ^ 29 + b) (0x110 * 8 + 29) 3 0x110 4 = op := by
    unfold bitsFor
    simp [Nat.shiftRight_eq_div_pow]
    omega
  have queue : bitsFor (op * 2 ^ 29 + b) (0x110 * 8) 20 0x110 4 = b := by
    unfold bitsFor
    simp
    omega
  have writes : (s.quiesceLatch qePage).writesAt qePage 0x110 4 (op * 2 ^ 29 + b) = [⟨qePage, QE.OP, 0, op, 2 ^ 3 - 1⟩, ⟨qePage, QE.QID, 0, b, 2 ^ 20 - 1⟩] := by
    unfold State.writesAt
    rw [slots_qeQctl]
    simp only [List.map_cons, List.map_nil]
    rw [show QE.OP.width = 3 from rfl, show QE.QID.width = 20 from rfl, ask, queue,
      show bitsFor (2 ^ (4 * 8) - 1) (0x110 * 8 + 29) 3 0x110 4 = 2 ^ QE.OP.width - 1 by decide,
      show bitsFor (2 ^ (4 * 8) - 1) (0x110 * 8) 20 0x110 4 = 2 ^ QE.QID.width - 1 by decide,
      State.before_wo_cleared _ _ _ rfl, State.before_wo_cleared _ _ _ rfl, Nat.zero_add, Nat.zero_add]
    rfl
  have each {P : FieldWrite → Prop} (first : P ⟨qePage, QE.OP, 0, op, 2 ^ 3 - 1⟩) (second : P ⟨qePage, QE.QID, 0, b, 2 ^ 20 - 1⟩) :
      ∀ y ∈ [(⟨qePage, QE.OP, 0, op, 2 ^ 3 - 1⟩ : FieldWrite), ⟨qePage, QE.QID, 0, b, 2 ^ 20 - 1⟩], P y := fun y hy => by
    rcases List.mem_pair.mp hy with rfl | rfl
    · exact first
    · exact second
  rw [State.regWrite_admitted admitted (by decide) (by decide) (by omega) (by simp [on]), State.pageWrite_commands s _ r qePage 0x110 4 _ _ rfl may writes
    (each (State.verdict_command warden quiesced rfl rfl) (State.verdict_command warden quiesced rfl rfl)) (each rfl rfl) (each rfl rfl) (each rfl rfl),
    List.foldl_cons, List.foldl_cons, List.foldl_nil, State.effect_qeOp, State.effect_qeQid]
  exact State.captureBy_same (fun clear => quiet.trans clear) _

/-! ## What each operation does while none runs -/

section Operations
variable {s : State} {q : Nat} {c : QueueCtx} (free : s.qe.qctl = none) (queue : s.queue q = some c) (valid : c.valid = true)
include free queue valid

theorem State.qctl_enable (sound : c.checkOk = true) (off : c.state = .disabled ∨ c.state = .paused) (ring : s.ringOk c = true) : s.qctl 1 q = s.putQueue q c.enabled := by
  unfold State.qctl
  rw [free, queue]
  simp only [Option.isSome_none, Bool.false_eq_true, if_false, valid, sound, Bool.not_true, off, ring, and_self, if_true]

theorem State.qctl_pause (active : c.state = .active) : s.qctl 2 q = s.putQueue q { c with state := .paused } := by
  unfold State.qctl
  rw [free, queue]
  simp only [Option.isSome_none, Bool.false_eq_true, if_false, valid, Bool.not_true, active, if_true]

theorem State.qctl_reset : s.qctl 3 q = ({ s with qe.qctl := some (q, true) }).put QE.BUSY 1 := by
  unfold State.qctl
  rw [free, queue]
  simp only [Option.isSome_none, Bool.false_eq_true, if_false, valid, Bool.not_true]

theorem State.qctl_disable : s.qctl 4 q = if c.state = .error then s else ({ s with qe.qctl := some (q, false) }).put QE.BUSY 1 := by
  unfold State.qctl
  rw [free, queue]
  simp only [Option.isSome_none, Bool.false_eq_true, if_false, valid, Bool.not_true]

end Operations

/-! ## The writes -/

theorem State.put_busy_errStat {s : State} (hs : s.regsOk) (v : Nat) : (s.put QE.BUSY v).rd qePage HDR.ERR_STAT = s.rd qePage HDR.ERR_STAT :=
  State.rd_wr_ne hs v (Fld.key_ne_place (by decide) (by decide) (by decide))

/-- BUSY of QE as it is put. -/
theorem State.get_put_busy {s : State} (hs : s.regsOk) {v : Nat} (bit : v < 2) : (s.put QE.BUSY v).get QE.BUSY = v := State.get_put_fit hs QE.BUSY _ _ bit

/-- What an operation of QE_QCTL that only changes queue contexts leaves unchanged. -/
theorem State.latched_qe_frame {s : State} (hs : s.regsOk) (x : QeState) : s.frame { s.quiesceLatch qePage with qe := x } [.regs, .qe] [HDR.QUIESCED] :=
  (State.Keeps.upd_qe ((State.quiesceLatch_keeps s qePage).mono (m := ⟨[.regs, .qe], some [HDR.QUIESCED]⟩) (by decide)) (by decide)).frame hs (by decide)

/-- The same of one that takes until INFLIGHT is 0. -/
theorem State.latched_busy_frame {s : State} (hs : s.regsOk) (x : QeState) (v : Nat) :
    s.frame (({ s.quiesceLatch qePage with qe := x } : State).put QE.BUSY v) [.regs, .qe] [QE.BUSY, HDR.QUIESCED] :=
  (State.Keeps.put (State.Keeps.upd_qe ((State.quiesceLatch_keeps s qePage).mono (m := ⟨[.regs, .qe], some [QE.BUSY, HDR.QUIESCED]⟩) (by decide)) (by decide))
    QE.BUSY v _ _ (by decide)).frame hs (by decide)

section Writes
variable {s : State} {r : Requester} {qid : BitVec 20} {c : QueueCtx} (hs : s.regsOk) (h : s.commands r qePage) (free : s.qe.qctl = none)
  (queue : s.queue qid.toNat = some c) (valid : c.valid = true)
include hs h free queue valid

theorem queueEnable_active (sound : c.checkOk = true) (off : c.state = .disabled ∨ c.state = .paused) (ring : s.ringOk c = true) :
    ∃ t, exec (.queueEnable r qid) s = .next t ∧ t.queue qid.toNat = some c.enabled ∧ s.frame t [.regs, .qe] [HDR.QUIESCED] := by
  have same := s.quiesceLatch_qe qePage
  have latchedRing : (s.quiesceLatch qePage).ringOk c = true := by
    unfold State.ringOk State.regionAt at ring ⊢
    rw [State.quiesceLatch_xlt]
    exact ring
  have done := State.qctl_enable (s := s.quiesceLatch qePage) (by rw [same]; exact free) ((State.queue_of_qe same _).trans queue) valid sound off latchedRing
  refine ⟨_, congrArg Host.Outcome.next ((State.qctlWrite_eq hs h (by decide) qid (by rw [done]; rfl)).trans done), State.queue_putQueue_same .., State.latched_qe_frame hs _⟩

theorem queuePause_paused (active : c.state = .active) :
    ∃ t, exec (.queuePause r qid) s = .next t ∧ t.queue qid.toNat = some { c with state := .paused } ∧ s.frame t [.regs, .qe] [HDR.QUIESCED] := by
  have same := s.quiesceLatch_qe qePage
  have done := State.qctl_pause (s := s.quiesceLatch qePage) (by rw [same]; exact free) ((State.queue_of_qe same _).trans queue) valid active
  exact ⟨_, congrArg Host.Outcome.next ((State.qctlWrite_eq hs h (by decide) qid (by rw [done]; rfl)).trans done), State.queue_putQueue_same .., State.latched_qe_frame hs _⟩

theorem queueReset_waits :
    ∃ t, exec (.queueReset r qid) s = .next t ∧ t.qe = { s.qe with qctl := some (qid.toNat, true) } ∧ t.get QE.BUSY = 1 ∧
      s.frame t [.regs, .qe] [QE.BUSY, HDR.QUIESCED] := by
  have same := s.quiesceLatch_qe qePage
  have ok : ({ s.quiesceLatch qePage with qe := { (s.quiesceLatch qePage).qe with qctl := some (qid.toNat, true) } } : State).regsOk := State.quiesceLatch_ok hs qePage
  have done := State.qctl_reset (s := s.quiesceLatch qePage) (by rw [same]; exact free) ((State.queue_of_qe same _).trans queue) valid
  refine ⟨_, congrArg Host.Outcome.next ((State.qctlWrite_eq hs h (by decide) qid (by rw [done]; exact State.put_busy_errStat ok 1)).trans done), ?_,
    State.get_put_busy ok (by decide), State.latched_busy_frame hs _ _⟩
  rw [State.put_qe, same]

theorem queueDisable_waits :
    ∃ t, exec (.queueDisable r qid) s = .next t ∧ (c.state ≠ .error → t.qe = { s.qe with qctl := some (qid.toNat, false) } ∧ t.get QE.BUSY = 1) ∧
      (c.state = .error → t.qe = s.qe) ∧ s.frame t [.regs, .qe] [QE.BUSY, HDR.QUIESCED] := by
  have same := s.quiesceLatch_qe qePage
  have ok : ({ s.quiesceLatch qePage with qe := { (s.quiesceLatch qePage).qe with qctl := some (qid.toNat, false) } } : State).regsOk := State.quiesceLatch_ok hs qePage
  have done := State.qctl_disable (s := s.quiesceLatch qePage) (by rw [same]; exact free) ((State.queue_of_qe same _).trans queue) valid
  by_cases failed : c.state = .error
  · rw [if_pos failed] at done
    refine ⟨_, congrArg Host.Outcome.next ((State.qctlWrite_eq hs h (by decide) qid (by rw [done])).trans done), fun live => absurd failed live, fun _ => same, ?_⟩
    exact (State.quiesceLatch_keeps s qePage).frame hs (by decide)
  · rw [if_neg failed] at done
    refine ⟨_, congrArg Host.Outcome.next ((State.qctlWrite_eq hs h (by decide) qid (by rw [done]; exact State.put_busy_errStat ok 1)).trans done), fun _ => ⟨?_, ?_⟩,
      fun dead => absurd dead failed, State.latched_busy_frame hs _ _⟩
    · rw [State.put_qe, same]
    · exact State.get_put_busy ok (by decide)

end Writes

/-! ## The ends of RESET and DISABLE -/

/-- No operation runs, and BUSY is 0. -/
def State.qctlFree (s : State) : State := ({ s with qe.qctl := none }).put QE.BUSY 0

theorem State.regsOk_qctlFree {s : State} (hs : s.regsOk) : s.qctlFree.regsOk := State.regsOk_put (s := { s with qe.qctl := none }) hs _ _ _ _
theorem State.qctlFree_busy {s : State} (hs : s.regsOk) : s.qctlFree.get QE.BUSY = 0 := State.get_put_busy (s := { s with qe.qctl := none }) hs (by decide)

theorem busy_untouched : Untouched ⟨QE.BUSY.blk, QE.BUSY.p0⟩ QE.BUSY 0 := by
  unfold Untouched
  decide

/-- A queue error leaves QE_QCTL as it is. -/
theorem State.queueError_qctl {s : State} (hs : s.regsOk) {q : Nat} {c : QueueCtx} (h : s.queue q = some c) (sound : c.state ≠ .error) (reason : Nat) :
    (s.queueError q reason).qe.qctl = s.qe.qctl ∧ (s.queueError q reason).get QE.BUSY = s.get QE.BUSY := by
  rw [State.queueError_eq h sound]
  refine ⟨?_, (State.misc_rep _ (by decide) _ _).same (s := s.putQueue q _) hs _ _ _ busy_untouched⟩
  rw [State.misc_qe]
  rfl

section Ends
variable {s : State} {qid : BitVec 20} {c : QueueCtx} (hs : s.regsOk) (queue : s.queue qid.toNat = some c) (drained : c.inflight = 0)
include hs queue drained

theorem queueResetDone_ends (runs : s.qe.qctl = some (qid.toNat, true)) :
    ∃ t, exec (.queueResetDone qid) s = .next t ∧
      t.queue qid.toNat = some (if c.checkOk = false then { c with state := .error, errReason := 6 } else if s.ringOk c then c.enabled else { c with state := .disabled }) ∧
      t.qe.qctl = none ∧ t.get QE.BUSY = 0 ∧ s.frame t ([.regs, .qe] ++ reported) ([QE.BUSY] ++ reportedFields) := by
  have opened : exec (.queueResetDone qid) s = .next (if c.checkOk = false then (s.qctlFree.putQueue qid.toNat { c with state := .disabled }).queueError qid.toNat 6
      else s.qctlFree.putQueue qid.toNat (if s.ringOk c then c.enabled else { c with state := .disabled })) := by
    show Host.Outcome.next (s.qctlDone qid.toNat true) = _
    unfold State.qctlDone
    rw [queue]
    dsimp only
    rw [if_pos (by simp [runs, drained])]
    cases c.checkOk with
    | true => rfl
    | false => rfl
  have frame {t : State} (done : exec (.queueResetDone qid) s = .next t) := ((execQueueResetDone_keeps qid s).out done).frame hs (ps := [.regs, .qe] ++ reported)
    (fs := [QE.BUSY] ++ reportedFields) (by decide)
  have busy := State.qctlFree_busy hs
  by_cases broken : c.checkOk = false
  · rw [if_pos broken] at opened
    have held := s.qctlFree.queue_putQueue_same qid.toNat { c with state := .disabled }
    have live : QState.disabled ≠ .error := by decide
    obtain ⟨free, still⟩ := State.queueError_qctl (s := s.qctlFree.putQueue qid.toNat { c with state := .disabled }) (State.regsOk_qctlFree hs) held live 6
    exact ⟨_, opened, by rw [if_pos broken, State.queueError_queue held live], free, still.trans busy, frame opened⟩
  · rw [if_neg broken] at opened
    exact ⟨_, opened, by rw [if_neg broken, State.queue_putQueue_same], rfl, busy, frame opened⟩

theorem queueDisableDone_ends (runs : s.qe.qctl = some (qid.toNat, false)) :
    ∃ t, exec (.queueDisableDone qid) s = .next t ∧ t.queue qid.toNat = some (if c.state = .error then c else { c with state := .disabled }) ∧ t.qe.qctl = none ∧
      t.get QE.BUSY = 0 ∧ s.frame t ([.regs, .qe] ++ reported) ([QE.BUSY] ++ reportedFields) := by
  have opened : exec (.queueDisableDone qid) s = .next (s.qctlFree.putQueue qid.toNat (if c.state = .error then c else { c with state := .disabled })) := by
    show Host.Outcome.next (s.qctlDone qid.toNat false) = _
    unfold State.qctlDone
    rw [queue]
    dsimp only
    rw [if_pos (by simp [runs, drained])]
    simp only [Bool.false_and, Bool.false_eq_true, if_false, Bool.not_false, Bool.true_and, beq_iff_eq]
    rfl
  exact ⟨_, opened, State.queue_putQueue_same .., rfl, State.qctlFree_busy hs, ((execQueueDisableDone_keeps qid s).out opened).frame hs (by decide)⟩

end Ends

/-- Settles O10: each doorbell, each read of a doorbell page and each operation of QE_QCTL by what it does to its queue. -/
theorem queueDoorbells : Obligations.QueueDoorbells := by
  unfold Obligations.QueueDoorbells
  refine ⟨?sqTail, ?sqError, ?cqHead, ?dropWrite, ?dropRead, ?readQueue, ?readFlush, ?status, ?memStatus, ?flush, ?refused, ?coal, ?enable, ?pause, ?reset, ?disable,
    ?resetDone, ?disableDone⟩
  case sqTail =>
    intro s p l g v q c h sound inside
    have done := execSqDoorbell_eq h sound v
    rw [if_neg (Nat.not_le.mpr inside)] at done
    exact ⟨_, done, State.queue_putQueue_same .., fun k other => State.queue_putQueue_ne _ _ other, (State.putQueue_keeps ..).kept⟩
  case sqError =>
    intro s p l g v q c hs h sound outside live
    have done := execSqDoorbell_eq h sound v
    rw [if_pos outside] at done
    exact ⟨_, done, State.queueError_queue (State.dbQueue_some h).2 live 1, (State.queueError_keeps ..).frame hs (by decide)⟩
  case cqHead =>
    intro s p l g v arm q c h sound inside written
    exact cqDoorbell_rings h sound inside written arm
  case dropWrite =>
    intro s p l g hs unmapped
    have done : exec (.doorbellDrop p l g .write) s = .next (s.inc QE.QE_DB_DROP) := by
      show Host.Outcome.next (if (s.dbEntry p.val l.val g.toNat).isSome then s else s.inc QE.QE_DB_DROP) = _
      rw [unmapped]
      rfl
    exact ⟨_, done, State.get_put_same hs .., (State.Keeps.one s _ QE.QE_DB_DROP _ _ (.inl rfl)).frame hs (by decide)⟩
  case dropRead =>
    intro s p l g o w unmapped
    exact exec_dbRead (by rw [State.dbRegs_unmapped unmapped, regBytes_nil])
  case readQueue => exact fun s p l g e c h typ queue => dbRead_queue h typ queue
  case readFlush => exact fun s p l g n e i d h typ slot => dbRead_flush h typ slot
  case status => exact exec_dbStatus
  case memStatus => exact fun s p l g => ⟨_, rfl, rfl, s.emit_keptBut _⟩
  case flush => exact fun s p l g n z e r d size h typ region => flushDoorbell_issues size h typ region
  case refused => exact fun s p l g n z e h typ bad => flushDoorbell_refused h typ bad
  case coal => exact fun s qid c h armed limit waits => coalTimeExpiry_notifies h armed limit waits
  case enable => exact fun s r qid c hs h free queue valid sound off ring => queueEnable_active hs h free queue valid sound off ring
  case pause => exact fun s r qid c hs h free queue valid active => queuePause_paused hs h free queue valid active
  case reset => exact fun s r qid c hs h free queue valid => queueReset_waits hs h free queue valid
  case disable => exact fun s r qid c hs h free queue valid => queueDisable_waits hs h free queue valid
  case resetDone => exact fun s qid c hs queue runs drained => queueResetDone_ends hs queue drained runs
  case disableDone => exact fun s qid c hs queue runs drained => queueDisableDone_ends hs queue drained runs

end Sys2Proof.Machine
end

section
/-! SUPPORT. The fetch of an entry (R136, R149, R151): what it makes of the queue and of the commands in flight. -/
namespace Sys2Proof.Machine

/-! ## Reading an entry leaves the schedules of TIER -/

theorem State.dramAccept_schedules (s : State) (a sector port : Nat) : (s.dramAccept a sector port).tier.schedules = s.tier.schedules := by
  have issued (k : Nat) (ws : List QWrite) : ((s.dramAsk a).dramIssued k ws).tier = s.tier :=
    Eq.trans (((s.dramAsk a).dramIssued_keeps k ws).kept .tier (by decide)) ((s.dramAsk_keeps a).kept .tier (by decide))
  unfold State.dramAccept
  split
  · rfl
  · show ((s.dramAsk a).dramIssued _ _).tier.schedules = _
    rw [issued]

theorem State.frameWrite_schedules (s : State) (n : Nat) (v : SectorVal) (port : Nat) : (s.frameWrite n v port).tier.schedules = s.tier.schedules := by
  unfold State.frameWrite
  dsimp only
  split
  · exact State.dramAccept_schedules ..
  · rfl

theorem State.panWriteBack_schedules (s : State) (k : Nat) (x : Line) (port : Nat) : (s.panWriteBack k x port).tier.schedules = s.tier.schedules := by
  have half (t : State) (c : Bool) (n : Nat) (v : SectorVal) : (if c then t.frameWrite n v port else t).tier.schedules = t.tier.schedules := by
    split
    · exact State.frameWrite_schedules ..
    · rfl
  unfold State.panWriteBack
  split
  · exact (half _ _ _ _).trans (half _ _ _ _)
  · rfl

theorem State.panInstall_schedules (s : State) (l : Nat) (x : Line) (port : Nat) : (s.panInstall l x port).tier.schedules = s.tier.schedules := by
  unfold State.panInstall
  dsimp only
  split
  · rfl
  · rename_i w t victim
    have tier : t.tier = s.tier := ((s.panVictim_keeps _).use2 victim).kept .tier (by decide)
    rw [← tier]
    show (State.tier (match tget t.pan.lines _ with | some y => _ | none => _)).schedules = _
    split
    · exact State.panWriteBack_schedules ..
    · rfl

theorem State.panTouch_schedules (s : State) (n age : Nat) (demand : Bool) (port : Nat) : (s.panTouch n age demand port).tier.schedules = s.tier.schedules := by
  have asked (t : State) : (t.frameAsk n).tier = t.tier := (t.frameAsk_keeps n).kept .tier (by decide)
  have counted (c : Bool) (f : Fld) (i : Nat) : (if c then s.incMod f 1 i else s).tier = s.tier := by split <;> rfl
  unfold State.panTouch
  dsimp only
  split
  · split
    · exact congrArg TierState.schedules (counted ..)
    · exact congrArg TierState.schedules ((asked _).trans (counted ..))
  · have missed := congrArg TierState.schedules ((asked _).trans (counted demand PAN.MISS_CNT (sliceOf (n / 2))))
    split
    · exact (State.panInstall_schedules ..).trans missed
    · exact missed

theorem State.placeRead_schedules (s : State) (pl : Place64) : (s.placeRead pl).1.tier.schedules = s.tier.schedules := by
  unfold State.placeRead
  dsimp only
  split
  · split
    · exact State.panTouch_schedules ..
    · rfl
  · rfl

/-! ## The state in which a fetched command begins -/

/-- The walk to an entry and the look at its place leave queues, movers, time and schedules. -/
theorem State.walked_parts {s v u : State} {tenant region off : Nat} {n : BitVec 40} {d : Region} {pl : Place64} (walk : s.walkQueue tenant n off 64 false = (v, .ok d))
    (place : v.resolve region d off = (u, .ok pl)) : u.qe = s.qe ∧ u.timeNs = s.timeNs ∧ u.tier = s.tier := by
  have walked := (s.walkQueue_keeps tenant n off 64 false).kept
  have placed := (v.resolve_keeps region d off).kept
  rw [walk] at walked
  rw [place] at placed
  exact ⟨Eq.trans (placed .qe (by decide)) (walked .qe (by decide)), Eq.trans (placed .timeNs (by decide)) (walked .timeNs (by decide)),
    Eq.trans (placed .tier (by decide)) (walked .tier (by decide))⟩

/-- A command begins: what stands in QE, the time, and the schedules of TIER. -/
structure State.Begins (s b : State) (q : Nat) (c : QueueCtx) (y : Cmd) : Prop where
  qe : b.qe = { s.qe with queues := tset s.qe.queues q c.fetched, cmds := s.qe.cmds ++ [y], nextOrder := s.qe.nextOrder + 1 }
  timeNs : b.timeNs = s.timeNs
  schedules : b.tier.schedules = s.tier.schedules

theorem State.Begins.queue {s b : State} {q : Nat} {c : QueueCtx} {y : Cmd} (h : s.Begins b q c y) : b.queue q = some c.fetched := by
  unfold State.queue
  rw [h.qe]
  exact tget_tset_same ..

theorem State.Begins.cmds {s b : State} {q : Nat} {c : QueueCtx} {y : Cmd} (h : s.Begins b q c y) : b.qe.cmds = s.qe.cmds ++ [y] := by rw [h.qe]

theorem State.Begins.mem {s b : State} {q : Nat} {c : QueueCtx} {y : Cmd} (h : s.Begins b q c y) : y ∈ b.qe.cmds := by
  rw [h.cmds]
  exact List.mem_append_right _ (List.mem_singleton.mpr rfl)

/-- The state in which a command begins after its entry is read. -/
theorem State.begins_of_read {s v u : State} {tenant region off : Nat} {n : BitVec 40} {d : Region} {pl : Place64} (walk : s.walkQueue tenant n off 64 false = (v, .ok d))
    (place : v.resolve region d off = (u, .ok pl)) (q : Nat) (c : QueueCtx) (y : Cmd) : s.Begins ((u.placeRead pl).1.begun q c y) q c y := by
  obtain ⟨qe, timeNs, tier⟩ := State.walked_parts walk place
  have looked := State.Alike.placeRead u pl
  refine ⟨?_, looked.timeNs.trans timeNs, (State.placeRead_schedules u pl).trans (congrArg TierState.schedules tier)⟩
  unfold State.begun
  rw [looked.qe.trans qe]

theorem State.newCmd_of {s t : State} (qe : t.qe = s.qe) (timeNs : t.timeNs = s.timeNs) (q : Nat) (c : QueueCtx) (id timeout : Nat) (notify : Bool) (cmd : QCmd) :
    t.newCmd q c id timeout notify cmd = s.newCmd q c id timeout notify cmd := by
  unfold State.newCmd
  rw [qe, timeNs]

/-- The movers that are OFFLINE are the same after the pan is read. -/
theorem State.Alike.noMover {s t : State} (h : s.Alike t) : t.noMover = s.noMover := by
  unfold State.noMover
  rw [Bool.eq_iff_iff, List.all_eq_true, List.all_eq_true]
  refine forall₂_congr fun m hm => ?_
  rw [h.flag MOV.OFFLINE m 0 ⟨Nat.lt_of_lt_of_le (List.mem_range.mp hm) (by decide), (by decide : Blk.mov ≠ .pan), by decide⟩]

section Fetch
variable {s u : State} {q op : Nat} {e : SqEntry} {c : QueueCtx} {x : QEntry}

/-- An entry that is fetched: the command goes on to what its opcode does, unless it moves data and no mover is left (R187). -/
theorem State.fetch_command (h : s.fetches q e c x u) (code : x.cmd.opcode.toNat = op) (runs : (x.cmd.moves && u.noMover) = false) :
    ∃ b, s.Begins b q c (s.flight q c x) ∧ ∀ k : State → Cmd → State, s.fetch q e op k = k b (s.flight q c x) := by
  obtain ⟨queue, ready, sound, entry, form, v, d, pl, walk, place, val⟩ := h
  obtain ⟨qe, timeNs, -⟩ := State.walked_parts walk place
  have looked := State.Alike.placeRead u pl
  have pair : u.placeRead pl = ((u.placeRead pl).1, { data := e, poison := false }) := Prod.ext rfl ((u.placeRead_val pl).trans val)
  have opcode : (getAt e 0 8).toNat = op := (QEntry.decode_opcode entry).trans code
  have made : (u.placeRead pl).1.newCmd q c x.cmdId.toNat x.timeout.toNat x.notify x.cmd = s.flight q c x :=
    (looked.flight q c x).trans (State.newCmd_of qe timeNs ..)
  have movers : (x.cmd.moves && ((u.placeRead pl).1.begun q c (s.flight q c x)).noMover) = false := by
    rw [show ((u.placeRead pl).1.begun q c (s.flight q c x)).noMover = u.noMover from looked.noMover]
    exact runs
  refine ⟨_, State.begins_of_read walk place q c (s.flight q c x), fun k => ?_⟩
  unfold State.begun QueueCtx.fetched at *
  unfold State.fetch
  rw [queue]
  dsimp only
  rw [walk]
  dsimp only
  rw [place]
  dsimp only
  rw [pair, entry]
  simp only [ready, sound, opcode, form, made, movers, Bool.not_true, Bool.false_eq_true, Bool.false_or, ne_eq, not_true_eq_false, decide_false, if_false]

/-- An entry that no command of Table 5-4 has is in flight with LENGTH_ERROR (R151). -/
theorem State.fetch_malformed {v : State} {d : Region} {pl : Place64} (queue : s.queue q = some c) (ready : s.canFetch q c (e.getLsbD 15) = true)
    (sound : c.checkOk = true) (entry : QEntry.decode e = none) (walk : s.walkQueue c.tenant (BitVec.ofNat 40 c.ringHandle) (c.sqOff + c.sqHead * 64) 64 false = (v, .ok d))
    (place : v.resolve (c.ringHandle / 65536) d (c.sqOff + c.sqHead * 64) = (u, .ok pl)) (val : u.placeVal pl = { data := e, poison := false }) (k : State → Cmd → State) :
    s.Begins (s.fetch q e (getAt e 0 8).toNat k) q c
      { s.newCmd q c (getAt e 16 16).toNat 0 (e.getLsbD 14) .nop with result := some (failResult .lengthError) } := by
  obtain ⟨qe, timeNs, -⟩ := State.walked_parts walk place
  have looked := State.Alike.placeRead u pl
  have pair : u.placeRead pl = ((u.placeRead pl).1, { data := e, poison := false }) := Prod.ext rfl ((u.placeRead_val pl).trans val)
  have made := State.newCmd_of (looked.qe.trans qe) (looked.timeNs.trans timeNs) q c (getAt e 16 16).toNat 0 (e.getLsbD 14) .nop
  have fetched : s.fetch q e (getAt e 0 8).toNat k = (u.placeRead pl).1.begun q c
      { s.newCmd q c (getAt e 16 16).toNat 0 (e.getLsbD 14) .nop with result := some (failResult .lengthError) } := by
    unfold State.fetch
    rw [queue]
    dsimp only
    rw [walk]
    dsimp only
    rw [place]
    dsimp only
    rw [pair, entry]
    simp only [ready, sound, made, Bool.not_true, Bool.false_eq_true, Bool.false_or, ne_eq, not_true_eq_false, decide_false, if_false]
    rfl
  rw [fetched]
  exact State.begins_of_read walk place q c _

end Fetch

/-! ## Movers' commands, NOP and entries refused -/

section Commands
variable {s u : State} {qid : BitVec 20} {e : SqEntry} {c : QueueCtx} {x : QEntry}

/-- COPY, ZERO, RWRITE and RREAD stand in flight for the movers (R152). -/
theorem fetchMove_waits {op : Nat} (h : s.fetches qid.toNat e c x u) (code : x.cmd.opcode.toNat = op) (movers : u.noMover = false) :
    ∃ t, s.fetchMove qid e op = .next t ∧ t.qe.cmds = s.qe.cmds ++ [s.flight qid.toNat c x] ∧ t.queue qid.toNat = some c.fetched := by
  obtain ⟨b, begins, fetched⟩ := State.fetch_command h code (by rw [movers, Bool.and_false])
  exact ⟨b, congrArg Host.Outcome.next (fetched fun s _ => s), begins.cmds, begins.queue⟩

theorem nop_ends (h : s.fetches qid.toNat e c x u) (cmd : x.cmd = .nop) :
    ∃ t, exec (.nop qid e) s = .next t ∧ { s.flight qid.toNat c x with result := some okResult } ∈ t.qe.cmds ∧ t.queue qid.toNat = some c.fetched := by
  obtain ⟨b, begins, fetched⟩ := State.fetch_command (op := 0x3F) h (by rw [cmd]; rfl) (by rw [cmd]; rfl)
  exact ⟨_, congrArg Host.Outcome.next (fetched fun s x => s.done x okResult), State.done_mem okResult begins.mem rfl, begins.queue⟩

theorem unknownOpcode_refused {v : State} {d : Region} {pl : Place64} (queue : s.queue qid.toNat = some c) (ready : s.canFetch qid.toNat c (e.getLsbD 15) = true)
    (sound : c.checkOk = true) (entry : QEntry.decode e = none) (walk : s.walkQueue c.tenant (BitVec.ofNat 40 c.ringHandle) (c.sqOff + c.sqHead * 64) 64 false = (v, .ok d))
    (place : v.resolve (c.ringHandle / 65536) d (c.sqOff + c.sqHead * 64) = (u, .ok pl)) (val : u.placeVal pl = { data := e, poison := false }) :
    ∃ t y, exec (.unknownOpcode qid e) s = .next t ∧ t.qe.cmds = s.qe.cmds ++ [y] ∧ y.cmdId = (getAt e 16 16).toNat ∧ y.result = some (failResult .lengthError) ∧
      t.queue qid.toNat = some c.fetched := by
  have begins := State.fetch_malformed queue ready sound entry walk place val fun s _ => s
  have opened : exec (.unknownOpcode qid e) s = .next (s.fetch qid.toNat e (getAt e 0 8).toNat fun s _ => s) := by
    show execUnknownOpcode qid e s = _
    unfold execUnknownOpcode
    rw [entry]
    exact if_neg (by simp)
  exact ⟨_, _, opened, begins.cmds, rfl, rfl, begins.queue⟩

end Commands

end Sys2Proof.Machine
end

section
/-! SUPPORT. Ends of queue commands (R150, R155, R157, R158, R181): what ABORT, a timeout and the posting of a completion make of the commands in flight. -/
namespace Sys2Proof.Machine

/-! ## Commands keep their places -/

/-- The places of the commands in flight, in fetch order. -/
def State.orders (s : State) : List Nat := s.qe.cmds.map Cmd.order

theorem State.orders_of_qe {s t : State} (h : t.qe = s.qe) : t.orders = s.orders := by
  unfold State.orders
  rw [h]

/-- A change of each command that keeps its place. -/
theorem map_orders {f : Cmd → Cmd} (h : ∀ x, (f x).order = x.order) (l : List Cmd) : (l.map f).map Cmd.order = l.map Cmd.order := by
  rw [List.map_map]
  exact List.map_congr_left fun x _ => h x

theorem Cmd.order_ite {c : Prop} [Decidable c] {x y : Cmd} (h : y.order = x.order) : (if c then y else x).order = x.order := by
  split
  · exact h
  · rfl

theorem State.cmdResult_orders (s : State) (q c : Nat) (r : CmdResult) : (s.cmdResult q c r).orders = s.orders := by
  refine map_orders (fun y => ?_) _
  exact Cmd.order_ite rfl

theorem State.raiseSweep_orders (s : State) : s.raiseSweep.orders = s.orders :=
  map_orders (fun x => by
    split
    · split
      · rfl
      · rfl
    · rfl) _

/-- The first half of settling a schedule: a SLUICE whose every entry is settled gets its result (R221). -/
def State.sluTold (s : State) (x : Schedule) (t tag : Nat) : State :=
  if !x.completed && x.entries.all (fun e => e.state.done) then (s.cmdResult x.qid x.cmdId (x.result x.status)).schedMod t tag fun x => { x with completed := true } else s

theorem State.sluTold_orders (s : State) (x : Schedule) (t tag : Nat) : (s.sluTold x t tag).orders = s.orders := by
  unfold State.sluTold
  split
  · exact s.cmdResult_orders ..
  · rfl

/-- The second half: a completed schedule whose last hold is over ends. -/
def State.sluDropped (s : State) (t tag : Nat) : State :=
  match s.sched t tag with
  | some x => if x.completed && x.entries.all (s.sluOver t) then { s with tier.schedules := s.tier.schedules.filter fun y => !(y.tenant == t && y.tag == tag) } else s
  | none => s

theorem State.sluDropped_orders (s : State) (t tag : Nat) : (s.sluDropped t tag).orders = s.orders := by
  unfold State.sluDropped
  split
  · split
    · rfl
    · rfl
  · rfl

theorem State.sluSettle_eq {s : State} {x : Schedule} {t tag : Nat} (h : s.sched t tag = some x) : s.sluSettle t tag = (s.sluTold x t tag).sluDropped t tag := by
  unfold State.sluSettle
  rw [h]
  rfl

theorem State.sluSettle_orders (s : State) (t tag : Nat) : (s.sluSettle t tag).orders = s.orders := by
  cases h : s.sched t tag with
  | none => rw [show s.sluSettle t tag = s by unfold State.sluSettle; rw [h]]
  | some x => rw [State.sluSettle_eq h, State.sluDropped_orders, State.sluTold_orders]

theorem State.sluSweep_orders (s : State) : s.sluSweep.orders = s.orders :=
  foldl_same State.orders (fun (t : State) (x : Schedule) => t.sluSettle x.tenant x.tag) (fun t x => t.sluSettle_orders x.tenant x.tag) _ s

theorem State.sluCancel_orders (s : State) (t tag : Nat) (complete : Bool) : (s.sluCancel t tag complete).orders = s.orders := by
  have evicted (l : List SluEntry) : (l.foldl (fun s e => e.blocks.foldl (State.evictPin · t ·) s) s).orders = s.orders :=
    foldl_same State.orders _ (fun a e => foldl_same State.orders _ (fun b p => State.orders_of_qe ((b.evictPin_keeps t p).kept .qe (by decide))) _ a) _ s
  unfold State.sluCancel
  split
  · rfl
  · dsimp only
    refine (State.sluSweep_orders _).trans ((State.raiseSweep_orders _).trans ?_)
    show State.orders (if _ then _ else _) = _
    split
    · exact (State.cmdResult_orders ..).trans (evicted _)
    · exact evicted _

theorem Cmd.settle_order (x : Cmd) : x.settle.order = x.order := by
  unfold Cmd.settle
  split
  · rfl
  · dsimp only
    split
    · exact Cmd.order_ite rfl
    · exact Cmd.order_ite rfl

/-- Settling the movers settles each command in flight. -/
theorem State.movSettle_cmds (s : State) : s.movSettle.qe.cmds = s.qe.cmds.map Cmd.settle := by
  have shown (l : List (Nat × Nat × Nat)) : (l.foldl (fun s x => s.moverShows x.1 0xB x.2.1 x.2.2) s).qe = s.qe := 
    foldl_same State.qe (fun (s : State) (x : Nat × Nat × Nat) => s.moverShows x.1 0xB x.2.1 x.2.2) (fun _ _ => rfl) l s
  unfold State.movSettle
  dsimp only
  rw [show ∀ t : State, t.pruneReads.settleAll.qe = t.qe from fun t => Eq.trans (t.pruneReads.settleAll_keeps.kept .qe (by decide)) (t.pruneReads_keeps.kept .qe (by decide)),
    shown]

theorem State.movSettle_orders (s : State) : s.movSettle.orders = s.orders := by
  unfold State.orders
  rw [State.movSettle_cmds]
  exact map_orders Cmd.settle_order _

/-! ## The end of a command by ABORT or a timeout (R150, R158) -/

/-- A mover command that is to end at its step boundaries. -/
def Cmd.stopped (y : Cmd) (st : Status) (now : Nat) : Cmd :=
  { y with stop := true, ended := some (y.ended.getD st), endedAt := if y.ended.isSome then y.endedAt else now }

/-- What has ended of a settled command, and that only steps that go on are left (R181). -/
theorem Cmd.settle_stopped {x : Cmd} (moves : x.cmd.moves = true) (waits : x.result = none) (st : Status) (now : Nat) :
    (x.stopped st now).settle.stop = true ∧ (x.stopped st now).settle.ended = some (x.ended.getD st) ∧
      ∀ k ∈ (x.stopped st now).settle.steps, (x.stopped st now).settle.goesOn k = true := by
  have live : (!(x.stopped st now).cmd.moves || (x.stopped st now).result.isSome) = false := by
    show (!x.cmd.moves || x.result.isSome) = false
    rw [moves, waits]
    rfl
  have going : ∀ k ∈ (x.stopped st now).steps.filter (x.stopped st now).goesOn, (x.stopped st now).goesOn k = true := fun k hk => (List.mem_filter.mp hk).2
  unfold Cmd.settle
  rw [live]
  simp only [Bool.false_eq_true, if_false]
  rw [if_pos (show (x.stopped st now).stop = true from rfl)]
  split
  · exact ⟨rfl, rfl, going⟩
  · exact ⟨rfl, rfl, going⟩

section EndCmd
variable {s : State} {x : Cmd} (waits : x.result = none) (st : Status)
include waits

theorem State.endCmd_mover (moves : x.cmd.moves = true) :
    s.endCmd x st = ({ s with qe.cmds := s.qe.cmds.map fun y => if y.order = x.order then y.stopped st s.timeNs else y } : State).movSettle := by
  unfold State.endCmd
  rw [waits, moves]
  rfl

theorem State.endCmd_result (still : x.cmd.moves = false) (unscheduled : (s.tier.schedules.find? fun y => y.qid == x.qid && y.cmdId == x.cmdId && !y.completed) = none) :
    s.endCmd x st = { s with qe.cmds := s.qe.cmds.map fun y => if y.order = x.order then { y with result := some { failResult st with detail := x.refused } } else y } := by
  unfold State.endCmd
  rw [waits, still, unscheduled]
  rfl

/-- A mover command that is ended stands in flight with its STOP. -/
theorem State.endCmd_stops (h : x ∈ s.qe.cmds) (moves : x.cmd.moves = true) :
    ∃ y ∈ (s.endCmd x st).qe.cmds, y.order = x.order ∧ y.stop = true ∧ y.ended = some (x.ended.getD st) ∧ ∀ k ∈ y.steps, y.goesOn k = true := by
  obtain ⟨stop, ended, steps⟩ := Cmd.settle_stopped moves waits st s.timeNs
  refine ⟨(x.stopped st s.timeNs).settle, ?_, Cmd.settle_order _, stop, ended, steps⟩
  rw [State.endCmd_mover waits st moves, State.movSettle_cmds]
  exact List.mem_map_of_mem (List.mem_map.mpr ⟨x, h, if_pos rfl⟩)

/-- Any other command that is ended, but a SLUICE, has its result. -/
theorem State.endCmd_ends (h : x ∈ s.qe.cmds) (still : x.cmd.moves = false)
    (unscheduled : (s.tier.schedules.find? fun y => y.qid == x.qid && y.cmdId == x.cmdId && !y.completed) = none) :
    { x with result := some { failResult st with detail := x.refused } } ∈ (s.endCmd x st).qe.cmds := by
  rw [State.endCmd_result waits st still unscheduled]
  exact List.mem_map.mpr ⟨x, h, if_pos rfl⟩

end EndCmd

theorem State.endCmd_orders (s : State) (x : Cmd) (st : Status) : (s.endCmd x st).orders = s.orders := by
  unfold State.endCmd
  split
  · rfl
  · split
    · refine (State.movSettle_orders _).trans (map_orders (fun y => ?_) _)
      exact Cmd.order_ite rfl
    · split
      · exact State.sluCancel_orders ..
      · refine map_orders (fun y => ?_) _
        exact Cmd.order_ite rfl

/-! ## Timeouts (R158) -/

section Timeout
variable {s : State} {qid : BitVec 20} {id : BitVec 16} {x : Cmd} (h : (s.qe.cmds.find? fun x => x.qid == qid.toNat && x.cmdId == id.toNat && x.result.isNone) = some x)
include h

theorem State.found_waits : x ∈ s.qe.cmds ∧ x.result = none := by
  have found := List.find?_some h
  simp only [Bool.and_eq_true, Option.isNone_iff_eq_none] at found
  exact ⟨List.mem_of_find?_eq_some h, found.2⟩

theorem exec_cmdTimeout (timed : x.cmd.timed = true) (limit : x.timeout ≠ 0) : exec (.cmdTimeout qid id) s = .next (s.endCmd x .timeout) := by
  show execCmdTimeout qid id s = _
  unfold execCmdTimeout
  rw [h]
  exact if_pos (by simp [timed, limit])

theorem cmdTimeout_ends (timed : x.cmd.timed = true) (limit : x.timeout ≠ 0) (still : x.cmd.moves = false)
    (unscheduled : (s.tier.schedules.find? fun y => y.qid == x.qid && y.cmdId == x.cmdId && !y.completed) = none) :
    ∃ t, exec (.cmdTimeout qid id) s = .next t ∧ { x with result := some { failResult .timeout with detail := x.refused } } ∈ t.qe.cmds ∧ s.keptBut t [.qe] := by
  obtain ⟨mem, waits⟩ := State.found_waits h
  refine ⟨_, exec_cmdTimeout h timed limit, State.endCmd_ends waits _ mem still unscheduled, ?_⟩
  rw [State.endCmd_result waits _ still unscheduled]
  exact (State.Keeps.upd_qe (State.Keeps.refl ⟨[.qe], some []⟩ s) (by decide)).kept

theorem cmdTimeout_stops (hs : s.regsOk) (timed : x.cmd.timed = true) (limit : x.timeout ≠ 0) (moves : x.cmd.moves = true) :
    ∃ t y, exec (.cmdTimeout qid id) s = .next t ∧ y ∈ t.qe.cmds ∧ y.order = x.order ∧ y.stop = true ∧ y.ended = some (x.ended.getD .timeout) ∧
      (∀ k ∈ y.steps, y.goesOn k = true) ∧ s.frame t [.regs, .qe, .mov, .tier] [MOV.LAST_FCLASS, MOV.LAST_FOFF, MOV.LAST_STATUS] := by
  obtain ⟨mem, waits⟩ := State.found_waits h
  obtain ⟨y, flies, order, stop, ended, steps⟩ := State.endCmd_stops waits .timeout mem moves
  exact ⟨_, y, exec_cmdTimeout h timed limit, flies, order, stop, ended, steps, (State.endCmd_keeps ..).frame hs (by decide)⟩

end Timeout

/-! ## ABORT (R150, R157) -/

/-- Whether an ABORT of a CMD_ID meets a command: it has not completed, or a terminal fault has ended it in this cycle (Table 6-3, log entry 111). -/
def State.meets (s : State) (q target order : Nat) (y : Cmd) : Bool :=
  y.qid == q && y.cmdId == target && y.order != order && (y.result.isNone || (y.fault.isSome && y.faultAt == s.timeNs))

/-- The commands that an ABORT ends, and the state after they have ended. -/
def State.aborted (s : State) (l : List Cmd) : State := l.foldl (fun s y => s.endCmd y .aborted) s

/-- The answer of an ABORT. -/
def State.abortAnswered (s : State) (order n : Nat) : State :=
  { s with qe.cmds := s.qe.cmds.map fun y => if y.order = order then { y with result := some { okResult with result0 := n } } else y }

section Abort
variable {s u : State} {qid : BitVec 20} {e : SqEntry} {c : QueueCtx} {x : QEntry} {target : BitVec 16}

theorem exec_abort (h : s.fetches qid.toNat e c x u) (cmd : x.cmd = .abort target) :
    ∃ b, s.Begins b qid.toNat c (s.flight qid.toNat c x) ∧
      exec (.abort qid e) s = .next ((b.aborted (s.qe.cmds.filter (s.meets qid.toNat target.toNat s.qe.nextOrder))).abortAnswered s.qe.nextOrder
        (s.qe.cmds.filter (s.meets qid.toNat target.toNat s.qe.nextOrder)).length) := by
  obtain ⟨b, begins, fetched⟩ := State.fetch_command (op := 0x3E) h (by rw [cmd]; rfl) (by rw [cmd]; rfl)
  refine ⟨b, begins, ?_⟩
  have self : s.meets qid.toNat target.toNat s.qe.nextOrder (s.flight qid.toNat c x) = false := by
    unfold State.meets
    rw [show ((s.flight qid.toNat c x).order != s.qe.nextOrder) = false from bne_self_eq_false _, Bool.and_false, Bool.false_and]
  have hits : b.qe.cmds.filter (b.meets qid.toNat target.toNat s.qe.nextOrder) = s.qe.cmds.filter (s.meets qid.toNat target.toNat s.qe.nextOrder) := by
    rw [show b.meets qid.toNat target.toNat s.qe.nextOrder = s.meets qid.toNat target.toNat s.qe.nextOrder from by unfold State.meets; rw [begins.timeNs], begins.cmds,
      List.filter_append, List.filter_singleton, self]
    exact List.append_nil _
  show execAbort qid e s = _
  unfold execAbort
  rw [fetched, show (s.flight qid.toNat c x).cmd = _ from cmd, ← hits]
  rfl

theorem State.aborted_orders (s : State) (l : List Cmd) : (s.aborted l).orders = s.orders := 
  foldl_same State.orders (fun (t : State) (y : Cmd) => t.endCmd y .aborted) (fun t y => t.endCmd_orders y .aborted) l s

theorem State.abortAnswered_mem {s : State} {order : Nat} (n : Nat) (h : order ∈ s.orders) :
    ∃ y ∈ (s.abortAnswered order n).qe.cmds, y.order = order ∧ y.result = some { okResult with result0 := n } := by
  obtain ⟨z, mem, rfl⟩ := List.mem_map.mp h
  exact ⟨_, List.mem_map.mpr ⟨z, mem, if_pos rfl⟩, rfl, rfl⟩

theorem abort_answers (h : s.fetches qid.toNat e c x u) (cmd : x.cmd = .abort target) :
    ∃ t y, exec (.abort qid e) s = .next t ∧ y ∈ t.qe.cmds ∧ y.order = s.qe.nextOrder ∧
      y.result = some { okResult with result0 := (s.qe.cmds.filter (s.meets qid.toNat target.toNat s.qe.nextOrder)).length } := by
  obtain ⟨b, begins, done⟩ := exec_abort h cmd
  have own : s.qe.nextOrder ∈ (b.aborted (s.qe.cmds.filter (s.meets qid.toNat target.toNat s.qe.nextOrder))).orders := by
    rw [State.aborted_orders]
    exact List.mem_map.mpr ⟨_, begins.mem, rfl⟩
  obtain ⟨y, mem, order, result⟩ := State.abortAnswered_mem _ own
  exact ⟨_, y, done, mem, order, result⟩

theorem abort_ends {z : Cmd} (h : s.fetches qid.toNat e c x u) (cmd : x.cmd = .abort target)
    (one : s.qe.cmds.filter (s.meets qid.toNat target.toNat s.qe.nextOrder) = [z]) (waits : z.result = none) (still : z.cmd.moves = false)
    (unscheduled : (s.tier.schedules.find? fun y => y.qid == qid.toNat && y.cmdId == target.toNat && !y.completed) = none) :
    ∃ t, exec (.abort qid e) s = .next t ∧ { z with result := some { failResult .aborted with detail := z.refused } } ∈ t.qe.cmds := by
  obtain ⟨b, begins, done⟩ := exec_abort h cmd
  rw [one] at done
  obtain ⟨mem, met⟩ := List.mem_filter.mp (show z ∈ s.qe.cmds.filter _ by rw [one]; exact List.mem_singleton.mpr rfl)
  unfold State.meets at met
  simp only [Bool.and_eq_true, beq_iff_eq, bne_iff_ne] at met
  obtain ⟨⟨⟨queue, id⟩, other⟩, -⟩ := met
  have flies : z ∈ b.qe.cmds := by
    rw [begins.cmds]
    exact List.mem_append_left _ mem
  have ended := State.endCmd_ends (s := b) waits .aborted flies still (by rw [begins.schedules, queue, id]; exact unscheduled)
  exact ⟨_, done, List.mem_map.mpr ⟨_, ended, if_neg other⟩⟩

end Abort

/-! ## Completion (R153 to R155) -/

theorem State.notify_cmds (s : State) (q : Nat) : (s.notify q).qe.cmds = s.qe.cmds := by
  unfold State.notify
  split
  · rw [State.raiseVector_qe]
    rfl
  · rfl

theorem State.raiseVector_out {s : State} {o : Out} (h : o ∈ s.out) (p l : Nat) (m : Bool) (v : Nat) : o ∈ (s.raiseVector p l m v).out := by
  unfold State.raiseVector
  dsimp only
  split
  · exact h
  · split
    · exact List.mem_append_left _ h
    · exact h

theorem State.notify_out {s : State} {o : Out} (h : o ∈ s.out) (q : Nat) : o ∈ (s.notify q).out := by
  unfold State.notify
  split
  · exact State.raiseVector_out (s := s.putQueue q _) h ..
  · exact h

/-- The context of a queue after the posting of a completion. -/
def QueueCtx.posted (d : QueueCtx) : QueueCtx :=
  { d with cqTail := (d.cqTail + 1) % d.cqDepth, cqPhase := if d.cqTail + 1 = d.cqDepth then !d.cqPhase else d.cqPhase, inflight := d.inflight - 1,
           doneCnt := (d.doneCnt + 1) % 2 ^ 64, unnotified := d.unnotified + 1 }

/-- The completion entry of a command with its result (R153). -/
def State.completion (s : State) (x : Cmd) (r : CmdResult) (c : QueueCtx) : CqEntry :=
  { cmdId := x.cmdId, status := r.status, phase := c.cqPhase, sqHead := x.sqHeadAfter, prefixLen := r.prefixLen, result0 := r.result0, detail := r.detail,
    elapsed := min (2 ^ 32 - 1) ((s.timeNs - x.fetched) / 1000) }

/-- A command leaves the commands in flight, and its entry is sent. -/
def State.sent (v : State) (x : Cmd) (e : CqEntry) (d : QueueCtx) : State :=
  (({ v with qe.cmds := v.qe.cmds.filter fun y => y.order != x.order } : State).putQueue x.qid d.posted).emit (.cq x.qid e)

section Post
variable {s v : State} {x : Cmd} {r : CmdResult} {c d : QueueCtx}

theorem State.sent_out (v : State) (x : Cmd) (e : CqEntry) (d : QueueCtx) : .cq x.qid e ∈ (v.sent x e d).out := List.mem_append_right _ (List.mem_singleton.mpr rfl)

theorem State.sent_cmds {y : Cmd} {e : CqEntry} (h : y ∈ (v.sent x e d).qe.cmds) : y.order ≠ x.order := bne_iff_ne.mp (List.mem_filter.mp h).2

theorem State.sent_queue (v : State) (x : Cmd) (e : CqEntry) (d : QueueCtx) : (v.sent x e d).queue x.qid = some d.posted := tget_tset_same ..

/-- A completion that is written is sent, and notified where the queue is armed for it (R162). -/
theorem State.post_eq (queue : s.queue x.qid = some c) (written : s.cqWrite c (s.completion x r c) = (v, some (.ok ()))) (after : v.queue x.qid = some d) :
    s.post x r = if d.posted.armed && (d.posted.coalCount ≤ d.posted.unnotified || x.notify) then (v.sent x (s.completion x r c) d).notify x.qid
      else v.sent x (s.completion x r c) d := by
  unfold State.completion at written ⊢
  unfold State.post
  rw [queue]
  dsimp only
  rw [written]
  dsimp only
  rw [after]
  rfl

theorem State.post_sends (queue : s.queue x.qid = some c) (written : s.cqWrite c (s.completion x r c) = (v, some (.ok ()))) (after : v.queue x.qid = some d) :
    .cq x.qid (s.completion x r c) ∈ (s.post x r).out ∧ (∀ y ∈ (s.post x r).qe.cmds, y.order ≠ x.order) ∧
      ∃ p, (s.post x r).queue x.qid = some p ∧ p.cqTail = d.posted.cqTail ∧ p.cqPhase = d.posted.cqPhase ∧ p.inflight = d.posted.inflight ∧ p.doneCnt = d.posted.doneCnt := by
  rw [State.post_eq queue written after]
  split
  · refine ⟨State.notify_out (State.sent_out ..) _, fun y hy => ?_, _, State.notify_queue (State.sent_queue ..), rfl, rfl, rfl, rfl⟩
    rw [State.notify_cmds] at hy
    exact State.sent_cmds hy
  · exact ⟨State.sent_out .., fun y hy => State.sent_cmds hy, _, State.sent_queue .., rfl, rfl, rfl, rfl⟩

end Post

theorem exec_commandCompletion {s : State} {qid : BitVec 20} {id : BitVec 16} {x : Cmd} {r : CmdResult}
    (h : (s.raiseSweep.qe.cmds.find? fun x => x.qid == qid.toNat && x.cmdId == id.toNat && x.result.isSome && !(x.steps.any fun r => r.state.busy)) = some x)
    (result : x.result = some r) : exec (.commandCompletion qid id) s = .next (s.raiseSweep.post x r) := by
  show execCommandCompletion qid id s = _
  unfold execCommandCompletion
  dsimp only
  rw [h]
  dsimp only
  rw [result]

end Sys2Proof.Machine
end

section
/-! SUPPORT. The flow of queue commands (05, O11), assembled. -/
namespace Sys2Proof.Machine

/-- Settles O11: a fetch adds the command to those in flight (`State.Begins`), ABORT and timeouts end commands one by one (`State.endCmd_stops`, `State.endCmd_ends`), and a completion that is written leaves with its command (`State.post_sends`). -/
theorem queueCommandFlow : Obligations.QueueCommandFlow := by
  unfold Obligations.QueueCommandFlow
  refine ⟨?copy, ?zero, ?rwrite, ?rread, ?nop, ?unknown, ?aborts, ?abortsOne, ?completes, ?timesOut, ?stops⟩
  case copy =>
    intro s qid e c x u dst src d o n hs h cmd movers
    obtain ⟨t, done, cmds, queue⟩ := fetchMove_waits (op := 0x01) h (by rw [cmd]; rfl) movers
    exact ⟨t, done, cmds, queue, ((execCopy_keeps ..).out done).frame hs (by decide)⟩
  case zero =>
    intro s qid e c x u r o n hs h cmd movers
    obtain ⟨t, done, cmds, queue⟩ := fetchMove_waits (op := 0x02) h (by rw [cmd]; rfl) movers
    exact ⟨t, done, cmds, queue, ((execZero_keeps ..).out done).frame hs (by decide)⟩
  case rwrite =>
    intro s qid e c x u r o k key ro n f hs h cmd movers
    obtain ⟨t, done, cmds, queue⟩ := fetchMove_waits (op := 0x30) h (by rw [cmd]; rfl) movers
    exact ⟨t, done, cmds, queue, ((execRwrite_keeps ..).out done).frame hs (by decide)⟩
  case rread =>
    intro s qid e c x u r o k key ro n f hs h cmd movers
    obtain ⟨t, done, cmds, queue⟩ := fetchMove_waits (op := 0x31) h (by rw [cmd]; rfl) movers
    exact ⟨t, done, cmds, queue, ((execRread_keeps ..).out done).frame hs (by decide)⟩
  case nop =>
    intro s qid e c x u hs h cmd
    obtain ⟨t, done, mem, queue⟩ := nop_ends h cmd
    exact ⟨t, done, mem, queue, ((execNop_keeps ..).out done).frame hs (by decide)⟩
  case unknown =>
    intro s qid e c u v d pl hs queue ready sound entry walk place val
    obtain ⟨t, y, done, cmds, id, result, after⟩ := unknownOpcode_refused queue ready sound entry walk place val
    exact ⟨t, y, done, cmds, id, result, after, ((execUnknownOpcode_keeps ..).out done).frame hs (by decide)⟩
  case aborts =>
    intro s qid e c x u target hs h cmd
    obtain ⟨t, y, done, mem, order, result⟩ := abort_answers h cmd
    exact ⟨t, y, done, mem, order, result, ((execAbort_keeps ..).out done).frame hs (by decide)⟩
  case abortsOne =>
    intro s qid e c x u target z hs h cmd one waits still unscheduled
    obtain ⟨t, done, mem⟩ := abort_ends h cmd one waits still unscheduled
    exact ⟨t, done, mem, ((execAbort_keeps ..).out done).frame hs (by decide)⟩
  case completes =>
    intro s qid id x r c d e v hs found result queue made written after
    subst made
    obtain ⟨sent, gone, p, posted, tail, phase, inflight, count⟩ := State.post_sends (s := s.raiseSweep) (x := x) (r := r) queue written after
    have done := exec_commandCompletion found result
    exact ⟨_, p, done, sent, gone, posted, tail, phase, inflight, count, ((execCommandCompletion_keeps ..).out done).frame hs (by decide)⟩
  case timesOut => exact fun s qid id x _ h timed limit still unscheduled => cmdTimeout_ends h timed limit still unscheduled
  case stops => exact fun s qid id x hs h timed limit moves => cmdTimeout_stops h hs timed limit moves

end Sys2Proof.Machine
end

section
/-! SUPPORT. A register that no field of a scope can reach: it reads as before, whatever pages and entries the operation wrote. -/
namespace Sys2Proof.Machine

/-- No entry of f, in any page, stands where g's first entry stands in a page: their places differ modulo f's stride and the size of a page. -/
def Fld.clears (f g : Fld) : Bool := f.place 0 % Nat.gcd (8 * f.stride) 32768 != g.place 0 % Nat.gcd (8 * f.stride) 32768

theorem Fld.key_mod (f : Fld) (p : Page) (i : Nat) {m : Nat} (page : m ∣ 32768) (stride : m ∣ 8 * f.stride) : f.key p i % m = f.place 0 % m := by
  have split : f.key p i = (0x1000 + p.blk.code * 256 + p.inst) * 32768 + 8 * f.stride * i + f.place 0 := by
    simp only [Fld.key, pageBit, Fld.place]
    ring
  rw [split, Nat.add_mod, Nat.mod_eq_zero_of_dvd (Dvd.dvd.add (page.mul_left _) (stride.mul_right _)), Nat.zero_add, Nat.mod_mod]

theorem Fld.clears_covers {f g : Fld} (h : f.clears g = true) (p : Page) : ¬ f.covers (g.key p 0) := by
  rintro ⟨q, i, -, same⟩
  have page : Nat.gcd (8 * f.stride) 32768 ∣ 32768 := Nat.gcd_dvd_right ..
  have left := f.key_mod q i page (Nat.gcd_dvd_left ..)
  have right : g.key p 0 % Nat.gcd (8 * f.stride) 32768 = g.place 0 % Nat.gcd (8 * f.stride) 32768 := by
    have split : g.key p 0 = (0x1000 + p.blk.code * 256 + p.inst) * 32768 + g.place 0 := by
      simp only [Fld.key, pageBit, Fld.place]
      ring
    rw [split, Nat.add_mod, Nat.mod_eq_zero_of_dvd (page.mul_left _), Nat.zero_add, Nat.mod_mod]
  rw [← same, right] at left
  exact bne_iff_ne.mp h left.symm

theorem State.Keeps.get {l : Scope} {s t : State} (k : State.Keeps l s t) (hs : s.regsOk) {fs : List Fld} (fields : l.flds = some fs) (unit : Part.unit ∉ l.parts) {g : Fld}
    (clear : (fs.all fun f => f.clears g) = true) (inst : Nat) : t.get g inst = s.get g inst := by
  have same := k.regs hs fs fields (g.key ⟨g.blk, inst⟩ 0) fun f hf => Fld.clears_covers (List.all_eq_true.mp clear f hf) _
  unfold State.get State.rd
  rw [same, show t.unit = s.unit from k.kept .unit unit]

end Sys2Proof.Machine
end

section
/-! SUPPORT. Cemanor: a packet that passes steps 1 to 3 reaches its meaning: a response (R440), or a control packet (R424, R429, R437). -/
namespace Sys2Proof.Machine

/-- The connection once a control packet's number is seen (R424). -/
def Conn.tookCtl (c : Conn) (p : Packet) : Conn :=
  c.setRx p.phase { c.rx p.phase with ctlHigh := max (c.rx p.phase).ctlHigh p.psn.toNat,
                                      ctlSeen := ((c.rx p.phase).ctlSeen ++ [p.psn.toNat]).filter fun x => max (c.rx p.phase).ctlHigh p.psn.toNat < x + 64 }

/-- The state after steps 1 to 3 for a control packet. -/
def State.rcvdCtl (s : State) (p : Packet) : State := (s.rcvd p).putConn (cmnIx p) ((s.conn (cmnIx p)).tookCtl p)

theorem Conn.tookCtl_acks (c : Conn) (p : Packet) : c.Acks (c.tookCtl p) := by
  unfold Conn.tookCtl Conn.setRx
  split <;> rfl

theorem Conn.tookCtl_base (c : Conn) (p : Packet) (ph : Bool) : ((c.tookCtl p).rx ph).base = (c.rx ph).base := by
  unfold Conn.tookCtl Conn.setRx Conn.rx
  cases p.phase <;> cases ph <;> rfl

theorem State.rcvdCtl_conn (s : State) (p : Packet) : (s.rcvdCtl p).conn (cmnIx p) = (s.conn (cmnIx p)).tookCtl p := State.conn_putConn_same ..

theorem State.rcvdCtl_keeps (s : State) (p : Packet) : State.Keeps ⟨[.regs, .cmn], some [CMP.RX_FRAMES]⟩ s (s.rcvdCtl p) := (s.rcvd_keeps p).upd_cmn (by decide)

/-- A packet that passes steps 1 to 3 goes on to what its operation means. -/
theorem State.ingress_received {s : State} {p : Packet} {reliable : Bool} (hs : s.regsOk) (h : s.receives p reliable) (storm : State → Nat → State) (m : RxMsg) (k : State → Nat → State) :
    State.ingress storm false m s p reliable k = k (if reliable then s.rcvd p else s.rcvdCtl p) (cmnIx p) := by
  obtain ⟨fcs, sum, ver, fits, udp, ce, tag, run, serves, live, gen, sound, keyed, room, window⟩ := h
  rw [gen] at sound
  obtain ⟨run', serves'⟩ := State.rxCounted hs p.eport
  have state : ((s.conn (cmnIx p)).state == .opened || (s.conn (cmnIx p)).state == .closing || (s.conn (cmnIx p)).state == .down) = true := live
  have here : ((s.incMod CMP.RX_FRAMES 1 p.eport.val).conn (cmnIx p)) = s.conn (cmnIx p) := rfl
  have version : p.ver.toNat = 1 := by rw [ver]; rfl
  have behind : ((s.incMod CMP.RX_FRAMES 1 p.eport.val).putConn (cmnIx p) (s.conn (cmnIx p))).rxBehind false p = false := room
  have absent {l : List Nat} (new : p.psn.toNat ∉ l) : l.contains p.psn.toNat = false := by
    rw [← Bool.not_eq_true, List.contains_iff_mem]
    exact new
  unfold State.ingress
  cases reliable with
  | true =>
    obtain ⟨low, high, fresh⟩ := window
    simp only [fcs, sum, ce, tag, Bool.not_true, Bool.false_and, Bool.false_eq_true, if_false, run', run, serves', serves, Bool.or_self,
      show p.conn.toNat / 16 = cmnIx p from rfl, here, state, gen, version, udp, absent fresh, ne_eq, not_true_eq_false, decide_false, Bool.true_and, Nat.not_lt.mpr low, Nat.not_lt.mpr high,
      Nat.not_lt.mpr fits, keyed, behind, sound, if_true]
    rfl
  | false =>
    obtain ⟨low, fresh⟩ := window
    simp only [fcs, sum, ce, tag, Bool.not_true, Bool.not_false, Bool.false_and, Bool.false_eq_true, if_false, run', run, serves', serves, Bool.or_self,
      show p.conn.toNat / 16 = cmnIx p from rfl, here, state, gen, version, udp, absent fresh, ne_eq, not_true_eq_false, decide_false, Bool.true_and, Nat.not_le.mpr low,
      Nat.not_lt.mpr fits, keyed, behind, sound]
    rfl

end Sys2Proof.Machine
end

section
/-! SUPPORT. Cemanor: what sending on a connection leaves of the rest: other connections, the claim table, and the host ports but for the MSI-X bits of their functions. -/
namespace Sys2Proof.Machine

theorem State.conn_putConn_ne (s : State) {i j : Nat} (c : Conn) (ne : j ≠ i) : (s.putConn i c).conn j = s.conn j := by
  unfold State.conn State.putConn
  rw [tget_tset_ne _ _ ne]

/-- t has the claim table and the host ports of s, and its connections but for connection i. -/
structure State.Beside (i : Nat) (s t : State) : Prop where
  others : ∀ j, j ≠ i → t.conn j = s.conn j
  claims : t.cmn.claims = s.cmn.claims
  ports : t.hostSide = s.hostSide

namespace State.Beside
variable {i : Nat} {s t u : State}

protected theorem refl (i : Nat) (s : State) : s.Beside i s := ⟨fun _ _ => rfl, rfl, rfl⟩
protected theorem trans (h : s.Beside i t) (k : t.Beside i u) : s.Beside i u := ⟨fun j ne => (k.others j ne).trans (h.others j ne), k.claims.trans h.claims, k.ports.trans h.ports⟩
theorem of_cmn (cmn : t.cmn = s.cmn) (ports : t.hostSide = s.hostSide) : s.Beside i t := ⟨fun j _ => State.conn_of_cmn cmn j, congrArg CmnState.claims cmn, ports⟩

protected theorem ite {c : Prop} [Decidable c] (h : s.Beside i t) (k : s.Beside i u) : s.Beside i (if c then t else u) := by
  split
  · exact h
  · exact k

end State.Beside

section Steps
variable (s : State) (i : Nat)

theorem State.putConn_beside (c : Conn) : s.Beside i (s.putConn i c) := ⟨fun _ ne => s.conn_putConn_ne c ne, rfl, rfl⟩

theorem State.sendFrame_beside (op : Nat) (p : Packet) : s.Beside i (s.sendFrame op p) := ⟨fun j _ => s.sendFrame_conn op p j, rfl, rfl⟩

theorem State.sendCtl_beside (op : Nat) (path : Option Nat) (fill : Packet → Packet) : s.Beside i (s.sendCtl i op path fill) := by
  rcases s.sendCtl_cases i op path fill with e | ⟨way, e⟩
  · rw [e]
    exact .refl i s
  · rw [e]
    exact (s.putConn_beside i _).trans (State.sendFrame_beside ..)

theorem State.sendAck_beside (phase : Bool) (path : Option Nat) : s.Beside i (s.sendAck i phase path) := by
  unfold State.sendAck
  exact (s.putConn_beside i _).trans (State.sendCtl_beside ..)

theorem State.acceptPsn_beside (phase : Bool) (psn : Nat) : s.Beside i (s.acceptPsn i phase psn) := by
  rw [State.acceptPsn_eq]
  have put := s.putConn_beside i ((s.conn i).took phase psn)
  exact (put.trans (State.sendAck_beside ..)).ite put

theorem State.pump_beside (k : Nat) : s.Beside i (State.pump i k s) := by
  induction k generalizing s with
  | zero => exact .refl i s
  | succ k ih =>
    unfold State.pump
    dsimp only
    split
    · exact .refl i s
    · refine .ite (.refl i s) (.ite (.ite (.refl i s) (.of_cmn (State.blkErr_cmn ..) (State.blkErr_hostSide ..))) ?_)
      split
      · exact .refl i s
      · have sent (c : Conn) (op : Nat) (p : Packet) : s.Beside i ((s.putConn i c).sendFrame op p) := (s.putConn_beside i c).trans (State.sendFrame_beside ..)
        exact .ite (.refl i s) (State.Beside.trans (.ite ((sent ..).trans (.of_cmn (State.occur_cmn ..) (State.occur_hostSide ..))) (sent ..)) (ih _))

theorem State.cmnPump_beside : s.Beside i (s.cmnPump i) := State.pump_beside ..

/-- With nothing prepared, nothing is sent. -/
theorem State.cmnPump_idle {s : State} {i : Nat} (none : (s.conn i).txq = []) : s.cmnPump i = s := by
  unfold State.cmnPump
  rw [none]
  rfl

end Steps

theorem State.rcvd_beside (s : State) (p : Packet) : s.Beside (cmnIx p) (s.rcvd p) := ⟨fun _ ne => State.conn_putConn_ne (s.incMod CMP.RX_FRAMES 1 p.eport.val) _ ne, rfl, rfl⟩

theorem State.rcvdCtl_beside (s : State) (p : Packet) : s.Beside (cmnIx p) (s.rcvdCtl p) := (s.rcvd_beside p).trans (State.putConn_beside ..)

theorem State.tookPkt_beside (s : State) (p : Packet) : s.Beside (cmnIx p) (s.tookPkt p) := (s.rcvd_beside p).trans (State.acceptPsn_beside ..)

/-! ## Messages at the initiator -/

/-- A connection has no message of a number open at the initiator. -/
@[reducible] def Conn.lacks (c : Conn) (msn : Nat) : Prop := ∀ n ∈ c.inits, n.msn ≠ msn

theorem Conn.Pumped.inits {c d : Conn} (h : c.Pumped d) : d.inits = c.inits := by rw [h.rest]

section Start
variable (s : State) (j : Nat) (who : InitBy) (read flagged : Bool) (rkey off total : Nat) (pk : Conn → Nat → List TxPkt)

theorem State.msgStart_beside : s.Beside j (s.msgStart j who read flagged rkey off total pk).1 := by
  unfold State.msgStart
  dsimp only
  split
  · exact .refl j s
  · exact (s.putConn_beside j _).trans (State.cmnPump_beside ..)

/-- Starting a message opens none of a number that is not the next. -/
theorem State.msgStart_lacks {i msn : Nat} (lacks : (s.conn i).lacks msn) (next : (s.conn i).txMsn ≠ msn) :
    ((s.msgStart j who read flagged rkey off total pk).1.conn i).lacks msn := by
  by_cases here : i = j
  · subst here
    unfold State.msgStart
    dsimp only
    split
    · exact lacks
    · have pumped (c : Conn) : (((s.putConn i c).cmnPump i).conn i).inits = c.inits := by
        have sent := ((s.putConn i c).cmnPump_conn i).inits
        rw [State.conn_putConn_same] at sent
        exact sent
      intro n hn
      rw [pumped] at hn
      rcases List.mem_append.mp hn with old | new
      · exact lacks n old
      · rw [List.mem_singleton.mp new]
        exact next
  · rw [(s.msgStart_beside ..).others i here]
    exact lacks

end Start

end Sys2Proof.Machine
end

section
/-! SUPPORT. Cemanor: the end of a forwarded access (R81, R122, R442): the list of forwards lets it go, and what is sent next opens no message of another number. -/
namespace Sys2Proof.Machine

/-- t has Cemanor and the forwarded accesses of s. -/
structure State.Tells (s t : State) : Prop where
  cmn : t.cmn = s.cmn
  forwards : t.hp.forwards = s.hp.forwards

namespace State.Tells
variable {s t u : State}

protected theorem refl (s : State) : s.Tells s := ⟨rfl, rfl⟩
protected theorem trans (h : s.Tells t) (k : t.Tells u) : s.Tells u := ⟨k.cmn.trans h.cmn, k.forwards.trans h.forwards⟩
theorem of_ports (cmn : t.cmn = s.cmn) (ports : t.hostSide = s.hostSide) : s.Tells t := ⟨cmn, (congrArg HpState.forwards ports :)⟩

protected theorem ite {c : Prop} [Decidable c] (h : s.Tells t) (k : s.Tells u) : s.Tells (if c then t else u) := by
  split
  · exact h
  · exact k

end State.Tells

section Steps
variable (s : State)

theorem State.occur_tells (p : Page) (i v : Nat) (pl : List Byte) : s.Tells (s.occur p i v pl) := .of_ports (State.occur_cmn ..) (State.occur_hostSide ..)
theorem State.blkErr_tells (p : Page) (k v : Nat) (pl : List Byte) (c : Option Capture) : s.Tells (s.blkErr p k v pl c) := .of_ports (State.blkErr_cmn ..) (State.blkErr_hostSide ..)

theorem State.logEvent_tells (port ld log : Nat) (module : Bool) (kind : String) (dpa win st : Nat) : s.Tells (s.logEvent port ld log module kind dpa win st) := by
  have put (x : LdState) : s.Tells (s.putLd port ld x) := ⟨rfl, rfl⟩
  have raised (t : State) (v : Nat) : t.Tells (t.raiseVector port ld false v) := .of_ports (State.raiseVector_cmn ..) (State.raiseVector_hostSide ..)
  have full (c : Prop) [Decidable c] (x : LdState) : s.Tells (if c then (s.putLd port ld x).blkErr (hpPage port) 18 4 else s.putLd port ld x) :=
    .ite ((put x).trans (State.blkErr_tells ..)) (put x)
  unfold State.logEvent
  exact .ite ((full ..).trans (raised ..)) (full ..)

theorem State.cxlRecord_tells (port ld win dpa : Nat) (st : Option Status) : s.Tells (s.cxlRecord port ld win dpa st) := by
  unfold State.cxlRecord
  exact .ite ((s.logEvent_tells ..).trans ⟨rfl, rfl⟩) (s.logEvent_tells ..)

theorem State.cxlRefuse_tells (port ld win dpa : Nat) (st : Option Status) : s.Tells (s.cxlRefuse port ld win dpa st) := by
  have counted : s.Tells (s.inc HP.REFUSE_CNT 1 port) := ⟨rfl, rfl⟩
  exact (counted.trans (State.occur_tells ..)).trans (State.cxlRecord_tells ..)

theorem State.cxlData_tells (port ld tag : Nat) (v : SectorVal) : s.Tells (s.cxlData port ld tag v) := by
  unfold State.cxlData
  have counted : s.Tells (if v.poison then s.inc HP.POISON_CNT 1 port else s) := .ite ⟨rfl, rfl⟩ (.refl s)
  exact counted.trans ⟨rfl, rfl⟩

theorem State.inval_tells (scope index : Nat) (w : InvalFor) : s.Tells (s.inval scope index w) := by
  have busy := s.blkErr_tells xltPage 16 4 [] none
  unfold State.inval
  exact .ite (.refl s) (.ite ⟨rfl, rfl⟩ (.ite ⟨rfl, rfl⟩ (.ite busy (busy.trans ⟨rfl, rfl⟩))))

end Steps

/-- No forwarded access of a name is under way. -/
def State.forwardsNone (s : State) (port ld tag : Nat) : Prop := ∀ f ∈ s.hp.forwards, ¬ (f.port = port ∧ f.ld = ld ∧ f.tag = tag)

theorem State.forwardsNone.of_forwards {s t : State} {port ld tag : Nat} (h : s.forwardsNone port ld tag) (e : t.hp.forwards = s.hp.forwards) : t.forwardsNone port ld tag := by
  unfold State.forwardsNone
  rw [e]
  exact h

theorem State.dropForward_none (s : State) (port ld tag : Nat) : (s.dropForward port ld tag).forwardsNone port ld tag := by
  intro f hf same
  have other := (List.mem_filter.mp hf).2
  simp [same] at other

/-- What the end of a message may do to the connections and to the forwarded accesses: no message of the number is open, the claims are as before, no access of the name is under way. -/
structure State.LetsGo (s t : State) (i msn : Nat) : Prop where
  lacks : (s.conn i).lacks msn → (s.conn i).txMsn ≠ msn → (t.conn i).lacks msn
  claims : t.cmn.claims = s.cmn.claims
  forwards : ∀ port ld tag, s.forwardsNone port ld tag → t.forwardsNone port ld tag

theorem State.LetsGo.of_tells {s t : State} (h : s.Tells t) (i msn : Nat) : s.LetsGo t i msn := by
  refine ⟨fun lacks _ => ?_, congrArg CmnState.claims h.cmn, fun _ _ _ none => none.of_forwards h.forwards⟩
  rw [State.conn_of_cmn h.cmn]
  exact lacks

theorem State.LetsGo.tells {s t u : State} {i msn : Nat} (h : s.Tells t) (k : t.LetsGo u i msn) : s.LetsGo u i msn := by
  refine ⟨fun lacks next => ?_, k.claims.trans (congrArg CmnState.claims h.cmn), fun port ld tag none => k.forwards port ld tag (none.of_forwards h.forwards)⟩
  rw [← State.conn_of_cmn h.cmn] at lacks next
  exact k.lacks lacks next

theorem State.msgStart_letsGo (s : State) (j : Nat) (who : InitBy) (read flagged : Bool) (rkey off total : Nat) (pk : Conn → Nat → List TxPkt) (i msn : Nat) :
    s.LetsGo (s.msgStart j who read flagged rkey off total pk).1 i msn := by
  have beside := s.msgStart_beside j who read flagged rkey off total pk
  exact ⟨s.msgStart_lacks j who read flagged rkey off total pk, beside.claims, fun _ _ _ none => none.of_forwards (congrArg HpState.forwards beside.ports :)⟩

theorem State.forwardNext_letsGo (s : State) (port ld dpa i msn : Nat) : s.LetsGo (s.forwardNext port ld dpa) i msn := by
  have stays : s.LetsGo s i msn := .of_tells (.refl s) i msn
  unfold State.forwardNext
  split
  · rename_i f _
    split
    · rename_i d en poison w _ _
      dsimp only
      generalize sent : (if en == BitVec.allOnes 64 then _ else _ : State × Option Nat) = r
      have started : s.LetsGo r.1 i msn := by
        rw [← sent]
        split
        · exact s.msgStart_letsGo ..
        · exact s.msgStart_letsGo ..
      refine ⟨started.lacks, started.claims, fun port ld tag none g hg => ?_⟩
      obtain ⟨x, hx, rfl⟩ := List.mem_map.mp hg
      have away := started.forwards port ld tag none x hx
      split
      · exact away
      · exact away
    · exact stays
  · exact stays

/-! ## The stages of the end of a forwarded access -/

/-- The record of how it ended (R81, R122). -/
def State.forwardTold (s : State) (port ld : Nat) (f : Forward) (st : Status) (refused : Bool) : State :=
  if st.good then (if st = .okSubstituted then s.cxlRecord port ld f.window f.dpa (some st) else s)
  else if refused then s.cxlRefuse port ld f.window f.dpa (some st) else s.cxlRecord port ld f.window f.dpa (some st)

/-- The window of a key that is stale or revoked is taken out of use (R442). -/
def State.windowOff (s : State) (f : Forward) : State := { s with xlt.windows := tmod s.xlt.windows f.window fun d => windowSeal { d with state := 2 } }

def State.forwardSealed (s : State) (port : Nat) (f : Forward) (st : Status) : State :=
  if st = .keyRevoked ∨ st = .keyStale then ((s.occur (hpPage port) 32 4 (le 2 f.window ++ le 1 st.code)).windowOff f).inval 3 f.window (.window f.window) else s

/-- Its Cmp no longer waits for it. -/
def State.cmpFree (s : State) (port ld tag : Nat) : State :=
  { s with hp.cmps := s.hp.cmps.map fun c => if c.port = port ∧ c.ld = ld ∧ c.tag = tag then { c with foreign := none } else c }

/-- The data of a read, or the next write of its sector. -/
def State.forwardAnswered (s : State) (port ld tag : Nat) (f : Forward) (st : Status) (v : SectorVal) : State :=
  if f.read then s.cxlData port ld tag (if st.good && st != .okSubstituted then v else poisonSec) else (s.cmpFree port ld tag).forwardNext port ld f.dpa

theorem State.forwardEnd_found {s : State} {port ld tag : Nat} {f : Forward} (h : (s.hp.forwards.find? fun f => f.port == port && f.ld == ld && f.tag == tag) = some f)
    (st : Status) (v : SectorVal) (refused : Bool) :
    s.forwardEnd port ld tag st v refused = (((s.dropForward port ld tag).forwardTold port ld f st refused).forwardSealed port f st).forwardAnswered port ld tag f st v := by
  unfold State.forwardEnd
  rw [h]
  rfl

theorem State.forwardTold_tells (s : State) (port ld : Nat) (f : Forward) (st : Status) (refused : Bool) : s.Tells (s.forwardTold port ld f st refused) := by
  unfold State.forwardTold
  exact .ite (.ite (s.cxlRecord_tells ..) (.refl s)) (.ite (s.cxlRefuse_tells ..) (s.cxlRecord_tells ..))

theorem State.forwardSealed_tells (s : State) (port : Nat) (f : Forward) (st : Status) : s.Tells (s.forwardSealed port f st) := by
  have off (t : State) : t.Tells (t.windowOff f) := ⟨rfl, rfl⟩
  unfold State.forwardSealed
  exact .ite (((s.occur_tells ..).trans (off _)).trans (State.inval_tells ..)) (.refl s)

theorem State.forwardAnswered_letsGo (s : State) (port ld tag : Nat) (f : Forward) (st : Status) (v : SectorVal) (i msn : Nat) : s.LetsGo (s.forwardAnswered port ld tag f st v) i msn := by
  have free : s.Tells (s.cmpFree port ld tag) := ⟨rfl, rfl⟩
  unfold State.forwardAnswered
  split
  · exact .of_tells (s.cxlData_tells ..) i msn
  · exact .tells free (State.forwardNext_letsGo ..)

theorem State.forwardEnd_letsGo (s : State) (port ld tag : Nat) (st : Status) (v : SectorVal) (refused : Bool) (i msn : Nat) :
    (s.forwardEnd port ld tag st v refused).forwardsNone port ld tag ∧ s.LetsGo (s.forwardEnd port ld tag st v refused) i msn := by
  cases found : s.hp.forwards.find? fun f => f.port == port && f.ld == ld && f.tag == tag with
  | none =>
    have same : s.forwardEnd port ld tag st v refused = s := by
      unfold State.forwardEnd
      rw [found]
    rw [same]
    refine ⟨fun f hf ⟨p, l, g⟩ => List.find?_eq_none.mp found f hf ?_, .of_tells (.refl s) i msn⟩
    simp [p, l, g]
  | some f =>
    have ends := State.LetsGo.tells (((s.dropForward port ld tag).forwardTold_tells port ld f st refused).trans (State.forwardSealed_tells _ port f st)) (State.forwardAnswered_letsGo _ port ld tag f st v i msn)
    rw [← State.forwardEnd_found found st v refused] at ends
    exact ⟨ends.forwards port ld tag (s.dropForward_none port ld tag), ends.lacks, ends.claims, fun p l g none => ends.forwards p l g fun x hx => none x (List.mem_filter.mp hx).1⟩

end Sys2Proof.Machine
end

section
/-! SUPPORT. The command and the step that a message of the initiator belongs to: what settling leaves of them, and what the end of the message makes of the step (R183). -/
namespace Sys2Proof.Machine

/-! ## Commands by queue and CMD_ID -/

/-- A change of every command that keeps its name finds the same command, changed. -/
theorem find?_map_named {f : Cmd → Cmd} (named : ∀ x, (f x).qid = x.qid ∧ (f x).cmdId = x.cmdId) {l : List Cmd} {q c : Nat} {x : Cmd}
    (found : (l.find? fun x => x.qid == q && x.cmdId == c) = some x) : ((l.map f).find? fun x => x.qid == q && x.cmdId == c) = some (f x) := by
  have same : ((fun x : Cmd => x.qid == q && x.cmdId == c) ∘ f) = fun x => x.qid == q && x.cmdId == c :=
    funext fun x => by simp only [Function.comp_apply, (named x).1, (named x).2]
  rw [List.find?_map, same, found]
  rfl

theorem State.cmd_modCmd {s : State} {q c : Nat} {x : Cmd} (found : s.cmd q c = some x) {f : Cmd → Cmd} (named : ∀ x, (f x).qid = x.qid ∧ (f x).cmdId = x.cmdId) :
    (s.modCmd q c f).cmd q c = some (f x) := by
  have name := List.find?_some (p := fun x : Cmd => x.qid == q && x.cmdId == c) found
  rw [Bool.and_eq_true, beq_iff_eq, beq_iff_eq] at name
  have changed := find?_map_named (f := fun x => if x.qid = q ∧ x.cmdId = c then f x else x) (fun x => by split; exacts [named x, ⟨rfl, rfl⟩]) found
  rw [if_pos name] at changed
  exact changed

theorem State.cmd_of_qe {s t : State} (h : t.qe = s.qe) (q c : Nat) : t.cmd q c = s.cmd q c := by
  unfold State.cmd
  rw [h]

/-! ## Settling -/

/-- What settling may change of a command: its result, and with STOP set the steps that do not go on (R181). -/
theorem Cmd.settle_cases (x : Cmd) : ∃ l r, x.settle = { x with steps := l, result := r } ∧ (∀ y ∈ l, y ∈ x.steps) ∧ (x.stop = false → l = x.steps) := by
  have kept : ∃ l, (if x.stop then { x with steps := x.steps.filter x.goesOn } else x) = { x with steps := l } ∧ (∀ y ∈ l, y ∈ x.steps) ∧ (x.stop = false → l = x.steps) := by
    split
    · rename_i stop
      exact ⟨_, rfl, fun _ h => (List.mem_filter.mp h).1, fun goes => by rw [goes] at stop; cases stop⟩
    · exact ⟨x.steps, rfl, fun _ h => h, fun _ => rfl⟩
  obtain ⟨l, e, mem, same⟩ := kept
  unfold Cmd.settle
  split
  · exact ⟨x.steps, x.result, rfl, fun _ h => h, fun _ => rfl⟩
  · dsimp only
    rw [e]
    split
    · exact ⟨l, _, rfl, mem, same⟩
    · exact ⟨l, x.result, rfl, mem, same⟩

theorem Cmd.settle_named (x : Cmd) : x.settle.qid = x.qid ∧ x.settle.cmdId = x.cmdId := by
  obtain ⟨l, r, e, -⟩ := x.settle_cases
  rw [e]
  exact ⟨rfl, rfl⟩

theorem Cmd.settle_stop (x : Cmd) : x.settle.stop = x.stop := by
  obtain ⟨l, r, e, -⟩ := x.settle_cases
  rw [e]

/-- Settling leaves the steps of a command that has no STOP. -/
theorem Cmd.settle_step {x : Cmd} (goes : x.stop = false) (k : Nat) : x.settle.step k = x.step k := by
  obtain ⟨l, r, e, -, same⟩ := x.settle_cases
  rw [e, same goes]
  rfl

/-- A step is complete and no longer claimed. -/
@[reducible] def Cmd.passed (x : Cmd) (k : Nat) : Prop := x.step k = none ∧ (k < x.low ∨ k ∈ x.complete)

theorem Cmd.settle_passed {x : Cmd} {k : Nat} (h : x.passed k) : x.settle.passed k := by
  obtain ⟨l, r, e, mem, -⟩ := x.settle_cases
  rw [e]
  exact ⟨List.find?_eq_none.mpr fun y hy => List.find?_eq_none.mp h.1 y (mem y hy), h.2⟩

theorem Cmd.complete1_passed (x : Cmd) (k : Nat) : (x.complete1 k).passed k := by
  have gone : (x.complete1 k).step k = none := List.find?_eq_none.mpr fun y hy same => by
    have other := (List.mem_filter.mp hy).2
    rw [beq_iff_eq.mp same, bne_self_eq_false] at other
    cases other
  refine ⟨gone, ?_⟩
  have done : k ∈ if x.complete.contains k then x.complete else x.complete ++ [k] := by
    split
    · exact List.contains_iff_mem.mp ‹_›
    · exact List.mem_append_right _ (List.mem_singleton.mpr rfl)
  rcases Nat.lt_or_ge k (x.complete1 k).low with low | high
  · exact .inl low
  · exact .inr (List.mem_filter.mpr ⟨done, decide_eq_true high⟩)

theorem Cmd.step_index {x : Cmd} {k : Nat} {r : StepRec} (h : x.step k = some r) : r.index = k := beq_iff_eq.mp (List.find?_some (p := fun r : StepRec => r.index == k) h)

theorem Cmd.step_setStep (x : Cmd) {r : StepRec} {k : Nat} (index : r.index = k) : (x.setStep r).step k = some r := by
  subst index
  have before : (x.steps.filter fun y => y.index != r.index).find? (fun y => y.index == r.index) = none := List.find?_eq_none.mpr fun y hy same => by
    have other := (List.mem_filter.mp hy).2
    rw [beq_iff_eq.mp same, bne_self_eq_false] at other
    cases other
  unfold Cmd.setStep Cmd.step
  rw [List.find?_append, before, List.find?_cons_of_pos (p := fun y : StepRec => y.index == r.index) (beq_self_eq_true _)]
  rfl

theorem State.cmd_movSettle {s : State} {q c : Nat} {x : Cmd} (found : s.cmd q c = some x) : s.movSettle.cmd q c = some x.settle := by
  unfold State.cmd
  rw [State.movSettle_cmds]
  exact find?_map_named Cmd.settle_named found

/-! ## The end of a step's message (R183, Table 6-2) -/

section Message
variable {s : State} {q c k : Nat} {x : Cmd} {r : StepRec} (found : s.cmd q c = some x) (step : x.step k = some r)
include found step

theorem State.step_found : ((s.cmd q c).bind fun x => x.step k) = some r := by
  rw [found]
  exact step

/-- A write that the target has answered completes its step. -/
theorem State.stepMessage_written (data : Table SectorVal) : ∃ y, (s.stepMessage q c k .ok data false).cmd q c = some y ∧ y.passed k := by
  have ends : s.stepMessage q c k .ok data false = (s.modCmd q c fun x => { (x.complete1 k) with slow := x.slow.worse .ok }).movSettle := by
    unfold State.stepMessage
    rw [State.step_found found step]
    rfl
  rw [ends]
  exact ⟨_, State.cmd_movSettle (State.cmd_modCmd found fun _ => ⟨rfl, rfl⟩), Cmd.settle_passed (x.complete1_passed k)⟩

/-- The data of a read make their step ready to be placed. -/
theorem State.stepMessage_read (data : Table SectorVal) (goes : x.stop = false) :
    ∃ y, (s.stepMessage q c k .ok data true).cmd q c = some y ∧ y.stop = false ∧ y.step k = some { r with state := .ready, got := data } := by
  have ends : s.stepMessage q c k .ok data true = (s.modCmd q c fun x => { (x.setStep { r with state := .ready, got := data }) with slow := x.slow.worse .ok }).movSettle := by
    unfold State.stepMessage
    rw [State.step_found found step]
    rfl
  rw [ends]
  refine ⟨_, State.cmd_movSettle (State.cmd_modCmd found fun _ => ⟨rfl, rfl⟩), (Cmd.settle_stop _).trans goes, ?_⟩
  rw [Cmd.settle_step (x := { (x.setStep { r with state := .ready, got := data }) with slow := x.slow.worse .ok }) goes]
  have index := Cmd.step_index step
  exact x.step_setStep (r := { r with state := .ready, got := data }) index

/-- A message that has timed out the first time makes its step ready to run again. -/
theorem State.stepMessage_again (data : Table SectorVal) (read : Bool) (goes : x.stop = false) (first : r.remoteRetry = false) :
    ∃ y, (s.stepMessage q c k .timeout data read).cmd q c = some y ∧ y.stop = false ∧ y.step k = some { r with state := .ready, remoteRetry := true } := by
  have ends : ∃ u : State, u.qe = s.qe ∧ s.stepMessage q c k .timeout data read = (u.modCmd q c fun x => x.setStep { r with state := .ready, remoteRetry := true }).movSettle := by
    refine ⟨s.moverFault r.ran 0xA Status.timeout.code (x.cmd.stepStart k), rfl, ?_⟩
    unfold State.stepMessage
    rw [State.step_found found step, found]
    simp [first, Status.good]
  obtain ⟨u, qe, ends⟩ := ends
  rw [ends]
  refine ⟨_, State.cmd_movSettle (State.cmd_modCmd ((State.cmd_of_qe qe q c).trans found) fun _ => ⟨rfl, rfl⟩), (Cmd.settle_stop _).trans goes, ?_⟩
  rw [Cmd.settle_step (x := x.setStep { r with state := .ready, remoteRetry := true }) goes]
  have index := Cmd.step_index step
  exact x.step_setStep (r := { r with state := .ready, remoteRetry := true }) index

end Message

end Sys2Proof.Machine
end

section
/-! SUPPORT. Cemanor: the end of a message at the initiator (R440, R441): it leaves its connection, a refusal is counted, and its step or its forwarded access ends. -/
namespace Sys2Proof.Machine

/-- A connection without a message, and without what is prepared of it. -/
def Conn.initGone (c : Conn) (msn : Nat) : Conn :=
  { c with inits := c.inits.filter (fun x => x.msn != msn), txq := c.txq.filter fun x => opResp x.op || x.pkt.msn.toNat != msn }

theorem Conn.initGone_lacks (c : Conn) (msn : Nat) : (c.initGone msn).lacks msn := fun n hn => by
  have other := (List.mem_filter.mp hn).2
  exact bne_iff_ne.mp other

/-- A refusal is reported and counted (R436). -/
def State.initTold (s : State) (i : Nat) (m : InitMsg) (st : Status) (refused : Bool) : State :=
  if refused && violation st then
    (s.misc cmePage 4 (le 1 st.code ++ le 3 i ++ le 3 (s.conn i).desc.peerNode.toNat ++ le 4 m.rkey ++ le 4 m.msn ++ le 5 m.off)).inc CME.VIOL_RX 1 4
  else s

/-- The bytes of a message that have come, zero where none has; and whether its sector at a place is poisoned. -/
def InitMsg.bytes (m : InitMsg) : List Byte :=
  m.got.foldl (fun (a : List Byte) (x : Nat × List Byte × BitVec 128) => a.take x.1 ++ x.2.1 ++ a.drop (x.1 + x.2.1.length)) (List.replicate m.total 0)
def InitMsg.bad (m : InitMsg) (span a : Nat) : Bool := m.got.any fun x => x.1 < a + 64 && a < x.1 + x.2.1.length && x.2.2.getLsbD ((m.off + a) % span / 64)

/-- The sectors of a message that has come whole, from a place on. -/
def InitMsg.sectors (m : InitMsg) (span start : Nat) : Table SectorVal :=
  (spread start m.bytes).map fun (x : Nat × Sector × BitVec 64) => (x.1, { data := x.2.1, poison := m.bad span (max x.1 start - start) })

/-- The size of a data span of a connection (R419). -/
def Conn.span (c : Conn) : Nat := 2 ^ c.desc.dataLog2.toNat

/-- The step or the forwarded access of a message ends with it. -/
def State.initDone (s : State) (span : Nat) (m : InitMsg) (st : Status) (refused : Bool) : State :=
  match m.who with
  | .foreign p l t => s.forwardEnd p l t st { data := ofSecBytes m.bytes, poison := m.bad span 0 } refused
  | .step q c k => s.stepMessage q c k st (m.sectors span (match s.cmd q c with | some x => x.cmd.stepStart k | none => 0)) m.read

/-- The state in which a message has left its connection and a refusal is counted. -/
def State.initLeft (s : State) (i : Nat) (m : InitMsg) (st : Status) (refused : Bool) : State := (s.modConn i fun c => c.initGone m.msn).initTold i m st refused

theorem State.initEnd_eq (s : State) (i : Nat) (m : InitMsg) (st : Status) (refused : Bool) :
    s.initEnd i m st refused = ((s.initLeft i m st refused).initDone ((s.initLeft i m st refused).conn i).span m st refused).cmnPump i := by
  unfold State.initEnd State.initDone
  cases m.who <;> rfl

section Told
variable (s : State) (i : Nat) (m : InitMsg) (st : Status) (refused : Bool)

theorem State.initTold_tells : s.Tells (s.initTold i m st refused) := by
  unfold State.initTold State.misc
  exact .ite ((s.occur_tells ..).trans ⟨rfl, rfl⟩) (.refl s)

theorem State.initTold_qe : (s.initTold i m st refused).qe = s.qe := by
  unfold State.initTold
  split
  · exact State.misc_qe ..
  · rfl

theorem State.initLeft_conn : (s.initLeft i m st refused).conn i = (s.conn i).initGone m.msn := by
  unfold State.initLeft
  rw [State.conn_of_cmn (State.initTold_tells ..).cmn, State.conn_modConn]

theorem State.initLeft_claims : (s.initLeft i m st refused).cmn.claims = s.cmn.claims := by
  unfold State.initLeft
  rw [(State.initTold_tells ..).cmn]
  rfl

theorem State.initDone_step_cmn (span : Nat) {q c k : Nat} (who : m.who = .step q c k) : (s.initDone span m st refused).cmn = s.cmn := by
  unfold State.initDone
  rw [who]
  exact (State.stepMessage_keeps _ q c k st _ m.read).kept .cmn (by decide)

theorem State.initLeft_cmd (q c : Nat) : (s.initLeft i m st refused).cmd q c = s.cmd q c := State.cmd_of_qe ((State.initTold_qe ..).trans rfl) q c

/-- The end of a message, whoever started it, leaves the claims; and where its number is not the next, no message of its number is open. -/
theorem State.initDone_connections (span : Nat) {i msn : Nat} (lacks : (s.conn i).lacks msn) (next : (s.conn i).txMsn ≠ msn) :
    ((s.initDone span m st refused).conn i).lacks msn ∧ (s.initDone span m st refused).cmn.claims = s.cmn.claims := by
  cases who : m.who with
  | foreign p l t =>
    have ends := (s.forwardEnd_letsGo p l t st { data := ofSecBytes m.bytes, poison := m.bad span 0 } refused i msn).2
    unfold State.initDone
    rw [who]
    exact ⟨ends.lacks lacks next, ends.claims⟩
  | step q c k =>
    have same := s.initDone_step_cmn m st refused span who
    rw [State.conn_of_cmn same]
    exact ⟨lacks, congrArg CmnState.claims same⟩

theorem State.initEnd_connections (next : (s.conn i).txMsn ≠ m.msn) :
    ((s.initEnd i m st refused).conn i).lacks m.msn ∧ (s.initEnd i m st refused).cmn.claims = s.cmn.claims := by
  have left := s.initLeft_conn i m st refused
  obtain ⟨lacks, claims⟩ := State.initDone_connections (s.initLeft i m st refused) m st refused ((s.initLeft i m st refused).conn i).span (i := i) (msn := m.msn)
    (by rw [left]; exact Conn.initGone_lacks _ _) (by rw [left]; exact next)
  rw [State.initEnd_eq]
  refine ⟨?_, (State.cmnPump_beside ..).claims.trans (claims.trans (s.initLeft_claims ..))⟩
  unfold Conn.lacks
  rw [(State.cmnPump_conn ..).inits]
  exact lacks

end Told

/-- The forwarded access of a message is no longer under way once the message has ended. -/
theorem State.initEnd_foreign (s : State) (i : Nat) {m : InitMsg} (st : Status) (refused : Bool) {p l t : Nat} (who : m.who = .foreign p l t) :
    (s.initEnd i m st refused).forwardsNone p l t := by
  rw [State.initEnd_eq]
  refine State.forwardsNone.of_forwards ?_ (congrArg HpState.forwards (State.cmnPump_beside ..).ports :)
  unfold State.initDone
  rw [who]
  exact (State.forwardEnd_letsGo _ p l t st _ refused i m.msn).1

section Step
variable (s : State) (i : Nat) {m : InitMsg} (st : Status) (refused : Bool) {q c k : Nat} (who : m.who = .step q c k)
include who

/-- The end of a step's message takes it off its connection and leaves the claims. -/
theorem State.initEnd_step_conn : ((s.conn i).initGone m.msn).Pumped ((s.initEnd i m st refused).conn i) ∧ (s.initEnd i m st refused).cmn.claims = s.cmn.claims := by
  rw [State.initEnd_eq]
  generalize ((s.initLeft i m st refused).conn i).span = span
  have same := (s.initLeft i m st refused).initDone_step_cmn m st refused span who
  have sent := ((s.initLeft i m st refused).initDone span m st refused).cmnPump_conn i
  rw [State.conn_of_cmn same, s.initLeft_conn] at sent
  exact ⟨sent, (State.cmnPump_beside ..).claims.trans ((congrArg CmnState.claims same).trans (s.initLeft_claims ..))⟩

/-- The commands after the end of a step's message. -/
theorem State.initEnd_step_cmd {x : Cmd} (found : s.cmd q c = some x) :
    (s.initEnd i m st refused).cmd q c = ((s.initLeft i m st refused).stepMessage q c k st (m.sectors (s.conn i).span (x.cmd.stepStart k)) m.read).cmd q c := by
  rw [State.initEnd_eq, State.cmd_of_qe ((State.cmnPump_keeps ..).kept .qe (by decide))]
  unfold State.initDone
  rw [who]
  dsimp only
  rw [s.initLeft_cmd, found, s.initLeft_conn]
  rfl

end Step

end Sys2Proof.Machine
end

section
/-! SUPPORT. Cemanor: responses at the initiator (R437, R440): the claim check, refusals, and the data of a read. -/
namespace Sys2Proof.Machine

/-- A refusal of a message counts one in VIOL_RX. -/
theorem State.initEnd_counts {s : State} (hs : s.regsOk) (i : Nat) (m : InitMsg) {st : Status} (refusal : violation st = true) :
    (s.initEnd i m st true).get CME.VIOL_RX 4 = satAdd 32 (s.get CME.VIOL_RX 4) 1 := by
  generalize report : le 1 st.code ++ le 3 i ++ le 3 ((s.modConn i fun c => c.initGone m.msn).conn i).desc.peerNode.toNat ++ le 4 m.rkey ++ le 4 m.msn ++ le 5 m.off = l
  have told : s.initLeft i m st true = ((s.modConn i fun c => c.initGone m.msn).misc cmePage 4 l).inc CME.VIOL_RX 1 4 := by
    unfold State.initLeft State.initTold
    rw [report, refusal]
    rfl
  have before : s.Calm ((s.modConn i fun c => c.initGone m.msn).misc cmePage 4 l) := (s.putConn_calm i _).trans (State.Calm.of_rep (State.misc_rep _ (p := cmePage) (by decide) ..))
  have counted := State.get_inc_engine (before.ok hs) CME.VIOL_RX
  rw [before.get hs CME.VIOL_RX rfl (by decide), ← told] at counted
  have ok : (s.initLeft i m st true).regsOk := by
    rw [told]
    exact State.regsOk_inc (before.ok hs) _ _ _ _
  have done (span : Nat) : ((s.initLeft i m st true).initDone span m st true).regsOk ∧
      ((s.initLeft i m st true).initDone span m st true).get CME.VIOL_RX 4 = (s.initLeft i m st true).get CME.VIOL_RX 4 := by
    unfold State.initDone
    cases m.who with
    | foreign p l t =>
      have kept := (s.initLeft i m st true).forwardEnd_keeps p l t st { data := ofSecBytes m.bytes, poison := m.bad span 0 } true
      exact ⟨kept.ok ok, kept.get ok rfl (by decide) (by decide) 4⟩
    | step q c k =>
      have kept (data : Table SectorVal) := (s.initLeft i m st true).stepMessage_keeps q c k st data m.read
      exact ⟨(kept _).ok ok, (kept _).get ok rfl (by decide) (by decide) 4⟩
  rw [State.initEnd_eq, (State.cmnPump_calm ..).get (done _).1 CME.VIOL_RX rfl (by decide), (done _).2]
  exact counted

/-- The sector of a read of one sector. -/
theorem InitMsg.sectors_one {m : InitMsg} {data : List Byte} {poison : BitVec 128} (span : Nat) {start : Nat} (total : m.total = 64) (got : m.got = [(0, data, poison)])
    (length : data.length = 64) (aligned : start % 64 = 0) :
    m.sectors span start = [(start, { data := ofSecBytes data, poison := poison.getLsbD (m.off % span / 64) })] := by
  have bytes : m.bytes = data := by
    unfold InitMsg.bytes
    rw [got, total]
    show List.take 0 _ ++ data ++ List.drop (0 + data.length) (List.replicate 64 0) = data
    rw [length, List.drop_eq_nil_of_le (by rw [List.length_replicate]), List.take_zero, List.nil_append, List.append_nil]
  have bad : m.bad span 0 = poison.getLsbD (m.off % span / 64) := by
    unfold InitMsg.bad
    simp [got, length]
  unfold InitMsg.sectors
  rw [bytes, spread_one aligned length]
  show [(start, ({ data := ofSecBytes data, poison := m.bad span (max start start - start) } : SectorVal))] = _
  rw [Nat.max_self, Nat.sub_self, bad]

/-! ## The claim check (R440) -/

/-- The place of a packet's peer and claim group in the claim table. -/
def State.claimKey (s : State) (p : Packet) : Nat := (s.conn (cmnIx p)).desc.peerNode.toNat / 2 * 16 + p.grp.val

/-- The claim of it, 0 for none. -/
def State.claimAt (s : State) (key : Nat) : Nat := (tget s.cmn.claims key).getD 0

/-- The claim table after a response. -/
def State.claimed (s : State) (key claim : Nat) : State := if s.claimAt key < claim then { s with cmn.claims := tset s.cmn.claims key claim } else s

theorem State.claimed_conn (s : State) (key claim i : Nat) : (s.claimed key claim).conn i = s.conn i := by
  unfold State.claimed
  split <;> rfl

theorem State.claimed_regs (s : State) (key claim : Nat) : (s.claimed key claim).regs = s.regs ∧ (s.claimed key claim).unit = s.unit ∧ (s.claimed key claim).qe = s.qe := by
  unfold State.claimed
  split <;> exact ⟨rfl, rfl, rfl⟩

theorem State.claimed_at {s : State} {key claim : Nat} (high : s.claimAt key ≤ claim) : (s.claimed key claim).claimAt key = claim := by
  unfold State.claimed
  split
  · unfold State.claimAt
    show (tget (tset s.cmn.claims key claim) key).getD 0 = claim
    rw [tget_tset_same]
    rfl
  · omega

/-- No claim raises nothing. -/
theorem State.claimed_zero (s : State) (key : Nat) : s.claimed key 0 = s := if_neg (Nat.not_lt_zero _)

/-- A message of the initiator with the data of a packet (R440). -/
def InitMsg.add (m : InitMsg) (p : Packet) (st : Status) : InitMsg :=
  { m with got := m.got ++ [(p.moff.toNat, p.data, p.poison)], gotBytes := m.gotBytes + p.data.length, worst := m.worst.worse st }

/-- A connection with a message of the initiator put in the place of those of its number. -/
def Conn.initPut (c : Conn) (n : InitMsg) : Conn := { c with inits := c.inits.map fun x => if x.msn = n.msn then n else x }

theorem Conn.initPut_find {c : Conn} {msn : Nat} {m n : InitMsg} (found : (c.inits.find? fun m => m.msn == msn) = some m) (number : n.msn = msn) :
    ((c.initPut n).inits.find? fun m => m.msn == msn) = some n := by
  have same : ((fun m : InitMsg => m.msn == msn) ∘ fun x => if x.msn = n.msn then n else x) = fun m => m.msn == msn := funext fun x => by
    show ((if x.msn = n.msn then n else x).msn == msn) = (x.msn == msn)
    split
    · rw [‹x.msn = n.msn›]
    · rfl
  have here : m.msn = n.msn := (beq_iff_eq.mp (List.find?_some (p := fun m : InitMsg => m.msn == msn) found)).trans number.symm
  show (c.inits.map _).find? _ = _
  rw [List.find?_map, same, found]
  exact congrArg some (if_pos here)

/-- What a response that is taken does: a refusal or the answer to a write ends the message; data are added to a read, and the last of them end it. -/
def State.responded (s : State) (i : Nat) (p : Packet) (m : InitMsg) (st : Status) (read : Bool) : State :=
  if !st.good then s.initEnd i m st true
  else if !read then s.initEnd i m st false
  else
    let u := s.modConn i fun c => c.initPut (m.add p st)
    if m.total ≤ (m.add p st).gotBytes then u.initEnd i (m.add p st) (m.add p st).worst false else u

section Response
variable {s : State} {p : Packet} {m : InitMsg}

/-- A packet's acceptance leaves the messages, the claims and the commands. -/
theorem State.tookPkt_inits : ((s.tookPkt p).conn (cmnIx p)).inits = (s.conn (cmnIx p)).inits := by rw [(s.tookPkt_conn p).1]
theorem State.tookPkt_desc : ((s.tookPkt p).conn (cmnIx p)).desc = (s.conn (cmnIx p)).desc := by rw [(s.tookPkt_conn p).1]
theorem State.tookPkt_key : (s.tookPkt p).claimKey p = s.claimKey p := by
  unfold State.claimKey
  rw [State.tookPkt_desc]
theorem State.tookPkt_claimAt (key : Nat) : (s.tookPkt p).claimAt key = s.claimAt key := by
  unfold State.claimAt
  rw [(s.tookPkt_beside p).claims]

variable (found : ((s.conn (cmnIx p)).inits.find? fun m => m.msn == p.msn.toNat) = some m) (read : Bool)
include found

theorem State.found_msn : m.msn = p.msn.toNat := beq_iff_eq.mp (List.find?_some (p := fun m : InitMsg => m.msn == p.msn.toNat) found)

/-- A response with a lower claim is discarded and counted. -/
theorem State.response_stale (named : p.claim ≠ 0) (low : p.claim.toNat < s.claimAt (s.claimKey p)) :
    (s.rcvd p).response (cmnIx p) p read = (s.tookPkt p).inc CME.STALE_CLAIM_DROP 1 4 := by
  have some : p.claim.toNat ≠ 0 := fun zero => named (BitVec.eq_of_toNat_eq zero)
  rw [← State.tookPkt_claimAt (p := p), ← State.tookPkt_key] at low
  unfold State.claimAt State.claimKey at low
  unfold State.response
  rw [show (s.rcvd p).acceptPsn (cmnIx p) p.phase p.psn.toNat = s.tookPkt p from rfl]
  dsimp only
  rw [State.tookPkt_inits, found]
  dsimp only
  rw [if_neg (by simp [some]), if_pos (by simpa [some] using low)]

/-- A response whose claim is not below the claim table's, or a refusal without a claim, is taken. -/
theorem State.response_taken {st : Status} (status : Status.ofCode p.status.toNat = some st) (named : st.good = true → p.claim ≠ 0)
    (high : p.claim = 0 ∨ s.claimAt (s.claimKey p) ≤ p.claim.toNat) :
    (s.rcvd p).response (cmnIx p) p read = ((s.tookPkt p).claimed (s.claimKey p) p.claim.toNat).responded (cmnIx p) p m st read := by
  have zero : p.claim.toNat = 0 → st.good = false := fun zero => by
    cases good : st.good with
    | false => rfl
    | true => exact absurd (BitVec.eq_of_toNat_eq zero) (named good)
  have above : ¬ (p.claim.toNat ≠ 0 ∧ p.claim.toNat < s.claimAt (s.claimKey p)) := by
    rcases high with none | high
    · simp [none]
    · omega
  rw [← State.tookPkt_claimAt (p := p), ← State.tookPkt_key] at above
  unfold State.claimAt State.claimKey at above
  rw [← State.tookPkt_key]
  unfold State.response
  rw [show (s.rcvd p).acceptPsn (cmnIx p) p.phase p.psn.toNat = s.tookPkt p from rfl]
  dsimp only
  rw [State.tookPkt_inits, found]
  dsimp only
  rw [status, if_neg, if_neg (by simpa using above)]
  · rfl
  · intro ok
    simp only [Option.getD_some, Bool.and_eq_true, decide_eq_true_eq, Bool.or_eq_true] at ok
    have bad := zero ok.1
    rcases ok.2 with (rfl | rfl) | rfl <;> cases bad

end Response

end Sys2Proof.Machine
end

section
/-! SUPPORT. Cemanor: the clauses on responses (R440): claims, refusals, and READ_RESP. -/
namespace Sys2Proof.Machine

@[reducible] def initiatorParts : List Part := [.mov, .xlt, .qe, .tier, .cmn] ++ reported
@[reducible] def responseFields : List Fld :=
  [MOV.OFFLINE, MOV.STATE, CME.AUTH_FAIL, CME.LATE_PKT, CME.STALE_CLAIM_DROP, CME.VIOL_RX, CME.VIOL_TX, CMP.CE_MARKED, CMP.FCS_ERR, CMP.RX_DROP, CMP.RX_FRAMES, CMP.TX_FRAMES,
   HP.POISON_CNT, HP.REFUSE_CNT, MOV.FAULT_CNT, MOV.LAST_FCLASS, MOV.LAST_FOFF, MOV.LAST_STATUS, XLT.BUSY, CIP.AUTH_FAIL_CNT] ++ reportedFields

theorem State.response_frame {s : State} (hs : s.regsOk) (p : Packet) (read : Bool) : s.frame ((s.rcvd p).response (cmnIx p) p read).movSettle initiatorParts responseFields :=
  State.Keeps.frame (l := ⟨initiatorParts, some responseFields⟩)
    ((State.movSettle_keeps _).step ((State.response_keeps ..).step ((s.rcvd_keeps p).mono (by decide)) (by decide)) (by decide)) hs (by decide)

theorem State.movSettle_claims (s : State) : s.movSettle.cmn.claims = s.cmn.claims := congrArg CmnState.claims ((State.movSettle_keeps s).kept .cmn (by decide))

/-- A packet of a read that leaves others missing adds its data. -/
theorem State.responded_more {s : State} {i : Nat} {p : Packet} {m : InitMsg} (more : m.gotBytes + p.data.length < m.total) :
    s.responded i p m .ok true = s.modConn i fun c => c.initPut (m.add p .ok) :=
  if_neg (Nat.not_le.mpr more)

/-- The packet with which all data have come ends the read. -/
theorem State.responded_last {s : State} {i : Nat} {p : Packet} {m : InitMsg} (all : m.total ≤ (m.add p .ok).gotBytes) (worst : m.worst = .ok) :
    s.responded i p m .ok true = (s.modConn i fun c => c.initPut (m.add p .ok)).initEnd i (m.add p .ok) .ok false := by
  have fine : (m.add p .ok).worst = .ok := by
    unfold InitMsg.add
    rw [worst]
    rfl
  refine (if_pos all).trans ?_
  rw [fine]

section Responses
variable {s : State} {p : Packet} {m : InitMsg} (hs : s.regsOk) (h : s.receives p true)

section Received
include hs h

theorem exec_cmnWriteCmp : exec (.cmnWriteCmp p) s = .next ((s.rcvd p).response (cmnIx p) p false).movSettle :=
  congrArg (fun t : State => Host.Outcome.next t.movSettle) (State.ingress_received hs h State.authStorm (.writeCmp p) fun s i => s.response i p false)

theorem exec_cmnReadResp : exec (.cmnReadResp p) s = .next ((s.rcvd p).response (cmnIx p) p true).movSettle :=
  congrArg (fun t : State => Host.Outcome.next t.movSettle) (State.ingress_received hs h State.authStorm (.readResp p) fun s i => s.response i p true)

end Received

theorem Packet.status_ok (status : p.status = 0) : Status.ofCode p.status.toNat = some .ok := by
  rw [status]
  rfl

/-- What is known of the state in which a response is taken. -/
theorem State.claimed_took (claim : Nat) : ((s.tookPkt p).claimed (s.claimKey p) claim).conn (cmnIx p) = (s.tookPkt p).conn (cmnIx p) ∧
    ((s.tookPkt p).claimed (s.claimKey p) claim).qe = s.qe :=
  ⟨State.claimed_conn .., (State.claimed_regs ..).2.2.trans ((s.tookPkt_keeps p).kept .qe (by decide))⟩

variable (found : ((s.conn (cmnIx p)).inits.find? fun m => m.msn == p.msn.toNat) = some m)
include hs h found

theorem cmnWriteCmp_ends {q c k : Nat} {x : Cmd} {r : StepRec} (who : m.who = .step q c k) (write : m.read = false) (cmd : s.cmd q c = some x) (step : x.step k = some r)
    (status : p.status = 0) (named : p.claim ≠ 0) (high : s.claimAt (s.claimKey p) ≤ p.claim.toNat) :
    ∃ t, exec (.cmnWriteCmp p) s = .next t ∧ (t.conn (cmnIx p)).lacks p.msn.toNat ∧ (t.conn (cmnIx p)).accepted p ∧ t.claimAt (s.claimKey p) = p.claim.toNat ∧
      (∃ y, t.cmd q c = some y ∧ y.passed k) ∧ s.frame t initiatorParts responseFields := by
  have run := exec_cmnWriteCmp hs h
  have frame := State.response_frame hs p false
  rw [State.response_taken found false (Packet.status_ok status) (fun _ => named) (.inr high)] at run frame
  obtain ⟨conn, qe⟩ := State.claimed_took (s := s) (p := p) p.claim.toNat
  have raised := State.claimed_at (s := s.tookPkt p) (key := s.claimKey p) (claim := p.claim.toNat) (by rw [State.tookPkt_claimAt]; exact high)
  generalize (s.tookPkt p).claimed (s.claimKey p) p.claim.toNat = u at run frame conn qe raised
  change exec _ s = .next (u.initEnd (cmnIx p) m .ok false).movSettle at run
  obtain ⟨pumped, claims⟩ := u.initEnd_step_conn (cmnIx p) .ok false who
  have found' : u.cmd q c = some x := (State.cmd_of_qe qe q c).trans cmd
  obtain ⟨y, ends, passed⟩ := State.stepMessage_written (((u.initLeft_cmd (cmnIx p) m .ok false q c)).trans found') step (m.sectors (u.conn (cmnIx p)).span (x.cmd.stepStart k))
  have told := u.initEnd_step_cmd (cmnIx p) .ok false who found'
  rw [write, ends] at told
  refine ⟨_, run, ?_, ?_, ?_, ⟨_, State.cmd_movSettle told, Cmd.settle_passed passed⟩, frame⟩
  · rw [State.movSettle_conn]
    unfold Conn.lacks
    rw [pumped.inits, ← State.found_msn found]
    exact Conn.initGone_lacks _ _
  · rw [State.movSettle_conn]
    refine (s.tookPkt_conn p).2.of_rx ?_ ?_
    · rw [pumped.rest, ← conn]
      rfl
    · rw [pumped.rest, ← conn]
      rfl
  · unfold State.claimAt at raised ⊢
    rw [State.movSettle_claims, claims]
    exact raised

theorem cmnWriteCmp_stale (named : p.claim ≠ 0) (low : p.claim.toNat < s.claimAt (s.claimKey p)) :
    ∃ t, exec (.cmnWriteCmp p) s = .next t ∧ t.get CME.STALE_CLAIM_DROP 4 = satAdd 32 (s.get CME.STALE_CLAIM_DROP 4) 1 ∧ (t.conn (cmnIx p)).inits = (s.conn (cmnIx p)).inits ∧
      t.cmn.claims = s.cmn.claims ∧ s.frame t initiatorParts responseFields := by
  have run := exec_cmnWriteCmp hs h
  have frame := State.response_frame hs p false
  rw [State.response_stale found false named low] at run frame
  have ok := (s.tookPkt_calm p).ok hs
  refine ⟨_, run, ?_, ?_, ?_, frame⟩
  · rw [(State.movSettle_calm _).get (State.regsOk_inc ok _ _ _ _) CME.STALE_CLAIM_DROP rfl (by decide), State.get_inc_engine ok,
      (s.tookPkt_calm p).get hs CME.STALE_CLAIM_DROP rfl (by decide)]
    rfl
  · rw [State.movSettle_conn]
    exact State.tookPkt_inits
  · rw [State.movSettle_claims]
    exact (s.tookPkt_beside p).claims

theorem cmnWriteCmp_refused (none : p.claim = 0) (status : p.status.toNat = Status.keyStale.code) (next : (s.conn (cmnIx p)).txMsn ≠ p.msn.toNat) :
    ∃ t, exec (.cmnWriteCmp p) s = .next t ∧ t.get CME.VIOL_RX 4 = satAdd 32 (s.get CME.VIOL_RX 4) 1 ∧ (t.conn (cmnIx p)).lacks p.msn.toNat ∧ t.cmn.claims = s.cmn.claims ∧
      s.frame t initiatorParts responseFields := by
  have run := exec_cmnWriteCmp hs h
  have frame := State.response_frame hs p false
  have code : Status.ofCode p.status.toNat = some .keyStale := by
    rw [status]
    rfl
  rw [State.response_taken found false code (fun good => nomatch good) (.inl none), none] at run frame
  rw [show (0 : BitVec 64).toNat = 0 from rfl, State.claimed_zero] at run frame
  change exec _ s = .next ((s.tookPkt p).initEnd (cmnIx p) m .keyStale true).movSettle at run
  have calm := s.tookPkt_calm p
  have msn := State.found_msn found
  obtain ⟨lacks, claims⟩ := (s.tookPkt p).initEnd_connections (cmnIx p) m .keyStale true (by rw [(s.tookPkt_conn p).1, msn]; exact next)
  have ok := ((s.tookPkt p).initEnd_keeps (cmnIx p) m .keyStale true).ok (calm.ok hs)
  refine ⟨_, run, ?_, ?_, ?_, frame⟩
  · rw [(State.movSettle_calm _).get ok CME.VIOL_RX rfl (by decide), State.initEnd_counts (calm.ok hs) _ _ rfl, calm.get hs CME.VIOL_RX rfl (by decide)]
  · rw [State.movSettle_conn, ← msn]
    exact lacks
  · rw [State.movSettle_claims, claims]
    exact (s.tookPkt_beside p).claims

/-- The only packet of a read of one sector ends it: its step has the sector. -/
theorem cmnReadResp_ends {q c k : Nat} {x : Cmd} {r : StepRec} (who : m.who = .step q c k) (reads : m.read = true) (total : m.total = 64) (got : m.got = []) (bytes : m.gotBytes = 0)
    (worst : m.worst = .ok) (length : p.data.length = 64) (first : p.moff = 0) (cmd : s.cmd q c = some x) (step : x.step k = some r) (goes : x.stop = false) (aligned : x.cmd.stepStart k % 64 = 0)
    (status : p.status = 0) (named : p.claim ≠ 0) (high : s.claimAt (s.claimKey p) ≤ p.claim.toNat) :
    ∃ t, exec (.cmnReadResp p) s = .next t ∧ (t.conn (cmnIx p)).lacks p.msn.toNat ∧
      (∃ y, t.cmd q c = some y ∧ y.step k = some { r with state := .ready, got := [(x.cmd.stepStart k, { data := ofSecBytes p.data, poison := p.poison.getLsbD (m.off % (s.conn (cmnIx p)).span / 64) })] }) ∧
      s.frame t initiatorParts responseFields := by
  have run := exec_cmnReadResp hs h
  have frame := State.response_frame hs p true
  rw [State.response_taken found true (Packet.status_ok status) (fun _ => named) (.inr high)] at run frame
  obtain ⟨conn, qe⟩ := State.claimed_took (s := s) (p := p) p.claim.toNat
  generalize (s.tookPkt p).claimed (s.claimKey p) p.claim.toNat = u at run frame conn qe
  have all := State.responded_last (s := u) (i := cmnIx p) (p := p) (m := m) (by unfold InitMsg.add; rw [total, bytes, length]) worst
  rw [all] at run frame
  have one : (m.add p .ok).got = [(0, p.data, p.poison)] := by
    unfold InitMsg.add
    rw [got, first]
    rfl
  generalize held : (u.modConn (cmnIx p) fun c => c.initPut (m.add p .ok)) = w at run frame
  have here : w.conn (cmnIx p) = ((s.tookPkt p).conn (cmnIx p)).initPut (m.add p .ok) := by rw [← held, State.conn_modConn, conn]
  have span : (w.conn (cmnIx p)).span = (s.conn (cmnIx p)).span := by
    unfold Conn.span
    rw [here, ← State.tookPkt_desc]
    rfl
  have found' : w.cmd q c = some x := by
    rw [← held]
    exact (State.cmd_of_qe (t := u.modConn (cmnIx p) fun c => c.initPut (m.add p .ok)) qe q c).trans cmd
  obtain ⟨pumped, -⟩ := w.initEnd_step_conn (cmnIx p) (m := m.add p .ok) .ok false who
  obtain ⟨y, ends, stop, ready⟩ := State.stepMessage_read ((w.initLeft_cmd (cmnIx p) (m.add p .ok) .ok false q c).trans found') step ((m.add p .ok).sectors (w.conn (cmnIx p)).span (x.cmd.stepStart k)) goes
  have told := w.initEnd_step_cmd (cmnIx p) (m := m.add p .ok) .ok false who found'
  rw [show (m.add p .ok).read = true from reads, ends] at told
  rw [InitMsg.sectors_one _ (show (m.add p .ok).total = 64 from total) one length aligned, span] at ready
  refine ⟨_, run, ?_, ⟨_, State.cmd_movSettle told, (Cmd.settle_step stop k).trans ready⟩, frame⟩
  rw [State.movSettle_conn]
  unfold Conn.lacks
  rw [pumped.inits, ← State.found_msn found]
  exact Conn.initGone_lacks _ (m.add p .ok).msn

theorem cmnReadResp_adds (status : p.status = 0) (named : p.claim ≠ 0) (high : s.claimAt (s.claimKey p) ≤ p.claim.toNat) (more : m.gotBytes + p.data.length < m.total) :
    ∃ t, exec (.cmnReadResp p) s = .next t ∧ ((t.conn (cmnIx p)).inits.find? fun m => m.msn == p.msn.toNat) = some (m.add p .ok) ∧
      t.qe.cmds = s.qe.cmds.map Cmd.settle ∧ s.frame t initiatorParts responseFields := by
  have run := exec_cmnReadResp hs h
  have frame := State.response_frame hs p true
  rw [State.response_taken found true (Packet.status_ok status) (fun _ => named) (.inr high)] at run frame
  obtain ⟨conn, qe⟩ := State.claimed_took (s := s) (p := p) p.claim.toNat
  generalize (s.tookPkt p).claimed (s.claimKey p) p.claim.toNat = u at run frame conn qe
  rw [State.responded_more more] at run frame
  refine ⟨_, run, ?_, ?_, frame⟩
  · rw [State.movSettle_conn, State.conn_modConn, conn]
    have number := State.found_msn found
    exact Conn.initPut_find (n := m.add p .ok) (by rw [State.tookPkt_inits]; exact found) number
  · rw [State.movSettle_cmds]
    exact congrArg (fun x : QeState => x.cmds.map Cmd.settle) qe

end Responses

/-! ## NOTICE and the timeout of the initiator (R437, R441) -/

@[reducible] def controlFields : List Fld :=
  [MOV.OFFLINE, MOV.STATE, CME.AUTH_FAIL, CME.VIOL_RX, CME.VIOL_TX, CMP.CE_MARKED, CMP.FCS_ERR, CMP.RX_DROP, CMP.RX_FRAMES, CMP.TX_FRAMES, HP.POISON_CNT, HP.REFUSE_CNT, MOV.FAULT_CNT,
   MOV.LAST_FCLASS, MOV.LAST_FOFF, MOV.LAST_STATUS, XLT.BUSY, CIP.AUTH_FAIL_CNT] ++ reportedFields

@[reducible] def initTimeoutFields : List Fld :=
  [MOV.OFFLINE, MOV.STATE, CME.VIOL_RX, CMP.TX_FRAMES, HP.POISON_CNT, HP.REFUSE_CNT, MOV.FAULT_CNT, MOV.LAST_FCLASS, MOV.LAST_FOFF, MOV.LAST_STATUS, XLT.BUSY] ++ reportedFields

/-- The frame of a control packet, from what its meaning changes after steps 1 to 3. -/
theorem State.rcvdCtl_frame {l : Scope} {s t : State} {p : Packet} (hs : s.regsOk) (kept : State.Keeps l (s.rcvdCtl p) t) (within : Scope.within l ⟨initiatorParts, some controlFields⟩ = true) :
    s.frame t initiatorParts controlFields :=
  State.Keeps.frame (l := ⟨initiatorParts, some controlFields⟩) (kept.step ((s.rcvdCtl_keeps p).mono (by decide)) within) hs (by decide)

theorem cmnNotice_ends {s : State} {p : Packet} {st : BitVec 8} {m : InitMsg} {pt l g : Nat} (hs : s.regsOk) (h : s.receives p false)
    (found : ((s.conn (cmnIx p)).inits.find? fun m => m.msn == p.msn.toNat) = some m) (who : m.who = .foreign pt l g) (fenced : st.toNat = Status.fenced.code)
    (next : (s.conn (cmnIx p)).txMsn ≠ p.msn.toNat) :
    ∃ t, exec (.cmnNotice p st) s = .next t ∧ (t.conn (cmnIx p)).lacks p.msn.toNat ∧ t.forwardsNone pt l g ∧ t.cmn.claims = s.cmn.claims ∧ s.frame t initiatorParts controlFields := by
  have msn := State.found_msn found
  have run : exec (.cmnNotice p st) s = .next ((s.rcvdCtl p).initEnd (cmnIx p) m .fenced false).movSettle := by
    refine (congrArg (fun t : State => Host.Outcome.next t.movSettle) (State.ingress_received hs h State.authStorm (.notice p st) _)).trans ?_
    simp only [Bool.false_eq_true, if_false]
    rw [State.rcvdCtl_conn, Conn.tookCtl_acks]
    dsimp only
    rw [found]
    exact congrArg (fun t : State => Host.Outcome.next t.movSettle) (if_pos fenced)
  obtain ⟨lacks, claims⟩ := (s.rcvdCtl p).initEnd_connections (cmnIx p) m .fenced false (by rw [State.rcvdCtl_conn, Conn.tookCtl_acks, msn]; exact next)
  refine ⟨_, run, ?_, ?_, ?_, ?_⟩
  · rw [State.movSettle_conn, ← msn]
    exact lacks
  · exact ((s.rcvdCtl p).initEnd_foreign (cmnIx p) .fenced false who).of_forwards (congrArg HpState.forwards ((State.movSettle_keeps _).kept .hp (by decide)))
  · rw [State.movSettle_claims, claims]
    exact (s.rcvdCtl_beside p).claims
  · exact State.rcvdCtl_frame hs ((State.movSettle_keeps _).step ((State.initEnd_keeps ..).mono (m := State.initEnd_scope) (by decide)) (by decide)) (by decide)

theorem initTimeout_again {s : State} {i : BitVec 20} {msn : BitVec 32} {m : InitMsg} {q c k : Nat} {x : Cmd} {r : StepRec} (hs : s.regsOk)
    (found : ((s.conn i.toNat).inits.find? fun m => m.msn == msn.toNat) = some m) (who : m.who = .step q c k) (cmd : s.cmd q c = some x) (step : x.step k = some r) (goes : x.stop = false)
    (first : r.remoteRetry = false) :
    ∃ t, exec (.initTimeout i msn) s = .next t ∧ (t.conn i.toNat).lacks msn.toNat ∧ (∃ y, t.cmd q c = some y ∧ y.step k = some { r with state := .ready, remoteRetry := true }) ∧
      s.frame t initiatorParts initTimeoutFields := by
  have run : exec (.initTimeout i msn) s = .next (s.initEnd i.toNat m .timeout false).movSettle := by
    show execInitTimeout i msn s = _
    unfold execInitTimeout
    dsimp only
    rw [found]
    dsimp only
    rw [who]
  have number : m.msn = msn.toNat := beq_iff_eq.mp (List.find?_some (p := fun m : InitMsg => m.msn == msn.toNat) found)
  obtain ⟨pumped, -⟩ := s.initEnd_step_conn i.toNat .timeout false who
  obtain ⟨y, ends, stop, ready⟩ := State.stepMessage_again ((s.initLeft_cmd i.toNat m .timeout false q c).trans cmd) step (m.sectors (s.conn i.toNat).span (x.cmd.stepStart k)) m.read goes first
  have told := s.initEnd_step_cmd i.toNat .timeout false who cmd
  rw [ends] at told
  refine ⟨_, run, ?_, ⟨_, State.cmd_movSettle told, (Cmd.settle_step stop k).trans ready⟩, ((execInitTimeout_keeps ..).out run).frame hs (by decide)⟩
  rw [State.movSettle_conn]
  unfold Conn.lacks
  rw [pumped.inits, ← number]
  exact Conn.initGone_lacks _ _

end Sys2Proof.Machine
end

section
/-! SUPPORT. Cemanor: control packets at the initiator: PROBE, REKEY_READY, CLOSE, and what ACK makes of packets and paths (R424, R426, R429, R439). -/
namespace Sys2Proof.Machine

/-! ## Tables of paths -/

theorem tget_tmap {α : Type} (t : Table α) (f : Nat → α → α) (k : Nat) : tget (tmap t f) k = (tget t k).map (f k) := by
  induction t with
  | nil => rfl
  | cons e t ih =>
    obtain ⟨j, v⟩ := e
    show (if k = j then some (f j v) else tget (tmap t f) k) = (if k = j then some v else tget t k).map (f k)
    split
    · rename_i same
      rw [same]
      rfl
    · exact ih

theorem tget_tmod_same {α : Type} {t : Table α} {k : Nat} {v : α} (h : tget t k = some v) (f : α → α) : tget (tmod t k f) k = some (f v) := by
  unfold tmod
  rw [h]
  exact tget_tset_same ..

theorem tget_tmod_ne {α : Type} (t : Table α) {j k : Nat} (f : α → α) (ne : k ≠ j) : tget (tmod t j f) k = tget t k := by
  unfold tmod
  split
  · exact tget_tset_ne _ _ ne
  · rfl

/-! ## The paths of a connection (R426) -/

/-- The state of a connection after its paths have changed. -/
def Conn.pathState (c : Conn) : ConnState :=
  if c.state = .opened && !c.paths.any (fun e => e.2.state != .down) then .down
  else if c.state = .down && c.paths.any (fun e => e.2.state == .active) then .opened else c.state

theorem State.connPaths_idle {s : State} {i : Nat} (none : (s.conn i).txq = []) : (s.connPaths i).conn i = { s.conn i with state := (s.conn i).pathState } := by
  unfold State.connPaths Conn.pathState
  dsimp only
  split
  · exact State.conn_putConn_same ..
  · split
    · rw [State.cmnPump_idle (by rw [State.conn_putConn_same]; exact none), State.conn_putConn_same]
    · rfl

/-! ## PROBE, REKEY_READY and CLOSE (R424, R426, R429) -/

/-- A control packet leaves on the path it is to take. -/
theorem State.sendCtl_on {s : State} {i k : Nat} {r : PathRun} (path : tget (s.conn i).paths k = some r) (op : Nat) (fill : Packet → Packet) :
    s.sendCtl i op (some k) fill = (s.putConn i ((s.conn i).ctlSent (fill (s.conn i).blank).phase)).sendFrame op
      (({ fill (s.conn i).blank with psn := BitVec.ofNat 32 ((s.conn i).txCtl (fill (s.conn i).blank).phase) } : Packet).via r.path) := by
  unfold State.sendCtl
  dsimp only
  rw [path]
  rfl

theorem Conn.ctlSent_owed (c : Conn) (phase : Bool) : (c.ctlSent phase).owed = c.owed := by cases phase <;> rfl

/-- ACK on a path names RX_BASE - 1 of its phase, and nothing is owed any more. -/
theorem State.sendAck_on {s : State} {i k : Nat} {r : PathRun} (path : tget (s.conn i).paths k = some r) (phase : Bool) :
    (∃ q : Packet, (s.sendAck i phase (some k)).out = s.out ++ [.packet opAck q] ∧ q.eport = r.path.eport ∧ q.sublink = r.path.sublink ∧ q.phase = phase ∧
      q.rkey = BitVec.ofNat 32 (((s.conn i).rx phase).base + 2 ^ 32 - 1)) ∧ ((s.sendAck i phase (some k)).conn i).owed = 0 := by
  have path' : tget ((s.putConn i { s.conn i with owed := 0 }).conn i).paths k = some r := by
    rw [State.conn_putConn_same]
    exact path
  unfold State.sendAck
  dsimp only
  rw [State.sendCtl_on path']
  refine ⟨⟨_, rfl, rfl, rfl, rfl, rfl⟩, ?_⟩
  rw [State.sendFrame_conn]
  refine (congrArg Conn.owed (State.conn_putConn_same ..)).trans ((Conn.ctlSent_owed ..).trans ?_)
  rw [State.conn_putConn_same]

/-- What REKEY_READY for a phase means (R424). -/
def State.peerReady (s : State) (i : Nat) (phase : Bool) : State :=
  if phase == (s.conn i).phase then s else (s.modConn i fun c => { c with nextReady := true }).phaseSwitch i

/-- A connection with nothing prepared switches its phase once both ends have the keys. -/
theorem State.phaseSwitch_idle {s : State} {i : Nat} (idle : (s.conn i).txq = []) (ready : (s.conn i).nextReady = true)
    (keyed : (if (s.conn i).phase then (s.conn i).keys0.isSome else (s.conn i).keys1.isSome) = true) :
    (s.phaseSwitch i).conn i = { s.conn i with phase := !(s.conn i).phase, nextReady := false, txPsn := 0 } := by
  unfold State.phaseSwitch
  dsimp only
  rw [ready, keyed, Bool.and_self, if_pos rfl, State.cmnPump_idle (by rw [State.conn_putConn_same]; exact idle), State.conn_putConn_same]

/-- What CLOSE from the peer means (R426). -/
def State.peerClosed (s : State) (i : Nat) (st : BitVec 8) : State :=
  if (s.conn i).state = .opened ∨ (s.conn i).state = .down then (s.putConn i { s.conn i with state := .closing }).emit (.device "CMN_CLOSED" [i, st.toNat]) else s

section Control
variable {s : State} {p : Packet} (hs : s.regsOk) (h : s.receives p false)

theorem State.rcvdCtl_paths : ((s.rcvdCtl p).conn (cmnIx p)).paths = (s.conn (cmnIx p)).paths := by rw [State.rcvdCtl_conn, Conn.tookCtl_acks]

include hs h

theorem cmnProbe_acks {k : Fin 8} {r : PathRun} (path : tget (s.conn (cmnIx p)).paths k.val = some r) :
    ∃ t, exec (.cmnProbe p k) s = .next t ∧ (∃ q : Packet, t.out = s.out ++ [.packet opAck q] ∧ q.eport = r.path.eport ∧ q.sublink = r.path.sublink ∧ q.phase = p.phase ∧
        q.rkey = BitVec.ofNat 32 (((s.conn (cmnIx p)).rx p.phase).base + 2 ^ 32 - 1)) ∧ (t.conn (cmnIx p)).owed = 0 ∧ s.frame t initiatorParts controlFields := by
  have run : exec (.cmnProbe p k) s = .next ((s.rcvdCtl p).sendAck (cmnIx p) p.phase (some k.val)) :=
    congrArg Host.Outcome.next (State.ingress_received hs h State.authStorm (.probe p k) _)
  obtain ⟨⟨q, out, port, link, phase, base⟩, owed⟩ := State.sendAck_on (s := s.rcvdCtl p) (i := cmnIx p) (by rw [State.rcvdCtl_paths]; exact path) p.phase
  rw [State.rcvdCtl_conn, Conn.tookCtl_base] at base
  exact ⟨_, run, ⟨q, out, port, link, phase, base⟩, owed, State.rcvdCtl_frame hs (State.sendAck_keeps ..) (by decide)⟩

theorem cmnRekeyReady_switches (idle : (s.conn (cmnIx p)).txq = []) (keyed : (if (s.conn (cmnIx p)).phase then (s.conn (cmnIx p)).keys0.isSome else (s.conn (cmnIx p)).keys1.isSome) = true) :
    ∃ t, exec (.cmnRekeyReady p (!(s.conn (cmnIx p)).phase)) s = .next t ∧ (t.conn (cmnIx p)).phase = (!(s.conn (cmnIx p)).phase) ∧ (t.conn (cmnIx p)).nextReady = false ∧
      (t.conn (cmnIx p)).txPsn = 0 ∧ (t.conn (cmnIx p)).txMsn = (s.conn (cmnIx p)).txMsn ∧ (t.conn (cmnIx p)).unacked = (s.conn (cmnIx p)).unacked ∧ s.frame t initiatorParts controlFields := by
  have run : exec (.cmnRekeyReady p (!(s.conn (cmnIx p)).phase)) s = .next ((s.rcvdCtl p).peerReady (cmnIx p) (!(s.conn (cmnIx p)).phase)) :=
    congrArg Host.Outcome.next (State.ingress_received hs h State.authStorm (.rekeyReady p _) _)
  have frame : s.frame ((s.rcvdCtl p).peerReady (cmnIx p) (!(s.conn (cmnIx p)).phase)) initiatorParts controlFields := by
    refine State.rcvdCtl_frame (l := State.phaseSwitch_scope) (p := p) hs ?_ (by decide)
    unfold State.peerReady
    exact .ite (.refl ..) ((State.phaseSwitch_keeps ..).step ((State.modConn_keeps ..).mono (by decide)) (by decide))
  have switched : ((s.rcvdCtl p).peerReady (cmnIx p) (!(s.conn (cmnIx p)).phase)).conn (cmnIx p) =
      { (s.conn (cmnIx p)).tookCtl p with phase := !(s.conn (cmnIx p)).phase, nextReady := false, txPsn := 0 } := by
    have other : ((!(s.conn (cmnIx p)).phase) == ((s.rcvdCtl p).conn (cmnIx p)).phase) = false := by
      rw [State.rcvdCtl_conn, Conn.tookCtl_acks]
      cases (s.conn (cmnIx p)).phase <;> rfl
    unfold State.peerReady
    rw [other, if_neg Bool.false_ne_true, State.phaseSwitch_idle]
    · rw [State.conn_modConn, State.rcvdCtl_conn, Conn.tookCtl_acks]
    · rw [State.conn_modConn, State.rcvdCtl_conn, Conn.tookCtl_acks]
      exact idle
    · rw [State.conn_modConn]
    · rw [State.conn_modConn, State.rcvdCtl_conn, Conn.tookCtl_acks]
      exact keyed
  refine ⟨_, run, ?_, ?_, ?_, ?_, ?_, frame⟩
  all_goals rw [switched, Conn.tookCtl_acks]

theorem cmnClose_closes {st : BitVec 8} (fresh : (s.conn (cmnIx p)).state ≠ .closing) :
    ∃ t, exec (.cmnClose p st) s = .next t ∧ (t.conn (cmnIx p)).state = .closing ∧ (t.conn (cmnIx p)).tgts = (s.conn (cmnIx p)).tgts ∧ s.frame t initiatorParts controlFields := by
  have run : exec (.cmnClose p st) s = .next ((s.rcvdCtl p).peerClosed (cmnIx p) st) :=
    congrArg Host.Outcome.next (State.ingress_received hs h State.authStorm (.close p st) _)
  have active : (s.conn (cmnIx p)).state = .opened ∨ (s.conn (cmnIx p)).state = .down := by
    obtain ⟨-, -, -, -, -, -, -, -, -, live, -⟩ := h
    simpa [Conn.live, fresh] using live
  have closes : (s.rcvdCtl p).peerClosed (cmnIx p) st = ((s.rcvdCtl p).putConn (cmnIx p) { (s.conn (cmnIx p)).tookCtl p with state := .closing }).emit (.device "CMN_CLOSED" [cmnIx p, st.toNat]) := by
    unfold State.peerClosed
    rw [State.rcvdCtl_conn]
    refine if_pos ?_
    rw [Conn.tookCtl_acks]
    exact active
  rw [closes] at run
  have conn : (((s.rcvdCtl p).putConn (cmnIx p) { (s.conn (cmnIx p)).tookCtl p with state := .closing }).emit (.device "CMN_CLOSED" [cmnIx p, st.toNat])).conn (cmnIx p) =
      { (s.conn (cmnIx p)).tookCtl p with state := .closing } := State.conn_putConn_same ..
  refine ⟨_, run, ?_, ?_, State.rcvdCtl_frame (l := ⟨[.cmn, .out], some []⟩) hs ((State.emit_keeps ..).step ((State.putConn_keeps ..).mono (by decide)) (by decide)) (by decide)⟩
  · rw [conn]
  · rw [conn, Conn.tookCtl_acks]

end Control

end Sys2Proof.Machine
end

section
/-! SUPPORT. Cemanor: ACK at the initiator (R429, R439): the packets it names, the windows of their paths, and a DOWN path that answers its third PROBE. -/
namespace Sys2Proof.Machine

/-- Whether an ACK of a phase up to a PSN names a packet; all ones names none. -/
def TxPkt.namedBy (x : TxPkt) (phase : Bool) (a : BitVec 32) : Bool := !decide (a = BitVec.allOnes 32) && x.phase == phase && decide (x.pkt.psn.toNat ≤ a.toNat)

/-- A path that answers a PROBE: DOWN, it counts it, and is ACTIVE at the third in succession (R439). -/
def PathRun.probed (r : PathRun) : PathRun :=
  if r.state = .down && r.probeOut then
    (if 3 ≤ r.probes + 1 then { r with state := .active, probes := 0, probeOut := false, rtos := 0 } else { r with probes := r.probes + 1, probeOut := false })
  else r

/-- The paths of a connection after an ACK. -/
def Conn.ackedPaths (c : Conn) (p : Packet) (a n : BitVec 32) : Table PathRun :=
  let paths := tmap c.paths fun k r => r.acked' ((c.unacked.filter (TxPkt.namedBy · p.phase a)).filter fun x => x.path == k).length n.toNat
  match c.pathOf p with
  | some k => tmod paths k PathRun.probed
  | none => paths

/-- A connection after an ACK, but for the keys of a phase that is over. -/
def Conn.gotAck (c : Conn) (p : Packet) (a n : BitVec 32) : Conn := { c with unacked := c.unacked.filter fun x => !x.namedBy p.phase a, paths := c.ackedPaths p a n }

/-- What ACK means (R429, R439). -/
def State.gotAck (s : State) (i : Nat) (p : Packet) (a n : BitVec 32) : State := ((s.putConn i ((s.conn i).gotAck p a n).eraseOld).connPaths i).cmnPump i

theorem exec_cmnAck {s : State} {p : Packet} (hs : s.regsOk) (h : s.receives p false) (a n : BitVec 32) : exec (.cmnAck p a n) s = .next ((s.rcvdCtl p).gotAck (cmnIx p) p a n) :=
  congrArg Host.Outcome.next (State.ingress_received hs h State.authStorm (.ack p a n) _)

/-- The erasure of a phase's keys leaves everything but its keys and its receive windows (R424). -/
theorem Conn.eraseOld_eq (c : Conn) : ∃ k0 k1 r0 r1, c.eraseOld = { c with keys0 := k0, keys1 := k1, rx0 := r0, rx1 := r1 } := by
  have fresh (d : Conn) (old : Bool) : ∃ r0 r1, d.setRx old freshRx = { d with rx0 := r0, rx1 := r1 } := by
    cases old <;> exact ⟨_, _, rfl⟩
  refine iteInduction (motive := fun d : Conn => ∃ k0 k1 r0 r1, d = { c with keys0 := k0, keys1 := k1, rx0 := r0, rx1 := r1 }) (fun _ => ?_) fun _ => ⟨_, _, _, _, rfl⟩
  obtain ⟨r0, r1, rx⟩ := fresh { c with keys0 := if !c.phase then c.keys0 else none, keys1 := if !c.phase then none else c.keys1 } (!c.phase)
  exact ⟨_, _, r0, r1, rx⟩

/-- A connection with nothing prepared after an ACK. -/
theorem State.gotAck_conn {s : State} {i : Nat} (idle : (s.conn i).txq = []) (p : Packet) (a n : BitVec 32) :
    ∃ k0 k1 r0 r1, (s.gotAck i p a n).conn i = { (s.conn i).gotAck p a n with keys0 := k0, keys1 := k1, rx0 := r0, rx1 := r1, state := ((s.conn i).gotAck p a n).pathState } := by
  obtain ⟨k0, k1, r0, r1, erased⟩ := ((s.conn i).gotAck p a n).eraseOld_eq
  have put : (s.putConn i ((s.conn i).gotAck p a n).eraseOld).conn i = { (s.conn i).gotAck p a n with keys0 := k0, keys1 := k1, rx0 := r0, rx1 := r1 } :=
    (State.conn_putConn_same ..).trans erased
  have paths := State.connPaths_idle (s := s.putConn i ((s.conn i).gotAck p a n).eraseOld) (i := i) (by rw [put]; exact idle)
  rw [put] at paths
  unfold State.gotAck
  rw [State.cmnPump_idle (by rw [paths]; exact idle), paths]
  exact ⟨k0, k1, r0, r1, rfl⟩

theorem State.gotAck_keeps (s : State) (i : Nat) (p : Packet) (a n : BitVec 32) : State.Keeps State.cmnPump_scope s (s.gotAck i p a n) :=
  (State.cmnPump_keeps ..).step ((State.connPaths_keeps ..).step ((State.putConn_keeps ..).mono (by decide)) (by decide)) (by decide)

/-! ## The clauses -/

/-- What an ACK makes of the window of a path of which it names packets (R439). -/
theorem PathRun.acked'_window {r : PathRun} {g : Nat} (some : 0 < g) (n : Nat) :
    (r.acked' g n).window = (if r.ce ≠ n then max 4 (r.window / 2) else if r.window ≤ r.acked + g then min 1024 (r.window + 1) else r.window) ∧ (r.acked' g n).ce = n := by
  unfold PathRun.acked'
  rw [if_neg (Nat.ne_of_gt some)]
  dsimp only
  split
  · exact ⟨rfl, rfl⟩
  · rename_i same
    have ce : r.ce = n := not_not.mp same
    split
    · exact ⟨rfl, ce⟩
    · exact ⟨rfl, ce⟩

theorem PathRun.acked'_active {r : PathRun} (active : r.state = .active) (g n : Nat) : (r.acked' g n).state = .active := by
  have stays : (if r.state = .suspect then PathSt.active else r.state) = .active := by
    rw [active]
    rfl
  unfold PathRun.acked'
  dsimp only
  rw [stays]
  split
  · exact active
  · split
    · rfl
    · split <;> rfl

theorem PathRun.probed_active {r : PathRun} (active : r.state = .active) : r.probed = r := by
  unfold PathRun.probed
  rw [active]
  rfl

/-- A path that is ACTIVE keeps through an ACK what the packets it names make of it. -/
theorem Conn.ackedPaths_active {c : Conn} {k : Nat} {r : PathRun} (path : tget c.paths k = some r) (active : r.state = .active) (p : Packet) (a n : BitVec 32) :
    tget (c.ackedPaths p a n) k = some (r.acked' ((c.unacked.filter (TxPkt.namedBy · p.phase a)).filter fun x => x.path == k).length n.toNat) := by
  have counted := (tget_tmap c.paths (fun k r => r.acked' ((c.unacked.filter (TxPkt.namedBy · p.phase a)).filter fun x => x.path == k).length n.toNat) k).trans (congrArg (Option.map _) path)
  unfold Conn.ackedPaths
  dsimp only
  split
  · rename_i j _
    by_cases same : k = j
    · rw [← same, tget_tmod_same counted, PathRun.probed_active (PathRun.acked'_active active ..)]
    · rw [tget_tmod_ne _ _ same]
      exact counted
  · exact counted

section Acks
variable {s : State} {p : Packet} (hs : s.regsOk) (h : s.receives p false) (a n : BitVec 32) (idle : (s.conn (cmnIx p)).txq = [])
include hs h idle

theorem cmnAck_frees (some : a ≠ BitVec.allOnes 32) :
    ∃ t, exec (.cmnAck p a n) s = .next t ∧ (t.conn (cmnIx p)).unacked = (s.conn (cmnIx p)).unacked.filter (fun x => !(x.phase == p.phase && decide (x.pkt.psn.toNat ≤ a.toNat))) ∧
      (∀ k r g, tget (s.conn (cmnIx p)).paths k = .some r → r.state = .active →
        g = ((s.conn (cmnIx p)).unacked.filter fun x => x.path == k && x.phase == p.phase && decide (x.pkt.psn.toNat ≤ a.toNat)).length → 0 < g →
        ∃ r', tget (t.conn (cmnIx p)).paths k = .some r' ∧ r'.window = (if r.ce ≠ n.toNat then max 4 (r.window / 2) else if r.window ≤ r.acked + g then min 1024 (r.window + 1) else r.window) ∧
          r'.ce = n.toNat) ∧ s.frame t initiatorParts controlFields := by
  have named (x : TxPkt) : x.namedBy p.phase a = (x.phase == p.phase && decide (x.pkt.psn.toNat ≤ a.toNat)) := by
    unfold TxPkt.namedBy
    rw [decide_eq_false some]
    rfl
  obtain ⟨k0, k1, r0, r1, conn⟩ := State.gotAck_conn (s := s.rcvdCtl p) (i := cmnIx p) (by rw [State.rcvdCtl_conn, Conn.tookCtl_acks]; exact idle) p a n
  rw [State.rcvdCtl_conn, Conn.tookCtl_acks] at conn
  refine ⟨_, exec_cmnAck hs h a n, ?_, ?_, State.rcvdCtl_frame hs (State.gotAck_keeps ..) (by decide)⟩
  · rw [conn]
    show (s.conn (cmnIx p)).unacked.filter (fun x => !x.namedBy p.phase a) = _
    simp only [named]
  · intro k r g path active count few
    rw [conn]
    have here := Conn.ackedPaths_active path active p a n
    simp only [named, List.filter_filter, ← Bool.and_assoc] at here
    rw [← count] at here
    exact ⟨_, here, PathRun.acked'_window few n.toNat⟩

theorem cmnAck_probed {k : Nat} {r : PathRun} (none : (s.conn (cmnIx p)).unacked = []) (down : (s.conn (cmnIx p)).state = .down) (way : (s.conn (cmnIx p)).pathOf p = some k)
    (path : tget (s.conn (cmnIx p)).paths k = some r) (dead : r.state = .down) (asked : r.probeOut = true) (twice : r.probes = 2) :
    ∃ t, exec (.cmnAck p a n) s = .next t ∧ tget (t.conn (cmnIx p)).paths k = some { r with state := .active, probes := 0, probeOut := false, rtos := 0 } ∧
      (t.conn (cmnIx p)).state = .opened ∧ s.frame t initiatorParts controlFields := by
  obtain ⟨k0, k1, r0, r1, conn⟩ := State.gotAck_conn (s := s.rcvdCtl p) (i := cmnIx p) (by rw [State.rcvdCtl_conn, Conn.tookCtl_acks]; exact idle) p a n
  rw [State.rcvdCtl_conn, Conn.tookCtl_acks] at conn
  have kept : tget (tmap (s.conn (cmnIx p)).paths fun k r => r.acked' (((s.conn (cmnIx p)).unacked.filter (TxPkt.namedBy · p.phase a)).filter fun x => x.path == k).length n.toNat) k = some r := by
    rw [tget_tmap, path, none]
    rfl
  have third : r.probed = { r with state := .active, probes := 0, probeOut := false, rtos := 0 } := by
    unfold PathRun.probed
    rw [dead, asked, twice]
    rfl
  have here : tget ((s.conn (cmnIx p)).ackedPaths p a n) k = some { r with state := .active, probes := 0, probeOut := false, rtos := 0 } := by
    unfold Conn.ackedPaths
    rw [way, ← third]
    exact tget_tmod_same kept _
  have up : ((s.conn (cmnIx p)).ackedPaths p a n).any (fun e => e.2.state == .active) = true := List.any_eq_true.mpr ⟨_, mem_of_tget here, rfl⟩
  refine ⟨_, exec_cmnAck hs h a n, ?_, ?_, State.rcvdCtl_frame hs (State.gotAck_keeps ..) (by decide)⟩
  · rw [conn]
    exact here
  · rw [conn]
    show (if (s.conn (cmnIx p)).state = .opened && _ then _ else if (s.conn (cmnIx p)).state = .down && ((s.conn (cmnIx p)).ackedPaths p a n).any (fun e => e.2.state == .active) then _ else _) = ConnState.opened
    rw [down, up]
    rfl

end Acks

end Sys2Proof.Machine
end

section
/-! SUPPORT. Cemanor: packets sent again and paths given up (R439): NACK, the retransmission timer, and the PROBE of a DOWN path. -/
namespace Sys2Proof.Machine

/-! ## The path a packet is sent on again -/

/-- Choosing among a candidate and a list, one at a time, ends with one of them. -/
theorem foldl_chosen_mem {α : Type} {f : Option α → α → Option α} (choice : ∀ b e, f (some b) e = some b ∨ f (some b) e = some e) (b : α) (xs : List α) :
    ∃ z ∈ b :: xs, xs.foldl f (some b) = some z := by
  induction xs generalizing b with
  | nil => exact ⟨b, List.mem_cons_self, rfl⟩
  | cons e xs ih =>
    rw [List.foldl_cons]
    rcases choice b e with same | other
    · obtain ⟨z, mem, chosen⟩ := ih b
      refine ⟨z, ?_, (congrArg (List.foldl f · xs) same).trans chosen⟩
      rcases List.mem_cons.mp mem with here | there
      · exact here ▸ List.mem_cons_self
      · exact List.mem_cons_of_mem _ (List.mem_cons_of_mem _ there)
    · obtain ⟨z, mem, chosen⟩ := ih e
      exact ⟨z, List.mem_cons_of_mem _ mem, (congrArg (List.foldl f · xs) other).trans chosen⟩

/-- While another path is ACTIVE, the one to avoid is not chosen. -/
theorem Conn.pick_avoids {c : Conn} {a k : Nat} {g : PathRun} (path : (k, g) ∈ c.paths) (active : g.state = .active) (ne : k ≠ a) : ∃ n r, c.pick (some a) = some (n, r) ∧ n ≠ a := by
  have able : (k, g) ∈ c.paths.filter fun e => e.2.state == .active := List.mem_filter.mpr ⟨path, beq_iff_eq.mpr active⟩
  have other : ((c.paths.filter fun e => e.2.state == .active).any fun e => e.1 != a) = true := List.any_eq_true.mpr ⟨_, able, bne_iff_ne.mpr ne⟩
  have among : (k, g) ∈ (c.paths.filter fun e => e.2.state == .active).filter fun e => e.1 != a := List.mem_filter.mpr ⟨able, bne_iff_ne.mpr ne⟩
  unfold Conn.pick
  dsimp only
  rw [if_pos other]
  cases left : (c.paths.filter fun e => e.2.state == .active).filter fun e => e.1 != a with
  | nil =>
    rw [left] at among
    exact absurd among List.not_mem_nil
  | cons e rest =>
    obtain ⟨⟨n, r⟩, mem, chosen⟩ := foldl_chosen_mem (f := fun best e => match best with
      | none => some e
      | some b => if c.room b.1 b.2 < c.room e.1 e.2 then some e else best) (fun b e => by dsimp only; split <;> simp) e rest
    rw [← left] at mem
    exact ⟨n, r, chosen, bne_iff_ne.mp (List.mem_filter.mp mem).2⟩

/-- Without an ACTIVE path there is none to choose. -/
theorem Conn.pick_none {c : Conn} (none : ∀ e ∈ c.paths, e.2.state ≠ .active) (a : Nat) : c.pick (some a) = .none := by
  have empty : (c.paths.filter fun e => e.2.state == .active) = [] := List.filter_eq_nil_iff.mpr fun e mem => by simpa using none e mem
  unfold Conn.pick
  dsimp only
  rw [empty]
  rfl

/-! ## Sending a packet again -/

/-- A connection whose packet is sent again on a path: the window of the path it was sent on is halved (R439). -/
def Conn.resent (c : Conn) (x : TxPkt) (psn : Nat) (phase : Bool) (k : Nat) : Conn :=
  { c with
    unacked := c.unacked.map fun y => if y.pkt.psn.toNat = psn ∧ y.phase = phase then { y with path := k, sends := y.sends + 1 } else y,
    paths := tmod c.paths x.path fun r => { r with window := max 4 (r.window / 2) } }

section Resend
variable {s : State} {i psn : Nat} {phase : Bool} {x : TxPkt} (found : ((s.conn i).unacked.find? fun x => x.pkt.psn.toNat == psn && x.phase == phase) = some x)
include found

theorem State.resend_eq {k : Nat} {r : PathRun} (few : x.sends < s.get CME.RETX_MAX 4) (way : (s.conn i).pick (some x.path) = some (k, r)) :
    s.resend i psn phase = (s.putConn i ((s.conn i).resent x psn phase k)).sendFrame x.op (x.pkt.via r.path) := by
  unfold State.resend
  dsimp only
  rw [found]
  dsimp only
  rw [if_neg (Nat.not_le.mpr few), way]
  rfl

theorem State.resend_stuck (way : (s.conn i).pick (some x.path) = none) : s.resend i psn phase = s := by
  unfold State.resend
  dsimp only
  rw [found]
  dsimp only
  rw [way]
  exact ite_self _

/-- A packet sent again: the same packet on the path chosen, counted once more, and the window of its old path halved. -/
theorem State.resend_again {k : Nat} {r w : PathRun} (few : x.sends < s.get CME.RETX_MAX 4) (way : (s.conn i).pick (some x.path) = some (k, r)) (path : tget (s.conn i).paths x.path = some w) :
    (s.resend i psn phase).out = s.out ++ [.packet x.op (x.pkt.via r.path)] ∧ { x with path := k, sends := x.sends + 1 } ∈ ((s.resend i psn phase).conn i).unacked ∧
      tget ((s.resend i psn phase).conn i).paths x.path = some { w with window := max 4 (w.window / 2) } := by
  have named : x.pkt.psn.toNat = psn ∧ x.phase = phase := by
    simpa using List.find?_some found
  have conn : (s.resend i psn phase).conn i = (s.conn i).resent x psn phase k := by
    rw [State.resend_eq found few way, State.sendFrame_conn]
    exact State.conn_putConn_same ..
  refine ⟨?_, ?_, ?_⟩
  · rw [State.resend_eq found few way]
    rfl
  · rw [conn]
    exact List.mem_map.mpr ⟨x, List.mem_of_find?_eq_some found, if_pos named⟩
  · rw [conn]
    exact tget_tmod_same path _

end Resend

theorem Conn.pick_acks {c d : Conn} (same : c.Acks d) (a : Option Nat) : d.pick a = c.pick a := by
  rw [same]
  rfl

theorem cmnNack_resends {s : State} {p : Packet} {n : BitVec 32} {x : TxPkt} {k : Nat} {r w : PathRun} (hs : s.regsOk) (h : s.receives p false)
    (found : ((s.conn (cmnIx p)).unacked.find? fun x => x.pkt.psn.toNat == n.toNat && x.phase == p.phase) = some x) (few : x.sends < s.get CME.RETX_MAX 4)
    (way : (s.conn (cmnIx p)).pick (some x.path) = some (k, r)) (path : tget (s.conn (cmnIx p)).paths x.path = some w) :
    ∃ t, exec (.cmnNack p [(n.toNat, 1)]) s = .next t ∧ t.out = s.out ++ [.packet x.op (x.pkt.via r.path)] ∧ { x with path := k, sends := x.sends + 1 } ∈ (t.conn (cmnIx p)).unacked ∧
      tget (t.conn (cmnIx p)).paths x.path = some { w with window := max 4 (w.window / 2) } ∧ s.frame t initiatorParts controlFields := by
  have run : exec (.cmnNack p [(n.toNat, 1)]) s = .next ((s.rcvdCtl p).resend (cmnIx p) n.toNat p.phase) :=
    congrArg Host.Outcome.next (State.ingress_received hs h State.authStorm (.nack p [(n.toNat, 1)]) _)
  have acks := Conn.tookCtl_acks (s.conn (cmnIx p)) p
  obtain ⟨out, again, halved⟩ := State.resend_again (s := s.rcvdCtl p) (i := cmnIx p) (psn := n.toNat) (phase := p.phase) (x := x) (k := k) (r := r) (w := w)
    (by rw [State.rcvdCtl_conn, acks]; exact found) (by rw [(s.rcvdCtl_keeps p).get hs rfl (by decide) (by decide)]; exact few)
    (by rw [State.rcvdCtl_conn, Conn.pick_acks acks]; exact way) (by rw [State.rcvdCtl_paths]; exact path)
  rw [(s.rcvdCtl_keeps p).kept .out (by decide)] at out
  exact ⟨_, run, out, again, halved, State.rcvdCtl_frame hs (State.resend_keeps ..) (by decide)⟩

/-! ## The retransmission timer -/

/-- A path whose packet has timed out: SUSPECT, and DOWN at the third time (R439). -/
def PathRun.timedOut (r : PathRun) : PathRun :=
  if r.state = .down then r
  else if 3 ≤ r.rtos + 1 then { r with state := .down, rtos := 0, probes := 0, probeOut := false } else { r with state := .suspect, rtos := r.rtos + 1 }

/-- A connection one of whose packets has timed out. -/
def Conn.timedOut (c : Conn) (k : Nat) : Conn := { c with paths := tmod c.paths k PathRun.timedOut }

theorem State.connPaths_up {s : State} {i : Nat} {e : Nat × PathRun} (opened : (s.conn i).state = .opened) (path : e ∈ (s.conn i).paths) (up : e.2.state ≠ .down) : s.connPaths i = s := by
  have some : (s.conn i).paths.any (fun e => e.2.state != .down) = true := List.any_eq_true.mpr ⟨e, path, bne_iff_ne.mpr up⟩
  unfold State.connPaths
  dsimp only
  rw [opened, some]
  rfl

theorem State.connPaths_down {s : State} {i : Nat} (opened : (s.conn i).state = .opened) (down : ∀ e ∈ (s.conn i).paths, e.2.state = .down) :
    s.connPaths i = s.putConn i { s.conn i with state := .down } := by
  have none : (s.conn i).paths.any (fun e => e.2.state != .down) = false := List.any_eq_false.mpr fun e mem => by simp [down e mem]
  unfold State.connPaths
  dsimp only
  rw [opened, none]
  rfl

/-- The first of a list with one property is the first with a stronger one that it has. -/
theorem find?_of_stronger {α : Type} {p q : α → Bool} {l : List α} {x : α} (first : l.find? p = some x) (stronger : ∀ y, q y = true → p y = true) (has : q x = true) : l.find? q = some x := by
  obtain ⟨-, before, after, split, none⟩ := List.find?_eq_some_iff_append.mp first
  refine List.find?_eq_some_iff_append.mpr ⟨has, before, after, split, fun y mem => ?_⟩
  have not := none y mem
  rw [Bool.not_eq_true', Bool.eq_false_iff] at not ⊢
  exact fun yes => not (stronger y yes)

section Rto
variable {s : State} {i : BitVec 20} {n : BitVec 32} {x : TxPkt} (opened : (s.conn i.toNat).state = .opened) (found : ((s.conn i.toNat).unacked.find? fun x => x.pkt.psn == n) = some x)
include opened found

theorem exec_rtoExpiry : exec (.rtoExpiry i n) s = .next (((s.putConn i.toNat ((s.conn i.toNat).timedOut x.path)).connPaths i.toNat).resend i.toNat n.toNat x.phase) := by
  show execRtoExpiry i n s = _
  unfold execRtoExpiry
  dsimp only
  rw [found]
  dsimp only
  rw [show (s.conn i.toNat).live = true by unfold Conn.live; rw [opened]; rfl]
  rfl

omit opened in
/-- The packet that timed out is the one its number and phase name. -/
theorem State.timed_found : ((s.conn i.toNat).unacked.find? fun y => y.pkt.psn.toNat == n.toNat && y.phase == x.phase) = some x := by
  have number : x.pkt.psn = n := beq_iff_eq.mp (List.find?_some (p := fun x : TxPkt => x.pkt.psn == n) found)
  refine find?_of_stronger found (fun y named => ?_) (by simp [number])
  rw [Bool.and_eq_true, beq_iff_eq] at named
  exact beq_iff_eq.mpr (BitVec.eq_of_toNat_eq named.1)

theorem rtoExpiry_suspects {r : PathRun} {k : Nat} {g : PathRun} (hs : s.regsOk) (path : tget (s.conn i.toNat).paths x.path = some r) (active : r.state = .active) (first : r.rtos = 0) (ne : k ≠ x.path)
    (other : tget (s.conn i.toNat).paths k = some g) (good : g.state = .active) (few : x.sends < s.get CME.RETX_MAX 4) :
    ∃ t, exec (.rtoExpiry i n) s = .next t ∧ tget (t.conn i.toNat).paths x.path = some { r with state := .suspect, rtos := 1, window := max 4 (r.window / 2) } ∧
      (∃ y ∈ (t.conn i.toNat).unacked, y.pkt = x.pkt ∧ y.phase = x.phase ∧ y.sends = x.sends + 1 ∧ y.path ≠ x.path) ∧ (∃ l, t.out = s.out ++ [.packet x.op (x.pkt.via l)]) ∧
      s.frame t ([.cmn] ++ reported) ([CMP.TX_FRAMES] ++ reportedFields) := by
  have run := exec_rtoExpiry opened found
  have frame : s.frame _ ([.cmn] ++ reported) ([CMP.TX_FRAMES] ++ reportedFields) := ((execRtoExpiry_keeps ..).out run).frame hs (by decide)
  have conn : (s.putConn i.toNat ((s.conn i.toNat).timedOut x.path)).conn i.toNat = (s.conn i.toNat).timedOut x.path := State.conn_putConn_same ..
  have elsewhere : tget ((s.conn i.toNat).timedOut x.path).paths k = some g := (tget_tmod_ne _ _ ne).trans other
  have suspect : r.timedOut = { r with state := .suspect, rtos := 1 } := by
    unfold PathRun.timedOut
    rw [active, first]
    rfl
  have here : tget ((s.conn i.toNat).timedOut x.path).paths x.path = some { r with state := .suspect, rtos := 1 } := suspect ▸ tget_tmod_same path _
  obtain ⟨j, l, way, away⟩ := Conn.pick_avoids (c := (s.conn i.toNat).timedOut x.path) (mem_of_tget elsewhere) good ne
  rw [State.connPaths_up (e := (k, g)) (by rw [conn]; exact opened) (by rw [conn]; exact mem_of_tget elsewhere) (by rw [good]; decide)] at run frame
  obtain ⟨out, again, halved⟩ := State.resend_again (s := s.putConn i.toNat ((s.conn i.toNat).timedOut x.path)) (by rw [conn]; exact State.timed_found found) few (by rw [conn]; exact way) (by rw [conn]; exact here)
  exact ⟨_, run, halved, ⟨_, again, rfl, rfl, rfl, away⟩, ⟨_, out⟩, frame⟩

theorem rtoExpiry_down {r : PathRun} (hs : s.regsOk) (only : (s.conn i.toNat).paths = [(x.path, r)]) (up : r.state ≠ .down) (third : r.rtos = 2) :
    ∃ t, exec (.rtoExpiry i n) s = .next t ∧ (t.conn i.toNat).state = .down ∧ (∃ r', tget (t.conn i.toNat).paths x.path = some r' ∧ r'.state = .down) ∧
      (t.conn i.toNat).unacked = (s.conn i.toNat).unacked ∧ s.frame t ([.cmn] ++ reported) ([CMP.TX_FRAMES] ++ reportedFields) := by
  have run := exec_rtoExpiry opened found
  have frame : s.frame _ ([.cmn] ++ reported) ([CMP.TX_FRAMES] ++ reportedFields) := ((execRtoExpiry_keeps ..).out run).frame hs (by decide)
  have conn : (s.putConn i.toNat ((s.conn i.toNat).timedOut x.path)).conn i.toNat = (s.conn i.toNat).timedOut x.path := State.conn_putConn_same ..
  have down : r.timedOut.state = .down := by
    unfold PathRun.timedOut
    rw [if_neg up, third]
    rfl
  have path : ((s.conn i.toNat).timedOut x.path).paths = [(x.path, r.timedOut)] := by
    unfold Conn.timedOut
    rw [only]
    simp [tmod, tget, tset]
  have dead (e : Nat × PathRun) (mem : e ∈ ((s.conn i.toNat).timedOut x.path).paths) : e.2.state = .down := by
    rw [path, List.mem_singleton] at mem
    rw [mem]
    exact down
  rw [State.connPaths_down (by rw [conn]; exact opened) (by rw [conn]; exact dead), conn] at run frame
  have closed : ((s.putConn i.toNat ((s.conn i.toNat).timedOut x.path)).putConn i.toNat { (s.conn i.toNat).timedOut x.path with state := .down }).conn i.toNat =
      { (s.conn i.toNat).timedOut x.path with state := .down } := State.conn_putConn_same ..
  rw [State.resend_stuck (by rw [closed]; exact State.timed_found found) (by rw [closed]; exact Conn.pick_none (fun e mem => by rw [dead e mem]; decide) _)] at run frame
  refine ⟨_, run, ?_, ⟨r.timedOut, ?_, down⟩, ?_, frame⟩
  · rw [closed]
  · rw [closed]
    show tget ((s.conn i.toNat).timedOut x.path).paths x.path = _
    rw [path]
    exact if_pos rfl
  · rw [closed]
    rfl

end Rto

/-! ## The PROBE of a DOWN path -/

/-- A DOWN path to which a PROBE is sent: one that is not answered breaks the succession. -/
def PathRun.asked (r : PathRun) : PathRun := { r with probes := if r.probeOut then 0 else r.probes, probeOut := true }

def Conn.asked (c : Conn) (k : Nat) (r : PathRun) : Conn := { c with paths := tset c.paths k r.asked }

theorem probeTimer_probes {s : State} {i : BitVec 20} {k : Fin 8} {r : PathRun} (hs : s.regsOk) (live : (s.conn i.toNat).live = true) (path : tget (s.conn i.toNat).paths k.val = some r) (down : r.state = .down) :
    ∃ t, exec (.probeTimer i k) s = .next t ∧ tget (t.conn i.toNat).paths k.val = some r.asked ∧
      (∃ q : Packet, t.out = s.out ++ [.packet opProbe q] ∧ q.eport = r.path.eport ∧ q.sublink = r.path.sublink ∧ q.conn = (s.conn i.toNat).desc.peerConn) ∧ s.frame t [.regs, .cmn, .out] [CMP.TX_FRAMES] := by
  have run : exec (.probeTimer i k) s = .next ((s.putConn i.toNat ((s.conn i.toNat).asked k.val r)).sendCtl i.toNat opProbe (some k.val) fun p => p) := by
    show execProbeTimer i k s = _
    unfold execProbeTimer
    dsimp only
    rw [path]
    exact if_pos (by rw [live, down]; rfl)
  have frame : s.frame _ [.regs, .cmn, .out] [CMP.TX_FRAMES] := ((execProbeTimer_keeps ..).out run).frame hs (by decide)
  have conn : (s.putConn i.toNat ((s.conn i.toNat).asked k.val r)).conn i.toNat = (s.conn i.toNat).asked k.val r := State.conn_putConn_same ..
  have here : tget ((s.conn i.toNat).asked k.val r).paths k.val = some r.asked := tget_tset_same ..
  rw [State.sendCtl_on (by rw [conn]; exact here), conn] at run frame
  refine ⟨_, run, ?_, ⟨_, rfl, rfl, rfl, rfl⟩, frame⟩
  rw [State.sendFrame_conn, State.conn_putConn_same, Conn.ctlSent_acks]
  exact here

end Sys2Proof.Machine
end

section
/-! Cemanor's initiator: the clauses together. -/
namespace Sys2Proof.Machine

/-- Settles O28: each clause is a lemma above about one packet or one timer: the responses (R440), ACK and the paths (R426, R429, R439), NACK and the retransmission timer (R439), NOTICE and the timeout (R437, R441), PROBE, rekey (R424) and CLOSE (R426). -/
theorem cemanorInitiator : Obligations.CemanorInitiator := by
  unfold Obligations.CemanorInitiator
  refine ⟨?writeCmp, ?stale, ?refused, ?readEnds, ?readAdds, ?ack, ?probed, ?nack, ?notice, ?probe, ?rekeyReady, ?close, ?timeout, ?rto, ?rtoDown, ?probeTimer⟩
  case writeCmp => exact fun s p m q c k x r hs h found who write cmd step status named high => cmnWriteCmp_ends hs h found who write cmd step status named high
  case stale => exact fun s p m hs h found named low => cmnWriteCmp_stale hs h found named low
  case refused => exact fun s p m hs h found none status next => cmnWriteCmp_refused hs h found none status next
  case readEnds =>
    exact fun s p m q c k x r hs h found who reads total got bytes worst length first cmd step goes aligned status named high =>
      cmnReadResp_ends hs h found who reads total got bytes worst length first cmd step goes aligned status named high
  case readAdds => exact fun s p m hs h found status named high more => cmnReadResp_adds hs h found status named high more
  case ack => exact fun s p a n hs h some idle => cmnAck_frees hs h a n idle some
  case probed => exact fun s p a n k r hs h idle none down way path dead asked twice => cmnAck_probed hs h a n idle none down way path dead asked twice
  case nack => exact fun s p n x k r w hs h found few way path => cmnNack_resends hs h found few way path
  case notice => exact fun s p st m pt l g hs h found who fenced next => cmnNotice_ends hs h found who fenced next
  case probe => exact fun s p k r hs h path => cmnProbe_acks hs h path
  case rekeyReady => exact fun s p hs h idle keyed => cmnRekeyReady_switches hs h idle keyed
  case close => exact fun s p st hs h fresh => cmnClose_closes hs h fresh
  case timeout => exact fun s i msn m q c k x r hs found who cmd step goes first => initTimeout_again hs found who cmd step goes first
  case rto =>
    exact fun s i n x r k g hs opened found path active first ne other good few => rtoExpiry_suspects opened found hs path active first ne other good few
  case rtoDown => exact fun s i n x r hs opened found only up third => rtoExpiry_down opened found hs only up third
  case probeTimer => exact fun s i k r hs live path down => probeTimer_probes hs live path down

end Sys2Proof.Machine
end

section
/-! SUPPORT. A SLUICE whose own entry and whose list lie in one set of the pan: the fetch of the entry (R140) takes the place of the list's line, and the frame below, which has lost the sector, is what the list check reads (R215, R239). -/
namespace Sys2Proof.Proofs.SluiceList
open Sys2Proof.Machine
open HeldWriteRelease (eq_pair)

/-- The schedules after an outcome, and the status of each command in flight. -/
def scheduledAfter (o : Res) : Option (List Schedule × List (Option Status)) :=
  match o with
  | .next t => some (t.tier.schedules, t.qe.cmds.map fun x => x.result.map CmdResult.status)
  | .fault _ | .refused _ => none

/-- A class V region of two blocks. -/
def region : Region := Region.seal { noRegion with valid := true, pclass := 2, size := 2 }

/-- The block map entry that names a pool block. -/
def bme (p : Nat) : Bme := Bme.seal { alloc := true, zero := false, pbn := p, chk := 0 }

/-- A resident block with its first unit in a frame. -/
def inFrame (frame : Nat) : TBlock :=
  { state := .resident, leaveReq := false, charge := none, pins := [], units := [(0, freshUnit)], filling := [], region := 0, used := true, frame := frame }

/-- A SLUICE of a list of one entry, which stands in the third sector of the region's second block. -/
def command : QEntry := { fence := false, notify := false, cmdId := 9, timeout := 0, cmd := .sluice 0 65664 1 7 0 }

/-- The list's sector: 64 bytes of the region's first block are due in 60 s (Table 7-5). -/
def listSector : Sector := putAt 128 (64 : BitVec 40) ||| putAt 192 (60000000 : BitVec 32) ||| putAt 224 (0xFFFF : BitVec 16)

/-- Its clean line in the pan, the next one to go. -/
def listLine : Line := { tag := 1, s0 := cleanSec { data := listSector, poison := false }, s1 := cleanSec zeroSec, lock := false, age := 3 }

/-- A queue whose ring begins with the region and holds one entry. -/
def queue : QueueCtx := QueueCtx.seal { noQueue with valid := true, state := .active, weight := 1, sqLog2 := 6, cqLog2 := 6, maxInflight := 16, cqOff := 8192, sqTail := 1 }

/-- After reset, the region's blocks are pool blocks 0 and 256. The first line of the one, with the entry, and the second line of the other, with the list, share a
set of slice 0, of which one way is left in service; the list's line has it. The frame below that line is poisoned. -/
def stored : State :=
  { State.reset with
    hp := { hpInit with memoryActive := true }
    xlt := { xltInit with regions := [(0, region)], bmap := [(bmeKey 0 0, bme 0), (bmeKey 0 1, bme 256)] }
    qe := { qeInit with queues := [(0, queue)] }
    tier := { tierInit with blocks := [(0, inFrame 0), (256, inFrame 1)], frames := [(secOf 0 0, { data := command.encode, poison := false }), (secOf 256 128, poisonSec)] }
    pan := { panInit with lines := [(0, listLine)], retired := (List.range 23).map (· + 1) } }

/-- The twin serves group 0, no harvest runs, QE and TIER take work and slice 0 is ENABLED. -/
def waiting : State := ((((stored.put TWN.SERVE 1).put HRV.STATE 0).wr qePage HDR.QUIESCE 0).wr tierPage HDR.QUIESCE 0).put PAN.STATE panEnabled 0

/-- The place of the entry in the ring. -/
def ringPlace : Place64 := { region := 0, desc := region, blk := 0, bme := bme 0, sector := 0 }

/-- The state after the checks of the ring, the one after the walk of the list, and the one after the list's read. -/
def walked : State := (waiting.walkQueue 0 0 0 64 false).1
def atRing : State := (walked.resolve 0 region 0).1
def begun : State := atRing.begun 0 queue (atRing.flight 0 queue command)
def atList : State := (begun.walkQueue 0 0 65664 32 false).1
def listed : State := (atList.listRead 0 region 65664 1).1

/-- The list's entry, what becomes of it in the schedule, and the state after its check. -/
def due : ListEntry := { handle := 0, off := 0, len := 64, dueUs := 60000000, holdMs := 0, trigger := 0xFFFF }
def placed : SluEntry :=
  { region := 0, blocks := [0], due := 60000000000, dueUs := 60000000, hold := 0, trigger := none, fired := false, elig := false, state := .waiting, holdEnded := false }
def checked : State := (listed.sluEntry 0 0 due).1

/-- The list check of a list of one entry that is in order. -/
theorem listCheck_singleton {s u : State} {tenant base : Nat} {e : ListEntry} {r : SluEntry} (h : s.sluEntry tenant base e = (u, r, none)) :
    [e].foldl (fun (a : State × List SluEntry × Option Status) e =>
      let (s, r, st) := a.1.sluEntry tenant base e
      let s := if st.isSome then s.incMod TIER.MISSED else s
      (s, a.2.1 ++ [r], a.2.2.or st)) (s, [], none) = (u, [r], none) := by
  simp only [List.foldl_cons, List.foldl_nil, h]
  rfl

theorem waiting_regsOk : waiting.regsOk :=
  have h : stored.regsOk := trivial
  State.regsOk_put (State.regsOk_wr (State.regsOk_wr (State.regsOk_put (State.regsOk_put h _ _ _ _) _ _ _ _) _ _ _ _) _ _ _ _) _ _ _ _

theorem waiting_fetches : waiting.fetches 0 command.encode queue command atRing :=
  ⟨rfl, by decide +kernel, by decide +kernel, by decide +kernel, rfl, walked, region, ringPlace, eq_pair (by decide +kernel), eq_pair (by decide +kernel), by decide +kernel⟩

/-- The list as it stands before its own command's entry is read. -/
theorem atList_listRead : atList.listRead 0 region 65664 1 = (listed, .ok [listSector.extractLsb' 0 256]) := eq_pair (by decide +kernel)

theorem listed_sluEntry : listed.sluEntry 0 0 due = (checked, placed, none) := eq_pair (by decide +kernel)

/-- The fetch has evicted the list's line, and the list check ends with MEDIA_ERROR. -/
theorem sluice_scheduled : scheduledAfter (exec (.sluice 0 command.encode) waiting) = some ([], [some .mediaError]) := by decide +kernel

/-- Refutes O14: the clause of SLUICE takes the list as it stands before the entry is fetched, for every state, but the fetch reads the entry through the pan (R140,
R239): in a set with one way in service it takes the place of the list's clean line, and where the frame below is poisoned the list check ends with MEDIA_ERROR
and keeps no schedule. -/
theorem not_readPathsAndSluice : ¬ Obligations.ReadPathsAndSluice := by
  unfold Obligations.ReadPathsAndSluice
  rintro ⟨-, -, -, -, -, sluice, -⟩
  obtain ⟨t, ran, kept, -⟩ := sluice waiting 0 command.encode [listSector.extractLsb' 0 256] queue command atRing atList listed checked 0 65664 1 7 0 region
    [due] [placed] waiting_regsOk (by decide +kernel) waiting_fetches rfl ⟨rfl, fun _ hx => absurd hx List.not_mem_nil⟩ (by decide +kernel)
    (eq_pair (by decide +kernel)) atList_listRead (by decide +kernel) rfl (by decide +kernel) (by decide +kernel) (by decide +kernel)
    (listCheck_singleton listed_sluEntry) (by decide +kernel) (by decide +kernel)
  have failed := sluice_scheduled
  rw [ran] at failed
  have none : t.tier.schedules = [] := congrArg Prod.fst (Option.some.inj failed)
  exact absurd (kept.symm.trans none) (List.append_ne_nil_of_right_ne_nil _ (List.cons_ne_nil _ _))

end Sys2Proof.Proofs.SluiceList
end

section
/-! SUPPORT. A write-back that ends has its unit graded (R226): where the datapath sees no parity error, the bittern unit goes to DRAM, and the channel it goes to notes the request (R290). -/
namespace Sys2Proof.Proofs.GradedWriteBack
open Sys2Proof.Machine

/-- A DRAM address has a channel while any is in use. -/
theorem addrChan_some {s : State} (used : s.chansUsed ≠ []) (a : Nat) : ∃ c, s.addrChan a = some c := by
  have one : max 1 s.chansUsed.length = s.chansUsed.length := max_eq_right (List.length_pos_iff.mpr used)
  unfold State.addrChan
  rw [one]
  exact ⟨_, List.getElem?_eq_getElem (Nat.mod_lt _ (List.length_pos_iff.mpr used))⟩

theorem tset_ne_nil {α : Type} (t : Table α) (k : Nat) (v : α) : tset t k v ≠ [] := by
  cases t with
  | nil => exact List.cons_ne_nil _ _
  | cons e t =>
    obtain ⟨j, w⟩ := e
    unfold tset
    split
    · exact List.cons_ne_nil _ _
    · split <;> exact List.cons_ne_nil _ _

theorem dramAsk_asked {s : State} (used : s.chansUsed ≠ []) (a : Nat) : (s.dramAsk a).dmc.asked ≠ [] := by
  obtain ⟨c, chan⟩ := addrChan_some used a
  unfold State.dramAsk
  rw [chan]
  exact tset_ne_nil _ _ _

theorem dramIssued_asked (s : State) (k : Nat) (ws : List QWrite) : (s.dramIssued k ws).dmc.asked = s.dmc.asked := by
  unfold State.dramIssued
  split <;> rfl

theorem dramAccept_asked {s : State} (used : s.chansUsed ≠ []) (a n port : Nat) : (s.dramAccept a n port).dmc.asked ≠ [] := by
  obtain ⟨c, chan⟩ := addrChan_some used a
  unfold State.dramAccept
  rw [chan]
  dsimp only
  rw [dramIssued_asked]
  exact dramAsk_asked used a

theorem chansUsed_of_regs {s t : State} (regs : t.regs = s.regs) (unit : t.unit = s.unit) : t.chansUsed = s.chansUsed := by
  unfold State.chansUsed State.bitOf State.get State.rd
  rw [regs, unit]

theorem bitternPut_chansUsed (s : State) (u : Nat) (b : BUnit) : (s.bitternPut u b).chansUsed = s.chansUsed :=
  have kept := (s.bitternPut_keeps u b).kept
  chansUsed_of_regs (kept .regs (by decide)) (kept .unit (by decide))

/-- Every byte string that is written to DRAM leaves a request behind. -/
theorem memAccept_asked {s : State} (used : s.chansUsed ≠ []) (a port : Nat) {n : Nat} (some : n ≠ 0) : (s.memAccept a n port).dmc.asked ≠ [] := by
  unfold State.memAccept
  rw [if_neg some, List.range_succ, List.foldl_append]
  refine dramAccept_asked (fun none => used ?_) _ _ _
  rw [← none]
  refine (List.foldlRecOn (motive := fun t : State => t.chansUsed = s.chansUsed) _ _ rfl fun t same k _ => ?_).symm
  have kept := (t.dramAccept_keeps ((a / 64 + k) * 64) (2 * (2 ^ 64 + (a / 64 + k))) port).kept
  exact (chansUsed_of_regs (kept .regs (by decide)) (kept .unit (by decide))).trans same

/-- A grading that meets no parity error leaves a request at a channel. -/
theorem grade_asked {s : State} (u region : Nat) (used : s.chansUsed ≠ []) (on : s.flag TIER.GRADE_EN = true) (fmt : (s.regionAt region).elemFmt ≠ 0)
    (sound : (unitSecs u).any (fun n => (s.t2Read n).poison) = false) (good : Config.freeBool s.free = false) : (s.grade u region).dmc.asked ≠ [] := by
  unfold State.grade
  simp only [on, sound, good, beq_eq_false_iff_ne.mpr fmt, Bool.not_true, Bool.or_false, Bool.false_eq_true, if_false]
  exact memAccept_asked (fun none => used ((bitternPut_chansUsed s.useFree u _).symm.trans none)) _ _ (by decide)

/-- A write-back whose record is durable and applied. -/
theorem writeBackDone_written {s : State} {p u : Nat} {b : TBlock} {x : TUnit} {st : Nat} {vals : Table SectorVal} (there : s.block p = some b)
    (unit : tget b.units u = some x) (flies : x.wb = some (st, vals)) (done : s.written (p * 16 + u) st = true) :
    s.writeBackDone p u =
      ((s.putBlock p { b with units := tset b.units u { x with wb := none, dirty := x.dirty && x.stamp != st } }).grade (p * 16 + u) b.region).settle p := by
  unfold State.writeBackDone
  simp only [there, unit, flies, done, Bool.not_true, Bool.false_eq_true, if_false]

/-- A unit as its write-back has left it: T2 holds it as of stamp 0. -/
def flying : TUnit := { freshUnit with wb := some (0, []) }

/-- A block with that unit alone. -/
def holding : TBlock := { state := .resident, leaveReq := false, charge := none, pins := [], units := [(0, flying)], filling := [], region := 0, used := true }

/-- After reset, a region with a bittern has that block, and n free values have been used. -/
def stored (n : Nat) : State :=
  { State.reset with xlt := { xltInit with regions := [(0, { noRegion with elemFmt := 1 })] }, tier := { tierInit with blocks := [(0, holding)] }, free := n }

/-- Grading is on and the first pair of DRAM channels is in use. -/
def grading (n : Nat) : State := ((stored n).put TIER.GRADE_EN 1).put DMC.PAIRS_USED 1

theorem grading_regsOk (n : Nat) : (grading n).regsOk :=
  have h : (stored n).regsOk := trivial
  State.regsOk_put (State.regsOk_put h _ _ _ _) _ _ _ _

/-- The unit is clean in its block, and its grading is next. -/
def landed (n : Nat) : State := (grading n).putBlock 0 { holding with units := [(0, { flying with wb := none })] }

/-- Two channels are in use. -/
theorem landed_chansUsed (n : Nat) : (landed n).chansUsed = [0, 1] :=
  (chansUsed_of_regs (s := grading 0) rfl rfl).trans (by decide +kernel)

/-- Without a parity error the end of that write-back leaves a request at a DRAM channel. -/
theorem writeBackDone_asked {n : Nat} (good : Config.freeBool n = false) : ((grading n).writeBackDone 0 0).dmc.asked ≠ [] := by
  have ends : (grading n).writeBackDone 0 0 = ((landed n).grade 0 0).settle 0 := writeBackDone_written (b := holding) (x := flying) rfl rfl rfl rfl
  have settled : (((landed n).grade 0 0).settle 0).dmc = ((landed n).grade 0 0).dmc := (State.settle_keeps _ 0).kept .dmc (by decide)
  rw [ends, settled]
  exact grade_asked 0 0 (landed_chansUsed n ▸ List.cons_ne_nil 0 [1]) rfl Nat.one_ne_zero rfl good

/-- O13 is left unsettled: a proof of it would settle the choice that the spec leaves free, whether a parity error strikes the grading (R226; log entry 50). The
frame of the clause of a finished write-back leaves out the DRAM channels, and without that error the unit's bittern unit is written to DRAM. -/
theorem gradeParity_of_tierCommands (tier : Obligations.TierCommands) (n : Nat) : Config.freeBool n = true := by
  unfold Obligations.TierCommands at tier
  obtain ⟨-, -, -, -, -, -, -, -, -, -, -, -, done, -⟩ := tier
  obtain ⟨t, c, ends, -, -, ⟨kept, -⟩⟩ := done (grading n) 0 0 holding flying 0 [] (grading_regsOk n) rfl rfl rfl rfl
  have next : (grading n).writeBackDone 0 0 = t := by injection ends
  have quiet : t.dmc = (grading n).dmc := kept .dmc (by decide)
  by_contra sound
  refine writeBackDone_asked (Bool.not_eq_true _ ▸ sound) ?_
  rw [next, quiet]
  rfl

end Sys2Proof.Proofs.GradedWriteBack
end

section
/-! SUPPORT. QUIESCE of a pan slice that holds a dirty line (R54, R255): the write of BLK_CTRL keeps its other fields, and the slice's refusal is flagged. -/
namespace Sys2Proof.Machine

/-- A slice with a dirty line may not quiesce. -/
theorem State.quiesceSet_dirty {s : State} {n : Nat} (active : s.rd (panPage n) HDR.QUIESCE = 0) (dirty : 0 < s.dirtyLines n) (c : Capture) :
    s.quiesceSet (panPage n) 1 c = s.blkErr (panPage n) 17 4 [] (some c) := by
  have refusal : s.quiesceRefusal (panPage n) = some 17 := if_pos dirty
  unfold State.quiesceSet
  rw [active, refusal, if_neg Nat.one_ne_zero, if_pos rfl]

/-- A block's error leaves every register that no report touches. -/
theorem State.blkErr_rd {s : State} (hs : s.regsOk) {p q : Page} (hp : p.inst < 256) (k v : Nat) (pl : List Byte) (c : Option Capture) {f : Fld} {i : Nat}
    (quiet : Untouched q f i) : (s.blkErr p k v pl c).rd q f i = s.rd q f i :=
  (State.blkErr_rep s hp k v pl c).same hs q f i quiet

theorem State.captureBy_rd {s t : State} (ht : t.regsOk) (p : Page) (c : Capture) {q : Page} {f : Fld} {i : Nat} (first : f.key q i ≠ HDR.ERR_INFO0.key p 0)
    (second : f.key q i ≠ HDR.ERR_INFO1.key p 0) : (s.captureBy t p c).rd q f i = t.rd q f i := by
  unfold State.captureBy
  split
  · rw [State.rd_wr_ne (State.regsOk_wr ht ..) _ second, State.rd_wr_ne ht _ first]
  · rfl

/-- The state in which QUIESCE of BLK_CTRL is written: the block has come to rest if it waited to, and the word's block-defined half is stored. -/
def State.ctrlStored (s : State) (p : Page) (b : Nat) : State := (s.quiesceLatch p).wr p HDR.BLOCK_DEF b

theorem State.ctrlStored_pan (s : State) (p : Page) (b : Nat) : (s.ctrlStored p b).pan = s.pan := (s.quiesceLatch_keeps p).kept .pan (by decide)

theorem State.ctrlStored_ok {s : State} (hs : s.regsOk) (p : Page) (b : Nat) : (s.ctrlStored p b).regsOk := State.regsOk_wr (State.quiesceLatch_ok hs p) ..

theorem State.ctrlStored_quiesce {s : State} (hs : s.regsOk) (p : Page) (b : Nat) : (s.ctrlStored p b).rd p HDR.QUIESCE = s.rd p HDR.QUIESCE :=
  (State.rd_wr_ne (State.quiesceLatch_ok hs p) _ (Fld.key_ne_place (by decide) (by decide) (by decide))).trans (State.quiesceLatch_hdr hs p (by decide) (by decide))

/-- A refused QUIESCE: the error's report, and BLK_CTRL as it is written beside QUIESCE. -/
def State.quiesceRefused (s : State) (p : Page) (b e : Nat) (c : Capture) : State :=
  (s.quiesceLatch p).captureBy (((s.ctrlStored p b).blkErr p 17 4 [] (some c)).wr p HDR.ENABLE e) p c

/-- QUIESCE of a slice with a dirty line is refused. -/
theorem exec_quiesce_dirty {s : State} (hs : s.regsOk) {r : Requester} {n : Nat} (admitted : s.admits r (panPage n)) (dirty : 0 < s.dirtyLines n)
    (active : s.rd (panPage n) HDR.QUIESCE = 0) : ∃ b e c, exec (.quiesce r (panPage n)) s = .next (s.quiesceRefused (panPage n) b e c) := by
  obtain ⟨b, e, d, write⟩ := State.write_quiesce hs admitted 1 (by decide)
  have still : (s.ctrlStored (panPage n) b).rd (panPage n) HDR.QUIESCE = 0 := (State.ctrlStored_quiesce hs _ b).trans active
  have holds : 0 < (s.ctrlStored (panPage n) b).dirtyLines n := by
    unfold State.dirtyLines State.sliceLines
    rw [State.ctrlStored_pan]
    exact dirty
  have refused := congrArg (fun t => (s.quiesceLatch (panPage n)).captureBy (t.wr (panPage n) HDR.ENABLE e) (panPage n) (capOf r ((panPage n).base + 0x010) d))
    (State.quiesceSet_dirty still holds (capOf r ((panPage n).base + 0x010) d))
  exact ⟨b, e, _, congrArg Host.Outcome.next (write.trans refused)⟩

/-- What a refused QUIESCE leaves. -/
theorem State.quiesceRefused_spec {s : State} (hs : s.regsOk) {p : Page} (hp : p.inst < 256) (b e : Nat) (c : Capture) :
    (s.quiesceRefused p b e c).rd p HDR.QUIESCE = s.rd p HDR.QUIESCE ∧ bit ((s.quiesceRefused p b e c).rd p HDR.ERR_STAT) 17 = true ∧
      (s.quiesceRefused p b e c).pan = s.pan ∧
      s.frame (s.quiesceRefused p b e c) reported ([HDR.BLOCK_DEF, HDR.ENABLE, HDR.QUIESCED] ++ reportedFields) := by
  have stored := State.ctrlStored_ok hs p b
  have erred := (State.blkErr_rep (s.ctrlStored p b) hp 17 4 [] (some c)).ok stored
  have enabled : (((s.ctrlStored p b).blkErr p 17 4 [] (some c)).wr p HDR.ENABLE e).regsOk := State.regsOk_wr erred ..
  have kept : State.Keeps ⟨reported, some ([HDR.BLOCK_DEF, HDR.ENABLE, HDR.QUIESCED] ++ reportedFields)⟩ s (s.quiesceRefused p b e c) :=
    (State.captureBy_keeps ..).step (((State.blkErr_keeps ..).step (((State.quiesceLatch_keeps s p).mono (by decide)).wr p HDR.BLOCK_DEF b 0 (.inr (by decide))
      (by decide)) (by decide)).wr p HDR.ENABLE e 0 (.inr (by decide)) (by decide)) (by decide)
  refine ⟨?quiesce, ?refused, kept.kept .pan (by decide), kept.frame hs (by decide)⟩ <;> unfold State.quiesceRefused
  case quiesce =>
    rw [State.captureBy_rd enabled p c (Fld.key_ne_place (by decide) (by decide) (by decide)) (Fld.key_ne_place (by decide) (by decide) (by decide)),
      State.rd_wr_ne erred _ (Fld.key_ne_place (by decide) (by decide) (by decide)),
      State.blkErr_rd stored hp 17 4 [] (some c) ⟨by decide, hp, by decide, by decide, by decide, by decide, .inl (by decide)⟩, State.ctrlStored_quiesce hs]
  case refused =>
    rw [State.captureBy_errStat enabled, State.rd_wr_ne erred _ (Fld.key_ne_place (by decide) (by decide) (by decide))]
    exact State.blkErr_bit stored hp (by decide) 4 [] (some c)

/-- Settles O48: the write of BLK_CTRL is refused for its QUIESCE, and the report of the refusal touches neither QUIESCE nor a line. -/
theorem dirtySliceQuiesceStated : Obligations.DirtySliceQuiesceStated := by
  unfold Obligations.DirtySliceQuiesceStated
  intro s r n hs admitted dirty active
  obtain ⟨b, e, c, refused⟩ := exec_quiesce_dirty hs admitted dirty active
  obtain ⟨-, mapped, -⟩ := admitted
  obtain ⟨quiesce, flag, lines, frame⟩ := State.quiesceRefused_spec hs (pageFor_inst_lt mapped) b e c
  exact ⟨_, refused, quiesce.trans active, flag, lines, frame⟩

end Sys2Proof.Machine
end

section
/-! SUPPORT. DISCARD of a draining slice with a dirty line that is locked (R243, R257): the lock that falls counts in LOCKS_RELEASED too. -/
namespace Sys2Proof.Proofs.DiscardedLock
open Sys2Proof.Machine

/-- LOCKS_RELEASED after an outcome. -/
def releasedAfter (o : Res) : Option Nat :=
  match o with
  | .next t => some (t.get PAN.LOCKS_RELEASED)
  | .fault _ | .refused _ => none

/-- A locked line with its first sector dirty. -/
def lockedDirty : Line := { tag := 0, s0 := { valid := true, dirty := true, val := zeroSec }, s1 := cleanSec zeroSec, lock := true, age := 0 }

/-- After reset, slice 0 holds that line. -/
def stored : State := { State.reset with pan := { panInit with lines := [(0, lockedDirty)] } }

/-- Slice 0 is DRAINING. -/
def draining : State := stored.put PAN.STATE panDraining 0

theorem draining_regsOk : draining.regsOk :=
  have h : stored.regsOk := trivial
  State.regsOk_put h _ _ _ _

/-- The warden reaches the slice's page, and nothing waits before its write. -/
theorem draining_governs : draining.governs .warden (panPage 0) :=
  ⟨⟨rfl, by decide, rfl, fun _ hx => absurd hx List.not_mem_nil⟩, rfl, rfl⟩

/-- DISCARD releases the lock and counts it. -/
theorem discard_released : releasedAfter (exec (.discard .warden 0) draining) = some 1 := rfl

/-- A frame of fields none of which stands at a register's place keeps that register. -/
theorem get_of_frame {s t : State} {parts : List Part} {fields : List Fld} (frame : s.frame t parts fields) (unit : Part.unit ∉ parts) {g : Fld}
    (clear : (fields.all fun f => f.clears g) = true) (inst : Nat) : t.get g inst = s.get g inst := by
  obtain ⟨kept, others⟩ := frame
  have same := others (g.key ⟨g.blk, inst⟩ 0) fun f hf => Fld.clears_covers (List.all_eq_true.mp clear f hf) _
  unfold State.get State.rd
  rw [same, show t.unit = s.unit from kept .unit unit]

/-- Refutes O16: the frame of the clause of DISCARD leaves out LOCKS_RELEASED, but where a dirty line is locked its lock falls with it, and is counted in
LOCKS_RELEASED as in LOCK_LOST_CNT (R243): from 0 the count goes to 1. -/
theorem not_panSlices : ¬ Obligations.PanSlices := by
  unfold Obligations.PanSlices
  rintro ⟨-, -, -, -, -, -, -, -, discard, -⟩
  obtain ⟨t, ran, -, -, -, -, frame⟩ := discard draining .warden 0 draining_regsOk draining_governs rfl rfl rfl
  have stays : t.get PAN.LOCKS_RELEASED = 0 := (get_of_frame frame (by decide) (by decide) 0).trans rfl
  have counted := discard_released
  rw [ran] at counted
  exact absurd ((Option.some.inj counted).symm.trans stays) (by decide)

end Sys2Proof.Proofs.DiscardedLock
end

section
/-! SUPPORT. LOCK over a unit that is not PRESENT, where T1's list of blocks names a block twice (R244): the fill is asked for the entry listed first. -/
namespace Sys2Proof.Proofs.BlockListedTwice
open Sys2Proof.Machine

/-- A unit that is PRESENT is not filled again. -/
theorem refill_present {s : State} {p u : Nat} {b : TBlock} (there : s.block p = some b) (present : b.unitPresent u = true) : s.refill p u = s := by
  unfold State.refill
  rw [there]
  simp only [present, Bool.true_or, if_true]

/-- A LOCK that waits for one unit asks T2 for it. -/
theorem panMaintDone_refills {s : State} {o : PanOp} {p u : Nat} (runs : s.pan.op = some o) (missing : s.lockMissing o = [(p, u)])
    (serves : ((rangeSlices o.base o.len).any fun k => s.get PAN.STATE k == panClearing || s.get PAN.STATE k == panInvalidating) = false) :
    exec .panMaintDone s = .next (s.refill p u) := by
  show execPanMaintDone s = _
  unfold execPanMaintDone
  simp only [runs, serves, missing, Bool.false_eq_true, if_false, List.isEmpty_cons, Bool.not_false, if_true, List.foldl_cons, List.foldl_nil]

/-- A RESIDENT block without a charge, with the units given. -/
def resident (units : Table TUnit) : TBlock :=
  { state := .resident, leaveReq := false, charge := none, pins := [], units := units, filling := [], region := 0, used := true, frame := 0 }

/-- The LOCK of the first line of block 0. -/
def lockFirst : PanOp := { op := panLock, base := 0, len := 128 }

/-- After reset, that LOCK runs, and T1 lists block 0 twice: with its first unit, and without any. -/
def listed : State :=
  { State.reset with
    tier := { tierInit with blocks := [(0, resident [(0, freshUnit)]), (0, resident [])] }
    pan := { panInit with op := some lockFirst } }

/-- Slice 0 is ENABLED. -/
def locking : State := listed.put PAN.STATE panEnabled 0

/-- Refutes O15: the clause of a LOCK that waits for a unit takes T1's list of blocks as it comes: no hypothesis puts it in canonical form, as the clauses on lines
do with the pan's. Where it names a block twice, with the unit and without, the unit is missing for the second entry, but the fill looks at the first, which has
it, and asks for nothing. -/
theorem not_panRangeOperations : ¬ Obligations.PanRangeOperations := by
  unfold Obligations.PanRangeOperations
  rintro ⟨-, -, -, -, -, -, -, -, -, -, -, -, -, fills⟩
  have missing : locking.lockMissing lockFirst = [(0, 0)] := rfl
  have serves : ((rangeSlices lockFirst.base lockFirst.len).any fun k => locking.get PAN.STATE k == panClearing || locking.get PAN.STATE k == panInvalidating) = false := by
    decide +kernel
  obtain ⟨t, ran, filling, -⟩ := fills locking lockFirst 0 0 rfl missing serves
  rw [panMaintDone_refills rfl missing serves, refill_present (b := resident [(0, freshUnit)]) rfl rfl] at ran
  obtain rfl : locking = t := by injection ran
  exact absurd (filling (resident [(0, freshUnit)]) rfl) (by decide)

end Sys2Proof.Proofs.BlockListedTwice
end

section
/-! SUPPORT. The DRAM channels: registers of a channel's page that nothing on the way of a report, of an answered read or of a fenced group writes. -/
namespace Sys2Proof.Machine

/-- What a channel shows of its service: its state, its rate, the channels of the interleave and the count of parity failures. -/
def dmcShown : List Fld := [DMC.STATE, DMC.RATE_NOW, DMC.NCHAN, DMC.CAPAR_CNT]

theorem dmcShown_untouched {f : Fld} (hf : f ∈ dmcShown) {c : Nat} (hc : c < 12) : Untouched (dmcPage c) f 0 := by
  have inst : (dmcPage c).inst < 256 := Nat.lt_trans hc (by decide)
  have block : (dmcPage c).blk ≠ .evf ∧ (dmcPage c).blk ≠ .recd ∧ (dmcPage c).blk ≠ .mgt ∧ (dmcPage c).blk ≠ .pwr := by
    refine ⟨?_, ?_, ?_, ?_⟩ <;> exact fun e => nomatch e
  simp only [dmcShown, List.mem_cons, List.not_mem_nil, or_false] at hf
  rcases hf with rfl | rfl | rfl | rfl <;> exact ⟨by decide, inst, by decide, by decide, by decide, by decide, .inr block⟩

/-- t shows of every channel what s shows, and holds its error flags. -/
structure State.Steady (s t : State) : Prop where
  ok : s.regsOk → t.regsOk
  rd : s.regsOk → ∀ c, c < 12 → ∀ f ∈ dmcShown, t.rd (dmcPage c) f = s.rd (dmcPage c) f
  err : s.regsOk → ∀ c, c < 12 → ∀ k, k < 32 → (s.rd (dmcPage c) HDR.ERR_STAT).testBit k = true → (t.rd (dmcPage c) HDR.ERR_STAT).testBit k = true

namespace State.Steady
variable {s t u : State}

protected theorem refl (s : State) : s.Steady s := ⟨id, fun _ _ _ _ _ => rfl, fun _ _ _ _ _ => id⟩
protected theorem trans (a : s.Steady t) (b : t.Steady u) : s.Steady u :=
  ⟨fun h => b.ok (a.ok h), fun h c hc f hf => (b.rd (a.ok h) c hc f hf).trans (a.rd h c hc f hf), fun h c hc k hk e => b.err (a.ok h) c hc k hk (a.err h c hc k hk e)⟩

protected theorem ite {c : Prop} [Decidable c] (h : s.Steady t) (k : s.Steady u) : s.Steady (if c then t else u) := by
  split
  · exact h
  · exact k

protected theorem foldl {α : Type} {f : State → α → State} (h : ∀ (s : State) (a : α), s.Steady (f s a)) (l : List α) (s : State) : s.Steady (l.foldl f s) := by
  induction l generalizing s with
  | nil => exact .refl s
  | cons a l ih => exact (h s a).trans (ih _)

theorem of_rep (h : s.Rep t) : s.Steady t :=
  ⟨h.ok, fun ok c hc f hf => h.same ok _ f 0 (dmcShown_untouched hf hc), fun ok c hc k hk e => h.err ok (dmcPage c) k (Nat.lt_trans hc (by decide)) hk e⟩

theorem of_regs (regs : t.regs = s.regs) (unit : t.unit = s.unit) : s.Steady t := of_rep (State.Rep.of_regs regs unit)

/-- An operation whose fields reach neither what a channel shows nor error flags. -/
theorem of_keeps {l : Scope} (k : State.Keeps l s t) {fs : List Fld} (fields : l.flds = some fs) (unit : l.parts.contains .unit = false)
    (clear : (fs.all fun f => (HDR.ERR_STAT :: dmcShown).all fun g => f.clears g) = true) : s.Steady t := by
  have same (ok : s.regsOk) {g : Fld} (hg : g ∈ HDR.ERR_STAT :: dmcShown) (p : Page) : t.rd p g = s.rd p g := by
    unfold State.rd
    have one (f : Fld) (hf : f ∈ fs) : f.clears g = true := List.all_eq_true.mp (List.all_eq_true.mp clear f hf) g hg
    rw [k.regs ok fs fields (g.key p 0) fun f hf => Fld.clears_covers (one f hf) p,
      show t.unit = s.unit from k.kept .unit fun h => by rw [List.contains_iff_mem.mpr h] at unit; exact Bool.noConfusion unit]
  refine ⟨k.ok, fun ok c _ f hf => same ok (List.mem_cons_of_mem _ hf) _, fun ok c _ j _ e => ?_⟩
  rw [same ok List.mem_cons_self]
  exact e

/-- A register from offset 0x100 up of a page of another block. -/
theorem wr {p : Page} {f : Fld} (v : Nat) {i : Nat} (other : p.blk ≠ .dmc) (inst : p.inst < 256) (fits : f.place i < 32768) : s.Steady (s.wr p f v i) := by
  have apart {c : Nat} (hc : c < 12) {g : Fld} (hg : g.place 0 < 32768) : g.key (dmcPage c) 0 ≠ f.key p i :=
    Fld.key_ne_page hg fits (Nat.lt_trans hc (by decide)) inst fun e => other (congrArg Page.blk e).symm
  refine ⟨fun ok => State.regsOk_wr ok _ _ _ _, fun ok c hc g hg => State.rd_wr_ne ok v (apart hc (dmcShown_untouched hg hc).1), fun ok c hc k _ e => ?_⟩
  rw [State.rd_wr_ne ok v (apart hc (by decide))]
  exact e

theorem put {f : Fld} (v : Nat) {i j : Nat} (other : f.blk ≠ .dmc) (inst : i < 256) (fits : f.place j < 32768) : s.Steady (s.put f v i j) := wr v other inst fits

theorem get (h : s.Steady t) (ok : s.regsOk) {c : Nat} (hc : c < 12) {f : Fld} (shown : f ∈ dmcShown) (blk : f.blk = .dmc) : t.get f c = s.get f c := by
  unfold State.get
  rw [blk]
  exact h.rd ok c hc f shown

end State.Steady

section Reports
variable (s : State)

/-- An error flag of any page, in a page that may have any number: flags that are set stay. -/
theorem State.setErr_steady (p : Page) (k : Nat) (c : Option Capture) : s.Steady (s.setErr p k c) := by
  have shown : ∀ {g : Fld}, g ∈ dmcShown → ∀ {f : Fld}, f = HDR.ERR_STAT ∨ f = HDR.ERR_INFO0 ∨ f = HDR.ERR_INFO1 → ∀ q : Page, g.key q 0 ≠ f.key p 0 := by
    intro g hg f hf q
    simp only [dmcShown, List.mem_cons, List.not_mem_nil, or_false] at hg
    rcases hg with rfl | rfl | rfl | rfl <;> rcases hf with rfl | rfl | rfl <;> exact Fld.key_ne_place (by decide) (by decide) (by decide)
  have info (q : Page) : HDR.ERR_STAT.key q 0 ≠ HDR.ERR_INFO0.key p 0 ∧ HDR.ERR_STAT.key q 0 ≠ HDR.ERR_INFO1.key p 0 :=
    ⟨Fld.key_ne_place (by decide) (by decide) (by decide), Fld.key_ne_place (by decide) (by decide) (by decide)⟩
  have captured (a b : Nat) : s.Steady ((s.wr p HDR.ERR_INFO0 a).wr p HDR.ERR_INFO1 b) := by
    refine ⟨fun ok => State.regsOk_wr (State.regsOk_wr ok ..) .., fun ok d _ g hg => ?_, fun ok d _ j _ e => ?_⟩
    · rw [State.rd_wr_ne (State.regsOk_wr ok ..) _ (shown hg (.inr (.inr rfl)) _), State.rd_wr_ne ok _ (shown hg (.inr (.inl rfl)) _)]
    · rw [State.rd_wr_ne (State.regsOk_wr ok ..) _ (info _).2, State.rd_wr_ne ok _ (info _).1]
      exact e
  have flagged (t : State) (st : Nat) (same : t.regsOk → st = t.rd p HDR.ERR_STAT) : t.Steady (t.wr p HDR.ERR_STAT (setBits st k 1 1)) := by
    refine ⟨fun ok => State.regsOk_wr ok .., fun ok d _ g hg => State.rd_wr_ne ok _ (shown hg (.inl rfl) _), fun ok d _ j hj e => ?_⟩
    by_cases key : HDR.ERR_STAT.key (dmcPage d) 0 = HDR.ERR_STAT.key p 0
    · have read (u : State) : u.rd (dmcPage d) HDR.ERR_STAT = u.rd p HDR.ERR_STAT := by
        unfold State.rd
        rw [key]
      rw [read, State.rd_wr_same ok, same ok, Nat.testBit_mod_two_pow, setBits_one_testBit (read t ▸ e)]
      exact (Bool.and_true _).trans (decide_eq_true hj)
    · rw [State.rd_wr_ne ok _ key]
      exact e
  have after (a b : Nat) (st : Nat) (e : st = s.rd p HDR.ERR_STAT) :
      s.Steady (((s.wr p HDR.ERR_INFO0 a).wr p HDR.ERR_INFO1 b).wr p HDR.ERR_STAT (setBits st k 1 1)) := by
    have keep (ok : s.regsOk) : ((s.wr p HDR.ERR_INFO0 a).wr p HDR.ERR_INFO1 b).rd p HDR.ERR_STAT = s.rd p HDR.ERR_STAT := by
      rw [State.rd_wr_ne (State.regsOk_wr ok ..) _ (info _).2, State.rd_wr_ne ok _ (info _).1]
    have go (ok : s.regsOk) := (captured a b).trans (flagged _ st fun _ => e.trans (keep ok).symm)
    exact ⟨fun ok => (go ok).ok ok, fun ok => (go ok).rd ok, fun ok => (go ok).err ok⟩
  unfold State.setErr
  cases c <;> dsimp only <;> split
  · exact after _ _ _ rfl
  · exact flagged s _ fun _ => rfl
  · exact after _ _ _ rfl
  · exact flagged s _ fun _ => rfl

/-- An occurrence at any page. -/
theorem State.occur_steady (p : Page) (i v : Nat) (pl : List Byte) : s.Steady (s.occur p i v pl) := by
  have sent (t : State) : t.Steady (State.sendOcc State.errAlarm t p i v pl false) :=
    .of_rep (State.sendOcc_rep _ (fun s _ k h => State.errAlarm_rep s h k) t p i v pl false)
  have evt : s.Steady (s.wr p HDR.EVT_STAT (setBits (s.rd p HDR.EVT_STAT) i 1 1)) :=
    .of_keeps (State.Keeps.one s p HDR.EVT_STAT _ 0 (.inr (by decide))) rfl (by decide) (by decide)
  unfold State.occur State.occurWith
  exact ((evt.ite (.refl s)).trans (sent _))

theorem State.misc_steady (p : Page) (v : Nat) (pl : List Byte) : s.Steady (s.misc p v pl) := State.occur_steady ..

theorem State.blkErr_steady (p : Page) (k v : Nat) (pl : List Byte) (c : Option Capture) : s.Steady (s.blkErr p k v pl c) := by
  unfold State.blkErr
  exact State.Steady.ite ((s.setErr_steady p k c).trans (State.occur_steady ..)) (s.setErr_steady p k c)

end Reports

/-! ## The way of an answered read -/

section Steps
variable (s : State)

theorem State.putLd_steady (p l : Nat) (x : LdState) : s.Steady (s.putLd p l x) := .of_keeps (State.putLd_keeps ..) rfl (by decide) (by decide)

theorem State.logEvent_steady (port ld log : Nat) (m : Bool) (kind : String) (dpa win st : Nat) : s.Steady (s.logEvent port ld log m kind dpa win st) := by
  unfold State.logEvent
  extract_lets _ l full _ _ entered counted
  have enters : s.Steady entered := s.putLd_steady ..
  have counts : s.Steady counted := (enters.trans (State.blkErr_steady ..)).ite enters
  exact (counts.trans (.of_rep (State.raiseVector_rep ..))).ite counts

theorem State.moduleEvent_steady (log : Nat) (kind : String) : s.Steady (s.moduleEvent log kind) := State.Steady.foldl (fun s _ => State.logEvent_steady s ..) _ s

theorem State.emit_steady (o : Out) : s.Steady (s.emit o) := .of_regs rfl rfl

theorem State.cxlRecord_steady (port ld win dpa : Nat) (st : Option Status) : s.Steady (s.cxlRecord port ld win dpa st) := by
  unfold State.cxlRecord
  exact (State.logEvent_steady ..).trans ((State.emit_steady ..).ite (.refl _))

theorem State.cxlData_steady (port ld tag : Nat) (v : SectorVal) : s.Steady (s.cxlData port ld tag v) := .of_keeps (State.cxlData_keeps ..) rfl (by decide) (by decide)

theorem State.addPoison_steady (port ld dpa : Nat) : s.Steady (s.addPoison port ld dpa) := .of_keeps (State.addPoison_keeps ..) rfl (by decide) (by decide)

theorem State.cxlAnswer_steady (port ld tag win dpa grp : Nat) (r : ReadRes) : s.Steady (s.cxlAnswer port ld tag win dpa grp r) := by
  have told (st : Option Status) : s.Steady ((s.cxlRecord port ld win dpa st).cxlData port ld tag poisonSec) := (s.cxlRecord_steady ..).trans (State.cxlData_steady ..)
  have listed (b : Prop) [Decidable b] : s.Steady (if b then s.addPoison port ld dpa else s) := (s.addPoison_steady ..).ite (.refl s)
  unfold State.cxlAnswer
  refine State.Steady.ite (told _) ?_
  match r with
  | .value v _ => exact (listed _).trans (State.cxlData_steady ..)
  | .subst d false => exact State.cxlData_steady ..
  | .subst _ true => exact told _
  | .error st => exact (listed _).trans ((State.cxlRecord_steady ..).trans (State.cxlData_steady ..))

theorem State.movSettle_steady : s.Steady s.movSettle := .of_keeps (State.movSettle_keeps s) rfl (by decide) (by decide)
theorem State.settleAll_steady : s.Steady s.settleAll := .of_keeps (State.settleAll_keeps s) rfl (by decide) (by decide)
theorem State.modCmd_steady (q c : Nat) (f : Cmd → Cmd) : s.Steady (s.modCmd q c f) := .of_keeps (State.modCmd_keeps ..) rfl (by decide) (by decide)
theorem State.moverFault_steady (m cls st foff : Nat) : s.Steady (s.moverFault m cls st foff) := .of_keeps (State.moverFault_keeps ..) rfl (by decide) (by decide)
theorem State.mediaGoesOn_steady (q c k : Nat) : s.Steady (s.mediaGoesOn q c k) := .of_keeps (State.mediaGoesOn_keeps ..) rfl (by decide) (by decide)

theorem State.moverOff_steady (m : Nat) : s.Steady (s.moverOff m) := by
  have off : s.Steady ((s.put MOV.OFFLINE 1 m).put MOV.STATE movOffline m) :=
    .of_keeps (((State.Keeps.refl ⟨[.regs], some [MOV.OFFLINE, MOV.STATE]⟩ s).put MOV.OFFLINE _ _ _ (by decide)).put MOV.STATE _ _ _ (by decide)) rfl (by decide) (by decide)
  unfold State.moverOff
  exact State.Steady.ite (off.trans (State.misc_steady ..)) off

theorem State.moverFree_steady (m : Nat) : s.Steady (s.moverFree m) := by
  have idle (t : State) : t.Steady (t.put MOV.STATE movIdle m) := .of_keeps (State.Keeps.one t ⟨MOV.STATE.blk, m⟩ MOV.STATE _ 0 (.inl rfl)) rfl (by decide) (by decide)
  unfold State.moverFree
  dsimp only
  refine State.Steady.ite (State.Steady.trans ?_ (State.moverOff_steady ..)) (State.Steady.trans ?_ (idle _)) <;> exact .of_regs rfl rfl

theorem State.stepFaultAs_steady (cls q c k : Nat) (st : Status) (b : Bool) : s.Steady (s.stepFaultAs cls q c k st b) := by
  unfold State.stepFaultAs
  split
  · exact .refl s
  · rename_i x r _
    extract_lets _ faulted freed _ _ _
    have faults : s.Steady faulted := s.moverFault_steady ..
    have frees : faulted.Steady freed := by
      simp only [freed]
      split
      · exact State.moverFree_steady ..
      all_goals exact .refl _
    exact ((faults.trans frees).trans (State.modCmd_steady ..)).trans (State.movSettle_steady _)

theorem State.stepFault_steady (q c k : Nat) (st : Status) : s.Steady (s.stepFault q c k st) := State.stepFaultAs_steady ..

theorem State.putConn_steady (i : Nat) (c : Conn) : s.Steady (s.putConn i c) := .of_regs rfl rfl
theorem State.modConn_steady (i : Nat) (f : Conn → Conn) : s.Steady (s.modConn i f) := .of_regs rfl rfl
theorem State.sendFrame_steady (op : Nat) (p : Packet) : s.Steady (s.sendFrame op p) := .of_keeps (State.sendFrame_keeps ..) rfl (by decide) (by decide)
theorem State.sendCtl_steady (i op : Nat) (path : Option Nat) (fill : Packet → Packet) : s.Steady (s.sendCtl i op path fill) := .of_keeps (State.sendCtl_keeps ..) rfl (by decide) (by decide)

theorem State.pump_steady (i k : Nat) : s.Steady (State.pump i k s) := by
  induction k generalizing s with
  | zero => exact .refl s
  | succ k ih =>
    unfold State.pump
    dsimp only
    split
    · exact .refl s
    · refine State.Steady.ite (.refl s) (State.Steady.ite (State.Steady.ite (.refl s) (State.blkErr_steady ..)) ?_)
      split
      · exact .refl s
      · refine State.Steady.ite (.refl s) (State.Steady.trans ?_ (ih _))
        have sent (c : Conn) (op : Nat) (p : Packet) : s.Steady ((s.putConn i c).sendFrame op p) := (State.putConn_steady ..).trans (State.sendFrame_steady ..)
        exact State.Steady.ite ((sent ..).trans (State.occur_steady ..)) (sent ..)

theorem State.cmnPump_steady (i : Nat) : s.Steady (s.cmnPump i) := State.pump_steady ..

theorem State.respond_steady (i grp : Nat) (ps : List TxPkt) : s.Steady (s.respond i grp ps) := by
  unfold State.respond
  exact State.Steady.ite (.refl s) ((State.putConn_steady ..).trans (State.cmnPump_steady ..))

theorem State.violate_steady (i : Nat) (m : TgtMsg) (st : Status) (region : Option Nat) : s.Steady (s.violate i m st region) := by
  have told (pl : List Byte) (c : Conn) : s.Steady (((s.misc cmePage 4 pl).putConn i c).inc CME.VIOL_TX 1 4) :=
    ((s.misc_steady ..).trans (State.putConn_steady ..)).trans (State.Steady.put _ (by decide) (by decide) (by decide))
  have refused (t : State) (n : Nat) : t.Steady (t.refusal n) := .of_keeps (State.refusal_keeps ..) rfl (by decide) (by decide)
  unfold State.violate
  cases region with
  | none => exact told _ _
  | some r => exact State.Steady.ite (told _ _) ((told _ _).trans (refused _ _))

theorem State.messageEnd_steady (i : Nat) : s.Steady (s.messageEnd i) := .of_rep (State.messageEnd_rep ..)

theorem State.tgtEnd_steady (i : Nat) (m : TgtMsg) (admitted : Bool) (st : Status) (region : Option Nat) : s.Steady (s.tgtEnd i m admitted st region) := by
  unfold State.tgtEnd
  extract_lets told resolved ended _ dropped settled
  have tells : s.Steady told := (State.violate_steady ..).ite (.refl s)
  have resolves : s.Steady resolved := tells.trans (State.modConn_steady ..)
  have ends : s.Steady ended := (resolves.trans (State.messageEnd_steady ..)).ite resolves
  have drops : s.Steady dropped := ends.trans (.of_regs rfl rfl)
  have settles : s.Steady settled := drops.trans (State.settleAll_steady _)
  refine State.Steady.ite (settles.trans (State.sendCtl_steady ..)) (settles.trans ?_)
  split
  · exact State.respond_steady ..
  · exact (State.modConn_steady ..).trans (State.cmnPump_steady ..)

theorem State.tgtCheck_steady (i msn : Nat) : s.Steady (s.tgtCheck i msn) := by
  unfold State.tgtCheck
  extract_lets c
  split
  · exact .refl s
  · rename_i m _
    extract_lets region bad
    refine State.Steady.ite (State.tgtEnd_steady ..) (State.Steady.ite (State.Steady.ite ?_ (.refl s)) ?_)
    · exact ((s.modConn_steady ..).trans (State.respond_steady ..)).trans (State.messageEnd_steady ..)
    · split
      · exact State.Steady.ite (State.tgtEnd_steady ..) (.refl s)
      · exact .refl s

theorem State.dropRead_steady (id : Nat) : s.Steady (s.dropRead id) := .of_regs rfl rfl

theorem State.answer_steady (w : WaitRead) (r : ReadRes) : s.Steady (s.answer w r) := by
  have slow (t : State) : t.Steady (t.incMod TIER.SLOW_PATH) := .put _ (by decide) (by decide) (by decide)
  unfold State.answer
  extract_lets dropped counted
  have drops : s.Steady dropped := s.dropRead_steady w.id
  have counts : s.Steady counted := by
    simp only [counted]
    split
    · exact drops.trans (slow _)
    · exact drops
  refine counts.trans ?_
  generalize counted = t
  split
  · exact State.cxlAnswer_steady ..
  · extract_lets keep
    have keeps (v : SectorVal) (f : Cmd → Cmd) : t.Steady (keep v f) := State.modCmd_steady ..
    clear_value keep
    split
    · exact State.Steady.ite (.refl t) (keeps ..)
    · exact keeps ..
    · exact State.Steady.ite ((keeps ..).trans (State.mediaGoesOn_steady ..)) (State.stepFault_steady ..)
  · exact .refl t
  · split
    · exact .refl t
    · extract_lets give
      have gives (v : SectorVal) (st : Status) : t.Steady (give v st) := (State.putConn_steady ..).trans (State.tgtCheck_steady ..)
      clear_value give
      split
      · exact gives ..
      · exact gives ..
      · exact State.Steady.ite (gives ..) (State.tgtEnd_steady ..)

theorem State.train_steady (r : ReadReq) (pbn l : Nat) : s.Steady (s.train r pbn l).1 := .of_keeps (State.train_keeps ..) rfl (by decide) (by decide)
theorem State.panTouch_steady (n age : Nat) (demand : Bool) (port : Nat) : s.Steady (s.panTouch n age demand port) :=
  .of_keeps (State.panTouch_keeps ..) rfl (by decide) (by decide)

theorem State.serveUnit_steady (p u : Nat) : s.Steady (s.serveUnit p u) := by
  refine State.Steady.foldl (fun s r => ?_) _ s
  refine State.Steady.ite (.refl s) ?_
  split
  · refine State.Steady.ite ?_ (.refl s)
    extract_lets v touched
    have touches : s.Steady touched := by
      simp only [touched]
      split
      · exact .refl s
      · exact (State.train_steady ..).trans (State.panTouch_steady ..)
    exact touches.trans (State.answer_steady ..)
  · exact .refl s

theorem State.setRead_steady (id : Nat) (f : WaitRead → WaitRead) : s.Steady (s.setRead id f) := .of_regs rfl rfl
theorem State.refill_steady (p u : Nat) : s.Steady (s.refill p u) := .of_keeps (State.refill_keeps ..) rfl (by decide) (by decide)
theorem State.t2Ask_steady (p : Nat) (us : List Nat) (b : Bool) : s.Steady (s.t2Ask p us b) := .of_keeps (State.t2Ask_keeps ..) rfl (by decide) (by decide)
theorem State.startRise_steady (p region first : Nat) (whole zero : Bool) (charge : Option Nat) (pins : List Nat) : s.Steady (s.startRise p region first whole zero charge pins) :=
  .of_keeps (State.startRise_keeps ..) rfl (by decide) (by decide)

theorem State.unstall_steady : s.Steady s.unstall := by
  refine State.Steady.foldl (fun s r => ?_) _ s
  extract_lets going
  refine State.Steady.trans (show s.Steady going from s.setRead_steady ..) ?_
  split
  · exact State.Steady.ite (State.serveUnit_steady ..) (State.refill_steady ..)
  · exact State.Steady.ite ((State.setRead_steady ..).trans (State.t2Ask_steady ..)) (State.startRise_steady ..)

/-- With no stalled read, nothing goes on. -/
theorem State.unstall_of_none {s : State} (none : ∀ x ∈ s.tier.reads, x.panStall = false) : s.unstall = s := by
  have waits : (s.tier.reads.filter fun r => r.panStall && !s.panStalls r.sector) = [] :=
    List.filter_eq_nil_iff.mpr fun r hr => by simp [none r hr]
  unfold State.unstall
  rw [waits]
  rfl

/-! ## Fencing -/

theorem State.dropUnacked_steady (hit : Nat → Bool) : s.Steady (s.dropUnacked hit) := by
  unfold State.dropUnacked
  extract_lets hit' unacked isOpen gone _ uncounted cut _ uncovered lost steps faulted msgs ended
  have uncounts : s.Steady uncounted := .of_regs rfl rfl
  have uncovers : s.Steady uncovered := uncounts.trans (.of_regs rfl rfl)
  have loses : s.Steady lost := uncovers.trans (State.Steady.foldl (fun s k => State.putLd_steady s ..) _ _)
  have faults : s.Steady faulted := loses.trans (State.Steady.foldl (fun s t => State.stepFault_steady s ..) _ _)
  have ends : s.Steady ended := faults.trans (State.Steady.foldl (fun s e => State.tgtEnd_steady s ..) _ _)
  exact ends.trans (.of_regs rfl rfl)

theorem State.setServe_steady (mask : Nat) : s.Steady (s.setServe mask) := by
  have stored : s.Steady (s.put TWN.SERVE mask) := .put _ (by decide) (by decide) (by decide)
  have marked (t : State) : t.Steady (t.fastWrote 4) := .put _ (by decide) (by decide) (by decide)
  exact (stored.trans (marked _)).trans (.of_regs rfl rfl)

/-- The local claim of a group. -/
theorem State.claim_steady (v : Nat) {g : Nat} (hg : g < 16) : s.Steady (s.put TWN.TWN_CLAIM_LOCAL v 0 g) :=
  .put _ (by decide) (by decide) (by simp only [Fld.place, TWN.TWN_CLAIM_LOCAL]; omega)

theorem State.claims_steady (l : List Nat) (fits : ∀ g ∈ l, g < 16) : s.Steady (l.foldl (fun s g => s.put TWN.TWN_CLAIM_LOCAL 0 0 g) s) := by
  induction l generalizing s with
  | nil => exact .refl s
  | cons g l ih => exact (s.claim_steady 0 (fits g (.head _))).trans (ih _ fun x hx => fits x (.tail _ hx))

theorem State.fenceGroups_steady (hit : Nat → Bool) : s.Steady (s.fenceGroups hit) := by
  unfold State.fenceGroups
  extract_lets gs served cleared stored dropped told
  have clears : s.Steady cleared := s.claims_steady gs fun g hg => List.mem_range.mp (List.mem_of_mem_filter hg)
  have stores : s.Steady stored := clears.trans (State.setServe_steady ..)
  have drops : s.Steady dropped := stores.trans (State.dropUnacked_steady ..)
  have tells : s.Steady told := (drops.trans (State.moduleEvent_steady ..)).ite drops
  have released : told.Steady (told.put TWN.CLAIM_W_DRV 0) := .put _ (by decide) (by decide) (by decide)
  exact (tells.trans (released.trans (State.emit_steady ..))).ite tells

/-- The fenced twin before the event of it. -/
def State.fenced (s : State) : State :=
  let s := ((s.fenceGroups fun _ => true).put TWN.STATE roleFenced).put TWN.IN_SYNC 0
  { s with twn := { s.twn with take := none, handoff := [], gave := [], syncInSync := false } }

theorem State.fenceAll_eq : s.fenceAll = s.fenced.occur twnPage 33 6 := rfl

theorem State.fenced_steady : s.Steady s.fenced := by
  have role : (s.fenceGroups fun _ => true).Steady ((s.fenceGroups fun _ => true).put TWN.STATE roleFenced) := .put _ (by decide) (by decide) (by decide)
  have sync (t : State) : t.Steady (t.put TWN.IN_SYNC 0) := .put _ (by decide) (by decide) (by decide)
  exact (((s.fenceGroups_steady _).trans role).trans (sync _)).trans (.of_regs rfl rfl)

theorem State.controllerFault_steady : s.Steady s.controllerFault := by
  have sent : s.Steady (s.twinSend 0x0A 0 0 0 0xFFFF []) := (s.emit_steady _).ite (.refl s)
  unfold State.controllerFault
  exact State.Steady.ite (sent.trans (State.fenceAll_eq _ ▸ (State.fenced_steady _).trans (State.occur_steady ..))) (.refl s)

/-- A controller fault while paired fences TWN. -/
theorem State.controllerFault_role {s : State} (ok : s.regsOk) (paired : s.mirroring = true) : s.controllerFault.get TWN.STATE = roleFenced := by
  unfold State.controllerFault
  rw [if_pos paired, State.fenceAll_eq]
  have sent : s.Steady (s.twinSend 0x0A 0 0 0 0xFFFF []) := (s.emit_steady _).ite (.refl s)
  generalize s.twinSend 0x0A 0 0 0 0xFFFF [] = u at sent
  have groups := (u.fenceGroups_steady fun _ => true).ok (sent.ok ok)
  have role : u.fenced.get TWN.STATE = roleFenced := by
    show (((u.fenceGroups fun _ => true).put TWN.STATE roleFenced).put TWN.IN_SYNC 0).get TWN.STATE = roleFenced
    rw [State.get_put_ne (State.regsOk_put groups ..) _ (Fld.key_ne_place (by decide) (by decide) (by decide)), State.get_put_fit groups _ _ _ (by decide)]
  refine Eq.trans ((State.occur_rep _ (by decide) ..).same ((State.fenced_steady u).ok (sent.ok ok)) _ _ _ ?_) role
  exact ⟨by decide, by decide, by decide, by decide, by decide, by decide, .inr (by decide)⟩

end Steps
end Sys2Proof.Machine
end

section
/-! SUPPORT. The DRAM channels: registers after their writes, and the operations on a channel no staged change of which waits. -/
namespace Sys2Proof.Machine

/-- A register read after the write of one at another place of its page. -/
theorem State.get_put_place {s : State} (ok : s.regsOk) {f g : Fld} (v i a : Nat) (place : f.place 0 < 32768 ∧ g.place 0 < 32768 ∧ g.place 0 ≠ f.place 0) :
    (s.put f v i).get g a = s.get g a :=
  State.get_put_ne ok v (Fld.key_ne_place place.2.1 place.1 place.2.2)

/-- A register of a channel read after the same one of another channel is written. -/
theorem State.get_put_chan {s : State} (ok : s.regsOk) {f : Fld} (v : Nat) {i a : Nat} (fits : f.place 0 < 32768) (hi : i < 12) (ha : a < 12) (ne : a ≠ i) :
    (s.put f v i).get f a = s.get f a :=
  State.get_put_ne ok v (Fld.key_ne_page fits fits (Nat.lt_trans ha (by decide)) (Nat.lt_trans hi (by decide)) fun e => ne (congrArg Page.inst e))

/-- A register read after the write of one of another block. -/
theorem State.get_put_blk {s : State} (ok : s.regsOk) {f g : Fld} (v : Nat) {i a : Nat} (fits : f.place 0 < 32768 ∧ g.place 0 < 32768) (inst : i < 256 ∧ a < 256)
    (ne : g.blk ≠ f.blk) : (s.put f v i).get g a = s.get g a :=
  State.get_put_ne ok v (Fld.key_ne_page fits.2 fits.1 inst.2 inst.1 fun e => ne (congrArg Page.blk e))

/-- A saturating counter after it counts one. -/
theorem State.get_inc_same {s : State} (ok : s.regsOk) (f : Fld) (i : Nat) : (s.inc f 1 i).get f i = satAdd f.width (s.get f i) 1 := by
  refine State.get_put_fit ok f i 0 ?_
  unfold satAdd
  have := Nat.two_pow_pos f.width
  omega

/-- A register that no report touches, of a channel's page. -/
theorem State.Rep.get_dmc {s t : State} (h : s.Rep t) (ok : s.regsOk) {f : Fld} (blk : f.blk = .dmc) {c : Nat} (hc : c < 12)
    (place : 0x800 ≤ f.place 0 ∧ f.place 0 < 32768) : t.get f c = s.get f c := by
  unfold State.get
  rw [blk]
  refine h.same ok _ f 0 ⟨place.2, Nat.lt_trans hc (by decide), ?_, ?_, ?_, ?_, .inr ⟨?_, ?_, ?_, ?_⟩⟩
  · omega
  · omega
  · omega
  · omega
  all_goals exact fun e => nomatch e

theorem dmcPage_inst {c : Nat} (hc : c < 12) : (dmcPage c).inst < 256 := Nat.lt_trans hc (by decide)

/-! ## Staging -/

theorem State.unstaged_of_ctl {s t : State} (h : t.ctl = s.ctl) {p : Page} (u : s.unstaged p) : t.unstaged p := by
  unfold State.unstaged State.part
  rw [h]
  exact u

/-- At the safe point of a page for which no change waits, nothing happens. -/
theorem State.safePoint_unstaged {s : State} {p : Page} (u : s.unstaged p) (other : p ≠ assignPage) : s.safePoint p = s := by
  obtain ⟨part, single⟩ := u
  have restored : s.restorePart p = s := by
    unfold State.restorePart
    rw [part]
  have applied : s.applyPart p = s := by
    unfold State.applyPart
    rw [part]
  unfold State.safePoint
  rw [if_neg other, restored, applied]
  exact Sys2Proof.Proofs.AssignPageApply.applySingle_of_none single _

theorem State.safePoint_dmc {s : State} {c : Nat} (u : s.unstaged (dmcPage c)) : s.safePoint (dmcPage c) = s :=
  State.safePoint_unstaged u fun e => nomatch congrArg Page.blk e

/-! ## A channel that stops -/

/-- A channel that no longer serves, before its safe point. -/
def State.stopped (s : State) (c st : Nat) : State :=
  { (s.put DMC.STATE st c).put DMC.RATE_NOW 0 c with
    dmc := { s.dmc with training := tdel s.dmc.training c, retraining := tdel s.dmc.retraining c, leaving := s.dmc.leaving.filter (· != c), srWait := s.dmc.srWait.filter (· != c) } }

section Stopped
variable {s : State} {c : Nat}

theorem State.dmcStop_unstaged (u : s.unstaged (dmcPage c)) (st : Nat) : s.dmcStop c st = s.stopped c st :=
  State.safePoint_dmc (s := s.stopped c st) (State.unstaged_of_ctl (s := s) rfl u)

theorem State.regsOk_stopped (ok : s.regsOk) (st : Nat) : (s.stopped c st).regsOk :=
  State.regsOk_of_regs (State.regsOk_put (State.regsOk_put ok DMC.STATE st c 0) DMC.RATE_NOW 0 c 0) rfl

theorem State.stopped_state (ok : s.regsOk) {st : Nat} (fits : st < 16) : (s.stopped c st).get DMC.STATE c = st :=
  calc ((s.put DMC.STATE st c).put DMC.RATE_NOW 0 c).get DMC.STATE c
    _ = (s.put DMC.STATE st c).get DMC.STATE c := State.get_put_place (State.regsOk_put ok ..) _ _ _ (by decide)
    _ = st := State.get_put_fit ok _ _ _ fits

theorem State.stopped_rate (ok : s.regsOk) (st : Nat) : (s.stopped c st).get DMC.RATE_NOW c = 0 :=
  State.get_put_fit (v := 0) (State.regsOk_put ok DMC.STATE st c 0) DMC.RATE_NOW c 0 (by decide)

theorem State.stopped_get (ok : s.regsOk) (st : Nat) {g : Fld} (a : Nat) (place : g.place 0 < 32768 ∧ g.place 0 ≠ DMC.STATE.place 0 ∧ g.place 0 ≠ DMC.RATE_NOW.place 0) :
    (s.stopped c st).get g a = s.get g a :=
  calc ((s.put DMC.STATE st c).put DMC.RATE_NOW 0 c).get g a
    _ = (s.put DMC.STATE st c).get g a := State.get_put_place (State.regsOk_put ok ..) _ _ _ ⟨by decide, place.1, place.2.2⟩
    _ = s.get g a := State.get_put_place ok _ _ _ ⟨by decide, place.1, place.2.1⟩

theorem State.stopped_state_other (ok : s.regsOk) (st : Nat) {d : Nat} (hc : c < 12) (hd : d < 12) (ne : d ≠ c) : (s.stopped c st).get DMC.STATE d = s.get DMC.STATE d :=
  calc ((s.put DMC.STATE st c).put DMC.RATE_NOW 0 c).get DMC.STATE d
    _ = (s.put DMC.STATE st c).get DMC.STATE d := State.get_put_place (State.regsOk_put ok ..) _ _ _ (by decide)
    _ = s.get DMC.STATE d := State.get_put_chan ok _ (by decide) hc hd ne

theorem State.stopped_blk (ok : s.regsOk) (st : Nat) {g : Fld} {a : Nat} (hc : c < 12) (ha : a < 256) (fits : g.place 0 < 32768) (ne : g.blk ≠ .dmc) :
    (s.stopped c st).get g a = s.get g a :=
  have inst : c < 256 := Nat.lt_trans hc (by decide)
  calc ((s.put DMC.STATE st c).put DMC.RATE_NOW 0 c).get g a
    _ = (s.put DMC.STATE st c).get g a := State.get_put_blk (State.regsOk_put ok ..) _ ⟨by decide, fits⟩ ⟨inst, ha⟩ ne
    _ = s.get g a := State.get_put_blk ok _ ⟨by decide, fits⟩ ⟨inst, ha⟩ ne

theorem State.stopped_keeps (s : State) (c st : Nat) : State.Keeps ⟨[.regs, .dmc], some [DMC.STATE, DMC.RATE_NOW]⟩ s (s.stopped c st) :=
  (((State.Keeps.refl _ s).put DMC.STATE _ _ _ (by decide)).put DMC.RATE_NOW _ _ _ (by decide)).upd_dmc (by decide)

/-- With the interleave decided, or while a channel trains, no pairs are chosen. -/
theorem State.dmcPairs_decided (n : s.get DMC.NCHAN ≠ 0) : s.dmcPairs = s := if_pos (by simp [n])

theorem State.dmcPairs_trains {d : Nat} (hd : d < 12) (trains : s.get DMC.STATE d = dmcTraining) : s.dmcPairs = s := by
  refine if_pos ?_
  rw [Bool.or_eq_true]
  exact .inr (List.any_eq_true.mpr ⟨d, List.mem_range.mpr hd, beq_iff_eq.mpr trains⟩)

end Stopped

/-! ## A channel that fails -/

section Failed
variable {s : State} {c : Nat}

theorem State.dmcRate_lt (s : State) (c : Nat) : s.dmcRate c < 16 := by
  have rank (n : Nat) : rankRate n ≤ 3 := by
    unfold rankRate
    split_ifs <;> decide
  have one (d : Nat) : s.chanRate d ≤ 3 := by
    have := rank (s.get DMC.RANKS d)
    unfold State.chanRate
    omega
  have := one c
  unfold State.dmcRate
  dsimp only
  split_ifs <;> omega

/-- A FAILED channel, its work gone, before the reports of it. -/
def State.failed (s : State) (c : Nat) : State := (s.dramEmpty c).stopped c dmcFailed

theorem State.regsOk_failed (ok : s.regsOk) : (s.failed c).regsOk := State.regsOk_stopped (s := s.dramEmpty c) ok _

theorem State.failed_keeps (s : State) (c : Nat) : State.Keeps ⟨[.regs, .tier, .dmc], some [DMC.STATE, DMC.RATE_NOW]⟩ s (s.failed c) :=
  State.Keeps.step (State.stopped_keeps ..) (State.Keeps.mono (State.dramEmpty_keeps s c) (by decide)) (by decide)

theorem State.failed_role (ok : s.regsOk) (hc : c < 12) : (s.failed c).role = s.role :=
  State.stopped_blk (s := s.dramEmpty c) ok _ hc (by decide) (by decide) (by decide)

/-- A channel that fails once the interleave is decided: its registers, then what R292 gives by its place in the interleave. -/
theorem State.dmcFail_eq (serves : s.get DMC.STATE c ≠ dmcFailed) (u : s.unstaged (dmcPage c)) (ok : s.regsOk) (hc : c < 12) (decided : s.get DMC.NCHAN ≠ 0) :
    s.dmcFail c = if s.bitOf DMC.PAIRS_USED (c / 2) = false then (s.failed c).misc (dmcPage c) 5 (le 1 c)
      else if s.solo = true then (s.failed c).misc (dmcPage c) 7 (le 1 c) else (s.failed c).controllerFault.misc (dmcPage c) 6 (le 1 c) := by
  have stop : (s.dramEmpty c).dmcStop c dmcFailed = s.failed c := State.dmcStop_unstaged (s := s.dramEmpty c) u _
  have used : (s.failed c).bitOf DMC.PAIRS_USED (c / 2) = s.bitOf DMC.PAIRS_USED (c / 2) :=
    congrArg (bit · _) (State.stopped_get (s := s.dramEmpty c) ok _ _ (by decide))
  have solo : (s.failed c).solo = s.solo := congrArg (· == roleSolo) (State.failed_role ok hc)
  have pairs : ((s.failed c).misc (dmcPage c) 5 (le 1 c)).dmcPairs = (s.failed c).misc (dmcPage c) 5 (le 1 c) := by
    refine State.dmcPairs_decided ?_
    have kept := (State.misc_steady (s.failed c) (dmcPage c) 5 (le 1 c)).get (State.regsOk_failed ok) (c := 0) (f := DMC.NCHAN) (by decide) (by decide) rfl
    exact fun zero => decided (((kept.trans (State.stopped_get (s := s.dramEmpty c) ok _ _ (by decide))).symm).trans zero)
  unfold State.dmcFail
  rw [if_neg serves]
  simp only [stop, used, solo, pairs, Bool.not_eq_true']

/-- From the failed registers on, the failure is steady. -/
theorem State.dmcFail_steady (serves : s.get DMC.STATE c ≠ dmcFailed) (u : s.unstaged (dmcPage c)) (ok : s.regsOk) (hc : c < 12) (decided : s.get DMC.NCHAN ≠ 0) :
    (s.failed c).Steady (s.dmcFail c) := by
  rw [State.dmcFail_eq serves u ok hc decided]
  exact State.Steady.ite (State.misc_steady ..) (State.Steady.ite (State.misc_steady ..) ((State.controllerFault_steady _).trans (State.misc_steady ..)))

/-- The twin's state at a report. -/
theorem State.misc_role {s : State} (ok : s.regsOk) {p : Page} (hp : p.inst < 256) (v : Nat) (pl : List Byte) : (s.misc p v pl).role = s.role :=
  (State.misc_rep s hp v pl).same ok _ _ _ ⟨by decide, by decide, by decide, by decide, by decide, by decide, .inr (by decide)⟩

theorem State.dmcFail_role (serves : s.get DMC.STATE c ≠ dmcFailed) (u : s.unstaged (dmcPage c)) (ok : s.regsOk) (hc : c < 12) (decided : s.get DMC.NCHAN ≠ 0)
    (left : s.bitOf DMC.PAIRS_USED (c / 2) = false) : (s.dmcFail c).role = s.role := by
  rw [State.dmcFail_eq serves u ok hc decided, if_pos left, State.misc_role (State.regsOk_failed ok) (dmcPage_inst hc), State.failed_role ok hc]

theorem State.dmcFail_fences (serves : s.get DMC.STATE c ≠ dmcFailed) (u : s.unstaged (dmcPage c)) (ok : s.regsOk) (hc : c < 12) (decided : s.get DMC.NCHAN ≠ 0)
    (used : s.bitOf DMC.PAIRS_USED (c / 2) = true) (paired : s.mirroring = true) : (s.dmcFail c).role = roleFenced := by
  have failed := State.regsOk_failed (c := c) ok
  have role := State.failed_role ok hc
  have solo : s.solo = false := by
    simp only [State.mirroring, State.solo, Bool.or_eq_true, beq_iff_eq, beq_eq_false_iff_ne] at paired ⊢
    rcases paired with (e | e) | e <;> rw [e] <;> decide
  have mirrors : (s.failed c).mirroring = true := by
    unfold State.mirroring at paired ⊢
    rw [role]
    exact paired
  rw [State.dmcFail_eq serves u ok hc decided, used, solo, if_neg (by decide), if_neg (by decide), State.misc_role ((State.controllerFault_steady _).ok failed) (dmcPage_inst hc)]
  exact State.controllerFault_role failed mirrors

theorem State.dmcFail_shows (serves : s.get DMC.STATE c ≠ dmcFailed) (u : s.unstaged (dmcPage c)) (ok : s.regsOk) (hc : c < 12) (decided : s.get DMC.NCHAN ≠ 0) :
    (s.dmcFail c).get DMC.STATE c = dmcFailed ∧ (s.dmcFail c).get DMC.RATE_NOW c = 0 := by
  have steady := State.dmcFail_steady serves u ok hc decided
  have failed := State.regsOk_failed (c := c) ok
  exact ⟨(steady.get failed hc (by decide) rfl).trans (State.stopped_state (s := s.dramEmpty c) ok (by decide)),
    (steady.get failed hc (by decide) rfl).trans (State.stopped_rate (s := s.dramEmpty c) ok _)⟩

theorem State.dmcFail_frame (serves : s.get DMC.STATE c ≠ dmcFailed) (u : s.unstaged (dmcPage c)) (ok : s.regsOk) (hc : c < 12) (decided : s.get DMC.NCHAN ≠ 0) :
    State.Keeps ⟨failParts, some failFields⟩ s (s.dmcFail c) := by
  have failed : State.Keeps ⟨failParts, some failFields⟩ s (s.failed c) := (State.failed_keeps s c).mono (by decide)
  have told (t : State) (k : State.Keeps ⟨failParts, some failFields⟩ s t) (v : Nat) : State.Keeps ⟨failParts, some failFields⟩ s (t.misc (dmcPage c) v (le 1 c)) :=
    State.Keeps.step (State.misc_keeps ..) k (by decide)
  rw [State.dmcFail_eq serves u ok hc decided]
  exact State.Keeps.ite (told _ failed _) (State.Keeps.ite (told _ failed _) (told _ (State.Keeps.step (State.controllerFault_keeps _) failed (by decide)) _))

/-- The work of a channel that failed is gone; what a failure touches of DMC is the channel's. -/
theorem State.dmcFail_retraining (serves : s.get DMC.STATE c ≠ dmcFailed) (u : s.unstaged (dmcPage c)) (ok : s.regsOk) (hc : c < 12) (decided : s.get DMC.NCHAN ≠ 0) :
    tget (s.dmcFail c).dmc.retraining c = none := by
  have told (t : State) (v : Nat) : (t.misc (dmcPage c) v (le 1 c)).dmc = t.dmc := (State.misc_keeps ..).kept .dmc (by decide)
  have gone : tget (s.failed c).dmc.retraining c = none := tget_tdel_same ..
  rw [State.dmcFail_eq serves u ok hc decided]
  split_ifs
  · rw [told]; exact gone
  · rw [told]; exact gone
  · rw [told, show (s.failed c).controllerFault.dmc = (s.failed c).dmc from (State.controllerFault_keeps _).kept .dmc (by decide)]
    exact gone

end Failed

end Sys2Proof.Machine
end

section
/-! SUPPORT. The DRAM channels: a training that passes (R273), and the pairs of the interleave (R269). -/
namespace Sys2Proof.Machine

/-! ## READY -/

/-- A channel that has trained, before the pairs and what waits for it. -/
def State.readied (s : State) (c : Nat) : State :=
  { ((s.put DMC.STATE dmcReady c).put DMC.RATE_NOW (s.dmcRate c) c).put DMC.CAP_GIB (chanGib (s.dmcTopo c)) c with
    dmc := { s.dmc with training := tdel s.dmc.training c, leaving := s.dmc.leaving.filter (· != c), srWait := s.dmc.srWait.filter (· != c) } }

section Readied
variable {s : State} {c : Nat}

theorem State.dmcReadied_serves (wait : s.dmc.srWait.contains c = false) : s.dmcReadied c = (s.readied c).dmcPairs.unstall := by
  unfold State.dmcReadied
  extract_lets shown waits _ ready
  have none : waits = false := wait
  rw [none]
  rfl

theorem State.dmcReadied_waits (wait : s.dmc.srWait.contains c = true) (warm : s.wdn.warm = false) : s.dmcReadied c = (s.readied c).selfRefresh c := by
  unfold State.dmcReadied
  extract_lets shown waits _ ready
  have some : waits = true := wait
  have cold : ready.wdn.warm = false := warm
  rw [some, cold]
  rfl

variable (ok : s.regsOk)
include ok

theorem State.regsOk_readied : (s.readied c).regsOk :=
  State.regsOk_of_regs (State.regsOk_put (State.regsOk_put (State.regsOk_put ok DMC.STATE dmcReady c 0) DMC.RATE_NOW (s.dmcRate c) c 0) DMC.CAP_GIB (chanGib (s.dmcTopo c)) c 0) rfl

theorem State.readied_get {g : Fld} (a : Nat) (place : g.place 0 < 32768 ∧ g.place 0 ≠ DMC.RATE_NOW.place 0 ∧ g.place 0 ≠ DMC.CAP_GIB.place 0) :
    (s.readied c).get g a = (s.put DMC.STATE dmcReady c).get g a :=
  have first := State.regsOk_put ok DMC.STATE dmcReady c 0
  calc (((s.put DMC.STATE dmcReady c).put DMC.RATE_NOW (s.dmcRate c) c).put DMC.CAP_GIB (chanGib (s.dmcTopo c)) c).get g a
    _ = ((s.put DMC.STATE dmcReady c).put DMC.RATE_NOW (s.dmcRate c) c).get g a := State.get_put_place (State.regsOk_put first ..) _ _ _ ⟨by decide, place.1, place.2.2⟩
    _ = (s.put DMC.STATE dmcReady c).get g a := State.get_put_place first _ _ _ ⟨by decide, place.1, place.2.1⟩

theorem State.readied_state : (s.readied c).get DMC.STATE c = dmcReady := (State.readied_get ok c (by decide)).trans (State.get_put_fit ok _ _ _ (by decide))

theorem State.readied_rate : (s.readied c).get DMC.RATE_NOW c = s.dmcRate c :=
  have first := State.regsOk_put ok DMC.STATE dmcReady c 0
  calc (((s.put DMC.STATE dmcReady c).put DMC.RATE_NOW (s.dmcRate c) c).put DMC.CAP_GIB (chanGib (s.dmcTopo c)) c).get DMC.RATE_NOW c
    _ = ((s.put DMC.STATE dmcReady c).put DMC.RATE_NOW (s.dmcRate c) c).get DMC.RATE_NOW c := State.get_put_place (State.regsOk_put first ..) _ _ _ (by decide)
    _ = s.dmcRate c := State.get_put_fit first _ _ _ (State.dmcRate_lt s c)

theorem State.readied_cap : (s.readied c).get DMC.CAP_GIB c = chanGib (s.dmcTopo c) % 2 ^ 32 :=
  State.get_put_same (State.regsOk_put (State.regsOk_put ok DMC.STATE dmcReady c 0) DMC.RATE_NOW (s.dmcRate c) c 0) DMC.CAP_GIB (chanGib (s.dmcTopo c)) c 0

omit ok in
theorem State.readied_keeps (s : State) (c : Nat) : State.Keeps ⟨[.regs, .dmc], some [DMC.STATE, DMC.RATE_NOW, DMC.CAP_GIB]⟩ s (s.readied c) :=
  ((((State.Keeps.refl _ s).put DMC.STATE _ _ _ (by decide)).put DMC.RATE_NOW _ _ _ (by decide)).put DMC.CAP_GIB _ _ _ (by decide)).upd_dmc (by decide)

end Readied

/-- The image of a training that was not restored is the settings store's to take up (R274). -/
def State.imaged (s : State) (c : Nat) (t : TrainRun) : State :=
  if t.restored then s else
    { s with nvs.image.train := tset s.nvs.image.train c (topoCode (s.dmcTopo c), s.dmcRate c, Config.chanTemp s.timeNs c), dmc.newImages := true }

section Imaged
variable (s : State) (c : Nat) (t : TrainRun)

theorem State.imaged_regs : (s.imaged c t).regs = s.regs := by
  unfold State.imaged
  split <;> rfl

theorem State.imaged_unit : (s.imaged c t).unit = s.unit := by
  unfold State.imaged
  split <;> rfl

theorem State.imaged_tier : (s.imaged c t).tier = s.tier := by
  unfold State.imaged
  split <;> rfl

theorem State.imaged_ctl : (s.imaged c t).ctl = s.ctl := by
  unfold State.imaged
  split <;> rfl

theorem State.imaged_wdn : (s.imaged c t).wdn = s.wdn := by
  unfold State.imaged
  split <;> rfl

theorem State.imaged_dmc : (s.imaged c t).dmc = { s.dmc with newImages := !t.restored || s.dmc.newImages } := by
  unfold State.imaged
  cases t.restored <;> rfl

theorem State.imaged_get (f : Fld) (a b : Nat) : (s.imaged c t).get f a b = s.get f a b := State.rd_of_regs (s.imaged_regs c t) (s.imaged_unit c t) _ _ _

theorem State.imaged_rate : (s.imaged c t).dmcRate c = s.dmcRate c := by
  unfold State.dmcRate State.chanRate
  simp only [State.imaged_get]

theorem State.imaged_topo : (s.imaged c t).dmcTopo = s.dmcTopo := by
  unfold State.dmcTopo
  simp only [State.imaged_get]

theorem State.imaged_nvs (h : t.restored = true) : (s.imaged c t).nvs = s.nvs := by
  unfold State.imaged
  rw [if_pos h]

theorem State.imaged_train (h : t.restored = false) :
    tget (s.imaged c t).nvs.image.train c = some (topoCode (s.dmcTopo c), s.dmcRate c, Config.chanTemp s.timeNs c) := by
  unfold State.imaged
  rw [h]
  exact tget_tset_same ..

theorem State.imaged_keeps : State.Keeps ⟨[.dmc, .nvs], some []⟩ s (s.imaged c t) := by
  unfold State.imaged
  exact State.Keeps.ite (.refl _ s) (State.Keeps.upd (.refl _ s) fun p out => by cases p <;> first | rfl | exact absurd (by decide) out)

end Imaged

theorem exec_trainingPass {s : State} {c : Chan} {r : TrainRun} (training : tget s.dmc.training c.val = some r) :
    exec (.dmcTrainingDone c .pass) s = .next (((s.imaged c.val r).dmcReadied c.val).movSettle) := by
  show execDmcTrainingDone c .pass s = _
  unfold execDmcTrainingDone
  simp only [training]
  rfl

/-! ## Clauses -/

section Clauses
variable {s : State} {c : Chan} {r : TrainRun}

/-- The channel as its training ends, of the interleave or before it. -/
def State.dmcPassed (s : State) (c : Nat) (r : TrainRun) : State := (s.imaged c r).readied c

theorem State.dmcPassed_keeps (s : State) (c : Nat) (r : TrainRun) : State.Keeps ⟨[.regs, .dmc, .nvs], some [DMC.STATE, DMC.RATE_NOW, DMC.CAP_GIB]⟩ s (s.dmcPassed c r) :=
  State.Keeps.step (State.readied_keeps ..) (State.Keeps.mono (s.imaged_keeps c r) (by decide)) (by decide)

theorem State.dmcPassed_dmc (s : State) (c : Nat) (r : TrainRun) : (s.dmcPassed c r).dmc =
    { s.dmc with training := tdel s.dmc.training c, leaving := s.dmc.leaving.filter (· != c), srWait := s.dmc.srWait.filter (· != c), newImages := !r.restored || s.dmc.newImages } := by
  have shown : (s.dmcPassed c r).dmc = { (s.imaged c r).dmc with
    training := tdel (s.imaged c r).dmc.training c, leaving := (s.imaged c r).dmc.leaving.filter (· != c), srWait := (s.imaged c r).dmc.srWait.filter (· != c) } := rfl
  rw [shown, State.imaged_dmc]

theorem State.imaged_ok (ok : s.regsOk) (c : Nat) : (s.imaged c r).regsOk := State.regsOk_of_regs ok (s.imaged_regs c r)

theorem State.dmcPassed_shows (ok : s.regsOk) (c : Nat) :
    (s.dmcPassed c r).get DMC.STATE c = dmcReady ∧ (s.dmcPassed c r).get DMC.RATE_NOW c = s.dmcRate c ∧ (s.dmcPassed c r).get DMC.CAP_GIB c = chanGib (s.dmcTopo c) % 2 ^ 32 := by
  have imaged := s.imaged_ok (r := r) ok c
  refine ⟨State.readied_state imaged, ?_, ?_⟩
  · rw [← s.imaged_rate c r]
    exact State.readied_rate imaged
  · rw [← s.imaged_topo c r]
    exact State.readied_cap imaged

theorem State.dmcPassed_nchan (ok : s.regsOk) (c : Nat) : (s.dmcPassed c r).get DMC.NCHAN = s.get DMC.NCHAN := by
  have imaged := s.imaged_ok (r := r) ok c
  refine (State.readied_get imaged _ (by decide)).trans ((State.get_put_place imaged _ _ _ (by decide)).trans ?_)
  rw [State.imaged_get]

theorem trainingPass_ready (ok : s.regsOk) (training : tget s.dmc.training c.val = some r) (decided : s.get DMC.NCHAN ≠ 0) (wait : s.dmc.srWait.contains c.val = false)
    (calm : ∀ x ∈ s.tier.reads, x.panStall = false) :
    ∃ t, exec (.dmcTrainingDone c .pass) s = .next t ∧ t.get DMC.STATE c.val = dmcReady ∧ t.get DMC.RATE_NOW c.val = s.dmcRate c.val ∧
      t.get DMC.CAP_GIB c.val = chanGib (s.dmcTopo c.val) % 2 ^ 32 ∧
      t.dmc = { s.dmc with training := tdel s.dmc.training c.val, leaving := s.dmc.leaving.filter (· != c.val), srWait := s.dmc.srWait.filter (· != c.val), newImages := !r.restored || s.dmc.newImages } ∧
      (r.restored = true → t.nvs = s.nvs) ∧ (r.restored = false → tget t.nvs.image.train c.val = some (topoCode (s.dmcTopo c.val), s.dmcRate c.val, Config.chanTemp s.timeNs c.val)) ∧
      s.frame t [.regs, .qe, .mov, .tier, .dmc, .nvs] [DMC.STATE, DMC.RATE_NOW, DMC.CAP_GIB, MOV.LAST_FCLASS, MOV.LAST_FOFF, MOV.LAST_STATUS] := by
  have waits : (s.imaged c.val r).dmc.srWait.contains c.val = false := by rw [State.imaged_dmc]; exact wait
  have pairs : (s.dmcPassed c.val r).dmcPairs = s.dmcPassed c.val r := State.dmcPairs_decided (by rw [State.dmcPassed_nchan ok]; exact decided)
  have quiet : (s.dmcPassed c.val r).unstall = s.dmcPassed c.val r := State.unstall_of_none (by
    rw [show (s.dmcPassed c.val r).tier = s.tier from s.imaged_tier c.val r]
    exact calm)
  have done : exec (.dmcTrainingDone c .pass) s = .next (s.dmcPassed c.val r).movSettle := by
    rw [exec_trainingPass training, State.dmcReadied_serves waits]
    show (Host.Outcome.next (State.movSettle (s.dmcPassed c.val r).dmcPairs.unstall) : Res) = _
    rw [pairs, quiet]
  obtain ⟨state, rate, cap⟩ := State.dmcPassed_shows (r := r) ok c.val
  have readied : (s.dmcPassed c.val r).regsOk := State.regsOk_readied (s.imaged_ok ok c.val)
  have settles := State.movSettle_keeps (s.dmcPassed c.val r)
  have steady := (s.dmcPassed c.val r).movSettle_steady
  have dmc : (s.dmcPassed c.val r).movSettle.dmc = (s.dmcPassed c.val r).dmc := settles.kept .dmc (by decide)
  have nvs : (s.dmcPassed c.val r).movSettle.nvs = (s.imaged c.val r).nvs := settles.kept .nvs (by decide)
  refine ⟨_, done, (steady.get readied c.isLt (by decide) rfl).trans state, (steady.get readied c.isLt (by decide) rfl).trans rate,
    (settles.get readied rfl (by decide) (by decide) _).trans cap, ?_, fun restored => ?_, fun cold => ?_, ?_⟩
  · rw [dmc, State.dmcPassed_dmc]
  · rw [nvs, s.imaged_nvs _ _ restored]
  · rw [nvs]
    exact s.imaged_train _ _ cold
  · exact (State.Keeps.step settles (m := ⟨[.regs, .qe, .mov, .tier, .dmc, .nvs], some [DMC.STATE, DMC.RATE_NOW, DMC.CAP_GIB, MOV.LAST_FCLASS, MOV.LAST_FOFF, MOV.LAST_STATUS]⟩)
      ((State.dmcPassed_keeps ..).mono (by decide)) (by decide)).frame ok (by decide)

theorem trainingPass_resumes (ok : s.regsOk) (training : tget s.dmc.training c.val = some r) (decided : s.get DMC.NCHAN ≠ 0) (wait : s.dmc.srWait.contains c.val = false) :
    ∃ t, exec (.dmcTrainingDone c .pass) s = .next t ∧ t.get DMC.STATE c.val = dmcReady ∧ t.get DMC.RATE_NOW c.val = s.dmcRate c.val ∧
      s.frame t ([.nvs] ++ unstallParts) ([DMC.STATE, DMC.RATE_NOW, DMC.CAP_GIB] ++ unstallFields) := by
  have waits : (s.imaged c.val r).dmc.srWait.contains c.val = false := by rw [State.imaged_dmc]; exact wait
  have pairs : (s.dmcPassed c.val r).dmcPairs = s.dmcPassed c.val r := State.dmcPairs_decided (by rw [State.dmcPassed_nchan ok]; exact decided)
  have done : exec (.dmcTrainingDone c .pass) s = .next (s.dmcPassed c.val r).unstall.movSettle := by
    rw [exec_trainingPass training, State.dmcReadied_serves waits]
    show (Host.Outcome.next (State.movSettle (s.dmcPassed c.val r).dmcPairs.unstall) : Res) = _
    rw [pairs]
  obtain ⟨state, rate, -⟩ := State.dmcPassed_shows (r := r) ok c.val
  have readied : (s.dmcPassed c.val r).regsOk := State.regsOk_readied (s.imaged_ok ok c.val)
  have steady := (s.dmcPassed c.val r).unstall_steady.trans (State.movSettle_steady _)
  refine ⟨_, done, (steady.get readied c.isLt (by decide) rfl).trans state, (steady.get readied c.isLt (by decide) rfl).trans rate, ?_⟩
  have trains := (s.dmcPassed_keeps c.val r).mono (m := ⟨[.nvs] ++ unstallParts, some ([DMC.STATE, DMC.RATE_NOW, DMC.CAP_GIB] ++ unstallFields)⟩) (by decide)
  exact (State.Keeps.step (State.movSettle_keeps _) (State.Keeps.step (State.unstall_keeps _) trains (by decide)) (by decide)).frame ok (by decide)

/-! ## The pairs of the interleave -/

section Pairs

theorem State.pairsBest_congr {s t : State} (state : ∀ d, t.get DMC.STATE d = s.get DMC.STATE d) (topo : ∀ d, t.dmcTopo d = s.dmcTopo d) : t.pairsBest = s.pairsBest := by
  have trained (d : Nat) : t.dmcTrained d = s.dmcTrained d := by
    unfold State.dmcTrained State.dmcServes
    rw [state]
  have ready : t.pairsReady = s.pairsReady := by
    unfold State.pairsReady
    simp only [trained, topo]
  unfold State.pairsBest
  simp only [ready, topo]

/-- There are six pairs. -/
theorem State.pairsBest_length (s : State) : s.pairsBest.length ≤ 6 := by
  have few (p : Nat → Bool) : (s.pairsReady.filter p).length ≤ 6 :=
    Nat.le_trans (List.length_filter_le ..) (Nat.le_trans (List.length_filter_le ..) (by simp))
  have fold (f : Nat → List Nat) (bound : ∀ k, (f k).length ≤ 6) (l : List Nat) : ∀ best : List Nat, best.length ≤ 6 →
      (l.foldl (fun best k => if best.length < (f k).length then f k else best) best).length ≤ 6 := by
    induction l with
    | nil => exact fun _ h => h
    | cons k l ih =>
      intro best h
      refine ih _ ?_
      dsimp only
      split
      · exact bound k
      · exact h
  exact fold (fun k => s.pairsReady.filter fun j => s.dmcTopo (2 * j) == s.dmcTopo (2 * k)) (fun _ => few _) _ [] (by decide)

/-- A READY channel that no pair of the interleave holds is left out. -/
def State.leftOut (s : State) (d : Nat) : State := ((s.put DMC.STATE dmcExcluded d).safePoint (dmcPage d)).blkErr (dmcPage d) 20 5 (le 1 d)

section LeftOut
variable {s : State} {d : Nat}

theorem State.leftOut_eq (u : s.unstaged (dmcPage d)) : s.leftOut d = (s.put DMC.STATE dmcExcluded d).blkErr (dmcPage d) 20 5 (le 1 d) := by
  unfold State.leftOut
  rw [State.safePoint_dmc (s := s.put DMC.STATE dmcExcluded d) u]

theorem State.leftOut_ctl (u : s.unstaged (dmcPage d)) : (s.leftOut d).ctl = s.ctl := by
  rw [State.leftOut_eq u]
  exact (State.blkErr_keeps ..).kept .ctl (by decide)

theorem State.leftOut_ok (ok : s.regsOk) (u : s.unstaged (dmcPage d)) : (s.leftOut d).regsOk := by
  rw [State.leftOut_eq u]
  exact (State.blkErr_keeps ..).ok (State.regsOk_put ok ..)

theorem State.leftOut_state (ok : s.regsOk) (u : s.unstaged (dmcPage d)) (hd : d < 12) {e : Nat} (he : e < 12) :
    (s.leftOut d).get DMC.STATE e = if e = d then dmcExcluded else s.get DMC.STATE e := by
  rw [State.leftOut_eq u, (State.blkErr_steady ..).get (State.regsOk_put ok ..) he (by decide) rfl]
  split
  · next same =>
    rw [same]
    exact State.get_put_fit ok _ _ _ (by decide)
  · next ne => exact State.get_put_chan ok _ (by decide) hd he ne

/-- What leaving a channel out may change. -/
def leftOut_scope : Scope := ⟨reported, some (DMC.STATE :: reportedFields)⟩

theorem State.leftOut_keeps (u : s.unstaged (dmcPage d)) : State.Keeps leftOut_scope s (s.leftOut d) := by
  rw [State.leftOut_eq u]
  exact State.Keeps.step (State.blkErr_keeps ..) ((State.Keeps.refl _ s).put DMC.STATE _ _ _ (by decide)) (by decide)

end LeftOut

/-- The channels left out one after another. -/
theorem State.allLeftOut (l : List Nat) {s : State} (ok : s.regsOk) (u : ∀ d, d < 12 → s.unstaged (dmcPage d)) (fits : ∀ d ∈ l, d < 12) :
    (l.foldl State.leftOut s).regsOk ∧ State.Keeps leftOut_scope s (l.foldl State.leftOut s) ∧
      ∀ e, e < 12 → (l.foldl State.leftOut s).get DMC.STATE e = if e ∈ l then dmcExcluded else s.get DMC.STATE e := by
  induction l generalizing s with
  | nil => exact ⟨ok, .refl _ s, fun e _ => (if_neg (List.not_mem_nil)).symm⟩
  | cons d l ih =>
    have here := u d (fits d (.head _))
    obtain ⟨done, kept, shown⟩ := ih (State.leftOut_ok ok here) (fun e he => State.unstaged_of_ctl (State.leftOut_ctl here) (u e he)) fun e he => fits e (.tail _ he)
    refine ⟨done, State.Keeps.step kept (State.leftOut_keeps here) (by decide), fun e he => ?_⟩
    rw [List.foldl_cons, shown e he, State.leftOut_state ok here (fits d (.head _)) he]
    by_cases first : e = d <;> by_cases rest : e ∈ l <;> simp [first, rest]

/-- The pairs are recorded: their mask, the channels in use and the capacity. -/
def State.paired (s : State) (ps : List Nat) : State :=
  let t := (s.put DMC.PAIRS_USED (ps.foldl (fun m k => setBits m k 1 1) 0)).put DMC.NCHAN (2 * ps.length)
  t.put DMC.DRAM_GIB (match ps with | k :: _ => 2 * ps.length * chanGib (t.dmcTopo (2 * k)) | [] => 0)

theorem State.paired_keeps (s : State) (ps : List Nat) : State.Keeps ⟨[.regs], some [DMC.PAIRS_USED, DMC.NCHAN, DMC.DRAM_GIB]⟩ s (s.paired ps) :=
  (((State.Keeps.refl _ s).put DMC.PAIRS_USED _ _ _ (by decide)).put DMC.NCHAN _ _ _ (by decide)).put DMC.DRAM_GIB _ _ _ (by decide)

theorem State.paired_state {s : State} (ok : s.regsOk) (ps : List Nat) (d : Nat) : (s.paired ps).get DMC.STATE d = s.get DMC.STATE d :=
  (State.paired_keeps s ps).get ok rfl (by decide) (by decide) d

theorem State.paired_nchan {s : State} (ok : s.regsOk) {ps : List Nat} (few : ps.length ≤ 6) : (s.paired ps).get DMC.NCHAN = 2 * ps.length := by
  have first := State.regsOk_put ok DMC.PAIRS_USED (ps.foldl (fun m k => setBits m k 1 1) 0) 0 0
  refine (State.get_put_place (State.regsOk_put first ..) _ _ _ (by decide)).trans (State.get_put_fit first _ _ _ ?_)
  show 2 * ps.length < 2 ^ 4
  omega

/-- The channels left out once pairs are chosen. -/
def State.unpaired (s : State) (ps : List Nat) : List Nat := (List.range 12).filter fun c => s.dmcTrained c && !ps.contains (c / 2)

/-- Once no channel trains, the pairs are chosen. -/
theorem State.dmcPairs_chosen {s : State} (undecided : s.get DMC.NCHAN = 0) (still : ∀ d, d < 12 → s.get DMC.STATE d ≠ dmcTraining) :
    s.dmcPairs = ((s.unpaired s.pairsBest).foldl State.leftOut s).paired s.pairsBest := by
  refine if_neg ?_
  simp only [undecided, ne_eq, not_true_eq_false, decide_false, Bool.false_or, List.any_eq_true, List.mem_range, beq_iff_eq, not_exists, not_and]
  exact still

end Pairs

/-- The last training to pass: the pairs of the interleave are chosen, and a READY channel left out is EXCLUDED. -/
theorem trainingPass_pairs {ps : List Nat} (ok : s.regsOk) (training : tget s.dmc.training c.val = some r) (undecided : s.get DMC.NCHAN = 0)
    (last : ∀ d, d < 12 → d ≠ c.val → s.get DMC.STATE d ≠ dmcTraining) (wait : s.dmc.srWait.contains c.val = false) (u : ∀ d, d < 12 → s.unstaged (dmcPage d))
    (best : (s.put DMC.STATE dmcReady c.val).pairsBest = ps) :
    ∃ t, exec (.dmcTrainingDone c .pass) s = .next t ∧ t.get DMC.NCHAN = 2 * ps.length ∧
      (∀ d, d < 12 → (s.put DMC.STATE dmcReady c.val).dmcTrained d = true →
        t.get DMC.STATE d = (if ps.contains (d / 2) then (s.put DMC.STATE dmcReady c.val).get DMC.STATE d else dmcExcluded)) ∧
      s.frame t ([.nvs] ++ unstallParts) ([DMC.CAP_GIB, DMC.DRAM_GIB, DMC.NCHAN, DMC.PAIRS_USED, DMC.RATE_NOW, DMC.STATE] ++ unstallFields) := by
  have imaged := s.imaged_ok (r := r) ok c.val
  have waits : (s.imaged c.val r).dmc.srWait.contains c.val = false := by rw [State.imaged_dmc]; exact wait
  have passed : (s.dmcPassed c.val r).regsOk := State.regsOk_readied imaged
  -- of the channels' registers, the pairs depend on those that the end of training leaves
  have same {g : Fld} (d : Nat) (place : g.place 0 < 32768 ∧ g.place 0 ≠ DMC.RATE_NOW.place 0 ∧ g.place 0 ≠ DMC.CAP_GIB.place 0) :
      (s.dmcPassed c.val r).get g d = (s.put DMC.STATE dmcReady c.val).get g d := by
    refine (State.readied_get imaged d place).trans ?_
    refine State.rd_of_regs (s := s.put DMC.STATE dmcReady c.val) (t := (s.imaged c.val r).put DMC.STATE dmcReady c.val) ?_ (s.imaged_unit c.val r) _ _ _
    show ((s.imaged c.val r).put DMC.STATE dmcReady c.val).regs = _
    unfold State.put State.wr
    rw [State.imaged_regs, State.imaged_unit]
  have topo (d : Nat) : (s.dmcPassed c.val r).dmcTopo d = (s.put DMC.STATE dmcReady c.val).dmcTopo d := by
    unfold State.dmcTopo
    simp only [same d (g := DMC.RANKS) (by decide), same d (g := DMC.DENSITY) (by decide), same d (g := DMC.HEIGHT) (by decide)]
  have chosen : (s.dmcPassed c.val r).pairsBest = ps := (State.pairsBest_congr (fun d => same d (by decide)) topo).trans best
  have still (d : Nat) (hd : d < 12) : (s.dmcPassed c.val r).get DMC.STATE d ≠ dmcTraining := by
    rw [same d (by decide)]
    by_cases here : d = c.val
    · rw [here, State.get_put_fit ok _ _ _ (by decide)]
      decide
    · rw [State.get_put_chan ok _ (by decide) c.isLt hd here]
      exact last d hd here
  have pairs := State.dmcPairs_chosen ((State.dmcPassed_nchan ok c.val).trans undecided) still
  rw [chosen] at pairs
  have done : exec (.dmcTrainingDone c .pass) s = .next (State.movSettle (s.dmcPassed c.val r).dmcPairs.unstall) := by
    rw [exec_trainingPass training, State.dmcReadied_serves waits]
    rfl
  rw [pairs] at done
  have staged (d : Nat) (hd : d < 12) : (s.dmcPassed c.val r).unstaged (dmcPage d) := State.unstaged_of_ctl (s.imaged_ctl c.val r) (u d hd)
  obtain ⟨out, outKeeps, outShows⟩ := State.allLeftOut ((s.dmcPassed c.val r).unpaired ps) passed staged fun d hd => List.mem_range.mp (List.mem_of_mem_filter hd)
  generalize ((s.dmcPassed c.val r).unpaired ps).foldl State.leftOut (s.dmcPassed c.val r) = v at done out outKeeps outShows
  have few : ps.length ≤ 6 := chosen ▸ State.pairsBest_length _
  have chose := (State.paired_keeps v ps).ok out
  have steady := (v.paired ps).unstall_steady.trans (State.movSettle_steady _)
  refine ⟨_, done, (steady.get chose (c := 0) (by decide) (by decide) rfl).trans (State.paired_nchan out few), fun d hd trained => ?_, ?_⟩
  · have listed : d ∈ (s.dmcPassed c.val r).unpaired ps ↔ ps.contains (d / 2) = false := by
      have agrees : (s.dmcPassed c.val r).dmcTrained d = true := by
        unfold State.dmcTrained State.dmcServes at trained ⊢
        rw [same d (by decide)]
        exact trained
      simp [State.unpaired, hd, agrees]
    rw [steady.get chose hd (by decide) rfl, State.paired_state out, outShows d hd, same d (by decide)]
    by_cases inside : ps.contains (d / 2) = true
    · rw [if_neg fun h => by rw [listed.mp h] at inside; exact Bool.noConfusion inside, if_pos inside]
    · rw [if_pos (listed.mpr (Bool.eq_false_iff.mpr inside)), if_neg inside]
  · have passes := (s.dmcPassed_keeps c.val r).mono (m := ⟨[.nvs] ++ unstallParts, some ([DMC.CAP_GIB, DMC.DRAM_GIB, DMC.NCHAN, DMC.PAIRS_USED, DMC.RATE_NOW, DMC.STATE] ++ unstallFields)⟩) (by decide)
    have chooses := State.Keeps.step (State.paired_keeps v ps) (State.Keeps.step outKeeps passes (by decide)) (by decide)
    exact (State.Keeps.step (State.movSettle_keeps _) (State.Keeps.step (State.unstall_keeps _) chooses (by decide)) (by decide)).frame ok (by decide)

end Clauses
end Sys2Proof.Machine
end

section
/-! SUPPORT. The DRAM channels: trainings that fail (R273, R275), retraining (R276), write CRC (R279), self-refresh (R298, R299). -/
namespace Sys2Proof.Machine

variable {s : State} {c : Chan}

/-! ## Trainings that fail -/

theorem State.dmcCold_training (s : State) (c : Nat) (b : Bool) : tget (s.dmcCold c b).dmc.training c = some { restored := false, retried := b } := by
  unfold State.dmcCold
  extract_lets t
  split <;> exact tget_tset_same ..

theorem State.dmcCold_debts (s : State) (c : Nat) (b : Bool) : (s.dmcCold c b).dmc.debts = s.dmc.debts := by
  unfold State.dmcCold
  extract_lets t
  split <;> rfl

theorem State.dmcCold_out (s : State) (c : Nat) (b : Bool) : (s.dmcCold c b).out = s.out ++ (if s.pprRows c = [] then [] else [.device "DRAM_HARD_PPR" (s.pprRows c)]) := by
  unfold State.dmcCold
  extract_lets _ t
  rw [show t.pprRows c = s.pprRows c from rfl]
  cases s.pprRows c with
  | nil => exact (List.append_nil _).symm
  | cons _ _ => rfl

theorem exec_trainingFail {r : TrainRun} (training : tget s.dmc.training c.val = some r) (k : Fin 9) :
    exec (.dmcTrainingDone c (.fail k)) s =
      if r.restored then .next (s.dmcCold c.val false)
      else if !r.retried then
        .next ({ s with dmc.training := tset s.dmc.training c.val { r with retried := true } }.emit (.device "DRAM_TRAIN_FROM" [c.val, min 5 k.val]))
      else .next (s.dmcExclude c.val k.val).dmcPairs := by
  show execDmcTrainingDone c (.fail k) s = _
  unfold execDmcTrainingDone
  simp only [training]

/-- A failed restored training becomes a cold one. -/
theorem trainingFail_cold {r : TrainRun} (training : tget s.dmc.training c.val = some r) (restored : r.restored = true) (k : Fin 9) :
    ∃ t, exec (.dmcTrainingDone c (.fail k)) s = .next t ∧ tget t.dmc.training c.val = some { restored := false, retried := false } ∧
      t.out = s.out ++ (if s.pprRows c.val = [] then [] else [.device "DRAM_HARD_PPR" (s.pprRows c.val)]) ∧ s.keptBut t [.dmc, .out] :=
  ⟨_, (exec_trainingFail training k).trans (if_pos restored), s.dmcCold_training _ _, s.dmcCold_out _ _, (s.dmcCold_keeps _ _).kept⟩

/-- A failed cold training is run once more. -/
theorem trainingFail_again {r : TrainRun} (training : tget s.dmc.training c.val = some r) (cold : r.restored = false) (first : r.retried = false) (k : Fin 9) :
    ∃ t, exec (.dmcTrainingDone c (.fail k)) s = .next t ∧ tget t.dmc.training c.val = some { restored := false, retried := true } ∧
      t.out = s.out ++ [.device "DRAM_TRAIN_FROM" [c.val, min 5 k.val]] ∧ s.keptBut t [.dmc, .out] := by
  have done := exec_trainingFail training k
  rw [cold, first] at done
  refine ⟨_, done, ?_, rfl, fun p out => ?_⟩
  · rw [← cold]
    exact tget_tset_same ..
  · cases p <;> first | rfl | exact absurd (by decide) out

/-- The registers of an excluded channel, before TRAIN_FAIL. -/
def State.excluded (s : State) (c step : Nat) : State := (s.stopped c dmcExcluded).put DMC.TRAIN_STEP step c

section Excluded
variable (ok : s.regsOk) {c : Nat}
include ok

theorem State.regsOk_excluded (step : Nat) : (s.excluded c step).regsOk := State.regsOk_put (State.regsOk_stopped ok _) ..

theorem State.excluded_get (step : Nat) {g : Fld} (a : Nat) (place : g.place 0 < 32768 ∧ g.place 0 ≠ DMC.TRAIN_STEP.place 0) :
    (s.excluded c step).get g a = (s.stopped c dmcExcluded).get g a :=
  State.get_put_place (State.regsOk_stopped ok _) _ _ _ ⟨by decide, place⟩

theorem State.excluded_step {step : Nat} (fits : step < 16) : (s.excluded c step).get DMC.TRAIN_STEP c = step := State.get_put_fit (State.regsOk_stopped ok _) _ _ _ fits

omit ok in
theorem State.excluded_keeps (s : State) (c step : Nat) : State.Keeps ⟨[.regs, .dmc], some [DMC.STATE, DMC.RATE_NOW, DMC.TRAIN_STEP]⟩ s (s.excluded c step) :=
  ((State.stopped_keeps s c dmcExcluded).mono (by decide)).put DMC.TRAIN_STEP _ _ _ (by decide)

theorem State.dmcExclude_eq (u : s.unstaged (dmcPage c)) (step : Nat) :
    s.dmcExclude c step = (if s.bitOf DMC.PAIRS_USED (c / 2) then (s.excluded c step).put DMC.NCHAN 0 else s.excluded c step).blkErr (dmcPage c) 19 5 (le 1 c) := by
  have used : (s.excluded c step).bitOf DMC.PAIRS_USED (c / 2) = s.bitOf DMC.PAIRS_USED (c / 2) :=
    congrArg (bit · _) ((State.excluded_get ok step _ (by decide)).trans (State.stopped_get ok _ _ (by decide)))
  unfold State.dmcExclude
  rw [State.dmcStop_unstaged u]
  extract_lets t
  rw [show t = s.excluded c step from rfl, used]

end Excluded

/-- A second failure excludes a channel that is not of the interleave. -/
theorem trainingFail_excludes {r : TrainRun} (ok : s.regsOk) (training : tget s.dmc.training c.val = some r) (cold : r.restored = false) (second : r.retried = true)
    (left : s.bitOf DMC.PAIRS_USED (c.val / 2) = false) (decided : s.get DMC.NCHAN ≠ 0) (u : s.unstaged (dmcPage c.val)) (k : Fin 9) :
    ∃ t, exec (.dmcTrainingDone c (.fail k)) s = .next t ∧ t.get DMC.STATE c.val = dmcExcluded ∧ t.get DMC.RATE_NOW c.val = 0 ∧ t.get DMC.TRAIN_STEP c.val = k.val ∧ tget t.dmc.training c.val = none ∧
      bit (t.rd (dmcPage c.val) HDR.ERR_STAT) 19 = true ∧ s.frame t ([.dmc] ++ reported) ([DMC.STATE, DMC.RATE_NOW, DMC.TRAIN_STEP] ++ reportedFields) := by
  have excluded := State.regsOk_excluded (c := c.val) ok k.val
  have page := dmcPage_inst c.isLt
  have rep := (s.excluded c.val k.val).blkErr_rep page 19 5 (le 1 c.val) none
  have still : ((s.excluded c.val k.val).blkErr (dmcPage c.val) 19 5 (le 1 c.val)).get DMC.NCHAN ≠ 0 := by
    rw [rep.get_dmc excluded rfl (by decide) (by decide), State.excluded_get ok _ _ (by decide), State.stopped_get ok _ _ (by decide)]
    exact decided
  have done := exec_trainingFail training k
  rw [cold, second, State.dmcExclude_eq ok u, left, if_neg Bool.false_ne_true, if_neg (by decide), if_neg Bool.false_ne_true, State.dmcPairs_decided still] at done
  refine ⟨_, done, ?_, ?_, ?_, ?_, State.blkErr_bit excluded page (by decide) .., ?_⟩
  · rw [rep.get_dmc excluded rfl c.isLt (by decide), State.excluded_get ok _ _ (by decide), State.stopped_state ok (by decide)]
  · rw [rep.get_dmc excluded rfl c.isLt (by decide), State.excluded_get ok _ _ (by decide), State.stopped_rate ok]
  · rw [rep.get_dmc excluded rfl c.isLt (by decide), State.excluded_step ok (Nat.lt_trans k.isLt (by decide))]
  · rw [show ((s.excluded c.val k.val).blkErr (dmcPage c.val) 19 5 (le 1 c.val)).dmc = (s.excluded c.val k.val).dmc from (State.blkErr_keeps ..).kept .dmc (by decide)]
    exact tget_tdel_same ..
  · have excludes := (s.excluded_keeps c.val k.val).mono (m := ⟨[.dmc] ++ reported, some ([DMC.STATE, DMC.RATE_NOW, DMC.TRAIN_STEP] ++ reportedFields)⟩) (by decide)
    exact (State.Keeps.step (State.blkErr_keeps ..) excludes (by decide)).frame ok (by decide)

/-- One of the interleave has its pairs chosen again, once the others have trained (log entry 19). -/
theorem trainingFail_reopens {r : TrainRun} {d : Nat} (ok : s.regsOk) (training : tget s.dmc.training c.val = some r) (cold : r.restored = false) (second : r.retried = true)
    (used : s.bitOf DMC.PAIRS_USED (c.val / 2) = true) (hd : d < 12) (other : d ≠ c.val) (trains : s.get DMC.STATE d = dmcTraining) (u : s.unstaged (dmcPage c.val)) (k : Fin 9) :
    ∃ t, exec (.dmcTrainingDone c (.fail k)) s = .next t ∧ t.get DMC.STATE c.val = dmcExcluded ∧ t.get DMC.NCHAN = 0 ∧
      s.frame t ([.dmc] ++ reported) ([DMC.STATE, DMC.RATE_NOW, DMC.TRAIN_STEP, DMC.NCHAN] ++ reportedFields) := by
  have excluded := State.regsOk_excluded (c := c.val) ok k.val
  have opened := State.regsOk_put excluded DMC.NCHAN 0 0 0
  have page := dmcPage_inst c.isLt
  have rep := ((s.excluded c.val k.val).put DMC.NCHAN 0).blkErr_rep page 19 5 (le 1 c.val) none
  have trains' : (((s.excluded c.val k.val).put DMC.NCHAN 0).blkErr (dmcPage c.val) 19 5 (le 1 c.val)).get DMC.STATE d = dmcTraining := by
    rw [rep.get_dmc opened rfl hd (by decide), State.get_put_place excluded _ _ _ (by decide), State.excluded_get ok _ _ (by decide),
      State.stopped_state_other ok _ c.isLt hd other]
    exact trains
  have done := exec_trainingFail training k
  rw [cold, second, State.dmcExclude_eq ok u, used, if_neg Bool.false_ne_true, if_neg (by decide), if_pos rfl, State.dmcPairs_trains hd trains'] at done
  refine ⟨_, done, ?_, ?_, ?_⟩
  · rw [rep.get_dmc opened rfl c.isLt (by decide), State.get_put_place excluded _ _ _ (by decide), State.excluded_get ok _ _ (by decide), State.stopped_state ok (by decide)]
  · rw [rep.get_dmc opened rfl (by decide) (by decide), State.get_put_fit excluded _ _ _ (by decide)]
  · have excludes := (s.excluded_keeps c.val k.val).mono (m := ⟨[.dmc] ++ reported, some ([DMC.STATE, DMC.RATE_NOW, DMC.TRAIN_STEP, DMC.NCHAN] ++ reportedFields)⟩) (by decide)
    exact (State.Keeps.step (State.blkErr_keeps ..) (excludes.put DMC.NCHAN _ _ _ (by decide)) (by decide)).frame ok (by decide)

/-! ## Retraining -/

/-- A READY channel begins to retrain a rank. -/
theorem State.retrainStart_ready {c : Nat} (ok : s.regsOk) (ready : s.get DMC.STATE c = dmcReady) (r : Nat) :
    (s.retrainStart c r).get DMC.STATE c = dmcRetrain ∧ (s.retrainStart c r).get DMC.RETRAIN_CNT c = satAdd 32 (s.get DMC.RETRAIN_CNT c) 1 ∧
      (s.retrainStart c r).dmc = { s.dmc with retraining := tset s.dmc.retraining c r } := by
  have first := State.regsOk_put ok DMC.STATE dmcRetrain c 0
  unfold State.retrainStart
  rw [if_pos ready]
  refine ⟨?_, ?_, rfl⟩
  · exact (State.get_put_place first (f := DMC.RETRAIN_CNT) (g := DMC.STATE) (satAdd 32 ((s.put DMC.STATE dmcRetrain c).get DMC.RETRAIN_CNT c) 1) c c (by decide)).trans
      (State.get_put_fit ok _ _ _ (by decide))
  · refine (State.get_inc_same first DMC.RETRAIN_CNT c).trans ?_
    rw [State.get_put_place ok _ _ _ (by decide)]
    rfl

/-- Drift beyond DRIFT_PS retrains the rank. -/
theorem oscillatorCheck_retrains {r : Fin 4} {d : BitVec 16} (ok : s.regsOk) (ready : s.get DMC.STATE c.val = dmcReady) (run : s.frozen = false) (present : r.val < s.get DMC.RANKS c.val)
    (drift : s.get DMC.DRIFT_PS c.val < d.toNat) :
    ∃ t, exec (.oscillatorCheck c r d) s = .next t ∧ t.get DMC.STATE c.val = dmcRetrain ∧ t.get DMC.RETRAIN_CNT c.val = satAdd 32 (s.get DMC.RETRAIN_CNT c.val) 1 ∧
      t.dmc = { s.dmc with retraining := tset s.dmc.retraining c.val r.val } ∧ s.frame t [.regs, .dmc] [DMC.STATE, DMC.RETRAIN_CNT] := by
  obtain ⟨state, count, dmc⟩ := State.retrainStart_ready ok ready r.val
  refine ⟨_, if_pos ?_, state, count, dmc, (s.retrainStart_keeps c.val r.val).frame ok (by decide)⟩
  simp [ready, run, present, drift]

theorem oscillatorCheck_quiet {r : Fin 4} {d : BitVec 16} (drift : d.toNat ≤ s.get DMC.DRIFT_PS c.val) : exec (.oscillatorCheck c r d) s = .next s :=
  if_neg (by simp [Nat.not_lt.mpr drift])

/-- What the end of a rank's retraining does for a subchannel of it: a write rejected nine times is replayed once more. -/
def State.replayNinth (c r : Nat) (s : State) (sub : Bool) : State :=
  match tget s.dmc.wcrc (subKey c r sub) with
  | some (w, 9) => { s.replayWrites c sub w with dmc.wcrc := tset s.dmc.wcrc (subKey c r sub) (w, 10) }
  | _ => s

/-- A channel whose rank has been retrained. -/
def State.retrained (s : State) (c : Nat) : State := { s.put DMC.STATE dmcReady c with dmc.retraining := tdel s.dmc.retraining c }

theorem State.retrained_state {c : Nat} (ok : s.regsOk) : (s.retrained c).get DMC.STATE c = dmcReady := State.get_put_fit ok DMC.STATE c 0 (v := dmcReady) (by decide)

theorem State.retrained_keeps (s : State) (c : Nat) : State.Keeps ⟨[.regs, .dmc], some [DMC.STATE]⟩ s (s.retrained c) :=
  ((State.Keeps.refl _ s).put DMC.STATE _ _ _ (by decide)).upd_dmc (by decide)

/-- The end of a rank's retraining, with no other rank of the channel waiting for one. -/
theorem exec_retrainDone {r : Nat} (running : tget s.dmc.retraining c.val = some r) {t : State} (replayed : [false, true].foldl (State.replayNinth c.val r) s = t)
    (last : (t.dmc.wcrc.filter fun e => e.1 / 8 == c.val && e.2.2 == 9) = []) : exec (.retrainStep c .done) s = .next (t.retrained c.val) := by
  have done : exec (.retrainStep c .done) s =
      .next (match ((t.retrained c.val).dmc.wcrc.filter fun e => e.1 / 8 == c.val && e.2.2 == 9).head? with
        | some e => (t.retrained c.val).retrainStart c.val (e.1 / 2 % 4) | none => t.retrained c.val) := by
    rw [← replayed]
    show execRetrainStep c .done s = _
    unfold execRetrainStep
    simp only [running]
    rfl
  rw [show (t.retrained c.val).dmc.wcrc = t.dmc.wcrc from rfl, last] at done
  exact done

theorem State.replayNinth_none {c r : Nat} {b : Bool} (none' : tget s.dmc.wcrc (subKey c r b) = none) : State.replayNinth c r s b = s := by
  unfold State.replayNinth
  rw [none']

theorem State.replayNinth_nine {c r w : Nat} {b : Bool} (nine : tget s.dmc.wcrc (subKey c r b) = some (w, 9)) :
    State.replayNinth c r s b = { s.replayWrites c b w with dmc.wcrc := tset s.dmc.wcrc (subKey c r b) (w, 10) } := by
  unfold State.replayNinth
  rw [nine]
  rfl

/-- With no rejected write on record, the channel is READY again. -/
theorem retrainDone_ready {r : Nat} (ok : s.regsOk) (running : tget s.dmc.retraining c.val = some r) (none' : s.dmc.wcrc = []) :
    ∃ t, exec (.retrainStep c .done) s = .next t ∧ t.get DMC.STATE c.val = dmcReady ∧ t.dmc = { s.dmc with retraining := tdel s.dmc.retraining c.val } ∧ s.frame t [.regs, .dmc] [DMC.STATE] := by
  have quiet (b : Bool) : State.replayNinth c.val r s b = s := State.replayNinth_none (by rw [none']; rfl)
  have done := exec_retrainDone running (t := s) (by simp only [List.foldl_cons, List.foldl_nil, quiet]) (by rw [none']; rfl)
  exact ⟨_, done, State.retrained_state ok, rfl, (s.retrained_keeps c.val).frame ok (by decide)⟩

/-- A write rejected nine times is replayed once more as its rank's retraining ends. -/
theorem retrainDone_replays {r : Fin 4} {w : Nat} (ok : s.regsOk) (running : tget s.dmc.retraining c.val = some r.val) (one : s.dmc.wcrc = [(subKey c.val r.val false, (w, 9))]) :
    ∃ t, exec (.retrainStep c .done) s = .next t ∧ t.get DMC.STATE c.val = dmcReady ∧ t.dmc.wcrc = [(subKey c.val r.val false, (w, 10))] ∧ tget t.dmc.retraining c.val = none ∧
      t.get DMC.WCRC_CNT c.val = satAdd 32 (s.get DMC.WCRC_CNT c.val) 1 ∧ t.out = s.out ++ [.device "DRAM_REPLAY" (2 * c.val :: s.replayFrom (2 * c.val) w)] ∧ s.frame t [.regs, .dmc, .out] [DMC.STATE, DMC.WCRC_CNT] := by
  let t : State := { s.replayWrites c.val false w with dmc.wcrc := [(subKey c.val r.val false, (w, 10))] }
  have keeps : State.Keeps ⟨[.regs, .dmc, .out], some [DMC.STATE, DMC.WCRC_CNT]⟩ s t :=
    ((State.replayWrites_keeps s c.val false w).mono (by decide)).upd_dmc (by decide)
  have first : State.replayNinth c.val r.val s false = t := by
    rw [State.replayNinth_nine (w := w) (by rw [one]; simp [tget]), one]
    simp [tset, t]
  have second : State.replayNinth c.val r.val t true = t := State.replayNinth_none (by simp [t, tget, subKey, b2n])
  have done := exec_retrainDone running (t := t) (by simp only [List.foldl_cons, List.foldl_nil, first, second]) (by simp [t])
  have settled : (t.retrained c.val).get DMC.WCRC_CNT c.val = satAdd 32 (s.get DMC.WCRC_CNT c.val) 1 :=
    (State.get_put_place (f := DMC.STATE) (keeps.ok ok) dmcReady _ _ (by decide)).trans (State.get_inc_same ok DMC.WCRC_CNT c.val)
  refine ⟨_, done, State.retrained_state (keeps.ok ok), rfl, tget_tdel_same .., settled, rfl, ?_⟩
  exact (State.Keeps.step (t.retrained_keeps c.val) keeps (by decide)).frame ok (by decide)

/-- A failed verify makes the channel FAILED (R292). -/
theorem retrainVerify_fails {r : Nat} (ok : s.regsOk) (running : tget s.dmc.retraining c.val = some r) (serves : s.get DMC.STATE c.val ≠ dmcFailed) (decided : s.get DMC.NCHAN ≠ 0)
    (u : s.unstaged (dmcPage c.val)) :
    ∃ t, exec (.retrainStep c .verifyFails) s = .next t ∧ t.get DMC.STATE c.val = dmcFailed ∧ t.get DMC.RATE_NOW c.val = 0 ∧ tget t.dmc.retraining c.val = none ∧
      (s.bitOf DMC.PAIRS_USED (c.val / 2) = true → s.mirroring = true → t.get TWN.STATE = roleFenced) ∧
      (s.bitOf DMC.PAIRS_USED (c.val / 2) = false → t.get TWN.STATE = s.get TWN.STATE) ∧ s.frame t failParts failFields := by
  have done : exec (.retrainStep c .verifyFails) s = .next (s.dmcFail c.val) := by
    show execRetrainStep c .verifyFails s = _
    unfold execRetrainStep
    simp only [running]
  obtain ⟨state, rate⟩ := State.dmcFail_shows serves u ok c.isLt decided
  exact ⟨_, done, state, rate, State.dmcFail_retraining serves u ok c.isLt decided, State.dmcFail_fences serves u ok c.isLt decided, State.dmcFail_role serves u ok c.isLt decided,
    (State.dmcFail_frame serves u ok c.isLt decided).frame ok (by decide)⟩

/-- A channel that fails by an error of its page: the error stays flagged, what it counted stays. -/
theorem State.errorFails {c k : Nat} (ok : s.regsOk) (hc : c < 12) (hk : k < 30) (serves : s.get DMC.STATE c ≠ dmcFailed) (decided : s.get DMC.NCHAN ≠ 0) (u : s.unstaged (dmcPage c)) (v : Nat)
    (pl : List Byte) : let t := (s.blkErr (dmcPage c) k v pl).dmcFail c
      t.get DMC.STATE c = dmcFailed ∧ t.get DMC.RATE_NOW c = 0 ∧ t.get DMC.CAPAR_CNT c = s.get DMC.CAPAR_CNT c ∧ bit (t.rd (dmcPage c) HDR.ERR_STAT) k = true ∧
        State.Keeps ⟨failParts, some failFields⟩ s t := by
  intro t
  have told := s.blkErr_steady (dmcPage c) k v pl none
  have keeps : State.Keeps ⟨failParts, some failFields⟩ s (s.blkErr (dmcPage c) k v pl) := (State.blkErr_keeps ..).mono (by decide)
  have flagged := State.blkErr_bit ok (dmcPage_inst hc) (Nat.lt_trans hk (by decide)) v pl none
  have u' : (s.blkErr (dmcPage c) k v pl).unstaged (dmcPage c) := State.unstaged_of_ctl ((State.blkErr_keeps ..).kept .ctl (by decide)) u
  have ok' := told.ok ok
  have same {f : Fld} {d : Nat} (hd : d < 12) (shown : f ∈ dmcShown) (blk : f.blk = .dmc) : (s.blkErr (dmcPage c) k v pl).get f d = s.get f d := told.get ok hd shown blk
  have serves' : (s.blkErr (dmcPage c) k v pl).get DMC.STATE c ≠ dmcFailed := same (f := DMC.STATE) hc (by decide) rfl ▸ serves
  have decided' : (s.blkErr (dmcPage c) k v pl).get DMC.NCHAN ≠ 0 := same (f := DMC.NCHAN) (d := 0) (by decide) (by decide) rfl ▸ decided
  obtain ⟨state, rate⟩ := State.dmcFail_shows serves' u' ok' hc decided'
  have steady := State.dmcFail_steady serves' u' ok' hc decided'
  have failed := State.regsOk_failed (c := c) ok'
  refine ⟨state, rate, ?_, ?_, State.Keeps.step (State.dmcFail_frame serves' u' ok' hc decided') keeps (by decide)⟩
  · rw [steady.get failed hc (f := DMC.CAPAR_CNT) (by decide) rfl, ← same (f := DMC.CAPAR_CNT) hc (by decide) rfl]
    exact State.stopped_get (s := (s.blkErr (dmcPage c) k v pl).dramEmpty c) ok' _ _ (by decide)
  · refine steady.err failed c hc k (Nat.lt_trans hk (by decide)) ?_
    have kept : (((s.blkErr (dmcPage c) k v pl)).failed c).rd (dmcPage c) HDR.ERR_STAT = (s.blkErr (dmcPage c) k v pl).rd (dmcPage c) HDR.ERR_STAT := by
      have first := State.regsOk_put (s := (s.blkErr (dmcPage c) k v pl).dramEmpty c) ok' DMC.STATE dmcFailed c 0
      exact (State.rd_wr_ne (f := DMC.RATE_NOW) (i := 0) first 0 (Fld.key_ne_place (by decide) (by decide) (by decide))).trans
        (State.rd_wr_ne (s := (s.blkErr (dmcPage c) k v pl).dramEmpty c) (f := DMC.STATE) (i := 0) ok' _ (Fld.key_ne_place (by decide) (by decide) (by decide)))
    rw [kept]
    exact flagged

/-! ## Write CRC -/

/-- The rejections of a write are counted for its subchannel's rank. -/
def State.rejected (s : State) (k w n : Nat) : State := { s with dmc.wcrc := tset s.dmc.wcrc k (w, n) }

theorem dmcServes_ready {c : Nat} (ready : s.get DMC.STATE c = dmcReady) : s.dmcServes c = true := by
  unfold State.dmcServes
  rw [ready]
  rfl

/-- The first rejection of a write replays it and counts. -/
theorem wcrcAlert_replays {r : Fin 4} {sub : Bool} {w : Nat} (ok : s.regsOk) (on : s.flag DMC.WCRC_EN c.val = true) (serves : s.dmcServes c.val = true)
    (fresh : tget s.dmc.wcrc (subKey c.val r.val sub) = none) :
    ∃ t, exec (.wcrcAlert c r sub w) s = .next t ∧ t.dmc = { s.dmc with wcrc := tset s.dmc.wcrc (subKey c.val r.val sub) (w, 1) } ∧
      t.get DMC.WCRC_CNT c.val = satAdd 32 (s.get DMC.WCRC_CNT c.val) 1 ∧ t.out = s.out ++ [.device "DRAM_REPLAY" ((2 * c.val + b2n sub) :: s.replayFrom (2 * c.val + b2n sub) w)] ∧
      s.frame t [.regs, .dmc, .out] [DMC.WCRC_CNT] := by
  have done : exec (.wcrcAlert c r sub w) s = .next ((s.rejected (subKey c.val r.val sub) w 1).replayWrites c.val sub w) := by
    show execWcrcAlert c r sub w s = _
    unfold execWcrcAlert
    simp only [on, serves, fresh]
    rfl
  have counts : ((s.rejected (subKey c.val r.val sub) w 1).inc DMC.WCRC_CNT 1 c.val).get DMC.WCRC_CNT c.val = satAdd 32 (s.get DMC.WCRC_CNT c.val) 1 :=
    State.get_inc_same (State.regsOk_of_regs (t := s.rejected (subKey c.val r.val sub) w 1) ok rfl) DMC.WCRC_CNT c.val
  have rejects : State.Keeps ⟨[.regs, .dmc, .out], some [DMC.WCRC_CNT]⟩ s (s.rejected (subKey c.val r.val sub) w 1) := State.Keeps.upd_dmc (.refl _ s) (by decide)
  exact ⟨_, done, rfl, counts, rfl, (State.Keeps.step (State.replayWrites_keeps ..) rejects (by decide)).frame ok (by decide)⟩

/-- The ninth rejection retrains the rank. -/
theorem wcrcAlert_retrains {r : Fin 4} {sub : Bool} {w : Nat} (ok : s.regsOk) (on : s.flag DMC.WCRC_EN c.val = true) (ready : s.get DMC.STATE c.val = dmcReady) (run : s.frozen = false)
    (eight : tget s.dmc.wcrc (subKey c.val r.val sub) = some (w, 8)) :
    ∃ t, exec (.wcrcAlert c r sub w) s = .next t ∧ t.get DMC.STATE c.val = dmcRetrain ∧ tget t.dmc.retraining c.val = some r.val ∧ tget t.dmc.wcrc (subKey c.val r.val sub) = some (w, 9) ∧
      s.frame t [.regs, .dmc] [DMC.STATE, DMC.RETRAIN_CNT] := by
  have run' : (s.rejected (subKey c.val r.val sub) w 9).frozen = false := run
  have done : exec (.wcrcAlert c r sub w) s = .next ((s.rejected (subKey c.val r.val sub) w 9).retrainStart c.val r.val) := by
    show execWcrcAlert c r sub w s = _
    unfold execWcrcAlert
    simp only [on, dmcServes_ready ready, eight]
    show (Host.Outcome.next (if (s.rejected (subKey c.val r.val sub) w 9).frozen = true then _ else _) : Res) = _
    rw [run', if_neg Bool.false_ne_true]
    rfl
  obtain ⟨state, -, dmc⟩ := State.retrainStart_ready (s := s.rejected (subKey c.val r.val sub) w 9) ok ready r.val
  have rejects : State.Keeps ⟨[.regs, .dmc], some [DMC.STATE, DMC.RETRAIN_CNT]⟩ s (s.rejected (subKey c.val r.val sub) w 9) := State.Keeps.upd_dmc (.refl _ s) (by decide)
  refine ⟨_, done, state, ?_, ?_, (State.Keeps.step (State.retrainStart_keeps ..) rejects (by decide)).frame ok (by decide)⟩
  · rw [dmc]
    exact tget_tset_same ..
  · rw [dmc]
    exact tget_tset_same ..

/-- A further one fails the channel. -/
theorem wcrcAlert_fails {r : Fin 4} {sub : Bool} {w : Nat} (ok : s.regsOk) (on : s.flag DMC.WCRC_EN c.val = true) (serves : s.dmcServes c.val = true) (decided : s.get DMC.NCHAN ≠ 0)
    (u : s.unstaged (dmcPage c.val)) (ten : tget s.dmc.wcrc (subKey c.val r.val sub) = some (w, 10)) :
    ∃ t, exec (.wcrcAlert c r sub w) s = .next t ∧ t.get DMC.STATE c.val = dmcFailed ∧ bit (t.rd (dmcPage c.val) HDR.ERR_STAT) 17 = true ∧ s.frame t failParts failFields := by
  have serves' : s.get DMC.STATE c.val ≠ dmcFailed := by
    unfold State.dmcServes at serves
    rw [Bool.or_eq_true, beq_iff_eq, beq_iff_eq] at serves
    rcases serves with e | e <;> rw [e] <;> decide
  have done : exec (.wcrcAlert c r sub w) s = .next (((s.rejected (subKey c.val r.val sub) w 11).blkErr (dmcPage c.val) 17 4 (le 1 c.val)).dmcFail c.val) := by
    show execWcrcAlert c r sub w s = _
    unfold execWcrcAlert
    simp only [on, serves, ten]
    rfl
  obtain ⟨state, -, -, flagged, fails⟩ := State.errorFails (s := s.rejected (subKey c.val r.val sub) w 11) (k := 17) ok c.isLt (by decide) serves' decided u 4 (le 1 c.val)
  have rejects : State.Keeps ⟨failParts, some failFields⟩ s (s.rejected (subKey c.val r.val sub) w 11) := State.Keeps.upd_dmc (.refl _ s) (by decide)
  exact ⟨_, done, state, flagged, (State.Keeps.step fails rejects (by decide)).frame ok (by decide)⟩

/-! ## Self-refresh -/

theorem tget_filter_none {α : Type} {t : Table α} {p : Nat × α → Bool} {k : Nat} (h : ∀ v, p (k, v) = false) : tget (t.filter p) k = none := by
  cases found : tget (t.filter p) k with
  | none => rfl
  | some v =>
    have inside := (List.mem_filter.mp (mem_of_tget found)).2
    rw [h v] at inside
    exact Bool.noConfusion inside

/-- A channel in self-refresh, its queues drained. -/
def State.refreshing (s : State) (c : Nat) : State :=
  { (s.dramEmpty c).put DMC.STATE dmcSelfRefresh c with
    dmc := { (s.dramEmpty c).dmc with retraining := tdel s.dmc.retraining c, pdRanks := s.dmc.pdRanks.filter fun k => k / 4 != c } }

theorem State.selfRefresh_serves {c : Nat} (serves : s.dmcServes c = true) : s.selfRefresh c = s.refreshing c := if_pos serves

theorem State.refreshing_state {c : Nat} (ok : s.regsOk) : (s.refreshing c).get DMC.STATE c = dmcSelfRefresh :=
  State.get_put_fit (s := s.dramEmpty c) ok DMC.STATE c 0 (v := dmcSelfRefresh) (by decide)

theorem State.refreshing_keeps (s : State) (c : Nat) : State.Keeps ⟨[.regs, .tier, .dmc], some [DMC.STATE]⟩ s (s.refreshing c) :=
  (((State.dramEmpty_keeps s c).mono (by decide)).put DMC.STATE _ _ _ (by decide)).upd_dmc (by decide)

/-- An entry that a training holds waits (R299). -/
theorem selfRefresh_waits {c : Nat} (trains : s.get DMC.STATE c = dmcTraining) (wait : s.dmc.srWait.contains c = false) :
    s.selfRefresh c = { s with dmc := { s.dmc with srWait := s.dmc.srWait ++ [c] } } := by
  have idle : s.dmcServes c = false := by
    unfold State.dmcServes
    rw [trains]
    rfl
  unfold State.selfRefresh
  rw [if_neg (by rw [idle]; exact Bool.false_ne_true), if_pos (by rw [trains, wait]; rfl)]

/-- An idle channel enters self-refresh. -/
theorem srIdleEntry_enters (ok : s.regsOk) (on : s.get DMC.SR_IDLE_US c.val ≠ 0) (run : s.frozen = false) (ready : s.get DMC.STATE c.val = dmcReady)
    (idle : s.chanIdle c.val (s.get DMC.SR_IDLE_US c.val * 1000) = true) (quiet : s.chanReads c.val = []) :
    ∃ t, exec (.srIdleEntry c) s = .next t ∧ t.get DMC.STATE c.val = dmcSelfRefresh ∧
      t.dmc = { s.dmc with retraining := tdel s.dmc.retraining c.val, pdRanks := s.dmc.pdRanks.filter (fun k => k / 4 != c.val), replay := s.dmc.replay.filter fun e => e.1 / 2 != c.val } ∧
      (∀ k, k / 2 = c.val → tget t.tier.writes k = none) ∧ s.frame t [.tier, .regs, .dmc] [DMC.STATE] := by
  have done : exec (.srIdleEntry c) s = .next (s.refreshing c.val) := by
    refine (if_pos ?_).trans (congrArg Host.Outcome.next (State.selfRefresh_serves (dmcServes_ready ready)))
    simp [on, run, ready, idle, quiet]
  refine ⟨_, done, State.refreshing_state ok, rfl, fun k here => tget_filter_none fun _ => by simp [here], (s.refreshing_keeps c.val).frame ok (by decide)⟩

theorem trainingPass_refreshes {r : TrainRun} (ok : s.regsOk) (training : tget s.dmc.training c.val = some r) (wait : s.dmc.srWait.contains c.val = true) (warm : s.wdn.warm = false) :
    ∃ t, exec (.dmcTrainingDone c .pass) s = .next t ∧ t.get DMC.STATE c.val = dmcSelfRefresh ∧ t.dmc.srWait.contains c.val = false ∧
      s.frame t [.regs, .qe, .mov, .tier, .dmc, .nvs] [DMC.STATE, DMC.RATE_NOW, DMC.CAP_GIB, MOV.LAST_FCLASS, MOV.LAST_FOFF, MOV.LAST_STATUS] := by
  have waits : (s.imaged c.val r).dmc.srWait.contains c.val = true := by rw [State.imaged_dmc]; exact wait
  have cold : (s.imaged c.val r).wdn.warm = false := by rw [State.imaged_wdn]; exact warm
  have passed : (s.dmcPassed c.val r).regsOk := State.regsOk_readied (s.imaged_ok ok c.val)
  have serves : (s.dmcPassed c.val r).dmcServes c.val = true := dmcServes_ready (State.dmcPassed_shows ok c.val).1
  have done : exec (.dmcTrainingDone c .pass) s = .next ((s.dmcPassed c.val r).refreshing c.val).movSettle := by
    rw [exec_trainingPass training, State.dmcReadied_waits waits cold]
    exact congrArg (fun t : State => (Host.Outcome.next t.movSettle : Res)) (State.selfRefresh_serves serves)
  have refreshes := State.refreshing_keeps (s.dmcPassed c.val r) c.val
  have settles := State.movSettle_keeps ((s.dmcPassed c.val r).refreshing c.val)
  refine ⟨_, done, ?_, ?_, ?_⟩
  · exact ((State.movSettle_steady _).get (refreshes.ok passed) c.isLt (by decide) rfl).trans (State.refreshing_state passed)
  · rw [settles.kept .dmc (by decide)]
    show (((s.imaged c.val r).dmc.srWait.filter (· != c.val)).contains c.val) = false
    simp
  · have passes := (s.dmcPassed_keeps c.val r).mono
      (m := ⟨[.regs, .qe, .mov, .tier, .dmc, .nvs], some [DMC.STATE, DMC.RATE_NOW, DMC.CAP_GIB, MOV.LAST_FCLASS, MOV.LAST_FOFF, MOV.LAST_STATUS]⟩) (by decide)
    exact (State.Keeps.step settles (State.Keeps.step refreshes passes (by decide)) (by decide)).frame ok (by decide)

/-- A channel that leaves self-refresh by a restored training, its ranks' debts cleared (R298). -/
def State.leaves (s : State) (c : Nat) : State :=
  let t := s.stopped c dmcTraining
  { t with dmc := { t.dmc with
      debts := t.dmc.debts.filter fun e => e.1 / 4 != c, pdRanks := t.dmc.pdRanks.filter fun k => k / 4 != c,
      training := tset t.dmc.training c { restored := true, retried := false }, leaving := if s.dmc.leaving.contains c then s.dmc.leaving else s.dmc.leaving ++ [c] } }

section Leaves
variable {c : Nat}

theorem State.srLeave_eq (refreshes : s.get DMC.STATE c = dmcSelfRefresh) (ranks : s.get DMC.RANKS c ≠ 0) (topo : topoOk (s.dmcTopo c) = true) (u : s.unstaged (dmcPage c)) :
    s.srLeave c = s.leaves c := by
  unfold State.srLeave State.dmcTrain
  rw [if_neg (by rw [refreshes]; decide), if_neg ranks, if_neg (by rw [topo]; decide), State.dmcStop_unstaged u]
  rfl

theorem State.leaves_ok (ok : s.regsOk) : (s.leaves c).regsOk := State.regsOk_of_regs (State.regsOk_stopped (c := c) ok dmcTraining) rfl

theorem State.leaves_get (f : Fld) (a b : Nat) : (s.leaves c).get f a b = (s.stopped c dmcTraining).get f a b := rfl

theorem State.leaves_keeps (s : State) (c : Nat) : State.Keeps ⟨[.regs, .dmc], some [DMC.STATE, DMC.RATE_NOW]⟩ s (s.leaves c) := (s.stopped_keeps c dmcTraining).upd_dmc (by decide)

theorem State.leaves_debts (r : Nat) (rank : r < 4) {t : State} (same : t.dmc.debts = (s.leaves c).dmc.debts) : t.debts c r = [0, 0, 0, 0] := by
  have here : (c * 4 + r) / 4 = c := by omega
  have gone : tget (s.leaves c).dmc.debts (rankKey c r) = none := tget_filter_none fun _ => by simp [rankKey, here]
  unfold State.debts
  rw [same, gone]
  rfl

theorem State.selfRefreshExit_eq (refreshes : s.get DMC.STATE c = dmcSelfRefresh) (ranks : s.get DMC.RANKS c ≠ 0) (topo : topoOk (s.dmcTopo c) = true) (u : s.unstaged (dmcPage c)) (v : Bool) :
    s.selfRefreshExit c v = if v then (s.leaves c).dmcReadied c else (s.leaves c).dmcCold c false := by
  unfold State.selfRefreshExit
  rw [if_neg (by simp [refreshes]), State.srLeave_eq refreshes ranks topo u]

end Leaves

/-- The exit from self-refresh trains the channel anew, and clears the debts of its ranks. -/
theorem selfRefreshExit_trains {v : Bool} (ok : s.regsOk) (refreshes : s.get DMC.STATE c.val = dmcSelfRefresh) (topo : topoOk (s.dmcTopo c.val) = true) (ranks : s.get DMC.RANKS c.val ≠ 0)
    (decided : s.get DMC.NCHAN ≠ 0) (u : s.unstaged (dmcPage c.val)) (calm : ∀ x ∈ s.tier.reads, x.panStall = false) :
    ∃ t, exec (.selfRefreshExitDone c v) s = .next t ∧ t.get DMC.STATE c.val = (if v then dmcReady else dmcTraining) ∧ (∀ r, r < 4 → t.debts c.val r = [0, 0, 0, 0]) ∧
      (v = false → tget t.dmc.training c.val = some { restored := false, retried := false }) ∧
      s.frame t [.regs, .qe, .mov, .tier, .dmc, .out] [DMC.STATE, DMC.RATE_NOW, DMC.CAP_GIB, MOV.LAST_FCLASS, MOV.LAST_FOFF, MOV.LAST_STATUS] := by
  have left := State.leaves_ok (c := c.val) ok
  have leaves := (s.leaves_keeps c.val).mono (m := ⟨[.regs, .qe, .mov, .tier, .dmc, .out], some [DMC.STATE, DMC.RATE_NOW, DMC.CAP_GIB, MOV.LAST_FCLASS, MOV.LAST_FOFF, MOV.LAST_STATUS]⟩) (by decide)
  have done : exec (.selfRefreshExitDone c v) s = .next (s.selfRefreshExit c.val v).movSettle := rfl
  rw [State.selfRefreshExit_eq refreshes ranks topo u] at done
  have steady (t : State) := State.movSettle_steady t
  have same (t : State) : t.movSettle.dmc = t.dmc := (State.movSettle_keeps t).kept .dmc (by decide)
  cases v with
  | false =>
    rw [if_neg Bool.false_ne_true] at done
    have cold := (s.leaves c.val).dmcCold_keeps c.val false
    have regs : ((s.leaves c.val).dmcCold c.val false).get DMC.STATE c.val = dmcTraining := by
      refine Eq.trans ?_ (State.stopped_state (s := s) (c := c.val) ok (st := dmcTraining) (by decide))
      exact State.rd_of_regs (cold.kept .regs (by decide)) (cold.kept .unit (by decide)) _ _ _
    refine ⟨_, done, ((steady _).get (cold.ok left) c.isLt (by decide) rfl).trans regs, fun r rank => State.leaves_debts (s := s) r rank ?_, fun _ => ?_, ?_⟩
    · rw [same, State.dmcCold_debts]
    · rw [same]
      exact State.dmcCold_training ..
    · exact (State.Keeps.step (State.movSettle_keeps _) (State.Keeps.step cold leaves (by decide)) (by decide)).frame ok (by decide)
  | true =>
    have wait : (s.leaves c.val).dmc.srWait.contains c.val = false := by
      show (s.dmc.srWait.filter (· != c.val)).contains c.val = false
      simp
    have pairs : ((s.leaves c.val).readied c.val).dmcPairs = (s.leaves c.val).readied c.val := by
      refine State.dmcPairs_decided ?_
      rw [State.readied_get left _ (by decide), State.get_put_place left _ _ _ (by decide), State.leaves_get, State.stopped_get ok _ _ (by decide)]
      exact decided
    have quiet : ((s.leaves c.val).readied c.val).unstall = (s.leaves c.val).readied c.val := State.unstall_of_none calm
    rw [if_pos rfl, State.dmcReadied_serves wait, pairs, quiet] at done
    have readies := (s.leaves c.val).readied_keeps c.val
    refine ⟨_, done, ((steady _).get (readies.ok left) c.isLt (by decide) rfl).trans (State.readied_state left), fun r rank => State.leaves_debts (s := s) r rank ?_, nofun, ?_⟩
    · rw [same]
      rfl
    · exact (State.Keeps.step (State.movSettle_keeps _) (State.Keeps.step readies leaves (by decide)) (by decide)).frame ok (by decide)

end Sys2Proof.Machine
end

section
namespace Sys2Proof.Machine

/-- Settles O17: a passed training, the choice of pairs, the failures of a training, retraining, write CRC and self-refresh, one lemma per clause. -/
theorem dramTraining : Obligations.DramTraining := by
  unfold Obligations.DramTraining
  refine ⟨?ready, ?pairs, ?cold, ?again, ?excludes, ?drifts, ?quiet, ?retrained, ?verify, fun _ _ _ => rfl, ?replays, ?ninth, ?further, ?idle, ?exits, ?resumes, ?refreshes, ?reopens,
    ?last, ?waits⟩
  case ready => exact fun s c r => trainingPass_ready
  case pairs => exact fun s c r ps => trainingPass_pairs
  case cold => exact fun s c r k training restored => trainingFail_cold training restored k
  case again => exact fun s c r k training cold first => trainingFail_again training cold first k
  case excludes => exact fun s c r k ok training cold second left decided u => trainingFail_excludes ok training cold second left decided u k
  case drifts => exact fun s c r d => oscillatorCheck_retrains
  case quiet => exact fun s c r d => oscillatorCheck_quiet
  case retrained => exact fun s c r => retrainDone_ready
  case verify => exact fun s c r => retrainVerify_fails
  case replays => exact fun s c r sub w => wcrcAlert_replays
  case ninth => exact fun s c r sub w => wcrcAlert_retrains
  case further => exact fun s c r sub w => wcrcAlert_fails
  case idle => exact fun s c => srIdleEntry_enters
  case exits => exact fun s c v ok refreshes topo ranks decided u _ calm => selfRefreshExit_trains ok refreshes topo ranks decided u calm
  case resumes => exact fun s c r => trainingPass_resumes
  case refreshes => exact fun s c r => trainingPass_refreshes
  case reopens => exact fun s c d r k ok training cold second used hd other trains u => trainingFail_reopens ok training cold second used hd other trains u k
  case last => exact fun s c r w => retrainDone_replays
  case waits => exact fun s c => selfRefresh_waits

end Sys2Proof.Machine
end

section
/-! SUPPORT. What a report changes of the register file, whatever the table that holds it: the flags and counters of reportedFields. -/
namespace Sys2Proof.Machine

/-- Of the register file, t differs from s by a report at most. -/
structure State.Told (s t : State) : Prop where
  fields : s.fieldsBut t reportedFields

namespace State.Told
variable {s t u : State}

theorem of_regs (e : t.regs = s.regs) : s.Told t := ⟨.refl e _⟩
protected theorem refl (s : State) : s.Told s := of_regs rfl
protected theorem trans (a : s.Told t) (b : t.Told u) : s.Told u := ⟨a.fields.trans b.fields⟩

protected theorem ite {c : Prop} [Decidable c] (h : s.Told t) (k : s.Told u) : s.Told (if c then t else u) := by
  split
  · exact h
  · exact k

protected theorem foldl {α : Type} {f : State → α → State} (h : ∀ (s : State) (a : α), s.Told (f s a)) (xs : List α) (s : State) : s.Told (xs.foldl f s) := by
  induction xs generalizing s with
  | nil => exact .refl s
  | cons a xs ih => exact (h s a).trans (ih _)

/-- A write of a field that reports may write. -/
theorem wr (s : State) (p : Page) {f : Fld} (v i : Nat) (page : p.blk = f.blk ∨ f.off < 0x100) (listed : f ∈ reportedFields) : s.Told (s.wr p f v i) := by
  refine ⟨fun k others => ?_⟩
  have ne : k ≠ f.key p i := fun same => others f listed ⟨p, i, page, same⟩
  unfold State.wr
  dsimp only
  split
  · exact tget_tdel_ne _ ne
  · exact tget_tset_ne _ _ ne

theorem put (s : State) (f : Fld) (v i j : Nat) (listed : f ∈ reportedFields) : s.Told (s.put f v i j) := wr s _ v j (.inl rfl) listed

end State.Told

section Reports
variable (s : State)

theorem State.raiseVector_told (p l : Nat) (m : Bool) (v : Nat) : s.Told (s.raiseVector p l m v) := .of_regs ((State.raiseVector_keeps ..).kept .regs (by decide))

theorem State.alertPin_told (k : Nat) : s.Told (s.alertPin k) := by
  unfold State.alertPin
  exact State.Told.ite (.refl s) ((State.Told.put s EVF.ALERT_DRV _ _ _ (by decide)).trans (.of_regs rfl))

theorem State.alertPins_told : s.Told s.alertPins := (s.alertPin_told 0).trans (State.alertPin_told _ 1)

theorem State.latchWake_told (n ch : Nat) : s.Told (s.latchWake n ch) := by
  have latched : s.Told (s.putBit PWR.PWR_WAKE_LATCH n true) := .put s PWR.PWR_WAKE_LATCH _ _ _ (by decide)
  unfold State.latchWake
  exact State.Told.ite latched (latched.trans (.of_regs rfl))

theorem State.wakeStart_told (n : Nat) : s.Told (s.wakeStart n) := by
  unfold State.wakeStart
  exact State.Told.ite ((State.Told.put s PWR.STATE domWaking 0 n (by decide)).trans (.of_regs rfl)) (.refl s)

theorem State.wakeEvent_told (n ch : Nat) : s.Told (s.wakeEvent n ch) := by
  unfold State.wakeEvent
  refine State.Told.ite (State.Told.ite (s.latchWake_told n ch) (State.Told.ite ?_ ?_)) (State.Told.ite ((s.latchWake_told n ch).trans (State.wakeStart_told ..)) (.of_regs rfl))
  · exact State.Told.trans (t := s.useFree) (.of_regs rfl) (.put _ PWR.STATE _ _ _ (by decide))
  · exact State.Told.trans (t := s.useFree) (.of_regs rfl) (State.latchWake_told ..)

theorem State.signal_told (ch : Nat) : s.Told (s.signal ch) := by
  unfold State.signal
  extract_lets e unit
  split
  · exact State.Told.ite (.of_regs rfl) (s.wakeEvent_told ..)
  · exact State.Told.ite (.of_regs rfl) (s.wakeEvent_told ..)
  · exact s.raiseVector_told ..
  · exact .of_regs rfl

theorem State.chanHit_told (ch : Nat) : s.Told (s.chanHit ch) := by
  unfold State.chanHit
  extract_lets n pending
  have pends : s.Told pending := .of_regs rfl
  exact State.Told.trans (State.Told.ite (pends.trans (State.signal_told ..)) pends) (State.alertPins_told _)

theorem State.deliver_told (p : Page) (k : Nat) : s.Told (s.deliver p k) := by
  unfold State.deliver
  exact State.Told.ite (.of_regs rfl) (s.chanHit_told _)

theorem State.postAlarm_told (a : Alarm) : s.Told (s.postAlarm a) := by
  unfold State.postAlarm
  extract_lets corr drop low kept counted _ sent
  have counts : s.Told counted := State.Told.ite (.put s REC.ALARM_DROP _ _ _ (by decide)) (.of_regs rfl)
  have sends : s.Told sent := counts.trans (.of_regs rfl)
  refine sends.trans (State.Told.foldl (fun t c => ?_) _ _)
  exact State.Told.ite ((State.Told.put t MGT.ALARM_SENT _ _ _ (by decide)).trans (.of_regs rfl)) (.refl t)

section Errors
variable {err : State → Page → Nat → State} (raised : ∀ (t : State) (p : Page) (k : Nat), t.Told (err t p k))
include raised

theorem State.forward_told (r : Record) : s.Told (State.forward err s r) := by
  have posted (x : RecState) (a : Alarm) : s.Told (({ s with recd := x } : State).postAlarm a) := State.Told.trans (t := { s with recd := x }) (.of_regs rfl) (State.postAlarm_told ..)
  have failed (x : RecState) (p : Page) (k : Nat) : s.Told (err { s with recd := x } p k) := State.Told.trans (t := { s with recd := x }) (.of_regs rfl) (raised ..)
  unfold State.forward
  refine State.Told.ite (.of_regs rfl) (State.Told.ite (.of_regs rfl) (State.Told.ite ?_ (State.Told.ite (.of_regs rfl) ?_)))
  · exact State.Told.ite ((posted ..).trans (raised ..)) (posted ..)
  · exact State.Told.ite (.of_regs rfl) (failed ..)

theorem State.writeRecord_told (c i v : Nat) (pl : List Byte) (f m : Bool) : s.Told (State.writeRecord err s c i v pl f m) := by
  unfold State.writeRecord
  split
  · exact .put s EVF.TRACE_DROP _ _ _ (by decide)
  · exact State.Told.trans (.put s REC.LOST_CNT _ _ _ (by decide)) (.of_regs rfl)
  · extract_lets seq rsv r numbered counted _ stored
    have numbers : s.Told numbered := .put s REC.HEAD_SEQ _ _ _ (by decide)
    have counts : s.Told counted :=
      numbers.trans (State.Told.ite (.put _ REC.OVW_CNT _ _ _ (by decide)) (State.Told.ite (.put _ REC.RSV_USED _ _ _ (by decide)) (.of_regs rfl)))
    have stores : s.Told stored := counts.trans (.of_regs rfl)
    exact stores.trans (State.forward_told _ raised r)

theorem State.record_told (c i v : Nat) (pl : List Byte) (f : Bool) : s.Told (State.record err s c i v pl f) := by
  have written (x : RecState) : s.Told (State.writeRecord err { s with recd := x } c i v pl f false) :=
    State.Told.trans (t := { s with recd := x }) (.of_regs rfl) (State.writeRecord_told _ raised ..)
  unfold State.record
  exact State.Told.ite (State.Told.ite (written _) (.of_regs rfl)) (State.Told.ite (State.Told.ite (written _) (.of_regs rfl)) (State.Told.ite (written _) (.of_regs rfl)))

theorem State.occurWith_told (p : Page) (i v : Nat) (pl : List Byte) (f : Bool) : s.Told (State.occurWith err s p i v pl f) := by
  have sent (t : State) : t.Told (State.sendOcc err t p i v pl f) := by
    have goes (x : EvfState) : t.Told ((({ t with evf := x } : State).record err (p.blk.code * 256 + i) p.inst v pl f).deliver p i) :=
      State.Told.trans (State.Told.trans (t := { t with evf := x }) (.of_regs rfl) (State.record_told _ raised ..)) (State.deliver_told ..)
    unfold State.sendOcc
    exact State.Told.ite (goes _) (State.Told.ite (.put t EVF.TRACE_DROP _ _ _ (by decide))
      (State.Told.ite (.of_regs rfl) (State.Told.ite (goes _) (.of_regs rfl))))
  unfold State.occurWith
  exact State.Told.trans (State.Told.ite (.wr s p (f := HDR.EVT_STAT) _ _ (.inr (by decide)) (by decide)) (.of_regs rfl)) (sent _)

end Errors

theorem State.setErr_told (p : Page) (k : Nat) (c : Option Capture) : s.Told (s.setErr p k c) := by
  have flagged (t : State) (v : Nat) : t.Told (t.wr p HDR.ERR_STAT v) := .wr t p _ _ (.inr (by decide)) (by decide)
  have captured (a b : Nat) : s.Told ((s.wr p HDR.ERR_INFO0 a).wr p HDR.ERR_INFO1 b) :=
    State.Told.trans (.wr s p (f := HDR.ERR_INFO0) _ _ (.inr (by decide)) (by decide)) (.wr _ p (f := HDR.ERR_INFO1) _ _ (.inr (by decide)) (by decide))
  unfold State.setErr
  cases c <;> exact State.Told.trans (State.Told.ite (captured ..) (.of_regs rfl)) (flagged ..)

theorem State.errInner_told (p : Page) (k : Nat) : s.Told (s.errInner p k) := (s.setErr_told ..).trans (State.occurWith_told _ (fun t p k => t.setErr_told p k none) ..)
theorem State.errAlarm_told (p : Page) (k : Nat) : s.Told (s.errAlarm p k) := (s.setErr_told ..).trans (State.occurWith_told _ (fun t p k => t.errInner_told p k) ..)
theorem State.occur_told (p : Page) (i v : Nat) (pl : List Byte) : s.Told (s.occur p i v pl) := State.occurWith_told _ (fun t p k => t.errAlarm_told p k) ..

/-- The frame of a report, in any state. -/
theorem State.misc_frame (p : Page) (v : Nat) (pl : List Byte) : s.frame (s.misc p v pl) reported reportedFields :=
  ⟨((State.misc_keeps s p v pl).mono (m := ⟨reported, none⟩) (by decide)).kept, (s.occur_told ..).fields⟩

end Reports
end Sys2Proof.Machine
end

section
/-! SUPPORT. The code of a DRAM burst (R280, R281): one device in error, and two. -/
namespace Sys2Proof.Machine

/-- Four symbols that are all 0 hold the value 0. -/
theorem symWeight_pos {v : Nat} (fits : v < 2 ^ 64) (wrong : v ≠ 0) : 0 < symWeight v := by
  rw [symWeight, List.length_pos_iff_exists_mem]
  by_contra none'
  have zero (k : Nat) (hk : k < 4) : bits v (16 * k) 16 = 0 := by
    by_contra ne
    exact none' ⟨k, List.mem_filter.mpr ⟨List.mem_range.mpr hk, bne_iff_ne.mpr ne⟩⟩
  have z0 := zero 0 (by decide)
  have z1 := zero 1 (by decide)
  have z2 := zero 2 (by decide)
  have z3 := zero 3 (by decide)
  simp only [bits, Nat.shiftRight_eq_div_pow] at z0 z1 z2 z3
  omega

theorem symWeight_le (v : Nat) : symWeight v ≤ 4 := Nat.le_trans (List.length_filter_le ..) (by simp)

end Sys2Proof.Machine
namespace Sys2Proof
open Sys2Proof.Machine

theorem Burst.dev_lt (b : Burst) (d : Nat) : b.dev d < 2 ^ 64 := Nat.mod_lt _ (by decide)

theorem Burst.mem_devs {b : Burst} {d : Nat} : d ∈ b.devs none ↔ d < 10 ∧ b.dev d ≠ 0 := by simp [Burst.devs]

theorem Burst.dev_eq_zero {b : Burst} {d k : Nat} (one : b.devs none = [d]) (hk : k < 10) (other : k ≠ d) : b.dev k = 0 := by
  by_contra wrong
  have inside := Burst.mem_devs.mpr ⟨hk, wrong⟩
  rw [one, List.mem_singleton] at inside
  exact other inside

end Sys2Proof
namespace Sys2Proof.Machine

/-- One device in error: its pattern is taken off, and the data are as they were. -/
theorem burstDecode_one {b : Burst} {d : Nat} (one : b.devs none = [d]) (tag : b.tag = 0) :
    burstDecode b none false = .corrected d (b.dev d) false ∧ fixLeft b none d (b.dev d) = 0 := by
  obtain ⟨-, wrong⟩ := Burst.mem_devs.mp (by rw [one]; exact .head _ : d ∈ b.devs none)
  constructor
  · have weight := symWeight_pos (b.dev_lt d) wrong
    have few := symWeight_le (b.dev d)
    have clean : symWeight b.tag.toNat = 0 := by rw [tag]; decide
    have once : decodeBurstOnce b none false = .corrected d (b.dev d) false := by
      unfold decodeBurstOnce
      simp only [one, clean, List.map_cons, List.map_nil, List.foldl_cons, List.foldl_nil, List.headD_cons, List.length_singleton, b2n, correctable]
      rw [if_neg (by simp; omega), if_pos (by simp; omega)]
    unfold burstDecode
    rw [once]
  · have term (k : Nat) (hk : k < 8) : b.dev k ^^^ (if k = d then b.dev d else 0) = 0 := by
      by_cases here : k = d
      · rw [here, if_pos rfl, Nat.xor_self]
      · rw [if_neg here, Burst.dev_eq_zero one (by omega) here, Nat.xor_self]
    have sum (l : List Nat) (inside : ∀ k ∈ l, k < 8) :
        l.foldl (fun (v : Nat) k => if (none : Option Nat) = some k then v else v + 2 ^ (64 * k) * (b.dev k ^^^ (if k = d then b.dev d else 0))) 0 = 0 := by
      induction l with
      | nil => rfl
      | cons k l ih =>
        rw [List.foldl_cons, if_neg nofun, term k (inside k (.head _)), Nat.mul_zero, Nat.add_zero]
        exact ih fun x hx => inside x (.tail _ hx)
    unfold fixLeft
    rw [sum _ fun k hk => List.mem_range.mp hk]
    rfl

/-- Two devices in error in fewer symbols than may look like an error of one: neither POISON symbol decodes. -/
theorem burstDecode_two {b : Burst} {d e : Nat} (p : Bool) (two : b.devs none = [d, e]) (few : symWeight (b.dev d) + symWeight (b.dev e) + symWeight b.tag.toNat < 4) :
    burstDecode b none p = .uncorrectable := by
  have once (wrong : Bool) : decodeBurstOnce b none wrong = .uncorrectable := by
    have weight := symWeight_pos (b.dev_lt d) (Burst.mem_devs.mp (by rw [two]; exact .head _ : d ∈ b.devs none)).2
    have poison : b2n wrong ≤ 1 := by cases wrong <;> decide
    unfold decodeBurstOnce
    simp only [two, List.map_cons, List.map_nil, List.foldl_cons, List.foldl_nil, List.length_cons, List.length_nil, List.isEmpty_cons, ambiguous]
    rw [if_neg (by omega), if_neg (by simp), if_neg (by simp), if_pos (by simp; omega)]
  unfold burstDecode
  rw [once p, once (!p)]

end Sys2Proof.Machine
end

section
/-! SUPPORT. A DRAM read that comes back (Table 9-5): what each decode makes of it. -/
namespace Sys2Proof.Machine

/-- A patrol read takes its rank out of power-down. -/
def State.patrolled (s : State) (c r : Nat) : State := { s with dmc.pdRanks := s.dmc.pdRanks.filter (· != rankKey c r) }

section Exec
variable {s : State} {c : Chan} {r : Fin 4} {sub : Bool} {a : DramAddr}

theorem exec_dramReadDone (serves : s.dmcServes c.val = true) (here : s.dramAt c.val sub a = true) (i : Nat) (res : DramRes) :
    exec (.dramReadDone c r sub a i res) s = .next ((s.rankUp c.val r.val).dramRead c.val r.val sub a i res) := if_neg (by rw [serves, here]; decide)

theorem exec_patrolScrubRead (serves : s.dmcServes c.val = true) (on : s.flag DMC.PATROL_EN c.val = true) (run : s.frozen = false) (here : s.dramAt c.val sub a = true) (i : Nat) (res : DramRes) :
    exec (.patrolScrubRead c r sub a i res) s = .next ((s.patrolled c.val r.val).dramRead c.val r.val sub a i res) :=
  if_neg (by rw [serves, on, run, here]; decide)

end Exec

section Read
variable {s : State} {c r : Nat} {sub : Bool} {a : DramAddr} {i : Nat} {b b' : Burst}

theorem State.dramRead_good (good : burstDecode b (s.mappedOut c r sub) (s.dramPoison a.use) = .good ∨ burstDecode b (s.mappedOut c r sub) (s.dramPoison a.use) = .poisoned) :
    s.dramRead c r sub a i (.burst b b') = s := by
  unfold State.dramRead
  rcases good with e | e <;> simp only [e, ite_self]

variable (reads : a.use ≠ .command)
include reads

theorem State.dramRead_corrected {d f : Nat} {p : Bool} (corrected : burstDecode b (s.mappedOut c r sub) (s.dramPoison a.use) = .corrected d f p) :
    s.dramRead c r sub a i (.burst b b') = (s.dramCorrected c r sub d a.row.toNat).dramRewrite a.use i (fixLeft b (s.mappedOut c r sub) d f) p := by
  unfold State.dramRead
  simp only [corrected, if_neg reads]

/-- A decode that fails: its retry is asked, and the error counts. -/
theorem State.dramRead_retried (bad : burstDecode b (s.mappedOut c r sub) (s.dramPoison a.use) = .uncorrectable)
    (saved : burstDecode b' (s.mappedOut c r sub) (s.dramPoison a.use) = .good) : s.dramRead c r sub a i (.burst b b') = s.inc DMC.UE_CNT 1 c := by
  have saved' : burstDecode b' (s.mappedOut c r sub) ((s.inc DMC.UE_CNT 1 c).dramPoison a.use) = .good := saved
  unfold State.dramRead
  simp only [bad, saved', if_neg reads]

theorem State.dramRead_lost (bad : burstDecode b (s.mappedOut c r sub) (s.dramPoison a.use) = .uncorrectable ∨ burstDecode b (s.mappedOut c r sub) (s.dramPoison a.use) = .tag)
    (again : burstDecode b' (s.mappedOut c r sub) (s.dramPoison a.use) = .uncorrectable ∨ burstDecode b' (s.mappedOut c r sub) (s.dramPoison a.use) = .tag)
    {v : State} {poison : Bool} (lost : (s.inc DMC.UE_CNT 1 c).dramLost a.use = (v, poison)) :
    s.dramRead c r sub a i (.burst b b') = v.occur (dmcPage c) 64 (if poison then 6 else 5) (le 1 c ++ le 1 r ++ le 1 (b2n sub) ++ le 6 a.loc.toNat) := by
  have again' : burstDecode b' (s.mappedOut c r sub) ((s.inc DMC.UE_CNT 1 c).dramPoison a.use) = .uncorrectable ∨
      burstDecode b' (s.mappedOut c r sub) ((s.inc DMC.UE_CNT 1 c).dramPoison a.use) = .tag := again
  unfold State.dramRead
  rcases bad with e | e <;> rcases again' with e' | e' <;> simp only [e, e', if_neg reads, lost]

end Read

/-! ## A corrected error -/

section Corrected
variable {s : State} {c r dev row : Nat} {sub : Bool}

/-- The errors of a device in the hour, this one the last. -/
def State.hourly (s : State) (c r : Nat) (sub : Bool) (dev : Nat) : List Nat :=
  (((tget s.dmc.ces (subKey c r sub * 16 + dev)).getD []).filter fun t => s.timeNs < t + hourNs) ++ [s.timeNs]

/-- A corrected error counted for its channel and its row, and for its device. -/
def State.rowCounted (s : State) (c r : Nat) (sub : Bool) (dev row : Nat) : State :=
  let t := s.inc DMC.CE_CNT 1 c
  let k := (subKey c r sub * 16 + dev) * 2 ^ 18 + row
  { t with dmc.rowCes := tset t.dmc.rowCes k ((tget t.dmc.rowCes k).getD 0 + 1) }

def State.devCounted (s : State) (c r : Nat) (sub : Bool) (dev row : Nat) : State :=
  let t := s.rowCounted c r sub dev row
  { t with dmc.ces := tset t.dmc.ces (subKey c r sub * 16 + dev) (s.hourly c r sub dev) }

/-- The number of the device of a rank that MAPOUT names. -/
def State.mapNibble (s : State) (c r : Nat) (sub : Bool) : Nat := bits (s.get DMC.MAPOUT c) (4 * (2 * r + b2n sub)) 4

theorem State.rowCounted_keeps (s : State) (c r : Nat) (sub : Bool) (dev row : Nat) : State.Keeps ⟨[.regs, .dmc], some [DMC.CE_CNT]⟩ s (s.rowCounted c r sub dev row) :=
  ((State.inc_keeps s DMC.CE_CNT 1 c 0).mono (by decide)).upd_dmc (by decide)

theorem State.devCounted_keeps (s : State) (c r : Nat) (sub : Bool) (dev row : Nat) : State.Keeps ⟨[.regs, .dmc], some [DMC.CE_CNT]⟩ s (s.devCounted c r sub dev row) :=
  (s.rowCounted_keeps c r sub dev row).upd_dmc (by decide)

theorem State.rowCounted_count (ok : s.regsOk) : (s.rowCounted c r sub dev row).get DMC.CE_CNT c = satAdd 32 (s.get DMC.CE_CNT c) 1 := State.get_inc_same ok DMC.CE_CNT c
theorem State.devCounted_count (ok : s.regsOk) : (s.devCounted c r sub dev row).get DMC.CE_CNT c = satAdd 32 (s.get DMC.CE_CNT c) 1 := State.get_inc_same ok DMC.CE_CNT c

theorem State.rowCounted_get (ok : s.regsOk) {g : Fld} (a : Nat) (place : g.place 0 < 32768 ∧ g.place 0 ≠ DMC.CE_CNT.place 0) :
    (s.rowCounted c r sub dev row).get g a = s.get g a := State.get_put_place (f := DMC.CE_CNT) ok _ c a ⟨by decide, place⟩

theorem State.devCounted_get (ok : s.regsOk) {g : Fld} (a : Nat) (place : g.place 0 < 32768 ∧ g.place 0 ≠ DMC.CE_CNT.place 0) :
    (s.devCounted c r sub dev row).get g a = s.get g a := State.get_put_place (f := DMC.CE_CNT) ok _ c a ⟨by decide, place⟩

/-- What becomes of a corrected error: the device is mapped out already; it has fewer errors in the hour than MAPOUT_CE; it is mapped out now; or another of its rank is, and the limit is told once. -/
theorem State.dramCorrected_eq (ok : s.regsOk) : s.dramCorrected c r sub dev row =
    if s.mapNibble c r sub = dev then s.rowCounted c r sub dev row
    else if (s.hourly c r sub dev).length < s.get DMC.MAPOUT_CE c then s.devCounted c r sub dev row
    else if s.mapNibble c r sub = 0xF then
      ((s.devCounted c r sub dev row).put DMC.MAPOUT (setBits (s.get DMC.MAPOUT c) (4 * (2 * r + b2n sub)) 4 dev) c).blkErr (dmcPage c) 21 5 (le 1 r ++ le 1 (b2n sub) ++ le 1 dev)
    else if (s.hourly c r sub dev).length = s.get DMC.MAPOUT_CE c then (s.devCounted c r sub dev row).occur (dmcPage c) 65 6 (le 1 r ++ le 1 (b2n sub) ++ le 1 dev)
    else s.devCounted c r sub dev row := by
  have map := State.rowCounted_get (c := c) (r := r) (sub := sub) (dev := dev) (row := row) ok (g := DMC.MAPOUT) c (by decide)
  have map' := State.devCounted_get (c := c) (r := r) (sub := sub) (dev := dev) (row := row) ok (g := DMC.MAPOUT) c (by decide)
  have limit := State.devCounted_get (c := c) (r := r) (sub := sub) (dev := dev) (row := row) ok (g := DMC.MAPOUT_CE) c (by decide)
  have raw : s.dramCorrected c r sub dev row =
      if bits ((s.rowCounted c r sub dev row).get DMC.MAPOUT c) (4 * (2 * r + b2n sub)) 4 = dev then s.rowCounted c r sub dev row
      else if (s.hourly c r sub dev).length < (s.devCounted c r sub dev row).get DMC.MAPOUT_CE c then s.devCounted c r sub dev row
      else if bits ((s.rowCounted c r sub dev row).get DMC.MAPOUT c) (4 * (2 * r + b2n sub)) 4 = 0xF then
        ((s.devCounted c r sub dev row).put DMC.MAPOUT (setBits ((s.devCounted c r sub dev row).get DMC.MAPOUT c) (4 * (2 * r + b2n sub)) 4 dev) c).blkErr (dmcPage c) 21 5
          (le 1 r ++ le 1 (b2n sub) ++ le 1 dev)
      else if (s.hourly c r sub dev).length = (s.devCounted c r sub dev row).get DMC.MAPOUT_CE c then
        (s.devCounted c r sub dev row).occur (dmcPage c) 65 6 (le 1 r ++ le 1 (b2n sub) ++ le 1 dev)
      else s.devCounted c r sub dev row := rfl
  rw [raw, map, map', limit]
  rfl

/-- A corrected error counts in CE_CNT, whatever becomes of its device. -/
theorem State.dramCorrected_count (ok : s.regsOk) (hc : c < 12) : (s.dramCorrected c r sub dev row).get DMC.CE_CNT c = satAdd 32 (s.get DMC.CE_CNT c) 1 := by
  have counted : (s.devCounted c r sub dev row).get DMC.CE_CNT c = satAdd 32 (s.get DMC.CE_CNT c) 1 := State.devCounted_count ok
  have ok' := (s.devCounted_keeps c r sub dev row).ok ok
  rw [State.dramCorrected_eq ok]
  split_ifs
  · exact State.rowCounted_count ok
  · exact counted
  · rw [(State.blkErr_rep _ (dmcPage_inst hc) ..).get_dmc (State.regsOk_put ok' ..) rfl hc (by decide), State.get_put_place ok' _ _ _ (by decide)]
    exact counted
  · rw [(State.occur_rep _ (dmcPage_inst hc) ..).get_dmc ok' rfl hc (by decide)]
    exact counted
  · exact counted

/-- A register that is none of a channel's f: of another block, or at another place. -/
theorem State.get_put_apart {s : State} (ok : s.regsOk) {f g : Fld} (v : Nat) {i j : Nat} (fits : f.place 0 < 32768 ∧ g.place 0 < 32768) (inst : i < 256 ∧ j < 256)
    (apart : g.blk ≠ f.blk ∨ g.place 0 ≠ f.place 0) : (s.put f v i).get g j = s.get g j := by
  rcases apart with blk | place
  · exact State.get_put_blk ok v fits inst blk
  · exact State.get_put_place ok v i j ⟨fits.1, fits.2, place⟩

/-- A register that a corrected error does not count in is as before it. -/
theorem State.dramCorrected_get (ok : s.regsOk) (hc : c < 12) {g : Fld} {j : Nat} (place : 0x800 ≤ g.place 0 ∧ g.place 0 < 32768) (hj : j < 256)
    (other : g.blk ≠ .dmc ∨ g.place 0 ≠ DMC.CE_CNT.place 0 ∧ g.place 0 ≠ DMC.MAPOUT.place 0)
    (blk : g.blk ≠ .evf ∧ g.blk ≠ .recd ∧ g.blk ≠ .mgt ∧ g.blk ≠ .pwr) : (s.dramCorrected c r sub dev row).get g j = s.get g j := by
  obtain ⟨low, high⟩ := place
  have inst : c < 256 ∧ j < 256 := ⟨Nat.lt_trans hc (by decide), hj⟩
  have untouched : Untouched ⟨g.blk, j⟩ g 0 := ⟨high, hj, by omega, by omega, by omega, by omega, .inr blk⟩
  have counted : (s.devCounted c r sub dev row).get g j = s.get g j := State.get_put_apart (f := DMC.CE_CNT) ok _ ⟨by decide, high⟩ inst (other.imp_right And.left)
  have ok' := (s.devCounted_keeps c r sub dev row).ok ok
  rw [State.dramCorrected_eq ok]
  split_ifs
  · exact State.get_put_apart (f := DMC.CE_CNT) ok _ ⟨by decide, high⟩ inst (other.imp_right And.left)
  · exact counted
  · exact ((State.blkErr_rep _ (dmcPage_inst hc) ..).same (State.regsOk_put ok' ..) _ _ _ untouched).trans
      ((State.get_put_apart ok' _ ⟨by decide, high⟩ inst (other.imp_right And.right)).trans counted)
  · exact ((State.occur_rep _ (dmcPage_inst hc) ..).same ok' _ _ _ untouched).trans counted
  · exact counted

end Corrected
end Sys2Proof.Machine
end

section
/-! SUPPORT. Writes of sectors of frames in DRAM (R290), and the rewrite of a corrected one (Table 9-5, R281, R283). -/
namespace Sys2Proof.Machine

/-! ## An accepted write -/

section Accept
variable (s : State)

theorem State.dramIssued_tier (a k : Nat) (ws : List QWrite) : ((s.dramAsk a).dramIssued k ws).tier = s.tier :=
  Eq.trans (((s.dramAsk a).dramIssued_keeps k ws).kept .tier (by decide)) ((s.dramAsk_keeps a).kept .tier (by decide))

theorem State.dramAsk_ces (a : Nat) : (s.dramAsk a).dmc.ces = s.dmc.ces := by
  unfold State.dramAsk
  split <;> rfl

theorem State.dramIssued_ces (k : Nat) (ws : List QWrite) : (s.dramIssued k ws).dmc.ces = s.dmc.ces := by
  unfold State.dramIssued
  split <;> rfl

theorem State.dramAccept_ces (a n port : Nat) : (s.dramAccept a n port).dmc.ces = s.dmc.ces := by
  unfold State.dramAccept
  split
  · rfl
  · exact (State.dramIssued_ces ..).trans (s.dramAsk_ces a)

/-- An accepted write leaves the frames and the blocks; what it writes is stored apart from it. -/
theorem State.dramAccept_stores (a n port : Nat) : (s.dramAccept a n port).tier.frames = s.tier.frames ∧ (s.dramAccept a n port).tier.blocks = s.tier.blocks := by
  unfold State.dramAccept
  split
  · exact ⟨rfl, rfl⟩
  · dsimp only
    rw [State.dramIssued_tier]
    exact ⟨rfl, rfl⟩

/-- A write that finds room joins the queue of its subchannel. -/
theorem State.dramAccept_joins {a c n port : Nat} (chan : s.addrChan a = some c) (room : ((tget s.tier.writes (c * 2 + b2n (addrSub a))).getD []).length < 128) :
    (s.dramAccept a n port).tier.written = tset s.tier.written n s.timeNs ∧
    (s.dramAccept a n port).tier.writes =
      tset s.tier.writes (c * 2 + b2n (addrSub a)) ((tget s.tier.writes (c * 2 + b2n (addrSub a))).getD [] ++ [{ sector := n, port := port, since := s.timeNs }]) := by
  have time (k : Nat) (ws : List QWrite) : ((s.dramAsk a).dramIssued k ws).timeNs = s.timeNs :=
    Eq.trans (((s.dramAsk a).dramIssued_keeps k ws).kept .timeNs (by decide)) ((s.dramAsk_keeps a).kept .timeNs (by decide))
  have few := Nat.not_le_of_lt room
  unfold State.dramAccept
  simp only [chan, if_neg few, State.dramIssued_tier, time, and_self]

theorem State.frameWrite_ces (n : Nat) (v : SectorVal) (port : Nat) : (s.frameWrite n v port).dmc.ces = s.dmc.ces := by
  unfold State.frameWrite
  dsimp only
  split
  · exact State.dramAccept_ces ..
  · rfl

theorem State.frameWrite_stores (n : Nat) (v : SectorVal) (port : Nat) :
    (s.frameWrite n v port).tier.frames = (if v = zeroSec then tdel s.tier.frames n else tset s.tier.frames n v) ∧ (s.frameWrite n v port).tier.blocks = s.tier.blocks := by
  unfold State.frameWrite
  dsimp only
  split
  · exact State.dramAccept_stores ..
  · exact ⟨rfl, rfl⟩

/-- A write of a frame's sector joins the queue of the subchannel that holds the sector. -/
theorem State.frameWrite_joins {a c n port : Nat} {v : SectorVal} (place : s.sectorAddr n = some a) (chan : s.addrChan a = some c)
    (room : ((tget s.tier.writes (c * 2 + b2n (addrSub a))).getD []).length < 128) :
    (s.frameWrite n v port).tier.written = tset s.tier.written (2 * n) s.timeNs ∧
    (s.frameWrite n v port).tier.writes =
      tset s.tier.writes (c * 2 + b2n (addrSub a)) ((tget s.tier.writes (c * 2 + b2n (addrSub a))).getD [] ++ [{ sector := 2 * n, port := port, since := s.timeNs }]) := by
  let u : State := { s with tier.frames := if v = zeroSec then tdel s.tier.frames n else tset s.tier.frames n v }
  have place' : u.sectorAddr n = some a := place
  have stores : s.frameWrite n v port = u.dramAccept a (2 * n) port := by
    unfold State.frameWrite
    dsimp only [u] at place' ⊢
    rw [place']
  rw [stores]
  exact State.dramAccept_joins (s := u) chan room

theorem State.frameRead_frameWrite_same (n : Nat) (v : SectorVal) (port : Nat) : (s.frameWrite n v port).frameRead n = v := by
  unfold State.frameRead
  rw [(s.frameWrite_stores n v port).1]
  split
  next zero => rw [tget_tdel_same, zero, Option.getD_none]
  · rw [tget_tset_same, Option.getD_some]

theorem State.frameRead_frameWrite_ne {m n : Nat} (ne : m ≠ n) (v : SectorVal) (port : Nat) : (s.frameWrite n v port).frameRead m = s.frameRead m := by
  unfold State.frameRead
  rw [(s.frameWrite_stores n v port).1]
  split
  · rw [tget_tdel_ne _ ne]
  · rw [tget_tset_ne _ _ ne]

end Accept

/-! ## Where a sector lies -/

/-- The registers that place a sector in DRAM (R271, R618). -/
def placeRegs : List (Fld × Nat) := [(DMC.DRAM_GIB, 0), (TIER.T1_FRAMES, 0), (TIER.MIRROR_FRAMES, 0), (DMC.PAIRS_USED, 0), (FTL.USER_BLKS, ftlPage.inst), (FTL.SYS_BLKS, ftlPage.inst)]

/-- t places every sector where s does. -/
structure State.Places (s t : State) : Prop where
  blocks : t.tier.blocks = s.tier.blocks
  regs : ∀ e ∈ placeRegs, t.get e.1 e.2 = s.get e.1 e.2

namespace State.Places
variable {s t : State} (h : s.Places t)
include h

theorem sectorAddr (n : Nat) : t.sectorAddr n = s.sectorAddr n := by
  have gib : t.get DMC.DRAM_GIB = s.get DMC.DRAM_GIB := h.regs (DMC.DRAM_GIB, 0) (by decide)
  have frames : t.get TIER.T1_FRAMES = s.get TIER.T1_FRAMES := h.regs (TIER.T1_FRAMES, 0) (by decide)
  have mirror : t.get TIER.MIRROR_FRAMES = s.get TIER.MIRROR_FRAMES := h.regs (TIER.MIRROR_FRAMES, 0) (by decide)
  have user := h.regs (FTL.USER_BLKS, ftlPage.inst) (by decide)
  have sys := h.regs (FTL.SYS_BLKS, ftlPage.inst) (by decide)
  unfold State.sectorAddr State.blockFrame State.isSys State.frameAddr State.frameBase
  simp only [h.blocks, gib, frames, mirror, user, sys]

theorem addrChan (a : Nat) : t.addrChan a = s.addrChan a := by
  have pairs : t.get DMC.PAIRS_USED = s.get DMC.PAIRS_USED := h.regs (DMC.PAIRS_USED, 0) (by decide)
  unfold State.addrChan State.chansUsed State.bitOf
  simp only [pairs]

end State.Places

/-- A read of a frame's sector is of the sector's address. -/
theorem State.dramAt_frame {s : State} {c n : Nat} {sub : Bool} {a : DramAddr} (use : a.use = .frame n) (here : s.dramAt c sub a = true) :
    ∃ x, s.sectorAddr n = some x ∧ s.addrChan x = some c ∧ addrSub x = sub := by
  unfold State.dramAt at here
  rw [use] at here
  dsimp only at here
  split at here
  next x e =>
    simp only [State.liesAt, Bool.and_eq_true, beq_iff_eq] at here
    obtain ⟨⟨chan, side⟩, _⟩ := here
    exact ⟨x, e, chan, side⟩
  · exact absurd here (by decide)

/-! ## The rewrite of a corrected sector -/

section Rewrite
variable (s : State)

theorem State.dramRewrite_ces (u : DramUse) (i : Nat) (left : Sector) (p : Bool) : (s.dramRewrite u i left p).dmc.ces = s.dmc.ces := by
  unfold State.dramRewrite
  extract_lets fresh
  clear_value fresh
  split
  · split
    · exact State.frameWrite_ces ..
    · rfl
  · split
    · rfl
    · refine (State.dramAccept_ces ..).trans ?_
      split
      · dsimp only
        split <;> rfl
      · rfl
  all_goals rfl

theorem State.dramRewrite_get (u : DramUse) (i : Nat) (left : Sector) (p : Bool) (f : Fld) (j : Nat) : (s.dramRewrite u i left p).get f j = s.get f j :=
  have k := s.dramRewrite_keeps u i left p
  State.rd_of_regs (k.kept .regs (by decide)) (k.kept .unit (by decide)) ..

/-- A write accepted since the read discards the rewrite (R283). -/
theorem State.dramRewrite_stale {n i x : Nat} (written : tget s.tier.written (2 * n) = some x) (since : i ≤ x) (left : Sector) (p : Bool) : s.dramRewrite (.frame n) i left p = s := by
  unfold State.dramRewrite
  simp only [written, decide_eq_false (Nat.not_lt_of_le since), Bool.false_eq_true, if_false]

theorem State.dramRewrite_fresh {n i : Nat} (fresh : ∀ x, tget s.tier.written (2 * n) = some x → x < i) (p : Bool) :
    s.dramRewrite (.frame n) i 0 p = s.frameWrite n { s.frameRead n with poison := p } 16 := by
  have same : (s.frameRead n).data ^^^ (0 : Sector) = (s.frameRead n).data := BitVec.xor_zero
  unfold State.dramRewrite
  cases e : tget s.tier.written (2 * n) with
  | none => simp only [e, if_true, same]
  | some x => simp only [e, decide_eq_true (fresh x e), if_true, same]

end Rewrite
end Sys2Proof.Machine
end

section
/-! SUPPORT. Good and corrected reads of a DRAM channel (R281, R282, R283, R300). -/
namespace Sys2Proof.Machine

section Ranks
variable (s : State) (c r : Nat)

theorem State.patrolled_keeps : State.Keeps ⟨[.dmc], some []⟩ s (s.patrolled c r) := (State.Keeps.refl _ s).upd_dmc (by decide)

end Ranks

section Hour
variable {s : State} {c r dev row : Nat} {sub : Bool}

theorem State.hourly_length : (s.hourly c r sub dev).length = (((tget s.dmc.ces (subKey c r sub * 16 + dev)).getD []).filter fun t => s.timeNs < t + hourNs).length + 1 :=
  List.length_append

/-- Below the limit of the hour nothing is mapped out. -/
theorem State.dramCorrected_below (ok : s.regsOk) (other : s.mapNibble c r sub ≠ dev) (below : (s.hourly c r sub dev).length < s.get DMC.MAPOUT_CE c) :
    s.dramCorrected c r sub dev row = s.devCounted c r sub dev row := by
  rw [State.dramCorrected_eq ok, if_neg other, if_pos below]

/-- At the limit of the hour the device is mapped out, where no device of its rank is. -/
theorem State.dramCorrected_maps (ok : s.regsOk) (hd : dev < 10) (none' : s.mapNibble c r sub = 0xF) (limit : s.get DMC.MAPOUT_CE c ≤ (s.hourly c r sub dev).length) :
    s.dramCorrected c r sub dev row =
      ((s.devCounted c r sub dev row).put DMC.MAPOUT (setBits (s.get DMC.MAPOUT c) (4 * (2 * r + b2n sub)) 4 dev) c).blkErr (dmcPage c) 21 5 (le 1 r ++ le 1 (b2n sub) ++ le 1 dev) := by
  have other : s.mapNibble c r sub ≠ dev := by
    rw [none']
    omega
  rw [State.dramCorrected_eq ok, if_neg other, if_neg (Nat.not_lt_of_le limit), if_pos none']

theorem State.devCounted_ces : tget (s.devCounted c r sub dev row).dmc.ces (subKey c r sub * 16 + dev) = some (s.hourly c r sub dev) := tget_tset_same ..

end Hour

/-! ## A field of a register -/

theorem bits_setBits (v lo w x : Nat) : bits (setBits v lo w x) lo w = x % 2 ^ w := by
  have split : v = 2 ^ lo * (v / 2 ^ lo) + v % 2 ^ lo := (Nat.div_add_mod v (2 ^ lo)).symm
  have high : v / 2 ^ lo = 2 ^ w * (v / 2 ^ lo / 2 ^ w) + v / 2 ^ lo % 2 ^ w := (Nat.div_add_mod _ (2 ^ w)).symm
  have whole : setBits v lo w x = 2 ^ lo * (2 ^ w * (v / 2 ^ lo / 2 ^ w) + x % 2 ^ w) + v % 2 ^ lo := by
    have cut : v - v / 2 ^ lo % 2 ^ w * 2 ^ lo = 2 ^ lo * (2 ^ w * (v / 2 ^ lo / 2 ^ w)) + v % 2 ^ lo := by
      refine Nat.sub_eq_of_eq_add ?_
      calc v = 2 ^ lo * (v / 2 ^ lo) + v % 2 ^ lo := split
        _ = 2 ^ lo * (2 ^ w * (v / 2 ^ lo / 2 ^ w) + v / 2 ^ lo % 2 ^ w) + v % 2 ^ lo := by rw [← high]
        _ = _ := by ring
    unfold setBits bits
    rw [Nat.shiftRight_eq_div_pow, cut]
    ring
  unfold bits
  rw [Nat.shiftRight_eq_div_pow, whole, Nat.mul_add_div (Nat.two_pow_pos lo), Nat.div_eq_of_lt (Nat.mod_lt _ (Nat.two_pow_pos lo)), Nat.add_zero, Nat.mul_add_mod, Nat.mod_mod]

/-- A field that lies below the end of a cut number. -/
theorem bits_mod {v lo w n : Nat} (fits : lo + w ≤ n) : bits (v % 2 ^ n) lo w = bits v lo w := by
  unfold bits
  refine Nat.eq_of_testBit_eq fun i => ?_
  simp only [Nat.testBit_mod_two_pow, Nat.testBit_shiftRight]
  by_cases hi : i < w
  · have : lo + i < n := by omega
    simp [this]
  · simp [hi]

/-! ## The clauses -/

section Clauses
variable {s : State} {c : Chan} {r : Fin 4} {sub : Bool} {a : DramAddr} {i d f : Nat} {p : Bool} {b b' : Burst}

/-- A good read changes no more than the rank's power-down and the time of its last request. -/
theorem dramReadDone_good (serves : s.dmcServes c.val = true) (here : s.dramAt c.val sub a = true)
    (good : burstDecode b (s.mappedOut c.val r.val sub) (s.dramPoison a.use) = .good ∨ burstDecode b (s.mappedOut c.val r.val sub) (s.dramPoison a.use) = .poisoned) :
    ∃ t, exec (.dramReadDone c r sub a i (.burst b b')) s = .next t ∧
      t.dmc = { s.dmc with pdRanks := s.dmc.pdRanks.filter (· != rankKey c.val r.val), asked := tset s.dmc.asked (rankKey c.val r.val) s.timeNs } ∧ s.keptBut t [.dmc] := by
  refine ⟨s.rankUp c.val r.val, ?_, rfl, (s.rankUp_keeps ..).kept⟩
  rw [exec_dramReadDone serves here, State.dramRead_good (s := s.rankUp c.val r.val) good]

/-- A correction counts and, below the limit of the hour, maps nothing out. -/
theorem patrolScrubRead_counts (ok : s.regsOk) (serves : s.dmcServes c.val = true) (on : s.flag DMC.PATROL_EN c.val = true) (run : s.frozen = false) (here : s.dramAt c.val sub a = true)
    (reads : a.use ≠ .command) (corrected : burstDecode b (s.mappedOut c.val r.val sub) (s.dramPoison a.use) = .corrected d f p) (other : s.mapNibble c.val r.val sub ≠ d)
    (below : (s.hourly c.val r.val sub d).length < s.get DMC.MAPOUT_CE c.val) :
    ∃ t, exec (.patrolScrubRead c r sub a i (.burst b b')) s = .next t ∧ t.get DMC.CE_CNT c.val = satAdd 32 (s.get DMC.CE_CNT c.val) 1 ∧
      tget t.dmc.ces (subKey c.val r.val sub * 16 + d) = some (s.hourly c.val r.val sub d) ∧ s.frame t [.regs, .dmc, .tier, .twn] [DMC.CE_CNT] := by
  have step := exec_patrolScrubRead (r := r) serves on run here i (.burst b b')
  have up := s.patrolled_keeps c.val r.val
  have ok' := up.ok ok
  have counted := (s.patrolled c.val r.val).devCounted_keeps c.val r.val sub d a.row.toNat
  rw [State.dramRead_corrected (s := s.patrolled c.val r.val) reads corrected, State.dramCorrected_below (s := s.patrolled c.val r.val) ok' other below] at step
  refine ⟨_, step, ?_, ?_, State.Keeps.frame (State.Keeps.step (State.dramRewrite_keeps ..)
    (State.Keeps.step (m := ⟨[.regs, .dmc, .tier, .twn], some [DMC.CE_CNT]⟩) counted (up.mono (by decide)) (by decide)) (by decide)) ok (by decide)⟩
  · rw [State.dramRewrite_get]
    exact State.devCounted_count (s := s.patrolled c.val r.val) ok'
  · rw [State.dramRewrite_ces]
    exact State.devCounted_ces (s := s.patrolled c.val r.val)

/-- At the limit of the hour the device is mapped out. -/
theorem dramReadDone_mapsOut (ok : s.regsOk) (serves : s.dmcServes c.val = true) (here : s.dramAt c.val sub a = true) (reads : a.use ≠ .command) (hd : d < 10)
    (corrected : burstDecode b none (s.dramPoison a.use) = .corrected d f p) (none' : s.mapNibble c.val r.val sub = 0xF)
    (limit : s.get DMC.MAPOUT_CE c.val ≤ (s.hourly c.val r.val sub d).length) :
    ∃ t, exec (.dramReadDone c r sub a i (.burst b b')) s = .next t ∧ t.mapNibble c.val r.val sub = d ∧ bit (t.rd (dmcPage c.val) HDR.ERR_STAT) 21 = true ∧
      s.frame t ([.dmc, .tier, .twn] ++ reported) ([DMC.CE_CNT, DMC.MAPOUT] ++ reportedFields) := by
  have step := exec_dramReadDone (r := r) serves here i (.burst b b')
  have up := s.rankUp_keeps c.val r.val
  have ok' := up.ok ok
  have out : (s.rankUp c.val r.val).mappedOut c.val r.val sub = none := if_pos none'
  have maps := State.dramCorrected_maps (s := s.rankUp c.val r.val) (row := a.row.toNat) ok' hd none' limit
  have keeps := State.dramCorrected_keeps (s.rankUp c.val r.val) c.val r.val sub d a.row.toNat
  have counted := ((s.rankUp c.val r.val).devCounted_keeps c.val r.val sub d a.row.toNat).ok ok'
  rw [State.dramRead_corrected (s := s.rankUp c.val r.val) reads (by rw [out]; exact corrected)] at step
  refine ⟨_, step, ?_, ?_, State.Keeps.frame (State.Keeps.step (State.dramRewrite_keeps ..)
    (State.Keeps.step (m := ⟨[.dmc, .tier, .twn] ++ reported, some ([DMC.CE_CNT, DMC.MAPOUT] ++ reportedFields)⟩) keeps (up.mono (by decide)) (by decide)) (by decide)) ok (by decide)⟩
  · have field : 4 * (2 * r.val + b2n sub) + 4 ≤ 32 := by
      have := r.isLt
      have : b2n sub ≤ 1 := by cases sub <;> decide
      omega
    unfold State.mapNibble
    rw [State.dramRewrite_get, maps, (State.blkErr_rep _ (dmcPage_inst c.isLt) ..).get_dmc (State.regsOk_put counted ..) rfl c.isLt (by decide), State.get_put_same counted]
    exact (bits_mod field).trans ((bits_setBits ..).trans (Nat.mod_eq_of_lt (by omega)))
  · have k := State.dramRewrite_keeps ((s.rankUp c.val r.val).dramCorrected c.val r.val sub d a.row.toNat) a.use i (fixLeft b ((s.rankUp c.val r.val).mappedOut c.val r.val sub) d f) p
    rw [State.rd_of_regs (k.kept .regs (by decide)) (k.kept .unit (by decide)), maps]
    exact State.blkErr_bit (State.regsOk_put counted ..) (dmcPage_inst c.isLt) (by decide) ..

/-- A corrected error leaves every sector at its place. -/
theorem State.dramCorrected_places (ok : s.regsOk) (row : Nat) : s.Places (s.dramCorrected c.val r.val sub d row) := by
  refine ⟨congrArg TierState.blocks ((State.dramCorrected_keeps s c.val r.val sub d row).kept .tier (by decide)), fun e he => ?_⟩
  have small (e : Fld × Nat) (he : e ∈ placeRegs) : (0x800 ≤ e.1.place 0 ∧ e.1.place 0 < 32768) ∧ e.2 < 256 ∧
      (e.1.blk ≠ .dmc ∨ e.1.place 0 ≠ DMC.CE_CNT.place 0 ∧ e.1.place 0 ≠ DMC.MAPOUT.place 0) ∧ (e.1.blk ≠ .evf ∧ e.1.blk ≠ .recd ∧ e.1.blk ≠ .mgt ∧ e.1.blk ≠ .pwr) := by
    revert e
    decide
  obtain ⟨place, inst, other, blk⟩ := small e he
  exact State.dramCorrected_get ok c.isLt place inst other blk

/-- The corrected sector of a frame is rewritten with the poison it decoded with. -/
theorem dramReadDone_rewrites {n : Nat} (ok : s.regsOk) (serves : s.dmcServes c.val = true) (here : s.dramAt c.val sub a = true) (use : a.use = .frame n)
    (corrected : burstDecode b (s.mappedOut c.val r.val sub) (s.dramPoison a.use) = .corrected d f p) (whole : fixLeft b (s.mappedOut c.val r.val sub) d f = 0)
    (fresh : ∀ x, tget s.tier.written (2 * n) = some x → x < i) (room : ((tget s.tier.writes (2 * c.val + b2n sub)).getD []).length < 128) :
    ∃ t, exec (.dramReadDone c r sub a i (.burst b b')) s = .next t ∧ t.frameRead n = { s.frameRead n with poison := p } ∧ (∀ m, m ≠ n → t.frameRead m = s.frameRead m) ∧
      tget t.tier.written (2 * n) = some s.timeNs ∧
      tget t.tier.writes (2 * c.val + b2n sub) = some (((tget s.tier.writes (2 * c.val + b2n sub)).getD []) ++ [{ sector := 2 * n, port := 16, since := s.timeNs }]) ∧
      s.frame t ([.dmc, .tier] ++ reported) ([DMC.CE_CNT, DMC.MAPOUT] ++ reportedFields) := by
  have reads : a.use ≠ .command := by rw [use]; exact nofun
  have step := exec_dramReadDone (r := r) serves here i (.burst b b')
  obtain ⟨x, place, chan, side⟩ := State.dramAt_frame use here
  have up := s.rankUp_keeps c.val r.val
  have ok' := up.ok ok
  have keeps := State.dramCorrected_keeps (s.rankUp c.val r.val) c.val r.val sub d a.row.toNat
  have places := State.dramCorrected_places (s := s.rankUp c.val r.val) (c := c) (r := r) (sub := sub) (d := d) ok' a.row.toNat
  rw [State.dramRead_corrected (s := s.rankUp c.val r.val) reads corrected] at step
  have tier : ((s.rankUp c.val r.val).dramCorrected c.val r.val sub d a.row.toNat).tier = s.tier := keeps.kept .tier (by decide)
  have time : ((s.rankUp c.val r.val).dramCorrected c.val r.val sub d a.row.toNat).timeNs = s.timeNs := keeps.kept .timeNs (by decide)
  have keeps' := State.Keeps.step (m := ⟨[.dmc, .tier] ++ reported, some ([DMC.CE_CNT, DMC.MAPOUT] ++ reportedFields)⟩) keeps (up.mono (by decide)) (by decide)
  generalize (s.rankUp c.val r.val).dramCorrected c.val r.val sub d a.row.toNat = u at step places tier time keeps'
  have left : fixLeft b ((s.rankUp c.val r.val).mappedOut c.val r.val sub) d f = 0 := whole
  rw [use, left, State.dramRewrite_fresh u (by rw [tier]; exact fresh)] at step
  have same (m : Nat) : u.frameRead m = s.frameRead m := by
    unfold State.frameRead
    rw [tier]
  obtain ⟨written, writes⟩ := u.frameWrite_joins (n := n) (v := { u.frameRead n with poison := p }) (port := 16) ((places.sectorAddr n).trans place) ((places.addrChan x).trans chan)
    (by rw [side, tier, Nat.mul_comm]; exact room)
  rw [side, tier, time, Nat.mul_comm] at writes
  refine ⟨_, step, ?_, ?_, ?_, ?_, State.Keeps.frame (State.Keeps.step (State.frameWrite_keeps ..) keeps' (by decide)) ok (by decide)⟩
  · rw [State.frameRead_frameWrite_same, same]
  · intro m ne
    rw [State.frameRead_frameWrite_ne _ ne, same]
  · rw [written, time, tget_tset_same]
  · rw [writes, tget_tset_same]

/-- A rewrite is discarded where a write has been accepted since the read. -/
theorem dramReadDone_discards {n x : Nat} (ok : s.regsOk) (serves : s.dmcServes c.val = true) (here : s.dramAt c.val sub a = true) (use : a.use = .frame n)
    (corrected : burstDecode b (s.mappedOut c.val r.val sub) (s.dramPoison a.use) = .corrected d f p) (written : tget s.tier.written (2 * n) = some x) (since : i ≤ x) :
    ∃ t, exec (.dramReadDone c r sub a i (.burst b b')) s = .next t ∧ t.get DMC.CE_CNT c.val = satAdd 32 (s.get DMC.CE_CNT c.val) 1 ∧
      s.frame t ([.dmc] ++ reported) ([DMC.CE_CNT, DMC.MAPOUT] ++ reportedFields) := by
  have reads : a.use ≠ .command := by rw [use]; exact nofun
  have step := exec_dramReadDone (r := r) serves here i (.burst b b')
  have up := s.rankUp_keeps c.val r.val
  have ok' := up.ok ok
  have keeps := State.dramCorrected_keeps (s.rankUp c.val r.val) c.val r.val sub d a.row.toNat
  have tier : ((s.rankUp c.val r.val).dramCorrected c.val r.val sub d a.row.toNat).tier = s.tier := keeps.kept .tier (by decide)
  rw [State.dramRead_corrected (s := s.rankUp c.val r.val) reads corrected, use, State.dramRewrite_stale _ (by rw [tier]; exact written) since] at step
  refine ⟨_, step, State.dramCorrected_count (s := s.rankUp c.val r.val) ok' c.isLt, State.Keeps.frame (State.Keeps.step keeps (up.mono (m := ⟨[.dmc] ++ reported, some ([DMC.CE_CNT, DMC.MAPOUT] ++ reportedFields)⟩) (by decide)) (by decide)) ok (by decide)⟩

end Clauses
end Sys2Proof.Machine
end

section
/-! SUPPORT. Reads that are not saved, and commands that fail their parity check (R278, R284). -/
namespace Sys2Proof.Machine

/-- What a read that is lost may change: its loss, its count and its report. -/
def lostScope : Scope := ⟨[.dmc, .tier] ++ reported, some (DMC.UE_CNT :: reportedFields)⟩

section Lost
variable {s u v : State} {c : Nat} {l m : Scope}

/-- After the loss the count of uncorrectable reads has risen by one. -/
theorem State.lost_count (ok : s.regsOk) (hc : c < 12) (lost : State.Keeps m (s.inc DMC.UE_CNT 1 c) v) (kept : Part.regs ∉ m.parts ∧ Part.unit ∉ m.parts) (w : Nat) (pl : List Byte) :
    (v.occur (dmcPage c) 64 w pl).get DMC.UE_CNT c = satAdd 32 (s.get DMC.UE_CNT c) 1 := by
  have counted : (s.inc DMC.UE_CNT 1 c).regsOk := State.regsOk_put ok ..
  rw [(State.occur_rep _ (dmcPage_inst hc) ..).get_dmc (lost.ok counted) rfl hc (by decide)]
  exact (State.rd_of_regs (lost.kept .regs kept.1) (lost.kept .unit kept.2) ..).trans (State.get_inc_same ok DMC.UE_CNT c)

theorem State.lost_keeps (up : State.Keeps ⟨[.dmc], some []⟩ s u) (lost : State.Keeps m (u.inc DMC.UE_CNT 1 c) v) (inside : Scope.within m l = true) (wide : Scope.within lostScope l = true)
    (w : Nat) (pl : List Byte) : State.Keeps l s (v.occur (dmcPage c) 64 w pl) := by
  have counted : State.Keeps lostScope s (u.inc DMC.UE_CNT 1 c) := State.Keeps.step (State.inc_keeps ..) (up.mono (m := ⟨[.regs, .dmc], some [DMC.UE_CNT]⟩) (by decide)) (by decide) |>.mono (by decide)
  have told : State.Keeps lostScope v (v.occur (dmcPage c) 64 w pl) := (State.occur_keeps ..).mono (by decide)
  exact State.Keeps.step told (State.Keeps.step lost (counted.mono wide) inside) wide

end Lost

/-! ## A unit that is asked again -/

theorem State.refill_asks {s : State} {p u : Nat} {b : TBlock} (there : s.block p = some b) (absent : b.unitPresent u = false) :
    ∃ b', (s.refill p u).block p = some b' ∧ b'.units = b.units ∧ b'.filling.contains u = true := by
  unfold State.refill
  rw [there]
  dsimp only
  rw [absent, Bool.false_or]
  split
  next fills => exact ⟨b, there, rfl, fills⟩
  · refine ⟨{ b with filling := b.filling ++ [u] }, ?_, rfl, by simp⟩
    have tier := (State.t2Ask_keeps (s.putBlock p { b with filling := b.filling ++ [u] }) p [u] false).kept .tier (by decide)
    exact (congrArg (fun t : TierState => tget t.blocks p) tier).trans (tget_tset_same ..)

/-- A unit that is no longer PRESENT. -/
def TBlock.without (b : TBlock) (u : Nat) (x : TUnit) : TBlock := { b with units := tset b.units u { x with present := false } }

theorem TBlock.without_absent (b : TBlock) (u : Nat) (x : TUnit) : (b.without u x).unitPresent u = false := by
  unfold TBlock.unitPresent TBlock.without
  simp only [tget_tset_same]

section Losses
variable {s : State} {n : Nat} {k : TBlock} {x : TUnit}

/-- A clean unit of a frame is lost to no one: it is refilled (R284). -/
theorem State.dramLost_clean (there : s.block (pbnOf n) = some k) (unit : tget k.units (unitOf n % 16) = some x) (present : x.present = true) (clean : x.dirty = false) :
    s.dramLost (.frame n) = ((s.putBlock (pbnOf n) (k.without (unitOf n % 16) x)).refill (pbnOf n) (unitOf n % 16), false) := by
  unfold State.dramLost
  simp only [there, unit]
  rw [if_neg (by rw [present]; decide), if_pos (by rw [clean]; decide)]
  rfl

theorem State.twinCurrent_congr {t : State} (role : t.role = s.role) (twn : t.twn = s.twn) (blocks : t.tier.blocks = s.tier.blocks) (n : Nat) : t.twinCurrent n = s.twinCurrent n := by
  unfold State.twinCurrent State.unitUnacked State.mirroring State.block
  rw [role, twn, blocks]

/-- Brine of which the partner has no current copy is poisoned (R284). -/
theorem State.dramLost_brine (there : s.block (pbnOf n) = some k) (unit : tget k.units (unitOf n % 16) = some x) (present : x.present = true) (dirty : x.dirty = true)
    (alone : s.twinCurrent n = false) (pan : s.panFind (n / 2) = none) (user : s.isSys (pbnOf n) = false) :
    s.dramLost (.frame n) = (s.frameWrite n { s.frameRead n with poison := true }, true) := by
  have keeps := s.frameWrite_keeps n { s.frameRead n with poison := true } 14
  have alone' : (s.frameWrite n { s.frameRead n with poison := true }).twinCurrent n = false := by
    refine (State.twinCurrent_congr ?_ (keeps.kept .twn (by decide)) (s.frameWrite_stores ..).2 n).trans alone
    exact State.rd_of_regs (keeps.kept .regs (by decide)) (keeps.kept .unit (by decide)) ..
  unfold State.dramLost
  simp only [there, unit, present, dirty, alone, user, pan, alone', Option.any_none, Bool.not_true, Bool.false_eq_true, if_false, Bool.false_and, Bool.and_false]

end Losses

/-! ## The clauses -/

section Clauses
variable {s : State} {c : Chan} {r : Fin 4} {sub : Bool} {a : DramAddr} {i : Nat} {b b' : Burst}

section Frame
variable {n : Nat} {k : TBlock} {x : TUnit} (ok : s.regsOk) (serves : s.dmcServes c.val = true) (here : s.dramAt c.val sub a = true) (use : a.use = .frame n)
  (bad : burstDecode b (s.mappedOut c.val r.val sub) (s.dramPoison a.use) = .uncorrectable) (again : burstDecode b' (s.mappedOut c.val r.val sub) (s.dramPoison a.use) = .uncorrectable)
  (there : s.block (pbnOf n) = some k) (unit : tget k.units (unitOf n % 16) = some x) (present : x.present = true)
include ok serves here use bad again there unit present

/-- A clean unit of a frame is refilled. -/
theorem dramReadDone_refills (clean : x.dirty = false) :
    ∃ t k', exec (.dramReadDone c r sub a i (.burst b b')) s = .next t ∧ t.get DMC.UE_CNT c.val = satAdd 32 (s.get DMC.UE_CNT c.val) 1 ∧ t.block (pbnOf n) = some k' ∧
      tget k'.units (unitOf n % 16) = some { x with present := false } ∧ k'.filling.contains (unitOf n % 16) = true ∧ s.frame t ([.dmc, .tier, .flm] ++ reported) (DMC.UE_CNT :: reportedFields) := by
  have reads : a.use ≠ .command := by rw [use]; exact nofun
  have up := s.rankUp_keeps c.val r.val
  have lost := State.dramLost_clean (s := (s.rankUp c.val r.val).inc DMC.UE_CNT 1 c.val) there unit present clean
  have step := exec_dramReadDone (r := r) serves here i (.burst b b')
  rw [State.dramRead_lost (s := s.rankUp c.val r.val) reads (.inl bad) (.inl again) (use ▸ lost)] at step
  have keeps : State.Keeps ⟨[.tier, .flm, .out], some []⟩ ((s.rankUp c.val r.val).inc DMC.UE_CNT 1 c.val)
      ((((s.rankUp c.val r.val).inc DMC.UE_CNT 1 c.val).putBlock (pbnOf n) (k.without (unitOf n % 16) x)).refill (pbnOf n) (unitOf n % 16)) :=
    State.Keeps.step (State.refill_keeps ..) ((State.putBlock_keeps ..).mono (by decide)) (by decide)
  obtain ⟨k', block, units, fills⟩ := State.refill_asks (s := ((s.rankUp c.val r.val).inc DMC.UE_CNT 1 c.val).putBlock (pbnOf n) (k.without (unitOf n % 16) x)) (tget_tset_same ..)
    (k.without_absent (unitOf n % 16) x)
  refine ⟨_, k', step, State.lost_count (s := s.rankUp c.val r.val) (up.ok ok) c.isLt keeps (by decide) .., ?_, ?_, fills,
    State.Keeps.frame (State.lost_keeps (l := ⟨[.dmc, .tier, .flm] ++ reported, some (DMC.UE_CNT :: reportedFields)⟩) up keeps (by decide) (by decide) ..) ok (by decide)⟩
  · unfold State.block at block ⊢
    rw [State.occur_tier, block]
  · rw [units]
    exact tget_tset_same ..

/-- Brine without a current copy at the partner is poisoned. -/
theorem dramReadDone_poisons (dirty : x.dirty = true) (alone : s.twinCurrent n = false) (pan : s.panFind (n / 2) = none) (user : s.isSys (pbnOf n) = false) :
    ∃ t, exec (.dramReadDone c r sub a i (.burst b b')) s = .next t ∧ t.get DMC.UE_CNT c.val = satAdd 32 (s.get DMC.UE_CNT c.val) 1 ∧
      t.frameRead n = { s.frameRead n with poison := true } ∧ (∀ m, m ≠ n → t.frameRead m = s.frameRead m) ∧ t.tier.blocks = s.tier.blocks ∧
      s.frame t ([.dmc, .tier] ++ reported) (DMC.UE_CNT :: reportedFields) := by
  have reads : a.use ≠ .command := by rw [use]; exact nofun
  have up := s.rankUp_keeps c.val r.val
  have ok' := up.ok ok
  have inst : c.val < 256 := Nat.lt_trans c.isLt (by decide)
  have elsewhere {g : Fld} (j : Nat) (hg : g.place 0 < 32768) (hj : j < 256) (ne : g.blk ≠ .dmc) : ((s.rankUp c.val r.val).inc DMC.UE_CNT 1 c.val).get g j = s.get g j :=
    State.get_put_blk (f := DMC.UE_CNT) ok' _ ⟨by decide, hg⟩ ⟨inst, hj⟩ ne
  have alone' : ((s.rankUp c.val r.val).inc DMC.UE_CNT 1 c.val).twinCurrent n = false :=
    (State.twinCurrent_congr (s := s) (elsewhere 0 (by decide) (by decide) (by decide)) rfl rfl n).trans alone
  have user' : ((s.rankUp c.val r.val).inc DMC.UE_CNT 1 c.val).isSys (pbnOf n) = false := by
    unfold State.isSys at user ⊢
    rw [elsewhere (g := FTL.USER_BLKS) _ (by decide) (by decide) (by decide), elsewhere (g := FTL.SYS_BLKS) _ (by decide) (by decide) (by decide)]
    exact user
  have lost := State.dramLost_brine (s := (s.rankUp c.val r.val).inc DMC.UE_CNT 1 c.val) there unit present dirty alone' pan user'
  have step := exec_dramReadDone (r := r) serves here i (.burst b b')
  rw [State.dramRead_lost (s := s.rankUp c.val r.val) reads (.inl bad) (.inl again) (use ▸ lost)] at step
  have keeps := ((s.rankUp c.val r.val).inc DMC.UE_CNT 1 c.val).frameWrite_keeps n { s.frameRead n with poison := true } 14
  have read (t : State) (m w : Nat) (pl : List Byte) : (t.occur (dmcPage c.val) 64 w pl).frameRead m = t.frameRead m := by
    unfold State.frameRead
    rw [State.occur_tier]
  refine ⟨_, step, State.lost_count (s := s.rankUp c.val r.val) ok' c.isLt keeps (by decide) .., ?_, ?_, ?_,
    State.Keeps.frame (State.lost_keeps (l := lostScope) up keeps (by decide) (by decide) ..) ok (by decide)⟩
  · exact (read ..).trans (State.frameRead_frameWrite_same ..)
  · exact fun m ne => (read ..).trans (State.frameRead_frameWrite_ne _ ne ..)
  · rw [State.occur_tier]
    exact (State.frameWrite_stores ..).2

end Frame

/-- A bittern unit is dropped. -/
theorem patrolScrubRead_drops {u : Nat} (ok : s.regsOk) (serves : s.dmcServes c.val = true) (on : s.flag DMC.PATROL_EN c.val = true) (run : s.frozen = false) (use : a.use = .bittern u)
    (bad : burstDecode b (s.mappedOut c.val r.val sub) false = .tag) (again : burstDecode b' (s.mappedOut c.val r.val sub) false = .tag) :
    ∃ t, exec (.patrolScrubRead c r sub a i (.burst b b')) s = .next t ∧ t.tier = { s.tier with bittern := tdel s.tier.bittern u } ∧
      t.get DMC.UE_CNT c.val = satAdd 32 (s.get DMC.UE_CNT c.val) 1 ∧ s.frame t ([.dmc, .tier] ++ reported) (DMC.UE_CNT :: reportedFields) := by
  have reads : a.use ≠ .command := by rw [use]; exact nofun
  have here : s.dramAt c.val sub a = true := by
    unfold State.dramAt
    rw [use]
  have sound : s.dramPoison a.use = false := by rw [use]; rfl
  have up := s.patrolled_keeps c.val r.val
  have step := exec_patrolScrubRead (r := r) serves on run here i (.burst b b')
  rw [State.dramRead_lost (s := s.patrolled c.val r.val) reads (.inr (sound ▸ bad)) (.inr (sound ▸ again)) (congrArg (State.dramLost _) use)] at step
  have keeps : State.Keeps ⟨[.tier], some []⟩ ((s.patrolled c.val r.val).inc DMC.UE_CNT 1 c.val) (((s.patrolled c.val r.val).inc DMC.UE_CNT 1 c.val).dramLost (.bittern u)).1 :=
    (State.Keeps.refl _ _).upd_tier (by decide)
  exact ⟨_, step, State.occur_tier .., State.lost_count (s := s.patrolled c.val r.val) (up.ok ok) c.isLt keeps (by decide) ..,
    State.Keeps.frame (State.lost_keeps (l := lostScope) up keeps (by decide) (by decide) ..) ok (by decide)⟩

/-- A read that its retry saves counts. -/
theorem dramReadDone_saved (ok : s.regsOk) (serves : s.dmcServes c.val = true) (here : s.dramAt c.val sub a = true) (reads : a.use ≠ .command)
    (bad : burstDecode b (s.mappedOut c.val r.val sub) (s.dramPoison a.use) = .uncorrectable) (saved : burstDecode b' (s.mappedOut c.val r.val sub) (s.dramPoison a.use) = .good) :
    ∃ t, exec (.dramReadDone c r sub a i (.burst b b')) s = .next t ∧ t.get DMC.UE_CNT c.val = satAdd 32 (s.get DMC.UE_CNT c.val) 1 ∧ t.tier = s.tier ∧
      s.frame t [.regs, .dmc] [DMC.UE_CNT] := by
  have up := s.rankUp_keeps c.val r.val
  have step := exec_dramReadDone (r := r) serves here i (.burst b b')
  rw [State.dramRead_retried (s := s.rankUp c.val r.val) reads bad saved] at step
  exact ⟨_, step, State.get_inc_same (up.ok ok) DMC.UE_CNT c.val, rfl, State.Keeps.frame (l := ⟨[.regs, .dmc], some [DMC.UE_CNT]⟩) (State.Keeps.step (State.inc_keeps ..) (up.mono (by decide)) (by decide)) ok (by decide)⟩

/-! A command that fails its parity check. -/

theorem State.dramRead_parityFails (s : State) (c r : Nat) (sub : Bool) (a : DramAddr) (i : Nat) :
    s.dramRead c r sub a i (.parityFail true) = ((s.inc DMC.CAPAR_CNT 1 c).blkErr (dmcPage c) 18 4 (le 1 c)).dmcFail c := rfl

theorem dramReadDone_parity (ok : s.regsOk) (serves : s.dmcServes c.val = true) (here : s.dramAt c.val sub a = true) :
    ∃ t, exec (.dramReadDone c r sub a i (.parityFail false)) s = .next t ∧ t.get DMC.CAPAR_CNT c.val = satAdd 32 (s.get DMC.CAPAR_CNT c.val) 1 ∧ s.frame t [.regs, .dmc] [DMC.CAPAR_CNT] := by
  have up := s.rankUp_keeps c.val r.val
  exact ⟨_, exec_dramReadDone serves here i _, State.get_inc_same (up.ok ok) DMC.CAPAR_CNT c.val,
    State.Keeps.frame (l := ⟨[.regs, .dmc], some [DMC.CAPAR_CNT]⟩) (State.Keeps.step (State.inc_keeps ..) (up.mono (by decide)) (by decide)) ok (by decide)⟩

theorem dramReadDone_parityFails (ok : s.regsOk) (serves : s.dmcServes c.val = true) (here : s.dramAt c.val sub a = true) (decided : s.get DMC.NCHAN ≠ 0) (u : s.unstaged (dmcPage c.val)) :
    ∃ t, exec (.dramReadDone c r sub a i (.parityFail true)) s = .next t ∧ t.get DMC.STATE c.val = dmcFailed ∧ t.get DMC.RATE_NOW c.val = 0 ∧
      t.get DMC.CAPAR_CNT c.val = satAdd 32 (s.get DMC.CAPAR_CNT c.val) 1 ∧ bit (t.rd (dmcPage c.val) HDR.ERR_STAT) 18 = true ∧ s.frame t failParts failFields := by
  have up := s.rankUp_keeps c.val r.val
  have ok' := up.ok ok
  have counted : ((s.rankUp c.val r.val).inc DMC.CAPAR_CNT 1 c.val).regsOk := State.regsOk_put ok' ..
  have same {g : Fld} (j : Nat) (place : g.place 0 < 32768 ∧ g.place 0 ≠ DMC.CAPAR_CNT.place 0) : ((s.rankUp c.val r.val).inc DMC.CAPAR_CNT 1 c.val).get g j = s.get g j :=
    State.get_put_place (f := DMC.CAPAR_CNT) ok' _ c.val j ⟨by decide, place⟩
  have state := same (g := DMC.STATE) c.val (by decide)
  have works : s.get DMC.STATE c.val ≠ dmcFailed := by
    intro failed
    unfold State.dmcServes at serves
    rw [failed] at serves
    exact absurd serves (by decide)
  have channels := same (g := DMC.NCHAN) 0 (by decide)
  have counts := State.get_inc_same ok' DMC.CAPAR_CNT c.val
  have u' : ((s.rankUp c.val r.val).inc DMC.CAPAR_CNT 1 c.val).unstaged (dmcPage c.val) := State.unstaged_of_ctl (s := s) rfl u
  have step := exec_dramReadDone (r := r) serves here i (.parityFail true)
  rw [State.dramRead_parityFails] at step
  have keeps : State.Keeps ⟨failParts, some failFields⟩ s ((s.rankUp c.val r.val).inc DMC.CAPAR_CNT 1 c.val) := State.Keeps.step (State.inc_keeps ..) (up.mono (by decide)) (by decide)
  generalize (s.rankUp c.val r.val).inc DMC.CAPAR_CNT 1 c.val = t at step counted state channels counts u' keeps
  obtain ⟨failed, rate, capar, flag, fails⟩ := State.errorFails counted c.isLt (k := 18) (by decide) (state ▸ works) (channels ▸ decided) u' 4 (le 1 c.val)
  exact ⟨_, step, failed, rate, capar.trans counts, flag, (State.Keeps.step fails keeps (by decide)).frame ok (by decide)⟩

end Clauses
end Sys2Proof.Machine
end

section
/-! SUPPORT. Refresh debts, the refresh-rate indication and power-down of the ranks of a DRAM channel (R293 to R297). -/
namespace Sys2Proof.Machine

/-! ## The debts of a rank -/

section Debts
variable {s : State} {c r : Nat}

theorem State.setDebts_same (d : List Nat) : (s.setDebts c r d).debts c r = d := by
  unfold State.debts State.setDebts
  dsimp only
  split
  next none' => rw [tget_tdel_same, none', Option.getD_none]
  · rw [tget_tset_same, Option.getD_some]

theorem State.setDebts_other {q : Nat} (ne : q ≠ r) (d : List Nat) : (s.setDebts c r d).debts c q = s.debts c q := by
  have apart : rankKey c q ≠ rankKey c r := by
    unfold rankKey
    omega
  unfold State.debts State.setDebts
  dsimp only
  split
  · rw [tget_tdel_ne _ apart]
  · rw [tget_tset_ne _ _ apart]

/-- Whether a debt of a rank, risen by one, reaches the limit (R294). -/
def State.refreshDue (s : State) (c r : Nat) : Bool := (s.debts c r).any fun x => s.get DMC.REF_POSTPONE c ≤ x + 1

/-- The debts of a rank after a tick. -/
def State.debtsTicked (s : State) (c r : Nat) (busy : Nat → Bool) : List Nat :=
  (List.range 4).map fun b => if busy b then (if s.refreshDue c r then s.debts c r else (s.debts c r).map (· + 1)).getD b 0 else 0

theorem State.refreshTick_eq (s : State) (c r : Nat) (busy : Nat → Bool) :
    s.refreshTick c r busy = (if s.refreshDue c r then s.inc DMC.REFAB_CNT 1 c else s).setDebts c r (s.debtsTicked c r busy) := by
  have due : (((s.debts c r).map (· + 1)).any fun x => s.get DMC.REF_POSTPONE c ≤ x) = s.refreshDue c r := List.any_map
  have paid : ((s.debts c r).map (· + 1)).map (· - 1) = s.debts c r :=
    by
    rw [List.map_map]
    exact List.map_id'' (fun x => Nat.add_sub_cancel x 1) _
  unfold State.refreshTick State.debtsTicked
  dsimp only
  rw [due]
  cases s.refreshDue c r
  · rfl
  · simp only [if_true, paid]

theorem State.refreshTick_debts_same (s : State) (c r : Nat) (busy : Nat → Bool) : (s.refreshTick c r busy).debts c r = s.debtsTicked c r busy := by
  rw [State.refreshTick_eq, State.setDebts_same]

theorem State.refreshTick_debts_other {q : Nat} (ne : q ≠ r) (busy : Nat → Bool) : (s.refreshTick c r busy).debts c q = s.debts c q := by
  rw [State.refreshTick_eq, State.setDebts_other ne]
  split <;> rfl

/-- The ranks of a channel below a number, ticked in turn: of each its own debts. -/
def State.ranksTicked (s : State) (c : Nat) (busy : Nat → Nat → Bool) (n : Nat) : State := (List.range n).foldl (fun s r => s.refreshTick c r (busy r)) s

theorem State.ranksTicked_keeps (s : State) (c : Nat) (busy : Nat → Nat → Bool) (n : Nat) : State.Keeps State.refreshTick_scope s (s.ranksTicked c busy n) :=
  State.Keeps.foldl (.refl _ s) fun t r k => State.Keeps.step (State.refreshTick_keeps t c r (busy r)) k (by decide)

theorem State.ranksTicked_succ (s : State) (c : Nat) (busy : Nat → Nat → Bool) (n : Nat) : s.ranksTicked c busy (n + 1) = (s.ranksTicked c busy n).refreshTick c n (busy n) := by
  unfold State.ranksTicked
  rw [List.range_succ, List.foldl_append]
  rfl

theorem State.ranksTicked_limit (ok : s.regsOk) (busy : Nat → Nat → Bool) (n : Nat) : (s.ranksTicked c busy n).get DMC.REF_POSTPONE c = s.get DMC.REF_POSTPONE c :=
  (s.ranksTicked_keeps c busy n).get ok rfl (by decide) (by decide) c

theorem State.ranksTicked_after (s : State) (c : Nat) (busy : Nat → Nat → Bool) {n q : Nat} (after : n ≤ q) : (s.ranksTicked c busy n).debts c q = s.debts c q := by
  induction n with
  | zero => rfl
  | succ n ih => rw [State.ranksTicked_succ, State.refreshTick_debts_other (by omega), ih (by omega)]

theorem State.ranksTicked_debts (ok : s.regsOk) (busy : Nat → Nat → Bool) {n q : Nat} (below : q < n) : (s.ranksTicked c busy n).debts c q = s.debtsTicked c q (busy q) := by
  induction n with
  | zero => exact absurd below (Nat.not_lt_zero q)
  | succ n ih =>
    rw [State.ranksTicked_succ]
    by_cases last : q = n
    · subst last
      rw [State.refreshTick_debts_same]
      unfold State.debtsTicked State.refreshDue
      rw [State.ranksTicked_limit ok, State.ranksTicked_after _ _ _ (Nat.le_refl q)]
    · rw [State.refreshTick_debts_other last, ih (by omega)]

end Debts

section Clauses
variable {s : State} {c : Chan}

theorem exec_trefi2Tick {busy : BitVec 16} (serves : s.dmcServes c.val = true) (u : s.unstaged (dmcPage c.val)) :
    exec (.trefi2Tick c busy) s = .next (s.ranksTicked c.val (fun r b => busy.getLsbD (4 * r + b)) (s.get DMC.RANKS c.val)) := by
  have ctl := (s.ranksTicked_keeps c.val (fun r b => busy.getLsbD (4 * r + b)) (s.get DMC.RANKS c.val)).kept .ctl (by decide)
  have step : exec (.trefi2Tick c busy) s = .next ((s.ranksTicked c.val (fun r b => busy.getLsbD (4 * r + b)) (s.get DMC.RANKS c.val)).safePoint (dmcPage c.val)) := if_neg (by rw [serves]; decide)
  rw [step, State.safePoint_dmc (State.unstaged_of_ctl ctl u)]

/-- A tick raises the debts of each rank, takes one from each where one reaches the limit, and clears those of the idle indexes. -/
theorem trefi2Tick_debts {busy : BitVec 16} (ok : s.regsOk) (serves : s.dmcServes c.val = true) (u : s.unstaged (dmcPage c.val)) :
    ∃ t, exec (.trefi2Tick c busy) s = .next t ∧
      (∀ r, r < s.get DMC.RANKS c.val → s.refreshDue c.val r = false →
        t.debts c.val r = (List.range 4).map fun b => if busy.getLsbD (4 * r + b) then ((s.debts c.val r).map (· + 1)).getD b 0 else 0) ∧
      (∀ r, r < s.get DMC.RANKS c.val → s.refreshDue c.val r = true →
        t.debts c.val r = (List.range 4).map fun b => if busy.getLsbD (4 * r + b) then (s.debts c.val r).getD b 0 else 0) ∧
      s.frame t [.regs, .dmc] [DMC.REFAB_CNT] := by
  refine ⟨_, exec_trefi2Tick serves u, fun r present due => ?_, fun r present due => ?_, (s.ranksTicked_keeps ..).frame ok (by decide)⟩ <;>
  · rw [State.ranksTicked_debts ok _ present]
    unfold State.debtsTicked
    rw [due]
    rfl

/-- An all-bank refresh counts. -/
theorem trefi2Tick_counts {busy : BitVec 16} (ok : s.regsOk) (serves : s.dmcServes c.val = true) (u : s.unstaged (dmcPage c.val)) (one : s.get DMC.RANKS c.val = 1)
    (due : s.refreshDue c.val 0 = true) :
    ∃ t, exec (.trefi2Tick c busy) s = .next t ∧ t.get DMC.REFAB_CNT c.val = satAdd 32 (s.get DMC.REFAB_CNT c.val) 1 ∧ s.frame t [.regs, .dmc] [DMC.REFAB_CNT] := by
  refine ⟨_, exec_trefi2Tick serves u, ?_, (s.ranksTicked_keeps ..).frame ok (by decide)⟩
  rw [one, State.ranksTicked_succ]
  show (s.refreshTick c.val 0 _).get DMC.REFAB_CNT c.val = _
  rw [State.refreshTick_eq, if_pos due]
  exact State.get_inc_same ok DMC.REFAB_CNT c.val

/-! ## The refresh-rate indication -/

variable {r : Fin 4}

/-- The ranks of double rate after the indication of one. -/
def State.ratesPolled (s : State) (c r : Nat) (x2 : Bool) : List Nat :=
  if x2 then s.dmc.x2Ranks.filter (· != rankKey c r) ++ [rankKey c r] else s.dmc.x2Ranks.filter (· != rankKey c r)

theorem refreshRatePoll_follows {x2 : Bool} (ok : s.regsOk) (serves : s.dmcServes c.val = true) (present : r.val < s.get DMC.RANKS c.val) :
    ∃ t, exec (.refreshRatePoll c r x2 false) s = .next t ∧ t.dmc.x2Ranks = s.ratesPolled c.val r.val x2 ∧
      t.flag DMC.REF_X2 c.val = ((s.ratesPolled c.val r.val x2).any fun j => j / 4 == c.val) ∧ s.frame t [.regs, .dmc] [DMC.REF_X2] := by
  let u : State := { s with dmc.x2Ranks := s.ratesPolled c.val r.val x2 }
  have step : exec (.refreshRatePoll c r x2 false) s = .next (u.put DMC.REF_X2 (b2n ((s.ratesPolled c.val r.val x2).any fun j => j / 4 == c.val)) c.val) :=
    if_neg (by rw [serves, decide_eq_false (Nat.not_le_of_lt present)]; decide)
  refine ⟨_, step, rfl, ?_, State.Keeps.frame (l := ⟨[.regs, .dmc], some [DMC.REF_X2]⟩) (((State.Keeps.refl _ s).upd_dmc (by decide)).put DMC.REF_X2 _ _ _ (by decide)) ok (by decide)⟩
  unfold State.flag
  rw [State.get_put_fit (s := u) ok _ _ _ (by unfold b2n; split <;> decide)]
  cases (s.ratesPolled c.val r.val x2).any fun j => j / 4 == c.val <;> rfl

theorem rankKey_chan (c : Chan) (r : Fin 4) : rankKey c.val r.val / 4 = c.val := by
  have := r.isLt
  unfold rankKey
  omega

/-- An indicated rank refreshes at double rate, and REF_X2 shows it. -/
theorem refreshRatePoll_doubles (ok : s.regsOk) (serves : s.dmcServes c.val = true) (present : r.val < s.get DMC.RANKS c.val) :
    ∃ t, exec (.refreshRatePoll c r true false) s = .next t ∧ t.dmc.x2Ranks.contains (rankKey c.val r.val) = true ∧ t.flag DMC.REF_X2 c.val = true ∧ s.frame t [.regs, .dmc] [DMC.REF_X2] := by
  obtain ⟨t, step, ranks, shows', frame⟩ := refreshRatePoll_follows (r := r) (x2 := true) ok serves present
  have last : rankKey c.val r.val ∈ s.ratesPolled c.val r.val true := List.mem_append_right _ (List.mem_singleton_self _)
  refine ⟨t, step, ?_, ?_, frame⟩
  · rw [ranks]
    exact List.contains_iff_mem.mpr last
  · rw [shows']
    exact List.any_eq_true.mpr ⟨_, last, beq_iff_eq.mpr (rankKey_chan c r)⟩

/-- The indication gone from the last rank of a channel, REF_X2 is 0. -/
theorem refreshRatePoll_single (ok : s.regsOk) (serves : s.dmcServes c.val = true) (present : r.val < s.get DMC.RANKS c.val)
    (alone : ∀ k ∈ s.dmc.x2Ranks, k / 4 = c.val → k = rankKey c.val r.val) :
    ∃ t, exec (.refreshRatePoll c r false false) s = .next t ∧ t.dmc.x2Ranks.contains (rankKey c.val r.val) = false ∧ t.flag DMC.REF_X2 c.val = false ∧ s.frame t [.regs, .dmc] [DMC.REF_X2] := by
  obtain ⟨t, step, ranks, shows', frame⟩ := refreshRatePoll_follows (r := r) (x2 := false) ok serves present
  have left (k : Nat) (hk : k ∈ s.ratesPolled c.val r.val false) : k ∈ s.dmc.x2Ranks ∧ k ≠ rankKey c.val r.val := by
    obtain ⟨mem, ne⟩ := List.mem_filter.mp hk
    exact ⟨mem, bne_iff_ne.mp ne⟩
  refine ⟨t, step, ?_, ?_, frame⟩
  · rw [ranks, Bool.eq_false_iff]
    exact fun within => (left _ (List.contains_iff_mem.mp within)).2 rfl
  · rw [shows', List.any_eq_false]
    intro k hk chan
    obtain ⟨mem, ne⟩ := left k hk
    exact ne (alone k mem (beq_iff_eq.mp chan))

/-! ## Power-down -/

/-- A rank that no request has reached for PD_IDLE cycles powers down while its channel has no urgent one. -/
theorem rankPowerDown_enters (serves : s.dmcServes c.val = true) (on : s.flag DMC.PD_EN c.val = true) (run : s.frozen = false) (present : r.val < s.get DMC.RANKS c.val)
    (calm : s.chanUrgency c.val = 0) (awake : s.dmc.pdRanks.contains (rankKey c.val r.val) = false)
    (idle : ∀ x, tget s.dmc.asked (rankKey c.val r.val) = some x → x + s.dmcCycles c.val (s.get DMC.PD_IDLE c.val) ≤ s.timeNs) :
    ∃ t, exec (.rankPowerDown c r) s = .next t ∧ t.dmc = { s.dmc with pdRanks := s.dmc.pdRanks ++ [rankKey c.val r.val] } ∧ s.keptBut t [.dmc] := by
  have step : exec (.rankPowerDown c r) s = .next { s with dmc.pdRanks := s.dmc.pdRanks ++ [rankKey c.val r.val] } := by
    refine if_pos ?_
    cases asked : tget s.dmc.asked (rankKey c.val r.val) with
    | none => simp only [serves, on, run, calm, awake, decide_eq_true present, Bool.not_false, Bool.and_self, decide_true]
    | some x => simp only [serves, on, run, calm, awake, decide_eq_true present, decide_eq_true (idle x asked), Bool.not_false, Bool.and_self, decide_true]
  exact ⟨_, step, rfl, ((State.Keeps.refl ⟨[.dmc], some []⟩ s).upd_dmc (by decide)).kept⟩

end Clauses
end Sys2Proof.Machine
end

section
namespace Sys2Proof.Machine

/-- Settles O18: the code of a burst, what its decodes make of a read, parity failures, patrol scrub, refresh debts, the refresh-rate indication and power-down, one lemma per clause. -/
theorem dramReadsAndRefresh : Obligations.DramReadsAndRefresh := by
  unfold Obligations.DramReadsAndRefresh
  refine ⟨?one, ?two, ?good, ?counts, ?mapsOut, ?rewrites, ?discards, ?refills, ?poisons, ?drops, ?saved, ?parity, ?fails, ?ecs, ?debts, ?allBank, ?doubles, ?single, ?powersDown⟩
  case one => exact fun b d => burstDecode_one
  case two => exact fun b d e p => burstDecode_two p
  case good => exact fun s c r sub a i b b' => dramReadDone_good
  case counts =>
    intro s c r sub a i d f p b b' ok serves on run here reads corrected other below
    exact patrolScrubRead_counts ok serves on run here reads corrected other (State.hourly_length ▸ below)
  case mapsOut =>
    intro s c r sub a i d f p b b' ok serves here reads hd corrected none' limit
    exact dramReadDone_mapsOut ok serves here reads hd corrected none' (State.hourly_length ▸ limit)
  case rewrites => exact fun s c r sub a i d f n p b b' => dramReadDone_rewrites
  case discards => exact fun s c r sub a i d f n x p b b' => dramReadDone_discards
  case refills => exact fun s c r sub a i n b b' k x => dramReadDone_refills
  case poisons => exact fun s c r sub a i n b b' k x => dramReadDone_poisons
  case drops => exact fun s c r sub a i u b b' => patrolScrubRead_drops
  case saved => exact fun s c r sub a i b b' => dramReadDone_saved
  case parity => exact fun s c r sub a i => dramReadDone_parity
  case fails => exact fun s c r sub a i => dramReadDone_parityFails
  case ecs => exact fun s c r sub d n => ⟨_, rfl, rfl, State.misc_frame ..⟩
  case debts => exact fun s c busy => trefi2Tick_debts
  case allBank => exact fun s c busy => trefi2Tick_counts
  case doubles => exact fun s c r => refreshRatePoll_doubles
  case single => exact fun s c r => refreshRatePoll_single
  case powersDown => exact fun s c r => rankPowerDown_enters

end Sys2Proof.Machine
end
